-- ==== Sys2Proof/Word.lean ====
section
/-! DEFINITION. The word types that the spec treats as bits: bytes, 16-, 32- and 64-bit words. -/

namespace Sys2Proof

/-- One byte. -/
abbrev Byte := BitVec 8
/-- A 16-bit word. -/
abbrev W16 := BitVec 16
/-- A 32-bit word: registers of the control space. -/
abbrev W32 := BitVec 32
/-- A 64-bit word: map entries, descriptors and counters. -/
abbrev W64 := BitVec 64

end Sys2Proof
end

