-- ==== Sys2Proof/Syntax.lean ====
section
/-! DEFINITION. The commands that the device takes from outside: one constructor of Instr for each row of
spec/opcode_table.json, in the table's order, with the operands that the row's rules name. -/

namespace Sys2Proof

/-- The outcome of a PMBus transaction (R383). -/
inductive PmbResult | ok | failed | late
  deriving DecidableEq, Repr

/-- Why a core is locked up (R435). -/
inductive LockCause | noRetire | doubleTrap | fetchUncorrectable
  deriving DecidableEq, Repr

/-- A reset request's origin: the control complex (RST_REQ) or the dictionary (0x2A10.08) give level and block; the wrapper
of a level-1 block either drains within WRAPTO or does not (R392). -/
structure ResetArg where
  level : BitVec 8
  block : BitVec 8
  drains : Bool
  deriving DecidableEq, Repr

/-- A packet that reaches a pipeline (R133): what its checks and its headers hold. Multi-byte header fields are numbers,
the payload is bytes. -/
structure Packet where
  /-- Ethernet FCS, IP header checksum and IP version are right. -/
  fcsOk : Bool
  /-- UDP destination port 4791 and BTH TVer 0. -/
  roce : Bool
  icrcOk : Bool
  opcode : Nat
  dqp : Nat
  pkey : Nat
  /-- The IP header carries CE. -/
  ce : Bool
  psn : Nat
  ackReq : Bool
  srcIp : Nat
  srcMac : Nat
  vid : Nat
  /-- RETH, or the atomic header's address and key. -/
  va : Nat
  rkey : Nat
  len : Nat
  swapAdd : Nat
  compare : Nat
  imm : Nat
  payload : List Nat
  /-- The frame: destination MAC, IP version 6, destination address, one 802.1Q tag (its VID is `vid`), length in bytes, and the
  codewords that its FEC corrected (R119, R148). -/
  dstMac : Nat := 0
  ip6 : Bool := false
  dstIp : Nat := 0
  tagged : Bool := false
  frame : Nat := 0
  fecCorr : Nat := 0
  deriving DecidableEq, Repr

/-- HELLO (Table 6.7). -/
structure Hello where
  side : Nat
  level : Nat
  soloPref : Nat
  hbbEn : Bool
  blank : Bool
  lastState : Nat
  role : Nat
  wmin : Nat
  pairId : Nat
  pgen : Nat
  part : Nat
  pext : Nat
  dgroups : Nat
  sealSeq : Nat
  pendPages : Nat
  logExtents : Nat
  deriving DecidableEq, Repr

/-- The messages of the Visil link (Table 6.6, Table 6.7). Page masks are 512-bit numbers, bit n for page n; a poison map
is a 64-bit number; `words` are the 64-bit words of the slots after the header. -/
inductive Msg
  | mirror (tag epoch spage off : Nat) (async : Bool) (data : List Nat)
  | forward (tag spage off : Nat) (data : List Nat)
  | fwdAtomic (tag spage line word : Nat) (fadd : Bool) (arg swap : Nat)
  | ordered (tag epoch spage result : Nat) (atomic : Option (Nat × Nat))
  | placed (tag epoch spage status : Nat)
  | move (tag extent kind pages : Nat)
  | moveReq (tag extent kind pages : Nat)
  | tread (tag spage line : Nat)
  | treadData (tag epoch spage line : Nat) (data : List Nat)
  | treadFail (tag spage line cause : Nat)
  | moveDone (tag extent kind result : Nat)
  | pagePull (tag spage : Nat)
  | resyncPage (tag epoch spage : Nat) (zero fence : Bool) (poison : Nat) (data : List Nat)
  | hello (tag : Nat) (h : Hello)
  | helloAnswer (tag decision reason level pairId pgen : Nat)
  | pendList (tag : Nat) (last : Bool) (pages : List Nat)
  | state (tag step pgen : Nat)
  | depart (tag cause : Nat)
  | mapop (tag op index extent count : Nat) (words : List Nat)
  | mapopDone (tag result index rkey : Nat)
  | dict (tag : Nat) (frame : List Nat)
  | dictRsp (tag : Nat) (frame : List Nat)
  | recon (tag epoch spage round check : Nat)
  | reconEnd (tag entries round : Nat)
  deriving DecidableEq, Repr


/-- What reading a codeword of store flash finds (R342, R355, R356): read retries that it needs (5: none suffices), whether
other members of the stripe fail too (a mask of channels), the bits corrected, and at each TLC level 1 to 7 the corrected bits read as the state
above and below. -/
structure CwRead where
  retries : Nat
  failing : Nat
  corr : Nat
  above : List Nat
  below : List Nat
  deriving DecidableEq, Repr

/-- Who reads a line of tier D (Table 10.6). -/
inductive LineReader | place | context | cleaning | save | tread | table | groom
  deriving DecidableEq, Repr

/-- The errors of a line read: symbols in error by device 0 to 9 (R313). -/
abbrev LineErr := List (Nat × Nat)

/-- The commands: one constructor per row of spec/opcode_table.json. -/
inductive Instr
  /-- POWER_ON_RESET (R388): The always-on supply qualifies above 97 % for 10 ms, and the device takes a level-5 reset out of OFF into STANDBY. -/
  | powerOnReset (floorLost : Bool)
  /-- PWR_BTN_PRESS (R375): A low pulse on PWR_BTN_N of at least BTNMIN is an on request or an off request, depending on the device state. -/
  | pwrBtnPress (ms : Nat)
  /-- ON_REQUEST_CMD (R376): Dictionary command 0x2A01.02 makes an on request, which is latched in SAVING, SAVED and FALLING. -/
  | onRequestCmd
  /-- OFF_REQUEST_CMD (R376): Dictionary command 0x2A01.01 makes an off request, handled by state as Table 12.3 gives. -/
  | offRequestCmd
  /-- EARLY_POWER_FAIL_WARNING (R378): The warning qualifies on PWR_EPF_N or a low input bus, and the device holds writers and enters SAVING or FALLING. -/
  | earlyPowerFailWarning (pin : Bool) (mv : Nat)
  /-- INPUT_POWER_QUALIFIED (R20): The warning and any input-bus brown-out end, and a SAVED device whose save was started by power loss starts the falling table. -/
  | inputPowerQualified
  /-- BROWN_OUT (R381): The input bus below VINBO, or a LOSSACT rail lost, acts as a warning and as a level-5 reset request without an on latch. -/
  | brownOut (rail : Option (Fin 24)) (reading : Nat)
  /-- INPUT_COLLAPSE (R382): The always-on supply falls below 94 %, keeper writes are abandoned, and the device goes to OFF at once without a save. -/
  | inputCollapse
  /-- MAIN_SHAFT_LOSS (R397): LOCKLOSS or SHAFTLOSS with a qualified reference takes a level-5 reset at once, with no save and an on request latched. -/
  | mainShaftLoss (lockloss shaftloss : Bool)
  /-- CLOCK_FAILURE (R396): On REFLOSS, CLK enters holdover, and a reset of the fused level follows, or a relock occurs while SAVING. -/
  | clockFailure
  /-- REFWAIT_EXPIRY (R396): The reference has not requalified within REFWAIT, and the main shaft locks to the backup-derived reference. -/
  | refwaitExpiry
  /-- MAIN_SHAFT_LOCK (R408): The main shaft chooses its source, locks, releases its dividers in order and sets LOCKED. -/
  | mainShaftLock (ref : Bool) (us : Nat)
  /-- RISING_TABLE_END (R20): The rising table reaches END, and the device moves to FILLING or RESTORING by its reset history. -/
  | risingTableEnd
  /-- FALLING_TABLE_END (R20): The falling table reaches END, and the device enters STANDBY, then RISING if an on request is latched. -/
  | fallingTableEnd
  /-- SEQ_ENABLE (R370): A rising ENABLE step asserts PWR_EN and waits for a qualified good. -/
  | seqEnable
  /-- RAIL_GOOD_CHANGE (R368): The filtered level of a rail's good input changes, which counts crossings and can qualify or lose the rail. -/
  | railGoodChange (r : Fin 24) (high : Bool)
  /-- RAIL_GOOD_QUALIFIED (R368): A good input stays high for STAB × 10 µs, which ends an ENABLE step or clears LOST. -/
  | railGoodQualified (r : Fin 24)
  /-- ENABLE_TIMEOUT (R370): An ENABLE step passes TIME without a qualified good, flags TIMEOUT, and falls from MIRROR if HARD. -/
  | enableTimeout
  /-- SEQ_DISABLE (R371): A falling DISABLE step deasserts an enabled rail and waits for a filtered low. -/
  | seqDisable
  /-- DISABLE_TIMEOUT (R371): A DISABLE step passes TIME, flags TIMEOUT with a snapshot, and the fall goes on. -/
  | disableTimeout
  /-- SEQ_WAIT (R369): A WAIT step starts its timer. -/
  | seqWait
  /-- SEQ_WAIT_EXPIRY (R369): A WAIT step's time ends, and the next step follows. -/
  | seqWaitExpiry
  /-- SEQ_PMBUS (R369): A PMBUS step sends its script entry with PEC, or ends at once for ADDR 0. -/
  | seqPmbus
  /-- PMBUS_TRANSACTION_DONE (R383): A PMBus transaction completes, fails or outlasts its time, and failures raise 0x3CE0. -/
  | pmbusTransactionDone (res : PmbResult)
  /-- SEQ_RSTREL (R398): An RSTREL step waits for the output's stretch and then releases the reset output. -/
  | seqRstrel
  /-- RESET_OUTPUT_STRETCH_END (R398): A reset output's STRETCH after reset end passes, and an AUTO output or a waiting RSTREL releases it. -/
  | resetOutputStretchEnd (o : Fin 4)
  /-- SEQ_RSTASSERT (R369): A falling RSTASSERT step asserts a reset output. -/
  | seqRstassert
  /-- SEQ_CHARGER (R379): A CHARGER step drives PWR_ES_CHGEN to its ARG. -/
  | seqCharger
  /-- SEQ_TABLE_COMMIT (R374): A commit of the rising and falling tables is checked whole and takes force when the sequencer is idle. -/
  | seqTableCommit
  /-- PMBUS_TELEMETRY_POLL (R384): Every 1 ms PWR reads VOUT and IOUT of each telemetry rail and sums chip power. -/
  | pmbusTelemetryPoll (reads : List (Option Nat × Option Nat))
  /-- POWER_CAP_MEASUREMENT (R32): Every 1 ms GAI compares chip power with PWRCAP and applies or undoes one reduction step. -/
  | powerCapMeasurement (protectedW : Nat)
  /-- MARGIN_APPLY (R385): The keeper's margin command writes OPERATION to a rail's regulator for low, high or nominal. -/
  | marginApply
  /-- MODULE_FAILED (R254): An energy-store module steps by more than STEPDV or reads out of range, and GOV recomputes C and L within 20 µs. -/
  | moduleFailed (m : Fin 8) (reading : Nat)
  /-- CAPACITANCE_TEST_START (R252): A periodic, restore-time or back-in-range test disables the charger and bleeds one module for TESTMS. -/
  | capacitanceTestStart (m : Fin 8)
  /-- CAPACITANCE_TEST_CMD (R252): Dictionary command 0x2611.02 starts a capacitance test of module m. -/
  | capacitanceTestCmd (arg : Nat)
  /-- CAPACITANCE_TEST_END (R252): TESTMS passes, and PWR computes CMEAS from V0 and V1 and may end FAILED. -/
  | capacitanceTestEnd (v0 v1 : Nat)
  /-- PIN_RESET (R388): RST_N is held low for 25 backup cycles and qualifies a reset of its fused level. -/
  | pinReset
  /-- SOFTWARE_RESET_REQUEST (R389): RST_REQ.GO or command 0x2A10.08 requests a reset of a level, checked against the fused ceiling. -/
  | softwareResetRequest (a : ResetArg) (cmd : Bool)
  /-- DEBUG_RESET_REQUEST (R388): The debug module requests a reset, checked against the fused ceiling. -/
  | debugResetRequest (a : ResetArg)
  /-- WRAPPER_DRAIN_TIMEOUT (R392): A block has not drained within WRAPTO, and its wrapper forces the remaining completions to errors. -/
  | wrapperDrainTimeout (block : Fin 58) (forced : Nat)
  /-- WATCHDOG_KICK (R434): A write of CPX_WDKICK restarts a core's watchdog. -/
  | watchdogKick (cores : Nat)
  /-- WATCHDOG_HALF_TIME (R434): A watchdog reaches WDTIME / 2 and asserts interrupt source 39. -/
  | watchdogHalfTime (core : Fin 4)
  /-- WATCHDOG_EXPIRY (R434): A watchdog reaches WDTIME and fires the watchdog reset source. -/
  | watchdogExpiry (core : Fin 4)
  /-- LOCKUP (R435): A core retires nothing for LOCKTIME, double-traps, or fetches an uncorrectable word, and fires the lock-up reset. -/
  | lockup (core : Fin 4) (cause : LockCause) (pc : Nat)
  /-- GAIT_REQUEST (R28): A write of 0x1100.03 or GAI_REQ.GO requests a gait, which is applied, latched, or refused outside SERVING. -/
  | gaitRequest (g : Fin 6)
  /-- QUIET_POINT_TAKE (R60): A block reaches its quiet point and takes its pending QUIET shadows and gait row into force. -/
  | quietPointTake (block : Fin 58)
  /-- QUIET_BOUND_EXPIRY (R62): A shadow waits past its block's QUIET bound, which sets QUIETLATE and raises 0x08A0. -/
  | quietBoundExpiry (block : Fin 58)
  /-- GAI_ROW_WORD3_WRITE (R36): A write of word 3 of GAI_ROW offers the held row to the edit shadow under R26 and R27. -/
  | gaiRowWord3Write (g : Fin 6) (v : Nat)
  /-- GAIT_EDIT_FIELD_WRITE (R26): A dictionary write of one edit-shadow field is checked against that field's own limits. -/
  | gaitEditFieldWrite (sess : Nat) (g : Fin 6) (k : Fin 10) (v : Nat)
  /-- GAIT_TABLE_COMMIT (R31): Command 0x1100.08 or GAI_SHADOW.COMMIT offers every edit-shadow row and applies the current gait's row if it changed. -/
  | gaitTableCommit (sess : Option Nat)
  /-- GAIT_LOAD_DEFAULTS (R34): Command 0x1100.09 or GAI_SHADOW.LOADDEF loads the vendor default rows into the edit shadow. -/
  | gaitLoadDefaults (sess : Option Nat)
  /-- AIDRIC_OPEN (R49): An OPEN frame allots a session and draws ND, or is answered SESSION. -/
  | aidricOpen (path : Fin 4) (src : Nat) (frame : List Nat)
  /-- AIDRIC_PROVE (R49): A PROVE frame is checked, and the session opens with ACCEPT or is freed. -/
  | aidricProve (path : Fin 4) (src : Nat) (frame : List Nat)
  /-- AIDRIC_READ (R45): A READ frame's items are answered in order, from a bank-1 snapshot when SNAP is set. -/
  | aidricRead (path : Fin 4) (src : Nat) (frame : List Nat)
  /-- AIDRIC_WRITE (R46): A WRITE frame applies its items one by one, or all-or-nothing with ALL. -/
  | aidricWrite (path : Fin 4) (src : Nat) (frame : List Nat)
  /-- AIDRIC_KEEPALIVE (R53): A KEEPALIVE frame renews the session's idle timer. -/
  | aidricKeepalive (path : Fin 4) (src : Nat) (frame : List Nat)
  /-- AIDRIC_CLOSE (R53): A CLOSE frame ends the session, discarding its edit shadows and filters. -/
  | aidricClose (path : Fin 4) (src : Nat) (frame : List Nat)
  /-- HALF_OPEN_EXPIRY (R49): A half-open session gets no PROVE within 100 ms and expires. -/
  | halfOpenExpiry (session : Option Nat)
  /-- SESSION_IDLE_TIMEOUT (R53): A session receives no valid frame within its idle timeout and ends. -/
  | sessionIdleTimeout (session : Nat)
  /-- PATH_LOCKOUT_END (R50): The 1 s lockout of a path after four failed PROVEs ends. -/
  | pathLockoutEnd (path : Fin 5)
  /-- DIC_HANDLER_ANSWER (R76): Writing DIC_HANS.GO answers the oldest handler item and shows the next. -/
  | dicHandlerAnswer (status : BitVec 8) (len : BitVec 11)
  /-- HANDLER_ITEM_TIMEOUT (R76): A handler item gets no answer within 1 ms and is answered UNAVAILABLE. -/
  | handlerItemTimeout
  /-- DIC_EXT_LOAD (R75): DIC_EXTLOAD.GO loads COUNT extension descriptors, installing or refusing each. -/
  | dicExtLoad
  /-- DIC_EXT_CLEAR (R74): DIC_EXTLOAD.CLEAR removes every extension entry between frames. -/
  | dicExtClear
  /-- DIC_SNAPSHOT (R68): DIC_SNAPCTL.GO snapshots every block into holding bank 0 in one fabric cycle. -/
  | dicSnapshot
  /-- BLOCK_SNAPSHOT (R68): <P>_BLKCTRL.SNAP snapshots one block into bank 0 and raises SNAPGEN. -/
  | blockSnapshot (block : Fin 58)
  /-- DEVICE_SNAPSHOT_CMD (R68): Command 0x2020.01 takes a device snapshot into bank 1. -/
  | deviceSnapshotCmd
  /-- BLOCK_GO_WRITE (R59): A write of <P>_BLKCTRL.GO starts a block after its start checks, or stops it after draining, refused for main-road blocks in SERVING. -/
  | blockGoWrite (block : Fin 58) (go : Bool)
  /-- GROUP_COMMIT (R63): <P>_BLKCTRL.GRPCOMMIT releases written apply groups to the block's quiet point. -/
  | groupCommit (block : Fin 58)
  /-- CONTROL_SPACE_WRITE (R60): A write to a register field with no row of its own takes effect by its apply class, or is refused or faulted. -/
  | controlSpaceWrite (core : Fin 4) (addr : Nat) (v : BitVec 32)
  /-- BIT_ALIAS_WRITE (R65): A write to a gate-page bit alias sets one bit under the class of its field. -/
  | bitAliasWrite (core : Fin 4) (block : Fin 128) (off : Fin 4096) (b : Fin 8) (v : Bool)
  /-- CONFIG_SWEEP (R69): Every 0.5 ms each block recomputes its configuration CRC and compares it with a non-zero reference. -/
  | configSweep
  /-- CONFIG_COMMIT (R70): Command 0x2010.01 copies each block's CFGCRC into its CFGREF. -/
  | configCommit
  /-- CFGREF_WRITE (R70): A keeper writes one block's reference through 0x2011. -/
  | cfgrefWrite (block : Fin 58) (ref : BitVec 32)
  /-- PCIE_DOORBELL (R48): A DOORBELL write in BAR2 sends the REQBUF frame to DIC as path 2. -/
  | pcieDoorbell (frame : List Nat)
  /-- PCIE_NTFTAKEN (R48): A host write of NTFTAKEN clears NOTIFY_READY after it has read NTFBUF. -/
  | pcieNtftaken
  /-- PCIE_PERST (R78): PCIE_PERST_N asserted holds PCI in reset, ends path-2 sessions and takes tier H DOWN. -/
  | pciePerst (asserted : Bool)
  /-- PCIE_POWER_STATE_CHANGE (R78): The host moves the function between D0 and D3hot, which gates doorbells and tier H requests. -/
  | pciePowerStateChange (d3hot : Bool)
  /-- MGT_ARP_NS_ECHO (R77): MGT answers ARP, Neighbor Solicitation and echo requests for its addresses, rate-limited. -/
  | mgtArpNsEcho (kind : Fin 4) (addr src : Nat) (vlan : Option Nat)
  /-- MDIO_TRANSACTION (R77): MGT_MDIO.GO runs one clause-22 MDIO transaction to the PHY. -/
  | mdioTransaction (write : Bool) (phy reg : BitVec 5) (data rdata : BitVec 16)
  /-- MCTP_CONTROL_MESSAGE (R77): MGT answers Set Endpoint ID, Get Endpoint ID, Get MCTP Version Support and Get Message Type Support. -/
  | mctpControlMessage (tag : BitVec 5) (cmd : BitVec 8) (data : List Nat)
  /-- REGISTER_REGION_CMD (R84): Command 0x2110.09 registers a region from the parameters, as a pair operation at the lead side. -/
  | registerRegionCmd (sess : Nat)
  /-- DEREGISTER_CMD (R87): Command 0x2111.01 sets the rkey's region DRAINING, or is refused with reason 8. -/
  | deregisterCmd (sess rkey : Nat)
  /-- DEALLOCATE_CMD (R91): Command 0x2111.04 returns a range of extents to UNALLOCATED unless a region covers it. -/
  | deallocateCmd (sess : Nat)
  /-- REGION_DRAIN_COMPLETE (R87): A DRAINING region's in-flight count reaches 0, so it becomes FREE and joins the free list. -/
  | regionDrainComplete (i : Fin 16384)
  /-- TRN_UPDATE (R107): An update-port write applies one map entry to every cached copy and posts it to the hopper. -/
  | trnUpdate
  /-- TRN_UPDATE_COMPLETE (R108): Every request that translated with the old value has left Place, and TRN reports the update complete. -/
  | trnUpdateComplete
  /-- HOPPER_DEADLINE (R109): A hopper line reaches DEADLINE after its first write and is posted to DRAM. -/
  | hopperDeadline
  /-- TRN_INVAL_L1 (R111): TRN_INVAL.L1 clears the first levels of the ports in PORTS. -/
  | trnInvalL1
  /-- TRN_INVAL_L2 (R111): TRN_INVAL.L2 clears every second-level valid bit within 2 µs. -/
  | trnInvalL2
  /-- SECOND_LEVEL_FILL_RETURN (R110): A second-level fill returns and is installed, or discarded and reissued when stale. -/
  | secondLevelFillReturn (e : Nat)
  /-- TRN_AGE_TICK (R105): Every PERIOD, each second-level tag's age rises by 1 unless FREEZE is set. -/
  | trnAgeTick
  /-- PACKET_RECEIVE (R133): Parse takes a RoCEv2 packet through the receive checks, the PSN window and context lookup. -/
  | packetReceive (lport : Nat) (k : Packet)
  /-- CONTEXT_FETCH_DONE (R126): A context fetch returns, and the held packets of its QP leave the miss buffer in order. -/
  | contextFetchDone (i : Nat)
  /-- CONTEXT_FETCH_TIMEOUT (R126): A tier H fetch fails or passes HTIMEOUT, so the head packet is dropped and DRAMFB set under LOC 2. -/
  | contextFetchTimeout (i : Nat) (byError : Bool)
  /-- CNP_LIST_FETCH_DONE (R130): A low-priority fetch for a CNP-list entry returns and the CNP is sent. -/
  | cnpListFetchDone (p : Fin 4) (i : Nat)
  /-- CNP_LIST_ENTRY_TIMEOUT (R130): A CNP-list entry waits over 50 µs and is abandoned. -/
  | cnpListEntryTimeout (p : Fin 4) (i : Nat)
  /-- LPORT_MOVE (R131): Every request of a QP on its old port has left Answer, so LPORT, RMAC and VID move to the arrival port. -/
  | lportMove (i : Nat)
  /-- ADMIT (R141): Admit passes a request once a rein, governor tokens and quota room are available. -/
  | admitRequest (id : Nat)
  /-- TRANSLATE (R83): Translate checks the access and resolves the extent through the first level, the second level or the extent map. -/
  | translateRequest (id : Nat)
  /-- PLACE (R158): Place accesses the line, parks on a miss, or places the write and sends a mirror or forward. -/
  | placeRequest (id : Nat)
  /-- LINE_READ_DONE (R314): A DRC line read completes through the decoder with one of the outcomes of Table 10.5. -/
  | lineReadDone (l : Nat) (err : LineErr) (reader : LineReader)
  /-- ANSWER (R155): Answer emits a QP's responses in PSN order once the response conditions hold. -/
  | answerQp (i : Nat)
  /-- ACK_COALESCE_DELAY (R138): DELAY passes since the oldest unacknowledged completion, and Answer sends the ACK. -/
  | ackCoalesceDelay (i : Nat)
  /-- REIN_LOOP_TICK (R140): Every 10 µs the rein loop halves, raises or keeps WIN. -/
  | reinLoopTick (p : Fin 4) (share : Nat)
  /-- LINK_UP (R117): A logical port's link comes up. -/
  | linkUp (l : Fin 16)
  /-- LINK_DOWN (R117): A logical port's link drops for loss of signal, FEC or remote fault. -/
  | linkDown (l : Fin 16) (cause : Fin 3)
  /-- PORT_RELINK_CMD (R486): Command 0x2202.01 takes a used logical port down and retrains it with the row's lanes. -/
  | portRelinkCmd (l : Nat)
  /-- PRT_RELINK_WRITE (R486): A PRT_RELINK write relinks each set sub-port that the mode uses. -/
  | prtRelinkWrite (p : Fin 4) (sub : BitVec 4)
  /-- PRT_ARP_NS_ECHO (R119): PRT answers ARP, Neighbor Solicitation and echo requests for its addresses. -/
  | prtArpNsEcho (l : Fin 16) (kind : Fin 4) (addr src : Nat)
  /-- PFC_PAUSE_RECEIVED (R120): A pause frame on an RXEN priority pauses that priority. -/
  | pfcPauseReceived (l : Fin 16) (prio : Fin 8) (pause : Bool)
  /-- FEC_ALARM (R148): Uncorrectable codewords in 1 ms reach FECTH, which sets FECALARM and raises 0x0C40. -/
  | fecAlarm (l : Fin 16) (n : Nat)
  /-- REQUESTER_ACK_RECEIVED (R145): An advancing acknowledgement resets a requester QP's wait and retry count. -/
  | requesterAckReceived (i : Fin 16384) (psn : Nat) (data : List Nat)
  /-- REQUESTER_TIMEOUT (R145): The requester timer expires, the QP resends and doubles the wait, or enters ERROR after RETRY. -/
  | requesterTimeout (i : Fin 16384)
  /-- REQUESTER_NAK_RECEIVED (R146): A sequence-error NAK causes a resend, and a fatal NAK moves the requester QP to ERROR. -/
  | requesterNakReceived (i : Fin 16384) (psn syndrome : Nat)
  /-- REQUESTER_RNR_NAK (R146): An RNR NAK makes the requester wait its timer code, counted against RNRRETRY. -/
  | requesterRnrNak (i : Fin 16384)
  /-- REQUESTER_RNR_WAIT_END (R146): The RNR wait ends and the requester resends. -/
  | requesterRnrWaitEnd (i : Fin 16384)
  /-- REQUESTER_CNP (R144): A CNP cuts a requester QP's rate, at most once per NPINTV. -/
  | requesterCnp (i : Fin 16384)
  /-- REQUESTER_RATE_RISE (R144): A RAIPER passes with no CNP, and the rate rises by RAI. -/
  | requesterRateRise (i : Fin 16384)
  /-- XPT_QP_WRITE (R149): XPT_QPUPD OP 0 writes QPDATA into a context unless it is serving or invalid. -/
  | xptQpWrite (p : Fin 4)
  /-- XPT_QP_READ (R149): XPT_QPUPD OP 1 reads a context into QPDATA. -/
  | xptQpRead (p : Fin 4)
  /-- XPT_QP_TO_ERROR (R149): XPT_QPUPD OP 2 moves a QP to ERROR. -/
  | xptQpToError (p : Fin 4)
  /-- XPT_QP_WRITEBACK_EVICT (R149): XPT_QPUPD OP 3 writes a context back and evicts it. -/
  | xptQpWritebackEvict (p : Fin 4)
  /-- QP_INSPECT_TO_ERROR_CMD (R150): Command 0x2230.0A moves the inspected QP to ERROR. -/
  | qpInspectToErrorCmd (session : Nat)
  /-- FLIT_RECEIVED (R185): A Visil DATA, IDLE or CTRL flit arrives, is CRC-checked and accepted in sequence, and its messages are consumed. -/
  | flitReceived (bytes : List (BitVec 8))
  /-- REPLAY_TIMER (R185): ACKSEQ has not advanced for RPTIMER, so the sender replays, or the link faults after RPLIMIT. -/
  | replayTimer
  /-- LANE_FAULT (R187): A lane loses lock, loses deskew or passes DROPTH, and the detecting side sends CTRL WIDTH. -/
  | laneFault (lane : Fin 20) (cause : Fin 3)
  /-- CTRL_WIDTH (R187): The peer receives WIDTH, stops data and answers WIDTH_ACK with the switch codeword. -/
  | ctrlWidth (mask : BitVec 20)
  /-- CTRL_WIDTH_ACK (R187): WIDTH_ACK received sets the new lane set and the switch point. -/
  | ctrlWidthAck (mask : BitVec 20)
  /-- WIDTH_SWITCH (R187): Both sides switch width at the named codeword, deskew and replay. -/
  | widthSwitch
  /-- LANE_PROBATION_PASSED (R188): A lane runs PROBATION with no error, and SIDE0 adds it back, subject to WIDENGAP. -/
  | laneProbationPassed (lane : Fin 20)
  /-- LINK_SILENCE (R190): No good flit arrives for SILENCE, so the link faults and retrain attempt 1 starts. -/
  | linkSilence
  /-- RETRAIN_ATTEMPT_DONE (R190): A retrain attempt succeeds, or fails and a later attempt or the heartbeat judgement follows. -/
  | retrainAttemptDone (mask : BitVec 20)
  /-- RETRAIN_DELAY_END (R190): The wait between retrain attempts ends and the next attempt starts. -/
  | retrainDelayEnd
  /-- HEARTBEAT_SILENT (R189): A heartbeat input shows no edge for 4 µs. -/
  | heartbeatSilent (path : Fin 2)
  /-- LINK_TRAINING_ATTEMPT (R202): Every 100 ms in UNPAIRED or SOLO, TWN attempts cold link training. -/
  | linkTrainingAttempt
  /-- LINK_TRAINED (R202): Link training succeeds with at least WMIN lanes, and both sides send HELLO. -/
  | linkTrained (mask : BitVec 20)
  /-- MIRROR (R195): A MIRROR is placed in epoch order, answered PLACED, or held for an epoch gap. -/
  | mirrorMsg (tag epoch spage off : Nat) (async : Bool) (data : List Nat)
  /-- FORWARD (R159): The home orders a forwarded write, places it and returns the ordered mirror. -/
  | forwardMsg (tag spage off : Nat) (data : List Nat)
  /-- FWD_ATOMIC (R160): The home executes a forwarded atomic and returns ORDERED with the new and original values. -/
  | fwdAtomic (tag spage line word : Nat) (fadd : Bool) (arg swap : Nat)
  /-- ORDERED (R195): The arriving side places the ordered write in epoch order and completes its response. -/
  | orderedMsg (tag epoch spage result : Nat) (atomic : Option (Nat × Nat))
  /-- PLACED (R158): A placement record returns, which completes the home-path response conditions and clears the pending set. -/
  | placedMsg (tag epoch spage status : Nat)
  /-- MOVE (R181): The other side moves its copy of an extent as the lead side decided and answers MOVE_DONE. -/
  | moveMsg (tag extent kind pages : Nat)
  /-- MOVEREQ (R234): The lead side receives a promotion or demotion request and sets or clears TWIN. -/
  | movereq (tag extent kind pages : Nat)
  /-- TREAD (R198): The twin answers a line read from its placed copy with TREAD_DATA or TREAD_FAIL. -/
  | tread (tag spage line : Nat)
  /-- TREAD_DATA (R173): The twin's line copy is written into local tier D and waiting requests are served. -/
  | treadData (tag epoch spage line : Nat) (data : List Nat)
  /-- TREAD_FAIL (R198): The twin has no readable copy, and the line is poisoned. -/
  | treadFail (tag spage line cause : Nat)
  /-- MOVE_DONE (R181): A side reports a movement done or refused, which allows freeing frames or triggers demotion. -/
  | moveDone (tag extent kind result : Nat)
  /-- PAGEPULL (R195): The home answers a gap with RESYNC_PAGE at its current epoch. -/
  | pagepull (tag spage : Nat)
  /-- RESYNC_PAGE (R195): The receiver installs the page's content, poison map and epoch and answers PLACED. -/
  | resyncPage (tag epoch spage : Nat) (zero fence : Bool) (poison : Nat) (data : List Nat)
  /-- HELLO (R202): SIDE0 decides the pairing by Table 6.10, or both refuse on equal sides. -/
  | helloMsg (tag : Nat) (h : Hello)
  /-- HELLO_ANSWER (R202): Both sides act on the pairing decision: SPAN, RECONCILE, CATCHUP, SPLIT or REFUSED. -/
  | helloAnswer (tag decision reason level pairId pgen : Nat)
  /-- PENDLIST (R212): The survivor takes returner pending pages, and on LAST checks the total and starts catch-up. -/
  | pendlist (tag : Nat) (last : Bool) (pages : List Nat)
  /-- STATE_READY (R200): The returner receives STATE READY and enters READY. -/
  | stateReady (tag pgen : Nat)
  /-- STATE_SPANREQ (R213): The returner passes the service gate, enters SERVING and answers SPANOK. -/
  | stateSpanreq (tag pgen : Nat)
  /-- STATE_SPANOK (R213): The survivor applies SPAN conditions to new writes and waits for earlier ASYNC PLACED. -/
  | stateSpanok (tag pgen : Nat)
  /-- STATE_SPANDONE (R213): Both sides set PGEN, revert homes, make SIDE0 lead and enter SPAN. -/
  | stateSpandone (tag pgen : Nat)
  /-- DEPART (R204): The twin is treated as lost at once, and this side enters SOLO. -/
  | depart (tag cause : Nat)
  /-- MAPOP_REGION_SET (R180): A side applies a region entry sent by the lead side. -/
  | mapopRegionSet (tag index : Nat) (words : List Nat)
  /-- MAPOP_EXTENT_SET (R180): A side applies extent pair-wide fields sent by the lead side. -/
  | mapopExtentSet (tag extent : Nat) (words : List Nat)
  /-- MAPOP_DEALLOC (R180): A side applies a deallocation sent by the lead side. -/
  | mapopDealloc (tag extent count : Nat)
  /-- MAPOP_REGREQ (R180): The lead side performs a registration requested by the other side. -/
  | mapopRegreq (tag : Nat) (words : List Nat)
  /-- MAPOP_DEREGREQ (R180): The lead side performs a deregistration requested by the other side. -/
  | mapopDeregreq (tag rkey : Nat)
  /-- MAPOP_DONE (R86): The result of a map operation returns, and the waiting command ends. -/
  | mapopDone (tag result index rkey : Nat)
  /-- DICT (R48): The peer's DIC serves an Aidric frame carried on dictionary path 3. -/
  | dict (tag : Nat) (frame : List Nat)
  /-- DICT_RSP (R48): The response frame of a path-3 dictionary request is delivered. -/
  | dictRsp (tag : Nat) (frame : List Nat)
  /-- RECON (R214): A reconciliation entry is recorded and answered with a ROUND 2 RECON where needed. -/
  | reconMsg (tag epoch spage round check : Nat)
  /-- RECON_END (R214): Once RECON_END has passed both ways, pages are resent, kept or fenced by epoch and CHECK. -/
  | reconEnd (tag entries round : Nat)
  /-- CATCHUP_PAGE_SEND (R209): The survivor's walk, paced at RATE, sends a CHANGED page as RESYNC_PAGE and moves its bit to SENT. -/
  | catchupPageSend
  /-- CATCHUP_READY (R209): Every RESYNC_PAGE and MIRROR is PLACED, and the survivor sends STATE READY. -/
  | catchupReady
  /-- PAIRWAIT_EXPIRY (R206): A device in RESTORING has not paired within PAIRWAIT and enters SOLO by its record. -/
  | pairwaitExpiry
  /-- GO_SOLO_CMD (R206): Command GO_SOLO takes an UNPAIRED device into SOLO, refused for a returner. -/
  | goSoloCmd
  /-- SPAN_CMD (R213): Command SPAN in READY starts the return to SPAN. -/
  | spanCmd
  /-- LEAVE_CMD (R204): Command LEAVE in SPAN sends DEPART and this side becomes returner. -/
  | leaveCmd
  /-- JOIN_CMD (R203): The keeper's JOIN makes this side blank or returner to resolve a refusal or split. -/
  | joinCmd
  /-- FORCE_SOLO_CMD (R206): The keeper's FORCE_SOLO enters SOLO with the content held, overriding the returner refusal. -/
  | forceSoloCmd
  /-- FENCE_ARBITRATE_CMD (R216): Command 0x2440.07 resolves a fenced page from SIDE0, SIDE1 or supplied content at a new epoch. -/
  | fenceArbitrateCmd (session arg : Nat)
  /-- TIER_S_FILL_DONE (R237): A tier S fill returns, is decrypted and installed, or poisoned, and its parked requests are re-issued. -/
  | tierSFillDone (p : Nat) (rd : CwRead)
  /-- PARK_ROOM_FREED (R240): A park slot frees or PARKED falls below PARKLIM, so Admit offers returned requests again. -/
  | parkRoomFreed (p : Fin 4)
  /-- CLEAN_CLOCK_STEP (R236): Cleaning visits a page, starting a write-back at CLEANAGE or raising its AGE. -/
  | cleanClockStep (map : Bool) (p : Nat)
  /-- WRITEBACK_VERIFIED (R223): A write-back is verified, which updates the store map and makes the page CLEAN. -/
  | writebackVerified (ref : Nat)
  /-- WRITEBACK_PROGRAM_FAILED (R223): A write-back program fails and is reissued to another location. -/
  | writebackProgramFailed (ref : Nat)
  /-- HEAT_TICK (R225): The 16-bit heat tick advances every TICK ms unless FREEZE is set. -/
  | heatTick
  /-- POOL_CLOCK_VISIT (R232): The pool clock visits a group and evicts under pressure or idleness, or sets SEEN. -/
  | poolClockVisit (g : Nat)
  /-- TENANT_WRITE (R233): TIE_TENCTL OP 0 writes TENDATA into the tenant edit shadow. -/
  | tenantWrite (i : Fin 1024)
  /-- TENANT_READ (R233): TIE_TENCTL OP 1 reads a tenant entry into TENDATA. -/
  | tenantRead (i : Fin 1024)
  /-- TENANT_COMMIT (R233): TIE_TENCTL OP 2 or 0x2510.0B commits the tenant table and rebuilds the quota rings. -/
  | tenantCommit (cmd : Bool)
  /-- QUOTA_RING_REBUILD_DONE (R233): The quota-ring walk ends, and quota eviction resumes. -/
  | quotaRingRebuildDone
  /-- TPOL_COMMIT (R226): Command 0x2511.09 commits the eight tier policy rows. -/
  | tpolCommit
  /-- LEND_COMMIT (R242): TIE_HCTL OP 1 commits the lend table, and tier H becomes UP if its range reads succeed. -/
  | lendCommit (cmd reads : Bool)
  /-- LEND_REVOKE (R244): TIE_HCTL OP 2 revokes the lend, refused while contexts or SCRATCH regions use tier H. -/
  | lendRevoke (cmd : Bool)
  /-- TIER_H_ACCESS_FAIL (R243): A tier H access errors, is poisoned or times out, which can set HSTATE DOWN. -/
  | tierHAccessFail (page : Nat) (cause : Fin 3)
  /-- PROMOTE_EXTENT_CMD (R228): Command 0x2530.02 promotes every page of an extent, charged to a tenant. -/
  | promoteExtentCmd (tenant : Nat)
  /-- REMOVE_CHARGE_CMD (R228): Command 0x2530.03 removes a tenant's charge from an extent. -/
  | removeChargeCmd (tenant : Nat)
  /-- GOV_TICK (R253): Every 1 ms GOV computes C and L from the energy inputs and sets its state. -/
  | govTick (vmod : List Nat)
  /-- ENERGY_AT_SHUTRES (R260): Energy falls to SHUTRES before the seal, so the save is torn and the falling table runs. -/
  | energyAtShutres (vmod : List Nat)
  /-- SAVE_STEP_COMPLETE (R261): A save step completes, and the save steps that wait on it begin. -/
  | saveStepComplete (n : Nat)
  /-- SAVE_SEALED (R261): The seal record reads back at both anchors, and the device enters SAVED. -/
  | saveSealed
  /-- FILL_COMPLETE (R267): The cold fill of every DRAM line ends, and DRAM is released to the cores in RESTORING. -/
  | fillComplete
  /-- RESTORE_STEP_COMPLETE (R268): A restore step completes, and the next one begins. -/
  | restoreStepComplete (n : Nat) (bad : List Nat)
  /-- SERVICE_GATE_PASSED (R269): GATEMISS is 0 and FWOK is set, so SAV retires the image and the device enters SERVING. -/
  | serviceGatePassed
  /-- SERVICE_GATE_WAIT_REPORT (R269): Once per second, an unpassed gate raises 0x2500 naming the missing bits. -/
  | serviceGateWaitReport
  /-- RETIRED_IMAGE_ERASE_DONE (R268): Erasure of the retired image's superblocks completes. -/
  | retiredImageEraseDone
  /-- REHEARSAL_START (R270): Every PERIOD hours in SERVING, SAV rehearses the save path under the store tokens. -/
  | rehearsalStart
  /-- REHEARSE_CMD (R270): Command 0x2611.01 starts a rehearsal now. -/
  | rehearseCmd
  /-- REHEARSAL_DONE (R270): A rehearsal ends, takes its rate as a candidate RMEAS and erases the superblock. -/
  | rehearsalDone (us : Nat)
  /-- JOB_SUBMIT (R282): MST_SUBMIT OP 0 checks line 0 and queues the job with a new JSEQ. -/
  | jobSubmit (j : Nat)
  /-- JOB_CANCEL (R281): MST_SUBMIT OP 1 cancels a QUEUED or ACTIVE job. -/
  | jobCancel (j : Nat)
  /-- JOB_REQUEUE (R281): MST_SUBMIT OP 2 requeues a FAILED or CANCELLED job from its last commit. -/
  | jobRequeue (j : Nat)
  /-- JOB_CANCEL_CMD (R303): Command 0x2720.0A cancels the inspected job. -/
  | jobCancelCmd (sess : Nat)
  /-- JOB_REQUEUE_CMD (R303): Command 0x2720.0B requeues the inspected job. -/
  | jobRequeueCmd (sess : Nat)
  /-- JOB_DISPATCH (R283): The dispatcher gives a QUEUED job to a fitting millstone, which loads its list and peers. -/
  | jobDispatch
  /-- INSTRUCTION_ISSUE (R288): A ready job issues its next instruction into its unit queue. -/
  | instructionIssue (n : Fin 8)
  /-- INSTRUCTION_COMPLETE (R288): A millstone instruction completes, which clears scoreboard conflicts or ends the job on an error. -/
  | instructionComplete (n : Fin 8) (slot : Fin 16) (pc turn : Nat) (rd : CwRead) (corr : Nat) (bad : Option Nat)
  /-- STAGE_COMMIT_COMPLETE (R290): A COMMIT's line-0 write is durable, so the cursor advances and the next stage issues its prefetch set. -/
  | stageCommitComplete (n : Fin 8) (slot : Fin 16)
  /-- STAGE_TIMEOUT (R294): A FETCHS has not delivered within STAGETO, and the job fails with TIER_LATE. -/
  | stageTimeout (n : Fin 8) (slot : Fin 16)
  /-- WAIT_LIMIT_EXPIRY (R286): A WAIT TIME ends, or a WAIT JOB or WORD passes LIMIT and fails with WAITLIMIT. -/
  | waitLimitExpiry (n : Fin 8) (slot : Fin 16)
  /-- WAIT_WORD_POLL (R286): Every 10 µs a WAIT WORD rereads its line. -/
  | waitWordPoll (n : Fin 8) (slot : Fin 16)
  /-- COMPLETION_TAKE (R284): MST_CTAKE removes the oldest completion-ring entry. -/
  | completionTake
  /-- JOB_WRITE_PORT (R280): MST_JWCTL.GO writes one line of job data into the space as a PUT. -/
  | jobWritePort
  /-- MST_QP_WRITE (R295): MST_QPUPD OP 0 writes a requester QP context unless it is serving. -/
  | mstQpWrite
  /-- MST_QP_READ (R295): MST_QPUPD OP 1 reads a requester QP context. -/
  | mstQpRead
  /-- MST_QP_TO_ERROR (R297): MST_QPUPD OP 2 moves a requester QP to ERROR and fails the jobs using it. -/
  | mstQpToError
  /-- REQ_QP_INSPECT_TO_ERROR_CMD (R303): Command 0x2730.07 moves the inspected requester QP to ERROR. -/
  | reqQpInspectToErrorCmd (sess : Nat)
  /-- RESUME_SCAN (R300): The millstones read every job record and queue the QUEUED and ACTIVE jobs in JSEQ order. -/
  | resumeScan
  /-- REFRESH_DUE (R310): A rank's refresh interval passes, and the refresh is issued or postponed. -/
  | refreshDue (c : Fin 16) (rank : Fin 4) (busy : Bool)
  /-- SIDEBAND_READ (R310): Every 16 ms the DRC reads DIMM temperatures and DQS oscillators, and may change refresh or request a retrain. -/
  | sidebandRead (c : Fin 16) (t0 t1 : BitVec 16) (osc : List Nat)
  /-- RANK_IDLE_SELF_REFRESH (R311): In Walk, a rank idle for RANKIDLE enters self-refresh. -/
  | rankIdleSelfRefresh (c : Fin 16) (rank : Fin 4)
  /-- MARKWIN_HALVE (R317): Every MARKWIN the per-device correction counts halve. -/
  | markwinHalve (c : Fin 16)
  /-- TRAINING_OP_WRITE (R321): DRC_TRNCTL OP 1 writes the pattern, refused outside RISING. -/
  | trainingOpWrite (c : Fin 16)
  /-- TRAINING_OP_COMPARE (R321): DRC_TRNCTL OP 2 reads and compares the pattern, refused outside RISING. -/
  | trainingOpCompare (c : Fin 16)
  /-- TRAINING_OP_MRR (R321): DRC_TRNCTL OP 3 reads and compares the mode-register pattern. -/
  | trainingOpMrr (c : Fin 16)
  /-- TRAINING_OP_CA_LOOPBACK (R321): DRC_TRNCTL OP 4 compares CA loopback, refused outside RISING. -/
  | trainingOpCaLoopback (c : Fin 16)
  /-- TRAINING_OP_DONE (R321): A helper operation finishes and sets TRNERR, FAIL and ERRBURSTS. -/
  | trainingOpDone (c : Fin 16) (lanes : List Nat) (bursts : Nat)
  /-- RETRAIN_DONE (R322): A rank retrain ends, and CAL resets the affected bases. -/
  | retrainDone (c : Fin 16) (ok : Bool) (osc : Nat) (delays : List (Nat × Nat))
  /-- GROOM_BURST (R323): The groom reads 64 lines of a channel through the decoder and ends its pass when all are read. -/
  | groomBurst (c : Fin 16) (errs : List LineErr)
  /-- GROOM_RATE_RECOMPUTE (R324): Every 10 minutes each channel's groom rate is recomputed. -/
  | groomRateRecompute
  /-- FARRIER_REQUEST (R326): A maintenance activity requests resources, which are granted at once or queued by precedence. -/
  | farrierRequest (owner : Nat) (res : List Nat)
  /-- FARRIER_RELEASE (R327): A holder releases a resource at its release point, and the farrier grants it to the next waiter. -/
  | farrierRelease (owner : Nat) (res : Nat)
  /-- WAITREL_EXPIRY (R328): An activity waits WAITREL for a token and releases every token it holds. -/
  | waitrelExpiry (owner : Nat)
  /-- RETRYGAP_EXPIRY (R328): RETRYGAP passes, and the activity requests its tokens again in ascending order. -/
  | retrygapExpiry (owner : Nat)
  /-- STORE_READ (R344): A READ descriptor decodes, decrypts and delivers a codeword, with retries and rebuild. -/
  | storeRead (ch : Fin 32) (rd : CwRead)
  /-- STORE_READ_RAW (R344): A READ_RAW descriptor delivers a whole undecoded page. -/
  | storeReadRaw (ch : Fin 32)
  /-- STORE_READ_META (R344): A READ_META descriptor delivers decoded metadata. -/
  | storeReadMeta (ch : Fin 32) (rd : CwRead)
  /-- STORE_PARAM (R335): A PARAM descriptor reads a die's ONFI parameter page at SDR mode 0. -/
  | storeParam (ch : Fin 32) (page : List Nat)
  /-- STORE_ERASE (R349): An ERASE writes the erase-start record and erases every member of a STALE or SUSPECT superblock. -/
  | storeErase (fw : Option (Fin 32)) (k : Nat)
  /-- STORE_RETIRE (R352): A RETIRE descriptor retires one member block. -/
  | storeRetire (fw : Bool) (ch : Fin 32) (die block cause : Nat)
  /-- STORE_CLEAN_WRITE (R340): A CLEAN_WRITE fills a data slot of the open row. -/
  | storeCleanWrite
  /-- STORE_RELOCATE (R354): A RELOCATE moves a valid codeword into the open row, re-encrypted for the target. -/
  | storeRelocate (rd : CwRead)
  /-- STORE_SAVE_WRITE (R341): A SAVE_WRITE programs an image page in SLC. -/
  | storeSaveWrite
  /-- STORE_SEAL_WRITE (R264): A SEAL_WRITE appends a seal record to the active anchor block. -/
  | storeSealWrite (a : Fin 2)
  /-- STORE_PATROL_READ (R357): A PATROL_READ decodes a codeword and acts on the outcome by relocating, dirtying, refilling or marking it LOST. -/
  | storePatrolRead (ch : Fin 32) (rd : CwRead)
  /-- STF_FWTAIL_WRITE (R344): STF_FWTAIL.GO advances a channel's firmware ring tail. -/
  | stfFwtailWrite (ch : Fin 32) (tail : Fin 64)
  /-- ROW_STRIPEWAIT_EXPIRY (R341): A row not full STRIPEWAIT after its first codeword is padded and programmed. -/
  | rowStripewaitExpiry
  /-- WORDLINE_VERIFIED (R340): A wordline and its row's parity are programmed and verified, so its write-backs and relocations complete. -/
  | wordlineVerified
  /-- ERASE_VERIFIED (R348): Every member verifies, and the erase-done record makes the superblock FREE. -/
  | eraseVerified (k : Nat)
  /-- ERASE_VERIFY_FAILED (R348): A member fails erase verify and is retired, while the others continue. -/
  | eraseVerifyFailed (k : Nat) (ch : Fin 32)
  /-- OPERATION_RESUME (R345): No read waits for a die, and its suspended erase or program resumes. -/
  | operationResume (ch : Fin 32) (die : Nat)
  /-- DIE_FAILED (R352): A die stops answering, is marked FAILED, and its codewords are rebuilt and relocated. -/
  | dieFailed (ch : Fin 32) (die : Fin 32)
  /-- SUPERBLOCK_OPEN (R351): STF opens a FREE superblock after the erase signature check, or makes it SUSPECT. -/
  | superblockOpen (k : Nat) (bad : Bool)
  /-- RECLAIM_START (R354): Free store superblocks fall below LOWATER, and STF reclaims the FULL superblock with fewest valid codewords. -/
  | reclaimStart
  /-- STF_START_WALK (R350): After a reset, STF resets every die and walks the block state table. -/
  | stfStartWalk
  /-- VALID_COUNT_WALK_DONE (R353): The walk rebuilding the valid counts ends, and reclaim and erase are allowed. -/
  | validCountWalkDone
  /-- PATROL_PACE (R357): The patrol pace issues the next PATROL_READ so the channel is read once per DAYS. -/
  | patrolPace (ch : Fin 32)
  /-- KEEPER_READ (R362): A keeper READ descriptor reads keeper flash into tier D. -/
  | keeperRead
  /-- KEEPER_PROGRAM (R362): A keeper PROGRAM descriptor programs within one page, refused for protected regions. -/
  | keeperProgram
  /-- KEEPER_ERASE (R362): A keeper ERASE descriptor erases a sector, refused for protected regions. -/
  | keeperErase
  /-- KEEPER_OP_DONE (R362): A keeper operation completes with its status. -/
  | keeperOpDone (ok : Bool)
  /-- KPF_COMPLETION_TAKE (R364): KPF_QCTL.TAKE removes the oldest keeper completion. -/
  | kpfCompletionTake
  /-- XIP_FETCH_MISS (R361): A service-core fetch misses the buffer and cache, and KPF reads the line, suspending any program. -/
  | xipFetchMiss (line : BitVec 23)
  /-- SAMPLE_ROUND (R409): Every 1 ms SEN reads all sensors and updates Tj. -/
  | sampleRound (temps : List (Option Int)) (volts : List Nat)
  /-- CAL_RUN_START (R416): Drift beyond DRIFT, or the end of training, starts a calibration run requesting its tokens. -/
  | calRunStart (trained : Bool)
  /-- CAL_CMD_RUN (R416): CAL_CMD OP 1 starts a calibration run. -/
  | calCmdRun
  /-- CAL_RUN_NOW_CMD (R420): Command 0x2B10.03 starts a calibration run now. -/
  | calRunNowCmd
  /-- CAL_CMD_REGENERATE (R418): CAL_CMD OP 2 forms the four sets from the trained values and the manifest slopes. -/
  | calCmdRegenerate
  /-- CAL_CMD_RELOAD (R418): CAL_CMD OP 3 reloads the sets from keeper flash. -/
  | calCmdReload
  /-- CAL_RUN_COMMIT (R415): With all tokens held, a run samples, interpolates and commits every group. -/
  | calRunCommit
  /-- CHECKPOINT_DUE (R427): Every CKPERIOD, CPX asserts interrupt source 40. -/
  | checkpointDue
  /-- CHECKPOINT_GO (R427): CPX_CKGO holds the cores, copies SRAM and ranges into the older slot and releases them. -/
  | checkpointGo
  /-- CHECKPOINT_MISS (R427): CKGO does not come within one CKPERIOD, so CKMISS rises. -/
  | checkpointMiss
  /-- ALIVE_WRITE (R430): CPX_ALIVE ends a takeover and the outgoing cluster is powered off. -/
  | aliveWrite
  /-- TAKEOVER_FAILURE (R432): A failed self-test, a nested reset or ALIVE not written within 50 ms fails the takeover. -/
  | takeoverFailure (late : Bool)
  /-- RETURN_CMD (R433): The RETURN command moves firmware to the other cluster. -/
  | returnCmd
  /-- CLEAR_CMD (R433): The CLEAR command turns a SUSPECT cluster into STANDBY. -/
  | clearCmd (c : Fin 2)
  /-- EVT_ACK_WRITE (R425): A write of EVT_ACK[n] records the sequence handled on interrupt line n. -/
  | evtAckWrite (n : Fin 32) (seq : Nat)
  /-- CPX_RINGTAIL_WRITE (R426): CPX_RINGTAIL.GO advances a QP's RINGTAIL and updates its doorbell bit. -/
  | cpxRingtailWrite (index : Nat) (tail : Nat)
  /-- EVENT_RAISED (R438): An event occurrence is recorded under its token bucket or counted as suppressed. -/
  | eventRaised (code : Nat) (payload : List Nat)
  /-- SUMMARY_RECORD (R439): A code with suppressed occurrences and no record for 1 s gets a SUMMARY record. -/
  | summaryRecord (code : Nat)
  /-- STUDBOOK_APPEND (R440): STB appends an entry to copy A, reads it back, and appends it to copy B. -/
  | studbookAppend
  /-- STUDBOOK_SCAN (R441): At start, STB scans both copies for the highest STBSEQ and the next slot. -/
  | studbookScan
  /-- SVC_OPEN (R443): A service OPEN begins a Tlaxa session. -/
  | svcOpen (frame : List Nat)
  /-- SVC_PROVE (R443): A service PROVE is checked and the session accepted or freed. -/
  | svcProve (frame : List Nat)
  /-- SVC_IDENT (R443): IDENT returns the identity entries and UPD_STAT. -/
  | svcIdent (frame : List Nat)
  /-- STAGE_BEGIN (R443): STAGE_BEGIN erases the staging area and sets RECEIVING. -/
  | stageBegin (frame : List Nat)
  /-- STAGE_DATA (R443): STAGE_DATA programs a piece of the staging area. -/
  | stageData (frame : List Nat)
  /-- STAGE_END (R445): STAGE_END checks the staged image and appends STAGED or REJECTED. -/
  | stageEnd (frame : List Nat)
  /-- STAGE_STATUS (R443): STAGE_STATUS returns the staging state and progress. -/
  | stageStatus (frame : List Nat)
  /-- STUD_READ (R443): STUD_READ returns stud book entries. -/
  | studRead (frame : List Nat)
  /-- TACK_READ (R443): TACK_READ returns tack room bytes. -/
  | tackRead (frame : List Nat)
  /-- EVT_READ (R443): EVT_READ returns records still in the ring. -/
  | evtRead (frame : List Nat)
  /-- SVC_RESET (R443): Service RESET makes a software reset request of level 4 or 5. -/
  | svcReset (frame : List Nat)
  /-- SVC_CLOSE (R443): Service CLOSE ends the session. -/
  | svcClose (frame : List Nat)
  /-- SVC_SESSION_TIMEOUT (R443): A service session has no valid frame for 60 s and ends. -/
  | svcSessionTimeout
  /-- USB_DETACH (R443): USB detach ends the service session. -/
  | usbDetach
  /-- CANCEL_STAGING (R452): UPD_CMD OP 1 appends a REJECTED record with reason 0 and sets STAGING to EMPTY. -/
  | cancelStaging
  /-- CANCEL_STAGING_CMD (R453): Command 0x2C30.09 cancels staging. -/
  | cancelStagingCmd
  /-- KEY_LOAD_CMD (R460): Command 0x2D10.03 decrypts and installs a role or service key and places its wrap in KEY_WRAP. -/
  | keyLoadCmd (sess : Nat)
  /-- KEY_ENCRYPT (R463): A key queue ENCRYPT descriptor encrypts in CBC, CTR or CFB. -/
  | keyEncrypt
  /-- KEY_DECRYPT (R463): A key queue DECRYPT descriptor decrypts. -/
  | keyDecrypt
  /-- KEY_CMAC (R463): A key queue CMAC descriptor computes a 16-byte tag. -/
  | keyCmac
  /-- KEY_DERIVE (R463): A key queue DERIVE descriptor derives a key into DSLOT. -/
  | keyDerive
  /-- KEY_LOAD (R463): A key queue LOAD descriptor loads a key into DSLOT. -/
  | keyLoad
  /-- KEY_RANDOM (R463): A key queue RANDOM descriptor writes DRBG bytes, or completes NOENTROPY. -/
  | keyRandom
  /-- KEY_CLEAR (R463): A key queue CLEAR descriptor empties DSLOT. -/
  | keyClear
  /-- KEY_QUEUE_TAKE (R472): KEY_QCTL.TAKE removes the oldest key completion. -/
  | keyQueueTake
  /-- DRBG_HEALTH_FAIL (R464): A noise health test fails, which stops the DRBG. -/
  | drbgHealthFail (test : Nat)
  /-- DRBG_RESEED (R464): The DRBG reseeds every 2^20 requests and restarts when a reseed passes. -/
  | drbgReseed
  /-- DEBUG_UNLOCK (R470): A debug unlock attempt is checked against the DBG key, and locks out after four failures. -/
  | debugUnlock (tag : List Nat)
  /-- RETIRE_SUPERBLOCK_MEMBER_CMD (R365): Dictionary command 0x2910.06 retires the member, on the channel in the argument, of the inspected superblock. -/
  | retireSuperblockMemberCmd (sess ch : Nat)
  /-- HEARTBEAT_RESUMED (R189): A heartbeat input that was silent shows edges again, so HBALIVE or HBBLIVE returns to 1 and the later judgements of R190 and R206 see it live. -/
  | heartbeatResumed (path : Fin 2)
  /-- WIDENGAP_EXPIRY (R188): WIDENGAP passes since the last widening, and SIDE0 adds back a lane that passed probation during the gap. -/
  | widengapExpiry
  /-- PCIE_LINK_STATE_CHANGE (R243): The PCIe link trains up or goes down without PERST, which updates PCI_STAT and, when down, sets HSTATE DOWN. -/
  | pcieLinkStateChange (up : Bool) (speed : Nat) (width : Nat)
  /-- MGT_LINK_STATUS_CHANGE (R77): The RGMII in-band status reports a change of link, speed or duplex, and MGT updates MGT_LINK and 0x2040.05. -/
  | mgtLinkStatusChange (up full : Bool) (speed : Fin 3)
  /-- USB_ATTACH (R442): VBUS appears and the host configures the service port, which sets SVC_STAT.VBUS and CONFIGURED. -/
  | usbAttach
  /-- ROW_IDLE_CLOSE (R309): An open row sees no access for IDLECLOSE, and the DRC closes it. -/
  | rowIdleClose (c : Fin 16) (bank : Fin 256)
  /-- ERESMIN_EXPIRY (R346): ERESMIN passes since an erase last resumed, so a read waiting on the die may suspend the erase again. -/
  | eresminExpiry (ch : Fin 32) (die : Nat)
  /-- STUDBOOK_SECTOR_ERASE_DONE (R440): The stud book's erase of the next keeper sector completes, and STB programs the entries it queued meanwhile. -/
  | studbookSectorEraseDone
  /-- MACHINE_TIMER_EXPIRY (R423): mtime reaches a core's mtimecmp, which raises that core's machine timer interrupt under the RISC-V privileged specification. -/
  | machineTimerExpiry (core : Fin 4)
  /-- SAVE_PATH_READY (R259): In RISING with DRAM retained, the bring-up of the save path completes after a warning, off request or level-5 reset, and the device enters SAVING. -/
  | savePathReady
  deriving DecidableEq, Repr

end Sys2Proof
end

