-- ==== Sys2Proof/Config.lean ====
section
/-! DEFINITION. What the spec draws from outside the device's own rules: constants without a body. Nothing in Lean can
evaluate them, so a statement holds for every value of them. -/

namespace Sys2Proof.Config

/-- The n-th draw of the device's noise-seeded generator (R464): nonces, SALT values, PAIRIDs, RANDOM bytes.
FREE VALUE, log entry 5. -/
opaque random : Nat → Nat

/-- The SESSION identifier that DIC allots to the n-th OPEN (R49 gives no value). FREE VALUE, log entry 6. -/
opaque sessionId : Nat → Nat

/-- The failure code of a FAILED command where its chapter names none (R38). The argument is
index × 256 + subindex. FREE VALUE, log entry 7. -/
opaque failureCode : Nat → Nat

/-- A payload field whose coding the spec does not number (a cause, a reason, a writer), by event code and the
model's own label of the case. FREE VALUE, log entry 8. -/
opaque payloadCode : Nat → Nat → Nat

/-- A number that the spec computes from something it does not state (a result outside the stated operands), by a label
of the place and the operands. FREE VALUE, log entry 9. -/
opaque unstated : Nat → List Nat → Nat

/-- The slope of a calibration target in the manifest's calibration base part (R418), whose layout the spec does not
give, by the target's byte offset in a set, in hundredths of a unit per °C. FREE VALUE, log entry 10. -/
opaque calSlope : Nat → Int

end Sys2Proof.Config
end

