-- ==== Sys2Proof/Machine/Crypto.lean ====
section
/-! DEFINITION. The codes, ciphers and hashes that the spec names: CRC-32C (R69), CRC-64, AES with CMAC, CBC, CTR,
CFB, key wrap and XTS (R49, R458 to R465), SHA-256 (R275), SHA-384 and ECDSA P-384 (R444), the field GF(2^8) of
the chip-kill code and the millstones (R276, R313). Bytes are numbers below 256. -/

namespace Sys2Proof.Machine.Crypto

/-! ## Cyclic redundancy codes -/

/-- One bit of a reflected CRC. -/
def crcBit (poly c : Nat) : Nat := if c % 2 = 1 then Nat.xor (c / 2) poly else c / 2

/-- One byte of a reflected CRC. -/
def crcByte (poly c b : Nat) : Nat :=
  (List.range 8).foldl (fun x _ => crcBit poly x) (Nat.xor c (b % 256))

/-- CRC-32C (R69): polynomial 0x1EDC_6F41, reflected, initial value and final exclusive-or all ones. -/
def crc32c (bs : List Nat) : Nat :=
  Nat.xor (bs.foldl (crcByte 0x82F63B78) 0xFFFFFFFF) 0xFFFFFFFF

/-- One bit of a CRC taken most significant bit first, at width `w`. -/
def crcBitMsb (w poly c : Nat) : Nat :=
  if c / 2 ^ (w - 1) % 2 = 1 then Nat.xor (c * 2 % 2 ^ w) poly else c * 2 % 2 ^ w

/-- One byte of a CRC taken most significant bit first. -/
def crcByteMsb (w poly c b : Nat) : Nat :=
  (List.range 8).foldl (fun x _ => crcBitMsb w poly x) (Nat.xor c (b % 256 * 2 ^ (w - 8)))

/-! ## GF(2^8) -/

/-- Multiplication of bytes in GF(2^8) with the reducing polynomial `p` (0x11D for the device's codes, R276; 0x11B in
AES). -/
def gfMul (p a b : Nat) : Nat :=
  (List.range 8).foldl
    (fun acc i =>
      let acc2 := if acc / 128 % 2 = 1 then Nat.xor (acc * 2) p else acc * 2
      if b / 2 ^ (7 - i) % 2 = 1 then Nat.xor acc2 a else acc2) 0

/-- Powers in GF(2^8). -/
def gfPow (p a : Nat) : Nat → Nat
  | 0 => 1
  | n + 1 => gfMul p a (gfPow p a n)

/-- The inverse in GF(2^8), 0 for 0. -/
def gfInv (p a : Nat) : Nat := gfPow p a 254

/-! ## AES (FIPS 197), the block cipher that R49 and R456 to R465 name -/

/-- Rotate a byte left. -/
def rotl8 (b n : Nat) : Nat := (b * 2 ^ n + b / 2 ^ (8 - n)) % 256

/-- The substitution of one byte: inverse, then the affine map. -/
def sbox (b : Nat) : Nat :=
  let i := gfInv 0x11B b
  Nat.xor (Nat.xor (Nat.xor (Nat.xor (Nat.xor i (rotl8 i 1)) (rotl8 i 2)) (rotl8 i 3)) (rotl8 i 4)) 0x63

/-- The inverse substitution. -/
def invSbox (b : Nat) : Nat :=
  gfInv 0x11B (Nat.xor (Nat.xor (Nat.xor (rotl8 b 1) (rotl8 b 3)) (rotl8 b 6)) 0x05)

/-- Byte by byte exclusive or. -/
def xorBytes (a b : List Nat) : List Nat := List.zipWith Nat.xor a b

/-- The round constant of key-schedule step `i`. -/
def rcon (i : Nat) : Nat := gfPow 0x11B 2 (i - 1)

/-- Key schedule: words (4 bytes each) newest first, `nk` words of key, `n` words still to make. -/
def expand (nk : Nat) : Nat → Nat → List (List Nat) → List (List Nat)
  | 0, _, ws => ws
  | n + 1, i, ws =>
    let prev := ws.headD []
    let temp :=
      if i % nk = 0 then
        match prev with
        | a :: rest => xorBytes ((rest ++ [a]).map sbox) [rcon (i / nk), 0, 0, 0]
        | [] => []
      else if nk > 6 ∧ i % nk = 4 then prev.map sbox
      else prev
    expand nk n (i + 1) (xorBytes (ws.getD (nk - 1) []) temp :: ws)

/-- Split a list into pieces of `k`; `fuel` pieces at most. -/
def chunks (k : Nat) : Nat → List Nat → List (List Nat)
  | 0, _ => []
  | fuel + 1, l => if l.isEmpty then [] else l.take k :: chunks k fuel (l.drop k)

/-- The round keys of a 16- or 32-byte key, 16 bytes each. -/
def roundKeys (key : List Nat) : List (List Nat) :=
  let nk := key.length / 4
  let ws := (expand nk (4 * (nk + 7) - nk) nk (chunks 4 8 key).reverse).reverse
  chunks 16 15 ws.flatten

/-- The row shift, columns of four bytes. -/
def shiftRows (b : List Nat) : List Nat :=
  (List.range 16).map (fun i => b.getD ((i + 4 * (i % 4)) % 16) 0)

/-- The inverse row shift. -/
def invShiftRows (b : List Nat) : List Nat :=
  (List.range 16).map (fun i => b.getD ((i + 16 - 4 * (i % 4)) % 16) 0)

/-- The column mix with the row coefficients `m`. -/
def mixWith (m : List Nat) (b : List Nat) : List Nat :=
  (List.range 16).map (fun i =>
    (List.range 4).foldl (fun acc j =>
      Nat.xor acc (gfMul 0x11B (m.getD ((j + 4 - i % 4) % 4) 0) (b.getD (i / 4 * 4 + j) 0))) 0)

/-- Encryption of one block. -/
def aesEnc (key blk : List Nat) : List Nat :=
  match roundKeys key with
  | [] => blk
  | k0 :: ks =>
    let n := ks.length
    (ks.foldl (fun (p : Nat × List Nat) k =>
      let t := shiftRows (p.2.map sbox)
      let t2 := if p.1 = n then t else mixWith [2, 3, 1, 1] t
      (p.1 + 1, xorBytes t2 k)) (1, xorBytes blk k0)).2

/-- Decryption of one block. -/
def aesDec (key blk : List Nat) : List Nat :=
  match (roundKeys key).reverse with
  | [] => blk
  | kl :: ks =>
    let n := ks.length
    (ks.foldl (fun (p : Nat × List Nat) k =>
      let t := xorBytes ((invShiftRows p.2).map invSbox) k
      (p.1 + 1, if p.1 = n then t else mixWith [14, 11, 13, 9] t)) (1, xorBytes blk kl)).2

/-- Doubling in GF(2^128), most significant byte first (CMAC subkeys). -/
def dbl (b : List Nat) : List Nat :=
  let v := b.foldl (fun a x => a * 256 + x) 0
  let v2 := if v / 2 ^ 127 % 2 = 1 then Nat.xor (v * 2 % 2 ^ 128) 0x87 else v * 2 % 2 ^ 128
  ((List.range 16).map (fun i => v2 / 2 ^ (8 * (15 - i)) % 256))

/-- AES-CMAC (R49). -/
def cmac (key msg : List Nat) : List Nat :=
  let k1 := dbl (aesEnc key (List.replicate 16 0))
  let bl := chunks 16 (msg.length / 16 + 1) msg
  let full := decide (msg.length % 16 = 0) && !msg.isEmpty
  let last := bl.getLastD []
  let lastX := if full then xorBytes last k1
               else xorBytes (last ++ 0x80 :: List.replicate (15 - last.length) 0) (dbl k1)
  let head := if msg.isEmpty then [] else bl.dropLast
  aesEnc key (xorBytes (head.foldl (fun c m => aesEnc key (xorBytes c m)) (List.replicate 16 0)) lastX)

/-- The counter form of R49 and R458: `len` bytes of key from `kin`, a label and a context. -/
def derive (kin label context : List Nat) (len : Nat) : List Nat :=
  (((List.range ((len + 15) / 16)).map (fun i =>
    cmac kin ([i + 1] ++ label ++ [0] ++ context ++ [len * 8 / 256 % 256, len * 8 % 256]))).flatten).take len

/-- The number that big-endian bytes spell. -/
def be (bs : List Nat) : Nat := bs.foldl (fun a x => a * 256 + x % 256) 0

/-- `n` big-endian bytes of `v`. -/
def beB (v n : Nat) : List Nat := (List.range n).map (fun i => v / 2 ^ (8 * (n - 1 - i)) % 256)

/-- CBC encryption of whole blocks. -/
def cbcEnc (key iv msg : List Nat) : List Nat :=
  ((chunks 16 (msg.length / 16 + 1) msg).foldl
    (fun (p : List Nat × List Nat) m => let c := aesEnc key (xorBytes p.1 m); (c, p.2 ++ c)) (iv, [])).2

/-- CBC decryption of whole blocks. -/
def cbcDec (key iv msg : List Nat) : List Nat :=
  ((chunks 16 (msg.length / 16 + 1) msg).foldl
    (fun (p : List Nat × List Nat) c => (c, p.2 ++ xorBytes p.1 (aesDec key c))) (iv, [])).2

/-- CTR with a 128-bit counter; encryption and decryption alike. -/
def ctrMode (key iv msg : List Nat) : List Nat :=
  (((chunks 16 (msg.length / 16 + 1) msg).zipIdx).map (fun p =>
    xorBytes p.1 (aesEnc key (beB ((be iv + p.2) % 2 ^ 128) 16)))).flatten

/-- CFB-128 encryption. -/
def cfbEnc (key iv msg : List Nat) : List Nat :=
  ((chunks 16 (msg.length / 16 + 1) msg).foldl
    (fun (p : List Nat × List Nat) m => let c := xorBytes m (aesEnc key p.1); (c, p.2 ++ c)) (iv, [])).2

/-- CFB-128 decryption. -/
def cfbDec (key iv msg : List Nat) : List Nat :=
  ((chunks 16 (msg.length / 16 + 1) msg).foldl
    (fun (p : List Nat × List Nat) c => (c, p.2 ++ xorBytes c (aesEnc key p.1))) (iv, [])).2

/-- AES key wrap (R460): `n` 8-byte pieces of plaintext. -/
def keyWrap (kw key : List Nat) : List Nat :=
  let r0 := chunks 8 8 key
  let n := r0.length
  let fin := (List.range (6 * n)).foldl (fun (p : List Nat × List (List Nat)) t =>
      let i := t % n
      let b := aesEnc kw (p.1 ++ p.2.getD i [])
      (beB (Nat.xor (be (b.take 8)) (t + 1)) 8, p.2.set i (b.drop 8)))
    (List.replicate 8 0xA6, r0)
  fin.1 ++ fin.2.flatten

/-- AES key unwrap (R461): none where the integrity check fails. -/
def keyUnwrap (kw w : List Nat) : Option (List Nat) :=
  let r0 := chunks 8 8 (w.drop 8)
  let n := r0.length
  let fin := (List.range (6 * n)).foldl (fun (p : List Nat × List (List Nat)) j =>
      let t := 6 * n - 1 - j
      let i := t % n
      let b := aesDec kw (beB (Nat.xor (be p.1) (t + 1)) 8 ++ p.2.getD i [])
      (b.take 8, p.2.set i (b.drop 8)))
    (w.take 8, r0)
  if fin.1 = List.replicate 8 0xA6 then some fin.2.flatten else none

/-- Doubling of an XTS tweak, least significant byte first. -/
def xtsDbl (v : Nat) : Nat :=
  if v / 2 ^ 127 % 2 = 1 then Nat.xor (v * 2 % 2 ^ 128) 0x87 else v * 2 % 2 ^ 128

/-- Little-endian bytes. -/
def leB (v n : Nat) : List Nat := (List.range n).map (fun i => v / 2 ^ (8 * i) % 256)

/-- The number of little-endian bytes. -/
def le (bs : List Nat) : Nat := bs.reverse.foldl (fun a x => a * 256 + x % 256) 0

/-- AES-256-XTS over whole blocks (R465): the data unit number is the tweak. -/
def xts (blockOp : List Nat → List Nat → List Nat) (kData kTweak : List Nat) (unit : Nat) (msg : List Nat) : List Nat :=
  let t0 := le (aesEnc kTweak (leB unit 16))
  ((chunks 16 (msg.length / 16 + 1) msg).foldl
    (fun (p : Nat × List Nat) m =>
      let t := leB p.1 16
      (xtsDbl p.1, p.2 ++ xorBytes (blockOp kData (xorBytes m t)) t)) (t0, [])).2

/-- XTS encryption of a data unit under a pair: data key then tweak key (R458). -/
def xtsEnc (pair : List Nat) (unit : Nat) (msg : List Nat) : List Nat :=
  xts aesEnc (pair.take 32) (pair.drop 32) unit msg

/-- XTS decryption. -/
def xtsDec (pair : List Nat) (unit : Nat) (msg : List Nat) : List Nat :=
  xts aesDec (pair.take 32) (pair.drop 32) unit msg

/-! ## SHA-2 (FIPS 180-4): SHA-256 for the millstones, SHA-384 for images -/

/-- Is `n`, below 484, prime, by trial of the numbers up to its root? -/
def isPrime (n : Nat) : Bool :=
  decide (2 ≤ n) && (List.range 22).all (fun d => decide (d < 2) || decide (n < d * d) || decide (n % d ≠ 0))

/-- The first `k` primes, searching below 450. -/
def primes (k : Nat) : List Nat := ((List.range 450).filter isPrime).take k

/-- Integer root by bisection: the largest `r` below `2^bits` with `r^e ≤ n`. -/
def iroot (e n bits : Nat) : Nat :=
  (List.range bits).foldl (fun r i =>
    let c := r + 2 ^ (bits - 1 - i)
    if c ^ e ≤ n then c else r) 0

/-- The first `w` fraction bits of the `e`-th root of `p`. -/
def rootFrac (e p w : Nat) : Nat := iroot e (p * 2 ^ (e * w)) (w + 5) % 2 ^ w

/-- Rotate right at width `w`. -/
def rotr (w x n : Nat) : Nat := (x / 2 ^ n + x * 2 ^ (w - n)) % 2 ^ w

/-- The numbers that tell SHA-256 and SHA-512/384 apart: width, rounds and the rotations. -/
structure ShaPar where
  w : Nat
  rounds : Nat
  s0 : Nat × Nat × Nat
  s1 : Nat × Nat × Nat
  e0 : Nat × Nat × Nat
  e1 : Nat × Nat × Nat

/-- SHA-256. -/
def sha256Par : ShaPar := ⟨32, 64, (7, 18, 3), (17, 19, 10), (2, 13, 22), (6, 11, 25)⟩

/-- SHA-384 and SHA-512. -/
def sha512Par : ShaPar := ⟨64, 80, (1, 8, 7), (19, 61, 6), (28, 34, 39), (14, 18, 41)⟩

/-- The schedule function: two rotations and a shift. -/
def sigS (P : ShaPar) (r : Nat × Nat × Nat) (x : Nat) : Nat :=
  Nat.xor (Nat.xor (rotr P.w x r.1) (rotr P.w x r.2.1)) (x / 2 ^ r.2.2)

/-- The round function: three rotations. -/
def sigR (P : ShaPar) (r : Nat × Nat × Nat) (x : Nat) : Nat :=
  Nat.xor (Nat.xor (rotr P.w x r.1) (rotr P.w x r.2.1)) (rotr P.w x r.2.2)

/-- The message schedule, newest first. -/
def shaSchedule (P : ShaPar) : Nat → List Nat → List Nat
  | 0, ws => ws
  | n + 1, ws =>
    let x := (sigS P P.s1 (ws.getD 1 0) + ws.getD 6 0 + sigS P P.s0 (ws.getD 14 0) + ws.getD 15 0) % 2 ^ P.w
    shaSchedule P n (x :: ws)

/-- One round on the eight working words. -/
def shaRound (P : ShaPar) (h : List Nat) (kw : Nat) : List Nat :=
  let a := h.getD 0 0
  let b := h.getD 1 0
  let c := h.getD 2 0
  let e := h.getD 4 0
  let ch := Nat.xor (Nat.land e (h.getD 5 0)) (Nat.land (2 ^ P.w - 1 - e) (h.getD 6 0))
  let t1 := h.getD 7 0 + sigR P P.e1 e + ch + kw
  let maj := Nat.xor (Nat.xor (Nat.land a b) (Nat.land a c)) (Nat.land b c)
  let t2 := sigR P P.e0 a + maj
  [(t1 + t2) % 2 ^ P.w, a, b, c, (h.getD 3 0 + t1) % 2 ^ P.w, e, h.getD 5 0, h.getD 6 0]

/-- One block, given the round constants. -/
def shaBlock (P : ShaPar) (ks : List Nat) (h : List Nat) (blk : List Nat) : List Nat :=
  let ws0 := (chunks (P.w / 8) 16 blk).map be
  let ws := (shaSchedule P (P.rounds - 16) ws0.reverse).reverse
  let g := (List.zipWith (· + ·) ks ws).foldl (shaRound P) h
  List.zipWith (fun x y => (x + y) % 2 ^ P.w) h g

/-- The hash state after a message of whole padded blocks. -/
def shaRun (P : ShaPar) (h0 : List Nat) (msg : List Nat) : List Nat :=
  let bb := P.w * 2
  let len := msg.length
  let zeros := (2 * bb - 1 - P.w / 4 - len % bb) % bb
  let padded := msg ++ 0x80 :: (List.replicate zeros 0 ++ beB (len * 8) (P.w / 4))
  let ks := (primes P.rounds).map (fun p => rootFrac 3 p P.w)
  (chunks bb (padded.length / bb + 1) padded).foldl (shaBlock P ks) h0

/-- SHA-256. -/
def sha256 (msg : List Nat) : List Nat :=
  ((shaRun sha256Par ((primes 8).map (fun p => rootFrac 2 p 32)) msg).map (fun x => beB x 4)).flatten

/-- SHA-384. -/
def sha384 (msg : List Nat) : List Nat :=
  (((shaRun sha512Par (((primes 16).drop 8).map (fun p => rootFrac 2 p 64)) msg).map (fun x => beB x 8)).flatten).take 48

/-! ## ECDSA on P-384 (FIPS 186-4), the image signature of R444 -/

/-- The field prime. -/
def p384 : Nat := 2 ^ 384 - 2 ^ 128 - 2 ^ 96 + 2 ^ 32 - 1

/-- The order of the base point. -/
def n384 : Nat :=
  0xFFFFFFFFFFFFFFFFFFFFFFFFFFFFFFFFFFFFFFFFFFFFFFFFC7634D81F4372DDF581A0DB248B0A77AECEC196ACCC52973

/-- The curve constant b. -/
def b384 : Nat :=
  0xB3312FA7E23EE7E4988E056BE3F82D19181D9C6EFE8141120314088F5013875AC656398D8A2ED19D2A85C8EDD3EC2AEF

/-- The base point. -/
def g384 : Nat × Nat :=
  (0xAA87CA22BE8B05378EB1C71EF320AD746E1D3B628BA79B9859F741E082542A385502F25DBF55296C3A545E3872760AB7,
   0x3617DE4A96262C6F5D9E98BF9292DC29F8F41DBD289A147CE9DA3113B5F0B8C00A60B1CE1D7E819D7A431D7C90EA0E5F)

/-- Powers modulo `m`, exponent taken bit by bit over `bits` bits. -/
def powMod (m a e bits : Nat) : Nat :=
  (List.range bits).foldl (fun r i =>
    let q := r * r % m
    if e / 2 ^ (bits - 1 - i) % 2 = 1 then q * a % m else q) (1 % m)

/-- The inverse modulo a prime. -/
def invMod (m a : Nat) : Nat := powMod m a (m - 2) 384

/-- Point addition, none for the point at infinity. -/
def ecAdd (P Q : Option (Nat × Nat)) : Option (Nat × Nat) :=
  match P, Q with
  | none, q => q
  | p, none => p
  | some (x1, y1), some (x2, y2) =>
    if x1 = x2 ∧ (y1 + y2) % p384 = 0 then none
    else
      let l := if x1 = x2 ∧ y1 = y2
        then (3 * x1 * x1 + (p384 - 3)) * invMod p384 (2 * y1 % p384) % p384
        else (y2 + p384 - y1) * invMod p384 ((x2 + p384 - x1) % p384) % p384
      let x3 := (l * l + 2 * p384 - x1 - x2) % p384
      some (x3, (l * (x1 + p384 - x3) + p384 - y1) % p384)

/-- Scalar multiplication. -/
def ecMul (k : Nat) (P : Nat × Nat) : Option (Nat × Nat) :=
  (List.range 384).foldl (fun r i =>
    let q := ecAdd r r
    if k / 2 ^ (383 - i) % 2 = 1 then ecAdd q (some P) else q) none

/-- Does the signature (r then s, 48 bytes each) verify over the message under the public key (x then y)? -/
def ecdsaOk (pub msg sig : List Nat) : Bool :=
  let Q := (be (pub.take 48), be (pub.drop 48))
  let r := be (sig.take 48)
  let s := be (sig.drop 48)
  let z := be (sha384 msg)
  let w := invMod n384 s
  let R := ecAdd (ecMul (z * w % n384) g384) (ecMul (r * w % n384) Q)
  decide (Q.1 < p384) && decide (Q.2 < p384) &&
  decide (Q.2 * Q.2 % p384 = (Q.1 * Q.1 * Q.1 + (p384 - 3) * Q.1 + b384) % p384) &&
  decide (0 < r) && decide (r < n384) && decide (0 < s) && decide (s < n384) &&
  (match R with
   | none => false
   | some (x, _) => decide (x % n384 = r))

end Sys2Proof.Machine.Crypto
end

