-- ==== Sys2Proof/Machine/Sparse.lean ====
section
/-! DEFINITION. Sparse data by key: a list of (key, value) pairs with keys strictly rising. A key that is not
listed has the value that the reader of the map names (a reset value, zero, or "no entry"). -/

namespace Sys2Proof.Machine

/-- Sparse data by key, in one canonical form: keys strictly rising (`Sparse.wf`). -/
abbrev Sparse (α : Type) := List (Nat × α)

namespace Sparse

variable {α : Type}

/-- The value listed at key `k`, if any. -/
def find? : Sparse α → Nat → Option α
  | [], _ => none
  | (k', v) :: m, k => if k = k' then some v else find? m k

/-- The first entry that satisfies `p`. -/
def seek (m : Sparse α) (p : Nat × α → Bool) : Option (Nat × α) := List.find? p m

/-- List `v` at key `k`, keeping keys rising. -/
def ins : Sparse α → Nat → α → Sparse α
  | [], k, v => [(k, v)]
  | (k', v') :: m, k, v =>
    if k < k' then (k, v) :: (k', v') :: m
    else if k = k' then (k, v) :: m
    else (k', v') :: ins m k v

/-- Remove key `k`. -/
def del : Sparse α → Nat → Sparse α
  | [], _ => []
  | (k', v) :: m, k => if k = k' then del m k else (k', v) :: del m k

/-- The value at `k`, or `d` where none is listed. -/
def get (m : Sparse α) (k : Nat) (d : α) : α := (m.find? k).getD d

/-- Is `k` listed? -/
def has (m : Sparse α) (k : Nat) : Bool := (m.find? k).isSome

/-- List `v` at `k`, or remove `k` where `v` is the value `d` that an unlisted key has. -/
def put [DecidableEq α] (m : Sparse α) (k : Nat) (v d : α) : Sparse α :=
  if v = d then m.del k else m.ins k v

/-- Keep the entries whose key satisfies `p`. -/
def keep (m : Sparse α) (p : Nat → Bool) : Sparse α := m.filter (fun e => p e.1)

/-- Keep the entries whose value satisfies `p`. -/
def keepV (m : Sparse α) (p : α → Bool) : Sparse α := m.filter (fun e => p e.2)

/-- Change the value at `k` by `f`, starting from `d` where none is listed. -/
def upd (m : Sparse α) (k : Nat) (d : α) (f : α → α) : Sparse α := m.ins k (f (m.get k d))

/-- Change every listed value. -/
def mapV (m : Sparse α) (f : α → α) : Sparse α := m.map (fun e => (e.1, f e.2))

/-- Change every listed value, the key at hand. -/
def mapK (m : Sparse α) (f : Nat → α → α) : Sparse α := m.map (fun e => (e.1, f e.1 e.2))

/-- Every key of `m` is at least `b` and keys rise strictly. -/
def above (b : Nat) : Sparse α → Bool
  | [] => true
  | (k, _) :: m => decide (b ≤ k) && above (k + 1) m

/-- The canonical form: keys strictly rising. -/
def wf (m : Sparse α) : Bool := above 0 m

/-- The first key from `k` on that is not listed, looking at `n` keys. -/
def firstFree (m : Sparse α) (k : Nat) : Nat → Option Nat
  | 0 => none
  | n + 1 => if m.has k then firstFree m (k + 1) n else some k

end Sparse
end Sys2Proof.Machine
end

