-- ==== Sys2Proof/Machine/Field.lean ====
section
/-! DEFINITION. What a register field is: where it lies in the control space (R57), who may write it and when a
write takes force (R60), at which resets it returns to its reset value (R11), and its limits (R64). -/

namespace Sys2Proof.Machine

/-- The "Access" column: RW, RO or WO. -/
inductive Acc | rw | ro | wo
  deriving DecidableEq, Repr

/-- The "Apply" column (R60); `none` for a field without an apply class. -/
inductive App | none | live | quiet | stop
  deriving DecidableEq, Repr

/-- The limits of one field on its own (R64): no limit, a range, forbidden codes, or the only codes allowed. -/
inductive Lim
  | any
  | rng (lo hi : Nat)
  | no (bad : List Nat)
  | one (good : List Nat)
  deriving DecidableEq, Repr

/-- Does a value meet the limits? -/
def Lim.ok : Lim → Nat → Bool
  | .any, _ => true
  | .rng lo hi, v => decide (lo ≤ v) && decide (v ≤ hi)
  | .no bad, v => !bad.contains v
  | .one good, v => good.contains v

/-- One field of a register table. `cnt` elements of an array lie `str` bytes apart; the reset value may depend
on the element. `grp` marks the fields of an apply group (R63). -/
structure Fld where
  blk : Nat
  nblk : Nat
  off : Nat
  lsb : Nat
  wid : Nat
  acc : Acc
  app : App
  lvl : Nat
  dflt : Nat → Nat
  cnt : Nat
  str : Nat
  grp : Bool
  lim : Lim

/-- One 64-bit counter of a chapter's counter list, or an array of them. -/
structure Ctr where
  blk : Nat
  nblk : Nat
  off : Nat
  cnt : Nat
  str : Nat

/-- Where element `i` of a field of block copy `b` is kept: reset level, block number, byte offset and lowest bit,
packed so that a reset of a block finds its entries. -/
def Fld.key (F : Fld) (i b : Nat) : Nat :=
  ((F.lvl * 128 + (F.blk + b)) * 1048576 + (F.off + F.str * i)) * 32 + F.lsb

/-- Byte offset of element `i` in the block's window (R57). -/
def Fld.offset (F : Fld) (i : Nat) : Nat := F.off + F.str * i

/-- The reset level in a field key. -/
def keyLevel (k : Nat) : Nat := k / 32 / 1048576 / 128

/-- The block number in a field key. -/
def keyBlock (k : Nat) : Nat := k / 32 / 1048576 % 128

/-- Where a counter is kept: block number and byte offset. -/
def Ctr.key (c : Ctr) (i b : Nat) : Nat := (c.blk + b) * 262144 + (c.off + c.str * i)

/-- The block number in a counter key. -/
def ctrBlock (k : Nat) : Nat := k / 262144

end Sys2Proof.Machine
end

