-- ==== Sys2Proof/Machine/Regs.lean ====
section
/-! DEFINITION. The register fields of the spec's register tables (chapters 01 to 15), one descriptor each:
block, offset, bits, access, apply class, reset level, reset value, array shape, apply group and limits.
The tables' "Reset value" column gives the last-but-four entry; where it names a source (fuse, option area,
seal, scan, training) the value is 0 here and is written by the step that reads that source. -/

namespace Sys2Proof.Machine

/-- Severity of each kind of event code, by `CODE >> 5`, from the chapters' event tables:
0 trace, 1 note, 2 warn, 3 fault, 4 critical. -/
def kindSeverities : List (Nat × Nat) :=
  [(32, 1), (33, 1), (34, 0), (35, 1), (36, 1), (37, 2), (38, 2), (64, 1), (65, 1), (66, 2), (67, 3), (68, 1), (69, 2), (70, 2), (71, 1), (72, 3), (96, 1), (97, 2), (98, 2), (128, 2), (129, 2), (130, 1), (131, 3), (132, 2), (133, 2), (134, 1), (135, 0), (136, 3), (137, 3), (160, 1), (161, 1), (162, 1), (163, 2), (164, 3), (165, 3), (166, 2), (167, 0), (168, 3), (192, 1), (193, 2)] ++
  [(194, 1), (195, 2), (196, 3), (197, 4), (198, 2), (199, 4), (200, 3), (201, 1), (202, 1), (203, 2), (204, 2), (205, 1), (206, 2), (207, 3), (224, 2), (225, 2), (226, 1), (227, 2), (228, 2), (229, 2), (230, 3), (231, 3), (232, 2), (233, 3), (234, 3), (235, 3), (236, 2), (256, 2), (257, 3), (258, 4), (259, 1), (260, 2), (261, 1), (262, 0), (288, 2), (289, 1), (290, 4), (291, 3), (292, 1), (293, 4)] ++
  [(294, 2), (295, 1), (296, 2), (297, 1), (298, 2), (299, 1), (320, 2), (321, 1), (322, 2), (323, 2), (324, 1), (325, 3), (326, 3), (352, 1), (353, 3), (354, 3), (355, 3), (356, 3), (357, 4), (384, 1), (385, 2), (386, 1), (387, 0), (388, 1), (416, 1), (417, 3), (418, 2), (419, 4), (420, 3), (421, 2), (422, 2), (423, 0), (424, 1), (425, 1), (426, 3), (427, 3), (448, 2), (449, 4), (450, 3), (451, 2)] ++
  [(452, 2), (453, 3), (480, 2), (481, 2), (482, 3), (483, 4), (484, 1), (485, 1), (486, 2), (487, 2), (488, 1), (489, 3), (512, 1), (513, 2), (514, 3), (515, 2), (516, 1), (517, 4), (544, 1), (545, 3), (546, 2), (576, 2), (577, 4), (578, 3), (579, 2), (580, 0), (581, 1), (582, 3), (583, 1), (608, 2), (609, 3), (610, 3), (611, 3), (612, 4), (613, 1), (614, 2), (615, 2), (640, 2), (641, 3), (643, 1)] ++
  [(672, 1), (673, 1), (674, 1), (675, 3), (676, 4), (677, 1), (704, 1), (705, 2), (706, 4), (707, 3), (708, 4), (752, 1), (753, 1), (754, 2), (768, 2), (769, 2), (770, 3), (771, 3), (772, 2), (773, 3)]

/-- Severity of an event code (R436); codes of no table count as notes. -/
def severity (code : Nat) : Nat := ((kindSeverities.lookup (code / 32)).getD 1)

/-- Table 14.7: LINE, RATE and BURST of a kind by its severity, packed as EVT_KIND. -/
def kindDefault (k : Nat) : Nat :=
  match (kindSeverities.lookup k).getD 1 with
  | 0 => 10 * 256 + 4
  | 1 => 100 * 256 + 16
  | 2 => 100 * 256 + 16
  | 3 => 1 * 16777216 + 1000 * 256 + 64
  | _ => 1 * 16777216 + 0 + 255

/-- Table 7.5: vendor default of tier policy row r (bits 31:17 of TIE_TPOL). -/
def tpolDefault (r : Nat) : Nat := 
  match r with
  | 1 => 15 * 1024 + 2 * 64 + 0 * 4 + 2
  | 2 => 3 * 1024 + 15 * 64 + 4 * 4 + 0
  | 3 => 16384 + 15 * 1024 + 0 * 64 + 1 * 4 + 3
  | _ => 8 * 64 + 2 * 4 + 1

namespace R

def GAI_ROW_DIVSET : Fld := ⟨0, 1, 0x100, 30, 2, .rw, .quiet, 4, fun i => ([1, 0, 0, 0, 0, 0].getD i 0), 6, 16, false, .no [2, 3]⟩
def GAI_ROW_LANES : Fld := ⟨0, 1, 0x100, 27, 3, .rw, .quiet, 4, fun i => ([1, 4, 4, 4, 4, 4].getD i 0), 6, 16, false, .one [1, 2, 4]⟩
def GAI_ROW_DIRTYFRAC : Fld := ⟨0, 1, 0x100, 0, 16, .rw, .quiet, 4, fun i => ([64, 128, 192, 128, 256, 192].getD i 0), 6, 16, false, .rng 16 256⟩
def GAI_ROW_CLEANRATE : Fld := ⟨0, 1, 0x104, 24, 8, .rw, .quiet, 4, fun i => ([8, 60, 30, 40, 20, 20].getD i 0), 6, 16, false, .rng 1 60⟩
def GAI_ROW_GROOMMUL : Fld := ⟨0, 1, 0x104, 16, 8, .rw, .quiet, 4, fun i => ([16, 16, 16, 16, 16, 8].getD i 0), 6, 16, false, .rng 8 64⟩
def GAI_ROW_MSWEIGHT : Fld := ⟨0, 1, 0x104, 12, 4, .rw, .quiet, 4, fun i => ([0, 4, 4, 12, 2, 1].getD i 0), 6, 16, false, .any⟩
def GAI_ROW_PPBIAS : Fld := ⟨0, 1, 0x104, 10, 2, .rw, .quiet, 4, fun i => ([0, 1, 1, 1, 1, 2].getD i 0), 6, 16, false, .no [3]⟩
def GAI_ROW_MIGRATE : Fld := ⟨0, 1, 0x104, 7, 3, .rw, .quiet, 4, fun i => ([1, 7, 3, 2, 3, 0].getD i 0), 6, 16, false, .any⟩
def GAI_ROW_WH : Fld := ⟨0, 1, 0x108, 20, 4, .rw, .quiet, 4, fun i => ([6, 5, 6, 4, 8, 8].getD i 0), 6, 16, false, .rng 1 15⟩
def GAI_ROW_WM : Fld := ⟨0, 1, 0x108, 16, 4, .rw, .quiet, 4, fun i => ([6, 5, 6, 4, 8, 8].getD i 0), 6, 16, false, .rng 1 15⟩
def GAI_ROW_WT : Fld := ⟨0, 1, 0x108, 12, 4, .rw, .quiet, 4, fun i => ([2, 6, 3, 3, 3, 2].getD i 0), 6, 16, false, .rng 1 15⟩
def GAI_ROW_WS : Fld := ⟨0, 1, 0x108, 8, 4, .rw, .quiet, 4, fun i => ([0, 2, 2, 6, 1, 1].getD i 0), 6, 16, false, .any⟩
def GAI_ROW_WG : Fld := ⟨0, 1, 0x108, 4, 4, .rw, .quiet, 4, fun i => ([1, 1, 1, 1, 1, 1].getD i 0), 6, 16, false, .rng 1 15⟩
def GAI_ROW_WC : Fld := ⟨0, 1, 0x108, 0, 4, .rw, .quiet, 4, fun i => ([1, 1, 1, 1, 1, 1].getD i 0), 6, 16, false, .rng 1 15⟩
def GAI_ROW_PWRCAP : Fld := ⟨0, 1, 0x10c, 0, 9, .rw, .quiet, 4, fun i => ([70, 160, 200, 220, 220, 235].getD i 0), 6, 16, false, .rng 60 235⟩
def GAI_CUR_LATCHED : Fld := ⟨0, 1, 0x40, 8, 3, .ro, .none, 4, fun _ => 2, 1, 4, false, .any⟩
def GAI_CUR_LATCHPEND : Fld := ⟨0, 1, 0x40, 7, 1, .ro, .none, 4, fun _ => 0, 1, 4, false, .any⟩
def GAI_CUR_CURRENT : Fld := ⟨0, 1, 0x40, 4, 3, .ro, .none, 4, fun _ => 2, 1, 4, false, .any⟩
def GAI_CUR_CHANGE : Fld := ⟨0, 1, 0x40, 0, 2, .ro, .none, 4, fun _ => 0, 1, 4, false, .any⟩
def GAI_STATUS_ROW_REFUSED : Fld := ⟨0, 1, 0x44, 3, 1, .ro, .none, 1, fun _ => 0, 1, 4, false, .any⟩
def GAI_STATUS_REFROW : Fld := ⟨0, 1, 0x44, 0, 3, .ro, .none, 1, fun _ => 0, 1, 4, false, .any⟩
def GAI_REQ_GO : Fld := ⟨0, 1, 0x48, 31, 1, .wo, .live, 0, fun _ => 0, 1, 4, false, .any⟩
def GAI_REQ_GAIT : Fld := ⟨0, 1, 0x48, 0, 3, .rw, .live, 4, fun _ => 2, 1, 4, false, .no [6, 7]⟩
def GAI_SHADOW_COMMIT : Fld := ⟨0, 1, 0x4c, 31, 1, .wo, .live, 0, fun _ => 0, 1, 4, false, .any⟩
def GAI_SHADOW_LOADDEF : Fld := ⟨0, 1, 0x4c, 30, 1, .wo, .live, 0, fun _ => 0, 1, 4, false, .any⟩
def GAI_RELINK_PENDING : Fld := ⟨0, 1, 0x50, 0, 4, .ro, .none, 1, fun _ => 0, 1, 4, false, .any⟩
def BLKCTRL_GRPCOMMIT : Fld := ⟨0, 58, 0x4, 16, 1, .wo, .live, 0, fun _ => 0, 1, 4, true, .any⟩
def BLKCTRL_SNAP : Fld := ⟨0, 58, 0x4, 8, 1, .wo, .live, 0, fun _ => 0, 1, 4, false, .any⟩
def BLKCTRL_GO : Fld := ⟨0, 58, 0x4, 0, 1, .rw, .live, 1, fun _ => 0, 1, 4, false, .any⟩
def BLKSTAT_QUIETLATE : Fld := ⟨0, 58, 0x8, 6, 1, .ro, .none, 1, fun _ => 0, 1, 4, false, .any⟩
def BLKSTAT_CFGMIS : Fld := ⟨0, 58, 0x8, 5, 1, .ro, .none, 1, fun _ => 0, 1, 4, false, .any⟩
def BLKSTAT_ISOLATED : Fld := ⟨0, 58, 0x8, 4, 1, .ro, .none, 1, fun _ => 0, 1, 4, false, .any⟩
def BLKSTAT_SHADOWPEND : Fld := ⟨0, 58, 0x8, 3, 1, .ro, .none, 1, fun _ => 0, 1, 4, false, .any⟩
def BLKSTAT_REFUSED : Fld := ⟨0, 58, 0x8, 2, 1, .ro, .none, 1, fun _ => 0, 1, 4, false, .any⟩
def BLKSTAT_STOPPING : Fld := ⟨0, 58, 0x8, 1, 1, .ro, .none, 1, fun _ => 0, 1, 4, false, .any⟩
def BLKSTAT_RUNNING : Fld := ⟨0, 58, 0x8, 0, 1, .ro, .none, 1, fun _ => 0, 1, 4, false, .any⟩
/-- Kept beside BLKSTAT and in no word that can be read: GO was set since the last reset that reached the block (R59). -/
def BLKSTAT_STARTED : Fld := ⟨0, 58, 0x8, 31, 1, .ro, .none, 1, fun _ => 0, 1, 4, false, .any⟩
def SNAPGEN_GEN : Fld := ⟨0, 58, 0xc, 0, 32, .ro, .none, 1, fun _ => 0, 1, 4, false, .any⟩
def CFGCRC_CRC : Fld := ⟨0, 58, 0x10, 0, 32, .ro, .none, 1, fun _ => 0, 1, 4, false, .any⟩
def CFGREF_REF : Fld := ⟨0, 58, 0x14, 0, 32, .ro, .none, 4, fun _ => 0, 1, 4, false, .any⟩
def DIC_SNAPCTL_GO : Fld := ⟨1, 1, 0x40, 0, 1, .wo, .live, 0, fun _ => 0, 1, 4, false, .any⟩
def DIC_SNAPGEN_GEN : Fld := ⟨1, 1, 0x44, 0, 32, .ro, .none, 1, fun _ => 0, 1, 4, false, .any⟩
def DIC_EXTADDRL_ADDR : Fld := ⟨1, 1, 0x48, 5, 27, .rw, .live, 4, fun _ => 0, 1, 4, false, .any⟩
def DIC_EXTADDRH_ADDR : Fld := ⟨1, 1, 0x4c, 0, 11, .rw, .live, 4, fun _ => 0, 1, 4, false, .any⟩
def DIC_EXTCOUNT_COUNT : Fld := ⟨1, 1, 0x50, 0, 13, .rw, .live, 4, fun _ => 0, 1, 4, false, .rng 1 4096⟩
def DIC_EXTLOAD_GO : Fld := ⟨1, 1, 0x54, 31, 1, .wo, .live, 0, fun _ => 0, 1, 4, false, .any⟩
def DIC_EXTLOAD_CLEAR : Fld := ⟨1, 1, 0x54, 30, 1, .wo, .live, 0, fun _ => 0, 1, 4, false, .any⟩
def DIC_EXTSTAT_BUSY : Fld := ⟨1, 1, 0x58, 31, 1, .ro, .none, 1, fun _ => 0, 1, 4, false, .any⟩
def DIC_EXTSTAT_REFUSED : Fld := ⟨1, 1, 0x58, 30, 1, .ro, .none, 1, fun _ => 0, 1, 4, false, .any⟩
def DIC_EXTSTAT_LOADED : Fld := ⟨1, 1, 0x58, 0, 13, .ro, .none, 1, fun _ => 0, 1, 4, false, .any⟩
def DIC_HITEM : Fld := ⟨1, 1, 0x60, 0, 32, .ro, .none, 1, fun _ => 0, 6, 4, false, .any⟩
def DIC_HANS_GO : Fld := ⟨1, 1, 0x78, 31, 1, .wo, .live, 0, fun _ => 0, 1, 4, false, .any⟩
def DIC_HANS_LEN : Fld := ⟨1, 1, 0x78, 16, 11, .rw, .live, 4, fun _ => 0, 1, 4, false, .rng 0 1012⟩
def DIC_HANS_STATUS : Fld := ⟨1, 1, 0x78, 0, 8, .rw, .live, 4, fun _ => 0, 1, 4, false, .any⟩
def DIC_HVALL : Fld := ⟨1, 1, 0x7c, 0, 32, .rw, .live, 4, fun _ => 0, 1, 4, false, .any⟩
def DIC_HVALH : Fld := ⟨1, 1, 0x80, 0, 32, .rw, .live, 4, fun _ => 0, 1, 4, false, .any⟩
def DIC_HBUF : Fld := ⟨1, 1, 0x400, 0, 32, .rw, .live, 4, fun _ => 0, 256, 4, false, .any⟩
def MGT_MACL_MAC : Fld := ⟨11, 1, 0x40, 0, 32, .rw, .quiet, 4, fun _ => 16, 1, 4, false, .any⟩
def MGT_MACH_MAC : Fld := ⟨11, 1, 0x44, 0, 16, .rw, .quiet, 4, fun _ => 0, 1, 4, false, .any⟩
def MGT_IP4_ADDR : Fld := ⟨11, 1, 0x48, 0, 32, .rw, .quiet, 4, fun _ => 0, 1, 4, false, .any⟩
def MGT_IP6 : Fld := ⟨11, 1, 0x50, 0, 32, .rw, .quiet, 4, fun _ => 0, 4, 4, false, .any⟩
def MGT_VLAN_TAGGED : Fld := ⟨11, 1, 0x60, 12, 1, .rw, .quiet, 4, fun _ => 0, 1, 4, false, .any⟩
def MGT_VLAN_VID : Fld := ⟨11, 1, 0x60, 0, 12, .rw, .quiet, 4, fun _ => 0, 1, 4, false, .any⟩
def MGT_CFG_SMBEN : Fld := ⟨11, 1, 0x64, 1, 1, .rw, .quiet, 4, fun _ => 1, 1, 4, false, .any⟩
def MGT_CFG_ENABLE : Fld := ⟨11, 1, 0x64, 0, 1, .rw, .quiet, 4, fun _ => 1, 1, 4, false, .any⟩
def MGT_SMB_EID : Fld := ⟨11, 1, 0x68, 8, 8, .ro, .none, 1, fun _ => 0, 1, 4, false, .any⟩
def MGT_SMB_SMBADDR : Fld := ⟨11, 1, 0x68, 0, 7, .rw, .quiet, 4, fun _ => 29, 1, 4, false, .any⟩
def MGT_MDIO_GO : Fld := ⟨11, 1, 0x6c, 31, 1, .wo, .live, 0, fun _ => 0, 1, 4, false, .any⟩
def MGT_MDIO_WRITE : Fld := ⟨11, 1, 0x6c, 30, 1, .rw, .live, 4, fun _ => 0, 1, 4, false, .any⟩
def MGT_MDIO_PHYAD : Fld := ⟨11, 1, 0x6c, 21, 5, .rw, .live, 4, fun _ => 0, 1, 4, false, .any⟩
def MGT_MDIO_REGAD : Fld := ⟨11, 1, 0x6c, 16, 5, .rw, .live, 4, fun _ => 0, 1, 4, false, .any⟩
def MGT_MDIO_DATA : Fld := ⟨11, 1, 0x6c, 0, 16, .rw, .live, 4, fun _ => 0, 1, 4, false, .any⟩
def MGT_MDIOSTAT_BUSY : Fld := ⟨11, 1, 0x70, 16, 1, .ro, .none, 1, fun _ => 0, 1, 4, false, .any⟩
def MGT_MDIOSTAT_RDATA : Fld := ⟨11, 1, 0x70, 0, 16, .ro, .none, 1, fun _ => 0, 1, 4, false, .any⟩
def MGT_LINK_UP : Fld := ⟨11, 1, 0x74, 3, 1, .ro, .none, 1, fun _ => 0, 1, 4, false, .any⟩
def MGT_LINK_FULLDUP : Fld := ⟨11, 1, 0x74, 2, 1, .ro, .none, 1, fun _ => 0, 1, 4, false, .any⟩
def MGT_LINK_SPEED : Fld := ⟨11, 1, 0x74, 0, 2, .ro, .none, 1, fun _ => 0, 1, 4, false, .any⟩
def PCI_SUBSYS_SUBID : Fld := ⟨9, 1, 0x40, 16, 16, .rw, .stop, 4, fun _ => 0, 1, 4, false, .any⟩
def PCI_SUBSYS_SUBVID : Fld := ⟨9, 1, 0x40, 0, 16, .rw, .stop, 4, fun _ => 0, 1, 4, false, .any⟩
def PCI_CFG_ENABLE : Fld := ⟨9, 1, 0x44, 0, 1, .rw, .stop, 4, fun _ => 1, 1, 4, false, .any⟩
def PCI_STAT_LINKUP : Fld := ⟨9, 1, 0x48, 31, 1, .ro, .none, 1, fun _ => 0, 1, 4, false, .any⟩
def PCI_STAT_SPEED : Fld := ⟨9, 1, 0x48, 28, 3, .ro, .none, 1, fun _ => 0, 1, 4, false, .any⟩
def PCI_STAT_WIDTH : Fld := ⟨9, 1, 0x48, 23, 5, .ro, .none, 1, fun _ => 0, 1, 4, false, .any⟩
def PCI_STAT_DSTATE : Fld := ⟨9, 1, 0x48, 0, 2, .ro, .none, 1, fun _ => 0, 1, 4, false, .any⟩
def DRC_ADDRMAP_GRAIN : Fld := ⟨42, 16, 0x40, 18, 2, .rw, .stop, 4, fun _ => 1, 1, 4, false, .no [3]⟩
def DRC_ADDRMAP_WIDTH : Fld := ⟨42, 16, 0x40, 16, 2, .rw, .stop, 4, fun _ => 2, 1, 4, false, .no [3]⟩
def DRC_ADDRMAP_ORDER : Fld := ⟨42, 16, 0x40, 12, 2, .rw, .stop, 4, fun _ => 2, 1, 4, false, .any⟩
def DRC_ADDRMAP_ROWBITS : Fld := ⟨42, 16, 0x40, 4, 5, .rw, .stop, 4, fun _ => 18, 1, 4, false, .rng 16 18⟩
def DRC_ADDRMAP_RANKBITS : Fld := ⟨42, 16, 0x40, 0, 2, .rw, .stop, 4, fun _ => 2, 1, 4, false, .no [3]⟩
def TRN_PSPACE_PEXT : Fld := ⟨25, 1, 0x40, 0, 27, .rw, .stop, 4, fun _ => 0, 1, 4, false, .rng 1 100663296⟩
def TRN_DGROUPS_DGROUPS : Fld := ⟨25, 1, 0x44, 0, 23, .rw, .stop, 4, fun _ => 0, 1, 4, false, .rng 1 4194304⟩
def TRN_MAPSTAT_LAYOUTOK : Fld := ⟨25, 1, 0x48, 31, 1, .ro, .none, 1, fun _ => 0, 1, 4, false, .any⟩
def TRN_MAPSTAT_BADLAYOUT : Fld := ⟨25, 1, 0x48, 30, 1, .ro, .none, 1, fun _ => 0, 1, 4, false, .any⟩
def TRN_MAPSTAT_MAPEND : Fld := ⟨25, 1, 0x48, 0, 23, .ro, .none, 1, fun _ => 0, 1, 4, false, .any⟩
def TRN_EXTBASE : Fld := ⟨25, 1, 0x4c, 0, 23, .ro, .none, 1, fun _ => 0, 1, 4, false, .any⟩
def TRN_FRMBASE : Fld := ⟨25, 1, 0x50, 0, 23, .ro, .none, 1, fun _ => 0, 1, 4, false, .any⟩
def TRN_STMBASE : Fld := ⟨25, 1, 0x54, 0, 23, .ro, .none, 1, fun _ => 0, 1, 4, false, .any⟩
def TRN_UPDADDRL_ADDR : Fld := ⟨25, 1, 0x80, 3, 29, .rw, .live, 4, fun _ => 0, 1, 4, false, .any⟩
def TRN_UPDADDRH_ADDR : Fld := ⟨25, 1, 0x84, 0, 11, .rw, .live, 4, fun _ => 0, 1, 4, false, .any⟩
def TRN_UPDCTL_GO : Fld := ⟨25, 1, 0x88, 8, 1, .wo, .live, 0, fun _ => 0, 1, 4, false, .any⟩
def TRN_UPDCTL_SIZE : Fld := ⟨25, 1, 0x88, 0, 2, .rw, .live, 4, fun _ => 0, 1, 4, false, .any⟩
def TRN_UPDSTAT_UPDREFUSED : Fld := ⟨25, 1, 0x8c, 1, 1, .ro, .none, 1, fun _ => 0, 1, 4, false, .any⟩
def TRN_UPDSTAT_UPDBUSY : Fld := ⟨25, 1, 0x8c, 0, 1, .ro, .none, 1, fun _ => 0, 1, 4, false, .any⟩
def TRN_INVAL_PORTS : Fld := ⟨25, 1, 0x90, 8, 4, .rw, .live, 4, fun _ => 15, 1, 4, false, .any⟩
def TRN_INVAL_L2 : Fld := ⟨25, 1, 0x90, 1, 1, .wo, .live, 0, fun _ => 0, 1, 4, false, .any⟩
def TRN_INVAL_L1 : Fld := ⟨25, 1, 0x90, 0, 1, .wo, .live, 0, fun _ => 0, 1, 4, false, .any⟩
def TRN_INVSTAT_INVBUSY : Fld := ⟨25, 1, 0x94, 0, 1, .ro, .none, 1, fun _ => 0, 1, 4, false, .any⟩
def TRN_AGE_FREEZE : Fld := ⟨25, 1, 0x98, 16, 1, .rw, .live, 4, fun _ => 0, 1, 4, false, .any⟩
def TRN_AGE_PERIOD : Fld := ⟨25, 1, 0x98, 0, 16, .rw, .quiet, 4, fun _ => 64, 1, 4, false, .rng 4 4096⟩
def TRN_HOPCFG_HIWATER : Fld := ⟨25, 1, 0x9c, 16, 10, .rw, .quiet, 4, fun _ => 384, 1, 4, false, .rng 64 480⟩
def TRN_HOPCFG_DEADLINE : Fld := ⟨25, 1, 0x9c, 0, 16, .rw, .quiet, 4, fun _ => 20, 1, 4, false, .rng 1 1000⟩
def TRN_HOPSTAT_EMPTY : Fld := ⟨25, 1, 0xa0, 16, 1, .ro, .none, 1, fun _ => 1, 1, 4, false, .any⟩
def TRN_HOPSTAT_LINES : Fld := ⟨25, 1, 0xa0, 0, 10, .ro, .none, 1, fun _ => 0, 1, 4, false, .any⟩
def TRN_UPDDATA : Fld := ⟨25, 1, 0xc0, 0, 32, .rw, .live, 4, fun _ => 0, 16, 4, false, .any⟩
def PRT_MODE_MEDIA : Fld := ⟨26, 4, 0x40, 2, 2, .rw, .stop, 4, fun _ => 0, 1, 4, false, .no [3]⟩
def PRT_MODE_MODE : Fld := ⟨26, 4, 0x40, 0, 2, .rw, .stop, 4, fun _ => 0, 1, 4, false, .no [3]⟩
def PRT_LINKSTAT_FECALARM : Fld := ⟨26, 4, 0x44, 12, 4, .ro, .none, 1, fun _ => 0, 1, 4, false, .any⟩
def PRT_LINKSTAT_UP : Fld := ⟨26, 4, 0x44, 8, 4, .ro, .none, 1, fun _ => 0, 1, 4, false, .any⟩
def PRT_LINKSTAT_LANES : Fld := ⟨26, 4, 0x44, 0, 3, .ro, .none, 1, fun _ => 0, 1, 4, false, .any⟩
def PRT_RELINK_SUB : Fld := ⟨26, 4, 0x48, 0, 4, .wo, .live, 0, fun _ => 0, 1, 4, false, .any⟩
def PRT_PFC_PRIO : Fld := ⟨26, 4, 0x4c, 16, 3, .rw, .quiet, 4, fun _ => 3, 1, 4, false, .any⟩
def PRT_PFC_RXEN : Fld := ⟨26, 4, 0x4c, 8, 8, .rw, .quiet, 4, fun _ => 0, 1, 4, false, .any⟩
def PRT_PFC_TXEN : Fld := ⟨26, 4, 0x4c, 0, 8, .rw, .quiet, 4, fun _ => 0, 1, 4, false, .any⟩
def PRT_FECTH_FECTH : Fld := ⟨26, 4, 0x50, 0, 16, .rw, .live, 4, fun _ => 16, 1, 4, false, .rng 1 65535⟩
def PRT_MACL : Fld := ⟨26, 4, 0x80, 0, 32, .rw, .quiet, 4, fun j => j, 4, 8, false, .any⟩
def PRT_MACH : Fld := ⟨26, 4, 0x84, 0, 16, .rw, .quiet, 4, fun _ => 0, 4, 8, false, .any⟩
def PRT_IP4 : Fld := ⟨26, 4, 0xa0, 0, 32, .rw, .quiet, 4, fun _ => 0, 4, 4, false, .any⟩
def PRT_IP6 : Fld := ⟨26, 4, 0xc0, 0, 32, .rw, .quiet, 4, fun _ => 0, 16, 4, false, .any⟩
def PRT_VLAN_TAGGED : Fld := ⟨26, 4, 0x100, 12, 1, .rw, .quiet, 4, fun _ => 0, 4, 4, false, .any⟩
def PRT_VLAN_VID : Fld := ⟨26, 4, 0x100, 0, 12, .rw, .quiet, 4, fun _ => 0, 4, 4, false, .any⟩
def XPT_CTXCFG_LOC : Fld := ⟨30, 4, 0x40, 30, 2, .rw, .stop, 4, fun _ => 0, 1, 4, false, .no [3]⟩
def XPT_CTXCFG_DGROUP : Fld := ⟨30, 4, 0x40, 0, 23, .rw, .stop, 4, fun _ => 0, 1, 4, false, .any⟩
def XPT_CTXHBASE_HPAGE : Fld := ⟨30, 4, 0x44, 0, 32, .rw, .stop, 4, fun _ => 0, 1, 4, false, .any⟩
def XPT_CTXSHARE_SHARE : Fld := ⟨30, 4, 0x48, 0, 6, .rw, .quiet, 4, fun _ => 8, 1, 4, false, .rng 1 29⟩
def XPT_FETCH_HTIMEOUT : Fld := ⟨30, 4, 0x4c, 0, 16, .rw, .quiet, 4, fun _ => 20, 1, 4, false, .rng 5 30⟩
def XPT_MISSSTAT_FULL : Fld := ⟨30, 4, 0x50, 31, 1, .ro, .none, 1, fun _ => 0, 1, 4, false, .any⟩
def XPT_MISSSTAT_BYTES : Fld := ⟨30, 4, 0x50, 0, 22, .ro, .none, 1, fun _ => 0, 1, 4, false, .any⟩
def XPT_ACKCOAL_COUNT : Fld := ⟨30, 4, 0x54, 16, 8, .rw, .quiet, 4, fun _ => 16, 1, 4, false, .rng 1 64⟩
def XPT_ACKCOAL_DELAY : Fld := ⟨30, 4, 0x54, 0, 16, .rw, .quiet, 4, fun _ => 2000, 1, 4, false, .rng 0 10000⟩
def XPT_REIN_FREEZE : Fld := ⟨30, 4, 0x58, 31, 1, .rw, .live, 4, fun _ => 0, 1, 4, false, .any⟩
def XPT_REIN_MAX : Fld := ⟨30, 4, 0x58, 8, 8, .rw, .quiet, 4, fun _ => 64, 1, 4, false, .any⟩
def XPT_REIN_MIN : Fld := ⟨30, 4, 0x58, 0, 8, .rw, .quiet, 4, fun _ => 4, 1, 4, false, .rng 1 64⟩
def XPT_REINTH_HI : Fld := ⟨30, 4, 0x5c, 8, 8, .rw, .quiet, 4, fun _ => 75, 1, 4, false, .rng 1 100⟩
def XPT_REINTH_LO : Fld := ⟨30, 4, 0x5c, 0, 8, .rw, .quiet, 4, fun _ => 25, 1, 4, false, .rng 0 99⟩
def XPT_REINSTAT_FLOOR : Fld := ⟨30, 4, 0x60, 8, 1, .ro, .none, 1, fun _ => 0, 1, 4, false, .any⟩
def XPT_REINSTAT_WIN : Fld := ⟨30, 4, 0x60, 0, 8, .ro, .none, 1, fun _ => 64, 1, 4, false, .any⟩
def XPT_ADMIT_CNPTH : Fld := ⟨30, 4, 0x64, 16, 8, .rw, .quiet, 4, fun _ => 75, 1, 4, false, .rng 50 95⟩
def XPT_ADMIT_HELD : Fld := ⟨30, 4, 0x64, 0, 11, .ro, .none, 1, fun _ => 0, 1, 4, false, .any⟩
def XPT_CNP_NPEN : Fld := ⟨30, 4, 0x68, 31, 1, .rw, .live, 4, fun _ => 1, 1, 4, false, .any⟩
def XPT_CNP_ECTMARK : Fld := ⟨30, 4, 0x68, 30, 1, .rw, .live, 4, fun _ => 1, 1, 4, false, .any⟩
def XPT_CNP_CNPDSCP : Fld := ⟨30, 4, 0x68, 16, 6, .rw, .quiet, 4, fun _ => 48, 1, 4, false, .any⟩
def XPT_CNP_NPINTV : Fld := ⟨30, 4, 0x68, 0, 16, .rw, .quiet, 4, fun _ => 50, 1, 4, false, .rng 1 1000⟩
def XPT_RP_CUT : Fld := ⟨30, 4, 0x6c, 24, 8, .rw, .quiet, 4, fun _ => 128, 1, 4, false, .rng 1 255⟩
def XPT_RP_RAI : Fld := ⟨30, 4, 0x6c, 16, 8, .rw, .quiet, 4, fun _ => 4, 1, 4, false, .rng 1 100⟩
def XPT_RP_RAIPER : Fld := ⟨30, 4, 0x6c, 0, 16, .rw, .quiet, 4, fun _ => 55, 1, 4, false, .rng 1 10000⟩
def XPT_RTO_RTOINIT : Fld := ⟨30, 4, 0x70, 16, 16, .rw, .quiet, 4, fun _ => 16, 1, 4, false, .rng 4 65535⟩
def XPT_RTO_RETRY : Fld := ⟨30, 4, 0x70, 8, 3, .rw, .quiet, 4, fun _ => 7, 1, 4, false, .any⟩
def XPT_RTO_RNRRETRY : Fld := ⟨30, 4, 0x70, 0, 3, .rw, .quiet, 4, fun _ => 6, 1, 4, false, .any⟩
def XPT_QPUPD_GO : Fld := ⟨30, 4, 0x80, 31, 1, .wo, .live, 0, fun _ => 0, 1, 4, false, .any⟩
def XPT_QPUPD_OP : Fld := ⟨30, 4, 0x80, 24, 2, .rw, .live, 4, fun _ => 0, 1, 4, false, .any⟩
def XPT_QPUPD_INDEX : Fld := ⟨30, 4, 0x80, 0, 18, .rw, .live, 4, fun _ => 0, 1, 4, false, .any⟩
def XPT_QPUPDSTAT_REFUSED : Fld := ⟨30, 4, 0x84, 1, 1, .ro, .none, 1, fun _ => 0, 1, 4, false, .any⟩
def XPT_QPUPDSTAT_BUSY : Fld := ⟨30, 4, 0x84, 0, 1, .ro, .none, 1, fun _ => 0, 1, 4, false, .any⟩
def XPT_QPDATA : Fld := ⟨30, 4, 0xc0, 0, 32, .rw, .live, 4, fun _ => 0, 32, 4, false, .any⟩
def TWN_CFG_HBBEN : Fld := ⟨24, 1, 0x40, 7, 1, .rw, .stop, 4, fun _ => 1, 1, 4, false, .any⟩
def TWN_CFG_SOLOPREF : Fld := ⟨24, 1, 0x40, 6, 1, .rw, .quiet, 4, fun _ => 0, 1, 4, false, .any⟩
def TWN_CFG_SIDE : Fld := ⟨24, 1, 0x40, 0, 1, .ro, .none, 4, fun _ => 0, 1, 4, false, .any⟩
def TWN_WAIT_PAIRWAIT : Fld := ⟨24, 1, 0x44, 0, 16, .rw, .quiet, 4, fun _ => 30, 1, 4, false, .rng 1 3600⟩
def TWN_LANECFG_FREEZE : Fld := ⟨24, 1, 0x48, 31, 1, .rw, .live, 4, fun _ => 0, 1, 4, false, .any⟩
def TWN_LANECFG_WMIN : Fld := ⟨24, 1, 0x48, 20, 5, .rw, .quiet, 4, fun _ => 8, 1, 4, false, .rng 4 20⟩
def TWN_LANECFG_LANEEN : Fld := ⟨24, 1, 0x48, 0, 20, .rw, .stop, 4, fun _ => 1048575, 1, 4, false, .any⟩
def TWN_LANEADAPT_PROBATION : Fld := ⟨24, 1, 0x4c, 16, 16, .rw, .quiet, 4, fun _ => 1000, 1, 4, false, .rng 100 60000⟩
def TWN_LANEADAPT_WIDENGAP : Fld := ⟨24, 1, 0x4c, 0, 16, .rw, .quiet, 4, fun _ => 10, 1, 4, false, .rng 1 3600⟩
def TWN_LANETH_DROPTH : Fld := ⟨24, 1, 0x50, 0, 16, .rw, .live, 4, fun _ => 4, 1, 4, false, .rng 1 65535⟩
def TWN_LINKTIME_RPLIMIT : Fld := ⟨24, 1, 0x54, 20, 4, .rw, .quiet, 4, fun _ => 4, 1, 4, false, .rng 1 4⟩
def TWN_LINKTIME_RETRAINS : Fld := ⟨24, 1, 0x54, 16, 4, .rw, .quiet, 4, fun _ => 3, 1, 4, false, .rng 0 3⟩
def TWN_LINKTIME_SILENCE : Fld := ⟨24, 1, 0x54, 8, 8, .rw, .quiet, 4, fun _ => 4, 1, 4, false, .rng 2 8⟩
def TWN_RPTIMER_RPTIMER : Fld := ⟨24, 1, 0x58, 0, 16, .rw, .quiet, 4, fun _ => 1000, 1, 4, false, .rng 500 2000⟩
def TWN_LANESTAT_WIDTH : Fld := ⟨24, 1, 0x5c, 25, 5, .ro, .none, 1, fun _ => 0, 1, 4, false, .any⟩
def TWN_LANESTAT_ACTIVE : Fld := ⟨24, 1, 0x5c, 0, 20, .ro, .none, 1, fun _ => 0, 1, 4, false, .any⟩
def TWN_PROBSTAT_PROBATION : Fld := ⟨24, 1, 0x60, 0, 20, .ro, .none, 1, fun _ => 0, 1, 4, false, .any⟩
def TWN_STATE_HBBLIVE : Fld := ⟨24, 1, 0x64, 7, 1, .ro, .none, 1, fun _ => 0, 1, 4, false, .any⟩
def TWN_STATE_HBALIVE : Fld := ⟨24, 1, 0x64, 6, 1, .ro, .none, 1, fun _ => 0, 1, 4, false, .any⟩
def TWN_STATE_ROLE : Fld := ⟨24, 1, 0x64, 4, 2, .ro, .none, 1, fun _ => 0, 1, 4, false, .any⟩
def TWN_STATE_LEAD : Fld := ⟨24, 1, 0x64, 3, 1, .ro, .none, 1, fun _ => 0, 1, 4, false, .any⟩
def TWN_STATE_TSTATE : Fld := ⟨24, 1, 0x64, 0, 3, .ro, .none, 1, fun _ => 0, 1, 4, false, .any⟩
def TWN_LOGBASE_LOGBASE : Fld := ⟨24, 1, 0x68, 0, 23, .rw, .stop, 4, fun _ => 0, 1, 4, false, .any⟩
def TWN_LOGSIZE_LOGSIZE : Fld := ⟨24, 1, 0x6c, 0, 20, .rw, .stop, 4, fun _ => 0, 1, 4, false, .any⟩
def TWN_RESYNC_PAUSE : Fld := ⟨24, 1, 0x70, 31, 1, .rw, .live, 4, fun _ => 0, 1, 4, false, .any⟩
def TWN_RESYNC_RATE : Fld := ⟨24, 1, 0x70, 0, 8, .rw, .quiet, 4, fun _ => 40, 1, 4, false, .rng 1 200⟩
def TWN_PENDSTAT_FULL : Fld := ⟨24, 1, 0x74, 31, 1, .ro, .none, 1, fun _ => 0, 1, 4, false, .any⟩
def TWN_PENDSTAT_ENTRIES : Fld := ⟨24, 1, 0x74, 0, 17, .ro, .none, 1, fun _ => 0, 1, 4, false, .any⟩
def TWN_LOGSTAT_EXTENTS : Fld := ⟨24, 1, 0x78, 0, 27, .ro, .none, 1, fun _ => 0, 1, 4, false, .any⟩
def TWN_FENCESTAT_FENCED : Fld := ⟨24, 1, 0x7c, 0, 17, .ro, .none, 1, fun _ => 0, 1, 4, false, .any⟩
def TWN_CMD_GO : Fld := ⟨24, 1, 0x80, 31, 1, .wo, .live, 0, fun _ => 0, 1, 4, false, .any⟩
def TWN_CMD_OP : Fld := ⟨24, 1, 0x80, 0, 3, .rw, .live, 4, fun _ => 0, 1, 4, false, .no [0, 6, 7]⟩
def TWN_CMDSTAT_REASON : Fld := ⟨24, 1, 0x84, 8, 8, .ro, .none, 1, fun _ => 0, 1, 4, false, .any⟩
def TWN_CMDSTAT_REFUSED : Fld := ⟨24, 1, 0x84, 1, 1, .ro, .none, 1, fun _ => 0, 1, 4, false, .any⟩
def TWN_CMDSTAT_BUSY : Fld := ⟨24, 1, 0x84, 0, 1, .ro, .none, 1, fun _ => 0, 1, 4, false, .any⟩
def TWN_PAIRIDL : Fld := ⟨24, 1, 0x88, 0, 32, .ro, .none, 4, fun _ => 0, 1, 4, false, .any⟩
def TWN_PAIRIDH : Fld := ⟨24, 1, 0x8c, 0, 32, .ro, .none, 4, fun _ => 0, 1, 4, false, .any⟩
def TWN_PGENL : Fld := ⟨24, 1, 0x90, 0, 32, .ro, .none, 4, fun _ => 0, 1, 4, false, .any⟩
def TWN_PGENH : Fld := ⟨24, 1, 0x94, 0, 32, .ro, .none, 4, fun _ => 0, 1, 4, false, .any⟩
def TIE_DATABASE_DATABASE : Fld := ⟨23, 1, 0x40, 0, 23, .rw, .stop, 4, fun _ => 0, 1, 4, false, .any⟩
def TIE_CHGBASE_BASE : Fld := ⟨23, 1, 0x44, 0, 23, .rw, .stop, 4, fun _ => 0, 1, 4, false, .any⟩
def TIE_CHGSIZE_SIZE : Fld := ⟨23, 1, 0x48, 0, 20, .rw, .stop, 4, fun _ => 0, 1, 4, false, .any⟩
def TIE_LOWATER_LOWATER : Fld := ⟨23, 1, 0x4c, 0, 23, .rw, .quiet, 4, fun _ => 1024, 1, 4, false, .any⟩
def TIE_HIWATER_HIWATER : Fld := ⟨23, 1, 0x50, 0, 23, .rw, .quiet, 4, fun _ => 4096, 1, 4, false, .any⟩
def TIE_FREE_FREE : Fld := ⟨23, 1, 0x54, 0, 23, .ro, .none, 1, fun _ => 0, 1, 4, false, .any⟩
def TIE_HEAT_FREEZE : Fld := ⟨23, 1, 0x58, 31, 1, .rw, .live, 4, fun _ => 0, 1, 4, false, .any⟩
def TIE_HEAT_SAMPLE : Fld := ⟨23, 1, 0x58, 24, 4, .rw, .quiet, 4, fun _ => 6, 1, 4, false, .rng 0 10⟩
def TIE_HEAT_TICK : Fld := ⟨23, 1, 0x58, 0, 16, .rw, .quiet, 4, fun _ => 100, 1, 4, false, .rng 10 10000⟩
def TIE_QOVER_QOVER : Fld := ⟨23, 1, 0x5c, 0, 8, .rw, .stop, 4, fun _ => 64, 1, 4, false, .rng 1 255⟩
def TIE_STAT_REBUILD : Fld := ⟨23, 1, 0x60, 3, 1, .ro, .none, 1, fun _ => 0, 1, 4, false, .any⟩
def TIE_STAT_POOLLOW : Fld := ⟨23, 1, 0x60, 2, 1, .ro, .none, 1, fun _ => 0, 1, 4, false, .any⟩
def TIE_STAT_HSTATE : Fld := ⟨23, 1, 0x60, 0, 2, .ro, .none, 1, fun _ => 0, 1, 4, false, .any⟩
def TIE_HCFG_HTIMEOUT : Fld := ⟨23, 1, 0x64, 0, 16, .rw, .quiet, 4, fun _ => 50, 1, 4, false, .rng 5 1000⟩
def TIE_HCTL_GO : Fld := ⟨23, 1, 0x68, 31, 1, .wo, .live, 0, fun _ => 0, 1, 4, false, .any⟩
def TIE_HCTL_OP : Fld := ⟨23, 1, 0x68, 0, 2, .rw, .live, 4, fun _ => 0, 1, 4, false, .no [0, 3]⟩
def TIE_TPOL : Fld := ⟨23, 1, 0x80, 17, 15, .rw, .quiet, 4, tpolDefault, 8, 4, true, .any⟩
def TIE_TENCTL_GO : Fld := ⟨23, 1, 0xa0, 31, 1, .wo, .live, 0, fun _ => 0, 1, 4, false, .any⟩
def TIE_TENCTL_OP : Fld := ⟨23, 1, 0xa0, 24, 2, .rw, .live, 4, fun _ => 0, 1, 4, false, .no [3]⟩
def TIE_TENCTL_INDEX : Fld := ⟨23, 1, 0xa0, 0, 10, .rw, .live, 4, fun _ => 0, 1, 4, false, .any⟩
def TIE_TENDATA : Fld := ⟨23, 1, 0xc0, 0, 32, .rw, .live, 4, fun _ => 0, 8, 4, false, .any⟩
def TIE_HLENDL : Fld := ⟨23, 1, 0x400, 0, 32, .rw, .quiet, 4, fun _ => 0, 64, 16, true, .any⟩
def TIE_HLENDH : Fld := ⟨23, 1, 0x404, 0, 32, .rw, .quiet, 4, fun _ => 0, 64, 16, true, .any⟩
def TIE_HPAGES : Fld := ⟨23, 1, 0x408, 0, 32, .rw, .quiet, 4, fun _ => 0, 64, 16, true, .any⟩
def GOV_CTL_FREEZE : Fld := ⟨21, 1, 0x40, 31, 1, .rw, .live, 4, fun _ => 0, 1, 4, false, .any⟩
def GOV_CTL_MODEN : Fld := ⟨21, 1, 0x40, 0, 8, .rw, .stop, 4, fun _ => 0, 1, 4, false, .any⟩
def GOV_CAP_CAP : Fld := ⟨21, 1, 0x44, 0, 12, .rw, .quiet, 4, fun _ => 2048, 1, 4, false, .rng 1 2048⟩
def GOV_RESERVE_RESERVE : Fld := ⟨21, 1, 0x48, 0, 16, .rw, .quiet, 4, fun _ => 500, 1, 4, false, .rng 100 10000⟩
def GOV_ESEFF_ESEFF : Fld := ⟨21, 1, 0x4c, 0, 10, .rw, .quiet, 4, fun _ => 900, 1, 4, false, .rng 500 1000⟩
def GOV_SAVEPWR_SAVEPWR : Fld := ⟨21, 1, 0x50, 0, 16, .rw, .quiet, 4, fun _ => 800, 1, 4, false, .rng 100 4000⟩
def GOV_RATE_RATEPROG : Fld := ⟨21, 1, 0x54, 16, 16, .rw, .quiet, 4, fun _ => 700, 1, 4, false, .rng 100 768⟩
def GOV_RATE_RDERATE : Fld := ⟨21, 1, 0x54, 8, 8, .rw, .quiet, 4, fun _ => 50, 1, 4, false, .any⟩
def GOV_RATE_PDERATE : Fld := ⟨21, 1, 0x54, 0, 8, .rw, .quiet, 4, fun _ => 50, 1, 4, false, .any⟩
def GOV_TFIX_TFIX : Fld := ⟨21, 1, 0x58, 0, 16, .rw, .quiet, 4, fun _ => 250, 1, 4, false, .rng 50 2000⟩
def GOV_MARGIN_MIRRES : Fld := ⟨21, 1, 0x5c, 16, 16, .rw, .quiet, 4, fun _ => 1024, 1, 4, false, .rng 0 16384⟩
def GOV_MARGIN_MARGIN : Fld := ⟨21, 1, 0x5c, 0, 16, .rw, .quiet, 4, fun _ => 2048, 1, 4, false, .rng 256 16384⟩
def GOV_CLEAN_LO : Fld := ⟨21, 1, 0x60, 8, 8, .rw, .quiet, 4, fun _ => 80, 1, 4, false, .any⟩
def GOV_CLEAN_HI : Fld := ⟨21, 1, 0x60, 0, 8, .rw, .quiet, 4, fun _ => 95, 1, 4, false, .rng 1 100⟩
def GOV_VCUT_VCUT : Fld := ⟨21, 1, 0x64, 0, 16, .rw, .quiet, 4, fun _ => 8000, 1, 4, false, .rng 1000 19000⟩
def GOV_CNOM_CNOM : Fld := ⟨21, 1, 0x68, 0, 24, .rw, .quiet, 4, fun _ => 0, 1, 4, false, .any⟩
def GOV_RBLEED_RBLEED : Fld := ⟨21, 1, 0x6c, 0, 24, .rw, .quiet, 4, fun _ => 0, 1, 4, false, .any⟩
def GOV_ERR_CERR : Fld := ⟨21, 1, 0x70, 16, 16, .rw, .quiet, 4, fun _ => 30, 1, 4, false, .rng 0 500⟩
def GOV_ERR_VERR : Fld := ⟨21, 1, 0x70, 0, 16, .rw, .quiet, 4, fun _ => 80, 1, 4, false, .rng 0 1000⟩
def GOV_STEP_STEPDV : Fld := ⟨21, 1, 0x74, 0, 16, .rw, .quiet, 4, fun _ => 500, 1, 4, false, .rng 50 5000⟩
def GOV_CAPTEST_TESTMS : Fld := ⟨21, 1, 0x78, 16, 16, .rw, .quiet, 4, fun _ => 500, 1, 4, false, .rng 100 5000⟩
def GOV_CAPTEST_PERIOD : Fld := ⟨21, 1, 0x78, 0, 16, .rw, .quiet, 4, fun _ => 24, 1, 4, false, .rng 1 720⟩
def GOV_STAT_FAILED : Fld := ⟨21, 1, 0x7c, 10, 8, .ro, .none, 1, fun _ => 0, 1, 4, false, .any⟩
def GOV_STAT_CLEANMAX : Fld := ⟨21, 1, 0x7c, 4, 1, .ro, .none, 1, fun _ => 0, 1, 4, false, .any⟩
def GOV_STAT_TESTING : Fld := ⟨21, 1, 0x7c, 3, 1, .ro, .none, 1, fun _ => 0, 1, 4, false, .any⟩
def GOV_STAT_STATE : Fld := ⟨21, 1, 0x7c, 0, 3, .ro, .none, 1, fun _ => 2, 1, 4, false, .any⟩
def GOV_CEILING : Fld := ⟨21, 1, 0x80, 0, 32, .ro, .none, 1, fun _ => 0, 1, 4, false, .any⟩
def GOV_LIMIT : Fld := ⟨21, 1, 0x84, 0, 32, .ro, .none, 1, fun _ => 0, 1, 4, false, .any⟩
def GOV_DIRTY : Fld := ⟨21, 1, 0x88, 0, 32, .ro, .none, 1, fun _ => 0, 1, 4, false, .any⟩
def GOV_OUT : Fld := ⟨21, 1, 0x8c, 0, 32, .ro, .none, 1, fun _ => 0, 1, 4, false, .any⟩
def GOV_EAVAIL_J : Fld := ⟨21, 1, 0x90, 0, 32, .ro, .none, 1, fun _ => 0, 1, 4, false, .any⟩
def GOV_CLEANREQ_RATE : Fld := ⟨21, 1, 0x94, 0, 8, .ro, .none, 1, fun _ => 0, 1, 4, false, .any⟩
def GOV_PMEAS : Fld := ⟨21, 1, 0x98, 0, 32, .ro, .none, 4, fun _ => 0, 1, 4, false, .any⟩
def GOV_RMEAS : Fld := ⟨21, 1, 0x9c, 0, 32, .ro, .none, 4, fun _ => 0, 1, 4, false, .any⟩
def GOV_VMOD : Fld := ⟨21, 1, 0xc0, 0, 32, .ro, .none, 1, fun _ => 0, 8, 4, false, .any⟩
def GOV_CMEAS : Fld := ⟨21, 1, 0xe0, 0, 32, .ro, .none, 1, fun _ => 0, 8, 4, false, .any⟩
def SAV_ANCHORA_CH : Fld := ⟨22, 1, 0x40, 27, 5, .rw, .stop, 4, fun _ => 0, 1, 4, false, .any⟩
def SAV_ANCHORB_CH : Fld := ⟨22, 1, 0x44, 27, 5, .rw, .stop, 4, fun _ => 0, 1, 4, false, .any⟩
def SAV_ANCHORA_DIE : Fld := ⟨22, 1, 0x40, 22, 5, .rw, .stop, 4, fun _ => 0, 1, 4, false, .any⟩
def SAV_ANCHORB_DIE : Fld := ⟨22, 1, 0x44, 22, 5, .rw, .stop, 4, fun _ => 0, 1, 4, false, .any⟩
def SAV_ANCHORA_BLOCK : Fld := ⟨22, 1, 0x40, 0, 14, .rw, .stop, 4, fun _ => 0, 1, 4, false, .any⟩
def SAV_ANCHORB_BLOCK : Fld := ⟨22, 1, 0x44, 0, 14, .rw, .stop, 4, fun _ => 0, 1, 4, false, .any⟩
def SAV_AREA_SBCOUNT : Fld := ⟨22, 1, 0x48, 16, 14, .rw, .stop, 4, fun _ => 0, 1, 4, false, .any⟩
def SAV_AREA_SBBASE : Fld := ⟨22, 1, 0x48, 0, 14, .rw, .stop, 4, fun _ => 0, 1, 4, false, .any⟩
def SAV_REHEARSE_SB : Fld := ⟨22, 1, 0x4c, 18, 14, .rw, .stop, 4, fun _ => 0, 1, 4, false, .any⟩
def SAV_REHEARSE_SIZE : Fld := ⟨22, 1, 0x4c, 8, 8, .rw, .quiet, 4, fun _ => 8, 1, 4, false, .rng 1 64⟩
def SAV_REHEARSE_PERIOD : Fld := ⟨22, 1, 0x4c, 0, 8, .rw, .quiet, 4, fun _ => 24, 1, 4, false, .any⟩
def SAV_GATE_FWOK : Fld := ⟨22, 1, 0x50, 31, 1, .rw, .live, 4, fun _ => 0, 1, 4, false, .any⟩
def SAV_GATE_GATEMIN : Fld := ⟨22, 1, 0x50, 0, 16, .rw, .quiet, 4, fun _ => 16, 1, 4, false, .rng 1 2048⟩
def SAV_SHUTRES_SHUTRES : Fld := ⟨22, 1, 0x54, 0, 16, .rw, .quiet, 4, fun _ => 200, 1, 4, false, .any⟩
def SAV_STAT_GATEMISS : Fld := ⟨22, 1, 0x58, 16, 3, .ro, .none, 1, fun _ => 7, 1, 4, false, .any⟩
def SAV_STAT_PHASE : Fld := ⟨22, 1, 0x58, 0, 4, .ro, .none, 1, fun _ => 0, 1, 4, false, .any⟩
def SAV_PROGRESS_PAGES : Fld := ⟨22, 1, 0x5c, 0, 32, .ro, .none, 1, fun _ => 0, 1, 4, false, .any⟩
def SAV_ERASED_MIB : Fld := ⟨22, 1, 0x60, 0, 32, .ro, .none, 1, fun _ => 0, 1, 4, false, .any⟩
def SAV_SEALSEQL : Fld := ⟨22, 1, 0x64, 0, 32, .ro, .none, 4, fun _ => 0, 1, 4, false, .any⟩
def SAV_SEALSEQH : Fld := ⟨22, 1, 0x68, 0, 32, .ro, .none, 4, fun _ => 0, 1, 4, false, .any⟩
def SAV_FIRSTSB_SB : Fld := ⟨22, 1, 0x6c, 0, 14, .ro, .none, 4, fun _ => 0, 1, 4, false, .any⟩
def MST_JLBASEL : Fld := ⟨34, 8, 0x40, 0, 32, .rw, .stop, 4, fun _ => 0, 1, 4, false, .any⟩
def MST_JLBASEH : Fld := ⟨34, 8, 0x44, 0, 4, .rw, .stop, 4, fun _ => 0, 1, 4, false, .any⟩
def MST_JLPAGES_JLPAGES : Fld := ⟨34, 8, 0x48, 0, 14, .rw, .stop, 4, fun _ => 0, 1, 4, false, .rng 1 8192⟩
def MST_DEFAULTS_STAGETO : Fld := ⟨34, 8, 0x4c, 16, 16, .rw, .quiet, 4, fun _ => 50, 1, 4, false, .rng 1 65535⟩
def MST_DEFAULTS_QUANTUM : Fld := ⟨34, 8, 0x4c, 0, 8, .rw, .quiet, 4, fun _ => 16, 1, 4, false, .rng 1 64⟩
def MST_SUBMIT_GO : Fld := ⟨34, 8, 0x50, 31, 1, .wo, .live, 0, fun _ => 0, 1, 4, false, .any⟩
def MST_SUBMIT_OP : Fld := ⟨34, 8, 0x50, 28, 2, .rw, .live, 4, fun _ => 0, 1, 4, false, .no [3]⟩
def MST_SUBMIT_INDEX : Fld := ⟨34, 8, 0x50, 0, 13, .rw, .live, 4, fun _ => 0, 1, 4, false, .any⟩
def MST_SUBSTAT_BUSY : Fld := ⟨34, 8, 0x54, 8, 1, .ro, .none, 1, fun _ => 0, 1, 4, false, .any⟩
def MST_SUBSTAT_RESULT : Fld := ⟨34, 8, 0x54, 0, 4, .ro, .none, 1, fun _ => 0, 1, 4, false, .any⟩
def MST_QUEUE_ACTIVE : Fld := ⟨34, 8, 0x58, 16, 8, .ro, .none, 1, fun _ => 0, 1, 4, false, .any⟩
def MST_QUEUE_QUEUED : Fld := ⟨34, 8, 0x58, 0, 14, .ro, .none, 1, fun _ => 0, 1, 4, false, .any⟩
def MST_CSTAT_FULL : Fld := ⟨34, 8, 0x5c, 31, 1, .ro, .none, 1, fun _ => 0, 1, 4, false, .any⟩
def MST_CSTAT_ENTRIES : Fld := ⟨34, 8, 0x5c, 0, 11, .ro, .none, 1, fun _ => 0, 1, 4, false, .any⟩
def MST_CENTRYL_ERROR : Fld := ⟨34, 8, 0x60, 16, 8, .ro, .none, 1, fun _ => 0, 1, 4, false, .any⟩
def MST_CENTRYL_JSTATE : Fld := ⟨34, 8, 0x60, 13, 3, .ro, .none, 1, fun _ => 0, 1, 4, false, .any⟩
def MST_CENTRYL_INDEX : Fld := ⟨34, 8, 0x60, 0, 13, .ro, .none, 1, fun _ => 0, 1, 4, false, .any⟩
def MST_CENTRYH_JSEQ : Fld := ⟨34, 8, 0x64, 0, 32, .ro, .none, 1, fun _ => 0, 1, 4, false, .any⟩
def MST_CTAKE_TAKE : Fld := ⟨34, 8, 0x68, 0, 1, .wo, .live, 0, fun _ => 0, 1, 4, false, .any⟩
def MST_JWADDRL : Fld := ⟨34, 8, 0x70, 6, 26, .rw, .live, 4, fun _ => 0, 1, 4, false, .any⟩
def MST_JWADDRH : Fld := ⟨34, 8, 0x74, 0, 16, .rw, .live, 4, fun _ => 0, 1, 4, false, .any⟩
def MST_JWCTL_GO : Fld := ⟨34, 8, 0x78, 31, 1, .wo, .live, 0, fun _ => 0, 1, 4, false, .any⟩
def MST_JWSTAT_REFUSED : Fld := ⟨34, 8, 0x7c, 1, 1, .ro, .none, 1, fun _ => 0, 1, 4, false, .any⟩
def MST_JWSTAT_BUSY : Fld := ⟨34, 8, 0x7c, 0, 1, .ro, .none, 1, fun _ => 0, 1, 4, false, .any⟩
def MST_QPUPD_GO : Fld := ⟨34, 8, 0x80, 31, 1, .wo, .live, 0, fun _ => 0, 1, 4, false, .any⟩
def MST_QPUPD_OP : Fld := ⟨34, 8, 0x80, 24, 2, .rw, .live, 4, fun _ => 0, 1, 4, false, .no [3]⟩
def MST_QPUPD_INDEX : Fld := ⟨34, 8, 0x80, 0, 14, .rw, .live, 4, fun _ => 0, 1, 4, false, .any⟩
def MST_QPUPDSTAT_REFUSED : Fld := ⟨34, 8, 0x84, 1, 1, .ro, .none, 1, fun _ => 0, 1, 4, false, .any⟩
def MST_QPUPDSTAT_BUSY : Fld := ⟨34, 8, 0x84, 0, 1, .ro, .none, 1, fun _ => 0, 1, 4, false, .any⟩
def MST_SHASTAT_INUSE : Fld := ⟨34, 8, 0x88, 0, 7, .ro, .none, 1, fun _ => 0, 1, 4, false, .any⟩
def MST_JWDATA : Fld := ⟨34, 8, 0xc0, 0, 32, .rw, .live, 4, fun _ => 0, 16, 4, false, .any⟩
def MST_QPDATA : Fld := ⟨34, 8, 0x100, 0, 32, .rw, .live, 4, fun _ => 0, 32, 4, false, .any⟩
def MST_HOLD_HOLD : Fld := ⟨34, 8, 0x200, 0, 1, .rw, .live, 4, fun _ => 0, 1, 4, false, .any⟩
def MST_STAT_MODE : Fld := ⟨34, 8, 0x204, 30, 2, .ro, .none, 1, fun _ => 0, 1, 4, false, .any⟩
def MST_STAT_READY : Fld := ⟨34, 8, 0x204, 16, 5, .ro, .none, 1, fun _ => 0, 1, 4, false, .any⟩
def MST_STAT_SLOTS : Fld := ⟨34, 8, 0x204, 0, 16, .ro, .none, 1, fun _ => 0, 1, 4, false, .any⟩
def MST_BUF_FREE : Fld := ⟨34, 8, 0x208, 0, 8, .ro, .none, 1, fun _ => 128, 1, 4, false, .any⟩
def DRC_CFG_DPC : Fld := ⟨42, 16, 0x44, 2, 1, .rw, .stop, 4, fun _ => 0, 1, 4, false, .any⟩
def DRC_CFG_SPEED : Fld := ⟨42, 16, 0x44, 0, 2, .rw, .stop, 4, fun _ => 0, 1, 4, false, .no [2, 3]⟩
def DRC_PAGEPOL_FREEZE : Fld := ⟨42, 16, 0x48, 31, 1, .rw, .live, 4, fun _ => 0, 1, 4, false, .any⟩
def DRC_PAGEPOL_BIAS : Fld := ⟨42, 16, 0x48, 16, 2, .ro, .none, 1, fun _ => 1, 1, 4, false, .any⟩
def DRC_PAGEPOL_IDLECLOSE : Fld := ⟨42, 16, 0x48, 0, 16, .rw, .quiet, 4, fun _ => 200, 1, 4, false, .rng 20 10000⟩
def DRC_REF_MODE : Fld := ⟨42, 16, 0x4c, 16, 1, .rw, .stop, 4, fun _ => 0, 1, 4, false, .any⟩
def DRC_REF_POSTPONE : Fld := ⟨42, 16, 0x4c, 8, 4, .rw, .quiet, 4, fun _ => 4, 1, 4, false, .rng 0 4⟩
def DRC_REF_HOTTHR : Fld := ⟨42, 16, 0x4c, 0, 8, .rw, .quiet, 4, fun _ => 85, 1, 4, false, .rng 60 95⟩
def DRC_SR_ENSR : Fld := ⟨42, 16, 0x50, 31, 1, .rw, .live, 4, fun _ => 1, 1, 4, false, .any⟩
def DRC_SR_RANKSR : Fld := ⟨42, 16, 0x50, 16, 4, .ro, .none, 1, fun _ => 0, 1, 4, false, .any⟩
def DRC_SR_RANKIDLE : Fld := ⟨42, 16, 0x50, 0, 16, .rw, .quiet, 4, fun _ => 10, 1, 4, false, .rng 1 10000⟩
def DRC_ECCCTL_AUTOMARK : Fld := ⟨42, 16, 0x54, 31, 1, .rw, .live, 4, fun _ => 1, 1, 4, false, .any⟩
def DRC_ECCCTL_MARKWIN : Fld := ⟨42, 16, 0x54, 16, 8, .rw, .quiet, 4, fun _ => 60, 1, 4, false, .rng 1 255⟩
def DRC_ECCCTL_MARKTH : Fld := ⟨42, 16, 0x54, 0, 16, .rw, .quiet, 4, fun _ => 32, 1, 4, false, .rng 1 65535⟩
def DRC_MARK_MARK : Fld := ⟨42, 16, 0x58, 0, 32, .rw, .live, 5, fun _ => 4294967295, 1, 4, false, .any⟩
def DRC_ERRLOG0_CA : Fld := ⟨42, 16, 0x5c, 0, 32, .ro, .none, 1, fun _ => 0, 1, 4, false, .any⟩
def DRC_ERRLOG1_VALID : Fld := ⟨42, 16, 0x60, 31, 1, .ro, .none, 1, fun _ => 0, 1, 4, false, .any⟩
def DRC_ERRLOG1_OUTCOME : Fld := ⟨42, 16, 0x60, 28, 3, .ro, .none, 1, fun _ => 0, 1, 4, false, .any⟩
def DRC_ERRLOG1_DEVICE : Fld := ⟨42, 16, 0x60, 24, 4, .ro, .none, 1, fun _ => 0, 1, 4, false, .any⟩
def DRC_ERRLOG1_CA : Fld := ⟨42, 16, 0x60, 0, 1, .ro, .none, 1, fun _ => 0, 1, 4, false, .any⟩
def DRC_TEMP_DIMM1 : Fld := ⟨42, 16, 0x64, 16, 16, .ro, .none, 1, fun _ => 0, 1, 4, false, .any⟩
def DRC_TEMP_DIMM0 : Fld := ⟨42, 16, 0x64, 0, 16, .ro, .none, 1, fun _ => 0, 1, 4, false, .any⟩
def DRC_OSC_OSCTH : Fld := ⟨42, 16, 0x68, 0, 8, .rw, .quiet, 4, fun _ => 6, 1, 4, false, .rng 1 255⟩
def DRC_TRNCTL_GO : Fld := ⟨42, 16, 0x100, 31, 1, .wo, .live, 0, fun _ => 0, 1, 4, false, .any⟩
def DRC_TRNCTL_COUNT : Fld := ⟨42, 16, 0x100, 16, 15, .rw, .live, 4, fun _ => 0, 1, 4, false, .rng 1 32767⟩
def DRC_TRNCTL_SC : Fld := ⟨42, 16, 0x100, 10, 1, .rw, .live, 4, fun _ => 0, 1, 4, false, .any⟩
def DRC_TRNCTL_RANK : Fld := ⟨42, 16, 0x100, 8, 2, .rw, .live, 4, fun _ => 0, 1, 4, false, .any⟩
def DRC_TRNCTL_OP : Fld := ⟨42, 16, 0x100, 0, 3, .rw, .live, 4, fun _ => 0, 1, 4, false, .no [0, 5, 6, 7]⟩
def DRC_TRNSTAT_ERRBURSTS : Fld := ⟨42, 16, 0x104, 16, 16, .ro, .none, 1, fun _ => 0, 1, 4, false, .any⟩
def DRC_TRNSTAT_REFUSED : Fld := ⟨42, 16, 0x104, 2, 1, .ro, .none, 1, fun _ => 0, 1, 4, false, .any⟩
def DRC_TRNSTAT_FAIL : Fld := ⟨42, 16, 0x104, 1, 1, .ro, .none, 1, fun _ => 0, 1, 4, false, .any⟩
def DRC_TRNSTAT_BUSY : Fld := ⟨42, 16, 0x104, 0, 1, .ro, .none, 1, fun _ => 0, 1, 4, false, .any⟩
def DRC_TRNPAT_KIND : Fld := ⟨42, 16, 0x108, 29, 3, .rw, .live, 4, fun _ => 1, 1, 4, false, .no [6, 7]⟩
def DRC_TRNPAT_SEED : Fld := ⟨42, 16, 0x108, 0, 29, .rw, .live, 4, fun _ => 1, 1, 4, false, .no [0]⟩
def DRC_TRNADDR_BG : Fld := ⟨42, 16, 0x10c, 20, 3, .rw, .live, 4, fun _ => 0, 1, 4, false, .any⟩
def DRC_TRNADDR_BANK : Fld := ⟨42, 16, 0x10c, 18, 2, .rw, .live, 4, fun _ => 0, 1, 4, false, .any⟩
def DRC_TRNADDR_ROW : Fld := ⟨42, 16, 0x10c, 0, 18, .rw, .live, 4, fun _ => 0, 1, 4, false, .any⟩
def DRC_TRNERR : Fld := ⟨42, 16, 0x140, 0, 16, .ro, .none, 1, fun _ => 0, 80, 4, false, .any⟩
def DRC_WRDLY : Fld := ⟨42, 16, 0x400, 0, 10, .rw, .quiet, 5, fun _ => 0, 320, 4, true, .any⟩
def DRC_RDDLY : Fld := ⟨42, 16, 0x900, 0, 10, .rw, .quiet, 5, fun _ => 0, 320, 4, true, .any⟩
def DRC_RDVREF : Fld := ⟨42, 16, 0xe00, 0, 8, .rw, .quiet, 5, fun _ => 0, 80, 4, true, .any⟩
def GRM_PASS_PERIOD : Fld := ⟨19, 1, 0x40, 16, 16, .rw, .quiet, 4, fun _ => 12, 1, 4, false, .any⟩
def GRM_PASS_DEADLINE : Fld := ⟨19, 1, 0x40, 0, 16, .rw, .quiet, 4, fun _ => 24, 1, 4, false, .rng 1 720⟩
def GRM_ADAPT_FREEZE : Fld := ⟨19, 1, 0x44, 31, 1, .rw, .live, 4, fun _ => 0, 1, 4, false, .any⟩
def GRM_ADAPT_MAXMUL : Fld := ⟨19, 1, 0x44, 16, 4, .rw, .quiet, 4, fun _ => 8, 1, 4, false, .rng 1 15⟩
def GRM_ADAPT_CETH : Fld := ⟨19, 1, 0x44, 0, 16, .rw, .quiet, 4, fun _ => 64, 1, 4, false, .rng 1 65535⟩
def GRM_STAT_FLOOR : Fld := ⟨19, 1, 0x48, 31, 1, .ro, .none, 1, fun _ => 0, 1, 4, false, .any⟩
def GRM_STAT_MUL : Fld := ⟨19, 1, 0x48, 16, 4, .ro, .none, 1, fun _ => 1, 1, 4, false, .any⟩
def GRM_STAT_PROGRESS : Fld := ⟨19, 1, 0x48, 0, 16, .ro, .none, 4, fun _ => 0, 1, 4, false, .any⟩
def GRM_PASSES_PASSES : Fld := ⟨19, 1, 0x4c, 0, 32, .ro, .none, 4, fun _ => 0, 1, 4, false, .any⟩
def FAR_CFG_RETRYGAP : Fld := ⟨20, 1, 0x40, 16, 16, .rw, .quiet, 4, fun _ => 50, 1, 4, false, .rng 10 1000⟩
def FAR_CFG_WAITREL : Fld := ⟨20, 1, 0x40, 0, 16, .rw, .quiet, 4, fun _ => 100, 1, 4, false, .rng 20 1000⟩
def FAR_OWNER_HELD : Fld := ⟨20, 1, 0x100, 31, 1, .ro, .none, 1, fun _ => 0, 122, 4, false, .any⟩
def FAR_OWNER_WAITERS : Fld := ⟨20, 1, 0x100, 16, 8, .ro, .none, 1, fun _ => 0, 122, 4, false, .any⟩
def FAR_OWNER_OWNER : Fld := ⟨20, 1, 0x100, 0, 10, .ro, .none, 1, fun _ => 0, 122, 4, false, .any⟩
def STF_GEOM_DPCLOG : Fld := ⟨18, 1, 0x40, 29, 3, .rw, .stop, 4, fun _ => 0, 1, 4, false, .no [6, 7]⟩
def STF_GEOM_BPDM1 : Fld := ⟨18, 1, 0x40, 15, 14, .rw, .stop, 4, fun _ => 0, 1, 4, false, .any⟩
def STF_GEOM_PLANELOG : Fld := ⟨18, 1, 0x40, 13, 2, .rw, .stop, 4, fun _ => 0, 1, 4, false, .no [3]⟩
def STF_GEOM_PPB : Fld := ⟨18, 1, 0x40, 0, 13, .rw, .stop, 4, fun _ => 0, 1, 4, false, .any⟩
def STF_STRIPE_STRIPEWAIT : Fld := ⟨18, 1, 0x44, 0, 16, .rw, .quiet, 4, fun _ => 2000, 1, 4, false, .rng 100 50000⟩
def STF_RECLAIM_HIWATER : Fld := ⟨18, 1, 0x48, 16, 16, .rw, .quiet, 4, fun _ => 512, 1, 4, false, .rng 1 65535⟩
def STF_RECLAIM_LOWATER : Fld := ⟨18, 1, 0x48, 0, 16, .rw, .quiet, 4, fun _ => 256, 1, 4, false, .any⟩
def STF_SUSP_ESUSPMAX : Fld := ⟨18, 1, 0x4c, 24, 8, .rw, .quiet, 4, fun _ => 64, 1, 4, false, .rng 1 255⟩
def STF_SUSP_PSUSPMAX : Fld := ⟨18, 1, 0x4c, 20, 4, .rw, .quiet, 4, fun _ => 4, 1, 4, false, .any⟩
def STF_SUSP_ERESMIN : Fld := ⟨18, 1, 0x4c, 0, 16, .rw, .quiet, 4, fun _ => 200, 1, 4, false, .rng 50 5000⟩
def STF_TRACK_FREEZE : Fld := ⟨18, 1, 0x50, 31, 1, .rw, .live, 4, fun _ => 0, 1, 4, false, .any⟩
def STF_TRACK_MAXOFF : Fld := ⟨18, 1, 0x50, 16, 6, .rw, .quiet, 4, fun _ => 20, 1, 4, false, .rng 1 63⟩
def STF_TRACK_TRACKN : Fld := ⟨18, 1, 0x50, 0, 16, .rw, .quiet, 4, fun _ => 256, 1, 4, false, .rng 16 65535⟩
def STF_READ_SIGTH : Fld := ⟨18, 1, 0x54, 16, 16, .rw, .quiet, 4, fun _ => 100, 1, 4, false, .rng 1 5000⟩
def STF_READ_RETRYMAX : Fld := ⟨18, 1, 0x54, 0, 3, .rw, .quiet, 4, fun _ => 2, 1, 4, false, .no [5, 6, 7]⟩
def STF_PATROL_DAYS : Fld := ⟨18, 1, 0x58, 16, 16, .rw, .quiet, 4, fun _ => 14, 1, 4, false, .rng 1 365⟩
def STF_PATROL_REFRESHTH : Fld := ⟨18, 1, 0x58, 0, 16, .rw, .quiet, 4, fun _ => 120, 1, 4, false, .rng 1 1000⟩
def STF_FWRINGL_ADDR : Fld := ⟨18, 1, 0x60, 11, 21, .rw, .stop, 4, fun _ => 0, 1, 4, false, .any⟩
def STF_FWRINGH_ADDR : Fld := ⟨18, 1, 0x64, 0, 11, .rw, .stop, 4, fun _ => 0, 1, 4, false, .any⟩
def STF_FWTAIL_GO : Fld := ⟨18, 1, 0x68, 31, 1, .wo, .live, 0, fun _ => 0, 1, 4, false, .any⟩
def STF_FWTAIL_CH : Fld := ⟨18, 1, 0x68, 8, 5, .rw, .live, 4, fun _ => 0, 1, 4, false, .any⟩
def STF_FWTAIL_TAIL : Fld := ⟨18, 1, 0x68, 0, 6, .rw, .live, 4, fun _ => 0, 1, 4, false, .any⟩
def STF_STAT_WALK : Fld := ⟨18, 1, 0x6c, 31, 1, .ro, .none, 1, fun _ => 0, 1, 4, false, .any⟩
def STF_STAT_GEOMBAD : Fld := ⟨18, 1, 0x6c, 30, 1, .ro, .none, 1, fun _ => 0, 1, 4, false, .any⟩
def STF_STAT_FREESB : Fld := ⟨18, 1, 0x6c, 0, 18, .ro, .none, 1, fun _ => 0, 1, 4, false, .any⟩
def STF_DIEFAIL : Fld := ⟨18, 1, 0x80, 0, 32, .ro, .none, 1, fun _ => 0, 32, 4, false, .any⟩
def KPF_CFG_DENSITY : Fld := ⟨17, 1, 0x40, 30, 2, .ro, .none, 5, fun _ => 0, 1, 4, false, .any⟩
def KPF_CFG_SUSPLAT : Fld := ⟨17, 1, 0x40, 8, 8, .ro, .none, 5, fun _ => 0, 1, 4, false, .any⟩
def KPF_CFG_SECTOR : Fld := ⟨17, 1, 0x40, 0, 8, .ro, .none, 5, fun _ => 0, 1, 4, false, .any⟩
def KPF_OPTSTAT_COPY : Fld := ⟨17, 1, 0x44, 30, 2, .ro, .none, 4, fun _ => 0, 1, 4, false, .any⟩
def KPF_OPTSTAT_RECORDS : Fld := ⟨17, 1, 0x44, 0, 14, .ro, .none, 4, fun _ => 0, 1, 4, false, .any⟩
def KPF_OPTGEN_GEN : Fld := ⟨17, 1, 0x48, 0, 32, .ro, .none, 4, fun _ => 0, 1, 4, false, .any⟩
def KPF_QDESC : Fld := ⟨17, 1, 0x50, 0, 32, .rw, .live, 4, fun _ => 0, 4, 4, false, .any⟩
def KPF_QCTL_PUSH : Fld := ⟨17, 1, 0x60, 31, 1, .wo, .live, 0, fun _ => 0, 1, 4, false, .any⟩
def KPF_QCTL_TAKE : Fld := ⟨17, 1, 0x60, 30, 1, .wo, .live, 0, fun _ => 0, 1, 4, false, .any⟩
def KPF_QSTAT_VALID : Fld := ⟨17, 1, 0x64, 31, 1, .ro, .none, 1, fun _ => 0, 1, 4, false, .any⟩
def KPF_QSTAT_DEPTH : Fld := ⟨17, 1, 0x64, 24, 5, .ro, .none, 1, fun _ => 0, 1, 4, false, .any⟩
def KPF_QSTAT_STATUS : Fld := ⟨17, 1, 0x64, 16, 8, .ro, .none, 1, fun _ => 0, 1, 4, false, .any⟩
def KPF_QSTAT_TAG : Fld := ⟨17, 1, 0x64, 0, 16, .ro, .none, 1, fun _ => 0, 1, 4, false, .any⟩
def PWR_CTL_AUTOON : Fld := ⟨12, 1, 0x40, 31, 1, .rw, .quiet, 5, fun _ => 0, 1, 4, false, .any⟩
def PWR_CTL_BTNMIN : Fld := ⟨12, 1, 0x40, 16, 8, .rw, .quiet, 5, fun _ => 10, 1, 4, false, .rng 1 255⟩
def PWR_CTL_EPFFILT : Fld := ⟨12, 1, 0x40, 8, 8, .rw, .quiet, 5, fun _ => 4, 1, 4, false, .rng 1 255⟩
def PWR_CTL_BOFILT : Fld := ⟨12, 1, 0x40, 0, 8, .rw, .quiet, 5, fun _ => 16, 1, 4, false, .rng 1 255⟩
def PWR_VIN_VINWARN : Fld := ⟨12, 1, 0x44, 16, 16, .rw, .quiet, 5, fun _ => 11000, 1, 4, false, .any⟩
def PWR_VIN_VINBO : Fld := ⟨12, 1, 0x44, 0, 16, .rw, .quiet, 5, fun _ => 10000, 1, 4, false, .any⟩
def PWR_SEQSTAT_PHASE : Fld := ⟨12, 1, 0x48, 30, 2, .ro, .none, 5, fun _ => 0, 1, 4, false, .any⟩
def PWR_SEQSTAT_ONLATCH : Fld := ⟨12, 1, 0x48, 29, 1, .ro, .none, 5, fun _ => 0, 1, 4, false, .any⟩
def PWR_SEQSTAT_OFFPEND : Fld := ⟨12, 1, 0x48, 28, 1, .ro, .none, 5, fun _ => 0, 1, 4, false, .any⟩
def PWR_SEQSTAT_STEP : Fld := ⟨12, 1, 0x48, 16, 6, .ro, .none, 5, fun _ => 0, 1, 4, false, .any⟩
def PWR_SEQSTAT_SEQBAD : Fld := ⟨12, 1, 0x48, 15, 1, .ro, .none, 5, fun _ => 0, 1, 4, false, .any⟩
def PWR_SEQSTAT_BADTAB : Fld := ⟨12, 1, 0x48, 14, 1, .ro, .none, 5, fun _ => 0, 1, 4, false, .any⟩
def PWR_SEQSTAT_BADSTEP : Fld := ⟨12, 1, 0x48, 8, 6, .ro, .none, 5, fun _ => 0, 1, 4, false, .any⟩
def PWR_UNSTABLE : Fld := ⟨12, 1, 0x4c, 0, 24, .ro, .none, 5, fun _ => 0, 1, 4, false, .any⟩
def PWR_TIMEOUT : Fld := ⟨12, 1, 0x50, 0, 24, .ro, .none, 5, fun _ => 0, 1, 4, false, .any⟩
def PWR_LOST : Fld := ⟨12, 1, 0x54, 0, 24, .ro, .none, 5, fun _ => 0, 1, 4, false, .any⟩
def PWR_PGSTAT : Fld := ⟨12, 1, 0x58, 0, 24, .ro, .none, 5, fun _ => 0, 1, 4, false, .any⟩
def PWR_ENSTAT : Fld := ⟨12, 1, 0x5c, 0, 24, .ro, .none, 5, fun _ => 0, 1, 4, false, .any⟩
def PWR_INSTAT_CHGEN : Fld := ⟨12, 1, 0x60, 5, 1, .ro, .none, 5, fun _ => 0, 1, 4, false, .any⟩
def PWR_INSTAT_MARGINED : Fld := ⟨12, 1, 0x60, 4, 1, .ro, .none, 5, fun _ => 0, 1, 4, false, .any⟩
def PWR_INSTAT_COLLAPSE : Fld := ⟨12, 1, 0x60, 3, 1, .ro, .none, 5, fun _ => 0, 1, 4, false, .any⟩
def PWR_INSTAT_BROWNOUT : Fld := ⟨12, 1, 0x60, 2, 1, .ro, .none, 5, fun _ => 0, 1, 4, false, .any⟩
def PWR_INSTAT_WARN : Fld := ⟨12, 1, 0x60, 1, 1, .ro, .none, 5, fun _ => 0, 1, 4, false, .any⟩
def PWR_INSTAT_EPFRAW : Fld := ⟨12, 1, 0x60, 0, 1, .ro, .none, 5, fun _ => 0, 1, 4, false, .any⟩
def PWR_MARGIN_GO : Fld := ⟨12, 1, 0x68, 31, 1, .wo, .live, 0, fun _ => 0, 1, 4, false, .any⟩
def PWR_MARGIN_RAIL : Fld := ⟨12, 1, 0x68, 24, 5, .rw, .live, 5, fun _ => 0, 1, 4, false, .rng 0 23⟩
def PWR_MARGIN_MODE : Fld := ⟨12, 1, 0x68, 0, 2, .rw, .live, 5, fun _ => 0, 1, 4, false, .no [3]⟩
def PWR_MARGSTAT_BUSY : Fld := ⟨12, 1, 0x6c, 31, 1, .ro, .none, 5, fun _ => 0, 1, 4, false, .any⟩
def PWR_MARGSTAT_REFUSED : Fld := ⟨12, 1, 0x6c, 30, 1, .ro, .none, 5, fun _ => 0, 1, 4, false, .any⟩
def PWR_MARGSTAT_RAILS : Fld := ⟨12, 1, 0x6c, 0, 24, .ro, .none, 5, fun _ => 0, 1, 4, false, .any⟩
def PWR_POWER_WATTS : Fld := ⟨12, 1, 0x70, 0, 16, .ro, .none, 5, fun _ => 0, 1, 4, false, .any⟩
def PWR_ADC : Fld := ⟨12, 1, 0x80, 0, 12, .ro, .none, 5, fun _ => 0, 10, 4, false, .any⟩
def PWR_RAIL_TELEM : Fld := ⟨12, 1, 0x100, 31, 1, .rw, .quiet, 5, fun _ => 0, 24, 4, false, .any⟩
def PWR_RAIL_PMBADDR : Fld := ⟨12, 1, 0x100, 24, 7, .rw, .quiet, 5, fun _ => 0, 24, 4, false, .any⟩
def PWR_RAIL_STAB : Fld := ⟨12, 1, 0x100, 16, 8, .rw, .quiet, 5, fun _ => 10, 24, 4, false, .rng 1 255⟩
def PWR_RAIL_FILTER : Fld := ⟨12, 1, 0x100, 8, 8, .rw, .quiet, 5, fun _ => 8, 24, 4, false, .rng 1 255⟩
def PWR_RAIL_LOSSACT : Fld := ⟨12, 1, 0x100, 7, 1, .rw, .quiet, 5, fun _ => 0, 24, 4, false, .any⟩
def PWR_PMBCMD_ADDR : Fld := ⟨12, 1, 0x200, 25, 7, .rw, .quiet, 5, fun _ => 0, 32, 8, false, .any⟩
def PWR_PMBCMD_LEN : Fld := ⟨12, 1, 0x200, 23, 2, .rw, .quiet, 5, fun _ => 0, 32, 8, false, .no [3]⟩
def PWR_PMBCMD_CMD : Fld := ⟨12, 1, 0x200, 0, 8, .rw, .quiet, 5, fun _ => 0, 32, 8, false, .any⟩
def PWR_PMBCMD_DATA : Fld := ⟨12, 1, 0x204, 0, 16, .rw, .quiet, 5, fun _ => 0, 32, 8, false, .any⟩
def PWR_RISE : Fld := ⟨12, 1, 0x400, 0, 32, .rw, .quiet, 5, fun _ => 0, 64, 4, true, .any⟩
def PWR_FALL : Fld := ⟨12, 1, 0x500, 0, 32, .rw, .quiet, 5, fun _ => 0, 64, 4, true, .any⟩
def RST_CAUSE_LEVEL : Fld := ⟨13, 1, 0x40, 29, 3, .ro, .none, 5, fun _ => 5, 1, 4, false, .any⟩
def RST_CAUSE_SOURCE : Fld := ⟨13, 1, 0x40, 26, 3, .ro, .none, 5, fun _ => 0, 1, 4, false, .any⟩
def RST_CAUSE_BLOCK : Fld := ⟨13, 1, 0x40, 18, 8, .ro, .none, 5, fun _ => 0, 1, 4, false, .any⟩
def RST_COUNT_COUNT : Fld := ⟨13, 1, 0x44, 0, 32, .ro, .none, 5, fun _ => 0, 1, 4, false, .any⟩
def RST_REACH : Fld := ⟨13, 1, 0x48, 0, 32, .ro, .none, 5, fun _ => 0x24552455, 1, 4, false, .any⟩
def RST_FUSE : Fld := ⟨13, 1, 0x4c, 0, 32, .ro, .none, 5, fun _ => 0, 1, 4, false, .any⟩
def RST_REQ_GO : Fld := ⟨13, 1, 0x50, 31, 1, .wo, .live, 0, fun _ => 0, 1, 4, false, .any⟩
def RST_REQ_BLOCK : Fld := ⟨13, 1, 0x50, 8, 8, .rw, .live, 5, fun _ => 0, 1, 4, false, .any⟩
def RST_REQ_LEVEL : Fld := ⟨13, 1, 0x50, 0, 3, .rw, .live, 5, fun _ => 0, 1, 4, false, .no [0, 6, 7]⟩
def RST_OUT_AUTO : Fld := ⟨13, 1, 0x60, 31, 1, .rw, .live, 5, fun i => ([0, 1, 1, 1].getD i 0), 4, 4, false, .any⟩
def RST_OUT_MINLVL : Fld := ⟨13, 1, 0x60, 28, 3, .rw, .live, 5, fun _ => 4, 4, 4, false, .rng 1 5⟩
def RST_OUT_STRETCH : Fld := ⟨13, 1, 0x60, 0, 16, .rw, .live, 5, fun _ => 10, 4, 4, false, .rng 1 1000⟩
def RST_OUTSTAT_ASSERTED : Fld := ⟨13, 1, 0x70, 0, 4, .ro, .none, 5, fun _ => 15, 1, 4, false, .any⟩
def RST_WRAP_WRAPTO : Fld := ⟨13, 1, 0x74, 0, 16, .rw, .live, 5, fun _ => 100, 1, 4, false, .rng 10 10000⟩
def RST_CLK_REFWAIT : Fld := ⟨13, 1, 0x78, 16, 16, .rw, .live, 5, fun _ => 100, 1, 4, false, .rng 1 60000⟩
def RST_CLK_SHAFTLOSS : Fld := ⟨13, 1, 0x78, 2, 1, .ro, .none, 5, fun _ => 0, 1, 4, false, .any⟩
def RST_CLK_LOCKLOSS : Fld := ⟨13, 1, 0x78, 1, 1, .ro, .none, 5, fun _ => 0, 1, 4, false, .any⟩
def RST_CLK_REFLOSS : Fld := ⟨13, 1, 0x78, 0, 1, .ro, .none, 5, fun _ => 0, 1, 4, false, .any⟩
def RST_RETAIN_LATCHED : Fld := ⟨13, 1, 0x7c, 1, 1, .ro, .none, 5, fun _ => 0, 1, 4, false, .any⟩
def RST_RETAIN_WARM : Fld := ⟨13, 1, 0x7c, 0, 1, .ro, .none, 5, fun _ => 0, 1, 4, false, .any⟩
def CLK_CFG_VCO : Fld := ⟨14, 1, 0x40, 0, 1, .rw, .stop, 5, fun _ => 0, 1, 4, false, .any⟩
def CLK_STAT_LOW : Fld := ⟨14, 1, 0x44, 3, 1, .ro, .none, 5, fun _ => 0, 1, 4, false, .any⟩
def CLK_STAT_LOCKED : Fld := ⟨14, 1, 0x44, 2, 1, .ro, .none, 5, fun _ => 0, 1, 4, false, .any⟩
def CLK_STAT_HOLDOVER : Fld := ⟨14, 1, 0x44, 1, 1, .ro, .none, 5, fun _ => 0, 1, 4, false, .any⟩
def CLK_STAT_SRC : Fld := ⟨14, 1, 0x44, 0, 1, .ro, .none, 5, fun _ => 0, 1, 4, false, .any⟩
def CLK_GATED_DOMAINS : Fld := ⟨14, 1, 0x48, 0, 28, .ro, .none, 5, fun _ => 134217723, 1, 4, false, .any⟩
def SEN_TJ_TJ : Fld := ⟨15, 1, 0x40, 0, 16, .ro, .none, 1, fun _ => 0, 1, 4, false, .any⟩
def SEN_LIMIT_TRIP : Fld := ⟨15, 1, 0x44, 8, 8, .rw, .quiet, 4, fun _ => 120, 1, 4, false, .rng 1 125⟩
def SEN_LIMIT_HOT : Fld := ⟨15, 1, 0x44, 0, 8, .rw, .quiet, 4, fun _ => 105, 1, 4, false, .any⟩
def SEN_FAILED : Fld := ⟨15, 1, 0x48, 0, 32, .ro, .none, 4, fun _ => 0, 1, 4, false, .any⟩
def SEN_FAILEDH : Fld := ⟨15, 1, 0x4c, 0, 16, .ro, .none, 4, fun _ => 0, 1, 4, false, .any⟩
def SEN_T : Fld := ⟨15, 1, 0x100, 0, 16, .ro, .none, 1, fun _ => 0, 48, 4, false, .any⟩
def SEN_V : Fld := ⟨15, 1, 0x200, 0, 16, .ro, .none, 1, fun _ => 0, 24, 4, false, .any⟩
def SEN_VNOM : Fld := ⟨15, 1, 0x280, 0, 16, .rw, .quiet, 4, fun _ => 0, 24, 4, false, .any⟩
def CAL_CTL_HOLD : Fld := ⟨16, 1, 0x40, 31, 1, .rw, .live, 4, fun _ => 0, 1, 4, false, .any⟩
def CAL_CTL_DRIFT : Fld := ⟨16, 1, 0x40, 0, 8, .rw, .quiet, 4, fun _ => 8, 1, 4, false, .rng 1 35⟩
def CAL_CMD_GO : Fld := ⟨16, 1, 0x44, 31, 1, .wo, .live, 0, fun _ => 0, 1, 4, false, .any⟩
def CAL_CMD_OP : Fld := ⟨16, 1, 0x44, 0, 2, .rw, .live, 4, fun _ => 0, 1, 4, false, .no [0]⟩
def CAL_STAT_BUSY : Fld := ⟨16, 1, 0x48, 31, 1, .ro, .none, 1, fun _ => 0, 1, 4, false, .any⟩
def CAL_STAT_SETSOK : Fld := ⟨16, 1, 0x48, 30, 1, .ro, .none, 4, fun _ => 0, 1, 4, false, .any⟩
def CAL_STAT_LASTTJ : Fld := ⟨16, 1, 0x48, 0, 16, .ro, .none, 4, fun _ => 0, 1, 4, false, .any⟩
def CAL_RUNS_RUNS : Fld := ⟨16, 1, 0x4c, 0, 32, .ro, .none, 4, fun _ => 0, 1, 4, false, .any⟩
def CAL_SETWIN : Fld := ⟨16, 1, 0x40000, 0, 32, .ro, .none, 4, fun _ => 0, 65536, 4, false, .any⟩
def CPX_CFG_FAILACT : Fld := ⟨5, 2, 0x40, 1, 1, .rw, .quiet, 4, fun _ => 0, 1, 4, false, .any⟩
def CPX_CFG_CKUSE : Fld := ⟨5, 2, 0x40, 0, 1, .rw, .quiet, 4, fun _ => 1, 1, 4, false, .any⟩
def CPX_STAT_TAKEOVER : Fld := ⟨5, 2, 0x44, 4, 1, .ro, .none, 4, fun _ => 0, 1, 4, false, .any⟩
def CPX_STAT_STATEB : Fld := ⟨5, 2, 0x44, 2, 2, .ro, .none, 5, fun _ => 0, 1, 4, false, .any⟩
def CPX_STAT_STATEA : Fld := ⟨5, 2, 0x44, 0, 2, .ro, .none, 5, fun _ => 1, 1, 4, false, .any⟩
def CPX_CKBASE_CKBASE : Fld := ⟨5, 2, 0x48, 0, 23, .rw, .stop, 4, fun _ => 0, 1, 4, false, .any⟩
def CPX_CKSIZE_CKSIZE : Fld := ⟨5, 2, 0x4c, 0, 20, .rw, .stop, 4, fun _ => 0, 1, 4, false, .any⟩
def CPX_CKPERIOD_PERIOD : Fld := ⟨5, 2, 0x50, 0, 16, .rw, .quiet, 4, fun _ => 10, 1, 4, false, .rng 1 1000⟩
def CPX_CKSEQL : Fld := ⟨5, 2, 0x54, 0, 32, .ro, .none, 4, fun _ => 0, 1, 4, false, .any⟩
def CPX_CKSEQH : Fld := ⟨5, 2, 0x58, 0, 32, .ro, .none, 4, fun _ => 0, 1, 4, false, .any⟩
def CPX_CKRANGES_NRANGES : Fld := ⟨5, 2, 0x5c, 0, 6, .rw, .quiet, 4, fun _ => 0, 1, 4, false, .rng 0 32⟩
def CPX_WDT_WDTIME : Fld := ⟨5, 2, 0x60, 16, 16, .rw, .quiet, 4, fun _ => 50, 1, 4, false, .rng 10 1000⟩
def CPX_WDT_LOCKTIME : Fld := ⟨5, 2, 0x60, 0, 16, .rw, .quiet, 4, fun _ => 1000, 1, 4, false, .rng 100 10000⟩
def CPX_CMBASE_CMBASE : Fld := ⟨5, 2, 0x64, 0, 23, .rw, .stop, 4, fun _ => 0, 1, 4, false, .any⟩
def CPX_SWITCH_GO : Fld := ⟨5, 2, 0x68, 31, 1, .wo, .live, 0, fun _ => 0, 1, 4, false, .any⟩
def CPX_SWITCH_OP : Fld := ⟨5, 2, 0x68, 0, 2, .rw, .live, 4, fun _ => 0, 1, 4, false, .no [0, 3]⟩
def CPX_RINGTAIL_GO : Fld := ⟨5, 2, 0x6c, 31, 1, .wo, .live, 0, fun _ => 0, 1, 4, false, .any⟩
def CPX_RINGTAIL_REFUSED : Fld := ⟨5, 2, 0x6c, 30, 1, .ro, .none, 1, fun _ => 0, 1, 4, false, .any⟩
def CPX_RINGTAIL_TAIL : Fld := ⟨5, 2, 0x6c, 18, 12, .rw, .live, 4, fun _ => 0, 1, 4, false, .any⟩
def CPX_RINGTAIL_INDEX : Fld := ⟨5, 2, 0x6c, 0, 18, .rw, .live, 4, fun _ => 0, 1, 4, false, .any⟩
def CPX_CKRANGE_ADDRL : Fld := ⟨5, 2, 0x100, 6, 26, .rw, .quiet, 4, fun _ => 0, 32, 16, false, .any⟩
def CPX_CKRANGE_ADDRH : Fld := ⟨5, 2, 0x104, 0, 11, .rw, .quiet, 4, fun _ => 0, 32, 16, false, .any⟩
def CPX_CKRANGE_LEN : Fld := ⟨5, 2, 0x108, 0, 32, .rw, .quiet, 4, fun _ => 0, 32, 16, false, .any⟩
def CPX_DOORBELL : Fld := ⟨5, 2, 0x40000, 0, 32, .ro, .none, 4, fun _ => 0, 8192, 4, false, .any⟩
def CPX_CORES_ENABLED : Fld := ⟨5, 2, 0x300, 0, 4, .rw, .stop, 4, fun _ => 15, 1, 4, false, .any⟩
def CPX_WDKICK_KICK : Fld := ⟨5, 2, 0x304, 0, 4, .wo, .live, 0, fun _ => 0, 1, 4, false, .any⟩
def CPX_CKGO_GO : Fld := ⟨5, 2, 0x308, 0, 1, .wo, .live, 0, fun _ => 0, 1, 4, false, .any⟩
def CPX_ALIVE_GO : Fld := ⟨5, 2, 0x30c, 0, 1, .wo, .live, 0, fun _ => 0, 1, 4, false, .any⟩
def CPX_RESUMEL : Fld := ⟨5, 2, 0x310, 0, 32, .rw, .live, 4, fun _ => 0, 1, 4, false, .any⟩
def CPX_RESUMEH : Fld := ⟨5, 2, 0x314, 0, 32, .rw, .live, 4, fun _ => 0, 1, 4, false, .any⟩
def EVT_HEADL : Fld := ⟨2, 1, 0x40, 0, 32, .ro, .none, 4, fun _ => 0, 1, 4, false, .any⟩
def EVT_HEADH : Fld := ⟨2, 1, 0x44, 0, 32, .ro, .none, 4, fun _ => 0, 1, 4, false, .any⟩
def EVT_OLDESTL : Fld := ⟨2, 1, 0x48, 0, 32, .ro, .none, 4, fun _ => 0, 1, 4, false, .any⟩
def EVT_OLDESTH : Fld := ⟨2, 1, 0x4c, 0, 32, .ro, .none, 4, fun _ => 0, 1, 4, false, .any⟩
def EVT_RINGCTL_HALF : Fld := ⟨2, 1, 0x50, 0, 1, .rw, .live, 4, fun _ => 0, 1, 4, false, .any⟩
def EVT_ACKL : Fld := ⟨2, 1, 0x80, 0, 32, .rw, .live, 4, fun _ => 0, 32, 8, false, .any⟩
def EVT_ACKH : Fld := ⟨2, 1, 0x84, 0, 32, .rw, .live, 4, fun _ => 0, 32, 8, false, .any⟩
def EVT_KIND : Fld := ⟨2, 1, 0x2000, 0, 32, .rw, .live, 4, kindDefault, 800, 4, false, .any⟩
def STB_STAT_QUEUED : Fld := ⟨3, 1, 0x40, 24, 6, .ro, .none, 1, fun _ => 0, 1, 4, false, .any⟩
def STB_STAT_SCAN : Fld := ⟨3, 1, 0x40, 2, 1, .ro, .none, 1, fun _ => 0, 1, 4, false, .any⟩
def STB_STAT_QFULL : Fld := ⟨3, 1, 0x40, 1, 1, .ro, .none, 1, fun _ => 0, 1, 4, false, .any⟩
def STB_STAT_ERASING : Fld := ⟨3, 1, 0x40, 0, 1, .ro, .none, 1, fun _ => 0, 1, 4, false, .any⟩
def STB_NEXTL : Fld := ⟨3, 1, 0x44, 0, 32, .ro, .none, 4, fun _ => 0, 1, 4, false, .any⟩
def STB_NEXTH : Fld := ⟨3, 1, 0x48, 0, 32, .ro, .none, 4, fun _ => 0, 1, 4, false, .any⟩
def STB_POSA : Fld := ⟨3, 1, 0x4c, 0, 32, .ro, .none, 4, fun _ => 0, 1, 4, false, .any⟩
def STB_POSB : Fld := ⟨3, 1, 0x50, 0, 32, .ro, .none, 4, fun _ => 0, 1, 4, false, .any⟩
def STB_MINSEV_MINSEV : Fld := ⟨3, 1, 0x54, 0, 3, .rw, .quiet, 4, fun _ => 3, 1, 4, false, .rng 2 4⟩
def UPD_STAT_STAGING : Fld := ⟨4, 1, 0x40, 28, 4, .ro, .none, 4, fun _ => 0, 1, 4, false, .any⟩
def UPD_STAT_REASON : Fld := ⟨4, 1, 0x40, 24, 4, .ro, .none, 4, fun _ => 0, 1, 4, false, .any⟩
def UPD_STAT_PART : Fld := ⟨4, 1, 0x40, 16, 8, .ro, .none, 4, fun _ => 0, 1, 4, false, .any⟩
def UPD_STAT_PROGRESS : Fld := ⟨4, 1, 0x40, 0, 16, .ro, .none, 1, fun _ => 0, 1, 4, false, .any⟩
def UPD_ACTIVE_FALLBACK : Fld := ⟨4, 1, 0x44, 1, 1, .ro, .none, 4, fun _ => 0, 1, 4, false, .any⟩
def UPD_ACTIVE_SLOT : Fld := ⟨4, 1, 0x44, 0, 1, .ro, .none, 4, fun _ => 0, 1, 4, false, .any⟩
def UPD_COMMITL : Fld := ⟨4, 1, 0x48, 0, 32, .ro, .none, 4, fun _ => 0, 1, 4, false, .any⟩
def UPD_COMMITH : Fld := ⟨4, 1, 0x4c, 0, 32, .ro, .none, 4, fun _ => 0, 1, 4, false, .any⟩
def UPD_CMD_GO : Fld := ⟨4, 1, 0x50, 31, 1, .wo, .live, 0, fun _ => 0, 1, 4, false, .any⟩
def UPD_CMD_OP : Fld := ⟨4, 1, 0x50, 0, 1, .rw, .live, 4, fun _ => 0, 1, 4, false, .no [0]⟩
def SVC_CFG_ENABLE : Fld := ⟨10, 1, 0x40, 0, 1, .rw, .quiet, 4, fun _ => 1, 1, 4, false, .any⟩
def SVC_STAT_SESSION : Fld := ⟨10, 1, 0x44, 2, 1, .ro, .none, 1, fun _ => 0, 1, 4, false, .any⟩
def SVC_STAT_CONFIGURED : Fld := ⟨10, 1, 0x44, 1, 1, .ro, .none, 1, fun _ => 0, 1, 4, false, .any⟩
def SVC_STAT_VBUS : Fld := ⟨10, 1, 0x44, 0, 1, .ro, .none, 1, fun _ => 0, 1, 4, false, .any⟩
def KEY_STAT_DEBUG : Fld := ⟨7, 1, 0x40, 31, 1, .ro, .none, 5, fun _ => 0, 1, 4, false, .any⟩
def KEY_STAT_NOENTROPY : Fld := ⟨7, 1, 0x40, 30, 1, .ro, .none, 1, fun _ => 0, 1, 4, false, .any⟩
def KEY_STAT_LOADED : Fld := ⟨7, 1, 0x40, 8, 4, .ro, .none, 4, fun _ => 0, 1, 4, false, .any⟩
def KEY_STAT_QDEPTH : Fld := ⟨7, 1, 0x40, 0, 7, .ro, .none, 1, fun _ => 0, 1, 4, false, .any⟩
def KEY_ROLLBACK_COUNT : Fld := ⟨7, 1, 0x44, 0, 7, .ro, .none, 5, fun _ => 0, 1, 4, false, .any⟩
def KEY_QDESC : Fld := ⟨7, 1, 0x50, 0, 32, .rw, .live, 4, fun _ => 0, 8, 4, false, .any⟩
def KEY_QCTL_PUSH : Fld := ⟨7, 1, 0x70, 31, 1, .wo, .live, 0, fun _ => 0, 1, 4, false, .any⟩
def KEY_QCTL_TAKE : Fld := ⟨7, 1, 0x70, 30, 1, .wo, .live, 0, fun _ => 0, 1, 4, false, .any⟩
def KEY_QSTAT_VALID : Fld := ⟨7, 1, 0x74, 31, 1, .ro, .none, 1, fun _ => 0, 1, 4, false, .any⟩
def KEY_QSTAT_STATUS : Fld := ⟨7, 1, 0x74, 16, 8, .ro, .none, 1, fun _ => 0, 1, 4, false, .any⟩
def KEY_QSTAT_TAG : Fld := ⟨7, 1, 0x74, 0, 16, .ro, .none, 1, fun _ => 0, 1, 4, false, .any⟩
def KEY_WRAP : Fld := ⟨7, 1, 0x100, 0, 32, .rw, .quiet, 4, fun _ => 0, 64, 4, false, .any⟩
def XTS_STAT_LANEFAIL : Fld := ⟨8, 1, 0x40, 0, 32, .ro, .none, 4, fun _ => 0, 1, 4, false, .any⟩

/-- The fields of every GAI register. -/
def allGAI : List Fld :=
  [GAI_ROW_DIVSET, GAI_ROW_LANES, GAI_ROW_DIRTYFRAC, GAI_ROW_CLEANRATE, GAI_ROW_GROOMMUL, GAI_ROW_MSWEIGHT, GAI_ROW_PPBIAS, GAI_ROW_MIGRATE, GAI_ROW_WH, GAI_ROW_WM, GAI_ROW_WT, GAI_ROW_WS] ++
  [GAI_ROW_WG, GAI_ROW_WC, GAI_ROW_PWRCAP, GAI_CUR_LATCHED, GAI_CUR_LATCHPEND, GAI_CUR_CURRENT, GAI_CUR_CHANGE, GAI_STATUS_ROW_REFUSED, GAI_STATUS_REFROW, GAI_REQ_GO, GAI_REQ_GAIT, GAI_SHADOW_COMMIT] ++
  [GAI_SHADOW_LOADDEF, GAI_RELINK_PENDING]
/-- The common gate-page fields of every block (Table 2.13). -/
def allBLK : List Fld :=
  [BLKCTRL_GRPCOMMIT, BLKCTRL_SNAP, BLKCTRL_GO, BLKSTAT_QUIETLATE, BLKSTAT_CFGMIS, BLKSTAT_ISOLATED, BLKSTAT_SHADOWPEND, BLKSTAT_REFUSED, BLKSTAT_STOPPING, BLKSTAT_RUNNING, SNAPGEN_GEN, CFGCRC_CRC] ++
  [CFGREF_REF]
/-- The fields of every DIC register. -/
def allDIC : List Fld :=
  [DIC_SNAPCTL_GO, DIC_SNAPGEN_GEN, DIC_EXTADDRL_ADDR, DIC_EXTADDRH_ADDR, DIC_EXTCOUNT_COUNT, DIC_EXTLOAD_GO, DIC_EXTLOAD_CLEAR, DIC_EXTSTAT_BUSY, DIC_EXTSTAT_REFUSED, DIC_EXTSTAT_LOADED, DIC_HITEM, DIC_HANS_GO] ++
  [DIC_HANS_LEN, DIC_HANS_STATUS, DIC_HVALL, DIC_HVALH, DIC_HBUF]
/-- The fields of every MGT register. -/
def allMGT : List Fld :=
  [MGT_MACL_MAC, MGT_MACH_MAC, MGT_IP4_ADDR, MGT_IP6, MGT_VLAN_TAGGED, MGT_VLAN_VID, MGT_CFG_SMBEN, MGT_CFG_ENABLE, MGT_SMB_EID, MGT_SMB_SMBADDR, MGT_MDIO_GO, MGT_MDIO_WRITE] ++
  [MGT_MDIO_PHYAD, MGT_MDIO_REGAD, MGT_MDIO_DATA, MGT_MDIOSTAT_BUSY, MGT_MDIOSTAT_RDATA, MGT_LINK_UP, MGT_LINK_FULLDUP, MGT_LINK_SPEED]
/-- The fields of every PCI register. -/
def allPCI : List Fld :=
  [PCI_SUBSYS_SUBID, PCI_SUBSYS_SUBVID, PCI_CFG_ENABLE, PCI_STAT_LINKUP, PCI_STAT_SPEED, PCI_STAT_WIDTH, PCI_STAT_DSTATE]
/-- The fields of every DRC register. -/
def allDRC : List Fld :=
  [DRC_ADDRMAP_GRAIN, DRC_ADDRMAP_WIDTH, DRC_ADDRMAP_ORDER, DRC_ADDRMAP_ROWBITS, DRC_ADDRMAP_RANKBITS, DRC_CFG_DPC, DRC_CFG_SPEED, DRC_PAGEPOL_FREEZE, DRC_PAGEPOL_BIAS, DRC_PAGEPOL_IDLECLOSE, DRC_REF_MODE, DRC_REF_POSTPONE] ++
  [DRC_REF_HOTTHR, DRC_SR_ENSR, DRC_SR_RANKSR, DRC_SR_RANKIDLE, DRC_ECCCTL_AUTOMARK, DRC_ECCCTL_MARKWIN, DRC_ECCCTL_MARKTH, DRC_MARK_MARK, DRC_ERRLOG0_CA, DRC_ERRLOG1_VALID, DRC_ERRLOG1_OUTCOME, DRC_ERRLOG1_DEVICE] ++
  [DRC_ERRLOG1_CA, DRC_TEMP_DIMM1, DRC_TEMP_DIMM0, DRC_OSC_OSCTH, DRC_TRNCTL_GO, DRC_TRNCTL_COUNT, DRC_TRNCTL_SC, DRC_TRNCTL_RANK, DRC_TRNCTL_OP, DRC_TRNSTAT_ERRBURSTS, DRC_TRNSTAT_REFUSED, DRC_TRNSTAT_FAIL] ++
  [DRC_TRNSTAT_BUSY, DRC_TRNPAT_KIND, DRC_TRNPAT_SEED, DRC_TRNADDR_BG, DRC_TRNADDR_BANK, DRC_TRNADDR_ROW, DRC_TRNERR, DRC_WRDLY, DRC_RDDLY, DRC_RDVREF]
/-- The fields of every TRN register. -/
def allTRN : List Fld :=
  [TRN_PSPACE_PEXT, TRN_DGROUPS_DGROUPS, TRN_MAPSTAT_LAYOUTOK, TRN_MAPSTAT_BADLAYOUT, TRN_MAPSTAT_MAPEND, TRN_EXTBASE, TRN_FRMBASE, TRN_STMBASE, TRN_UPDADDRL_ADDR, TRN_UPDADDRH_ADDR, TRN_UPDCTL_GO, TRN_UPDCTL_SIZE] ++
  [TRN_UPDSTAT_UPDREFUSED, TRN_UPDSTAT_UPDBUSY, TRN_INVAL_PORTS, TRN_INVAL_L2, TRN_INVAL_L1, TRN_INVSTAT_INVBUSY, TRN_AGE_FREEZE, TRN_AGE_PERIOD, TRN_HOPCFG_HIWATER, TRN_HOPCFG_DEADLINE, TRN_HOPSTAT_EMPTY, TRN_HOPSTAT_LINES] ++
  [TRN_UPDDATA]
/-- The fields of every PRT register. -/
def allPRT : List Fld :=
  [PRT_MODE_MEDIA, PRT_MODE_MODE, PRT_LINKSTAT_FECALARM, PRT_LINKSTAT_UP, PRT_LINKSTAT_LANES, PRT_RELINK_SUB, PRT_PFC_PRIO, PRT_PFC_RXEN, PRT_PFC_TXEN, PRT_FECTH_FECTH, PRT_MACL, PRT_MACH] ++
  [PRT_IP4, PRT_IP6, PRT_VLAN_TAGGED, PRT_VLAN_VID]
/-- The fields of every XPT register. -/
def allXPT : List Fld :=
  [XPT_CTXCFG_LOC, XPT_CTXCFG_DGROUP, XPT_CTXHBASE_HPAGE, XPT_CTXSHARE_SHARE, XPT_FETCH_HTIMEOUT, XPT_MISSSTAT_FULL, XPT_MISSSTAT_BYTES, XPT_ACKCOAL_COUNT, XPT_ACKCOAL_DELAY, XPT_REIN_FREEZE, XPT_REIN_MAX, XPT_REIN_MIN] ++
  [XPT_REINTH_HI, XPT_REINTH_LO, XPT_REINSTAT_FLOOR, XPT_REINSTAT_WIN, XPT_ADMIT_CNPTH, XPT_ADMIT_HELD, XPT_CNP_NPEN, XPT_CNP_ECTMARK, XPT_CNP_CNPDSCP, XPT_CNP_NPINTV, XPT_RP_CUT, XPT_RP_RAI] ++
  [XPT_RP_RAIPER, XPT_RTO_RTOINIT, XPT_RTO_RETRY, XPT_RTO_RNRRETRY, XPT_QPUPD_GO, XPT_QPUPD_OP, XPT_QPUPD_INDEX, XPT_QPUPDSTAT_REFUSED, XPT_QPUPDSTAT_BUSY, XPT_QPDATA]
/-- The fields of every TWN register. -/
def allTWN : List Fld :=
  [TWN_CFG_HBBEN, TWN_CFG_SOLOPREF, TWN_CFG_SIDE, TWN_WAIT_PAIRWAIT, TWN_LANECFG_FREEZE, TWN_LANECFG_WMIN, TWN_LANECFG_LANEEN, TWN_LANEADAPT_PROBATION, TWN_LANEADAPT_WIDENGAP, TWN_LANETH_DROPTH, TWN_LINKTIME_RPLIMIT, TWN_LINKTIME_RETRAINS] ++
  [TWN_LINKTIME_SILENCE, TWN_RPTIMER_RPTIMER, TWN_LANESTAT_WIDTH, TWN_LANESTAT_ACTIVE, TWN_PROBSTAT_PROBATION, TWN_STATE_HBBLIVE, TWN_STATE_HBALIVE, TWN_STATE_ROLE, TWN_STATE_LEAD, TWN_STATE_TSTATE, TWN_LOGBASE_LOGBASE, TWN_LOGSIZE_LOGSIZE] ++
  [TWN_RESYNC_PAUSE, TWN_RESYNC_RATE, TWN_PENDSTAT_FULL, TWN_PENDSTAT_ENTRIES, TWN_LOGSTAT_EXTENTS, TWN_FENCESTAT_FENCED, TWN_CMD_GO, TWN_CMD_OP, TWN_CMDSTAT_REASON, TWN_CMDSTAT_REFUSED, TWN_CMDSTAT_BUSY, TWN_PAIRIDL] ++
  [TWN_PAIRIDH, TWN_PGENL, TWN_PGENH]
/-- The fields of every TIE register. -/
def allTIE : List Fld :=
  [TIE_DATABASE_DATABASE, TIE_CHGBASE_BASE, TIE_CHGSIZE_SIZE, TIE_LOWATER_LOWATER, TIE_HIWATER_HIWATER, TIE_FREE_FREE, TIE_HEAT_FREEZE, TIE_HEAT_SAMPLE, TIE_HEAT_TICK, TIE_QOVER_QOVER, TIE_STAT_REBUILD, TIE_STAT_POOLLOW] ++
  [TIE_STAT_HSTATE, TIE_HCFG_HTIMEOUT, TIE_HCTL_GO, TIE_HCTL_OP, TIE_TPOL, TIE_TENCTL_GO, TIE_TENCTL_OP, TIE_TENCTL_INDEX, TIE_TENDATA, TIE_HLENDL, TIE_HLENDH, TIE_HPAGES]
/-- The fields of every GOV register. -/
def allGOV : List Fld :=
  [GOV_CTL_FREEZE, GOV_CTL_MODEN, GOV_CAP_CAP, GOV_RESERVE_RESERVE, GOV_ESEFF_ESEFF, GOV_SAVEPWR_SAVEPWR, GOV_RATE_RATEPROG, GOV_RATE_RDERATE, GOV_RATE_PDERATE, GOV_TFIX_TFIX, GOV_MARGIN_MIRRES, GOV_MARGIN_MARGIN] ++
  [GOV_CLEAN_LO, GOV_CLEAN_HI, GOV_VCUT_VCUT, GOV_CNOM_CNOM, GOV_RBLEED_RBLEED, GOV_ERR_CERR, GOV_ERR_VERR, GOV_STEP_STEPDV, GOV_CAPTEST_TESTMS, GOV_CAPTEST_PERIOD, GOV_STAT_FAILED, GOV_STAT_CLEANMAX] ++
  [GOV_STAT_TESTING, GOV_STAT_STATE, GOV_CEILING, GOV_LIMIT, GOV_DIRTY, GOV_OUT, GOV_EAVAIL_J, GOV_CLEANREQ_RATE, GOV_PMEAS, GOV_RMEAS, GOV_VMOD, GOV_CMEAS]
/-- The fields of every SAV register. -/
def allSAV : List Fld :=
  [SAV_ANCHORA_CH, SAV_ANCHORB_CH, SAV_ANCHORA_DIE, SAV_ANCHORB_DIE, SAV_ANCHORA_BLOCK, SAV_ANCHORB_BLOCK, SAV_AREA_SBCOUNT, SAV_AREA_SBBASE, SAV_REHEARSE_SB, SAV_REHEARSE_SIZE, SAV_REHEARSE_PERIOD, SAV_GATE_FWOK] ++
  [SAV_GATE_GATEMIN, SAV_SHUTRES_SHUTRES, SAV_STAT_GATEMISS, SAV_STAT_PHASE, SAV_PROGRESS_PAGES, SAV_ERASED_MIB, SAV_SEALSEQL, SAV_SEALSEQH, SAV_FIRSTSB_SB]
/-- The fields of every MST register. -/
def allMST : List Fld :=
  [MST_JLBASEL, MST_JLBASEH, MST_JLPAGES_JLPAGES, MST_DEFAULTS_STAGETO, MST_DEFAULTS_QUANTUM, MST_SUBMIT_GO, MST_SUBMIT_OP, MST_SUBMIT_INDEX, MST_SUBSTAT_BUSY, MST_SUBSTAT_RESULT, MST_QUEUE_ACTIVE, MST_QUEUE_QUEUED] ++
  [MST_CSTAT_FULL, MST_CSTAT_ENTRIES, MST_CENTRYL_ERROR, MST_CENTRYL_JSTATE, MST_CENTRYL_INDEX, MST_CENTRYH_JSEQ, MST_CTAKE_TAKE, MST_JWADDRL, MST_JWADDRH, MST_JWCTL_GO, MST_JWSTAT_REFUSED, MST_JWSTAT_BUSY] ++
  [MST_QPUPD_GO, MST_QPUPD_OP, MST_QPUPD_INDEX, MST_QPUPDSTAT_REFUSED, MST_QPUPDSTAT_BUSY, MST_SHASTAT_INUSE, MST_JWDATA, MST_QPDATA, MST_HOLD_HOLD, MST_STAT_MODE, MST_STAT_READY, MST_STAT_SLOTS] ++
  [MST_BUF_FREE]
/-- The fields of every GRM register. -/
def allGRM : List Fld :=
  [GRM_PASS_PERIOD, GRM_PASS_DEADLINE, GRM_ADAPT_FREEZE, GRM_ADAPT_MAXMUL, GRM_ADAPT_CETH, GRM_STAT_FLOOR, GRM_STAT_MUL, GRM_STAT_PROGRESS, GRM_PASSES_PASSES]
/-- The fields of every FAR register. -/
def allFAR : List Fld :=
  [FAR_CFG_RETRYGAP, FAR_CFG_WAITREL, FAR_OWNER_HELD, FAR_OWNER_WAITERS, FAR_OWNER_OWNER]
/-- The fields of every STF register. -/
def allSTF : List Fld :=
  [STF_GEOM_DPCLOG, STF_GEOM_BPDM1, STF_GEOM_PLANELOG, STF_GEOM_PPB, STF_STRIPE_STRIPEWAIT, STF_RECLAIM_HIWATER, STF_RECLAIM_LOWATER, STF_SUSP_ESUSPMAX, STF_SUSP_PSUSPMAX, STF_SUSP_ERESMIN, STF_TRACK_FREEZE, STF_TRACK_MAXOFF] ++
  [STF_TRACK_TRACKN, STF_READ_SIGTH, STF_READ_RETRYMAX, STF_PATROL_DAYS, STF_PATROL_REFRESHTH, STF_FWRINGL_ADDR, STF_FWRINGH_ADDR, STF_FWTAIL_GO, STF_FWTAIL_CH, STF_FWTAIL_TAIL, STF_STAT_WALK, STF_STAT_GEOMBAD] ++
  [STF_STAT_FREESB, STF_DIEFAIL]
/-- The fields of every KPF register. -/
def allKPF : List Fld :=
  [KPF_CFG_DENSITY, KPF_CFG_SUSPLAT, KPF_CFG_SECTOR, KPF_OPTSTAT_COPY, KPF_OPTSTAT_RECORDS, KPF_OPTGEN_GEN, KPF_QDESC, KPF_QCTL_PUSH, KPF_QCTL_TAKE, KPF_QSTAT_VALID, KPF_QSTAT_DEPTH, KPF_QSTAT_STATUS] ++
  [KPF_QSTAT_TAG]
/-- The fields of every PWR register. -/
def allPWR : List Fld :=
  [PWR_CTL_AUTOON, PWR_CTL_BTNMIN, PWR_CTL_EPFFILT, PWR_CTL_BOFILT, PWR_VIN_VINWARN, PWR_VIN_VINBO, PWR_SEQSTAT_PHASE, PWR_SEQSTAT_ONLATCH, PWR_SEQSTAT_OFFPEND, PWR_SEQSTAT_STEP, PWR_SEQSTAT_SEQBAD, PWR_SEQSTAT_BADTAB] ++
  [PWR_SEQSTAT_BADSTEP, PWR_UNSTABLE, PWR_TIMEOUT, PWR_LOST, PWR_PGSTAT, PWR_ENSTAT, PWR_INSTAT_CHGEN, PWR_INSTAT_MARGINED, PWR_INSTAT_COLLAPSE, PWR_INSTAT_BROWNOUT, PWR_INSTAT_WARN, PWR_INSTAT_EPFRAW] ++
  [PWR_MARGIN_GO, PWR_MARGIN_RAIL, PWR_MARGIN_MODE, PWR_MARGSTAT_BUSY, PWR_MARGSTAT_REFUSED, PWR_MARGSTAT_RAILS, PWR_POWER_WATTS, PWR_ADC, PWR_RAIL_TELEM, PWR_RAIL_PMBADDR, PWR_RAIL_STAB, PWR_RAIL_FILTER] ++
  [PWR_RAIL_LOSSACT, PWR_PMBCMD_ADDR, PWR_PMBCMD_LEN, PWR_PMBCMD_CMD, PWR_PMBCMD_DATA, PWR_RISE, PWR_FALL]
/-- The fields of every RST register. -/
def allRST : List Fld :=
  [RST_CAUSE_LEVEL, RST_CAUSE_SOURCE, RST_CAUSE_BLOCK, RST_COUNT_COUNT, RST_REACH, RST_FUSE, RST_REQ_GO, RST_REQ_BLOCK, RST_REQ_LEVEL, RST_OUT_AUTO, RST_OUT_MINLVL, RST_OUT_STRETCH] ++
  [RST_OUTSTAT_ASSERTED, RST_WRAP_WRAPTO, RST_CLK_REFWAIT, RST_CLK_SHAFTLOSS, RST_CLK_LOCKLOSS, RST_CLK_REFLOSS, RST_RETAIN_LATCHED, RST_RETAIN_WARM]
/-- The fields of every CLK register. -/
def allCLK : List Fld :=
  [CLK_CFG_VCO, CLK_STAT_LOW, CLK_STAT_LOCKED, CLK_STAT_HOLDOVER, CLK_STAT_SRC, CLK_GATED_DOMAINS]
/-- The fields of every SEN register. -/
def allSEN : List Fld :=
  [SEN_TJ_TJ, SEN_LIMIT_TRIP, SEN_LIMIT_HOT, SEN_FAILED, SEN_FAILEDH, SEN_T, SEN_V, SEN_VNOM]
/-- The fields of every CAL register. -/
def allCAL : List Fld :=
  [CAL_CTL_HOLD, CAL_CTL_DRIFT, CAL_CMD_GO, CAL_CMD_OP, CAL_STAT_BUSY, CAL_STAT_SETSOK, CAL_STAT_LASTTJ, CAL_RUNS_RUNS, CAL_SETWIN]
/-- The fields of every CPX register. -/
def allCPX : List Fld :=
  [CPX_CFG_FAILACT, CPX_CFG_CKUSE, CPX_STAT_TAKEOVER, CPX_STAT_STATEB, CPX_STAT_STATEA, CPX_CKBASE_CKBASE, CPX_CKSIZE_CKSIZE, CPX_CKPERIOD_PERIOD, CPX_CKSEQL, CPX_CKSEQH, CPX_CKRANGES_NRANGES, CPX_WDT_WDTIME] ++
  [CPX_WDT_LOCKTIME, CPX_CMBASE_CMBASE, CPX_SWITCH_GO, CPX_SWITCH_OP, CPX_RINGTAIL_GO, CPX_RINGTAIL_REFUSED, CPX_RINGTAIL_TAIL, CPX_RINGTAIL_INDEX, CPX_CKRANGE_ADDRL, CPX_CKRANGE_ADDRH, CPX_CKRANGE_LEN, CPX_DOORBELL] ++
  [CPX_CORES_ENABLED, CPX_WDKICK_KICK, CPX_CKGO_GO, CPX_ALIVE_GO, CPX_RESUMEL, CPX_RESUMEH]
/-- The fields of every EVT register. -/
def allEVT : List Fld :=
  [EVT_HEADL, EVT_HEADH, EVT_OLDESTL, EVT_OLDESTH, EVT_RINGCTL_HALF, EVT_ACKL, EVT_ACKH, EVT_KIND]
/-- The fields of every STB register. -/
def allSTB : List Fld :=
  [STB_STAT_QUEUED, STB_STAT_SCAN, STB_STAT_QFULL, STB_STAT_ERASING, STB_NEXTL, STB_NEXTH, STB_POSA, STB_POSB, STB_MINSEV_MINSEV]
/-- The fields of every UPD register. -/
def allUPD : List Fld :=
  [UPD_STAT_STAGING, UPD_STAT_REASON, UPD_STAT_PART, UPD_STAT_PROGRESS, UPD_ACTIVE_FALLBACK, UPD_ACTIVE_SLOT, UPD_COMMITL, UPD_COMMITH, UPD_CMD_GO, UPD_CMD_OP]
/-- The fields of every SVC register. -/
def allSVC : List Fld :=
  [SVC_CFG_ENABLE, SVC_STAT_SESSION, SVC_STAT_CONFIGURED, SVC_STAT_VBUS]
/-- The fields of every KEY register. -/
def allKEY : List Fld :=
  [KEY_STAT_DEBUG, KEY_STAT_NOENTROPY, KEY_STAT_LOADED, KEY_STAT_QDEPTH, KEY_ROLLBACK_COUNT, KEY_QDESC, KEY_QCTL_PUSH, KEY_QCTL_TAKE, KEY_QSTAT_VALID, KEY_QSTAT_STATUS, KEY_QSTAT_TAG, KEY_WRAP]
/-- The fields of every XTS register. -/
def allXTS : List Fld :=
  [XTS_STAT_LANEFAIL]
end R

/-- The fields of block n beyond the common gate page (Table 2.12). -/
def ownFields (n : Nat) : List Fld :=
  if n ≤ 0 then R.allGAI else
  if n ≤ 1 then R.allDIC else
  if n ≤ 2 then R.allEVT else
  if n ≤ 3 then R.allSTB else
  if n ≤ 4 then R.allUPD else
  if n ≤ 6 then R.allCPX else
  if n ≤ 7 then R.allKEY else
  if n ≤ 8 then R.allXTS else
  if n ≤ 9 then R.allPCI else
  if n ≤ 10 then R.allSVC else
  if n ≤ 11 then R.allMGT else
  if n ≤ 12 then R.allPWR else
  if n ≤ 13 then R.allRST else
  if n ≤ 14 then R.allCLK else
  if n ≤ 15 then R.allSEN else
  if n ≤ 16 then R.allCAL else
  if n ≤ 17 then R.allKPF else
  if n ≤ 18 then R.allSTF else
  if n ≤ 19 then R.allGRM else
  if n ≤ 20 then R.allFAR else
  if n ≤ 21 then R.allGOV else
  if n ≤ 22 then R.allSAV else
  if n ≤ 23 then R.allTIE else
  if n ≤ 24 then R.allTWN else
  if n ≤ 25 then R.allTRN else
  if n ≤ 29 then R.allPRT else
  if n ≤ 33 then R.allXPT else
  if n ≤ 41 then R.allMST else
  if n ≤ 57 then R.allDRC else
  []

/-- Every field of block n, the common ones first. -/
def fieldsOf (n : Nat) : List Fld := if n < 58 then R.allBLK ++ ownFields n else []

/-! Counters: 64 bits each, at the offsets that the chapters list after their register tables. -/
namespace C

def TRN_L1HIT : Ctr := ⟨25, 1, 0x10000, 4, 16⟩
def TRN_L1MISS : Ctr := ⟨25, 1, 0x10008, 4, 16⟩
def TRN_L2MISS : Ctr := ⟨25, 1, 0x10040, 1, 8⟩
def TRN_STALEFILL : Ctr := ⟨25, 1, 0x10048, 1, 8⟩
def TRN_HOPMERGE : Ctr := ⟨25, 1, 0x10050, 1, 8⟩
def TRN_CHKFAIL : Ctr := ⟨25, 1, 0x10058, 7, 8⟩
def PRT_RXFRAMES : Ctr := ⟨26, 4, 0x10000, 4, 64⟩
def PRT_TXFRAMES : Ctr := ⟨26, 4, 0x10008, 4, 64⟩
def PRT_FECCORR : Ctr := ⟨26, 4, 0x10010, 4, 64⟩
def PRT_FECUNC : Ctr := ⟨26, 4, 0x10018, 4, 64⟩
def PRT_OTHERDROP : Ctr := ⟨26, 4, 0x10020, 4, 64⟩
def PRT_ICRCERR : Ctr := ⟨26, 4, 0x10028, 4, 64⟩
def PRT_PAUSERX : Ctr := ⟨26, 4, 0x10030, 4, 64⟩
def XPT_RXPKT : Ctr := ⟨30, 4, 0x10000, 1, 8⟩
def XPT_RESP : Ctr := ⟨30, 4, 0x10008, 1, 8⟩
def XPT_NAKSEQ : Ctr := ⟨30, 4, 0x10010, 1, 8⟩
def XPT_NAKINV : Ctr := ⟨30, 4, 0x10018, 1, 8⟩
def XPT_NAKACC : Ctr := ⟨30, 4, 0x10020, 1, 8⟩
def XPT_NAKOPS : Ctr := ⟨30, 4, 0x10028, 1, 8⟩
def XPT_RNRNAK : Ctr := ⟨30, 4, 0x10030, 1, 8⟩
def XPT_MISSDROP : Ctr := ⟨30, 4, 0x10038, 1, 8⟩
def XPT_HFETCHFAIL : Ctr := ⟨30, 4, 0x10040, 1, 8⟩
def XPT_CNPTX : Ctr := ⟨30, 4, 0x10048, 1, 8⟩
def XPT_CNPRX : Ctr := ⟨30, 4, 0x10050, 1, 8⟩
def XPT_CERX : Ctr := ⟨30, 4, 0x10058, 1, 8⟩
def XPT_ADMITDROP : Ctr := ⟨30, 4, 0x10060, 1, 8⟩
def XPT_REQRETRY : Ctr := ⟨30, 4, 0x10068, 1, 8⟩
def XPT_CNPABANDON : Ctr := ⟨30, 4, 0x10070, 1, 8⟩
def XPT_DUPACK : Ctr := ⟨30, 4, 0x10078, 1, 8⟩
def XPT_DUPREPLAY : Ctr := ⟨30, 4, 0x10080, 1, 8⟩
def XPT_DUPNOSLOT : Ctr := ⟨30, 4, 0x10088, 1, 8⟩
def XPT_DUPDROP : Ctr := ⟨30, 4, 0x10090, 1, 8⟩
def XPT_FWDOUT : Ctr := ⟨30, 4, 0x10098, 1, 8⟩
def XPT_FWDREEXEC : Ctr := ⟨30, 4, 0x100a0, 1, 8⟩
def XPT_SPLIT : Ctr := ⟨30, 4, 0x100a8, 1, 8⟩
def XPT_TWINREAD : Ctr := ⟨30, 4, 0x100b0, 1, 8⟩
def XPT_POISONNAK : Ctr := ⟨30, 4, 0x100b8, 1, 8⟩
def XPT_GOVHOLD : Ctr := ⟨30, 4, 0x100c0, 1, 8⟩
def TWN_FLITTX : Ctr := ⟨24, 1, 0x10000, 1, 8⟩
def TWN_FLITRX : Ctr := ⟨24, 1, 0x10008, 1, 8⟩
def TWN_CRCERR : Ctr := ⟨24, 1, 0x10010, 1, 8⟩
def TWN_REPLAY : Ctr := ⟨24, 1, 0x10018, 1, 8⟩
def TWN_RETRAIN : Ctr := ⟨24, 1, 0x10020, 1, 8⟩
def TWN_LANEFAULT : Ctr := ⟨24, 1, 0x10028, 1, 8⟩
def TWN_MIRRORTX : Ctr := ⟨24, 1, 0x10030, 1, 8⟩
def TWN_FWDTX : Ctr := ⟨24, 1, 0x10038, 1, 8⟩
def TWN_ORDEREDTX : Ctr := ⟨24, 1, 0x10040, 1, 8⟩
def TWN_PLACEDTX : Ctr := ⟨24, 1, 0x10048, 1, 8⟩
def TWN_TREADTX : Ctr := ⟨24, 1, 0x10050, 1, 8⟩
def TWN_RESYNCTX : Ctr := ⟨24, 1, 0x10058, 1, 8⟩
def TWN_RESYNCRX : Ctr := ⟨24, 1, 0x10060, 1, 8⟩
def TWN_EPOCHGAP : Ctr := ⟨24, 1, 0x10068, 1, 8⟩
def TIE_PROMOTE : Ctr := ⟨23, 1, 0x10000, 1, 8⟩
def TIE_DEMOTE : Ctr := ⟨23, 1, 0x10008, 1, 8⟩
def TIE_CLEANED : Ctr := ⟨23, 1, 0x10010, 1, 8⟩
def TIE_MISSPARK : Ctr := ⟨23, 1, 0x10018, 1, 8⟩
def TIE_MISSRETURN : Ctr := ⟨23, 1, 0x10020, 1, 8⟩
def TIE_QEVICT : Ctr := ⟨23, 1, 0x10028, 1, 8⟩
def TIE_PEVICT : Ctr := ⟨23, 1, 0x10030, 1, 8⟩
def TIE_MERGE : Ctr := ⟨23, 1, 0x10038, 1, 8⟩
def TIE_ZEROFILL : Ctr := ⟨23, 1, 0x10040, 1, 8⟩
def TIE_HFAIL : Ctr := ⟨23, 1, 0x10048, 1, 8⟩
def SAV_SAVES : Ctr := ⟨22, 1, 0x10000, 1, 8⟩
def SAV_GOVSAVES : Ctr := ⟨22, 1, 0x10008, 1, 8⟩
def SAV_TORN : Ctr := ⟨22, 1, 0x10010, 1, 8⟩
def SAV_REHEARSALS : Ctr := ⟨22, 1, 0x10018, 1, 8⟩
def SAV_RESTORES : Ctr := ⟨22, 1, 0x10020, 1, 8⟩
def SAV_POISONLINES : Ctr := ⟨22, 1, 0x10028, 1, 8⟩
def SAV_FILLBYTES : Ctr := ⟨22, 1, 0x10030, 1, 8⟩
def MST_STAGES : Ctr := ⟨34, 8, 0x10000, 1, 8⟩
def MST_INSTR : Ctr := ⟨34, 8, 0x10008, 1, 8⟩
def MST_MACBYTES : Ctr := ⟨34, 8, 0x10010, 1, 8⟩
def MST_FETCHSBYTES : Ctr := ⟨34, 8, 0x10018, 1, 8⟩
def MST_FETCHRBYTES : Ctr := ⟨34, 8, 0x10020, 1, 8⟩
def MST_PUTBYTES : Ctr := ⟨34, 8, 0x10028, 1, 8⟩
def MST_SCATBYTES : Ctr := ⟨34, 8, 0x10030, 1, 8⟩
def MST_STALLS : Ctr := ⟨34, 8, 0x10038, 1, 8⟩
def MST_TIERLATE : Ctr := ⟨34, 8, 0x10040, 1, 8⟩
def MST_DONE : Ctr := ⟨34, 8, 0x10048, 1, 8⟩
def MST_FAILED : Ctr := ⟨34, 8, 0x10050, 1, 8⟩
def MST_SRAMCORR : Ctr := ⟨34, 8, 0x10058, 1, 8⟩
def DRC_RDLINES : Ctr := ⟨42, 16, 0x10000, 1, 8⟩
def DRC_WRLINES : Ctr := ⟨42, 16, 0x10008, 1, 8⟩
def DRC_CORRECTED : Ctr := ⟨42, 16, 0x10010, 1, 8⟩
def DRC_UNCORR : Ctr := ⟨42, 16, 0x10018, 1, 8⟩
def DRC_POISONRD : Ctr := ⟨42, 16, 0x10020, 1, 8⟩
def DRC_PAGEHIT : Ctr := ⟨42, 16, 0x10028, 1, 8⟩
def DRC_PAGEMISS : Ctr := ⟨42, 16, 0x10030, 1, 8⟩
def DRC_REFRESH : Ctr := ⟨42, 16, 0x10038, 1, 8⟩
def DRC_SRENTRY : Ctr := ⟨42, 16, 0x10040, 1, 8⟩
def STF_READS : Ctr := ⟨18, 1, 0x10000, 1, 8⟩
def STF_RETRIED : Ctr := ⟨18, 1, 0x10008, 1, 8⟩
def STF_REBUILT : Ctr := ⟨18, 1, 0x10010, 1, 8⟩
def STF_LOST : Ctr := ⟨18, 1, 0x10018, 1, 8⟩
def STF_ROWS : Ctr := ⟨18, 1, 0x10020, 1, 8⟩
def STF_PADDED : Ctr := ⟨18, 1, 0x10028, 1, 8⟩
def STF_ERASES : Ctr := ⟨18, 1, 0x10030, 1, 8⟩
def STF_ESUSP : Ctr := ⟨18, 1, 0x10038, 1, 8⟩
def STF_PSUSP : Ctr := ⟨18, 1, 0x10040, 1, 8⟩
def STF_RELOCATED : Ctr := ⟨18, 1, 0x10048, 1, 8⟩
def STF_REFUSEDPROG : Ctr := ⟨18, 1, 0x10050, 1, 8⟩
def STF_PATROL : Ctr := ⟨18, 1, 0x10058, 1, 8⟩
def KPF_XIPMISS : Ctr := ⟨17, 1, 0x10000, 1, 8⟩
def KPF_PFHIT : Ctr := ⟨17, 1, 0x10008, 1, 8⟩
def KPF_BCHIT : Ctr := ⟨17, 1, 0x10010, 1, 8⟩
def KPF_REQS : Ctr := ⟨17, 1, 0x10018, 1, 8⟩
def KPF_SUSPENDS : Ctr := ⟨17, 1, 0x10020, 1, 8⟩
def KPF_FAILS : Ctr := ⟨17, 1, 0x10028, 1, 8⟩
def PWR_SNAPSHOTS : Ctr := ⟨12, 1, 0x10000, 1, 8⟩
def PWR_WARNINGS : Ctr := ⟨12, 1, 0x10008, 1, 8⟩
def PWR_BROWNOUTS : Ctr := ⟨12, 1, 0x10010, 1, 8⟩
def PWR_PMBFAIL : Ctr := ⟨12, 1, 0x10018, 1, 8⟩
def PWR_TELEMMISS : Ctr := ⟨12, 1, 0x10020, 1, 8⟩
def RST_RESETS : Ctr := ⟨13, 1, 0x10000, 8, 8⟩
def RST_WRAPFORCED : Ctr := ⟨13, 1, 0x10040, 1, 8⟩
def CPX_REMOUNTS : Ctr := ⟨5, 2, 0x10000, 1, 8⟩
def CPX_CHECKPOINTS : Ctr := ⟨5, 2, 0x10008, 1, 8⟩
def CPX_CKMISS : Ctr := ⟨5, 2, 0x10010, 1, 8⟩
def CPX_CMDROP : Ctr := ⟨5, 2, 0x10018, 1, 8⟩
def CPX_HOLDNS : Ctr := ⟨5, 2, 0x10020, 1, 8⟩
def XTS_ENCUNITS : Ctr := ⟨8, 1, 0x10000, 1, 8⟩
def XTS_DECUNITS : Ctr := ⟨8, 1, 0x10008, 1, 8⟩
def KEY_BLOCKS : Ctr := ⟨7, 1, 0x10000, 1, 8⟩
def KEY_DERIVES : Ctr := ⟨7, 1, 0x10008, 1, 8⟩
def KEY_RANDOMBYTES : Ctr := ⟨7, 1, 0x10010, 1, 8⟩
/-- The counters, part 0. -/
def part0 : List Ctr := [TRN_L1HIT, TRN_L1MISS, TRN_L2MISS, TRN_STALEFILL, TRN_HOPMERGE, TRN_CHKFAIL, PRT_RXFRAMES, PRT_TXFRAMES, PRT_FECCORR, PRT_FECUNC, PRT_OTHERDROP, PRT_ICRCERR]
/-- The counters, part 1. -/
def part1 : List Ctr := [PRT_PAUSERX, XPT_RXPKT, XPT_RESP, XPT_NAKSEQ, XPT_NAKINV, XPT_NAKACC, XPT_NAKOPS, XPT_RNRNAK, XPT_MISSDROP, XPT_HFETCHFAIL, XPT_CNPTX, XPT_CNPRX]
/-- The counters, part 2. -/
def part2 : List Ctr := [XPT_CERX, XPT_ADMITDROP, XPT_REQRETRY, XPT_CNPABANDON, XPT_DUPACK, XPT_DUPREPLAY, XPT_DUPNOSLOT, XPT_DUPDROP, XPT_FWDOUT, XPT_FWDREEXEC, XPT_SPLIT, XPT_TWINREAD]
/-- The counters, part 3. -/
def part3 : List Ctr := [XPT_POISONNAK, XPT_GOVHOLD, TWN_FLITTX, TWN_FLITRX, TWN_CRCERR, TWN_REPLAY, TWN_RETRAIN, TWN_LANEFAULT, TWN_MIRRORTX, TWN_FWDTX, TWN_ORDEREDTX, TWN_PLACEDTX]
/-- The counters, part 4. -/
def part4 : List Ctr := [TWN_TREADTX, TWN_RESYNCTX, TWN_RESYNCRX, TWN_EPOCHGAP, TIE_PROMOTE, TIE_DEMOTE, TIE_CLEANED, TIE_MISSPARK, TIE_MISSRETURN, TIE_QEVICT, TIE_PEVICT, TIE_MERGE]
/-- The counters, part 5. -/
def part5 : List Ctr := [TIE_ZEROFILL, TIE_HFAIL, SAV_SAVES, SAV_GOVSAVES, SAV_TORN, SAV_REHEARSALS, SAV_RESTORES, SAV_POISONLINES, SAV_FILLBYTES, MST_STAGES, MST_INSTR, MST_MACBYTES]
/-- The counters, part 6. -/
def part6 : List Ctr := [MST_FETCHSBYTES, MST_FETCHRBYTES, MST_PUTBYTES, MST_SCATBYTES, MST_STALLS, MST_TIERLATE, MST_DONE, MST_FAILED, MST_SRAMCORR, DRC_RDLINES, DRC_WRLINES, DRC_CORRECTED]
/-- The counters, part 7. -/
def part7 : List Ctr := [DRC_UNCORR, DRC_POISONRD, DRC_PAGEHIT, DRC_PAGEMISS, DRC_REFRESH, DRC_SRENTRY, STF_READS, STF_RETRIED, STF_REBUILT, STF_LOST, STF_ROWS, STF_PADDED]
/-- The counters, part 8. -/
def part8 : List Ctr := [STF_ERASES, STF_ESUSP, STF_PSUSP, STF_RELOCATED, STF_REFUSEDPROG, STF_PATROL, KPF_XIPMISS, KPF_PFHIT, KPF_BCHIT, KPF_REQS, KPF_SUSPENDS, KPF_FAILS]
/-- The counters, part 9. -/
def part9 : List Ctr := [PWR_SNAPSHOTS, PWR_WARNINGS, PWR_BROWNOUTS, PWR_PMBFAIL, PWR_TELEMMISS, RST_RESETS, RST_WRAPFORCED, CPX_REMOUNTS, CPX_CHECKPOINTS, CPX_CKMISS, CPX_CMDROP, CPX_HOLDNS]
/-- The counters, part 10. -/
def part10 : List Ctr := [XTS_ENCUNITS, XTS_DECUNITS, KEY_BLOCKS, KEY_DERIVES, KEY_RANDOMBYTES]
/-- Every counter. -/
def all : List Ctr :=
  part0 ++ part1 ++ part2 ++ part3 ++ part4 ++ part5 ++ part6 ++ part7 ++ part8 ++ part9 ++ part10
end C

end Sys2Proof.Machine
end

