-- ==== Sys2Proof/Machine/State.lean ====
section
/-! DEFINITION. The state of the device as plain data: every register field, counter, table, queue, ring, mode and
pin that the spec gives it, the queue of waiting commands, and the reset state. -/

namespace Sys2Proof.Machine

/-! ## Registers and counters (chapter 02) -/

/-- The control space: values that differ from their reset value, pending QUIET shadows, written apply groups that
no commit has released (R63), counters, and the two holding banks (R57, R68). Keys are `Fld.key` and `Ctr.key`. -/
structure RegFile where
  val    : Sparse Nat := []
  shadow : Sparse Nat := []
  group  : Sparse Nat := []
  /-- By block: the time from which its oldest pending shadow has waited (R62). -/
  since  : Sparse Nat := []
  ctr    : Sparse Nat := []
  bank0  : Sparse Nat := []
  bank1  : Sparse Nat := []
  deriving DecidableEq, Repr

/-! ## Device state and gaits (chapter 01) -/

/-- Table 1.5. -/
inductive DevState | off | standby | rising | filling | restoring | serving | saving | saved | falling
  deriving DecidableEq, Repr

/-- Table 1.5's codes. -/
def DevState.code : DevState → Nat
  | .off => 0 | .standby => 1 | .rising => 2 | .filling => 3 | .restoring => 4
  | .serving => 5 | .saving => 6 | .saved => 7 | .falling => 8

/-- A gait row (Table 1.8). -/
structure GaitRow where
  divset : Nat
  lanes : Nat
  dirtyfrac : Nat
  cleanrate : Nat
  groommul : Nat
  msweight : Nat
  ppbias : Nat
  migrate : Nat
  wh : Nat
  wm : Nat
  wt : Nat
  ws : Nat
  wg : Nat
  wc : Nat
  pwrcap : Nat
  deriving DecidableEq, Repr

/-- A gait change being applied (Table 1.9): target gait, its row, start time, blocks that have not taken it. -/
structure GaitChange where
  gait : Nat
  row : GaitRow
  start : Nat
  left : List Nat
  deriving DecidableEq, Repr

/-- The gait controller beside its registers. -/
structure Gai where
  /-- Words 0 to 2 of GAI_ROW held until word 3 is written (R36), key 4 g + w. -/
  held : Sparse Nat := []
  /-- The edit shadow (R31), key = field key; unlisted fields have the committed value. -/
  edit : Sparse Nat := []
  /-- The dictionary session that owns the edit shadow (R55). -/
  owner : Option Nat := none
  change : Option GaitChange := none
  /-- The row that each block acts on, by block number; none listed: Trot's default. -/
  inForce : Sparse GaitRow := []
  /-- Reductions of R32 in force: halvings of the millstones' issue rate (0 to 4). -/
  redMst : Nat := 0
  redClean : Bool := false
  redGroom : Bool := false
  /-- Host pacing in sixteenths. -/
  redPace : Nat := 0
  /-- Of the reduction steps in force (in order of application), how many the power cap requires, and how many R411 does. -/
  capSteps : Nat := 0
  tempSteps : Nat := 0
  /-- Time of the last event 0x04A0 (once per 100 ms). -/
  lastCapEvent : Option Nat := none
  deriving DecidableEq, Repr

/-! ## Power, reset and the tack room (chapter 12) -/

/-- A snapshot record (Table 12.5). -/
structure Snapshot where
  seq : Nat
  cause : Nat
  step : Nat
  rail : Nat
  dev : Nat
  usInStep : Nat
  enmask : Nat
  pgraw : Nat
  pgqual : Nat
  cross : List Nat
  adc : List Nat
  vout : List Nat
  iout : List Nat
  deriving DecidableEq, Repr

/-- A reset history record (Table 12.6). -/
structure HistRec where
  level : Nat
  source : Nat
  block : Nat
  dev : Nat
  evseq : Nat
  deriving DecidableEq, Repr

/-- The tack room (Table 12.6): snapshot ring, reset history, the words written by firmware and the service core
by byte offset from 0x4F00_0000, and the backup registers BKP0 to BKP31. -/
structure Tack where
  snaps : Sparse Snapshot := []
  hist : Sparse HistRec := []
  words : Sparse Nat := []
  bkp : Sparse Nat := []
  /-- SEQ of the next snapshot less one. -/
  snapCount : Nat := 0
  deriving DecidableEq, Repr

/-- A reset request: level, source (Table 12.7) and the block of a level-1 request. -/
structure ResetReq where
  level : Nat
  source : Nat
  block : Nat
  deriving DecidableEq, Repr

/-- PWR and RST beside their registers. -/
structure Pwr where
  /-- Sampled and filtered good levels, one bit per rail (R368). -/
  pgRaw : Nat := 0
  pgFilt : Nat := 0
  /-- Filtered high-to-low changes since the current step began (R368). -/
  cross : Sparse Nat := []
  /-- Last telemetry of each rail, mV and 10 mA units (Table 12.5). -/
  vout : Sparse Nat := []
  iout : Sparse Nat := []
  /-- When the current step began, and whether its action has been started. -/
  stepStart : Nat := 0
  stepOn : Bool := false
  /-- The rising table has reached END since the last start of it. -/
  risen : Bool := false
  /-- Input-bus brown-out and collapse conditions (R381, R20). -/
  boVin : Bool := false
  /-- Bleed outputs PWR_ES_BLEED[7:0] (R379). -/
  bleed : Nat := 0
  /-- Keeper descriptors and appends that the last input collapse abandoned, none without one (R382). -/
  abandoned : Option Nat := none
  /-- What the CHARGER steps last asked for (R379). -/
  chg : Bool := false
  /-- Each rail's qualification in SERVING, for LOST (R372). -/
  servQual : Nat := 0
  /-- The margin level of each rail (0 nominal, 1 low, 2 high), and the margin transaction under way (rail, mode) with the
  session entry's share in it (R385). -/
  marginBusy : Option (Nat × Nat) := none
  marginCmd : Bool := false
  margin : Sparse Nat := []
  deriving DecidableEq, Repr

/-- RST beside its registers. -/
structure Rst where
  /-- A level-5 request that waits for SAVED, or for the falling table to reach END (R393). -/
  pend5 : Option ResetReq := none
  /-- A level-4 request that waits for SAVED (R393). -/
  pend4 : Option ResetReq := none
  /-- Requests of level 1 to 3 that wait for SAVED (R393), oldest first. -/
  pendLow : List ResetReq := []
  /-- Level-1 requests whose block has not drained (R392). -/
  draining : List ResetReq := []
  /-- Reset outputs whose stretch is running, and those whose stretch has passed (R398). -/
  stretching : Nat := 0
  stretched : Nat := 0
  /-- Blocks held in reset outside a level-1 reset: the whole core domain in OFF, STANDBY and after a cold reset. -/
  held : Bool := true
  deriving DecidableEq, Repr

/-! ## The event recorder and the stud book (chapter 14) -/

/-- An event record (Table 14.6). -/
structure EvRec where
  seq : Nat
  code : Nat
  /-- Severity of Table 14.7, 0 trace to 4 critical. -/
  sev : Nat
  summary : Bool
  studbook : Bool
  suppressed : Nat
  payload : List Nat
  deriving DecidableEq, Repr

/-- A token bucket: millionths of a token held, at the time given (R438). -/
structure Bucket where
  level : Nat
  time : Nat
  deriving DecidableEq, Repr

/-- A stud book entry waiting for its append (Table 14.8). -/
structure StudEntry where
  record : EvRec
  resets : Nat
  dev : Nat
  twin : Nat
  fwid : Nat
  deriving DecidableEq, Repr

/-- A record on its way to a session as a NOTIFY frame (R52). -/
structure Note where
  session : Nat
  frame : List Nat
  deriving DecidableEq, Repr

/-- The recorder (R436 to R439) and the stud book queue (R441). -/
structure Recorder where
  /-- The newest 16,384 records, newest first. -/
  ring : List EvRec := []
  /-- EVT_HEAD and the restart value S. -/
  head : Nat := 4294967295
  start : Nat := 4294967296
  buckets : Sparse Bucket := []
  suppressed : Sparse Nat := []
  /-- Time of the last record of each code. -/
  lastRec : Sparse Nat := []
  /-- The newest sequence routed to each interrupt line (R425). -/
  line : Sparse Nat := []
  /-- Notifications on their way, oldest first, and each session's notification sequence (R52). -/
  notes : List Note := []
  nseq : Sparse Nat := []
  /-- Stud book queue, oldest first, at most 64 (R441). -/
  studQ : List StudEntry := []
  /-- Records not copied because the queue was full. -/
  studLost : Nat := 0
  deriving DecidableEq, Repr

/-! ## The dictionary engine and its paths (chapter 02) -/


/-- A dictionary session (R49 to R53). -/
structure Session where
  path : Nat
  role : Nat
  isOpen : Bool := false
  nm : List Nat := []
  nd : List Nat := []
  key : List Nat := []
  /-- The last accepted request: SEQ, tag, and the stored response (R51). -/
  lastSeq : Nat := 0
  lastTag : List Nat := []
  lastResp : List Nat := []
  /-- Time of the last valid frame, or of the CHALLENGE. -/
  lastTime : Nat := 0
  /-- The session that this one replaces once its PROVE succeeds (OPEN with RESET). -/
  replaces : Option Nat := none
  src : Nat := 0
  /-- Notification filter and minimum severity (0x2001). -/
  filter : Nat := 0
  minSev : Nat := 3
  /-- Entries held per session (index entries of the chapters), key index × 256 + subindex. -/
  idx : Sparse Nat := []
  /-- The 32 bytes written to 0x2D10.02 and the SEQ of their frame (R460). -/
  keyBlob : List Nat := []
  keySeq : Nat := 0
  deriving DecidableEq, Repr

/-- The status of a command entry (R38): state 0 IDLE, 1 RUNNING, 2 DONE, 3 FAILED; failure code; progress. -/
structure CmdStat where
  state : Nat := 0
  code : Nat := 0
  progress : Nat := 0
  deriving DecidableEq, Repr

/-- An extension entry (Table 2.18). -/
structure ExtEntry where
  typ : Nat
  robs : Nat
  ropr : Nat
  rkpr : Nat
  handler : Bool
  dflt : Nat
  addr : Nat
  msb : Nat
  lsb : Nat
  hnum : Nat
  deriving DecidableEq, Repr

/-- A handler item (R76); `pos` is its place in the frame. -/
structure HItem where
  kind : Nat
  index : Nat
  sub : Nat
  hnum : Nat
  session : Nat
  value : Nat
  len : Nat
  offset : Nat
  data : List Nat
  arrived : Nat
  pos : Nat
  deriving DecidableEq, Repr

/-- One item of a READ or WRITE body (Table 2.6). -/
structure Item where
  index : Nat
  sub : Nat
  typ : Nat
  len : Nat
  offset : Nat
  data : List Nat
  deriving DecidableEq, Repr

/-- One item of a response: status, type, offset and value bytes. -/
structure ItemAns where
  status : Nat
  typ : Nat
  data : List Nat
  deriving DecidableEq, Repr

/-- A frame whose handler items await their answers (R76). -/
structure OpenFrame where
  session : Nat
  seq : Nat
  tag : List Nat
  /-- 5 READ, 6 WRITE. -/
  kind : Nat
  all : Bool
  /-- The phase of an ALL write with handler items: true while its checks (KIND 5) are out. -/
  checking : Bool
  items : List Item
  answers : Sparse ItemAns
  left : Nat
  deriving DecidableEq, Repr

/-- A frame that waits for the one in progress (R54). -/
structure QFrame where
  path : Nat
  src : Nat
  bytes : List Nat
  deriving DecidableEq, Repr

/-- DIC beside its registers. -/
structure Dic where
  sessions : Sparse Session := []
  /-- OPENs that allotted a session, for the free choice of identifiers. -/
  opens : Nat := 0
  /-- Times of the failed PROVEs of each path (R50). -/
  fails : Sparse (List Nat) := []
  /-- 0x2000.07: paths that refuse OPEN. -/
  locked : Nat := 0
  /-- Entries that front no register, key index × 256 + subindex (R11, R72). -/
  ent : Sparse Nat := []
  cmds : Sparse CmdStat := []
  ext : Sparse ExtEntry := []
  extVersion : List Nat := []
  hq : List HItem := []
  cur : Option OpenFrame := none
  /-- Extension loads (1) and clears (2) that wait for the frame in progress, in order (R74). -/
  extPend : List Nat := []
  /-- The management port's own addresses (MAC, IPv4, IPv6) when the frame in progress arrived: its response leaves from them (R77). -/
  own : List Nat := []
  /-- Response frames of the peer's DIC that the Visil link has delivered, oldest first, each with its tag. -/
  peerRsp : List (Nat × List Nat) := []
  queue : List QFrame := []
  /-- Firmware-work queue (Table 14.5, R13), oldest first: command (0 registration, 1 deregistration, 2 deallocation, 3 policy rows,
  4 and 5 lend table committed and revoked), session, and the registration's values, the rkey or the range. -/
  work : List (Nat × Nat × List Nat) := []
  /-- Owners of the edit shadows (R55): session by shadow, 1 registration, 2 tenants, 3 policy rows, 4 lend table. -/
  owners : Sparse Nat := []
  /-- Byte strings of BLOB and STR32 entries that DIC itself holds. -/
  blobs : Sparse (List Nat) := []
  deriving DecidableEq, Repr

/-- The PCIe mailbox and link (Table 2.9, R78, R243). -/
structure Pci where
  perst : Bool := false
  /-- REQBUF: the request frame that the host has written. -/
  req : List Nat := []
  busy : Bool := false
  respReady : Bool := false
  rsp : List Nat := []
  /-- Path-2 notifications that the host has taken (NOTIFY_READY is a level, Table 2.9). -/
  taken : Nat := 0
  /-- What the host programs into the function of Table 2.20: BAR0 and BAR2, the four MSI-X table entries, and the pending bits. No
  row of the table writes them (log entry 152). -/
  bar0 : Nat := 0
  bar2 : Nat := 0
  msixTable : List Nat := []
  msixPending : Nat := 0
  deriving DecidableEq, Repr

/-! ## The control complex (chapter 14) -/

/-- A checkpoint slot (Table 14.3). -/
structure Checkpoint where
  /-- The tier D address where its header lies (R428). -/
  addr : Nat := 0
  seq : Nat
  resume : Nat
  fwid : Nat
  cluster : Nat
  ranges : List (Nat × Nat)
  evtseq : Nat
  sram : List Host.Cell
  /-- The bytes of the ranges, each with its tier D address. -/
  payload : List Host.Cell
  /-- MAGIC and CRC check. -/
  valid : Bool
  deriving DecidableEq, Repr

/-- A takeover under way (Table 14.4); `ret` marks the RETURN command's (R433). -/
structure Takeover where
  ret : Bool
  source : Nat
  outgoing : Nat
  incoming : Nat
  start : Nat
  /-- CKSEQ resumed from, none when clean. -/
  ckseq : Option Nat
  deriving DecidableEq, Repr

/-- CPX beside its registers. -/
structure Cpx where
  /-- The two clusters' SRAM; unlisted bytes are 0. -/
  sramA : List Host.Cell := []
  sramB : List Host.Cell := []
  /-- Commit sequence of the running image (R430), and where it was loaded from: 0 slot A, 1 slot B, 2 staging. -/
  fwid : Nat := 0
  image : Nat := 0
  slots : Sparse Checkpoint := []
  takeover : Option Takeover := none
  /-- Cores held for a checkpoint or by RETURN. -/
  hold : Bool := false
  /-- Source 40: a checkpoint is due, since when. -/
  ckDue : Option Nat := none
  /-- Watchdogs: the last kick of each core; cores past half time (source 39). -/
  wdLast : Sparse Nat := []
  wdHalf : Nat := 0
  /-- Where core 0 was last released; none while no cluster is released. -/
  entry : Option Nat := none
  mtime : Nat := 0
  mtimecmp : Sparse Nat := []
  timerIrq : Nat := 0
  /-- Interrupt-controller words by byte offset from 0x0C00_0000 (R425). -/
  plic : Sparse Nat := []
  /-- Connection-management ring: packets held, and drops since the last record of event 0x4CE0. -/
  cmRing : List (List Nat) := []
  cmDrops : Nat := 0
  deriving DecidableEq, Repr

/-- The service port (R442, R443). -/
structure Svc where
  session : Option Session := none
  sessId : Nat := 0
  /-- Bytes of the staging area already programmed: (offset, length) pieces. -/
  staged : List (Nat × Nat) := []
  stageLen : Nat := 0
  deriving DecidableEq, Repr

/-! ## Keys and encryption (chapter 15) -/

/-- The kind of key in a slot (R457). -/
inductive KeyKind | aes128 | aes256 | xtsPair
  deriving DecidableEq, Repr

/-- A key slot. -/
structure KeySlot where
  kind : KeyKind
  bytes : List Nat
  deriving DecidableEq, Repr

/-- KEY beside its registers. -/
structure Key where
  slots : Sparse KeySlot := []
  /-- Queued descriptors, oldest first, eight 32-bit words each (Table 15.3). -/
  queue : List (List Nat) := []
  /-- Completions, oldest first: tag and status. -/
  done : List (Nat × Nat) := []
  ignored : Nat := 0
  /-- Requests since the last reseed (R464). -/
  sinceSeed : Nat := 0
  /-- Failed debug unlocks (R470), and the nonce in use. -/
  debugFails : Nat := 0
  debugNonce : List Nat := []
  deriving DecidableEq, Repr

/-- Fused values (R389, Table 15.1, Table 2.20, Table 0.4), and straps. No register shows a fused key. -/
structure Fuses where
  reach : Nat := 0
  root : List Nat := List.replicate 32 0
  prov : List Nat := List.replicate 16 0
  dbg : List Nat := List.replicate 16 0
  imgkey : List Nat := List.replicate 96 0
  rollback : Nat := 0
  partNumber : Nat := 0
  baseMac : Nat := 0
  vendorId : Nat := 0
  /-- Fused sensor trims T0 to T47, V0 to V23, two's complement 16 bits. -/
  trims : Sparse Nat := []
  /-- TWN_SIDE ball and TWN_CABLE are sampled at reset (chapter 06). -/
  sideBall : Nat := 0
  /-- Lanes of XTS that fail their self-test at every reset (R466). -/
  laneFail : Nat := 0
  deriving DecidableEq, Repr

/-! ## Keeper flash (chapter 11) and clocks, sensors, calibration (chapter 13) -/

/-- A keeper request in progress: descriptor words and whether the operation has been started. -/
structure KpfReq where
  op : Nat
  len : Nat
  tag : Nat
  kaddr : Nat
  buf : Nat
  deriving DecidableEq, Repr

/-- KPF beside its registers. Content: bytes by offset, an unlisted byte is erased (0xFF). -/
structure Kpf where
  flash : Sparse Nat := []
  /-- The part's SFDP: density code, suspend latency in µs, log2 of the erase sector; profile 1.0 and suspend present. -/
  sfdpDensity : Nat := 1
  sfdpSusp : Nat := 50
  sfdpSector : Nat := 12
  sfdpOk : Bool := true
  queue : List KpfReq := []
  /-- The oldest request is in progress. -/
  busy : Bool := false
  done : List (Nat × Nat) := []
  /-- Prefetch buffer lines and branch-cache lines (R361), newest first, by line address. -/
  prefetch : List Nat := []
  branch : List Nat := []
  /-- The last fetched line, so that a sequential fetch is told from a jump. -/
  lastLine : Nat := 0
  /-- A program or erase runs; suspended for a fetch. -/
  prog : Bool := false
  serial : Bool := false
  /-- A stud book sector erase runs (R440). -/
  erasing : Bool := false
  /-- The fixed items of the option area as the last reset of level 4 or 5 read them (R7, Table 11.11): level enables, feature
  bits. -/
  optLevels : Nat := 0
  optFeatures : Nat := 0
  deriving DecidableEq, Repr

/-- CLK beside its registers (R395, R396, R408). -/
structure Clk where
  /-- The monitor's view of the reference: qualified over the last 1,000 intervals. -/
  refOk : Bool := true
  /-- A lock is requested and not complete. -/
  locking : Bool := false
  /-- REFWAIT has passed without a qualified reference. -/
  refwaitOver : Bool := false
  deriving DecidableEq, Repr

/-- A calibration run (Table 13.7). -/
structure CalRun where
  /-- 0 drift, 1 CAL_CMD, 2 end of training, 3 command 0x2B10.03. -/
  trigger : Nat
  start : Nat
  deriving DecidableEq, Repr

/-- CAL beside its registers: trained bases and corrections in force of the DRAM PHY targets by their byte offset in a
set (R413), the governing temperatures recorded at the last run (by sensor), the four sets' bytes (set × 65,536 +
offset; unlisted bytes are 0), and the store offsets' v. -/
structure Cal where
  base : Sparse Int := []
  corr : Sparse Int := []
  temps : Sparse Int := []
  run : Option CalRun := none
  sets : Sparse Nat := []
  setOk : Nat := 0
  storeV : Sparse Int := []
  serdes : Sparse Int := []
  trims : Sparse Int := []
  deriving DecidableEq, Repr
/-! ## The persistent maps (chapter 03, the block states of chapter 11) -/

/-- A region entry (Table 3.3): state 0 FREE, 1 ACTIVE, 2 DRAINING. -/
structure Region where
  state : Nat := 0
  gen : Nat := 0
  salt : Nat := 0
  tenant : Nat := 0
  home : Nat := 0
  rread : Bool := false
  rwrite : Bool := false
  ratomic : Bool := false
  scratch : Bool := false
  tpol : Nat := 0
  vabase : Nat := 0
  sapage : Nat := 0
  lenpages : Nat := 0
  regseq : Nat := 0
  label : Nat := 0
  deriving DecidableEq, Repr

/-- An extent entry (Table 3.5): estate 0 UNALLOCATED, 1 ZERO, 2 MAPPED; a movement is in flight while `movekind` is
not 0 (MOVING). -/
structure Extent where
  estate : Nat := 0
  movekind : Nat := 0
  home : Nat := 0
  tpol : Nat := 0
  owner : Nat := 0
  ingroup : Bool := false
  fgroup : Nat := 0
  rescnt : Nat := 0
  dirtycnt : Nat := 0
  charge : Nat := 0
  lasttick : Nat := 0
  reads : Nat := 0
  writes : Nat := 0
  misses : Nat := 0
  deriving DecidableEq, Repr

/-- PSTATE (Table 3.6). -/
inductive PState | absent | filling | clean | dirty | cleaning | pinned
  deriving DecidableEq, Repr

/-- PSTATE codes. -/
def PState.code : PState → Nat
  | .absent => 0 | .filling => 1 | .clean => 2 | .dirty => 3 | .cleaning => 4 | .pinned => 5

/-- A frame entry (Table 3.6). -/
structure Frame where
  pstate : PState := .absent
  pdirty : Bool := false
  age : Nat := 0
  epoch : Nat := 0
  spage : Nat := 0
  deriving DecidableEq, Repr

/-- A store-map, locator or root entry (Table 3.7): sstate 0 NONE, 1 VALID, 2 LOST. -/
structure SLoc where
  sstate : Nat := 0
  ch : Nat := 0
  die : Nat := 0
  block : Nat := 0
  page : Nat := 0
  cw : Nat := 0
  deriving DecidableEq, Repr

/-- A block state entry (Table 11.8): 0 FREE, 1 ERASING, 2 ERASE_SUSPENDED, 3 OPEN, 4 FULL, 5 STALE, 6 SUSPECT,
7 RETIRED. -/
structure BlkSt where
  state : Nat := 0
  retmask : Nat := 0
  erases : Nat := 0
  deriving DecidableEq, Repr

/-- The map area's content: region table with its free list (never-used indices from `freeNext`, then the freed ones),
extent map, frame table, store map by space page, locator and root by map page, block states. -/
structure Maps where
  regions : Sparse Region := []
  freeNext : Nat := 0
  freed : List Nat := []
  regseq : Nat := 0
  extents : Sparse Extent := []
  frames : Sparse Frame := []
  store : Sparse SLoc := []
  locator : Sparse SLoc := []
  root : Sparse SLoc := []
  blocks : Sparse BlkSt := []
  /-- The block state table has been written (R350). -/
  blocksInit : Bool := false
  deriving DecidableEq, Repr

/-- An entry of the changed-page log (Table 6.12 and its pool record): mode 0 CLEAN, 1 PAGES, 2 WHOLE, 3 WHOLE_SENT;
page masks of 512 bits. -/
structure LogEnt where
  mode : Nat := 0
  mapchg : Bool := false
  changed : Nat := 0
  sent : Nat := 0
  /-- Its pool record, in PAGES. -/
  record : Nat := 0
  deriving DecidableEq, Repr

/-- The log area (Table 6.11): pair record, region-changed marks, pending list, fence list (twin's epoch by space page,
with both CHECKs as reconciliation left them), directory with pool. -/
structure TwinLog where
  pairId : Nat := 0
  pgen : Nat := 0
  lastState : Nat := 0
  role : Nat := 0
  level : Nat := 0
  regChg : List Nat := []
  pendList : List Nat := []
  fences : Sparse (Nat × Nat × Nat) := []
  dir : Sparse LogEnt := []
  deriving DecidableEq, Repr

/-! ## Translation (chapter 03) -/

/-- A first-level entry (R104). -/
structure L1Ent where
  extent : Nat
  ref : Bool
  deriving DecidableEq, Repr

/-- A second-level tag (R105): valid bits of its eight sectors and its age. -/
structure L2Tag where
  tag : Nat
  valid : Nat
  age : Nat
  deriving DecidableEq, Repr

/-- A second-level fill in flight (R110). -/
structure Fill where
  extent : Nat
  stale : Bool := false
  /-- Stale fills of this extent in a row. -/
  staleRuns : Nat := 0
  /-- The invalidation of R111 started while it was in flight. -/
  dropped : Bool := false
  streaming : Bool := false
  deriving DecidableEq, Repr

/-- An update that TRN has accepted and not reported complete (R108). -/
inductive Upd
  /-- A firmware update through the port. -/
  | port
  /-- A page taken out of tier D; `before` is the first request number that translates with the new value. -/
  | free (spage before : Nat)
  deriving DecidableEq, Repr

/-- TRN beside its registers and tables. -/
structure Trn where
  /-- Accesses in flight by region (R87). -/
  inflight : Sparse Nat := []
  /-- First levels: key 48 × port + entry. -/
  l1 : Sparse L1Ent := []
  /-- Second level: key 16 × set + way. -/
  l2 : Sparse L2Tag := []
  fills : List Fill := []
  /-- The hopper: time of the first write of each line, by line address; and the bytes written since. -/
  hopper : Sparse Nat := []
  updq : List Upd := []
  /-- Updates of the port that wait for the third fill of their extents (R110): address and words. -/
  held : List (Nat × List Nat) := []
  deriving DecidableEq, Repr

/-! ## Tier D (chapter 10) -/

/-- What the decoder finds in a line that is not sound: uncorrectable, or the poison syndrome (R314, R315). -/
inductive LineFault | uncorr | poison
  deriving DecidableEq, Repr

/-- Tier D content: bytes by tier D address, an unlisted byte is 0; faults by line address. -/
structure Dram where
  data : List Host.Cell := []
  lines : Sparse LineFault := []
  /-- The write queues of the DRCs (R152, R307), in arrival order: line, and whether it waits for its merge read. What they hold is in
  `data` already, since reads are served from them. -/
  wq : List (Nat × Bool) := []
  /-- Self-refresh and clocks stopped (R312). -/
  asleep : Bool := true
  deriving DecidableEq, Repr

/-- One DRC beside its registers. Keys of `corr` are 80 × (2 × rank + subchannel) + device. -/
structure DrcSt where
  corr : Sparse Nat := []
  /-- Page policy (R309): counters (0 to 3) and last open row by bank number, and the banks whose row is open. -/
  hist : Sparse Nat := []
  row : Sparse Nat := []
  opened : Sparse Nat := []
  /-- Refreshes postponed by rank; interval halved. -/
  postponed : Sparse Nat := []
  hot : Bool := false
  /-- Oscillator readings at the last training, by rank. -/
  osc : Sparse Nat := []
  /-- When the corrected lines of the last hour were read. -/
  ces : List Nat := []
  /-- The helper operation under way: op, rank, subchannel, count. -/
  trn : Option (List Nat) := none
  /-- A retrain requested or running, by rank. -/
  retrain : Option Nat := none
  deriving DecidableEq, Repr

/-- The groom (R323, R324): by channel, next line, pass start, corrections, rate in thousandths of lines per second. -/
structure GrmCh where
  next : Nat := 0
  rate : Nat := 0
  mul : Nat := 1
  /-- The rate is the floor rate, and whether event 0x3020 has reported it in this pass. -/
  atFloor : Bool := false
  floorPass : Bool := false
  deriving DecidableEq, Repr

/-- GRM beside its registers. -/
structure Grm where
  ch : Sparse GrmCh := []
  passStart : Nat := 0
  corrected : Nat := 0
  uncorr : Nat := 0
  lastCalc : Nat := 0
  /-- Patrol by store channel: key past the last codeword read, start of the pass, relocations. -/
  patrol : Sparse (List Nat) := []
  deriving DecidableEq, Repr

/-- A farrier holding or wait: resource, owner. -/
structure FarReq where
  res : Nat
  owner : Nat
  since : Nat
  deriving DecidableEq, Repr

/-- FAR beside its registers (R325 to R329). -/
structure Far where
  held : Sparse Nat := []
  waits : List FarReq := []
  /-- Activities in their RETRYGAP, and the resources that they ask for again, ascending. -/
  retry : Sparse (List Nat) := []
  /-- The resources of a running retry not yet requested. -/
  asking : Sparse (List Nat) := []
  /-- Revoked for a save: grants nothing until the next SERVING. -/
  closed : Bool := false
  deriving DecidableEq, Repr

/-! ## Store flash (chapter 11) -/

/-- A codeword in store flash: metadata (Table 11.3) and plain data bytes (unlisted 0). -/
structure Codeword where
  kind : Nat
  spage : Nat
  epoch : Nat
  poison : Nat
  data : List Host.Cell
  deriving DecidableEq, Repr

/-- A codeword of the open row that waits for its wordline (R340): what it is for and where it will lie. -/
structure RowEnt where
  /-- 0 pad, 1 cleaning write-back, 2 relocation; the reference of the entry that is to name it. -/
  what : Nat
  ref : Nat
  word : Codeword
  loc : SLoc
  /-- Relocation: the location that the entry must still name. -/
  source : SLoc
  deriving DecidableEq, Repr

/-- A row being filled or programmed: superblock, wordline, entries. -/
structure OpenRow where
  sb : Nat
  row : Nat
  ents : List RowEnt := []
  first : Nat := 0
  programming : Bool := false
  deriving DecidableEq, Repr

/-- STF beside its registers. -/
structure Stf where
  /-- Codewords by location key (`locKey`). -/
  cells : Sparse Codeword := []
  open_ : Option OpenRow := none
  /-- Highest programmed wordline of the open superblock, and of save-area blocks by superblock (R343). -/
  high : Sparse Nat := []
  /-- Valid codewords by superblock (R353). -/
  valid : Sparse Nat := []
  /-- The relocation list (R354): location keys. -/
  reloc : List Nat := []
  /-- Reclaim runs; the superblock under reclaim. -/
  reclaim : Bool := false
  victim : Option Nat := none
  /-- Erases under way: members not yet verified, by superblock; members suspended. -/
  erasing : Sparse Nat := []
  suspended : Sparse Nat := []
  /-- Suspensions of the erase in progress by die (32 × channel + die), and dies whose ERESMIN runs. -/
  esusp : Sparse Nat := []
  resting : Sparse Nat := []
  psusp : Sparse Nat := []
  /-- Firmware ring heads by channel. -/
  head : Sparse Nat := []
  /-- Read offsets by block class (32 × channel + die) × 4 + wear band: eight signed steps each; corrected-bit counts. -/
  offs : Sparse (List Int) := []
  track : Sparse (List Nat) := []
  /-- Save programming is in force (Table 8.3 step 6). -/
  saving : Bool := false
  /-- The start checks of R335 were made since the reset: channels in NV-LPDDR4. -/
  trained : Bool := false
  /-- The walk of R350 has been made since the reset. -/
  walked : Bool := false
  /-- Write-backs that cleaning has issued, oldest first: entry reference (3 x space page, 3 x map page + 1) and the copy
  read (Table 7.2). -/
  cleanQ : List (Nat × Codeword) := []
  /-- Firmware ring tails by channel; firmware ERASE descriptors under way by superblock (64 x channel + slot). -/
  tail : Sparse Nat := []
  eraseFw : Sparse Nat := []
  /-- Dies (32 x channel + die) whose program is suspended. -/
  phalt : List Nat := []
  deriving DecidableEq, Repr

/-! ## Tiers (chapter 07) -/

/-- A charge-set record (Table 7.6). -/
structure ChargeRec where
  tenants : List Nat
  twin : Bool
  deriving DecidableEq, Repr

/-- A group table entry (Table 7.6). -/
structure Group where
  extent : Nat
  seen : Nat
  deriving DecidableEq, Repr

/-- A quota ring entry. -/
structure RingEnt where
  extent : Nat
  tick : Nat
  deriving DecidableEq, Repr

/-- A tenant entry (Table 7.8) beside its derived counts. -/
structure Tenant where
  quota : Bool := false
  dquota : Nat := 0
  parklim : Nat := 2048
  squota : Nat := 0
  notsess0 : Nat := 0
  notsess1 : Nat := 0
  deriving DecidableEq, Repr

/-- A movement in flight (R229): pages still to move (512-bit mask), the request merged behind it, and what the twin
has answered. -/
structure Movement where
  pages : Nat
  /-- Pages to promote once the movement ends; demote once it ends if the charge set is empty. -/
  after : Nat := 0
  demoteAfter : Bool := false
  twinDone : Bool := true
  selfDone : Bool := false
  /-- This side moves at the lead side's MOVE and owes it MOVE_DONE. -/
  byMove : Bool := false
  /-- A movement of both sides: each owes the other MOVE_DONE (R181). -/
  pair : Bool := false
  /-- The twin refused its MOVE: the extent is demoted at once when this side is done (R234). -/
  forceOut : Bool := false
  start : Nat := 0
  deriving DecidableEq, Repr

/-- TIE beside its registers. -/
structure Tie where
  groups : Sparse Group := []
  recs : Sparse ChargeRec := []
  tenants : Sparse Tenant := []
  /-- The tenant table's edit shadow. -/
  tenEdit : Sparse Tenant := []
  rings : Sparse (List RingEnt) := []
  tick : Nat := 0
  moves : Sparse Movement := []
  /-- Fills under way by space page: start time. -/
  fills : Sparse Nat := []
  /-- Promotions that wait for room, oldest first: (extent, page mask, tenant). -/
  waiting : List (Nat × Nat × Nat) := []
  /-- Tier H: the committed lend table, (first H page, pages, bus address). -/
  lend : List (Nat × Nat × Nat) := []
  /-- Times of the last tier H failures, newest first. -/
  hfail : List Nat := []
  /-- Host accesses since the last sampled one. -/
  sampleCnt : Nat := 0
  /-- Pages that become DIRTY when their fill ends (R357). -/
  fillDirty : List Nat := []
  /-- The page that the cleaning walk visited last (R236). -/
  hand : Nat := 0
  /-- Pressure eviction runs: from LOWATER until HIWATER (R232). -/
  press : Bool := false
  /-- A committed tenant table that waits for TIE's quiet point (R233). -/
  tenPend : Option (Sparse Tenant) := none
  deriving DecidableEq, Repr

/-! ## What leaves the device -/

/-- An output, as the model records it. -/
inductive Out
  /-- A dictionary response frame on a path (R48); on path 0 with the port's own addresses that it leaves from (R77). -/
  | dict (path : Nat) (dst : Nat) (own : List Nat) (frame : List Nat)
  /-- A service response frame (R443). -/
  | svc (frame : List Nat)
  /-- A PMBus transaction: address, command, data bytes (R383). -/
  | pmbus (addr cmd : Nat) (data : List Nat)
  /-- An MDIO transaction (R77). -/
  | mdio (write : Bool) (phy reg data : Nat)
  /-- An answer to an ARP request, Neighbor Solicitation or echo request: port (16 for the management port), kind,
  the address answered for, and the requester. -/
  | net (port : Nat) (kind addr dst : Nat)
  /-- An MCTP control response (R77). -/
  | mctp (bytes : List Nat)
  /-- An MSI-X vector is signalled (Table 2.20). -/
  | msix (vector : Nat)
  /-- An access fault to the issuing core (R57, R423). -/
  | coreFault (core addr : Nat)
  /-- A message on the Visil link (Table 6.6), and a CTRL flit's act: 1 WIDTH, 2 WIDTH_ACK, 3 TRAIN, with its mask and
  the codeword count that a WIDTH_ACK names (the bits of a CTRL flit are nowhere stated). -/
  | twin (m : Msg)
  | ctrl (act mask cw : Nat)
  /-- A flit of 512 bytes (R184). -/
  | flit (bytes : List Nat)
  /-- A packet on logical port `lport` to the host of QP `qp`: BTH opcode, PSN, AETH syndrome (0 where none), ECN field and DSCP
  (R142), the VID of its tag where the port is tagged (R119), payload. -/
  | pkt (lport qp opcode psn syndrome ecn dscp : Nat) (tag : Option Nat) (payload : List Nat)
  /-- Pause on a priority begins or ends (R141); a millstone's requester packet resent from a PSN. -/
  | pause (lport prio : Nat) (on : Bool)
  | resend (qp psn : Nat)
  /-- A debug-module answer (R470). -/
  | debug (ok : Bool)
  deriving DecidableEq, Repr

/-! ## The transport (chapters 04 and 05) -/

/-- A slot of a command ring (Table 4.4). -/
structure RingSlot where
  payload : List Nat
  imm : Option Nat
  deriving DecidableEq, Repr

/-- A responder QP context (Table 4.2), its ring's slots, and the message that a First packet has begun (check 9). -/
structure Qp where
  qstate : Nat := 0
  dramfb : Bool := false
  cmdch : Bool := false
  lport : Nat := 0
  pmtu : Nat := 0
  tenant : Nat := 0
  ipver : Nat := 0
  pkey : Nat := 0
  destqp : Nat := 0
  epsn : Nat := 0
  xhorizon : Nat := 0
  rdatom : Nat := 0
  rdinfl : Nat := 0
  msn : Nat := 0
  lastack : Nat := 0
  credit : Nat := 0
  seqerr : Bool := false
  rip : Nat := 0
  udpsrc : Nat := 0
  dscp : Nat := 0
  hoplim : Nat := 0
  flowlbl : Nat := 0
  vid : Nat := 0
  rmac : Nat := 0
  ringframe : Nat := 0
  ringslots : Nat := 0
  ringhead : Nat := 0
  ringtail : Nat := 0
  aval : List Nat := [0, 0, 0, 0]
  apsn : List Nat := [0, 0, 0, 0]
  ahead : Nat := 0
  viols : Nat := 0
  rnrtimer : Nat := 0
  slots : Sparse RingSlot := []
  /-- The SEND in progress: its payload so far. -/
  sendBuf : List Nat := []
  /-- The message in progress: 0 none, 1 SEND, 2 WRITE; where the WRITE goes on, and how much of it is left. -/
  msg : Nat := 0
  msgVa : Nat := 0
  msgRkey : Nat := 0
  msgLeft : Nat := 0
  deriving DecidableEq, Repr

/-- What a request asks for (Table 4.4). -/
inductive ReqKind | send | write | read | cas | fadd | awrite | flush
  deriving DecidableEq, Repr

/-- Where a request stands between Parse and Answer. -/
inductive Stage | admitting | translate | place | done
  deriving DecidableEq, Repr

/-- How a request ends: good, or with one of the NAKs of Table 4.6; RNR and sequence-error NAKs wait for their turn as the answer of
a request that does nothing else (R17, R135). -/
inductive Fate | ok | invalid | access | operational | rnr | seq
  deriving DecidableEq, Repr

/-- Where a part of a request stands (R158, R159, R173, R237). -/
inductive PartSt | todo | parked | fetching | placed | forwarded | done
  deriving DecidableEq, Repr

/-- A part of a request on one page (R165). -/
structure Part where
  spage : Nat
  off : Nat
  len : Nat
  /-- Where the part begins in the payload. -/
  src : Nat
  st : PartSt := .todo
  tag : Nat := 0
  epoch : Nat := 0
  /-- Its miss has been reported (R225). -/
  missed : Bool := false
  /-- It was forwarded, and is to be executed here in arrival order (R168). -/
  redo : Bool := false
  deriving DecidableEq, Repr

/-- A request between Parse and Answer. -/
structure Req where
  id : Nat
  qp : Nat
  lport : Nat
  psn : Nat
  /-- PSNs that it takes (a READ takes one for each response packet). -/
  npsn : Nat
  kind : ReqKind
  rkey : Nat
  va : Nat
  len : Nat
  payload : List Nat
  compare : Nat
  swapAdd : Nat
  ackReq : Bool
  /-- The last packet of its message. -/
  last : Bool
  imm : Option Nat
  stage : Stage := .admitting
  /-- Returned by Place under R240; held for tokens (counted once in GOVHOLD). -/
  returned : Bool := false
  govHeld : Bool := false
  tokens : Nat := 0
  region : Nat := 0
  parts : List Part := []
  fate : Fate := .ok
  /-- READ data by byte, in order, as far as read; the original value of an atomic. -/
  data : List Nat := []
  orig : Nat := 0
  /-- An executed READ sent again (Table 5.2). -/
  dup : Bool := false
  /-- A millstone's write (R291), not a host's request. -/
  mst : Bool := false
  start : Nat := 0
  /-- It passed the access check and is counted for its region until it is answered (R87). -/
  passed : Bool := false
  /-- The QP's message state before its packet: kind, next VA, rkey, bytes left, SEND payload (R132). -/
  prior : Nat × Nat × Nat × Nat × List Nat := (0, 0, 0, 0, [])
  deriving DecidableEq, Repr

/-- A packet held in a miss buffer, or that waits for its QP to move ports (R129, R131). -/
structure HeldPkt where
  lport : Nat
  qp : Nat
  bytes : Nat
  pkt : Packet
  deriving DecidableEq, Repr

/-- A context fetch in flight: port that missed, start, and whether it serves a CNP-list entry alone (R129, R130). -/
structure Fetch where
  port : Nat
  start : Nat
  low : Bool
  deriving DecidableEq, Repr

/-- A cached context: port charged, last use (R127). -/
structure CtxEnt where
  port : Nat
  used : Nat
  deriving DecidableEq, Repr

/-- XPT beside its registers: contexts, cache, misses, requests. -/
structure Xpt where
  qps : Sparse Qp := []
  cache : Sparse CtxEnt := []
  fetches : Sparse Fetch := []
  held : List HeldPkt := []
  /-- Packets that arrived on another port than their QP's LPORT and wait for R131. -/
  moving : List HeldPkt := []
  /-- CNP lists: (pipeline, QP, since). -/
  cnpList : List (Nat × Nat × Nat) := []
  /-- When the last CNP of each QP was sent. -/
  cnpLast : Sparse Nat := []
  reqs : List Req := []
  nextReq : Nat := 0
  /-- Completions not acknowledged, by QP: count and time of the oldest. -/
  unacked : Sparse (Nat × Nat) := []
  /-- DRAM queue share and miss buffer fill are inputs of the rein loop. Park slots are counted from the requests. -/
  parkReturns : Sparse Nat := []
  missDrops : Sparse Nat := []
  /-- When a packet was last refused room in a miss buffer (XPT_MISSSTAT.FULL). -/
  fullAt : Sparse Nat := []
  deriving DecidableEq, Repr

/-- A packet that waits at a logical port's egress (R120, R121): class 0 control, 1 Answer's responses, 2 the millstones'. -/
structure TxPkt where
  lport : Nat
  cls : Nat
  qp : Nat
  out : Out
  deriving DecidableEq, Repr

/-- A host port: lanes locked and relinks under way (R118, R486); echo answers of the present second. -/
structure Prt where
  /-- Sub-ports paused, by priority mask: key 4 × instance + sub-port. -/
  paused : Sparse Nat := []
  /-- Logical ports in training after a relink. -/
  training : Sparse Bool := []
  /-- (second, answers) by logical port; 16 is the management port. -/
  echo : Sparse (Nat × Nat) := []
  /-- Lanes in use by each logical port, 0 when down. -/
  lanes : Sparse Nat := []
  /-- Packets that wait at the egress, oldest first; the PRTs that have sent pause (R141). -/
  txq : List TxPkt := []
  pausing : List Nat := []
  deriving DecidableEq, Repr

/-! ## Millstones (chapter 09) -/

/-- An instruction that has issued and not completed (R288). Ranges are (first line, lines) in the job's window. -/
structure MOp where
  pc : Nat
  /-- 0 fabric, 1 network, 2 datapath, 3 CRC, 4 SHA. -/
  unit : Nat
  /-- TURN and ITER that it runs under, and the header of its block: a prefetch runs under the next stage's. -/
  turn : Nat
  iter : Nat
  header : Nat
  pre : Bool := false
  reads : List (Nat × Nat) := []
  writes : List (Nat × Nat) := []
  slots : List Nat := []
  /-- Write requests that carry a PUT. -/
  reqs : List Nat := []
  /-- Network operations of it that wait for their acknowledgement. -/
  net : Nat := 0
  deriving DecidableEq, Repr

/-- A job in a slot of a millstone (R281, R288 to R290). -/
structure Job where
  index : Nat
  jseq : Nat
  mst : Nat
  slot : Nat
  list : List Nat
  window : Nat
  half : Nat
  stageto : Nat
  /-- Peer entries: VALID, RQP, RKEY, VABASE (Table 9.3). -/
  peers : List (List Nat)
  bank : List Nat
  bankDirty : Bool := false
  rbank : Nat
  /-- The cursor: STAGE header, pass, turn and stages committed. -/
  pc : Nat
  iter : Nat
  turn : Nat
  stages : Nat
  /-- The next instruction to issue. -/
  next : Nat
  ops : List MOp := []
  /-- Instructions of this stage, and of the following one, that its prefetch set executes. -/
  fetched : List Nat := []
  ahead : List Nat := []
  /-- Instructions of the prefetch set that have not issued yet; the stage has begun to issue. -/
  preLeft : List Nat := []
  started : Bool := false
  /-- Granules of 4 KiB that are stale, as a mask. -/
  stale : Nat := 0
  sram : List Host.Cell := []
  /-- 0 running, 1 the bank of a COMMIT is being written, 2 its line 0. -/
  phase : Nat := 0
  commitReqs : List Nat := []
  cancel : Bool := false
  waitSince : Option Nat := none
  waitOk : Bool := false
  /-- Since when it has waited for a FETCHS (R294). -/
  stall : Option Nat := none
  deriving DecidableEq, Repr

/-- An operation of a requester QP (R296): kind 0 READ, 1 WRITE, 2 FLUSH, 3 WRITE Only with Immediate; `first` is the PSN of
its first packet, `total` the PSNs that it takes. -/
structure Rop where
  kind : Nat
  job : Nat
  pc : Nat
  peer : Nat
  va : Nat
  rkey : Nat
  len : Nat
  data : List Nat
  imm : Nat
  first : Option Nat := none
  sent : Nat := 0
  total : Nat
  deriving DecidableEq, Repr

/-- A requester QP context (Table 9.8) and its operations in order. -/
structure RqQp where
  qstate : Nat := 0
  lport : Nat := 0
  pmtu : Nat := 0
  pkey : Nat := 0
  destqp : Nat := 0
  spsn : Nat := 0
  upsn : Nat := 0
  maxrd : Nat := 0
  outrd : Nat := 0
  rate : Nat := 0
  outwin : Nat := 64
  outpkt : Nat := 0
  retries : Nat := 0
  rnrused : Nat := 0
  rtocur : Nat := 0
  rip : Nat := 0
  udpsrc : Nat := 0
  dscp : Nat := 0
  hoplim : Nat := 0
  flowlbl : Nat := 0
  vid : Nat := 0
  rmac : Nat := 0
  ops : List Rop := []
  /-- Time of the last rate cut; an RNR wait runs. -/
  lastCut : Option Nat := none
  rnrWait : Bool := false
  deriving DecidableEq, Repr

/-- MST beside its registers. -/
structure Mst where
  /-- Queued jobs by JSEQ: (JSEQ, index), and how often each was passed over. -/
  queue : Sparse Nat := []
  passed : Sparse Nat := []
  jobs : List Job := []
  jseq : Nat := 0
  /-- The completion ring, oldest first: index, JSTATE, ERROR, JSEQ; completions not entered. -/
  ring : List (List Nat) := []
  lost : Nat := 0
  /-- By millstone: the slot whose turn it is and the instructions that it has issued in it. -/
  turnSlot : Sparse Nat := []
  turnCnt : Sparse Nat := []
  /-- The write of the job write port, and record writes, that are not yet durable. -/
  jwReq : List Nat := []
  /-- The write that the last command of MST_SUBMIT made, while it is not durable. -/
  cmdReq : Option Nat := none
  lineReqs : List Nat := []
  qps : Sparse RqQp := []
  deriving DecidableEq, Repr

/-! ## The twin (chapter 06) -/

/-- A page of the pending set (R196): MIRRORs and RESYNC_PAGEs without PLACED, FORWARDs without ORDERED, oldest time. -/
structure PendEnt where
  mirrors : Nat := 0
  forwards : Nat := 0
  since : Nat := 0
  deriving DecidableEq, Repr

/-- A map command that waits for the twin (R86): the entry to answer, its kind and the words that it needs to run here. -/
structure MapWait where
  tag : Nat
  /-- 0 a change sent to the other side, 1 to 3 a registration, deregistration or deallocation asked of the lead side, 4 a
  deallocation that waits for a movement, 5 and 6 a change sent for the other side's request, 7 its deallocation that waits. -/
  kind : Nat
  entry : Nat
  session : Nat
  words : List Nat
  deriving DecidableEq, Repr

/-- A reconciliation entry: epoch and CHECK (R214). -/
structure ReconEnt where
  epoch : Nat
  check : Nat
  deriving DecidableEq, Repr

/-- A DATA flit of the replay buffer: its FSEQ, FIRSTHDR and 31 slots. -/
structure TxFlit where
  seq : Nat
  first : Nat
  slots : List Nat
  deriving DecidableEq, Repr

/-- What the forward buffer keeps of a FORWARD or FWD_ATOMIC until its ORDERED (R197): page, offset, data. -/
structure FwdEnt where
  spage : Nat
  off : Nat
  data : List Nat
  deriving DecidableEq, Repr

/-- TWN beside its registers. -/
structure Twn where
  /-- 0 down, 1 trained, 2 faulted and retraining. -/
  link : Nat := 0
  /-- Retrain attempts made in this fault, and when a delay between attempts began. -/
  attempt : Nat := 0
  waitSince : Option Nat := none
  /-- Highest FSEQ received in order (ACKSEQ), NAK owed, replays without progress, and the peer's ACKSEQ. -/
  ackseq : Nat := 4095
  nakOut : Bool := false
  replays : Nat := 0
  peerAck : Nat := 4095
  /-- Slots received of a message not yet whole, 128-bit numbers. -/
  rx : List Nat := []
  /-- A flit has been received since the training; slots sent by VC and not credited back; slots freed by VC whose credits are owed;
  messages that wait for credit; slots, with their header marks, that wait for a flit; flits not acknowledged; the next FSEQ; the
  ACKSEQ last told; since when a gap's NAK stands; DATA is stopped while the link narrows (R184 to R187). -/
  flits : Bool := false
  used : List Nat := [0, 0, 0, 0]
  owed : List Nat := [0, 0, 0, 0]
  txq : List Msg := []
  txSlots : List (Bool × Nat) := []
  sentBuf : List TxFlit := []
  fseq : Nat := 0
  ackTold : Nat := 4095
  nakAt : Option Nat := none
  txStop : Bool := false
  /-- The forward buffer by tag (R197). -/
  fwd : Sparse FwdEnt := []
  /-- Pages for which a PAGEPULL is out (R195). -/
  pulled : List Nat := []
  /-- RESYNC_PAGEs that wait for room in the pending set: page, and whether it fences (R196). -/
  resyncWait : List (Nat × Bool) := []
  /-- The returner has been asked to ALIGN its residency (R211). -/
  aligned : Bool := false
  /-- ROUND 2 RECONs sent. -/
  reconSent : Nat := 0
  /-- Width exchange: mask named by this side, and the set to switch to. -/
  wOffer : Option Nat := none
  wSwitch : Option Nat := none
  /-- Lanes that passed probation and wait for WIDENGAP; last widening. -/
  passed : Nat := 0
  lastWiden : Option Nat := none
  /-- The lanes that the width exchange under way adds. -/
  adding : Nat := 0
  peerWmin : Nat := 0
  hello : Option Hello := none
  nextTag : Nat := 0
  pend : Sparse PendEnt := []
  /-- Messages that wait: epoch gaps, VC1 messages parked on a fill (oldest first). -/
  heldMsgs : List Msg := []
  /-- Lines whose TREAD is outstanding: (spage, line, epoch at which non-home repair applies). -/
  treads : List (Nat × Nat) := []
  /-- The pipeline of a TREAD that Place sent, by 64 × page + line (R177). -/
  treadPipe : Sparse Nat := []
  /-- Lines repaired at an epoch: later messages with an epoch not newer leave the line alone (R198). -/
  repaired : List (Nat × Nat × Nat) := []
  waits : List MapWait := []
  /-- Map requests of the other side that firmware is to do (interrupt source 37). -/
  mapq : List Msg := []
  /-- The decision under way: 0 none, 1 RECONCILE, 2 CATCHUP survivor, 3 CATCHUP returner. -/
  pairing : Nat := 0
  peerPend : List Nat := []
  /-- Catch-up step (Table 6.13), pages sent, start. -/
  cstep : Nat := 0
  csent : Nat := 0
  cstart : Nat := 0
  /-- RESYNC_PAGEs and ASYNC MIRRORs without PLACED. -/
  asyncTags : List Nat := []
  reconOwn : Sparse ReconEnt := []
  reconPeer : Sparse ReconEnt := []
  reconEndTx : Bool := false
  reconEndRx : Bool := false
  /-- This side was made returner by JOIN, and resends its log before catch-up. -/
  joined : Bool := false
  /-- The pages of the returner's log that JOIN sent, for the fences of R203. -/
  joinLog : List Nat := []
  /-- Discard VC0 and VC1 after DEPART (R204). -/
  departed : Bool := false
  /-- SPAN command pending at this side: the entry that waits. -/
  spanCmd : Bool := false
  /-- The WHOLE extent that the catch-up walk is in, and the pages of it already sent (R209). -/
  wext : Nat := 0
  wsub : Nat := 0
  /-- Extents whose MOVE ALIGN has no MOVE_DONE. -/
  alignWait : List Nat := []
  /-- The returner has been asked to serve (SPANREQ), and the survivor's new writes take the SPAN conditions (R213). -/
  spanReq : Bool := false
  spanOk : Bool := false
  /-- The refusal that JOIN resolves: 0 none, 1 PAIRID, 2 SPLIT (R203). -/
  lastDec : Nat := 0
  /-- The running level set at the last pairing; 0: the enabled level (R8). -/
  runLevel : Nat := 0
  deriving DecidableEq, Repr


/-! ## The governor, save and restore (chapter 08) -/

/-- Why a save runs (Table 8.5 CAUSE, R381). -/
inductive SaveCause | warning | brownOut | governor | offRequest | reset5
  deriving DecidableEq, Repr

/-- Table 8.5's CAUSE codes; a brown-out acts as a warning (R381). -/
def SaveCause.code : SaveCause → Nat
  | .warning => 1 | .brownOut => 1 | .governor => 2 | .offRequest => 3 | .reset5 => 4

/-- One image page: its directory record (Table 8.4) and its content by byte offset (unlisted bytes are 0). -/
structure ImgPage where
  kind : Nat
  pinned : Bool
  frame : Nat
  spage : Nat
  epoch : Nat
  poison : Nat
  data : List Host.Cell
  deriving DecidableEq, Repr

/-- A seal record (Table 8.5). -/
structure Seal where
  seq : Nat
  /-- 1 SEALED, 2 RETIRED. -/
  state : Nat
  cause : Nat
  firstSb : Nat
  sbUsed : Nat
  pages : Nat
  dirA : Nat
  dirB : Nat
  dirCrc : Nat
  rmeas : Nat
  pmeas : Nat
  pext : Nat
  dgroups : Nat
  level : Nat
  usable : List Nat
  deriving DecidableEq, Repr

/-- A save image: the map area's content, the log area, the dirty data pages in frame order (R263). -/
structure SaveImage where
  maps : Maps
  log : TwinLog
  pages : List ImgPage
  deriving DecidableEq, Repr

/-- SAV beside its registers. `anchorA`, `anchorB` and `images` are content of store flash: records newest first, images
by SEALSEQ. -/
structure Sav where
  cause : Option SaveCause := none
  /-- A save that waits for the save path in RISING with DRAM retained (R259). -/
  wanted : Option SaveCause := none
  start : Nat := 0
  /-- Save steps complete (bit n: step n of Table 8.3). -/
  steps : Nat := 0
  /-- Module voltages at the start of the save, for PMEAS (R379). -/
  vStart : List Nat := []
  img : Option SaveImage := none
  /-- The restore step under way (Table 8.6), 0 none, and when RESTORING began. -/
  rstep : Nat := 0
  rstart : Nat := 0
  chosen : Option Seal := none
  /-- Pages written in this restore. -/
  rpages : Nat := 0
  anchorA : List Seal := []
  anchorB : List Seal := []
  images : Sparse SaveImage := []
  /-- The seal record of the save under way, and the anchors that hold it (bit 0 A, bit 1 B). -/
  sealRec : Option Seal := none
  sealed : Nat := 0
  /-- Pages used in the active block of anchors A and B, and which of the two blocks is active (bit 0 A, bit 1 B). -/
  anchorUsed : List Nat := [0, 0]
  anchorBlk : Nat := 0
  /-- Save-area superblocks that are not erased. -/
  dirtySb : List Nat := []
  /-- The rehearsal was asked for by command. -/
  rehearseCmd : Bool := false
  /-- Rehearsal under way since. -/
  rehearsal : Option Nat := none
  lastRehearsal : Nat := 0
  gateReport : Nat := 0
  deriving DecidableEq, Repr

/-- GOV beside its registers. -/
structure Gov where
  /-- The first computation since a reset has been taken (R255). -/
  computed : Bool := false
  /-- The module under test and its V0 (R252). -/
  test : Option Nat := none
  testCmd : Bool := false
  /-- Modules read, and modules whose capacitance test has run, since RESTORING began (R269). -/
  readMask : Nat := 0
  testMask : Nat := 0
  lastTest : Nat := 0
  /-- C and L in bytes, and whether ERASED limits C (event 0x2540). -/
  ceil : Nat := 0
  limit : Nat := 0
  erasedLim : Bool := false
  deriving DecidableEq, Repr

/-! ## The whole state -/

/-- The device. -/
structure State where
  /-- Microseconds counted by the model's clock (R66, log entry 2). -/
  now : Nat := 0
  dev : DevState := .standby
  rf : RegFile := {}
  fuses : Fuses := {}
  gai : Gai := {}
  pwr : Pwr := {}
  rst : Rst := {}
  tack : Tack := {}
  recd : Recorder := {}
  dic : Dic := {}
  pci : Pci := {}
  /-- Frames that the management port has dropped (R77). -/
  mgtDrops : Nat := 0
  /-- The MDIO transaction under way (R77): when it ends, and what a read brings. -/
  mdio : Option (Nat × Option Nat) := none
  cpx : Cpx := {}
  svc : Svc := {}
  key : Key := {}
  kpf : Kpf := {}
  clk : Clk := {}
  cal : Cal := {}
  sav : Sav := {}
  gov : Gov := {}
  maps : Maps := {}
  log : TwinLog := {}
  trn : Trn := {}
  dram : Dram := {}
  drc : Sparse DrcSt := []
  grm : Grm := {}
  far : Far := {}
  stf : Stf := {}
  tie : Tie := {}
  mst : Mst := {}
  xpt : Xpt := {}
  prt : Prt := {}
  twn : Twn := {}
  /-- Draws made so far from the free values of Config (the model's own field, log entry 5). -/
  draws : Nat := 0
  /-- Everything that has left the device, newest first (the model's own field, log entry 3). -/
  out : List Out := []
  /-- The commands that wait, first in, first out. -/
  pending : List Instr := []
  deriving DecidableEq, Repr

/-- Why a step stops with a fault. No meaning of this model stops. -/
inductive Fault
  /-- Raised by no command: every command has an effect in every state (R11, R20). Safe. -/
  | none
  deriving DecidableEq, Repr

/-- Why a command has no meaning. -/
inductive Refusal
  /-- The command is not modelled yet. Raised by Dispatch's refused arms only. Safe. -/
  | notModelled (mnemonic : String)
  deriving DecidableEq, Repr

/-- The device right after a power-on reset that zeroed the tack room (R387, R388): STANDBY, every field at its reset value. -/
def State.reset : State := {}

end Sys2Proof.Machine
end

