-- ==== Sys2Proof/Machine/Ops.lean ====
section
/-! DEFINITION. The named operations that the commands share: reading and writing registers and counters, the
event recorder, device-state changes, snapshots of the tack room, command-entry status and outputs. -/

namespace Sys2Proof.Machine

/-- What a meaning answers. -/
abbrev Out3 := Host.Outcome State Fault Refusal

/-! ## Bits -/

/-- Bits [lsb + wid − 1 : lsb] of a number. -/
def bits (v lsb wid : Nat) : Nat := v / 2 ^ lsb % 2 ^ wid

/-- Bit `i` of a mask. -/
def bit (m i : Nat) : Bool := m / 2 ^ i % 2 = 1

/-- A mask with bit `i` set. -/
def bitSet (m i : Nat) : Nat := if bit m i then m else m + 2 ^ i

/-- A mask with bit `i` clear. -/
def bitClr (m i : Nat) : Nat := if bit m i then m - 2 ^ i else m

/-- A mask with bit `i` as given. -/
def bitPut (m i : Nat) (b : Bool) : Nat := if b then bitSet m i else bitClr m i

/-- 1 for true, 0 for false. -/
def b2n (b : Bool) : Nat := if b then 1 else 0

/-- The little-endian bytes of `v`, `n` of them. -/
def leBytes (v : Nat) : Nat → List Nat
  | 0 => []
  | n + 1 => v % 256 :: leBytes (v / 256) n

/-- The number that little-endian bytes spell. -/
def leNat : List Nat → Nat
  | [] => 0
  | b :: bs => b % 256 + 256 * leNat bs

/-- The number that big-endian bytes spell. -/
def beNat (bs : List Nat) : Nat := leNat bs.reverse

/-- The big-endian bytes of `v`, `n` of them. -/
def beBytes (v n : Nat) : List Nat := (leBytes v n).reverse

/-! ## Registers (R11, R57 to R65) -/

namespace State

/-- Write element `i` of a field of block copy `b`, at the field's width, whatever its access and class: what the
hardware itself does to a field, and what an accepted write does when it takes force. -/
def wr (s : State) (F : Fld) (v : Nat) (i : Nat := 0) (b : Nat := 0) : State :=
  { s with rf := { s.rf with val := s.rf.val.put (F.key i b) (v % 2 ^ F.wid) (F.dflt (i + F.cnt * b)) } }

/-- The value in force of element `i` of a field of block copy `b`. -/
def rd (s : State) (F : Fld) (i : Nat := 0) (b : Nat := 0) : Nat :=
  s.rf.val.get (F.key i b) (F.dflt (i + F.cnt * b))

/-- A one-bit field as a Bool. -/
def on (s : State) (F : Fld) (i : Nat := 0) (b : Nat := 0) : Bool := decide (s.rd F i b = 1)

/-- Bit `k` of a mask field. -/
def rbit (s : State) (F : Fld) (k : Nat) (b : Nat := 0) : Bool := bit (s.rd F 0 b) k

/-- Set or clear bit `k` of a mask field. -/
def wbit (s : State) (F : Fld) (k : Nat) (v : Bool) (b : Nat := 0) : State :=
  s.wr F (bitPut (s.rd F 0 b) k v) 0 b

/-- A 64-bit value held in two 32-bit fields, low word first. -/
def rd64 (s : State) (L H : Fld) (i : Nat := 0) : Nat := s.rd L i + 2 ^ 32 * s.rd H i

/-- Write a 64-bit value into two 32-bit fields. -/
def wr64 (s : State) (L H : Fld) (v : Nat) (i : Nat := 0) : State :=
  (s.wr L (v % 2 ^ 32) i).wr H (v / 2 ^ 32 % 2 ^ 32) i

/-- The value that the next write of part of a field starts from (R65): the shadow if one is pending, else the value
in force. -/
def shadowed (s : State) (F : Fld) (i : Nat := 0) (b : Nat := 0) : Nat :=
  match s.rf.shadow.find? (F.key i b) with
  | some v => v
  | none => s.rd F i b

/-- Does block `n` run (R58)? -/
def running (s : State) (n : Nat) : Bool := s.on R.BLKSTAT_RUNNING 0 n

/-- Does block `n` take new work: it runs and is not draining for a stop (R58)? -/
def takes (s : State) (n : Nat) : Bool := s.running n && !s.on R.BLKSTAT_STOPPING 0 n

/-! ## Counters (R57, R68) -/

/-- A counter's value. -/
def ctr (s : State) (c : Ctr) (i : Nat := 0) (b : Nat := 0) : Nat := s.rf.ctr.get (c.key i b) 0

/-- Add `n` to a 64-bit counter. -/
def bump (s : State) (c : Ctr) (n : Nat := 1) (i : Nat := 0) (b : Nat := 0) : State :=
  { s with rf := { s.rf with ctr := s.rf.ctr.put (c.key i b) ((s.ctr c i b + n) % 2 ^ 64) 0 } }

/-! ## Time -/

/-- Microseconds since `t`. -/
def since (s : State) (t : Nat) : Nat := s.now - t

/-! ## Outputs -/

/-- Something leaves the device. -/
def emit (s : State) (o : Out) : State := { s with out := o :: s.out }

end State

/-! ## The event recorder (R436 to R439, R52) -/

/-- EVT_KIND of kind `k` (R438). -/
def kindWord (s : State) (k : Nat) : Nat := s.rd R.EVT_KIND k

/-- Millionths of a token in a code's bucket now: it starts full and gains RATE per second up to BURST (R438). -/
def bucketNow (s : State) (code : Nat) : Nat :=
  let w := kindWord s (code / 32)
  let full := bits w 0 8 * 1000000
  match s.recd.buckets.find? code with
  | none => full
  | some b => min full (b.level + bits w 8 16 * (s.now - b.time))

/-- Does an occurrence of this code find a token (RATE 0: no limit)? -/
def hasToken (s : State) (code : Nat) : Bool :=
  decide (bits (kindWord s (code / 32)) 8 16 = 0) || decide (1000000 ≤ bucketNow s code)

/-- Is a record of this code copied to the stud book (R439)? -/
def studWanted (s : State) (code sev : Nat) : Bool :=
  decide (s.rd R.STB_MINSEV_MINSEV ≤ sev) || bit (kindWord s (code / 32)) 31

/-- The sessions that a record reaches: filter and minimum severity admit it, or it is named (R52). -/
def notified (s : State) (code sev : Nat) (named : List Nat) : List Nat :=
  (s.dic.sessions.filter (fun e => e.2.isOpen &&
    (named.contains e.1 ||
      (bit e.2.filter (code / 1024) && decide (e.2.minSev ≤ sev))))).map (·.1)

/-- The 32 bytes of an event record (Table 14.6): payload fields packed from byte 16 as 32-bit little-endian words
(log entry 16). -/
def recordBytes (r : EvRec) : List Nat :=
  leBytes r.seq 8 ++ leBytes r.code 2 ++ [r.sev, b2n r.summary + 2 * b2n r.studbook] ++
  leBytes r.suppressed 4 ++ ((r.payload.flatMap (fun v => leBytes v 4)) ++ List.replicate 16 0).take 16

/-- A frame header (Table 2.4). -/
def frameHead (kind flags session seq len status : Nat) : List Nat :=
  beBytes (2 ^ 28 + kind * 2 ^ 24 + flags * 2 ^ 16 + session) 4 ++ beBytes seq 4 ++ beBytes (len * 2 ^ 16 + status * 2 ^ 8) 4

/-- A frame with its tag: AES-CMAC under the session key, all zero without one (R49). -/
def sealFrame (key head body : List Nat) : List Nat :=
  head ++ body ++ (if key.isEmpty then List.replicate 16 0 else Crypto.cmac key (head ++ body))

/-- The management port's own addresses in force: MAC, IPv4, IPv6 (R77). -/
def mgtOwn (s : State) : List Nat :=
  [s.rd R.MGT_MACL_MAC + 2 ^ 32 * s.rd R.MGT_MACH_MAC, s.rd R.MGT_IP4_ADDR,
   (List.range 4).foldl (fun a w => a * 2 ^ 32 + s.rd R.MGT_IP6 w) 0]

/-- A record leaves for one session as a NOTIFY frame with the session's next notification sequence (R52). On path 2 it waits for
NTFBUF, and NOTIFY_READY raises MSI-X vector 2 (Table 2.9); those behind it wait in order, without a bound (log entry 153). -/
def notifyOne (s : State) (n : Nat) (r : EvRec) : State :=
  match s.dic.sessions.find? n with
  | none => s
  | some x =>
    let k := s.recd.nseq.get n 0 + 1
    let f := sealFrame x.key (frameHead 7 0 n k 32 0) (recordBytes r)
    let t : State := { s with recd := { s.recd with nseq := s.recd.nseq.ins n k } }
    let t := t.bump C.KEY_BLOCKS 4
    if x.path = 2 then
      let u : State := { t with recd := { t.recd with notes := t.recd.notes ++ [{ session := n, frame := f }] } }
      if t.recd.notes.isEmpty then u.emit (.msix 2) else u
    else if x.path = 3 then (t.emit (.twin (.dictRsp 0 f))).bump C.TWN_FLITTX
    else t.emit (.dict x.path x.src (if x.path = 0 then mgtOwn t else []) f)

/-- Write one record into the ring and send it to its three places (R436, R437, R439). -/
def record (s : State) (code : Nat) (payload : List Nat) (summary : Bool) (named : List Nat) (sev : Nat) : State :=
  let seq := s.recd.head + 1
  let line := bits (kindWord s (code / 32)) 24 6
  let want := studWanted s code sev
  let room := decide (s.recd.studQ.length < 64)
  let r : EvRec := { seq, code, sev, summary, studbook := want && room,
                     suppressed := s.recd.suppressed.get code 0, payload }
  let who := notified s code sev named
  let t : State := { s with recd := { s.recd with
      ring := (r :: s.recd.ring).take 16384
      head := seq
      buckets := if bits (kindWord s (code / 32)) 8 16 = 0 then s.recd.buckets
                 else s.recd.buckets.ins code { level := bucketNow s code - 1000000, time := s.now }
      suppressed := s.recd.suppressed.del code
      lastRec := s.recd.lastRec.ins code s.now
      line := if line = 0 then s.recd.line else s.recd.line.ins line seq
      studQ := if want && room then s.recd.studQ ++
                 [{ record := r, resets := s.tack.bkp.get 1 0, dev := s.dev.code,
                    twin := s.rd R.TWN_STATE_TSTATE, fwid := s.cpx.fwid }]
               else s.recd.studQ
      studLost := if want && !room then s.recd.studLost + 1 else s.recd.studLost } }
  who.foldl (fun u n => notifyOne u n r) t

/-- One occurrence of an event: recorded under its token bucket or counted as suppressed (R438). -/
def occur (s : State) (code : Nat) (payload : List Nat) (named : List Nat) (sev : Nat := severity code) : State :=
  if hasToken s code then record s code payload false named sev
  else { s with recd := { s.recd with suppressed := s.recd.suppressed.ins code (s.recd.suppressed.get code 0 + 1) } }

/-- An event for the sessions whose filters admit it and those named (R52), with event 0x5020 where its stud book copy
finds the queue full (R441). -/
def raiseTo (s : State) (code : Nat) (payload : List Nat) (named : List Nat) (sev : Nat := severity code) : State :=
  let t := occur s code payload named sev
  if t.recd.studLost = s.recd.studLost then t else occur t 0x5020 [t.recd.studLost] []

/-- An event (R436). -/
def raise (s : State) (code : Nat) (payload : List Nat) : State := raiseTo s code payload []

/-- A draw of the noise-seeded generator, `n` bytes (R464). -/
def drawBytes (s : State) (n : Nat) : List Nat := leBytes (Config.random s.draws) n

/-- Count one draw; the generator reseeds every 2^20 requests (R464). -/
def drawn (s : State) : State :=
  { s with draws := s.draws + 1, key := { s.key with sinceSeed := (s.key.sinceSeed + 1) % 1048576 } }

/-! ## Command entries (R38) and entries that front no register (R11) -/

/-- Key of an entry: index × 256 + subindex (R37). -/
def ekey (index sub : Nat) : Nat := index * 256 + sub

/-- The status of a command entry. -/
def cmdStat (s : State) (e : Nat) : CmdStat := s.dic.cmds.get e {}

/-- Set a command entry's status. -/
def setCmd (s : State) (e : Nat) (c : CmdStat) : State :=
  { s with dic := { s.dic with cmds := s.dic.cmds.ins e c } }

/-- A command starts: RUNNING with progress 0 (R38). -/
def cmdRun (s : State) (e : Nat) : State := setCmd s e { state := 1, code := 0, progress := 0 }

/-- A command ends DONE: progress 0xFFFF (R38). -/
def cmdDone (s : State) (e : Nat) : State := setCmd s e { state := 2, code := 0, progress := 0xFFFF }

/-- A command ends FAILED with a code, keeping its progress (R38). -/
def cmdFail (s : State) (e code : Nat) : State :=
  setCmd s e { state := 3, code := code % 256, progress := (cmdStat s e).progress }

/-- A command ends FAILED with a code that its chapter does not name (log entry 7). -/
def cmdFailFree (s : State) (e : Nat) : State := cmdFail s e (Config.failureCode e)

/-- An entry that fronts no register, with its default. -/
def ent (s : State) (e dflt : Nat) : Nat := s.dic.ent.get e dflt

/-- Write such an entry. -/
def setEnt (s : State) (e v : Nat) : State := { s with dic := { s.dic with ent := s.dic.ent.ins e v } }

/-! ## The tack room (R386, R387) -/

/-- A backup register of the tack room. -/
def bkp (s : State) (n : Nat) : Nat := s.tack.bkp.get n 0

/-- Write a backup register. -/
def setBkp (s : State) (n v : Nat) : State :=
  { s with tack := { s.tack with bkp := s.tack.bkp.put n (v % 2 ^ 32) 0 } }

/-- An ADC code in mV: 20 V full scale over 4,096 steps (R377). -/
def adcMv (code : Nat) : Nat := code * 20000 / 4096

/-- The code of a voltage in mV. -/
def adcCode (mv : Nat) : Nat := min 4095 (mv * 4096 / 20000)

/-- The snapshot record of the present moment (Table 12.5). -/
def snapshotOf (s : State) (cause rail : Nat) : Snapshot :=
  { seq := s.tack.snapCount + 1
    cause, rail
    step := s.rd R.PWR_SEQSTAT_STEP + (if s.rd R.PWR_SEQSTAT_PHASE = 2 then 128 else 0)
    dev := s.dev.code
    usInStep := s.now - s.pwr.stepStart
    enmask := s.rd R.PWR_ENSTAT
    pgraw := s.pwr.pgRaw
    pgqual := s.rd R.PWR_PGSTAT
    cross := (List.range 24).map (fun r => min 255 (s.pwr.cross.get r 0))
    adc := (List.range 10).map (fun c => adcMv (s.rd R.PWR_ADC c))
    vout := (List.range 24).map (fun r => s.pwr.vout.get r 0)
    iout := (List.range 24).map (fun r => s.pwr.iout.get r 0) }

/-- The slot that the next snapshot takes (BKP3[3:0]). -/
def nextSnapSlot (s : State) : Nat := bkp s 3 % 16

/-- A snapshot into the next slot of the ring (R386): the record, BKP3, BKP4, BKP5 and the counter. -/
def snapshot (s : State) (cause rail : Nat) : State :=
  let slot := nextSnapSlot s
  let t : State := { s with tack := { s.tack with
    snaps := s.tack.snaps.ins slot (snapshotOf s cause rail)
    snapCount := s.tack.snapCount + 1 } }
  let t := setBkp t 3 (bkp t 3 / 16 * 16 + (slot + 1) % 16)
  let t := setBkp t 4 (t.rd R.PWR_UNSTABLE)
  let t := setBkp t 5 (t.rd R.PWR_TIMEOUT)
  t.bump C.PWR_SNAPSHOTS

/-- A reset history record into the next history slot (Table 12.6). -/
def historyRecord (s : State) (q : ResetReq) : State :=
  let slot := bkp s 3 / 16 % 16
  let t : State := { s with tack := { s.tack with
    hist := s.tack.hist.ins slot
      { level := q.level, source := q.source, block := q.block, dev := s.dev.code, evseq := s.recd.head } } }
  setBkp t 3 (bkp t 3 / 256 * 256 + (slot + 1) % 16 * 16 + bkp t 3 % 16)

/-- The newest reset history record. -/
def newestHistory (s : State) : Option HistRec := s.tack.hist.find? ((bkp s 3 / 16 + 15) % 16)

/-! ## Device state (R20, R35) -/

/-- Is the core domain supplied, so that blocks outside the always-on domain can act? -/
def awake (s : State) : Bool := decide (s.dev ≠ .off) && decide (s.dev ≠ .standby)

/-- The device enters a state: event 0x0400 and MSI-X vector 0 (R35, Table 2.20). `why` labels the cause. -/
def setDev (s : State) (d : DevState) (why : Nat) : State :=
  let old := s.dev.code
  let t := raise { s with dev := d } 0x0400 [old, d.code, Config.payloadCode 0x0400 why]
  t.emit (.msix 0)

/-- Input power is qualified: no warning, and no brown-out from the input bus (R20). -/
def inputQualified (s : State) : Bool := !s.on R.PWR_INSTAT_WARN && !s.pwr.boVin

/-- A microsecond of the clock: now counts one, and mtime 50 (R423). -/
def clock (s : State) : State :=
  { s with now := s.now + 1, cpx := { s.cpx with mtime := (s.cpx.mtime + 50) % 2 ^ 64 } }

/-- The progress of every RUNNING command rises (R38), by how much is nowhere stated (log entry 9); it reads 0xFFFF at DONE only. -/
def progressRise (s : State) : State :=
  { s with dic := { s.dic with cmds := s.dic.cmds.mapK (fun k c =>
      if c.state = 1 then { c with progress := min 0xFFFE (c.progress + Config.unstated 60 [k, s.now] % 0x10000) } else c) } }

end Sys2Proof.Machine
end

