-- ==== Sys2Proof/Machine/MapOps.lean ====
section
/-! DEFINITION. Tier D bytes and lines, and the map tables: layout (R96), entries as words (R82 to R94), updates and the
hopper (R107, R109), dirtiness of map pages (R98), the translation caches (R104 to R106, R111). -/

namespace Sys2Proof.Machine

/-! ## Bytes by address -/

/-- The byte at `a`; an unlisted byte is 0. -/
def memGet (m : List Host.Cell) (a : Nat) : Nat := (Sparse.get m a 0#8).toNat

/-- Write one byte, keeping the canonical form. -/
def memPut (m : List Host.Cell) (a v : Nat) : List Host.Cell := Sparse.put m a (BitVec.ofNat 8 v) 0#8

/-- `n` bytes from `a`. -/
def memRead (m : List Host.Cell) (a n : Nat) : List Nat := (List.range n).map (fun i => memGet m (a + i))

/-- Write bytes from `a` on. -/
def memWrite (m : List Host.Cell) (a : Nat) : List Nat → List Host.Cell
  | [] => m
  | b :: bs => memWrite (memPut m a b) (a + 1) bs

/-- Make `n` bytes from `a` zero. -/
def memZero (m : List Host.Cell) (a n : Nat) : List Host.Cell :=
  Sparse.keep m (fun k => decide (k < a) || decide (a + n ≤ k))

/-- The bytes from `a` to `a + n`, at offsets from `a`. -/
def memCut (m : List Host.Cell) (a n : Nat) : List Host.Cell :=
  (Sparse.keep m (fun k => decide (a ≤ k) && decide (k < a + n))).map (fun c => (c.1 - a, c.2))

/-- Replace `n` bytes from `a` by cells at offsets from `a`. -/
def memPaste (m : List Host.Cell) (a n : Nat) (cells : List Host.Cell) : List Host.Cell :=
  cells.foldl (fun u c => if c.1 < n then memPut u (a + c.1) c.2.toNat else u) (memZero m a n)

/-- The canonical form of memory: addresses strictly rising, no listed byte equal to 0. -/
def Memory.wf (m : List Host.Cell) : Bool := Sparse.wf m && m.all (fun c => decide (c.2 ≠ 0#8))

/-! ## Stripes (R101, R102) -/

/-- Tier D bytes that the DRC geometry gives: 16 channels of 2^(19 + ROWBITS + RANKBITS) bytes (R102). -/
def geometryBytes (s : State) : Nat := 16 * 2 ^ (19 + s.rd R.DRC_ADDRMAP_ROWBITS + s.rd R.DRC_ADDRMAP_RANKBITS)

/-- Grain in bytes and stripe width in channels (Table 3.10), from DRC[0]. -/
def grain (s : State) : Nat := match s.rd R.DRC_ADDRMAP_GRAIN with | 0 => 256 | 1 => 1024 | _ => 4096
def stripeWidth (s : State) : Nat := match s.rd R.DRC_ADDRMAP_WIDTH with | 0 => 4 | 1 => 8 | _ => 16

/-- Channel and channel address of tier D address `a` (R101). -/
def stripe (s : State) (a : Nat) : Nat × Nat :=
  let g := grain s
  let w := stripeWidth s
  let part := geometryBytes s * w / 16
  let b := a % part
  (a / part * w + b / g % w, b / (g * w) * g + b % g)

/-! ## Banks (R103, R309) -/

/-- Fields of a channel address from CA[6] upward in a burst order, as (name, width): 0 COL, 1 SUB, 2 BG, 3 BANK, 4 ROW,
5 RANK, 6 COL[2:0], 7 COL[6:3] (Table 3.11). -/
def burstFields (order rowbits rankbits : Nat) : List (Nat × Nat) :=
  match order with
  | 0 => [(0, 7), (1, 1), (2, 3), (3, 2), (4, rowbits), (5, rankbits)]
  | 1 => [(1, 1), (2, 3), (3, 2), (5, rankbits), (0, 7), (4, rowbits)]
  | 2 => [(6, 3), (1, 1), (2, 3), (7, 4), (3, 2), (4, rowbits), (5, rankbits)]
  | _ => [(2, 3), (0, 7), (1, 1), (3, 2), (4, rowbits), (5, rankbits)]

/-- The value of field `n` in a channel address, the fields starting at bit `lsb`. -/
def burstGet (ca n : Nat) : Nat → List (Nat × Nat) → Nat
  | _, [] => 0
  | lsb, (m, w) :: fs => if m = n then bits ca lsb w else burstGet ca n (lsb + w) fs

/-- A burst: subchannel, bank group, bank, row, column, rank of channel `c`'s address (R103). -/
structure Burst where
  sub : Nat
  bg : Nat
  bank : Nat
  row : Nat
  col : Nat
  rank : Nat
  deriving DecidableEq, Repr

/-- The burst of a channel address (R103). -/
def burstOf (s : State) (c ca : Nat) : Burst :=
  let fs := burstFields (s.rd R.DRC_ADDRMAP_ORDER 0 c) (s.rd R.DRC_ADDRMAP_ROWBITS 0 c) (s.rd R.DRC_ADDRMAP_RANKBITS 0 c)
  let g := fun n => burstGet ca n 6 fs
  { sub := g 1, bg := g 2, bank := g 3, row := g 4, rank := g 5, col := g 0 + g 6 + 8 * g 7 }

/-- One DRC. -/
def drcAt (s : State) (c : Nat) : DrcSt := s.drc.get c {}
def setDrc (s : State) (c : Nat) (d : DrcSt) : State := { s with drc := s.drc.ins c d }

/-- The bank number of a burst, 0 to 255. -/
def bankOf (b : Burst) : Nat := b.rank * 64 + b.sub * 32 + b.bg * 4 + b.bank

/-- An access to a bank: hit or miss, history counter, and whether its row stays open (R309, Table 10.3). -/
def bankAccess (s : State) (c : Nat) (b : Burst) : State :=
  let n := bankOf b
  let d := drcAt s c
  let same := decide (d.row.find? n = some b.row)
  let hit := same && d.opened.has n
  let h := d.hist.get n 2
  let h' := if s.on R.DRC_PAGEPOL_FREEZE 0 c ∨ !d.row.has n then h else if same then min 3 (h + 1) else h - 1
  let keep := match s.rd R.DRC_PAGEPOL_BIAS 0 c with
    | 0 => false
    | 1 => decide (2 ≤ h')
    | _ => decide (1 ≤ h')
  let t := setDrc s c { d with
    hist := d.hist.ins n h', row := d.row.ins n b.row
    opened := if keep then d.opened.ins n b.row else d.opened.del n }
  let t := if t.rbit R.DRC_SR_RANKSR b.rank c then t.wbit R.DRC_SR_RANKSR b.rank false c else t
  if hit then t.bump C.DRC_PAGEHIT 1 0 c else t.bump C.DRC_PAGEMISS 1 0 c

/-- An access to line `l` (tier D byte address / 64). -/
def lineAccess (s : State) (l : Nat) : State :=
  let q := stripe s (64 * l)
  bankAccess s q.1 (burstOf s q.1 q.2)

/-! ## Tier D -/

/-- A line enters its DRC's write queue, with the line it merges with if that one waits; at 96 lines the queue drains to 32 (R307). A
part-line write waits there for its merge read (R152). -/
def wqPut (s : State) (l : Nat) (part : Bool) : State :=
  let chan := fun (x : Nat) => (stripe s (64 * x)).1
  let q := if s.dram.wq.any (fun e => e.1 = l) then s.dram.wq.map (fun e => if e.1 = l then (l, e.2 && part) else e)
    else s.dram.wq ++ [(l, part)]
  let mine := q.filter (fun e => chan e.1 = chan l)
  let gone := if 96 ≤ mine.length then mine.take (mine.length - 32) else []
  let t := { s with dram := { s.dram with wq := q.filter (fun e => !gone.contains e) } }.bump C.DRC_WRLINES 1 0 (chan l)
  gone.foldl (fun u e => lineAccess u e.1) t

/-- The DRCs write what their queues hold: with no read waiting, and completely at a save or a reset of level 4 (R152, R307). -/
def drainWrites (s : State) : State :=
  s.dram.wq.foldl (fun u e => lineAccess u e.1) { s with dram := { s.dram with wq := [] } }

/-- Bytes of tier D. -/
def dRead (s : State) (a n : Nat) : List Nat := memRead s.dram.data a n

/-- The lines that `n` bytes from `a` touch, each with whether they cover it only in part. -/
def linesOf (a n : Nat) : List (Nat × Bool) :=
  if n = 0 then [] else (List.range ((a + n - 1) / 64 - a / 64 + 1)).map (fun i =>
    let l := a / 64 + i
    (l, decide (64 * l < a) || decide (a + n < 64 * l + 64)))

/-- Write bytes of tier D: their lines enter the write queues. -/
def dWrite (s : State) (a : Nat) (bs : List Nat) : State :=
  (linesOf a bs.length).foldl (fun t e => wqPut t e.1 e.2) { s with dram := { s.dram with data := memWrite s.dram.data a bs } }

/-- What ails line `l` (line address = byte address / 64). -/
def lineFault (s : State) (l : Nat) : Option LineFault := s.dram.lines.find? l

/-- Line `l` is sound again. -/
def lineSound (s : State) (l : Nat) : State :=
  { s with dram := { s.dram with lines := s.dram.lines.del l } }

/-- The poison syndrome is written into line `l`: zero data under the pattern P (R315). -/
def linePoison (s : State) (l : Nat) : State :=
  { s with dram := { s.dram with
      lines := s.dram.lines.ins l .poison, data := memZero s.dram.data (64 * l) 64 } }

/-- Poison is written into a line: event 0x2C60 + c (R315), `why` labels the cause. -/
def writePoison (s : State) (l why : Nat) : State :=
  let q := stripe s (64 * l)
  raise (linePoison s l) (0x2C60 + q.1) [q.2, Config.payloadCode 0x2C60 why]

/-- The poison map of the frame `f` (bit n: line n). -/
def framePoison (s : State) (f : Nat) : Nat :=
  (List.range 64).foldl (fun a n => if lineFault s (64 * f + n) = some .poison then a + 2 ^ n else a) 0

/-- Every line of frame `f` is sound. -/
def frameSound (s : State) (f : Nat) : State :=
  { s with dram := { s.dram with lines := s.dram.lines.keep (fun l => decide (l / 64 ≠ f)) } }

/-- Install content in frame `f`: cells at offsets, and poisoned lines, each with its event. What waited in a write queue for a line of
the frame is overtaken. -/
def frameFill (s : State) (f : Nat) (cells : List Host.Cell) (poison : Nat) : State :=
  let t := frameSound { s with dram := { s.dram with data := memPaste s.dram.data (4096 * f) 4096 cells } } f
  let t : State := { t with dram := { t.dram with wq := t.dram.wq.filter (fun e => decide (e.1 / 64 ≠ f)) } }
  (List.range 64).foldl (fun u n => if bit poison n then writePoison u (64 * f + n) 3 else u) t

/-- The content of frame `f`. -/
def frameCells (s : State) (f : Nat) : List Host.Cell := memCut s.dram.data (4096 * f) 4096

/-! ## Layout of the map area (R96, Table 3.8) -/

/-- Bytes rounded up to whole groups of 2 MiB, in groups. -/
def groupsOf (n : Nat) : Nat := (n + 2097151) / 2097152

/-- Groups of the extent map, the frame table and the store map. -/
def layoutX (pext : Nat) : Nat := groupsOf (32 * pext)
def layoutF (dgroups : Nat) : Nat := groupsOf (16 * 512 * dgroups)
def layoutS (pext : Nat) : Nat := groupsOf (4096 * pext)

/-- Groups of the locator: the least L with L ≥ (2 MiB + X + F + S + L) / 512. -/
def layoutL (pext dgroups : Nat) : Nat :=
  (1 + layoutX pext + layoutF dgroups + layoutS pext + 510) / 511

/-- Section bases in groups, and the map end. -/
def extBaseOf (pext dgroups : Nat) : Nat := 2 + layoutL pext dgroups
def frmBaseOf (pext dgroups : Nat) : Nat := extBaseOf pext dgroups + layoutX pext
def stmBaseOf (pext dgroups : Nat) : Nat := frmBaseOf pext dgroups + layoutF dgroups
def mapEndOf (pext dgroups : Nat) : Nat := stmBaseOf pext dgroups + layoutS pext

/-- Registers that hold the layout. -/
def pext (s : State) : Nat := s.rd R.TRN_PSPACE_PEXT
def dgroups (s : State) : Nat := s.rd R.TRN_DGROUPS_DGROUPS
def mapEnd (s : State) : Nat := s.rd R.TRN_MAPSTAT_MAPEND

/-- Raw store capacity in bytes (Table 11.1). -/
def rawStore (s : State) : Nat :=
  32 * 2 ^ s.rd R.STF_GEOM_DPCLOG * (s.rd R.STF_GEOM_BPDM1 + 1) * s.rd R.STF_GEOM_PPB * 16384

/-- Is the layout bad (R97, R80)? -/
def layoutBad (s : State) : Bool :=
  decide (pext s = 0) || decide (100663296 < pext s) || decide (rawStore s * 3 / 4 / 2097152 < pext s) ||
  decide (dgroups s = 0) || decide (dgroups s / 2 < mapEndOf (pext s) (dgroups s)) ||
  decide (geometryBytes s < dgroups s * 2097152)

/-- Tier D addresses of entries. -/
def regAddr (i : Nat) : Nat := 2097152 + 64 * i
def blkAddr (k : Nat) : Nat := 0x300000 + 8 * k
def locAddr (f : Nat) : Nat := 4194304 + 8 * (f - 512)
def extAddr (s : State) (e : Nat) : Nat := s.rd R.TRN_EXTBASE * 2097152 + 32 * e
def frmAddr (s : State) (f : Nat) : Nat := s.rd R.TRN_FRMBASE * 2097152 + 16 * f
def stmAddr (s : State) (p : Nat) : Nat := s.rd R.TRN_STMBASE * 2097152 + 8 * p

/-! ## The hopper (R109) and dirty map pages (R98, R248) -/

/-- TRN_HOPSTAT from the hopper. -/
def showHopper (s : State) : State :=
  (s.wr R.TRN_HOPSTAT_LINES s.trn.hopper.length).wr R.TRN_HOPSTAT_EMPTY (b2n s.trn.hopper.isEmpty)

/-- The hopper posts every line to DRAM. -/
def drainHopper (s : State) : State := showHopper { s with trn := { s.trn with hopper := [] } }

/-- Age in µs of the oldest hopper line. -/
def hopperAge (s : State) : Nat := s.trn.hopper.foldl (fun a e => max a (s.now - e.2)) 0

/-- A write to map address `a` is posted to the hopper: merged, or a new line; above high water it drains at once. -/
def hopWrite (s : State) (a : Nat) : State :=
  if s.trn.hopper.has (a / 64) then s.bump C.TRN_HOPMERGE
  else
    let t := showHopper { s with trn := { s.trn with hopper := s.trn.hopper.ins (a / 64) s.now } }
    if t.rd R.TRN_HOPCFG_HIWATER < t.trn.hopper.length then
      drainHopper (raise t 0x14C0 [t.trn.hopper.length, hopperAge t])
    else t

/-- Does a frame count in its extent's DIRTYCNT (Table 3.5)? -/
def Frame.isDirty (f : Frame) : Bool := f.pstate = .dirty || f.pstate = .cleaning

/-- Does a frame count in GOV_DIRTY (R248)? -/
def Frame.counted (f : Frame) : Bool :=
  f.pstate = .dirty || f.pstate = .cleaning || (f.pstate = .pinned && f.pdirty)

/-- The entry of frame `f`; a map-area frame is always PINNED under its own number (R93). -/
def frameAt (s : State) (f : Nat) : Frame :=
  s.maps.frames.get f (if f < 512 * mapEnd s then { pstate := .pinned, spage := f } else {})

/-- GOV_DIRTY moves by a frame entry's change. -/
def countDirty (s : State) (old new : Bool) : State :=
  if old = new then s
  else if new then s.wr R.GOV_DIRTY (s.rd R.GOV_DIRTY + 1)
  else s.wr R.GOV_DIRTY (s.rd R.GOV_DIRTY - 1)

/-- The map page (or log page) at frame `f` becomes dirty; its own entry's page follows unless it was dirty already. The
root map is counted at all times. -/
def dirtyPage : Nat → Nat → State → State
  | 0, _, s => s
  | n + 1, f, s =>
    let x := frameAt s f
    if f < 512 ∨ x.pdirty then s
    else
      let t : State := { s with maps := { s.maps with
        frames := s.maps.frames.ins f { x with pstate := .pinned, pdirty := true, spage := f } } }
      let t := hopWrite (countDirty t false true) (frmAddr t f)
      dirtyPage n (frmAddr t f / 4096) t

/-- A map entry at tier D address `a` has changed: the hopper takes the line and the map page is dirty. -/
def mapTouch (a : Nat) (s : State) : State :=
  let t := hopWrite s a
  dirtyPage 5 (a / 4096) t

/-! ## Entries -/

/-- Is the line of tier D address `a` poisoned? -/
def badEntry (s : State) (a : Nat) : Bool := decide (lineFault s (a / 64) = some .poison)

/-- The entry of region `i`. -/
def regionAt (s : State) (i : Nat) : Region := s.maps.regions.get i {}

/-- Change region `i` (R107). -/
def setRegion (s : State) (i : Nat) (r : Region) : State :=
  mapTouch (regAddr i) { s with maps := { s.maps with regions := s.maps.regions.ins i r } }

/-- The entry of extent `e`. -/
def extentAt (s : State) (e : Nat) : Extent := s.maps.extents.get e {}

/-- Drop the cached translations of extent `e`. -/
def uncacheExtent (s : State) (e : Nat) : State :=
  { s with trn := { s.trn with
      l1 := s.trn.l1.keepV (fun x => decide (x.extent ≠ e))
      l2 := s.trn.l2.mapK (fun k x =>
        if k / 16 = e / 8 % 512 ∧ x.tag = e / 4096 then { x with valid := bitClr x.valid (e % 8) } else x) } }

/-- An update of extent `e` marks its fill in flight stale; after two stale fills in a row the third is not marked (R110): TRN holds the
update until that fill is installed. -/
def staleFill (s : State) (e : Nat) : State :=
  { s with trn := { s.trn with
      fills := s.trn.fills.map (fun x =>
        if x.extent / 2 = e / 2 ∧ x.staleRuns < 2 then { x with stale := true } else x) } }

/-- Change extent `e` (R107): every cached copy sees it whole; an update to UNALLOCATED invalidates the copies. -/
def setExtent (s : State) (e : Nat) (x : Extent) : State :=
  let t := staleFill { s with maps := { s.maps with extents := s.maps.extents.ins e x } } e
  mapTouch (extAddr t e) (if x.estate = 0 then uncacheExtent t e else t)

/-- Change extent `e` by a function. -/
def modExtent (s : State) (e : Nat) (f : Extent → Extent) : State := setExtent s e (f (extentAt s e))

/-- Change frame entry `f` (R107), with GOV_DIRTY. -/
def setFrame (s : State) (f : Nat) (x : Frame) : State :=
  let old := (frameAt s f).counted
  let t : State := { s with maps := { s.maps with frames := s.maps.frames.ins f x } }
  mapTouch (frmAddr t f) (countDirty t old x.counted)

/-- A store location as one number (Table 3.7's bits). -/
def locKey (l : SLoc) : Nat := (((l.block * 32 + l.die) * 8192 + l.page) * 4 + l.cw) * 32 + l.ch

/-- The location that a key spells. -/
def keyLoc (k : Nat) : SLoc :=
  { sstate := 1, ch := k % 32, cw := k / 32 % 4, page := k / 128 % 8192, die := k / 1048576 % 32, block := k / 33554432 }

/-- The superblock of a location (R336). -/
def locSb (s : State) (l : SLoc) : Nat := l.block * 2 ^ s.rd R.STF_GEOM_DPCLOG + l.die

/-- Does superblock `k` lie in the save area (R336)? -/
def inSaveArea (s : State) (k : Nat) : Bool :=
  let b := k / 2 ^ s.rd R.STF_GEOM_DPCLOG
  decide (s.rd R.SAV_AREA_SBBASE ≤ b) && decide (b < s.rd R.SAV_AREA_SBBASE + s.rd R.SAV_AREA_SBCOUNT)

/-- The block state of superblock `k`. -/
def blkAt (s : State) (k : Nat) : BlkSt := s.maps.blocks.get k {}

/-- Store superblocks of the geometry. -/
def superblocks (s : State) : Nat := 2 ^ s.rd R.STF_GEOM_DPCLOG * (s.rd R.STF_GEOM_BPDM1 + 1)

/-- Change a block state entry (R347), with STF_STAT.FREESB. -/
def setBlk (s : State) (k : Nat) (x : BlkSt) : State :=
  let old := (blkAt s k).state
  let t := mapTouch (blkAddr k) { s with maps := { s.maps with blocks := s.maps.blocks.ins k x } }
  if inSaveArea t k ∨ (old = 0) = (x.state = 0) then t
  else if x.state = 0 then t.wr R.STF_STAT_FREESB (t.rd R.STF_STAT_FREESB + 1)
  else t.wr R.STF_STAT_FREESB (t.rd R.STF_STAT_FREESB - 1)

/-- TRN reports a change of an entry that names tier S to STF (R353): counts move, and a FULL store superblock whose count
reaches 0 is STALE (R348). -/
def reportLoc (s : State) (old new : SLoc) : State :=
  let t := if new.sstate = 1 then
      let k := locSb s new
      { s with stf := { s.stf with valid := s.stf.valid.put k (s.stf.valid.get k 0 + 1) 0 } }
    else s
  if old.sstate = 1 then
    let k := locSb t old
    let n := t.stf.valid.get k 0 - 1
    let t : State := { t with stf := { t.stf with valid := t.stf.valid.put k n 0 } }
    if n = 0 ∧ (blkAt t k).state = 4 ∧ !inSaveArea t k then setBlk t k { blkAt t k with state := 5 } else t
  else t

/-- The store-map entry of space page `p`. -/
def storeAt (s : State) (p : Nat) : SLoc := s.maps.store.get p {}

/-- Change a store-map entry (R107). -/
def setStore (s : State) (p : Nat) (l : SLoc) : State :=
  let old := storeAt s p
  let t := mapTouch (stmAddr s p) { s with maps := { s.maps with store := s.maps.store.put p l {} } }
  reportLoc t old l

/-- The locator entry of map page `f`, and its change. -/
def locatorAt (s : State) (f : Nat) : SLoc := s.maps.locator.get f {}
def setLocator (s : State) (f : Nat) (l : SLoc) : State :=
  let old := locatorAt s f
  let t := mapTouch (locAddr f) { s with maps := { s.maps with locator := s.maps.locator.put f l {} } }
  reportLoc t old l

/-- The root entry of locator page `j`, and its change; the root map is never cleaned. -/
def rootAt (s : State) (j : Nat) : SLoc := s.maps.root.get j {}
def setRoot (s : State) (j : Nat) (l : SLoc) : State :=
  let old := rootAt s j
  let t := mapTouch (8 * j) { s with maps := { s.maps with root := s.maps.root.put j l {} } }
  reportLoc t old l

/-! ## Pages and frames (R92) -/

/-- The frame of page `p` of the space, where its extent has a group. -/
def frameOf (s : State) (p : Nat) : Option Nat :=
  let x := extentAt s (p / 512)
  if x.ingroup then some (x.fgroup * 512 + p % 512) else none

/-- Does page `p` need a map entry whose line is poisoned (Table 10.6): its extent's, its store-map entry, or its frame's? -/
def mapPoisoned (s : State) (p : Nat) : Bool :=
  badEntry s (extAddr s (p / 512)) || badEntry s (stmAddr s p) ||
  match frameOf s p with
  | some f => badEntry s (frmAddr s f)
  | none => false

/-- The frame entry of a space page; ABSENT without a group. -/
def pageFrame (s : State) (p : Nat) : Frame :=
  match frameOf s p with
  | some f => s.maps.frames.get f {}
  | none => {}

/-- Is a page resident and usable (R112)? -/
def usable (s : State) (p : Nat) : Bool :=
  match (pageFrame s p).pstate with
  | .clean | .dirty | .cleaning | .pinned => true
  | _ => false

/-- The epoch of a page: in its frame entry while resident, else in the metadata of its codeword (R93). -/
def pageEpoch (s : State) (p : Nat) : Nat :=
  if usable s p then (pageFrame s p).epoch
  else match s.stf.cells.find? (locKey (storeAt s p)) with
    | some c => if (storeAt s p).sstate = 1 then c.epoch else (pageFrame s p).epoch
    | none => (pageFrame s p).epoch

/-- The content of a page at this side: tier D, else tier S, else zeros. -/
def pageCells (s : State) (p : Nat) : List Host.Cell :=
  match usable s p, frameOf s p with
  | true, some f => frameCells s f
  | _, _ =>
    if (storeAt s p).sstate = 1 then ((s.stf.cells.find? (locKey (storeAt s p))).map (·.data)).getD [] else []

/-- The poison map of a page at this side. -/
def pagePoison (s : State) (p : Nat) : Nat :=
  match usable s p, frameOf s p with
  | true, some f => framePoison s f
  | _, _ =>
    if (storeAt s p).sstate = 1 then ((s.stf.cells.find? (locKey (storeAt s p))).map (·.poison)).getD 0
    else if (storeAt s p).sstate = 2 then 2 ^ 64 - 1 else 0

/-- The 4,096 bytes that cells at page offsets spell. -/
def cellBytes (c : List Host.Cell) : List Nat := memRead c 0 4096

/-- Cells of 4,096 bytes at page offsets. -/
def bytesCells (bs : List Nat) : List Host.Cell := memWrite [] 0 (bs.take 4096)

/-! ## Entries as words (Tables 3.3, 3.5, 3.6, 3.7, 11.8) -/

/-- The eight words of a region entry. -/
def regionWords (r : Region) : List Nat :=
  [r.state * 2 ^ 62 + r.gen * 2 ^ 54 + r.salt * 2 ^ 44 + r.tenant * 2 ^ 34 + r.home * 2 ^ 32 + b2n r.rread * 2 ^ 31
     + b2n r.rwrite * 2 ^ 30 + b2n r.ratomic * 2 ^ 29 + b2n r.scratch * 2 ^ 28 + r.tpol * 2 ^ 25,
   r.vabase, r.sapage, r.lenpages, r.regseq, r.label, 0, 0]

/-- A region entry from its words. -/
def regionOf (w : List Nat) : Region :=
  let q := w.getD 0 0
  { state := bits q 62 2, gen := bits q 54 8, salt := bits q 44 10, tenant := bits q 34 10, home := bits q 32 2
    rread := bit q 31, rwrite := bit q 30, ratomic := bit q 29, scratch := bit q 28, tpol := bits q 25 3
    vabase := bits (w.getD 1 0) 0 64, sapage := bits (w.getD 2 0) 0 36, lenpages := bits (w.getD 3 0) 0 36
    regseq := bits (w.getD 4 0) 0 64, label := bits (w.getD 5 0) 0 64 }

/-- The four words of an extent entry. -/
def extentWords (x : Extent) : List Nat :=
  [x.estate * 2 ^ 62 + (if x.movekind = 0 then 0 else 2 ^ 61) + x.movekind * 2 ^ 58 + x.home * 2 ^ 56 + x.tpol * 2 ^ 53
     + x.owner * 2 ^ 43 + b2n x.ingroup * 2 ^ 42 + x.fgroup * 2 ^ 20 + x.rescnt * 2 ^ 10 + x.dirtycnt,
   x.charge * 2 ^ 32,
   x.lasttick * 2 ^ 48 + x.reads * 2 ^ 40 + x.writes * 2 ^ 32 + x.misses * 2 ^ 16, 0]

/-- An extent entry from its words. -/
def extentOf (w : List Nat) : Extent :=
  let q := w.getD 0 0
  let h := w.getD 2 0
  { estate := bits q 62 2, movekind := if bit q 61 then bits q 58 3 else 0, home := bits q 56 2, tpol := bits q 53 3
    owner := bits q 43 10, ingroup := bit q 42, fgroup := bits q 20 22, rescnt := bits q 10 10, dirtycnt := bits q 0 10
    charge := bits (w.getD 1 0) 32 32, lasttick := bits h 48 16, reads := bits h 40 8, writes := bits h 32 8
    misses := bits h 16 16 }

/-- PSTATE from its code; the reserved codes read as ABSENT. -/
def pstateOf (n : Nat) : PState :=
  match n with
  | 1 => .filling | 2 => .clean | 3 => .dirty | 4 => .cleaning | 5 => .pinned | _ => .absent

/-- The two words of a frame entry. -/
def frameWords (f : Frame) : List Nat :=
  [f.pstate.code * 2 ^ 61 + b2n f.pdirty * 2 ^ 60 + f.age * 2 ^ 56 + f.epoch, f.spage * 2 ^ 28]

/-- A frame entry from its words. -/
def frameOfWords (w : List Nat) : Frame :=
  let q := w.getD 0 0
  { pstate := pstateOf (bits q 61 3), pdirty := bit q 60, age := bits q 56 4, epoch := bits q 0 48
    spage := bits (w.getD 1 0) 28 36 }

/-- A store location as a word. -/
def slocWord (l : SLoc) : Nat :=
  l.sstate * 2 ^ 62 + l.ch * 2 ^ 57 + l.die * 2 ^ 52 + l.block * 2 ^ 38 + l.page * 2 ^ 25 + l.cw * 2 ^ 23

/-- A store location from its word. -/
def slocOf (w : Nat) : SLoc :=
  { sstate := bits w 62 2, ch := bits w 57 5, die := bits w 52 5, block := bits w 38 14, page := bits w 25 13
    cw := bits w 23 2 }

/-- A block state entry as a word, and from it. -/
def blkWord (b : BlkSt) : Nat := b.state * 2 ^ 60 + b.retmask * 2 ^ 28 + b.erases * 2 ^ 14
def blkOf (w : Nat) : BlkSt := { state := bits w 60 4, retmask := bits w 28 32, erases := bits w 14 14 }

/-- One 64-bit word of the map area, written at word address `a / 8` (R107): the entry that holds it takes the word. -/
def setMapWord (s : State) (a v : Nat) : State :=
  let g := 2097152
  if a < g then setRoot s (a / 8) (slocOf v)
  else if a < 0x300000 then
    let i := (a - g) / 64
    setRegion s i (regionOf (List.set (regionWords (regionAt s i)) (a / 8 % 8) v))
  else if a < 2 * g then setBlk s ((a - 0x300000) / 8) (blkOf v)
  else if a < s.rd R.TRN_EXTBASE * g then setLocator s (512 + (a - 2 * g) / 8) (slocOf v)
  else if a < s.rd R.TRN_FRMBASE * g then
    let e := (a - s.rd R.TRN_EXTBASE * g) / 32
    setExtent s e (extentOf (List.set (extentWords (extentAt s e)) (a / 8 % 4) v))
  else if a < s.rd R.TRN_STMBASE * g then
    let f := (a - s.rd R.TRN_FRMBASE * g) / 16
    setFrame s f (frameOfWords (List.set (frameWords (frameAt s f)) (a / 8 % 2) v))
  else setStore s ((a - s.rd R.TRN_STMBASE * g) / 8) (slocOf v)

/-- The word of the map area at word address `a / 8`, hopper lines merged in (R96). -/
def mapWord (s : State) (a : Nat) : Nat :=
  let g := 2097152
  if a < g then slocWord (rootAt s (a / 8))
  else if a < 0x300000 then (regionWords (regionAt s ((a - g) / 64))).getD (a / 8 % 8) 0
  else if a < 2 * g then blkWord (blkAt s ((a - 0x300000) / 8))
  else if a < s.rd R.TRN_EXTBASE * g then slocWord (locatorAt s (512 + (a - 2 * g) / 8))
  else if a < s.rd R.TRN_FRMBASE * g then (extentWords (extentAt s ((a - s.rd R.TRN_EXTBASE * g) / 32))).getD (a / 8 % 4) 0
  else if a < s.rd R.TRN_STMBASE * g then (frameWords (frameAt s ((a - s.rd R.TRN_FRMBASE * g) / 16))).getD (a / 8 % 2) 0
  else slocWord (storeAt s ((a - s.rd R.TRN_STMBASE * g) / 8))

/-- The content of map page `f`. -/
def mapPageCells (s : State) (f : Nat) : List Host.Cell :=
  bytesCells ((List.range 512).flatMap (fun i => leBytes (mapWord s (4096 * f + 8 * i)) 8))

/-- A word of the map area as a restore installs it: no cache, hopper or dirtiness is involved (R99). -/
def loadMapWord (s : State) (a v : Nat) : State :=
  let g := 2097152
  let m := s.maps
  let put := fun (n : Maps) => { s with maps := n }
  if a < g then put { m with root := m.root.put (a / 8) (slocOf v) {} }
  else if a < 0x300000 then
    let i := (a - g) / 64
    put { m with regions := m.regions.put i (regionOf ((regionWords (regionAt s i)).set (a / 8 % 8) v)) {} }
  else if a < 2 * g then put { m with blocks := m.blocks.put ((a - 0x300000) / 8) (blkOf v) {} }
  else if a < s.rd R.TRN_EXTBASE * g then put { m with locator := m.locator.put (512 + (a - 2 * g) / 8) (slocOf v) {} }
  else if a < s.rd R.TRN_FRMBASE * g then
    let e := (a - s.rd R.TRN_EXTBASE * g) / 32
    put { m with extents := m.extents.put e (extentOf ((extentWords (extentAt s e)).set (a / 8 % 4) v)) {} }
  else if a < s.rd R.TRN_STMBASE * g then
    let f := (a - s.rd R.TRN_FRMBASE * g) / 16
    put { m with frames := m.frames.put f (frameOfWords ((frameWords (frameAt s f)).set (a / 8 % 2) v)) {} }
  else put { m with store := m.store.put ((a - s.rd R.TRN_STMBASE * g) / 8) (slocOf v) {} }

/-- Map page `f` takes its content from a codeword. -/
def loadMapPage (s : State) (f : Nat) (cells : List Host.Cell) : State :=
  (List.range 512).foldl (fun t i => loadMapWord t (4096 * f + 8 * i) (leNat (memRead cells (8 * i) 8))) s

/-! ## The translation caches -/

/-- Set the referenced bit of entry `i` of port `p`'s first level: when all 48 would be set, the others clear (R104). -/
def l1Refer (l1 : Sparse L1Ent) (p i : Nat) : Sparse L1Ent :=
  let full := (List.range 48).all (fun j => j = i || ((l1.find? (48 * p + j)).map (·.ref)).getD false)
  l1.mapK (fun k x =>
    if k = 48 * p + i then { x with ref := true }
    else if full ∧ k / 48 = p then { x with ref := false } else x)

/-- The entry of port `p`'s first level that holds extent `e`. -/
def l1Find (s : State) (p e : Nat) : Option Nat :=
  (List.range 48).find? (fun i => (s.trn.l1.find? (48 * p + i)).map (·.extent) = some e)

/-- Fill port `p`'s first level with extent `e`: the lowest entry whose bit is clear (R104). -/
def l1Fill (s : State) (p e : Nat) : State :=
  let i := ((List.range 48).find? (fun j => !((s.trn.l1.find? (48 * p + j)).map (·.ref)).getD false)).getD 0
  { s with trn := { s.trn with l1 := l1Refer (s.trn.l1.ins (48 * p + i) { extent := e, ref := false }) p i } }

/-- The way of the second level that holds the tag of extent `e`. -/
def l2Way (s : State) (e : Nat) : Option Nat :=
  (List.range 16).find? (fun w => (s.trn.l2.find? (16 * (e / 8 % 512) + w)).map (·.tag) = some (e / 4096))

/-- A second-level hit: the tag's sector is valid; a hit of a source that is not streaming sets the age to 0. -/
def l2Hit (s : State) (e : Nat) (streaming : Bool) : Option State :=
  match l2Way s e with
  | none => none
  | some w =>
    let k := 16 * (e / 8 % 512) + w
    match s.trn.l2.find? k with
    | some x =>
      if bit x.valid (e % 8) then
        some (if streaming then s
              else { s with trn := { s.trn with l2 := s.trn.l2.ins k { x with age := 0 } } })
      else none
    | none => none

/-- The victim way of a set: a tag with no valid sector, else the highest age, the lowest way on a tie (R105). -/
def l2Victim (s : State) (set : Nat) : Nat :=
  let age := fun w => match s.trn.l2.find? (16 * set + w) with
    | none => 4
    | some x => if x.valid = 0 then 4 else x.age
  (List.range 16).foldl (fun b w => if age b < age w then w else b) 0

/-- Install the line of extent `e`: both sectors (R105); a new tag takes age 3 from a streaming source, else 0 (R106). -/
def l2Install (s : State) (e : Nat) (streaming : Bool) : State :=
  let set := e / 8 % 512
  let pair := 3 * 4 ^ (e % 8 / 2)
  match l2Way s e with
  | some w =>
    let k := 16 * set + w
    { s with trn := { s.trn with l2 := s.trn.l2.mapK (fun j x => if j = k then { x with valid := x.valid ||| pair } else x) } }
  | none =>
    let k := 16 * set + l2Victim s set
    { s with trn := { s.trn with
        l2 := s.trn.l2.ins k { tag := e / 4096, valid := pair, age := if streaming then 3 else 0 } } }

/-- A second-level miss issues a fill, unless one of the extent's line is in flight (R110). -/
def issueFill (s : State) (e : Nat) (streaming : Bool) : State :=
  if s.trn.fills.any (fun f => f.extent / 2 = e / 2) then s
  else { s with trn := { s.trn with fills := s.trn.fills ++ [{ extent := e, streaming }] } }

/-- A lookup of a streaming source (R106). -/
def streamLookup (s : State) (e : Nat) : State :=
  match l2Hit s e true with
  | some t => t
  | none => issueFill (s.bump C.TRN_L2MISS) e true

/-- A host request of port `p` looks up extent `e` (R104, R105): hit, or a fill to wait for. -/
def hostLookup (s : State) (p e : Nat) : State × Bool :=
  match l1Find s p e with
  | some i => ({ s with trn := { s.trn with l1 := l1Refer s.trn.l1 p i } }.bump C.TRN_L1HIT 1 p, true)
  | none =>
    let t := s.bump C.TRN_L1MISS 1 p
    match l2Hit t e false with
    | some u => (l1Fill u p e, true)
    | none => (issueFill (t.bump C.TRN_L2MISS) e false, false)

/-- Invalidate-all (R111): fills in flight are discarded on return. -/
def dropFills (s : State) : State :=
  { s with trn := { s.trn with fills := s.trn.fills.map (fun f => { f with dropped := true }) } }
def clearL1 (s : State) (ports : Nat) : State :=
  dropFills { s with trn := { s.trn with l1 := s.trn.l1.keep (fun k => !bit ports (k / 48)) } }
def clearL2 (s : State) : State := dropFills { s with trn := { s.trn with l2 := [] } }

/-! ## Reserved groups (R221, R222) -/

/-- Do `n` bytes from tier D address `a` lie in the reserved groups? -/
def inReserved (s : State) (a n : Nat) : Bool :=
  decide (mapEnd s * 2097152 ≤ a) && decide (a + n ≤ s.rd R.TIE_DATABASE_DATABASE * 2097152)

end Sys2Proof.Machine
end

