-- ==== Sys2Proof/Machine/LinkOps.lean ====
section
/-! DEFINITION. The sending half of the Visil link: messages as slots (R192, Tables 6.5 to 6.7), virtual channels and their credits
(R186), DATA and IDLE flits, the replay buffer (R184, R185). -/

namespace Sys2Proof.Machine

/-! ## The twin's state, and homes (R90, R157, R199) -/

def tstate (s : State) : Nat := s.rd R.TWN_STATE_TSTATE
def isSpan (s : State) : Bool := decide (tstate s = 2)

/-- The side that is home of a page: its extent's HOME, by page number under INTERLEAVE. -/
def homeSide (s : State) (p : Nat) : Nat :=
  match (extentAt s (p / 512)).home with
  | 0 => 0
  | 1 => 1
  | _ => p % 2

/-- Is this side home of the page? Outside SPAN it is home of every page. -/
def isHome (s : State) (p : Nat) : Bool := !isSpan s || decide (homeSide s p = s.rd R.TWN_CFG_SIDE)

/-- CRC-64 with the ECMA-182 polynomial, initial value 0, no final XOR (R184). -/
def crc64 (bs : List Nat) : Nat := bs.foldl (Crypto.crcByteMsb 64 0x42F0E1EBA9EA3693) 0

/-! ## Messages as slots -/

/-- Bytes in 16-byte slots, padded with 0 (R192). -/
def dataSlots (bs : List Nat) : List Nat :=
  (List.range ((bs.length + 15) / 16)).map (fun k => beNat (((bs.drop (16 * k)).take 16 ++ List.replicate 16 0).take 16))

/-- 64-bit words as the bytes of a table entry in memory, in slots. -/
def wordSlots (ws : List Nat) : List Nat := dataSlots (ws.flatMap (fun w => leBytes w 8))

/-- Space page numbers, two to a slot. -/
def pageSlots (ps : List Nat) : List Nat :=
  (List.range ((ps.length + 1) / 2)).map (fun k => ps.getD (2 * k) 0 * 2 ^ 64 + ps.getD (2 * k + 1) 0)

/-- The page mask of a MOVE or MOVEREQ: slot k flags pages 128(k − 1) on. -/
def maskSlots (m : Nat) : List Nat := (List.range 4).map (fun k => bits m (128 * k) 128)

/-- MTYPE, VC, TAG, field A and the slots after the header (Tables 6.6 and 6.7). A TREAD goes on VC1 from the home of its page. -/
def msgFields (s : State) (m : Msg) : Nat × Nat × Nat × Nat × List Nat :=
  match m with
  | .mirror tag ep p off async d =>
    (0x01, 1, tag, ep * 2 ^ 48 + p * 2 ^ 12 + off, (d.length * 2 ^ 115 + b2n async * 2 ^ 114) :: dataSlots d)
  | .forward tag p off d => (0x02, 0, tag, p * 2 ^ 60 + off * 2 ^ 48 + d.length * 2 ^ 35, dataSlots d)
  | .fwdAtomic tag p line word fadd arg swap =>
    (0x03, 0, tag, p * 2 ^ 60 + line * 2 ^ 54 + word * 2 ^ 51 + b2n fadd * 2 ^ 50, [arg * 2 ^ 64 + swap])
  | .ordered tag ep p result atomic =>
    (0x04, 1, tag, ep * 2 ^ 48 + p * 2 ^ 12 + result * 2 ^ 8,
      match atomic with | some a => [a.1 * 2 ^ 64 + a.2] | none => [])
  | .placed tag ep p st => (0x05, 2, tag, ep * 2 ^ 48 + p * 2 ^ 12 + st * 2 ^ 8, [])
  | .move tag e kind pages => (0x06, 1, tag, e * 2 ^ 69 + kind * 2 ^ 66, maskSlots pages)
  | .moveReq tag e kind pages => (0x07, 3, tag, e * 2 ^ 69 + kind * 2 ^ 66, maskSlots pages)
  | .tread tag p line => (0x08, if isHome s p then 1 else 3, tag, p * 2 ^ 60 + line * 2 ^ 54, [])
  | .treadData tag ep p line d => (0x09, 2, tag, ep * 2 ^ 48 + p * 2 ^ 12 + line * 2 ^ 6, dataSlots (d.take 64))
  | .treadFail tag p line cause => (0x0A, 2, tag, p * 2 ^ 60 + line * 2 ^ 54 + cause * 2 ^ 50, [])
  | .moveDone tag e kind result => (0x0B, 2, tag, e * 2 ^ 69 + kind * 2 ^ 66 + result * 2 ^ 62, [])
  | .pagePull tag p => (0x0C, 3, tag, p * 2 ^ 60, [])
  | .resyncPage tag ep p zero fence poison d =>
    (0x10, 1, tag, ep * 2 ^ 48 + p * 2 ^ 12 + b2n zero * 2 ^ 11 + b2n fence * 2 ^ 10,
      poison * 2 ^ 64 :: (if zero then [] else dataSlots d))
  | .hello tag h =>
    (0x18, 3, tag, h.side * 2 ^ 95 + h.level * 2 ^ 91 + h.soloPref * 2 ^ 90 + b2n h.hbbEn * 2 ^ 89 + b2n h.blank * 2 ^ 88
        + h.lastState * 2 ^ 85 + h.role * 2 ^ 83 + h.wmin * 2 ^ 78,
      [h.pairId * 2 ^ 64 + h.pgen, h.part * 2 ^ 64 + h.pext * 2 ^ 37 + h.dgroups * 2 ^ 14,
       h.sealSeq * 2 ^ 64 + h.pendPages * 2 ^ 32 + h.logExtents])
  | .helloAnswer tag dec reason level pid g =>
    (0x19, 3, tag, dec * 2 ^ 92 + reason * 2 ^ 88 + level * 2 ^ 84, [pid * 2 ^ 64 + g])
  | .pendList tag last ps => (0x1A, 3, tag, ps.length * 2 ^ 89 + b2n last * 2 ^ 88, pageSlots ps)
  | .state tag step g => (0x1B, 3, tag, step * 2 ^ 88, [g])
  | .depart tag cause => (0x1C, 2, tag, cause * 2 ^ 92, [])
  | .mapop tag op i e n ws =>
    (0x20, 3, tag, op * 2 ^ 92 + i * 2 ^ 78 + e * 2 ^ 51 + n * 2 ^ 24,
      match op with
      | 1 | 4 => wordSlots (ws.take 8)
      | 2 | 5 => [ws.getD 0 0 * 2 ^ 64 + ws.getD 1 0]
      | _ => [])
  | .mapopDone tag result i k => (0x21, 2, tag, result * 2 ^ 92 + i * 2 ^ 78 + k * 2 ^ 46, [])
  | .dict tag f => (0x28, 3, tag, f.length * 2 ^ 85, dataSlots f)
  | .dictRsp tag f => (0x29, 2, tag, f.length * 2 ^ 85, dataSlots f)
  | .recon tag ep p round check => (0x30, 3, tag, ep * 2 ^ 48 + p * 2 ^ 12 + round * 2 ^ 8, [check * 2 ^ 64])
  | .reconEnd tag n round => (0x31, 3, tag, n * 2 ^ 79 + round * 2 ^ 75, [])

/-- The slots of a message, header first (Table 6.5). -/
def msgSlots (s : State) (m : Msg) : List Nat :=
  let f := msgFields s m
  let after := f.2.2.2.2
  (f.1 * 2 ^ 122 + f.2.1 * 2 ^ 120 + (after.length + 1) * 2 ^ 111 + f.2.2.1 % 32768 * 2 ^ 96 + f.2.2.2.1 % 2 ^ 96) :: after

/-- The virtual channel of a message, and how many slots it takes. -/
def msgVc (s : State) (m : Msg) : Nat := (msgFields s m).2.1
def slotCount (s : State) (m : Msg) : Nat := (msgFields s m).2.2.2.2.length + 1

/-! ## Credits (R186) -/

/-- The receive buffer of a virtual channel in slots (Table 6.2). -/
def vcBuffer (vc : Nat) : Nat := [16384, 32768, 4096, 16384].getD vc 0

/-- Has the VC of a message credit for all of its slots, with no message of the VC before it? On a link of which no row has shown a
flit since its training, rows bring messages whole, and the flits that carry the credits back are not seen: nothing waits (log entry
160). -/
def hasCredit (s : State) (m : Msg) : Bool :=
  !s.twn.flits || decide (s.twn.used.getD (msgVc s m) 0 + slotCount s m ≤ vcBuffer (msgVc s m))

/-- Slots that a message held are free again: their credits are owed to the twin. -/
def freeSlots (s : State) (vc n : Nat) : State :=
  { s with twn := { s.twn with owed := s.twn.owed.set vc (s.twn.owed.getD vc 0 + n) } }

/-! ## Flits (R184, R185) -/

/-- A slot of a DATA flit that carries no message. -/
def nopSlot : Nat := 2 ^ 111

/-- The VC whose credits the next header returns: the lowest with some owed. -/
def owedVc (s : State) : Nat := ((List.range 4).find? (fun v => s.twn.owed.getD v 0 ≠ 0)).getD 0

/-- The 512 bytes of a flit with the present ACKSEQ, NAK and credits in its header (Table 6.1). -/
def flitBytes (s : State) (typ seq first : Nat) (slots : List Nat) : List Nat :=
  let vc := owedVc s
  let h := typ * 2 ^ 60 + seq * 2 ^ 48 + s.twn.ackseq * 2 ^ 36 + b2n s.twn.nakOut * 2 ^ 35 + vc * 2 ^ 33 +
    min 16383 (s.twn.owed.getD vc 0) * 2 ^ 19 + first * 2 ^ 14
  let body := beBytes h 8 ++ slots.flatMap (fun x => beBytes x 16)
  body ++ beBytes (crc64 body) 8

/-- A flit leaves: what its header has told is told. -/
def sendFlit (s : State) (typ seq first : Nat) (slots : List Nat) : State :=
  let vc := owedVc s
  let n := s.twn.owed.getD vc 0
  let t := (s.emit (.flit (flitBytes s typ seq first slots))).bump C.TWN_FLITTX
  { t with twn := { t.twn with ackTold := t.twn.ackseq, nakOut := false, owed := t.twn.owed.set vc (n - min 16383 n) } }

/-- An IDLE flit: it carries the FSEQ that the next DATA flit will have. -/
def idleFlit (s : State) : State := sendFlit s 0 s.twn.fseq 31 (List.replicate 31 nopSlot)

/-- Waiting slots go into DATA flits of 31 slots, kept until acknowledged, while the buffer of 1,024 has room and no narrowing stops
them; a flit that the waiting slots do not fill carries NOP. Where no flit of the twin is seen the oldest kept flit gives way (log
entry 160). -/
def pumpFlits : Nat → State → State
  | 0, s => s
  | n + 1, s =>
    if s.twn.link ≠ 1 ∨ s.twn.txStop ∨ s.twn.txSlots.isEmpty ∨ (s.twn.flits ∧ 1024 ≤ s.twn.sentBuf.length) then s
    else
      let now := s.twn.txSlots.take 31
      let slots := (now.map (·.2) ++ List.replicate 31 nopSlot).take 31
      let f : TxFlit := { seq := s.twn.fseq, first := (now.findIdx? (·.1)).getD 31, slots }
      let keep := s.twn.sentBuf ++ [f]
      let t := sendFlit s 1 f.seq f.first f.slots
      pumpFlits n { t with twn := { t.twn with
        fseq := (s.twn.fseq + 1) % 4096, txSlots := s.twn.txSlots.drop 31, sentBuf := keep.drop (keep.length - 1024) } }

/-- Flits for all that waits. -/
def pump (s : State) : State := pumpFlits (s.twn.txSlots.length / 31 + 1) s

/-- The sender resends every flit from ACKSEQ + 1 on (R185). -/
def resendFlits (s : State) : State := s.twn.sentBuf.foldl (fun t f => sendFlit t 1 f.seq f.first f.slots) s

/-- An ACKSEQ covers kept flits. -/
def dropAcked (s : State) (ack : Nat) : State :=
  match s.twn.sentBuf.findIdx? (fun f => f.seq = ack) with
  | some k => { s with twn := { s.twn with sentBuf := s.twn.sentBuf.drop (k + 1) } }
  | none => s

/-! ## Sending -/

/-- A message goes into slots on its VC, with its counter (R217). -/
def passMsg (s : State) (m : Msg) : State :=
  let vc := msgVc s m
  let sl := msgSlots s m
  let t := s.emit (.twin m)
  let t := match m with
    | .mirror .. => t.bump C.TWN_MIRRORTX
    | .forward .. | .fwdAtomic .. => t.bump C.TWN_FWDTX
    | .ordered .. => t.bump C.TWN_ORDEREDTX
    | .placed .. => t.bump C.TWN_PLACEDTX
    | .tread .. => t.bump C.TWN_TREADTX
    | .resyncPage .. => t.bump C.TWN_RESYNCTX
    | _ => t
  if t.twn.link = 0 then t
  else pump { t with twn := { t.twn with
    used := t.twn.used.set vc (t.twn.used.getD vc 0 + sl.length)
    txSlots := t.twn.txSlots ++ sl.zipIdx.map (fun x => (decide (x.2 = 0), x.1)) } }

/-- A message leaves on the Visil link, or waits for the credit of its VC behind those that wait (R186). -/
def twinSend (s : State) (m : Msg) : State :=
  if hasCredit s m ∧ s.twn.txq.all (fun k => decide (msgVc s k ≠ msgVc s m)) then passMsg s m
  else { s with twn := { s.twn with txq := s.twn.txq ++ [m] } }

/-- Credits have come back: waiting messages leave, each VC in its order. -/
def releaseTx (s : State) : State := s.twn.txq.foldl twinSend { s with twn := { s.twn with txq := [] } }

/-- Use the next tag. -/
def withTag (s : State) (f : Nat → Msg) : State :=
  let n := s.twn.nextTag
  twinSend { s with twn := { s.twn with nextTag := (n + 1) % 32768 } } (f n)

/-- What the link's headers still owe the twin is told in an IDLE flit: an ACKSEQ, a NAK (again once per RPTIMER while the gap
lasts), credits. The IDLE flits between, which only repeat a header, are not recorded (log entry 161). -/
def linkTick (s : State) : State :=
  if s.twn.link ≠ 1 then s
  else
    let due := match s.twn.nakAt with
      | some t => decide (s.rd R.TWN_RPTIMER_RPTIMER ≤ (s.now - t) * 1000)
      | none => false
    let s : State := if due then { s with twn := { s.twn with nakOut := true, nakAt := some s.now } } else s
    if s.twn.nakOut ∨ s.twn.ackTold ≠ s.twn.ackseq ∨ s.twn.owed.any (fun n => decide (n ≠ 0)) then idleFlit s else s

end Sys2Proof.Machine
end

