-- ==== Sys2Proof/Machine/TieOps.lean ====
section
/-! DEFINITION. Governor tokens (R249, R250), the changed-page log (R208), messages to the twin, residency charges (R227 to
R231), groups, movements (R229, R230), zero fills and misses (R95, R237), and the placement of data (R152, R223). -/

namespace Sys2Proof.Machine

/-! ## Governor tokens -/

/-- Free tokens in pages, as an integer (R250). -/
def freeTokens (s : State) : Int :=
  (s.gov.limit / 4096 : Nat) - (s.rd R.GOV_DIRTY : Nat) - (s.rd R.GOV_OUT : Nat) - (s.rd R.GOV_MARGIN_MARGIN * 256 : Nat)

/-- May a host or millstone write take `n` tokens? GOV grants none from the entry to SAVING (Table 8.3 step 1). -/
def hostTokens (s : State) (n : Nat) : Bool :=
  decide ((n + s.rd R.GOV_MARGIN_MIRRES * 256 : Nat) ≤ freeTokens s) && decide (s.dev ≠ .saving)

/-- May mirror-in take `n` tokens? -/
def mirrorTokens (s : State) (n : Nat) : Bool := decide ((n : Int) ≤ freeTokens s) && decide (s.dev ≠ .saving)

/-- Tokens go out, and come back. -/
def takeTokens (s : State) (n : Nat) : State := s.wr R.GOV_OUT (s.rd R.GOV_OUT + n)
def backTokens (s : State) (n : Nat) : State := s.wr R.GOV_OUT (s.rd R.GOV_OUT - n)

/-! ## Roles and leading -/

def isLead (s : State) : Bool := s.on R.TWN_STATE_LEAD
def isSurvivor (s : State) : Bool := decide (s.rd R.TWN_STATE_ROLE = 1)
def isReturner (s : State) : Bool := decide (s.rd R.TWN_STATE_ROLE = 2)

/-- Does the twin state give response conditions (Table 5.1, R155): SPAN, SOLO, or the survivor in CATCHUP or READY? -/
def conditions (s : State) : Bool := isSpan s || decide (tstate s = 3) || ((tstate s = 4 || tstate s = 5) && isSurvivor s)

/-- Does the device serve hosts: SERVING, in SPAN or SOLO, or as the survivor in CATCHUP or READY (Table 6.8)? -/
def servesHosts (s : State) : Bool :=
  decide (s.dev = .serving) && conditions s

/-- Does this side decide movements: alone, or as the lead side in SPAN (R180, R234)? A returner goes by its own policy until the
survivor aligns its residency (R211). -/
def decides (s : State) : Bool :=
  !(isSpan s || ((tstate s = 4 || tstate s = 5) && isReturner s && s.twn.aligned)) || isLead s

/-- Are movements sent to the twin: in SPAN, and by the survivor from catch-up step 4 on (Table 6.13)? -/
def sendsMoves (s : State) : Bool :=
  isSpan s || ((tstate s = 4 || tstate s = 5) && isSurvivor s && decide (4 ≤ s.twn.cstep))

/-! ## The changed-page log (R207, R208) -/

def logAt (s : State) (e : Nat) : LogEnt := s.log.dir.get e {}

/-- TWN writes at an offset of its log area (Table 6.11): the page turns dirty (R207, R248). -/
def logTouch (off : Nat) (s : State) : State :=
  if s.rd R.TWN_LOGSIZE_LOGSIZE = 0 then s else dirtyPage 5 (512 * s.rd R.TWN_LOGBASE_LOGBASE + off / 4096) s

/-- Offsets in the log area of a directory entry and of a pool record. -/
def logDirOff (e : Nat) : Nat := 0x200000 + 4 * e
def logRecOff (s : State) (r : Nat) : Nat := 0x200000 + groupsOf (4 * pext s) * 2097152 + 128 * r

/-- The pool records in use, and the first that is free. -/
def usedRecs (s : State) : List Nat := (s.log.dir.filter (fun y => y.2.mode = 1)).map (·.2.record)
def freeRec (s : State) : Nat := ((List.range ((usedRecs s).length + 1)).find? (fun k => !(usedRecs s).contains k)).getD 0

/-- Extents in PAGES or WHOLE, for TWN_LOGSTAT. -/
def showLog (s : State) : State :=
  s.wr R.TWN_LOGSTAT_EXTENTS (s.log.dir.filter (fun e => e.2.mode = 1 || e.2.mode = 2)).length

/-- Pool records of the log area: LOGSIZE groups less the header and the directory, 128 bytes each. -/
def poolSize (s : State) : Nat :=
  (s.rd R.TWN_LOGSIZE_LOGSIZE - 1 - groupsOf (4 * pext s)) * 16384

/-- Write a log entry; the record is freed when both bitmaps are empty (R208). The pages of the directory entry, of its record and
of the pair record, which counts extents, turn dirty. -/
def setLog (s : State) (e : Nat) (x : LogEnt) : State :=
  let x := if x.mode = 1 ∧ x.changed = 0 ∧ x.sent = 0 then { x with mode := 0 } else x
  let x := if x.mode = 1 then x else { x with record := 0 }
  let t := showLog { s with log := { s.log with dir := s.log.dir.put e x {} } }
  logTouch 0 (logTouch (logDirOff e) (if x.mode = 1 then logTouch (logRecOff t x.record) t else t))

/-- A page is marked CHANGED or SENT: in its record, or the extent becomes WHOLE where it needs a record and the pool has none. -/
def markLog (s : State) (p : Nat) (sent : Bool) : State :=
  let e := p / 512
  let x := logAt s e
  if x.mode = 2 ∨ (x.mode = 3 ∧ sent) then s
  else if x.mode ≠ 1 ∧ poolSize s ≤ (usedRecs s).length then raise (setLog s e { x with mode := 2 }) 0x1960 [e]
  else
    let y : LogEnt := if x.mode = 1 then x else { x with mode := 1, record := freeRec s, sent := if x.mode = 3 then 2 ^ 512 - 1 else x.sent }
    setLog s e (if sent then { y with sent := bitSet y.sent (p % 512) } else { y with changed := bitSet y.changed (p % 512) })

/-- Does the survivor's log record what it does (R208)? -/
def logging (s : State) : Bool := (tstate s = 3 || tstate s = 4 || tstate s = 5) && isSurvivor s

/-- Is a page CHANGED? Pages of a WHOLE extent that the catch-up walk has passed are not (R209). -/
def isChanged (s : State) (p : Nat) : Bool :=
  let x := logAt s (p / 512)
  (x.mode = 2 && !(decide (s.twn.wext = p / 512) && decide (p % 512 < s.twn.wsub))) || (x.mode = 1 && bit x.changed (p % 512))

/-- A map operation changes extent `e`, or region `i` (R208). -/
def markMapExt (s : State) (e : Nat) : State :=
  if logging s then setLog s e { logAt s e with mapchg := true } else s
def markMapReg (s : State) (i : Nat) : State :=
  if logging s ∧ !s.log.regChg.contains i then
    logTouch (0x1000 + i / 8) { s with log := { s.log with regChg := s.log.regChg ++ [i] } }
  else s

/-- SENT is merged into CHANGED (R205, Table 6.13 step 1). -/
def mergeSent (s : State) : State :=
  let t := showLog { s with log := { s.log with dir := s.log.dir.mapV (fun x =>
    if x.mode = 3 then { x with mode := 2 } else { x with changed := x.changed ||| x.sent, sent := 0 }) } }
  t.log.dir.foldl (fun u e => logTouch (logDirOff e.1) (if e.2.mode = 1 then logTouch (logRecOff u e.2.record) u else u)) t

/-! ## Groups -/

/-- Data groups of tier D (R221). -/
def dataGroups (s : State) : Nat := dgroups s - s.rd R.TIE_DATABASE_DATABASE

/-- The charge set of a CHARGE field. -/
def chargeSet (s : State) (e : Nat) : ChargeRec :=
  let c := (extentAt s e).charge
  if c = 0 then { tenants := [], twin := false }
  else if c < 0x80000000 then { tenants := [c - 0x40000000], twin := false }
  else s.tie.recs.get (c - 0x80000000) { tenants := [], twin := false }

/-- The tenant's entry. -/
def tenantAt (s : State) (t : Nat) : Tenant := s.tie.tenants.get t {}

/-- Does a QUOTA tenant hold extent `e`? -/
def quotaHeld (s : State) (e : Nat) : Bool := (chargeSet s e).tenants.any (fun t => (tenantAt s t).quota)

/-- The groups of the pool: every data group that no QUOTA tenant counts (R232). -/
def poolGroups (s : State) : Nat := dataGroups s - (s.tie.groups.filter (fun g => quotaHeld s g.2.extent)).length

/-- TIE_FREE and POOLLOW, with event 0x1CA0 when the free groups fall below LOWATER. -/
def showGroups (s : State) : State :=
  let n := dataGroups s - s.tie.groups.length
  let t := s.wr R.TIE_FREE_FREE n
  if n < t.rd R.TIE_LOWATER_LOWATER then
    if t.on R.TIE_STAT_POOLLOW then t
    else raise (t.wr R.TIE_STAT_POOLLOW 1) 0x1CA0 [n, poolGroups s]
  else t.wr R.TIE_STAT_POOLLOW 0

/-- A free group, if any: the lowest. -/
def freeGroup (s : State) : Option Nat :=
  let base := s.rd R.TIE_DATABASE_DATABASE
  if s.tie.groups.length < dataGroups s then s.tie.groups.firstFree base (s.tie.groups.length + 1) else none

/-- Give group `g` to extent `e`. -/
def takeGroup (s : State) (e g : Nat) : State :=
  let t : State := { s with tie := { s.tie with groups := s.tie.groups.ins g { extent := e, seen := s.tie.tick } } }
  showGroups (modExtent t e (fun x => { x with ingroup := true, fgroup := g, rescnt := 0, dirtycnt := 0 }))

/-- The group of extent `e` returns to the free list (R92, R230). -/
def freeExtentGroup (s : State) (e : Nat) : State :=
  let x := extentAt s e
  if x.ingroup then
    let t : State := { s with tie := { s.tie with groups := s.tie.groups.del x.fgroup } }
    showGroups (modExtent t e (fun y => { y with ingroup := false, fgroup := 0 }))
  else s

/-! ## Charges (R227, R228) -/

/-- Does tenant `t` hold extent `e`? -/
def charged (s : State) (e t : Nat) : Bool := (chargeSet s e).tenants.contains t

/-- Set the charge set of extent `e`: the tenant-alone form where it can be, else a record (R228). -/
def setCharge (s : State) (e : Nat) (r : ChargeRec) : State :=
  let c := (extentAt s e).charge
  let old := if 0x80000000 ≤ c then some (c - 0x80000000) else none
  let drop := match old with | some i => s.tie.recs.del i | none => s.tie.recs
  match r.tenants, r.twin with
  | [], false => modExtent { s with tie := { s.tie with recs := drop } } e (fun x => { x with charge := 0 })
  | [t], false =>
    modExtent { s with tie := { s.tie with recs := drop } } e (fun x => { x with charge := 0x40000000 + t })
  | _, _ =>
    let i := old.getD ((s.tie.recs.firstFree 0 (s.tie.recs.length + 1)).getD 0)
    modExtent { s with tie := { s.tie with recs := s.tie.recs.ins i r } } e (fun x => { x with charge := 0x80000000 + i })

/-- DUSED: the tenant's charged extents that have a group (R228). -/
def dused (s : State) (t : Nat) : Nat := (s.tie.groups.filter (fun g => charged s g.2.extent t)).length

/-- SALLOC: extents allocated with the tenant as OWNER (Table 7.8). -/
def salloc (s : State) (t : Nat) : Nat := (s.maps.extents.filter (fun x => x.2.estate ≠ 0 && x.2.owner = t)).length

/-- PARKED: misses of the tenant now parked (R240). -/
def parkedOf (s : State) (t : Nat) : Nat :=
  (s.xpt.reqs.filter (fun r => (s.xpt.qps.get r.qp {}).tenant = t && !r.mst && r.parts.any (fun p => p.st = .parked))).length

/-! ## Movements (R229, R230) -/

/-- The store-map row of policy in force for an extent (Table 7.4). -/
def policy (s : State) (e : Nat) : Nat := s.rd R.TIE_TPOL (extentAt s e).tpol * 2 ^ 17
def polPin (w : Nat) : Bool := bit w 31
def polAhead (w : Nat) : Nat := bits w 27 4
def polIdle (w : Nat) : Nat := bits w 23 4
def polAge (w : Nat) : Nat := bits w 19 4
def polPri (w : Nat) : Nat := bits w 17 2

/-- The frame entry of a page changes, and with it its extent's DIRTYCNT. -/
def setPage (s : State) (p : Nat) (g : Frame → Frame) : State :=
  match frameOf s p with
  | some f =>
    let old := s.maps.frames.get f {}
    let new := g old
    let t := setFrame s f new
    if old.isDirty = new.isDirty then t
    else modExtent t (p / 512) (fun x => { x with dirtycnt := if new.isDirty then x.dirtycnt + 1 else x.dirtycnt - 1 })
  | none => s

/-- A page becomes resident with content, poison and an epoch: CLEAN, or PINNED if the row's PIN is set or the page is fenced (R215);
a page that is `lost` is CLEAN whatever its row (Table 7.2). -/
def installPage (s : State) (p : Nat) (cells : List Host.Cell) (poison epoch : Nat) (lost : Bool := false) : State :=
  match frameOf s p with
  | none => s
  | some f =>
    let t := frameFill s f cells poison
    let st := if (polPin (policy s (p / 512)) && !lost) || s.log.fences.has p then PState.pinned else PState.clean
    let t := modExtent t (p / 512) (fun x => { x with rescnt := x.rescnt + 1 })
    setFrame t f { pstate := st, pdirty := false, age := 0, epoch, spage := p }

/-- A miss to a page whose store-map entry is NONE: the frame is zeroed (R95). -/
def zeroFillPage (s : State) (p : Nat) : State :=
  (installPage s p [] 0 (pageEpoch s p)).bump C.TIE_ZEROFILL

/-- Pages of extent `e` in a mask that are neither resident nor FILLING. -/
def absentIn (s : State) (e mask : Nat) : List Nat :=
  ((List.range 512).filter (fun n => bit mask n)).map (fun n => e * 512 + n) |>.filter
    (fun p => (pageFrame s p).pstate = .absent)

/-- Start the fills of a promotion: pages with store-map entry NONE are zeroed, the others become FILLING. -/
def fillPages (s : State) (e mask : Nat) : State :=
  (absentIn s e mask).foldl (fun t p =>
    if (storeAt t p).sstate = 0 then zeroFillPage t p
    else
      let u := setPage t p (fun x => { x with pstate := .filling, pdirty := false, age := 0, spage := p })
      { u with tie := { u.tie with fills := u.tie.fills.ins p u.now } }) s

/-- Fills under way in extent `e`. -/
def filling (s : State) (e : Nat) : Bool := s.tie.fills.any (fun x => x.1 / 512 = e)

/-- The pages of extent `e` that are resident, as a mask. -/
def residentMask (s : State) (e : Nat) : Nat :=
  (List.range 512).foldl (fun a n => if usable s (512 * e + n) then a + 2 ^ n else a) 0

/-- A promotion of pages of an extent with a group starts, or merges into the movement in flight (Table 7.7). A DEMOTE that it ends
leaves every page that was resident when the DEMOTE began resident at both sides: what it has freed is promoted again (R181). -/
def promote (s : State) (e mask : Nat) (byMove : Bool) : State :=
  let x := extentAt s e
  let mv := s.tie.moves.get e { pages := 0 }
  match x.movekind with
  | 0 =>
    let t := modExtent s e (fun y => { y with movekind := 1 })
    let t := (fillPages t e mask).bump C.TIE_PROMOTE
    let t := if sendsMoves t ∧ !byMove then withTag t (fun n => .move n e 1 mask) else t
    let pair := sendsMoves t || byMove
    let m : Movement := { pages := mask, twinDone := !pair, pair, byMove, start := t.now }
    { t with tie := { t.tie with moves := t.tie.moves.ins e m } }
  | 1 =>
    let t := (fillPages s e mask).bump C.TIE_MERGE
    let t := if sendsMoves t ∧ !byMove then withTag t (fun n => .move n e 1 mask) else t
    let m := if byMove then { mv with pages := mv.pages ||| mask, demoteAfter := false, byMove := true, pair := true, twinDone := false }
             else { mv with pages := mv.pages ||| mask, demoteAfter := false }
    { t with tie := { t.tie with moves := t.tie.moves.ins e m } }
  | 2 =>
    let t : State := { s with
      tie := { s.tie with moves := s.tie.moves.ins e { mv with after := mv.after ||| mask ||| mv.pages } } }
    let t := if sendsMoves t ∧ !byMove then withTag t (fun n => .move n e 1 mask) else t
    (modExtent t e (fun y => { y with movekind := 3 })).bump C.TIE_MERGE
  | _ =>
    ({ s with tie := { s.tie with moves := s.tie.moves.ins e { mv with after := mv.after ||| mask } } }).bump C.TIE_MERGE

/-- The pages of extent `e` that a DEMOTE can free now. -/
def freeable (s : State) (e : Nat) : List Nat :=
  ((List.range 512).map (fun n => e * 512 + n)).filter (fun p => (pageFrame s p).pstate = .clean)

/-- A CLEAN page is taken out of tier D: new lookups find it ABSENT at once; its frame is free once TRN reports (R108). -/
def takeOut (s : State) (p : Nat) : State :=
  match frameOf s p with
  | none => s
  | some f =>
    let t := setFrame s f {}
    { t with trn := { t.trn with updq := t.trn.updq ++ [.free p t.xpt.nextReq] } }

/-- A DEMOTE takes out what is CLEAN. -/
def demoteFree (s : State) (e : Nat) : State := (freeable s e).foldl takeOut (streamLookup s e)

/-- Is page `p` on its way out of tier D for requests from number `id` on, while request `id` may still use its frame (R108)? -/
def leaving (s : State) (p id : Nat) : Bool :=
  s.trn.updq.any (fun u => match u with | .free q n => decide (q = p) && decide (id < n) | .port => false)

/-- Do updates that take pages of extent `e` out of tier D wait for TRN's report? -/
def leavingExtent (s : State) (e : Nat) : Bool :=
  s.trn.updq.any (fun u => match u with | .free q _ => decide (q / 512 = e) | .port => false)

/-- A DEMOTE starts, or merges (Table 7.7, R230). -/
def demote (s : State) (e : Nat) (byMove : Bool) : State :=
  let x := extentAt s e
  let mv := s.tie.moves.get e { pages := 0 }
  if !x.ingroup then s
  else match x.movekind with
  | 0 =>
    let t := (modExtent s e (fun y => { y with movekind := 2 })).bump C.TIE_DEMOTE
    let t := if sendsMoves t ∧ !byMove then withTag t (fun n => .move n e 2 (2 ^ 512 - 1)) else t
    let pair := sendsMoves t || byMove
    let m : Movement := { pages := residentMask s e, twinDone := !pair, pair, byMove, start := t.now }
    let t : State := { t with tie := { t.tie with moves := t.tie.moves.ins e m } }
    demoteFree t e
  | 1 => { s with tie := { s.tie with moves := s.tie.moves.ins e { mv with demoteAfter := true } } }
  | 3 =>
    let t := (modExtent s e (fun y => { y with movekind := 2 })).bump C.TIE_MERGE
    let mv := if byMove then { mv with byMove := true, pair := true, twinDone := false }
              else if sendsMoves t then { mv with pair := true, twinDone := false } else mv
    let t := if sendsMoves t ∧ !byMove then withTag t (fun n => .move n e 2 (2 ^ 512 - 1)) else t
    let t : State := { t with tie := { t.tie with moves := t.tie.moves.ins e { mv with pages := mv.pages ||| residentMask s e, after := 0, selfDone := false } } }
    demoteFree t e
  | _ => s

/-- The charge set of an extent is empty: it leaves tier D, by the lead side's decision (R230, R234). -/
def chargeEmptied (s : State) (e : Nat) : State :=
  let r := chargeSet s e
  if !r.tenants.isEmpty ∨ r.twin then s
  else if decides s then demote s e false
  else withTag s (fun n => .moveReq n e 2 (2 ^ 512 - 1))

/-- Remove a tenant's charge from an extent. -/
def removeCharge (s : State) (e t : Nat) : State :=
  if charged s e t then
    let r := chargeSet s e
    chargeEmptied (setCharge s e { r with tenants := r.tenants.filter (· ≠ t) }) e
  else s

/-- Append an entry to a tenant's quota ring. -/
def ringAppend (s : State) (t e : Nat) : State :=
  { s with tie := { s.tie with rings := s.tie.rings.upd t [] (fun l => l ++ [{ extent := e, tick := s.tie.tick }]) } }

/-- Is heat tick `a` newer than `b`, modulo 2^16? -/
def newer16 (a b : Nat) : Bool := decide (0 < (a + 65536 - b) % 65536) && decide ((a + 65536 - b) % 65536 < 32768)

/-- Quota eviction (R231), `left` entries before a turn of the ring without a removal ends; a removal begins a new turn. The first
number bounds the entries looked at. -/
def quotaEvict : Nat → Nat → Nat → State → State
  | 0, _, _, s => s
  | n + 1, left, t, s =>
    if dused s t ≤ (tenantAt s t).dquota then s
    else
      match left, s.tie.rings.get t [] with
      | k + 1, r :: rest =>
        let u : State := { s with tie := { s.tie with rings := s.tie.rings.ins t rest } }
        if !charged u r.extent t then quotaEvict n k t u
        else if newer16 (extentAt u r.extent).lasttick r.tick ∨ polPin (policy u r.extent) then
          quotaEvict n k t (ringAppend u t r.extent)
        else quotaEvict n rest.length t ((removeCharge u r.extent t).bump C.TIE_QEVICT)
      | _, _ => raise s 0x1C80 [t, dused s t, (tenantAt s t).dquota]

/-- Run quota eviction for a tenant, unless the rings are being rebuilt (R233). -/
def quotaRun (s : State) (t : Nat) : State :=
  let n := (s.tie.rings.get t []).length
  if (tenantAt s t).quota ∧ !s.on R.TIE_STAT_REBUILD then quotaEvict ((n + 1) * (n + 1)) n t s else s

/-- Quota eviction of every tenant that holds extent `e`, whose DUSED its group has raised (R231, R234). -/
def quotaRunAll (s : State) (e : Nat) : State := (chargeSet s e).tenants.foldl quotaRun s

/-- Charge tenant `t` with extent `e` (R228): a QUOTA tenant's ring takes an entry. A DEMOTE in flight becomes a CLEAN. -/
def addCharge (s : State) (e t : Nat) : State :=
  if charged s e t then s
  else
    let r := chargeSet s e
    let u := setCharge s e { r with tenants := (r.tenants ++ [t]) }
    let u := if (extentAt u e).movekind = 2 then promote u e 0 false else u
    if (tenantAt u t).quota then
      let v := ringAppend u t e
      if (extentAt v e).ingroup then quotaRun v t else v
    else u

/-- A placement with no host behind it charges OWNER where nothing is charged (R228). -/
def chargeOwner (s : State) (e : Nat) : State :=
  if (chargeSet s e).tenants.isEmpty ∧ !(chargeSet s e).twin then addCharge s e (extentAt s e).owner else s

/-- Has the tenant passed its overdraft (R231)? -/
def overQuota (s : State) (t : Nat) : Bool :=
  (tenantAt s t).quota && decide ((tenantAt s t).dquota + s.rd R.TIE_QOVER_QOVER < dused s t)

/-- A promotion waits: one entry for each extent, with the pages that are wanted. -/
def awaitGroup (s : State) (e : Nat) (tenant : Option Nat) (mask : Nat) : State :=
  let w := s.tie.waiting
  let w := if w.any (fun x => x.1 = e) then w.map (fun x => if x.1 = e then (e, x.2.1 ||| mask, x.2.2) else x)
    else w ++ [(e, mask, tenant.getD 1024)]
  { s with tie := { s.tie with waiting := w } }

/-- An extent that is to hold pages gets a group, and its tenants are brought under their quotas: false where it has to wait, for a free
group (event 0x1CC0) or until `tenant` is within its overdraft (R231). -/
def needGroup (s : State) (e : Nat) (tenant : Option Nat) (mask : Nat) : State × Bool :=
  let past := fun (u : State) => match tenant with | some t => overQuota u t | none => false
  if (extentAt s e).ingroup then (if past s then (awaitGroup s e tenant mask, false) else (s, true))
  else
    match freeGroup s with
    | none =>
      let t := if s.tie.waiting.any (fun x => x.1 = e) then s
        else raise s 0x1CC0 [e, 0, (s.tie.groups.filter (fun g => polPin (policy s g.2.extent))).length]
      (awaitGroup t e tenant mask, false)
    | some g =>
      let u := quotaRunAll (takeGroup s e g) e
      if past u then (awaitGroup (freeExtentGroup u e) e tenant mask, false) else (u, true)

/-- The pages that a miss of page `p` promotes: it and the next FILLAHEAD ABSENT pages of the extent (Table 7.4). -/
def missMask (s : State) (p : Nat) : Nat :=
  (((List.range 512).filter (fun n => decide (p % 512 < n) && decide ((pageFrame s (p - p % 512 + n)).pstate = .absent))).take
    (polAhead (policy s (p / 512)))).foldl bitSet (2 ^ (p % 512))

/-- A MAPPED page that is not usable is wanted (R237, R95): charge, then zero-fill, promote, or ask the lead side. Answers
whether the page is usable now. `tenant` is the host's; none charges OWNER where nothing is charged. -/
def wantPage (s : State) (p : Nat) (tenant : Option Nat) : State × Bool :=
  let e := p / 512
  let s := match tenant with
    | some t => addCharge s e t
    | none => chargeOwner s e
  if usable s p then (s, true)
  else if (pageFrame s p).pstate = .filling then (s, false)
  else if decides s then
    let q := needGroup s e tenant (missMask s p)
    if q.2 then
      let mask := if (storeAt q.1 p).sstate = 0 then 2 ^ (p % 512) else missMask q.1 p
      if (storeAt q.1 p).sstate = 0 ∧ !sendsMoves q.1 then (zeroFillPage q.1 p, true)
      else let t := promote q.1 e mask false
           (t, usable t p)
    else q
  else (withTag s (fun n => .moveReq n e 1 (missMask s p)), false)

/-- The first write to a ZERO extent makes it MAPPED (R91). -/
def firstWrite (s : State) (e : Nat) : State :=
  if (extentAt s e).estate = 1 then modExtent s e (fun x => { x with estate := 2 }) else s

/-! ## Placement (R152, R223, R224) -/

/-- Lines that bytes `off` to `off + len` of a page cover whole, and touch. -/
def wholeLines (off len : Nat) : List Nat :=
  (List.range 64).filter (fun n => decide (off ≤ 64 * n) && decide (64 * n + 64 ≤ off + len))
def touchedLines (off len : Nat) : List Nat :=
  (List.range 64).filter (fun n => decide (off < 64 * n + 64) && decide (64 * n < off + len))

/-- A page's frame turns dirty by a write (Table 7.2), at epoch `ep`. -/
def dirtyFrame (s : State) (p ep : Nat) : State :=
  match frameOf s p with
  | none => s
  | some f =>
    let x := s.maps.frames.get f {}
    setPage s p (fun _ => match x.pstate with
      | .pinned => { x with pdirty := true, epoch := ep }
      | _ => { x with pstate := .dirty, epoch := ep })

/-- The survivor's log takes a placement (R208); in CATCHUP and READY R210 marks SENT beside the ASYNC mirror instead. -/
def logPlaced (s : State) (p : Nat) : State :=
  if tstate s = 3 ∧ isSurvivor s then markLog s p false else s

/-- Data is placed in a resident page at an epoch: whole lines become sound, the page turns dirty. -/
def placeData (s : State) (p off : Nat) (bs : List Nat) (ep : Nat) : State :=
  match frameOf s p with
  | none => s
  | some f =>
    let t := dWrite s (4096 * f + off) bs
    let t := (wholeLines off bs.length).foldl (fun u n => lineSound u (64 * f + n)) t
    logPlaced (dirtyFrame t p ep) p

/-- Lines of a page that a read of `off` to `off + len` finds unsound. -/
def badLines (s : State) (p off len : Nat) : List Nat :=
  match frameOf s p with
  | none => []
  | some f => (touchedLines off len).filter (fun n => (lineFault s (64 * f + n)).isSome)

/-- Place reports a host access to TIE (R225): one in 2^SAMPLE, and every miss. FREEZE stops the HEAT words, and not that a sampled
write sets the page's AGE to 0. -/
def reportAccess (s : State) (e p : Nat) (write miss : Bool) : State :=
  let n := s.tie.sampleCnt + 1
  let hit := decide (n % 2 ^ s.rd R.TIE_HEAT_SAMPLE = 0)
  let t : State := { s with tie := { s.tie with sampleCnt := n % 1024 } }
  let t : State := if (hit ∨ miss) ∧ !s.on R.TIE_HEAT_FREEZE then modExtent t e (fun x => { x with
      lasttick := t.tie.tick
      reads := if hit ∧ !write then min 255 (x.reads + 1) else x.reads
      writes := if hit ∧ write then min 255 (x.writes + 1) else x.writes
      misses := if miss then min 65535 (x.misses + 1) else x.misses })
    else t
  if hit ∧ write ∧ usable t p then setPage t p (fun x => { x with age := 0 }) else t

end Sys2Proof.Machine
end

