-- ==== Sys2Proof/Machine/DramOps.lean ====
section
/-! DEFINITION. Bursts (R102, R103), DRC events for uncorrectable and poisoned lines (R317 to R319), and the lines that
Place asks the twin for (R173, R174). -/

namespace Sys2Proof.Machine

/-- The tier D address of channel `c`'s address `ca`: the inverse of `stripe`. -/
def unstripe (s : State) (c ca : Nat) : Nat :=
  let g := grain s
  let w := stripeWidth s
  c / w * (geometryBytes s * w / 16) + (ca / g * w + c % w) * g + ca % g

/-- Is line `l` of the map area or the log area? -/
def mapLine (s : State) (l : Nat) : Bool :=
  decide (l / 64 < 512 * mapEnd s) ||
  (decide (s.rd R.TWN_LOGBASE_LOGBASE * 512 ≤ l / 64) &&
    decide (l / 64 < (s.rd R.TWN_LOGBASE_LOGBASE + s.rd R.TWN_LOGSIZE_LOGSIZE) * 512))

/-- Is it of a page that tier S does not hold: the root map, or DIRTY, CLEANING or PINNED with PDIRTY (Table 10.6)? -/
def mapLineDirty (s : State) (l : Nat) : Bool := mapLine s l && (decide (l / 64 < 512) || (frameAt s (l / 64)).counted)

/-- An uncorrectable line is met by a reader (R319): counted, logged and reported, critical for a dirty map or log line. `devs` is the mask of
the devices in error. -/
def reportUncorr (s : State) (l reader device devs : Nat) : State :=
  let q := stripe s (64 * l)
  let t := s.bump C.DRC_UNCORR 1 0 q.1
  let t := t.wr R.DRC_ERRLOG0_CA (q.2 / 64 % 2 ^ 32) 0 q.1
  let t := ((t.wr R.DRC_ERRLOG1_VALID 1 0 q.1).wr R.DRC_ERRLOG1_OUTCOME 4 0 q.1).wr R.DRC_ERRLOG1_DEVICE device 0 q.1
  let t := t.wr R.DRC_ERRLOG1_CA (q.2 / 2 ^ 38 % 2) 0 q.1
  raiseTo t (0x2C20 + q.1) [q.2, Config.payloadCode 0x2C20 reader, devs, b2n (mapLine s l)] []
    (if mapLineDirty s l then 4 else severity (0x2C20 + q.1))

/-- A line read found uncorrectable stays so until it is repaired, poisoned or overwritten. -/
def lineUncorr (s : State) (l : Nat) : State :=
  { s with dram := { s.dram with lines := s.dram.lines.ins l .uncorr } }

/-- Is a TREAD of the line outstanding (R173)? -/
def treading (s : State) (p n : Nat) : Bool := s.twn.treads.contains (p, n)

/-- Line `n` of page `p` is found uncorrectable: the twin's copy in SPAN, else poison (R173, R174). Answers whether the line is being
fetched. `pipe` is the pipeline whose Place needs it, 4 for another reader (R177). -/
def seekLine (s : State) (p n : Nat) (pipe : Nat) : State × Bool :=
  match frameOf s p with
  | none => (s, false)
  | some f =>
    if treading s p n then (s, true)
    else if isSpan s then
      let t : State := { s with twn := { s.twn with
        treads := s.twn.treads ++ [(p, n)]
        treadPipe := if pipe < 4 then s.twn.treadPipe.ins (64 * p + n) pipe else s.twn.treadPipe } }
      (withTag t (fun g => .tread g p n), true)
    else (writePoison s (64 * f + n) 0, false)

/-- HSTATE changes, with event 0x1CE0 and MSI-X vector 3 (Table 2.20). -/
def setHState (s : State) (v why : Nat) : State :=
  let old := s.rd R.TIE_STAT_HSTATE
  (raise (s.wr R.TIE_STAT_HSTATE v) 0x1CE0 [old, v, Config.payloadCode 0x1CE0 why]).emit (.msix 3)

end Sys2Proof.Machine
end

