-- ==== Sys2Proof/Machine/XptOps.lean ====
section
/-! DEFINITION. Queue pairs and requests (chapters 04 and 05): context words, the context cache, PSNs, responses, CNPs, the
completion of parts. -/

namespace Sys2Proof.Machine

/-! ## Contexts (Table 4.2) -/

/-- The context of responder QP `i`. -/
def qpAt (s : State) (i : Nat) : Qp := s.xpt.qps.get i {}

/-- Change a context. -/
def setQp (s : State) (i : Nat) (q : Qp) : State := { s with xpt := { s.xpt with qps := s.xpt.qps.put i q {} } }
def modQp (s : State) (i : Nat) (f : Qp → Qp) : State := setQp s i (f (qpAt s i))

/-- The sixteen words of a context. -/
def qpWords (q : Qp) : List Nat :=
  [q.qstate * 2 ^ 61 + b2n q.dramfb * 2 ^ 60 + b2n q.cmdch * 2 ^ 59 + q.lport * 2 ^ 55 + q.pmtu * 2 ^ 52 + q.tenant * 2 ^ 42
     + q.ipver * 2 ^ 40 + q.pkey * 2 ^ 24 + q.destqp,
   q.epsn * 2 ^ 40 + q.xhorizon * 2 ^ 16 + q.rdatom * 2 ^ 8 + q.rdinfl,
   q.msn * 2 ^ 40 + q.lastack * 2 ^ 16 + q.credit * 2 ^ 11 + b2n q.seqerr * 2 ^ 10,
   q.rip / 2 ^ 64, q.rip % 2 ^ 64,
   q.udpsrc * 2 ^ 48 + q.dscp * 2 ^ 42 + q.hoplim * 2 ^ 32 + q.flowlbl * 2 ^ 12,
   q.vid * 2 ^ 48 + q.rmac,
   q.ringframe * 2 ^ 28 + q.ringslots * 2 ^ 16 + q.ringhead,
   q.ringtail * 2 ^ 48,
   q.aval.getD 0 0, q.aval.getD 1 0, q.aval.getD 2 0, q.aval.getD 3 0,
   q.apsn.getD 0 0 * 2 ^ 40 + q.apsn.getD 1 0 * 2 ^ 16 + q.ahead,
   q.apsn.getD 2 0 * 2 ^ 40 + q.apsn.getD 3 0 * 2 ^ 16,
   q.viols * 2 ^ 32 + q.rnrtimer * 2 ^ 27]

/-- A context from its words. -/
def qpOf (w : List Nat) : Qp :=
  let g := fun i => w.getD i 0
  { qstate := bits (g 0) 61 3, dramfb := bit (g 0) 60, cmdch := bit (g 0) 59, lport := bits (g 0) 55 4
    pmtu := bits (g 0) 52 3, tenant := bits (g 0) 42 10, ipver := bits (g 0) 40 2, pkey := bits (g 0) 24 16
    destqp := bits (g 0) 0 24, epsn := bits (g 1) 40 24, xhorizon := bits (g 1) 16 24, rdatom := bits (g 1) 8 8
    rdinfl := bits (g 1) 0 8, msn := bits (g 2) 40 24, lastack := bits (g 2) 16 24, credit := bits (g 2) 11 5
    seqerr := bit (g 2) 10, rip := g 3 % 2 ^ 64 * 2 ^ 64 + g 4 % 2 ^ 64, udpsrc := bits (g 5) 48 16
    dscp := bits (g 5) 42 6, hoplim := bits (g 5) 32 8, flowlbl := bits (g 5) 12 20, vid := bits (g 6) 48 12
    rmac := bits (g 6) 0 48, ringframe := bits (g 7) 28 36, ringslots := bits (g 7) 16 12, ringhead := bits (g 7) 0 16
    ringtail := bits (g 8) 48 16, aval := [g 9, g 10, g 11, g 12].map (· % 2 ^ 64)
    apsn := [bits (g 13) 40 24, bits (g 13) 16 24, bits (g 14) 40 24, bits (g 14) 16 24], ahead := bits (g 13) 0 2
    viols := bits (g 15) 32 32, rnrtimer := bits (g 15) 27 5 }

/-- Is a written context refused by Table 4.2 or R222? -/
def qpBad (s : State) (q : Qp) : Bool :=
  decide (4 < q.qstate) || decide (q.pmtu = 0) || decide (5 < q.pmtu) || decide (1 < q.ipver) ||
  (q.cmdch && (decide (q.ringslots = 0) || !inReserved s (q.ringframe * 4096) (q.ringslots * 4096)))

/-- Path MTU in bytes. -/
def mtu (q : Qp) : Nat := 128 * 2 ^ q.pmtu

/-- Does the QP serve requests (R123)? -/
def serves (q : Qp) : Bool := q.qstate = 2 || q.qstate = 3

/-- The doorbell bit of a QP, in both CPX windows (R426). -/
def showDoorbell (s : State) (i : Nat) : State :=
  let q := qpAt s i
  let v := bitPut (s.rd R.CPX_DOORBELL (i / 32)) (i % 32) (decide (q.ringhead ≠ q.ringtail))
  (s.wr R.CPX_DOORBELL v (i / 32) 0).wr R.CPX_DOORBELL v (i / 32) 1

/-- Slots of a command ring that firmware has not consumed, and the free ones (R139). -/
def ringUsed (q : Qp) : Nat := (q.ringhead + q.ringslots - q.ringtail) % max 1 q.ringslots
def ringFree (q : Qp) : Nat := q.ringslots - 1 - ringUsed q

/-- A slot passes to firmware: payload and immediate at RINGHEAD. -/
def ringPush (s : State) (i : Nat) (sl : RingSlot) : State :=
  let q := qpAt s i
  showDoorbell (setQp s i { q with
    slots := q.slots.ins q.ringhead sl, ringhead := (q.ringhead + 1) % max 1 q.ringslots }) i

/-! ## PSNs (R135) -/

/-- (a − b) mod 2^24. -/
def psnSub (a b : Nat) : Nat := (a + 2 ^ 24 - b % 2 ^ 24) % 2 ^ 24

/-- Is `a` at or below `b` (within the half window)? -/
def psnLe (a b : Nat) : Bool := decide (psnSub b a < 2 ^ 23)

/-! ## Credits (R139, log entry 18) -/

/-- The count that an end-to-end credit code stands for. -/
def creditCount (c : Nat) : Nat :=
  if c < 4 then c else if c % 2 = 0 then 2 ^ (c / 2) else 3 * 2 ^ ((c - 3) / 2)

/-- The largest code whose count does not exceed `n`. -/
def creditCode (n : Nat) : Nat := (List.range 31).foldl (fun b c => if creditCount c ≤ n then c else b) 0

/-- The credit code of an AETH on a QP. -/
def qpCredit (q : Qp) : Nat := if q.cmdch then creditCode (ringFree q) else 31

/-! ## Leaving the port -/

/-- The pipeline of a logical port. -/
def pipeOf (lport : Nat) : Nat := lport / 4

/-- Is a logical port up? -/
def portUp (s : State) (lport : Nat) : Bool := s.rbit R.PRT_LINKSTAT_UP (lport % 4) (lport / 4)

/-- Is the priority of a logical port's RoCE traffic paused, a pause that RXEN lets it honour (R120)? -/
def txPaused (s : State) (l : Nat) : Bool :=
  let prio := s.rd R.PRT_PFC_PRIO 0 (l / 4)
  bit (s.prt.paused.get l 0) prio && s.rbit R.PRT_PFC_RXEN prio (l / 4)

/-- The gait weight that MST[n] has taken (Table 1.8 MSWEIGHT). -/
def mstWeight (s : State) (n : Nat) : Nat :=
  match s.gai.inForce.find? (34 + n) with
  | some r => r.msweight
  | none => R.GAI_ROW_MSWEIGHT.dflt 2

/-- A packet at a logical port's egress: it leaves, or waits while the port is paused, behind those that wait, and a millstone's while
its weight is 0 (R121). -/
def txPacket (s : State) (l cls qp : Nat) (o : Out) : State :=
  if txPaused s l ∨ s.prt.txq.any (fun x => x.lport = l) ∨ (cls = 2 ∧ mstWeight s 0 = 0) then
    { s with prt := { s.prt with txq := s.prt.txq ++ [{ lport := l, cls, qp, out := o }] } }
  else (s.bump C.PRT_TXFRAMES 1 (l % 4) (l / 4)).emit o

/-- The first control packet that no earlier packet of its own QP precedes: control goes first in strict priority (R121), and a QP's
responses keep their order (R17). -/
def firstControl : List TxPkt → List Nat → Option TxPkt
  | [], _ => none
  | x :: xs, seen => if x.cls = 0 ∧ !seen.contains x.qp then some x else firstControl xs (x.qp :: seen)

/-- What leaves next of a port's queue: control, then responses and the millstones' packets by turn, either where the other has
none (R121). -/
def nextTx (q : List TxPkt) (mstTurn mstOk : Bool) : Option TxPkt :=
  let q := q.filter (fun x => mstOk || decide (x.cls ≠ 2))
  match firstControl q [] with
  | some x => some x
  | none =>
    match q.find? (fun x => decide (x.cls = 2) == mstTurn) with
    | some x => some x
    | none => q.head?

/-- The queue of a port that is not paused leaves: 16 responses to MSWEIGHT packets of the millstones (R121, log entry 164). -/
def drainTx : Nat → Nat → Nat → State → State
  | 0, _, _, s => s
  | n + 1, l, turn, s =>
    let w := mstWeight s 0
    match nextTx (s.prt.txq.filter (fun x => x.lport = l)) (decide (16 ≤ turn)) (decide (w ≠ 0)) with
    | none => s
    | some x =>
      let t : State := { s with prt := { s.prt with txq := s.prt.txq.erase x } }
      drainTx n l (if x.cls = 0 then turn else (turn + 1) % (16 + w)) ((t.bump C.PRT_TXFRAMES 1 (l % 4) (l / 4)).emit x.out)

/-- Every port that is not paused sends what waits. -/
def drainPorts (s : State) : State :=
  if s.prt.txq.isEmpty then s
  else (List.range 16).foldl (fun t l => if txPaused t l then t else drainTx t.prt.txq.length l 0 t) s

/-- A RoCE packet of a QP: ECT(0) under ECTMARK, a CNP not ECN-capable and with CNPDSCP (R142); one tag where the port is tagged
(R119). -/
def roceOut (s : State) (l qp opcode psn syndrome dscp vid : Nat) (payload : List Nat) : Out :=
  let p := pipeOf l
  .pkt l qp opcode (psn % 2 ^ 24) syndrome
    (if opcode ≠ 0x81 ∧ s.on R.XPT_CNP_ECTMARK 0 p then 2 else 0)
    (if opcode = 0x81 then s.rd R.XPT_CNP_CNPDSCP 0 p else dscp)
    (if s.on R.PRT_VLAN_TAGGED (l % 4) (l / 4) then some vid else none) payload

/-- A packet leaves to the QP's host; a port that is down discards it (R131). -/
def sendPkt (s : State) (i opcode psn syndrome : Nat) (payload : List Nat) : State :=
  let q := qpAt s i
  let l := q.lport
  if portUp s l then
    txPacket (s.bump C.XPT_RESP 1 0 (pipeOf l)) l (if opcode = 0x11 then 0 else 1) i (roceOut s l i opcode psn syndrome q.dscp q.vid payload)
  else s

/-- An ACK of PSN `psn` (opcode 0x11), with the credit code (R138, R139). -/
def sendAck (s : State) (i psn : Nat) : State :=
  let c := qpCredit (qpAt s i)
  let t := modQp s i (fun q => { q with lastack := psn % 2 ^ 24, credit := c })
  let t := sendPkt t i 0x11 psn c []
  { t with xpt := { t.xpt with unacked := t.xpt.unacked.del i } }

/-- A CNP to the QP's host, at most one per NPINTV (R130, R141, R143). -/
def sendCnp (s : State) (i pipe : Nat) : State :=
  let ok : Bool := match s.xpt.cnpLast.find? i with
    | none => true
    | some t => decide (s.rd R.XPT_CNP_NPINTV 0 pipe ≤ s.now - t)
  let q := qpAt s i
  if ok ∧ portUp s q.lport then
    let t : State := { s with xpt := { s.xpt with cnpLast := s.xpt.cnpLast.ins i s.now } }
    txPacket (t.bump C.XPT_CNPTX 1 0 pipe) q.lport 0 i (roceOut s q.lport i 0x81 0 0 q.dscp q.vid (List.replicate 16 0))
  else s

/-! ## The context cache and the miss buffer (R127, R129) -/

/-- Requests of a QP between Parse and Answer. -/
def reqsOf (s : State) (i : Nat) : List Req := s.xpt.reqs.filter (fun r => r.qp = i)

/-- A cached context that may be replaced to make room for a fill of port `p` (R127). -/
def replaceable (s : State) (p : Nat) : Option Nat :=
  let free := s.xpt.cache.filter (fun e => (reqsOf s e.1).isEmpty)
  let mine := free.filter (fun e => e.2.port = p)
  let lru := fun (l : Sparse CtxEnt) =>
    (l.foldl (fun (b : Option (Nat × Nat)) e => match b with
      | none => some (e.1, e.2.used)
      | some x => if e.2.used < x.2 then some (e.1, e.2.used) else some x) none).map (·.1)
  if s.rd R.XPT_CTXSHARE_SHARE 0 p * 256 ≤ (s.xpt.cache.filter (fun e => e.2.port = p)).length then lru mine
  else if s.xpt.cache.length < 8192 then none
  else match lru (free.filter (fun e => decide (1000 < s.now - e.2.used))) with
    | some k => some k
    | none => lru mine

/-- May port `p` fill a context now? -/
def cacheRoom (s : State) (p : Nat) : Bool :=
  (replaceable s p).isSome ||
  (decide (s.xpt.cache.length < 8192) &&
   decide ((s.xpt.cache.filter (fun e => e.2.port = p)).length < s.rd R.XPT_CTXSHARE_SHARE 0 p * 256))

/-- The tier D address of a context, where the context area or its second copy lies there (R125). -/
def contextAddr (s : State) (i : Nat) : Option Nat :=
  if s.rd R.XPT_CTXCFG_LOC 0 0 = 1 ∨ s.rd R.XPT_CTXCFG_DGROUP 0 0 = 0 then none
  else some (s.rd R.XPT_CTXCFG_DGROUP 0 0 * 2097152 + 128 * i)

/-- A context is written back to the context area (R125). Tier H lies outside the device. -/
def writeBack (s : State) (i : Nat) : State :=
  match contextAddr s i with
  | some a => dWrite s a ((qpWords (qpAt s i)).flatMap (fun w => leBytes w 8))
  | none => s

/-- A context leaves the cache, written back. -/
def evictCtx (s : State) (i : Nat) : State :=
  if s.xpt.cache.has i then
    let t := writeBack s i
    { t with xpt := { t.xpt with cache := t.xpt.cache.del i } }
  else s

/-- Install a context in the cache, charged to port `p`. -/
def cacheFill (s : State) (i p : Nat) : State :=
  let t := match replaceable s p with | some k => evictCtx s k | none => s
  { t with xpt := { t.xpt with cache := t.xpt.cache.ins i { port := p, used := s.now } } }

/-- A context is used. -/
def cacheUse (s : State) (i : Nat) : State :=
  { s with xpt := { s.xpt with cache := s.xpt.cache.mapK (fun k e => if k = i then { e with used := s.now } else e) } }

/-- Bytes of a packet from the BTH to the end of its payload. -/
def pktBytes (k : Packet) : Nat :=
  let o := k.opcode
  12 + (if o = 0x06 ∨ o = 0x0A ∨ o = 0x0B ∨ o = 0x0C ∨ o = 0x1D then 16
        else if o = 0x13 ∨ o = 0x14 then 28 else if o = 0x1C then 20 else 0)
     + (if o = 0x03 ∨ o = 0x05 ∨ o = 0x09 ∨ o = 0x0B then 4 else 0) + k.payload.length

/-- What a held packet takes of the miss buffer (R129). -/
def missBytes (k : Packet) : Nat := (pktBytes k + 63) / 64 * 64 + 64

/-- XPT_MISSSTAT.BYTES of a pipeline. -/
def heldBytes (s : State) (p : Nat) : Nat :=
  ((s.xpt.held ++ s.xpt.moving).filter (fun h => pipeOf h.lport = p)).foldl (fun a h => a + h.bytes) 0
def showMiss (s : State) (p : Nat) : State := s.wr R.XPT_MISSSTAT_BYTES (heldBytes s p) 0 p

/-- Does a fetch of the QP go to tier H (R126)? LOC 1 always; LOC 2 unless DRAMFB is set. -/
def fetchesH (s : State) (i : Nat) : Bool :=
  match s.rd R.XPT_CTXCFG_LOC 0 0 with
  | 0 => false
  | 1 => true
  | _ => !(qpAt s i).dramfb

/-- A tier H access fails (R243): event 0x1D00; three failures within 1 ms set HSTATE DOWN. `cause` 0 error, 1 poison, 2 timeout, 3
HSTATE was not UP. -/
def tierHFail (s : State) (page cause : Nat) : State :=
  let t := raise (s.bump C.TIE_HFAIL) 0x1D00 [page, Config.payloadCode 0x1D00 cause]
  let recent := t.now :: t.tie.hfail.filter (fun x => decide (t.now - x < 1000))
  let t : State := { t with tie := { t.tie with hfail := recent } }
  if 3 ≤ recent.length ∧ t.rd R.TIE_STAT_HSTATE = 1 then setHState t 2 3 else t

/-- The tier H page of a context. -/
def contextPage (s : State) (i : Nat) : Nat := s.rd R.XPT_CTXHBASE_HPAGE 0 0 + i / 32

/-- A tier H fetch fails (R126 steps 1 to 3): the waiting packet is dropped, event 0x1000 + p, and DRAMFB under LOC 2. -/
def fetchFailed (s : State) (i p cause waited : Nat) : State :=
  let rest := match s.xpt.held.find? (fun h => h.qp = i) with
    | some h => s.xpt.held.erase h
    | none => s.xpt.held
  let t : State := { s with xpt := { s.xpt with fetches := s.xpt.fetches.del i, held := rest } }
  let t := tierHFail t (contextPage t i) cause
  let t := raise (t.bump C.XPT_HFETCHFAIL 1 0 p) (0x1000 + p) [i, Config.payloadCode 0x1000 cause, waited]
  let t := if s.rd R.XPT_CTXCFG_LOC 0 0 = 2 then modQp t i (fun q => { q with dramfb := true }) else t
  (List.range 4).foldl showMiss t

/-- A context fetch for QP `i` starts (R126), unless one is running; at most 256 per pipeline (R129). A tier H fetch fails at once
while HSTATE is not UP (R243), and the packet held behind the dropped one starts the next. -/
def startFetch (s : State) (i p : Nat) (low : Bool) : Nat → State
  | 0 => s
  | n + 1 =>
    if s.xpt.fetches.has i then
      { s with xpt := { s.xpt with fetches := s.xpt.fetches.mapK (fun k f => if k = i then { f with low := f.low && low } else f) } }
    else if 256 ≤ (s.xpt.fetches.filter (fun f => f.2.port = p)).length then s
    else if fetchesH s i ∧ s.rd R.TIE_STAT_HSTATE ≠ 1 then
      let t := fetchFailed s i p 3 0
      match t.xpt.held.find? (fun h => h.qp = i) with
      | some h => startFetch t i (pipeOf h.lport) false n
      | none => if s.rd R.XPT_CTXCFG_LOC 0 0 = 2 ∧ low then startFetch t i p low n else t
    else { s with xpt := { s.xpt with fetches := s.xpt.fetches.ins i { port := p, start := s.now, low } } }

/-- A fetch for a held packet, or for a CNP-list entry (`low`). -/
def wantContext (s : State) (i p : Nat) (low : Bool) : State := startFetch s i p low (s.xpt.held.length + 2)

/-- A fetch of pipeline `p` has ended: the oldest held packet whose QP has neither context nor fetch starts one (R129), then the
oldest CNP-list entry (R130). -/
def nextFetch (s : State) (p : Nat) : State :=
  match s.xpt.held.find? (fun h => pipeOf h.lport = p && !s.xpt.fetches.has h.qp && !s.xpt.cache.has h.qp) with
  | some h => wantContext s h.qp p false
  | none =>
    match s.xpt.cnpList.find? (fun e => e.1 = p && !s.xpt.fetches.has e.2.1 && !s.xpt.cache.has e.2.1) with
    | some e => wantContext s e.2.1 p true
    | none => s

/-! ## Requests -/

def reqAt (s : State) (id : Nat) : Option Req := s.xpt.reqs.find? (fun r => r.id = id)
def setReq (s : State) (r : Req) : State :=
  { s with xpt := { s.xpt with reqs := s.xpt.reqs.map (fun x => if x.id = r.id then r else x) } }
def dropReqId (s : State) (id : Nat) : State :=
  { s with xpt := { s.xpt with reqs := s.xpt.reqs.filter (fun x => x.id ≠ id) } }

/-- Is the request a write that takes tokens (R249)? -/
def Req.writes (r : Req) : Bool := r.kind = .write || r.kind = .awrite || r.kind = .cas || r.kind = .fadd

/-- Does the request go to check 11 (R155)? -/
def Req.readAtomic (r : Req) : Bool := r.kind = .read || r.kind = .cas || r.kind = .fadd || r.kind = .awrite || r.kind = .flush

/-- Does the request name an rkey? -/
def Req.named (r : Req) : Bool := r.kind ≠ .send

/-- Pages that bytes `va` to `va + len` touch. -/
def pageCount (va len : Nat) : Nat := if len = 0 then 0 else (va + len - 1) / 4096 - va / 4096 + 1

/-- Tokens that a request takes at Admit (R249). -/
def Req.needs (r : Req) : Nat := if r.writes then pageCount r.va r.len else 0

/-- Bytes of a request in the Admit buffer, and HELD. -/
def Req.bytes (r : Req) : Nat := (12 + 16 + r.payload.length + 63) / 64 * 64 + 64
def admitBytes (s : State) (p : Nat) : Nat :=
  (s.xpt.reqs.filter (fun r => pipeOf r.lport = p && r.stage = .admitting)).foldl (fun a r => a + r.bytes) 0

/-- XPT_ADMIT.HELD; a pause that was sent ends once the buffer falls below half (R141). -/
def showAdmit (s : State) (p : Nat) : State :=
  let b := admitBytes s p
  let t := s.wr R.XPT_ADMIT_HELD (min 1024 (b / 1024)) 0 p
  if t.prt.pausing.contains p ∧ b < 524288 then
    let prio := t.rd R.PRT_PFC_PRIO 0 p
    let u : State := { t with prt := { t.prt with pausing := t.prt.pausing.filter (· ≠ p) } }
    (List.range 4).foldl (fun v j => if portUp v (4 * p + j) then v.emit (.pause (4 * p + j) prio false) else v) u
  else t

/-- An access in flight on a region ends (R87). -/
def leaveRegion (s : State) (i : Nat) : State :=
  { s with trn := { s.trn with inflight := s.trn.inflight.put i (s.trn.inflight.get i 0 - 1) 0 } }

/-- A request leaves the pipeline: its tokens return, its region's count falls. -/
def releaseReq (s : State) (r : Req) : State :=
  let t := backTokens s r.tokens
  let t := if r.passed then leaveRegion t r.region else t
  let t := if r.readAtomic ∧ !r.dup then modQp t r.qp (fun q => { q with rdinfl := q.rdinfl - 1 }) else t
  showAdmit (dropReqId t r.id) (pipeOf r.lport)

/-- Every request of a QP is dropped without response. -/
def dropReqs (s : State) (i : Nat) : State := (reqsOf s i).foldl releaseReq s

/-- A millstone's line is durable: what BUSY of the job write port and of MST_SUBMIT waited for (R280, R281). -/
def lineWritten (s : State) (id : Nat) : State :=
  let t := if s.mst.jwReq = [id] then s.wr R.MST_JWSTAT_BUSY 0 else s
  if s.mst.cmdReq = some id then t.wr R.MST_SUBSTAT_BUSY 0 else t

/-- A request whose parts are all done is done: its immediate fills a slot (Table 5.1). Its region's count falls when it is answered
(R87). -/
def settle (s : State) (id : Nat) : State :=
  match reqAt s id with
  | none => s
  | some r =>
    if r.stage = .place ∧ (r.parts.all (fun p => p.st = .done) ∨ r.fate ≠ .ok) then
      let t := backTokens s r.tokens
      let t := match r.imm, r.kind, r.fate with
        | some v, .write, .ok => ringPush t r.qp { payload := [], imm := some v }
        | _, _, _ => t
      lineWritten (setReq t { r with stage := .done, tokens := 0 }) id
    else s

/-- The QP goes to ERROR: requests behind are dropped (R137). -/
def qpError (s : State) (i : Nat) : State :=
  let t := dropReqs s i
  let t := modQp t i (fun q => { q with qstate := 4, msg := 0, sendBuf := [] })
  (List.range 4).foldl showMiss { t with xpt := { t.xpt with
      unacked := t.xpt.unacked.del i
      held := t.xpt.held.filter (fun h => h.qp ≠ i)
      moving := t.xpt.moving.filter (fun h => h.qp ≠ i) } }

/-- A NAK that ends the QP (R137): event 0x1040 + p. -/
def fatalNak (s : State) (i psn syndrome : Nat) : State :=
  let p := pipeOf (qpAt s i).lport
  let t := sendPkt s i 0x11 psn syndrome []
  let t := match syndrome with
    | 0x61 => t.bump C.XPT_NAKINV 1 0 p
    | 0x62 => t.bump C.XPT_NAKACC 1 0 p
    | _ => (t.bump C.XPT_NAKOPS 1 0 p).bump C.XPT_POISONNAK 1 0 p
  raise (qpError t i) (0x1040 + p) [i, psn, syndrome]

/-- Every QP goes to RESET (R132). -/
def resetQps (s : State) : State := { s with xpt := { qps := [], nextReq := s.xpt.nextReq } }

/-! ## Fences (R175) -/

/-- Is a page fenced (R175)? -/
def fenced (s : State) (p : Nat) : Bool := s.log.fences.has p

/-! ## The pending set (R196) -/

def showPend (s : State) : State :=
  (s.wr R.TWN_PENDSTAT_ENTRIES s.twn.pend.length).wr R.TWN_PENDSTAT_FULL (b2n (decide (65536 ≤ s.twn.pend.length)))

/-- Has the set room for page `p`? -/
def pendRoom (s : State) (p : Nat) : Bool := s.twn.pend.has p || decide (s.twn.pend.length < 65536)

/-- Age in µs of the oldest page of the set. -/
def pendAge (s : State) : Nat := s.twn.pend.foldl (fun a e => max a (s.now - e.2.since)) 0

/-- A write waits because the set is full: event 0x1980. -/
def pendFull (s : State) : State := raise s 0x1980 [s.twn.pend.length, pendAge s]

/-- Does a write of page `p` placed here as home go to the twin: in SPAN and once SPANOK has come; in CATCHUP and READY where the
page is not CHANGED (R210)? -/
def mirrorsNow (s : State) : Bool := isSpan s || s.twn.spanOk
def mirrorsLater (s : State) (p : Nat) : Bool := (tstate s = 4 || tstate s = 5) && isSurvivor s && !isChanged s p

/-- A MIRROR or RESYNC_PAGE, or a forward, of page `p` is out. -/
def pendAdd (s : State) (p mirrors forwards : Nat) : State :=
  let x := s.twn.pend.get p { since := s.now }
  showPend { s with twn := { s.twn with
    pend := s.twn.pend.ins p { x with mirrors := x.mirrors + mirrors, forwards := x.forwards + forwards } } }

/-- Its answer came: a page with nothing out leaves the set. -/
def pendDone (s : State) (p mirrors forwards : Nat) : State :=
  match s.twn.pend.find? p with
  | none => s
  | some x =>
    let y := { x with mirrors := x.mirrors - mirrors, forwards := x.forwards - forwards }
    showPend { s with twn := { s.twn with
      pend := if y.mirrors = 0 ∧ y.forwards = 0 then s.twn.pend.del p else s.twn.pend.ins p y } }

/-! ## Ordering and placing at the home (R157, R158, R193, R210) -/

/-- The next epoch of a page. -/
def nextEpoch (s : State) (p : Nat) : Nat := (pageEpoch s p + 1) % 2 ^ 48

/-- The home places a write part and sends its MIRROR: in SPAN (and, at the survivor, once SPANOK has come,
Table 6.14) at once, in CATCHUP and READY with ASYNC where the page is
not CHANGED (R210). Answers the state, the tag of the MIRROR that a response waits for, if any, and the epoch. -/
def placeHome (s : State) (p off : Nat) (bs : List Nat) : State × Option Nat × Nat :=
  let ep := nextEpoch s p
  let t := placeData s p off bs ep
  if mirrorsNow t then
    let tag := t.twn.nextTag
    let t := withTag t (fun n => .mirror n ep p off false bs)
    (pendAdd t p 1 0, some tag, ep)
  else if mirrorsLater t p then
    let tag := t.twn.nextTag
    let t := withTag t (fun n => .mirror n ep p off true bs)
    let t := markLog (pendAdd t p 1 0) p true
    ({ t with twn := { t.twn with asyncTags := t.twn.asyncTags ++ [tag] } }, none, ep)
  else (t, none, ep)

/-- Parts of page `p` that waited for a line are tried again (R173). -/
def unfetch (s : State) (p : Nat) : State :=
  { s with xpt := { s.xpt with reqs := s.xpt.reqs.map (fun r =>
      if r.parts.any (fun x => x.spage = p) then
        { r with parts := r.parts.map (fun x => if x.st = .fetching then { x with st := .todo } else x) }
      else r) } }

/-- Lines written whole need no answer of the twin any more (R173): their TREADs are given up, and what waited for them goes on. -/
def giveUpTreads (s : State) (p : Nat) (lines : List Nat) : State :=
  if s.twn.treads.any (fun e => e.1 = p && lines.contains e.2) then
    unfetch { s with twn := { s.twn with
      treads := s.twn.treads.filter (fun e => !(e.1 = p && lines.contains e.2))
      treadPipe := s.twn.treadPipe.keep (fun k => !(k / 64 = p && lines.contains (k % 64))) } } p
  else s

/-- The little-endian word at a page offset. -/
def wordAt (s : State) (p off : Nat) : Nat :=
  match frameOf s p with
  | some f => leNat (dRead s (4096 * f + off) 8)
  | none => 0

/-- What an atomic stores (R160): FETCH-ADD adds modulo 2^64; a CAS that fails stores the word unchanged. -/
def atomicNew (fadd : Bool) (old arg swap : Nat) : Nat :=
  if fadd then (old + arg) % 2 ^ 64 else if old = arg % 2 ^ 64 then swap % 2 ^ 64 else old

end Sys2Proof.Machine
end

