-- ==== Sys2Proof/Machine/TieMoves.lean ====
section
/-! DEFINITION. How pages leave and movements end (R229, R230, R237), waiting promotions, and session-held entries. -/

namespace Sys2Proof.Machine

/-- Parked requests of page `p` go back to Place (R237 step 5). -/
def unpark (s : State) (p : Nat) : State :=
  { s with xpt := { s.xpt with reqs := s.xpt.reqs.map (fun r =>
      { r with parts := r.parts.map (fun x => if x.spage = p ∧ x.st = .parked then { x with st := .todo } else x) }) } }

/-- Requests parked on an extent go back to Place, where they miss again (R234). -/
def unparkExtent (s : State) (e : Nat) : State :=
  { s with xpt := { s.xpt with reqs := s.xpt.reqs.map (fun r =>
      { r with parts := r.parts.map (fun x => if x.spage / 512 = e ∧ x.st = .parked then { x with st := .todo } else x) }) } }

/-- Is the movement of extent `e` complete at this side? -/
def movedHere (s : State) (e : Nat) : Bool :=
  let st := fun n => (pageFrame s (e * 512 + n)).pstate
  match (extentAt s e).movekind with
  | 1 => !filling s e
  | 2 => (List.range 512).all (fun n => st n = .absent || st n = .pinned) && !leavingExtent s e
  | _ => (List.range 512).all (fun n => st n ≠ .cleaning)

/-- The group of an extent without resident pages returns, once no movement of it is in flight (R92, R230). -/
def returnGroup (s : State) (e : Nat) : State :=
  if (extentAt s e).rescnt = 0 ∧ (extentAt s e).ingroup ∧ (extentAt s e).movekind = 0 then freeExtentGroup s e else s

/-- A movement ends at this side and at the twin: the group returns when nothing is resident, and the request that was
merged behind it starts (Table 7.7). -/
def endMove (s : State) (e : Nat) : State :=
  let mv := s.tie.moves.get e { pages := 0 }
  let t := modExtent { s with tie := { s.tie with moves := s.tie.moves.del e } } e (fun x => { x with movekind := 0 })
  let t := returnGroup t e
  if mv.after ≠ 0 then
    match needGroup t e none mv.after with
    | (u, true) => promote u e mv.after (isSpan u && !isLead u)
    | (u, false) => u
  else if mv.forceOut then demote t e false
  else if mv.demoteAfter then (if decides t then chargeEmptied t e else demote t e true)
  else t

/-- A movement may have ended at this side: each side of a
movement of both sends MOVE_DONE, and waits for the other's (R181, R230). -/
def checkMove (s : State) (e : Nat) : State :=
  match s.tie.moves.find? e with
  | none => s
  | some mv =>
    if mv.selfDone ∨ !movedHere s e then s
    else
      let k := (extentAt s e).movekind
      let t := if mv.pair then withTag s (fun n => .moveDone n e (if k = 3 then 2 else k) 0) else s
      if mv.twinDone then endMove t e
      else { t with tie := { t.tie with moves := t.tie.moves.ins e { mv with selfDone := true } } }

/-- TRN has reported that page `p` is out of tier D (Table 7.2): RESCNT counts it no longer, and its frame is free, unless the page has
come back since. -/
def freePage (s : State) (p : Nat) : State :=
  match frameOf s p with
  | none => s
  | some f =>
    let t : State := if (s.maps.frames.get f {}).pstate = .absent then
        frameSound { s with dram := { s.dram with data := memZero s.dram.data (4096 * f) 4096 } } f
      else s
    returnGroup (checkMove (modExtent t (p / 512) (fun x => { x with rescnt := x.rescnt - 1 })) (p / 512)) (p / 512)

/-- Is a later write-back of entry `ref` under way? -/
def cleanedAgain (s : State) (ref : Nat) : Bool :=
  s.stf.cleanQ.any (fun e => e.1 = ref) ||
  (match s.stf.open_ with | some r => r.ents.any (fun e => e.what = 1 && e.ref = ref) | none => false)

/-- The write-back of a page is verified (Table 7.2): the store map names it, and the page is CLEAN unless it has been written since,
be it taken again or not. -/
def cleanDone (s : State) (p : Nat) (l : SLoc) : State :=
  let t := (setStore s p l).bump C.TIE_CLEANED
  let t := if (pageFrame t p).pstate = .cleaning ∧ !cleanedAgain t (3 * p) then
      setPage t p (fun x => { x with pstate := .clean, age := 0 })
    else t
  let t := if (extentAt t (p / 512)).movekind = 2 then demoteFree t (p / 512) else t
  checkMove t (p / 512)

/-- May a waiting promotion go on: a group, and room under its tenant's overdraft (R231)? -/
def mayPromote (s : State) (w : Nat × Nat × Nat) : Bool :=
  let x := extentAt s w.1
  let more := if charged s w.1 w.2.2 && x.ingroup then 0 else 1
  (x.ingroup || (freeGroup s).isSome) &&
  !((tenantAt s w.2.2).quota && decide ((tenantAt s w.2.2).dquota + s.rd R.TIE_QOVER_QOVER < dused s w.2.2 + more))

/-- Waiting promotions, oldest first, go on as they can (R231, R234): their pages are promoted, and the requests parked on the extent miss
again. -/
def retryWaiting (s : State) : State :=
  s.tie.waiting.foldl (fun u w =>
    match u.tie.waiting.find? (fun x => x.1 = w.1) with
    | none => u
    | some w =>
      if !mayPromote u w then u
      else
        let v : State := { u with tie := { u.tie with waiting := u.tie.waiting.erase w } }
        if !decides v ∨ w.2.1 = 0 then unparkExtent v w.1
        else
          let q := needGroup v w.1 (if w.2.2 < 1024 then some w.2.2 else none) w.2.1
          if q.2 then checkMove (unparkExtent (promote q.1 w.1 w.2.1 false) w.1) w.1 else q.1) s

/-- Movements that have nothing left to do end, and waiting promotions go on. -/
def settleMoves (s : State) : State := retryWaiting (s.tie.moves.foldl (fun u m => checkMove u m.1) s)

/-- A session's value of an entry held per session. -/
def sessEnt (s : State) (sess e dflt : Nat) : Nat :=
  match s.dic.sessions.find? sess with
  | some x => x.idx.get e dflt
  | none => dflt

/-- Set it. -/
def setSessEnt (s : State) (sess e v : Nat) : State :=
  { s with dic := { s.dic with sessions := s.dic.sessions.mapK (fun k x =>
      if k = sess then { x with idx := x.idx.ins e v } else x) } }

/-- Commands of an entry that runs once per session (R39): its status is that session's. -/
def cmdKey (entry sess : Nat) : Nat := sess * 2 ^ 24 + entry

end Sys2Proof.Machine
end

