-- ==== Sys2Proof/Machine/RegionOps.lean ====
section
/-! DEFINITION. Registration, deregistration and deallocation (R84 to R88, R91) as they act at one side, and as pair
operations (R86, R180). -/

namespace Sys2Proof.Machine

/-- Is firmware-owned work possible (R13, R431)? -/
def fwUp (s : State) : Bool := !s.on R.CPX_STAT_TAKEOVER && s.cpx.entry.isSome

/-- Does the generator of R464 run? -/
def drbgOk (s : State) : Bool := !s.on R.KEY_STAT_NOENTROPY

/-- The extents that pages `p` to `p + n` touch. -/
def extentsOf (p n : Nat) : List Nat :=
  if n = 0 then [] else (List.range ((p + n - 1) / 512 - p / 512 + 1)).map (fun i => p / 512 + i)

/-- Event 0x1C60 when SALLOC crosses SQUOTA upward (R241). -/
def sallocEvent (old new : State) (t : Nat) : State :=
  let q := (tenantAt new t).squota
  if q ≠ 0 ∧ salloc old t ≤ q ∧ q < salloc new t then raise new 0x1C60 [t, salloc new t, q] else new

/-- Registration allocates the UNALLOCATED extents of its range (R85). -/
def allocExtents (s : State) (r : Region) : State :=
  let t := (extentsOf r.sapage r.lenpages).foldl (fun u e =>
    if (extentAt u e).estate = 0 then
      markMapExt (setExtent u e { estate := 1, home := r.home, tpol := r.tpol, owner := r.tenant }) e
    else u) s
  sallocEvent s t r.tenant

/-- The first refusal of a registration (R84), the lowest-numbered reason first, an order that R84 does not give (log entry 162); 0
none. -/
def regRefusal (s : State) (r : Region) : Nat :=
  if r.lenpages = 0 then 1
  else if 512 * pext s < r.sapage + r.lenpages then 2
  else if r.vabase % 4096 ≠ 0 ∨ 2 ^ 64 < r.vabase + r.lenpages * 4096 then 3
  else if 1023 < r.tenant then 4
  else if r.home = 3 then 5
  else if 16384 ≤ s.maps.freeNext ∧ s.maps.freed.isEmpty then 6
  else 0

/-- The index at the head of the free list, taken from it. -/
def takeIndex (s : State) : State × Nat :=
  if s.maps.freeNext < 16384 then
    ({ s with maps := { s.maps with freeNext := s.maps.freeNext + 1 } }, s.maps.freeNext)
  else match s.maps.freed with
    | [] => (s, 0)
    | i :: l => ({ s with maps := { s.maps with freed := l } }, i)

/-- The rkey of a region entry (Table 3.2). -/
def rkeyOf (i : Nat) (r : Region) : Nat := r.gen * 2 ^ 24 + i * 2 ^ 10 + r.salt

/-- Registration here (R84, R85): the index, GEN, SALT and REGSEQ are allotted. Answers the index. -/
def registerHere (s : State) (r : Region) : State × Nat :=
  let q := takeIndex s
  let i := q.2
  let old := regionAt q.1 i
  let r : Region := { r with
    state := 1
    gen := if old.gen = 255 then 1 else old.gen + 1
    salt := Config.random q.1.draws % 1024
    regseq := q.1.maps.regseq + 1 }
  let t := drawn q.1
  let t : State := { t with maps := { t.maps with regseq := r.regseq } }
  let t := allocExtents (markMapReg (setRegion t i r) i) r
  (raise t 0x1420 [i, r.gen, r.tenant, r.regseq], i)

/-- A region whose count is 0 and that DRAINs becomes FREE, and its index joins the free list's tail (R87). -/
def drainDone (s : State) (i : Nat) : State :=
  let r := regionAt s i
  if r.state = 2 ∧ s.trn.inflight.get i 0 = 0 then
    let t := setRegion s i { r with state := 0 }
    let t : State := { t with maps := { t.maps with freed := t.maps.freed ++ [i] } }
    raise t 0x1440 [i, r.gen, r.regseq]
  else s

/-- Does an rkey name an ACTIVE region with its GEN and SALT (R87)? -/
def rkeyLive (s : State) (k : Nat) : Bool :=
  let r := regionAt s (bits k 10 14)
  decide (r.state = 1) && decide (r.gen = bits k 24 8) && decide (r.salt = bits k 0 10)

/-- Deregistration here: DRAINING (R87). -/
def deregisterHere (s : State) (k : Nat) : State :=
  let i := bits k 10 14
  markMapReg (setRegion s i { regionAt s i with state := 2 }) i

/-- Does an ACTIVE or DRAINING region of the space cover a page of the extents (R91)? -/
def coveredBy (s : State) (e n : Nat) : Bool :=
  s.maps.regions.any (fun x => (x.2.state = 1 || x.2.state = 2) && !x.2.scratch &&
    decide (x.2.sapage < 512 * (e + n)) && decide (512 * e < x.2.sapage + x.2.lenpages))

/-- The first refusal of a deallocation (R84); 0 none. -/
def deallocRefusal (s : State) (e n : Nat) : Nat :=
  if pext s < e + n then 2 else if coveredBy s e n then 7 else 0

/-- A movement in flight in the range makes a deallocation wait (Table 7.7). -/
def deallocWaits (s : State) (e n : Nat) : Bool :=
  (List.range n).any (fun j => decide ((extentAt s (e + j)).movekind ≠ 0))

/-- One extent returns to UNALLOCATED (R91): frames freed, store-map entries NONE, charges gone. -/
def deallocExtent (s : State) (e : Nat) : State :=
  let x := extentAt s e
  if x.estate = 0 then s
  else
    let t := setCharge s e { tenants := [], twin := false }
    let t := if x.ingroup then
        (List.range 512).foldl (fun u n =>
          if u.maps.frames.has (x.fgroup * 512 + n) then
            frameSound (setFrame u (x.fgroup * 512 + n) {}) (x.fgroup * 512 + n) else u)
          { t with dram := { t.dram with data := memZero t.dram.data (x.fgroup * 2097152) 2097152 } }
      else t
    let t := freeExtentGroup t e
    let t := (t.maps.store.filter (fun y => y.1 / 512 = e)).foldl (fun u y => setStore u y.1 {}) t
    markMapExt (setExtent t e {}) e

/-- Deallocation here. -/
def deallocHere (s : State) (e n : Nat) : State := (List.range n).foldl (fun t j => deallocExtent t (e + j)) s

/-- A refusal (event 0x1460): `cmd` 0 registration, 1 deregistration, 2 deallocation. -/
def refuseMap (s : State) (cmd reason tenant : Nat) : State := raise s 0x1460 [Config.payloadCode 0x1460 cmd, reason, tenant]

/-- Is this side one of a pair with a lead side: in SPAN, CATCHUP or READY (R180)? -/
def pairLinked (s : State) : Bool := isSpan s || tstate s = 4 || tstate s = 5

/-- Does this side do map operations itself (R180)? In a pair only the lead side. -/
def mapLead (s : State) : Bool := !pairLinked s || isLead s

/-- Does a change made here go to the other side at once (R86): in SPAN, and from the survivor once step 2 of Table 6.13 has sent
what was marked? -/
def sendsMaps (s : State) : Bool := isSpan s || ((tstate s = 4 || tstate s = 5) && isSurvivor s && decide (3 ≤ s.twn.cstep))

/-- The REGION_SET message of a region. -/
def regionSet (s : State) (i : Nat) (tag : Nat) : Msg := .mapop tag 1 i 0 0 (regionWords (regionAt s i))

/-- Wait for the twin (R86). -/
def waitMap (s : State) (w : MapWait) : State := { s with twn := { s.twn with waits := s.twn.waits ++ [w] } }

/-- A registration command ends: rkey and REGSEQ of this session's last registration, DONE (Table 3.14). -/
def regDone (s : State) (sess i rkey : Nat) : State :=
  let t := setSessEnt s sess (ekey 0x2110 0x0A) rkey
  let t := setSessEnt t sess (ekey 0x2110 0x0B) (regionAt t i).regseq
  cmdDone t (cmdKey (ekey 0x2110 9) sess)

/-- Values of a registration that a region entry's words cannot hold (Table 3.3): each of them is refused (R84). -/
def regTooLarge (r : Region) : Bool := decide (1023 < r.tenant) || decide (2 ^ 36 ≤ r.sapage) || decide (2 ^ 36 ≤ r.lenpages)

/-- Registration as a pair operation; what MAPOP cannot carry is refused here. -/
def registerPair (s : State) (sess : Nat) (r : Region) : State :=
  let c := cmdKey (ekey 0x2110 9) sess
  if mapLead s ∨ regTooLarge r then
    let x := regRefusal s r
    if x ≠ 0 then cmdFail (refuseMap s 0 x r.tenant) c x
    else
      let q := registerHere s r
      let k := rkeyOf q.2 (regionAt q.1 q.2)
      if sendsMaps s then
        let tag := q.1.twn.nextTag
        let t := withTag q.1 (fun n => regionSet q.1 q.2 n)
        waitMap t { tag, kind := 0, entry := c, session := sess, words := [q.2, k] }
      else regDone q.1 sess q.2 k
  else
    let tag := s.twn.nextTag
    let t := withTag s (fun n => .mapop n 4 0 0 0 (regionWords { r with state := 1 }))
    waitMap t { tag, kind := 1, entry := c, session := sess, words := regionWords { r with state := 1 } }

/-- Deregistration as a pair operation. -/
def deregisterPair (s : State) (sess k : Nat) : State :=
  let c := cmdKey (ekey 0x2111 1) sess
  if mapLead s then
    if !rkeyLive s k then cmdFail (refuseMap s 1 8 (regionAt s (bits k 10 14)).tenant) c 8
    else
      let t := deregisterHere s k
      if sendsMaps s then
        let tag := t.twn.nextTag
        let u := withTag t (fun n => regionSet t (bits k 10 14) n)
        waitMap u { tag, kind := 0, entry := c, session := sess, words := [bits k 10 14] }
      else cmdDone t c
  else
    let tag := s.twn.nextTag
    let t := withTag s (fun n => .mapop n 5 0 0 0 [k * 2 ^ 32, 0])
    waitMap t { tag, kind := 2, entry := c, session := sess, words := [k] }

/-- Deallocation as a pair operation; it waits for movements of the range to end. -/
def deallocPair (s : State) (sess e n : Nat) : State :=
  let c := cmdKey (ekey 0x2111 4) sess
  if mapLead s then
    let x := deallocRefusal s e n
    if x ≠ 0 then cmdFail (refuseMap s 2 x (extentAt s e).owner) c x
    else if deallocWaits s e n then waitMap s { tag := 0, kind := 4, entry := c, session := sess, words := [e, n] }
    else
      let t := deallocHere s e n
      if sendsMaps s then
        let tag := t.twn.nextTag
        let u := withTag t (fun g => .mapop g 3 0 e n [])
        waitMap u { tag, kind := 0, entry := c, session := sess, words := [e, n] }
      else cmdDone t c
  else
    let tag := s.twn.nextTag
    let t := withTag s (fun g => .mapop g 3 0 e n [])
    waitMap t { tag, kind := 3, entry := c, session := sess, words := [e, n] }

/-- The other side's request for a deallocation, at the lead side (R180): answered once both sides hold the change. -/
def deallocReq (s : State) (tag e n : Nat) : State :=
  let x := deallocRefusal s e n
  if x ≠ 0 then twinSend (refuseMap s 2 x (extentAt s e).owner) (.mapopDone tag x 0 0)
  else if deallocWaits s e n then waitMap s { tag := 0, kind := 7, entry := 0, session := 0, words := [e, n, tag] }
  else
    let t := deallocHere s e n
    let own := t.twn.nextTag
    let u := withTag t (fun g => .mapop g 3 0 e n [])
    waitMap u { tag := own, kind := 6, entry := 0, session := 0, words := [e, n, tag] }

/-- Deallocations that waited for a movement are tried again. -/
def retryDeallocs (s : State) : State :=
  let mine := s.twn.waits.filter (fun w => w.kind = 4 || w.kind = 7)
  mine.foldl (fun u w =>
    if w.kind = 4 then deallocPair u w.session (w.words.getD 0 0) (w.words.getD 1 0)
    else deallocReq u (w.words.getD 2 0) (w.words.getD 0 0) (w.words.getD 1 0))
    { s with twn := { s.twn with waits := s.twn.waits.filter (fun w => w.kind ≠ 4 && w.kind ≠ 7) } }

/-- The registration that the eight values of 0x2110 describe, 0x2110.01 first. -/
def registrationOf (g : List Nat) : Region :=
  { vabase := g.getD 0 0, lenpages := g.getD 1 0 / 4096, sapage := g.getD 2 0 / 4096, tenant := g.getD 3 0
    rread := bit (g.getD 4 0) 0, rwrite := bit (g.getD 4 0) 1, ratomic := bit (g.getD 4 0) 2, home := g.getD 5 0
    tpol := g.getD 6 0, label := g.getD 7 0 }

/-- The edit shadow of 0x2110. -/
def regValues (s : State) : List Nat := (List.range 8).map (fun k => ent s (ekey 0x2110 (k + 1)) 0)

end Sys2Proof.Machine
end

