-- ==== Sys2Proof/Machine/Address.lean ====
section
/-! DEFINITION. The meanings of the address space's commands (chapter 03). -/

namespace Sys2Proof.Machine

/-- A map command starts RUNNING; during a takeover it waits in the firmware-work queue (R13, Table 14.5), and so does a
registration while there is no entropy for its SALT (R464). `work` is the
command's label (0 register, 1 deregister, 2 deallocate) and argument. -/
def mapCommand (s : State) (entry sess : Nat) (ready : State → Bool) (work : Nat × List Nat) (run : State → State) : State :=
  let c := cmdKey entry sess
  if (cmdStat s c).state = 1 then s
  else
    let t := cmdRun s c
    if ready t then run t
    else { t with dic := { t.dic with work := t.dic.work ++ [(work.1, sess, work.2)] } }

/-- REGISTER_REGION_CMD: command 0x2110.09; it commits the edit shadow, which no session owns afterwards (R55). -/
def doRegisterRegionCmd (sess : Nat) (s : State) : State :=
  if !awake s then s
  else
    let g := regValues s
    let t := mapCommand s (ekey 0x2110 9) sess (fun u => fwUp u && drbgOk u) (0, g) (fun u => registerPair u sess (registrationOf g))
    { t with dic := { t.dic with owners := t.dic.owners.del 1 } }

def execRegisterRegionCmd (sess : Nat) (s : State) : Out3 := .next (doRegisterRegionCmd sess s)

/-- DEREGISTER_CMD: command 0x2111.01 with an rkey. -/
def doDeregisterCmd (sess rkey : Nat) (s : State) : State :=
  if !awake s then s
  else mapCommand s (ekey 0x2111 1) sess fwUp (1, [rkey % 2 ^ 32]) (fun u => deregisterPair u sess (rkey % 2 ^ 32))

def execDeregisterCmd (sess rkey : Nat) (s : State) : Out3 := .next (doDeregisterCmd sess rkey s)

/-- DEALLOCATE_CMD: command 0x2111.04 on the range of 0x2111.02 and .03. -/
def doDeallocateCmd (sess : Nat) (s : State) : State :=
  if !awake s then s
  else
    let e := ent s (ekey 0x2111 2) 0
    let n := ent s (ekey 0x2111 3) 0
    mapCommand s (ekey 0x2111 4) sess fwUp (2, [e, n]) (fun u => deallocPair u sess e n)

def execDeallocateCmd (sess : Nat) (s : State) : Out3 := .next (doDeallocateCmd sess s)

/-- REGION_DRAIN_COMPLETE (R87). -/
def doRegionDrainComplete (i : Fin 16384) (s : State) : State := if !awake s then s else drainDone s i

def execRegionDrainComplete (i : Fin 16384) (s : State) : Out3 := .next (doRegionDrainComplete i s)

/-- The words of an update go into the map. -/
def putWords (s : State) (a : Nat) (ws : List Nat) : State := ws.zipIdx.foldl (fun u w => setMapWord u (a + 8 * w.2) w.1) s

/-- The extent that an address in the extent map belongs to. -/
def extentOfAddr (s : State) (a : Nat) : Option Nat :=
  if s.rd R.TRN_EXTBASE * 2097152 ≤ a ∧ a < s.rd R.TRN_FRMBASE * 2097152 then some ((a - s.rd R.TRN_EXTBASE * 2097152) / 32) else none

/-- Is an update of address `a` held: its extent's third fill after two stale ones is in flight (R110)? -/
def heldUpdate (s : State) (a : Nat) : Bool :=
  match extentOfAddr s a with
  | some e => s.trn.fills.any (fun f => decide (f.extent / 2 = e / 2) && decide (2 ≤ f.staleRuns))
  | none => false

/-- The updates held for extent `e`'s line are accepted once its fill is over (R110). -/
def takeHeld (s : State) (e : Nat) : State :=
  let mine := fun (h : Nat × List Nat) => match extentOfAddr s h.1 with | some x => decide (x / 2 = e / 2) | none => false
  (s.trn.held.filter mine).foldl (fun t h => putWords t h.1 h.2) { s with trn := { s.trn with held := s.trn.held.filter (fun h => !mine h) } }

/-- TRN_UPDATE: the update port (R107, Table 3.13). -/
def doTrnUpdate (s : State) : State :=
  if !awake s ∨ !s.running 25 then s
  else
    let a := s.rd R.TRN_UPDADDRL_ADDR * 8 + s.rd R.TRN_UPDADDRH_ADDR * 2 ^ 32
    let n := 2 ^ s.rd R.TRN_UPDCTL_SIZE
    if a % (8 * n) ≠ 0 ∨ mapEnd s * 2097152 < a + 8 * n then s.wr R.TRN_UPDSTAT_UPDREFUSED 1
    else
      let ws := (List.range n).map (fun j => s.rd R.TRN_UPDDATA (2 * j) + 2 ^ 32 * s.rd R.TRN_UPDDATA (2 * j + 1))
      let t := (s.wr R.TRN_UPDSTAT_UPDREFUSED 0).wr R.TRN_UPDSTAT_UPDBUSY 1
      let t : State := if heldUpdate s a then { t with trn := { t.trn with held := t.trn.held ++ [(a, ws)] } } else putWords t a ws
      { t with trn := { t.trn with updq := t.trn.updq ++ [.port] } }

def execTrnUpdate (s : State) : Out3 := .next (doTrnUpdate s)

/-- Has every request that translated with the value before an update left Place (R108)? A held update of the port is not accepted
yet (R110). -/
def updOver (s : State) : Upd → Bool
  | .port => s.trn.held.isEmpty
  | .free p n => !s.xpt.reqs.any (fun r => r.id < n && r.stage = .place && r.kind = .read && r.parts.any (fun x =>
      x.spage = p && (x.st = .todo || x.st = .fetching)))

/-- The oldest update that can be is complete (R108); a page that was taken out leaves its frame. -/
def updateOver (s : State) : State :=
  match s.trn.updq.find? (updOver s) with
  | none => s
  | some u =>
    let t : State := { s with trn := { s.trn with updq := s.trn.updq.erase u } }
    match u with
    | .port => if t.trn.updq.contains .port then t else t.wr R.TRN_UPDSTAT_UPDBUSY 0
    | .free p _ => retryDeallocs (freePage t p)

/-- TRN_UPDATE_COMPLETE (R108): what waited for a frame's group goes on. -/
def doTrnUpdateComplete (s : State) : State := if awake s then retryWaiting (updateOver s) else s

def execTrnUpdateComplete (s : State) : Out3 := .next (doTrnUpdateComplete s)

/-- HOPPER_DEADLINE: the lines whose DEADLINE has passed are posted (R109). -/
def doHopperDeadline (s : State) : State :=
  if !awake s then s
  else showHopper { s with trn := { s.trn with
    hopper := s.trn.hopper.keepV (fun t => !decide (s.rd R.TRN_HOPCFG_DEADLINE ≤ s.now - t)) } }

def execHopperDeadline (s : State) : Out3 := .next (doHopperDeadline s)

/-- TRN_INVAL_L1 and TRN_INVAL_L2 (R111). -/
def doTrnInvalL1 (s : State) : State := if !awake s then s else clearL1 s (s.rd R.TRN_INVAL_PORTS)
def execTrnInvalL1 (s : State) : Out3 := .next (doTrnInvalL1 s)
def doTrnInvalL2 (s : State) : State := if !awake s then s else clearL2 s
def execTrnInvalL2 (s : State) : Out3 := .next (doTrnInvalL2 s)

/-- SECOND_LEVEL_FILL_RETURN: installed, or discarded; a stale fill is reissued, the third in a row with updates held and
event 0x14E0 (R110). -/
def doSecondLevelFillReturn (e : Nat) (s : State) : State :=
  match s.trn.fills.find? (fun f => f.extent / 2 = e / 2) with
  | none => s
  | some f =>
    let rest := s.trn.fills.filter (fun x => x.extent / 2 ≠ e / 2)
    let t : State := { s with trn := { s.trn with fills := rest } }
    if f.dropped then takeHeld t e
    else if f.stale then
      let t := t.bump C.TRN_STALEFILL
      let t : State := { t with trn := { t.trn with fills := rest ++ [{ f with stale := false, staleRuns := f.staleRuns + 1 }] } }
      if f.staleRuns + 1 = 2 then raise t 0x14E0 [f.extent] else t
    else takeHeld (l2Install t f.extent f.streaming) e

def execSecondLevelFillReturn (e : Nat) (s : State) : Out3 := .next (doSecondLevelFillReturn e s)

/-- TRN_AGE_TICK: every tag's age rises by 1 and stops at 3, unless FREEZE (R105). -/
def doTrnAgeTick (s : State) : State :=
  if !awake s ∨ s.on R.TRN_AGE_FREEZE then s
  else { s with trn := { s.trn with l2 := s.trn.l2.mapV (fun x => { x with age := min 3 (x.age + 1) }) } }

def execTrnAgeTick (s : State) : Out3 := .next (doTrnAgeTick s)

end Sys2Proof.Machine
end

