-- ==== Sys2Proof/Machine/NorFlash.lean ====
section
/-! DEFINITION. The bytes of keeper flash (R359). -/

namespace Sys2Proof.Machine

/-! ## Bytes -/

/-- A byte of keeper flash; an unlisted byte is erased. -/
def kbyte (s : State) (off : Nat) : Nat := s.kpf.flash.get off 0xFF

/-- `n` bytes from `off`. -/
def kbytes (s : State) (off n : Nat) : List Nat := (List.range n).map (fun i => kbyte s (off + i))

/-- A little-endian number of `n` bytes. -/
def kle (s : State) (off n : Nat) : Nat := leNat (kbytes s off n)

/-- Program bytes: flash programming only clears bits (log entry 15); the prefetch buffer and the branch cache are cleared
(R361). -/
def kprog (s : State) (off : Nat) (bs : List Nat) : State :=
  let f := (bs.zipIdx).foldl
    (fun (m : Sparse Nat) p => m.put (off + p.2) (Nat.land (m.get (off + p.2) 0xFF) (p.1 % 256)) 0xFF) s.kpf.flash
  { s with kpf := { s.kpf with flash := f, prefetch := [], branch := [] } }

/-- Erase `n` bytes from `off`. -/
def kerase (s : State) (off n : Nat) : State :=
  { s with kpf := { s.kpf with
      flash := s.kpf.flash.keep (fun k => !(decide (off ≤ k) && decide (k < off + n))), prefetch := [], branch := [] } }

/-- KPF_QSTAT shows the queue and the oldest completion (Table 11.14). -/
def showKpf (s : State) : State :=
  let c := s.kpf.done.headD (0, 0)
  (((s.wr R.KPF_QSTAT_VALID (b2n !s.kpf.done.isEmpty)).wr R.KPF_QSTAT_DEPTH s.kpf.queue.length).wr
    R.KPF_QSTAT_STATUS c.2).wr R.KPF_QSTAT_TAG c.1

/-- ASCII bytes of a text of the spec. -/
def ascii (t : String) : List Nat := t.toList.map Char.toNat

/-- The keeper defect list gains an entry: channel, die, block, cause (Table 11.10), at the first erased place. -/
def defectAppend (s : State) (ch die block cause : Nat) : State :=
  let free := (List.range 65536).find? (fun i => (List.range 4).all (fun j => !s.kpf.flash.has (0xC0000 + 4 * i + j)))
  match free with
  | some i => kprog s (0xC0000 + 4 * i) (leBytes (ch * 2 ^ 27 + die * 2 ^ 22 + block % 16384 * 2 ^ 8 + cause % 256) 4)
  | none => s

/-- The defect list's entries, each (channel, die, block). -/
def defects (s : State) : List (Nat × Nat × Nat) :=
  ((List.range 65536).takeWhile (fun i => (List.range 4).any (fun j => s.kpf.flash.has (0xC0000 + 4 * i + j)))).map
    (fun i => let w := kle s (0xC0000 + 4 * i) 4; (bits w 27 5, bits w 22 5, bits w 8 14))

end Sys2Proof.Machine
end

