-- ==== Sys2Proof/Machine/Areas.lean ====
section
/-! DEFINITION. TWN's log area, TIE's charge area and the checkpoint slots as bytes of tier D (Tables 6.11, 6.12, 7.6 and 14.3), for
the buffers of firmware that name them and the cores' reads. -/

namespace Sys2Proof.Machine

/-- Byte `o` of 64-bit words. -/
def wordsByte (ws : List Nat) (o : Nat) : Nat := bits (ws.getD (o / 8) 0) (o % 8 * 8) 8

/-- The pair record: its first five words (Table 6.11). -/
def pairWords (s : State) : List Nat :=
  let count := fun m => (s.log.dir.filter (fun e => e.2.mode = m)).length
  [s.log.pairId, s.log.pgen,
   s.log.lastState * 2 ^ 61 + s.log.role * 2 ^ 59 + s.rd R.TWN_CFG_SIDE * 2 ^ 58 + s.log.level * 2 ^ 54,
   count 1 * 2 ^ 32 + count 2, freeRec s]

/-- A directory entry (Table 6.12). -/
def dirWord (x : LogEnt) : Nat := x.mode * 2 ^ 30 + b2n x.mapchg * 2 ^ 29 + x.record

/-- Byte `o` of a pool record: the CHANGED bitmap, then the SENT bitmap. -/
def recByte (s : State) (r o : Nat) : Nat :=
  match s.log.dir.seek (fun e => e.2.mode = 1 && e.2.record = r) with
  | some e => if o < 64 then bits e.2.changed (8 * o) 8 else bits e.2.sent (8 * (o - 64)) 8
  | none => 0

/-- Byte `o` of the log area (Table 6.11). -/
def logByte (s : State) (o : Nat) : Nat :=
  if o < 64 then wordsByte (pairWords s) o
  else if o < 0x1000 then 0
  else if o < 0x1800 then (List.range 8).foldl (fun a k => if s.log.regChg.contains (8 * (o - 0x1000) + k) then a + 2 ^ k else a) 0
  else if o < 0x80000 then 0
  else if o < 0x100000 then bits (s.log.pendList.getD ((o - 0x80000) / 8) (2 ^ 64 - 1)) (o % 8 * 8) 8
  else if o < 0x200000 then
    match s.log.fences[(o - 0x100000) / 16]? with
    | some e => wordsByte [e.1 * 2 ^ 28, e.2.1 * 2 ^ 16] (o % 16)
    | none => 0
  else if o < logRecOff s 0 then bits (dirWord (logAt s ((o - 0x200000) / 4))) (o % 4 * 8) 8
  else recByte s ((o - logRecOff s 0) / 128) ((o - logRecOff s 0) % 128)

/-- The free record that follows record `i` on the free list, which runs upward through the free records (Table 7.6). -/
def nextFreeRec (s : State) (i : Nat) : Nat := (s.tie.recs.firstFree (i + 1) (s.tie.recs.length + 1)).getD 0

/-- Byte `o` of charge record `i` (Table 7.6). -/
def chargeRecByte (s : State) (i o : Nat) : Nat :=
  match s.tie.recs.find? i with
  | some r =>
    if o < 128 then (List.range 8).foldl (fun a k => if r.tenants.contains (8 * o + k) then a + 2 ^ k else a) 0
    else if o = 128 then b2n r.twin else 0
  | none => if 132 ≤ o ∧ o < 136 then bits (nextFreeRec s i) (8 * (o - 132)) 8 else 0

/-- The QUOTA tenants, ascending, with the entries of their rings (R227). -/
def ringSizes (s : State) : List (Nat × Nat) :=
  (s.tie.tenants.filter (fun e => e.2.quota)).map (fun e => (e.1, e.2.dquota + s.rd R.TIE_QOVER_QOVER))

/-- The quota ring entry in slot `k` of the ring section: a ring starts behind those of the QUOTA tenants numbered below (R227), its head
in its first slot. -/
def ringSlot (s : State) : List (Nat × Nat) → Nat → Nat
  | [], _ => 0
  | (t, n) :: rest, k =>
    if k < n then
      match (s.tie.rings.get t [])[k]? with
      | some e => e.extent * 2 ^ 37 + e.tick * 2 ^ 21
      | none => 0
    else ringSlot s rest (k - n)

/-- Byte `o` of the charge area (Table 7.6). -/
def chargeByte (s : State) (o : Nat) : Nat :=
  let recs := groupsOf (8 * dgroups s) * 2097152
  let rings := recs + groupsOf (256 * dgroups s) * 2097152
  if o < recs then
    match s.tie.groups.find? (o / 8) with
    | some g => bits (2 ^ 63 + g.extent * 2 ^ 36 + g.seen * 2 ^ 20) (o % 8 * 8) 8
    | none => 0
  else if o < rings then chargeRecByte s ((o - recs) / 256) ((o - recs) % 256)
  else bits (ringSlot s (ringSizes s) ((o - rings) / 8)) (o % 8 * 8) 8

/-- A checkpoint's header up to its CRC (Table 14.3). -/
def ckHeader (x : Checkpoint) : List Nat :=
  let body := ascii "CSFNCKPT" ++ leBytes x.seq 8 ++ leBytes x.resume 8 ++ leBytes x.fwid 8 ++ [x.cluster, x.ranges.length] ++
    List.replicate 6 0 ++ leBytes x.evtseq 8 ++ List.replicate 16 0 ++ x.ranges.flatMap (fun r => leBytes r.1 8 ++ leBytes r.2 8)
  body ++ List.replicate (4088 - body.length) 0

/-- What follows a checkpoint's header: the SRAM image, then the ranges (R428). -/
def ckPayload (x : Checkpoint) : List Nat :=
  memRead x.sram 0 4194304 ++ x.ranges.flatMap (fun r => memRead x.payload r.1 r.2)

/-- Where checkpoint slot `k` begins (R428). -/
def ckAddr (s : State) (k : Nat) : Nat := (s.rd R.CPX_CKBASE_CKBASE + k * (s.rd R.CPX_CKSIZE_CKSIZE / 2)) * 2097152

/-- Byte `o` of a checkpoint slot. -/
def ckByte (x : Checkpoint) (o : Nat) : Nat :=
  if o < 4088 then (ckHeader x).getD o 0
  else if o < 4096 then bits (crc64 (ckHeader x ++ ckPayload x)) (8 * (o - 4088)) 8
  else (ckPayload x).getD (o - 4096) 0

/-- The bytes that a checkpoint takes. -/
def ckLen (x : Checkpoint) : Nat := 4096 + 4194304 + x.ranges.foldl (fun a r => a + r.2) 0

/-- The byte at tier D address `a` where it lies in one of the areas. -/
def areaByte (s : State) (a : Nat) : Option Nat :=
  let within := fun (base size : Nat) => decide (base * 2097152 ≤ a) && decide (a < (base + size) * 2097152)
  if within (s.rd R.TWN_LOGBASE_LOGBASE) (s.rd R.TWN_LOGSIZE_LOGSIZE) then some (logByte s (a - s.rd R.TWN_LOGBASE_LOGBASE * 2097152))
  else if within (s.rd R.TIE_CHGBASE_BASE) (s.rd R.TIE_CHGSIZE_SIZE) then some (chargeByte s (a - s.rd R.TIE_CHGBASE_BASE * 2097152))
  else
    match s.cpx.slots.seek (fun e => e.2.addr = ckAddr s e.1 && decide (e.2.addr ≤ a) && decide (a < e.2.addr + ckLen e.2)) with
    | some e => some (ckByte e.2 (a - e.2.addr))
    | none => none

/-- Bytes of tier D as a buffer in the reserved groups reads them. -/
def areaRead (s : State) (a n : Nat) : List Nat :=
  (List.range n).map (fun i => (areaByte s (a + i)).getD (memGet s.dram.data (a + i)))

end Sys2Proof.Machine
end

