-- ==== Sys2Proof/Machine/GovOps.lean ====
section
/-! DEFINITION. The governor (R248 to R257): the dirty set's count, the ceiling and the limit, its states, the required cleaning,
and the service gate's conditions (R269). -/

namespace Sys2Proof.Machine

/-! ## Counting (R248) -/

/-- Pages that are counted at all times: root map and pending list. -/
def govBase : Nat := 640

/-- One walk of the frame table counts GOV_DIRTY anew. -/
def recountDirty (s : State) : State :=
  s.wr R.GOV_DIRTY (govBase + (s.maps.frames.filter (fun f => f.2.counted && decide (512 ≤ f.1))).length)

/-! ## The ceiling (R251, R253), in exact integers: energy in 1 / (2 × 10^15) J, power in 1/1,000 W -/

/-- Modules that are enabled and not FAILED. -/
def govModules (s : State) : List Nat :=
  (List.range 8).filter (fun m => s.rbit R.GOV_CTL_MODEN m && !s.rbit R.GOV_STAT_FAILED m)

/-- The capacitance that counts for a module, mF: with RBLEED 0, CNOM (R252). -/
def moduleCap (s : State) (m : Nat) : Nat :=
  if s.rd R.GOV_RBLEED_RBLEED = 0 then s.rd R.GOV_CNOM_CNOM else min (s.rd R.GOV_CMEAS m) (s.rd R.GOV_CNOM_CNOM)

/-- Energy above VCUT of module `m` at `v` mV, with capacitance `c` mF and factors `k` (1/1,000) and ESEFF. -/
def moduleEnergy (s : State) (c v k : Nat) : Nat :=
  let cut := s.rd R.GOV_VCUT_VCUT
  if cut < v then c * k * (v * v - cut * cut) * s.rd R.GOV_ESEFF_ESEFF else 0

/-- EAVAIL. -/
def govEnergy (s : State) : Nat :=
  (govModules s).foldl (fun a m =>
    a + moduleEnergy s (moduleCap s m) (s.rd R.GOV_VMOD m - s.rd R.GOV_ERR_VERR) (1000 - s.rd R.GOV_ERR_CERR)) 0

/-- P and R, derated; a measurement of 0 is none. -/
def govPower (s : State) : Nat := max (s.rd R.GOV_SAVEPWR_SAVEPWR) (s.rd R.GOV_PMEAS) * (1000 + s.rd R.GOV_RATE_PDERATE)
def govRate (s : State) : Nat :=
  let r := s.rd R.GOV_RATE_RATEPROG
  (if s.rd R.GOV_RMEAS = 0 then r else min r (s.rd R.GOV_RMEAS)) * (1000 - s.rd R.GOV_RATE_RDERATE)

/-- T × R in image bytes, as a fraction: numerator and denominator. R is in 10^5 bytes per second per unit. -/
def govWrite (s : State) : Nat × Nat :=
  let p := govPower s
  let num := (govEnergy s - s.rd R.GOV_RESERVE_RESERVE * 2000000000000000) * 1000000 - s.rd R.GOV_TFIX_TFIX * p * 2000000000000000
  (num * govRate s * 100000, 2000000000000000000 * p)

/-- X = 1198080 / 1015808 image bytes per dirty byte. -/
def govX (n d : Nat) : Nat := n * 1015808 / (d * 1198080)

/-- C of R253 in bytes, and whether ERASED limits it below T × R / X. -/
def govCeiling (s : State) : Nat × Bool :=
  let w := govWrite s
  let c := min (govX w.1 w.2) (s.rd R.GOV_CAP_CAP * 2 ^ 30)
  let er := govX (s.rd R.SAV_ERASED_MIB * 1048576) 1
  (min c er, decide (er < govX w.1 w.2))

/-- DIRTYFRAC and CLEANRATE of the row that GOV acts on. -/
def govFrac (s : State) : Nat :=
  match s.gai.inForce.find? 21 with | some r => r.dirtyfrac | none => R.GAI_ROW_DIRTYFRAC.dflt 2
def govClean (s : State) : Nat :=
  match s.gai.inForce.find? 21 with | some r => r.cleanrate | none => R.GAI_ROW_CLEANRATE.dflt 2

/-! ## States (Table 8.2) -/

/-- D in pages, and MARGIN and MIRRES in pages. -/
def govD (s : State) : Nat := s.rd R.GOV_DIRTY + s.rd R.GOV_OUT
def marginPages (s : State) : Nat := s.rd R.GOV_MARGIN_MARGIN * 256
def mirresPages (s : State) : Nat := s.rd R.GOV_MARGIN_MIRRES * 256

/-- The state: 0 OPEN, 1 MIRROR, 2 HELD, 3 SAVE. -/
def govState (s : State) : Nat :=
  let d := govD s
  let l := s.gov.limit / 4096
  if s.gov.ceil / 4096 < d then 3
  else if l < d + marginPages s then 2
  else if l < d + marginPages s + mirresPages s then 1
  else 0

/-- The required cleaning in GB/s: linear from CLEANRATE at LO to 60 at HI, rounded down (DESIGN CHOICE, log entry 25). -/
def cleanReq (s : State) (st : Nat) : Nat :=
  let d := govD s
  let l := s.gov.limit / 4096
  let lo := s.rd R.GOV_CLEAN_LO
  let hi := s.rd R.GOV_CLEAN_HI
  let r := govClean s
  if st = 3 then 0
  else if st = 2 ∨ hi * l ≤ 100 * d then 60
  else if 100 * d < lo * l then 0
  else min 60 (r + (60 - r) * (100 * d - lo * l) / ((hi - lo) * l))

/-- A number of pages in MiB. -/
def pagesMib (n : Nat) : Nat := n / 256

/-- GOV acts by its state, except for the governor save: registers, and the events of entries. -/
def govShow (s : State) : State :=
  let old := s.rd R.GOV_STAT_STATE
  let oldMax := s.on R.GOV_STAT_CLEANMAX
  let st := govState s
  let rq := cleanReq s st
  let d := pagesMib (govD s)
  let lm := s.gov.limit / 1048576
  let cm := s.gov.ceil / 1048576
  let t := ((s.wr R.GOV_STAT_STATE st).wr R.GOV_CLEANREQ_RATE rq).wr R.GOV_STAT_CLEANMAX (b2n (decide (rq = 60)))
  let t := ((t.wr R.GOV_CEILING cm).wr R.GOV_LIMIT lm).wr R.GOV_EAVAIL_J (govEnergy s / 2000000000000000)
  let t := if st = 2 ∧ old ≠ 2 then raise t 0x2000 [d, lm, cm] else t
  let t := if st = 1 ∧ old ≠ 1 then raise t 0x20A0 [d, lm] else t
  if rq = 60 ∧ !oldMax then raise t 0x2060 [d, lm] else t

/-- L from C and the row in force. -/
def govLimit (s : State) : State := { s with gov := { s.gov with limit := s.gov.ceil * govFrac s / 256 } }

/-- GOV computes C and L (R253, R255): with FREEZE set only a lower C is taken, the first computation whatever it holds. -/
def govCompute (s : State) : State :=
  let q := govCeiling s
  let c := if s.on R.GOV_CTL_FREEZE ∧ s.gov.computed then min s.gov.ceil q.1 else q.1
  let t : State := { s with gov := { s.gov with ceil := c, computed := true, erasedLim := q.2 } }
  let w := govWrite s
  let t := if q.2 ∧ !s.gov.erasedLim then
      raise t 0x2540 [s.rd R.SAV_ERASED_MIB * 1048576, w.1 / w.2] else t
  govShow (govLimit t)

/-- A new gait row reaches GOV: L follows at once. -/
def govRow (s : State) : State := govShow (govLimit s)

/-! ## The service gate (R269) -/

/-- GATEMISS: modules read and tested; the dirty set fits under Trot's limit; the twin state serves hosts or the returner is
asked to. -/
def gateMiss (s : State) : Nat :=
  let en := s.rd R.GOV_CTL_MODEN
  let read := (List.range 8).all (fun m => !bit en m || (bit s.gov.readMask m && (decide (s.rd R.GOV_RBLEED_RBLEED = 0) || bit s.gov.testMask m)))
  let trot := s.gov.ceil * s.rd R.GAI_ROW_DIRTYFRAC 2 / 256 / 4096
  let fits := decide (s.rd R.GOV_DIRTY + marginPages s + s.rd R.SAV_GATE_GATEMIN * 262144 ≤ trot)
  let serves := isSpan s || decide (tstate s = 3) || ((tstate s = 4 || tstate s = 5) && isSurvivor s) || s.twn.spanReq
  b2n (!read) + 2 * b2n (!fits) + 4 * b2n (!serves)

/-- Do the conditions of the service gate hold, with FWOK (R269)? -/
def gateOpen (s : State) : Bool := decide (gateMiss s = 0) && s.on R.SAV_GATE_FWOK

/-- SAV_STAT.GATEMISS. -/
def showGate (s : State) : State := s.wr R.SAV_STAT_GATEMISS (gateMiss s)

end Sys2Proof.Machine
end

