-- ==== Sys2Proof/Machine/FarOps.lean ====
section
/-! DEFINITION. The farrier (R325 to R329): grants by precedence, releases, waits, retries, revocation. -/

namespace Sys2Proof.Machine

/-- Activity code of an owner number (R326). -/
def actCode (owner : Nat) : Nat := owner / 128

/-- The instances of an activity code (Table 10.9). -/
def ownerOk (o : Nat) : Bool :=
  match o / 128, o % 128 with
  | 6, i => decide (i < 72) || decide (i = 72)
  | 5, i => decide (i = 0)
  | 4, i => decide (i = 0)
  | 3, i => decide (i < 16)
  | 2, i => decide (i < 32)
  | 1, i => decide (i = 0)
  | _, _ => false

/-- FAR_OWNER of resource `n`. -/
def showFar (s : State) (n : Nat) : State :=
  let t := s.wr R.FAR_OWNER_HELD (b2n (s.far.held.has n)) n
  let t := t.wr R.FAR_OWNER_OWNER (s.far.held.get n 0) n
  t.wr R.FAR_OWNER_WAITERS (s.far.waits.filter (fun w => w.res = n)).length n

/-- May an owner be granted anything now (R329)? -/
def grants (s : State) (owner : Nat) : Bool :=
  !s.far.closed && (decide (s.dev = .serving) || (decide (s.dev = .rising) && decide (5 ≤ actCode owner)))

/-- Of two waits, the one that is granted first: higher activity code, then lower owner number. -/
def firstOf (a b : FarReq) : FarReq :=
  if actCode a.owner < actCode b.owner then b
  else if actCode b.owner < actCode a.owner then a
  else if b.owner < a.owner then b else a

/-- The wait for resource `n` that is granted next. -/
def nextWait (s : State) (n : Nat) : Option FarReq :=
  match s.far.waits.filter (fun w => w.res = n && grants s w.owner) with
  | [] => none
  | w :: ws => some (ws.foldl firstOf w)

/-- One resource is requested: granted when free, else waited for. -/
def farAsk (s : State) (owner n : Nat) : State :=
  if s.far.held.find? n = some owner ∨ s.far.waits.any (fun w => w.res = n && w.owner = owner) then s
  else if !s.far.held.has n ∧ grants s owner then
    showFar { s with far := { s.far with held := s.far.held.ins n owner } } n
  else showFar { s with far := { s.far with waits := s.far.waits ++ [{ res := n, owner, since := s.now }] } } n

/-- A retrying activity asks for its next resource once it holds the last one (R328). -/
def farAskNext : Nat → Nat → State → State
  | 0, _, s => s
  | k + 1, owner, s =>
    if s.far.waits.any (fun w => w.owner = owner) then s
    else match s.far.asking.get owner [] with
    | [] => { s with far := { s.far with asking := s.far.asking.del owner } }
    | n :: ns =>
      farAskNext k owner (farAsk { s with far := { s.far with asking := s.far.asking.ins owner ns } } owner n)

/-- A free resource goes to the wait that precedes. -/
def farGrant (s : State) (n : Nat) : State :=
  if s.far.held.has n then s
  else match nextWait s n with
  | none => showFar s n
  | some w =>
    let t : State := { s with far := { s.far with
      held := s.far.held.ins n w.owner
      waits := s.far.waits.filter (fun x => !(x.res = n && x.owner = w.owner)) } }
    farAskNext 128 w.owner (showFar t n)

/-- A holder releases a resource. -/
def farRelease (s : State) (owner n : Nat) : State :=
  if s.far.held.find? n = some owner then
    farGrant { s with far := { s.far with held := s.far.held.del n } } n
  else s

/-- The rehearsal's owner (R270). -/
def rehearseOwner : Nat := 512

/-- Does an owner hold every resource of a list? -/
def farHolds (s : State) (owner : Nat) (ns : List Nat) : Bool := ns.all (fun n => s.far.held.find? n = some owner)

/-- The resources that an owner holds, ascending. -/
def heldBy (s : State) (owner : Nat) : List Nat := (s.far.held.filter (fun e => e.2 = owner)).map (·.1)

/-- A holder releases all that it holds, and gives up its waits. -/
def farDrop (s : State) (owner : Nat) : State :=
  let mine := heldBy s owner
  let waiting := (s.far.waits.filter (fun w => w.owner = owner)).map (·.res)
  let t : State := { s with far := { s.far with
    held := s.far.held.keepV (· ≠ owner)
    waits := s.far.waits.filter (fun w => w.owner ≠ owner)
    asking := s.far.asking.del owner } }
  (mine ++ waiting).foldl farGrant t

/-- Is a request with a higher activity code waiting for a resource? -/
def higherWaits (s : State) (owner n : Nat) : Bool :=
  s.far.waits.any (fun w => w.res = n && decide (actCode owner < actCode w.owner))

/-- A holder at its release point: it releases the resource where a higher code waits, and requests it again (R327). -/
def farYield (s : State) (owner n : Nat) : State :=
  if higherWaits s owner n then farAsk (farRelease s owner n) owner n else s

/-- Entry to SAVING: every token is revoked, and nothing is granted until the next SERVING (R329). -/
def farRevoke (s : State) : State :=
  let n := (s.far.held.map (·.2)).eraseDups.length
  let all := (List.range 122)
  let t : State := { s with far := { held := [], waits := [], retry := [], asking := [], closed := true } }
  raise (all.foldl showFar t) 0x3080 [n]

/-- The next SERVING: the farrier grants again. -/
def farOpen (s : State) : State := { s with far := { s.far with closed := false } }

end Sys2Proof.Machine
end

