-- ==== Sys2Proof/Machine/LineCode.lean ====
section
/-! DEFINITION. The line code of tier D (R313, R315): the 80 symbols that a DRC stores for a line, and their syndromes. -/

namespace Sys2Proof.Machine

/-- The device's field (R276). -/
def gf (a b : Nat) : Nat := Crypto.gfMul 0x11D a b

/-- A power of α = 2. -/
def gfAlpha (n : Nat) : Nat := Crypto.gfPow 0x11D 2 n

/-- `p(x) * (x - r)`, coefficients from the highest power down. -/
def timesRoot (p : List Nat) (r : Nat) : List Nat :=
  (p ++ [0]).zipWith Nat.xor (0 :: p.map (gf r))

/-- The generator: the product of `x - α^i` for i from 0 to 15 (R313), from the coefficient of x^16 down. -/
def lineGenerator : List Nat := (List.range 16).foldl (fun p i => timesRoot p (gfAlpha i)) [1]

/-- One step of the division by the generator: `r` holds the remainder so far, x^15 first. -/
def divStep (r : List Nat) (b : Nat) : List Nat :=
  let q := Nat.xor (r.headD 0) b
  (r.drop 1 ++ [0]).zipWith (fun x g => Nat.xor x (gf q g)) (lineGenerator.drop 1)

/-- The 16 check symbols of 64 bytes, symbol 64 (the coefficient of x^15) first. -/
def checkSymbols (bytes : List Nat) : List Nat := bytes.foldl divStep (List.replicate 16 0)

/-- The poison pattern P: the check symbols of a poisoned line (R315). -/
def poisonPattern : List Nat :=
  [0xD1, 0x4E, 0x27, 0x9B, 0xB2, 0x65, 0x0C, 0xE8, 0x71, 0x3A, 0xC6, 0x9D, 0x58, 0xF4, 0x23, 0x8F]

/-- Syndrome `i` of 80 symbols: c(α^i), symbol s being the coefficient of x^(79 - s). -/
def syndrome (symbols : List Nat) (i : Nat) : Nat := symbols.foldl (fun a c => Nat.xor (gf a (gfAlpha i)) c) 0

/-- The 16 syndromes that the decoder computes (R313). -/
def syndromes (symbols : List Nat) : List Nat := (List.range 16).map (syndrome symbols)

/-- The 80 symbols that stand in the devices for line `l`: its bytes and their check symbols, or the poison pattern under zero data. An
uncorrectable line is one whose symbols no longer decode: what stands there is not known. -/
def lineSymbols (s : State) (l : Nat) : Option (List Nat) :=
  match lineFault s l with
  | none => let b := dRead s (64 * l) 64; some (b ++ checkSymbols b)
  | some .poison => some (List.replicate 64 0 ++ poisonPattern)
  | some .uncorr => none

/-- Table 10.4: the device of a symbol, and the burst's beats that carry its low and its high four bits. -/
def symbolDevice (sym : Nat) : Nat := sym / 8
def symbolBeats (sym : Nat) : Nat × Nat := (2 * (sym % 8), 2 * (sym % 8) + 1)

end Sys2Proof.Machine
end

