-- ==== Sys2Proof/Machine/FlashOps.lean ====
section
/-! DEFINITION. Store flash (chapter 11): superblocks and members, the open row, decoding with retries and rebuild, threshold
tracking, suspensions, block states, relocation, firmware's rings. -/

namespace Sys2Proof.Machine

/-! ## Geometry (R334, R336, R339, R340) -/

/-- Dies per channel, blocks per die, flash pages per block. -/
def dpc (s : State) : Nat := 2 ^ s.rd R.STF_GEOM_DPCLOG
def bpd (s : State) : Nat := s.rd R.STF_GEOM_BPDM1 + 1
def ppb (s : State) : Nat := s.rd R.STF_GEOM_PPB

/-- Is the geometry outside Table 11.1? -/
def geometryBad (s : State) : Bool :=
  decide (bpd s < 64) || decide (131072 < dpc s * bpd s) || decide (ppb s < 96) || decide (8190 < ppb s) ||
  decide (ppb s % 3 ≠ 0) || decide (2 ^ 48 < rawStore s)

/-- Bits set in a 32-bit mask. -/
def ones (m : Nat) : Nat := ((List.range 32).filter (fun i => bit m i)).length

/-- The member channels of superblock `k`, ascending. -/
def members (s : State) (k : Nat) : List Nat := (List.range 32).filter (fun c => !bit (blkAt s k).retmask c)

/-- Codewords of data in a row of superblock `k`. -/
def rowSize (s : State) (k : Nat) : Nat := 3 * ((members s k).length - 1) * 4

/-- The location of the `n`-th codeword of row `w` of superblock `k`: stripe by stripe, data slot by data slot (the parity
member of stripe p is member p mod N). -/
def rowLoc (s : State) (k w n : Nat) : SLoc :=
  let ms := members s k
  let q := 4 * (ms.length - 1)
  let p := 3 * w + n / q
  let slot := n % q / 4
  let par := p % max 1 ms.length
  { sstate := 1, ch := ms.getD (if slot < par then slot else slot + 1) 0, die := k % dpc s, block := k / dpc s, page := p
    cw := n % 4 }

/-- Is a location within the geometry? -/
def locOk (s : State) (l : SLoc) : Bool :=
  decide (l.die < dpc s) && decide (l.block < bpd s) && decide (l.page < ppb s)

/-- The four anchor blocks (R264): (channel, die, block). -/
def anchors (s : State) : List (Nat × Nat × Nat) :=
  let a := (s.rd R.SAV_ANCHORA_CH, s.rd R.SAV_ANCHORA_DIE, s.rd R.SAV_ANCHORA_BLOCK)
  let b := (s.rd R.SAV_ANCHORB_CH, s.rd R.SAV_ANCHORB_DIE, s.rd R.SAV_ANCHORB_BLOCK)
  [a, (a.1, a.2.1, a.2.2 + 1), b, (b.1, b.2.1, b.2.2 + 1)]

/-! ## Entries that name locations: 3 × space page, 3 × map page + 1 (locator), 3 × locator page + 2 (root) -/

def refLoc (s : State) (r : Nat) : SLoc :=
  match r % 3 with
  | 0 => storeAt s (r / 3)
  | 1 => locatorAt s (r / 3)
  | _ => rootAt s (r / 3)

def setRef (s : State) (r : Nat) (l : SLoc) : State :=
  match r % 3 with
  | 0 => setStore s (r / 3) l
  | 1 => setLocator s (r / 3) l
  | _ => setRoot s (r / 3) l

/-- The entry that names the location with key `k`, if any: the codeword is valid then (R353). -/
def refOf (s : State) (k : Nat) : Option Nat :=
  let hit := fun (e : Nat × SLoc) => e.2.sstate = 1 && locKey e.2 = k
  match s.maps.store.seek hit with
  | some e => some (3 * e.1)
  | none => match s.maps.locator.seek hit with
    | some e => some (3 * e.1 + 1)
    | none => (s.maps.root.seek hit).map (fun e => 3 * e.1 + 2)

/-- Keys of the valid codewords that `p` selects by location. -/
def validKeys (s : State) (p : SLoc → Bool) : List Nat :=
  (((s.maps.store ++ s.maps.locator ++ s.maps.root).filter (fun e => e.2.sstate = 1 && p e.2)).map
    (fun e => locKey e.2)).eraseDups

/-- The relocation list takes locations. -/
def relocAdd (s : State) (ks : List Nat) : State :=
  { s with stf := { s.stf with reloc := s.stf.reloc ++ ks.filter (fun k => !s.stf.reloc.contains k) } }

/-! ## Member blocks and superblocks that end (R348, R352) -/

/-- More than 8 bits set in RETMASK: valid codewords are relocated first, then the superblock is RETIRED. -/
def retireCheck (s : State) (k : Nat) : State :=
  let b := blkAt s k
  if ones b.retmask ≤ 8 ∨ b.state = 7 then s
  else if s.stf.valid.get k 0 = 0 then raise (setBlk s k { b with state := 7 }) 0x3560 [k, b.retmask]
  else relocAdd s (validKeys s (fun l => locSb s l = k))

/-- A member block is retired: RETMASK, the defect list, event 0x3440 + s. -/
def retireMember (s : State) (k ch cause : Nat) : State :=
  let b := blkAt s k
  let t := setBlk s k { b with retmask := bitSet b.retmask ch }
  let t := defectAppend t ch (k % dpc s) (k / dpc s) cause
  retireCheck (raise t (0x3440 + ch) [k % dpc s, k / dpc s, cause]) k

/-! ## Suspension (R345, R346) -/

/-- The superblock whose member on channel `ch`, die `d` is being erased. -/
def erasingOn (s : State) (ch d : Nat) : Option Nat :=
  (s.stf.erasing.seek (fun e => e.1 % dpc s = d && bit e.2 ch)).map (·.1)

/-- ERASING or ERASE_SUSPENDED by the members suspended (Table 11.9). -/
def showErase (s : State) (k : Nat) : State :=
  let st := if s.stf.suspended.get k 0 = 0 then 1 else 2
  if (blkAt s k).state = st then s else setBlk s k { blkAt s k with state := st }

/-- A read reaches a die: it runs, suspending an erase or a program of the die, or none where it has to wait (Table 11.7). -/
def readDie (s : State) (ch d : Nat) : Option State :=
  let n := 32 * ch + d
  let prog := match s.stf.open_ with
    | some r => r.programming && decide (r.sb % dpc s = d) && (members s r.sb).contains ch
    | none => false
  match erasingOn s ch d with
  | some k =>
    if bit (s.stf.suspended.get k 0) ch then some s
    else if s.stf.resting.has n ∨ s.rd R.STF_SUSP_ESUSPMAX ≤ s.stf.esusp.get n 0 then none
    else
      let t : State := { s with stf := { s.stf with
        suspended := s.stf.suspended.ins k (bitSet (s.stf.suspended.get k 0) ch)
        esusp := s.stf.esusp.ins n (s.stf.esusp.get n 0 + 1) } }
      some (showErase (t.bump C.STF_ESUSP) k)
  | none =>
    if !prog ∨ s.stf.phalt.contains n then some s
    else if s.rd R.STF_SUSP_PSUSPMAX ≤ s.stf.psusp.get n 0 then none
    else
      let t : State := { s with stf := { s.stf with
        phalt := s.stf.phalt ++ [n], psusp := s.stf.psusp.ins n (s.stf.psusp.get n 0 + 1) } }
      some (t.bump C.STF_PSUSP)

/-! ## Reading (R338, R342, R355, R356) -/

/-- The wear band of a superblock. -/
def wearBand (s : State) (k : Nat) : Nat :=
  let e := (blkAt s k).erases
  if e < 1000 then 0 else if e < 3000 then 1 else if e < 10000 then 2 else 3

/-- The block class of a location. -/
def blockClass (s : State) (l : SLoc) : Nat := (32 * l.ch + l.die) * 4 + wearBand s (locSb s l)

/-- One level is judged after TRACKN codewords: the offset moves one step toward the direction with more errors. The offset
is kept relative to the calibration value, so MAXOFF bounds it. -/
def judge (max_ : Nat) (o : Int) (a b : Nat) : Int :=
  if a + b < 32 then o
  else if 3 * b < 2 * a then min (max_ : Int) (o + 1)
  else if 3 * a < 2 * b then max (-(max_ : Int)) (o - 1)
  else o

/-- A decoded TLC codeword feeds the tracking of its class (R355). -/
def track (s : State) (l : SLoc) (rd : CwRead) : State :=
  let c := blockClass s l
  let old := s.stf.track.get c (List.replicate 15 0)
  let add := (List.range 15).map (fun i =>
    old.getD i 0 + (if i = 0 then 1 else if i ≤ 7 then rd.above.getD (i - 1) 0 else rd.below.getD (i - 8) 0))
  if add.getD 0 0 < s.rd R.STF_TRACK_TRACKN then { s with stf := { s.stf with track := s.stf.track.ins c add } }
  else
    let s : State := { s with stf := { s.stf with track := s.stf.track.del c } }
    if s.on R.STF_TRACK_FREEZE then s
    else
      let m := s.rd R.STF_TRACK_MAXOFF
      let o := s.stf.offs.get c (List.replicate 8 0)
      let o' := (List.range 8).map (fun i => if i = 0 then o.getD 0 0
        else judge m (o.getD i 0) (add.getD i 0) (add.getD (7 + i) 0))
      let t : State := { s with stf := { s.stf with offs := s.stf.offs.ins c o' } }
      (List.range 8).foldl (fun u i =>
        if (o'.getD i 0).natAbs = m ∧ o.getD i 0 ≠ o'.getD i 0 then raise u 0x3500 [l.die, c % 4, i] else u) t

/-- Read and decode the codeword at a location: 0 OK, 1 REBUILT, 2 UNCORRECTABLE (Table 11.6). -/
def readCw (s : State) (l : SLoc) (rd : CwRead) (slc : Bool) : State × Nat :=
  let t := s.bump C.STF_READS
  let failed := bit (t.rd R.STF_DIEFAIL l.ch) l.die
  let max_ := t.rd R.STF_READ_RETRYMAX
  let t := if failed ∨ rd.retries = 0 then t else t.bump C.STF_RETRIED
  if !failed ∧ rd.retries ≤ max_ then
    let t := if slc then t else track t l rd
    (if 2 ≤ rd.retries then relocAdd t [locKey l] else t, 0)
  else if rd.failing ≠ 0 then
    (raise (t.bump C.STF_LOST) (0x3420 + l.ch) [l.die, l.block, l.page, l.cw, rd.failing], 2)
  else
    (relocAdd (raise (t.bump C.STF_REBUILT) (0x3400 + l.ch) [l.die, l.block, l.page, l.cw]) [locKey l], 1)

/-- A codeword that cannot be rebuilt, by the entry that names it (R357). -/
def lostCw (s : State) (ref : Nat) : State :=
  let p := ref / 3
  if ref % 3 ≠ 0 then dirtyPage 5 (if ref % 3 = 1 then p else 1024 + p) s
  else if (pageFrame s p).pstate = .clean then dirtyFrame s p (pageFrame s p).epoch
  else if !usable s p ∧ isSpan s then
    let q := wantPage { s with tie := { s.tie with fillDirty := s.tie.fillDirty ++ [p] } } p none
    q.1
  else
    let l := storeAt s p
    if l.sstate = 2 then s else raise (setStore s p { l with sstate := 2 }) 0x1D20 [p, l.ch, l.die]

/-- The codeword at a location; an erased place reads as an empty pad. -/
def cwAt (s : State) (l : SLoc) : Codeword :=
  (s.stf.cells.find? (locKey l)).getD { kind := 5, spage := 0, epoch := 0, poison := 0, data := [] }

/-- The metadata words of a codeword (Table 11.3). -/
def metaWords (c : Codeword) : List Nat :=
  [c.kind * 2 ^ 61 + (if c.poison = 0 then 0 else 2 ^ 60) + c.spage * 2 ^ 24, c.epoch * 2 ^ 16, c.poison,
   Crypto.crc32c (cellBytes c.data) * 2 ^ 32]

/-- Metadata as 32 bytes. -/
def metaBytes (c : Codeword) : List Nat := (metaWords c).flatMap (fun w => leBytes w 8)

/-- The bytes of a codeword's data as the lane encrypts them (R465): slot 6 in store superblocks, slot 7 in the save area. -/
def cipherBytes (s : State) (l : SLoc) (c : Codeword) : List Nat :=
  let slot := if inSaveArea s (locSb s l) then 7 else 6
  match s.key.slots.find? slot with
  | some k => if c.kind = 6 then cellBytes c.data else Crypto.xtsEnc k.bytes (slocWord { l with sstate := 0 } / 2 ^ 23) (cellBytes c.data)
  | none => (List.range 4096).map (fun i => Config.unstated 11 [locKey l, i] % 256)

/-- A place of store flash is programmed. -/
def program (s : State) (l : SLoc) (c : Codeword) : State :=
  { s with stf := { s.stf with cells := s.stf.cells.ins (locKey l) c } }.bump C.XTS_ENCUNITS

/-! ## The open row (R340, R341, R343) -/

/-- Rows of a store superblock. -/
def rowsOf (s : State) : Nat := ppb s / 3

/-- The row that takes codewords: the one being filled, or the next row of the lowest OPEN store superblock. -/
def fillRow (s : State) : Option OpenRow :=
  match s.stf.open_ with
  | some r => some r
  | none =>
    (s.maps.blocks.seek (fun e => e.2.state = 3 && decide (s.stf.high.get e.1 0 < rowsOf s))).map
      (fun e => { sb := e.1, row := s.stf.high.get e.1 0, first := s.now })

/-- Is a row full? -/
def rowFull (s : State) (r : OpenRow) : Bool := decide (rowSize s r.sb ≤ r.ents.length)

/-- A codeword goes into the open row's next place: none where no row has room. -/
def rowPut (s : State) (what ref : Nat) (c : Codeword) (source : SLoc) : Option State :=
  match fillRow s with
  | none => none
  | some r =>
    if r.programming ∨ rowFull s r then none
    else
      let e : RowEnt := { what, ref, word := c, loc := rowLoc s r.sb r.row r.ents.length, source }
      let r : OpenRow := { r with ents := r.ents ++ [e], first := if r.ents.isEmpty then s.now else r.first }
      some { s with stf := { s.stf with open_ := some { r with programming := rowFull s r } } }

/-- A page whose write-back was under way when its row was abandoned or failed is DIRTY again. -/
def writebackUndone (s : State) (ref : Nat) : State :=
  match ref % 3 with
  | 0 =>
    match (pageFrame s (ref / 3)).pstate with
    | .cleaning => setPage s (ref / 3) (fun x => { x with pstate := .dirty })
    | .pinned => setPage s (ref / 3) (fun x => { x with pdirty := true })
    | _ => s
  | _ => dirtyPage 5 (ref / 3) s

/-- One codeword of a programmed row is verified: a write-back or a relocation completes (R223, R354). -/
def entDone (s : State) (e : RowEnt) : State :=
  let t := program s e.loc e.word
  match e.what with
  | 1 =>
    match e.ref % 3 with
    | 0 => cleanDone t (e.ref / 3) e.loc
    | _ => (setRef t e.ref e.loc).bump C.TIE_CLEANED
  | 2 =>
    let t := t.bump C.STF_RELOCATED
    let t := if refLoc t e.ref = e.source then setRef t e.ref e.loc else t
    retireCheck t (locSb t e.source)
  | _ => t

/-- The row is programmed and verified: its entries complete; the last row makes the superblock FULL (Table 11.9). -/
def rowDone (s : State) (r : OpenRow) : State :=
  let t := r.ents.foldl entDone { s with stf := { s.stf with open_ := none, phalt := [], psusp := [] } }
  let t : State := { t with stf := { t.stf with high := t.stf.high.ins r.sb (r.row + 1) } }
  let t := t.bump C.STF_ROWS
  if rowsOf t ≤ r.row + 1 then
    let t := setBlk t r.sb { blkAt t r.sb with state := 4 }
    if t.stf.valid.get r.sb 0 = 0 then setBlk t r.sb { blkAt t r.sb with state := 5 } else t
  else t

/-! ## Erasing (R348, R349) -/

/-- Is die `d` erasing, or programming the open row (Table 11.7)? -/
def dieErasing (s : State) (d : Nat) : Bool := s.stf.erasing.any (fun e => decide (e.1 % dpc s = d))
def dieProgramming (s : State) (d : Nat) : Bool :=
  match s.stf.open_ with
  | some r => r.programming && decide (r.sb % dpc s = d)
  | none => false

/-- An erase may start: STALE or SUSPECT, no walk, and its die neither erases nor programs (Table 11.7). -/
def eraseOk (s : State) (k : Nat) : Bool :=
  ((blkAt s k).state = 5 || (blkAt s k).state = 6) && decide (k < superblocks s) && !s.on R.STF_STAT_WALK &&
  !dieErasing s (k % dpc s) && !dieProgramming s (k % dpc s)

/-- The row's program can end: its die does not erase, and no member's program is suspended (Table 11.7). -/
def rowRuns (s : State) (r : OpenRow) : Bool :=
  let d := r.sb % dpc s
  !dieErasing s d && (members s r.sb).all (fun ch => !s.stf.phalt.contains (32 * ch + d))

/-- The erase-start record, then the member erases. -/
def eraseStart (s : State) (k : Nat) : State :=
  let t := setBlk s k { blkAt s k with state := 1 }
  let m := (members t k).foldl bitSet 0
  { t with stf := { t.stf with erasing := t.stf.erasing.ins k m, high := t.stf.high.del k } }

/-- Content of superblock `k` is gone. -/
def wipe (s : State) (k : Nat) : State :=
  { s with stf := { s.stf with cells := s.stf.cells.keep (fun c => decide (locSb s (keyLoc c) ≠ k)) } }

/-- The erase-done record: FREE, ERASES raised, its content gone (R349). -/
def eraseFree (s : State) (k : Nat) : State :=
  let b := blkAt s k
  let t := (setBlk (wipe s k) k { b with state := 0, erases := min 16383 (b.erases + 1) }).bump C.STF_ERASES
  { t with sav := { t.sav with dirtySb := t.sav.dirtySb.filter (· ≠ k) } }

/-! ## The save area (R262) -/

/-- The store superblock that save superblock `k` is. -/
def saveSb (s : State) (k : Nat) : Nat := s.rd R.SAV_AREA_SBBASE * dpc s + k

/-- Superblocks of the save area hold programmed pages. -/
def sbProgrammed (s : State) (ks : List Nat) : State := { s with sav := { s.sav with dirtySb := (s.sav.dirtySb ++ ks).eraseDups } }

/-- A FREE superblock of the save area that an image or a part of one has been written into is FULL (Table 11.9). -/
def sbFull (s : State) (ks : List Nat) : State :=
  ks.foldl (fun t k => if (blkAt t k).state = 0 then setBlk t k { blkAt t k with state := 4 } else t) (sbProgrammed s ks)

/-- Superblocks of the save area whose content is of no more use are STALE (Table 11.9); one that the restored table calls FREE holds
what was written after the image. -/
def sbStale (s : State) (ks : List Nat) : State :=
  ks.foldl (fun t k => if (blkAt t k).state = 0 ∨ (blkAt t k).state = 4 then setBlk t k { blkAt t k with state := 5 } else t) s

/-- A rehearsal given up leaves its superblock to be erased. -/
def rehearsalLeft (s : State) : State :=
  match s.sav.rehearsal with
  | some _ => let k := saveSb s (s.rd R.SAV_REHEARSE_SB); sbStale (sbProgrammed s [k]) [k]
  | none => s

/-! ## Firmware's rings (R344) -/

/-- Base of channel `ch`'s ring in tier D. -/
def fwRing (s : State) (ch : Nat) : Nat :=
  s.rd R.STF_FWRINGL_ADDR * 2048 + s.rd R.STF_FWRINGH_ADDR * 2 ^ 32 + ch * 2048

def fwHead (s : State) (ch : Nat) : Nat := s.stf.head.get ch 0
def fwTail (s : State) (ch : Nat) : Nat := s.stf.tail.get ch 0

/-- Word `w` of the descriptor in slot `n`. -/
def fwWord (s : State) (ch n w : Nat) : Nat := leNat (dRead s (fwRing s ch + 32 * n + 8 * w) 8)

/-- A descriptor's OP and location (Table 11.4). -/
def descOp (q : Nat) : Nat := bits q 58 6
def descLoc (ch q : Nat) : SLoc :=
  { sstate := 1, ch, die := bits q 53 5, block := bits q 39 14, page := bits q 26 13, cw := bits q 24 2 }

/-- Bytes that an operation delivers. -/
def descBytes (op : Nat) : Nat :=
  match op with
  | 1 => 4128
  | 2 => 18432
  | 3 => 32
  | 4 => 256
  | _ => 0

/-- The refusal of firmware's descriptor in slot `n`; 0 none. -/
def fwRefusal (s : State) (ch n : Nat) : Nat :=
  let q := fwWord s ch n 0
  let op := descOp q
  let l := descLoc ch q
  let buf := bits (fwWord s ch n 1) 0 43
  let arg := fwWord s ch n 2
  if op = 0 ∨ 6 < op then 0x10
  else if !s.running 18 ∧ op ≠ 4 then 0x11
  else if op ≤ 4 ∧ (!inReserved s buf (descBytes op) ∨ buf % 64 ≠ 0) then 0x13
  else if op ≤ 3 ∧ !locOk s l then 0x13
  else if op = 5 ∧ superblocks s ≤ arg % 2 ^ 17 then 0x13
  else if op = 5 ∧ !((blkAt s (arg % 2 ^ 17)).state = 5 ∨ (blkAt s (arg % 2 ^ 17)).state = 6) then 0x11
  else if op = 6 ∧ (dpc s ≤ l.die ∨ bpd s ≤ l.block) then 0x13
  else if op = 6 ∧ !([0, 5, 6, 7].contains (blkAt s (locSb s l)).state) then 0x11
  else 0

/-- Completion word Q3. -/
def fwAnswer (s : State) (ch n status corr retries : Nat) : State :=
  dWrite s (fwRing s ch + 32 * n + 24) (leBytes (2 ^ 63 + status * 2 ^ 48 + corr % 65536 * 2 ^ 32 + retries % 256 * 2 ^ 24) 8)

/-- The head advances. -/
def fwNext (s : State) (ch : Nat) : State :=
  { s with stf := { s.stf with head := s.stf.head.ins ch ((fwHead s ch + 1) % 64) } }

/-- Descriptors at the head that are refused complete at once. -/
def fwSkip : Nat → Nat → State → State
  | 0, _, s => s
  | k + 1, ch, s =>
    if fwHead s ch = fwTail s ch then s
    else
      let x := fwRefusal s ch (fwHead s ch)
      if x = 0 then s else fwSkip k ch (fwNext (fwAnswer s ch (fwHead s ch) x 0 0) ch)

/-- The oldest descriptor of a channel completes with a status. -/
def fwComplete (s : State) (ch status corr retries : Nat) : State :=
  fwSkip 64 ch (fwNext (fwAnswer s ch (fwHead s ch) status corr retries) ch)

/-- Firmware's queued descriptors are abandoned on entry to SAVING (Table 11.6). -/
def fwAbandon : Nat → Nat → State → State
  | 0, _, s => s
  | k + 1, ch, s =>
    if fwHead s ch = fwTail s ch then s else fwAbandon k ch (fwNext (fwAnswer s ch (fwHead s ch) 0x21 0 0) ch)

/-- Reads of a channel serve fills first (R344): does none wait there? -/
def fillsServed (s : State) (ch : Nat) : Bool := s.tie.fills.all (fun e => decide ((storeAt s e.1).ch ≠ ch))

/-- The descriptor at the head of channel `ch` while STF runs, where it has operation `op` and is not refused. -/
def fwFront (s : State) (ch op : Nat) : Option (Nat × SLoc × Nat) :=
  let n := fwHead s ch
  if awake s ∧ s.running 18 ∧ n ≠ fwTail s ch ∧ descOp (fwWord s ch n 0) = op ∧ fwRefusal s ch n = 0 then
    some (fwWord s ch n 0, descLoc ch (fwWord s ch n 0), bits (fwWord s ch n 1) 0 43)
  else none

/-! ## Fills (R237, R239) -/

/-- A request that is parked on page `p` has waited for more than 400 µs since its last bit: event 0x1C00 (R238); the step of Table 7.9
that took long is not known. -/
def lateMiss (s : State) (p : Nat) : State :=
  let late := (s.xpt.reqs.filter (fun r => !r.mst && r.parts.any (fun x => x.spage = p && x.st = .parked))).foldl (fun a r => max a (s.since r.start)) 0
  if 400 < late then raise s 0x1C00 [p, late, Config.payloadCode 0x1C00 0] else s

/-- A page comes in from store flash: installed and released, or discarded where it is no longer waited for. -/
def fillInstall (s : State) (p : Nat) (c : Codeword) (lost : Bool := false) : State :=
  let t : State := { s with tie := { s.tie with fills := s.tie.fills.del p } }
  let t := if (pageFrame t p).pstate = .filling then installPage t p c.data c.poison c.epoch lost else t
  let t := if t.tie.fillDirty.contains p then
      dirtyFrame { t with tie := { t.tie with fillDirty := t.tie.fillDirty.filter (· ≠ p) } } p (pageFrame t p).epoch
    else t
  checkMove (unpark (lateMiss t p) p) (p / 512)

/-- The store copy of a page is lost: every line is poisoned, event 0x1D20 where the entry changes (R223, R239). -/
def fillLost (s : State) (p : Nat) : State :=
  let l := storeAt s p
  let t := if l.sstate = 2 then s
    else raise (setStore s p { l with sstate := 2 }) 0x1D20 [p, l.ch, l.die]
  fillInstall t p { kind := 0, spage := p, epoch := pageEpoch s p, poison := 2 ^ 64 - 1, data := [] } true

end Sys2Proof.Machine
end

