-- ==== Sys2Proof/Machine/TierOps.lean ====
section
/-! DEFINITION. Tier operations beyond a single page: cleaning (R236), pins (Table 7.2), pool eviction (R232), the tenant
table and its rings (R233), tier H (R242 to R244). -/

namespace Sys2Proof.Machine

/-! ## Cleaning (R236, R98) -/

/-- A page may be taken by cleaning: no PROMOTE of its extent is in flight. -/
def cleanable (s : State) (p : Nat) : Bool := decide ((extentAt s (p / 512)).movekind ≠ 1)

/-- Cleaning of an extent is its CLEAN movement. -/
def cleanMove (s : State) (e : Nat) : State :=
  if (extentAt s e).movekind = 0 then
    modExtent { s with tie := { s.tie with moves := s.tie.moves.ins e { pages := 0, start := s.now } } } e
      (fun x => { x with movekind := 3 })
  else s

/-- The copy of a page as a write-back takes it: poisoned lines are written as zeros with their bit (R338). -/
def cleanCopy (s : State) (p f : Nat) : Codeword :=
  { kind := 0, spage := p, epoch := (s.maps.frames.get f {}).epoch, poison := framePoison s f, data := frameCells s f }

/-- The uncorrectable lines of a frame, as Place would treat them (Table 10.6): answers whether a line waits for the twin. -/
def seekFrame (s : State) (p f : Nat) : State × Bool :=
  (List.range 64).foldl (fun (a : State × Bool) n =>
    if lineFault a.1 (64 * f + n) = some .uncorr then
      let q := seekLine a.1 p n 4
      (q.1, a.2 || q.2)
    else a) (s, false)

/-- Cleaning takes a DIRTY page, or a PINNED page with PDIRTY: its copy is read and its write-back issued (Table 7.2). -/
def cleanTake (s : State) (p : Nat) : State :=
  match frameOf s p with
  | none => s
  | some f =>
    let q := seekFrame s p f
    if q.2 then q.1
    else
      let c := cleanCopy q.1 p f
      let t := cleanMove q.1 (p / 512)
      let t := setFrame t f (match (t.maps.frames.get f {}).pstate with
        | .pinned => { t.maps.frames.get f {} with pdirty := false, age := 0 }
        | _ => { t.maps.frames.get f {} with pstate := .cleaning })
      { t with stf := { t.stf with cleanQ := t.stf.cleanQ ++ [(3 * p, c)] } }

/-- Pages that the cleaning walk visits: DIRTY, or PINNED with PDIRTY. -/
def cleanPages (s : State) : List Nat :=
  ((s.maps.frames.filter (fun e => decide (512 * s.rd R.TIE_DATABASE_DATABASE ≤ e.1) &&
    (e.2.pstate = .dirty || (e.2.pstate = .pinned && e.2.pdirty)))).map (·.2.spage)).filter (cleanable s)

/-- The place of a page in the walk: higher CLEANPRI first, then as a clock from the page visited last. -/
def cleanRank (s : State) (p : Nat) : Nat :=
  (3 - polPri (policy s (p / 512))) * 2 ^ 36 + (p + 2 ^ 36 - (s.tie.hand + 1)) % 2 ^ 36

/-- The page that the cleaning walk visits next (R236). -/
def nextClean (s : State) : Option Nat :=
  (cleanPages s).foldl (fun b p => match b with
    | none => some p
    | some q => if cleanRank s p < cleanRank s q then some p else some q) none

/-- Cleaning visits a data page: at its row's CLEANAGE it is taken, below it its AGE rises. Under a DEMOTE every DIRTY page is
cleaned (R230). -/
def cleanVisit (s : State) (p : Nat) : State :=
  let x := pageFrame s p
  let due := decide (polAge (policy s (p / 512)) ≤ x.age) || decide ((extentAt s (p / 512)).movekind = 2)
  if (x.pstate = .dirty ∨ (x.pstate = .pinned ∧ x.pdirty)) ∧ cleanable s p then
    let s := streamLookup s (p / 512)
    if due then cleanTake s p else setPage s p (fun y => { y with age := y.age + 1 })
  else s

/-- The reference of the entry that locates map page `f`: the root for a locator page, else the locator (R98). -/
def mapRef (s : State) (f : Nat) : Nat :=
  if 1024 ≤ f ∧ f < s.rd R.TRN_EXTBASE * 512 then 3 * (f - 1024) + 2 else 3 * f + 1

/-- Cleaning visits a map page. The root map is never cleaned. Clearing PDIRTY in the page that holds its own entry does not
make it dirty again: the copy read holds the cleared bit. -/
def cleanMap (s : State) (f : Nat) : State :=
  let x := frameAt s f
  if 512 ≤ f ∧ f < 512 * mapEnd s ∧ x.pdirty then
    let t : State := { s with maps := { s.maps with frames := s.maps.frames.ins f { x with pdirty := false } } }
    let t := hopWrite (countDirty t true false) (frmAddr t f)
    let t := if frmAddr t f / 4096 = f then t else dirtyPage 5 (frmAddr t f / 4096) t
    { t with stf := { t.stf with cleanQ := t.stf.cleanQ ++
      [(mapRef t f, { kind := 1, spage := f, epoch := 0, poison := 0, data := mapPageCells t f })] } }
  else s

/-! ## Pins (Table 7.2) -/

/-- Resident pages of extent `e` follow the PIN of their row. -/
def repin (s : State) (e : Nat) : State :=
  let pin := polPin (policy s e)
  if !(extentAt s e).ingroup then s
  else (List.range 512).foldl (fun t n =>
    let x := pageFrame t (e * 512 + n)
    match x.pstate, pin with
    | .clean, true => setPage t (e * 512 + n) (fun y => { y with pstate := .pinned, pdirty := false })
    | .dirty, true => setPage t (e * 512 + n) (fun y => { y with pstate := .pinned, pdirty := true })
    | .pinned, false => setPage t (e * 512 + n) (fun y => { y with pstate := if y.pdirty then .dirty else .clean })
    | _, _ => t) s

/-- Every extent with a group follows its row. -/
def repinAll (s : State) : State := s.tie.groups.foldl (fun t g => repin t g.2.extent) s

/-! ## The pool clock (R225, R232) -/

/-- Ticks since extent `e` was last reported. -/
def idleTicks (s : State) (e : Nat) : Nat := (s.tie.tick + 65536 - (extentAt s e).lasttick) % 65536

/-- The visit halves READS and WRITES and clamps LASTTICK so that no age exceeds 32,767. -/
def heatVisit (s : State) (e : Nat) : State :=
  if s.on R.TIE_HEAT_FREEZE then s
  else modExtent s e (fun x => { x with
    reads := x.reads / 2, writes := x.writes / 2
    lasttick := if 32767 < idleTicks s e then (s.tie.tick + 65536 - 32767) % 65536 else x.lasttick })

/-- Pressure eviction starts below LOWATER and stops at HIWATER. -/
def pressure (s : State) : Bool :=
  let free := dataGroups s - s.tie.groups.length
  if free < s.rd R.TIE_LOWATER_LOWATER then true
  else if s.rd R.TIE_HIWATER_HIWATER ≤ free then false
  else s.tie.press

/-- May the pool clock act on extent `e`? -/
def poolExtent (s : State) (e : Nat) : Bool :=
  let r := chargeSet s e
  !polPin (policy s e) && !r.twin && r.tenants.all (fun t => !(tenantAt s t).quota)

/-- Eviction removes every POOL charge and starts the extent's DEMOTE. -/
def evict (s : State) (e : Nat) : State :=
  chargeEmptied ((setCharge s e { tenants := [], twin := false }).bump C.TIE_PEVICT) e

/-! ## Tenants (R233) -/

/-- The words of a tenant entry (Table 7.8). -/
def tenantWords (s : State) (t : Nat) : List Nat :=
  let x := tenantAt s t
  [b2n x.quota * 2 ^ 63 + x.dquota * 2 ^ 40 + dused s t % 2 ^ 23 * 2 ^ 17 + x.parklim * 4,
   x.squota * 2 ^ 37 + salloc s t % 2 ^ 27 * 2 ^ 10,
   x.notsess0 * 2 ^ 48 + x.notsess1 * 2 ^ 32 + parkedOf s t % 65536, 0]

/-- A tenant entry from its words; counts are not taken. -/
def tenantOf (w : List Nat) : Tenant :=
  let g := fun i => w.getD i 0
  { quota := bit (g 0) 63, dquota := bits (g 0) 40 23, parklim := bits (g 0) 2 15, squota := bits (g 1) 37 27
    notsess0 := bits (g 2) 48 16, notsess1 := bits (g 2) 32 16 }

/-- The tenant table with the edit shadow's entries. -/
def tenantShadow (s : State) : Sparse Tenant := s.tie.tenEdit.foldl (fun m e => m.ins e.1 e.2) s.tie.tenants

/-- Σ DQUOTA of the QUOTA tenants of a table. -/
def quotaSum (m : Sparse Tenant) : Nat := (m.filter (fun e => e.2.quota)).foldl (fun a e => a + e.2.dquota) 0

/-- A tenant table takes force: a change of any MODE or DQUOTA rebuilds the quota rings. -/
def takeTenants (s : State) (m : Sparse Tenant) : State :=
  let old := s.tie.tenants
  let changed := (m.map (·.1) ++ old.map (·.1)).any (fun t =>
    let a := old.get t {}
    let b := m.get t {}
    decide (a.quota ≠ b.quota) || decide (a.dquota ≠ b.dquota))
  let t : State := { s with tie := { s.tie with tenants := m, tenPend := none } }
  if changed then t.wr R.TIE_STAT_REBUILD 1 else t

/-- The rings rebuilt by one walk of the group table. -/
def rebuildRings (s : State) : State :=
  let s : State := { s with tie := { s.tie with rings := [] } }
  s.tie.groups.foldl (fun u g =>
    (chargeSet u g.2.extent).tenants.foldl (fun v t =>
      if (tenantAt v t).quota then ringAppend v t g.2.extent else v) u) s

/-- Quota eviction of every QUOTA tenant. -/
def quotaAll (s : State) : State := s.tie.tenants.foldl (fun u e => quotaRun u e.1) s

/-- TIE's own part at its quiet point: a committed tenant table, and pins that follow the policy rows. -/
def tieQuiet (s : State) : State :=
  let t := match s.tie.tenPend with
    | some m => takeTenants s m
    | none => s
  repinAll t

/-! ## Tier H (R242 to R244) -/

/-- PCI_STAT shows the link. -/
def showPci (s : State) (up : Bool) (speed width : Nat) : State :=
  (((s.wr R.PCI_STAT_LINKUP (b2n up)).wr R.PCI_STAT_SPEED (if up then speed else 0)).wr R.PCI_STAT_WIDTH
    (if up then width else 0))

/-- Tier H goes DOWN with the link (R243). -/
def hostDown (s : State) : State := if s.rd R.TIE_STAT_HSTATE = 2 then s else setHState s 2 4

/-- The lend table as its shadow gives it: numbered through the ranges in table order. -/
def lendShadow (s : State) : List (Nat × Nat × Nat) :=
  let g := fun (F : Fld) k => (s.rf.group.find? (F.key k 0)).getD (s.rd F k)
  ((List.range 64).foldl (fun (a : List (Nat × Nat × Nat) × Nat) k =>
    let n := g R.TIE_HPAGES k
    if n = 0 then a else (a.1 ++ [(a.2, n, g R.TIE_HLENDL k + 2 ^ 32 * g R.TIE_HLENDH k)], a.2 + n)) ([], 0)).1

/-- A register key of the lend table. -/
def lendKey (k : Nat) : Bool := keyBlock k = 23 && decide (0x400 ≤ k / 32 % 1048576) && decide (k / 32 % 1048576 < 0x800)

/-- Does firmware or a context still use tier H (R244)? -/
def lendUsed (s : State) : Bool :=
  (List.range 4).any (fun p => let l := s.rd R.XPT_CTXCFG_LOC 0 p; decide (l = 1 ∨ l = 2)) ||
  s.maps.regions.any (fun r => r.2.scratch && (r.2.state = 1 || r.2.state = 2))

end Sys2Proof.Machine
end

