-- ==== Sys2Proof/Machine/LineOps.lean ====
section
/-! DEFINITION. Line reads of tier D: decode outcomes (R314), marking (R317), page policy (R309), uncorrectable lines (R319). -/

namespace Sys2Proof.Machine

/-- The mark of a rank and subchannel: a device 0 to 9, none otherwise. -/
def markOf (s : State) (c rank sub : Nat) : Option Nat :=
  let v := bits (s.rd R.DRC_MARK_MARK 0 c) (4 * (2 * rank + sub)) 4
  if v < 10 then some v else none

/-- Symbols in error. -/
def errCount (e : LineErr) : Nat := e.foldl (fun a x => a + x.2) 0

/-- Does the decoder accept the errors (Table 10.5, outcome 1)? -/
def accepted (mark : Option Nat) (e : LineErr) : Bool :=
  match mark with
  | none => decide (e.length ≤ 1) || decide (errCount e ≤ 2)
  | some d =>
    let o := e.filter (fun x => x.1 ≠ d)
    decide (errCount o ≤ 2) || (decide (o.length ≤ 1) && decide (errCount o ≤ 4))

/-- The outcome of a decode (Table 10.5): what is stored, and the errors of this read. -/
def outcomeOf (mark : Option Nat) (f : Option LineFault) (e : LineErr) : Nat :=
  match f with
  | some .uncorr => 4
  | some .poison => if e.isEmpty then 2 else if accepted mark e then 3 else 4
  | none => if e.isEmpty then 0 else if accepted mark e then 1 else 4

/-- Corrections of the last hour. -/
def recentCes (s : State) (c : Nat) : List Nat := (drcAt s c).ces.filter (fun t => decide (s.now - t < 3600000000))

/-- A device reaches MARKTH (R317). -/
def autoMark (s : State) (c : Nat) (b : Burst) (dev count : Nat) : State :=
  if !s.on R.DRC_ECCCTL_AUTOMARK 0 c ∨ count ≠ s.rd R.DRC_ECCCTL_MARKTH 0 c then s
  else match markOf s c b.rank b.sub with
  | none =>
    let k := 4 * (2 * b.rank + b.sub)
    let m := s.rd R.DRC_MARK_MARK 0 c
    let m := m - bits m k 4 * 2 ^ k + dev * 2 ^ k
    raise (s.wr R.DRC_MARK_MARK m 0 c) (0x2C40 + c) [b.rank, b.sub, dev, count]
  | some d => if d = dev then s else raise s (0x2CA0 + c) [b.rank, b.sub, d, dev]

/-- The devices of a channel with the most corrections, as a mask (event 0x2C00). -/
def worstDevices (s : State) (c : Nat) : Nat :=
  let sum := fun (d : Nat) => ((drcAt s c).corr.filter (fun e => e.1 % 80 = d)).foldl (fun a e => a + e.2) 0
  let top := (List.range 10).foldl (fun a d => max a (sum d)) 0
  (List.range 10).foldl (fun a d => if top ≠ 0 ∧ sum d = top then bitSet a d else a) 0

/-- A correction: counted by line and device (R317); the line is written back by client G through the write queue, and a newer write of it
is never overtaken (R316). -/
def corrected (s : State) (c : Nat) (b : Burst) (e : LineErr) (groom : Bool) : State :=
  let t := s.bump C.DRC_CORRECTED 1 0 c
  let t := setDrc t c { drcAt t c with ces := t.now :: recentCes t c }
  let t := if groom then { t with grm := { t.grm with corrected := t.grm.corrected + 1 } } else t
  let n := (drcAt t c).ces.length
  let t := match e with
    | [x] =>
      let k := 80 * (2 * b.rank + b.sub) + x.1
      let v := (drcAt t c).corr.get k 0 + 1
      autoMark (setDrc t c { drcAt t c with corr := (drcAt t c).corr.ins k v }) c b x.1 v
    | _ => t
  if n = t.rd R.GRM_ADAPT_CETH + 1 then raise t (0x2C00 + c) [c, n, worstDevices t c] else t

/-- The QP whose context lies at tier D byte address `a`, if the context area is in tier D there. -/
def contextAt (s : State) (a : Nat) : Option Nat :=
  let base := s.rd R.XPT_CTXCFG_DGROUP 0 0 * 2097152
  if s.rd R.XPT_CTXCFG_LOC 0 0 ≠ 1 ∧ base ≤ a ∧ a < base + 33554432 ∧ base ≠ 0 then some ((a - base) / 128) else none

/-- Readers as event 0x2C20 labels them. -/
def readerCode : LineReader → Nat
  | .place => 0 | .context => 1 | .cleaning => 2 | .save => 3 | .tread => 4 | .table => 5 | .groom => 6

/-- Does an area of the reserved groups that is in use cover frame `f` (R221, R222)? -/
def reservedUsed (s : State) (f : Nat) : Bool :=
  let meets := fun (a n : Nat) => decide (a < 4096 * f + 4096) && decide (4096 * f < a + n)
  let m := 2097152
  meets (s.rd R.TWN_LOGBASE_LOGBASE * m) (s.rd R.TWN_LOGSIZE_LOGSIZE * m) ||
  (decide (s.rd R.XPT_CTXCFG_LOC 0 0 ≠ 1) && meets (s.rd R.XPT_CTXCFG_DGROUP 0 0 * m) 33554432) ||
  meets (s.rd R.TIE_CHGBASE_BASE * m) (s.rd R.TIE_CHGSIZE_SIZE * m) ||
  (decide (s.rd R.CPX_CMBASE_CMBASE ≠ 0) && meets (s.rd R.CPX_CMBASE_CMBASE * m) (8 * m)) ||
  meets (s.rd R.STF_FWRINGL_ADDR * 2048 + s.rd R.STF_FWRINGH_ADDR * 2 ^ 32) 65536 ||
  meets (s.rd R.DIC_EXTADDRL_ADDR * 32 + s.rd R.DIC_EXTADDRH_ADDR * 2 ^ 32) (32 * s.rd R.DIC_EXTCOUNT_COUNT) ||
  meets (s.rd R.CPX_CKBASE_CKBASE * m) (s.rd R.CPX_CKSIZE_CKSIZE * m) ||
  (List.range (s.rd R.CPX_CKRANGES_NRANGES)).any (fun i =>
    meets (s.rd R.CPX_CKRANGE_ADDRL i * 64 + s.rd R.CPX_CKRANGE_ADDRH i * 2 ^ 32) (s.rd R.CPX_CKRANGE_LEN i)) ||
  s.xpt.qps.any (fun e => decide (e.2.qstate ≠ 0) && meets (e.2.ringframe * 4096) (e.2.ringslots * 4096)) ||
  s.key.queue.any (fun q =>
    let w := fun (i : Nat) => q.getD (2 * i) 0 + q.getD (2 * i + 1) 0 * 2 ^ 32
    let n := bits (w 0) 29 17
    meets (bits (w 1) 0 43) n || meets (bits (w 2) 0 43) n || meets (bits (w 3) 0 43) 16) ||
  s.kpf.queue.any (fun q => meets q.buf q.len)

/-- A frame that holds nothing: free, ABSENT, or outside the areas in use. -/
def unusedFrame (s : State) (f : Nat) : Bool :=
  let g := f / 512
  if f < 512 * mapEnd s then false
  else if g < s.rd R.TIE_DATABASE_DATABASE then !reservedUsed s f
  else match s.tie.groups.find? g with
    | none => true
    | some _ => decide ((s.maps.frames.get f {}).pstate = .absent)

/-- An uncorrectable line, by reader (Table 10.6). -/
def uncorrectable (s : State) (l : Nat) (e : LineErr) (rdr : LineReader) : State :=
  let f := l / 64
  let dev := match e with | [x] => x.1 | _ => 15
  let t := reportUncorr (lineUncorr s l) l (readerCode rdr) dev ((e.map (·.1)).foldl bitSet 0)
  let t := if rdr = .groom then { t with grm := { t.grm with uncorr := t.grm.uncorr + 1 } } else t
  if rdr = .save ∨ rdr = .tread then t
  else if mapLine t l then
    if mapLineDirty t l then writePoison t l 1 else lineSound t l
  else match contextAt t (64 * l) with
  | some i => raise (qpError t i) (0x1060 + pipeOf (qpAt t i).lport) [i, 64 * l]
  | none =>
    if rdr = .groom ∧ unusedFrame t f then
      let q := stripe t (64 * l)
      let u : State := { t with dram := { t.dram with data := memZero t.dram.data (64 * l) 64 } }
      raise (lineSound u l) 0x3040 [q.2, f]
    else if usable t (t.maps.frames.get f {}).spage ∧ f / 512 ≥ t.rd R.TIE_DATABASE_DATABASE then
      (seekLine t (t.maps.frames.get f {}).spage (l % 64) 4).1
    else writePoison t l 2

/-- One line read through the decoder. -/
def readLine (s : State) (l : Nat) (e : LineErr) (rdr : LineReader) : State :=
  let q := stripe s (64 * l)
  let c := q.1
  let b := burstOf s c q.2
  let e := e.filter (fun x => decide (0 < x.2) && decide (x.1 < 10))
  let t := bankAccess (s.bump C.DRC_RDLINES 1 0 c) c b
  match outcomeOf (markOf t c b.rank b.sub) (lineFault t l) e with
  | 0 => t
  | 1 => corrected (wqPut t l false) c b e (rdr = .groom)
  | 2 => t.bump C.DRC_POISONRD 1 0 c
  | 3 => wqPut (t.bump C.DRC_POISONRD 1 0 c) l false
  | _ => uncorrectable t l e rdr

/-! ## Groom rates (R324) -/

/-- Lines of one channel. -/
def channelLines (s : State) : Nat := geometryBytes s / 1024

def grmAt (s : State) (c : Nat) : GrmCh := s.grm.ch.get c {}
def setGrm (s : State) (c : Nat) (g : GrmCh) : State := { s with grm := { s.grm with ch := s.grm.ch.ins c g } }

/-- The floor rate in thousandths of lines per second: lines left over time left to DEADLINE. -/
def floorRate (s : State) (c : Nat) : Nat :=
  let left := channelLines s - (grmAt s c).next
  let dead := s.rd R.GRM_PASS_DEADLINE * 3600000000
  let time := dead - min dead (s.now - s.grm.passStart)
  if time = 0 then left * 1000 else (left * 1000000000 + time - 1) / time

/-- A channel's rate with `gm` as GROOMMUL (Q4.4) and `mul`; step 3 of R32 sets it to the floor. -/
def setRate (s : State) (c gm mul : Nat) : State :=
  let base := channelLines s * 1000 * gm * mul / (16 * 3600 * max 1 (s.rd R.GRM_PASS_PERIOD))
  let fl := floorRate s c
  let rate := if s.gai.redGroom then fl else max fl base
  let g := grmAt s c
  let atFloor := decide (rate = fl)
  let t := setGrm s c { g with rate, mul, atFloor, floorPass := g.floorPass || atFloor }
  if atFloor ∧ !g.floorPass then
    raise t 0x3020 [c, channelLines s - g.next,
      (s.rd R.GRM_PASS_DEADLINE * 3600000000 - min (s.rd R.GRM_PASS_DEADLINE * 3600000000) (s.now - s.grm.passStart)) / 3600000000]
  else t

/-- GRM_STAT from the channels. -/
def showGroom (s : State) : State :=
  let t := s.wr R.GRM_STAT_FLOOR (b2n ((List.range 16).any (fun c => (grmAt s c).atFloor)))
  let t := t.wr R.GRM_STAT_MUL ((List.range 16).foldl (fun a c => max a (grmAt s c).mul) 1)
  let done := (List.range 16).foldl (fun a c => a + (grmAt s c).next) 0
  t.wr R.GRM_STAT_PROGRESS (min 65535 (done * 65536 / max 1 (16 * channelLines s)))

/-- A new gait row's GROOMMUL: every rate at once, mul in force (R324). -/
def groomRow (s : State) (gm : Nat) : State :=
  showGroom ((List.range 16).foldl (fun t c => setRate t c gm (max 1 (grmAt t c).mul)) s)

end Sys2Proof.Machine
end

