-- ==== Sys2Proof/Machine/TwinOps.lean ====
section
/-! DEFINITION. The twin: state and pair record (R199 to R201), the loss of the twin and entry to SOLO (R168, R205), placement
in epoch order (R193 to R195), line repair (R173, R198), movements of both sides (R181, R234), fences (R215, R216). -/

namespace Sys2Proof.Machine

/-! ## State and pair record (R199 to R201) -/

/-- The twin state changes: event 0x1800. SPAN, SOLO, CATCHUP and READY are recorded as the last state. -/
def setTState (s : State) (n : Nat) : State :=
  let old := tstate s
  let t := s.wr R.TWN_STATE_TSTATE n
  let t : State := if 2 ≤ n ∧ s.log.lastState ≠ n then logTouch 0 { t with log := { t.log with lastState := n } } else t
  if old = n then t else raise t 0x1800 [old, n, t.rd R.TWN_STATE_ROLE, t.log.pgen]

/-- The role, in TWN_STATE and in the pair record. -/
def setRole (s : State) (r : Nat) : State :=
  let t := { s with log := { s.log with role := r } }.wr R.TWN_STATE_ROLE r
  if s.log.role = r then t else logTouch 0 t

/-- PAIRID and PGEN of the pair record, shown in TWN_PAIRIDL to TWN_PGENH. -/
def setPair (s : State) (pairId pgen : Nat) : State :=
  let t : State := { s with log := { s.log with pairId := pairId % 2 ^ 64, pgen := pgen % 2 ^ 64 } }
  let u := (t.wr64 R.TWN_PAIRIDL R.TWN_PAIRIDH t.log.pairId).wr64 R.TWN_PGENL R.TWN_PGENH t.log.pgen
  if t.log = s.log then u else logTouch 0 u

/-- Is this device SIDE1, and is it the side that SOLOPREF names (R190)? -/
def mySide (s : State) : Nat := s.rd R.TWN_CFG_SIDE
def preferred (s : State) : Bool := decide (s.rd R.TWN_CFG_SOLOPREF = mySide s)

/-- A blank device that enters SOLO, or SIDE0 of two blank devices, draws PAIRID (R201), as soon as there is entropy (R464). -/
def drawPair (s : State) : State :=
  if s.log.pairId = 0 ∧ drbgOk s then drawn (setPair s (Config.random s.draws % (2 ^ 64 - 1) + 1) s.log.pgen) else s

/-- Is epoch `a` newer than `b` (R194)? -/
def newer48 (a b : Nat) : Bool :=
  let d := (a + 2 ^ 48 - b % 2 ^ 48) % 2 ^ 48
  decide (1 ≤ d) && decide (d < 2 ^ 47)

/-- CHECK of a page: CRC-64 over its 4,096 bytes (Table 6.7). -/
def pageCheck (s : State) (p : Nat) : Nat := crc64 (cellBytes (pageCells s p))

/-! ## Fences (R215) -/

/-- TWN_FENCESTAT. -/
def showFences (s : State) : State := s.wr R.TWN_FENCESTAT_FENCED s.log.fences.length

/-- A page is fenced: fence list, PINNED in tier D, event 0x18E0. None while the list is full. -/
def fencePage (s : State) (p twinEpoch own twin : Nat) : Option State :=
  if !s.log.fences.has p ∧ 65536 ≤ s.log.fences.length then none
  else
    let t := showFences { s with log := { s.log with fences := s.log.fences.ins p (twinEpoch, own, twin) } }
    let t := logTouch (0x100000 + 16 * t.log.fences.length) t
    let t := if usable t p then
        setPage t p (fun x => { x with pdirty := x.pdirty || x.counted, pstate := .pinned })
      else (wantPage t p none).1
    some (raise t 0x18E0 [p, pageEpoch s p, own, twin])

/-- A page leaves the fence list and serves again; its pin follows its row. -/
def unfence (s : State) (p : Nat) : State :=
  if fenced s p then
    let t := logTouch 0x100000 (showFences { s with log := { s.log with fences := s.log.fences.del p } })
    if polPin (policy t (p / 512)) then t
    else setPage t p (fun x => match x.pstate with
      | .pinned => { x with pstate := if x.pdirty then .dirty else .clean, pdirty := false, age := 0 }
      | _ => x)
  else s

/-! ## Requests that wait on the twin -/

/-- The request and part that wait for the answer to tag `tag` in state `st`. -/
def waitingPart (s : State) (st : PartSt) (tag : Nat) : Option (Req × Nat × Part) :=
  (s.xpt.reqs.flatMap (fun r => (r.parts.zipIdx.filter (fun x => x.1.st = st && x.1.tag = tag)).map
    (fun x => (r, x.2, x.1)))).head?

/-- A part of a request changes, and the request may be done. -/
def endPart (s : State) (r : Req) (k : Nat) (f : Req → Req) (x : Part → Part) : State :=
  let r' := f { r with parts := r.parts.mapIdx (fun j y => if j = k then x y else y) }
  settle (setReq s r') r.id

/-- A forwarded part is placed here: the token that its request holds for it returns. -/
def forwardDone (s : State) (r : Req) (k : Nat) (orig : Nat) : State :=
  endPart (if r.tokens = 0 then s else backTokens s 1) r k (fun q => { q with orig, tokens := q.tokens - 1 })
    (fun y => { y with st := .done })

/-- A forwarded part that the home could not execute ends its request (Table 5.3, R175). -/
def forwardFailed (s : State) (r : Req) (k : Nat) : State :=
  endPart s r k (fun q => { q with fate := .operational, data := [] }) (fun y => { y with st := .done })

/-! ## Entry to SOLO (R168, R205) -/

/-- Lines that the part covers in part and that cannot be read become poison, no other copy being at hand (R174). -/
def poisonPart (s : State) (x : Part) : State :=
  match frameOf s x.spage with
  | none => s
  | some f =>
    ((touchedLines x.off x.len).filter (fun n => !(wholeLines x.off x.len).contains n)).foldl (fun t n =>
      if lineFault t (64 * f + n) = some .uncorr then writePoison t (64 * f + n) 0 else t) s

/-- One forwarded part is executed here, as home (R168). -/
def reexecute (s : State) (r : Req) (k : Nat) (x : Part) : State :=
  if !usable s x.spage then
    setReq s { r with parts := r.parts.mapIdx (fun j y => if j = k then { y with st := .todo, redo := true } else y) }
  else
    let s := s.bump C.XPT_FWDREEXEC 1 0 (pipeOf r.lport)
    let s := poisonPart s x
    let lines := (touchedLines x.off x.len).filter (fun n => !(wholeLines x.off x.len).contains n)
    if !(badLines s x.spage x.off x.len).all (fun n => !lines.contains n) ∨ fenced s x.spage then forwardFailed s r k
    else if r.kind = .cas ∨ r.kind = .fadd then
      let old := wordAt s x.spage x.off
      let arg := if r.kind = .fadd then r.swapAdd else r.compare
      let h := placeHome s x.spage x.off (leBytes (atomicNew (decide (r.kind = .fadd)) old arg r.swapAdd) 8)
      forwardDone h.1 r k old
    else forwardDone (placeHome s x.spage x.off ((r.payload.drop x.src).take x.len)).1 r k 0

/-- Every part that waits for the twin goes on under the SOLO conditions, in arrival order (R168). -/
def soloParts (s : State) : State :=
  let ids := s.xpt.reqs.map (·.id)
  ids.foldl (fun t id =>
    match reqAt t id with
    | none => t
    | some r =>
      let t := settle (setReq t { r with parts := r.parts.map (fun x => match x.st with
        | .placed => { x with st := .done }
        | .fetching => { x with st := .todo }
        | _ => x) }) id
      r.parts.zipIdx.foldl (fun u x =>
        if x.1.st = .forwarded then
          match reqAt u id with
          | some r' => reexecute u r' x.2 x.1
          | none => u
        else u) t) s

/-- Map operations that waited for the twin are applied here and marked changed (R86, R205 step 4). -/
def soloMaps (s : State) : State :=
  let ws := s.twn.waits.filter (fun w => w.kind ≠ 4 && w.kind ≠ 7)
  let t : State := { s with twn := { s.twn with waits := s.twn.waits.filter (fun w => w.kind = 4) } }
  ws.foldl (fun u w =>
    let g := fun i => w.words.getD i 0
    match w.kind with
    | 0 =>
      if w.entry % 2 ^ 24 = ekey 0x2111 4 then cmdDone ((extentsOf (512 * g 0) (512 * g 1)).foldl markMapExt u) w.entry
      else
        let v := markMapReg u (g 0)
        if w.entry % 2 ^ 24 = ekey 0x2110 9 then
          let r := regionAt v (g 0)
          regDone ((extentsOf r.sapage r.lenpages).foldl markMapExt v) w.session (g 0) (g 1)
        else cmdDone v w.entry
    | 1 => registerPair u w.session (regionOf w.words)
    | 2 => deregisterPair u w.session (g 0)
    | 3 => deallocPair u w.session (g 0) (g 1)
    | _ =>
      if w.kind = 6 then (extentsOf (512 * g 0) (512 * g 1)).foldl markMapExt u else markMapReg u (g 1)) t

/-- TWIN markers are cleared; what nothing charges any more leaves tier D by this side's decision (R234). -/
def clearTwinMarks (s : State) : State :=
  let es := s.tie.groups.map (fun g => g.2.extent)
  es.foldl (fun t e =>
    let r := chargeSet t e
    if r.twin then chargeEmptied (setCharge t e { r with twin := false }) e else t) s

/-- Movements no longer wait for the twin, and requests parked on pages whose movement was the lead side's miss again. -/
def soloMoves (s : State) : State :=
  let t : State := { s with tie := { s.tie with moves := s.tie.moves.mapV (fun m =>
    { m with twinDone := true, pair := false, byMove := false }) } }
  let t := t.tie.moves.foldl (fun u m => if m.2.selfDone then endMove u m.1 else checkMove u m.1) t
  { t with xpt := { t.xpt with reqs := t.xpt.reqs.map (fun r =>
      { r with parts := r.parts.map (fun x =>
        if x.st = .parked ∧ (pageFrame t x.spage).pstate ≠ .filling then { x with st := .todo } else x) }) } }

/-- What the twin's loss ends at either side: pending set, held messages, lines asked for, exchanges under way. -/
def twinGone (s : State) : State :=
  let t : State := { s with twn := { s.twn with
    pend := [], heldMsgs := [], treads := [], treadPipe := [], repaired := [], fwd := [], pulled := [], resyncWait := []
    aligned := false, reconSent := 0, pairing := 0, cstep := 0, wsub := 0, asyncTags := [],
    alignWait := [], spanReq := false, spanOk := false, spanCmd := false, joinLog := [], hello := none, rx := [], mapq := []
    reconOwn := [], reconPeer := [], reconEndTx := false, reconEndRx := false } }
  let t := if s.twn.spanCmd then (cmdFailFree t (ekey 0x2402 2)).wr R.TWN_CMDSTAT_BUSY 0 else t
  showPend t

/-- Entry to SOLO (R205). `why` labels the cause of event 0x1880; a forced entry is critical (Table 6.9). -/
def enterSolo (s : State) (why : Nat) : State :=
  let waiting := (s.xpt.reqs.filter (fun r => r.parts.any (fun x =>
    x.st = .placed || x.st = .forwarded || x.st = .fetching))).length
  let pages := s.twn.pend.map (·.1)
  let t := drawPair s
  let t := setPair t t.log.pairId (t.log.pgen + 1)
  let t := setTState ((setRole t 1).wr R.TWN_STATE_LEAD 1) 3
  let t := pages.foldl (fun u p => markLog u p false) (mergeSent t)
  let t := twinGone t
  let t := soloMaps (soloParts (clearTwinMarks (soloMoves t)))
  let t : State := { t with twn := { t.twn with joined := false } }
  raiseTo t 0x1880 [Config.payloadCode 0x1880 why, waiting] [] (if why = 3 then 4 else severity 0x1880)

/-- Farrier owner of twin lane `n` (Table 10.9), and the end of its retraining. -/
def laneOwner (n : Nat) : Nat := 768 + 20 + n
def dropLanes (s : State) : State :=
  (List.range 20).foldl (fun u n => if u.rbit R.TWN_PROBSTAT_PROBATION n then farDrop u (laneOwner n) else u) s

/-- What is on the link, in both directions, is gone: a training begins again with FSEQ 0 and full credit. -/
def clearLink (s : State) : State :=
  { s with twn := { s.twn with
    attempt := 0, waitSince := none, wOffer := none, wSwitch := none, passed := 0, adding := 0, hello := none
    ackseq := 4095, peerAck := 4095, nakOut := false, replays := 0, rx := [], flits := false, used := [0, 0, 0, 0], owed := [0, 0, 0, 0]
    txq := [], txSlots := [], sentBuf := [], fseq := 0, ackTold := 4095, nakAt := none, txStop := false } }

/-- The link is down: no width. -/
def visilDown (s : State) : State :=
  let t := clearLink (dropLanes s)
  let t : State := { t with twn := { t.twn with link := 0 } }
  ((t.wr R.TWN_LANESTAT_ACTIVE 0).wr R.TWN_LANESTAT_WIDTH 0).wr R.TWN_PROBSTAT_PROBATION 0

/-- Back to UNPAIRED (Table 6.9). -/
def unpair (s : State) : State := setTState ((twinGone (visilDown s)).wr R.TWN_STATE_LEAD 0) 0

/-- The twin is lost (Table 6.9): SPAN and the survivor enter SOLO; a pairing and the returner are UNPAIRED. `why`: 1 DEPART,
2 silence. -/
def twinLost (s : State) (why : Nat) : State :=
  match tstate s with
  | 2 => enterSolo (visilDown s) why
  | 4 | 5 => if isSurvivor s then enterSolo (visilDown s) why else unpair s
  | 1 => unpair s
  | _ => visilDown s

/-! ## Sending pages -/

/-- The lines of a page that cannot be read, as a poison map. -/
def unreadable (s : State) (p : Nat) : Nat :=
  match usable s p, frameOf s p with
  | true, some f => (List.range 64).foldl (fun a n => if (lineFault s (64 * f + n)).isSome then a + 2 ^ n else a) 0
  | _, _ => pagePoison s p

/-- RESYNC_PAGE of a page as this side holds it, at its epoch (R195, R209): ZERO where it is not resident and its store-map
entry is NONE. Where the pending set has no room it waits (R196). -/
def sendResync (s : State) (p : Nat) (fence : Bool) : State :=
  if !pendRoom s p then { s with twn := { s.twn with resyncWait := s.twn.resyncWait ++ [(p, fence)] } }
  else
    let s := streamLookup s (p / 512)
    let zero := !usable s p && decide ((storeAt s p).sstate = 0)
    let tag := s.twn.nextTag
    let t := withTag s (fun n => .resyncPage n (pageEpoch s p) p zero fence (if zero then 0 else unreadable s p)
      (if zero then [] else cellBytes (pageCells s p)))
    let t := pendAdd t p 1 0
    { t with twn := { t.twn with asyncTags := t.twn.asyncTags ++ [tag] } }

/-- The pending set may have room again: RESYNC_PAGEs that waited leave. -/
def sendWaiting (s : State) : State :=
  if s.twn.resyncWait.isEmpty then s
  else s.twn.resyncWait.foldl (fun u e => sendResync u e.1 e.2) { s with twn := { s.twn with resyncWait := [] } }

/-- RESYNC_PAGEs and ASYNC MIRRORs are still to be sent or to be answered. -/
def exchanging (s : State) : Bool := !s.twn.asyncTags.isEmpty || !s.twn.resyncWait.isEmpty

/-! ## Placement at the receiver (R195, R198) -/

/-- The page of a message that is placed in its page's order. -/
def msgPage (s : State) : Msg → Option Nat
  | .mirror _ _ p _ _ _ => some p
  | .ordered _ _ p _ _ => some p
  | .resyncPage _ _ p _ _ _ _ => some p
  | .forward _ p _ _ => some p
  | .fwdAtomic _ p _ _ _ _ _ => some p
  | .tread _ p _ => if isHome s p then none else some p
  | _ => none

/-- Lines that a placement covers in part: 0 all readable, 1 one is asked of the twin, 2 one is poisoned. A TREAD of a line
that is covered whole is given up (R173). -/
def partLines (s : State) (p off len : Nat) : State × Nat :=
  let whole := wholeLines off len
  let t := giveUpTreads s p whole
  ((touchedLines off len).filter (fun n => !whole.contains n)).foldl (fun (a : State × Nat) n =>
    match frameOf a.1 p with
    | none => a
    | some f =>
      if treading a.1 p n then (a.1, max a.2 1)
      else match lineFault a.1 (64 * f + n) with
        | none => a
        | some .poison => (a.1, 2)
        | some .uncorr => let q := seekLine a.1 p n 4; (q.1, if q.2 then max a.2 1 else 2)) (t, 0)

/-- Data arrives in a page at an epoch: bytes in a line that was repaired at an epoch not older, and in a line that is not
sound and is covered only in part, stay (R198). -/
def placeIn (s : State) (p off : Nat) (bs : List Nat) (ep : Nat) : State :=
  match frameOf s p with
  | none => s
  | some f =>
    let whole := wholeLines off bs.length
    let keep := fun n =>
      s.twn.repaired.any (fun r => r.1 = p && r.2.1 = n && !newer48 ep r.2.2) ||
      (!whole.contains n && (lineFault s (64 * f + n)).isSome)
    let cur := dRead s (4096 * f + off) bs.length
    let data := (bs.zip cur).zipIdx.map (fun x => if keep ((off + x.2) / 64) then x.1.2 else x.1.1)
    let t := placeData s p off data ep
    { t with twn := { t.twn with repaired := t.twn.repaired.filter (fun r => !(r.1 = p && !newer48 r.2.2 ep)) } }

/-- A page that mirror-in places to: MAPPED and usable, or wanted (R91, R237). -/
def readyIn (s : State) (p : Nat) : State × Bool := wantPage (firstWrite s (p / 512)) p none

/-- Where an epoch stands against the page's: the next one, not newer, or past a gap. -/
inductive Order | next | old | gap
  deriving DecidableEq, Repr

/-- R195's three cases. -/
def orderOf (s : State) (p ep : Nat) : Order :=
  if ep = nextEpoch s p then .next else if newer48 ep (pageEpoch s p) then .gap else .old

/-- A MIRROR is placed; false where it has to wait. -/
def tryMirror (s : State) (tag ep p off : Nat) (bs : List Nat) : State × Bool :=
  match orderOf s p ep with
  | .old => (twinSend s (.placed tag ep p 1), true)
  | .gap => (s, false)
  | .next =>
    if !mirrorTokens s 1 then (s, false)
    else
      let q := readyIn s p
      if !q.2 then (q.1, false)
      else
        let w := partLines q.1 p off bs.length
        if w.2 = 1 then (w.1, false)
        else (twinSend (placeIn w.1 p off bs ep) (.placed tag ep p 0), true)

/-- The bytes that an ORDERED places: the forward buffer's, or the atomic's new word (R197). -/
def orderedBytes (x : FwdEnt) (atomic : Option (Nat × Nat)) : List Nat :=
  match atomic with
  | some a => leBytes a.1 8
  | none => x.data

/-- A PAGEPULL for a page, unless one is out. -/
def pullPage (s : State) (p : Nat) : State :=
  if s.twn.pulled.contains p then s
  else withTag { s with twn := { s.twn with pulled := s.twn.pulled ++ [p] } } (fun n => .pagePull n p)

/-- The answer to a forward has come: it leaves the forward buffer and the pending set, and completes the response of R159 where its
request still stands. -/
def forwardEnds (s : State) (tag p : Nat) (good : Bool) (orig : Nat) : State :=
  let t := pendDone { s with twn := { s.twn with fwd := s.twn.fwd.del tag } } p 0 1
  match waitingPart t .forwarded tag with
  | some (r, k, _) => if good then forwardDone t r k orig else forwardFailed t r k
  | none => t

/-- Is there a token for a forwarded part: its request's, else one of mirror-in (R153)? -/
def forwardToken (s : State) (tag : Nat) : Bool :=
  (match waitingPart s .forwarded tag with | some (r, _, _) => decide (r.tokens ≠ 0) | none => false) || mirrorTokens s 1

/-- An ORDERED is placed from the forward buffer; false where it has to wait. Where the buffer holds nothing of it the page comes
whole by PAGEPULL. -/
def tryOrdered (s : State) (tag ep p result : Nat) (atomic : Option (Nat × Nat)) : State × Bool :=
  let orig := (atomic.map (·.2)).getD 0
  if result ≠ 0 then (forwardEnds s tag p false 0, true)
  else match orderOf s p ep with
  | .old => (forwardEnds s tag p true orig, true)
  | .gap => (s, false)
  | .next =>
    match s.twn.fwd.find? tag with
    | none => (pullPage (forwardEnds s tag p true orig) p, true)
    | some x =>
      if !forwardToken s tag then (s, false)
      else
        let q := readyIn s p
        if !q.2 then (q.1, false)
        else
          let bs := orderedBytes x atomic
          let w := partLines q.1 p x.off bs.length
          if w.2 = 1 then (w.1, false)
          else (forwardEnds (placeIn w.1 p x.off bs ep) tag p true orig, true)

/-- A FORWARD at the home: ordered, placed and answered (R159); false where it has to wait. -/
def tryForward (s : State) (tag p off : Nat) (bs : List Nat) : State × Bool :=
  if fenced s p then (twinSend s (.ordered tag (pageEpoch s p) p 2 none), true)
  else if !mirrorTokens s 1 then (s, false)
  else
    let q := readyIn s p
    if !q.2 then (q.1, false)
    else
      let w := partLines q.1 p off bs.length
      if w.2 = 1 then (w.1, false)
      else if w.2 = 2 then (twinSend w.1 (.ordered tag (pageEpoch w.1 p) p 1 none), true)
      else
        let ep := nextEpoch w.1 p
        (twinSend (placeData w.1 p off bs ep) (.ordered tag ep p 0 none), true)

/-- A FWD_ATOMIC at the home (R160). -/
def tryFwdAtomic (s : State) (tag p line word : Nat) (fadd : Bool) (arg swap : Nat) : State × Bool :=
  let off := 64 * line + 8 * word
  if fenced s p then (twinSend s (.ordered tag (pageEpoch s p) p 2 (some (0, 0))), true)
  else if !mirrorTokens s 1 then (s, false)
  else
    let q := readyIn s p
    if !q.2 then (q.1, false)
    else
      let w := partLines q.1 p off 8
      if w.2 = 1 then (w.1, false)
      else if w.2 = 2 then (twinSend w.1 (.ordered tag (pageEpoch w.1 p) p 1 (some (0, 0))), true)
      else
        let old := wordAt w.1 p off
        let new := atomicNew fadd old arg swap
        let ep := nextEpoch w.1 p
        (twinSend (placeData w.1 p off (leBytes new 8) ep) (.ordered tag ep p 0 (some (new, old))), true)

/-- A TREAD (R173, R198): answered from the placed copy; it waits for a page that this side is still filling (R239). -/
def tryTread (s : State) (tag p n : Nat) : State × Bool :=
  if fenced s p then (twinSend s (.treadFail tag p n 3), true)
  else if !usable s p then
    if (extentAt s (p / 512)).estate = 2 then (s, false)
    else (twinSend s (.treadData tag (pageEpoch s p) p n (List.replicate 64 0)), true)
  else match frameOf s p with
    | none => (s, false)
    | some f =>
      match lineFault s (64 * f + n) with
      | some .poison => (twinSend s (.treadFail tag p n 2), true)
      | some .uncorr => (twinSend s (.treadFail tag p n 1), true)
      | none => (twinSend s (.treadData tag (pageEpoch s p) p n (dRead s (4096 * f + 64 * n) 64)), true)

/-- The content of a RESYNC_PAGE goes into the page, whatever its epoch (R195, R209, R211); false where it has to wait for
tokens or a group. -/
def installResync (s : State) (p ep : Nat) (zero : Bool) (poison : Nat) (data : List Nat) : State × Bool :=
  let e := p / 512
  let gone := fun (u : State) => { u with tie := { u.tie with
    fills := u.tie.fills.del p, fillDirty := u.tie.fillDirty.filter (· ≠ p) } }
  if zero then
    let t := if (storeAt s p).sstate = 0 then s else setStore s p {}
    let t := match frameOf t p with
      | none => t
      | some f =>
        let was := usable t p
        let t := setPage (frameSound t f) p (fun _ => { pstate := .absent, epoch := ep })
        let t : State := { t with dram := { t.dram with data := memZero t.dram.data (4096 * f) 4096 } }
        if was then modExtent t e (fun x => { x with rescnt := x.rescnt - 1 }) else t
    let t := gone t
    let t := if (extentAt t e).ingroup ∧ (extentAt t e).rescnt = 0 ∧ (extentAt t e).movekind = 0 then freeExtentGroup t e
      else checkMove t e
    (unpark t p, true)
  else if !mirrorTokens s 1 then (s, false)
  else
    let q := needGroup (firstWrite (chargeOwner (streamLookup s e) e) e) e none 0
    if !q.2 then (q.1, false)
    else match frameOf q.1 p with
      | none => (q.1, false)
      | some f =>
        let t := q.1
        let was := usable t p
        let t := frameFill t f (bytesCells data) poison
        let pin := polPin (policy t e) || fenced t p
        let t := modExtent t e (fun x => { x with rescnt := if was then x.rescnt else x.rescnt + 1 })
        let t := setPage t p (fun _ => { pstate := if pin then .pinned else .dirty, pdirty := pin, age := 0, epoch := ep, spage := p })
        let t : State := { t with twn := { t.twn with treads := t.twn.treads.filter (fun x => x.1 ≠ p)
                                                      repaired := t.twn.repaired.filter (fun x => x.1 ≠ p)
                                                      pulled := t.twn.pulled.filter (· ≠ p) } }
        (unfetch (checkMove (unpark (gone t) p) e) p, true)

/-- Is a page in this side's log? -/
def inLog (s : State) (p : Nat) : Bool :=
  let x := logAt s (p / 512)
  isChanged s p || x.mode = 3 || (x.mode = 1 && bit x.sent (p % 512))

/-- Held messages of a page whose epoch is not newer than the installed one are discarded with what they owe (R195). -/
def dropOld (s : State) (p ep : Nat) : State :=
  let old := fun (m : Msg) => match m with
    | .mirror _ e q _ _ _ => decide (q = p) && !newer48 e ep
    | .ordered _ e q _ _ => decide (q = p) && !newer48 e ep
    | _ => false
  let gone := s.twn.heldMsgs.filter old
  let t : State := { s with twn := { s.twn with heldMsgs := s.twn.heldMsgs.filter (fun m => !old m) } }
  let t := gone.foldl (fun u m => freeSlots u (msgVc u m) (slotCount u m)) t
  gone.foldl (fun u m => match m with
    | .mirror tag e q _ _ _ => twinSend u (.placed tag e q 1)
    | .ordered tag _ q result atomic => forwardEnds u tag q (decide (result = 0)) ((atomic.map (·.2)).getD 0)
    | _ => u) t

/-- A RESYNC_PAGE (R195, R203, R215, R216): FENCE fences the page; under JOIN the survivor fences a page of both logs and
installs the others at its own epoch plus one; else the page is installed, and a fenced one serves again. -/
def tryResync (s : State) (tag ep p : Nat) (zero fence : Bool) (poison : Nat) (data : List Nat) : State × Bool :=
  if fence then
    match fencePage s p ep (pageCheck s p) (crc64 data) with
    | none => (s, false)
    | some t => (twinSend t (.placed tag ep p 0), true)
  else if tstate s = 4 ∧ isSurvivor s ∧ s.twn.cstep = 1 ∧ !fenced s p then
    if inLog s p then
      match fencePage s p ep (pageCheck s p) (crc64 data) with
      | none => (s, false)
      | some t => (twinSend (sendResync t p true) (.placed tag (pageEpoch t p) p 1), true)
    else
      let new := nextEpoch s p
      let q := installResync s p new zero poison data
      if q.2 then (twinSend (markLog (q.1.bump C.TWN_RESYNCRX) p false) (.placed tag new p 0), true) else (q.1, false)
  else
    let q := installResync s p ep zero poison data
    if !q.2 then (q.1, false)
    else
      let t := q.1.bump C.TWN_RESYNCRX
      let t := if fenced t p then raise (unfence t p) 0x19A0 [p, Config.payloadCode 0x19A0 (1 - mySide t), ep] else t
      let t : State := { t with twn := { t.twn with reconPeer := t.twn.reconPeer.del p, reconOwn := t.twn.reconOwn.del p } }
      (dropOld (twinSend t (.placed tag ep p 0)) p ep, true)

/-- One message of a page, tried: answers whether it is consumed. -/
def tryMsg (s : State) (m : Msg) : State × Bool :=
  match m with
  | .mirror tag ep p off _ bs => tryMirror s tag ep p off bs
  | .ordered tag ep p result atomic => tryOrdered s tag ep p result atomic
  | .forward tag p off bs => tryForward s tag p off bs
  | .fwdAtomic tag p line word fadd arg swap => tryFwdAtomic s tag p line word fadd arg swap
  | .tread tag p n => tryTread s tag p n
  | .resyncPage tag ep p zero fence poison data => tryResync s tag ep p zero fence poison data
  | _ => (s, true)

/-- Is a message a RESYNC_PAGE? It passes held messages of its page, which it replaces. -/
def isResync (m : Msg) : Bool := match m with | .resyncPage .. => true | _ => false

/-- An epoch gap: PAGEPULL and event 0x1900, once for a page until its RESYNC_PAGE comes (R195). -/
def gapNotice (s : State) (m : Msg) : State :=
  let note := fun p ep =>
    if orderOf s p ep = .gap ∧ !s.twn.pulled.contains p then
      raise ((pullPage s p).bump C.TWN_EPOCHGAP) 0x1900 [p, pageEpoch s p, ep]
    else s
  match m with
  | .mirror _ ep p _ _ _ => note p ep
  | .ordered _ ep p _ _ => note p ep
  | _ => s

/-- Held messages are tried again, oldest first; one that waits holds the later ones of its page (R186) but a RESYNC_PAGE, and a gap
that it shows is noticed. What is consumed gives its slots back. -/
def retryHeld (s : State) : State :=
  s.twn.heldMsgs.foldl (fun u m =>
    let p := msgPage u m
    if !u.twn.heldMsgs.contains m then u
    else if u.twn.heldMsgs.find? (fun k => k = m || (p.isSome && msgPage u k = p && (!isResync m || isResync k))) ≠ some m then u
    else
      let q := tryMsg u m
      if q.2 then
        freeSlots { q.1 with twn := { q.1.twn with heldMsgs := q.1.twn.heldMsgs.erase m } } (msgVc u m) (slotCount u m)
      else gapNotice q.1 m) s

/-- A message of a page arrives: it is consumed, or held (R186, R195). A RESYNC_PAGE passes held messages, which it replaces. -/
def pageMsg (s : State) (m : Msg) : State :=
  let hold := fun (u : State) => { u with twn := { u.twn with heldMsgs := u.twn.heldMsgs ++ [m] } }
  let p := msgPage s m
  if p.isSome ∧ !isResync m ∧ s.twn.heldMsgs.any (fun k => msgPage s k = p) then hold s
  else
    let q := tryMsg s m
    if q.2 then retryHeld q.1 else gapNotice (hold q.1) m

/-! ## Departure (R204) -/

/-- Host service ends here: QPs in RESET, requests gone (R199). -/
def hostsOff (s : State) : State := resetQps ((s.xpt.qps.map (·.1)).foldl dropReqs s)

/-- DEPART is sent where the link is up, and from SPAN the side is a returner in UNPAIRED with its pending set: what is held is
discarded. The link stays, so that VC2 and VC3 messages still come, until the next training. A side that goes on in SERVING has its
QPs in RESET. Cause: 1 save, 2 reset, 3 LEAVE, 4 reset of TWN. -/
def twinDepart (cause : Nat) (s : State) : State :=
  if tstate s = 0 then s
  else
    let t := retryHeld s
    let t := if t.twn.link = 1 then withTag t (fun n => .depart n cause) else t
    let t : State := { t with twn := { t.twn with departed := true, heldMsgs := [] } }
    if isSpan t then
      let u := setTState ((twinGone (setRole t 2)).wr R.TWN_STATE_LEAD 0) 0
      let u := showPend { u with twn := { u.twn with pend := t.twn.pend } }
      if 3 ≤ cause then hostsOff u else u
    else t

/-- The pending set goes to the pending list of the log area (R196), whose pages count as dirty at all times. -/
def twinWritePending (s : State) : State :=
  { s with log := { s.log with pendList := s.twn.pend.map (·.1) } }

/-! ## Movements of both sides (R181, R234) -/

/-- A MOVE at the other side: the group is taken, or the MOVE refused; ALIGN also frees CLEAN pages outside its mask (R211). -/
def moveIn (s : State) (tag e kind pages : Nat) : State :=
  let s : State := if kind = 3 then { s with twn := { s.twn with aligned := true } } else s
  if kind = 2 then
    if (extentAt s e).ingroup then checkMove (demote s e true) e
    else twinSend s (.moveDone tag e 2 0)
  else
    let s := if kind = 3 then
        ((freeable s e).filter (fun p => !bit pages (p % 512))).foldl takeOut s
      else s
    let q := if (extentAt s e).ingroup then some s else (freeGroup s).map (fun g => takeGroup s e g)
    match q with
    | none => unparkExtent (twinSend s (.moveDone tag e kind 1)) e
    | some t =>
      checkMove (promote (quotaRunAll t e) e pages true) e

/-- MOVEREQ at the lead side (R234). -/
def moveReqIn (s : State) (e kind pages : Nat) : State :=
  let r := chargeSet s e
  if !decides s then s
  else if kind = 2 then chargeEmptied (setCharge s e { r with twin := false }) e
  else
    let t := if r.twin then s else setCharge s e { r with twin := true }
    let q := needGroup t e none pages
    if q.2 then checkMove (promote q.1 e pages false) e else q.1

/-- MOVE_DONE: the other side is done, or has refused (R234, event 0x1D40). -/
def moveDoneIn (s : State) (e kind result : Nat) : State :=
  if s.twn.alignWait.contains e ∧ kind ≠ 2 ∧ !s.tie.moves.has e then
    { s with twn := { s.twn with alignWait := s.twn.alignWait.filter (· ≠ e) } }
  else
    let t := if result = 1 then raise s 0x1D40 [e, kind, Config.unstated 0x1D40 [e, s.now]] else s
    match t.tie.moves.find? e with
    | none => { t with twn := { t.twn with alignWait := t.twn.alignWait.filter (· ≠ e) } }
    | some mv =>
      let refused := decide (result = 1) && decide (kind = 1)
      let mv' : Movement := { mv with twinDone := true, forceOut := mv.forceOut || refused }
      let t : State := { t with tie := { t.tie with moves := t.tie.moves.ins e mv' } }
      let t := if refused then
          let back := fun (x : Part) =>
            if x.spage / 512 = e ∧ x.st = .parked ∧ (pageFrame t x.spage).pstate ≠ .filling then { x with st := .todo } else x
          { t with xpt := { t.xpt with reqs := t.xpt.reqs.map (fun r => { r with parts := r.parts.map back }) } }
        else t
      if mv.selfDone then endMove t e else checkMove t e

/-! ## Line answers (R173, R198, R239) -/

/-- TREAD_DATA: into tier D; a page that is fetched whole is installed with its last line. -/
def treadDataIn (s : State) (ep p n : Nat) (data : List Nat) : State :=
  match treading s p n, frameOf s p with
  | true, some f =>
    let t : State := { s with twn := { s.twn with treads := s.twn.treads.filter (fun x => x ≠ (p, n))
                                                  treadPipe := s.twn.treadPipe.del (64 * p + n) } }
    let t := lineSound (dWrite t (4096 * f + 64 * n) (data.take 64)) (64 * f + n)
    let t := match s.twn.treadPipe.find? (64 * p + n) with
      | some pipe => t.bump C.XPT_TWINREAD 1 0 pipe
      | none => t
    if (pageFrame t p).pstate = .filling then
      if t.twn.treads.any (fun x => x.1 = p) then t
      else retryHeld (fillInstall t p { kind := 0, spage := p, epoch := ep, poison := 0, data := frameCells t f })
    else
      let t := raise t 0x1920 [p, n]
      let t : State := if isHome t p then t else { t with twn := { t.twn with repaired := t.twn.repaired ++ [(p, n, ep)] } }
      retryHeld (unfetch t p)
  | _, _ => s

/-- TREAD_FAIL: the line is poisoned, or the page that was fetched whole is lost (R174, R239). -/
def treadFailIn (s : State) (p n : Nat) : State :=
  match treading s p n, frameOf s p with
  | true, some f =>
    if (pageFrame s p).pstate = .filling then
      retryHeld (fillLost { s with twn := { s.twn with treads := s.twn.treads.filter (fun x => x.1 ≠ p) } } p)
    else
      let t : State := { s with twn := { s.twn with treads := s.twn.treads.filter (fun x => x ≠ (p, n))
                                                    treadPipe := s.twn.treadPipe.del (64 * p + n) } }
      retryHeld (unfetch (writePoison t (64 * f + n) 1) p)
  | _, _ => s

end Sys2Proof.Machine
end

