-- ==== Sys2Proof/Machine/MstOps.lean ====
section
/-! DEFINITION. Millstones, the lower part (chapter 09): modes and status registers, instruction fields and the rules of a grist
list (R285, R286), the space as a millstone reads it, requester contexts and their packets (R295, R296). -/

namespace Sys2Proof.Machine

/-! ## Modes, weights and status (R299, R302) -/

/-- MODE of MST[n]: 0 running, 1 parked by gait, 2 held, 3 stopped. -/
def mstModeOf (s : State) (n : Nat) : Nat :=
  if !s.running (34 + n) then 3 else if s.on R.MST_HOLD_HOLD 0 n then 2 else if mstWeight s n = 0 then 1 else 0

/-- Jobs in slots of MST[n]. -/
def jobsOn (s : State) (n : Nat) : List Job := s.mst.jobs.filter (fun j => j.mst = n)

/-- MODE follows its causes: event 0x2820 + n at parking and resuming. -/
def mstMode (s : State) (n : Nat) : State :=
  let old := s.rd R.MST_STAT_MODE 0 n
  let new := mstModeOf s n
  let t := s.wr R.MST_STAT_MODE new 0 n
  let parked := fun m => decide (m = 1) || decide (m = 2)
  if parked old = parked new then t
  else raise t (0x2820 + n) [Config.payloadCode 0x2820 (4 * old + new), (jobsOn t n).length]

/-- Shared SHA contexts in use. -/
def shaInUse (s : State) : Nat := s.mst.jobs.foldl (fun a j => a + (j.ops.filter (fun o => o.unit = 4)).length) 0

/-- Free buffers of MST[n] (R283). -/
def freeBuffers (s : State) (n : Nat) : Nat := 128 - (jobsOn s n).foldl (fun a j => a + j.window) 0

/-- The status registers but READY. -/
def showMstBase (s : State) : State :=
  let t := (s.wr R.MST_QUEUE_ACTIVE s.mst.jobs.length).wr R.MST_QUEUE_QUEUED s.mst.queue.length
  let t := (t.wr R.MST_CSTAT_FULL (b2n (decide (1024 ≤ s.mst.ring.length)))).wr R.MST_CSTAT_ENTRIES s.mst.ring.length
  let c := s.mst.ring.headD [0, 0, 0, 0]
  let t := ((t.wr R.MST_CENTRYL_INDEX (c.getD 0 0)).wr R.MST_CENTRYL_JSTATE (c.getD 1 0)).wr R.MST_CENTRYL_ERROR (c.getD 2 0)
  let t := (t.wr R.MST_CENTRYH_JSEQ (c.getD 3 0)).wr R.MST_SHASTAT_INUSE (shaInUse s)
  (List.range 8).foldl (fun u n =>
    let u := u.wr R.MST_STAT_SLOTS ((jobsOn u n).foldl (fun a j => bitSet a j.slot) 0) 0 n
    u.wr R.MST_BUF_FREE (freeBuffers u n) 0 n) t

/-- Every job stops at the end of its current instruction; SRAM and slots are cleared; line 0 of each record stands (Table
9.10). -/
def stopMst (p : Nat → Bool) (s : State) : State :=
  showMstBase { s with mst := { s.mst with jobs := s.mst.jobs.filter (fun j => !p j.mst) } }

/-- A reset of every millstone: as above, the queue is empty and every requester QP is in RESET (Table 9.10). -/
def resetMst (s : State) : State := showMstBase { s with mst := { jseq := s.mst.jseq } }

/-! ## Instructions (Table 9.5, Table 9.7) -/

def iOp (w : Nat) : Nat := bits w 120 8
def iP (w : Nat) : Bool := bit w 119
def iS (w : Nat) : Bool := bit w 118
def iAcc (w : Nat) : Bool := bit w 117
def iFl (w : Nat) : Bool := bit w 116

/-- STAGE: REPEAT, PINGPONG, STRIDE in lines. -/
def iRepeat (w : Nat) : Nat := bits w 92 24
def iPing (w : Nat) : Bool := bit w 91
def iStride (w : Nat) : Nat := bits w 51 40

/-- The flags that mean something for an opcode, as a mask of bits 119 to 116. -/
def flagsOf (op : Nat) : Nat :=
  match op with
  | 0x02 => 12 | 0x03 => 12 | 0x04 => 2 | 0x05 => 2 | 0x0B => 4 | 0x0C => 5 | 0x0D => 4 | 0x0E => 4 | _ => 0

/-- The lowest bit of an opcode's fields: every bit below is reserved. -/
def lowBit (op : Nat) : Nat :=
  match op with
  | 0x01 => 51 | 0x02 => 46 | 0x03 => 35 | 0x04 => 23 | 0x05 => 55 | 0x06 => 88 | 0x07 => 83 | 0x08 => 83 | 0x09 => 111
  | 0x0A => 100 | 0x0B => 46 | 0x0C => 35 | 0x0D => 24 | 0x0E => 3 | _ => 116

/-- The SRAM ranges, as written, that an instruction reads beside a destination it combines into, and those that it writes:
(first line, lines). -/
def opReads0 (w : Nat) : List (Nat × Nat) :=
  match iOp w with
  | 0x04 => (List.range (bits w 55 5 + 1)).map (fun i => (bits w 99 17 + i * bits w 88 11, bits w 40 11))
  | 0x05 => (List.range (bits w 66 5 + 1)).map (fun i => (bits w 99 17 + i * bits w 88 11, bits w 55 11))
  | 0x07 | 0x08 | 0x0B | 0x0C => [(bits w 99 17, bits w 88 11)]
  | _ => []
def opWrites0 (w : Nat) : List (Nat × Nat) :=
  match iOp w with
  | 0x02 | 0x03 | 0x06 => [(bits w 99 17, bits w 88 11)]
  | 0x04 => (List.range (bits w 51 4 + 1)).map (fun j => (bits w 71 17 + j * bits w 60 11, bits w 40 11))
  | 0x05 => [(bits w 71 17, bits w 55 11)]
  | _ => []

/-- Do two lists of ranges share a line? -/
def meets (a b : List (Nat × Nat)) : Bool :=
  a.any (fun x => b.any (fun y => decide (x.1 < y.1 + y.2) && decide (y.1 < x.1 + x.2)))

/-- An instruction on its own: known opcode, no meaningless flag, reserved bits 0, and the rules of Table 9.7. -/
def instrOk (w : Nat) : Bool :=
  let op := iOp w
  decide (op ≤ 0x10) &&
  (List.range 4).all (fun i => !bit w (116 + i) || bit (flagsOf op) i) &&
  decide (w % 2 ^ lowBit op = 0) &&
  (match op with
   | 0x01 => decide (iRepeat w ≠ 0)
   | 0x04 => !(meets (opReads0 w) (opWrites0 w))
   | 0x08 => decide (bits w 83 5 % 2 = 0)
   | 0x09 => decide (bits w 111 5 % 2 = 0)
   | 0x0E => decide (bits w 114 2 ≠ 3) && !(decide (bits w 114 2 = 0) && decide (bits w 90 24 = 0))
   | _ => true)

/-- The blocks of a list: `open_` within a block, `any` a block has been closed. -/
def blocksOk : Bool → Bool → List Nat → Bool
  | _, _, [] => false
  | open_, any, w :: ws =>
    match iOp w, open_ with
    | 0x01, false => blocksOk true any ws
    | 0x01, true => false
    | 0x0F, true => blocksOk false true ws
    | 0x0F, false => false
    | 0x10, false => any && ws.isEmpty
    | 0x10, true => false
    | 0x00, _ => blocksOk open_ any ws
    | _, o => o && blocksOk open_ any ws

/-- Does a list keep the rules of R285? -/
def listOk (l : List Nat) : Bool := l.all instrOk && blocksOk false false l

/-! ## The space as a millstone reads it (R291) -/

/-- Bytes of the space from `a`, as this side holds them; ZERO and unallocated pages read as zeros. -/
def spaceRead (s : State) (a n : Nat) : List Nat :=
  let first := a / 4096
  let pages := if n = 0 then 0 else (a + n - 1) / 4096 - first + 1
  (((List.range pages).flatMap (fun i => cellBytes (pageCells s (first + i)))).drop (a % 4096)).take n

/-- A 64-bit word of the space. -/
def spaceWord (s : State) (a : Nat) : Nat := leNat (spaceRead s a 8)

/-- Is a range outside the presented space, or in an UNALLOCATED extent? -/
def spaceBad (s : State) (a n : Nat) : Bool :=
  decide (512 * pext s * 4096 < a + n) ||
  (extentsOf (a / 4096) (pageCount a n)).any (fun e => decide ((extentAt s e).estate = 0))

/-- Pages of a range. -/
def pagesOf (a n : Nat) : List Nat := (List.range (pageCount a n)).map (fun i => a / 4096 + i)

/-- Does a range meet a fenced page or a line that reads as poison? -/
def spacePoison (s : State) (a n : Nat) : Bool :=
  (pagesOf a n).any (fun p =>
    fenced s p ||
    (let m := pagePoison s p
     decide (m ≠ 0) && (List.range 64).any (fun l => bit m l && decide (a < p * 4096 + 64 * l + 64) && decide (p * 4096 + 64 * l < a + n))))

/-! ## Job records (Table 9.2) -/

/-- JLBASE and JLPAGES. -/
def jlBase (s : State) : Nat := s.rd64 R.MST_JLBASEL R.MST_JLBASEH
def jlPages (s : State) : Nat := s.rd R.MST_JLPAGES_JLPAGES

/-- The space byte address of record `j`, and a word of it; a write of line 0 that is not durable yet is read through. -/
def recAddr (s : State) (j : Nat) : Nat := (jlBase s + j) * 4096
def recWord (s : State) (j w : Nat) : Nat :=
  match (s.xpt.reqs.filter (fun r => r.mst && r.stage ≠ .done && decide (r.va = recAddr s j) && decide (w < 8))).getLast? with
  | some r => leNat ((r.payload.drop (8 * w)).take 8)
  | none => spaceWord s (recAddr s j + 8 * w)

/-- Does the job area lie partly outside the presented space (R277)? An area of no records does not, within the space. -/
def jobAreaBad (s : State) : Bool :=
  decide (512 * pext s < jlBase s + jlPages s)

/-- JSTATE of a record. -/
def jstate (s : State) (j : Nat) : Nat := bits (recWord s j 0) 61 3

/-- The eight words of a record's line 0. -/
def lineZero (s : State) (j : Nat) : List Nat := (List.range 8).map (fun w => recWord s j w)

/-- Bits [lsb + wid − 1 : lsb] of a word replaced. -/
def setBits (w lsb wid v : Nat) : Nat := w - bits w lsb wid * 2 ^ lsb + v % 2 ^ wid * 2 ^ lsb

/-! ## Requester contexts (Table 9.8) -/

def rqAt (s : State) (i : Nat) : RqQp := s.mst.qps.get i {}
def setRq (s : State) (i : Nat) (q : RqQp) : State := { s with mst := { s.mst with qps := s.mst.qps.put i q {} } }

/-- The sixteen words of a context. -/
def rqWords (q : RqQp) : List Nat :=
  [q.qstate * 2 ^ 61 + q.lport * 2 ^ 55 + q.pmtu * 2 ^ 52 + q.pkey * 2 ^ 24 + q.destqp,
   q.spsn * 2 ^ 40 + q.upsn * 2 ^ 16 + q.maxrd * 2 ^ 8 + q.outrd,
   q.rate * 2 ^ 48 + q.outwin * 2 ^ 40 + q.outpkt * 2 ^ 32 + q.retries * 2 ^ 29 + q.rnrused * 2 ^ 26 + q.rtocur,
   q.rip / 2 ^ 64, q.rip % 2 ^ 64,
   q.udpsrc * 2 ^ 48 + q.dscp * 2 ^ 42 + q.hoplim * 2 ^ 32 + q.flowlbl * 2 ^ 12,
   q.vid * 2 ^ 48 + q.rmac, 0, 0, 0, 0, 0, 0, 0, 0, 0]

/-- A context from its words. -/
def rqOf (w : List Nat) : RqQp :=
  let g := fun i => w.getD i 0
  { qstate := bits (g 0) 61 3, lport := bits (g 0) 55 4, pmtu := bits (g 0) 52 3, pkey := bits (g 0) 24 16
    destqp := bits (g 0) 0 24, spsn := bits (g 1) 40 24, upsn := bits (g 1) 16 24, maxrd := bits (g 1) 8 8
    outrd := bits (g 1) 0 8, rate := bits (g 2) 48 16, outwin := bits (g 2) 40 8, outpkt := bits (g 2) 32 8
    retries := bits (g 2) 29 3, rnrused := bits (g 2) 26 3, rtocur := bits (g 2) 0 26
    rip := g 3 % 2 ^ 64 * 2 ^ 64 + g 4 % 2 ^ 64, udpsrc := bits (g 5) 48 16, dscp := bits (g 5) 42 6
    hoplim := bits (g 5) 32 8, flowlbl := bits (g 5) 12 20, vid := bits (g 6) 48 12, rmac := bits (g 6) 0 48 }

/-- Path MTU and pipeline of a requester QP. -/
def rqMtu (q : RqQp) : Nat := 128 * 2 ^ q.pmtu
def rqPipe (q : RqQp) : Nat := q.lport / 4

/-- Packets that an operation sends, and PSNs that it takes: a READ takes one for each response packet. -/
def Rop.packets (o : Rop) : Nat := if o.kind = 1 then o.total else 1
def pktsFor (q : RqQp) (len : Nat) : Nat := max 1 ((len + rqMtu q - 1) / rqMtu q)

/-- PSNs of an operation that are out and not acknowledged: a READ counts once. -/
def Rop.out (o : Rop) (upsn : Nat) : Nat :=
  match o.first with
  | none => 0
  | some f => if o.kind = 1 then o.sent - (if psnLe f upsn then min o.sent (psnSub upsn f) else 0) else 1

/-- OUTPKT and OUTRD from the operations. -/
def rqCount (q : RqQp) : RqQp :=
  { q with outpkt := q.ops.foldl (fun a o => a + o.out q.upsn) 0
           outrd := (q.ops.filter (fun o => o.kind = 0 && o.first.isSome)).length }

/-- The headers of an operation's packet `k` behind the BTH: RETH on the first, the immediate. -/
def ropHeader (o : Rop) (k : Nat) : List Nat :=
  (if k = 0 then beBytes o.va 8 ++ beBytes o.rkey 4 ++ beBytes o.len 4 else []) ++
  (if o.kind = 3 then beBytes o.imm 4 else [])

/-- The BTH opcode of packet `k`. -/
def ropOpcode (o : Rop) (k : Nat) : Nat :=
  match o.kind with
  | 0 => 0x0C
  | 2 => 0x1C
  | 3 => 0x0B
  | _ => if o.total = 1 then 0x0A else if k = 0 then 0x06 else if k + 1 = o.total then 0x08 else 0x07

/-- One packet leaves, if the reins allow one: RTS, no RNR wait, OUTPKT below OUTWIN, OUTRD below MAXRD for a READ, and the
egress weight not 0 (R121, R296). -/
def rqSendOne (s : State) (i : Nat) : Option State :=
  let q := rqAt s i
  match q.ops.find? (fun o => decide (o.sent < o.packets)) with
  | none => none
  | some o =>
    if q.qstate ≠ 3 ∨ q.rnrWait ∨ q.outwin ≤ q.outpkt ∨ (o.kind = 0 ∧ q.maxrd ≤ q.outrd) ∨ mstWeight s 0 = 0 ∨
        !portUp s q.lport then none
    else
      let psn := q.spsn
      let chunk := if o.kind = 1 ∨ o.kind = 3 then (o.data.drop (o.sent * rqMtu q)).take (rqMtu q) else []
      let o' := { o with first := some (o.first.getD psn), sent := o.sent + 1 }
      let step := if o.kind = 0 then o.total else 1
      let q' := rqCount { q with
        spsn := (psn + step) % 2 ^ 24
        rtocur := if q.outpkt = 0 then s.rd R.XPT_RTO_RTOINIT 0 (rqPipe q) else q.rtocur
        ops := q.ops.map (fun x => if x = o then o' else x) }
      some (txPacket (setRq s i q') q.lport 2 (0x80000 + i)
        (roceOut s q.lport (0x80000 + i) (ropOpcode o o.sent) psn 0 q.dscp q.vid (ropHeader o o.sent ++ chunk)))

/-- Packets leave while the reins allow. -/
def rqPump : Nat → Nat → State → State
  | 0, _, s => s
  | n + 1, i, s =>
    match rqSendOne s i with
    | none => s
    | some t => rqPump n i t

/-- An operation joins a QP's operations and leaves as the reins allow. -/
def rqPost (s : State) (i : Nat) (o : Rop) : State :=
  let q := rqAt s i
  rqPump 256 i (setRq s i { q with ops := q.ops ++ [o] })

end Sys2Proof.Machine
end

