-- ==== Sys2Proof/Machine/Hooks.lean ====
section
/-! DEFINITION. What entry to SAVING and a reset of level 4 do at once to held requests and tokens (R167, R329). -/

namespace Sys2Proof.Machine

/-- Save step 1 (Table 8.3): requests that Admit holds are dropped without response (R167), and their tokens return. -/
def holdWriters (s : State) : State :=
  (s.xpt.reqs.filter (fun r => r.stage = .admitting)).foldl releaseReq s

/-- A capacitance test ends without a result: the bleed output and the charger return (R252, R379), its command fails. -/
def endTest (s : State) : State :=
  match s.gov.test with
  | none => s
  | some _ =>
    let t : State := { s with gov := { s.gov with test := none, testCmd := false }, pwr := { s.pwr with bleed := 0 } }
    let t := (t.wr R.GOV_STAT_TESTING 0).wr R.PWR_INSTAT_CHGEN (b2n s.pwr.chg)
    if s.gov.testCmd then cmdFailFree t (ekey 0x2611 2) else t

/-- A rehearsal under way is abandoned, its result discarded (R270). -/
def endRehearsal (s : State) : State :=
  let t := rehearsalLeft s
  let t : State := { t with sav := { t.sav with rehearsal := none, rehearseCmd := false } }
  if s.sav.rehearseCmd then cmdFailFree t (ekey 0x2611 1) else t

/-- A calibration run loses its tokens and commits nothing (R417). -/
def endCal (s : State) : State :=
  match s.cal.run with
  | none => s
  | some r =>
    let t : State := { s with cal := { s.cal with run := none } }
    let t := raise (t.wr R.CAL_STAT_BUSY 0) 0x48A0 [Config.payloadCode 0x48A0 1]
    if r.trigger = 3 then cmdFailFree t (ekey 0x2B10 3) else t

/-- Save step 1: maintenance tokens are revoked (R329), and what runs under them ends. -/
def revokeTokens (s : State) : State := endCal (endRehearsal (endTest (farRevoke s)))

end Sys2Proof.Machine
end

