-- ==== Sys2Proof/Machine/GaitOps.lean ====
section
/-! DEFINITION. The gait rows and the application of a gait change (R23 to R31). -/

namespace Sys2Proof.Machine

/-- The fields of GAI_ROW in the order of Table 1.8. -/
def rowFields : List Fld :=
  [R.GAI_ROW_DIVSET, R.GAI_ROW_LANES, R.GAI_ROW_DIRTYFRAC, R.GAI_ROW_CLEANRATE, R.GAI_ROW_GROOMMUL,
   R.GAI_ROW_MSWEIGHT, R.GAI_ROW_PPBIAS, R.GAI_ROW_MIGRATE, R.GAI_ROW_WH, R.GAI_ROW_WM, R.GAI_ROW_WT,
   R.GAI_ROW_WS, R.GAI_ROW_WG, R.GAI_ROW_WC, R.GAI_ROW_PWRCAP]

/-- A row read through `f`, a function of a field and the row number. -/
def rowOf (f : Fld → Nat) : GaitRow :=
  { divset := f R.GAI_ROW_DIVSET, lanes := f R.GAI_ROW_LANES, dirtyfrac := f R.GAI_ROW_DIRTYFRAC
    cleanrate := f R.GAI_ROW_CLEANRATE, groommul := f R.GAI_ROW_GROOMMUL, msweight := f R.GAI_ROW_MSWEIGHT
    ppbias := f R.GAI_ROW_PPBIAS, migrate := f R.GAI_ROW_MIGRATE, wh := f R.GAI_ROW_WH, wm := f R.GAI_ROW_WM
    wt := f R.GAI_ROW_WT, ws := f R.GAI_ROW_WS, wg := f R.GAI_ROW_WG, wc := f R.GAI_ROW_WC
    pwrcap := f R.GAI_ROW_PWRCAP }

/-- The committed row of gait `g`. -/
def committedRow (s : State) (g : Nat) : GaitRow := rowOf (fun F => s.rd F g)

/-- A field of the edit shadow: the edited value, else the committed one (R31). -/
def editVal (s : State) (F : Fld) (g : Nat) : Nat :=
  match s.gai.edit.find? (F.key g 0) with
  | some v => v
  | none => s.rd F g

/-- Row `g` of the edit shadow. -/
def editRow (s : State) (g : Nat) : GaitRow := rowOf (fun F => editVal s F g)

/-- The place in Table 1.8's order, and the value, of the first field of a row outside its own limits (R26). -/
def badField (f : Fld → Nat) : Option (Nat × Nat) :=
  ((rowFields.zipIdx).find? (fun p => !p.1.lim.ok (f p.1))).map (fun p => (p.2, f p.1))

/-- The first refused field of a row, by its place in Table 1.8's order, which the model uses as a label of the field alone (event
0x04C0's coding of it is Config's, log entry 8): its own limits, then the rules of R27 (WM below WH; WS 0 while MSWEIGHT is not 0). -/
def rowRefusal (f : Fld → Nat) : Option (Nat × Nat) :=
  match badField f with
  | some p => some p
  | none =>
    if f R.GAI_ROW_WM < f R.GAI_ROW_WH then some (9, f R.GAI_ROW_WM)
    else if f R.GAI_ROW_WS = 0 ∧ f R.GAI_ROW_MSWEIGHT ≠ 0 then some (11, f R.GAI_ROW_WS)
    else none

/-- The row that block `n` acts on. -/
def rowInForce (s : State) (n : Nat) : GaitRow :=
  (s.gai.inForce.find? n).getD (rowOf (fun F => F.dflt 2))

/-- The blocks that take a gait row (Table 1.9, steps 2 to 7): XPT, DRC, GRM, CLK, MST, TIE, GOV, PWR. -/
def gaitBlocks : List Nat :=
  [12, 14, 19, 21, 23, 30, 31, 32, 33, 34, 35, 36, 37, 38, 39, 40, 41,
   42, 43, 44, 45, 46, 47, 48, 49, 50, 51, 52, 53, 54, 55, 56, 57]

/-- A block takes a row into force, with what follows from it in that block (Table 1.9 steps 2 to 7). -/
def gaitTakeRow (r : GaitRow) (s : State) (n : Nat) : State :=
  let t : State := { s with gai := { s.gai with inForce := s.gai.inForce.ins n r } }
  let t := if n = 14 then t.wr R.CLK_STAT_LOW r.divset else t
  let t := if 42 ≤ n ∧ n ≤ 57 then t.wr R.DRC_PAGEPOL_BIAS r.ppbias 0 (n - 42) else t
  if n = 21 then govRow t else if n = 19 then groomRow t r.groommul else if 34 ≤ n ∧ n ≤ 41 then
    let u := mstMode t (n - 34)
    if n = 34 ∧ r.msweight ≠ 0 then u.mst.qps.foldl (fun v e => rqPump 256 e.1 v) u else u
  else t

/-- Step 8 of Table 1.9: the current gait changes, event 0x0420, the count 0x1100.07 rises, relink-pending bits and
events 0x0460 + p follow for ports whose lanes differ from the row (R29). -/
def gaitEnd (s : State) (c : GaitChange) : State :=
  let old := s.rd R.GAI_CUR_CURRENT
  let t : State := { s with gai := { s.gai with change := none } }
  let t := (t.wr R.GAI_CUR_CURRENT c.gait).wr R.GAI_CUR_CHANGE 0
  let t := setEnt t (ekey 0x1100 7) ((ent t (ekey 0x1100 7) 0 + 1) % 2 ^ 32)
  let t := raise t 0x0420 [old, c.gait, s.now - c.start]
  (List.range 4).foldl (fun u p =>
    let cur := u.rd R.PRT_LINKSTAT_LANES 0 p
    if cur ≠ 0 ∧ cur ≠ c.row.lanes then
      if u.rbit R.GAI_RELINK_PENDING p then u
      else raise (u.wbit R.GAI_RELINK_PENDING p true) (0x0460 + p) [p, cur, c.row.lanes]
    else u.wbit R.GAI_RELINK_PENDING p false) t

/-- A gait change begins: GAI copies the row into every block's shadow; the status shows APPLYING (R28). A stopped block is at
its quiet point (R60) and takes the row at once. -/
def gaitApply (s : State) (g : Nat) : State :=
  let r := committedRow s g
  let c : GaitChange := { gait := g, row := r, start := s.now, left := gaitBlocks.filter (fun n => s.running n) }
  let t : State := { s with gai := { s.gai with change := some c } }
  let t := (gaitBlocks.filter (fun n => !s.running n)).foldl (gaitTakeRow r) (t.wr R.GAI_CUR_CHANGE 1)
  if c.left.isEmpty then gaitEnd t c else t

/-- A change completes, and a latched request is applied next (R30). -/
def gaitComplete (s : State) (c : GaitChange) : State :=
  let t := gaitEnd s c
  if t.on R.GAI_CUR_LATCHPEND then
    gaitApply (t.wr R.GAI_CUR_LATCHPEND 0) (t.rd R.GAI_CUR_LATCHED)
  else t

/-- A block takes the row of the change under way at its quiet point (R28); the last one completes the change. -/
def gaitTake (s : State) (n : Nat) : State :=
  match s.gai.change with
  | none => s
  | some c =>
    if c.left.contains n then
      let c' := { c with left := c.left.filter (· ≠ n) }
      let t := gaitTakeRow c.row { s with gai := { s.gai with change := some c' } } n
      if c'.left.isEmpty then gaitComplete t c' else t
    else s

/-- A gait request (R23, R28, R30): in SERVING it is applied, or latched behind a change under way. Answers whether it was
taken. -/
def gaitRequest (s : State) (g : Nat) : State × Bool :=
  if s.dev ≠ .serving then (s, false)
  else if s.gai.change.isNone then (gaitApply s g, true)
  else
    let t := if s.on R.GAI_CUR_LATCHPEND then raise s 0x0440 [s.rd R.GAI_CUR_LATCHED, g] else s
    (((t.wr R.GAI_CUR_LATCHED g).wr R.GAI_CUR_LATCHPEND 1).wr R.GAI_CUR_CHANGE 2, true)

/-- Leaving SERVING: a latched request is discarded without event, a change still APPLYING is abandoned (R23). -/
def gaitDrop (s : State) : State :=
  let t : State := { s with gai := { s.gai with change := none } }
  (t.wr R.GAI_CUR_LATCHPEND 0).wr R.GAI_CUR_CHANGE 0

/-- Entering SERVING: Trot's row is applied as a gait change (R23). -/
def gaitEnterServing (s : State) : State := gaitApply s 2

end Sys2Proof.Machine
end

