-- ==== Sys2Proof/Machine/Transitions.lean ====
section
/-! DEFINITION. The device state machine (Table 1.6): requests, the rising and falling tables' starts, the start of a
save, and the resets (R388 to R398). -/

namespace Sys2Proof.Machine

/-! ## The sequencer's steps (R369 to R371) -/

/-- The table entry at `i` of the table in force: rising while PHASE is 1, falling while it is 2. -/
def seqEntry (s : State) (i : Nat) : Nat :=
  if s.rd R.PWR_SEQSTAT_PHASE = 2 then s.rd R.PWR_FALL i else s.rd R.PWR_RISE i

/-- The current step's entry. -/
def curEntry (s : State) : Nat := seqEntry s (s.rd R.PWR_SEQSTAT_STEP)

/-- Fields of a step entry (Table 12.1). -/
def stepOp (e : Nat) : Nat := bits e 28 4
def stepArg (e : Nat) : Nat := bits e 23 5
def stepHard (e : Nat) : Bool := bit e 22
def stepTime (e : Nat) : Nat := bits e 12 10
def stepUnit (e : Nat) : Nat := bits e 10 2
def stepChatter (e : Nat) : Nat := bits e 6 4
def stepMirror (e : Nat) : Nat := bits e 0 6

/-- A step begins: crossing counts from 0, its time from now, its action not yet started. -/
def stepBegin (s : State) (i : Nat) : State :=
  { s with pwr := { s.pwr with cross := [], stepStart := s.now, stepOn := false } }.wr R.PWR_SEQSTAT_STEP i

/-- The current step's action has been started. -/
def stepStarted (s : State) : State := { s with pwr := { s.pwr with stepOn := true } }

/-- The main shaft stands still: every domain that it drives is gated but the service core's and the keeper's (Table 13.2). -/
def stopShaft (s : State) : State := (s.wr R.CLK_STAT_LOCKED 0).wr R.CLK_GATED_DOMAINS (R.CLK_GATED_DOMAINS.dflt 0)

/-- The main shaft's lock is requested (R408: at every exit from STANDBY and at step 8 of Table 12.9). -/
def requestLock (s : State) : State :=
  stopShaft { s with clk := { s.clk with locking := true, refwaitOver := false } }

/-- The reset that was under way ends: the outputs that it asserted begin their stretch (R398). -/
def beginStretch (s : State) : State :=
  { s with rst := { s.rst with stretching := s.rd R.RST_OUTSTAT_ASSERTED, stretched := 0 } }

/-- RISING begins: the rising table from step 0 (R376), the lock of the main shaft, the stretch of the reset outputs. -/
def startRising (s : State) (why : Nat) : State :=
  let t := setDev s .rising why
  let t : State := { t with pwr := { t.pwr with risen := false }, rst := { t.rst with held := false } }
  let t := ((t.wr R.PWR_SEQSTAT_PHASE 1).wr R.PWR_SEQSTAT_ONLATCH 0).wr R.PWR_SEQSTAT_OFFPEND 0
  beginStretch (requestLock (stepBegin t 0))

/-- FALLING begins: the falling table from step `i`. -/
def startFall (s : State) (i why : Nat) : State :=
  let t := setDev s .falling why
  let t := (t.wr R.PWR_SEQSTAT_PHASE 2).wr R.PWR_SEQSTAT_OFFPEND 0
  stepBegin t i

/-- Where a fall from RISING starts: the current step's MIRROR, or step 0 once the table has reached END (R376). -/
def fallPoint (s : State) : Nat :=
  if s.pwr.risen ∨ stepOp (curEntry s) = 0 then 0 else stepMirror (curEntry s)

/-- A rising or falling step has ended: the next follows, or the fall that an off request asked for (R376). -/
def stepEnd (s : State) : State :=
  if s.on R.PWR_SEQSTAT_OFFPEND ∧ s.rd R.PWR_SEQSTAT_PHASE = 1 then startFall s (fallPoint s) 1
  else stepBegin s ((s.rd R.PWR_SEQSTAT_STEP + 1) % 64)

/-! ## Margins (R385) -/

/-- OPERATION is written to rail `r`'s regulator: command 0x01, margin mode 0 nominal, 1 low, 2 high. -/
def operation (s : State) (r m : Nat) : State :=
  s.emit (.pmbus (s.rd R.PWR_RAIL_PMBADDR r) 0x01 [if m = 1 then 0x98 else if m = 2 then 0xA8 else 0x80])

/-- PWR_MARGSTAT and PWR_INSTAT show the margined rails. -/
def showMargins (s : State) : State :=
  let m := s.pwr.margin.foldl (fun a e => bitSet a e.1) 0
  (s.wr R.PWR_MARGSTAT_RAILS m).wr R.PWR_INSTAT_MARGINED (b2n (decide (m ≠ 0)))

/-- Every margined rail returns to nominal, a margin command under way ends FAILED (entry to SAVING). -/
def marginsBack (s : State) : State :=
  let t := s.pwr.margin.foldl (fun u e => operation u e.1 0) s
  let t : State := { t with pwr := { t.pwr with margin := [], marginBusy := none, marginCmd := false } }
  let t := (showMargins t).wr R.PWR_MARGSTAT_BUSY 0
  if s.pwr.marginCmd then cmdFailFree t (ekey 0x2A03 3) else t

/-! ## Saves (R259, R261 steps 1 to 6) -/

/-- SAVING is entered: the gait is dropped, Admit passes nothing more and GOV grants no token (step 1); the twin gets
DEPART (step 2), the engines stop and the ports go idle (step 3), the pending set is written (step 4), the queues and the
hopper drain (step 5), STF switches to the save (step 6); sleeping ranks wake (R311); maintenance tokens are revoked (R329), margined rails return to
nominal (R385). The steps' completions are reported by SAVE_STEP_COMPLETE. -/
def startSave (s : State) (c : SaveCause) : State :=
  let t := gaitDrop s
  let t := setDev t .saving (10 + c.code)
  let t : State := { t with sav := { t.sav with
      cause := some c, wanted := none, start := s.now, steps := 2, img := none, sealRec := none, sealed := 0
      vStart := (List.range 8).map (fun m => s.rd R.GOV_VMOD m) } }
  let t := (t.wr R.SAV_STAT_PHASE 3).wr R.SAV_PROGRESS_PAGES 0
  let t := t.bump C.SAV_SAVES
  let t := if c = .governor then t.bump C.SAV_GOVSAVES else t
  let t := raise t 0x2400 [c.code, s.rd R.GOV_DIRTY]
  let t := (List.range 16).foldl (fun (u : State) ch => u.wr R.DRC_SR_RANKSR 0 0 ch) t
  revokeTokens (holdWriters (marginsBack t))

/-- A cause that asks for a save or a fall, by state (Table 1.6): what an off request, a warning, a brown-out, a
governor save and a level-5 reset do. -/
def powerDown (s : State) (c : SaveCause) : State :=
  match s.dev with
  | .serving => startSave s c
  | .restoring =>
    if s.on R.RST_RETAIN_WARM then startSave s c
    else if c = .governor then s
    else startFall s 0 (20 + c.code)
  | .filling => if c = .governor then s else startFall s 0 (20 + c.code)
  | .rising =>
    if c = .governor then s
    else if s.on R.RST_RETAIN_WARM then { s with sav := { s.sav with wanted := some c } }
    else if s.pwr.risen ∨ s.rd R.PWR_SEQSTAT_PHASE ≠ 1 then
      startFall s 0 (20 + c.code)
    else raise (s.wr R.PWR_SEQSTAT_OFFPEND 1) 0x3C80
      [s.rd R.PWR_SEQSTAT_STEP, stepMirror (curEntry s)]
  | _ => s

/-- An off request (Table 12.3). -/
def offRequest (s : State) : State := powerDown s .offRequest

/-- An on request (Table 12.3). -/
def onRequest (s : State) : State :=
  match s.dev with
  | .standby => startRising s 1
  | .saving | .saved | .falling =>
    raise (s.wr R.PWR_SEQSTAT_ONLATCH 1) 0x3CA0 [s.dev.code]
  | _ => s

/-! ## Resets (R388 to R398) -/

/-- The level of a source in force: the fused nibble, or the vendor level (R389). -/
def effNibble (src n : Nat) : Nat :=
  let vendor := [5, 5, 4, 2, 5, 5, 4, 2].getD src 5
  if src = 0 ∨ src = 1 then 5
  else if n = 0 then vendor
  else if n = 7 then (if src = 2 ∨ src = 4 ∨ src = 5 then 7 else vendor)
  else if 6 ≤ n then vendor
  else if src = 6 ∧ n < 4 then 4
  else if (src = 3 ∨ src = 7) ∧ n = 1 then 2
  else n

/-- RST_REACH from the fuse word (R389). -/
def effReach (fuse : Nat) : Nat :=
  (List.range 8).foldl (fun a i => a + effNibble i (bits fuse (4 * i) 4) * 16 ^ i) 0

/-- Is a nibble one that R389 reports with event 0x4060? -/
def badNibble (src n : Nat) : Bool :=
  decide (n = 6) || decide (7 < n) || (decide (n = 7) && !(src = 2 || src = 4 || src = 5))

/-- The level in force of a source. -/
def reachOf (s : State) (src : Nat) : Nat := bits (s.rd R.RST_REACH) (4 * src) 4

/-- Blocks that a reset of level `l` reaches (Table 12.8); level 1 reaches block `b` alone. CLK's always-on part keeps
its fields by their reset level 5. -/
def reaches (l b n : Nat) : Bool :=
  if l = 1 then decide (n = b)
  else if l = 2 then decide (n = 5) || decide (n = 6)
  else if l = 3 then decide (30 ≤ n) && decide (n ≤ 41)
  else if l = 4 then decide (n < 58) && decide (n ≠ 12) && decide (n ≠ 13)
  else decide (n < 58)

/-- Return the fields of the reached blocks with a reset level of `l` or lower to their reset values, discard their
shadows, and clear their counters from level 4 up (R390, log entry 12). -/
def resetRegs (s : State) (l b : Nat) : State :=
  let out := fun k => !(reaches l b (keyBlock k) && decide (keyLevel k ≤ l))
  let gone := fun n => reaches l b n
  { s with rf := { s.rf with
      val := s.rf.val.keep out
      shadow := s.rf.shadow.keep (fun k => !gone (keyBlock k))
      group := s.rf.group.keep (fun k => !gone (keyBlock k))
      since := s.rf.since.keep (fun n => !gone n)
      ctr := if 4 ≤ l then s.rf.ctr.keep (fun k => !gone (ctrBlock k)) else s.rf.ctr
      bank0 := if 4 ≤ l then s.rf.bank0.keep (fun k => !gone (ctrBlock k)) else s.rf.bank0
      bank1 := if 4 ≤ l then s.rf.bank1.keep (fun k => !gone (ctrBlock k)) else s.rf.bank1 } }

/-- RST_CAUSE and BKP0 describe a reset. -/
def showCause (s : State) (q : ResetReq) : State :=
  let t := ((s.wr R.RST_CAUSE_LEVEL q.level).wr R.RST_CAUSE_SOURCE q.source).wr R.RST_CAUSE_BLOCK q.block
  setBkp t 0 (q.level * 2 ^ 29 + q.source * 2 ^ 26 + q.block * 2 ^ 18)

/-- A reset is taken (R393, R394 step 1): cause and counts (BKP1, RST_COUNT, RESETS[s]), snapshot, history record, event
0x4000 + source. -/
def recordReset (s : State) (q : ResetReq) : State :=
  let t := setBkp (showCause s q) 1 (bkp s 1 + 1)
  let t := if q.level = 5 then t.wr R.RST_COUNT_COUNT 0 else t.wr R.RST_COUNT_COUNT (t.rd R.RST_COUNT_COUNT + 1)
  let t := historyRecord (snapshot (t.bump C.RST_RESETS 1 q.source) 7 0xFF) q
  raise t (0x4000 + q.source) [q.level, q.block, s.dev.code]

/-- Reset outputs whose MINLVL is at most the level are asserted, and their stretch begins when the reset ends (R398). -/
def assertOutputs (s : State) (l : Nat) : State :=
  (List.range 4).foldl (fun t o =>
    if t.rd R.RST_OUT_MINLVL o ≤ l then t.wbit R.RST_OUTSTAT_ASSERTED o true else t) s

/-- The recorder restarts (R437): the ring is empty and the next record carries S = 2^16 + Q1 of the newest history. -/
def restartRecorder (s : State) : State :=
  let S := 65536 + (match newestHistory s with | some h => h.evseq | none => 0)
  { s with recd := { head := S - 1, start := S } }

end Sys2Proof.Machine
end

