-- ==== Sys2Proof/Machine/ControlOps.lean ====
section
/-! DEFINITION. Writing a register field from outside (R60 to R65): limits, apply classes, shadows, apply groups, the
quiet point; the configuration check (R69); snapshots (R68). -/

namespace Sys2Proof.Machine

/-! ## Which fields lie in a word -/

/-- The fields of block `n` whose word lies at byte offset `off`, each with its array element. -/
def wordFields (n off : Nat) : List (Fld × Nat) :=
  (fieldsOf n).filterMap (fun F =>
    if off < F.off then none
    else if F.cnt = 1 then (if off = F.off then some (F, 0) else none)
    else if (off - F.off) % F.str = 0 ∧ (off - F.off) / F.str < F.cnt then some (F, (off - F.off) / F.str)
    else none)

/-- The copy number of block `n` for a field (0 for a block of one copy). -/
def copyOf (F : Fld) (n : Nat) : Nat := n - F.blk

/-- The block whose copy holds the word at `off`: the sets that every MST window (0x040 to 0x17C) and both CPX windows
(0x040 to 0x2FF, the doorbell bitmap) share are kept once (R302, R450). -/
def homeOf (n off : Nat) : Nat :=
  if 34 ≤ n ∧ n ≤ 41 ∧ 0x40 ≤ off ∧ off < 0x180 then 34
  else if n = 6 ∧ ((0x40 ≤ off ∧ off < 0x300) ∨ (0x40000 ≤ off ∧ off < 0x48000)) then 5
  else n

/-- Does a block that has the word at `off` run? A shared set is in use while any of its blocks runs. -/
def wordRuns (s : State) (n off : Nat) : Bool :=
  if 34 ≤ n ∧ n ≤ 41 ∧ 0x40 ≤ off ∧ off < 0x180 then (List.range 8).any (fun i => s.running (34 + i))
  else if (n = 5 ∨ n = 6) ∧ 0x40 ≤ off ∧ off < 0x300 then s.running 5 || s.running 6
  else s.running n

/-- A field has an apply class and can be written. -/
def Fld.writable (F : Fld) : Bool := decide (F.acc = .rw) && decide (F.app ≠ .none)

/-- Two descriptors name the same field. -/
def Fld.same (F G : Fld) : Bool :=
  decide (F.blk = G.blk) && decide (F.off = G.off) && decide (F.lsb = G.lsb) && decide (F.nblk = G.nblk)

/-! ## Limits that involve other fields (R64, the Meaning columns) -/

/-- Bytes of the checkpoint ranges in use, R428. -/
def rangeBytes (g : Fld → Nat → Nat) : Nat :=
  (List.range (g R.CPX_CKRANGES_NRANGES 0)).foldl (fun a i => a + g R.CPX_CKRANGE_LEN i) 0

/-- The checkpoint area holds the header, the SRAM and the ranges, and the ranges hold at most 60 MiB (R428). -/
def ckFits (g : Fld → Nat → Nat) : Bool :=
  let r := rangeBytes g
  decide (r ≤ 62914560) &&
  decide (2 * ((4096 + 4194304 + r + 2097151) / 2097152) ≤ g R.CPX_CKSIZE_CKSIZE 0) &&
  decide (g R.CPX_CKSIZE_CKSIZE 0 % 2 = 0)

/-- No range is named yet and no size set: the reset values, which no write has made. -/
def ckUnset (g : Fld → Nat → Nat) : Bool :=
  decide (g R.CPX_CKSIZE_CKSIZE 0 = 0) && decide (rangeBytes g = 0)

/-- Does element `i` of field `F`, with every field read through `g`, meet the limits that name other fields? -/
def crossOk (g : Fld → Nat → Nat) (F : Fld) (i : Nat) : Bool :=
  let chk := fun (G : Fld) (c : Bool) => !F.same G || c
  chk R.XPT_REIN_MAX (decide (g R.XPT_REIN_MIN 0 ≤ g R.XPT_REIN_MAX 0)) &&
  chk R.XPT_REIN_MIN (decide (g R.XPT_REIN_MIN 0 ≤ g R.XPT_REIN_MAX 0)) &&
  chk R.XPT_REINTH_HI (decide (g R.XPT_REINTH_LO 0 < g R.XPT_REINTH_HI 0)) &&
  chk R.XPT_REINTH_LO (decide (g R.XPT_REINTH_LO 0 < g R.XPT_REINTH_HI 0)) &&
  chk R.TIE_LOWATER_LOWATER (decide (16 ≤ g R.TIE_LOWATER_LOWATER 0) &&
    decide (g R.TIE_LOWATER_LOWATER 0 < g R.TIE_HIWATER_HIWATER 0)) &&
  chk R.TIE_HIWATER_HIWATER (decide (g R.TIE_LOWATER_LOWATER 0 < g R.TIE_HIWATER_HIWATER 0)) &&
  chk R.GOV_CLEAN_LO (decide (50 ≤ g R.GOV_CLEAN_LO 0) && decide (g R.GOV_CLEAN_LO 0 < g R.GOV_CLEAN_HI 0)) &&
  chk R.GOV_CLEAN_HI (decide (g R.GOV_CLEAN_LO 0 < g R.GOV_CLEAN_HI 0)) &&
  chk R.SAV_SHUTRES_SHUTRES (decide (50 ≤ g R.SAV_SHUTRES_SHUTRES 0) &&
    decide (g R.SAV_SHUTRES_SHUTRES 0 < g R.GOV_RESERVE_RESERVE 0)) &&
  chk R.GRM_PASS_PERIOD (decide (1 ≤ g R.GRM_PASS_PERIOD 0) &&
    decide (g R.GRM_PASS_PERIOD 0 ≤ g R.GRM_PASS_DEADLINE 0)) &&
  chk R.STF_RECLAIM_LOWATER (decide (16 ≤ g R.STF_RECLAIM_LOWATER 0) &&
    decide (g R.STF_RECLAIM_LOWATER 0 < g R.STF_RECLAIM_HIWATER 0)) &&
  chk R.STF_RECLAIM_HIWATER (decide (g R.STF_RECLAIM_LOWATER 0 < g R.STF_RECLAIM_HIWATER 0)) &&
  chk R.PWR_VIN_VINWARN (decide (g R.PWR_VIN_VINBO 0 < g R.PWR_VIN_VINWARN 0) &&
    decide (g R.PWR_VIN_VINWARN 0 ≤ 19000)) &&
  chk R.PWR_VIN_VINBO (decide (1000 ≤ g R.PWR_VIN_VINBO 0) &&
    decide (g R.PWR_VIN_VINBO 0 < g R.PWR_VIN_VINWARN 0)) &&
  chk R.SEN_LIMIT_TRIP (decide (g R.SEN_LIMIT_HOT 0 < g R.SEN_LIMIT_TRIP 0)) &&
  chk R.SEN_LIMIT_HOT (decide (85 ≤ g R.SEN_LIMIT_HOT 0) && decide (g R.SEN_LIMIT_HOT 0 < g R.SEN_LIMIT_TRIP 0)) &&
  chk R.MGT_VLAN_VID (decide (g R.MGT_VLAN_TAGGED 0 = 0) ||
    (decide (1 ≤ g R.MGT_VLAN_VID 0) && decide (g R.MGT_VLAN_VID 0 ≤ 4094))) &&
  chk R.MGT_VLAN_TAGGED (decide (g R.MGT_VLAN_TAGGED 0 = 0) ||
    (decide (1 ≤ g R.MGT_VLAN_VID 0) && decide (g R.MGT_VLAN_VID 0 ≤ 4094))) &&
  chk R.PRT_VLAN_VID (decide (g R.PRT_VLAN_TAGGED i = 0) ||
    (decide (1 ≤ g R.PRT_VLAN_VID i) && decide (g R.PRT_VLAN_VID i ≤ 4094))) &&
  chk R.PRT_VLAN_TAGGED (decide (g R.PRT_VLAN_TAGGED i = 0) ||
    (decide (1 ≤ g R.PRT_VLAN_VID i) && decide (g R.PRT_VLAN_VID i ≤ 4094))) &&
  chk R.PWR_RAIL_TELEM (decide (((List.range 24).filter (fun r => g R.PWR_RAIL_TELEM r = 1)).length ≤ 8)) &&
  chk R.EVT_KIND (decide (1 ≤ bits (g R.EVT_KIND i) 0 8) && decide (bits (g R.EVT_KIND i) 24 6 ≤ 32)) &&
  chk R.DRC_MARK_MARK ((List.range 8).all (fun k =>
    let nib := bits (g R.DRC_MARK_MARK 0) (4 * k) 4
    decide (nib ≤ 9) || decide (nib = 15))) &&
  chk R.CPX_CKSIZE_CKSIZE (ckFits g) &&
  chk R.CPX_CKRANGES_NRANGES (ckFits g || ckUnset g) &&
  chk R.CPX_CKRANGE_LEN (decide (g R.CPX_CKRANGE_LEN i % 64 = 0) && (ckFits g || decide (g R.CPX_CKRANGES_NRANGES 0 ≤ i))) &&
  chk R.SAV_AREA_SBCOUNT (decide (2 ^ g R.STF_GEOM_DPCLOG 0 * g R.SAV_AREA_SBCOUNT 0 ≤ 16384)) &&
  chk R.TIE_HLENDL (decide (g R.TIE_HLENDL i % 4096 = 0)) &&
  chk R.STF_FWTAIL_TAIL (decide (g R.STF_FWTAIL_TAIL 0 ≤ 63))

/-- Places in tier D that a register names must lie in the reserved groups (R222, R428): the connection-management ring,
the store firmware rings, the extension descriptors, the checkpoint area and the checkpoint ranges. -/
def placeOk (s : State) (g : Fld → Nat → Nat) (F : Fld) (i : Nat) : Bool :=
  let ext := inReserved s (g R.DIC_EXTADDRL_ADDR 0 * 32 + g R.DIC_EXTADDRH_ADDR 0 * 2 ^ 32) (32 * max 1 (g R.DIC_EXTCOUNT_COUNT 0))
  let ring := inReserved s (g R.STF_FWRINGL_ADDR 0 * 2048 + g R.STF_FWRINGH_ADDR 0 * 2 ^ 32) 65536
  let range := decide (g R.CPX_CKRANGE_LEN i = 0) ||
    inReserved s (g R.CPX_CKRANGE_ADDRL i * 64 + g R.CPX_CKRANGE_ADDRH i * 2 ^ 32) (g R.CPX_CKRANGE_LEN i)
  if F.same R.CPX_CMBASE_CMBASE then inReserved s (g R.CPX_CMBASE_CMBASE 0 * 2097152) (8 * 2097152)
  else if F.same R.STF_FWRINGL_ADDR ∨ F.same R.STF_FWRINGH_ADDR then ring
  else if F.same R.DIC_EXTADDRL_ADDR ∨ F.same R.DIC_EXTADDRH_ADDR ∨ F.same R.DIC_EXTCOUNT_COUNT then ext
  else if F.same R.CPX_CKSIZE_CKSIZE then
    inReserved s (g R.CPX_CKBASE_CKBASE 0 * 2097152) (g R.CPX_CKSIZE_CKSIZE 0 * 2097152)
  else if F.same R.CPX_CKRANGE_ADDRL ∨ F.same R.CPX_CKRANGE_ADDRH ∨ F.same R.CPX_CKRANGE_LEN then range
  else true

/-- The four cache shares sum to at most 32 (R149). -/
def sharesOk (s : State) (n : Nat) (F : Fld) (v : Nat) : Bool :=
  !F.same R.XPT_CTXSHARE_SHARE ||
  decide ((List.range 4).foldl (fun a p =>
    a + (if n = 30 + p then v else s.shadowed R.XPT_CTXSHARE_SHARE 0 p)) 0 ≤ 32)

/-- The values that a write of word `w` would leave, read field by field: the written bits for the fields of the word,
the shadow or the value in force for the others (log entry 14). -/
def candidate (s : State) (n off w : Nat) (G : Fld) (i : Nat) : Nat :=
  let b := if G.blk ≤ n ∧ n < G.blk + G.nblk ∧ 1 < G.nblk ∧ G.nblk < 58 then n - G.blk else 0
  if (G.offset i = off ∧ G.blk ≤ n ∧ n < G.blk + G.nblk) ∧ G.nblk < 58 ∧ G.writable then bits w G.lsb G.wid
  else s.shadowed G i b

/-- Is the written value of a field within its limits (R64)? -/
def fieldOk (s : State) (n off w : Nat) (F : Fld) (i : Nat) : Bool :=
  F.lim.ok (bits w F.lsb F.wid) && crossOk (candidate s n off w) F i && placeOk s (candidate s n off w) F i &&
  sharesOk s n F (bits w F.lsb F.wid)

/-! ## Taking a written value by its apply class (R60 to R63) -/

/-- Item status codes (Table 2.7). -/
def stOk : Nat := 0
def stBusy : Nat := 1
def stNoEntry : Nat := 2
def stRights : Nat := 3
def stType : Nat := 4
def stRange : Nat := 5
def stUnavailable : Nat := 6
def stCmdRunning : Nat := 7
def stAborted : Nat := 8
def stTooLong : Nat := 9
def stSequence : Nat := 10
def stSession : Nat := 11

/-- The further condition of R60 that PWR names for the sequence tables: the sequencer is idle (R369). -/
def mayTake (s : State) (k : Nat) : Bool :=
  if keyBlock k = 12 ∧ 0x400 ≤ k / 32 % 1048576 ∧ k / 32 % 1048576 < 0x600
  then decide (s.rd R.PWR_SEQSTAT_PHASE = 0) else true

/-- A QUIET value goes into the shadow of block `n`, which shows SHADOWPEND (R60, R62); the bound counts from now, but for a value
that waits for its further condition, which does not count until that holds. -/
def toShadow (s : State) (n k v : Nat) : State :=
  { s with rf := { s.rf with
      shadow := s.rf.shadow.ins k v
      since := if s.rf.since.has n ∨ !mayTake s k then s.rf.since else s.rf.since.ins n s.now } }.wr R.BLKSTAT_SHADOWPEND 1 0 n

/-- The blocks of the main road that R59 names. -/
def mainRoad (n : Nat) : Bool :=
  n = 18 || (21 ≤ n && n ≤ 33) || 42 ≤ n

/-- The STOP fields of a main-road block change only in RISING, or after a reset that reached it and before GO is set again (R59). -/
def stopKept (s : State) (n : Nat) : Bool :=
  mainRoad n && decide (s.dev ≠ .rising) && s.on R.BLKSTAT_STARTED 0 n

/-- The value `v` of one field, already within its limits, taken by the field's class. `writer` labels the writer for
event 0x0880. Answers the new state and the item status. -/
def takeField (s : State) (n : Nat) (F : Fld) (i v writer : Nat) : State × Nat :=
  let b := copyOf F n
  match F.app with
  | .none => (s, stOk)
  | .live => (s.wr F v i b, stOk)
  | .quiet =>
    if F.grp then ({ s with rf := { s.rf with group := s.rf.group.ins (F.key i b) (v % 2 ^ F.wid) } }, stOk)
    else if wordRuns s n (F.offset i) ∨ !mayTake s (F.key i b) then (toShadow s n (F.key i b) (v % 2 ^ F.wid), stOk)
    else (s.wr F v i b, stOk)
  | .stop =>
    if wordRuns s n (F.offset i) || stopKept s n then
      (raise (s.wr R.BLKSTAT_REFUSED 1 0 n) 0x0880 [n, F.offset i, Config.payloadCode 0x0880 writer], stBusy)
    else ((s.wr F v i b).wr R.BLKSTAT_REFUSED 0 0 n, stOk)

/-- The word at `off` of block `n` as a write of `v` to one of its fields leaves it: the other fields as they wait or stand (R65). -/
def fieldWord (s : State) (n off : Nat) (F : Fld) (i v : Nat) : Nat :=
  (wordFields n off).foldl (fun a p =>
    a + (if p.1.same F && decide (p.2 = i) then v else s.shadowed p.1 p.2 (copyOf p.1 n) % 2 ^ p.1.wid) * 2 ^ p.1.lsb) 0

/-- A write of one field from outside: out of limits refused whatever its class (R64), otherwise by class. -/
def writeField (s : State) (n₀ : Nat) (F : Fld) (i v writer : Nat) : State × Nat :=
  let n := homeOf n₀ (F.offset i)
  if 2 ^ F.wid ≤ v ∨ !F.lim.ok v then (s, stRange)
  else if fieldOk s n (F.offset i) (fieldWord s n (F.offset i) F i v) F i then takeField s n F i v writer
  else (s, stRange)

/-- Would a write of a STOP field of block `n` in the word at `off` be refused now (R60, R59)? -/
def stopHeld (s : State) (n off : Nat) : Bool := wordRuns s n off || stopKept s n

/-- The writable fields of a word that a write of `w` leaves within their limits (R64). -/
def wordOk (s : State) (n off w : Nat) : List (Fld × Nat) :=
  (wordFields n off).filter (fun Fi => Fi.1.writable && fieldOk s (homeOf n off) off w Fi.1 Fi.2)

/-- Is a field of the word a STOP field whose write is refused? -/
def stopRefused (s : State) (n off : Nat) (Fi : Fld × Nat) : Bool :=
  decide (Fi.1.app = .stop) && stopHeld s (homeOf n off) off

/-- The fields that a write of `w` hands to their class. One refused write is one refusal, however many STOP fields the word holds
(log entry 145): the first of them stands for all. -/
def wordTaken (s : State) (n off w : Nat) : List (Fld × Nat) :=
  (wordOk s n off w).filter (fun Fi => !stopRefused s n off Fi) ++ ((wordOk s n off w).find? (stopRefused s n off)).toList

/-- A write of a whole word: every writable field of the word on its own (R60, R64). -/
def writeWord (s : State) (n off w writer : Nat) : State × Nat :=
  ((wordTaken s n off w).foldl (fun t Fi => (takeField t (homeOf n off) Fi.1 Fi.2 (bits w Fi.1.lsb Fi.1.wid) writer).1) s,
   if (wordFields n off).any (fun Fi => Fi.1.writable && !fieldOk s (homeOf n off) off w Fi.1 Fi.2) then stRange
   else if (wordOk s n off w).any (stopRefused s n off) then stBusy else stOk)

/-- Is the shadow at key `k` taken at block `n`'s quiet point: one of its own, or of a set it shares? -/
def takenAt (n k : Nat) : Bool := decide (homeOf n (k / 32 % 1048576) = keyBlock k) || decide (keyBlock k = n)

/-- SHADOWPEND of block `n` from its pending shadows; QUIETLATE and the wait end with the last of them. -/
def pendShown (s : State) (n : Nat) : State :=
  if s.rf.shadow.any (fun e => decide (keyBlock e.1 = n)) then s.wr R.BLKSTAT_SHADOWPEND 1 0 n
  else
    let t : State := { s with rf := { s.rf with since := s.rf.since.del n } }
    t.wr R.BLKSTAT_SHADOWPEND 0 0 n

/-- The quiet point of block `n`: its pending shadows take force (R60), QUIETLATE and SHADOWPEND end unless one has to
wait for its further condition. -/
def quietPoint (s : State) (n : Nat) : State :=
  let mine := s.rf.shadow.filter (fun e => takenAt n e.1 && mayTake s e.1)
  let left := s.rf.shadow.filter (fun e => !(takenAt n e.1 && mayTake s e.1))
  let t : State := { s with rf := { s.rf with
    val := mine.foldl (fun m e => m.ins e.1 e.2) s.rf.val
    shadow := left
    since := if left.any (fun e => takenAt n e.1) then s.rf.since.del n else s.rf.since } }
  (pendShown (pendShown t n) (homeOf n 0x40)).wr R.BLKSTAT_QUIETLATE 0 0 n

/-- The fields of block `n`'s groups that `p` selects, once committed, go to the block's quiet point (R63); a stopped
block takes them at once. -/
def releaseGroup (s : State) (n : Nat) (p : Nat → Bool) : State :=
  let mine := s.rf.group.filter (fun e => decide (keyBlock e.1 = n) && p e.1)
  if mine.isEmpty then s
  else
    let t : State := { s with rf := { s.rf with
      group := s.rf.group.filter (fun e => !(decide (keyBlock e.1 = n) && p e.1)) } }
    let t := mine.foldl (fun u e => toShadow u n e.1 e.2) t
    if t.running n then t else quietPoint t n

/-! ## The configuration check (R69, R70) -/

/-- The bits of fields with an apply class in the word at `off` of block `n`, value in force. -/
def configWord (s : State) (n off : Nat) : Nat :=
  (wordFields n off).foldl (fun a Fi =>
    if Fi.1.app = .none ∨ Fi.1.acc = .wo then a
    else a + s.rd Fi.1 Fi.2 (copyOf Fi.1 (homeOf n off)) * 2 ^ Fi.1.lsb) 0

/-- The word offsets of block `n` that hold a field with an apply class, ascending and without repeats. -/
def configOffsets (n : Nat) : List Nat :=
  let all := (fieldsOf n).flatMap (fun F =>
    if F.app = .none then [] else (List.range F.cnt).map (fun i => F.offset i))
  (all.foldl (fun (m : Sparse Unit) o => m.ins o ()) []).map (·.1)

/-- The 32 bytes of a tenant entry with its read-only fields 0 (Table 7.8). -/
def tenantConfig (x : Tenant) : List Nat :=
  leBytes (b2n x.quota * 2 ^ 63 + x.dquota * 2 ^ 40 + x.parklim * 2 ^ 2) 8 ++ leBytes (x.squota * 2 ^ 37) 8 ++
  leBytes (x.notsess0 * 2 ^ 48 + x.notsess1 * 2 ^ 32) 8 ++ leBytes 0 8

/-- The block's on-chip tables that no register word holds: the tenant entries in force, in TIE (R233, Table 7.8). -/
def configTables (s : State) (n : Nat) : List Nat :=
  if n = 23 then (List.range 1024).flatMap (fun i => tenantConfig (s.tie.tenants.get i {})) else []

/-- The block's configuration CRC. -/
def configCrc (s : State) (n : Nat) : Nat :=
  Crypto.crc32c ((configOffsets n).flatMap (fun o => leBytes (configWord s n o) 4) ++ configTables s n)

/-- The device CRC over the 58 block CRCs of the latest sweep (R70). -/
def deviceCrc (s : State) : Nat :=
  Crypto.crc32c ((List.range 58).flatMap (fun n => leBytes (s.rd R.CFGCRC_CRC 0 n) 4))

/-! ## Snapshots (R68) -/

/-- Copy the counters that `p` selects by block into a bank. -/
def copyBank (ctr bank : Sparse Nat) (p : Nat → Bool) : Sparse Nat :=
  (ctr.filter (fun e => p (ctrBlock e.1))).foldl (fun m e => m.ins e.1 e.2)
    (bank.keep (fun k => !p (ctrBlock k)))

/-- One block into bank 0: SNAPGEN rises. -/
def snapBlock (s : State) (n : Nat) : State :=
  { s with rf := { s.rf with bank0 := copyBank s.rf.ctr s.rf.bank0 (fun m => m = n) } }.wr
    R.SNAPGEN_GEN (s.rd R.SNAPGEN_GEN 0 n + 1) 0 n

/-- Every block into bank 1: the count 0x2020.02 rises. -/
def snapBank1 (s : State) : State :=
  let t : State := { s with rf := { s.rf with bank1 := s.rf.ctr } }
  setEnt t (ekey 0x2020 2) ((ent t (ekey 0x2020 2) 0 + 1) % 2 ^ 32)

end Sys2Proof.Machine
end

