-- ==== Sys2Proof/Machine/KeeperOps.lean ====
section
/-! DEFINITION. Keeper flash content (Table 11.10), the option area (R360), commit records and images (R444 to R449), the
stud book's slots (R440, R441), and what a level-4 or level-5 reset reads from them. -/

namespace Sys2Proof.Machine

/-! ## The option area (R360) -/

/-- The first byte of option-area copy `c`. -/
def optBase (c : Nat) : Nat := c * 0x40000

/-- COUNT of a copy. -/
def optCount (s : State) (c : Nat) : Nat := kle s (optBase c + 12) 4

/-- Is a copy's MAGIC right? -/
def optMagic (s : State) (c : Nat) : Bool := decide (kbytes s (optBase c) 8 = ascii "CSFNOPTN")

/-- Is a copy valid: MAGIC, COUNT within the copy, CRC over header and records? -/
def optValid (s : State) (c : Nat) : Bool :=
  optMagic s c && decide (optCount s c ≤ 8187) &&
  decide (kle s (optBase c + 32 + 8 * optCount s c) 4 =
    Crypto.crc32c (kbytes s (optBase c) (32 + 8 * optCount s c)))

/-- GEN of a copy. -/
def optGen (s : State) (c : Nat) : Nat := kle s (optBase c + 8) 4

/-- The copy in force: the valid one with the higher GEN, copy 0 when equal, none without a valid copy. -/
def optCopy (s : State) : Option Nat :=
  match optValid s 0, optValid s 1 with
  | true, true => if optGen s 0 < optGen s 1 then some 1 else some 0
  | true, false => some 0
  | false, true => some 1
  | false, false => none

/-- The records of the copy in force, each with its index: 64-bit words. -/
def optRecords (s : State) : List (Nat × Nat) :=
  match optCopy s with
  | none => []
  | some c => (List.range (optCount s c)).map (fun i => (i, kle s (optBase c + 32 + 8 * i) 8))

/-- Fields of an option record (Table 11.11). -/
def optBlock (r : Nat) : Nat := bits r 56 8
def optOffset (r : Nat) : Nat := bits r 38 18 * 4
def optValue (r : Nat) : Nat := bits r 0 32

/-- The fixed item `w` of the option area (0 level enables, 1 feature bits), 0 where no record gives it. -/
def optFixed (s : State) (w : Nat) : Nat :=
  (optRecords s).foldl (fun a p => if optBlock p.2 = 0xFF ∧ bits p.2 38 18 = w then optValue p.2 else a) 0

/-- Does a record name a word with a field that has an apply class? -/
def optNames (r : Nat) : Bool :=
  decide (optBlock r < 58) && (wordFields (optBlock r) (optOffset r)).any (fun Fi => Fi.1.writable)

/-- Would a control-space write of the whole word be accepted (R360)? -/
def optAccepted (s : State) (r : Nat) : Bool :=
  (wordFields (optBlock r) (optOffset r)).all (fun Fi =>
    !Fi.1.writable || fieldOk s (optBlock r) (optOffset r) (optValue r) Fi.1 Fi.2)

/-- One record applied: the fields of its word take the value as their reset value. A word of GAI_ROW is checked with its row, once
every record has applied (R25, `optGaitRows`). Records for PWR, RST and CLK count
only at a reset of level 5 (chapter 12): `aon`. -/
def optApplyOne (lvl : Nat) (aon : Bool) (s : State) (p : Nat × Nat) : State :=
  let r := p.2
  let n := optBlock r
  if n = 0xFF then s
  else if (n = 12 ∨ n = 13 ∨ n = 14) ∧ !aon then s
  else if optNames r && (optAccepted s r || (decide (n = 0) && decide (0x100 ≤ optOffset r))) then
    (wordFields n (optOffset r)).foldl (fun t Fi =>
      if Fi.1.writable ∧ Fi.1.lvl ≤ lvl then t.wr Fi.1 (bits (optValue r) Fi.1.lsb Fi.1.wid) Fi.2 (copyOf Fi.1 n) else t) s
  else raise s 0x3880 [p.1, n, bits r 38 18]

/-- The gait rows after every record: a row that breaks R26 or R27 keeps its vendor default, event 0x04C0 (R25). -/
def optGaitRows (s : State) : State :=
  (List.range 6).foldl (fun t g =>
    match rowRefusal (fun F => t.rd F g) with
    | none => t
    | some (f, v) =>
      raise (rowFields.foldl (fun u F => u.wr F (F.dflt g) g) t) 0x04C0 [g, Config.payloadCode 0x04C0 f, v]) s

/-! ## The sequence tables' check (R374) -/

/-- The number of steps before the first END of a table. -/
def seqLen (t : Nat → Nat) : Nat :=
  ((List.range 64).find? (fun i => stepOp (t i) = 0)).getD 64

/-- Is falling step `e` one that takes back what rising step `u` did? -/
def undoes (u e : Nat) : Bool :=
  (decide (stepOp u = 1) && decide (stepOp e = 2) && decide (stepArg u = stepArg e)) ||
  (decide (stepOp u = 5) && decide (stepOp e = 6) && decide (stepArg u = stepArg e))

/-- The reason that a step is refused by its own entry (1 OP, 2 ARG, 3 TIME, 4 a field without meaning), 0 if none. -/
def stepBad (falling : Bool) (e : Nat) : Nat :=
  let op := stepOp e
  let okTab := if falling then op = 2 ∨ op = 3 ∨ op = 4 ∨ op = 6 ∨ op = 7 else op = 1 ∨ op = 3 ∨ op = 4 ∨ op = 5 ∨ op = 7
  let maxArg := if op = 1 ∨ op = 2 then 23 else if op = 4 then 31 else if op = 5 ∨ op = 6 then 3 else if op = 7 then 1 else 31
  if ¬ okTab then 1
  else if maxArg < stepArg e then 2
  else if (op = 1 ∨ op = 2 ∨ op = 3 ∨ op = 4) ∧ stepTime e = 0 then 3
  else if (op ≠ 1 ∧ (stepHard e ∨ stepChatter e ≠ 0)) ∨ (falling ∧ stepMirror e ≠ 0) then 4
  else 0

/-- The first refused step of the two tables: (table, step, reason), rising first; reason 5 a MIRROR at or beyond the
falling END, 6 a rail or output that the fall from MIRROR does not take back. -/
def seqRefusal (rise fall : Nat → Nat) : Option (Nat × Nat × Nat) :=
  let nr := seqLen rise
  let nf := seqLen fall
  let badRise := (List.range nr).filterMap (fun i =>
    let e := rise i
    let own := stepBad false e
    if own ≠ 0 then some (0, i, own)
    else if nf ≤ stepMirror e ∧ ¬ (nf = 0 ∧ stepMirror e = 0 ∧ nr = 0) then some (0, i, 5)
    else if (List.range (i + 1)).any (fun j =>
        (decide (stepOp (rise j) = 1) || decide (stepOp (rise j) = 5)) &&
        !((List.range nf).any (fun k => decide (stepMirror e ≤ k) && undoes (rise j) (fall k)))) then some (0, i, 6)
    else none)
  let badFall := (List.range nf).filterMap (fun i =>
    let own := stepBad true (fall i)
    if own ≠ 0 then some (1, i, own) else none)
  match badRise with
  | b :: _ => some b
  | [] => badFall.head?

/-- The result of a check: SEQBAD, BADTAB, BADSTEP and event 0x3CC0, or SEQBAD 0. -/
def seqReport (s : State) (bad : Option (Nat × Nat × Nat)) : State :=
  match bad with
  | none => s.wr R.PWR_SEQSTAT_SEQBAD 0
  | some (t, i, why) =>
    raise (((s.wr R.PWR_SEQSTAT_SEQBAD 1).wr R.PWR_SEQSTAT_BADTAB t).wr R.PWR_SEQSTAT_BADSTEP i)
      0x3CC0 [t, i, Config.payloadCode 0x3CC0 why]

/-- The option records' sequence tables are checked as one commit at a level-5 reset (R374). -/
def optSeqTables (s : State) : State :=
  match seqRefusal (fun i => s.rd R.PWR_RISE i) (fun i => s.rd R.PWR_FALL i) with
  | none => s
  | some b =>
    seqReport ((List.range 64).foldl (fun t i => (t.wr R.PWR_RISE 0 i).wr R.PWR_FALL 0 i) s) (some b)

/-- The option area is read and applied at a reset of level 4 or 5 (R358, R360). -/
def applyOptions (s : State) (lvl : Nat) (aon : Bool) : State :=
  let s : State := { s with kpf := { s.kpf with optLevels := optFixed s 0, optFeatures := optFixed s 1 } }
  let s := (List.range 2).foldl (fun t c =>
    if optValid t c then t
    else raise t 0x3800 [c, Config.payloadCode 0x3800 (b2n (optMagic t c))]) s
  match optCopy s with
  | none =>
    raise (((s.wr R.KPF_OPTSTAT_COPY 0).wr R.KPF_OPTSTAT_RECORDS 0).wr R.KPF_OPTGEN_GEN 0) 0x3820 [optGen s 0, optGen s 1]
  | some c =>
    let t := (optRecords s).foldl (optApplyOne lvl aon) s
    let t := optGaitRows t
    let t := if aon then optSeqTables t else t
    ((t.wr R.KPF_OPTSTAT_COPY (c + 1)).wr R.KPF_OPTSTAT_RECORDS (optCount s c)).wr R.KPF_OPTGEN_GEN (optGen s c)

/-- Level enables (0x1000.05), enabled level (R7) of a silicon of level 1. -/
def levelEnables (s : State) : Nat := s.kpf.optLevels

/-- The highest level n, not above the silicon's, for which every enable bit of levels 2 to n is set (R7). -/
def enabledLevel (silicon enables : Nat) : Nat :=
  (List.range (silicon - 1)).foldl (fun n i => if n = i + 1 ∧ bit enables i then i + 2 else n) 1

/-- Feature bits (Table 11.11). -/
def twinOperator (s : State) : Bool := bit s.kpf.optFeatures 0
def legacyLoad (s : State) : Bool := bit s.kpf.optFeatures 1

/-! ## Commit records and images (R444 to R449) -/

/-- The 64-byte record `i` of the commit area (Table 11.10: 256 KiB at 0x0008_0000). -/
def commitOff (i : Nat) : Nat := 0x80000 + 64 * i

/-- A record's MAGIC and CRC check. -/
def commitValid (s : State) (i : Nat) : Bool :=
  decide (kbytes s (commitOff i) 8 = ascii "CSFNCOMT") &&
  decide (kle s (commitOff i + 60) 4 = Crypto.crc32c (kbytes s (commitOff i) 60))

/-- The slots of the commit area that hold any programmed byte. -/
def commitUsed (s : State) : List Nat :=
  (s.kpf.flash.filterMap (fun e =>
    if 0x80000 ≤ e.1 ∧ e.1 < 0xC0000 then some ((e.1 - 0x80000) / 64) else none)).eraseDups

/-- The newest valid record among those that `p` selects by KIND: slot and COMMITSEQ. -/
def newestCommit (s : State) (p : Nat → Bool) : Option (Nat × Nat) :=
  (commitUsed s).foldl (fun best i =>
    if commitValid s i && p (kbyte s (commitOff i + 16)) then
      let q := kle s (commitOff i + 8) 8
      match best with
      | some (j, b) => if b < q then some (i, q) else some (j, b)
      | none => some (i, q)
    else best) none

/-- The active boot slot: 0 A, 1 B (R446); A where no record names one. -/
def activeSlot (s : State) : Nat :=
  match newestCommit s (fun k => k ≤ 1) with
  | some (i, _) => kbyte s (commitOff i + 16)
  | none => 0

/-- COMMITSEQ of the record that names the active slot. -/
def activeSeq (s : State) : Nat :=
  match newestCommit s (fun k => k ≤ 1) with
  | some (_, q) => q
  | none => 0

/-- The slot that the next commit record takes (R446): behind the newest, past torn ones; a full half is left for the other. -/
def commitNext (s : State) : Nat :=
  match newestCommit s (fun _ => true) with
  | none => 0
  | some (i, _) =>
    let half := i / 2048 * 2048
    let used := commitUsed s
    match (List.range (2047 - i % 2048)).find? (fun k => !used.contains (i + 1 + k)) with
    | some k => i + 1 + k
    | none => (half + 2048) % 4096

/-- Append a commit record (Table 14.12); a half is erased when its first slot is taken (R446). -/
def commitAppend (s : State) (kind reason part rollback : Nat) (version : List Nat) : State :=
  let seq := (match newestCommit s (fun _ => true) with | some (_, q) => q | none => 0) + 1
  let slot := commitNext s
  let s := if slot % 2048 = 0 then kerase s (commitOff slot) 0x20000 else s
  let body := ascii "CSFNCOMT" ++ leBytes seq 8 ++ [kind, reason, part, 0] ++ leBytes rollback 4 ++
    (version ++ List.replicate 32 0).take 32 ++ [0, 0, 0, 0]
  kprog s (commitOff slot) (body ++ leBytes (Crypto.crc32c body) 4)

/-- The first byte of boot slot A, B or the staging area (2). -/
def imageBase (which : Nat) : Nat := if which = 0 then 0x400000 else if which = 1 then 0x1000000 else 0x1C00000

/-- Part entry `j` of the image at `base` (Table 11.10, Table 14.11): type, offset, length, hash. -/
def partEntry (s : State) (base j : Nat) : Nat × Nat × Nat × List Nat :=
  let e := base + 64 + 64 * j
  (kbyte s e, kle s (e + 4) 4, kle s (e + 8) 4, kbytes s (e + 16) 48)

/-- PARTS of an image. -/
def partCount (s : State) (base : Nat) : Nat := kle s (base + 10) 2

/-- Does part `j` break the layout rules of R444? -/
def partBad (s : State) (base j : Nat) : Bool :=
  let e := partEntry s base j
  decide (e.1 = 0) || decide (9 < e.1) || decide (e.2.1 < 4096) || decide (e.2.1 % 4096 ≠ 0) ||
  decide (0xC00000 < e.2.1 + e.2.2.1) ||
  (List.range j).any (fun k =>
    let f := partEntry s base k
    decide (e.2.1 < f.2.1 + f.2.2.1) && decide (f.2.1 < e.2.1 + e.2.2.1))

/-- The checks of step 2 of Table 14.13, then of step 3 (R444, R445, R447): 0 passed, else reason and part. -/
def imageCheck (s : State) (base : Nat) : Option (Nat × Nat) :=
  let man := kbytes s base 1280
  let n := partCount s base
  let rb := kle s (base + 16) 4
  if kbytes s base 8 ≠ ascii "CSFNMANI" ∨ kle s (base + 8) 2 ≠ 1 ∨ n = 0 ∨ 16 < n then some (4, 0)
  else if !Crypto.ecdsaOk s.fuses.imgkey (man.take 1184) (man.drop 1184) then some (1, 0)
  else if 1 < kbyte s (base + 12) ∨ kbyte s (base + 13) < 1 then some (2, 0)
  else if rb < s.fuses.rollback ∨ 64 < rb then some (3, 0)
  else
    match (List.range n).find? (fun j => partBad s base j) with
    | some j => some (4, j)
    | none =>
      if !(List.range n).any (fun j => (partEntry s base j).1 = 1) then some (4, 0)
      else
        match (List.range n).find? (fun j =>
          let e := partEntry s base j
          Crypto.sha384 (kbytes s (base + e.2.1) e.2.2.1) ≠ e.2.2.2) with
        | some j => some (5, j)
        | none => none

/-- VERSION of an image. -/
def imageVersion (s : State) (base : Nat) : List Nat := kbytes s (base + 20) 32

/-- Report a refusal for signature or rollback (R468). -/
def reportRefused (s : State) (base reason : Nat) : State :=
  if reason = 1 ∨ reason = 3 then raise s 0x6040 [reason, kle s (base + 16) 4, s.fuses.rollback] else s

/-! ## The stud book's slots (R440, R441) -/

/-- Entries per copy and the first byte of a copy, by the part's density (Table 11.10). -/
def studSlots (s : State) : Nat := if s.kpf.sfdpDensity = 0 then 131072 else 524288
def studBase (s : State) (copy : Nat) : Nat :=
  if s.kpf.sfdpDensity = 0 then 0x3000000 + copy * 0x800000 else 0x4000000 + copy * 0x2000000

/-- The byte offset of a slot. -/
def studOff (s : State) (copy slot : Nat) : Nat := studBase s copy + 64 * slot

/-- A slot is erased when all its bytes are 0xFF, valid when its CRC checks, torn otherwise. -/
def studErased (s : State) (copy slot : Nat) : Bool := (kbytes s (studOff s copy slot) 64).all (fun b => b = 0xFF)
def studValid (s : State) (copy slot : Nat) : Bool :=
  !studErased s copy slot &&
  decide (kle s (studOff s copy slot + 60) 4 = Crypto.crc32c (kbytes s (studOff s copy slot) 60))

/-- The slots of a copy that hold any programmed byte. -/
def studUsed (s : State) (copy : Nat) : List Nat :=
  (s.kpf.flash.filterMap (fun e =>
    if studBase s copy ≤ e.1 ∧ e.1 < studBase s copy + 64 * studSlots s
    then some ((e.1 - studBase s copy) / 64) else none)).eraseDups

/-- The slot and STBSEQ of the highest valid entry of a copy. -/
def studHighest (s : State) (copy : Nat) : Option (Nat × Nat) :=
  (studUsed s copy).foldl (fun best i =>
    if studValid s copy i then
      let q := kle s (studOff s copy i + 32) 8
      match best with
      | some (j, b) => if b < q then some (i, q) else some (j, b)
      | none => some (i, q)
    else best) none

/-- The highest event sequence found in the stud book (R437). -/
def studHighestEvent (s : State) : Nat :=
  ([0, 1].flatMap (fun c => (studUsed s c).filter (fun i => studValid s c i) |>.map (fun i => kle s (studOff s c i) 8))).foldl max 0

/-- The 64 bytes of a stud book entry (Table 14.8). -/
def studBytes (e : StudEntry) (stbseq : Nat) : List Nat :=
  let body := recordBytes e.record ++ leBytes stbseq 8 ++ leBytes e.resets 4 ++ [e.dev, e.twin, 0, 0] ++
    leBytes e.fwid 8 ++ [0, 0, 0, 0]
  body ++ leBytes (Crypto.crc32c body) 4

end Sys2Proof.Machine
end

