-- ==== Sys2Proof/Machine/KeyOps.lean ====
section
/-! DEFINITION. Key slots, derivations and role keys (R456 to R461). -/

namespace Sys2Proof.Machine

/-- A slot's key bytes; the fused keys in slots 0 and 1. -/
def slotBytes (s : State) (n : Nat) : Option (List Nat) :=
  if n = 0 then some s.fuses.root
  else if n = 1 then some s.fuses.prov
  else (s.key.slots.find? n).map (·.bytes)

/-- Is slot `n` loaded? -/
def slotLoaded (s : State) (n : Nat) : Bool := s.key.slots.has n

/-- Install a key in a slot. -/
def setSlot (s : State) (n : Nat) (kind : KeyKind) (bytes : List Nat) : State :=
  { s with key := { s.key with slots := s.key.slots.ins n { kind, bytes } } }

/-- Empty a slot. -/
def clearSlot (s : State) (n : Nat) : State :=
  { s with key := { s.key with slots := s.key.slots.del n } }

/-- KEY_STAT.LOADED from slots 2 to 5 (Table 15.5). -/
def showLoaded (s : State) : State :=
  s.wr R.KEY_STAT_LOADED ((List.range 4).foldl (fun a b => if slotLoaded s (b + 2) then a + 2 ^ b else a) 0)

/-- Derive a key from ROOT into a fixed slot with a label and a context (R458); while debug is unlocked, none (R470). -/
def deriveSlot (s : State) (slot : Nat) (label : String) (context : List Nat) (kind : KeyKind) (len : Nat) : State :=
  if s.on R.KEY_STAT_DEBUG then s
  else (setSlot s slot kind (Crypto.derive s.fuses.root (ascii label) context len)).bump C.KEY_DERIVES

/-- Slot 6 (store) and slot 9 (wrapping key), at every reset that reaches KEY (R458). -/
def deriveFixed (s : State) : State :=
  deriveSlot (deriveSlot s 6 "STORE-XTS" (beBytes s.fuses.partNumber 8) .xtsPair 64) 9 "KEYWRAP" [] .aes256 32

/-- Slot 7: the image's key pair under its SEALSEQ (R458). -/
def deriveSave (s : State) (sealseq : Nat) : State := deriveSlot s 7 "SAVE-XTS" (beBytes sealseq 8) .xtsPair 64

/-- Slot 8: the rehearsal's key pair under the REHEARSALS count (R458). -/
def deriveRehearse (s : State) : State :=
  deriveSlot s 8 "REHEARSE-XTS" (beBytes (s.ctr C.SAV_REHEARSALS) 8) .xtsPair 64

/-- The 40 bytes of KEY_WRAP[slot]. -/
def wrapBytes (s : State) (slot : Nat) : List Nat :=
  (List.range 10).flatMap (fun w => leBytes (s.rd R.KEY_WRAP (16 * (slot - 2) + w)) 4)

/-- Place a wrapped key in KEY_WRAP[slot]. -/
def setWrap (s : State) (slot : Nat) (bytes : List Nat) : State :=
  (List.range 10).foldl (fun t w =>
    t.wr R.KEY_WRAP (leNat ((bytes.drop (4 * w)).take 4)) (16 * (slot - 2) + w)) s

/-- Unwrap every KEY_WRAP that is not all zero; a failed check leaves the slot empty with event 0x60A0 (R461). -/
def restoreRoleKeys (s : State) : State :=
  [2, 3, 4, 5].foldl (fun t n =>
    let w := wrapBytes t n
    if w.all (fun b => b = 0) then t
    else
      match slotBytes t 9 with
      | none => t
      | some kw =>
        match Crypto.keyUnwrap kw w with
        | some k => setSlot t n .aes256 k
        | none => raise t 0x60A0 [n]) s

/-- What KEY does at a reset of level 4 or 5: derivations, role keys, event 0x6080 while slot 4 or 5 is empty (R459). -/
def keyReset (s : State) : State :=
  let t := showLoaded (restoreRoleKeys (deriveFixed s))
  if slotLoaded t 4 && slotLoaded t 5 then t
  else raise t 0x6080 ([4, 5].filter (fun n => !slotLoaded t n))

/-- The key that opens sessions of a role: its slot, or KP for keeper and service while the slot is empty (R459).
Role 0 observer, 1 operator, 2 keeper, 3 service. -/
def roleKey (s : State) (role : Nat) : Option (List Nat) :=
  match slotBytes s (2 + role) with
  | some k => some k
  | none => if role = 2 ∨ role = 3 then some s.fuses.prov else none

/-- Each XTS lane's self-test at a reset of level 4 or 5: a failing lane sets its bit and raises 0x5880 + lane (R466). -/
def xtsSelfTest (s : State) : State :=
  (List.range 32).foldl (fun t l => if bit s.fuses.laneFail l then raise t (0x5880 + l) [l, Config.payloadCode 0x5880 0] else t)
    (s.wr R.XTS_STAT_LANEFAIL s.fuses.laneFail)

end Sys2Proof.Machine
end

