-- ==== Sys2Proof/Machine/CalOps.lean ====
section
/-! DEFINITION. Calibration sets and the interpolation (R412 to R418). -/

namespace Sys2Proof.Machine

/-- A TEMP16 word as a signed number of sixteenths of a degree. -/
def temp16 (v : Nat) : Int := if v < 32768 then v else (v : Int) - 65536

/-- A signed number as a 16-bit word. -/
def ofTemp16 (t : Int) : Nat := (t % 65536).toNat

/-- A signed byte. -/
def sbyte (v : Nat) : Int := if v < 128 then v else (v : Int) - 256

/-- The keeper offset of set `k` (R412). -/
def setBase (k : Nat) : Nat := 0x101000 + k * 0x10000

/-- A byte of set `k` in CAL's RAM. -/
def setByte (s : State) (k off : Nat) : Nat := s.cal.sets.get (k * 65536 + off) 0

/-- Is the set in keeper flash valid: MAGIC, TEMP and CRC? 0 valid, 1 MAGIC, 2 TEMP, 3 CRC. -/
def setFault (s : State) (k : Nat) : Nat :=
  if kbytes s (setBase k) 8 ≠ ascii "CSFNCALS" then 1
  else if kbyte s (setBase k + 8) ≠ 35 * k then 2
  else if kle s (setBase k + 12) 4 ≠ Crypto.crc32c (kbytes s (setBase k + 64) 65472) then 3
  else 0

/-- CAL reads the four sets into its RAM; an invalid one counts as all offsets 0, with event 0x48C0 (R412). -/
def calReload (s : State) : State :=
  let t := (List.range 4).foldl (fun u k =>
    match setFault u k with
    | 0 =>
      { u with cal := { u.cal with
          sets := (kbytes u (setBase k) 65536).zipIdx.foldl (fun m e => m.put (k * 65536 + e.2) e.1 0)
            (u.cal.sets.keep (fun x => x / 65536 ≠ k))
          setOk := bitSet u.cal.setOk k } }
    | f =>
      raise { u with cal := { u.cal with
          sets := u.cal.sets.keep (fun x => x / 65536 ≠ k), setOk := bitClr u.cal.setOk k } }
        0x48C0 [k, Config.payloadCode 0x48C0 f]) s
  t.wr R.CAL_STAT_SETSOK (b2n (decide (t.cal.setOk = 15)))

/-- Rounding half away from zero of `a / b`, b positive (R414). -/
def roundAway (a : Int) (b : Nat) : Int :=
  if 0 ≤ a then ((2 * a.toNat + b) / (2 * b) : Nat)
  else -(((2 * (-a).toNat + b) / (2 * b) : Nat) : Int)

/-- R414's clamp of a temperature to 0 to 1,680. -/
def clampT (t : Int) : Nat := if t < 0 then 0 else min 1680 t.toNat

/-- R414: the offset at temperature `t` from the four sets' offsets `f 0` to `f 3`. -/
def interpolate (f : Nat → Int) (t : Int) : Int :=
  let c := clampT t
  let j := min 2 (c / 560)
  let w := c - 560 * j
  f j + roundAway ((f (j + 1) - f j) * w) 560

/-- A sensor has failed (R410). -/
def sensorFailed (s : State) (i : Nat) : Bool :=
  if i < 32 then s.rbit R.SEN_FAILED i else s.rbit R.SEN_FAILEDH (i - 32)

/-- The temperature that sensor `i` governs with: its reading, or Tj where it has failed (R414). -/
def governing (s : State) (i : Nat) : Int :=
  temp16 (if sensorFailed s i then s.rd R.SEN_TJ_TJ else s.rd R.SEN_T i)

/-- The sensor of a set's byte offset (Table 13.6): DRAM delays and Vref by channel, SerDes lanes, store by channel. -/
def governorOf (off : Nat) : Nat :=
  if off < 0x2840 then (off - 0x40) / 2 / 320
  else if off < 0x2D40 then (off - 0x2840) / 80
  else if off < 0x3080 then
    let lane := (off - 0x2D40) / 16
    if lane < 16 then 16 + lane / 4 else if lane < 26 then 20 else if lane < 36 then 21 else 22
  else 37 + (off - 0x4000) / 8 / 128 / 8

/-- The interpolated offset of a byte-sized target. -/
def calOffset (s : State) (off : Nat) : Int :=
  interpolate (fun k => sbyte (setByte s k off)) (governing s (governorOf off))

/-- The interpolated trim of sensor `i` (T0 to T47, then V0 to V23), governed by its own reading (voltage trims by Tj,
log entry 17). -/
def calTrim (s : State) (i : Nat) : Int :=
  interpolate (fun k => temp16 (setByte s k (0x3080 + 2 * i) + 256 * setByte s k (0x3080 + 2 * i + 1)))
    (if i < 48 then governing s i else temp16 (s.rd R.SEN_TJ_TJ))

/-- The byte offset in a set of a write (w 0) or read (w 1) delay of channel c, rank r, lane l (Table 13.5). -/
def delayOff (c r l w : Nat) : Nat := 0x40 + 2 * (320 * c + 80 * r + l) + w

/-- The byte offset in a set of a read Vref. -/
def vrefOff (c l : Nat) : Nat := 0x2840 + 80 * c + l

end Sys2Proof.Machine
end

