-- ==== Sys2Proof/Machine/Transport.lean ====
section
/-! DEFINITION. The meanings of the transport's commands (chapters 04 and 05): receiving, context fetches, Admit,
Translate, Place, Answer, the rein loop and the context update port. -/

namespace Sys2Proof.Machine

/-! ## Receiving (R133 to R137, R169, R170) -/

/-- A frame or packet dropped with no response; drops without a counter of their own count as OTHERDROP (log entry 19). -/
def dropFrame (s : State) (lport : Nat) : State := s.bump C.PRT_OTHERDROP 1 (lport % 4) (lport / 4)

/-- Does an opcode begin a message, end it, carry an immediate? -/
def opFirst (o : Nat) : Bool := [0x00, 0x04, 0x05, 0x06, 0x0A, 0x0B, 0x0C, 0x13, 0x14, 0x1C, 0x1D].contains o
def opLast (o : Nat) : Bool := [0x02, 0x03, 0x04, 0x05, 0x08, 0x09, 0x0A, 0x0B, 0x0C, 0x13, 0x14, 0x1C, 0x1D].contains o
def opImm (o : Nat) : Bool := [0x03, 0x05, 0x09, 0x0B].contains o
def opSend (o : Nat) : Bool := decide (o ≤ 0x05)
def opWrite (o : Nat) : Bool := decide (0x06 ≤ o) && decide (o ≤ 0x0B)

/-- The kind of request of a supported opcode (Table 4.4). -/
def opKind (o : Nat) : Option ReqKind :=
  if opSend o then some .send
  else if opWrite o then some .write
  else match o with
  | 0x0C => some .read
  | 0x13 => some .cas
  | 0x14 => some .fadd
  | 0x1C => some .flush
  | 0x1D => some .awrite
  | _ => none

/-- PSNs that a packet takes (R135). -/
def psnCount (q : Qp) (k : Packet) : Nat := if k.opcode = 0x0C then max 1 ((k.len + mtu q - 1) / mtu q) else 1

/-- Check 9 of Table 4.3: opcode supported, message sequence valid, lengths within the path MTU and the message. -/
def check9 (q : Qp) (k : Packet) : Bool :=
  let n := k.payload.length
  let o := k.opcode
  match opKind o with
  | none => false
  | some .send =>
    (if opFirst o then decide (q.msg = 0) else decide (q.msg = 1)) &&
    (if opLast o then decide (n ≤ mtu q) && (opFirst o || decide (1 ≤ n)) else decide (n = mtu q)) &&
    decide (q.sendBuf.length + n ≤ 4096)
  | some .write =>
    let left := if opFirst o then k.len else q.msgLeft
    (if opFirst o then decide (q.msg = 0) else decide (q.msg = 2)) &&
    (if opLast o then decide (n = left) && decide (n ≤ mtu q) else decide (n = mtu q) && decide (n < left))
  | some .read => decide (q.msg = 0)
  | some .awrite => decide (q.msg = 0) && decide (n = 8)
  | some _ => decide (q.msg = 0)

/-- Check 10: alignment of atomics. -/
def check10 (k : Packet) : Bool :=
  match opKind k.opcode with
  | some .cas | some .fadd => decide (k.va % 8 = 0)
  | some .awrite => decide (k.va % 8 = 0) && decide (k.len = 8)
  | _ => true

/-- Slots that requests in flight will fill. -/
def slotsClaimed (s : State) (i : Nat) : Nat :=
  ((reqsOf s i).filter (fun r => r.stage ≠ .done && !r.dup && r.last && (r.kind = .send || r.imm.isSome))).length

/-- Does the packet need a slot free at check 14? -/
def needsSlot (k : Packet) : Bool := (opSend k.opcode && opFirst k.opcode) || (opWrite k.opcode && opImm k.opcode)

/-- The request that an accepted packet makes. -/
def mkReq (s : State) (i lport : Nat) (q : Qp) (k : Packet) (kind : ReqKind) : Req :=
  let contd := opWrite k.opcode && !opFirst k.opcode
  { id := s.xpt.nextReq, qp := i, lport, psn := k.psn, npsn := psnCount q k, kind
    rkey := if contd then q.msgRkey else k.rkey
    va := if contd then q.msgVa else k.va
    len := match kind with
      | .read | .flush => k.len
      | .cas | .fadd => 8
      | _ => k.payload.length
    payload := if kind = .send ∧ opLast k.opcode then q.sendBuf ++ k.payload else k.payload
    compare := k.compare, swapAdd := k.swapAdd, ackReq := k.ackReq, last := opLast k.opcode
    imm := if opImm k.opcode then some k.imm else none
    start := s.now, prior := (q.msg, q.msgVa, q.msgRkey, q.msgLeft, q.sendBuf) }

/-- The message state of the context after a packet. -/
def msgAfter (q : Qp) (k : Packet) : Qp :=
  let n := k.payload.length
  if opLast k.opcode then { q with msg := 0, sendBuf := [], msgLeft := 0 }
  else if opSend k.opcode then { q with msg := 1, sendBuf := q.sendBuf ++ k.payload }
  else if opFirst k.opcode then { q with msg := 2, msgVa := k.va + n, msgRkey := k.rkey, msgLeft := k.len - n }
  else { q with msgVa := q.msgVa + n, msgLeft := q.msgLeft - n }

/-- Queue a request behind those of its pipeline. -/
def pushReq (s : State) (r : Req) : State :=
  { s with xpt := { s.xpt with reqs := s.xpt.reqs ++ [r], nextReq := s.xpt.nextReq + 1 } }

/-! ## The access check (R83, R147) -/

/-- The rights that a kind of request needs (Table 4.4). -/
def rightsOk (g : Region) (k : ReqKind) : Bool :=
  match k with
  | .send => true
  | .write | .flush => g.rwrite
  | .read => g.rread
  | .cas | .fadd => g.ratomic
  | .awrite => g.rwrite && g.ratomic

/-- The first failing check of Table 3.4; 0 passes. -/
def accessCause (s : State) (tenant rkey va len : Nat) (k : ReqKind) : Nat :=
  let g := regionAt s (bits rkey 10 14)
  if g.state ≠ 1 then 1
  else if bits rkey 24 8 ≠ g.gen then 2
  else if bits rkey 0 10 ≠ g.salt then 3
  else if g.tenant ≠ tenant then 4
  else if !rightsOk g k then 5
  else if !(len = 0 ∧ (k = .read ∨ k = .write)) ∧ (va < g.vabase ∨ g.vabase + g.lenpages * 4096 < va + len) then 6
  else if g.scratch then 7
  else 0

/-- Sessions that receive a tenant's access-violation records (R52, Table 7.8). -/
def tenantSessions (s : State) (t : Nat) : List Nat :=
  [(tenantAt s t).notsess0, (tenantAt s t).notsess1].filter (· ≠ 0)

/-- The offset of an address in its region, as event 0x1400 reports it (R147, log entry 147): VA less VABASE in 64 bits. -/
def regionOffset (va base : Nat) : Nat := (va + (2 ^ 64 - base % 2 ^ 64)) % 2 ^ 64

/-- The access check failed (R147); a wrong generation or salt raises event 0x6020 + p as well (R469). -/
def accessFailed (s : State) (r : Req) (cause : Nat) : State :=
  let g := regionAt s (bits r.rkey 10 14)
  let tenant := if g.state = 1 then g.tenant else (qpAt s r.qp).tenant
  let p := pipeOf r.lport
  let t := s.bump C.TRN_CHKFAIL 1 (cause - 1)
  let t := raiseTo t (0x1400 + p) [0x40000 + r.qp, r.rkey, regionOffset r.va g.vabase, cause] (tenantSessions t tenant)
  let t := if cause = 2 ∨ cause = 3 then raise t (0x6020 + p) [0x40000 + r.qp, r.rkey, cause] else t
  let t := modQp t r.qp (fun q => { q with viols := (q.viols + 1) % 2 ^ 32 })
  let t := backTokens t r.tokens
  setReq t { r with fate := .access, stage := .done, tokens := 0 }

/-! ## Admit (R140, R141, R166, R240) -/

/-- WIN of a pipeline. -/
def win (s : State) (p : Nat) : Nat := s.rd R.XPT_REINSTAT_WIN 0 p

/-- Does a request stand behind a held one of its QP? A returned request holds the later ones; READ, SEND and FLUSH pass a
write that lacks tokens (R166, R240). An executed READ sent again stands behind none. -/
def behind (s : State) (r : Req) : Bool :=
  let before := (reqsOf s r.qp).takeWhile (fun x => x.id ≠ r.id) |>.filter (fun x => x.stage = .admitting)
  !r.dup && before.any (fun x => x.returned || (r.writes && x.writes))

/-- Requests of the QP between Admit and Answer (R140: the window counts one-sided requests). -/
def between (s : State) (i : Nat) : Nat :=
  ((reqsOf s i).filter (fun r => r.stage ≠ .admitting && r.kind ≠ .send)).length

/-- Has the tenant quota room, and the pipeline a park slot, for a returned request (R240)? -/
def parkSlots (s : State) (p : Nat) : Nat :=
  (s.xpt.reqs.filter (fun r => pipeOf r.lport = p && !r.mst && r.parts.any (fun x => x.st = .parked))).length
def parkRoom (s : State) (i p : Nat) : Bool :=
  let t := (qpAt s i).tenant
  decide (parkSlots s p < 4096) && decide (parkedOf s t < (tenantAt s t).parklim)

/-- Does an older returned request of the pipeline go first, its condition being clear (R240)? -/
def olderReturned (s : State) (r : Req) : Bool :=
  let p := pipeOf r.lport
  (s.xpt.reqs.takeWhile (fun x => x.id ≠ r.id)).any (fun x => x.stage = .admitting && x.returned && decide (pipeOf x.lport = p) &&
    !behind s x && parkRoom s x.qp p)

/-- What Admit finds of a request: it passes, is not at Admit, or is held behind another, for a rein, for quota room or for a governor
token (R141). -/
inductive Hold | passes | notHere | behind | rein | quota | token
  deriving DecidableEq, Repr

/-- Look at a request in Admit (R140, R141, R166, R240). -/
def admitHold (s : State) (r : Req) : Hold :=
  let p := pipeOf r.lport
  if r.stage ≠ .admitting ∨ !servesHosts s then .notHere
  else if behind s r then .behind
  else if r.kind ≠ .send ∧ win s p ≤ between s r.qp then .rein
  else if r.returned ∧ (!parkRoom s r.qp p ∨ olderReturned s r) then .quota
  else if r.tokens = 0 ∧ r.needs ≠ 0 ∧ !hostTokens s r.needs then .token
  else .passes

/-- A request passes Admit with its tokens. -/
def admitPass (s : State) (r : Req) : State :=
  let n := if r.tokens = 0 then r.needs else 0
  showAdmit (setReq (takeTokens s n) { r with
    stage := if r.kind = .send ∨ r.returned then .place else .translate
    tokens := r.tokens + n, returned := false }) (pipeOf r.lport)

/-- Above CNPTH of the Admit buffer: CNPs for every QP held, pause where it is enabled until the buffer falls below half, event
0x10C0 + p (R141). -/
def admitPressure (s : State) (p : Nat) : State :=
  let b := admitBytes s p
  if s.rd R.XPT_ADMIT_CNPTH 0 p * 1048576 ≤ b * 100 then
    let qs := ((s.xpt.reqs.filter (fun r => pipeOf r.lport = p && r.stage = .admitting)).map (·.qp)).eraseDups
    let t := qs.foldl (fun u i => sendCnp u i p) s
    let prio := t.rd R.PRT_PFC_PRIO 0 p
    let t := if t.rbit R.PRT_PFC_TXEN prio p ∧ !t.prt.pausing.contains p then
        (List.range 4).foldl (fun v j => if portUp v (4 * p + j) then v.emit (.pause (4 * p + j) prio true) else v)
          { t with prt := { t.prt with pausing := p :: t.prt.pausing } }
      else t
    raise t (0x10C0 + p) [b / 1024, qs.length]
  else s

/-- ADMIT (R141): a request passes with a rein, its tokens and quota room; else it is held. -/
def doAdmit (id : Nat) (s : State) : State :=
  match reqAt s id with
  | none => s
  | some r =>
    let p := pipeOf r.lport
    match admitHold s r with
    | .passes => admitPass s r
    | .notHere => s
    | .token =>
      let t := if r.govHeld then s else setReq (s.bump C.XPT_GOVHOLD 1 0 p) { r with govHeld := true }
      admitPressure (sendCnp t r.qp p) p
    | _ => admitPressure s p

def execAdmitRequest (id : Nat) (s : State) : Out3 := .next (doAdmit id s)

/-- A NAK that Answer sends in its turn (R17): a request that is done and does nothing else. -/
def pushNak (s : State) (i lport : Nat) (q : Qp) (k : Packet) (psn : Nat) (f : Fate) : State :=
  pushReq s { mkReq s i lport q k .send with psn, npsn := 1, fate := f, stage := .done, last := false, imm := none, payload := [] }

/-- A new packet (PSN = EPSN) from check 9 on; check 13 goes before check 14, which Parse makes (Table 4.3). -/
def newPacket (s : State) (i lport : Nat) (k : Packet) : State :=
  let q := { qpAt s i with seqerr := false }
  let p := pipeOf lport
  let bad := fun (u : State) => pushNak u i lport q k k.psn .invalid
  let s := setQp s i q
  match opKind k.opcode with
  | none => bad s
  | some kind =>
    let r := mkReq s i lport q k kind
    if !check9 q k ∨ !check10 k then bad s
    else if r.readAtomic ∧ q.rdatom ≤ q.rdinfl then bad s
    else if (opSend k.opcode ∨ opImm k.opcode) ∧ !q.cmdch then bad s
    else if needsSlot k ∧ ringFree q ≤ slotsClaimed s i then
      let cause := if r.named then accessCause s q.tenant r.rkey r.va r.len r.kind else 0
      if cause ≠ 0 then accessFailed (pushReq s { r with last := false }) r cause
      else pushNak (s.bump C.XPT_RNRNAK 1 0 p) i lport q k k.psn .rnr
    else
      let full := decide (1048576 < admitBytes s p + r.bytes)
      if full ∧ admitHold s r ≠ .passes then s.bump C.XPT_ADMITDROP 1 0 p
      else
        let q := msgAfter q k
        let q := { q with epsn := (q.epsn + r.npsn) % 2 ^ 24, rdinfl := if r.readAtomic then q.rdinfl + 1 else q.rdinfl }
        let t := showAdmit (pushReq (setQp s i q) r) p
        if full then admitPass t r else t

/-- A duplicate (Table 5.2). -/
def duplicate (s : State) (i lport : Nat) (k : Packet) : State :=
  let q := qpAt s i
  let p := pipeOf lport
  if !psnLe k.psn q.xhorizon then s.bump C.XPT_DUPDROP 1 0 p
  else match opKind k.opcode with
  | some .read => pushReq s { mkReq s i lport q k .read with dup := true }
  | some .cas | some .fadd =>
    match (List.range 4).find? (fun j => q.apsn.getD j 0 = k.psn ∧ q.aval.length = 4 ∧ q.apsn.length = 4) with
    | some j => (sendPkt s i 0x12 k.psn (qpCredit q) (beBytes (q.aval.getD j 0) 8)).bump C.XPT_DUPREPLAY 1 0 p
    | none => (fatalNak s i k.psn 0x61).bump C.XPT_DUPNOSLOT 1 0 p
  | some .awrite | some .flush => (sendPkt s i 0x10 k.psn (qpCredit q) []).bump C.XPT_DUPACK 1 0 p
  | some _ => (sendAck s i q.xhorizon).bump C.XPT_DUPACK 1 0 p
  | none => s

/-- A packet whose context is present, from check 4 on (Table 4.3). -/
def parsePacket (s : State) (i lport : Nat) (k : Packet) : State :=
  let q := qpAt s i
  let p := pipeOf lport
  let s := cacheUse s i
  if k.opcode = 0x81 then s.bump C.XPT_CNPRX 1 0 p
  else if !serves q then dropFrame s lport
  else if k.pkey ≠ q.pkey then dropFrame s lport
  else
    let ending := (reqsOf s i).any (fun r => r.fate = .invalid || r.fate = .access || r.fate = .operational)
    let s := if k.ce then
        let u := s.bump C.XPT_CERX 1 0 p
        if u.on R.XPT_CNP_NPEN 0 p then sendCnp u i p else u
      else s
    if k.psn = q.epsn then (if ending then dropFrame s lport else newPacket s i lport k)
    else if psnSub q.epsn k.psn ≤ 2 ^ 23 then duplicate s i lport k
    else if q.seqerr ∨ ending then s
    else pushNak ((modQp s i (fun x => { x with seqerr := true })).bump C.XPT_NAKSEQ 1 0 p) i lport q k q.epsn .seq

/-- A packet that the miss buffer has no room for is dropped and counted (R130): FULL for 1 µs, and event 0x1020 + p with the drops
since its last record. -/
def missFull (s : State) (p : Nat) : State :=
  let n := s.xpt.missDrops.get p 0 + 1
  let t := (s.bump C.XPT_MISSDROP 1 0 p).wr R.XPT_MISSSTAT_FULL 1 0 p
  let t : State := { t with xpt := { t.xpt with missDrops := t.xpt.missDrops.ins p n, fullAt := t.xpt.fullAt.ins p t.now } }
  let u := raise t (0x1020 + p) [heldBytes s p, n]
  if u.recd.head = t.recd.head then u else { u with xpt := { u.xpt with missDrops := u.xpt.missDrops.del p } }

/-- A packet of a responder QP whose context is cached: accepted on its port, or held in the arrival port's miss buffer for a move of
the port (R131); with no room there it is dropped as a missing context's packet is (log entry 163). -/
def withContext (s : State) (i lport : Nat) (k : Packet) : State :=
  let q := qpAt s i
  let p := pipeOf lport
  if q.lport = lport ∨ !serves q then parsePacket s i lport k
  else if k.srcIp ≠ q.rip then dropFrame s lport
  else if heldBytes s p + missBytes k ≤ 2097152 then
    showMiss { s with xpt := { s.xpt with moving := s.xpt.moving ++ [{ lport, qp := i, bytes := missBytes k, pkt := k }] } } p
  else sendCnp (missFull s p) i p

/-- A packet whose context is missing (R129, R130): held with a fetch, or dropped with a CNP-list entry. -/
def missPacket (s : State) (i lport : Nat) (k : Packet) : State :=
  let p := pipeOf lport
  let b := missBytes k
  if heldBytes s p + b ≤ 2097152 then
    let t : State := { s with xpt := { s.xpt with held := s.xpt.held ++ [{ lport, qp := i, bytes := b, pkt := k }] } }
    showMiss (wantContext t i p false) p
  else
    let t := missFull s p
    if (t.xpt.cnpList.filter (fun e => e.1 = p)).length < 256 then
      wantContext { t with xpt := { t.xpt with cnpList := t.xpt.cnpList ++ [(p, i, t.now)] } } i p true
    else t.bump C.XPT_CNPABANDON 1 0 p

/-- A packet addressed to QP number 1: the connection-management ring (R122, Table 14.5). -/
def cmReceive (s : State) (k : Packet) : State :=
  if s.cpx.cmRing.length < 4096 then
    { s with cpx := { s.cpx with cmRing := s.cpx.cmRing ++ [k.payload] } }
  else
    let t : State := { s with cpx := { s.cpx with cmDrops := s.cpx.cmDrops + 1 } }
    let u := raise (t.bump C.CPX_CMDROP) 0x4CE0 [t.cpx.cmDrops]
    if u.recd.head = t.recd.head then u else { u with cpx := { u.cpx with cmDrops := 0 } }

/-- The MAC address of a logical port. -/
def portMac (s : State) (l : Nat) : Nat := s.rd R.PRT_MACL (l % 4) (l / 4) + 2 ^ 32 * s.rd R.PRT_MACH (l % 4) (l / 4)

/-- The IPv6 address of a logical port, bits 127:96 in the first word. -/
def ip6Of (s : State) (l : Nat) : Nat :=
  (List.range 4).foldl (fun a w => a * 2 ^ 32 + s.rd R.PRT_IP6 (4 * (l % 4) + w) (l / 4)) 0

/-- Is a frame addressed to logical port `l` (R119): its MAC address, its address of the frame's IP version, where it has one, the one
tag of a tagged port and none on another (log entry 166), and at most 9,216 bytes? -/
def addressed (s : State) (l : Nat) (k : Packet) : Bool :=
  let ip := if k.ip6 then ip6Of s l else s.rd R.PRT_IP4 (l % 4) (l / 4)
  decide (k.dstMac = portMac s l) && decide (ip ≠ 0) && decide (k.dstIp = ip) && decide (k.frame ≤ 9216) &&
  (if s.on R.PRT_VLAN_TAGGED (l % 4) (l / 4) then k.tagged && decide (k.vid = s.rd R.PRT_VLAN_VID (l % 4) (l / 4)) else !k.tagged)

/-- PACKET_RECEIVE (R119, R133). -/
def doPacketReceive (lport : Nat) (k : Packet) (s : State) : State :=
  let p := pipeOf lport
  if s.dev ≠ .serving ∨ !portUp s lport ∨ !s.takes (30 + p) then s
  else
    let s := (s.bump C.PRT_RXFRAMES 1 (lport % 4) (lport / 4)).bump C.PRT_FECCORR k.fecCorr (lport % 4) (lport / 4)
    if !k.fcsOk ∨ !addressed s lport k ∨ !k.roce then dropFrame s lport
    else
      let s := s.bump C.XPT_RXPKT 1 0 p
      if !k.icrcOk then s.bump C.PRT_ICRCERR 1 (lport % 4) (lport / 4)
      else if k.dqp = 1 then cmReceive s k
      else if 0x20 ≤ k.opcode ∧ k.opcode ≠ 0x81 then dropFrame s lport
      else if 0x80000 ≤ k.dqp ∧ k.dqp < 0x84000 then s
      else if k.dqp < 0x40000 ∨ 0x80000 ≤ k.dqp then dropFrame s lport
      else if 0x0D ≤ k.opcode ∧ k.opcode ≤ 0x12 then dropFrame s lport
      else
        let i := k.dqp - 0x40000
        if s.xpt.cache.has i then withContext s i lport k else missPacket s i lport k

def execPacketReceive (lport : Nat) (k : Packet) (s : State) : Out3 := .next (doPacketReceive lport k s)

/-! ## Context fetches (R126, R129, R130) -/

/-- The held packets of a QP leave the miss buffer in arrival order. -/
def releaseHeld (s : State) (i : Nat) : State :=
  let mine := s.xpt.held.filter (fun h => h.qp = i)
  let t : State := { s with xpt := { s.xpt with held := s.xpt.held.filter (fun h => h.qp ≠ i) } }
  let t := mine.foldl (fun u h => withContext u i h.lport h.pkt) t
  (List.range 4).foldl showMiss t

/-- CONTEXT_FETCH_DONE (R126): DRAMFB clears when the fetch took the tier D copy; no tier H access ends well while HSTATE is not UP
(R243). -/
def doContextFetchDone (i : Nat) (s : State) : State :=
  match s.xpt.fetches.find? i with
  | none => s
  | some f =>
    if cacheRoom s f.port ∧ !(fetchesH s i ∧ s.rd R.TIE_STAT_HSTATE ≠ 1) then
      let t : State := { s with xpt := { s.xpt with fetches := s.xpt.fetches.del i } }
      let t := if s.rd R.XPT_CTXCFG_LOC 0 0 = 2 then modQp t i (fun q => { q with dramfb := false }) else t
      nextFetch (releaseHeld (cacheFill t i f.port) i) f.port
    else s

def execContextFetchDone (i : Nat) (s : State) : Out3 := .next (doContextFetchDone i s)

/-- CONTEXT_FETCH_TIMEOUT (R126): a tier H fetch failed, by an error of PCI or by HTIMEOUT. -/
def doContextFetchTimeout (i : Nat) (byError : Bool) (s : State) : State :=
  match s.xpt.fetches.find? i with
  | none => s
  | some f =>
    if !fetchesH s i then s
    else
      let t := fetchFailed s i f.port (if byError then 0 else 2) (s.now - f.start)
      let t := match t.xpt.held.find? (fun h => h.qp = i) with
        | some h => wantContext t i (pipeOf h.lport) false
        | none => t
      nextFetch t f.port

def execContextFetchTimeout (i : Nat) (byError : Bool) (s : State) : Out3 := .next (doContextFetchTimeout i byError s)

/-- CNP_LIST_FETCH_DONE (R130): the context arrived for a CNP-list entry, and the CNP goes out. -/
def doCnpListFetchDone (p : Fin 4) (i : Nat) (s : State) : State :=
  if s.xpt.cnpList.any (fun e => e.1 = p.val ∧ e.2.1 = i) then
    let t : State := { s with xpt := { s.xpt with cnpList := s.xpt.cnpList.filter (fun e => !(e.1 = p.val ∧ e.2.1 = i)) } }
    let t := sendCnp t i p
    match t.xpt.fetches.find? i with
    | some f => if f.low then doContextFetchDone i t else t
    | none => t
  else s

def execCnpListFetchDone (p : Fin 4) (i : Nat) (s : State) : Out3 := .next (doCnpListFetchDone p i s)

/-- CNP_LIST_ENTRY_TIMEOUT (R130): the entry is abandoned and counted. -/
def doCnpListEntryTimeout (p : Fin 4) (i : Nat) (s : State) : State :=
  if s.xpt.cnpList.any (fun e => e.1 = p.val ∧ e.2.1 = i) then
    let t : State := { s with xpt := { s.xpt with cnpList := s.xpt.cnpList.filter (fun e => !(e.1 = p.val ∧ e.2.1 = i)) } }
    t.bump C.XPT_CNPABANDON 1 0 p
  else s

def execCnpListEntryTimeout (p : Fin 4) (i : Nat) (s : State) : Out3 := .next (doCnpListEntryTimeout p i s)

/-- LPORT_MOVE (R131): no request of the QP is left on its old port, so the QP moves to the arrival port. -/
def doLportMove (i : Nat) (s : State) : State :=
  match s.xpt.moving.find? (fun h => h.qp = i) with
  | none => s
  | some h =>
    if (reqsOf s i).isEmpty then
      let mine := s.xpt.moving.filter (fun x => x.qp = i)
      let t : State := { s with xpt := { s.xpt with moving := s.xpt.moving.filter (fun x => x.qp ≠ i) } }
      let t := modQp t i (fun q => { q with lport := h.lport, rmac := h.pkt.srcMac, vid := h.pkt.vid })
      let t := mine.foldl (fun u x => withContext u i x.lport x.pkt) t
      (List.range 4).foldl showMiss t
    else s

def execLportMove (i : Nat) (s : State) : Out3 := .next (doLportMove i s)

/-! ## Translate (R83, R147, R165) -/

/-- The parts of a request at space address `sa`, page by page (R165). -/
def readParts : Nat → Nat → Nat → Nat → List Part
  | 0, _, _, _ => []
  | n + 1, sa, len, src =>
    if len = 0 then []
    else
      let k := min len (4096 - sa % 4096)
      { spage := sa / 4096, off := sa % 4096, len := k, src } :: readParts n (sa + k) (len - k) (src + k)

/-- The request ends with remote operational error (Table 5.3, R175). -/
def failOps (s : State) (id : Nat) (data : List Nat) : State :=
  match reqAt s id with
  | none => s
  | some r => settle (setReq s { r with fate := .operational, data }) id

/-- TRANSLATE (R83): the access check, once, after which the access is counted for its region (R87); then the extents of the request's
pages. -/
def doTranslate (id : Nat) (s : State) : State :=
  match reqAt s id with
  | none => s
  | some r =>
    if r.stage ≠ .translate then s
    else if !r.passed ∧ badEntry s (regAddr (bits r.rkey 10 14)) then failOps (setReq s { r with stage := .place }) id []
    else
      let cause := if r.passed then 0 else accessCause s (qpAt s r.qp).tenant r.rkey r.va r.len r.kind
      if cause ≠ 0 then accessFailed s r cause
      else
        let i := bits r.rkey 10 14
        let s := if r.passed then s else
          setReq { s with trn := { s.trn with inflight := s.trn.inflight.ins i (s.trn.inflight.get i 0 + 1) } }
            { r with passed := true, region := i }
        let g := regionAt s i
        let sa := g.sapage * 4096 + (r.va - g.vabase)
        let parts := if r.kind = .flush then [] else readParts (r.len / 4096 + 2) sa r.len 0
        let q := parts.foldl (fun (a : State × Bool) x =>
          let h := hostLookup a.1 (pipeOf r.lport) (x.spage / 512)
          (h.1, a.2 && h.2)) (s, true)
        if q.2 then
          let t := if r.writes ∧ parts.length = 2 then q.1.bump C.XPT_SPLIT 1 0 (pipeOf r.lport) else q.1
          setReq t { r with stage := .place, passed := true, region := i, parts }
        else q.1

def execTranslateRequest (id : Nat) (s : State) : Out3 := .next (doTranslate id s)

/-! ## Place (R112, R158 to R161, R173 to R175, R237, R240) -/

/-- What Place finds of a page. -/
inductive Ready | yes | zero | parked | returned | fenced
  deriving DecidableEq, Repr

/-- Set part `k` of a request. -/
def setPart (s : State) (id k : Nat) (f : Part → Part) : State :=
  match reqAt s id with
  | none => s
  | some r => setReq s { r with parts := r.parts.mapIdx (fun j x => if j = k then f x else x) }

/-- Place returns a miss that finds the park slots of pipeline `p` full (R240): event 0x1C20 + p with the returns since its last
record. -/
def parkFull (s : State) (p : Nat) : State :=
  let n := s.xpt.parkReturns.get p 0 + 1
  let t : State := { s with xpt := { s.xpt with parkReturns := s.xpt.parkReturns.ins p n } }
  let u := raise t (0x1C20 + p) [4096, n]
  if u.recd.head = t.recd.head then u else { u with xpt := { u.xpt with parkReturns := u.xpt.parkReturns.del p } }

/-- Make a page ready for a part: fences, poisoned map lines (Table 10.6: answered as a poisoned line), ZERO extents, residency, parking. A page whose store-map entry is NONE is no tier S miss
(R95), and a miss is reported once (R225). -/
def makeReady (s : State) (r : Req) (k p : Nat) : State × Ready :=
  let e := p / 512
  let tenant := (qpAt s r.qp).tenant
  if fenced s p ∨ mapPoisoned s p then (s, .fenced)
  else if (extentAt s e).estate ≠ 2 ∧ !r.writes then (s, .zero)
  else
    let s := if r.writes then firstWrite s e else s
    let fresh := decide ((storeAt s p).sstate = 0)
    let told : Bool := match r.parts[k]? with | some x => x.missed | .none => true
    let noted := fun (u : State) => if r.mst ∨ told ∨ fresh then u else reportAccess u e p r.writes true
    if usable s p ∨ (r.kind = .read ∧ leaving s p r.id) then (s, .yes)
    else if !r.mst ∧ !(fresh ∧ decides s ∧ !sendsMoves s) ∧ !parkRoom s r.qp (pipeOf r.lport) then
      let t := if fresh then s else noted (s.bump C.TIE_MISSRETURN)
      let t := if 4096 ≤ parkSlots t (pipeOf r.lport) then
          parkFull t (pipeOf r.lport)
        else raise t 0x1C40 [tenant, parkedOf t tenant]
      (setReq t { r with stage := .admitting, returned := true,
                          parts := r.parts.mapIdx (fun j x => if j = k then { x with missed := true } else x) }, .returned)
    else
      let q := wantPage s p (some (if r.mst then (extentAt s e).owner else tenant))
      if q.2 then (q.1, .yes)
      else
        let t := if r.mst ∨ fresh then q.1 else noted (q.1.bump C.TIE_MISSPARK)
        (setPart t r.id k (fun x => { x with st := .parked, missed := true }), .parked)

/-- Lines of a part that need repair before the part can be served: for a write, lines that it covers in part. Answers
whether the part is clear, waits for the twin, or meets poison at the line given. -/
inductive Lines | clear | waits | poisoned (line : Nat)
  deriving DecidableEq, Repr

/-- Look at the lines `ns` of page `p`: the first that is poisoned, or the twin is asked. -/
def seekLines (s : State) (p pipe : Nat) : List Nat → State × Lines
  | [] => (s, .clear)
  | n :: ns =>
    match frameOf s p with
    | none => (s, .clear)
    | some f =>
      match lineFault s (64 * f + n) with
      | none => if treading s p n then (s, .waits) else seekLines s p pipe ns
      | some .poison => (s, .poisoned n)
      | some .uncorr =>
        let q := seekLine s p n pipe
        if q.2 then ((seekLines q.1 p pipe ns).1, .waits)
        else (q.1, .poisoned n)

/-- Where a poisoned line begins in the request's bytes. -/
def lineOffset (x : Part) (n : Nat) : Nat := x.src + (64 * n - x.off)

/-- A READ reads its parts in order (R112, R173, Table 5.3): all at once when every page is ready and every line sound. -/
def placeRead (s : State) (r : Req) : State :=
  let pipe := pipeOf r.lport
  let prep := r.parts.zipIdx.foldl (fun (a : State × List Ready) x =>
    match reqAt a.1 r.id with
    | none => a
    | some r' => if a.2.contains .returned then a else
        let q := makeReady a.1 r' x.2 x.1.spage
        (q.1, a.2 ++ [q.2])) (s, [])
  let t := prep.1
  let rs := prep.2
  if rs.contains .parked ∨ rs.contains .returned then t
  else
    let look := (r.parts.zip rs).foldl (fun (a : State × Option Nat × Bool) x =>
      match a.2.1, x.2 with
      | some _, _ => a
      | none, .fenced => (a.1, some x.1.src, a.2.2)
      | none, .zero => a
      | none, _ =>
        let q := seekLines a.1 x.1.spage pipe (touchedLines x.1.off x.1.len)
        match q.2 with
        | .clear => (q.1, none, a.2.2)
        | .waits => (q.1, none, true)
        | .poisoned n => (q.1, some (lineOffset x.1 n), a.2.2)) (t, none, false)
    let t := look.1
    let data := (r.parts.zip rs).flatMap (fun x => match x.2 with
      | .yes => match frameOf t x.1.spage with
        | some f => dRead t (4096 * f + x.1.off) x.1.len
        | none => List.replicate x.1.len 0
      | _ => List.replicate x.1.len 0)
    match look.2.1, look.2.2 with
    | some n, false => failOps t r.id (data.take n)
    | _, true => setReq t { r with parts := r.parts.map (fun x => { x with st := .fetching }) }
    | none, false =>
      let t := r.parts.foldl (fun u x => if x.missed then u else reportAccess u (x.spage / 512) x.spage false false) t
      settle (setReq t { r with data, parts := r.parts.map (fun x => { x with st := .done }) }) r.id

/-- Bytes kept in the forward buffer (R197). -/
def forwardBytes (s : State) : Nat := s.twn.fwd.foldl (fun a e => a + e.2.data.length) 0

/-- A FORWARD or FWD_ATOMIC leaves: what it names stays in the forward buffer until its ORDERED (R159, R197). -/
def forwardPart (s : State) (p off : Nat) (data : List Nat) (m : Nat → Msg) (pipe : Nat) : State × Nat :=
  let tag := s.twn.nextTag
  let t := (withTag s m).bump C.XPT_FWDOUT 1 0 pipe
  let t : State := { t with twn := { t.twn with fwd := t.twn.fwd.ins tag { spage := p, off, data } } }
  (pendAdd t p 0 1, tag)

/-- The tag of a MIRROR that never went: no PLACED answers it. -/
def noTag : Nat := 2 ^ 64

/-- Where a part stands once placed here: done where this appliance alone holds the page (R154); waiting for its MIRROR's PLACED; or
waiting where the twin state gives no response conditions (R155, R167), until SOLO or SPAN gives some. -/
def placedSt (s : State) (tag : Option Nat) : PartSt := if tag.isSome ∨ !conditions s then .placed else .done

/-- A forwarded part that this appliance executes in the lost twin's place is counted (R168). -/
def redoDone (s : State) (r : Req) (x : Part) : State := if x.redo then s.bump C.XPT_FWDREEXEC 1 0 (pipeOf r.lport) else s

/-- A write part, its page ready: at the home it is ordered, placed and mirrored; else it is forwarded (R158, R159). -/
def placeWrite (s : State) (r : Req) (k : Nat) (x : Part) : State :=
  let bs := (r.payload.drop x.src).take x.len
  let p := x.spage
  let whole := wholeLines x.off x.len
  let q := seekLines s p (pipeOf r.lport) ((touchedLines x.off x.len).filter (fun n => !whole.contains n))
  match q.2 with
  | .poisoned _ => failOps q.1 r.id []
  | .waits => setPart q.1 r.id k (fun y => { y with st := .fetching })
  | .clear =>
    let s := q.1
    if isHome s p then
      if (mirrorsNow s ∨ mirrorsLater s p) ∧ !pendRoom s p then pendFull s
      else
        let s := giveUpTreads s p whole
        let h := placeHome s p x.off bs
        let t := setPart (redoDone (backTokens h.1 1) r x) r.id k (fun y => { y with
          st := placedSt s h.2.1, tag := h.2.1.getD noTag, epoch := h.2.2, redo := false })
        let t := match reqAt t r.id with
          | some r' => setReq t { r' with tokens := r'.tokens - 1 }
          | none => t
        settle (if r.mst ∨ x.missed then t else reportAccess t (p / 512) p true false) r.id
    else if !pendRoom s p then pendFull s
    else if 1048576 < forwardBytes s + x.len then s
    else
      let h := forwardPart s p x.off bs (fun n => .forward n p x.off bs) (pipeOf r.lport)
      setPart h.1 r.id k (fun y => { y with st := .forwarded, tag := h.2 })

/-- A CmpSwap or FetchAdd, its page ready (R160). -/
def placeAtomic (s : State) (r : Req) (x : Part) : State :=
  let p := x.spage
  let q := seekLines s p (pipeOf r.lport) [x.off / 64]
  let fadd := decide (r.kind = .fadd)
  let arg := if r.kind = .fadd then r.swapAdd else r.compare
  match q.2 with
  | .poisoned _ => failOps q.1 r.id []
  | .waits => setPart q.1 r.id 0 (fun y => { y with st := .fetching })
  | .clear =>
    let s := q.1
    if !pendRoom s p ∧ (isSpan s ∨ mirrorsNow s ∨ mirrorsLater s p) then pendFull s
    else if isHome s p then
      let old := wordAt s p x.off
      let h := placeHome s p x.off (leBytes (atomicNew fadd old arg r.swapAdd) 8)
      let t := setReq (redoDone (backTokens h.1 1) r x) { r with
        orig := old, tokens := r.tokens - 1
        parts := [{ x with st := placedSt s h.2.1, tag := h.2.1.getD noTag, epoch := h.2.2, redo := false }] }
      settle (if x.missed then t else reportAccess t (p / 512) p true false) r.id
    else
      let h := forwardPart s p x.off [] (fun n => .fwdAtomic n p (x.off / 64) (x.off / 8 % 8) fadd arg r.swapAdd) (pipeOf r.lport)
      setReq h.1 { r with parts := [{ x with st := .forwarded, tag := h.2 }] }

/-- The space address of a request's first byte (R83). -/
def spaceAt (s : State) (r : Req) : Nat :=
  match r.parts with
  | x :: _ => 4096 * x.spage + x.off
  | [] => let g := regionAt s (bits r.rkey 10 14); g.sapage * 4096 + (r.va - g.vabase)

/-- The earlier writes of a request's QP that are not done. -/
def writesBefore (s : State) (r : Req) : List Req :=
  ((reqsOf s r.qp).takeWhile (fun x => x.id ≠ r.id)).filter (fun x => x.writes && x.stage ≠ .done)

/-- Is a READ or atomic held behind an earlier write of its QP that overlaps in the space and is not placed here (R161)? An executed
READ sent again came before every write in flight. -/
def heldByWrite (s : State) (r : Req) : Bool :=
  let a := spaceAt s r
  (!(r.kind = .write) && !(r.kind = .send) && !(r.kind = .flush) && !r.dup) &&
  (writesBefore s r).any (fun x => decide (spaceAt s x < a + r.len) && decide (a < spaceAt s x + x.len) &&
    (x.parts.isEmpty || x.parts.any (fun y => y.st ≠ .placed && y.st ≠ .done)))

/-- Has a part neither reached its home nor been sent there? -/
def Part.waits (y : Part) : Bool := y.st = .todo || y.st = .parked || y.st = .fetching

/-- Must a write of page `p` wait so that the QP's writes to the page reach the home in PSN order (R163), and parts that are executed
again keep their arrival order (R168)? -/
def heldInOrder (s : State) (r : Req) (p : Nat) : Bool :=
  (writesBefore s r).any (fun x =>
    if x.parts.isEmpty then decide (spaceAt s x / 4096 ≤ p) && decide (p * 4096 < spaceAt s x + x.len)
    else x.parts.any (fun y => decide (y.spage = p) && y.waits)) ||
  (s.xpt.reqs.takeWhile (fun x => x.id ≠ r.id)).any (fun x => x.stage = .place && x.parts.any (fun y => decide (y.spage = p) && y.redo && y.waits))

/-- Is the save's image fixed, after which nothing more is placed (R167)? -/
def imageFixed (s : State) : Bool := s.sav.img.isSome && (decide (s.dev = .saving) || decide (s.dev = .saved))

/-- PLACE (R158): the request's memory action, as far as it can go. -/
def doPlace (id : Nat) (s : State) : State :=
  match reqAt s id with
  | none => s
  | some r =>
    if r.stage ≠ .place ∨ heldByWrite s r ∨ (r.writes ∧ imageFixed s) then s
    else if r.mst ∧ r.tokens = 0 ∧ !hostTokens s r.needs then s
    else match r.kind with
    | .send =>
      if r.last then setReq (ringPush s r.qp { payload := r.payload, imm := r.imm }) { r with stage := .done }
      else setReq s { r with stage := .done }
    | .flush => settle s id
    | .read =>
      if r.parts.any (fun x => x.st = .parked || x.st = .fetching) then s else placeRead s r
    | .cas | .fadd =>
      match r.parts with
      | [x] =>
        if x.st ≠ .todo ∨ heldInOrder s r x.spage then s
        else
          let q := makeReady s r 0 x.spage
          match q.2 with
          | .yes => placeAtomic q.1 r x
          | .fenced => failOps q.1 id []
          | _ => q.1
      | _ => s
    | .write | .awrite =>
      let s := if r.mst ∧ r.tokens = 0 then setReq (takeTokens s r.needs) { r with tokens := r.needs } else s
      let t := r.parts.zipIdx.foldl (fun u y =>
        match reqAt u id with
        | none => u
        | some r' =>
          match r'.parts[y.2]? with
          | none => u
          | some x =>
            if x.st ≠ .todo ∨ r'.fate ≠ .ok ∨ r'.stage ≠ .place ∨ heldInOrder u r' x.spage then u
            else
              let q := makeReady u r' y.2 x.spage
              match q.2 with
              | .yes => match reqAt q.1 id with
                | some r'' => placeWrite q.1 r'' y.2 x
                | none => q.1
              | .fenced => failOps q.1 id []
              | _ => q.1) s
      settle t id

def execPlaceRequest (id : Nat) (s : State) : Out3 := .next (doPlace id s)

/-! ## Answer (R138, R155, R169, R172) -/

/-- Chunks of a READ's data by path MTU. -/
def chunks (n : Nat) : Nat → List Nat → List (List Nat)
  | 0, _ => []
  | k + 1, l => if l.length ≤ n then [l] else l.take n :: chunks n k (l.drop n)

/-- The READ Response packets `cs` of a request of `total` packets, from packet `j` on (R134). -/
def sendRead (s : State) (i psn total credit : Nat) : Nat → List (List Nat) → State
  | _, [] => s
  | j, c :: cs =>
    let op := if total = 1 then 0x10 else if j = 0 then 0x0D else if j + 1 = total then 0x0F else 0x0E
    sendRead (sendPkt s i op (psn + j) (if op = 0x0E then 0 else credit) c) i psn total credit (j + 1) cs

/-- A completed request without a response of its own is one more unacknowledged completion (R138). -/
def coalesce (s : State) (i : Nat) : State :=
  let u := s.xpt.unacked.get i (0, s.now)
  { s with xpt := { s.xpt with unacked := s.xpt.unacked.ins i (u.1 + 1, u.2) } }

/-- Has a QP's ACK become due with the completion of `r` (R138): AckReq, or COUNT completions? -/
def ackNow (s : State) (r : Req) : Bool :=
  r.ackReq || decide (s.rd R.XPT_ACKCOAL_COUNT 0 (pipeOf r.lport) ≤ (s.xpt.unacked.get r.qp (0, 0)).1)

/-- Does a request end without a response of its own? -/
def Req.silent (r : Req) : Bool := r.fate = .ok && (r.kind = .send || r.kind = .write)

/-- The response of one done request at the head of its QP. -/
def answerOne (s : State) (r : Req) : State :=
  let i := r.qp
  let q := qpAt s i
  let lastPsn := (r.psn + r.npsn - 1) % 2 ^ 24
  let s := if r.passed then leaveRegion s r.region else s
  match r.fate with
  | .rnr => sendPkt (dropReqId s r.id) i 0x11 r.psn (0x20 + q.rnrtimer) []
  | .seq => sendPkt (dropReqId s r.id) i 0x11 r.psn 0x60 []
  | .invalid => fatalNak (dropReqId s r.id) i r.psn 0x61
  | .access => fatalNak (dropReqId s r.id) i r.psn 0x62
  | .operational =>
    let n := if r.kind = .read then r.data.length / mtu q else 0
    let t := sendRead s i r.psn r.npsn (qpCredit q) 0 (chunks (mtu q) (n + 1) (r.data.take (n * mtu q)) |>.take n)
    fatalNak (dropReqId t r.id) i (r.psn + n) 0x63
  | .ok =>
    let t := dropReqId s r.id
    let t := modQp t i (fun x => { x with
      xhorizon := if r.dup then x.xhorizon else lastPsn
      msn := if r.last ∧ !r.dup then (x.msn + 1) % 2 ^ 24 else x.msn
      rdinfl := if r.readAtomic ∧ !r.dup then x.rdinfl - 1 else x.rdinfl })
    match r.kind with
    | .send | .write => coalesce t i
    | .read =>
      let u := sendRead t i r.psn r.npsn (qpCredit q) 0 (chunks (mtu q) (r.npsn + 1) r.data)
      if r.dup then u
      else modQp { u with xpt := { u.xpt with unacked := u.xpt.unacked.del i } } i (fun x => { x with lastack := lastPsn, credit := qpCredit q })
    | .awrite | .flush =>
      modQp { sendPkt t i 0x10 r.psn (qpCredit q) [] with xpt := { t.xpt with unacked := t.xpt.unacked.del i } } i
        (fun x => { x with lastack := lastPsn, credit := qpCredit q })
    | .cas | .fadd =>
      let t := modQp t i (fun x => { x with
        aval := x.aval.set x.ahead r.orig, apsn := x.apsn.set x.ahead r.psn, ahead := (x.ahead + 1) % 4 })
      modQp { sendPkt t i 0x12 r.psn (qpCredit q) (beBytes r.orig 8) with xpt := { t.xpt with unacked := t.xpt.unacked.del i } } i
        (fun x => { x with lastack := lastPsn, credit := qpCredit q })

/-- An ACK that is due leaves with the highest PSN that the horizon has reached (R138). -/
def ackDue (s : State) (i : Nat) (due : Bool) : State := if due then sendAck s i (qpAt s i).xhorizon else s

/-- Answer what is done at the head of a QP, in PSN order, at most `n` requests; an ACK that is due leaves before the next response, or
at the end. -/
def answerRun : Nat → Nat → Bool → State → State
  | 0, i, due, s => ackDue s i due
  | n + 1, i, due, s =>
    match (reqsOf s i).filter (fun r => !r.dup) with
    | [] => ackDue s i due
    | r :: _ =>
      if r.stage = .done ∧ !r.mst then
        if r.silent then
          let t := answerOne s r
          answerRun n i (due || ackNow t r) t
        else answerRun n i false (answerOne (ackDue s i due) r)
      else ackDue s i due

/-- Executed READs sent again are answered at once, whatever stands before them (R170). -/
def answerDups (s : State) (i : Nat) : State :=
  ((reqsOf s i).filter (fun r => r.dup && r.stage = .done)).foldl (fun t r => if (reqAt t r.id).isSome then answerOne t r else t) s

/-- ANSWER (R155, R170). -/
def doAnswer (i : Nat) (s : State) : State :=
  let t := answerDups s i
  answerRun (reqsOf t i).length i false t

def execAnswerQp (i : Nat) (s : State) : Out3 := .next (doAnswer i s)

/-- ACK_COALESCE_DELAY (R138): DELAY has passed since the oldest unacknowledged completion. -/
def doAckCoalesceDelay (i : Nat) (s : State) : State :=
  if s.xpt.unacked.has i then sendAck s i (qpAt s i).xhorizon else s

def execAckCoalesceDelay (i : Nat) (s : State) : Out3 := .next (doAckCoalesceDelay i s)

/-- REIN_LOOP_TICK (R140): `share` is the fullest combined queue share of the channels in percent (R307). -/
def doReinLoopTick (p : Fin 4) (share : Nat) (s : State) : State :=
  if s.on R.XPT_REIN_FREEZE 0 p ∨ !awake s then s
  else
    let w := win s p
    let held := heldBytes s p
    let lo := s.rd R.XPT_REIN_MIN 0 p
    let v := if s.rd R.XPT_REINTH_HI 0 p ≤ share ∨ 1048576 ≤ held then max lo (w / 2)
      else if share ≤ s.rd R.XPT_REINTH_LO 0 p ∧ held < 524288 then min (s.rd R.XPT_REIN_MAX 0 p) (w + 1)
      else w
    let t := (s.wr R.XPT_REINSTAT_WIN v 0 p).wr R.XPT_REINSTAT_FLOOR (b2n (decide (v = lo))) 0 p
    if v = lo ∧ w ≠ lo then raise t (0x10E0 + p.val) [v, share, held] else t

def execReinLoopTick (p : Fin 4) (share : Nat) (s : State) : Out3 := .next (doReinLoopTick p share s)

/-! ## The context update port (R149) -/

/-- The words of XPT_QPDATA as sixteen 64-bit words. -/
def qpDataWords (s : State) (p : Nat) : List Nat :=
  (List.range 16).map (fun j => s.rd R.XPT_QPDATA (2 * j) p + 2 ^ 32 * s.rd R.XPT_QPDATA (2 * j + 1) p)

/-- XPT_QPUPDSTAT.REFUSED. -/
def qpRefused (s : State) (p : Nat) (v : Bool) : State := s.wr R.XPT_QPUPDSTAT_REFUSED (b2n v) 0 p

/-- The INDEX of the port. -/
def qpIndex (s : State) (p : Nat) : Nat := s.rd R.XPT_QPUPD_INDEX 0 p

/-- XPT_QP_WRITE: OP 0. -/
def doXptQpWrite (p : Fin 4) (s : State) : State :=
  if !awake s then s
  else
    let i := qpIndex s p
    let q := qpOf (qpDataWords s p)
    if serves (qpAt s i) ∨ qpBad s q then qpRefused s p true
    else
      let t := setQp (qpRefused s p false) i q
      showDoorbell (if t.xpt.cache.has i then t else writeBack t i) i

def execXptQpWrite (p : Fin 4) (s : State) : Out3 := .next (doXptQpWrite p s)

/-- XPT_QP_READ: OP 1. -/
def doXptQpRead (p : Fin 4) (s : State) : State :=
  if !awake s then s
  else
    (qpWords (qpAt s (qpIndex s p))).zipIdx.foldl (fun t w =>
      (t.wr R.XPT_QPDATA (w.1 % 2 ^ 32) (2 * w.2) p).wr R.XPT_QPDATA (w.1 / 2 ^ 32) (2 * w.2 + 1) p) (qpRefused s p false)

def execXptQpRead (p : Fin 4) (s : State) : Out3 := .next (doXptQpRead p s)

/-- XPT_QP_TO_ERROR: OP 2. -/
def doXptQpToError (p : Fin 4) (s : State) : State :=
  if !awake s then s else qpError (qpRefused s p false) (qpIndex s p)

def execXptQpToError (p : Fin 4) (s : State) : Out3 := .next (doXptQpToError p s)

/-- XPT_QP_WRITEBACK_EVICT: OP 3; a pinned entry is never replaced (R127). -/
def doXptQpWritebackEvict (p : Fin 4) (s : State) : State :=
  if !awake s then s
  else
    let i := qpIndex s p
    let t := qpRefused s p false
    if (reqsOf t i).isEmpty then evictCtx t i else t

def execXptQpWritebackEvict (p : Fin 4) (s : State) : Out3 := .next (doXptQpWritebackEvict p s)

end Sys2Proof.Machine
end

