-- ==== Sys2Proof/Machine/Ports.lean ====
section
/-! DEFINITION. The meanings of the host ports' commands (R117 to R120, R148, R486). -/

namespace Sys2Proof.Machine

/-- Lanes of a mode's logical port, and whether the mode uses sub-port `sub` (Table 4.1). -/
def modeLanes (m : Nat) : Nat := match m with | 0 => 4 | 1 => 2 | _ => 1
def modeUses (m sub : Nat) : Bool := match m with | 0 => decide (sub = 0) | 1 => decide (sub < 2) | _ => decide (sub < 4)

/-- Is logical port `l` used by its PRT's mode? -/
def portUsed (s : State) (l : Nat) : Bool := modeUses (s.rd R.PRT_MODE_MODE 0 (l / 4)) (l % 4)

/-- Lanes that a logical port takes at a relink: its mode's, capped by the gait row (R118). -/
def portLanes (s : State) (l : Nat) : Nat :=
  min (modeLanes (s.rd R.PRT_MODE_MODE 0 (l / 4))) (committedRow s (s.rd R.GAI_CUR_CURRENT)).lanes

/-- Lanes per logical port in use, shown by the PRT. -/
def showLanes (s : State) (p : Nat) : State :=
  s.wr R.PRT_LINKSTAT_LANES ((List.range 4).foldl (fun a j => max a (s.prt.lanes.get (4 * p + j) 0)) 0) 0 p

/-- A logical port is up with its lanes; a lane count that matches the row ends the relink that was pending (R29). -/
def doLinkUp (l : Fin 16) (s : State) : State :=
  let p := l.val / 4
  if !awake s ∨ !s.running (26 + p) ∨ !portUsed s l ∨ portUp s l then s
  else
    let n := portLanes s l
    let t : State := { s with prt := { s.prt with lanes := s.prt.lanes.put l n 0, training := s.prt.training.del l } }
    let t := showLanes (t.wbit R.PRT_LINKSTAT_UP (l.val % 4) true p) p
    let t := if n = (committedRow t (t.rd R.GAI_CUR_CURRENT)).lanes then t.wbit R.GAI_RELINK_PENDING p false else t
    raise t (0x0C00 + l.val) [l.val, n, 100 * n]

def execLinkUp (l : Fin 16) (s : State) : Out3 := .next (doLinkUp l s)

/-- A logical port goes down; `cause` labels why (0 relink, 1 loss of signal, 2 FEC, 3 remote fault). It trains again. -/
def linkDown (s : State) (l cause : Nat) : State :=
  let p := l / 4
  let t : State := { s with prt := { s.prt with
    lanes := s.prt.lanes.del l, training := s.prt.training.ins l true, paused := s.prt.paused.del l
    txq := s.prt.txq.filter (fun x => x.lport ≠ l) } }
  let t := showLanes (t.wbit R.PRT_LINKSTAT_UP (l % 4) false p) p
  raise t (0x0C20 + l) [l, Config.payloadCode 0x0C20 cause]

/-- LINK_DOWN: loss of signal, FEC or a remote fault. -/
def doLinkDown (l : Fin 16) (cause : Fin 3) (s : State) : State :=
  if !awake s ∨ !portUp s l then s else linkDown s l (cause.val + 1)

def execLinkDown (l : Fin 16) (cause : Fin 3) (s : State) : Out3 := .next (doLinkDown l cause s)

/-- A relink (R486): the port goes down and trains. -/
def relink (s : State) (l : Nat) : State := linkDown s l 0

/-- PORT_RELINK_CMD: command 0x2202.01, answered RANGE for a port that the mode does not use. -/
def doPortRelinkCmd (l : Nat) (s : State) : State :=
  if awake s ∧ l < 16 ∧ portUsed s l then cmdDone (relink (cmdRun s (ekey 0x2202 1)) l) (ekey 0x2202 1) else s

def execPortRelinkCmd (l : Nat) (s : State) : Out3 := .next (doPortRelinkCmd l s)

/-- PRT_RELINK_WRITE: refused as a whole where it sets the bit of an unused sub-port (R486). -/
def doPrtRelinkWrite (p : Fin 4) (sub : BitVec 4) (s : State) : State :=
  let subs := (List.range 4).filter (fun j => bit sub.toNat j)
  if awake s ∧ subs.all (fun j => portUsed s (4 * p.val + j)) then
    subs.foldl (fun t j => relink t (4 * p.val + j)) s
  else s

def execPrtRelinkWrite (p : Fin 4) (sub : BitVec 4) (s : State) : Out3 := .next (doPrtRelinkWrite p sub s)

/-- The kinds of frames that a port answers in hardware (R119, R77): 0 ARP, 1 Neighbor Solicitation, 2 ICMP echo,
3 ICMPv6 echo. Echo answers are limited per second. -/
def echoAllowed (s : State) (port limit : Nat) : Bool :=
  let e := s.prt.echo.get port (0, 0)
  decide (e.1 ≠ s.now / 1000000) || decide (e.2 < limit)

def echoCount (s : State) (port : Nat) : State :=
  let sec := s.now / 1000000
  let e := s.prt.echo.get port (sec, 0)
  { s with prt := { s.prt with echo := s.prt.echo.ins port (sec, if e.1 = sec then e.2 + 1 else 1) } }

/-- PRT_ARP_NS_ECHO (R119). -/
def doPrtArpNsEcho (l : Fin 16) (kind : Fin 4) (addr src : Nat) (s : State) : State :=
  let own := if kind.val = 0 ∨ kind.val = 2 then s.rd R.PRT_IP4 (l.val % 4) (l.val / 4) else ip6Of s l
  if !awake s ∨ !portUp s l then s
  else
    let s := s.bump C.PRT_RXFRAMES 1 (l.val % 4) (l.val / 4)
    if own = 0 ∨ addr ≠ own then dropFrame s l
    else if kind.val < 2 then (s.bump C.PRT_TXFRAMES 1 (l.val % 4) (l.val / 4)).emit (.net l kind addr src)
    else if echoAllowed s l 1000 then
      ((echoCount s l).bump C.PRT_TXFRAMES 1 (l.val % 4) (l.val / 4)).emit (.net l kind addr src)
    else dropFrame s l

def execPrtArpNsEcho (l : Fin 16) (kind : Fin 4) (addr src : Nat) (s : State) : Out3 :=
  .next (doPrtArpNsEcho l kind addr src s)

/-- PFC_PAUSE_RECEIVED (R120): honoured on a priority with RXEN set; a zero time ends the pause. -/
def doPfcPauseReceived (l : Fin 16) (prio : Fin 8) (pause : Bool) (s : State) : State :=
  if !awake s ∨ !portUp s l then s
  else
    let s := s.bump C.PRT_PAUSERX 1 (l.val % 4) (l.val / 4)
    if s.rbit R.PRT_PFC_RXEN prio (l.val / 4) then
      drainPorts { s with prt := { s.prt with paused := s.prt.paused.put l (bitPut (s.prt.paused.get l 0) prio pause) 0 } }
    else s

def execPfcPauseReceived (l : Fin 16) (prio : Fin 8) (pause : Bool) (s : State) : Out3 :=
  .next (doPfcPauseReceived l prio pause s)

/-- FEC_ALARM (R148): the uncorrectable codewords of the last ms of a logical port against FECTH. -/
def doFecAlarm (l : Fin 16) (n : Nat) (s : State) : State :=
  if !awake s then s
  else
    let s := s.bump C.PRT_FECUNC n (l.val % 4) (l.val / 4)
    if s.rd R.PRT_FECTH_FECTH 0 (l.val / 4) ≤ n then
      raise (s.wbit R.PRT_LINKSTAT_FECALARM (l.val % 4) true (l.val / 4)) (0x0C40 + l.val) [l.val, n]
    else s.wbit R.PRT_LINKSTAT_FECALARM (l.val % 4) false (l.val / 4)

def execFecAlarm (l : Fin 16) (n : Nat) (s : State) : Out3 := .next (doFecAlarm l n s)

end Sys2Proof.Machine
end

