-- ==== Sys2Proof/Machine/ComplexOps.lean ====
section
/-! DEFINITION. The control complex (chapter 14): the service record, booting (R424, R446 to R449), checkpoints (R427 to R429)
and takeovers up to ALIVE (R430 to R433). -/

namespace Sys2Proof.Machine

/-! ## The clusters and the service record (R422, R424) -/

/-- A cluster's SRAM, and its replacement. -/
def sramOf (s : State) (c : Nat) : List Host.Cell := if c = 0 then s.cpx.sramA else s.cpx.sramB
def setSram (s : State) (c : Nat) (m : List Host.Cell) : State :=
  if c = 0 then { s with cpx := { s.cpx with sramA := m } } else { s with cpx := { s.cpx with sramB := m } }

/-- A word of the tack room that firmware and the service core write. -/
def tackWord (s : State) (off : Nat) : Nat := s.tack.words.get off 0
def setTackWord (s : State) (off v : Nat) : State :=
  { s with tack := { s.tack with words := s.tack.words.put off (v % 2 ^ 32) 0 } }

/-- The ACTIVE cluster and the SUSPECT flags of the service record. -/
def activeCluster (s : State) : Nat := tackWord s 0x1100 % 2
def suspectFlags (s : State) : Nat := bits (tackWord s 0x1100) 8 2

/-- CPX_STAT shows the clusters' states. -/
def showClusters (s : State) : State :=
  let st := fun c => if activeCluster s = c then 1 else if bit (suspectFlags s) c then 2 else 0
  (s.wr R.CPX_STAT_STATEA (st 0)).wr R.CPX_STAT_STATEB (st 1)

/-- The service core writes its record. -/
def writeRecord (s : State) (active flags : Nat) : State :=
  let t := setTackWord s 0x1100 (tackWord s 0x1100 / 1024 * 1024 + active % 2 + 256 * (flags % 4))
  let t := setTackWord (setTackWord t 0x1108 (s.cpx.fwid % 2 ^ 32)) 0x110C (s.cpx.fwid / 2 ^ 32)
  showClusters t

/-- Core 0 of the ACTIVE or incoming cluster is released at an address: the watchdogs start afresh. -/
def releaseCore (s : State) (a : Nat) : State :=
  { s with cpx := { s.cpx with entry := some a, hold := false, ckDue := none, wdHalf := 0
                               wdLast := (List.range 4).map (fun c => (c, s.now)) } }

/-- The control firmware of the image at `base`: its TYPE 1 parts in entry order (R444), as far as 4 MiB reach. -/
def firmwareBytes (s : State) (base : Nat) : List Nat :=
  (((List.range (partCount s base)).flatMap (fun j =>
    let e := partEntry s base j
    if e.1 = 1 then kbytes s (base + e.2.1) e.2.2.1 else [])).take 4194304)

/-- The service core loads the running image's control firmware into a cluster's SRAM. -/
def loadFirmware (s : State) (c : Nat) : State := setSram s c (memWrite [] 0 (firmwareBytes s (imageBase s.cpx.image)))

/-! ## Booting (R424, R446 to R449) -/

/-- KIND and REASON of the newest commit record. -/
def newestKind (s : State) : Option (Nat × Nat) :=
  (newestCommit s (fun _ => true)).map (fun p => (kbyte s (commitOff p.1 + 16), kbyte s (commitOff p.1 + 17)))

/-- The registers that show the commit area (Table 14.16). -/
def showUpdate (s : State) : State :=
  let staging := match newestKind s with
    | none => 0
    | some (k, why) => if k = 0x10 then 2 else if k = 0x11 then (if why = 0 then 0 else 3) else 4
  let t := s.wr R.UPD_STAT_STAGING (if legacyLoad s then 5 else staging)
  let t := t.wr R.UPD_ACTIVE_SLOT (activeSlot s)
  t.wr64 R.UPD_COMMITL R.UPD_COMMITH s.cpx.fwid

/-- Copy `n` bytes within keeper flash, the target being erased. -/
def kcopy (s : State) (src dst n : Nat) : State :=
  let bytes := s.kpf.flash.filter (fun e => decide (src ≤ e.1) && decide (e.1 < src + n))
  { s with kpf := { s.kpf with
      flash := bytes.foldl (fun m e => m.put (dst + (e.1 - src)) e.2 0xFF) (s.kpf.flash.keep (fun k => !(decide (dst ≤ k) && decide (k < dst + n)))) } }

/-- A REJECTED record, its registers and event 0x5460 (R445, R447). -/
def rejectImage (s : State) (reason part : Nat) : State :=
  let base := imageBase 2
  let t := commitAppend (reportRefused s base reason) 0x11 reason part (kle s (base + 16) 4) (imageVersion s base)
  let t := (t.wr R.UPD_STAT_REASON reason).wr R.UPD_STAT_PART part
  raise t 0x5460 [reason, part]

/-- A pending activation (R447, Table 14.13). -/
def activate (s : State) : State :=
  match newestKind s with
  | some (0x10, _) =>
    match imageCheck s (imageBase 2) with
    | some (why, part) => rejectImage s why part
    | none =>
      let slot := 1 - activeSlot s
      let rb := kle s (imageBase 2 + 16) 4
      let t := commitAppend (kcopy s (imageBase 2) (imageBase slot) 0xC00000) slot 0 0 rb (imageVersion s (imageBase 2))
      raise t 0x5440 [slot, activeSeq t, rb]
  | _ => s

/-- The boot check of a slot (R424, R468): MAGIC, signature, ROLLBACK, the hash of every control-firmware part. 0 passed. -/
def bootCheck (s : State) (base : Nat) : Nat :=
  let man := kbytes s base 1280
  if kbytes s base 8 ≠ ascii "CSFNMANI" then 4
  else if !Crypto.ecdsaOk s.fuses.imgkey (man.take 1184) (man.drop 1184) then 1
  else if 64 < kle s (base + 16) 4 then 3
  else if (List.range (partCount s base)).any (fun j =>
    let e := partEntry s base j
    decide (e.1 = 1) && decide (Crypto.sha384 (kbytes s (base + e.2.1) e.2.2.1) ≠ e.2.2.2)) then 5
  else 0

/-- COMMITSEQ of the newest record of a kind. -/
def seqOfKind (s : State) (k : Nat) : Nat := match newestCommit s (fun x => x = k) with | some (_, q) => q | none => 0

/-- The chosen image boots: the fused count rises to its ROLLBACK (R468), the firmware is loaded and core 0 released. -/
def bootImage (s : State) (which seq : Nat) : State :=
  let rb := kle s (imageBase which + 16) 4
  let t : State := { s with fuses := { s.fuses with rollback := max s.fuses.rollback rb }
                            cpx := { s.cpx with image := which, fwid := seq } }
  let t := t.wr R.KEY_ROLLBACK_COUNT t.fuses.rollback
  let t := loadFirmware t (activeCluster t)
  showUpdate (releaseCore (writeRecord t (activeCluster t) (bitClr (suspectFlags t) (activeCluster t))) 0x08000000)

/-- The slots as R424 and R448 choose them; where neither verifies, no cluster is released. -/
def bootSlots (s : State) : State :=
  let a := activeSlot s
  let why := bootCheck s (imageBase a)
  if why = 0 then bootImage s a (activeSeq s)
  else
    let t := reportRefused s (imageBase a) why
    match imageCheck t (imageBase (1 - a)) with
    | none =>
      let t := raise (t.wr R.UPD_ACTIVE_FALLBACK 1) 0x5480 [a, Config.payloadCode 0x5480 why]
      bootImage t (1 - a) (seqOfKind t (1 - a))
    | some (r, _) => showUpdate (reportRefused t (imageBase (1 - a)) r)

/-- The service core ROM boots the control complex after a reset of level 4 or 5 (R424). -/
def boot (s : State) : State :=
  if legacyLoad s then
    match imageCheck s (imageBase 2) with
    | none => bootImage (raise s 0x54A0 [Config.payloadCode 0x54A0 0]) 2 (seqOfKind s 0x10)
    | some (r, _) => bootSlots (raise (reportRefused s (imageBase 2) r) 0x54A0 [Config.payloadCode 0x54A0 1])
  else bootSlots (activate s)

/-! ## Checkpoints (R427 to R429) -/

/-- The ranges that a checkpoint holds: tier D address and length. -/
def ckRanges (s : State) : List (Nat × Nat) :=
  (List.range (s.rd R.CPX_CKRANGES_NRANGES)).map (fun i =>
    (s.rd R.CPX_CKRANGE_ADDRL i * 64 + s.rd R.CPX_CKRANGE_ADDRH i * 2 ^ 32, s.rd R.CPX_CKRANGE_LEN i))

/-- The valid checkpoint with the higher CKSEQ (R430): slot and content. A slot of an area that CKBASE and CKSIZE no longer give holds none. -/
def newestCk (s : State) : Option (Nat × Checkpoint) :=
  (s.cpx.slots.filter (fun e => e.2.valid && decide (e.2.addr = ckAddr s e.1) && decide (e.2.fwid = s.cpx.fwid))).foldl (fun b e =>
    match b with
    | some x => if x.2.seq < e.2.seq then some e else b
    | none => some e) none

/-- The resume vector that the ACTIVE cluster has written. -/
def resumeOf (s : State) (c : Nat) : Nat := s.rd R.CPX_RESUMEL 0 c + 2 ^ 32 * s.rd R.CPX_RESUMEH 0 c

/-- A checkpoint of the ACTIVE cluster (R427): none without an area for it. -/
def checkpoint (s : State) : State :=
  let rs := ckRanges s
  let n := 4194304 + rs.foldl (fun a r => a + r.2) 0
  if s.rd R.CPX_CKSIZE_CKSIZE = 0 then s
  else
    let c := activeCluster s
    let slot := match newestCk s with | some (k, _) => 1 - k | none => 0
    let seq := s.cpx.slots.foldl (fun a e => max a e.2.seq) 0 + 1
    let ck : Checkpoint :=
      { addr := ckAddr s slot, seq, resume := resumeOf s c, fwid := s.cpx.fwid, cluster := c, ranges := rs, evtseq := s.recd.head
        sram := sramOf s c
        payload := rs.foldl (fun m r => memPaste m r.1 r.2 (memCut s.dram.data r.1 r.2)) []
        valid := true }
    let t : State := { s with cpx := { s.cpx with slots := s.cpx.slots.ins slot ck, ckDue := none } }
    let t := t.wr64 R.CPX_CKSEQL R.CPX_CKSEQH seq
    (t.bump C.CPX_CHECKPOINTS).bump C.CPX_HOLDNS (n * 10 / 512)

/-! ## Takeovers (R430 to R433) -/

/-- A checkpoint is copied back: the SRAM into the incoming cluster, the ranges into tier D. -/
def ckRestore (s : State) (c : Nat) (ck : Checkpoint) : State :=
  ck.ranges.foldl (fun t r => dWrite t r.1 (memRead ck.payload r.1 r.2)) (setSram s c ck.sram)

/-- The clock domains of the clusters (Table 13.2): the ACTIVE one's runs while the shaft does, and during a takeover the
incoming one's too; an unpowered cluster's is gated. -/
def showGates (s : State) : State :=
  let up := fun c => s.on R.CLK_STAT_LOCKED &&
    (decide (activeCluster s = c) || (match s.cpx.takeover with | some k => decide (k.incoming = c) | none => false))
  (s.wbit R.CLK_GATED_DOMAINS 0 (!up 0)).wbit R.CLK_GATED_DOMAINS 1 (!up 1)

/-- The outgoing cluster's cores are held by RETURN until ALIVE (R433). -/
def holdCores (s : State) (on : Bool) : State := { s with cpx := { s.cpx with hold := on } }

/-- Steps 1 to 5 of Table 14.4: `ret` marks RETURN, whose outgoing cluster is held, not isolated; the incoming cluster
resumes from the newest valid checkpoint, or starts clean. -/
def takeoverStart (s : State) (src : Nat) (ret : Bool) : State :=
  let out := activeCluster s
  let inc := if ret then 1 - out else if bit (suspectFlags s) (1 - out) then out else 1 - out
  let ck := if s.on R.CPX_CFG_CKUSE then newestCk s else none
  let t := if ret then s else resetRegs s 2 0
  let t := if ret then t else t.wr R.BLKSTAT_ISOLATED (b2n (inc ≠ out)) 0 (5 + out)
  let t : State := { t with cpx := { t.cpx with
    takeover := some { ret, source := src, outgoing := out, incoming := inc, start := s.now, ckseq := ck.map (·.2.seq) } } }
  let t := showGates (t.wr R.CPX_STAT_TAKEOVER 1)
  match ck with
  | some (_, x) => holdCores (releaseCore (ckRestore t inc x) x.resume) ret
  | none => holdCores (releaseCore (loadFirmware t inc) 0x08000000) ret

/-- ALIVE: step 6 of Table 14.4. -/
def takeoverDone (s : State) (k : Takeover) : State :=
  let flags := bitClr (suspectFlags s) k.incoming
  let flags := if k.incoming = k.outgoing then flags else bitPut flags k.outgoing (!k.ret)
  let t : State := { s with cpx := { s.cpx with takeover := none, hold := false } }
  let t := (t.wr R.CPX_STAT_TAKEOVER 0).wr R.BLKSTAT_ISOLATED 0 0 (5 + k.outgoing)
  let t := showGates (writeRecord t k.incoming flags)
  let t : State := { t with cpx := { t.cpx with wdHalf := 0, wdLast := (List.range 4).map (fun c => (c, s.now)) } }
  let t := (t.bump C.CPX_REMOUNTS)
  raise t 0x4C20 [k.source, k.outgoing, k.incoming, s.now - k.start,
    match k.ckseq with | some q => q | none => Config.payloadCode 0x4C20 0]

/-- A failed takeover (R432): the incoming cluster is SUSPECT; event 0x4C80. A failed RETURN releases the outgoing cluster where
it was held. What FAILACT asks for follows in `complexFailed`. -/
def takeoverFailed (s : State) (k : Takeover) (cause : Nat) : State :=
  let t : State := { s with cpx := { s.cpx with takeover := none, hold := false
                                                entry := if k.ret then s.cpx.entry else none } }
  let t := (t.wr R.CPX_STAT_TAKEOVER 0).wr R.BLKSTAT_ISOLATED 0 0 (5 + k.outgoing)
  let t := showGates (writeRecord t k.outgoing (bitSet (suspectFlags t) k.incoming))
  raise t 0x4C80 [Config.payloadCode 0x4C80 cause, s.rd R.CPX_CFG_FAILACT]

/-! ## Watchdogs (R434) -/

/-- Do the watchdogs run: a released cluster, no takeover, the cores not held? -/
def watching (s : State) (c : Nat) : Bool :=
  awake s && s.cpx.entry.isSome && s.cpx.takeover.isNone && !s.cpx.hold && s.rbit R.CPX_CORES_ENABLED c (activeCluster s)

end Sys2Proof.Machine
end

