-- ==== Sys2Proof/Machine/MillOps.lean ====
section
/-! DEFINITION. Millstones at work (chapter 09): writes into the space, job records, completions, the scoreboard, issue,
completion, commits and failures. -/

namespace Sys2Proof.Machine

/-! ## Writes (R279, R280, R291) -/

/-- A millstone's access to a range of the space looks up its extents, as a streaming source (R106). -/
def streamLookups (s : State) (a n : Nat) : State := (pagesOf a n).foldl (fun t p => streamLookup t (p / 512)) s

/-- A millstone's write of bytes at a space address goes to Place as a host write does; answers the request's number. -/
def mstWrite (s : State) (a : Nat) (bs : List Nat) : State × Nat :=
  let id := s.xpt.nextReq
  let r : Req := { id, qp := 2 ^ 24 + id, lport := 0, psn := 0, npsn := 0, kind := .write, rkey := 0, va := a
                   len := bs.length, payload := bs, compare := 0, swapAdd := 0, ackReq := false, last := true, imm := none
                   stage := .place, parts := readParts (bs.length / 4096 + 2) a bs.length 0, mst := true, start := s.now }
  (doPlace id (streamLookups (pushReq s r) a bs.length), id)

/-- Is a write durable, and did it meet a fence or poison? -/
def mstDurable (s : State) (id : Nat) : Bool :=
  match reqAt s id with
  | some r => decide (r.stage = .done)
  | none => true
def mstFailed (s : State) (id : Nat) : Bool :=
  match reqAt s id with
  | some r => decide (r.fate ≠ .ok)
  | none => false

/-- Writes that nobody waits for any more are forgotten; the tokens of one that is still under way return. -/
def mstForget (s : State) (ids : List Nat) : State :=
  ids.foldl (fun t id => match reqAt t id with
    | some r => if r.stage = .done then dropReqId t id else releaseReq t r
    | none => t) s

/-- A write of line 0 of record `j`. -/
def writeLine (s : State) (j : Nat) (ws : List Nat) : State :=
  let old := s.mst.lineReqs.filter (mstDurable s)
  let t := mstForget { s with mst := { s.mst with lineReqs := s.mst.lineReqs.filter (fun i => !mstDurable s i) } } old
  let q := mstWrite t (recAddr t j) (ws.flatMap (fun w => leBytes w 8))
  { q.1 with mst := { q.1.mst with lineReqs := q.1.mst.lineReqs ++ [q.2] } }

/-- Line 0 with another JSTATE. -/
def withState (ws : List Nat) (v : Nat) : List Nat := ws.set 0 (setBits (ws.getD 0 0) 61 3 v)

/-- The word of the ERROR fields (Table 9.2 Q4). -/
def errorWord (code pc peer syn : Nat) : Nat :=
  code % 256 * 2 ^ 56 + pc % 1024 * 2 ^ 46 + peer % 32 * 2 ^ 41 + syn % 256 * 2 ^ 33

/-- A completion entry; a full ring counts it instead (R284): event 0x2840 with the completions lost since its last record. -/
def completion (s : State) (j st code jseq : Nat) : State :=
  if s.mst.ring.length < 1024 then
    { s with mst := { s.mst with ring := s.mst.ring ++ [[j, st, code, jseq % 2 ^ 32]] } }
  else
    let t : State := { s with mst := { s.mst with lost := s.mst.lost + 1 } }
    let u := raise t 0x2840 [j, t.mst.lost]
    if u.recd.head = t.recd.head then u else { u with mst := { u.mst with lost := 0 } }

/-! ## Jobs in slots -/

def setJob (s : State) (j : Job) : State :=
  { s with mst := { s.mst with jobs := s.mst.jobs.map (fun x => if x.index = j.index then j else x) } }
def jobAt (s : State) (n slot : Nat) : Option Job := s.mst.jobs.find? (fun j => j.mst = n ∧ j.slot = slot)
def jobOf (s : State) (j : Nat) : Option Job := s.mst.jobs.find? (fun x => x.index = j)
def dropJob (s : State) (j : Nat) : State :=
  { s with mst := { s.mst with jobs := s.mst.jobs.filter (fun x => x.index ≠ j) } }

/-- An instruction in flight is named by its index and TURN. -/
def opKey (pc turn : Nat) : Nat := pc + 1024 * turn
def MOp.key (o : MOp) : Nat := opKey o.pc o.turn

/-- Bytes of SRAM from a line on, and a write of them. -/
def sramRead (j : Job) (line lines : Nat) : List Nat := memRead j.sram (64 * line) (64 * lines)
def sramWrite (j : Job) (line : Nat) (bs : List Nat) : Job := { j with sram := memWrite j.sram (64 * line) bs }

/-- A result slot. -/
def jobSlot (j : Job) (n : Nat) : List Nat := (j.bank.drop (32 * n)).take 32
def setJobSlot (j : Job) (n : Nat) (bs : List Nat) : Job :=
  { j with bank := j.bank.take (32 * n) ++ bs.take 32 ++ j.bank.drop (32 * n + 32), bankDirty := true }

/-- The job ends FAILED (R298): the ERROR fields, the cursor unchanged, a completion entry and event 0x2800 + n. -/
def failJob (s : State) (j : Job) (code pc peer syn : Nat) : State :=
  let ws := lineZero s j.index
  let t := writeLine (dropJob s j.index) j.index ((withState ws 4).set 4 (errorWord code pc peer syn))
  let t := completion t j.index 4 code j.jseq
  let t := (t.bump C.MST_FAILED 1 0 j.mst)
  let t := if code = 1 then t.bump C.MST_TIERLATE 1 0 j.mst else t
  mstForget (raise t (0x2800 + j.mst) [j.index, code, pc, peer, syn]) (j.commitReqs ++ j.ops.flatMap (·.reqs))

/-- A cancelled job ends once nothing of it is outstanding (Table 9.4). -/
def cancelEnd (s : State) (j : Job) : State :=
  if j.cancel ∧ j.ops.isEmpty ∧ j.phase = 0 then
    completion (writeLine (dropJob s j.index) j.index (withState (lineZero s j.index) 5)) j.index 5 0 j.jseq
  else s

/-! ## Instructions in a stage (R286, R289, R293) -/

/-- Instruction `pc` of a job's list. -/
def instrAt (j : Job) (pc : Nat) : Nat := j.list.getD pc (0x10 * 2 ^ 120)

/-- The STAGE header or END from `pc` on, past NOPs. -/
def headerFrom (j : Job) : Nat → Nat → Nat
  | 0, pc => pc
  | n + 1, pc => if iOp (instrAt j pc) = 0 then headerFrom j n (pc + 1) else pc

/-- The COMMIT from `pc` on. -/
def commitFrom (j : Job) : Nat → Nat → Nat
  | 0, pc => pc
  | n + 1, pc => if iOp (instrAt j pc) = 0x0F then pc else commitFrom j n (pc + 1)

/-- What follows a stage: header and pass of the next one, or END. -/
def nextStage (j : Job) : Nat × Nat :=
  if j.iter + 1 < iRepeat (instrAt j j.pc) then (j.pc, j.iter + 1)
  else (headerFrom j 1024 (commitFrom j 1024 j.pc + 1), 0)

/-- Under a header and a TURN: what is added to every LA operand, and where ranges must end. -/
def laBase (j : Job) (header turn : Nat) : Nat := if iPing (instrAt j header) then turn % 2 * j.half * 1024 else 0
def laLimit (j : Job) (header : Nat) : Nat := if iPing (instrAt j header) then j.half * 1024 else j.window * 1024

/-- SRAM ranges that an instruction reads and writes, at their place in the window. -/
def opReads (j : Job) (w header turn : Nat) : List (Nat × Nat) :=
  let b := laBase j header turn
  let ctab := if iOp w = 4 then [(bits w 23 17, 8)] else []
  let acc := if iAcc w then opWrites0 w else []
  (opReads0 w ++ ctab ++ acc).map (fun r => (r.1 + b, r.2))
def opWrites (j : Job) (w header turn : Nat) : List (Nat × Nat) :=
  (opWrites0 w).map (fun r => (r.1 + laBase j header turn, r.2))

/-- Result slots that an instruction uses. -/
def opSlots (w : Nat) : List Nat :=
  match iOp w with
  | 0x07 => [bits w 83 5]
  | 0x08 => [bits w 83 5, bits w 83 5 + 1]
  | 0x09 => [bits w 111 5, bits w 111 5 + 1]
  | 0x0A => [bits w 111 5, bits w 106 5]
  | 0x0D => (List.range (bits w 109 2 + 1)).map (fun i => bits w 111 5 + i)
  | _ => []

/-- The peer that an instruction names. -/
def opPeer (w : Nat) : Option Nat :=
  match iOp w with
  | 0x03 | 0x0C => some (bits w 83 5)
  | 0x0D => some (bits w 104 5)
  | _ => none

/-- The unit of an opcode: 0 fabric, 1 network, 2 datapath, 3 CRC, 4 SHA, 5 none. -/
def opUnit (op : Nat) : Nat :=
  match op with
  | 0x02 | 0x0B => 0
  | 0x03 | 0x0C | 0x0D => 1
  | 0x04 | 0x05 | 0x06 => 2
  | 0x07 => 3
  | 0x08 | 0x09 => 4
  | _ => 5

/-- What S adds to an address, in bytes. -/
def strideOf (j : Job) (w header iter : Nat) : Nat := if iS w then iter * iStride (instrAt j header) * 64 else 0

/-- Granules of 4 KiB that ranges touch. -/
def granules (rs : List (Nat × Nat)) : List Nat :=
  rs.flatMap (fun r => if r.2 = 0 then [] else (List.range ((r.1 + r.2 - 1) / 64 - r.1 / 64 + 1)).map (fun i => r.1 / 64 + i))
def markFresh (stale : Nat) (rs : List (Nat × Nat)) : Nat := (granules rs).foldl bitClr stale

/-- The limits of R286: 0, or BOUNDS. -/
def boundsBad (j : Job) (w header : Nat) : Bool :=
  let lim := laLimit j header
  let ctab := if iOp w = 4 then [(bits w 23 17, 8)] else []
  (opReads0 w ++ opWrites0 w ++ ctab).any (fun r => decide (r.2 = 0) || decide (1024 < r.2) || decide (lim < r.1 + r.2)) ||
  (opSlots w).any (fun n => decide (31 < n)) ||
  (match opPeer w with
   | some p => decide (((j.peers.getD p []).getD 0 0) = 0)
   | none => false)

/-- Does an instruction conflict with one in flight (R288)? -/
def conflicts (j : Job) (w header turn : Nat) : Bool :=
  let rs := opReads j w header turn
  let ws := opWrites j w header turn
  j.ops.any (fun o => meets rs o.writes || meets ws o.reads || meets ws o.writes || (opSlots w).any o.slots.contains)

/-- Network operations of an instruction that have not left yet. -/
def unsent (s : State) (index key : Nat) : Bool :=
  s.mst.qps.any (fun q => q.2.ops.any (fun o => decide (o.job = index) && decide (o.pc = key) && decide (o.sent < o.packets)))

/-- Instructions in a unit's queue of MST[n]. -/
def queued (s : State) (n unit : Nat) : Nat :=
  (jobsOn s n).foldl (fun a j => a + (j.ops.filter (fun o => o.unit = unit && (unit ≠ 1 || unsent s j.index o.key))).length) 0

/-- Has the unit room (R275)? -/
def unitRoom (s : State) (n unit : Nat) : Bool :=
  if unit = 5 then true else if unit = 4 then decide (shaInUse s < 64) else decide (queued s n unit < 32)

/-- A FETCHS that the job waits for now: a late one of its prefetch set, or one that the next instruction needs (R294). -/
def lateFetch (j : Job) : Option Nat :=
  if j.phase ≠ 0 then none
  else
    let w := instrAt j j.next
    let rs := opReads j w j.pc j.turn
    let ws := opWrites j w j.pc j.turn
    let fetch := fun (o : MOp) => decide (iOp (instrAt j o.pc) = 2)
    (j.ops.find? (fun o => fetch o && (if j.started then meets rs o.writes || meets ws o.writes ||
        (iOp w = 0x0F && o.turn = j.turn) else decide (o.turn = j.turn)))).map (·.pc)

/-- Does the job stall: its prefetch set has not all arrived, or a FETCHS that it needs now has not delivered (R294)? -/
def stalled (j : Job) : Bool :=
  (lateFetch j).isSome ||
  (decide (j.phase = 0) && !j.started && j.ops.any (fun o => decide (o.unit = 1) && decide (iOp (instrAt j o.pc) = 3) && decide (o.turn = j.turn)))

/-! ## Issue (R288) -/

/-- What an attempt to issue finds. -/
inductive Issue
  | blocked
  | failed (code pc peer syn : Nat)
  | done (s : State)

/-- Post the operations of a network instruction; its peer's QP must be in RTS (R296, R297). -/
def issueNet (s : State) (j : Job) (w header key rx : Nat) : Option (State × Nat) :=
  let p := (opPeer w).getD 0
  let e := j.peers.getD p []
  let q := e.getD 1 0
  let len := if iOp w = 0x0D then 32 * (bits w 109 2 + 1) else 64 * bits w 88 11
  let roff := if iOp w = 0x0D then bits w 56 48 else bits w 35 48
  let va := (e.getD 3 0 + roff + rx) % 2 ^ 64
  let qc := rqAt s q
  if qc.qstate ≠ 3 then none
  else
    let base : Rop := { kind := 0, job := j.index, pc := key, peer := p, va, rkey := e.getD 2 0, len, data := [], imm := 0
                        total := pktsFor qc len }
    match iOp w with
    | 0x03 => some (rqPost s q base, 1)
    | 0x0C =>
      let l := (opReads j w header (key / 1024)).headD (0, 0)
      let t := rqPost s q { base with kind := 1, data := sramRead j l.1 l.2 }
      if iFl w then some (rqPost t q { base with kind := 2, total := 1 }, 2) else some (t, 1)
    | _ => some (rqPost s q { base with kind := 3, imm := bits w 24 32, total := 1, data := (j.bank.drop (32 * bits w 111 5)).take len }, 1)

/-- An instruction with a unit issues under a header, pass and TURN. -/
def issueUnit (s : State) (j : Job) (pc header iter turn : Nat) (pre : Bool) : Issue :=
  let w := instrAt j pc
  let u := opUnit (iOp w)
  let peer := (opPeer w).getD 0
  if boundsBad j w header then .failed 5 pc peer 0
  else if (granules (opReads j w header turn)).any (bit j.stale) then .failed 11 pc 0 0
  else if conflicts j w header turn ∨ !unitRoom s j.mst u then .blocked
  else
    let o : MOp := { pc, unit := u, turn, iter, header, pre, reads := opReads j w header turn
                     writes := opWrites j w header turn, slots := opSlots w }
    let fin := fun (t : State) (o : MOp) =>
      let j' := { j with ops := j.ops ++ [o], stale := markFresh j.stale o.writes
                         next := if pre then j.next else pc + 1
                         preLeft := if pre then j.preLeft.drop 1 else j.preLeft
                         ahead := if pre then j.ahead ++ [pc] else j.ahead }
      Issue.done ((setJob t j').bump C.MST_INSTR 1 0 j.mst)
    let a := bits w 46 42 * 64 + strideOf j w header iter
    let n := 64 * bits w 88 11
    match iOp w with
    | 0x02 =>
      if spaceBad s a n then .failed 10 pc 0 0
      else fin (streamLookups s a n) o
    | 0x0B =>
      if spaceBad s a n then .failed 10 pc 0 0
      else if (pagesOf a n).any (fenced s) then .failed 3 pc 0 0
      else
        let l := (opReads j w header turn).headD (0, 0)
        let q := mstWrite s a (sramRead j l.1 l.2)
        fin q.1 { o with reqs := [q.2] }
    | 0x03 | 0x0C | 0x0D =>
      match issueNet s j w header (opKey pc turn) (strideOf j w header iter) with
      | none => .failed 2 pc peer 0
      | some q => fin q.1 { o with net := q.2 }
    | 0x08 | 0x09 =>
      let k := (opSlots w).headD 0
      if bit ((jobSlot j (k + 1)).getD 8 0) 1 then .failed 6 pc 0 0 else fin s o
    | _ => fin s o

/-- WAIT (Table 9.7): its condition now. -/
def issueWait (s : State) (j : Job) : Issue :=
  let w := instrAt j j.next
  let lim := bits w 90 24
  let go := Issue.done ((setJob s { j with next := j.next + 1, waitSince := none, waitOk := false }).bump C.MST_INSTR 1 0 j.mst)
  if j.waitOk then go
  else match bits w 114 2, j.waitSince with
  | 1, _ =>
    let k := bits w 77 13
    if jlPages s ≤ k then .failed 5 j.next 0 0
    else if jstate s k = 3 then go
    else if jstate s k = 4 ∨ jstate s k = 5 then .failed 9 j.next 0 0
    else if j.waitSince.isNone then .done (setJob s { j with waitSince := some s.now }) else .blocked
  | _, none => .done (setJob s { j with waitSince := some s.now })
  | 0, some t0 => if lim ≤ s.now - t0 then go else .blocked
  | _, some _ => .blocked

/-- COMMIT (R279, R290): the bank that RBANK does not name is written first, if a slot changed; then line 0. -/
def commitLine (s : State) (j : Job) : State :=
  let n := nextStage j
  let ended := decide (iOp (instrAt j n.1) = 0x10)
  let ws := lineZero s j.index
  let w0 := setBits (setBits (ws.getD 0 0) 61 3 (if ended then 3 else 2)) 21 1 (if j.bankDirty then 1 - j.rbank else j.rbank)
  let w3 := n.1 % 1024 * 2 ^ 54 + n.2 % 2 ^ 24 * 2 ^ 30 + (j.turn + 1) % 2 ^ 30
  let w5 := setBits (ws.getD 5 0) 32 32 (j.stages + 1)
  let q := mstWrite s (recAddr s j.index) ((((ws.set 0 w0).set 3 w3).set 5 w5).flatMap (fun w => leBytes w 8))
  setJob q.1 { j with phase := 2, commitReqs := [q.2] }
def commitStart (s : State) (j : Job) : State :=
  if j.bankDirty then
    let q := mstWrite s (recAddr s j.index + 0x400 + 0x400 * (1 - j.rbank)) j.bank
    setJob q.1 { j with phase := 1, commitReqs := [q.2] }
  else commitLine s j

/-- The next stage begins to issue: every granule is stale but those that its prefetch set fills, and the prefetch set of the
stage after it is drawn up (R289, R293). -/
def stageBegin (j : Job) : Job :=
  let pre := j.fetched.flatMap (fun pc => opWrites j (instrAt j pc) j.pc j.turn)
  let n := nextStage j
  let ended := decide (iOp (instrAt j n.1) = 0x10)
  let body := (List.range (commitFrom j 1024 n.1 - n.1)).map (fun i => n.1 + i)
  { j with started := true, next := j.pc + 1, stale := markFresh (2 ^ (16 * j.window) - 1) pre
           ahead := [], bankDirty := false
           preLeft := if ended then [] else body.filter (fun pc => iP (instrAt j pc) && (iOp (instrAt j pc) = 2 || iOp (instrAt j pc) = 3)) }

/-- The next instruction of a job's own stage. -/
def issueOwn (s : State) (j : Job) : Issue :=
  let w := instrAt j j.next
  let skip := Issue.done (setJob s { j with next := j.next + 1 })
  if iP w ∧ j.fetched.contains j.next then skip
  else match iOp w with
  | 0x00 => skip
  | 0x0A =>
    if boundsBad j w j.pc then .failed 5 j.next 0 0
    else if conflicts j w j.pc j.turn then .blocked
    else
      let n := bits w 100 6 + 1
      if (jobSlot j (bits w 111 5)).take n = (jobSlot j (bits w 106 5)).take n then
        .done ((setJob s { j with next := j.next + 1 }).bump C.MST_INSTR 1 0 j.mst)
      else .failed 4 j.next 0 0
  | 0x0E => issueWait s j
  | 0x0F =>
    if j.ops.any (fun o => o.turn = j.turn) then .blocked
    else .done ((commitStart s j).bump C.MST_INSTR 1 0 j.mst)
  | 0x01 | 0x10 => .blocked
  | _ => issueUnit s j j.next j.pc j.iter j.turn false

/-- An attempt to issue for a job: nothing while it commits, is cancelled, is held at a stage's start, or its prefetch set is
late; then the prefetch set of the following stage, then its own instructions in list order. -/
def tryIssue (s : State) (j : Job) : Issue :=
  if j.phase ≠ 0 ∨ j.cancel then .blocked
  else if !j.started ∧ (mstModeOf s j.mst ≠ 0 ∨ !j.ops.isEmpty) then .blocked
  else
    let j := if j.started then j else stageBegin j
    let n := nextStage j
    match j.preLeft with
    | pc :: _ =>
      match issueUnit s j pc n.1 n.2 ((j.turn + 1) % 2 ^ 30) true with
      | .blocked => issueOwn s j
      | r => r
    | [] => issueOwn s j

/-- Is a job ready? -/
def ready (s : State) (j : Job) : Bool := match tryIssue s j with | .blocked => false | _ => true

/-- The status registers. -/
def showMst (s : State) : State :=
  (List.range 8).foldl (fun u n => u.wr R.MST_STAT_READY ((jobsOn s n).filter (ready s)).length 0 n) (showMstBase s)

/-! ## Completion (R287, R291) -/

/-- CRC-32C of bytes into a slot. -/
def crcInto (j : Job) (k : Nat) (bs : List Nat) : Job :=
  let sl := jobSlot j k
  let reg0 := if bit (sl.getD 16 0) 0 then leNat ((sl.drop 8).take 4) else 0xFFFFFFFF
  let reg := bs.foldl (Crypto.crcByte 0x82F63B78) reg0
  setJobSlot j k (leBytes (Nat.xor reg 0xFFFFFFFF) 4 ++ (sl.drop 4).take 4 ++ leBytes reg 4 ++ (sl.drop 12).take 4 ++
    [bitSet (sl.getD 16 0) 0] ++ sl.drop 17)

/-- The state words of a SHA pair (big-endian, log entry 24) and its length so far. -/
def shaState (j : Job) (k : Nat) : List Nat × Nat :=
  if bit ((jobSlot j (k + 1)).getD 8 0) 0 then
    ((List.range 8).map (fun i => beNat (((jobSlot j k).drop (4 * i)).take 4)), leNat ((jobSlot j (k + 1)).take 8))
  else ((Crypto.primes 8).map (fun p => Crypto.rootFrac 2 p 32), 0)

/-- SHA-256 blocks into a pair; `fin` marks FINISHED. -/
def shaInto (j : Job) (k : Nat) (bs : List Nat) (len : Nat) (fin : Bool) : Job :=
  let ks := (Crypto.primes 64).map (fun p => Crypto.rootFrac 3 p 32)
  let h := (Crypto.chunks 64 (bs.length / 64) bs).foldl (Crypto.shaBlock Crypto.sha256Par ks) (shaState j k).1
  let s1 := jobSlot j (k + 1)
  let f := bitSet (s1.getD 8 0) 0
  setJobSlot (setJobSlot j k (h.flatMap (fun x => beBytes x 4))) (k + 1)
    (leBytes len 8 ++ [if fin then bitSet f 1 else f] ++ s1.drop 9)

/-- XOR of byte lists of one length. -/
def xorAll (n : Nat) (ls : List (List Nat)) : List Nat := ls.foldl (List.zipWith Nat.xor) (List.replicate n 0)

/-- GFMAC (Table 9.6). -/
def gfmac (j : Job) (w : Nat) (o : MOp) : Job :=
  let m := bits w 51 4 + 1
  let k := bits w 55 5 + 1
  let len := bits w 40 11
  let srcs := (o.reads.take k).map (fun r => sramRead j r.1 r.2)
  let tab := sramRead j ((o.reads.getD k (0, 0)).1) 8
  (List.range m).foldl (fun u r =>
    let dst := (o.writes.getD r (0, 0)).1
    let terms := srcs.zipIdx.map (fun x => x.1.map (Crypto.gfMul 0x11D (tab.getD (32 * r + x.2) 0)))
    let old := if iAcc w then [sramRead j dst len] else []
    sramWrite u dst (xorAll (64 * len) (terms ++ old))) j

/-- A datapath, CRC or SHA instruction takes effect on SRAM and slots. -/
def runUnit (j : Job) (o : MOp) : Job :=
  let w := instrAt j o.pc
  let src := o.reads.headD (0, 0)
  match iOp w with
  | 0x04 => gfmac j w o
  | 0x05 =>
    let len := bits w 55 11
    let k := bits w 66 5 + 1
    let dst := (o.writes.headD (0, 0)).1
    let old := if iAcc w then [sramRead j dst len] else []
    sramWrite j dst (xorAll (64 * len) ((o.reads.take k).map (fun r => sramRead j r.1 r.2) ++ old))
  | 0x06 => o.writes.foldl (fun u r => sramWrite u r.1 (List.replicate (64 * r.2) 0)) j
  | 0x07 => crcInto j (bits w 83 5) (sramRead j src.1 src.2)
  | 0x08 =>
    let k := bits w 83 5
    shaInto j k (sramRead j src.1 src.2) ((shaState j k).2 + 64 * src.2) false
  | 0x09 =>
    let k := bits w 111 5
    let n := (shaState j k).2
    shaInto j k (0x80 :: (List.replicate 55 0 ++ beBytes (8 * n) 8)) n true
  | _ => j

/-- An instruction leaves the scoreboard. -/
def opDone (j : Job) (o : MOp) : Job := { j with ops := j.ops.filter (fun x => x.key ≠ o.key) }

/-- A commit goes on: after its bank, line 0. -/
def commitBank (s : State) (j : Job) : State :=
  if j.phase = 1 ∧ j.commitReqs.all (mstDurable s) then
    if j.commitReqs.any (mstFailed s) then failJob s j 3 j.next 0 0
    else commitLine (mstForget s j.commitReqs) j
  else s

/-- What a FETCHS reads: pages that are not resident come from tier S; one that cannot be read there waits in SPAN for its fill, as what
patrol finds does (R239, R357, log entry 168), and is LOST elsewhere. Answers whether one waits. -/
def fetchPages (s : State) (a n : Nat) (rd : CwRead) : State × Bool :=
  (pagesOf a n).foldl (fun (x : State × Bool) p =>
    let l := storeAt x.1 p
    if usable x.1 p ∨ l.sstate ≠ 1 then x
    else
      let q := readCw x.1 l rd false
      if q.2 ≠ 2 then (q.1.bump C.XTS_DECUNITS, x.2)
      else
        let t := lostCw q.1 (3 * p)
        (t, x.2 || decide ((storeAt t p).sstate = 1))) (s, false)

/-- The lines of a range in tier D that are uncorrectable: the twin's copy is asked for in SPAN, elsewhere they are poisoned (R173, R174).
Answers whether a copy is awaited. -/
def spaceSeek (s : State) (a n : Nat) : State × Bool :=
  (pagesOf a n).foldl (fun (x : State × Bool) p =>
    if usable x.1 p then
      let ls := (List.range 64).filter (fun l => decide (a < p * 4096 + 64 * l + 64) && decide (p * 4096 + 64 * l < a + n))
      let q := seekLines x.1 p 4 ls
      (q.1, x.2 || (match q.2 with | .waits => true | _ => false))
    else x) (s, false)

/-- An instruction in flight completes. -/
def completeOp (s : State) (j : Job) (o : MOp) (rd : CwRead) : State :=
  let w := instrAt j o.pc
  let n := 64 * bits w 88 11
  let a := bits w 46 42 * 64 + strideOf j w o.header o.iter
  match iOp w with
  | 0x02 =>
    let f := fetchPages s a n rd
    let q := spaceSeek f.1 a n
    if f.2 ∨ q.2 then q.1
    else if spacePoison q.1 a n then failJob q.1 j 3 o.pc 0 0
    else if spaceBad q.1 a n then failJob q.1 j 10 o.pc 0 0
    else
      let j' := opDone (sramWrite j ((o.writes.headD (0, 0)).1) (spaceRead q.1 a n)) o
      cancelEnd ((setJob q.1 j').bump C.MST_FETCHSBYTES n 0 j.mst) j'
  | 0x0B =>
    if o.reqs.all (mstDurable s) then
      if o.reqs.any (mstFailed s) then failJob s j 3 o.pc 0 0
      else
        let j' := opDone j o
        cancelEnd ((setJob (mstForget s o.reqs) j').bump C.MST_PUTBYTES n 0 j.mst) j'
    else s
  | 0x03 | 0x0C | 0x0D => s
  | _ =>
    let j' := opDone (runUnit j o) o
    let t := if iOp w = 4 then s.bump C.MST_MACBYTES (64 * bits w 40 11 * (bits w 55 5 + 1)) 0 j.mst else s
    cancelEnd (setJob t j') j'

/-- A network operation of an instruction has its answer: READ data lands in SRAM. -/
def netDone (s : State) (o : Rop) (data : List Nat) : State :=
  match jobOf s o.job with
  | none => s
  | some j =>
    match j.ops.find? (fun x => x.key = o.pc) with
    | none => s
    | some m =>
      let j := if o.kind = 0 then sramWrite j ((m.writes.headD (0, 0)).1) ((data ++ List.replicate o.len 0).take o.len) else j
      let t := if o.kind = 0 then s.bump C.MST_FETCHRBYTES o.len 0 j.mst
               else if o.kind = 1 then s.bump C.MST_SCATBYTES o.len 0 j.mst else s
      let m' := { m with net := m.net - 1 }
      let j' := if m'.net = 0 then opDone j m else { j with ops := j.ops.map (fun x => if x.key = m.key then m' else x) }
      cancelEnd (setJob t j') j'

/-- A requester QP enters ERROR: the jobs with an operation on it fail (R297). -/
def rqError (s : State) (i syn : Nat) : State :=
  let q := rqAt s i
  let t := setRq s i { q with qstate := 4, ops := [], outpkt := 0, outrd := 0, rnrWait := false }
  q.ops.foldl (fun u o =>
    match jobOf u o.job with
    | none => u
    | some j =>
      if j.ops.any (fun m => m.key = o.pc) then failJob u j 2 (o.pc % 1024) o.peer syn else u) t

end Sys2Proof.Machine
end

