-- ==== Sys2Proof/Machine/Reset.lean ====
section
/-! DEFINITION. Resets (R388 to R398): what each level does to the state of the blocks beside their registers, and what a
request of a level does in each device state (R391 to R394). -/

namespace Sys2Proof.Machine

/-! ## What a reset reads again: options, fuses, keys, sets -/

/-- MAC defaults: the fused base address + 4 × PRT + sub-port, and + 16 for the management port (R11). -/
def fuseMacs (s : State) : State :=
  let mac := fun n => (s.fuses.baseMac + n) % 2 ^ 48
  let t := (s.wr R.MGT_MACL_MAC (mac 16 % 2 ^ 32)).wr R.MGT_MACH_MAC (mac 16 / 2 ^ 32)
  (List.range 16).foldl (fun u l =>
    (u.wr R.PRT_MACL (mac l % 2 ^ 32) (l % 4) (l / 4)).wr R.PRT_MACH (mac l / 2 ^ 32) (l % 4) (l / 4)) t

/-- KPF reads the SFDP (R358); a part with a suspend latency above 50 µs is refused as one without suspend is (R361, log entry 169). -/
def readSfdp (s : State) : State :=
  let t := ((s.wr R.KPF_CFG_DENSITY s.kpf.sfdpDensity).wr R.KPF_CFG_SUSPLAT s.kpf.sfdpSusp).wr R.KPF_CFG_SECTOR s.kpf.sfdpSector
  if s.kpf.sfdpOk ∧ s.kpf.sfdpSusp ≤ 50 then t
  else raise { t with kpf := { t.kpf with serial := true } } 0x38A0 [Config.payloadCode 0x38A0 0]

/-- A reset of level 3 or above sets WIN to MAX (R140). -/
def winToMax (s : State) : State := (List.range 4).foldl (fun t p => t.wr R.XPT_REINSTAT_WIN (t.rd R.XPT_REIN_MAX 0 p) 0 p) s

/-- The reset values that come from fuses, pins, flash and the tack room, at a reset of level `l` (4 or 5), with or without (`aon`)
the always-on domain. -/
def afterReset (s : State) (l : Nat) (aon : Bool) : State :=
  let t := applyOptions (fuseMacs (readSfdp s)) l aon
  let t := (t.wr R.TWN_CFG_SIDE t.fuses.sideBall).wr R.KEY_ROLLBACK_COUNT t.fuses.rollback
  let t := showFences (showLog (setPair (t.wr R.TWN_STATE_ROLE t.log.role) t.log.pairId t.log.pgen))
  winToMax (showUpdate (showClusters (calReload (xtsSelfTest (keyReset t)))))

/-- The record of the highest SEALSEQ. -/
def topSeal (l : List Seal) : Option Seal :=
  l.foldl (fun b r => match b with | some x => if x.seq < r.seq then some r else b | none => some r) none

/-- The highest SEALSEQ in either anchor, and the rate of the last sealed save. -/
def highSeal (s : State) : Nat :=
  (s.sav.anchorA ++ s.sav.anchorB).foldl (fun a r => max a r.seq) 0
def sealRate (s : State) : Nat := ((topSeal (s.sav.anchorA ++ s.sav.anchorB)).map (·.rmeas)).getD 0

/-- Superblocks from `first` on, wrapping at the end of the area (R263). -/
def imageOrder (us : List Nat) (first : Nat) : List Nat := us.filter (fun k => first ≤ k) ++ us.filter (fun k => k < first)

/-- The registers that the anchors fill: SEALSEQ, FIRSTSB, PMEAS, RMEAS (R251, R272). -/
def showSeals (s : State) : State :=
  let t := s.wr64 R.SAV_SEALSEQL R.SAV_SEALSEQH (highSeal s)
  match topSeal (s.sav.anchorA ++ s.sav.anchorB) with
  | none => t
  | some r =>
    let order := imageOrder r.usable r.firstSb
    let n := ((order.drop r.sbUsed).head?).getD (order.headD 0)
    ((t.wr R.SAV_FIRSTSB_SB n).wr R.GOV_PMEAS r.pmeas).wr R.GOV_RMEAS r.rmeas

/-- RST_FUSE and RST_REACH. -/
def readReach (s : State) : State := (s.wr R.RST_FUSE s.fuses.reach).wr R.RST_REACH (effReach s.fuses.reach)

/-! ## State of the blocks beside their registers -/

/-- What of STF outlives a reset: what lies in store flash. -/
def stfMedia (s : State) : Stf := { cells := s.stf.cells }

/-- What of SAV outlives a reset: what lies in store flash. -/
def savMedia (s : State) : Sav :=
  { anchorA := s.sav.anchorA, anchorB := s.sav.anchorB, images := s.sav.images, anchorUsed := s.sav.anchorUsed
    anchorBlk := s.sav.anchorBlk, dirtySb := s.sav.dirtySb, lastRehearsal := s.sav.lastRehearsal }

/-- What of KPF outlives a reset: the flash itself. -/
def kpfMedia (s : State) : Kpf :=
  { flash := s.kpf.flash, sfdpDensity := s.kpf.sfdpDensity, sfdpSusp := s.kpf.sfdpSusp
    sfdpSector := s.kpf.sfdpSector, sfdpOk := s.kpf.sfdpOk
    optLevels := s.kpf.optLevels, optFeatures := s.kpf.optFeatures }

/-- Ports that a predicate selects go to electrical idle: no lanes, no link (Table 8.3 step 3). -/
def portsIdle (s : State) (p : Nat → Bool) : State :=
  let t : State := { s with prt := { s.prt with
    lanes := s.prt.lanes.keep (fun l => !p (l / 4)), training := s.prt.training.keep (fun l => !p (l / 4))
    paused := s.prt.paused.keep (fun l => !p (l / 4)), txq := s.prt.txq.filter (fun x => !p (x.lport / 4)) } }
  (List.range 4).foldl (fun u k => if p k then (u.wr R.PRT_LINKSTAT_UP 0 0 k).wr R.PRT_LINKSTAT_LANES 0 0 k else u) t

/-- The pipelines that a predicate selects drain (R132): packets in flight are dropped without response, contexts go back to
the context area, and the QPs whose requests are gone expect them again, in the message where the first of them stood. -/
def resetPipes (s : State) (p : Nat → Bool) : State :=
  let gone := s.xpt.reqs.filter (fun r => !r.mst && p (pipeOf r.lport))
  let t := gone.foldl releaseReq s
  let t := (gone.map (·.qp)).eraseDups.foldl (fun u i =>
    match gone.find? (fun r => r.qp = i && !r.dup) with
    | none => u
    | some r => modQp u i (fun q => { q with
        epsn := (q.xhorizon + 1) % 2 ^ 24, seqerr := false, msg := r.prior.1, msgVa := r.prior.2.1, msgRkey := r.prior.2.2.1
        msgLeft := r.prior.2.2.2.1, sendBuf := r.prior.2.2.2.2 })) t
  let t := (t.xpt.cache.filter (fun e => p e.2.port)).foldl (fun u e => writeBack u e.1) t
  { t with xpt := { t.xpt with
    held := t.xpt.held.filter (fun h => !p (pipeOf h.lport))
    moving := t.xpt.moving.filter (fun h => !p (pipeOf h.lport))
    fetches := t.xpt.fetches.keepV (fun f => !p f.port)
    cache := t.xpt.cache.keepV (fun c => !p c.port)
    cnpList := t.xpt.cnpList.filter (fun c => !p c.1)
    unacked := t.xpt.unacked.keep (fun i => !p (pipeOf (qpAt s i).lport)) } }

/-- Requests of millstones leave the pipelines. -/
def dropMstReqs (s : State) : State := (s.xpt.reqs.filter (·.mst)).foldl releaseReq s

/-- Movements stop: fills and movements under way are given up (Table 8.3 step 3). -/
def stopMoves (s : State) : State :=
  let es := s.tie.moves.map (·.1)
  let ps := s.tie.fills.map (·.1)
  let t := ps.foldl (fun u p => match frameOf u p with
    | some f => if (frameAt u f).pstate = .filling then setFrame u f { frameAt u f with pstate := .absent } else u
    | none => u) s
  let t := es.foldl (fun u e => modExtent u e (fun x => { x with movekind := 0 })) t
  { t with tie := { t.tie with moves := [], fills := [], waiting := [], fillDirty := [] } }

/-- The uncommitted edit shadows of the sessions that `p` selects are discarded (R53, R55): gait rows, registration, tenants,
policy rows, lend table. -/
def dropShadows (s : State) (p : Nat → Bool) : State :=
  let own := fun k => match s.dic.owners.find? k with | some o => p o | none => false
  let gait := match s.gai.owner with | some o => p o | none => false
  let regKeys := (List.range 8).map (fun k => ekey 0x2110 (k + 1))
  { s with
    gai := if gait then { s.gai with edit := [], owner := none } else s.gai
    tie := if own 2 then { s.tie with tenEdit := [] } else s.tie
    rf := { s.rf with group := s.rf.group.filter (fun e =>
      !((own 3 && decide (keyBlock e.1 = 23) && decide (k0 e.1 < 0x100)) ||
        (own 4 && decide (keyBlock e.1 = 23) && decide (0x400 ≤ k0 e.1)))) }
    dic := { s.dic with
      ent := if own 1 then s.dic.ent.keep (fun k => !regKeys.contains k) else s.dic.ent
      owners := s.dic.owners.keepV (fun o => !p o) } }
where
  /-- The byte offset in a field key. -/
  k0 (k : Nat) : Nat := k / 32 % 1048576

/-- The service port's open session ends by a reset of level 4 or 5 (R443). -/
def reportSvc (s : State) : State :=
  match s.svc.session with
  | some x => if x.isOpen then raise s 0x5E20 [Config.payloadCode 0x5E20 3] else s
  | none => s

/-- The open sessions end by a reset, each with its event 0x0820 (R53). -/
def reportEnds (s : State) : State :=
  s.dic.sessions.foldl (fun u e => if e.2.isOpen then raise u (0x0820 + e.2.path) [e.1, Config.payloadCode 0x0820 2] else u) s

/-- With every session ended no tenant names one (R233). -/
def dropNotsess (s : State) : State :=
  let f := fun (x : Tenant) => { x with notsess0 := 0, notsess1 := 0 }
  { s with tie := { s.tie with tenants := s.tie.tenants.mapV f, tenEdit := s.tie.tenEdit.mapV f } }

/-- A level-1 reset of DIC (R53, R72): its sessions end; its counters, the path lockout and the command statuses return to their
defaults; extension entries, firmware work and its other entries stay, though LOADED, of reset level 1, reads 0 (log entry 159). The
mailbox's request, an extension load or clear that waited and the notification sequences end with the sessions. -/
def resetDic (s : State) : State :=
  let t := dropNotsess (dropShadows (reportEnds s) (fun _ => true))
  let gone := [ekey 0x2002 1, ekey 0x2002 2, ekey 0x2002 3, ekey 0x2010 4, ekey 0x2020 2]
  { t with
    dic := { t.dic with
      sessions := [], fails := [], locked := 0, cmds := [], hq := [], cur := none, queue := [], extPend := []
      ent := t.dic.ent.keep (fun k => !gone.contains k) }
    recd := { t.recd with notes := [], nseq := [] }
    pci := { t.pci with busy := false } }

/-- A level-1 reset of block `n`: its state beside its registers (Table 2.12, R53, R132, R299, R458, Table 9.10). GAI's change, edit
shadow and held words stay, as CHANGE and LATCHPEND, of reset level 4, go on showing (log entry 150). -/
def resetBlockData (n : Nat) (s : State) : State :=
  match n with
  | 0 => s
  | 1 => resetDic s
  | 2 => restartRecorder s
  | 3 => { s with recd := { s.recd with studQ := [], studLost := 0 }, kpf := { s.kpf with erasing := false } }
  | 4 => s
  | 5 | 6 =>
    if n - 5 = activeCluster s then { s with cpx := { s.cpx with entry := none, takeover := none, ckDue := none } } else s
  | 7 => deriveFixed { s with key := { s.key with queue := [], done := [], ignored := 0 } }
  | 9 => hostDown { s with pci := { perst := s.pci.perst } }
  | 10 =>
    { reportSvc s with svc := { s.svc with session := none } }
  | 16 => farDrop { s with cal := { s.cal with run := none } } 640
  | 17 => { s with kpf := { kpfMedia s with serial := s.kpf.serial } }
  | 18 => { s with stf := stfMedia s }
  | 19 => { s with grm := { passStart := s.now } }
  | 20 => (List.range 122).foldl showFar { s with far := {} }
  | 21 => recountDirty { s with gov := {} }
  | 22 => { s with sav := { savMedia s with rstep := s.sav.rstep, rstart := s.sav.rstart, chosen := s.sav.chosen } }
  | 23 => stopMoves s
  | 24 =>
    let t := twinDepart 4 s
    let t := unpair { t with twn := { t.twn with departed := true } }
    { t with twn := {} }.wr R.TWN_STATE_ROLE t.log.role
  | 25 => let t := drainHopper s
          { t with trn := { inflight := t.trn.inflight, updq := t.trn.updq.filter (fun u => u ≠ .port) } }
  | 26 | 27 | 28 | 29 => portsIdle s (fun p => p = n - 26)
  | 30 | 31 | 32 | 33 => resetPipes s (fun p => p = n - 30)
  | 34 | 35 | 36 | 37 | 38 | 39 | 40 | 41 => showMst (stopMst (fun m => m = n - 34) s)
  | _ => if 42 ≤ n ∧ n ≤ 57 then { s with drc := s.drc.upd (n - 42) {} (fun d => { osc := d.osc }) } else s

/-- A level-1 reset of block `b` completes: the block's fields and state reset, ISOLATED clears, GO stays 0 (R392 step 4). -/
def resetBlockNow (s : State) (b : Nat) : State := beginStretch (resetBlockData b (resetRegs s 1 b))

/-- Resets of level 4 (Table 12.8): every block but PWR, RST and the always-on part of CLK starts again. Tier D, the maps and the
log area that lie in it, flash, the tack room and the fields of reset level 5 stay. -/
def warmBlocks (s : State) : State :=
  { State.reset with
    now := s.now, dev := s.dev, fuses := s.fuses, draws := s.draws, out := s.out, pending := s.pending
    rf := (resetRegs s 4 0).rf
    pwr := s.pwr, rst := { s.rst with draining := [], pendLow := [] }, tack := s.tack, clk := s.clk
    recd := { s.recd with notes := [], nseq := [] }
    dic := { opens := s.dic.opens }
    pci := { perst := s.pci.perst }
    cpx := { fwid := s.cpx.fwid, image := s.cpx.image, slots := s.cpx.slots }
    key := { debugFails := s.key.debugFails, debugNonce := s.key.debugNonce }
    kpf := kpfMedia s
    cal := { base := s.cal.base, corr := s.cal.corr, temps := s.cal.temps, storeV := s.cal.storeV, serdes := s.cal.serdes, trims := s.cal.trims }
    sav := { savMedia s with wanted := s.sav.wanted }
    maps := s.maps, log := s.log, dram := { s.dram with asleep := true }
    drc := s.drc.mapV (fun d => { osc := d.osc })
    grm := { passStart := s.now }
    stf := stfMedia s
    mst := { jseq := s.mst.jseq }
    xpt := { nextReq := s.xpt.nextReq } }

/-- A level-5 reset outside the always-on domain: as power-on. PWR, RST, the always-on part of CLK, flash and the tack room stay,
PWR and RST with their fields until the falling table has reached END (R393). -/
def coldBlocks (s : State) : State :=
  { State.reset with
    now := s.now, dev := s.dev, fuses := s.fuses, draws := s.draws, out := s.out, pending := s.pending
    rf := { s.rf with
      val := s.rf.val.keep (fun k => keyBlock k = 12 || keyBlock k = 13 || (keyBlock k = 14 && keyLevel k = 5))
      shadow := s.rf.shadow.keep (fun k => keyBlock k = 12), group := s.rf.group.keep (fun k => keyBlock k = 12)
      since := s.rf.since.keep (fun n => n = 12)
      ctr := s.rf.ctr.keep (fun k => ctrBlock k = 12 || ctrBlock k = 13)
      bank0 := s.rf.bank0.keep (fun k => ctrBlock k = 12 || ctrBlock k = 13)
      bank1 := s.rf.bank1.keep (fun k => ctrBlock k = 12 || ctrBlock k = 13) }
    pwr := s.pwr, rst := { s.rst with draining := [], pendLow := [] }, tack := s.tack, clk := s.clk
    recd := { s.recd with notes := [], nseq := [] }
    dic := { opens := s.dic.opens }
    pci := { perst := s.pci.perst }
    cpx := { fwid := s.cpx.fwid, image := s.cpx.image }
    kpf := kpfMedia s
    sav := savMedia s
    grm := { passStart := s.now }
    stf := stfMedia s
    mst := { jseq := s.mst.jseq }
    xpt := { nextReq := s.xpt.nextReq } }

/-! ## Levels 3 and 4 -/

/-- A reset of level 3 (PATH): pipelines and millstones (R132, Table 9.10). -/
def pathReset (s : State) : State :=
  let t := resetMst (dropMstReqs (resetPipes (resetRegs s 3 0) (fun _ => true)))
  let t := winToMax t
  beginStretch (showMst t)

/-- Retention: RST_RETAIN and BKP2[1:0] (Table 12.9 step 6). -/
def setRetain (s : State) (warm latched : Bool) : State :=
  let t := (s.wr R.RST_RETAIN_WARM (b2n warm)).wr R.RST_RETAIN_LATCHED (b2n latched)
  setBkp t 2 (bkp t 2 / 4 * 4 + b2n warm + 2 * b2n latched)

/-- A reset of level 4 (Table 12.9), in SERVING or with DRAM retained; outside SERVING the steps do what there is to do. -/
def warmReset (s : State) (q : ResetReq) : State :=
  let t := reportSvc (reportEnds (recordReset s q))
  let t := gaitDrop t
  let t := stopMoves (dropMstReqs (stopMst (fun _ => true) (holdWriters (twinDepart 2 t))))
  let t := drainWrites (drainHopper (twinWritePending (portsIdle t (fun _ => true))))
  let t := setRetain t true true
  let t := assertOutputs t 4
  let t := restartRecorder (warmBlocks t)
  startRising (showSeals (afterReset t 4 false)) 4

/-! ## Level 5 -/

/-- A reset of level 5 takes effect (R393): it is recorded, every block outside the always-on domain is held in reset, and an on
request is latched unless a brown-out is its source (R375). Its always-on part follows at the falling table's END. -/
def coldEffect (s : State) (q : ResetReq) : State :=
  let t := reportSvc (reportEnds (recordReset s q))
  let t := setRetain (assertOutputs t 5) false false
  let t := coldBlocks t
  let t := showClusters (restartRecorder { t with rst := { t.rst with pend5 := some q, pend4 := none, held := true } })
  if q.source = 1 then t else t.wr R.PWR_SEQSTAT_ONLATCH 1

/-- The always-on part at the falling table's END: PWR, RST and the always-on part of CLK take their reset values, and RST_CAUSE
and BKP0 describe the reset (R393). The latched on request stays (R376). -/
def coldEnd (s : State) (q : ResetReq) : State :=
  let latch := s.rd R.PWR_SEQSTAT_ONLATCH
  let gone := fun n => n = 12 || n = 13 || n = 14
  let t : State := { s with
    rf := { s.rf with
      val := s.rf.val.keep (fun k => !gone (keyBlock k)), shadow := s.rf.shadow.keep (fun k => !gone (keyBlock k))
      group := s.rf.group.keep (fun k => !gone (keyBlock k)), since := s.rf.since.keep (fun n => !gone n)
      ctr := s.rf.ctr.keep (fun k => !gone (ctrBlock k)), bank0 := s.rf.bank0.keep (fun k => !gone (ctrBlock k))
      bank1 := s.rf.bank1.keep (fun k => !gone (ctrBlock k)) }
    pwr := { pgRaw := s.pwr.pgRaw, pgFilt := s.pwr.pgFilt, boVin := s.pwr.boVin }
    rst := { held := true }
    clk := { refOk := s.clk.refOk } }
  let t := (showCause (readReach t) q).bump C.RST_RESETS 1 q.source
  let t := t.wr R.PWR_SEQSTAT_ONLATCH latch
  afterReset t 5 true

/-! ## Requests (R389 to R393) -/

/-- A reset request is refused: event 0x4080. -/
def refuseReset (s : State) (q : ResetReq) (why : Nat) : State :=
  raise s 0x4080 [q.source, q.level, q.block, Config.payloadCode 0x4080 why]

/-- Is a level-1 request of block `b` refused (R391)? -/
def blockRefused (s : State) (b : Nat) : Bool :=
  decide (58 ≤ b) || decide (b = 12) || decide (b = 13) || decide (b = 14) ||
  (decide (s.dev = .serving) &&
    (decide (42 ≤ b) || decide (b = 25) || decide (b = 23) || decide (b = 21) || decide (b = 22) || decide (b = 18)))

/-- A level-1 reset (R392): at once where the block drains, else isolated until the wrapper forces it. -/
def blockReset (s : State) (q : ResetReq) (drains : Bool) : State :=
  let t := assertOutputs (recordReset s q) 1
  if drains then resetBlockNow t q.block
  else
    let u : State := { t with rst := { t.rst with draining := t.rst.draining ++ [q] } }
    u.wr R.BLKSTAT_ISOLATED 1 0 q.block

/-- The device's level-4 reset that follows a failed takeover, or the twin's loss of the link: taken as level 5 where DRAM holds
nothing that a restart keeps; waiting for SAVED in SAVING; an on request in SAVED and FALLING (R393). -/
def fourOrFive (s : State) (q : ResetReq) : State :=
  match s.dev with
  | .serving => warmReset s q
  | .restoring => if s.on R.RST_RETAIN_WARM then warmReset s q else startFall (coldEffect s { q with level := 5 }) 0 24
  | .filling => startFall (coldEffect s { q with level := 5 }) 0 24
  | .rising =>
    if s.on R.RST_RETAIN_WARM then warmReset s q
    else powerDown (coldEffect s { q with level := 5 }) .reset5
  | .saving => { s with rst := { s.rst with pend4 := some q } }
  | .saved | .falling => raise (s.wr R.PWR_SEQSTAT_ONLATCH 1) 0x3CA0 [s.dev.code]
  | _ => s

/-- FAILACT decides what follows a failed takeover (R432): WARM, a reset of level 4; HOLD in SPAN, DEPART as for LEAVE and every
host port down. A failed RETURN asks for nothing (R433). -/
def complexFailed (s : State) (k : Takeover) (cause : Nat) : State :=
  let hold := s.on R.CPX_CFG_FAILACT && isSpan s
  let t := takeoverFailed s k cause
  if k.ret then cmdFailFree t (ekey 0x2C01 1)
  else if hold then
    (List.range 16).foldl (fun u l => if portUp u l then linkDown u l 4 else u) (twinDepart 3 t)
  else fourOrFive t { level := 4, source := k.source, block := 0 }

/-- A reset of level 2 (R430): a takeover, or the failure of the one under way (R432). -/
def complexReset (s : State) (q : ResetReq) : State :=
  let t := recordReset s q
  match t.cpx.takeover with
  | some k => complexFailed t k 2
  | none => beginStretch (takeoverStart (assertOutputs t 2) q.source false)

/-- Levels 1 to 3 act in every state with the core domain supplied. -/
def lowReset (s : State) (q : ResetReq) (drains : Bool) : State :=
  if s.rst.held then s
  else
    match q.level with
    | 1 => blockReset s q drains
    | 2 => complexReset s q
    | _ => pathReset (assertOutputs (recordReset s q) 3)

/-- An on request is latched (Table 12.3). -/
def latchOn (s : State) : State := raise (s.wr R.PWR_SEQSTAT_ONLATCH 1) 0x3CA0 [s.dev.code]

/-- A level-5 reset waits for a save: the on request is latched at once (R22, R375, R393). -/
def waitCold (s : State) (q : ResetReq) : State :=
  let t : State := { s with rst := { s.rst with pend5 := some (s.rst.pend5.getD q) } }
  if q.source = 1 then t else t.wr R.PWR_SEQSTAT_ONLATCH 1

/-- The device enters STANDBY: RISING follows at once where an on request is latched, or AUTOON asks (R375, Table 1.6). -/
def enterStandby (s : State) (auto : Bool) (why : Nat) : State :=
  let t := setDev (stopShaft ((s.wr R.PWR_SEQSTAT_PHASE 0).wr R.PWR_SEQSTAT_OFFPEND 0)) .standby why
  let t := quietPoint t 12
  if t.on R.PWR_SEQSTAT_ONLATCH ∨ (auto ∧ t.on R.PWR_CTL_AUTOON) then startRising t 2 else t

/-- A reset request of level 1 to 5 whose level is settled, by state (R393, Table 1.6). -/
def takeReset (s : State) (q : ResetReq) (drains : Bool) : State :=
  if q.level = 1 ∧ blockRefused s q.block then refuseReset s q 1
  else
    let cause := if q.source = 1 then SaveCause.brownOut else SaveCause.reset5
    match s.dev with
    | .off => s
    | .standby =>
      if q.level = 5 then enterStandby (coldEnd (coldEffect s q) q) (decide (q.source = 1)) 50
      else raise s (0x4000 + q.source) [q.level, q.block, s.dev.code]
    | .saving =>
      if q.level = 5 then waitCold s q
      else if q.level = 4 then { s with rst := { s.rst with pend4 := some q } }
      else { s with rst := { s.rst with pendLow := s.rst.pendLow ++ [q] } }
    | .saved | .falling =>
      if 4 ≤ q.level then (if q.source = 1 then s else latchOn s) else lowReset s q drains
    | _ =>
      if q.level < 4 then lowReset s q drains
      else if q.level = 4 then fourOrFive s q
      else
        match s.dev with
        | .serving => startSave (waitCold s q) cause
        | .restoring =>
          if s.on R.RST_RETAIN_WARM then startSave (waitCold s q) cause else startFall (coldEffect s q) 0 24
        | .rising =>
          if s.on R.RST_RETAIN_WARM then powerDown (waitCold s q) cause else powerDown (coldEffect s q) cause
        | _ => startFall (coldEffect s q) 0 24

/-- A request of a source whose level the reach table gives (R389); 7 disables the source. -/
def sourceReset (s : State) (src : Nat) : State :=
  let l := reachOf s src
  if l = 7 then s else takeReset s { level := l, source := src, block := 0 } true

/-- A request of level `l` by software or debug, checked against its ceiling (R389); levels that the field refuses do nothing.
Answers whether it was taken. -/
def requestedReset (s : State) (src l block : Nat) (drains : Bool) : State × Bool :=
  let q : ResetReq := { level := l, source := src, block := if l = 1 then block else 0 }
  if reachOf s src = 7 then (s, false)
  else if l = 0 ∨ 5 < l then (s, false)
  else if reachOf s src < l then (refuseReset s q 0, false)
  else (takeReset s q drains, !(decide (l = 1) && blockRefused s block))

/-- SAVED leads to FALLING once input power is qualified (Table 1.6); a level-5 reset that waited takes effect then (R393). -/
def leaveSaved (s : State) : State :=
  if s.dev = .saved ∧ inputQualified s then
    match s.rst.pend5 with
    | some q => startFall (coldEffect s q) 0 30
    | none => startFall s 0 30
  else s

/-- SAVED is reached: resets of level 1 to 3 that waited act, one of level 4 latches an on request and does nothing more (R393). -/
def afterSaved (s : State) : State :=
  let low := s.rst.pendLow
  let four := s.rst.pend4
  let t : State := { s with rst := { s.rst with pendLow := [], pend4 := none } }
  let t := low.foldl (fun u q => lowReset u q true) t
  let t := if four.isSome then latchOn t else t
  leaveSaved t

end Sys2Proof.Machine
end

