-- ==== Sys2Proof/Machine/SaveOps.lean ====
section
/-! DEFINITION. Saves, images and restores (R261 to R270): the save area and its erased capacity, the image and its seal, what a
start chooses and writes back. -/

namespace Sys2Proof.Machine

/-! ## The save area (R262) -/

/-- Superblocks of the save area. -/
def saveCount (s : State) : Nat := dpc s * s.rd R.SAV_AREA_SBCOUNT

/-- May save superblock `k` take images: no block of it SUSPECT or RETIRED, not the rehearsal's (R262)? -/
def saveUsable (s : State) (k : Nat) : Bool :=
  decide ((blkAt s (saveSb s k)).state ≠ 6) && decide ((blkAt s (saveSb s k)).state ≠ 7) &&
  decide ((blkAt s (saveSb s k)).retmask = 0) && decide (k ≠ s.rd R.SAV_REHEARSE_SB)

/-- The usable save superblocks, ascending. -/
def usableList (s : State) : List Nat := (List.range (saveCount s)).filter (saveUsable s)

/-- SLC pages per block: one stripe each. -/
def slcPages (s : State) : Nat := ppb s / 3

/-- SAV_ERASED: erased usable capacity in MiB of image bytes; a stripe holds 128 codewords of 4,608 bytes. -/
def showErased (s : State) : State :=
  s.wr R.SAV_ERASED_MIB
    (((usableList s).filter (fun k => decide ((blkAt s (saveSb s k)).state = 0) && !s.sav.dirtySb.contains (saveSb s k))).length *
      slcPages s * 589824 / 1048576)

/-! ## The image (R263) -/

/-- Does frame `f` lie in the log area? -/
def logFrame (s : State) (f : Nat) : Bool :=
  let a := 512 * s.rd R.TWN_LOGBASE_LOGBASE
  decide (a ≤ f) && decide (f < a + 512 * s.rd R.TWN_LOGSIZE_LOGSIZE)

/-- Is frame `f` of the pending list? Its 128 pages are saved at all times. -/
def pendFrame (s : State) (f : Nat) : Bool :=
  let a := 512 * s.rd R.TWN_LOGBASE_LOGBASE + 128
  decide (a ≤ f) && decide (f < a + 128)

/-- The page record of a map, log or root frame; its content is the maps and the log themselves. -/
def mapPageRec (kind f : Nat) : ImgPage :=
  { kind, pinned := true, frame := f, spage := f, epoch := 0, poison := 0, data := [] }

/-- A line map with the uncorrectable lines of a frame (R261). -/
def unsoundMap (s : State) (f : Nat) : Nat :=
  (List.range 64).foldl (fun a n => if (lineFault s (64 * f + n)).isSome then a + 2 ^ n else a) 0

/-- A dirty data page as the image takes it. -/
def dataPageRec (s : State) (f : Nat) (x : Frame) : ImgPage :=
  { kind := 0, pinned := decide (x.pstate = .pinned), frame := f, spage := x.spage, epoch := x.epoch
    poison := unsoundMap s f, data := frameCells s f }

/-- The image pages in the order of R263. -/
def imagePages (s : State) : List ImgPage :=
  let dirty := s.maps.frames.filter (fun e => decide (512 ≤ e.1) && e.2.counted)
  let maps := dirty.filter (fun e => decide (e.1 < 512 * mapEnd s))
  let logs := (dirty.filter (fun e => logFrame s e.1 && !pendFrame s e.1)).map (·.1)
  let data := dirty.filter (fun e => decide (512 * mapEnd s ≤ e.1) && !logFrame s e.1)
  let pend := (List.range 128).map (fun i => 512 * s.rd R.TWN_LOGBASE_LOGBASE + 128 + i)
  let before := logs.filter (fun f => f < 512 * s.rd R.TWN_LOGBASE_LOGBASE + 128)
  let after := logs.filter (fun f => 512 * s.rd R.TWN_LOGBASE_LOGBASE + 128 ≤ f)
  (List.range 512).map (mapPageRec 3) ++ maps.map (fun e => mapPageRec 1 e.1) ++
    (before ++ pend ++ after).map (mapPageRec 2) ++ data.map (fun e => dataPageRec s e.1 e.2)

/-- The image of the present moment. A page that is CLEANING is saved as DIRTY (R261). -/
def imageOf (s : State) : SaveImage := { maps := s.maps, log := s.log, pages := imagePages s }

/-- A directory record as bytes (Table 8.4). -/
def dirRecord (p : ImgPage) : List Nat :=
  leBytes (p.kind * 2 ^ 61 + b2n p.pinned * 2 ^ 60 + p.frame % 2 ^ 31) 8 ++ leBytes (p.spage * 2 ^ 28) 8 ++
  leBytes (p.epoch * 2 ^ 16) 8 ++ leBytes p.poison 8

/-- DIRCRC of an image. -/
def dirCrc (im : SaveImage) : Nat := crc64 (im.pages.flatMap dirRecord)

/-- Stripes of an image: its pages, then both directory copies, each on a new stripe; (DIRA, DIRB, all). -/
def imageStripes (n : Nat) : Nat × Nat × Nat :=
  let a := (n + 123) / 124
  let d := ((n + 127) / 128 + 123) / 124
  (a, a + d, a + 2 * d)

/-- Image bytes of `n` pages: each is a codeword of 4,608 bytes with its share of the directories and of the parity. -/
def imageBytes (n : Nat) : Nat := n * 4680 * 32 / 31

/-- The save superblocks that an image of `n` pages spans from FIRSTSB, and the first after them. -/
def imageSpan (s : State) (n : Nat) : List Nat × Nat :=
  let order := imageOrder (usableList s) (s.rd R.SAV_FIRSTSB_SB)
  let need := ((imageStripes n).2.2 + slcPages s - 1) / max 1 (slcPages s)
  (order.take need, ((order.drop need).head?).getD (order.headD 0))

/-- Where image page `n` lies: stripe n / 124 from the image start, data slot (n mod 124) / 4, codeword n mod 4 (R263). -/
def imageLoc (s : State) (span : List Nat) (n : Nat) : SLoc :=
  let i := n / 124
  let k := saveSb s (span.getD (i / max 1 (slcPages s)) 0)
  let p := i % max 1 (slcPages s)
  let slot := n % 124 / 4
  { sstate := 1, ch := if slot < p % 32 then slot else slot + 1, die := k % dpc s, block := k / dpc s, page := p, cw := n % 4 }

/-! ## Seals (R264, R265) -/

/-- A record goes to anchor `a`; at the service gate the other block is erased and taken where fewer than two pages of the active one are
free (R264). -/
def sealAppend (s : State) (a : Nat) (r : Seal) (gate : Bool) : State :=
  let used := s.sav.anchorUsed.getD a 0
  let turn := gate && decide (slcPages s < used + 2)
  let old := if a = 0 then s.sav.anchorA else s.sav.anchorB
  let new := if turn then r :: (old.take used) else r :: old
  let t : State := { s with sav := { s.sav with
    anchorUsed := s.sav.anchorUsed.set a (if turn then 1 else used + 1)
    anchorBlk := if turn then bitPut s.sav.anchorBlk a (!bit s.sav.anchorBlk a) else s.sav.anchorBlk } }
  if a = 0 then { t with sav := { t.sav with anchorA := new } } else { t with sav := { t.sav with anchorB := new } }

/-- Energy in units of 1 / (2 × 10^15) J that the live readings leave above VCUT (R260). -/
def liveEnergy (s : State) : Nat :=
  (govModules s).foldl (fun a m => a + moduleEnergy s (s.rd R.GOV_CMEAS m) (s.rd R.GOV_VMOD m) 1000) 0

/-- PMEAS in W and RMEAS in 100 MB/s: energy drawn and image bytes over the save's duration, rounded down. -/
def measures (s : State) (bytes : Nat) : Nat × Nat :=
  let us := s.since s.sav.start
  let drawn := (govModules s).foldl (fun a m =>
    a + s.rd R.GOV_CMEAS m * ((s.sav.vStart.getD m 0) ^ 2 - (s.rd R.GOV_VMOD m) ^ 2)) 0
  (drawn / (2000 * us), bytes / (100 * us))

/-- The seal record of the save under way (step 9 of Table 8.3). -/
def sealOf (s : State) (im : SaveImage) : Seal :=
  let n := im.pages.length
  let d := imageStripes n
  let m := measures s (imageBytes n)
  { seq := highSeal s + 1, state := 1, cause := (s.sav.cause.map (·.code)).getD 0
    firstSb := s.rd R.SAV_FIRSTSB_SB, sbUsed := (imageSpan s n).1.length, pages := n, dirA := d.1, dirB := d.2.1
    dirCrc := dirCrc im, rmeas := m.2, pmeas := m.1, pext := pext s, dgroups := dgroups s
    level := if s.twn.runLevel = 0 then enabledLevel 1 (levelEnables s) else s.twn.runLevel
    usable := usableList s }

/-! ## Codewords of the save area, the anchors and the parity members, as a reader finds them (R263, R264, R339) -/

/-- A seal record as bytes (Table 8.5). -/
def sealBytes (r : Seal) : List Nat :=
  let body := ascii "CSFNSEAL" ++ leBytes r.seq 8 ++ [r.state, r.cause, 0, 0] ++ leBytes r.firstSb 4 ++ leBytes r.sbUsed 4 ++
    leBytes r.pages 8 ++ leBytes r.dirA 8 ++ leBytes r.dirB 8 ++ leBytes r.dirCrc 8 ++ leBytes r.rmeas 4 ++ leBytes r.pmeas 4 ++
    leBytes r.pext 4 ++ leBytes r.dgroups 4 ++ [r.level] ++ List.replicate 35 0 ++
    leBytes (r.usable.foldl (fun a k => bitSet a k) 0) 2048 ++ List.replicate 1928 0
  body ++ leBytes (crc64 body) 8

/-- The seal record in a place of an anchor block, if one is there: the active block holds the newest records. -/
def sealCw (s : State) (l : SLoc) : Option Codeword :=
  match (anchors s).idxOf? (l.ch, l.die, l.block), l.cw with
  | some i, 0 =>
    let all := if i < 2 then s.sav.anchorA else s.sav.anchorB
    let used := s.sav.anchorUsed.getD (i / 2) 0
    let recs := if (i % 2 = 1) = bit s.sav.anchorBlk (i / 2) then all.take used else all.drop used
    (recs.reverse[l.page]?).map (fun r => { kind := 6, spage := 0, epoch := 0, poison := 0, data := bytesCells (sealBytes r) })
  | _, _ => none

/-- The content of image page `p`: a data page's own, a map or root page's words, a log page's bytes as the image's log has them. -/
def imagePageCells (s : State) (im : SaveImage) (p : ImgPage) : List Host.Cell :=
  let t : State := { s with maps := im.maps, log := im.log }
  match p.kind with
  | 0 => p.data
  | 2 =>
    let base := 4096 * (p.frame - 512 * s.rd R.TWN_LOGBASE_LOGBASE)
    bytesCells ((List.range 4096).map (fun i => logByte t (base + i)))
  | _ => mapPageCells t p.frame

/-- The codeword in a data slot of an image's stripes: its pages, then two copies of its directory (R263). -/
def imageCw (s : State) (r : Seal) (im : SaveImage) (l : SLoc) : Option Codeword :=
  let k := locSb s l - saveSb s 0
  match ((imageOrder r.usable r.firstSb).take r.sbUsed).idxOf? k with
  | none => none
  | some j =>
    let i := j * slcPages s + l.page
    let par := l.page % 32
    let n := 4 * (if l.ch < par then l.ch else l.ch - 1) + l.cw
    let dir := fun (at_ : Nat) => some
      { kind := 4, spage := 124 * i + n, epoch := 0, poison := 0
        data := bytesCells (((im.pages.drop (128 * (124 * (i - at_) + n))).take 128).flatMap dirRecord) }
    if l.ch = par then none
    else if i < r.dirA then
      (im.pages[124 * i + n]?).map (fun p =>
        { kind := 4, spage := 124 * i + n, epoch := p.epoch, poison := p.poison, data := imagePageCells s im p })
    else if i < r.dirB then dir r.dirA
    else if i < 2 * r.dirB - r.dirA then dir r.dirB
    else none

/-- The codeword at a location of any superblock: a seal record, a page of a sealed image, or what a row put there. -/
def anyCw (s : State) (l : SLoc) : Codeword :=
  match sealCw s l with
  | some c => c
  | none =>
    if inSaveArea s (locSb s l) then
      match (s.sav.anchorA ++ s.sav.anchorB).findSome? (fun r =>
        match s.sav.images.find? r.seq with | some im => imageCw s r im l | none => none) with
      | some c => c
      | none => cwAt s l
    else cwAt s l

/-- A codeword as programmed: encrypted data, metadata and the LDPC parity, whose code is not stated: free bytes (log entry 9). -/
def cwBytes (s : State) (l : SLoc) : List Nat :=
  let c := anyCw s l
  cipherBytes s l c ++ metaBytes c ++ (List.range 480).map (fun i => Config.unstated 12 [locKey l, i] % 256)

/-- Is a location on its stripe's parity member: member p mod N of stripe p (R339)? -/
def onParity (s : State) (l : SLoc) : Bool :=
  let ms := members s (locSb s l)
  decide (ms.getD (l.page % max 1 ms.length) 32 = l.ch)

/-- The bytes at a location: a parity codeword is the XOR of the other members' (R339). -/
def rawBytes (s : State) (l : SLoc) : List Nat :=
  if onParity s l then
    xorAll 4608 (((members s (locSb s l)).filter (fun c => c ≠ l.ch)).map (fun c => cwBytes s { l with ch := c }))
  else cwBytes s l

/-! ## The save (Table 8.3) -/

/-- The steps that must have ended before step `n` can end. -/
def stepNeeds (n : Nat) : List Nat :=
  match n with
  | 2 => [1] | 3 => [1] | 4 => [2, 3] | 5 => [4] | 6 => [1] | 7 => [5, 6] | 8 => [7] | _ => [9]

/-- Step 3: millstones and movements stop, responses whose conditions hold are sent, ports go to electrical idle. -/
def saveStep3 (s : State) : State :=
  let t := (s.xpt.reqs.map (·.qp)).eraseDups.foldl (fun u i => doAnswer i u) s
  portsIdle (stopMoves (dropMstReqs (stopMst (fun _ => true) t))) (fun _ => true)

/-- Step 6: queued commands of STF are abandoned, erases suspended, every channel programs the save; XTS takes slot 7's keys. -/
def saveStep6 (s : State) : State :=
  let refs := s.stf.cleanQ.map (·.1) ++ (match s.stf.open_ with
    | some r => (r.ents.filter (fun e => e.what = 1)).map (·.ref) | none => [])
  let t := refs.foldl writebackUndone s
  let t : State := { t with stf := { t.stf with
    cleanQ := [], open_ := none, saving := true, reloc := [], suspended := t.stf.erasing } }
  let t := t.stf.erasing.foldl (fun u e => showErase u e.1) t
  let t := (List.range 32).foldl (fun u ch => fwAbandon 64 ch u) t
  deriveSave t (highSeal t + 1)

/-- The image is fixed once steps 5 and 6 have ended; an uncorrectable line of it is saved as poisoned (R261). -/
def fixImage (s : State) : State :=
  let im := imageOf s
  let t : State := { s with sav := { s.sav with img := some im } }
  im.pages.foldl (fun u p =>
    if p.kind = 0 ∧ p.poison ≠ framePoison s p.frame then
      let bad := (List.range 64).filter (fun n => bit p.poison n && !bit (framePoison s p.frame) n)
      raise (u.bump C.SAV_POISONLINES bad.length) 0x2460 [p.spage, p.poison]
    else u) t

/-- What a save step does when it ends. -/
def saveStepAct (n : Nat) (s : State) : State :=
  match n with
  | 2 => twinDepart 1 s
  | 3 => saveStep3 s
  | 4 => twinWritePending s
  | 5 => drainWrites (drainHopper s)
  | 6 => saveStep6 s
  | 7 => s.wr R.SAV_PROGRESS_PAGES ((s.sav.img.map (·.pages.length)).getD 0)
  | _ => match s.sav.img with
    | some im => { s with sav := { s.sav with sealRec := some (sealOf s im) } }
    | none => s

/-- A save step ends, and with steps 5 and 6 the image is fixed. -/
def saveStepDone (n : Nat) (s : State) : State :=
  let t := saveStepAct n s
  let t : State := { t with sav := { t.sav with steps := bitSet t.sav.steps n } }
  if (n = 5 ∨ n = 6) ∧ bit t.sav.steps 5 ∧ bit t.sav.steps 6 then fixImage t else t

/-- The save is sealed (step 10): SAVED. -/
def saveSealed (s : State) (im : SaveImage) (r : Seal) : State :=
  let t := if bit s.sav.sealed 0 then s else sealAppend s 0 r false
  let t := if bit s.sav.sealed 1 then t else sealAppend t 1 r false
  let bytes := imageBytes r.pages
  let ms := s.since s.sav.start / 1000
  let span := (imageSpan s r.pages).1.map (saveSb s)
  let t := raise t 0x2420 [r.seq, bytes, ms, r.pmeas]
  let t := setEnt (setEnt t (ekey 0x2610 2) bytes) (ekey 0x2610 3) ms
  let t := (t.wr R.SAV_FIRSTSB_SB (imageSpan s r.pages).2).wr64 R.SAV_SEALSEQL R.SAV_SEALSEQH r.seq
  let t := (t.wr R.GOV_PMEAS r.pmeas).wr R.GOV_RMEAS r.rmeas
  let t : State := { t with
    stf := { t.stf with saving := false }
    sav := { t.sav with images := t.sav.images.ins r.seq im, img := none, sealRec := none, sealed := 0, steps := 0
                        cause := none } }
  let t := showErased ((sbFull t span).wr R.SAV_STAT_PHASE 0)
  afterSaved (setDev t .saved 40)

/-! ## Choosing the image (R265, R266) -/

/-- The record that a start uses, from the newest valid record of each anchor: the record, which anchor 0x2610.07 names, or the
reason why there is none. -/
def chooseSeal (s : State) (a b : Option Seal) : Option (Seal × Nat) × Nat :=
  let pick : Option (Seal × Nat) × Nat :=
    match a, b with
    | none, none => (none, 1)
    | some x, none => (some (x, 1), 0)
    | none, some y => (some (y, 2), 0)
    | some x, some y =>
      if y.seq < x.seq then (some (x, 1), 0)
      else if x.seq < y.seq then (some (y, 2), 0)
      else if x = y then (some (x, 3), 0)
      else (none, 2)
  match pick.1 with
  | none => pick
  | some (r, w) =>
    if r.state = 2 then (none, 3)
    else if r.pext ≠ pext s ∨ r.dgroups ≠ dgroups s then (none, 4)
    else (some (r, w), 0)

/-- No usable image: event 0x24A0; an empty map and PAIRID 0 (R266). -/
def makeBlank (s : State) (why : Nat) : State :=
  let t := raise s 0x24A0 [Config.payloadCode 0x24A0 why, highSeal s]
  let t : State := { t with maps := {}, log := {}, sav := { t.sav with chosen := none } }
  setPair (setRole (setEnt t (ekey 0x2610 7) 0) 0) 0 0

/-- Restore step 1: the seal and the directory are chosen (R265). `bad` lists what cannot be read: 0, 1 the newest record of
anchor A, B; 2, 3 directory copy A, B. -/
def restoreChoose (s : State) (bad : List Nat) : State :=
  let a := topSeal (if bad.contains 0 then s.sav.anchorA.drop 1 else s.sav.anchorA)
  let b := topSeal (if bad.contains 1 then s.sav.anchorB.drop 1 else s.sav.anchorB)
  let s := showSeals s
  match chooseSeal s a b with
  | (none, why) => makeBlank s why
  | (some (r, which), _) =>
    let t := deriveSave s r.seq
    let t := if bad.contains 2 then raise t 0x24C0 [r.dirCrc, Config.unstated 0x24C0 [r.dirCrc, s.draws]] else t
    if (bad.contains 2 && bad.contains 3) || !t.sav.images.has r.seq then makeBlank t 5
    else
      let t := raise t 0x2480 [r.seq, which, if bad.contains 2 then 1 else 0]
      let t := setEnt t (ekey 0x2610 7) which
      { t with sav := { t.sav with chosen := some r } }

/-- The image under restore. -/
def chosenImage (s : State) : Option SaveImage :=
  match s.sav.chosen with | some r => s.sav.images.find? r.seq | none => none

/-- The clean map pages among those that root or locator entries locate come from tier S (R99). -/
def loadClean (saved : Nat → Bool) (s : State) (es : List (Nat × SLoc)) : State :=
  es.foldl (fun t e =>
    match s.stf.cells.find? (locKey e.2) with
    | some c => if e.2.sstate = 1 ∧ c.kind = 1 ∧ c.spage = e.1 ∧ !saved e.1 then loadMapPage t e.1 c.data else t
    | none => t) s

/-- Restore step 3: the root map, the dirty map pages and the log as the image gives them, the clean map pages from tier S: the locator's
by the root map first, then the others by the locator (R99); an unreadable map, log or root page leaves no usable image. -/
def restoreMaps (s : State) (bad : List Nat) : State :=
  match chosenImage s with
  | none => s
  | some im =>
    if bad ≠ [] then makeBlank s 6
    else
      let t : State := { s with maps := im.maps, log := im.log
                                sav := { s.sav with rpages := (im.pages.filter (fun p => p.kind ≠ 0)).length } }
      let saved := fun (f : Nat) => im.pages.any (fun p => p.kind = 1 && p.frame = f)
      let t := loadClean saved (loadClean saved t (t.maps.root.map (fun e => (1024 + e.1, e.2)))) t.maps.locator
      showFences (showLog (setPair (setRole t im.log.role) im.log.pairId im.log.pgen))

/-- Restore step 4: the data pages; a page of `bad` (image page numbers among the data pages) that cannot be read is restored
with every line poisoned (R265). -/
def restoreData (s : State) (bad : List Nat) : State :=
  match chosenImage s with
  | none => s
  | some im =>
    let data := im.pages.filter (fun p => p.kind = 0)
    let t := (data.zipIdx).foldl (fun u e =>
      let p := e.1
      let lost := bad.contains e.2
      let map := if lost then 2 ^ 64 - 1 else p.poison
      let u := frameFill u p.frame (if lost then [] else p.data) map
      let x : Frame := { pstate := if p.pinned then .pinned else .dirty, pdirty := p.pinned, age := 0, epoch := p.epoch, spage := p.spage }
      let u : State := { u with maps := { u.maps with frames := u.maps.frames.ins p.frame x } }
      if lost then raise (u.bump C.SAV_POISONLINES 64) 0x2460 [p.spage, map] else u) s
    let n := s.sav.rpages + data.length
    { t with sav := { t.sav with rpages := n } }.wr R.SAV_PROGRESS_PAGES n

/-- Restore step 5: the frame-table walk after a cold start. -/
def restoreWalk (s : State) : State :=
  let keep : List Nat := match chosenImage s with
    | some im => (im.pages.filter (fun p => p.kind = 0 || p.kind = 2)).map (·.frame)
    | none => []
  let frames := s.maps.frames.filter (fun e => decide (e.1 < 512 * mapEnd s) || keep.contains e.1)
  let t : State := { s with maps := { s.maps with frames } }
  let count := fun (g : Nat) (p : Frame → Bool) =>
    (frames.filter (fun e => decide (e.1 / 512 = g) && p e.2)).length
  let exts : Sparse Extent := t.maps.extents.mapV (fun x =>
    let n := count x.fgroup (fun f => f.pstate ≠ .absent)
    let y := { x with movekind := 0 }
    if x.ingroup ∧ n ≠ 0 then { y with rescnt := n, dirtycnt := count x.fgroup Frame.isDirty }
    else { y with ingroup := false, fgroup := 0, rescnt := 0, dirtycnt := 0 })
  let groups := exts.foldl (fun (m : Sparse Group) e =>
    if e.2.ingroup then m.ins e.2.fgroup { extent := e.1, seen := t.tie.tick } else m) []
  recountDirty { t with maps := { t.maps with extents := exts }, tie := { t.tie with groups } }

/-- After a reset of level 4 the walk leaves what a movement had under way as it stands without it, and recounts (R248, R268). A page
that was leaving tier D is out. -/
def warmWalk (s : State) : State :=
  let frames := s.maps.frames.mapV (fun f => match f.pstate with
    | .filling => { f with pstate := .absent }
    | .cleaning => { f with pstate := .dirty }
    | _ => f)
  let exts := s.maps.extents.mapV (fun x =>
    let pages := (frames.filter (fun e => decide (x.ingroup = true ∧ e.1 / 512 = x.fgroup))).map (·.2)
    { x with movekind := 0, rescnt := (pages.filter (fun f => f.pstate ≠ .absent)).length, dirtycnt := (pages.filter Frame.isDirty).length })
  let groups := exts.foldl (fun (m : Sparse Group) e =>
    if e.2.ingroup then m.ins e.2.fgroup { extent := e.1, seen := s.tie.tick } else m) []
  recountDirty { s with maps := { s.maps with frames, extents := exts }, tie := { s.tie with groups } }

/-- Restore step 6: the charges (R235), DRAINING regions without accesses (R87), and every translation dropped (R111). -/
def restoreCharges (s : State) : State :=
  let t : State := { s with tie := { s.tie with recs := [] }
                            maps := { s.maps with extents := s.maps.extents.mapV (fun x => { x with charge := 0 }) } }
  let t := t.tie.groups.foldl (fun u g => setCharge u g.2.extent { tenants := [(extentAt u g.2.extent).owner], twin := false }) t
  let t := quotaAll (showGroups (rebuildRings t))
  let t := (t.maps.regions.filter (fun e => e.2.state = 2)).foldl (fun u e => drainDone u e.1) t
  let t := clearL2 (clearL1 t 15)
  let t := t.bump C.SAV_RESTORES
  raise t 0x24E0 [s.sav.rpages, s.since s.sav.rstart / 1000]

end Sys2Proof.Machine
end

