-- ==== Sys2Proof/Machine/PairOps.lean ====
section
/-! DEFINITION. The pair: link faults and their judgement (R190, R191), pairing (R202, Table 6.10), catch-up (R209 to R213),
reconciliation (R214), the operator's commands (R203, R206, R216). -/

namespace Sys2Proof.Machine

/-- Bits set in a lane mask. -/
def lanesOf (m : Nat) : Nat := ((List.range 20).filter (fun i => bit m i)).length

/-- Does TWN run, with the core domain supplied? -/
def twnRuns (s : State) : Bool := awake s && s.running 24 && !s.rst.held

/-- Is the Visil link up? -/
def visilUp (s : State) : Bool := twnRuns s && decide (s.twn.link = 1)

/-- Has the device content to pair with: SERVING, or RESTORING at step 7 of Table 8.6? -/
def pairable (s : State) : Bool :=
  twnRuns s && (decide (s.dev = .serving) || (decide (s.dev = .restoring) && decide (7 ≤ s.sav.rstep)))

/-- WMIN in force: the larger of the two once HELLOs have passed (R187). -/
def wmin (s : State) : Nat := max (s.rd R.TWN_LANECFG_WMIN) s.twn.peerWmin

/-- The width becomes `m`. -/
def setWidth (s : State) (m : Nat) : State := (s.wr R.TWN_LANESTAT_ACTIVE m).wr R.TWN_LANESTAT_WIDTH (lanesOf m)

/-- Lanes that a training may use: enabled and not in probation. -/
def trainable (s : State) : Nat :=
  (List.range 20).foldl (fun a i =>
    if s.rbit R.TWN_LANECFG_LANEEN i && !s.rbit R.TWN_PROBSTAT_PROBATION i then a + 2 ^ i else a) 0

/-- A side stops (R191): host ports down, the pending set into the log area, role returner, a reset of level 4 recorded as
software's. -/
def stopSide (s : State) : State :=
  let t := (List.range 16).foldl (fun u l => if portUp u l then linkDown u l 5 else u) s
  let t := setRole (twinWritePending t) 2
  let u := unpair t
  fourOrFive (showPend { u with twn := { u.twn with pend := t.twn.pend } }) { level := 4, source := 4, block := 0 }

/-- A link-only loss stops the side that SOLOPREF does not name: event 0x18A0. -/
def linkOnlyLoss (s : State) : State :=
  stopSide (raise (visilDown s) 0x18A0 [s.rd R.TWN_STATE_HBALIVE + 2 * s.rd R.TWN_STATE_HBBLIVE, s.twn.pend.length])

/-- Step 4 of Table 6.4: the twin is lost where every heartbeat is silent; with HBBEN clear, and otherwise, it is a link-only loss. -/
def judgeTwin (s : State) : State :=
  let dead := s.on R.TWN_CFG_HBBEN && !s.on R.TWN_STATE_HBALIVE && !s.on R.TWN_STATE_HBBLIVE
  if isSpan s ∧ !dead ∧ !preferred s then linkOnlyLoss s else twinLost s 2

/-- A retrain attempt begins: CTRL TRAIN, event 0x1860. -/
def retrain (s : State) (n cause : Nat) : State :=
  let t : State := { s with twn := { s.twn with link := 2, attempt := n, waitSince := none } }
  let t := (t.bump C.TWN_RETRAIN).emit (.ctrl 3 (trainable t) 0)
  raise t 0x1860 [Config.payloadCode 0x1860 cause, n]

/-- The link faults (R190): 1 silence, 2 replays, 3 width, 4 a pairing that ended. In PAIRING the device is UNPAIRED (Table 6.9);
else Table 6.4 runs from its first attempt. -/
def linkFault (s : State) (cause : Nat) : State :=
  if s.twn.link ≠ 1 then s
  else if tstate s = 1 then raise (unpair s) 0x1860 [Config.payloadCode 0x1860 cause, 0]
  else if s.rd R.TWN_LINKTIME_RETRAINS = 0 then judgeTwin (raise s 0x1860 [Config.payloadCode 0x1860 cause, 0])
  else retrain s 1 cause

/-! ## Pairing (R202, Table 6.10) -/

/-- The enabled level of this device (R7, R8). -/
def myLevel (s : State) : Nat := enabledLevel 1 (levelEnables s)

/-- This side's HELLO (Table 6.7). -/
def myHello (s : State) : Hello :=
  { side := mySide s, level := myLevel s, soloPref := s.rd R.TWN_CFG_SOLOPREF, hbbEn := s.on R.TWN_CFG_HBBEN
    blank := decide (s.log.pairId = 0), lastState := s.log.lastState, role := s.log.role, wmin := s.rd R.TWN_LANECFG_WMIN
    pairId := s.log.pairId, pgen := s.log.pgen, part := s.fuses.partNumber, pext := pext s, dgroups := dgroups s
    sealSeq := highSeal s, pendPages := s.log.pendList.length, logExtents := s.rd R.TWN_LOGSTAT_EXTENTS }

/-- SIDE0's refusal of a pairing: a reason of HELLO_ANSWER, 0 none. -/
def refusal (a b : Hello) : Nat :=
  if a.side = b.side then 2
  else if a.level + 1 < b.level ∨ b.level + 1 < a.level then 1
  else if a.pext ≠ b.pext ∨ a.dgroups ≠ b.dgroups then 4
  else if a.soloPref ≠ b.soloPref then 5
  else if a.hbbEn ≠ b.hbbEn then 6
  else if !a.blank ∧ !b.blank ∧ a.pairId ≠ b.pairId then 3
  else 0

/-- The decision of Table 6.10 with `a` SIDE0's records: 0 SPAN, 1 RECONCILE, 2 and 3 CATCHUP with SIDE0 and SIDE1 survivor, 4 SPLIT,
15 REFUSED; and the reason. -/
def decision (a b : Hello) : Nat × Nat :=
  let r := refusal a b
  if r ≠ 0 then (15, r)
  else if a.blank ∧ b.blank then (0, 0)
  else if b.blank then (2, 0)
  else if a.blank then (3, 0)
  else if b.pgen < a.pgen then (2, 0)
  else if a.pgen < b.pgen then (3, 0)
  else if a.lastState = 2 ∧ b.lastState = 2 then (1, 0)
  else (4, 0)

/-- SPAN is entered (Table 6.9, Table 6.14 step 4): PGEN, no SENT marks, no role, SIDE0 leads. -/
def enterSpan (s : State) (pgen : Nat) : State :=
  let t := setRole (setPair s s.log.pairId pgen) 0
  let t := t.log.dir.foldl (fun u e => logTouch (logDirOff e.1) u) t
  let t : State := { t with
    log := { t.log with dir := [], regChg := [], pendList := [] }
    twn := { t.twn with pairing := 0, cstep := 0, wsub := 0, spanReq := false, spanOk := false, spanCmd := false
                        joined := false, joinLog := [], asyncTags := [], alignWait := [], resyncWait := [], aligned := false
                        pulled := [], reconSent := 0
                        reconOwn := [], reconPeer := [], reconEndTx := false, reconEndRx := false } }
  let t := if s.twn.spanCmd then cmdDone t (ekey 0x2402 2) else t
  let t := (showLog t).wr R.TWN_CMDSTAT_BUSY 0
  showGate (setTState (t.wr R.TWN_STATE_LEAD (1 - mySide t)) 2)

/-- Where the returner is blank: every MAPPED extent is WHOLE, every region and extent is marked changed (Table 6.10). -/
def markAll (s : State) : State :=
  let dir : Sparse LogEnt := (s.maps.extents.filter (fun e => e.2.estate ≠ 0)).map (fun e =>
    (e.1, { mode := if e.2.estate = 2 then 2 else 0, mapchg := true }))
  showLog { s with log := { s.log with dir, regChg := s.maps.regions.map (·.1) } }

/-- The pending list goes to the survivor in PENDLIST messages of up to 64 pages (R212). -/
def sendPendList : Nat → List Nat → State → State
  | 0, _, s => s
  | n + 1, l, s =>
    let last := decide (l.length ≤ 64)
    let t := withTag s (fun tag => .pendList tag last (l.take 64))
    if last then t else sendPendList n (l.drop 64) t

/-- The returner's first act in catch-up: under JOIN every page of its own log (R203), and the pending list once they are placed. -/
def returnStart (s : State) : State :=
  if s.twn.joined ∧ s.log.dir ≠ [] then
    let ps := (s.log.dir.flatMap (fun e => (List.range 512).map (fun n => e.1 * 512 + n))).filter (fun p =>
      let x := logAt s (p / 512)
      decide ((extentAt s (p / 512)).estate = 2) && (decide (2 ≤ x.mode) || bit x.changed (p % 512) || bit x.sent (p % 512)))
    let t := ps.foldl (fun u p => sendResync u p false) { s with twn := { s.twn with joinLog := ps } }
    if exchanging t then t else sendPendList 1025 t.log.pendList { t with twn := { t.twn with joined := false } }
  else sendPendList 1025 s.log.pendList { s with twn := { s.twn with joined := false } }

/-- Reconciliation begins: ROUND 1 for every page of the own list, then RECON_END (R214). -/
def reconStart (s : State) : State :=
  let own : Sparse ReconEnt := s.log.pendList.foldl (fun (m : Sparse ReconEnt) p =>
    m.ins p { epoch := pageEpoch s p, check := pageCheck s p }) []
  let t : State := { s with twn := { s.twn with
    pairing := 1, reconOwn := own, reconPeer := [], reconEndTx := false, reconEndRx := false, reconSent := 0 } }
  let t := own.foldl (fun u e => withTag u (fun n => .recon n e.2.epoch e.1 1 e.2.check)) t
  withTag t (fun n => .reconEnd n own.length 1)

/-- Reconciliation's end, page by page (R214 step 3); SPAN once nothing is left to send or to receive. -/
def reconStep (s : State) : State :=
  if tstate s = 1 ∧ s.twn.pairing = 1 ∧ s.twn.reconEndTx ∧ s.twn.reconEndRx then
    let done := fun (u : State) p => { u with twn := { u.twn with reconOwn := u.twn.reconOwn.del p, reconPeer := u.twn.reconPeer.del p } }
    let t := s.twn.reconOwn.foldl (fun u e =>
      match u.twn.reconPeer.find? e.1 with
      | none => done u e.1
      | some y =>
        if newer48 e.2.epoch y.epoch then sendResync (done u e.1) e.1 false
        else if newer48 y.epoch e.2.epoch then u
        else if e.2.check = y.check then done u e.1
        else match fencePage u e.1 y.epoch e.2.check y.check with
          | some v => done v e.1
          | none => u) s
    if t.twn.reconOwn = [] ∧ t.twn.reconPeer = [] ∧ !exchanging t then enterSpan t (t.log.pgen + 1) else t
  else s

/-- A refused or split pairing (Table 6.9): event 0x18C0; PAIRING ends in UNPAIRED, a survivor stays in SOLO. -/
def pairRefused (s : State) (dec reason peerId : Nat) : State :=
  let t := raise (s.wr R.TWN_CMDSTAT_REASON reason) 0x18C0 [dec, reason, peerId % 2 ^ 32]
  let t := setEnt t (ekey 0x2402 6) reason
  let t := if tstate t = 1 then unpair t else visilDown t
  { t with twn := { t.twn with lastDec := if dec = 4 then 2 else if reason = 3 then 1 else 0 } }

/-- A side acts on the decision (Table 6.9): where it pairs it takes the running level (R8). A side in SOLO that the decision makes
the returner serves no host any more (Table 6.8); its device state stays (log entry 51). `peer` is the twin's HELLO. -/
def actOn (s : State) (dec reason level pairId pgen : Nat) (peer : Hello) : State :=
  let s : State := { s with twn := { s.twn with peerWmin := peer.wmin } }
  let paired := fun (u : State) => { u with twn := { u.twn with runLevel := level } }
  let survivor := decide ((dec = 2) = (mySide s = 0))
  let fresh := fun (u : State) => { u with twn := { u.twn with
    cstep := 1, csent := 0, cstart := u.now, wsub := 0, peerPend := [], asyncTags := [], alignWait := [] } }
  match dec with
  | 0 => if tstate s = 1 then enterSpan (setPair (paired s) pairId pgen) pgen else s
  | 1 => if tstate s = 1 then reconStart (paired s) else s
  | 2 | 3 =>
    if survivor then
      let t := setTState (((setRole (fresh (paired s)) 1).wr R.TWN_STATE_LEAD 1)) 4
      let t : State := { t with twn := { t.twn with pairing := 2 } }
      showGate (if peer.blank then markAll t else t)
    else
      let t := setPair (if tstate s = 3 then hostsOff (paired s) else paired s) pairId s.log.pgen
      let t := setTState ((setRole (fresh t) 2).wr R.TWN_STATE_LEAD 0) 4
      returnStart { t with twn := { t.twn with pairing := 3 } }
  | _ => pairRefused s dec reason peer.pairId

/-! ## Catch-up (Table 6.13) -/

/-- The words of an EXTENT_SET: slot 1 as two 64-bit words. -/
def extentSetWords (x : Extent) : List Nat :=
  [x.estate * 2 ^ 62 + x.home * 2 ^ 60 + x.tpol * 2 ^ 57 + x.owner * 2 ^ 47, 0]

/-- Step 1's merge and step 2: the marked regions and extents go to the returner. -/
def catchupMerge (s : State) : State :=
  let ps := s.twn.peerPend ++ s.twn.pend.map (·.1) ++ s.log.pendList
  let t := ps.foldl (fun u p => markLog u p false) (mergeSent s)
  let t := if t.log.regChg.isEmpty then t else logTouch 0x1000 t
  let t := t.log.regChg.foldl (fun u i => withTag u (fun n => regionSet u i n)) t
  let t := (t.log.dir.filter (fun e => e.2.mapchg)).foldl (fun u e =>
    withTag u (fun n => .mapop n 2 0 e.1 1 (extentSetWords (extentAt u e.1)))) t
  showLog { t with
    log := { t.log with regChg := [], dir := (t.log.dir.mapV (fun x => { x with mapchg := false })).keepV (fun x => x ≠ {}) }
    twn := { t.twn with cstep := 3, wsub := 0 } }

/-- The first page of an extent that the walk has to send: CHANGED, and not fenced. -/
def changedIn (s : State) (e : Nat) (x : LogEnt) : Option Nat :=
  let from_ := if s.twn.wext = e then s.twn.wsub else 0
  ((List.range 512).find? (fun n => !fenced s (512 * e + n) &&
    ((decide (x.mode = 1) && bit x.changed n) ||
     (decide (x.mode = 2) && decide ((extentAt s e).estate = 2) && decide (from_ ≤ n))))).map (512 * e + ·)

/-- The next page of the walk (Table 6.13 step 3). -/
def nextChanged (s : State) : Option Nat := (s.log.dir.filterMap (fun e => changedIn s e.1 e.2)).head?

/-- One page of the walk is sent, its bit moving to SENT; it waits where the pending set has no room (R196). -/
def walkSend (s : State) (p : Nat) : State :=
  if !pendRoom s p then pendFull s
  else
  let e := p / 512
  let x := logAt s e
  let t := if x.mode = 1 then setLog s e { x with changed := bitClr x.changed (p % 512), sent := bitSet x.sent (p % 512) }
    else
      let u : State := { s with twn := { s.twn with wext := e, wsub := p % 512 + 1 } }
      if (changedIn u e x).isNone then setLog { u with twn := { u.twn with wsub := 0 } } e { x with mode := 3 } else u
  let t := sendResync t p false
  { t with twn := { t.twn with csent := t.twn.csent + 1 } }

/-- Step 4: MOVE ALIGN for every extent with resident pages. -/
def alignSend (s : State) : State :=
  let es := (s.tie.groups.map (fun g => g.2.extent)).filter (fun e => (extentAt s e).rescnt ≠ 0)
  let t := es.foldl (fun u e =>
    let pages := (List.range 512).foldl (fun a n => if usable u (512 * e + n) then a + 2 ^ n else a) 0
    withTag u (fun n => .move n e 3 pages)) s
  { t with twn := { t.twn with cstep := 4, alignWait := es } }

/-- The return's step 4 (Table 6.14): once SPANOK has come and every earlier ASYNC mirror is placed. -/
def spanFinish (s : State) : State :=
  if tstate s = 5 ∧ isSurvivor s ∧ s.twn.spanOk ∧ !exchanging s then
    let g := s.log.pgen + 1
    enterSpan (withTag s (fun n => .state n 4 g)) g
  else s

/-- What the last answer of an exchange lets go on. -/
def pairProgress (s : State) : State :=
  let s := sendWaiting s
  let t := if tstate s = 4 ∧ s.twn.joined ∧ isReturner s ∧ !exchanging s ∧ s.twn.joinLog ≠ [] then
      sendPendList 1025 s.log.pendList { s with twn := { s.twn with joined := false, joinLog := [] } }
    else s
  spanFinish (reconStep t)

/-! ## The operator's commands -/

/-- A TWN command is refused: TWN_CMDSTAT and its entry. -/
def twnRefuse (s : State) (op code : Nat) : State :=
  cmdFail ((s.wr R.TWN_CMDSTAT_REFUSED 1).wr R.TWN_CMDSTAT_REASON code) (ekey 0x2402 op) code

/-- It is accepted and done. -/
def twnDone (s : State) (op : Nat) : State :=
  cmdDone ((s.wr R.TWN_CMDSTAT_REFUSED 0).wr R.TWN_CMDSTAT_REASON 0) (ekey 0x2402 op)

/-- The refusal code of a TWN command where the chapter names none. -/
def twnCode (op : Nat) : Nat := Config.failureCode (ekey 0x2402 op) % 256

/-- SPAN's way into Table 6.14 at the survivor. -/
def spanStart (s : State) : State :=
  let t := withTag s (fun n => .state n 2 s.log.pgen)
  { t with twn := { t.twn with spanReq := true } }

/-- JOIN makes this side blank (R203): every extent is deallocated and every region entry empty, each as a map update (R107); the log
area and what charged or moved pages are empty. -/
def blankMaps (s : State) : State :=
  let t : State := { s with tie := { s.tie with rings := [], moves := [], fills := [], waiting := [] } }
  let t := (s.maps.extents.map (·.1)).foldl deallocExtent t
  let t := (s.maps.regions.map (·.1)).foldl (fun u i => setRegion u i {}) t
  let t : State := { t with
    maps := { t.maps with regions := [], extents := [], freeNext := 0, freed := [], regseq := 0 }
    log := {}, tie := { t.tie with groups := [], recs := [] } }
  showGroups (showFences (showLog t))

/-- A TWN command by its OP (Table 6.15). -/
def twnCmd (op : Nat) (s : State) : State :=
  let s := cmdRun s (ekey 0x2402 op)
  match op with
  | 1 => if tstate s = 0 ∧ pairable s ∧ s.log.role ≠ 2 then twnDone (showGate (enterSolo (visilDown s) 4)) 1 else twnRefuse s 1 (twnCode 1)
  | 2 =>
    if tstate s = 5 ∧ visilUp s ∧ !s.twn.spanCmd then
      let t : State := { s with twn := { s.twn with spanCmd := true } }
      let t := ((t.wr R.TWN_CMDSTAT_REFUSED 0).wr R.TWN_CMDSTAT_REASON 0).wr R.TWN_CMDSTAT_BUSY 1
      if isSurvivor t then spanStart t else withTag t (fun n => .state n 2 t.log.pgen)
    else twnRefuse s 2 1
  | 3 =>
    if isSpan s then
      twnDone (twinDepart 3 s) 3
    else twnRefuse s 3 (twnCode 3)
  | 4 =>
    if (tstate s = 0 ∨ tstate s = 3) ∧ pairable s ∧ s.twn.lastDec ≠ 0 then
      let d := s.twn.lastDec
      let t := if d = 1 then setPair (blankMaps s) 0 0
        else setPair s s.log.pairId (s.log.pgen - 1)
      let t := recountDirty t
      let t := setRole t (if d = 1 then 0 else 2)
      let t := if tstate s = 3 then stopSide t else unpair t
      let t := if d = 1 then setRole t 0 else t
      twnDone { t with twn := { t.twn with lastDec := 0, joined := decide (d = 2) } } 4
    else twnRefuse s 4 (twnCode 4)
  | 5 => if tstate s = 0 ∧ pairable s then twnDone (showGate (enterSolo (visilDown s) 3)) 5 else twnRefuse s 5 (twnCode 5)
  | _ => s

/-- The content and epoch that arbitration gives a fenced page here, dirty and serving (R216). -/
def arbitrated (s : State) (p ep : Nat) (cells : Option (List Host.Cell)) : State :=
  match frameOf s p with
  | none => s
  | some f =>
    let t := match cells with
      | some c => frameFill s f c 0
      | none => s
    unfence (setPage t p (fun x => { x with epoch := ep, pdirty := true, pstate := .pinned })) p

/-- One newer than the newer of a fenced page's two epochs. -/
def fenceEpoch (s : State) (p : Nat) : Nat :=
  let a := pageEpoch s p
  let b := (s.log.fences.get p (a, 0, 0)).1
  ((if newer48 b a then b else a) + 1) % 2 ^ 48

/-- Arbitration of the inspected page (R216): `arg` 0 SIDE0, 1 SIDE1, 2 the supplied content. -/
def arbitrate (s : State) (sess arg : Nat) : State :=
  let c := ekey 0x2440 7
  let s := cmdRun s c
  match (s.log.fences.drop (sessEnt s sess (ekey 0x2440 1) 0)).head? with
  | none => cmdFailFree s c
  | some (p, _) =>
    if !visilUp s ∨ tstate s = 0 then cmdFail s c 1
    else if 2 < arg then cmdFail s c 5
    else
      let ep := fenceEpoch s p
      if arg = 1 - mySide s then cmdDone (withTag s (fun n => .pagePull n p)) c
      else if !usable s p then cmdFail s c 1
      else
        let cells := if arg = 2 then some (bytesCells (s.dic.blobs.get (ekey 0x2441 1) (List.replicate 4096 0))) else none
        let t := sendResync (arbitrated s p ep cells) p false
        reconStep (cmdDone (raise t 0x19A0 [p, Config.payloadCode 0x19A0 arg, ep]) c)

/-! ## Map operations of the other side (R180, R86) -/

/-- A region entry sent by the lead side takes force: the free list, the extents that it allocates (R85). -/
def regionApply (s : State) (i : Nat) (r : Region) : State :=
  let m := s.maps
  let skipped := (List.range i).drop m.freeNext
  let s : State := { s with maps := { m with
    freed := (if m.freeNext ≤ i then m.freed ++ skipped else m.freed).filter (· ≠ i)
    freeNext := max m.freeNext (i + 1), regseq := max m.regseq r.regseq } }
  let t := setRegion s i r
  if r.state = 1 then allocExtents t r
  else if r.state = 2 then drainDone t i
  else { t with maps := { t.maps with freed := t.maps.freed ++ [i] } }

/-- A registration that the other side asks of the lead side. -/
def regReq (s : State) (tag : Nat) (r : Region) : State :=
  let x := regRefusal s r
  if x ≠ 0 then twinSend (refuseMap s 0 x r.tenant) (.mapopDone tag x 0 0)
  else
    let q := registerHere s r
    let own := q.1.twn.nextTag
    let t := withTag q.1 (fun n => regionSet q.1 q.2 n)
    waitMap t { tag := own, kind := 5, entry := 0, session := 0, words := [tag, q.2, rkeyOf q.2 (regionAt q.1 q.2)] }

/-- A deregistration that the other side asks of the lead side. -/
def deregReq (s : State) (tag k : Nat) : State :=
  let i := bits k 10 14
  if !rkeyLive s k then twinSend (refuseMap s 1 8 (regionAt s i).tenant) (.mapopDone tag 8 i k)
  else
    let t := deregisterHere s k
    let own := t.twn.nextTag
    let u := withTag t (fun n => regionSet t i n)
    waitMap u { tag := own, kind := 5, entry := 0, session := 0, words := [tag, i, k] }

/-- A request of the other side is done by the lead side, in SPAN or as the survivor (R180), where firmware is available; else it waits
for it (R431). -/
def mapRequest (s : State) (m : Msg) : State :=
  if !pairLinked s ∨ !isLead s then s
  else if !fwUp s then { s with twn := { s.twn with mapq := s.twn.mapq ++ [m] } }
  else match m with
    | .mapop tag 4 _ _ _ w =>
      if drbgOk s then regReq s tag (regionOf w) else { s with twn := { s.twn with mapq := s.twn.mapq ++ [m] } }
    | .mapop tag 5 _ _ _ w => deregReq s tag (bits (w.headD 0) 32 32)
    | .mapop tag 3 _ e n _ => deallocReq s tag e n
    | _ => s

/-- Requests that waited for firmware. -/
def runMapq (s : State) : State := s.twn.mapq.foldl mapRequest { s with twn := { s.twn with mapq := [] } }

/-- The end of the map operation with our tag (R86). -/
def mapDone (s : State) (tag result index rkey : Nat) : State :=
  match s.twn.waits.find? (fun w => w.tag = tag && w.kind ≠ 4 && w.kind ≠ 7) with
  | none => s
  | some w =>
    let t : State := { s with twn := { s.twn with waits := s.twn.waits.filter (· ≠ w) } }
    let g := fun k => w.words.getD k 0
    match w.kind with
    | 0 => if w.entry % 2 ^ 24 = ekey 0x2110 9 then regDone t w.session (g 0) (g 1) else cmdDone t w.entry
    | 1 => if result = 0 then regDone t w.session index rkey else cmdFail t w.entry result
    | 2 | 3 => if result = 0 then cmdDone t w.entry else cmdFail t w.entry result
    | 5 => twinSend t (.mapopDone (g 0) 0 (g 1) (g 2))
    | _ => twinSend t (.mapopDone (g 2) 0 0 0)

/-- Extent fields sent by the survivor (Table 6.13 step 2). -/
def extentApply (s : State) (e w : Nat) : State :=
  let est := bits w 62 2
  let t := if est ≠ 2 ∧ (extentAt s e).estate = 2 then deallocExtent s e else s
  if est = 0 then t
  else modExtent t e (fun x => { x with estate := est, home := bits w 60 2, tpol := bits w 57 3, owner := bits w 47 10 })

end Sys2Proof.Machine
end

