-- ==== Sys2Proof/Machine/Save.lean ====
section
/-! DEFINITION. The meanings of the save, restore, gate and rehearsal commands (R257 to R270, R341, R343). -/

namespace Sys2Proof.Machine

/-! ## Save -/

/-- SAVE_STEP_COMPLETE (R261): step `n` of Table 8.3 ends once its predecessors have; the steps that wait on it begin. -/
def doSaveStepComplete (n : Nat) (s : State) : State :=
  if s.dev = .saving ∧ 2 ≤ n ∧ n ≤ 8 ∧ !bit s.sav.steps n ∧ (stepNeeds n).all (fun k => bit s.sav.steps k) then saveStepDone n s
  else s

def execSaveStepComplete (n : Nat) (s : State) : Out3 := .next (doSaveStepComplete n s)

/-- STORE_SAVE_WRITE (Table 11.4 SAVE_WRITE, R263): one image page is programmed in SLC. A place that is programmed already refuses it
(R343). -/
def doStoreSaveWrite (s : State) : State :=
  match s.sav.img with
  | some im =>
    let n := s.rd R.SAV_PROGRESS_PAGES
    if s.dev = .saving ∧ s.stf.saving ∧ n < im.pages.length then
      let l := imageLoc s (imageSpan s im.pages.length).1 n
      if s.sav.dirtySb.contains (locSb s l) then
        raise (s.bump C.STF_REFUSEDPROG) 0x3480 [l.ch, l.die, l.block, l.page, Config.payloadCode 0x3480 0]
      else s.wr R.SAV_PROGRESS_PAGES (n + 1)
    else s
  | none => s

def execStoreSaveWrite (s : State) : Out3 := .next (doStoreSaveWrite s)

/-- STORE_SEAL_WRITE (R264): the seal record is programmed at anchor A, then at anchor B. -/
def doStoreSealWrite (a : Fin 2) (s : State) : State :=
  match s.sav.sealRec with
  | some r =>
    if s.dev = .saving ∧ !bit s.sav.sealed a ∧ (a.val = 0 ∨ bit s.sav.sealed 0) then
      let t := sealAppend s a r false
      { t with sav := { t.sav with sealed := bitSet t.sav.sealed a } }
    else s
  | none => s

def execStoreSealWrite (a : Fin 2) (s : State) : Out3 := .next (doStoreSealWrite a s)

/-- SAVE_SEALED (R261 steps 9 and 10): the record reads back at both anchors. -/
def doSaveSealed (s : State) : State :=
  match s.sav.sealRec, s.sav.img with
  | some r, some im => if s.dev = .saving then saveSealed s im r else s
  | _, _ => s

def execSaveSealed (s : State) : Out3 := .next (doSaveSealed s)

/-- A list of module readings in mV into GOV_VMOD. -/
def setVmod (s : State) (v : List Nat) : State :=
  (List.range 8).foldl (fun t m => match v[m]? with | some x => (t.wr R.GOV_VMOD x m).wr R.PWR_ADC (adcCode x) m | none => t) s

/-- ENERGY_AT_SHUTRES (R260): at SHUTRES, before a seal is written, the save is torn and the falling table runs. -/
def doEnergyAtShutres (vmod : List Nat) (s : State) : State :=
  let t := setVmod s vmod
  let j := liveEnergy t / 2000000000000000
  if s.dev = .saving ∧ s.sav.sealed = 0 ∧ j ≤ s.rd R.SAV_SHUTRES_SHUTRES then
    let t := (raise t 0x2440 [s.rd R.SAV_PROGRESS_PAGES, j]).bump C.SAV_TORN
    let torn := ((imageSpan s ((s.sav.img.map (·.pages.length)).getD 0)).1.map (saveSb s))
    let t : State := sbFull { t with
      stf := { t.stf with saving := false }
      sav := { t.sav with img := none, sealRec := none, steps := 0, cause := none } } torn
    let t := showErased (t.wr R.SAV_STAT_PHASE 0)
    let t := match s.rst.pend5 with | some q => coldEffect t q | none => t
    startFall t 0 41
  else if s.dev = .saving then t
  else s

def execEnergyAtShutres (vmod : List Nat) (s : State) : Out3 := .next (doEnergyAtShutres vmod s)

/-- SAVE_PATH_READY (R259): in RISING with DRAM retained, the save that waits for its path begins. -/
def doSavePathReady (s : State) : State :=
  match s.sav.wanted with
  | some c =>
    if s.dev = .rising ∧ s.on R.RST_RETAIN_WARM then
      let t : State := { s with dram := { s.dram with asleep := false } }
      startSave (setRetain (recountDirty t) true false) c
    else s
  | none => s

def execSavePathReady (s : State) : Out3 := .next (doSavePathReady s)

/-! ## Fill and restore -/

/-- RESTORING begins at a step of Table 8.6. -/
def startRestore (s : State) (step why : Nat) : State :=
  let t := setDev s .restoring why
  let t : State := { t with
    sav := { t.sav with rstep := step, rstart := s.now, rpages := 0, chosen := none }
    gov := { t.gov with readMask := 0, testMask := 0 } }
  showGate ((t.wr R.SAV_STAT_PHASE 2).wr R.SAV_PROGRESS_PAGES 0)

/-- FILL_COMPLETE (R267): every line holds zero data and valid check bits; RESTORING follows. -/
def doFillComplete (s : State) : State :=
  if s.dev = .filling then
    let n := geometryBytes s
    let t : State := { s with dram := { data := [], lines := [], asleep := false } }
    let t := raise (t.bump C.SAV_FILLBYTES n) 0x2560 [n, s.since s.sav.rstart / 1000]
    startRestore t 1 42
  else s

def execFillComplete (s : State) : Out3 := .next (doFillComplete s)

/-- What a restore step does when it ends. -/
def restoreAct (n : Nat) (bad : List Nat) (s : State) : State :=
  match n with
  | 1 => restoreChoose s bad
  | 3 => restoreMaps s bad
  | 4 => restoreData s bad
  | 5 => if s.on R.RST_RETAIN_WARM then warmWalk s else restoreWalk s
  | 6 => restoreCharges s
  | _ => s

/-- RESTORE_STEP_COMPLETE (R268): the step under way ends and the next one begins. `bad` names what could not be read
(step 1: records and directory copies, steps 3 and 4: pages). -/
def doRestoreStepComplete (n : Nat) (bad : List Nat) (s : State) : State :=
  if s.dev = .restoring ∧ n = s.sav.rstep ∧ 1 ≤ n ∧ n ≤ 7 then
    let t := restoreAct n bad s
    showGate { t with sav := { t.sav with rstep := n + 1 } }
  else s

def execRestoreStepComplete (n : Nat) (bad : List Nat) (s : State) : Out3 := .next (doRestoreStepComplete n bad s)

/-! ## The service gate -/

/-- The newest image is retired at both anchors (R268 step 9). -/
def retireImage (s : State) : State :=
  match topSeal (s.sav.anchorA ++ s.sav.anchorB) with
  | some r =>
    if r.state = 1 then
      let x := { r with seq := r.seq + 1, state := 2 }
      let t := sealAppend (sealAppend s 0 x true) 1 x true
      let t : State := { t with sav := { t.sav with images := [] } }
      let t := sbStale t t.sav.dirtySb
      t.wr64 R.SAV_SEALSEQL R.SAV_SEALSEQH x.seq
    else s
  | none => s

/-- SERVICE_GATE_PASSED (R269): GATEMISS 0 and FWOK: the image is retired and the device enters SERVING in Trot. A returner that is in
SERVING already answers the SPANREQ that it has (R213). -/
def doServiceGatePassed (s : State) : State :=
  if s.dev = .serving ∧ s.twn.spanReq ∧ isReturner s ∧ gateOpen s then withTag s (fun n => .state n 3 s.log.pgen)
  else if s.dev = .restoring ∧ 7 ≤ s.sav.rstep ∧ gateOpen s then
    let t := retireImage s
    let t : State := { t with
      sav := { t.sav with rstep := 0, chosen := none, lastRehearsal := s.now }
      gov := { t.gov with lastTest := s.now }
      pwr := { t.pwr with servQual := t.rd R.PWR_PGSTAT } }
    let t := (t.wr R.SAV_STAT_PHASE (if t.sav.dirtySb.isEmpty then 0 else 5)).wr R.SAV_STAT_GATEMISS 0
    let t := farOpen (setDev (setRetain t false false) .serving 43)
    let t := gaitEnterServing t
    if s.twn.spanReq ∧ isReturner s then withTag t (fun n => .state n 3 t.log.pgen) else t
  else s

def execServiceGatePassed (s : State) : Out3 := .next (doServiceGatePassed s)

/-- SERVICE_GATE_WAIT_REPORT (R269): event 0x2500 names the missing bits. -/
def doServiceGateWaitReport (s : State) : State :=
  if s.dev = .restoring ∧ 7 ≤ s.sav.rstep ∧ (gateMiss s ≠ 0 ∨ !s.on R.SAV_GATE_FWOK) then
    raise (showGate { s with sav := { s.sav with gateReport := s.now } }) 0x2500 [gateMiss s, s.rd R.SAV_GATE_FWOK]
  else s

def execServiceGateWaitReport (s : State) : Out3 := .next (doServiceGateWaitReport s)

/-- RETIRED_IMAGE_ERASE_DONE (R268): the STALE superblocks of the retired image are erased and FREE. -/
def doRetiredImageEraseDone (s : State) : State :=
  if s.dev = .serving ∧ s.running 18 then
    let ks := s.sav.dirtySb.filter (fun k => (blkAt s k).state = 5)
    let t := ks.foldl eraseFree s
    showErased (if s.rd R.SAV_STAT_PHASE = 5 then t.wr R.SAV_STAT_PHASE 0 else t)
  else s

def execRetiredImageEraseDone (s : State) : Out3 := .next (doRetiredImageEraseDone s)

/-! ## Rehearsal (R270) -/

/-- The store channels, which a rehearsal holds. -/
def storeChannels : List Nat := (List.range 32).map (· + 16)

/-- The rehearsal superblock. -/
def rehearseSb (s : State) : Nat := saveSb s (s.rd R.SAV_REHEARSE_SB)

/-- A rehearsal begins once SAV holds every store channel's token; it programs an erased superblock (R343). -/
def rehearse (s : State) : State :=
  let t := storeChannels.foldl (fun u n => farAsk u rehearseOwner n) s
  if farHolds t rehearseOwner storeChannels then
    (deriveRehearse { t with sav := { t.sav with rehearsal := some s.now } }).wr R.SAV_STAT_PHASE 4
  else t

/-- REHEARSAL_START: PERIOD hours after the last. -/
def doRehearsalStart (s : State) : State :=
  if s.dev = .serving ∧ s.running 22 ∧ s.sav.rehearsal = none ∧ (s.rd R.SAV_STAT_PHASE = 0 ∨ s.rd R.SAV_STAT_PHASE = 5) ∧
      (blkAt s (rehearseSb s)).state = 0 ∧ (s.rd R.SAV_REHEARSE_PERIOD ≠ 0 ∨ s.sav.rehearseCmd) then rehearse s
  else s

def execRehearsalStart (s : State) : Out3 := .next (doRehearsalStart s)

/-- REHEARSE_CMD (0x2611.01): a rehearsal now; refused by FAILED outside SERVING. -/
def doRehearseCmd (s : State) : State :=
  if !awake s then s
  else if s.dev = .serving ∧ s.running 22 ∧ s.sav.rehearsal = none ∧ (blkAt s (rehearseSb s)).state = 0 then
    let t := cmdRun s (ekey 0x2611 1)
    rehearse { t with sav := { t.sav with rehearseCmd := true } }
  else cmdFailFree s (ekey 0x2611 1)

def execRehearseCmd (s : State) : Out3 := .next (doRehearseCmd s)

/-- REHEARSAL_DONE: after `us` microseconds. Where a higher activity waits, the holder stopped at its release point and the
partial result is discarded; else the rate is a candidate RMEAS. The superblock is erased. -/
def doRehearsalDone (us : Nat) (s : State) : State :=
  if s.dev = .serving ∧ s.sav.rehearsal.isSome then
    let cut := storeChannels.any (higherWaits s rehearseOwner)
    let bytes := s.rd R.SAV_REHEARSE_SIZE * 2 ^ 30
    let rate := bytes / us / 100
    let cmd := s.sav.rehearseCmd
    let t : State := { s with sav := { s.sav with rehearsal := none, rehearseCmd := false, lastRehearsal := s.now } }
    let t := clearSlot (t.wr R.SAV_STAT_PHASE 0) 8
    let t := if cut then t
      else
        let u := (raise t 0x2520 [rate, bytes]).bump C.SAV_REHEARSALS
        let last := sealRate s
        u.wr R.GOV_RMEAS (if last = 0 then rate else if rate = 0 then last else min last rate)
    let t := farDrop (eraseFree t (rehearseSb s)) rehearseOwner
    if !cmd then t else if cut then cmdFailFree t (ekey 0x2611 1) else cmdDone t (ekey 0x2611 1)
  else s

def execRehearsalDone (us : Nat) (s : State) : Out3 := .next (doRehearsalDone us s)

end Sys2Proof.Machine
end

