-- ==== Sys2Proof/Machine/PowerOps.lean ====
section
/-! DEFINITION. What the power, clock and reset commands share: leaving RISING, brown-outs, torn saves, activity reductions
(R32, R411), margins (R385), the main shaft's lock (R408). -/

namespace Sys2Proof.Machine

/-! ## Activity reductions (R32, R411) -/

/-- The reduction steps there are: four halvings, cleaning, groom, sixteen sixteenths of host pacing. -/
def redMax : Nat := 22

/-- The steps in force. -/
def redSteps (s : State) : Nat := max s.gai.capSteps s.gai.tempSteps

/-- The steps that the power cap and the temperature require, taken in force in the order of R32. -/
def setSteps (s : State) (cap temp : Nat) : State :=
  let n := max cap temp
  let t : State := { s with gai := { s.gai with
    capSteps := cap, tempSteps := temp
    redMst := min 4 n, redClean := decide (5 ≤ n), redGroom := decide (6 ≤ n), redPace := n - 6 } }
  if t.gai.redGroom = s.gai.redGroom then t else groomRow t (rowInForce t 19).groommul

/-! ## Torn saves (R260) -/

/-- The superblocks that the image under way covers. -/
def tornSpan (s : State) : List Nat :=
  (imageSpan s ((s.sav.img.map (·.pages.length)).getD 0)).1.map (saveSb s)

/-- What a save cut off before its seal leaves in store flash: superblocks to erase. -/
def tornFlash (s : State) : State :=
  if s.dev = .saving ∧ s.sav.img.isSome then
    sbFull s (tornSpan s)
  else s

/-! ## Brown-outs (R381) -/

/-- Is some rail with LOSSACT set LOST? -/
def railOut (s : State) : Bool := (List.range 24).any (fun r => s.rbit R.PWR_LOST r && s.on R.PWR_RAIL_LOSSACT r)

/-- PWR_INSTAT.BROWNOUT follows its two causes. -/
def showBrownOut (s : State) : State := s.wr R.PWR_INSTAT_BROWNOUT (b2n (s.pwr.boVin || railOut s))

/-- A brown-out begins: cause 0 VIN, 1 rail. It acts as the warning and as a level-5 reset request without an on latch. -/
def brownOutStart (s : State) (cause rail reading : Nat) : State :=
  let t := (s.wr R.PWR_INSTAT_BROWNOUT 1).bump C.PWR_BROWNOUTS
  let t := raise (snapshot t 5 rail) 0x3C40 [Config.payloadCode 0x3C40 cause, reading]
  sourceReset t 1

/-! ## The rising table's end -/

/-- What holds the device in RISING after its table: an XTS lane that failed (R466), a debug unlock (R470), no cluster
released (R448). -/
def riseHeld (s : State) : Bool :=
  decide (s.rd R.XTS_STAT_LANEFAIL ≠ 0) || s.on R.KEY_STAT_DEBUG || s.cpx.entry.isNone

/-- RISING is left once the table has reached END and the main shaft is locked (Table 1.6): to FILLING after a cold start, to
RESTORING with DRAM retained and no save asked for, whose self-refresh ends and whose latches open (Table 12.9 step 8). -/
def tryLeaveRising (s : State) : State :=
  if s.dev = .rising ∧ s.pwr.risen ∧ s.on R.CLK_STAT_LOCKED ∧ !riseHeld s ∧ !(s.on R.RST_RETAIN_WARM ∧ s.sav.wanted.isSome) then
    if s.on R.RST_RETAIN_WARM then
      let t : State := { s with dram := { s.dram with asleep := false } }
      startRestore (setRetain t true false) 5 45
    else
      let t := setDev s .filling 44
      { t with sav := { t.sav with rstart := s.now } }.wr R.SAV_STAT_PHASE 1
  else s

/-! ## The main shaft (R395 to R397, R408) -/

/-- The device's states in which the main shaft runs. -/
def shaftRuns (s : State) : Bool := awake s && s.on R.CLK_STAT_LOCKED

/-- A falling table starts at step 0, whatever the state; one under way starts again. -/
def fallNow (s : State) (why : Nat) : State := if s.dev = .falling then stepBegin s 0 else startFall s 0 why

/-! ## Margins (R385) -/

/-- PWR_MARGIN.GO or 0x2A03.03: OPERATION goes to the rail's regulator, in RISING and SERVING only. -/
def marginGo (s : State) (cmd : Bool) : State :=
  let e := ekey 0x2A03 3
  let r := s.rd R.PWR_MARGIN_RAIL
  let m := s.rd R.PWR_MARGIN_MODE
  if (s.dev = .rising ∨ s.dev = .serving) ∧ s.pwr.marginBusy = none ∧ s.rd R.PWR_RAIL_PMBADDR r ≠ 0 then
    let t := operation s r m
    let t : State := { t with pwr := { t.pwr with marginBusy := some (r, m), marginCmd := cmd } }
    let t := (t.wr R.PWR_MARGSTAT_BUSY 1).wr R.PWR_MARGSTAT_REFUSED 0
    if cmd then cmdRun t e else t
  else
    let t := s.wr R.PWR_MARGSTAT_REFUSED 1
    if cmd then cmdFailFree t e else t

/-- A PMBus transaction failed or outlasted its time (R383). -/
def pmbFailed (s : State) (addr cmd cause : Nat) : State :=
  (raise s 0x3CE0 [addr, cmd, Config.payloadCode 0x3CE0 cause]).bump C.PWR_PMBFAIL

/-- The margin transaction ends. -/
def marginDone (s : State) (r m : Nat) (res : PmbResult) : State :=
  let e := ekey 0x2A03 3
  let t : State := { s with pwr := { s.pwr with marginBusy := none, marginCmd := false } }
  let t := t.wr R.PWR_MARGSTAT_BUSY 0
  if res = .ok then
    let t : State := { t with pwr := { t.pwr with margin := t.pwr.margin.put r m 0 } }
    let t := raise (showMargins t) 0x3D00 [r, m]
    if s.pwr.marginCmd then cmdDone t e else t
  else
    let t := pmbFailed t (s.rd R.PWR_RAIL_PMBADDR r) 0x01 (if res = .failed then 0 else 1)
    if s.pwr.marginCmd then cmdFailFree t e else t

/-! ## Reset requests by software (R389) -/

/-- RST_REQ.GO or command 0x2A10.08. -/
def softReset (s : State) (a : ResetArg) (cmd : Bool) : State :=
  let e := ekey 0x2A10 8
  let (t, ok) := requestedReset s 4 a.level.toNat a.block.toNat a.drains
  if cmd then (if ok then cmdDone t e else cmdFailFree t e) else t

end Sys2Proof.Machine
end

