-- ==== Sys2Proof/Machine/Tier.lean ====
section
/-! DEFINITION. The meanings of the tier engine's commands (chapter 07). -/

namespace Sys2Proof.Machine

/-! ## Fills (R237 to R240) -/

/-- The codeword of a FILLING page arrives (R237, R239). In SPAN a page that cannot be rebuilt is fetched line by line from the
twin. -/
def fillArrived (p : Nat) (rd : CwRead) (s : State) : State :=
  match s.tie.fills.find? p with
  | none => s
  | some _ =>
    let l := storeAt s p
    if (pageFrame s p).pstate ≠ .filling then fillInstall s p (cwAt s l)
    else if l.sstate ≠ 1 then fillLost s p
    else match readDie s l.ch l.die with
    | none => s
    | some t =>
      let q := readCw t l rd false
      let t := q.1
      if q.2 < 2 then fillInstall (t.bump C.XTS_DECUNITS) p (cwAt s l)
      else if isSpan t then
        (List.range 64).foldl (fun u n =>
          if treading u p n then u
          else withTag { u with twn := { u.twn with treads := u.twn.treads ++ [(p, n)] } } (fun g => .tread g p n)) t
      else fillLost t p

/-- TIER_S_FILL_DONE (R237, R239): the fill ends, and what waited for the page or for its group goes on. -/
def doTierSFillDone (p : Nat) (rd : CwRead) (s : State) : State :=
  if awake s then retryHeld (retryWaiting (fillArrived p rd s)) else s

def execTierSFillDone (p : Nat) (rd : CwRead) (s : State) : Out3 := .next (doTierSFillDone p rd s)

/-- PARK_ROOM_FREED (R240): Admit offers the oldest returned request of the pipeline that now has room. -/
def doParkRoomFreed (p : Fin 4) (s : State) : State :=
  if !awake s then s else
  match s.xpt.reqs.find? (fun r => r.returned && r.stage = .admitting && pipeOf r.lport = p.val &&
      decide ((s.xpt.reqs.filter (fun x => pipeOf x.lport = p.val && x.parts.any (fun y => y.st = .parked))).length < 4096) &&
      decide (parkedOf s (qpAt s r.qp).tenant < (tenantAt s (qpAt s r.qp).tenant).parklim)) with
  | some r => setReq s { r with stage := .place, returned := false }
  | none => s

def execParkRoomFreed (p : Fin 4) (s : State) : Out3 := .next (doParkRoomFreed p s)

/-! ## Cleaning (R236) -/

/-- Does the tier engine clean and demote: in SERVING, and in a returner's RESTORING by its own policy (R211)? -/
def tierActs (s : State) : Bool :=
  decide (s.dev = .serving) || (decide (s.dev = .restoring) && (tstate s = 4 || tstate s = 5) && isReturner s)

/-- CLEAN_CLOCK_STEP (R236, R98): the walk visits its next data page, or a map page by its frame. -/
def doCleanClockStep (map : Bool) (p : Nat) (s : State) : State :=
  if !tierActs s ∨ !s.running 23 then s
  else if map then cleanMap s p
  else if nextClean s = some p then cleanVisit { s with tie := { s.tie with hand := p } } p
  else s

def execCleanClockStep (map : Bool) (p : Nat) (s : State) : Out3 := .next (doCleanClockStep map p s)

/-- The open row with entry `x` replaced by a pad. -/
def padOut (r : OpenRow) (x : RowEnt) : OpenRow :=
  { r with ents := r.ents.map (fun e => if e = x then { e with what := 0 } else e) }

/-- WRITEBACK_VERIFIED (R223): one write-back of the row being programmed is verified. -/
def doWritebackVerified (ref : Nat) (s : State) : State :=
  if !awake s then s else
  match s.stf.open_ with
  | some r =>
    match r.ents.find? (fun e => e.what = 1 && e.ref = ref), r.programming with
    | some e, true => entDone { s with stf := { s.stf with open_ := some (padOut r e) } } e
    | _, _ => s
  | none => s

def execWritebackVerified (ref : Nat) (s : State) : Out3 := .next (doWritebackVerified ref s)

/-- WRITEBACK_PROGRAM_FAILED (R223, R352): the write-back is reissued to another location, unless a later one of the page is under way;
the page is DIRTY, the member is retired. -/
def doWritebackProgramFailed (ref : Nat) (s : State) : State :=
  if !awake s then s else
  match s.stf.open_ with
  | some r =>
    match r.ents.find? (fun e => e.what = 1 && e.ref = ref), r.programming with
    | some e, true =>
      let t : State := { s with stf := { s.stf with open_ := some (padOut r e) } }
      let t : State := if cleanedAgain t ref then t
        else
          let u : State := { t with stf := { t.stf with cleanQ := t.stf.cleanQ ++ [(ref, e.word)] } }
          match ref % 3, (pageFrame u (ref / 3)).pstate with
          | 0, .cleaning => setPage u (ref / 3) (fun x => { x with pstate := .dirty })
          | _, _ => u
      retireMember t r.sb e.loc.ch (Config.payloadCode 0x3440 0)
    | _, _ => s
  | none => s

def execWritebackProgramFailed (ref : Nat) (s : State) : Out3 := .next (doWritebackProgramFailed ref s)

/-! ## Heat and the pool (R225, R232) -/

/-- HEAT_TICK (R225). -/
def doHeatTick (s : State) : State :=
  if !awake s then s else
  if s.on R.TIE_HEAT_FREEZE ∨ !s.running 23 then s
  else { s with tie := { s.tie with tick := (s.tie.tick + 1) % 65536 } }

def execHeatTick (s : State) : Out3 := .next (doHeatTick s)

/-- The pool clock visits group `g` (R232). -/
def visitGroup (g : Nat) (s : State) : State :=
  match s.tie.groups.find? g with
  | none => s
  | some x =>
    if !tierActs s ∨ !s.running 23 then s
    else
      let e := x.extent
      let press := pressure s
      let t := heatVisit { s with tie := { s.tie with press } } e
      let seen := { t with tie := { t.tie with groups := t.tie.groups.ins g { x with seen := t.tie.tick } } }
      let mig := (rowInForce t 23).migrate
      let idle := polIdle (policy t e)
      if !poolExtent t e ∨ (extentAt t e).movekind = 2 then seen
      else if press ∧ !newer16 (extentAt t e).lasttick x.seen then evict t e
      else if mig ≠ 0 ∧ idle ≠ 0 ∧ idle * 2 ^ (7 - mig) ≤ idleTicks t e then evict t e
      else seen

/-- POOL_CLOCK_VISIT (R232): a group that an eviction frees goes to a promotion that waits. -/
def doPoolClockVisit (g : Nat) (s : State) : State := if awake s then retryWaiting (visitGroup g s) else s

def execPoolClockVisit (g : Nat) (s : State) : Out3 := .next (doPoolClockVisit g s)

/-! ## Tenants and policy rows (R226, R233) -/

/-- The registers of TIE_TENCTL as the write that starts an operation leaves them. -/
def tenCtl (op : Nat) (i : Fin 1024) (s : State) : State := (s.wr R.TIE_TENCTL_OP op).wr R.TIE_TENCTL_INDEX i

/-- TENANT_WRITE (R233): TENDATA goes into the edit shadow. -/
def doTenantWrite (i : Fin 1024) (s : State) : State :=
  if !awake s then s
  else
    let t := tenCtl 0 i s
    let w := (List.range 4).map (fun k => t.rd R.TIE_TENDATA (2 * k) + 2 ^ 32 * t.rd R.TIE_TENDATA (2 * k + 1))
    { t with tie := { t.tie with tenEdit := t.tie.tenEdit.ins i (tenantOf w) } }

def execTenantWrite (i : Fin 1024) (s : State) : Out3 := .next (doTenantWrite i s)

/-- TENANT_READ (R233). -/
def doTenantRead (i : Fin 1024) (s : State) : State :=
  if !awake s then s
  else
    let t := tenCtl 1 i s
    (tenantWords t i).zipIdx.foldl (fun u p =>
      (u.wr R.TIE_TENDATA (p.1 % 2 ^ 32) (2 * p.2)).wr R.TIE_TENDATA (p.1 / 2 ^ 32) (2 * p.2 + 1)) t

def execTenantRead (i : Fin 1024) (s : State) : Out3 := .next (doTenantRead i s)

/-- The first entry of a tenant table that breaks its own limits: PARKLIM 16 to 16,384 (Table 7.8). -/
def tenantBad (m : Sparse Tenant) : Option Nat :=
  (m.seek (fun e => decide (e.2.parklim < 16) || decide (16384 < e.2.parklim))).map (·.1)

/-- TENANT_COMMIT (R233): by TIE_TENCTL OP 2, or by 0x2510.0B where `cmd`. -/
def doTenantCommit (cmd : Bool) (s : State) : State :=
  if !awake s then s
  else
    let c := ekey 0x2510 0x0B
    let m := tenantShadow s
    let t := if cmd then cmdRun s c else (s.wr R.TIE_TENCTL_OP 2)
    let fail := fun (i k : Nat) =>
      let u := raise t 0x1D80 [Config.payloadCode 0x1D80 1, i, k]
      if cmd then cmdFail u c stRange else u
    match tenantBad m with
    | some i => fail i 7
    | none =>
      if dataGroups t < quotaSum m + t.rd R.TIE_HIWATER_HIWATER then
        fail (((tenantShadow t).seek (fun e => e.2.quota)).map (·.1) |>.getD 0) 3
      else
        let u : State := { t with
          tie := { t.tie with tenEdit := [], tenPend := some m }, dic := { t.dic with owners := t.dic.owners.del 2 } }
        let u := if u.running 23 then u else takeTenants u m
        if cmd then cmdDone u c else u

def execTenantCommit (cmd : Bool) (s : State) : Out3 := .next (doTenantCommit cmd s)

/-- QUOTA_RING_REBUILD_DONE (R233). -/
def doQuotaRingRebuildDone (s : State) : State :=
  if awake s ∧ s.on R.TIE_STAT_REBUILD then retryWaiting (quotaAll ((rebuildRings s).wr R.TIE_STAT_REBUILD 0)) else s

def execQuotaRingRebuildDone (s : State) : Out3 := .next (doQuotaRingRebuildDone s)

/-- The eight policy rows go to TIE's quiet point (R226). -/
def tpolCommit (s : State) : State :=
  let t := releaseGroup s 23 (fun k => decide (k / 32 % 1048576 < 0x100))
  let t : State := { t with dic := { t.dic with owners := t.dic.owners.del 3 } }
  cmdDone (if t.running 23 then t else tieQuiet t) (ekey 0x2511 9)

/-- Firmware-owned work (R13) of kind `k` that waits until firmware is available. -/
def queueWork (s : State) (k : Nat) (a : List Nat) : State := { s with dic := { s.dic with work := s.dic.work ++ [(k, 0, a)] } }

/-- TPOL_COMMIT (R226): command 0x2511.09; policy table changes are firmware's, and wait while it is unavailable (R13). -/
def doTpolCommit (s : State) : State :=
  if !awake s then s
  else
    let t := cmdRun s (ekey 0x2511 9)
    if fwUp t then tpolCommit t else queueWork t 3 []

def execTpolCommit (s : State) : Out3 := .next (doTpolCommit s)

/-! ## Tier H (R242 to R244) -/

/-- Can the device make PCIe requests: the link is up, PERST is not asserted, and the function is in D0 (R78)? -/
def pciRequests (s : State) : Bool := s.on R.PCI_STAT_LINKUP && !s.pci.perst && decide (s.rd R.PCI_STAT_DSTATE ≠ 3)

/-- The lend table is committed (R242): `reads` says whether the first and last page of every range could be read. -/
def lendCommit (cmd reads : Bool) (t : State) : State :=
  let c := ekey 0x2520 4
  if reads ∧ pciRequests t then
    let table := lendShadow t
    let mine := t.rf.group.filter (fun e => lendKey e.1)
    let u : State := { t with
      rf := { t.rf with val := mine.foldl (fun m e => m.ins e.1 e.2) t.rf.val
                        group := t.rf.group.filter (fun e => !lendKey e.1) }
      tie := { t.tie with lend := table, hfail := [] }, dic := { t.dic with owners := t.dic.owners.del 4 } }
    let u := if u.rd R.TIE_STAT_HSTATE = 1 then u else setHState u 1 0
    if cmd then cmdDone u c else u
  else
    let u := raise t 0x1CE0 [t.rd R.TIE_STAT_HSTATE, t.rd R.TIE_STAT_HSTATE, Config.payloadCode 0x1CE0 1]
    if cmd then cmdFailFree u c else u

/-- LEND_COMMIT (R242): by TIE_HCTL OP 1, or by 0x2520.04 where `cmd`, which is firmware's work (R13). -/
def doLendCommit (cmd reads : Bool) (s : State) : State :=
  if !awake s then s
  else
    let t := if cmd then cmdRun s (ekey 0x2520 4) else s.wr R.TIE_HCTL_OP 1
    if cmd ∧ !fwUp t then queueWork t 4 [b2n reads] else lendCommit cmd reads t

def execLendCommit (cmd reads : Bool) (s : State) : Out3 := .next (doLendCommit cmd reads s)

/-- The lend is revoked (R244), refused BUSY while a context or a SCRATCH region may use it. -/
def lendRevoke (cmd : Bool) (t : State) : State :=
  let c := ekey 0x2520 5
  if lendUsed t then (if cmd then cmdFail t c stBusy else t)
  else
    let u : State := { t with
      rf := { t.rf with val := t.rf.val.filter (fun e => !lendKey e.1)
                        group := t.rf.group.filter (fun e => !lendKey e.1) }
      tie := { t.tie with lend := [], hfail := [] } }
    let u := if u.rd R.TIE_STAT_HSTATE = 0 then u else setHState u 0 2
    if cmd then cmdDone u c else u

/-- LEND_REVOKE (R244): by TIE_HCTL OP 2, or by 0x2520.05 where `cmd`, which is firmware's work (R13). -/
def doLendRevoke (cmd : Bool) (s : State) : State :=
  if !awake s then s
  else
    let t := if cmd then cmdRun s (ekey 0x2520 5) else s.wr R.TIE_HCTL_OP 2
    if cmd ∧ !fwUp t then queueWork t 5 [] else lendRevoke cmd t

def execLendRevoke (cmd : Bool) (s : State) : Out3 := .next (doLendRevoke cmd s)

/-- TIER_H_ACCESS_FAIL (R243): a tier H access fails by an error, poison or timeout (cause 0, 1, 2). -/
def doTierHAccessFail (page : Nat) (cause : Fin 3) (s : State) : State :=
  if !awake s then s else
  if s.rd R.TIE_STAT_HSTATE ≠ 1 ∨ s.rd R.PCI_STAT_DSTATE = 3 then s
  else
    let t := raise (s.bump C.TIE_HFAIL) 0x1D00 [page, Config.payloadCode 0x1D00 cause]
    let recent := t.now :: t.tie.hfail.filter (fun x => decide (t.now - x < 1000))
    let t : State := { t with tie := { t.tie with hfail := recent } }
    if 3 ≤ recent.length then setHState t 2 3 else t

def execTierHAccessFail (page : Nat) (cause : Fin 3) (s : State) : Out3 := .next (doTierHAccessFail page cause s)

/-! ## Extent commands (R228) -/

/-- PROMOTE_EXTENT_CMD (R228): every page of the extent of 0x2530.01, charged to the tenant in the argument. -/
def doPromoteExtentCmd (tenant : Nat) (s : State) : State :=
  if !awake s then s
  else
    let c := ekey 0x2530 2
    let e := ent s (ekey 0x2530 1) 0
    let t := cmdRun s c
    if pext t ≤ e ∨ 1023 < tenant ∨ (extentAt t e).estate ≠ 2 then cmdFailFree t c
    else
      let t := addCharge t e tenant
      if decides t then
        let q := needGroup t e (some tenant) (2 ^ 512 - 1)
        cmdDone (if q.2 then checkMove (promote q.1 e (2 ^ 512 - 1) false) e else q.1) c
      else cmdDone (withTag t (fun n => .moveReq n e 1 (2 ^ 512 - 1))) c

def execPromoteExtentCmd (tenant : Nat) (s : State) : Out3 := .next (doPromoteExtentCmd tenant s)

/-- REMOVE_CHARGE_CMD (R228). -/
def doRemoveChargeCmd (tenant : Nat) (s : State) : State :=
  if !awake s then s
  else
    let c := ekey 0x2530 3
    let e := ent s (ekey 0x2530 1) 0
    if pext s ≤ e then cmdFailFree (cmdRun s c) c else retryWaiting (cmdDone (removeCharge (cmdRun s c) e tenant) c)

def execRemoveChargeCmd (tenant : Nat) (s : State) : Out3 := .next (doRemoveChargeCmd tenant s)

/-- The firmware-work queue (R13, Table 14.5) runs once firmware is available again. -/
def runWork (s : State) : State :=
  s.dic.work.foldl (fun u w =>
    match w with
    | (0, sess, g) =>
      if drbgOk u then registerPair u sess (registrationOf g)
      else { u with dic := { u.dic with work := u.dic.work ++ [(0, sess, g)] } }
    | (1, sess, k) => deregisterPair u sess (k.getD 0 0)
    | (2, sess, a) => deallocPair u sess (a.getD 0 0) (a.getD 1 0)
    | (3, _, _) => tpolCommit u
    | (4, _, a) => lendCommit true (decide (a.getD 0 0 = 1)) u
    | _ => lendRevoke true u) { s with dic := { s.dic with work := [] } }

end Sys2Proof.Machine
end

