-- ==== Sys2Proof/Machine/Complex.lean ====
section
/-! DEFINITION. The meanings of the control complex's commands (R422 to R435). -/

namespace Sys2Proof.Machine

/-! ## Watchdogs and lock-up (R434, R435) -/

/-- WATCHDOG_KICK: CPX_WDKICK with one bit per core. -/
def kick (s : State) (cores : Nat) : State :=
  (List.range 4).foldl (fun t c =>
    if bit cores c then { t with cpx := { t.cpx with wdLast := t.cpx.wdLast.ins c t.now, wdHalf := bitClr t.cpx.wdHalf c } }
    else t) s

def doWatchdogKick (cores : Nat) (s : State) : State := if awake s ∧ s.cpx.entry.isSome then kick s cores else s

def execWatchdogKick (cores : Nat) (s : State) : Out3 := .next (doWatchdogKick cores s)

/-- WATCHDOG_HALF_TIME: interrupt source 39 of the core. -/
def doWatchdogHalfTime (core : Fin 4) (s : State) : State :=
  if watching s core ∧ !bit s.cpx.wdHalf core then
    raise { s with cpx := { s.cpx with wdHalf := bitSet s.cpx.wdHalf core } } 0x4CC0 [activeCluster s, core]
  else s

def execWatchdogHalfTime (core : Fin 4) (s : State) : Out3 := .next (doWatchdogHalfTime core s)

/-- WATCHDOG_EXPIRY: reset source 3. -/
def doWatchdogExpiry (core : Fin 4) (s : State) : State :=
  if watching s core then
    sourceReset (raise s (0x4C40 + 4 * activeCluster s + core) [activeCluster s, core]) 3
  else s

def execWatchdogExpiry (core : Fin 4) (s : State) : Out3 := .next (doWatchdogExpiry core s)

/-- The cluster whose cores run: the incoming one of a takeover, else the ACTIVE one. -/
def runningCluster (s : State) : Nat := match s.cpx.takeover with | some k => k.incoming | none => activeCluster s

/-- A lock-up's cause, as the model labels it. -/
def lockCode : LockCause → Nat
  | .noRetire => 0 | .doubleTrap => 1 | .fetchUncorrectable => 2

/-- LOCKUP: reset source 7. -/
def doLockup (core : Fin 4) (cause : LockCause) (pc : Nat) (s : State) : State :=
  let c := runningCluster s
  if awake s ∧ s.cpx.entry.isSome ∧ s.rbit R.CPX_CORES_ENABLED core c then
    sourceReset (raise s (0x4C60 + 4 * c + core) [c, core, Config.payloadCode 0x4C60 (lockCode cause), pc]) 7
  else s

def execLockup (core : Fin 4) (cause : LockCause) (pc : Nat) (s : State) : Out3 := .next (doLockup core cause pc s)

/-! ## Checkpoints (R427, R428) -/

/-- CHECKPOINT_DUE: interrupt source 40, in RESTORING and SERVING. -/
def doCheckpointDue (s : State) : State :=
  if (s.dev = .restoring ∨ s.dev = .serving) ∧ s.cpx.entry.isSome then
    { s with cpx := { s.cpx with ckDue := some s.now } }
  else s

def execCheckpointDue (s : State) : Out3 := .next (doCheckpointDue s)

/-- CHECKPOINT_GO: CPX_CKGO of the ACTIVE cluster. -/
def checkpointGo (s : State) : State :=
  if (s.dev = .restoring ∨ s.dev = .serving) ∧ s.cpx.entry.isSome ∧ s.cpx.takeover.isNone then
    let t := checkpoint s
    { t with cpx := { t.cpx with ckDue := none } }
  else s

def doCheckpointGo (s : State) : State :=
  if !awake s then s else
  checkpointGo s

def execCheckpointGo (s : State) : Out3 := .next (doCheckpointGo s)

/-- CHECKPOINT_MISS: no CKGO within one CKPERIOD of the source. -/
def doCheckpointMiss (s : State) : State :=
  if !awake s then s else
  if s.cpx.ckDue.isSome then
    let t := s.bump C.CPX_CKMISS
    raise t 0x4C00 [activeCluster s, t.ctr C.CPX_CKMISS]
  else s

def execCheckpointMiss (s : State) : Out3 := .next (doCheckpointMiss s)

/-! ## Takeovers (R430 to R433) -/

/-- ALIVE: step 6 of Table 14.4; the firmware-owned work that waited goes on (Table 14.5). -/
def alive (s : State) : State :=
  match s.cpx.takeover with
  | none => s
  | some k =>
    let t := takeoverDone s k
    let t := if k.ret then cmdDone t (ekey 0x2C01 1) else t
    runMapq (runWork t)

/-- ALIVE_WRITE: CPX_ALIVE.GO of the incoming cluster. -/
def doAliveWrite (s : State) : State :=
  if !awake s then s else
  alive s

def execAliveWrite (s : State) : Out3 := .next (doAliveWrite s)

/-- TAKEOVER_FAILURE (R432): the self-test failed (`late` false) or ALIVE did not come within 50 ms; a nested reset fails the
takeover by itself. -/
def doTakeoverFailure (late : Bool) (s : State) : State :=
  if !awake s then s else
  match s.cpx.takeover with
  | some k => complexFailed s k (b2n late)
  | none => s

def execTakeoverFailure (late : Bool) (s : State) : Out3 := .next (doTakeoverFailure late s)

/-- RETURN and CLEAR are recorded: command, cluster, result. -/
def switchEvent (s : State) (op c : Nat) (ok : Bool) : State := raise s 0x4CA0 [op, c, Config.payloadCode 0x4CA0 (b2n ok)]

/-- RETURN (R433): in SERVING, outside a takeover; a checkpoint at once, then Table 14.4 from step 2. -/
def returnGo (s : State) (cmd : Bool) : State :=
  let other := 1 - activeCluster s
  let ok := decide (s.dev = .serving) && s.cpx.takeover.isNone && s.cpx.entry.isSome
  let t := switchEvent s 1 other ok
  if ok then
    let t := if cmd then cmdRun t (ekey 0x2C01 1) else t
    let t := checkpoint (writeRecord t (activeCluster t) (bitClr (suspectFlags t) other))
    takeoverStart t (Config.payloadCode 0x4C20 1) true
  else if cmd then cmdFailFree t (ekey 0x2C01 1) else t

/-- RETURN_CMD: 0x2C01.01. -/
def doReturnCmd (s : State) : State := if awake s then returnGo s true else s

def execReturnCmd (s : State) : Out3 := .next (doReturnCmd s)

/-- CLEAR (R433): a SUSPECT cluster becomes STANDBY. -/
def clearGo (s : State) (c : Nat) (cmd : Bool) : State :=
  let ok := decide (c < 2) && bit (suspectFlags s) c && s.cpx.takeover.isNone
  let t := switchEvent s 2 c ok
  if ok then
    let t := writeRecord t (activeCluster t) (bitClr (suspectFlags t) c)
    if cmd then cmdDone t (ekey 0x2C01 2) else t
  else if cmd then cmdFailFree t (ekey 0x2C01 2) else t

/-- CLEAR_CMD: 0x2C01.02 with the cluster. -/
def doClearCmd (c : Fin 2) (s : State) : State := if awake s then clearGo s c true else s

def execClearCmd (c : Fin 2) (s : State) : Out3 := .next (doClearCmd c s)

/-! ## Interrupts and rings (R425, R426, R423) -/

/-- EVT_ACK_WRITE: the last sequence handled on line n + 1. -/
def doEvtAckWrite (n : Fin 32) (seq : Nat) (s : State) : State :=
  if awake s then s.wr64 R.EVT_ACKL R.EVT_ACKH seq n else s

def execEvtAckWrite (n : Fin 32) (seq : Nat) (s : State) : Out3 := .next (doEvtAckWrite n seq s)

/-- CPX_RINGTAIL.GO (R426): refused unless the QP is in RTR or RTS and TAIL lies from RINGTAIL to RINGHEAD. -/
def ringTailGo (s : State) : State :=
  let i := s.rd R.CPX_RINGTAIL_INDEX
  let v := s.rd R.CPX_RINGTAIL_TAIL
  let q := qpAt s i
  let n := max 1 q.ringslots
  let ahead := (v + n - q.ringtail) % n
  if serves q ∧ v < q.ringslots ∧ ahead ≤ ringUsed q then
    let gone := (List.range ahead).map (fun k => (q.ringtail + k) % n)
    let t := setQp s i { q with ringtail := v, slots := q.slots.keep (fun k => !gone.contains k) }
    (showDoorbell t i).wr R.CPX_RINGTAIL_REFUSED 0
  else s.wr R.CPX_RINGTAIL_REFUSED 1

/-- CPX_RINGTAIL_WRITE: INDEX, TAIL and GO. -/
def doCpxRingtailWrite (index : Nat) (tail : Nat) (s : State) : State :=
  if awake s then ringTailGo ((s.wr R.CPX_RINGTAIL_INDEX index).wr R.CPX_RINGTAIL_TAIL tail) else s

def execCpxRingtailWrite (index : Nat) (tail : Nat) (s : State) : Out3 := .next (doCpxRingtailWrite index tail s)

/-- The machine timer's interrupts follow from mtime and mtimecmp. -/
def showTimers (s : State) : State :=
  { s with cpx := { s.cpx with timerIrq := (List.range 4).foldl (fun a c =>
      bitPut a c (decide (s.cpx.mtimecmp.get c 0 ≤ s.cpx.mtime))) 0 } }

/-- MACHINE_TIMER_EXPIRY (R423): mtime has reached the core's mtimecmp. -/
def doMachineTimerExpiry (core : Fin 4) (s : State) : State :=
  if !awake s then s else
  if s.cpx.mtimecmp.get core 0 ≤ s.cpx.mtime then
    { s with cpx := { s.cpx with timerIrq := bitSet s.cpx.timerIrq core } }
  else s

def execMachineTimerExpiry (core : Fin 4) (s : State) : Out3 := .next (doMachineTimerExpiry core s)

end Sys2Proof.Machine
end

