-- ==== Sys2Proof/Machine/Dram.lean ====
section
/-! DEFINITION. The meanings of the DRAM channels', the groom's and the farrier's commands (chapter 10). -/

namespace Sys2Proof.Machine

/-! ## Lines, refresh, ranks (R309 to R317) -/

/-- LINE_READ_DONE (R314): a read of line `l` (tier D byte address / 64) with the errors given. -/
def doLineReadDone (l : Nat) (err : LineErr) (reader : LineReader) (s : State) : State :=
  if !awake s ∨ geometryBytes s ≤ 64 * l then s else readLine s l err reader

def execLineReadDone (l : Nat) (err : LineErr) (reader : LineReader) (s : State) : Out3 :=
  .next (doLineReadDone l err reader s)

/-- ROW_IDLE_CLOSE (R309): a bank's open row closes. -/
def doRowIdleClose (c : Fin 16) (bank : Fin 256) (s : State) : State :=
  if !awake s then s else setDrc s c { drcAt s c with opened := (drcAt s c).opened.del bank }

def execRowIdleClose (c : Fin 16) (bank : Fin 256) (s : State) : Out3 := .next (doRowIdleClose c bank s)

/-- REFRESH_DUE (R310): with requests waiting (`busy`) up to POSTPONE are postponed; otherwise it is issued with those owed. -/
def doRefreshDue (c : Fin 16) (rank : Fin 4) (busy : Bool) (s : State) : State :=
  if !awake s then s else
  if !s.running (42 + c) ∨ s.rbit R.DRC_SR_RANKSR rank c then s
  else
    let d := drcAt s c
    let n := d.postponed.get rank 0
    if busy ∧ n < s.rd R.DRC_REF_POSTPONE 0 c then
      setDrc s c { d with postponed := d.postponed.ins rank (n + 1) }
    else if busy then s.bump C.DRC_REFRESH 1 0 c
    else (setDrc s c { d with postponed := d.postponed.del rank }).bump C.DRC_REFRESH (n + 1) 0 c

def execRefreshDue (c : Fin 16) (rank : Fin 4) (busy : Bool) (s : State) : Out3 := .next (doRefreshDue c rank busy s)

/-- The ranks whose oscillator has moved by more than OSCTH since the last training. -/
def movedRank (s : State) (c : Nat) (osc : List Nat) : Option Nat :=
  (List.range osc.length).find? (fun r =>
    let a := osc.getD r 0
    let b := (drcAt s c).osc.get r a
    decide (s.rd R.DRC_OSC_OSCTH 0 c < max a b - min a b))

/-- SIDEBAND_READ (R310, R322): DIMM temperatures (TEMP16) and the ranks' oscillators; a retrain may be requested. -/
def doSidebandRead (c : Fin 16) (t0 t1 : BitVec 16) (osc : List Nat) (s : State) : State :=
  if !awake s then s else
  if !s.running (42 + c) then s
  else
    let t := (s.wr R.DRC_TEMP_DIMM0 t0.toNat 0 c).wr R.DRC_TEMP_DIMM1 t1.toNat 0 c
    let lim := 16 * (s.rd R.DRC_REF_HOTTHR 0 c : Nat)
    let hot := decide ((lim : Int) ≤ temp16 t0.toNat) || decide ((lim : Int) ≤ temp16 t1.toNat)
    let d := drcAt t c
    let t := setDrc t c { d with
      hot, osc := osc.zipIdx.foldl (fun m p => if m.has p.2 then m else m.ins p.2 p.1) d.osc }
    match t.dev, movedRank t c osc, d.retrain with
    | .serving, some r, none =>
      let u := setDrc t c { drcAt t c with retrain := some r }
      farAsk (farAsk u (768 + c) c) (768 + c) (48 + c)
    | _, _, _ => t

def execSidebandRead (c : Fin 16) (t0 t1 : BitVec 16) (osc : List Nat) (s : State) : Out3 :=
  .next (doSidebandRead c t0 t1 osc s)

/-- RANK_IDLE_SELF_REFRESH (R311): in Walk, with ENSR and ORDER not 1. -/
def doRankIdleSelfRefresh (c : Fin 16) (rank : Fin 4) (s : State) : State :=
  if s.dev = .serving ∧ s.rd R.GAI_CUR_CURRENT = 0 ∧ s.on R.DRC_SR_ENSR 0 c ∧ s.rd R.DRC_ADDRMAP_ORDER 0 c ≠ 1 ∧
      s.running (42 + c) ∧ !s.rbit R.DRC_SR_RANKSR rank c then
    (s.wbit R.DRC_SR_RANKSR rank true c).bump C.DRC_SRENTRY 1 0 c
  else s

def execRankIdleSelfRefresh (c : Fin 16) (rank : Fin 4) (s : State) : Out3 := .next (doRankIdleSelfRefresh c rank s)

/-- MARKWIN_HALVE (R317). -/
def doMarkwinHalve (c : Fin 16) (s : State) : State :=
  if !awake s then s else setDrc s c { drcAt s c with corr := (drcAt s c).corr.mapV (· / 2) }

def execMarkwinHalve (c : Fin 16) (s : State) : Out3 := .next (doMarkwinHalve c s)

/-! ## Training helpers (R321) -/

/-- Bit position and value fields of a burst in a channel address: the inverse of `burstGet`. -/
def burstPut (f : Nat → Nat) : Nat → List (Nat × Nat) → Nat
  | _, [] => 0
  | lsb, (m, w) :: fs => f m % 2 ^ w * 2 ^ lsb + burstPut f (lsb + w) fs

/-- The line that burst `k` of a helper operation touches: columns upward from 0, then the next row. -/
def trnLine (s : State) (c rank sub k : Nat) : Nat :=
  let fs := burstFields (s.rd R.DRC_ADDRMAP_ORDER 0 c) (s.rd R.DRC_ADDRMAP_ROWBITS 0 c) (s.rd R.DRC_ADDRMAP_RANKBITS 0 c)
  let col := k % 128
  let v := fun n => match n with
    | 0 => col | 1 => sub | 2 => s.rd R.DRC_TRNADDR_BG 0 c | 3 => s.rd R.DRC_TRNADDR_BANK 0 c
    | 4 => s.rd R.DRC_TRNADDR_ROW 0 c + k / 128 | 5 => rank | 6 => col % 8 | _ => col / 8
  unstripe s c (burstPut v 6 fs) / 64

/-- A helper operation starts, or is refused: OP 1, 2 and 4 outside RISING. The written pattern is no codeword of the line
code, so the lines it covers decode as uncorrectable. -/
def trnStart (s : State) (c op : Nat) : State :=
  let s := s.wr R.DRC_TRNCTL_OP op 0 c
  if s.on R.DRC_TRNSTAT_BUSY 0 c then s
  else if s.dev ≠ .rising ∧ op ≠ 3 then s.wr R.DRC_TRNSTAT_REFUSED 1 0 c
  else
    let rank := s.rd R.DRC_TRNCTL_RANK 0 c
    let sub := s.rd R.DRC_TRNCTL_SC 0 c
    let n := s.rd R.DRC_TRNCTL_COUNT 0 c
    let t := (List.range 80).foldl (fun u l => u.wr R.DRC_TRNERR 0 l c) s
    let t := ((t.wr R.DRC_TRNSTAT_REFUSED 0 0 c).wr R.DRC_TRNSTAT_BUSY 1 0 c)
    let t := if op = 1 then (List.range n).foldl (fun u k => lineUncorr u (trnLine s c rank sub k)) t else t
    setDrc t c { drcAt t c with trn := some [op, rank, sub, n] }

/-- TRAINING_OP_WRITE (R321). -/
def doTrainingOpWrite (c : Fin 16) (s : State) : State := if !awake s then s else trnStart s c 1
def execTrainingOpWrite (c : Fin 16) (s : State) : Out3 := .next (doTrainingOpWrite c s)

/-- TRAINING_OP_COMPARE (R321). -/
def doTrainingOpCompare (c : Fin 16) (s : State) : State := if !awake s then s else trnStart s c 2
def execTrainingOpCompare (c : Fin 16) (s : State) : Out3 := .next (doTrainingOpCompare c s)

/-- TRAINING_OP_MRR (R321). -/
def doTrainingOpMrr (c : Fin 16) (s : State) : State := if !awake s then s else trnStart s c 3
def execTrainingOpMrr (c : Fin 16) (s : State) : Out3 := .next (doTrainingOpMrr c s)

/-- TRAINING_OP_CA_LOOPBACK (R321). -/
def doTrainingOpCaLoopback (c : Fin 16) (s : State) : State := if !awake s then s else trnStart s c 4
def execTrainingOpCaLoopback (c : Fin 16) (s : State) : Out3 := .next (doTrainingOpCaLoopback c s)

/-- TRAINING_OP_DONE (R321): mismatches by lane, and the bursts with a mismatch. -/
def doTrainingOpDone (c : Fin 16) (lanes : List Nat) (bursts : Nat) (s : State) : State :=
  if !awake s then s else
  match (drcAt s c).trn with
  | none => s
  | some _ =>
    let t := (List.range 80).foldl (fun u l => u.wr R.DRC_TRNERR (min 65535 (lanes.getD l 0)) l c) s
    let fail := decide (bursts ≠ 0) || lanes.any (· ≠ 0)
    let t := ((t.wr R.DRC_TRNSTAT_FAIL (b2n fail) 0 c).wr R.DRC_TRNSTAT_ERRBURSTS (min 65535 bursts) 0 c).wr
      R.DRC_TRNSTAT_BUSY 0 0 c
    setDrc t c { drcAt t c with trn := none }

def execTrainingOpDone (c : Fin 16) (lanes : List Nat) (bursts : Nat) (s : State) : Out3 :=
  .next (doTrainingOpDone c lanes bursts s)

/-- RETRAIN_DONE (R322): the rank's new delays are its trained bases; a failure raises 0x2C80 + c. `delays` are the write and
read delays of the rank's lanes that the retrain leaves. -/
def doRetrainDone (c : Fin 16) (ok : Bool) (osc : Nat) (delays : List (Nat × Nat)) (s : State) : State :=
  if !awake s then s else
  match (drcAt s c).retrain with
  | none => s
  | some r =>
    if farHolds s (768 + c) [c.val, 48 + c.val] then
      let d := drcAt s c
      let t := setDrc s c { d with retrain := none, osc := if ok then d.osc.ins r osc else d.osc }
      let t := if ok then delays.zipIdx.foldl (fun u p =>
          if p.2 < 80 then
            let u := (u.wr R.DRC_WRDLY p.1.1 (80 * r + p.2) c).wr R.DRC_RDDLY p.1.2 (80 * r + p.2) c
            { u with cal := { u.cal with
              base := (u.cal.base.ins (delayOff c r p.2 0) (((p.1.1 % 1024 : Nat) : Int) - u.cal.corr.get (delayOff c r p.2 0) 0)).ins
                (delayOff c r p.2 1) (((p.1.2 % 1024 : Nat) : Int) - u.cal.corr.get (delayOff c r p.2 1) 0) } }
          else u) t
        else raise t (0x2C80 + c) [Config.payloadCode 0x2C80 9, r]
      farDrop t (768 + c)
    else s

def execRetrainDone (c : Fin 16) (ok : Bool) (osc : Nat) (delays : List (Nat × Nat)) (s : State) : Out3 :=
  .next (doRetrainDone c ok osc delays s)

/-! ## The groom (R323, R324) -/

/-- Every channel has been read: the pass ends, and the next begins. -/
def groomPass (s : State) : State :=
  if (List.range 16).all (fun c => decide (channelLines s ≤ (grmAt s c).next)) then
    let n := s.rd R.GRM_PASSES_PASSES + 1
    let t := raise (s.wr R.GRM_PASSES_PASSES n) 0x3000
      [n, (s.now - s.grm.passStart) / 3600000000, s.grm.corrected, s.grm.uncorr]
    let t : State := { t with grm := { t.grm with
      ch := t.grm.ch.mapV (fun g => { g with next := 0, floorPass := false })
      passStart := t.now, corrected := 0, uncorr := 0 } }
    showGroom t
  else s

/-- Must the groom let the ranks of its next burst sleep: one is in self-refresh, and the floor rate does not require the burst (R311)? -/
def groomSleeps (s : State) (c : Nat) : Bool :=
  let g := grmAt s c
  (List.range 64).any (fun i => s.rbit R.DRC_SR_RANKSR (burstOf s c (64 * (g.next + i))).rank c) && !g.atFloor

/-- GROOM_BURST (R323): the next 64 lines of a channel, under the channel's token; `errs` gives the errors of its lines. -/
def doGroomBurst (c : Fin 16) (errs : List LineErr) (s : State) : State :=
  if s.dev = .serving ∧ s.running 19 ∧ farHolds s (384 + c) [c.val] ∧ (grmAt s c).next < channelLines s ∧ !groomSleeps s c then
    let n := (grmAt s c).next
    let t := (List.range 64).foldl (fun u i => readLine u (unstripe u c (64 * (n + i)) / 64) (errs.getD i []) .groom) s
    let t := setGrm t c { grmAt t c with next := n + 64 }
    farYield (groomPass (showGroom t)) (384 + c) c
  else s

def execGroomBurst (c : Fin 16) (errs : List LineErr) (s : State) : Out3 := .next (doGroomBurst c errs s)

/-- GROOM_RATE_RECOMPUTE (R324). -/
def doGroomRateRecompute (s : State) : State :=
  if !awake s then s else
  if !s.running 19 then s
  else
    let gm := (rowInForce s 19).groommul
    let t := (List.range 16).foldl (fun u c =>
      let mul := if u.on R.GRM_ADAPT_FREEZE then max 1 (grmAt u c).mul
        else min (u.rd R.GRM_ADAPT_MAXMUL) (1 + (recentCes u c).length / max 1 (u.rd R.GRM_ADAPT_CETH))
      setRate u c gm mul) s
    showGroom { t with grm := { t.grm with lastCalc := t.now } }

def execGroomRateRecompute (s : State) : Out3 := .next (doGroomRateRecompute s)

/-! ## The farrier (R326 to R328) -/

/-- FARRIER_REQUEST (R326). -/
def doFarrierRequest (owner : Nat) (res : List Nat) (s : State) : State :=
  if !awake s ∨ !ownerOk owner then s
  else (res.filter (fun n => decide (n < 122))).foldl (fun t n => farAsk t owner n) s

def execFarrierRequest (owner : Nat) (res : List Nat) (s : State) : Out3 := .next (doFarrierRequest owner res s)

/-- FARRIER_RELEASE (R327): at its release point, where a higher code waits, the holder requests the resource again. A
rehearsal that releases at its release point is abandoned. -/
def doFarrierRelease (owner : Nat) (res : Nat) (s : State) : State :=
  if !awake s ∨ !(s.far.held.find? res = some owner) then s
  else if higherWaits s owner res then
    let t := if actCode owner = 4 then (endRehearsal s).wr R.SAV_STAT_PHASE 0 else s
    farAsk (farRelease t owner res) owner res
  else farRelease s owner res

def execFarrierRelease (owner : Nat) (res : Nat) (s : State) : Out3 := .next (doFarrierRelease owner res s)

/-- WAITREL_EXPIRY (R328): an activity that holds a token and has waited WAITREL releases all, event 0x3060; a calibration run
loses what it has done (R417). -/
def doWaitrelExpiry (owner : Nat) (s : State) : State :=
  if !awake s then s else
  match heldBy s owner, s.far.waits.find? (fun w => w.owner = owner) with
  | h :: hs, some w =>
    let all := (h :: hs) ++ (s.far.waits.filter (fun x => x.owner = owner)).map (·.res) ++ s.far.asking.get owner []
    let t := farDrop s owner
    let sorted := (List.range 122).filter (fun n => all.contains n)
    let t := raise { t with far := { t.far with retry := t.far.retry.ins owner sorted } } 0x3060 [owner, h, w.res]
    if owner = 640 ∧ s.cal.run.isSome then raise t 0x48A0 [Config.payloadCode 0x48A0 0] else t
  | _, _ => s

def execWaitrelExpiry (owner : Nat) (s : State) : Out3 := .next (doWaitrelExpiry owner s)

/-- RETRYGAP_EXPIRY (R328): the tokens are requested again one at a time, ascending. -/
def doRetrygapExpiry (owner : Nat) (s : State) : State :=
  if !awake s then s else
  match s.far.retry.find? owner with
  | none => s
  | some ns =>
    farAskNext 128 owner { s with far := { s.far with
      retry := s.far.retry.del owner, asking := s.far.asking.ins owner ns } }

def execRetrygapExpiry (owner : Nat) (s : State) : Out3 := .next (doRetrygapExpiry owner s)

end Sys2Proof.Machine
end

