-- ==== Sys2Proof/Machine/Gait.lean ====
section
/-! DEFINITION. The meanings of the gait and quiet-point commands (R23 to R36, R60 to R63). -/

namespace Sys2Proof.Machine

/-! ## Requests and quiet points -/

/-- The requested gait 0x1100.03, which GAI_REQ.GAIT holds, and the request. -/
def askGait (s : State) (g : Nat) : State × Bool :=
  let (t, ok) := gaitRequest s g
  (if ok then t.wr R.GAI_REQ_GAIT g else t, ok)

/-- GAIT_REQUEST (R23, R28, R30). -/
def doGaitRequest (g : Fin 6) (s : State) : State := (askGait s g).1

def execGaitRequest (g : Fin 6) (s : State) : Out3 := .next (doGaitRequest g s)

/-- QUIET_POINT_TAKE (R60, R63): block `n` takes its shadows and the gait row that waits for it. -/
def doQuietPointTake (block : Fin 58) (s : State) : State :=
  if s.dev = .off ∨ (s.rst.held ∧ block.val ≠ 12 ∧ block.val ≠ 13 ∧ block.val ≠ 14) then s
  else
    let t := gaitTake (quietPoint s block) block
    if block.val = 23 then tieQuiet t else t

def execQuietPointTake (block : Fin 58) (s : State) : Out3 := .next (doQuietPointTake block s)

/-- The QUIET bound of block `n` in µs (Table 2.12); none for RST. -/
def quietBound (n : Nat) : Nat :=
  [2, 1000, 1, 5000, 1000, 10000, 10000, 10, 50, 1, 1000, 20, 1000, 0, 20, 1000, 10000, 1000, 10000, 10, 1, 1000, 1000, 500, 2,
   1].getD n (if n ≤ 29 then 2 else if n ≤ 33 then 5 else if n ≤ 41 then 200 else 10)

/-- QUIET_BOUND_EXPIRY (R62): a shadow is still pending past the bound, which counts only while its further condition holds (R60). -/
def doQuietBoundExpiry (block : Fin 58) (s : State) : State :=
  if s.on R.BLKSTAT_SHADOWPEND 0 block ∧ !s.on R.BLKSTAT_QUIETLATE 0 block ∧
      s.rf.shadow.any (fun e => decide (keyBlock e.1 = block.val) && mayTake s e.1) then
    raise (s.wr R.BLKSTAT_QUIETLATE 1 0 block) 0x08A0 [block, quietBound block, s.since (s.rf.since.get block s.now)]
  else s

def execQuietBoundExpiry (block : Fin 58) (s : State) : Out3 := .next (doQuietBoundExpiry block s)

/-! ## The edit shadow (R26, R31, R36) -/

/-- An offer of row `g` is refused at a field: its place in Table 1.8 and its value. -/
def refuseRow (s : State) (g : Nat) (p : Nat × Nat) : State :=
  raise ((s.wr R.GAI_STATUS_ROW_REFUSED 1).wr R.GAI_STATUS_REFROW g) 0x04C0 [g, Config.payloadCode 0x04C0 p.1, p.2]

/-- A word of GAI_ROW[g] as the edit shadow holds it. -/
def editWord (s : State) (g w : Nat) : Nat :=
  rowFields.foldl (fun a F => if F.off = 0x100 + 4 * w then a + editVal s F g * 2 ^ F.lsb else a) 0

/-- The words that a write of word 3 offers: the held ones, else those of the edit shadow. -/
def offeredWord (s : State) (g v w : Nat) : Nat := if w = 3 then v else s.gai.held.get (4 * g + w) (editWord s g w)

/-- A row of fields goes into the edit shadow. -/
def editPut (s : State) (g : Nat) (f : Fld → Nat) : State :=
  { s with gai := { s.gai with edit := rowFields.foldl (fun m F => m.ins (F.key g 0) (f F)) s.gai.edit } }

/-- A control-space write of word `w` of GAI_ROW[g] (R36): words 0 to 2 are held, word 3 offers the row. -/
def rowWrite (s : State) (g w v : Nat) : State :=
  if w < 3 then { s with gai := { s.gai with held := s.gai.held.ins (4 * g + w) v } }
  else
    let f := fun (F : Fld) => bits (offeredWord s g v ((F.off - 0x100) / 4)) F.lsb F.wid
    let t : State := { s with gai := { s.gai with held := s.gai.held.keep (fun k => k / 4 ≠ g) } }
    match rowRefusal f with
    | some p => refuseRow t g p
    | none => (editPut t g f).wr R.GAI_STATUS_ROW_REFUSED 0

/-- GAI_ROW_WORD3_WRITE (R36). -/
def doGaiRowWord3Write (g : Fin 6) (v : Nat) (s : State) : State := if awake s then rowWrite s g 3 (v % 2 ^ 32) else s

def execGaiRowWord3Write (g : Fin 6) (v : Nat) (s : State) : Out3 := .next (doGaiRowWord3Write g v s)

/-- The fields of entry `k` + 1 of a row (Table 1.7's order), each with its place in the entry's value. -/
def entryFields (k : Nat) : List (Fld × Nat) :=
  match k with
  | 0 => [(R.GAI_ROW_DIVSET, 0)] | 1 => [(R.GAI_ROW_LANES, 0)] | 2 => [(R.GAI_ROW_DIRTYFRAC, 0)]
  | 3 => [(R.GAI_ROW_CLEANRATE, 0)] | 4 => [(R.GAI_ROW_GROOMMUL, 4)] | 5 => [(R.GAI_ROW_MSWEIGHT, 0)]
  | 6 => [(R.GAI_ROW_WH, 20), (R.GAI_ROW_WM, 16), (R.GAI_ROW_WT, 12), (R.GAI_ROW_WS, 8), (R.GAI_ROW_WG, 4), (R.GAI_ROW_WC, 0)]
  | 7 => [(R.GAI_ROW_PPBIAS, 0)] | 8 => [(R.GAI_ROW_MIGRATE, 0)] | 9 => [(R.GAI_ROW_PWRCAP, 0)]
  | _ => []

/-- The value of an entry, read through `f`. -/
def entryValue (f : Fld → Nat) (k : Nat) : Nat := (entryFields k).foldl (fun a p => a + f p.1 * 2 ^ p.2) 0

/-- Does the edit shadow belong to another session (R55)? -/
def editBusy (s : State) (sess : Nat) : Bool := match s.gai.owner with | some o => decide (o ≠ sess) | none => false

/-- A dictionary write of one entry of row `g`: bits that carry no field must be 0, each field within its own limits. Answers
the item status. -/
def editField (s : State) (sess g k v : Nat) : State × Nat :=
  if editBusy s sess then (s, stBusy)
  else
    let f := fun (p : Fld × Nat) => bits v p.2 p.1.wid
    if (entryFields k).isEmpty ∨ (entryFields k).foldl (fun a p => a + f p * 2 ^ p.2) 0 ≠ v ∨
        (entryFields k).any (fun p => !p.1.lim.ok (f p)) then (s, stRange)
    else
      ({ s with gai := { s.gai with
          owner := some sess
          edit := (entryFields k).foldl (fun m p => m.ins (p.1.key g 0) (f p)) s.gai.edit } }, stOk)

/-- GAIT_EDIT_FIELD_WRITE (R26, R34): entry `k` + 1 of row `g`. -/
def doGaitEditFieldWrite (sess : Nat) (g : Fin 6) (k : Fin 10) (v : Nat) (s : State) : State :=
  if awake s then (editField s sess g k v).1 else s

def execGaitEditFieldWrite (sess : Nat) (g : Fin 6) (k : Fin 10) (v : Nat) (s : State) : Out3 :=
  .next (doGaitEditFieldWrite sess g k v s)

/-- A commit of the edit shadow (R31). Answers whether it was accepted. -/
def gaitCommit (s : State) : State × Bool :=
  match (List.range 6).findSome? (fun g => (rowRefusal (fun F => editVal s F g)).map (fun p => (g, p))) with
  | some (g, p) => (refuseRow s g p, false)
  | none =>
    let old := committedRow s (s.rd R.GAI_CUR_CURRENT)
    let t := (List.range 6).foldl (fun u g => rowFields.foldl (fun v F => v.wr F (editVal s F g) g) u) s
    let t : State := { t with gai := { t.gai with edit := [], owner := none } }
    let t := t.wr R.GAI_STATUS_ROW_REFUSED 0
    let g := t.rd R.GAI_CUR_CURRENT
    (if committedRow t g = old then t else (gaitRequest t g).1, true)

/-- GAIT_TABLE_COMMIT: GAI_SHADOW.COMMIT, or command 0x1100.08 of a session. -/
def doGaitTableCommit (sess : Option Nat) (s : State) : State :=
  if !awake s then s
  else
    match sess with
    | none => (gaitCommit s).1
    | some n =>
      if editBusy s n then s
      else
        let (t, ok) := gaitCommit s
        if ok then cmdDone t (ekey 0x1100 8) else cmdFail t (ekey 0x1100 8) stRange

def execGaitTableCommit (sess : Option Nat) (s : State) : Out3 := .next (doGaitTableCommit sess s)

/-- The vendor default rows, Table 1.7's whatever the image (log entry 151), go into the edit shadow (R34, R36). -/
def gaitDefaults (s : State) : State := (List.range 6).foldl (fun t g => editPut t g (fun F => F.dflt g)) s

/-- GAIT_LOAD_DEFAULTS: GAI_SHADOW.LOADDEF, or command 0x1100.09 of a session. -/
def doGaitLoadDefaults (sess : Option Nat) (s : State) : State :=
  if !awake s then s
  else
    match sess with
    | none => gaitDefaults s
    | some n =>
      if editBusy s n then s
      else
        let t := gaitDefaults s
        cmdDone { t with gai := { t.gai with owner := some n } } (ekey 0x1100 9)

def execGaitLoadDefaults (sess : Option Nat) (s : State) : Out3 := .next (doGaitLoadDefaults sess s)

end Sys2Proof.Machine
end

