-- ==== Sys2Proof/Machine/Governor.lean ====
section
/-! DEFINITION. The meanings of the governor's and the energy store's commands (R248 to R257). -/

namespace Sys2Proof.Machine

/-! ## The governor -/

/-- GOV acts by its state; in SAVE it starts a governor save (R257). -/
def govAct (s : State) : State :=
  if s.rd R.GOV_STAT_STATE = 3 then
    let t := powerDown s .governor
    if s.dev ≠ .saving ∧ t.dev = .saving then
      raise t 0x2040 [pagesMib (govD s), s.gov.ceil / 1048576, s.rd R.GOV_EAVAIL_J]
    else t
  else s

/-- A computation of C and L, and what follows from it. -/
def govStep (s : State) : State := govAct (showGate (govCompute (showErased s)))

/-- GOV acts by its state as D moves between its computations (Table 8.2). -/
def govFollow (s : State) : State :=
  if awake s ∧ s.running 21 ∧ s.gov.computed ∧ !s.rst.held then govAct (govShow s) else s

/-- Does a module's reading lie outside 0.5 % to 99.5 % of the 20 V full scale (R254)? -/
def readingOut (mv : Nat) : Bool := decide (mv < 100) || decide (19900 < mv)

/-- Module `m` is FAILED (R254): event 0x2020 + m with its last good reading. -/
def markFailed (s : State) (m reading : Nat) : State :=
  if s.rbit R.GOV_CTL_MODEN m ∧ !s.rbit R.GOV_STAT_FAILED m then
    raise (s.wbit R.GOV_STAT_FAILED m true) (0x2020 + m) [m, s.rd R.GOV_VMOD m, reading]
  else s

/-- Modules whose reading is out of range are FAILED (R254). -/
def markOut (vmod : List Nat) (s : State) : State :=
  (List.range 8).foldl (fun u m => match vmod[m]? with
    | some x => if readingOut x then markFailed u m x else u
    | none => u) s

/-- The readings of a tick are taken: modules out of range, voltages, with RBLEED 0 the nominal capacitances (R252), and
which modules have been read. -/
def govRead (vmod : List Nat) (s : State) : State :=
  let t := setVmod (markOut vmod s) vmod
  let t := if t.rd R.GOV_RBLEED_RBLEED = 0 then
      (List.range 8).foldl (fun u m => u.wr R.GOV_CMEAS (u.rd R.GOV_CNOM_CNOM) m) t
    else t
  let read := (List.range 8).foldl (fun a m => if m < vmod.length then bitSet a m else a) t.gov.readMask
  { t with gov := { t.gov with readMask := read } }

/-- GOV_TICK (R253): the modules' readings arrive; C, L and the state follow. -/
def doGovTick (vmod : List Nat) (s : State) : State :=
  if awake s ∧ s.running 21 ∧ !s.rst.held then govStep (govRead vmod s) else s

def execGovTick (vmod : List Nat) (s : State) : Out3 := .next (doGovTick vmod s)

/-- MODULE_FAILED (R254): a reading out of range, or more than STEPDV below the last one: the module is FAILED, and C and L are computed at
once. -/
def doModuleFailed (m : Fin 8) (reading : Nat) (s : State) : State :=
  if awake s ∧ s.running 21 ∧ s.rbit R.GOV_CTL_MODEN m ∧ !s.rbit R.GOV_STAT_FAILED m ∧
      (readingOut reading ∨ s.rd R.GOV_STEP_STEPDV < s.rd R.GOV_VMOD m - reading) then
    govStep ((markFailed s m reading).wr R.GOV_VMOD reading m)
  else s

def execModuleFailed (m : Fin 8) (reading : Nat) (s : State) : Out3 := .next (doModuleFailed m reading s)

/-! ## Capacitance tests (R252) -/

/-- May module `m` be tested now: a bleed resistor, the module enabled, no test running, SERVING or RESTORING? -/
def testable (s : State) (m : Nat) : Bool :=
  decide (s.rd R.GOV_RBLEED_RBLEED ≠ 0) && s.rbit R.GOV_CTL_MODEN m && s.gov.test.isNone && s.running 21 &&
  (decide (s.dev = .serving) || decide (s.dev = .restoring))

/-- The test of module `m` starts, in SERVING under the sensor bus's token: the charger is off, the module bleeds. -/
def testStart (s : State) (m : Nat) : State :=
  let t := if s.dev = .serving then farAsk s 0 121 else s
  if s.dev = .restoring ∨ farHolds t 0 [121] then
    let t : State := { t with gov := { t.gov with test := some m }, pwr := { t.pwr with bleed := 2 ^ m } }
    (t.wr R.GOV_STAT_TESTING 1).wr R.PWR_INSTAT_CHGEN 0
  else t

/-- CAPACITANCE_TEST_START: a periodic, restore-time or back-in-range test. -/
def doCapacitanceTestStart (m : Fin 8) (s : State) : State := if testable s m then testStart s m else s

def execCapacitanceTestStart (m : Fin 8) (s : State) : Out3 := .next (doCapacitanceTestStart m s)

/-- CAPACITANCE_TEST_CMD (0x2611.02): a test of module `arg`; FAILED where it cannot run. -/
def doCapacitanceTestCmd (arg : Nat) (s : State) : State :=
  if !awake s then s
  else if arg < 8 ∧ testable s arg ∧ !s.gov.testCmd then
    let t := cmdRun s (ekey 0x2611 2)
    testStart { t with gov := { t.gov with testCmd := true } } arg
  else cmdFailFree s (ekey 0x2611 2)

def execCapacitanceTestCmd (arg : Nat) (s : State) : Out3 := .next (doCapacitanceTestCmd arg s)

/-- ln of v0 / v1 in units of 2^-64, for v1 ≤ v0 and v1 not 0: powers of two, then twice the inverse hyperbolic tangent. -/
def lnSeries (z2 : Nat) : Nat → Nat → Nat → Nat
  | 0, _, _ => 0
  | n + 1, k, term => term / k + lnSeries z2 n (k + 2) (term * z2 / 2 ^ 64)

/-- As `lnSeries` describes. -/
def lnRatio (v0 v1 : Nat) : Nat :=
  let k := Nat.log2 (v0 / v1)
  let w := v1 * 2 ^ k
  let z := (v0 - w) * 2 ^ 64 / (v0 + w)
  k * 12786308645202655660 + 2 * lnSeries (z * z / 2 ^ 64) 40 1 z

/-- CMEAS in mF, rounded down (log entry 26); voltages that do not fall give no stated value. -/
def capMeasured (s : State) (v0 v1 : Nat) : Nat :=
  if v1 = 0 ∨ v0 ≤ v1 ∨ lnRatio v0 v1 = 0 then Config.unstated 0x20C0 [v0, v1] % 2 ^ 32
  else 1000 * s.rd R.GOV_CAPTEST_TESTMS * 2 ^ 64 / (s.rd R.GOV_RBLEED_RBLEED * lnRatio v0 v1)

/-- CAPACITANCE_TEST_END: CMEAS from V0 and V1; a result of at least 0.8 × CNOM ends FAILED where the input is back in range (R254), a lower one
is reported. -/
def doCapacitanceTestEnd (v0 v1 : Nat) (s : State) : State :=
  match s.gov.test with
  | none => s
  | some m =>
    let c := capMeasured s v0 v1
    let cmd := s.gov.testCmd
    let t : State := { s with gov := { s.gov with
                                test := none, testCmd := false, testMask := bitSet s.gov.testMask m, lastTest := s.now }
                              pwr := { s.pwr with bleed := 0 } }
    let t := ((t.wr R.GOV_STAT_TESTING 0).wr R.PWR_INSTAT_CHGEN (b2n s.pwr.chg)).wr R.GOV_CMEAS c m
    let pass := decide (8 * s.rd R.GOV_CNOM_CNOM ≤ 10 * c)
    let t := if pass then (if readingOut v1 then t else t.wbit R.GOV_STAT_FAILED m false) else raise t (0x2080 + m) [m, c, s.rd R.GOV_CNOM_CNOM]
    let t := raise t 0x20C0 [m, v0, v1, c]
    let t := govStep (farRelease t 0 121)
    if cmd then cmdDone t (ekey 0x2611 2) else t

def execCapacitanceTestEnd (v0 v1 : Nat) (s : State) : Out3 := .next (doCapacitanceTestEnd v0 v1 s)

end Sys2Proof.Machine
end

