-- ==== Sys2Proof/Machine/Keeper.lean ====
section
/-! DEFINITION. The meanings of the keeper flash commands: the request queue (R362, R364) and the service core's fetches
(R361). -/

namespace Sys2Proof.Machine

/-! ## The queue (Table 11.12) -/

/-- The oldest request completes with a status: 0 OK, 1 REFUSED_REGION, 2 REFUSED_OP, 3 FAIL. -/
def kpfDone (s : State) (q : KpfReq) (status : Nat) : State :=
  let t : State := { s with kpf := { s.kpf with
    queue := s.kpf.queue.drop 1, busy := false, prog := false, done := s.kpf.done ++ [(q.tag, status)] } }
  let t := if status = 1 ∨ status = 2 then raise t 0x3860 [q.kaddr, q.op, status]
    else if status = 3 then (raise t 0x3840 [q.kaddr, q.op]).bump C.KPF_FAILS
    else t
  showKpf t

/-- Requests at the front whose OP is none of Table 11.12's are refused. -/
def kpfSkip : Nat → State → State
  | 0, s => s
  | n + 1, s =>
    match s.kpf.queue with
    | q :: _ => if s.kpf.busy then s else if q.op = 0 ∨ 3 < q.op then kpfSkip n (kpfDone s q 2) else s
    | [] => s

/-- KPF_QCTL.PUSH: the descriptor of KPF_QDESC0 to KPF_QDESC3 is queued; ignored with 16 queued. -/
def kpfPush (s : State) : State :=
  if s.kpf.queue.length < 16 then
    let q0 := s.rd R.KPF_QDESC 0 + 2 ^ 32 * s.rd R.KPF_QDESC 1
    let q1 := s.rd R.KPF_QDESC 2 + 2 ^ 32 * s.rd R.KPF_QDESC 3
    let q : KpfReq :=
      { op := bits q0 60 4, len := bits q0 48 12 + 1, tag := bits q0 32 16, kaddr := bits q0 0 28, buf := bits q1 0 43 }
    let t : State := { s with kpf := { s.kpf with queue := s.kpf.queue ++ [q] } }
    kpfSkip 17 (showKpf (t.bump C.KPF_REQS))
  else s

/-- KPF_QCTL.TAKE: the oldest completion goes. -/
def kpfTake (s : State) : State := showKpf { s with kpf := { s.kpf with done := s.kpf.done.drop 1 } }

/-- Does the range touch the commit records or a boot slot (R362)? -/
def kpfGuarded (off n : Nat) : Bool :=
  (decide (off < 0xC0000) && decide (0x80000 < off + n)) || (decide (off < 0x1C00000) && decide (0x400000 < off + n))

/-- The erase sector that holds an address: first byte and size. -/
def kpfSector (s : State) (kaddr : Nat) : Nat × Nat :=
  let n := 2 ^ s.kpf.sfdpSector
  (kaddr / n * n, n)

/-- The oldest request, where its OP is `op`, KPF runs and no operation is under way. -/
def kpfHead (s : State) (op : Nat) : Option KpfReq :=
  match s.kpf.queue with
  | q :: _ => if s.dev ≠ .off ∧ s.takes 17 ∧ !s.kpf.busy ∧ q.op = op then some q else none
  | [] => none

/-- The part's bytes, 2^26 times the density code's power of two. -/
def kpfBytes (s : State) : Nat := 2 ^ (26 + s.kpf.sfdpDensity)

/-- A byte that a READ gives: the part's content; past the part's end the spec states none (log entry 9). -/
def kpfReadByte (s : State) (off : Nat) : Nat :=
  if off < kpfBytes s then kbyte s off else Config.unstated 40 [off] % 256

/-- KEEPER_READ: refused with a buffer outside the reserved groups (R222); the bytes go to tier D; KEEPER_OP_DONE completes the request. -/
def doKeeperRead (s : State) : State :=
  match kpfHead s 1 with
  | none => s
  | some q =>
    if !inReserved s q.buf q.len then kpfSkip 17 (kpfDone s q 2)
    else
    let t : State := { s with kpf := { s.kpf with busy := true } }
    if awake s then dWrite t q.buf ((List.range q.len).map (fun i => kpfReadByte s (q.kaddr + i))) else t

def execKeeperRead (s : State) : Out3 := .next (doKeeperRead s)

/-- KEEPER_PROGRAM: refused past a page boundary, with a buffer outside the reserved groups (R222), or in a guarded region, else under way. -/
def doKeeperProgram (s : State) : State :=
  match kpfHead s 2 with
  | none => s
  | some q =>
    if 256 < q.kaddr % 256 + q.len ∨ !inReserved s q.buf q.len then kpfSkip 17 (kpfDone s q 2)
    else if kpfGuarded q.kaddr q.len then kpfSkip 17 (kpfDone s q 1)
    else { s with kpf := { s.kpf with busy := true, prog := true } }

def execKeeperProgram (s : State) : Out3 := .next (doKeeperProgram s)

/-- KEEPER_ERASE: refused where the sector touches a guarded region, else under way. -/
def doKeeperErase (s : State) : State :=
  match kpfHead s 3 with
  | none => s
  | some q =>
    let x := kpfSector s q.kaddr
    if kpfGuarded x.1 x.2 then kpfSkip 17 (kpfDone s q 1)
    else { s with kpf := { s.kpf with busy := true, prog := true } }

def execKeeperErase (s : State) : Out3 := .next (doKeeperErase s)

/-- What a program or erase that the part failed leaves in its range: no content is stated (log entry 9). -/
def kpfSpoil (s : State) (off n : Nat) : State :=
  (List.range n).foldl (fun t i => kprog t (off + i) [Config.unstated 41 [s.now, off + i]]) (kerase s off n)

/-- KEEPER_OP_DONE: the operation under way completes; `ok` false: the part reported a failure. -/
def doKeeperOpDone (ok : Bool) (s : State) : State :=
  match s.kpf.queue with
  | [] => s
  | q :: _ =>
    if !s.kpf.busy then s
    else
      let x := kpfSector s q.kaddr
      let t :=
        if q.op = 2 then
          if ok then kprog s q.kaddr (areaRead s q.buf q.len) else kpfSpoil s q.kaddr q.len
        else if q.op = 3 then
          if ok then kerase s x.1 x.2 else kpfSpoil s x.1 x.2
        else s
      kpfSkip 17 (kpfDone t q (if ok then 0 else 3))

def execKeeperOpDone (ok : Bool) (s : State) : Out3 := .next (doKeeperOpDone ok s)

/-- KPF_COMPLETION_TAKE. -/
def doKpfCompletionTake (s : State) : State := if s.dev = .off then s else kpfTake s

def execKpfCompletionTake (s : State) : Out3 := .next (doKpfCompletionTake s)

/-! ## Execute in place (R361) -/

/-- XIP_FETCH_MISS: the service core fetches 32-byte line `line`. A line in the buffer or the cache is a hit (a hit in the
cache becomes its newest); a miss reads it, prefetches the next four, and suspends a program or erase that runs. The target
of a fetch that does not follow the last one goes to the branch cache of 16. -/
def doXipFetchMiss (line : BitVec 23) (s : State) : State :=
  if s.dev = .off then s
  else
    let l := line.toNat
    let jump := l ≠ s.kpf.lastLine ∧ l ≠ s.kpf.lastLine + 1
    let inBuf := s.kpf.prefetch.contains l
    let inCache := s.kpf.branch.contains l
    let branch := if inCache ∨ jump then (l :: s.kpf.branch.filter (fun x => x ≠ l)).take 16 else s.kpf.branch
    let t : State := { s with kpf := { s.kpf with lastLine := l, branch := branch } }
    if inBuf then t.bump C.KPF_PFHIT
    else if inCache then t.bump C.KPF_BCHIT
    else
      let t : State := { t with kpf := { t.kpf with prefetch := (List.range 4).map (fun i => l + 1 + i) } }
      let t := t.bump C.KPF_XIPMISS
      if s.kpf.prog ∨ s.kpf.erasing then t.bump C.KPF_SUSPENDS else t

def execXipFetchMiss (line : BitVec 23) (s : State) : Out3 := .next (doXipFetchMiss line s)

end Sys2Proof.Machine
end

