-- ==== Sys2Proof/Machine/Keys.lean ====
section
/-! DEFINITION. The meanings of the key engine's commands (R457 to R464, R470). -/

namespace Sys2Proof.Machine

/-! ## The queue (R463, Table 15.3) -/

/-- 64-bit word `n` of a descriptor of eight 32-bit words. -/
def keyWord (d : List Nat) (n : Nat) : Nat := d.getD (2 * n) 0 + 2 ^ 32 * d.getD (2 * n + 1) 0

/-- Fields of a descriptor. -/
def keyOp (d : List Nat) : Nat := bits (keyWord d 0) 60 4
def keyMode (d : List Nat) : Nat := bits (keyWord d 0) 58 2
def keySlot (d : List Nat) : Nat := bits (keyWord d 0) 46 12
def keyLen (d : List Nat) : Nat := bits (keyWord d 0) 29 17
def keyKlen (d : List Nat) : Nat := bits (keyWord d 0) 27 2
def keyTag (d : List Nat) : Nat := bits (keyWord d 0) 0 16
def keySrc (d : List Nat) : Nat := bits (keyWord d 1) 0 43
def keyDst (d : List Nat) : Nat := bits (keyWord d 2) 0 43
def keyDslot (d : List Nat) : Nat := bits (keyWord d 3) 52 12
def keyIv (d : List Nat) : Nat := bits (keyWord d 3) 0 43

/-- KEY_STAT.QDEPTH and KEY_QSTAT show the queue and the oldest completion. -/
def showKeys (s : State) : State :=
  let t := s.wr R.KEY_STAT_QDEPTH s.key.queue.length
  let c := s.key.done.headD (0, 0)
  ((t.wr R.KEY_QSTAT_VALID (b2n !s.key.done.isEmpty)).wr R.KEY_QSTAT_TAG c.1).wr R.KEY_QSTAT_STATUS c.2

/-- The oldest descriptor completes with a status; a refusal raises event 0x5800. -/
def keyDone (s : State) (d : List Nat) (status : Nat) : State :=
  let t : State := { s with key := { s.key with queue := s.key.queue.drop 1, done := s.key.done ++ [(keyTag d, status)] } }
  let t := if status = 0 then t
    else raise t 0x5800 [keyOp d, if keyOp d ≤ 3 ∨ keyOp d = 6 then keySlot d else keyDslot d, status]
  showKeys t

/-- Descriptors at the front whose OP is none of Table 15.3's complete REFUSED_OP. -/
def keySkip : Nat → State → State
  | 0, s => s
  | n + 1, s =>
    match s.key.queue with
    | d :: _ => if keyOp d = 0 ∨ 7 < keyOp d then keySkip n (keyDone s d 2) else s
    | [] => s

/-- KEY_QCTL.PUSH: KEY_QDESC0 to KEY_QDESC7 are queued; ignored with 64 queued, with event 0x5820. -/
def keyPush (s : State) : State :=
  if s.key.queue.length < 64 then
    let d := (List.range 8).map (fun i => s.rd R.KEY_QDESC i)
    keySkip 65 (showKeys { s with key := { s.key with queue := s.key.queue ++ [d] } })
  else
    let n := s.key.ignored + 1
    raise { s with key := { s.key with ignored := n } } 0x5820 [n]

/-- KEY_QCTL.TAKE: the oldest completion goes. -/
def keyTake (s : State) : State := showKeys { s with key := { s.key with done := s.key.done.drop 1 } }

/-- The oldest descriptor, where its operation is `op` and KEY runs. -/
def keyHead (s : State) (op : Nat) : Option (List Nat) :=
  match s.key.queue with
  | d :: _ => if awake s && s.running 7 && decide (keyOp d = op) then some d else none
  | [] => none

/-- The key of the slot that ENCRYPT, DECRYPT and CMAC name: a role key or a firmware key. -/
def useKey (s : State) (n : Nat) : Option (List Nat) :=
  if (2 ≤ n ∧ n ≤ 5) ∨ 16 ≤ n then (s.key.slots.find? n).map (·.bytes) else none

/-- AES blocks are counted. -/
def countBlocks (s : State) (n : Nat) : State := s.bump C.KEY_BLOCKS n

/-- Every buffer of a descriptor lies in the reserved groups (R222). -/
def keyBufs (s : State) (d : List Nat) : Bool :=
  let op := keyOp d
  let src := if op ≤ 4 then keyLen d else if op = 5 then (if keyKlen d = 0 then 16 else 32) else 0
  let dst := if op ≤ 2 ∨ op = 6 then keyLen d else if op = 3 then 16 else 0
  (decide (src = 0) || inReserved s (keySrc d) src) && (decide (dst = 0) || inReserved s (keyDst d) dst) &&
  (decide (2 < op) || inReserved s (keyIv d) 16)

/-- A descriptor that names one key: refused for its LEN above 65,536, for its slot, else done by `f`. -/
def keyRun (s : State) (d : List Nat) (mode : Bool) (f : List Nat → State) : State :=
  keySkip 64
    (if mode ∧ keyMode d = 3 then keyDone s d 2
     else
       match useKey s (keySlot d) with
       | none => keyDone s d 1
       | some k =>
         if 65536 < keyLen d ∨ (mode ∧ keyMode d = 0 ∧ keyLen d % 16 ≠ 0) then keyDone s d 3
         else if !keyBufs s d then keyDone s d 2
         else keyDone (f k) d 0)

/-- A cipher of Table 15.3's modes. -/
def cipher (enc : Bool) (mode : Nat) (key iv msg : List Nat) : List Nat :=
  if mode = 0 then (if enc then Crypto.cbcEnc key iv msg else Crypto.cbcDec key iv msg)
  else if mode = 1 then Crypto.ctrMode key iv msg
  else if enc then Crypto.cfbEnc key iv msg else Crypto.cfbDec key iv msg

/-- ENCRYPT and DECRYPT: LEN bytes from SRC to DST. -/
def keyCipher (s : State) (enc : Bool) (d : List Nat) : State :=
  keyRun s d true (fun k =>
    countBlocks (dWrite s (keyDst d) (cipher enc (keyMode d) k (areaRead s (keyIv d) 16) (areaRead s (keySrc d) (keyLen d))))
      ((keyLen d + 15) / 16))

/-- KEY_ENCRYPT. -/
def doKeyEncrypt (s : State) : State := match keyHead s 1 with | some d => keyCipher s true d | none => s

def execKeyEncrypt (s : State) : Out3 := .next (doKeyEncrypt s)

/-- KEY_DECRYPT. -/
def doKeyDecrypt (s : State) : State := match keyHead s 2 with | some d => keyCipher s false d | none => s

def execKeyDecrypt (s : State) : Out3 := .next (doKeyDecrypt s)

/-- AES blocks of a CMAC over `n` bytes, its subkey's among them. -/
def cmacBlocks (n : Nat) : Nat := max 1 ((n + 15) / 16) + 1

/-- KEY_CMAC: a 16-byte tag to DST. -/
def doKeyCmac (s : State) : State :=
  match keyHead s 3 with
  | some d => keyRun s d false (fun k =>
      countBlocks (dWrite s (keyDst d) (Crypto.cmac k (areaRead s (keySrc d) (keyLen d)))) (cmacBlocks (keyLen d)))
  | none => s

def execKeyCmac (s : State) : Out3 := .next (doKeyCmac s)

/-- A key installed by firmware: AES-128 or AES-256 by KLEN. -/
def installFw (s : State) (d : List Nat) (bytes : List Nat) : State :=
  setSlot s (keyDslot d) (if keyKlen d = 0 then .aes128 else .aes256) bytes

/-- Bytes of a key by KLEN. -/
def keyBytes (d : List Nat) : Nat := if keyKlen d = 0 then 16 else 32

/-- KEY_DERIVE (R458): label ‖ 0x00 ‖ context are the LEN bytes at SRC. -/
def doKeyDerive (s : State) : State :=
  match keyHead s 4 with
  | none => s
  | some d =>
    keySkip 64
      (if 2 ≤ keyKlen d then keyDone s d 2
       else if keySlot d < 16 ∨ keyDslot d < 16 then keyDone s d 1
       else
         match useKey s (keySlot d) with
         | none => keyDone s d 1
         | some k =>
           if 65536 < keyLen d then keyDone s d 3
           else if !keyBufs s d then keyDone s d 2
           else
             let x := areaRead s (keySrc d) (keyLen d)
             let label := x.takeWhile (fun b => b ≠ 0)
             let t := installFw s d (Crypto.derive k label (x.drop (label.length + 1)) (keyBytes d))
             keyDone (t.bump C.KEY_DERIVES) d 0)

def execKeyDerive (s : State) : Out3 := .next (doKeyDerive s)

/-- KEY_LOAD: a key from SRC into DSLOT. -/
def doKeyLoad (s : State) : State :=
  match keyHead s 5 with
  | none => s
  | some d =>
    keySkip 64
      (if 2 ≤ keyKlen d then keyDone s d 2
       else if keyDslot d < 16 then keyDone s d 1
       else if !keyBufs s d then keyDone s d 2
       else keyDone (installFw s d (areaRead s (keySrc d) (keyBytes d))) d 0)

def execKeyLoad (s : State) : Out3 := .next (doKeyLoad s)

/-- KEY_RANDOM: LEN bytes to DST, or NOENTROPY. -/
def doKeyRandom (s : State) : State :=
  match keyHead s 6 with
  | none => s
  | some d =>
    keySkip 64
      (if 65536 < keyLen d then keyDone s d 3
       else if !keyBufs s d then keyDone s d 2
       else if !drbgOk s then keyDone s d 4
       else
         let t := drawn (dWrite s (keyDst d) (drawBytes s (keyLen d)))
         keyDone (t.bump C.KEY_RANDOMBYTES (keyLen d)) d 0)

def execKeyRandom (s : State) : Out3 := .next (doKeyRandom s)

/-- KEY_CLEAR: DSLOT is empty. -/
def doKeyClear (s : State) : State :=
  match keyHead s 7 with
  | none => s
  | some d => keySkip 64 (if keyDslot d < 16 then keyDone s d 1 else keyDone (clearSlot s (keyDslot d)) d 0)

def execKeyClear (s : State) : Out3 := .next (doKeyClear s)

/-- KEY_QUEUE_TAKE: KEY_QCTL.TAKE. -/
def doKeyQueueTake (s : State) : State := if awake s then keyTake s else s

def execKeyQueueTake (s : State) : Out3 := .next (doKeyQueueTake s)

/-! ## Role and service keys (R460) -/

/-- The two masks of a key load: AES(KS, SESSION ‖ SEQ ‖ 9 zero bytes ‖ j). -/
def loadMask (ks : List Nat) (sess seq : Nat) : List Nat :=
  [1, 2].flatMap (fun j => Crypto.aesEnc ks (beBytes sess 2 ++ beBytes seq 4 ++ List.replicate 9 0 ++ [j]))

/-- KEY_LOAD_CMD (0x2D10.03) in a session: the key of slot 0x2D10.01 from the 32 bytes that the session wrote. -/
def keyLoad (s : State) (sess : Nat) : State :=
  let e := ekey 0x2D10 3
  let slot := ent s (ekey 0x2D10 1) 4
  match s.dic.sessions.find? sess, slotBytes s 9 with
  | some x, some kw =>
    if x.isOpen ∧ x.keyBlob.length = 32 ∧ 2 ≤ slot ∧ slot ≤ 5 ∧ slotLoaded s 9 then
      let k := Crypto.xorBytes x.keyBlob (loadMask x.key sess x.keySeq)
      let t := showLoaded (setSlot s slot .aes256 k)
      cmdDone (countBlocks (setWrap t slot (Crypto.keyWrap kw k)) 26) e
    else cmdFailFree s e
  | _, _ => cmdFailFree s e

def doKeyLoadCmd (sess : Nat) (s : State) : State := if awake s then keyLoad s sess else s

def execKeyLoadCmd (sess : Nat) (s : State) : Out3 := .next (doKeyLoadCmd sess s)

/-! ## Entropy and debug (R464, R470) -/

/-- DRBG_HEALTH_FAIL: the generator stops; event 0x5840 tells the test and how many requests wait. -/
def doDrbgHealthFail (test : Nat) (s : State) : State :=
  if awake s ∧ drbgOk s then
    let waiting := (s.key.queue.filter (fun d => keyOp d = 6)).length + (s.dic.work.filter (fun w => w.1 = 0)).length
    raise (s.wr R.KEY_STAT_NOENTROPY 1) 0x5840 [Config.payloadCode 0x5840 test, waiting]
  else s

def execDrbgHealthFail (test : Nat) (s : State) : Out3 := .next (doDrbgHealthFail test s)

/-- DRBG_RESEED: a reseed passes: the generator runs again, and what waited for it goes on. -/
def doDrbgReseed (s : State) : State :=
  if awake s then
    let t : State := { s with key := { s.key with sinceSeed := 0 } }
    let t := t.wr R.KEY_STAT_NOENTROPY 0
    if drbgOk s then t
    else
      let t := if tstate t = 3 then drawPair t else t
      if fwUp t then runMapq (runWork t) else t
  else s

def execDrbgReseed (s : State) : Out3 := .next (doDrbgReseed s)

/-- DEBUG_UNLOCK (R470): AES-CMAC(DBG, part number ‖ nonce) in RISING before FILLING; four failures lock the module until a
level-5 reset. Each attempt has a nonce of its own. -/
def doDebugUnlock (tag : List Nat) (s : State) : State :=
  if !awake s ∨ 4 ≤ s.key.debugFails then s
  else
    let nonce := drawBytes s 16
    let good := Crypto.cmac s.fuses.dbg (beBytes s.fuses.partNumber 8 ++ nonce)
    let t := drawn { s with key := { s.key with debugNonce := nonce } }
    if s.dev = .rising ∧ tag = good then (t.wr R.KEY_STAT_DEBUG 1).emit (.debug true)
    else
      let n := s.key.debugFails + 1
      (raise { t with key := { t.key with debugFails := n } } 0x6060 [n]).emit (.debug false)

def execDebugUnlock (tag : List Nat) (s : State) : Out3 := .next (doDebugUnlock tag s)

end Sys2Proof.Machine
end

