-- ==== Sys2Proof/Machine/Millstone.lean ====
section
/-! DEFINITION. The meanings of the millstones' commands (chapter 09): the job log, dispatch, issue, completion, commits, waits,
the job write port, requester contexts and the resume scan. -/

namespace Sys2Proof.Machine

/-! ## Jobs (R281, R282, R284) -/

/-- OP and INDEX of MST_SUBMIT as a write with GO leaves them, and its RESULT. -/
def submitRegs (s : State) (op j : Nat) : State := (s.wr R.MST_SUBMIT_OP op).wr R.MST_SUBMIT_INDEX j
def submitResult (s : State) (r : Nat) : State := s.wr R.MST_SUBSTAT_RESULT r

/-- The command's write of line 0 keeps SUBSTAT.BUSY at 1 until the line is durable (R281). -/
def cmdWrites (s : State) : State :=
  match s.mst.lineReqs.getLast? with
  | some id =>
    let d := mstDurable s id
    { s with mst := { s.mst with cmdReq := if d then none else some id } }.wr R.MST_SUBSTAT_BUSY (b2n !d)
  | none => s

/-- What R282 finds wrong with line 0 of a record. -/
def recordBad (s : State) (j : Nat) : Bool :=
  let w0 := recWord s j 0
  let w2 := recWord s j 2
  let window := bits w0 45 8
  let glen := bits w2 48 11
  let sa := bits w2 0 48
  decide (window = 0) || decide (128 < window) || decide (window < 2 * bits w0 38 7) || decide (glen = 0) || decide (1024 < glen) ||
  decide (sa % 64 ≠ 0) || decide (512 * pext s * 4096 < sa + 16 * glen)

/-- JOB_SUBMIT (R281, R282). -/
def doJobSubmit (j : Nat) (s : State) : State :=
  if !awake s then s
  else
    let s := submitRegs s 0 (j % 8192)
    let j := j % 8192
    let refuse := fun (r : Nat) => raise (submitResult s r) 0x2860 [j, r]
    if jlPages s ≤ j then refuse 2
    else if !([0, 3, 4, 5] : List Nat).contains (jstate s j) then refuse 1
    else if recordBad s j then refuse 3
    else
      let n := s.mst.jseq + 1
      let ws := ((((withState (lineZero s j) 1).set 1 n).set 3 0).set 4 0).set 5 0
      let t := writeLine { s with mst := { s.mst with jseq := n, queue := s.mst.queue.ins n j } } j ws
      showMst (cmdWrites (submitResult t 0))

def execJobSubmit (j : Nat) (s : State) : Out3 := .next (doJobSubmit j s)

/-- Cancel record `j`: RESULT. -/
def cancelJob (s : State) (j : Nat) : State × Nat :=
  if jlPages s ≤ j then (s, 2)
  else match jstate s j with
  | 1 =>
    let q := recWord s j 1
    let t : State := { s with mst := { s.mst with queue := s.mst.queue.keepV (· ≠ j), passed := s.mst.passed.del q } }
    (showMst (completion (writeLine t j (withState (lineZero t j) 5)) j 5 0 q), 0)
  | 2 =>
    match jobOf s j with
    | some x => let x' := { x with cancel := true }
                (showMst (cancelEnd (setJob s x') x'), 0)
    | none =>
      let t : State := { s with mst := { s.mst with queue := s.mst.queue.keepV (· ≠ j), passed := s.mst.passed.del (recWord s j 1) } }
      (showMst (completion (writeLine t j (withState (lineZero t j) 5)) j 5 0 (recWord s j 1)), 0)
  | _ => (s, 1)

/-- JOB_CANCEL (R281). -/
def doJobCancel (j : Nat) (s : State) : State :=
  if !awake s then s
  else let q := cancelJob (submitRegs s 1 (j % 8192)) (j % 8192)
       let t := submitResult q.1 q.2
       if q.2 = 0 then cmdWrites t else t

def execJobCancel (j : Nat) (s : State) : Out3 := .next (doJobCancel j s)

/-- Requeue record `j`: RESULT. -/
def requeueJob (s : State) (j : Nat) : State × Nat :=
  if jlPages s ≤ j then (s, 2)
  else if jstate s j = 4 ∨ jstate s j = 5 then
    let t : State := { s with mst := { s.mst with queue := s.mst.queue.ins (recWord s j 1) j } }
    (showMst (writeLine t j ((withState (lineZero t j) 1).set 4 0)), 0)
  else (s, 1)

/-- JOB_REQUEUE (R281). -/
def doJobRequeue (j : Nat) (s : State) : State :=
  if !awake s then s
  else let q := requeueJob (submitRegs s 2 (j % 8192)) (j % 8192)
       let t := submitResult q.1 q.2
       if q.2 = 0 then cmdWrites t else t

def execJobRequeue (j : Nat) (s : State) : Out3 := .next (doJobRequeue j s)

/-- JOB_CANCEL_CMD (R303): the job that the session inspects. -/
def doJobCancelCmd (sess : Nat) (s : State) : State :=
  if !awake s then s
  else
    let c := ekey 0x2720 0x0A
    let q := cancelJob (cmdRun s c) (sessEnt s sess (ekey 0x2720 1) 0)
    if q.2 = 0 then cmdDone q.1 c else cmdFailFree q.1 c

def execJobCancelCmd (sess : Nat) (s : State) : Out3 := .next (doJobCancelCmd sess s)

/-- JOB_REQUEUE_CMD (R303). -/
def doJobRequeueCmd (sess : Nat) (s : State) : State :=
  if !awake s then s
  else
    let c := ekey 0x2720 0x0B
    let q := requeueJob (cmdRun s c) (sessEnt s sess (ekey 0x2720 1) 0)
    if q.2 = 0 then cmdDone q.1 c else cmdFailFree q.1 c

def execJobRequeueCmd (sess : Nat) (s : State) : Out3 := .next (doJobRequeueCmd sess s)

/-! ## Dispatch (R283, R285) -/

/-- A free slot of MST[n]. -/
def freeSlot (s : State) (n : Nat) : Option Nat :=
  (List.range 16).find? (fun k => (jobsOn s n).all (fun j => j.slot ≠ k))

/-- The millstone that takes record `j`, if it fits one now. -/
def fits (s : State) (j : Nat) : Option (Nat × Nat) :=
  let w0 := recWord s j 0
  let mask := bits w0 53 8
  (List.range 8).findSome? (fun n =>
    if (mask = 0 ∨ bit mask n) ∧ mstModeOf s n = 0 ∧ bits w0 45 8 ≤ freeBuffers s n then (freeSlot s n).map (fun k => (n, k))
    else none)

/-- The job of a record, as its slot loads it: list, peers and the bank that RBANK names. -/
def loadJob (s : State) (j jseq n slot : Nat) : Job :=
  let w0 := recWord s j 0
  let w2 := recWord s j 2
  let w3 := recWord s j 3
  let sa := bits w2 0 48
  let glen := bits w2 48 11
  let peers := (List.range 32).map (fun p =>
    let q0 := recWord s j (0x20 + 2 * p)
    [b2n (bit q0 63), bits q0 48 14, bits q0 0 32, recWord s j (0x21 + 2 * p)])
  let sto := bits w0 22 16
  { index := j, jseq, mst := n, slot
    list := (List.range glen).map (fun i => spaceWord s (sa + 16 * i) + 2 ^ 64 * spaceWord s (sa + 16 * i + 8))
    window := bits w0 45 8, half := bits w0 38 7, stageto := if sto = 0 then s.rd R.MST_DEFAULTS_STAGETO else sto
    peers, bank := spaceRead s (recAddr s j + 0x400 + 0x400 * bits w0 21 1) 1024, rbank := bits w0 21 1
    pc := bits w3 54 10, iter := bits w3 30 24, turn := bits w3 0 30, stages := bits (recWord s j 5) 32 32
    next := bits w3 54 10 }

/-- The job of record `j` goes to a slot: JSTATE ACTIVE; a list that breaks a rule ends it with ILLEGAL. -/
def dispatch (s : State) (jseq j n slot : Nat) : State :=
  let x := loadJob s j jseq n slot
  let h := headerFrom x 1024 x.pc
  let x := { x with pc := h, next := h }
  let t : State := { s with mst := { s.mst with
    queue := s.mst.queue.del jseq, passed := s.mst.passed.del jseq, jobs := s.mst.jobs ++ [x] } }
  let t := writeLine t j (withState (lineZero t j) 2)
  let sa := bits (recWord s j 2) 0 48
  let n := 16 * x.list.length
  if spaceBad t sa n then failJob t x 10 0 0 0
  else if spacePoison t sa n ∨ spacePoison t (recAddr t j) 4096 then failJob t x 3 0 0 0
  else if !listOk x.list ∨ iOp (instrAt x h) ≠ 1 then failJob t x 6 h 0 0
  else t

/-- JOB_DISPATCH (R283): the first job in JSEQ order that fits; those before it are passed over, and one that has been passed
over 64 times is waited for. Uncorrectable lines of its record or list are repaired first (R173). -/
def doJobDispatch (s : State) : State :=
  if !awake s ∨ s.dev ≠ .serving then s
  else
    let starved := s.mst.queue.seek (fun e => decide (64 ≤ s.mst.passed.get e.1 0))
    let cands : Sparse Nat := match starved with | some e => [e] | none => s.mst.queue
    match cands.seek (fun e => (fits s e.2).isSome) with
    | none => s
    | some e =>
      let before := (cands.takeWhile (fun x => x.1 ≠ e.1)).map (·.1)
      let t : State := { s with mst := { s.mst with passed := before.foldl (fun m k => m.ins k (m.get k 0 + 1)) s.mst.passed } }
      match fits s e.2 with
      | some k =>
        let sa := bits (recWord t e.2 2) 0 48
        let q := spaceSeek t (recAddr t e.2) 4096
        let r := spaceSeek q.1 sa (16 * bits (recWord t e.2 2) 48 11)
        if q.2 ∨ r.2 then r.1 else showMst (dispatch r.1 e.1 e.2 k.1 k.2)
      | none => s

def execJobDispatch (s : State) : Out3 := .next (doJobDispatch s)

/-! ## Issue and completion (R288 to R291) -/

/-- A fetch that makes a job wait is counted once (R294). -/
def noteStalls (s : State) (n : Nat) : State :=
  (jobsOn s n).foldl (fun t j =>
    match stalled j, j.stall with
    | true, none => (setJob t { j with stall := some t.now }).bump C.MST_STALLS 1 0 n
    | false, some _ => setJob t { j with stall := none }
    | _, _ => t) s

/-- INSTRUCTION_ISSUE (R288): the millstone issues one instruction, from the job whose turn it is for QUANTUM instructions, else
from the next ready job in slot order. -/
def doInstructionIssue (n : Fin 8) (s : State) : State :=
  if !awake s ∨ !s.takes (34 + n.val) then s
  else
    let s := noteStalls s n
    let ts := s.mst.turnSlot.get n 0
    let cnt := s.mst.turnCnt.get n 0
    let first := if cnt < s.rd R.MST_DEFAULTS_QUANTUM then ts else ts + 1
    let order := (List.range 16).map (fun i => (first + i) % 16)
    match order.findSome? (fun k => (jobAt s n k).bind (fun j => if ready s j then some (k, j) else none)) with
    | none => s
    | some kj =>
      let cnt' := if kj.1 = ts ∧ cnt < s.rd R.MST_DEFAULTS_QUANTUM then cnt + 1 else 1
      let mark := fun (t : State) => showMst { t with mst := { t.mst with
        turnSlot := t.mst.turnSlot.put n.val kj.1 0, turnCnt := t.mst.turnCnt.put n.val cnt' 0 } }
      match tryIssue s kj.2 with
      | .blocked => s
      | .failed c pc peer syn => mark (failJob s kj.2 c pc peer syn)
      | .done t => mark t

def execInstructionIssue (n : Fin 8) (s : State) : Out3 := .next (doInstructionIssue n s)

/-- INSTRUCTION_COMPLETE (R287, R288, R291): instruction `pc` issued under `turn`. `rd` is what reading tier S finds, `corr` the
SRAM words corrected, `bad` an uncorrectable SRAM word (Table 9.9). -/
def doInstructionComplete (n : Fin 8) (slot : Fin 16) (pc turn : Nat) (rd : CwRead) (corr : Nat) (bad : Option Nat) (s : State) : State :=
  if !awake s then s
  else match jobAt s n slot with
  | none => s
  | some j =>
    match j.ops.find? (fun o => o.key = opKey pc turn) with
    | none => if pc = j.next then showMst (commitBank s j) else s
    | some o =>
      let s := s.bump C.MST_SRAMCORR corr 0 n
      match bad with
      | some a => showMst (raise (failJob s j 7 o.pc 0 0) (0x28C0 + n.val) [a, j.index])
      | none => showMst (completeOp s j o rd)

def execInstructionComplete (n : Fin 8) (slot : Fin 16) (pc turn : Nat) (rd : CwRead) (corr : Nat) (bad : Option Nat) (s : State) : Out3 :=
  .next (doInstructionComplete n slot pc turn rd corr bad s)

/-- STAGE_COMMIT_COMPLETE (R279, R290, R293): line 0 is durable; the next stage begins, or the job is DONE. -/
def doStageCommitComplete (n : Fin 8) (slot : Fin 16) (s : State) : State :=
  if !awake s then s
  else match jobAt s n slot with
  | none => s
  | some j0 =>
    let s := commitBank s j0
    match jobAt s n slot with
    | none => showMst s
    | some j =>
      if j.phase ≠ 2 ∨ !j.commitReqs.all (mstDurable s) then showMst s
      else if j.commitReqs.any (mstFailed s) then showMst (failJob s j 3 j.next 0 0)
      else
        let k := nextStage j
        let t := (mstForget s j.commitReqs).bump C.MST_STAGES 1 0 n
        if iOp (instrAt j k.1) = 0x10 then
          showMst (completion ((dropJob t j.index).bump C.MST_DONE 1 0 n) j.index 3 0 j.jseq)
        else
          let j' := { j with
            pc := k.1, iter := k.2, turn := (j.turn + 1) % 2 ^ 30, stages := (j.stages + 1) % 2 ^ 32, next := k.1
            rbank := if j.bankDirty then 1 - j.rbank else j.rbank
            fetched := j.ahead, ahead := [], preLeft := [], started := false, phase := 0, commitReqs := []
            ops := j.ops.map (fun o => { o with pre := false }) }
          showMst (cancelEnd (setJob t j') j')

def execStageCommitComplete (n : Fin 8) (slot : Fin 16) (s : State) : Out3 := .next (doStageCommitComplete n slot s)

/-! ## Waits and timeouts (R286, R294) -/

/-- STAGE_TIMEOUT (R294): TIER_LATE, ERRPC the fetch. -/
def doStageTimeout (n : Fin 8) (slot : Fin 16) (s : State) : State :=
  if !awake s then s
  else match jobAt s n slot with
  | none => s
  | some j =>
    match lateFetch j with
    | some pc => showMst (failJob s j 1 pc 0 0)
    | none => s

def execStageTimeout (n : Fin 8) (slot : Fin 16) (s : State) : Out3 := .next (doStageTimeout n slot s)

/-- Is a job at a WAIT that has begun? -/
def atWait (j : Job) : Bool := j.started && j.phase = 0 && decide (iOp (instrAt j j.next) = 0x0E) && j.waitSince.isSome && !j.waitOk

/-- WAIT_LIMIT_EXPIRY (R286): TIME is over; JOB and WORD with a limit end with WAITLIMIT. -/
def doWaitLimitExpiry (n : Fin 8) (slot : Fin 16) (s : State) : State :=
  if !awake s then s
  else match jobAt s n slot with
  | none => s
  | some j =>
    if !atWait j then s
    else
      let w := instrAt j j.next
      if bits w 114 2 = 0 then showMst (setJob s { j with waitOk := true })
      else if bits w 90 24 = 0 then s
      else showMst (failJob s j 8 j.next 0 0)

def execWaitLimitExpiry (n : Fin 8) (slot : Fin 16) (s : State) : Out3 := .next (doWaitLimitExpiry n slot s)

/-- WAIT_WORD_POLL (R286): the line is read again. -/
def doWaitWordPoll (n : Fin 8) (slot : Fin 16) (s : State) : State :=
  if !awake s then s
  else match jobAt s n slot with
  | none => s
  | some j =>
    let w := instrAt j j.next
    if !atWait j ∨ bits w 114 2 ≠ 2 then s
    else
      let a := bits w 35 42 * 64 + strideOf j w j.pc j.iter
      let q := spaceSeek s a 64
      let s := q.1
      if q.2 then s
      else if spaceBad s a 64 then showMst (failJob s j 10 j.next 0 0)
      else if spacePoison s a 64 then showMst (failJob s j 3 j.next 0 0)
      else if leNat (spaceRead s a 4) = bits w 3 32 then showMst (setJob s { j with waitOk := true })
      else s

def execWaitWordPoll (n : Fin 8) (slot : Fin 16) (s : State) : Out3 := .next (doWaitWordPoll n slot s)

/-! ## The ports (R280, R284, R295, R297) -/

/-- COMPLETION_TAKE (R284). -/
def doCompletionTake (s : State) : State :=
  if !awake s then s else showMst { s with mst := { s.mst with ring := s.mst.ring.drop 1 } }

def execCompletionTake (s : State) : Out3 := .next (doCompletionTake s)

/-- JOB_WRITE_PORT (R280): MST_JWDATA at MST_JWADDR as a PUT; BUSY until the line is durable. -/
def doJobWritePort (s : State) : State :=
  if !awake s then s
  else
    let a := s.rd R.MST_JWADDRL * 64 + s.rd R.MST_JWADDRH * 2 ^ 32
    if !s.mst.jwReq.all (mstDurable s) ∨ spaceBad s a 64 ∨ fenced s (a / 4096) then s.wr R.MST_JWSTAT_REFUSED 1
    else
      let bs := (List.range 16).flatMap (fun i => leBytes (s.rd R.MST_JWDATA i) 4)
      let q := mstWrite ((mstForget s s.mst.jwReq).wr R.MST_JWSTAT_REFUSED 0) a bs
      let t : State := { q.1 with mst := { q.1.mst with jwReq := [q.2] } }
      t.wr R.MST_JWSTAT_BUSY (b2n (!mstDurable t q.2))

def execJobWritePort (s : State) : Out3 := .next (doJobWritePort s)

/-- The context that MST_QPDATA holds. -/
def mstQpData (s : State) : List Nat :=
  (List.range 16).map (fun i => s.rd R.MST_QPDATA (2 * i) + 2 ^ 32 * s.rd R.MST_QPDATA (2 * i + 1))

/-- MST_QP_WRITE (R295). -/
def doMstQpWrite (s : State) : State :=
  if !awake s then s
  else
    let i := s.rd R.MST_QPUPD_INDEX
    let old := (rqAt s i).qstate
    if old = 2 ∨ old = 3 then s.wr R.MST_QPUPDSTAT_REFUSED 1
    else setRq (s.wr R.MST_QPUPDSTAT_REFUSED 0) i (rqOf (mstQpData s))

def execMstQpWrite (s : State) : Out3 := .next (doMstQpWrite s)

/-- MST_QP_READ (R295). -/
def doMstQpRead (s : State) : State :=
  if !awake s then s
  else
    (rqWords (rqAt s (s.rd R.MST_QPUPD_INDEX))).zipIdx.foldl (fun t x =>
      (t.wr R.MST_QPDATA (x.1 % 2 ^ 32) (2 * x.2)).wr R.MST_QPDATA (x.1 / 2 ^ 32) (2 * x.2 + 1)) (s.wr R.MST_QPUPDSTAT_REFUSED 0)

def execMstQpRead (s : State) : Out3 := .next (doMstQpRead s)

/-- MST_QP_TO_ERROR (R297). -/
def doMstQpToError (s : State) : State :=
  if !awake s then s else showMst (rqError (s.wr R.MST_QPUPDSTAT_REFUSED 0) (s.rd R.MST_QPUPD_INDEX) 0)

def execMstQpToError (s : State) : Out3 := .next (doMstQpToError s)

/-- REQ_QP_INSPECT_TO_ERROR_CMD (R303). -/
def doReqQpInspectToErrorCmd (sess : Nat) (s : State) : State :=
  if !awake s then s
  else
    let c := ekey 0x2730 7
    let i := sessEnt s sess (ekey 0x2730 1) 0
    if i < 16384 then cmdDone (showMst (rqError (cmdRun s c) i 0)) c else cmdFailFree (cmdRun s c) c

def execReqQpInspectToErrorCmd (sess : Nat) (s : State) : Out3 := .next (doReqQpInspectToErrorCmd sess s)

/-! ## Resuming (R300) -/

/-- RESUME_SCAN (R300): every QUEUED and ACTIVE record that no slot holds is queued by its JSEQ. -/
def doResumeScan (s : State) : State :=
  if s.dev ≠ .serving ∨ jobAreaBad s then s
  else
    let js := (List.range (jlPages s)).filter (fun j => (jstate s j = 1 || jstate s j = 2) && (jobOf s j).isNone)
    let q := js.foldl (fun (m : Sparse Nat) j => m.ins (recWord s j 1) j) s.mst.queue
    let top := js.foldl (fun a j => max a (recWord s j 1)) s.mst.jseq
    let t : State := { s with mst := { s.mst with queue := q, jseq := top } }
    showMst (raise t 0x2880 [js.length, (js.filter (fun j => jstate s j = 2)).length])

def execResumeScan (s : State) : Out3 := .next (doResumeScan s)

end Sys2Proof.Machine
end

