-- ==== Sys2Proof/Machine/PowerSeq.lean ====
section
/-! DEFINITION. The meanings of the sequencer's commands (R367 to R374, R398). -/

namespace Sys2Proof.Machine

/-- Does the sequencer run table `phase` (1 rising, 2 falling) at a step of operation `op` whose action has not started? -/
def atStep (s : State) (phase op : Nat) : Bool :=
  decide (s.rd R.PWR_SEQSTAT_PHASE = phase) && decide (stepOp (curEntry s) = op) && !s.pwr.stepOn

/-- Does the sequencer wait in a started step of operation `op`? -/
def inStep (s : State) (phase op : Nat) : Bool :=
  decide (s.rd R.PWR_SEQSTAT_PHASE = phase) && decide (stepOp (curEntry s) = op) && s.pwr.stepOn

/-- Either table. -/
def atAny (s : State) (op : Nat) : Bool := atStep s 1 op || atStep s 2 op
def inAny (s : State) (op : Nat) : Bool := inStep s 1 op || inStep s 2 op

/-- A rail is flagged: the snapshot and event 0x3C00 + r (cause 1 UNSTABLE, 2 TIMEOUT, 3 LOST). -/
def flagRail (s : State) (F : Fld) (r cause : Nat) : State :=
  let step := s.rd R.PWR_SEQSTAT_STEP
  let slot := nextSnapSlot s
  raise (snapshot (s.wbit F r true) cause r) (0x3C00 + r) [r, cause, step, slot]

/-- An ENABLE step ends qualified: the flags clear where no crossing was counted (R372). -/
def enableDone (s : State) (r : Nat) : State :=
  let t := if s.pwr.cross.get r 0 = 0 then (s.wbit R.PWR_UNSTABLE r false).wbit R.PWR_TIMEOUT r false else s
  stepEnd t

/-- SEQ_ENABLE (R370): PWR_EN rises; a rail already qualified ends the step. -/
def doSeqEnable (s : State) : State :=
  if atStep s 1 1 then
    let r := stepArg (curEntry s)
    let t := stepStarted (s.wbit R.PWR_ENSTAT r true)
    if t.rbit R.PWR_PGSTAT r then enableDone t r else t
  else s

def execSeqEnable (s : State) : Out3 := .next (doSeqEnable s)

/-- A rail whose good was qualified in SERVING is lost while it is enabled (R372). -/
def railLost (s : State) (r : Nat) : State :=
  if bit s.pwr.servQual r ∧ s.rbit R.PWR_ENSTAT r ∧ !s.rbit R.PWR_LOST r then
    let t := flagRail s R.PWR_LOST r 3
    if t.on R.PWR_RAIL_LOSSACT r then brownOutStart t 1 r (t.pwr.vout.get r 0) else t
  else s

/-- A filtered high-to-low change of rail `r` (R368). -/
def railFall (s : State) (r : Nat) : State :=
  let n := s.pwr.cross.get r 0 + 1
  let t : State := { s with pwr := { s.pwr with
    pgRaw := bitClr s.pwr.pgRaw r, pgFilt := bitClr s.pwr.pgFilt r, cross := s.pwr.cross.ins r n } }
  let t := t.wbit R.PWR_PGSTAT r false
  let e := curEntry t
  if inStep t 1 1 ∧ stepArg e = r ∧ stepChatter e < n then stepEnd (flagRail t R.PWR_UNSTABLE r 1)
  else if inStep t 2 2 ∧ stepArg e = r then stepEnd t
  else railLost t r

/-- RAIL_GOOD_CHANGE (R368, R370, R372): the filtered level of a rail's good changes; in OFF for the fall of a collapse only (R382). -/
def doRailGoodChange (r : Fin 24) (high : Bool) (s : State) : State :=
  if (s.dev = .off ∧ s.rd R.PWR_SEQSTAT_PHASE ≠ 2) ∨ bit s.pwr.pgFilt r = high then s
  else if high then
    { s with pwr := { s.pwr with pgRaw := bitSet s.pwr.pgRaw r, pgFilt := bitSet s.pwr.pgFilt r } }
  else railFall s r

def execRailGoodChange (r : Fin 24) (high : Bool) (s : State) : Out3 := .next (doRailGoodChange r high s)

/-- RAIL_GOOD_QUALIFIED (R368): the filtered level has stayed high for STAB × 10 µs. -/
def doRailGoodQualified (r : Fin 24) (s : State) : State :=
  if s.dev ≠ .off ∧ bit s.pwr.pgFilt r then
    let t := (s.wbit R.PWR_PGSTAT r true).wbit R.PWR_LOST r false
    let t := showBrownOut t
    let t : State := if s.dev = .serving then { t with pwr := { t.pwr with servQual := bitSet t.pwr.servQual r } } else t
    if inStep t 1 1 ∧ stepArg (curEntry t) = r.val then enableDone t r else t
  else s

def execRailGoodQualified (r : Fin 24) (s : State) : Out3 := .next (doRailGoodQualified r s)

/-- ENABLE_TIMEOUT (R370): with HARD set the falling table runs from MIRROR, with no on request latched. -/
def doEnableTimeout (s : State) : State :=
  if inStep s 1 1 then
    let e := curEntry s
    let r := stepArg e
    let t := flagRail s R.PWR_TIMEOUT r 2
    if stepHard e then
      let t := raise t 0x3D20 [s.rd R.PWR_SEQSTAT_STEP, r]
      startFall (t.wr R.PWR_SEQSTAT_ONLATCH 0) (stepMirror e) 3
    else stepEnd t
  else s

def execEnableTimeout (s : State) : Out3 := .next (doEnableTimeout s)

/-- SEQ_DISABLE (Table 12.2): skipped where the rail is not enabled. -/
def doSeqDisable (s : State) : State :=
  if atStep s 2 2 then
    let r := stepArg (curEntry s)
    if s.rbit R.PWR_ENSTAT r then
      let t := showBrownOut ((s.wbit R.PWR_ENSTAT r false).wbit R.PWR_LOST r false)
      let t : State := { t with pwr := { t.pwr with servQual := bitClr t.pwr.servQual r } }
      if bit s.pwr.pgFilt r then stepStarted t else stepEnd t
    else stepEnd s
  else s

def execSeqDisable (s : State) : Out3 := .next (doSeqDisable s)

/-- DISABLE_TIMEOUT (R371). -/
def doDisableTimeout (s : State) : State :=
  if inStep s 2 2 then stepEnd (flagRail s R.PWR_TIMEOUT (stepArg (curEntry s)) 2) else s

def execDisableTimeout (s : State) : Out3 := .next (doDisableTimeout s)

/-- SEQ_WAIT (R369). -/
def doSeqWait (s : State) : State := if atAny s 3 then stepStarted s else s

def execSeqWait (s : State) : Out3 := .next (doSeqWait s)

/-- SEQ_WAIT_EXPIRY. -/
def doSeqWaitExpiry (s : State) : State := if inAny s 3 then stepEnd s else s

def execSeqWaitExpiry (s : State) : Out3 := .next (doSeqWaitExpiry s)

/-- SEQ_PMBUS: script entry ARG; ADDR 0 ends the step at once. -/
def doSeqPmbus (s : State) : State :=
  if atAny s 4 then
    let k := stepArg (curEntry s)
    let a := s.rd R.PWR_PMBCMD_ADDR k
    let d := s.rd R.PWR_PMBCMD_DATA k
    if a = 0 then stepEnd s
    else stepStarted (s.emit (.pmbus a (s.rd R.PWR_PMBCMD_CMD k) (leBytes d (s.rd R.PWR_PMBCMD_LEN k))))
  else s

def execSeqPmbus (s : State) : Out3 := .next (doSeqPmbus s)

/-- PMBUS_TRANSACTION_DONE (R383): the step's transaction before a margin's. -/
def doPmbusTransactionDone (res : PmbResult) (s : State) : State :=
  if inAny s 4 then
    let k := stepArg (curEntry s)
    let t := if res = .ok then s
      else pmbFailed s (s.rd R.PWR_PMBCMD_ADDR k) (s.rd R.PWR_PMBCMD_CMD k) (if res = .failed then 0 else 1)
    stepEnd t
  else
    match s.pwr.marginBusy with
    | some (r, m) => marginDone s r m res
    | none => s

def execPmbusTransactionDone (res : PmbResult) (s : State) : Out3 := .next (doPmbusTransactionDone res s)

/-- SEQ_RSTREL (R398): releases the output once its stretch has run, else waits for it. -/
def doSeqRstrel (s : State) : State :=
  if atStep s 1 5 then
    let o := stepArg (curEntry s)
    if bit s.rst.stretched o ∨ !s.rbit R.RST_OUTSTAT_ASSERTED o then stepEnd (s.wbit R.RST_OUTSTAT_ASSERTED o false)
    else stepStarted s
  else s

def execSeqRstrel (s : State) : Out3 := .next (doSeqRstrel s)

/-- RESET_OUTPUT_STRETCH_END (R398): an AUTO output, or one that a step waits for, is released. -/
def doResetOutputStretchEnd (o : Fin 4) (s : State) : State :=
  if bit s.rst.stretching o then
    let t : State := { s with rst := { s.rst with
      stretching := bitClr s.rst.stretching o, stretched := bitSet s.rst.stretched o } }
    let t := if t.on R.RST_OUT_AUTO o then t.wbit R.RST_OUTSTAT_ASSERTED o false else t
    if inStep t 1 5 ∧ stepArg (curEntry t) = o.val then stepEnd (t.wbit R.RST_OUTSTAT_ASSERTED o false) else t
  else s

def execResetOutputStretchEnd (o : Fin 4) (s : State) : Out3 := .next (doResetOutputStretchEnd o s)

/-- SEQ_RSTASSERT. -/
def doSeqRstassert (s : State) : State :=
  if atStep s 2 6 then
    let o := stepArg (curEntry s)
    let t : State := { s with rst := { s.rst with stretching := bitClr s.rst.stretching o, stretched := bitClr s.rst.stretched o } }
    stepEnd (t.wbit R.RST_OUTSTAT_ASSERTED o true)
  else s

def execSeqRstassert (s : State) : Out3 := .next (doSeqRstassert s)

/-- SEQ_CHARGER (R379): the charger's enable follows, but for a capacitance test. -/
def doSeqCharger (s : State) : State :=
  if atAny s 7 then
    let on := decide (stepArg (curEntry s) = 1)
    let t : State := { s with pwr := { s.pwr with chg := on } }
    stepEnd (t.wr R.PWR_INSTAT_CHGEN (b2n (on && s.gov.test.isNone)))
  else s

def execSeqCharger (s : State) : Out3 := .next (doSeqCharger s)

/-- The tables that a commit offers: the written entries, else those pending or in force. -/
def offered (s : State) (F : Fld) (i : Nat) : Nat :=
  match s.rf.group.find? (F.key i 0) with
  | some v => v
  | none => s.shadowed F i

/-- A commit of the two sequence tables (R63, R369, R374): refused whole, or taken once the sequencer is idle. -/
def seqCommit (s : State) : State :=
  match seqRefusal (offered s R.PWR_RISE) (offered s R.PWR_FALL) with
  | some b =>
    seqReport { s with rf := { s.rf with group := s.rf.group.keep (fun k => keyBlock k ≠ 12) } } (some b)
  | none =>
    let t := releaseGroup (seqReport s none) 12 (fun _ => true)
    if t.rd R.PWR_SEQSTAT_PHASE = 0 then quietPoint t 12 else t

/-- SEQ_TABLE_COMMIT: the COMMIT bit of PWR's BLKCTL. -/
def doSeqTableCommit (s : State) : State := if awake s then seqCommit s else s

def execSeqTableCommit (s : State) : Out3 := .next (doSeqTableCommit s)

end Sys2Proof.Machine
end

