-- ==== Sys2Proof/Machine/Sensors.lean ====
section
/-! DEFINITION. The meanings of the sensor and calibration commands (R409 to R418). -/

namespace Sys2Proof.Machine

/-! ## Sample rounds (R409 to R411) -/

/-- The trim in force of sensor `i` (T0 to T47, then V0 to V23): the fused trim and the calibration's offset (R413). -/
def sensorTrim (s : State) (i : Nat) : Int := temp16 (s.fuses.trims.get i 0) + s.cal.trims.get i 0

/-- A sensor is marked failed. -/
def failSensor (s : State) (i : Nat) : State :=
  if i < 32 then s.wbit R.SEN_FAILED i true else s.wbit R.SEN_FAILEDH (i - 32) true

/-- One thermal reading, in sixteenths of a degree before the trim; none where the sensor does not answer (R410). -/
def thermal (raw : List (Option Int)) (s : State) (i : Nat) : State :=
  if sensorFailed s i then s
  else
    match raw.getD i none with
    | none => raise (failSensor s i) 0x4840 [i, Config.payloadCode 0x4840 0]
    | some r =>
      let t := r + sensorTrim s i
      let u := s.wr R.SEN_T (ofTemp16 t) i
      if t < -640 ∨ 2400 < t then raise (failSensor u i) 0x4840 [i, ofTemp16 t] else u

/-- One voltage reading in mV before the trim (R410). -/
def voltage (raw : List Nat) (s : State) (j : Nat) : State :=
  let v := (((raw.getD j 0 : Nat) : Int) + sensorTrim s (48 + j)).toNat
  let t := s.wr R.SEN_V v j
  let nom := s.rd R.SEN_VNOM j
  if nom ≠ 0 ∧ (v * 100 < nom * 95 ∨ nom * 105 < v * 100) then raise t 0x4860 [j, v, nom] else t

/-- The working thermal sensor with the highest reading, the first of equals. -/
def hottest (s : State) : Option (Nat × Int) :=
  (List.range 48).foldl (fun b i =>
    if sensorFailed s i then b
    else
      let t := temp16 (s.rd R.SEN_T i)
      match b with
      | some (j, u) => if u < t then some (i, t) else some (j, u)
      | none => some (i, t)) none

/-- R411: reductions and the off request that Tj asks for; `was` is Tj of the round before. -/
def heat (s : State) (was tj : Int) (i : Nat) : State :=
  let hot := (16 * s.rd R.SEN_LIMIT_HOT : Nat)
  let trip := (16 * s.rd R.SEN_LIMIT_TRIP : Nat)
  let n := redSteps s
  let t :=
    if hot ≤ tj then
      let k := min redMax (n + 1)
      raise (setSteps s s.gai.capSteps k) 0x4800 [ofTemp16 tj, i, k]
    else if tj < hot - 80 ∧ 0 < s.gai.tempSteps then setSteps s s.gai.capSteps (min n s.gai.tempSteps - 1)
    else s
  if trip ≤ tj ∧ was < trip then offRequest (raise t 0x4820 [ofTemp16 tj, i]) else t

/-- SAMPLE_ROUND (R409): every sensor is read once: thermal readings in sixteenths of a degree, voltages in mV. -/
def doSampleRound (temps : List (Option Int)) (volts : List Nat) (s : State) : State :=
  if awake s ∧ s.running 15 ∧ !s.rst.held then
    let was := temp16 (s.rd R.SEN_TJ_TJ)
    let t := (List.range 48).foldl (thermal temps) s
    let t := (List.range 24).foldl (voltage volts) t
    match hottest t with
    | some (i, tj) => heat (t.wr R.SEN_TJ_TJ (ofTemp16 tj)) was tj i
    | none => t.wr R.SEN_TJ_TJ (Config.unstated 32 [])
  else s

def execSampleRound (temps : List (Option Int)) (volts : List Nat) (s : State) : Out3 := .next (doSampleRound temps volts s)

/-! ## Calibration runs (R415 to R417) -/

/-- Calibration's farrier owner and the tokens of a run (Table 13.7 step 1). -/
def calOwner : Nat := 640
def calTokens : List Nat := (List.range 16).map (· + 48) ++ [121]

/-- The governing temperatures of the 48 thermal sensors. -/
def calTemps (s : State) : Sparse Int := (List.range 48).map (fun i => (i, governing s i))

/-- A governing temperature differs from its recorded value by more than DRIFT. -/
def drifted (s : State) : Bool :=
  s.cal.temps.any (fun e => decide ((16 * s.rd R.CAL_CTL_DRIFT : Nat) < (governing s e.1 - e.2).natAbs))

/-- A run begins and requests its tokens. -/
def calStart (s : State) (trigger : Nat) : State :=
  let t : State := { s with cal := { s.cal with run := some { trigger, start := s.now } } }
  calTokens.foldl (fun u n => farAsk u calOwner n) (t.wr R.CAL_STAT_BUSY 1)

/-- May a run begin: CAL runs, no run is under way, and the farrier can grant (SERVING, or RISING with the shaft locked)? -/
def calReady (s : State) : Bool :=
  s.takes 16 && s.cal.run.isNone && (decide (s.dev = .serving) || (decide (s.dev = .rising) && s.on R.CLK_STAT_LOCKED))

/-- CAL_RUN_START (R416): by drift while HOLD is 0, or at the end of full training in RISING. -/
def doCalRunStart (trained : Bool) (s : State) : State :=
  if !calReady s then s
  else if trained then (if s.dev = .rising then calStart s 2 else s)
  else if drifted s ∧ !s.on R.CAL_CTL_HOLD then calStart s 0 else s

def execCalRunStart (trained : Bool) (s : State) : Out3 := .next (doCalRunStart trained s)

/-- CAL_CMD_RUN (CAL_CMD.GO with OP 1). -/
def doCalCmdRun (s : State) : State := if calReady s then calStart s 1 else s

def execCalCmdRun (s : State) : Out3 := .next (doCalCmdRun s)

/-- CAL_RUN_NOW_CMD (0x2B10.03): RUNNING until the run commits. -/
def doCalRunNowCmd (s : State) : State :=
  if !awake s then s
  else if calReady s then calStart (cmdRun s (ekey 0x2B10 3)) 3
  else cmdFailFree s (ekey 0x2B10 3)

def execCalRunNowCmd (s : State) : Out3 := .next (doCalRunNowCmd s)

/-- The targets of DRC[c]'s PHY set: field, element and byte offset in a set. -/
def phyTargets (c : Nat) : List (Fld × Nat × Nat) :=
  ((List.range 320).flatMap (fun k =>
    [(R.DRC_WRDLY, k, delayOff c (k / 80) (k % 80) 0), (R.DRC_RDDLY, k, delayOff c (k / 80) (k % 80) 1)])) ++
  (List.range 80).map (fun l => (R.DRC_RDVREF, l, vrefOff c l))

/-- A base plus an offset, as the register takes it; the spec does not state a sum outside the field (log entry 9). -/
def phyValue (F : Fld) (off : Nat) (x : Int) : Nat :=
  if 0 ≤ x ∧ x < (2 ^ F.wid : Nat) then x.toNat else Config.unstated 33 [off, x.natAbs] % 2 ^ F.wid

/-- The trained base of a target: the value held, else the register less the correction in force. -/
def calBase (s : State) (c : Nat) (p : Fld × Nat × Nat) : Int :=
  match s.cal.base.find? p.2.2 with
  | some b => b
  | none => (s.rd p.1 p.2.1 c : Nat) - s.cal.corr.get p.2.2 0

/-- DRC[c] gets base + v for its whole PHY set, in place of a set that firmware has not committed (R417); it takes it at its
quiet point (R63), which the model lets be now where the block is stopped. -/
def calDrc (s : State) (c : Nat) : State :=
  let mine := fun k => decide (keyBlock k = 42 + c) && decide (0x400 ≤ k / 32 % 1048576) && decide (k / 32 % 1048576 < 0xF40)
  let t : State := { s with rf := { s.rf with
    group := s.rf.group.keep (fun k => !mine k), shadow := s.rf.shadow.keep (fun k => !mine k) } }
  let t := (phyTargets c).foldl (fun u p =>
    let b := calBase s c p
    let v := calOffset s p.2.2
    let x := phyValue p.1 p.2.2 (b + v)
    let u : State := { u with cal := { u.cal with base := u.cal.base.ins p.2.2 b, corr := u.cal.corr.put p.2.2 v 0 } }
    if x = s.rd p.1 p.2.1 c then u else toShadow u (42 + c) (p.1.key p.2.1 c) x) t
  if t.running (42 + c) then t else quietPoint t (42 + c)

/-- The store's class offsets move by the change in their v (R415). -/
def calStore (s : State) : State :=
  let offs : List Nat := ((s.cal.sets.map (fun (e : Nat × Nat) => e.1 % 65536)) ++ s.cal.storeV.map (fun (e : Nat × Int) => e.1)).filter (fun o : Nat =>
    decide (0x4000 ≤ o) && decide (o < 0xC000))
  offs.eraseDups.foldl (fun u o =>
    let v := calOffset s o
    let d := v - s.cal.storeV.get o 0
    let k := (o - 0x4000) / 8
    let l := (o - 0x4000) % 8
    let row := u.stf.offs.get k (List.replicate 8 0)
    { u with
      cal := { u.cal with storeV := u.cal.storeV.put o v 0 }
      stf := { u.stf with offs := u.stf.offs.ins k (row.set l (row.getD l 0 + d)) } }) s

/-- SerDes starting values, and the sensor trims, which the next sample round takes. -/
def calRest (s : State) : State :=
  { s with cal := { s.cal with
    serdes := (List.range 832).foldl (fun m i => m.put (0x2D40 + i) (calOffset s (0x2D40 + i)) 0) s.cal.serdes
    trims := (List.range 72).foldl (fun m i => m.put i (calTrim s i) 0) s.cal.trims } }

/-- CAL_RUN_COMMIT (R415, R416): with all its tokens held the run records its temperatures, interpolates, commits every group
and ends. At the end of full training the trained values are the bases (R413). -/
def doCalRunCommit (s : State) : State :=
  if !awake s then s else
  match s.cal.run with
  | none => s
  | some r =>
    if farHolds s calOwner calTokens then
      let t : State := { s with cal := { s.cal with temps := calTemps s, run := none } }
      let t : State := if r.trigger = 2 then { t with cal := { t.cal with base := [], corr := [] } } else t
      let t := calRest (calStore ((List.range 16).foldl calDrc t))
      let t := ((t.wr R.CAL_STAT_BUSY 0).wr R.CAL_STAT_LASTTJ (t.rd R.SEN_TJ_TJ)).wr R.CAL_RUNS_RUNS (t.rd R.CAL_RUNS_RUNS + 1)
      let t := farDrop t calOwner
      let temps := (calTemps s).map (fun e => ofTemp16 e.2)
      let t := raise t 0x4880 [Config.unstated 30 temps, if r.trigger = 3 then 1 else r.trigger]
      if r.trigger = 3 then cmdDone t (ekey 0x2B10 3) else t
    else s

def execCalRunCommit (s : State) : Out3 := .next (doCalRunCommit s)

/-! ## Regeneration and reload (R418) -/

/-- Byte `off` of set `k` formed at temperature T0 (sixteenths): slope × (35k − T0), rounded half away from zero. -/
def formByte (off k : Nat) (t0 : Int) : Int :=
  let v := roundAway (Config.calSlope off * (560 * (k : Int) - t0)) 1600
  if -128 ≤ v ∧ v ≤ 127 then v else (Config.unstated 34 [off, k, v.natAbs] : Nat)

/-- A formed set: its header, and every offset; trims are words. -/
def formSet (s : State) (k : Nat) : List Nat :=
  let byte := fun off => (formByte off k (governing s (governorOf off)) % 256).toNat
  let trim := fun i =>
    let v := roundAway (Config.calSlope (0x3080 + 2 * i) * (560 * (k : Int) - (if i < 48 then governing s i else temp16 (s.rd R.SEN_TJ_TJ)))) 1600
    leBytes (v % 65536).toNat 2
  let body := (List.range (0x3080 - 0x40)).map (fun j => byte (0x40 + j)) ++ (List.range 72).flatMap trim ++
    List.replicate (0x4000 - 0x3110) 0 ++ (List.range 0x8000).map (fun j => byte (0x4000 + j)) ++ List.replicate 0x4000 0
  ascii "CSFNCALS" ++ [35 * k, 0, 0, 0] ++ leBytes (Crypto.crc32c body) 4 ++ List.replicate 48 0 ++ body

/-- CAL_CMD_REGENERATE (CAL_CMD.GO with OP 2): in RISING only, after full training; the trained values become the bases and
the four sets lie in CAL's RAM. -/
def doCalCmdRegenerate (s : State) : State :=
  if s.dev = .rising ∧ s.takes 16 ∧ s.cal.run = none then
    let t : State := { s with cal := { s.cal with
      base := (List.range 16).foldl (fun m c => (phyTargets c).foldl (fun n p => n.ins p.2.2 ((s.rd p.1 p.2.1 c : Nat) : Int)) m) []
      corr := []
      sets := (List.range 4).foldl (fun m k =>
        ((formSet s k).zipIdx).foldl (fun n b => n.put (k * 65536 + b.2) b.1 0) m) [] } }
    raise t 0x48E0 [Config.unstated 31 ((calTemps s).map (fun e => ofTemp16 e.2))]
  else s

def execCalCmdRegenerate (s : State) : Out3 := .next (doCalCmdRegenerate s)

/-- CAL_CMD_RELOAD (CAL_CMD.GO with OP 3). -/
def doCalCmdReload (s : State) : State := if awake s ∧ s.running 16 then calReload s else s

def execCalCmdReload (s : State) : Out3 := .next (doCalCmdReload s)

end Sys2Proof.Machine
end

