-- ==== Sys2Proof/Machine/Store.lean ====
section
/-! DEFINITION. The meanings of the store flash controller's commands (chapter 11), but for the save path's writes. -/

namespace Sys2Proof.Machine

/-! ## Firmware's reads (R344) -/

/-- STORE_READ: the READ at the head of channel `ch`'s ring: data and metadata to BUF, with retries and rebuild. -/
def doStoreRead (ch : Fin 32) (rd : CwRead) (s : State) : State :=
  match fwFront s ch 1 with
  | none => s
  | some (q, l, buf) =>
    match readDie s l.ch l.die with
    | none => s
    | some t =>
      let r := readCw t l rd (bit q 23)
      if r.2 = 2 then fwComplete r.1 ch 2 rd.corr rd.retries
      else
        let c := anyCw r.1 l
        let raw := bit q 22
        let t := if raw then r.1 else r.1.bump C.XTS_DECUNITS
        let t := dWrite t buf (if raw then (rawBytes t l).take 4128 else cellBytes c.data ++ metaBytes c)
        let t := (List.range 65).foldl (fun u n => lineSound u (buf / 64 + n)) t
        let t := if raw then t else (List.range 64).foldl (fun u n => if bit c.poison n then linePoison u (buf / 64 + n) else u) t
        fwComplete t ch (if c.poison ≠ 0 then 3 else r.2) rd.corr rd.retries

def execStoreRead (ch : Fin 32) (rd : CwRead) (s : State) : Out3 := .next (doStoreRead ch rd s)

/-- Has a die stopped answering (R352)? -/
def dieFailed (s : State) (l : SLoc) : Bool := bit (s.rd R.STF_DIEFAIL l.ch) l.die

/-- STORE_READ_RAW: a whole page as it stands in flash; a FAILED die gives none (Table 11.6). -/
def doStoreReadRaw (ch : Fin 32) (s : State) : State :=
  match fwFront s ch 2 with
  | none => s
  | some (_, l, buf) =>
    if dieFailed s l then fwComplete s ch 0x20 0 0
    else match readDie s l.ch l.die with
    | none => s
    | some t =>
      let page := (List.range 4).flatMap (fun w => rawBytes t { l with cw := w })
      fwComplete (dWrite (t.bump C.STF_READS) buf page) ch 0 0 0

def execStoreReadRaw (ch : Fin 32) (s : State) : Out3 := .next (doStoreReadRaw ch s)

/-- STORE_READ_META: 32 decoded metadata bytes. -/
def doStoreReadMeta (ch : Fin 32) (rd : CwRead) (s : State) : State :=
  match fwFront s ch 3 with
  | none => s
  | some (q, l, buf) =>
    match readDie s l.ch l.die with
    | none => s
    | some t =>
      let r := readCw t l rd (bit q 23)
      if r.2 = 2 then fwComplete r.1 ch 2 rd.corr rd.retries
      else fwComplete (dWrite r.1 buf (metaBytes (anyCw r.1 l))) ch r.2 rd.corr rd.retries

def execStoreReadMeta (ch : Fin 32) (rd : CwRead) (s : State) : Out3 := .next (doStoreReadMeta ch rd s)

/-- STORE_PARAM (R335): the die's 256-byte parameter page, as the part gives it. -/
def doStoreParam (ch : Fin 32) (page : List Nat) (s : State) : State :=
  match fwFront s ch 4 with
  | none => s
  | some (_, l, buf) =>
    if dieFailed s l then fwComplete s ch 0x20 0 0
    else fwComplete (dWrite s buf ((List.range 256).map (fun i => page.getD i 0))) ch 0 0 0

def execStoreParam (ch : Fin 32) (page : List Nat) (s : State) : Out3 := .next (doStoreParam ch page s)

/-! ## Erases and retirements (R348, R349, R352) -/

/-- STORE_ERASE (R349): firmware's ERASE at the head of channel `ch`'s ring, or STF's and SAV's own of superblock `k`. -/
def doStoreErase (fw : Option (Fin 32)) (k : Nat) (s : State) : State :=
  if !awake s then s else
  match fw with
  | some ch =>
    match fwFront s ch 5 with
    | none => s
    | some _ =>
      let n := fwHead s ch
      let k := fwWord s ch n 2 % 2 ^ 17
      if eraseOk s k then
        let t := eraseStart s k
        fwSkip 64 ch (fwNext { t with stf := { t.stf with eraseFw := t.stf.eraseFw.ins k (64 * ch + n) } } ch)
      else s
  | none => if s.running 18 ∧ eraseOk s k then eraseStart s k else s

def execStoreErase (fw : Option (Fin 32)) (k : Nat) (s : State) : Out3 := .next (doStoreErase fw k s)

/-- States in which a member may be retired (R344). -/
def retirable (s : State) (k : Nat) : Bool := decide (k < superblocks s) && [0, 5, 6, 7].contains (blkAt s k).state

/-- STORE_RETIRE (R352): firmware's RETIRE at the head of channel `ch`'s ring, or STF's own. -/
def doStoreRetire (fw : Bool) (ch : Fin 32) (die block cause : Nat) (s : State) : State :=
  if !awake s then s else
  if fw then
    match fwFront s ch 6 with
    | none => s
    | some (_, l, _) =>
      let n := fwHead s ch
      fwComplete (retireMember s (locSb s l) ch (fwWord s ch n 2 % 256)) ch 0 0 0
  else
    let k := block * dpc s + die
    if s.running 18 ∧ die < dpc s ∧ retirable s k then retireMember s k ch cause else s

def execStoreRetire (fw : Bool) (ch : Fin 32) (die block cause : Nat) (s : State) : Out3 :=
  .next (doStoreRetire fw ch die block cause s)

/-- RETIRE_SUPERBLOCK_MEMBER_CMD (R365): the superblock that the session inspects. -/
def doRetireSuperblockMemberCmd (sess ch : Nat) (s : State) : State :=
  if !awake s then s
  else
    let c := ekey 0x2910 6
    let k := sessEnt s sess (ekey 0x2910 1) 0
    let t := cmdRun s c
    if ch < 32 ∧ retirable t k then cmdDone (retireMember t k ch (Config.payloadCode 0x3440 1)) c else cmdFailFree t c

def execRetireSuperblockMemberCmd (sess ch : Nat) (s : State) : Out3 := .next (doRetireSuperblockMemberCmd sess ch s)

/-- Reclaim ends at HIWATER free superblocks (R354). -/
def reclaimEnd (s : State) : State :=
  if s.rd R.STF_RECLAIM_HIWATER ≤ s.rd R.STF_STAT_FREESB then
    { s with stf := { s.stf with reclaim := false, victim := none } }
  else s

/-- Firmware's ERASE of superblock `k` completes. -/
def eraseAnswer (s : State) (k status : Nat) : State :=
  match s.stf.eraseFw.find? k with
  | some n => fwAnswer { s with stf := { s.stf with eraseFw := s.stf.eraseFw.del k } } (n / 64) (n % 64) status 0 0
  | none => s

/-- ERASE_VERIFIED (R348, R349): every remaining member verifies: the erase-done record makes the superblock FREE. -/
def doEraseVerified (k : Nat) (s : State) : State :=
  if !awake s then s else
  if s.stf.erasing.has k then
    let t : State := { s with stf := { s.stf with
      erasing := s.stf.erasing.del k, suspended := s.stf.suspended.del k
      esusp := s.stf.esusp.keep (fun n => decide (n % 32 ≠ k % dpc s)) } }
    reclaimEnd (retireCheck (eraseAnswer (eraseFree t k) k 0) k)
  else s

def execEraseVerified (k : Nat) (s : State) : Out3 := .next (doEraseVerified k s)

/-- ERASE_VERIFY_FAILED (R348, R352): the member is retired, the others continue. -/
def doEraseVerifyFailed (k : Nat) (ch : Fin 32) (s : State) : State :=
  if !awake s then s else
  if bit (s.stf.erasing.get k 0) ch then
    let t : State := { s with stf := { s.stf with
      erasing := s.stf.erasing.ins k (bitClr (s.stf.erasing.get k 0) ch)
      suspended := s.stf.suspended.put k (bitClr (s.stf.suspended.get k 0) ch) 0 } }
    retireMember (showErase t k) k ch (Config.payloadCode 0x3440 2)
  else s

def execEraseVerifyFailed (k : Nat) (ch : Fin 32) (s : State) : Out3 := .next (doEraseVerifyFailed k ch s)

/-- OPERATION_RESUME (R345): no read waits for the die, so its suspended erase or program resumes. -/
def doOperationResume (ch : Fin 32) (die : Nat) (s : State) : State :=
  if !awake s then s else
  let n := 32 * ch + die
  if s.stf.saving then s
  else
    let t : State := { s with stf := { s.stf with phalt := s.stf.phalt.filter (· ≠ n) } }
    match erasingOn t ch die with
    | some k =>
      if bit (t.stf.suspended.get k 0) ch then
        showErase { t with stf := { t.stf with
          suspended := t.stf.suspended.put k (bitClr (t.stf.suspended.get k 0) ch) 0
          resting := t.stf.resting.ins n t.now } } k
      else t
    | none => t

def execOperationResume (ch : Fin 32) (die : Nat) (s : State) : Out3 := .next (doOperationResume ch die s)

/-- ERESMIN_EXPIRY (R346). -/
def doEresminExpiry (ch : Fin 32) (die : Nat) (s : State) : State :=
  if !awake s then s else
  { s with stf := { s.stf with resting := s.stf.resting.del (32 * ch + die) } }

def execEresminExpiry (ch : Fin 32) (die : Nat) (s : State) : Out3 := .next (doEresminExpiry ch die s)

/-- DIE_FAILED (R352). -/
def doDieFailed (ch : Fin 32) (die : Fin 32) (s : State) : State :=
  if !awake s then s else
  if !s.running 18 ∨ bit (s.rd R.STF_DIEFAIL ch) die then s
  else
    let ks := validKeys s (fun l => l.ch = ch.val && l.die = die.val)
    let t := s.wr R.STF_DIEFAIL (bitSet (s.rd R.STF_DIEFAIL ch) die) ch
    relocAdd (raise t (0x3460 + ch) [die, ks.length]) ks

def execDieFailed (ch : Fin 32) (die : Fin 32) (s : State) : Out3 := .next (doDieFailed ch die s)

/-! ## Rows (R340, R341) -/

/-- Cleaning pauses while the rehearsal holds a channel's token (R270). -/
def cleanPaused (s : State) : Bool := (List.range 32).any (fun ch => farHolds s rehearseOwner [16 + ch])

/-- STORE_CLEAN_WRITE (R340): the oldest write-back issued goes into the open row. -/
def doStoreCleanWrite (s : State) : State :=
  if !awake s then s else
  match s.stf.cleanQ with
  | [] => s
  | (ref, w) :: rest =>
    if !s.running 18 ∨ s.dev = .saving ∨ cleanPaused s then s
    else match rowPut s 1 ref w {} with
    | some t => { t with stf := { t.stf with cleanQ := rest } }
    | none => s

def execStoreCleanWrite (s : State) : Out3 := .next (doStoreCleanWrite s)

/-- ROW_STRIPEWAIT_EXPIRY (R341): a row that is not full is completed with pads and programmed. -/
def doRowStripewaitExpiry (s : State) : State :=
  if !awake s then s else
  match s.stf.open_ with
  | some r =>
    if r.programming ∨ r.ents.isEmpty ∨ s.dev = .saving then s
    else
      let n := rowSize s r.sb - r.ents.length
      let pads := (List.range n).map (fun i =>
        ({ what := 0, ref := 0, word := { kind := 5, spage := 0, epoch := 0, poison := 0, data := [] }
           loc := rowLoc s r.sb r.row (r.ents.length + i), source := {} } : RowEnt))
      let t : State := { s with stf := { s.stf with open_ := some { r with ents := r.ents ++ pads, programming := true } } }
      raise (t.bump C.STF_PADDED n) 0x34E0 [r.sb, r.row, n]
  | none => s

def execRowStripewaitExpiry (s : State) : Out3 := .next (doRowStripewaitExpiry s)

/-- WORDLINE_VERIFIED (R340): the row is programmed and verified with its parity. -/
def doWordlineVerified (s : State) : State :=
  if !awake s then s else
  match s.stf.open_ with
  | some r => if r.programming ∧ rowRuns s r then rowDone s r else s
  | none => s

def execWordlineVerified (s : State) : Out3 := .next (doWordlineVerified s)

/-- SUPERBLOCK_OPEN (R351): `bad` says whether a member's cells between erase verify and the lowest level pass SIGTH. -/
def doSuperblockOpen (k : Nat) (bad : Bool) (s : State) : State :=
  if !awake s then s else
  if s.running 18 ∧ k < superblocks s ∧ (blkAt s k).state = 0 ∧ !inSaveArea s k then
    if bad then raise (setBlk s k { blkAt s k with state := 6 }) 0x34A0 [k, Config.payloadCode 0x34A0 1]
    else
      let t := setBlk s k { blkAt s k with state := 3 }
      { t with stf := { t.stf with high := t.stf.high.del k } }
  else s

def execSuperblockOpen (k : Nat) (bad : Bool) (s : State) : Out3 := .next (doSuperblockOpen k bad s)

/-! ## Reclaim and relocation (R353, R354) -/

/-- The FULL store superblock with the fewest valid codewords. -/
def pickVictim (s : State) : Option Nat :=
  (s.maps.blocks.filter (fun e => e.2.state = 4 && !inSaveArea s e.1)).foldl (fun b e =>
    match b with
    | none => some e.1
    | some k => if s.stf.valid.get e.1 0 < s.stf.valid.get k 0 then some e.1 else some k) none

/-- RECLAIM_START (R354). -/
def doReclaimStart (s : State) : State :=
  if !awake s then s else
  let free := s.rd R.STF_STAT_FREESB
  if s.running 18 ∧ free < s.rd R.STF_RECLAIM_LOWATER ∧ !s.stf.reclaim ∧ !s.on R.STF_STAT_WALK then
    let t := raise s 0x34C0 [free, s.rd R.STF_RECLAIM_LOWATER]
    { t with stf := { t.stf with reclaim := true, victim := pickVictim t } }
  else s

def execReclaimStart (s : State) : Out3 := .next (doReclaimStart s)

/-- Sources of the relocations in the open row. -/
def inRow (s : State) (k : Nat) : Bool :=
  match s.stf.open_ with
  | some r => r.ents.any (fun e => e.what = 2 && locKey e.source = k)
  | none => false

/-- The next codeword to relocate: the relocation list first, then the victim's. -/
def nextReloc (s : State) : Option Nat :=
  match s.stf.reloc with
  | k :: _ => some k
  | [] => match s.stf.victim, s.stf.reclaim with
    | some v, true => (validKeys s (fun l => locSb s l = v)).find? (fun k => !inRow s k)
    | _, _ => none

/-- May the row take one more relocation: half of the data slots while the free superblocks are at least LOWATER / 2? -/
def relocShare (s : State) : Bool :=
  match fillRow s with
  | none => false
  | some r => decide (2 * s.rd R.STF_STAT_FREESB < s.rd R.STF_RECLAIM_LOWATER) ||
      decide (2 * ((r.ents.filter (fun e => e.what = 2)).length + 1) ≤ rowSize s r.sb)

/-- STORE_RELOCATE (R354): one valid codeword is moved into the open row. -/
def doStoreRelocate (rd : CwRead) (s : State) : State :=
  if !awake s then s else
  let s : State := match s.stf.victim with
    | some v => if s.stf.valid.get v 0 = 0 then { s with stf := { s.stf with victim := pickVictim s } } else s
    | none => s
  match nextReloc s with
  | none => s
  | some k =>
    let drop := fun (u : State) => { u with stf := { u.stf with reloc := u.stf.reloc.filter (· ≠ k) } }
    let l := keyLoc k
    match refOf s k with
    | none => drop s
    | some ref =>
      if !s.running 18 ∨ s.dev = .saving ∨ s.on R.STF_STAT_WALK ∨ inRow s k ∨ !relocShare s then (if inRow s k then drop s else s)
      else match readDie s l.ch l.die with
      | none => s
      | some t =>
        let q := readCw t l rd false
        let t := drop q.1
        if q.2 = 2 then lostCw t ref
        else match rowPut (t.bump C.XTS_DECUNITS) 2 ref (cwAt t l) l with
        | some u => u
        | none => s

def execStoreRelocate (rd : CwRead) (s : State) : Out3 := .next (doStoreRelocate rd s)

/-! ## Starts and walks (R350, R353) -/

/-- A block state entry as the walk of R350 leaves it. -/
def walkEntry (s : State) (k : Nat) : State :=
  let b := blkAt s k
  match b.state with
  | 1 | 2 => raise (setBlk s k { b with state := 6 }) 0x34A0 [k, Config.payloadCode 0x34A0 0]
  | 3 => setBlk s k { b with state := 4 }
  | _ => s

/-- A blank device: every entry SUSPECT, or RETIRED where more than 8 members are gone. -/
def blankEntry (ds : List (Nat × Nat × Nat)) (s : State) (k : Nat) : State :=
  let m := ds.foldl (fun a d => if d.2.1 = k % dpc s ∧ d.2.2 = k / dpc s then bitSet a d.1 else a) 0
  setBlk s k { state := if 8 < ones m then 7 else 6, retmask := m, erases := (blkAt s k).erases }

/-- Free store superblocks. -/
def countFree (s : State) : Nat :=
  ((List.range (superblocks s)).filter (fun k => decide ((blkAt s k).state = 0) && !inSaveArea s k)).length

/-- Is the map area resident: DRAM retained, or step 3 of Table 8.6 past (R350)? -/
def mapResident (s : State) : Bool :=
  s.on R.RST_RETAIN_WARM || decide (s.dev = .serving) || decide (s.dev = .saving) ||
  (decide (s.dev = .restoring) && decide (4 ≤ s.sav.rstep))

/-- STF_START_WALK (R350): die resets abandon what was suspended; the block state table is walked once the map area is resident; the
valid-count walk begins. -/
def doStfStartWalk (s : State) : State :=
  if !awake s then s else
  if !s.running 18 ∨ s.stf.walked ∨ !mapResident s then s
  else
    let t : State := { s with stf := { s.stf with
      walked := true, erasing := [], suspended := [], esusp := [], resting := [], phalt := [], open_ := none } }
    let t := if t.maps.blocksInit then (List.range (superblocks t)).foldl walkEntry t
      else
        let ds := defects t ++ anchors t
        let u := (List.range (superblocks t)).foldl (blankEntry ds) t
        raise { u with maps := { u.maps with blocksInit := true } } 0x34A0 [0, Config.payloadCode 0x34A0 2]
    (t.wr R.STF_STAT_FREESB (countFree t)).wr R.STF_STAT_WALK 1

def execStfStartWalk (s : State) : Out3 := .next (doStfStartWalk s)

/-- The valid counts by superblock. -/
def countValid (s : State) : Sparse Nat :=
  ((s.maps.store ++ s.maps.locator ++ s.maps.root).filter (fun e => e.2.sstate = 1)).foldl
    (fun m e => m.ins (locSb s e.2) (m.get (locSb s e.2) 0 + 1)) []

/-- VALID_COUNT_WALK_DONE (R353). -/
def doValidCountWalkDone (s : State) : State :=
  if !awake s then s else
  if s.on R.STF_STAT_WALK then
    let t : State := { s with stf := { s.stf with valid := countValid s } }
    let t := (t.maps.blocks.filter (fun e => e.2.state = 4 && !inSaveArea t e.1)).foldl (fun u e =>
      if u.stf.valid.get e.1 0 = 0 then setBlk u e.1 { e.2 with state := 5 } else u) t
    t.wr R.STF_STAT_WALK 0
  else s

def execValidCountWalkDone (s : State) : Out3 := .next (doValidCountWalkDone s)

/-! ## Patrol (R357) -/

/-- PATROL_PACE (R357): the next PATROL_READ of the channel asks for its token. -/
def doPatrolPace (ch : Fin 32) (s : State) : State :=
  if s.dev = .serving ∧ s.running 18 ∧ s.running 19 then farAsk s (256 + ch) (16 + ch) else s

def execPatrolPace (ch : Fin 32) (s : State) : Out3 := .next (doPatrolPace ch s)

/-- The next valid codeword of a channel in superblock order, past key `after`. -/
def nextPatrol (s : State) (ch after : Nat) : Option Nat :=
  (validKeys s (fun l => l.ch = ch && decide (after ≤ locKey l))).foldl (fun b k =>
    match b with
    | none => some k
    | some x => some (min x k)) none

/-- The patrol record of a channel. -/
def patrolAt (s : State) (ch : Nat) : List Nat := s.grm.patrol.get ch [0, s.now, 0]
def setPatrol (s : State) (ch : Nat) (x : List Nat) : State := { s with grm := { s.grm with patrol := s.grm.patrol.ins ch x } }

/-- STORE_PATROL_READ (R357): one read under the channel's patrol token, released when it ends; fills are served before it (R344). What it
stages looks up its extent as a
streaming source (R106). -/
def doStorePatrolRead (ch : Fin 32) (rd : CwRead) (s : State) : State :=
  if s.dev = .serving ∧ s.running 18 ∧ farHolds s (256 + ch) [16 + ch.val] ∧ fillsServed s ch then
    let x := patrolAt s ch
    match nextPatrol s ch (x.getD 0 0) with
    | none =>
      let t := raise s 0x3520 [ch, (s.now - x.getD 1 0) / 86400000000, x.getD 2 0]
      farRelease (setPatrol t ch [0, t.now, 0]) (256 + ch) (16 + ch)
    | some k =>
      let l := keyLoc k
      match readDie s ch l.die with
      | none => s
      | some t =>
        let q := readCw (t.bump C.STF_PATROL) l rd false
        let move := q.2 = 1 ∨ (q.2 = 0 ∧ (rd.retries ≠ 0 ∨ s.rd R.STF_PATROL_REFRESHTH ≤ rd.corr))
        let t := if move then relocAdd q.1 [k] else q.1
        let t := match refOf t k with
          | some ref => if (move ∨ q.2 = 2) ∧ ref % 3 = 0 then streamLookup t (ref / 3 / 512) else t
          | none => t
        let t := if q.2 = 2 then (match refOf t k with | some ref => lostCw t ref | none => t) else t
        let t := setPatrol t ch [k + 1, x.getD 1 0, x.getD 2 0 + (if move then 1 else 0)]
        farRelease t (256 + ch) (16 + ch)
  else s

def execStorePatrolRead (ch : Fin 32) (rd : CwRead) (s : State) : Out3 := .next (doStorePatrolRead ch rd s)

/-- STF_FWTAIL_WRITE (R344): the ring's tail advances; refused descriptors at the head complete at once. -/
def doStfFwtailWrite (ch : Fin 32) (tail : Fin 64) (s : State) : State :=
  if !awake s then s
  else
    let t := (s.wr R.STF_FWTAIL_CH ch).wr R.STF_FWTAIL_TAIL tail
    fwSkip 64 ch { t with stf := { t.stf with tail := t.stf.tail.ins ch tail } }

def execStfFwtailWrite (ch : Fin 32) (tail : Fin 64) (s : State) : Out3 := .next (doStfFwtailWrite ch tail s)

end Sys2Proof.Machine
end

