-- ==== Sys2Proof/Machine/Action.lean ====
section
/-! DEFINITION. What the write-only bits of the registers start (the GO, COMMIT, PUSH and KICK bits of chapters 01 to 15),
the gate page's GO, SNAP and GRPCOMMIT (R58, R59, R63), and a write of a control-space word. -/

namespace Sys2Proof.Machine

/-! ## Starting and stopping a block (R58, R59) -/

/-- The start checks of DRC[c]: SPEED against the clock and the DIMM count (R310), and the stripe and geometry fields
against DRC[0] (R304). Answers the event of the first that fails. -/
def drcStart (s : State) (c : Nat) : Option (Nat × List Nat) :=
  let same := fun (F : Fld) => decide (s.rd F 0 c = s.rd F 0 0)
  if (s.rd R.DRC_CFG_DPC 0 c = 1 ∧ s.rd R.DRC_CFG_SPEED 0 c = 0) ∨ s.rd R.DRC_CFG_SPEED 0 c ≠ s.rd R.CLK_CFG_VCO then
    some (0x2C80 + c, [configWord s (42 + c) 0x44])
  else if !(same R.DRC_ADDRMAP_GRAIN && same R.DRC_ADDRMAP_WIDTH && same R.DRC_ADDRMAP_ROWBITS && same R.DRC_ADDRMAP_RANKBITS)
    then some (0x14A0 + c, [c, configWord s (42 + c) 0x40])
  else none

/-- The start check of XPT[p]: its context area is that of XPT[0] (R122). -/
def xptStart (s : State) (p : Nat) : Option (Nat × List Nat) :=
  if s.rd R.XPT_CTXCFG_LOC 0 p = s.rd R.XPT_CTXCFG_LOC ∧ s.rd R.XPT_CTXCFG_DGROUP 0 p = s.rd R.XPT_CTXCFG_DGROUP ∧
      s.rd R.XPT_CTXHBASE_HPAGE 0 p = s.rd R.XPT_CTXHBASE_HPAGE then none
  else some (0x1100 + p, [p, s.rd R.XPT_CTXCFG_LOC 0 p, s.rd R.XPT_CTXCFG_DGROUP 0 p, s.rd R.XPT_CTXHBASE_HPAGE 0 p])

/-- Groups that TIE's charge area needs (R227): the group table, DGROUPS records, and rings for quotas of DGROUPS groups in all, with the
overdraft of 1,024 tenants. -/
def chargeGroups (s : State) : Nat :=
  groupsOf (8 * dgroups s) + groupsOf (256 * dgroups s) + groupsOf (8 * (dgroups s + 1024 * s.rd R.TIE_QOVER_QOVER))

/-- TIE's start check (R221): the data groups lie above the map area, and the charge area in the reserved groups and is large enough.
The map end is the one that PEXT and DGROUPS give now, whether TRN has started or not (log entry 149). -/
def tieStart (s : State) : Option (Nat × List Nat) :=
  let need := chargeGroups s
  let base := s.rd R.TIE_CHGBASE_BASE
  let size := s.rd R.TIE_CHGSIZE_SIZE
  let me := mapEndOf (pext s) (dgroups s)
  if s.rd R.TIE_DATABASE_DATABASE ≤ me ∨ size < need ∨ base < me ∨ s.rd R.TIE_DATABASE_DATABASE < base + size then
    some (0x1D60, [s.rd R.TIE_DATABASE_DATABASE, base, size, need])
  else none

/-- Groups that TWN's log area needs at least: its headers, a directory entry of 4 bytes for each extent, and a pool (R205). -/
def logGroups (s : State) : Nat := 2 + groupsOf (4 * pext s)

/-- Does block `n` fail its start checks? Answers the event. -/
def startRefusal (s : State) (n : Nat) : Option (Nat × List Nat) :=
  if 42 ≤ n then drcStart s (n - 42)
  else if 34 ≤ n then
    (if jobAreaBad s then some (0x28A0, [jlBase s, jlPages s, pext s]) else none)
  else if 30 ≤ n then xptStart s (n - 30)
  else if n = 25 then (if layoutBad s then some (0x1480, [pext s, dgroups s, mapEndOf (pext s) (dgroups s)]) else none)
  else if n = 23 then tieStart s
  else if n = 18 then (if geometryBad s then some (0x3540, [configWord s 18 0x40]) else none)
  else none

/-- What TRN shows of its layout check at a start (R98), and STF of its geometry check. -/
def startShown (s : State) (n : Nat) (bad : Bool) : State :=
  if n = 25 then
    let t := (s.wr R.TRN_MAPSTAT_BADLAYOUT (b2n bad)).wr R.TRN_MAPSTAT_LAYOUTOK (b2n !bad)
    if bad then t
    else
      let p := pext s
      let d := dgroups s
      (((t.wr R.TRN_MAPSTAT_MAPEND (mapEndOf p d)).wr R.TRN_EXTBASE (extBaseOf p d)).wr R.TRN_FRMBASE (frmBaseOf p d)).wr
        R.TRN_STMBASE (stmBaseOf p d)
  else if n = 18 then s.wr R.STF_STAT_GEOMBAD (b2n bad)
  else s

/-- GO = 1 (R58): the block runs once its start checks pass, TRN with a recount of the dirty set (R248); a lane of XTS that failed its self-test holds STF (R466), and a log
area that is too small holds TWN. -/
def startBlock (s : State) (n : Nat) : State :=
  let t := (s.wr R.BLKCTRL_GO 1 0 n).wr R.BLKSTAT_STARTED 1 0 n
  if s.running n then t.wr R.BLKSTAT_STOPPING 0 0 n
  else
    match startRefusal s n with
    | some (code, payload) => raise (startShown t n true) code payload
    | none =>
      let t := startShown t n false
      if (n = 18 ∧ t.rd R.XTS_STAT_LANEFAIL ≠ 0) ∨ (n = 24 ∧ t.rd R.TWN_LOGSIZE_LOGSIZE < logGroups t) then t
      else
        let u := t.wr R.BLKSTAT_RUNNING 1 0 n
        if 34 ≤ n ∧ n ≤ 41 then showMst u else if n = 23 then showGroups u else if n = 25 then recountDirty u else u

/-- Does block `n` still hold work that a stop lets drain (R58)? -/
def blockBusy (s : State) (n : Nat) : Bool :=
  match n with
  | 1 => s.dic.cur.isSome
  | 16 => s.cal.run.isSome
  | 17 => s.kpf.busy
  | 18 => s.stf.open_.isSome || s.stf.erasing.any (fun e => decide (e.2 ≠ 0)) || !s.stf.cleanQ.isEmpty
  | 22 => s.sav.cause.isSome || s.sav.rehearsal.isSome
  | 23 => !s.tie.moves.isEmpty || !s.tie.fills.isEmpty
  | 25 => !s.trn.fills.isEmpty || !s.trn.updq.isEmpty
  | _ =>
    if 30 ≤ n ∧ n ≤ 33 then s.xpt.reqs.any (fun r => decide (pipeOf r.lport = n - 30) && !r.mst)
    else if 34 ≤ n ∧ n ≤ 41 then s.mst.jobs.any (fun j => decide (j.mst = n - 34) && !j.ops.isEmpty)
    else if 42 ≤ n then
      match s.drc.find? (n - 42) with | some d => d.trn.isSome || d.retrain.isSome | none => false
    else false

/-- The block has drained: it stands at its quiet point; the logical ports of a PRT go down with it. -/
def finishStop (s : State) (n : Nat) : State :=
  let t := (s.wr R.BLKSTAT_RUNNING 0 0 n).wr R.BLKSTAT_STOPPING 0 0 n
  let t := gaitTake (quietPoint t n) n
  let t := if 26 ≤ n ∧ n ≤ 29 then
      portsIdle ((List.range 4).foldl (fun u j => if portUp u (4 * (n - 26) + j) then linkDown u (4 * (n - 26) + j) 4 else u) t) (fun p => p = n - 26)
    else t
  if 34 ≤ n ∧ n ≤ 41 then showMst t else t

/-- GO = 0: refused on the main road in SERVING; otherwise the block takes nothing new and drains, STOPPING while it holds work. -/
def stopBlock (s : State) (n : Nat) : State × Nat :=
  if s.dev = .serving ∧ mainRoad n then (s, stBusy)
  else
    let t := s.wr R.BLKCTRL_GO 0 0 n
    (if s.running n ∧ blockBusy s n then t.wr R.BLKSTAT_STOPPING 1 0 n else finishStop t n, stOk)

/-- The stops whose block has drained end. -/
def settleStops (s : State) : State :=
  (List.range 58).foldl (fun t n => if t.on R.BLKSTAT_STOPPING 0 n ∧ !blockBusy t n then finishStop t n else t) s

/-- A write of <P>_BLKCTRL.GO. -/
def goWrite (s : State) (n : Nat) (go : Bool) : State × Nat := if go then (startBlock s n, stOk) else stopBlock s n

/-- <P>_BLKCTRL.GRPCOMMIT (R63): every written apply group of the block goes to the quiet point. The sequence tables and the gait
rows are checked first, and the lend table is committed through TIE_HCTL alone. -/
def groupCommit (s : State) (n : Nat) : State :=
  if n = 12 then seqCommit s
  else if n = 0 then (gaitCommit s).1
  else if n = 23 then
    let t := releaseGroup s 23 (fun k => decide (k / 32 % 1048576 < 0x100))
    let t : State := { t with dic := { t.dic with owners := t.dic.owners.del 3 } }
    if t.running 23 then t else tieQuiet t
  else releaseGroup s n (fun _ => true)

/-- DIC_SNAPCTL.GO (R68): every block into its bank 0 in one cycle. -/
def snapAll (s : State) : State :=
  let t := (List.range 58).foldl snapBlock s
  t.wr R.DIC_SNAPGEN_GEN (t.rd R.DIC_SNAPGEN_GEN + 1)

/-! ## Cancelling a staging (R452) -/

/-- UPD_CMD OP 1 or 0x2C30.09: a REJECTED record with reason 0, and STAGING EMPTY. -/
def cancelStaging (s : State) : State :=
  let base := imageBase 2
  let t := commitAppend s 0x11 0 0 (kle s (base + 16) 4) (imageVersion s base)
  let t : State := { t with svc := { t.svc with staged := [], stageLen := 0 } }
  showUpdate (t.wr R.UPD_STAT_PROGRESS 0)

/-! ## Extension loads (R74) -/

/-- A load (1) or clear (2) of the extension table is asked for: BUSY until it has run between frames. -/
def extAsk (s : State) (op : Nat) : State :=
  { s with dic := { s.dic with extPend := s.dic.extPend ++ [op] } }.wr R.DIC_EXTSTAT_BUSY 1

/-! ## MDIO (R77) -/

/-- Microseconds that a clause-22 transaction takes at 2.5 MHz: a preamble of 32 bits and a frame of 32. -/
def mdioTime : Nat := 26

/-- MGT_MDIO.GO: one clause-22 transaction, BUSY until it ends (`mdioEnd`); `rdata` is what the PHY answers to a read. While one is
under way a GO starts none (log entry 158). -/
def mdioRun (s : State) (rdata : Nat) : State :=
  if s.mdio.isSome then s
  else
    let w := s.on R.MGT_MDIO_WRITE
    let t := s.emit (.mdio w (s.rd R.MGT_MDIO_PHYAD) (s.rd R.MGT_MDIO_REGAD) (s.rd R.MGT_MDIO_DATA))
    { t with mdio := some (s.now + mdioTime, if w then none else some rdata) }.wr R.MGT_MDIOSTAT_BUSY 1

/-- The MDIO transaction's time has passed: BUSY ends, and a read leaves its data in MDIOSTAT. -/
def mdioEnd (s : State) : State :=
  match s.mdio with
  | none => s
  | some (t, r) =>
    if s.now < t then s
    else
      let u := { s with mdio := none }.wr R.MGT_MDIOSTAT_BUSY 0
      match r with | none => u | some v => u.wr R.MGT_MDIOSTAT_RDATA v

/-! ## The action bits -/

/-- TWN_CMD (R203 to R206). -/
def twnGo (s : State) : State := if twnRuns s then twnCmd (s.rd R.TWN_CMD_OP) s else s

/-- TIE_HCTL: whether the first and last pages of the ranges can be read is the management server's doing (log entry 114). -/
def tieHctl (s : State) : State :=
  if s.rd R.TIE_HCTL_OP = 1 then doLendCommit false (Config.unstated 62 [s.now] % 2 = 1) s else doLendRevoke false s

/-- TIE_TENCTL. -/
def tieTenctl (s : State) : State :=
  let i : Fin 1024 := ⟨s.rd R.TIE_TENCTL_INDEX % 1024, Nat.mod_lt _ (by decide)⟩
  match s.rd R.TIE_TENCTL_OP with
  | 0 => doTenantWrite i s
  | 1 => doTenantRead i s
  | _ => doTenantCommit false s

/-- MST_SUBMIT. -/
def mstSubmit (s : State) : State :=
  match s.rd R.MST_SUBMIT_OP with
  | 0 => doJobSubmit (s.rd R.MST_SUBMIT_INDEX) s
  | 1 => doJobCancel (s.rd R.MST_SUBMIT_INDEX) s
  | _ => doJobRequeue (s.rd R.MST_SUBMIT_INDEX) s

/-- MST_QPUPD. -/
def mstQpupd (s : State) : State :=
  match s.rd R.MST_QPUPD_OP with
  | 0 => doMstQpWrite s
  | 1 => doMstQpRead s
  | _ => doMstQpToError s

/-- XPT_QPUPD. -/
def xptQpupd (s : State) (p : Fin 4) : State :=
  match s.rd R.XPT_QPUPD_OP 0 p with
  | 0 => doXptQpWrite p s
  | 1 => doXptQpRead p s
  | 2 => doXptQpToError p s
  | _ => doXptQpWritebackEvict p s

/-- DRC_TRNCTL. -/
def drcTrnctl (s : State) (c : Fin 16) : State :=
  match s.rd R.DRC_TRNCTL_OP 0 c with
  | 1 => doTrainingOpWrite c s
  | 2 => doTrainingOpCompare c s
  | 3 => doTrainingOpMrr c s
  | 4 => doTrainingOpCaLoopback c s
  | _ => s

/-- CAL_CMD. -/
def calGo (s : State) : State :=
  match s.rd R.CAL_CMD_OP with
  | 1 => doCalCmdRun s
  | 2 => doCalCmdRegenerate s
  | 3 => doCalCmdReload s
  | _ => s

/-- The action words of the control complex's windows; KICK, CKGO and ALIVE are the running cluster's own. -/
def cpxAct (s : State) (n off v : Nat) : State :=
  let own := decide (n = 5 + activeCluster s)
  if off = 0x68 ∧ bit v 31 then
    (if s.rd R.CPX_SWITCH_OP = 1 then returnGo s false else clearGo s (1 - activeCluster s) false)
  else if off = 0x6C ∧ bit v 31 then ringTailGo s
  else if off = 0x304 ∧ own then doWatchdogKick (v % 16) s
  else if off = 0x308 ∧ bit v 0 ∧ own then checkpointGo s
  else if off = 0x30C ∧ bit v 0 ∧ own then alive s
  else s

/-- What the write-only bits of the written word `v` start, the word's other fields having been taken. -/
def act (s : State) (n off v : Nat) : State :=
  let go := bit v 31
  if n = 0 ∧ off = 0x48 ∧ go then (askGait s (s.rd R.GAI_REQ_GAIT)).1
  else if n = 0 ∧ off = 0x4C then
    let t := if bit v 30 then gaitDefaults s else s
    if go then (gaitCommit t).1 else t
  else if n = 1 ∧ off = 0x40 ∧ bit v 0 then snapAll s
  else if n = 1 ∧ off = 0x54 then
    let t := if bit v 30 then extAsk s 2 else s
    if go then extAsk t 1 else t
  else if n = 4 ∧ off = 0x50 ∧ go then cancelStaging s
  else if n = 5 ∨ n = 6 then cpxAct s n off v
  else if n = 7 ∧ off = 0x70 then
    let t := if go then keyPush s else s
    if bit v 30 then keyTake t else t
  else if n = 11 ∧ off = 0x6C ∧ go then mdioRun s (Config.unstated 50 [s.rd R.MGT_MDIO_PHYAD, s.rd R.MGT_MDIO_REGAD, s.now])
  else if n = 12 ∧ off = 0x68 ∧ go then marginGo s false
  else if n = 13 ∧ off = 0x50 ∧ go then
    softReset s ⟨BitVec.ofNat 8 (s.rd R.RST_REQ_LEVEL), BitVec.ofNat 8 (s.rd R.RST_REQ_BLOCK), true⟩ false
  else if n = 16 ∧ off = 0x44 ∧ go then calGo s
  else if n = 17 ∧ off = 0x60 then
    let t := if go then kpfPush s else s
    if bit v 30 then kpfTake t else t
  else if n = 18 ∧ off = 0x68 ∧ go then
    doStfFwtailWrite ⟨s.rd R.STF_FWTAIL_CH % 32, Nat.mod_lt _ (by decide)⟩ ⟨s.rd R.STF_FWTAIL_TAIL % 64, Nat.mod_lt _ (by decide)⟩ s
  else if n = 23 ∧ off = 0x68 ∧ go then tieHctl s
  else if n = 23 ∧ off = 0xA0 ∧ go then tieTenctl s
  else if n = 24 ∧ off = 0x80 ∧ go then twnGo s
  else if n = 25 ∧ off = 0x88 ∧ bit v 8 then doTrnUpdate s
  else if n = 25 ∧ off = 0x90 then
    let t := if bit v 0 then doTrnInvalL1 s else s
    if bit v 1 then doTrnInvalL2 t else t
  else if 26 ≤ n ∧ n ≤ 29 ∧ off = 0x48 then
    doPrtRelinkWrite ⟨(n - 26) % 4, Nat.mod_lt _ (by decide)⟩ (BitVec.ofNat 4 v) s
  else if 30 ≤ n ∧ n ≤ 33 ∧ off = 0x80 ∧ go then xptQpupd s ⟨(n - 30) % 4, Nat.mod_lt _ (by decide)⟩
  else if 34 ≤ n ∧ n ≤ 41 ∧ off = 0x50 ∧ go then mstSubmit s
  else if 34 ≤ n ∧ n ≤ 41 ∧ off = 0x68 ∧ bit v 0 then doCompletionTake s
  else if 34 ≤ n ∧ n ≤ 41 ∧ off = 0x78 ∧ go then doJobWritePort s
  else if 34 ≤ n ∧ n ≤ 41 ∧ off = 0x80 ∧ go then mstQpupd s
  else if 42 ≤ n ∧ n ≤ 57 ∧ off = 0x100 ∧ go then drcTrnctl s ⟨(n - 42) % 16, Nat.mod_lt _ (by decide)⟩
  else s

/-- BLKCTRL of block `n`: SNAP, then GRPCOMMIT, then GO. -/
def blkctrl (s : State) (n v : Nat) : State × Nat :=
  let t := if bit v 8 then snapBlock s n else s
  let t := if bit v 16 then groupCommit t n else t
  goWrite t n (bit v 0)

/-- The entry of rail `r` was written: PWR reads its regulator's VOUT_MODE (command 0x20), by which it decodes the readings (R384). -/
def readMode (s : State) (r : Nat) : State :=
  let a := s.shadowed R.PWR_RAIL_PMBADDR r
  if a = 0 then s else s.emit (.pmbus a 0x20 [])

/-- What follows from a register value that has just been taken: PCI_CFG.ENABLE at 0 holds the link down (R78). -/
def afterWrite (s : State) (n : Nat) : State :=
  if 34 ≤ n ∧ n ≤ 41 then showMst s
  else if n = 9 ∧ !s.on R.PCI_CFG_ENABLE ∧ s.on R.PCI_STAT_LINKUP then hostDown (showPci s false 0 0)
  else s

/-- A write of word `off` of block `n` from the control space or through a door that acts as one: the fields by their apply
classes, then what its write-only bits start unless the write was refused. -/
def regWrite (s : State) (n off v writer : Nat) : State × Nat :=
  if off = 4 then blkctrl s n v
  else if n = 0 ∧ 0x100 ≤ off then (rowWrite s ((off - 0x100) / 16) ((off - 0x100) / 4 % 4) v, stOk)
  else
    let q := writeWord s n off v writer
    let t := afterWrite q.1 n
    let t := if n = 12 ∧ 0x100 ≤ off ∧ off < 0x160 then readMode t ((off - 0x100) / 4) else t
    if q.2 = stOk then (act t n off v, stOk) else (t, q.2)

/-- XPT_MISSSTAT.FULL ends 1 µs after the last packet that was refused room (Table 4.8). -/
def missRoom (s : State) : State :=
  s.xpt.fullAt.foldl (fun t e =>
    if e.2 < t.now then
      { t with xpt := { t.xpt with fullAt := t.xpt.fullAt.del e.1 } }.wr R.XPT_MISSSTAT_FULL 0 0 e.1
    else t) s

/-- A microsecond that no command ends (log entry 2): the clock counts, running commands make progress, the management port's
transaction ends, the Visil link tells what it owes, the host ports send what waited, the DRCs write what their queues hold, drained blocks
stop, and GOV acts by what D has become. -/
def tick (s : State) : State := govFollow (settleStops (drainWrites (drainPorts (linkTick (mdioEnd (missRoom (progressRise (clock (settleMoves s)))))))))

end Sys2Proof.Machine
end

