-- ==== Sys2Proof/Machine/DicTable.lean ====
section
/-! DEFINITION. The dictionary's entries (Tables 0.4, 1.10, 2.15, 2.22, 3.14, 4.9, 5.7, 6.16, 7.11, 8.9, 9.12, 10.12, 11.15,
12.13, 13.9, 14.17, 15.6): index, subindices, type and rights. -/

namespace Sys2Proof.Machine

/-- Entries `lo` to `hi` of an index: type code of Table 2.1, and the rights of observer, operator and keeper as Table 2.18
codes them: 0 none, 1 RO, 2 RW, 3 WO, 4 RWS, 5 CMD. -/
structure DicRow where
  index : Nat
  lo : Nat
  hi : Nat
  typ : Nat
  robs : Nat
  ropr : Nat
  rkpr : Nat
  deriving DecidableEq, Repr

namespace Dict

/-- Indices 0x1000 to 0x10FF. -/
def rows10 : List DicRow :=
  [⟨0x1000, 1, 2, 12, 1, 1, 1⟩, ⟨0x1000, 3, 3, 2, 1, 1, 1⟩, ⟨0x1000, 4, 4, 1, 1, 1, 1⟩, ⟨0x1000, 5, 5, 9, 1, 1, 1⟩,
   ⟨0x1000, 6, 7, 1, 1, 1, 1⟩, ⟨0x1000, 8, 8, 4, 1, 1, 1⟩, ⟨0x1000, 16, 22, 3, 1, 1, 1⟩]

/-- Indices 0x1100 to 0x11FF. -/
def rows11 : List DicRow :=
  [⟨0x1100, 1, 2, 8, 1, 1, 1⟩, ⟨0x1100, 3, 3, 8, 1, 2, 2⟩, ⟨0x1100, 4, 4, 8, 1, 1, 1⟩, ⟨0x1100, 5, 5, 9, 1, 1, 1⟩,
   ⟨0x1100, 6, 6, 2, 1, 1, 1⟩, ⟨0x1100, 7, 7, 3, 1, 1, 1⟩, ⟨0x1100, 8, 8, 14, 0, 5, 5⟩, ⟨0x1100, 9, 9, 14, 0, 0, 5⟩,
   ⟨0x1110, 1, 1, 8, 1, 2, 2⟩, ⟨0x1110, 2, 2, 1, 1, 2, 2⟩, ⟨0x1110, 3, 3, 10, 1, 2, 2⟩, ⟨0x1110, 4, 4, 1, 1, 2, 2⟩,
   ⟨0x1110, 5, 5, 10, 1, 2, 2⟩, ⟨0x1110, 6, 6, 1, 1, 2, 2⟩, ⟨0x1110, 7, 7, 9, 1, 2, 2⟩, ⟨0x1110, 8, 8, 8, 1, 2, 2⟩,
   ⟨0x1110, 9, 9, 1, 1, 2, 2⟩, ⟨0x1110, 10, 10, 2, 1, 2, 2⟩, ⟨0x1111, 1, 1, 8, 1, 2, 2⟩, ⟨0x1111, 2, 2, 1, 1, 2, 2⟩,
   ⟨0x1111, 3, 3, 10, 1, 2, 2⟩, ⟨0x1111, 4, 4, 1, 1, 2, 2⟩, ⟨0x1111, 5, 5, 10, 1, 2, 2⟩, ⟨0x1111, 6, 6, 1, 1, 2, 2⟩,
   ⟨0x1111, 7, 7, 9, 1, 2, 2⟩, ⟨0x1111, 8, 8, 8, 1, 2, 2⟩, ⟨0x1111, 9, 9, 1, 1, 2, 2⟩, ⟨0x1111, 10, 10, 2, 1, 2, 2⟩,
   ⟨0x1112, 1, 1, 8, 1, 2, 2⟩, ⟨0x1112, 2, 2, 1, 1, 2, 2⟩, ⟨0x1112, 3, 3, 10, 1, 2, 2⟩, ⟨0x1112, 4, 4, 1, 1, 2, 2⟩,
   ⟨0x1112, 5, 5, 10, 1, 2, 2⟩, ⟨0x1112, 6, 6, 1, 1, 2, 2⟩, ⟨0x1112, 7, 7, 9, 1, 2, 2⟩, ⟨0x1112, 8, 8, 8, 1, 2, 2⟩,
   ⟨0x1112, 9, 9, 1, 1, 2, 2⟩, ⟨0x1112, 10, 10, 2, 1, 2, 2⟩, ⟨0x1113, 1, 1, 8, 1, 2, 2⟩, ⟨0x1113, 2, 2, 1, 1, 2, 2⟩,
   ⟨0x1113, 3, 3, 10, 1, 2, 2⟩, ⟨0x1113, 4, 4, 1, 1, 2, 2⟩, ⟨0x1113, 5, 5, 10, 1, 2, 2⟩, ⟨0x1113, 6, 6, 1, 1, 2, 2⟩,
   ⟨0x1113, 7, 7, 9, 1, 2, 2⟩, ⟨0x1113, 8, 8, 8, 1, 2, 2⟩, ⟨0x1113, 9, 9, 1, 1, 2, 2⟩, ⟨0x1113, 10, 10, 2, 1, 2, 2⟩,
   ⟨0x1114, 1, 1, 8, 1, 2, 2⟩, ⟨0x1114, 2, 2, 1, 1, 2, 2⟩, ⟨0x1114, 3, 3, 10, 1, 2, 2⟩, ⟨0x1114, 4, 4, 1, 1, 2, 2⟩,
   ⟨0x1114, 5, 5, 10, 1, 2, 2⟩, ⟨0x1114, 6, 6, 1, 1, 2, 2⟩, ⟨0x1114, 7, 7, 9, 1, 2, 2⟩, ⟨0x1114, 8, 8, 8, 1, 2, 2⟩,
   ⟨0x1114, 9, 9, 1, 1, 2, 2⟩, ⟨0x1114, 10, 10, 2, 1, 2, 2⟩, ⟨0x1115, 1, 1, 8, 1, 2, 2⟩, ⟨0x1115, 2, 2, 1, 1, 2, 2⟩,
   ⟨0x1115, 3, 3, 10, 1, 2, 2⟩, ⟨0x1115, 4, 4, 1, 1, 2, 2⟩, ⟨0x1115, 5, 5, 10, 1, 2, 2⟩, ⟨0x1115, 6, 6, 1, 1, 2, 2⟩,
   ⟨0x1115, 7, 7, 9, 1, 2, 2⟩, ⟨0x1115, 8, 8, 8, 1, 2, 2⟩, ⟨0x1115, 9, 9, 1, 1, 2, 2⟩, ⟨0x1115, 10, 10, 2, 1, 2, 2⟩]

/-- Indices 0x2000 to 0x20FF. -/
def rows20 : List DicRow :=
  [⟨0x2000, 1, 2, 1, 1, 1, 1⟩, ⟨0x2000, 3, 3, 3, 1, 1, 2⟩, ⟨0x2000, 4, 4, 2, 1, 1, 1⟩, ⟨0x2000, 5, 6, 8, 1, 1, 1⟩,
   ⟨0x2000, 7, 7, 9, 1, 1, 1⟩, ⟨0x2000, 10, 10, 3, 1, 1, 1⟩, ⟨0x2001, 1, 1, 9, 2, 2, 2⟩, ⟨0x2001, 2, 2, 1, 2, 2, 2⟩,
   ⟨0x2002, 1, 3, 3, 1, 1, 1⟩, ⟨0x2010, 1, 1, 14, 0, 5, 5⟩, ⟨0x2010, 2, 2, 7, 1, 1, 1⟩, ⟨0x2010, 3, 4, 3, 1, 1, 1⟩,
   ⟨0x2010, 5, 6, 9, 1, 1, 1⟩, ⟨0x2011, 1, 58, 3, 1, 1, 2⟩, ⟨0x2012, 1, 58, 3, 1, 1, 1⟩, ⟨0x2020, 1, 1, 14, 1, 5, 5⟩,
   ⟨0x2020, 2, 2, 3, 1, 1, 1⟩, ⟨0x2030, 1, 1, 2, 1, 1, 1⟩, ⟨0x2030, 2, 2, 12, 1, 1, 1⟩, ⟨0x2040, 1, 1, 4, 1, 1, 2⟩,
   ⟨0x2040, 2, 2, 3, 1, 1, 2⟩, ⟨0x2040, 3, 3, 13, 1, 1, 2⟩, ⟨0x2040, 4, 4, 2, 1, 1, 2⟩, ⟨0x2040, 5, 5, 8, 1, 1, 1⟩,
   ⟨0x2040, 6, 6, 1, 1, 1, 2⟩, ⟨0x2040, 7, 7, 1, 1, 1, 1⟩, ⟨0x2040, 8, 8, 9, 1, 1, 2⟩, ⟨0x2050, 1, 2, 2, 1, 1, 1⟩,
   ⟨0x2050, 3, 3, 3, 1, 1, 4⟩, ⟨0x2050, 4, 4, 8, 1, 1, 1⟩, ⟨0x2050, 5, 5, 1, 1, 1, 1⟩, ⟨0x2050, 6, 6, 8, 1, 1, 1⟩]

/-- Indices 0x2100 to 0x21FF. -/
def rows21 : List DicRow :=
  [⟨0x2100, 1, 1, 4, 1, 1, 1⟩, ⟨0x2100, 2, 2, 3, 1, 1, 1⟩, ⟨0x2100, 3, 4, 4, 1, 1, 1⟩, ⟨0x2100, 5, 6, 8, 1, 1, 1⟩,
   ⟨0x2100, 7, 7, 3, 1, 1, 1⟩, ⟨0x2110, 1, 3, 4, 0, 2, 2⟩, ⟨0x2110, 4, 4, 2, 0, 2, 2⟩, ⟨0x2110, 5, 5, 9, 0, 2, 2⟩,
   ⟨0x2110, 6, 6, 8, 0, 2, 2⟩, ⟨0x2110, 7, 7, 1, 0, 2, 2⟩, ⟨0x2110, 8, 8, 4, 0, 2, 2⟩, ⟨0x2110, 9, 9, 14, 0, 5, 5⟩,
   ⟨0x2110, 10, 10, 3, 0, 1, 1⟩, ⟨0x2110, 11, 11, 4, 0, 1, 1⟩, ⟨0x2111, 1, 1, 14, 0, 5, 5⟩, ⟨0x2111, 2, 3, 3, 0, 2, 2⟩,
   ⟨0x2111, 4, 4, 14, 0, 5, 5⟩, ⟨0x2120, 1, 1, 2, 2, 2, 2⟩, ⟨0x2120, 2, 2, 8, 1, 1, 1⟩, ⟨0x2120, 3, 3, 2, 1, 1, 1⟩,
   ⟨0x2120, 4, 6, 4, 1, 1, 1⟩, ⟨0x2120, 7, 7, 9, 1, 1, 1⟩, ⟨0x2120, 8, 9, 4, 1, 1, 1⟩, ⟨0x2120, 10, 10, 3, 1, 1, 1⟩,
   ⟨0x2120, 11, 11, 3, 0, 1, 1⟩, ⟨0x2130, 1, 1, 3, 2, 2, 2⟩, ⟨0x2130, 2, 3, 8, 1, 1, 1⟩, ⟨0x2130, 4, 4, 2, 1, 1, 1⟩,
   ⟨0x2130, 5, 5, 9, 1, 1, 1⟩, ⟨0x2130, 6, 7, 2, 1, 1, 1⟩, ⟨0x2140, 1, 6, 4, 1, 1, 1⟩]

/-- Indices 0x2200 to 0x22FF. -/
def rows22 : List DicRow :=
  [⟨0x2200, 1, 8, 8, 1, 1, 4⟩, ⟨0x2201, 1, 16, 8, 1, 1, 1⟩, ⟨0x2202, 1, 1, 14, 0, 5, 5⟩, ⟨0x2203, 1, 16, 3, 1, 1, 2⟩,
   ⟨0x2204, 1, 16, 13, 1, 1, 2⟩, ⟨0x2205, 1, 16, 4, 1, 1, 2⟩, ⟨0x2206, 1, 16, 2, 1, 1, 2⟩, ⟨0x2207, 1, 1, 9, 1, 1, 2⟩,
   ⟨0x2210, 1, 1, 8, 1, 1, 4⟩, ⟨0x2210, 2, 2, 2, 1, 2, 2⟩, ⟨0x2210, 3, 6, 1, 1, 2, 2⟩, ⟨0x2210, 7, 7, 3, 1, 1, 1⟩,
   ⟨0x2211, 1, 1, 1, 1, 2, 2⟩, ⟨0x2211, 2, 2, 2, 1, 2, 2⟩, ⟨0x2211, 3, 4, 1, 1, 2, 2⟩, ⟨0x2211, 5, 6, 7, 1, 2, 2⟩,
   ⟨0x2211, 7, 7, 2, 1, 2, 2⟩, ⟨0x2211, 8, 8, 7, 1, 2, 2⟩, ⟨0x2211, 9, 9, 1, 1, 2, 2⟩, ⟨0x2212, 1, 1, 2, 1, 2, 2⟩,
   ⟨0x2212, 2, 5, 1, 1, 2, 2⟩, ⟨0x2212, 6, 6, 2, 1, 2, 2⟩, ⟨0x2220, 1, 15, 4, 1, 1, 1⟩, ⟨0x2230, 1, 1, 3, 2, 2, 2⟩,
   ⟨0x2230, 2, 2, 8, 1, 1, 1⟩, ⟨0x2230, 3, 3, 2, 1, 1, 1⟩, ⟨0x2230, 4, 4, 1, 1, 1, 1⟩, ⟨0x2230, 5, 7, 3, 1, 1, 1⟩,
   ⟨0x2230, 8, 8, 7, 1, 1, 1⟩, ⟨0x2230, 9, 9, 3, 1, 1, 1⟩, ⟨0x2230, 10, 10, 14, 0, 5, 5⟩]

/-- Indices 0x2300 to 0x23FF. -/
def rows23 : List DicRow :=
  [⟨0x2300, 1, 1, 8, 1, 1, 1⟩, ⟨0x2300, 2, 11, 4, 1, 1, 1⟩]

/-- Indices 0x2400 to 0x24FF. -/
def rows24 : List DicRow :=
  [⟨0x2400, 1, 3, 8, 1, 1, 1⟩, ⟨0x2400, 4, 4, 7, 1, 1, 1⟩, ⟨0x2400, 5, 6, 4, 1, 1, 1⟩, ⟨0x2400, 7, 7, 1, 1, 1, 1⟩,
   ⟨0x2400, 8, 9, 9, 1, 1, 1⟩, ⟨0x2401, 1, 1, 8, 1, 1, 2⟩, ⟨0x2401, 2, 2, 2, 1, 2, 2⟩, ⟨0x2401, 3, 3, 1, 1, 2, 2⟩,
   ⟨0x2401, 4, 4, 7, 1, 2, 2⟩, ⟨0x2401, 5, 5, 1, 1, 2, 2⟩, ⟨0x2401, 6, 6, 7, 1, 2, 2⟩, ⟨0x2401, 7, 7, 7, 1, 1, 4⟩,
   ⟨0x2402, 1, 3, 14, 0, 5, 5⟩, ⟨0x2402, 4, 5, 14, 0, 0, 5⟩, ⟨0x2402, 6, 6, 8, 1, 1, 1⟩, ⟨0x2410, 1, 2, 3, 1, 1, 1⟩,
   ⟨0x2410, 3, 4, 4, 1, 1, 1⟩, ⟨0x2420, 1, 14, 4, 1, 1, 1⟩, ⟨0x2440, 1, 1, 2, 2, 2, 2⟩, ⟨0x2440, 2, 6, 4, 1, 1, 1⟩,
   ⟨0x2440, 7, 7, 14, 0, 0, 5⟩, ⟨0x2441, 1, 1, 13, 0, 0, 2⟩]

/-- Indices 0x2500 to 0x25FF. -/
def rows25 : List DicRow :=
  [⟨0x2500, 1, 3, 3, 1, 1, 1⟩, ⟨0x2500, 4, 5, 4, 1, 1, 1⟩, ⟨0x2500, 6, 6, 8, 1, 1, 1⟩, ⟨0x2500, 7, 7, 3, 1, 1, 1⟩,
   ⟨0x2501, 1, 10, 4, 1, 1, 1⟩, ⟨0x2502, 1, 2, 3, 1, 2, 2⟩, ⟨0x2502, 3, 3, 2, 1, 2, 2⟩, ⟨0x2502, 4, 4, 1, 1, 2, 2⟩,
   ⟨0x2502, 5, 5, 7, 1, 2, 2⟩, ⟨0x2510, 1, 1, 2, 2, 2, 2⟩, ⟨0x2510, 2, 2, 8, 1, 2, 2⟩, ⟨0x2510, 3, 3, 3, 1, 2, 2⟩,
   ⟨0x2510, 4, 4, 3, 1, 1, 1⟩, ⟨0x2510, 5, 5, 3, 1, 2, 2⟩, ⟨0x2510, 6, 6, 3, 1, 1, 1⟩, ⟨0x2510, 7, 7, 2, 1, 2, 2⟩,
   ⟨0x2510, 8, 8, 2, 1, 1, 1⟩, ⟨0x2510, 9, 10, 2, 1, 2, 2⟩, ⟨0x2510, 11, 11, 14, 0, 5, 5⟩, ⟨0x2511, 1, 8, 9, 1, 2, 2⟩,
   ⟨0x2511, 9, 9, 14, 0, 5, 5⟩, ⟨0x2520, 1, 1, 1, 0, 2, 2⟩, ⟨0x2520, 2, 2, 4, 0, 2, 2⟩, ⟨0x2520, 3, 3, 3, 0, 2, 2⟩,
   ⟨0x2520, 4, 5, 14, 0, 5, 5⟩, ⟨0x2530, 1, 1, 3, 0, 2, 2⟩, ⟨0x2530, 2, 3, 14, 0, 5, 5⟩]

/-- Indices 0x2600 to 0x26FF. -/
def rows26 : List DicRow :=
  [⟨0x2600, 1, 4, 4, 1, 1, 1⟩, ⟨0x2600, 5, 5, 3, 1, 1, 1⟩, ⟨0x2600, 6, 6, 8, 1, 1, 1⟩, ⟨0x2600, 7, 7, 1, 1, 1, 1⟩,
   ⟨0x2600, 8, 8, 9, 1, 1, 1⟩, ⟨0x2601, 1, 8, 2, 1, 1, 1⟩, ⟨0x2601, 9, 16, 3, 1, 1, 1⟩, ⟨0x2602, 1, 1, 9, 1, 1, 4⟩,
   ⟨0x2602, 2, 2, 2, 1, 2, 2⟩, ⟨0x2602, 3, 14, 3, 1, 1, 2⟩, ⟨0x2602, 15, 15, 7, 1, 2, 2⟩, ⟨0x2610, 1, 2, 4, 1, 1, 1⟩,
   ⟨0x2610, 3, 3, 3, 1, 1, 1⟩, ⟨0x2610, 4, 5, 2, 1, 1, 1⟩, ⟨0x2610, 6, 6, 4, 1, 1, 1⟩, ⟨0x2610, 7, 7, 8, 1, 1, 1⟩,
   ⟨0x2610, 8, 8, 9, 1, 1, 1⟩, ⟨0x2611, 1, 2, 14, 0, 5, 5⟩, ⟨0x2612, 1, 7, 4, 1, 1, 1⟩]

/-- Indices 0x2700 to 0x27FF. -/
def rows27 : List DicRow :=
  [⟨0x2700, 1, 2, 3, 1, 1, 1⟩, ⟨0x2700, 3, 3, 4, 1, 1, 1⟩, ⟨0x2700, 4, 4, 2, 1, 1, 1⟩, ⟨0x2700, 5, 5, 2, 1, 2, 2⟩,
   ⟨0x2700, 6, 6, 1, 1, 2, 2⟩, ⟨0x2700, 7, 7, 1, 1, 1, 1⟩, ⟨0x2700, 8, 8, 2, 1, 1, 1⟩, ⟨0x2700, 9, 9, 7, 1, 1, 1⟩,
   ⟨0x2701, 1, 8, 8, 1, 1, 1⟩, ⟨0x2702, 1, 8, 7, 1, 2, 2⟩, ⟨0x2710, 1, 12, 4, 1, 1, 1⟩, ⟨0x2720, 1, 1, 2, 2, 2, 2⟩,
   ⟨0x2720, 2, 2, 8, 1, 1, 1⟩, ⟨0x2720, 3, 3, 4, 1, 1, 1⟩, ⟨0x2720, 4, 4, 2, 1, 1, 1⟩, ⟨0x2720, 5, 6, 3, 1, 1, 1⟩,
   ⟨0x2720, 7, 7, 1, 1, 1, 1⟩, ⟨0x2720, 8, 8, 2, 1, 1, 1⟩, ⟨0x2720, 9, 9, 4, 1, 1, 1⟩, ⟨0x2720, 10, 10, 14, 0, 5, 5⟩,
   ⟨0x2720, 11, 11, 14, 0, 0, 5⟩, ⟨0x2730, 1, 1, 2, 2, 2, 2⟩, ⟨0x2730, 2, 2, 8, 1, 1, 1⟩, ⟨0x2730, 3, 3, 1, 1, 1, 1⟩,
   ⟨0x2730, 4, 6, 3, 1, 1, 1⟩, ⟨0x2730, 7, 7, 14, 0, 5, 5⟩]

/-- Indices 0x2800 to 0x28FF. -/
def rows28 : List DicRow :=
  [⟨0x2800, 1, 1, 8, 1, 1, 1⟩, ⟨0x2800, 2, 3, 1, 1, 1, 1⟩, ⟨0x2800, 4, 4, 4, 1, 1, 1⟩, ⟨0x2800, 5, 5, 3, 1, 1, 1⟩,
   ⟨0x2801, 1, 16, 4, 1, 1, 1⟩, ⟨0x2802, 1, 16, 4, 1, 1, 1⟩, ⟨0x2803, 1, 16, 3, 1, 1, 2⟩, ⟨0x2804, 1, 1, 7, 1, 2, 2⟩,
   ⟨0x2804, 2, 2, 2, 1, 2, 2⟩, ⟨0x2804, 3, 3, 7, 1, 2, 2⟩, ⟨0x2804, 4, 4, 2, 1, 2, 2⟩, ⟨0x2810, 1, 3, 2, 1, 2, 2⟩,
   ⟨0x2810, 4, 4, 1, 1, 2, 2⟩, ⟨0x2810, 5, 5, 7, 1, 2, 2⟩, ⟨0x2810, 6, 6, 3, 1, 1, 1⟩, ⟨0x2810, 7, 7, 2, 1, 1, 1⟩,
   ⟨0x2820, 1, 1, 1, 2, 2, 2⟩, ⟨0x2820, 2, 2, 2, 1, 1, 1⟩, ⟨0x2820, 3, 3, 1, 1, 1, 1⟩, ⟨0x2820, 4, 5, 2, 1, 2, 2⟩,
   ⟨0x2830, 1, 9, 4, 1, 1, 1⟩]

/-- Indices 0x2900 to 0x29FF. -/
def rows29 : List DicRow :=
  [⟨0x2900, 1, 1, 1, 1, 1, 1⟩, ⟨0x2900, 2, 3, 2, 1, 1, 1⟩, ⟨0x2900, 4, 4, 4, 1, 1, 1⟩, ⟨0x2900, 5, 5, 3, 1, 1, 1⟩,
   ⟨0x2900, 6, 6, 7, 1, 1, 1⟩, ⟨0x2901, 1, 12, 4, 1, 1, 1⟩, ⟨0x2902, 1, 3, 2, 1, 2, 2⟩, ⟨0x2902, 4, 4, 7, 1, 2, 2⟩,
   ⟨0x2902, 5, 6, 1, 1, 2, 2⟩, ⟨0x2902, 7, 8, 2, 1, 2, 2⟩, ⟨0x2902, 9, 9, 2, 1, 1, 2⟩, ⟨0x2910, 1, 1, 3, 2, 2, 2⟩,
   ⟨0x2910, 2, 2, 8, 1, 1, 1⟩, ⟨0x2910, 3, 3, 9, 1, 1, 1⟩, ⟨0x2910, 4, 4, 2, 1, 1, 1⟩, ⟨0x2910, 5, 5, 3, 1, 1, 1⟩,
   ⟨0x2910, 6, 6, 14, 0, 0, 5⟩, ⟨0x2920, 1, 32, 9, 1, 1, 1⟩, ⟨0x2980, 1, 1, 8, 1, 1, 1⟩, ⟨0x2980, 2, 2, 3, 1, 1, 1⟩,
   ⟨0x2980, 3, 3, 8, 1, 1, 1⟩, ⟨0x2980, 4, 5, 3, 1, 1, 1⟩, ⟨0x2981, 1, 6, 4, 1, 1, 1⟩]

/-- Indices 0x2A00 to 0x2AFF. -/
def rows2A : List DicRow :=
  [⟨0x2A00, 1, 1, 8, 1, 1, 1⟩, ⟨0x2A00, 2, 2, 1, 1, 1, 1⟩, ⟨0x2A00, 3, 8, 9, 1, 1, 1⟩, ⟨0x2A00, 9, 9, 2, 1, 1, 1⟩,
   ⟨0x2A01, 1, 2, 14, 0, 0, 5⟩, ⟨0x2A02, 1, 24, 9, 1, 1, 2⟩, ⟨0x2A03, 1, 1, 1, 0, 0, 2⟩, ⟨0x2A03, 2, 2, 8, 0, 0, 2⟩,
   ⟨0x2A03, 3, 3, 14, 0, 0, 5⟩, ⟨0x2A03, 4, 4, 9, 1, 1, 1⟩, ⟨0x2A04, 1, 1, 1, 2, 2, 2⟩, ⟨0x2A04, 2, 2, 13, 1, 1, 1⟩,
   ⟨0x2A05, 1, 10, 2, 1, 1, 1⟩, ⟨0x2A10, 1, 1, 8, 1, 1, 1⟩, ⟨0x2A10, 2, 3, 1, 1, 1, 1⟩, ⟨0x2A10, 4, 4, 3, 1, 1, 1⟩,
   ⟨0x2A10, 5, 6, 9, 1, 1, 1⟩, ⟨0x2A10, 7, 7, 7, 1, 1, 1⟩, ⟨0x2A10, 8, 8, 14, 0, 0, 5⟩, ⟨0x2A10, 9, 9, 9, 1, 1, 1⟩,
   ⟨0x2A11, 1, 4, 9, 1, 1, 2⟩, ⟨0x2A12, 1, 16, 13, 1, 1, 1⟩]

/-- Indices 0x2B00 to 0x2BFF. -/
def rows2B : List DicRow :=
  [⟨0x2B00, 1, 1, 8, 1, 1, 1⟩, ⟨0x2B00, 2, 2, 9, 1, 1, 1⟩, ⟨0x2B01, 1, 1, 11, 1, 1, 1⟩, ⟨0x2B01, 2, 3, 1, 1, 1, 2⟩,
   ⟨0x2B02, 1, 48, 11, 1, 1, 1⟩, ⟨0x2B03, 1, 24, 2, 1, 1, 1⟩, ⟨0x2B10, 1, 1, 1, 1, 2, 2⟩, ⟨0x2B10, 2, 2, 7, 1, 2, 2⟩,
   ⟨0x2B10, 3, 3, 14, 0, 5, 5⟩, ⟨0x2B10, 4, 4, 7, 1, 1, 1⟩, ⟨0x2B10, 5, 5, 3, 1, 1, 1⟩]

/-- Indices 0x2C00 to 0x2CFF. -/
def rows2C : List DicRow :=
  [⟨0x2C00, 1, 2, 8, 1, 1, 1⟩, ⟨0x2C00, 3, 3, 7, 1, 1, 1⟩, ⟨0x2C00, 4, 5, 4, 1, 1, 1⟩, ⟨0x2C00, 6, 6, 2, 1, 2, 2⟩,
   ⟨0x2C00, 7, 7, 8, 1, 1, 2⟩, ⟨0x2C00, 8, 8, 7, 1, 1, 2⟩, ⟨0x2C00, 9, 9, 2, 1, 1, 2⟩, ⟨0x2C01, 1, 1, 14, 0, 5, 5⟩,
   ⟨0x2C01, 2, 2, 14, 0, 0, 5⟩, ⟨0x2C10, 1, 2, 4, 1, 1, 1⟩, ⟨0x2C10, 3, 3, 4, 2, 2, 2⟩, ⟨0x2C10, 4, 4, 13, 1, 1, 1⟩,
   ⟨0x2C11, 1, 1, 2, 2, 2, 2⟩, ⟨0x2C11, 2, 2, 9, 1, 1, 2⟩, ⟨0x2C20, 1, 1, 4, 1, 1, 1⟩, ⟨0x2C20, 2, 2, 3, 1, 1, 1⟩,
   ⟨0x2C20, 3, 3, 8, 2, 2, 2⟩, ⟨0x2C20, 4, 4, 3, 2, 2, 2⟩, ⟨0x2C20, 5, 5, 13, 1, 1, 1⟩, ⟨0x2C20, 6, 6, 1, 1, 1, 2⟩,
   ⟨0x2C30, 1, 3, 8, 1, 1, 1⟩, ⟨0x2C30, 4, 4, 4, 1, 1, 1⟩, ⟨0x2C30, 5, 6, 12, 1, 1, 1⟩, ⟨0x2C30, 7, 8, 7, 1, 1, 1⟩,
   ⟨0x2C30, 9, 9, 14, 0, 0, 5⟩, ⟨0x2C40, 1, 2, 2, 1, 1, 1⟩, ⟨0x2C40, 3, 3, 7, 1, 1, 2⟩, ⟨0x2C40, 4, 4, 7, 1, 1, 1⟩]

/-- Indices 0x2D00 to 0x2DFF. -/
def rows2D : List DicRow :=
  [⟨0x2D00, 1, 1, 9, 1, 1, 1⟩, ⟨0x2D00, 2, 2, 7, 1, 1, 1⟩, ⟨0x2D00, 3, 3, 1, 1, 1, 1⟩, ⟨0x2D00, 4, 5, 7, 1, 1, 1⟩,
   ⟨0x2D00, 6, 6, 2, 1, 1, 1⟩, ⟨0x2D00, 7, 7, 9, 1, 1, 1⟩, ⟨0x2D10, 1, 1, 8, 0, 0, 2⟩, ⟨0x2D10, 2, 2, 13, 0, 0, 3⟩,
   ⟨0x2D10, 3, 3, 14, 0, 0, 5⟩, ⟨0x2D10, 4, 4, 13, 0, 0, 1⟩]

/-- The entries of the ROM, by the upper byte of the index. -/
def rowsOf (hi : Nat) : List DicRow :=
  match hi with
  | 0x10 => rows10
  | 0x11 => rows11
  | 0x20 => rows20
  | 0x21 => rows21
  | 0x22 => rows22
  | 0x23 => rows23
  | 0x24 => rows24
  | 0x25 => rows25
  | 0x26 => rows26
  | 0x27 => rows27
  | 0x28 => rows28
  | 0x29 => rows29
  | 0x2A => rows2A
  | 0x2B => rows2B
  | 0x2C => rows2C
  | 0x2D => rows2D
  | _ => []

end Dict

/-- The ROM entry at an index and subindex. -/
def romRow (index sub : Nat) : Option DicRow :=
  (Dict.rowsOf (index / 256)).find? (fun r => r.index = index && decide (r.lo ≤ sub) && decide (sub ≤ r.hi))

/-- The highest subindex in use at an index of the ROM (R37), none where the index is not in use. -/
def romTop (index : Nat) : Option Nat :=
  let rs := (Dict.rowsOf (index / 256)).filter (fun r => r.index = index)
  if rs.isEmpty then none else some (rs.foldl (fun m r => max m r.hi) 0)

/-- Length in bytes of a value of each type; none for BLOB (Table 2.1). -/
def typeLen (t : Nat) : Option Nat :=
  match t with
  | 1 | 7 | 8 => some 1
  | 2 | 10 | 11 => some 2
  | 3 | 5 | 9 | 14 => some 4
  | 4 | 6 => some 8
  | 12 => some 32
  | _ => none

end Sys2Proof.Machine
end

