-- ==== Sys2Proof/Machine/DicRead.lean ====
section
/-! DEFINITION. What a dictionary entry reads as (Tables 0.4, 1.10, 2.15, 2.22 and the entry tables of chapters 03 to 15). -/

namespace Sys2Proof.Machine

/-! ## Entries that front register fields (R40) -/

/-- The fields behind an entry: each with its element and its place in the entry's value; the same in each of `blocks`, of
which a read takes the first. -/
structure Bind where
  blocks : List Nat
  parts : List (Fld × Nat × Nat)

/-- One field of one block. -/
def bind1 (n : Nat) (F : Fld) (i : Nat := 0) : Option Bind := some ⟨[n], [(F, i, 0)]⟩

/-- The `k`-th of a list of fields of block `n`. -/
def bindNth (n : Nat) (fs : List Fld) (k : Nat) : Option Bind := (fs[k]?).map (fun F => ⟨[n], [(F, 0, 0)]⟩)

/-- The `k`-th of a list of fields, alike in `blocks`. -/
def bindAll (blocks : List Nat) (fs : List Fld) (k : Nat) : Option Bind := (fs[k]?).map (fun F => ⟨blocks, [(F, 0, 0)]⟩)

/-- A 64-bit value in two fields of block `n`, low word first. -/
def bindPair (n : Nat) (L H : Fld) : Option Bind := some ⟨[n], [(L, 0, 0), (H, 0, 32)]⟩

/-- Every field of the word at `off` of block `n`, at its place in the word. -/
def bindWord (n off : Nat) : Option Bind := some ⟨[n], (wordFields n off).map (fun p => (p.1, p.2, p.1.lsb))⟩

/-- The index that a session inspects. -/
def inspected (s : State) (sess e : Nat) : Nat := sessEnt s sess e 0

def xpts : List Nat := [30, 31, 32, 33]
def prts : List Nat := [26, 27, 28, 29]
def drcs : List Nat := (List.range 16).map (· + 42)

/-- Port entries 0x2200 to 0x2212; `l` is a logical port. -/
def bind22 (index sub : Nat) : Option Bind :=
  let l := sub - 1
  match index with
  | 0x2200 => if sub ≤ 4 then bind1 (25 + sub) R.PRT_MODE_MODE else bind1 (21 + sub) R.PRT_MODE_MEDIA
  | 0x2203 => bind1 (26 + l / 4) R.PRT_IP4 (l % 4)
  | 0x2205 => some ⟨[26 + l / 4], [(R.PRT_MACL, l % 4, 0), (R.PRT_MACH, l % 4, 32)]⟩
  | 0x2206 => some ⟨[26 + l / 4], [(R.PRT_VLAN_VID, l % 4, 0), (R.PRT_VLAN_TAGGED, l % 4, 12)]⟩
  | 0x2207 => some ⟨prts, [(R.PRT_PFC_TXEN, 0, 0), (R.PRT_PFC_RXEN, 0, 8), (R.PRT_PFC_PRIO, 0, 16)]⟩
  | 0x2210 =>
    if sub = 1 then bindAll xpts [R.XPT_CTXCFG_LOC] 0
    else if sub = 2 then bindAll xpts [R.XPT_FETCH_HTIMEOUT] 0
    else if sub ≤ 6 then bind1 (27 + sub) R.XPT_CTXSHARE_SHARE
    else none
  | 0x2211 => bindAll xpts [R.XPT_ACKCOAL_COUNT, R.XPT_ACKCOAL_DELAY, R.XPT_REIN_MIN, R.XPT_REIN_MAX, R.XPT_REIN_FREEZE,
      R.XPT_CNP_NPEN, R.XPT_CNP_NPINTV, R.XPT_CNP_ECTMARK, R.XPT_ADMIT_CNPTH] l
  | 0x2212 => bindAll xpts [R.XPT_RTO_RTOINIT, R.XPT_RTO_RETRY, R.XPT_RTO_RNRRETRY, R.XPT_RP_CUT, R.XPT_RP_RAI,
      R.XPT_RP_RAIPER] l
  | _ => none

/-- Twin and tier entries. -/
def bind24 (s : State) (index sub : Nat) : Option Bind :=
  let k := sub - 1
  let r := ent s (ekey 0x2520 1) 0
  match index with
  | 0x2400 =>
    if sub = 5 then bindPair 24 R.TWN_PAIRIDL R.TWN_PAIRIDH
    else if sub = 6 then bindPair 24 R.TWN_PGENL R.TWN_PGENH
    else if sub = 9 then some ⟨[24], [(R.TWN_STATE_HBALIVE, 0, 0), (R.TWN_STATE_HBBLIVE, 0, 1)]⟩
    else bindNth 24 [R.TWN_STATE_TSTATE, R.TWN_STATE_ROLE, R.TWN_CFG_SIDE, R.TWN_STATE_LEAD, R.TWN_PAIRIDL, R.TWN_PGENL,
      R.TWN_LANESTAT_WIDTH, R.TWN_LANESTAT_ACTIVE] k
  | 0x2401 => bindNth 24 [R.TWN_CFG_SOLOPREF, R.TWN_WAIT_PAIRWAIT, R.TWN_LANECFG_WMIN, R.TWN_LANECFG_FREEZE,
      R.TWN_RESYNC_RATE, R.TWN_RESYNC_PAUSE, R.TWN_CFG_HBBEN] k
  | 0x2410 => if sub ≤ 2 then bindNth 24 [R.TWN_LOGSTAT_EXTENTS, R.TWN_PENDSTAT_ENTRIES] k else none
  | 0x2500 => if sub = 6 then bind1 23 R.TIE_STAT_HSTATE else if sub = 2 then bind1 23 R.TIE_FREE_FREE else none
  | 0x2502 => bindNth 23 [R.TIE_LOWATER_LOWATER, R.TIE_HIWATER_HIWATER, R.TIE_HEAT_TICK, R.TIE_HEAT_SAMPLE,
      R.TIE_HEAT_FREEZE] k
  | 0x2511 => if sub ≤ 8 then some ⟨[23], [(R.TIE_TPOL, k, 17)]⟩ else none
  | 0x2520 =>
    if sub = 2 then some ⟨[23], [(R.TIE_HLENDL, r, 0), (R.TIE_HLENDH, r, 32)]⟩
    else if sub = 3 then bind1 23 R.TIE_HPAGES r
    else none
  | _ => none

/-- Governor, save and millstone entries. -/
def bind26 (index sub : Nat) : Option Bind :=
  let k := sub - 1
  match index with
  | 0x2600 => match sub with
    | 5 => bind1 21 R.GOV_EAVAIL_J | 6 => bind1 21 R.GOV_STAT_STATE | 7 => bind1 21 R.GOV_CLEANREQ_RATE
    | 8 => bind1 21 R.GOV_STAT_FAILED | _ => none
  | 0x2601 => if sub ≤ 8 then bind1 21 R.GOV_VMOD k else bind1 21 R.GOV_CMEAS (sub - 9)
  | 0x2602 => bindNth 21 [R.GOV_CTL_MODEN, R.GOV_CAP_CAP, R.GOV_RESERVE_RESERVE, R.GOV_ESEFF_ESEFF, R.GOV_SAVEPWR_SAVEPWR,
      R.GOV_RATE_RATEPROG, R.GOV_RATE_RDERATE, R.GOV_RATE_PDERATE, R.GOV_TFIX_TFIX, R.GOV_MARGIN_MARGIN, R.GOV_MARGIN_MIRRES,
      R.GOV_VCUT_VCUT, R.GOV_CNOM_CNOM, R.GOV_RBLEED_RBLEED, R.GOV_CTL_FREEZE] k
  | 0x2610 => match sub with
    | 1 => bindPair 22 R.SAV_SEALSEQL R.SAV_SEALSEQH | 4 => bind1 21 R.GOV_PMEAS | 5 => bind1 21 R.GOV_RMEAS
    | 8 => bind1 22 R.SAV_STAT_GATEMISS | _ => none
  | 0x2700 => match sub with
    | 1 => bind1 34 R.MST_QUEUE_QUEUED | 2 => bind1 34 R.MST_QUEUE_ACTIVE | 4 => bind1 34 R.MST_JLPAGES_JLPAGES
    | 5 => bind1 34 R.MST_DEFAULTS_STAGETO | 6 => bind1 34 R.MST_DEFAULTS_QUANTUM | 7 => bind1 34 R.MST_SHASTAT_INUSE
    | 8 => bind1 34 R.MST_CSTAT_ENTRIES | 9 => bind1 34 R.MST_CSTAT_FULL | _ => none
  | 0x2701 => bind1 (33 + sub) R.MST_STAT_MODE
  | 0x2702 => bind1 (33 + sub) R.MST_HOLD_HOLD
  | _ => none

/-- DRAM, flash and power entries. -/
def bind28 (s : State) (sess index sub : Nat) : Option Bind :=
  let k := sub - 1
  match index with
  | 0x2800 => if sub = 1 then bind1 42 R.DRC_CFG_SPEED else none
  | 0x2803 => bind1 (41 + sub) R.DRC_MARK_MARK
  | 0x2804 => bindAll drcs [R.DRC_ECCCTL_AUTOMARK, R.DRC_ECCCTL_MARKTH, R.DRC_PAGEPOL_FREEZE, R.DRC_PAGEPOL_IDLECLOSE] k
  | 0x2810 => bindNth 19 [R.GRM_PASS_PERIOD, R.GRM_PASS_DEADLINE, R.GRM_ADAPT_CETH, R.GRM_ADAPT_MAXMUL, R.GRM_ADAPT_FREEZE,
      R.GRM_PASSES_PASSES, R.GRM_STAT_PROGRESS] k
  | 0x2820 => match sub with
    | 3 => bind1 20 R.FAR_OWNER_WAITERS (inspected s sess (ekey 0x2820 1)) | 4 => bind1 20 R.FAR_CFG_WAITREL
    | 5 => bind1 20 R.FAR_CFG_RETRYGAP | _ => none
  | 0x2900 => if sub = 5 then bind1 18 R.STF_STAT_FREESB else if sub = 6 then bind1 18 R.STF_STAT_WALK else none
  | 0x2902 => bindNth 18 [R.STF_RECLAIM_LOWATER, R.STF_RECLAIM_HIWATER, R.STF_STRIPE_STRIPEWAIT, R.STF_TRACK_FREEZE,
      R.STF_TRACK_MAXOFF, R.STF_READ_RETRYMAX, R.STF_PATROL_DAYS, R.STF_PATROL_REFRESHTH, R.STF_READ_SIGTH] k
  | 0x2920 => bind1 18 R.STF_DIEFAIL k
  | 0x2980 => bindNth 17 [R.KPF_CFG_DENSITY, R.KPF_OPTGEN_GEN, R.KPF_OPTSTAT_COPY, R.KPF_OPTSTAT_RECORDS] k
  | 0x2A00 =>
    if sub = 8 then bindWord 12 0x60
    else if sub = 9 then bind1 12 R.PWR_POWER_WATTS
    else bindNth 12 [R.PWR_SEQSTAT_PHASE, R.PWR_SEQSTAT_STEP, R.PWR_UNSTABLE, R.PWR_TIMEOUT, R.PWR_LOST, R.PWR_PGSTAT,
      R.PWR_ENSTAT] k
  | 0x2A02 => bindWord 12 (0x100 + 4 * k)
  | 0x2A03 => match sub with
    | 1 => bind1 12 R.PWR_MARGIN_RAIL | 2 => bind1 12 R.PWR_MARGIN_MODE | 4 => bind1 12 R.PWR_MARGSTAT_RAILS | _ => none
  | 0x2A10 =>
    if sub = 9 then some ⟨[13], [(R.RST_CLK_REFLOSS, 0, 0), (R.RST_CLK_LOCKLOSS, 0, 1), (R.RST_CLK_SHAFTLOSS, 0, 2)]⟩
    else bindNth 13 [R.RST_CAUSE_SOURCE, R.RST_CAUSE_LEVEL, R.RST_CAUSE_BLOCK, R.RST_COUNT_COUNT, R.RST_REACH, R.RST_FUSE,
      R.RST_RETAIN_WARM] k
  | 0x2A11 => bindWord 13 (0x60 + 4 * k)
  | _ => none

/-- Clock, sensor, control-complex and key entries. -/
def bind2B (s : State) (index sub : Nat) : Option Bind :=
  let k := sub - 1
  match index with
  | 0x2B00 => if sub = 1 then bind1 14 R.CLK_CFG_VCO else bindWord 14 0x44
  | 0x2B01 => bindNth 15 [R.SEN_TJ_TJ, R.SEN_LIMIT_HOT, R.SEN_LIMIT_TRIP] k
  | 0x2B02 => bind1 15 R.SEN_T k
  | 0x2B03 => bind1 15 R.SEN_V k
  | 0x2B10 => match sub with
    | 1 => bind1 16 R.CAL_CTL_DRIFT | 2 => bind1 16 R.CAL_CTL_HOLD | 4 => bind1 16 R.CAL_STAT_SETSOK
    | 5 => bind1 16 R.CAL_RUNS_RUNS | _ => none
  | 0x2C00 => match sub with
    | 1 => bind1 5 R.CPX_STAT_STATEA | 2 => bind1 5 R.CPX_STAT_STATEB | 3 => bind1 5 R.CPX_STAT_TAKEOVER
    | 5 => bindPair 5 R.CPX_CKSEQL R.CPX_CKSEQH | 6 => bind1 5 R.CPX_CKPERIOD_PERIOD | 7 => bind1 5 R.CPX_CFG_FAILACT
    | 8 => bind1 5 R.CPX_CFG_CKUSE | 9 => bind1 5 R.CPX_WDT_WDTIME | _ => none
  | 0x2C11 => if sub = 2 then bind1 2 R.EVT_KIND (ent s (ekey 0x2C11 1) 0) else none
  | 0x2C20 => match sub with
    | 1 => bindPair 3 R.STB_NEXTL R.STB_NEXTH | 6 => bind1 3 R.STB_MINSEV_MINSEV | _ => none
  | 0x2C30 => match sub with
    | 1 => bind1 4 R.UPD_STAT_STAGING | 2 => bind1 4 R.UPD_STAT_REASON | 3 => bind1 4 R.UPD_ACTIVE_SLOT
    | 4 => bindPair 4 R.UPD_COMMITL R.UPD_COMMITH | 8 => bind1 4 R.UPD_ACTIVE_FALLBACK | _ => none
  | 0x2C40 => match sub with
    | 3 => bind1 10 R.SVC_CFG_ENABLE | 4 => bind1 10 R.SVC_STAT_SESSION | _ => none
  | 0x2D00 => match sub with
    | 1 => bind1 7 R.KEY_STAT_LOADED | 3 => bind1 7 R.KEY_ROLLBACK_COUNT | 5 => bind1 7 R.KEY_STAT_DEBUG
    | 7 => bind1 8 R.XTS_STAT_LANEFAIL | _ => none
  | _ => none

/-- Management-port and PCIe entries (Table 2.22), and the check's (Table 2.15). -/
def bind20 (index sub : Nat) : Option Bind :=
  match index with
  | 0x2011 => bind1 (sub - 1) R.CFGREF_REF
  | 0x2012 => bind1 (sub - 1) R.CFGCRC_CRC
  | 0x2030 => if sub = 1 then bind1 1 R.DIC_EXTSTAT_LOADED else none
  | 0x2040 => match sub with
    | 1 => bindPair 11 R.MGT_MACL_MAC R.MGT_MACH_MAC | 2 => bind1 11 R.MGT_IP4_ADDR
    | 4 => some ⟨[11], [(R.MGT_VLAN_VID, 0, 0), (R.MGT_VLAN_TAGGED, 0, 12)]⟩ | 6 => bind1 11 R.MGT_SMB_SMBADDR
    | 7 => bind1 11 R.MGT_SMB_EID | 8 => some ⟨[11], [(R.MGT_CFG_ENABLE, 0, 0), (R.MGT_CFG_SMBEN, 0, 1)]⟩ | _ => none
  | 0x2050 => match sub with
    | 3 => some ⟨[9], [(R.PCI_SUBSYS_SUBVID, 0, 0), (R.PCI_SUBSYS_SUBID, 0, 16)]⟩ | 4 => bind1 9 R.PCI_STAT_SPEED
    | 5 => bind1 9 R.PCI_STAT_WIDTH | 6 => bind1 9 R.PCI_STAT_DSTATE | _ => none
  | _ => none

/-- The fields that an extension entry's backing names (Table 2.18): whole fields with an apply class that cover the range. -/
def extBind (x : ExtEntry) : Option Bind :=
  let n := (x.addr - 0x40000000) / 0x100000
  let off := x.addr % 0x100000
  let in0 := (wordFields n off).map (fun p => (p.1, p.2, p.1.lsb))
  let in1 := (wordFields n (off + 4)).map (fun p => (p.1, p.2, p.1.lsb + 32))
  let parts := (in0 ++ in1).filter (fun p => decide (p.1.app ≠ .none) && decide (x.lsb ≤ p.2.2) &&
    decide (p.2.2 + p.1.wid ≤ x.msb + 1))
  let covered := parts.foldl (fun a p => a + p.1.wid) 0
  if 0x40000000 ≤ x.addr ∧ n < 58 ∧ x.addr % 4 = 0 ∧ covered = x.msb + 1 - x.lsb then
    some ⟨[n], parts.map (fun p => (p.1, p.2.1, p.2.2 - x.lsb))⟩
  else none

/-- The fields behind an entry; none where it fronts none. -/
def bindOf (s : State) (sess index sub : Nat) : Option Bind :=
  match index / 256 with
  | 0x20 => bind20 index sub
  | 0x22 => bind22 index sub
  | 0x24 | 0x25 => bind24 s index sub
  | 0x26 | 0x27 => bind26 index sub
  | 0x28 | 0x29 | 0x2A => bind28 s sess index sub
  | 0x2B | 0x2C | 0x2D => bind2B s index sub
  | _ => match s.dic.ext.find? (ekey index sub) with
    | some x => if x.handler then none else extBind x
    | none => none

/-- A field as a dictionary read shows it: the value in force; in the policy rows and the lend table, which are edit shadows, the
written value that no commit has released (R55); a write-only field reads 0. -/
def shown (s : State) (index : Nat) (F : Fld) (i b : Nat) : Nat :=
  if index = 0x2511 ∨ index = 0x2520 then (s.rf.group.find? (F.key i b)).getD (s.rd F i b)
  else if F.acc = .wo then 0
  else s.rd F i b

/-- The value of a bound entry. -/
def bindRead (s : State) (index : Nat) (d : Bind) : Nat :=
  let n := d.blocks.headD 0
  d.parts.foldl (fun a p => a + shown s index p.1 p.2.1 (copyOf p.1 (homeOf n (p.1.offset p.2.1))) * 2 ^ p.2.2) 0

/-! ## Counters (R47, R68) -/

/-- A counter live, or from holding bank 1. -/
def cnt (s : State) (snap : Bool) (c : Ctr) (i : Nat := 0) (b : Nat := 0) : Nat :=
  if snap then s.rf.bank1.get (c.key i b) 0 else s.ctr c i b

/-- The sum of a counter over the elements and copies of its block. -/
def cntSum (s : State) (snap : Bool) (c : Ctr) : Nat :=
  ((List.range c.nblk).foldl (fun a b => (List.range c.cnt).foldl (fun x i => x + cnt s snap c i b) a) 0) % 2 ^ 64

/-- The sum of the `k`-th of a list of counters. -/
def cntNth (s : State) (snap : Bool) (cs : List Ctr) (k : Nat) : Nat :=
  match cs[k]? with
  | some c => cntSum s snap c
  | none => 0

/-- The entries that are counters. -/
def counterEntry (s : State) (snap : Bool) (index sub : Nat) : Option Nat :=
  let k := sub - 1
  match index with
  | 0x2140 =>
    if sub = 1 then some ((cntSum s snap C.TRN_L1HIT + cntSum s snap C.TRN_L1MISS) % 2 ^ 64)
    else some (cntNth s snap [C.TRN_L1MISS, C.TRN_L2MISS, C.TRN_STALEFILL, C.TRN_HOPMERGE, C.TRN_CHKFAIL] (sub - 2))
  | 0x2220 => some (cntNth s snap [C.XPT_RXPKT, C.XPT_RESP, C.XPT_NAKSEQ, C.XPT_NAKINV, C.XPT_NAKACC, C.XPT_NAKOPS,
      C.XPT_RNRNAK, C.XPT_MISSDROP, C.XPT_HFETCHFAIL, C.XPT_CNPTX, C.XPT_CNPRX, C.XPT_CERX, C.XPT_ADMITDROP, C.XPT_REQRETRY,
      C.XPT_CNPABANDON] k)
  | 0x2300 =>
    if sub = 1 then none
    else some (cntNth s snap [C.XPT_DUPACK, C.XPT_DUPREPLAY, C.XPT_DUPNOSLOT, C.XPT_DUPDROP, C.XPT_FWDOUT, C.XPT_FWDREEXEC,
      C.XPT_SPLIT, C.XPT_TWINREAD, C.XPT_POISONNAK, C.XPT_GOVHOLD] (sub - 2))
  | 0x2420 => some (cntNth s snap [C.TWN_FLITTX, C.TWN_FLITRX, C.TWN_CRCERR, C.TWN_REPLAY, C.TWN_RETRAIN, C.TWN_LANEFAULT,
      C.TWN_MIRRORTX, C.TWN_FWDTX, C.TWN_ORDEREDTX, C.TWN_PLACEDTX, C.TWN_TREADTX, C.TWN_RESYNCTX, C.TWN_RESYNCRX,
      C.TWN_EPOCHGAP] k)
  | 0x2501 => some (cntNth s snap [C.TIE_PROMOTE, C.TIE_DEMOTE, C.TIE_CLEANED, C.TIE_MISSPARK, C.TIE_MISSRETURN,
      C.TIE_QEVICT, C.TIE_PEVICT, C.TIE_MERGE, C.TIE_ZEROFILL, C.TIE_HFAIL] k)
  | 0x2612 => some (cntNth s snap [C.SAV_SAVES, C.SAV_GOVSAVES, C.SAV_TORN, C.SAV_REHEARSALS, C.SAV_RESTORES,
      C.SAV_POISONLINES, C.SAV_FILLBYTES] k)
  | 0x2710 => some (cntNth s snap [C.MST_STAGES, C.MST_INSTR, C.MST_MACBYTES, C.MST_FETCHSBYTES, C.MST_FETCHRBYTES,
      C.MST_PUTBYTES, C.MST_SCATBYTES, C.MST_STALLS, C.MST_TIERLATE, C.MST_DONE, C.MST_FAILED, C.MST_SRAMCORR] k)
  | 0x2801 => some (cnt s snap C.DRC_CORRECTED 0 k)
  | 0x2802 => some (cnt s snap C.DRC_UNCORR 0 k)
  | 0x2830 => some (cntNth s snap [C.DRC_RDLINES, C.DRC_WRLINES, C.DRC_CORRECTED, C.DRC_UNCORR, C.DRC_POISONRD,
      C.DRC_PAGEHIT, C.DRC_PAGEMISS, C.DRC_REFRESH, C.DRC_SRENTRY] k)
  | 0x2901 => some (cntNth s snap [C.STF_READS, C.STF_RETRIED, C.STF_REBUILT, C.STF_LOST, C.STF_ROWS, C.STF_PADDED,
      C.STF_ERASES, C.STF_ESUSP, C.STF_PSUSP, C.STF_RELOCATED, C.STF_REFUSEDPROG, C.STF_PATROL] k)
  | 0x2981 => some (cntNth s snap [C.KPF_XIPMISS, C.KPF_PFHIT, C.KPF_BCHIT, C.KPF_REQS, C.KPF_SUSPENDS, C.KPF_FAILS] k)
  | 0x2C00 => if sub = 4 then some (cntSum s snap C.CPX_REMOUNTS) else none
  | _ => none

/-! ## Entries computed from state -/

/-- The number of `p` in a count. -/
def countIn (n : Nat) (p : Nat → Bool) : Nat := ((List.range n).filter p).length

/-- 0x2000, 0x2001, 0x2010: sessions and the check. -/
def read20 (s : State) (sess index sub : Nat) : Nat :=
  let x := s.dic.sessions.find? sess
  match index, sub with
  | 0x2000, 1 => (s.dic.sessions.filter (fun e => e.2.isOpen)).length
  | 0x2000, 2 => 32
  | 0x2000, 3 => ent s (ekey 0x2000 3) 60
  | 0x2000, 4 => sess
  | 0x2000, 5 => (x.map (·.role)).getD 0
  | 0x2000, 6 => (x.map (·.path)).getD 0
  | 0x2000, 7 => s.dic.locked % 16
  | 0x2000, 0x0A => 0xF3D1
  | 0x2001, 1 => (x.map (·.filter)).getD 0
  | 0x2001, 2 => (x.map (·.minSev)).getD 3
  | 0x2010, 2 => b2n ((List.range 58).any (fun n => s.on R.BLKSTAT_CFGMIS 0 n))
  | 0x2010, 3 => deviceCrc s
  | 0x2010, 5 => (List.range 32).foldl (fun a n => bitPut a n (s.on R.BLKSTAT_CFGMIS 0 n)) 0
  | 0x2010, 6 => (List.range 26).foldl (fun a n => bitPut a n (s.on R.BLKSTAT_CFGMIS 0 (32 + n))) 0
  | 0x2040, 5 => if s.on R.MGT_LINK_UP then s.rd R.MGT_LINK_SPEED + 1 else 0
  | 0x2050, 1 => s.fuses.vendorId
  | 0x2050, 2 => 0x9240
  | _, _ => ent s (ekey index sub) 0

/-- 0x2100 to 0x2130: the address space. -/
def read21 (s : State) (sess index sub : Nat) : Nat :=
  let i := inspected s sess (ekey 0x2120 1)
  let r := regionAt s i
  let e := extentAt s (inspected s sess (ekey 0x2130 1))
  match index, sub with
  | 0x2100, 1 => pext s * 2097152
  | 0x2100, 2 => pext s
  | 0x2100, 3 => dgroups s * 2097152
  | 0x2100, 4 => mapEnd s * 2097152
  | 0x2100, 5 => s.rd R.DRC_ADDRMAP_GRAIN
  | 0x2100, 6 => s.rd R.DRC_ADDRMAP_WIDTH
  | 0x2100, 7 => 16384 - s.maps.freeNext + s.maps.freed.length
  | 0x2110, 0x0A => inspected s sess (ekey 0x2110 0x0A)
  | 0x2110, 0x0B => inspected s sess (ekey 0x2110 0x0B)
  | 0x2120, 1 => i
  | 0x2120, 2 => r.state
  | 0x2120, 3 => r.tenant
  | 0x2120, 4 => r.vabase
  | 0x2120, 5 => r.lenpages * 4096
  | 0x2120, 6 => r.sapage * 4096
  | 0x2120, 7 => b2n r.rread + 2 * b2n r.rwrite + 4 * b2n r.ratomic + 8 * r.home + 32 * r.tpol + 256 * b2n r.scratch
  | 0x2120, 8 => r.regseq
  | 0x2120, 9 => r.label
  | 0x2120, 0x0A => s.trn.inflight.get i 0
  | 0x2120, 0x0B => rkeyOf i r
  | 0x2130, 1 => inspected s sess (ekey 0x2130 1)
  | 0x2130, 2 => e.estate
  | 0x2130, 3 => e.movekind
  | 0x2130, 4 => e.owner
  | 0x2130, 5 => e.home + 4 * e.tpol + 32 * b2n e.ingroup
  | 0x2130, 6 => e.rescnt
  | 0x2130, 7 => e.dirtycnt
  | _, _ => ent s (ekey index sub) 0

/-- 0x2201, 0x2210.07 and 0x2230: ports and responder QPs. -/
def read22 (s : State) (sess index sub : Nat) : Nat :=
  let i := inspected s sess (ekey 0x2230 1)
  let q := qpAt s i
  match index, sub with
  | 0x2201, l1 =>
    let n := s.prt.lanes.get (l1 - 1) 0
    if !portUp s (l1 - 1) then 0 else if n = 4 then 3 else if n = 2 then 2 else 1
  | 0x2210, 7 => s.xpt.cache.length
  | 0x2230, 1 => i
  | 0x2230, 2 => q.qstate
  | 0x2230, 3 => q.tenant
  | 0x2230, 4 => q.lport
  | 0x2230, 5 => q.epsn
  | 0x2230, 6 => q.xhorizon
  | 0x2230, 7 => q.destqp
  | 0x2230, 8 => b2n (s.xpt.cache.has i)
  | 0x2230, 9 => q.viols
  | _, _ => ent s (ekey index sub) 0

/-- Pages set in a 512-bit mask. -/
def maskPages (m : Nat) : Nat := countIn 512 (bit m)

/-- 0x2300.01, 0x2402, 0x2410 and 0x2440: conditions and the twin. -/
def read24 (s : State) (sess index sub : Nat) : Nat :=
  let f := s.log.fences[inspected s sess (ekey 0x2440 1)]?
  match index, sub with
  | 0x2300, 1 => if s.dev ≠ .serving then 2 else if isSpan s ∨ s.twn.spanOk then 0 else 1
  | 0x2410, 3 => s.log.dir.foldl (fun a x => a + (if x.2.mode = 2 then 512 else maskPages x.2.changed)) 0
  | 0x2410, 4 => s.twn.csent
  | 0x2440, 1 => inspected s sess (ekey 0x2440 1)
  | 0x2440, 2 => (f.map (·.1)).getD 0
  | 0x2440, 3 => match f with | some x => pageEpoch s x.1 | none => 0
  | 0x2440, 4 => (f.map (·.2.1)).getD 0
  | 0x2440, 5 => (f.map (·.2.2.1)).getD 0
  | 0x2440, 6 => (f.map (·.2.2.2)).getD 0
  | _, _ => ent s (ekey index sub) 0

/-- 0x2500, 0x2510, 0x2520.01 and 0x2530.01: tiers and tenants. -/
def read25 (s : State) (sess index sub : Nat) : Nat :=
  let t := inspected s sess (ekey 0x2510 1)
  let x := (tenantShadow s).get t {}
  match index, sub with
  | 0x2500, 1 => dataGroups s
  | 0x2500, 3 => quotaSum s.tie.tenants
  | 0x2500, 4 => s.maps.extents.foldl (fun a e => a + e.2.rescnt) 0
  | 0x2500, 5 => s.maps.extents.foldl (fun a e => a + e.2.dirtycnt) 0
  | 0x2500, 7 => s.tie.lend.foldl (fun a l => a + l.2.1) 0
  | 0x2510, 1 => t
  | 0x2510, 2 => b2n x.quota
  | 0x2510, 3 => x.dquota
  | 0x2510, 4 => dused s t
  | 0x2510, 5 => x.squota
  | 0x2510, 6 => salloc s t
  | 0x2510, 7 => x.parklim
  | 0x2510, 8 => parkedOf s t
  | 0x2510, 9 => x.notsess0
  | 0x2510, 0x0A => x.notsess1
  | _, _ => ent s (ekey index sub) 0

/-- 0x2600, 0x2610.06, 0x2700.03, 0x2720 and 0x2730: the governor and the millstones. -/
def read26 (s : State) (sess index sub : Nat) : Nat :=
  let j := inspected s sess (ekey 0x2720 1)
  let q := rqAt s (inspected s sess (ekey 0x2730 1))
  let w := fun k => if j < jlPages s then recWord s j k else 0
  match index, sub with
  | 0x2600, 1 => s.gov.ceil * 4096
  | 0x2600, 2 => s.gov.limit * 4096
  | 0x2600, 3 => s.rd R.GOV_DIRTY * 4096
  | 0x2600, 4 => s.rd R.GOV_OUT * 4096
  | 0x2610, 6 => s.rd R.SAV_ERASED_MIB * 1048576
  | 0x2700, 3 => jlBase s * 4096
  | 0x2720, 1 => j
  | 0x2720, 2 => bits (w 0) 61 3
  | 0x2720, 3 => w 1
  | 0x2720, 4 => bits (w 3) 54 10
  | 0x2720, 5 => bits (w 3) 30 24
  | 0x2720, 6 => bits (w 5) 32 32
  | 0x2720, 7 => bits (w 4) 56 8
  | 0x2720, 8 => bits (w 4) 46 10
  | 0x2720, 9 => w 6
  | 0x2730, 1 => inspected s sess (ekey 0x2730 1)
  | 0x2730, 2 => q.qstate
  | 0x2730, 3 => q.lport
  | 0x2730, 4 => q.destqp
  | 0x2730, 5 => q.rate * 100
  | 0x2730, 6 => q.spsn
  | _, _ => ent s (ekey index sub) 0

/-- 0x2800, 0x2820, 0x2900, 0x2910 and 0x2980.05: DRAM and flash. While their blocks have no geometry in force, the size
entries read their table's defaults (log entry 70). -/
def read28 (s : State) (sess index sub : Nat) : Nat :=
  let n := inspected s sess (ekey 0x2820 1)
  let k := inspected s sess (ekey 0x2910 1)
  let up := s.running 42
  match index, sub with
  | 0x2800, 2 => if up then s.rd R.DRC_CFG_DPC + 1 else 1
  | 0x2800, 3 => if up then 2 ^ s.rd R.DRC_ADDRMAP_RANKBITS else 1
  | 0x2800, 4 => if up then geometryBytes s / 16 else 0
  | 0x2800, 5 => if s.rd R.DRC_CFG_SPEED = 0 then 700000 else 612500
  | 0x2820, 1 => n
  | 0x2820, 2 => if s.on R.FAR_OWNER_HELD n then s.rd R.FAR_OWNER_OWNER n else 0xFFFF
  | 0x2900, 1 => if ppb s = 0 then 0 else dpc s
  | 0x2900, 2 => if ppb s = 0 then 0 else bpd s
  | 0x2900, 3 => ppb s
  | 0x2900, 4 => rawStore s
  | 0x2910, 1 => k
  | 0x2910, 2 => (blkAt s k).state
  | 0x2910, 3 => (blkAt s k).retmask
  | 0x2910, 4 => (blkAt s k).erases
  | 0x2910, 5 => s.stf.valid.get k 0
  | 0x2980, 5 => 64 * studSlots s
  | _, _ => ent s (ekey index sub) 0

/-- 0x2A04.01, 0x2A05, 0x2C10, 0x2C20 and the fixed entries of chapters 14 and 15. -/
def read2A (s : State) (sess index sub : Nat) : Nat :=
  match index, sub with
  | 0x2A04, 1 => inspected s sess (ekey 0x2A04 1)
  | 0x2A05, n => adcMv (s.rd R.PWR_ADC (n - 1))
  | 0x2C10, 1 => s.recd.head
  | 0x2C10, 2 => max s.recd.start (s.recd.head - 16383)
  | 0x2C10, 3 => inspected s sess (ekey 0x2C10 3)
  | 0x2C11, 1 => ent s (ekey 0x2C11 1) 0
  | 0x2C20, 2 => studSlots s
  | 0x2C20, 3 => inspected s sess (ekey 0x2C20 3)
  | 0x2C20, 4 => inspected s sess (ekey 0x2C20 4)
  | 0x2C30, 7 => b2n (legacyLoad s)
  | 0x2C40, 1 => s.fuses.vendorId
  | 0x2C40, 2 => 0x9240
  | 0x2D00, 2 => b2n (!slotLoaded s 4 || !slotLoaded s 5)
  | 0x2D00, 4 => b2n (!s.on R.KEY_STAT_NOENTROPY)
  | 0x2D00, 6 => (s.key.slots.filter (fun e => decide (16 ≤ e.1))).length
  | 0x2D10, 1 => ent s (ekey 0x2D10 1) 4
  | _, _ => ent s (ekey index sub) 0

/-- 0x1000 and 0x1100: identity, device state and gaits. -/
def read10 (s : State) (index sub : Nat) : Nat :=
  match index, sub with
  | 0x1000, 3 => 0x0101
  | 0x1000, 4 => 1
  | 0x1000, 5 => levelEnables s
  | 0x1000, 6 => enabledLevel 1 (levelEnables s)
  | 0x1000, 7 => if s.twn.runLevel = 0 then enabledLevel 1 (levelEnables s) else s.twn.runLevel
  | 0x1000, 8 => s.fuses.partNumber
  | 0x1000, 0x10 => 4
  | 0x1000, 0x11 => 16
  | 0x1000, 0x12 => 32
  | 0x1000, 0x13 => 8
  | 0x1000, 0x14 => 262144
  | 0x1000, 0x15 => 16384
  | 0x1000, 0x16 => 1024
  | 0x1100, 1 => s.dev.code
  | 0x1100, 2 => s.rd R.GAI_CUR_CURRENT
  | 0x1100, 3 => s.rd R.GAI_REQ_GAIT
  | 0x1100, 4 => s.rd R.GAI_CUR_CHANGE
  | 0x1100, 5 => s.rd R.GAI_RELINK_PENDING
  | 0x1100, 6 => s.rd R.PWR_POWER_WATTS
  | 0x1100, 7 => ent s (ekey 0x1100 7) 0
  | _, _ => if 0x1110 ≤ index then entryValue (fun F => editVal s F (index - 0x1110)) (sub - 1) else 0

/-- The number that an entry of up to 8 bytes reads as. -/
def readNum (s : State) (sess : Nat) (snap : Bool) (index sub : Nat) : Nat :=
  match counterEntry s snap index sub with
  | some v => v
  | none =>
    match bindOf s sess index sub with
    | some d => bindRead s index d
    | none =>
      match index / 256 with
      | 0x10 | 0x11 => read10 s index sub
      | 0x20 => read20 s sess index sub
      | 0x21 => read21 s sess index sub
      | 0x22 => read22 s sess index sub
      | 0x23 | 0x24 => read24 s sess index sub
      | 0x25 => read25 s sess index sub
      | 0x26 | 0x27 => read26 s sess index sub
      | 0x28 | 0x29 => read28 s sess index sub
      | _ => read2A s sess index sub

/-- The status word of a command entry (Table 2.1). -/
def cmdWord (c : CmdStat) : Nat := c.state * 2 ^ 24 + c.code * 2 ^ 16 + c.progress

/-- Is a command's status kept for each session? -/
def perSession (index sub : Nat) : Bool := (index = 0x2110 && sub = 9) || (index = 0x2111 && (sub = 1 || sub = 4))

/-- The key of a command entry's status. -/
def cmdOf (sess index sub : Nat) : Nat := if perSession index sub then cmdKey (ekey index sub) sess else ekey index sub

/-! ## Byte strings -/

/-- ASCII text padded to 32 bytes. -/
def str32 (t : List Nat) : List Nat := (t ++ List.replicate 32 0).take 32

/-- The 256 bytes of a snapshot record (Table 12.5). -/
def snapBytes (x : Snapshot) : List Nat :=
  leBytes x.seq 8 ++ [x.cause, x.step, x.rail, x.dev] ++ leBytes x.usInStep 4 ++ leBytes x.enmask 4 ++ leBytes x.pgraw 4 ++
  leBytes x.pgqual 4 ++ x.cross ++ x.adc.flatMap (fun v => leBytes v 2) ++ x.vout.flatMap (fun v => leBytes v 2) ++
  x.iout.flatMap (fun v => leBytes v 2) ++ List.replicate 88 0

/-- The 16 bytes of a reset history record (Table 12.6). -/
def histBytes (x : HistRec) : List Nat :=
  leBytes (x.level * 2 ^ 61 + x.source * 2 ^ 58 + x.block * 2 ^ 50 + x.dev * 2 ^ 46) 8 ++ leBytes x.evseq 8

/-- A record of the ring by its sequence. -/
def recordAt (s : State) (seq : Nat) : Option EvRec := s.recd.ring.find? (fun r => r.seq = seq)

/-- Four words as 16 bytes, the first word the most significant. -/
def wordsBytes (ws : List Nat) : List Nat := ws.flatMap (fun w => beBytes w 4)

/-- The bytes of a BLOB or STR32 entry; none where the entry holds nothing to answer. -/
def readBytes (s : State) (sess index sub : Nat) : Option (List Nat) :=
  match index with
  | 0x1000 => some (str32 (ascii (if sub = 1 then "Skomin Microsystems" else "SKM9240-FC")))
  | 0x2030 => some (str32 s.dic.extVersion)
  | 0x2040 => some (wordsBytes ((List.range 4).map (fun w => s.rd R.MGT_IP6 w)))
  | 0x2204 => some (wordsBytes ((List.range 4).map (fun w => s.rd R.PRT_IP6 (4 * ((sub - 1) % 4) + w) ((sub - 1) / 4))))
  | 0x2441 => some ((s.dic.blobs.get (ekey 0x2441 1) [] ++ List.replicate 4096 0).take 4096)
  | 0x2A04 => some (match s.tack.snaps.find? (inspected s sess (ekey 0x2A04 1)) with
      | some x => snapBytes x
      | none => List.replicate 256 0)
  | 0x2A12 => some (match s.tack.hist.find? (sub - 1) with | some x => histBytes x | none => List.replicate 16 0)
  | 0x2C10 => (recordAt s (inspected s sess (ekey 0x2C10 3))).map recordBytes
  | 0x2C20 => some (kbytes s (studOff s (inspected s sess (ekey 0x2C20 3)) (inspected s sess (ekey 0x2C20 4))) 64)
  | 0x2C30 => some (imageVersion s (imageBase (if sub = 5 then s.cpx.image else 2)))
  | 0x2D10 => some (wrapBytes s (ent s (ekey 0x2D10 1) 4))
  | _ => none

end Sys2Proof.Machine
end

