-- ==== Sys2Proof/Machine/Pads.lean ====
section
/-! DEFINITION. The levels of the pads that hold external state (R399, Table 12.10): a function of the state, by pad class. -/

namespace Sys2Proof.Machine

/-- The pad classes of Table 12.10, by channel, port or output. -/
inductive PadClass
  | ddrCs (c : Nat) | ddrReset (c : Nat) | ddrClock (c : Nat) | ddrCa (c : Nat) | ddrDq (c : Nat)
  | storeEnables | storeLatches | storeDq
  | keeperCs
  | railEnable (r : Nat) | chargeEnable | bleed (m : Nat)
  | serdesHost (p : Nat) | serdesTwin | serdesPcie
  | heartbeat | rgmii | resetOut (o : Nat) | busses | usb
  deriving DecidableEq, Repr

/-- What a pad shows: a fixed level, or what its owning block drives. -/
inductive PadLevel
  | low | high | highZ | clockStopped | idle | released | detached | driven
  deriving DecidableEq, Repr

/-- Is block `n` held in reset, or not started since its reset: its pads then show the column "from reset end to the owner's GO"? -/
def padOwned (s : State) (n : Nat) : Bool := awake s && !s.rst.held && s.running n

/-- Has the training of channel `c` begun in this start: the farrier has granted the channel to training (Table 10.7 step 1)? -/
def trainingBegun (s : State) (c : Nat) : Bool :=
  match s.far.held.find? c with
  | some o => decide (o / 128 = 6)
  | none => false

/-- The level of a pad (Table 12.10). The retention latches hold the DDR5, rail-enable and charger pads while LATCHED is 1. -/
def padLevel (s : State) : PadClass → PadLevel
  | .ddrCs c => if padOwned s (42 + c) && !s.on R.RST_RETAIN_LATCHED then .driven else .high
  | .ddrReset c =>
    if s.on R.RST_RETAIN_LATCHED then .high
    else if padOwned s (42 + c) then .driven
    else if s.on R.RST_RETAIN_WARM || trainingBegun s c then .high else .low
  | .ddrClock c => if padOwned s (42 + c) && !s.on R.RST_RETAIN_LATCHED then .driven else .clockStopped
  | .ddrCa c => if padOwned s (42 + c) && !s.on R.RST_RETAIN_LATCHED then .driven else .low
  | .ddrDq c => if padOwned s (42 + c) && !s.on R.RST_RETAIN_LATCHED then .driven else .highZ
  | .storeEnables => if padOwned s 18 then .driven else .high
  | .storeLatches => if padOwned s 18 then .driven else .low
  | .storeDq => if padOwned s 18 then .driven else .highZ
  | .keeperCs => if padOwned s 17 then .driven else .high
  | .railEnable r => if s.rbit R.PWR_ENSTAT r then .high else .low
  | .chargeEnable => if s.on R.PWR_INSTAT_CHGEN then .high else .low
  | .bleed m => if bit s.pwr.bleed m then .high else .low
  | .serdesHost p => if padOwned s (26 + p) then .driven else .idle
  | .serdesTwin => if padOwned s 24 then .driven else .idle
  | .serdesPcie => if padOwned s 9 then .driven else .idle
  | .heartbeat => if padOwned s 24 then .driven else .low
  | .rgmii => if padOwned s 11 then .driven else .low
  | .resetOut o => if s.rbit R.RST_OUTSTAT_ASSERTED o then .low else .high
  | .busses => if s.dev = .off then .released else .driven
  | .usb => if padOwned s 10 && s.on R.SVC_CFG_ENABLE then .driven else .detached

end Sys2Proof.Machine
end

