-- ==== Sys2Proof/Machine/Power.lean ====
section
/-! DEFINITION. The meanings of the power, clock and reset commands beside the sequencer's (R20, R32, R375 to R397, R408). -/

namespace Sys2Proof.Machine

/-! ## Power-on, requests, the input -/

/-- What outlives a loss of the always-on supply: fuses, flash and, above the retention floor, the tack room (R387). -/
def afterOff (s : State) (floorLost : Bool) : State :=
  { State.reset with
    now := s.now, dev := .off, fuses := s.fuses, draws := s.draws, out := s.out, pending := s.pending
    tack := if floorLost then {} else s.tack
    pwr := { boVin := s.pwr.boVin }, dic := { opens := s.dic.opens }
    kpf := kpfMedia s, stf := stfMedia s, sav := savMedia s }

/-- The recorder's restart at power-on (R437): S = 2^32 + the stud book's highest sequence, with event 0x5060, after the tack
room was zeroed; else as every reset. -/
def powerOnRecorder (s : State) (floorLost : Bool) : State :=
  if floorLost then
    let old := studHighestEvent s
    let first := 4294967296 + old
    raise { s with recd := { head := first - 1, start := first } } 0x5060 [old, first]
  else restartRecorder s

/-- Event 0x4060 for each fuse nibble that R389 reports. -/
def reportNibbles (s : State) : State :=
  (List.range 8).foldl (fun t i =>
    let n := bits t.fuses.reach (4 * i) 4
    if badNibble i n then raise t 0x4060 [i, n] else t) s

/-- POWER_ON_RESET (R388): out of OFF, a level-5 reset into STANDBY; where the supply stayed above the retention floor, event
0x3C60 describes the collapse (R382). -/
def doPowerOnReset (floorLost : Bool) (s : State) : State :=
  if s.dev = .off then
    let t := powerOnRecorder (readReach (afterOff s floorLost)) floorLost
    let t := recordReset t { level := 5, source := 0, block := 0 }
    let t := reportNibbles t
    let t := match s.pwr.abandoned with
      | some n => if floorLost then t else raise t 0x3C60 [n, (bkp s 3 % 16 + 15) % 16]
      | none => t
    enterStandby (afterReset t 5 true) true 51
  else s

def execPowerOnReset (floorLost : Bool) (s : State) : Out3 := .next (doPowerOnReset floorLost s)

/-- PWR_BTN_PRESS (R375): a low pulse of `ms`. -/
def doPwrBtnPress (ms : Nat) (s : State) : State :=
  if s.dev = .off ∨ ms < 10 * s.rd R.PWR_CTL_BTNMIN then s
  else if s.dev = .standby ∨ s.dev = .saving ∨ s.dev = .saved ∨ s.dev = .falling then onRequest s
  else offRequest s

def execPwrBtnPress (ms : Nat) (s : State) : Out3 := .next (doPwrBtnPress ms s)

/-- ON_REQUEST_CMD (0x2A01.02): FAILED outside SAVING, SAVED and FALLING (Table 12.13). -/
def doOnRequestCmd (s : State) : State :=
  if !awake s then s
  else if s.dev = .saving ∨ s.dev = .saved ∨ s.dev = .falling then cmdDone (onRequest s) (ekey 0x2A01 2)
  else cmdFailFree s (ekey 0x2A01 2)

def execOnRequestCmd (s : State) : Out3 := .next (doOnRequestCmd s)

/-- OFF_REQUEST_CMD (0x2A01.01). -/
def doOffRequestCmd (s : State) : State := if awake s then offRequest (cmdDone s (ekey 0x2A01 1)) else s

def execOffRequestCmd (s : State) : Out3 := .next (doOffRequestCmd s)

/-- EARLY_POWER_FAIL_WARNING (R378): by the pin or by channel 8, which reads `mv`. -/
def doEarlyPowerFailWarning (pin : Bool) (mv : Nat) (s : State) : State :=
  if s.dev = .off ∨ s.on R.PWR_INSTAT_WARN then s
  else
    let t := ((s.wr R.PWR_ADC (adcCode mv) 8).wr R.PWR_INSTAT_WARN 1).wr R.PWR_INSTAT_EPFRAW (b2n pin)
    let t := snapshot (t.bump C.PWR_WARNINGS) 4 0xFF
    let t := raise t 0x3C20 [Config.payloadCode 0x3C20 (b2n pin), mv]
    powerDown t .warning

def execEarlyPowerFailWarning (pin : Bool) (mv : Nat) (s : State) : Out3 := .next (doEarlyPowerFailWarning pin mv s)

/-- INPUT_POWER_QUALIFIED (R20): the warning and the input bus's brown-out have ended. -/
def doInputPowerQualified (s : State) : State :=
  if s.dev = .off then s
  else
    let t : State := { s with pwr := { s.pwr with boVin := false } }
    leaveSaved (showBrownOut ((t.wr R.PWR_INSTAT_WARN 0).wr R.PWR_INSTAT_EPFRAW 0))

def execInputPowerQualified (s : State) : Out3 := .next (doInputPowerQualified s)

/-- BROWN_OUT (R381): of the input bus (`rail` none, `reading` in mV), or of a rail that is LOST with LOSSACT set. -/
def doBrownOut (rail : Option (Fin 24)) (reading : Nat) (s : State) : State :=
  if s.dev = .off then s
  else
    match rail with
    | none =>
      if s.pwr.boVin then s
      else
        let t : State := { s with pwr := { s.pwr with boVin := true } }
        brownOutStart (t.wr R.PWR_ADC (adcCode reading) 8) 0 0xFF reading
    | some r =>
      if s.rbit R.PWR_LOST r ∧ s.on R.PWR_RAIL_LOSSACT r ∧ !s.on R.PWR_INSTAT_BROWNOUT then brownOutStart s 1 r reading
      else s

def execBrownOut (rail : Option (Fin 24)) (reading : Nat) (s : State) : Out3 := .next (doBrownOut rail reading s)

/-- INPUT_COLLAPSE (R382): keeper descriptors complete ABANDONED, the falling table runs as far as it can, the device is in
OFF. -/
def doInputCollapse (s : State) : State :=
  if s.dev = .off then s
  else
    let n := s.kpf.queue.length + s.recd.studQ.length
    let t := snapshot ((tornFlash s).wr R.PWR_INSTAT_COLLAPSE 1) 6 0xFF
    let t : State := { t with
      dev := .off
      kpf := { t.kpf with queue := [], busy := false, prog := false, erasing := false
                          done := t.kpf.done ++ t.kpf.queue.map (fun r => (r.tag, 4)) }
      recd := { t.recd with studQ := [] }
      pwr := { t.pwr with abandoned := some n }
      rst := { t.rst with held := true } }
    let t := (((showKpf t).wr R.PWR_SEQSTAT_ONLATCH 0).wr R.PWR_INSTAT_CHGEN 0)
    stepBegin (t.wr R.PWR_SEQSTAT_PHASE 2) 0

def execInputCollapse (s : State) : Out3 := .next (doInputCollapse s)

/-! ## Clocks -/

/-- MAIN_SHAFT_LOSS (R397): LOCKLOSS or SHAFTLOSS with a qualified reference: a level-5 reset at once; in SAVING the save is
torn. -/
def doMainShaftLoss (lockloss shaftloss : Bool) (s : State) : State :=
  if shaftRuns s ∧ s.clk.refOk ∧ (lockloss ∨ shaftloss) then
    let t := (s.wr R.RST_CLK_LOCKLOSS (b2n lockloss)).wr R.RST_CLK_SHAFTLOSS (b2n shaftloss)
    let t := raise t 0x40A0 [Config.payloadCode 0x40A0 (b2n lockloss + 2 * b2n shaftloss), tstate s]
    let t := if s.dev = .saving then
        (raise (tornFlash t) 0x2440 [s.rd R.SAV_PROGRESS_PAGES, liveEnergy s / 2000000000000000]).bump C.SAV_TORN
      else t
    let q : ResetReq := { level := 5, source := 6, block := 0 }
    fallNow (stopShaft (coldEffect t q)) 33
  else s

def execMainShaftLoss (lockloss shaftloss : Bool) (s : State) : Out3 := .next (doMainShaftLoss lockloss shaftloss s)

/-- CLOCK_FAILURE (R396): REFLOSS: holdover, then a reset of the fused level, or a relock to the backup in SAVING. -/
def doClockFailure (s : State) : State :=
  if s.dev = .off ∨ !s.clk.refOk then s
  else
    let t : State := { s with clk := { s.clk with refOk := false } }
    let t := t.wr R.RST_CLK_REFLOSS 1
    if shaftRuns s then
      let t := t.wr R.CLK_STAT_HOLDOVER 1
      let t := raise t 0x4420 [s.dev.code]
      let t := raise t 0x4040 [1, t.rd R.RST_CLK_LOCKLOSS, t.rd R.RST_CLK_SHAFTLOSS, s.dev.code]
      let t := setBkp t 2 (bitSet (bkp t 2) 2)
      if s.dev = .saving then
        let t : State := { t with clk := { t.clk with locking := true, refwaitOver := true } }
        sourceReset (t.wr R.CLK_STAT_LOCKED 0) 6
      else sourceReset t 6
    else t

def execClockFailure (s : State) : Out3 := .next (doClockFailure s)

/-- REFWAIT_EXPIRY (R396): the main shaft is to lock to the backup-derived reference. -/
def doRefwaitExpiry (s : State) : State :=
  if s.clk.locking ∧ !s.clk.refwaitOver then
    let t : State := { s with clk := { s.clk with refOk := false, refwaitOver := true } }
    raise t 0x4440 [s.rd R.RST_CLK_REFWAIT]
  else s

def execRefwaitExpiry (s : State) : Out3 := .next (doRefwaitExpiry s)

/-- MAIN_SHAFT_LOCK (R408, Table 13.3): `ref` tells whether the reference is qualified; it is taken until REFWAIT has passed,
then the backup-derived one. In RISING the service core boots the control complex (R424). -/
def doMainShaftLock (ref : Bool) (us : Nat) (s : State) : State :=
  if awake s ∧ s.clk.locking ∧ (ref ∨ s.clk.refwaitOver) then
    let src := b2n s.clk.refwaitOver
    let t : State := { s with clk := { s.clk with refOk := ref, locking := false } }
    let t := ((t.wr R.CLK_STAT_SRC src).wr R.CLK_STAT_HOLDOVER 0).wr R.CLK_STAT_LOCKED 1
    let t := setBkp t 2 (bitClr (bkp t 2) 2)
    let t := raise t 0x4400 [src, t.rd R.CLK_CFG_VCO, us]
    let t := if s.dev = .rising then boot t else t
    tryLeaveRising (showGates (t.wr R.CLK_GATED_DOMAINS 0))
  else s

def execMainShaftLock (ref : Bool) (us : Nat) (s : State) : Out3 := .next (doMainShaftLock ref us s)

/-! ## The tables' ends -/

/-- RISING_TABLE_END (R20, R376): an off request that waited makes the device fall from step 0. -/
def doRisingTableEnd (s : State) : State :=
  if s.dev = .rising ∧ s.rd R.PWR_SEQSTAT_PHASE = 1 ∧ stepOp (curEntry s) = 0 then
    let t : State := { s with pwr := { s.pwr with risen := true } }
    let t := quietPoint (t.wr R.PWR_SEQSTAT_PHASE 0) 12
    if t.on R.PWR_SEQSTAT_OFFPEND then startFall t 0 1 else tryLeaveRising t
  else s

def execRisingTableEnd (s : State) : Out3 := .next (doRisingTableEnd s)

/-- A fall without a reset leaves the blocks outside the always-on domain without supply: the next start finds them as a
level-5 reset leaves them, with nothing recorded. In STANDBY every reset output is low (Table 12.10). -/
def fallOff (s : State) : State :=
  let t := coldBlocks (setRetain (s.wr R.RST_OUTSTAT_ASSERTED 15) false false)
  let t := afterReset t 5 false
  { t with rst := { t.rst with held := true } }

/-- FALLING_TABLE_END (R20, R393): STANDBY, and RISING at once with an on request latched. -/
def doFallingTableEnd (s : State) : State :=
  if s.rd R.PWR_SEQSTAT_PHASE = 2 ∧ stepOp (curEntry s) = 0 then
    if s.dev = .falling then
      match s.rst.pend5 with
      | some q => enterStandby (coldEnd s q) (decide (q.source = 1)) 52
      | none => enterStandby (fallOff s) false 53
    else quietPoint (s.wr R.PWR_SEQSTAT_PHASE 0) 12
  else s

def execFallingTableEnd (s : State) : Out3 := .next (doFallingTableEnd s)

/-! ## Telemetry, the power cap, margins -/

/-- The reading of one rail: READ_VOUT in mV, READ_IOUT in 10 mA units, none where a read failed. -/
def pollRail (reads : List (Option Nat × Option Nat)) (s : State) (r : Nat) : State :=
  if s.on R.PWR_RAIL_TELEM r ∧ s.rd R.PWR_RAIL_PMBADDR r ≠ 0 then
    let a := s.rd R.PWR_RAIL_PMBADDR r
    let x := reads.getD r (none, none)
    let t := (s.emit (.pmbus a 0x8B [])).emit (.pmbus a 0x8C [])
    let t := match x.1 with
      | some v => { t with pwr := { t.pwr with vout := t.pwr.vout.put r v 0 } }
      | none => (pmbFailed t a 0x8B 0).bump C.PWR_TELEMMISS
    match x.2 with
    | some i => { t with pwr := { t.pwr with iout := t.pwr.iout.put r i 0 } }
    | none => (pmbFailed t a 0x8C 0).bump C.PWR_TELEMMISS
  else s

/-- PMBUS_TELEMETRY_POLL (R384): the telemetry rails' readings, by rail, and the chip power in W, rounded down. -/
def doPmbusTelemetryPoll (reads : List (Option Nat × Option Nat)) (s : State) : State :=
  if s.dev = .off then s
  else
    let t := (List.range 24).foldl (pollRail reads) s
    let w := (List.range 24).foldl (fun a r =>
      if t.on R.PWR_RAIL_TELEM r then a + t.pwr.vout.get r 0 * t.pwr.iout.get r 0 else a) 0
    t.wr R.PWR_POWER_WATTS (w / 100000)

def execPmbusTelemetryPoll (reads : List (Option Nat × Option Nat)) (s : State) : Out3 := .next (doPmbusTelemetryPoll reads s)

/-- POWER_CAP_MEASUREMENT (R32): one reduction step while chip power exceeds the row's cap, one undone while it is at least
5 % below. `protectedW` is the load that may not be reduced. -/
def doPowerCapMeasurement (protectedW : Nat) (s : State) : State :=
  if s.dev = .serving then
    let w := s.rd R.PWR_POWER_WATTS
    let cap := (rowInForce s 12).pwrcap
    let n := redSteps s
    if cap < w then
      if n < redMax then raise (setSteps s (n + 1) s.gai.tempSteps) 0x0480 [w, cap, n + 1]
      else
        match s.gai.lastCapEvent with
        | some t0 => if s.since t0 < 100000 then s
            else raise { s with gai := { s.gai with lastCapEvent := some s.now } } 0x04A0 [w, cap, protectedW]
        | none => raise { s with gai := { s.gai with lastCapEvent := some s.now } } 0x04A0 [w, cap, protectedW]
    else
      let t : State := { s with gai := { s.gai with lastCapEvent := none } }
      if w * 100 ≤ cap * 95 ∧ 0 < s.gai.capSteps then setSteps t (min n s.gai.capSteps - 1) s.gai.tempSteps else t
  else s

def execPowerCapMeasurement (protectedW : Nat) (s : State) : Out3 := .next (doPowerCapMeasurement protectedW s)

/-- MARGIN_APPLY (0x2A03.03): the rail and the mode of PWR_MARGIN. -/
def doMarginApply (s : State) : State := if awake s then marginGo s true else s

def execMarginApply (s : State) : Out3 := .next (doMarginApply s)

/-! ## Reset requests -/

/-- PIN_RESET (R388): RST_N low for 25 backup cycles. -/
def doPinReset (s : State) : State := if s.dev = .off then s else sourceReset s 2

def execPinReset (s : State) : Out3 := .next (doPinReset s)

/-- SOFTWARE_RESET_REQUEST (R389): from RST_REQ.GO, or from command 0x2A10.08. -/
def doSoftwareResetRequest (a : ResetArg) (cmd : Bool) (s : State) : State := if awake s then softReset s a cmd else s

def execSoftwareResetRequest (a : ResetArg) (cmd : Bool) (s : State) : Out3 := .next (doSoftwareResetRequest a cmd s)

/-- DEBUG_RESET_REQUEST (R388): from the debug module, which answers after an unlock only (R470). -/
def doDebugResetRequest (a : ResetArg) (s : State) : State :=
  if awake s ∧ s.on R.KEY_STAT_DEBUG then (requestedReset s 5 a.level.toNat a.block.toNat a.drains).1 else s

def execDebugResetRequest (a : ResetArg) (s : State) : Out3 := .next (doDebugResetRequest a s)

/-- WRAPPER_DRAIN_TIMEOUT (R392): WRAPTO has passed: the wrapper forces `forced` completions, and the block resets. -/
def doWrapperDrainTimeout (block : Fin 58) (forced : Nat) (s : State) : State :=
  if s.rst.draining.any (fun q => q.block = block.val) then
    let t := (raise s 0x4020 [block, forced]).bump C.RST_WRAPFORCED forced
    let t : State := { t with rst := { t.rst with draining := t.rst.draining.filter (fun q => q.block ≠ block.val) } }
    resetBlockNow t block
  else s

def execWrapperDrainTimeout (block : Fin 58) (forced : Nat) (s : State) : Out3 := .next (doWrapperDrainTimeout block forced s)

end Sys2Proof.Machine
end

