-- ==== Sys2Proof/Machine/VisilLink.lean ====
section
/-! DEFINITION. The meanings of the Visil link's commands: replay, lanes and width, link faults and retraining, heartbeats,
training (R185 to R191, R202). -/

namespace Sys2Proof.Machine

/-- The sender resends from ACKSEQ + 1; after RPLIMIT replays without progress the link faults (R185, R190). -/
def replayAsked (s : State) : State :=
  if s.rd R.TWN_LINKTIME_RPLIMIT ≤ s.twn.replays then linkFault s 2
  else resendFlits ({ s with twn := { s.twn with replays := s.twn.replays + 1 } }.bump C.TWN_REPLAY)

/-- REPLAY_TIMER (R185): ACKSEQ has not advanced for RPTIMER. -/
def doReplayTimer (s : State) : State := if visilUp s then replayAsked s else s

def execReplayTimer (s : State) : Out3 := .next (doReplayTimer s)

/-- The lanes of the width that this side holds good: none in probation. -/
def goodLanes (s : State) : Nat := s.rd R.TWN_LANESTAT_ACTIVE - (s.rd R.TWN_LANESTAT_ACTIVE &&& s.rd R.TWN_PROBSTAT_PROBATION)

/-- A lane enters probation: its PHY is retrained under the farrier's token (R188). -/
def probation (s : State) (lane : Nat) : State :=
  let t := s.wbit R.TWN_PROBSTAT_PROBATION lane true
  farAsk { t with twn := { t.twn with passed := bitClr t.twn.passed lane } } (laneOwner lane) (100 + lane)

/-- LANE_FAULT (R187): a lane of the width faults and enters probation (R188); the link narrows, DATA stopped until it has, or faults
below WMIN. -/
def doLaneFault (lane : Fin 20) (cause : Fin 3) (s : State) : State :=
  if visilUp s ∧ s.rbit R.TWN_LANESTAT_ACTIVE lane then
    let t := probation (s.bump C.TWN_LANEFAULT) lane
    let m := goodLanes t
    let t := raise t (0x1820 + lane.val) [lane, Config.payloadCode 0x1820 cause, lanesOf m]
    if lanesOf m < wmin s then linkFault t 3
    else { t with twn := { t.twn with wOffer := some m, adding := 0, txStop := true } }.emit (.ctrl 1 m 0)
  else s

def execLaneFault (lane : Fin 20) (cause : Fin 3) (s : State) : Out3 := .next (doLaneFault lane cause s)

/-- The codeword count at which a WIDTH_ACK says to switch: which one is nowhere stated (log entry 9). -/
def switchAt (s : State) : Nat := Config.unstated 61 [s.now, s.rd R.TWN_LANESTAT_ACTIVE] % 4096

/-- CTRL_WIDTH (Table 6.3 step 2): the peer named its good lanes; the answer is the AND of both masks and the codeword count of the
switch, and DATA stops. A lane in probation counts as good here once it has passed. -/
def doCtrlWidth (mask : BitVec 20) (s : State) : State :=
  if visilUp s then
    let good := goodLanes s ||| s.twn.passed
    let m := mask.toNat &&& good
    { s with twn := { s.twn with wSwitch := some m, txStop := true } }.emit (.ctrl 2 m (switchAt s))
  else s

def execCtrlWidth (mask : BitVec 20) (s : State) : Out3 := .next (doCtrlWidth mask s)

/-- CTRL_WIDTH_ACK (Table 6.3 step 3): the set to switch to. -/
def doCtrlWidthAck (mask : BitVec 20) (s : State) : State :=
  if visilUp s ∧ s.twn.wOffer.isSome then { s with twn := { s.twn with wSwitch := some mask.toNat } } else s

def execCtrlWidthAck (mask : BitVec 20) (s : State) : Out3 := .next (doCtrlWidthAck mask s)

/-- WIDTH_SWITCH (Table 6.3 steps 3 and 4): the width is the named set; lanes that it adds have ended their probation, those that it
drops enter it; data resumes by replay. -/
def doWidthSwitch (s : State) : State :=
  match s.twn.wSwitch with
  | none => s
  | some m =>
    if !visilUp s then s
    else
      let old := s.rd R.TWN_LANESTAT_ACTIVE
      let t : State := { s with twn := { s.twn with wOffer := none, wSwitch := none, adding := 0, txStop := false } }
      if lanesOf m < wmin s then linkFault t 3
      else
        let t := pump (resendFlits ((setWidth t m).bump C.TWN_REPLAY))
        let added := (List.range 20).filter (fun l => bit m l && !bit old l)
        let t := added.foldl (fun u l =>
          let u : State := { u with twn := { u.twn with passed := bitClr u.twn.passed l, lastWiden := some u.now } }
          raise (u.wbit R.TWN_PROBSTAT_PROBATION l false) (0x1840 + l) [l, lanesOf m]) t
        ((List.range 20).filter (fun l => !bit m l && bit old l && !t.rbit R.TWN_PROBSTAT_PROBATION l)).foldl probation t

def execWidthSwitch (s : State) : Out3 := .next (doWidthSwitch s)

/-- May SIDE0 widen now: not frozen, WIDENGAP since the last widening, no exchange under way (R188)? -/
def mayWiden (s : State) : Bool :=
  decide (mySide s = 0) && !s.on R.TWN_LANECFG_FREEZE && s.twn.wOffer.isNone &&
  (match s.twn.lastWiden with
   | none => true
   | some t => decide (s.rd R.TWN_LANEADAPT_WIDENGAP * 1000000 ≤ s.since t))

/-- SIDE0 offers the lanes that have passed; DATA stops for the exchange. -/
def widen (s : State) : State :=
  if mayWiden s ∧ s.twn.passed ≠ 0 then
    let m := goodLanes s ||| s.twn.passed
    { s with twn := { s.twn with wOffer := some m, adding := s.twn.passed, txStop := true } }.emit (.ctrl 1 m 0)
  else s

/-- LANE_PROBATION_PASSED (R188): a clean PROBATION of a lane whose PHY held the farrier's token for its retraining, which it gives
back; SIDE0 adds the lane back, at most once per WIDENGAP. -/
def doLaneProbationPassed (lane : Fin 20) (s : State) : State :=
  if visilUp s ∧ s.rbit R.TWN_PROBSTAT_PROBATION lane ∧ s.rbit R.TWN_LANECFG_LANEEN lane ∧
      farHolds s (laneOwner lane) [100 + lane.val] then
    let t := farDrop s (laneOwner lane)
    widen { t with twn := { t.twn with passed := bitSet t.twn.passed lane } }
  else s

def execLaneProbationPassed (lane : Fin 20) (s : State) : Out3 := .next (doLaneProbationPassed lane s)

/-- WIDENGAP_EXPIRY (R188): lanes that passed during the gap are added. -/
def doWidengapExpiry (s : State) : State := if visilUp s then widen s else s

def execWidengapExpiry (s : State) : Out3 := .next (doWidengapExpiry s)

/-- LINK_SILENCE (R190): no good flit for SILENCE. -/
def doLinkSilence (s : State) : State := if visilUp s then linkFault s 1 else s

def execLinkSilence (s : State) : Out3 := .next (doLinkSilence s)

/-- RETRAIN_ATTEMPT_DONE (Table 6.4): the lanes that lock and deskew form the width, the others enter probation, and DATA resumes by
replay; fewer than WMIN fail the attempt, and after RETRAINS failed attempts the heartbeats are judged. -/
def doRetrainAttemptDone (mask : BitVec 20) (s : State) : State :=
  if twnRuns s ∧ s.twn.link = 2 ∧ s.twn.waitSince = none then
    let m := mask.toNat &&& trainable s
    if wmin s ≤ lanesOf m then
      let t : State := { s with twn := { s.twn with
        link := 1, attempt := 0, replays := 0, wOffer := none, wSwitch := none, txStop := false } }
      let lost := (List.range 20).filter (fun l => bit (trainable s) l && !bit m l)
      pump (resendFlits (lost.foldl probation ((setWidth t m).bump C.TWN_REPLAY)))
    else if s.twn.attempt < s.rd R.TWN_LINKTIME_RETRAINS then { s with twn := { s.twn with waitSince := some s.now } }
    else judgeTwin s
  else s

def execRetrainAttemptDone (mask : BitVec 20) (s : State) : Out3 := .next (doRetrainAttemptDone mask s)

/-- RETRAIN_DELAY_END (Table 6.4): the next attempt. -/
def doRetrainDelayEnd (s : State) : State :=
  if twnRuns s ∧ s.twn.link = 2 ∧ s.twn.waitSince.isSome then retrain s (s.twn.attempt + 1) 5 else s

def execRetrainDelayEnd (s : State) : Out3 := .next (doRetrainDelayEnd s)

/-- HEARTBEAT_SILENT (R189): no edge for 4 µs on path A (0) or B (1): event 0x19C0 + path. -/
def doHeartbeatSilent (path : Fin 2) (s : State) : State :=
  let F := if path.val = 0 then R.TWN_STATE_HBALIVE else R.TWN_STATE_HBBLIVE
  if twnRuns s ∧ s.on F then raise (s.wr F 0) (0x19C0 + path.val) [path, tstate s] else s

def execHeartbeatSilent (path : Fin 2) (s : State) : Out3 := .next (doHeartbeatSilent path s)

/-- HEARTBEAT_RESUMED (R189): edges again. -/
def doHeartbeatResumed (path : Fin 2) (s : State) : State :=
  if twnRuns s then s.wr (if path.val = 0 then R.TWN_STATE_HBALIVE else R.TWN_STATE_HBBLIVE) 1 else s

def execHeartbeatResumed (path : Fin 2) (s : State) : Out3 := .next (doHeartbeatResumed path s)

/-- May a cold training begin: the link is down, or has only what follows a DEPART (R202, R204)? -/
def coldLink (s : State) : Bool := (decide (s.twn.link = 0) || (s.twn.departed && decide (s.twn.link = 1))) && (tstate s = 0 || tstate s = 3)

/-- LINK_TRAINING_ATTEMPT (R202): every 100 ms in UNPAIRED and SOLO. -/
def doLinkTrainingAttempt (s : State) : State :=
  if pairable s ∧ coldLink s then
    (if s.twn.link = 0 then s else visilDown s).emit (.ctrl 3 (s.rd R.TWN_LANECFG_LANEEN) 0)
  else s

def execLinkTrainingAttempt (s : State) : Out3 := .next (doLinkTrainingAttempt s)

/-- LINK_TRAINED (R202): with at least WMIN lanes; HELLO is sent, and from UNPAIRED the state is PAIRING. -/
def doLinkTrained (mask : BitVec 20) (s : State) : State :=
  let m := mask.toNat &&& s.rd R.TWN_LANECFG_LANEEN
  if pairable s ∧ coldLink s ∧ s.rd R.TWN_LANECFG_WMIN ≤ lanesOf m then
    let t := clearLink s
    let t : State := { t with twn := { t.twn with link := 1, peerWmin := 0, departed := false } }
    let t := withTag (setWidth t m) (fun n => .hello n (myHello s))
    if tstate t = 0 then setTState t 1 else t
  else s

def execLinkTrained (mask : BitVec 20) (s : State) : Out3 := .next (doLinkTrained mask s)

end Sys2Proof.Machine
end

