-- ==== Sys2Proof/Machine/Twin.lean ====
section
/-! DEFINITION. The meanings of the Visil link's messages and of the twin commands (chapter 06). -/

namespace Sys2Proof.Machine

/-- A message of VC0 or VC1 is acted on: the link is up, and this side has not departed (R204). -/
def dataVc (s : State) : Bool := visilUp s && !s.twn.departed && decide (2 ≤ tstate s)

/-! ## Writes and pages -/

/-- MIRROR (R195). -/
def doMirrorMsg (tag epoch spage off : Nat) (async : Bool) (data : List Nat) (s : State) : State :=
  if dataVc s ∧ (isSpan s ∨ isReturner s) then pageMsg s (.mirror tag epoch spage off async data) else s

def execMirrorMsg (tag epoch spage off : Nat) (async : Bool) (data : List Nat) (s : State) : Out3 :=
  .next (doMirrorMsg tag epoch spage off async data s)

/-- FORWARD (R159). -/
def doForwardMsg (tag spage off : Nat) (data : List Nat) (s : State) : State :=
  if dataVc s ∧ isSpan s then pageMsg s (.forward tag spage off data) else s

def execForwardMsg (tag spage off : Nat) (data : List Nat) (s : State) : Out3 := .next (doForwardMsg tag spage off data s)

/-- FWD_ATOMIC (R160). -/
def doFwdAtomic (tag spage line word : Nat) (fadd : Bool) (arg swap : Nat) (s : State) : State :=
  if dataVc s ∧ isSpan s then pageMsg s (.fwdAtomic tag spage line word fadd arg swap) else s

def execFwdAtomic (tag spage line word : Nat) (fadd : Bool) (arg swap : Nat) (s : State) : Out3 :=
  .next (doFwdAtomic tag spage line word fadd arg swap s)

/-- ORDERED (R195). -/
def doOrderedMsg (tag epoch spage result : Nat) (atomic : Option (Nat × Nat)) (s : State) : State :=
  if dataVc s ∧ isSpan s then pageMsg s (.ordered tag epoch spage result atomic) else s

def execOrderedMsg (tag epoch spage result : Nat) (atomic : Option (Nat × Nat)) (s : State) : Out3 :=
  .next (doOrderedMsg tag epoch spage result atomic s)

/-- PLACED (R158, R196): the page's pending count falls, the response that waited on it may go, and exchanges go on. -/
def doPlacedMsg (tag epoch spage status : Nat) (s : State) : State :=
  if !visilUp s ∨ 2 ^ 48 ≤ epoch ∨ 1 < status then s
  else
    let t := pendDone s spage 1 0
    let t : State := { t with twn := { t.twn with asyncTags := t.twn.asyncTags.filter (· ≠ tag) } }
    let t := match waitingPart t .placed tag with
      | some (r, k, _) => endPart t r k id (fun y => { y with st := .done })
      | none => t
    retryHeld (pairProgress t)

def execPlacedMsg (tag epoch spage status : Nat) (s : State) : Out3 := .next (doPlacedMsg tag epoch spage status s)

/-- MOVE (R181, R211). -/
def doMoveMsg (tag extent kind pages : Nat) (s : State) : State :=
  if dataVc s ∧ 1 ≤ kind ∧ kind ≤ 3 then retryHeld (moveIn s tag extent kind pages) else s

def execMoveMsg (tag extent kind pages : Nat) (s : State) : Out3 := .next (doMoveMsg tag extent kind pages s)

/-- MOVEREQ (R234). -/
def doMovereq (tag extent kind pages : Nat) (s : State) : State :=
  if visilUp s ∧ pairLinked s ∧ isLead s ∧ tag < 32768 then moveReqIn s extent kind pages else s

def execMovereq (tag extent kind pages : Nat) (s : State) : Out3 := .next (doMovereq tag extent kind pages s)

/-- MOVE_DONE (R181, R234). -/
def doMoveDone (tag extent kind result : Nat) (s : State) : State :=
  if visilUp s ∧ tag < 32768 then retryWaiting (moveDoneIn s extent kind result) else s

def execMoveDone (tag extent kind result : Nat) (s : State) : Out3 := .next (doMoveDone tag extent kind result s)

/-- TREAD (R198). -/
def doTread (tag spage line : Nat) (s : State) : State :=
  if dataVc s ∧ isSpan s then pageMsg s (.tread tag spage line) else s

def execTread (tag spage line : Nat) (s : State) : Out3 := .next (doTread tag spage line s)

/-- TREAD_DATA (R173, R198). -/
def doTreadData (tag epoch spage line : Nat) (data : List Nat) (s : State) : State :=
  if visilUp s ∧ tag < 32768 then treadDataIn s epoch spage line data else s

def execTreadData (tag epoch spage line : Nat) (data : List Nat) (s : State) : Out3 := .next (doTreadData tag epoch spage line data s)

/-- TREAD_FAIL (R174, R198, R239). -/
def doTreadFail (tag spage line cause : Nat) (s : State) : State :=
  if visilUp s ∧ tag < 32768 ∧ cause < 16 then treadFailIn s spage line else s

def execTreadFail (tag spage line cause : Nat) (s : State) : Out3 := .next (doTreadFail tag spage line cause s)

/-- PAGEPULL (R195): the home sends the page at its current epoch; for a fenced page this side is the chosen one of an
arbitration (R216). -/
def doPagepull (tag spage : Nat) (s : State) : State :=
  if !visilUp s ∨ s.twn.departed ∨ tstate s = 0 ∨ 32768 ≤ tag then s
  else if fenced s spage then
    if usable s spage then
      let ep := fenceEpoch s spage
      let t := sendResync (arbitrated s spage ep none) spage false
      reconStep (raise t 0x19A0 [spage, Config.payloadCode 0x19A0 (mySide s), ep])
    else s
  else sendResync s spage false

def execPagepull (tag spage : Nat) (s : State) : Out3 := .next (doPagepull tag spage s)

/-- RESYNC_PAGE (R195, R203, R211, R214). -/
def doResyncPage (tag epoch spage : Nat) (zero fence : Bool) (poison : Nat) (data : List Nat) (s : State) : State :=
  if visilUp s ∧ !s.twn.departed ∧ 1 ≤ tstate s then
    reconStep (pageMsg s (.resyncPage tag epoch spage zero fence poison data))
  else s

def execResyncPage (tag epoch spage : Nat) (zero fence : Bool) (poison : Nat) (data : List Nat) (s : State) : Out3 :=
  .next (doResyncPage tag epoch spage zero fence poison data s)

/-! ## Pairing -/

/-- HELLO (R202): SIDE0 decides and answers; with equal sides each side refuses on its own. -/
def doHelloMsg (tag : Nat) (h : Hello) (s : State) : State :=
  if !visilUp s ∨ !(decide (tstate s = 1) || decide (tstate s = 3)) ∨ 32768 ≤ tag then s
  else
    let t : State := { s with twn := { s.twn with hello := some h, peerWmin := h.wmin } }
    let mine := myHello s
    if h.side = mySide s then
      pairRefused (twinSend t (.helloAnswer tag 15 2 (min mine.level h.level) s.log.pairId s.log.pgen)) 15 2 h.pairId
    else if mySide s ≠ 0 then t
    else
      let d := decision mine h
      if d.1 = 0 ∧ s.log.pairId = 0 ∧ !drbgOk s then t
      else
      let t := if d.1 = 0 then drawPair t else t
      let level := min mine.level h.level
      let pid := if t.log.pairId = 0 then h.pairId else t.log.pairId
      let g := if d.1 = 0 then 1 else t.log.pgen
      actOn (twinSend t (.helloAnswer tag d.1 d.2 level pid g)) d.1 d.2 level pid g h

def execHelloMsg (tag : Nat) (h : Hello) (s : State) : Out3 := .next (doHelloMsg tag h s)

/-- HELLO_ANSWER (R202): SIDE1 acts on SIDE0's decision. -/
def doHelloAnswer (tag decision reason level pairId pgen : Nat) (s : State) : State :=
  match s.twn.hello with
  | none => s
  | some h =>
    if visilUp s ∧ (tstate s = 1 ∨ tstate s = 3) ∧ tag < 32768 then actOn s decision reason level pairId pgen h else s

def execHelloAnswer (tag decision reason level pairId pgen : Nat) (s : State) : Out3 :=
  .next (doHelloAnswer tag decision reason level pairId pgen s)

/-- PENDLIST (R212): the returner's pending pages; with LAST the total is checked and step 1 of Table 6.13 runs. -/
def doPendlist (tag : Nat) (last : Bool) (pages : List Nat) (s : State) : State :=
  if visilUp s ∧ tstate s = 4 ∧ isSurvivor s ∧ s.twn.cstep = 1 ∧ tag < 32768 then
    let l := s.twn.peerPend ++ pages
    let t : State := { s with twn := { s.twn with peerPend := l } }
    if !last then t
    else if (s.twn.hello.map (·.pendPages)).getD 0 ≠ l.length then twinLost t 2
    else catchupMerge t
  else s

def execPendlist (tag : Nat) (last : Bool) (pages : List Nat) (s : State) : Out3 := .next (doPendlist tag last pages s)

/-- CATCHUP_PAGE_SEND (Table 6.13 step 3): the next CHANGED page, unless PAUSE holds the walk; none left: step 4. -/
def doCatchupPageSend (s : State) : State :=
  if visilUp s ∧ tstate s = 4 ∧ isSurvivor s ∧ s.twn.cstep = 3 ∧ !s.on R.TWN_RESYNC_PAUSE then
    match nextChanged s with
    | some p => walkSend s p
    | none =>
      alignSend (showLog { s with log := { s.log with dir := s.log.dir.mapV (fun x => if x.mode = 2 then { x with mode := 3 } else x) } })
  else s

def execCatchupPageSend (s : State) : Out3 := .next (doCatchupPageSend s)

/-- CATCHUP_READY (Table 6.13 step 5). -/
def doCatchupReady (s : State) : State :=
  if visilUp s ∧ tstate s = 4 ∧ isSurvivor s ∧ s.twn.cstep = 4 ∧ s.twn.alignWait = [] ∧ !exchanging s then
    let t := withTag s (fun n => .state n 1 s.log.pgen)
    setTState (raise t 0x1940 [s.twn.csent, s.since s.twn.cstart / 1000]) 5
  else s

def execCatchupReady (s : State) : Out3 := .next (doCatchupReady s)

/-- STATE READY (Table 6.9): the returner is READY. -/
def doStateReady (tag pgen : Nat) (s : State) : State :=
  if visilUp s ∧ tstate s = 4 ∧ isReturner s ∧ tag < 32768 ∧ pgen < 2 ^ 64 then setTState s 5 else s

def execStateReady (tag pgen : Nat) (s : State) : Out3 := .next (doStateReady tag pgen s)

/-- STATE SPANREQ (R213): the returner is asked to serve, and one that is in SERVING already answers at once with SPANOK where the
service gate's conditions hold; at the survivor it is the SPAN command of the returner. -/
def doStateSpanreq (tag pgen : Nat) (s : State) : State :=
  if !visilUp s ∨ tstate s ≠ 5 ∨ 32768 ≤ tag ∨ 2 ^ 64 ≤ pgen then s
  else if isReturner s then
    let t := showGate { s with twn := { s.twn with spanReq := true } }
    if t.dev = .serving ∧ gateOpen t then withTag t (fun n => .state n 3 t.log.pgen) else t
  else if s.twn.spanReq then s
  else spanStart s

def execStateSpanreq (tag pgen : Nat) (s : State) : Out3 := .next (doStateSpanreq tag pgen s)

/-- STATE SPANOK (Table 6.14 step 3): new writes take the SPAN conditions; earlier ASYNC mirrors are waited for. -/
def doStateSpanok (tag pgen : Nat) (s : State) : State :=
  if visilUp s ∧ tstate s = 5 ∧ isSurvivor s ∧ s.twn.spanReq ∧ tag < 32768 ∧ pgen < 2 ^ 64 then
    spanFinish { s with twn := { s.twn with spanOk := true } }
  else s

def execStateSpanok (tag pgen : Nat) (s : State) : Out3 := .next (doStateSpanok tag pgen s)

/-- STATE SPANDONE (Table 6.14 step 4). -/
def doStateSpandone (tag pgen : Nat) (s : State) : State :=
  if visilUp s ∧ tstate s = 5 ∧ isReturner s ∧ tag < 32768 then enterSpan s pgen else s

def execStateSpandone (tag pgen : Nat) (s : State) : Out3 := .next (doStateSpandone tag pgen s)

/-- DEPART (R204): the twin is lost at once. -/
def doDepart (tag cause : Nat) (s : State) : State :=
  if visilUp s ∧ tag < 32768 ∧ cause < 16 then twinLost s 1 else s

def execDepart (tag cause : Nat) (s : State) : Out3 := .next (doDepart tag cause s)

/-! ## Map operations -/

/-- Does this side take the lead side's map operations: in SPAN the other side, in catch-up the returner? -/
def takesMaps (s : State) : Bool :=
  visilUp s && ((isSpan s && !isLead s) || ((decide (tstate s = 4) || decide (tstate s = 5)) && isReturner s))

/-- MAPOP REGION_SET. -/
def doMapopRegionSet (tag index : Nat) (words : List Nat) (s : State) : State :=
  if takesMaps s then
    let r := regionOf words
    twinSend (regionApply s (index % 16384) r) (.mapopDone tag 0 (index % 16384) (rkeyOf (index % 16384) r))
  else s

def execMapopRegionSet (tag index : Nat) (words : List Nat) (s : State) : Out3 := .next (doMapopRegionSet tag index words s)

/-- MAPOP EXTENT_SET. -/
def doMapopExtentSet (tag extent : Nat) (words : List Nat) (s : State) : State :=
  if takesMaps s then twinSend (extentApply s extent (words.headD 0)) (.mapopDone tag 0 0 0) else s

def execMapopExtentSet (tag extent : Nat) (words : List Nat) (s : State) : Out3 := .next (doMapopExtentSet tag extent words s)

/-- MAPOP DEALLOC: applied at the other side; at the lead side it is the other side's request. -/
def doMapopDealloc (tag extent count : Nat) (s : State) : State :=
  if takesMaps s then twinSend (deallocHere s extent count) (.mapopDone tag 0 0 0)
  else if visilUp s then mapRequest s (.mapop tag 3 0 extent count [])
  else s

def execMapopDealloc (tag extent count : Nat) (s : State) : Out3 := .next (doMapopDealloc tag extent count s)

/-- MAPOP REGREQ. -/
def doMapopRegreq (tag : Nat) (words : List Nat) (s : State) : State :=
  if visilUp s then mapRequest s (.mapop tag 4 0 0 0 words) else s

def execMapopRegreq (tag : Nat) (words : List Nat) (s : State) : Out3 := .next (doMapopRegreq tag words s)

/-- MAPOP DEREGREQ. -/
def doMapopDeregreq (tag rkey : Nat) (s : State) : State :=
  if visilUp s then mapRequest s (.mapop tag 5 0 0 0 [rkey % 2 ^ 32 * 2 ^ 32, 0]) else s

def execMapopDeregreq (tag rkey : Nat) (s : State) : Out3 := .next (doMapopDeregreq tag rkey s)

/-- MAPOP_DONE (R86). -/
def doMapopDone (tag result index rkey : Nat) (s : State) : State :=
  if visilUp s then mapDone s tag result index rkey else s

def execMapopDone (tag result index rkey : Nat) (s : State) : Out3 := .next (doMapopDone tag result index rkey s)

/-! ## Reconciliation (R214) -/

/-- RECON: an entry of ROUND 1 is recorded, and answered where the page is not in this side's list; ROUND 2 is the answer. -/
def doReconMsg (tag epoch spage round check : Nat) (s : State) : State :=
  if visilUp s ∧ tstate s = 1 ∧ s.twn.pairing = 1 ∧ tag < 32768 then
    let t : State := { s with twn := { s.twn with reconPeer := s.twn.reconPeer.ins spage { epoch, check } } }
    if round = 1 ∧ !s.twn.reconOwn.has spage then
      let e : ReconEnt := { epoch := pageEpoch s spage, check := pageCheck s spage }
      let t : State := { t with twn := { t.twn with reconOwn := t.twn.reconOwn.ins spage e } }
      withTag { t with twn := { t.twn with reconSent := t.twn.reconSent + 1 } } (fun n => .recon n e.epoch spage 2 e.check)
    else t
  else s

def execReconMsg (tag epoch spage round check : Nat) (s : State) : Out3 := .next (doReconMsg tag epoch spage round check s)

/-- RECON_END: after ROUND 1 the answers are out, and RECON_END of ROUND 2 follows them with their count; the last one ends the
comparison. -/
def doReconEnd (tag _entries round : Nat) (s : State) : State :=
  if visilUp s ∧ tstate s = 1 ∧ s.twn.pairing = 1 ∧ tag < 32768 then
    if round = 1 then
      let t := withTag s (fun n => .reconEnd n s.twn.reconSent 2)
      reconStep { t with twn := { t.twn with reconEndTx := true } }
    else reconStep { s with twn := { s.twn with reconEndRx := true } }
  else s

def execReconEnd (tag entries round : Nat) (s : State) : Out3 := .next (doReconEnd tag entries round s)

/-! ## Commands -/

/-- PAIRWAIT_EXPIRY (R206): the start rule. -/
def doPairwaitExpiry (s : State) : State :=
  let silent := !s.on R.TWN_STATE_HBALIVE && !s.on R.TWN_STATE_HBBLIVE
  if s.dev = .restoring ∧ pairable s ∧ tstate s = 0 ∧
      (s.log.role = 1 ∨ (s.log.lastState = 2 ∧ preferred s) ∨ (s.log.lastState = 2 ∧ s.on R.TWN_CFG_HBBEN ∧ silent)) then
    showGate (enterSolo (visilDown s) 2)
  else s

def execPairwaitExpiry (s : State) : Out3 := .next (doPairwaitExpiry s)

/-- GO_SOLO_CMD (R206). -/
def doGoSoloCmd (s : State) : State := if twnRuns s then twnCmd 1 s else s

def execGoSoloCmd (s : State) : Out3 := .next (doGoSoloCmd s)

/-- SPAN_CMD (R213). -/
def doSpanCmd (s : State) : State := if twnRuns s then twnCmd 2 s else s

def execSpanCmd (s : State) : Out3 := .next (doSpanCmd s)

/-- LEAVE_CMD (R204). -/
def doLeaveCmd (s : State) : State := if twnRuns s then twnCmd 3 s else s

def execLeaveCmd (s : State) : Out3 := .next (doLeaveCmd s)

/-- JOIN_CMD (R203). -/
def doJoinCmd (s : State) : State := if twnRuns s then twnCmd 4 s else s

def execJoinCmd (s : State) : Out3 := .next (doJoinCmd s)

/-- FORCE_SOLO_CMD (R206). -/
def doForceSoloCmd (s : State) : State := if twnRuns s then twnCmd 5 s else s

def execForceSoloCmd (s : State) : Out3 := .next (doForceSoloCmd s)

/-- FENCE_ARBITRATE_CMD (R216): of the page that the session inspects. -/
def doFenceArbitrateCmd (session arg : Nat) (s : State) : State := if twnRuns s then arbitrate s session arg else s

def execFenceArbitrateCmd (session arg : Nat) (s : State) : Out3 := .next (doFenceArbitrateCmd session arg s)

end Sys2Proof.Machine
end

