-- ==== Sys2Proof/Machine/DicWrite.lean ====
section
/-! DEFINITION. Writing a dictionary entry and running a command entry: edit shadows and their owners (R55), entries held per
session, and the entries that front register fields (R40). -/

namespace Sys2Proof.Machine

/-! ## Entries that front register fields -/

/-- Every bit of the value lies in a part. -/
def bindFits (d : Bind) (v : Nat) : Bool := decide (d.parts.foldl (fun a p => a + bits v p.2.2 p.1.wid * 2 ^ p.2.2) 0 = v)

/-- The word at `off` of block `n` as the write of `v` would leave it: its other fields as they stand or wait. -/
def boundWord (s : State) (d : Bind) (n off v : Nat) : Nat :=
  (wordFields n off).foldl (fun a p =>
    let x := match d.parts.find? (fun q => q.1.same p.1 && q.2.1 = p.2) with
      | some q => bits v q.2.2 q.1.wid
      | none => if p.1.acc = .wo then 0 else s.shadowed p.1 p.2 (copyOf p.1 (homeOf n off))
    a + x * 2 ^ p.1.lsb) 0

/-- A write of a bound entry: its bits outside the fields are 0, every field is within its limits, the block is not isolated, and
no STOP field's write is refused (R59, R60); then every field takes its value by its class, in every block. A refused STOP write is one refusal. -/
def bindWrite (s : State) (d : Bind) (v writer : Nat) : State × Nat :=
  let places := d.blocks.flatMap (fun n => d.parts.map (fun p => (n, p)))
  let off := fun (p : Fld × Nat × Nat) => p.1.offset p.2.1
  let ok := fun (x : Nat × Fld × Nat × Nat) =>
    fieldOk s (homeOf x.1 (off x.2)) (off x.2) (boundWord s d x.1 (off x.2) v) x.2.1 x.2.2.1
  let held := fun (x : Nat × Fld × Nat × Nat) => decide (x.2.1.app = .stop) && stopHeld s (homeOf x.1 (off x.2)) (off x.2)
  let take := fun (u : State) (x : Nat × Fld × Nat × Nat) =>
    takeField u (homeOf x.1 (off x.2)) x.2.1 x.2.2.1 (bits v x.2.2.2 x.2.1.wid) writer
  if !bindFits d v ∨ places.any (fun x => !ok x) then (s, stRange)
  else if d.blocks.any (fun n => s.on R.BLKSTAT_ISOLATED 0 n) then (s, stBusy)
  else
    match places.find? held with
    | some x => take s x
    | none =>
      let t := d.blocks.foldl afterWrite (places.foldl (fun u x => (take u x).1) s)
      (match d.parts.find? (fun p => p.1.same R.PWR_RAIL_PMBADDR) with
        | some p => readMode t p.2.1
        | none => t, stOk)

/-- A word of GAI_ROW[g] with the parts of `d` that lie in it taken from `v` and its other fields from the edit shadow. -/
def boundRow (s : State) (d : Bind) (g w v : Nat) : Nat :=
  rowFields.foldl (fun a F =>
    if F.off = 0x100 + 4 * w then
      a + (match d.parts.find? (fun q => q.1.same F && q.2.1 = g) with
        | some q => bits v q.2.2 q.1.wid
        | none => editVal s F g) * 2 ^ F.lsb
    else a) 0

/-- The offsets of the words that a bound entry's parts lie in, ascending. -/
def boundOffsets (d : Bind) : List Nat := (d.parts.map (fun p => p.1.offset p.2.1)).eraseDups

/-- A write of an extension entry that fronts a field (R40): exactly as a control-space write where its word holds an action bit or
is a word of a gait row, which the edit shadow takes (R36). A row that is refused answers RANGE. -/
def extWrite (s : State) (d : Bind) (v writer : Nat) : State × Nat :=
  let n := d.blocks.headD 0
  if d.parts.any (fun p => decide (p.1.acc = .wo) || decide (p.1.off = 4)) then
    if !bindFits d v then (s, stRange)
    else if s.on R.BLKSTAT_ISOLATED 0 n then (s, stBusy)
    else (boundOffsets d).foldl (fun (q : State × Nat) off =>
      let r := regWrite q.1 n off (boundWord q.1 d n off v) writer
      (r.1, if q.2 = stOk then r.2 else q.2)) (s, stOk)
  else if n = 0 ∧ d.parts.any (fun p => decide (0x100 ≤ p.1.off)) then
    if !bindFits d v ∨ d.parts.any (fun p => !p.1.lim.ok (bits v p.2.2 p.1.wid)) then (s, stRange)
    else if s.on R.BLKSTAT_ISOLATED 0 0 then (s, stBusy)
    else
      let t := (boundOffsets d).foldl (fun u off =>
        rowWrite u ((off - 0x100) / 16) ((off - 0x100) / 4 % 4) (boundRow u d ((off - 0x100) / 16) ((off - 0x100) / 4 % 4) v)) s
      (t, if (boundOffsets d).any (fun off => decide (off % 16 = 12)) ∧ t.on R.GAI_STATUS_ROW_REFUSED then stRange else stOk)
  else bindWrite s d v writer

/-! ## Edit shadows (R55) -/

/-- Does another session own edit shadow `k` (1 registration, 2 tenants, 3 policy rows, 4 lend table)? -/
def ownedByOther (s : State) (k sess : Nat) : Bool :=
  match s.dic.owners.find? k with | some o => decide (o ≠ sess) | none => false

/-- A write into edit shadow `k`: BUSY while another session owns it; an accepted one makes this session its owner. -/
def owned (s : State) (k sess : Nat) (w : State × Nat) : State × Nat :=
  if ownedByOther s k sess then (s, stBusy)
  else if w.2 = stOk then ({ w.1 with dic := { w.1.dic with owners := w.1.dic.owners.ins k sess } }, stOk)
  else w

/-- A value within a range goes where `f` puts it, else RANGE. -/
def within (s : State) (ok : Bool) (f : State → State) : State × Nat := if ok then (f s, stOk) else (s, stRange)

/-- An index that the session holds. -/
def holdIndex (s : State) (sess index sub v top : Nat) : State × Nat :=
  within s (decide (v ≤ top)) (fun t => setSessEnt t sess (ekey index sub) v)

/-- Change the session itself. -/
def modSession (s : State) (sess : Nat) (f : Session → Session) : State :=
  { s with dic := { s.dic with sessions := s.dic.sessions.mapK (fun k x => if k = sess then f x else x) } }

/-- An entry of the registration shadow (0x2110.01 to .08). -/
def writeReg (s : State) (sess sub v : Nat) : State × Nat :=
  let ok := match sub with
    | 2 | 3 => decide (v % 4096 = 0)
    | 5 | 7 => decide (v ≤ 7)
    | 6 => decide (v ≤ 2)
    | _ => true
  owned s 1 sess (within s ok (fun t => setEnt t (ekey 0x2110 sub) v))

/-- An entry of the tenant table's shadow (0x2510.02 to .0A), of the tenant that the session inspects. -/
def writeTenant (s : State) (sess sub v : Nat) : State × Nat :=
  let i := sessEnt s sess (ekey 0x2510 1) 0
  let x := (tenantShadow s).get i {}
  let put := fun (y : Tenant) (t : State) => { t with tie := { t.tie with tenEdit := t.tie.tenEdit.ins i y } }
  owned s 2 sess (match sub with
    | 2 => within s (decide (v ≤ 1)) (put { x with quota := decide (v = 1) })
    | 3 => within s (decide (v < 2 ^ 23)) (put { x with dquota := v })
    | 5 => within s (decide (v < 2 ^ 27)) (put { x with squota := v })
    | 7 => within s (decide (16 ≤ v) && decide (v ≤ 16384)) (put { x with parklim := v })
    | 9 => within s true (put { x with notsess0 := v })
    | _ => within s true (put { x with notsess1 := v }))

/-- The indices that sessions hold (R115, R150, R218, R246, R303, R332, R365, R402, R453), each with its top value. -/
def heldTop (s : State) (index sub : Nat) : Option Nat :=
  match index, sub with
  | 0x2120, 1 => some 16383
  | 0x2130, 1 => some (2 ^ 32 - 1)
  | 0x2230, 1 => some 262143
  | 0x2440, 1 => some 65535
  | 0x2510, 1 => some 1023
  | 0x2720, 1 => some 8191
  | 0x2730, 1 => some 16383
  | 0x2820, 1 => some 121
  | 0x2910, 1 => some (2 ^ 32 - 1)
  | 0x2A04, 1 => some 15
  | 0x2C10, 3 => some (2 ^ 64 - 1)
  | 0x2C20, 3 => some 1
  | 0x2C20, 4 => some (studSlots s - 1)
  | _, _ => none

/-- The entries of DIC's own that are written. -/
def writeOwn (s : State) (sess index sub v : Nat) : State × Nat :=
  match index, sub with
  | 0x1100, 3 => if 5 < v then (s, stRange) else let q := askGait s v; (q.1, if q.2 then stOk else stBusy)
  | 0x2000, 3 => within s (decide (5 ≤ v) && decide (v ≤ 3600)) (fun t => setEnt t (ekey 0x2000 3) v)
  | 0x2001, 1 => within s (decide (v % 2 = 0) && decide (v < 2 ^ 25)) (fun t => modSession t sess (fun x => { x with filter := v }))
  | 0x2001, 2 => within s (decide (v ≤ 4)) (fun t => modSession t sess (fun x => { x with minSev := v }))
  | 0x2011, n => within s true (fun t => t.wr R.CFGREF_REF v 0 (n - 1))
  | 0x2110, k => writeReg s sess k v
  | 0x2510, k => writeTenant s sess k v
  | 0x2520, _ => within s (decide (v ≤ 63)) (fun t => setEnt t (ekey 0x2520 1) v)
  | 0x2C11, _ => within s (decide (v ≤ 799)) (fun t => setEnt t (ekey 0x2C11 1) v)
  | 0x2D10, _ => within s (decide (2 ≤ v) && decide (v ≤ 5)) (fun t => setEnt t (ekey 0x2D10 1) v)
  | _, _ =>
    if 0x1110 ≤ index ∧ index ≤ 0x1115 then editField s sess (index - 0x1110) (sub - 1) v
    else (setEnt s (ekey index sub) v, stOk)

/-- A write of an entry of up to 8 bytes. -/
def writeNum (s : State) (sess writer index sub v : Nat) : State × Nat :=
  match heldTop s index sub with
  | some top => holdIndex s sess index sub v top
  | none =>
    if index = 0x2011 then writeOwn s sess index sub v
    else
      match bindOf s sess index sub with
      | some d =>
        if index = 0x2511 then owned s 3 sess (bindWrite s d v writer)
        else if index = 0x2520 then owned s 4 sess (bindWrite s d v writer)
        else if 0x5000 ≤ index then extWrite s d v writer
        else bindWrite s d v writer
      | none => writeOwn s sess index sub v

/-! ## Byte strings -/

/-- Replace bytes of a string from `off`. -/
def splice (old : List Nat) (off : Nat) (new : List Nat) : List Nat := old.take off ++ new ++ old.drop (off + new.length)

/-- Pieces of an IPv6 address: the words that the shadow, or the value in force, gives with the new bytes in place. -/
def writeIp6 (s : State) (n : Nat) (F : Fld) (base off : Nat) (data : List Nat) (writer : Nat) : State × Nat :=
  if 16 < off + data.length then (s, stRange)
  else if s.on R.BLKSTAT_ISOLATED 0 n then (s, stBusy)
  else
    let old := wordsBytes ((List.range 4).map (fun w => s.shadowed F (base + w) (copyOf F n)))
    let new := splice old off data
    ((List.range 4).foldl (fun t w =>
      if 4 * w < off + data.length ∧ off < 4 * w + 4 then (takeField t n F (base + w) (beNat ((new.drop (4 * w)).take 4)) writer).1
      else t) s, stOk)

/-- A write of a BLOB entry: a piece at an offset, inside the entry. A piece of the encrypted key keeps the SEQ of its frame
(R460). -/
def writeBlob (s : State) (sess writer seq index sub off : Nat) (data : List Nat) : State × Nat :=
  match index with
  | 0x2040 => writeIp6 s 11 R.MGT_IP6 0 off data writer
  | 0x2204 => writeIp6 s (26 + (sub - 1) / 4) R.PRT_IP6 (4 * ((sub - 1) % 4)) off data writer
  | 0x2441 => within s (decide (off + data.length ≤ 4096)) (fun t =>
      let old := (t.dic.blobs.get (ekey 0x2441 1) [] ++ List.replicate 4096 0).take 4096
      { t with dic := { t.dic with blobs := t.dic.blobs.ins (ekey 0x2441 1) (splice old off data) } })
  | 0x2D10 => within s (decide (off + data.length ≤ 32)) (fun t => modSession t sess (fun x =>
      { x with keyBlob := splice ((x.keyBlob ++ List.replicate 32 0).take 32) off data, keySeq := seq }))
  | _ => (s, stRights)

/-! ## Command entries -/

/-- QP_INSPECT_TO_ERROR_CMD: 0x2230.0A, the responder QP that the session inspects goes to ERROR (R150). -/
def qpInspectError (s : State) (sess : Nat) : State :=
  let c := ekey 0x2230 0x0A
  cmdDone (qpError (cmdRun s c) (sessEnt s sess (ekey 0x2230 1) 0)) c

/-- CONFIG_COMMIT: 0x2010.01, every CFGCRC becomes CFGREF (R70). -/
def configCommit (s : State) : State :=
  let c := ekey 0x2010 1
  cmdDone ((List.range 58).foldl (fun t n => t.wr R.CFGREF_REF (t.rd R.CFGCRC_CRC 0 n) 0 n) (cmdRun s c)) c

/-- DEVICE_SNAPSHOT_CMD: 0x2020.01 (R68). -/
def snapshotCmd (s : State) : State :=
  let c := ekey 0x2020 1
  cmdDone (snapBank1 (cmdRun s c)) c

/-- CANCEL_STAGING_CMD: 0x2C30.09. -/
def cancelCmd (s : State) : State :=
  let c := ekey 0x2C30 9
  cmdDone (cancelStaging (cmdRun s c)) c

/-- The commands of chapters 01 to 07. -/
def runLow (s : State) (sess index sub arg : Nat) : State × Nat :=
  match index, sub with
  | 0x1100, 8 => if editBusy s sess then (s, stBusy) else (doGaitTableCommit (some sess) s, stOk)
  | 0x1100, 9 => if editBusy s sess then (s, stBusy) else (doGaitLoadDefaults (some sess) s, stOk)
  | 0x2010, 1 => (configCommit s, stOk)
  | 0x2020, 1 => (snapshotCmd s, stOk)
  | 0x2110, 9 =>
    if ownedByOther s 1 sess then (s, stBusy) else within s (decide (arg = 0)) (doRegisterRegionCmd sess)
  | 0x2111, 1 => (doDeregisterCmd sess arg s, stOk)
  | 0x2111, 4 => (doDeallocateCmd sess s, stOk)
  | 0x2202, 1 => within s (decide (arg < 16) && portUsed s arg) (doPortRelinkCmd arg)
  | 0x2230, 0x0A => (qpInspectError s sess, stOk)
  | 0x2402, 1 => (doGoSoloCmd s, stOk)
  | 0x2402, 2 => (doSpanCmd s, stOk)
  | 0x2402, 3 => (doLeaveCmd s, stOk)
  | 0x2402, 4 => (doJoinCmd s, stOk)
  | 0x2402, 5 => (doForceSoloCmd s, stOk)
  | 0x2440, 7 => (doFenceArbitrateCmd sess arg s, stOk)
  | 0x2510, 0x0B => if ownedByOther s 2 sess then (s, stBusy) else (doTenantCommit true s, stOk)
  | 0x2511, 9 => if ownedByOther s 3 sess then (s, stBusy) else (doTpolCommit s, stOk)
  | 0x2520, 4 => if ownedByOther s 4 sess then (s, stBusy) else (cmdRun s (ekey 0x2520 4), stOk)
  | 0x2520, 5 => (doLendRevoke true s, stOk)
  | 0x2530, 2 => (doPromoteExtentCmd arg s, stOk)
  | 0x2530, 3 => (doRemoveChargeCmd arg s, stOk)
  | _, _ => (s, stNoEntry)

/-- The commands of chapters 08 to 15. -/
def runHigh (s : State) (sess index sub arg : Nat) : State × Nat :=
  match index, sub with
  | 0x2611, 1 => (doRehearseCmd s, stOk)
  | 0x2611, 2 => (doCapacitanceTestCmd arg s, stOk)
  | 0x2720, 0x0A => (doJobCancelCmd sess s, stOk)
  | 0x2720, 0x0B => (doJobRequeueCmd sess s, stOk)
  | 0x2730, 7 => (doReqQpInspectToErrorCmd sess s, stOk)
  | 0x2910, 6 => (doRetireSuperblockMemberCmd sess arg s, stOk)
  | 0x2A01, 1 => (doOffRequestCmd s, stOk)
  | 0x2A01, 2 => (doOnRequestCmd s, stOk)
  | 0x2A03, 3 => (doMarginApply s, stOk)
  | 0x2A10, 8 => (doSoftwareResetRequest ⟨BitVec.ofNat 8 arg, BitVec.ofNat 8 (arg / 256), true⟩ true s, stOk)
  | 0x2B10, 3 => (doCalRunNowCmd s, stOk)
  | 0x2C01, 1 => (doReturnCmd s, stOk)
  | 0x2C01, 2 => within s (decide (arg < 2)) (fun t => clearGo t arg true)
  | 0x2C30, 9 => (cancelCmd s, stOk)
  | 0x2D10, 3 => (doKeyLoadCmd sess s, stOk)
  | _, _ => (s, stNoEntry)

/-- A write of a command entry (Table 2.2): CMD_RUNNING while it runs, else the action starts; the twin's commands fail while TWN
is stopped. -/
def runCmd (s : State) (sess index sub arg : Nat) : State × Nat :=
  if (cmdStat s (cmdOf sess index sub)).state = 1 then (s, stCmdRunning)
  else if (index = 0x2402 ∨ index = 0x2440) ∧ !twnRuns s then (cmdFailFree s (ekey index sub), stOk)
  else if index < 0x2600 then runLow s sess index sub arg
  else runHigh s sess index sub arg

end Sys2Proof.Machine
end

