-- ==== Sys2Proof/Machine/Frames.lean ====
section
/-! DEFINITION. The dictionary engine: frames, items, sessions, handler items and extension entries (R41 to R55, R75, R76). -/

namespace Sys2Proof.Machine

/-! ## Frames (Tables 2.4 to 2.6) -/

/-- A big-endian field of a frame. -/
def fld (f : List Nat) (off n : Nat) : Nat := beNat ((f.drop off).take n)

def frameKind (f : List Nat) : Nat := f.getD 0 0 % 16
def frameFlags (f : List Nat) : Nat := f.getD 1 0
def frameSess (f : List Nat) : Nat := fld f 2 2
def frameSeq (f : List Nat) : Nat := fld f 4 4
def frameLen (f : List Nat) : Nat := fld f 8 2
def frameBody (f : List Nat) : List Nat := (f.drop 12).take (frameLen f)
def frameTag (f : List Nat) : List Nat := (f.drop (12 + frameLen f)).take 16

/-- A frame that R44 drops; so is one whose length is not that of its header, body and tag, or that holds no bytes (log entry 156). -/
def malformed (f : List Nat) : Bool :=
  decide (f.length < 28) || decide (f.getD 0 0 / 16 ≠ 1) || decide (1024 < frameLen f) || decide (frameFlags f % 16 ≠ 0) ||
  decide (f.getD 11 0 ≠ 0) || decide (f.length ≠ 28 + frameLen f) || f.any (fun b => decide (255 < b))

/-- The items of a body (R45), at most 64; none where it does not parse into whole items. -/
def parseItems (write : Bool) : Nat → List Nat → Option (List Item)
  | 0, bs => if bs.isEmpty then some [] else none
  | n + 1, bs =>
    if bs.isEmpty then some []
    else
      let typ := bs.getD 3 0
      let len := fld bs 6 2
      let head := if typ = 13 then 12 else 8
      let value := if write then (len + 3) / 4 * 4 else 0
      if bs.length < head + value ∨ (typ = 13 ∧ 1012 < len) then none
      else
        (parseItems write n (bs.drop (head + value))).map (fun is =>
          { index := fld bs 0 2, sub := bs.getD 2 0, typ, len, offset := if typ = 13 then fld bs 8 4 else 0
            data := if write then (bs.drop head).take len else [] } :: is)

/-- One item of a response; a WRITE's carries no value. -/
def itemBytes (it : Item) (a : ItemAns) : List Nat :=
  let typ := if it.typ = 0 then a.typ else it.typ
  let pad := (4 - a.data.length % 4) % 4
  beBytes it.index 2 ++ [it.sub, typ, a.status, 0] ++ beBytes a.data.length 2 ++
  (if typ = 13 then beBytes it.offset 4 else []) ++ a.data ++ List.replicate pad 0

/-! ## Looking an entry up (R37, R39, R43) -/

/-- The entry at an index and subindex, of the ROM or of the extension table. -/
def entryAt (s : State) (index sub : Nat) : Option DicRow :=
  match romRow index sub with
  | some r => some r
  | none => (s.dic.ext.find? (ekey index sub)).map (fun x => ⟨index, sub, sub, x.typ, x.robs, x.ropr, x.rkpr⟩)

/-- The highest subindex in use at an index. -/
def topSub (s : State) (index : Nat) : Option Nat :=
  match romTop index with
  | some n => some n
  | none =>
    let subs := (s.dic.ext.filter (fun e => decide (e.1 / 256 = index))).map (fun e => e.1 % 256)
    if subs.isEmpty then none else some (subs.foldl max 0)

/-- The right of a role. -/
def DicRow.right (r : DicRow) (role : Nat) : Nat := if role = 0 then r.robs else if role = 1 then r.ropr else r.rkpr

/-- The handler behind an item's entry. -/
def handlerOf (s : State) (it : Item) : Option Nat :=
  match s.dic.ext.find? (ekey it.index it.sub) with
  | some x => if x.handler then some x.hnum else none
  | none => none

/-- Is the block behind an entry held in its reset wrapper (R392)? -/
def isolated (s : State) (sess index sub : Nat) : Bool :=
  match bindOf s sess index sub with
  | some d => d.blocks.any (fun n => s.on R.BLKSTAT_ISOLATED 0 n)
  | none => false

/-- Entry, type, length and rights of a READ item. -/
def readCheck (s : State) (role : Nat) (it : Item) : Nat :=
  if it.sub = 0 then
    (if (topSub s it.index).isNone then stNoEntry else if (it.typ ≠ 0 ∧ it.typ ≠ 1) ∨ it.len ≠ 0 then stType else stOk)
  else
    match entryAt s it.index it.sub with
    | none => stNoEntry
    | some r =>
      if it.typ ≠ 0 ∧ it.typ ≠ r.typ then stType
      else if r.typ ≠ 13 ∧ it.len ≠ 0 then stType
      else if r.right role = 0 ∨ r.right role = 3 then stRights
      else stOk

/-- Entry, type, length and rights of a WRITE item, and the codes of a BOOL. -/
def writeCheck (s : State) (role : Nat) (it : Item) : Nat :=
  if it.sub = 0 then (if (topSub s it.index).isNone then stNoEntry else stRights)
  else
    match entryAt s it.index it.sub with
    | none => stNoEntry
    | some r =>
      if it.typ ≠ r.typ then stType
      else if (match typeLen r.typ with | some n => decide (it.len ≠ n) | none => false) then stType
      else if r.right role < 2 then stRights
      else if r.typ = 7 ∧ 1 < beNat it.data then stRange
      else stOk

/-- The answer to a READ item that its checks admit and no handler serves. -/
def readNow (s : State) (sess : Nat) (snap : Bool) (it : Item) : ItemAns :=
  if it.sub = 0 then { status := stOk, typ := 1, data := [(topSub s it.index).getD 0] }
  else
    let t := ((entryAt s it.index it.sub).map (·.typ)).getD 0
    let no := fun st => ({ status := st, typ := t, data := [] } : ItemAns)
    if isolated s sess it.index it.sub then no stBusy
    else if t = 14 then { status := stOk, typ := t, data := beBytes (cmdWord (cmdStat s (cmdOf sess it.index it.sub))) 4 }
    else
      match typeLen t with
      | none =>
        match readBytes s sess it.index it.sub with
        | none => no stNoEntry
        | some bs => if bs.length < it.offset then no stRange
                     else { status := stOk, typ := t, data := (bs.drop it.offset).take it.len }
      | some n =>
        if t = 12 then (match readBytes s sess it.index it.sub with
          | none => no stNoEntry
          | some bs => { status := stOk, typ := t, data := bs })
        else { status := stOk, typ := t, data := beBytes (readNum s sess snap it.index it.sub) n }

/-- A WRITE item that its checks admit and no handler serves, applied by path `path` in the frame with `seq`. -/
def writeNow (s : State) (sess path seq : Nat) (it : Item) : State × Nat :=
  if it.typ = 14 then runCmd s sess it.index it.sub (beNat it.data)
  else if it.typ = 13 then writeBlob s sess (path + 1) seq it.index it.sub it.offset it.data
  else writeNum s sess (path + 1) it.index it.sub (beNat it.data)

/-! ## Handler items (R42, R76) -/

/-- The handler item at the front, in DIC_HITEM0 to 5, and its value in DIC_HBUF. -/
def showHandler (s : State) : State :=
  match s.dic.hq with
  | [] => (List.range 6).foldl (fun t i => t.wr R.DIC_HITEM 0 i) s
  | h :: _ =>
    let words := [h.index * 65536 + h.sub * 256 + h.kind, h.hnum * 65536 + h.session, h.value % 2 ^ 32, h.value / 2 ^ 32,
      h.len * 65536, h.offset]
    let t := words.zipIdx.foldl (fun u p => u.wr R.DIC_HITEM p.1 p.2) s
    (List.range ((h.data.length + 3) / 4)).foldl (fun u w => u.wr R.DIC_HBUF (leNat ((h.data.drop (4 * w)).take 4)) w) t

/-- A handler item from an item of a frame. -/
def handlerItem (s : State) (sess kind pos : Nat) (it : Item) (hnum : Nat) : HItem :=
  let long := decide (it.typ = 12) || decide (it.typ = 13)
  { kind, index := it.index, sub := it.sub, hnum, session := sess
    value := if long then 0 else beNat it.data
    len := if long then it.len else 0
    offset := it.offset
    data := if long then it.data else []
    arrived := s.now, pos }

/-- The type of an item's entry. -/
def itemType (s : State) (it : Item) : Nat :=
  if it.sub = 0 then 1 else ((entryAt s it.index it.sub).map (·.typ)).getD it.typ

/-- KIND of the handler item that a READ or WRITE item becomes. -/
def handlerKind (s : State) (write : Bool) (it : Item) : Nat :=
  if itemType s it = 14 then (if write then 3 else 4) else if write then 2 else 1

/-! ## Sending (R48) -/

/-- A response leaves on its path: into RSPBUF with MSI-X vector 1, as a DICT_RSP, or as a frame to its source. -/
def deliver (s : State) (path dst : Nat) (f : List Nat) : State :=
  if path = 2 then
    let t : State := { s with pci := { s.pci with rsp := f, respReady := true, busy := false } }
    t.emit (.msix 1)
  else if path = 3 then twinSend s (.dictRsp dst f)
  else s.emit (.dict path dst (if path = 0 then s.dic.own else []) f)

/-- A request that gets no answer. -/
def noAnswer (s : State) (path : Nat) : State := if path = 2 then { s with pci := { s.pci with busy := false } } else s

/-- Count one of DIC's frame counters (0x2002). -/
def countFrame (s : State) (sub : Nat) : State := setEnt s (ekey 0x2002 sub) ((ent s (ekey 0x2002 sub) 0 + 1) % 2 ^ 32)

/-- Blocks of a CMAC over `n` bytes, which a session tag takes. -/
def tagBlocks (s : State) (n : Nat) : State := s.bump C.KEY_BLOCKS (max 1 ((n + 15) / 16) + 1)

/-- A frame without a session: status alone, tag zero. -/
def statusFrame (kind sess seq status : Nat) : List Nat := sealFrame [] (frameHead kind 0x80 sess seq 0 status) []

/-! ## Ending a session (R53) -/

/-- The tenants' NOTSESS fields that name a session become 0 (R233). -/
def clearNotsess (s : State) (n : Nat) : State :=
  let f := fun (x : Tenant) => { x with notsess0 := if x.notsess0 = n then 0 else x.notsess0, notsess1 := if x.notsess1 = n then 0 else x.notsess1 }
  { s with tie := { s.tie with tenants := s.tie.tenants.mapV f, tenEdit := s.tie.tenEdit.mapV f } }

/-- A session ends: its edit shadows, filters and notifications go, and the NOTSESS fields that name it; event 0x0820. `why`:
0 close, 1 timeout, 2 reset, 3 replaced, 4 sequence exhausted. A request of the mailbox that it had under way ends with it. -/
def endSession (s : State) (n why : Nat) : State :=
  match s.dic.sessions.find? n with
  | none => s
  | some x =>
    let mine := match s.dic.cur with | some o => decide (o.session = n) | none => false
    let t : State := { s with
      dic := { s.dic with sessions := s.dic.sessions.del n, cur := if mine then none else s.dic.cur
                          hq := if mine then [] else s.dic.hq }
      recd := { s.recd with notes := s.recd.notes.filter (fun e => decide (e.session ≠ n)), nseq := s.recd.nseq.del n } }
    let t := clearNotsess (dropShadows t (fun o => o = n)) n
    let t := if mine then noAnswer (showHandler t) x.path else t
    if x.isOpen then raise t (0x0820 + x.path) [n, Config.payloadCode 0x0820 why] else t

/-! ## Executing a request (R45 to R47, R51) -/

/-- The last accepted request of a session, and the response kept for it. -/
def keepResponse (s : State) (n : Nat) (f resp : List Nat) : State :=
  modSession s n (fun x => { x with lastSeq := frameSeq f, lastTag := frameTag f, lastResp := resp })

/-- The response to an accepted request: sealed, kept, and sent; SEQ 0xFFFF_FFFF ends the session, and a CLOSE does. -/
def respond (s : State) (n : Nat) (kind seq status : Nat) (tag body : List Nat) : State :=
  match s.dic.sessions.find? n with
  | none => s
  | some x =>
    let resp := sealFrame x.key (frameHead kind 0x80 n seq body.length status) body
    let t := modSession (tagBlocks s (12 + body.length)) n (fun y => { y with lastSeq := seq, lastTag := tag, lastResp := resp })
    let t := deliver (countFrame t 1) x.path x.src resp
    if kind = 9 then endSession t n 0 else if seq = 0xFFFFFFFF then endSession t n 4 else t

/-- The response to a frame of items; one that would not fit in a body is TOO_LONG. -/
def respondItems (s : State) (o : OpenFrame) : State :=
  let body := o.items.zipIdx.flatMap (fun p => itemBytes p.1 (o.answers.get p.2 { status := stOk, typ := p.1.typ, data := [] }))
  if 1024 < body.length then respond s o.session o.kind o.seq stTooLong o.tag []
  else respond s o.session o.kind o.seq stOk o.tag body

/-- Offer handler items; with none, `done` follows at once. -/
def offer (s : State) (o : OpenFrame) (hs : List HItem) (done : State → OpenFrame → State) : State :=
  if hs.isEmpty then done s o
  else showHandler { s with dic := { s.dic with hq := hs, cur := some { o with left := hs.length } } }

/-- A READ (R45, R47). -/
def runRead (s : State) (o : OpenFrame) (role : Nat) (snap : Bool) : State :=
  let s := if snap then snapBank1 s else s
  let up := fwUp s
  let (as, hs) := o.items.zipIdx.foldl (fun (acc : Sparse ItemAns × List HItem) p =>
    let it := p.1
    let bad := fun st => acc.1.ins p.2 { status := st, typ := itemType s it, data := [] }
    let st := readCheck s role it
    if st ≠ stOk then (bad st, acc.2)
    else
      match handlerOf s it with
      | some h => if up then (acc.1, acc.2 ++ [handlerItem s o.session (handlerKind s false it) p.2 it h]) else (bad stUnavailable, acc.2)
      | none => (acc.1.ins p.2 (readNow s o.session snap it), acc.2)) (([], []) : Sparse ItemAns × List HItem)
  offer s { o with answers := as } hs respondItems

/-- What a WRITE item answers. -/
def writeAns (it : Item) (st : Nat) : ItemAns := { status := st, typ := it.typ, data := [] }

/-- The items of a WRITE applied one by one in body order (R46); handler-backed ones are offered. -/
def applyItems (s : State) (o : OpenFrame) (role path : Nat) : State :=
  let up := fwUp s
  let (t, as, hs) := o.items.zipIdx.foldl (fun (acc : State × Sparse ItemAns × List HItem) p =>
    let it := p.1
    let put := fun st => acc.2.1.ins p.2 (writeAns it st)
    let st := writeCheck acc.1 role it
    if st ≠ stOk then (acc.1, put st, acc.2.2)
    else
      match handlerOf acc.1 it with
      | some h =>
        if up then (acc.1, acc.2.1, acc.2.2 ++ [handlerItem s o.session (handlerKind s true it) p.2 it h])
        else (acc.1, put stUnavailable, acc.2.2)
      | none => let q := writeNow acc.1 o.session path o.seq it
                (q.1, put q.2, acc.2.2)) ((s, [], []) : State × Sparse ItemAns × List HItem)
  offer t { o with answers := as, checking := false } hs respondItems

/-- The checks of a frame with ALL have ended: all passed, and every item is applied; else none, and those that passed are
ABORTED (R46). -/
def allChecked (role path : Nat) (s : State) (o : OpenFrame) : State :=
  let bad := o.answers.any (fun e => decide (e.2.status ≠ stOk))
  if bad then
    respondItems s { o with answers := o.answers.mapV (fun a => if a.status = stOk then { a with status := stAborted } else a) }
  else applyItems s o role path

/-- A WRITE with ALL: every item is checked first, handler-backed ones by KIND 5. -/
def checkItems (s : State) (o : OpenFrame) (role path : Nat) : State :=
  let up := fwUp s
  let checks := o.items.map (fun it =>
    let st := writeCheck s role it
    if st ≠ stOk then st
    else match handlerOf s it with
      | some _ => if up then stOk else stUnavailable
      | none => (writeNow s o.session path o.seq it).2)
  let as : Sparse ItemAns := (o.items.zip checks).zipIdx.map (fun p => (p.2, writeAns p.1.1 p.1.2))
  let hs := if checks.all (· = stOk) then
      o.items.zipIdx.filterMap (fun p => (handlerOf s p.1).map (fun h => handlerItem s o.session 5 p.2 p.1 h))
    else []
  offer s { o with answers := as, checking := true } hs (allChecked role path)

/-- A READ or WRITE frame that the session accepts. -/
def runItems (s : State) (n : Nat) (x : Session) (f : List Nat) : State :=
  let kind := frameKind f
  match parseItems (kind = 6) 64 (frameBody f) with
  | none => respond s n kind (frameSeq f) stTooLong (frameTag f) []
  | some [] => respond s n kind (frameSeq f) stTooLong (frameTag f) []
  | some items =>
    let all := decide (kind = 6) && bit (frameFlags f) 6
    let o : OpenFrame := { session := n, seq := frameSeq f, tag := frameTag f, kind, all, checking := false, items, answers := [], left := 0 }
    if kind = 5 then runRead s o x.role (bit (frameFlags f) 5)
    else if all then checkItems s o x.role x.path
    else applyItems s o x.role x.path

/-! ## Opening a session (R48 to R50) -/

/-- Sessions that a path carries. -/
def pathRoom (path : Nat) : Nat := match path with | 0 => 16 | 1 => 4 | 2 => 8 | _ => 4

/-- The roles that a path allows (Table 2.8). -/
def roleAllowed (s : State) (path role : Nat) : Bool :=
  match path with
  | 0 | 2 => decide (role ≤ 2)
  | 1 => decide (role ≤ 1)
  | _ => decide (role = 0) || (decide (role = 1) && twinOperator s)

/-- The identifier that the next OPEN gets: Config's, or the next one not in use; never 0. -/
def allotSession (s : State) : Nat :=
  let c := Config.sessionId s.dic.opens
  ((List.range 64).map (fun k => (c + k) % 65535 + 1)).find? (fun n => !s.dic.sessions.has n) |>.getD 1

/-- The session key: one counter-mode block (R49). -/
def sessionKey (role : List Nat) (label : String) (nm nd : List Nat) (n : Nat) : List Nat :=
  Crypto.cmac role ([1] ++ ascii label ++ [0] ++ nm ++ nd ++ beBytes n 2 ++ [0, 0x80])

/-- OPEN: a session is allotted and challenged, or the OPEN is answered SESSION. -/
def openFrame (s : State) (path src : Nat) (f : List Nat) : State :=
  let body := frameBody f
  let role := body.getD 0 0
  let reset := bit (frameFlags f) 4
  if body.length ≠ (if reset then 24 else 20) then deliver s path src (statusFrame 1 0 (frameSeq f) stTooLong)
  else
    let full := decide (pathRoom path ≤ (s.dic.sessions.filter (fun e => decide (e.2.path = path))).length)
    match roleKey s role with
    | none => deliver s path src (statusFrame 1 0 (frameSeq f) stSession)
    | some k =>
      if !roleAllowed s path role ∨ full ∨ bit s.dic.locked path then deliver s path src (statusFrame 1 0 (frameSeq f) stSession)
      else
        let n := allotSession s
        let nm := (body.drop 4).take 16
        let nd := drawBytes s 16
        let x : Session := { path, role, nm, nd, key := sessionKey k "AIDRIC-SK" nm nd n, lastTime := s.now, src
                             replaces := if reset then some (fld body 20 2) else none }
        let t := tagBlocks (drawn s) 48
        let t : State := { t with dic := { t.dic with sessions := t.dic.sessions.ins n x, opens := t.dic.opens + 1 } }
        deliver t path src (sealFrame [] (frameHead 2 0x80 n (frameSeq f) 16 stOk) nd)

/-- A failed PROVE frees its session and counts against its path (R50); four within 1 s lock the path. -/
def proveFailed (s : State) (n : Nat) (x : Session) : State :=
  let recent := s.now :: (s.dic.fails.get x.path []).filter (fun t => decide (s.now - t < 1000000))
  let lock := decide (4 ≤ recent.length)
  let t := countFrame s 2
  let t : State := { t with dic := { t.dic with
    sessions := t.dic.sessions.del n
    fails := t.dic.fails.ins x.path (if lock then [] else recent)
    locked := if lock then bitSet t.dic.locked x.path else t.dic.locked } }
  let t := raise t (0x0840 + x.path) [n, x.role, x.src % 2 ^ 32, x.src / 2 ^ 32 % 2 ^ 32]
  noAnswer (raise t (0x6000 + x.path) [n, x.role]) x.path

/-- PROVE of a half-open session; one with a body, where Table 2.5 gives none, fails (log entry 157). -/
def proveFrame (s : State) (n : Nat) (x : Session) (src : Nat) (f : List Nat) : State :=
  let t := tagBlocks s (12 + frameLen f)
  if frameTag f ≠ Crypto.cmac x.key (f.take (12 + frameLen f)) ∨ frameLen f ≠ 0 then proveFailed t n x
  else if frameSeq f ≠ 1 then
    let t := raise t (0x08E0 + x.path) [n, 1, frameSeq f]
    deliver t x.path src (sealFrame x.key (frameHead 3 0x80 n (frameSeq f) 4 stSequence) (beBytes 0 4))
  else
    let resp := sealFrame x.key (frameHead 4 0x80 n 1 4 stOk) (beBytes (ent s (ekey 0x2000 3) 60) 4)
    let t := modSession (tagBlocks t 16) n (fun y => { y with
      isOpen := true, lastSeq := 1, lastTag := frameTag f, lastResp := resp, lastTime := s.now, src, replaces := none })
    let t := match x.replaces with | some o => if o = n then t else endSession t o 3 | none => t
    let t := raise t (0x0800 + x.path) [n, x.role]
    deliver t x.path src resp

/-! ## Extension entries (R41, R74, R75) -/

/-- Why a descriptor is refused: 1 index, 2 present, 3 type or rights, 4 backing; 0 installed. -/
def extRefusal (s : State) (index sub : Nat) (x : ExtEntry) : Nat :=
  let rights := [x.robs, x.ropr, x.rkpr]
  let cmd := decide (x.typ = 14)
  if index < 0x5000 ∨ 0x5FFF < index ∨ sub = 0 then 1
  else if s.dic.ext.has (ekey index sub) then 2
  else if x.typ = 0 ∨ 14 < x.typ ∨ rights.any (fun r => decide (5 < r)) ∨
      rights.any (fun r => if cmd then decide (r = 2 ∨ r = 3 ∨ r = 4) else decide (r = 5)) then 3
  else if x.handler then 0
  else if 12 ≤ x.typ ∨ x.msb < x.lsb ∨ ((typeLen x.typ).map (fun n => decide (8 * n < x.msb + 1 - x.lsb))).getD true then 4
  else
    match extBind x with
    | none => 4
    | some d => if rights.contains 4 ∧ d.parts.any (fun p => decide (p.1.app ≠ .stop)) then 4 else 0

/-- The descriptor at a tier D address (Table 2.18): index, subindex and entry. -/
def descriptorAt (s : State) (a : Nat) : Nat × Nat × ExtEntry :=
  let q := fun k => leNat (dRead s (a + 8 * k) 8)
  (bits (q 0) 48 16, bits (q 0) 40 8,
    { typ := bits (q 0) 32 8, robs := bits (q 0) 28 4, ropr := bits (q 0) 24 4, rkpr := bits (q 0) 20 4, handler := bit (q 0) 19
      dflt := q 1, addr := bits (q 2) 32 32, msb := bits (q 2) 26 6, lsb := bits (q 2) 20 6, hnum := bits (q 2) 0 16 })

/-- DIC_EXTLOAD.GO: COUNT descriptors in order, each installed or refused on its own; one for which the 4,096 entries leave no room
is refused, for a reason that the spec does not number (log entry 155). The version that the loaded table has is
nowhere stated (log entry 9). -/
def extLoad (s : State) : State :=
  let base := s.rd R.DIC_EXTADDRL_ADDR * 32 + s.rd R.DIC_EXTADDRH_ADDR * 2 ^ 32
  let n := s.rd R.DIC_EXTCOUNT_COUNT
  let (t, refused) := (List.range n).foldl (fun (p : State × Bool) k =>
    let d := descriptorAt p.1 (base + 32 * k)
    let why := extRefusal p.1 d.1 d.2.1 d.2.2
    if why = 0 ∧ p.1.dic.ext.length < 4096 then
      ({ p.1 with dic := { p.1.dic with ext := p.1.dic.ext.ins (ekey d.1 d.2.1) d.2.2 } }, p.2)
    else (raise p.1 0x08C0 [d.1, d.2.1, if why = 0 then Config.payloadCode 0x08C0 0 else why], true)) (s, false)
  let t : State := { t with dic := { t.dic with extVersion := leBytes (Config.unstated 51 [base, n]) 32 } }
  ((t.wr R.DIC_EXTSTAT_REFUSED (b2n refused)).wr R.DIC_EXTSTAT_LOADED t.dic.ext.length).wr R.DIC_EXTSTAT_BUSY 0

/-- DIC_EXTLOAD.CLEAR. -/
def extClear (s : State) : State :=
  let t : State := { s with dic := { s.dic with ext := [], extVersion := [] } }
  (t.wr R.DIC_EXTSTAT_LOADED 0).wr R.DIC_EXTSTAT_BUSY 0

/-- The loads and clears that waited, in their order, once no frame is in progress. -/
def extRun (s : State) : State :=
  if s.dic.cur.isSome ∨ s.dic.extPend.isEmpty then s
  else s.dic.extPend.foldl (fun t op => if op = 1 then extLoad t else extClear t) { s with dic := { s.dic with extPend := [] } }

/-- A load or clear runs between frames; during one it waits, BUSY. -/
def extGo (s : State) (op : Nat) : State := extRun (extAsk s op)

/-! ## A frame arrives (R44, R50, R51, R54) -/

/-- A request of an open session whose tag is good. -/
def requestFrame (s : State) (n : Nat) (x : Session) (f : List Nat) : State :=
  let kind := frameKind f
  if frameSeq f = x.lastSeq ∧ frameTag f = x.lastTag then deliver s x.path x.src x.lastResp
  else if frameSeq f ≠ x.lastSeq + 1 then
    let t := raise s (0x08E0 + x.path) [n, (x.lastSeq + 1) % 2 ^ 32, frameSeq f]
    let t := tagBlocks t 16
    deliver t x.path x.src (sealFrame x.key (frameHead kind 0x80 n (frameSeq f) 4 stSequence) (beBytes x.lastSeq 4))
  else if kind = 5 ∨ kind = 6 then runItems s n x f
  else if kind = 8 ∨ kind = 9 then respond s n kind (frameSeq f) stOk (frameTag f) []
  else noAnswer (countFrame s 3) x.path

/-- One frame, from the front of DIC's queue. A frame that names a session of another path is answered as one that names none (log
entry 154); one of a half-open session that is no PROVE is answered SESSION once its tag checks (R50). -/
def handleFrame (s : State) (path src : Nat) (f : List Nat) : State :=
  if malformed f then noAnswer (countFrame s 3) path
  else if frameKind f = 1 then openFrame s path src f
  else
    match s.dic.sessions.find? (frameSess f) with
    | none => deliver s path src (statusFrame (frameKind f) (frameSess f) (frameSeq f) stSession)
    | some x =>
      if x.path ≠ path then deliver s path src (statusFrame (frameKind f) (frameSess f) (frameSeq f) stSession)
      else if !x.isOpen then
        (if frameKind f = 3 then proveFrame s (frameSess f) x src f
         else
          let t := tagBlocks s (12 + frameLen f)
          if frameTag f ≠ Crypto.cmac x.key (f.take (12 + frameLen f)) then noAnswer (countFrame t 2) path
          else deliver t path src (statusFrame (frameKind f) (frameSess f) (frameSeq f) stSession))
      else
        let t := tagBlocks s (12 + frameLen f)
        if frameTag f ≠ Crypto.cmac x.key (f.take (12 + frameLen f)) then noAnswer (countFrame t 2) path
        else
          let t := modSession t (frameSess f) (fun y => { y with lastTime := s.now, src })
          requestFrame t (frameSess f) { x with src } f

/-- Does a path carry frames now: its port on, its link up? -/
def pathUp (s : State) (path : Nat) : Bool :=
  match path with
  | 0 => s.on R.MGT_CFG_ENABLE
  | 1 => s.on R.MGT_CFG_SMBEN
  | 2 => !s.pci.perst
  | _ => visilUp s

/-- The state in which DIC begins a frame of `path`: the management port's addresses of this moment are those of its response (R77). -/
def atFrame (s : State) (path : Nat) : State := { s with dic := { s.dic with own := if path = 0 then mgtOwn s else [] } }

/-- A frame that DIC begins; the loads of entries that waited for its end follow (R74). -/
def beginFrame (s : State) (path src : Nat) (f : List Nat) : State := extRun (handleFrame (atFrame s path) path src f)

/-- A frame reaches DIC: at once, or after the frame in progress (R54). One that the management port may not pass is dropped and
counted (R77). -/
def frameIn (s : State) (path src : Nat) (f : List Nat) : State :=
  if !awake s then s
  else if s.rst.held then noAnswer s path
  else if !pathUp s path then
    (if path = 0 then { s with mgtDrops := s.mgtDrops + 1 } else noAnswer s path)
  else if s.on R.BLKSTAT_ISOLATED 0 1 then noAnswer s path
  else if s.dic.cur.isSome then
    { s with dic := { s.dic with queue := s.dic.queue ++ [{ path, src, bytes := f }] } }
  else beginFrame s path src f

/-- A frame of kind `k` (or one that R44 drops) reaches DIC. -/
def kindFrame (k : Nat) (s : State) (path src : Nat) (f : List Nat) : State :=
  if malformed f ∨ frameKind f = k then frameIn s path src f else s

/-! ## Answers of handlers -/

/-- The frames that waited, as long as none of them waits for a handler. -/
def runQueue : Nat → State → State
  | 0, s => s
  | n + 1, s =>
    if s.dic.cur.isSome then s
    else
      let s := extRun s
      match s.dic.queue with
      | [] => s
      | q :: qs => runQueue n (beginFrame { s with dic := { s.dic with queue := qs } } q.path q.src q.bytes)

/-- DIC goes on to what waits for it. -/
def nextFrames (s : State) : State := runQueue (s.dic.queue.length + 1) s

/-- The oldest handler item gets its answer and leaves the queue; with the last, the frame goes on. -/
def handlerAnswered (s : State) (status : Nat) (data : List Nat) : State :=
  match s.dic.hq, s.dic.cur with
  | h :: hs, some o =>
    let typ := match o.items[h.pos]? with | some it => itemType s it | none => 0
    let a : ItemAns := { status, typ, data := if status = stOk ∧ (h.kind = 1 ∨ h.kind = 4) then data else [] }
    let o := { o with answers := o.answers.ins h.pos a, left := o.left - 1 }
    let t : State := { s with dic := { s.dic with hq := hs, cur := some o } }
    if o.left ≠ 0 then showHandler t
    else
      let u : State := showHandler { t with dic := { t.dic with cur := none } }
      let (role, path) := match s.dic.sessions.find? o.session with | some x => (x.role, x.path) | none => (0, 0)
      nextFrames (if o.checking then allChecked role path u o else respondItems u o)
  | _, _ => s

/-- DIC_HANS.GO: the value from DIC_HVALL and DIC_HVALH, or from DIC_HBUF with LEN. -/
def hansGo (s : State) : State :=
  match s.dic.hq, s.dic.cur with
  | h :: _, some o =>
    let it := o.items[h.pos]?
    let typ := match it with | some i => itemType s i | none => 0
    let buf := (List.range 256).flatMap (fun w => leBytes (s.rd R.DIC_HBUF w) 4)
    let len := s.rd R.DIC_HANS_LEN
    let data :=
      if typ = 13 then buf.take (min len ((it.map (·.len)).getD 0))
      else if typ = 12 then (buf.take (min len 32) ++ List.replicate 32 0).take 32
      else beBytes (s.rd R.DIC_HVALL + 2 ^ 32 * s.rd R.DIC_HVALH) ((typeLen typ).getD 0)
    handlerAnswered s (s.rd R.DIC_HANS_STATUS) data
  | _, _ => s

end Sys2Proof.Machine
end

