-- ==== Sys2Proof/Machine/ControlSpace.lean ====
section
/-! DEFINITION. What the cores of the ACTIVE cluster write: the control space, the bit aliases and the rest of the cluster's address
map (R57 to R65, R100, R149, R392, R423). -/

namespace Sys2Proof.Machine

/-! ## A block's window -/

/-- Does a counter, or its copy in a holding bank, lie at `off` of block `n` (R57)? -/
def counterAt (n off : Nat) : Bool :=
  let o := if 0xC0000 ≤ off then off - 0xC0000 else if 0x80000 ≤ off then off - 0x80000 else off
  C.all.any (fun c => decide (c.blk ≤ n) && decide (n < c.blk + c.nblk) && decide (c.off ≤ o) && decide ((o - c.off) / c.str < c.cnt) &&
    decide ((o - c.off) % c.str < 8))

/-- What <P>_BLKID of block `n` reads (R58): the instance number and the block index, fixed. -/
def blkId (n : Nat) : Nat :=
  let inst := if 42 ≤ n then n - 42 else if 34 ≤ n then n - 34 else if 26 ≤ n then (n - 26) % 4 else if n = 6 then 1 else 0
  inst * 256 + n

/-- Is there a register at `off` of block `n`'s gate page: a field's word, or <P>_BLKID, which no write changes? -/
def gateWord (n off : Nat) : Bool := decide (n < 58) && (decide (off = 0) || !(wordFields n off).isEmpty)

/-- Is there a register, a counter or an on-chip window at `off` of block `n`? -/
def wordMapped (n off : Nat) : Bool :=
  decide (n < 58) && (gateWord n off || counterAt n off || (decide (n = 2) && decide (0x40000 ≤ off) && decide (off < 0x80000)))

/-- An access fault to the issuing core. -/
def fault (s : State) (core addr : Nat) : State := s.emit (.coreFault core addr)

/-- A write of a word of a block, with DIC's own action words: EXTLOAD, which runs between frames, and HANS, which answers the oldest
handler item. -/
def blockWrite (s : State) (n off v : Nat) : State :=
  let q := regWrite s n off v 0
  if n = 1 ∧ off = 0x54 then extRun q.1
  else if n = 1 ∧ off = 0x78 ∧ bit v 31 ∧ q.2 = stOk then hansGo q.1
  else q.1

/-- A write into a block window: nothing there is an access fault and event 0x0900, an isolated block an access fault alone. -/
def windowWrite (s : State) (core addr v : Nat) : State :=
  let n := (addr - 0x40000000) / 0x100000
  let off := addr % 0x100000
  if !wordMapped n off then raise (fault s core addr) 0x0900 [addr, core]
  else if s.on R.BLKSTAT_ISOLATED 0 n then fault s core addr
  else blockWrite s n off v

/-! ## Bit aliases (R65) -/

/-- The field and element that hold bit `b` of the word at `off` of block `n`. -/
def fieldAt (n off b : Nat) : Option (Fld × Nat) := (wordFields n off).find? (fun p => decide (p.1.lsb ≤ b) && decide (b < p.1.lsb + p.1.wid))

/-- What an alias write starts from: what waits in the apply group or the shadow, else the value in force. -/
def aliasBase (s : State) (F : Fld) (i b : Nat) : Nat := (s.rf.group.find? (F.key i b)).getD (s.shadowed F i b)

/-- Bit `b` of the word at `off` of block `n` written to `v`: an action bit starts its action when 1; any other bit is the field's
value with that bit, written by the field's class; a bit of no field has no effect. -/
def aliasBit (s : State) (n off b : Nat) (v : Bool) : State :=
  match fieldAt n off b with
  | none => s
  | some (F, i) =>
    if F.acc = .wo then
      (if !v then s
       else if off = 4 then (if b = 8 then snapBlock s n else groupCommit s n)
       else if n = 1 ∧ off = 0x54 then extGo s (if b = 31 then 1 else 2)
       else if n = 1 ∧ off = 0x78 then hansGo s
       else act s n off (2 ^ b))
    else if off = 4 then (goWrite s n v).1
    else if n = 0 ∧ 0x100 ≤ off then
      let g := (off - 0x100) / 16
      let w := (off - 0x100) / 4 % 4
      rowWrite s g w (bitPut (s.gai.held.get (4 * g + w) (editWord s g w)) b v)
    else if !F.writable then s
    else
      let x := bitPut (aliasBase s F i (copyOf F (homeOf n off))) (b - F.lsb) v
      afterWrite (writeField s n F i x 0).1 n

/-- A write into the alias region. -/
def aliasWrite (s : State) (core addr v : Nat) : State :=
  let n := (addr - 0x48000000) / 0x20000
  let k := addr % 0x20000 / 4
  let off := k / 32 * 4
  if !gateWord n off then raise (fault s core addr) 0x0900 [addr, core]
  else if s.on R.BLKSTAT_ISOLATED 0 n then fault s core addr
  else aliasBit s n off (k % 32) (bit v 0)

/-! ## The other regions of Table 14.1 -/

/-- The tack room: control firmware's words, and BKP6 to BKP31; the rest is the always-on domain's and the service core's. -/
def tackWrite (s : State) (addr v : Nat) : State :=
  if addr < 0x4F001140 then s
  else if addr < 0x4F010000 then setTackWord s (addr - 0x4F000000) v
  else if 6 ≤ (addr - 0x4F010000) / 4 then setBkp s ((addr - 0x4F010000) / 4) v
  else s

/-- The interrupt controller's words, as the RISC-V PLIC lays them out: priorities, enables of a context per core, thresholds. A
completion changes nothing, since every source is a level (R425). -/
def plicWrite (s : State) (off v : Nat) : State :=
  let put := fun x => { s with cpx := { s.cpx with plic := s.cpx.plic.put off x 0 } }
  if off < 0x1000 then (if 4 ≤ off ∧ off < 0x100 then put (v % 8) else s)
  else if 0x2000 ≤ off ∧ off < 0x2200 then
    (if off % 0x80 = 0 then put (v / 2 * 2) else if off % 0x80 = 4 then put v else s)
  else if 0x200000 ≤ off ∧ off < 0x204000 ∧ off % 0x1000 = 0 then put (v % 8)
  else s

/-- Half of a 64-bit number replaced. -/
def putHalf (x : Nat) (hi : Bool) (v : Nat) : Nat := if hi then x % 2 ^ 32 + v * 2 ^ 32 else x / 2 ^ 32 * 2 ^ 32 + v

/-- The machine timer (R423). -/
def timerWrite (s : State) (off v : Nat) : State :=
  let hi := decide (off % 8 = 4)
  if 0x4000 ≤ off ∧ off < 0x4020 then
    let c := (off - 0x4000) / 8
    showTimers { s with cpx := { s.cpx with mtimecmp := s.cpx.mtimecmp.ins c (putHalf (s.cpx.mtimecmp.get c 0) hi v) } }
  else if 0xBFF8 ≤ off ∧ off < 0xC000 then showTimers { s with cpx := { s.cpx with mtime := putHalf s.cpx.mtime hi v } }
  else s

/-- A write of tier D: none during FILLING (R267), none into the map area (R100) or the context area (R149). -/
def tierDWrite (s : State) (core addr v : Nat) : State :=
  let a := addr - 0x80000000000
  if s.dev = .filling ∨ dgroups s * 2097152 ≤ a then fault s core addr
  else if a < mapEnd s * 2097152 then raise (fault s core addr) 0x1500 [addr, core]
  else if (contextAt s a).isSome then raise (fault s core addr) 0x1120 [addr, core]
  else dWrite s a (leBytes v 4)

/-- A 32-bit write by core `core` of the ACTIVE cluster. -/
def coreWrite (s : State) (core addr v : Nat) : State :=
  if addr % 4 ≠ 0 then fault s core addr
  else if 0x08000000 ≤ addr ∧ addr < 0x08400000 then
    let c := activeCluster s
    setSram s c (memWrite (sramOf s c) (addr - 0x08000000) (leBytes v 4))
  else if 0x0C000000 ≤ addr ∧ addr < 0x0C400000 then plicWrite s (addr - 0x0C000000) v
  else if 0x0D000000 ≤ addr ∧ addr < 0x0D010000 then timerWrite s (addr - 0x0D000000) v
  else if 0x40000000 ≤ addr ∧ addr < 0x48000000 then windowWrite s core addr v
  else if 0x48000000 ≤ addr ∧ addr < 0x49000000 then aliasWrite s core addr v
  else if 0x4F000000 ≤ addr ∧ addr < 0x4F010080 then tackWrite s addr v
  else if 0x49000000 ≤ addr ∧ addr < 0x4F000000 then raise (fault s core addr) 0x0900 [addr, core]
  else if 0x80000000000 ≤ addr then tierDWrite s core addr v
  else fault s core addr

/-! ## The commands -/

/-- BLOCK_GO_WRITE (R58, R59). -/
def doBlockGoWrite (block : Fin 58) (go : Bool) (s : State) : State :=
  if awake s ∧ !s.on R.BLKSTAT_ISOLATED 0 block then (goWrite s block go).1 else s

def execBlockGoWrite (block : Fin 58) (go : Bool) (s : State) : Out3 := .next (doBlockGoWrite block go s)

/-- GROUP_COMMIT (R63). -/
def doGroupCommit (block : Fin 58) (s : State) : State :=
  if awake s ∧ !s.on R.BLKSTAT_ISOLATED 0 block then groupCommit s block else s

def execGroupCommit (block : Fin 58) (s : State) : Out3 := .next (doGroupCommit block s)

/-- CONTROL_SPACE_WRITE (R57 to R64, R423). -/
def doControlSpaceWrite (core : Fin 4) (addr : Nat) (v : BitVec 32) (s : State) : State :=
  if awake s ∧ !s.rst.held then coreWrite s core addr v.toNat else s

def execControlSpaceWrite (core : Fin 4) (addr : Nat) (v : BitVec 32) (s : State) : Out3 :=
  .next (doControlSpaceWrite core addr v s)

/-- BIT_ALIAS_WRITE (R65). -/
def doBitAliasWrite (core : Fin 4) (block : Fin 128) (off : Fin 4096) (b : Fin 8) (v : Bool) (s : State) : State :=
  if awake s ∧ !s.rst.held then
    aliasWrite s core (0x48000000 + block * 0x20000 + (off * 8 + b) * 4) (b2n v)
  else s

def execBitAliasWrite (core : Fin 4) (block : Fin 128) (off : Fin 4096) (b : Fin 8) (v : Bool) (s : State) : Out3 :=
  .next (doBitAliasWrite core block off b v s)

end Sys2Proof.Machine
end

