-- ==== Sys2Proof/Machine/Dictionary.lean ====
section
/-! DEFINITION. The meanings of the dictionary's commands: sessions and frames, handler items, extension entries, snapshots, the
configuration check, the PCIe mailbox and link, and the management port (R41 to R79). -/

namespace Sys2Proof.Machine

/-! ## Frames of a manager -/

/-- AIDRIC_OPEN (R49, R50). -/
def doAidricOpen (path : Fin 4) (src : Nat) (frame : List Nat) (s : State) : State := kindFrame 1 s path src frame

def execAidricOpen (path : Fin 4) (src : Nat) (frame : List Nat) (s : State) : Out3 := .next (doAidricOpen path src frame s)

/-- AIDRIC_PROVE (R49, R50). -/
def doAidricProve (path : Fin 4) (src : Nat) (frame : List Nat) (s : State) : State := kindFrame 3 s path src frame

def execAidricProve (path : Fin 4) (src : Nat) (frame : List Nat) (s : State) : Out3 := .next (doAidricProve path src frame s)

/-- AIDRIC_READ (R45, R47). -/
def doAidricRead (path : Fin 4) (src : Nat) (frame : List Nat) (s : State) : State := kindFrame 5 s path src frame

def execAidricRead (path : Fin 4) (src : Nat) (frame : List Nat) (s : State) : Out3 := .next (doAidricRead path src frame s)

/-- AIDRIC_WRITE (R46). -/
def doAidricWrite (path : Fin 4) (src : Nat) (frame : List Nat) (s : State) : State := kindFrame 6 s path src frame

def execAidricWrite (path : Fin 4) (src : Nat) (frame : List Nat) (s : State) : Out3 := .next (doAidricWrite path src frame s)

/-- AIDRIC_KEEPALIVE (R53). -/
def doAidricKeepalive (path : Fin 4) (src : Nat) (frame : List Nat) (s : State) : State := kindFrame 8 s path src frame

def execAidricKeepalive (path : Fin 4) (src : Nat) (frame : List Nat) (s : State) : Out3 :=
  .next (doAidricKeepalive path src frame s)

/-- AIDRIC_CLOSE (R53). -/
def doAidricClose (path : Fin 4) (src : Nat) (frame : List Nat) (s : State) : State := kindFrame 9 s path src frame

def execAidricClose (path : Fin 4) (src : Nat) (frame : List Nat) (s : State) : Out3 := .next (doAidricClose path src frame s)

/-! ## Timers of sessions and paths -/

/-- SESSION_IDLE_TIMEOUT (R53). -/
def doSessionIdleTimeout (session : Nat) (s : State) : State :=
  match s.dic.sessions.find? session with
  | some x => if awake s ∧ x.isOpen then nextFrames (endSession s session 1) else s
  | none => s

def execSessionIdleTimeout (session : Nat) (s : State) : Out3 := .next (doSessionIdleTimeout session s)

/-- PATH_LOCKOUT_END (R50): of a dictionary path, or 4 for the service port. -/
def doPathLockoutEnd (path : Fin 5) (s : State) : State :=
  if awake s then { s with dic := { s.dic with locked := bitClr s.dic.locked path } } else s

def execPathLockoutEnd (path : Fin 5) (s : State) : Out3 := .next (doPathLockoutEnd path s)

/-! ## Handler items (R76) -/

/-- DIC_HANDLER_ANSWER: a write of DIC_HANS with GO; a LEN above 1,012 refuses it. -/
def doDicHandlerAnswer (status : BitVec 8) (len : BitVec 11) (s : State) : State :=
  if awake s ∧ len.toNat ≤ 1012 then
    hansGo ((s.wr R.DIC_HANS_STATUS status.toNat).wr R.DIC_HANS_LEN len.toNat)
  else s

def execDicHandlerAnswer (status : BitVec 8) (len : BitVec 11) (s : State) : Out3 := .next (doDicHandlerAnswer status len s)

/-- HANDLER_ITEM_TIMEOUT: the oldest item is answered UNAVAILABLE (R42). -/
def doHandlerItemTimeout (s : State) : State := if awake s then handlerAnswered s stUnavailable [] else s

def execHandlerItemTimeout (s : State) : Out3 := .next (doHandlerItemTimeout s)

/-! ## Extension entries (R74, R75) -/

/-- DIC_EXT_LOAD. -/
def doDicExtLoad (s : State) : State := if awake s then extGo s 1 else s

def execDicExtLoad (s : State) : Out3 := .next (doDicExtLoad s)

/-- DIC_EXT_CLEAR. -/
def doDicExtClear (s : State) : State := if awake s then extGo s 2 else s

def execDicExtClear (s : State) : Out3 := .next (doDicExtClear s)

/-! ## Snapshots (R68) -/

/-- DIC_SNAPSHOT. -/
def doDicSnapshot (s : State) : State := if awake s then snapAll s else s

def execDicSnapshot (s : State) : Out3 := .next (doDicSnapshot s)

/-- BLOCK_SNAPSHOT. -/
def doBlockSnapshot (block : Fin 58) (s : State) : State := if awake s then snapBlock s block else s

def execBlockSnapshot (block : Fin 58) (s : State) : Out3 := .next (doBlockSnapshot block s)

/-- DEVICE_SNAPSHOT_CMD. -/
def doDeviceSnapshotCmd (s : State) : State := if awake s then snapshotCmd s else s

def execDeviceSnapshotCmd (s : State) : Out3 := .next (doDeviceSnapshotCmd s)

/-! ## The configuration check (R69, R70) -/

/-- One block of a sweep: CFGCRC, and CFGMIS against a non-zero reference with event 0x0860 on a change to unequal. -/
def sweepBlock (s : State) (n : Nat) : State :=
  let c := configCrc s n
  let ref := s.rd R.CFGREF_REF 0 n
  let bad := decide (ref ≠ 0) && decide (c ≠ ref)
  let was := s.on R.BLKSTAT_CFGMIS 0 n
  let t := (s.wr R.CFGCRC_CRC c 0 n).wr R.BLKSTAT_CFGMIS (b2n bad) 0 n
  if bad && !was then raise t 0x0860 [n, c, ref] else t

/-- CONFIG_SWEEP: every block, and the sweep count 0x2010.04. -/
def doConfigSweep (s : State) : State :=
  if awake s then
    let t := (List.range 58).foldl sweepBlock s
    setEnt t (ekey 0x2010 4) ((ent t (ekey 0x2010 4) 0 + 1) % 2 ^ 32)
  else s

def execConfigSweep (s : State) : Out3 := .next (doConfigSweep s)

/-- CONFIG_COMMIT. -/
def doConfigCommit (s : State) : State := if awake s then configCommit s else s

def execConfigCommit (s : State) : Out3 := .next (doConfigCommit s)

/-- CFGREF_WRITE: 0x2011. -/
def doCfgrefWrite (block : Fin 58) (ref : BitVec 32) (s : State) : State :=
  if awake s then s.wr R.CFGREF_REF ref.toNat 0 block else s

def execCfgrefWrite (block : Fin 58) (ref : BitVec 32) (s : State) : Out3 := .next (doCfgrefWrite block ref s)

/-! ## Commands of other chapters that act through DIC -/

/-- QP_INSPECT_TO_ERROR_CMD (R150). -/
def doQpInspectToErrorCmd (session : Nat) (s : State) : State := if awake s then qpInspectError s session else s

def execQpInspectToErrorCmd (session : Nat) (s : State) : Out3 := .next (doQpInspectToErrorCmd session s)

/-- CANCEL_STAGING: UPD_CMD OP 1 (R452). -/
def doCancelStaging (s : State) : State := if awake s then cancelStaging (s.wr R.UPD_CMD_OP 1) else s

def execCancelStaging (s : State) : Out3 := .next (doCancelStaging s)

/-- CANCEL_STAGING_CMD: 0x2C30.09 (R453). -/
def doCancelStagingCmd (s : State) : State := if awake s then cancelCmd s else s

def execCancelStagingCmd (s : State) : Out3 := .next (doCancelStagingCmd s)

/-! ## The PCIe mailbox and link (Table 2.9, R78, R243) -/

/-- PCIE_DOORBELL: the frame in REQBUF goes to DIC; ignored while BUSY, in D3hot and in reset. -/
def doPcieDoorbell (frame : List Nat) (s : State) : State :=
  if !awake s ∨ s.pci.perst ∨ s.pci.busy ∨ s.rd R.PCI_STAT_DSTATE = 3 then s
  else frameIn { s with pci := { s.pci with req := frame, busy := true, respReady := false } } 2 0 frame

def execPcieDoorbell (frame : List Nat) (s : State) : Out3 := .next (doPcieDoorbell frame s)

/-- PCIE_NTFTAKEN: the notification in NTFBUF is gone; the next one raises MSI-X vector 2. -/
def doPcieNtftaken (s : State) : State :=
  if !awake s ∨ s.pci.perst ∨ s.recd.notes.isEmpty then s
  else
    let t : State := { s with
      recd := { s.recd with notes := s.recd.notes.drop 1 }, pci := { s.pci with taken := s.pci.taken + 1 } }
    if t.recd.notes.isEmpty then t else t.emit (.msix 2)

def execPcieNtftaken (s : State) : Out3 := .next (doPcieNtftaken s)

/-- PCIE_PERST: while asserted PCI is held in reset, the sessions of path 2 end and tier H is DOWN (R78). -/
def doPciePerst (asserted : Bool) (s : State) : State :=
  if !awake s then { s with pci := { s.pci with perst := asserted } }
  else if !asserted then { s with pci := { s.pci with perst := false } }
  else
    let mine := (s.dic.sessions.filter (fun e => decide (e.2.path = 2))).map (·.1)
    let t := mine.foldl (fun u n => endSession u n 2) s
    let t : State := { t with
      pci := { perst := true }
      dic := { t.dic with queue := t.dic.queue.filter (fun q => decide (q.path ≠ 2)) } }
    nextFrames (hostDown ((showPci t false 0 0).wr R.PCI_STAT_DSTATE 0))

def execPciePerst (asserted : Bool) (s : State) : Out3 := .next (doPciePerst asserted s)

/-- PCIE_POWER_STATE_CHANGE: D0 or D3hot. -/
def doPciePowerStateChange (d3hot : Bool) (s : State) : State :=
  if awake s ∧ !s.pci.perst then s.wr R.PCI_STAT_DSTATE (if d3hot then 3 else 0) else s

def execPciePowerStateChange (d3hot : Bool) (s : State) : Out3 := .next (doPciePowerStateChange d3hot s)

/-- PCIE_LINK_STATE_CHANGE: speed 1 to 5 (Table 2.21) and 1, 2, 4, 8 or 16 lanes, or down. -/
def doPcieLinkStateChange (up : Bool) (speed : Nat) (width : Nat) (s : State) : State :=
  if !awake s ∨ s.pci.perst then s
  else if up then
    (if s.on R.PCI_CFG_ENABLE ∧ 1 ≤ speed ∧ speed ≤ 5 ∧ [1, 2, 4, 8, 16].contains width then showPci s true speed width else s)
  else if s.on R.PCI_STAT_LINKUP then hostDown (showPci s false 0 0)
  else s

def execPcieLinkStateChange (up : Bool) (speed : Nat) (width : Nat) (s : State) : Out3 :=
  .next (doPcieLinkStateChange up speed width s)

/-! ## The management port (R77) -/

/-- MGT_LINK_STATUS_CHANGE: the in-band status. -/
def doMgtLinkStatusChange (up full : Bool) (speed : Fin 3) (s : State) : State :=
  if awake s then ((s.wr R.MGT_LINK_UP (b2n up)).wr R.MGT_LINK_FULLDUP (b2n full)).wr R.MGT_LINK_SPEED speed else s

def execMgtLinkStatusChange (up full : Bool) (speed : Fin 3) (s : State) : Out3 := .next (doMgtLinkStatusChange up full speed s)

/-- MGT's IPv6 address, bits 127:96 in the first word. -/
def mgtIp6 (s : State) : Nat := (List.range 4).foldl (fun a w => a * 2 ^ 32 + s.rd R.MGT_IP6 w) 0

/-- The frame carries the 802.1Q tag that MGT_VLAN asks for, or none where it asks for none. -/
def vlanOk (s : State) (vlan : Option Nat) : Bool :=
  if s.on R.MGT_VLAN_TAGGED then decide (vlan = some (s.rd R.MGT_VLAN_VID)) else vlan.isNone

/-- MGT_ARP_NS_ECHO: kind 0 ARP, 1 Neighbor Solicitation, 2 ICMP echo, 3 ICMPv6 echo for `addr`; at most 100 answers a second. -/
def doMgtArpNsEcho (kind : Fin 4) (addr src : Nat) (vlan : Option Nat) (s : State) : State :=
  let own := if kind.val = 0 ∨ kind.val = 2 then s.rd R.MGT_IP4_ADDR else mgtIp6 s
  if !awake s then s
  else if s.on R.MGT_CFG_ENABLE ∧ vlanOk s vlan ∧ own ≠ 0 ∧ addr = own ∧ echoAllowed s 16 100 then
    (echoCount s 16).emit (.net 16 kind addr src)
  else { s with mgtDrops := s.mgtDrops + 1 }

def execMgtArpNsEcho (kind : Fin 4) (addr src : Nat) (vlan : Option Nat) (s : State) : Out3 :=
  .next (doMgtArpNsEcho kind addr src vlan s)

/-- MDIO_TRANSACTION: a write of MGT_MDIO with GO; `rdata` is what the PHY answers to a read. -/
def doMdioTransaction (write : Bool) (phy reg : BitVec 5) (data rdata : BitVec 16) (s : State) : State :=
  if awake s then
    mdioRun ((((s.wr R.MGT_MDIO_WRITE (b2n write)).wr R.MGT_MDIO_PHYAD phy.toNat).wr R.MGT_MDIO_REGAD reg.toNat).wr
      R.MGT_MDIO_DATA data.toNat) rdata.toNat
  else s

def execMdioTransaction (write : Bool) (phy reg : BitVec 5) (data rdata : BitVec 16) (s : State) : Out3 :=
  .next (doMdioTransaction write phy reg data rdata s)

/-- The answer to an MCTP control command: completion code and data (the encodings are those of the DMTF base specification,
PRESUMED, log entry 75; the version bytes are unstated). -/
def mctpAnswer (s : State) (cmd : Nat) (data : List Nat) : Option (State × List Nat) :=
  match cmd with
  | 1 =>
    let eid := data.getD 1 0
    if data.length ≠ 2 ∨ 1 < data.getD 0 0 ∨ eid = 0 ∨ 255 ≤ eid then some (s, [2])
    else some (s.wr R.MGT_SMB_EID eid, [0, 0, eid, 0])
  | 2 => some (s, [0, s.rd R.MGT_SMB_EID, 0, 0])
  | 4 =>
    if [0, 0x7F, 255].contains (data.getD 0 0) ∧ data.length = 1 then
      some (s, [0, 1] ++ beBytes (Config.unstated 52 [data.getD 0 0]) 4)
    else some (s, [0x80])
  | 5 => some (s, [0, 2, 0, 0x7F])
  | _ => none

/-- MCTP_CONTROL_MESSAGE: Set and Get Endpoint ID, Get MCTP Version Support and Get Message Type Support are answered. -/
def doMctpControlMessage (tag : BitVec 5) (cmd : BitVec 8) (data : List Nat) (s : State) : State :=
  if awake s ∧ s.on R.MGT_CFG_SMBEN then
    match mctpAnswer s cmd.toNat data with
    | some (t, a) => t.emit (.mctp ([0, tag.toNat, cmd.toNat] ++ a))
    | none => s
  else s

def execMctpControlMessage (tag : BitVec 5) (cmd : BitVec 8) (data : List Nat) (s : State) : Out3 :=
  .next (doMctpControlMessage tag cmd data s)

/-! ## Path 3 (R48) -/

/-- DICT: a frame of the peer's manager; its answer leaves with the same tag. -/
def doDict (tag : Nat) (frame : List Nat) (s : State) : State := frameIn s 3 tag frame

def execDict (tag : Nat) (frame : List Nat) (s : State) : Out3 := .next (doDict tag frame s)

/-- DICT_RSP: delivered. -/
def doDictRsp (tag : Nat) (frame : List Nat) (s : State) : State :=
  if awake s ∧ visilUp s then { s with dic := { s.dic with peerRsp := s.dic.peerRsp ++ [(tag, frame)] } } else s

def execDictRsp (tag : Nat) (frame : List Nat) (s : State) : Out3 := .next (doDictRsp tag frame s)

end Sys2Proof.Machine
end

