-- ==== Sys2Proof/Machine/Flit.lean ====
section
/-! DEFINITION. A flit of the Visil link: header, replay, and the messages in its slots (R184, R185, R192, Tables 6.5 to 6.7). -/

namespace Sys2Proof.Machine

/-! ## Messages -/

/-- VC and slots that a message of this type and these fields has (Table 6.6); none for a type or field that is not listed. `a` is
the header slot, `b` the slot after it. -/
def msgShape (s : State) (a b : Nat) : Option (Nat × Nat) :=
  let len16 := fun n => (n + 15) / 16
  match bits a 122 6 with
  | 0x01 => let n := bits b 115 13; if 1 ≤ n ∧ n ≤ 4096 then some (1, 2 + len16 n) else none
  | 0x02 => let n := bits a 35 13; if 1 ≤ n ∧ n ≤ 4096 then some (0, 1 + len16 n) else none
  | 0x03 => some (0, 2)
  | 0x04 => some (1, if bits a 111 9 = 2 then 2 else 1)
  | 0x05 => some (2, 1)
  | 0x06 => some (1, 5)
  | 0x07 => some (3, 5)
  | 0x08 => some (if isHome s (bits a 60 36) then 3 else 1, 1)
  | 0x09 => some (2, 5)
  | 0x0A | 0x0B | 0x1C | 0x21 => some (2, 1)
  | 0x0C | 0x31 => some (3, 1)
  | 0x10 => some (1, if bit a 11 then 2 else 258)
  | 0x18 => some (3, 4)
  | 0x19 | 0x1B | 0x30 => some (3, 2)
  | 0x1A => let n := bits a 89 7; if n ≤ 64 then some (3, 1 + (n + 1) / 2) else none
  | 0x20 =>
    match bits a 92 4 with
    | 1 | 4 => some (3, 5)
    | 2 | 5 => some (3, 2)
    | 3 => some (3, 1)
    | _ => none
  | 0x28 => let n := bits a 85 11; if n ≤ 1052 then some (3, 1 + len16 n) else none
  | 0x29 => let n := bits a 85 11; if n ≤ 1052 then some (2, 1 + len16 n) else none
  | _ => none

/-- The first `n` bytes of the slots from number `k` on. -/
def slotBytesOf (m : List Nat) (k n : Nat) : List Nat := ((m.drop k).flatMap (fun x => beBytes x 16)).take n

/-- The page mask of a MOVE or MOVEREQ: slot k flags pages 128(k − 1) on. -/
def slotMask (m : List Nat) : Nat :=
  m.getD 1 0 + m.getD 2 0 * 2 ^ 128 + m.getD 3 0 * 2 ^ 256 + m.getD 4 0 * 2 ^ 384

/-- The eight little-endian words of the region entry in slots 1 to 4. -/
def slotWords (m : List Nat) : List Nat := (List.range 8).map (fun k => leNat (((slotBytesOf m 1 64).drop (8 * k)).take 8))

/-- HELLO's fields. -/
def helloIn (m : List Nat) : Hello :=
  let a := m.getD 0 0
  let b := m.getD 1 0
  let c := m.getD 2 0
  let d := m.getD 3 0
  { side := bits a 95 1, level := bits a 91 4, soloPref := bits a 90 1, hbbEn := bit a 89, blank := bit a 88
    lastState := bits a 85 3, role := bits a 83 2, wmin := bits a 78 5, pairId := bits b 64 64, pgen := bits b 0 64
    part := bits c 64 64, pext := bits c 37 27, dgroups := bits c 14 23
    sealSeq := bits d 64 64, pendPages := bits d 32 32, logExtents := bits d 0 32 }

/-- A message that comes whole, as the command of its type. -/
def consume (s : State) (m : List Nat) : State :=
  let a := m.getD 0 0
  let b := m.getD 1 0
  let tag := bits a 96 15
  let ep := bits a 48 48
  let page12 := bits a 12 36
  let page60 := bits a 60 36
  match bits a 122 6 with
  | 0x01 => doMirrorMsg tag ep page12 (bits a 0 12) (bit b 114) (slotBytesOf m 2 (bits b 115 13)) s
  | 0x02 => doForwardMsg tag page60 (bits a 48 12) (slotBytesOf m 1 (bits a 35 13)) s
  | 0x03 => doFwdAtomic tag page60 (bits a 54 6) (bits a 51 3) (bit a 50) (bits b 64 64) (bits b 0 64) s
  | 0x04 => doOrderedMsg tag ep page12 (bits a 8 4) (if m.length = 2 then some (bits b 64 64, bits b 0 64) else none) s
  | 0x05 => doPlacedMsg tag ep page12 (bits a 8 4) s
  | 0x06 => doMoveMsg tag (bits a 69 27) (bits a 66 3) (slotMask m) s
  | 0x07 => doMovereq tag (bits a 69 27) (bits a 66 3) (slotMask m) s
  | 0x08 => doTread tag page60 (bits a 54 6) s
  | 0x09 => doTreadData tag ep page12 (bits a 6 6) (slotBytesOf m 1 64) s
  | 0x0A => doTreadFail tag page60 (bits a 54 6) (bits a 50 4) s
  | 0x0B => doMoveDone tag (bits a 69 27) (bits a 66 3) (bits a 62 4) s
  | 0x0C => doPagepull tag page60 s
  | 0x10 => doResyncPage tag ep page12 (bit a 11) (bit a 10) (bits b 64 64) (slotBytesOf m 2 4096) s
  | 0x18 => doHelloMsg tag (helloIn m) s
  | 0x19 => doHelloAnswer tag (bits a 92 4) (bits a 88 4) (bits a 84 4) (bits b 64 64) (bits b 0 64) s
  | 0x1A =>
    doPendlist tag (bit a 88) ((List.range (bits a 89 7)).map (fun k => bits (m.getD (1 + k / 2) 0) (if k % 2 = 0 then 64 else 0) 36)) s
  | 0x1B =>
    match bits a 88 8 with
    | 1 => doStateReady tag (bits b 0 64) s
    | 2 => doStateSpanreq tag (bits b 0 64) s
    | 3 => doStateSpanok tag (bits b 0 64) s
    | 4 => doStateSpandone tag (bits b 0 64) s
    | _ => s
  | 0x1C => doDepart tag (bits a 92 4) s
  | 0x20 =>
    match bits a 92 4 with
    | 1 => doMapopRegionSet tag (bits a 78 14) (slotWords m) s
    | 2 => doMapopExtentSet tag (bits a 51 27) [bits b 64 64, bits b 0 64] s
    | 3 => doMapopDealloc tag (bits a 51 27) (bits a 24 27) s
    | 4 => doMapopRegreq tag (slotWords m) s
    | _ => doMapopDeregreq tag (bits b 96 32) s
  | 0x21 => doMapopDone tag (bits a 92 4) (bits a 78 14) (bits a 46 32) s
  | 0x28 => doDict tag (slotBytesOf m 1 (bits a 85 11)) s
  | 0x29 => doDictRsp tag (slotBytesOf m 1 (bits a 85 11)) s
  | 0x30 => doReconMsg tag ep page12 (bits a 8 4) (bits b 64 64) s
  | 0x31 => doReconEnd tag (bits a 79 17) (bits a 75 4) s
  | _ => s

/-- The messages in the slots received, each once it is whole; what is left waits for the next flit. A message whose type, VC or
SLOTS does not fit is skipped, with event 0x19E0. The credits of what is consumed or skipped are returned; a message held keeps its
slots (R186). -/
def consumeSlots : Nat → State → List Nat → State
  | 0, s, m => { s with twn := { s.twn with rx := m } }
  | fuel + 1, s, m =>
    match m with
    | [] => { s with twn := { s.twn with rx := [] } }
    | a :: rest =>
      if bits a 122 6 = 0 then consumeSlots fuel s rest
      else
        let n := max 1 (bits a 111 9)
        if m.length < n then { s with twn := { s.twn with rx := m } }
        else
          let one := m.take n
          let vc := bits a 120 2
          let t :=
            if msgShape s a (one.getD 1 0) = some (vc, bits a 111 9) then
              let u := consume s one
              if s.twn.heldMsgs.length < u.twn.heldMsgs.length then u else freeSlots u vc n
            else freeSlots (raise s 0x19E0 [bits a 122 6, vc, bits a 111 9]) vc n
          consumeSlots fuel t (m.drop n)

/-! ## Flits -/

/-- What a header's ACKSEQ and NAK say of this side's flits: those acknowledged leave the replay buffer, and what waited for room in
it goes on. -/
def ackIn (s : State) (ack : Nat) (nak : Bool) : State :=
  let t : State := if ack = s.twn.peerAck then s else { s with twn := { s.twn with peerAck := ack, replays := 0 } }
  let t := pump (dropAcked t ack)
  if nak then replayAsked t else t

/-- A header returns credits of a VC: what waited for them leaves (R186). -/
def creditsIn (s : State) (vc n : Nat) : State :=
  releaseTx { s with twn := { s.twn with flits := true, used := s.twn.used.set vc (s.twn.used.getD vc 0 - n) } }

/-- A DATA flit out of order, or whose CRC fails, is discarded; at the first of a gap NAK leaves at once (R185). -/
def flitLost (s : State) : State :=
  if s.twn.nakAt.isSome ∨ s.twn.link ≠ 1 then s
  else idleFlit { s with twn := { s.twn with nakOut := true, nakAt := some s.now } }

/-- A flit of 512 bytes. -/
def flitIn (s : State) (f : List Nat) : State :=
  let h := fld f 0 8
  let typ := bits h 60 4
  if crc64 (f.take 504) ≠ fld f 504 8 ∨ 2 < typ then
    let t := s.bump C.TWN_CRCERR
    if typ = 1 then flitLost t else t
  else
    let t := creditsIn (ackIn (s.bump C.TWN_FLITRX) (bits h 36 12) (bit h 35)) (bits h 33 2) (bits h 19 14)
    if typ ≠ 1 ∨ !visilUp t then t
    else if bits h 48 12 ≠ (t.twn.ackseq + 1) % 4096 then flitLost t
    else
      let t : State := { t with twn := { t.twn with ackseq := bits h 48 12, nakOut := false, nakAt := none } }
      let slots := (List.range 31).map (fun k => fld f (8 + 16 * k) 16)
      let all := t.twn.rx ++ slots
      consumeSlots (all.length + 1) t all

/-- FLIT_RECEIVED (R184, R185). -/
def doFlitReceived (bytes : List (BitVec 8)) (s : State) : State :=
  if visilUp s ∧ bytes.length = 512 then flitIn s (bytes.map (·.toNat)) else s

def execFlitReceived (bytes : List (BitVec 8)) (s : State) : Out3 := .next (doFlitReceived bytes s)

end Sys2Proof.Machine
end

