-- ==== Sys2Proof/Machine/Recording.lean ====
section
/-! DEFINITION. The meanings of the event recorder's and the stud book's commands (R436 to R441). -/

namespace Sys2Proof.Machine

/-! ## Events (R438, R439, R455) -/

/-- The instances of each kind that has more than one (the chapters' event tables). -/
def kindInstances : List (Nat × Nat) :=
  [(35, 4), (64, 4), (65, 4), (66, 4), (71, 4), (96, 16), (97, 16), (98, 16), (128, 4), (129, 4), (130, 4), (131, 4),
   (132, 4), (133, 4), (134, 4), (135, 4), (136, 4), (160, 4), (165, 16), (193, 20), (194, 20), (206, 2)] ++
  [(225, 4), (257, 8), (260, 8), (320, 8), (321, 8), (326, 8), (352, 16), (353, 16), (354, 16), (355, 16), (356, 16),
   (357, 16), (416, 32), (417, 32), (418, 32), (419, 32), (480, 24), (512, 8), (610, 8), (611, 8), (708, 32), (768, 5), (769, 4)]

/-- Is an event code one that the tables list (R455)? The others serve no code and raise nothing. -/
def assigned (code : Nat) : Bool :=
  (kindSeverities.lookup (code / 32)).isSome && decide (code % 32 < (kindInstances.lookup (code / 32)).getD 1)

/-- EVENT_RAISED (R438): an occurrence of a code, with its payload. -/
def doEventRaised (code : Nat) (payload : List Nat) (s : State) : State :=
  if awake s ∧ assigned code then raise s code payload else s

def execEventRaised (code : Nat) (payload : List Nat) (s : State) : Out3 := .next (doEventRaised code payload s)

/-- SUMMARY_RECORD (R439): suppressed occurrences, no record for 1 s, and a token. -/
def doSummaryRecord (code : Nat) (s : State) : State :=
  if awake s ∧ 0 < s.recd.suppressed.get code 0 ∧ 1000000 ≤ s.since (s.recd.lastRec.get code 0) ∧ hasToken s code then
    let t := record s code [] true [] (severity code)
    if t.recd.studLost = s.recd.studLost then t else occur t 0x5020 [t.recd.studLost] []
  else s

def execSummaryRecord (code : Nat) (s : State) : Out3 := .next (doSummaryRecord code s)

/-! ## The stud book (R440, R441) -/

/-- STB_NEXT and the two positions; NEXT 0 until the scan. -/
def studNext (s : State) : Nat := s.rd64 R.STB_NEXTL R.STB_NEXTH
def studPos (s : State) (copy : Nat) : Nat := if copy = 0 then s.rd R.STB_POSA else s.rd R.STB_POSB
def setStudPos (s : State) (copy off : Nat) : State := if copy = 0 then s.wr R.STB_POSA off else s.wr R.STB_POSB off

/-- The offset of the slot that follows, around a copy. -/
def studAfter (s : State) (copy off : Nat) : Nat :=
  studBase s copy + (off - studBase s copy + 64) % (64 * studSlots s)

/-- The bytes of a keeper sector. -/
def sectorBytes (s : State) : Nat := 2 ^ s.kpf.sfdpSector

/-- The sector that follows the one at `off`, around a copy. -/
def nextSector (s : State) (copy off : Nat) : Nat :=
  let n := sectorBytes s
  studBase s copy + ((off - studBase s copy) / n * n + n) % (64 * studSlots s)

/-- Does a scan of one copy find the slot after its highest entry torn? Position, and the torn slot's offset. -/
def scanCopy (s : State) (copy : Nat) : Nat × Option Nat :=
  let first := match studHighest s copy with
    | some (slot, _) => studAfter s copy (studOff s copy slot)
    | none => studBase s copy
  let slot := (first - studBase s copy) / 64
  if !studErased s copy slot && !studValid s copy slot then (studAfter s copy first, some first) else (first, none)

/-- STUDBOOK_SCAN (R441): the highest STBSEQ h; a torn slot behind it is skipped, and the next entry is h + 2. -/
def doStudbookScan (s : State) : State :=
  if awake s ∧ s.running 3 ∧ studNext s = 0 then
    let h := max ((studHighest s 0).map (·.2) |>.getD 0) ((studHighest s 1).map (·.2) |>.getD 0)
    let a := scanCopy s 0
    let b := scanCopy s 1
    let torn := a.2.isSome || b.2.isSome
    let t := setStudPos (setStudPos s 0 a.1) 1 b.1
    let t := t.wr64 R.STB_NEXTL R.STB_NEXTH (h + (if torn then 2 else 1))
    let t := match a.2 with | some o => raise t 0x5000 [0, o, h + 1] | none => t
    match b.2 with | some o => raise t 0x5000 [1, o, h + 1] | none => t
  else s

def execStudbookScan (s : State) : Out3 := .next (doStudbookScan s)

/-- STUDBOOK_APPEND (R440): the oldest queued entry goes to copy A, then to copy B; where it enters a sector, the erase of the
next one begins. -/
def doStudbookAppend (s : State) : State :=
  match s.recd.studQ with
  | [] => s
  | e :: rest =>
    if awake s ∧ s.running 3 ∧ !s.kpf.erasing ∧ studNext s ≠ 0 then
      let bs := studBytes e (studNext s)
      let a := studPos s 0
      let b := studPos s 1
      let t := kprog (kprog s a bs) b bs
      let enters := decide ((a - studBase s 0) % sectorBytes s = 0) || decide ((b - studBase s 1) % sectorBytes s = 0)
      let t : State := { t with recd := { t.recd with studQ := rest }, kpf := { t.kpf with erasing := enters } }
      let t := setStudPos (setStudPos t 0 (studAfter s 0 a)) 1 (studAfter s 1 b)
      t.wr64 R.STB_NEXTL R.STB_NEXTH (studNext s + 1)
    else s

def execStudbookAppend (s : State) : Out3 := .next (doStudbookAppend s)

/-- STUDBOOK_SECTOR_ERASE_DONE (R440): the sectors ahead of both positions are erased. -/
def doStudbookSectorEraseDone (s : State) : State :=
  if s.kpf.erasing then
    let n := sectorBytes s
    let last := fun c => studBase s c + (studPos s c - studBase s c + 64 * studSlots s - 64) % (64 * studSlots s)
    let t := kerase (kerase s (nextSector s 0 (last 0)) n) (nextSector s 1 (last 1)) n
    { t with kpf := { t.kpf with erasing := false } }
  else s

def execStudbookSectorEraseDone (s : State) : Out3 := .next (doStudbookSectorEraseDone s)

end Sys2Proof.Machine
end

