-- ==== Sys2Proof/Machine/Requester.lean ====
section
/-! DEFINITION. The meanings of what the storage nodes answer to the millstones' requester QPs (R144 to R146, R296, R297). -/

namespace Sys2Proof.Machine

/-- The last PSN of an operation that has begun. -/
def Rop.lastPsn (o : Rop) : Option Nat := o.first.map (fun f => (f + o.total - 1) % 2 ^ 24)

/-- The operations at the front that an acknowledgement of `psn` completes: a READ only by the response that ends at `psn`. -/
def ackedOps (psn : Nat) : List Rop → List Rop
  | [] => []
  | o :: os =>
    match o.lastPsn with
    | none => []
    | some l => if psnLe l psn ∧ o.sent = o.packets ∧ (o.kind ≠ 0 ∨ l = psn) then o :: ackedOps psn os else []

/-- REQUESTER_ACK_RECEIVED (R145, R296): the acknowledgement of `psn`, or the READ response that ends there with its data. -/
def doRequesterAckReceived (i : Fin 16384) (psn : Nat) (data : List Nat) (s : State) : State :=
  if !awake s then s
  else
    let q := rqAt s i
    if q.qstate ≠ 3 ∨ q.outpkt = 0 ∨ !psnLe q.upsn psn ∨ !psnLe psn ((q.spsn + 2 ^ 24 - 1) % 2 ^ 24) then s
    else
      let gone := ackedOps psn q.ops
      let rest := q.ops.drop gone.length
      let up := match rest.head? with
        | some o => match o.kind, o.first with
          | 0, some f => if psnLe f psn then f else (psn + 1) % 2 ^ 24
          | _, _ => (psn + 1) % 2 ^ 24
        | none => (psn + 1) % 2 ^ 24
      if up = q.upsn then s
      else
        let q' := rqCount { q with ops := rest, upsn := up, retries := 0, rnrused := 0, rtocur := s.rd R.XPT_RTO_RTOINIT 0 (rqPipe q) }
        let t := gone.foldl (fun u o => netDone u o (if o.lastPsn = some psn then data else [])) (setRq s i q')
        showMst (rqPump 256 i t)

def execRequesterAckReceived (i : Fin 16384) (psn : Nat) (data : List Nat) (s : State) : Out3 := .next (doRequesterAckReceived i psn data s)

/-- A resend from UPSN, through the egress as every packet of the millstones (R121). -/
def rqResend (s : State) (i : Nat) : State :=
  let q := rqAt s i
  if portUp s q.lport then txPacket s q.lport 2 (0x80000 + i) (.resend (0x80000 + i) q.upsn) else s

/-- One retry more, or the retry limit (R145): event 0x1080 + p. -/
def rqRetry (s : State) (i : Nat) (double : Bool) : State :=
  let q := rqAt s i
  if q.retries < s.rd R.XPT_RTO_RETRY 0 (rqPipe q) then
    rqResend (setRq (s.bump C.XPT_REQRETRY 1 0 (rqPipe q)) i { q with retries := q.retries + 1, rtocur := if double then min (2 * q.rtocur) (2 ^ 26 - 1) else q.rtocur }) i
  else showMst (rqError (raise s (0x1080 + rqPipe q) [0x80000 + i, q.upsn, q.retries]) i 0)

/-- REQUESTER_TIMEOUT (R145). -/
def doRequesterTimeout (i : Fin 16384) (s : State) : State :=
  let q := rqAt s i
  if !awake s ∨ q.qstate ≠ 3 ∨ q.outpkt = 0 then s else rqRetry s i true

def execRequesterTimeout (i : Fin 16384) (s : State) : Out3 := .next (doRequesterTimeout i s)

/-- REQUESTER_NAK_RECEIVED (R145, R146): a sequence error (0x60) counts as one retry; the others end the QP with event
0x10A0 + p. -/
def doRequesterNakReceived (i : Fin 16384) (psn syndrome : Nat) (s : State) : State :=
  let q := rqAt s i
  if !awake s ∨ q.qstate ≠ 3 ∨ q.outpkt = 0 then s
  else if syndrome = 0x60 then rqRetry s i false
  else showMst (rqError (raise s (0x10A0 + rqPipe q) [0x80000 + i.val, psn, syndrome]) i syndrome)

def execRequesterNakReceived (i : Fin 16384) (psn syndrome : Nat) (s : State) : Out3 := .next (doRequesterNakReceived i psn syndrome s)

/-- REQUESTER_RNR_NAK (R146): the wait of the timer code begins; RNRRETRY 7 has no limit. What follows once RNRRETRY is used up is
nowhere stated: the QP goes to ERROR and event 0x1080 + p tells the RNR count, as for RETRY (log entry 165). -/
def doRequesterRnrNak (i : Fin 16384) (s : State) : State :=
  let q := rqAt s i
  let lim := s.rd R.XPT_RTO_RNRRETRY 0 (rqPipe q)
  if !awake s ∨ q.qstate ≠ 3 ∨ q.outpkt = 0 then s
  else if lim = 7 then setRq s i { q with rnrWait := true }
  else if q.rnrused < lim then setRq s i { q with rnrWait := true, rnrused := q.rnrused + 1 }
  else showMst (rqError (raise s (0x1080 + rqPipe q) [0x80000 + i.val, q.upsn, q.rnrused]) i 0)

def execRequesterRnrNak (i : Fin 16384) (s : State) : Out3 := .next (doRequesterRnrNak i s)

/-- REQUESTER_RNR_WAIT_END (R146). -/
def doRequesterRnrWaitEnd (i : Fin 16384) (s : State) : State :=
  let q := rqAt s i
  if !awake s ∨ q.qstate ≠ 3 ∨ !q.rnrWait then s
  else showMst (rqPump 256 i (rqResend (setRq s i { q with rnrWait := false }) i))

def execRequesterRnrWaitEnd (i : Fin 16384) (s : State) : Out3 := .next (doRequesterRnrWaitEnd i s)

/-- REQUESTER_CNP (R144): rate × (256 − CUT) / 256, at least 1 Gb/s, at most one cut per NPINTV. -/
def doRequesterCnp (i : Fin 16384) (s : State) : State :=
  let q := rqAt s i
  let p := rqPipe q
  let due := match q.lastCut with
    | none => true
    | some t => decide (s.rd R.XPT_CNP_NPINTV 0 p ≤ s.now - t)
  if !awake s ∨ q.qstate ≠ 3 then s
  else
    let s := s.bump C.XPT_CNPRX 1 0 p
    if !due then s
    else setRq s i { q with rate := max 10 (q.rate * (256 - s.rd R.XPT_RP_CUT 0 p) / 256), lastCut := some s.now }

def execRequesterCnp (i : Fin 16384) (s : State) : Out3 := .next (doRequesterCnp i s)

/-- REQUESTER_RATE_RISE (R144): RAI more, up to the logical port's rate of 100 Gb/s per lane. -/
def doRequesterRateRise (i : Fin 16384) (s : State) : State :=
  let q := rqAt s i
  let p := rqPipe q
  if !awake s ∨ q.qstate ≠ 3 then s
  else setRq s i { q with rate := max q.rate (min (1000 * s.prt.lanes.get q.lport 0) (q.rate + 10 * s.rd R.XPT_RP_RAI 0 p)) }

def execRequesterRateRise (i : Fin 16384) (s : State) : Out3 := .next (doRequesterRateRise i s)

end Sys2Proof.Machine
end

