-- ==== Sys2Proof/Machine/Service.lean ====
section
/-! DEFINITION. The service port and its operations (R442, R443, R445), and the expiry of half-open sessions. -/

namespace Sys2Proof.Machine

/-! ## Frames (R442) -/

def svcOp (f : List Nat) : Nat := f.getD 1 0
def svcSeq (f : List Nat) : Nat := fld f 4 4
def svcLen (f : List Nat) : Nat := fld f 8 4
def svcBody (f : List Nat) : List Nat := (f.drop 16).take (svcLen f)
def svcTag (f : List Nat) : List Nat := (f.drop (16 + svcLen f)).take 16

/-- A frame that R442 does not lay out. -/
def svcBad (f : List Nat) : Bool :=
  decide (f.length < 32) || decide (f.getD 0 0 ≠ 0x10) || decide (fld f 2 2 ≠ 0) || decide (65536 < svcLen f) ||
  decide (f.length ≠ 32 + svcLen f) || f.any (fun b => decide (255 < b))

/-- A response frame, with its tag under `key`, or zero without one. -/
def svcFrame (key : List Nat) (op seq status : Nat) (body : List Nat) : List Nat :=
  sealFrame key ([0x10, op, 0, 0] ++ beBytes seq 4 ++ beBytes body.length 4 ++ beBytes status 4) body

/-- A frame leaves on endpoint 0x81. -/
def svcSend (s : State) (f : List Nat) : State := s.emit (.svc f)

/-- Does the port carry frames: powered, enabled, configured by a host? -/
def svcUp (s : State) : Bool :=
  awake s && !s.rst.held && s.on R.SVC_CFG_ENABLE && s.on R.SVC_STAT_CONFIGURED && !s.on R.BLKSTAT_ISOLATED 0 10

/-- SVC_STAT.SESSION shows the session. -/
def showSvc (s : State) : State :=
  s.wr R.SVC_STAT_SESSION (match s.svc.session with | some x => b2n x.isOpen | none => 0)

/-- The session ends (event 0x5E20 if it was open). `why`: 0 close, 1 timeout, 2 detach, 4 sequence exhausted. -/
def svcEnd (s : State) (why : Nat) : State :=
  match s.svc.session with
  | none => s
  | some x =>
    let t := showSvc { s with svc := { s.svc with session := none } }
    if x.isOpen then raise t 0x5E20 [Config.payloadCode 0x5E20 why] else t

/-- The response to an accepted request: sealed, kept and sent. -/
def svcRespond (s : State) (x : Session) (f : List Nat) (status : Nat) (body : List Nat) : State :=
  let resp := svcFrame x.key (svcOp f) (svcSeq f) status body
  let t := tagBlocks s (16 + body.length)
  let t : State := { t with svc := { t.svc with session := some { x with
    lastSeq := svcSeq f, lastTag := svcTag f, lastResp := resp, lastTime := s.now } } }
  let t := svcSend t resp
  if svcSeq f = 0xFFFFFFFF then svcEnd t 4 else t

/-! ## Opening (R49, R50 as R443 takes them over) -/

/-- OPEN: the service key, one session, and the lockout after failed PROVEs (path 4). -/
def svcOpen (s : State) (f : List Nat) : State :=
  let body := svcBody f
  if body.length ≠ 20 then svcSend s (svcFrame [] 1 (svcSeq f) stTooLong [])
  else
    match roleKey s 3 with
    | none => svcSend s (svcFrame [] 1 (svcSeq f) stSession [])
    | some k =>
      if s.svc.session.isSome ∨ bit s.dic.locked 4 then svcSend s (svcFrame [] 1 (svcSeq f) stSession [])
      else
        let n := Config.sessionId s.dic.opens % 65535 + 1
        let nm := (body.drop 4).take 16
        let nd := drawBytes s 16
        let x : Session := { path := 4, role := 3, nm, nd, key := sessionKey k "TLAXA-SK" nm nd n, lastTime := s.now }
        let t := tagBlocks (drawn s) 48
        let t : State := { t with svc := { t.svc with session := some x, sessId := n }, dic := { t.dic with opens := t.dic.opens + 1 } }
        svcSend t (svcFrame [] 2 (svcSeq f) stOk nd)

/-- A failed PROVE frees the session; four within 1 s lock the port for 1 s. -/
def svcProveFailed (s : State) : State :=
  let recent := s.now :: (s.dic.fails.get 4 []).filter (fun t => decide (s.now - t < 1000000))
  let lock := decide (4 ≤ recent.length)
  let t := countFrame s 2
  let t : State := { t with
    svc := { t.svc with session := none }
    dic := { t.dic with
      fails := t.dic.fails.ins 4 (if lock then [] else recent)
      locked := if lock then bitSet t.dic.locked 4 else t.dic.locked } }
  raise (raise t 0x5E40 []) 0x6004 [s.svc.sessId, 3]

/-- PROVE of the half-open session. -/
def svcProve (s : State) (x : Session) (f : List Nat) : State :=
  let t := tagBlocks s (16 + svcLen f)
  if svcTag f ≠ Crypto.cmac x.key (f.take (16 + svcLen f)) ∨ svcLen f ≠ 0 then svcProveFailed t
  else if svcSeq f ≠ 1 then svcSend t (svcFrame x.key 3 (svcSeq f) stSequence (beBytes 0 4))
  else
    let resp := svcFrame x.key 4 1 stOk (beBytes 60 4)
    let t := tagBlocks t 20
    let t := showSvc { t with svc := { t.svc with session := some { x with
      isOpen := true, lastSeq := 1, lastTag := svcTag f, lastResp := resp, lastTime := s.now } } }
    svcSend (raise t 0x5E00 [t.svc.sessId]) resp

/-- A request of operation `op` in the open session: its tag and sequence (R50, R51), then its action, which answers a status and a
body and may change the device, and what follows the answer. -/
def svcRequest (s : State) (op : Nat) (f : List Nat) (action : State → List Nat → State × Nat × List Nat)
    (follows : State → State := fun t => t) : State :=
  if !svcUp s ∨ svcBad f ∨ svcOp f ≠ op then s
  else
    match s.svc.session with
    | none => svcSend s (svcFrame [] op (svcSeq f) stSession [])
    | some x =>
      if !x.isOpen then svcSend s (svcFrame [] op (svcSeq f) stSession [])
      else
        let t := tagBlocks s (16 + svcLen f)
        if svcTag f ≠ Crypto.cmac x.key (f.take (16 + svcLen f)) then countFrame t 2
        else
          let x := { x with lastTime := s.now }
          let t : State := { t with svc := { t.svc with session := some x } }
          if svcSeq f = x.lastSeq ∧ svcTag f = x.lastTag then svcSend t x.lastResp
          else if svcSeq f ≠ x.lastSeq + 1 then svcSend t (svcFrame x.key op (svcSeq f) stSequence (beBytes x.lastSeq 4))
          else
            let a := action t (svcBody f)
            follows (svcRespond a.1 x f a.2.1 a.2.2)

/-- SVC_OPEN. -/
def doSvcOpen (frame : List Nat) (s : State) : State :=
  if !svcUp s ∨ svcBad frame ∨ svcOp frame ≠ 1 then s else svcOpen s frame

def execSvcOpen (frame : List Nat) (s : State) : Out3 := .next (doSvcOpen frame s)

/-- SVC_PROVE. -/
def doSvcProve (frame : List Nat) (s : State) : State :=
  if !svcUp s ∨ svcBad frame ∨ svcOp frame ≠ 3 then s
  else
    match s.svc.session with
    | some x => if x.isOpen then svcSend s (svcFrame [] 3 (svcSeq frame) stSession []) else svcProve s x frame
    | none => svcSend s (svcFrame [] 3 (svcSeq frame) stSession [])

def execSvcProve (frame : List Nat) (s : State) : Out3 := .next (doSvcProve frame s)

/-! ## The operations of Table 14.9 -/

/-- The value of an entry as a READ gives it, whatever its type. -/
def entryBytes (s : State) (index sub : Nat) : List Nat :=
  match romRow index sub with
  | none => []
  | some r =>
    match typeLen r.typ with
    | some 32 | none => (readBytes s 0 index sub).getD []
    | some n => beBytes (readNum s 0 false index sub) n

/-- UPD_STAT as a word. -/
def updStat (s : State) : Nat :=
  s.rd R.UPD_STAT_STAGING * 2 ^ 28 + s.rd R.UPD_STAT_REASON * 2 ^ 24 + s.rd R.UPD_STAT_PART * 2 ^ 16 + s.rd R.UPD_STAT_PROGRESS

/-- SVC_IDENT: the entries 0x1000.01 to 0x1000.16 that exist, and UPD_STAT. -/
def doSvcIdent (frame : List Nat) (s : State) : State :=
  svcRequest s 0x10 frame (fun t body =>
    if !body.isEmpty then (t, stTooLong, [])
    else (t, stOk, (List.range 0x16).flatMap (fun k => entryBytes t 0x1000 (k + 1)) ++ beBytes (updStat t) 4))

def execSvcIdent (frame : List Nat) (s : State) : Out3 := .next (doSvcIdent frame s)

/-- Bytes of the staging area. -/
def stagingBytes : Nat := 0xC00000

/-- STAGE_BEGIN: the staging area is erased. -/
def svcBegin (s : State) (body : List Nat) : State × Nat × List Nat :=
  let n := beNat body
  if body.length ≠ 4 then (s, stTooLong, [])
  else if n = 0 ∨ stagingBytes < n then (s, stRange, [])
  else
    let t := kerase s (imageBase 2) stagingBytes
    let t : State := { t with svc := { t.svc with staged := [], stageLen := n } }
    (raise ((t.wr R.UPD_STAT_STAGING 1).wr R.UPD_STAT_PROGRESS 0) 0x5400 [n], stOk, [])

def doStageBegin (frame : List Nat) (s : State) : State := svcRequest s 0x20 frame svcBegin

def execStageBegin (frame : List Nat) (s : State) : Out3 := .next (doStageBegin frame s)

/-- Is the staging area being filled? -/
def receiving (s : State) : Bool := decide (s.rd R.UPD_STAT_STAGING = 1) && decide (s.svc.stageLen ≠ 0)

/-- A staging that ends: nothing is staged any more. -/
def stageOver (s : State) : State := { s with svc := { s.svc with staged := [], stageLen := 0 } }

/-- STAGE_DATA: programs a piece; a byte programmed twice fails the staging (reason 6). -/
def stageData (s : State) (body : List Nat) : State × Nat × List Nat :=
  let off := beNat (body.take 4)
  let data := body.drop 4
  if body.length < 4 then (s, stTooLong, [])
  else if !receiving s then (s, stUnavailable, [])
  else if off % 256 ≠ 0 ∨ s.svc.stageLen < off + data.length then (s, stRange, [])
  else if s.svc.staged.any (fun p => decide (p.1 < off + data.length) && decide (off < p.1 + p.2)) then
    ((stageOver (rejectImage s 6 0)).wr R.UPD_STAT_STAGING 3, stAborted, [])
  else
    let t := kprog s (imageBase 2 + off) data
    let t : State := { t with svc := { t.svc with staged := t.svc.staged ++ [(off, data.length)] } }
    let done := t.svc.staged.foldl (fun a p => a + p.2) 0
    (t.wr R.UPD_STAT_PROGRESS (min 65535 (done * 65536 / t.svc.stageLen)), stOk, [])

def doStageData (frame : List Nat) (s : State) : State := svcRequest s 0x21 frame stageData

def execStageData (frame : List Nat) (s : State) : Out3 := .next (doStageData frame s)

/-- STAGE_END (R445). -/
def stageEnd (s : State) (body : List Nat) : State × Nat × List Nat :=
  let base := imageBase 2
  if !body.isEmpty then (s, stTooLong, [])
  else if !receiving s then (s, stUnavailable, [])
  else
    match imageCheck s base with
    | some (why, part) => ((stageOver (rejectImage s why part)).wr R.UPD_STAT_STAGING 3, stOk, [])
    | none =>
      let t := commitAppend s 0x10 0 0 (kle s (base + 16) 4) (imageVersion s base)
      let t := (stageOver t).wr R.UPD_STAT_STAGING 2
      let v := imageVersion s base
      (raise t 0x5420 [leNat (v.take 4), leNat ((v.drop 4).take 4), leNat ((v.drop 8).take 4)], stOk, [])

def doStageEnd (frame : List Nat) (s : State) : State := svcRequest s 0x22 frame stageEnd

def execStageEnd (frame : List Nat) (s : State) : Out3 := .next (doStageEnd frame s)

/-- STAGE_STATUS: STAGING, the progress, and the last result. -/
def doStageStatus (frame : List Nat) (s : State) : State :=
  svcRequest s 0x23 frame (fun t body =>
    if !body.isEmpty then (t, stTooLong, [])
    else (t, stOk, [t.rd R.UPD_STAT_STAGING] ++ beBytes (t.rd R.UPD_STAT_PROGRESS) 2 ++ [t.rd R.UPD_STAT_REASON]))

def execStageStatus (frame : List Nat) (s : State) : Out3 := .next (doStageStatus frame s)

/-- STUD_READ: copy, first entry, count of at most 1,000. -/
def doStudRead (frame : List Nat) (s : State) : State :=
  svcRequest s 0x30 frame (fun t body =>
    let copy := body.getD 0 0
    let first := fld body 1 4
    let n := fld body 5 2
    if body.length ≠ 7 then (t, stTooLong, [])
    else if 1 < copy ∨ 1000 < n ∨ studSlots t < first + n then (t, stRange, [])
    else (t, stOk, kbytes t (studOff t copy first) (64 * n)))

def execStudRead (frame : List Nat) (s : State) : Out3 := .next (doStudRead frame s)

/-- A byte of the tack room, by its offset from 0x4F00_0000 (Table 12.6). -/
def tackByte (s : State) (o : Nat) : Nat :=
  if o < 0x1000 then (match s.tack.snaps.find? (o / 256) with | some x => (snapBytes x).getD (o % 256) 0 | none => 0)
  else if o < 0x1100 then (match s.tack.hist.find? ((o - 0x1000) / 16) with | some x => (histBytes x).getD (o % 16) 0 | none => 0)
  else if o < 0x10000 then bits (tackWord s (o / 4 * 4)) (o % 4 * 8) 8
  else bits (bkp s ((o - 0x10000) / 4)) (o % 4 * 8) 8

/-- TACK_READ: offset, length of at most 4,096. -/
def doTackRead (frame : List Nat) (s : State) : State :=
  svcRequest s 0x31 frame (fun t body =>
    let off := fld body 0 4
    let n := fld body 4 2
    if body.length ≠ 6 then (t, stTooLong, [])
    else if 4096 < n ∨ 0x10080 < off + n then (t, stRange, [])
    else (t, stOk, (List.range n).map (fun i => tackByte t (off + i))))

def execTackRead (frame : List Nat) (s : State) : Out3 := .next (doTackRead frame s)

/-- EVT_READ: the records still in the ring, from a sequence on, at most 2,000. -/
def doEvtRead (frame : List Nat) (s : State) : State :=
  svcRequest s 0x32 frame (fun t body =>
    let first := fld body 0 8
    let n := fld body 8 2
    if body.length ≠ 10 then (t, stTooLong, [])
    else if 2000 < n then (t, stRange, [])
    else (t, stOk, (t.recd.ring.reverse.filter (fun r => decide (first ≤ r.seq) && decide (r.seq < first + n))).flatMap recordBytes))

def execEvtRead (frame : List Nat) (s : State) : Out3 := .next (doEvtRead frame s)

/-- SVC_RESET: a software reset request of level 4 or 5, which follows the answer. -/
def doSvcReset (frame : List Nat) (s : State) : State :=
  let level := (svcBody frame).getD 0 0
  let whole := decide ((svcBody frame).length = 1)
  let ok := whole && (decide (level = 4) || decide (level = 5))
  svcRequest s 0x40 frame (fun t _ => (t, if ok then stOk else if whole then stRange else stTooLong, []))
    (fun t => if ok then (requestedReset t 4 level 0 true).1 else t)

def execSvcReset (frame : List Nat) (s : State) : Out3 := .next (doSvcReset frame s)

/-- SVC_CLOSE: answered, then the session ends. -/
def doSvcClose (frame : List Nat) (s : State) : State :=
  svcRequest s 0x7F frame (fun t body => (t, if body.isEmpty then stOk else stTooLong, [])) (fun t => svcEnd t 0)

def execSvcClose (frame : List Nat) (s : State) : Out3 := .next (doSvcClose frame s)

/-! ## The port -/

/-- SVC_SESSION_TIMEOUT: 60 s without a valid frame. -/
def doSvcSessionTimeout (s : State) : State :=
  match s.svc.session with
  | some x => if awake s ∧ x.isOpen then svcEnd s 1 else s
  | none => s

def execSvcSessionTimeout (s : State) : Out3 := .next (doSvcSessionTimeout s)

/-- USB_DETACH. -/
def doUsbDetach (s : State) : State :=
  if awake s then svcEnd ((s.wr R.SVC_STAT_VBUS 0).wr R.SVC_STAT_CONFIGURED 0) 2 else s

def execUsbDetach (s : State) : Out3 := .next (doUsbDetach s)

/-- USB_ATTACH: with ENABLE clear the pull-up stays off, and no host configures the port (R442). -/
def doUsbAttach (s : State) : State :=
  if awake s then
    let t := s.wr R.SVC_STAT_VBUS 1
    if t.on R.SVC_CFG_ENABLE then t.wr R.SVC_STAT_CONFIGURED 1 else t
  else s

def execUsbAttach (s : State) : Out3 := .next (doUsbAttach s)

/-- HALF_OPEN_EXPIRY (R49): a half-open session of the dictionary, or the service port's (none), is freed. -/
def doHalfOpenExpiry (session : Option Nat) (s : State) : State :=
  match session with
  | none =>
    (match s.svc.session with
     | some x => if awake s ∧ !x.isOpen then svcEnd s 1 else s
     | none => s)
  | some n =>
    match s.dic.sessions.find? n with
    | some x => if awake s ∧ !x.isOpen then endSession s n 1 else s
    | none => s

def execHalfOpenExpiry (session : Option Nat) (s : State) : Out3 := .next (doHalfOpenExpiry session s)

end Sys2Proof.Machine
end

