-- ==== Sys2Proof/Machine/Dispatch.lean ====
section
/-! DEFINITION. Which meaning each command has: one arm per constructor of Instr. -/

namespace Sys2Proof.Machine

def exec (i : Instr) (s : State) : Host.Outcome State Fault Refusal :=
  match i with
  | .powerOnReset floorLost => Sys2Proof.Machine.execPowerOnReset floorLost s
  | .pwrBtnPress ms => Sys2Proof.Machine.execPwrBtnPress ms s
  | .onRequestCmd => Sys2Proof.Machine.execOnRequestCmd s
  | .offRequestCmd => Sys2Proof.Machine.execOffRequestCmd s
  | .earlyPowerFailWarning pin mv => Sys2Proof.Machine.execEarlyPowerFailWarning pin mv s
  | .inputPowerQualified => Sys2Proof.Machine.execInputPowerQualified s
  | .brownOut rail reading => Sys2Proof.Machine.execBrownOut rail reading s
  | .inputCollapse => Sys2Proof.Machine.execInputCollapse s
  | .mainShaftLoss lockloss shaftloss => Sys2Proof.Machine.execMainShaftLoss lockloss shaftloss s
  | .clockFailure => Sys2Proof.Machine.execClockFailure s
  | .refwaitExpiry => Sys2Proof.Machine.execRefwaitExpiry s
  | .mainShaftLock ref us => Sys2Proof.Machine.execMainShaftLock ref us s
  | .risingTableEnd => Sys2Proof.Machine.execRisingTableEnd s
  | .fallingTableEnd => Sys2Proof.Machine.execFallingTableEnd s
  | .seqEnable => Sys2Proof.Machine.execSeqEnable s
  | .railGoodChange r high => Sys2Proof.Machine.execRailGoodChange r high s
  | .railGoodQualified r => Sys2Proof.Machine.execRailGoodQualified r s
  | .enableTimeout => Sys2Proof.Machine.execEnableTimeout s
  | .seqDisable => Sys2Proof.Machine.execSeqDisable s
  | .disableTimeout => Sys2Proof.Machine.execDisableTimeout s
  | .seqWait => Sys2Proof.Machine.execSeqWait s
  | .seqWaitExpiry => Sys2Proof.Machine.execSeqWaitExpiry s
  | .seqPmbus => Sys2Proof.Machine.execSeqPmbus s
  | .pmbusTransactionDone res => Sys2Proof.Machine.execPmbusTransactionDone res s
  | .seqRstrel => Sys2Proof.Machine.execSeqRstrel s
  | .resetOutputStretchEnd o => Sys2Proof.Machine.execResetOutputStretchEnd o s
  | .seqRstassert => Sys2Proof.Machine.execSeqRstassert s
  | .seqCharger => Sys2Proof.Machine.execSeqCharger s
  | .seqTableCommit => Sys2Proof.Machine.execSeqTableCommit s
  | .pmbusTelemetryPoll reads => Sys2Proof.Machine.execPmbusTelemetryPoll reads s
  | .powerCapMeasurement protectedW => Sys2Proof.Machine.execPowerCapMeasurement protectedW s
  | .marginApply => Sys2Proof.Machine.execMarginApply s
  | .moduleFailed m reading => Sys2Proof.Machine.execModuleFailed m reading s
  | .capacitanceTestStart m => Sys2Proof.Machine.execCapacitanceTestStart m s
  | .capacitanceTestCmd arg => Sys2Proof.Machine.execCapacitanceTestCmd arg s
  | .capacitanceTestEnd v0 v1 => Sys2Proof.Machine.execCapacitanceTestEnd v0 v1 s
  | .pinReset => Sys2Proof.Machine.execPinReset s
  | .softwareResetRequest a cmd => Sys2Proof.Machine.execSoftwareResetRequest a cmd s
  | .debugResetRequest a => Sys2Proof.Machine.execDebugResetRequest a s
  | .wrapperDrainTimeout block forced => Sys2Proof.Machine.execWrapperDrainTimeout block forced s
  | .watchdogKick cores => Sys2Proof.Machine.execWatchdogKick cores s
  | .watchdogHalfTime core => Sys2Proof.Machine.execWatchdogHalfTime core s
  | .watchdogExpiry core => Sys2Proof.Machine.execWatchdogExpiry core s
  | .lockup core cause pc => Sys2Proof.Machine.execLockup core cause pc s
  | .gaitRequest g => Sys2Proof.Machine.execGaitRequest g s
  | .quietPointTake block => Sys2Proof.Machine.execQuietPointTake block s
  | .quietBoundExpiry block => Sys2Proof.Machine.execQuietBoundExpiry block s
  | .gaiRowWord3Write g v => Sys2Proof.Machine.execGaiRowWord3Write g v s
  | .gaitEditFieldWrite sess g k v => Sys2Proof.Machine.execGaitEditFieldWrite sess g k v s
  | .gaitTableCommit sess => Sys2Proof.Machine.execGaitTableCommit sess s
  | .gaitLoadDefaults sess => Sys2Proof.Machine.execGaitLoadDefaults sess s
  | .aidricOpen path src frame => Sys2Proof.Machine.execAidricOpen path src frame s
  | .aidricProve path src frame => Sys2Proof.Machine.execAidricProve path src frame s
  | .aidricRead path src frame => Sys2Proof.Machine.execAidricRead path src frame s
  | .aidricWrite path src frame => Sys2Proof.Machine.execAidricWrite path src frame s
  | .aidricKeepalive path src frame => Sys2Proof.Machine.execAidricKeepalive path src frame s
  | .aidricClose path src frame => Sys2Proof.Machine.execAidricClose path src frame s
  | .halfOpenExpiry session => Sys2Proof.Machine.execHalfOpenExpiry session s
  | .sessionIdleTimeout session => Sys2Proof.Machine.execSessionIdleTimeout session s
  | .pathLockoutEnd path => Sys2Proof.Machine.execPathLockoutEnd path s
  | .dicHandlerAnswer status len => Sys2Proof.Machine.execDicHandlerAnswer status len s
  | .handlerItemTimeout => Sys2Proof.Machine.execHandlerItemTimeout s
  | .dicExtLoad => Sys2Proof.Machine.execDicExtLoad s
  | .dicExtClear => Sys2Proof.Machine.execDicExtClear s
  | .dicSnapshot => Sys2Proof.Machine.execDicSnapshot s
  | .blockSnapshot block => Sys2Proof.Machine.execBlockSnapshot block s
  | .deviceSnapshotCmd => Sys2Proof.Machine.execDeviceSnapshotCmd s
  | .blockGoWrite block go => Sys2Proof.Machine.execBlockGoWrite block go s
  | .groupCommit block => Sys2Proof.Machine.execGroupCommit block s
  | .controlSpaceWrite core addr v => Sys2Proof.Machine.execControlSpaceWrite core addr v s
  | .bitAliasWrite core block off b v => Sys2Proof.Machine.execBitAliasWrite core block off b v s
  | .configSweep => Sys2Proof.Machine.execConfigSweep s
  | .configCommit => Sys2Proof.Machine.execConfigCommit s
  | .cfgrefWrite block ref => Sys2Proof.Machine.execCfgrefWrite block ref s
  | .pcieDoorbell frame => Sys2Proof.Machine.execPcieDoorbell frame s
  | .pcieNtftaken => Sys2Proof.Machine.execPcieNtftaken s
  | .pciePerst asserted => Sys2Proof.Machine.execPciePerst asserted s
  | .pciePowerStateChange d3hot => Sys2Proof.Machine.execPciePowerStateChange d3hot s
  | .mgtArpNsEcho kind addr src vlan => Sys2Proof.Machine.execMgtArpNsEcho kind addr src vlan s
  | .mdioTransaction write phy reg data rdata => Sys2Proof.Machine.execMdioTransaction write phy reg data rdata s
  | .mctpControlMessage tag cmd data => Sys2Proof.Machine.execMctpControlMessage tag cmd data s
  | .registerRegionCmd sess => Sys2Proof.Machine.execRegisterRegionCmd sess s
  | .deregisterCmd sess rkey => Sys2Proof.Machine.execDeregisterCmd sess rkey s
  | .deallocateCmd sess => Sys2Proof.Machine.execDeallocateCmd sess s
  | .regionDrainComplete ix => Sys2Proof.Machine.execRegionDrainComplete ix s
  | .trnUpdate => Sys2Proof.Machine.execTrnUpdate s
  | .trnUpdateComplete => Sys2Proof.Machine.execTrnUpdateComplete s
  | .hopperDeadline => Sys2Proof.Machine.execHopperDeadline s
  | .trnInvalL1 => Sys2Proof.Machine.execTrnInvalL1 s
  | .trnInvalL2 => Sys2Proof.Machine.execTrnInvalL2 s
  | .secondLevelFillReturn e => Sys2Proof.Machine.execSecondLevelFillReturn e s
  | .trnAgeTick => Sys2Proof.Machine.execTrnAgeTick s
  | .packetReceive lport k => Sys2Proof.Machine.execPacketReceive lport k s
  | .contextFetchDone ix => Sys2Proof.Machine.execContextFetchDone ix s
  | .contextFetchTimeout ix byError => Sys2Proof.Machine.execContextFetchTimeout ix byError s
  | .cnpListFetchDone p ix => Sys2Proof.Machine.execCnpListFetchDone p ix s
  | .cnpListEntryTimeout p ix => Sys2Proof.Machine.execCnpListEntryTimeout p ix s
  | .lportMove ix => Sys2Proof.Machine.execLportMove ix s
  | .admitRequest id => Sys2Proof.Machine.execAdmitRequest id s
  | .translateRequest id => Sys2Proof.Machine.execTranslateRequest id s
  | .placeRequest id => Sys2Proof.Machine.execPlaceRequest id s
  | .lineReadDone l err reader => Sys2Proof.Machine.execLineReadDone l err reader s
  | .answerQp ix => Sys2Proof.Machine.execAnswerQp ix s
  | .ackCoalesceDelay ix => Sys2Proof.Machine.execAckCoalesceDelay ix s
  | .reinLoopTick p share => Sys2Proof.Machine.execReinLoopTick p share s
  | .linkUp l => Sys2Proof.Machine.execLinkUp l s
  | .linkDown l cause => Sys2Proof.Machine.execLinkDown l cause s
  | .portRelinkCmd l => Sys2Proof.Machine.execPortRelinkCmd l s
  | .prtRelinkWrite p sub => Sys2Proof.Machine.execPrtRelinkWrite p sub s
  | .prtArpNsEcho l kind addr src => Sys2Proof.Machine.execPrtArpNsEcho l kind addr src s
  | .pfcPauseReceived l prio pause => Sys2Proof.Machine.execPfcPauseReceived l prio pause s
  | .fecAlarm l n => Sys2Proof.Machine.execFecAlarm l n s
  | .requesterAckReceived ix psn data => Sys2Proof.Machine.execRequesterAckReceived ix psn data s
  | .requesterTimeout ix => Sys2Proof.Machine.execRequesterTimeout ix s
  | .requesterNakReceived ix psn syndrome => Sys2Proof.Machine.execRequesterNakReceived ix psn syndrome s
  | .requesterRnrNak ix => Sys2Proof.Machine.execRequesterRnrNak ix s
  | .requesterRnrWaitEnd ix => Sys2Proof.Machine.execRequesterRnrWaitEnd ix s
  | .requesterCnp ix => Sys2Proof.Machine.execRequesterCnp ix s
  | .requesterRateRise ix => Sys2Proof.Machine.execRequesterRateRise ix s
  | .xptQpWrite p => Sys2Proof.Machine.execXptQpWrite p s
  | .xptQpRead p => Sys2Proof.Machine.execXptQpRead p s
  | .xptQpToError p => Sys2Proof.Machine.execXptQpToError p s
  | .xptQpWritebackEvict p => Sys2Proof.Machine.execXptQpWritebackEvict p s
  | .qpInspectToErrorCmd session => Sys2Proof.Machine.execQpInspectToErrorCmd session s
  | .flitReceived bytes => Sys2Proof.Machine.execFlitReceived bytes s
  | .replayTimer => Sys2Proof.Machine.execReplayTimer s
  | .laneFault lane cause => Sys2Proof.Machine.execLaneFault lane cause s
  | .ctrlWidth mask => Sys2Proof.Machine.execCtrlWidth mask s
  | .ctrlWidthAck mask => Sys2Proof.Machine.execCtrlWidthAck mask s
  | .widthSwitch => Sys2Proof.Machine.execWidthSwitch s
  | .laneProbationPassed lane => Sys2Proof.Machine.execLaneProbationPassed lane s
  | .linkSilence => Sys2Proof.Machine.execLinkSilence s
  | .retrainAttemptDone mask => Sys2Proof.Machine.execRetrainAttemptDone mask s
  | .retrainDelayEnd => Sys2Proof.Machine.execRetrainDelayEnd s
  | .heartbeatSilent path => Sys2Proof.Machine.execHeartbeatSilent path s
  | .linkTrainingAttempt => Sys2Proof.Machine.execLinkTrainingAttempt s
  | .linkTrained mask => Sys2Proof.Machine.execLinkTrained mask s
  | .mirrorMsg tag epoch spage off async data => Sys2Proof.Machine.execMirrorMsg tag epoch spage off async data s
  | .forwardMsg tag spage off data => Sys2Proof.Machine.execForwardMsg tag spage off data s
  | .fwdAtomic tag spage line word fadd arg swap => Sys2Proof.Machine.execFwdAtomic tag spage line word fadd arg swap s
  | .orderedMsg tag epoch spage result atomic => Sys2Proof.Machine.execOrderedMsg tag epoch spage result atomic s
  | .placedMsg tag epoch spage status => Sys2Proof.Machine.execPlacedMsg tag epoch spage status s
  | .moveMsg tag extent kind pages => Sys2Proof.Machine.execMoveMsg tag extent kind pages s
  | .movereq tag extent kind pages => Sys2Proof.Machine.execMovereq tag extent kind pages s
  | .tread tag spage line => Sys2Proof.Machine.execTread tag spage line s
  | .treadData tag epoch spage line data => Sys2Proof.Machine.execTreadData tag epoch spage line data s
  | .treadFail tag spage line cause => Sys2Proof.Machine.execTreadFail tag spage line cause s
  | .moveDone tag extent kind result => Sys2Proof.Machine.execMoveDone tag extent kind result s
  | .pagepull tag spage => Sys2Proof.Machine.execPagepull tag spage s
  | .resyncPage tag epoch spage zero fence poison data => Sys2Proof.Machine.execResyncPage tag epoch spage zero fence poison data s
  | .helloMsg tag h => Sys2Proof.Machine.execHelloMsg tag h s
  | .helloAnswer tag decision reason level pairId pgen => Sys2Proof.Machine.execHelloAnswer tag decision reason level pairId pgen s
  | .pendlist tag last pages => Sys2Proof.Machine.execPendlist tag last pages s
  | .stateReady tag pgen => Sys2Proof.Machine.execStateReady tag pgen s
  | .stateSpanreq tag pgen => Sys2Proof.Machine.execStateSpanreq tag pgen s
  | .stateSpanok tag pgen => Sys2Proof.Machine.execStateSpanok tag pgen s
  | .stateSpandone tag pgen => Sys2Proof.Machine.execStateSpandone tag pgen s
  | .depart tag cause => Sys2Proof.Machine.execDepart tag cause s
  | .mapopRegionSet tag index words => Sys2Proof.Machine.execMapopRegionSet tag index words s
  | .mapopExtentSet tag extent words => Sys2Proof.Machine.execMapopExtentSet tag extent words s
  | .mapopDealloc tag extent count => Sys2Proof.Machine.execMapopDealloc tag extent count s
  | .mapopRegreq tag words => Sys2Proof.Machine.execMapopRegreq tag words s
  | .mapopDeregreq tag rkey => Sys2Proof.Machine.execMapopDeregreq tag rkey s
  | .mapopDone tag result index rkey => Sys2Proof.Machine.execMapopDone tag result index rkey s
  | .dict tag frame => Sys2Proof.Machine.execDict tag frame s
  | .dictRsp tag frame => Sys2Proof.Machine.execDictRsp tag frame s
  | .reconMsg tag epoch spage round check => Sys2Proof.Machine.execReconMsg tag epoch spage round check s
  | .reconEnd tag entries round => Sys2Proof.Machine.execReconEnd tag entries round s
  | .catchupPageSend => Sys2Proof.Machine.execCatchupPageSend s
  | .catchupReady => Sys2Proof.Machine.execCatchupReady s
  | .pairwaitExpiry => Sys2Proof.Machine.execPairwaitExpiry s
  | .goSoloCmd => Sys2Proof.Machine.execGoSoloCmd s
  | .spanCmd => Sys2Proof.Machine.execSpanCmd s
  | .leaveCmd => Sys2Proof.Machine.execLeaveCmd s
  | .joinCmd => Sys2Proof.Machine.execJoinCmd s
  | .forceSoloCmd => Sys2Proof.Machine.execForceSoloCmd s
  | .fenceArbitrateCmd session arg => Sys2Proof.Machine.execFenceArbitrateCmd session arg s
  | .tierSFillDone p rd => Sys2Proof.Machine.execTierSFillDone p rd s
  | .parkRoomFreed p => Sys2Proof.Machine.execParkRoomFreed p s
  | .cleanClockStep map p => Sys2Proof.Machine.execCleanClockStep map p s
  | .writebackVerified ref => Sys2Proof.Machine.execWritebackVerified ref s
  | .writebackProgramFailed ref => Sys2Proof.Machine.execWritebackProgramFailed ref s
  | .heatTick => Sys2Proof.Machine.execHeatTick s
  | .poolClockVisit g => Sys2Proof.Machine.execPoolClockVisit g s
  | .tenantWrite ix => Sys2Proof.Machine.execTenantWrite ix s
  | .tenantRead ix => Sys2Proof.Machine.execTenantRead ix s
  | .tenantCommit cmd => Sys2Proof.Machine.execTenantCommit cmd s
  | .quotaRingRebuildDone => Sys2Proof.Machine.execQuotaRingRebuildDone s
  | .tpolCommit => Sys2Proof.Machine.execTpolCommit s
  | .lendCommit cmd reads => Sys2Proof.Machine.execLendCommit cmd reads s
  | .lendRevoke cmd => Sys2Proof.Machine.execLendRevoke cmd s
  | .tierHAccessFail page cause => Sys2Proof.Machine.execTierHAccessFail page cause s
  | .promoteExtentCmd tenant => Sys2Proof.Machine.execPromoteExtentCmd tenant s
  | .removeChargeCmd tenant => Sys2Proof.Machine.execRemoveChargeCmd tenant s
  | .govTick vmod => Sys2Proof.Machine.execGovTick vmod s
  | .energyAtShutres vmod => Sys2Proof.Machine.execEnergyAtShutres vmod s
  | .saveStepComplete n => Sys2Proof.Machine.execSaveStepComplete n s
  | .saveSealed => Sys2Proof.Machine.execSaveSealed s
  | .fillComplete => Sys2Proof.Machine.execFillComplete s
  | .restoreStepComplete n bad => Sys2Proof.Machine.execRestoreStepComplete n bad s
  | .serviceGatePassed => Sys2Proof.Machine.execServiceGatePassed s
  | .serviceGateWaitReport => Sys2Proof.Machine.execServiceGateWaitReport s
  | .retiredImageEraseDone => Sys2Proof.Machine.execRetiredImageEraseDone s
  | .rehearsalStart => Sys2Proof.Machine.execRehearsalStart s
  | .rehearseCmd => Sys2Proof.Machine.execRehearseCmd s
  | .rehearsalDone us => Sys2Proof.Machine.execRehearsalDone us s
  | .jobSubmit j => Sys2Proof.Machine.execJobSubmit j s
  | .jobCancel j => Sys2Proof.Machine.execJobCancel j s
  | .jobRequeue j => Sys2Proof.Machine.execJobRequeue j s
  | .jobCancelCmd sess => Sys2Proof.Machine.execJobCancelCmd sess s
  | .jobRequeueCmd sess => Sys2Proof.Machine.execJobRequeueCmd sess s
  | .jobDispatch => Sys2Proof.Machine.execJobDispatch s
  | .instructionIssue n => Sys2Proof.Machine.execInstructionIssue n s
  | .instructionComplete n slot pc turn rd corr bad => Sys2Proof.Machine.execInstructionComplete n slot pc turn rd corr bad s
  | .stageCommitComplete n slot => Sys2Proof.Machine.execStageCommitComplete n slot s
  | .stageTimeout n slot => Sys2Proof.Machine.execStageTimeout n slot s
  | .waitLimitExpiry n slot => Sys2Proof.Machine.execWaitLimitExpiry n slot s
  | .waitWordPoll n slot => Sys2Proof.Machine.execWaitWordPoll n slot s
  | .completionTake => Sys2Proof.Machine.execCompletionTake s
  | .jobWritePort => Sys2Proof.Machine.execJobWritePort s
  | .mstQpWrite => Sys2Proof.Machine.execMstQpWrite s
  | .mstQpRead => Sys2Proof.Machine.execMstQpRead s
  | .mstQpToError => Sys2Proof.Machine.execMstQpToError s
  | .reqQpInspectToErrorCmd sess => Sys2Proof.Machine.execReqQpInspectToErrorCmd sess s
  | .resumeScan => Sys2Proof.Machine.execResumeScan s
  | .refreshDue c rank busy => Sys2Proof.Machine.execRefreshDue c rank busy s
  | .sidebandRead c t0 t1 osc => Sys2Proof.Machine.execSidebandRead c t0 t1 osc s
  | .rankIdleSelfRefresh c rank => Sys2Proof.Machine.execRankIdleSelfRefresh c rank s
  | .markwinHalve c => Sys2Proof.Machine.execMarkwinHalve c s
  | .trainingOpWrite c => Sys2Proof.Machine.execTrainingOpWrite c s
  | .trainingOpCompare c => Sys2Proof.Machine.execTrainingOpCompare c s
  | .trainingOpMrr c => Sys2Proof.Machine.execTrainingOpMrr c s
  | .trainingOpCaLoopback c => Sys2Proof.Machine.execTrainingOpCaLoopback c s
  | .trainingOpDone c lanes bursts => Sys2Proof.Machine.execTrainingOpDone c lanes bursts s
  | .retrainDone c ok osc delays => Sys2Proof.Machine.execRetrainDone c ok osc delays s
  | .groomBurst c errs => Sys2Proof.Machine.execGroomBurst c errs s
  | .groomRateRecompute => Sys2Proof.Machine.execGroomRateRecompute s
  | .farrierRequest owner res => Sys2Proof.Machine.execFarrierRequest owner res s
  | .farrierRelease owner res => Sys2Proof.Machine.execFarrierRelease owner res s
  | .waitrelExpiry owner => Sys2Proof.Machine.execWaitrelExpiry owner s
  | .retrygapExpiry owner => Sys2Proof.Machine.execRetrygapExpiry owner s
  | .storeRead ch rd => Sys2Proof.Machine.execStoreRead ch rd s
  | .storeReadRaw ch => Sys2Proof.Machine.execStoreReadRaw ch s
  | .storeReadMeta ch rd => Sys2Proof.Machine.execStoreReadMeta ch rd s
  | .storeParam ch page => Sys2Proof.Machine.execStoreParam ch page s
  | .storeErase fw k => Sys2Proof.Machine.execStoreErase fw k s
  | .storeRetire fw ch die block cause => Sys2Proof.Machine.execStoreRetire fw ch die block cause s
  | .storeCleanWrite => Sys2Proof.Machine.execStoreCleanWrite s
  | .storeRelocate rd => Sys2Proof.Machine.execStoreRelocate rd s
  | .storeSaveWrite => Sys2Proof.Machine.execStoreSaveWrite s
  | .storeSealWrite a => Sys2Proof.Machine.execStoreSealWrite a s
  | .storePatrolRead ch rd => Sys2Proof.Machine.execStorePatrolRead ch rd s
  | .stfFwtailWrite ch tail => Sys2Proof.Machine.execStfFwtailWrite ch tail s
  | .rowStripewaitExpiry => Sys2Proof.Machine.execRowStripewaitExpiry s
  | .wordlineVerified => Sys2Proof.Machine.execWordlineVerified s
  | .eraseVerified k => Sys2Proof.Machine.execEraseVerified k s
  | .eraseVerifyFailed k ch => Sys2Proof.Machine.execEraseVerifyFailed k ch s
  | .operationResume ch die => Sys2Proof.Machine.execOperationResume ch die s
  | .dieFailed ch die => Sys2Proof.Machine.execDieFailed ch die s
  | .superblockOpen k bad => Sys2Proof.Machine.execSuperblockOpen k bad s
  | .reclaimStart => Sys2Proof.Machine.execReclaimStart s
  | .stfStartWalk => Sys2Proof.Machine.execStfStartWalk s
  | .validCountWalkDone => Sys2Proof.Machine.execValidCountWalkDone s
  | .patrolPace ch => Sys2Proof.Machine.execPatrolPace ch s
  | .keeperRead => Sys2Proof.Machine.execKeeperRead s
  | .keeperProgram => Sys2Proof.Machine.execKeeperProgram s
  | .keeperErase => Sys2Proof.Machine.execKeeperErase s
  | .keeperOpDone ok => Sys2Proof.Machine.execKeeperOpDone ok s
  | .kpfCompletionTake => Sys2Proof.Machine.execKpfCompletionTake s
  | .xipFetchMiss line => Sys2Proof.Machine.execXipFetchMiss line s
  | .sampleRound temps volts => Sys2Proof.Machine.execSampleRound temps volts s
  | .calRunStart trained => Sys2Proof.Machine.execCalRunStart trained s
  | .calCmdRun => Sys2Proof.Machine.execCalCmdRun s
  | .calRunNowCmd => Sys2Proof.Machine.execCalRunNowCmd s
  | .calCmdRegenerate => Sys2Proof.Machine.execCalCmdRegenerate s
  | .calCmdReload => Sys2Proof.Machine.execCalCmdReload s
  | .calRunCommit => Sys2Proof.Machine.execCalRunCommit s
  | .checkpointDue => Sys2Proof.Machine.execCheckpointDue s
  | .checkpointGo => Sys2Proof.Machine.execCheckpointGo s
  | .checkpointMiss => Sys2Proof.Machine.execCheckpointMiss s
  | .aliveWrite => Sys2Proof.Machine.execAliveWrite s
  | .takeoverFailure late => Sys2Proof.Machine.execTakeoverFailure late s
  | .returnCmd => Sys2Proof.Machine.execReturnCmd s
  | .clearCmd c => Sys2Proof.Machine.execClearCmd c s
  | .evtAckWrite n seq => Sys2Proof.Machine.execEvtAckWrite n seq s
  | .cpxRingtailWrite index tail => Sys2Proof.Machine.execCpxRingtailWrite index tail s
  | .eventRaised code payload => Sys2Proof.Machine.execEventRaised code payload s
  | .summaryRecord code => Sys2Proof.Machine.execSummaryRecord code s
  | .studbookAppend => Sys2Proof.Machine.execStudbookAppend s
  | .studbookScan => Sys2Proof.Machine.execStudbookScan s
  | .svcOpen frame => Sys2Proof.Machine.execSvcOpen frame s
  | .svcProve frame => Sys2Proof.Machine.execSvcProve frame s
  | .svcIdent frame => Sys2Proof.Machine.execSvcIdent frame s
  | .stageBegin frame => Sys2Proof.Machine.execStageBegin frame s
  | .stageData frame => Sys2Proof.Machine.execStageData frame s
  | .stageEnd frame => Sys2Proof.Machine.execStageEnd frame s
  | .stageStatus frame => Sys2Proof.Machine.execStageStatus frame s
  | .studRead frame => Sys2Proof.Machine.execStudRead frame s
  | .tackRead frame => Sys2Proof.Machine.execTackRead frame s
  | .evtRead frame => Sys2Proof.Machine.execEvtRead frame s
  | .svcReset frame => Sys2Proof.Machine.execSvcReset frame s
  | .svcClose frame => Sys2Proof.Machine.execSvcClose frame s
  | .svcSessionTimeout => Sys2Proof.Machine.execSvcSessionTimeout s
  | .usbDetach => Sys2Proof.Machine.execUsbDetach s
  | .cancelStaging => Sys2Proof.Machine.execCancelStaging s
  | .cancelStagingCmd => Sys2Proof.Machine.execCancelStagingCmd s
  | .keyLoadCmd sess => Sys2Proof.Machine.execKeyLoadCmd sess s
  | .keyEncrypt => Sys2Proof.Machine.execKeyEncrypt s
  | .keyDecrypt => Sys2Proof.Machine.execKeyDecrypt s
  | .keyCmac => Sys2Proof.Machine.execKeyCmac s
  | .keyDerive => Sys2Proof.Machine.execKeyDerive s
  | .keyLoad => Sys2Proof.Machine.execKeyLoad s
  | .keyRandom => Sys2Proof.Machine.execKeyRandom s
  | .keyClear => Sys2Proof.Machine.execKeyClear s
  | .keyQueueTake => Sys2Proof.Machine.execKeyQueueTake s
  | .drbgHealthFail test => Sys2Proof.Machine.execDrbgHealthFail test s
  | .drbgReseed => Sys2Proof.Machine.execDrbgReseed s
  | .debugUnlock tag => Sys2Proof.Machine.execDebugUnlock tag s
  | .retireSuperblockMemberCmd sess ch => Sys2Proof.Machine.execRetireSuperblockMemberCmd sess ch s
  | .heartbeatResumed path => Sys2Proof.Machine.execHeartbeatResumed path s
  | .widengapExpiry => Sys2Proof.Machine.execWidengapExpiry s
  | .pcieLinkStateChange up speed width => Sys2Proof.Machine.execPcieLinkStateChange up speed width s
  | .mgtLinkStatusChange up full speed => Sys2Proof.Machine.execMgtLinkStatusChange up full speed s
  | .usbAttach => Sys2Proof.Machine.execUsbAttach s
  | .rowIdleClose c bank => Sys2Proof.Machine.execRowIdleClose c bank s
  | .eresminExpiry ch die => Sys2Proof.Machine.execEresminExpiry ch die s
  | .studbookSectorEraseDone => Sys2Proof.Machine.execStudbookSectorEraseDone s
  | .machineTimerExpiry core => Sys2Proof.Machine.execMachineTimerExpiry core s
  | .savePathReady => Sys2Proof.Machine.execSavePathReady s

end Sys2Proof.Machine
end

