-- ==== Sys2Proof/Machine/ControlRead.lean ====
section
/-! DEFINITION. What the cores of the ACTIVE cluster read: a function of the state, for no control-space read changes it (R57, R66 to R68,
R423, R425, R436, R437), and the function that a PCIe host reads (Table 2.20). -/

namespace Sys2Proof.Machine

/-! ## Interrupt sources (R425, Table 14.2) -/

/-- Is interrupt source `n` asserted for core `core`? -/
def sourceUp (s : State) (core n : Nat) : Bool :=
  if 1 ≤ n ∧ n ≤ 32 then decide (s.rd64 R.EVT_ACKL R.EVT_ACKH (n - 1) < s.recd.line.get n 0)
  else if n = 33 then !s.mst.ring.isEmpty
  else if n = 34 then !s.cpx.cmRing.isEmpty
  else if n = 35 then (List.range 8192).any (fun w => decide (s.rd R.CPX_DOORBELL w ≠ 0))
  else if n = 36 then !s.dic.hq.isEmpty
  else if n = 37 then !s.twn.mapq.isEmpty
  else if n = 38 then s.on R.KPF_QSTAT_VALID
  else if n = 39 then bit s.cpx.wdHalf core
  else if n = 40 then s.cpx.ckDue.isSome
  else false

/-- Priority of a source, and whether core `core`'s context enables it. -/
def sourcePri (s : State) (n : Nat) : Nat := s.cpx.plic.get (4 * n) 0
def sourceOn (s : State) (core n : Nat) : Bool := bit (s.cpx.plic.get (0x2000 + 0x80 * core + n / 32 * 4) 0) (n % 32)

/-- The source that a claim by core `core` reads: of those asserted, enabled and above its threshold the one of highest priority, the lowest
number among equals; 0 none. -/
def claim (s : State) (core : Nat) : Nat :=
  let th := s.cpx.plic.get (0x200000 + 0x1000 * core) 0
  (List.range 64).foldl (fun b n =>
    if sourceUp s core n ∧ sourceOn s core n ∧ th < sourcePri s n ∧ (b = 0 ∨ sourcePri s b < sourcePri s n) then n else b) 0

/-- Is the external interrupt of core `core` asserted? -/
def coreIrq (s : State) (core : Nat) : Bool := decide (claim s core ≠ 0)

/-- A word of the interrupt controller. -/
def plicRead (s : State) (core off : Nat) : Nat :=
  if 0x1000 ≤ off ∧ off < 0x1008 then
    (List.range 32).foldl (fun a b => a + b2n (sourceUp s core (8 * (off - 0x1000) + b)) * 2 ^ b) 0
  else if 0x200000 ≤ off ∧ off < 0x204000 ∧ off % 0x1000 = 4 then claim s ((off - 0x200000) / 0x1000)
  else s.cpx.plic.get off 0

/-! ## Block windows -/

/-- EVT_OLDEST: S while the ring is empty, else max(S, HEAD - 16,383) (R437). -/
def oldest (s : State) : Nat := max s.recd.start (s.recd.head - 16383)

/-- A field as a control-space read shows it: registers that follow other state are read from it. -/
def fieldShown (s : State) (F : Fld) (i b : Nat) : Nat :=
  if F.acc = .wo then 0
  else if F.same R.EVT_HEADL then s.recd.head % 2 ^ 32
  else if F.same R.EVT_HEADH then s.recd.head / 2 ^ 32 % 2 ^ 32
  else if F.same R.EVT_OLDESTL then oldest s % 2 ^ 32
  else if F.same R.EVT_OLDESTH then oldest s / 2 ^ 32 % 2 ^ 32
  else if F.same R.STB_STAT_QUEUED then s.recd.studQ.length
  else if F.same R.STB_STAT_QFULL then b2n (decide (64 ≤ s.recd.studQ.length))
  else if F.same R.STB_STAT_SCAN then b2n (decide (s.rd64 R.STB_NEXTL R.STB_NEXTH = 0))
  else if F.same R.STB_STAT_ERASING then b2n s.kpf.erasing
  else if F.same R.CAL_SETWIN then (List.range 4).foldl (fun a k => a + setByte s (i * 4 / 65536) (i * 4 % 65536 + k) * 2 ^ (8 * k)) 0
  else s.rd F i b

/-- A word of a block's gate page or of its on-chip window: <P>_BLKID at 0, else its fields. -/
def gateRead (s : State) (n off : Nat) : Nat :=
  if off = 0 then blkId n
  else (wordFields n off).foldl (fun a p => a + fieldShown s p.1 p.2 (copyOf p.1 (homeOf n off)) * 2 ^ p.1.lsb) 0

/-- A half of a counter, live or from a holding bank (R57, R68). -/
def counterRead (s : State) (n off : Nat) : Nat :=
  let o := if 0xC0000 ≤ off then off - 0xC0000 else if 0x80000 ≤ off then off - 0x80000 else off
  let m := if 0xC0000 ≤ off then s.rf.bank1 else if 0x80000 ≤ off then s.rf.bank0 else s.rf.ctr
  match C.all.find? (fun c => decide (c.blk ≤ n) && decide (n < c.blk + c.nblk) && decide (c.off ≤ o) &&
      decide ((o - c.off) / c.str < c.cnt) && decide ((o - c.off) % c.str < 8)) with
  | some c => bits (m.get (c.key ((o - c.off) / c.str) (n - c.blk)) 0) (8 * ((o - c.off) % c.str)) 32
  | none => 0

/-- A word of the event ring's window (R436): zeros at an index that holds no record. -/
def ringRead (s : State) (off : Nat) : Nat :=
  let idx := 8192 * s.rd R.EVT_RINGCTL_HALF + (off - 0x40000) / 32
  match s.recd.ring.find? (fun r => r.seq % 16384 = idx && decide (oldest s ≤ r.seq)) with
  | some r => leNat (((recordBytes r).drop (off % 32)).take 4)
  | none => 0

/-- A word of a block window; none is an access fault. -/
def windowRead (s : State) (addr : Nat) : Option Nat :=
  let n := (addr - 0x40000000) / 0x100000
  let off := addr % 0x100000
  if !wordMapped n off ∨ s.on R.BLKSTAT_ISOLATED 0 n then none
  else if n = 2 ∧ 0x40000 ≤ off ∧ off < 0x80000 then some (ringRead s off)
  else if gateWord n off then some (gateRead s n off)
  else some (counterRead s n off)

/-- A bit alias (R65): the bit in bit 0. -/
def aliasRead (s : State) (addr : Nat) : Option Nat :=
  let n := (addr - 0x48000000) / 0x20000
  let k := addr % 0x20000 / 4
  let off := k / 32 * 4
  if !gateWord n off ∨ s.on R.BLKSTAT_ISOLATED 0 n then none else some (bits (gateRead s n off) (k % 32) 1)

/-! ## The cluster's address map (Table 14.1) -/

/-- A 64-bit number's half. -/
def half (x : Nat) (hi : Bool) : Nat := if hi then x / 2 ^ 32 % 2 ^ 32 else x % 2 ^ 32

/-- The machine timer. -/
def timerRead (s : State) (off : Nat) : Nat :=
  if 0x4000 ≤ off ∧ off < 0x4020 then half (s.cpx.mtimecmp.get ((off - 0x4000) / 8) 0) (decide (off % 8 = 4))
  else if 0xBFF8 ≤ off ∧ off < 0xC000 then half s.cpx.mtime (decide (off = 0xBFFC))
  else 0

/-- A word of tier D: none during FILLING (R267) or beyond it; the map area, and the areas that the device keeps, as their layouts give. -/
def tierDRead (s : State) (a : Nat) : Option Nat :=
  if s.dev = .filling ∨ dgroups s * 2097152 ≤ a then none
  else if a < mapEnd s * 2097152 then some (half (mapWord s (a / 8 * 8)) (decide (a % 8 = 4)))
  else some (leNat (areaRead s a 4))

/-- A 32-bit read by core `core` of the ACTIVE cluster; none is an access fault. -/
def coreRead (s : State) (core addr : Nat) : Option Nat :=
  if addr % 4 ≠ 0 then none
  else if 0x08000000 ≤ addr ∧ addr < 0x08400000 then some (leNat (memRead (sramOf s (activeCluster s)) (addr - 0x08000000) 4))
  else if 0x0C000000 ≤ addr ∧ addr < 0x0C400000 then some (plicRead s core (addr - 0x0C000000))
  else if 0x0D000000 ≤ addr ∧ addr < 0x0D010000 then some (timerRead s (addr - 0x0D000000))
  else if 0x40000000 ≤ addr ∧ addr < 0x48000000 then windowRead s addr
  else if 0x48000000 ≤ addr ∧ addr < 0x49000000 then aliasRead s addr
  else if 0x4F000000 ≤ addr ∧ addr < 0x4F010080 then some (leNat ((List.range 4).map (fun k => tackByte s (addr - 0x4F000000 + k))))
  else if 0x60000000 ≤ addr ∧ addr < 0x70000000 then some (leNat (kbytes s (addr - 0x60000000) 4))
  else if 0x80000000000 ≤ addr then tierDRead s (addr - 0x80000000000)
  else none

/-! ## The PCIe function (Table 2.20) -/

/-- What the endpoint function shows of itself: identity, class, BAR sizes in bytes, vectors, limits and the serial number. -/
structure PciFunction where
  vendor : Nat
  device : Nat
  revision : Nat
  classCode : Nat
  subsysVendor : Nat
  subsys : Nat
  bar0Size : Nat
  bar2Size : Nat
  msixVectors : Nat
  msixTableAt : Nat
  msixPendingAt : Nat
  interruptPin : Nat
  maxPayload : Nat
  serial : Nat
  deriving DecidableEq, Repr

/-- The function of Table 2.20: fused values, PCI_SUBSYS, and constants. -/
def pciFunction (s : State) : PciFunction :=
  { vendor := s.fuses.vendorId, device := 0x9240, revision := 0xA1, classCode := 0x058000
    subsysVendor := s.rd R.PCI_SUBSYS_SUBVID, subsys := s.rd R.PCI_SUBSYS_SUBID
    bar0Size := 16384, bar2Size := 8192, msixVectors := 4, msixTableAt := 0, msixPendingAt := 0x2000
    interruptPin := 0, maxPayload := 512, serial := s.fuses.partNumber }

end Sys2Proof.Machine
end

