-- ==== Sys2Proof/Machine/Package.lean ====
section
/-! DEFINITION. Signals, supplies and ratings (chapter 16): the tables that every other chapter's conditions rest on. Nothing of them is state: no
command reads or changes a ball. -/

namespace Sys2Proof.Machine

/-! ## Signal groups and balls (R475 to R477) -/

/-- A signal group of Table 16.1: name, instances, balls. -/
structure SignalGroup where
  name : String
  instances : Nat
  balls : Nat
  deriving DecidableEq, Repr

/-- Table 16.1. -/
def signalGroups : List SignalGroup :=
  [⟨"Host SerDes", 16, 64⟩, ⟨"Twin SerDes", 20, 80⟩, ⟨"PCIe", 1, 67⟩, ⟨"SerDes calibration", 1, 3⟩, ⟨"DDR5 channel", 16, 2720⟩,
   ⟨"Store channel", 32, 640⟩, ⟨"Keeper flash", 1, 11⟩, ⟨"Management", 1, 17⟩, ⟨"Service port", 1, 3⟩, ⟨"Power supervisor", 1, 71⟩,
   ⟨"Reset", 1, 5⟩, ⟨"Clocks", 1, 4⟩, ⟨"Twin control", 1, 5⟩, ⟨"Debug and test", 1, 8⟩]

/-- The balls that carry signals, and all balls. -/
def signalBalls : Nat := signalGroups.foldl (fun a g => a + g.balls) 0
def allBalls : Nat := 5184

/-- A row by its letters (Table 0.5): single letters from A, without I, O, Q, R, S, X and Z, then pairs that begin with A, B and C. -/
def rowLetters : List Char := "ABCDEFGHJKLMNPTUVWY".toList
def rowName (i : Nat) : String :=
  let c := fun (k : Nat) => String.singleton (rowLetters.getD k 'A')
  if i < 19 then c i else c (i / 19 - 1) ++ c (i % 19)

/-- The region of a ball by row index 0 to 71 and column 1 to 72 (Table 16.2): 0 the top rows, 1 the store columns, 2 the centre. -/
def ballRegion (row col : Nat) : Nat := if row < 8 then 0 else if col ≤ 8 ∨ 65 ≤ col then 1 else 2

/-! ## Supplies (R478 to R480) -/

/-- The rail groups, in the order in which they rise (R479). -/
inductive RailGroup | a | b | c | d
  deriving DecidableEq, Repr

/-- A supply rail of Table 16.4: balls, nominal, lowest and highest voltage at the ball in units of 0.1 mV, maximum current in mA. -/
structure Rail where
  name : String
  balls : Nat
  nominal : Nat
  low : Nat
  high : Nat
  maxMa : Nat
  group : RailGroup
  deriving DecidableEq, Repr

/-- Table 16.4, without the fuse supply and ground, which the integrator ties to VSS. -/
def rails : List Rail :=
  [⟨"VAON", 4, 18000, 17100, 18900, 1000, .a⟩, ⟨"VDD_KIO", 2, 18000, 17100, 18900, 100, .a⟩,
   ⟨"VDD_CORE", 220, 7500, 7275, 7725, 120000, .b⟩, ⟨"VDD_MST", 60, 7500, 7275, 7725, 56000, .b⟩,
   ⟨"VDD_SRAM", 60, 8000, 7760, 8240, 16000, .b⟩, ⟨"VDD_PLL", 4, 8500, 8245, 8755, 500, .b⟩,
   ⟨"VDDA_DPHY", 48, 8500, 8245, 8755, 24000, .c⟩, ⟨"VDDA_SER", 48, 8500, 8245, 8755, 24000, .c⟩,
   ⟨"VDDH_SER", 24, 12000, 11640, 12360, 6000, .c⟩, ⟨"VDDQ_DDR", 160, 11000, 10670, 11330, 30000, .d⟩,
   ⟨"VCCQ_STO", 48, 12000, 11400, 12600, 12000, .d⟩, ⟨"VDD_IO18", 12, 18000, 17100, 18900, 1000, .d⟩,
   ⟨"VDD_IO33", 6, 33000, 31350, 34650, 200, .d⟩]

/-- Is a rail within its range? -/
def railInRange (r : Rail) (v : Nat) : Bool := decide (r.low ≤ v) && decide (v ≤ r.high)

/-- The always-on supply's three thresholds, in 0.1 mV: the power-on qualifier, the collapse comparator and the retention floor. -/
def aonQualified : Nat := 18000 * 97 / 100
def aonCollapse : Nat := 18000 * 94 / 100
def aonFloor : Nat := 18000 * 70 / 100

/-- Place of a group in the order of power-up; power-down runs in the reverse order (R479). -/
def groupOrder : RailGroup → Nat
  | .a => 0 | .b => 1 | .c => 2 | .d => 3

/-- Does a rising table enable its rails in the order of R479? `railGroup` gives the group of the rail that each PWR_EN output switches; group
A rises with the input and is not switched. -/
def risesInOrder (s : State) (railGroup : Nat → RailGroup) : Bool :=
  let steps := (List.range 64).map (fun i => s.rd R.PWR_RISE i)
  let table := steps.takeWhile (fun e => decide (bits e 28 4 ≠ 0))
  let order := (table.filter (fun e => decide (bits e 28 4 = 1))).map (fun e => groupOrder (railGroup (bits e 23 5)))
  (order.zip (order.drop 1)).all (fun p => decide (p.1 ≤ p.2))

/-! ## Pads and ratings (R481 to R483) -/

/-- The internal pull of an input (Table 16.5): the level that an unconnected ball reads, none without a pull. -/
def padPull (signal : String) : Option Bool :=
  if ["RST_N", "PWR_BTN_N", "PWR_EPF_N", "TMS", "TDI", "KPF_CS_N"].contains signal then some true
  else if ["TRST_N", "TEST_EN"].contains signal then some false
  else none

/-- The code of a sense ball's voltage in mV: 12 bits over 1.25 V, clamped above it (R377, Table 16.5). -/
def senseCode (ballMv : Nat) : Nat := min 4095 (ballMv * 4096 / 1250)

/-- Absolute maximum of a rail in mV (Table 16.6). -/
def absMax (rail : String) : Option Nat :=
  [("VDD_CORE", 1000), ("VDD_MST", 1000), ("VDD_SRAM", 1000), ("VDD_PLL", 1100), ("VDDA_DPHY", 1100), ("VDDA_SER", 1100),
   ("VDDQ_DDR", 1400), ("VDDH_SER", 1500), ("VCCQ_STO", 1500), ("VAON", 2100), ("VDD_KIO", 2100), ("VDD_IO18", 2100),
   ("VDD_IO33", 3800)].lookup rail

/-- Does a junction temperature in °C lie within the conditions under which every figure holds (Table 16.7)? -/
def junctionInRange (t : Int) : Bool := decide (0 ≤ t) && decide (t ≤ 105)

/-! ## Power and heat (R484, R485) -/

/-- Typical and maximum power of a device state outside SERVING, in 0.1 W (Table 16.8); RISING while training. -/
def statePower : DevState → Option (Nat × Nat)
  | .standby => some (12, 20)
  | .rising => some (900, 1500)
  | .filling => some (1300, 1600)
  | .restoring => some (1100, 1500)
  | .saving => some (800, 950)
  | .saved => some (350, 450)
  | _ => none

/-- Typical and maximum power of a SERVING gait, in W (Table 16.8); the maximum is the gait's default PWRCAP (Table 1.7). -/
def gaitPower (g : Nat) : Nat × Nat :=
  ([60, 150, 170, 190, 195, 180].getD g 0, [70, 160, 200, 220, 220, 235].getD g 0)

/-- The junction temperature in 0.01 °C over an inlet at `inlet` °C, from the power in W and the resistances of interface and sink in 0.001 °C/W;
from the hottest junction to the lid it is 0.05 °C/W (R485). -/
def junctionOver (inlet watts theta : Nat) : Nat := 100 * inlet + watts * (50 + theta) / 10

end Sys2Proof.Machine
end

