-- ==== Sys2Proof/Safety.lean ====
section
/-! DEFINITION. What a safe run of the device is: the parts of the state that a command may change, the canonical forms of
memory and of the register lists, and the one-way fuses. -/

namespace Sys2Proof.Machine

/-- The parts of the state that commands change: one for each field of `State` but the clock
and the queue, the register file in two parts: the registers (in force and pending) and the counters (with their snapshot banks). -/
inductive StPart
  | dev | regs | fuses | gai | pwr | rst | tack | recd | dic | pci | mgtDrops | cpx | svc | key | kpf | clk | cal | sav
  | gov | maps | log | trn | dram | drc | grm | far | stf | tie | mst | xpt | prt | twn | draws | out | ctrs | mdio
  deriving DecidableEq, Repr

/-- The number of a part in a mask. -/
def StPart.bit : StPart → Nat
  | .dev => 0
  | .regs => 1
  | .fuses => 2
  | .gai => 3
  | .pwr => 4
  | .rst => 5
  | .tack => 6
  | .recd => 7
  | .dic => 8
  | .pci => 9
  | .mgtDrops => 10
  | .cpx => 11
  | .svc => 12
  | .key => 13
  | .kpf => 14
  | .clk => 15
  | .cal => 16
  | .sav => 17
  | .gov => 18
  | .maps => 19
  | .log => 20
  | .trn => 21
  | .dram => 22
  | .drc => 23
  | .grm => 24
  | .far => 25
  | .stf => 26
  | .tie => 27
  | .mst => 28
  | .xpt => 29
  | .prt => 30
  | .twn => 31
  | .draws => 32
  | .out => 33
  | .ctrs => 34
  | .mdio => 35

/-- The part is the same in both states. -/
def StPart.same : StPart → State → State → Prop
  | .dev, a, s => s.dev = a.dev
  | .regs, a, s => (s.rf.val, s.rf.shadow, s.rf.group, s.rf.since) = (a.rf.val, a.rf.shadow, a.rf.group, a.rf.since)
  | .fuses, a, s => s.fuses = a.fuses
  | .gai, a, s => s.gai = a.gai
  | .pwr, a, s => s.pwr = a.pwr
  | .rst, a, s => s.rst = a.rst
  | .tack, a, s => s.tack = a.tack
  | .recd, a, s => s.recd = a.recd
  | .dic, a, s => s.dic = a.dic
  | .pci, a, s => s.pci = a.pci
  | .mgtDrops, a, s => s.mgtDrops = a.mgtDrops
  | .cpx, a, s => s.cpx = a.cpx
  | .svc, a, s => s.svc = a.svc
  | .key, a, s => s.key = a.key
  | .kpf, a, s => s.kpf = a.kpf
  | .clk, a, s => s.clk = a.clk
  | .cal, a, s => s.cal = a.cal
  | .sav, a, s => s.sav = a.sav
  | .gov, a, s => s.gov = a.gov
  | .maps, a, s => s.maps = a.maps
  | .log, a, s => s.log = a.log
  | .trn, a, s => s.trn = a.trn
  | .dram, a, s => s.dram = a.dram
  | .drc, a, s => s.drc = a.drc
  | .grm, a, s => s.grm = a.grm
  | .far, a, s => s.far = a.far
  | .stf, a, s => s.stf = a.stf
  | .tie, a, s => s.tie = a.tie
  | .mst, a, s => s.mst = a.mst
  | .xpt, a, s => s.xpt = a.xpt
  | .prt, a, s => s.prt = a.prt
  | .twn, a, s => s.twn = a.twn
  | .draws, a, s => s.draws = a.draws
  | .out, a, s => s.out = a.out
  | .ctrs, a, s => (s.rf.ctr, s.rf.bank0, s.rf.bank1) = (a.rf.ctr, a.rf.bank0, a.rf.bank1)
  | .mdio, a, s => s.mdio = a.mdio

/-- Every part. -/
def StPart.all : List StPart :=
  [.dev, .regs, .fuses, .gai, .pwr, .rst, .tack, .recd, .dic, .pci, .mgtDrops, .cpx, .svc, .key, .kpf, .clk, .cal, .sav, .gov, .maps,
    .log, .trn, .dram, .drc, .grm, .far, .stf, .tie, .mst, .xpt, .prt, .twn, .draws, .out, .ctrs, .mdio]

/-- Every part but those listed. -/
def StPart.allBut (ps : List StPart) : List StPart := StPart.all.filter (fun p => !ps.contains p)

/-- The parts of the state that a command may change: what its chapter's rules act on, with the recorder, the counters and the
outputs that events use (R436). -/
def touches (c : Instr) : List StPart :=
  match c with
  | .powerOnReset .. | .brownOut .. | .clockFailure | .fallingTableEnd | .railGoodChange .. | .pinReset | .softwareResetRequest ..
  | .debugResetRequest .. | .watchdogExpiry .. | .lockup .. | .saveSealed | .takeoverFailure .. | .svcReset .. =>
    StPart.allBut [.fuses, .draws]
  | .pwrBtnPress .. =>
    [.dev, .regs, .gai, .pwr, .rst, .recd, .dic, .clk, .cal, .sav, .gov, .maps, .trn, .far, .xpt, .prt, .out, .ctrs]
  | .onRequestCmd =>
    [.dev, .regs, .pwr, .rst, .recd, .dic, .clk, .out, .ctrs]
  | .offRequestCmd | .moduleFailed .. | .capacitanceTestEnd .. | .govTick .. =>
    [.dev, .regs, .gai, .pwr, .recd, .dic, .cal, .sav, .gov, .maps, .trn, .far, .xpt, .prt, .out, .ctrs]
  | .earlyPowerFailWarning .. =>
    [.dev, .regs, .gai, .pwr, .tack, .recd, .dic, .cal, .sav, .gov, .maps, .trn, .far, .xpt, .prt, .out, .ctrs]
  | .inputPowerQualified | .mainShaftLoss .. | .energyAtShutres .. =>
    StPart.allBut [.fuses, .clk, .draws]
  | .inputCollapse =>
    [.dev, .regs, .pwr, .rst, .tack, .recd, .kpf, .sav, .maps, .trn, .out, .ctrs]
  | .refwaitExpiry =>
    [.recd, .clk, .out, .ctrs]
  | .mainShaftLock .. =>
    [.dev, .regs, .fuses, .tack, .recd, .cpx, .kpf, .clk, .sav, .gov, .dram, .out, .ctrs]
  | .risingTableEnd =>
    [.dev, .regs, .pwr, .tack, .recd, .sav, .gov, .dram, .out, .ctrs]
  | .seqEnable | .railGoodQualified .. | .seqDisable | .seqWaitExpiry | .seqPmbus | .seqRstrel | .seqCharger =>
    [.dev, .regs, .pwr, .recd, .out, .ctrs]
  | .enableTimeout | .disableTimeout =>
    [.dev, .regs, .pwr, .tack, .recd, .out, .ctrs]
  | .seqWait =>
    [.pwr]
  | .pmbusTransactionDone .. =>
    [.dev, .regs, .pwr, .recd, .dic, .out, .ctrs]
  | .resetOutputStretchEnd .. | .seqRstassert =>
    [.dev, .regs, .pwr, .rst, .recd, .out, .ctrs]
  | .seqTableCommit | .quietBoundExpiry .. | .reinLoopTick .. | .fecAlarm .. | .heartbeatSilent .. | .storeSaveWrite
  | .studbookScan | .drbgHealthFail .. | .pcieLinkStateChange .. =>
    [.regs, .recd, .out, .ctrs]
  | .pmbusTelemetryPoll .. =>
    [.regs, .pwr, .recd, .out, .ctrs]
  | .powerCapMeasurement .. =>
    [.regs, .gai, .recd, .grm, .out, .ctrs]
  | .marginApply =>
    [.regs, .pwr, .dic, .out]
  | .capacitanceTestStart .. =>
    [.regs, .pwr, .gov, .far]
  | .capacitanceTestCmd .. =>
    [.regs, .pwr, .dic, .gov, .far]
  | .wrapperDrainTimeout .. =>
    [.regs, .gai, .rst, .recd, .dic, .pci, .cpx, .svc, .key, .kpf, .cal, .sav, .gov, .maps, .log, .trn, .dram, .drc, .grm, .far, .stf, .tie, .mst, .xpt, .prt, .twn, .out, .ctrs]
  | .watchdogKick .. | .checkpointDue | .machineTimerExpiry .. =>
    [.cpx]
  | .watchdogHalfTime .. =>
    [.recd, .cpx, .out, .ctrs]
  | .gaitRequest .. | .gaitTableCommit .. | .blockGoWrite .. =>
    [.regs, .gai, .recd, .dic, .gov, .grm, .mst, .prt, .out, .ctrs]
  | .quietPointTake .. | .groupCommit .. =>
    [.regs, .gai, .recd, .dic, .gov, .maps, .trn, .grm, .tie, .mst, .prt, .out, .ctrs]
  | .gaiRowWord3Write .. =>
    [.regs, .gai, .recd, .out, .ctrs]
  | .gaitEditFieldWrite .. =>
    [.gai]
  | .gaitLoadDefaults .. =>
    [.gai, .dic]
  | .aidricOpen .. | .aidricProve .. | .aidricRead .. | .aidricWrite .. | .aidricKeepalive .. | .aidricClose ..
  | .sessionIdleTimeout .. | .dicHandlerAnswer .. | .handlerItemTimeout | .controlSpaceWrite .. | .bitAliasWrite ..
  | .pcieDoorbell .. | .pciePerst .. | .flitReceived .. | .replayTimer | .laneFault .. | .widthSwitch | .linkSilence
  | .retrainAttemptDone .. | .dict .. | .goSoloCmd | .spanCmd | .leaveCmd | .joinCmd | .forceSoloCmd =>
    StPart.allBut [.fuses]
  | .halfOpenExpiry .. =>
    [.regs, .gai, .recd, .dic, .pci, .svc, .tie, .out, .ctrs]
  | .pathLockoutEnd .. | .dictRsp .. =>
    [.dic]
  | .dicExtLoad | .dicExtClear | .configSweep =>
    [.regs, .recd, .dic, .out, .ctrs]
  | .dicSnapshot | .blockSnapshot .. | .rankIdleSelfRefresh .. =>
    [.regs, .ctrs]
  | .deviceSnapshotCmd =>
    [.dic, .ctrs]
  | .configCommit =>
    [.regs, .dic]
  | .cfgrefWrite .. | .pciePowerStateChange .. | .xptQpRead .. | .tenantRead .. | .mstQpRead | .evtAckWrite ..
  | .heartbeatResumed .. | .mgtLinkStatusChange .. | .usbAttach =>
    [.regs]
  | .pcieNtftaken =>
    [.recd, .pci, .out]
  | .mgtArpNsEcho .. =>
    [.mgtDrops, .prt, .out]
  | .mdioTransaction .. =>
    [.regs, .out, .mdio]
  | .mctpControlMessage .. =>
    [.regs, .out]
  | .registerRegionCmd .. =>
    [.regs, .recd, .dic, .key, .maps, .log, .trn, .twn, .draws, .out, .ctrs]
  | .deregisterCmd .. | .stateSpanok .. | .stateSpandone .. =>
    [.regs, .recd, .dic, .maps, .log, .trn, .twn, .out, .ctrs]
  | .deallocateCmd .. =>
    [.regs, .recd, .dic, .maps, .log, .trn, .dram, .stf, .tie, .twn, .out, .ctrs]
  | .regionDrainComplete .. =>
    [.regs, .recd, .maps, .trn, .out, .ctrs]
  | .trnUpdate | .secondLevelFillReturn .. | .operationResume .. | .superblockOpen .. | .stfStartWalk | .validCountWalkDone =>
    [.regs, .recd, .maps, .trn, .stf, .out, .ctrs]
  | .trnUpdateComplete =>
    [.regs, .recd, .dic, .maps, .log, .trn, .dram, .stf, .tie, .xpt, .twn, .out, .ctrs]
  | .hopperDeadline =>
    [.regs, .trn]
  | .trnInvalL1 | .trnInvalL2 | .trnAgeTick =>
    [.trn]
  | .packetReceive .. =>
    [.regs, .recd, .cpx, .trn, .tie, .xpt, .prt, .out, .ctrs]
  | .contextFetchDone .. | .cnpListFetchDone .. =>
    [.regs, .recd, .trn, .dram, .drc, .tie, .xpt, .prt, .out, .ctrs]
  | .contextFetchTimeout .. =>
    [.regs, .recd, .tie, .xpt, .out, .ctrs]
  | .cnpListEntryTimeout .. =>
    [.xpt, .ctrs]
  | .lportMove .. | .answerQp .. =>
    [.regs, .recd, .trn, .xpt, .prt, .out, .ctrs]
  | .admitRequest .. =>
    [.regs, .recd, .xpt, .prt, .out, .ctrs]
  | .translateRequest .. =>
    [.regs, .recd, .trn, .xpt, .out, .ctrs]
  | .placeRequest .. =>
    [.regs, .recd, .maps, .log, .trn, .dram, .drc, .tie, .xpt, .twn, .out, .ctrs]
  | .lineReadDone .. =>
    [.regs, .recd, .trn, .dram, .drc, .grm, .xpt, .prt, .twn, .out, .ctrs]
  | .ackCoalesceDelay .. =>
    [.xpt, .prt, .out, .ctrs]
  | .linkUp .. | .linkDown .. | .prtRelinkWrite .. =>
    [.regs, .recd, .prt, .out, .ctrs]
  | .portRelinkCmd .. =>
    [.regs, .recd, .dic, .prt, .out, .ctrs]
  | .prtArpNsEcho .. | .pfcPauseReceived .. =>
    [.prt, .out, .ctrs]
  | .requesterAckReceived .. | .requesterTimeout .. | .requesterNakReceived .. | .requesterRnrNak .. | .jobSubmit ..
  | .jobCancel .. | .jobRequeue .. | .jobDispatch | .instructionIssue .. | .stageCommitComplete .. | .stageTimeout ..
  | .waitLimitExpiry .. | .waitWordPoll .. | .jobWritePort | .mstQpToError =>
    [.regs, .recd, .maps, .log, .trn, .dram, .drc, .tie, .mst, .xpt, .prt, .twn, .out, .ctrs]
  | .requesterRnrWaitEnd .. =>
    [.regs, .mst, .prt, .out, .ctrs]
  | .requesterCnp .. =>
    [.mst, .ctrs]
  | .requesterRateRise .. =>
    [.mst]
  | .xptQpWrite .. | .xptQpWritebackEvict .. =>
    [.regs, .dram, .drc, .xpt, .ctrs]
  | .xptQpToError .. =>
    [.regs, .trn, .xpt, .prt, .out]
  | .qpInspectToErrorCmd .. =>
    [.regs, .dic, .trn, .xpt, .prt, .out]
  | .ctrlWidth .. | .widengapExpiry =>
    [.twn, .out]
  | .ctrlWidthAck .. =>
    [.twn]
  | .laneProbationPassed .. | .linkTrainingAttempt =>
    [.regs, .far, .twn, .out]
  | .retrainDelayEnd =>
    [.recd, .twn, .out, .ctrs]
  | .linkTrained .. | .mapopRegionSet .. | .catchupPageSend | .catchupReady =>
    [.regs, .recd, .maps, .log, .trn, .twn, .out, .ctrs]
  | .mirrorMsg .. | .forwardMsg .. | .fwdAtomic .. | .orderedMsg .. | .moveMsg .. | .tread .. | .treadData .. | .treadFail ..
  | .tierSFillDone .. =>
    [.regs, .recd, .maps, .log, .trn, .dram, .drc, .stf, .tie, .xpt, .twn, .out, .ctrs]
  | .placedMsg .. | .resyncPage .. =>
    [.regs, .recd, .dic, .maps, .log, .trn, .dram, .drc, .stf, .tie, .xpt, .twn, .out, .ctrs]
  | .movereq .. =>
    [.regs, .recd, .maps, .trn, .dram, .tie, .twn, .out, .ctrs]
  | .moveDone .. | .poolClockVisit .. | .quotaRingRebuildDone =>
    [.regs, .recd, .maps, .trn, .dram, .tie, .xpt, .twn, .out, .ctrs]
  | .pagepull .. | .reconEnd .. | .fenceArbitrateCmd .. =>
    [.regs, .recd, .dic, .maps, .log, .trn, .dram, .tie, .twn, .out, .ctrs]
  | .helloMsg .. =>
    [.regs, .recd, .dic, .key, .maps, .log, .trn, .far, .xpt, .prt, .twn, .draws, .out, .ctrs]
  | .helloAnswer .. =>
    [.regs, .recd, .dic, .maps, .log, .trn, .far, .xpt, .prt, .twn, .out, .ctrs]
  | .pendlist .. | .depart .. | .pairwaitExpiry =>
    [.regs, .recd, .dic, .key, .maps, .log, .trn, .dram, .drc, .far, .stf, .tie, .xpt, .twn, .draws, .out, .ctrs]
  | .stateReady .. =>
    [.regs, .recd, .maps, .log, .trn, .out, .ctrs]
  | .stateSpanreq .. =>
    [.regs, .twn, .out, .ctrs]
  | .mapopExtentSet .. =>
    [.regs, .recd, .maps, .log, .trn, .dram, .stf, .tie, .twn, .out, .ctrs]
  | .mapopDealloc .. | .mapopRegreq .. | .mapopDeregreq .. =>
    [.regs, .recd, .key, .maps, .log, .trn, .dram, .stf, .tie, .twn, .draws, .out, .ctrs]
  | .mapopDone .. =>
    [.dic, .twn, .out, .ctrs]
  | .reconMsg .. =>
    [.twn, .out, .ctrs]
  | .parkRoomFreed .. =>
    [.xpt]
  | .cleanClockStep .. | .writebackVerified .. | .storeRelocate .. | .wordlineVerified =>
    [.regs, .recd, .maps, .trn, .dram, .stf, .tie, .twn, .out, .ctrs]
  | .writebackProgramFailed .. | .eraseVerifyFailed .. =>
    [.regs, .recd, .kpf, .maps, .trn, .stf, .out, .ctrs]
  | .heatTick =>
    [.tie]
  | .tenantWrite .. =>
    [.regs, .tie]
  | .tenantCommit .. | .lendCommit .. | .lendRevoke .. =>
    [.regs, .recd, .dic, .tie, .out, .ctrs]
  | .tpolCommit =>
    [.regs, .recd, .dic, .maps, .trn, .tie, .out, .ctrs]
  | .tierHAccessFail .. =>
    [.regs, .recd, .tie, .out, .ctrs]
  | .promoteExtentCmd .. =>
    [.regs, .recd, .dic, .maps, .trn, .dram, .tie, .twn, .out, .ctrs]
  | .removeChargeCmd .. =>
    [.regs, .recd, .dic, .maps, .trn, .dram, .tie, .xpt, .twn, .out, .ctrs]
  | .saveStepComplete .. =>
    [.regs, .recd, .dic, .key, .sav, .maps, .log, .trn, .dram, .drc, .stf, .tie, .mst, .xpt, .prt, .twn, .out, .ctrs]
  | .fillComplete =>
    [.dev, .regs, .recd, .sav, .gov, .dram, .out, .ctrs]
  | .restoreStepComplete .. =>
    [.regs, .recd, .dic, .key, .sav, .maps, .log, .trn, .dram, .tie, .twn, .out, .ctrs]
  | .serviceGatePassed =>
    [.dev, .regs, .gai, .pwr, .tack, .recd, .dic, .sav, .gov, .maps, .trn, .grm, .far, .mst, .prt, .twn, .out, .ctrs]
  | .serviceGateWaitReport =>
    [.regs, .recd, .sav, .out, .ctrs]
  | .retiredImageEraseDone =>
    [.regs, .recd, .sav, .maps, .trn, .stf, .out, .ctrs]
  | .rehearsalStart =>
    [.regs, .key, .sav, .far, .ctrs]
  | .rehearseCmd =>
    [.regs, .dic, .key, .sav, .far, .ctrs]
  | .rehearsalDone .. =>
    [.regs, .recd, .dic, .key, .sav, .maps, .trn, .far, .stf, .out, .ctrs]
  | .jobCancelCmd .. | .jobRequeueCmd .. | .reqQpInspectToErrorCmd .. =>
    [.regs, .recd, .dic, .maps, .log, .trn, .dram, .drc, .tie, .mst, .xpt, .prt, .twn, .out, .ctrs]
  | .instructionComplete .. =>
    [.regs, .recd, .maps, .log, .trn, .dram, .drc, .stf, .tie, .mst, .xpt, .prt, .twn, .out, .ctrs]
  | .completionTake | .mstQpWrite =>
    [.regs, .mst]
  | .resumeScan =>
    [.regs, .recd, .mst, .out, .ctrs]
  | .refreshDue .. =>
    [.drc, .ctrs]
  | .sidebandRead .. =>
    [.regs, .drc, .far]
  | .markwinHalve .. | .rowIdleClose .. =>
    [.drc]
  | .trainingOpWrite .. | .trainingOpCompare .. | .trainingOpMrr .. | .trainingOpCaLoopback .. =>
    [.regs, .dram, .drc]
  | .trainingOpDone .. =>
    [.regs, .drc]
  | .retrainDone .. =>
    [.regs, .recd, .cal, .drc, .far, .out, .ctrs]
  | .groomBurst .. =>
    [.regs, .recd, .trn, .dram, .drc, .grm, .far, .xpt, .prt, .twn, .out, .ctrs]
  | .groomRateRecompute =>
    [.regs, .recd, .grm, .out, .ctrs]
  | .farrierRequest .. | .retrygapExpiry .. | .patrolPace .. =>
    [.regs, .far]
  | .farrierRelease .. =>
    [.regs, .recd, .dic, .sav, .maps, .trn, .far, .out, .ctrs]
  | .waitrelExpiry .. =>
    [.regs, .recd, .far, .out, .ctrs]
  | .storeRead .. | .storeReadRaw .. | .storeReadMeta .. | .storeErase .. =>
    [.regs, .recd, .maps, .trn, .dram, .drc, .stf, .out, .ctrs]
  | .storeParam .. | .stfFwtailWrite .. =>
    [.regs, .dram, .drc, .stf, .ctrs]
  | .storeRetire .. =>
    [.regs, .recd, .kpf, .maps, .trn, .dram, .drc, .stf, .out, .ctrs]
  | .storeCleanWrite | .eresminExpiry .. =>
    [.stf]
  | .storeSealWrite .. =>
    [.sav]
  | .storePatrolRead .. =>
    [.regs, .recd, .maps, .trn, .dram, .grm, .far, .stf, .tie, .twn, .out, .ctrs]
  | .rowStripewaitExpiry | .reclaimStart =>
    [.recd, .stf, .out, .ctrs]
  | .eraseVerified .. =>
    [.regs, .recd, .sav, .maps, .trn, .dram, .drc, .stf, .out, .ctrs]
  | .dieFailed .. =>
    [.regs, .recd, .stf, .out, .ctrs]
  | .keeperRead =>
    [.regs, .recd, .kpf, .dram, .drc, .out, .ctrs]
  | .keeperProgram | .keeperErase | .keeperOpDone .. =>
    [.regs, .recd, .kpf, .out, .ctrs]
  | .kpfCompletionTake =>
    [.regs, .kpf]
  | .xipFetchMiss .. =>
    [.kpf, .ctrs]
  | .sampleRound .. =>
    [.dev, .regs, .gai, .pwr, .recd, .dic, .cal, .sav, .gov, .maps, .trn, .grm, .far, .xpt, .prt, .out, .ctrs]
  | .calRunStart .. | .calCmdRun =>
    [.regs, .cal, .far]
  | .calRunNowCmd =>
    [.regs, .dic, .cal, .far]
  | .calCmdRegenerate =>
    [.recd, .cal, .out, .ctrs]
  | .calCmdReload =>
    [.regs, .recd, .cal, .out, .ctrs]
  | .calRunCommit =>
    [.regs, .recd, .dic, .cal, .far, .stf, .out, .ctrs]
  | .checkpointGo =>
    [.regs, .cpx, .ctrs]
  | .checkpointMiss | .eventRaised .. | .summaryRecord .. =>
    [.recd, .out, .ctrs]
  | .aliveWrite =>
    [.regs, .tack, .recd, .dic, .cpx, .key, .maps, .log, .trn, .dram, .stf, .tie, .twn, .draws, .out, .ctrs]
  | .returnCmd =>
    [.regs, .tack, .recd, .dic, .cpx, .dram, .drc, .out, .ctrs]
  | .clearCmd .. =>
    [.regs, .tack, .recd, .dic, .out, .ctrs]
  | .cpxRingtailWrite .. =>
    [.regs, .xpt]
  | .studbookAppend =>
    [.regs, .recd, .kpf]
  | .svcOpen .. =>
    [.dic, .svc, .key, .draws, .out, .ctrs]
  | .svcProve .. | .svcIdent .. | .stageStatus .. | .studRead .. | .tackRead .. | .evtRead .. | .svcClose .. =>
    [.regs, .recd, .dic, .svc, .out, .ctrs]
  | .stageBegin .. | .stageData .. | .stageEnd .. =>
    [.regs, .recd, .dic, .svc, .kpf, .out, .ctrs]
  | .svcSessionTimeout | .usbDetach =>
    [.regs, .recd, .svc, .out, .ctrs]
  | .cancelStaging =>
    [.regs, .svc, .kpf]
  | .cancelStagingCmd =>
    [.regs, .dic, .svc, .kpf]
  | .keyLoadCmd .. =>
    [.regs, .dic, .key, .ctrs]
  | .keyEncrypt | .keyDecrypt | .keyCmac =>
    [.regs, .recd, .key, .dram, .drc, .out, .ctrs]
  | .keyDerive | .keyLoad | .keyClear =>
    [.regs, .recd, .key, .out, .ctrs]
  | .keyRandom =>
    [.regs, .recd, .key, .dram, .drc, .draws, .out, .ctrs]
  | .keyQueueTake =>
    [.regs, .key]
  | .drbgReseed =>
    [.regs, .recd, .dic, .key, .maps, .log, .trn, .dram, .stf, .tie, .twn, .draws, .out, .ctrs]
  | .debugUnlock .. =>
    [.regs, .recd, .key, .draws, .out, .ctrs]
  | .retireSuperblockMemberCmd .. =>
    [.regs, .recd, .dic, .kpf, .maps, .trn, .stf, .out, .ctrs]
  | .studbookSectorEraseDone =>
    [.kpf]
  | .savePathReady =>
    [.dev, .regs, .gai, .pwr, .tack, .recd, .dic, .cal, .sav, .gov, .maps, .trn, .dram, .far, .xpt, .prt, .out, .ctrs]

/-- Commands of the fabric, which only a supplied core domain serves. The keeper flash's own are not among them: the service core
uses it in STANDBY too (R422). -/
def fabric (c : Instr) : Bool :=
  match c with
  | .mainShaftLock .. | .moduleFailed .. | .capacitanceTestCmd .. | .softwareResetRequest .. | .debugResetRequest ..
  | .watchdogKick .. | .watchdogHalfTime .. | .watchdogExpiry .. | .lockup .. | .gaiRowWord3Write .. | .gaitEditFieldWrite ..
  | .gaitTableCommit .. | .gaitLoadDefaults .. | .aidricOpen .. | .aidricProve .. | .aidricRead .. | .aidricWrite ..
  | .aidricKeepalive .. | .aidricClose .. | .pathLockoutEnd .. | .dicHandlerAnswer .. | .blockSnapshot .. | .blockGoWrite ..
  | .groupCommit .. | .controlSpaceWrite .. | .bitAliasWrite .. | .cfgrefWrite .. | .pcieDoorbell ..
  | .pciePowerStateChange .. | .mgtArpNsEcho .. | .mdioTransaction .. | .mctpControlMessage .. | .registerRegionCmd ..
  | .deregisterCmd .. | .deallocateCmd .. | .regionDrainComplete .. | .lineReadDone .. | .reinLoopTick .. | .linkUp ..
  | .linkDown .. | .portRelinkCmd .. | .prtRelinkWrite .. | .prtArpNsEcho .. | .pfcPauseReceived .. | .fecAlarm ..
  | .requesterAckReceived .. | .requesterTimeout .. | .requesterNakReceived .. | .requesterRnrNak ..
  | .requesterRnrWaitEnd .. | .requesterCnp .. | .requesterRateRise .. | .xptQpWrite .. | .xptQpRead .. | .xptQpToError ..
  | .xptQpWritebackEvict .. | .qpInspectToErrorCmd .. | .flitReceived .. | .laneFault .. | .ctrlWidth .. | .ctrlWidthAck ..
  | .laneProbationPassed .. | .retrainAttemptDone .. | .heartbeatSilent .. | .placedMsg .. | .movereq .. | .treadData ..
  | .treadFail .. | .moveDone .. | .pagepull .. | .resyncPage .. | .helloMsg .. | .pendlist .. | .stateReady ..
  | .stateSpanreq .. | .stateSpanok .. | .stateSpandone .. | .depart .. | .mapopExtentSet .. | .mapopDealloc ..
  | .mapopRegreq .. | .mapopDeregreq .. | .mapopDone .. | .dict .. | .dictRsp .. | .reconMsg .. | .reconEnd ..
  | .catchupPageSend | .catchupReady | .pairwaitExpiry | .goSoloCmd | .spanCmd | .leaveCmd | .joinCmd | .forceSoloCmd
  | .fenceArbitrateCmd .. | .tierSFillDone .. | .parkRoomFreed .. | .cleanClockStep .. | .writebackVerified ..
  | .writebackProgramFailed .. | .heatTick | .poolClockVisit .. | .tenantWrite .. | .tenantRead .. | .tenantCommit ..
  | .quotaRingRebuildDone | .tpolCommit | .lendCommit .. | .lendRevoke .. | .tierHAccessFail .. | .promoteExtentCmd ..
  | .removeChargeCmd .. | .govTick .. | .energyAtShutres .. | .saveStepComplete .. | .saveSealed | .fillComplete
  | .restoreStepComplete .. | .serviceGatePassed | .serviceGateWaitReport | .retiredImageEraseDone | .rehearsalStart
  | .rehearseCmd | .rehearsalDone .. | .jobSubmit .. | .jobCancel .. | .jobRequeue .. | .jobCancelCmd .. | .jobRequeueCmd ..
  | .jobDispatch | .instructionIssue .. | .instructionComplete .. | .stageCommitComplete .. | .stageTimeout ..
  | .waitLimitExpiry .. | .waitWordPoll .. | .completionTake | .jobWritePort | .mstQpWrite | .mstQpRead | .mstQpToError
  | .reqQpInspectToErrorCmd .. | .resumeScan | .refreshDue .. | .sidebandRead .. | .rankIdleSelfRefresh .. | .markwinHalve ..
  | .trainingOpWrite .. | .trainingOpCompare .. | .trainingOpMrr .. | .trainingOpCaLoopback .. | .trainingOpDone ..
  | .retrainDone .. | .groomBurst .. | .groomRateRecompute | .farrierRequest .. | .farrierRelease .. | .waitrelExpiry ..
  | .retrygapExpiry .. | .storeRead .. | .storeReadRaw .. | .storeReadMeta .. | .storeParam .. | .storeErase ..
  | .storeRetire .. | .storeCleanWrite | .storeRelocate .. | .storeSaveWrite | .storeSealWrite .. | .storePatrolRead ..
  | .stfFwtailWrite .. | .rowStripewaitExpiry | .wordlineVerified | .eraseVerified .. | .eraseVerifyFailed ..
  | .operationResume .. | .dieFailed .. | .superblockOpen .. | .reclaimStart | .stfStartWalk | .validCountWalkDone
  | .patrolPace .. | .sampleRound .. | .calRunStart .. | .calCmdRun | .calRunNowCmd | .calCmdRegenerate | .calCmdReload | .calRunCommit
  | .checkpointDue | .checkpointGo | .checkpointMiss | .aliveWrite | .takeoverFailure .. | .returnCmd | .clearCmd ..
  | .evtAckWrite .. | .cpxRingtailWrite .. | .eventRaised .. | .summaryRecord .. | .studbookAppend | .studbookScan
  | .svcOpen .. | .svcProve .. | .svcIdent .. | .stageBegin .. | .stageData .. | .stageEnd .. | .stageStatus ..
  | .studRead .. | .tackRead .. | .evtRead .. | .svcReset .. | .svcClose .. | .svcSessionTimeout | .usbDetach
  | .cancelStaging | .cancelStagingCmd | .keyLoadCmd .. | .keyEncrypt | .keyDecrypt | .keyCmac | .keyDerive | .keyLoad
  | .keyRandom | .keyClear | .keyQueueTake | .drbgHealthFail .. | .drbgReseed | .debugUnlock ..
  | .retireSuperblockMemberCmd .. | .heartbeatResumed .. | .widengapExpiry | .pcieLinkStateChange ..
  | .mgtLinkStatusChange .. | .usbAttach | .rowIdleClose .. | .eresminExpiry .. | .machineTimerExpiry .. | .savePathReady => true
  | _ => false

/-- A frame on `path` reaches DIC at once (R44, R54): the path is up, DIC is not held, and neither a frame nor a load of entries is
in progress. -/
def dicReady (s : State) (path : Nat) : Prop :=
  awake s = true ∧ s.rst.held = false ∧ pathUp s path = true ∧ s.on R.BLKSTAT_ISOLATED 0 1 = false ∧ s.dic.cur = none ∧
    s.dic.extPend = []

/-- The frame `f` of kind `k` is one that the open session `x` of `path` takes as its next request (R49 to R51). -/
def accepts (s : State) (x : Session) (path k : Nat) (f : List Nat) : Prop :=
  malformed f = false ∧ frameKind f = k ∧ s.dic.sessions.find? (frameSess f) = some x ∧ x.path = path ∧ x.isOpen = true ∧
    frameTag f = Crypto.cmac x.key (f.take (12 + frameLen f)) ∧ frameSeq f = x.lastSeq + 1

/-- The frame `f` of operation `op` is one that the service port's open session `x` takes as its next request (R442, R443). -/
def svcAccepts (s : State) (x : Session) (op : Nat) (f : List Nat) : Prop :=
  svcUp s = true ∧ svcBad f = false ∧ svcOp f = op ∧ s.svc.session = some x ∧ x.isOpen = true ∧
    svcTag f = Crypto.cmac x.key (f.take (16 + svcLen f)) ∧ svcSeq f = x.lastSeq + 1

/-- The state in which an accepted request of the service port acts: its tag is counted, the session's time is now. -/
def svcTaken (s : State) (x : Session) (f : List Nat) : State :=
  { tagBlocks s (16 + svcLen f) with svc := { s.svc with session := some { x with lastTime := s.now } } }

/-- The register lists in their canonical form: keys strictly rising. -/
def RegFile.wf (r : RegFile) : Prop :=
  (((Sparse.wf r.val = true ∧ Sparse.wf r.shadow = true) ∧ (Sparse.wf r.group = true ∧ Sparse.wf r.since = true)) ∧
    Sparse.wf r.ctr = true) ∧ (Sparse.wf r.bank0 = true ∧ Sparse.wf r.bank1 = true)

/-- Fuses only burn: all of them as before but the rollback count, which never falls (R468). -/
def Fuses.grown (a f : Fuses) : Prop := f = { a with rollback := f.rollback } ∧ a.rollback ≤ f.rollback

/-- Tier D memory and the register lists in their canonical forms. -/
def State.canonical (s : State) : Prop := Memory.wf s.dram.data = true ∧ s.rf.wf

end Sys2Proof.Machine
end

