-- ==== Sys2Proof/Certificates/Slice0/Obligations.lean ====
section
/-! DEFINITION. The statements for the provers: what the block does in every state, its invariants and frames, and for every
command of the table where it completes and with what effect. -/

open Sys2Proof Sys2Proof.Machine

/-- A step runs the command at the front of the queue on the state with the queue's rest -/
def Obligations.StepRunsTheFrontCommand : Prop :=
  ∀ (s : State) (c : Instr) (rest : List Instr), s.pending = c :: rest → step s = exec c { s with pending := rest }

/-- A block refuses nothing: from any state the waiting commands all run, one a step and at one clock value, and from then on
every step is a microsecond that passes (log entries 2 and 3: the model's choices). -/
def Obligations.QueuesDrain : Prop :=
  ∀ s : State, ∃ f : Nat → State, f 0 = s ∧ (∀ i, step (f i) = .next (f (i + 1))) ∧
    (∀ i, i ≤ s.pending.length → (f i).pending = s.pending.drop i ∧ (f i).now = s.now) ∧
    ∀ i, s.pending.length ≤ i → f (i + 1) = tick (f i) ∧ (f i).pending = []

/-- In a run the fuses only burn, the clock never goes back, and no output is taken back. -/
def Obligations.RunsOnlyBurnFuses : Prop :=
  ∀ (f : Nat → State) (n : Nat), (∀ i, i < n → step (f i) = .next (f (i + 1))) →
    (f 0).fuses.grown (f n).fuses ∧ (f 0).now ≤ (f n).now ∧ (f 0).out <:+ (f n).out

/-- The state after reset is canonical. -/
def Obligations.ResetIsCanonical : Prop := State.reset.canonical ∧ State.reset.pending = []

/-- What reset leaves: STANDBY with the core domain held, every register of every block at its reset value, counters at 0, no
session, no request, no job, and nothing sent. -/
def Obligations.ResetLeavesDefaults : Prop :=
  State.reset.dev = .standby ∧ State.reset.rst.held = true ∧
    (∀ (F : Fld) (i b : Nat), State.reset.rd F i b = F.dflt (i + F.cnt * b) ∧
      State.reset.shadowed F i b = F.dflt (i + F.cnt * b)) ∧
    (∀ (C : Ctr) (i b : Nat), State.reset.ctr C i b = 0) ∧ State.reset.dic.sessions = [] ∧ State.reset.xpt.reqs = [] ∧
    State.reset.mst.jobs = [] ∧ State.reset.out = [] ∧ ∀ a n, dRead State.reset a n = List.replicate n 0

/-- The frame of every command: it changes only the parts of the state that `touches` lists for it, neither the queue nor the
clock; outputs are only added and fuses only burn. -/
def Obligations.CommandsStayInTheirParts : Prop :=
  ∀ (c : Instr) (s t : State), exec c s = .next t →
    (∀ p : StPart, p ∉ touches c → p.same s t) ∧ t.pending = s.pending ∧ t.now = s.now ∧ s.out <:+ t.out ∧ s.fuses.grown t.fuses

/-- Every step keeps the canonical forms of tier D memory and of the register lists. -/
def Obligations.StepKeepsCanonical : Prop :=
  ∀ s t : State, s.canonical → step s = .next t → t.canonical

/-- While the core domain is not supplied, the commands of the fabric do nothing. -/
def Obligations.UnpoweredFabricIsInert : Prop :=
  ∀ (c : Instr) (s : State), fabric c = true → awake s = false → exec c s = .next s

/-- R336: superblock k is block ⌊k / DPC⌋ of die k mod DPC, and it is of the save area where SBBASE ≤ block < SBBASE + SBCOUNT. -/
def Obligations.SuperblockNumbers : Prop :=
  ∀ (s : State) (k : Nat),
    (∀ l : SLoc, l.die < dpc s → (locSb s l = k ↔ l.block = k / dpc s ∧ l.die = k % dpc s)) ∧
    (∀ w n : Nat, (rowLoc s k w n).block = k / dpc s ∧ (rowLoc s k w n).die = k % dpc s) ∧
    (inSaveArea s k = true ↔ s.rd R.SAV_AREA_SBBASE ≤ k / dpc s ∧
      k / dpc s < s.rd R.SAV_AREA_SBBASE + s.rd R.SAV_AREA_SBCOUNT) ∧
    ∀ j : Nat, saveSb s j / dpc s = s.rd R.SAV_AREA_SBBASE + j / dpc s ∧ saveSb s j % dpc s = j % dpc s

/-- R391: a reset of level 1 is refused for PWR, RST and CLK in every state, and in SERVING for DRC, TRN, TIE, GOV, SAV and STF:
event 0x4080 is raised, and the command ends FAILED. Software can ask for level 1 where the reach table gives its source a level. -/
def Obligations.LevelOneResetsRefused : Prop :=
  (∀ (s : State) (a : ResetArg) (cmd : Bool), awake s = true → a.level.toNat = 1 → reachOf s 4 ≠ 7 → 1 ≤ reachOf s 4 →
    (a.block.toNat ∈ [12, 13, 14] ∨ (s.dev = .serving ∧ (42 ≤ a.block.toNat ∨ a.block.toNat ∈ [18, 21, 22, 23, 25]))) →
    ∃ (why : Nat) (t : State), t = raise s 0x4080 [4, 1, a.block.toNat, Config.payloadCode 0x4080 why] ∧
      exec (.softwareResetRequest a cmd) s = .next
        (if cmd then cmdFail t (ekey 0x2A10 8) (Config.failureCode (ekey 0x2A10 8)) else t)) ∧
  (∀ (s : State) (a : ResetArg), awake s = true → s.on R.KEY_STAT_DEBUG = true → a.level.toNat = 1 → reachOf s 5 ≠ 7 →
    1 ≤ reachOf s 5 →
    (a.block.toNat ∈ [12, 13, 14] ∨ (s.dev = .serving ∧ (42 ≤ a.block.toNat ∨ a.block.toNat ∈ [18, 21, 22, 23, 25]))) →
    ∃ why : Nat, exec (.debugResetRequest a) s = .next (raise s 0x4080 [5, 1, a.block.toNat, Config.payloadCode 0x4080 why])) ∧
  ∀ (t : State) (e code : Nat), (cmdStat (cmdFail t e code) e).state = 3

/-- R59: in SERVING, GO = 0 is refused with BUSY on the main road and changes nothing, GO included; outside RISING a STOP field of
such a block whose GO was set since its last reset keeps its value, and the write is answered BUSY with REFUSED and event 0x0880. -/
def Obligations.MainRoadStaysUp : Prop :=
  (∀ (s : State) (b : Fin 58), s.dev = .serving → mainRoad b = true →
    exec (.blockGoWrite b false) s = .next s ∧ goWrite s b false = (s, stBusy)) ∧
  (∀ n : Nat, n < 58 → (mainRoad n = true ↔ n = 18 ∨ n = 21 ∨ n = 22 ∨ n = 23 ∨ n = 24 ∨ n = 25 ∨ (26 ≤ n ∧ n ≤ 29) ∨
    (30 ≤ n ∧ n ≤ 33) ∨ 42 ≤ n)) ∧
  (∀ (s : State) (n : Nat) (F : Fld) (i v w : Nat), mainRoad n = true → s.dev ≠ .rising → s.on R.BLKSTAT_STARTED 0 n = true →
    F.app = .stop → 8 < F.offset i → F.offset i < 0x100000 → F.lsb < 32 → (takeField s n F i v w).2 = stBusy ∧ (takeField s n F i v w).1 =
      raise (s.wr R.BLKSTAT_REFUSED 1 0 n) 0x0880 [n, F.offset i, Config.payloadCode 0x0880 w] ∧
      (takeField s n F i v w).1.rd F i (copyOf F n) = s.rd F i (copyOf F n)) ∧
  ∀ (s : State) (n : Nat), n < 58 → mainRoad n = true → (startBlock s n).on R.BLKSTAT_STARTED 0 n = true

/-- R64: a value outside its field's limits is refused whatever the class, with status RANGE: nothing changes; and in a write of a
whole word only the fields within their limits take their values. -/
def Obligations.ValuesOutOfLimitsAreRefused : Prop :=
  (∀ (s : State) (n i v w : Nat) (F : Fld), F.lim.ok v = false → writeField s n F i v w = (s, stRange)) ∧
  (∀ (s : State) (n i v w : Nat) (F : Fld), 2 ^ F.wid ≤ v → writeField s n F i v w = (s, stRange)) ∧
  ∀ (s : State) (n off w k : Nat), (writeWord s n off w k).1 =
      (wordTaken s n off w).foldl (fun t Fi => (takeField t (homeOf n off) Fi.1 Fi.2 (bits w Fi.1.lsb Fi.1.wid) k).1) s ∧
    ∀ Fi ∈ wordTaken s n off w, Fi ∈ wordFields n off ∧ Fi.1.writable = true ∧ fieldOk s (homeOf n off) off w Fi.1 Fi.2 = true

/-- R90: the home of a page is HOME of its extent; with INTERLEAVE the pages with an even number have home SIDE0, the others SIDE1. -/
def Obligations.PageHomes : Prop :=
  ∀ (s : State) (p : Nat), ((extentAt s (p / 512)).home = 0 → homeSide s p = 0) ∧ ((extentAt s (p / 512)).home = 1 → homeSide s p = 1) ∧
    ((extentAt s (p / 512)).home = 2 → (p % 2 = 0 → homeSide s p = 0) ∧ (p % 2 = 1 → homeSide s p = 1))

/-- R326: an activity instance's owner number is 128 × activity + instance; a free resource is granted at once; of the waits for one
resource the highest activity code is granted first, and the lowest owner number among equal codes; each resource on its own. -/
def Obligations.FarrierGrants : Prop :=
  (∀ a i : Nat, i < 128 → actCode (128 * a + i) = a) ∧
  (∀ (s : State) (owner n : Nat), s.far.held.find? n = none → s.far.waits.any (fun w => w.res = n && w.owner = owner) = false →
    grants s owner = true → (farAsk s owner n).far.held.find? n = some owner) ∧
  (∀ (s : State) (n : Nat) (w : FarReq), nextWait s n = some w → w ∈ s.far.waits ∧ w.res = n ∧ grants s w.owner = true ∧
    ∀ x ∈ s.far.waits, x.res = n → grants s x.owner = true →
      actCode x.owner < actCode w.owner ∨ (actCode x.owner = actCode w.owner ∧ w.owner ≤ x.owner)) ∧
  (∀ (s : State) (n : Nat) (w : FarReq), s.far.held.find? n = none → nextWait s n = some w →
    (farGrant s n).far.held.find? n = some w.owner) ∧
  ∀ (s : State) (owner : Nat) (res : List Nat), awake s = true → ownerOk owner = true →
    exec (.farrierRequest owner res) s = .next ((res.filter (fun n => decide (n < 122))).foldl (fun t n => farAsk t owner n) s)

/-- R50: a request of an open session whose tag fails is dropped without an answer and counted; nothing else changes. -/
def Obligations.FramesWithBadTagsAreDropped : Prop :=
  ∀ (s : State) (path : Fin 4) (src : Nat) (f : List Nat) (x : Session), dicReady s path → malformed f = false →
    s.dic.sessions.find? (frameSess f) = some x → x.path = path → x.isOpen = true →
    frameTag f ≠ Crypto.cmac x.key (f.take (12 + frameLen f)) →
    ∃ t : State,
      (frameKind f = 5 → exec (.aidricRead path src f) s = .next t) ∧ (frameKind f = 6 → exec (.aidricWrite path src f) s = .next t) ∧
      (frameKind f = 8 → exec (.aidricKeepalive path src f) s = .next t) ∧
      (frameKind f = 9 → exec (.aidricClose path src f) s = .next t) ∧
      t.dic.sessions = s.dic.sessions ∧ ent t (ekey 0x2002 2) 0 = (ent s (ekey 0x2002 2) 0 + 1) % 2 ^ 32 ∧
      ∀ p : StPart, p ∉ [.dic, .pci, .ctrs] → p.same s t

/-- R46: a WRITE frame with ALL in which one item fails its checks applies none. -/
def Obligations.AllFramesApplyAllOrNone : Prop :=
  ∀ (s : State) (path : Fin 4) (src : Nat) (f : List Nat) (x : Session) (items : List Item) (it : Item), dicReady s path →
    accepts s x path 6 f → bit (frameFlags f) 6 = true → frameSeq f ≠ 0xFFFFFFFF →
    parseItems true 64 (frameBody f) = some items → it ∈ items → writeCheck s x.role it ≠ stOk →
    ∃ t : State, exec (.aidricWrite path src f) s = .next t ∧
      ∀ p : StPart, p ∉ [.dic, .pci, .twn, .out, .ctrs] → p.same s t

/-- R83, R147: a request that fails the access check touches no memory and no map and holds no token; it is counted and answered. A
request whose region's map line is poisoned ends with the operational error instead (Table 10.6). -/
def Obligations.FailedAccessTouchesNothing : Prop :=
  (∀ (s : State) (id : Nat) (r : Req), reqAt s id = some r → r.stage = .translate → r.passed = false →
    badEntry s (regAddr (bits r.rkey 10 14)) = false →
    accessCause s (qpAt s r.qp).tenant r.rkey r.va r.len r.kind ≠ 0 →
    ∃ t : State, exec (.translateRequest id) s = .next t ∧
      (∀ p ∈ [StPart.dram, .maps, .gov, .tie, .stf, .drc, .log, .mst], p.same s t) ∧
      t.rd R.GOV_OUT = (s.rd R.GOV_OUT - r.tokens) % 2 ^ R.GOV_OUT.wid ∧
      (reqAt t id).map (fun q => (q.fate, q.stage, q.tokens)) = some (.access, .done, 0) ∧
      (qpAt t r.qp).viols = ((qpAt s r.qp).viols + 1) % 2 ^ 32) ∧
  ∀ (s : State) (id : Nat) (r : Req), reqAt s id = some r → r.stage = .translate → r.passed = false →
    badEntry s (regAddr (bits r.rkey 10 14)) = true →
    ∃ t : State, exec (.translateRequest id) s = .next t ∧
      (∀ p ∈ [StPart.dram, .maps, .gov, .tie, .stf, .drc, .log, .mst], p.same s t) ∧
      (reqAt t id).map (fun q => (q.fate, q.stage, q.tokens)) = some (.operational, .done, 0)

/-- R255: after the governor's tick, C lies under the cap; FREEZE holds a computed ceiling down and never up. -/
def Obligations.CeilingStaysUnderTheCap : Prop :=
  ∀ (s : State) (vmod : List Nat), awake s = true → s.running 21 = true → s.rst.held = false →
    ∃ t : State, exec (.govTick vmod) s = .next t ∧ t.gov.computed = true ∧ t.gov.ceil ≤ s.rd R.GOV_CAP_CAP * 2 ^ 30 ∧
      (s.on R.GOV_CTL_FREEZE = true → s.gov.computed = true → t.gov.ceil ≤ s.gov.ceil)

/-- R437, R438: an occurrence that finds a token is the newest record, numbered one above the last; any other is counted; nothing
but the recorder, the outputs and the counters changes. -/
def Obligations.EventsAreRecordedOrCounted : Prop :=
  ∀ (s : State) (code : Nat) (payload named : List Nat) (sev : Nat),
    (hasToken s code = true → (occur s code payload named sev).recd.head = s.recd.head + 1 ∧
      ∃ r : EvRec, (occur s code payload named sev).recd.ring = (r :: s.recd.ring).take 16384 ∧ r.seq = s.recd.head + 1 ∧
        r.code = code ∧ r.payload = payload ∧ r.sev = sev ∧ r.suppressed = s.recd.suppressed.get code 0) ∧
    (hasToken s code = false → (occur s code payload named sev).recd.head = s.recd.head ∧
      (occur s code payload named sev).recd.ring = s.recd.ring ∧
      (occur s code payload named sev).recd.suppressed.get code 0 = s.recd.suppressed.get code 0 + 1) ∧
    ∀ p : StPart, p ∉ [.recd, .out, .ctrs] → p.same s (raise s code payload)

/-- Tier D reads what was last written to each of its bytes, and a write keeps the canonical form. -/
def Obligations.TierDReadsWhatWasWritten : Prop :=
  ∀ (s : State) (a : Nat) (bs : List Nat), Memory.wf s.dram.data = true → (∀ x ∈ bs, x < 256) →
    Memory.wf (dWrite s a bs).dram.data = true ∧
    ∀ b : Nat, dRead (dWrite s a bs) b 1 = if a ≤ b ∧ b < a + bs.length then [bs.getD (b - a) 0] else dRead s b 1

/-- R101: the stripe maps tier D onto the channels one to one. -/
def Obligations.StripesInvert : Prop :=
  ∀ (s : State) (a : Nat), a < geometryBytes s →
    (stripe s a).1 < 16 ∧ (stripe s a).2 < geometryBytes s / 16 ∧ unstripe s (stripe s a).1 (stripe s a).2 = a

/-- The power button, on and off requests act by device state. Rests on R375, Table 12.3; the model's choices that bear on it are
log entries 2, 4, 63, 64, 84, 86, 191. -/
def Obligations.PowerRequestsAct : Prop :=
  (∀ (s : State) (ms : Nat), s.dev = .standby → 10 * s.rd R.PWR_CTL_BTNMIN ≤ ms → ∃ t, exec (.pwrBtnPress ms) s = .next t ∧
    t.dev = .rising ∧ t.rd R.PWR_SEQSTAT_PHASE = 1 ∧ t.rd R.PWR_SEQSTAT_STEP = 0 ∧ t.rd R.PWR_SEQSTAT_ONLATCH = 0 ∧
    t.rd R.CLK_STAT_LOCKED = 0 ∧ t.clk.locking = true) ∧
  (∀ (s : State) (ms : Nat), ms < 10 * s.rd R.PWR_CTL_BTNMIN → exec (.pwrBtnPress ms) s = .next s) ∧
  (∀ (s : State) (ms : Nat), s.dev = .saved → 10 * s.rd R.PWR_CTL_BTNMIN ≤ ms → ∃ t, exec (.pwrBtnPress ms) s = .next t ∧
    t.dev = .saved ∧ t.rd R.PWR_SEQSTAT_ONLATCH = 1) ∧
  (∀ (s : State) (ms : Nat), s.dev = .serving → 10 * s.rd R.PWR_CTL_BTNMIN ≤ ms → ∃ t, exec (.pwrBtnPress ms) s = .next t ∧
    t.dev = .saving) ∧
  (∀ (s : State), s.dev = .saved → ∃ t, exec .onRequestCmd s = .next t ∧ t.rd R.PWR_SEQSTAT_ONLATCH = 1 ∧
    cmdStat t (ekey 0x2A01 2) = { state := 2, code := 0, progress := 0xFFFF }) ∧
  (∀ (s : State), s.dev = .serving → ∃ t, exec .offRequestCmd s = .next t ∧ t.dev = .saving)

/-- Warnings, brown-outs, an input collapse and power-on act on the device state. Rests on R20, R375, R378, R381, R382, R388; the
model's choices that bear on it are log entries 4, 63, 64, 67, 83, 84, 174. -/
def Obligations.InputPowerActs : Prop :=
  (∀ (s : State) (floorLost : Bool), s.dev = .off → ∃ t, exec (.powerOnReset floorLost) s = .next t ∧
    (t.dev = .standby ∨ t.dev = .rising) ∧ t.fuses = s.fuses) ∧
  (∀ (s : State) (pin : Bool) (mv : Nat), s.dev = .standby → s.on R.PWR_INSTAT_WARN = false → ∃ t,
    exec (.earlyPowerFailWarning pin mv) s = .next t ∧ t.dev = .standby ∧ t.rd R.PWR_INSTAT_WARN = 1 ∧
    t.rd R.PWR_INSTAT_EPFRAW = b2n pin ∧ t.rd R.PWR_ADC 8 = adcCode mv % 4096) ∧
  (∀ (s : State) (pin : Bool) (mv : Nat), s.dev = .serving → s.on R.PWR_INSTAT_WARN = false → ∃ t,
    exec (.earlyPowerFailWarning pin mv) s = .next t ∧ t.dev = .saving) ∧
  (∀ (s : State), s.dev = .serving → ∃ t, exec .inputPowerQualified s = .next t ∧ t.rd R.PWR_INSTAT_WARN = 0 ∧
    t.rd R.PWR_INSTAT_EPFRAW = 0 ∧ t.pwr.boVin = false) ∧
  (∀ (s : State), s.dev = .saved → s.rst.pend5 = none → ∃ t, exec .inputPowerQualified s = .next t ∧ t.dev = .falling ∧
    t.rd R.PWR_SEQSTAT_PHASE = 2 ∧ t.rd R.PWR_SEQSTAT_STEP = 0) ∧
  (∀ (s : State) (reading : Nat), s.dev = .serving → s.pwr.boVin = false → reachOf s 1 = 5 → ∃ t,
    exec (.brownOut none reading) s = .next t ∧ t.dev = .saving) ∧
  (∀ (s : State), s.dev ≠ .off → ∃ t, exec .inputCollapse s = .next t ∧ t.dev = .off ∧ t.kpf.queue = [] ∧ t.rst.held = true ∧
    t.rd R.PWR_SEQSTAT_PHASE = 2 ∧ t.rd R.PWR_SEQSTAT_STEP = 0)

/-- Losses of the main shaft and its reference, its lock, and the ends of the sequence tables. Rests on R376, R393, R396, R397,
R408, Table 1.6; the model's choices that bear on it are log entries 63, 78, 79. -/
def Obligations.ClocksAndTableEndsAct : Prop :=
  (∀ (s : State) (a b : Bool), shaftRuns s = true → s.clk.refOk = true → (a = true ∨ b = true) → s.dev ≠ .falling → ∃ t,
    exec (.mainShaftLoss a b) s = .next t ∧ t.dev = .falling ∧ t.rd R.PWR_SEQSTAT_PHASE = 2 ∧ t.rd R.PWR_SEQSTAT_STEP = 0) ∧
  (∀ (s : State), s.dev = .standby → s.clk.refOk = true → ∃ t, exec .clockFailure s = .next t ∧ t.clk.refOk = false ∧
    t.rd R.RST_CLK_REFLOSS = 1) ∧
  (∀ (s : State), s.dev = .saving → shaftRuns s = true → s.clk.refOk = true → reachOf s 6 = 4 → ∃ t,
    exec .clockFailure s = .next t ∧ t.dev = .saving ∧ t.clk.locking = true ∧ t.clk.refwaitOver = true ∧
    t.rd R.CLK_STAT_HOLDOVER = 1 ∧ t.rd R.CLK_STAT_LOCKED = 0 ∧ t.rst.pend4 = some { level := 4, source := 6, block := 0 }) ∧
  (∀ (s : State), s.clk.locking = true → s.clk.refwaitOver = false → ∃ t, exec .refwaitExpiry s = .next t ∧ t.clk.refOk = false ∧
    t.clk.refwaitOver = true ∧ t.clk.locking = true) ∧
  (∀ (s : State) (ref : Bool) (us : Nat), s.dev = .saving → s.clk.locking = true → (ref = true ∨ s.clk.refwaitOver = true) → ∃ t,
    exec (.mainShaftLock ref us) s = .next t ∧ t.clk.refOk = ref ∧ t.clk.locking = false ∧ t.rd R.CLK_STAT_LOCKED = 1 ∧
    t.rd R.CLK_STAT_HOLDOVER = 0 ∧ t.rd R.CLK_STAT_SRC = b2n s.clk.refwaitOver) ∧
  (∀ (s : State), s.dev = .rising → s.rd R.PWR_SEQSTAT_PHASE = 1 → stepOp (curEntry s) = 0 → s.rf.shadow = [] →
    s.on R.PWR_SEQSTAT_OFFPEND = false → s.on R.CLK_STAT_LOCKED = false → ∃ t, exec .risingTableEnd s = .next t ∧
    t.dev = .rising ∧ t.pwr.risen = true ∧ t.rd R.PWR_SEQSTAT_PHASE = 0) ∧
  (∀ (s : State), s.dev = .falling → s.rd R.PWR_SEQSTAT_PHASE = 2 → stepOp (curEntry s) = 0 → s.rst.pend5 = none → ∃ t,
    exec .fallingTableEnd s = .next t ∧ (t.dev = .standby ∨ t.dev = .rising))

/-- What the steps of the rising and falling tables do. Rests on R369, R370, R371, R379, R383, R398, Table 12.2; the model's
choices that bear on it are log entries 77, 79, 80, 81. -/
def Obligations.SequencerStepsAct : Prop :=
  (∀ (s : State), atStep s 1 1 = true → stepArg (curEntry s) < 24 → s.rbit R.PWR_PGSTAT (stepArg (curEntry s)) = false → ∃ t,
    exec .seqEnable s = .next t ∧ t.rbit R.PWR_ENSTAT (stepArg (curEntry s)) = true ∧ t.pwr.stepOn = true) ∧
  (∀ (s : State), inStep s 1 1 = true → stepHard (curEntry s) = true → ∃ t, exec .enableTimeout s = .next t ∧ t.dev = .falling ∧
    t.rd R.PWR_SEQSTAT_PHASE = 2 ∧ t.rd R.PWR_SEQSTAT_ONLATCH = 0 ∧ t.rd R.PWR_SEQSTAT_STEP = stepMirror (curEntry s) % 64) ∧
  (∀ (s : State), atStep s 2 2 = true → stepArg (curEntry s) < 24 → s.rbit R.PWR_ENSTAT (stepArg (curEntry s)) = true →
    bit s.pwr.pgFilt (stepArg (curEntry s)) = true → ∃ t, exec .seqDisable s = .next t ∧
    t.rbit R.PWR_ENSTAT (stepArg (curEntry s)) = false ∧ t.pwr.stepOn = true) ∧
  (∀ (s : State), inStep s 2 2 = true → ∃ t, exec .disableTimeout s = .next t ∧
    t.rd R.PWR_SEQSTAT_STEP = (s.rd R.PWR_SEQSTAT_STEP + 1) % 64 ∧ t.pwr.stepOn = false) ∧
  (∀ (s : State), atAny s 3 = true → exec .seqWait s = .next (stepStarted s)) ∧
  (∀ (s : State), inAny s 3 = true → s.on R.PWR_SEQSTAT_OFFPEND = false → ∃ t, exec .seqWaitExpiry s = .next t ∧
    t.rd R.PWR_SEQSTAT_STEP = (s.rd R.PWR_SEQSTAT_STEP + 1) % 64 ∧ t.pwr.stepStart = s.now ∧ t.pwr.stepOn = false) ∧
  (∀ (s : State), atAny s 4 = true → s.rd R.PWR_PMBCMD_ADDR (stepArg (curEntry s)) ≠ 0 → ∃ t, exec .seqPmbus s = .next t ∧
    t.pwr.stepOn = true ∧ t.out = .pmbus (s.rd R.PWR_PMBCMD_ADDR (stepArg (curEntry s))) (s.rd R.PWR_PMBCMD_CMD (stepArg
    (curEntry s))) (leBytes (s.rd R.PWR_PMBCMD_DATA (stepArg (curEntry s))) (s.rd R.PWR_PMBCMD_LEN (stepArg (curEntry s)))) ::
    s.out) ∧
  (∀ (s : State), inAny s 4 = true → s.on R.PWR_SEQSTAT_OFFPEND = false → ∃ t, exec (.pmbusTransactionDone .ok) s = .next t ∧
    t.rd R.PWR_SEQSTAT_STEP = (s.rd R.PWR_SEQSTAT_STEP + 1) % 64 ∧ t.pwr.stepOn = false) ∧
  (∀ (s : State), atStep s 1 5 = true → stepArg (curEntry s) < 4 → bit s.rst.stretched (stepArg (curEntry s)) = true →
    s.on R.PWR_SEQSTAT_OFFPEND = false → ∃ t, exec .seqRstrel s = .next t ∧
    t.rbit R.RST_OUTSTAT_ASSERTED (stepArg (curEntry s)) = false ∧
    t.rd R.PWR_SEQSTAT_STEP = (s.rd R.PWR_SEQSTAT_STEP + 1) % 64) ∧
  (∀ (s : State), atStep s 2 6 = true → stepArg (curEntry s) < 4 → ∃ t, exec .seqRstassert s = .next t ∧
    t.rbit R.RST_OUTSTAT_ASSERTED (stepArg (curEntry s)) = true ∧ t.rd R.PWR_SEQSTAT_STEP = (s.rd R.PWR_SEQSTAT_STEP + 1) % 64) ∧
  (∀ (s : State), atAny s 7 = true → stepArg (curEntry s) = 1 → s.gov.test = none → s.on R.PWR_SEQSTAT_OFFPEND = false → ∃ t,
    exec .seqCharger s = .next t ∧ t.pwr.chg = true ∧ t.rd R.PWR_INSTAT_CHGEN = 1 ∧
    t.rd R.PWR_SEQSTAT_STEP = (s.rd R.PWR_SEQSTAT_STEP + 1) % 64)

/-- Changes of a rail's good, ends of output stretches and commits of the sequence tables. Rests on R63, R368, R372, R374, R398;
the model's choices that bear on it are log entries 77, 79, 81, 84. -/
def Obligations.RailGoodsAndTablesAct : Prop :=
  (∀ (s : State) (r : Fin 24), s.dev ≠ .off → bit s.pwr.pgFilt r = false → ∃ t, exec (.railGoodChange r true) s = .next t ∧
    t.pwr.pgFilt = bitSet s.pwr.pgFilt r ∧ t.pwr.pgRaw = bitSet s.pwr.pgRaw r ∧ t.rf = s.rf) ∧
  (∀ (s : State) (r : Fin 24), s.dev ≠ .off → bit s.pwr.pgFilt r = true → s.rd R.PWR_SEQSTAT_PHASE = 0 →
    bit s.pwr.servQual r = false → ∃ t, exec (.railGoodChange r false) s = .next t ∧ t.pwr.pgFilt = bitClr s.pwr.pgFilt r ∧
    t.rbit R.PWR_PGSTAT r = false ∧ t.pwr.cross = s.pwr.cross.ins r (s.pwr.cross.get r 0 + 1)) ∧
  (∀ (s : State) (r : Fin 24), s.dev = .serving → bit s.pwr.pgFilt r = true → s.rd R.PWR_SEQSTAT_PHASE = 0 → ∃ t,
    exec (.railGoodQualified r) s = .next t ∧ t.rbit R.PWR_PGSTAT r = true ∧ t.rbit R.PWR_LOST r = false ∧
    t.pwr.servQual = bitSet s.pwr.servQual r) ∧
  (∀ (s : State) (o : Fin 4), bit s.rst.stretching o = true → s.on R.RST_OUT_AUTO o = true → s.rd R.PWR_SEQSTAT_PHASE = 0 → ∃ t,
    exec (.resetOutputStretchEnd o) s = .next t ∧ t.rbit R.RST_OUTSTAT_ASSERTED o = false ∧
    t.rst.stretched = bitSet s.rst.stretched o ∧ t.rst.stretching = bitClr s.rst.stretching o) ∧
  (∀ (s : State) (b : Nat × Nat × Nat), awake s = true → seqRefusal (offered s R.PWR_RISE) (offered s R.PWR_FALL) = some b → ∃ t,
    exec .seqTableCommit s = .next t ∧ t.rd R.PWR_SEQSTAT_SEQBAD = 1 ∧ t.rd R.PWR_SEQSTAT_BADTAB = b.1 % 2 ∧
    t.rd R.PWR_SEQSTAT_BADSTEP = b.2.1 % 64 ∧ t.rf.group = s.rf.group.keep (fun k => keyBlock k ≠ 12)) ∧
  (∀ (s : State) (F : Fld) (i : Fin 64) (v : Nat), awake s = true →
    seqRefusal (offered s R.PWR_RISE) (offered s R.PWR_FALL) = none → (F = R.PWR_RISE ∨ F = R.PWR_FALL) →
    s.rd R.PWR_SEQSTAT_PHASE = 0 → Sparse.wf s.rf.group = true → Sparse.wf s.rf.shadow = true →
    s.rf.group.find? (F.key i 0) = some v → ∃ t, exec .seqTableCommit s = .next t ∧ t.rd F i = v) ∧
  (∀ (s : State), awake s = true → seqRefusal (offered s R.PWR_RISE) (offered s R.PWR_FALL) = none → s.rf.group = [] →
    s.rd R.PWR_SEQSTAT_PHASE ≠ 0 → ∃ t, exec .seqTableCommit s = .next t ∧ t.rd R.PWR_SEQSTAT_SEQBAD = 0)

/-- Telemetry, the power cap, margins and capacitance tests. Rests on R32, R252, R254, R384, R385, 12_power_reset.md; the model's
choices that bear on it are log entries 9, 26, 55, 56, 80, 82. -/
def Obligations.TelemetryAndTestsAct : Prop :=
  (∀ (s : State) (reads : List (Option Nat × Option Nat)), s.dev ≠ .off → ∃ t, exec (.pmbusTelemetryPoll reads) s = .next t ∧
    t.rd R.PWR_POWER_WATTS = ((List.range 24).foldl (fun a r => if t.on R.PWR_RAIL_TELEM r then a + t.pwr.vout.get r 0 *
    t.pwr.iout.get r 0 else a) 0) / 100000 % 65536) ∧
  (∀ (s : State) (protectedW : Nat), s.dev = .serving → (rowInForce s 12).pwrcap < s.rd R.PWR_POWER_WATTS → redSteps s < redMax →
    ∃ t, exec (.powerCapMeasurement protectedW) s = .next t ∧ t.gai.capSteps = redSteps s + 1 ∧
    t.gai.tempSteps = s.gai.tempSteps) ∧
  (∀ (s : State), s.dev = .serving → s.pwr.marginBusy = none → s.rd R.PWR_RAIL_PMBADDR (s.rd R.PWR_MARGIN_RAIL) ≠ 0 → ∃ t,
    exec .marginApply s = .next t ∧ t.pwr.marginBusy = some (s.rd R.PWR_MARGIN_RAIL, s.rd R.PWR_MARGIN_MODE) ∧
    t.rd R.PWR_MARGSTAT_BUSY = 1 ∧ t.rd R.PWR_MARGSTAT_REFUSED = 0 ∧
    cmdStat t (ekey 0x2A03 3) = { state := 1, code := 0, progress := 0 } ∧ t.out.length = s.out.length + 1) ∧
  (∀ (s : State) (m : Fin 8) (reading : Nat), awake s = true → s.running 21 = true → s.rbit R.GOV_CTL_MODEN m = true →
    s.rbit R.GOV_STAT_FAILED m = false → (readingOut reading = true ∨ s.rd R.GOV_STEP_STEPDV < s.rd R.GOV_VMOD m - reading) →
    exec (.moduleFailed m reading) s = .next (govStep ((raise (s.wbit R.GOV_STAT_FAILED m true) (0x2020 + m.val) [m.val, s.rd
    R.GOV_VMOD m, reading]).wr R.GOV_VMOD reading m))) ∧
  (∀ (s : State) (m : Fin 8), testable s m = true → s.dev = .restoring → ∃ t, exec (.capacitanceTestStart m) s = .next t ∧
    t.gov.test = some m.val ∧ t.pwr.bleed = 2 ^ m.val ∧ t.rd R.GOV_STAT_TESTING = 1 ∧ t.rd R.PWR_INSTAT_CHGEN = 0) ∧
  (∀ (s : State) (m : Nat), m < 8 → testable s m = true → s.dev = .restoring → s.gov.testCmd = false → ∃ t,
    exec (.capacitanceTestCmd m) s = .next t ∧ t.gov.test = some m ∧ t.gov.testCmd = true ∧ t.pwr.bleed = 2 ^ m ∧
    cmdStat t (ekey 0x2611 2) = { state := 1, code := 0, progress := 0 }) ∧
  (∀ (s : State) (m v0 v1 : Nat), s.gov.test = some m → s.gov.testCmd = false →
    8 * s.rd R.GOV_CNOM_CNOM ≤ 10 * capMeasured s v0 v1 → readingOut v1 = false →
    exec (.capacitanceTestEnd v0 v1) s = .next (govStep (farRelease (raise ((((({ s with gov := { s.gov with test := none, testCmd := false, testMask := bitSet s.gov.testMask m, lastTest := s.now }, pwr := { s.pwr with bleed := 0 } } : State).wr R.GOV_STAT_TESTING 0).wr R.PWR_INSTAT_CHGEN (b2n s.pwr.chg)).wr R.GOV_CMEAS (capMeasured s v0 v1) m |>.wbit R.GOV_STAT_FAILED m false)) 0x20C0 [m, v0, v1, capMeasured s v0 v1]) 0 121)))

/-- The reset sources act at the level that RST_REACH gives them. Rests on R388, R389, R392, R393, R446, R447; the model's choices
that bear on it are log entries 12, 61, 62, 63, 65, 66, 83, 85, 86, 140, 170, 191. -/
def Obligations.ResetSourcesAct : Prop :=
  (∀ (s : State), s.dev = .serving → reachOf s 2 = 5 → ∃ t, exec .pinReset s = .next t ∧ t.dev = .saving) ∧
  (∀ (s : State), s.dev = .serving → reachOf s 2 = 4 → ∃ t, exec .pinReset s = .next t ∧ t.dev = .rising) ∧
  (∀ (s : State) (a : ResetArg), s.dev = .serving → reachOf s 4 = 5 → a.level.toNat = 5 → ∃ t,
    exec (.softwareResetRequest a false) s = .next t ∧ t.dev = .saving) ∧
  (∀ (s : State) (a : ResetArg), s.dev = .serving → s.on R.KEY_STAT_DEBUG = true → reachOf s 5 = 5 → a.level.toNat = 5 → ∃ t,
    exec (.debugResetRequest a) s = .next t ∧ t.dev = .saving) ∧
  (∀ (s : State) (block : Fin 58) (forced : Nat), s.rst.draining.any (fun q => q.block = block.val) = true →
    exec (.wrapperDrainTimeout block forced) s = .next (resetBlockNow { (raise s 0x4020 [block.val, forced]).bump C.RST_WRAPFORCED forced with rst := { s.rst with draining := s.rst.draining.filter (fun q => q.block ≠ block.val) } } block)) ∧
  (∀ (s : State) (cores : Nat), awake s = true → s.cpx.entry.isSome = true →
    exec (.watchdogKick cores) s = .next (kick s cores)) ∧
  (∀ (s : State) (core : Fin 4), watching s core = true → bit s.cpx.wdHalf core = false → ∃ t,
    exec (.watchdogHalfTime core) s = .next t ∧ t.cpx.wdHalf = bitSet s.cpx.wdHalf core) ∧
  (∀ (s : State) (core : Fin 4), watching s core = true → s.dev = .serving → reachOf s 3 = 5 → ∃ t,
    exec (.watchdogExpiry core) s = .next t ∧ t.dev = .saving) ∧
  (∀ (s : State) (core : Fin 4) (cause : LockCause) (pc : Nat), s.dev = .serving → s.cpx.entry.isSome = true →
    s.rbit R.CPX_CORES_ENABLED core (runningCluster s) = true → reachOf s 7 = 5 → ∃ t, exec (.lockup core cause pc) s = .next t ∧
    t.dev = .saving)

/-- Gait requests, quiet points and edits of the gait table. Rests on R23, R26, R28, R30, R31, R36, R60, R62; the model's choices
that bear on it are log entries 28, 82, 89, 150, 151, 190. -/
def Obligations.GaitCommandsAct : Prop :=
  (∀ (s : State) (g : Fin 6), s.dev = .serving → s.gai.change.isSome = true → ∃ t, exec (.gaitRequest g) s = .next t ∧
    t.rd R.GAI_CUR_LATCHED = g ∧ t.rd R.GAI_CUR_LATCHPEND = 1 ∧ t.rd R.GAI_CUR_CHANGE = 2 ∧ t.rd R.GAI_REQ_GAIT = g ∧
    t.gai.change = s.gai.change) ∧
  (∀ (s : State) (g : Fin 6), s.dev = .serving → s.gai.change = none →
    exec (.gaitRequest g) s = .next ((gaitApply s g).wr R.GAI_REQ_GAIT g)) ∧
  (∀ (s : State) (block : Fin 58), s.dev ≠ .off → s.rst.held = false → s.gai.change = none → block.val ≠ 23 → ∃ t,
    exec (.quietPointTake block) s = .next t ∧
    t.rf.shadow = s.rf.shadow.filter (fun e => !(takenAt block e.1 && mayTake s e.1))) ∧
  (∀ (s : State) (block : Fin 58), s.on R.BLKSTAT_SHADOWPEND 0 block = true → s.on R.BLKSTAT_QUIETLATE 0 block = false →
    s.rf.shadow.any (fun e => decide (keyBlock e.1 = block.val) && mayTake s e.1) = true → ∃ t,
    exec (.quietBoundExpiry block) s = .next t ∧ t.rd R.BLKSTAT_QUIETLATE 0 block = 1) ∧
  (∀ (s : State) (g : Fin 6) (v : Nat), awake s = true →
    rowRefusal (fun F => bits (offeredWord s g (v % 2 ^ 32) ((F.off - 0x100) / 4)) F.lsb F.wid) = none → ∃ t,
    exec (.gaiRowWord3Write g v) s = .next t ∧ t.rd R.GAI_STATUS_ROW_REFUSED = 0 ∧
    t.gai.held = s.gai.held.keep (fun k => k / 4 ≠ g)) ∧
  (∀ (s : State) (sess : Nat) (g : Fin 6) (v : Nat), awake s = true → editBusy s sess = false → 60 ≤ v → v ≤ 235 → ∃ t,
    exec (.gaitEditFieldWrite sess g 9 v) s = .next t ∧ t.gai.owner = some sess ∧
    t.gai.edit.find? (R.GAI_ROW_PWRCAP.key g 0) = some v) ∧
  (∀ (s : State), s.dev = .restoring →
    (List.range 6).findSome? (fun g => (rowRefusal (fun F => editVal s F g)).map (fun p => (g, p))) = none → ∃ t,
    exec (.gaitTableCommit none) s = .next t ∧ t.gai.edit = [] ∧ t.gai.owner = none ∧ t.rd R.GAI_STATUS_ROW_REFUSED = 0) ∧
  (∀ (s : State) (n : Nat), awake s = true → editBusy s n = false → ∃ t, exec (.gaitLoadDefaults (some n)) s = .next t ∧
    t.gai.owner = some n ∧ cmdStat t (ekey 0x1100 9) = { state := 2, code := 0, progress := 0xFFFF })

/-- Dictionary frames open, prove, serve, keep and close sessions. Rests on R44, R45, R46, R49, R50, R51, R53; the model's choices
that bear on it are log entries 5, 6, 97, 104, 105, 106, 107, 108, 109, 110, 112, 121, 154, 156, 157. -/
def Obligations.DictionaryFramesAct : Prop :=
  (∀ (s : State) (p : Fin 4) (src : Nat) (f : List Nat) (k : List Nat), dicReady s p → malformed f = false → frameKind f = 1 →
    (frameBody f).length = 20 → bit (frameFlags f) 4 = false → roleKey s ((frameBody f).getD 0 0) = some k →
    roleAllowed s p ((frameBody f).getD 0 0) = true →
    (s.dic.sessions.filter (fun e => decide (e.2.path = p.val))).length < pathRoom p → bit s.dic.locked p = false → ∃ t,
    exec (.aidricOpen p src f) s = .next t ∧ (t.dic.sessions.find? (allotSession s)).map (fun x => (x.path, x.role, x.isOpen,
    x.src)) = some (p.val, (frameBody f).getD 0 0, false, src) ∧ t.dic.opens = s.dic.opens + 1 ∧
    (p.val ≠ 3 → t.out.length = s.out.length + 1)) ∧
  (∀ (s : State) (p : Fin 4) (src : Nat) (f : List Nat) (x : Session), dicReady s p → malformed f = false → frameKind f = 3 →
    s.dic.sessions.find? (frameSess f) = some x → x.path = p → x.isOpen = false → x.replaces = none →
    frameTag f = Crypto.cmac x.key (f.take (12 + frameLen f)) → frameLen f = 0 → frameSeq f = 1 → ∃ t,
    exec (.aidricProve p src f) s = .next t ∧ (t.dic.sessions.find? (frameSess f)).map (fun y => (y.isOpen, y.lastSeq, y.lastTag,
    y.lastTime)) = some (true, 1, frameTag f, s.now)) ∧
  (∀ (s : State) (p : Fin 4) (src : Nat) (f : List Nat) (x : Session), dicReady s p → accepts s x p 8 f →
    frameSeq f ≠ 0xFFFFFFFF → ∃ t, exec (.aidricKeepalive p src f) s = .next t ∧ (t.dic.sessions.find? (frameSess f)).map (fun y
    => (y.isOpen, y.lastSeq, y.lastTag, y.lastTime)) = some (true, frameSeq f, frameTag f, s.now) ∧
    (p.val ≠ 3 → t.out.length = s.out.length + 1)) ∧
  (∀ (s : State) (p : Fin 4) (src : Nat) (f : List Nat) (x : Session), dicReady s p → accepts s x p 9 f → ∃ t,
    exec (.aidricClose p src f) s = .next t ∧ t.dic.sessions.find? (frameSess f) = none) ∧
  (∀ (s : State) (p : Fin 4) (src : Nat) (f : List Nat) (x : Session) (it : Item) (u : State), dicReady s p → accepts s x p 5 f →
    frameSeq f ≠ 0xFFFFFFFF → parseItems false 64 (frameBody f) = some [it] →
    u = modSession (tagBlocks (atFrame s p) (12 + frameLen f)) (frameSess f) (fun y => { y with lastTime := s.now, src }) →
    handlerOf u it = none → ∃ t, exec (.aidricRead p src f) s = .next t ∧ (t.dic.sessions.find? (frameSess f)).map (fun y =>
    (y.isOpen, y.lastSeq, y.lastTag, y.lastTime)) = some (true, frameSeq f, frameTag f, s.now) ∧
    (p.val ≠ 3 → t.out.length = s.out.length + 1)) ∧
  (∀ (s : State) (p : Fin 4) (src : Nat) (f : List Nat) (x : Session) (it : Item) (u : State), dicReady s p → accepts s x p 6 f →
    bit (frameFlags f) 6 = false → parseItems true 64 (frameBody f) = some [it] →
    u = modSession (tagBlocks (atFrame s p) (12 + frameLen f)) (frameSess f) (fun y => { y with lastTime := s.now, src }) →
    handlerOf u it = none → writeCheck u x.role it = stOk →
    exec (.aidricWrite p src f) s = .next (extRun (respondItems (writeNow u (frameSess f) p (frameSeq f) it).1 { session := frameSess f, seq := frameSeq f, tag := frameTag f, kind := 6, all := false, checking := false, items := [it], answers := [(0, writeAns it (writeNow u (frameSess f) p (frameSeq f) it).2)], left := 0 })))

/-- Sessions time out, lockouts end, handler items are answered, extension entries load and clear. Rests on R38, R42, R49, R50,
R53, R68, R74; the model's choices that bear on it are log entries 7, 28, 110, 111, 113, 116, 117, 153, 155, 159, 189. -/
def Obligations.DictionaryServiceActs : Prop :=
  (∀ (s : State) (n : Nat) (x : Session), awake s = true → s.dic.sessions.find? n = some x → x.isOpen = false → ∃ t,
    exec (.halfOpenExpiry (some n)) s = .next t ∧ t.dic.sessions.find? n = none) ∧
  (∀ (s : State) (n : Nat) (x : Session), awake s = true → s.dic.sessions.find? n = some x → x.isOpen = true → s.dic.queue = [] →
    s.dic.extPend = [] → ∃ t, exec (.sessionIdleTimeout n) s = .next t ∧ t.dic.sessions.find? n = none) ∧
  (∀ (s : State) (path : Fin 5), awake s = true →
    exec (.pathLockoutEnd path) s = .next ({ s with dic := { s.dic with locked := bitClr s.dic.locked path } })) ∧
  (∀ (s : State) (status : BitVec 8) (len : BitVec 11) (h : HItem) (hs : List HItem) (o : OpenFrame), awake s = true →
    len.toNat ≤ 1012 → s.dic.hq = h :: hs → s.dic.cur = some o → 2 ≤ o.left → ∃ t,
    exec (.dicHandlerAnswer status len) s = .next t ∧ t.dic.hq = hs ∧ t.dic.cur.isSome = true) ∧
  (∀ (s : State) (h : HItem) (hs : List HItem) (o : OpenFrame), awake s = true → s.dic.hq = h :: hs → s.dic.cur = some o →
    2 ≤ o.left → ∃ t, exec .handlerItemTimeout s = .next t ∧ t.dic.hq = hs ∧
    (t.dic.cur.map (fun c => c.left)) = some (o.left - 1)) ∧
  (∀ (s : State), awake s = true → s.dic.cur = none → s.dic.extPend = [] → ∃ t, exec .dicExtLoad s = .next t ∧
    t.rd R.DIC_EXTSTAT_LOADED = t.dic.ext.length % 8192 ∧ t.rd R.DIC_EXTSTAT_BUSY = 0 ∧ t.dic.extPend = []) ∧
  (∀ (s : State), awake s = true → s.dic.cur = none → ∃ t, exec .dicExtClear s = .next t ∧ t.dic.ext = [] ∧
    t.rd R.DIC_EXTSTAT_LOADED = 0 ∧ t.rd R.DIC_EXTSTAT_BUSY = 0) ∧
  (∀ (s : State), awake s = true → s.dic.cur.isSome = true → ∃ t, exec .dicExtClear s = .next t ∧
    t.dic.extPend = s.dic.extPend ++ [2] ∧ t.rd R.DIC_EXTSTAT_BUSY = 1 ∧ t.dic.ext = s.dic.ext) ∧
  (∀ (s : State), awake s = true → ∃ t, exec .dicSnapshot s = .next t ∧ t.rf.ctr = s.rf.ctr ∧
    t.rd R.DIC_SNAPGEN_GEN = (((List.range 58).foldl snapBlock s).rd R.DIC_SNAPGEN_GEN + 1) % 2 ^ 32) ∧
  (∀ (s : State) (block : Fin 58), awake s = true → ∃ t, exec (.blockSnapshot block) s = .next t ∧
    t.rd R.SNAPGEN_GEN 0 block = (s.rd R.SNAPGEN_GEN 0 block + 1) % 2 ^ 32 ∧
    t.rf.bank0 = copyBank s.rf.ctr s.rf.bank0 (fun m => m = block) ∧ t.rf.ctr = s.rf.ctr) ∧
  (∀ (s : State), awake s = true → ∃ t, exec .deviceSnapshotCmd s = .next t ∧ t.rf.bank1 = s.rf.ctr ∧
    ent t (ekey 0x2020 2) 0 = (ent s (ekey 0x2020 2) 0 + 1) % 2 ^ 32 ∧
    cmdStat t (ekey 0x2020 1) = { state := 2, code := 0, progress := 0xFFFF })

/-- Writes of the control space, starts and stops of blocks, and the configuration check. Rests on R57, R58, R59, R60, R63, R65,
R69, R70; the model's choices that bear on it are log entries 14, 27, 43, 99, 102, 103, 112, 128, 129, 130, 131, 143, 158,
172. -/
def Obligations.ControlSpaceActs : Prop :=
  (∀ (s : State) (block : Fin 58), awake s = true → s.on R.BLKSTAT_ISOLATED 0 block = false → s.running block = false →
    startRefusal s block = none → block.val ≠ 18 → block.val ≠ 23 → block.val ≠ 24 → block.val ≠ 25 →
    (block.val < 34 ∨ 42 ≤ block.val) → exec (.blockGoWrite block true) s = .next (((s.wr R.BLKCTRL_GO 1 0 block).wr
    R.BLKSTAT_STARTED 1 0 block).wr R.BLKSTAT_RUNNING 1 0 block)) ∧
  (∀ (s : State) (block : Fin 58), awake s = true → s.on R.BLKSTAT_ISOLATED 0 block = false → s.running block = false →
    startRefusal s block = none → 34 ≤ block.val → block.val ≤ 41 → exec (.blockGoWrite block true) s = .next (showMst (((s.wr
    R.BLKCTRL_GO 1 0 block).wr R.BLKSTAT_STARTED 1 0 block).wr R.BLKSTAT_RUNNING 1 0 block))) ∧
  (∀ (s : State), awake s = true → s.on R.BLKSTAT_ISOLATED 0 23 = false → s.running 23 = false → startRefusal s 23 = none → exec
    (.blockGoWrite 23 true) s = .next (showGroups (((s.wr R.BLKCTRL_GO 1 0 23).wr R.BLKSTAT_STARTED 1 0 23).wr R.BLKSTAT_RUNNING
    1 0 23))) ∧
  (∀ (s : State), awake s = true → s.on R.BLKSTAT_ISOLATED 0 25 = false → s.running 25 = false → startRefusal s 25 = none → exec
    (.blockGoWrite 25 true) s = .next (recountDirty ((startShown ((s.wr R.BLKCTRL_GO 1 0 25).wr R.BLKSTAT_STARTED 1 0 25) 25
    false).wr R.BLKSTAT_RUNNING 1 0 25))) ∧
  (∀ (s : State), awake s = true → s.on R.BLKSTAT_ISOLATED 0 24 = false → s.running 24 = false →
    logGroups s ≤ s.rd R.TWN_LOGSIZE_LOGSIZE → ∃ t, exec (.blockGoWrite 24 true) s = .next t ∧ t.running 24 = true ∧
    t.rd R.BLKCTRL_GO 0 24 = 1) ∧
  (∀ (s : State), awake s = true → s.on R.BLKSTAT_ISOLATED 0 18 = false → s.running 18 = false → startRefusal s 18 = none →
    s.rd R.XTS_STAT_LANEFAIL = 0 → ∃ t, exec (.blockGoWrite 18 true) s = .next t ∧ t.running 18 = true ∧
    t.rd R.BLKCTRL_GO 0 18 = 1 ∧ t.rd R.STF_STAT_GEOMBAD = 0) ∧
  (∀ (s : State) (block : Fin 58), awake s = true → s.on R.BLKSTAT_ISOLATED 0 block = false → s.running block = true → exec
    (.blockGoWrite block true) s = .next (((s.wr R.BLKCTRL_GO 1 0 block).wr R.BLKSTAT_STARTED 1 0 block).wr R.BLKSTAT_STOPPING 0
    0 block)) ∧
  (∀ (s : State) (block : Fin 58), s.dev = .serving → s.on R.BLKSTAT_ISOLATED 0 block = false → mainRoad block = true →
    exec (.blockGoWrite block false) s = .next s) ∧
  (∀ (s : State) (block : Fin 58), awake s = true → s.on R.BLKSTAT_ISOLATED 0 block = false → s.dev ≠ .serving →
    s.running block = true → blockBusy s block = true →
    exec (.blockGoWrite block false) s = .next ((s.wr R.BLKCTRL_GO 0 0 block).wr R.BLKSTAT_STOPPING 1 0 block)) ∧
  (∀ (s : State) (block : Fin 58), awake s = true → s.on R.BLKSTAT_ISOLATED 0 block = false →
    (s.dev ≠ .serving ∨ mainRoad block = false) → blockBusy s block = false → s.rf.shadow = [] → s.gai.change = none →
    (block.val < 26 ∨ 42 ≤ block.val ∨ 30 ≤ block.val ∧ block.val ≤ 33) → ∃ t, exec (.blockGoWrite block false) s = .next t ∧
    t.running block = false ∧ t.rd R.BLKCTRL_GO 0 block = 0 ∧ t.rd R.BLKSTAT_STOPPING 0 block = 0) ∧
  (∀ (s : State) (block : Fin 58) (F : Fld) (i b v : Nat), awake s = true → s.on R.BLKSTAT_ISOLATED 0 block = false →
    block.val ≠ 12 → block.val ≠ 0 → block.val ≠ 23 → s.running block = true → Sparse.wf s.rf.group = true →
    keyBlock (F.key i b) = block → s.rf.group.find? (F.key i b) = some v → ∃ t, exec (.groupCommit block) s = .next t ∧
    t.rf.shadow.find? (F.key i b) = some v ∧ t.rf.group = s.rf.group.filter (fun e => !decide (keyBlock e.1 = block))) ∧
  (∀ (s : State) (block : Fin 58) (F : Fld) (i b v : Nat), awake s = true → s.on R.BLKSTAT_ISOLATED 0 block = false →
    block.val ≠ 12 → block.val ≠ 0 → block.val ≠ 23 → s.running block = false → Sparse.wf s.rf.group = true →
    Sparse.wf s.rf.shadow = true → keyBlock (F.key i b) = block → 0x40 ≤ F.key i b / 32 % 1048576 →
    s.rf.group.find? (F.key i b) = some v → ∃ t, exec (.groupCommit block) s = .next t ∧ t.rd F i b = v ∧
    t.rf.group = s.rf.group.filter (fun e => !decide (keyBlock e.1 = block))) ∧
  (∀ (s : State), awake s = true → s.on R.BLKSTAT_ISOLATED 0 12 = false → exec (.groupCommit 12) s = .next (seqCommit s)) ∧
  (∀ (s : State), awake s = true → s.on R.BLKSTAT_ISOLATED 0 0 = false → exec (.groupCommit 0) s = .next ((gaitCommit s).1)) ∧
  (∀ (s : State) (core : Fin 4) (addr : Nat) (v : BitVec 32), awake s = true → s.rst.held = false → addr % 4 ≠ 0 →
    exec (.controlSpaceWrite core addr v) s = .next (s.emit (.coreFault core addr))) ∧
  (∀ (s : State) (core : Fin 4) (addr : Nat) (v : BitVec 32), awake s = true → s.rst.held = false → addr % 4 = 0 →
    0x08000000 ≤ addr → addr < 0x08400000 → exec (.controlSpaceWrite core addr v) s = .next (setSram s (activeCluster s)
    (memWrite (sramOf s (activeCluster s)) (addr - 0x08000000) (leBytes v.toNat 4)))) ∧
  (∀ (s : State) (core : Fin 4) (addr n off i : Nat) (v : BitVec 32) (F : Fld), awake s = true → s.rst.held = false →
    addr = 0x40000000 + 0x100000 * n + off → off % 4 = 0 → off < 0x100000 → n ∈ [2, 3, 8, 10, 14, 15, 19, 20, 21, 22] → off ≠ 4 →
    wordMapped n off = true → s.on R.BLKSTAT_ISOLATED 0 n = false → wordTaken s n off v.toNat = [(F, i)] → (F.app = .live ∨ F.app
    = .quiet ∧ F.grp = false ∧ wordRuns s n (F.offset i) = false ∧ mayTake s (F.key i (copyOf F n)) = true) → ∃ t,
    exec (.controlSpaceWrite core addr v) s = .next t ∧ t.rd F i (copyOf F n) = bits v.toNat F.lsb F.wid) ∧
  (∀ (s : State) (core : Fin 4) (addr n off i : Nat) (v : BitVec 32) (F : Fld), awake s = true → s.rst.held = false →
    addr = 0x40000000 + 0x100000 * n + off → off % 4 = 0 → off < 0x100000 → n ∈ [2, 3, 8, 10, 14, 15, 19, 20, 21, 22] → off ≠ 4 →
    wordMapped n off = true → s.on R.BLKSTAT_ISOLATED 0 n = false → wordTaken s n off v.toNat = [(F, i)] → F.app = .quiet →
    F.grp = false → wordRuns s n (F.offset i) = true → s.running n = true → 0x40 ≤ F.key i (copyOf F n) / 32 % 1048576 → ∃ t,
    exec (.controlSpaceWrite core addr v) s = .next t ∧
    t.rf.shadow.find? (F.key i (copyOf F n)) = some (bits v.toNat F.lsb F.wid) ∧ t.rd F i (copyOf F n) = s.rd F i (copyOf F n) ∧
    t.rd R.BLKSTAT_SHADOWPEND 0 n = 1) ∧
  (∀ (s : State) (core : Fin 4) (addr : Nat) (v : BitVec 32), awake s = true → s.rst.held = false → addr % 4 = 0 →
    0x40000000 ≤ addr → addr < 0x48000000 → wordMapped ((addr - 0x40000000) / 0x100000) (addr % 0x100000) = true →
    s.on R.BLKSTAT_ISOLATED 0 ((addr - 0x40000000) / 0x100000) = false →
    exec (.controlSpaceWrite core addr v) s = .next (blockWrite s ((addr - 0x40000000) / 0x100000) (addr % 0x100000) v.toNat)) ∧
  (∀ (s : State) (core : Fin 4) (block : Fin 128) (off : Fin 4096) (b : Fin 8) (v : Bool), awake s = true → s.rst.held = false →
    58 ≤ block.val → ∃ t, exec (.bitAliasWrite core block off b v) s = .next t ∧ t.rf.val = s.rf.val ∧ t.dic = s.dic) ∧
  (∀ (s : State) (core : Fin 4) (block : Fin 128) (off : Fin 4096) (b : Fin 8) (v : Bool) (o i : Nat) (F : Fld), awake s = true →
    s.rst.held = false → o = off.val / 4 * 4 → block.val ∈ [2, 3, 8, 10, 14, 15, 19, 20, 21, 22] → o ≠ 4 →
    s.on R.BLKSTAT_ISOLATED 0 block = false → gateWord block o = true →
    fieldAt block o (8 * (off.val % 4) + b.val) = some (F, i) → F.acc = .rw → F.app = .live → F.offset i = o →
    bitPut (aliasBase s F i (copyOf F block)) (8 * (off.val % 4) + b.val - F.lsb) v < 2 ^ F.wid →
    F.lim.ok (bitPut (aliasBase s F i (copyOf F block)) (8 * (off.val % 4) + b.val - F.lsb) v) = true → fieldOk s block o
    (fieldWord s block o F i (bitPut (aliasBase s F i (copyOf F block)) (8 * (off.val % 4) + b.val - F.lsb) v)) F i = true → ∃ t,
    exec (.bitAliasWrite core block off b v) s = .next t ∧
    t.rd F i (copyOf F block) = bitPut (aliasBase s F i (copyOf F block)) (8 * (off.val % 4) + b.val - F.lsb) v) ∧
  (∀ (s : State), awake s = true → ∃ t, exec .configSweep s = .next t ∧
    ent t (ekey 0x2010 4) 0 = (ent ((List.range 58).foldl sweepBlock s) (ekey 0x2010 4) 0 + 1) % 2 ^ 32) ∧
  (∀ (s : State) (block : Fin 58), awake s = true → ∃ t, exec .configCommit s = .next t ∧
    cmdStat t (ekey 0x2010 1) = { state := 2, code := 0, progress := 0xFFFF } ∧
    t.rd R.CFGREF_REF 0 block = s.rd R.CFGCRC_CRC 0 block % 2 ^ 32) ∧
  (∀ (s : State) (block : Fin 58) (ref : BitVec 32), awake s = true → ∃ t, exec (.cfgrefWrite block ref) s = .next t ∧
    t.rd R.CFGREF_REF 0 block = ref.toNat)

/-- The PCIe door, the management port, MDIO and MCTP. Rests on R48, R52, R76, R77, R78, R79, 02_dictionary_registers.md; the
model's choices that bear on it are log entries 75, 104, 119, 121, 126, 152, 158. -/
def Obligations.HostDoorsAct : Prop :=
  (∀ (s : State) (frame : List Nat), awake s = true → s.pci.perst = false → s.pci.busy = false → s.rd R.PCI_STAT_DSTATE ≠ 3 →
    exec (.pcieDoorbell frame) s = .next (frameIn { s with pci := { s.pci with req := frame, busy := true, respReady := false } } 2 0 frame)) ∧
  (∀ (s : State) (a b : Note) (r : List Note), awake s = true → s.pci.perst = false → s.recd.notes = a :: b :: r → ∃ t,
    exec .pcieNtftaken s = .next t ∧ t.recd.notes = b :: r ∧ t.pci.taken = s.pci.taken + 1 ∧ t.out = .msix 2 :: s.out) ∧
  (∀ (s : State), awake s = true → exec (.pciePerst false) s = .next ({ s with pci := { s.pci with perst := false } })) ∧
  (∀ (s : State), awake s = true → s.pci.perst = false → ∃ t, exec (.pciePowerStateChange true) s = .next t ∧
    t.rd R.PCI_STAT_DSTATE = 3) ∧
  (∀ (s : State) (src : Nat), awake s = true → s.on R.MGT_CFG_ENABLE = true → vlanOk s none = true → s.rd R.MGT_IP4_ADDR ≠ 0 →
    echoAllowed s 16 100 = true → ∃ t, exec (.mgtArpNsEcho 0 (s.rd R.MGT_IP4_ADDR) src none) s = .next t ∧
    t.out = .net 16 0 (s.rd R.MGT_IP4_ADDR) src :: s.out ∧ t.mgtDrops = s.mgtDrops) ∧
  (∀ (s : State) (kind : Fin 4) (addr src : Nat) (vlan : Option Nat), awake s = true → s.on R.MGT_CFG_ENABLE = false →
    exec (.mgtArpNsEcho kind addr src vlan) s = .next ({ s with mgtDrops := s.mgtDrops + 1 })) ∧
  (∀ (s : State) (phy reg : BitVec 5) (data rdata : BitVec 16), awake s = true → s.mdio = none → ∃ t,
    exec (.mdioTransaction false phy reg data rdata) s = .next t ∧ t.mdio = some (s.now + mdioTime, some rdata.toNat) ∧
    t.rd R.MGT_MDIOSTAT_BUSY = 1 ∧ t.out = .mdio false phy.toNat reg.toNat data.toNat :: s.out) ∧
  (∀ (s : State) (tag : BitVec 5) (op eid : Nat), awake s = true → s.on R.MGT_CFG_SMBEN = true → op ≤ 1 → 0 < eid → eid < 255 →
    ∃ t, exec (.mctpControlMessage tag 1 [op, eid]) s = .next t ∧ t.rd R.MGT_SMB_EID = eid ∧ t.out = .mctp [0, tag.toNat, 1, 0,
    0, eid, 0] :: s.out)

/-- Registration, deregistration and deallocation as commands, and the end of a region's drain. Rests on R13, R38, R87, R95, R180,
Table 14.5; the model's choices that bear on it are log entries 29, 100, 134, 162. -/
def Obligations.MapCommandsAct : Prop :=
  (∀ (s : State) (sess : Nat), awake s = true → (cmdStat s (cmdKey (ekey 0x2110 9) sess)).state ≠ 1 → s.cpx.entry = none → ∃ t,
    exec (.registerRegionCmd sess) s = .next t ∧ t.dic.work = s.dic.work ++ [(0, sess, regValues s)] ∧
    cmdStat t (cmdKey (ekey 0x2110 9) sess) = { state := 1, code := 0, progress := 0 }) ∧
  (∀ (s : State) (sess i : Nat) (r : Region), awake s = true → (cmdStat s (cmdKey (ekey 0x2110 9) sess)).state ≠ 1 →
    fwUp s = true → drbgOk s = true → mapLead s = true → sendsMaps s = false → r = registrationOf (regValues s) →
    regRefusal s r = 0 → i = (takeIndex s).2 → ∃ t, exec (.registerRegionCmd sess) s = .next t ∧
    regionAt t i = { r with state := 1, gen := if (regionAt s i).gen = 255 then 1 else (regionAt s i).gen + 1, salt := Config.random s.draws % 1024, regseq := s.maps.regseq + 1 } ∧
    cmdStat t (cmdKey (ekey 0x2110 9) sess) = { state := 2, code := 0, progress := 0xFFFF }) ∧
  (∀ (s : State) (sess k : Nat), awake s = true → (cmdStat s (cmdKey (ekey 0x2111 1) sess)).state ≠ 1 → fwUp s = true →
    mapLead s = true → sendsMaps s = false → k < 2 ^ 32 → rkeyLive s k = true → ∃ t, exec (.deregisterCmd sess k) s = .next t ∧
    (regionAt t (bits k 10 14)).state = 2 ∧
    cmdStat t (cmdKey (ekey 0x2111 1) sess) = { state := 2, code := 0, progress := 0xFFFF }) ∧
  (∀ (s : State) (sess : Nat) (u : State), awake s = true → (cmdStat s (cmdKey (ekey 0x2111 4) sess)).state ≠ 1 → fwUp s = true →
    mapLead s = true → sendsMaps s = false → u = cmdRun s (cmdKey (ekey 0x2111 4) sess) →
    deallocRefusal u (ent s (ekey 0x2111 2) 0) (ent s (ekey 0x2111 3) 0) = 0 →
    deallocWaits u (ent s (ekey 0x2111 2) 0) (ent s (ekey 0x2111 3) 0) = false → exec (.deallocateCmd sess) s = .next (cmdDone
    (deallocHere u (ent s (ekey 0x2111 2) 0) (ent s (ekey 0x2111 3) 0)) (cmdKey (ekey 0x2111 4) sess))) ∧
  (∀ (s : State) (i : Fin 16384), awake s = true → (regionAt s i).state = 2 → s.trn.inflight.get i 0 = 0 → ∃ t,
    exec (.regionDrainComplete i) s = .next t ∧ (regionAt t i).state = 0 ∧ t.maps.freed = s.maps.freed ++ [i.val])

/-- The update port, the hopper, the translation levels and their ages. Rests on R105, R107, R108, R109, R110, R111; the model's
choices that bear on it are log entries 23, 167, 175. -/
def Obligations.TranslationCommandsAct : Prop :=
  (∀ (s : State), awake s = true → s.running 25 = true →
    (s.rd R.TRN_UPDADDRL_ADDR * 8 + s.rd R.TRN_UPDADDRH_ADDR * 2 ^ 32) % (8 * 2 ^ s.rd R.TRN_UPDCTL_SIZE) ≠ 0 →
    exec .trnUpdate s = .next (s.wr R.TRN_UPDSTAT_UPDREFUSED 1)) ∧
  (∀ (s : State), awake s = true → s.running 25 = true →
    (s.rd R.TRN_UPDADDRL_ADDR * 8 + s.rd R.TRN_UPDADDRH_ADDR * 2 ^ 32) % (8 * 2 ^ s.rd R.TRN_UPDCTL_SIZE) = 0 →
    s.rd R.TRN_UPDADDRL_ADDR * 8 + s.rd R.TRN_UPDADDRH_ADDR * 2 ^ 32 + 8 * 2 ^ s.rd R.TRN_UPDCTL_SIZE ≤ mapEnd s * 2097152 → ∃ t,
    exec .trnUpdate s = .next t ∧ t.trn.updq.getLast? = some .port) ∧
  (∀ (s : State), s.trn.updq = [.port] → s.trn.held = [] → s.tie.waiting = [] → awake s = true → ∃ t,
    exec .trnUpdateComplete s = .next t ∧ t.trn.updq = [] ∧ t.rd R.TRN_UPDSTAT_UPDBUSY = 0) ∧
  (∀ (s : State), awake s = true → ∃ t, exec .hopperDeadline s = .next t ∧
    t.trn.hopper = s.trn.hopper.keepV (fun x => !decide (s.rd R.TRN_HOPCFG_DEADLINE ≤ s.now - x))) ∧
  (∀ (s : State), awake s = true → ∃ t, exec .trnInvalL1 s = .next t ∧
    t.trn.l1 = s.trn.l1.keep (fun k => !bit (s.rd R.TRN_INVAL_PORTS) (k / 48))) ∧
  (∀ (s : State), awake s = true → ∃ t, exec .trnInvalL2 s = .next t ∧ t.trn.l2 = []) ∧
  (∀ (s : State) (e : Nat) (f : Fill), s.trn.fills.find? (fun f => f.extent / 2 = e / 2) = some f → f.dropped = true →
    exec (.secondLevelFillReturn e) s = .next (takeHeld { s with trn := { s.trn with fills := s.trn.fills.filter (fun x => x.extent / 2 ≠ e / 2) } } e)) ∧
  (∀ (s : State) (e : Nat) (f : Fill), s.trn.fills.find? (fun f => f.extent / 2 = e / 2) = some f → f.dropped = false →
    f.stale = false →
    exec (.secondLevelFillReturn e) s = .next (takeHeld (l2Install { s with trn := { s.trn with fills := s.trn.fills.filter (fun x => x.extent / 2 ≠ e / 2) } } f.extent f.streaming) e)) ∧
  (∀ (s : State), awake s = true → s.on R.TRN_AGE_FREEZE = false →
    exec .trnAgeTick s = .next ({ s with trn := { s.trn with l2 := s.trn.l2.mapV (fun x => { x with age := min 3 (x.age + 1) }) } }))

/-- Packets are checked, and their QPs' contexts are fetched. Rests on R123, R126, R129, R130, R131, R133; the model's choices that
bear on it are log entries 18, 19, 22, 34, 35, 36, 142, 146, 163, 166, 193. -/
def Obligations.PacketsAndContextsAct : Prop :=
  (∀ (s : State) (lport : Nat) (k : Packet), s.dev = .serving → portUp s lport = true → s.takes (30 + lport / 4) = true →
    (k.fcsOk = false ∨ addressed s lport k = false ∨ k.roce = false) → exec (.packetReceive lport k) s = .next (dropFrame
    ((s.bump C.PRT_RXFRAMES 1 (lport % 4) (lport / 4)).bump C.PRT_FECCORR k.fecCorr (lport % 4) (lport / 4)) lport)) ∧
  (∀ (s : State) (lport : Nat) (k : Packet), s.dev = .serving → portUp s lport = true → s.takes (30 + lport / 4) = true →
    k.fcsOk = true → addressed s lport k = true → k.roce = true → k.icrcOk = false → exec (.packetReceive lport k) s = .next
    ((((s.bump C.PRT_RXFRAMES 1 (lport % 4) (lport / 4)).bump C.PRT_FECCORR k.fecCorr (lport % 4) (lport / 4)).bump C.XPT_RXPKT 1
    0 (lport / 4)).bump C.PRT_ICRCERR 1 (lport % 4) (lport / 4))) ∧
  (∀ (s : State) (lport i : Nat) (k : Packet), s.dev = .serving → portUp s lport = true → s.takes (30 + lport / 4) = true →
    k.fcsOk = true → addressed s lport k = true → k.roce = true → k.icrcOk = true → k.opcode < 0x0D → k.dqp = 0x40000 + i →
    i < 0x40000 → s.xpt.cache.has i = true → exec (.packetReceive lport k) s = .next (withContext (((s.bump C.PRT_RXFRAMES 1
    (lport % 4) (lport / 4)).bump C.PRT_FECCORR k.fecCorr (lport % 4) (lport / 4)).bump C.XPT_RXPKT 1 0 (lport / 4)) i lport k))
    ∧
  (∀ (s : State) (lport i : Nat) (k : Packet), s.dev = .serving → portUp s lport = true → s.takes (30 + lport / 4) = true →
    k.fcsOk = true → addressed s lport k = true → k.roce = true → k.icrcOk = true → k.opcode < 0x0D → k.dqp = 0x40000 + i →
    i < 0x40000 → s.xpt.cache.has i = false → exec (.packetReceive lport k) s = .next (missPacket (((s.bump C.PRT_RXFRAMES 1
    (lport % 4) (lport / 4)).bump C.PRT_FECCORR k.fecCorr (lport % 4) (lport / 4)).bump C.XPT_RXPKT 1 0 (lport / 4)) i lport k))
    ∧
  (∀ (s : State) (lport i : Nat) (k : Packet) (q : Qp), s.dev = .serving → portUp s lport = true →
    s.takes (30 + lport / 4) = true → k.fcsOk = true → addressed s lport k = true → k.roce = true → k.icrcOk = true →
    k.opcode = 4 → k.dqp = 0x40000 + i → i < 0x40000 → s.xpt.cache.has i = true → q = qpAt s i → q.lport = lport →
    serves q = true → k.pkey = q.pkey → k.ce = false → k.psn = q.epsn → reqsOf s i = [] → q.msg = 0 → k.payload.length ≤ mtu q →
    q.sendBuf.length + k.payload.length ≤ 4096 → q.cmdch = true → ringFree q ≠ 0 →
    admitBytes s (lport / 4) + (mkReq s i lport q k .send).bytes ≤ 1048576 → ∃ t, exec (.packetReceive lport k) s = .next t ∧
    t.xpt.reqs = s.xpt.reqs ++ [mkReq s i lport { q with seqerr := false } k .send] ∧ (qpAt t i).epsn = (q.epsn + 1) % 2 ^ 24) ∧
  (∀ (s : State) (i : Nat) (f : Fetch), s.xpt.fetches.find? i = some f → cacheRoom s f.port = true → s.rd R.XPT_CTXCFG_LOC ≠ 2 →
    (s.rd R.XPT_CTXCFG_LOC = 0 ∨ s.rd R.TIE_STAT_HSTATE = 1) →
    exec (.contextFetchDone i) s = .next (nextFetch (releaseHeld (cacheFill { s with xpt := { s.xpt with fetches := s.xpt.fetches.del i } } i f.port) i) f.port)) ∧
  (∀ (s : State) (i : Nat) (f : Fetch), s.xpt.fetches.find? i = some f → cacheRoom s f.port = true → s.rd R.XPT_CTXCFG_LOC = 0 →
    s.xpt.held = [] → s.xpt.cnpList = [] → replaceable s f.port = none → ∃ t, exec (.contextFetchDone i) s = .next t ∧
    t.xpt.cache.find? i = some { port := f.port, used := s.now } ∧ t.xpt.fetches = s.xpt.fetches.del i) ∧
  (∀ (s : State) (i : Nat) (byError : Bool) (f : Fetch), s.xpt.fetches.find? i = some f → s.rd R.XPT_CTXCFG_LOC = 1 →
    s.xpt.held = [] → s.xpt.cnpList = [] → ∃ t, exec (.contextFetchTimeout i byError) s = .next t ∧
    t.xpt.fetches = s.xpt.fetches.del i ∧ t.xpt.held = []) ∧
  (∀ (s : State) (p : Fin 4) (i : Nat), s.xpt.cnpList.any (fun e => e.1 = p.val ∧ e.2.1 = i) = true → s.xpt.fetches = [] →
    exec (.cnpListFetchDone p i) s = .next (sendCnp { s with xpt := { s.xpt with cnpList := s.xpt.cnpList.filter (fun e => !(e.1 = p.val ∧ e.2.1 = i)) } } i p)) ∧
  (∀ (s : State) (p : Fin 4) (i : Nat), s.xpt.cnpList.any (fun e => e.1 = p.val ∧ e.2.1 = i) = true →
    exec (.cnpListEntryTimeout p i) s = .next ((fun u => u.bump C.XPT_CNPABANDON 1 0 p) { s with xpt := { s.xpt with cnpList := s.xpt.cnpList.filter (fun e => !(e.1 = p.val ∧ e.2.1 = i)) } })) ∧
  (∀ (s : State) (i : Nat) (h : HeldPkt), s.xpt.moving = [h] → h.qp = i → reqsOf s i = [] →
    exec (.lportMove i) s = .next ((List.range 4).foldl showMiss (withContext (modQp { s with xpt := { s.xpt with moving := [] } } i (fun q => { q with lport := h.lport, rmac := h.pkt.srcMac, vid := h.pkt.vid })) i h.lport h.pkt)))

/-- Admit, Translate, Place and Answer, the reins and line reads. Rests on R83, R138, R140, R141, R147, R155, R158, R314; the
model's choices that bear on it are log entries 21, 34, 35, 50, 51, 175, 186. -/
def Obligations.RequestStagesAct : Prop :=
  (∀ (s : State) (id : Nat) (r : Req), reqAt s id = some r → r.stage = .admitting → servesHosts s = true → behind s r = false →
    r.kind = .send → r.returned = false → r.needs = 0 → ∃ t, exec (.admitRequest id) s = .next t ∧
    (reqAt t id).map (fun x => (x.stage, x.tokens)) = some (.place, r.tokens)) ∧
  (∀ (s : State) (id : Nat) (r : Req), reqAt s id = some r → r.stage = .admitting → servesHosts s = true → behind s r = false →
    r.kind = .write → r.returned = false → between s r.qp < win s (pipeOf r.lport) → r.tokens = 0 → hostTokens s r.needs = true →
    ∃ t, exec (.admitRequest id) s = .next t ∧ (reqAt t id).map (fun x => (x.stage, x.tokens)) = some (.translate, r.needs)) ∧
  (∀ (s : State) (id c : Nat) (r : Req), reqAt s id = some r → r.stage = .translate → r.passed = false →
    badEntry s (regAddr (bits r.rkey 10 14)) = false → accessCause s (qpAt s r.qp).tenant r.rkey r.va r.len r.kind = c → c ≠ 0 →
    exec (.translateRequest id) s = .next (accessFailed s r c)) ∧
  (∀ (s : State) (id : Nat) (r : Req), reqAt s id = some r → r.stage = .translate → r.passed = false →
    badEntry s (regAddr (bits r.rkey 10 14)) = false → accessCause s (qpAt s r.qp).tenant r.rkey r.va r.len r.kind = 0 →
    r.kind = .flush → ∃ t, exec (.translateRequest id) s = .next t ∧
    (reqAt t id).map (fun x => (x.stage, x.passed, x.parts)) = some (.place, true, []) ∧
    t.trn.inflight.get (bits r.rkey 10 14) 0 = s.trn.inflight.get (bits r.rkey 10 14) 0 + 1) ∧
  (∀ (s : State) (id : Nat) (r : Req) (x : Part), reqAt s id = some r → r.stage = .translate → r.passed = false →
    badEntry s (regAddr (bits r.rkey 10 14)) = false → accessCause s (qpAt s r.qp).tenant r.rkey r.va r.len r.kind = 0 →
    r.kind ≠ .flush → readParts (r.len / 4096 + 2) ((regionAt s (bits r.rkey 10 14)).sapage * 4096 + (r.va - (regionAt s (bits
    r.rkey 10 14)).vabase)) r.len 0 = [x] → (l1Find s (pipeOf r.lport) (x.spage / 512)).isSome = true → ∃ t,
    exec (.translateRequest id) s = .next t ∧
    (reqAt t id).map (fun y => (y.stage, y.passed, y.parts)) = some (.place, true, [x])) ∧
  (∀ (s : State) (id : Nat) (r : Req), reqAt s id = some r → r.stage = .place → heldByWrite s r = false → r.mst = false →
    r.kind = .send → r.last = false → exec (.placeRequest id) s = .next (setReq s { r with stage := .done })) ∧
  (∀ (s : State) (id : Nat) (r : Req), reqAt s id = some r → r.stage = .place → heldByWrite s r = false → r.mst = false →
    r.kind = .send → r.last = true →
    exec (.placeRequest id) s = .next (setReq (ringPush s r.qp { payload := r.payload, imm := r.imm }) { r with stage := .done })) ∧
  (∀ (s : State) (id : Nat) (r : Req), reqAt s id = some r → r.stage = .place → heldByWrite s r = false → r.mst = false →
    r.kind = .flush → r.parts = [] → ∃ t, exec (.placeRequest id) s = .next t ∧
    (reqAt t id).map (fun x => (x.stage, x.tokens)) = some (.done, 0)) ∧
  (∀ (s : State) (l : Nat) (err : LineErr) (reader : LineReader), awake s = true → 64 * l < geometryBytes s →
    exec (.lineReadDone l err reader) s = .next (readLine s l err reader)) ∧
  (∀ (s : State) (i : Nat) (r : Req), reqsOf s i = [r] → r.stage = .done → r.mst = false → r.dup = false → r.silent = false →
    exec (.answerQp i) s = .next (answerOne s r)) ∧
  (∀ (s : State) (i : Nat) (r : Req), reqsOf s i = [r] → r.stage = .done → r.mst = false → r.dup = false → r.silent = true →
    exec (.answerQp i) s = .next (ackDue (answerOne s r) i (ackNow (answerOne s r) r))) ∧
  (∀ (s : State) (i : Nat), s.xpt.unacked.has i = true → ∃ t, exec (.ackCoalesceDelay i) s = .next t ∧
    t.xpt.unacked.has i = false ∧ (qpAt t i).lastack = (qpAt s i).xhorizon % 2 ^ 24) ∧
  (∀ (s : State) (p : Fin 4) (share : Nat), awake s = true → s.on R.XPT_REIN_FREEZE 0 p = false →
    s.rd R.XPT_REINTH_HI 0 p ≤ share → ∃ t, exec (.reinLoopTick p share) s = .next t ∧
    t.rd R.XPT_REINSTAT_WIN 0 p = max (s.rd R.XPT_REIN_MIN 0 p) (win s p / 2) % 256)

/-- Logical ports go up and down, answer for their addresses, pause and count codewords. Rests on R29, R117, R118, R119, R120,
R148, R486; the model's choices that bear on it are log entries 19, 62, 66, 142, 144, 164. -/
def Obligations.PortsAct : Prop :=
  (∀ (s : State) (l : Fin 16), awake s = true → s.running (26 + l.val / 4) = true → portUsed s l = true → portUp s l = false →
    ∃ t, exec (.linkUp l) s = .next t ∧ portUp t l = true ∧ t.prt.lanes.get l 0 = portLanes s l ∧ t.prt.training.has l = false) ∧
  (∀ (s : State) (l : Fin 16) (cause : Fin 3), awake s = true → portUp s l = true → ∃ t, exec (.linkDown l cause) s = .next t ∧
    portUp t l = false ∧ t.prt.training.has l = true ∧ t.prt.lanes.find? l = none) ∧
  (∀ (s : State) (l : Nat), awake s = true → l < 16 → portUsed s l = true → ∃ t, exec (.portRelinkCmd l) s = .next t ∧
    portUp t l = false ∧ t.prt.training.has l = true ∧
    cmdStat t (ekey 0x2202 1) = { state := 2, code := 0, progress := 0xFFFF }) ∧
  (∀ (s : State) (p : Fin 4) (sub : BitVec 4) (subs : List Nat), awake s = true →
    subs = (List.range 4).filter (fun j => bit sub.toNat j) → subs.all (fun j => portUsed s (4 * p.val + j)) = true →
    exec (.prtRelinkWrite p sub) s = .next (subs.foldl (fun t j => relink t (4 * p.val + j)) s)) ∧
  (∀ (s : State) (l : Fin 16) (src : Nat), awake s = true → portUp s l = true → s.rd R.PRT_IP4 (l.val % 4) (l.val / 4) ≠ 0 → exec
    (.prtArpNsEcho l 0 (s.rd R.PRT_IP4 (l.val % 4) (l.val / 4)) src) s = .next (((s.bump C.PRT_RXFRAMES 1 (l.val % 4) (l.val /
    4)).bump C.PRT_TXFRAMES 1 (l.val % 4) (l.val / 4)).emit (.net l 0 (s.rd R.PRT_IP4 (l.val % 4) (l.val / 4)) src))) ∧
  (∀ (s : State) (l : Fin 16) (addr src : Nat), awake s = true → portUp s l = true →
    addr ≠ s.rd R.PRT_IP4 (l.val % 4) (l.val / 4) →
    exec (.prtArpNsEcho l 0 addr src) s = .next (dropFrame (s.bump C.PRT_RXFRAMES 1 (l.val % 4) (l.val / 4)) l)) ∧
  (∀ (s : State) (l : Fin 16) (prio : Fin 8) (pause : Bool), awake s = true → portUp s l = true →
    s.rbit R.PRT_PFC_RXEN prio (l.val / 4) = true →
    exec (.pfcPauseReceived l prio pause) s = .next (drainPorts { s.bump C.PRT_PAUSERX 1 (l.val % 4) (l.val / 4) with prt := { s.prt with paused := s.prt.paused.put l (bitPut (s.prt.paused.get l 0) prio pause) 0 } })) ∧
  (∀ (s : State) (l : Fin 16) (n : Nat), awake s = true → n < s.rd R.PRT_FECTH_FECTH 0 (l.val / 4) → exec (.fecAlarm l n) s =
    .next ((s.bump C.PRT_FECUNC n (l.val % 4) (l.val / 4)).wbit R.PRT_LINKSTAT_FECALARM (l.val % 4) false (l.val / 4))) ∧
  (∀ (s : State) (l : Fin 16) (n : Nat), awake s = true → s.rd R.PRT_FECTH_FECTH 0 (l.val / 4) ≤ n → ∃ t,
    exec (.fecAlarm l n) s = .next t ∧ t.rbit R.PRT_LINKSTAT_FECALARM (l.val % 4) (l.val / 4) = true)

/-- The requester's QPs and the QP ports of XPT. Rests on R123, R127, R144, R145, R146, R149, R296; the model's choices that bear
on it are log entries 22, 53, 93, 165. -/
def Obligations.RequesterAndQpPortActs : Prop :=
  (∀ (s : State) (i : Fin 16384) (psn : Nat) (data : List Nat) (u : State), awake s = true → (rqAt s i).qstate = 3 →
    (rqAt s i).outpkt ≠ 0 → (rqAt s i).ops = [] → psnLe (rqAt s i).upsn psn = true →
    psnLe psn (((rqAt s i).spsn + 2 ^ 24 - 1) % 2 ^ 24) = true → (psn + 1) % 2 ^ 24 ≠ (rqAt s i).upsn →
    u = setRq s i (rqCount { rqAt s i with ops := [], upsn := (psn + 1) % 2 ^ 24, retries := 0, rnrused := 0, rtocur := s.rd R.XPT_RTO_RTOINIT 0 (rqPipe (rqAt s i)) }) →
    exec (.requesterAckReceived i psn data) s = .next (showMst (rqPump 256 i u))) ∧
  (∀ (s : State) (i : Fin 16384), awake s = true → (rqAt s i).qstate = 3 → (rqAt s i).outpkt ≠ 0 →
    (rqAt s i).retries < s.rd R.XPT_RTO_RETRY 0 (rqPipe (rqAt s i)) →
    exec (.requesterTimeout i) s = .next (rqResend (setRq (s.bump C.XPT_REQRETRY 1 0 (rqPipe (rqAt s i))) i { rqAt s i with retries := (rqAt s i).retries + 1, rtocur := min (2 * (rqAt s i).rtocur) (2 ^ 26 - 1) }) i)) ∧
  (∀ (s : State) (i : Fin 16384) (psn : Nat), awake s = true → (rqAt s i).qstate = 3 → (rqAt s i).outpkt ≠ 0 →
    (rqAt s i).retries < s.rd R.XPT_RTO_RETRY 0 (rqPipe (rqAt s i)) →
    exec (.requesterNakReceived i psn 0x60) s = .next (rqResend (setRq (s.bump C.XPT_REQRETRY 1 0 (rqPipe (rqAt s i))) i { rqAt s i with retries := (rqAt s i).retries + 1 }) i)) ∧
  (∀ (s : State) (i : Fin 16384) (psn syndrome : Nat), awake s = true → (rqAt s i).qstate = 3 → (rqAt s i).outpkt ≠ 0 →
    syndrome ≠ 0x60 → exec (.requesterNakReceived i psn syndrome) s = .next (showMst (rqError (raise s (0x10A0 + rqPipe (rqAt s
    i)) [0x80000 + i.val, psn, syndrome]) i syndrome))) ∧
  (∀ (s : State) (i : Fin 16384), awake s = true → (rqAt s i).qstate = 3 → (rqAt s i).outpkt ≠ 0 →
    s.rd R.XPT_RTO_RNRRETRY 0 (rqPipe (rqAt s i)) = 7 →
    exec (.requesterRnrNak i) s = .next (setRq s i { rqAt s i with rnrWait := true })) ∧
  (∀ (s : State) (i : Fin 16384), awake s = true → (rqAt s i).qstate = 3 → (rqAt s i).rnrWait = true →
    exec (.requesterRnrWaitEnd i) s = .next (showMst (rqPump 256 i (rqResend (setRq s i { rqAt s i with rnrWait := false }) i)))) ∧
  (∀ (s : State) (i : Fin 16384), awake s = true → (rqAt s i).qstate = 3 → (rqAt s i).lastCut = none → ∃ t,
    exec (.requesterCnp i) s = .next t ∧
    (rqAt t i).rate = max 10 ((rqAt s i).rate * (256 - s.rd R.XPT_RP_CUT 0 (rqPipe (rqAt s i))) / 256) ∧
    (rqAt t i).lastCut = some s.now) ∧
  (∀ (s : State) (i : Fin 16384), awake s = true → (rqAt s i).qstate = 3 → ∃ t, exec (.requesterRateRise i) s = .next t ∧ (rqAt t
    i).rate = max (rqAt s i).rate (min (1000 * s.prt.lanes.get (rqAt s i).lport 0) ((rqAt s i).rate + 10 * s.rd R.XPT_RP_RAI 0
    (rqPipe (rqAt s i))))) ∧
  (∀ (s : State) (p : Fin 4) (q : Qp), awake s = true → serves (qpAt s (qpIndex s p)) = false → q = qpOf (qpDataWords s p) →
    qpBad s q = false → s.xpt.cache.has (qpIndex s p) = false → exec (.xptQpWrite p) s = .next (showDoorbell (writeBack (setQp
    (qpRefused s p false) (qpIndex s p) q) (qpIndex s p)) (qpIndex s p))) ∧
  (∀ (s : State) (p : Fin 4) (q : Qp), awake s = true → serves (qpAt s (qpIndex s p)) = false → q = qpOf (qpDataWords s p) →
    qpBad s q = false → s.xpt.cache.has (qpIndex s p) = true →
    exec (.xptQpWrite p) s = .next (showDoorbell (setQp (qpRefused s p false) (qpIndex s p) q) (qpIndex s p))) ∧
  (∀ (s : State) (p : Fin 4), awake s = true → serves (qpAt s (qpIndex s p)) = true →
    exec (.xptQpWrite p) s = .next (qpRefused s p true)) ∧
  (∀ (s : State) (p : Fin 4), awake s = true → exec (.xptQpRead p) s = .next ((qpWords (qpAt s (qpIndex s p))).zipIdx.foldl (fun
    t w => (t.wr R.XPT_QPDATA (w.1 % 2 ^ 32) (2 * w.2) p).wr R.XPT_QPDATA (w.1 / 2 ^ 32) (2 * w.2 + 1) p) (qpRefused s p false)))
    ∧
  (∀ (s : State) (p : Fin 4), awake s = true → exec (.xptQpToError p) s = .next (qpError (qpRefused s p false) (qpIndex s p))) ∧
  (∀ (s : State) (p : Fin 4), awake s = true → reqsOf s (qpIndex s p) = [] → ∃ t, exec (.xptQpWritebackEvict p) s = .next t ∧
    t.xpt.cache.find? (qpIndex s p) = none) ∧
  (∀ (s : State) (session : Nat), awake s = true → exec (.qpInspectToErrorCmd session) s = .next (cmdDone (qpError (cmdRun s
    (ekey 0x2230 0x0A)) (sessEnt s session (ekey 0x2230 1) 0)) (ekey 0x2230 0x0A)))

/-- Flits, lane faults, widths, retraining, heartbeats and training of the Visil link. Rests on R184, R185, R187, R188, R189, R190,
R202, Table 6.3, Table 6.4; the model's choices that bear on it are log entries 30, 71, 77, 132, 133, 160, 161, 192. -/
def Obligations.VisilLinkActs : Prop :=
  (∀ (s : State) (bytes : List (BitVec 8)), visilUp s = true → bytes.length = 512 →
    exec (.flitReceived bytes) s = .next (flitIn s (bytes.map (·.toNat)))) ∧
  (∀ (s : State) (bytes : List (BitVec 8)) (h : Nat), visilUp s = true → bytes.length = 512 → h = fld (bytes.map (·.toNat)) 0 8 →
    crc64 ((bytes.map (·.toNat)).take 504) = fld (bytes.map (·.toNat)) 504 8 → bits h 60 4 = 0 → bit h 35 = false →
    s.twn.txq = [] → ∃ t, exec (.flitReceived bytes) s = .next t ∧ t.twn.peerAck = bits h 36 12 ∧ t.twn.flits = true ∧
    t.twn.ackseq = s.twn.ackseq ∧ t.ctr C.TWN_FLITRX = (s.ctr C.TWN_FLITRX + 1) % 2 ^ 64) ∧
  (∀ (s : State) (bytes : List (BitVec 8)), visilUp s = true → bytes.length = 512 →
    crc64 ((bytes.map (·.toNat)).take 504) ≠ fld (bytes.map (·.toNat)) 504 8 → bits (fld (bytes.map (·.toNat)) 0 8) 60 4 ≠ 1 →
    exec (.flitReceived bytes) s = .next (s.bump C.TWN_CRCERR)) ∧
  (∀ (s : State), visilUp s = true → s.twn.replays < s.rd R.TWN_LINKTIME_RPLIMIT → ∃ t, exec .replayTimer s = .next t ∧
    t.twn.replays = s.twn.replays + 1 ∧ t.ctr C.TWN_REPLAY = (s.ctr C.TWN_REPLAY + 1) % 2 ^ 64) ∧
  (∀ (s : State), visilUp s = true → s.rd R.TWN_LINKTIME_RPLIMIT ≤ s.twn.replays → exec .replayTimer s = .next (linkFault s 2)) ∧
  (∀ (s : State) (lane : Fin 20) (cause : Fin 3) (m : Nat), visilUp s = true → s.rbit R.TWN_LANESTAT_ACTIVE lane = true →
    m = goodLanes (probation (s.bump C.TWN_LANEFAULT) lane) → wmin s ≤ lanesOf m → ∃ t,
    exec (.laneFault lane cause) s = .next t ∧ t.twn.wOffer = some m ∧ t.twn.adding = 0 ∧ t.twn.txStop = true ∧
    t.out.head? = some (.ctrl 1 m 0)) ∧
  (∀ (s : State) (mask : BitVec 20), visilUp s = true → ∃ t, exec (.ctrlWidth mask) s = .next t ∧
    t.twn.wSwitch = some (mask.toNat &&& (goodLanes s ||| s.twn.passed)) ∧ t.twn.txStop = true ∧
    t.out.head? = some (.ctrl 2 (mask.toNat &&& (goodLanes s ||| s.twn.passed)) (switchAt s))) ∧
  (∀ (s : State) (mask : BitVec 20), visilUp s = true → s.twn.wOffer.isSome = true →
    exec (.ctrlWidthAck mask) s = .next ({ s with twn := { s.twn with wSwitch := some mask.toNat } })) ∧
  (∀ (s : State) (m : Nat), visilUp s = true → s.twn.wSwitch = some m → lanesOf m < wmin s →
    exec .widthSwitch s = .next (linkFault { s with twn := { s.twn with wOffer := none, wSwitch := none, adding := 0, txStop := false } } 3)) ∧
  (∀ (s : State) (m : Nat), visilUp s = true → s.twn.wSwitch = some m → s.rd R.TWN_LANESTAT_ACTIVE = m → wmin s ≤ lanesOf m →
    ∃ t, exec .widthSwitch s = .next t ∧ t.rd R.TWN_LANESTAT_WIDTH = lanesOf m % 32 ∧ t.twn.wSwitch = none ∧
    t.twn.txStop = false) ∧
  (∀ (s : State) (lane : Fin 20), visilUp s = true → s.rbit R.TWN_PROBSTAT_PROBATION lane = true →
    s.rbit R.TWN_LANECFG_LANEEN lane = true → farHolds s (laneOwner lane) [100 + lane.val] = true →
    exec (.laneProbationPassed lane) s = .next (widen { farDrop s (laneOwner lane) with twn := { (farDrop s (laneOwner lane)).twn with passed := bitSet (farDrop s (laneOwner lane)).twn.passed lane } })) ∧
  (∀ (s : State), visilUp s = true → exec .linkSilence s = .next (linkFault s 1)) ∧
  (∀ (s : State) (mask : BitVec 20) (m : Nat), twnRuns s = true → s.twn.link = 2 → s.twn.waitSince = none →
    m = mask.toNat &&& trainable s → wmin s ≤ lanesOf m → ∃ t, exec (.retrainAttemptDone mask) s = .next t ∧ t.twn.link = 1 ∧
    t.twn.attempt = 0 ∧ t.rd R.TWN_LANESTAT_WIDTH = lanesOf m % 32 ∧ t.rd R.TWN_LANESTAT_ACTIVE = m % 2 ^ 20) ∧
  (∀ (s : State) (mask : BitVec 20) (m : Nat), twnRuns s = true → s.twn.link = 2 → s.twn.waitSince = none →
    m = mask.toNat &&& trainable s → lanesOf m < wmin s → s.twn.attempt < s.rd R.TWN_LINKTIME_RETRAINS →
    exec (.retrainAttemptDone mask) s = .next ({ s with twn := { s.twn with waitSince := some s.now } })) ∧
  (∀ (s : State), twnRuns s = true → s.twn.link = 2 → s.twn.waitSince.isSome = true →
    exec .retrainDelayEnd s = .next (retrain s (s.twn.attempt + 1) 5)) ∧
  (∀ (s : State), twnRuns s = true → s.on R.TWN_STATE_HBALIVE = true → ∃ t, exec (.heartbeatSilent 0) s = .next t ∧
    t.on R.TWN_STATE_HBALIVE = false) ∧
  (∀ (s : State), twnRuns s = true → s.on R.TWN_STATE_HBBLIVE = true → ∃ t, exec (.heartbeatSilent 1) s = .next t ∧
    t.on R.TWN_STATE_HBBLIVE = false) ∧
  (∀ (s : State), pairable s = true → s.twn.link = 0 → tstate s = 0 ∨ tstate s = 3 →
    exec .linkTrainingAttempt s = .next (s.emit (.ctrl 3 (s.rd R.TWN_LANECFG_LANEEN) 0))) ∧
  (∀ (s : State) (mask : BitVec 20), pairable s = true → s.twn.link = 0 → tstate s = 0 ∨ tstate s = 3 →
    s.rd R.TWN_LANECFG_WMIN ≤ lanesOf (mask.toNat &&& s.rd R.TWN_LANECFG_LANEEN) → ∃ t, exec (.linkTrained mask) s = .next t ∧
    t.twn.link = 1 ∧ t.twn.ackseq = 4095 ∧ t.rd R.TWN_LANESTAT_WIDTH = lanesOf (mask.toNat &&& s.rd R.TWN_LANECFG_LANEEN) % 32)

/-- Messages about pages on the Visil link. Rests on R158, R159, R160, R181, R186, R195, R198, R211, R234; the model's choices that
bear on it are log entries 30, 48, 160. -/
def Obligations.TwinPageMessagesAct : Prop :=
  (∀ (s : State) (tag epoch spage off : Nat) (async : Bool) (data : List Nat), dataVc s = true →
    isSpan s = true ∨ isReturner s = true →
    exec (.mirrorMsg tag epoch spage off async data) s = .next (pageMsg s (.mirror tag epoch spage off async data))) ∧
  (∀ (s : State) (tag spage off : Nat) (data : List Nat), dataVc s = true → isSpan s = true →
    exec (.forwardMsg tag spage off data) s = .next (pageMsg s (.forward tag spage off data))) ∧
  (∀ (s : State) (tag spage line word arg swap : Nat) (fadd : Bool), dataVc s = true → isSpan s = true →
    exec (.fwdAtomic tag spage line word fadd arg swap) s = .next (pageMsg s (.fwdAtomic tag spage line word fadd arg swap))) ∧
  (∀ (s : State) (tag epoch spage result : Nat) (atomic : Option (Nat × Nat)), dataVc s = true → isSpan s = true →
    exec (.orderedMsg tag epoch spage result atomic) s = .next (pageMsg s (.ordered tag epoch spage result atomic))) ∧
  (∀ (s : State) (tag epoch spage status : Nat), visilUp s = true → epoch < 2 ^ 48 → status ≤ 1 →
    waitingPart (pendDone s spage 1 0) .placed tag = none →
    exec (.placedMsg tag epoch spage status) s = .next ((fun t => retryHeld (pairProgress { t with twn := { t.twn with asyncTags := t.twn.asyncTags.filter (· ≠ tag) } })) (pendDone s spage 1 0))) ∧
  (∀ (s : State) (tag extent kind pages : Nat), dataVc s = true → 1 ≤ kind → kind ≤ 3 →
    exec (.moveMsg tag extent kind pages) s = .next (retryHeld (moveIn s tag extent kind pages))) ∧
  (∀ (s : State) (tag extent kind pages : Nat), visilUp s = true → pairLinked s = true → isLead s = true → tag < 32768 →
    exec (.movereq tag extent kind pages) s = .next (moveReqIn s extent kind pages)) ∧
  (∀ (s : State) (tag extent pages : Nat), visilUp s = true → pairLinked s = true → isLead s = true → tag < 32768 →
    decides s = true →
    exec (.movereq tag extent 2 pages) s = .next (chargeEmptied (setCharge s extent { chargeSet s extent with twin := false }) extent)) ∧
  (∀ (s : State) (tag extent pages : Nat), dataVc s = true → (extentAt s extent).ingroup = true → exec (.moveMsg tag extent 1
    pages) s = .next (retryHeld (checkMove (promote (quotaRunAll s extent) extent pages true) extent))) ∧
  (∀ (s : State) (tag extent pages : Nat), dataVc s = true → (extentAt s extent).ingroup = true →
    exec (.moveMsg tag extent 2 pages) s = .next (retryHeld (checkMove (demote s extent true) extent))) ∧
  (∀ (s : State) (tag epoch spage off : Nat) (async : Bool) (data : List Nat) (q : State × Bool) (w : State × Nat),
    dataVc s = true → isSpan s = true ∨ isReturner s = true → s.twn.heldMsgs = [] → orderOf s spage epoch = .next →
    mirrorTokens s 1 = true → q = readyIn s spage → q.2 = true → w = partLines q.1 spage off data.length → w.2 ≠ 1 → exec
    (.mirrorMsg tag epoch spage off async data) s = .next (retryHeld (twinSend (placeIn w.1 spage off data epoch) (.placed tag
    epoch spage 0)))) ∧
  (∀ (s : State) (tag spage off : Nat) (data : List Nat) (q : State × Bool) (w : State × Nat), dataVc s = true →
    isSpan s = true → s.twn.heldMsgs = [] → fenced s spage = false → mirrorTokens s 1 = true → q = readyIn s spage → q.2 = true →
    w = partLines q.1 spage off data.length → w.2 = 0 → exec (.forwardMsg tag spage off data) s = .next (retryHeld (twinSend
    (placeData w.1 spage off data (nextEpoch w.1 spage)) (.ordered tag (nextEpoch w.1 spage) spage 0 none)))) ∧
  (∀ (s : State) (tag spage line word arg swap old new : Nat) (fadd : Bool) (q : State × Bool) (w : State × Nat),
    dataVc s = true → isSpan s = true → s.twn.heldMsgs = [] → fenced s spage = false → mirrorTokens s 1 = true →
    q = readyIn s spage → q.2 = true → w = partLines q.1 spage (64 * line + 8 * word) 8 → w.2 = 0 →
    old = wordAt w.1 spage (64 * line + 8 * word) → new = atomicNew fadd old arg swap → exec (.fwdAtomic tag spage line word fadd
    arg swap) s = .next (retryHeld (twinSend (placeData w.1 spage (64 * line + 8 * word) (leBytes new 8) (nextEpoch w.1 spage))
    (.ordered tag (nextEpoch w.1 spage) spage 0 (some (new, old)))))) ∧
  (∀ (s : State) (tag epoch spage : Nat) (atomic : Option (Nat × Nat)) (x : FwdEnt) (q : State × Bool) (w : State × Nat),
    dataVc s = true → isSpan s = true → s.twn.heldMsgs = [] → orderOf s spage epoch = .next → s.twn.fwd.find? tag = some x →
    forwardToken s tag = true → q = readyIn s spage → q.2 = true → w = partLines q.1 spage x.off (orderedBytes x atomic).length →
    w.2 ≠ 1 → exec (.orderedMsg tag epoch spage 0 atomic) s = .next (retryHeld (forwardEnds (placeIn w.1 spage x.off
    (orderedBytes x atomic) epoch) tag spage true ((atomic.map (·.2)).getD 0)))) ∧
  (∀ (s : State) (tag spage line f : Nat), dataVc s = true → isSpan s = true → s.twn.heldMsgs = [] → fenced s spage = false →
    usable s spage = true → frameOf s spage = some f → lineFault s (64 * f + line) = none → exec (.tread tag spage line) s =
    .next (retryHeld (twinSend s (.treadData tag (pageEpoch s spage) spage line (dRead s (4096 * f + 64 * line) 64))))) ∧
  (∀ (s : State) (tag epoch spage poison : Nat) (zero : Bool) (data : List Nat) (u : State), visilUp s = true →
    s.twn.departed = false → tstate s = 2 → s.twn.heldMsgs = [] → installResync s spage epoch zero poison data = (u, true) →
    u.log.fences.has spage = false →
    exec (.resyncPage tag epoch spage zero false poison data) s = .next (reconStep (retryHeld ((fun v => dropOld (twinSend { v with twn := { v.twn with reconPeer := v.twn.reconPeer.del spage, reconOwn := v.twn.reconOwn.del spage } } (.placed tag epoch spage 0)) spage epoch) (u.bump C.TWN_RESYNCRX))))) ∧
  (∀ (s : State) (tag epoch spage line f : Nat) (data : List Nat) (u : State), visilUp s = true → tag < 32768 →
    treading s spage line = true → frameOf s spage = some f → s.twn.treadPipe.find? (64 * spage + line) = none →
    u = lineSound (dWrite { s with twn := { s.twn with treads := s.twn.treads.filter (fun x => x ≠ (spage, line)), treadPipe := s.twn.treadPipe.del (64 * spage + line) } } (4096 * f + 64 * line) (data.take 64)) (64 * f + line) →
    (pageFrame u spage).pstate ≠ .filling → isHome u spage = true →
    exec (.treadData tag epoch spage line data) s = .next (retryHeld (unfetch (raise u 0x1920 [spage, line]) spage))) ∧
  (∀ (s : State) (tag spage line cause f : Nat), visilUp s = true → tag < 32768 → cause < 16 → treading s spage line = true →
    frameOf s spage = some f → (pageFrame s spage).pstate ≠ .filling →
    exec (.treadFail tag spage line cause) s = .next (retryHeld (unfetch (writePoison { s with twn := { s.twn with treads := s.twn.treads.filter (fun x => x ≠ (spage, line)), treadPipe := s.twn.treadPipe.del (64 * spage + line) } } (64 * f + line) 1) spage))) ∧
  (∀ (s : State) (tag extent kind : Nat) (mv : Movement), visilUp s = true → tag < 32768 →
    s.twn.alignWait.contains extent = false → s.tie.moves.find? extent = some mv → mv.selfDone = true →
    exec (.moveDone tag extent kind 0) s = .next (retryWaiting (endMove { s with tie := { s.tie with moves := s.tie.moves.ins extent { mv with twinDone := true } } } extent))) ∧
  (∀ (s : State) (tag spage line : Nat), dataVc s = true → isSpan s = true →
    exec (.tread tag spage line) s = .next (pageMsg s (.tread tag spage line))) ∧
  (∀ (s : State) (tag epoch spage line : Nat) (data : List Nat), visilUp s = true → tag < 32768 →
    exec (.treadData tag epoch spage line data) s = .next (treadDataIn s epoch spage line data)) ∧
  (∀ (s : State) (tag spage line cause : Nat), visilUp s = true → tag < 32768 → cause < 16 →
    exec (.treadFail tag spage line cause) s = .next (treadFailIn s spage line)) ∧
  (∀ (s : State) (tag extent kind result : Nat), visilUp s = true → tag < 32768 →
    exec (.moveDone tag extent kind result) s = .next (retryWaiting (moveDoneIn s extent kind result))) ∧
  (∀ (s : State) (tag spage : Nat), visilUp s = true → s.twn.departed = false → tstate s ≠ 0 → tag < 32768 →
    fenced s spage = false → exec (.pagepull tag spage) s = .next (sendResync s spage false)) ∧
  (∀ (s : State) (tag epoch spage poison : Nat) (zero fence : Bool) (data : List Nat), visilUp s = true →
    s.twn.departed = false → 1 ≤ tstate s → exec (.resyncPage tag epoch spage zero fence poison data) s = .next (reconStep
    (pageMsg s (.resyncPage tag epoch spage zero fence poison data)))) ∧
  (∀ (s : State) (tag epoch spage off : Nat) (data : List Nat), tstate s = 3 → isReturner s = false →
    exec (.mirrorMsg tag epoch spage off false data) s = .next s) ∧
  (∀ (s : State) (tag spage off : Nat) (data : List Nat), tstate s = 3 → exec (.forwardMsg tag spage off data) s = .next s)

/-- HELLO, its answer, the return, DEPART and map operations between the sides. Rests on R86, R202, R203, R204, R212, R213, R431,
Table 6.9, Table 6.14; the model's choices that bear on it are log entries 49, 69, 72, 74, 76, 96. -/
def Obligations.TwinPairingMessagesAct : Prop :=
  (∀ (s : State) (tag : Nat) (h : Hello), visilUp s = true → tstate s = 1 → tag < 32768 → h.side = mySide s →
    exec (.helloMsg tag h) s = .next ((fun t => pairRefused (twinSend t (.helloAnswer tag 15 2 (min (myHello s).level h.level) s.log.pairId s.log.pgen)) 15 2 h.pairId) { s with twn := { s.twn with hello := some h, peerWmin := h.wmin } })) ∧
  (∀ (s : State) (tag : Nat) (h : Hello), visilUp s = true → tstate s = 1 → tag < 32768 → h.side ≠ mySide s → mySide s ≠ 0 →
    exec (.helloMsg tag h) s = .next ({ s with twn := { s.twn with hello := some h, peerWmin := h.wmin } })) ∧
  (∀ (s : State) (tag dec reason : Nat) (h : Hello), visilUp s = true → tstate s = 1 → tag < 32768 → h.side ≠ mySide s →
    mySide s = 0 → decision (myHello s) h = (dec, reason) → dec ≠ 0 → s.log.pairId ≠ 0 →
    exec (.helloMsg tag h) s = .next ((fun t => actOn (twinSend t (.helloAnswer tag dec reason (min (myHello s).level h.level) s.log.pairId s.log.pgen)) dec reason (min (myHello s).level h.level) s.log.pairId s.log.pgen h) { s with twn := { s.twn with hello := some h, peerWmin := h.wmin } })) ∧
  (∀ (s : State) (tag reason level pairId pgen : Nat) (h : Hello), visilUp s = true → tstate s = 1 → tag < 32768 →
    s.twn.hello = some h →
    exec (.helloAnswer tag 1 reason level pairId pgen) s = .next (reconStart { s with twn := { s.twn with peerWmin := h.wmin, runLevel := level } })) ∧
  (∀ (s : State) (tag decision reason level pairId pgen : Nat) (h : Hello), visilUp s = true → tstate s = 1 ∨ tstate s = 3 →
    tag < 32768 → s.twn.hello = some h →
    exec (.helloAnswer tag decision reason level pairId pgen) s = .next (actOn s decision reason level pairId pgen h)) ∧
  (∀ (s : State) (tag : Nat) (pages : List Nat), visilUp s = true → tstate s = 4 → isSurvivor s = true → s.twn.cstep = 1 →
    tag < 32768 →
    exec (.pendlist tag false pages) s = .next ({ s with twn := { s.twn with peerPend := s.twn.peerPend ++ pages } })) ∧
  (∀ (s : State) (tag pgen : Nat), visilUp s = true → tstate s = 4 → isReturner s = true → tag < 32768 → pgen < 2 ^ 64 → ∃ t,
    exec (.stateReady tag pgen) s = .next t ∧ tstate t = 5) ∧
  (∀ (s : State) (tag pgen : Nat), visilUp s = true → tstate s = 5 → isReturner s = true → tag < 32768 → pgen < 2 ^ 64 →
    s.dev ≠ .serving → exec (.stateSpanreq tag pgen) s = .next (showGate { s with twn := { s.twn with spanReq := true } })) ∧
  (∀ (s : State) (tag pgen : Nat), visilUp s = true → tstate s = 5 → isSurvivor s = true → s.twn.spanReq = true → tag < 32768 →
    pgen < 2 ^ 64 → exec (.stateSpanok tag pgen) s = .next (spanFinish { s with twn := { s.twn with spanOk := true } })) ∧
  (∀ (s : State) (tag pgen : Nat), visilUp s = true → tstate s = 5 → isReturner s = true → tag < 32768 →
    exec (.stateSpandone tag pgen) s = .next (enterSpan s pgen)) ∧
  (∀ (s : State) (tag cause : Nat), visilUp s = true → tag < 32768 → cause < 16 →
    exec (.depart tag cause) s = .next (twinLost s 1)) ∧
  (∀ (s : State) (tag index : Nat) (words : List Nat), takesMaps s = true → index < 16384 → exec (.mapopRegionSet tag index
    words) s = .next (twinSend (regionApply s index (regionOf words)) (.mapopDone tag 0 index (rkeyOf index (regionOf words)))))
    ∧
  (∀ (s : State) (tag extent : Nat) (words : List Nat), takesMaps s = true →
    exec (.mapopExtentSet tag extent words) s = .next (twinSend (extentApply s extent (words.headD 0)) (.mapopDone tag 0 0 0))) ∧
  (∀ (s : State) (tag extent count : Nat), takesMaps s = true →
    exec (.mapopDealloc tag extent count) s = .next (twinSend (deallocHere s extent count) (.mapopDone tag 0 0 0))) ∧
  (∀ (s : State) (tag : Nat) (words : List Nat), visilUp s = true →
    exec (.mapopRegreq tag words) s = .next (mapRequest s (.mapop tag 4 0 0 0 words))) ∧
  (∀ (s : State) (tag : Nat) (words : List Nat), visilUp s = true → pairLinked s = true → isLead s = true → fwUp s = true →
    drbgOk s = true → exec (.mapopRegreq tag words) s = .next (regReq s tag (regionOf words))) ∧
  (∀ (s : State) (tag rkey : Nat), visilUp s = true → pairLinked s = true → isLead s = true → fwUp s = true → rkey < 2 ^ 32 →
    exec (.mapopDeregreq tag rkey) s = .next (deregReq s tag rkey)) ∧
  (∀ (s : State) (tag index rkey : Nat) (w : MapWait), visilUp s = true →
    s.twn.waits.find? (fun x => x.tag = tag && x.kind ≠ 4 && x.kind ≠ 7) = some w → w.kind = 2 ∨ w.kind = 3 →
    exec (.mapopDone tag 0 index rkey) s = .next (cmdDone { s with twn := { s.twn with waits := s.twn.waits.filter (· ≠ w) } } w.entry)) ∧
  (∀ (s : State) (tag rkey : Nat), visilUp s = true →
    exec (.mapopDeregreq tag rkey) s = .next (mapRequest s (.mapop tag 5 0 0 0 [rkey % 2 ^ 32 * 2 ^ 32, 0]))) ∧
  (∀ (s : State) (tag result index rkey : Nat), visilUp s = true →
    exec (.mapopDone tag result index rkey) s = .next (mapDone s tag result index rkey))

/-- The pair's dictionary messages, reconciliation, catch-up and commands. Rests on R203, R204, R206, R213, R214, R216, Table 6.13,
Table 6.15; the model's choices that bear on it are log entries 30, 48, 73, 74, 116, 160. -/
def Obligations.TwinDictionaryAndCatchupActs : Prop :=
  (∀ (s : State) (tag : Nat) (frame : List Nat), exec (.dict tag frame) s = .next (frameIn s 3 tag frame)) ∧
  (∀ (s : State) (tag : Nat) (f : List Nat) (k : List Nat), dicReady s 3 → malformed f = false → frameKind f = 1 →
    (frameBody f).length = 20 → bit (frameFlags f) 4 = false → roleKey s ((frameBody f).getD 0 0) = some k →
    roleAllowed s 3 ((frameBody f).getD 0 0) = true →
    (s.dic.sessions.filter (fun e => decide (e.2.path = 3))).length < pathRoom 3 → bit s.dic.locked 3 = false → ∃ t,
    exec (.dict tag f) s = .next t ∧ (t.dic.sessions.find? (allotSession s)).map (fun x => (x.path, x.role, x.isOpen, x.src)) =
    some (3, (frameBody f).getD 0 0, false, tag) ∧ t.dic.opens = s.dic.opens + 1) ∧
  (∀ (s : State) (tag : Nat) (frame : List Nat), awake s = true → visilUp s = true →
    exec (.dictRsp tag frame) s = .next ({ s with dic := { s.dic with peerRsp := s.dic.peerRsp ++ [(tag, frame)] } })) ∧
  (∀ (s : State) (tag epoch spage check : Nat), visilUp s = true → tstate s = 1 → s.twn.pairing = 1 → tag < 32768 →
    exec (.reconMsg tag epoch spage 2 check) s = .next ({ s with twn := { s.twn with reconPeer := s.twn.reconPeer.ins spage { epoch := epoch, check := check } } })) ∧
  (∀ (s : State) (tag entries : Nat), visilUp s = true → tstate s = 1 → s.twn.pairing = 1 → tag < 32768 →
    exec (.reconEnd tag entries 1) s = .next ((fun t => reconStep { t with twn := { t.twn with reconEndTx := true } }) (withTag s (fun n => .reconEnd n s.twn.reconSent 2)))) ∧
  (∀ (s : State) (tag entries : Nat), visilUp s = true → tstate s = 1 → s.twn.pairing = 1 → tag < 32768 →
    exec (.reconEnd tag entries 2) s = .next (reconStep { s with twn := { s.twn with reconEndRx := true } })) ∧
  (∀ (s : State) (p : Nat), visilUp s = true → tstate s = 4 → isSurvivor s = true → s.twn.cstep = 3 →
    s.on R.TWN_RESYNC_PAUSE = false → nextChanged s = some p → exec .catchupPageSend s = .next (walkSend s p)) ∧
  (∀ (s : State), visilUp s = true → tstate s = 4 → isSurvivor s = true → s.twn.cstep = 4 → s.twn.alignWait = [] →
    exchanging s = false → ∃ t, exec .catchupReady s = .next t ∧ tstate t = 5) ∧
  (∀ (s : State), s.dev = .restoring → pairable s = true → tstate s = 0 → s.log.role = 1 →
    exec .pairwaitExpiry s = .next (showGate (enterSolo (visilDown s) 2))) ∧
  (∀ (s : State) (u : State), twnRuns s = true → u = cmdRun s (ekey 0x2402 1) → tstate u = 0 → pairable u = true →
    u.log.role ≠ 2 → exec .goSoloCmd s = .next (twnDone (showGate (enterSolo (visilDown u) 4)) 1)) ∧
  (∀ (s : State) (u : State), twnRuns s = true → u = cmdRun s (ekey 0x2402 2) → tstate u = 5 → visilUp u = true →
    u.twn.spanCmd = false → isSurvivor u = false →
    exec .spanCmd s = .next (withTag (((({ u with twn := { u.twn with spanCmd := true } } : State).wr R.TWN_CMDSTAT_REFUSED 0).wr R.TWN_CMDSTAT_REASON 0).wr R.TWN_CMDSTAT_BUSY 1) (fun n => .state n 2 u.log.pgen))) ∧
  (∀ (s : State) (u : State), twnRuns s = true → u = cmdRun s (ekey 0x2402 3) → isSpan u = true →
    isSpan (twinDepart 3 u) = false → exec .leaveCmd s = .next (twnDone (twinDepart 3 u) 3)) ∧
  (∀ (s : State) (u v : State), twnRuns s = true → u = cmdRun s (ekey 0x2402 4) → tstate u = 0 → pairable u = true →
    u.twn.lastDec = 2 → v = unpair (setRole (recountDirty (setPair u u.log.pairId (u.log.pgen - 1))) 2) →
    exec .joinCmd s = .next (twnDone { v with twn := { v.twn with lastDec := 0, joined := true } } 4)) ∧
  (∀ (s : State) (u : State), twnRuns s = true → u = cmdRun s (ekey 0x2402 5) → tstate u = 0 → pairable u = true →
    exec .forceSoloCmd s = .next (twnDone (showGate (enterSolo (visilDown u) 3)) 5)) ∧
  (∀ (s : State) (session p : Nat) (x : Nat × Nat × Nat) (u : State), twnRuns s = true → u = cmdRun s (ekey 0x2440 7) →
    (u.log.fences.drop (sessEnt u session (ekey 0x2440 1) 0)).head? = some (p, x) → visilUp u = true → tstate u ≠ 0 →
    mySide u = 0 → exec (.fenceArbitrateCmd session 1) s = .next (cmdDone (withTag u (fun n => .pagePull n p)) (ekey 0x2440 7)))

/-- Tier D and its policy: fills, cleaning, write-backs, heat, the pool clock, tenants and policy rows. Rests on R98, R223, R225,
R226, R232, R233, R236, R239, R240, R352; the model's choices that bear on it are log entries 20, 44, 45, 46, 100, 114, 119,
178, 181. -/
def Obligations.TierAndTenantActs : Prop :=
  (∀ (s : State) (p start : Nat) (rd : CwRead), s.tie.fills.find? p = some start → (pageFrame s p).pstate ≠ .filling →
    awake s = true → exec (.tierSFillDone p rd) s = .next (retryHeld (retryWaiting (fillInstall s p (cwAt s (storeAt s p)))))) ∧
  (∀ (s : State) (p start : Nat) (rd : CwRead) (u : State) (q : State × Nat), s.tie.fills.find? p = some start →
    (pageFrame s p).pstate = .filling → (storeAt s p).sstate = 1 → readDie s (storeAt s p).ch (storeAt s p).die = some u →
    q = readCw u (storeAt s p) rd false → q.2 < 2 → awake s = true → exec (.tierSFillDone p rd) s = .next (retryHeld
    (retryWaiting (fillInstall (q.1.bump C.XTS_DECUNITS) p (cwAt s (storeAt s p)))))) ∧
  (∀ (s : State) (p : Fin 4) (r : Req), s.xpt.reqs.find? (fun r => r.returned && r.stage = .admitting && pipeOf r.lport = p.val
    && decide ((s.xpt.reqs.filter (fun x => pipeOf x.lport = p.val && x.parts.any (fun y => y.st = .parked))).length < 4096) &&
    decide (parkedOf s (qpAt s r.qp).tenant < (tenantAt s (qpAt s r.qp).tenant).parklim)) = some r → awake s = true →
    exec (.parkRoomFreed p) s = .next (setReq s { r with stage := .place, returned := false })) ∧
  (∀ (s : State) (p : Fin 4), s.xpt.reqs = [] → awake s = true → exec (.parkRoomFreed p) s = .next s) ∧
  (∀ (s : State) (p : Nat), s.dev = .serving → s.running 23 = true → nextClean s = some p →
    exec (.cleanClockStep false p) s = .next (cleanVisit { s with tie := { s.tie with hand := p } } p)) ∧
  (∀ (s : State) (f : Nat), s.dev = .serving → s.running 23 = true → exec (.cleanClockStep true f) s = .next (cleanMap s f)) ∧
  (∀ (s : State) (ref : Nat) (r : OpenRow) (e : RowEnt), s.stf.open_ = some r →
    r.ents.find? (fun e => e.what = 1 && e.ref = ref) = some e → r.programming = true → awake s = true →
    exec (.writebackVerified ref) s = .next (entDone { s with stf := { s.stf with open_ := some (padOut r e) } } e)) ∧
  (∀ (s : State) (ref : Nat) (r : OpenRow) (e : RowEnt), s.stf.open_ = some r →
    r.ents.find? (fun e => e.what = 1 && e.ref = ref) = some e → r.programming = true → ref % 3 ≠ 0 →
    cleanedAgain { s with stf := { s.stf with open_ := some (padOut r e) } } ref = false → awake s = true →
    exec (.writebackProgramFailed ref) s = .next (retireMember { s with stf := { s.stf with open_ := some (padOut r e), cleanQ := s.stf.cleanQ ++ [(ref, e.word)] } } r.sb e.loc.ch (Config.payloadCode 0x3440 0))) ∧
  (∀ (s : State), s.on R.TIE_HEAT_FREEZE = false → s.running 23 = true → awake s = true →
    exec .heatTick s = .next ({ s with tie := { s.tie with tick := (s.tie.tick + 1) % 65536 } })) ∧
  (∀ (s : State) (g : Nat) (x : Group), s.tie.groups.find? g = some x → s.dev = .serving → s.running 23 = true →
    poolExtent (heatVisit { s with tie := { s.tie with press := pressure s } } x.extent) x.extent = false → awake s = true →
    exec (.poolClockVisit g) s = .next ((fun t => retryWaiting { t with tie := { t.tie with groups := t.tie.groups.ins g { x with seen := t.tie.tick } } }) (heatVisit { s with tie := { s.tie with press := pressure s } } x.extent))) ∧
  (∀ (s : State) (i : Fin 1024), awake s = true → ∃ t, exec (.tenantWrite i) s = .next t ∧ t.tie.tenEdit.find? i = some (tenantOf
    ((List.range 4).map (fun k => s.rd R.TIE_TENDATA (2 * k) + 2 ^ 32 * s.rd R.TIE_TENDATA (2 * k + 1))))) ∧
  (∀ (s : State) (i : Fin 1024), awake s = true → exec (.tenantRead i) s = .next ((tenantWords (tenCtl 1 i s) i).zipIdx.foldl
    (fun u p => (u.wr R.TIE_TENDATA (p.1 % 2 ^ 32) (2 * p.2)).wr R.TIE_TENDATA (p.1 / 2 ^ 32) (2 * p.2 + 1)) (tenCtl 1 i s))) ∧
  (∀ (s : State), awake s = true → s.running 23 = true → tenantBad (tenantShadow s) = none →
    quotaSum (tenantShadow s) + s.rd R.TIE_HIWATER_HIWATER ≤ dataGroups s → ∃ t, exec (.tenantCommit true) s = .next t ∧
    t.tie.tenPend = some (tenantShadow s) ∧ t.tie.tenEdit = [] ∧
    cmdStat t (ekey 0x2510 0x0B) = { state := 2, code := 0, progress := 0xFFFF }) ∧
  (∀ (s : State) (i : Nat), awake s = true → tenantBad (tenantShadow s) = some i → ∃ t, exec (.tenantCommit true) s = .next t ∧
    cmdStat t (ekey 0x2510 0x0B) = { state := 3, code := stRange % 256, progress := 0 }) ∧
  (∀ (s : State), s.on R.TIE_STAT_REBUILD = true → awake s = true →
    exec .quotaRingRebuildDone s = .next (retryWaiting (quotaAll ((rebuildRings s).wr R.TIE_STAT_REBUILD 0)))) ∧
  (∀ (s : State), awake s = true → fwUp s = true → ∃ t, exec .tpolCommit s = .next t ∧
    cmdStat t (ekey 0x2511 9) = { state := 2, code := 0, progress := 0xFFFF })

/-- The lent host memory, promotions, charges and the governor. Rests on R228, R242, R243, R244, R253, R260; the model's choices
that bear on it are log entries 25, 31, 114, 120, 152, 179, 181. -/
def Obligations.LendingAndGovernorActs : Prop :=
  (∀ (s : State), awake s = true → fwUp s = true → pciRequests s = true → ∃ t, exec (.lendCommit true true) s = .next t ∧
    t.rd R.TIE_STAT_HSTATE = 1 ∧ cmdStat t (ekey 0x2520 4) = { state := 2, code := 0, progress := 0xFFFF }) ∧
  (∀ (s : State), awake s = true → fwUp s = true → lendUsed s = true → ∃ t, exec (.lendRevoke true) s = .next t ∧
    cmdStat t (ekey 0x2520 5) = { state := 3, code := stBusy % 256, progress := 0 }) ∧
  (∀ (s : State), awake s = true → fwUp s = true → lendUsed s = false → ∃ t, exec (.lendRevoke true) s = .next t ∧
    t.tie.lend = [] ∧ cmdStat t (ekey 0x2520 5) = { state := 2, code := 0, progress := 0xFFFF }) ∧
  (∀ (s : State) (page : Nat) (cause : Fin 3), s.rd R.TIE_STAT_HSTATE = 1 → s.rd R.PCI_STAT_DSTATE ≠ 3 → s.tie.hfail = [] →
    awake s = true → ∃ t, exec (.tierHAccessFail page cause) s = .next t ∧ t.tie.hfail = [s.now] ∧ t.rd R.TIE_STAT_HSTATE = 1) ∧
  (∀ (s : State) (tenant : Nat) (c : Nat) (u : State), awake s = true → c = ekey 0x2530 2 →
    u = addCharge (cmdRun s c) (ent s (ekey 0x2530 1) 0) tenant → ent s (ekey 0x2530 1) 0 < pext s → tenant ≤ 1023 →
    (extentAt s (ent s (ekey 0x2530 1) 0)).estate = 2 → decides u = true →
    (extentAt u (ent s (ekey 0x2530 1) 0)).ingroup = true → overQuota u tenant = false → exec (.promoteExtentCmd tenant) s =
    .next (cmdDone (checkMove (promote u (ent s (ekey 0x2530 1) 0) (2 ^ 512 - 1) false) (ent s (ekey 0x2530 1) 0)) c)) ∧
  (∀ (s : State) (tenant : Nat), awake s = true → ent s (ekey 0x2530 1) 0 < pext s → exec (.removeChargeCmd tenant) s = .next
    (retryWaiting (cmdDone (removeCharge (cmdRun s (ekey 0x2530 3)) (ent s (ekey 0x2530 1) 0) tenant) (ekey 0x2530 3)))) ∧
  (∀ (s : State) (vmod : List Nat) (u : State), awake s = true → s.running 21 = true → s.rst.held = false →
    u = setVmod (markOut vmod s) vmod → u.rd R.GOV_RBLEED_RBLEED ≠ 0 →
    exec (.govTick vmod) s = .next (govStep { u with gov := { u.gov with readMask := (List.range 8).foldl (fun a m => if m < vmod.length then bitSet a m else a) u.gov.readMask } })) ∧
  (∀ (s : State) (vmod : List Nat), s.dev = .saving → s.sav.sealed = 0 →
    liveEnergy (setVmod s vmod) / 2000000000000000 ≤ s.rd R.SAV_SHUTRES_SHUTRES → ∃ t, exec (.energyAtShutres vmod) s = .next t ∧
    t.dev = .falling) ∧
  (∀ (s : State) (vmod : List Nat), s.dev = .saving →
    s.rd R.SAV_SHUTRES_SHUTRES < liveEnergy (setVmod s vmod) / 2000000000000000 →
    exec (.energyAtShutres vmod) s = .next (setVmod s vmod))

/-- The save, the fill, the restore, the service gate and rehearsals. Rests on R261, R267, R268, R269, R458, Table 8.3, Table 8.6;
the model's choices that bear on it are log entries 32, 43, 56, 68, 69, 182, 191. -/
def Obligations.SaveAndRestoreActs : Prop :=
  (∀ (s : State) (n : Nat), s.dev = .saving → 2 ≤ n → n ≤ 8 → bit s.sav.steps n = false →
    (stepNeeds n).all (fun k => bit s.sav.steps k) = true → exec (.saveStepComplete n) s = .next (saveStepDone n s)) ∧
  (∀ (s : State) (r : Seal) (im : SaveImage), s.dev = .saving → s.sav.sealRec = some r → s.sav.img = some im →
    exec .saveSealed s = .next (Sys2Proof.Machine.saveSealed s im r)) ∧
  (∀ (s : State), s.dev = .filling → ∃ t, exec .fillComplete s = .next t ∧ t.dev = .restoring ∧ t.dram.data = [] ∧
    t.dram.lines = [] ∧ t.sav.rstep = 1) ∧
  (∀ (s : State) (n : Nat) (bad : List Nat), s.dev = .restoring → n = s.sav.rstep → 1 ≤ n → n ≤ 7 → ∃ t,
    exec (.restoreStepComplete n bad) s = .next t ∧ t.sav.rstep = n + 1) ∧
  (∀ (s : State), s.dev = .restoring → 7 ≤ s.sav.rstep → gateMiss s = 0 → s.on R.SAV_GATE_FWOK = true → s.twn.spanReq = false →
    ∃ t, exec .serviceGatePassed s = .next t ∧ t.dev = .serving) ∧
  (∀ (s : State), s.dev = .restoring → 7 ≤ s.sav.rstep → gateMiss s ≠ 0 →
    exec .serviceGateWaitReport s = .next (raise (showGate { s with sav := { s.sav with gateReport := s.now } }) 0x2500 [gateMiss s, s.rd R.SAV_GATE_FWOK])) ∧
  (∀ (s : State), s.dev = .serving → s.running 18 = true → s.rd R.SAV_STAT_PHASE = 5 →
    s.sav.dirtySb.all (fun k => decide ((blkAt s k).state = 5)) = true → ∃ t, exec .retiredImageEraseDone s = .next t ∧
    t.sav.dirtySb = [] ∧ t.rd R.SAV_STAT_PHASE = 0) ∧
  (∀ (s : State), s.dev = .serving → s.running 22 = true → s.sav.rehearsal = none → s.rd R.SAV_STAT_PHASE = 0 →
    (blkAt s (rehearseSb s)).state = 0 → s.rd R.SAV_REHEARSE_PERIOD ≠ 0 → exec .rehearsalStart s = .next (rehearse s)) ∧
  (∀ (s : State) (u : State), s.dev = .serving → s.running 22 = true → s.sav.rehearsal = none → s.rd R.SAV_STAT_PHASE = 0 →
    (blkAt s (rehearseSb s)).state = 0 → s.rd R.SAV_REHEARSE_PERIOD ≠ 0 →
    u = storeChannels.foldl (fun v n => farAsk v rehearseOwner n) s → farHolds u rehearseOwner storeChannels = true →
    exec .rehearsalStart s = .next ((deriveRehearse { u with sav := { u.sav with rehearsal := some s.now } }).wr R.SAV_STAT_PHASE 4)) ∧
  (∀ (s : State) (u : State), s.dev = .serving → s.running 22 = true → s.sav.rehearsal = none → u = cmdRun s (ekey 0x2611 1) →
    (blkAt s (rehearseSb s)).state = 0 →
    exec .rehearseCmd s = .next (rehearse { u with sav := { u.sav with rehearseCmd := true } })) ∧
  (∀ (s : State) (us : Nat), s.dev = .serving → s.sav.rehearsal.isSome = true →
    storeChannels.any (higherWaits s rehearseOwner) = false → ∃ t, exec (.rehearsalDone us) s = .next t ∧
    t.sav.rehearsal = none ∧ t.sav.lastRehearsal = s.now)

/-- Jobs: submission, cancellation, requeue, dispatch and issue. Rests on R281, R282, R283, R287, R288, R289, R303; the model's
choices that bear on it are log entries 20, 52, 54, 185. -/
def Obligations.JobCommandsAct : Prop :=
  (∀ (s : State) (j : Nat) (u : State), awake s = true → j < 8192 → u = submitRegs s 0 j → j < jlPages u → jstate u j = 0 →
    recordBad u j = false → ∃ t, exec (.jobSubmit j) s = .next t ∧ t.mst.jseq = s.mst.jseq + 1 ∧
    t.mst.queue = s.mst.queue.ins (s.mst.jseq + 1) j ∧ t.rd R.MST_SUBSTAT_RESULT = 0) ∧
  (∀ (s : State) (j : Nat) (u : State), awake s = true → j < 8192 → u = submitRegs s 0 j → j < jlPages u → jstate u j = 0 →
    recordBad u j = true → exec (.jobSubmit j) s = .next (raise (submitResult u 3) 0x2860 [j, 3])) ∧
  (∀ (s : State) (j : Nat) (u : State), awake s = true → j < 8192 → u = submitRegs s 1 j → j < jlPages u → jstate u j = 1 → ∃ t,
    exec (.jobCancel j) s = .next t ∧ t.rd R.MST_SUBSTAT_RESULT = 0 ∧ t.mst.queue = u.mst.queue.keepV (· ≠ j)) ∧
  (∀ (s : State) (j : Nat) (u : State), awake s = true → j < 8192 → u = submitRegs s 2 j → j < jlPages u → jstate u j = 4 → ∃ t,
    exec (.jobRequeue j) s = .next t ∧ t.rd R.MST_SUBSTAT_RESULT = 0 ∧ t.mst.queue = u.mst.queue.ins (recWord u j 1) j) ∧
  (∀ (s : State) (sess j : Nat) (u : State), awake s = true → j = sessEnt s sess (ekey 0x2720 1) 0 →
    u = cmdRun s (ekey 0x2720 0x0A) → j < jlPages u → jstate u j = 1 → ∃ t, exec (.jobCancelCmd sess) s = .next t ∧
    cmdStat t (ekey 0x2720 0x0A) = { state := 2, code := 0, progress := 0xFFFF } ∧ t.mst.queue = u.mst.queue.keepV (· ≠ j)) ∧
  (∀ (s : State) (sess j : Nat) (u : State), awake s = true → j = sessEnt s sess (ekey 0x2720 1) 0 →
    u = cmdRun s (ekey 0x2720 0x0B) → j < jlPages u → jstate u j = 4 → ∃ t, exec (.jobRequeueCmd sess) s = .next t ∧
    cmdStat t (ekey 0x2720 0x0B) = { state := 2, code := 0, progress := 0xFFFF } ∧
    t.mst.queue = u.mst.queue.ins (recWord u j 1) j) ∧
  (∀ (s : State) (q j n k : Nat) (a b : State × Bool), s.dev = .serving → s.mst.queue = [(q, j)] → s.mst.passed.get q 0 < 64 →
    fits s j = some (n, k) → a = spaceSeek s (recAddr s j) 4096 →
    b = spaceSeek a.1 (bits (recWord s j 2) 0 48) (16 * bits (recWord s j 2) 48 11) → a.2 = false → b.2 = false →
    exec .jobDispatch s = .next (showMst (dispatch b.1 q j n k))) ∧
  (∀ (s : State) (n : Fin 8) (k first : Nat) (j : Job) (u v : State), awake s = true → s.takes (34 + n.val) = true →
    u = noteStalls s n →
    first = (if u.mst.turnCnt.get n 0 < u.rd R.MST_DEFAULTS_QUANTUM then u.mst.turnSlot.get n 0 else u.mst.turnSlot.get n 0 + 1) →
    ((List.range 16).map (fun i => (first + i) % 16)).findSome? (fun k => (jobAt u n k).bind (fun j => if ready u j then some (k,
    j) else none)) = some (k, j) → tryIssue u j = .done v → ∃ t, exec (.instructionIssue n) s = .next t ∧
    t.mst.turnSlot = v.mst.turnSlot.put n k 0 ∧ t.mst.jobs = v.mst.jobs) ∧
  (∀ (s : State) (n : Fin 8) (slot : Fin 16) (turn corr : Nat) (rd : CwRead) (bad : Option Nat) (j : Job), awake s = true →
    jobAt s n slot = some j → j.ops.find? (fun o => o.key = opKey j.next turn) = none →
    exec (.instructionComplete n slot j.next turn rd corr bad) s = .next (showMst (commitBank s j))) ∧
  (∀ (s : State) (n : Fin 8) (slot : Fin 16) (pc turn corr len a : Nat) (rd : CwRead) (j : Job) (o : MOp) (u : State) (f q :
    State × Bool), awake s = true → jobAt s n slot = some j → j.ops.find? (fun o => o.key = opKey pc turn) = some o →
    iOp (instrAt j o.pc) = 2 → u = s.bump C.MST_SRAMCORR corr 0 n → len = 64 * bits (instrAt j o.pc) 88 11 →
    a = bits (instrAt j o.pc) 46 42 * 64 + strideOf j (instrAt j o.pc) o.header o.iter → f = fetchPages u a len rd →
    f.2 = false → q = spaceSeek f.1 a len → q.2 = false → spacePoison q.1 a len = false → spaceBad q.1 a len = false → exec
    (.instructionComplete n slot pc turn rd corr none) s = .next (showMst ((fun x => cancelEnd ((setJob q.1 x).bump
    C.MST_FETCHSBYTES len 0 j.mst) x) (opDone (sramWrite j ((o.writes.headD (0, 0)).1) (spaceRead q.1 a len)) o)))) ∧
  (∀ (s : State) (n : Fin 8) (slot : Fin 16) (pc turn corr : Nat) (rd : CwRead) (j : Job) (o : MOp), awake s = true →
    jobAt s n slot = some j → j.ops.find? (fun o => o.key = opKey pc turn) = some o → exec (.instructionComplete n slot pc turn
    rd corr none) s = .next (showMst (completeOp (s.bump C.MST_SRAMCORR corr 0 n) j o rd)))

/-- Commits, waits, completions, the write port, the requester's contexts and the resume scan. Rests on R279, R280, R284, R286,
R290, R294, R295, R297, R300, R303; the model's choices that bear on it are log entries 24, 52, 53, 54, 168, 185. -/
def Obligations.MillstoneActs : Prop :=
  (∀ (s : State) (n : Fin 8) (slot : Fin 16) (j : Job), awake s = true → jobAt s n slot = some j → j.phase = 2 →
    j.commitReqs = [] → iOp (instrAt j (nextStage j).1) = 0x10 → exec (.stageCommitComplete n slot) s = .next (showMst
    (completion ((dropJob (s.bump C.MST_STAGES 1 0 n) j.index).bump C.MST_DONE 1 0 n) j.index 3 0 j.jseq))) ∧
  (∀ (s : State) (n : Fin 8) (slot : Fin 16) (j : Job) (pc : Nat), awake s = true → jobAt s n slot = some j →
    lateFetch j = some pc → exec (.stageTimeout n slot) s = .next (showMst (failJob s j 1 pc 0 0))) ∧
  (∀ (s : State) (n : Fin 8) (slot : Fin 16) (j : Job), awake s = true → jobAt s n slot = some j → atWait j = true →
    bits (instrAt j j.next) 114 2 = 0 →
    exec (.waitLimitExpiry n slot) s = .next (showMst (setJob s { j with waitOk := true }))) ∧
  (∀ (s : State) (n : Fin 8) (slot : Fin 16) (j : Job), awake s = true → jobAt s n slot = some j → atWait j = true →
    bits (instrAt j j.next) 114 2 ≠ 0 → bits (instrAt j j.next) 90 24 ≠ 0 →
    exec (.waitLimitExpiry n slot) s = .next (showMst (failJob s j 8 j.next 0 0))) ∧
  (∀ (s : State) (n : Fin 8) (slot : Fin 16) (j : Job) (a : Nat) (q : State × Bool), awake s = true → jobAt s n slot = some j →
    atWait j = true → bits (instrAt j j.next) 114 2 = 2 →
    a = bits (instrAt j j.next) 35 42 * 64 + strideOf j (instrAt j j.next) j.pc j.iter → q = spaceSeek s a 64 → q.2 = false →
    spaceBad q.1 a 64 = false → spacePoison q.1 a 64 = false → leNat (spaceRead q.1 a 4) = bits (instrAt j j.next) 3 32 →
    exec (.waitWordPoll n slot) s = .next (showMst (setJob q.1 { j with waitOk := true }))) ∧
  (∀ (s : State), awake s = true → ∃ t, exec .completionTake s = .next t ∧ t.mst.ring = s.mst.ring.drop 1) ∧
  (∀ (s : State), awake s = true → spaceBad s (s.rd R.MST_JWADDRL * 64 + s.rd R.MST_JWADDRH * 2 ^ 32) 64 = true →
    exec .jobWritePort s = .next (s.wr R.MST_JWSTAT_REFUSED 1)) ∧
  (∀ (s : State) (a : Nat) (q : State × Nat), awake s = true → a = s.rd R.MST_JWADDRL * 64 + s.rd R.MST_JWADDRH * 2 ^ 32 →
    s.mst.jwReq = [] → spaceBad s a 64 = false → fenced s (a / 4096) = false →
    q = mstWrite (s.wr R.MST_JWSTAT_REFUSED 0) a ((List.range 16).flatMap (fun i => leBytes (s.rd R.MST_JWDATA i) 4)) → ∃ t,
    exec .jobWritePort s = .next t ∧ t.mst.jwReq = [q.2] ∧ t.rd R.MST_JWSTAT_BUSY = b2n (!mstDurable q.1 q.2) % 2) ∧
  (∀ (s : State) (i : Nat), awake s = true → i = s.rd R.MST_QPUPD_INDEX → (rqAt s i).qstate ≠ 2 → (rqAt s i).qstate ≠ 3 →
    exec .mstQpWrite s = .next (setRq (s.wr R.MST_QPUPDSTAT_REFUSED 0) i (rqOf (mstQpData s)))) ∧
  (∀ (s : State) (i : Nat), awake s = true → i = s.rd R.MST_QPUPD_INDEX → (rqAt s i).qstate = 3 →
    exec .mstQpWrite s = .next (s.wr R.MST_QPUPDSTAT_REFUSED 1)) ∧
  (∀ (s : State), awake s = true → exec .mstQpRead s = .next ((rqWords (rqAt s (s.rd R.MST_QPUPD_INDEX))).zipIdx.foldl (fun t x
    => (t.wr R.MST_QPDATA (x.1 % 2 ^ 32) (2 * x.2)).wr R.MST_QPDATA (x.1 / 2 ^ 32) (2 * x.2 + 1)) (s.wr R.MST_QPUPDSTAT_REFUSED
    0))) ∧
  (∀ (s : State), awake s = true →
    exec .mstQpToError s = .next (showMst (rqError (s.wr R.MST_QPUPDSTAT_REFUSED 0) (s.rd R.MST_QPUPD_INDEX) 0))) ∧
  (∀ (s : State) (sess : Nat), awake s = true → sessEnt s sess (ekey 0x2730 1) 0 < 16384 → exec (.reqQpInspectToErrorCmd sess) s
    = .next (cmdDone (showMst (rqError (cmdRun s (ekey 0x2730 7)) (sessEnt s sess (ekey 0x2730 1) 0) 0)) (ekey 0x2730 7))) ∧
  (∀ (s : State), s.dev = .serving → jobAreaBad s = false → ∃ t, exec .resumeScan s = .next t ∧ t.mst.queue = ((List.range
    (jlPages s)).filter (fun j => (jstate s j = 1 || jstate s j = 2) && (jobOf s j).isNone)).foldl (fun (m : Sparse Nat) j =>
    m.ins (recWord s j 1) j) s.mst.queue)

/-- Refresh, sidebands, self-refresh, marks, training and retraining of DRAM. Rests on R310, R311, R317, R321, R322; the model's
choices that bear on it are log entries 33, 40, 41, 42, 176, 187. -/
def Obligations.DramActs : Prop :=
  (∀ (s : State) (c : Fin 16) (rank : Fin 4), s.running (42 + c) = true → s.rbit R.DRC_SR_RANKSR rank c = false →
    (drcAt s c).postponed.get rank 0 < s.rd R.DRC_REF_POSTPONE 0 c → awake s = true →
    exec (.refreshDue c rank true) s = .next (setDrc s c { drcAt s c with postponed := (drcAt s c).postponed.ins rank ((drcAt s c).postponed.get rank 0 + 1) })) ∧
  (∀ (s : State) (c : Fin 16) (rank : Fin 4), s.running (42 + c) = true → s.rbit R.DRC_SR_RANKSR rank c = false →
    awake s = true →
    exec (.refreshDue c rank false) s = .next ((setDrc s c { drcAt s c with postponed := (drcAt s c).postponed.del rank }).bump C.DRC_REFRESH ((drcAt s c).postponed.get rank 0 + 1) 0 c)) ∧
  (∀ (s : State) (c : Fin 16) (t0 t1 : BitVec 16), s.running (42 + c) = true → s.dev ≠ .serving → awake s = true → ∃ t,
    exec (.sidebandRead c t0 t1 []) s = .next t ∧ t.rd R.DRC_TEMP_DIMM0 0 c = t0.toNat ∧ t.rd R.DRC_TEMP_DIMM1 0 c = t1.toNat) ∧
  (∀ (s : State) (c : Fin 16) (rank : Fin 4), s.dev = .serving → s.rd R.GAI_CUR_CURRENT = 0 → s.on R.DRC_SR_ENSR 0 c = true →
    s.rd R.DRC_ADDRMAP_ORDER 0 c ≠ 1 → s.running (42 + c) = true → s.rbit R.DRC_SR_RANKSR rank c = false → ∃ t,
    exec (.rankIdleSelfRefresh c rank) s = .next t ∧ t.rbit R.DRC_SR_RANKSR rank c = true) ∧
  (∀ (s : State) (c : Fin 16), awake s = true → ∃ t, exec (.markwinHalve c) s = .next t ∧
    (drcAt t c).corr = (drcAt s c).corr.mapV (· / 2)) ∧
  (∀ (s : State) (c : Fin 16), awake s = true → s.dev ≠ .rising →
    (s.wr R.DRC_TRNCTL_OP 1 0 c).on R.DRC_TRNSTAT_BUSY 0 c = false →
    exec (.trainingOpWrite c) s = .next ((s.wr R.DRC_TRNCTL_OP 1 0 c).wr R.DRC_TRNSTAT_REFUSED 1 0 c)) ∧
  (∀ (s : State) (c : Fin 16), awake s = true → s.dev ≠ .rising →
    (s.wr R.DRC_TRNCTL_OP 2 0 c).on R.DRC_TRNSTAT_BUSY 0 c = false →
    exec (.trainingOpCompare c) s = .next ((s.wr R.DRC_TRNCTL_OP 2 0 c).wr R.DRC_TRNSTAT_REFUSED 1 0 c)) ∧
  (∀ (s : State) (c : Fin 16), awake s = true → s.dev ≠ .rising →
    (s.wr R.DRC_TRNCTL_OP 4 0 c).on R.DRC_TRNSTAT_BUSY 0 c = false →
    exec (.trainingOpCaLoopback c) s = .next ((s.wr R.DRC_TRNCTL_OP 4 0 c).wr R.DRC_TRNSTAT_REFUSED 1 0 c)) ∧
  (∀ (s : State) (c : Fin 16), s.dev = .rising → s.on R.DRC_TRNSTAT_BUSY 0 c = false → ∃ t,
    exec (.trainingOpWrite c) s = .next t ∧ ((drcAt t c).trn.map (fun w => w.head?)) = some (some 1)) ∧
  (∀ (s : State) (c : Fin 16), s.dev = .rising → s.on R.DRC_TRNSTAT_BUSY 0 c = false → ∃ t,
    exec (.trainingOpCompare c) s = .next t ∧ ((drcAt t c).trn.map (fun w => w.head?)) = some (some 2)) ∧
  (∀ (s : State) (c : Fin 16), s.dev = .rising → s.on R.DRC_TRNSTAT_BUSY 0 c = false → ∃ t, exec (.trainingOpMrr c) s = .next t ∧
    ((drcAt t c).trn.map (fun w => w.head?)) = some (some 3)) ∧
  (∀ (s : State) (c : Fin 16), s.dev = .rising → s.on R.DRC_TRNSTAT_BUSY 0 c = false → ∃ t,
    exec (.trainingOpCaLoopback c) s = .next t ∧ ((drcAt t c).trn.map (fun w => w.head?)) = some (some 4)) ∧
  (∀ (s : State) (c : Fin 16) (lanes : List Nat) (bursts : Nat) (w : List Nat), (drcAt s c).trn = some w → awake s = true → ∃ t,
    exec (.trainingOpDone c lanes bursts) s = .next t ∧ (drcAt t c).trn = none ∧ t.rd R.DRC_TRNSTAT_BUSY 0 c = 0) ∧
  (∀ (s : State) (c : Fin 16) (osc r : Nat), (drcAt s c).retrain = some r → farHolds s (768 + c) [c.val, 48 + c.val] = true →
    awake s = true → ∃ t, exec (.retrainDone c true osc []) s = .next t ∧ (drcAt t c).retrain = none ∧
    (drcAt t c).osc.get r 0 = osc)

/-- Grooming and the farrier's tokens. Rests on R323, R324, R326, R327, R328; the model's choices that bear on it are log entries
37, 47. -/
def Obligations.GroomingAndFarrierActs : Prop :=
  (∀ (s : State) (c : Fin 16) (errs : List LineErr) (n : Nat) (u : State), s.dev = .serving → s.running 19 = true →
    farHolds s (384 + c) [c.val] = true → n = (grmAt s c).next → n < channelLines s → groomSleeps s c = false →
    u = (List.range 64).foldl (fun u i => readLine u (unstripe u c (64 * (n + i)) / 64) (errs.getD i []) .groom) s →
    exec (.groomBurst c errs) s = .next (farYield (groomPass (showGroom (setGrm u c { grmAt u c with next := n + 64 }))) (384 + c) c)) ∧
  (∀ (s : State) (u : State), s.running 19 = true → u = (List.range 16).foldl (fun u c => setRate u c (rowInForce s 19).groommul
    (if u.on R.GRM_ADAPT_FREEZE then max 1 (grmAt u c).mul else min (u.rd R.GRM_ADAPT_MAXMUL) (1 + (recentCes u c).length / max 1
    (u.rd R.GRM_ADAPT_CETH)))) s → awake s = true →
    exec .groomRateRecompute s = .next (showGroom { u with grm := { u.grm with lastCalc := u.now } })) ∧
  (∀ (s : State) (owner n : Nat), awake s = true → ownerOk owner = true → n < 122 → s.far.held.find? n = none →
    s.far.waits = [] → grants s owner = true → ∃ t, exec (.farrierRequest owner [n]) s = .next t ∧
    t.far.held.find? n = some owner) ∧
  (∀ (s : State) (owner n : Nat), awake s = true → s.far.held.find? n = some owner → higherWaits s owner n = false →
    exec (.farrierRelease owner n) s = .next (farRelease s owner n)) ∧
  (∀ (s : State) (owner h : Nat) (w : FarReq) (u : State), heldBy s owner = [h] →
    s.far.waits.find? (fun w => w.owner = owner) = some w → owner ≠ 640 → u = farDrop s owner → awake s = true → ∃ t,
    exec (.waitrelExpiry owner) s = .next t ∧ t.far.held = u.far.held ∧ t.far.waits = u.far.waits ∧
    t.far.retry.has owner = true) ∧
  (∀ (s : State) (owner : Nat) (ns : List Nat), s.far.retry.find? owner = some ns → awake s = true →
    exec (.retrygapExpiry owner) s = .next (farAskNext 128 owner { s with far := { s.far with retry := s.far.retry.del owner, asking := s.far.asking.ins owner ns } }))

/-- Reads, erases, write-backs, save writes and patrol reads of the store. Rests on R263, R264, R335, R340, R344, R345, R349, R352,
R354, R357, Table 11.4; the model's choices that bear on it are log entries 37, 38, 47, 180, 183. -/
def Obligations.StoreCommandsAct : Prop :=
  (∀ (s : State) (ch : Fin 32) (rd : CwRead) (q buf : Nat) (l : SLoc) (u v : State) (c : Codeword),
    fwFront s ch 1 = some (q, l, buf) → readDie s l.ch l.die = some u → readCw u l rd (bit q 23) = (v, 0) → bit q 22 = false →
    c = anyCw v l → c.poison = 0 → exec (.storeRead ch rd) s = .next ((fun t => fwComplete ((List.range 65).foldl (fun u n =>
    lineSound u (buf / 64 + n)) t) ch 0 rd.corr rd.retries) (dWrite (v.bump C.XTS_DECUNITS) buf (cellBytes c.data ++ metaBytes
    c)))) ∧
  (∀ (s : State) (ch : Fin 32) (q buf : Nat) (l : SLoc) (u : State) (page : List Nat), fwFront s ch 2 = some (q, l, buf) →
    readDie s l.ch l.die = some u → page = (List.range 4).flatMap (fun w => rawBytes u { l with cw := w }) →
    dieFailed s l = false → exec (.storeReadRaw ch) s = .next (fwComplete (dWrite (u.bump C.STF_READS) buf page) ch 0 0 0)) ∧
  (∀ (s : State) (ch : Fin 32) (rd : CwRead) (q buf : Nat) (l : SLoc) (u v : State), fwFront s ch 3 = some (q, l, buf) →
    readDie s l.ch l.die = some u → readCw u l rd (bit q 23) = (v, 0) →
    exec (.storeReadMeta ch rd) s = .next (fwComplete (dWrite v buf (metaBytes (anyCw v l))) ch 0 rd.corr rd.retries)) ∧
  (∀ (s : State) (ch : Fin 32) (page : List Nat) (q buf : Nat) (l : SLoc), fwFront s ch 4 = some (q, l, buf) →
    dieFailed s l = false →
    exec (.storeParam ch page) s = .next (fwComplete (dWrite s buf ((List.range 256).map (fun i => page.getD i 0))) ch 0 0 0)) ∧
  (∀ (s : State) (k : Nat), s.running 18 = true → eraseOk s k = true → awake s = true →
    exec (.storeErase none k) s = .next (eraseStart s k)) ∧
  (∀ (s : State) (ch : Fin 32) (x : Nat × SLoc × Nat) (n k : Nat) (u : State), fwFront s ch 5 = some x → n = fwHead s ch →
    k = fwWord s ch n 2 % 2 ^ 17 → eraseOk s k = true → u = eraseStart s k → awake s = true →
    exec (.storeErase (some ch) 0) s = .next (fwSkip 64 ch (fwNext { u with stf := { u.stf with eraseFw := u.stf.eraseFw.ins k (64 * ch + n) } } ch))) ∧
  (∀ (s : State) (ch : Fin 32) (die block cause : Nat), s.running 18 = true → die < dpc s →
    retirable s (block * dpc s + die) = true → awake s = true →
    exec (.storeRetire false ch die block cause) s = .next (retireMember s (block * dpc s + die) ch cause)) ∧
  (∀ (s : State) (ch : Fin 32) (die block cause q buf : Nat) (l : SLoc), fwFront s ch 6 = some (q, l, buf) → awake s = true →
    exec (.storeRetire true ch die block cause) s = .next (fwComplete (retireMember s (locSb s l) ch (fwWord s ch (fwHead s ch) 2
    % 256)) ch 0 0 0)) ∧
  (∀ (s : State) (ref : Nat) (w : Codeword) (rest : List (Nat × Codeword)) (u : State), s.running 18 = true →
    s.stf.cleanQ = (ref, w) :: rest → rowPut s 1 ref w {} = some u → s.dev ≠ .saving → cleanPaused s = false → awake s = true →
    exec .storeCleanWrite s = .next ({ u with stf := { u.stf with cleanQ := rest } })) ∧
  (∀ (s : State) (rd : CwRead) (k : Nat), s.stf.victim = none → nextReloc s = some k → refOf s k = none → awake s = true →
    exec (.storeRelocate rd) s = .next ({ s with stf := { s.stf with reloc := s.stf.reloc.filter (· ≠ k) } })) ∧
  (∀ (s : State) (rd : CwRead) (k ref : Nat) (u v w : State), s.stf.victim = none → nextReloc s = some k → refOf s k = some ref →
    s.running 18 = true → s.on R.STF_STAT_WALK = false → inRow s k = false → relocShare s = true →
    readDie s (keyLoc k).ch (keyLoc k).die = some u → readCw u (keyLoc k) rd false = (v, 0) →
    rowPut (({ v with stf := { v.stf with reloc := v.stf.reloc.filter (· ≠ k) } } : State).bump C.XTS_DECUNITS) 2 ref (cwAt { v with stf := { v.stf with reloc := v.stf.reloc.filter (· ≠ k) } } (keyLoc k)) (keyLoc k) = some w →
    s.dev ≠ .saving → awake s = true → exec (.storeRelocate rd) s = .next w) ∧
  (∀ (s : State) (im : SaveImage), s.sav.img = some im → s.dev = .saving → s.stf.saving = true →
    s.rd R.SAV_PROGRESS_PAGES < im.pages.length →
    s.sav.dirtySb.contains (locSb s (imageLoc s (imageSpan s im.pages.length).1 (s.rd R.SAV_PROGRESS_PAGES))) = false →
    exec .storeSaveWrite s = .next (s.wr R.SAV_PROGRESS_PAGES (s.rd R.SAV_PROGRESS_PAGES + 1))) ∧
  (∀ (s : State) (r : Seal), s.sav.sealRec = some r → s.dev = .saving → bit s.sav.sealed 0 = false → ∃ t,
    exec (.storeSealWrite 0) s = .next t ∧ t.sav.sealed = bitSet s.sav.sealed 0) ∧
  (∀ (s : State) (r : Seal), s.sav.sealRec = some r → s.dev = .saving → bit s.sav.sealed 1 = false → bit s.sav.sealed 0 = true →
    ∃ t, exec (.storeSealWrite 1) s = .next t ∧ t.sav.sealed = bitSet s.sav.sealed 1) ∧
  (∀ (s : State) (ch : Fin 32) (rd : CwRead), s.dev = .serving → s.running 18 = true →
    farHolds s (256 + ch) [16 + ch.val] = true → nextPatrol s ch ((patrolAt s ch).getD 0 0) = none → fillsServed s ch = true →
    exec (.storePatrolRead ch rd) s = .next ((fun t => farRelease (setPatrol t ch [0, t.now, 0]) (256 + ch) (16 + ch)) (raise s
    0x3520 [ch, (s.now - (patrolAt s ch).getD 1 0) / 86400000000, (patrolAt s ch).getD 2 0]))) ∧
  (∀ (s : State) (ch : Fin 32) (rd : CwRead) (k : Nat) (u v : State), s.dev = .serving → s.running 18 = true →
    farHolds s (256 + ch) [16 + ch.val] = true → fillsServed s ch = true → nextPatrol s ch ((patrolAt s ch).getD 0 0) = some k →
    readDie s ch (keyLoc k).die = some u → readCw (u.bump C.STF_PATROL) (keyLoc k) rd false = (v, 0) → rd.retries = 0 →
    rd.corr < s.rd R.STF_PATROL_REFRESHTH → exec (.storePatrolRead ch rd) s = .next (farRelease (setPatrol v ch [k + 1, (patrolAt
    s ch).getD 1 0, (patrolAt s ch).getD 2 0]) (256 + ch) (16 + ch))) ∧
  (∀ (s : State) (ch : Fin 32) (tail : Fin 64) (u : State), awake s = true →
    u = (s.wr R.STF_FWTAIL_CH ch).wr R.STF_FWTAIL_TAIL tail →
    exec (.stfFwtailWrite ch tail) s = .next (fwSkip 64 ch { u with stf := { u.stf with tail := u.stf.tail.ins ch tail } }))

/-- Stripes, erases, dies, superblocks, reclaim and walks of the store. Rests on R340, R341, R345, R348, R349, R350, R351, R352,
R353, R354, R357; the model's choices that bear on it are log entries 37, 38, 137. -/
def Obligations.StripesAndSuperblocksAct : Prop :=
  (∀ (s : State) (r : OpenRow) (e : RowEnt) (es : List RowEnt), s.stf.open_ = some r → r.programming = false → r.ents = e :: es →
    s.dev ≠ .saving → awake s = true → ∃ t, exec .rowStripewaitExpiry s = .next t ∧
    (t.stf.open_.map (fun x => (x.programming, x.ents.length))) = some (true, r.ents.length + (rowSize s r.sb - r.ents.length))) ∧
  (∀ (s : State) (r : OpenRow), s.stf.open_ = some r → r.programming = true → rowRuns s r = true → awake s = true →
    exec .wordlineVerified s = .next (rowDone s r)) ∧
  (∀ (s : State) (k : Nat) (u : State), s.stf.erasing.has k = true →
    u = { s with stf := { s.stf with erasing := s.stf.erasing.del k, suspended := s.stf.suspended.del k, esusp := s.stf.esusp.keep (fun n => decide (n % 32 ≠ k % dpc s)) } } →
    awake s = true → exec (.eraseVerified k) s = .next (reclaimEnd (retireCheck (eraseAnswer (eraseFree u k) k 0) k))) ∧
  (∀ (s : State) (k : Nat) (ch : Fin 32), bit (s.stf.erasing.get k 0) ch = true → awake s = true →
    exec (.eraseVerifyFailed k ch) s = .next (retireMember (showErase { s with stf := { s.stf with erasing := s.stf.erasing.ins k (bitClr (s.stf.erasing.get k 0) ch), suspended := s.stf.suspended.put k (bitClr (s.stf.suspended.get k 0) ch) 0 } } k) k ch (Config.payloadCode 0x3440 2))) ∧
  (∀ (s : State) (ch : Fin 32) (die : Nat), s.stf.saving = false → erasingOn s ch die = none → awake s = true →
    exec (.operationResume ch die) s = .next ({ s with stf := { s.stf with phalt := s.stf.phalt.filter (· ≠ 32 * ch.val + die) } })) ∧
  (∀ (s : State) (ch die : Fin 32) (ks : List Nat), s.running 18 = true → bit (s.rd R.STF_DIEFAIL ch) die = false →
    ks = validKeys s (fun l => l.ch = ch.val && l.die = die.val) → awake s = true → exec (.dieFailed ch die) s = .next (relocAdd
    (raise (s.wr R.STF_DIEFAIL (bitSet (s.rd R.STF_DIEFAIL ch) die) ch) (0x3460 + ch) [die, ks.length]) ks)) ∧
  (∀ (s : State) (k : Nat), s.running 18 = true → k < superblocks s → (blkAt s k).state = 0 → inSaveArea s k = false →
    awake s = true → ∃ t, exec (.superblockOpen k false) s = .next t ∧ (blkAt t k).state = 3) ∧
  (∀ (s : State) (k : Nat), s.running 18 = true → k < superblocks s → (blkAt s k).state = 0 → inSaveArea s k = false →
    awake s = true →
    exec (.superblockOpen k true) s = .next (raise (setBlk s k { blkAt s k with state := 6 }) 0x34A0 [k, Config.payloadCode 0x34A0 1])) ∧
  (∀ (s : State), s.running 18 = true → s.rd R.STF_STAT_FREESB < s.rd R.STF_RECLAIM_LOWATER → s.stf.reclaim = false →
    s.on R.STF_STAT_WALK = false → awake s = true → ∃ t, exec .reclaimStart s = .next t ∧ t.stf.reclaim = true) ∧
  (∀ (s : State), s.running 18 = true → s.stf.walked = false → s.maps.blocksInit = true → mapResident s = true → awake s = true →
    ∃ t, exec .stfStartWalk s = .next t ∧ t.rd R.STF_STAT_WALK = 1) ∧
  (∀ (s : State), s.on R.STF_STAT_WALK = true → awake s = true → ∃ t, exec .validCountWalkDone s = .next t ∧
    t.rd R.STF_STAT_WALK = 0) ∧
  (∀ (s : State) (ch : Fin 32), s.dev = .serving → s.running 18 = true → s.running 19 = true →
    exec (.patrolPace ch) s = .next (farAsk s (256 + ch) (16 + ch))) ∧
  (∀ (s : State) (ch : Fin 32), s.dev = .serving → s.running 18 = true → s.running 19 = true →
    s.far.held.find? (16 + ch.val) = none → s.far.waits = [] → grants s (256 + ch) = true → ∃ t,
    exec (.patrolPace ch) s = .next t ∧ t.far.held.find? (16 + ch.val) = some (256 + ch.val))

/-- The keeper flash. Rests on R222, R361, R362, Table 11.12; the model's choices that bear on it are log entries 15, 23, 98, 124,
136. -/
def Obligations.KeeperActs : Prop :=
  (∀ (s : State) (q : KpfReq), kpfHead s 1 = some q → inReserved s q.buf q.len = true → awake s = true →
    exec .keeperRead s = .next ((fun t => dWrite t q.buf ((List.range q.len).map (fun i => kpfReadByte s (q.kaddr + i)))) { s with kpf := { s.kpf with busy := true } })) ∧
  (∀ (s : State) (q : KpfReq), kpfHead s 2 = some q → q.kaddr % 256 + q.len ≤ 256 → inReserved s q.buf q.len = true →
    kpfGuarded q.kaddr q.len = false →
    exec .keeperProgram s = .next ({ s with kpf := { s.kpf with busy := true, prog := true } })) ∧
  (∀ (s : State) (q : KpfReq), kpfHead s 2 = some q → q.kaddr % 256 + q.len ≤ 256 → inReserved s q.buf q.len = true →
    kpfGuarded q.kaddr q.len = true → exec .keeperProgram s = .next (kpfSkip 17 (kpfDone s q 1))) ∧
  (∀ (s : State) (q : KpfReq), kpfHead s 3 = some q → kpfGuarded (kpfSector s q.kaddr).1 (kpfSector s q.kaddr).2 = false →
    exec .keeperErase s = .next ({ s with kpf := { s.kpf with busy := true, prog := true } })) ∧
  (∀ (s : State) (q : KpfReq), kpfHead s 3 = some q → kpfGuarded (kpfSector s q.kaddr).1 (kpfSector s q.kaddr).2 = true →
    exec .keeperErase s = .next (kpfSkip 17 (kpfDone s q 1))) ∧
  (∀ (s : State) (q : KpfReq) (qs : List KpfReq), s.kpf.queue = q :: qs → s.kpf.busy = true → q.op = 3 →
    exec (.keeperOpDone true) s = .next (kpfSkip 17 (kpfDone (kerase s (kpfSector s q.kaddr).1 (kpfSector s q.kaddr).2) q 0))) ∧
  (∀ (s : State) (q : KpfReq) (qs : List KpfReq), s.kpf.queue = q :: qs → s.kpf.busy = true → q.op = 2 →
    exec (.keeperOpDone true) s = .next (kpfSkip 17 (kpfDone (kprog s q.kaddr (areaRead s q.buf q.len)) q 0))) ∧
  (∀ (s : State), s.dev ≠ .off → ∃ t, exec .kpfCompletionTake s = .next t ∧ t.kpf.done = s.kpf.done.drop 1) ∧
  (∀ (s : State) (line : BitVec 23), s.dev ≠ .off → s.kpf.prefetch.contains line.toNat = true → ∃ t,
    exec (.xipFetchMiss line) s = .next t ∧ t.ctr C.KPF_PFHIT = (s.ctr C.KPF_PFHIT + 1) % 2 ^ 64 ∧ t.kpf.lastLine = line.toNat) ∧
  (∀ (s : State) (line : BitVec 23), s.dev ≠ .off → s.kpf.prefetch.contains line.toNat = false →
    s.kpf.branch.contains line.toNat = false → s.kpf.prog = false → s.kpf.erasing = false → ∃ t,
    exec (.xipFetchMiss line) s = .next t ∧ t.ctr C.KPF_XIPMISS = (s.ctr C.KPF_XIPMISS + 1) % 2 ^ 64 ∧
    t.kpf.prefetch = [line.toNat + 1, line.toNat + 2, line.toNat + 3, line.toNat + 4])

/-- Sensor rounds and calibration runs. Rests on R409, R411, R415, R416, R417; the model's choices that bear on it are log entries
9, 10, 17, 42, 82, 87, 88. -/
def Obligations.SensorsAndCalibrationActs : Prop :=
  (∀ (s : State) (temps : List (Option Int)) (volts : List Nat) (u : State) (i : Nat) (tj : Int), awake s = true →
    s.running 15 = true → s.rst.held = false →
    u = (List.range 24).foldl (voltage volts) ((List.range 48).foldl (thermal temps) s) → hottest u = some (i, tj) →
    exec (.sampleRound temps volts) s = .next (heat (u.wr R.SEN_TJ_TJ (ofTemp16 tj)) (temp16 (s.rd R.SEN_TJ_TJ)) tj i)) ∧
  (∀ (s : State), calReady s = true → drifted s = true → s.on R.CAL_CTL_HOLD = false →
    exec (.calRunStart false) s = .next (calStart s 0)) ∧
  (∀ (s : State), calReady s = true → s.dev = .rising → exec (.calRunStart true) s = .next (calStart s 2)) ∧
  (∀ (s : State), calReady s = true → exec .calCmdRun s = .next (calStart s 1)) ∧
  (∀ (s : State), awake s = true → calReady s = true → exec .calRunNowCmd s = .next (calStart (cmdRun s (ekey 0x2B10 3)) 3)) ∧
  (∀ (s : State), s.dev = .rising → s.takes 16 = true → s.cal.run = none → ∃ t, exec .calCmdRegenerate s = .next t ∧
    t.cal.corr = []) ∧
  (∀ (s : State), awake s = true → s.running 16 = true → exec .calCmdReload s = .next (calReload s)) ∧
  (∀ (s : State) (r : CalRun) (u v : State), s.cal.run = some r → r.trigger = 0 → farHolds s calOwner calTokens = true →
    u = calRest (calStore ((List.range 16).foldl calDrc { s with cal := { s.cal with temps := calTemps s, run := none } })) →
    v = ((u.wr R.CAL_STAT_BUSY 0).wr R.CAL_STAT_LASTTJ (u.rd R.SEN_TJ_TJ)).wr R.CAL_RUNS_RUNS (u.rd R.CAL_RUNS_RUNS + 1) →
    awake s = true → ∃ t, exec .calRunCommit s = .next t ∧ t.cal = v.cal)

/-- Checkpoints, takeovers and clusters. Rests on R427, R428, R432, R433, Table 14.4; the model's choices that bear on it are log
entries 59, 60, 61, 90, 91, 130, 171, 172. -/
def Obligations.ComplexActs : Prop :=
  (∀ (s : State) (x : Nat), s.dev = .serving → s.cpx.entry = some x → ∃ t, exec .checkpointDue s = .next t ∧
    t.cpx.ckDue = some s.now) ∧
  (∀ (s : State) (x : Nat), s.dev = .serving → s.cpx.entry = some x → s.cpx.takeover = none → awake s = true →
    exec .checkpointGo s = .next ((fun t => { t with cpx := { t.cpx with ckDue := none } }) (checkpoint s))) ∧
  (∀ (s : State) (x : Nat), s.cpx.ckDue = some x → awake s = true → exec .checkpointMiss s = .next (raise (s.bump C.CPX_CKMISS)
    0x4C00 [activeCluster s, (s.bump C.CPX_CKMISS).ctr C.CPX_CKMISS])) ∧
  (∀ (s : State) (k : Takeover), s.cpx.takeover = some k → k.ret = false → awake s = true → ∃ t, exec .aliveWrite s = .next t ∧
    t.cpx.takeover = none) ∧
  (∀ (s : State) (k : Takeover) (late : Bool), s.cpx.takeover = some k → awake s = true →
    exec (.takeoverFailure late) s = .next (complexFailed s k (b2n late))) ∧
  (∀ (s : State), s.dev = .serving → s.cpx.takeover = none → s.cpx.entry.isSome = true → exec .returnCmd s = .next ((fun v =>
    takeoverStart (checkpoint (writeRecord v (activeCluster v) (bitClr (suspectFlags v) (1 - activeCluster s))))
    (Config.payloadCode 0x4C20 1) true) (cmdRun (switchEvent s 1 (1 - activeCluster s) true) (ekey 0x2C01 1)))) ∧
  (∀ (s : State) (c : Fin 2), awake s = true → bit (suspectFlags s) c = true → s.cpx.takeover = none → ∃ t,
    exec (.clearCmd c) s = .next t ∧ cmdStat t (ekey 0x2C01 2) = { state := 2, code := 0, progress := 0xFFFF })

/-- Acknowledgement, the command rings, events, and the stud book. Rests on R423, R426, R437, R438, R439, R440, R441; the model's
choices that bear on it are log entries 16, 92. -/
def Obligations.RecorderAndStudBookActs : Prop :=
  (∀ (s : State) (n : Fin 32) (seq : Nat), awake s = true → seq < 2 ^ 64 → ∃ t, exec (.evtAckWrite n seq) s = .next t ∧
    t.rd R.EVT_ACKL n + 2 ^ 32 * t.rd R.EVT_ACKH n = seq) ∧
  (∀ (s : State) (index tail : Nat), awake s = true →
    exec (.cpxRingtailWrite index tail) s = .next (ringTailGo ((s.wr R.CPX_RINGTAIL_INDEX index).wr R.CPX_RINGTAIL_TAIL tail))) ∧
  (∀ (s : State) (code : Nat) (payload : List Nat), awake s = true → assigned code = true →
    exec (.eventRaised code payload) s = .next (raise s code payload)) ∧
  (∀ (s : State) (code : Nat) (payload : List Nat), awake s = true → assigned code = true → hasToken s code = true →
    (record s code payload false [] (severity code)).recd.studLost = s.recd.studLost → ∃ t,
    exec (.eventRaised code payload) s = .next t ∧ t.recd.head = s.recd.head + 1) ∧
  (∀ (s : State) (code : Nat), awake s = true → 0 < s.recd.suppressed.get code 0 →
    1000000 ≤ s.since (s.recd.lastRec.get code 0) → hasToken s code = true →
    (record s code [] true [] (severity code)).recd.studLost = s.recd.studLost →
    exec (.summaryRecord code) s = .next (record s code [] true [] (severity code))) ∧
  (∀ (s : State) (e : StudEntry) (rest : List StudEntry), awake s = true → s.running 3 = true → s.kpf.erasing = false →
    studNext s ≠ 0 → s.recd.studQ = e :: rest → ∃ t, exec .studbookAppend s = .next t ∧ t.recd.studQ = rest) ∧
  (∀ (s : State) (h : Nat), awake s = true → s.running 3 = true → studNext s = 0 → (scanCopy s 0).2 = none →
    (scanCopy s 1).2 = none → h = max ((studHighest s 0).map (·.2) |>.getD 0) ((studHighest s 1).map (·.2) |>.getD 0) → exec
    .studbookScan s = .next ((setStudPos (setStudPos s 0 (scanCopy s 0).1) 1 (scanCopy s 1).1).wr64 R.STB_NEXTL R.STB_NEXTH (h +
    1))) ∧
  (∀ (s : State), s.kpf.erasing = true → ∃ t, exec .studbookSectorEraseDone s = .next t ∧ t.kpf.erasing = false) ∧
  (∀ (s : State) (core : Fin 4), s.cpx.mtimecmp.get core 0 ≤ s.cpx.mtime → awake s = true →
    exec (.machineTimerExpiry core) s = .next ({ s with cpx := { s.cpx with timerIrq := bitSet s.cpx.timerIrq core } }))

/-- The service port: sessions, identity, staging, reads and closing. Rests on R442, R443, R444, R445, Table 14.9; the model's
choices that bear on it are log entries 122, 123, 125, 126. -/
def Obligations.ServicePortActs : Prop :=
  (∀ (s : State) (k f : List Nat), svcUp s = true → svcBad f = false → svcOp f = 1 → (svcBody f).length = 20 →
    roleKey s 3 = some k → s.svc.session = none → bit s.dic.locked 4 = false → ∃ t, exec (.svcOpen f) s = .next t ∧
    t.svc.session.map (fun x => (x.isOpen, x.path)) = some (false, 4)) ∧
  (∀ (s : State) (x : Session) (f : List Nat), svcUp s = true → svcBad f = false → svcOp f = 3 → s.svc.session = some x →
    x.isOpen = false → svcLen f = 0 → svcTag f = Crypto.cmac x.key (f.take 16) → svcSeq f = 1 → ∃ t,
    exec (.svcProve f) s = .next t ∧ t.svc.session.map (fun y => (y.isOpen, y.lastSeq)) = some (true, 1)) ∧
  (∀ (s : State) (x : Session) (f : List Nat), svcUp s = true → svcBad f = false → svcOp f = 0x10 → s.svc.session = some x →
    x.isOpen = true → svcTag f = Crypto.cmac x.key (f.take (16 + svcLen f)) → svcSeq f ≠ x.lastSeq → svcSeq f ≠ x.lastSeq + 1 →
    exec (.svcIdent f) s = .next (svcSend (svcTaken s x f) (svcFrame x.key 0x10 (svcSeq f) stSequence (beBytes x.lastSeq 4)))) ∧
  (∀ (s : State) (x : Session) (f : List Nat), svcAccepts s x 0x10 f → svcBody f = [] →
    exec (.svcIdent f) s = .next (svcRespond (svcTaken s x f) { x with lastTime := s.now } f stOk ((List.range 0x16).flatMap (fun k => entryBytes (svcTaken s x f) 0x1000 (k + 1)) ++ beBytes (updStat (svcTaken s x f)) 4))) ∧
  (∀ (s : State) (x : Session) (f : List Nat) (n : Nat), svcAccepts s x 0x20 f → (svcBody f).length = 4 → n = beNat (svcBody f) →
    n ≠ 0 → n ≤ stagingBytes → ∃ t, exec (.stageBegin f) s = .next t ∧ t.svc.stageLen = n ∧ t.svc.staged = []) ∧
  (∀ (s : State) (x : Session) (f data : List Nat) (off : Nat) (u : State), svcAccepts s x 0x21 f → u = svcTaken s x f →
    4 ≤ (svcBody f).length → off = beNat ((svcBody f).take 4) → data = (svcBody f).drop 4 → receiving u = true → off % 256 = 0 →
    off + data.length ≤ u.svc.stageLen →
    u.svc.staged.any (fun p => decide (p.1 < off + data.length) && decide (off < p.1 + p.2)) = false → ∃ t,
    exec (.stageData f) s = .next t ∧ t.svc.staged = s.svc.staged ++ [(off, data.length)]) ∧
  (∀ (s : State) (x : Session) (f : List Nat) (why part : Nat) (u : State), svcAccepts s x 0x22 f → u = svcTaken s x f →
    svcBody f = [] → receiving u = true → imageCheck u (imageBase 2) = some (why, part) →
    exec (.stageEnd f) s = .next (svcRespond ((stageOver (rejectImage u why part)).wr R.UPD_STAT_STAGING 3) { x with lastTime := s.now } f stOk [])) ∧
  (∀ (s : State) (x : Session) (f : List Nat) (u : State), svcAccepts s x 0x22 f → u = svcTaken s x f → svcBody f = [] →
    receiving u = true → imageCheck u (imageBase 2) = none →
    exec (.stageEnd f) s = .next (svcRespond (raise ((stageOver (commitAppend u 0x10 0 0 (kle u (imageBase 2 + 16) 4) (imageVersion u (imageBase 2)))).wr R.UPD_STAT_STAGING 2) 0x5420 [leNat ((imageVersion u (imageBase 2)).take 4), leNat (((imageVersion u (imageBase 2)).drop 4).take 4), leNat (((imageVersion u (imageBase 2)).drop 8).take 4)]) { x with lastTime := s.now } f stOk [])) ∧
  (∀ (s : State) (x : Session) (f : List Nat), svcAccepts s x 0x23 f → svcBody f = [] →
    exec (.stageStatus f) s = .next (svcRespond (svcTaken s x f) { x with lastTime := s.now } f stOk ([s.rd R.UPD_STAT_STAGING] ++ beBytes (s.rd R.UPD_STAT_PROGRESS) 2 ++ [s.rd R.UPD_STAT_REASON]))) ∧
  (∀ (s : State) (x : Session) (f : List Nat) (copy first n : Nat), svcAccepts s x 0x30 f → (svcBody f).length = 7 →
    copy = (svcBody f).getD 0 0 → first = fld (svcBody f) 1 4 → n = fld (svcBody f) 5 2 → copy ≤ 1 → n ≤ 1000 →
    first + n ≤ studSlots (svcTaken s x f) →
    exec (.studRead f) s = .next (svcRespond (svcTaken s x f) { x with lastTime := s.now } f stOk (kbytes (svcTaken s x f) (studOff (svcTaken s x f) copy first) (64 * n)))) ∧
  (∀ (s : State) (x : Session) (f : List Nat) (off n : Nat), svcAccepts s x 0x31 f → (svcBody f).length = 6 →
    off = fld (svcBody f) 0 4 → n = fld (svcBody f) 4 2 → n ≤ 4096 → off + n ≤ 0x10080 →
    exec (.tackRead f) s = .next (svcRespond (svcTaken s x f) { x with lastTime := s.now } f stOk ((List.range n).map (fun i => tackByte (svcTaken s x f) (off + i))))) ∧
  (∀ (s : State) (x : Session) (f : List Nat) (first n : Nat), svcAccepts s x 0x32 f → (svcBody f).length = 10 →
    first = fld (svcBody f) 0 8 → n = fld (svcBody f) 8 2 → n ≤ 2000 →
    exec (.evtRead f) s = .next (svcRespond (svcTaken s x f) { x with lastTime := s.now } f stOk ((s.recd.ring.reverse.filter (fun r => decide (first ≤ r.seq) && decide (r.seq < first + n))).flatMap recordBytes))) ∧
  (∀ (s : State) (x : Session) (f : List Nat), svcAccepts s x 0x40 f → svcBody f = [4] →
    exec (.svcReset f) s = .next ((requestedReset (svcRespond (svcTaken s x f) { x with lastTime := s.now } f stOk []) 4 4 0 true).1)) ∧
  (∀ (s : State) (x : Session) (f : List Nat), svcAccepts s x 0x7F f → svcBody f = [] → ∃ t, exec (.svcClose f) s = .next t ∧
    t.svc.session = none) ∧
  (∀ (s : State) (x : Session), awake s = true → s.svc.session = some x → x.isOpen = true → ∃ t,
    exec .svcSessionTimeout s = .next t ∧ t.svc.session = none) ∧
  (∀ (s : State), awake s = true → ∃ t, exec .usbDetach s = .next t ∧ t.svc.session = none) ∧
  (∀ (s : State), awake s = true → s.on R.SVC_CFG_ENABLE = true → ∃ t, exec .usbAttach s = .next t ∧
    t.on R.SVC_STAT_VBUS = true ∧ t.on R.SVC_STAT_CONFIGURED = true)

/-- The key engine, its random numbers, and the debug unlock. Rests on R457, R458, R464, R470, Table 15.3; the model's choices that
bear on it are log entries 5, 94, 95, 97. -/
def Obligations.KeyEngineActs : Prop :=
  (∀ (s : State) (d k : List Nat), keyHead s 1 = some d → keyMode d ≠ 3 → useKey s (keySlot d) = some k → keyLen d ≤ 65536 →
    (keyMode d = 0 → keyLen d % 16 = 0) → keyBufs s d = true → exec .keyEncrypt s = .next (keySkip 64 (keyDone (countBlocks
    (dWrite s (keyDst d) (cipher true (keyMode d) k (areaRead s (keyIv d) 16) (areaRead s (keySrc d) (keyLen d)))) ((keyLen d +
    15) / 16)) d 0))) ∧
  (∀ (s : State) (d k : List Nat), keyHead s 2 = some d → keyMode d ≠ 3 → useKey s (keySlot d) = some k → keyLen d ≤ 65536 →
    (keyMode d = 0 → keyLen d % 16 = 0) → keyBufs s d = true → exec .keyDecrypt s = .next (keySkip 64 (keyDone (countBlocks
    (dWrite s (keyDst d) (cipher false (keyMode d) k (areaRead s (keyIv d) 16) (areaRead s (keySrc d) (keyLen d)))) ((keyLen d +
    15) / 16)) d 0))) ∧
  (∀ (s : State) (d k : List Nat), keyHead s 3 = some d → useKey s (keySlot d) = some k → keyLen d ≤ 65536 → keyBufs s d = true →
    exec .keyCmac s = .next (keySkip 64 (keyDone (countBlocks (dWrite s (keyDst d) (Crypto.cmac k (areaRead s (keySrc d) (keyLen
    d)))) (cmacBlocks (keyLen d))) d 0))) ∧
  (∀ (s : State) (d : List Nat), keyHead s 3 = some d → useKey s (keySlot d) = none →
    exec .keyCmac s = .next (keySkip 64 (keyDone s d 1))) ∧
  (∀ (s : State) (d k x : List Nat), keyHead s 4 = some d → keyKlen d < 2 → 16 ≤ keySlot d → 16 ≤ keyDslot d →
    useKey s (keySlot d) = some k → keyLen d ≤ 65536 → keyBufs s d = true → x = areaRead s (keySrc d) (keyLen d) → exec
    .keyDerive s = .next (keySkip 64 (keyDone ((installFw s d (Crypto.derive k (x.takeWhile (fun b => b ≠ 0)) (x.drop
    ((x.takeWhile (fun b => b ≠ 0)).length + 1)) (keyBytes d))).bump C.KEY_DERIVES) d 0))) ∧
  (∀ (s : State) (d : List Nat), keyHead s 5 = some d → keyKlen d < 2 → 16 ≤ keyDslot d → keyBufs s d = true →
    exec .keyLoad s = .next (keySkip 64 (keyDone (installFw s d (areaRead s (keySrc d) (keyBytes d))) d 0))) ∧
  (∀ (s : State) (d : List Nat), keyHead s 6 = some d → keyLen d ≤ 65536 → keyBufs s d = true → drbgOk s = true → exec .keyRandom
    s = .next (keySkip 64 (keyDone ((drawn (dWrite s (keyDst d) (drawBytes s (keyLen d)))).bump C.KEY_RANDOMBYTES (keyLen d)) d
    0))) ∧
  (∀ (s : State) (d : List Nat), keyHead s 6 = some d → keyLen d ≤ 65536 → keyBufs s d = true → drbgOk s = false →
    exec .keyRandom s = .next (keySkip 64 (keyDone s d 4))) ∧
  (∀ (s : State) (d : List Nat), keyHead s 7 = some d → 16 ≤ keyDslot d →
    exec .keyClear s = .next (keySkip 64 (keyDone (clearSlot s (keyDslot d)) d 0))) ∧
  (∀ (s : State) (d : List Nat), keyHead s 7 = some d → keyDslot d < 16 →
    exec .keyClear s = .next (keySkip 64 (keyDone s d 1))) ∧
  (∀ (s : State), awake s = true → ∃ t, exec .keyQueueTake s = .next t ∧ t.key.done = s.key.done.drop 1) ∧
  (∀ (s : State) (test : Nat), awake s = true → drbgOk s = true → ∃ t, exec (.drbgHealthFail test) s = .next t ∧
    drbgOk t = false) ∧
  (∀ (s : State), awake s = true → drbgOk s = true →
    exec .drbgReseed s = .next (({ s with key := { s.key with sinceSeed := 0 } } : State).wr R.KEY_STAT_NOENTROPY 0)) ∧
  (∀ (s : State) (tag : List Nat), awake s = true → s.key.debugFails < 4 → s.dev ≠ .rising → ∃ t,
    exec (.debugUnlock tag) s = .next t ∧ t.key.debugFails = s.key.debugFails + 1 ∧ t.out.head? = some (.debug false)) ∧
  (∀ (s : State) (tag : List Nat), s.dev = .rising → s.key.debugFails < 4 →
    tag = Crypto.cmac s.fuses.dbg (beBytes s.fuses.partNumber 8 ++ drawBytes s 16) → ∃ t, exec (.debugUnlock tag) s = .next t ∧
    t.rd R.KEY_STAT_DEBUG = 1 ∧ t.out.head? = some (.debug true))

/-- Staging cancelled, key loading, links of the host, and the rows that end waits. Rests on R77, R188, R189, R259, R309, R346,
R365, R452, R460; the model's choices that bear on it are log entries 57, 58, 115, 124, 127. -/
def Obligations.UpdateAndOtherActs : Prop :=
  (∀ (s : State), awake s = true → ∃ t, exec .cancelStaging s = .next t ∧ t.svc.staged = [] ∧ t.svc.stageLen = 0) ∧
  (∀ (s : State), awake s = true → ∃ t, exec .cancelStagingCmd s = .next t ∧ t.svc.staged = [] ∧
    cmdStat t (ekey 0x2C30 9) = { state := 2, code := 0, progress := 0xFFFF }) ∧
  (∀ (s : State) (sess slot : Nat) (x : Session) (kw k : List Nat), awake s = true → slot = ent s (ekey 0x2D10 1) 4 →
    s.dic.sessions.find? sess = some x → slotBytes s 9 = some kw → x.isOpen = true → x.keyBlob.length = 32 → 2 ≤ slot →
    slot ≤ 5 → slotLoaded s 9 = true → k = Crypto.xorBytes x.keyBlob (loadMask x.key sess x.keySeq) → exec (.keyLoadCmd sess) s =
    .next (cmdDone (countBlocks (setWrap (showLoaded (setSlot s slot .aes256 k)) slot (Crypto.keyWrap kw k)) 26) (ekey 0x2D10
    3))) ∧
  (∀ (s : State) (sess ch k : Nat), awake s = true → k = sessEnt s sess (ekey 0x2910 1) 0 → ch < 32 →
    retirable (cmdRun s (ekey 0x2910 6)) k = true → exec (.retireSuperblockMemberCmd sess ch) s = .next (cmdDone (retireMember
    (cmdRun s (ekey 0x2910 6)) k ch (Config.payloadCode 0x3440 1)) (ekey 0x2910 6))) ∧
  (∀ (s : State), twnRuns s = true → ∃ t, exec (.heartbeatResumed 0) s = .next t ∧ t.on R.TWN_STATE_HBALIVE = true) ∧
  (∀ (s : State), twnRuns s = true → ∃ t, exec (.heartbeatResumed 1) s = .next t ∧ t.on R.TWN_STATE_HBBLIVE = true) ∧
  (∀ (s : State), visilUp s = true → exec .widengapExpiry s = .next (widen s)) ∧
  (∀ (s : State) (m : Nat), visilUp s = true → mayWiden s = true → s.twn.passed ≠ 0 → m = goodLanes s ||| s.twn.passed → ∃ t,
    exec .widengapExpiry s = .next t ∧ t.twn.wOffer = some m ∧ t.twn.adding = s.twn.passed ∧ t.out.head? = some (.ctrl 1 m 0)) ∧
  (∀ (s : State) (speed width : Nat), awake s = true → s.pci.perst = false → s.on R.PCI_CFG_ENABLE = true → 1 ≤ speed →
    speed ≤ 5 → [1, 2, 4, 8, 16].contains width = true → ∃ t, exec (.pcieLinkStateChange true speed width) s = .next t ∧
    t.rd R.PCI_STAT_LINKUP = 1 ∧ t.rd R.PCI_STAT_SPEED = speed ∧ t.rd R.PCI_STAT_WIDTH = width) ∧
  (∀ (s : State) (speed width : Nat), awake s = true → s.pci.perst = false → s.on R.PCI_STAT_LINKUP = true →
    exec (.pcieLinkStateChange false speed width) s = .next (hostDown (showPci s false 0 0))) ∧
  (∀ (s : State) (up full : Bool) (speed : Fin 3), awake s = true → ∃ t, exec (.mgtLinkStatusChange up full speed) s = .next t ∧
    t.rd R.MGT_LINK_UP = b2n up ∧ t.rd R.MGT_LINK_FULLDUP = b2n full ∧ t.rd R.MGT_LINK_SPEED = speed.val) ∧
  (∀ (s : State) (c : Fin 16) (bank : Fin 256), awake s = true → ∃ t, exec (.rowIdleClose c bank) s = .next t ∧
    (drcAt t c).opened.find? bank = none) ∧
  (∀ (s : State) (ch : Fin 32) (die : Nat), awake s = true → ∃ t, exec (.eresminExpiry ch die) s = .next t ∧
    t.stf.resting.find? (32 * ch.val + die) = none) ∧
  (∀ (s : State) (c : SaveCause), s.sav.wanted = some c → s.dev = .rising → s.on R.RST_RETAIN_WARM = true → ∃ t,
    exec .savePathReady s = .next t ∧ t.dev = .saving)
end

