-- ==== Sys2Proof/Laws/Keep.lean ====
section
/-! SUPPORT. `Keeps k a s`: state s differs from state a at most in the parts of the mask k, and every invariant of the model that
holds in a holds in s. One lemma per way of building a state; the files Laws/Keep*.lean hold one lemma per shared operation. -/

namespace Sys2Proof.Laws

open Sys2Proof.Machine

/-- Every part of mask `m` is one of mask `k`. -/
structure Sub (m k : Nat) : Prop where
  bits : ∀ i, m.testBit i = true → k.testBit i = true

theorem Sub.of {m n k : Nat} (h : Sub n k) (e : m ||| n = n) : Sub m k := by
  refine ⟨fun i hi => ?_⟩
  apply h.bits
  rw [← e, Nat.testBit_or, hi, Bool.true_or]

theorem Sub.refl (k : Nat) : Sub k k := ⟨fun _ h => h⟩

theorem Sub.bit {n k : Nat} (h : Sub n k) (i : Nat) (e : n.testBit i = true) : k.testBit i = true := h.bits i e

/-- s differs from a only in the parts of k; the queue and the clock are the same; outputs are only added; fuses only burn; and the
canonical forms that hold in a hold in s. -/
structure Keeps (k : Nat) (a s : State) : Prop where
  same : ∀ p : StPart, k.testBit p.bit = false → p.same a s
  pend : s.pending = a.pending
  now : s.now = a.now
  out : a.out <:+ s.out
  fuse : a.fuses.grown s.fuses
  mem : Memory.wf a.dram.data = true → Memory.wf s.dram.data = true
  regs : a.rf.wf → s.rf.wf

theorem same_refl (p : StPart) (s : State) : p.same s s := by cases p <;> rfl

theorem same_trans {p : StPart} {a s t : State} (h : p.same a s) (g : p.same s t) : p.same a t := by
  cases p <;> exact Eq.trans g h

theorem grown_refl (f : Fuses) : f.grown f := ⟨rfl, Nat.le_refl _⟩

theorem grown_trans {a f g : Fuses} (h : a.grown f) (j : f.grown g) : a.grown g := by
  obtain ⟨h1, h2⟩ := h
  obtain ⟨j1, j2⟩ := j
  refine ⟨?_, Nat.le_trans h2 j2⟩
  rw [j1, h1]

theorem Keeps.refl (k : Nat) (s : State) : Keeps k s s :=
  ⟨fun p _ => same_refl p s, rfl, rfl, List.suffix_refl _, grown_refl _, id, id⟩

theorem Keeps.trans {k : Nat} {a s t : State} (h : Keeps k a s) (g : Keeps k s t) : Keeps k a t :=
  ⟨fun p hp => same_trans (h.same p hp) (g.same p hp), g.pend.trans h.pend, g.now.trans h.now,
    h.out.trans g.out, grown_trans h.fuse g.fuse, g.mem ∘ h.mem, g.regs ∘ h.regs⟩

/-- A state built from s by changing parts of w, none of which an invariant looks at. -/
theorem Keeps.build {k : Nat} {a s t : State} (w : Nat)
    (hk : Sub w k) (h : Keeps k a s) (pend : t.pending = s.pending) (now : t.now = s.now)
    (hs : ∀ p : StPart, w.testBit p.bit = false → p.same s t) (out : s.out <:+ t.out) (fuse : s.fuses.grown t.fuses)
    (mem : Memory.wf s.dram.data = true → Memory.wf t.dram.data = true) (regs : s.rf.wf → t.rf.wf) : Keeps k a t :=
  h.trans ⟨fun p hp => hs p (by
      cases e : w.testBit p.bit with
      | false => rfl
      | true => exact absurd (hk.bits _ e) (by rw [hp]; decide)), pend, now, out, fuse, mem, regs⟩

/-! ## One part changed -/

theorem Keeps.dev {k : Nat} {a s : State} {x} (hk : k.testBit 0 = true) (h : Keeps k a s) :
    Keeps k a { s with dev := x } :=
  ⟨fun p hp => by
      cases p <;> first | exact absurd (hp.symm.trans hk) (by decide) | exact h.same _ hp,
    h.pend, h.now, h.out, h.fuse, h.mem, h.regs⟩

theorem Keeps.gai {k : Nat} {a s : State} {x} (hk : k.testBit 3 = true) (h : Keeps k a s) :
    Keeps k a { s with gai := x } :=
  ⟨fun p hp => by
      cases p <;> first | exact absurd (hp.symm.trans hk) (by decide) | exact h.same _ hp,
    h.pend, h.now, h.out, h.fuse, h.mem, h.regs⟩

theorem Keeps.pwr {k : Nat} {a s : State} {x} (hk : k.testBit 4 = true) (h : Keeps k a s) :
    Keeps k a { s with pwr := x } :=
  ⟨fun p hp => by
      cases p <;> first | exact absurd (hp.symm.trans hk) (by decide) | exact h.same _ hp,
    h.pend, h.now, h.out, h.fuse, h.mem, h.regs⟩

theorem Keeps.rst {k : Nat} {a s : State} {x} (hk : k.testBit 5 = true) (h : Keeps k a s) :
    Keeps k a { s with rst := x } :=
  ⟨fun p hp => by
      cases p <;> first | exact absurd (hp.symm.trans hk) (by decide) | exact h.same _ hp,
    h.pend, h.now, h.out, h.fuse, h.mem, h.regs⟩

theorem Keeps.tack {k : Nat} {a s : State} {x} (hk : k.testBit 6 = true) (h : Keeps k a s) :
    Keeps k a { s with tack := x } :=
  ⟨fun p hp => by
      cases p <;> first | exact absurd (hp.symm.trans hk) (by decide) | exact h.same _ hp,
    h.pend, h.now, h.out, h.fuse, h.mem, h.regs⟩

theorem Keeps.recd {k : Nat} {a s : State} {x} (hk : k.testBit 7 = true) (h : Keeps k a s) :
    Keeps k a { s with recd := x } :=
  ⟨fun p hp => by
      cases p <;> first | exact absurd (hp.symm.trans hk) (by decide) | exact h.same _ hp,
    h.pend, h.now, h.out, h.fuse, h.mem, h.regs⟩

theorem Keeps.dic {k : Nat} {a s : State} {x} (hk : k.testBit 8 = true) (h : Keeps k a s) :
    Keeps k a { s with dic := x } :=
  ⟨fun p hp => by
      cases p <;> first | exact absurd (hp.symm.trans hk) (by decide) | exact h.same _ hp,
    h.pend, h.now, h.out, h.fuse, h.mem, h.regs⟩

theorem Keeps.pci {k : Nat} {a s : State} {x} (hk : k.testBit 9 = true) (h : Keeps k a s) :
    Keeps k a { s with pci := x } :=
  ⟨fun p hp => by
      cases p <;> first | exact absurd (hp.symm.trans hk) (by decide) | exact h.same _ hp,
    h.pend, h.now, h.out, h.fuse, h.mem, h.regs⟩

theorem Keeps.mgtDrops {k : Nat} {a s : State} {x} (hk : k.testBit 10 = true) (h : Keeps k a s) :
    Keeps k a { s with mgtDrops := x } :=
  ⟨fun p hp => by
      cases p <;> first | exact absurd (hp.symm.trans hk) (by decide) | exact h.same _ hp,
    h.pend, h.now, h.out, h.fuse, h.mem, h.regs⟩

theorem Keeps.cpx {k : Nat} {a s : State} {x} (hk : k.testBit 11 = true) (h : Keeps k a s) :
    Keeps k a { s with cpx := x } :=
  ⟨fun p hp => by
      cases p <;> first | exact absurd (hp.symm.trans hk) (by decide) | exact h.same _ hp,
    h.pend, h.now, h.out, h.fuse, h.mem, h.regs⟩

theorem Keeps.svc {k : Nat} {a s : State} {x} (hk : k.testBit 12 = true) (h : Keeps k a s) :
    Keeps k a { s with svc := x } :=
  ⟨fun p hp => by
      cases p <;> first | exact absurd (hp.symm.trans hk) (by decide) | exact h.same _ hp,
    h.pend, h.now, h.out, h.fuse, h.mem, h.regs⟩

theorem Keeps.key {k : Nat} {a s : State} {x} (hk : k.testBit 13 = true) (h : Keeps k a s) :
    Keeps k a { s with key := x } :=
  ⟨fun p hp => by
      cases p <;> first | exact absurd (hp.symm.trans hk) (by decide) | exact h.same _ hp,
    h.pend, h.now, h.out, h.fuse, h.mem, h.regs⟩

theorem Keeps.kpf {k : Nat} {a s : State} {x} (hk : k.testBit 14 = true) (h : Keeps k a s) :
    Keeps k a { s with kpf := x } :=
  ⟨fun p hp => by
      cases p <;> first | exact absurd (hp.symm.trans hk) (by decide) | exact h.same _ hp,
    h.pend, h.now, h.out, h.fuse, h.mem, h.regs⟩

theorem Keeps.clk {k : Nat} {a s : State} {x} (hk : k.testBit 15 = true) (h : Keeps k a s) :
    Keeps k a { s with clk := x } :=
  ⟨fun p hp => by
      cases p <;> first | exact absurd (hp.symm.trans hk) (by decide) | exact h.same _ hp,
    h.pend, h.now, h.out, h.fuse, h.mem, h.regs⟩

theorem Keeps.cal {k : Nat} {a s : State} {x} (hk : k.testBit 16 = true) (h : Keeps k a s) :
    Keeps k a { s with cal := x } :=
  ⟨fun p hp => by
      cases p <;> first | exact absurd (hp.symm.trans hk) (by decide) | exact h.same _ hp,
    h.pend, h.now, h.out, h.fuse, h.mem, h.regs⟩

theorem Keeps.sav {k : Nat} {a s : State} {x} (hk : k.testBit 17 = true) (h : Keeps k a s) :
    Keeps k a { s with sav := x } :=
  ⟨fun p hp => by
      cases p <;> first | exact absurd (hp.symm.trans hk) (by decide) | exact h.same _ hp,
    h.pend, h.now, h.out, h.fuse, h.mem, h.regs⟩

theorem Keeps.gov {k : Nat} {a s : State} {x} (hk : k.testBit 18 = true) (h : Keeps k a s) :
    Keeps k a { s with gov := x } :=
  ⟨fun p hp => by
      cases p <;> first | exact absurd (hp.symm.trans hk) (by decide) | exact h.same _ hp,
    h.pend, h.now, h.out, h.fuse, h.mem, h.regs⟩

theorem Keeps.maps {k : Nat} {a s : State} {x} (hk : k.testBit 19 = true) (h : Keeps k a s) :
    Keeps k a { s with maps := x } :=
  ⟨fun p hp => by
      cases p <;> first | exact absurd (hp.symm.trans hk) (by decide) | exact h.same _ hp,
    h.pend, h.now, h.out, h.fuse, h.mem, h.regs⟩

theorem Keeps.log {k : Nat} {a s : State} {x} (hk : k.testBit 20 = true) (h : Keeps k a s) :
    Keeps k a { s with log := x } :=
  ⟨fun p hp => by
      cases p <;> first | exact absurd (hp.symm.trans hk) (by decide) | exact h.same _ hp,
    h.pend, h.now, h.out, h.fuse, h.mem, h.regs⟩

theorem Keeps.trn {k : Nat} {a s : State} {x} (hk : k.testBit 21 = true) (h : Keeps k a s) :
    Keeps k a { s with trn := x } :=
  ⟨fun p hp => by
      cases p <;> first | exact absurd (hp.symm.trans hk) (by decide) | exact h.same _ hp,
    h.pend, h.now, h.out, h.fuse, h.mem, h.regs⟩

theorem Keeps.drc {k : Nat} {a s : State} {x} (hk : k.testBit 23 = true) (h : Keeps k a s) :
    Keeps k a { s with drc := x } :=
  ⟨fun p hp => by
      cases p <;> first | exact absurd (hp.symm.trans hk) (by decide) | exact h.same _ hp,
    h.pend, h.now, h.out, h.fuse, h.mem, h.regs⟩

theorem Keeps.grm {k : Nat} {a s : State} {x} (hk : k.testBit 24 = true) (h : Keeps k a s) :
    Keeps k a { s with grm := x } :=
  ⟨fun p hp => by
      cases p <;> first | exact absurd (hp.symm.trans hk) (by decide) | exact h.same _ hp,
    h.pend, h.now, h.out, h.fuse, h.mem, h.regs⟩

theorem Keeps.far {k : Nat} {a s : State} {x} (hk : k.testBit 25 = true) (h : Keeps k a s) :
    Keeps k a { s with far := x } :=
  ⟨fun p hp => by
      cases p <;> first | exact absurd (hp.symm.trans hk) (by decide) | exact h.same _ hp,
    h.pend, h.now, h.out, h.fuse, h.mem, h.regs⟩

theorem Keeps.stf {k : Nat} {a s : State} {x} (hk : k.testBit 26 = true) (h : Keeps k a s) :
    Keeps k a { s with stf := x } :=
  ⟨fun p hp => by
      cases p <;> first | exact absurd (hp.symm.trans hk) (by decide) | exact h.same _ hp,
    h.pend, h.now, h.out, h.fuse, h.mem, h.regs⟩

theorem Keeps.tie {k : Nat} {a s : State} {x} (hk : k.testBit 27 = true) (h : Keeps k a s) :
    Keeps k a { s with tie := x } :=
  ⟨fun p hp => by
      cases p <;> first | exact absurd (hp.symm.trans hk) (by decide) | exact h.same _ hp,
    h.pend, h.now, h.out, h.fuse, h.mem, h.regs⟩

theorem Keeps.mst {k : Nat} {a s : State} {x} (hk : k.testBit 28 = true) (h : Keeps k a s) :
    Keeps k a { s with mst := x } :=
  ⟨fun p hp => by
      cases p <;> first | exact absurd (hp.symm.trans hk) (by decide) | exact h.same _ hp,
    h.pend, h.now, h.out, h.fuse, h.mem, h.regs⟩

theorem Keeps.xpt {k : Nat} {a s : State} {x} (hk : k.testBit 29 = true) (h : Keeps k a s) :
    Keeps k a { s with xpt := x } :=
  ⟨fun p hp => by
      cases p <;> first | exact absurd (hp.symm.trans hk) (by decide) | exact h.same _ hp,
    h.pend, h.now, h.out, h.fuse, h.mem, h.regs⟩

theorem Keeps.prt {k : Nat} {a s : State} {x} (hk : k.testBit 30 = true) (h : Keeps k a s) :
    Keeps k a { s with prt := x } :=
  ⟨fun p hp => by
      cases p <;> first | exact absurd (hp.symm.trans hk) (by decide) | exact h.same _ hp,
    h.pend, h.now, h.out, h.fuse, h.mem, h.regs⟩

theorem Keeps.twn {k : Nat} {a s : State} {x} (hk : k.testBit 31 = true) (h : Keeps k a s) :
    Keeps k a { s with twn := x } :=
  ⟨fun p hp => by
      cases p <;> first | exact absurd (hp.symm.trans hk) (by decide) | exact h.same _ hp,
    h.pend, h.now, h.out, h.fuse, h.mem, h.regs⟩

theorem Keeps.draws {k : Nat} {a s : State} {x} (hk : k.testBit 32 = true) (h : Keeps k a s) :
    Keeps k a { s with draws := x } :=
  ⟨fun p hp => by
      cases p <;> first | exact absurd (hp.symm.trans hk) (by decide) | exact h.same _ hp,
    h.pend, h.now, h.out, h.fuse, h.mem, h.regs⟩

theorem Keeps.mdio {k : Nat} {a s : State} {x} (hk : k.testBit 35 = true) (h : Keeps k a s) :
    Keeps k a { s with mdio := x } :=
  ⟨fun p hp => by
      cases p <;> first | exact absurd (hp.symm.trans hk) (by decide) | exact h.same _ hp,
    h.pend, h.now, h.out, h.fuse, h.mem, h.regs⟩

theorem Keeps.bank0 {k : Nat} {a s : State} {x} (hk : k.testBit 34 = true) (h : Keeps k a s)
    (g : s.rf.wf → ({ s.rf with bank0 := x } : RegFile).wf) : Keeps k a { s with rf := { s.rf with bank0 := x } } :=
  ⟨fun p hp => by
      cases p <;> first | exact absurd (hp.symm.trans hk) (by decide) | exact h.same _ hp,
    h.pend, h.now, h.out, h.fuse, h.mem, g ∘ h.regs⟩

theorem Keeps.dram {k : Nat} {a s : State} {x} (hk : k.testBit 22 = true) (h : Keeps k a s)
    (g : Memory.wf s.dram.data = true → Memory.wf x.data = true) : Keeps k a { s with dram := x } :=
  ⟨fun p hp => by
      cases p <;> first | exact absurd (hp.symm.trans hk) (by decide) | exact h.same _ hp,
    h.pend, h.now, h.out, h.fuse, g ∘ h.mem, h.regs⟩

theorem Keeps.fuses {k : Nat} {a s : State} {x} (hk : k.testBit 2 = true) (h : Keeps k a s) (g : s.fuses.grown x) :
    Keeps k a { s with fuses := x } :=
  ⟨fun p hp => by
      cases p <;> first | exact absurd (hp.symm.trans hk) (by decide) | exact h.same _ hp,
    h.pend, h.now, h.out, grown_trans h.fuse g, h.mem, h.regs⟩

/-! ## Chains of changes -/

/-- A definition in between: what is named keeps, and what follows is looked at with the name alone. -/
theorem Keeps.have_ {k : Nat} {a t : State} {P : Prop} (h : Keeps k a t) (g : Keeps k a t → P) : P := g h

theorem Keeps.have_fst {α : Type} {k : Nat} {a : State} {t : State × α} {P : Prop} (h : Keeps k a t.1)
    (g : Keeps k a t.1 → P) : P := g h

theorem Keeps.branch {k : Nat} {a x y : State} {c : Prop} {d : Decidable c} (h : Keeps k a x) (g : Keeps k a y) :
    Keeps k a (@ite State c d x y) := by
  split
  · exact h
  · exact g

theorem Keeps.branch_fst {α : Type} {k : Nat} {a : State} {x y : State × α} {c : Prop} {d : Decidable c}
    (h : Keeps k a x.1) (g : Keeps k a y.1) : Keeps k a (@ite (State × α) c d x y).1 := by
  split
  · exact h
  · exact g

theorem Keeps.ofPair {α : Type} {k : Nat} {a t : State} {x : α} {p : State × α} (e : p = (t, x))
    (h : Keeps k a p.1) : Keeps k a t := by
  subst e
  exact h

theorem Keeps.foldl {α : Type} {k : Nat} {a s : State} {f : State → α → State} {l : List α}
    (g : ∀ u x, Keeps k a u → Keeps k a (f u x)) (h : Keeps k a s) : Keeps k a (l.foldl f s) := by
  induction l generalizing s with
  | nil => exact h
  | cons x xs ih => exact ih (g s x h)

theorem Keeps.foldl_fst {α β : Type} {k : Nat} {a : State} {s : State × β} {f : State × β → α → State × β} {l : List α}
    (g : ∀ u x, Keeps k a u.1 → Keeps k a (f u x).1) (h : Keeps k a s.1) : Keeps k a (l.foldl f s).1 := by
  induction l generalizing s with
  | nil => exact h
  | cons x xs ih => exact ih (g s x h)

end Sys2Proof.Laws
end

