-- ==== Sys2Proof/Laws/Sparse.lean ====
section
/-! SUPPORT. The laws of sparse lists and of memory: a read after a write, and every operation keeps the canonical form. -/

namespace Sys2Proof.Machine

variable {α : Type}

/-! ## Reads after writes -/

@[simp] theorem Sparse.find?_ins (m : Sparse α) (k j : Nat) (v : α) :
    (m.ins k v).find? j = if j = k then some v else m.find? j := by
  induction m with
  | nil => simp [Sparse.ins, Sparse.find?]
  | cons e m ih =>
    obtain ⟨k', v'⟩ := e
    simp only [Sparse.ins]
    split
    · simp [Sparse.find?]
    · split
      · subst_vars
        simp only [Sparse.find?]
        split <;> rfl
      · simp only [Sparse.find?, ih]
        by_cases h : j = k'
        · subst h
          have : ¬ j = k := fun e => by omega
          simp [this]
        · simp [h]

@[simp] theorem Sparse.find?_del (m : Sparse α) (k j : Nat) :
    (m.del k).find? j = if j = k then none else m.find? j := by
  induction m with
  | nil => simp [Sparse.del, Sparse.find?]
  | cons e m ih =>
    obtain ⟨k', v'⟩ := e
    simp only [Sparse.del]
    split
    · rename_i e
      subst e
      simp only [Sparse.find?, ih]
      by_cases h : j = k <;> simp [h]
    · simp only [Sparse.find?, ih]
      by_cases h : j = k'
      · subst h
        have : ¬ j = k := fun e => by omega
        simp [this]
      · simp [h]

@[simp] theorem Sparse.get_ins (m : Sparse α) (k j : Nat) (v d : α) :
    (m.ins k v).get j d = if j = k then v else m.get j d := by
  simp only [Sparse.get, Sparse.find?_ins]
  split <;> rfl

@[simp] theorem Sparse.get_del (m : Sparse α) (k j : Nat) (d : α) :
    (m.del k).get j d = if j = k then d else m.get j d := by
  simp only [Sparse.get, Sparse.find?_del]
  split <;> rfl

/-- Read after write of the key written: the value written. -/
@[simp] theorem Sparse.get_put_self [DecidableEq α] (m : Sparse α) (k : Nat) (v d : α) : (m.put k v d).get k d = v := by
  unfold Sparse.put
  split <;> simp_all

/-- A write leaves every other key alone, whatever default the reader of that key has. -/
theorem Sparse.get_put_other [DecidableEq α] (m : Sparse α) (k j : Nat) (v d e : α) (h : j ≠ k) :
    (m.put k v d).get j e = m.get j e := by
  unfold Sparse.put
  split <;> simp [h]

/-! ## The canonical form -/

theorem Sparse.above_mono {b c : Nat} {m : Sparse α} (h : b ≤ c) (g : Sparse.above c m = true) : Sparse.above b m = true := by
  cases m with
  | nil => rfl
  | cons e m =>
    simp only [Sparse.above, Bool.and_eq_true, decide_eq_true_eq] at g ⊢
    exact ⟨Nat.le_trans h g.1, g.2⟩

theorem Sparse.above_ins {b k : Nat} {v : α} {m : Sparse α} (hb : b ≤ k) (h : Sparse.above b m = true) :
    Sparse.above b (m.ins k v) = true := by
  induction m generalizing b with
  | nil => simp [Sparse.ins, Sparse.above, hb]
  | cons e m ih =>
    obtain ⟨k', v'⟩ := e
    simp only [Sparse.above, Bool.and_eq_true, decide_eq_true_eq] at h
    simp only [Sparse.ins]
    split
    · rename_i hk
      simp only [Sparse.above, Bool.and_eq_true, decide_eq_true_eq]
      exact ⟨hb, by omega, h.2⟩
    · split
      · subst_vars
        simp [Sparse.above, hb, h.2]
      · simp only [Sparse.above, Bool.and_eq_true, decide_eq_true_eq]
        exact ⟨h.1, ih (by omega) h.2⟩

theorem Sparse.above_del {b k : Nat} {m : Sparse α} (h : Sparse.above b m = true) : Sparse.above b (m.del k) = true := by
  induction m generalizing b with
  | nil => rfl
  | cons e m ih =>
    obtain ⟨k', v'⟩ := e
    simp only [Sparse.above, Bool.and_eq_true, decide_eq_true_eq] at h
    simp only [Sparse.del]
    split
    · exact Sparse.above_mono (by omega) (ih h.2)
    · simp only [Sparse.above, Bool.and_eq_true, decide_eq_true_eq]
      exact ⟨h.1, ih h.2⟩

theorem Sparse.above_filter {b : Nat} {p : Nat × α → Bool} {m : Sparse α} (h : Sparse.above b m = true) :
    Sparse.above b (List.filter p m) = true := by
  induction m generalizing b with
  | nil => rfl
  | cons e m ih =>
    obtain ⟨k', v'⟩ := e
    simp only [Sparse.above, Bool.and_eq_true, decide_eq_true_eq] at h
    simp only [List.filter]
    split
    · simp only [Sparse.above, Bool.and_eq_true, decide_eq_true_eq]
      exact ⟨h.1, ih h.2⟩
    · exact Sparse.above_mono (by omega) (ih h.2)

@[simp] theorem Sparse.wf_nil : Sparse.wf ([] : Sparse α) = true := rfl

theorem Sparse.wf_ins {m : Sparse α} {k : Nat} {v : α} (h : Sparse.wf m = true) : Sparse.wf (m.ins k v) = true :=
  Sparse.above_ins (Nat.zero_le _) h

theorem Sparse.wf_del {m : Sparse α} {k : Nat} (h : Sparse.wf m = true) : Sparse.wf (m.del k) = true := Sparse.above_del h

theorem Sparse.wf_put [DecidableEq α] {m : Sparse α} {k : Nat} {v d : α} (h : Sparse.wf m = true) :
    Sparse.wf (m.put k v d) = true := by
  unfold Sparse.put
  split
  · exact Sparse.wf_del h
  · exact Sparse.wf_ins h

theorem Sparse.wf_filter {m : Sparse α} {p : Nat × α → Bool} (h : Sparse.wf m = true) : Sparse.wf (List.filter p m) = true :=
  Sparse.above_filter h

theorem Sparse.wf_keep {m : Sparse α} {p : Nat → Bool} (h : Sparse.wf m = true) : Sparse.wf (m.keep p) = true :=
  Sparse.above_filter h

theorem Sparse.wf_foldl_ins {β : Type} {m : Sparse α} {l : List β} {f : β → Nat} {g : β → α} (h : Sparse.wf m = true) :
    Sparse.wf (l.foldl (fun u e => Sparse.ins u (f e) (g e)) m) = true := by
  induction l generalizing m with
  | nil => exact h
  | cons e l ih => exact ih (Sparse.wf_ins h)

/-! ## Memory -/

theorem Memory.wf_iff {m : List Host.Cell} : Memory.wf m = true ↔ Sparse.wf m = true ∧ ∀ c ∈ m, c.2 ≠ 0#8 := by
  simp [Memory.wf]

theorem Memory.wf_filter {m : List Host.Cell} {p : Host.Cell → Bool} (h : Memory.wf m = true) :
    Memory.wf (List.filter p m) = true := by
  rw [Memory.wf_iff] at h ⊢
  exact ⟨Sparse.wf_filter h.1, fun c hc => h.2 c (List.mem_filter.mp hc).1⟩

theorem Sparse.mem_del {m : Sparse α} {k : Nat} {c : Nat × α} (h : c ∈ m.del k) : c ∈ m := by
  induction m with
  | nil => exact h
  | cons e m ih =>
    simp only [Sparse.del] at h
    split at h
    · exact List.mem_cons_of_mem _ (ih h)
    · rcases List.mem_cons.mp h with h | h
      · exact h ▸ List.mem_cons_self
      · exact List.mem_cons_of_mem _ (ih h)

theorem Sparse.mem_ins {m : Sparse α} {k : Nat} {v : α} {c : Nat × α} (h : c ∈ m.ins k v) : c = (k, v) ∨ c ∈ m := by
  induction m with
  | nil => exact .inl (List.mem_singleton.mp h)
  | cons e m ih =>
    simp only [Sparse.ins] at h
    split at h
    · rcases List.mem_cons.mp h with h | h
      · exact .inl h
      · exact .inr h
    · split at h
      · rcases List.mem_cons.mp h with h | h
        · exact .inl h
        · exact .inr (List.mem_cons_of_mem _ h)
      · rcases List.mem_cons.mp h with h | h
        · exact .inr (h ▸ List.mem_cons_self)
        · rcases ih h with h | h
          · exact .inl h
          · exact .inr (List.mem_cons_of_mem _ h)

/-- A write of one byte keeps the canonical form. -/
theorem Memory.wf_memPut {m : List Host.Cell} {a v : Nat} (h : Memory.wf m = true) : Memory.wf (memPut m a v) = true := by
  rw [Memory.wf_iff] at h ⊢
  refine ⟨Sparse.wf_put h.1, fun c hc => ?_⟩
  unfold memPut Sparse.put at hc
  split at hc
  · exact h.2 c (Sparse.mem_del hc)
  · rename_i hv
    rcases Sparse.mem_ins hc with e | e
    · rw [e]
      exact hv
    · exact h.2 c e

/-- A write of bytes keeps the canonical form. -/
theorem Memory.wf_memWrite {m : List Host.Cell} {a : Nat} {bs : List Nat} (h : Memory.wf m = true) :
    Memory.wf (memWrite m a bs) = true := by
  induction bs generalizing m a with
  | nil => exact h
  | cons b bs ih => exact ih (Memory.wf_memPut h)

/-- Zeroing keeps the canonical form. -/
theorem Memory.wf_memZero {m : List Host.Cell} {a n : Nat} (h : Memory.wf m = true) : Memory.wf (memZero m a n) = true :=
  Memory.wf_filter h

/-- Replacing a range by cells keeps the canonical form. -/
theorem Memory.wf_memPaste {m : List Host.Cell} {a n : Nat} {cells : List Host.Cell} (h : Memory.wf m = true) :
    Memory.wf (memPaste m a n cells) = true := by
  unfold memPaste
  have h' := Memory.wf_memZero (a := a) (n := n) h
  revert h'
  generalize memZero m a n = u
  induction cells generalizing u with
  | nil => exact id
  | cons c cells ih =>
    intro h'
    apply ih
    show Memory.wf (if c.1 < n then memPut u (a + c.1) c.2.toNat else u) = true
    split
    · exact Memory.wf_memPut h'
    · exact h'

/-- Read after write: the byte written. -/
@[simp] theorem memGet_memPut_self (m : List Host.Cell) (a v : Nat) : memGet (memPut m a v) a = v % 256 := by
  simp [memGet, memPut]

/-- A write of one byte leaves every other byte alone. -/
theorem memGet_memPut_other (m : List Host.Cell) (a b v : Nat) (h : b ≠ a) : memGet (memPut m a v) b = memGet m b := by
  simp only [memGet, memPut]
  rw [Sparse.get_put_other _ _ _ _ _ _ h]

/-- A write of bytes leaves every byte outside them alone. -/
theorem memGet_memWrite_other (m : List Host.Cell) (a b : Nat) (bs : List Nat) (h : b < a ∨ a + bs.length ≤ b) :
    memGet (memWrite m a bs) b = memGet m b := by
  induction bs generalizing m a with
  | nil => rfl
  | cons x bs ih =>
    simp only [List.length_cons] at h
    simp only [memWrite]
    rw [ih _ _ (by omega), memGet_memPut_other _ _ _ _ (by omega)]

/-! ## Filters and folds of insertions -/

theorem Sparse.find?_above {b k : Nat} {m : Sparse α} (h : Sparse.above b m = true) (hk : k < b) : m.find? k = none := by
  induction m generalizing b with
  | nil => rfl
  | cons e m ih =>
    obtain ⟨j, v⟩ := e
    simp only [Sparse.above, Bool.and_eq_true, decide_eq_true_eq] at h
    simp only [Sparse.find?]
    rw [if_neg (by omega), ih h.2 (by omega)]

theorem Sparse.find?_foldl_ins {b k : Nat} {l : Sparse α} (m : Sparse α) (h : Sparse.above b l = true) :
    (l.foldl (fun m e => m.ins e.1 e.2) m).find? k = (l.find? k).or (m.find? k) := by
  induction l generalizing b m with
  | nil => rfl
  | cons e l ih =>
    obtain ⟨j, v⟩ := e
    simp only [Sparse.above, Bool.and_eq_true, decide_eq_true_eq] at h
    rw [List.foldl_cons, ih _ h.2, Sparse.find?_ins]
    simp only [Sparse.find?]
    by_cases e : k = j
    · subst e
      rw [Sparse.find?_above h.2 (by omega)]; simp
    · simp [e]

theorem Sparse.find?_filter {k : Nat} {l : Sparse α} {v : α} {p : Nat × α → Bool} (h : l.find? k = some v) (hp : p (k, v) = true) :
    Sparse.find? (List.filter p l) k = some v := by
  induction l with
  | nil => cases h
  | cons e l ih =>
    obtain ⟨j, w⟩ := e
    simp only [Sparse.find?] at h
    split at h
    · rename_i e; subst e; cases h
      rw [List.filter_cons_of_pos hp]; simp [Sparse.find?]
    · rename_i e
      rw [List.filter_cons]; split
      · simp only [Sparse.find?]; rw [if_neg e]; exact ih h
      · exact ih h

theorem Sparse.find?_filter_neg {b k : Nat} {l : Sparse α} {v : α} {p : Nat × α → Bool} (w : Sparse.above b l = true) (h : l.find? k = some v)
    (hp : p (k, v) = false) : Sparse.find? (List.filter p l) k = none := by
  induction l generalizing b with
  | nil => cases h
  | cons e l ih =>
    obtain ⟨j, w'⟩ := e
    simp only [Sparse.above, Bool.and_eq_true, decide_eq_true_eq] at w
    simp only [Sparse.find?] at h
    split at h
    · rename_i e; subst e; cases h
      rw [List.filter_cons_of_neg (by simp [hp])]
      exact Sparse.find?_above (Sparse.above_filter w.2) (by omega)
    · rename_i e
      rw [List.filter_cons]; split
      · simp only [Sparse.find?]; rw [if_neg e]; exact ih w.2 h
      · exact ih w.2 h

theorem Sparse.find?_put_other [DecidableEq α] (m : Sparse α) {k j : Nat} (v d : α) (h : j ≠ k) : (m.put k v d).find? j = m.find? j := by
  unfold Sparse.put; split <;> simp [h]

end Sys2Proof.Machine
end

