-- ==== Sys2Proof/Laws/KeepOps.lean ====
section
/-! SUPPORT. What each shared operation and each meaning keeps: one lemma per function, its mask naming the parts of the state that it may
change (bit numbers: StPart.bit). -/

namespace Sys2Proof.Laws

open Sys2Proof Sys2Proof.Machine

theorem keep_State_bump {k : Nat} {a : State} {s : State} {c : Ctr} {n : optParam Nat 1} {i : optParam Nat 0} {b : optParam Nat 0}
    (hk : Sub 17179869184 k) (h : Keeps k a s) : Keeps k a (State.bump s c n i b) := by
  unfold State.bump
  repeat' first
    | with_reducible assumption
    | ((with_reducible refine Sub.of hk ?_); rfl)
    | exact Keeps.build 17179869184 (hk.of rfl) (by assumption) (by rfl) (by rfl) (by exact fun p hp => by cases p <;> first | exact absurd hp (by decide) | rfl) (by exact List.suffix_refl _) (by exact grown_refl _) (by exact id) (by
        rintro ⟨⟨⟨⟨v, w⟩, x, y⟩, z⟩, b0, b1⟩
        refine ⟨⟨⟨⟨?_, ?_⟩, ?_, ?_⟩, ?_⟩, ?_, ?_⟩ <;>
          repeat' first
            | assumption
            | exact Sparse.wf_nil
            | with_reducible refine Sparse.wf_put ?_
            | with_reducible refine Sparse.wf_ins ?_
            | with_reducible refine Sparse.wf_del ?_
            | with_reducible refine Sparse.wf_keep ?_
            | with_reducible refine Sparse.wf_filter ?_
            | with_reducible refine Sparse.wf_foldl_ins ?_
            | split)

theorem keep_State_emit {k : Nat} {a : State} {s : State} {o : Out}
    (hk : Sub 8589934592 k) (h : Keeps k a s) : Keeps k a (State.emit s o) := by
  unfold State.emit
  repeat' first
    | with_reducible assumption
    | ((with_reducible refine Sub.of hk ?_); rfl)
    | exact Keeps.build 8589934592 (hk.of rfl) (by assumption) (by rfl) (by rfl) (by exact fun p hp => by cases p <;> first | exact absurd hp (by decide) | rfl) (by first | exact List.suffix_refl _ | exact List.suffix_cons _ _) (by exact grown_refl _) (by exact id) (by exact id)

theorem keep_State_wr {k : Nat} {a : State} {s : State} {F : Fld} {v : Nat} {i : optParam Nat 0} {b : optParam Nat 0}
    (hk : Sub 2 k) (h : Keeps k a s) : Keeps k a (State.wr s F v i b) := by
  unfold State.wr
  repeat' first
    | with_reducible assumption
    | ((with_reducible refine Sub.of hk ?_); rfl)
    | exact Keeps.build 2 (hk.of rfl) (by assumption) (by rfl) (by rfl) (by exact fun p hp => by cases p <;> first | exact absurd hp (by decide) | rfl) (by exact List.suffix_refl _) (by exact grown_refl _) (by exact id) (by
        rintro ⟨⟨⟨⟨v, w⟩, x, y⟩, z⟩, b0, b1⟩
        refine ⟨⟨⟨⟨?_, ?_⟩, ?_, ?_⟩, ?_⟩, ?_, ?_⟩ <;>
          repeat' first
            | assumption
            | exact Sparse.wf_nil
            | with_reducible refine Sparse.wf_put ?_
            | with_reducible refine Sparse.wf_ins ?_
            | with_reducible refine Sparse.wf_del ?_
            | with_reducible refine Sparse.wf_keep ?_
            | with_reducible refine Sparse.wf_filter ?_
            | with_reducible refine Sparse.wf_foldl_ins ?_
            | split)

theorem keep_State_wbit {k : Nat} {a : State} {s : State} {F : Fld} {k' : Nat} {v : Bool} {b : optParam Nat 0}
    (hk : Sub 2 k) (h : Keeps k a s) : Keeps k a (State.wbit s F k' v b) := by
  unfold State.wbit
  repeat' first
    | with_reducible assumption
    | ((with_reducible refine Sub.of hk ?_); rfl)
    | with_reducible refine keep_State_wr ?_ ?_

theorem keep_State_wr64 {k : Nat} {a : State} {s : State} {L : Fld} {H : Fld} {v : Nat} {i : optParam Nat 0}
    (hk : Sub 2 k) (h : Keeps k a s) : Keeps k a (State.wr64 s L H v i) := by
  unfold State.wr64
  repeat' first
    | with_reducible assumption
    | ((with_reducible refine Sub.of hk ?_); rfl)
    | with_reducible refine keep_State_wr ?_ ?_

theorem keep_setQp {k : Nat} {a : State} {s : State} {i : Nat} {q : Qp}
    (hk : Sub 536870912 k) (h : Keeps k a s) : Keeps k a (setQp s i q) := by
  unfold setQp
  repeat' first
    | with_reducible assumption
    | ((with_reducible refine Sub.of hk ?_); rfl)
    | (refine Keeps.xpt (hk.bits 29 rfl) ?_; first | with_reducible assumption)

theorem keep_modQp {k : Nat} {a : State} {s : State} {i : Nat} {f : Qp → Qp}
    (hk : Sub 536870912 k) (h : Keeps k a s) : Keeps k a (modQp s i f) := by
  unfold modQp
  repeat' first
    | with_reducible assumption
    | ((with_reducible refine Sub.of hk ?_); rfl)
    | with_reducible refine keep_setQp ?_ ?_

theorem keep_backTokens {k : Nat} {a : State} {s : State} {n : Nat}
    (hk : Sub 2 k) (h : Keeps k a s) : Keeps k a (backTokens s n) := by
  unfold backTokens
  repeat' first
    | with_reducible assumption
    | ((with_reducible refine Sub.of hk ?_); rfl)
    | with_reducible refine keep_State_wr ?_ ?_

theorem keep_setReq {k : Nat} {a : State} {s : State} {r : Req}
    (hk : Sub 536870912 k) (h : Keeps k a s) : Keeps k a (setReq s r) := by
  unfold setReq
  repeat' first
    | with_reducible assumption
    | ((with_reducible refine Sub.of hk ?_); rfl)
    | (refine Keeps.xpt (hk.bits 29 rfl) ?_; first | with_reducible assumption)

theorem keep_notifyOne {k : Nat} {a : State} {s : State} {n : Nat} {r : EvRec}
    (hk : Sub 25769803904 k) (h : Keeps k a s) : Keeps k a (notifyOne s n r) := by
  unfold notifyOne
  repeat' first
    | with_reducible assumption
    | ((with_reducible refine Sub.of hk ?_); rfl)
    | with_reducible refine keep_State_bump ?_ ?_
    | with_reducible refine keep_State_emit ?_ ?_
    | with_reducible refine Keeps.branch ?_ ?_
    | split
    | (refine Keeps.recd (hk.bits 7 rfl) ?_; first | with_reducible assumption | with_reducible refine keep_State_bump ?_ ?_ | with_reducible refine keep_State_emit ?_ ?_)

theorem keep_record {k : Nat} {a : State} {s : State} {code : Nat} {payload : List Nat} {summary : Bool} {named : List Nat} {sev : Nat}
    (hk : Sub 25769803904 k) (h : Keeps k a s) : Keeps k a (record s code payload summary named sev) := by
  unfold record
  repeat' first
    | with_reducible assumption
    | ((with_reducible refine Sub.of hk ?_); rfl)
    | intro _
    | with_reducible refine keep_notifyOne ?_ ?_
    | (with_reducible refine Keeps.foldl ?_ ?_)
    | (refine Keeps.recd (hk.bits 7 rfl) ?_; with_reducible assumption)

theorem keep_occur {k : Nat} {a : State} {s : State} {code : Nat} {payload : List Nat} {named : List Nat} {sev : optParam Nat (severity code)}
    (hk : Sub 25769803904 k) (h : Keeps k a s) : Keeps k a (occur s code payload named sev) := by
  unfold occur
  repeat' first
    | with_reducible assumption
    | ((with_reducible refine Sub.of hk ?_); rfl)
    | with_reducible refine keep_record ?_ ?_
    | with_reducible refine Keeps.branch ?_ ?_
    | (refine Keeps.recd (hk.bits 7 rfl) ?_; with_reducible assumption)

theorem keep_raiseTo {k : Nat} {a : State} {s : State} {code : Nat} {payload : List Nat} {named : List Nat} {sev : optParam Nat (severity code)}
    (hk : Sub 25769803904 k) (h : Keeps k a s) : Keeps k a (raiseTo s code payload named sev) := by
  unfold raiseTo
  repeat' first
    | with_reducible assumption
    | ((with_reducible refine Sub.of hk ?_); rfl)
    | with_reducible refine keep_occur ?_ ?_
    | with_reducible refine Keeps.branch ?_ ?_

theorem keep_raise {k : Nat} {a : State} {s : State} {code : Nat} {payload : List Nat}
    (hk : Sub 25769803904 k) (h : Keeps k a s) : Keeps k a (raise s code payload) := by
  unfold raise
  repeat' first
    | with_reducible assumption
    | ((with_reducible refine Sub.of hk ?_); rfl)
    | with_reducible refine keep_raiseTo ?_ ?_

theorem keep_accessFailed {k : Nat} {a : State} {s : State} {r : Req} {cause : Nat}
    (hk : Sub 26306674818 k) (h : Keeps k a s) : Keeps k a (accessFailed s r cause) := by
  unfold accessFailed
  repeat' first
    | with_reducible assumption
    | ((with_reducible refine Sub.of hk ?_); rfl)
    | with_reducible refine keep_modQp ?_ ?_
    | with_reducible refine keep_backTokens ?_ ?_
    | with_reducible refine keep_setReq ?_ ?_
    | with_reducible refine keep_raiseTo ?_ ?_
    | with_reducible refine keep_State_bump ?_ ?_
    | with_reducible refine keep_raise ?_ ?_
    | with_reducible refine Keeps.branch ?_ ?_

theorem keep_txPacket {k : Nat} {a : State} {s : State} {l : Nat} {cls : Nat} {qp : Nat} {o : Out}
    (hk : Sub 26843545600 k) (h : Keeps k a s) : Keeps k a (txPacket s l cls qp o) := by
  unfold txPacket
  repeat' first
    | with_reducible assumption
    | ((with_reducible refine Sub.of hk ?_); rfl)
    | with_reducible refine keep_State_bump ?_ ?_
    | with_reducible refine keep_State_emit ?_ ?_
    | with_reducible refine Keeps.branch ?_ ?_
    | (refine Keeps.prt (hk.bits 30 rfl) ?_; with_reducible assumption)

theorem keep_sendPkt {k : Nat} {a : State} {s : State} {i : Nat} {opcode : Nat} {psn : Nat} {syndrome : Nat} {payload : List Nat}
    (hk : Sub 26843545600 k) (h : Keeps k a s) : Keeps k a (sendPkt s i opcode psn syndrome payload) := by
  unfold sendPkt
  repeat' first
    | with_reducible assumption
    | ((with_reducible refine Sub.of hk ?_); rfl)
    | with_reducible refine keep_State_bump ?_ ?_
    | with_reducible refine keep_txPacket ?_ ?_
    | with_reducible refine Keeps.branch ?_ ?_

theorem keep_sendAck {k : Nat} {a : State} {s : State} {i : Nat} {psn : Nat}
    (hk : Sub 27380416512 k) (h : Keeps k a s) : Keeps k a (sendAck s i psn) := by
  unfold sendAck
  repeat' first
    | with_reducible assumption
    | ((with_reducible refine Sub.of hk ?_); rfl)
    | with_reducible refine keep_modQp ?_ ?_
    | with_reducible refine keep_sendPkt ?_ ?_
    | (refine Keeps.xpt (hk.bits 29 rfl) ?_; first | with_reducible assumption | with_reducible refine keep_modQp ?_ ?_ | with_reducible refine keep_sendPkt ?_ ?_)

theorem keep_ackDue {k : Nat} {a : State} {s : State} {i : Nat} {due : Bool}
    (hk : Sub 27380416512 k) (h : Keeps k a s) : Keeps k a (ackDue s i due) := by
  unfold ackDue
  repeat' first
    | with_reducible assumption
    | ((with_reducible refine Sub.of hk ?_); rfl)
    | with_reducible refine keep_sendAck ?_ ?_
    | with_reducible refine Keeps.branch ?_ ?_

theorem keep_sendFlit {k : Nat} {a : State} {s : State} {typ : Nat} {seq : Nat} {first : Nat} {slots : List Nat}
    (hk : Sub 27917287424 k) (h : Keeps k a s) : Keeps k a (sendFlit s typ seq first slots) := by
  unfold sendFlit
  repeat' first
    | with_reducible assumption
    | ((with_reducible refine Sub.of hk ?_); rfl)
    | with_reducible refine keep_State_emit ?_ ?_
    | with_reducible refine keep_State_bump ?_ ?_
    | (refine Keeps.twn (hk.bits 31 rfl) ?_; first | with_reducible assumption | with_reducible refine keep_State_emit ?_ ?_ | with_reducible refine keep_State_bump ?_ ?_)

theorem keep_resendFlits {k : Nat} {a : State} {s : State}
    (hk : Sub 27917287424 k) (h : Keeps k a s) : Keeps k a (resendFlits s) := by
  unfold resendFlits
  repeat' first
    | with_reducible assumption
    | ((with_reducible refine Sub.of hk ?_); rfl)
    | intro _
    | with_reducible refine keep_sendFlit ?_ ?_
    | (with_reducible refine Keeps.foldl ?_ ?_)

theorem keep_clearLink {k : Nat} {a : State} {s : State}
    (hk : Sub 2147483648 k) (h : Keeps k a s) : Keeps k a (clearLink s) := by
  unfold clearLink
  repeat' first
    | with_reducible assumption
    | ((with_reducible refine Sub.of hk ?_); rfl)
    | (refine Keeps.twn (hk.bits 31 rfl) ?_; first | with_reducible assumption)

theorem keep_showFar {k : Nat} {a : State} {s : State} {n : Nat}
    (hk : Sub 2 k) (h : Keeps k a s) : Keeps k a (showFar s n) := by
  unfold showFar
  repeat' first
    | with_reducible assumption
    | ((with_reducible refine Sub.of hk ?_); rfl)
    | with_reducible refine keep_State_wr ?_ ?_

theorem keep_farAsk {k : Nat} {a : State} {s : State} {owner : Nat} {n : Nat}
    (hk : Sub 33554434 k) (h : Keeps k a s) : Keeps k a (farAsk s owner n) := by
  unfold farAsk
  repeat' first
    | with_reducible assumption
    | ((with_reducible refine Sub.of hk ?_); rfl)
    | with_reducible refine keep_showFar ?_ ?_
    | with_reducible refine Keeps.branch ?_ ?_
    | (refine Keeps.far (hk.bits 25 rfl) ?_; with_reducible assumption)

theorem keep_farAskNext {k : Nat} {a : State} {x : Nat} {x' : Nat} {x'' : State}
    (hk : Sub 33554434 k) (h : Keeps k a x'') : Keeps k a (farAskNext x x' x'') := by
  induction x generalizing x' x'' with
  | zero => exact h
  | succ n ih =>
    unfold farAskNext
    split
    · exact h
    · split
      · exact Keeps.far (hk.bits 25 rfl) h
      · exact ih (keep_farAsk (hk.of rfl) (Keeps.far (hk.bits 25 rfl) h))

theorem keep_farGrant {k : Nat} {a : State} {s : State} {n : Nat}
    (hk : Sub 33554434 k) (h : Keeps k a s) : Keeps k a (farGrant s n) := by
  unfold farGrant
  repeat' first
    | with_reducible assumption
    | ((with_reducible refine Sub.of hk ?_); rfl)
    | with_reducible refine keep_farAskNext ?_ ?_
    | with_reducible refine keep_showFar ?_ ?_
    | split
    | (refine Keeps.far (hk.bits 25 rfl) ?_; with_reducible assumption)

theorem keep_farDrop {k : Nat} {a : State} {s : State} {owner : Nat}
    (hk : Sub 33554434 k) (h : Keeps k a s) : Keeps k a (farDrop s owner) := by
  unfold farDrop
  repeat' first
    | with_reducible assumption
    | ((with_reducible refine Sub.of hk ?_); rfl)
    | intro _
    | with_reducible refine keep_farGrant ?_ ?_
    | (with_reducible refine Keeps.foldl ?_ ?_)
    | (refine Keeps.far (hk.bits 25 rfl) ?_; with_reducible assumption)

theorem keep_dropLanes {k : Nat} {a : State} {s : State}
    (hk : Sub 33554434 k) (h : Keeps k a s) : Keeps k a (dropLanes s) := by
  unfold dropLanes
  repeat' first
    | with_reducible assumption
    | ((with_reducible refine Sub.of hk ?_); rfl)
    | intro _
    | with_reducible refine keep_farDrop ?_ ?_
    | (with_reducible refine Keeps.foldl ?_ ?_)
    | with_reducible refine Keeps.branch ?_ ?_

theorem keep_visilDown {k : Nat} {a : State} {s : State}
    (hk : Sub 2181038082 k) (h : Keeps k a s) : Keeps k a (visilDown s) := by
  unfold visilDown
  repeat' first
    | with_reducible assumption
    | ((with_reducible refine Sub.of hk ?_); rfl)
    | with_reducible refine keep_clearLink ?_ ?_
    | with_reducible refine keep_State_wr ?_ ?_
    | with_reducible refine keep_dropLanes ?_ ?_
    | (refine Keeps.twn (hk.bits 31 rfl) ?_; first | with_reducible assumption | with_reducible refine keep_clearLink ?_ ?_ | with_reducible refine keep_State_wr ?_ ?_ | with_reducible refine keep_dropLanes ?_ ?_)

theorem keep_showPend {k : Nat} {a : State} {s : State}
    (hk : Sub 2 k) (h : Keeps k a s) : Keeps k a (showPend s) := by
  unfold showPend
  repeat' first
    | with_reducible assumption
    | ((with_reducible refine Sub.of hk ?_); rfl)
    | with_reducible refine keep_State_wr ?_ ?_

theorem keep_setCmd {k : Nat} {a : State} {s : State} {e : Nat} {c : CmdStat}
    (hk : Sub 256 k) (h : Keeps k a s) : Keeps k a (setCmd s e c) := by
  unfold setCmd
  repeat' first
    | with_reducible assumption
    | ((with_reducible refine Sub.of hk ?_); rfl)
    | (refine Keeps.dic (hk.bits 8 rfl) ?_; first | with_reducible assumption)

theorem keep_cmdFail {k : Nat} {a : State} {s : State} {e : Nat} {code : Nat}
    (hk : Sub 256 k) (h : Keeps k a s) : Keeps k a (cmdFail s e code) := by
  unfold cmdFail
  repeat' first
    | with_reducible assumption
    | ((with_reducible refine Sub.of hk ?_); rfl)
    | with_reducible refine keep_setCmd ?_ ?_

theorem keep_cmdFailFree {k : Nat} {a : State} {s : State} {e : Nat}
    (hk : Sub 256 k) (h : Keeps k a s) : Keeps k a (cmdFailFree s e) := by
  unfold cmdFailFree
  repeat' first
    | with_reducible assumption
    | ((with_reducible refine Sub.of hk ?_); rfl)
    | with_reducible refine keep_cmdFail ?_ ?_

theorem keep_twinGone {k : Nat} {a : State} {s : State}
    (hk : Sub 2147483906 k) (h : Keeps k a s) : Keeps k a (twinGone s) := by
  unfold twinGone
  repeat' first
    | with_reducible assumption
    | ((with_reducible refine Sub.of hk ?_); rfl)
    | with_reducible refine keep_showPend ?_ ?_
    | with_reducible refine keep_cmdFailFree ?_ ?_
    | with_reducible refine keep_State_wr ?_ ?_
    | with_reducible refine Keeps.branch ?_ ?_
    | (refine Keeps.twn (hk.bits 31 rfl) ?_; with_reducible assumption)

theorem keep_showHopper {k : Nat} {a : State} {s : State}
    (hk : Sub 2 k) (h : Keeps k a s) : Keeps k a (showHopper s) := by
  unfold showHopper
  repeat' first
    | with_reducible assumption
    | ((with_reducible refine Sub.of hk ?_); rfl)
    | with_reducible refine keep_State_wr ?_ ?_

theorem keep_drainHopper {k : Nat} {a : State} {s : State}
    (hk : Sub 2097154 k) (h : Keeps k a s) : Keeps k a (drainHopper s) := by
  unfold drainHopper
  repeat' first
    | with_reducible assumption
    | ((with_reducible refine Sub.of hk ?_); rfl)
    | with_reducible refine keep_showHopper ?_ ?_
    | (refine Keeps.trn (hk.bits 21 rfl) ?_; with_reducible assumption)

theorem keep_hopWrite {k : Nat} {a : State} {s : State} {a' : Nat}
    (hk : Sub 25771901058 k) (h : Keeps k a s) : Keeps k a (hopWrite s a') := by
  unfold hopWrite
  repeat' first
    | with_reducible assumption
    | ((with_reducible refine Sub.of hk ?_); rfl)
    | with_reducible refine keep_showHopper ?_ ?_
    | with_reducible refine keep_drainHopper ?_ ?_
    | with_reducible refine keep_State_bump ?_ ?_
    | with_reducible refine keep_raise ?_ ?_
    | with_reducible refine Keeps.branch ?_ ?_
    | (refine Keeps.trn (hk.bits 21 rfl) ?_; with_reducible assumption)

theorem keep_countDirty {k : Nat} {a : State} {s : State} {old : Bool} {new : Bool}
    (hk : Sub 2 k) (h : Keeps k a s) : Keeps k a (countDirty s old new) := by
  unfold countDirty
  repeat' first
    | with_reducible assumption
    | ((with_reducible refine Sub.of hk ?_); rfl)
    | with_reducible refine keep_State_wr ?_ ?_
    | with_reducible refine Keeps.branch ?_ ?_

theorem keep_dirtyPage {k : Nat} {a : State} {x : Nat} {x' : Nat} {x'' : State}
    (hk : Sub 25772425346 k) (h : Keeps k a x'') : Keeps k a (dirtyPage x x' x'') := by
  induction x generalizing x' x'' with
  | zero => exact h
  | succ n ih =>
    unfold dirtyPage
    dsimp only
    split
    · exact h
    · exact ih (keep_hopWrite (hk.of rfl) (keep_countDirty (hk.of rfl) (Keeps.maps (hk.bits 19 rfl) h)))

theorem keep_logTouch {k : Nat} {a : State} {off : Nat} {s : State}
    (hk : Sub 25772425346 k) (h : Keeps k a s) : Keeps k a (logTouch off s) := by
  unfold logTouch
  repeat' first
    | with_reducible assumption
    | ((with_reducible refine Sub.of hk ?_); rfl)
    | with_reducible refine keep_dirtyPage ?_ ?_
    | with_reducible refine Keeps.branch ?_ ?_

theorem keep_setTState {k : Nat} {a : State} {s : State} {n : Nat}
    (hk : Sub 25773473922 k) (h : Keeps k a s) : Keeps k a (setTState s n) := by
  unfold setTState
  repeat' first
    | with_reducible assumption
    | ((with_reducible refine Sub.of hk ?_); rfl)
    | with_reducible refine keep_logTouch ?_ ?_
    | with_reducible refine keep_raise ?_ ?_
    | with_reducible refine keep_State_wr ?_ ?_
    | with_reducible refine Keeps.branch ?_ ?_
    | (refine Keeps.log (hk.bits 20 rfl) ?_; first | with_reducible assumption | with_reducible refine keep_logTouch ?_ ?_ | with_reducible refine keep_raise ?_ ?_ | with_reducible refine keep_State_wr ?_ ?_)

theorem keep_unpair {k : Nat} {a : State} {s : State}
    (hk : Sub 27954512258 k) (h : Keeps k a s) : Keeps k a (unpair s) := by
  unfold unpair
  repeat' first
    | with_reducible assumption
    | ((with_reducible refine Sub.of hk ?_); rfl)
    | with_reducible refine keep_State_wr ?_ ?_
    | with_reducible refine keep_twinGone ?_ ?_
    | with_reducible refine keep_visilDown ?_ ?_
    | with_reducible refine keep_setTState ?_ ?_

theorem keep_setRole {k : Nat} {a : State} {s : State} {r : Nat}
    (hk : Sub 25773473922 k) (h : Keeps k a s) : Keeps k a (setRole s r) := by
  unfold setRole
  repeat' first
    | with_reducible assumption
    | ((with_reducible refine Sub.of hk ?_); rfl)
    | with_reducible refine keep_logTouch ?_ ?_
    | with_reducible refine keep_State_wr ?_ ?_
    | with_reducible refine Keeps.branch ?_ ?_
    | (refine Keeps.log (hk.bits 20 rfl) ?_; with_reducible assumption)

theorem keep_showLanes {k : Nat} {a : State} {s : State} {p : Nat}
    (hk : Sub 2 k) (h : Keeps k a s) : Keeps k a (showLanes s p) := by
  unfold showLanes
  repeat' first
    | with_reducible assumption
    | ((with_reducible refine Sub.of hk ?_); rfl)
    | with_reducible refine keep_State_wr ?_ ?_

theorem keep_linkDown {k : Nat} {a : State} {s : State} {l : Nat} {cause : Nat}
    (hk : Sub 26843545730 k) (h : Keeps k a s) : Keeps k a (linkDown s l cause) := by
  unfold linkDown
  repeat' first
    | with_reducible assumption
    | ((with_reducible refine Sub.of hk ?_); rfl)
    | with_reducible refine keep_State_wbit ?_ ?_
    | with_reducible refine keep_raise ?_ ?_
    | with_reducible refine keep_showLanes ?_ ?_
    | (refine Keeps.prt (hk.bits 30 rfl) ?_; with_reducible assumption)

theorem keep_twinWritePending {k : Nat} {a : State} {s : State}
    (hk : Sub 1048576 k) (h : Keeps k a s) : Keeps k a (twinWritePending s) := by
  unfold twinWritePending
  repeat' first
    | with_reducible assumption
    | ((with_reducible refine Sub.of hk ?_); rfl)
    | (refine Keeps.log (hk.bits 20 rfl) ?_; first | with_reducible assumption)

theorem keep_reportEnds {k : Nat} {a : State} {s : State}
    (hk : Sub 25769803904 k) (h : Keeps k a s) : Keeps k a (reportEnds s) := by
  unfold reportEnds
  repeat' first
    | with_reducible assumption
    | ((with_reducible refine Sub.of hk ?_); rfl)
    | intro _
    | with_reducible refine keep_raise ?_ ?_
    | (with_reducible refine Keeps.foldl ?_ ?_)
    | with_reducible refine Keeps.branch ?_ ?_

theorem keep_setDrc {k : Nat} {a : State} {s : State} {c : Nat} {d : DrcSt}
    (hk : Sub 8388608 k) (h : Keeps k a s) : Keeps k a (setDrc s c d) := by
  unfold setDrc
  repeat' first
    | with_reducible assumption
    | ((with_reducible refine Sub.of hk ?_); rfl)
    | (refine Keeps.drc (hk.bits 23 rfl) ?_; first | with_reducible assumption)

theorem keep_bankAccess {k : Nat} {a : State} {s : State} {c : Nat} {b : Burst}
    (hk : Sub 17188257794 k) (h : Keeps k a s) : Keeps k a (bankAccess s c b) := by
  unfold bankAccess
  repeat' first
    | with_reducible assumption
    | ((with_reducible refine Sub.of hk ?_); rfl)
    | with_reducible refine keep_setDrc ?_ ?_
    | with_reducible refine keep_State_wbit ?_ ?_
    | with_reducible refine keep_State_bump ?_ ?_
    | with_reducible refine Keeps.branch ?_ ?_

theorem keep_lineAccess {k : Nat} {a : State} {s : State} {l : Nat}
    (hk : Sub 17188257794 k) (h : Keeps k a s) : Keeps k a (lineAccess s l) := by
  unfold lineAccess
  repeat' first
    | with_reducible assumption
    | ((with_reducible refine Sub.of hk ?_); rfl)
    | with_reducible refine keep_bankAccess ?_ ?_

theorem keep_drainWrites {k : Nat} {a : State} {s : State}
    (hk : Sub 17192452098 k) (h : Keeps k a s) : Keeps k a (drainWrites s) := by
  unfold drainWrites
  repeat' first
    | with_reducible assumption
    | ((with_reducible refine Sub.of hk ?_); rfl)
    | intro _
    | with_reducible refine keep_lineAccess ?_ ?_
    | (with_reducible refine Keeps.foldl ?_ ?_)
    | (refine Keeps.dram (hk.bits 22 rfl) ?_ (by first | exact fun g => Memory.wf_memZero g | exact fun g => Memory.wf_memWrite g | exact fun g => Memory.wf_memPaste g | exact id | exact fun _ => rfl); with_reducible assumption)

theorem keep_setBkp {k : Nat} {a : State} {s : State} {n : Nat} {v : Nat}
    (hk : Sub 64 k) (h : Keeps k a s) : Keeps k a (setBkp s n v) := by
  unfold setBkp
  repeat' first
    | with_reducible assumption
    | ((with_reducible refine Sub.of hk ?_); rfl)
    | (refine Keeps.tack (hk.bits 6 rfl) ?_; first | with_reducible assumption)

theorem keep_showCause {k : Nat} {a : State} {s : State} {q : ResetReq}
    (hk : Sub 66 k) (h : Keeps k a s) : Keeps k a (showCause s q) := by
  unfold showCause
  repeat' first
    | with_reducible assumption
    | ((with_reducible refine Sub.of hk ?_); rfl)
    | with_reducible refine keep_setBkp ?_ ?_
    | with_reducible refine keep_State_wr ?_ ?_

theorem keep_snapshot {k : Nat} {a : State} {s : State} {cause : Nat} {rail : Nat}
    (hk : Sub 17179869248 k) (h : Keeps k a s) : Keeps k a (snapshot s cause rail) := by
  unfold snapshot
  repeat' first
    | with_reducible assumption
    | ((with_reducible refine Sub.of hk ?_); rfl)
    | with_reducible refine keep_State_bump ?_ ?_
    | with_reducible refine keep_setBkp ?_ ?_
    | (refine Keeps.tack (hk.bits 6 rfl) ?_; with_reducible assumption)

theorem keep_historyRecord {k : Nat} {a : State} {s : State} {q : ResetReq}
    (hk : Sub 64 k) (h : Keeps k a s) : Keeps k a (historyRecord s q) := by
  unfold historyRecord
  repeat' first
    | with_reducible assumption
    | ((with_reducible refine Sub.of hk ?_); rfl)
    | with_reducible refine keep_setBkp ?_ ?_
    | (refine Keeps.tack (hk.bits 6 rfl) ?_; with_reducible assumption)

theorem keep_recordReset {k : Nat} {a : State} {s : State} {q : ResetReq}
    (hk : Sub 25769803970 k) (h : Keeps k a s) : Keeps k a (recordReset s q) := by
  unfold recordReset
  repeat' first
    | with_reducible assumption
    | ((with_reducible refine Sub.of hk ?_); rfl)
    | with_reducible refine keep_showCause ?_ ?_
    | with_reducible refine keep_State_bump ?_ ?_
    | with_reducible refine keep_snapshot ?_ ?_
    | with_reducible refine keep_setBkp ?_ ?_
    | with_reducible refine keep_historyRecord ?_ ?_
    | with_reducible refine keep_raise ?_ ?_
    | with_reducible refine keep_State_wr ?_ ?_
    | with_reducible refine Keeps.branch ?_ ?_

theorem keep_optGaitRows {k : Nat} {a : State} {s : State}
    (hk : Sub 25769803906 k) (h : Keeps k a s) : Keeps k a (optGaitRows s) := by
  unfold optGaitRows
  repeat' first
    | with_reducible assumption
    | ((with_reducible refine Sub.of hk ?_); rfl)
    | intro _
    | with_reducible refine keep_raise ?_ ?_
    | with_reducible refine keep_State_wr ?_ ?_
    | (with_reducible refine Keeps.foldl ?_ ?_)
    | split

theorem keep_seqReport {k : Nat} {a : State} {s : State} {bad : Option (Nat × Nat × Nat)}
    (hk : Sub 25769803906 k) (h : Keeps k a s) : Keeps k a (seqReport s bad) := by
  unfold seqReport
  repeat' first
    | with_reducible assumption
    | ((with_reducible refine Sub.of hk ?_); rfl)
    | with_reducible refine keep_raise ?_ ?_
    | with_reducible refine keep_State_wr ?_ ?_
    | split

theorem keep_optSeqTables {k : Nat} {a : State} {s : State}
    (hk : Sub 25769803906 k) (h : Keeps k a s) : Keeps k a (optSeqTables s) := by
  unfold optSeqTables
  repeat' first
    | with_reducible assumption
    | ((with_reducible refine Sub.of hk ?_); rfl)
    | intro _
    | with_reducible refine keep_State_wr ?_ ?_
    | with_reducible refine keep_seqReport ?_ ?_
    | (with_reducible refine Keeps.foldl ?_ ?_)
    | split

theorem keep_optApplyOne {k : Nat} {a : State} {lvl : Nat} {aon : Bool} {s : State} {p : Nat × Nat}
    (hk : Sub 25769803906 k) (h : Keeps k a s) : Keeps k a (optApplyOne lvl aon s p) := by
  unfold optApplyOne
  repeat' first
    | with_reducible assumption
    | ((with_reducible refine Sub.of hk ?_); rfl)
    | intro _
    | with_reducible refine keep_raise ?_ ?_
    | with_reducible refine keep_State_wr ?_ ?_
    | (with_reducible refine Keeps.foldl ?_ ?_)
    | with_reducible refine Keeps.branch ?_ ?_

theorem keep_applyOptions {k : Nat} {a : State} {s : State} {lvl : Nat} {aon : Bool}
    (hk : Sub 25769820290 k) (h : Keeps k a s) : Keeps k a (applyOptions s lvl aon) := by
  unfold applyOptions
  repeat' first
    | with_reducible assumption
    | ((with_reducible refine Sub.of hk ?_); rfl)
    | intro _
    | (extract_lets +onlyGivenNames t
       first
       | (refine Keeps.have_ (k := k) (a := a) (t := t) ?_ ?_; unfold t; clear t; rotate_left; intro _; clear_value t; revert t; intros)
       | (clear_value t; revert t; intros))
    | with_reducible refine keep_optGaitRows ?_ ?_
    | with_reducible refine keep_optSeqTables ?_ ?_
    | with_reducible refine keep_optApplyOne ?_ ?_
    | with_reducible refine keep_raise ?_ ?_
    | with_reducible refine keep_State_wr ?_ ?_
    | (with_reducible refine Keeps.foldl ?_ ?_)
    | split
    | (refine Keeps.kpf (hk.bits 14 rfl) ?_; with_reducible assumption)

theorem keep_showUpdate {k : Nat} {a : State} {s : State}
    (hk : Sub 2 k) (h : Keeps k a s) : Keeps k a (showUpdate s) := by
  unfold showUpdate
  repeat' first
    | with_reducible assumption
    | ((with_reducible refine Sub.of hk ?_); rfl)
    | with_reducible refine keep_State_wr ?_ ?_
    | with_reducible refine keep_State_wr64 ?_ ?_

theorem keep_readSfdp {k : Nat} {a : State} {s : State}
    (hk : Sub 25769820290 k) (h : Keeps k a s) : Keeps k a (readSfdp s) := by
  unfold readSfdp
  repeat' first
    | with_reducible assumption
    | ((with_reducible refine Sub.of hk ?_); rfl)
    | with_reducible refine keep_raise ?_ ?_
    | with_reducible refine keep_State_wr ?_ ?_
    | with_reducible refine Keeps.branch ?_ ?_
    | (refine Keeps.kpf (hk.bits 14 rfl) ?_; first | with_reducible assumption | with_reducible refine keep_raise ?_ ?_ | with_reducible refine keep_State_wr ?_ ?_)

theorem keep_fuseMacs {k : Nat} {a : State} {s : State}
    (hk : Sub 2 k) (h : Keeps k a s) : Keeps k a (fuseMacs s) := by
  unfold fuseMacs
  repeat' first
    | with_reducible assumption
    | ((with_reducible refine Sub.of hk ?_); rfl)
    | intro _
    | with_reducible refine keep_State_wr ?_ ?_
    | (with_reducible refine Keeps.foldl ?_ ?_)

theorem keep_setSlot {k : Nat} {a : State} {s : State} {n : Nat} {kind : KeyKind} {bytes : List Nat}
    (hk : Sub 8192 k) (h : Keeps k a s) : Keeps k a (setSlot s n kind bytes) := by
  unfold setSlot
  repeat' first
    | with_reducible assumption
    | ((with_reducible refine Sub.of hk ?_); rfl)
    | (refine Keeps.key (hk.bits 13 rfl) ?_; first | with_reducible assumption)

theorem keep_restoreRoleKeys {k : Nat} {a : State} {s : State}
    (hk : Sub 25769812096 k) (h : Keeps k a s) : Keeps k a (restoreRoleKeys s) := by
  unfold restoreRoleKeys
  repeat' first
    | with_reducible assumption
    | ((with_reducible refine Sub.of hk ?_); rfl)
    | intro _
    | with_reducible refine keep_raise ?_ ?_
    | with_reducible refine keep_setSlot ?_ ?_
    | (with_reducible refine Keeps.foldl ?_ ?_)
    | with_reducible refine Keeps.branch ?_ ?_
    | split

theorem keep_showLoaded {k : Nat} {a : State} {s : State}
    (hk : Sub 2 k) (h : Keeps k a s) : Keeps k a (showLoaded s) := by
  unfold showLoaded
  repeat' first
    | with_reducible assumption
    | ((with_reducible refine Sub.of hk ?_); rfl)
    | with_reducible refine keep_State_wr ?_ ?_

theorem keep_deriveSlot {k : Nat} {a : State} {s : State} {slot : Nat} {label : String} {context : List Nat} {kind : KeyKind} {len : Nat}
    (hk : Sub 17179877376 k) (h : Keeps k a s) : Keeps k a (deriveSlot s slot label context kind len) := by
  unfold deriveSlot
  repeat' first
    | with_reducible assumption
    | ((with_reducible refine Sub.of hk ?_); rfl)
    | with_reducible refine keep_State_bump ?_ ?_
    | with_reducible refine keep_setSlot ?_ ?_
    | with_reducible refine Keeps.branch ?_ ?_

theorem keep_deriveFixed {k : Nat} {a : State} {s : State}
    (hk : Sub 17179877376 k) (h : Keeps k a s) : Keeps k a (deriveFixed s) := by
  unfold deriveFixed
  repeat' first
    | with_reducible assumption
    | ((with_reducible refine Sub.of hk ?_); rfl)
    | with_reducible refine keep_deriveSlot ?_ ?_

theorem keep_keyReset {k : Nat} {a : State} {s : State}
    (hk : Sub 25769812098 k) (h : Keeps k a s) : Keeps k a (keyReset s) := by
  unfold keyReset
  repeat' first
    | with_reducible assumption
    | ((with_reducible refine Sub.of hk ?_); rfl)
    | with_reducible refine keep_restoreRoleKeys ?_ ?_
    | with_reducible refine keep_showLoaded ?_ ?_
    | with_reducible refine keep_raise ?_ ?_
    | with_reducible refine keep_deriveFixed ?_ ?_
    | with_reducible refine Keeps.branch ?_ ?_

theorem keep_calReload {k : Nat} {a : State} {s : State}
    (hk : Sub 25769869442 k) (h : Keeps k a s) : Keeps k a (calReload s) := by
  unfold calReload
  repeat' first
    | with_reducible assumption
    | ((with_reducible refine Sub.of hk ?_); rfl)
    | intro _
    | with_reducible refine keep_raise ?_ ?_
    | with_reducible refine keep_State_wr ?_ ?_
    | (with_reducible refine Keeps.foldl ?_ ?_)
    | split
    | (refine Keeps.cal (hk.bits 16 rfl) ?_; with_reducible assumption)

theorem keep_xtsSelfTest {k : Nat} {a : State} {s : State}
    (hk : Sub 25769803906 k) (h : Keeps k a s) : Keeps k a (xtsSelfTest s) := by
  unfold xtsSelfTest
  repeat' first
    | with_reducible assumption
    | ((with_reducible refine Sub.of hk ?_); rfl)
    | intro _
    | with_reducible refine keep_raise ?_ ?_
    | with_reducible refine keep_State_wr ?_ ?_
    | (with_reducible refine Keeps.foldl ?_ ?_)
    | with_reducible refine Keeps.branch ?_ ?_

theorem keep_showClusters {k : Nat} {a : State} {s : State}
    (hk : Sub 2 k) (h : Keeps k a s) : Keeps k a (showClusters s) := by
  unfold showClusters
  repeat' first
    | with_reducible assumption
    | ((with_reducible refine Sub.of hk ?_); rfl)
    | with_reducible refine keep_State_wr ?_ ?_

theorem keep_winToMax {k : Nat} {a : State} {s : State}
    (hk : Sub 2 k) (h : Keeps k a s) : Keeps k a (winToMax s) := by
  unfold winToMax
  repeat' first
    | with_reducible assumption
    | ((with_reducible refine Sub.of hk ?_); rfl)
    | intro _
    | with_reducible refine keep_State_wr ?_ ?_
    | (with_reducible refine Keeps.foldl ?_ ?_)

theorem keep_showFences {k : Nat} {a : State} {s : State}
    (hk : Sub 2 k) (h : Keeps k a s) : Keeps k a (showFences s) := by
  unfold showFences
  repeat' first
    | with_reducible assumption
    | ((with_reducible refine Sub.of hk ?_); rfl)
    | with_reducible refine keep_State_wr ?_ ?_

theorem keep_setPair {k : Nat} {a : State} {s : State} {pairId : Nat} {pgen : Nat}
    (hk : Sub 25773473922 k) (h : Keeps k a s) : Keeps k a (setPair s pairId pgen) := by
  unfold setPair
  repeat' first
    | with_reducible assumption
    | ((with_reducible refine Sub.of hk ?_); rfl)
    | with_reducible refine keep_logTouch ?_ ?_
    | with_reducible refine keep_State_wr64 ?_ ?_
    | with_reducible refine Keeps.branch ?_ ?_
    | (refine Keeps.log (hk.bits 20 rfl) ?_; with_reducible assumption)

theorem keep_showLog {k : Nat} {a : State} {s : State}
    (hk : Sub 2 k) (h : Keeps k a s) : Keeps k a (showLog s) := by
  unfold showLog
  repeat' first
    | with_reducible assumption
    | ((with_reducible refine Sub.of hk ?_); rfl)
    | with_reducible refine keep_State_wr ?_ ?_

theorem keep_afterReset {k : Nat} {a : State} {s : State} {l : Nat} {aon : Bool}
    (hk : Sub 25773564034 k) (h : Keeps k a s) : Keeps k a (afterReset s l aon) := by
  unfold afterReset
  repeat' first
    | with_reducible assumption
    | ((with_reducible refine Sub.of hk ?_); rfl)
    | with_reducible refine keep_applyOptions ?_ ?_
    | with_reducible refine keep_showUpdate ?_ ?_
    | with_reducible refine keep_readSfdp ?_ ?_
    | with_reducible refine keep_fuseMacs ?_ ?_
    | with_reducible refine keep_keyReset ?_ ?_
    | with_reducible refine keep_calReload ?_ ?_
    | with_reducible refine keep_xtsSelfTest ?_ ?_
    | with_reducible refine keep_showClusters ?_ ?_
    | with_reducible refine keep_winToMax ?_ ?_
    | with_reducible refine keep_showFences ?_ ?_
    | with_reducible refine keep_setPair ?_ ?_
    | with_reducible refine keep_State_wr ?_ ?_
    | with_reducible refine keep_showLog ?_ ?_

theorem keep_leaveRegion {k : Nat} {a : State} {s : State} {i : Nat}
    (hk : Sub 2097152 k) (h : Keeps k a s) : Keeps k a (leaveRegion s i) := by
  unfold leaveRegion
  repeat' first
    | with_reducible assumption
    | ((with_reducible refine Sub.of hk ?_); rfl)
    | (refine Keeps.trn (hk.bits 21 rfl) ?_; first | with_reducible assumption)

theorem keep_dropReqId {k : Nat} {a : State} {s : State} {id : Nat}
    (hk : Sub 536870912 k) (h : Keeps k a s) : Keeps k a (dropReqId s id) := by
  unfold dropReqId
  repeat' first
    | with_reducible assumption
    | ((with_reducible refine Sub.of hk ?_); rfl)
    | (refine Keeps.xpt (hk.bits 29 rfl) ?_; first | with_reducible assumption)

theorem keep_showAdmit {k : Nat} {a : State} {s : State} {p : Nat}
    (hk : Sub 9663676418 k) (h : Keeps k a s) : Keeps k a (showAdmit s p) := by
  unfold showAdmit
  repeat' first
    | with_reducible assumption
    | ((with_reducible refine Sub.of hk ?_); rfl)
    | intro _
    | with_reducible refine keep_State_emit ?_ ?_
    | with_reducible refine keep_State_wr ?_ ?_
    | (with_reducible refine Keeps.foldl ?_ ?_)
    | with_reducible refine Keeps.branch ?_ ?_
    | (refine Keeps.prt (hk.bits 30 rfl) ?_; first | with_reducible assumption | with_reducible refine keep_State_emit ?_ ?_ | with_reducible refine keep_State_wr ?_ ?_)

theorem keep_releaseReq {k : Nat} {a : State} {s : State} {r : Req}
    (hk : Sub 10202644482 k) (h : Keeps k a s) : Keeps k a (releaseReq s r) := by
  unfold releaseReq
  repeat' first
    | with_reducible assumption
    | ((with_reducible refine Sub.of hk ?_); rfl)
    | with_reducible refine keep_modQp ?_ ?_
    | with_reducible refine keep_leaveRegion ?_ ?_
    | with_reducible refine keep_backTokens ?_ ?_
    | with_reducible refine keep_dropReqId ?_ ?_
    | with_reducible refine keep_showAdmit ?_ ?_
    | with_reducible refine Keeps.branch ?_ ?_

theorem keep_holdWriters {k : Nat} {a : State} {s : State}
    (hk : Sub 10202644482 k) (h : Keeps k a s) : Keeps k a (holdWriters s) := by
  unfold holdWriters
  repeat' first
    | with_reducible assumption
    | ((with_reducible refine Sub.of hk ?_); rfl)
    | intro _
    | with_reducible refine keep_releaseReq ?_ ?_
    | (with_reducible refine Keeps.foldl ?_ ?_)

theorem keep_resetRegs {k : Nat} {a : State} {s : State} {l : Nat} {b : Nat}
    (hk : Sub 17179869186 k) (h : Keeps k a s) : Keeps k a (resetRegs s l b) := by
  unfold resetRegs
  repeat' first
    | with_reducible assumption
    | ((with_reducible refine Sub.of hk ?_); rfl)
    | exact Keeps.build 17179869186 (hk.of rfl) (by assumption) (by rfl) (by rfl) (by exact fun p hp => by cases p <;> first | exact absurd hp (by decide) | rfl) (by exact List.suffix_refl _) (by exact grown_refl _) (by exact id) (by
        rintro ⟨⟨⟨⟨v, w⟩, x, y⟩, z⟩, b0, b1⟩
        refine ⟨⟨⟨⟨?_, ?_⟩, ?_, ?_⟩, ?_⟩, ?_, ?_⟩ <;>
          repeat' first
            | assumption
            | exact Sparse.wf_nil
            | with_reducible refine Sparse.wf_put ?_
            | with_reducible refine Sparse.wf_ins ?_
            | with_reducible refine Sparse.wf_del ?_
            | with_reducible refine Sparse.wf_keep ?_
            | with_reducible refine Sparse.wf_filter ?_
            | with_reducible refine Sparse.wf_foldl_ins ?_
            | split)

theorem keep_warmBlocks {k : Nat} {a : State} {s : State}
    (hk : Sub 55832969130 k) (h : Keeps k a s) : Keeps k a (warmBlocks s) := by
  unfold warmBlocks
  refine h.trans ⟨fun p hp => ?_, rfl, rfl, List.suffix_refl _, grown_refl _, id,
    (keep_resetRegs (Sub.refl _) (Keeps.refl _ s)).regs⟩
  cases p <;> first | rfl | exact absurd (hk.bits _ rfl) (by rw [hp]; decide)

theorem keep_showMstBase {k : Nat} {a : State} {s : State}
    (hk : Sub 2 k) (h : Keeps k a s) : Keeps k a (showMstBase s) := by
  unfold showMstBase
  repeat' first
    | with_reducible assumption
    | ((with_reducible refine Sub.of hk ?_); rfl)
    | intro _
    | with_reducible refine keep_State_wr ?_ ?_
    | (with_reducible refine Keeps.foldl ?_ ?_)

theorem keep_stopMst {k : Nat} {a : State} {p : Nat → Bool} {s : State}
    (hk : Sub 268435458 k) (h : Keeps k a s) : Keeps k a (stopMst p s) := by
  unfold stopMst
  repeat' first
    | with_reducible assumption
    | ((with_reducible refine Sub.of hk ?_); rfl)
    | with_reducible refine keep_showMstBase ?_ ?_
    | (refine Keeps.mst (hk.bits 28 rfl) ?_; with_reducible assumption)

theorem keep_assertOutputs {k : Nat} {a : State} {s : State} {l : Nat}
    (hk : Sub 2 k) (h : Keeps k a s) : Keeps k a (assertOutputs s l) := by
  unfold assertOutputs
  repeat' first
    | with_reducible assumption
    | ((with_reducible refine Sub.of hk ?_); rfl)
    | intro _
    | with_reducible refine keep_State_wbit ?_ ?_
    | (with_reducible refine Keeps.foldl ?_ ?_)
    | with_reducible refine Keeps.branch ?_ ?_

theorem keep_showSeals {k : Nat} {a : State} {s : State}
    (hk : Sub 2 k) (h : Keeps k a s) : Keeps k a (showSeals s) := by
  unfold showSeals
  repeat' first
    | with_reducible assumption
    | ((with_reducible refine Sub.of hk ?_); rfl)
    | with_reducible refine keep_State_wr ?_ ?_
    | with_reducible refine keep_State_wr64 ?_ ?_
    | split

theorem keep_stopShaft {k : Nat} {a : State} {s : State}
    (hk : Sub 2 k) (h : Keeps k a s) : Keeps k a (stopShaft s) := by
  unfold stopShaft
  repeat' first
    | with_reducible assumption
    | ((with_reducible refine Sub.of hk ?_); rfl)
    | with_reducible refine keep_State_wr ?_ ?_

theorem keep_requestLock {k : Nat} {a : State} {s : State}
    (hk : Sub 32770 k) (h : Keeps k a s) : Keeps k a (requestLock s) := by
  unfold requestLock
  repeat' first
    | with_reducible assumption
    | ((with_reducible refine Sub.of hk ?_); rfl)
    | with_reducible refine keep_stopShaft ?_ ?_
    | (refine Keeps.clk (hk.bits 15 rfl) ?_; with_reducible assumption)

theorem keep_setDev {k : Nat} {a : State} {s : State} {d : DevState} {why : Nat}
    (hk : Sub 25769803905 k) (h : Keeps k a s) : Keeps k a (setDev s d why) := by
  unfold setDev
  repeat' first
    | with_reducible assumption
    | ((with_reducible refine Sub.of hk ?_); rfl)
    | with_reducible refine keep_State_emit ?_ ?_
    | with_reducible refine keep_raise ?_ ?_
    | (refine Keeps.dev (hk.bits 0 rfl) ?_; with_reducible assumption)

theorem keep_stepBegin {k : Nat} {a : State} {s : State} {i : Nat}
    (hk : Sub 18 k) (h : Keeps k a s) : Keeps k a (stepBegin s i) := by
  unfold stepBegin
  repeat' first
    | with_reducible assumption
    | ((with_reducible refine Sub.of hk ?_); rfl)
    | with_reducible refine keep_State_wr ?_ ?_
    | (refine Keeps.pwr (hk.bits 4 rfl) ?_; with_reducible assumption)

theorem keep_beginStretch {k : Nat} {a : State} {s : State}
    (hk : Sub 32 k) (h : Keeps k a s) : Keeps k a (beginStretch s) := by
  unfold beginStretch
  repeat' first
    | with_reducible assumption
    | ((with_reducible refine Sub.of hk ?_); rfl)
    | (refine Keeps.rst (hk.bits 5 rfl) ?_; first | with_reducible assumption)

theorem keep_startRising {k : Nat} {a : State} {s : State} {why : Nat}
    (hk : Sub 25769836723 k) (h : Keeps k a s) : Keeps k a (startRising s why) := by
  unfold startRising
  repeat' first
    | with_reducible assumption
    | ((with_reducible refine Sub.of hk ?_); rfl)
    | (extract_lets +onlyGivenNames t
       first
       | (refine Keeps.have_ (k := k) (a := a) (t := t) ?_ ?_; unfold t; clear t; rotate_left; intro _; clear_value t; revert t; intros))
    | with_reducible refine keep_requestLock ?_ ?_
    | with_reducible refine keep_setDev ?_ ?_
    | with_reducible refine keep_stepBegin ?_ ?_
    | with_reducible refine keep_beginStretch ?_ ?_
    | with_reducible refine keep_State_wr ?_ ?_
    | (refine Keeps.rst (hk.bits 5 rfl) ?_; with_reducible assumption)
    | (refine Keeps.pwr (hk.bits 4 rfl) ?_; with_reducible assumption)
    | exact Keeps.build 48 (hk.of rfl) (by assumption) (by rfl) (by rfl) (by exact fun p hp => by cases p <;> first | exact absurd hp (by decide) | rfl) (by exact List.suffix_refl _) (by exact grown_refl _) (by exact id) (by exact id)

theorem keep_mapTouch {k : Nat} {a : State} {a' : Nat} {s : State}
    (hk : Sub 25772425346 k) (h : Keeps k a s) : Keeps k a (mapTouch a' s) := by
  unfold mapTouch
  repeat' first
    | with_reducible assumption
    | ((with_reducible refine Sub.of hk ?_); rfl)
    | with_reducible refine keep_dirtyPage ?_ ?_
    | with_reducible refine keep_hopWrite ?_ ?_

theorem keep_setFrame {k : Nat} {a : State} {s : State} {f : Nat} {x : Frame}
    (hk : Sub 25772425346 k) (h : Keeps k a s) : Keeps k a (setFrame s f x) := by
  unfold setFrame
  repeat' first
    | with_reducible assumption
    | ((with_reducible refine Sub.of hk ?_); rfl)
    | with_reducible refine keep_mapTouch ?_ ?_
    | with_reducible refine keep_countDirty ?_ ?_
    | (refine Keeps.maps (hk.bits 19 rfl) ?_; with_reducible assumption)

theorem keep_staleFill {k : Nat} {a : State} {s : State} {e : Nat}
    (hk : Sub 2097152 k) (h : Keeps k a s) : Keeps k a (staleFill s e) := by
  unfold staleFill
  repeat' first
    | with_reducible assumption
    | ((with_reducible refine Sub.of hk ?_); rfl)
    | (refine Keeps.trn (hk.bits 21 rfl) ?_; first | with_reducible assumption)

theorem keep_uncacheExtent {k : Nat} {a : State} {s : State} {e : Nat}
    (hk : Sub 2097152 k) (h : Keeps k a s) : Keeps k a (uncacheExtent s e) := by
  unfold uncacheExtent
  repeat' first
    | with_reducible assumption
    | ((with_reducible refine Sub.of hk ?_); rfl)
    | (refine Keeps.trn (hk.bits 21 rfl) ?_; first | with_reducible assumption)

theorem keep_setExtent {k : Nat} {a : State} {s : State} {e : Nat} {x : Extent}
    (hk : Sub 25772425346 k) (h : Keeps k a s) : Keeps k a (setExtent s e x) := by
  unfold setExtent
  repeat' first
    | with_reducible assumption
    | ((with_reducible refine Sub.of hk ?_); rfl)
    | with_reducible refine keep_mapTouch ?_ ?_
    | with_reducible refine keep_staleFill ?_ ?_
    | with_reducible refine keep_uncacheExtent ?_ ?_
    | with_reducible refine Keeps.branch ?_ ?_
    | (refine Keeps.maps (hk.bits 19 rfl) ?_; with_reducible assumption)

theorem keep_modExtent {k : Nat} {a : State} {s : State} {e : Nat} {f : Extent → Extent}
    (hk : Sub 25772425346 k) (h : Keeps k a s) : Keeps k a (modExtent s e f) := by
  unfold modExtent
  repeat' first
    | with_reducible assumption
    | ((with_reducible refine Sub.of hk ?_); rfl)
    | with_reducible refine keep_setExtent ?_ ?_

theorem keep_stopMoves {k : Nat} {a : State} {s : State}
    (hk : Sub 25906643074 k) (h : Keeps k a s) : Keeps k a (stopMoves s) := by
  unfold stopMoves
  repeat' first
    | with_reducible assumption
    | ((with_reducible refine Sub.of hk ?_); rfl)
    | intro _
    | (extract_lets +onlyGivenNames t
       first
       | (refine Keeps.have_ (k := k) (a := a) (t := t) ?_ ?_; unfold t; clear t; rotate_left; intro _; clear_value t; revert t; intros)
       | (clear_value t; revert t; intros))
    | with_reducible refine keep_setFrame ?_ ?_
    | with_reducible refine keep_modExtent ?_ ?_
    | (with_reducible refine Keeps.foldl ?_ ?_)
    | split
    | (refine Keeps.tie (hk.bits 27 rfl) ?_; with_reducible assumption)

theorem keep_dropMstReqs {k : Nat} {a : State} {s : State}
    (hk : Sub 10202644482 k) (h : Keeps k a s) : Keeps k a (dropMstReqs s) := by
  unfold dropMstReqs
  repeat' first
    | with_reducible assumption
    | ((with_reducible refine Sub.of hk ?_); rfl)
    | intro _
    | with_reducible refine keep_releaseReq ?_ ?_
    | (with_reducible refine Keeps.foldl ?_ ?_)

theorem keep_resetQps {k : Nat} {a : State} {s : State}
    (hk : Sub 536870912 k) (h : Keeps k a s) : Keeps k a (resetQps s) := by
  unfold resetQps
  repeat' first
    | with_reducible assumption
    | ((with_reducible refine Sub.of hk ?_); rfl)
    | (refine Keeps.xpt (hk.bits 29 rfl) ?_; first | with_reducible assumption)

theorem keep_dropReqs {k : Nat} {a : State} {s : State} {i : Nat}
    (hk : Sub 10202644482 k) (h : Keeps k a s) : Keeps k a (dropReqs s i) := by
  unfold dropReqs
  repeat' first
    | with_reducible assumption
    | ((with_reducible refine Sub.of hk ?_); rfl)
    | intro _
    | with_reducible refine keep_releaseReq ?_ ?_
    | (with_reducible refine Keeps.foldl ?_ ?_)

theorem keep_hostsOff {k : Nat} {a : State} {s : State}
    (hk : Sub 10202644482 k) (h : Keeps k a s) : Keeps k a (hostsOff s) := by
  unfold hostsOff
  repeat' first
    | with_reducible assumption
    | ((with_reducible refine Sub.of hk ?_); rfl)
    | intro _
    | with_reducible refine keep_resetQps ?_ ?_
    | with_reducible refine keep_dropReqs ?_ ?_
    | (with_reducible refine Keeps.foldl ?_ ?_)

theorem keep_pumpFlits {k : Nat} {a : State} {x : Nat} {x' : State}
    (hk : Sub 27917287424 k) (h : Keeps k a x') : Keeps k a (pumpFlits x x') := by
  induction x generalizing x' with
  | zero => exact h
  | succ n ih =>
    unfold pumpFlits
    split
    · exact h
    · dsimp only
      exact ih (Keeps.twn (hk.bits 31 rfl) (keep_sendFlit (hk.of rfl) h))

theorem keep_pump {k : Nat} {a : State} {s : State}
    (hk : Sub 27917287424 k) (h : Keeps k a s) : Keeps k a (pump s) := by
  unfold pump
  repeat' first
    | with_reducible assumption
    | ((with_reducible refine Sub.of hk ?_); rfl)
    | with_reducible refine keep_pumpFlits ?_ ?_

theorem keep_passMsg {k : Nat} {a : State} {s : State} {m : Msg}
    (hk : Sub 27917287424 k) (h : Keeps k a s) : Keeps k a (passMsg s m) := by
  unfold passMsg
  repeat' first
    | with_reducible assumption
    | ((with_reducible refine Sub.of hk ?_); rfl)
    | with_reducible refine keep_State_emit ?_ ?_
    | with_reducible refine keep_State_bump ?_ ?_
    | with_reducible refine keep_pump ?_ ?_
    | with_reducible refine Keeps.branch ?_ ?_
    | split
    | (refine Keeps.twn (hk.bits 31 rfl) ?_; first | with_reducible assumption | with_reducible refine keep_State_emit ?_ ?_ | with_reducible refine keep_State_bump ?_ ?_ | with_reducible refine keep_pump ?_ ?_)

theorem keep_twinSend {k : Nat} {a : State} {s : State} {m : Msg}
    (hk : Sub 27917287424 k) (h : Keeps k a s) : Keeps k a (twinSend s m) := by
  unfold twinSend
  repeat' first
    | with_reducible assumption
    | ((with_reducible refine Sub.of hk ?_); rfl)
    | with_reducible refine keep_passMsg ?_ ?_
    | with_reducible refine Keeps.branch ?_ ?_
    | (refine Keeps.twn (hk.bits 31 rfl) ?_; with_reducible assumption)

theorem keep_withTag {k : Nat} {a : State} {s : State} {f : Nat → Msg}
    (hk : Sub 27917287424 k) (h : Keeps k a s) : Keeps k a (withTag s f) := by
  unfold withTag
  repeat' first
    | with_reducible assumption
    | ((with_reducible refine Sub.of hk ?_); rfl)
    | with_reducible refine keep_twinSend ?_ ?_
    | (refine Keeps.twn (hk.bits 31 rfl) ?_; with_reducible assumption)

theorem keep_pullPage {k : Nat} {a : State} {s : State} {p : Nat}
    (hk : Sub 27917287424 k) (h : Keeps k a s) : Keeps k a (pullPage s p) := by
  unfold pullPage
  repeat' first
    | with_reducible assumption
    | ((with_reducible refine Sub.of hk ?_); rfl)
    | with_reducible refine keep_withTag ?_ ?_
    | with_reducible refine Keeps.branch ?_ ?_
    | (refine Keeps.twn (hk.bits 31 rfl) ?_; with_reducible assumption)

theorem keep_gapNotice {k : Nat} {a : State} {s : State} {m : Msg}
    (hk : Sub 27917287552 k) (h : Keeps k a s) : Keeps k a (gapNotice s m) := by
  unfold gapNotice
  repeat' first
    | with_reducible assumption
    | ((with_reducible refine Sub.of hk ?_); rfl)
    | with_reducible refine keep_State_bump ?_ ?_
    | with_reducible refine keep_pullPage ?_ ?_
    | with_reducible refine keep_raise ?_ ?_
    | with_reducible refine Keeps.branch ?_ ?_
    | split

theorem keep_firstWrite {k : Nat} {a : State} {s : State} {e : Nat}
    (hk : Sub 25772425346 k) (h : Keeps k a s) : Keeps k a (firstWrite s e) := by
  unfold firstWrite
  repeat' first
    | with_reducible assumption
    | ((with_reducible refine Sub.of hk ?_); rfl)
    | with_reducible refine keep_modExtent ?_ ?_
    | with_reducible refine Keeps.branch ?_ ?_

theorem keep_frameSound {k : Nat} {a : State} {s : State} {f : Nat}
    (hk : Sub 4194304 k) (h : Keeps k a s) : Keeps k a (frameSound s f) := by
  unfold frameSound
  repeat' first
    | with_reducible assumption
    | ((with_reducible refine Sub.of hk ?_); rfl)
    | (refine Keeps.dram (hk.bits 22 rfl) ?_ (by first | exact fun g => Memory.wf_memZero g | exact fun g => Memory.wf_memWrite g | exact fun g => Memory.wf_memPaste g | exact id | exact fun _ => rfl); first | with_reducible assumption)

theorem keep_linePoison {k : Nat} {a : State} {s : State} {l : Nat}
    (hk : Sub 4194304 k) (h : Keeps k a s) : Keeps k a (linePoison s l) := by
  unfold linePoison
  repeat' first
    | with_reducible assumption
    | ((with_reducible refine Sub.of hk ?_); rfl)
    | (refine Keeps.dram (hk.bits 22 rfl) ?_ (fun g => Memory.wf_memZero g); first | with_reducible assumption)

theorem keep_writePoison {k : Nat} {a : State} {s : State} {l : Nat} {why : Nat}
    (hk : Sub 25773998208 k) (h : Keeps k a s) : Keeps k a (writePoison s l why) := by
  unfold writePoison
  repeat' first
    | with_reducible assumption
    | ((with_reducible refine Sub.of hk ?_); rfl)
    | with_reducible refine keep_raise ?_ ?_
    | with_reducible refine keep_linePoison ?_ ?_

theorem keep_frameFill {k : Nat} {a : State} {s : State} {f : Nat} {cells : List Host.Cell} {poison : Nat}
    (hk : Sub 25773998208 k) (h : Keeps k a s) : Keeps k a (frameFill s f cells poison) := by
  unfold frameFill
  repeat' first
    | with_reducible assumption
    | ((with_reducible refine Sub.of hk ?_); rfl)
    | intro _
    | with_reducible refine keep_frameSound ?_ ?_
    | with_reducible refine keep_writePoison ?_ ?_
    | (with_reducible refine Keeps.foldl ?_ ?_)
    | with_reducible refine Keeps.branch ?_ ?_
    | (refine Keeps.dram (hk.bits 22 rfl) ?_ (by first | exact fun g => Memory.wf_memZero g | exact fun g => Memory.wf_memWrite g | exact fun g => Memory.wf_memPaste g | exact id | exact fun _ => rfl); first | with_reducible assumption | with_reducible refine keep_frameSound ?_ ?_ | with_reducible refine keep_writePoison ?_ ?_)

theorem keep_installPage {k : Nat} {a : State} {s : State} {p : Nat} {cells : List Host.Cell} {poison : Nat} {epoch : Nat} {lost : optParam Bool Bool.false}
    (hk : Sub 25776619650 k) (h : Keeps k a s) : Keeps k a (installPage s p cells poison epoch lost) := by
  unfold installPage
  repeat' first
    | with_reducible assumption
    | ((with_reducible refine Sub.of hk ?_); rfl)
    | with_reducible refine keep_setFrame ?_ ?_
    | with_reducible refine keep_frameFill ?_ ?_
    | with_reducible refine keep_modExtent ?_ ?_
    | split

theorem keep_zeroFillPage {k : Nat} {a : State} {s : State} {p : Nat}
    (hk : Sub 25776619650 k) (h : Keeps k a s) : Keeps k a (zeroFillPage s p) := by
  unfold zeroFillPage
  repeat' first
    | with_reducible assumption
    | ((with_reducible refine Sub.of hk ?_); rfl)
    | with_reducible refine keep_State_bump ?_ ?_
    | with_reducible refine keep_installPage ?_ ?_

theorem keep_setCharge {k : Nat} {a : State} {s : State} {e : Nat} {r : ChargeRec}
    (hk : Sub 25906643074 k) (h : Keeps k a s) : Keeps k a (setCharge s e r) := by
  unfold setCharge
  repeat' first
    | with_reducible assumption
    | ((with_reducible refine Sub.of hk ?_); rfl)
    | with_reducible refine keep_modExtent ?_ ?_
    | split
    | (refine Keeps.tie (hk.bits 27 rfl) ?_; with_reducible assumption)

theorem keep_ringAppend {k : Nat} {a : State} {s : State} {t : Nat} {e : Nat}
    (hk : Sub 134217728 k) (h : Keeps k a s) : Keeps k a (ringAppend s t e) := by
  unfold ringAppend
  repeat' first
    | with_reducible assumption
    | ((with_reducible refine Sub.of hk ?_); rfl)
    | (refine Keeps.tie (hk.bits 27 rfl) ?_; first | with_reducible assumption)

theorem keep_takeOut {k : Nat} {a : State} {s : State} {p : Nat}
    (hk : Sub 25772425346 k) (h : Keeps k a s) : Keeps k a (takeOut s p) := by
  unfold takeOut
  repeat' first
    | with_reducible assumption
    | ((with_reducible refine Sub.of hk ?_); rfl)
    | with_reducible refine keep_setFrame ?_ ?_
    | split
    | (refine Keeps.trn (hk.bits 21 rfl) ?_; first | with_reducible assumption | with_reducible refine keep_setFrame ?_ ?_)

theorem keep_l2Hit {k : Nat} {a : State} {s : State} {e : Nat} {streaming : Bool}
    (hk : Sub 2097152 k) (h : Keeps k a s) : ∀ t, l2Hit s e streaming = some t → Keeps k a t := by
  intro t ht
  unfold l2Hit at ht
  dsimp only at ht
  repeat' split at ht
  all_goals first
    | contradiction
    | (obtain rfl := Option.some.inj ht
       first | exact h | exact Keeps.trn (hk.bits 21 rfl) h)

theorem keep_issueFill {k : Nat} {a : State} {s : State} {e : Nat} {streaming : Bool}
    (hk : Sub 2097152 k) (h : Keeps k a s) : Keeps k a (issueFill s e streaming) := by
  unfold issueFill
  repeat' first
    | with_reducible assumption
    | ((with_reducible refine Sub.of hk ?_); rfl)
    | with_reducible refine Keeps.branch ?_ ?_
    | (refine Keeps.trn (hk.bits 21 rfl) ?_; first | with_reducible assumption)

theorem keep_streamLookup {k : Nat} {a : State} {s : State} {e : Nat}
    (hk : Sub 17181966336 k) (h : Keeps k a s) : Keeps k a (streamLookup s e) := by
  unfold streamLookup
  repeat' first
    | with_reducible assumption
    | ((with_reducible refine Sub.of hk ?_); rfl)
    | with_reducible refine keep_State_bump ?_ ?_
    | with_reducible refine keep_l2Hit ?_ ?_ _ (by assumption)
    | with_reducible refine keep_issueFill ?_ ?_
    | split

theorem keep_demoteFree {k : Nat} {a : State} {s : State} {e : Nat}
    (hk : Sub 25772425346 k) (h : Keeps k a s) : Keeps k a (demoteFree s e) := by
  unfold demoteFree
  repeat' first
    | with_reducible assumption
    | ((with_reducible refine Sub.of hk ?_); rfl)
    | intro _
    | with_reducible refine keep_takeOut ?_ ?_
    | with_reducible refine keep_streamLookup ?_ ?_
    | (with_reducible refine Keeps.foldl ?_ ?_)

theorem keep_demote {k : Nat} {a : State} {s : State} {e : Nat} {byMove : Bool}
    (hk : Sub 28054126722 k) (h : Keeps k a s) : Keeps k a (demote s e byMove) := by
  unfold demote
  repeat' first
    | with_reducible assumption
    | ((with_reducible refine Sub.of hk ?_); rfl)
    | with_reducible refine keep_modExtent ?_ ?_
    | with_reducible refine keep_demoteFree ?_ ?_
    | with_reducible refine keep_State_bump ?_ ?_
    | with_reducible refine keep_withTag ?_ ?_
    | with_reducible refine Keeps.branch ?_ ?_
    | split
    | (refine Keeps.tie (hk.bits 27 rfl) ?_; first | with_reducible assumption | with_reducible refine keep_modExtent ?_ ?_ | with_reducible refine keep_demoteFree ?_ ?_ | with_reducible refine keep_State_bump ?_ ?_ | with_reducible refine keep_withTag ?_ ?_)

theorem keep_chargeEmptied {k : Nat} {a : State} {s : State} {e : Nat}
    (hk : Sub 28054126722 k) (h : Keeps k a s) : Keeps k a (chargeEmptied s e) := by
  unfold chargeEmptied
  repeat' first
    | with_reducible assumption
    | ((with_reducible refine Sub.of hk ?_); rfl)
    | with_reducible refine keep_demote ?_ ?_
    | with_reducible refine keep_withTag ?_ ?_
    | with_reducible refine Keeps.branch ?_ ?_

theorem keep_removeCharge {k : Nat} {a : State} {s : State} {e : Nat} {t : Nat}
    (hk : Sub 28054126722 k) (h : Keeps k a s) : Keeps k a (removeCharge s e t) := by
  unfold removeCharge
  repeat' first
    | with_reducible assumption
    | ((with_reducible refine Sub.of hk ?_); rfl)
    | with_reducible refine keep_setCharge ?_ ?_
    | with_reducible refine keep_chargeEmptied ?_ ?_
    | with_reducible refine Keeps.branch ?_ ?_

theorem keep_quotaEvict {k : Nat} {a : State} {x : Nat} {x' : Nat} {x'' : Nat} {x''' : State}
    (hk : Sub 28054126722 k) (h : Keeps k a x''') : Keeps k a (quotaEvict x x' x'' x''') := by
  induction x generalizing x' x'' x''' with
  | zero => exact h
  | succ n ih =>
    unfold quotaEvict
    split
    · exact h
    · split
      · dsimp only
        have g : ∀ v, Keeps k a { x''' with tie := v } := fun v => Keeps.tie (hk.bits 27 rfl) h
        split
        · exact ih (g _)
        · split
          · exact ih (keep_ringAppend (hk.of rfl) (g _))
          · exact ih (keep_State_bump (hk.of rfl) (keep_removeCharge (hk.of rfl) (g _)))
      · exact keep_raise (hk.of rfl) h

theorem keep_quotaRun {k : Nat} {a : State} {s : State} {t : Nat}
    (hk : Sub 28054126722 k) (h : Keeps k a s) : Keeps k a (quotaRun s t) := by
  unfold quotaRun
  repeat' first
    | with_reducible assumption
    | ((with_reducible refine Sub.of hk ?_); rfl)
    | with_reducible refine keep_quotaEvict ?_ ?_
    | with_reducible refine Keeps.branch ?_ ?_

theorem keep_setPage {k : Nat} {a : State} {s : State} {p : Nat} {g : Frame → Frame}
    (hk : Sub 25772425346 k) (h : Keeps k a s) : Keeps k a (setPage s p g) := by
  unfold setPage
  repeat' first
    | with_reducible assumption
    | ((with_reducible refine Sub.of hk ?_); rfl)
    | with_reducible refine keep_modExtent ?_ ?_
    | with_reducible refine keep_setFrame ?_ ?_
    | with_reducible refine Keeps.branch ?_ ?_
    | split

theorem keep_fillPages {k : Nat} {a : State} {s : State} {e : Nat} {mask : Nat}
    (hk : Sub 25910837378 k) (h : Keeps k a s) : Keeps k a (fillPages s e mask) := by
  unfold fillPages
  repeat' first
    | with_reducible assumption
    | ((with_reducible refine Sub.of hk ?_); rfl)
    | intro _
    | with_reducible refine keep_zeroFillPage ?_ ?_
    | with_reducible refine keep_setPage ?_ ?_
    | (with_reducible refine Keeps.foldl ?_ ?_)
    | with_reducible refine Keeps.branch ?_ ?_
    | (refine Keeps.tie (hk.bits 27 rfl) ?_; first | with_reducible assumption | with_reducible refine keep_zeroFillPage ?_ ?_ | with_reducible refine keep_setPage ?_ ?_)

theorem keep_promote {k : Nat} {a : State} {s : State} {e : Nat} {mask : Nat} {byMove : Bool}
    (hk : Sub 28058321026 k) (h : Keeps k a s) : Keeps k a (promote s e mask byMove) := by
  unfold promote
  repeat' first
    | with_reducible assumption
    | ((with_reducible refine Sub.of hk ?_); rfl)
    | (extract_lets +onlyGivenNames t
       first
       | (refine Keeps.have_ (k := k) (a := a) (t := t) ?_ ?_; unfold t; clear t; rotate_left; intro _; clear_value t; revert t; intros)
       | (clear_value t; revert t; intros))
    | with_reducible refine keep_fillPages ?_ ?_
    | with_reducible refine keep_modExtent ?_ ?_
    | with_reducible refine keep_State_bump ?_ ?_
    | with_reducible refine keep_withTag ?_ ?_
    | split
    | (refine Keeps.tie (hk.bits 27 rfl) ?_; with_reducible assumption)

theorem keep_addCharge {k : Nat} {a : State} {s : State} {e : Nat} {t : Nat}
    (hk : Sub 28058321026 k) (h : Keeps k a s) : Keeps k a (addCharge s e t) := by
  unfold addCharge
  repeat' first
    | with_reducible assumption
    | ((with_reducible refine Sub.of hk ?_); rfl)
    | with_reducible refine keep_setCharge ?_ ?_
    | with_reducible refine keep_quotaRun ?_ ?_
    | with_reducible refine keep_ringAppend ?_ ?_
    | with_reducible refine keep_promote ?_ ?_
    | with_reducible refine Keeps.branch ?_ ?_

theorem keep_chargeOwner {k : Nat} {a : State} {s : State} {e : Nat}
    (hk : Sub 28058321026 k) (h : Keeps k a s) : Keeps k a (chargeOwner s e) := by
  unfold chargeOwner
  repeat' first
    | with_reducible assumption
    | ((with_reducible refine Sub.of hk ?_); rfl)
    | with_reducible refine keep_addCharge ?_ ?_
    | with_reducible refine Keeps.branch ?_ ?_

theorem keep_quotaRunAll {k : Nat} {a : State} {s : State} {e : Nat}
    (hk : Sub 28054126722 k) (h : Keeps k a s) : Keeps k a (quotaRunAll s e) := by
  unfold quotaRunAll
  repeat' first
    | with_reducible assumption
    | ((with_reducible refine Sub.of hk ?_); rfl)
    | intro _
    | with_reducible refine keep_quotaRun ?_ ?_
    | (with_reducible refine Keeps.foldl ?_ ?_)

theorem keep_awaitGroup {k : Nat} {a : State} {s : State} {e : Nat} {tenant : Option Nat} {mask : Nat}
    (hk : Sub 134217728 k) (h : Keeps k a s) : Keeps k a (awaitGroup s e tenant mask) := by
  unfold awaitGroup
  repeat' first
    | with_reducible assumption
    | ((with_reducible refine Sub.of hk ?_); rfl)
    | (refine Keeps.tie (hk.bits 27 rfl) ?_; first | with_reducible assumption)

theorem keep_showGroups {k : Nat} {a : State} {s : State}
    (hk : Sub 25769803906 k) (h : Keeps k a s) : Keeps k a (showGroups s) := by
  unfold showGroups
  repeat' first
    | with_reducible assumption
    | ((with_reducible refine Sub.of hk ?_); rfl)
    | with_reducible refine keep_raise ?_ ?_
    | with_reducible refine keep_State_wr ?_ ?_
    | with_reducible refine Keeps.branch ?_ ?_

theorem keep_freeExtentGroup {k : Nat} {a : State} {s : State} {e : Nat}
    (hk : Sub 25906643074 k) (h : Keeps k a s) : Keeps k a (freeExtentGroup s e) := by
  unfold freeExtentGroup
  repeat' first
    | with_reducible assumption
    | ((with_reducible refine Sub.of hk ?_); rfl)
    | with_reducible refine keep_showGroups ?_ ?_
    | with_reducible refine keep_modExtent ?_ ?_
    | with_reducible refine Keeps.branch ?_ ?_
    | (refine Keeps.tie (hk.bits 27 rfl) ?_; with_reducible assumption)

theorem keep_takeGroup {k : Nat} {a : State} {s : State} {e : Nat} {g : Nat}
    (hk : Sub 25906643074 k) (h : Keeps k a s) : Keeps k a (takeGroup s e g) := by
  unfold takeGroup
  repeat' first
    | with_reducible assumption
    | ((with_reducible refine Sub.of hk ?_); rfl)
    | with_reducible refine keep_showGroups ?_ ?_
    | with_reducible refine keep_modExtent ?_ ?_
    | (refine Keeps.tie (hk.bits 27 rfl) ?_; with_reducible assumption)

theorem keep_needGroup {k : Nat} {a : State} {s : State} {e : Nat} {tenant : Option Nat} {mask : Nat}
    (hk : Sub 28054126722 k) (h : Keeps k a s) : Keeps k a (needGroup s e tenant mask).1 := by
  unfold needGroup
  extract_lets +onlyGivenNames past
  clear_value past
  split
  · split
    · exact keep_awaitGroup (hk.of rfl) h
    · exact h
  · split
    · refine keep_awaitGroup (hk.of rfl) ?_
      split
      · exact h
      · exact keep_raise (hk.of rfl) h
    · rename_i g hg
      have hu : Keeps k a (quotaRunAll (takeGroup s e g) e) := keep_quotaRunAll (hk.of rfl) (keep_takeGroup (hk.of rfl) h)
      dsimp only
      split
      · exact keep_awaitGroup (hk.of rfl) (keep_freeExtentGroup (hk.of rfl) hu)
      · exact hu

theorem keep_wantPage {k : Nat} {a : State} {s : State} {p : Nat} {tenant : Option Nat}
    (hk : Sub 28058321026 k) (h : Keeps k a s) : Keeps k a (wantPage s p tenant).1 := by
  unfold wantPage
  repeat' first
    | with_reducible assumption
    | ((with_reducible refine Sub.of hk ?_); rfl)
    | with_reducible refine keep_zeroFillPage ?_ ?_
    | with_reducible refine keep_withTag ?_ ?_
    | with_reducible refine keep_addCharge ?_ ?_
    | with_reducible refine keep_chargeOwner ?_ ?_
    | with_reducible refine keep_promote ?_ ?_
    | with_reducible refine keep_needGroup ?_ ?_
    | with_reducible refine Keeps.branch_fst ?_ ?_
    | split

theorem keep_readyIn {k : Nat} {a : State} {s : State} {p : Nat}
    (hk : Sub 28058321026 k) (h : Keeps k a s) : Keeps k a (readyIn s p).1 := by
  unfold readyIn
  repeat' first
    | with_reducible assumption
    | ((with_reducible refine Sub.of hk ?_); rfl)
    | with_reducible refine keep_firstWrite ?_ ?_
    | with_reducible refine keep_wantPage ?_ ?_

theorem keep_dirtyFrame {k : Nat} {a : State} {s : State} {p : Nat} {ep : Nat}
    (hk : Sub 25772425346 k) (h : Keeps k a s) : Keeps k a (dirtyFrame s p ep) := by
  unfold dirtyFrame
  repeat' first
    | with_reducible assumption
    | ((with_reducible refine Sub.of hk ?_); rfl)
    | with_reducible refine keep_setPage ?_ ?_
    | split

theorem keep_wqPut {k : Nat} {a : State} {s : State} {l : Nat} {part : Bool}
    (hk : Sub 17192452098 k) (h : Keeps k a s) : Keeps k a (wqPut s l part) := by
  unfold wqPut
  repeat' first
    | with_reducible assumption
    | ((with_reducible refine Sub.of hk ?_); rfl)
    | intro _
    | with_reducible refine keep_State_bump ?_ ?_
    | with_reducible refine keep_lineAccess ?_ ?_
    | (with_reducible refine Keeps.foldl ?_ ?_)
    | (refine Keeps.dram (hk.bits 22 rfl) ?_ (by first | exact fun g => Memory.wf_memZero g | exact fun g => Memory.wf_memWrite g | exact fun g => Memory.wf_memPaste g | exact id | exact fun _ => rfl); with_reducible assumption)

theorem keep_dWrite {k : Nat} {a : State} {s : State} {a' : Nat} {bs : List Nat}
    (hk : Sub 17192452098 k) (h : Keeps k a s) : Keeps k a (dWrite s a' bs) := by
  unfold dWrite
  repeat' first
    | with_reducible assumption
    | ((with_reducible refine Sub.of hk ?_); rfl)
    | intro _
    | with_reducible refine keep_wqPut ?_ ?_
    | (with_reducible refine Keeps.foldl ?_ ?_)
    | (refine Keeps.dram (hk.bits 22 rfl) ?_ (by first | exact fun g => Memory.wf_memZero g | exact fun g => Memory.wf_memWrite g | exact fun g => Memory.wf_memPaste g | exact id | exact fun _ => rfl); with_reducible assumption)

theorem keep_lineSound {k : Nat} {a : State} {s : State} {l : Nat}
    (hk : Sub 4194304 k) (h : Keeps k a s) : Keeps k a (lineSound s l) := by
  unfold lineSound
  repeat' first
    | with_reducible assumption
    | ((with_reducible refine Sub.of hk ?_); rfl)
    | (refine Keeps.dram (hk.bits 22 rfl) ?_ (by first | exact fun g => Memory.wf_memZero g | exact fun g => Memory.wf_memWrite g | exact fun g => Memory.wf_memPaste g | exact id | exact fun _ => rfl); first | with_reducible assumption)

theorem keep_setLog {k : Nat} {a : State} {s : State} {e : Nat} {x : LogEnt}
    (hk : Sub 25773473922 k) (h : Keeps k a s) : Keeps k a (setLog s e x) := by
  unfold setLog
  repeat' first
    | with_reducible assumption
    | ((with_reducible refine Sub.of hk ?_); rfl)
    | with_reducible refine keep_logTouch ?_ ?_
    | with_reducible refine keep_showLog ?_ ?_
    | with_reducible refine Keeps.branch ?_ ?_
    | (refine Keeps.log (hk.bits 20 rfl) ?_; with_reducible assumption)

theorem keep_markLog {k : Nat} {a : State} {s : State} {p : Nat} {sent : Bool}
    (hk : Sub 25773473922 k) (h : Keeps k a s) : Keeps k a (markLog s p sent) := by
  unfold markLog
  repeat' first
    | with_reducible assumption
    | ((with_reducible refine Sub.of hk ?_); rfl)
    | with_reducible refine keep_setLog ?_ ?_
    | with_reducible refine keep_raise ?_ ?_
    | with_reducible refine Keeps.branch ?_ ?_

theorem keep_logPlaced {k : Nat} {a : State} {s : State} {p : Nat}
    (hk : Sub 25773473922 k) (h : Keeps k a s) : Keeps k a (logPlaced s p) := by
  unfold logPlaced
  repeat' first
    | with_reducible assumption
    | ((with_reducible refine Sub.of hk ?_); rfl)
    | with_reducible refine keep_markLog ?_ ?_
    | with_reducible refine Keeps.branch ?_ ?_

theorem keep_placeData {k : Nat} {a : State} {s : State} {p : Nat} {off : Nat} {bs : List Nat} {ep : Nat}
    (hk : Sub 25786056834 k) (h : Keeps k a s) : Keeps k a (placeData s p off bs ep) := by
  unfold placeData
  repeat' first
    | with_reducible assumption
    | ((with_reducible refine Sub.of hk ?_); rfl)
    | intro _
    | with_reducible refine keep_dirtyFrame ?_ ?_
    | with_reducible refine keep_dWrite ?_ ?_
    | with_reducible refine keep_lineSound ?_ ?_
    | with_reducible refine keep_logPlaced ?_ ?_
    | (with_reducible refine Keeps.foldl ?_ ?_)
    | split

theorem keep_unfetch {k : Nat} {a : State} {s : State} {p : Nat}
    (hk : Sub 536870912 k) (h : Keeps k a s) : Keeps k a (unfetch s p) := by
  unfold unfetch
  repeat' first
    | with_reducible assumption
    | ((with_reducible refine Sub.of hk ?_); rfl)
    | (refine Keeps.xpt (hk.bits 29 rfl) ?_; first | with_reducible assumption)

theorem keep_giveUpTreads {k : Nat} {a : State} {s : State} {p : Nat} {lines : List Nat}
    (hk : Sub 2684354560 k) (h : Keeps k a s) : Keeps k a (giveUpTreads s p lines) := by
  unfold giveUpTreads
  repeat' first
    | with_reducible assumption
    | ((with_reducible refine Sub.of hk ?_); rfl)
    | with_reducible refine keep_unfetch ?_ ?_
    | with_reducible refine Keeps.branch ?_ ?_
    | (refine Keeps.twn (hk.bits 31 rfl) ?_; with_reducible assumption)

theorem keep_seekLine {k : Nat} {a : State} {s : State} {p : Nat} {n : Nat} {pipe : Nat}
    (hk : Sub 27921481856 k) (h : Keeps k a s) : Keeps k a (seekLine s p n pipe).1 := by
  unfold seekLine
  repeat' first
    | with_reducible assumption
    | ((with_reducible refine Sub.of hk ?_); rfl)
    | with_reducible refine keep_withTag ?_ ?_
    | with_reducible refine keep_writePoison ?_ ?_
    | split
    | (refine Keeps.twn (hk.bits 31 rfl) ?_; with_reducible assumption)

theorem keep_partLines {k : Nat} {a : State} {s : State} {p : Nat} {off : Nat} {len : Nat}
    (hk : Sub 28458352768 k) (h : Keeps k a s) : Keeps k a (partLines s p off len).1 := by
  unfold partLines
  repeat' first
    | with_reducible assumption
    | ((with_reducible refine Sub.of hk ?_); rfl)
    | intro _
    | with_reducible refine keep_giveUpTreads ?_ ?_
    | with_reducible refine keep_seekLine ?_ ?_
    | (with_reducible refine Keeps.foldl_fst ?_ ?_)
    | split

theorem keep_tryForward {k : Nat} {a : State} {s : State} {tag : Nat} {p : Nat} {off : Nat} {bs : List Nat}
    (hk : Sub 28604629122 k) (h : Keeps k a s) : Keeps k a (tryForward s tag p off bs).1 := by
  unfold tryForward
  repeat' first
    | with_reducible assumption
    | ((with_reducible refine Sub.of hk ?_); rfl)
    | with_reducible refine keep_readyIn ?_ ?_
    | with_reducible refine keep_placeData ?_ ?_
    | with_reducible refine keep_twinSend ?_ ?_
    | with_reducible refine keep_partLines ?_ ?_
    | with_reducible refine Keeps.branch_fst ?_ ?_

theorem keep_tryTread {k : Nat} {a : State} {s : State} {tag : Nat} {p : Nat} {n : Nat}
    (hk : Sub 27917287424 k) (h : Keeps k a s) : Keeps k a (tryTread s tag p n).1 := by
  unfold tryTread
  repeat' first
    | with_reducible assumption
    | ((with_reducible refine Sub.of hk ?_); rfl)
    | with_reducible refine keep_twinSend ?_ ?_
    | split

theorem keep_pendDone {k : Nat} {a : State} {s : State} {p : Nat} {mirrors : Nat} {forwards : Nat}
    (hk : Sub 2147483650 k) (h : Keeps k a s) : Keeps k a (pendDone s p mirrors forwards) := by
  unfold pendDone
  repeat' first
    | with_reducible assumption
    | ((with_reducible refine Sub.of hk ?_); rfl)
    | with_reducible refine keep_showPend ?_ ?_
    | split
    | (refine Keeps.twn (hk.bits 31 rfl) ?_; with_reducible assumption)

theorem keep_showDoorbell {k : Nat} {a : State} {s : State} {i : Nat}
    (hk : Sub 2 k) (h : Keeps k a s) : Keeps k a (showDoorbell s i) := by
  unfold showDoorbell
  repeat' first
    | with_reducible assumption
    | ((with_reducible refine Sub.of hk ?_); rfl)
    | with_reducible refine keep_State_wr ?_ ?_

theorem keep_ringPush {k : Nat} {a : State} {s : State} {i : Nat} {sl : RingSlot}
    (hk : Sub 536870914 k) (h : Keeps k a s) : Keeps k a (ringPush s i sl) := by
  unfold ringPush
  repeat' first
    | with_reducible assumption
    | ((with_reducible refine Sub.of hk ?_); rfl)
    | with_reducible refine keep_setQp ?_ ?_
    | with_reducible refine keep_showDoorbell ?_ ?_

theorem keep_lineWritten {k : Nat} {a : State} {s : State} {id : Nat}
    (hk : Sub 2 k) (h : Keeps k a s) : Keeps k a (lineWritten s id) := by
  unfold lineWritten
  repeat' first
    | with_reducible assumption
    | ((with_reducible refine Sub.of hk ?_); rfl)
    | with_reducible refine keep_State_wr ?_ ?_
    | split
    | (refine Keeps.mst (hk.bits 28 rfl) ?_; first | with_reducible assumption | with_reducible refine keep_State_wr ?_ ?_)

theorem keep_settle {k : Nat} {a : State} {s : State} {id : Nat}
    (hk : Sub 536870914 k) (h : Keeps k a s) : Keeps k a (settle s id) := by
  unfold settle
  repeat' first
    | with_reducible assumption
    | ((with_reducible refine Sub.of hk ?_); rfl)
    | with_reducible refine keep_backTokens ?_ ?_
    | with_reducible refine keep_setReq ?_ ?_
    | with_reducible refine keep_ringPush ?_ ?_
    | with_reducible refine keep_lineWritten ?_ ?_
    | split

theorem keep_endPart {k : Nat} {a : State} {s : State} {r : Req} {k' : Nat} {f : Req → Req} {x : Part → Part}
    (hk : Sub 536870914 k) (h : Keeps k a s) : Keeps k a (endPart s r k' f x) := by
  unfold endPart
  repeat' first
    | with_reducible assumption
    | ((with_reducible refine Sub.of hk ?_); rfl)
    | with_reducible refine keep_setReq ?_ ?_
    | with_reducible refine keep_settle ?_ ?_

theorem keep_forwardFailed {k : Nat} {a : State} {s : State} {r : Req} {k' : Nat}
    (hk : Sub 536870914 k) (h : Keeps k a s) : Keeps k a (forwardFailed s r k') := by
  unfold forwardFailed
  repeat' first
    | with_reducible assumption
    | ((with_reducible refine Sub.of hk ?_); rfl)
    | with_reducible refine keep_endPart ?_ ?_

theorem keep_forwardDone {k : Nat} {a : State} {s : State} {r : Req} {k' : Nat} {orig : Nat}
    (hk : Sub 536870914 k) (h : Keeps k a s) : Keeps k a (forwardDone s r k' orig) := by
  unfold forwardDone
  repeat' first
    | with_reducible assumption
    | ((with_reducible refine Sub.of hk ?_); rfl)
    | with_reducible refine keep_endPart ?_ ?_
    | with_reducible refine keep_backTokens ?_ ?_
    | with_reducible refine Keeps.branch ?_ ?_

theorem keep_forwardEnds {k : Nat} {a : State} {s : State} {tag : Nat} {p : Nat} {good : Bool} {orig : Nat}
    (hk : Sub 2684354562 k) (h : Keeps k a s) : Keeps k a (forwardEnds s tag p good orig) := by
  unfold forwardEnds
  repeat' first
    | with_reducible assumption
    | ((with_reducible refine Sub.of hk ?_); rfl)
    | (extract_lets +onlyGivenNames t
       first
       | (refine Keeps.have_ (k := k) (a := a) (t := t) ?_ ?_; unfold t; clear t; rotate_left; intro _; clear_value t; revert t; intros)
       | (clear_value t; revert t; intros))
    | with_reducible refine keep_pendDone ?_ ?_
    | with_reducible refine keep_forwardFailed ?_ ?_
    | with_reducible refine keep_forwardDone ?_ ?_
    | split
    | (refine Keeps.twn (hk.bits 31 rfl) ?_; with_reducible assumption)

theorem keep_placeIn {k : Nat} {a : State} {s : State} {p : Nat} {off : Nat} {bs : List Nat} {ep : Nat}
    (hk : Sub 27933540482 k) (h : Keeps k a s) : Keeps k a (placeIn s p off bs ep) := by
  unfold placeIn
  repeat' first
    | with_reducible assumption
    | ((with_reducible refine Sub.of hk ?_); rfl)
    | with_reducible refine keep_placeData ?_ ?_
    | split
    | (refine Keeps.twn (hk.bits 31 rfl) ?_; first | with_reducible assumption | with_reducible refine keep_placeData ?_ ?_)

theorem keep_tryOrdered {k : Nat} {a : State} {s : State} {tag : Nat} {ep : Nat} {p : Nat} {result : Nat} {atomic : Option (Nat × Nat)}
    (hk : Sub 28604629122 k) (h : Keeps k a s) : Keeps k a (tryOrdered s tag ep p result atomic).1 := by
  unfold tryOrdered
  repeat' first
    | with_reducible assumption
    | ((with_reducible refine Sub.of hk ?_); rfl)
    | with_reducible refine keep_forwardEnds ?_ ?_
    | with_reducible refine keep_readyIn ?_ ?_
    | with_reducible refine keep_placeIn ?_ ?_
    | with_reducible refine keep_pullPage ?_ ?_
    | with_reducible refine keep_partLines ?_ ?_
    | with_reducible refine Keeps.branch_fst ?_ ?_
    | split

theorem keep_setBlk {k : Nat} {a : State} {s : State} {k' : Nat} {x : BlkSt}
    (hk : Sub 25772425346 k) (h : Keeps k a s) : Keeps k a (setBlk s k' x) := by
  unfold setBlk
  repeat' first
    | with_reducible assumption
    | ((with_reducible refine Sub.of hk ?_); rfl)
    | with_reducible refine keep_mapTouch ?_ ?_
    | with_reducible refine keep_State_wr ?_ ?_
    | with_reducible refine Keeps.branch ?_ ?_
    | (refine Keeps.maps (hk.bits 19 rfl) ?_; with_reducible assumption)

theorem keep_reportLoc {k : Nat} {a : State} {s : State} {old : SLoc} {new : SLoc}
    (hk : Sub 25839534210 k) (h : Keeps k a s) : Keeps k a (reportLoc s old new) := by
  unfold reportLoc
  repeat' first
    | with_reducible assumption
    | ((with_reducible refine Sub.of hk ?_); rfl)
    | (extract_lets +onlyGivenNames t
       first
       | (refine Keeps.have_ (k := k) (a := a) (t := t) ?_ ?_; unfold t; clear t; rotate_left; intro _; clear_value t; revert t; intros)
       | (clear_value t; revert t; intros))
    | with_reducible refine keep_setBlk ?_ ?_
    | with_reducible refine Keeps.branch ?_ ?_
    | (refine Keeps.stf (hk.bits 26 rfl) ?_; with_reducible assumption)

theorem keep_setStore {k : Nat} {a : State} {s : State} {p : Nat} {l : SLoc}
    (hk : Sub 25839534210 k) (h : Keeps k a s) : Keeps k a (setStore s p l) := by
  unfold setStore
  repeat' first
    | with_reducible assumption
    | ((with_reducible refine Sub.of hk ?_); rfl)
    | with_reducible refine keep_mapTouch ?_ ?_
    | with_reducible refine keep_reportLoc ?_ ?_
    | (refine Keeps.maps (hk.bits 19 rfl) ?_; with_reducible assumption)

theorem keep_returnGroup {k : Nat} {a : State} {s : State} {e : Nat}
    (hk : Sub 25906643074 k) (h : Keeps k a s) : Keeps k a (returnGroup s e) := by
  unfold returnGroup
  repeat' first
    | with_reducible assumption
    | ((with_reducible refine Sub.of hk ?_); rfl)
    | with_reducible refine keep_freeExtentGroup ?_ ?_
    | with_reducible refine Keeps.branch ?_ ?_

theorem keep_endMove {k : Nat} {a : State} {s : State} {e : Nat}
    (hk : Sub 28058321026 k) (h : Keeps k a s) : Keeps k a (endMove s e) := by
  unfold endMove
  repeat' first
    | with_reducible assumption
    | ((with_reducible refine Sub.of hk ?_); rfl)
    | with_reducible refine keep_demote ?_ ?_
    | with_reducible refine keep_returnGroup ?_ ?_
    | with_reducible refine keep_needGroup ?_ ?_
    | with_reducible refine keep_modExtent ?_ ?_
    | with_reducible refine keep_promote ?_ ?_
    | with_reducible refine keep_chargeEmptied ?_ ?_
    | with_reducible refine Keeps.ofPair (by assumption) ?_
    | with_reducible refine Keeps.branch ?_ ?_
    | split
    | (refine Keeps.tie (hk.bits 27 rfl) ?_; with_reducible assumption)

theorem keep_checkMove {k : Nat} {a : State} {s : State} {e : Nat}
    (hk : Sub 28058321026 k) (h : Keeps k a s) : Keeps k a (checkMove s e) := by
  unfold checkMove
  repeat' first
    | with_reducible assumption
    | ((with_reducible refine Sub.of hk ?_); rfl)
    | with_reducible refine keep_endMove ?_ ?_
    | with_reducible refine keep_withTag ?_ ?_
    | split
    | (refine Keeps.tie (hk.bits 27 rfl) ?_; first | with_reducible assumption | with_reducible refine keep_endMove ?_ ?_ | with_reducible refine keep_withTag ?_ ?_)

theorem keep_unpark {k : Nat} {a : State} {s : State} {p : Nat}
    (hk : Sub 536870912 k) (h : Keeps k a s) : Keeps k a (unpark s p) := by
  unfold unpark
  repeat' first
    | with_reducible assumption
    | ((with_reducible refine Sub.of hk ?_); rfl)
    | (refine Keeps.xpt (hk.bits 29 rfl) ?_; first | with_reducible assumption)

theorem keep_installResync {k : Nat} {a : State} {s : State} {p : Nat} {ep : Nat} {zero : Bool} {poison : Nat} {data : List Nat}
    (hk : Sub 28662300802 k) (h : Keeps k a s) : Keeps k a (installResync s p ep zero poison data).1 := by
  unfold installResync
  repeat' first
    | with_reducible assumption
    | ((with_reducible refine Sub.of hk ?_); rfl)
    | (extract_lets +onlyGivenNames t
       first
       | (refine Keeps.have_ (k := k) (a := a) (t := t) ?_ ?_; unfold t; clear t; rotate_left; intro _; clear_value t; revert t; intros)
       | (revert t; intros))
    | with_reducible refine keep_streamLookup ?_ ?_
    | with_reducible refine keep_setStore ?_ ?_
    | with_reducible refine keep_firstWrite ?_ ?_
    | with_reducible refine keep_chargeOwner ?_ ?_
    | with_reducible refine keep_checkMove ?_ ?_
    | with_reducible refine keep_needGroup ?_ ?_
    | with_reducible refine keep_frameFill ?_ ?_
    | with_reducible refine keep_modExtent ?_ ?_
    | with_reducible refine keep_freeExtentGroup ?_ ?_
    | with_reducible refine keep_frameSound ?_ ?_
    | with_reducible refine keep_unfetch ?_ ?_
    | with_reducible refine keep_setPage ?_ ?_
    | with_reducible refine keep_unpark ?_ ?_
    | split
    | (refine Keeps.twn (hk.bits 31 rfl) ?_; with_reducible assumption)
    | (refine Keeps.tie (hk.bits 27 rfl) ?_; with_reducible assumption)
    | (refine Keeps.dram (hk.bits 22 rfl) ?_ (fun g => Memory.wf_memZero g); with_reducible assumption)
    | exact Keeps.build 2285895680 (hk.of rfl) (by assumption) (by rfl) (by rfl) (by exact fun p hp => by cases p <;> first | exact absurd hp (by decide) | rfl) (by exact List.suffix_refl _) (by exact grown_refl _) (by intro g; with_reducible first | exact Memory.wf_memZero g | exact Memory.wf_memWrite g | exact Memory.wf_memPaste g | exact g | rfl) (by exact id)

theorem keep_freeSlots {k : Nat} {a : State} {s : State} {vc : Nat} {n : Nat}
    (hk : Sub 2147483648 k) (h : Keeps k a s) : Keeps k a (freeSlots s vc n) := by
  unfold freeSlots
  repeat' first
    | with_reducible assumption
    | ((with_reducible refine Sub.of hk ?_); rfl)
    | (refine Keeps.twn (hk.bits 31 rfl) ?_; first | with_reducible assumption)

theorem keep_dropOld {k : Nat} {a : State} {s : State} {p : Nat} {ep : Nat}
    (hk : Sub 28454158338 k) (h : Keeps k a s) : Keeps k a (dropOld s p ep) := by
  unfold dropOld
  repeat' first
    | with_reducible assumption
    | ((with_reducible refine Sub.of hk ?_); rfl)
    | intro _
    | with_reducible refine keep_forwardEnds ?_ ?_
    | with_reducible refine keep_twinSend ?_ ?_
    | with_reducible refine keep_freeSlots ?_ ?_
    | (with_reducible refine Keeps.foldl ?_ ?_)
    | split
    | (refine Keeps.twn (hk.bits 31 rfl) ?_; with_reducible assumption)

theorem keep_unfence {k : Nat} {a : State} {s : State} {p : Nat}
    (hk : Sub 25773473922 k) (h : Keeps k a s) : Keeps k a (unfence s p) := by
  unfold unfence
  repeat' first
    | with_reducible assumption
    | ((with_reducible refine Sub.of hk ?_); rfl)
    | with_reducible refine keep_logTouch ?_ ?_
    | with_reducible refine keep_showFences ?_ ?_
    | with_reducible refine keep_setPage ?_ ?_
    | with_reducible refine Keeps.branch ?_ ?_
    | (refine Keeps.log (hk.bits 20 rfl) ?_; with_reducible assumption)

theorem keep_pendAdd {k : Nat} {a : State} {s : State} {p : Nat} {mirrors : Nat} {forwards : Nat}
    (hk : Sub 2147483650 k) (h : Keeps k a s) : Keeps k a (pendAdd s p mirrors forwards) := by
  unfold pendAdd
  repeat' first
    | with_reducible assumption
    | ((with_reducible refine Sub.of hk ?_); rfl)
    | with_reducible refine keep_showPend ?_ ?_
    | (refine Keeps.twn (hk.bits 31 rfl) ?_; with_reducible assumption)

theorem keep_sendResync {k : Nat} {a : State} {s : State} {p : Nat} {fence : Bool}
    (hk : Sub 27919384578 k) (h : Keeps k a s) : Keeps k a (sendResync s p fence) := by
  unfold sendResync
  repeat' first
    | with_reducible assumption
    | ((with_reducible refine Sub.of hk ?_); rfl)
    | with_reducible refine keep_streamLookup ?_ ?_
    | with_reducible refine keep_pendAdd ?_ ?_
    | with_reducible refine keep_withTag ?_ ?_
    | with_reducible refine Keeps.branch ?_ ?_
    | (refine Keeps.twn (hk.bits 31 rfl) ?_; first | with_reducible assumption | with_reducible refine keep_streamLookup ?_ ?_ | with_reducible refine keep_pendAdd ?_ ?_ | with_reducible refine keep_withTag ?_ ?_)

theorem keep_fencePage {k : Nat} {a : State} {s : State} {p : Nat} {twinEpoch : Nat} {own : Nat} {twin : Nat}
    (hk : Sub 28059369602 k) (h : Keeps k a s) : ∀ t, fencePage s p twinEpoch own twin = some t → Keeps k a t := by
  intro t ht
  unfold fencePage at ht
  split at ht
  · contradiction
  · extract_lets l u v w at ht
    obtain rfl := Option.some.inj ht
    have hu : Keeps k a u := keep_showFences (hk.of rfl) (Keeps.log (hk.bits 20 rfl) h)
    have hv : Keeps k a v := keep_logTouch (hk.of rfl) hu
    have hw : Keeps k a w := by
      unfold w
      split
      · exact keep_setPage (hk.of rfl) hv
      · exact keep_wantPage (hk.of rfl) hv
    exact keep_raise (hk.of rfl) hw

theorem keep_tryResync {k : Nat} {a : State} {s : State} {tag : Nat} {ep : Nat} {p : Nat} {zero : Bool} {fence : Bool} {poison : Nat} {data : List Nat}
    (hk : Sub 28663349378 k) (h : Keeps k a s) : Keeps k a (tryResync s tag ep p zero fence poison data).1 := by
  unfold tryResync
  repeat' first
    | with_reducible assumption
    | ((with_reducible refine Sub.of hk ?_); rfl)
    | with_reducible refine keep_markLog ?_ ?_
    | with_reducible refine keep_installResync ?_ ?_
    | with_reducible refine keep_dropOld ?_ ?_
    | with_reducible refine keep_twinSend ?_ ?_
    | with_reducible refine keep_unfence ?_ ?_
    | with_reducible refine keep_sendResync ?_ ?_
    | with_reducible refine keep_fencePage ?_ ?_ _ (by assumption)
    | with_reducible refine keep_State_bump ?_ ?_
    | with_reducible refine keep_raise ?_ ?_
    | with_reducible refine Keeps.branch_fst ?_ ?_
    | split
    | (refine Keeps.twn (hk.bits 31 rfl) ?_; first | with_reducible assumption | with_reducible refine keep_markLog ?_ ?_ | with_reducible refine keep_installResync ?_ ?_ | with_reducible refine keep_dropOld ?_ ?_ | with_reducible refine keep_twinSend ?_ ?_ | with_reducible refine keep_unfence ?_ ?_ | with_reducible refine keep_sendResync ?_ ?_ | with_reducible refine keep_State_bump ?_ ?_ | with_reducible refine keep_raise ?_ ?_ | with_reducible refine keep_fencePage ?_ ?_ _ (by assumption))

theorem keep_tryFwdAtomic {k : Nat} {a : State} {s : State} {tag : Nat} {p : Nat} {line : Nat} {word : Nat} {fadd : Bool} {arg : Nat} {swap : Nat}
    (hk : Sub 28604629122 k) (h : Keeps k a s) : Keeps k a (tryFwdAtomic s tag p line word fadd arg swap).1 := by
  unfold tryFwdAtomic
  repeat' first
    | with_reducible assumption
    | ((with_reducible refine Sub.of hk ?_); rfl)
    | with_reducible refine keep_readyIn ?_ ?_
    | with_reducible refine keep_placeData ?_ ?_
    | with_reducible refine keep_twinSend ?_ ?_
    | with_reducible refine keep_partLines ?_ ?_
    | with_reducible refine Keeps.branch_fst ?_ ?_

theorem keep_tryMirror {k : Nat} {a : State} {s : State} {tag : Nat} {ep : Nat} {p : Nat} {off : Nat} {bs : List Nat}
    (hk : Sub 28604629122 k) (h : Keeps k a s) : Keeps k a (tryMirror s tag ep p off bs).1 := by
  unfold tryMirror
  repeat' first
    | with_reducible assumption
    | ((with_reducible refine Sub.of hk ?_); rfl)
    | with_reducible refine keep_readyIn ?_ ?_
    | with_reducible refine keep_placeIn ?_ ?_
    | with_reducible refine keep_twinSend ?_ ?_
    | with_reducible refine keep_partLines ?_ ?_
    | with_reducible refine Keeps.branch_fst ?_ ?_
    | split

theorem keep_tryMsg {k : Nat} {a : State} {s : State} {m : Msg}
    (hk : Sub 28671737986 k) (h : Keeps k a s) : Keeps k a (tryMsg s m).1 := by
  unfold tryMsg
  repeat' first
    | with_reducible assumption
    | ((with_reducible refine Sub.of hk ?_); rfl)
    | with_reducible refine keep_tryForward ?_ ?_
    | with_reducible refine keep_tryTread ?_ ?_
    | with_reducible refine keep_tryOrdered ?_ ?_
    | with_reducible refine keep_tryResync ?_ ?_
    | with_reducible refine keep_tryFwdAtomic ?_ ?_
    | with_reducible refine keep_tryMirror ?_ ?_
    | split

theorem keep_retryHeld {k : Nat} {a : State} {s : State}
    (hk : Sub 28671737986 k) (h : Keeps k a s) : Keeps k a (retryHeld s) := by
  unfold retryHeld
  repeat' first
    | with_reducible assumption
    | ((with_reducible refine Sub.of hk ?_); rfl)
    | intro _
    | with_reducible refine keep_gapNotice ?_ ?_
    | with_reducible refine keep_tryMsg ?_ ?_
    | with_reducible refine keep_freeSlots ?_ ?_
    | (with_reducible refine Keeps.foldl ?_ ?_)
    | with_reducible refine Keeps.branch ?_ ?_
    | (refine Keeps.twn (hk.bits 31 rfl) ?_; first | with_reducible assumption | with_reducible refine keep_gapNotice ?_ ?_ | with_reducible refine keep_tryMsg ?_ ?_ | with_reducible refine keep_freeSlots ?_ ?_)

theorem keep_twinDepart {k : Nat} {a : State} {cause : Nat} {s : State}
    (hk : Sub 29745480066 k) (h : Keeps k a s) : Keeps k a (twinDepart cause s) := by
  unfold twinDepart
  repeat' first
    | with_reducible assumption
    | ((with_reducible refine Sub.of hk ?_); rfl)
    | with_reducible refine keep_setRole ?_ ?_
    | with_reducible refine keep_showPend ?_ ?_
    | with_reducible refine keep_hostsOff ?_ ?_
    | with_reducible refine keep_State_wr ?_ ?_
    | with_reducible refine keep_twinGone ?_ ?_
    | with_reducible refine keep_retryHeld ?_ ?_
    | with_reducible refine keep_setTState ?_ ?_
    | with_reducible refine keep_withTag ?_ ?_
    | with_reducible refine Keeps.branch ?_ ?_
    | split
    | (refine Keeps.twn (hk.bits 31 rfl) ?_; first | with_reducible assumption | with_reducible refine keep_setRole ?_ ?_ | with_reducible refine keep_showPend ?_ ?_ | with_reducible refine keep_hostsOff ?_ ?_ | with_reducible refine keep_State_wr ?_ ?_ | with_reducible refine keep_twinGone ?_ ?_ | with_reducible refine keep_retryHeld ?_ ?_ | with_reducible refine keep_setTState ?_ ?_ | with_reducible refine keep_withTag ?_ ?_)

theorem keep_gaitDrop {k : Nat} {a : State} {s : State}
    (hk : Sub 10 k) (h : Keeps k a s) : Keeps k a (gaitDrop s) := by
  unfold gaitDrop
  repeat' first
    | with_reducible assumption
    | ((with_reducible refine Sub.of hk ?_); rfl)
    | with_reducible refine keep_State_wr ?_ ?_
    | (refine Keeps.gai (hk.bits 3 rfl) ?_; with_reducible assumption)

theorem keep_restartRecorder {k : Nat} {a : State} {s : State}
    (hk : Sub 128 k) (h : Keeps k a s) : Keeps k a (restartRecorder s) := by
  unfold restartRecorder
  repeat' first
    | with_reducible assumption
    | ((with_reducible refine Sub.of hk ?_); rfl)
    | (refine Keeps.recd (hk.bits 7 rfl) ?_; first | with_reducible assumption)

theorem keep_setRetain {k : Nat} {a : State} {s : State} {warm : Bool} {latched : Bool}
    (hk : Sub 66 k) (h : Keeps k a s) : Keeps k a (setRetain s warm latched) := by
  unfold setRetain
  repeat' first
    | with_reducible assumption
    | ((with_reducible refine Sub.of hk ?_); rfl)
    | with_reducible refine keep_setBkp ?_ ?_
    | with_reducible refine keep_State_wr ?_ ?_

theorem keep_reportSvc {k : Nat} {a : State} {s : State}
    (hk : Sub 25769803904 k) (h : Keeps k a s) : Keeps k a (reportSvc s) := by
  unfold reportSvc
  repeat' first
    | with_reducible assumption
    | ((with_reducible refine Sub.of hk ?_); rfl)
    | with_reducible refine keep_raise ?_ ?_
    | split

theorem keep_portsIdle {k : Nat} {a : State} {s : State} {p : Nat → Bool}
    (hk : Sub 1073741826 k) (h : Keeps k a s) : Keeps k a (portsIdle s p) := by
  unfold portsIdle
  repeat' first
    | with_reducible assumption
    | ((with_reducible refine Sub.of hk ?_); rfl)
    | intro _
    | with_reducible refine keep_State_wr ?_ ?_
    | (with_reducible refine Keeps.foldl ?_ ?_)
    | with_reducible refine Keeps.branch ?_ ?_
    | (refine Keeps.prt (hk.bits 30 rfl) ?_; with_reducible assumption)

theorem keep_warmReset {k : Nat} {a : State} {s : State} {q : ResetReq}
    (hk : Sub 64424509435 k) (h : Keeps k a s) : Keeps k a (warmReset s q) := by
  unfold warmReset
  repeat' first
    | with_reducible assumption
    | ((with_reducible refine Sub.of hk ?_); rfl)
    | with_reducible refine keep_reportEnds ?_ ?_
    | with_reducible refine keep_drainWrites ?_ ?_
    | with_reducible refine keep_recordReset ?_ ?_
    | with_reducible refine keep_drainHopper ?_ ?_
    | with_reducible refine keep_afterReset ?_ ?_
    | with_reducible refine keep_holdWriters ?_ ?_
    | with_reducible refine keep_warmBlocks ?_ ?_
    | with_reducible refine keep_stopMst ?_ ?_
    | with_reducible refine keep_assertOutputs ?_ ?_
    | with_reducible refine keep_showSeals ?_ ?_
    | with_reducible refine keep_twinWritePending ?_ ?_
    | with_reducible refine keep_startRising ?_ ?_
    | with_reducible refine keep_stopMoves ?_ ?_
    | with_reducible refine keep_dropMstReqs ?_ ?_
    | with_reducible refine keep_twinDepart ?_ ?_
    | with_reducible refine keep_gaitDrop ?_ ?_
    | with_reducible refine keep_restartRecorder ?_ ?_
    | with_reducible refine keep_setRetain ?_ ?_
    | with_reducible refine keep_reportSvc ?_ ?_
    | with_reducible refine keep_portsIdle ?_ ?_

theorem keep_coldBlocks {k : Nat} {a : State} {s : State}
    (hk : Sub 55834541994 k) (h : Keeps k a s) : Keeps k a (coldBlocks s) := by
  unfold coldBlocks
  dsimp only
  refine h.trans ⟨fun p hp => ?_, rfl, rfl, List.suffix_refl _, grown_refl _, fun _ => rfl, fun g => ?_⟩
  · cases p <;> first | rfl | exact absurd (hk.bits _ rfl) (by rw [hp]; decide)
  · obtain ⟨⟨⟨⟨v, w⟩, x, y⟩, z⟩, b0, b1⟩ := g
    refine ⟨⟨⟨⟨?_, ?_⟩, ?_, ?_⟩, ?_⟩, ?_, ?_⟩ <;> dsimp only
    · exact Sparse.wf_keep v
    · exact Sparse.wf_keep w
    · exact Sparse.wf_keep x
    · exact Sparse.wf_keep y
    · exact Sparse.wf_keep z
    · exact Sparse.wf_keep b0
    · exact Sparse.wf_keep b1

theorem keep_coldEffect {k : Nat} {a : State} {s : State} {q : ResetReq}
    (hk : Sub 64424476650 k) (h : Keeps k a s) : Keeps k a (coldEffect s q) := by
  unfold coldEffect
  repeat' first
    | with_reducible assumption
    | ((with_reducible refine Sub.of hk ?_); rfl)
    | with_reducible refine keep_reportEnds ?_ ?_
    | with_reducible refine keep_recordReset ?_ ?_
    | with_reducible refine keep_assertOutputs ?_ ?_
    | with_reducible refine keep_restartRecorder ?_ ?_
    | with_reducible refine keep_showClusters ?_ ?_
    | with_reducible refine keep_coldBlocks ?_ ?_
    | with_reducible refine keep_setRetain ?_ ?_
    | with_reducible refine keep_State_wr ?_ ?_
    | with_reducible refine keep_reportSvc ?_ ?_
    | with_reducible refine Keeps.branch ?_ ?_
    | (refine Keeps.rst (hk.bits 5 rfl) ?_; first | with_reducible assumption | with_reducible refine keep_reportEnds ?_ ?_ | with_reducible refine keep_recordReset ?_ ?_ | with_reducible refine keep_assertOutputs ?_ ?_ | with_reducible refine keep_restartRecorder ?_ ?_ | with_reducible refine keep_showClusters ?_ ?_ | with_reducible refine keep_coldBlocks ?_ ?_ | with_reducible refine keep_setRetain ?_ ?_ | with_reducible refine keep_State_wr ?_ ?_ | with_reducible refine keep_reportSvc ?_ ?_)

theorem keep_operation {k : Nat} {a : State} {s : State} {r : Nat} {m : Nat}
    (hk : Sub 8589934592 k) (h : Keeps k a s) : Keeps k a (operation s r m) := by
  unfold operation
  repeat' first
    | with_reducible assumption
    | ((with_reducible refine Sub.of hk ?_); rfl)
    | with_reducible refine keep_State_emit ?_ ?_

theorem keep_showMargins {k : Nat} {a : State} {s : State}
    (hk : Sub 2 k) (h : Keeps k a s) : Keeps k a (showMargins s) := by
  unfold showMargins
  repeat' first
    | with_reducible assumption
    | ((with_reducible refine Sub.of hk ?_); rfl)
    | with_reducible refine keep_State_wr ?_ ?_

theorem keep_marginsBack {k : Nat} {a : State} {s : State}
    (hk : Sub 8589934866 k) (h : Keeps k a s) : Keeps k a (marginsBack s) := by
  unfold marginsBack
  repeat' first
    | with_reducible assumption
    | ((with_reducible refine Sub.of hk ?_); rfl)
    | intro _
    | (extract_lets +onlyGivenNames t
       first
       | (refine Keeps.have_ (k := k) (a := a) (t := t) ?_ ?_; unfold t; clear t; rotate_left; intro _; clear_value t; revert t; intros))
    | with_reducible refine keep_operation ?_ ?_
    | with_reducible refine keep_showMargins ?_ ?_
    | with_reducible refine keep_cmdFailFree ?_ ?_
    | with_reducible refine keep_State_wr ?_ ?_
    | (with_reducible refine Keeps.foldl ?_ ?_)
    | with_reducible refine Keeps.branch ?_ ?_
    | (refine Keeps.pwr (hk.bits 4 rfl) ?_; with_reducible assumption)

theorem keep_sbProgrammed {k : Nat} {a : State} {s : State} {ks : List Nat}
    (hk : Sub 131072 k) (h : Keeps k a s) : Keeps k a (sbProgrammed s ks) := by
  unfold sbProgrammed
  repeat' first
    | with_reducible assumption
    | ((with_reducible refine Sub.of hk ?_); rfl)
    | (refine Keeps.sav (hk.bits 17 rfl) ?_; first | with_reducible assumption)

theorem keep_sbStale {k : Nat} {a : State} {s : State} {ks : List Nat}
    (hk : Sub 25772425346 k) (h : Keeps k a s) : Keeps k a (sbStale s ks) := by
  unfold sbStale
  repeat' first
    | with_reducible assumption
    | ((with_reducible refine Sub.of hk ?_); rfl)
    | intro _
    | with_reducible refine keep_setBlk ?_ ?_
    | (with_reducible refine Keeps.foldl ?_ ?_)
    | with_reducible refine Keeps.branch ?_ ?_

theorem keep_rehearsalLeft {k : Nat} {a : State} {s : State}
    (hk : Sub 25772556418 k) (h : Keeps k a s) : Keeps k a (rehearsalLeft s) := by
  unfold rehearsalLeft
  repeat' first
    | with_reducible assumption
    | ((with_reducible refine Sub.of hk ?_); rfl)
    | with_reducible refine keep_sbProgrammed ?_ ?_
    | with_reducible refine keep_sbStale ?_ ?_
    | split

theorem keep_endRehearsal {k : Nat} {a : State} {s : State}
    (hk : Sub 25772556674 k) (h : Keeps k a s) : Keeps k a (endRehearsal s) := by
  unfold endRehearsal
  repeat' first
    | with_reducible assumption
    | ((with_reducible refine Sub.of hk ?_); rfl)
    | with_reducible refine keep_rehearsalLeft ?_ ?_
    | with_reducible refine keep_cmdFailFree ?_ ?_
    | with_reducible refine Keeps.branch ?_ ?_
    | (refine Keeps.sav (hk.bits 17 rfl) ?_; first | with_reducible assumption | with_reducible refine keep_rehearsalLeft ?_ ?_ | with_reducible refine keep_cmdFailFree ?_ ?_)

theorem keep_endCal {k : Nat} {a : State} {s : State}
    (hk : Sub 25769869698 k) (h : Keeps k a s) : Keeps k a (endCal s) := by
  unfold endCal
  repeat' first
    | with_reducible assumption
    | ((with_reducible refine Sub.of hk ?_); rfl)
    | with_reducible refine keep_cmdFailFree ?_ ?_
    | with_reducible refine keep_raise ?_ ?_
    | with_reducible refine keep_State_wr ?_ ?_
    | split
    | (refine Keeps.cal (hk.bits 16 rfl) ?_; with_reducible assumption)

theorem keep_farRevoke {k : Nat} {a : State} {s : State}
    (hk : Sub 25803358338 k) (h : Keeps k a s) : Keeps k a (farRevoke s) := by
  unfold farRevoke
  repeat' first
    | with_reducible assumption
    | ((with_reducible refine Sub.of hk ?_); rfl)
    | intro _
    | with_reducible refine keep_showFar ?_ ?_
    | with_reducible refine keep_raise ?_ ?_
    | (with_reducible refine Keeps.foldl ?_ ?_)
    | (refine Keeps.far (hk.bits 25 rfl) ?_; with_reducible assumption)

theorem keep_endTest {k : Nat} {a : State} {s : State}
    (hk : Sub 262418 k) (h : Keeps k a s) : Keeps k a (endTest s) := by
  unfold endTest
  repeat' first
    | with_reducible assumption
    | ((with_reducible refine Sub.of hk ?_); rfl)
    | with_reducible refine keep_cmdFailFree ?_ ?_
    | with_reducible refine keep_State_wr ?_ ?_
    | split
    | (refine Keeps.pwr (hk.bits 4 rfl) ?_; with_reducible assumption)
    | (refine Keeps.gov (hk.bits 18 rfl) ?_; with_reducible assumption)
    | exact Keeps.build 262160 (hk.of rfl) (by assumption) (by rfl) (by rfl) (by exact fun p hp => by cases p <;> first | exact absurd hp (by decide) | rfl) (by exact List.suffix_refl _) (by exact grown_refl _) (by exact id) (by exact id)

theorem keep_revokeTokens {k : Nat} {a : State} {s : State}
    (hk : Sub 25806438802 k) (h : Keeps k a s) : Keeps k a (revokeTokens s) := by
  unfold revokeTokens
  repeat' first
    | with_reducible assumption
    | ((with_reducible refine Sub.of hk ?_); rfl)
    | with_reducible refine keep_endRehearsal ?_ ?_
    | with_reducible refine keep_endCal ?_ ?_
    | with_reducible refine keep_farRevoke ?_ ?_
    | with_reducible refine keep_endTest ?_ ?_

theorem keep_startSave {k : Nat} {a : State} {s : State} {c : SaveCause}
    (hk : Sub 27417051547 k) (h : Keeps k a s) : Keeps k a (startSave s c) := by
  unfold startSave
  repeat' first
    | with_reducible assumption
    | ((with_reducible refine Sub.of hk ?_); rfl)
    | intro _
    | with_reducible refine keep_setDev ?_ ?_
    | with_reducible refine keep_marginsBack ?_ ?_
    | with_reducible refine keep_gaitDrop ?_ ?_
    | with_reducible refine keep_revokeTokens ?_ ?_
    | with_reducible refine keep_holdWriters ?_ ?_
    | with_reducible refine keep_State_bump ?_ ?_
    | with_reducible refine keep_raise ?_ ?_
    | with_reducible refine keep_State_wr ?_ ?_
    | (with_reducible refine Keeps.foldl ?_ ?_)
    | with_reducible refine Keeps.branch ?_ ?_
    | (refine Keeps.sav (hk.bits 17 rfl) ?_; first | with_reducible assumption | with_reducible refine keep_setDev ?_ ?_ | with_reducible refine keep_marginsBack ?_ ?_ | with_reducible refine keep_gaitDrop ?_ ?_ | with_reducible refine keep_revokeTokens ?_ ?_ | with_reducible refine keep_holdWriters ?_ ?_ | with_reducible refine keep_State_bump ?_ ?_ | with_reducible refine keep_raise ?_ ?_ | with_reducible refine keep_State_wr ?_ ?_)

theorem keep_startFall {k : Nat} {a : State} {s : State} {i : Nat} {why : Nat}
    (hk : Sub 25769803923 k) (h : Keeps k a s) : Keeps k a (startFall s i why) := by
  unfold startFall
  repeat' first
    | with_reducible assumption
    | ((with_reducible refine Sub.of hk ?_); rfl)
    | with_reducible refine keep_stepBegin ?_ ?_
    | with_reducible refine keep_State_wr ?_ ?_
    | with_reducible refine keep_setDev ?_ ?_

theorem keep_powerDown {k : Nat} {a : State} {s : State} {c : SaveCause}
    (hk : Sub 27417051547 k) (h : Keeps k a s) : Keeps k a (powerDown s c) := by
  unfold powerDown
  repeat' first
    | with_reducible assumption
    | ((with_reducible refine Sub.of hk ?_); rfl)
    | with_reducible refine keep_startSave ?_ ?_
    | with_reducible refine keep_State_wr ?_ ?_
    | with_reducible refine keep_startFall ?_ ?_
    | with_reducible refine keep_raise ?_ ?_
    | split
    | (refine Keeps.sav (hk.bits 17 rfl) ?_; with_reducible assumption)

theorem keep_fourOrFive {k : Nat} {a : State} {s : State} {q : ResetReq}
    (hk : Sub 64424509435 k) (h : Keeps k a s) : Keeps k a (fourOrFive s q) := by
  unfold fourOrFive
  repeat' first
    | with_reducible assumption
    | ((with_reducible refine Sub.of hk ?_); rfl)
    | with_reducible refine keep_warmReset ?_ ?_
    | with_reducible refine keep_coldEffect ?_ ?_
    | with_reducible refine keep_powerDown ?_ ?_
    | with_reducible refine keep_startFall ?_ ?_
    | with_reducible refine keep_raise ?_ ?_
    | with_reducible refine keep_State_wr ?_ ?_
    | split
    | (refine Keeps.rst (hk.bits 5 rfl) ?_; with_reducible assumption)

theorem keep_stopSide {k : Nat} {a : State} {s : State}
    (hk : Sub 64424509435 k) (h : Keeps k a s) : Keeps k a (stopSide s) := by
  unfold stopSide
  repeat' first
    | with_reducible assumption
    | ((with_reducible refine Sub.of hk ?_); rfl)
    | intro _
    | with_reducible refine keep_unpair ?_ ?_
    | with_reducible refine keep_setRole ?_ ?_
    | with_reducible refine keep_linkDown ?_ ?_
    | with_reducible refine keep_showPend ?_ ?_
    | with_reducible refine keep_twinWritePending ?_ ?_
    | with_reducible refine keep_fourOrFive ?_ ?_
    | (with_reducible refine Keeps.foldl ?_ ?_)
    | with_reducible refine Keeps.branch ?_ ?_
    | (refine Keeps.twn (hk.bits 31 rfl) ?_; first | with_reducible assumption | with_reducible refine keep_unpair ?_ ?_ | with_reducible refine keep_setRole ?_ ?_ | with_reducible refine keep_linkDown ?_ ?_ | with_reducible refine keep_showPend ?_ ?_ | with_reducible refine keep_twinWritePending ?_ ?_ | with_reducible refine keep_fourOrFive ?_ ?_)

theorem keep_linkOnlyLoss {k : Nat} {a : State} {s : State}
    (hk : Sub 64424509435 k) (h : Keeps k a s) : Keeps k a (linkOnlyLoss s) := by
  unfold linkOnlyLoss
  repeat' first
    | with_reducible assumption
    | ((with_reducible refine Sub.of hk ?_); rfl)
    | with_reducible refine keep_raise ?_ ?_
    | with_reducible refine keep_visilDown ?_ ?_
    | with_reducible refine keep_stopSide ?_ ?_

theorem keep_mergeSent {k : Nat} {a : State} {s : State}
    (hk : Sub 25773473922 k) (h : Keeps k a s) : Keeps k a (mergeSent s) := by
  unfold mergeSent
  repeat' first
    | with_reducible assumption
    | ((with_reducible refine Sub.of hk ?_); rfl)
    | intro _
    | with_reducible refine keep_logTouch ?_ ?_
    | with_reducible refine keep_showLog ?_ ?_
    | (with_reducible refine Keeps.foldl ?_ ?_)
    | with_reducible refine Keeps.branch ?_ ?_
    | (refine Keeps.log (hk.bits 20 rfl) ?_; with_reducible assumption)

theorem keep_placeHome {k : Nat} {a : State} {s : State} {p : Nat} {off : Nat} {bs : List Nat}
    (hk : Sub 27933540482 k) (h : Keeps k a s) : Keeps k a (placeHome s p off bs).1 := by
  unfold placeHome
  repeat' first
    | with_reducible assumption
    | ((with_reducible refine Sub.of hk ?_); rfl)
    | with_reducible refine keep_placeData ?_ ?_
    | with_reducible refine keep_markLog ?_ ?_
    | with_reducible refine keep_pendAdd ?_ ?_
    | with_reducible refine keep_withTag ?_ ?_
    | with_reducible refine Keeps.branch_fst ?_ ?_
    | (refine Keeps.twn (hk.bits 31 rfl) ?_; first | with_reducible assumption | with_reducible refine keep_placeData ?_ ?_ | with_reducible refine keep_markLog ?_ ?_ | with_reducible refine keep_pendAdd ?_ ?_ | with_reducible refine keep_withTag ?_ ?_)

theorem keep_poisonPart {k : Nat} {a : State} {s : State} {x : Part}
    (hk : Sub 25773998208 k) (h : Keeps k a s) : Keeps k a (poisonPart s x) := by
  unfold poisonPart
  repeat' first
    | with_reducible assumption
    | ((with_reducible refine Sub.of hk ?_); rfl)
    | intro _
    | with_reducible refine keep_writePoison ?_ ?_
    | (with_reducible refine Keeps.foldl ?_ ?_)
    | split

theorem keep_reexecute {k : Nat} {a : State} {s : State} {r : Req} {k' : Nat} {x : Part}
    (hk : Sub 28470411394 k) (h : Keeps k a s) : Keeps k a (reexecute s r k' x) := by
  unfold reexecute
  repeat' first
    | with_reducible assumption
    | ((with_reducible refine Sub.of hk ?_); rfl)
    | with_reducible refine keep_setReq ?_ ?_
    | with_reducible refine keep_State_bump ?_ ?_
    | with_reducible refine keep_placeHome ?_ ?_
    | with_reducible refine keep_poisonPart ?_ ?_
    | with_reducible refine keep_forwardFailed ?_ ?_
    | with_reducible refine keep_forwardDone ?_ ?_
    | with_reducible refine Keeps.branch ?_ ?_

theorem keep_soloParts {k : Nat} {a : State} {s : State}
    (hk : Sub 28470411394 k) (h : Keeps k a s) : Keeps k a (soloParts s) := by
  unfold soloParts
  repeat' first
    | with_reducible assumption
    | ((with_reducible refine Sub.of hk ?_); rfl)
    | intro _
    | with_reducible refine keep_reexecute ?_ ?_
    | with_reducible refine keep_setReq ?_ ?_
    | with_reducible refine keep_settle ?_ ?_
    | (with_reducible refine Keeps.foldl ?_ ?_)
    | split

theorem keep_soloMoves {k : Nat} {a : State} {s : State}
    (hk : Sub 28595191938 k) (h : Keeps k a s) : Keeps k a (soloMoves s) := by
  unfold soloMoves
  repeat' first
    | with_reducible assumption
    | ((with_reducible refine Sub.of hk ?_); rfl)
    | intro _
    | (extract_lets +onlyGivenNames t
       first
       | (refine Keeps.have_ (k := k) (a := a) (t := t) ?_ ?_; unfold t; clear t; rotate_left; intro _; clear_value t; revert t; intros)
       | (clear_value t; revert t; intros)
       | (unfold t; clear t))
    | with_reducible refine keep_checkMove ?_ ?_
    | with_reducible refine keep_endMove ?_ ?_
    | (with_reducible refine Keeps.foldl ?_ ?_)
    | (with_reducible refine Keeps.foldl_fst ?_ ?_)
    | with_reducible refine Keeps.branch ?_ ?_
    | split
    | (refine Keeps.xpt (hk.bits 29 rfl) ?_; first | with_reducible assumption | with_reducible refine keep_checkMove ?_ ?_ | with_reducible refine keep_endMove ?_ ?_)
    | (refine Keeps.tie (hk.bits 27 rfl) ?_; first | with_reducible assumption | with_reducible refine keep_checkMove ?_ ?_ | with_reducible refine keep_endMove ?_ ?_)
    | exact Keeps.build 671088640 (hk.of rfl) (by first | assumption | exact keep_checkMove (hk.of rfl) (by assumption) | exact keep_endMove (hk.of rfl) (by assumption)) (by rfl) (by rfl) (by exact fun p hp => by cases p <;> first | exact absurd hp (by decide) | rfl) (by exact List.suffix_refl _) (by exact grown_refl _) (by exact id) (by exact id)
    | exact Keeps.build 671088640 (hk.of rfl) h (by rfl) (by rfl) (by exact fun p hp => by cases p <;> first | exact absurd hp (by decide) | rfl) (by exact List.suffix_refl _) (by exact grown_refl _) (by exact id) (by exact id)

theorem keep_drawn {k : Nat} {a : State} {s : State}
    (hk : Sub 4294975488 k) (h : Keeps k a s) : Keeps k a (drawn s) := by
  unfold drawn
  repeat' first
    | with_reducible assumption
    | ((with_reducible refine Sub.of hk ?_); rfl)
    | (refine Keeps.key (hk.bits 13 rfl) ?_; first | with_reducible assumption)
    | (refine Keeps.draws (hk.bits 32 rfl) ?_; first | with_reducible assumption)
    | exact Keeps.build 4294975488 (hk.of rfl) (by assumption) (by rfl) (by rfl) (by exact fun p hp => by cases p <;> first | exact absurd hp (by decide) | rfl) (by exact List.suffix_refl _) (by exact grown_refl _) (by exact id) (by exact id)

theorem keep_drawPair {k : Nat} {a : State} {s : State}
    (hk : Sub 30068449410 k) (h : Keeps k a s) : Keeps k a (drawPair s) := by
  unfold drawPair
  repeat' first
    | with_reducible assumption
    | ((with_reducible refine Sub.of hk ?_); rfl)
    | with_reducible refine keep_setPair ?_ ?_
    | with_reducible refine keep_drawn ?_ ?_
    | with_reducible refine Keeps.branch ?_ ?_

theorem keep_markMapReg {k : Nat} {a : State} {s : State} {i : Nat}
    (hk : Sub 25773473922 k) (h : Keeps k a s) : Keeps k a (markMapReg s i) := by
  unfold markMapReg
  repeat' first
    | with_reducible assumption
    | ((with_reducible refine Sub.of hk ?_); rfl)
    | with_reducible refine keep_logTouch ?_ ?_
    | with_reducible refine Keeps.branch ?_ ?_
    | (refine Keeps.log (hk.bits 20 rfl) ?_; with_reducible assumption)

theorem keep_setRegion {k : Nat} {a : State} {s : State} {i : Nat} {r : Region}
    (hk : Sub 25772425346 k) (h : Keeps k a s) : Keeps k a (setRegion s i r) := by
  unfold setRegion
  repeat' first
    | with_reducible assumption
    | ((with_reducible refine Sub.of hk ?_); rfl)
    | with_reducible refine keep_mapTouch ?_ ?_
    | (refine Keeps.maps (hk.bits 19 rfl) ?_; with_reducible assumption)

theorem keep_takeIndex {k : Nat} {a : State} {s : State}
    (hk : Sub 524288 k) (h : Keeps k a s) : Keeps k a (takeIndex s).1 := by
  unfold takeIndex
  repeat' first
    | with_reducible assumption
    | ((with_reducible refine Sub.of hk ?_); rfl)
    | split
    | (refine Keeps.maps (hk.bits 19 rfl) ?_; first | with_reducible assumption)

theorem keep_sallocEvent {k : Nat} {a : State} {old : State} {new : State} {t : Nat}
    (hk : Sub 25769803904 k) (h : Keeps k a new) : Keeps k a (sallocEvent old new t) := by
  unfold sallocEvent
  dsimp only
  split
  · exact keep_raise (hk.of rfl) h
  · exact h

theorem keep_markMapExt {k : Nat} {a : State} {s : State} {e : Nat}
    (hk : Sub 25773473922 k) (h : Keeps k a s) : Keeps k a (markMapExt s e) := by
  unfold markMapExt
  repeat' first
    | with_reducible assumption
    | ((with_reducible refine Sub.of hk ?_); rfl)
    | with_reducible refine keep_setLog ?_ ?_
    | with_reducible refine Keeps.branch ?_ ?_

theorem keep_allocExtents {k : Nat} {a : State} {s : State} {r : Region}
    (hk : Sub 25773473922 k) (h : Keeps k a s) : Keeps k a (allocExtents s r) := by
  unfold allocExtents
  repeat' first
    | with_reducible assumption
    | ((with_reducible refine Sub.of hk ?_); rfl)
    | intro _
    | with_reducible refine keep_sallocEvent ?_ ?_
    | with_reducible refine keep_setExtent ?_ ?_
    | with_reducible refine keep_markMapExt ?_ ?_
    | (with_reducible refine Keeps.foldl ?_ ?_)
    | with_reducible refine Keeps.branch ?_ ?_

theorem keep_registerHere {k : Nat} {a : State} {s : State} {r : Region}
    (hk : Sub 30068449410 k) (h : Keeps k a s) : Keeps k a (registerHere s r).1 := by
  unfold registerHere
  repeat' first
    | with_reducible assumption
    | ((with_reducible refine Sub.of hk ?_); rfl)
    | with_reducible refine keep_markMapReg ?_ ?_
    | with_reducible refine keep_setRegion ?_ ?_
    | with_reducible refine keep_takeIndex ?_ ?_
    | with_reducible refine keep_drawn ?_ ?_
    | with_reducible refine keep_allocExtents ?_ ?_
    | with_reducible refine keep_raise ?_ ?_
    | (refine Keeps.maps (hk.bits 19 rfl) ?_; first | with_reducible assumption | with_reducible refine keep_markMapReg ?_ ?_ | with_reducible refine keep_setRegion ?_ ?_ | with_reducible refine keep_takeIndex ?_ ?_ | with_reducible refine keep_drawn ?_ ?_ | with_reducible refine keep_allocExtents ?_ ?_ | with_reducible refine keep_raise ?_ ?_)

theorem keep_cmdDone {k : Nat} {a : State} {s : State} {e : Nat}
    (hk : Sub 256 k) (h : Keeps k a s) : Keeps k a (cmdDone s e) := by
  unfold cmdDone
  repeat' first
    | with_reducible assumption
    | ((with_reducible refine Sub.of hk ?_); rfl)
    | with_reducible refine keep_setCmd ?_ ?_

theorem keep_setSessEnt {k : Nat} {a : State} {s : State} {sess : Nat} {e : Nat} {v : Nat}
    (hk : Sub 256 k) (h : Keeps k a s) : Keeps k a (setSessEnt s sess e v) := by
  unfold setSessEnt
  repeat' first
    | with_reducible assumption
    | ((with_reducible refine Sub.of hk ?_); rfl)
    | (refine Keeps.dic (hk.bits 8 rfl) ?_; first | with_reducible assumption)

theorem keep_regDone {k : Nat} {a : State} {s : State} {sess : Nat} {i : Nat} {rkey : Nat}
    (hk : Sub 256 k) (h : Keeps k a s) : Keeps k a (regDone s sess i rkey) := by
  unfold regDone
  repeat' first
    | with_reducible assumption
    | ((with_reducible refine Sub.of hk ?_); rfl)
    | with_reducible refine keep_cmdDone ?_ ?_
    | with_reducible refine keep_setSessEnt ?_ ?_

theorem keep_refuseMap {k : Nat} {a : State} {s : State} {cmd : Nat} {reason : Nat} {tenant : Nat}
    (hk : Sub 25769803904 k) (h : Keeps k a s) : Keeps k a (refuseMap s cmd reason tenant) := by
  unfold refuseMap
  repeat' first
    | with_reducible assumption
    | ((with_reducible refine Sub.of hk ?_); rfl)
    | with_reducible refine keep_raise ?_ ?_

theorem keep_waitMap {k : Nat} {a : State} {s : State} {w : MapWait}
    (hk : Sub 2147483648 k) (h : Keeps k a s) : Keeps k a (waitMap s w) := by
  unfold waitMap
  repeat' first
    | with_reducible assumption
    | ((with_reducible refine Sub.of hk ?_); rfl)
    | (refine Keeps.twn (hk.bits 31 rfl) ?_; first | with_reducible assumption)

theorem keep_registerPair {k : Nat} {a : State} {s : State} {sess : Nat} {r : Region}
    (hk : Sub 32215933314 k) (h : Keeps k a s) : Keeps k a (registerPair s sess r) := by
  unfold registerPair
  repeat' first
    | with_reducible assumption
    | ((with_reducible refine Sub.of hk ?_); rfl)
    | with_reducible refine keep_registerHere ?_ ?_
    | with_reducible refine keep_regDone ?_ ?_
    | with_reducible refine keep_refuseMap ?_ ?_
    | with_reducible refine keep_waitMap ?_ ?_
    | with_reducible refine keep_withTag ?_ ?_
    | with_reducible refine keep_cmdFail ?_ ?_
    | with_reducible refine Keeps.branch ?_ ?_

theorem keep_deregisterHere {k : Nat} {a : State} {s : State} {k' : Nat}
    (hk : Sub 25773473922 k) (h : Keeps k a s) : Keeps k a (deregisterHere s k') := by
  unfold deregisterHere
  repeat' first
    | with_reducible assumption
    | ((with_reducible refine Sub.of hk ?_); rfl)
    | with_reducible refine keep_setRegion ?_ ?_
    | with_reducible refine keep_markMapReg ?_ ?_

theorem keep_deregisterPair {k : Nat} {a : State} {s : State} {sess : Nat} {k' : Nat}
    (hk : Sub 27920957826 k) (h : Keeps k a s) : Keeps k a (deregisterPair s sess k') := by
  unfold deregisterPair
  repeat' first
    | with_reducible assumption
    | ((with_reducible refine Sub.of hk ?_); rfl)
    | with_reducible refine keep_withTag ?_ ?_
    | with_reducible refine keep_deregisterHere ?_ ?_
    | with_reducible refine keep_cmdFail ?_ ?_
    | with_reducible refine keep_cmdDone ?_ ?_
    | with_reducible refine keep_refuseMap ?_ ?_
    | with_reducible refine keep_waitMap ?_ ?_
    | with_reducible refine Keeps.branch ?_ ?_

theorem keep_deallocExtent {k : Nat} {a : State} {s : State} {e : Nat}
    (hk : Sub 25978994818 k) (h : Keeps k a s) : Keeps k a (deallocExtent s e) := by
  unfold deallocExtent
  extract_lets +onlyGivenNames x
  split
  · exact h
  · extract_lets +onlyGivenNames t d u v
    have ht : Keeps k a t := keep_setCharge (hk.of rfl) h
    have hu : Keeps k a u := by
      unfold u
      split
      · refine Keeps.foldl (fun y n hy => ?_) ?_
        · split
          · exact keep_frameSound (hk.of rfl) (keep_setFrame (hk.of rfl) hy)
          · exact hy
        · exact Keeps.dram (hk.bits 22 rfl) ht (fun g => Memory.wf_memZero g)
      · exact ht
    have hv : Keeps k a v := keep_freeExtentGroup (hk.of rfl) hu
    exact keep_markMapExt (hk.of rfl) (keep_setExtent (hk.of rfl)
      (Keeps.foldl (fun y n hy => keep_setStore (hk.of rfl) hy) hv))

theorem keep_deallocHere {k : Nat} {a : State} {s : State} {e : Nat} {n : Nat}
    (hk : Sub 25978994818 k) (h : Keeps k a s) : Keeps k a (deallocHere s e n) := by
  unfold deallocHere
  repeat' first
    | with_reducible assumption
    | ((with_reducible refine Sub.of hk ?_); rfl)
    | intro _
    | with_reducible refine keep_deallocExtent ?_ ?_
    | (with_reducible refine Keeps.foldl ?_ ?_)

theorem keep_deallocPair {k : Nat} {a : State} {s : State} {sess : Nat} {e : Nat} {n : Nat}
    (hk : Sub 28126478722 k) (h : Keeps k a s) : Keeps k a (deallocPair s sess e n) := by
  unfold deallocPair
  repeat' first
    | with_reducible assumption
    | ((with_reducible refine Sub.of hk ?_); rfl)
    | with_reducible refine keep_withTag ?_ ?_
    | with_reducible refine keep_cmdFail ?_ ?_
    | with_reducible refine keep_cmdDone ?_ ?_
    | with_reducible refine keep_refuseMap ?_ ?_
    | with_reducible refine keep_waitMap ?_ ?_
    | with_reducible refine keep_deallocHere ?_ ?_
    | with_reducible refine Keeps.branch ?_ ?_

theorem keep_soloMaps {k : Nat} {a : State} {s : State}
    (hk : Sub 32421454210 k) (h : Keeps k a s) : Keeps k a (soloMaps s) := by
  unfold soloMaps
  repeat' first
    | with_reducible assumption
    | ((with_reducible refine Sub.of hk ?_); rfl)
    | intro _
    | with_reducible refine keep_markMapReg ?_ ?_
    | with_reducible refine keep_registerPair ?_ ?_
    | with_reducible refine keep_regDone ?_ ?_
    | with_reducible refine keep_deregisterPair ?_ ?_
    | with_reducible refine keep_markMapExt ?_ ?_
    | with_reducible refine keep_deallocPair ?_ ?_
    | with_reducible refine keep_cmdDone ?_ ?_
    | (with_reducible refine Keeps.foldl ?_ ?_)
    | split
    | (refine Keeps.twn (hk.bits 31 rfl) ?_; with_reducible assumption)

theorem keep_clearTwinMarks {k : Nat} {a : State} {s : State}
    (hk : Sub 28054126722 k) (h : Keeps k a s) : Keeps k a (clearTwinMarks s) := by
  unfold clearTwinMarks
  repeat' first
    | with_reducible assumption
    | ((with_reducible refine Sub.of hk ?_); rfl)
    | intro _
    | with_reducible refine keep_setCharge ?_ ?_
    | with_reducible refine keep_chargeEmptied ?_ ?_
    | (with_reducible refine Keeps.foldl ?_ ?_)
    | with_reducible refine Keeps.branch ?_ ?_

theorem keep_enterSolo {k : Nat} {a : State} {s : State} {why : Nat}
    (hk : Sub 32966713730 k) (h : Keeps k a s) : Keeps k a (enterSolo s why) := by
  unfold enterSolo
  repeat' first
    | with_reducible assumption
    | ((with_reducible refine Sub.of hk ?_); rfl)
    | intro _
    | with_reducible refine keep_setPair ?_ ?_
    | with_reducible refine keep_markLog ?_ ?_
    | with_reducible refine keep_mergeSent ?_ ?_
    | with_reducible refine keep_soloParts ?_ ?_
    | with_reducible refine keep_setRole ?_ ?_
    | with_reducible refine keep_State_wr ?_ ?_
    | with_reducible refine keep_raiseTo ?_ ?_
    | with_reducible refine keep_twinGone ?_ ?_
    | with_reducible refine keep_soloMoves ?_ ?_
    | with_reducible refine keep_setTState ?_ ?_
    | with_reducible refine keep_drawPair ?_ ?_
    | with_reducible refine keep_soloMaps ?_ ?_
    | with_reducible refine keep_clearTwinMarks ?_ ?_
    | (with_reducible refine Keeps.foldl ?_ ?_)
    | (refine Keeps.twn (hk.bits 31 rfl) ?_; first | with_reducible assumption | with_reducible refine keep_setPair ?_ ?_ | with_reducible refine keep_markLog ?_ ?_ | with_reducible refine keep_mergeSent ?_ ?_ | with_reducible refine keep_soloParts ?_ ?_ | with_reducible refine keep_setRole ?_ ?_ | with_reducible refine keep_State_wr ?_ ?_ | with_reducible refine keep_raiseTo ?_ ?_ | with_reducible refine keep_twinGone ?_ ?_ | with_reducible refine keep_soloMoves ?_ ?_ | with_reducible refine keep_setTState ?_ ?_ | with_reducible refine keep_drawPair ?_ ?_ | with_reducible refine keep_soloMaps ?_ ?_ | with_reducible refine keep_clearTwinMarks ?_ ?_)

theorem keep_twinLost {k : Nat} {a : State} {s : State} {why : Nat}
    (hk : Sub 33000268162 k) (h : Keeps k a s) : Keeps k a (twinLost s why) := by
  unfold twinLost
  repeat' first
    | with_reducible assumption
    | ((with_reducible refine Sub.of hk ?_); rfl)
    | with_reducible refine keep_unpair ?_ ?_
    | with_reducible refine keep_visilDown ?_ ?_
    | with_reducible refine keep_enterSolo ?_ ?_
    | split

theorem keep_judgeTwin {k : Nat} {a : State} {s : State}
    (hk : Sub 68719476731 k) (h : Keeps k a s) : Keeps k a (judgeTwin s) := by
  unfold judgeTwin
  repeat' first
    | with_reducible assumption
    | ((with_reducible refine Sub.of hk ?_); rfl)
    | with_reducible refine keep_linkOnlyLoss ?_ ?_
    | with_reducible refine keep_twinLost ?_ ?_
    | with_reducible refine Keeps.branch ?_ ?_

theorem keep_retrain {k : Nat} {a : State} {s : State} {n : Nat} {cause : Nat}
    (hk : Sub 27917287552 k) (h : Keeps k a s) : Keeps k a (retrain s n cause) := by
  unfold retrain
  repeat' first
    | with_reducible assumption
    | ((with_reducible refine Sub.of hk ?_); rfl)
    | with_reducible refine keep_State_emit ?_ ?_
    | with_reducible refine keep_State_bump ?_ ?_
    | with_reducible refine keep_raise ?_ ?_
    | (refine Keeps.twn (hk.bits 31 rfl) ?_; with_reducible assumption)

theorem keep_linkFault {k : Nat} {a : State} {s : State} {cause : Nat}
    (hk : Sub 68719476731 k) (h : Keeps k a s) : Keeps k a (linkFault s cause) := by
  unfold linkFault
  repeat' first
    | with_reducible assumption
    | ((with_reducible refine Sub.of hk ?_); rfl)
    | with_reducible refine keep_judgeTwin ?_ ?_
    | with_reducible refine keep_unpair ?_ ?_
    | with_reducible refine keep_raise ?_ ?_
    | with_reducible refine keep_retrain ?_ ?_
    | with_reducible refine Keeps.branch ?_ ?_

theorem keep_replayAsked {k : Nat} {a : State} {s : State}
    (hk : Sub 68719476731 k) (h : Keeps k a s) : Keeps k a (replayAsked s) := by
  unfold replayAsked
  repeat' first
    | with_reducible assumption
    | ((with_reducible refine Sub.of hk ?_); rfl)
    | with_reducible refine keep_resendFlits ?_ ?_
    | with_reducible refine keep_linkFault ?_ ?_
    | with_reducible refine keep_State_bump ?_ ?_
    | with_reducible refine Keeps.branch ?_ ?_
    | (refine Keeps.twn (hk.bits 31 rfl) ?_; with_reducible assumption)

theorem keep_dropAcked {k : Nat} {a : State} {s : State} {ack : Nat}
    (hk : Sub 2147483648 k) (h : Keeps k a s) : Keeps k a (dropAcked s ack) := by
  unfold dropAcked
  repeat' first
    | with_reducible assumption
    | ((with_reducible refine Sub.of hk ?_); rfl)
    | split
    | (refine Keeps.twn (hk.bits 31 rfl) ?_; first | with_reducible assumption)

theorem keep_ackIn {k : Nat} {a : State} {s : State} {ack : Nat} {nak : Bool}
    (hk : Sub 68719476731 k) (h : Keeps k a s) : Keeps k a (ackIn s ack nak) := by
  unfold ackIn
  repeat' first
    | with_reducible assumption
    | ((with_reducible refine Sub.of hk ?_); rfl)
    | with_reducible refine keep_replayAsked ?_ ?_
    | with_reducible refine keep_pump ?_ ?_
    | with_reducible refine keep_dropAcked ?_ ?_
    | with_reducible refine Keeps.branch ?_ ?_
    | (refine Keeps.twn (hk.bits 31 rfl) ?_; with_reducible assumption)

theorem keep_showMiss {k : Nat} {a : State} {s : State} {p : Nat}
    (hk : Sub 2 k) (h : Keeps k a s) : Keeps k a (showMiss s p) := by
  unfold showMiss
  repeat' first
    | with_reducible assumption
    | ((with_reducible refine Sub.of hk ?_); rfl)
    | with_reducible refine keep_State_wr ?_ ?_

theorem keep_qpError {k : Nat} {a : State} {s : State} {i : Nat}
    (hk : Sub 10202644482 k) (h : Keeps k a s) : Keeps k a (qpError s i) := by
  unfold qpError
  repeat' first
    | with_reducible assumption
    | ((with_reducible refine Sub.of hk ?_); rfl)
    | intro _
    | with_reducible refine keep_modQp ?_ ?_
    | with_reducible refine keep_dropReqs ?_ ?_
    | with_reducible refine keep_showMiss ?_ ?_
    | (with_reducible refine Keeps.foldl ?_ ?_)
    | (refine Keeps.xpt (hk.bits 29 rfl) ?_; first | with_reducible assumption | with_reducible refine keep_modQp ?_ ?_ | with_reducible refine keep_dropReqs ?_ ?_ | with_reducible refine keep_showMiss ?_ ?_)

theorem keep_qpRefused {k : Nat} {a : State} {s : State} {p : Nat} {v : Bool}
    (hk : Sub 2 k) (h : Keeps k a s) : Keeps k a (qpRefused s p v) := by
  unfold qpRefused
  repeat' first
    | with_reducible assumption
    | ((with_reducible refine Sub.of hk ?_); rfl)
    | with_reducible refine keep_State_wr ?_ ?_

theorem keep_doXptQpToError {k : Nat} {a : State} {p : Fin 4} {s : State}
    (hk : Sub 10202644482 k) (h : Keeps k a s) : Keeps k a (doXptQpToError p s) := by
  unfold doXptQpToError
  repeat' first
    | with_reducible assumption
    | ((with_reducible refine Sub.of hk ?_); rfl)
    | with_reducible refine keep_qpError ?_ ?_
    | with_reducible refine keep_qpRefused ?_ ?_
    | with_reducible refine Keeps.branch ?_ ?_

theorem keep_writeBack {k : Nat} {a : State} {s : State} {i : Nat}
    (hk : Sub 17192452098 k) (h : Keeps k a s) : Keeps k a (writeBack s i) := by
  unfold writeBack
  repeat' first
    | with_reducible assumption
    | ((with_reducible refine Sub.of hk ?_); rfl)
    | with_reducible refine keep_dWrite ?_ ?_
    | split

theorem keep_evictCtx {k : Nat} {a : State} {s : State} {i : Nat}
    (hk : Sub 17729323010 k) (h : Keeps k a s) : Keeps k a (evictCtx s i) := by
  unfold evictCtx
  repeat' first
    | with_reducible assumption
    | ((with_reducible refine Sub.of hk ?_); rfl)
    | with_reducible refine keep_writeBack ?_ ?_
    | with_reducible refine Keeps.branch ?_ ?_
    | (refine Keeps.xpt (hk.bits 29 rfl) ?_; first | with_reducible assumption | with_reducible refine keep_writeBack ?_ ?_)

theorem keep_doXptQpWritebackEvict {k : Nat} {a : State} {p : Fin 4} {s : State}
    (hk : Sub 17729323010 k) (h : Keeps k a s) : Keeps k a (doXptQpWritebackEvict p s) := by
  unfold doXptQpWritebackEvict
  repeat' first
    | with_reducible assumption
    | ((with_reducible refine Sub.of hk ?_); rfl)
    | with_reducible refine keep_evictCtx ?_ ?_
    | with_reducible refine keep_qpRefused ?_ ?_
    | with_reducible refine Keeps.branch ?_ ?_

theorem keep_doXptQpRead {k : Nat} {a : State} {p : Fin 4} {s : State}
    (hk : Sub 2 k) (h : Keeps k a s) : Keeps k a (doXptQpRead p s) := by
  unfold doXptQpRead
  repeat' first
    | with_reducible assumption
    | ((with_reducible refine Sub.of hk ?_); rfl)
    | intro _
    | with_reducible refine keep_State_wr ?_ ?_
    | with_reducible refine keep_qpRefused ?_ ?_
    | (with_reducible refine Keeps.foldl ?_ ?_)
    | with_reducible refine Keeps.branch ?_ ?_

theorem keep_doXptQpWrite {k : Nat} {a : State} {p : Fin 4} {s : State}
    (hk : Sub 17729323010 k) (h : Keeps k a s) : Keeps k a (doXptQpWrite p s) := by
  unfold doXptQpWrite
  repeat' first
    | with_reducible assumption
    | ((with_reducible refine Sub.of hk ?_); rfl)
    | with_reducible refine keep_showDoorbell ?_ ?_
    | with_reducible refine keep_writeBack ?_ ?_
    | with_reducible refine keep_setQp ?_ ?_
    | with_reducible refine keep_qpRefused ?_ ?_
    | with_reducible refine Keeps.branch ?_ ?_

theorem keep_xptQpupd {k : Nat} {a : State} {s : State} {p : Fin 4}
    (hk : Sub 27395096578 k) (h : Keeps k a s) : Keeps k a (xptQpupd s p) := by
  unfold xptQpupd
  repeat' first
    | with_reducible assumption
    | ((with_reducible refine Sub.of hk ?_); rfl)
    | with_reducible refine keep_doXptQpToError ?_ ?_
    | with_reducible refine keep_doXptQpWritebackEvict ?_ ?_
    | with_reducible refine keep_doXptQpRead ?_ ?_
    | with_reducible refine keep_doXptQpWrite ?_ ?_
    | split

theorem keep_mdioRun {k : Nat} {a : State} {s : State} {rdata : Nat}
    (hk : Sub 42949672962 k) (h : Keeps k a s) : Keeps k a (mdioRun s rdata) := by
  unfold mdioRun
  repeat' first
    | with_reducible assumption
    | ((with_reducible refine Sub.of hk ?_); rfl)
    | with_reducible refine keep_State_emit ?_ ?_
    | with_reducible refine keep_State_wr ?_ ?_
    | with_reducible refine Keeps.branch ?_ ?_
    | (refine Keeps.mdio (hk.bits 35 rfl) ?_; first | with_reducible assumption | with_reducible refine keep_State_emit ?_ ?_ | with_reducible refine keep_State_wr ?_ ?_)

theorem keep_waitCold {k : Nat} {a : State} {s : State} {q : ResetReq}
    (hk : Sub 34 k) (h : Keeps k a s) : Keeps k a (waitCold s q) := by
  unfold waitCold
  repeat' first
    | with_reducible assumption
    | ((with_reducible refine Sub.of hk ?_); rfl)
    | with_reducible refine keep_State_wr ?_ ?_
    | with_reducible refine Keeps.branch ?_ ?_
    | (refine Keeps.rst (hk.bits 5 rfl) ?_; with_reducible assumption)

theorem keep_pendShown {k : Nat} {a : State} {s : State} {n : Nat}
    (hk : Sub 2 k) (h : Keeps k a s) : Keeps k a (pendShown s n) := by
  unfold pendShown
  repeat' first
    | with_reducible assumption
    | ((with_reducible refine Sub.of hk ?_); rfl)
    | with_reducible refine keep_State_wr ?_ ?_
    | with_reducible refine Keeps.branch ?_ ?_
    | exact Keeps.build 2 (hk.of rfl) (by assumption) (by rfl) (by rfl) (by exact fun p hp => by cases p <;> first | exact absurd hp (by decide) | rfl) (by exact List.suffix_refl _) (by exact grown_refl _) (by exact id) (by
        rintro ⟨⟨⟨⟨v, w⟩, x, y⟩, z⟩, b0, b1⟩
        refine ⟨⟨⟨⟨?_, ?_⟩, ?_, ?_⟩, ?_⟩, ?_, ?_⟩ <;>
          repeat' first
            | assumption
            | exact Sparse.wf_nil
            | with_reducible refine Sparse.wf_put ?_
            | with_reducible refine Sparse.wf_ins ?_
            | with_reducible refine Sparse.wf_del ?_
            | with_reducible refine Sparse.wf_keep ?_
            | with_reducible refine Sparse.wf_filter ?_
            | with_reducible refine Sparse.wf_foldl_ins ?_
            | split)

theorem keep_quietPoint {k : Nat} {a : State} {s : State} {n : Nat}
    (hk : Sub 2 k) (h : Keeps k a s) : Keeps k a (quietPoint s n) := by
  unfold quietPoint
  repeat' first
    | with_reducible assumption
    | ((with_reducible refine Sub.of hk ?_); rfl)
    | with_reducible refine keep_pendShown ?_ ?_
    | with_reducible refine keep_State_wr ?_ ?_
    | exact Keeps.build 2 (hk.of rfl) (by assumption) (by rfl) (by rfl) (by exact fun p hp => by cases p <;> first | exact absurd hp (by decide) | rfl) (by exact List.suffix_refl _) (by exact grown_refl _) (by exact id) (by
        rintro ⟨⟨⟨⟨v, w⟩, x, y⟩, z⟩, b0, b1⟩
        refine ⟨⟨⟨⟨?_, ?_⟩, ?_, ?_⟩, ?_⟩, ?_, ?_⟩ <;>
          repeat' first
            | assumption
            | exact Sparse.wf_nil
            | with_reducible refine Sparse.wf_put ?_
            | with_reducible refine Sparse.wf_ins ?_
            | with_reducible refine Sparse.wf_del ?_
            | with_reducible refine Sparse.wf_keep ?_
            | with_reducible refine Sparse.wf_filter ?_
            | with_reducible refine Sparse.wf_foldl_ins ?_
            | split)

theorem keep_enterStandby {k : Nat} {a : State} {s : State} {auto : Bool} {why : Nat}
    (hk : Sub 25769836723 k) (h : Keeps k a s) : Keeps k a (enterStandby s auto why) := by
  unfold enterStandby
  repeat' first
    | with_reducible assumption
    | ((with_reducible refine Sub.of hk ?_); rfl)
    | with_reducible refine keep_stopShaft ?_ ?_
    | with_reducible refine keep_quietPoint ?_ ?_
    | with_reducible refine keep_startRising ?_ ?_
    | with_reducible refine keep_State_wr ?_ ?_
    | with_reducible refine keep_setDev ?_ ?_
    | with_reducible refine Keeps.branch ?_ ?_

theorem keep_latchOn {k : Nat} {a : State} {s : State}
    (hk : Sub 25769803906 k) (h : Keeps k a s) : Keeps k a (latchOn s) := by
  unfold latchOn
  repeat' first
    | with_reducible assumption
    | ((with_reducible refine Sub.of hk ?_); rfl)
    | with_reducible refine keep_State_wr ?_ ?_
    | with_reducible refine keep_raise ?_ ?_

theorem keep_resetPipes {k : Nat} {a : State} {s : State} {p : Nat → Bool}
    (hk : Sub 27395096578 k) (h : Keeps k a s) : Keeps k a (resetPipes s p) := by
  unfold resetPipes
  repeat' first
    | with_reducible assumption
    | ((with_reducible refine Sub.of hk ?_); rfl)
    | intro _
    | (extract_lets +onlyGivenNames t
       first
       | (refine Keeps.have_ (k := k) (a := a) (t := t) ?_ ?_; unfold t; clear t; rotate_left; intro _; clear_value t; revert t; intros)
       | (clear_value t; revert t; intros)
       | (unfold t; clear t))
    | with_reducible refine keep_modQp ?_ ?_
    | with_reducible refine keep_writeBack ?_ ?_
    | with_reducible refine keep_releaseReq ?_ ?_
    | (with_reducible refine Keeps.foldl ?_ ?_)
    | (with_reducible refine Keeps.foldl_fst ?_ ?_)
    | with_reducible refine Keeps.branch ?_ ?_
    | split
    | (refine Keeps.xpt (hk.bits 29 rfl) ?_; first | with_reducible assumption | with_reducible refine keep_modQp ?_ ?_ | with_reducible refine keep_writeBack ?_ ?_ | with_reducible refine keep_releaseReq ?_ ?_)

theorem keep_recountDirty {k : Nat} {a : State} {s : State}
    (hk : Sub 2 k) (h : Keeps k a s) : Keeps k a (recountDirty s) := by
  unfold recountDirty
  repeat' first
    | with_reducible assumption
    | ((with_reducible refine Sub.of hk ?_); rfl)
    | with_reducible refine keep_State_wr ?_ ?_

theorem keep_dropNotsess {k : Nat} {a : State} {s : State}
    (hk : Sub 134217728 k) (h : Keeps k a s) : Keeps k a (dropNotsess s) := by
  unfold dropNotsess
  repeat' first
    | with_reducible assumption
    | ((with_reducible refine Sub.of hk ?_); rfl)
    | (refine Keeps.tie (hk.bits 27 rfl) ?_; first | with_reducible assumption)

theorem keep_dropShadows {k : Nat} {a : State} {s : State} {p : Nat → Bool}
    (hk : Sub 134217994 k) (h : Keeps k a s) : Keeps k a (dropShadows s p) := by
  unfold dropShadows
  repeat' first
    | with_reducible assumption
    | ((with_reducible refine Sub.of hk ?_); rfl)
    | (refine Keeps.dic (hk.bits 8 rfl) ?_; first | with_reducible assumption)
    | (refine Keeps.gai (hk.bits 3 rfl) ?_; first | with_reducible assumption)
    | (refine Keeps.tie (hk.bits 27 rfl) ?_; first | with_reducible assumption)
    | exact Keeps.build 134217994 (hk.of rfl) (by assumption) (by rfl) (by rfl) (by exact fun p hp => by cases p <;> first | exact absurd hp (by decide) | rfl) (by exact List.suffix_refl _) (by exact grown_refl _) (by exact id) (by
        rintro ⟨⟨⟨⟨v, w⟩, x, y⟩, z⟩, b0, b1⟩
        refine ⟨⟨⟨⟨?_, ?_⟩, ?_, ?_⟩, ?_⟩, ?_, ?_⟩ <;>
          repeat' first
            | assumption
            | exact Sparse.wf_nil
            | with_reducible refine Sparse.wf_put ?_
            | with_reducible refine Sparse.wf_ins ?_
            | with_reducible refine Sparse.wf_del ?_
            | with_reducible refine Sparse.wf_keep ?_
            | with_reducible refine Sparse.wf_filter ?_
            | with_reducible refine Sparse.wf_foldl_ins ?_
            | split)

theorem keep_resetDic {k : Nat} {a : State} {s : State}
    (hk : Sub 25904022410 k) (h : Keeps k a s) : Keeps k a (resetDic s) := by
  unfold resetDic
  repeat' first
    | with_reducible assumption
    | ((with_reducible refine Sub.of hk ?_); rfl)
    | (extract_lets +onlyGivenNames t
       first
       | (refine Keeps.have_ (k := k) (a := a) (t := t) ?_ ?_; unfold t; clear t; rotate_left; intro _; clear_value t; revert t; intros))
    | with_reducible refine keep_reportEnds ?_ ?_
    | with_reducible refine keep_dropNotsess ?_ ?_
    | with_reducible refine keep_dropShadows ?_ ?_
    | (refine Keeps.recd (hk.bits 7 rfl) ?_; with_reducible assumption)
    | (refine Keeps.dic (hk.bits 8 rfl) ?_; with_reducible assumption)
    | (refine Keeps.pci (hk.bits 9 rfl) ?_; with_reducible assumption)
    | exact Keeps.build 896 (hk.of rfl) (by assumption) (by rfl) (by rfl) (by exact fun p hp => by cases p <;> first | exact absurd hp (by decide) | rfl) (by exact List.suffix_refl _) (by exact grown_refl _) (by exact id) (by exact id)

theorem keep_setHState {k : Nat} {a : State} {s : State} {v : Nat} {why : Nat}
    (hk : Sub 25769803906 k) (h : Keeps k a s) : Keeps k a (setHState s v why) := by
  unfold setHState
  repeat' first
    | with_reducible assumption
    | ((with_reducible refine Sub.of hk ?_); rfl)
    | with_reducible refine keep_State_wr ?_ ?_
    | with_reducible refine keep_State_emit ?_ ?_
    | with_reducible refine keep_raise ?_ ?_

theorem keep_hostDown {k : Nat} {a : State} {s : State}
    (hk : Sub 25769803906 k) (h : Keeps k a s) : Keeps k a (hostDown s) := by
  unfold hostDown
  repeat' first
    | with_reducible assumption
    | ((with_reducible refine Sub.of hk ?_); rfl)
    | with_reducible refine keep_setHState ?_ ?_
    | with_reducible refine Keeps.branch ?_ ?_

theorem keep_showMst {k : Nat} {a : State} {s : State}
    (hk : Sub 2 k) (h : Keeps k a s) : Keeps k a (showMst s) := by
  unfold showMst
  repeat' first
    | with_reducible assumption
    | ((with_reducible refine Sub.of hk ?_); rfl)
    | intro _
    | with_reducible refine keep_State_wr ?_ ?_
    | with_reducible refine keep_showMstBase ?_ ?_
    | (with_reducible refine Keeps.foldl ?_ ?_)

theorem keep_resetBlockData {k : Nat} {a : State} {n : Nat} {s : State}
    (hk : Sub 30064737162 k) (h : Keeps k a s) : Keeps k a (resetBlockData n s) := by
  unfold resetBlockData
  repeat' first
    | with_reducible assumption
    | ((with_reducible refine Sub.of hk ?_); rfl)
    | intro _
    | (extract_lets +onlyGivenNames t
       first
       | (refine Keeps.have_ (k := k) (a := a) (t := t) ?_ ?_; unfold t; clear t; rotate_left; intro _; clear_value t; revert t; intros)
       | (clear_value t; revert t; intros)
       | (unfold t; clear t))
    | with_reducible refine keep_stopMst ?_ ?_
    | with_reducible refine keep_farDrop ?_ ?_
    | with_reducible refine keep_resetPipes ?_ ?_
    | with_reducible refine keep_State_wr ?_ ?_
    | with_reducible refine keep_reportSvc ?_ ?_
    | with_reducible refine keep_twinDepart ?_ ?_
    | with_reducible refine keep_recountDirty ?_ ?_
    | with_reducible refine keep_resetDic ?_ ?_
    | with_reducible refine keep_restartRecorder ?_ ?_
    | with_reducible refine keep_portsIdle ?_ ?_
    | with_reducible refine keep_unpair ?_ ?_
    | with_reducible refine keep_deriveFixed ?_ ?_
    | with_reducible refine keep_stopMoves ?_ ?_
    | with_reducible refine keep_hostDown ?_ ?_
    | with_reducible refine keep_drainHopper ?_ ?_
    | with_reducible refine keep_showMst ?_ ?_
    | with_reducible refine keep_showFar ?_ ?_
    | (with_reducible refine Keeps.foldl ?_ ?_)
    | (with_reducible refine Keeps.foldl_fst ?_ ?_)
    | with_reducible refine Keeps.branch ?_ ?_
    | split
    | (refine Keeps.drc (hk.bits 23 rfl) ?_; first | with_reducible assumption | with_reducible refine keep_stopMst ?_ ?_ | with_reducible refine keep_farDrop ?_ ?_ | with_reducible refine keep_resetPipes ?_ ?_ | with_reducible refine keep_State_wr ?_ ?_ | with_reducible refine keep_reportSvc ?_ ?_ | with_reducible refine keep_twinDepart ?_ ?_ | with_reducible refine keep_recountDirty ?_ ?_ | with_reducible refine keep_resetDic ?_ ?_ | with_reducible refine keep_restartRecorder ?_ ?_ | with_reducible refine keep_portsIdle ?_ ?_ | with_reducible refine keep_unpair ?_ ?_ | with_reducible refine keep_deriveFixed ?_ ?_ | with_reducible refine keep_stopMoves ?_ ?_ | with_reducible refine keep_hostDown ?_ ?_ | with_reducible refine keep_drainHopper ?_ ?_ | with_reducible refine keep_showMst ?_ ?_ | with_reducible refine keep_showFar ?_ ?_)
    | (refine Keeps.cpx (hk.bits 11 rfl) ?_; first | with_reducible assumption | with_reducible refine keep_stopMst ?_ ?_ | with_reducible refine keep_farDrop ?_ ?_ | with_reducible refine keep_resetPipes ?_ ?_ | with_reducible refine keep_State_wr ?_ ?_ | with_reducible refine keep_reportSvc ?_ ?_ | with_reducible refine keep_twinDepart ?_ ?_ | with_reducible refine keep_recountDirty ?_ ?_ | with_reducible refine keep_resetDic ?_ ?_ | with_reducible refine keep_restartRecorder ?_ ?_ | with_reducible refine keep_portsIdle ?_ ?_ | with_reducible refine keep_unpair ?_ ?_ | with_reducible refine keep_deriveFixed ?_ ?_ | with_reducible refine keep_stopMoves ?_ ?_ | with_reducible refine keep_hostDown ?_ ?_ | with_reducible refine keep_drainHopper ?_ ?_ | with_reducible refine keep_showMst ?_ ?_ | with_reducible refine keep_showFar ?_ ?_)
    | (refine Keeps.far (hk.bits 25 rfl) ?_; first | with_reducible assumption | with_reducible refine keep_stopMst ?_ ?_ | with_reducible refine keep_farDrop ?_ ?_ | with_reducible refine keep_resetPipes ?_ ?_ | with_reducible refine keep_State_wr ?_ ?_ | with_reducible refine keep_reportSvc ?_ ?_ | with_reducible refine keep_twinDepart ?_ ?_ | with_reducible refine keep_recountDirty ?_ ?_ | with_reducible refine keep_resetDic ?_ ?_ | with_reducible refine keep_restartRecorder ?_ ?_ | with_reducible refine keep_portsIdle ?_ ?_ | with_reducible refine keep_unpair ?_ ?_ | with_reducible refine keep_deriveFixed ?_ ?_ | with_reducible refine keep_stopMoves ?_ ?_ | with_reducible refine keep_hostDown ?_ ?_ | with_reducible refine keep_drainHopper ?_ ?_ | with_reducible refine keep_showMst ?_ ?_ | with_reducible refine keep_showFar ?_ ?_)
    | (refine Keeps.kpf (hk.bits 14 rfl) ?_; first | with_reducible assumption | with_reducible refine keep_stopMst ?_ ?_ | with_reducible refine keep_farDrop ?_ ?_ | with_reducible refine keep_resetPipes ?_ ?_ | with_reducible refine keep_State_wr ?_ ?_ | with_reducible refine keep_reportSvc ?_ ?_ | with_reducible refine keep_twinDepart ?_ ?_ | with_reducible refine keep_recountDirty ?_ ?_ | with_reducible refine keep_resetDic ?_ ?_ | with_reducible refine keep_restartRecorder ?_ ?_ | with_reducible refine keep_portsIdle ?_ ?_ | with_reducible refine keep_unpair ?_ ?_ | with_reducible refine keep_deriveFixed ?_ ?_ | with_reducible refine keep_stopMoves ?_ ?_ | with_reducible refine keep_hostDown ?_ ?_ | with_reducible refine keep_drainHopper ?_ ?_ | with_reducible refine keep_showMst ?_ ?_ | with_reducible refine keep_showFar ?_ ?_)
    | (refine Keeps.key (hk.bits 13 rfl) ?_; first | with_reducible assumption | with_reducible refine keep_stopMst ?_ ?_ | with_reducible refine keep_farDrop ?_ ?_ | with_reducible refine keep_resetPipes ?_ ?_ | with_reducible refine keep_State_wr ?_ ?_ | with_reducible refine keep_reportSvc ?_ ?_ | with_reducible refine keep_twinDepart ?_ ?_ | with_reducible refine keep_recountDirty ?_ ?_ | with_reducible refine keep_resetDic ?_ ?_ | with_reducible refine keep_restartRecorder ?_ ?_ | with_reducible refine keep_portsIdle ?_ ?_ | with_reducible refine keep_unpair ?_ ?_ | with_reducible refine keep_deriveFixed ?_ ?_ | with_reducible refine keep_stopMoves ?_ ?_ | with_reducible refine keep_hostDown ?_ ?_ | with_reducible refine keep_drainHopper ?_ ?_ | with_reducible refine keep_showMst ?_ ?_ | with_reducible refine keep_showFar ?_ ?_)
    | (refine Keeps.sav (hk.bits 17 rfl) ?_; first | with_reducible assumption | with_reducible refine keep_stopMst ?_ ?_ | with_reducible refine keep_farDrop ?_ ?_ | with_reducible refine keep_resetPipes ?_ ?_ | with_reducible refine keep_State_wr ?_ ?_ | with_reducible refine keep_reportSvc ?_ ?_ | with_reducible refine keep_twinDepart ?_ ?_ | with_reducible refine keep_recountDirty ?_ ?_ | with_reducible refine keep_resetDic ?_ ?_ | with_reducible refine keep_restartRecorder ?_ ?_ | with_reducible refine keep_portsIdle ?_ ?_ | with_reducible refine keep_unpair ?_ ?_ | with_reducible refine keep_deriveFixed ?_ ?_ | with_reducible refine keep_stopMoves ?_ ?_ | with_reducible refine keep_hostDown ?_ ?_ | with_reducible refine keep_drainHopper ?_ ?_ | with_reducible refine keep_showMst ?_ ?_ | with_reducible refine keep_showFar ?_ ?_)
    | (refine Keeps.twn (hk.bits 31 rfl) ?_; first | with_reducible assumption | with_reducible refine keep_stopMst ?_ ?_ | with_reducible refine keep_farDrop ?_ ?_ | with_reducible refine keep_resetPipes ?_ ?_ | with_reducible refine keep_State_wr ?_ ?_ | with_reducible refine keep_reportSvc ?_ ?_ | with_reducible refine keep_twinDepart ?_ ?_ | with_reducible refine keep_recountDirty ?_ ?_ | with_reducible refine keep_resetDic ?_ ?_ | with_reducible refine keep_restartRecorder ?_ ?_ | with_reducible refine keep_portsIdle ?_ ?_ | with_reducible refine keep_unpair ?_ ?_ | with_reducible refine keep_deriveFixed ?_ ?_ | with_reducible refine keep_stopMoves ?_ ?_ | with_reducible refine keep_hostDown ?_ ?_ | with_reducible refine keep_drainHopper ?_ ?_ | with_reducible refine keep_showMst ?_ ?_ | with_reducible refine keep_showFar ?_ ?_)
    | (refine Keeps.pci (hk.bits 9 rfl) ?_; first | with_reducible assumption | with_reducible refine keep_stopMst ?_ ?_ | with_reducible refine keep_farDrop ?_ ?_ | with_reducible refine keep_resetPipes ?_ ?_ | with_reducible refine keep_State_wr ?_ ?_ | with_reducible refine keep_reportSvc ?_ ?_ | with_reducible refine keep_twinDepart ?_ ?_ | with_reducible refine keep_recountDirty ?_ ?_ | with_reducible refine keep_resetDic ?_ ?_ | with_reducible refine keep_restartRecorder ?_ ?_ | with_reducible refine keep_portsIdle ?_ ?_ | with_reducible refine keep_unpair ?_ ?_ | with_reducible refine keep_deriveFixed ?_ ?_ | with_reducible refine keep_stopMoves ?_ ?_ | with_reducible refine keep_hostDown ?_ ?_ | with_reducible refine keep_drainHopper ?_ ?_ | with_reducible refine keep_showMst ?_ ?_ | with_reducible refine keep_showFar ?_ ?_)
    | (refine Keeps.cal (hk.bits 16 rfl) ?_; first | with_reducible assumption | with_reducible refine keep_stopMst ?_ ?_ | with_reducible refine keep_farDrop ?_ ?_ | with_reducible refine keep_resetPipes ?_ ?_ | with_reducible refine keep_State_wr ?_ ?_ | with_reducible refine keep_reportSvc ?_ ?_ | with_reducible refine keep_twinDepart ?_ ?_ | with_reducible refine keep_recountDirty ?_ ?_ | with_reducible refine keep_resetDic ?_ ?_ | with_reducible refine keep_restartRecorder ?_ ?_ | with_reducible refine keep_portsIdle ?_ ?_ | with_reducible refine keep_unpair ?_ ?_ | with_reducible refine keep_deriveFixed ?_ ?_ | with_reducible refine keep_stopMoves ?_ ?_ | with_reducible refine keep_hostDown ?_ ?_ | with_reducible refine keep_drainHopper ?_ ?_ | with_reducible refine keep_showMst ?_ ?_ | with_reducible refine keep_showFar ?_ ?_)
    | (refine Keeps.trn (hk.bits 21 rfl) ?_; first | with_reducible assumption | with_reducible refine keep_stopMst ?_ ?_ | with_reducible refine keep_farDrop ?_ ?_ | with_reducible refine keep_resetPipes ?_ ?_ | with_reducible refine keep_State_wr ?_ ?_ | with_reducible refine keep_reportSvc ?_ ?_ | with_reducible refine keep_twinDepart ?_ ?_ | with_reducible refine keep_recountDirty ?_ ?_ | with_reducible refine keep_resetDic ?_ ?_ | with_reducible refine keep_restartRecorder ?_ ?_ | with_reducible refine keep_portsIdle ?_ ?_ | with_reducible refine keep_unpair ?_ ?_ | with_reducible refine keep_deriveFixed ?_ ?_ | with_reducible refine keep_stopMoves ?_ ?_ | with_reducible refine keep_hostDown ?_ ?_ | with_reducible refine keep_drainHopper ?_ ?_ | with_reducible refine keep_showMst ?_ ?_ | with_reducible refine keep_showFar ?_ ?_)
    | (refine Keeps.svc (hk.bits 12 rfl) ?_; first | with_reducible assumption | with_reducible refine keep_stopMst ?_ ?_ | with_reducible refine keep_farDrop ?_ ?_ | with_reducible refine keep_resetPipes ?_ ?_ | with_reducible refine keep_State_wr ?_ ?_ | with_reducible refine keep_reportSvc ?_ ?_ | with_reducible refine keep_twinDepart ?_ ?_ | with_reducible refine keep_recountDirty ?_ ?_ | with_reducible refine keep_resetDic ?_ ?_ | with_reducible refine keep_restartRecorder ?_ ?_ | with_reducible refine keep_portsIdle ?_ ?_ | with_reducible refine keep_unpair ?_ ?_ | with_reducible refine keep_deriveFixed ?_ ?_ | with_reducible refine keep_stopMoves ?_ ?_ | with_reducible refine keep_hostDown ?_ ?_ | with_reducible refine keep_drainHopper ?_ ?_ | with_reducible refine keep_showMst ?_ ?_ | with_reducible refine keep_showFar ?_ ?_)
    | (refine Keeps.recd (hk.bits 7 rfl) ?_; first | with_reducible assumption | with_reducible refine keep_stopMst ?_ ?_ | with_reducible refine keep_farDrop ?_ ?_ | with_reducible refine keep_resetPipes ?_ ?_ | with_reducible refine keep_State_wr ?_ ?_ | with_reducible refine keep_reportSvc ?_ ?_ | with_reducible refine keep_twinDepart ?_ ?_ | with_reducible refine keep_recountDirty ?_ ?_ | with_reducible refine keep_resetDic ?_ ?_ | with_reducible refine keep_restartRecorder ?_ ?_ | with_reducible refine keep_portsIdle ?_ ?_ | with_reducible refine keep_unpair ?_ ?_ | with_reducible refine keep_deriveFixed ?_ ?_ | with_reducible refine keep_stopMoves ?_ ?_ | with_reducible refine keep_hostDown ?_ ?_ | with_reducible refine keep_drainHopper ?_ ?_ | with_reducible refine keep_showMst ?_ ?_ | with_reducible refine keep_showFar ?_ ?_)
    | (refine Keeps.gov (hk.bits 18 rfl) ?_; first | with_reducible assumption | with_reducible refine keep_stopMst ?_ ?_ | with_reducible refine keep_farDrop ?_ ?_ | with_reducible refine keep_resetPipes ?_ ?_ | with_reducible refine keep_State_wr ?_ ?_ | with_reducible refine keep_reportSvc ?_ ?_ | with_reducible refine keep_twinDepart ?_ ?_ | with_reducible refine keep_recountDirty ?_ ?_ | with_reducible refine keep_resetDic ?_ ?_ | with_reducible refine keep_restartRecorder ?_ ?_ | with_reducible refine keep_portsIdle ?_ ?_ | with_reducible refine keep_unpair ?_ ?_ | with_reducible refine keep_deriveFixed ?_ ?_ | with_reducible refine keep_stopMoves ?_ ?_ | with_reducible refine keep_hostDown ?_ ?_ | with_reducible refine keep_drainHopper ?_ ?_ | with_reducible refine keep_showMst ?_ ?_ | with_reducible refine keep_showFar ?_ ?_)
    | (refine Keeps.grm (hk.bits 24 rfl) ?_; first | with_reducible assumption | with_reducible refine keep_stopMst ?_ ?_ | with_reducible refine keep_farDrop ?_ ?_ | with_reducible refine keep_resetPipes ?_ ?_ | with_reducible refine keep_State_wr ?_ ?_ | with_reducible refine keep_reportSvc ?_ ?_ | with_reducible refine keep_twinDepart ?_ ?_ | with_reducible refine keep_recountDirty ?_ ?_ | with_reducible refine keep_resetDic ?_ ?_ | with_reducible refine keep_restartRecorder ?_ ?_ | with_reducible refine keep_portsIdle ?_ ?_ | with_reducible refine keep_unpair ?_ ?_ | with_reducible refine keep_deriveFixed ?_ ?_ | with_reducible refine keep_stopMoves ?_ ?_ | with_reducible refine keep_hostDown ?_ ?_ | with_reducible refine keep_drainHopper ?_ ?_ | with_reducible refine keep_showMst ?_ ?_ | with_reducible refine keep_showFar ?_ ?_)
    | (refine Keeps.stf (hk.bits 26 rfl) ?_; first | with_reducible assumption | with_reducible refine keep_stopMst ?_ ?_ | with_reducible refine keep_farDrop ?_ ?_ | with_reducible refine keep_resetPipes ?_ ?_ | with_reducible refine keep_State_wr ?_ ?_ | with_reducible refine keep_reportSvc ?_ ?_ | with_reducible refine keep_twinDepart ?_ ?_ | with_reducible refine keep_recountDirty ?_ ?_ | with_reducible refine keep_resetDic ?_ ?_ | with_reducible refine keep_restartRecorder ?_ ?_ | with_reducible refine keep_portsIdle ?_ ?_ | with_reducible refine keep_unpair ?_ ?_ | with_reducible refine keep_deriveFixed ?_ ?_ | with_reducible refine keep_stopMoves ?_ ?_ | with_reducible refine keep_hostDown ?_ ?_ | with_reducible refine keep_drainHopper ?_ ?_ | with_reducible refine keep_showMst ?_ ?_ | with_reducible refine keep_showFar ?_ ?_)
    | exact Keeps.build 2275900032 (hk.of rfl) (by first | assumption | exact keep_stopMst (hk.of rfl) (by assumption) | exact keep_farDrop (hk.of rfl) (by assumption) | exact keep_resetPipes (hk.of rfl) (by assumption) | exact keep_State_wr (hk.of rfl) (by assumption) | exact keep_reportSvc (hk.of rfl) (by assumption) | exact keep_twinDepart (hk.of rfl) (by assumption) | exact keep_recountDirty (hk.of rfl) (by assumption) | exact keep_resetDic (hk.of rfl) (by assumption) | exact keep_restartRecorder (hk.of rfl) (by assumption) | exact keep_portsIdle (hk.of rfl) (by assumption) | exact keep_unpair (hk.of rfl) (by assumption) | exact keep_deriveFixed (hk.of rfl) (by assumption) | exact keep_stopMoves (hk.of rfl) (by assumption) | exact keep_hostDown (hk.of rfl) (by assumption) | exact keep_drainHopper (hk.of rfl) (by assumption) | exact keep_showMst (hk.of rfl) (by assumption) | exact keep_showFar (hk.of rfl) (by assumption)) (by rfl) (by rfl) (by exact fun p hp => by cases p <;> first | exact absurd hp (by decide) | rfl) (by exact List.suffix_refl _) (by exact grown_refl _) (by exact id) (by exact id)
    | exact Keeps.build 2275900032 (hk.of rfl) h (by rfl) (by rfl) (by exact fun p hp => by cases p <;> first | exact absurd hp (by decide) | rfl) (by exact List.suffix_refl _) (by exact grown_refl _) (by exact id) (by exact id)

theorem keep_resetBlockNow {k : Nat} {a : State} {s : State} {b : Nat}
    (hk : Sub 30064737194 k) (h : Keeps k a s) : Keeps k a (resetBlockNow s b) := by
  unfold resetBlockNow
  repeat' first
    | with_reducible assumption
    | ((with_reducible refine Sub.of hk ?_); rfl)
    | (extract_lets +onlyGivenNames t
       first
       | (refine Keeps.have_ (k := k) (a := a) (t := t) ?_ ?_; unfold t; clear t; rotate_left; intro _; clear_value t; revert t; intros)
       | (clear_value t; revert t; intros)
       | (unfold t; clear t))
    | with_reducible refine keep_beginStretch ?_ ?_
    | with_reducible refine keep_resetBlockData ?_ ?_
    | with_reducible refine keep_resetRegs ?_ ?_

theorem keep_blockReset {k : Nat} {a : State} {s : State} {q : ResetReq} {drains : Bool}
    (hk : Sub 30064737258 k) (h : Keeps k a s) : Keeps k a (blockReset s q drains) := by
  unfold blockReset
  repeat' first
    | with_reducible assumption
    | ((with_reducible refine Sub.of hk ?_); rfl)
    | with_reducible refine keep_recordReset ?_ ?_
    | with_reducible refine keep_resetBlockNow ?_ ?_
    | with_reducible refine keep_assertOutputs ?_ ?_
    | with_reducible refine keep_State_wr ?_ ?_
    | with_reducible refine Keeps.branch ?_ ?_
    | (refine Keeps.rst (hk.bits 5 rfl) ?_; first | with_reducible assumption | with_reducible refine keep_recordReset ?_ ?_ | with_reducible refine keep_resetBlockNow ?_ ?_ | with_reducible refine keep_assertOutputs ?_ ?_ | with_reducible refine keep_State_wr ?_ ?_)

theorem keep_showGates {k : Nat} {a : State} {s : State}
    (hk : Sub 2 k) (h : Keeps k a s) : Keeps k a (showGates s) := by
  unfold showGates
  repeat' first
    | with_reducible assumption
    | ((with_reducible refine Sub.of hk ?_); rfl)
    | with_reducible refine keep_State_wbit ?_ ?_

theorem keep_setTackWord {k : Nat} {a : State} {s : State} {off : Nat} {v : Nat}
    (hk : Sub 64 k) (h : Keeps k a s) : Keeps k a (setTackWord s off v) := by
  unfold setTackWord
  repeat' first
    | with_reducible assumption
    | ((with_reducible refine Sub.of hk ?_); rfl)
    | (refine Keeps.tack (hk.bits 6 rfl) ?_; first | with_reducible assumption)

theorem keep_writeRecord {k : Nat} {a : State} {s : State} {active : Nat} {flags : Nat}
    (hk : Sub 66 k) (h : Keeps k a s) : Keeps k a (writeRecord s active flags) := by
  unfold writeRecord
  repeat' first
    | with_reducible assumption
    | ((with_reducible refine Sub.of hk ?_); rfl)
    | with_reducible refine keep_setTackWord ?_ ?_
    | with_reducible refine keep_showClusters ?_ ?_

theorem keep_takeoverFailed {k : Nat} {a : State} {s : State} {k' : Takeover} {cause : Nat}
    (hk : Sub 25769806018 k) (h : Keeps k a s) : Keeps k a (takeoverFailed s k' cause) := by
  unfold takeoverFailed
  repeat' first
    | with_reducible assumption
    | ((with_reducible refine Sub.of hk ?_); rfl)
    | with_reducible refine keep_showGates ?_ ?_
    | with_reducible refine keep_writeRecord ?_ ?_
    | with_reducible refine keep_raise ?_ ?_
    | with_reducible refine keep_State_wr ?_ ?_
    | (refine Keeps.cpx (hk.bits 11 rfl) ?_; with_reducible assumption)

theorem keep_complexFailed {k : Nat} {a : State} {s : State} {k' : Takeover} {cause : Nat}
    (hk : Sub 64424509435 k) (h : Keeps k a s) : Keeps k a (complexFailed s k' cause) := by
  unfold complexFailed
  repeat' first
    | with_reducible assumption
    | ((with_reducible refine Sub.of hk ?_); rfl)
    | intro _
    | with_reducible refine keep_linkDown ?_ ?_
    | with_reducible refine keep_cmdFailFree ?_ ?_
    | with_reducible refine keep_fourOrFive ?_ ?_
    | with_reducible refine keep_twinDepart ?_ ?_
    | with_reducible refine keep_takeoverFailed ?_ ?_
    | (with_reducible refine Keeps.foldl ?_ ?_)
    | with_reducible refine Keeps.branch ?_ ?_

theorem keep_holdCores {k : Nat} {a : State} {s : State} {on : Bool}
    (hk : Sub 2048 k) (h : Keeps k a s) : Keeps k a (holdCores s on) := by
  unfold holdCores
  repeat' first
    | with_reducible assumption
    | ((with_reducible refine Sub.of hk ?_); rfl)
    | (refine Keeps.cpx (hk.bits 11 rfl) ?_; first | with_reducible assumption)

theorem keep_setSram {k : Nat} {a : State} {s : State} {c : Nat} {m : List Host.Cell}
    (hk : Sub 2048 k) (h : Keeps k a s) : Keeps k a (setSram s c m) := by
  unfold setSram
  repeat' first
    | with_reducible assumption
    | ((with_reducible refine Sub.of hk ?_); rfl)
    | with_reducible refine Keeps.branch ?_ ?_
    | (refine Keeps.cpx (hk.bits 11 rfl) ?_; first | with_reducible assumption)

theorem keep_loadFirmware {k : Nat} {a : State} {s : State} {c : Nat}
    (hk : Sub 2048 k) (h : Keeps k a s) : Keeps k a (loadFirmware s c) := by
  unfold loadFirmware
  repeat' first
    | with_reducible assumption
    | ((with_reducible refine Sub.of hk ?_); rfl)
    | with_reducible refine keep_setSram ?_ ?_

theorem keep_releaseCore {k : Nat} {a : State} {s : State} {a' : Nat}
    (hk : Sub 2048 k) (h : Keeps k a s) : Keeps k a (releaseCore s a') := by
  unfold releaseCore
  repeat' first
    | with_reducible assumption
    | ((with_reducible refine Sub.of hk ?_); rfl)
    | (refine Keeps.cpx (hk.bits 11 rfl) ?_; first | with_reducible assumption)

theorem keep_ckRestore {k : Nat} {a : State} {s : State} {c : Nat} {ck : Checkpoint}
    (hk : Sub 17192454146 k) (h : Keeps k a s) : Keeps k a (ckRestore s c ck) := by
  unfold ckRestore
  repeat' first
    | with_reducible assumption
    | ((with_reducible refine Sub.of hk ?_); rfl)
    | intro _
    | with_reducible refine keep_dWrite ?_ ?_
    | with_reducible refine keep_setSram ?_ ?_
    | (with_reducible refine Keeps.foldl ?_ ?_)

theorem keep_takeoverStart {k : Nat} {a : State} {s : State} {src : Nat} {ret : Bool}
    (hk : Sub 17192454146 k) (h : Keeps k a s) : Keeps k a (takeoverStart s src ret) := by
  unfold takeoverStart
  repeat' first
    | with_reducible assumption
    | ((with_reducible refine Sub.of hk ?_); rfl)
    | (extract_lets +onlyGivenNames t
       first
       | (refine Keeps.have_ (k := k) (a := a) (t := t) ?_ ?_; unfold t; clear t; rotate_left; intro _; clear_value t; revert t; intros)
       | (clear_value t; revert t; intros)
       | (unfold t; clear t))
    | with_reducible refine keep_showGates ?_ ?_
    | with_reducible refine keep_holdCores ?_ ?_
    | with_reducible refine keep_loadFirmware ?_ ?_
    | with_reducible refine keep_releaseCore ?_ ?_
    | with_reducible refine keep_State_wr ?_ ?_
    | with_reducible refine keep_resetRegs ?_ ?_
    | with_reducible refine keep_ckRestore ?_ ?_
    | with_reducible refine Keeps.branch ?_ ?_
    | split
    | (refine Keeps.cpx (hk.bits 11 rfl) ?_; first | with_reducible assumption | with_reducible refine keep_showGates ?_ ?_ | with_reducible refine keep_holdCores ?_ ?_ | with_reducible refine keep_loadFirmware ?_ ?_ | with_reducible refine keep_releaseCore ?_ ?_ | with_reducible refine keep_State_wr ?_ ?_ | with_reducible refine keep_resetRegs ?_ ?_ | with_reducible refine keep_ckRestore ?_ ?_)

theorem keep_complexReset {k : Nat} {a : State} {s : State} {q : ResetReq}
    (hk : Sub 64424509435 k) (h : Keeps k a s) : Keeps k a (complexReset s q) := by
  unfold complexReset
  repeat' first
    | with_reducible assumption
    | ((with_reducible refine Sub.of hk ?_); rfl)
    | (extract_lets +onlyGivenNames t
       first
       | (refine Keeps.have_ (k := k) (a := a) (t := t) ?_ ?_; unfold t; clear t; rotate_left; intro _; clear_value t; revert t; intros))
    | with_reducible refine keep_recordReset ?_ ?_
    | with_reducible refine keep_complexFailed ?_ ?_
    | with_reducible refine keep_beginStretch ?_ ?_
    | with_reducible refine keep_takeoverStart ?_ ?_
    | with_reducible refine keep_assertOutputs ?_ ?_
    | split

theorem keep_resetMst {k : Nat} {a : State} {s : State}
    (hk : Sub 268435458 k) (h : Keeps k a s) : Keeps k a (resetMst s) := by
  unfold resetMst
  repeat' first
    | with_reducible assumption
    | ((with_reducible refine Sub.of hk ?_); rfl)
    | with_reducible refine keep_showMstBase ?_ ?_
    | (refine Keeps.mst (hk.bits 28 rfl) ?_; with_reducible assumption)

theorem keep_pathReset {k : Nat} {a : State} {s : State}
    (hk : Sub 27663532066 k) (h : Keeps k a s) : Keeps k a (pathReset s) := by
  unfold pathReset
  repeat' first
    | with_reducible assumption
    | ((with_reducible refine Sub.of hk ?_); rfl)
    | with_reducible refine keep_beginStretch ?_ ?_
    | with_reducible refine keep_resetMst ?_ ?_
    | with_reducible refine keep_resetPipes ?_ ?_
    | with_reducible refine keep_winToMax ?_ ?_
    | with_reducible refine keep_resetRegs ?_ ?_
    | with_reducible refine keep_dropMstReqs ?_ ?_
    | with_reducible refine keep_showMst ?_ ?_

theorem keep_lowReset {k : Nat} {a : State} {s : State} {q : ResetReq} {drains : Bool}
    (hk : Sub 64424509435 k) (h : Keeps k a s) : Keeps k a (lowReset s q drains) := by
  unfold lowReset
  repeat' first
    | with_reducible assumption
    | ((with_reducible refine Sub.of hk ?_); rfl)
    | with_reducible refine keep_blockReset ?_ ?_
    | with_reducible refine keep_recordReset ?_ ?_
    | with_reducible refine keep_complexReset ?_ ?_
    | with_reducible refine keep_assertOutputs ?_ ?_
    | with_reducible refine keep_pathReset ?_ ?_
    | split

theorem keep_readReach {k : Nat} {a : State} {s : State}
    (hk : Sub 2 k) (h : Keeps k a s) : Keeps k a (readReach s) := by
  unfold readReach
  repeat' first
    | with_reducible assumption
    | ((with_reducible refine Sub.of hk ?_); rfl)
    | with_reducible refine keep_State_wr ?_ ?_

theorem keep_coldEnd {k : Nat} {a : State} {s : State} {q : ResetReq}
    (hk : Sub 25773596914 k) (h : Keeps k a s) : Keeps k a (coldEnd s q) := by
  unfold coldEnd
  repeat' first
    | with_reducible assumption
    | ((with_reducible refine Sub.of hk ?_); rfl)
    | with_reducible refine keep_showCause ?_ ?_
    | with_reducible refine keep_afterReset ?_ ?_
    | with_reducible refine keep_readReach ?_ ?_
    | with_reducible refine keep_State_bump ?_ ?_
    | with_reducible refine keep_State_wr ?_ ?_
    | (refine Keeps.clk (hk.bits 15 rfl) ?_; with_reducible assumption)
    | (refine Keeps.pwr (hk.bits 4 rfl) ?_; with_reducible assumption)
    | (refine Keeps.rst (hk.bits 5 rfl) ?_; with_reducible assumption)
    | exact Keeps.build 17179902002 (hk.of rfl) (by assumption) (by rfl) (by rfl) (by exact fun p hp => by cases p <;> first | exact absurd hp (by decide) | rfl) (by exact List.suffix_refl _) (by exact grown_refl _) (by exact id) (by
        rintro ⟨⟨⟨⟨v, w⟩, x, y⟩, z⟩, b0, b1⟩
        refine ⟨⟨⟨⟨?_, ?_⟩, ?_, ?_⟩, ?_⟩, ?_, ?_⟩ <;>
          repeat' first
            | assumption
            | exact Sparse.wf_nil
            | with_reducible refine Sparse.wf_put ?_
            | with_reducible refine Sparse.wf_ins ?_
            | with_reducible refine Sparse.wf_del ?_
            | with_reducible refine Sparse.wf_keep ?_
            | with_reducible refine Sparse.wf_filter ?_
            | with_reducible refine Sparse.wf_foldl_ins ?_
            | split)

theorem keep_refuseReset {k : Nat} {a : State} {s : State} {q : ResetReq} {why : Nat}
    (hk : Sub 25769803904 k) (h : Keeps k a s) : Keeps k a (refuseReset s q why) := by
  unfold refuseReset
  repeat' first
    | with_reducible assumption
    | ((with_reducible refine Sub.of hk ?_); rfl)
    | with_reducible refine keep_raise ?_ ?_

theorem keep_takeReset {k : Nat} {a : State} {s : State} {q : ResetReq} {drains : Bool}
    (hk : Sub 64424509435 k) (h : Keeps k a s) : Keeps k a (takeReset s q drains) := by
  unfold takeReset
  repeat' first
    | with_reducible assumption
    | ((with_reducible refine Sub.of hk ?_); rfl)
    | with_reducible refine keep_waitCold ?_ ?_
    | with_reducible refine keep_startSave ?_ ?_
    | with_reducible refine keep_fourOrFive ?_ ?_
    | with_reducible refine keep_enterStandby ?_ ?_
    | with_reducible refine keep_coldEffect ?_ ?_
    | with_reducible refine keep_latchOn ?_ ?_
    | with_reducible refine keep_powerDown ?_ ?_
    | with_reducible refine keep_lowReset ?_ ?_
    | with_reducible refine keep_coldEnd ?_ ?_
    | with_reducible refine keep_startFall ?_ ?_
    | with_reducible refine keep_raise ?_ ?_
    | with_reducible refine keep_refuseReset ?_ ?_
    | split
    | (refine Keeps.rst (hk.bits 5 rfl) ?_; with_reducible assumption)

theorem keep_requestedReset {k : Nat} {a : State} {s : State} {src : Nat} {l : Nat} {block : Nat} {drains : Bool}
    (hk : Sub 64424509435 k) (h : Keeps k a s) : Keeps k a (requestedReset s src l block drains).1 := by
  unfold requestedReset
  repeat' first
    | with_reducible assumption
    | ((with_reducible refine Sub.of hk ?_); rfl)
    | with_reducible refine keep_takeReset ?_ ?_
    | with_reducible refine keep_refuseReset ?_ ?_
    | split

theorem keep_softReset {k : Nat} {a : State} {s : State} {a' : ResetArg} {cmd : Bool}
    (hk : Sub 64424509435 k) (h : Keeps k a s) : Keeps k a (softReset s a' cmd) := by
  unfold softReset
  repeat' first
    | with_reducible assumption
    | ((with_reducible refine Sub.of hk ?_); rfl)
    | with_reducible refine keep_requestedReset ?_ ?_
    | with_reducible refine keep_cmdFailFree ?_ ?_
    | with_reducible refine keep_cmdDone ?_ ?_
    | with_reducible refine Keeps.branch ?_ ?_

theorem keep_snapBlock {k : Nat} {a : State} {s : State} {n : Nat}
    (hk : Sub 17179869186 k) (h : Keeps k a s) : Keeps k a (snapBlock s n) := by
  unfold snapBlock
  refine keep_State_wr (hk.of rfl) (Keeps.bank0 (hk.bits 34 rfl) h ?_)
  rintro ⟨⟨⟨⟨v, w⟩, x, y⟩, z⟩, b0, b1⟩
  exact ⟨⟨⟨⟨v, w⟩, x, y⟩, z⟩, Sparse.wf_foldl_ins (Sparse.wf_keep b0), b1⟩

theorem keep_snapAll {k : Nat} {a : State} {s : State}
    (hk : Sub 17179869186 k) (h : Keeps k a s) : Keeps k a (snapAll s) := by
  unfold snapAll
  repeat' first
    | with_reducible assumption
    | ((with_reducible refine Sub.of hk ?_); rfl)
    | intro _
    | with_reducible refine keep_snapBlock ?_ ?_
    | with_reducible refine keep_State_wr ?_ ?_
    | (with_reducible refine Keeps.foldl ?_ ?_)

theorem keep_setRq {k : Nat} {a : State} {s : State} {i : Nat} {q : RqQp}
    (hk : Sub 268435456 k) (h : Keeps k a s) : Keeps k a (setRq s i q) := by
  unfold setRq
  repeat' first
    | with_reducible assumption
    | ((with_reducible refine Sub.of hk ?_); rfl)
    | (refine Keeps.mst (hk.bits 28 rfl) ?_; first | with_reducible assumption)

theorem keep_doMstQpWrite {k : Nat} {a : State} {s : State}
    (hk : Sub 268435458 k) (h : Keeps k a s) : Keeps k a (doMstQpWrite s) := by
  unfold doMstQpWrite
  repeat' first
    | with_reducible assumption
    | ((with_reducible refine Sub.of hk ?_); rfl)
    | with_reducible refine keep_State_wr ?_ ?_
    | with_reducible refine keep_setRq ?_ ?_
    | with_reducible refine Keeps.branch ?_ ?_

theorem keep_doMstQpRead {k : Nat} {a : State} {s : State}
    (hk : Sub 2 k) (h : Keeps k a s) : Keeps k a (doMstQpRead s) := by
  unfold doMstQpRead
  repeat' first
    | with_reducible assumption
    | ((with_reducible refine Sub.of hk ?_); rfl)
    | intro _
    | with_reducible refine keep_State_wr ?_ ?_
    | (with_reducible refine Keeps.foldl ?_ ?_)
    | with_reducible refine Keeps.branch ?_ ?_

theorem keep_mstForget {k : Nat} {a : State} {s : State} {ids : List Nat}
    (hk : Sub 10202644482 k) (h : Keeps k a s) : Keeps k a (mstForget s ids) := by
  unfold mstForget
  repeat' first
    | with_reducible assumption
    | ((with_reducible refine Sub.of hk ?_); rfl)
    | intro _
    | with_reducible refine keep_dropReqId ?_ ?_
    | with_reducible refine keep_releaseReq ?_ ?_
    | (with_reducible refine Keeps.foldl ?_ ?_)
    | split

theorem keep_streamLookups {k : Nat} {a : State} {s : State} {a' : Nat} {n : Nat}
    (hk : Sub 17181966336 k) (h : Keeps k a s) : Keeps k a (streamLookups s a' n) := by
  unfold streamLookups
  repeat' first
    | with_reducible assumption
    | ((with_reducible refine Sub.of hk ?_); rfl)
    | intro _
    | with_reducible refine keep_streamLookup ?_ ?_
    | (with_reducible refine Keeps.foldl ?_ ?_)

theorem keep_reportAccess {k : Nat} {a : State} {s : State} {e : Nat} {p : Nat} {write : Bool} {miss : Bool}
    (hk : Sub 25906643074 k) (h : Keeps k a s) : Keeps k a (reportAccess s e p write miss) := by
  unfold reportAccess
  repeat' first
    | with_reducible assumption
    | ((with_reducible refine Sub.of hk ?_); rfl)
    | with_reducible refine keep_modExtent ?_ ?_
    | with_reducible refine keep_setPage ?_ ?_
    | with_reducible refine Keeps.branch ?_ ?_
    | (refine Keeps.tie (hk.bits 27 rfl) ?_; with_reducible assumption)

theorem keep_parkFull {k : Nat} {a : State} {s : State} {p : Nat}
    (hk : Sub 26306674816 k) (h : Keeps k a s) : Keeps k a (parkFull s p) := by
  unfold parkFull
  repeat' first
    | with_reducible assumption
    | ((with_reducible refine Sub.of hk ?_); rfl)
    | with_reducible refine keep_raise ?_ ?_
    | with_reducible refine Keeps.branch ?_ ?_
    | (refine Keeps.xpt (hk.bits 29 rfl) ?_; first | with_reducible assumption | with_reducible refine keep_raise ?_ ?_)

theorem keep_setPart {k : Nat} {a : State} {s : State} {id : Nat} {k' : Nat} {f : Part → Part}
    (hk : Sub 536870912 k) (h : Keeps k a s) : Keeps k a (setPart s id k' f) := by
  unfold setPart
  repeat' first
    | with_reducible assumption
    | ((with_reducible refine Sub.of hk ?_); rfl)
    | with_reducible refine keep_setReq ?_ ?_
    | split

theorem keep_makeReady {k : Nat} {a : State} {s : State} {r : Req} {k' : Nat} {p : Nat}
    (hk : Sub 28595191938 k) (h : Keeps k a s) : Keeps k a (makeReady s r k' p).1 := by
  unfold makeReady
  extract_lets +onlyGivenNames e tenant
  split
  · exact h
  · split
    · exact h
    · extract_lets +onlyGivenNames u fresh told noted
      have hu : Keeps k a u := by
        unfold u
        split
        · exact keep_firstWrite (hk.of rfl) h
        · exact h
      have hn : ∀ v, Keeps k a v → Keeps k a (noted v) := by
        intro v hv
        show Keeps k a (if _ then _ else _)
        split
        · exact hv
        · exact keep_reportAccess (hk.of rfl) hv
      clear_value noted u told fresh
      split
      · exact hu
      · split
        · refine keep_setReq (hk.of rfl) ?_
          have ht : Keeps k a (if fresh = true then u else noted (u.bump C.TIE_MISSRETURN)) := by
            split
            · exact hu
            · exact hn _ (keep_State_bump (hk.of rfl) hu)
          refine Keeps.branch ?_ ?_
          · exact keep_parkFull (hk.of rfl) ht
          · exact keep_raise (hk.of rfl) ht
        · extract_lets +onlyGivenNames q
          have hq : Keeps k a q.1 := keep_wantPage (hk.of rfl) hu
          clear_value q
          split
          · exact hq
          · refine keep_setPart (hk.of rfl) ?_
            refine Keeps.branch ?_ ?_
            · exact hq
            · exact hn _ (keep_State_bump (hk.of rfl) hq)

theorem keep_forwardPart {k : Nat} {a : State} {s : State} {p : Nat} {off : Nat} {data : List Nat} {m : Nat → Msg} {pipe : Nat}
    (hk : Sub 27917287426 k) (h : Keeps k a s) : Keeps k a (forwardPart s p off data m pipe).1 := by
  unfold forwardPart
  repeat' first
    | with_reducible assumption
    | ((with_reducible refine Sub.of hk ?_); rfl)
    | with_reducible refine keep_State_bump ?_ ?_
    | with_reducible refine keep_pendAdd ?_ ?_
    | with_reducible refine keep_withTag ?_ ?_
    | (refine Keeps.twn (hk.bits 31 rfl) ?_; first | with_reducible assumption | with_reducible refine keep_State_bump ?_ ?_ | with_reducible refine keep_pendAdd ?_ ?_ | with_reducible refine keep_withTag ?_ ?_)

theorem keep_pendFull {k : Nat} {a : State} {s : State}
    (hk : Sub 25769803904 k) (h : Keeps k a s) : Keeps k a (pendFull s) := by
  unfold pendFull
  repeat' first
    | with_reducible assumption
    | ((with_reducible refine Sub.of hk ?_); rfl)
    | with_reducible refine keep_raise ?_ ?_

theorem keep_seekLines {k : Nat} {a : State} {s : State} {p : Nat} {pipe : Nat} {x : List Nat}
    (hk : Sub 27921481856 k) (h : Keeps k a s) : Keeps k a (seekLines s p pipe x).1 := by
  induction x generalizing s with
  | nil => exact h
  | cons n ns ih =>
    unfold seekLines
    split
    · exact h
    · split
      · split
        · exact h
        · exact ih h
      · exact h
      · extract_lets +onlyGivenNames q
        have hq : Keeps k a q.1 := keep_seekLine (hk.of rfl) h
        split
        · exact ih hq
        · exact hq

theorem keep_failOps {k : Nat} {a : State} {s : State} {id : Nat} {data : List Nat}
    (hk : Sub 536870914 k) (h : Keeps k a s) : Keeps k a (failOps s id data) := by
  unfold failOps
  repeat' first
    | with_reducible assumption
    | ((with_reducible refine Sub.of hk ?_); rfl)
    | with_reducible refine keep_setReq ?_ ?_
    | with_reducible refine keep_settle ?_ ?_
    | split

theorem keep_redoDone {k : Nat} {a : State} {s : State} {r : Req} {x : Part}
    (hk : Sub 17179869184 k) (h : Keeps k a s) : Keeps k a (redoDone s r x) := by
  unfold redoDone
  repeat' first
    | with_reducible assumption
    | ((with_reducible refine Sub.of hk ?_); rfl)
    | with_reducible refine keep_State_bump ?_ ?_
    | with_reducible refine Keeps.branch ?_ ?_

theorem keep_placeAtomic {k : Nat} {a : State} {s : State} {r : Req} {x : Part}
    (hk : Sub 28604629122 k) (h : Keeps k a s) : Keeps k a (placeAtomic s r x) := by
  unfold placeAtomic
  repeat' first
    | with_reducible assumption
    | ((with_reducible refine Sub.of hk ?_); rfl)
    | intro _
    | (extract_lets +onlyGivenNames t
       first
       | (refine Keeps.have_ (k := k) (a := a) (t := t) ?_ ?_; unfold t; clear t; rotate_left; intro _; clear_value t; revert t; intros)
       | (refine Keeps.have_fst (k := k) (a := a) (t := t) ?_ ?_; unfold t; clear t; rotate_left; intro _; clear_value t; revert t; intros)
       | (clear_value t; revert t; intros)
       | (unfold t; clear t))
    | with_reducible refine keep_reportAccess ?_ ?_
    | with_reducible refine keep_backTokens ?_ ?_
    | with_reducible refine keep_setReq ?_ ?_
    | with_reducible refine keep_forwardPart ?_ ?_
    | with_reducible refine keep_placeHome ?_ ?_
    | with_reducible refine keep_pendFull ?_ ?_
    | with_reducible refine keep_seekLines ?_ ?_
    | with_reducible refine keep_failOps ?_ ?_
    | with_reducible refine keep_setPart ?_ ?_
    | with_reducible refine keep_redoDone ?_ ?_
    | with_reducible refine keep_settle ?_ ?_
    | with_reducible refine Keeps.ofPair (by assumption) ?_
    | with_reducible refine Keeps.branch ?_ ?_
    | split

theorem keep_placeRead {k : Nat} {a : State} {s : State} {r : Req}
    (hk : Sub 28595191938 k) (h : Keeps k a s) : Keeps k a (placeRead s r) := by
  unfold placeRead
  repeat' first
    | with_reducible assumption
    | ((with_reducible refine Sub.of hk ?_); rfl)
    | intro _
    | (extract_lets +onlyGivenNames t
       first
       | (refine Keeps.have_ (k := k) (a := a) (t := t) ?_ ?_; unfold t; clear t; rotate_left; intro _; clear_value t; revert t; intros)
       | (refine Keeps.have_fst (k := k) (a := a) (t := t) ?_ ?_; unfold t; clear t; rotate_left; intro _; clear_value t; revert t; intros)
       | (clear_value t; revert t; intros))
    | with_reducible refine keep_reportAccess ?_ ?_
    | with_reducible refine keep_setReq ?_ ?_
    | with_reducible refine keep_makeReady ?_ ?_
    | with_reducible refine keep_seekLines ?_ ?_
    | with_reducible refine keep_failOps ?_ ?_
    | with_reducible refine keep_settle ?_ ?_
    | (with_reducible refine Keeps.foldl ?_ ?_)
    | (with_reducible refine Keeps.foldl_fst ?_ ?_)
    | split

theorem keep_placeWrite {k : Nat} {a : State} {s : State} {r : Req} {k' : Nat} {x : Part}
    (hk : Sub 28604629122 k) (h : Keeps k a s) : Keeps k a (placeWrite s r k' x) := by
  unfold placeWrite
  repeat' first
    | with_reducible assumption
    | ((with_reducible refine Sub.of hk ?_); rfl)
    | (extract_lets +onlyGivenNames t
       first
       | (refine Keeps.have_ (k := k) (a := a) (t := t) ?_ ?_; unfold t; clear t; rotate_left; intro _; clear_value t; revert t; intros)
       | (refine Keeps.have_fst (k := k) (a := a) (t := t) ?_ ?_; unfold t; clear t; rotate_left; intro _; clear_value t; revert t; intros)
       | (clear_value t; revert t; intros))
    | with_reducible refine keep_giveUpTreads ?_ ?_
    | with_reducible refine keep_reportAccess ?_ ?_
    | with_reducible refine keep_backTokens ?_ ?_
    | with_reducible refine keep_setReq ?_ ?_
    | with_reducible refine keep_forwardPart ?_ ?_
    | with_reducible refine keep_placeHome ?_ ?_
    | with_reducible refine keep_pendFull ?_ ?_
    | with_reducible refine keep_seekLines ?_ ?_
    | with_reducible refine keep_failOps ?_ ?_
    | with_reducible refine keep_setPart ?_ ?_
    | with_reducible refine keep_redoDone ?_ ?_
    | with_reducible refine keep_settle ?_ ?_
    | split

theorem keep_takeTokens {k : Nat} {a : State} {s : State} {n : Nat}
    (hk : Sub 2 k) (h : Keeps k a s) : Keeps k a (takeTokens s n) := by
  unfold takeTokens
  repeat' first
    | with_reducible assumption
    | ((with_reducible refine Sub.of hk ?_); rfl)
    | with_reducible refine keep_State_wr ?_ ?_

theorem keep_doPlace {k : Nat} {a : State} {id : Nat} {s : State}
    (hk : Sub 28604629122 k) (h : Keeps k a s) : Keeps k a (doPlace id s) := by
  unfold doPlace
  repeat' first
    | with_reducible assumption
    | ((with_reducible refine Sub.of hk ?_); rfl)
    | intro _
    | (extract_lets +onlyGivenNames t
       first
       | (refine Keeps.have_ (k := k) (a := a) (t := t) ?_ ?_; unfold t; clear t; rotate_left; intro _; clear_value t; revert t; intros)
       | (refine Keeps.have_fst (k := k) (a := a) (t := t) ?_ ?_; unfold t; clear t; rotate_left; intro _; clear_value t; revert t; intros))
    | with_reducible refine keep_setReq ?_ ?_
    | with_reducible refine keep_makeReady ?_ ?_
    | with_reducible refine keep_placeAtomic ?_ ?_
    | with_reducible refine keep_placeRead ?_ ?_
    | with_reducible refine keep_placeWrite ?_ ?_
    | with_reducible refine keep_failOps ?_ ?_
    | with_reducible refine keep_takeTokens ?_ ?_
    | with_reducible refine keep_ringPush ?_ ?_
    | with_reducible refine keep_settle ?_ ?_
    | (with_reducible refine Keeps.foldl ?_ ?_)
    | split

theorem keep_pushReq {k : Nat} {a : State} {s : State} {r : Req}
    (hk : Sub 536870912 k) (h : Keeps k a s) : Keeps k a (pushReq s r) := by
  unfold pushReq
  repeat' first
    | with_reducible assumption
    | ((with_reducible refine Sub.of hk ?_); rfl)
    | (refine Keeps.xpt (hk.bits 29 rfl) ?_; first | with_reducible assumption)

theorem keep_mstWrite {k : Nat} {a : State} {s : State} {a' : Nat} {bs : List Nat}
    (hk : Sub 28604629122 k) (h : Keeps k a s) : Keeps k a (mstWrite s a' bs).1 := by
  unfold mstWrite
  repeat' first
    | with_reducible assumption
    | ((with_reducible refine Sub.of hk ?_); rfl)
    | with_reducible refine keep_streamLookups ?_ ?_
    | with_reducible refine keep_doPlace ?_ ?_
    | with_reducible refine keep_pushReq ?_ ?_

theorem keep_writeLine {k : Nat} {a : State} {s : State} {j : Nat} {ws : List Nat}
    (hk : Sub 29946806402 k) (h : Keeps k a s) : Keeps k a (writeLine s j ws) := by
  unfold writeLine
  repeat' first
    | with_reducible assumption
    | ((with_reducible refine Sub.of hk ?_); rfl)
    | with_reducible refine keep_mstForget ?_ ?_
    | with_reducible refine keep_mstWrite ?_ ?_
    | (refine Keeps.mst (hk.bits 28 rfl) ?_; first | with_reducible assumption | with_reducible refine keep_mstForget ?_ ?_ | with_reducible refine keep_mstWrite ?_ ?_)

theorem keep_dropJob {k : Nat} {a : State} {s : State} {j : Nat}
    (hk : Sub 268435456 k) (h : Keeps k a s) : Keeps k a (dropJob s j) := by
  unfold dropJob
  repeat' first
    | with_reducible assumption
    | ((with_reducible refine Sub.of hk ?_); rfl)
    | (refine Keeps.mst (hk.bits 28 rfl) ?_; first | with_reducible assumption)

theorem keep_completion {k : Nat} {a : State} {s : State} {j : Nat} {st : Nat} {code : Nat} {jseq : Nat}
    (hk : Sub 26038239360 k) (h : Keeps k a s) : Keeps k a (completion s j st code jseq) := by
  unfold completion
  repeat' first
    | with_reducible assumption
    | ((with_reducible refine Sub.of hk ?_); rfl)
    | with_reducible refine keep_raise ?_ ?_
    | with_reducible refine Keeps.branch ?_ ?_
    | (refine Keeps.mst (hk.bits 28 rfl) ?_; first | with_reducible assumption | with_reducible refine keep_raise ?_ ?_)

theorem keep_failJob {k : Nat} {a : State} {s : State} {j : Job} {code : Nat} {pc : Nat} {peer : Nat} {syn : Nat}
    (hk : Sub 29946806402 k) (h : Keeps k a s) : Keeps k a (failJob s j code pc peer syn) := by
  unfold failJob
  repeat' first
    | with_reducible assumption
    | ((with_reducible refine Sub.of hk ?_); rfl)
    | with_reducible refine keep_State_bump ?_ ?_
    | with_reducible refine keep_writeLine ?_ ?_
    | with_reducible refine keep_mstForget ?_ ?_
    | with_reducible refine keep_dropJob ?_ ?_
    | with_reducible refine keep_raise ?_ ?_
    | with_reducible refine keep_completion ?_ ?_
    | with_reducible refine Keeps.branch ?_ ?_

theorem keep_rqError {k : Nat} {a : State} {s : State} {i : Nat} {syn : Nat}
    (hk : Sub 29946806402 k) (h : Keeps k a s) : Keeps k a (rqError s i syn) := by
  unfold rqError
  repeat' first
    | with_reducible assumption
    | ((with_reducible refine Sub.of hk ?_); rfl)
    | intro _
    | with_reducible refine keep_setRq ?_ ?_
    | with_reducible refine keep_failJob ?_ ?_
    | (with_reducible refine Keeps.foldl ?_ ?_)
    | split

theorem keep_doMstQpToError {k : Nat} {a : State} {s : State}
    (hk : Sub 29946806402 k) (h : Keeps k a s) : Keeps k a (doMstQpToError s) := by
  unfold doMstQpToError
  repeat' first
    | with_reducible assumption
    | ((with_reducible refine Sub.of hk ?_); rfl)
    | with_reducible refine keep_State_wr ?_ ?_
    | with_reducible refine keep_rqError ?_ ?_
    | with_reducible refine keep_showMst ?_ ?_
    | with_reducible refine Keeps.branch ?_ ?_

theorem keep_mstQpupd {k : Nat} {a : State} {s : State}
    (hk : Sub 29946806402 k) (h : Keeps k a s) : Keeps k a (mstQpupd s) := by
  unfold mstQpupd
  repeat' first
    | with_reducible assumption
    | ((with_reducible refine Sub.of hk ?_); rfl)
    | with_reducible refine keep_doMstQpWrite ?_ ?_
    | with_reducible refine keep_doMstQpRead ?_ ?_
    | with_reducible refine keep_doMstQpToError ?_ ?_
    | split

theorem keep_relink {k : Nat} {a : State} {s : State} {l : Nat}
    (hk : Sub 26843545730 k) (h : Keeps k a s) : Keeps k a (relink s l) := by
  unfold relink
  repeat' first
    | with_reducible assumption
    | ((with_reducible refine Sub.of hk ?_); rfl)
    | with_reducible refine keep_linkDown ?_ ?_

theorem keep_doPrtRelinkWrite {k : Nat} {a : State} {p : Fin 4} {sub : BitVec 4} {s : State}
    (hk : Sub 26843545730 k) (h : Keeps k a s) : Keeps k a (doPrtRelinkWrite p sub s) := by
  unfold doPrtRelinkWrite
  repeat' first
    | with_reducible assumption
    | ((with_reducible refine Sub.of hk ?_); rfl)
    | intro _
    | with_reducible refine keep_relink ?_ ?_
    | (with_reducible refine Keeps.foldl ?_ ?_)
    | with_reducible refine Keeps.branch ?_ ?_

theorem keep_setEnt {k : Nat} {a : State} {s : State} {e : Nat} {v : Nat}
    (hk : Sub 256 k) (h : Keeps k a s) : Keeps k a (setEnt s e v) := by
  unfold setEnt
  repeat' first
    | with_reducible assumption
    | ((with_reducible refine Sub.of hk ?_); rfl)
    | (refine Keeps.dic (hk.bits 8 rfl) ?_; first | with_reducible assumption)

theorem keep_gaitEnd {k : Nat} {a : State} {s : State} {c : GaitChange}
    (hk : Sub 25769804170 k) (h : Keeps k a s) : Keeps k a (gaitEnd s c) := by
  unfold gaitEnd
  repeat' first
    | with_reducible assumption
    | ((with_reducible refine Sub.of hk ?_); rfl)
    | intro _
    | with_reducible refine keep_setEnt ?_ ?_
    | with_reducible refine keep_State_wr ?_ ?_
    | with_reducible refine keep_State_wbit ?_ ?_
    | with_reducible refine keep_raise ?_ ?_
    | (with_reducible refine Keeps.foldl ?_ ?_)
    | with_reducible refine Keeps.branch ?_ ?_
    | (refine Keeps.gai (hk.bits 3 rfl) ?_; with_reducible assumption)

theorem keep_showGroom {k : Nat} {a : State} {s : State}
    (hk : Sub 2 k) (h : Keeps k a s) : Keeps k a (showGroom s) := by
  unfold showGroom
  repeat' first
    | with_reducible assumption
    | ((with_reducible refine Sub.of hk ?_); rfl)
    | with_reducible refine keep_State_wr ?_ ?_

theorem keep_setGrm {k : Nat} {a : State} {s : State} {c : Nat} {g : GrmCh}
    (hk : Sub 16777216 k) (h : Keeps k a s) : Keeps k a (setGrm s c g) := by
  unfold setGrm
  repeat' first
    | with_reducible assumption
    | ((with_reducible refine Sub.of hk ?_); rfl)
    | (refine Keeps.grm (hk.bits 24 rfl) ?_; first | with_reducible assumption)

theorem keep_setRate {k : Nat} {a : State} {s : State} {c : Nat} {gm : Nat} {mul : Nat}
    (hk : Sub 25786581120 k) (h : Keeps k a s) : Keeps k a (setRate s c gm mul) := by
  unfold setRate
  repeat' first
    | with_reducible assumption
    | ((with_reducible refine Sub.of hk ?_); rfl)
    | with_reducible refine keep_setGrm ?_ ?_
    | with_reducible refine keep_raise ?_ ?_
    | with_reducible refine Keeps.branch ?_ ?_

theorem keep_groomRow {k : Nat} {a : State} {s : State} {gm : Nat}
    (hk : Sub 25786581122 k) (h : Keeps k a s) : Keeps k a (groomRow s gm) := by
  unfold groomRow
  repeat' first
    | with_reducible assumption
    | ((with_reducible refine Sub.of hk ?_); rfl)
    | intro _
    | with_reducible refine keep_showGroom ?_ ?_
    | with_reducible refine keep_setRate ?_ ?_
    | (with_reducible refine Keeps.foldl ?_ ?_)

theorem keep_mstMode {k : Nat} {a : State} {s : State} {n : Nat}
    (hk : Sub 25769803906 k) (h : Keeps k a s) : Keeps k a (mstMode s n) := by
  unfold mstMode
  repeat' first
    | with_reducible assumption
    | ((with_reducible refine Sub.of hk ?_); rfl)
    | with_reducible refine keep_raise ?_ ?_
    | with_reducible refine keep_State_wr ?_ ?_
    | with_reducible refine Keeps.branch ?_ ?_

theorem keep_rqSendOne {k : Nat} {a : State} {s : State} {i : Nat}
    (hk : Sub 27111981056 k) (h : Keeps k a s) : ∀ t, rqSendOne s i = some t → Keeps k a t := by
  intro t ht
  unfold rqSendOne at ht
  extract_lets q at ht
  split at ht
  · contradiction
  · split at ht
    · contradiction
    · extract_lets at ht
      obtain rfl := Option.some.inj ht
      exact keep_txPacket (hk.of rfl) (keep_setRq (hk.of rfl) h)

theorem keep_rqPump {k : Nat} {a : State} {x : Nat} {x' : Nat} {x'' : State}
    (hk : Sub 27111981056 k) (h : Keeps k a x'') : Keeps k a (rqPump x x' x'') := by
  induction x generalizing x' x'' with
  | zero => exact h
  | succ n ih =>
    unfold rqPump
    split
    · exact h
    · exact ih (keep_rqSendOne (hk.of rfl) h _ ‹_›)

theorem keep_govLimit {k : Nat} {a : State} {s : State}
    (hk : Sub 262144 k) (h : Keeps k a s) : Keeps k a (govLimit s) := by
  unfold govLimit
  repeat' first
    | with_reducible assumption
    | ((with_reducible refine Sub.of hk ?_); rfl)
    | (refine Keeps.gov (hk.bits 18 rfl) ?_; first | with_reducible assumption)

theorem keep_govShow {k : Nat} {a : State} {s : State}
    (hk : Sub 25769803906 k) (h : Keeps k a s) : Keeps k a (govShow s) := by
  unfold govShow
  repeat' first
    | with_reducible assumption
    | ((with_reducible refine Sub.of hk ?_); rfl)
    | with_reducible refine keep_raise ?_ ?_
    | with_reducible refine keep_State_wr ?_ ?_
    | with_reducible refine Keeps.branch ?_ ?_

theorem keep_govRow {k : Nat} {a : State} {s : State}
    (hk : Sub 25770066050 k) (h : Keeps k a s) : Keeps k a (govRow s) := by
  unfold govRow
  repeat' first
    | with_reducible assumption
    | ((with_reducible refine Sub.of hk ?_); rfl)
    | with_reducible refine keep_govLimit ?_ ?_
    | with_reducible refine keep_govShow ?_ ?_

theorem keep_gaitTakeRow {k : Nat} {a : State} {r : GaitRow} {s : State} {n : Nat}
    (hk : Sub 27129020554 k) (h : Keeps k a s) : Keeps k a (gaitTakeRow r s n) := by
  unfold gaitTakeRow
  repeat' first
    | with_reducible assumption
    | ((with_reducible refine Sub.of hk ?_); rfl)
    | intro _
    | with_reducible refine keep_groomRow ?_ ?_
    | with_reducible refine keep_mstMode ?_ ?_
    | with_reducible refine keep_rqPump ?_ ?_
    | with_reducible refine keep_State_wr ?_ ?_
    | with_reducible refine keep_govRow ?_ ?_
    | (with_reducible refine Keeps.foldl ?_ ?_)
    | with_reducible refine Keeps.branch ?_ ?_
    | (refine Keeps.gai (hk.bits 3 rfl) ?_; with_reducible assumption)

theorem keep_gaitApply {k : Nat} {a : State} {s : State} {g : Nat}
    (hk : Sub 27129020810 k) (h : Keeps k a s) : Keeps k a (gaitApply s g) := by
  unfold gaitApply
  repeat' first
    | with_reducible assumption
    | ((with_reducible refine Sub.of hk ?_); rfl)
    | intro _
    | with_reducible refine keep_gaitEnd ?_ ?_
    | with_reducible refine keep_gaitTakeRow ?_ ?_
    | with_reducible refine keep_State_wr ?_ ?_
    | (with_reducible refine Keeps.foldl ?_ ?_)
    | with_reducible refine Keeps.branch ?_ ?_
    | (refine Keeps.gai (hk.bits 3 rfl) ?_; with_reducible assumption)

theorem keep_gaitRequest {k : Nat} {a : State} {s : State} {g : Nat}
    (hk : Sub 27129020810 k) (h : Keeps k a s) : Keeps k a (gaitRequest s g).1 := by
  unfold gaitRequest
  repeat' first
    | with_reducible assumption
    | ((with_reducible refine Sub.of hk ?_); rfl)
    | with_reducible refine keep_gaitApply ?_ ?_
    | with_reducible refine keep_raise ?_ ?_
    | with_reducible refine keep_State_wr ?_ ?_
    | split

theorem keep_refuseRow {k : Nat} {a : State} {s : State} {g : Nat} {p : Nat × Nat}
    (hk : Sub 25769803906 k) (h : Keeps k a s) : Keeps k a (refuseRow s g p) := by
  unfold refuseRow
  repeat' first
    | with_reducible assumption
    | ((with_reducible refine Sub.of hk ?_); rfl)
    | with_reducible refine keep_State_wr ?_ ?_
    | with_reducible refine keep_raise ?_ ?_

theorem keep_gaitCommit {k : Nat} {a : State} {s : State}
    (hk : Sub 27129020810 k) (h : Keeps k a s) : Keeps k a (gaitCommit s).1 := by
  unfold gaitCommit
  repeat' first
    | with_reducible assumption
    | ((with_reducible refine Sub.of hk ?_); rfl)
    | intro _
    | (extract_lets +onlyGivenNames t
       first
       | (refine Keeps.have_ (k := k) (a := a) (t := t) ?_ ?_; unfold t; clear t; rotate_left; intro _; clear_value t; revert t; intros)
       | (clear_value t; revert t; intros))
    | with_reducible refine keep_gaitRequest ?_ ?_
    | with_reducible refine keep_State_wr ?_ ?_
    | with_reducible refine keep_refuseRow ?_ ?_
    | (with_reducible refine Keeps.foldl ?_ ?_)
    | split
    | (refine Keeps.gai (hk.bits 3 rfl) ?_; with_reducible assumption)

theorem keep_kerase {k : Nat} {a : State} {s : State} {off : Nat} {n : Nat}
    (hk : Sub 16384 k) (h : Keeps k a s) : Keeps k a (kerase s off n) := by
  unfold kerase
  repeat' first
    | with_reducible assumption
    | ((with_reducible refine Sub.of hk ?_); rfl)
    | (refine Keeps.kpf (hk.bits 14 rfl) ?_; first | with_reducible assumption)

theorem keep_kprog {k : Nat} {a : State} {s : State} {off : Nat} {bs : List Nat}
    (hk : Sub 16384 k) (h : Keeps k a s) : Keeps k a (kprog s off bs) := by
  unfold kprog
  repeat' first
    | with_reducible assumption
    | ((with_reducible refine Sub.of hk ?_); rfl)
    | (refine Keeps.kpf (hk.bits 14 rfl) ?_; first | with_reducible assumption)

theorem keep_commitAppend {k : Nat} {a : State} {s : State} {kind : Nat} {reason : Nat} {part : Nat} {rollback : Nat} {version : List Nat}
    (hk : Sub 16384 k) (h : Keeps k a s) : Keeps k a (commitAppend s kind reason part rollback version) := by
  unfold commitAppend
  repeat' first
    | with_reducible assumption
    | ((with_reducible refine Sub.of hk ?_); rfl)
    | with_reducible refine keep_kerase ?_ ?_
    | with_reducible refine keep_kprog ?_ ?_
    | with_reducible refine Keeps.branch ?_ ?_

theorem keep_cancelStaging {k : Nat} {a : State} {s : State}
    (hk : Sub 20482 k) (h : Keeps k a s) : Keeps k a (cancelStaging s) := by
  unfold cancelStaging
  repeat' first
    | with_reducible assumption
    | ((with_reducible refine Sub.of hk ?_); rfl)
    | with_reducible refine keep_showUpdate ?_ ?_
    | with_reducible refine keep_State_wr ?_ ?_
    | with_reducible refine keep_commitAppend ?_ ?_
    | (refine Keeps.svc (hk.bits 12 rfl) ?_; first | with_reducible assumption | with_reducible refine keep_showUpdate ?_ ?_ | with_reducible refine keep_State_wr ?_ ?_ | with_reducible refine keep_commitAppend ?_ ?_)

theorem keep_cmdRun {k : Nat} {a : State} {s : State} {e : Nat}
    (hk : Sub 256 k) (h : Keeps k a s) : Keeps k a (cmdRun s e) := by
  unfold cmdRun
  repeat' first
    | with_reducible assumption
    | ((with_reducible refine Sub.of hk ?_); rfl)
    | with_reducible refine keep_setCmd ?_ ?_

theorem keep_marginGo {k : Nat} {a : State} {s : State} {cmd : Bool}
    (hk : Sub 8589934866 k) (h : Keeps k a s) : Keeps k a (marginGo s cmd) := by
  unfold marginGo
  repeat' first
    | with_reducible assumption
    | ((with_reducible refine Sub.of hk ?_); rfl)
    | with_reducible refine keep_operation ?_ ?_
    | with_reducible refine keep_cmdFailFree ?_ ?_
    | with_reducible refine keep_cmdRun ?_ ?_
    | with_reducible refine keep_State_wr ?_ ?_
    | with_reducible refine Keeps.branch ?_ ?_
    | (refine Keeps.pwr (hk.bits 4 rfl) ?_; first | with_reducible assumption | with_reducible refine keep_operation ?_ ?_ | with_reducible refine keep_cmdFailFree ?_ ?_ | with_reducible refine keep_cmdRun ?_ ?_ | with_reducible refine keep_State_wr ?_ ?_)

theorem keep_dropFills {k : Nat} {a : State} {s : State}
    (hk : Sub 2097152 k) (h : Keeps k a s) : Keeps k a (dropFills s) := by
  unfold dropFills
  repeat' first
    | with_reducible assumption
    | ((with_reducible refine Sub.of hk ?_); rfl)
    | (refine Keeps.trn (hk.bits 21 rfl) ?_; first | with_reducible assumption)

theorem keep_clearL2 {k : Nat} {a : State} {s : State}
    (hk : Sub 2097152 k) (h : Keeps k a s) : Keeps k a (clearL2 s) := by
  unfold clearL2
  repeat' first
    | with_reducible assumption
    | ((with_reducible refine Sub.of hk ?_); rfl)
    | with_reducible refine keep_dropFills ?_ ?_
    | (refine Keeps.trn (hk.bits 21 rfl) ?_; with_reducible assumption)

theorem keep_doTrnInvalL2 {k : Nat} {a : State} {s : State}
    (hk : Sub 2097152 k) (h : Keeps k a s) : Keeps k a (doTrnInvalL2 s) := by
  unfold doTrnInvalL2
  repeat' first
    | with_reducible assumption
    | ((with_reducible refine Sub.of hk ?_); rfl)
    | with_reducible refine keep_clearL2 ?_ ?_
    | with_reducible refine Keeps.branch ?_ ?_

theorem keep_setLocator {k : Nat} {a : State} {s : State} {f : Nat} {l : SLoc}
    (hk : Sub 25839534210 k) (h : Keeps k a s) : Keeps k a (setLocator s f l) := by
  unfold setLocator
  repeat' first
    | with_reducible assumption
    | ((with_reducible refine Sub.of hk ?_); rfl)
    | with_reducible refine keep_mapTouch ?_ ?_
    | with_reducible refine keep_reportLoc ?_ ?_
    | (refine Keeps.maps (hk.bits 19 rfl) ?_; with_reducible assumption)

theorem keep_setRoot {k : Nat} {a : State} {s : State} {j : Nat} {l : SLoc}
    (hk : Sub 25839534210 k) (h : Keeps k a s) : Keeps k a (setRoot s j l) := by
  unfold setRoot
  repeat' first
    | with_reducible assumption
    | ((with_reducible refine Sub.of hk ?_); rfl)
    | with_reducible refine keep_mapTouch ?_ ?_
    | with_reducible refine keep_reportLoc ?_ ?_
    | (refine Keeps.maps (hk.bits 19 rfl) ?_; with_reducible assumption)

theorem keep_setMapWord {k : Nat} {a : State} {s : State} {a' : Nat} {v : Nat}
    (hk : Sub 25839534210 k) (h : Keeps k a s) : Keeps k a (setMapWord s a' v) := by
  unfold setMapWord
  repeat' first
    | with_reducible assumption
    | ((with_reducible refine Sub.of hk ?_); rfl)
    | with_reducible refine keep_setLocator ?_ ?_
    | with_reducible refine keep_setRoot ?_ ?_
    | with_reducible refine keep_setStore ?_ ?_
    | with_reducible refine keep_setRegion ?_ ?_
    | with_reducible refine keep_setExtent ?_ ?_
    | with_reducible refine keep_setFrame ?_ ?_
    | with_reducible refine keep_setBlk ?_ ?_
    | with_reducible refine Keeps.branch ?_ ?_

theorem keep_putWords {k : Nat} {a : State} {s : State} {a' : Nat} {ws : List Nat}
    (hk : Sub 25839534210 k) (h : Keeps k a s) : Keeps k a (putWords s a' ws) := by
  unfold putWords
  repeat' first
    | with_reducible assumption
    | ((with_reducible refine Sub.of hk ?_); rfl)
    | intro _
    | with_reducible refine keep_setMapWord ?_ ?_
    | (with_reducible refine Keeps.foldl ?_ ?_)

theorem keep_doTrnUpdate {k : Nat} {a : State} {s : State}
    (hk : Sub 25839534210 k) (h : Keeps k a s) : Keeps k a (doTrnUpdate s) := by
  unfold doTrnUpdate
  repeat' first
    | with_reducible assumption
    | ((with_reducible refine Sub.of hk ?_); rfl)
    | (extract_lets +onlyGivenNames t
       first
       | (refine Keeps.have_ (k := k) (a := a) (t := t) ?_ ?_; unfold t; clear t; rotate_left; intro _; clear_value t; revert t; intros)
       | (clear_value t; revert t; intros))
    | with_reducible refine keep_State_wr ?_ ?_
    | with_reducible refine keep_putWords ?_ ?_
    | with_reducible refine Keeps.branch ?_ ?_
    | (refine Keeps.trn (hk.bits 21 rfl) ?_; with_reducible assumption)

theorem keep_doJobWritePort {k : Nat} {a : State} {s : State}
    (hk : Sub 29946806402 k) (h : Keeps k a s) : Keeps k a (doJobWritePort s) := by
  unfold doJobWritePort
  repeat' first
    | with_reducible assumption
    | ((with_reducible refine Sub.of hk ?_); rfl)
    | with_reducible refine keep_mstForget ?_ ?_
    | with_reducible refine keep_State_wr ?_ ?_
    | with_reducible refine keep_mstWrite ?_ ?_
    | with_reducible refine Keeps.branch ?_ ?_
    | (refine Keeps.mst (hk.bits 28 rfl) ?_; first | with_reducible assumption | with_reducible refine keep_mstForget ?_ ?_ | with_reducible refine keep_State_wr ?_ ?_ | with_reducible refine keep_mstWrite ?_ ?_)

theorem keep_checkpoint {k : Nat} {a : State} {s : State}
    (hk : Sub 17179871234 k) (h : Keeps k a s) : Keeps k a (checkpoint s) := by
  unfold checkpoint
  repeat' first
    | with_reducible assumption
    | ((with_reducible refine Sub.of hk ?_); rfl)
    | with_reducible refine keep_State_bump ?_ ?_
    | with_reducible refine keep_State_wr64 ?_ ?_
    | with_reducible refine Keeps.branch ?_ ?_
    | (refine Keeps.cpx (hk.bits 11 rfl) ?_; with_reducible assumption)

theorem keep_checkpointGo {k : Nat} {a : State} {s : State}
    (hk : Sub 17179871234 k) (h : Keeps k a s) : Keeps k a (checkpointGo s) := by
  unfold checkpointGo
  repeat' first
    | with_reducible assumption
    | ((with_reducible refine Sub.of hk ?_); rfl)
    | with_reducible refine keep_checkpoint ?_ ?_
    | with_reducible refine Keeps.branch ?_ ?_
    | (refine Keeps.cpx (hk.bits 11 rfl) ?_; first | with_reducible assumption | with_reducible refine keep_checkpoint ?_ ?_)

theorem keep_switchEvent {k : Nat} {a : State} {s : State} {op : Nat} {c : Nat} {ok : Bool}
    (hk : Sub 25769803904 k) (h : Keeps k a s) : Keeps k a (switchEvent s op c ok) := by
  unfold switchEvent
  repeat' first
    | with_reducible assumption
    | ((with_reducible refine Sub.of hk ?_); rfl)
    | with_reducible refine keep_raise ?_ ?_

theorem keep_clearGo {k : Nat} {a : State} {s : State} {c : Nat} {cmd : Bool}
    (hk : Sub 25769804226 k) (h : Keeps k a s) : Keeps k a (clearGo s c cmd) := by
  unfold clearGo
  repeat' first
    | with_reducible assumption
    | ((with_reducible refine Sub.of hk ?_); rfl)
    | with_reducible refine keep_cmdFailFree ?_ ?_
    | with_reducible refine keep_switchEvent ?_ ?_
    | with_reducible refine keep_writeRecord ?_ ?_
    | with_reducible refine keep_cmdDone ?_ ?_
    | with_reducible refine Keeps.branch ?_ ?_

theorem keep_kick {k : Nat} {a : State} {s : State} {cores : Nat}
    (hk : Sub 2048 k) (h : Keeps k a s) : Keeps k a (kick s cores) := by
  unfold kick
  repeat' first
    | with_reducible assumption
    | ((with_reducible refine Sub.of hk ?_); rfl)
    | intro _
    | (with_reducible refine Keeps.foldl ?_ ?_)
    | with_reducible refine Keeps.branch ?_ ?_
    | (refine Keeps.cpx (hk.bits 11 rfl) ?_; first | with_reducible assumption)

theorem keep_doWatchdogKick {k : Nat} {a : State} {cores : Nat} {s : State}
    (hk : Sub 2048 k) (h : Keeps k a s) : Keeps k a (doWatchdogKick cores s) := by
  unfold doWatchdogKick
  repeat' first
    | with_reducible assumption
    | ((with_reducible refine Sub.of hk ?_); rfl)
    | with_reducible refine keep_kick ?_ ?_
    | with_reducible refine Keeps.branch ?_ ?_

theorem keep_returnGo {k : Nat} {a : State} {s : State} {cmd : Bool}
    (hk : Sub 25782389186 k) (h : Keeps k a s) : Keeps k a (returnGo s cmd) := by
  unfold returnGo
  repeat' first
    | with_reducible assumption
    | ((with_reducible refine Sub.of hk ?_); rfl)
    | with_reducible refine keep_cmdFailFree ?_ ?_
    | with_reducible refine keep_checkpoint ?_ ?_
    | with_reducible refine keep_cmdRun ?_ ?_
    | with_reducible refine keep_switchEvent ?_ ?_
    | with_reducible refine keep_writeRecord ?_ ?_
    | with_reducible refine keep_takeoverStart ?_ ?_
    | with_reducible refine Keeps.branch ?_ ?_

theorem keep_lendRevoke {k : Nat} {a : State} {cmd : Bool} {t : State}
    (hk : Sub 25904021890 k) (h : Keeps k a t) : Keeps k a (lendRevoke cmd t) := by
  unfold lendRevoke
  repeat' first
    | with_reducible assumption
    | ((with_reducible refine Sub.of hk ?_); rfl)
    | with_reducible refine keep_cmdFail ?_ ?_
    | with_reducible refine keep_cmdDone ?_ ?_
    | with_reducible refine keep_setHState ?_ ?_
    | with_reducible refine Keeps.branch ?_ ?_
    | (refine Keeps.tie (hk.bits 27 rfl) ?_; with_reducible assumption)
    | exact Keeps.build 134217730 (hk.of rfl) (by assumption) (by rfl) (by rfl) (by exact fun p hp => by cases p <;> first | exact absurd hp (by decide) | rfl) (by exact List.suffix_refl _) (by exact grown_refl _) (by exact id) (by
        rintro ⟨⟨⟨⟨v, w⟩, x, y⟩, z⟩, b0, b1⟩
        refine ⟨⟨⟨⟨?_, ?_⟩, ?_, ?_⟩, ?_⟩, ?_, ?_⟩ <;>
          repeat' first
            | assumption
            | exact Sparse.wf_nil
            | with_reducible refine Sparse.wf_put ?_
            | with_reducible refine Sparse.wf_ins ?_
            | with_reducible refine Sparse.wf_del ?_
            | with_reducible refine Sparse.wf_keep ?_
            | with_reducible refine Sparse.wf_filter ?_
            | with_reducible refine Sparse.wf_foldl_ins ?_
            | split)

theorem keep_repin {k : Nat} {a : State} {s : State} {e : Nat}
    (hk : Sub 25772425346 k) (h : Keeps k a s) : Keeps k a (repin s e) := by
  unfold repin
  repeat' first
    | with_reducible assumption
    | ((with_reducible refine Sub.of hk ?_); rfl)
    | intro _
    | (extract_lets +onlyGivenNames t
       first
       | (refine Keeps.have_ (k := k) (a := a) (t := t) ?_ ?_; unfold t; clear t; rotate_left; intro _; clear_value t; revert t; intros)
       | (clear_value t; revert t; intros))
    | with_reducible refine keep_setPage ?_ ?_
    | (with_reducible refine Keeps.foldl ?_ ?_)
    | split

theorem keep_repinAll {k : Nat} {a : State} {s : State}
    (hk : Sub 25772425346 k) (h : Keeps k a s) : Keeps k a (repinAll s) := by
  unfold repinAll
  repeat' first
    | with_reducible assumption
    | ((with_reducible refine Sub.of hk ?_); rfl)
    | intro _
    | with_reducible refine keep_repin ?_ ?_
    | (with_reducible refine Keeps.foldl ?_ ?_)

theorem keep_takeTenants {k : Nat} {a : State} {s : State} {m : Sparse Tenant}
    (hk : Sub 134217730 k) (h : Keeps k a s) : Keeps k a (takeTenants s m) := by
  unfold takeTenants
  repeat' first
    | with_reducible assumption
    | ((with_reducible refine Sub.of hk ?_); rfl)
    | with_reducible refine keep_State_wr ?_ ?_
    | with_reducible refine Keeps.branch ?_ ?_
    | (refine Keeps.tie (hk.bits 27 rfl) ?_; with_reducible assumption)

theorem keep_tieQuiet {k : Nat} {a : State} {s : State}
    (hk : Sub 25906643074 k) (h : Keeps k a s) : Keeps k a (tieQuiet s) := by
  unfold tieQuiet
  repeat' first
    | with_reducible assumption
    | ((with_reducible refine Sub.of hk ?_); rfl)
    | with_reducible refine keep_repinAll ?_ ?_
    | with_reducible refine keep_takeTenants ?_ ?_
    | split

theorem keep_toShadow {k : Nat} {a : State} {s : State} {n : Nat} {k' : Nat} {v : Nat}
    (hk : Sub 2 k) (h : Keeps k a s) : Keeps k a (toShadow s n k' v) := by
  unfold toShadow
  repeat' first
    | with_reducible assumption
    | ((with_reducible refine Sub.of hk ?_); rfl)
    | with_reducible refine keep_State_wr ?_ ?_
    | exact Keeps.build 2 (hk.of rfl) (by assumption) (by rfl) (by rfl) (by exact fun p hp => by cases p <;> first | exact absurd hp (by decide) | rfl) (by exact List.suffix_refl _) (by exact grown_refl _) (by exact id) (by
        rintro ⟨⟨⟨⟨v, w⟩, x, y⟩, z⟩, b0, b1⟩
        refine ⟨⟨⟨⟨?_, ?_⟩, ?_, ?_⟩, ?_⟩, ?_, ?_⟩ <;>
          repeat' first
            | assumption
            | exact Sparse.wf_nil
            | with_reducible refine Sparse.wf_put ?_
            | with_reducible refine Sparse.wf_ins ?_
            | with_reducible refine Sparse.wf_del ?_
            | with_reducible refine Sparse.wf_keep ?_
            | with_reducible refine Sparse.wf_filter ?_
            | with_reducible refine Sparse.wf_foldl_ins ?_
            | split)

theorem keep_releaseGroup {k : Nat} {a : State} {s : State} {n : Nat} {p : Nat → Bool}
    (hk : Sub 2 k) (h : Keeps k a s) : Keeps k a (releaseGroup s n p) := by
  unfold releaseGroup
  repeat' first
    | with_reducible assumption
    | ((with_reducible refine Sub.of hk ?_); rfl)
    | intro _
    | with_reducible refine keep_quietPoint ?_ ?_
    | with_reducible refine keep_toShadow ?_ ?_
    | (with_reducible refine Keeps.foldl ?_ ?_)
    | with_reducible refine Keeps.branch ?_ ?_
    | exact Keeps.build 2 (hk.of rfl) (by assumption) (by rfl) (by rfl) (by exact fun p hp => by cases p <;> first | exact absurd hp (by decide) | rfl) (by exact List.suffix_refl _) (by exact grown_refl _) (by exact id) (by
        rintro ⟨⟨⟨⟨v, w⟩, x, y⟩, z⟩, b0, b1⟩
        refine ⟨⟨⟨⟨?_, ?_⟩, ?_, ?_⟩, ?_⟩, ?_, ?_⟩ <;>
          repeat' first
            | assumption
            | exact Sparse.wf_nil
            | with_reducible refine Sparse.wf_put ?_
            | with_reducible refine Sparse.wf_ins ?_
            | with_reducible refine Sparse.wf_del ?_
            | with_reducible refine Sparse.wf_keep ?_
            | with_reducible refine Sparse.wf_filter ?_
            | with_reducible refine Sparse.wf_foldl_ins ?_
            | split)

theorem keep_tpolCommit {k : Nat} {a : State} {s : State}
    (hk : Sub 25906643330 k) (h : Keeps k a s) : Keeps k a (tpolCommit s) := by
  unfold tpolCommit
  repeat' first
    | with_reducible assumption
    | ((with_reducible refine Sub.of hk ?_); rfl)
    | with_reducible refine keep_tieQuiet ?_ ?_
    | with_reducible refine keep_releaseGroup ?_ ?_
    | with_reducible refine keep_cmdDone ?_ ?_
    | with_reducible refine Keeps.branch ?_ ?_
    | (refine Keeps.dic (hk.bits 8 rfl) ?_; first | with_reducible assumption | with_reducible refine keep_tieQuiet ?_ ?_ | with_reducible refine keep_releaseGroup ?_ ?_ | with_reducible refine keep_cmdDone ?_ ?_)

theorem keep_lendCommit {k : Nat} {a : State} {cmd : Bool} {reads : Bool} {t : State}
    (hk : Sub 25904021890 k) (h : Keeps k a t) : Keeps k a (lendCommit cmd reads t) := by
  unfold lendCommit
  repeat' first
    | with_reducible assumption
    | ((with_reducible refine Sub.of hk ?_); rfl)
    | with_reducible refine keep_setHState ?_ ?_
    | with_reducible refine keep_cmdFailFree ?_ ?_
    | with_reducible refine keep_raise ?_ ?_
    | with_reducible refine keep_cmdDone ?_ ?_
    | with_reducible refine Keeps.branch ?_ ?_
    | (refine Keeps.dic (hk.bits 8 rfl) ?_; with_reducible assumption)
    | (refine Keeps.tie (hk.bits 27 rfl) ?_; with_reducible assumption)
    | exact Keeps.build 134217986 (hk.of rfl) (by assumption) (by rfl) (by rfl) (by exact fun p hp => by cases p <;> first | exact absurd hp (by decide) | rfl) (by exact List.suffix_refl _) (by exact grown_refl _) (by exact id) (by
        rintro ⟨⟨⟨⟨v, w⟩, x, y⟩, z⟩, b0, b1⟩
        refine ⟨⟨⟨⟨?_, ?_⟩, ?_, ?_⟩, ?_⟩, ?_, ?_⟩ <;>
          repeat' first
            | assumption
            | exact Sparse.wf_nil
            | with_reducible refine Sparse.wf_put ?_
            | with_reducible refine Sparse.wf_ins ?_
            | with_reducible refine Sparse.wf_del ?_
            | with_reducible refine Sparse.wf_keep ?_
            | with_reducible refine Sparse.wf_filter ?_
            | with_reducible refine Sparse.wf_foldl_ins ?_
            | split)

theorem keep_runWork {k : Nat} {a : State} {s : State}
    (hk : Sub 32421454210 k) (h : Keeps k a s) : Keeps k a (runWork s) := by
  unfold runWork
  repeat' first
    | with_reducible assumption
    | ((with_reducible refine Sub.of hk ?_); rfl)
    | intro _
    | with_reducible refine keep_registerPair ?_ ?_
    | with_reducible refine keep_deallocPair ?_ ?_
    | with_reducible refine keep_lendRevoke ?_ ?_
    | with_reducible refine keep_deregisterPair ?_ ?_
    | with_reducible refine keep_tpolCommit ?_ ?_
    | with_reducible refine keep_lendCommit ?_ ?_
    | (with_reducible refine Keeps.foldl ?_ ?_)
    | split
    | (refine Keeps.dic (hk.bits 8 rfl) ?_; with_reducible assumption)

theorem keep_deallocReq {k : Nat} {a : State} {s : State} {tag : Nat} {e : Nat} {n : Nat}
    (hk : Sub 28126478466 k) (h : Keeps k a s) : Keeps k a (deallocReq s tag e n) := by
  unfold deallocReq
  repeat' first
    | with_reducible assumption
    | ((with_reducible refine Sub.of hk ?_); rfl)
    | intro _
    | (extract_lets +onlyGivenNames t
       first
       | (refine Keeps.have_ (k := k) (a := a) (t := t) ?_ ?_; unfold t; clear t; rotate_left; intro _; clear_value t; revert t; intros)
       | (clear_value t; revert t; intros)
       | (unfold t; clear t))
    | with_reducible refine keep_withTag ?_ ?_
    | with_reducible refine keep_twinSend ?_ ?_
    | with_reducible refine keep_refuseMap ?_ ?_
    | with_reducible refine keep_waitMap ?_ ?_
    | with_reducible refine keep_deallocHere ?_ ?_
    | with_reducible refine Keeps.branch ?_ ?_
    | split

theorem keep_deregReq {k : Nat} {a : State} {s : State} {tag : Nat} {k' : Nat}
    (hk : Sub 27920957570 k) (h : Keeps k a s) : Keeps k a (deregReq s tag k') := by
  unfold deregReq
  repeat' first
    | with_reducible assumption
    | ((with_reducible refine Sub.of hk ?_); rfl)
    | intro _
    | (extract_lets +onlyGivenNames t
       first
       | (refine Keeps.have_ (k := k) (a := a) (t := t) ?_ ?_; unfold t; clear t; rotate_left; intro _; clear_value t; revert t; intros)
       | (clear_value t; revert t; intros)
       | (unfold t; clear t))
    | with_reducible refine keep_withTag ?_ ?_
    | with_reducible refine keep_twinSend ?_ ?_
    | with_reducible refine keep_deregisterHere ?_ ?_
    | with_reducible refine keep_refuseMap ?_ ?_
    | with_reducible refine keep_waitMap ?_ ?_
    | with_reducible refine Keeps.branch ?_ ?_
    | split

theorem keep_regReq {k : Nat} {a : State} {s : State} {tag : Nat} {r : Region}
    (hk : Sub 32215933058 k) (h : Keeps k a s) : Keeps k a (regReq s tag r) := by
  unfold regReq
  repeat' first
    | with_reducible assumption
    | ((with_reducible refine Sub.of hk ?_); rfl)
    | intro _
    | (extract_lets +onlyGivenNames t
       first
       | (refine Keeps.have_ (k := k) (a := a) (t := t) ?_ ?_; unfold t; clear t; rotate_left; intro _; clear_value t; revert t; intros)
       | (refine Keeps.have_fst (k := k) (a := a) (t := t) ?_ ?_; unfold t; clear t; rotate_left; intro _; clear_value t; revert t; intros)
       | (clear_value t; revert t; intros)
       | (unfold t; clear t))
    | with_reducible refine keep_registerHere ?_ ?_
    | with_reducible refine keep_withTag ?_ ?_
    | with_reducible refine keep_twinSend ?_ ?_
    | with_reducible refine keep_refuseMap ?_ ?_
    | with_reducible refine keep_waitMap ?_ ?_
    | with_reducible refine Keeps.ofPair (by assumption) ?_
    | with_reducible refine Keeps.branch ?_ ?_
    | split

theorem keep_mapRequest {k : Nat} {a : State} {s : State} {m : Msg}
    (hk : Sub 32421453954 k) (h : Keeps k a s) : Keeps k a (mapRequest s m) := by
  unfold mapRequest
  repeat' first
    | with_reducible assumption
    | ((with_reducible refine Sub.of hk ?_); rfl)
    | with_reducible refine keep_deallocReq ?_ ?_
    | with_reducible refine keep_deregReq ?_ ?_
    | with_reducible refine keep_regReq ?_ ?_
    | split
    | (refine Keeps.twn (hk.bits 31 rfl) ?_; with_reducible assumption)

theorem keep_runMapq {k : Nat} {a : State} {s : State}
    (hk : Sub 32421453954 k) (h : Keeps k a s) : Keeps k a (runMapq s) := by
  unfold runMapq
  repeat' first
    | with_reducible assumption
    | ((with_reducible refine Sub.of hk ?_); rfl)
    | intro _
    | with_reducible refine keep_mapRequest ?_ ?_
    | (with_reducible refine Keeps.foldl ?_ ?_)
    | (refine Keeps.twn (hk.bits 31 rfl) ?_; with_reducible assumption)

theorem keep_takeoverDone {k : Nat} {a : State} {s : State} {k' : Takeover}
    (hk : Sub 25769806018 k) (h : Keeps k a s) : Keeps k a (takeoverDone s k') := by
  unfold takeoverDone
  repeat' first
    | with_reducible assumption
    | ((with_reducible refine Sub.of hk ?_); rfl)
    | with_reducible refine keep_showGates ?_ ?_
    | with_reducible refine keep_State_bump ?_ ?_
    | with_reducible refine keep_writeRecord ?_ ?_
    | with_reducible refine keep_raise ?_ ?_
    | with_reducible refine keep_State_wr ?_ ?_
    | (refine Keeps.cpx (hk.bits 11 rfl) ?_; first | with_reducible assumption | with_reducible refine keep_showGates ?_ ?_ | with_reducible refine keep_State_bump ?_ ?_ | with_reducible refine keep_writeRecord ?_ ?_ | with_reducible refine keep_raise ?_ ?_ | with_reducible refine keep_State_wr ?_ ?_)

theorem keep_alive {k : Nat} {a : State} {s : State}
    (hk : Sub 32421456322 k) (h : Keeps k a s) : Keeps k a (alive s) := by
  unfold alive
  repeat' first
    | with_reducible assumption
    | ((with_reducible refine Sub.of hk ?_); rfl)
    | with_reducible refine keep_runWork ?_ ?_
    | with_reducible refine keep_cmdDone ?_ ?_
    | with_reducible refine keep_runMapq ?_ ?_
    | with_reducible refine keep_takeoverDone ?_ ?_
    | split

theorem keep_ringTailGo {k : Nat} {a : State} {s : State}
    (hk : Sub 536870914 k) (h : Keeps k a s) : Keeps k a (ringTailGo s) := by
  unfold ringTailGo
  repeat' first
    | with_reducible assumption
    | ((with_reducible refine Sub.of hk ?_); rfl)
    | with_reducible refine keep_setQp ?_ ?_
    | with_reducible refine keep_showDoorbell ?_ ?_
    | with_reducible refine keep_State_wr ?_ ?_
    | with_reducible refine Keeps.branch ?_ ?_

theorem keep_cpxAct {k : Nat} {a : State} {s : State} {n : Nat} {off : Nat} {v : Nat}
    (hk : Sub 32966715842 k) (h : Keeps k a s) : Keeps k a (cpxAct s n off v) := by
  unfold cpxAct
  repeat' first
    | with_reducible assumption
    | ((with_reducible refine Sub.of hk ?_); rfl)
    | with_reducible refine keep_checkpointGo ?_ ?_
    | with_reducible refine keep_clearGo ?_ ?_
    | with_reducible refine keep_doWatchdogKick ?_ ?_
    | with_reducible refine keep_returnGo ?_ ?_
    | with_reducible refine keep_alive ?_ ?_
    | with_reducible refine keep_ringTailGo ?_ ?_
    | with_reducible refine Keeps.branch ?_ ?_

theorem keep_doTenantCommit {k : Nat} {a : State} {cmd : Bool} {s : State}
    (hk : Sub 25904021890 k) (h : Keeps k a s) : Keeps k a (doTenantCommit cmd s) := by
  unfold doTenantCommit
  split
  · exact h
  · extract_lets +onlyGivenNames c m t fail
    have ht : Keeps k a t := by
      unfold t
      split
      · exact keep_cmdRun (hk.of rfl) h
      · exact keep_State_wr (hk.of rfl) h
    have hf : ∀ i j, Keeps k a (fail i j) := by
      intro i j
      show Keeps k a (if cmd = true then _ else _)
      split
      · exact keep_cmdFail (hk.of rfl) (keep_raise (hk.of rfl) ht)
      · exact keep_raise (hk.of rfl) ht
    clear_value fail t
    split
    · exact hf _ _
    · split
      · exact hf _ _
      · extract_lets +onlyGivenNames x y u v
        have hu : Keeps k a u := Keeps.build 134217984 (hk.of rfl) ht rfl rfl
          (fun p hp => by cases p <;> first | exact absurd hp (by decide) | rfl) (List.suffix_refl _) (grown_refl _) id id
        have hv : Keeps k a v := by
          unfold v
          split
          · exact hu
          · exact keep_takeTenants (hk.of rfl) hu
        split
        · exact keep_cmdDone (hk.of rfl) hv
        · exact hv

theorem keep_tenCtl {k : Nat} {a : State} {op : Nat} {i : Fin 1024} {s : State}
    (hk : Sub 2 k) (h : Keeps k a s) : Keeps k a (tenCtl op i s) := by
  unfold tenCtl
  repeat' first
    | with_reducible assumption
    | ((with_reducible refine Sub.of hk ?_); rfl)
    | with_reducible refine keep_State_wr ?_ ?_

theorem keep_doTenantWrite {k : Nat} {a : State} {i : Fin 1024} {s : State}
    (hk : Sub 134217730 k) (h : Keeps k a s) : Keeps k a (doTenantWrite i s) := by
  unfold doTenantWrite
  repeat' first
    | with_reducible assumption
    | ((with_reducible refine Sub.of hk ?_); rfl)
    | with_reducible refine keep_tenCtl ?_ ?_
    | with_reducible refine Keeps.branch ?_ ?_
    | (refine Keeps.tie (hk.bits 27 rfl) ?_; first | with_reducible assumption | with_reducible refine keep_tenCtl ?_ ?_)

theorem keep_doTenantRead {k : Nat} {a : State} {i : Fin 1024} {s : State}
    (hk : Sub 2 k) (h : Keeps k a s) : Keeps k a (doTenantRead i s) := by
  unfold doTenantRead
  repeat' first
    | with_reducible assumption
    | ((with_reducible refine Sub.of hk ?_); rfl)
    | intro _
    | with_reducible refine keep_tenCtl ?_ ?_
    | with_reducible refine keep_State_wr ?_ ?_
    | (with_reducible refine Keeps.foldl ?_ ?_)
    | with_reducible refine Keeps.branch ?_ ?_

theorem keep_tieTenctl {k : Nat} {a : State} {s : State}
    (hk : Sub 25904021890 k) (h : Keeps k a s) : Keeps k a (tieTenctl s) := by
  unfold tieTenctl
  repeat' first
    | with_reducible assumption
    | ((with_reducible refine Sub.of hk ?_); rfl)
    | with_reducible refine keep_doTenantCommit ?_ ?_
    | with_reducible refine keep_doTenantWrite ?_ ?_
    | with_reducible refine keep_doTenantRead ?_ ?_
    | split

theorem keep_showKeys {k : Nat} {a : State} {s : State}
    (hk : Sub 2 k) (h : Keeps k a s) : Keeps k a (showKeys s) := by
  unfold showKeys
  repeat' first
    | with_reducible assumption
    | ((with_reducible refine Sub.of hk ?_); rfl)
    | with_reducible refine keep_State_wr ?_ ?_

theorem keep_keyTake {k : Nat} {a : State} {s : State}
    (hk : Sub 8194 k) (h : Keeps k a s) : Keeps k a (keyTake s) := by
  unfold keyTake
  repeat' first
    | with_reducible assumption
    | ((with_reducible refine Sub.of hk ?_); rfl)
    | with_reducible refine keep_showKeys ?_ ?_
    | (refine Keeps.key (hk.bits 13 rfl) ?_; with_reducible assumption)

theorem keep_calStart {k : Nat} {a : State} {s : State} {trigger : Nat}
    (hk : Sub 33619970 k) (h : Keeps k a s) : Keeps k a (calStart s trigger) := by
  unfold calStart
  repeat' first
    | with_reducible assumption
    | ((with_reducible refine Sub.of hk ?_); rfl)
    | intro _
    | with_reducible refine keep_State_wr ?_ ?_
    | with_reducible refine keep_farAsk ?_ ?_
    | (with_reducible refine Keeps.foldl ?_ ?_)
    | (refine Keeps.cal (hk.bits 16 rfl) ?_; with_reducible assumption)

theorem keep_doCalCmdRun {k : Nat} {a : State} {s : State}
    (hk : Sub 33619970 k) (h : Keeps k a s) : Keeps k a (doCalCmdRun s) := by
  unfold doCalCmdRun
  repeat' first
    | with_reducible assumption
    | ((with_reducible refine Sub.of hk ?_); rfl)
    | with_reducible refine keep_calStart ?_ ?_
    | with_reducible refine Keeps.branch ?_ ?_

theorem keep_doCalCmdRegenerate {k : Nat} {a : State} {s : State}
    (hk : Sub 25769869440 k) (h : Keeps k a s) : Keeps k a (doCalCmdRegenerate s) := by
  unfold doCalCmdRegenerate
  repeat' first
    | with_reducible assumption
    | ((with_reducible refine Sub.of hk ?_); rfl)
    | with_reducible refine keep_raise ?_ ?_
    | with_reducible refine Keeps.branch ?_ ?_
    | (refine Keeps.cal (hk.bits 16 rfl) ?_; with_reducible assumption)

theorem keep_doCalCmdReload {k : Nat} {a : State} {s : State}
    (hk : Sub 25769869442 k) (h : Keeps k a s) : Keeps k a (doCalCmdReload s) := by
  unfold doCalCmdReload
  repeat' first
    | with_reducible assumption
    | ((with_reducible refine Sub.of hk ?_); rfl)
    | with_reducible refine keep_calReload ?_ ?_
    | with_reducible refine Keeps.branch ?_ ?_

theorem keep_calGo {k : Nat} {a : State} {s : State}
    (hk : Sub 25803423874 k) (h : Keeps k a s) : Keeps k a (calGo s) := by
  unfold calGo
  repeat' first
    | with_reducible assumption
    | ((with_reducible refine Sub.of hk ?_); rfl)
    | with_reducible refine keep_doCalCmdRun ?_ ?_
    | with_reducible refine keep_doCalCmdRegenerate ?_ ?_
    | with_reducible refine keep_doCalCmdReload ?_ ?_
    | split

theorem keep_showKpf {k : Nat} {a : State} {s : State}
    (hk : Sub 2 k) (h : Keeps k a s) : Keeps k a (showKpf s) := by
  unfold showKpf
  repeat' first
    | with_reducible assumption
    | ((with_reducible refine Sub.of hk ?_); rfl)
    | with_reducible refine keep_State_wr ?_ ?_

theorem keep_kpfDone {k : Nat} {a : State} {s : State} {q : KpfReq} {status : Nat}
    (hk : Sub 25769820290 k) (h : Keeps k a s) : Keeps k a (kpfDone s q status) := by
  unfold kpfDone
  repeat' first
    | with_reducible assumption
    | ((with_reducible refine Sub.of hk ?_); rfl)
    | with_reducible refine keep_showKpf ?_ ?_
    | with_reducible refine keep_State_bump ?_ ?_
    | with_reducible refine keep_raise ?_ ?_
    | with_reducible refine Keeps.branch ?_ ?_
    | (refine Keeps.kpf (hk.bits 14 rfl) ?_; with_reducible assumption)

theorem keep_kpfSkip {k : Nat} {a : State} {x : Nat} {x' : State}
    (hk : Sub 25769820290 k) (h : Keeps k a x') : Keeps k a (kpfSkip x x') := by
  induction x generalizing x' with
  | zero => exact h
  | succ n ih =>
    unfold kpfSkip
    split
    · split
      · exact h
      · split
        · exact ih (keep_kpfDone (hk.of rfl) h)
        · exact h
    · exact h

theorem keep_kpfPush {k : Nat} {a : State} {s : State}
    (hk : Sub 25769820290 k) (h : Keeps k a s) : Keeps k a (kpfPush s) := by
  unfold kpfPush
  repeat' first
    | with_reducible assumption
    | ((with_reducible refine Sub.of hk ?_); rfl)
    | with_reducible refine keep_showKpf ?_ ?_
    | with_reducible refine keep_State_bump ?_ ?_
    | with_reducible refine keep_kpfSkip ?_ ?_
    | with_reducible refine Keeps.branch ?_ ?_
    | (refine Keeps.kpf (hk.bits 14 rfl) ?_; with_reducible assumption)

theorem keep_clearL1 {k : Nat} {a : State} {s : State} {ports : Nat}
    (hk : Sub 2097152 k) (h : Keeps k a s) : Keeps k a (clearL1 s ports) := by
  unfold clearL1
  repeat' first
    | with_reducible assumption
    | ((with_reducible refine Sub.of hk ?_); rfl)
    | with_reducible refine keep_dropFills ?_ ?_
    | (refine Keeps.trn (hk.bits 21 rfl) ?_; with_reducible assumption)

theorem keep_doTrnInvalL1 {k : Nat} {a : State} {s : State}
    (hk : Sub 2097152 k) (h : Keeps k a s) : Keeps k a (doTrnInvalL1 s) := by
  unfold doTrnInvalL1
  repeat' first
    | with_reducible assumption
    | ((with_reducible refine Sub.of hk ?_); rfl)
    | with_reducible refine keep_clearL1 ?_ ?_
    | with_reducible refine Keeps.branch ?_ ?_

theorem keep_kpfTake {k : Nat} {a : State} {s : State}
    (hk : Sub 16386 k) (h : Keeps k a s) : Keeps k a (kpfTake s) := by
  unfold kpfTake
  repeat' first
    | with_reducible assumption
    | ((with_reducible refine Sub.of hk ?_); rfl)
    | with_reducible refine keep_showKpf ?_ ?_
    | (refine Keeps.kpf (hk.bits 14 rfl) ?_; with_reducible assumption)

theorem keep_keyDone {k : Nat} {a : State} {s : State} {d : List Nat} {status : Nat}
    (hk : Sub 25769812098 k) (h : Keeps k a s) : Keeps k a (keyDone s d status) := by
  unfold keyDone
  repeat' first
    | with_reducible assumption
    | ((with_reducible refine Sub.of hk ?_); rfl)
    | with_reducible refine keep_showKeys ?_ ?_
    | with_reducible refine keep_raise ?_ ?_
    | with_reducible refine Keeps.branch ?_ ?_
    | (refine Keeps.key (hk.bits 13 rfl) ?_; with_reducible assumption)

theorem keep_keySkip {k : Nat} {a : State} {x : Nat} {x' : State}
    (hk : Sub 25769812098 k) (h : Keeps k a x') : Keeps k a (keySkip x x') := by
  induction x generalizing x' with
  | zero => exact h
  | succ n ih =>
    unfold keySkip
    split
    · split
      · exact ih (keep_keyDone (hk.of rfl) h)
      · exact h
    · exact h

theorem keep_keyPush {k : Nat} {a : State} {s : State}
    (hk : Sub 25769812098 k) (h : Keeps k a s) : Keeps k a (keyPush s) := by
  unfold keyPush
  repeat' first
    | with_reducible assumption
    | ((with_reducible refine Sub.of hk ?_); rfl)
    | with_reducible refine keep_showKeys ?_ ?_
    | with_reducible refine keep_keySkip ?_ ?_
    | with_reducible refine keep_raise ?_ ?_
    | with_reducible refine Keeps.branch ?_ ?_
    | (refine Keeps.key (hk.bits 13 rfl) ?_; with_reducible assumption)

theorem keep_cmdWrites {k : Nat} {a : State} {s : State}
    (hk : Sub 268435458 k) (h : Keeps k a s) : Keeps k a (cmdWrites s) := by
  unfold cmdWrites
  repeat' first
    | with_reducible assumption
    | ((with_reducible refine Sub.of hk ?_); rfl)
    | with_reducible refine keep_State_wr ?_ ?_
    | split
    | (refine Keeps.mst (hk.bits 28 rfl) ?_; with_reducible assumption)

theorem keep_submitResult {k : Nat} {a : State} {s : State} {r : Nat}
    (hk : Sub 2 k) (h : Keeps k a s) : Keeps k a (submitResult s r) := by
  unfold submitResult
  repeat' first
    | with_reducible assumption
    | ((with_reducible refine Sub.of hk ?_); rfl)
    | with_reducible refine keep_State_wr ?_ ?_

theorem keep_submitRegs {k : Nat} {a : State} {s : State} {op : Nat} {j : Nat}
    (hk : Sub 2 k) (h : Keeps k a s) : Keeps k a (submitRegs s op j) := by
  unfold submitRegs
  repeat' first
    | with_reducible assumption
    | ((with_reducible refine Sub.of hk ?_); rfl)
    | with_reducible refine keep_State_wr ?_ ?_

theorem keep_requeueJob {k : Nat} {a : State} {s : State} {j : Nat}
    (hk : Sub 29946806402 k) (h : Keeps k a s) : Keeps k a (requeueJob s j).1 := by
  unfold requeueJob
  repeat' first
    | with_reducible assumption
    | ((with_reducible refine Sub.of hk ?_); rfl)
    | with_reducible refine keep_writeLine ?_ ?_
    | with_reducible refine keep_showMst ?_ ?_
    | split
    | (refine Keeps.mst (hk.bits 28 rfl) ?_; with_reducible assumption)

theorem keep_doJobRequeue {k : Nat} {a : State} {j : Nat} {s : State}
    (hk : Sub 29946806402 k) (h : Keeps k a s) : Keeps k a (doJobRequeue j s) := by
  unfold doJobRequeue
  repeat' first
    | with_reducible assumption
    | ((with_reducible refine Sub.of hk ?_); rfl)
    | with_reducible refine keep_cmdWrites ?_ ?_
    | with_reducible refine keep_submitResult ?_ ?_
    | with_reducible refine keep_submitRegs ?_ ?_
    | with_reducible refine keep_requeueJob ?_ ?_
    | with_reducible refine Keeps.branch ?_ ?_

theorem keep_setJob {k : Nat} {a : State} {s : State} {j : Job}
    (hk : Sub 268435456 k) (h : Keeps k a s) : Keeps k a (setJob s j) := by
  unfold setJob
  repeat' first
    | with_reducible assumption
    | ((with_reducible refine Sub.of hk ?_); rfl)
    | (refine Keeps.mst (hk.bits 28 rfl) ?_; first | with_reducible assumption)

theorem keep_cancelEnd {k : Nat} {a : State} {s : State} {j : Job}
    (hk : Sub 29946806402 k) (h : Keeps k a s) : Keeps k a (cancelEnd s j) := by
  unfold cancelEnd
  repeat' first
    | with_reducible assumption
    | ((with_reducible refine Sub.of hk ?_); rfl)
    | with_reducible refine keep_writeLine ?_ ?_
    | with_reducible refine keep_dropJob ?_ ?_
    | with_reducible refine keep_completion ?_ ?_
    | with_reducible refine Keeps.branch ?_ ?_

theorem keep_cancelJob {k : Nat} {a : State} {s : State} {j : Nat}
    (hk : Sub 29946806402 k) (h : Keeps k a s) : Keeps k a (cancelJob s j).1 := by
  unfold cancelJob
  repeat' first
    | with_reducible assumption
    | ((with_reducible refine Sub.of hk ?_); rfl)
    | with_reducible refine keep_setJob ?_ ?_
    | with_reducible refine keep_cancelEnd ?_ ?_
    | with_reducible refine keep_writeLine ?_ ?_
    | with_reducible refine keep_showMst ?_ ?_
    | with_reducible refine keep_completion ?_ ?_
    | split
    | (refine Keeps.mst (hk.bits 28 rfl) ?_; with_reducible assumption)

theorem keep_doJobCancel {k : Nat} {a : State} {j : Nat} {s : State}
    (hk : Sub 29946806402 k) (h : Keeps k a s) : Keeps k a (doJobCancel j s) := by
  unfold doJobCancel
  repeat' first
    | with_reducible assumption
    | ((with_reducible refine Sub.of hk ?_); rfl)
    | with_reducible refine keep_cmdWrites ?_ ?_
    | with_reducible refine keep_submitResult ?_ ?_
    | with_reducible refine keep_cancelJob ?_ ?_
    | with_reducible refine keep_submitRegs ?_ ?_
    | with_reducible refine Keeps.branch ?_ ?_

theorem keep_doJobSubmit {k : Nat} {a : State} {j : Nat} {s : State}
    (hk : Sub 29946806402 k) (h : Keeps k a s) : Keeps k a (doJobSubmit j s) := by
  unfold doJobSubmit
  repeat' first
    | with_reducible assumption
    | ((with_reducible refine Sub.of hk ?_); rfl)
    | with_reducible refine keep_submitRegs ?_ ?_
    | with_reducible refine keep_cmdWrites ?_ ?_
    | with_reducible refine keep_writeLine ?_ ?_
    | with_reducible refine keep_showMst ?_ ?_
    | with_reducible refine keep_raise ?_ ?_
    | with_reducible refine keep_submitResult ?_ ?_
    | with_reducible refine Keeps.branch ?_ ?_
    | (refine Keeps.mst (hk.bits 28 rfl) ?_; first | with_reducible assumption | with_reducible refine keep_submitRegs ?_ ?_ | with_reducible refine keep_cmdWrites ?_ ?_ | with_reducible refine keep_writeLine ?_ ?_ | with_reducible refine keep_showMst ?_ ?_ | with_reducible refine keep_raise ?_ ?_ | with_reducible refine keep_submitResult ?_ ?_)

theorem keep_mstSubmit {k : Nat} {a : State} {s : State}
    (hk : Sub 29946806402 k) (h : Keeps k a s) : Keeps k a (mstSubmit s) := by
  unfold mstSubmit
  repeat' first
    | with_reducible assumption
    | ((with_reducible refine Sub.of hk ?_); rfl)
    | with_reducible refine keep_doJobRequeue ?_ ?_
    | with_reducible refine keep_doJobCancel ?_ ?_
    | with_reducible refine keep_doJobSubmit ?_ ?_
    | split

theorem keep_askGait {k : Nat} {a : State} {s : State} {g : Nat}
    (hk : Sub 27129020810 k) (h : Keeps k a s) : Keeps k a (askGait s g).1 := by
  unfold askGait
  repeat' first
    | with_reducible assumption
    | ((with_reducible refine Sub.of hk ?_); rfl)
    | with_reducible refine keep_gaitRequest ?_ ?_
    | with_reducible refine keep_State_wr ?_ ?_
    | with_reducible refine Keeps.branch ?_ ?_

theorem keep_doCompletionTake {k : Nat} {a : State} {s : State}
    (hk : Sub 268435458 k) (h : Keeps k a s) : Keeps k a (doCompletionTake s) := by
  unfold doCompletionTake
  repeat' first
    | with_reducible assumption
    | ((with_reducible refine Sub.of hk ?_); rfl)
    | with_reducible refine keep_showMst ?_ ?_
    | with_reducible refine Keeps.branch ?_ ?_
    | (refine Keeps.mst (hk.bits 28 rfl) ?_; with_reducible assumption)

theorem keep_fwNext {k : Nat} {a : State} {s : State} {ch : Nat}
    (hk : Sub 67108864 k) (h : Keeps k a s) : Keeps k a (fwNext s ch) := by
  unfold fwNext
  repeat' first
    | with_reducible assumption
    | ((with_reducible refine Sub.of hk ?_); rfl)
    | (refine Keeps.stf (hk.bits 26 rfl) ?_; first | with_reducible assumption)

theorem keep_fwAnswer {k : Nat} {a : State} {s : State} {ch : Nat} {n : Nat} {status : Nat} {corr : Nat} {retries : Nat}
    (hk : Sub 17192452098 k) (h : Keeps k a s) : Keeps k a (fwAnswer s ch n status corr retries) := by
  unfold fwAnswer
  repeat' first
    | with_reducible assumption
    | ((with_reducible refine Sub.of hk ?_); rfl)
    | with_reducible refine keep_dWrite ?_ ?_

theorem keep_fwSkip {k : Nat} {a : State} {x : Nat} {x' : Nat} {x'' : State}
    (hk : Sub 17259560962 k) (h : Keeps k a x'') : Keeps k a (fwSkip x x' x'') := by
  induction x generalizing x' x'' with
  | zero => exact h
  | succ n ih =>
    unfold fwSkip
    split
    · exact h
    · dsimp only
      split
      · exact h
      · exact ih (keep_fwNext (hk.of rfl) (keep_fwAnswer (hk.of rfl) h))

theorem keep_doStfFwtailWrite {k : Nat} {a : State} {ch : Fin 32} {tail : Fin 64} {s : State}
    (hk : Sub 17259560962 k) (h : Keeps k a s) : Keeps k a (doStfFwtailWrite ch tail s) := by
  unfold doStfFwtailWrite
  repeat' first
    | with_reducible assumption
    | ((with_reducible refine Sub.of hk ?_); rfl)
    | with_reducible refine keep_fwSkip ?_ ?_
    | with_reducible refine keep_State_wr ?_ ?_
    | with_reducible refine Keeps.branch ?_ ?_
    | (refine Keeps.stf (hk.bits 26 rfl) ?_; first | with_reducible assumption | with_reducible refine keep_fwSkip ?_ ?_ | with_reducible refine keep_State_wr ?_ ?_)

theorem keep_extAsk {k : Nat} {a : State} {s : State} {op : Nat}
    (hk : Sub 258 k) (h : Keeps k a s) : Keeps k a (extAsk s op) := by
  unfold extAsk
  repeat' first
    | with_reducible assumption
    | ((with_reducible refine Sub.of hk ?_); rfl)
    | with_reducible refine keep_State_wr ?_ ?_
    | (refine Keeps.dic (hk.bits 8 rfl) ?_; with_reducible assumption)

theorem keep_spanStart {k : Nat} {a : State} {s : State}
    (hk : Sub 27917287424 k) (h : Keeps k a s) : Keeps k a (spanStart s) := by
  unfold spanStart
  repeat' first
    | with_reducible assumption
    | ((with_reducible refine Sub.of hk ?_); rfl)
    | with_reducible refine keep_withTag ?_ ?_
    | (refine Keeps.twn (hk.bits 31 rfl) ?_; first | with_reducible assumption | with_reducible refine keep_withTag ?_ ?_)

theorem keep_twnDone {k : Nat} {a : State} {s : State} {op : Nat}
    (hk : Sub 258 k) (h : Keeps k a s) : Keeps k a (twnDone s op) := by
  unfold twnDone
  repeat' first
    | with_reducible assumption
    | ((with_reducible refine Sub.of hk ?_); rfl)
    | with_reducible refine keep_cmdDone ?_ ?_
    | with_reducible refine keep_State_wr ?_ ?_

theorem keep_twnRefuse {k : Nat} {a : State} {s : State} {op : Nat} {code : Nat}
    (hk : Sub 258 k) (h : Keeps k a s) : Keeps k a (twnRefuse s op code) := by
  unfold twnRefuse
  repeat' first
    | with_reducible assumption
    | ((with_reducible refine Sub.of hk ?_); rfl)
    | with_reducible refine keep_State_wr ?_ ?_
    | with_reducible refine keep_cmdFail ?_ ?_

theorem keep_showGate {k : Nat} {a : State} {s : State}
    (hk : Sub 2 k) (h : Keeps k a s) : Keeps k a (showGate s) := by
  unfold showGate
  repeat' first
    | with_reducible assumption
    | ((with_reducible refine Sub.of hk ?_); rfl)
    | with_reducible refine keep_State_wr ?_ ?_

theorem keep_blankMaps {k : Nat} {a : State} {s : State}
    (hk : Sub 25978994818 k) (h : Keeps k a s) : Keeps k a (blankMaps s) := by
  unfold blankMaps
  repeat' first
    | with_reducible assumption
    | ((with_reducible refine Sub.of hk ?_); rfl)
    | intro _
    | (extract_lets +onlyGivenNames t
       first
       | (refine Keeps.have_ (k := k) (a := a) (t := t) ?_ ?_; unfold t; clear t; rotate_left; intro _; clear_value t; revert t; intros)
       | (clear_value t; revert t; intros))
    | with_reducible refine keep_deallocExtent ?_ ?_
    | with_reducible refine keep_showFences ?_ ?_
    | with_reducible refine keep_setRegion ?_ ?_
    | with_reducible refine keep_showLog ?_ ?_
    | with_reducible refine keep_showGroups ?_ ?_
    | (with_reducible refine Keeps.foldl ?_ ?_)
    | (refine Keeps.maps (hk.bits 19 rfl) ?_; with_reducible assumption)
    | (refine Keeps.log (hk.bits 20 rfl) ?_; with_reducible assumption)
    | (refine Keeps.tie (hk.bits 27 rfl) ?_; with_reducible assumption)
    | exact Keeps.build 135790592 (hk.of rfl) (by assumption) (by rfl) (by rfl) (by exact fun p hp => by cases p <;> first | exact absurd hp (by decide) | rfl) (by exact List.suffix_refl _) (by exact grown_refl _) (by exact id) (by exact id)

theorem keep_twnCmd {k : Nat} {a : State} {op : Nat} {s : State}
    (hk : Sub 68719476731 k) (h : Keeps k a s) : Keeps k a (twnCmd op s) := by
  unfold twnCmd
  repeat' first
    | with_reducible assumption
    | ((with_reducible refine Sub.of hk ?_); rfl)
    | with_reducible refine keep_spanStart ?_ ?_
    | with_reducible refine keep_setPair ?_ ?_
    | with_reducible refine keep_stopSide ?_ ?_
    | with_reducible refine keep_twnDone ?_ ?_
    | with_reducible refine keep_unpair ?_ ?_
    | with_reducible refine keep_setRole ?_ ?_
    | with_reducible refine keep_cmdRun ?_ ?_
    | with_reducible refine keep_twnRefuse ?_ ?_
    | with_reducible refine keep_State_wr ?_ ?_
    | with_reducible refine keep_visilDown ?_ ?_
    | with_reducible refine keep_showGate ?_ ?_
    | with_reducible refine keep_twinDepart ?_ ?_
    | with_reducible refine keep_blankMaps ?_ ?_
    | with_reducible refine keep_enterSolo ?_ ?_
    | with_reducible refine keep_recountDirty ?_ ?_
    | with_reducible refine keep_withTag ?_ ?_
    | with_reducible refine Keeps.branch ?_ ?_
    | split
    | (refine Keeps.twn (hk.bits 31 rfl) ?_; first | with_reducible assumption | with_reducible refine keep_spanStart ?_ ?_ | with_reducible refine keep_setPair ?_ ?_ | with_reducible refine keep_stopSide ?_ ?_ | with_reducible refine keep_twnDone ?_ ?_ | with_reducible refine keep_unpair ?_ ?_ | with_reducible refine keep_setRole ?_ ?_ | with_reducible refine keep_cmdRun ?_ ?_ | with_reducible refine keep_twnRefuse ?_ ?_ | with_reducible refine keep_State_wr ?_ ?_ | with_reducible refine keep_visilDown ?_ ?_ | with_reducible refine keep_showGate ?_ ?_ | with_reducible refine keep_twinDepart ?_ ?_ | with_reducible refine keep_blankMaps ?_ ?_ | with_reducible refine keep_enterSolo ?_ ?_ | with_reducible refine keep_recountDirty ?_ ?_ | with_reducible refine keep_withTag ?_ ?_)

theorem keep_twnGo {k : Nat} {a : State} {s : State}
    (hk : Sub 68719476731 k) (h : Keeps k a s) : Keeps k a (twnGo s) := by
  unfold twnGo
  repeat' first
    | with_reducible assumption
    | ((with_reducible refine Sub.of hk ?_); rfl)
    | with_reducible refine keep_twnCmd ?_ ?_
    | with_reducible refine Keeps.branch ?_ ?_

theorem keep_queueWork {k : Nat} {a : State} {s : State} {k' : Nat} {a' : List Nat}
    (hk : Sub 256 k) (h : Keeps k a s) : Keeps k a (queueWork s k' a') := by
  unfold queueWork
  repeat' first
    | with_reducible assumption
    | ((with_reducible refine Sub.of hk ?_); rfl)
    | (refine Keeps.dic (hk.bits 8 rfl) ?_; first | with_reducible assumption)

theorem keep_doLendCommit {k : Nat} {a : State} {cmd : Bool} {reads : Bool} {s : State}
    (hk : Sub 25904021890 k) (h : Keeps k a s) : Keeps k a (doLendCommit cmd reads s) := by
  unfold doLendCommit
  repeat' first
    | with_reducible assumption
    | ((with_reducible refine Sub.of hk ?_); rfl)
    | with_reducible refine keep_cmdRun ?_ ?_
    | with_reducible refine keep_State_wr ?_ ?_
    | with_reducible refine keep_queueWork ?_ ?_
    | with_reducible refine keep_lendCommit ?_ ?_
    | with_reducible refine Keeps.branch ?_ ?_

theorem keep_doLendRevoke {k : Nat} {a : State} {cmd : Bool} {s : State}
    (hk : Sub 25904021890 k) (h : Keeps k a s) : Keeps k a (doLendRevoke cmd s) := by
  unfold doLendRevoke
  repeat' first
    | with_reducible assumption
    | ((with_reducible refine Sub.of hk ?_); rfl)
    | with_reducible refine keep_cmdRun ?_ ?_
    | with_reducible refine keep_State_wr ?_ ?_
    | with_reducible refine keep_queueWork ?_ ?_
    | with_reducible refine keep_lendRevoke ?_ ?_
    | with_reducible refine Keeps.branch ?_ ?_

theorem keep_tieHctl {k : Nat} {a : State} {s : State}
    (hk : Sub 25904021890 k) (h : Keeps k a s) : Keeps k a (tieHctl s) := by
  unfold tieHctl
  repeat' first
    | with_reducible assumption
    | ((with_reducible refine Sub.of hk ?_); rfl)
    | with_reducible refine keep_doLendCommit ?_ ?_
    | with_reducible refine keep_doLendRevoke ?_ ?_
    | with_reducible refine Keeps.branch ?_ ?_

theorem keep_editPut {k : Nat} {a : State} {s : State} {g : Nat} {f : Fld → Nat}
    (hk : Sub 8 k) (h : Keeps k a s) : Keeps k a (editPut s g f) := by
  unfold editPut
  repeat' first
    | with_reducible assumption
    | ((with_reducible refine Sub.of hk ?_); rfl)
    | (refine Keeps.gai (hk.bits 3 rfl) ?_; first | with_reducible assumption)

theorem keep_gaitDefaults {k : Nat} {a : State} {s : State}
    (hk : Sub 8 k) (h : Keeps k a s) : Keeps k a (gaitDefaults s) := by
  unfold gaitDefaults
  repeat' first
    | with_reducible assumption
    | ((with_reducible refine Sub.of hk ?_); rfl)
    | intro _
    | with_reducible refine keep_editPut ?_ ?_
    | (with_reducible refine Keeps.foldl ?_ ?_)

theorem keep_lineUncorr {k : Nat} {a : State} {s : State} {l : Nat}
    (hk : Sub 4194304 k) (h : Keeps k a s) : Keeps k a (lineUncorr s l) := by
  unfold lineUncorr
  repeat' first
    | with_reducible assumption
    | ((with_reducible refine Sub.of hk ?_); rfl)
    | (refine Keeps.dram (hk.bits 22 rfl) ?_ (by first | exact fun g => Memory.wf_memZero g | exact fun g => Memory.wf_memWrite g | exact fun g => Memory.wf_memPaste g | exact id | exact fun _ => rfl); first | with_reducible assumption)

theorem keep_trnStart {k : Nat} {a : State} {s : State} {c : Nat} {op : Nat}
    (hk : Sub 12582914 k) (h : Keeps k a s) : Keeps k a (trnStart s c op) := by
  unfold trnStart
  repeat' first
    | with_reducible assumption
    | ((with_reducible refine Sub.of hk ?_); rfl)
    | intro _
    | with_reducible refine keep_setDrc ?_ ?_
    | with_reducible refine keep_State_wr ?_ ?_
    | with_reducible refine keep_lineUncorr ?_ ?_
    | (with_reducible refine Keeps.foldl ?_ ?_)
    | with_reducible refine Keeps.branch ?_ ?_

theorem keep_doTrainingOpMrr {k : Nat} {a : State} {c : Fin 16} {s : State}
    (hk : Sub 12582914 k) (h : Keeps k a s) : Keeps k a (doTrainingOpMrr c s) := by
  unfold doTrainingOpMrr
  repeat' first
    | with_reducible assumption
    | ((with_reducible refine Sub.of hk ?_); rfl)
    | with_reducible refine keep_trnStart ?_ ?_
    | with_reducible refine Keeps.branch ?_ ?_

theorem keep_doTrainingOpWrite {k : Nat} {a : State} {c : Fin 16} {s : State}
    (hk : Sub 12582914 k) (h : Keeps k a s) : Keeps k a (doTrainingOpWrite c s) := by
  unfold doTrainingOpWrite
  repeat' first
    | with_reducible assumption
    | ((with_reducible refine Sub.of hk ?_); rfl)
    | with_reducible refine keep_trnStart ?_ ?_
    | with_reducible refine Keeps.branch ?_ ?_

theorem keep_doTrainingOpCompare {k : Nat} {a : State} {c : Fin 16} {s : State}
    (hk : Sub 12582914 k) (h : Keeps k a s) : Keeps k a (doTrainingOpCompare c s) := by
  unfold doTrainingOpCompare
  repeat' first
    | with_reducible assumption
    | ((with_reducible refine Sub.of hk ?_); rfl)
    | with_reducible refine keep_trnStart ?_ ?_
    | with_reducible refine Keeps.branch ?_ ?_

theorem keep_doTrainingOpCaLoopback {k : Nat} {a : State} {c : Fin 16} {s : State}
    (hk : Sub 12582914 k) (h : Keeps k a s) : Keeps k a (doTrainingOpCaLoopback c s) := by
  unfold doTrainingOpCaLoopback
  repeat' first
    | with_reducible assumption
    | ((with_reducible refine Sub.of hk ?_); rfl)
    | with_reducible refine keep_trnStart ?_ ?_
    | with_reducible refine Keeps.branch ?_ ?_

theorem keep_drcTrnctl {k : Nat} {a : State} {s : State} {c : Fin 16}
    (hk : Sub 12582914 k) (h : Keeps k a s) : Keeps k a (drcTrnctl s c) := by
  unfold drcTrnctl
  repeat' first
    | with_reducible assumption
    | ((with_reducible refine Sub.of hk ?_); rfl)
    | with_reducible refine keep_doTrainingOpMrr ?_ ?_
    | with_reducible refine keep_doTrainingOpWrite ?_ ?_
    | with_reducible refine keep_doTrainingOpCompare ?_ ?_
    | with_reducible refine keep_doTrainingOpCaLoopback ?_ ?_
    | split

theorem keep_act {k : Nat} {a : State} {s : State} {n : Nat} {off : Nat} {v : Nat}
    (hk : Sub 68719476731 k) (h : Keeps k a s) : Keeps k a (act s n off v) := by
  unfold act
  repeat' first
    | with_reducible assumption
    | ((with_reducible refine Sub.of hk ?_); rfl)
    | with_reducible refine keep_xptQpupd ?_ ?_
    | with_reducible refine keep_mdioRun ?_ ?_
    | with_reducible refine keep_softReset ?_ ?_
    | with_reducible refine keep_snapAll ?_ ?_
    | with_reducible refine keep_mstQpupd ?_ ?_
    | with_reducible refine keep_doPrtRelinkWrite ?_ ?_
    | with_reducible refine keep_gaitCommit ?_ ?_
    | with_reducible refine keep_cancelStaging ?_ ?_
    | with_reducible refine keep_marginGo ?_ ?_
    | with_reducible refine keep_doTrnInvalL2 ?_ ?_
    | with_reducible refine keep_doTrnUpdate ?_ ?_
    | with_reducible refine keep_doJobWritePort ?_ ?_
    | with_reducible refine keep_cpxAct ?_ ?_
    | with_reducible refine keep_tieTenctl ?_ ?_
    | with_reducible refine keep_keyTake ?_ ?_
    | with_reducible refine keep_calGo ?_ ?_
    | with_reducible refine keep_kpfPush ?_ ?_
    | with_reducible refine keep_doTrnInvalL1 ?_ ?_
    | with_reducible refine keep_kpfTake ?_ ?_
    | with_reducible refine keep_keyPush ?_ ?_
    | with_reducible refine keep_mstSubmit ?_ ?_
    | with_reducible refine keep_askGait ?_ ?_
    | with_reducible refine keep_doCompletionTake ?_ ?_
    | with_reducible refine keep_doStfFwtailWrite ?_ ?_
    | with_reducible refine keep_extAsk ?_ ?_
    | with_reducible refine keep_twnGo ?_ ?_
    | with_reducible refine keep_tieHctl ?_ ?_
    | with_reducible refine keep_gaitDefaults ?_ ?_
    | with_reducible refine keep_drcTrnctl ?_ ?_
    | with_reducible refine Keeps.branch ?_ ?_

theorem keep_pairRefused {k : Nat} {a : State} {s : State} {dec : Nat} {reason : Nat} {peerId : Nat}
    (hk : Sub 27954512258 k) (h : Keeps k a s) : Keeps k a (pairRefused s dec reason peerId) := by
  unfold pairRefused
  repeat' first
    | with_reducible assumption
    | ((with_reducible refine Sub.of hk ?_); rfl)
    | (extract_lets +onlyGivenNames t
       first
       | (refine Keeps.have_ (k := k) (a := a) (t := t) ?_ ?_; unfold t; clear t; rotate_left; intro _; clear_value t; revert t; intros))
    | with_reducible refine keep_setEnt ?_ ?_
    | with_reducible refine keep_unpair ?_ ?_
    | with_reducible refine keep_State_wr ?_ ?_
    | with_reducible refine keep_visilDown ?_ ?_
    | with_reducible refine keep_raise ?_ ?_
    | with_reducible refine Keeps.branch ?_ ?_
    | (refine Keeps.twn (hk.bits 31 rfl) ?_; with_reducible assumption)

theorem keep_sendPendList {k : Nat} {a : State} {x : Nat} {x' : List Nat} {x'' : State}
    (hk : Sub 27917287424 k) (h : Keeps k a x'') : Keeps k a (sendPendList x x' x'') := by
  induction x generalizing x' x'' with
  | zero => exact h
  | succ n ih =>
    unfold sendPendList
    have g : ∀ f, Keeps k a (withTag x'' f) := fun f => keep_withTag (hk.of rfl) h
    dsimp only
    split
    · exact g _
    · exact ih (g _)

theorem keep_returnStart {k : Nat} {a : State} {s : State}
    (hk : Sub 27919384578 k) (h : Keeps k a s) : Keeps k a (returnStart s) := by
  unfold returnStart
  repeat' first
    | with_reducible assumption
    | ((with_reducible refine Sub.of hk ?_); rfl)
    | intro _
    | (extract_lets +onlyGivenNames t
       first
       | (refine Keeps.have_ (k := k) (a := a) (t := t) ?_ ?_; unfold t; clear t; rotate_left; intro _; clear_value t; revert t; intros)
       | (clear_value t; revert t; intros))
    | with_reducible refine keep_sendPendList ?_ ?_
    | with_reducible refine keep_sendResync ?_ ?_
    | (with_reducible refine Keeps.foldl ?_ ?_)
    | with_reducible refine Keeps.branch ?_ ?_
    | (refine Keeps.twn (hk.bits 31 rfl) ?_; with_reducible assumption)

theorem keep_reconStart {k : Nat} {a : State} {s : State}
    (hk : Sub 27917287424 k) (h : Keeps k a s) : Keeps k a (reconStart s) := by
  unfold reconStart
  repeat' first
    | with_reducible assumption
    | ((with_reducible refine Sub.of hk ?_); rfl)
    | intro _
    | with_reducible refine keep_withTag ?_ ?_
    | (with_reducible refine Keeps.foldl ?_ ?_)
    | (refine Keeps.twn (hk.bits 31 rfl) ?_; with_reducible assumption)

theorem keep_enterSpan {k : Nat} {a : State} {s : State} {pgen : Nat}
    (hk : Sub 27920957826 k) (h : Keeps k a s) : Keeps k a (enterSpan s pgen) := by
  unfold enterSpan
  repeat' first
    | with_reducible assumption
    | ((with_reducible refine Sub.of hk ?_); rfl)
    | intro _
    | (extract_lets +onlyGivenNames t
       first
       | (refine Keeps.have_ (k := k) (a := a) (t := t) ?_ ?_; unfold t; clear t; rotate_left; intro _; clear_value t; revert t; intros))
    | with_reducible refine keep_logTouch ?_ ?_
    | with_reducible refine keep_setPair ?_ ?_
    | with_reducible refine keep_setRole ?_ ?_
    | with_reducible refine keep_State_wr ?_ ?_
    | with_reducible refine keep_showGate ?_ ?_
    | with_reducible refine keep_setTState ?_ ?_
    | with_reducible refine keep_showLog ?_ ?_
    | with_reducible refine keep_cmdDone ?_ ?_
    | (with_reducible refine Keeps.foldl ?_ ?_)
    | with_reducible refine Keeps.branch ?_ ?_
    | (refine Keeps.twn (hk.bits 31 rfl) ?_; with_reducible assumption)
    | (refine Keeps.log (hk.bits 20 rfl) ?_; with_reducible assumption)
    | exact Keeps.build 2148532224 (hk.of rfl) (by assumption) (by rfl) (by rfl) (by exact fun p hp => by cases p <;> first | exact absurd hp (by decide) | rfl) (by exact List.suffix_refl _) (by exact grown_refl _) (by exact id) (by exact id)

theorem keep_markAll {k : Nat} {a : State} {s : State}
    (hk : Sub 1048578 k) (h : Keeps k a s) : Keeps k a (markAll s) := by
  unfold markAll
  repeat' first
    | with_reducible assumption
    | ((with_reducible refine Sub.of hk ?_); rfl)
    | with_reducible refine keep_showLog ?_ ?_
    | (refine Keeps.log (hk.bits 20 rfl) ?_; with_reducible assumption)

theorem keep_actOn {k : Nat} {a : State} {s : State} {dec : Nat} {reason : Nat} {level : Nat} {pairId : Nat} {pgen : Nat} {peer : Hello}
    (hk : Sub 29565124994 k) (h : Keeps k a s) : Keeps k a (actOn s dec reason level pairId pgen peer) := by
  unfold actOn
  extract_lets +onlyGivenNames w u paired survivor fresh
  have hu : Keeps k a u := Keeps.twn (hk.bits 31 rfl) h
  have hp : ∀ v, Keeps k a v → Keeps k a (paired v) := fun v hv => Keeps.twn (hk.bits 31 rfl) hv
  have hf : ∀ v, Keeps k a v → Keeps k a (fresh v) := fun v hv => Keeps.twn (hk.bits 31 rfl) hv
  clear_value u paired survivor fresh
  have key : Keeps k a (if survivor = true then
      let t := setTState (((setRole (fresh (paired u)) 1).wr R.TWN_STATE_LEAD 1)) 4
      let t : State := { t with twn := { t.twn with pairing := 2 } }
      showGate (if peer.blank then markAll t else t)
    else
      let t := setPair (if tstate u = 3 then hostsOff (paired u) else paired u) pairId u.log.pgen
      let t := setTState ((setRole (fresh t) 2).wr R.TWN_STATE_LEAD 0) 4
      returnStart { t with twn := { t.twn with pairing := 3 } }) := by
    split
    · refine keep_showGate (hk.of rfl) ?_
      have ht : Keeps k a (setTState (((setRole (fresh (paired u)) 1).wr R.TWN_STATE_LEAD 1)) 4) :=
        keep_setTState (hk.of rfl) (keep_State_wr (hk.of rfl) (keep_setRole (hk.of rfl) (hf _ (hp _ hu))))
      dsimp only
      split
      · exact keep_markAll (hk.of rfl) (Keeps.twn (hk.bits 31 rfl) ht)
      · exact Keeps.twn (hk.bits 31 rfl) ht
    · refine keep_returnStart (hk.of rfl) (Keeps.twn (hk.bits 31 rfl) (keep_setTState (hk.of rfl)
        (keep_State_wr (hk.of rfl) (keep_setRole (hk.of rfl) (hf _ (keep_setPair (hk.of rfl) ?_))))))
      split
      · exact keep_hostsOff (hk.of rfl) (hp _ hu)
      · exact hp _ hu
  split
  · split
    · exact keep_enterSpan (hk.of rfl) (keep_setPair (hk.of rfl) (hp _ hu))
    · exact hu
  · split
    · exact keep_reconStart (hk.of rfl) (hp _ hu)
    · exact hu
  · exact key
  · exact key
  · exact keep_pairRefused (hk.of rfl) hu

theorem keep_kcopy {k : Nat} {a : State} {s : State} {src : Nat} {dst : Nat} {n : Nat}
    (hk : Sub 16384 k) (h : Keeps k a s) : Keeps k a (kcopy s src dst n) := by
  unfold kcopy
  repeat' first
    | with_reducible assumption
    | ((with_reducible refine Sub.of hk ?_); rfl)
    | (refine Keeps.kpf (hk.bits 14 rfl) ?_; first | with_reducible assumption)

theorem keep_reportRefused {k : Nat} {a : State} {s : State} {base : Nat} {reason : Nat}
    (hk : Sub 25769803904 k) (h : Keeps k a s) : Keeps k a (reportRefused s base reason) := by
  unfold reportRefused
  repeat' first
    | with_reducible assumption
    | ((with_reducible refine Sub.of hk ?_); rfl)
    | with_reducible refine keep_raise ?_ ?_
    | with_reducible refine Keeps.branch ?_ ?_

theorem keep_rejectImage {k : Nat} {a : State} {s : State} {reason : Nat} {part : Nat}
    (hk : Sub 25769820290 k) (h : Keeps k a s) : Keeps k a (rejectImage s reason part) := by
  unfold rejectImage
  repeat' first
    | with_reducible assumption
    | ((with_reducible refine Sub.of hk ?_); rfl)
    | with_reducible refine keep_raise ?_ ?_
    | with_reducible refine keep_State_wr ?_ ?_
    | with_reducible refine keep_commitAppend ?_ ?_
    | with_reducible refine keep_reportRefused ?_ ?_

theorem keep_activate {k : Nat} {a : State} {s : State}
    (hk : Sub 25769820290 k) (h : Keeps k a s) : Keeps k a (activate s) := by
  unfold activate
  repeat' first
    | with_reducible assumption
    | ((with_reducible refine Sub.of hk ?_); rfl)
    | with_reducible refine keep_kcopy ?_ ?_
    | with_reducible refine keep_raise ?_ ?_
    | with_reducible refine keep_rejectImage ?_ ?_
    | with_reducible refine keep_commitAppend ?_ ?_
    | split

theorem keep_admitPass {k : Nat} {a : State} {s : State} {r : Req}
    (hk : Sub 10200547330 k) (h : Keeps k a s) : Keeps k a (admitPass s r) := by
  unfold admitPass
  repeat' first
    | with_reducible assumption
    | ((with_reducible refine Sub.of hk ?_); rfl)
    | with_reducible refine keep_showAdmit ?_ ?_
    | with_reducible refine keep_setReq ?_ ?_
    | with_reducible refine keep_takeTokens ?_ ?_

theorem keep_sendCnp {k : Nat} {a : State} {s : State} {i : Nat} {pipe : Nat}
    (hk : Sub 27380416512 k) (h : Keeps k a s) : Keeps k a (sendCnp s i pipe) := by
  unfold sendCnp
  repeat' first
    | with_reducible assumption
    | ((with_reducible refine Sub.of hk ?_); rfl)
    | with_reducible refine keep_State_bump ?_ ?_
    | with_reducible refine keep_txPacket ?_ ?_
    | with_reducible refine Keeps.branch ?_ ?_
    | (refine Keeps.xpt (hk.bits 29 rfl) ?_; with_reducible assumption)

theorem keep_admitPressure {k : Nat} {a : State} {s : State} {p : Nat}
    (hk : Sub 27380416640 k) (h : Keeps k a s) : Keeps k a (admitPressure s p) := by
  unfold admitPressure
  repeat' first
    | with_reducible assumption
    | ((with_reducible refine Sub.of hk ?_); rfl)
    | intro _
    | (extract_lets +onlyGivenNames t
       first
       | (refine Keeps.have_ (k := k) (a := a) (t := t) ?_ ?_; unfold t; clear t; rotate_left; intro _; clear_value t; revert t; intros)
       | (clear_value t; revert t; intros)
       | (unfold t; clear t))
    | with_reducible refine keep_State_emit ?_ ?_
    | with_reducible refine keep_sendCnp ?_ ?_
    | with_reducible refine keep_raise ?_ ?_
    | (with_reducible refine Keeps.foldl ?_ ?_)
    | (with_reducible refine Keeps.foldl_fst ?_ ?_)
    | with_reducible refine Keeps.branch ?_ ?_
    | split
    | (refine Keeps.prt (hk.bits 30 rfl) ?_; first | with_reducible assumption | with_reducible refine keep_State_emit ?_ ?_ | with_reducible refine keep_sendCnp ?_ ?_ | with_reducible refine keep_raise ?_ ?_)

theorem keep_afterOff {k : Nat} {a : State} {s : State} {floorLost : Bool}
    (hk : Sub 55834574843 k) (h : Keeps k a s) : Keeps k a (afterOff s floorLost) := by
  unfold afterOff
  refine h.trans ⟨fun p hp => ?_, rfl, rfl, List.suffix_refl _, grown_refl _, fun _ => rfl, fun _ => ?_⟩
  · cases p <;> first | rfl | exact absurd (hk.bits _ rfl) (by rw [hp]; decide)
  · exact ⟨⟨⟨⟨rfl, rfl⟩, rfl, rfl⟩, rfl⟩, rfl, rfl⟩

theorem keep_leaveSaved {k : Nat} {a : State} {s : State}
    (hk : Sub 64424476667 k) (h : Keeps k a s) : Keeps k a (leaveSaved s) := by
  unfold leaveSaved
  repeat' first
    | with_reducible assumption
    | ((with_reducible refine Sub.of hk ?_); rfl)
    | with_reducible refine keep_coldEffect ?_ ?_
    | with_reducible refine keep_startFall ?_ ?_
    | split

theorem keep_afterSaved {k : Nat} {a : State} {s : State}
    (hk : Sub 64424509435 k) (h : Keeps k a s) : Keeps k a (afterSaved s) := by
  unfold afterSaved
  repeat' first
    | with_reducible assumption
    | ((with_reducible refine Sub.of hk ?_); rfl)
    | intro _
    | (extract_lets +onlyGivenNames t
       first
       | (refine Keeps.have_ (k := k) (a := a) (t := t) ?_ ?_; unfold t; clear t; rotate_left; intro _; clear_value t; revert t; intros)
       | (clear_value t; revert t; intros)
       | (unfold t; clear t))
    | with_reducible refine keep_latchOn ?_ ?_
    | with_reducible refine keep_lowReset ?_ ?_
    | with_reducible refine keep_leaveSaved ?_ ?_
    | (with_reducible refine Keeps.foldl ?_ ?_)
    | (with_reducible refine Keeps.foldl_fst ?_ ?_)
    | with_reducible refine Keeps.branch ?_ ?_
    | split
    | (refine Keeps.rst (hk.bits 5 rfl) ?_; first | with_reducible assumption | with_reducible refine keep_latchOn ?_ ?_ | with_reducible refine keep_lowReset ?_ ?_ | with_reducible refine keep_leaveSaved ?_ ?_)

theorem keep_showPci {k : Nat} {a : State} {s : State} {up : Bool} {speed : Nat} {width : Nat}
    (hk : Sub 2 k) (h : Keeps k a s) : Keeps k a (showPci s up speed width) := by
  unfold showPci
  repeat' first
    | with_reducible assumption
    | ((with_reducible refine Sub.of hk ?_); rfl)
    | with_reducible refine keep_State_wr ?_ ?_

theorem keep_afterWrite {k : Nat} {a : State} {s : State} {n : Nat}
    (hk : Sub 25769803906 k) (h : Keeps k a s) : Keeps k a (afterWrite s n) := by
  unfold afterWrite
  repeat' first
    | with_reducible assumption
    | ((with_reducible refine Sub.of hk ?_); rfl)
    | with_reducible refine keep_showPci ?_ ?_
    | with_reducible refine keep_hostDown ?_ ?_
    | with_reducible refine keep_showMst ?_ ?_
    | with_reducible refine Keeps.branch ?_ ?_

theorem keep_rowWrite {k : Nat} {a : State} {s : State} {g : Nat} {w : Nat} {v : Nat}
    (hk : Sub 25769803914 k) (h : Keeps k a s) : Keeps k a (rowWrite s g w v) := by
  unfold rowWrite
  repeat' first
    | with_reducible assumption
    | ((with_reducible refine Sub.of hk ?_); rfl)
    | (extract_lets +onlyGivenNames t
       first
       | (refine Keeps.have_ (k := k) (a := a) (t := t) ?_ ?_; unfold t; clear t; rotate_left; intro _; clear_value t; revert t; intros)
       | (clear_value t; revert t; intros))
    | with_reducible refine keep_State_wr ?_ ?_
    | with_reducible refine keep_refuseRow ?_ ?_
    | with_reducible refine keep_editPut ?_ ?_
    | split
    | (refine Keeps.gai (hk.bits 3 rfl) ?_; with_reducible assumption)

theorem keep_modSession {k : Nat} {a : State} {s : State} {sess : Nat} {f : Session → Session}
    (hk : Sub 256 k) (h : Keeps k a s) : Keeps k a (modSession s sess f) := by
  unfold modSession
  repeat' first
    | with_reducible assumption
    | ((with_reducible refine Sub.of hk ?_); rfl)
    | (refine Keeps.dic (hk.bits 8 rfl) ?_; first | with_reducible assumption)

theorem keep_noAnswer {k : Nat} {a : State} {s : State} {path : Nat}
    (hk : Sub 512 k) (h : Keeps k a s) : Keeps k a (noAnswer s path) := by
  unfold noAnswer
  repeat' first
    | with_reducible assumption
    | ((with_reducible refine Sub.of hk ?_); rfl)
    | with_reducible refine Keeps.branch ?_ ?_
    | (refine Keeps.pci (hk.bits 9 rfl) ?_; first | with_reducible assumption)

theorem keep_showHandler {k : Nat} {a : State} {s : State}
    (hk : Sub 2 k) (h : Keeps k a s) : Keeps k a (showHandler s) := by
  unfold showHandler
  repeat' first
    | with_reducible assumption
    | ((with_reducible refine Sub.of hk ?_); rfl)
    | intro _
    | with_reducible refine keep_State_wr ?_ ?_
    | (with_reducible refine Keeps.foldl ?_ ?_)
    | split

theorem keep_clearNotsess {k : Nat} {a : State} {s : State} {n : Nat}
    (hk : Sub 134217728 k) (h : Keeps k a s) : Keeps k a (clearNotsess s n) := by
  unfold clearNotsess
  repeat' first
    | with_reducible assumption
    | ((with_reducible refine Sub.of hk ?_); rfl)
    | (refine Keeps.tie (hk.bits 27 rfl) ?_; first | with_reducible assumption)

theorem keep_endSession {k : Nat} {a : State} {s : State} {n : Nat} {why : Nat}
    (hk : Sub 25904022410 k) (h : Keeps k a s) : Keeps k a (endSession s n why) := by
  unfold endSession
  repeat' first
    | with_reducible assumption
    | ((with_reducible refine Sub.of hk ?_); rfl)
    | with_reducible refine keep_noAnswer ?_ ?_
    | with_reducible refine keep_dropShadows ?_ ?_
    | with_reducible refine keep_showHandler ?_ ?_
    | with_reducible refine keep_clearNotsess ?_ ?_
    | with_reducible refine keep_raise ?_ ?_
    | with_reducible refine Keeps.branch ?_ ?_
    | split
    | (refine Keeps.recd (hk.bits 7 rfl) ?_; with_reducible assumption)
    | (refine Keeps.dic (hk.bits 8 rfl) ?_; with_reducible assumption)
    | exact Keeps.build 384 (hk.of rfl) (by assumption) (by rfl) (by rfl) (by exact fun p hp => by cases p <;> first | exact absurd hp (by decide) | rfl) (by exact List.suffix_refl _) (by exact grown_refl _) (by exact id) (by exact id)

theorem keep_countFrame {k : Nat} {a : State} {s : State} {sub : Nat}
    (hk : Sub 256 k) (h : Keeps k a s) : Keeps k a (countFrame s sub) := by
  unfold countFrame
  repeat' first
    | with_reducible assumption
    | ((with_reducible refine Sub.of hk ?_); rfl)
    | with_reducible refine keep_setEnt ?_ ?_

theorem keep_tagBlocks {k : Nat} {a : State} {s : State} {n : Nat}
    (hk : Sub 17179869184 k) (h : Keeps k a s) : Keeps k a (tagBlocks s n) := by
  unfold tagBlocks
  repeat' first
    | with_reducible assumption
    | ((with_reducible refine Sub.of hk ?_); rfl)
    | with_reducible refine keep_State_bump ?_ ?_

theorem keep_deliver {k : Nat} {a : State} {s : State} {path : Nat} {dst : Nat} {f : List Nat}
    (hk : Sub 27917287936 k) (h : Keeps k a s) : Keeps k a (deliver s path dst f) := by
  unfold deliver
  repeat' first
    | with_reducible assumption
    | ((with_reducible refine Sub.of hk ?_); rfl)
    | with_reducible refine keep_twinSend ?_ ?_
    | with_reducible refine keep_State_emit ?_ ?_
    | with_reducible refine Keeps.branch ?_ ?_
    | (refine Keeps.pci (hk.bits 9 rfl) ?_; with_reducible assumption)

theorem keep_respond {k : Nat} {a : State} {s : State} {n : Nat} {kind : Nat} {seq : Nat} {status : Nat} {tag : List Nat} {body : List Nat}
    (hk : Sub 28051506058 k) (h : Keeps k a s) : Keeps k a (respond s n kind seq status tag body) := by
  unfold respond
  repeat' first
    | with_reducible assumption
    | ((with_reducible refine Sub.of hk ?_); rfl)
    | with_reducible refine keep_modSession ?_ ?_
    | with_reducible refine keep_endSession ?_ ?_
    | with_reducible refine keep_countFrame ?_ ?_
    | with_reducible refine keep_tagBlocks ?_ ?_
    | with_reducible refine keep_deliver ?_ ?_
    | split

theorem keep_respondItems {k : Nat} {a : State} {s : State} {o : OpenFrame}
    (hk : Sub 28051506058 k) (h : Keeps k a s) : Keeps k a (respondItems s o) := by
  unfold respondItems
  repeat' first
    | with_reducible assumption
    | ((with_reducible refine Sub.of hk ?_); rfl)
    | with_reducible refine keep_respond ?_ ?_
    | with_reducible refine Keeps.branch ?_ ?_

theorem keep_readMode {k : Nat} {a : State} {s : State} {r : Nat}
    (hk : Sub 8589934592 k) (h : Keeps k a s) : Keeps k a (readMode s r) := by
  unfold readMode
  repeat' first
    | with_reducible assumption
    | ((with_reducible refine Sub.of hk ?_); rfl)
    | with_reducible refine keep_State_emit ?_ ?_
    | with_reducible refine Keeps.branch ?_ ?_

theorem keep_takeField {k : Nat} {a : State} {s : State} {n : Nat} {F : Fld} {i : Nat} {v : Nat} {writer : Nat}
    (hk : Sub 25769803906 k) (h : Keeps k a s) : Keeps k a (takeField s n F i v writer).1 := by
  unfold takeField
  repeat' first
    | with_reducible assumption
    | ((with_reducible refine Sub.of hk ?_); rfl)
    | with_reducible refine keep_raise ?_ ?_
    | with_reducible refine keep_State_wr ?_ ?_
    | with_reducible refine keep_toShadow ?_ ?_
    | with_reducible refine Keeps.branch_fst ?_ ?_
    | split
    | exact Keeps.build 2 (hk.of rfl) (by assumption) (by rfl) (by rfl) (by exact fun p hp => by cases p <;> first | exact absurd hp (by decide) | rfl) (by exact List.suffix_refl _) (by exact grown_refl _) (by exact id) (by
        rintro ⟨⟨⟨⟨v, w⟩, x, y⟩, z⟩, b0, b1⟩
        refine ⟨⟨⟨⟨?_, ?_⟩, ?_, ?_⟩, ?_⟩, ?_, ?_⟩ <;>
          repeat' first
            | assumption
            | exact Sparse.wf_nil
            | with_reducible refine Sparse.wf_put ?_
            | with_reducible refine Sparse.wf_ins ?_
            | with_reducible refine Sparse.wf_del ?_
            | with_reducible refine Sparse.wf_keep ?_
            | with_reducible refine Sparse.wf_filter ?_
            | with_reducible refine Sparse.wf_foldl_ins ?_
            | split)

theorem keep_bindWrite {k : Nat} {a : State} {s : State} {d : Bind} {v : Nat} {writer : Nat}
    (hk : Sub 25769803906 k) (h : Keeps k a s) : Keeps k a (bindWrite s d v writer).1 := by
  unfold bindWrite
  repeat' first
    | with_reducible assumption
    | ((with_reducible refine Sub.of hk ?_); rfl)
    | intro _
    | with_reducible refine keep_readMode ?_ ?_
    | with_reducible refine keep_afterWrite ?_ ?_
    | with_reducible refine keep_takeField ?_ ?_
    | (with_reducible refine Keeps.foldl ?_ ?_)
    | with_reducible refine Keeps.branch_fst ?_ ?_
    | split

theorem keep_owned {k : Nat} {a : State} {s : State} {k' : Nat} {sess : Nat} {w : State × Nat}
    (hk : Sub 256 k) (h : Keeps k a s) (hw : Keeps k a w.1) : Keeps k a (owned s k' sess w).1 := by
  unfold owned
  split
  · exact h
  · split
    · exact Keeps.dic (hk.bits 8 rfl) hw
    · exact hw

theorem keep_within {k : Nat} {a : State} {s : State} {ok : Bool} {f : State → State}
    (hk : Sub 0 k) (h : Keeps k a s) (hf : ∀ t, Keeps k a t → Keeps k a (f t)) : Keeps k a (within s ok f).1 := by
  unfold within
  split
  · exact hf s h
  · exact h

theorem keep_writeTenant {k : Nat} {a : State} {s : State} {sess : Nat} {sub : Nat} {v : Nat}
    (hk : Sub 134217984 k) (h : Keeps k a s) : Keeps k a (writeTenant s sess sub v).1 := by
  unfold writeTenant
  repeat' first
    | with_reducible assumption
    | ((with_reducible refine Sub.of hk ?_); rfl)
    | intro _
    | with_reducible refine keep_owned ?_ ?_ ?_
    | with_reducible refine keep_within ?_ ?_ ?_
    | split
    | (refine Keeps.tie (hk.bits 27 rfl) ?_; with_reducible assumption)

theorem keep_writeReg {k : Nat} {a : State} {s : State} {sess : Nat} {sub : Nat} {v : Nat}
    (hk : Sub 256 k) (h : Keeps k a s) : Keeps k a (writeReg s sess sub v).1 := by
  unfold writeReg
  repeat' first
    | with_reducible assumption
    | ((with_reducible refine Sub.of hk ?_); rfl)
    | intro _
    | with_reducible refine keep_within ?_ ?_ ?_
    | with_reducible refine keep_owned ?_ ?_ ?_
    | with_reducible refine keep_setEnt ?_ ?_

theorem keep_editField {k : Nat} {a : State} {s : State} {sess : Nat} {g : Nat} {k' : Nat} {v : Nat}
    (hk : Sub 8 k) (h : Keeps k a s) : Keeps k a (editField s sess g k' v).1 := by
  unfold editField
  repeat' first
    | with_reducible assumption
    | ((with_reducible refine Sub.of hk ?_); rfl)
    | with_reducible refine Keeps.branch_fst ?_ ?_
    | (refine Keeps.gai (hk.bits 3 rfl) ?_; first | with_reducible assumption)

theorem keep_writeOwn {k : Nat} {a : State} {s : State} {sess : Nat} {index : Nat} {sub : Nat} {v : Nat}
    (hk : Sub 27263238538 k) (h : Keeps k a s) : Keeps k a (writeOwn s sess index sub v).1 := by
  unfold writeOwn
  repeat' first
    | with_reducible assumption
    | ((with_reducible refine Sub.of hk ?_); rfl)
    | intro _
    | with_reducible refine keep_writeTenant ?_ ?_
    | with_reducible refine keep_setEnt ?_ ?_
    | with_reducible refine keep_within ?_ ?_ ?_
    | with_reducible refine keep_askGait ?_ ?_
    | with_reducible refine keep_modSession ?_ ?_
    | with_reducible refine keep_State_wr ?_ ?_
    | with_reducible refine keep_writeReg ?_ ?_
    | with_reducible refine keep_editField ?_ ?_
    | split

theorem keep_startShown {k : Nat} {a : State} {s : State} {n : Nat} {bad : Bool}
    (hk : Sub 2 k) (h : Keeps k a s) : Keeps k a (startShown s n bad) := by
  unfold startShown
  repeat' first
    | with_reducible assumption
    | ((with_reducible refine Sub.of hk ?_); rfl)
    | with_reducible refine keep_State_wr ?_ ?_
    | with_reducible refine Keeps.branch ?_ ?_

theorem keep_startBlock {k : Nat} {a : State} {s : State} {n : Nat}
    (hk : Sub 25769803906 k) (h : Keeps k a s) : Keeps k a (startBlock s n) := by
  unfold startBlock
  repeat' first
    | with_reducible assumption
    | ((with_reducible refine Sub.of hk ?_); rfl)
    | with_reducible refine keep_recountDirty ?_ ?_
    | with_reducible refine keep_showMst ?_ ?_
    | with_reducible refine keep_raise ?_ ?_
    | with_reducible refine keep_State_wr ?_ ?_
    | with_reducible refine keep_showGroups ?_ ?_
    | with_reducible refine keep_startShown ?_ ?_
    | with_reducible refine Keeps.branch ?_ ?_
    | split

theorem keep_gaitComplete {k : Nat} {a : State} {s : State} {c : GaitChange}
    (hk : Sub 27129020810 k) (h : Keeps k a s) : Keeps k a (gaitComplete s c) := by
  unfold gaitComplete
  repeat' first
    | with_reducible assumption
    | ((with_reducible refine Sub.of hk ?_); rfl)
    | with_reducible refine keep_gaitEnd ?_ ?_
    | with_reducible refine keep_State_wr ?_ ?_
    | with_reducible refine keep_gaitApply ?_ ?_
    | with_reducible refine Keeps.branch ?_ ?_

theorem keep_gaitTake {k : Nat} {a : State} {s : State} {n : Nat}
    (hk : Sub 27129020810 k) (h : Keeps k a s) : Keeps k a (gaitTake s n) := by
  unfold gaitTake
  repeat' first
    | with_reducible assumption
    | ((with_reducible refine Sub.of hk ?_); rfl)
    | with_reducible refine keep_gaitTakeRow ?_ ?_
    | with_reducible refine keep_gaitComplete ?_ ?_
    | with_reducible refine Keeps.branch ?_ ?_
    | split
    | (refine Keeps.gai (hk.bits 3 rfl) ?_; with_reducible assumption)

theorem keep_finishStop {k : Nat} {a : State} {s : State} {n : Nat}
    (hk : Sub 27129020810 k) (h : Keeps k a s) : Keeps k a (finishStop s n) := by
  unfold finishStop
  repeat' first
    | with_reducible assumption
    | ((with_reducible refine Sub.of hk ?_); rfl)
    | intro _
    | with_reducible refine keep_gaitTake ?_ ?_
    | with_reducible refine keep_quietPoint ?_ ?_
    | with_reducible refine keep_linkDown ?_ ?_
    | with_reducible refine keep_showMst ?_ ?_
    | with_reducible refine keep_State_wr ?_ ?_
    | with_reducible refine keep_portsIdle ?_ ?_
    | (with_reducible refine Keeps.foldl ?_ ?_)
    | with_reducible refine Keeps.branch ?_ ?_

theorem keep_stopBlock {k : Nat} {a : State} {s : State} {n : Nat}
    (hk : Sub 27129020810 k) (h : Keeps k a s) : Keeps k a (stopBlock s n).1 := by
  unfold stopBlock
  repeat' first
    | with_reducible assumption
    | ((with_reducible refine Sub.of hk ?_); rfl)
    | with_reducible refine keep_finishStop ?_ ?_
    | with_reducible refine keep_State_wr ?_ ?_
    | split

theorem keep_goWrite {k : Nat} {a : State} {s : State} {n : Nat} {go : Bool}
    (hk : Sub 27129020810 k) (h : Keeps k a s) : Keeps k a (goWrite s n go).1 := by
  unfold goWrite
  repeat' first
    | with_reducible assumption
    | ((with_reducible refine Sub.of hk ?_); rfl)
    | with_reducible refine keep_startBlock ?_ ?_
    | with_reducible refine keep_stopBlock ?_ ?_
    | split

theorem keep_seqCommit {k : Nat} {a : State} {s : State}
    (hk : Sub 25769803906 k) (h : Keeps k a s) : Keeps k a (seqCommit s) := by
  unfold seqCommit
  repeat' first
    | with_reducible assumption
    | ((with_reducible refine Sub.of hk ?_); rfl)
    | with_reducible refine keep_releaseGroup ?_ ?_
    | with_reducible refine keep_quietPoint ?_ ?_
    | with_reducible refine keep_seqReport ?_ ?_
    | with_reducible refine Keeps.branch ?_ ?_
    | split
    | exact Keeps.build 2 (hk.of rfl) (by assumption) (by rfl) (by rfl) (by exact fun p hp => by cases p <;> first | exact absurd hp (by decide) | rfl) (by exact List.suffix_refl _) (by exact grown_refl _) (by exact id) (by
        rintro ⟨⟨⟨⟨v, w⟩, x, y⟩, z⟩, b0, b1⟩
        refine ⟨⟨⟨⟨?_, ?_⟩, ?_, ?_⟩, ?_⟩, ?_, ?_⟩ <;>
          repeat' first
            | assumption
            | exact Sparse.wf_nil
            | with_reducible refine Sparse.wf_put ?_
            | with_reducible refine Sparse.wf_ins ?_
            | with_reducible refine Sparse.wf_del ?_
            | with_reducible refine Sparse.wf_keep ?_
            | with_reducible refine Sparse.wf_filter ?_
            | with_reducible refine Sparse.wf_foldl_ins ?_
            | split)

theorem keep_groupCommit {k : Nat} {a : State} {s : State} {n : Nat}
    (hk : Sub 27265859978 k) (h : Keeps k a s) : Keeps k a (groupCommit s n) := by
  unfold groupCommit
  repeat' first
    | with_reducible assumption
    | ((with_reducible refine Sub.of hk ?_); rfl)
    | with_reducible refine keep_gaitCommit ?_ ?_
    | with_reducible refine keep_tieQuiet ?_ ?_
    | with_reducible refine keep_releaseGroup ?_ ?_
    | with_reducible refine keep_seqCommit ?_ ?_
    | with_reducible refine Keeps.branch ?_ ?_
    | (refine Keeps.dic (hk.bits 8 rfl) ?_; first | with_reducible assumption | with_reducible refine keep_gaitCommit ?_ ?_ | with_reducible refine keep_tieQuiet ?_ ?_ | with_reducible refine keep_releaseGroup ?_ ?_ | with_reducible refine keep_seqCommit ?_ ?_)

theorem keep_blkctrl {k : Nat} {a : State} {s : State} {n : Nat} {v : Nat}
    (hk : Sub 27265859978 k) (h : Keeps k a s) : Keeps k a (blkctrl s n v).1 := by
  unfold blkctrl
  repeat' first
    | with_reducible assumption
    | ((with_reducible refine Sub.of hk ?_); rfl)
    | with_reducible refine keep_snapBlock ?_ ?_
    | with_reducible refine keep_goWrite ?_ ?_
    | with_reducible refine keep_groupCommit ?_ ?_
    | with_reducible refine Keeps.branch ?_ ?_

theorem keep_writeWord {k : Nat} {a : State} {s : State} {n : Nat} {off : Nat} {w : Nat} {writer : Nat}
    (hk : Sub 25769803906 k) (h : Keeps k a s) : Keeps k a (writeWord s n off w writer).1 := by
  unfold writeWord
  repeat' first
    | with_reducible assumption
    | ((with_reducible refine Sub.of hk ?_); rfl)
    | intro _
    | with_reducible refine keep_takeField ?_ ?_
    | (with_reducible refine Keeps.foldl ?_ ?_)

theorem keep_regWrite {k : Nat} {a : State} {s : State} {n : Nat} {off : Nat} {v : Nat} {writer : Nat}
    (hk : Sub 68719476731 k) (h : Keeps k a s) : Keeps k a (regWrite s n off v writer).1 := by
  unfold regWrite
  repeat' first
    | with_reducible assumption
    | ((with_reducible refine Sub.of hk ?_); rfl)
    | with_reducible refine keep_blkctrl ?_ ?_
    | with_reducible refine keep_rowWrite ?_ ?_
    | with_reducible refine keep_readMode ?_ ?_
    | with_reducible refine keep_afterWrite ?_ ?_
    | with_reducible refine keep_writeWord ?_ ?_
    | with_reducible refine keep_act ?_ ?_
    | with_reducible refine Keeps.branch ?_ ?_
    | with_reducible refine Keeps.branch_fst ?_ ?_

theorem keep_extWrite {k : Nat} {a : State} {s : State} {d : Bind} {v : Nat} {writer : Nat}
    (hk : Sub 68719476731 k) (h : Keeps k a s) : Keeps k a (extWrite s d v writer).1 := by
  unfold extWrite
  repeat' first
    | with_reducible assumption
    | ((with_reducible refine Sub.of hk ?_); rfl)
    | intro _
    | with_reducible refine keep_regWrite ?_ ?_
    | with_reducible refine keep_rowWrite ?_ ?_
    | with_reducible refine keep_bindWrite ?_ ?_
    | (with_reducible refine Keeps.foldl ?_ ?_)
    | (with_reducible refine Keeps.foldl_fst ?_ ?_)
    | with_reducible refine Keeps.branch_fst ?_ ?_

theorem keep_holdIndex {k : Nat} {a : State} {s : State} {sess : Nat} {index : Nat} {sub : Nat} {v : Nat} {top : Nat}
    (hk : Sub 256 k) (h : Keeps k a s) : Keeps k a (holdIndex s sess index sub v top).1 := by
  unfold holdIndex
  repeat' first
    | with_reducible assumption
    | ((with_reducible refine Sub.of hk ?_); rfl)
    | intro _
    | with_reducible refine keep_setSessEnt ?_ ?_
    | with_reducible refine keep_within ?_ ?_ ?_

theorem keep_writeNum {k : Nat} {a : State} {s : State} {sess : Nat} {writer : Nat} {index : Nat} {sub : Nat} {v : Nat}
    (hk : Sub 68719476731 k) (h : Keeps k a s) : Keeps k a (writeNum s sess writer index sub v).1 := by
  unfold writeNum
  repeat' first
    | with_reducible assumption
    | ((with_reducible refine Sub.of hk ?_); rfl)
    | with_reducible refine keep_bindWrite ?_ ?_
    | with_reducible refine keep_writeOwn ?_ ?_
    | with_reducible refine keep_extWrite ?_ ?_
    | with_reducible refine keep_holdIndex ?_ ?_
    | with_reducible refine keep_owned ?_ ?_ ?_
    | split

theorem keep_doJobRequeueCmd {k : Nat} {a : State} {sess : Nat} {s : State}
    (hk : Sub 29946806658 k) (h : Keeps k a s) : Keeps k a (doJobRequeueCmd sess s) := by
  unfold doJobRequeueCmd
  repeat' first
    | with_reducible assumption
    | ((with_reducible refine Sub.of hk ?_); rfl)
    | with_reducible refine keep_cmdFailFree ?_ ?_
    | with_reducible refine keep_cmdRun ?_ ?_
    | with_reducible refine keep_cmdDone ?_ ?_
    | with_reducible refine keep_requeueJob ?_ ?_
    | with_reducible refine Keeps.branch ?_ ?_

theorem keep_cancelCmd {k : Nat} {a : State} {s : State}
    (hk : Sub 20738 k) (h : Keeps k a s) : Keeps k a (cancelCmd s) := by
  unfold cancelCmd
  repeat' first
    | with_reducible assumption
    | ((with_reducible refine Sub.of hk ?_); rfl)
    | with_reducible refine keep_cmdDone ?_ ?_
    | with_reducible refine keep_cancelStaging ?_ ?_
    | with_reducible refine keep_cmdRun ?_ ?_

theorem keep_setWrap {k : Nat} {a : State} {s : State} {slot : Nat} {bytes : List Nat}
    (hk : Sub 2 k) (h : Keeps k a s) : Keeps k a (setWrap s slot bytes) := by
  unfold setWrap
  repeat' first
    | with_reducible assumption
    | ((with_reducible refine Sub.of hk ?_); rfl)
    | intro _
    | with_reducible refine keep_State_wr ?_ ?_
    | (with_reducible refine Keeps.foldl ?_ ?_)

theorem keep_countBlocks {k : Nat} {a : State} {s : State} {n : Nat}
    (hk : Sub 17179869184 k) (h : Keeps k a s) : Keeps k a (countBlocks s n) := by
  unfold countBlocks
  repeat' first
    | with_reducible assumption
    | ((with_reducible refine Sub.of hk ?_); rfl)
    | with_reducible refine keep_State_bump ?_ ?_

theorem keep_keyLoad {k : Nat} {a : State} {s : State} {sess : Nat}
    (hk : Sub 17179877634 k) (h : Keeps k a s) : Keeps k a (keyLoad s sess) := by
  unfold keyLoad
  repeat' first
    | with_reducible assumption
    | ((with_reducible refine Sub.of hk ?_); rfl)
    | with_reducible refine keep_showLoaded ?_ ?_
    | with_reducible refine keep_setWrap ?_ ?_
    | with_reducible refine keep_cmdFailFree ?_ ?_
    | with_reducible refine keep_cmdDone ?_ ?_
    | with_reducible refine keep_setSlot ?_ ?_
    | with_reducible refine keep_countBlocks ?_ ?_
    | with_reducible refine Keeps.branch ?_ ?_
    | split

theorem keep_doKeyLoadCmd {k : Nat} {a : State} {sess : Nat} {s : State}
    (hk : Sub 17179877634 k) (h : Keeps k a s) : Keeps k a (doKeyLoadCmd sess s) := by
  unfold doKeyLoadCmd
  repeat' first
    | with_reducible assumption
    | ((with_reducible refine Sub.of hk ?_); rfl)
    | with_reducible refine keep_keyLoad ?_ ?_
    | with_reducible refine Keeps.branch ?_ ?_

theorem keep_doReturnCmd {k : Nat} {a : State} {s : State}
    (hk : Sub 25782389186 k) (h : Keeps k a s) : Keeps k a (doReturnCmd s) := by
  unfold doReturnCmd
  repeat' first
    | with_reducible assumption
    | ((with_reducible refine Sub.of hk ?_); rfl)
    | with_reducible refine keep_returnGo ?_ ?_
    | with_reducible refine Keeps.branch ?_ ?_

theorem keep_doCalRunNowCmd {k : Nat} {a : State} {s : State}
    (hk : Sub 33620226 k) (h : Keeps k a s) : Keeps k a (doCalRunNowCmd s) := by
  unfold doCalRunNowCmd
  repeat' first
    | with_reducible assumption
    | ((with_reducible refine Sub.of hk ?_); rfl)
    | with_reducible refine keep_cmdFailFree ?_ ?_
    | with_reducible refine keep_calStart ?_ ?_
    | with_reducible refine keep_cmdRun ?_ ?_
    | with_reducible refine Keeps.branch ?_ ?_

theorem keep_offRequest {k : Nat} {a : State} {s : State}
    (hk : Sub 27417051547 k) (h : Keeps k a s) : Keeps k a (offRequest s) := by
  unfold offRequest
  repeat' first
    | with_reducible assumption
    | ((with_reducible refine Sub.of hk ?_); rfl)
    | with_reducible refine keep_powerDown ?_ ?_

theorem keep_doOffRequestCmd {k : Nat} {a : State} {s : State}
    (hk : Sub 27417051547 k) (h : Keeps k a s) : Keeps k a (doOffRequestCmd s) := by
  unfold doOffRequestCmd
  repeat' first
    | with_reducible assumption
    | ((with_reducible refine Sub.of hk ?_); rfl)
    | with_reducible refine keep_offRequest ?_ ?_
    | with_reducible refine keep_cmdDone ?_ ?_
    | with_reducible refine Keeps.branch ?_ ?_

theorem keep_doReqQpInspectToErrorCmd {k : Nat} {a : State} {sess : Nat} {s : State}
    (hk : Sub 29946806658 k) (h : Keeps k a s) : Keeps k a (doReqQpInspectToErrorCmd sess s) := by
  unfold doReqQpInspectToErrorCmd
  repeat' first
    | with_reducible assumption
    | ((with_reducible refine Sub.of hk ?_); rfl)
    | with_reducible refine keep_cmdFailFree ?_ ?_
    | with_reducible refine keep_cmdRun ?_ ?_
    | with_reducible refine keep_cmdDone ?_ ?_
    | with_reducible refine keep_rqError ?_ ?_
    | with_reducible refine keep_showMst ?_ ?_
    | with_reducible refine Keeps.branch ?_ ?_

theorem keep_deriveRehearse {k : Nat} {a : State} {s : State}
    (hk : Sub 17179877376 k) (h : Keeps k a s) : Keeps k a (deriveRehearse s) := by
  unfold deriveRehearse
  repeat' first
    | with_reducible assumption
    | ((with_reducible refine Sub.of hk ?_); rfl)
    | with_reducible refine keep_deriveSlot ?_ ?_

theorem keep_rehearse {k : Nat} {a : State} {s : State}
    (hk : Sub 17213562882 k) (h : Keeps k a s) : Keeps k a (rehearse s) := by
  unfold rehearse
  repeat' first
    | with_reducible assumption
    | ((with_reducible refine Sub.of hk ?_); rfl)
    | intro _
    | (extract_lets +onlyGivenNames t
       first
       | (refine Keeps.have_ (k := k) (a := a) (t := t) ?_ ?_; unfold t; clear t; rotate_left; intro _; clear_value t; revert t; intros))
    | with_reducible refine keep_State_wr ?_ ?_
    | with_reducible refine keep_farAsk ?_ ?_
    | with_reducible refine keep_deriveRehearse ?_ ?_
    | (with_reducible refine Keeps.foldl ?_ ?_)
    | with_reducible refine Keeps.branch ?_ ?_
    | (refine Keeps.sav (hk.bits 17 rfl) ?_; with_reducible assumption)

theorem keep_doRehearseCmd {k : Nat} {a : State} {s : State}
    (hk : Sub 17213563138 k) (h : Keeps k a s) : Keeps k a (doRehearseCmd s) := by
  unfold doRehearseCmd
  repeat' first
    | with_reducible assumption
    | ((with_reducible refine Sub.of hk ?_); rfl)
    | with_reducible refine keep_cmdFailFree ?_ ?_
    | with_reducible refine keep_cmdRun ?_ ?_
    | with_reducible refine keep_rehearse ?_ ?_
    | with_reducible refine Keeps.branch ?_ ?_
    | (refine Keeps.sav (hk.bits 17 rfl) ?_; first | with_reducible assumption | with_reducible refine keep_cmdFailFree ?_ ?_ | with_reducible refine keep_cmdRun ?_ ?_ | with_reducible refine keep_rehearse ?_ ?_)

theorem keep_testStart {k : Nat} {a : State} {s : State} {m : Nat}
    (hk : Sub 33816594 k) (h : Keeps k a s) : Keeps k a (testStart s m) := by
  unfold testStart
  repeat' first
    | with_reducible assumption
    | ((with_reducible refine Sub.of hk ?_); rfl)
    | (extract_lets +onlyGivenNames t
       first
       | (refine Keeps.have_ (k := k) (a := a) (t := t) ?_ ?_; unfold t; clear t; rotate_left; intro _; clear_value t; revert t; intros))
    | with_reducible refine keep_State_wr ?_ ?_
    | with_reducible refine keep_farAsk ?_ ?_
    | with_reducible refine Keeps.branch ?_ ?_
    | (refine Keeps.pwr (hk.bits 4 rfl) ?_; with_reducible assumption)
    | (refine Keeps.gov (hk.bits 18 rfl) ?_; with_reducible assumption)
    | exact Keeps.build 262160 (hk.of rfl) (by assumption) (by rfl) (by rfl) (by exact fun p hp => by cases p <;> first | exact absurd hp (by decide) | rfl) (by exact List.suffix_refl _) (by exact grown_refl _) (by exact id) (by exact id)

theorem keep_doCapacitanceTestCmd {k : Nat} {a : State} {arg : Nat} {s : State}
    (hk : Sub 33816850 k) (h : Keeps k a s) : Keeps k a (doCapacitanceTestCmd arg s) := by
  unfold doCapacitanceTestCmd
  repeat' first
    | with_reducible assumption
    | ((with_reducible refine Sub.of hk ?_); rfl)
    | with_reducible refine keep_testStart ?_ ?_
    | with_reducible refine keep_cmdFailFree ?_ ?_
    | with_reducible refine keep_cmdRun ?_ ?_
    | with_reducible refine Keeps.branch ?_ ?_
    | (refine Keeps.gov (hk.bits 18 rfl) ?_; first | with_reducible assumption | with_reducible refine keep_testStart ?_ ?_ | with_reducible refine keep_cmdFailFree ?_ ?_ | with_reducible refine keep_cmdRun ?_ ?_)

theorem keep_doJobCancelCmd {k : Nat} {a : State} {sess : Nat} {s : State}
    (hk : Sub 29946806658 k) (h : Keeps k a s) : Keeps k a (doJobCancelCmd sess s) := by
  unfold doJobCancelCmd
  repeat' first
    | with_reducible assumption
    | ((with_reducible refine Sub.of hk ?_); rfl)
    | with_reducible refine keep_cmdFailFree ?_ ?_
    | with_reducible refine keep_cmdRun ?_ ?_
    | with_reducible refine keep_cancelJob ?_ ?_
    | with_reducible refine keep_cmdDone ?_ ?_
    | with_reducible refine Keeps.branch ?_ ?_

theorem keep_relocAdd {k : Nat} {a : State} {s : State} {ks : List Nat}
    (hk : Sub 67108864 k) (h : Keeps k a s) : Keeps k a (relocAdd s ks) := by
  unfold relocAdd
  repeat' first
    | with_reducible assumption
    | ((with_reducible refine Sub.of hk ?_); rfl)
    | (refine Keeps.stf (hk.bits 26 rfl) ?_; first | with_reducible assumption)

theorem keep_retireCheck {k : Nat} {a : State} {s : State} {k' : Nat}
    (hk : Sub 25839534210 k) (h : Keeps k a s) : Keeps k a (retireCheck s k') := by
  unfold retireCheck
  repeat' first
    | with_reducible assumption
    | ((with_reducible refine Sub.of hk ?_); rfl)
    | with_reducible refine keep_relocAdd ?_ ?_
    | with_reducible refine keep_raise ?_ ?_
    | with_reducible refine keep_setBlk ?_ ?_
    | with_reducible refine Keeps.branch ?_ ?_

theorem keep_defectAppend {k : Nat} {a : State} {s : State} {ch : Nat} {die : Nat} {block : Nat} {cause : Nat}
    (hk : Sub 16384 k) (h : Keeps k a s) : Keeps k a (defectAppend s ch die block cause) := by
  unfold defectAppend
  repeat' first
    | with_reducible assumption
    | ((with_reducible refine Sub.of hk ?_); rfl)
    | (extract_lets +onlyGivenNames t
       first
       | (refine Keeps.have_ (k := k) (a := a) (t := t) ?_ ?_; unfold t; clear t; rotate_left; intro _; clear_value t; revert t; intros)
       | (clear_value t; revert t; intros))
    | with_reducible refine keep_kprog ?_ ?_
    | split

theorem keep_retireMember {k : Nat} {a : State} {s : State} {k' : Nat} {ch : Nat} {cause : Nat}
    (hk : Sub 25839550594 k) (h : Keeps k a s) : Keeps k a (retireMember s k' ch cause) := by
  unfold retireMember
  repeat' first
    | with_reducible assumption
    | ((with_reducible refine Sub.of hk ?_); rfl)
    | with_reducible refine keep_retireCheck ?_ ?_
    | with_reducible refine keep_raise ?_ ?_
    | with_reducible refine keep_defectAppend ?_ ?_
    | with_reducible refine keep_setBlk ?_ ?_

theorem keep_doRetireSuperblockMemberCmd {k : Nat} {a : State} {sess : Nat} {ch : Nat} {s : State}
    (hk : Sub 25839550850 k) (h : Keeps k a s) : Keeps k a (doRetireSuperblockMemberCmd sess ch s) := by
  unfold doRetireSuperblockMemberCmd
  repeat' first
    | with_reducible assumption
    | ((with_reducible refine Sub.of hk ?_); rfl)
    | with_reducible refine keep_cmdFailFree ?_ ?_
    | with_reducible refine keep_cmdRun ?_ ?_
    | with_reducible refine keep_retireMember ?_ ?_
    | with_reducible refine keep_cmdDone ?_ ?_
    | with_reducible refine Keeps.branch ?_ ?_

theorem keep_doSoftwareResetRequest {k : Nat} {a : State} {a' : ResetArg} {cmd : Bool} {s : State}
    (hk : Sub 64424509435 k) (h : Keeps k a s) : Keeps k a (doSoftwareResetRequest a' cmd s) := by
  unfold doSoftwareResetRequest
  repeat' first
    | with_reducible assumption
    | ((with_reducible refine Sub.of hk ?_); rfl)
    | with_reducible refine keep_softReset ?_ ?_
    | with_reducible refine Keeps.branch ?_ ?_

theorem keep_onRequest {k : Nat} {a : State} {s : State}
    (hk : Sub 25769836723 k) (h : Keeps k a s) : Keeps k a (onRequest s) := by
  unfold onRequest
  repeat' first
    | with_reducible assumption
    | ((with_reducible refine Sub.of hk ?_); rfl)
    | with_reducible refine keep_startRising ?_ ?_
    | with_reducible refine keep_raise ?_ ?_
    | with_reducible refine keep_State_wr ?_ ?_
    | split

theorem keep_doOnRequestCmd {k : Nat} {a : State} {s : State}
    (hk : Sub 25769836979 k) (h : Keeps k a s) : Keeps k a (doOnRequestCmd s) := by
  unfold doOnRequestCmd
  repeat' first
    | with_reducible assumption
    | ((with_reducible refine Sub.of hk ?_); rfl)
    | with_reducible refine keep_onRequest ?_ ?_
    | with_reducible refine keep_cmdFailFree ?_ ?_
    | with_reducible refine keep_cmdDone ?_ ?_
    | with_reducible refine Keeps.branch ?_ ?_

theorem keep_doMarginApply {k : Nat} {a : State} {s : State}
    (hk : Sub 8589934866 k) (h : Keeps k a s) : Keeps k a (doMarginApply s) := by
  unfold doMarginApply
  repeat' first
    | with_reducible assumption
    | ((with_reducible refine Sub.of hk ?_); rfl)
    | with_reducible refine keep_marginGo ?_ ?_
    | with_reducible refine Keeps.branch ?_ ?_

theorem keep_runHigh {k : Nat} {a : State} {s : State} {sess : Nat} {index : Nat} {sub : Nat} {arg : Nat}
    (hk : Sub 64424509435 k) (h : Keeps k a s) : Keeps k a (runHigh s sess index sub arg).1 := by
  unfold runHigh
  repeat' first
    | with_reducible assumption
    | ((with_reducible refine Sub.of hk ?_); rfl)
    | intro _
    | with_reducible refine keep_doJobRequeueCmd ?_ ?_
    | with_reducible refine keep_cancelCmd ?_ ?_
    | with_reducible refine keep_doKeyLoadCmd ?_ ?_
    | with_reducible refine keep_doReturnCmd ?_ ?_
    | with_reducible refine keep_doCalRunNowCmd ?_ ?_
    | with_reducible refine keep_clearGo ?_ ?_
    | with_reducible refine keep_doOffRequestCmd ?_ ?_
    | with_reducible refine keep_doReqQpInspectToErrorCmd ?_ ?_
    | with_reducible refine keep_doRehearseCmd ?_ ?_
    | with_reducible refine keep_doCapacitanceTestCmd ?_ ?_
    | with_reducible refine keep_doJobCancelCmd ?_ ?_
    | with_reducible refine keep_doRetireSuperblockMemberCmd ?_ ?_
    | with_reducible refine keep_doSoftwareResetRequest ?_ ?_
    | with_reducible refine keep_within ?_ ?_ ?_
    | with_reducible refine keep_doOnRequestCmd ?_ ?_
    | with_reducible refine keep_doMarginApply ?_ ?_
    | split

theorem keep_doGoSoloCmd {k : Nat} {a : State} {s : State}
    (hk : Sub 68719476731 k) (h : Keeps k a s) : Keeps k a (doGoSoloCmd s) := by
  unfold doGoSoloCmd
  repeat' first
    | with_reducible assumption
    | ((with_reducible refine Sub.of hk ?_); rfl)
    | with_reducible refine keep_twnCmd ?_ ?_
    | with_reducible refine Keeps.branch ?_ ?_

theorem keep_mapCommand {k : Nat} {a : State} {s : State} {entry : Nat} {sess : Nat} {ready : State → Bool} {work : Nat × List Nat} {run : State → State}
    (hk : Sub 256 k) (h : Keeps k a s) (hr : ∀ t, Keeps k a t → Keeps k a (run t)) : Keeps k a (mapCommand s entry sess ready work run) := by
  unfold mapCommand
  extract_lets +onlyGivenNames c
  split
  · exact h
  · extract_lets +onlyGivenNames t
    have ht : Keeps k a t := keep_cmdRun (hk.of rfl) h
    clear_value t
    split
    · exact hr _ ht
    · exact Keeps.dic (hk.bits 8 rfl) ht

theorem keep_doRegisterRegionCmd {k : Nat} {a : State} {sess : Nat} {s : State}
    (hk : Sub 32215933314 k) (h : Keeps k a s) : Keeps k a (doRegisterRegionCmd sess s) := by
  unfold doRegisterRegionCmd
  repeat' first
    | with_reducible assumption
    | ((with_reducible refine Sub.of hk ?_); rfl)
    | intro _
    | (extract_lets +onlyGivenNames t
       first
       | (refine Keeps.have_ (k := k) (a := a) (t := t) ?_ ?_; unfold t; clear t; rotate_left; intro _; clear_value t; revert t; intros)
       | (clear_value t; revert t; intros))
    | with_reducible refine keep_registerPair ?_ ?_
    | with_reducible refine keep_mapCommand ?_ ?_ ?_
    | with_reducible refine Keeps.branch ?_ ?_
    | (refine Keeps.dic (hk.bits 8 rfl) ?_; with_reducible assumption)

theorem keep_doGaitTableCommit {k : Nat} {a : State} {sess : Option Nat} {s : State}
    (hk : Sub 27129020810 k) (h : Keeps k a s) : Keeps k a (doGaitTableCommit sess s) := by
  unfold doGaitTableCommit
  repeat' first
    | with_reducible assumption
    | ((with_reducible refine Sub.of hk ?_); rfl)
    | with_reducible refine keep_cmdFail ?_ ?_
    | with_reducible refine keep_cmdDone ?_ ?_
    | with_reducible refine keep_gaitCommit ?_ ?_
    | with_reducible refine Keeps.ofPair (by assumption) ?_
    | split

theorem keep_doPromoteExtentCmd {k : Nat} {a : State} {tenant : Nat} {s : State}
    (hk : Sub 28058321282 k) (h : Keeps k a s) : Keeps k a (doPromoteExtentCmd tenant s) := by
  unfold doPromoteExtentCmd
  repeat' first
    | with_reducible assumption
    | ((with_reducible refine Sub.of hk ?_); rfl)
    | with_reducible refine keep_checkMove ?_ ?_
    | with_reducible refine keep_withTag ?_ ?_
    | with_reducible refine keep_addCharge ?_ ?_
    | with_reducible refine keep_cmdFailFree ?_ ?_
    | with_reducible refine keep_cmdRun ?_ ?_
    | with_reducible refine keep_cmdDone ?_ ?_
    | with_reducible refine keep_promote ?_ ?_
    | with_reducible refine keep_needGroup ?_ ?_
    | with_reducible refine Keeps.branch ?_ ?_

theorem keep_doGaitLoadDefaults {k : Nat} {a : State} {sess : Option Nat} {s : State}
    (hk : Sub 264 k) (h : Keeps k a s) : Keeps k a (doGaitLoadDefaults sess s) := by
  unfold doGaitLoadDefaults
  repeat' first
    | with_reducible assumption
    | ((with_reducible refine Sub.of hk ?_); rfl)
    | with_reducible refine keep_cmdDone ?_ ?_
    | with_reducible refine keep_gaitDefaults ?_ ?_
    | split
    | (refine Keeps.gai (hk.bits 3 rfl) ?_; first | with_reducible assumption | with_reducible refine keep_cmdDone ?_ ?_ | with_reducible refine keep_gaitDefaults ?_ ?_)

theorem keep_doForceSoloCmd {k : Nat} {a : State} {s : State}
    (hk : Sub 68719476731 k) (h : Keeps k a s) : Keeps k a (doForceSoloCmd s) := by
  unfold doForceSoloCmd
  repeat' first
    | with_reducible assumption
    | ((with_reducible refine Sub.of hk ?_); rfl)
    | with_reducible refine keep_twnCmd ?_ ?_
    | with_reducible refine Keeps.branch ?_ ?_

theorem keep_doSpanCmd {k : Nat} {a : State} {s : State}
    (hk : Sub 68719476731 k) (h : Keeps k a s) : Keeps k a (doSpanCmd s) := by
  unfold doSpanCmd
  repeat' first
    | with_reducible assumption
    | ((with_reducible refine Sub.of hk ?_); rfl)
    | with_reducible refine keep_twnCmd ?_ ?_
    | with_reducible refine Keeps.branch ?_ ?_

theorem keep_configCommit {k : Nat} {a : State} {s : State}
    (hk : Sub 258 k) (h : Keeps k a s) : Keeps k a (configCommit s) := by
  unfold configCommit
  repeat' first
    | with_reducible assumption
    | ((with_reducible refine Sub.of hk ?_); rfl)
    | intro _
    | with_reducible refine keep_cmdRun ?_ ?_
    | with_reducible refine keep_cmdDone ?_ ?_
    | with_reducible refine keep_State_wr ?_ ?_
    | (with_reducible refine Keeps.foldl ?_ ?_)

theorem keep_qpInspectError {k : Nat} {a : State} {s : State} {sess : Nat}
    (hk : Sub 10202644738 k) (h : Keeps k a s) : Keeps k a (qpInspectError s sess) := by
  unfold qpInspectError
  repeat' first
    | with_reducible assumption
    | ((with_reducible refine Sub.of hk ?_); rfl)
    | with_reducible refine keep_cmdDone ?_ ?_
    | with_reducible refine keep_qpError ?_ ?_
    | with_reducible refine keep_cmdRun ?_ ?_

theorem keep_unparkExtent {k : Nat} {a : State} {s : State} {e : Nat}
    (hk : Sub 536870912 k) (h : Keeps k a s) : Keeps k a (unparkExtent s e) := by
  unfold unparkExtent
  repeat' first
    | with_reducible assumption
    | ((with_reducible refine Sub.of hk ?_); rfl)
    | (refine Keeps.xpt (hk.bits 29 rfl) ?_; first | with_reducible assumption)

theorem keep_retryWaiting {k : Nat} {a : State} {s : State}
    (hk : Sub 28595191938 k) (h : Keeps k a s) : Keeps k a (retryWaiting s) := by
  unfold retryWaiting
  repeat' first
    | with_reducible assumption
    | ((with_reducible refine Sub.of hk ?_); rfl)
    | intro _
    | with_reducible refine keep_checkMove ?_ ?_
    | with_reducible refine keep_promote ?_ ?_
    | with_reducible refine keep_needGroup ?_ ?_
    | with_reducible refine keep_unparkExtent ?_ ?_
    | (with_reducible refine Keeps.foldl ?_ ?_)
    | with_reducible refine Keeps.branch ?_ ?_
    | split
    | (refine Keeps.tie (hk.bits 27 rfl) ?_; with_reducible assumption)

theorem keep_doRemoveChargeCmd {k : Nat} {a : State} {tenant : Nat} {s : State}
    (hk : Sub 28595192194 k) (h : Keeps k a s) : Keeps k a (doRemoveChargeCmd tenant s) := by
  unfold doRemoveChargeCmd
  repeat' first
    | with_reducible assumption
    | ((with_reducible refine Sub.of hk ?_); rfl)
    | (extract_lets +onlyGivenNames t
       first
       | (refine Keeps.have_ (k := k) (a := a) (t := t) ?_ ?_; unfold t; clear t; rotate_left; intro _; clear_value t; revert t; intros)
       | (clear_value t; revert t; intros)
       | (unfold t; clear t))
    | with_reducible refine keep_cmdFailFree ?_ ?_
    | with_reducible refine keep_cmdRun ?_ ?_
    | with_reducible refine keep_removeCharge ?_ ?_
    | with_reducible refine keep_cmdDone ?_ ?_
    | with_reducible refine keep_retryWaiting ?_ ?_
    | with_reducible refine Keeps.branch ?_ ?_
    | split

theorem keep_doTpolCommit {k : Nat} {a : State} {s : State}
    (hk : Sub 25906643330 k) (h : Keeps k a s) : Keeps k a (doTpolCommit s) := by
  unfold doTpolCommit
  repeat' first
    | with_reducible assumption
    | ((with_reducible refine Sub.of hk ?_); rfl)
    | with_reducible refine keep_tpolCommit ?_ ?_
    | with_reducible refine keep_cmdRun ?_ ?_
    | with_reducible refine keep_queueWork ?_ ?_
    | with_reducible refine Keeps.branch ?_ ?_

theorem keep_doPortRelinkCmd {k : Nat} {a : State} {l : Nat} {s : State}
    (hk : Sub 26843545986 k) (h : Keeps k a s) : Keeps k a (doPortRelinkCmd l s) := by
  unfold doPortRelinkCmd
  repeat' first
    | with_reducible assumption
    | ((with_reducible refine Sub.of hk ?_); rfl)
    | with_reducible refine keep_relink ?_ ?_
    | with_reducible refine keep_cmdRun ?_ ?_
    | with_reducible refine keep_cmdDone ?_ ?_
    | with_reducible refine Keeps.branch ?_ ?_

theorem keep_reconStep {k : Nat} {a : State} {s : State}
    (hk : Sub 28059369858 k) (h : Keeps k a s) : Keeps k a (reconStep s) := by
  unfold reconStep
  repeat' first
    | with_reducible assumption
    | ((with_reducible refine Sub.of hk ?_); rfl)
    | intro _
    | with_reducible refine keep_enterSpan ?_ ?_
    | with_reducible refine keep_sendResync ?_ ?_
    | with_reducible refine keep_fencePage ?_ ?_ _ (by assumption)
    | (with_reducible refine Keeps.foldl ?_ ?_)
    | with_reducible refine Keeps.branch ?_ ?_
    | split
    | (refine Keeps.twn (hk.bits 31 rfl) ?_; first | with_reducible assumption | with_reducible refine keep_enterSpan ?_ ?_ | with_reducible refine keep_sendResync ?_ ?_ | with_reducible refine keep_fencePage ?_ ?_ _ (by assumption))

theorem keep_arbitrated {k : Nat} {a : State} {s : State} {p : Nat} {ep : Nat} {cells : Option (List Host.Cell)}
    (hk : Sub 25777668226 k) (h : Keeps k a s) : Keeps k a (arbitrated s p ep cells) := by
  unfold arbitrated
  repeat' first
    | with_reducible assumption
    | ((with_reducible refine Sub.of hk ?_); rfl)
    | with_reducible refine keep_unfence ?_ ?_
    | with_reducible refine keep_frameFill ?_ ?_
    | with_reducible refine keep_setPage ?_ ?_
    | split

theorem keep_arbitrate {k : Nat} {a : State} {s : State} {sess : Nat} {arg : Nat}
    (hk : Sub 28059369858 k) (h : Keeps k a s) : Keeps k a (arbitrate s sess arg) := by
  unfold arbitrate
  repeat' first
    | with_reducible assumption
    | ((with_reducible refine Sub.of hk ?_); rfl)
    | (extract_lets +onlyGivenNames t
       first
       | (refine Keeps.have_ (k := k) (a := a) (t := t) ?_ ?_; unfold t; clear t; rotate_left; intro _; clear_value t; revert t; intros)
       | (clear_value t; revert t; intros))
    | with_reducible refine keep_sendResync ?_ ?_
    | with_reducible refine keep_reconStep ?_ ?_
    | with_reducible refine keep_arbitrated ?_ ?_
    | with_reducible refine keep_withTag ?_ ?_
    | with_reducible refine keep_cmdFailFree ?_ ?_
    | with_reducible refine keep_cmdRun ?_ ?_
    | with_reducible refine keep_cmdFail ?_ ?_
    | with_reducible refine keep_raise ?_ ?_
    | with_reducible refine keep_cmdDone ?_ ?_
    | split

theorem keep_doFenceArbitrateCmd {k : Nat} {a : State} {session : Nat} {arg : Nat} {s : State}
    (hk : Sub 28059369858 k) (h : Keeps k a s) : Keeps k a (doFenceArbitrateCmd session arg s) := by
  unfold doFenceArbitrateCmd
  repeat' first
    | with_reducible assumption
    | ((with_reducible refine Sub.of hk ?_); rfl)
    | with_reducible refine keep_arbitrate ?_ ?_
    | with_reducible refine Keeps.branch ?_ ?_

theorem keep_doJoinCmd {k : Nat} {a : State} {s : State}
    (hk : Sub 68719476731 k) (h : Keeps k a s) : Keeps k a (doJoinCmd s) := by
  unfold doJoinCmd
  repeat' first
    | with_reducible assumption
    | ((with_reducible refine Sub.of hk ?_); rfl)
    | with_reducible refine keep_twnCmd ?_ ?_
    | with_reducible refine Keeps.branch ?_ ?_

theorem keep_doDeregisterCmd {k : Nat} {a : State} {sess : Nat} {rkey : Nat} {s : State}
    (hk : Sub 27920957826 k) (h : Keeps k a s) : Keeps k a (doDeregisterCmd sess rkey s) := by
  unfold doDeregisterCmd
  repeat' first
    | with_reducible assumption
    | ((with_reducible refine Sub.of hk ?_); rfl)
    | intro _
    | with_reducible refine keep_deregisterPair ?_ ?_
    | with_reducible refine keep_mapCommand ?_ ?_ ?_
    | with_reducible refine Keeps.branch ?_ ?_

theorem keep_doLeaveCmd {k : Nat} {a : State} {s : State}
    (hk : Sub 68719476731 k) (h : Keeps k a s) : Keeps k a (doLeaveCmd s) := by
  unfold doLeaveCmd
  repeat' first
    | with_reducible assumption
    | ((with_reducible refine Sub.of hk ?_); rfl)
    | with_reducible refine keep_twnCmd ?_ ?_
    | with_reducible refine Keeps.branch ?_ ?_

theorem keep_doDeallocateCmd {k : Nat} {a : State} {sess : Nat} {s : State}
    (hk : Sub 28126478722 k) (h : Keeps k a s) : Keeps k a (doDeallocateCmd sess s) := by
  unfold doDeallocateCmd
  repeat' first
    | with_reducible assumption
    | ((with_reducible refine Sub.of hk ?_); rfl)
    | intro _
    | with_reducible refine keep_deallocPair ?_ ?_
    | with_reducible refine keep_mapCommand ?_ ?_ ?_
    | with_reducible refine Keeps.branch ?_ ?_

theorem keep_snapBank1 {k : Nat} {a : State} {s : State}
    (hk : Sub 17179869440 k) (h : Keeps k a s) : Keeps k a (snapBank1 s) := by
  unfold snapBank1
  repeat' first
    | with_reducible assumption
    | ((with_reducible refine Sub.of hk ?_); rfl)
    | with_reducible refine keep_setEnt ?_ ?_
    | exact Keeps.build 17179869184 (hk.of rfl) (by assumption) (by rfl) (by rfl) (by exact fun p hp => by cases p <;> first | exact absurd hp (by decide) | rfl) (by exact List.suffix_refl _) (by exact grown_refl _) (by exact id) (by
        rintro ⟨⟨⟨⟨v, w⟩, x, y⟩, z⟩, b0, b1⟩
        refine ⟨⟨⟨⟨?_, ?_⟩, ?_, ?_⟩, ?_⟩, ?_, ?_⟩ <;>
          repeat' first
            | assumption
            | exact Sparse.wf_nil
            | with_reducible refine Sparse.wf_put ?_
            | with_reducible refine Sparse.wf_ins ?_
            | with_reducible refine Sparse.wf_del ?_
            | with_reducible refine Sparse.wf_keep ?_
            | with_reducible refine Sparse.wf_filter ?_
            | with_reducible refine Sparse.wf_foldl_ins ?_
            | split)

theorem keep_snapshotCmd {k : Nat} {a : State} {s : State}
    (hk : Sub 17179869440 k) (h : Keeps k a s) : Keeps k a (snapshotCmd s) := by
  unfold snapshotCmd
  repeat' first
    | with_reducible assumption
    | ((with_reducible refine Sub.of hk ?_); rfl)
    | with_reducible refine keep_cmdDone ?_ ?_
    | with_reducible refine keep_cmdRun ?_ ?_
    | with_reducible refine keep_snapBank1 ?_ ?_

theorem keep_runLow {k : Nat} {a : State} {s : State} {sess : Nat} {index : Nat} {sub : Nat} {arg : Nat}
    (hk : Sub 68719476731 k) (h : Keeps k a s) : Keeps k a (runLow s sess index sub arg).1 := by
  unfold runLow
  repeat' first
    | with_reducible assumption
    | ((with_reducible refine Sub.of hk ?_); rfl)
    | intro _
    | with_reducible refine keep_doGoSoloCmd ?_ ?_
    | with_reducible refine keep_doRegisterRegionCmd ?_ ?_
    | with_reducible refine keep_doGaitTableCommit ?_ ?_
    | with_reducible refine keep_doPromoteExtentCmd ?_ ?_
    | with_reducible refine keep_doTenantCommit ?_ ?_
    | with_reducible refine keep_doGaitLoadDefaults ?_ ?_
    | with_reducible refine keep_doForceSoloCmd ?_ ?_
    | with_reducible refine keep_doSpanCmd ?_ ?_
    | with_reducible refine keep_configCommit ?_ ?_
    | with_reducible refine keep_qpInspectError ?_ ?_
    | with_reducible refine keep_doLendRevoke ?_ ?_
    | with_reducible refine keep_doRemoveChargeCmd ?_ ?_
    | with_reducible refine keep_doTpolCommit ?_ ?_
    | with_reducible refine keep_doPortRelinkCmd ?_ ?_
    | with_reducible refine keep_doFenceArbitrateCmd ?_ ?_
    | with_reducible refine keep_cmdRun ?_ ?_
    | with_reducible refine keep_doJoinCmd ?_ ?_
    | with_reducible refine keep_doDeregisterCmd ?_ ?_
    | with_reducible refine keep_doLeaveCmd ?_ ?_
    | with_reducible refine keep_doDeallocateCmd ?_ ?_
    | with_reducible refine keep_snapshotCmd ?_ ?_
    | with_reducible refine keep_within ?_ ?_ ?_
    | split

theorem keep_runCmd {k : Nat} {a : State} {s : State} {sess : Nat} {index : Nat} {sub : Nat} {arg : Nat}
    (hk : Sub 68719476731 k) (h : Keeps k a s) : Keeps k a (runCmd s sess index sub arg).1 := by
  unfold runCmd
  repeat' first
    | with_reducible assumption
    | ((with_reducible refine Sub.of hk ?_); rfl)
    | with_reducible refine keep_runHigh ?_ ?_
    | with_reducible refine keep_runLow ?_ ?_
    | with_reducible refine keep_cmdFailFree ?_ ?_
    | split

theorem keep_writeIp6 {k : Nat} {a : State} {s : State} {n : Nat} {F : Fld} {base : Nat} {off : Nat} {data : List Nat} {writer : Nat}
    (hk : Sub 25769803906 k) (h : Keeps k a s) : Keeps k a (writeIp6 s n F base off data writer).1 := by
  unfold writeIp6
  repeat' first
    | with_reducible assumption
    | ((with_reducible refine Sub.of hk ?_); rfl)
    | intro _
    | with_reducible refine keep_takeField ?_ ?_
    | (with_reducible refine Keeps.foldl ?_ ?_)
    | split

theorem keep_writeBlob {k : Nat} {a : State} {s : State} {sess : Nat} {writer : Nat} {seq : Nat} {index : Nat} {sub : Nat} {off : Nat} {data : List Nat}
    (hk : Sub 25769804162 k) (h : Keeps k a s) : Keeps k a (writeBlob s sess writer seq index sub off data).1 := by
  unfold writeBlob
  repeat' first
    | with_reducible assumption
    | ((with_reducible refine Sub.of hk ?_); rfl)
    | intro _
    | with_reducible refine keep_within ?_ ?_ ?_
    | with_reducible refine keep_modSession ?_ ?_
    | with_reducible refine keep_writeIp6 ?_ ?_
    | split
    | (refine Keeps.dic (hk.bits 8 rfl) ?_; with_reducible assumption)

theorem keep_writeNow {k : Nat} {a : State} {s : State} {sess : Nat} {path : Nat} {seq : Nat} {it : Item}
    (hk : Sub 68719476731 k) (h : Keeps k a s) : Keeps k a (writeNow s sess path seq it).1 := by
  unfold writeNow
  repeat' first
    | with_reducible assumption
    | ((with_reducible refine Sub.of hk ?_); rfl)
    | with_reducible refine keep_writeNum ?_ ?_
    | with_reducible refine keep_runCmd ?_ ?_
    | with_reducible refine keep_writeBlob ?_ ?_
    | split

theorem keep_offer {k : Nat} {a : State} {s : State} {o : OpenFrame} {hs : List HItem} {done : State → OpenFrame → State}
    (hk : Sub 258 k) (h : Keeps k a s) (hd : ∀ t o, Keeps k a t → Keeps k a (done t o)) : Keeps k a (offer s o hs done) := by
  unfold offer
  split
  · exact hd _ _ h
  · exact keep_showHandler (hk.of rfl) (Keeps.dic (hk.bits 8 rfl) h)

theorem keep_applyItems {k : Nat} {a : State} {s : State} {o : OpenFrame} {role : Nat} {path : Nat}
    (hk : Sub 68719476731 k) (h : Keeps k a s) : Keeps k a (applyItems s o role path) := by
  unfold applyItems
  repeat' first
    | with_reducible assumption
    | ((with_reducible refine Sub.of hk ?_); rfl)
    | intro _
    | (extract_lets +onlyGivenNames t
       first
       | (refine Keeps.have_ (k := k) (a := a) (t := t) ?_ ?_; unfold t; clear t; rotate_left; intro _; clear_value t; revert t; intros)
       | (refine Keeps.have_fst (k := k) (a := a) (t := t) ?_ ?_; unfold t; clear t; rotate_left; intro _; clear_value t; revert t; intros)
       | (clear_value t; revert t; intros))
    | with_reducible refine keep_respondItems ?_ ?_
    | with_reducible refine keep_writeNow ?_ ?_
    | with_reducible refine keep_offer ?_ ?_ ?_
    | (with_reducible refine Keeps.foldl_fst ?_ ?_)
    | split

theorem keep_allChecked {k : Nat} {a : State} {role : Nat} {path : Nat} {s : State} {o : OpenFrame}
    (hk : Sub 68719476731 k) (h : Keeps k a s) : Keeps k a (allChecked role path s o) := by
  unfold allChecked
  repeat' first
    | with_reducible assumption
    | ((with_reducible refine Sub.of hk ?_); rfl)
    | with_reducible refine keep_respondItems ?_ ?_
    | with_reducible refine keep_applyItems ?_ ?_
    | with_reducible refine Keeps.branch ?_ ?_

theorem keep_extLoad {k : Nat} {a : State} {s : State}
    (hk : Sub 25769804162 k) (h : Keeps k a s) : Keeps k a (extLoad s) := by
  unfold extLoad
  extract_lets +onlyGivenNames b n
  have hf : ∀ l : List Nat, Keeps k a (l.foldl (fun (p : State × Bool) k =>
      let d := descriptorAt p.1 (b + 32 * k)
      let why := extRefusal p.1 d.1 d.2.1 d.2.2
      if why = 0 ∧ p.1.dic.ext.length < 4096 then
        ({ p.1 with dic := { p.1.dic with ext := p.1.dic.ext.ins (ekey d.1 d.2.1) d.2.2 } }, p.2)
      else (raise p.1 0x08C0 [d.1, d.2.1, if why = 0 then Config.payloadCode 0x08C0 0 else why], true)) (s, false)).1 := by
    intro l
    refine Keeps.foldl_fst (fun u x hu => ?_) h
    dsimp only
    split
    · exact Keeps.dic (hk.bits 8 rfl) hu
    · exact keep_raise (hk.of rfl) hu
  split
  rename_i t refused e
  have ht : Keeps k a t := Keeps.ofPair e (hf _)
  exact keep_State_wr (hk.of rfl) (keep_State_wr (hk.of rfl) (keep_State_wr (hk.of rfl) (Keeps.dic (hk.bits 8 rfl) ht)))

theorem keep_extClear {k : Nat} {a : State} {s : State}
    (hk : Sub 258 k) (h : Keeps k a s) : Keeps k a (extClear s) := by
  unfold extClear
  repeat' first
    | with_reducible assumption
    | ((with_reducible refine Sub.of hk ?_); rfl)
    | with_reducible refine keep_State_wr ?_ ?_
    | (refine Keeps.dic (hk.bits 8 rfl) ?_; with_reducible assumption)

theorem keep_extRun {k : Nat} {a : State} {s : State}
    (hk : Sub 25769804162 k) (h : Keeps k a s) : Keeps k a (extRun s) := by
  unfold extRun
  repeat' first
    | with_reducible assumption
    | ((with_reducible refine Sub.of hk ?_); rfl)
    | intro _
    | with_reducible refine keep_extLoad ?_ ?_
    | with_reducible refine keep_extClear ?_ ?_
    | (with_reducible refine Keeps.foldl ?_ ?_)
    | with_reducible refine Keeps.branch ?_ ?_
    | (refine Keeps.dic (hk.bits 8 rfl) ?_; with_reducible assumption)

theorem keep_atFrame {k : Nat} {a : State} {s : State} {path : Nat}
    (hk : Sub 256 k) (h : Keeps k a s) : Keeps k a (atFrame s path) := by
  unfold atFrame
  repeat' first
    | with_reducible assumption
    | ((with_reducible refine Sub.of hk ?_); rfl)
    | (extract_lets +onlyGivenNames t
       first
       | (refine Keeps.have_ (k := k) (a := a) (t := t) ?_ ?_; unfold t; clear t; rotate_left; intro _; clear_value t; revert t; intros)
       | (clear_value t; revert t; intros)
       | (unfold t; clear t))
    | with_reducible refine Keeps.branch ?_ ?_
    | split
    | (refine Keeps.dic (hk.bits 8 rfl) ?_; first | with_reducible assumption)

theorem keep_openFrame {k : Nat} {a : State} {s : State} {path : Nat} {src : Nat} {f : List Nat}
    (hk : Sub 32212263680 k) (h : Keeps k a s) : Keeps k a (openFrame s path src f) := by
  unfold openFrame
  repeat' first
    | with_reducible assumption
    | ((with_reducible refine Sub.of hk ?_); rfl)
    | with_reducible refine keep_drawn ?_ ?_
    | with_reducible refine keep_deliver ?_ ?_
    | with_reducible refine keep_tagBlocks ?_ ?_
    | with_reducible refine Keeps.branch ?_ ?_
    | split
    | (refine Keeps.dic (hk.bits 8 rfl) ?_; first | with_reducible assumption | with_reducible refine keep_drawn ?_ ?_ | with_reducible refine keep_deliver ?_ ?_ | with_reducible refine keep_tagBlocks ?_ ?_)

theorem keep_proveFailed {k : Nat} {a : State} {s : State} {n : Nat} {x : Session}
    (hk : Sub 25769804672 k) (h : Keeps k a s) : Keeps k a (proveFailed s n x) := by
  unfold proveFailed
  repeat' first
    | with_reducible assumption
    | ((with_reducible refine Sub.of hk ?_); rfl)
    | with_reducible refine keep_noAnswer ?_ ?_
    | with_reducible refine keep_raise ?_ ?_
    | with_reducible refine keep_countFrame ?_ ?_
    | (refine Keeps.dic (hk.bits 8 rfl) ?_; first | with_reducible assumption | with_reducible refine keep_noAnswer ?_ ?_ | with_reducible refine keep_raise ?_ ?_ | with_reducible refine keep_countFrame ?_ ?_)

theorem keep_proveFrame {k : Nat} {a : State} {s : State} {n : Nat} {x : Session} {src : Nat} {f : List Nat}
    (hk : Sub 28051506058 k) (h : Keeps k a s) : Keeps k a (proveFrame s n x src f) := by
  unfold proveFrame
  repeat' first
    | with_reducible assumption
    | ((with_reducible refine Sub.of hk ?_); rfl)
    | with_reducible refine keep_proveFailed ?_ ?_
    | with_reducible refine keep_deliver ?_ ?_
    | with_reducible refine keep_modSession ?_ ?_
    | with_reducible refine keep_raise ?_ ?_
    | with_reducible refine keep_endSession ?_ ?_
    | with_reducible refine keep_tagBlocks ?_ ?_
    | split

theorem keep_runRead {k : Nat} {a : State} {s : State} {o : OpenFrame} {role : Nat} {snap : Bool}
    (hk : Sub 28051506058 k) (h : Keeps k a s) : Keeps k a (runRead s o role snap) := by
  unfold runRead
  repeat' first
    | with_reducible assumption
    | ((with_reducible refine Sub.of hk ?_); rfl)
    | intro _
    | with_reducible refine keep_snapBank1 ?_ ?_
    | with_reducible refine keep_respondItems ?_ ?_
    | with_reducible refine keep_offer ?_ ?_ ?_
    | with_reducible refine Keeps.branch ?_ ?_

theorem keep_checkItems {k : Nat} {a : State} {s : State} {o : OpenFrame} {role : Nat} {path : Nat}
    (hk : Sub 68719476731 k) (h : Keeps k a s) : Keeps k a (checkItems s o role path) := by
  unfold checkItems
  repeat' first
    | with_reducible assumption
    | ((with_reducible refine Sub.of hk ?_); rfl)
    | intro _
    | with_reducible refine keep_allChecked ?_ ?_
    | with_reducible refine keep_writeNow ?_ ?_
    | with_reducible refine keep_offer ?_ ?_ ?_

theorem keep_runItems {k : Nat} {a : State} {s : State} {n : Nat} {x : Session} {f : List Nat}
    (hk : Sub 68719476731 k) (h : Keeps k a s) : Keeps k a (runItems s n x f) := by
  unfold runItems
  repeat' first
    | with_reducible assumption
    | ((with_reducible refine Sub.of hk ?_); rfl)
    | (extract_lets +onlyGivenNames t
       first
       | (refine Keeps.have_ (k := k) (a := a) (t := t) ?_ ?_; unfold t; clear t; rotate_left; intro _; clear_value t; revert t; intros)
       | (clear_value t; revert t; intros))
    | with_reducible refine keep_runRead ?_ ?_
    | with_reducible refine keep_checkItems ?_ ?_
    | with_reducible refine keep_respond ?_ ?_
    | with_reducible refine keep_applyItems ?_ ?_
    | split

theorem keep_requestFrame {k : Nat} {a : State} {s : State} {n : Nat} {x : Session} {f : List Nat}
    (hk : Sub 68719476731 k) (h : Keeps k a s) : Keeps k a (requestFrame s n x f) := by
  unfold requestFrame
  repeat' first
    | with_reducible assumption
    | ((with_reducible refine Sub.of hk ?_); rfl)
    | with_reducible refine keep_noAnswer ?_ ?_
    | with_reducible refine keep_runItems ?_ ?_
    | with_reducible refine keep_respond ?_ ?_
    | with_reducible refine keep_raise ?_ ?_
    | with_reducible refine keep_countFrame ?_ ?_
    | with_reducible refine keep_tagBlocks ?_ ?_
    | with_reducible refine keep_deliver ?_ ?_
    | with_reducible refine Keeps.branch ?_ ?_

theorem keep_handleFrame {k : Nat} {a : State} {s : State} {path : Nat} {src : Nat} {f : List Nat}
    (hk : Sub 68719476731 k) (h : Keeps k a s) : Keeps k a (handleFrame s path src f) := by
  unfold handleFrame
  repeat' first
    | with_reducible assumption
    | ((with_reducible refine Sub.of hk ?_); rfl)
    | with_reducible refine keep_deliver ?_ ?_
    | with_reducible refine keep_noAnswer ?_ ?_
    | with_reducible refine keep_openFrame ?_ ?_
    | with_reducible refine keep_modSession ?_ ?_
    | with_reducible refine keep_proveFrame ?_ ?_
    | with_reducible refine keep_requestFrame ?_ ?_
    | with_reducible refine keep_countFrame ?_ ?_
    | with_reducible refine keep_tagBlocks ?_ ?_
    | split

theorem keep_beginFrame {k : Nat} {a : State} {s : State} {path : Nat} {src : Nat} {f : List Nat}
    (hk : Sub 68719476731 k) (h : Keeps k a s) : Keeps k a (beginFrame s path src f) := by
  unfold beginFrame
  repeat' first
    | with_reducible assumption
    | ((with_reducible refine Sub.of hk ?_); rfl)
    | with_reducible refine keep_extRun ?_ ?_
    | with_reducible refine keep_handleFrame ?_ ?_
    | (refine Keeps.dic (hk.bits 8 rfl) ?_; with_reducible assumption)

theorem keep_runQueue {k : Nat} {a : State} {x : Nat} {x' : State}
    (hk : Sub 68719476731 k) (h : Keeps k a x') : Keeps k a (runQueue x x') := by
  induction x generalizing x' with
  | zero => exact h
  | succ n ih =>
    unfold runQueue
    split
    · exact h
    · extract_lets +onlyGivenNames u
      have hu : Keeps k a u := keep_extRun (hk.of rfl) h
      clear_value u
      split
      · exact hu
      · exact ih (keep_beginFrame (hk.of rfl) (Keeps.dic (hk.bits 8 rfl) hu))

theorem keep_nextFrames {k : Nat} {a : State} {s : State}
    (hk : Sub 68719476731 k) (h : Keeps k a s) : Keeps k a (nextFrames s) := by
  unfold nextFrames
  repeat' first
    | with_reducible assumption
    | ((with_reducible refine Sub.of hk ?_); rfl)
    | with_reducible refine keep_runQueue ?_ ?_

theorem keep_handlerAnswered {k : Nat} {a : State} {s : State} {status : Nat} {data : List Nat}
    (hk : Sub 68719476731 k) (h : Keeps k a s) : Keeps k a (handlerAnswered s status data) := by
  unfold handlerAnswered
  repeat' first
    | with_reducible assumption
    | ((with_reducible refine Sub.of hk ?_); rfl)
    | (extract_lets +onlyGivenNames t
       first
       | (refine Keeps.have_ (k := k) (a := a) (t := t) ?_ ?_; unfold t; clear t; rotate_left; intro _; clear_value t; revert t; intros)
       | (clear_value t; revert t; intros))
    | with_reducible refine keep_allChecked ?_ ?_
    | with_reducible refine keep_respondItems ?_ ?_
    | with_reducible refine keep_showHandler ?_ ?_
    | with_reducible refine keep_nextFrames ?_ ?_
    | split
    | (refine Keeps.dic (hk.bits 8 rfl) ?_; with_reducible assumption)

theorem keep_hansGo {k : Nat} {a : State} {s : State}
    (hk : Sub 68719476731 k) (h : Keeps k a s) : Keeps k a (hansGo s) := by
  unfold hansGo
  repeat' first
    | with_reducible assumption
    | ((with_reducible refine Sub.of hk ?_); rfl)
    | with_reducible refine keep_handlerAnswered ?_ ?_
    | split

theorem keep_writeField {k : Nat} {a : State} {s : State} {n₀ : Nat} {F : Fld} {i : Nat} {v : Nat} {writer : Nat}
    (hk : Sub 25769803906 k) (h : Keeps k a s) : Keeps k a (writeField s n₀ F i v writer).1 := by
  unfold writeField
  repeat' first
    | with_reducible assumption
    | ((with_reducible refine Sub.of hk ?_); rfl)
    | with_reducible refine keep_takeField ?_ ?_
    | with_reducible refine Keeps.branch_fst ?_ ?_

theorem keep_extGo {k : Nat} {a : State} {s : State} {op : Nat}
    (hk : Sub 25769804162 k) (h : Keeps k a s) : Keeps k a (extGo s op) := by
  unfold extGo
  repeat' first
    | with_reducible assumption
    | ((with_reducible refine Sub.of hk ?_); rfl)
    | with_reducible refine keep_extRun ?_ ?_
    | with_reducible refine keep_extAsk ?_ ?_

theorem keep_aliasBit {k : Nat} {a : State} {s : State} {n : Nat} {off : Nat} {b : Nat} {v : Bool}
    (hk : Sub 68719476731 k) (h : Keeps k a s) : Keeps k a (aliasBit s n off b v) := by
  unfold aliasBit
  repeat' first
    | with_reducible assumption
    | ((with_reducible refine Sub.of hk ?_); rfl)
    | with_reducible refine keep_rowWrite ?_ ?_
    | with_reducible refine keep_hansGo ?_ ?_
    | with_reducible refine keep_writeField ?_ ?_
    | with_reducible refine keep_snapBlock ?_ ?_
    | with_reducible refine keep_goWrite ?_ ?_
    | with_reducible refine keep_groupCommit ?_ ?_
    | with_reducible refine keep_extGo ?_ ?_
    | with_reducible refine keep_afterWrite ?_ ?_
    | with_reducible refine keep_act ?_ ?_
    | split

theorem keep_fault {k : Nat} {a : State} {s : State} {core : Nat} {addr : Nat}
    (hk : Sub 8589934592 k) (h : Keeps k a s) : Keeps k a (fault s core addr) := by
  unfold fault
  repeat' first
    | with_reducible assumption
    | ((with_reducible refine Sub.of hk ?_); rfl)
    | with_reducible refine keep_State_emit ?_ ?_

theorem keep_aliasWrite {k : Nat} {a : State} {s : State} {core : Nat} {addr : Nat} {v : Nat}
    (hk : Sub 68719476731 k) (h : Keeps k a s) : Keeps k a (aliasWrite s core addr v) := by
  unfold aliasWrite
  repeat' first
    | with_reducible assumption
    | ((with_reducible refine Sub.of hk ?_); rfl)
    | with_reducible refine keep_aliasBit ?_ ?_
    | with_reducible refine keep_fault ?_ ?_
    | with_reducible refine keep_raise ?_ ?_
    | with_reducible refine Keeps.branch ?_ ?_

theorem keep_alignSend {k : Nat} {a : State} {s : State}
    (hk : Sub 27917287424 k) (h : Keeps k a s) : Keeps k a (alignSend s) := by
  unfold alignSend
  repeat' first
    | with_reducible assumption
    | ((with_reducible refine Sub.of hk ?_); rfl)
    | intro _
    | (extract_lets +onlyGivenNames t
       first
       | (refine Keeps.have_ (k := k) (a := a) (t := t) ?_ ?_; unfold t; clear t; rotate_left; intro _; clear_value t; revert t; intros)
       | (clear_value t; revert t; intros))
    | with_reducible refine keep_withTag ?_ ?_
    | (with_reducible refine Keeps.foldl ?_ ?_)
    | (refine Keeps.twn (hk.bits 31 rfl) ?_; with_reducible assumption)

theorem keep_coalesce {k : Nat} {a : State} {s : State} {i : Nat}
    (hk : Sub 536870912 k) (h : Keeps k a s) : Keeps k a (coalesce s i) := by
  unfold coalesce
  repeat' first
    | with_reducible assumption
    | ((with_reducible refine Sub.of hk ?_); rfl)
    | (refine Keeps.xpt (hk.bits 29 rfl) ?_; first | with_reducible assumption)

theorem keep_sendRead {k : Nat} {a : State} {s : State} {i : Nat} {psn : Nat} {total : Nat} {credit : Nat} {x : Nat} {x' : List (List Nat)}
    (hk : Sub 26843545600 k) (h : Keeps k a s) : Keeps k a (sendRead s i psn total credit x x') := by
  induction x' generalizing x s with
  | nil => exact h
  | cons c cs ih =>
    unfold sendRead
    exact ih (keep_sendPkt (hk.of rfl) h)

theorem keep_fatalNak {k : Nat} {a : State} {s : State} {i : Nat} {psn : Nat} {syndrome : Nat}
    (hk : Sub 27382513794 k) (h : Keeps k a s) : Keeps k a (fatalNak s i psn syndrome) := by
  unfold fatalNak
  repeat' first
    | with_reducible assumption
    | ((with_reducible refine Sub.of hk ?_); rfl)
    | with_reducible refine keep_raise ?_ ?_
    | with_reducible refine keep_State_bump ?_ ?_
    | with_reducible refine keep_qpError ?_ ?_
    | with_reducible refine keep_sendPkt ?_ ?_
    | split

theorem keep_answerOne {k : Nat} {a : State} {s : State} {r : Req}
    (hk : Sub 27382513794 k) (h : Keeps k a s) : Keeps k a (answerOne s r) := by
  unfold answerOne
  repeat' first
    | with_reducible assumption
    | ((with_reducible refine Sub.of hk ?_); rfl)
    | with_reducible refine keep_modQp ?_ ?_
    | with_reducible refine keep_leaveRegion ?_ ?_
    | with_reducible refine keep_coalesce ?_ ?_
    | with_reducible refine keep_sendRead ?_ ?_
    | with_reducible refine keep_fatalNak ?_ ?_
    | with_reducible refine keep_sendPkt ?_ ?_
    | with_reducible refine keep_dropReqId ?_ ?_
    | split
    | (refine Keeps.xpt (hk.bits 29 rfl) ?_; first | with_reducible assumption | with_reducible refine keep_modQp ?_ ?_ | with_reducible refine keep_leaveRegion ?_ ?_ | with_reducible refine keep_coalesce ?_ ?_ | with_reducible refine keep_sendRead ?_ ?_ | with_reducible refine keep_fatalNak ?_ ?_ | with_reducible refine keep_sendPkt ?_ ?_ | with_reducible refine keep_dropReqId ?_ ?_)

theorem keep_answerDups {k : Nat} {a : State} {s : State} {i : Nat}
    (hk : Sub 27382513794 k) (h : Keeps k a s) : Keeps k a (answerDups s i) := by
  unfold answerDups
  repeat' first
    | with_reducible assumption
    | ((with_reducible refine Sub.of hk ?_); rfl)
    | intro _
    | with_reducible refine keep_answerOne ?_ ?_
    | (with_reducible refine Keeps.foldl ?_ ?_)
    | with_reducible refine Keeps.branch ?_ ?_

theorem keep_answerRun {k : Nat} {a : State} {x : Nat} {x' : Nat} {x'' : Bool} {x''' : State}
    (hk : Sub 27382513794 k) (h : Keeps k a x''') : Keeps k a (answerRun x x' x'' x''') := by
  induction x generalizing x' x'' x''' with
  | zero => exact keep_ackDue (hk.of rfl) h
  | succ n ih =>
    unfold answerRun
    split
    · exact keep_ackDue (hk.of rfl) h
    · split
      · split
        · dsimp only
          exact ih (keep_answerOne (hk.of rfl) h)
        · exact ih (keep_answerOne (hk.of rfl) (keep_ackDue (hk.of rfl) h))
      · exact keep_ackDue (hk.of rfl) h

theorem keep_autoMark {k : Nat} {a : State} {s : State} {c : Nat} {b : Burst} {dev : Nat} {count : Nat}
    (hk : Sub 25769803906 k) (h : Keeps k a s) : Keeps k a (autoMark s c b dev count) := by
  unfold autoMark
  repeat' first
    | with_reducible assumption
    | ((with_reducible refine Sub.of hk ?_); rfl)
    | with_reducible refine keep_raise ?_ ?_
    | with_reducible refine keep_State_wr ?_ ?_
    | split

theorem keep_blankEntry {k : Nat} {a : State} {ds : List (Nat × Nat × Nat)} {s : State} {k' : Nat}
    (hk : Sub 25772425346 k) (h : Keeps k a s) : Keeps k a (blankEntry ds s k') := by
  unfold blankEntry
  repeat' first
    | with_reducible assumption
    | ((with_reducible refine Sub.of hk ?_); rfl)
    | with_reducible refine keep_setBlk ?_ ?_

theorem keep_blockWrite {k : Nat} {a : State} {s : State} {n : Nat} {off : Nat} {v : Nat}
    (hk : Sub 68719476731 k) (h : Keeps k a s) : Keeps k a (blockWrite s n off v) := by
  unfold blockWrite
  repeat' first
    | with_reducible assumption
    | ((with_reducible refine Sub.of hk ?_); rfl)
    | with_reducible refine keep_extRun ?_ ?_
    | with_reducible refine keep_regWrite ?_ ?_
    | with_reducible refine keep_hansGo ?_ ?_
    | with_reducible refine Keeps.branch ?_ ?_

theorem keep_bootImage {k : Nat} {a : State} {s : State} {which : Nat} {seq : Nat}
    (hk : Sub 2118 k) (h : Keeps k a s) : Keeps k a (bootImage s which seq) := by
  unfold bootImage
  extract_lets +onlyGivenNames rb f c t u v
  have ht : Keeps k a t := Keeps.build 2052 (hk.of rfl) h rfl rfl
      (fun p hp => by cases p <;> first | exact absurd hp (by decide) | rfl) (List.suffix_refl _) ⟨rfl, Nat.le_max_left _ _⟩ id id
  have hu : Keeps k a u := keep_State_wr (hk.of rfl) ht
  have hv : Keeps k a v := keep_loadFirmware (hk.of rfl) hu
  exact keep_showUpdate (hk.of rfl) (keep_releaseCore (hk.of rfl) (keep_writeRecord (hk.of rfl) hv))

theorem keep_bootSlots {k : Nat} {a : State} {s : State}
    (hk : Sub 25769806022 k) (h : Keeps k a s) : Keeps k a (bootSlots s) := by
  unfold bootSlots
  repeat' first
    | with_reducible assumption
    | ((with_reducible refine Sub.of hk ?_); rfl)
    | (extract_lets +onlyGivenNames t
       first
       | (refine Keeps.have_ (k := k) (a := a) (t := t) ?_ ?_; unfold t; clear t; rotate_left; intro _; clear_value t; revert t; intros)
       | (clear_value t; revert t; intros))
    | with_reducible refine keep_showUpdate ?_ ?_
    | with_reducible refine keep_bootImage ?_ ?_
    | with_reducible refine keep_raise ?_ ?_
    | with_reducible refine keep_State_wr ?_ ?_
    | with_reducible refine keep_reportRefused ?_ ?_
    | split

theorem keep_boot {k : Nat} {a : State} {s : State}
    (hk : Sub 25769822406 k) (h : Keeps k a s) : Keeps k a (boot s) := by
  unfold boot
  repeat' first
    | with_reducible assumption
    | ((with_reducible refine Sub.of hk ?_); rfl)
    | with_reducible refine keep_bootImage ?_ ?_
    | with_reducible refine keep_bootSlots ?_ ?_
    | with_reducible refine keep_raise ?_ ?_
    | with_reducible refine keep_activate ?_ ?_
    | with_reducible refine keep_reportRefused ?_ ?_
    | split

theorem keep_sourceReset {k : Nat} {a : State} {s : State} {src : Nat}
    (hk : Sub 64424509435 k) (h : Keeps k a s) : Keeps k a (sourceReset s src) := by
  unfold sourceReset
  repeat' first
    | with_reducible assumption
    | ((with_reducible refine Sub.of hk ?_); rfl)
    | with_reducible refine keep_takeReset ?_ ?_
    | with_reducible refine Keeps.branch ?_ ?_

theorem keep_brownOutStart {k : Nat} {a : State} {s : State} {cause : Nat} {rail : Nat} {reading : Nat}
    (hk : Sub 64424509435 k) (h : Keeps k a s) : Keeps k a (brownOutStart s cause rail reading) := by
  unfold brownOutStart
  repeat' first
    | with_reducible assumption
    | ((with_reducible refine Sub.of hk ?_); rfl)
    | with_reducible refine keep_snapshot ?_ ?_
    | with_reducible refine keep_raise ?_ ?_
    | with_reducible refine keep_State_bump ?_ ?_
    | with_reducible refine keep_State_wr ?_ ?_
    | with_reducible refine keep_sourceReset ?_ ?_

theorem keep_cacheFill {k : Nat} {a : State} {s : State} {i : Nat} {p : Nat}
    (hk : Sub 17729323010 k) (h : Keeps k a s) : Keeps k a (cacheFill s i p) := by
  unfold cacheFill
  repeat' first
    | with_reducible assumption
    | ((with_reducible refine Sub.of hk ?_); rfl)
    | with_reducible refine keep_evictCtx ?_ ?_
    | split
    | (refine Keeps.xpt (hk.bits 29 rfl) ?_; first | with_reducible assumption | with_reducible refine keep_evictCtx ?_ ?_)

theorem keep_cacheUse {k : Nat} {a : State} {s : State} {i : Nat}
    (hk : Sub 536870912 k) (h : Keeps k a s) : Keeps k a (cacheUse s i) := by
  unfold cacheUse
  repeat' first
    | with_reducible assumption
    | ((with_reducible refine Sub.of hk ?_); rfl)
    | (refine Keeps.xpt (hk.bits 29 rfl) ?_; first | with_reducible assumption)

theorem keep_calDrc {k : Nat} {a : State} {s : State} {c : Nat}
    (hk : Sub 65538 k) (h : Keeps k a s) : Keeps k a (calDrc s c) := by
  unfold calDrc
  repeat' first
    | with_reducible assumption
    | ((with_reducible refine Sub.of hk ?_); rfl)
    | intro _
    | with_reducible refine keep_quietPoint ?_ ?_
    | with_reducible refine keep_toShadow ?_ ?_
    | (with_reducible refine Keeps.foldl ?_ ?_)
    | with_reducible refine Keeps.branch ?_ ?_
    | (refine Keeps.cal (hk.bits 16 rfl) ?_; with_reducible assumption)
    | exact Keeps.build 65538 (hk.of rfl) (by assumption) (by rfl) (by rfl) (by exact fun p hp => by cases p <;> first | exact absurd hp (by decide) | rfl) (by exact List.suffix_refl _) (by exact grown_refl _) (by exact id) (by
        rintro ⟨⟨⟨⟨v, w⟩, x, y⟩, z⟩, b0, b1⟩
        refine ⟨⟨⟨⟨?_, ?_⟩, ?_, ?_⟩, ?_⟩, ?_, ?_⟩ <;>
          repeat' first
            | assumption
            | exact Sparse.wf_nil
            | with_reducible refine Sparse.wf_put ?_
            | with_reducible refine Sparse.wf_ins ?_
            | with_reducible refine Sparse.wf_del ?_
            | with_reducible refine Sparse.wf_keep ?_
            | with_reducible refine Sparse.wf_filter ?_
            | with_reducible refine Sparse.wf_foldl_ins ?_
            | split)

theorem keep_calRest {k : Nat} {a : State} {s : State}
    (hk : Sub 65536 k) (h : Keeps k a s) : Keeps k a (calRest s) := by
  unfold calRest
  repeat' first
    | with_reducible assumption
    | ((with_reducible refine Sub.of hk ?_); rfl)
    | (refine Keeps.cal (hk.bits 16 rfl) ?_; first | with_reducible assumption)

theorem keep_calStore {k : Nat} {a : State} {s : State}
    (hk : Sub 67174400 k) (h : Keeps k a s) : Keeps k a (calStore s) := by
  unfold calStore
  repeat' first
    | with_reducible assumption
    | ((with_reducible refine Sub.of hk ?_); rfl)
    | intro _
    | (with_reducible refine Keeps.foldl ?_ ?_)
    | (refine Keeps.stf (hk.bits 26 rfl) ?_; first | with_reducible assumption)
    | (refine Keeps.cal (hk.bits 16 rfl) ?_; first | with_reducible assumption)
    | exact Keeps.build 67174400 (hk.of rfl) (by assumption) (by rfl) (by rfl) (by exact fun p hp => by cases p <;> first | exact absurd hp (by decide) | rfl) (by exact List.suffix_refl _) (by exact grown_refl _) (by exact id) (by exact id)

theorem keep_catchupMerge {k : Nat} {a : State} {s : State}
    (hk : Sub 27920957570 k) (h : Keeps k a s) : Keeps k a (catchupMerge s) := by
  unfold catchupMerge
  repeat' first
    | with_reducible assumption
    | ((with_reducible refine Sub.of hk ?_); rfl)
    | intro _
    | (extract_lets +onlyGivenNames t
       first
       | (refine Keeps.have_ (k := k) (a := a) (t := t) ?_ ?_; unfold t; clear t; rotate_left; intro _; clear_value t; revert t; intros)
       | (clear_value t; revert t; intros))
    | with_reducible refine keep_logTouch ?_ ?_
    | with_reducible refine keep_markLog ?_ ?_
    | with_reducible refine keep_mergeSent ?_ ?_
    | with_reducible refine keep_showLog ?_ ?_
    | with_reducible refine keep_withTag ?_ ?_
    | (with_reducible refine Keeps.foldl ?_ ?_)
    | with_reducible refine Keeps.branch ?_ ?_
    | (refine Keeps.twn (hk.bits 31 rfl) ?_; with_reducible assumption)
    | (refine Keeps.log (hk.bits 20 rfl) ?_; with_reducible assumption)
    | exact Keeps.build 2148532224 (hk.of rfl) (by assumption) (by rfl) (by rfl) (by exact fun p hp => by cases p <;> first | exact absurd hp (by decide) | rfl) (by exact List.suffix_refl _) (by exact grown_refl _) (by exact id) (by exact id)

theorem keep_cleanDone {k : Nat} {a : State} {s : State} {p : Nat} {l : SLoc}
    (hk : Sub 28125429890 k) (h : Keeps k a s) : Keeps k a (cleanDone s p l) := by
  unfold cleanDone
  repeat' first
    | with_reducible assumption
    | ((with_reducible refine Sub.of hk ?_); rfl)
    | with_reducible refine keep_demoteFree ?_ ?_
    | with_reducible refine keep_checkMove ?_ ?_
    | with_reducible refine keep_State_bump ?_ ?_
    | with_reducible refine keep_setStore ?_ ?_
    | with_reducible refine keep_setPage ?_ ?_
    | with_reducible refine Keeps.branch ?_ ?_

theorem keep_cleanMap {k : Nat} {a : State} {s : State} {f : Nat}
    (hk : Sub 25839534210 k) (h : Keeps k a s) : Keeps k a (cleanMap s f) := by
  unfold cleanMap
  repeat' first
    | with_reducible assumption
    | ((with_reducible refine Sub.of hk ?_); rfl)
    | (extract_lets +onlyGivenNames t
       first
       | (refine Keeps.have_ (k := k) (a := a) (t := t) ?_ ?_; unfold t; clear t; rotate_left; intro _; clear_value t; revert t; intros)
       | (clear_value t; revert t; intros))
    | with_reducible refine keep_dirtyPage ?_ ?_
    | with_reducible refine keep_hopWrite ?_ ?_
    | with_reducible refine keep_countDirty ?_ ?_
    | with_reducible refine Keeps.branch ?_ ?_
    | (refine Keeps.stf (hk.bits 26 rfl) ?_; with_reducible assumption)
    | (refine Keeps.maps (hk.bits 19 rfl) ?_; with_reducible assumption)
    | exact Keeps.build 67633152 (hk.of rfl) (by assumption) (by rfl) (by rfl) (by exact fun p hp => by cases p <;> first | exact absurd hp (by decide) | rfl) (by exact List.suffix_refl _) (by exact grown_refl _) (by exact id) (by exact id)

theorem keep_cleanMove {k : Nat} {a : State} {s : State} {e : Nat}
    (hk : Sub 25906643074 k) (h : Keeps k a s) : Keeps k a (cleanMove s e) := by
  unfold cleanMove
  repeat' first
    | with_reducible assumption
    | ((with_reducible refine Sub.of hk ?_); rfl)
    | intro _
    | (extract_lets +onlyGivenNames t
       first
       | (refine Keeps.have_ (k := k) (a := a) (t := t) ?_ ?_; unfold t; clear t; rotate_left; intro _; clear_value t; revert t; intros)
       | (clear_value t; revert t; intros)
       | (unfold t; clear t))
    | with_reducible refine keep_modExtent ?_ ?_
    | with_reducible refine Keeps.branch ?_ ?_
    | split
    | (refine Keeps.tie (hk.bits 27 rfl) ?_; first | with_reducible assumption | with_reducible refine keep_modExtent ?_ ?_)

theorem keep_seekFrame {k : Nat} {a : State} {s : State} {p : Nat} {f : Nat}
    (hk : Sub 27921481856 k) (h : Keeps k a s) : Keeps k a (seekFrame s p f).1 := by
  unfold seekFrame
  repeat' first
    | with_reducible assumption
    | ((with_reducible refine Sub.of hk ?_); rfl)
    | intro _
    | with_reducible refine keep_seekLine ?_ ?_
    | (with_reducible refine Keeps.foldl_fst ?_ ?_)
    | split

theorem keep_cleanTake {k : Nat} {a : State} {s : State} {p : Nat}
    (hk : Sub 28125429890 k) (h : Keeps k a s) : Keeps k a (cleanTake s p) := by
  unfold cleanTake
  repeat' first
    | with_reducible assumption
    | ((with_reducible refine Sub.of hk ?_); rfl)
    | with_reducible refine keep_cleanMove ?_ ?_
    | with_reducible refine keep_setFrame ?_ ?_
    | with_reducible refine keep_seekFrame ?_ ?_
    | with_reducible refine Keeps.branch ?_ ?_
    | split
    | (refine Keeps.stf (hk.bits 26 rfl) ?_; first | with_reducible assumption | with_reducible refine keep_cleanMove ?_ ?_ | with_reducible refine keep_setFrame ?_ ?_ | with_reducible refine keep_seekFrame ?_ ?_)

theorem keep_cleanVisit {k : Nat} {a : State} {s : State} {p : Nat}
    (hk : Sub 28125429890 k) (h : Keeps k a s) : Keeps k a (cleanVisit s p) := by
  unfold cleanVisit
  repeat' first
    | with_reducible assumption
    | ((with_reducible refine Sub.of hk ?_); rfl)
    | with_reducible refine keep_streamLookup ?_ ?_
    | with_reducible refine keep_cleanTake ?_ ?_
    | with_reducible refine keep_setPage ?_ ?_
    | with_reducible refine Keeps.branch ?_ ?_

theorem keep_clearSlot {k : Nat} {a : State} {s : State} {n : Nat}
    (hk : Sub 8192 k) (h : Keeps k a s) : Keeps k a (clearSlot s n) := by
  unfold clearSlot
  repeat' first
    | with_reducible assumption
    | ((with_reducible refine Sub.of hk ?_); rfl)
    | (refine Keeps.key (hk.bits 13 rfl) ?_; first | with_reducible assumption)

theorem keep_cmReceive {k : Nat} {a : State} {s : State} {k' : Packet}
    (hk : Sub 25769805952 k) (h : Keeps k a s) : Keeps k a (cmReceive s k') := by
  unfold cmReceive
  repeat' first
    | with_reducible assumption
    | ((with_reducible refine Sub.of hk ?_); rfl)
    | with_reducible refine keep_State_bump ?_ ?_
    | with_reducible refine keep_raise ?_ ?_
    | with_reducible refine Keeps.branch ?_ ?_
    | (refine Keeps.cpx (hk.bits 11 rfl) ?_; first | with_reducible assumption | with_reducible refine keep_State_bump ?_ ?_ | with_reducible refine keep_raise ?_ ?_)

theorem keep_commitLine {k : Nat} {a : State} {s : State} {j : Job}
    (hk : Sub 28873064578 k) (h : Keeps k a s) : Keeps k a (commitLine s j) := by
  unfold commitLine
  repeat' first
    | with_reducible assumption
    | ((with_reducible refine Sub.of hk ?_); rfl)
    | with_reducible refine keep_mstWrite ?_ ?_
    | with_reducible refine keep_setJob ?_ ?_

theorem keep_commitBank {k : Nat} {a : State} {s : State} {j : Job}
    (hk : Sub 29946806402 k) (h : Keeps k a s) : Keeps k a (commitBank s j) := by
  unfold commitBank
  repeat' first
    | with_reducible assumption
    | ((with_reducible refine Sub.of hk ?_); rfl)
    | with_reducible refine keep_commitLine ?_ ?_
    | with_reducible refine keep_failJob ?_ ?_
    | with_reducible refine keep_mstForget ?_ ?_
    | with_reducible refine Keeps.branch ?_ ?_

theorem keep_commitStart {k : Nat} {a : State} {s : State} {j : Job}
    (hk : Sub 28873064578 k) (h : Keeps k a s) : Keeps k a (commitStart s j) := by
  unfold commitStart
  repeat' first
    | with_reducible assumption
    | ((with_reducible refine Sub.of hk ?_); rfl)
    | with_reducible refine keep_commitLine ?_ ?_
    | with_reducible refine keep_mstWrite ?_ ?_
    | with_reducible refine keep_setJob ?_ ?_
    | with_reducible refine Keeps.branch ?_ ?_

theorem keep_spaceSeek {k : Nat} {a : State} {s : State} {a' : Nat} {n : Nat}
    (hk : Sub 27921481856 k) (h : Keeps k a s) : Keeps k a (spaceSeek s a' n).1 := by
  unfold spaceSeek
  repeat' first
    | with_reducible assumption
    | ((with_reducible refine Sub.of hk ?_); rfl)
    | intro _
    | with_reducible refine keep_seekLines ?_ ?_
    | (with_reducible refine Keeps.foldl_fst ?_ ?_)
    | split

theorem keep_track {k : Nat} {a : State} {s : State} {l : SLoc} {rd : CwRead}
    (hk : Sub 25836912768 k) (h : Keeps k a s) : Keeps k a (track s l rd) := by
  unfold track
  repeat' first
    | with_reducible assumption
    | ((with_reducible refine Sub.of hk ?_); rfl)
    | intro _
    | (extract_lets +onlyGivenNames t
       first
       | (refine Keeps.have_ (k := k) (a := a) (t := t) ?_ ?_; unfold t; clear t; rotate_left; intro _; clear_value t; revert t; intros)
       | (clear_value t; revert t; intros)
       | (unfold t; clear t))
    | with_reducible refine keep_raise ?_ ?_
    | (with_reducible refine Keeps.foldl ?_ ?_)
    | (with_reducible refine Keeps.foldl_fst ?_ ?_)
    | with_reducible refine Keeps.branch ?_ ?_
    | split
    | (refine Keeps.stf (hk.bits 26 rfl) ?_; first | with_reducible assumption | with_reducible refine keep_raise ?_ ?_)

theorem keep_readCw {k : Nat} {a : State} {s : State} {l : SLoc} {rd : CwRead} {slc : Bool}
    (hk : Sub 25836912768 k) (h : Keeps k a s) : Keeps k a (readCw s l rd slc).1 := by
  unfold readCw
  repeat' first
    | with_reducible assumption
    | ((with_reducible refine Sub.of hk ?_); rfl)
    | with_reducible refine keep_relocAdd ?_ ?_
    | with_reducible refine keep_track ?_ ?_
    | with_reducible refine keep_State_bump ?_ ?_
    | with_reducible refine keep_raise ?_ ?_
    | with_reducible refine Keeps.branch ?_ ?_
    | with_reducible refine Keeps.branch_fst ?_ ?_

theorem keep_lostCw {k : Nat} {a : State} {s : State} {ref : Nat}
    (hk : Sub 28125429890 k) (h : Keeps k a s) : Keeps k a (lostCw s ref) := by
  unfold lostCw
  repeat' first
    | with_reducible assumption
    | ((with_reducible refine Sub.of hk ?_); rfl)
    | with_reducible refine keep_dirtyPage ?_ ?_
    | with_reducible refine keep_wantPage ?_ ?_
    | with_reducible refine keep_setStore ?_ ?_
    | with_reducible refine keep_dirtyFrame ?_ ?_
    | with_reducible refine keep_raise ?_ ?_
    | with_reducible refine Keeps.branch ?_ ?_
    | (refine Keeps.tie (hk.bits 27 rfl) ?_; with_reducible assumption)

theorem keep_fetchPages {k : Nat} {a : State} {s : State} {a' : Nat} {n : Nat} {rd : CwRead}
    (hk : Sub 28125429890 k) (h : Keeps k a s) : Keeps k a (fetchPages s a' n rd).1 := by
  unfold fetchPages
  repeat' first
    | with_reducible assumption
    | ((with_reducible refine Sub.of hk ?_); rfl)
    | intro _
    | with_reducible refine keep_State_bump ?_ ?_
    | with_reducible refine keep_readCw ?_ ?_
    | with_reducible refine keep_lostCw ?_ ?_
    | (with_reducible refine Keeps.foldl_fst ?_ ?_)
    | with_reducible refine Keeps.branch_fst ?_ ?_

theorem keep_completeOp {k : Nat} {a : State} {s : State} {j : Job} {o : MOp} {rd : CwRead}
    (hk : Sub 30013915266 k) (h : Keeps k a s) : Keeps k a (completeOp s j o rd) := by
  unfold completeOp
  repeat' first
    | with_reducible assumption
    | ((with_reducible refine Sub.of hk ?_); rfl)
    | (extract_lets +onlyGivenNames t
       first
       | (refine Keeps.have_ (k := k) (a := a) (t := t) ?_ ?_; unfold t; clear t; rotate_left; intro _; clear_value t; revert t; intros)
       | (refine Keeps.have_fst (k := k) (a := a) (t := t) ?_ ?_; unfold t; clear t; rotate_left; intro _; clear_value t; revert t; intros)
       | (clear_value t; revert t; intros))
    | with_reducible refine keep_cancelEnd ?_ ?_
    | with_reducible refine keep_spaceSeek ?_ ?_
    | with_reducible refine keep_mstForget ?_ ?_
    | with_reducible refine keep_fetchPages ?_ ?_
    | with_reducible refine keep_failJob ?_ ?_
    | with_reducible refine keep_State_bump ?_ ?_
    | with_reducible refine keep_setJob ?_ ?_
    | split

theorem keep_frameIn {k : Nat} {a : State} {s : State} {path : Nat} {src : Nat} {f : List Nat}
    (hk : Sub 68719476731 k) (h : Keeps k a s) : Keeps k a (frameIn s path src f) := by
  unfold frameIn
  repeat' first
    | with_reducible assumption
    | ((with_reducible refine Sub.of hk ?_); rfl)
    | with_reducible refine keep_noAnswer ?_ ?_
    | with_reducible refine keep_beginFrame ?_ ?_
    | with_reducible refine Keeps.branch ?_ ?_
    | (refine Keeps.mgtDrops (hk.bits 10 rfl) ?_; with_reducible assumption)
    | (refine Keeps.dic (hk.bits 8 rfl) ?_; with_reducible assumption)
    | exact Keeps.build 1280 (hk.of rfl) (by assumption) (by rfl) (by rfl) (by exact fun p hp => by cases p <;> first | exact absurd hp (by decide) | rfl) (by exact List.suffix_refl _) (by exact grown_refl _) (by exact id) (by exact id)

theorem keep_doDict {k : Nat} {a : State} {tag : Nat} {frame : List Nat} {s : State}
    (hk : Sub 68719476731 k) (h : Keeps k a s) : Keeps k a (doDict tag frame s) := by
  unfold doDict
  repeat' first
    | with_reducible assumption
    | ((with_reducible refine Sub.of hk ?_); rfl)
    | with_reducible refine keep_frameIn ?_ ?_

theorem keep_pageMsg {k : Nat} {a : State} {s : State} {m : Msg}
    (hk : Sub 28671737986 k) (h : Keeps k a s) : Keeps k a (pageMsg s m) := by
  unfold pageMsg
  repeat' first
    | with_reducible assumption
    | ((with_reducible refine Sub.of hk ?_); rfl)
    | with_reducible refine keep_gapNotice ?_ ?_
    | with_reducible refine keep_tryMsg ?_ ?_
    | with_reducible refine keep_retryHeld ?_ ?_
    | with_reducible refine Keeps.branch ?_ ?_
    | (refine Keeps.twn (hk.bits 31 rfl) ?_; first | with_reducible assumption | with_reducible refine keep_gapNotice ?_ ?_ | with_reducible refine keep_tryMsg ?_ ?_ | with_reducible refine keep_retryHeld ?_ ?_)

theorem keep_doMirrorMsg {k : Nat} {a : State} {tag : Nat} {epoch : Nat} {spage : Nat} {off : Nat} {async : Bool} {data : List Nat} {s : State}
    (hk : Sub 28671737986 k) (h : Keeps k a s) : Keeps k a (doMirrorMsg tag epoch spage off async data s) := by
  unfold doMirrorMsg
  repeat' first
    | with_reducible assumption
    | ((with_reducible refine Sub.of hk ?_); rfl)
    | with_reducible refine keep_pageMsg ?_ ?_
    | with_reducible refine Keeps.branch ?_ ?_

theorem keep_drainDone {k : Nat} {a : State} {s : State} {i : Nat}
    (hk : Sub 25772425346 k) (h : Keeps k a s) : Keeps k a (drainDone s i) := by
  unfold drainDone
  repeat' first
    | with_reducible assumption
    | ((with_reducible refine Sub.of hk ?_); rfl)
    | with_reducible refine keep_setRegion ?_ ?_
    | with_reducible refine keep_raise ?_ ?_
    | with_reducible refine Keeps.branch ?_ ?_
    | (refine Keeps.maps (hk.bits 19 rfl) ?_; first | with_reducible assumption | with_reducible refine keep_setRegion ?_ ?_ | with_reducible refine keep_raise ?_ ?_)

theorem keep_regionApply {k : Nat} {a : State} {s : State} {i : Nat} {r : Region}
    (hk : Sub 25773473922 k) (h : Keeps k a s) : Keeps k a (regionApply s i r) := by
  unfold regionApply
  repeat' first
    | with_reducible assumption
    | ((with_reducible refine Sub.of hk ?_); rfl)
    | with_reducible refine keep_setRegion ?_ ?_
    | with_reducible refine keep_allocExtents ?_ ?_
    | with_reducible refine keep_drainDone ?_ ?_
    | with_reducible refine Keeps.branch ?_ ?_
    | (refine Keeps.maps (hk.bits 19 rfl) ?_; first | with_reducible assumption | with_reducible refine keep_setRegion ?_ ?_ | with_reducible refine keep_allocExtents ?_ ?_ | with_reducible refine keep_drainDone ?_ ?_)

theorem keep_doMapopRegionSet {k : Nat} {a : State} {tag : Nat} {index : Nat} {words : List Nat} {s : State}
    (hk : Sub 27920957570 k) (h : Keeps k a s) : Keeps k a (doMapopRegionSet tag index words s) := by
  unfold doMapopRegionSet
  repeat' first
    | with_reducible assumption
    | ((with_reducible refine Sub.of hk ?_); rfl)
    | with_reducible refine keep_twinSend ?_ ?_
    | with_reducible refine keep_regionApply ?_ ?_
    | with_reducible refine Keeps.branch ?_ ?_

theorem keep_doMapopDealloc {k : Nat} {a : State} {tag : Nat} {extent : Nat} {count : Nat} {s : State}
    (hk : Sub 32421453954 k) (h : Keeps k a s) : Keeps k a (doMapopDealloc tag extent count s) := by
  unfold doMapopDealloc
  repeat' first
    | with_reducible assumption
    | ((with_reducible refine Sub.of hk ?_); rfl)
    | with_reducible refine keep_twinSend ?_ ?_
    | with_reducible refine keep_mapRequest ?_ ?_
    | with_reducible refine keep_deallocHere ?_ ?_
    | with_reducible refine Keeps.branch ?_ ?_

theorem keep_lateMiss {k : Nat} {a : State} {s : State} {p : Nat}
    (hk : Sub 25769803904 k) (h : Keeps k a s) : Keeps k a (lateMiss s p) := by
  unfold lateMiss
  repeat' first
    | with_reducible assumption
    | ((with_reducible refine Sub.of hk ?_); rfl)
    | with_reducible refine keep_raise ?_ ?_
    | with_reducible refine Keeps.branch ?_ ?_

theorem keep_fillInstall {k : Nat} {a : State} {s : State} {p : Nat} {c : Codeword} {lost : optParam Bool Bool.false}
    (hk : Sub 28595191938 k) (h : Keeps k a s) : Keeps k a (fillInstall s p c lost) := by
  unfold fillInstall
  repeat' first
    | with_reducible assumption
    | ((with_reducible refine Sub.of hk ?_); rfl)
    | (extract_lets +onlyGivenNames t
       first
       | (refine Keeps.have_ (k := k) (a := a) (t := t) ?_ ?_; unfold t; clear t; rotate_left; intro _; clear_value t; revert t; intros)
       | (clear_value t; revert t; intros))
    | with_reducible refine keep_installPage ?_ ?_
    | with_reducible refine keep_checkMove ?_ ?_
    | with_reducible refine keep_lateMiss ?_ ?_
    | with_reducible refine keep_dirtyFrame ?_ ?_
    | with_reducible refine keep_unpark ?_ ?_
    | with_reducible refine Keeps.branch ?_ ?_
    | (refine Keeps.tie (hk.bits 27 rfl) ?_; with_reducible assumption)

theorem keep_fillLost {k : Nat} {a : State} {s : State} {p : Nat}
    (hk : Sub 28662300802 k) (h : Keeps k a s) : Keeps k a (fillLost s p) := by
  unfold fillLost
  repeat' first
    | with_reducible assumption
    | ((with_reducible refine Sub.of hk ?_); rfl)
    | with_reducible refine keep_setStore ?_ ?_
    | with_reducible refine keep_fillInstall ?_ ?_
    | with_reducible refine keep_raise ?_ ?_
    | with_reducible refine Keeps.branch ?_ ?_

theorem keep_treadFailIn {k : Nat} {a : State} {s : State} {p : Nat} {n : Nat}
    (hk : Sub 28671737986 k) (h : Keeps k a s) : Keeps k a (treadFailIn s p n) := by
  unfold treadFailIn
  repeat' first
    | with_reducible assumption
    | ((with_reducible refine Sub.of hk ?_); rfl)
    | with_reducible refine keep_fillLost ?_ ?_
    | with_reducible refine keep_retryHeld ?_ ?_
    | with_reducible refine keep_unfetch ?_ ?_
    | with_reducible refine keep_writePoison ?_ ?_
    | split
    | (refine Keeps.twn (hk.bits 31 rfl) ?_; with_reducible assumption)

theorem keep_doTreadFail {k : Nat} {a : State} {tag : Nat} {spage : Nat} {line : Nat} {cause : Nat} {s : State}
    (hk : Sub 28671737986 k) (h : Keeps k a s) : Keeps k a (doTreadFail tag spage line cause s) := by
  unfold doTreadFail
  repeat' first
    | with_reducible assumption
    | ((with_reducible refine Sub.of hk ?_); rfl)
    | with_reducible refine keep_treadFailIn ?_ ?_
    | with_reducible refine Keeps.branch ?_ ?_

theorem keep_doMapopDeregreq {k : Nat} {a : State} {tag : Nat} {rkey : Nat} {s : State}
    (hk : Sub 32421453954 k) (h : Keeps k a s) : Keeps k a (doMapopDeregreq tag rkey s) := by
  unfold doMapopDeregreq
  repeat' first
    | with_reducible assumption
    | ((with_reducible refine Sub.of hk ?_); rfl)
    | with_reducible refine keep_mapRequest ?_ ?_
    | with_reducible refine Keeps.branch ?_ ?_

theorem keep_sendWaiting {k : Nat} {a : State} {s : State}
    (hk : Sub 27919384578 k) (h : Keeps k a s) : Keeps k a (sendWaiting s) := by
  unfold sendWaiting
  repeat' first
    | with_reducible assumption
    | ((with_reducible refine Sub.of hk ?_); rfl)
    | intro _
    | (extract_lets +onlyGivenNames t
       first
       | (refine Keeps.have_ (k := k) (a := a) (t := t) ?_ ?_; unfold t; clear t; rotate_left; intro _; clear_value t; revert t; intros)
       | (clear_value t; revert t; intros)
       | (unfold t; clear t))
    | with_reducible refine keep_sendResync ?_ ?_
    | (with_reducible refine Keeps.foldl ?_ ?_)
    | (with_reducible refine Keeps.foldl_fst ?_ ?_)
    | with_reducible refine Keeps.branch ?_ ?_
    | split
    | (refine Keeps.twn (hk.bits 31 rfl) ?_; first | with_reducible assumption | with_reducible refine keep_sendResync ?_ ?_)

theorem keep_spanFinish {k : Nat} {a : State} {s : State}
    (hk : Sub 27920957826 k) (h : Keeps k a s) : Keeps k a (spanFinish s) := by
  unfold spanFinish
  repeat' first
    | with_reducible assumption
    | ((with_reducible refine Sub.of hk ?_); rfl)
    | with_reducible refine keep_enterSpan ?_ ?_
    | with_reducible refine keep_withTag ?_ ?_
    | with_reducible refine Keeps.branch ?_ ?_

theorem keep_pairProgress {k : Nat} {a : State} {s : State}
    (hk : Sub 28059369858 k) (h : Keeps k a s) : Keeps k a (pairProgress s) := by
  unfold pairProgress
  repeat' first
    | with_reducible assumption
    | ((with_reducible refine Sub.of hk ?_); rfl)
    | with_reducible refine keep_sendWaiting ?_ ?_
    | with_reducible refine keep_sendPendList ?_ ?_
    | with_reducible refine keep_reconStep ?_ ?_
    | with_reducible refine keep_spanFinish ?_ ?_
    | with_reducible refine Keeps.branch ?_ ?_
    | (refine Keeps.twn (hk.bits 31 rfl) ?_; first | with_reducible assumption | with_reducible refine keep_sendWaiting ?_ ?_ | with_reducible refine keep_sendPendList ?_ ?_ | with_reducible refine keep_reconStep ?_ ?_ | with_reducible refine keep_spanFinish ?_ ?_)

theorem keep_doPlacedMsg {k : Nat} {a : State} {tag : Nat} {epoch : Nat} {spage : Nat} {status : Nat} {s : State}
    (hk : Sub 28671738242 k) (h : Keeps k a s) : Keeps k a (doPlacedMsg tag epoch spage status s) := by
  unfold doPlacedMsg
  repeat' first
    | with_reducible assumption
    | ((with_reducible refine Sub.of hk ?_); rfl)
    | with_reducible refine keep_endPart ?_ ?_
    | with_reducible refine keep_pairProgress ?_ ?_
    | with_reducible refine keep_pendDone ?_ ?_
    | with_reducible refine keep_retryHeld ?_ ?_
    | split
    | (refine Keeps.twn (hk.bits 31 rfl) ?_; first | with_reducible assumption | with_reducible refine keep_endPart ?_ ?_ | with_reducible refine keep_pairProgress ?_ ?_ | with_reducible refine keep_pendDone ?_ ?_ | with_reducible refine keep_retryHeld ?_ ?_)

theorem keep_moveDoneIn {k : Nat} {a : State} {s : State} {e : Nat} {kind : Nat} {result : Nat}
    (hk : Sub 28595191938 k) (h : Keeps k a s) : Keeps k a (moveDoneIn s e kind result) := by
  unfold moveDoneIn
  repeat' first
    | with_reducible assumption
    | ((with_reducible refine Sub.of hk ?_); rfl)
    | (extract_lets +onlyGivenNames t
       first
       | (refine Keeps.have_ (k := k) (a := a) (t := t) ?_ ?_; unfold t; clear t; rotate_left; intro _; clear_value t; revert t; intros))
    | with_reducible refine keep_checkMove ?_ ?_
    | with_reducible refine keep_endMove ?_ ?_
    | with_reducible refine keep_raise ?_ ?_
    | split
    | (refine Keeps.xpt (hk.bits 29 rfl) ?_; with_reducible assumption)
    | (refine Keeps.twn (hk.bits 31 rfl) ?_; with_reducible assumption)
    | (refine Keeps.tie (hk.bits 27 rfl) ?_; with_reducible assumption)
    | exact Keeps.build 2818572288 (hk.of rfl) (by assumption) (by rfl) (by rfl) (by exact fun p hp => by cases p <;> first | exact absurd hp (by decide) | rfl) (by exact List.suffix_refl _) (by exact grown_refl _) (by exact id) (by exact id)

theorem keep_doMoveDone {k : Nat} {a : State} {tag : Nat} {extent : Nat} {kind : Nat} {result : Nat} {s : State}
    (hk : Sub 28595191938 k) (h : Keeps k a s) : Keeps k a (doMoveDone tag extent kind result s) := by
  unfold doMoveDone
  repeat' first
    | with_reducible assumption
    | ((with_reducible refine Sub.of hk ?_); rfl)
    | (extract_lets +onlyGivenNames t
       first
       | (refine Keeps.have_ (k := k) (a := a) (t := t) ?_ ?_; unfold t; clear t; rotate_left; intro _; clear_value t; revert t; intros)
       | (clear_value t; revert t; intros)
       | (unfold t; clear t))
    | with_reducible refine keep_moveDoneIn ?_ ?_
    | with_reducible refine keep_retryWaiting ?_ ?_
    | with_reducible refine Keeps.branch ?_ ?_
    | split

theorem keep_doStateSpanreq {k : Nat} {a : State} {tag : Nat} {pgen : Nat} {s : State}
    (hk : Sub 27917287426 k) (h : Keeps k a s) : Keeps k a (doStateSpanreq tag pgen s) := by
  unfold doStateSpanreq
  repeat' first
    | with_reducible assumption
    | ((with_reducible refine Sub.of hk ?_); rfl)
    | with_reducible refine keep_spanStart ?_ ?_
    | with_reducible refine keep_showGate ?_ ?_
    | with_reducible refine keep_withTag ?_ ?_
    | with_reducible refine Keeps.branch ?_ ?_
    | (refine Keeps.twn (hk.bits 31 rfl) ?_; with_reducible assumption)

theorem keep_doMapopRegreq {k : Nat} {a : State} {tag : Nat} {words : List Nat} {s : State}
    (hk : Sub 32421453954 k) (h : Keeps k a s) : Keeps k a (doMapopRegreq tag words s) := by
  unfold doMapopRegreq
  repeat' first
    | with_reducible assumption
    | ((with_reducible refine Sub.of hk ?_); rfl)
    | with_reducible refine keep_mapRequest ?_ ?_
    | with_reducible refine Keeps.branch ?_ ?_

theorem keep_doTread {k : Nat} {a : State} {tag : Nat} {spage : Nat} {line : Nat} {s : State}
    (hk : Sub 28671737986 k) (h : Keeps k a s) : Keeps k a (doTread tag spage line s) := by
  unfold doTread
  repeat' first
    | with_reducible assumption
    | ((with_reducible refine Sub.of hk ?_); rfl)
    | with_reducible refine keep_pageMsg ?_ ?_
    | with_reducible refine Keeps.branch ?_ ?_

theorem keep_doDepart {k : Nat} {a : State} {tag : Nat} {cause : Nat} {s : State}
    (hk : Sub 33000268162 k) (h : Keeps k a s) : Keeps k a (doDepart tag cause s) := by
  unfold doDepart
  repeat' first
    | with_reducible assumption
    | ((with_reducible refine Sub.of hk ?_); rfl)
    | with_reducible refine keep_twinLost ?_ ?_
    | with_reducible refine Keeps.branch ?_ ?_

theorem keep_doStateSpandone {k : Nat} {a : State} {tag : Nat} {pgen : Nat} {s : State}
    (hk : Sub 27920957826 k) (h : Keeps k a s) : Keeps k a (doStateSpandone tag pgen s) := by
  unfold doStateSpandone
  repeat' first
    | with_reducible assumption
    | ((with_reducible refine Sub.of hk ?_); rfl)
    | with_reducible refine keep_enterSpan ?_ ?_
    | with_reducible refine Keeps.branch ?_ ?_

theorem keep_moveIn {k : Nat} {a : State} {s : State} {tag : Nat} {e : Nat} {kind : Nat} {pages : Nat}
    (hk : Sub 28595191938 k) (h : Keeps k a s) : Keeps k a (moveIn s tag e kind pages) := by
  unfold moveIn
  extract_lets +onlyGivenNames w s'
  have hs : Keeps k a s' := by
    unfold s'
    split
    · exact Keeps.twn (hk.bits 31 rfl) h
    · exact h
  clear_value s'
  split
  · split
    · exact keep_checkMove (hk.of rfl) (keep_demote (hk.of rfl) hs)
    · exact keep_twinSend (hk.of rfl) hs
  · extract_lets +onlyGivenNames u
    have hu : Keeps k a u := by
      unfold u
      split
      · exact Keeps.foldl (fun y n hy => keep_takeOut (hk.of rfl) hy) hs
      · exact hs
    clear_value u
    dsimp only
    split
    · exact keep_unparkExtent (hk.of rfl) (keep_twinSend (hk.of rfl) hu)
    · rename_i q t e'
      have ht : Keeps k a t := by
        split at e'
        · exact Option.some.inj e' ▸ hu
        · obtain ⟨g, -, rfl⟩ := Option.map_eq_some_iff.mp e'
          exact keep_takeGroup (hk.of rfl) hu
      exact keep_checkMove (hk.of rfl) (keep_promote (hk.of rfl) (keep_quotaRunAll (hk.of rfl) ht))

theorem keep_doMoveMsg {k : Nat} {a : State} {tag : Nat} {extent : Nat} {kind : Nat} {pages : Nat} {s : State}
    (hk : Sub 28671737986 k) (h : Keeps k a s) : Keeps k a (doMoveMsg tag extent kind pages s) := by
  unfold doMoveMsg
  repeat' first
    | with_reducible assumption
    | ((with_reducible refine Sub.of hk ?_); rfl)
    | with_reducible refine keep_retryHeld ?_ ?_
    | with_reducible refine keep_moveIn ?_ ?_
    | with_reducible refine Keeps.branch ?_ ?_

theorem keep_mapDone {k : Nat} {a : State} {s : State} {tag : Nat} {result : Nat} {index : Nat} {rkey : Nat}
    (hk : Sub 27917287680 k) (h : Keeps k a s) : Keeps k a (mapDone s tag result index rkey) := by
  unfold mapDone
  repeat' first
    | with_reducible assumption
    | ((with_reducible refine Sub.of hk ?_); rfl)
    | with_reducible refine keep_regDone ?_ ?_
    | with_reducible refine keep_twinSend ?_ ?_
    | with_reducible refine keep_cmdFail ?_ ?_
    | with_reducible refine keep_cmdDone ?_ ?_
    | split
    | (refine Keeps.twn (hk.bits 31 rfl) ?_; with_reducible assumption)

theorem keep_doMapopDone {k : Nat} {a : State} {tag : Nat} {result : Nat} {index : Nat} {rkey : Nat} {s : State}
    (hk : Sub 27917287680 k) (h : Keeps k a s) : Keeps k a (doMapopDone tag result index rkey s) := by
  unfold doMapopDone
  repeat' first
    | with_reducible assumption
    | ((with_reducible refine Sub.of hk ?_); rfl)
    | with_reducible refine keep_mapDone ?_ ?_
    | with_reducible refine Keeps.branch ?_ ?_

theorem keep_doPagepull {k : Nat} {a : State} {tag : Nat} {spage : Nat} {s : State}
    (hk : Sub 28059369858 k) (h : Keeps k a s) : Keeps k a (doPagepull tag spage s) := by
  unfold doPagepull
  repeat' first
    | with_reducible assumption
    | ((with_reducible refine Sub.of hk ?_); rfl)
    | with_reducible refine keep_sendResync ?_ ?_
    | with_reducible refine keep_reconStep ?_ ?_
    | with_reducible refine keep_raise ?_ ?_
    | with_reducible refine keep_arbitrated ?_ ?_
    | with_reducible refine Keeps.branch ?_ ?_

theorem keep_doHelloAnswer {k : Nat} {a : State} {tag : Nat} {decision : Nat} {reason : Nat} {level : Nat} {pairId : Nat} {pgen : Nat} {s : State}
    (hk : Sub 29565124994 k) (h : Keeps k a s) : Keeps k a (doHelloAnswer tag decision reason level pairId pgen s) := by
  unfold doHelloAnswer
  repeat' first
    | with_reducible assumption
    | ((with_reducible refine Sub.of hk ?_); rfl)
    | with_reducible refine keep_actOn ?_ ?_
    | split

theorem keep_doReconEnd {k : Nat} {a : State} {tag : Nat} {x : Nat} {round : Nat} {s : State}
    (hk : Sub 28059369858 k) (h : Keeps k a s) : Keeps k a (doReconEnd tag x round s) := by
  unfold doReconEnd
  repeat' first
    | with_reducible assumption
    | ((with_reducible refine Sub.of hk ?_); rfl)
    | with_reducible refine keep_reconStep ?_ ?_
    | with_reducible refine keep_withTag ?_ ?_
    | with_reducible refine Keeps.branch ?_ ?_
    | (refine Keeps.twn (hk.bits 31 rfl) ?_; first | with_reducible assumption | with_reducible refine keep_reconStep ?_ ?_ | with_reducible refine keep_withTag ?_ ?_)

theorem keep_moveReqIn {k : Nat} {a : State} {s : State} {e : Nat} {kind : Nat} {pages : Nat}
    (hk : Sub 28058321026 k) (h : Keeps k a s) : Keeps k a (moveReqIn s e kind pages) := by
  unfold moveReqIn
  repeat' first
    | with_reducible assumption
    | ((with_reducible refine Sub.of hk ?_); rfl)
    | with_reducible refine keep_checkMove ?_ ?_
    | with_reducible refine keep_chargeEmptied ?_ ?_
    | with_reducible refine keep_setCharge ?_ ?_
    | with_reducible refine keep_promote ?_ ?_
    | with_reducible refine keep_needGroup ?_ ?_
    | with_reducible refine Keeps.branch ?_ ?_

theorem keep_doMovereq {k : Nat} {a : State} {tag : Nat} {extent : Nat} {kind : Nat} {pages : Nat} {s : State}
    (hk : Sub 28058321026 k) (h : Keeps k a s) : Keeps k a (doMovereq tag extent kind pages s) := by
  unfold doMovereq
  repeat' first
    | with_reducible assumption
    | ((with_reducible refine Sub.of hk ?_); rfl)
    | with_reducible refine keep_moveReqIn ?_ ?_
    | with_reducible refine Keeps.branch ?_ ?_

theorem keep_doForwardMsg {k : Nat} {a : State} {tag : Nat} {spage : Nat} {off : Nat} {data : List Nat} {s : State}
    (hk : Sub 28671737986 k) (h : Keeps k a s) : Keeps k a (doForwardMsg tag spage off data s) := by
  unfold doForwardMsg
  repeat' first
    | with_reducible assumption
    | ((with_reducible refine Sub.of hk ?_); rfl)
    | with_reducible refine keep_pageMsg ?_ ?_
    | with_reducible refine Keeps.branch ?_ ?_

theorem keep_doOrderedMsg {k : Nat} {a : State} {tag : Nat} {epoch : Nat} {spage : Nat} {result : Nat} {atomic : Option (Nat × Nat)} {s : State}
    (hk : Sub 28671737986 k) (h : Keeps k a s) : Keeps k a (doOrderedMsg tag epoch spage result atomic s) := by
  unfold doOrderedMsg
  repeat' first
    | with_reducible assumption
    | ((with_reducible refine Sub.of hk ?_); rfl)
    | with_reducible refine keep_pageMsg ?_ ?_
    | with_reducible refine Keeps.branch ?_ ?_

theorem keep_doStateSpanok {k : Nat} {a : State} {tag : Nat} {pgen : Nat} {s : State}
    (hk : Sub 27920957826 k) (h : Keeps k a s) : Keeps k a (doStateSpanok tag pgen s) := by
  unfold doStateSpanok
  repeat' first
    | with_reducible assumption
    | ((with_reducible refine Sub.of hk ?_); rfl)
    | with_reducible refine keep_spanFinish ?_ ?_
    | with_reducible refine Keeps.branch ?_ ?_
    | (refine Keeps.twn (hk.bits 31 rfl) ?_; with_reducible assumption)

theorem keep_doReconMsg {k : Nat} {a : State} {tag : Nat} {epoch : Nat} {spage : Nat} {round : Nat} {check : Nat} {s : State}
    (hk : Sub 27917287424 k) (h : Keeps k a s) : Keeps k a (doReconMsg tag epoch spage round check s) := by
  unfold doReconMsg
  repeat' first
    | with_reducible assumption
    | ((with_reducible refine Sub.of hk ?_); rfl)
    | (extract_lets +onlyGivenNames t
       first
       | (refine Keeps.have_ (k := k) (a := a) (t := t) ?_ ?_; unfold t; clear t; rotate_left; intro _; clear_value t; revert t; intros)
       | (clear_value t; revert t; intros))
    | with_reducible refine keep_withTag ?_ ?_
    | with_reducible refine Keeps.branch ?_ ?_
    | (refine Keeps.twn (hk.bits 31 rfl) ?_; with_reducible assumption)

theorem keep_doFwdAtomic {k : Nat} {a : State} {tag : Nat} {spage : Nat} {line : Nat} {word : Nat} {fadd : Bool} {arg : Nat} {swap : Nat} {s : State}
    (hk : Sub 28671737986 k) (h : Keeps k a s) : Keeps k a (doFwdAtomic tag spage line word fadd arg swap s) := by
  unfold doFwdAtomic
  repeat' first
    | with_reducible assumption
    | ((with_reducible refine Sub.of hk ?_); rfl)
    | with_reducible refine keep_pageMsg ?_ ?_
    | with_reducible refine Keeps.branch ?_ ?_

theorem keep_doDictRsp {k : Nat} {a : State} {tag : Nat} {frame : List Nat} {s : State}
    (hk : Sub 256 k) (h : Keeps k a s) : Keeps k a (doDictRsp tag frame s) := by
  unfold doDictRsp
  repeat' first
    | with_reducible assumption
    | ((with_reducible refine Sub.of hk ?_); rfl)
    | with_reducible refine Keeps.branch ?_ ?_
    | (refine Keeps.dic (hk.bits 8 rfl) ?_; first | with_reducible assumption)

theorem keep_doResyncPage {k : Nat} {a : State} {tag : Nat} {epoch : Nat} {spage : Nat} {zero : Bool} {fence : Bool} {poison : Nat} {data : List Nat} {s : State}
    (hk : Sub 28671738242 k) (h : Keeps k a s) : Keeps k a (doResyncPage tag epoch spage zero fence poison data s) := by
  unfold doResyncPage
  repeat' first
    | with_reducible assumption
    | ((with_reducible refine Sub.of hk ?_); rfl)
    | with_reducible refine keep_reconStep ?_ ?_
    | with_reducible refine keep_pageMsg ?_ ?_
    | with_reducible refine Keeps.branch ?_ ?_

theorem keep_doHelloMsg {k : Nat} {a : State} {tag : Nat} {h' : Hello} {s : State}
    (hk : Sub 33860100482 k) (h : Keeps k a s) : Keeps k a (doHelloMsg tag h' s) := by
  unfold doHelloMsg
  repeat' first
    | with_reducible assumption
    | ((with_reducible refine Sub.of hk ?_); rfl)
    | with_reducible refine keep_pairRefused ?_ ?_
    | with_reducible refine keep_actOn ?_ ?_
    | with_reducible refine keep_twinSend ?_ ?_
    | with_reducible refine keep_drawPair ?_ ?_
    | with_reducible refine Keeps.branch ?_ ?_
    | (refine Keeps.twn (hk.bits 31 rfl) ?_; with_reducible assumption)

theorem keep_doStateReady {k : Nat} {a : State} {tag : Nat} {pgen : Nat} {s : State}
    (hk : Sub 25773473922 k) (h : Keeps k a s) : Keeps k a (doStateReady tag pgen s) := by
  unfold doStateReady
  repeat' first
    | with_reducible assumption
    | ((with_reducible refine Sub.of hk ?_); rfl)
    | with_reducible refine keep_setTState ?_ ?_
    | with_reducible refine Keeps.branch ?_ ?_

theorem keep_treadDataIn {k : Nat} {a : State} {s : State} {ep : Nat} {p : Nat} {n : Nat} {data : List Nat}
    (hk : Sub 28671737986 k) (h : Keeps k a s) : Keeps k a (treadDataIn s ep p n data) := by
  unfold treadDataIn
  repeat' first
    | with_reducible assumption
    | ((with_reducible refine Sub.of hk ?_); rfl)
    | with_reducible refine keep_lineSound ?_ ?_
    | with_reducible refine keep_dWrite ?_ ?_
    | with_reducible refine keep_fillInstall ?_ ?_
    | with_reducible refine keep_retryHeld ?_ ?_
    | with_reducible refine keep_unfetch ?_ ?_
    | with_reducible refine keep_State_bump ?_ ?_
    | with_reducible refine keep_raise ?_ ?_
    | with_reducible refine Keeps.branch ?_ ?_
    | split
    | (refine Keeps.twn (hk.bits 31 rfl) ?_; first | with_reducible assumption | with_reducible refine keep_lineSound ?_ ?_ | with_reducible refine keep_dWrite ?_ ?_ | with_reducible refine keep_fillInstall ?_ ?_ | with_reducible refine keep_retryHeld ?_ ?_ | with_reducible refine keep_unfetch ?_ ?_ | with_reducible refine keep_State_bump ?_ ?_ | with_reducible refine keep_raise ?_ ?_)

theorem keep_doTreadData {k : Nat} {a : State} {tag : Nat} {epoch : Nat} {spage : Nat} {line : Nat} {data : List Nat} {s : State}
    (hk : Sub 28671737986 k) (h : Keeps k a s) : Keeps k a (doTreadData tag epoch spage line data s) := by
  unfold doTreadData
  repeat' first
    | with_reducible assumption
    | ((with_reducible refine Sub.of hk ?_); rfl)
    | with_reducible refine keep_treadDataIn ?_ ?_
    | with_reducible refine Keeps.branch ?_ ?_

theorem keep_extentApply {k : Nat} {a : State} {s : State} {e : Nat} {w : Nat}
    (hk : Sub 25978994818 k) (h : Keeps k a s) : Keeps k a (extentApply s e w) := by
  unfold extentApply
  repeat' first
    | with_reducible assumption
    | ((with_reducible refine Sub.of hk ?_); rfl)
    | with_reducible refine keep_deallocExtent ?_ ?_
    | with_reducible refine keep_modExtent ?_ ?_
    | with_reducible refine Keeps.branch ?_ ?_

theorem keep_doMapopExtentSet {k : Nat} {a : State} {tag : Nat} {extent : Nat} {words : List Nat} {s : State}
    (hk : Sub 28126478466 k) (h : Keeps k a s) : Keeps k a (doMapopExtentSet tag extent words s) := by
  unfold doMapopExtentSet
  repeat' first
    | with_reducible assumption
    | ((with_reducible refine Sub.of hk ?_); rfl)
    | with_reducible refine keep_extentApply ?_ ?_
    | with_reducible refine keep_twinSend ?_ ?_
    | with_reducible refine Keeps.branch ?_ ?_

theorem keep_doPendlist {k : Nat} {a : State} {tag : Nat} {last : Bool} {pages : List Nat} {s : State}
    (hk : Sub 33000268162 k) (h : Keeps k a s) : Keeps k a (doPendlist tag last pages s) := by
  unfold doPendlist
  repeat' first
    | with_reducible assumption
    | ((with_reducible refine Sub.of hk ?_); rfl)
    | with_reducible refine keep_catchupMerge ?_ ?_
    | with_reducible refine keep_twinLost ?_ ?_
    | with_reducible refine Keeps.branch ?_ ?_
    | (refine Keeps.twn (hk.bits 31 rfl) ?_; with_reducible assumption)

theorem keep_consume {k : Nat} {a : State} {s : State} {m : List Nat}
    (hk : Sub 68719476731 k) (h : Keeps k a s) : Keeps k a (consume s m) := by
  unfold consume
  repeat' first
    | with_reducible assumption
    | ((with_reducible refine Sub.of hk ?_); rfl)
    | (extract_lets +onlyGivenNames t
       first
       | (refine Keeps.have_ (k := k) (a := a) (t := t) ?_ ?_; unfold t; clear t; rotate_left; intro _; clear_value t; revert t; intros)
       | (clear_value t; revert t; intros))
    | with_reducible refine keep_doDict ?_ ?_
    | with_reducible refine keep_doMirrorMsg ?_ ?_
    | with_reducible refine keep_doMapopRegionSet ?_ ?_
    | with_reducible refine keep_doMapopDealloc ?_ ?_
    | with_reducible refine keep_doTreadFail ?_ ?_
    | with_reducible refine keep_doMapopDeregreq ?_ ?_
    | with_reducible refine keep_doPlacedMsg ?_ ?_
    | with_reducible refine keep_doMoveDone ?_ ?_
    | with_reducible refine keep_doStateSpanreq ?_ ?_
    | with_reducible refine keep_doMapopRegreq ?_ ?_
    | with_reducible refine keep_doTread ?_ ?_
    | with_reducible refine keep_doDepart ?_ ?_
    | with_reducible refine keep_doStateSpandone ?_ ?_
    | with_reducible refine keep_doMoveMsg ?_ ?_
    | with_reducible refine keep_doMapopDone ?_ ?_
    | with_reducible refine keep_doPagepull ?_ ?_
    | with_reducible refine keep_doHelloAnswer ?_ ?_
    | with_reducible refine keep_doReconEnd ?_ ?_
    | with_reducible refine keep_doMovereq ?_ ?_
    | with_reducible refine keep_doForwardMsg ?_ ?_
    | with_reducible refine keep_doOrderedMsg ?_ ?_
    | with_reducible refine keep_doStateSpanok ?_ ?_
    | with_reducible refine keep_doReconMsg ?_ ?_
    | with_reducible refine keep_doFwdAtomic ?_ ?_
    | with_reducible refine keep_doDictRsp ?_ ?_
    | with_reducible refine keep_doResyncPage ?_ ?_
    | with_reducible refine keep_doHelloMsg ?_ ?_
    | with_reducible refine keep_doStateReady ?_ ?_
    | with_reducible refine keep_doTreadData ?_ ?_
    | with_reducible refine keep_doMapopExtentSet ?_ ?_
    | with_reducible refine keep_doPendlist ?_ ?_
    | split

theorem keep_consumeSlots {k : Nat} {a : State} {x : Nat} {x' : State} {x'' : List Nat}
    (hk : Sub 68719476731 k) (h : Keeps k a x') : Keeps k a (consumeSlots x x' x'') := by
  induction x generalizing x' x'' with
  | zero => exact Keeps.twn (hk.bits 31 rfl) h
  | succ n ih =>
    unfold consumeSlots
    split
    · exact Keeps.twn (hk.bits 31 rfl) h
    · split
      · exact ih h
      · dsimp only
        split
        · exact Keeps.twn (hk.bits 31 rfl) h
        · apply ih
          split
          · split
            · exact keep_consume (hk.of rfl) h
            · exact keep_freeSlots (hk.of rfl) (keep_consume (hk.of rfl) h)
          · exact keep_freeSlots (hk.of rfl) (keep_raise (hk.of rfl) h)

theorem keep_tierDWrite {k : Nat} {a : State} {s : State} {core : Nat} {addr : Nat} {v : Nat}
    (hk : Sub 25782386818 k) (h : Keeps k a s) : Keeps k a (tierDWrite s core addr v) := by
  unfold tierDWrite
  repeat' first
    | with_reducible assumption
    | ((with_reducible refine Sub.of hk ?_); rfl)
    | with_reducible refine keep_dWrite ?_ ?_
    | with_reducible refine keep_fault ?_ ?_
    | with_reducible refine keep_raise ?_ ?_
    | with_reducible refine Keeps.branch ?_ ?_

theorem keep_tackWrite {k : Nat} {a : State} {s : State} {addr : Nat} {v : Nat}
    (hk : Sub 64 k) (h : Keeps k a s) : Keeps k a (tackWrite s addr v) := by
  unfold tackWrite
  repeat' first
    | with_reducible assumption
    | ((with_reducible refine Sub.of hk ?_); rfl)
    | with_reducible refine keep_setTackWord ?_ ?_
    | with_reducible refine keep_setBkp ?_ ?_
    | with_reducible refine Keeps.branch ?_ ?_

theorem keep_showTimers {k : Nat} {a : State} {s : State}
    (hk : Sub 2048 k) (h : Keeps k a s) : Keeps k a (showTimers s) := by
  unfold showTimers
  repeat' first
    | with_reducible assumption
    | ((with_reducible refine Sub.of hk ?_); rfl)
    | (refine Keeps.cpx (hk.bits 11 rfl) ?_; first | with_reducible assumption)

theorem keep_timerWrite {k : Nat} {a : State} {s : State} {off : Nat} {v : Nat}
    (hk : Sub 2048 k) (h : Keeps k a s) : Keeps k a (timerWrite s off v) := by
  unfold timerWrite
  repeat' first
    | with_reducible assumption
    | ((with_reducible refine Sub.of hk ?_); rfl)
    | with_reducible refine keep_showTimers ?_ ?_
    | with_reducible refine Keeps.branch ?_ ?_
    | (refine Keeps.cpx (hk.bits 11 rfl) ?_; with_reducible assumption)

theorem keep_windowWrite {k : Nat} {a : State} {s : State} {core : Nat} {addr : Nat} {v : Nat}
    (hk : Sub 68719476731 k) (h : Keeps k a s) : Keeps k a (windowWrite s core addr v) := by
  unfold windowWrite
  repeat' first
    | with_reducible assumption
    | ((with_reducible refine Sub.of hk ?_); rfl)
    | with_reducible refine keep_fault ?_ ?_
    | with_reducible refine keep_blockWrite ?_ ?_
    | with_reducible refine keep_raise ?_ ?_
    | with_reducible refine Keeps.branch ?_ ?_

theorem keep_plicWrite {k : Nat} {a : State} {s : State} {off : Nat} {v : Nat}
    (hk : Sub 2048 k) (h : Keeps k a s) : Keeps k a (plicWrite s off v) := by
  unfold plicWrite
  repeat' first
    | with_reducible assumption
    | ((with_reducible refine Sub.of hk ?_); rfl)
    | with_reducible refine Keeps.branch ?_ ?_
    | (refine Keeps.cpx (hk.bits 11 rfl) ?_; first | with_reducible assumption)

theorem keep_coreWrite {k : Nat} {a : State} {s : State} {core : Nat} {addr : Nat} {v : Nat}
    (hk : Sub 68719476731 k) (h : Keeps k a s) : Keeps k a (coreWrite s core addr v) := by
  unfold coreWrite
  repeat' first
    | with_reducible assumption
    | ((with_reducible refine Sub.of hk ?_); rfl)
    | with_reducible refine keep_tierDWrite ?_ ?_
    | with_reducible refine keep_fault ?_ ?_
    | with_reducible refine keep_aliasWrite ?_ ?_
    | with_reducible refine keep_tackWrite ?_ ?_
    | with_reducible refine keep_timerWrite ?_ ?_
    | with_reducible refine keep_raise ?_ ?_
    | with_reducible refine keep_setSram ?_ ?_
    | with_reducible refine keep_windowWrite ?_ ?_
    | with_reducible refine keep_plicWrite ?_ ?_
    | with_reducible refine Keeps.branch ?_ ?_

theorem keep_corrected {k : Nat} {a : State} {s : State} {c : Nat} {b : Burst} {e : LineErr} {groom : Bool}
    (hk : Sub 25794969730 k) (h : Keeps k a s) : Keeps k a (corrected s c b e groom) := by
  unfold corrected
  repeat' first
    | with_reducible assumption
    | ((with_reducible refine Sub.of hk ?_); rfl)
    | with_reducible refine keep_setDrc ?_ ?_
    | with_reducible refine keep_autoMark ?_ ?_
    | with_reducible refine keep_State_bump ?_ ?_
    | with_reducible refine keep_raise ?_ ?_
    | with_reducible refine Keeps.branch ?_ ?_
    | split
    | (refine Keeps.grm (hk.bits 24 rfl) ?_; first | with_reducible assumption | with_reducible refine keep_setDrc ?_ ?_ | with_reducible refine keep_autoMark ?_ ?_ | with_reducible refine keep_State_bump ?_ ?_ | with_reducible refine keep_raise ?_ ?_)

theorem keep_releaseTx {k : Nat} {a : State} {s : State}
    (hk : Sub 27917287424 k) (h : Keeps k a s) : Keeps k a (releaseTx s) := by
  unfold releaseTx
  repeat' first
    | with_reducible assumption
    | ((with_reducible refine Sub.of hk ?_); rfl)
    | intro _
    | (extract_lets +onlyGivenNames t
       first
       | (refine Keeps.have_ (k := k) (a := a) (t := t) ?_ ?_; unfold t; clear t; rotate_left; intro _; clear_value t; revert t; intros)
       | (clear_value t; revert t; intros)
       | (unfold t; clear t))
    | with_reducible refine keep_twinSend ?_ ?_
    | (with_reducible refine Keeps.foldl ?_ ?_)
    | (with_reducible refine Keeps.foldl_fst ?_ ?_)
    | (refine Keeps.twn (hk.bits 31 rfl) ?_; first | with_reducible assumption | with_reducible refine keep_twinSend ?_ ?_)

theorem keep_creditsIn {k : Nat} {a : State} {s : State} {vc : Nat} {n : Nat}
    (hk : Sub 27917287424 k) (h : Keeps k a s) : Keeps k a (creditsIn s vc n) := by
  unfold creditsIn
  repeat' first
    | with_reducible assumption
    | ((with_reducible refine Sub.of hk ?_); rfl)
    | with_reducible refine keep_releaseTx ?_ ?_
    | (refine Keeps.twn (hk.bits 31 rfl) ?_; with_reducible assumption)

theorem keep_deriveSave {k : Nat} {a : State} {s : State} {sealseq : Nat}
    (hk : Sub 17179877376 k) (h : Keeps k a s) : Keeps k a (deriveSave s sealseq) := by
  unfold deriveSave
  repeat' first
    | with_reducible assumption
    | ((with_reducible refine Sub.of hk ?_); rfl)
    | with_reducible refine keep_deriveSlot ?_ ?_

theorem keep_dispatch {k : Nat} {a : State} {s : State} {jseq : Nat} {j : Nat} {n : Nat} {slot : Nat}
    (hk : Sub 29946806402 k) (h : Keeps k a s) : Keeps k a (dispatch s jseq j n slot) := by
  unfold dispatch
  repeat' first
    | with_reducible assumption
    | ((with_reducible refine Sub.of hk ?_); rfl)
    | with_reducible refine keep_failJob ?_ ?_
    | with_reducible refine keep_writeLine ?_ ?_
    | with_reducible refine Keeps.branch ?_ ?_
    | (refine Keeps.mst (hk.bits 28 rfl) ?_; with_reducible assumption)

theorem keep_doAckCoalesceDelay {k : Nat} {a : State} {i : Nat} {s : State}
    (hk : Sub 27380416512 k) (h : Keeps k a s) : Keeps k a (doAckCoalesceDelay i s) := by
  unfold doAckCoalesceDelay
  repeat' first
    | with_reducible assumption
    | ((with_reducible refine Sub.of hk ?_); rfl)
    | with_reducible refine keep_sendAck ?_ ?_
    | with_reducible refine Keeps.branch ?_ ?_

theorem keep_doAdmit {k : Nat} {a : State} {id : Nat} {s : State}
    (hk : Sub 27380416642 k) (h : Keeps k a s) : Keeps k a (doAdmit id s) := by
  unfold doAdmit
  repeat' first
    | with_reducible assumption
    | ((with_reducible refine Sub.of hk ?_); rfl)
    | with_reducible refine keep_sendCnp ?_ ?_
    | with_reducible refine keep_setReq ?_ ?_
    | with_reducible refine keep_admitPass ?_ ?_
    | with_reducible refine keep_State_bump ?_ ?_
    | with_reducible refine keep_admitPressure ?_ ?_
    | split

theorem keep_kindFrame {k : Nat} {a : State} {k' : Nat} {s : State} {path : Nat} {src : Nat} {f : List Nat}
    (hk : Sub 68719476731 k) (h : Keeps k a s) : Keeps k a (kindFrame k' s path src f) := by
  unfold kindFrame
  repeat' first
    | with_reducible assumption
    | ((with_reducible refine Sub.of hk ?_); rfl)
    | with_reducible refine keep_frameIn ?_ ?_
    | with_reducible refine Keeps.branch ?_ ?_

theorem keep_doAidricClose {k : Nat} {a : State} {path : Fin 4} {src : Nat} {frame : List Nat} {s : State}
    (hk : Sub 68719476731 k) (h : Keeps k a s) : Keeps k a (doAidricClose path src frame s) := by
  unfold doAidricClose
  repeat' first
    | with_reducible assumption
    | ((with_reducible refine Sub.of hk ?_); rfl)
    | with_reducible refine keep_kindFrame ?_ ?_

theorem keep_doAidricKeepalive {k : Nat} {a : State} {path : Fin 4} {src : Nat} {frame : List Nat} {s : State}
    (hk : Sub 68719476731 k) (h : Keeps k a s) : Keeps k a (doAidricKeepalive path src frame s) := by
  unfold doAidricKeepalive
  repeat' first
    | with_reducible assumption
    | ((with_reducible refine Sub.of hk ?_); rfl)
    | with_reducible refine keep_kindFrame ?_ ?_

theorem keep_doAidricOpen {k : Nat} {a : State} {path : Fin 4} {src : Nat} {frame : List Nat} {s : State}
    (hk : Sub 68719476731 k) (h : Keeps k a s) : Keeps k a (doAidricOpen path src frame s) := by
  unfold doAidricOpen
  repeat' first
    | with_reducible assumption
    | ((with_reducible refine Sub.of hk ?_); rfl)
    | with_reducible refine keep_kindFrame ?_ ?_

theorem keep_doAidricProve {k : Nat} {a : State} {path : Fin 4} {src : Nat} {frame : List Nat} {s : State}
    (hk : Sub 68719476731 k) (h : Keeps k a s) : Keeps k a (doAidricProve path src frame s) := by
  unfold doAidricProve
  repeat' first
    | with_reducible assumption
    | ((with_reducible refine Sub.of hk ?_); rfl)
    | with_reducible refine keep_kindFrame ?_ ?_

theorem keep_doAidricRead {k : Nat} {a : State} {path : Fin 4} {src : Nat} {frame : List Nat} {s : State}
    (hk : Sub 68719476731 k) (h : Keeps k a s) : Keeps k a (doAidricRead path src frame s) := by
  unfold doAidricRead
  repeat' first
    | with_reducible assumption
    | ((with_reducible refine Sub.of hk ?_); rfl)
    | with_reducible refine keep_kindFrame ?_ ?_

theorem keep_doAidricWrite {k : Nat} {a : State} {path : Fin 4} {src : Nat} {frame : List Nat} {s : State}
    (hk : Sub 68719476731 k) (h : Keeps k a s) : Keeps k a (doAidricWrite path src frame s) := by
  unfold doAidricWrite
  repeat' first
    | with_reducible assumption
    | ((with_reducible refine Sub.of hk ?_); rfl)
    | with_reducible refine keep_kindFrame ?_ ?_

theorem keep_doAliveWrite {k : Nat} {a : State} {s : State}
    (hk : Sub 32421456322 k) (h : Keeps k a s) : Keeps k a (doAliveWrite s) := by
  unfold doAliveWrite
  repeat' first
    | with_reducible assumption
    | ((with_reducible refine Sub.of hk ?_); rfl)
    | (extract_lets +onlyGivenNames t
       first
       | (refine Keeps.have_ (k := k) (a := a) (t := t) ?_ ?_; unfold t; clear t; rotate_left; intro _; clear_value t; revert t; intros)
       | (clear_value t; revert t; intros)
       | (unfold t; clear t))
    | with_reducible refine keep_alive ?_ ?_
    | with_reducible refine Keeps.branch ?_ ?_
    | split

theorem keep_doAnswer {k : Nat} {a : State} {i : Nat} {s : State}
    (hk : Sub 27382513794 k) (h : Keeps k a s) : Keeps k a (doAnswer i s) := by
  unfold doAnswer
  repeat' first
    | with_reducible assumption
    | ((with_reducible refine Sub.of hk ?_); rfl)
    | with_reducible refine keep_answerRun ?_ ?_
    | with_reducible refine keep_answerDups ?_ ?_

theorem keep_doBitAliasWrite {k : Nat} {a : State} {core : Fin 4} {block : Fin 128} {off : Fin 4096} {b : Fin 8} {v : Bool} {s : State}
    (hk : Sub 68719476731 k) (h : Keeps k a s) : Keeps k a (doBitAliasWrite core block off b v s) := by
  unfold doBitAliasWrite
  repeat' first
    | with_reducible assumption
    | ((with_reducible refine Sub.of hk ?_); rfl)
    | with_reducible refine keep_aliasWrite ?_ ?_
    | with_reducible refine Keeps.branch ?_ ?_

theorem keep_doBlockGoWrite {k : Nat} {a : State} {block : Fin 58} {go : Bool} {s : State}
    (hk : Sub 27129020810 k) (h : Keeps k a s) : Keeps k a (doBlockGoWrite block go s) := by
  unfold doBlockGoWrite
  repeat' first
    | with_reducible assumption
    | ((with_reducible refine Sub.of hk ?_); rfl)
    | with_reducible refine keep_goWrite ?_ ?_
    | with_reducible refine Keeps.branch ?_ ?_

theorem keep_doBlockSnapshot {k : Nat} {a : State} {block : Fin 58} {s : State}
    (hk : Sub 17179869186 k) (h : Keeps k a s) : Keeps k a (doBlockSnapshot block s) := by
  unfold doBlockSnapshot
  repeat' first
    | with_reducible assumption
    | ((with_reducible refine Sub.of hk ?_); rfl)
    | with_reducible refine keep_snapBlock ?_ ?_
    | with_reducible refine Keeps.branch ?_ ?_

theorem keep_doBrownOut {k : Nat} {a : State} {rail : Option (Fin 24)} {reading : Nat} {s : State}
    (hk : Sub 64424509435 k) (h : Keeps k a s) : Keeps k a (doBrownOut rail reading s) := by
  unfold doBrownOut
  repeat' first
    | with_reducible assumption
    | ((with_reducible refine Sub.of hk ?_); rfl)
    | with_reducible refine keep_brownOutStart ?_ ?_
    | with_reducible refine keep_State_wr ?_ ?_
    | split
    | (refine Keeps.pwr (hk.bits 4 rfl) ?_; with_reducible assumption)

theorem keep_doCalRunCommit {k : Nat} {a : State} {s : State}
    (hk : Sub 25870532994 k) (h : Keeps k a s) : Keeps k a (doCalRunCommit s) := by
  unfold doCalRunCommit
  repeat' first
    | with_reducible assumption
    | ((with_reducible refine Sub.of hk ?_); rfl)
    | intro _
    | (extract_lets +onlyGivenNames t
       first
       | (refine Keeps.have_ (k := k) (a := a) (t := t) ?_ ?_; unfold t; clear t; rotate_left; intro _; clear_value t; revert t; intros)
       | (clear_value t; revert t; intros)
       | (unfold t; clear t))
    | with_reducible refine keep_farDrop ?_ ?_
    | with_reducible refine keep_calDrc ?_ ?_
    | with_reducible refine keep_calStore ?_ ?_
    | with_reducible refine keep_calRest ?_ ?_
    | with_reducible refine keep_raise ?_ ?_
    | with_reducible refine keep_cmdDone ?_ ?_
    | with_reducible refine keep_State_wr ?_ ?_
    | (with_reducible refine Keeps.foldl ?_ ?_)
    | (with_reducible refine Keeps.foldl_fst ?_ ?_)
    | with_reducible refine Keeps.branch ?_ ?_
    | split
    | (refine Keeps.cal (hk.bits 16 rfl) ?_; first | with_reducible assumption | with_reducible refine keep_farDrop ?_ ?_ | with_reducible refine keep_calDrc ?_ ?_ | with_reducible refine keep_calStore ?_ ?_ | with_reducible refine keep_calRest ?_ ?_ | with_reducible refine keep_raise ?_ ?_ | with_reducible refine keep_cmdDone ?_ ?_ | with_reducible refine keep_State_wr ?_ ?_)

theorem keep_doCalRunStart {k : Nat} {a : State} {trained : Bool} {s : State}
    (hk : Sub 33619970 k) (h : Keeps k a s) : Keeps k a (doCalRunStart trained s) := by
  unfold doCalRunStart
  repeat' first
    | with_reducible assumption
    | ((with_reducible refine Sub.of hk ?_); rfl)
    | with_reducible refine keep_calStart ?_ ?_
    | with_reducible refine Keeps.branch ?_ ?_

theorem keep_doCancelStaging {k : Nat} {a : State} {s : State}
    (hk : Sub 20482 k) (h : Keeps k a s) : Keeps k a (doCancelStaging s) := by
  unfold doCancelStaging
  repeat' first
    | with_reducible assumption
    | ((with_reducible refine Sub.of hk ?_); rfl)
    | with_reducible refine keep_State_wr ?_ ?_
    | with_reducible refine keep_cancelStaging ?_ ?_
    | with_reducible refine Keeps.branch ?_ ?_

theorem keep_doCancelStagingCmd {k : Nat} {a : State} {s : State}
    (hk : Sub 20738 k) (h : Keeps k a s) : Keeps k a (doCancelStagingCmd s) := by
  unfold doCancelStagingCmd
  repeat' first
    | with_reducible assumption
    | ((with_reducible refine Sub.of hk ?_); rfl)
    | with_reducible refine keep_cancelCmd ?_ ?_
    | with_reducible refine Keeps.branch ?_ ?_

theorem keep_farRelease {k : Nat} {a : State} {s : State} {owner : Nat} {n : Nat}
    (hk : Sub 33554434 k) (h : Keeps k a s) : Keeps k a (farRelease s owner n) := by
  unfold farRelease
  repeat' first
    | with_reducible assumption
    | ((with_reducible refine Sub.of hk ?_); rfl)
    | with_reducible refine keep_farGrant ?_ ?_
    | with_reducible refine Keeps.branch ?_ ?_
    | (refine Keeps.far (hk.bits 25 rfl) ?_; with_reducible assumption)

theorem keep_showErased {k : Nat} {a : State} {s : State}
    (hk : Sub 2 k) (h : Keeps k a s) : Keeps k a (showErased s) := by
  unfold showErased
  repeat' first
    | with_reducible assumption
    | ((with_reducible refine Sub.of hk ?_); rfl)
    | with_reducible refine keep_State_wr ?_ ?_

theorem keep_govAct {k : Nat} {a : State} {s : State}
    (hk : Sub 27417051547 k) (h : Keeps k a s) : Keeps k a (govAct s) := by
  unfold govAct
  repeat' first
    | with_reducible assumption
    | ((with_reducible refine Sub.of hk ?_); rfl)
    | with_reducible refine keep_raise ?_ ?_
    | with_reducible refine keep_powerDown ?_ ?_
    | with_reducible refine Keeps.branch ?_ ?_

theorem keep_govCompute {k : Nat} {a : State} {s : State}
    (hk : Sub 25770066050 k) (h : Keeps k a s) : Keeps k a (govCompute s) := by
  unfold govCompute
  repeat' first
    | with_reducible assumption
    | ((with_reducible refine Sub.of hk ?_); rfl)
    | with_reducible refine keep_govShow ?_ ?_
    | with_reducible refine keep_govLimit ?_ ?_
    | with_reducible refine keep_raise ?_ ?_
    | with_reducible refine Keeps.branch ?_ ?_
    | (refine Keeps.gov (hk.bits 18 rfl) ?_; with_reducible assumption)

theorem keep_govStep {k : Nat} {a : State} {s : State}
    (hk : Sub 27417051547 k) (h : Keeps k a s) : Keeps k a (govStep s) := by
  unfold govStep
  repeat' first
    | with_reducible assumption
    | ((with_reducible refine Sub.of hk ?_); rfl)
    | with_reducible refine keep_showErased ?_ ?_
    | with_reducible refine keep_govAct ?_ ?_
    | with_reducible refine keep_showGate ?_ ?_
    | with_reducible refine keep_govCompute ?_ ?_

theorem keep_doCapacitanceTestEnd {k : Nat} {a : State} {v0 : Nat} {v1 : Nat} {s : State}
    (hk : Sub 27417051547 k) (h : Keeps k a s) : Keeps k a (doCapacitanceTestEnd v0 v1 s) := by
  unfold doCapacitanceTestEnd
  repeat' first
    | with_reducible assumption
    | ((with_reducible refine Sub.of hk ?_); rfl)
    | with_reducible refine keep_farRelease ?_ ?_
    | with_reducible refine keep_govStep ?_ ?_
    | with_reducible refine keep_State_wr ?_ ?_
    | with_reducible refine keep_State_wbit ?_ ?_
    | with_reducible refine keep_raise ?_ ?_
    | with_reducible refine keep_cmdDone ?_ ?_
    | with_reducible refine Keeps.branch ?_ ?_
    | split
    | (refine Keeps.pwr (hk.bits 4 rfl) ?_; with_reducible assumption)
    | (refine Keeps.gov (hk.bits 18 rfl) ?_; with_reducible assumption)
    | exact Keeps.build 262160 (hk.of rfl) (by assumption) (by rfl) (by rfl) (by exact fun p hp => by cases p <;> first | exact absurd hp (by decide) | rfl) (by exact List.suffix_refl _) (by exact grown_refl _) (by exact id) (by exact id)

theorem keep_doCapacitanceTestStart {k : Nat} {a : State} {m : Fin 8} {s : State}
    (hk : Sub 33816594 k) (h : Keeps k a s) : Keeps k a (doCapacitanceTestStart m s) := by
  unfold doCapacitanceTestStart
  repeat' first
    | with_reducible assumption
    | ((with_reducible refine Sub.of hk ?_); rfl)
    | with_reducible refine keep_testStart ?_ ?_
    | with_reducible refine Keeps.branch ?_ ?_

theorem keep_walkSend {k : Nat} {a : State} {s : State} {p : Nat}
    (hk : Sub 27920957570 k) (h : Keeps k a s) : Keeps k a (walkSend s p) := by
  unfold walkSend
  repeat' first
    | with_reducible assumption
    | ((with_reducible refine Sub.of hk ?_); rfl)
    | (extract_lets +onlyGivenNames t
       first
       | (refine Keeps.have_ (k := k) (a := a) (t := t) ?_ ?_; unfold t; clear t; rotate_left; intro _; clear_value t; revert t; intros)
       | (clear_value t; revert t; intros))
    | with_reducible refine keep_pendFull ?_ ?_
    | with_reducible refine keep_setLog ?_ ?_
    | with_reducible refine keep_sendResync ?_ ?_
    | with_reducible refine Keeps.branch ?_ ?_
    | (refine Keeps.twn (hk.bits 31 rfl) ?_; with_reducible assumption)

theorem keep_doCatchupPageSend {k : Nat} {a : State} {s : State}
    (hk : Sub 27920957570 k) (h : Keeps k a s) : Keeps k a (doCatchupPageSend s) := by
  unfold doCatchupPageSend
  repeat' first
    | with_reducible assumption
    | ((with_reducible refine Sub.of hk ?_); rfl)
    | with_reducible refine keep_walkSend ?_ ?_
    | with_reducible refine keep_showLog ?_ ?_
    | with_reducible refine keep_alignSend ?_ ?_
    | split
    | (refine Keeps.log (hk.bits 20 rfl) ?_; with_reducible assumption)

theorem keep_doCatchupReady {k : Nat} {a : State} {s : State}
    (hk : Sub 27920957570 k) (h : Keeps k a s) : Keeps k a (doCatchupReady s) := by
  unfold doCatchupReady
  repeat' first
    | with_reducible assumption
    | ((with_reducible refine Sub.of hk ?_); rfl)
    | with_reducible refine keep_withTag ?_ ?_
    | with_reducible refine keep_setTState ?_ ?_
    | with_reducible refine keep_raise ?_ ?_
    | with_reducible refine Keeps.branch ?_ ?_

theorem keep_doCfgrefWrite {k : Nat} {a : State} {block : Fin 58} {ref : BitVec 32} {s : State}
    (hk : Sub 2 k) (h : Keeps k a s) : Keeps k a (doCfgrefWrite block ref s) := by
  unfold doCfgrefWrite
  repeat' first
    | with_reducible assumption
    | ((with_reducible refine Sub.of hk ?_); rfl)
    | with_reducible refine keep_State_wr ?_ ?_
    | with_reducible refine Keeps.branch ?_ ?_

theorem keep_doCheckpointDue {k : Nat} {a : State} {s : State}
    (hk : Sub 2048 k) (h : Keeps k a s) : Keeps k a (doCheckpointDue s) := by
  unfold doCheckpointDue
  repeat' first
    | with_reducible assumption
    | ((with_reducible refine Sub.of hk ?_); rfl)
    | with_reducible refine Keeps.branch ?_ ?_
    | (refine Keeps.cpx (hk.bits 11 rfl) ?_; first | with_reducible assumption)

theorem keep_doCheckpointGo {k : Nat} {a : State} {s : State}
    (hk : Sub 17179871234 k) (h : Keeps k a s) : Keeps k a (doCheckpointGo s) := by
  unfold doCheckpointGo
  repeat' first
    | with_reducible assumption
    | ((with_reducible refine Sub.of hk ?_); rfl)
    | (extract_lets +onlyGivenNames t
       first
       | (refine Keeps.have_ (k := k) (a := a) (t := t) ?_ ?_; unfold t; clear t; rotate_left; intro _; clear_value t; revert t; intros)
       | (clear_value t; revert t; intros)
       | (unfold t; clear t))
    | with_reducible refine keep_checkpointGo ?_ ?_
    | with_reducible refine Keeps.branch ?_ ?_
    | split

theorem keep_doCheckpointMiss {k : Nat} {a : State} {s : State}
    (hk : Sub 25769803904 k) (h : Keeps k a s) : Keeps k a (doCheckpointMiss s) := by
  unfold doCheckpointMiss
  repeat' first
    | with_reducible assumption
    | ((with_reducible refine Sub.of hk ?_); rfl)
    | with_reducible refine keep_raise ?_ ?_
    | with_reducible refine keep_State_bump ?_ ?_
    | with_reducible refine Keeps.branch ?_ ?_

theorem keep_doCleanClockStep {k : Nat} {a : State} {map : Bool} {p : Nat} {s : State}
    (hk : Sub 28125429890 k) (h : Keeps k a s) : Keeps k a (doCleanClockStep map p s) := by
  unfold doCleanClockStep
  repeat' first
    | with_reducible assumption
    | ((with_reducible refine Sub.of hk ?_); rfl)
    | with_reducible refine keep_cleanMap ?_ ?_
    | with_reducible refine keep_cleanVisit ?_ ?_
    | with_reducible refine Keeps.branch ?_ ?_
    | (refine Keeps.tie (hk.bits 27 rfl) ?_; with_reducible assumption)

theorem keep_doClearCmd {k : Nat} {a : State} {c : Fin 2} {s : State}
    (hk : Sub 25769804226 k) (h : Keeps k a s) : Keeps k a (doClearCmd c s) := by
  unfold doClearCmd
  repeat' first
    | with_reducible assumption
    | ((with_reducible refine Sub.of hk ?_); rfl)
    | with_reducible refine keep_clearGo ?_ ?_
    | with_reducible refine Keeps.branch ?_ ?_

theorem keep_doClockFailure {k : Nat} {a : State} {s : State}
    (hk : Sub 64424509435 k) (h : Keeps k a s) : Keeps k a (doClockFailure s) := by
  unfold doClockFailure
  repeat' first
    | with_reducible assumption
    | ((with_reducible refine Sub.of hk ?_); rfl)
    | with_reducible refine keep_sourceReset ?_ ?_
    | with_reducible refine keep_setBkp ?_ ?_
    | with_reducible refine keep_raise ?_ ?_
    | with_reducible refine keep_State_wr ?_ ?_
    | with_reducible refine Keeps.branch ?_ ?_
    | (refine Keeps.clk (hk.bits 15 rfl) ?_; first | with_reducible assumption | with_reducible refine keep_sourceReset ?_ ?_ | with_reducible refine keep_setBkp ?_ ?_ | with_reducible refine keep_raise ?_ ?_ | with_reducible refine keep_State_wr ?_ ?_)

theorem keep_doCnpListEntryTimeout {k : Nat} {a : State} {p : Fin 4} {i : Nat} {s : State}
    (hk : Sub 17716740096 k) (h : Keeps k a s) : Keeps k a (doCnpListEntryTimeout p i s) := by
  unfold doCnpListEntryTimeout
  repeat' first
    | with_reducible assumption
    | ((with_reducible refine Sub.of hk ?_); rfl)
    | with_reducible refine keep_State_bump ?_ ?_
    | with_reducible refine Keeps.branch ?_ ?_
    | (refine Keeps.xpt (hk.bits 29 rfl) ?_; with_reducible assumption)

theorem keep_missFull {k : Nat} {a : State} {s : State} {p : Nat}
    (hk : Sub 26306674818 k) (h : Keeps k a s) : Keeps k a (missFull s p) := by
  unfold missFull
  repeat' first
    | with_reducible assumption
    | ((with_reducible refine Sub.of hk ?_); rfl)
    | with_reducible refine keep_State_bump ?_ ?_
    | with_reducible refine keep_raise ?_ ?_
    | with_reducible refine keep_State_wr ?_ ?_
    | with_reducible refine Keeps.branch ?_ ?_
    | (refine Keeps.xpt (hk.bits 29 rfl) ?_; first | with_reducible assumption | with_reducible refine keep_State_bump ?_ ?_ | with_reducible refine keep_raise ?_ ?_ | with_reducible refine keep_State_wr ?_ ?_)

theorem keep_pushNak {k : Nat} {a : State} {s : State} {i : Nat} {lport : Nat} {q : Qp} {k' : Packet} {psn : Nat} {f : Fate}
    (hk : Sub 536870912 k) (h : Keeps k a s) : Keeps k a (pushNak s i lport q k' psn f) := by
  unfold pushNak
  repeat' first
    | with_reducible assumption
    | ((with_reducible refine Sub.of hk ?_); rfl)
    | with_reducible refine keep_pushReq ?_ ?_

theorem keep_newPacket {k : Nat} {a : State} {s : State} {i : Nat} {lport : Nat} {k' : Packet}
    (hk : Sub 27380416642 k) (h : Keeps k a s) : Keeps k a (newPacket s i lport k') := by
  unfold newPacket
  repeat' first
    | with_reducible assumption
    | ((with_reducible refine Sub.of hk ?_); rfl)
    | with_reducible refine keep_accessFailed ?_ ?_
    | with_reducible refine keep_showAdmit ?_ ?_
    | with_reducible refine keep_pushNak ?_ ?_
    | with_reducible refine keep_admitPass ?_ ?_
    | with_reducible refine keep_pushReq ?_ ?_
    | with_reducible refine keep_setQp ?_ ?_
    | with_reducible refine keep_State_bump ?_ ?_
    | with_reducible refine Keeps.branch ?_ ?_
    | split

theorem keep_dropFrame {k : Nat} {a : State} {s : State} {lport : Nat}
    (hk : Sub 17179869184 k) (h : Keeps k a s) : Keeps k a (dropFrame s lport) := by
  unfold dropFrame
  repeat' first
    | with_reducible assumption
    | ((with_reducible refine Sub.of hk ?_); rfl)
    | with_reducible refine keep_State_bump ?_ ?_

theorem keep_duplicate {k : Nat} {a : State} {s : State} {i : Nat} {lport : Nat} {k' : Packet}
    (hk : Sub 27382513794 k) (h : Keeps k a s) : Keeps k a (duplicate s i lport k') := by
  unfold duplicate
  repeat' first
    | with_reducible assumption
    | ((with_reducible refine Sub.of hk ?_); rfl)
    | with_reducible refine keep_sendAck ?_ ?_
    | with_reducible refine keep_sendPkt ?_ ?_
    | with_reducible refine keep_State_bump ?_ ?_
    | with_reducible refine keep_pushReq ?_ ?_
    | with_reducible refine keep_fatalNak ?_ ?_
    | with_reducible refine Keeps.branch ?_ ?_
    | split

theorem keep_parsePacket {k : Nat} {a : State} {s : State} {i : Nat} {lport : Nat} {k' : Packet}
    (hk : Sub 27382513794 k) (h : Keeps k a s) : Keeps k a (parsePacket s i lport k') := by
  unfold parsePacket
  repeat' first
    | with_reducible assumption
    | ((with_reducible refine Sub.of hk ?_); rfl)
    | with_reducible refine keep_newPacket ?_ ?_
    | with_reducible refine keep_modQp ?_ ?_
    | with_reducible refine keep_sendCnp ?_ ?_
    | with_reducible refine keep_pushNak ?_ ?_
    | with_reducible refine keep_State_bump ?_ ?_
    | with_reducible refine keep_cacheUse ?_ ?_
    | with_reducible refine keep_dropFrame ?_ ?_
    | with_reducible refine keep_duplicate ?_ ?_
    | with_reducible refine Keeps.branch ?_ ?_

theorem keep_withContext {k : Nat} {a : State} {s : State} {i : Nat} {lport : Nat} {k' : Packet}
    (hk : Sub 27382513794 k) (h : Keeps k a s) : Keeps k a (withContext s i lport k') := by
  unfold withContext
  repeat' first
    | with_reducible assumption
    | ((with_reducible refine Sub.of hk ?_); rfl)
    | with_reducible refine keep_showMiss ?_ ?_
    | with_reducible refine keep_sendCnp ?_ ?_
    | with_reducible refine keep_missFull ?_ ?_
    | with_reducible refine keep_parsePacket ?_ ?_
    | with_reducible refine keep_dropFrame ?_ ?_
    | with_reducible refine Keeps.branch ?_ ?_
    | (refine Keeps.xpt (hk.bits 29 rfl) ?_; with_reducible assumption)

theorem keep_releaseHeld {k : Nat} {a : State} {s : State} {i : Nat}
    (hk : Sub 27382513794 k) (h : Keeps k a s) : Keeps k a (releaseHeld s i) := by
  unfold releaseHeld
  repeat' first
    | with_reducible assumption
    | ((with_reducible refine Sub.of hk ?_); rfl)
    | intro _
    | (extract_lets +onlyGivenNames t
       first
       | (refine Keeps.have_ (k := k) (a := a) (t := t) ?_ ?_; unfold t; clear t; rotate_left; intro _; clear_value t; revert t; intros)
       | (clear_value t; revert t; intros)
       | (unfold t; clear t))
    | with_reducible refine keep_showMiss ?_ ?_
    | with_reducible refine keep_withContext ?_ ?_
    | (with_reducible refine Keeps.foldl ?_ ?_)
    | (with_reducible refine Keeps.foldl_fst ?_ ?_)
    | (refine Keeps.xpt (hk.bits 29 rfl) ?_; first | with_reducible assumption | with_reducible refine keep_showMiss ?_ ?_ | with_reducible refine keep_withContext ?_ ?_)

theorem keep_tierHFail {k : Nat} {a : State} {s : State} {page : Nat} {cause : Nat}
    (hk : Sub 25904021634 k) (h : Keeps k a s) : Keeps k a (tierHFail s page cause) := by
  unfold tierHFail
  repeat' first
    | with_reducible assumption
    | ((with_reducible refine Sub.of hk ?_); rfl)
    | with_reducible refine keep_State_bump ?_ ?_
    | with_reducible refine keep_raise ?_ ?_
    | with_reducible refine keep_setHState ?_ ?_
    | with_reducible refine Keeps.branch ?_ ?_
    | (refine Keeps.tie (hk.bits 27 rfl) ?_; first | with_reducible assumption | with_reducible refine keep_State_bump ?_ ?_ | with_reducible refine keep_raise ?_ ?_ | with_reducible refine keep_setHState ?_ ?_)

theorem keep_fetchFailed {k : Nat} {a : State} {s : State} {i : Nat} {p : Nat} {cause : Nat} {waited : Nat}
    (hk : Sub 26440892546 k) (h : Keeps k a s) : Keeps k a (fetchFailed s i p cause waited) := by
  unfold fetchFailed
  repeat' first
    | with_reducible assumption
    | ((with_reducible refine Sub.of hk ?_); rfl)
    | intro _
    | (extract_lets +onlyGivenNames t
       first
       | (refine Keeps.have_ (k := k) (a := a) (t := t) ?_ ?_; unfold t; clear t; rotate_left; intro _; clear_value t; revert t; intros)
       | (clear_value t; revert t; intros)
       | (unfold t; clear t))
    | with_reducible refine keep_modQp ?_ ?_
    | with_reducible refine keep_tierHFail ?_ ?_
    | with_reducible refine keep_showMiss ?_ ?_
    | with_reducible refine keep_State_bump ?_ ?_
    | with_reducible refine keep_raise ?_ ?_
    | (with_reducible refine Keeps.foldl ?_ ?_)
    | (with_reducible refine Keeps.foldl_fst ?_ ?_)
    | with_reducible refine Keeps.branch ?_ ?_
    | split
    | (refine Keeps.xpt (hk.bits 29 rfl) ?_; first | with_reducible assumption | with_reducible refine keep_modQp ?_ ?_ | with_reducible refine keep_tierHFail ?_ ?_ | with_reducible refine keep_showMiss ?_ ?_ | with_reducible refine keep_State_bump ?_ ?_ | with_reducible refine keep_raise ?_ ?_)

theorem keep_startFetch {k : Nat} {a : State} {s : State} {i : Nat} {p : Nat} {low : Bool} {x : Nat}
    (hk : Sub 26440892546 k) (h : Keeps k a s) : Keeps k a (startFetch s i p low x) := by
  induction x generalizing s i p low with
  | zero => exact h
  | succ n ih =>
    unfold startFetch
    split
    · exact Keeps.xpt (hk.bits 29 rfl) h
    · split
      · exact h
      · split
        · have ht : Keeps k a (fetchFailed s i p 3 0) := keep_fetchFailed (hk.of rfl) h
          dsimp only
          split
          · exact ih ht
          · split
            · exact ih ht
            · exact ht
        · exact Keeps.xpt (hk.bits 29 rfl) h

theorem keep_wantContext {k : Nat} {a : State} {s : State} {i : Nat} {p : Nat} {low : Bool}
    (hk : Sub 26440892546 k) (h : Keeps k a s) : Keeps k a (wantContext s i p low) := by
  unfold wantContext
  repeat' first
    | with_reducible assumption
    | ((with_reducible refine Sub.of hk ?_); rfl)
    | with_reducible refine keep_startFetch ?_ ?_

theorem keep_nextFetch {k : Nat} {a : State} {s : State} {p : Nat}
    (hk : Sub 26440892546 k) (h : Keeps k a s) : Keeps k a (nextFetch s p) := by
  unfold nextFetch
  repeat' first
    | with_reducible assumption
    | ((with_reducible refine Sub.of hk ?_); rfl)
    | with_reducible refine keep_wantContext ?_ ?_
    | split

theorem keep_doContextFetchDone {k : Nat} {a : State} {i : Nat} {s : State}
    (hk : Sub 27529314434 k) (h : Keeps k a s) : Keeps k a (doContextFetchDone i s) := by
  unfold doContextFetchDone
  repeat' first
    | with_reducible assumption
    | ((with_reducible refine Sub.of hk ?_); rfl)
    | with_reducible refine keep_modQp ?_ ?_
    | with_reducible refine keep_releaseHeld ?_ ?_
    | with_reducible refine keep_nextFetch ?_ ?_
    | with_reducible refine keep_cacheFill ?_ ?_
    | split
    | (refine Keeps.xpt (hk.bits 29 rfl) ?_; with_reducible assumption)

theorem keep_doCnpListFetchDone {k : Nat} {a : State} {p : Fin 4} {i : Nat} {s : State}
    (hk : Sub 27529314434 k) (h : Keeps k a s) : Keeps k a (doCnpListFetchDone p i s) := by
  unfold doCnpListFetchDone
  repeat' first
    | with_reducible assumption
    | ((with_reducible refine Sub.of hk ?_); rfl)
    | (extract_lets +onlyGivenNames t
       first
       | (refine Keeps.have_ (k := k) (a := a) (t := t) ?_ ?_; unfold t; clear t; rotate_left; intro _; clear_value t; revert t; intros)
       | (clear_value t; revert t; intros))
    | with_reducible refine keep_sendCnp ?_ ?_
    | with_reducible refine keep_doContextFetchDone ?_ ?_
    | split
    | (refine Keeps.xpt (hk.bits 29 rfl) ?_; with_reducible assumption)

theorem keep_doConfigCommit {k : Nat} {a : State} {s : State}
    (hk : Sub 258 k) (h : Keeps k a s) : Keeps k a (doConfigCommit s) := by
  unfold doConfigCommit
  repeat' first
    | with_reducible assumption
    | ((with_reducible refine Sub.of hk ?_); rfl)
    | with_reducible refine keep_configCommit ?_ ?_
    | with_reducible refine Keeps.branch ?_ ?_

theorem keep_sweepBlock {k : Nat} {a : State} {s : State} {n : Nat}
    (hk : Sub 25769803906 k) (h : Keeps k a s) : Keeps k a (sweepBlock s n) := by
  unfold sweepBlock
  repeat' first
    | with_reducible assumption
    | ((with_reducible refine Sub.of hk ?_); rfl)
    | with_reducible refine keep_raise ?_ ?_
    | with_reducible refine keep_State_wr ?_ ?_
    | with_reducible refine Keeps.branch ?_ ?_

theorem keep_doConfigSweep {k : Nat} {a : State} {s : State}
    (hk : Sub 25769804162 k) (h : Keeps k a s) : Keeps k a (doConfigSweep s) := by
  unfold doConfigSweep
  repeat' first
    | with_reducible assumption
    | ((with_reducible refine Sub.of hk ?_); rfl)
    | intro _
    | with_reducible refine keep_sweepBlock ?_ ?_
    | with_reducible refine keep_setEnt ?_ ?_
    | (with_reducible refine Keeps.foldl ?_ ?_)
    | with_reducible refine Keeps.branch ?_ ?_

theorem keep_doContextFetchTimeout {k : Nat} {a : State} {i : Nat} {byError : Bool} {s : State}
    (hk : Sub 26440892546 k) (h : Keeps k a s) : Keeps k a (doContextFetchTimeout i byError s) := by
  unfold doContextFetchTimeout
  repeat' first
    | with_reducible assumption
    | ((with_reducible refine Sub.of hk ?_); rfl)
    | with_reducible refine keep_fetchFailed ?_ ?_
    | with_reducible refine keep_wantContext ?_ ?_
    | with_reducible refine keep_nextFetch ?_ ?_
    | split

theorem keep_doControlSpaceWrite {k : Nat} {a : State} {core : Fin 4} {addr : Nat} {v : BitVec 32} {s : State}
    (hk : Sub 68719476731 k) (h : Keeps k a s) : Keeps k a (doControlSpaceWrite core addr v s) := by
  unfold doControlSpaceWrite
  repeat' first
    | with_reducible assumption
    | ((with_reducible refine Sub.of hk ?_); rfl)
    | with_reducible refine keep_coreWrite ?_ ?_
    | with_reducible refine Keeps.branch ?_ ?_

theorem keep_doCpxRingtailWrite {k : Nat} {a : State} {index : Nat} {tail : Nat} {s : State}
    (hk : Sub 536870914 k) (h : Keeps k a s) : Keeps k a (doCpxRingtailWrite index tail s) := by
  unfold doCpxRingtailWrite
  repeat' first
    | with_reducible assumption
    | ((with_reducible refine Sub.of hk ?_); rfl)
    | with_reducible refine keep_State_wr ?_ ?_
    | with_reducible refine keep_ringTailGo ?_ ?_
    | with_reducible refine Keeps.branch ?_ ?_

theorem keep_doCtrlWidth {k : Nat} {a : State} {mask : BitVec 20} {s : State}
    (hk : Sub 10737418240 k) (h : Keeps k a s) : Keeps k a (doCtrlWidth mask s) := by
  unfold doCtrlWidth
  repeat' first
    | with_reducible assumption
    | ((with_reducible refine Sub.of hk ?_); rfl)
    | with_reducible refine keep_State_emit ?_ ?_
    | with_reducible refine Keeps.branch ?_ ?_
    | (refine Keeps.twn (hk.bits 31 rfl) ?_; with_reducible assumption)

theorem keep_doCtrlWidthAck {k : Nat} {a : State} {mask : BitVec 20} {s : State}
    (hk : Sub 2147483648 k) (h : Keeps k a s) : Keeps k a (doCtrlWidthAck mask s) := by
  unfold doCtrlWidthAck
  repeat' first
    | with_reducible assumption
    | ((with_reducible refine Sub.of hk ?_); rfl)
    | with_reducible refine Keeps.branch ?_ ?_
    | (refine Keeps.twn (hk.bits 31 rfl) ?_; first | with_reducible assumption)

theorem keep_doDebugResetRequest {k : Nat} {a : State} {a' : ResetArg} {s : State}
    (hk : Sub 64424509435 k) (h : Keeps k a s) : Keeps k a (doDebugResetRequest a' s) := by
  unfold doDebugResetRequest
  repeat' first
    | with_reducible assumption
    | ((with_reducible refine Sub.of hk ?_); rfl)
    | with_reducible refine keep_requestedReset ?_ ?_
    | with_reducible refine Keeps.branch ?_ ?_

theorem keep_doDebugUnlock {k : Nat} {a : State} {tag : List Nat} {s : State}
    (hk : Sub 30064779394 k) (h : Keeps k a s) : Keeps k a (doDebugUnlock tag s) := by
  unfold doDebugUnlock
  repeat' first
    | with_reducible assumption
    | ((with_reducible refine Sub.of hk ?_); rfl)
    | with_reducible refine keep_drawn ?_ ?_
    | with_reducible refine keep_State_emit ?_ ?_
    | with_reducible refine keep_raise ?_ ?_
    | with_reducible refine keep_State_wr ?_ ?_
    | with_reducible refine Keeps.branch ?_ ?_
    | (refine Keeps.key (hk.bits 13 rfl) ?_; first | with_reducible assumption | with_reducible refine keep_drawn ?_ ?_ | with_reducible refine keep_State_emit ?_ ?_ | with_reducible refine keep_raise ?_ ?_ | with_reducible refine keep_State_wr ?_ ?_)

theorem keep_doDeviceSnapshotCmd {k : Nat} {a : State} {s : State}
    (hk : Sub 17179869440 k) (h : Keeps k a s) : Keeps k a (doDeviceSnapshotCmd s) := by
  unfold doDeviceSnapshotCmd
  repeat' first
    | with_reducible assumption
    | ((with_reducible refine Sub.of hk ?_); rfl)
    | with_reducible refine keep_snapshotCmd ?_ ?_
    | with_reducible refine Keeps.branch ?_ ?_

theorem keep_doDicExtClear {k : Nat} {a : State} {s : State}
    (hk : Sub 25769804162 k) (h : Keeps k a s) : Keeps k a (doDicExtClear s) := by
  unfold doDicExtClear
  repeat' first
    | with_reducible assumption
    | ((with_reducible refine Sub.of hk ?_); rfl)
    | with_reducible refine keep_extGo ?_ ?_
    | with_reducible refine Keeps.branch ?_ ?_

theorem keep_doDicExtLoad {k : Nat} {a : State} {s : State}
    (hk : Sub 25769804162 k) (h : Keeps k a s) : Keeps k a (doDicExtLoad s) := by
  unfold doDicExtLoad
  repeat' first
    | with_reducible assumption
    | ((with_reducible refine Sub.of hk ?_); rfl)
    | with_reducible refine keep_extGo ?_ ?_
    | with_reducible refine Keeps.branch ?_ ?_

theorem keep_doDicHandlerAnswer {k : Nat} {a : State} {status : BitVec 8} {len : BitVec 11} {s : State}
    (hk : Sub 68719476731 k) (h : Keeps k a s) : Keeps k a (doDicHandlerAnswer status len s) := by
  unfold doDicHandlerAnswer
  repeat' first
    | with_reducible assumption
    | ((with_reducible refine Sub.of hk ?_); rfl)
    | with_reducible refine keep_hansGo ?_ ?_
    | with_reducible refine keep_State_wr ?_ ?_
    | with_reducible refine Keeps.branch ?_ ?_

theorem keep_doDicSnapshot {k : Nat} {a : State} {s : State}
    (hk : Sub 17179869186 k) (h : Keeps k a s) : Keeps k a (doDicSnapshot s) := by
  unfold doDicSnapshot
  repeat' first
    | with_reducible assumption
    | ((with_reducible refine Sub.of hk ?_); rfl)
    | with_reducible refine keep_snapAll ?_ ?_
    | with_reducible refine Keeps.branch ?_ ?_

theorem keep_doDieFailed {k : Nat} {a : State} {ch : Fin 32} {die : Fin 32} {s : State}
    (hk : Sub 25836912770 k) (h : Keeps k a s) : Keeps k a (doDieFailed ch die s) := by
  unfold doDieFailed
  repeat' first
    | with_reducible assumption
    | ((with_reducible refine Sub.of hk ?_); rfl)
    | with_reducible refine keep_relocAdd ?_ ?_
    | with_reducible refine keep_raise ?_ ?_
    | with_reducible refine keep_State_wr ?_ ?_
    | with_reducible refine Keeps.branch ?_ ?_

theorem keep_flagRail {k : Nat} {a : State} {s : State} {F : Fld} {r : Nat} {cause : Nat}
    (hk : Sub 25769803970 k) (h : Keeps k a s) : Keeps k a (flagRail s F r cause) := by
  unfold flagRail
  repeat' first
    | with_reducible assumption
    | ((with_reducible refine Sub.of hk ?_); rfl)
    | with_reducible refine keep_snapshot ?_ ?_
    | with_reducible refine keep_State_wbit ?_ ?_
    | with_reducible refine keep_raise ?_ ?_

theorem keep_stepEnd {k : Nat} {a : State} {s : State}
    (hk : Sub 25769803923 k) (h : Keeps k a s) : Keeps k a (stepEnd s) := by
  unfold stepEnd
  repeat' first
    | with_reducible assumption
    | ((with_reducible refine Sub.of hk ?_); rfl)
    | with_reducible refine keep_stepBegin ?_ ?_
    | with_reducible refine keep_startFall ?_ ?_
    | with_reducible refine Keeps.branch ?_ ?_

theorem keep_doDisableTimeout {k : Nat} {a : State} {s : State}
    (hk : Sub 25769803987 k) (h : Keeps k a s) : Keeps k a (doDisableTimeout s) := by
  unfold doDisableTimeout
  repeat' first
    | with_reducible assumption
    | ((with_reducible refine Sub.of hk ?_); rfl)
    | with_reducible refine keep_flagRail ?_ ?_
    | with_reducible refine keep_stepEnd ?_ ?_
    | with_reducible refine Keeps.branch ?_ ?_

theorem keep_doDrbgHealthFail {k : Nat} {a : State} {test : Nat} {s : State}
    (hk : Sub 25769803906 k) (h : Keeps k a s) : Keeps k a (doDrbgHealthFail test s) := by
  unfold doDrbgHealthFail
  repeat' first
    | with_reducible assumption
    | ((with_reducible refine Sub.of hk ?_); rfl)
    | with_reducible refine keep_raise ?_ ?_
    | with_reducible refine keep_State_wr ?_ ?_
    | with_reducible refine Keeps.branch ?_ ?_

theorem keep_doDrbgReseed {k : Nat} {a : State} {s : State}
    (hk : Sub 32421454210 k) (h : Keeps k a s) : Keeps k a (doDrbgReseed s) := by
  unfold doDrbgReseed
  repeat' first
    | with_reducible assumption
    | ((with_reducible refine Sub.of hk ?_); rfl)
    | with_reducible refine keep_runMapq ?_ ?_
    | with_reducible refine keep_drawPair ?_ ?_
    | with_reducible refine keep_runWork ?_ ?_
    | with_reducible refine keep_State_wr ?_ ?_
    | with_reducible refine Keeps.branch ?_ ?_
    | (refine Keeps.key (hk.bits 13 rfl) ?_; with_reducible assumption)

theorem keep_doEarlyPowerFailWarning {k : Nat} {a : State} {pin : Bool} {mv : Nat} {s : State}
    (hk : Sub 27417051611 k) (h : Keeps k a s) : Keeps k a (doEarlyPowerFailWarning pin mv s) := by
  unfold doEarlyPowerFailWarning
  repeat' first
    | with_reducible assumption
    | ((with_reducible refine Sub.of hk ?_); rfl)
    | with_reducible refine keep_State_bump ?_ ?_
    | with_reducible refine keep_snapshot ?_ ?_
    | with_reducible refine keep_raise ?_ ?_
    | with_reducible refine keep_powerDown ?_ ?_
    | with_reducible refine keep_State_wr ?_ ?_
    | with_reducible refine Keeps.branch ?_ ?_

theorem keep_doEnableTimeout {k : Nat} {a : State} {s : State}
    (hk : Sub 25769803987 k) (h : Keeps k a s) : Keeps k a (doEnableTimeout s) := by
  unfold doEnableTimeout
  repeat' first
    | with_reducible assumption
    | ((with_reducible refine Sub.of hk ?_); rfl)
    | with_reducible refine keep_startFall ?_ ?_
    | with_reducible refine keep_raise ?_ ?_
    | with_reducible refine keep_flagRail ?_ ?_
    | with_reducible refine keep_State_wr ?_ ?_
    | with_reducible refine keep_stepEnd ?_ ?_
    | with_reducible refine Keeps.branch ?_ ?_

theorem keep_sbFull {k : Nat} {a : State} {s : State} {ks : List Nat}
    (hk : Sub 25772556418 k) (h : Keeps k a s) : Keeps k a (sbFull s ks) := by
  unfold sbFull
  repeat' first
    | with_reducible assumption
    | ((with_reducible refine Sub.of hk ?_); rfl)
    | intro _
    | with_reducible refine keep_sbProgrammed ?_ ?_
    | with_reducible refine keep_setBlk ?_ ?_
    | (with_reducible refine Keeps.foldl ?_ ?_)
    | with_reducible refine Keeps.branch ?_ ?_

theorem keep_setVmod {k : Nat} {a : State} {s : State} {v : List Nat}
    (hk : Sub 2 k) (h : Keeps k a s) : Keeps k a (setVmod s v) := by
  unfold setVmod
  repeat' first
    | with_reducible assumption
    | ((with_reducible refine Sub.of hk ?_); rfl)
    | intro _
    | with_reducible refine keep_State_wr ?_ ?_
    | (with_reducible refine Keeps.foldl ?_ ?_)
    | split

theorem keep_doEnergyAtShutres {k : Nat} {a : State} {vmod : List Nat} {s : State}
    (hk : Sub 64424476667 k) (h : Keeps k a s) : Keeps k a (doEnergyAtShutres vmod s) := by
  unfold doEnergyAtShutres
  repeat' first
    | with_reducible assumption
    | ((with_reducible refine Sub.of hk ?_); rfl)
    | (extract_lets +onlyGivenNames t
       first
       | (refine Keeps.have_ (k := k) (a := a) (t := t) ?_ ?_; unfold t; clear t; rotate_left; intro _; clear_value t; revert t; intros)
       | (clear_value t; revert t; intros))
    | with_reducible refine keep_sbFull ?_ ?_
    | with_reducible refine keep_State_wr ?_ ?_
    | with_reducible refine keep_showErased ?_ ?_
    | with_reducible refine keep_coldEffect ?_ ?_
    | with_reducible refine keep_State_bump ?_ ?_
    | with_reducible refine keep_setVmod ?_ ?_
    | with_reducible refine keep_startFall ?_ ?_
    | with_reducible refine keep_raise ?_ ?_
    | split
    | (refine Keeps.sav (hk.bits 17 rfl) ?_; with_reducible assumption)
    | (refine Keeps.stf (hk.bits 26 rfl) ?_; with_reducible assumption)
    | exact Keeps.build 67239936 (hk.of rfl) (by assumption) (by rfl) (by rfl) (by exact fun p hp => by cases p <;> first | exact absurd hp (by decide) | rfl) (by exact List.suffix_refl _) (by exact grown_refl _) (by exact id) (by exact id)

theorem keep_eraseAnswer {k : Nat} {a : State} {s : State} {k' : Nat} {status : Nat}
    (hk : Sub 17259560962 k) (h : Keeps k a s) : Keeps k a (eraseAnswer s k' status) := by
  unfold eraseAnswer
  repeat' first
    | with_reducible assumption
    | ((with_reducible refine Sub.of hk ?_); rfl)
    | with_reducible refine keep_fwAnswer ?_ ?_
    | split
    | (refine Keeps.stf (hk.bits 26 rfl) ?_; with_reducible assumption)

theorem keep_wipe {k : Nat} {a : State} {s : State} {k' : Nat}
    (hk : Sub 67108864 k) (h : Keeps k a s) : Keeps k a (wipe s k') := by
  unfold wipe
  repeat' first
    | with_reducible assumption
    | ((with_reducible refine Sub.of hk ?_); rfl)
    | (refine Keeps.stf (hk.bits 26 rfl) ?_; first | with_reducible assumption)

theorem keep_eraseFree {k : Nat} {a : State} {s : State} {k' : Nat}
    (hk : Sub 25839665282 k) (h : Keeps k a s) : Keeps k a (eraseFree s k') := by
  unfold eraseFree
  repeat' first
    | with_reducible assumption
    | ((with_reducible refine Sub.of hk ?_); rfl)
    | with_reducible refine keep_setBlk ?_ ?_
    | with_reducible refine keep_wipe ?_ ?_
    | with_reducible refine keep_State_bump ?_ ?_
    | (refine Keeps.sav (hk.bits 17 rfl) ?_; first | with_reducible assumption | with_reducible refine keep_setBlk ?_ ?_ | with_reducible refine keep_wipe ?_ ?_ | with_reducible refine keep_State_bump ?_ ?_)

theorem keep_reclaimEnd {k : Nat} {a : State} {s : State}
    (hk : Sub 67108864 k) (h : Keeps k a s) : Keeps k a (reclaimEnd s) := by
  unfold reclaimEnd
  repeat' first
    | with_reducible assumption
    | ((with_reducible refine Sub.of hk ?_); rfl)
    | with_reducible refine Keeps.branch ?_ ?_
    | (refine Keeps.stf (hk.bits 26 rfl) ?_; first | with_reducible assumption)

theorem keep_doEraseVerified {k : Nat} {a : State} {k' : Nat} {s : State}
    (hk : Sub 25852248194 k) (h : Keeps k a s) : Keeps k a (doEraseVerified k' s) := by
  unfold doEraseVerified
  repeat' first
    | with_reducible assumption
    | ((with_reducible refine Sub.of hk ?_); rfl)
    | with_reducible refine keep_eraseAnswer ?_ ?_
    | with_reducible refine keep_eraseFree ?_ ?_
    | with_reducible refine keep_reclaimEnd ?_ ?_
    | with_reducible refine keep_retireCheck ?_ ?_
    | with_reducible refine Keeps.branch ?_ ?_
    | (refine Keeps.stf (hk.bits 26 rfl) ?_; with_reducible assumption)

theorem keep_showErase {k : Nat} {a : State} {s : State} {k' : Nat}
    (hk : Sub 25772425346 k) (h : Keeps k a s) : Keeps k a (showErase s k') := by
  unfold showErase
  repeat' first
    | with_reducible assumption
    | ((with_reducible refine Sub.of hk ?_); rfl)
    | with_reducible refine keep_setBlk ?_ ?_
    | with_reducible refine Keeps.branch ?_ ?_

theorem keep_doEraseVerifyFailed {k : Nat} {a : State} {k' : Nat} {ch : Fin 32} {s : State}
    (hk : Sub 25839550594 k) (h : Keeps k a s) : Keeps k a (doEraseVerifyFailed k' ch s) := by
  unfold doEraseVerifyFailed
  repeat' first
    | with_reducible assumption
    | ((with_reducible refine Sub.of hk ?_); rfl)
    | with_reducible refine keep_retireMember ?_ ?_
    | with_reducible refine keep_showErase ?_ ?_
    | with_reducible refine Keeps.branch ?_ ?_
    | (refine Keeps.stf (hk.bits 26 rfl) ?_; with_reducible assumption)

theorem keep_doEresminExpiry {k : Nat} {a : State} {ch : Fin 32} {die : Nat} {s : State}
    (hk : Sub 67108864 k) (h : Keeps k a s) : Keeps k a (doEresminExpiry ch die s) := by
  unfold doEresminExpiry
  repeat' first
    | with_reducible assumption
    | ((with_reducible refine Sub.of hk ?_); rfl)
    | (extract_lets +onlyGivenNames t
       first
       | (refine Keeps.have_ (k := k) (a := a) (t := t) ?_ ?_; unfold t; clear t; rotate_left; intro _; clear_value t; revert t; intros)
       | (clear_value t; revert t; intros)
       | (unfold t; clear t))
    | with_reducible refine Keeps.branch ?_ ?_
    | split
    | (refine Keeps.stf (hk.bits 26 rfl) ?_; first | with_reducible assumption)

theorem keep_doEventRaised {k : Nat} {a : State} {code : Nat} {payload : List Nat} {s : State}
    (hk : Sub 25769803904 k) (h : Keeps k a s) : Keeps k a (doEventRaised code payload s) := by
  unfold doEventRaised
  repeat' first
    | with_reducible assumption
    | ((with_reducible refine Sub.of hk ?_); rfl)
    | with_reducible refine keep_raise ?_ ?_
    | with_reducible refine Keeps.branch ?_ ?_

theorem keep_doEvtAckWrite {k : Nat} {a : State} {n : Fin 32} {seq : Nat} {s : State}
    (hk : Sub 2 k) (h : Keeps k a s) : Keeps k a (doEvtAckWrite n seq s) := by
  unfold doEvtAckWrite
  repeat' first
    | with_reducible assumption
    | ((with_reducible refine Sub.of hk ?_); rfl)
    | with_reducible refine keep_State_wr64 ?_ ?_
    | with_reducible refine Keeps.branch ?_ ?_

theorem keep_svcSend {k : Nat} {a : State} {s : State} {f : List Nat}
    (hk : Sub 8589934592 k) (h : Keeps k a s) : Keeps k a (svcSend s f) := by
  unfold svcSend
  repeat' first
    | with_reducible assumption
    | ((with_reducible refine Sub.of hk ?_); rfl)
    | with_reducible refine keep_State_emit ?_ ?_

theorem keep_showSvc {k : Nat} {a : State} {s : State}
    (hk : Sub 2 k) (h : Keeps k a s) : Keeps k a (showSvc s) := by
  unfold showSvc
  repeat' first
    | with_reducible assumption
    | ((with_reducible refine Sub.of hk ?_); rfl)
    | with_reducible refine keep_State_wr ?_ ?_

theorem keep_svcEnd {k : Nat} {a : State} {s : State} {why : Nat}
    (hk : Sub 25769808002 k) (h : Keeps k a s) : Keeps k a (svcEnd s why) := by
  unfold svcEnd
  repeat' first
    | with_reducible assumption
    | ((with_reducible refine Sub.of hk ?_); rfl)
    | with_reducible refine keep_showSvc ?_ ?_
    | with_reducible refine keep_raise ?_ ?_
    | split
    | (refine Keeps.svc (hk.bits 12 rfl) ?_; with_reducible assumption)

theorem keep_svcRespond {k : Nat} {a : State} {s : State} {x : Session} {f : List Nat} {status : Nat} {body : List Nat}
    (hk : Sub 25769808002 k) (h : Keeps k a s) : Keeps k a (svcRespond s x f status body) := by
  unfold svcRespond
  repeat' first
    | with_reducible assumption
    | ((with_reducible refine Sub.of hk ?_); rfl)
    | with_reducible refine keep_svcSend ?_ ?_
    | with_reducible refine keep_svcEnd ?_ ?_
    | with_reducible refine keep_tagBlocks ?_ ?_
    | with_reducible refine Keeps.branch ?_ ?_
    | (refine Keeps.svc (hk.bits 12 rfl) ?_; first | with_reducible assumption | with_reducible refine keep_svcSend ?_ ?_ | with_reducible refine keep_svcEnd ?_ ?_ | with_reducible refine keep_tagBlocks ?_ ?_)

theorem keep_svcRequest {k : Nat} {a : State} {s : State} {op : Nat} {f : List Nat} {action : State → List Nat → State × Nat × List Nat} {follows : optParam (State → State) fun t => t}
    (hk : Sub 25769808258 k) (h : Keeps k a s) (ha : ∀ t b, Keeps k a t → Keeps k a (action t b).1) (hf : ∀ t, Keeps k a t → Keeps k a (follows t)) : Keeps k a (svcRequest s op f action follows) := by
  unfold svcRequest
  split
  · exact h
  · split
    · exact keep_svcSend (hk.of rfl) h
    · split
      · exact keep_svcSend (hk.of rfl) h
      · extract_lets +onlyGivenNames t
        have ht : Keeps k a t := keep_tagBlocks (hk.of rfl) h
        clear_value t
        split
        · exact keep_countFrame (hk.of rfl) ht
        · extract_lets +onlyGivenNames x v u
          have hu : Keeps k a u := Keeps.svc (hk.bits 12 rfl) ht
          clear_value u
          split
          · exact keep_svcSend (hk.of rfl) hu
          · split
            · exact keep_svcSend (hk.of rfl) hu
            · exact hf _ (keep_svcRespond (hk.of rfl) (ha _ _ hu))

theorem keep_doEvtRead {k : Nat} {a : State} {frame : List Nat} {s : State}
    (hk : Sub 25769808258 k) (h : Keeps k a s) : Keeps k a (doEvtRead frame s) := by
  unfold doEvtRead
  repeat' first
    | with_reducible assumption
    | ((with_reducible refine Sub.of hk ?_); rfl)
    | intro _
    | (extract_lets +onlyGivenNames t
       first
       | (refine Keeps.have_ (k := k) (a := a) (t := t) ?_ ?_; unfold t; clear t; rotate_left; intro _; clear_value t; revert t; intros)
       | (clear_value t; revert t; intros)
       | (unfold t; clear t))
    | with_reducible refine keep_svcRequest ?_ ?_ ?_ ?_
    | with_reducible refine Keeps.branch ?_ ?_
    | split

theorem keep_fallOff {k : Nat} {a : State} {s : State}
    (hk : Sub 64424476650 k) (h : Keeps k a s) : Keeps k a (fallOff s) := by
  unfold fallOff
  repeat' first
    | with_reducible assumption
    | ((with_reducible refine Sub.of hk ?_); rfl)
    | with_reducible refine keep_afterReset ?_ ?_
    | with_reducible refine keep_coldBlocks ?_ ?_
    | with_reducible refine keep_setRetain ?_ ?_
    | with_reducible refine keep_State_wr ?_ ?_
    | (refine Keeps.rst (hk.bits 5 rfl) ?_; first | with_reducible assumption | with_reducible refine keep_afterReset ?_ ?_ | with_reducible refine keep_coldBlocks ?_ ?_ | with_reducible refine keep_setRetain ?_ ?_ | with_reducible refine keep_State_wr ?_ ?_)

theorem keep_doFallingTableEnd {k : Nat} {a : State} {s : State}
    (hk : Sub 64424509435 k) (h : Keeps k a s) : Keeps k a (doFallingTableEnd s) := by
  unfold doFallingTableEnd
  repeat' first
    | with_reducible assumption
    | ((with_reducible refine Sub.of hk ?_); rfl)
    | with_reducible refine keep_quietPoint ?_ ?_
    | with_reducible refine keep_fallOff ?_ ?_
    | with_reducible refine keep_coldEnd ?_ ?_
    | with_reducible refine keep_State_wr ?_ ?_
    | with_reducible refine keep_enterStandby ?_ ?_
    | split

theorem keep_doFarrierRelease {k : Nat} {a : State} {owner : Nat} {res : Nat} {s : State}
    (hk : Sub 25806111106 k) (h : Keeps k a s) : Keeps k a (doFarrierRelease owner res s) := by
  unfold doFarrierRelease
  repeat' first
    | with_reducible assumption
    | ((with_reducible refine Sub.of hk ?_); rfl)
    | with_reducible refine keep_endRehearsal ?_ ?_
    | with_reducible refine keep_State_wr ?_ ?_
    | with_reducible refine keep_farAsk ?_ ?_
    | with_reducible refine keep_farRelease ?_ ?_
    | with_reducible refine Keeps.branch ?_ ?_

theorem keep_doFarrierRequest {k : Nat} {a : State} {owner : Nat} {res : List Nat} {s : State}
    (hk : Sub 33554434 k) (h : Keeps k a s) : Keeps k a (doFarrierRequest owner res s) := by
  unfold doFarrierRequest
  repeat' first
    | with_reducible assumption
    | ((with_reducible refine Sub.of hk ?_); rfl)
    | intro _
    | with_reducible refine keep_farAsk ?_ ?_
    | (with_reducible refine Keeps.foldl ?_ ?_)
    | with_reducible refine Keeps.branch ?_ ?_

theorem keep_doFecAlarm {k : Nat} {a : State} {l : Fin 16} {n : Nat} {s : State}
    (hk : Sub 25769803906 k) (h : Keeps k a s) : Keeps k a (doFecAlarm l n s) := by
  unfold doFecAlarm
  repeat' first
    | with_reducible assumption
    | ((with_reducible refine Sub.of hk ?_); rfl)
    | with_reducible refine keep_State_wbit ?_ ?_
    | with_reducible refine keep_State_bump ?_ ?_
    | with_reducible refine keep_raise ?_ ?_
    | with_reducible refine Keeps.branch ?_ ?_

theorem keep_startRestore {k : Nat} {a : State} {s : State} {step : Nat} {why : Nat}
    (hk : Sub 25770197123 k) (h : Keeps k a s) : Keeps k a (startRestore s step why) := by
  unfold startRestore
  repeat' first
    | with_reducible assumption
    | ((with_reducible refine Sub.of hk ?_); rfl)
    | (extract_lets +onlyGivenNames t
       first
       | (refine Keeps.have_ (k := k) (a := a) (t := t) ?_ ?_; unfold t; clear t; rotate_left; intro _; clear_value t; revert t; intros))
    | with_reducible refine keep_showGate ?_ ?_
    | with_reducible refine keep_setDev ?_ ?_
    | with_reducible refine keep_State_wr ?_ ?_
    | (refine Keeps.gov (hk.bits 18 rfl) ?_; with_reducible assumption)
    | (refine Keeps.sav (hk.bits 17 rfl) ?_; with_reducible assumption)
    | exact Keeps.build 393216 (hk.of rfl) (by assumption) (by rfl) (by rfl) (by exact fun p hp => by cases p <;> first | exact absurd hp (by decide) | rfl) (by exact List.suffix_refl _) (by exact grown_refl _) (by exact id) (by exact id)

theorem keep_doFillComplete {k : Nat} {a : State} {s : State}
    (hk : Sub 25774391427 k) (h : Keeps k a s) : Keeps k a (doFillComplete s) := by
  unfold doFillComplete
  repeat' first
    | with_reducible assumption
    | ((with_reducible refine Sub.of hk ?_); rfl)
    | with_reducible refine keep_State_bump ?_ ?_
    | with_reducible refine keep_startRestore ?_ ?_
    | with_reducible refine keep_raise ?_ ?_
    | with_reducible refine Keeps.branch ?_ ?_
    | (refine Keeps.dram (hk.bits 22 rfl) ?_ (by first | exact fun g => Memory.wf_memZero g | exact fun g => Memory.wf_memWrite g | exact fun g => Memory.wf_memPaste g | exact id | exact fun _ => rfl); with_reducible assumption)

theorem keep_idleFlit {k : Nat} {a : State} {s : State}
    (hk : Sub 27917287424 k) (h : Keeps k a s) : Keeps k a (idleFlit s) := by
  unfold idleFlit
  repeat' first
    | with_reducible assumption
    | ((with_reducible refine Sub.of hk ?_); rfl)
    | with_reducible refine keep_sendFlit ?_ ?_

theorem keep_flitLost {k : Nat} {a : State} {s : State}
    (hk : Sub 27917287424 k) (h : Keeps k a s) : Keeps k a (flitLost s) := by
  unfold flitLost
  repeat' first
    | with_reducible assumption
    | ((with_reducible refine Sub.of hk ?_); rfl)
    | with_reducible refine keep_idleFlit ?_ ?_
    | with_reducible refine Keeps.branch ?_ ?_
    | (refine Keeps.twn (hk.bits 31 rfl) ?_; with_reducible assumption)

theorem keep_flitIn {k : Nat} {a : State} {s : State} {f : List Nat}
    (hk : Sub 68719476731 k) (h : Keeps k a s) : Keeps k a (flitIn s f) := by
  unfold flitIn
  repeat' first
    | with_reducible assumption
    | ((with_reducible refine Sub.of hk ?_); rfl)
    | with_reducible refine keep_consumeSlots ?_ ?_
    | with_reducible refine keep_ackIn ?_ ?_
    | with_reducible refine keep_flitLost ?_ ?_
    | with_reducible refine keep_creditsIn ?_ ?_
    | with_reducible refine keep_State_bump ?_ ?_
    | with_reducible refine Keeps.branch ?_ ?_
    | (refine Keeps.twn (hk.bits 31 rfl) ?_; first | with_reducible assumption | with_reducible refine keep_consumeSlots ?_ ?_ | with_reducible refine keep_ackIn ?_ ?_ | with_reducible refine keep_flitLost ?_ ?_ | with_reducible refine keep_creditsIn ?_ ?_ | with_reducible refine keep_State_bump ?_ ?_)

theorem keep_doFlitReceived {k : Nat} {a : State} {bytes : List (BitVec 8)} {s : State}
    (hk : Sub 68719476731 k) (h : Keeps k a s) : Keeps k a (doFlitReceived bytes s) := by
  unfold doFlitReceived
  repeat' first
    | with_reducible assumption
    | ((with_reducible refine Sub.of hk ?_); rfl)
    | with_reducible refine keep_flitIn ?_ ?_
    | with_reducible refine Keeps.branch ?_ ?_

theorem keep_doGaiRowWord3Write {k : Nat} {a : State} {g : Fin 6} {v : Nat} {s : State}
    (hk : Sub 25769803914 k) (h : Keeps k a s) : Keeps k a (doGaiRowWord3Write g v s) := by
  unfold doGaiRowWord3Write
  repeat' first
    | with_reducible assumption
    | ((with_reducible refine Sub.of hk ?_); rfl)
    | with_reducible refine keep_rowWrite ?_ ?_
    | with_reducible refine Keeps.branch ?_ ?_

theorem keep_doGaitEditFieldWrite {k : Nat} {a : State} {sess : Nat} {g : Fin 6} {k' : Fin 10} {v : Nat} {s : State}
    (hk : Sub 8 k) (h : Keeps k a s) : Keeps k a (doGaitEditFieldWrite sess g k' v s) := by
  unfold doGaitEditFieldWrite
  repeat' first
    | with_reducible assumption
    | ((with_reducible refine Sub.of hk ?_); rfl)
    | with_reducible refine keep_editField ?_ ?_
    | with_reducible refine Keeps.branch ?_ ?_

theorem keep_doGaitRequest {k : Nat} {a : State} {g : Fin 6} {s : State}
    (hk : Sub 27129020810 k) (h : Keeps k a s) : Keeps k a (doGaitRequest g s) := by
  unfold doGaitRequest
  repeat' first
    | with_reducible assumption
    | ((with_reducible refine Sub.of hk ?_); rfl)
    | with_reducible refine keep_askGait ?_ ?_

theorem keep_markFailed {k : Nat} {a : State} {s : State} {m : Nat} {reading : Nat}
    (hk : Sub 25769803906 k) (h : Keeps k a s) : Keeps k a (markFailed s m reading) := by
  unfold markFailed
  repeat' first
    | with_reducible assumption
    | ((with_reducible refine Sub.of hk ?_); rfl)
    | with_reducible refine keep_State_wbit ?_ ?_
    | with_reducible refine keep_raise ?_ ?_
    | with_reducible refine Keeps.branch ?_ ?_

theorem keep_markOut {k : Nat} {a : State} {vmod : List Nat} {s : State}
    (hk : Sub 25769803906 k) (h : Keeps k a s) : Keeps k a (markOut vmod s) := by
  unfold markOut
  repeat' first
    | with_reducible assumption
    | ((with_reducible refine Sub.of hk ?_); rfl)
    | intro _
    | (extract_lets +onlyGivenNames t
       first
       | (refine Keeps.have_ (k := k) (a := a) (t := t) ?_ ?_; unfold t; clear t; rotate_left; intro _; clear_value t; revert t; intros)
       | (clear_value t; revert t; intros)
       | (unfold t; clear t))
    | with_reducible refine keep_markFailed ?_ ?_
    | (with_reducible refine Keeps.foldl ?_ ?_)
    | (with_reducible refine Keeps.foldl_fst ?_ ?_)
    | with_reducible refine Keeps.branch ?_ ?_
    | split

theorem keep_govRead {k : Nat} {a : State} {vmod : List Nat} {s : State}
    (hk : Sub 25770066050 k) (h : Keeps k a s) : Keeps k a (govRead vmod s) := by
  unfold govRead
  repeat' first
    | with_reducible assumption
    | ((with_reducible refine Sub.of hk ?_); rfl)
    | intro _
    | (extract_lets +onlyGivenNames t
       first
       | (refine Keeps.have_ (k := k) (a := a) (t := t) ?_ ?_; unfold t; clear t; rotate_left; intro _; clear_value t; revert t; intros)
       | (clear_value t; revert t; intros)
       | (unfold t; clear t))
    | with_reducible refine keep_markOut ?_ ?_
    | with_reducible refine keep_setVmod ?_ ?_
    | with_reducible refine keep_State_wr ?_ ?_
    | (with_reducible refine Keeps.foldl ?_ ?_)
    | (with_reducible refine Keeps.foldl_fst ?_ ?_)
    | with_reducible refine Keeps.branch ?_ ?_
    | split
    | (refine Keeps.gov (hk.bits 18 rfl) ?_; first | with_reducible assumption | with_reducible refine keep_markOut ?_ ?_ | with_reducible refine keep_setVmod ?_ ?_ | with_reducible refine keep_State_wr ?_ ?_)

theorem keep_doGovTick {k : Nat} {a : State} {vmod : List Nat} {s : State}
    (hk : Sub 27417051547 k) (h : Keeps k a s) : Keeps k a (doGovTick vmod s) := by
  unfold doGovTick
  repeat' first
    | with_reducible assumption
    | ((with_reducible refine Sub.of hk ?_); rfl)
    | with_reducible refine keep_govRead ?_ ?_
    | with_reducible refine keep_govStep ?_ ?_
    | with_reducible refine Keeps.branch ?_ ?_

theorem keep_reportUncorr {k : Nat} {a : State} {s : State} {l : Nat} {reader : Nat} {device : Nat} {devs : Nat}
    (hk : Sub 25769803906 k) (h : Keeps k a s) : Keeps k a (reportUncorr s l reader device devs) := by
  unfold reportUncorr
  repeat' first
    | with_reducible assumption
    | ((with_reducible refine Sub.of hk ?_); rfl)
    | with_reducible refine keep_raiseTo ?_ ?_
    | with_reducible refine keep_State_bump ?_ ?_
    | with_reducible refine keep_State_wr ?_ ?_

theorem keep_uncorrectable {k : Nat} {a : State} {s : State} {l : Nat} {e : LineErr} {rdr : LineReader}
    (hk : Sub 29550968962 k) (h : Keeps k a s) : Keeps k a (uncorrectable s l e rdr) := by
  unfold uncorrectable
  repeat' first
    | with_reducible assumption
    | ((with_reducible refine Sub.of hk ?_); rfl)
    | intro _
    | (extract_lets +onlyGivenNames t
       first
       | (refine Keeps.have_ (k := k) (a := a) (t := t) ?_ ?_; unfold t; clear t; rotate_left; intro _; clear_value t; revert t; intros)
       | (refine Keeps.have_fst (k := k) (a := a) (t := t) ?_ ?_; unfold t; clear t; rotate_left; intro _; clear_value t; revert t; intros)
       | (revert t; intros)
       | (unfold t; clear t))
    | with_reducible refine keep_lineSound ?_ ?_
    | with_reducible refine keep_reportUncorr ?_ ?_
    | with_reducible refine keep_qpError ?_ ?_
    | with_reducible refine keep_lineUncorr ?_ ?_
    | with_reducible refine keep_raise ?_ ?_
    | with_reducible refine keep_writePoison ?_ ?_
    | with_reducible refine keep_seekLine ?_ ?_
    | (with_reducible refine Keeps.foldl ?_ ?_)
    | (with_reducible refine Keeps.foldl_fst ?_ ?_)
    | with_reducible refine Keeps.ofPair (by assumption) ?_
    | with_reducible refine Keeps.branch ?_ ?_
    | split
    | (refine Keeps.grm (hk.bits 24 rfl) ?_; first | with_reducible assumption | with_reducible refine keep_lineSound ?_ ?_ | with_reducible refine keep_reportUncorr ?_ ?_ | with_reducible refine keep_qpError ?_ ?_ | with_reducible refine keep_lineUncorr ?_ ?_ | with_reducible refine keep_raise ?_ ?_ | with_reducible refine keep_writePoison ?_ ?_ | with_reducible refine keep_seekLine ?_ ?_)
    | (refine Keeps.dram (hk.bits 22 rfl) ?_ (by first | exact fun g => Memory.wf_memZero g | exact fun g => Memory.wf_memWrite g | exact fun g => Memory.wf_memPaste g | exact id | exact fun _ => rfl); first | with_reducible assumption | with_reducible refine keep_lineSound ?_ ?_ | with_reducible refine keep_reportUncorr ?_ ?_ | with_reducible refine keep_qpError ?_ ?_ | with_reducible refine keep_lineUncorr ?_ ?_ | with_reducible refine keep_raise ?_ ?_ | with_reducible refine keep_writePoison ?_ ?_ | with_reducible refine keep_seekLine ?_ ?_)

theorem keep_readLine {k : Nat} {a : State} {s : State} {l : Nat} {e : LineErr} {rdr : LineReader}
    (hk : Sub 29559357570 k) (h : Keeps k a s) : Keeps k a (readLine s l e rdr) := by
  unfold readLine
  repeat' first
    | with_reducible assumption
    | ((with_reducible refine Sub.of hk ?_); rfl)
    | intro _
    | (extract_lets +onlyGivenNames t
       first
       | (refine Keeps.have_ (k := k) (a := a) (t := t) ?_ ?_; unfold t; clear t; rotate_left; intro _; clear_value t; revert t; intros)
       | (clear_value t; revert t; intros)
       | (unfold t; clear t))
    | with_reducible refine keep_State_bump ?_ ?_
    | with_reducible refine keep_wqPut ?_ ?_
    | with_reducible refine keep_uncorrectable ?_ ?_
    | with_reducible refine keep_corrected ?_ ?_
    | with_reducible refine keep_bankAccess ?_ ?_
    | with_reducible refine Keeps.branch ?_ ?_
    | split

theorem keep_farYield {k : Nat} {a : State} {s : State} {owner : Nat} {n : Nat}
    (hk : Sub 33554434 k) (h : Keeps k a s) : Keeps k a (farYield s owner n) := by
  unfold farYield
  repeat' first
    | with_reducible assumption
    | ((with_reducible refine Sub.of hk ?_); rfl)
    | with_reducible refine keep_farAsk ?_ ?_
    | with_reducible refine keep_farRelease ?_ ?_
    | with_reducible refine Keeps.branch ?_ ?_

theorem keep_groomPass {k : Nat} {a : State} {s : State}
    (hk : Sub 25786581122 k) (h : Keeps k a s) : Keeps k a (groomPass s) := by
  unfold groomPass
  repeat' first
    | with_reducible assumption
    | ((with_reducible refine Sub.of hk ?_); rfl)
    | with_reducible refine keep_showGroom ?_ ?_
    | with_reducible refine keep_raise ?_ ?_
    | with_reducible refine keep_State_wr ?_ ?_
    | with_reducible refine Keeps.branch ?_ ?_
    | (refine Keeps.grm (hk.bits 24 rfl) ?_; first | with_reducible assumption | with_reducible refine keep_showGroom ?_ ?_ | with_reducible refine keep_raise ?_ ?_ | with_reducible refine keep_State_wr ?_ ?_)

theorem keep_doGroomBurst {k : Nat} {a : State} {c : Fin 16} {errs : List LineErr} {s : State}
    (hk : Sub 29592912002 k) (h : Keeps k a s) : Keeps k a (doGroomBurst c errs s) := by
  unfold doGroomBurst
  repeat' first
    | with_reducible assumption
    | ((with_reducible refine Sub.of hk ?_); rfl)
    | intro _
    | with_reducible refine keep_readLine ?_ ?_
    | with_reducible refine keep_showGroom ?_ ?_
    | with_reducible refine keep_farYield ?_ ?_
    | with_reducible refine keep_groomPass ?_ ?_
    | with_reducible refine keep_setGrm ?_ ?_
    | (with_reducible refine Keeps.foldl ?_ ?_)
    | with_reducible refine Keeps.branch ?_ ?_

theorem keep_doGroomRateRecompute {k : Nat} {a : State} {s : State}
    (hk : Sub 25786581122 k) (h : Keeps k a s) : Keeps k a (doGroomRateRecompute s) := by
  unfold doGroomRateRecompute
  repeat' first
    | with_reducible assumption
    | ((with_reducible refine Sub.of hk ?_); rfl)
    | intro _
    | (extract_lets +onlyGivenNames t
       first
       | (refine Keeps.have_ (k := k) (a := a) (t := t) ?_ ?_; unfold t; clear t; rotate_left; intro _; clear_value t; revert t; intros)
       | (clear_value t; revert t; intros)
       | (unfold t; clear t))
    | with_reducible refine keep_showGroom ?_ ?_
    | with_reducible refine keep_setRate ?_ ?_
    | (with_reducible refine Keeps.foldl ?_ ?_)
    | (with_reducible refine Keeps.foldl_fst ?_ ?_)
    | with_reducible refine Keeps.branch ?_ ?_
    | split
    | (refine Keeps.grm (hk.bits 24 rfl) ?_; first | with_reducible assumption | with_reducible refine keep_showGroom ?_ ?_ | with_reducible refine keep_setRate ?_ ?_)

theorem keep_doGroupCommit {k : Nat} {a : State} {block : Fin 58} {s : State}
    (hk : Sub 27265859978 k) (h : Keeps k a s) : Keeps k a (doGroupCommit block s) := by
  unfold doGroupCommit
  repeat' first
    | with_reducible assumption
    | ((with_reducible refine Sub.of hk ?_); rfl)
    | with_reducible refine keep_groupCommit ?_ ?_
    | with_reducible refine Keeps.branch ?_ ?_

theorem keep_doHalfOpenExpiry {k : Nat} {a : State} {session : Option Nat} {s : State}
    (hk : Sub 25904026506 k) (h : Keeps k a s) : Keeps k a (doHalfOpenExpiry session s) := by
  unfold doHalfOpenExpiry
  repeat' first
    | with_reducible assumption
    | ((with_reducible refine Sub.of hk ?_); rfl)
    | with_reducible refine keep_svcEnd ?_ ?_
    | with_reducible refine keep_endSession ?_ ?_
    | split

theorem keep_doHandlerItemTimeout {k : Nat} {a : State} {s : State}
    (hk : Sub 68719476731 k) (h : Keeps k a s) : Keeps k a (doHandlerItemTimeout s) := by
  unfold doHandlerItemTimeout
  repeat' first
    | with_reducible assumption
    | ((with_reducible refine Sub.of hk ?_); rfl)
    | with_reducible refine keep_handlerAnswered ?_ ?_
    | with_reducible refine Keeps.branch ?_ ?_

theorem keep_doHeartbeatResumed {k : Nat} {a : State} {path : Fin 2} {s : State}
    (hk : Sub 2 k) (h : Keeps k a s) : Keeps k a (doHeartbeatResumed path s) := by
  unfold doHeartbeatResumed
  repeat' first
    | with_reducible assumption
    | ((with_reducible refine Sub.of hk ?_); rfl)
    | with_reducible refine keep_State_wr ?_ ?_
    | with_reducible refine Keeps.branch ?_ ?_

theorem keep_doHeartbeatSilent {k : Nat} {a : State} {path : Fin 2} {s : State}
    (hk : Sub 25769803906 k) (h : Keeps k a s) : Keeps k a (doHeartbeatSilent path s) := by
  unfold doHeartbeatSilent
  repeat' first
    | with_reducible assumption
    | ((with_reducible refine Sub.of hk ?_); rfl)
    | with_reducible refine keep_raise ?_ ?_
    | with_reducible refine keep_State_wr ?_ ?_
    | with_reducible refine Keeps.branch ?_ ?_

theorem keep_doHeatTick {k : Nat} {a : State} {s : State}
    (hk : Sub 134217728 k) (h : Keeps k a s) : Keeps k a (doHeatTick s) := by
  unfold doHeatTick
  repeat' first
    | with_reducible assumption
    | ((with_reducible refine Sub.of hk ?_); rfl)
    | with_reducible refine Keeps.branch ?_ ?_
    | (refine Keeps.tie (hk.bits 27 rfl) ?_; first | with_reducible assumption)

theorem keep_doHopperDeadline {k : Nat} {a : State} {s : State}
    (hk : Sub 2097154 k) (h : Keeps k a s) : Keeps k a (doHopperDeadline s) := by
  unfold doHopperDeadline
  repeat' first
    | with_reducible assumption
    | ((with_reducible refine Sub.of hk ?_); rfl)
    | with_reducible refine keep_showHopper ?_ ?_
    | with_reducible refine Keeps.branch ?_ ?_
    | (refine Keeps.trn (hk.bits 21 rfl) ?_; with_reducible assumption)

theorem keep_tornFlash {k : Nat} {a : State} {s : State}
    (hk : Sub 25772556418 k) (h : Keeps k a s) : Keeps k a (tornFlash s) := by
  unfold tornFlash
  repeat' first
    | with_reducible assumption
    | ((with_reducible refine Sub.of hk ?_); rfl)
    | with_reducible refine keep_sbFull ?_ ?_
    | with_reducible refine Keeps.branch ?_ ?_

theorem keep_doInputCollapse {k : Nat} {a : State} {s : State}
    (hk : Sub 25772572915 k) (h : Keeps k a s) : Keeps k a (doInputCollapse s) := by
  unfold doInputCollapse
  repeat' first
    | with_reducible assumption
    | ((with_reducible refine Sub.of hk ?_); rfl)
    | intro _
    | (extract_lets +onlyGivenNames t
       first
       | (refine Keeps.have_ (k := k) (a := a) (t := t) ?_ ?_; unfold t; clear t; rotate_left; intro _; clear_value t; revert t; intros)
       | (clear_value t; revert t; intros)
       | (unfold t; clear t))
    | with_reducible refine keep_tornFlash ?_ ?_
    | with_reducible refine keep_snapshot ?_ ?_
    | with_reducible refine keep_State_wr ?_ ?_
    | with_reducible refine keep_showKpf ?_ ?_
    | with_reducible refine keep_stepBegin ?_ ?_
    | with_reducible refine Keeps.branch ?_ ?_
    | split
    | (refine Keeps.rst (hk.bits 5 rfl) ?_; first | with_reducible assumption | with_reducible refine keep_tornFlash ?_ ?_ | with_reducible refine keep_snapshot ?_ ?_ | with_reducible refine keep_State_wr ?_ ?_ | with_reducible refine keep_showKpf ?_ ?_ | with_reducible refine keep_stepBegin ?_ ?_)
    | (refine Keeps.pwr (hk.bits 4 rfl) ?_; first | with_reducible assumption | with_reducible refine keep_tornFlash ?_ ?_ | with_reducible refine keep_snapshot ?_ ?_ | with_reducible refine keep_State_wr ?_ ?_ | with_reducible refine keep_showKpf ?_ ?_ | with_reducible refine keep_stepBegin ?_ ?_)
    | (refine Keeps.dev (hk.bits 0 rfl) ?_; first | with_reducible assumption | with_reducible refine keep_tornFlash ?_ ?_ | with_reducible refine keep_snapshot ?_ ?_ | with_reducible refine keep_State_wr ?_ ?_ | with_reducible refine keep_showKpf ?_ ?_ | with_reducible refine keep_stepBegin ?_ ?_)
    | (refine Keeps.recd (hk.bits 7 rfl) ?_; first | with_reducible assumption | with_reducible refine keep_tornFlash ?_ ?_ | with_reducible refine keep_snapshot ?_ ?_ | with_reducible refine keep_State_wr ?_ ?_ | with_reducible refine keep_showKpf ?_ ?_ | with_reducible refine keep_stepBegin ?_ ?_)
    | (refine Keeps.kpf (hk.bits 14 rfl) ?_; first | with_reducible assumption | with_reducible refine keep_tornFlash ?_ ?_ | with_reducible refine keep_snapshot ?_ ?_ | with_reducible refine keep_State_wr ?_ ?_ | with_reducible refine keep_showKpf ?_ ?_ | with_reducible refine keep_stepBegin ?_ ?_)
    | exact Keeps.build 16561 (hk.of rfl) (by first | assumption | exact keep_tornFlash (hk.of rfl) (by assumption) | exact keep_snapshot (hk.of rfl) (by assumption) | exact keep_State_wr (hk.of rfl) (by assumption) | exact keep_showKpf (hk.of rfl) (by assumption) | exact keep_stepBegin (hk.of rfl) (by assumption)) (by rfl) (by rfl) (by exact fun p hp => by cases p <;> first | exact absurd hp (by decide) | rfl) (by exact List.suffix_refl _) (by exact grown_refl _) (by exact id) (by exact id)
    | exact Keeps.build 16561 (hk.of rfl) h (by rfl) (by rfl) (by exact fun p hp => by cases p <;> first | exact absurd hp (by decide) | rfl) (by exact List.suffix_refl _) (by exact grown_refl _) (by exact id) (by exact id)

theorem keep_showBrownOut {k : Nat} {a : State} {s : State}
    (hk : Sub 2 k) (h : Keeps k a s) : Keeps k a (showBrownOut s) := by
  unfold showBrownOut
  repeat' first
    | with_reducible assumption
    | ((with_reducible refine Sub.of hk ?_); rfl)
    | with_reducible refine keep_State_wr ?_ ?_

theorem keep_doInputPowerQualified {k : Nat} {a : State} {s : State}
    (hk : Sub 64424476667 k) (h : Keeps k a s) : Keeps k a (doInputPowerQualified s) := by
  unfold doInputPowerQualified
  repeat' first
    | with_reducible assumption
    | ((with_reducible refine Sub.of hk ?_); rfl)
    | with_reducible refine keep_showBrownOut ?_ ?_
    | with_reducible refine keep_State_wr ?_ ?_
    | with_reducible refine keep_leaveSaved ?_ ?_
    | with_reducible refine Keeps.branch ?_ ?_
    | (refine Keeps.pwr (hk.bits 4 rfl) ?_; with_reducible assumption)

theorem keep_doInstructionComplete {k : Nat} {a : State} {n : Fin 8} {slot : Fin 16} {pc : Nat} {turn : Nat} {rd : CwRead} {corr : Nat} {bad : Option Nat} {s : State}
    (hk : Sub 30013915266 k) (h : Keeps k a s) : Keeps k a (doInstructionComplete n slot pc turn rd corr bad s) := by
  unfold doInstructionComplete
  repeat' first
    | with_reducible assumption
    | ((with_reducible refine Sub.of hk ?_); rfl)
    | with_reducible refine keep_commitBank ?_ ?_
    | with_reducible refine keep_State_bump ?_ ?_
    | with_reducible refine keep_showMst ?_ ?_
    | with_reducible refine keep_failJob ?_ ?_
    | with_reducible refine keep_raise ?_ ?_
    | with_reducible refine keep_completeOp ?_ ?_
    | split

theorem keep_rqPost {k : Nat} {a : State} {s : State} {i : Nat} {o : Rop}
    (hk : Sub 27111981056 k) (h : Keeps k a s) : Keeps k a (rqPost s i o) := by
  unfold rqPost
  repeat' first
    | with_reducible assumption
    | ((with_reducible refine Sub.of hk ?_); rfl)
    | with_reducible refine keep_setRq ?_ ?_
    | with_reducible refine keep_rqPump ?_ ?_

theorem keep_issueNet {k : Nat} {a : State} {s : State} {j : Job} {w : Nat} {header : Nat} {key : Nat} {rx : Nat}
    (hk : Sub 27111981056 k) (h : Keeps k a s) : ∀ t, issueNet s j w header key rx = some t → Keeps k a t.1 := by
  intro t ht
  unfold issueNet at ht
  extract_lets at ht
  repeat' split at ht
  all_goals first
    | contradiction
    | (obtain rfl := Option.some.inj ht
       first
       | exact keep_rqPost (hk.of rfl) h
       | exact keep_rqPost (hk.of rfl) (keep_rqPost (hk.of rfl) h)
       | (dsimp only; split
          · exact keep_rqPost (hk.of rfl) (keep_rqPost (hk.of rfl) h)
          · exact keep_rqPost (hk.of rfl) h))

theorem keep_issueUnit {k : Nat} {a : State} {s : State} {j : Job} {pc : Nat} {header : Nat} {iter : Nat} {turn : Nat} {pre : Bool}
    (hk : Sub 29946806402 k) (h : Keeps k a s) : ∀ t, issueUnit s j pc header iter turn pre = .done t → Keeps k a t := by
  intro t ht
  unfold issueUnit at ht
  have hd : ∀ (u : State) (j' : Job) (x : Ctr) (c m : Nat), Keeps k a u → Keeps k a ((setJob u j').bump x c 0 m) :=
    fun u j' x c m g => keep_State_bump (hk.of rfl) (keep_setJob (hk.of rfl) g)
  have hl : ∀ a' n, Keeps k a (streamLookups s a' n) := fun _ _ => keep_streamLookups (hk.of rfl) h
  extract_lets w u peer o fin aa n at ht
  have hfin : ∀ (v : State) (o' : MOp) (t : State), Keeps k a v → fin v o' = .done t → Keeps k a t := by
    intro v o' t g e
    obtain rfl := Issue.done.inj e
    exact hd _ _ _ _ _ g
  clear_value fin w u peer o aa n
  generalize iOp w = op at ht
  repeat' split at ht
  all_goals first
    | contradiction
    | with_reducible exact hfin _ _ _ h ht
    | with_reducible exact hfin _ _ _ (hl _ _) ht
    | with_reducible exact hfin _ _ _ (keep_mstWrite (hk.of rfl) h) ht
    | with_reducible exact hfin _ _ _ (keep_issueNet (hk.of rfl) h _ ‹_›) ht

theorem keep_issueWait {k : Nat} {a : State} {s : State} {j : Job}
    (hk : Sub 17448304640 k) (h : Keeps k a s) : ∀ t, issueWait s j = .done t → Keeps k a t := by
  intro t ht
  unfold issueWait at ht
  have hd : ∀ (j' : Job) (x : Ctr) (c m : Nat), Keeps k a ((setJob s j').bump x c 0 m) :=
    fun j' x c m => keep_State_bump (hk.of rfl) (keep_setJob (hk.of rfl) h)
  dsimp only at ht
  repeat' split at ht
  all_goals first
    | contradiction
    | (obtain rfl := Issue.done.inj ht; exact hd _ _ _ _)
    | (obtain rfl := Issue.done.inj ht; exact keep_setJob (hk.of rfl) h)

theorem keep_issueOwn {k : Nat} {a : State} {s : State} {j : Job}
    (hk : Sub 29946806402 k) (h : Keeps k a s) : ∀ t, issueOwn s j = .done t → Keeps k a t := by
  intro t ht
  unfold issueOwn at ht
  dsimp only at ht
  repeat' split at ht
  all_goals first
    | contradiction
    | exact keep_issueWait (hk.of rfl) h _ ht
    | exact keep_issueUnit (hk.of rfl) h _ ht
    | (obtain rfl := Issue.done.inj ht; exact keep_setJob (hk.of rfl) h)
    | (obtain rfl := Issue.done.inj ht; exact keep_State_bump (hk.of rfl) (keep_setJob (hk.of rfl) h))
    | (obtain rfl := Issue.done.inj ht; exact keep_State_bump (hk.of rfl) (keep_commitStart (hk.of rfl) h))

theorem keep_tryIssue {k : Nat} {a : State} {s : State} {j : Job}
    (hk : Sub 29946806402 k) (h : Keeps k a s) : ∀ t, tryIssue s j = .done t → Keeps k a t := by
  intro t ht
  unfold tryIssue at ht
  dsimp only at ht
  repeat' split at ht
  all_goals first
    | contradiction
    | exact keep_issueOwn (hk.of rfl) h _ ht
    | exact keep_issueUnit (hk.of rfl) h _ ht

theorem keep_noteStalls {k : Nat} {a : State} {s : State} {n : Nat}
    (hk : Sub 17448304640 k) (h : Keeps k a s) : Keeps k a (noteStalls s n) := by
  unfold noteStalls
  repeat' first
    | with_reducible assumption
    | ((with_reducible refine Sub.of hk ?_); rfl)
    | intro _
    | with_reducible refine keep_State_bump ?_ ?_
    | with_reducible refine keep_setJob ?_ ?_
    | (with_reducible refine Keeps.foldl ?_ ?_)
    | split

theorem keep_doInstructionIssue {k : Nat} {a : State} {n : Fin 8} {s : State}
    (hk : Sub 29946806402 k) (h : Keeps k a s) : Keeps k a (doInstructionIssue n s) := by
  unfold doInstructionIssue
  split
  · exact h
  · extract_lets +onlyGivenNames u ts cnt first order
    have hu : Keeps k a u := keep_noteStalls (hk.of rfl) h
    clear_value u
    split
    · exact hu
    · have hm : ∀ (x : Mst) (t : State), Keeps k a t → Keeps k a (showMst { t with mst := x }) :=
        fun x t g => keep_showMst (hk.of rfl) (Keeps.mst (hk.bits 28 rfl) g)
      dsimp only
      split
      · exact hu
      · exact hm _ _ (keep_failJob (hk.of rfl) hu)
      · exact hm _ _ (keep_tryIssue (hk.of rfl) hu _ ‹_›)

theorem keep_doJobDispatch {k : Nat} {a : State} {s : State}
    (hk : Sub 29946806402 k) (h : Keeps k a s) : Keeps k a (doJobDispatch s) := by
  unfold doJobDispatch
  repeat' first
    | with_reducible assumption
    | ((with_reducible refine Sub.of hk ?_); rfl)
    | intro _
    | (extract_lets +onlyGivenNames t
       first
       | (refine Keeps.have_ (k := k) (a := a) (t := t) ?_ ?_; unfold t; clear t; rotate_left; intro _; clear_value t; revert t; intros)
       | (refine Keeps.have_fst (k := k) (a := a) (t := t) ?_ ?_; unfold t; clear t; rotate_left; intro _; clear_value t; revert t; intros)
       | (clear_value t; revert t; intros)
       | (unfold t; clear t))
    | with_reducible refine keep_spaceSeek ?_ ?_
    | with_reducible refine keep_dispatch ?_ ?_
    | with_reducible refine keep_showMst ?_ ?_
    | (with_reducible refine Keeps.foldl ?_ ?_)
    | (with_reducible refine Keeps.foldl_fst ?_ ?_)
    | with_reducible refine Keeps.ofPair (by assumption) ?_
    | with_reducible refine Keeps.branch ?_ ?_
    | split
    | (refine Keeps.mst (hk.bits 28 rfl) ?_; first | with_reducible assumption | with_reducible refine keep_spaceSeek ?_ ?_ | with_reducible refine keep_dispatch ?_ ?_ | with_reducible refine keep_showMst ?_ ?_)

theorem keep_doKeeperErase {k : Nat} {a : State} {s : State}
    (hk : Sub 25769820290 k) (h : Keeps k a s) : Keeps k a (doKeeperErase s) := by
  unfold doKeeperErase
  repeat' first
    | with_reducible assumption
    | ((with_reducible refine Sub.of hk ?_); rfl)
    | with_reducible refine keep_kpfDone ?_ ?_
    | with_reducible refine keep_kpfSkip ?_ ?_
    | with_reducible refine Keeps.branch ?_ ?_
    | split
    | (refine Keeps.kpf (hk.bits 14 rfl) ?_; with_reducible assumption)

theorem keep_kpfSpoil {k : Nat} {a : State} {s : State} {off : Nat} {n : Nat}
    (hk : Sub 16384 k) (h : Keeps k a s) : Keeps k a (kpfSpoil s off n) := by
  unfold kpfSpoil
  repeat' first
    | with_reducible assumption
    | ((with_reducible refine Sub.of hk ?_); rfl)
    | intro _
    | with_reducible refine keep_kerase ?_ ?_
    | with_reducible refine keep_kprog ?_ ?_
    | (with_reducible refine Keeps.foldl ?_ ?_)

theorem keep_doKeeperOpDone {k : Nat} {a : State} {ok : Bool} {s : State}
    (hk : Sub 25769820290 k) (h : Keeps k a s) : Keeps k a (doKeeperOpDone ok s) := by
  unfold doKeeperOpDone
  repeat' first
    | with_reducible assumption
    | ((with_reducible refine Sub.of hk ?_); rfl)
    | with_reducible refine keep_kpfSpoil ?_ ?_
    | with_reducible refine keep_kerase ?_ ?_
    | with_reducible refine keep_kpfSkip ?_ ?_
    | with_reducible refine keep_kpfDone ?_ ?_
    | with_reducible refine keep_kprog ?_ ?_
    | split

theorem keep_doKeeperProgram {k : Nat} {a : State} {s : State}
    (hk : Sub 25769820290 k) (h : Keeps k a s) : Keeps k a (doKeeperProgram s) := by
  unfold doKeeperProgram
  repeat' first
    | with_reducible assumption
    | ((with_reducible refine Sub.of hk ?_); rfl)
    | with_reducible refine keep_kpfDone ?_ ?_
    | with_reducible refine keep_kpfSkip ?_ ?_
    | split
    | (refine Keeps.kpf (hk.bits 14 rfl) ?_; with_reducible assumption)

theorem keep_doKeeperRead {k : Nat} {a : State} {s : State}
    (hk : Sub 25782403202 k) (h : Keeps k a s) : Keeps k a (doKeeperRead s) := by
  unfold doKeeperRead
  repeat' first
    | with_reducible assumption
    | ((with_reducible refine Sub.of hk ?_); rfl)
    | with_reducible refine keep_kpfDone ?_ ?_
    | with_reducible refine keep_dWrite ?_ ?_
    | with_reducible refine keep_kpfSkip ?_ ?_
    | split
    | (refine Keeps.kpf (hk.bits 14 rfl) ?_; with_reducible assumption)

theorem keep_doKeyClear {k : Nat} {a : State} {s : State}
    (hk : Sub 25769812098 k) (h : Keeps k a s) : Keeps k a (doKeyClear s) := by
  unfold doKeyClear
  repeat' first
    | with_reducible assumption
    | ((with_reducible refine Sub.of hk ?_); rfl)
    | with_reducible refine keep_clearSlot ?_ ?_
    | with_reducible refine keep_keyDone ?_ ?_
    | with_reducible refine keep_keySkip ?_ ?_
    | split

theorem keep_keyRun {k : Nat} {a : State} {s : State} {d : List Nat} {mode : Bool} {f : List Nat → State}
    (hk : Sub 25769812098 k) (h : Keeps k a s) (hf : ∀ x, Keeps k a (f x)) : Keeps k a (keyRun s d mode f) := by
  unfold keyRun
  refine keep_keySkip (hk.of rfl) ?_
  split
  · exact keep_keyDone (hk.of rfl) h
  · split
    · exact keep_keyDone (hk.of rfl) h
    · split
      · exact keep_keyDone (hk.of rfl) h
      · split
        · exact keep_keyDone (hk.of rfl) h
        · exact keep_keyDone (hk.of rfl) (hf _)

theorem keep_doKeyCmac {k : Nat} {a : State} {s : State}
    (hk : Sub 25782395010 k) (h : Keeps k a s) : Keeps k a (doKeyCmac s) := by
  unfold doKeyCmac
  repeat' first
    | with_reducible assumption
    | ((with_reducible refine Sub.of hk ?_); rfl)
    | intro _
    | with_reducible refine keep_dWrite ?_ ?_
    | with_reducible refine keep_countBlocks ?_ ?_
    | with_reducible refine keep_keyRun ?_ ?_ ?_
    | split

theorem keep_keyCipher {k : Nat} {a : State} {s : State} {enc : Bool} {d : List Nat}
    (hk : Sub 25782395010 k) (h : Keeps k a s) : Keeps k a (keyCipher s enc d) := by
  unfold keyCipher
  repeat' first
    | with_reducible assumption
    | ((with_reducible refine Sub.of hk ?_); rfl)
    | intro _
    | with_reducible refine keep_dWrite ?_ ?_
    | with_reducible refine keep_countBlocks ?_ ?_
    | with_reducible refine keep_keyRun ?_ ?_ ?_

theorem keep_doKeyDecrypt {k : Nat} {a : State} {s : State}
    (hk : Sub 25782395010 k) (h : Keeps k a s) : Keeps k a (doKeyDecrypt s) := by
  unfold doKeyDecrypt
  repeat' first
    | with_reducible assumption
    | ((with_reducible refine Sub.of hk ?_); rfl)
    | with_reducible refine keep_keyCipher ?_ ?_
    | split

theorem keep_installFw {k : Nat} {a : State} {s : State} {d : List Nat} {bytes : List Nat}
    (hk : Sub 8192 k) (h : Keeps k a s) : Keeps k a (installFw s d bytes) := by
  unfold installFw
  repeat' first
    | with_reducible assumption
    | ((with_reducible refine Sub.of hk ?_); rfl)
    | with_reducible refine keep_setSlot ?_ ?_

theorem keep_doKeyDerive {k : Nat} {a : State} {s : State}
    (hk : Sub 25769812098 k) (h : Keeps k a s) : Keeps k a (doKeyDerive s) := by
  unfold doKeyDerive
  repeat' first
    | with_reducible assumption
    | ((with_reducible refine Sub.of hk ?_); rfl)
    | with_reducible refine keep_State_bump ?_ ?_
    | with_reducible refine keep_keyDone ?_ ?_
    | with_reducible refine keep_keySkip ?_ ?_
    | with_reducible refine keep_installFw ?_ ?_
    | split

theorem keep_doKeyEncrypt {k : Nat} {a : State} {s : State}
    (hk : Sub 25782395010 k) (h : Keeps k a s) : Keeps k a (doKeyEncrypt s) := by
  unfold doKeyEncrypt
  repeat' first
    | with_reducible assumption
    | ((with_reducible refine Sub.of hk ?_); rfl)
    | with_reducible refine keep_keyCipher ?_ ?_
    | split

theorem keep_doKeyLoad {k : Nat} {a : State} {s : State}
    (hk : Sub 25769812098 k) (h : Keeps k a s) : Keeps k a (doKeyLoad s) := by
  unfold doKeyLoad
  repeat' first
    | with_reducible assumption
    | ((with_reducible refine Sub.of hk ?_); rfl)
    | with_reducible refine keep_keyDone ?_ ?_
    | with_reducible refine keep_keySkip ?_ ?_
    | with_reducible refine keep_installFw ?_ ?_
    | split

theorem keep_doKeyQueueTake {k : Nat} {a : State} {s : State}
    (hk : Sub 8194 k) (h : Keeps k a s) : Keeps k a (doKeyQueueTake s) := by
  unfold doKeyQueueTake
  repeat' first
    | with_reducible assumption
    | ((with_reducible refine Sub.of hk ?_); rfl)
    | with_reducible refine keep_keyTake ?_ ?_
    | with_reducible refine Keeps.branch ?_ ?_

theorem keep_doKeyRandom {k : Nat} {a : State} {s : State}
    (hk : Sub 30077362306 k) (h : Keeps k a s) : Keeps k a (doKeyRandom s) := by
  unfold doKeyRandom
  repeat' first
    | with_reducible assumption
    | ((with_reducible refine Sub.of hk ?_); rfl)
    | with_reducible refine keep_dWrite ?_ ?_
    | with_reducible refine keep_State_bump ?_ ?_
    | with_reducible refine keep_keyDone ?_ ?_
    | with_reducible refine keep_keySkip ?_ ?_
    | with_reducible refine keep_drawn ?_ ?_
    | split

theorem keep_doKpfCompletionTake {k : Nat} {a : State} {s : State}
    (hk : Sub 16386 k) (h : Keeps k a s) : Keeps k a (doKpfCompletionTake s) := by
  unfold doKpfCompletionTake
  repeat' first
    | with_reducible assumption
    | ((with_reducible refine Sub.of hk ?_); rfl)
    | with_reducible refine keep_kpfTake ?_ ?_
    | with_reducible refine Keeps.branch ?_ ?_

theorem keep_probation {k : Nat} {a : State} {s : State} {lane : Nat}
    (hk : Sub 2181038082 k) (h : Keeps k a s) : Keeps k a (probation s lane) := by
  unfold probation
  repeat' first
    | with_reducible assumption
    | ((with_reducible refine Sub.of hk ?_); rfl)
    | with_reducible refine keep_farAsk ?_ ?_
    | with_reducible refine keep_State_wbit ?_ ?_
    | (refine Keeps.twn (hk.bits 31 rfl) ?_; first | with_reducible assumption | with_reducible refine keep_farAsk ?_ ?_ | with_reducible refine keep_State_wbit ?_ ?_)

theorem keep_doLaneFault {k : Nat} {a : State} {lane : Fin 20} {cause : Fin 3} {s : State}
    (hk : Sub 68719476731 k) (h : Keeps k a s) : Keeps k a (doLaneFault lane cause s) := by
  unfold doLaneFault
  repeat' first
    | with_reducible assumption
    | ((with_reducible refine Sub.of hk ?_); rfl)
    | with_reducible refine keep_probation ?_ ?_
    | with_reducible refine keep_State_emit ?_ ?_
    | with_reducible refine keep_linkFault ?_ ?_
    | with_reducible refine keep_State_bump ?_ ?_
    | with_reducible refine keep_raise ?_ ?_
    | with_reducible refine Keeps.branch ?_ ?_
    | (refine Keeps.twn (hk.bits 31 rfl) ?_; first | with_reducible assumption | with_reducible refine keep_probation ?_ ?_ | with_reducible refine keep_State_emit ?_ ?_ | with_reducible refine keep_linkFault ?_ ?_ | with_reducible refine keep_State_bump ?_ ?_ | with_reducible refine keep_raise ?_ ?_)

theorem keep_widen {k : Nat} {a : State} {s : State}
    (hk : Sub 10737418240 k) (h : Keeps k a s) : Keeps k a (widen s) := by
  unfold widen
  repeat' first
    | with_reducible assumption
    | ((with_reducible refine Sub.of hk ?_); rfl)
    | with_reducible refine keep_State_emit ?_ ?_
    | with_reducible refine Keeps.branch ?_ ?_
    | (refine Keeps.twn (hk.bits 31 rfl) ?_; with_reducible assumption)

theorem keep_doLaneProbationPassed {k : Nat} {a : State} {lane : Fin 20} {s : State}
    (hk : Sub 10770972674 k) (h : Keeps k a s) : Keeps k a (doLaneProbationPassed lane s) := by
  unfold doLaneProbationPassed
  repeat' first
    | with_reducible assumption
    | ((with_reducible refine Sub.of hk ?_); rfl)
    | with_reducible refine keep_farDrop ?_ ?_
    | with_reducible refine keep_widen ?_ ?_
    | with_reducible refine Keeps.branch ?_ ?_
    | (refine Keeps.twn (hk.bits 31 rfl) ?_; first | with_reducible assumption | with_reducible refine keep_farDrop ?_ ?_ | with_reducible refine keep_widen ?_ ?_)

theorem keep_doLineReadDone {k : Nat} {a : State} {l : Nat} {err : LineErr} {reader : LineReader} {s : State}
    (hk : Sub 29559357570 k) (h : Keeps k a s) : Keeps k a (doLineReadDone l err reader s) := by
  unfold doLineReadDone
  repeat' first
    | with_reducible assumption
    | ((with_reducible refine Sub.of hk ?_); rfl)
    | with_reducible refine keep_readLine ?_ ?_
    | with_reducible refine Keeps.branch ?_ ?_

theorem keep_doLinkDown {k : Nat} {a : State} {l : Fin 16} {cause : Fin 3} {s : State}
    (hk : Sub 26843545730 k) (h : Keeps k a s) : Keeps k a (doLinkDown l cause s) := by
  unfold doLinkDown
  repeat' first
    | with_reducible assumption
    | ((with_reducible refine Sub.of hk ?_); rfl)
    | with_reducible refine keep_linkDown ?_ ?_
    | with_reducible refine Keeps.branch ?_ ?_

theorem keep_doLinkSilence {k : Nat} {a : State} {s : State}
    (hk : Sub 68719476731 k) (h : Keeps k a s) : Keeps k a (doLinkSilence s) := by
  unfold doLinkSilence
  repeat' first
    | with_reducible assumption
    | ((with_reducible refine Sub.of hk ?_); rfl)
    | with_reducible refine keep_linkFault ?_ ?_
    | with_reducible refine Keeps.branch ?_ ?_

theorem keep_setWidth {k : Nat} {a : State} {s : State} {m : Nat}
    (hk : Sub 2 k) (h : Keeps k a s) : Keeps k a (setWidth s m) := by
  unfold setWidth
  repeat' first
    | with_reducible assumption
    | ((with_reducible refine Sub.of hk ?_); rfl)
    | with_reducible refine keep_State_wr ?_ ?_

theorem keep_doLinkTrained {k : Nat} {a : State} {mask : BitVec 20} {s : State}
    (hk : Sub 27920957570 k) (h : Keeps k a s) : Keeps k a (doLinkTrained mask s) := by
  unfold doLinkTrained
  repeat' first
    | with_reducible assumption
    | ((with_reducible refine Sub.of hk ?_); rfl)
    | with_reducible refine keep_clearLink ?_ ?_
    | with_reducible refine keep_setTState ?_ ?_
    | with_reducible refine keep_setWidth ?_ ?_
    | with_reducible refine keep_withTag ?_ ?_
    | with_reducible refine Keeps.branch ?_ ?_
    | (refine Keeps.twn (hk.bits 31 rfl) ?_; first | with_reducible assumption | with_reducible refine keep_clearLink ?_ ?_ | with_reducible refine keep_setTState ?_ ?_ | with_reducible refine keep_setWidth ?_ ?_ | with_reducible refine keep_withTag ?_ ?_)

theorem keep_doLinkTrainingAttempt {k : Nat} {a : State} {s : State}
    (hk : Sub 10770972674 k) (h : Keeps k a s) : Keeps k a (doLinkTrainingAttempt s) := by
  unfold doLinkTrainingAttempt
  repeat' first
    | with_reducible assumption
    | ((with_reducible refine Sub.of hk ?_); rfl)
    | with_reducible refine keep_State_emit ?_ ?_
    | with_reducible refine keep_visilDown ?_ ?_
    | with_reducible refine Keeps.branch ?_ ?_

theorem keep_doLinkUp {k : Nat} {a : State} {l : Fin 16} {s : State}
    (hk : Sub 26843545730 k) (h : Keeps k a s) : Keeps k a (doLinkUp l s) := by
  unfold doLinkUp
  repeat' first
    | with_reducible assumption
    | ((with_reducible refine Sub.of hk ?_); rfl)
    | with_reducible refine keep_State_wbit ?_ ?_
    | with_reducible refine keep_raise ?_ ?_
    | with_reducible refine keep_showLanes ?_ ?_
    | with_reducible refine Keeps.branch ?_ ?_
    | (refine Keeps.prt (hk.bits 30 rfl) ?_; with_reducible assumption)

theorem keep_doLockup {k : Nat} {a : State} {core : Fin 4} {cause : LockCause} {pc : Nat} {s : State}
    (hk : Sub 64424509435 k) (h : Keeps k a s) : Keeps k a (doLockup core cause pc s) := by
  unfold doLockup
  repeat' first
    | with_reducible assumption
    | ((with_reducible refine Sub.of hk ?_); rfl)
    | with_reducible refine keep_raise ?_ ?_
    | with_reducible refine keep_sourceReset ?_ ?_
    | with_reducible refine Keeps.branch ?_ ?_

theorem keep_doLportMove {k : Nat} {a : State} {i : Nat} {s : State}
    (hk : Sub 27382513794 k) (h : Keeps k a s) : Keeps k a (doLportMove i s) := by
  unfold doLportMove
  repeat' first
    | with_reducible assumption
    | ((with_reducible refine Sub.of hk ?_); rfl)
    | intro _
    | with_reducible refine keep_modQp ?_ ?_
    | with_reducible refine keep_withContext ?_ ?_
    | with_reducible refine keep_showMiss ?_ ?_
    | (with_reducible refine Keeps.foldl ?_ ?_)
    | split
    | (refine Keeps.xpt (hk.bits 29 rfl) ?_; with_reducible assumption)

theorem keep_doMachineTimerExpiry {k : Nat} {a : State} {core : Fin 4} {s : State}
    (hk : Sub 2048 k) (h : Keeps k a s) : Keeps k a (doMachineTimerExpiry core s) := by
  unfold doMachineTimerExpiry
  repeat' first
    | with_reducible assumption
    | ((with_reducible refine Sub.of hk ?_); rfl)
    | with_reducible refine Keeps.branch ?_ ?_
    | (refine Keeps.cpx (hk.bits 11 rfl) ?_; first | with_reducible assumption)

theorem keep_tryLeaveRising {k : Nat} {a : State} {s : State}
    (hk : Sub 25774391491 k) (h : Keeps k a s) : Keeps k a (tryLeaveRising s) := by
  unfold tryLeaveRising
  repeat' first
    | with_reducible assumption
    | ((with_reducible refine Sub.of hk ?_); rfl)
    | with_reducible refine keep_setDev ?_ ?_
    | with_reducible refine keep_startRestore ?_ ?_
    | with_reducible refine keep_setRetain ?_ ?_
    | with_reducible refine keep_State_wr ?_ ?_
    | with_reducible refine Keeps.branch ?_ ?_
    | (refine Keeps.sav (hk.bits 17 rfl) ?_; first | with_reducible assumption | with_reducible refine keep_setDev ?_ ?_ | with_reducible refine keep_startRestore ?_ ?_ | with_reducible refine keep_setRetain ?_ ?_ | with_reducible refine keep_State_wr ?_ ?_)
    | (refine Keeps.dram (hk.bits 22 rfl) ?_ (by first | exact fun g => Memory.wf_memZero g | exact fun g => Memory.wf_memWrite g | exact fun g => Memory.wf_memPaste g | exact id | exact fun _ => rfl); first | with_reducible assumption | with_reducible refine keep_setDev ?_ ?_ | with_reducible refine keep_startRestore ?_ ?_ | with_reducible refine keep_setRetain ?_ ?_ | with_reducible refine keep_State_wr ?_ ?_)

theorem keep_doMainShaftLock {k : Nat} {a : State} {ref : Bool} {us : Nat} {s : State}
    (hk : Sub 25774442695 k) (h : Keeps k a s) : Keeps k a (doMainShaftLock ref us s) := by
  unfold doMainShaftLock
  repeat' first
    | with_reducible assumption
    | ((with_reducible refine Sub.of hk ?_); rfl)
    | with_reducible refine keep_showGates ?_ ?_
    | with_reducible refine keep_tryLeaveRising ?_ ?_
    | with_reducible refine keep_boot ?_ ?_
    | with_reducible refine keep_setBkp ?_ ?_
    | with_reducible refine keep_raise ?_ ?_
    | with_reducible refine keep_State_wr ?_ ?_
    | with_reducible refine Keeps.branch ?_ ?_
    | (refine Keeps.clk (hk.bits 15 rfl) ?_; with_reducible assumption)

theorem keep_fallNow {k : Nat} {a : State} {s : State} {why : Nat}
    (hk : Sub 25769803923 k) (h : Keeps k a s) : Keeps k a (fallNow s why) := by
  unfold fallNow
  repeat' first
    | with_reducible assumption
    | ((with_reducible refine Sub.of hk ?_); rfl)
    | with_reducible refine keep_stepBegin ?_ ?_
    | with_reducible refine keep_startFall ?_ ?_
    | with_reducible refine Keeps.branch ?_ ?_

theorem keep_doMainShaftLoss {k : Nat} {a : State} {lockloss : Bool} {shaftloss : Bool} {s : State}
    (hk : Sub 64424476667 k) (h : Keeps k a s) : Keeps k a (doMainShaftLoss lockloss shaftloss s) := by
  unfold doMainShaftLoss
  repeat' first
    | with_reducible assumption
    | ((with_reducible refine Sub.of hk ?_); rfl)
    | with_reducible refine keep_tornFlash ?_ ?_
    | with_reducible refine keep_State_bump ?_ ?_
    | with_reducible refine keep_stopShaft ?_ ?_
    | with_reducible refine keep_coldEffect ?_ ?_
    | with_reducible refine keep_raise ?_ ?_
    | with_reducible refine keep_State_wr ?_ ?_
    | with_reducible refine keep_fallNow ?_ ?_
    | with_reducible refine Keeps.branch ?_ ?_

theorem keep_doMarkwinHalve {k : Nat} {a : State} {c : Fin 16} {s : State}
    (hk : Sub 8388608 k) (h : Keeps k a s) : Keeps k a (doMarkwinHalve c s) := by
  unfold doMarkwinHalve
  repeat' first
    | with_reducible assumption
    | ((with_reducible refine Sub.of hk ?_); rfl)
    | with_reducible refine keep_setDrc ?_ ?_
    | with_reducible refine Keeps.branch ?_ ?_

theorem keep_mctpAnswer {k : Nat} {a : State} {s : State} {cmd : Nat} {data : List Nat}
    (hk : Sub 2 k) (h : Keeps k a s) : ∀ t, mctpAnswer s cmd data = some t → Keeps k a t.1 := by
  intro t ht
  unfold mctpAnswer at ht
  dsimp only at ht
  split at ht
  · split at ht <;> obtain rfl := Option.some.inj ht
    · exact h
    · exact keep_State_wr (hk.of rfl) h
  · exact Option.some.inj ht ▸ h
  · split at ht <;> exact Option.some.inj ht ▸ h
  · exact Option.some.inj ht ▸ h
  · contradiction

theorem keep_doMctpControlMessage {k : Nat} {a : State} {tag : BitVec 5} {cmd : BitVec 8} {data : List Nat} {s : State}
    (hk : Sub 8589934594 k) (h : Keeps k a s) : Keeps k a (doMctpControlMessage tag cmd data s) := by
  unfold doMctpControlMessage
  repeat' first
    | with_reducible assumption
    | ((with_reducible refine Sub.of hk ?_); rfl)
    | with_reducible refine keep_mctpAnswer ?_ ?_ _ (by assumption)
    | with_reducible refine keep_State_emit ?_ ?_
    | split

theorem keep_doMdioTransaction {k : Nat} {a : State} {write : Bool} {phy : BitVec 5} {reg : BitVec 5} {data : BitVec 16} {rdata : BitVec 16} {s : State}
    (hk : Sub 42949672962 k) (h : Keeps k a s) : Keeps k a (doMdioTransaction write phy reg data rdata s) := by
  unfold doMdioTransaction
  repeat' first
    | with_reducible assumption
    | ((with_reducible refine Sub.of hk ?_); rfl)
    | with_reducible refine keep_mdioRun ?_ ?_
    | with_reducible refine keep_State_wr ?_ ?_
    | with_reducible refine Keeps.branch ?_ ?_

theorem keep_echoCount {k : Nat} {a : State} {s : State} {port : Nat}
    (hk : Sub 1073741824 k) (h : Keeps k a s) : Keeps k a (echoCount s port) := by
  unfold echoCount
  repeat' first
    | with_reducible assumption
    | ((with_reducible refine Sub.of hk ?_); rfl)
    | (refine Keeps.prt (hk.bits 30 rfl) ?_; first | with_reducible assumption)

theorem keep_doMgtArpNsEcho {k : Nat} {a : State} {kind : Fin 4} {addr : Nat} {src : Nat} {vlan : Option Nat} {s : State}
    (hk : Sub 9663677440 k) (h : Keeps k a s) : Keeps k a (doMgtArpNsEcho kind addr src vlan s) := by
  unfold doMgtArpNsEcho
  repeat' first
    | with_reducible assumption
    | ((with_reducible refine Sub.of hk ?_); rfl)
    | with_reducible refine keep_echoCount ?_ ?_
    | with_reducible refine keep_State_emit ?_ ?_
    | with_reducible refine Keeps.branch ?_ ?_
    | (refine Keeps.mgtDrops (hk.bits 10 rfl) ?_; with_reducible assumption)

theorem keep_doMgtLinkStatusChange {k : Nat} {a : State} {up : Bool} {full : Bool} {speed : Fin 3} {s : State}
    (hk : Sub 2 k) (h : Keeps k a s) : Keeps k a (doMgtLinkStatusChange up full speed s) := by
  unfold doMgtLinkStatusChange
  repeat' first
    | with_reducible assumption
    | ((with_reducible refine Sub.of hk ?_); rfl)
    | with_reducible refine keep_State_wr ?_ ?_
    | with_reducible refine Keeps.branch ?_ ?_

theorem keep_doModuleFailed {k : Nat} {a : State} {m : Fin 8} {reading : Nat} {s : State}
    (hk : Sub 27417051547 k) (h : Keeps k a s) : Keeps k a (doModuleFailed m reading s) := by
  unfold doModuleFailed
  repeat' first
    | with_reducible assumption
    | ((with_reducible refine Sub.of hk ?_); rfl)
    | with_reducible refine keep_govStep ?_ ?_
    | with_reducible refine keep_State_wr ?_ ?_
    | with_reducible refine keep_markFailed ?_ ?_
    | with_reducible refine Keeps.branch ?_ ?_

theorem keep_doOperationResume {k : Nat} {a : State} {ch : Fin 32} {die : Nat} {s : State}
    (hk : Sub 25839534210 k) (h : Keeps k a s) : Keeps k a (doOperationResume ch die s) := by
  unfold doOperationResume
  repeat' first
    | with_reducible assumption
    | ((with_reducible refine Sub.of hk ?_); rfl)
    | (extract_lets +onlyGivenNames t
       first
       | (refine Keeps.have_ (k := k) (a := a) (t := t) ?_ ?_; unfold t; clear t; rotate_left; intro _; clear_value t; revert t; intros)
       | (clear_value t; revert t; intros)
       | (unfold t; clear t))
    | with_reducible refine keep_showErase ?_ ?_
    | with_reducible refine Keeps.branch ?_ ?_
    | split
    | (refine Keeps.stf (hk.bits 26 rfl) ?_; first | with_reducible assumption | with_reducible refine keep_showErase ?_ ?_)

theorem keep_missPacket {k : Nat} {a : State} {s : State} {i : Nat} {lport : Nat} {k' : Packet}
    (hk : Sub 26440892546 k) (h : Keeps k a s) : Keeps k a (missPacket s i lport k') := by
  unfold missPacket
  repeat' first
    | with_reducible assumption
    | ((with_reducible refine Sub.of hk ?_); rfl)
    | with_reducible refine keep_showMiss ?_ ?_
    | with_reducible refine keep_wantContext ?_ ?_
    | with_reducible refine keep_missFull ?_ ?_
    | with_reducible refine keep_State_bump ?_ ?_
    | with_reducible refine Keeps.branch ?_ ?_
    | (refine Keeps.xpt (hk.bits 29 rfl) ?_; first | with_reducible assumption | with_reducible refine keep_showMiss ?_ ?_ | with_reducible refine keep_wantContext ?_ ?_ | with_reducible refine keep_missFull ?_ ?_ | with_reducible refine keep_State_bump ?_ ?_)

theorem keep_doPacketReceive {k : Nat} {a : State} {lport : Nat} {k' : Packet} {s : State}
    (hk : Sub 27516733570 k) (h : Keeps k a s) : Keeps k a (doPacketReceive lport k' s) := by
  unfold doPacketReceive
  repeat' first
    | with_reducible assumption
    | ((with_reducible refine Sub.of hk ?_); rfl)
    | with_reducible refine keep_withContext ?_ ?_
    | with_reducible refine keep_State_bump ?_ ?_
    | with_reducible refine keep_dropFrame ?_ ?_
    | with_reducible refine keep_cmReceive ?_ ?_
    | with_reducible refine keep_missPacket ?_ ?_
    | with_reducible refine Keeps.branch ?_ ?_

theorem keep_doPairwaitExpiry {k : Nat} {a : State} {s : State}
    (hk : Sub 33000268162 k) (h : Keeps k a s) : Keeps k a (doPairwaitExpiry s) := by
  unfold doPairwaitExpiry
  repeat' first
    | with_reducible assumption
    | ((with_reducible refine Sub.of hk ?_); rfl)
    | with_reducible refine keep_enterSolo ?_ ?_
    | with_reducible refine keep_showGate ?_ ?_
    | with_reducible refine keep_visilDown ?_ ?_
    | with_reducible refine Keeps.branch ?_ ?_

theorem keep_doParkRoomFreed {k : Nat} {a : State} {p : Fin 4} {s : State}
    (hk : Sub 536870912 k) (h : Keeps k a s) : Keeps k a (doParkRoomFreed p s) := by
  unfold doParkRoomFreed
  repeat' first
    | with_reducible assumption
    | ((with_reducible refine Sub.of hk ?_); rfl)
    | with_reducible refine keep_setReq ?_ ?_
    | split

theorem keep_doPathLockoutEnd {k : Nat} {a : State} {path : Fin 5} {s : State}
    (hk : Sub 256 k) (h : Keeps k a s) : Keeps k a (doPathLockoutEnd path s) := by
  unfold doPathLockoutEnd
  repeat' first
    | with_reducible assumption
    | ((with_reducible refine Sub.of hk ?_); rfl)
    | with_reducible refine Keeps.branch ?_ ?_
    | (refine Keeps.dic (hk.bits 8 rfl) ?_; first | with_reducible assumption)

theorem keep_doPatrolPace {k : Nat} {a : State} {ch : Fin 32} {s : State}
    (hk : Sub 33554434 k) (h : Keeps k a s) : Keeps k a (doPatrolPace ch s) := by
  unfold doPatrolPace
  repeat' first
    | with_reducible assumption
    | ((with_reducible refine Sub.of hk ?_); rfl)
    | with_reducible refine keep_farAsk ?_ ?_
    | with_reducible refine Keeps.branch ?_ ?_

theorem keep_doPcieDoorbell {k : Nat} {a : State} {frame : List Nat} {s : State}
    (hk : Sub 68719476731 k) (h : Keeps k a s) : Keeps k a (doPcieDoorbell frame s) := by
  unfold doPcieDoorbell
  repeat' first
    | with_reducible assumption
    | ((with_reducible refine Sub.of hk ?_); rfl)
    | with_reducible refine keep_frameIn ?_ ?_
    | with_reducible refine Keeps.branch ?_ ?_
    | (refine Keeps.pci (hk.bits 9 rfl) ?_; with_reducible assumption)

theorem keep_doPcieLinkStateChange {k : Nat} {a : State} {up : Bool} {speed : Nat} {width : Nat} {s : State}
    (hk : Sub 25769803906 k) (h : Keeps k a s) : Keeps k a (doPcieLinkStateChange up speed width s) := by
  unfold doPcieLinkStateChange
  repeat' first
    | with_reducible assumption
    | ((with_reducible refine Sub.of hk ?_); rfl)
    | with_reducible refine keep_hostDown ?_ ?_
    | with_reducible refine keep_showPci ?_ ?_
    | with_reducible refine Keeps.branch ?_ ?_

theorem keep_doPcieNtftaken {k : Nat} {a : State} {s : State}
    (hk : Sub 8589935232 k) (h : Keeps k a s) : Keeps k a (doPcieNtftaken s) := by
  unfold doPcieNtftaken
  repeat' first
    | with_reducible assumption
    | ((with_reducible refine Sub.of hk ?_); rfl)
    | with_reducible refine keep_State_emit ?_ ?_
    | with_reducible refine Keeps.branch ?_ ?_
    | (refine Keeps.recd (hk.bits 7 rfl) ?_; with_reducible assumption)
    | (refine Keeps.pci (hk.bits 9 rfl) ?_; with_reducible assumption)
    | exact Keeps.build 640 (hk.of rfl) (by assumption) (by rfl) (by rfl) (by exact fun p hp => by cases p <;> first | exact absurd hp (by decide) | rfl) (by exact List.suffix_refl _) (by exact grown_refl _) (by exact id) (by exact id)

theorem keep_doPciePerst {k : Nat} {a : State} {asserted : Bool} {s : State}
    (hk : Sub 68719476731 k) (h : Keeps k a s) : Keeps k a (doPciePerst asserted s) := by
  unfold doPciePerst
  repeat' first
    | with_reducible assumption
    | ((with_reducible refine Sub.of hk ?_); rfl)
    | intro _
    | (extract_lets +onlyGivenNames t
       first
       | (refine Keeps.have_ (k := k) (a := a) (t := t) ?_ ?_; unfold t; clear t; rotate_left; intro _; clear_value t; revert t; intros)
       | (clear_value t; revert t; intros)
       | (unfold t; clear t))
    | with_reducible refine keep_showPci ?_ ?_
    | with_reducible refine keep_State_wr ?_ ?_
    | with_reducible refine keep_hostDown ?_ ?_
    | with_reducible refine keep_nextFrames ?_ ?_
    | with_reducible refine keep_endSession ?_ ?_
    | (with_reducible refine Keeps.foldl ?_ ?_)
    | (with_reducible refine Keeps.foldl_fst ?_ ?_)
    | with_reducible refine Keeps.branch ?_ ?_
    | split
    | (refine Keeps.dic (hk.bits 8 rfl) ?_; first | with_reducible assumption | with_reducible refine keep_showPci ?_ ?_ | with_reducible refine keep_State_wr ?_ ?_ | with_reducible refine keep_hostDown ?_ ?_ | with_reducible refine keep_nextFrames ?_ ?_ | with_reducible refine keep_endSession ?_ ?_)
    | (refine Keeps.pci (hk.bits 9 rfl) ?_; first | with_reducible assumption | with_reducible refine keep_showPci ?_ ?_ | with_reducible refine keep_State_wr ?_ ?_ | with_reducible refine keep_hostDown ?_ ?_ | with_reducible refine keep_nextFrames ?_ ?_ | with_reducible refine keep_endSession ?_ ?_)
    | exact Keeps.build 768 (hk.of rfl) (by first | assumption | exact keep_showPci (hk.of rfl) (by assumption) | exact keep_State_wr (hk.of rfl) (by assumption) | exact keep_hostDown (hk.of rfl) (by assumption) | exact keep_nextFrames (hk.of rfl) (by assumption) | exact keep_endSession (hk.of rfl) (by assumption)) (by rfl) (by rfl) (by exact fun p hp => by cases p <;> first | exact absurd hp (by decide) | rfl) (by exact List.suffix_refl _) (by exact grown_refl _) (by exact id) (by exact id)
    | exact Keeps.build 768 (hk.of rfl) h (by rfl) (by rfl) (by exact fun p hp => by cases p <;> first | exact absurd hp (by decide) | rfl) (by exact List.suffix_refl _) (by exact grown_refl _) (by exact id) (by exact id)

theorem keep_doPciePowerStateChange {k : Nat} {a : State} {d3hot : Bool} {s : State}
    (hk : Sub 2 k) (h : Keeps k a s) : Keeps k a (doPciePowerStateChange d3hot s) := by
  unfold doPciePowerStateChange
  repeat' first
    | with_reducible assumption
    | ((with_reducible refine Sub.of hk ?_); rfl)
    | with_reducible refine keep_State_wr ?_ ?_
    | with_reducible refine Keeps.branch ?_ ?_

theorem keep_drainTx {k : Nat} {a : State} {x : Nat} {x' : Nat} {x'' : Nat} {x''' : State}
    (hk : Sub 26843545600 k) (h : Keeps k a x''') : Keeps k a (drainTx x x' x'' x''') := by
  induction x generalizing x' x'' x''' with
  | zero => exact h
  | succ n ih =>
    unfold drainTx
    dsimp only
    split
    · exact h
    · exact ih (keep_State_emit (hk.of rfl) (keep_State_bump (hk.of rfl) (Keeps.prt (hk.bits 30 rfl) h)))

theorem keep_drainPorts {k : Nat} {a : State} {s : State}
    (hk : Sub 26843545600 k) (h : Keeps k a s) : Keeps k a (drainPorts s) := by
  unfold drainPorts
  repeat' first
    | with_reducible assumption
    | ((with_reducible refine Sub.of hk ?_); rfl)
    | intro _
    | with_reducible refine keep_drainTx ?_ ?_
    | (with_reducible refine Keeps.foldl ?_ ?_)
    | with_reducible refine Keeps.branch ?_ ?_

theorem keep_doPfcPauseReceived {k : Nat} {a : State} {l : Fin 16} {prio : Fin 8} {pause : Bool} {s : State}
    (hk : Sub 26843545600 k) (h : Keeps k a s) : Keeps k a (doPfcPauseReceived l prio pause s) := by
  unfold doPfcPauseReceived
  repeat' first
    | with_reducible assumption
    | ((with_reducible refine Sub.of hk ?_); rfl)
    | with_reducible refine keep_drainPorts ?_ ?_
    | with_reducible refine keep_State_bump ?_ ?_
    | with_reducible refine Keeps.branch ?_ ?_
    | (refine Keeps.prt (hk.bits 30 rfl) ?_; first | with_reducible assumption | with_reducible refine keep_drainPorts ?_ ?_ | with_reducible refine keep_State_bump ?_ ?_)

theorem keep_doPinReset {k : Nat} {a : State} {s : State}
    (hk : Sub 64424509435 k) (h : Keeps k a s) : Keeps k a (doPinReset s) := by
  unfold doPinReset
  repeat' first
    | with_reducible assumption
    | ((with_reducible refine Sub.of hk ?_); rfl)
    | with_reducible refine keep_sourceReset ?_ ?_
    | with_reducible refine Keeps.branch ?_ ?_

theorem keep_pmbFailed {k : Nat} {a : State} {s : State} {addr : Nat} {cmd : Nat} {cause : Nat}
    (hk : Sub 25769803904 k) (h : Keeps k a s) : Keeps k a (pmbFailed s addr cmd cause) := by
  unfold pmbFailed
  repeat' first
    | with_reducible assumption
    | ((with_reducible refine Sub.of hk ?_); rfl)
    | with_reducible refine keep_State_bump ?_ ?_
    | with_reducible refine keep_raise ?_ ?_

theorem keep_pollRail {k : Nat} {a : State} {reads : List (Option Nat × Option Nat)} {s : State} {r : Nat}
    (hk : Sub 25769803920 k) (h : Keeps k a s) : Keeps k a (pollRail reads s r) := by
  unfold pollRail
  repeat' first
    | with_reducible assumption
    | ((with_reducible refine Sub.of hk ?_); rfl)
    | (extract_lets +onlyGivenNames t
       first
       | (refine Keeps.have_ (k := k) (a := a) (t := t) ?_ ?_; unfold t; clear t; rotate_left; intro _; clear_value t; revert t; intros)
       | (refine Keeps.have_fst (k := k) (a := a) (t := t) ?_ ?_; unfold t; clear t; rotate_left; intro _; clear_value t; revert t; intros)
       | (clear_value t; revert t; intros)
       | (unfold t; clear t))
    | with_reducible refine keep_State_bump ?_ ?_
    | with_reducible refine keep_pmbFailed ?_ ?_
    | with_reducible refine keep_State_emit ?_ ?_
    | with_reducible refine Keeps.branch ?_ ?_
    | split
    | (refine Keeps.pwr (hk.bits 4 rfl) ?_; first | with_reducible assumption | with_reducible refine keep_State_bump ?_ ?_ | with_reducible refine keep_pmbFailed ?_ ?_ | with_reducible refine keep_State_emit ?_ ?_)

theorem keep_doPmbusTelemetryPoll {k : Nat} {a : State} {reads : List (Option Nat × Option Nat)} {s : State}
    (hk : Sub 25769803922 k) (h : Keeps k a s) : Keeps k a (doPmbusTelemetryPoll reads s) := by
  unfold doPmbusTelemetryPoll
  repeat' first
    | with_reducible assumption
    | ((with_reducible refine Sub.of hk ?_); rfl)
    | intro _
    | with_reducible refine keep_pollRail ?_ ?_
    | with_reducible refine keep_State_wr ?_ ?_
    | (with_reducible refine Keeps.foldl ?_ ?_)
    | with_reducible refine Keeps.branch ?_ ?_

theorem keep_marginDone {k : Nat} {a : State} {s : State} {r : Nat} {m : Nat} {res : PmbResult}
    (hk : Sub 25769804178 k) (h : Keeps k a s) : Keeps k a (marginDone s r m res) := by
  unfold marginDone
  repeat' first
    | with_reducible assumption
    | ((with_reducible refine Sub.of hk ?_); rfl)
    | with_reducible refine keep_showMargins ?_ ?_
    | with_reducible refine keep_pmbFailed ?_ ?_
    | with_reducible refine keep_cmdFailFree ?_ ?_
    | with_reducible refine keep_raise ?_ ?_
    | with_reducible refine keep_cmdDone ?_ ?_
    | with_reducible refine keep_State_wr ?_ ?_
    | with_reducible refine Keeps.branch ?_ ?_
    | (refine Keeps.pwr (hk.bits 4 rfl) ?_; first | with_reducible assumption | with_reducible refine keep_showMargins ?_ ?_ | with_reducible refine keep_pmbFailed ?_ ?_ | with_reducible refine keep_cmdFailFree ?_ ?_ | with_reducible refine keep_raise ?_ ?_ | with_reducible refine keep_cmdDone ?_ ?_ | with_reducible refine keep_State_wr ?_ ?_)

theorem keep_doPmbusTransactionDone {k : Nat} {a : State} {res : PmbResult} {s : State}
    (hk : Sub 25769804179 k) (h : Keeps k a s) : Keeps k a (doPmbusTransactionDone res s) := by
  unfold doPmbusTransactionDone
  repeat' first
    | with_reducible assumption
    | ((with_reducible refine Sub.of hk ?_); rfl)
    | with_reducible refine keep_pmbFailed ?_ ?_
    | with_reducible refine keep_stepEnd ?_ ?_
    | with_reducible refine keep_marginDone ?_ ?_
    | split

theorem keep_evict {k : Nat} {a : State} {s : State} {e : Nat}
    (hk : Sub 28054126722 k) (h : Keeps k a s) : Keeps k a (evict s e) := by
  unfold evict
  repeat' first
    | with_reducible assumption
    | ((with_reducible refine Sub.of hk ?_); rfl)
    | with_reducible refine keep_State_bump ?_ ?_
    | with_reducible refine keep_setCharge ?_ ?_
    | with_reducible refine keep_chargeEmptied ?_ ?_

theorem keep_heatVisit {k : Nat} {a : State} {s : State} {e : Nat}
    (hk : Sub 25772425346 k) (h : Keeps k a s) : Keeps k a (heatVisit s e) := by
  unfold heatVisit
  repeat' first
    | with_reducible assumption
    | ((with_reducible refine Sub.of hk ?_); rfl)
    | with_reducible refine keep_modExtent ?_ ?_
    | with_reducible refine Keeps.branch ?_ ?_

theorem keep_visitGroup {k : Nat} {a : State} {g : Nat} {s : State}
    (hk : Sub 28054126722 k) (h : Keeps k a s) : Keeps k a (visitGroup g s) := by
  unfold visitGroup
  repeat' first
    | with_reducible assumption
    | ((with_reducible refine Sub.of hk ?_); rfl)
    | (extract_lets +onlyGivenNames t
       first
       | (refine Keeps.have_ (k := k) (a := a) (t := t) ?_ ?_; unfold t; clear t; rotate_left; intro _; clear_value t; revert t; intros)
       | (clear_value t; revert t; intros)
       | (unfold t; clear t))
    | with_reducible refine keep_evict ?_ ?_
    | with_reducible refine keep_heatVisit ?_ ?_
    | with_reducible refine Keeps.branch ?_ ?_
    | split
    | (refine Keeps.tie (hk.bits 27 rfl) ?_; first | with_reducible assumption | with_reducible refine keep_evict ?_ ?_ | with_reducible refine keep_heatVisit ?_ ?_)

theorem keep_doPoolClockVisit {k : Nat} {a : State} {g : Nat} {s : State}
    (hk : Sub 28595191938 k) (h : Keeps k a s) : Keeps k a (doPoolClockVisit g s) := by
  unfold doPoolClockVisit
  repeat' first
    | with_reducible assumption
    | ((with_reducible refine Sub.of hk ?_); rfl)
    | (extract_lets +onlyGivenNames t
       first
       | (refine Keeps.have_ (k := k) (a := a) (t := t) ?_ ?_; unfold t; clear t; rotate_left; intro _; clear_value t; revert t; intros)
       | (clear_value t; revert t; intros)
       | (unfold t; clear t))
    | with_reducible refine keep_visitGroup ?_ ?_
    | with_reducible refine keep_retryWaiting ?_ ?_
    | with_reducible refine Keeps.branch ?_ ?_
    | split

theorem keep_setSteps {k : Nat} {a : State} {s : State} {cap : Nat} {temp : Nat}
    (hk : Sub 25786581130 k) (h : Keeps k a s) : Keeps k a (setSteps s cap temp) := by
  unfold setSteps
  repeat' first
    | with_reducible assumption
    | ((with_reducible refine Sub.of hk ?_); rfl)
    | with_reducible refine keep_groomRow ?_ ?_
    | with_reducible refine Keeps.branch ?_ ?_
    | (refine Keeps.gai (hk.bits 3 rfl) ?_; with_reducible assumption)

theorem keep_doPowerCapMeasurement {k : Nat} {a : State} {protectedW : Nat} {s : State}
    (hk : Sub 25786581130 k) (h : Keeps k a s) : Keeps k a (doPowerCapMeasurement protectedW s) := by
  unfold doPowerCapMeasurement
  repeat' first
    | with_reducible assumption
    | ((with_reducible refine Sub.of hk ?_); rfl)
    | with_reducible refine keep_setSteps ?_ ?_
    | with_reducible refine keep_raise ?_ ?_
    | with_reducible refine Keeps.branch ?_ ?_
    | split
    | (refine Keeps.gai (hk.bits 3 rfl) ?_; with_reducible assumption)

theorem keep_powerOnRecorder {k : Nat} {a : State} {s : State} {floorLost : Bool}
    (hk : Sub 25769803904 k) (h : Keeps k a s) : Keeps k a (powerOnRecorder s floorLost) := by
  unfold powerOnRecorder
  repeat' first
    | with_reducible assumption
    | ((with_reducible refine Sub.of hk ?_); rfl)
    | with_reducible refine keep_restartRecorder ?_ ?_
    | with_reducible refine keep_raise ?_ ?_
    | with_reducible refine Keeps.branch ?_ ?_
    | (refine Keeps.recd (hk.bits 7 rfl) ?_; with_reducible assumption)

theorem keep_reportNibbles {k : Nat} {a : State} {s : State}
    (hk : Sub 25769803904 k) (h : Keeps k a s) : Keeps k a (reportNibbles s) := by
  unfold reportNibbles
  repeat' first
    | with_reducible assumption
    | ((with_reducible refine Sub.of hk ?_); rfl)
    | intro _
    | with_reducible refine keep_raise ?_ ?_
    | (with_reducible refine Keeps.foldl ?_ ?_)
    | with_reducible refine Keeps.branch ?_ ?_

theorem keep_doPowerOnReset {k : Nat} {a : State} {floorLost : Bool} {s : State}
    (hk : Sub 64424509435 k) (h : Keeps k a s) : Keeps k a (doPowerOnReset floorLost s) := by
  unfold doPowerOnReset
  repeat' first
    | with_reducible assumption
    | ((with_reducible refine Sub.of hk ?_); rfl)
    | with_reducible refine keep_afterOff ?_ ?_
    | with_reducible refine keep_powerOnRecorder ?_ ?_
    | with_reducible refine keep_recordReset ?_ ?_
    | with_reducible refine keep_afterReset ?_ ?_
    | with_reducible refine keep_readReach ?_ ?_
    | with_reducible refine keep_raise ?_ ?_
    | with_reducible refine keep_enterStandby ?_ ?_
    | with_reducible refine keep_reportNibbles ?_ ?_
    | split

theorem keep_doPrtArpNsEcho {k : Nat} {a : State} {l : Fin 16} {kind : Fin 4} {addr : Nat} {src : Nat} {s : State}
    (hk : Sub 26843545600 k) (h : Keeps k a s) : Keeps k a (doPrtArpNsEcho l kind addr src s) := by
  unfold doPrtArpNsEcho
  repeat' first
    | with_reducible assumption
    | ((with_reducible refine Sub.of hk ?_); rfl)
    | with_reducible refine keep_State_bump ?_ ?_
    | with_reducible refine keep_State_emit ?_ ?_
    | with_reducible refine keep_dropFrame ?_ ?_
    | with_reducible refine keep_echoCount ?_ ?_
    | with_reducible refine Keeps.branch ?_ ?_

theorem keep_doPwrBtnPress {k : Nat} {a : State} {ms : Nat} {s : State}
    (hk : Sub 27417084347 k) (h : Keeps k a s) : Keeps k a (doPwrBtnPress ms s) := by
  unfold doPwrBtnPress
  repeat' first
    | with_reducible assumption
    | ((with_reducible refine Sub.of hk ?_); rfl)
    | with_reducible refine keep_offRequest ?_ ?_
    | with_reducible refine keep_onRequest ?_ ?_
    | with_reducible refine Keeps.branch ?_ ?_

theorem keep_doQpInspectToErrorCmd {k : Nat} {a : State} {session : Nat} {s : State}
    (hk : Sub 10202644738 k) (h : Keeps k a s) : Keeps k a (doQpInspectToErrorCmd session s) := by
  unfold doQpInspectToErrorCmd
  repeat' first
    | with_reducible assumption
    | ((with_reducible refine Sub.of hk ?_); rfl)
    | with_reducible refine keep_qpInspectError ?_ ?_
    | with_reducible refine Keeps.branch ?_ ?_

theorem keep_doQuietBoundExpiry {k : Nat} {a : State} {block : Fin 58} {s : State}
    (hk : Sub 25769803906 k) (h : Keeps k a s) : Keeps k a (doQuietBoundExpiry block s) := by
  unfold doQuietBoundExpiry
  repeat' first
    | with_reducible assumption
    | ((with_reducible refine Sub.of hk ?_); rfl)
    | with_reducible refine keep_raise ?_ ?_
    | with_reducible refine keep_State_wr ?_ ?_
    | with_reducible refine Keeps.branch ?_ ?_

theorem keep_doQuietPointTake {k : Nat} {a : State} {block : Fin 58} {s : State}
    (hk : Sub 27265859978 k) (h : Keeps k a s) : Keeps k a (doQuietPointTake block s) := by
  unfold doQuietPointTake
  repeat' first
    | with_reducible assumption
    | ((with_reducible refine Sub.of hk ?_); rfl)
    | with_reducible refine keep_gaitTake ?_ ?_
    | with_reducible refine keep_quietPoint ?_ ?_
    | with_reducible refine keep_tieQuiet ?_ ?_
    | with_reducible refine Keeps.branch ?_ ?_

theorem keep_quotaAll {k : Nat} {a : State} {s : State}
    (hk : Sub 28054126722 k) (h : Keeps k a s) : Keeps k a (quotaAll s) := by
  unfold quotaAll
  repeat' first
    | with_reducible assumption
    | ((with_reducible refine Sub.of hk ?_); rfl)
    | intro _
    | with_reducible refine keep_quotaRun ?_ ?_
    | (with_reducible refine Keeps.foldl ?_ ?_)

theorem keep_rebuildRings {k : Nat} {a : State} {s : State}
    (hk : Sub 134217728 k) (h : Keeps k a s) : Keeps k a (rebuildRings s) := by
  unfold rebuildRings
  repeat' first
    | with_reducible assumption
    | ((with_reducible refine Sub.of hk ?_); rfl)
    | intro _
    | with_reducible refine keep_ringAppend ?_ ?_
    | (with_reducible refine Keeps.foldl ?_ ?_)
    | with_reducible refine Keeps.branch ?_ ?_
    | (refine Keeps.tie (hk.bits 27 rfl) ?_; with_reducible assumption)

theorem keep_doQuotaRingRebuildDone {k : Nat} {a : State} {s : State}
    (hk : Sub 28595191938 k) (h : Keeps k a s) : Keeps k a (doQuotaRingRebuildDone s) := by
  unfold doQuotaRingRebuildDone
  repeat' first
    | with_reducible assumption
    | ((with_reducible refine Sub.of hk ?_); rfl)
    | (extract_lets +onlyGivenNames t
       first
       | (refine Keeps.have_ (k := k) (a := a) (t := t) ?_ ?_; unfold t; clear t; rotate_left; intro _; clear_value t; revert t; intros)
       | (clear_value t; revert t; intros)
       | (unfold t; clear t))
    | with_reducible refine keep_quotaAll ?_ ?_
    | with_reducible refine keep_rebuildRings ?_ ?_
    | with_reducible refine keep_State_wr ?_ ?_
    | with_reducible refine keep_retryWaiting ?_ ?_
    | with_reducible refine Keeps.branch ?_ ?_
    | split

theorem keep_railLost {k : Nat} {a : State} {s : State} {r : Nat}
    (hk : Sub 64424509435 k) (h : Keeps k a s) : Keeps k a (railLost s r) := by
  unfold railLost
  repeat' first
    | with_reducible assumption
    | ((with_reducible refine Sub.of hk ?_); rfl)
    | with_reducible refine keep_flagRail ?_ ?_
    | with_reducible refine keep_brownOutStart ?_ ?_
    | with_reducible refine Keeps.branch ?_ ?_

theorem keep_railFall {k : Nat} {a : State} {s : State} {r : Nat}
    (hk : Sub 64424509435 k) (h : Keeps k a s) : Keeps k a (railFall s r) := by
  unfold railFall
  repeat' first
    | with_reducible assumption
    | ((with_reducible refine Sub.of hk ?_); rfl)
    | with_reducible refine keep_railLost ?_ ?_
    | with_reducible refine keep_flagRail ?_ ?_
    | with_reducible refine keep_State_wbit ?_ ?_
    | with_reducible refine keep_stepEnd ?_ ?_
    | with_reducible refine Keeps.branch ?_ ?_
    | (refine Keeps.pwr (hk.bits 4 rfl) ?_; with_reducible assumption)

theorem keep_doRailGoodChange {k : Nat} {a : State} {r : Fin 24} {high : Bool} {s : State}
    (hk : Sub 64424509435 k) (h : Keeps k a s) : Keeps k a (doRailGoodChange r high s) := by
  unfold doRailGoodChange
  repeat' first
    | with_reducible assumption
    | ((with_reducible refine Sub.of hk ?_); rfl)
    | with_reducible refine keep_railFall ?_ ?_
    | with_reducible refine Keeps.branch ?_ ?_
    | (refine Keeps.pwr (hk.bits 4 rfl) ?_; with_reducible assumption)

theorem keep_enableDone {k : Nat} {a : State} {s : State} {r : Nat}
    (hk : Sub 25769803923 k) (h : Keeps k a s) : Keeps k a (enableDone s r) := by
  unfold enableDone
  repeat' first
    | with_reducible assumption
    | ((with_reducible refine Sub.of hk ?_); rfl)
    | with_reducible refine keep_State_wbit ?_ ?_
    | with_reducible refine keep_stepEnd ?_ ?_
    | with_reducible refine Keeps.branch ?_ ?_

theorem keep_doRailGoodQualified {k : Nat} {a : State} {r : Fin 24} {s : State}
    (hk : Sub 25769803923 k) (h : Keeps k a s) : Keeps k a (doRailGoodQualified r s) := by
  unfold doRailGoodQualified
  repeat' first
    | with_reducible assumption
    | ((with_reducible refine Sub.of hk ?_); rfl)
    | with_reducible refine keep_State_wbit ?_ ?_
    | with_reducible refine keep_showBrownOut ?_ ?_
    | with_reducible refine keep_enableDone ?_ ?_
    | with_reducible refine Keeps.branch ?_ ?_
    | (refine Keeps.pwr (hk.bits 4 rfl) ?_; first | with_reducible assumption | with_reducible refine keep_State_wbit ?_ ?_ | with_reducible refine keep_showBrownOut ?_ ?_ | with_reducible refine keep_enableDone ?_ ?_)

theorem keep_doRankIdleSelfRefresh {k : Nat} {a : State} {c : Fin 16} {rank : Fin 4} {s : State}
    (hk : Sub 17179869186 k) (h : Keeps k a s) : Keeps k a (doRankIdleSelfRefresh c rank s) := by
  unfold doRankIdleSelfRefresh
  repeat' first
    | with_reducible assumption
    | ((with_reducible refine Sub.of hk ?_); rfl)
    | with_reducible refine keep_State_wbit ?_ ?_
    | with_reducible refine keep_State_bump ?_ ?_
    | with_reducible refine Keeps.branch ?_ ?_

theorem keep_doReclaimStart {k : Nat} {a : State} {s : State}
    (hk : Sub 25836912768 k) (h : Keeps k a s) : Keeps k a (doReclaimStart s) := by
  unfold doReclaimStart
  repeat' first
    | with_reducible assumption
    | ((with_reducible refine Sub.of hk ?_); rfl)
    | with_reducible refine keep_raise ?_ ?_
    | with_reducible refine Keeps.branch ?_ ?_
    | (refine Keeps.stf (hk.bits 26 rfl) ?_; first | with_reducible assumption | with_reducible refine keep_raise ?_ ?_)

theorem keep_doRefreshDue {k : Nat} {a : State} {c : Fin 16} {rank : Fin 4} {busy : Bool} {s : State}
    (hk : Sub 17188257792 k) (h : Keeps k a s) : Keeps k a (doRefreshDue c rank busy s) := by
  unfold doRefreshDue
  repeat' first
    | with_reducible assumption
    | ((with_reducible refine Sub.of hk ?_); rfl)
    | with_reducible refine keep_State_bump ?_ ?_
    | with_reducible refine keep_setDrc ?_ ?_
    | with_reducible refine Keeps.branch ?_ ?_

theorem keep_doRefwaitExpiry {k : Nat} {a : State} {s : State}
    (hk : Sub 25769836672 k) (h : Keeps k a s) : Keeps k a (doRefwaitExpiry s) := by
  unfold doRefwaitExpiry
  repeat' first
    | with_reducible assumption
    | ((with_reducible refine Sub.of hk ?_); rfl)
    | with_reducible refine keep_raise ?_ ?_
    | with_reducible refine Keeps.branch ?_ ?_
    | (refine Keeps.clk (hk.bits 15 rfl) ?_; with_reducible assumption)

theorem keep_doRegionDrainComplete {k : Nat} {a : State} {i : Fin 16384} {s : State}
    (hk : Sub 25772425346 k) (h : Keeps k a s) : Keeps k a (doRegionDrainComplete i s) := by
  unfold doRegionDrainComplete
  repeat' first
    | with_reducible assumption
    | ((with_reducible refine Sub.of hk ?_); rfl)
    | with_reducible refine keep_drainDone ?_ ?_
    | with_reducible refine Keeps.branch ?_ ?_

theorem keep_doRehearsalDone {k : Nat} {a : State} {us : Nat} {s : State}
    (hk : Sub 25873228162 k) (h : Keeps k a s) : Keeps k a (doRehearsalDone us s) := by
  unfold doRehearsalDone
  repeat' first
    | with_reducible assumption
    | ((with_reducible refine Sub.of hk ?_); rfl)
    | with_reducible refine keep_farDrop ?_ ?_
    | with_reducible refine keep_State_wr ?_ ?_
    | with_reducible refine keep_eraseFree ?_ ?_
    | with_reducible refine keep_clearSlot ?_ ?_
    | with_reducible refine keep_State_bump ?_ ?_
    | with_reducible refine keep_cmdFailFree ?_ ?_
    | with_reducible refine keep_raise ?_ ?_
    | with_reducible refine keep_cmdDone ?_ ?_
    | with_reducible refine Keeps.branch ?_ ?_
    | (refine Keeps.sav (hk.bits 17 rfl) ?_; with_reducible assumption)

theorem keep_doRehearsalStart {k : Nat} {a : State} {s : State}
    (hk : Sub 17213562882 k) (h : Keeps k a s) : Keeps k a (doRehearsalStart s) := by
  unfold doRehearsalStart
  repeat' first
    | with_reducible assumption
    | ((with_reducible refine Sub.of hk ?_); rfl)
    | with_reducible refine keep_rehearse ?_ ?_
    | with_reducible refine Keeps.branch ?_ ?_

theorem keep_doReinLoopTick {k : Nat} {a : State} {p : Fin 4} {share : Nat} {s : State}
    (hk : Sub 25769803906 k) (h : Keeps k a s) : Keeps k a (doReinLoopTick p share s) := by
  unfold doReinLoopTick
  repeat' first
    | with_reducible assumption
    | ((with_reducible refine Sub.of hk ?_); rfl)
    | with_reducible refine keep_raise ?_ ?_
    | with_reducible refine keep_State_wr ?_ ?_
    | with_reducible refine Keeps.branch ?_ ?_

theorem keep_doReplayTimer {k : Nat} {a : State} {s : State}
    (hk : Sub 68719476731 k) (h : Keeps k a s) : Keeps k a (doReplayTimer s) := by
  unfold doReplayTimer
  repeat' first
    | with_reducible assumption
    | ((with_reducible refine Sub.of hk ?_); rfl)
    | with_reducible refine keep_replayAsked ?_ ?_
    | with_reducible refine Keeps.branch ?_ ?_

theorem keep_netDone {k : Nat} {a : State} {s : State} {o : Rop} {data : List Nat}
    (hk : Sub 29946806402 k) (h : Keeps k a s) : Keeps k a (netDone s o data) := by
  unfold netDone
  repeat' first
    | with_reducible assumption
    | ((with_reducible refine Sub.of hk ?_); rfl)
    | with_reducible refine keep_cancelEnd ?_ ?_
    | with_reducible refine keep_State_bump ?_ ?_
    | with_reducible refine keep_setJob ?_ ?_
    | split

theorem keep_doRequesterAckReceived {k : Nat} {a : State} {i : Fin 16384} {psn : Nat} {data : List Nat} {s : State}
    (hk : Sub 29946806402 k) (h : Keeps k a s) : Keeps k a (doRequesterAckReceived i psn data s) := by
  unfold doRequesterAckReceived
  repeat' first
    | with_reducible assumption
    | ((with_reducible refine Sub.of hk ?_); rfl)
    | intro _
    | with_reducible refine keep_netDone ?_ ?_
    | with_reducible refine keep_setRq ?_ ?_
    | with_reducible refine keep_showMst ?_ ?_
    | with_reducible refine keep_rqPump ?_ ?_
    | (with_reducible refine Keeps.foldl ?_ ?_)
    | with_reducible refine Keeps.branch ?_ ?_

theorem keep_doRequesterCnp {k : Nat} {a : State} {i : Fin 16384} {s : State}
    (hk : Sub 17448304640 k) (h : Keeps k a s) : Keeps k a (doRequesterCnp i s) := by
  unfold doRequesterCnp
  repeat' first
    | with_reducible assumption
    | ((with_reducible refine Sub.of hk ?_); rfl)
    | with_reducible refine keep_setRq ?_ ?_
    | with_reducible refine keep_State_bump ?_ ?_
    | with_reducible refine Keeps.branch ?_ ?_

theorem keep_rqResend {k : Nat} {a : State} {s : State} {i : Nat}
    (hk : Sub 26843545600 k) (h : Keeps k a s) : Keeps k a (rqResend s i) := by
  unfold rqResend
  repeat' first
    | with_reducible assumption
    | ((with_reducible refine Sub.of hk ?_); rfl)
    | with_reducible refine keep_txPacket ?_ ?_
    | with_reducible refine Keeps.branch ?_ ?_

theorem keep_rqRetry {k : Nat} {a : State} {s : State} {i : Nat} {double : Bool}
    (hk : Sub 29946806402 k) (h : Keeps k a s) : Keeps k a (rqRetry s i double) := by
  unfold rqRetry
  repeat' first
    | with_reducible assumption
    | ((with_reducible refine Sub.of hk ?_); rfl)
    | with_reducible refine keep_rqError ?_ ?_
    | with_reducible refine keep_setRq ?_ ?_
    | with_reducible refine keep_rqResend ?_ ?_
    | with_reducible refine keep_State_bump ?_ ?_
    | with_reducible refine keep_showMst ?_ ?_
    | with_reducible refine keep_raise ?_ ?_
    | with_reducible refine Keeps.branch ?_ ?_

theorem keep_doRequesterNakReceived {k : Nat} {a : State} {i : Fin 16384} {psn : Nat} {syndrome : Nat} {s : State}
    (hk : Sub 29946806402 k) (h : Keeps k a s) : Keeps k a (doRequesterNakReceived i psn syndrome s) := by
  unfold doRequesterNakReceived
  repeat' first
    | with_reducible assumption
    | ((with_reducible refine Sub.of hk ?_); rfl)
    | with_reducible refine keep_rqError ?_ ?_
    | with_reducible refine keep_showMst ?_ ?_
    | with_reducible refine keep_rqRetry ?_ ?_
    | with_reducible refine keep_raise ?_ ?_
    | with_reducible refine Keeps.branch ?_ ?_

theorem keep_doRequesterRateRise {k : Nat} {a : State} {i : Fin 16384} {s : State}
    (hk : Sub 268435456 k) (h : Keeps k a s) : Keeps k a (doRequesterRateRise i s) := by
  unfold doRequesterRateRise
  repeat' first
    | with_reducible assumption
    | ((with_reducible refine Sub.of hk ?_); rfl)
    | with_reducible refine keep_setRq ?_ ?_
    | with_reducible refine Keeps.branch ?_ ?_

theorem keep_doRequesterRnrNak {k : Nat} {a : State} {i : Fin 16384} {s : State}
    (hk : Sub 29946806402 k) (h : Keeps k a s) : Keeps k a (doRequesterRnrNak i s) := by
  unfold doRequesterRnrNak
  repeat' first
    | with_reducible assumption
    | ((with_reducible refine Sub.of hk ?_); rfl)
    | with_reducible refine keep_rqError ?_ ?_
    | with_reducible refine keep_setRq ?_ ?_
    | with_reducible refine keep_showMst ?_ ?_
    | with_reducible refine keep_raise ?_ ?_
    | with_reducible refine Keeps.branch ?_ ?_

theorem keep_doRequesterRnrWaitEnd {k : Nat} {a : State} {i : Fin 16384} {s : State}
    (hk : Sub 27111981058 k) (h : Keeps k a s) : Keeps k a (doRequesterRnrWaitEnd i s) := by
  unfold doRequesterRnrWaitEnd
  repeat' first
    | with_reducible assumption
    | ((with_reducible refine Sub.of hk ?_); rfl)
    | with_reducible refine keep_setRq ?_ ?_
    | with_reducible refine keep_rqResend ?_ ?_
    | with_reducible refine keep_showMst ?_ ?_
    | with_reducible refine keep_rqPump ?_ ?_
    | with_reducible refine Keeps.branch ?_ ?_

theorem keep_doRequesterTimeout {k : Nat} {a : State} {i : Fin 16384} {s : State}
    (hk : Sub 29946806402 k) (h : Keeps k a s) : Keeps k a (doRequesterTimeout i s) := by
  unfold doRequesterTimeout
  repeat' first
    | with_reducible assumption
    | ((with_reducible refine Sub.of hk ?_); rfl)
    | with_reducible refine keep_rqRetry ?_ ?_
    | with_reducible refine Keeps.branch ?_ ?_

theorem keep_doResetOutputStretchEnd {k : Nat} {a : State} {o : Fin 4} {s : State}
    (hk : Sub 25769803955 k) (h : Keeps k a s) : Keeps k a (doResetOutputStretchEnd o s) := by
  unfold doResetOutputStretchEnd
  repeat' first
    | with_reducible assumption
    | ((with_reducible refine Sub.of hk ?_); rfl)
    | with_reducible refine keep_State_wbit ?_ ?_
    | with_reducible refine keep_stepEnd ?_ ?_
    | with_reducible refine Keeps.branch ?_ ?_
    | (refine Keeps.rst (hk.bits 5 rfl) ?_; with_reducible assumption)

theorem keep_warmWalk {k : Nat} {a : State} {s : State}
    (hk : Sub 134742018 k) (h : Keeps k a s) : Keeps k a (warmWalk s) := by
  unfold warmWalk
  repeat' first
    | with_reducible assumption
    | ((with_reducible refine Sub.of hk ?_); rfl)
    | with_reducible refine keep_recountDirty ?_ ?_
    | (refine Keeps.maps (hk.bits 19 rfl) ?_; with_reducible assumption)
    | (refine Keeps.tie (hk.bits 27 rfl) ?_; with_reducible assumption)
    | exact Keeps.build 134742016 (hk.of rfl) (by assumption) (by rfl) (by rfl) (by exact fun p hp => by cases p <;> first | exact absurd hp (by decide) | rfl) (by exact List.suffix_refl _) (by exact grown_refl _) (by exact id) (by exact id)

theorem keep_makeBlank {k : Nat} {a : State} {s : State} {why : Nat}
    (hk : Sub 25773605250 k) (h : Keeps k a s) : Keeps k a (makeBlank s why) := by
  unfold makeBlank
  repeat' first
    | with_reducible assumption
    | ((with_reducible refine Sub.of hk ?_); rfl)
    | (extract_lets +onlyGivenNames t
       first
       | (refine Keeps.have_ (k := k) (a := a) (t := t) ?_ ?_; unfold t; clear t; rotate_left; intro _; clear_value t; revert t; intros))
    | with_reducible refine keep_setPair ?_ ?_
    | with_reducible refine keep_setEnt ?_ ?_
    | with_reducible refine keep_setRole ?_ ?_
    | with_reducible refine keep_raise ?_ ?_
    | (refine Keeps.sav (hk.bits 17 rfl) ?_; with_reducible assumption)
    | (refine Keeps.maps (hk.bits 19 rfl) ?_; with_reducible assumption)
    | (refine Keeps.log (hk.bits 20 rfl) ?_; with_reducible assumption)
    | exact Keeps.build 1703936 (hk.of rfl) (by assumption) (by rfl) (by rfl) (by exact fun p hp => by cases p <;> first | exact absurd hp (by decide) | rfl) (by exact List.suffix_refl _) (by exact grown_refl _) (by exact id) (by exact id)

theorem keep_restoreChoose {k : Nat} {a : State} {s : State} {bad : List Nat}
    (hk : Sub 25773613442 k) (h : Keeps k a s) : Keeps k a (restoreChoose s bad) := by
  unfold restoreChoose
  repeat' first
    | with_reducible assumption
    | ((with_reducible refine Sub.of hk ?_); rfl)
    | (extract_lets +onlyGivenNames t
       first
       | (refine Keeps.have_ (k := k) (a := a) (t := t) ?_ ?_; unfold t; clear t; rotate_left; intro _; clear_value t; revert t; intros)
       | (clear_value t; revert t; intros)
       | (unfold t; clear t))
    | with_reducible refine keep_showSeals ?_ ?_
    | with_reducible refine keep_setEnt ?_ ?_
    | with_reducible refine keep_deriveSave ?_ ?_
    | with_reducible refine keep_raise ?_ ?_
    | with_reducible refine keep_makeBlank ?_ ?_
    | with_reducible refine Keeps.branch ?_ ?_
    | split
    | (refine Keeps.sav (hk.bits 17 rfl) ?_; first | with_reducible assumption | with_reducible refine keep_showSeals ?_ ?_ | with_reducible refine keep_setEnt ?_ ?_ | with_reducible refine keep_deriveSave ?_ ?_ | with_reducible refine keep_raise ?_ ?_ | with_reducible refine keep_makeBlank ?_ ?_)

theorem keep_loadMapWord {k : Nat} {a : State} {s : State} {a' : Nat} {v : Nat}
    (hk : Sub 524288 k) (h : Keeps k a s) : Keeps k a (loadMapWord s a' v) := by
  unfold loadMapWord
  extract_lets +onlyGivenNames g m put
  have hp : ∀ n, Keeps k a (put n) := fun n => Keeps.maps (hk.bits 19 rfl) h
  clear_value put m g
  repeat' first
    | exact hp _
    | split

theorem keep_loadMapPage {k : Nat} {a : State} {s : State} {f : Nat} {cells : List Host.Cell}
    (hk : Sub 524288 k) (h : Keeps k a s) : Keeps k a (loadMapPage s f cells) := by
  unfold loadMapPage
  repeat' first
    | with_reducible assumption
    | ((with_reducible refine Sub.of hk ?_); rfl)
    | intro _
    | with_reducible refine keep_loadMapWord ?_ ?_
    | (with_reducible refine Keeps.foldl ?_ ?_)

theorem keep_loadClean {k : Nat} {a : State} {saved : Nat → Bool} {s : State} {es : List (Nat × SLoc)}
    (hk : Sub 524288 k) (h : Keeps k a s) : Keeps k a (loadClean saved s es) := by
  unfold loadClean
  repeat' first
    | with_reducible assumption
    | ((with_reducible refine Sub.of hk ?_); rfl)
    | intro _
    | with_reducible refine keep_loadMapPage ?_ ?_
    | (with_reducible refine Keeps.foldl ?_ ?_)
    | split

theorem keep_restoreMaps {k : Nat} {a : State} {s : State} {bad : List Nat}
    (hk : Sub 25773605250 k) (h : Keeps k a s) : Keeps k a (restoreMaps s bad) := by
  unfold restoreMaps
  repeat' first
    | with_reducible assumption
    | ((with_reducible refine Sub.of hk ?_); rfl)
    | with_reducible refine keep_setPair ?_ ?_
    | with_reducible refine keep_showFences ?_ ?_
    | with_reducible refine keep_setRole ?_ ?_
    | with_reducible refine keep_loadClean ?_ ?_
    | with_reducible refine keep_showLog ?_ ?_
    | with_reducible refine keep_makeBlank ?_ ?_
    | split
    | (refine Keeps.sav (hk.bits 17 rfl) ?_; with_reducible assumption)
    | (refine Keeps.maps (hk.bits 19 rfl) ?_; with_reducible assumption)
    | (refine Keeps.log (hk.bits 20 rfl) ?_; with_reducible assumption)
    | exact Keeps.build 1703936 (hk.of rfl) (by assumption) (by rfl) (by rfl) (by exact fun p hp => by cases p <;> first | exact absurd hp (by decide) | rfl) (by exact List.suffix_refl _) (by exact grown_refl _) (by exact id) (by exact id)

theorem keep_restoreCharges {k : Nat} {a : State} {s : State}
    (hk : Sub 28054126722 k) (h : Keeps k a s) : Keeps k a (restoreCharges s) := by
  unfold restoreCharges
  repeat' first
    | with_reducible assumption
    | ((with_reducible refine Sub.of hk ?_); rfl)
    | intro _
    | with_reducible refine keep_clearL1 ?_ ?_
    | with_reducible refine keep_showGroups ?_ ?_
    | with_reducible refine keep_drainDone ?_ ?_
    | with_reducible refine keep_clearL2 ?_ ?_
    | with_reducible refine keep_rebuildRings ?_ ?_
    | with_reducible refine keep_quotaAll ?_ ?_
    | with_reducible refine keep_setCharge ?_ ?_
    | with_reducible refine keep_State_bump ?_ ?_
    | with_reducible refine keep_raise ?_ ?_
    | (with_reducible refine Keeps.foldl ?_ ?_)
    | (refine Keeps.maps (hk.bits 19 rfl) ?_; with_reducible assumption)
    | (refine Keeps.tie (hk.bits 27 rfl) ?_; with_reducible assumption)
    | exact Keeps.build 134742016 (hk.of rfl) (by assumption) (by rfl) (by rfl) (by exact fun p hp => by cases p <;> first | exact absurd hp (by decide) | rfl) (by exact List.suffix_refl _) (by exact grown_refl _) (by exact id) (by exact id)

theorem keep_restoreWalk {k : Nat} {a : State} {s : State}
    (hk : Sub 134742018 k) (h : Keeps k a s) : Keeps k a (restoreWalk s) := by
  unfold restoreWalk
  repeat' first
    | with_reducible assumption
    | ((with_reducible refine Sub.of hk ?_); rfl)
    | with_reducible refine keep_recountDirty ?_ ?_
    | (refine Keeps.maps (hk.bits 19 rfl) ?_; with_reducible assumption)
    | (refine Keeps.tie (hk.bits 27 rfl) ?_; with_reducible assumption)
    | exact Keeps.build 134742016 (hk.of rfl) (by assumption) (by rfl) (by rfl) (by exact fun p hp => by cases p <;> first | exact absurd hp (by decide) | rfl) (by exact List.suffix_refl _) (by exact grown_refl _) (by exact id) (by exact id)

theorem keep_restoreData {k : Nat} {a : State} {s : State} {bad : List Nat}
    (hk : Sub 25774653570 k) (h : Keeps k a s) : Keeps k a (restoreData s bad) := by
  unfold restoreData
  repeat' first
    | with_reducible assumption
    | ((with_reducible refine Sub.of hk ?_); rfl)
    | intro _
    | (extract_lets +onlyGivenNames t
       first
       | (refine Keeps.have_ (k := k) (a := a) (t := t) ?_ ?_; unfold t; clear t; rotate_left; intro _; clear_value t; revert t; intros)
       | (clear_value t; revert t; intros)
       | (unfold t; clear t))
    | with_reducible refine keep_frameFill ?_ ?_
    | with_reducible refine keep_State_wr ?_ ?_
    | with_reducible refine keep_State_bump ?_ ?_
    | with_reducible refine keep_raise ?_ ?_
    | (with_reducible refine Keeps.foldl ?_ ?_)
    | (with_reducible refine Keeps.foldl_fst ?_ ?_)
    | with_reducible refine Keeps.branch ?_ ?_
    | split
    | (refine Keeps.sav (hk.bits 17 rfl) ?_; first | with_reducible assumption | with_reducible refine keep_frameFill ?_ ?_ | with_reducible refine keep_State_wr ?_ ?_ | with_reducible refine keep_State_bump ?_ ?_ | with_reducible refine keep_raise ?_ ?_)
    | (refine Keeps.maps (hk.bits 19 rfl) ?_; first | with_reducible assumption | with_reducible refine keep_frameFill ?_ ?_ | with_reducible refine keep_State_wr ?_ ?_ | with_reducible refine keep_State_bump ?_ ?_ | with_reducible refine keep_raise ?_ ?_)
    | exact Keeps.build 655360 (hk.of rfl) (by first | assumption | exact keep_frameFill (hk.of rfl) (by assumption) | exact keep_State_wr (hk.of rfl) (by assumption) | exact keep_State_bump (hk.of rfl) (by assumption) | exact keep_raise (hk.of rfl) (by assumption)) (by rfl) (by rfl) (by exact fun p hp => by cases p <;> first | exact absurd hp (by decide) | rfl) (by exact List.suffix_refl _) (by exact grown_refl _) (by exact id) (by exact id)
    | exact Keeps.build 655360 (hk.of rfl) h (by rfl) (by rfl) (by exact fun p hp => by cases p <;> first | exact absurd hp (by decide) | rfl) (by exact List.suffix_refl _) (by exact grown_refl _) (by exact id) (by exact id)

theorem keep_restoreAct {k : Nat} {a : State} {n : Nat} {bad : List Nat} {s : State}
    (hk : Sub 28059509122 k) (h : Keeps k a s) : Keeps k a (restoreAct n bad s) := by
  unfold restoreAct
  repeat' first
    | with_reducible assumption
    | ((with_reducible refine Sub.of hk ?_); rfl)
    | with_reducible refine keep_warmWalk ?_ ?_
    | with_reducible refine keep_restoreChoose ?_ ?_
    | with_reducible refine keep_restoreMaps ?_ ?_
    | with_reducible refine keep_restoreCharges ?_ ?_
    | with_reducible refine keep_restoreWalk ?_ ?_
    | with_reducible refine keep_restoreData ?_ ?_
    | split

theorem keep_doRestoreStepComplete {k : Nat} {a : State} {n : Nat} {bad : List Nat} {s : State}
    (hk : Sub 28059509122 k) (h : Keeps k a s) : Keeps k a (doRestoreStepComplete n bad s) := by
  unfold doRestoreStepComplete
  repeat' first
    | with_reducible assumption
    | ((with_reducible refine Sub.of hk ?_); rfl)
    | with_reducible refine keep_showGate ?_ ?_
    | with_reducible refine keep_restoreAct ?_ ?_
    | with_reducible refine Keeps.branch ?_ ?_
    | (refine Keeps.sav (hk.bits 17 rfl) ?_; first | with_reducible assumption | with_reducible refine keep_showGate ?_ ?_ | with_reducible refine keep_restoreAct ?_ ?_)

theorem keep_doResumeScan {k : Nat} {a : State} {s : State}
    (hk : Sub 26038239362 k) (h : Keeps k a s) : Keeps k a (doResumeScan s) := by
  unfold doResumeScan
  repeat' first
    | with_reducible assumption
    | ((with_reducible refine Sub.of hk ?_); rfl)
    | with_reducible refine keep_showMst ?_ ?_
    | with_reducible refine keep_raise ?_ ?_
    | with_reducible refine Keeps.branch ?_ ?_
    | (refine Keeps.mst (hk.bits 28 rfl) ?_; with_reducible assumption)

theorem keep_doRetiredImageEraseDone {k : Nat} {a : State} {s : State}
    (hk : Sub 25839665282 k) (h : Keeps k a s) : Keeps k a (doRetiredImageEraseDone s) := by
  unfold doRetiredImageEraseDone
  repeat' first
    | with_reducible assumption
    | ((with_reducible refine Sub.of hk ?_); rfl)
    | intro _
    | with_reducible refine keep_showErased ?_ ?_
    | with_reducible refine keep_eraseFree ?_ ?_
    | with_reducible refine keep_State_wr ?_ ?_
    | (with_reducible refine Keeps.foldl ?_ ?_)
    | with_reducible refine Keeps.branch ?_ ?_

theorem keep_doRetrainAttemptDone {k : Nat} {a : State} {mask : BitVec 20} {s : State}
    (hk : Sub 68719476731 k) (h : Keeps k a s) : Keeps k a (doRetrainAttemptDone mask s) := by
  unfold doRetrainAttemptDone
  repeat' first
    | with_reducible assumption
    | ((with_reducible refine Sub.of hk ?_); rfl)
    | intro _
    | with_reducible refine keep_probation ?_ ?_
    | with_reducible refine keep_judgeTwin ?_ ?_
    | with_reducible refine keep_resendFlits ?_ ?_
    | with_reducible refine keep_setWidth ?_ ?_
    | with_reducible refine keep_State_bump ?_ ?_
    | with_reducible refine keep_pump ?_ ?_
    | (with_reducible refine Keeps.foldl ?_ ?_)
    | with_reducible refine Keeps.branch ?_ ?_
    | (refine Keeps.twn (hk.bits 31 rfl) ?_; with_reducible assumption)

theorem keep_doRetrainDelayEnd {k : Nat} {a : State} {s : State}
    (hk : Sub 27917287552 k) (h : Keeps k a s) : Keeps k a (doRetrainDelayEnd s) := by
  unfold doRetrainDelayEnd
  repeat' first
    | with_reducible assumption
    | ((with_reducible refine Sub.of hk ?_); rfl)
    | with_reducible refine keep_retrain ?_ ?_
    | with_reducible refine Keeps.branch ?_ ?_

theorem keep_doRetrainDone {k : Nat} {a : State} {c : Fin 16} {ok : Bool} {osc : Nat} {delays : List (Nat × Nat)} {s : State}
    (hk : Sub 25811812482 k) (h : Keeps k a s) : Keeps k a (doRetrainDone c ok osc delays s) := by
  unfold doRetrainDone
  repeat' first
    | with_reducible assumption
    | ((with_reducible refine Sub.of hk ?_); rfl)
    | intro _
    | with_reducible refine keep_farDrop ?_ ?_
    | with_reducible refine keep_State_wr ?_ ?_
    | with_reducible refine keep_setDrc ?_ ?_
    | with_reducible refine keep_raise ?_ ?_
    | (with_reducible refine Keeps.foldl ?_ ?_)
    | split
    | (refine Keeps.cal (hk.bits 16 rfl) ?_; first | with_reducible assumption | with_reducible refine keep_farDrop ?_ ?_ | with_reducible refine keep_State_wr ?_ ?_ | with_reducible refine keep_setDrc ?_ ?_ | with_reducible refine keep_raise ?_ ?_)

theorem keep_doRetrygapExpiry {k : Nat} {a : State} {owner : Nat} {s : State}
    (hk : Sub 33554434 k) (h : Keeps k a s) : Keeps k a (doRetrygapExpiry owner s) := by
  unfold doRetrygapExpiry
  repeat' first
    | with_reducible assumption
    | ((with_reducible refine Sub.of hk ?_); rfl)
    | with_reducible refine keep_farAskNext ?_ ?_
    | split
    | (refine Keeps.far (hk.bits 25 rfl) ?_; with_reducible assumption)

theorem keep_doRisingTableEnd {k : Nat} {a : State} {s : State}
    (hk : Sub 25774391507 k) (h : Keeps k a s) : Keeps k a (doRisingTableEnd s) := by
  unfold doRisingTableEnd
  repeat' first
    | with_reducible assumption
    | ((with_reducible refine Sub.of hk ?_); rfl)
    | with_reducible refine keep_tryLeaveRising ?_ ?_
    | with_reducible refine keep_quietPoint ?_ ?_
    | with_reducible refine keep_startFall ?_ ?_
    | with_reducible refine keep_State_wr ?_ ?_
    | with_reducible refine Keeps.branch ?_ ?_
    | (refine Keeps.pwr (hk.bits 4 rfl) ?_; with_reducible assumption)

theorem keep_doRowIdleClose {k : Nat} {a : State} {c : Fin 16} {bank : Fin 256} {s : State}
    (hk : Sub 8388608 k) (h : Keeps k a s) : Keeps k a (doRowIdleClose c bank s) := by
  unfold doRowIdleClose
  repeat' first
    | with_reducible assumption
    | ((with_reducible refine Sub.of hk ?_); rfl)
    | with_reducible refine keep_setDrc ?_ ?_
    | with_reducible refine Keeps.branch ?_ ?_

theorem keep_doRowStripewaitExpiry {k : Nat} {a : State} {s : State}
    (hk : Sub 25836912768 k) (h : Keeps k a s) : Keeps k a (doRowStripewaitExpiry s) := by
  unfold doRowStripewaitExpiry
  repeat' first
    | with_reducible assumption
    | ((with_reducible refine Sub.of hk ?_); rfl)
    | with_reducible refine keep_State_bump ?_ ?_
    | with_reducible refine keep_raise ?_ ?_
    | split
    | (refine Keeps.stf (hk.bits 26 rfl) ?_; with_reducible assumption)

theorem keep_failSensor {k : Nat} {a : State} {s : State} {i : Nat}
    (hk : Sub 2 k) (h : Keeps k a s) : Keeps k a (failSensor s i) := by
  unfold failSensor
  repeat' first
    | with_reducible assumption
    | ((with_reducible refine Sub.of hk ?_); rfl)
    | with_reducible refine keep_State_wbit ?_ ?_
    | with_reducible refine Keeps.branch ?_ ?_

theorem keep_thermal {k : Nat} {a : State} {raw : List (Option Int)} {s : State} {i : Nat}
    (hk : Sub 25769803906 k) (h : Keeps k a s) : Keeps k a (thermal raw s i) := by
  unfold thermal
  repeat' first
    | with_reducible assumption
    | ((with_reducible refine Sub.of hk ?_); rfl)
    | with_reducible refine keep_raise ?_ ?_
    | with_reducible refine keep_State_wr ?_ ?_
    | with_reducible refine keep_failSensor ?_ ?_
    | with_reducible refine Keeps.branch ?_ ?_
    | split

theorem keep_heat {k : Nat} {a : State} {s : State} {was : Int} {tj : Int} {i : Nat}
    (hk : Sub 27433828763 k) (h : Keeps k a s) : Keeps k a (heat s was tj i) := by
  unfold heat
  repeat' first
    | with_reducible assumption
    | ((with_reducible refine Sub.of hk ?_); rfl)
    | with_reducible refine keep_offRequest ?_ ?_
    | with_reducible refine keep_raise ?_ ?_
    | with_reducible refine keep_setSteps ?_ ?_
    | with_reducible refine Keeps.branch ?_ ?_

theorem keep_voltage {k : Nat} {a : State} {raw : List Nat} {s : State} {j : Nat}
    (hk : Sub 25769803906 k) (h : Keeps k a s) : Keeps k a (voltage raw s j) := by
  unfold voltage
  repeat' first
    | with_reducible assumption
    | ((with_reducible refine Sub.of hk ?_); rfl)
    | with_reducible refine keep_raise ?_ ?_
    | with_reducible refine keep_State_wr ?_ ?_
    | with_reducible refine Keeps.branch ?_ ?_

theorem keep_doSampleRound {k : Nat} {a : State} {temps : List (Option Int)} {volts : List Nat} {s : State}
    (hk : Sub 27433828763 k) (h : Keeps k a s) : Keeps k a (doSampleRound temps volts s) := by
  unfold doSampleRound
  repeat' first
    | with_reducible assumption
    | ((with_reducible refine Sub.of hk ?_); rfl)
    | intro _
    | (extract_lets +onlyGivenNames t
       first
       | (refine Keeps.have_ (k := k) (a := a) (t := t) ?_ ?_; unfold t; clear t; rotate_left; intro _; clear_value t; revert t; intros)
       | (clear_value t; revert t; intros))
    | with_reducible refine keep_thermal ?_ ?_
    | with_reducible refine keep_heat ?_ ?_
    | with_reducible refine keep_State_wr ?_ ?_
    | with_reducible refine keep_voltage ?_ ?_
    | (with_reducible refine Keeps.foldl ?_ ?_)
    | split

theorem keep_doSavePathReady {k : Nat} {a : State} {s : State}
    (hk : Sub 27421245915 k) (h : Keeps k a s) : Keeps k a (doSavePathReady s) := by
  unfold doSavePathReady
  repeat' first
    | with_reducible assumption
    | ((with_reducible refine Sub.of hk ?_); rfl)
    | with_reducible refine keep_recountDirty ?_ ?_
    | with_reducible refine keep_startSave ?_ ?_
    | with_reducible refine keep_setRetain ?_ ?_
    | split
    | (refine Keeps.dram (hk.bits 22 rfl) ?_ (by first | exact fun g => Memory.wf_memZero g | exact fun g => Memory.wf_memWrite g | exact fun g => Memory.wf_memPaste g | exact id | exact fun _ => rfl); with_reducible assumption)

theorem keep_sealAppend {k : Nat} {a : State} {s : State} {a' : Nat} {r : Seal} {gate : Bool}
    (hk : Sub 131072 k) (h : Keeps k a s) : Keeps k a (sealAppend s a' r gate) := by
  unfold sealAppend
  repeat' first
    | with_reducible assumption
    | ((with_reducible refine Sub.of hk ?_); rfl)
    | (extract_lets +onlyGivenNames t
       first
       | (refine Keeps.have_ (k := k) (a := a) (t := t) ?_ ?_; unfold t; clear t; rotate_left; intro _; clear_value t; revert t; intros)
       | (clear_value t; revert t; intros))
    | with_reducible refine Keeps.branch ?_ ?_
    | (refine Keeps.sav (hk.bits 17 rfl) ?_; first | with_reducible assumption)

theorem keep_saveSealed {k : Nat} {a : State} {s : State} {im : SaveImage} {r : Seal}
    (hk : Sub 64424509435 k) (h : Keeps k a s) : Keeps k a (saveSealed s im r) := by
  unfold saveSealed
  repeat' first
    | with_reducible assumption
    | ((with_reducible refine Sub.of hk ?_); rfl)
    | (extract_lets +onlyGivenNames t
       first
       | (refine Keeps.have_ (k := k) (a := a) (t := t) ?_ ?_; unfold t; clear t; rotate_left; intro _; clear_value t; revert t; intros)
       | (clear_value t; revert t; intros))
    | with_reducible refine keep_afterSaved ?_ ?_
    | with_reducible refine keep_sbFull ?_ ?_
    | with_reducible refine keep_setEnt ?_ ?_
    | with_reducible refine keep_State_wr ?_ ?_
    | with_reducible refine keep_showErased ?_ ?_
    | with_reducible refine keep_setDev ?_ ?_
    | with_reducible refine keep_sealAppend ?_ ?_
    | with_reducible refine keep_raise ?_ ?_
    | with_reducible refine keep_State_wr64 ?_ ?_
    | with_reducible refine Keeps.branch ?_ ?_
    | (refine Keeps.sav (hk.bits 17 rfl) ?_; with_reducible assumption)
    | (refine Keeps.stf (hk.bits 26 rfl) ?_; with_reducible assumption)
    | exact Keeps.build 67239936 (hk.of rfl) (by assumption) (by rfl) (by rfl) (by exact fun p hp => by cases p <;> first | exact absurd hp (by decide) | rfl) (by exact List.suffix_refl _) (by exact grown_refl _) (by exact id) (by exact id)

theorem keep_doSaveSealed {k : Nat} {a : State} {s : State}
    (hk : Sub 64424509435 k) (h : Keeps k a s) : Keeps k a (doSaveSealed s) := by
  unfold doSaveSealed
  repeat' first
    | with_reducible assumption
    | ((with_reducible refine Sub.of hk ?_); rfl)
    | with_reducible refine keep_saveSealed ?_ ?_
    | split

theorem keep_writebackUndone {k : Nat} {a : State} {s : State} {ref : Nat}
    (hk : Sub 25772425346 k) (h : Keeps k a s) : Keeps k a (writebackUndone s ref) := by
  unfold writebackUndone
  repeat' first
    | with_reducible assumption
    | ((with_reducible refine Sub.of hk ?_); rfl)
    | with_reducible refine keep_dirtyPage ?_ ?_
    | with_reducible refine keep_setPage ?_ ?_
    | split

theorem keep_fwAbandon {k : Nat} {a : State} {x : Nat} {x' : Nat} {x'' : State}
    (hk : Sub 17259560962 k) (h : Keeps k a x'') : Keeps k a (fwAbandon x x' x'') := by
  induction x generalizing x' x'' with
  | zero => exact h
  | succ n ih =>
    unfold fwAbandon
    split
    · exact h
    · exact ih (keep_fwNext (hk.of rfl) (keep_fwAnswer (hk.of rfl) h))

theorem keep_saveStep6 {k : Nat} {a : State} {s : State}
    (hk : Sub 25852125314 k) (h : Keeps k a s) : Keeps k a (saveStep6 s) := by
  unfold saveStep6
  repeat' first
    | with_reducible assumption
    | ((with_reducible refine Sub.of hk ?_); rfl)
    | intro _
    | (extract_lets +onlyGivenNames t
       first
       | (refine Keeps.have_ (k := k) (a := a) (t := t) ?_ ?_; unfold t; clear t; rotate_left; intro _; clear_value t; revert t; intros)
       | (clear_value t; revert t; intros))
    | with_reducible refine keep_writebackUndone ?_ ?_
    | with_reducible refine keep_fwAbandon ?_ ?_
    | with_reducible refine keep_deriveSave ?_ ?_
    | with_reducible refine keep_showErase ?_ ?_
    | (with_reducible refine Keeps.foldl ?_ ?_)
    | (refine Keeps.stf (hk.bits 26 rfl) ?_; with_reducible assumption)

theorem keep_saveStep3 {k : Nat} {a : State} {s : State}
    (hk : Sub 27785691266 k) (h : Keeps k a s) : Keeps k a (saveStep3 s) := by
  unfold saveStep3
  repeat' first
    | with_reducible assumption
    | ((with_reducible refine Sub.of hk ?_); rfl)
    | intro _
    | with_reducible refine keep_doAnswer ?_ ?_
    | with_reducible refine keep_stopMoves ?_ ?_
    | with_reducible refine keep_dropMstReqs ?_ ?_
    | with_reducible refine keep_stopMst ?_ ?_
    | with_reducible refine keep_portsIdle ?_ ?_
    | (with_reducible refine Keeps.foldl ?_ ?_)

theorem keep_saveStepAct {k : Nat} {a : State} {n : Nat} {s : State}
    (hk : Sub 30014054786 k) (h : Keeps k a s) : Keeps k a (saveStepAct n s) := by
  unfold saveStepAct
  repeat' first
    | with_reducible assumption
    | ((with_reducible refine Sub.of hk ?_); rfl)
    | with_reducible refine keep_saveStep6 ?_ ?_
    | with_reducible refine keep_twinDepart ?_ ?_
    | with_reducible refine keep_drainWrites ?_ ?_
    | with_reducible refine keep_drainHopper ?_ ?_
    | with_reducible refine keep_saveStep3 ?_ ?_
    | with_reducible refine keep_twinWritePending ?_ ?_
    | with_reducible refine keep_State_wr ?_ ?_
    | split
    | (refine Keeps.sav (hk.bits 17 rfl) ?_; with_reducible assumption)

theorem keep_fixImage {k : Nat} {a : State} {s : State}
    (hk : Sub 25769934976 k) (h : Keeps k a s) : Keeps k a (fixImage s) := by
  unfold fixImage
  repeat' first
    | with_reducible assumption
    | ((with_reducible refine Sub.of hk ?_); rfl)
    | intro _
    | with_reducible refine keep_State_bump ?_ ?_
    | with_reducible refine keep_raise ?_ ?_
    | (with_reducible refine Keeps.foldl ?_ ?_)
    | with_reducible refine Keeps.branch ?_ ?_
    | (refine Keeps.sav (hk.bits 17 rfl) ?_; with_reducible assumption)

theorem keep_saveStepDone {k : Nat} {a : State} {n : Nat} {s : State}
    (hk : Sub 30014054786 k) (h : Keeps k a s) : Keeps k a (saveStepDone n s) := by
  unfold saveStepDone
  repeat' first
    | with_reducible assumption
    | ((with_reducible refine Sub.of hk ?_); rfl)
    | with_reducible refine keep_saveStepAct ?_ ?_
    | with_reducible refine keep_fixImage ?_ ?_
    | with_reducible refine Keeps.branch ?_ ?_
    | (refine Keeps.sav (hk.bits 17 rfl) ?_; first | with_reducible assumption | with_reducible refine keep_saveStepAct ?_ ?_ | with_reducible refine keep_fixImage ?_ ?_)

theorem keep_doSaveStepComplete {k : Nat} {a : State} {n : Nat} {s : State}
    (hk : Sub 30014054786 k) (h : Keeps k a s) : Keeps k a (doSaveStepComplete n s) := by
  unfold doSaveStepComplete
  repeat' first
    | with_reducible assumption
    | ((with_reducible refine Sub.of hk ?_); rfl)
    | with_reducible refine keep_saveStepDone ?_ ?_
    | with_reducible refine Keeps.branch ?_ ?_

theorem keep_takeHeld {k : Nat} {a : State} {s : State} {e : Nat}
    (hk : Sub 25839534210 k) (h : Keeps k a s) : Keeps k a (takeHeld s e) := by
  unfold takeHeld
  repeat' first
    | with_reducible assumption
    | ((with_reducible refine Sub.of hk ?_); rfl)
    | intro _
    | with_reducible refine keep_putWords ?_ ?_
    | (with_reducible refine Keeps.foldl ?_ ?_)
    | (refine Keeps.trn (hk.bits 21 rfl) ?_; with_reducible assumption)

theorem keep_l2Install {k : Nat} {a : State} {s : State} {e : Nat} {streaming : Bool}
    (hk : Sub 2097152 k) (h : Keeps k a s) : Keeps k a (l2Install s e streaming) := by
  unfold l2Install
  repeat' first
    | with_reducible assumption
    | ((with_reducible refine Sub.of hk ?_); rfl)
    | split
    | (refine Keeps.trn (hk.bits 21 rfl) ?_; first | with_reducible assumption)

theorem keep_doSecondLevelFillReturn {k : Nat} {a : State} {e : Nat} {s : State}
    (hk : Sub 25839534210 k) (h : Keeps k a s) : Keeps k a (doSecondLevelFillReturn e s) := by
  unfold doSecondLevelFillReturn
  repeat' first
    | with_reducible assumption
    | ((with_reducible refine Sub.of hk ?_); rfl)
    | with_reducible refine keep_takeHeld ?_ ?_
    | with_reducible refine keep_l2Install ?_ ?_
    | with_reducible refine keep_State_bump ?_ ?_
    | with_reducible refine keep_raise ?_ ?_
    | split
    | (refine Keeps.trn (hk.bits 21 rfl) ?_; first | with_reducible assumption | with_reducible refine keep_takeHeld ?_ ?_ | with_reducible refine keep_l2Install ?_ ?_ | with_reducible refine keep_State_bump ?_ ?_ | with_reducible refine keep_raise ?_ ?_)

theorem keep_doSeqCharger {k : Nat} {a : State} {s : State}
    (hk : Sub 25769803923 k) (h : Keeps k a s) : Keeps k a (doSeqCharger s) := by
  unfold doSeqCharger
  repeat' first
    | with_reducible assumption
    | ((with_reducible refine Sub.of hk ?_); rfl)
    | with_reducible refine keep_State_wr ?_ ?_
    | with_reducible refine keep_stepEnd ?_ ?_
    | with_reducible refine Keeps.branch ?_ ?_
    | (refine Keeps.pwr (hk.bits 4 rfl) ?_; with_reducible assumption)

theorem keep_stepStarted {k : Nat} {a : State} {s : State}
    (hk : Sub 16 k) (h : Keeps k a s) : Keeps k a (stepStarted s) := by
  unfold stepStarted
  repeat' first
    | with_reducible assumption
    | ((with_reducible refine Sub.of hk ?_); rfl)
    | (refine Keeps.pwr (hk.bits 4 rfl) ?_; first | with_reducible assumption)

theorem keep_doSeqDisable {k : Nat} {a : State} {s : State}
    (hk : Sub 25769803923 k) (h : Keeps k a s) : Keeps k a (doSeqDisable s) := by
  unfold doSeqDisable
  repeat' first
    | with_reducible assumption
    | ((with_reducible refine Sub.of hk ?_); rfl)
    | with_reducible refine keep_State_wbit ?_ ?_
    | with_reducible refine keep_showBrownOut ?_ ?_
    | with_reducible refine keep_stepEnd ?_ ?_
    | with_reducible refine keep_stepStarted ?_ ?_
    | with_reducible refine Keeps.branch ?_ ?_
    | (refine Keeps.pwr (hk.bits 4 rfl) ?_; first | with_reducible assumption | with_reducible refine keep_State_wbit ?_ ?_ | with_reducible refine keep_showBrownOut ?_ ?_ | with_reducible refine keep_stepEnd ?_ ?_ | with_reducible refine keep_stepStarted ?_ ?_)

theorem keep_doSeqEnable {k : Nat} {a : State} {s : State}
    (hk : Sub 25769803923 k) (h : Keeps k a s) : Keeps k a (doSeqEnable s) := by
  unfold doSeqEnable
  repeat' first
    | with_reducible assumption
    | ((with_reducible refine Sub.of hk ?_); rfl)
    | with_reducible refine keep_State_wbit ?_ ?_
    | with_reducible refine keep_enableDone ?_ ?_
    | with_reducible refine keep_stepStarted ?_ ?_
    | with_reducible refine Keeps.branch ?_ ?_

theorem keep_doSeqPmbus {k : Nat} {a : State} {s : State}
    (hk : Sub 25769803923 k) (h : Keeps k a s) : Keeps k a (doSeqPmbus s) := by
  unfold doSeqPmbus
  repeat' first
    | with_reducible assumption
    | ((with_reducible refine Sub.of hk ?_); rfl)
    | with_reducible refine keep_State_emit ?_ ?_
    | with_reducible refine keep_stepEnd ?_ ?_
    | with_reducible refine keep_stepStarted ?_ ?_
    | with_reducible refine Keeps.branch ?_ ?_

theorem keep_doSeqRstassert {k : Nat} {a : State} {s : State}
    (hk : Sub 25769803955 k) (h : Keeps k a s) : Keeps k a (doSeqRstassert s) := by
  unfold doSeqRstassert
  repeat' first
    | with_reducible assumption
    | ((with_reducible refine Sub.of hk ?_); rfl)
    | with_reducible refine keep_State_wbit ?_ ?_
    | with_reducible refine keep_stepEnd ?_ ?_
    | with_reducible refine Keeps.branch ?_ ?_
    | (refine Keeps.rst (hk.bits 5 rfl) ?_; with_reducible assumption)

theorem keep_doSeqRstrel {k : Nat} {a : State} {s : State}
    (hk : Sub 25769803923 k) (h : Keeps k a s) : Keeps k a (doSeqRstrel s) := by
  unfold doSeqRstrel
  repeat' first
    | with_reducible assumption
    | ((with_reducible refine Sub.of hk ?_); rfl)
    | with_reducible refine keep_State_wbit ?_ ?_
    | with_reducible refine keep_stepEnd ?_ ?_
    | with_reducible refine keep_stepStarted ?_ ?_
    | with_reducible refine Keeps.branch ?_ ?_

theorem keep_doSeqTableCommit {k : Nat} {a : State} {s : State}
    (hk : Sub 25769803906 k) (h : Keeps k a s) : Keeps k a (doSeqTableCommit s) := by
  unfold doSeqTableCommit
  repeat' first
    | with_reducible assumption
    | ((with_reducible refine Sub.of hk ?_); rfl)
    | with_reducible refine keep_seqCommit ?_ ?_
    | with_reducible refine Keeps.branch ?_ ?_

theorem keep_doSeqWait {k : Nat} {a : State} {s : State}
    (hk : Sub 16 k) (h : Keeps k a s) : Keeps k a (doSeqWait s) := by
  unfold doSeqWait
  repeat' first
    | with_reducible assumption
    | ((with_reducible refine Sub.of hk ?_); rfl)
    | with_reducible refine keep_stepStarted ?_ ?_
    | with_reducible refine Keeps.branch ?_ ?_

theorem keep_doSeqWaitExpiry {k : Nat} {a : State} {s : State}
    (hk : Sub 25769803923 k) (h : Keeps k a s) : Keeps k a (doSeqWaitExpiry s) := by
  unfold doSeqWaitExpiry
  repeat' first
    | with_reducible assumption
    | ((with_reducible refine Sub.of hk ?_); rfl)
    | with_reducible refine keep_stepEnd ?_ ?_
    | with_reducible refine Keeps.branch ?_ ?_

theorem keep_retireImage {k : Nat} {a : State} {s : State}
    (hk : Sub 25772556418 k) (h : Keeps k a s) : Keeps k a (retireImage s) := by
  unfold retireImage
  repeat' first
    | with_reducible assumption
    | ((with_reducible refine Sub.of hk ?_); rfl)
    | with_reducible refine keep_sbStale ?_ ?_
    | with_reducible refine keep_sealAppend ?_ ?_
    | with_reducible refine keep_State_wr64 ?_ ?_
    | split
    | (refine Keeps.sav (hk.bits 17 rfl) ?_; first | with_reducible assumption | with_reducible refine keep_sbStale ?_ ?_ | with_reducible refine keep_sealAppend ?_ ?_ | with_reducible refine keep_State_wr64 ?_ ?_)

theorem keep_gaitEnterServing {k : Nat} {a : State} {s : State}
    (hk : Sub 27129020810 k) (h : Keeps k a s) : Keeps k a (gaitEnterServing s) := by
  unfold gaitEnterServing
  repeat' first
    | with_reducible assumption
    | ((with_reducible refine Sub.of hk ?_); rfl)
    | with_reducible refine keep_gaitApply ?_ ?_

theorem keep_farOpen {k : Nat} {a : State} {s : State}
    (hk : Sub 33554432 k) (h : Keeps k a s) : Keeps k a (farOpen s) := by
  unfold farOpen
  repeat' first
    | with_reducible assumption
    | ((with_reducible refine Sub.of hk ?_); rfl)
    | (refine Keeps.far (hk.bits 25 rfl) ?_; first | with_reducible assumption)

theorem keep_doServiceGatePassed {k : Nat} {a : State} {s : State}
    (hk : Sub 29312811483 k) (h : Keeps k a s) : Keeps k a (doServiceGatePassed s) := by
  unfold doServiceGatePassed
  repeat' first
    | with_reducible assumption
    | ((with_reducible refine Sub.of hk ?_); rfl)
    | (extract_lets +onlyGivenNames t
       first
       | (refine Keeps.have_ (k := k) (a := a) (t := t) ?_ ?_; unfold t; clear t; rotate_left; intro _; clear_value t; revert t; intros))
    | with_reducible refine keep_State_wr ?_ ?_
    | with_reducible refine keep_retireImage ?_ ?_
    | with_reducible refine keep_setDev ?_ ?_
    | with_reducible refine keep_withTag ?_ ?_
    | with_reducible refine keep_gaitEnterServing ?_ ?_
    | with_reducible refine keep_farOpen ?_ ?_
    | with_reducible refine keep_setRetain ?_ ?_
    | with_reducible refine Keeps.branch ?_ ?_
    | (refine Keeps.pwr (hk.bits 4 rfl) ?_; with_reducible assumption)
    | (refine Keeps.gov (hk.bits 18 rfl) ?_; with_reducible assumption)
    | (refine Keeps.sav (hk.bits 17 rfl) ?_; with_reducible assumption)
    | exact Keeps.build 393232 (hk.of rfl) (by assumption) (by rfl) (by rfl) (by exact fun p hp => by cases p <;> first | exact absurd hp (by decide) | rfl) (by exact List.suffix_refl _) (by exact grown_refl _) (by exact id) (by exact id)

theorem keep_doServiceGateWaitReport {k : Nat} {a : State} {s : State}
    (hk : Sub 25769934978 k) (h : Keeps k a s) : Keeps k a (doServiceGateWaitReport s) := by
  unfold doServiceGateWaitReport
  repeat' first
    | with_reducible assumption
    | ((with_reducible refine Sub.of hk ?_); rfl)
    | with_reducible refine keep_showGate ?_ ?_
    | with_reducible refine keep_raise ?_ ?_
    | with_reducible refine Keeps.branch ?_ ?_
    | (refine Keeps.sav (hk.bits 17 rfl) ?_; with_reducible assumption)

theorem keep_doSessionIdleTimeout {k : Nat} {a : State} {session : Nat} {s : State}
    (hk : Sub 68719476731 k) (h : Keeps k a s) : Keeps k a (doSessionIdleTimeout session s) := by
  unfold doSessionIdleTimeout
  repeat' first
    | with_reducible assumption
    | ((with_reducible refine Sub.of hk ?_); rfl)
    | with_reducible refine keep_nextFrames ?_ ?_
    | with_reducible refine keep_endSession ?_ ?_
    | split

theorem keep_doSidebandRead {k : Nat} {a : State} {c : Fin 16} {t0 : BitVec 16} {t1 : BitVec 16} {osc : List Nat} {s : State}
    (hk : Sub 41943042 k) (h : Keeps k a s) : Keeps k a (doSidebandRead c t0 t1 osc s) := by
  unfold doSidebandRead
  repeat' first
    | with_reducible assumption
    | ((with_reducible refine Sub.of hk ?_); rfl)
    | (extract_lets +onlyGivenNames t
       first
       | (refine Keeps.have_ (k := k) (a := a) (t := t) ?_ ?_; unfold t; clear t; rotate_left; intro _; clear_value t; revert t; intros)
       | (clear_value t; revert t; intros))
    | with_reducible refine keep_setDrc ?_ ?_
    | with_reducible refine keep_State_wr ?_ ?_
    | with_reducible refine keep_farAsk ?_ ?_
    | split

theorem keep_svcBegin {k : Nat} {a : State} {s : State} {body : List Nat}
    (hk : Sub 25769824386 k) (h : Keeps k a s) : Keeps k a (svcBegin s body).1 := by
  unfold svcBegin
  repeat' first
    | with_reducible assumption
    | ((with_reducible refine Sub.of hk ?_); rfl)
    | with_reducible refine keep_kerase ?_ ?_
    | with_reducible refine keep_raise ?_ ?_
    | with_reducible refine keep_State_wr ?_ ?_
    | with_reducible refine Keeps.branch_fst ?_ ?_
    | (refine Keeps.svc (hk.bits 12 rfl) ?_; first | with_reducible assumption | with_reducible refine keep_kerase ?_ ?_ | with_reducible refine keep_raise ?_ ?_ | with_reducible refine keep_State_wr ?_ ?_)

theorem keep_doStageBegin {k : Nat} {a : State} {frame : List Nat} {s : State}
    (hk : Sub 25769824642 k) (h : Keeps k a s) : Keeps k a (doStageBegin frame s) := by
  unfold doStageBegin
  repeat' first
    | with_reducible assumption
    | ((with_reducible refine Sub.of hk ?_); rfl)
    | intro _
    | with_reducible refine keep_svcBegin ?_ ?_
    | with_reducible refine keep_svcRequest ?_ ?_ ?_ ?_

theorem keep_doStageCommitComplete {k : Nat} {a : State} {n : Fin 8} {slot : Fin 16} {s : State}
    (hk : Sub 29946806402 k) (h : Keeps k a s) : Keeps k a (doStageCommitComplete n slot s) := by
  unfold doStageCommitComplete
  repeat' first
    | with_reducible assumption
    | ((with_reducible refine Sub.of hk ?_); rfl)
    | (extract_lets +onlyGivenNames t
       first
       | (refine Keeps.have_ (k := k) (a := a) (t := t) ?_ ?_; unfold t; clear t; rotate_left; intro _; clear_value t; revert t; intros)
       | (clear_value t; revert t; intros))
    | with_reducible refine keep_cancelEnd ?_ ?_
    | with_reducible refine keep_commitBank ?_ ?_
    | with_reducible refine keep_mstForget ?_ ?_
    | with_reducible refine keep_failJob ?_ ?_
    | with_reducible refine keep_State_bump ?_ ?_
    | with_reducible refine keep_dropJob ?_ ?_
    | with_reducible refine keep_showMst ?_ ?_
    | with_reducible refine keep_setJob ?_ ?_
    | with_reducible refine keep_completion ?_ ?_
    | split

theorem keep_stageOver {k : Nat} {a : State} {s : State}
    (hk : Sub 4096 k) (h : Keeps k a s) : Keeps k a (stageOver s) := by
  unfold stageOver
  repeat' first
    | with_reducible assumption
    | ((with_reducible refine Sub.of hk ?_); rfl)
    | (refine Keeps.svc (hk.bits 12 rfl) ?_; first | with_reducible assumption)

theorem keep_stageData {k : Nat} {a : State} {s : State} {body : List Nat}
    (hk : Sub 25769824386 k) (h : Keeps k a s) : Keeps k a (stageData s body).1 := by
  unfold stageData
  repeat' first
    | with_reducible assumption
    | ((with_reducible refine Sub.of hk ?_); rfl)
    | with_reducible refine keep_kprog ?_ ?_
    | with_reducible refine keep_State_wr ?_ ?_
    | with_reducible refine keep_stageOver ?_ ?_
    | with_reducible refine keep_rejectImage ?_ ?_
    | with_reducible refine Keeps.branch_fst ?_ ?_
    | (refine Keeps.svc (hk.bits 12 rfl) ?_; first | with_reducible assumption | with_reducible refine keep_kprog ?_ ?_ | with_reducible refine keep_State_wr ?_ ?_ | with_reducible refine keep_stageOver ?_ ?_ | with_reducible refine keep_rejectImage ?_ ?_)

theorem keep_doStageData {k : Nat} {a : State} {frame : List Nat} {s : State}
    (hk : Sub 25769824642 k) (h : Keeps k a s) : Keeps k a (doStageData frame s) := by
  unfold doStageData
  repeat' first
    | with_reducible assumption
    | ((with_reducible refine Sub.of hk ?_); rfl)
    | intro _
    | with_reducible refine keep_stageData ?_ ?_
    | with_reducible refine keep_svcRequest ?_ ?_ ?_ ?_

theorem keep_stageEnd {k : Nat} {a : State} {s : State} {body : List Nat}
    (hk : Sub 25769824386 k) (h : Keeps k a s) : Keeps k a (stageEnd s body).1 := by
  unfold stageEnd
  repeat' first
    | with_reducible assumption
    | ((with_reducible refine Sub.of hk ?_); rfl)
    | with_reducible refine keep_stageOver ?_ ?_
    | with_reducible refine keep_raise ?_ ?_
    | with_reducible refine keep_State_wr ?_ ?_
    | with_reducible refine keep_rejectImage ?_ ?_
    | with_reducible refine keep_commitAppend ?_ ?_
    | with_reducible refine Keeps.branch_fst ?_ ?_
    | split

theorem keep_doStageEnd {k : Nat} {a : State} {frame : List Nat} {s : State}
    (hk : Sub 25769824642 k) (h : Keeps k a s) : Keeps k a (doStageEnd frame s) := by
  unfold doStageEnd
  repeat' first
    | with_reducible assumption
    | ((with_reducible refine Sub.of hk ?_); rfl)
    | intro _
    | with_reducible refine keep_stageEnd ?_ ?_
    | with_reducible refine keep_svcRequest ?_ ?_ ?_ ?_

theorem keep_doStageStatus {k : Nat} {a : State} {frame : List Nat} {s : State}
    (hk : Sub 25769808258 k) (h : Keeps k a s) : Keeps k a (doStageStatus frame s) := by
  unfold doStageStatus
  repeat' first
    | with_reducible assumption
    | ((with_reducible refine Sub.of hk ?_); rfl)
    | intro _
    | with_reducible refine keep_svcRequest ?_ ?_ ?_ ?_
    | split

theorem keep_doStageTimeout {k : Nat} {a : State} {n : Fin 8} {slot : Fin 16} {s : State}
    (hk : Sub 29946806402 k) (h : Keeps k a s) : Keeps k a (doStageTimeout n slot s) := by
  unfold doStageTimeout
  repeat' first
    | with_reducible assumption
    | ((with_reducible refine Sub.of hk ?_); rfl)
    | with_reducible refine keep_failJob ?_ ?_
    | with_reducible refine keep_showMst ?_ ?_
    | split

theorem keep_walkEntry {k : Nat} {a : State} {s : State} {k' : Nat}
    (hk : Sub 25772425346 k) (h : Keeps k a s) : Keeps k a (walkEntry s k') := by
  unfold walkEntry
  repeat' first
    | with_reducible assumption
    | ((with_reducible refine Sub.of hk ?_); rfl)
    | (extract_lets +onlyGivenNames t
       first
       | (refine Keeps.have_ (k := k) (a := a) (t := t) ?_ ?_; unfold t; clear t; rotate_left; intro _; clear_value t; revert t; intros)
       | (clear_value t; revert t; intros))
    | with_reducible refine keep_raise ?_ ?_
    | with_reducible refine keep_setBlk ?_ ?_
    | split

theorem keep_doStfStartWalk {k : Nat} {a : State} {s : State}
    (hk : Sub 25839534210 k) (h : Keeps k a s) : Keeps k a (doStfStartWalk s) := by
  unfold doStfStartWalk
  repeat' first
    | with_reducible assumption
    | ((with_reducible refine Sub.of hk ?_); rfl)
    | intro _
    | (extract_lets +onlyGivenNames t
       first
       | (refine Keeps.have_ (k := k) (a := a) (t := t) ?_ ?_; unfold t; clear t; rotate_left; intro _; clear_value t; revert t; intros)
       | (clear_value t; revert t; intros))
    | with_reducible refine keep_blankEntry ?_ ?_
    | with_reducible refine keep_State_wr ?_ ?_
    | with_reducible refine keep_walkEntry ?_ ?_
    | with_reducible refine keep_raise ?_ ?_
    | (with_reducible refine Keeps.foldl ?_ ?_)
    | with_reducible refine Keeps.branch ?_ ?_
    | (refine Keeps.stf (hk.bits 26 rfl) ?_; with_reducible assumption)
    | (refine Keeps.maps (hk.bits 19 rfl) ?_; with_reducible assumption)
    | exact Keeps.build 67633152 (hk.of rfl) (by assumption) (by rfl) (by rfl) (by exact fun p hp => by cases p <;> first | exact absurd hp (by decide) | rfl) (by exact List.suffix_refl _) (by exact grown_refl _) (by exact id) (by exact id)

theorem keep_rowPut {k : Nat} {a : State} {s : State} {what : Nat} {ref : Nat} {c : Codeword} {source : SLoc}
    (hk : Sub 67108864 k) (h : Keeps k a s) : ∀ t, rowPut s what ref c source = some t → Keeps k a t := by
  intro t ht
  unfold rowPut at ht
  dsimp only at ht
  repeat' split at ht
  all_goals first
    | contradiction
    | (obtain rfl := Option.some.inj ht
       exact Keeps.stf (hk.bits 26 rfl) h)

theorem keep_doStoreCleanWrite {k : Nat} {a : State} {s : State}
    (hk : Sub 67108864 k) (h : Keeps k a s) : Keeps k a (doStoreCleanWrite s) := by
  unfold doStoreCleanWrite
  repeat' first
    | with_reducible assumption
    | ((with_reducible refine Sub.of hk ?_); rfl)
    | with_reducible refine keep_rowPut ?_ ?_ _ (by assumption)
    | split
    | (refine Keeps.stf (hk.bits 26 rfl) ?_; first | with_reducible assumption | with_reducible refine keep_rowPut ?_ ?_ _ (by assumption))

theorem keep_eraseStart {k : Nat} {a : State} {s : State} {k' : Nat}
    (hk : Sub 25839534210 k) (h : Keeps k a s) : Keeps k a (eraseStart s k') := by
  unfold eraseStart
  repeat' first
    | with_reducible assumption
    | ((with_reducible refine Sub.of hk ?_); rfl)
    | with_reducible refine keep_setBlk ?_ ?_
    | (refine Keeps.stf (hk.bits 26 rfl) ?_; first | with_reducible assumption | with_reducible refine keep_setBlk ?_ ?_)

theorem keep_doStoreErase {k : Nat} {a : State} {fw : Option (Fin 32)} {k' : Nat} {s : State}
    (hk : Sub 25852117122 k) (h : Keeps k a s) : Keeps k a (doStoreErase fw k' s) := by
  unfold doStoreErase
  repeat' first
    | with_reducible assumption
    | ((with_reducible refine Sub.of hk ?_); rfl)
    | with_reducible refine keep_fwNext ?_ ?_
    | with_reducible refine keep_fwSkip ?_ ?_
    | with_reducible refine keep_eraseStart ?_ ?_
    | with_reducible refine Keeps.branch ?_ ?_
    | split
    | (refine Keeps.stf (hk.bits 26 rfl) ?_; first | with_reducible assumption | with_reducible refine keep_fwNext ?_ ?_ | with_reducible refine keep_fwSkip ?_ ?_ | with_reducible refine keep_eraseStart ?_ ?_)

theorem keep_fwComplete {k : Nat} {a : State} {s : State} {ch : Nat} {status : Nat} {corr : Nat} {retries : Nat}
    (hk : Sub 17259560962 k) (h : Keeps k a s) : Keeps k a (fwComplete s ch status corr retries) := by
  unfold fwComplete
  repeat' first
    | with_reducible assumption
    | ((with_reducible refine Sub.of hk ?_); rfl)
    | with_reducible refine keep_fwSkip ?_ ?_
    | with_reducible refine keep_fwNext ?_ ?_
    | with_reducible refine keep_fwAnswer ?_ ?_

theorem keep_doStoreParam {k : Nat} {a : State} {ch : Fin 32} {page : List Nat} {s : State}
    (hk : Sub 17259560962 k) (h : Keeps k a s) : Keeps k a (doStoreParam ch page s) := by
  unfold doStoreParam
  repeat' first
    | with_reducible assumption
    | ((with_reducible refine Sub.of hk ?_); rfl)
    | with_reducible refine keep_dWrite ?_ ?_
    | with_reducible refine keep_fwComplete ?_ ?_
    | split

theorem keep_setPatrol {k : Nat} {a : State} {s : State} {ch : Nat} {x : List Nat}
    (hk : Sub 16777216 k) (h : Keeps k a s) : Keeps k a (setPatrol s ch x) := by
  unfold setPatrol
  repeat' first
    | with_reducible assumption
    | ((with_reducible refine Sub.of hk ?_); rfl)
    | (refine Keeps.grm (hk.bits 24 rfl) ?_; first | with_reducible assumption)

theorem keep_readDie {k : Nat} {a : State} {s : State} {ch : Nat} {d : Nat}
    (hk : Sub 25839534210 k) (h : Keeps k a s) : ∀ t, readDie s ch d = some t → Keeps k a t := by
  intro t ht
  unfold readDie at ht
  dsimp only at ht
  repeat' split at ht
  all_goals first
    | contradiction
    | (obtain rfl := Option.some.inj ht
       first
       | exact h
       | exact keep_showErase (hk.of rfl) (keep_State_bump (hk.of rfl) (Keeps.stf (hk.bits 26 rfl) h))
       | exact keep_State_bump (hk.of rfl) (Keeps.stf (hk.bits 26 rfl) h))

theorem keep_doStorePatrolRead {k : Nat} {a : State} {ch : Fin 32} {rd : CwRead} {s : State}
    (hk : Sub 28175761538 k) (h : Keeps k a s) : Keeps k a (doStorePatrolRead ch rd s) := by
  unfold doStorePatrolRead
  repeat' first
    | with_reducible assumption
    | ((with_reducible refine Sub.of hk ?_); rfl)
    | (extract_lets +onlyGivenNames t
       first
       | (refine Keeps.have_ (k := k) (a := a) (t := t) ?_ ?_; unfold t; clear t; rotate_left; intro _; clear_value t; revert t; intros)
       | (refine Keeps.have_fst (k := k) (a := a) (t := t) ?_ ?_; unfold t; clear t; rotate_left; intro _; clear_value t; revert t; intros)
       | (clear_value t; revert t; intros))
    | with_reducible refine keep_streamLookup ?_ ?_
    | with_reducible refine keep_readCw ?_ ?_
    | with_reducible refine keep_lostCw ?_ ?_
    | with_reducible refine keep_farRelease ?_ ?_
    | with_reducible refine keep_relocAdd ?_ ?_
    | with_reducible refine keep_setPatrol ?_ ?_
    | with_reducible refine keep_State_bump ?_ ?_
    | with_reducible refine keep_readDie ?_ ?_ _ (by assumption)
    | with_reducible refine keep_raise ?_ ?_
    | split

theorem keep_doStoreRead {k : Nat} {a : State} {ch : Fin 32} {rd : CwRead} {s : State}
    (hk : Sub 25852117122 k) (h : Keeps k a s) : Keeps k a (doStoreRead ch rd s) := by
  unfold doStoreRead
  repeat' first
    | with_reducible assumption
    | ((with_reducible refine Sub.of hk ?_); rfl)
    | intro _
    | with_reducible refine keep_lineSound ?_ ?_
    | with_reducible refine keep_readCw ?_ ?_
    | with_reducible refine keep_linePoison ?_ ?_
    | with_reducible refine keep_dWrite ?_ ?_
    | with_reducible refine keep_State_bump ?_ ?_
    | with_reducible refine keep_fwComplete ?_ ?_
    | with_reducible refine keep_readDie ?_ ?_ _ (by assumption)
    | (with_reducible refine Keeps.foldl ?_ ?_)
    | with_reducible refine Keeps.branch ?_ ?_
    | split

theorem keep_doStoreReadMeta {k : Nat} {a : State} {ch : Fin 32} {rd : CwRead} {s : State}
    (hk : Sub 25852117122 k) (h : Keeps k a s) : Keeps k a (doStoreReadMeta ch rd s) := by
  unfold doStoreReadMeta
  repeat' first
    | with_reducible assumption
    | ((with_reducible refine Sub.of hk ?_); rfl)
    | with_reducible refine keep_readCw ?_ ?_
    | with_reducible refine keep_dWrite ?_ ?_
    | with_reducible refine keep_readDie ?_ ?_ _ (by assumption)
    | with_reducible refine keep_fwComplete ?_ ?_
    | with_reducible refine Keeps.branch ?_ ?_
    | split

theorem keep_doStoreReadRaw {k : Nat} {a : State} {ch : Fin 32} {s : State}
    (hk : Sub 25852117122 k) (h : Keeps k a s) : Keeps k a (doStoreReadRaw ch s) := by
  unfold doStoreReadRaw
  repeat' first
    | with_reducible assumption
    | ((with_reducible refine Sub.of hk ?_); rfl)
    | with_reducible refine keep_dWrite ?_ ?_
    | with_reducible refine keep_State_bump ?_ ?_
    | with_reducible refine keep_fwComplete ?_ ?_
    | with_reducible refine keep_readDie ?_ ?_ _ (by assumption)
    | split

theorem keep_doStoreRelocate {k : Nat} {a : State} {rd : CwRead} {s : State}
    (hk : Sub 28125429890 k) (h : Keeps k a s) : Keeps k a (doStoreRelocate rd s) := by
  unfold doStoreRelocate
  repeat' first
    | with_reducible assumption
    | ((with_reducible refine Sub.of hk ?_); rfl)
    | (extract_lets +onlyGivenNames t
       first
       | (refine Keeps.have_ (k := k) (a := a) (t := t) ?_ ?_; unfold t; clear t; rotate_left; intro _; clear_value t; revert t; intros)
       | (unfold t; clear t))
    | with_reducible refine keep_lostCw ?_ ?_
    | with_reducible refine keep_rowPut ?_ ?_ _ (by assumption)
    | with_reducible refine keep_readCw ?_ ?_
    | with_reducible refine keep_State_bump ?_ ?_
    | with_reducible refine keep_readDie ?_ ?_ _ (by assumption)
    | split
    | (refine Keeps.stf (hk.bits 26 rfl) ?_; first | with_reducible assumption | with_reducible refine keep_lostCw ?_ ?_ | with_reducible refine keep_readCw ?_ ?_ | with_reducible refine keep_State_bump ?_ ?_ | with_reducible refine keep_rowPut ?_ ?_ _ (by assumption) | with_reducible refine keep_readDie ?_ ?_ _ (by assumption))

theorem keep_doStoreRetire {k : Nat} {a : State} {fw : Bool} {ch : Fin 32} {die : Nat} {block : Nat} {cause : Nat} {s : State}
    (hk : Sub 25852133506 k) (h : Keeps k a s) : Keeps k a (doStoreRetire fw ch die block cause s) := by
  unfold doStoreRetire
  repeat' first
    | with_reducible assumption
    | ((with_reducible refine Sub.of hk ?_); rfl)
    | with_reducible refine keep_fwComplete ?_ ?_
    | with_reducible refine keep_retireMember ?_ ?_
    | with_reducible refine Keeps.branch ?_ ?_
    | split

theorem keep_doStoreSaveWrite {k : Nat} {a : State} {s : State}
    (hk : Sub 25769803906 k) (h : Keeps k a s) : Keeps k a (doStoreSaveWrite s) := by
  unfold doStoreSaveWrite
  repeat' first
    | with_reducible assumption
    | ((with_reducible refine Sub.of hk ?_); rfl)
    | with_reducible refine keep_State_bump ?_ ?_
    | with_reducible refine keep_raise ?_ ?_
    | with_reducible refine keep_State_wr ?_ ?_
    | with_reducible refine Keeps.branch ?_ ?_
    | split

theorem keep_doStoreSealWrite {k : Nat} {a : State} {a' : Fin 2} {s : State}
    (hk : Sub 131072 k) (h : Keeps k a s) : Keeps k a (doStoreSealWrite a' s) := by
  unfold doStoreSealWrite
  repeat' first
    | with_reducible assumption
    | ((with_reducible refine Sub.of hk ?_); rfl)
    | with_reducible refine keep_sealAppend ?_ ?_
    | split
    | (refine Keeps.sav (hk.bits 17 rfl) ?_; first | with_reducible assumption | with_reducible refine keep_sealAppend ?_ ?_)

theorem keep_doStudRead {k : Nat} {a : State} {frame : List Nat} {s : State}
    (hk : Sub 25769808258 k) (h : Keeps k a s) : Keeps k a (doStudRead frame s) := by
  unfold doStudRead
  repeat' first
    | with_reducible assumption
    | ((with_reducible refine Sub.of hk ?_); rfl)
    | intro _
    | (extract_lets +onlyGivenNames t
       first
       | (refine Keeps.have_ (k := k) (a := a) (t := t) ?_ ?_; unfold t; clear t; rotate_left; intro _; clear_value t; revert t; intros)
       | (clear_value t; revert t; intros))
    | with_reducible refine keep_svcRequest ?_ ?_ ?_ ?_
    | split

theorem keep_setStudPos {k : Nat} {a : State} {s : State} {copy : Nat} {off : Nat}
    (hk : Sub 2 k) (h : Keeps k a s) : Keeps k a (setStudPos s copy off) := by
  unfold setStudPos
  repeat' first
    | with_reducible assumption
    | ((with_reducible refine Sub.of hk ?_); rfl)
    | with_reducible refine keep_State_wr ?_ ?_
    | with_reducible refine Keeps.branch ?_ ?_

theorem keep_doStudbookAppend {k : Nat} {a : State} {s : State}
    (hk : Sub 16514 k) (h : Keeps k a s) : Keeps k a (doStudbookAppend s) := by
  unfold doStudbookAppend
  repeat' first
    | with_reducible assumption
    | ((with_reducible refine Sub.of hk ?_); rfl)
    | (extract_lets +onlyGivenNames t
       first
       | (refine Keeps.have_ (k := k) (a := a) (t := t) ?_ ?_; unfold t; clear t; rotate_left; intro _; clear_value t; revert t; intros)
       | (clear_value t; revert t; intros))
    | with_reducible refine keep_kprog ?_ ?_
    | with_reducible refine keep_setStudPos ?_ ?_
    | with_reducible refine keep_State_wr64 ?_ ?_
    | split
    | (refine Keeps.recd (hk.bits 7 rfl) ?_; with_reducible assumption)
    | (refine Keeps.kpf (hk.bits 14 rfl) ?_; with_reducible assumption)
    | exact Keeps.build 16512 (hk.of rfl) (by assumption) (by rfl) (by rfl) (by exact fun p hp => by cases p <;> first | exact absurd hp (by decide) | rfl) (by exact List.suffix_refl _) (by exact grown_refl _) (by exact id) (by exact id)

theorem keep_doStudbookScan {k : Nat} {a : State} {s : State}
    (hk : Sub 25769803906 k) (h : Keeps k a s) : Keeps k a (doStudbookScan s) := by
  unfold doStudbookScan
  repeat' first
    | with_reducible assumption
    | ((with_reducible refine Sub.of hk ?_); rfl)
    | (extract_lets +onlyGivenNames t
       first
       | (refine Keeps.have_ (k := k) (a := a) (t := t) ?_ ?_; unfold t; clear t; rotate_left; intro _; clear_value t; revert t; intros)
       | (clear_value t; revert t; intros))
    | with_reducible refine keep_setStudPos ?_ ?_
    | with_reducible refine keep_raise ?_ ?_
    | with_reducible refine keep_State_wr64 ?_ ?_
    | split

theorem keep_doStudbookSectorEraseDone {k : Nat} {a : State} {s : State}
    (hk : Sub 16384 k) (h : Keeps k a s) : Keeps k a (doStudbookSectorEraseDone s) := by
  unfold doStudbookSectorEraseDone
  repeat' first
    | with_reducible assumption
    | ((with_reducible refine Sub.of hk ?_); rfl)
    | with_reducible refine keep_kerase ?_ ?_
    | with_reducible refine Keeps.branch ?_ ?_
    | (refine Keeps.kpf (hk.bits 14 rfl) ?_; first | with_reducible assumption | with_reducible refine keep_kerase ?_ ?_)

theorem keep_doSummaryRecord {k : Nat} {a : State} {code : Nat} {s : State}
    (hk : Sub 25769803904 k) (h : Keeps k a s) : Keeps k a (doSummaryRecord code s) := by
  unfold doSummaryRecord
  repeat' first
    | with_reducible assumption
    | ((with_reducible refine Sub.of hk ?_); rfl)
    | with_reducible refine keep_record ?_ ?_
    | with_reducible refine keep_occur ?_ ?_
    | with_reducible refine Keeps.branch ?_ ?_

theorem keep_doSuperblockOpen {k : Nat} {a : State} {k' : Nat} {bad : Bool} {s : State}
    (hk : Sub 25839534210 k) (h : Keeps k a s) : Keeps k a (doSuperblockOpen k' bad s) := by
  unfold doSuperblockOpen
  repeat' first
    | with_reducible assumption
    | ((with_reducible refine Sub.of hk ?_); rfl)
    | with_reducible refine keep_setBlk ?_ ?_
    | with_reducible refine keep_raise ?_ ?_
    | with_reducible refine Keeps.branch ?_ ?_
    | (refine Keeps.stf (hk.bits 26 rfl) ?_; first | with_reducible assumption | with_reducible refine keep_setBlk ?_ ?_ | with_reducible refine keep_raise ?_ ?_)

theorem keep_doSvcClose {k : Nat} {a : State} {frame : List Nat} {s : State}
    (hk : Sub 25769808258 k) (h : Keeps k a s) : Keeps k a (doSvcClose frame s) := by
  unfold doSvcClose
  repeat' first
    | with_reducible assumption
    | ((with_reducible refine Sub.of hk ?_); rfl)
    | intro _
    | with_reducible refine keep_svcRequest ?_ ?_ ?_ ?_
    | with_reducible refine keep_svcEnd ?_ ?_

theorem keep_doSvcIdent {k : Nat} {a : State} {frame : List Nat} {s : State}
    (hk : Sub 25769808258 k) (h : Keeps k a s) : Keeps k a (doSvcIdent frame s) := by
  unfold doSvcIdent
  repeat' first
    | with_reducible assumption
    | ((with_reducible refine Sub.of hk ?_); rfl)
    | intro _
    | with_reducible refine keep_svcRequest ?_ ?_ ?_ ?_
    | split

theorem keep_svcOpen {k : Nat} {a : State} {s : State} {f : List Nat}
    (hk : Sub 30064783616 k) (h : Keeps k a s) : Keeps k a (svcOpen s f) := by
  unfold svcOpen
  repeat' first
    | with_reducible assumption
    | ((with_reducible refine Sub.of hk ?_); rfl)
    | (extract_lets +onlyGivenNames t
       first
       | (refine Keeps.have_ (k := k) (a := a) (t := t) ?_ ?_; unfold t; clear t; rotate_left; intro _; clear_value t; revert t; intros)
       | (clear_value t; revert t; intros))
    | with_reducible refine keep_svcSend ?_ ?_
    | with_reducible refine keep_drawn ?_ ?_
    | with_reducible refine keep_tagBlocks ?_ ?_
    | split
    | (refine Keeps.svc (hk.bits 12 rfl) ?_; with_reducible assumption)
    | (refine Keeps.dic (hk.bits 8 rfl) ?_; with_reducible assumption)
    | exact Keeps.build 4352 (hk.of rfl) (by assumption) (by rfl) (by rfl) (by exact fun p hp => by cases p <;> first | exact absurd hp (by decide) | rfl) (by exact List.suffix_refl _) (by exact grown_refl _) (by exact id) (by exact id)

theorem keep_doSvcOpen {k : Nat} {a : State} {frame : List Nat} {s : State}
    (hk : Sub 30064783616 k) (h : Keeps k a s) : Keeps k a (doSvcOpen frame s) := by
  unfold doSvcOpen
  repeat' first
    | with_reducible assumption
    | ((with_reducible refine Sub.of hk ?_); rfl)
    | with_reducible refine keep_svcOpen ?_ ?_
    | with_reducible refine Keeps.branch ?_ ?_

theorem keep_svcProveFailed {k : Nat} {a : State} {s : State}
    (hk : Sub 25769808256 k) (h : Keeps k a s) : Keeps k a (svcProveFailed s) := by
  unfold svcProveFailed
  repeat' first
    | with_reducible assumption
    | ((with_reducible refine Sub.of hk ?_); rfl)
    | with_reducible refine keep_raise ?_ ?_
    | with_reducible refine keep_countFrame ?_ ?_
    | (refine Keeps.svc (hk.bits 12 rfl) ?_; with_reducible assumption)
    | (refine Keeps.dic (hk.bits 8 rfl) ?_; with_reducible assumption)
    | exact Keeps.build 4352 (hk.of rfl) (by assumption) (by rfl) (by rfl) (by exact fun p hp => by cases p <;> first | exact absurd hp (by decide) | rfl) (by exact List.suffix_refl _) (by exact grown_refl _) (by exact id) (by exact id)

theorem keep_svcProve {k : Nat} {a : State} {s : State} {x : Session} {f : List Nat}
    (hk : Sub 25769808258 k) (h : Keeps k a s) : Keeps k a (svcProve s x f) := by
  unfold svcProve
  repeat' first
    | with_reducible assumption
    | ((with_reducible refine Sub.of hk ?_); rfl)
    | with_reducible refine keep_svcSend ?_ ?_
    | with_reducible refine keep_showSvc ?_ ?_
    | with_reducible refine keep_svcProveFailed ?_ ?_
    | with_reducible refine keep_raise ?_ ?_
    | with_reducible refine keep_tagBlocks ?_ ?_
    | with_reducible refine Keeps.branch ?_ ?_
    | (refine Keeps.svc (hk.bits 12 rfl) ?_; first | with_reducible assumption | with_reducible refine keep_svcSend ?_ ?_ | with_reducible refine keep_showSvc ?_ ?_ | with_reducible refine keep_svcProveFailed ?_ ?_ | with_reducible refine keep_raise ?_ ?_ | with_reducible refine keep_tagBlocks ?_ ?_)

theorem keep_doSvcProve {k : Nat} {a : State} {frame : List Nat} {s : State}
    (hk : Sub 25769808258 k) (h : Keeps k a s) : Keeps k a (doSvcProve frame s) := by
  unfold doSvcProve
  repeat' first
    | with_reducible assumption
    | ((with_reducible refine Sub.of hk ?_); rfl)
    | with_reducible refine keep_svcSend ?_ ?_
    | with_reducible refine keep_svcProve ?_ ?_
    | split

theorem keep_doSvcReset {k : Nat} {a : State} {frame : List Nat} {s : State}
    (hk : Sub 64424509435 k) (h : Keeps k a s) : Keeps k a (doSvcReset frame s) := by
  unfold doSvcReset
  repeat' first
    | with_reducible assumption
    | ((with_reducible refine Sub.of hk ?_); rfl)
    | intro _
    | with_reducible refine keep_svcRequest ?_ ?_ ?_ ?_
    | with_reducible refine keep_requestedReset ?_ ?_
    | with_reducible refine Keeps.branch ?_ ?_

theorem keep_doSvcSessionTimeout {k : Nat} {a : State} {s : State}
    (hk : Sub 25769808002 k) (h : Keeps k a s) : Keeps k a (doSvcSessionTimeout s) := by
  unfold doSvcSessionTimeout
  repeat' first
    | with_reducible assumption
    | ((with_reducible refine Sub.of hk ?_); rfl)
    | with_reducible refine keep_svcEnd ?_ ?_
    | split

theorem keep_doTackRead {k : Nat} {a : State} {frame : List Nat} {s : State}
    (hk : Sub 25769808258 k) (h : Keeps k a s) : Keeps k a (doTackRead frame s) := by
  unfold doTackRead
  repeat' first
    | with_reducible assumption
    | ((with_reducible refine Sub.of hk ?_); rfl)
    | intro _
    | (extract_lets +onlyGivenNames t
       first
       | (refine Keeps.have_ (k := k) (a := a) (t := t) ?_ ?_; unfold t; clear t; rotate_left; intro _; clear_value t; revert t; intros)
       | (clear_value t; revert t; intros)
       | (unfold t; clear t))
    | with_reducible refine keep_svcRequest ?_ ?_ ?_ ?_
    | with_reducible refine Keeps.branch ?_ ?_
    | split

theorem keep_doTakeoverFailure {k : Nat} {a : State} {late : Bool} {s : State}
    (hk : Sub 64424509435 k) (h : Keeps k a s) : Keeps k a (doTakeoverFailure late s) := by
  unfold doTakeoverFailure
  repeat' first
    | with_reducible assumption
    | ((with_reducible refine Sub.of hk ?_); rfl)
    | with_reducible refine keep_complexFailed ?_ ?_
    | split

theorem keep_doTierHAccessFail {k : Nat} {a : State} {page : Nat} {cause : Fin 3} {s : State}
    (hk : Sub 25904021634 k) (h : Keeps k a s) : Keeps k a (doTierHAccessFail page cause s) := by
  unfold doTierHAccessFail
  repeat' first
    | with_reducible assumption
    | ((with_reducible refine Sub.of hk ?_); rfl)
    | with_reducible refine keep_State_bump ?_ ?_
    | with_reducible refine keep_raise ?_ ?_
    | with_reducible refine keep_setHState ?_ ?_
    | with_reducible refine Keeps.branch ?_ ?_
    | (refine Keeps.tie (hk.bits 27 rfl) ?_; first | with_reducible assumption | with_reducible refine keep_State_bump ?_ ?_ | with_reducible refine keep_raise ?_ ?_ | with_reducible refine keep_setHState ?_ ?_)

theorem keep_fillArrived {k : Nat} {a : State} {p : Nat} {rd : CwRead} {s : State}
    (hk : Sub 28662300802 k) (h : Keeps k a s) : Keeps k a (fillArrived p rd s) := by
  unfold fillArrived
  repeat' first
    | with_reducible assumption
    | ((with_reducible refine Sub.of hk ?_); rfl)
    | intro _
    | (extract_lets +onlyGivenNames t
       first
       | (refine Keeps.have_ (k := k) (a := a) (t := t) ?_ ?_; unfold t; clear t; rotate_left; intro _; clear_value t; revert t; intros)
       | (refine Keeps.have_fst (k := k) (a := a) (t := t) ?_ ?_; unfold t; clear t; rotate_left; intro _; clear_value t; revert t; intros)
       | (clear_value t; revert t; intros)
       | (unfold t; clear t))
    | with_reducible refine keep_fillLost ?_ ?_
    | with_reducible refine keep_fillInstall ?_ ?_
    | with_reducible refine keep_readCw ?_ ?_
    | with_reducible refine keep_State_bump ?_ ?_
    | with_reducible refine keep_withTag ?_ ?_
    | with_reducible refine keep_readDie ?_ ?_ _ (by assumption)
    | (with_reducible refine Keeps.foldl ?_ ?_)
    | (with_reducible refine Keeps.foldl_fst ?_ ?_)
    | with_reducible refine Keeps.ofPair (by assumption) ?_
    | with_reducible refine Keeps.branch ?_ ?_
    | split
    | (refine Keeps.twn (hk.bits 31 rfl) ?_; first | with_reducible assumption | with_reducible refine keep_fillLost ?_ ?_ | with_reducible refine keep_fillInstall ?_ ?_ | with_reducible refine keep_readCw ?_ ?_ | with_reducible refine keep_State_bump ?_ ?_ | with_reducible refine keep_withTag ?_ ?_ | with_reducible refine keep_readDie ?_ ?_ _ (by assumption))

theorem keep_doTierSFillDone {k : Nat} {a : State} {p : Nat} {rd : CwRead} {s : State}
    (hk : Sub 28671737986 k) (h : Keeps k a s) : Keeps k a (doTierSFillDone p rd s) := by
  unfold doTierSFillDone
  repeat' first
    | with_reducible assumption
    | ((with_reducible refine Sub.of hk ?_); rfl)
    | (extract_lets +onlyGivenNames t
       first
       | (refine Keeps.have_ (k := k) (a := a) (t := t) ?_ ?_; unfold t; clear t; rotate_left; intro _; clear_value t; revert t; intros)
       | (clear_value t; revert t; intros)
       | (unfold t; clear t))
    | with_reducible refine keep_retryHeld ?_ ?_
    | with_reducible refine keep_fillArrived ?_ ?_
    | with_reducible refine keep_retryWaiting ?_ ?_
    | with_reducible refine Keeps.branch ?_ ?_
    | split

theorem keep_doTrainingOpDone {k : Nat} {a : State} {c : Fin 16} {lanes : List Nat} {bursts : Nat} {s : State}
    (hk : Sub 8388610 k) (h : Keeps k a s) : Keeps k a (doTrainingOpDone c lanes bursts s) := by
  unfold doTrainingOpDone
  repeat' first
    | with_reducible assumption
    | ((with_reducible refine Sub.of hk ?_); rfl)
    | intro _
    | with_reducible refine keep_setDrc ?_ ?_
    | with_reducible refine keep_State_wr ?_ ?_
    | (with_reducible refine Keeps.foldl ?_ ?_)
    | split

theorem keep_l1Fill {k : Nat} {a : State} {s : State} {p : Nat} {e : Nat}
    (hk : Sub 2097152 k) (h : Keeps k a s) : Keeps k a (l1Fill s p e) := by
  unfold l1Fill
  repeat' first
    | with_reducible assumption
    | ((with_reducible refine Sub.of hk ?_); rfl)
    | (refine Keeps.trn (hk.bits 21 rfl) ?_; first | with_reducible assumption)

theorem keep_hostLookup {k : Nat} {a : State} {s : State} {p : Nat} {e : Nat}
    (hk : Sub 17181966336 k) (h : Keeps k a s) : Keeps k a (hostLookup s p e).1 := by
  unfold hostLookup
  repeat' first
    | with_reducible assumption
    | ((with_reducible refine Sub.of hk ?_); rfl)
    | (extract_lets +onlyGivenNames t
       first
       | (refine Keeps.have_ (k := k) (a := a) (t := t) ?_ ?_; unfold t; clear t; rotate_left; intro _; clear_value t; revert t; intros))
    | with_reducible refine keep_l2Hit ?_ ?_ _ (by assumption)
    | with_reducible refine keep_State_bump ?_ ?_
    | with_reducible refine keep_l1Fill ?_ ?_
    | with_reducible refine keep_issueFill ?_ ?_
    | split
    | (refine Keeps.trn (hk.bits 21 rfl) ?_; with_reducible assumption)

theorem keep_doTranslate {k : Nat} {a : State} {id : Nat} {s : State}
    (hk : Sub 26308771970 k) (h : Keeps k a s) : Keeps k a (doTranslate id s) := by
  unfold doTranslate
  repeat' first
    | with_reducible assumption
    | ((with_reducible refine Sub.of hk ?_); rfl)
    | intro _
    | with_reducible refine keep_accessFailed ?_ ?_
    | with_reducible refine keep_setReq ?_ ?_
    | with_reducible refine keep_failOps ?_ ?_
    | with_reducible refine keep_hostLookup ?_ ?_
    | with_reducible refine keep_State_bump ?_ ?_
    | (with_reducible refine Keeps.foldl_fst ?_ ?_)
    | with_reducible refine Keeps.branch ?_ ?_
    | split
    | (refine Keeps.trn (hk.bits 21 rfl) ?_; with_reducible assumption)

theorem keep_doTrnAgeTick {k : Nat} {a : State} {s : State}
    (hk : Sub 2097152 k) (h : Keeps k a s) : Keeps k a (doTrnAgeTick s) := by
  unfold doTrnAgeTick
  repeat' first
    | with_reducible assumption
    | ((with_reducible refine Sub.of hk ?_); rfl)
    | with_reducible refine Keeps.branch ?_ ?_
    | (refine Keeps.trn (hk.bits 21 rfl) ?_; first | with_reducible assumption)

theorem keep_freePage {k : Nat} {a : State} {s : State} {p : Nat}
    (hk : Sub 28058321026 k) (h : Keeps k a s) : Keeps k a (freePage s p) := by
  unfold freePage
  split
  · exact h
  · extract_lets +onlyGivenNames d t
    have ht : Keeps k a t := by
      unfold t
      split
      · exact keep_frameSound (hk.of rfl) (Keeps.dram (hk.bits 22 rfl) h (fun g => Memory.wf_memZero g))
      · exact h
    exact keep_returnGroup (hk.of rfl) (keep_checkMove (hk.of rfl) (keep_modExtent (hk.of rfl) ht))

theorem keep_retryDeallocs {k : Nat} {a : State} {s : State}
    (hk : Sub 28126478722 k) (h : Keeps k a s) : Keeps k a (retryDeallocs s) := by
  unfold retryDeallocs
  repeat' first
    | with_reducible assumption
    | ((with_reducible refine Sub.of hk ?_); rfl)
    | intro _
    | with_reducible refine keep_deallocReq ?_ ?_
    | with_reducible refine keep_deallocPair ?_ ?_
    | (with_reducible refine Keeps.foldl ?_ ?_)
    | with_reducible refine Keeps.branch ?_ ?_
    | (refine Keeps.twn (hk.bits 31 rfl) ?_; with_reducible assumption)

theorem keep_updateOver {k : Nat} {a : State} {s : State}
    (hk : Sub 28126478722 k) (h : Keeps k a s) : Keeps k a (updateOver s) := by
  unfold updateOver
  repeat' first
    | with_reducible assumption
    | ((with_reducible refine Sub.of hk ?_); rfl)
    | (extract_lets +onlyGivenNames t
       first
       | (refine Keeps.have_ (k := k) (a := a) (t := t) ?_ ?_; unfold t; clear t; rotate_left; intro _; clear_value t; revert t; intros)
       | (clear_value t; revert t; intros)
       | (unfold t; clear t))
    | with_reducible refine keep_freePage ?_ ?_
    | with_reducible refine keep_retryDeallocs ?_ ?_
    | with_reducible refine keep_State_wr ?_ ?_
    | with_reducible refine Keeps.branch ?_ ?_
    | split
    | (refine Keeps.trn (hk.bits 21 rfl) ?_; first | with_reducible assumption | with_reducible refine keep_freePage ?_ ?_ | with_reducible refine keep_retryDeallocs ?_ ?_ | with_reducible refine keep_State_wr ?_ ?_)

theorem keep_doTrnUpdateComplete {k : Nat} {a : State} {s : State}
    (hk : Sub 28663349634 k) (h : Keeps k a s) : Keeps k a (doTrnUpdateComplete s) := by
  unfold doTrnUpdateComplete
  repeat' first
    | with_reducible assumption
    | ((with_reducible refine Sub.of hk ?_); rfl)
    | (extract_lets +onlyGivenNames t
       first
       | (refine Keeps.have_ (k := k) (a := a) (t := t) ?_ ?_; unfold t; clear t; rotate_left; intro _; clear_value t; revert t; intros)
       | (clear_value t; revert t; intros)
       | (unfold t; clear t))
    | with_reducible refine keep_updateOver ?_ ?_
    | with_reducible refine keep_retryWaiting ?_ ?_
    | with_reducible refine Keeps.branch ?_ ?_
    | split

theorem keep_doUsbAttach {k : Nat} {a : State} {s : State}
    (hk : Sub 2 k) (h : Keeps k a s) : Keeps k a (doUsbAttach s) := by
  unfold doUsbAttach
  repeat' first
    | with_reducible assumption
    | ((with_reducible refine Sub.of hk ?_); rfl)
    | with_reducible refine keep_State_wr ?_ ?_
    | with_reducible refine Keeps.branch ?_ ?_

theorem keep_doUsbDetach {k : Nat} {a : State} {s : State}
    (hk : Sub 25769808002 k) (h : Keeps k a s) : Keeps k a (doUsbDetach s) := by
  unfold doUsbDetach
  repeat' first
    | with_reducible assumption
    | ((with_reducible refine Sub.of hk ?_); rfl)
    | with_reducible refine keep_svcEnd ?_ ?_
    | with_reducible refine keep_State_wr ?_ ?_
    | with_reducible refine Keeps.branch ?_ ?_

theorem keep_doValidCountWalkDone {k : Nat} {a : State} {s : State}
    (hk : Sub 25839534210 k) (h : Keeps k a s) : Keeps k a (doValidCountWalkDone s) := by
  unfold doValidCountWalkDone
  repeat' first
    | with_reducible assumption
    | ((with_reducible refine Sub.of hk ?_); rfl)
    | intro _
    | with_reducible refine keep_setBlk ?_ ?_
    | with_reducible refine keep_State_wr ?_ ?_
    | (with_reducible refine Keeps.foldl ?_ ?_)
    | with_reducible refine Keeps.branch ?_ ?_
    | (refine Keeps.stf (hk.bits 26 rfl) ?_; with_reducible assumption)

theorem keep_doWaitLimitExpiry {k : Nat} {a : State} {n : Fin 8} {slot : Fin 16} {s : State}
    (hk : Sub 29946806402 k) (h : Keeps k a s) : Keeps k a (doWaitLimitExpiry n slot s) := by
  unfold doWaitLimitExpiry
  repeat' first
    | with_reducible assumption
    | ((with_reducible refine Sub.of hk ?_); rfl)
    | with_reducible refine keep_failJob ?_ ?_
    | with_reducible refine keep_showMst ?_ ?_
    | with_reducible refine keep_setJob ?_ ?_
    | with_reducible refine Keeps.branch ?_ ?_
    | split

theorem keep_doWaitWordPoll {k : Nat} {a : State} {n : Fin 8} {slot : Fin 16} {s : State}
    (hk : Sub 29946806402 k) (h : Keeps k a s) : Keeps k a (doWaitWordPoll n slot s) := by
  unfold doWaitWordPoll
  repeat' first
    | with_reducible assumption
    | ((with_reducible refine Sub.of hk ?_); rfl)
    | with_reducible refine keep_spaceSeek ?_ ?_
    | with_reducible refine keep_failJob ?_ ?_
    | with_reducible refine keep_showMst ?_ ?_
    | with_reducible refine keep_setJob ?_ ?_
    | with_reducible refine Keeps.branch ?_ ?_
    | split

theorem keep_doWaitrelExpiry {k : Nat} {a : State} {owner : Nat} {s : State}
    (hk : Sub 25803358338 k) (h : Keeps k a s) : Keeps k a (doWaitrelExpiry owner s) := by
  unfold doWaitrelExpiry
  repeat' first
    | with_reducible assumption
    | ((with_reducible refine Sub.of hk ?_); rfl)
    | with_reducible refine keep_farDrop ?_ ?_
    | with_reducible refine keep_raise ?_ ?_
    | split
    | (refine Keeps.far (hk.bits 25 rfl) ?_; first | with_reducible assumption | with_reducible refine keep_farDrop ?_ ?_ | with_reducible refine keep_raise ?_ ?_)

theorem keep_doWatchdogExpiry {k : Nat} {a : State} {core : Fin 4} {s : State}
    (hk : Sub 64424509435 k) (h : Keeps k a s) : Keeps k a (doWatchdogExpiry core s) := by
  unfold doWatchdogExpiry
  repeat' first
    | with_reducible assumption
    | ((with_reducible refine Sub.of hk ?_); rfl)
    | with_reducible refine keep_raise ?_ ?_
    | with_reducible refine keep_sourceReset ?_ ?_
    | with_reducible refine Keeps.branch ?_ ?_

theorem keep_doWatchdogHalfTime {k : Nat} {a : State} {core : Fin 4} {s : State}
    (hk : Sub 25769805952 k) (h : Keeps k a s) : Keeps k a (doWatchdogHalfTime core s) := by
  unfold doWatchdogHalfTime
  repeat' first
    | with_reducible assumption
    | ((with_reducible refine Sub.of hk ?_); rfl)
    | with_reducible refine keep_raise ?_ ?_
    | with_reducible refine Keeps.branch ?_ ?_
    | (refine Keeps.cpx (hk.bits 11 rfl) ?_; with_reducible assumption)

theorem keep_doWidengapExpiry {k : Nat} {a : State} {s : State}
    (hk : Sub 10737418240 k) (h : Keeps k a s) : Keeps k a (doWidengapExpiry s) := by
  unfold doWidengapExpiry
  repeat' first
    | with_reducible assumption
    | ((with_reducible refine Sub.of hk ?_); rfl)
    | with_reducible refine keep_widen ?_ ?_
    | with_reducible refine Keeps.branch ?_ ?_

theorem keep_doWidthSwitch {k : Nat} {a : State} {s : State}
    (hk : Sub 68719476731 k) (h : Keeps k a s) : Keeps k a (doWidthSwitch s) := by
  unfold doWidthSwitch
  repeat' first
    | with_reducible assumption
    | ((with_reducible refine Sub.of hk ?_); rfl)
    | intro _
    | with_reducible refine keep_probation ?_ ?_
    | with_reducible refine keep_resendFlits ?_ ?_
    | with_reducible refine keep_linkFault ?_ ?_
    | with_reducible refine keep_setWidth ?_ ?_
    | with_reducible refine keep_State_wbit ?_ ?_
    | with_reducible refine keep_State_bump ?_ ?_
    | with_reducible refine keep_raise ?_ ?_
    | with_reducible refine keep_pump ?_ ?_
    | (with_reducible refine Keeps.foldl ?_ ?_)
    | split
    | (refine Keeps.twn (hk.bits 31 rfl) ?_; with_reducible assumption)

theorem keep_program {k : Nat} {a : State} {s : State} {l : SLoc} {c : Codeword}
    (hk : Sub 17246978048 k) (h : Keeps k a s) : Keeps k a (program s l c) := by
  unfold program
  repeat' first
    | with_reducible assumption
    | ((with_reducible refine Sub.of hk ?_); rfl)
    | with_reducible refine keep_State_bump ?_ ?_
    | (refine Keeps.stf (hk.bits 26 rfl) ?_; with_reducible assumption)

theorem keep_setRef {k : Nat} {a : State} {s : State} {r : Nat} {l : SLoc}
    (hk : Sub 25839534210 k) (h : Keeps k a s) : Keeps k a (setRef s r l) := by
  unfold setRef
  repeat' first
    | with_reducible assumption
    | ((with_reducible refine Sub.of hk ?_); rfl)
    | with_reducible refine keep_setLocator ?_ ?_
    | with_reducible refine keep_setRoot ?_ ?_
    | with_reducible refine keep_setStore ?_ ?_
    | split

theorem keep_entDone {k : Nat} {a : State} {s : State} {e : RowEnt}
    (hk : Sub 28125429890 k) (h : Keeps k a s) : Keeps k a (entDone s e) := by
  unfold entDone
  repeat' first
    | with_reducible assumption
    | ((with_reducible refine Sub.of hk ?_); rfl)
    | with_reducible refine keep_State_bump ?_ ?_
    | with_reducible refine keep_program ?_ ?_
    | with_reducible refine keep_setRef ?_ ?_
    | with_reducible refine keep_retireCheck ?_ ?_
    | with_reducible refine keep_cleanDone ?_ ?_
    | split

theorem keep_rowDone {k : Nat} {a : State} {s : State} {r : OpenRow}
    (hk : Sub 28125429890 k) (h : Keeps k a s) : Keeps k a (rowDone s r) := by
  unfold rowDone
  repeat' first
    | with_reducible assumption
    | ((with_reducible refine Sub.of hk ?_); rfl)
    | intro _
    | (extract_lets +onlyGivenNames t
       first
       | (refine Keeps.have_ (k := k) (a := a) (t := t) ?_ ?_; unfold t; clear t; rotate_left; intro _; clear_value t; revert t; intros)
       | (clear_value t; revert t; intros))
    | with_reducible refine keep_setBlk ?_ ?_
    | with_reducible refine keep_State_bump ?_ ?_
    | with_reducible refine keep_entDone ?_ ?_
    | (with_reducible refine Keeps.foldl ?_ ?_)
    | with_reducible refine Keeps.branch ?_ ?_
    | (refine Keeps.stf (hk.bits 26 rfl) ?_; with_reducible assumption)

theorem keep_doWordlineVerified {k : Nat} {a : State} {s : State}
    (hk : Sub 28125429890 k) (h : Keeps k a s) : Keeps k a (doWordlineVerified s) := by
  unfold doWordlineVerified
  repeat' first
    | with_reducible assumption
    | ((with_reducible refine Sub.of hk ?_); rfl)
    | with_reducible refine keep_rowDone ?_ ?_
    | split

theorem keep_doWrapperDrainTimeout {k : Nat} {a : State} {block : Fin 58} {forced : Nat} {s : State}
    (hk : Sub 30064737194 k) (h : Keeps k a s) : Keeps k a (doWrapperDrainTimeout block forced s) := by
  unfold doWrapperDrainTimeout
  repeat' first
    | with_reducible assumption
    | ((with_reducible refine Sub.of hk ?_); rfl)
    | with_reducible refine keep_resetBlockNow ?_ ?_
    | with_reducible refine keep_State_bump ?_ ?_
    | with_reducible refine keep_raise ?_ ?_
    | with_reducible refine Keeps.branch ?_ ?_
    | (refine Keeps.rst (hk.bits 5 rfl) ?_; first | with_reducible assumption | with_reducible refine keep_resetBlockNow ?_ ?_ | with_reducible refine keep_State_bump ?_ ?_ | with_reducible refine keep_raise ?_ ?_)

theorem keep_doWritebackProgramFailed {k : Nat} {a : State} {ref : Nat} {s : State}
    (hk : Sub 25839550594 k) (h : Keeps k a s) : Keeps k a (doWritebackProgramFailed ref s) := by
  unfold doWritebackProgramFailed
  repeat' first
    | with_reducible assumption
    | ((with_reducible refine Sub.of hk ?_); rfl)
    | (extract_lets +onlyGivenNames t
       first
       | (refine Keeps.have_ (k := k) (a := a) (t := t) ?_ ?_; unfold t; clear t; rotate_left; intro _; clear_value t; revert t; intros)
       | (clear_value t; revert t; intros))
    | with_reducible refine keep_retireMember ?_ ?_
    | with_reducible refine keep_setPage ?_ ?_
    | split
    | (refine Keeps.stf (hk.bits 26 rfl) ?_; with_reducible assumption)

theorem keep_doWritebackVerified {k : Nat} {a : State} {ref : Nat} {s : State}
    (hk : Sub 28125429890 k) (h : Keeps k a s) : Keeps k a (doWritebackVerified ref s) := by
  unfold doWritebackVerified
  repeat' first
    | with_reducible assumption
    | ((with_reducible refine Sub.of hk ?_); rfl)
    | with_reducible refine keep_entDone ?_ ?_
    | split
    | (refine Keeps.stf (hk.bits 26 rfl) ?_; with_reducible assumption)

theorem keep_doXipFetchMiss {k : Nat} {a : State} {line : BitVec 23} {s : State}
    (hk : Sub 17179885568 k) (h : Keeps k a s) : Keeps k a (doXipFetchMiss line s) := by
  unfold doXipFetchMiss
  repeat' first
    | with_reducible assumption
    | ((with_reducible refine Sub.of hk ?_); rfl)
    | (extract_lets +onlyGivenNames t
       first
       | (refine Keeps.have_ (k := k) (a := a) (t := t) ?_ ?_; unfold t; clear t; rotate_left; intro _; clear_value t; revert t; intros)
       | (unfold t; clear t))
    | with_reducible refine keep_State_bump ?_ ?_
    | with_reducible refine Keeps.branch ?_ ?_
    | (refine Keeps.kpf (hk.bits 14 rfl) ?_; with_reducible assumption)

theorem keep_govFollow {k : Nat} {a : State} {s : State}
    (hk : Sub 27417051547 k) (h : Keeps k a s) : Keeps k a (govFollow s) := by
  unfold govFollow
  repeat' first
    | with_reducible assumption
    | ((with_reducible refine Sub.of hk ?_); rfl)
    | with_reducible refine keep_govAct ?_ ?_
    | with_reducible refine keep_govShow ?_ ?_
    | with_reducible refine Keeps.branch ?_ ?_

-- skipped Sys2Proof.Machine.imagePageCells

theorem keep_keepResponse {k : Nat} {a : State} {s : State} {n : Nat} {f : List Nat} {resp : List Nat}
    (hk : Sub 256 k) (h : Keeps k a s) : Keeps k a (keepResponse s n f resp) := by
  unfold keepResponse
  repeat' first
    | with_reducible assumption
    | ((with_reducible refine Sub.of hk ?_); rfl)
    | with_reducible refine keep_modSession ?_ ?_

theorem keep_linkTick {k : Nat} {a : State} {s : State}
    (hk : Sub 27917287424 k) (h : Keeps k a s) : Keeps k a (linkTick s) := by
  unfold linkTick
  repeat' first
    | with_reducible assumption
    | ((with_reducible refine Sub.of hk ?_); rfl)
    | with_reducible refine keep_idleFlit ?_ ?_
    | with_reducible refine Keeps.branch ?_ ?_
    | (refine Keeps.twn (hk.bits 31 rfl) ?_; with_reducible assumption)

theorem keep_mdioEnd {k : Nat} {a : State} {s : State}
    (hk : Sub 34359738370 k) (h : Keeps k a s) : Keeps k a (mdioEnd s) := by
  unfold mdioEnd
  repeat' first
    | with_reducible assumption
    | ((with_reducible refine Sub.of hk ?_); rfl)
    | with_reducible refine keep_State_wr ?_ ?_
    | split
    | (refine Keeps.mdio (hk.bits 35 rfl) ?_; with_reducible assumption)

theorem keep_missRoom {k : Nat} {a : State} {s : State}
    (hk : Sub 536870914 k) (h : Keeps k a s) : Keeps k a (missRoom s) := by
  unfold missRoom
  repeat' first
    | with_reducible assumption
    | ((with_reducible refine Sub.of hk ?_); rfl)
    | intro _
    | with_reducible refine keep_State_wr ?_ ?_
    | (with_reducible refine Keeps.foldl ?_ ?_)
    | with_reducible refine Keeps.branch ?_ ?_
    | (refine Keeps.xpt (hk.bits 29 rfl) ?_; with_reducible assumption)

theorem keep_progressRise {k : Nat} {a : State} {s : State}
    (hk : Sub 256 k) (h : Keeps k a s) : Keeps k a (progressRise s) := by
  unfold progressRise
  repeat' first
    | with_reducible assumption
    | ((with_reducible refine Sub.of hk ?_); rfl)
    | (refine Keeps.dic (hk.bits 8 rfl) ?_; first | with_reducible assumption)

theorem keep_settleMoves {k : Nat} {a : State} {s : State}
    (hk : Sub 28595191938 k) (h : Keeps k a s) : Keeps k a (settleMoves s) := by
  unfold settleMoves
  repeat' first
    | with_reducible assumption
    | ((with_reducible refine Sub.of hk ?_); rfl)
    | intro _
    | with_reducible refine keep_checkMove ?_ ?_
    | with_reducible refine keep_retryWaiting ?_ ?_
    | (with_reducible refine Keeps.foldl ?_ ?_)

theorem keep_settleStops {k : Nat} {a : State} {s : State}
    (hk : Sub 27129020810 k) (h : Keeps k a s) : Keeps k a (settleStops s) := by
  unfold settleStops
  repeat' first
    | with_reducible assumption
    | ((with_reducible refine Sub.of hk ?_); rfl)
    | intro _
    | with_reducible refine keep_finishStop ?_ ?_
    | (with_reducible refine Keeps.foldl ?_ ?_)
    | with_reducible refine Keeps.branch ?_ ?_

end Sys2Proof.Laws
end

