-- ==== Sys2Proof/Laws/State.lean ====
section
/-! SUPPORT. What each update of the state leaves as it was: one lemma per field per update, and what reading a register or a counter
gives after each update and after each shared operation. -/

namespace Sys2Proof.Laws

open Sys2Proof.Machine

/-! ## Reading a register or a counter after an update of another part -/

@[simp] theorem rd_dev (s : State) (x) (F : Fld) (i b : Nat) : ({ s with dev := x } : State).rd F i b = s.rd F i b := rfl
@[simp] theorem ctr_dev (s : State) (x) (c : Ctr) (i b : Nat) : ({ s with dev := x } : State).ctr c i b = s.ctr c i b := rfl
@[simp] theorem on_dev (s : State) (x) (F : Fld) (i b : Nat) : ({ s with dev := x } : State).on F i b = s.on F i b := rfl
@[simp] theorem rbit_dev (s : State) (x) (F : Fld) (j b : Nat) : ({ s with dev := x } : State).rbit F j b = s.rbit F j b := rfl
@[simp] theorem rd_fuses (s : State) (x) (F : Fld) (i b : Nat) : ({ s with fuses := x } : State).rd F i b = s.rd F i b := rfl
@[simp] theorem ctr_fuses (s : State) (x) (c : Ctr) (i b : Nat) : ({ s with fuses := x } : State).ctr c i b = s.ctr c i b := rfl
@[simp] theorem on_fuses (s : State) (x) (F : Fld) (i b : Nat) : ({ s with fuses := x } : State).on F i b = s.on F i b := rfl
@[simp] theorem rbit_fuses (s : State) (x) (F : Fld) (j b : Nat) : ({ s with fuses := x } : State).rbit F j b = s.rbit F j b := rfl
@[simp] theorem rd_gai (s : State) (x) (F : Fld) (i b : Nat) : ({ s with gai := x } : State).rd F i b = s.rd F i b := rfl
@[simp] theorem ctr_gai (s : State) (x) (c : Ctr) (i b : Nat) : ({ s with gai := x } : State).ctr c i b = s.ctr c i b := rfl
@[simp] theorem on_gai (s : State) (x) (F : Fld) (i b : Nat) : ({ s with gai := x } : State).on F i b = s.on F i b := rfl
@[simp] theorem rbit_gai (s : State) (x) (F : Fld) (j b : Nat) : ({ s with gai := x } : State).rbit F j b = s.rbit F j b := rfl
@[simp] theorem rd_pwr (s : State) (x) (F : Fld) (i b : Nat) : ({ s with pwr := x } : State).rd F i b = s.rd F i b := rfl
@[simp] theorem ctr_pwr (s : State) (x) (c : Ctr) (i b : Nat) : ({ s with pwr := x } : State).ctr c i b = s.ctr c i b := rfl
@[simp] theorem on_pwr (s : State) (x) (F : Fld) (i b : Nat) : ({ s with pwr := x } : State).on F i b = s.on F i b := rfl
@[simp] theorem rbit_pwr (s : State) (x) (F : Fld) (j b : Nat) : ({ s with pwr := x } : State).rbit F j b = s.rbit F j b := rfl
@[simp] theorem rd_rst (s : State) (x) (F : Fld) (i b : Nat) : ({ s with rst := x } : State).rd F i b = s.rd F i b := rfl
@[simp] theorem ctr_rst (s : State) (x) (c : Ctr) (i b : Nat) : ({ s with rst := x } : State).ctr c i b = s.ctr c i b := rfl
@[simp] theorem on_rst (s : State) (x) (F : Fld) (i b : Nat) : ({ s with rst := x } : State).on F i b = s.on F i b := rfl
@[simp] theorem rbit_rst (s : State) (x) (F : Fld) (j b : Nat) : ({ s with rst := x } : State).rbit F j b = s.rbit F j b := rfl
@[simp] theorem rd_tack (s : State) (x) (F : Fld) (i b : Nat) : ({ s with tack := x } : State).rd F i b = s.rd F i b := rfl
@[simp] theorem ctr_tack (s : State) (x) (c : Ctr) (i b : Nat) : ({ s with tack := x } : State).ctr c i b = s.ctr c i b := rfl
@[simp] theorem on_tack (s : State) (x) (F : Fld) (i b : Nat) : ({ s with tack := x } : State).on F i b = s.on F i b := rfl
@[simp] theorem rbit_tack (s : State) (x) (F : Fld) (j b : Nat) : ({ s with tack := x } : State).rbit F j b = s.rbit F j b := rfl
@[simp] theorem rd_recd (s : State) (x) (F : Fld) (i b : Nat) : ({ s with recd := x } : State).rd F i b = s.rd F i b := rfl
@[simp] theorem ctr_recd (s : State) (x) (c : Ctr) (i b : Nat) : ({ s with recd := x } : State).ctr c i b = s.ctr c i b := rfl
@[simp] theorem on_recd (s : State) (x) (F : Fld) (i b : Nat) : ({ s with recd := x } : State).on F i b = s.on F i b := rfl
@[simp] theorem rbit_recd (s : State) (x) (F : Fld) (j b : Nat) : ({ s with recd := x } : State).rbit F j b = s.rbit F j b := rfl
@[simp] theorem rd_dic (s : State) (x) (F : Fld) (i b : Nat) : ({ s with dic := x } : State).rd F i b = s.rd F i b := rfl
@[simp] theorem ctr_dic (s : State) (x) (c : Ctr) (i b : Nat) : ({ s with dic := x } : State).ctr c i b = s.ctr c i b := rfl
@[simp] theorem on_dic (s : State) (x) (F : Fld) (i b : Nat) : ({ s with dic := x } : State).on F i b = s.on F i b := rfl
@[simp] theorem rbit_dic (s : State) (x) (F : Fld) (j b : Nat) : ({ s with dic := x } : State).rbit F j b = s.rbit F j b := rfl
@[simp] theorem rd_pci (s : State) (x) (F : Fld) (i b : Nat) : ({ s with pci := x } : State).rd F i b = s.rd F i b := rfl
@[simp] theorem ctr_pci (s : State) (x) (c : Ctr) (i b : Nat) : ({ s with pci := x } : State).ctr c i b = s.ctr c i b := rfl
@[simp] theorem on_pci (s : State) (x) (F : Fld) (i b : Nat) : ({ s with pci := x } : State).on F i b = s.on F i b := rfl
@[simp] theorem rbit_pci (s : State) (x) (F : Fld) (j b : Nat) : ({ s with pci := x } : State).rbit F j b = s.rbit F j b := rfl
@[simp] theorem rd_mgtDrops (s : State) (x) (F : Fld) (i b : Nat) : ({ s with mgtDrops := x } : State).rd F i b = s.rd F i b := rfl
@[simp] theorem ctr_mgtDrops (s : State) (x) (c : Ctr) (i b : Nat) : ({ s with mgtDrops := x } : State).ctr c i b = s.ctr c i b := rfl
@[simp] theorem on_mgtDrops (s : State) (x) (F : Fld) (i b : Nat) : ({ s with mgtDrops := x } : State).on F i b = s.on F i b := rfl
@[simp] theorem rbit_mgtDrops (s : State) (x) (F : Fld) (j b : Nat) : ({ s with mgtDrops := x } : State).rbit F j b = s.rbit F j b := rfl
@[simp] theorem rd_mdio (s : State) (x) (F : Fld) (i b : Nat) : ({ s with mdio := x } : State).rd F i b = s.rd F i b := rfl
@[simp] theorem ctr_mdio (s : State) (x) (c : Ctr) (i b : Nat) : ({ s with mdio := x } : State).ctr c i b = s.ctr c i b := rfl
@[simp] theorem on_mdio (s : State) (x) (F : Fld) (i b : Nat) : ({ s with mdio := x } : State).on F i b = s.on F i b := rfl
@[simp] theorem rbit_mdio (s : State) (x) (F : Fld) (j b : Nat) : ({ s with mdio := x } : State).rbit F j b = s.rbit F j b := rfl
@[simp] theorem rd_cpx (s : State) (x) (F : Fld) (i b : Nat) : ({ s with cpx := x } : State).rd F i b = s.rd F i b := rfl
@[simp] theorem ctr_cpx (s : State) (x) (c : Ctr) (i b : Nat) : ({ s with cpx := x } : State).ctr c i b = s.ctr c i b := rfl
@[simp] theorem on_cpx (s : State) (x) (F : Fld) (i b : Nat) : ({ s with cpx := x } : State).on F i b = s.on F i b := rfl
@[simp] theorem rbit_cpx (s : State) (x) (F : Fld) (j b : Nat) : ({ s with cpx := x } : State).rbit F j b = s.rbit F j b := rfl
@[simp] theorem rd_svc (s : State) (x) (F : Fld) (i b : Nat) : ({ s with svc := x } : State).rd F i b = s.rd F i b := rfl
@[simp] theorem ctr_svc (s : State) (x) (c : Ctr) (i b : Nat) : ({ s with svc := x } : State).ctr c i b = s.ctr c i b := rfl
@[simp] theorem on_svc (s : State) (x) (F : Fld) (i b : Nat) : ({ s with svc := x } : State).on F i b = s.on F i b := rfl
@[simp] theorem rbit_svc (s : State) (x) (F : Fld) (j b : Nat) : ({ s with svc := x } : State).rbit F j b = s.rbit F j b := rfl
@[simp] theorem rd_key (s : State) (x) (F : Fld) (i b : Nat) : ({ s with key := x } : State).rd F i b = s.rd F i b := rfl
@[simp] theorem ctr_key (s : State) (x) (c : Ctr) (i b : Nat) : ({ s with key := x } : State).ctr c i b = s.ctr c i b := rfl
@[simp] theorem on_key (s : State) (x) (F : Fld) (i b : Nat) : ({ s with key := x } : State).on F i b = s.on F i b := rfl
@[simp] theorem rbit_key (s : State) (x) (F : Fld) (j b : Nat) : ({ s with key := x } : State).rbit F j b = s.rbit F j b := rfl
@[simp] theorem rd_kpf (s : State) (x) (F : Fld) (i b : Nat) : ({ s with kpf := x } : State).rd F i b = s.rd F i b := rfl
@[simp] theorem ctr_kpf (s : State) (x) (c : Ctr) (i b : Nat) : ({ s with kpf := x } : State).ctr c i b = s.ctr c i b := rfl
@[simp] theorem on_kpf (s : State) (x) (F : Fld) (i b : Nat) : ({ s with kpf := x } : State).on F i b = s.on F i b := rfl
@[simp] theorem rbit_kpf (s : State) (x) (F : Fld) (j b : Nat) : ({ s with kpf := x } : State).rbit F j b = s.rbit F j b := rfl
@[simp] theorem rd_clk (s : State) (x) (F : Fld) (i b : Nat) : ({ s with clk := x } : State).rd F i b = s.rd F i b := rfl
@[simp] theorem ctr_clk (s : State) (x) (c : Ctr) (i b : Nat) : ({ s with clk := x } : State).ctr c i b = s.ctr c i b := rfl
@[simp] theorem on_clk (s : State) (x) (F : Fld) (i b : Nat) : ({ s with clk := x } : State).on F i b = s.on F i b := rfl
@[simp] theorem rbit_clk (s : State) (x) (F : Fld) (j b : Nat) : ({ s with clk := x } : State).rbit F j b = s.rbit F j b := rfl
@[simp] theorem rd_cal (s : State) (x) (F : Fld) (i b : Nat) : ({ s with cal := x } : State).rd F i b = s.rd F i b := rfl
@[simp] theorem ctr_cal (s : State) (x) (c : Ctr) (i b : Nat) : ({ s with cal := x } : State).ctr c i b = s.ctr c i b := rfl
@[simp] theorem on_cal (s : State) (x) (F : Fld) (i b : Nat) : ({ s with cal := x } : State).on F i b = s.on F i b := rfl
@[simp] theorem rbit_cal (s : State) (x) (F : Fld) (j b : Nat) : ({ s with cal := x } : State).rbit F j b = s.rbit F j b := rfl
@[simp] theorem rd_sav (s : State) (x) (F : Fld) (i b : Nat) : ({ s with sav := x } : State).rd F i b = s.rd F i b := rfl
@[simp] theorem ctr_sav (s : State) (x) (c : Ctr) (i b : Nat) : ({ s with sav := x } : State).ctr c i b = s.ctr c i b := rfl
@[simp] theorem on_sav (s : State) (x) (F : Fld) (i b : Nat) : ({ s with sav := x } : State).on F i b = s.on F i b := rfl
@[simp] theorem rbit_sav (s : State) (x) (F : Fld) (j b : Nat) : ({ s with sav := x } : State).rbit F j b = s.rbit F j b := rfl
@[simp] theorem rd_gov (s : State) (x) (F : Fld) (i b : Nat) : ({ s with gov := x } : State).rd F i b = s.rd F i b := rfl
@[simp] theorem ctr_gov (s : State) (x) (c : Ctr) (i b : Nat) : ({ s with gov := x } : State).ctr c i b = s.ctr c i b := rfl
@[simp] theorem on_gov (s : State) (x) (F : Fld) (i b : Nat) : ({ s with gov := x } : State).on F i b = s.on F i b := rfl
@[simp] theorem rbit_gov (s : State) (x) (F : Fld) (j b : Nat) : ({ s with gov := x } : State).rbit F j b = s.rbit F j b := rfl
@[simp] theorem rd_maps (s : State) (x) (F : Fld) (i b : Nat) : ({ s with maps := x } : State).rd F i b = s.rd F i b := rfl
@[simp] theorem ctr_maps (s : State) (x) (c : Ctr) (i b : Nat) : ({ s with maps := x } : State).ctr c i b = s.ctr c i b := rfl
@[simp] theorem on_maps (s : State) (x) (F : Fld) (i b : Nat) : ({ s with maps := x } : State).on F i b = s.on F i b := rfl
@[simp] theorem rbit_maps (s : State) (x) (F : Fld) (j b : Nat) : ({ s with maps := x } : State).rbit F j b = s.rbit F j b := rfl
@[simp] theorem rd_log (s : State) (x) (F : Fld) (i b : Nat) : ({ s with log := x } : State).rd F i b = s.rd F i b := rfl
@[simp] theorem ctr_log (s : State) (x) (c : Ctr) (i b : Nat) : ({ s with log := x } : State).ctr c i b = s.ctr c i b := rfl
@[simp] theorem on_log (s : State) (x) (F : Fld) (i b : Nat) : ({ s with log := x } : State).on F i b = s.on F i b := rfl
@[simp] theorem rbit_log (s : State) (x) (F : Fld) (j b : Nat) : ({ s with log := x } : State).rbit F j b = s.rbit F j b := rfl
@[simp] theorem rd_trn (s : State) (x) (F : Fld) (i b : Nat) : ({ s with trn := x } : State).rd F i b = s.rd F i b := rfl
@[simp] theorem ctr_trn (s : State) (x) (c : Ctr) (i b : Nat) : ({ s with trn := x } : State).ctr c i b = s.ctr c i b := rfl
@[simp] theorem on_trn (s : State) (x) (F : Fld) (i b : Nat) : ({ s with trn := x } : State).on F i b = s.on F i b := rfl
@[simp] theorem rbit_trn (s : State) (x) (F : Fld) (j b : Nat) : ({ s with trn := x } : State).rbit F j b = s.rbit F j b := rfl
@[simp] theorem rd_dram (s : State) (x) (F : Fld) (i b : Nat) : ({ s with dram := x } : State).rd F i b = s.rd F i b := rfl
@[simp] theorem ctr_dram (s : State) (x) (c : Ctr) (i b : Nat) : ({ s with dram := x } : State).ctr c i b = s.ctr c i b := rfl
@[simp] theorem on_dram (s : State) (x) (F : Fld) (i b : Nat) : ({ s with dram := x } : State).on F i b = s.on F i b := rfl
@[simp] theorem rbit_dram (s : State) (x) (F : Fld) (j b : Nat) : ({ s with dram := x } : State).rbit F j b = s.rbit F j b := rfl
@[simp] theorem rd_drc (s : State) (x) (F : Fld) (i b : Nat) : ({ s with drc := x } : State).rd F i b = s.rd F i b := rfl
@[simp] theorem ctr_drc (s : State) (x) (c : Ctr) (i b : Nat) : ({ s with drc := x } : State).ctr c i b = s.ctr c i b := rfl
@[simp] theorem on_drc (s : State) (x) (F : Fld) (i b : Nat) : ({ s with drc := x } : State).on F i b = s.on F i b := rfl
@[simp] theorem rbit_drc (s : State) (x) (F : Fld) (j b : Nat) : ({ s with drc := x } : State).rbit F j b = s.rbit F j b := rfl
@[simp] theorem rd_grm (s : State) (x) (F : Fld) (i b : Nat) : ({ s with grm := x } : State).rd F i b = s.rd F i b := rfl
@[simp] theorem ctr_grm (s : State) (x) (c : Ctr) (i b : Nat) : ({ s with grm := x } : State).ctr c i b = s.ctr c i b := rfl
@[simp] theorem on_grm (s : State) (x) (F : Fld) (i b : Nat) : ({ s with grm := x } : State).on F i b = s.on F i b := rfl
@[simp] theorem rbit_grm (s : State) (x) (F : Fld) (j b : Nat) : ({ s with grm := x } : State).rbit F j b = s.rbit F j b := rfl
@[simp] theorem rd_far (s : State) (x) (F : Fld) (i b : Nat) : ({ s with far := x } : State).rd F i b = s.rd F i b := rfl
@[simp] theorem ctr_far (s : State) (x) (c : Ctr) (i b : Nat) : ({ s with far := x } : State).ctr c i b = s.ctr c i b := rfl
@[simp] theorem on_far (s : State) (x) (F : Fld) (i b : Nat) : ({ s with far := x } : State).on F i b = s.on F i b := rfl
@[simp] theorem rbit_far (s : State) (x) (F : Fld) (j b : Nat) : ({ s with far := x } : State).rbit F j b = s.rbit F j b := rfl
@[simp] theorem rd_stf (s : State) (x) (F : Fld) (i b : Nat) : ({ s with stf := x } : State).rd F i b = s.rd F i b := rfl
@[simp] theorem ctr_stf (s : State) (x) (c : Ctr) (i b : Nat) : ({ s with stf := x } : State).ctr c i b = s.ctr c i b := rfl
@[simp] theorem on_stf (s : State) (x) (F : Fld) (i b : Nat) : ({ s with stf := x } : State).on F i b = s.on F i b := rfl
@[simp] theorem rbit_stf (s : State) (x) (F : Fld) (j b : Nat) : ({ s with stf := x } : State).rbit F j b = s.rbit F j b := rfl
@[simp] theorem rd_tie (s : State) (x) (F : Fld) (i b : Nat) : ({ s with tie := x } : State).rd F i b = s.rd F i b := rfl
@[simp] theorem ctr_tie (s : State) (x) (c : Ctr) (i b : Nat) : ({ s with tie := x } : State).ctr c i b = s.ctr c i b := rfl
@[simp] theorem on_tie (s : State) (x) (F : Fld) (i b : Nat) : ({ s with tie := x } : State).on F i b = s.on F i b := rfl
@[simp] theorem rbit_tie (s : State) (x) (F : Fld) (j b : Nat) : ({ s with tie := x } : State).rbit F j b = s.rbit F j b := rfl
@[simp] theorem rd_mst (s : State) (x) (F : Fld) (i b : Nat) : ({ s with mst := x } : State).rd F i b = s.rd F i b := rfl
@[simp] theorem ctr_mst (s : State) (x) (c : Ctr) (i b : Nat) : ({ s with mst := x } : State).ctr c i b = s.ctr c i b := rfl
@[simp] theorem on_mst (s : State) (x) (F : Fld) (i b : Nat) : ({ s with mst := x } : State).on F i b = s.on F i b := rfl
@[simp] theorem rbit_mst (s : State) (x) (F : Fld) (j b : Nat) : ({ s with mst := x } : State).rbit F j b = s.rbit F j b := rfl
@[simp] theorem rd_xpt (s : State) (x) (F : Fld) (i b : Nat) : ({ s with xpt := x } : State).rd F i b = s.rd F i b := rfl
@[simp] theorem ctr_xpt (s : State) (x) (c : Ctr) (i b : Nat) : ({ s with xpt := x } : State).ctr c i b = s.ctr c i b := rfl
@[simp] theorem on_xpt (s : State) (x) (F : Fld) (i b : Nat) : ({ s with xpt := x } : State).on F i b = s.on F i b := rfl
@[simp] theorem rbit_xpt (s : State) (x) (F : Fld) (j b : Nat) : ({ s with xpt := x } : State).rbit F j b = s.rbit F j b := rfl
@[simp] theorem rd_prt (s : State) (x) (F : Fld) (i b : Nat) : ({ s with prt := x } : State).rd F i b = s.rd F i b := rfl
@[simp] theorem ctr_prt (s : State) (x) (c : Ctr) (i b : Nat) : ({ s with prt := x } : State).ctr c i b = s.ctr c i b := rfl
@[simp] theorem on_prt (s : State) (x) (F : Fld) (i b : Nat) : ({ s with prt := x } : State).on F i b = s.on F i b := rfl
@[simp] theorem rbit_prt (s : State) (x) (F : Fld) (j b : Nat) : ({ s with prt := x } : State).rbit F j b = s.rbit F j b := rfl
@[simp] theorem rd_twn (s : State) (x) (F : Fld) (i b : Nat) : ({ s with twn := x } : State).rd F i b = s.rd F i b := rfl
@[simp] theorem ctr_twn (s : State) (x) (c : Ctr) (i b : Nat) : ({ s with twn := x } : State).ctr c i b = s.ctr c i b := rfl
@[simp] theorem on_twn (s : State) (x) (F : Fld) (i b : Nat) : ({ s with twn := x } : State).on F i b = s.on F i b := rfl
@[simp] theorem rbit_twn (s : State) (x) (F : Fld) (j b : Nat) : ({ s with twn := x } : State).rbit F j b = s.rbit F j b := rfl
@[simp] theorem rd_draws (s : State) (x) (F : Fld) (i b : Nat) : ({ s with draws := x } : State).rd F i b = s.rd F i b := rfl
@[simp] theorem ctr_draws (s : State) (x) (c : Ctr) (i b : Nat) : ({ s with draws := x } : State).ctr c i b = s.ctr c i b := rfl
@[simp] theorem on_draws (s : State) (x) (F : Fld) (i b : Nat) : ({ s with draws := x } : State).on F i b = s.on F i b := rfl
@[simp] theorem rbit_draws (s : State) (x) (F : Fld) (j b : Nat) : ({ s with draws := x } : State).rbit F j b = s.rbit F j b := rfl
@[simp] theorem rd_out (s : State) (x) (F : Fld) (i b : Nat) : ({ s with out := x } : State).rd F i b = s.rd F i b := rfl
@[simp] theorem ctr_out (s : State) (x) (c : Ctr) (i b : Nat) : ({ s with out := x } : State).ctr c i b = s.ctr c i b := rfl
@[simp] theorem on_out (s : State) (x) (F : Fld) (i b : Nat) : ({ s with out := x } : State).on F i b = s.on F i b := rfl
@[simp] theorem rbit_out (s : State) (x) (F : Fld) (j b : Nat) : ({ s with out := x } : State).rbit F j b = s.rbit F j b := rfl
@[simp] theorem rd_now (s : State) (x) (F : Fld) (i b : Nat) : ({ s with now := x } : State).rd F i b = s.rd F i b := rfl
@[simp] theorem ctr_now (s : State) (x) (c : Ctr) (i b : Nat) : ({ s with now := x } : State).ctr c i b = s.ctr c i b := rfl
@[simp] theorem on_now (s : State) (x) (F : Fld) (i b : Nat) : ({ s with now := x } : State).on F i b = s.on F i b := rfl
@[simp] theorem rbit_now (s : State) (x) (F : Fld) (j b : Nat) : ({ s with now := x } : State).rbit F j b = s.rbit F j b := rfl
@[simp] theorem rd_pending (s : State) (x) (F : Fld) (i b : Nat) : ({ s with pending := x } : State).rd F i b = s.rd F i b := rfl
@[simp] theorem ctr_pending (s : State) (x) (c : Ctr) (i b : Nat) : ({ s with pending := x } : State).ctr c i b = s.ctr c i b := rfl
@[simp] theorem on_pending (s : State) (x) (F : Fld) (i b : Nat) : ({ s with pending := x } : State).on F i b = s.on F i b := rfl
@[simp] theorem rbit_pending (s : State) (x) (F : Fld) (j b : Nat) : ({ s with pending := x } : State).rbit F j b = s.rbit F j b := rfl

/-! ## Writing a register, counting, and an output: the other parts -/

@[simp] theorem wr_dev (s : State) (F : Fld) (v i b : Nat) : (s.wr F v i b).dev = s.dev := rfl
@[simp] theorem wr_fuses (s : State) (F : Fld) (v i b : Nat) : (s.wr F v i b).fuses = s.fuses := rfl
@[simp] theorem wr_gai (s : State) (F : Fld) (v i b : Nat) : (s.wr F v i b).gai = s.gai := rfl
@[simp] theorem wr_pwr (s : State) (F : Fld) (v i b : Nat) : (s.wr F v i b).pwr = s.pwr := rfl
@[simp] theorem wr_rst (s : State) (F : Fld) (v i b : Nat) : (s.wr F v i b).rst = s.rst := rfl
@[simp] theorem wr_tack (s : State) (F : Fld) (v i b : Nat) : (s.wr F v i b).tack = s.tack := rfl
@[simp] theorem wr_recd (s : State) (F : Fld) (v i b : Nat) : (s.wr F v i b).recd = s.recd := rfl
@[simp] theorem wr_dic (s : State) (F : Fld) (v i b : Nat) : (s.wr F v i b).dic = s.dic := rfl
@[simp] theorem wr_pci (s : State) (F : Fld) (v i b : Nat) : (s.wr F v i b).pci = s.pci := rfl
@[simp] theorem wr_mgtDrops (s : State) (F : Fld) (v i b : Nat) : (s.wr F v i b).mgtDrops = s.mgtDrops := rfl
@[simp] theorem wr_mdio (s : State) (F : Fld) (v i b : Nat) : (s.wr F v i b).mdio = s.mdio := rfl
@[simp] theorem wr_cpx (s : State) (F : Fld) (v i b : Nat) : (s.wr F v i b).cpx = s.cpx := rfl
@[simp] theorem wr_svc (s : State) (F : Fld) (v i b : Nat) : (s.wr F v i b).svc = s.svc := rfl
@[simp] theorem wr_key (s : State) (F : Fld) (v i b : Nat) : (s.wr F v i b).key = s.key := rfl
@[simp] theorem wr_kpf (s : State) (F : Fld) (v i b : Nat) : (s.wr F v i b).kpf = s.kpf := rfl
@[simp] theorem wr_clk (s : State) (F : Fld) (v i b : Nat) : (s.wr F v i b).clk = s.clk := rfl
@[simp] theorem wr_cal (s : State) (F : Fld) (v i b : Nat) : (s.wr F v i b).cal = s.cal := rfl
@[simp] theorem wr_sav (s : State) (F : Fld) (v i b : Nat) : (s.wr F v i b).sav = s.sav := rfl
@[simp] theorem wr_gov (s : State) (F : Fld) (v i b : Nat) : (s.wr F v i b).gov = s.gov := rfl
@[simp] theorem wr_maps (s : State) (F : Fld) (v i b : Nat) : (s.wr F v i b).maps = s.maps := rfl
@[simp] theorem wr_log (s : State) (F : Fld) (v i b : Nat) : (s.wr F v i b).log = s.log := rfl
@[simp] theorem wr_trn (s : State) (F : Fld) (v i b : Nat) : (s.wr F v i b).trn = s.trn := rfl
@[simp] theorem wr_dram (s : State) (F : Fld) (v i b : Nat) : (s.wr F v i b).dram = s.dram := rfl
@[simp] theorem wr_drc (s : State) (F : Fld) (v i b : Nat) : (s.wr F v i b).drc = s.drc := rfl
@[simp] theorem wr_grm (s : State) (F : Fld) (v i b : Nat) : (s.wr F v i b).grm = s.grm := rfl
@[simp] theorem wr_far (s : State) (F : Fld) (v i b : Nat) : (s.wr F v i b).far = s.far := rfl
@[simp] theorem wr_stf (s : State) (F : Fld) (v i b : Nat) : (s.wr F v i b).stf = s.stf := rfl
@[simp] theorem wr_tie (s : State) (F : Fld) (v i b : Nat) : (s.wr F v i b).tie = s.tie := rfl
@[simp] theorem wr_mst (s : State) (F : Fld) (v i b : Nat) : (s.wr F v i b).mst = s.mst := rfl
@[simp] theorem wr_xpt (s : State) (F : Fld) (v i b : Nat) : (s.wr F v i b).xpt = s.xpt := rfl
@[simp] theorem wr_prt (s : State) (F : Fld) (v i b : Nat) : (s.wr F v i b).prt = s.prt := rfl
@[simp] theorem wr_twn (s : State) (F : Fld) (v i b : Nat) : (s.wr F v i b).twn = s.twn := rfl
@[simp] theorem wr_draws (s : State) (F : Fld) (v i b : Nat) : (s.wr F v i b).draws = s.draws := rfl
@[simp] theorem wr_out (s : State) (F : Fld) (v i b : Nat) : (s.wr F v i b).out = s.out := rfl
@[simp] theorem wr_now (s : State) (F : Fld) (v i b : Nat) : (s.wr F v i b).now = s.now := rfl
@[simp] theorem wr_pending (s : State) (F : Fld) (v i b : Nat) : (s.wr F v i b).pending = s.pending := rfl
@[simp] theorem bump_dev (s : State) (c : Ctr) (n i b : Nat) : (s.bump c n i b).dev = s.dev := rfl
@[simp] theorem bump_fuses (s : State) (c : Ctr) (n i b : Nat) : (s.bump c n i b).fuses = s.fuses := rfl
@[simp] theorem bump_gai (s : State) (c : Ctr) (n i b : Nat) : (s.bump c n i b).gai = s.gai := rfl
@[simp] theorem bump_pwr (s : State) (c : Ctr) (n i b : Nat) : (s.bump c n i b).pwr = s.pwr := rfl
@[simp] theorem bump_rst (s : State) (c : Ctr) (n i b : Nat) : (s.bump c n i b).rst = s.rst := rfl
@[simp] theorem bump_tack (s : State) (c : Ctr) (n i b : Nat) : (s.bump c n i b).tack = s.tack := rfl
@[simp] theorem bump_recd (s : State) (c : Ctr) (n i b : Nat) : (s.bump c n i b).recd = s.recd := rfl
@[simp] theorem bump_dic (s : State) (c : Ctr) (n i b : Nat) : (s.bump c n i b).dic = s.dic := rfl
@[simp] theorem bump_pci (s : State) (c : Ctr) (n i b : Nat) : (s.bump c n i b).pci = s.pci := rfl
@[simp] theorem bump_mgtDrops (s : State) (c : Ctr) (n i b : Nat) : (s.bump c n i b).mgtDrops = s.mgtDrops := rfl
@[simp] theorem bump_mdio (s : State) (c : Ctr) (n i b : Nat) : (s.bump c n i b).mdio = s.mdio := rfl
@[simp] theorem bump_cpx (s : State) (c : Ctr) (n i b : Nat) : (s.bump c n i b).cpx = s.cpx := rfl
@[simp] theorem bump_svc (s : State) (c : Ctr) (n i b : Nat) : (s.bump c n i b).svc = s.svc := rfl
@[simp] theorem bump_key (s : State) (c : Ctr) (n i b : Nat) : (s.bump c n i b).key = s.key := rfl
@[simp] theorem bump_kpf (s : State) (c : Ctr) (n i b : Nat) : (s.bump c n i b).kpf = s.kpf := rfl
@[simp] theorem bump_clk (s : State) (c : Ctr) (n i b : Nat) : (s.bump c n i b).clk = s.clk := rfl
@[simp] theorem bump_cal (s : State) (c : Ctr) (n i b : Nat) : (s.bump c n i b).cal = s.cal := rfl
@[simp] theorem bump_sav (s : State) (c : Ctr) (n i b : Nat) : (s.bump c n i b).sav = s.sav := rfl
@[simp] theorem bump_gov (s : State) (c : Ctr) (n i b : Nat) : (s.bump c n i b).gov = s.gov := rfl
@[simp] theorem bump_maps (s : State) (c : Ctr) (n i b : Nat) : (s.bump c n i b).maps = s.maps := rfl
@[simp] theorem bump_log (s : State) (c : Ctr) (n i b : Nat) : (s.bump c n i b).log = s.log := rfl
@[simp] theorem bump_trn (s : State) (c : Ctr) (n i b : Nat) : (s.bump c n i b).trn = s.trn := rfl
@[simp] theorem bump_dram (s : State) (c : Ctr) (n i b : Nat) : (s.bump c n i b).dram = s.dram := rfl
@[simp] theorem bump_drc (s : State) (c : Ctr) (n i b : Nat) : (s.bump c n i b).drc = s.drc := rfl
@[simp] theorem bump_grm (s : State) (c : Ctr) (n i b : Nat) : (s.bump c n i b).grm = s.grm := rfl
@[simp] theorem bump_far (s : State) (c : Ctr) (n i b : Nat) : (s.bump c n i b).far = s.far := rfl
@[simp] theorem bump_stf (s : State) (c : Ctr) (n i b : Nat) : (s.bump c n i b).stf = s.stf := rfl
@[simp] theorem bump_tie (s : State) (c : Ctr) (n i b : Nat) : (s.bump c n i b).tie = s.tie := rfl
@[simp] theorem bump_mst (s : State) (c : Ctr) (n i b : Nat) : (s.bump c n i b).mst = s.mst := rfl
@[simp] theorem bump_xpt (s : State) (c : Ctr) (n i b : Nat) : (s.bump c n i b).xpt = s.xpt := rfl
@[simp] theorem bump_prt (s : State) (c : Ctr) (n i b : Nat) : (s.bump c n i b).prt = s.prt := rfl
@[simp] theorem bump_twn (s : State) (c : Ctr) (n i b : Nat) : (s.bump c n i b).twn = s.twn := rfl
@[simp] theorem bump_draws (s : State) (c : Ctr) (n i b : Nat) : (s.bump c n i b).draws = s.draws := rfl
@[simp] theorem bump_out (s : State) (c : Ctr) (n i b : Nat) : (s.bump c n i b).out = s.out := rfl
@[simp] theorem bump_now (s : State) (c : Ctr) (n i b : Nat) : (s.bump c n i b).now = s.now := rfl
@[simp] theorem bump_pending (s : State) (c : Ctr) (n i b : Nat) : (s.bump c n i b).pending = s.pending := rfl
@[simp] theorem wbit_dev (s : State) (F : Fld) (j : Nat) (v : Bool) (b : Nat) : (s.wbit F j v b).dev = s.dev := rfl
@[simp] theorem wbit_fuses (s : State) (F : Fld) (j : Nat) (v : Bool) (b : Nat) : (s.wbit F j v b).fuses = s.fuses := rfl
@[simp] theorem wbit_gai (s : State) (F : Fld) (j : Nat) (v : Bool) (b : Nat) : (s.wbit F j v b).gai = s.gai := rfl
@[simp] theorem wbit_pwr (s : State) (F : Fld) (j : Nat) (v : Bool) (b : Nat) : (s.wbit F j v b).pwr = s.pwr := rfl
@[simp] theorem wbit_rst (s : State) (F : Fld) (j : Nat) (v : Bool) (b : Nat) : (s.wbit F j v b).rst = s.rst := rfl
@[simp] theorem wbit_tack (s : State) (F : Fld) (j : Nat) (v : Bool) (b : Nat) : (s.wbit F j v b).tack = s.tack := rfl
@[simp] theorem wbit_recd (s : State) (F : Fld) (j : Nat) (v : Bool) (b : Nat) : (s.wbit F j v b).recd = s.recd := rfl
@[simp] theorem wbit_dic (s : State) (F : Fld) (j : Nat) (v : Bool) (b : Nat) : (s.wbit F j v b).dic = s.dic := rfl
@[simp] theorem wbit_pci (s : State) (F : Fld) (j : Nat) (v : Bool) (b : Nat) : (s.wbit F j v b).pci = s.pci := rfl
@[simp] theorem wbit_mgtDrops (s : State) (F : Fld) (j : Nat) (v : Bool) (b : Nat) : (s.wbit F j v b).mgtDrops = s.mgtDrops := rfl
@[simp] theorem wbit_mdio (s : State) (F : Fld) (j : Nat) (v : Bool) (b : Nat) : (s.wbit F j v b).mdio = s.mdio := rfl
@[simp] theorem wbit_cpx (s : State) (F : Fld) (j : Nat) (v : Bool) (b : Nat) : (s.wbit F j v b).cpx = s.cpx := rfl
@[simp] theorem wbit_svc (s : State) (F : Fld) (j : Nat) (v : Bool) (b : Nat) : (s.wbit F j v b).svc = s.svc := rfl
@[simp] theorem wbit_key (s : State) (F : Fld) (j : Nat) (v : Bool) (b : Nat) : (s.wbit F j v b).key = s.key := rfl
@[simp] theorem wbit_kpf (s : State) (F : Fld) (j : Nat) (v : Bool) (b : Nat) : (s.wbit F j v b).kpf = s.kpf := rfl
@[simp] theorem wbit_clk (s : State) (F : Fld) (j : Nat) (v : Bool) (b : Nat) : (s.wbit F j v b).clk = s.clk := rfl
@[simp] theorem wbit_cal (s : State) (F : Fld) (j : Nat) (v : Bool) (b : Nat) : (s.wbit F j v b).cal = s.cal := rfl
@[simp] theorem wbit_sav (s : State) (F : Fld) (j : Nat) (v : Bool) (b : Nat) : (s.wbit F j v b).sav = s.sav := rfl
@[simp] theorem wbit_gov (s : State) (F : Fld) (j : Nat) (v : Bool) (b : Nat) : (s.wbit F j v b).gov = s.gov := rfl
@[simp] theorem wbit_maps (s : State) (F : Fld) (j : Nat) (v : Bool) (b : Nat) : (s.wbit F j v b).maps = s.maps := rfl
@[simp] theorem wbit_log (s : State) (F : Fld) (j : Nat) (v : Bool) (b : Nat) : (s.wbit F j v b).log = s.log := rfl
@[simp] theorem wbit_trn (s : State) (F : Fld) (j : Nat) (v : Bool) (b : Nat) : (s.wbit F j v b).trn = s.trn := rfl
@[simp] theorem wbit_dram (s : State) (F : Fld) (j : Nat) (v : Bool) (b : Nat) : (s.wbit F j v b).dram = s.dram := rfl
@[simp] theorem wbit_drc (s : State) (F : Fld) (j : Nat) (v : Bool) (b : Nat) : (s.wbit F j v b).drc = s.drc := rfl
@[simp] theorem wbit_grm (s : State) (F : Fld) (j : Nat) (v : Bool) (b : Nat) : (s.wbit F j v b).grm = s.grm := rfl
@[simp] theorem wbit_far (s : State) (F : Fld) (j : Nat) (v : Bool) (b : Nat) : (s.wbit F j v b).far = s.far := rfl
@[simp] theorem wbit_stf (s : State) (F : Fld) (j : Nat) (v : Bool) (b : Nat) : (s.wbit F j v b).stf = s.stf := rfl
@[simp] theorem wbit_tie (s : State) (F : Fld) (j : Nat) (v : Bool) (b : Nat) : (s.wbit F j v b).tie = s.tie := rfl
@[simp] theorem wbit_mst (s : State) (F : Fld) (j : Nat) (v : Bool) (b : Nat) : (s.wbit F j v b).mst = s.mst := rfl
@[simp] theorem wbit_xpt (s : State) (F : Fld) (j : Nat) (v : Bool) (b : Nat) : (s.wbit F j v b).xpt = s.xpt := rfl
@[simp] theorem wbit_prt (s : State) (F : Fld) (j : Nat) (v : Bool) (b : Nat) : (s.wbit F j v b).prt = s.prt := rfl
@[simp] theorem wbit_twn (s : State) (F : Fld) (j : Nat) (v : Bool) (b : Nat) : (s.wbit F j v b).twn = s.twn := rfl
@[simp] theorem wbit_draws (s : State) (F : Fld) (j : Nat) (v : Bool) (b : Nat) : (s.wbit F j v b).draws = s.draws := rfl
@[simp] theorem wbit_out (s : State) (F : Fld) (j : Nat) (v : Bool) (b : Nat) : (s.wbit F j v b).out = s.out := rfl
@[simp] theorem wbit_now (s : State) (F : Fld) (j : Nat) (v : Bool) (b : Nat) : (s.wbit F j v b).now = s.now := rfl
@[simp] theorem wbit_pending (s : State) (F : Fld) (j : Nat) (v : Bool) (b : Nat) : (s.wbit F j v b).pending = s.pending := rfl
@[simp] theorem wr64_dev (s : State) (L H : Fld) (v i : Nat) : (s.wr64 L H v i).dev = s.dev := rfl
@[simp] theorem wr64_fuses (s : State) (L H : Fld) (v i : Nat) : (s.wr64 L H v i).fuses = s.fuses := rfl
@[simp] theorem wr64_gai (s : State) (L H : Fld) (v i : Nat) : (s.wr64 L H v i).gai = s.gai := rfl
@[simp] theorem wr64_pwr (s : State) (L H : Fld) (v i : Nat) : (s.wr64 L H v i).pwr = s.pwr := rfl
@[simp] theorem wr64_rst (s : State) (L H : Fld) (v i : Nat) : (s.wr64 L H v i).rst = s.rst := rfl
@[simp] theorem wr64_tack (s : State) (L H : Fld) (v i : Nat) : (s.wr64 L H v i).tack = s.tack := rfl
@[simp] theorem wr64_recd (s : State) (L H : Fld) (v i : Nat) : (s.wr64 L H v i).recd = s.recd := rfl
@[simp] theorem wr64_dic (s : State) (L H : Fld) (v i : Nat) : (s.wr64 L H v i).dic = s.dic := rfl
@[simp] theorem wr64_pci (s : State) (L H : Fld) (v i : Nat) : (s.wr64 L H v i).pci = s.pci := rfl
@[simp] theorem wr64_mgtDrops (s : State) (L H : Fld) (v i : Nat) : (s.wr64 L H v i).mgtDrops = s.mgtDrops := rfl
@[simp] theorem wr64_mdio (s : State) (L H : Fld) (v i : Nat) : (s.wr64 L H v i).mdio = s.mdio := rfl
@[simp] theorem wr64_cpx (s : State) (L H : Fld) (v i : Nat) : (s.wr64 L H v i).cpx = s.cpx := rfl
@[simp] theorem wr64_svc (s : State) (L H : Fld) (v i : Nat) : (s.wr64 L H v i).svc = s.svc := rfl
@[simp] theorem wr64_key (s : State) (L H : Fld) (v i : Nat) : (s.wr64 L H v i).key = s.key := rfl
@[simp] theorem wr64_kpf (s : State) (L H : Fld) (v i : Nat) : (s.wr64 L H v i).kpf = s.kpf := rfl
@[simp] theorem wr64_clk (s : State) (L H : Fld) (v i : Nat) : (s.wr64 L H v i).clk = s.clk := rfl
@[simp] theorem wr64_cal (s : State) (L H : Fld) (v i : Nat) : (s.wr64 L H v i).cal = s.cal := rfl
@[simp] theorem wr64_sav (s : State) (L H : Fld) (v i : Nat) : (s.wr64 L H v i).sav = s.sav := rfl
@[simp] theorem wr64_gov (s : State) (L H : Fld) (v i : Nat) : (s.wr64 L H v i).gov = s.gov := rfl
@[simp] theorem wr64_maps (s : State) (L H : Fld) (v i : Nat) : (s.wr64 L H v i).maps = s.maps := rfl
@[simp] theorem wr64_log (s : State) (L H : Fld) (v i : Nat) : (s.wr64 L H v i).log = s.log := rfl
@[simp] theorem wr64_trn (s : State) (L H : Fld) (v i : Nat) : (s.wr64 L H v i).trn = s.trn := rfl
@[simp] theorem wr64_dram (s : State) (L H : Fld) (v i : Nat) : (s.wr64 L H v i).dram = s.dram := rfl
@[simp] theorem wr64_drc (s : State) (L H : Fld) (v i : Nat) : (s.wr64 L H v i).drc = s.drc := rfl
@[simp] theorem wr64_grm (s : State) (L H : Fld) (v i : Nat) : (s.wr64 L H v i).grm = s.grm := rfl
@[simp] theorem wr64_far (s : State) (L H : Fld) (v i : Nat) : (s.wr64 L H v i).far = s.far := rfl
@[simp] theorem wr64_stf (s : State) (L H : Fld) (v i : Nat) : (s.wr64 L H v i).stf = s.stf := rfl
@[simp] theorem wr64_tie (s : State) (L H : Fld) (v i : Nat) : (s.wr64 L H v i).tie = s.tie := rfl
@[simp] theorem wr64_mst (s : State) (L H : Fld) (v i : Nat) : (s.wr64 L H v i).mst = s.mst := rfl
@[simp] theorem wr64_xpt (s : State) (L H : Fld) (v i : Nat) : (s.wr64 L H v i).xpt = s.xpt := rfl
@[simp] theorem wr64_prt (s : State) (L H : Fld) (v i : Nat) : (s.wr64 L H v i).prt = s.prt := rfl
@[simp] theorem wr64_twn (s : State) (L H : Fld) (v i : Nat) : (s.wr64 L H v i).twn = s.twn := rfl
@[simp] theorem wr64_draws (s : State) (L H : Fld) (v i : Nat) : (s.wr64 L H v i).draws = s.draws := rfl
@[simp] theorem wr64_out (s : State) (L H : Fld) (v i : Nat) : (s.wr64 L H v i).out = s.out := rfl
@[simp] theorem wr64_now (s : State) (L H : Fld) (v i : Nat) : (s.wr64 L H v i).now = s.now := rfl
@[simp] theorem wr64_pending (s : State) (L H : Fld) (v i : Nat) : (s.wr64 L H v i).pending = s.pending := rfl
@[simp] theorem emit_dev (s : State) (o : Out) : (s.emit o).dev = s.dev := rfl
@[simp] theorem emit_rf (s : State) (o : Out) : (s.emit o).rf = s.rf := rfl
@[simp] theorem emit_fuses (s : State) (o : Out) : (s.emit o).fuses = s.fuses := rfl
@[simp] theorem emit_gai (s : State) (o : Out) : (s.emit o).gai = s.gai := rfl
@[simp] theorem emit_pwr (s : State) (o : Out) : (s.emit o).pwr = s.pwr := rfl
@[simp] theorem emit_rst (s : State) (o : Out) : (s.emit o).rst = s.rst := rfl
@[simp] theorem emit_tack (s : State) (o : Out) : (s.emit o).tack = s.tack := rfl
@[simp] theorem emit_recd (s : State) (o : Out) : (s.emit o).recd = s.recd := rfl
@[simp] theorem emit_dic (s : State) (o : Out) : (s.emit o).dic = s.dic := rfl
@[simp] theorem emit_pci (s : State) (o : Out) : (s.emit o).pci = s.pci := rfl
@[simp] theorem emit_mgtDrops (s : State) (o : Out) : (s.emit o).mgtDrops = s.mgtDrops := rfl
@[simp] theorem emit_mdio (s : State) (o : Out) : (s.emit o).mdio = s.mdio := rfl
@[simp] theorem emit_cpx (s : State) (o : Out) : (s.emit o).cpx = s.cpx := rfl
@[simp] theorem emit_svc (s : State) (o : Out) : (s.emit o).svc = s.svc := rfl
@[simp] theorem emit_key (s : State) (o : Out) : (s.emit o).key = s.key := rfl
@[simp] theorem emit_kpf (s : State) (o : Out) : (s.emit o).kpf = s.kpf := rfl
@[simp] theorem emit_clk (s : State) (o : Out) : (s.emit o).clk = s.clk := rfl
@[simp] theorem emit_cal (s : State) (o : Out) : (s.emit o).cal = s.cal := rfl
@[simp] theorem emit_sav (s : State) (o : Out) : (s.emit o).sav = s.sav := rfl
@[simp] theorem emit_gov (s : State) (o : Out) : (s.emit o).gov = s.gov := rfl
@[simp] theorem emit_maps (s : State) (o : Out) : (s.emit o).maps = s.maps := rfl
@[simp] theorem emit_log (s : State) (o : Out) : (s.emit o).log = s.log := rfl
@[simp] theorem emit_trn (s : State) (o : Out) : (s.emit o).trn = s.trn := rfl
@[simp] theorem emit_dram (s : State) (o : Out) : (s.emit o).dram = s.dram := rfl
@[simp] theorem emit_drc (s : State) (o : Out) : (s.emit o).drc = s.drc := rfl
@[simp] theorem emit_grm (s : State) (o : Out) : (s.emit o).grm = s.grm := rfl
@[simp] theorem emit_far (s : State) (o : Out) : (s.emit o).far = s.far := rfl
@[simp] theorem emit_stf (s : State) (o : Out) : (s.emit o).stf = s.stf := rfl
@[simp] theorem emit_tie (s : State) (o : Out) : (s.emit o).tie = s.tie := rfl
@[simp] theorem emit_mst (s : State) (o : Out) : (s.emit o).mst = s.mst := rfl
@[simp] theorem emit_xpt (s : State) (o : Out) : (s.emit o).xpt = s.xpt := rfl
@[simp] theorem emit_prt (s : State) (o : Out) : (s.emit o).prt = s.prt := rfl
@[simp] theorem emit_twn (s : State) (o : Out) : (s.emit o).twn = s.twn := rfl
@[simp] theorem emit_draws (s : State) (o : Out) : (s.emit o).draws = s.draws := rfl
@[simp] theorem emit_now (s : State) (o : Out) : (s.emit o).now = s.now := rfl
@[simp] theorem emit_pending (s : State) (o : Out) : (s.emit o).pending = s.pending := rfl
@[simp] theorem rd_emit (s : State) (o : Out) (G : Fld) (j c : Nat) : (s.emit o).rd G j c = s.rd G j c := rfl
@[simp] theorem ctr_emit (s : State) (o : Out) (G : Ctr) (j c : Nat) : (s.emit o).ctr G j c = s.ctr G j c := rfl
@[simp] theorem emit_rfval (s : State) (o : Out) : (s.emit o).rf.val = s.rf.val := rfl
@[simp] theorem setCmd_dev (s : State) (e : Nat) (c : CmdStat) : (setCmd s e c).dev = s.dev := rfl
@[simp] theorem setCmd_rf (s : State) (e : Nat) (c : CmdStat) : (setCmd s e c).rf = s.rf := rfl
@[simp] theorem setCmd_fuses (s : State) (e : Nat) (c : CmdStat) : (setCmd s e c).fuses = s.fuses := rfl
@[simp] theorem setCmd_gai (s : State) (e : Nat) (c : CmdStat) : (setCmd s e c).gai = s.gai := rfl
@[simp] theorem setCmd_pwr (s : State) (e : Nat) (c : CmdStat) : (setCmd s e c).pwr = s.pwr := rfl
@[simp] theorem setCmd_rst (s : State) (e : Nat) (c : CmdStat) : (setCmd s e c).rst = s.rst := rfl
@[simp] theorem setCmd_tack (s : State) (e : Nat) (c : CmdStat) : (setCmd s e c).tack = s.tack := rfl
@[simp] theorem setCmd_recd (s : State) (e : Nat) (c : CmdStat) : (setCmd s e c).recd = s.recd := rfl
@[simp] theorem setCmd_pci (s : State) (e : Nat) (c : CmdStat) : (setCmd s e c).pci = s.pci := rfl
@[simp] theorem setCmd_mgtDrops (s : State) (e : Nat) (c : CmdStat) : (setCmd s e c).mgtDrops = s.mgtDrops := rfl
@[simp] theorem setCmd_mdio (s : State) (e : Nat) (c : CmdStat) : (setCmd s e c).mdio = s.mdio := rfl
@[simp] theorem setCmd_cpx (s : State) (e : Nat) (c : CmdStat) : (setCmd s e c).cpx = s.cpx := rfl
@[simp] theorem setCmd_svc (s : State) (e : Nat) (c : CmdStat) : (setCmd s e c).svc = s.svc := rfl
@[simp] theorem setCmd_key (s : State) (e : Nat) (c : CmdStat) : (setCmd s e c).key = s.key := rfl
@[simp] theorem setCmd_kpf (s : State) (e : Nat) (c : CmdStat) : (setCmd s e c).kpf = s.kpf := rfl
@[simp] theorem setCmd_clk (s : State) (e : Nat) (c : CmdStat) : (setCmd s e c).clk = s.clk := rfl
@[simp] theorem setCmd_cal (s : State) (e : Nat) (c : CmdStat) : (setCmd s e c).cal = s.cal := rfl
@[simp] theorem setCmd_sav (s : State) (e : Nat) (c : CmdStat) : (setCmd s e c).sav = s.sav := rfl
@[simp] theorem setCmd_gov (s : State) (e : Nat) (c : CmdStat) : (setCmd s e c).gov = s.gov := rfl
@[simp] theorem setCmd_maps (s : State) (e : Nat) (c : CmdStat) : (setCmd s e c).maps = s.maps := rfl
@[simp] theorem setCmd_log (s : State) (e : Nat) (c : CmdStat) : (setCmd s e c).log = s.log := rfl
@[simp] theorem setCmd_trn (s : State) (e : Nat) (c : CmdStat) : (setCmd s e c).trn = s.trn := rfl
@[simp] theorem setCmd_dram (s : State) (e : Nat) (c : CmdStat) : (setCmd s e c).dram = s.dram := rfl
@[simp] theorem setCmd_drc (s : State) (e : Nat) (c : CmdStat) : (setCmd s e c).drc = s.drc := rfl
@[simp] theorem setCmd_grm (s : State) (e : Nat) (c : CmdStat) : (setCmd s e c).grm = s.grm := rfl
@[simp] theorem setCmd_far (s : State) (e : Nat) (c : CmdStat) : (setCmd s e c).far = s.far := rfl
@[simp] theorem setCmd_stf (s : State) (e : Nat) (c : CmdStat) : (setCmd s e c).stf = s.stf := rfl
@[simp] theorem setCmd_tie (s : State) (e : Nat) (c : CmdStat) : (setCmd s e c).tie = s.tie := rfl
@[simp] theorem setCmd_mst (s : State) (e : Nat) (c : CmdStat) : (setCmd s e c).mst = s.mst := rfl
@[simp] theorem setCmd_xpt (s : State) (e : Nat) (c : CmdStat) : (setCmd s e c).xpt = s.xpt := rfl
@[simp] theorem setCmd_prt (s : State) (e : Nat) (c : CmdStat) : (setCmd s e c).prt = s.prt := rfl
@[simp] theorem setCmd_twn (s : State) (e : Nat) (c : CmdStat) : (setCmd s e c).twn = s.twn := rfl
@[simp] theorem setCmd_draws (s : State) (e : Nat) (c : CmdStat) : (setCmd s e c).draws = s.draws := rfl
@[simp] theorem setCmd_out (s : State) (e : Nat) (c : CmdStat) : (setCmd s e c).out = s.out := rfl
@[simp] theorem setCmd_now (s : State) (e : Nat) (c : CmdStat) : (setCmd s e c).now = s.now := rfl
@[simp] theorem setCmd_pending (s : State) (e : Nat) (c : CmdStat) : (setCmd s e c).pending = s.pending := rfl
@[simp] theorem rd_setCmd (s : State) (e : Nat) (x : CmdStat) (G : Fld) (j c : Nat) : (setCmd s e x).rd G j c = s.rd G j c := rfl
@[simp] theorem ctr_setCmd (s : State) (e : Nat) (x : CmdStat) (G : Ctr) (j c : Nat) : (setCmd s e x).ctr G j c = s.ctr G j c := rfl
@[simp] theorem setCmd_rfval (s : State) (e : Nat) (c : CmdStat) : (setCmd s e c).rf.val = s.rf.val := rfl
@[simp] theorem setEnt_dev (s : State) (e v : Nat) : (setEnt s e v).dev = s.dev := rfl
@[simp] theorem setEnt_rf (s : State) (e v : Nat) : (setEnt s e v).rf = s.rf := rfl
@[simp] theorem setEnt_fuses (s : State) (e v : Nat) : (setEnt s e v).fuses = s.fuses := rfl
@[simp] theorem setEnt_gai (s : State) (e v : Nat) : (setEnt s e v).gai = s.gai := rfl
@[simp] theorem setEnt_pwr (s : State) (e v : Nat) : (setEnt s e v).pwr = s.pwr := rfl
@[simp] theorem setEnt_rst (s : State) (e v : Nat) : (setEnt s e v).rst = s.rst := rfl
@[simp] theorem setEnt_tack (s : State) (e v : Nat) : (setEnt s e v).tack = s.tack := rfl
@[simp] theorem setEnt_recd (s : State) (e v : Nat) : (setEnt s e v).recd = s.recd := rfl
@[simp] theorem setEnt_pci (s : State) (e v : Nat) : (setEnt s e v).pci = s.pci := rfl
@[simp] theorem setEnt_mgtDrops (s : State) (e v : Nat) : (setEnt s e v).mgtDrops = s.mgtDrops := rfl
@[simp] theorem setEnt_mdio (s : State) (e v : Nat) : (setEnt s e v).mdio = s.mdio := rfl
@[simp] theorem setEnt_cpx (s : State) (e v : Nat) : (setEnt s e v).cpx = s.cpx := rfl
@[simp] theorem setEnt_svc (s : State) (e v : Nat) : (setEnt s e v).svc = s.svc := rfl
@[simp] theorem setEnt_key (s : State) (e v : Nat) : (setEnt s e v).key = s.key := rfl
@[simp] theorem setEnt_kpf (s : State) (e v : Nat) : (setEnt s e v).kpf = s.kpf := rfl
@[simp] theorem setEnt_clk (s : State) (e v : Nat) : (setEnt s e v).clk = s.clk := rfl
@[simp] theorem setEnt_cal (s : State) (e v : Nat) : (setEnt s e v).cal = s.cal := rfl
@[simp] theorem setEnt_sav (s : State) (e v : Nat) : (setEnt s e v).sav = s.sav := rfl
@[simp] theorem setEnt_gov (s : State) (e v : Nat) : (setEnt s e v).gov = s.gov := rfl
@[simp] theorem setEnt_maps (s : State) (e v : Nat) : (setEnt s e v).maps = s.maps := rfl
@[simp] theorem setEnt_log (s : State) (e v : Nat) : (setEnt s e v).log = s.log := rfl
@[simp] theorem setEnt_trn (s : State) (e v : Nat) : (setEnt s e v).trn = s.trn := rfl
@[simp] theorem setEnt_dram (s : State) (e v : Nat) : (setEnt s e v).dram = s.dram := rfl
@[simp] theorem setEnt_drc (s : State) (e v : Nat) : (setEnt s e v).drc = s.drc := rfl
@[simp] theorem setEnt_grm (s : State) (e v : Nat) : (setEnt s e v).grm = s.grm := rfl
@[simp] theorem setEnt_far (s : State) (e v : Nat) : (setEnt s e v).far = s.far := rfl
@[simp] theorem setEnt_stf (s : State) (e v : Nat) : (setEnt s e v).stf = s.stf := rfl
@[simp] theorem setEnt_tie (s : State) (e v : Nat) : (setEnt s e v).tie = s.tie := rfl
@[simp] theorem setEnt_mst (s : State) (e v : Nat) : (setEnt s e v).mst = s.mst := rfl
@[simp] theorem setEnt_xpt (s : State) (e v : Nat) : (setEnt s e v).xpt = s.xpt := rfl
@[simp] theorem setEnt_prt (s : State) (e v : Nat) : (setEnt s e v).prt = s.prt := rfl
@[simp] theorem setEnt_twn (s : State) (e v : Nat) : (setEnt s e v).twn = s.twn := rfl
@[simp] theorem setEnt_draws (s : State) (e v : Nat) : (setEnt s e v).draws = s.draws := rfl
@[simp] theorem setEnt_out (s : State) (e v : Nat) : (setEnt s e v).out = s.out := rfl
@[simp] theorem setEnt_now (s : State) (e v : Nat) : (setEnt s e v).now = s.now := rfl
@[simp] theorem setEnt_pending (s : State) (e v : Nat) : (setEnt s e v).pending = s.pending := rfl
@[simp] theorem rd_setEnt (s : State) (e v : Nat) (G : Fld) (j c : Nat) : (setEnt s e v).rd G j c = s.rd G j c := rfl
@[simp] theorem ctr_setEnt (s : State) (e v : Nat) (G : Ctr) (j c : Nat) : (setEnt s e v).ctr G j c = s.ctr G j c := rfl
@[simp] theorem setEnt_rfval (s : State) (e v : Nat) : (setEnt s e v).rf.val = s.rf.val := rfl
@[simp] theorem setBkp_dev (s : State) (n v : Nat) : (setBkp s n v).dev = s.dev := rfl
@[simp] theorem setBkp_rf (s : State) (n v : Nat) : (setBkp s n v).rf = s.rf := rfl
@[simp] theorem setBkp_fuses (s : State) (n v : Nat) : (setBkp s n v).fuses = s.fuses := rfl
@[simp] theorem setBkp_gai (s : State) (n v : Nat) : (setBkp s n v).gai = s.gai := rfl
@[simp] theorem setBkp_pwr (s : State) (n v : Nat) : (setBkp s n v).pwr = s.pwr := rfl
@[simp] theorem setBkp_rst (s : State) (n v : Nat) : (setBkp s n v).rst = s.rst := rfl
@[simp] theorem setBkp_recd (s : State) (n v : Nat) : (setBkp s n v).recd = s.recd := rfl
@[simp] theorem setBkp_dic (s : State) (n v : Nat) : (setBkp s n v).dic = s.dic := rfl
@[simp] theorem setBkp_pci (s : State) (n v : Nat) : (setBkp s n v).pci = s.pci := rfl
@[simp] theorem setBkp_mgtDrops (s : State) (n v : Nat) : (setBkp s n v).mgtDrops = s.mgtDrops := rfl
@[simp] theorem setBkp_mdio (s : State) (n v : Nat) : (setBkp s n v).mdio = s.mdio := rfl
@[simp] theorem setBkp_cpx (s : State) (n v : Nat) : (setBkp s n v).cpx = s.cpx := rfl
@[simp] theorem setBkp_svc (s : State) (n v : Nat) : (setBkp s n v).svc = s.svc := rfl
@[simp] theorem setBkp_key (s : State) (n v : Nat) : (setBkp s n v).key = s.key := rfl
@[simp] theorem setBkp_kpf (s : State) (n v : Nat) : (setBkp s n v).kpf = s.kpf := rfl
@[simp] theorem setBkp_clk (s : State) (n v : Nat) : (setBkp s n v).clk = s.clk := rfl
@[simp] theorem setBkp_cal (s : State) (n v : Nat) : (setBkp s n v).cal = s.cal := rfl
@[simp] theorem setBkp_sav (s : State) (n v : Nat) : (setBkp s n v).sav = s.sav := rfl
@[simp] theorem setBkp_gov (s : State) (n v : Nat) : (setBkp s n v).gov = s.gov := rfl
@[simp] theorem setBkp_maps (s : State) (n v : Nat) : (setBkp s n v).maps = s.maps := rfl
@[simp] theorem setBkp_log (s : State) (n v : Nat) : (setBkp s n v).log = s.log := rfl
@[simp] theorem setBkp_trn (s : State) (n v : Nat) : (setBkp s n v).trn = s.trn := rfl
@[simp] theorem setBkp_dram (s : State) (n v : Nat) : (setBkp s n v).dram = s.dram := rfl
@[simp] theorem setBkp_drc (s : State) (n v : Nat) : (setBkp s n v).drc = s.drc := rfl
@[simp] theorem setBkp_grm (s : State) (n v : Nat) : (setBkp s n v).grm = s.grm := rfl
@[simp] theorem setBkp_far (s : State) (n v : Nat) : (setBkp s n v).far = s.far := rfl
@[simp] theorem setBkp_stf (s : State) (n v : Nat) : (setBkp s n v).stf = s.stf := rfl
@[simp] theorem setBkp_tie (s : State) (n v : Nat) : (setBkp s n v).tie = s.tie := rfl
@[simp] theorem setBkp_mst (s : State) (n v : Nat) : (setBkp s n v).mst = s.mst := rfl
@[simp] theorem setBkp_xpt (s : State) (n v : Nat) : (setBkp s n v).xpt = s.xpt := rfl
@[simp] theorem setBkp_prt (s : State) (n v : Nat) : (setBkp s n v).prt = s.prt := rfl
@[simp] theorem setBkp_twn (s : State) (n v : Nat) : (setBkp s n v).twn = s.twn := rfl
@[simp] theorem setBkp_draws (s : State) (n v : Nat) : (setBkp s n v).draws = s.draws := rfl
@[simp] theorem setBkp_out (s : State) (n v : Nat) : (setBkp s n v).out = s.out := rfl
@[simp] theorem setBkp_now (s : State) (n v : Nat) : (setBkp s n v).now = s.now := rfl
@[simp] theorem setBkp_pending (s : State) (n v : Nat) : (setBkp s n v).pending = s.pending := rfl
@[simp] theorem rd_setBkp (s : State) (n v : Nat) (G : Fld) (j c : Nat) : (setBkp s n v).rd G j c = s.rd G j c := rfl
@[simp] theorem ctr_setBkp (s : State) (n v : Nat) (G : Ctr) (j c : Nat) : (setBkp s n v).ctr G j c = s.ctr G j c := rfl
@[simp] theorem setBkp_rfval (s : State) (n v : Nat) : (setBkp s n v).rf.val = s.rf.val := rfl

/-! ## Registers and counters -/

/-- A register reads as what was written to it, at the field's width. -/
@[simp] theorem rd_wr_self (s : State) (F : Fld) (v i b : Nat) : (s.wr F v i b).rd F i b = v % 2 ^ F.wid :=
  Sparse.get_put_self _ _ _ _

/-- Writing one register leaves every other one. -/
theorem rd_wr_other (s : State) (F G : Fld) (v i b j c : Nat) (h : G.key j c ≠ F.key i b) : (s.wr F v i b).rd G j c = s.rd G j c :=
  Sparse.get_put_other _ _ _ _ _ _ h

@[simp] theorem rd_bump (s : State) (c : Ctr) (n i b : Nat) (G : Fld) (j d : Nat) : (s.bump c n i b).rd G j d = s.rd G j d := rfl

@[simp] theorem ctr_wr (s : State) (F : Fld) (v i b : Nat) (c : Ctr) (j d : Nat) : (s.wr F v i b).ctr c j d = s.ctr c j d := rfl

@[simp] theorem ctr_wbit (s : State) (F : Fld) (n : Nat) (v : Bool) (b : Nat) (c : Ctr) (j d : Nat) :
    (s.wbit F n v b).ctr c j d = s.ctr c j d := rfl

@[simp] theorem ctr_wr64 (s : State) (L H : Fld) (v i : Nat) (c : Ctr) (j d : Nat) : (s.wr64 L H v i).ctr c j d = s.ctr c j d := rfl

/-- A counter counts modulo 2^64. -/
@[simp] theorem ctr_bump_self (s : State) (c : Ctr) (n i b : Nat) : (s.bump c n i b).ctr c i b = (s.ctr c i b + n) % 2 ^ 64 :=
  Sparse.get_put_self _ _ _ _

/-- Counting leaves every other counter. -/
theorem ctr_bump_other (s : State) (c d : Ctr) (n i b j e : Nat) (h : d.key j e ≠ c.key i b) : (s.bump c n i b).ctr d j e = s.ctr d j e :=
  Sparse.get_put_other _ _ _ _ _ _ h

@[simp] theorem bump_rfval (s : State) (c : Ctr) (n i b : Nat) : (s.bump c n i b).rf.val = s.rf.val := rfl

@[simp] theorem wr_rfctr (s : State) (F : Fld) (v i b : Nat) : (s.wr F v i b).rf.ctr = s.rf.ctr := rfl

theorem rd_congr {s t : State} (h : t.rf.val = s.rf.val) (F : Fld) (i b : Nat) : t.rd F i b = s.rd F i b := by
  unfold State.rd
  rw [h]

/-! ## Events -/

@[simp] theorem notifyOne_rfval (s : State) (n : Nat) (r : EvRec) : (notifyOne s n r).rf.val = s.rf.val := by
  unfold notifyOne
  split
  · rfl
  · dsimp only
    split
    · split <;> rfl
    · split <;> rfl

theorem foldl_notifyOne_rfval (l : List Nat) (s : State) (r : EvRec) :
    (l.foldl (fun u n => notifyOne u n r) s).rf.val = s.rf.val := by
  induction l generalizing s with
  | nil => rfl
  | cons x xs ih => exact (ih _).trans (notifyOne_rfval _ _ _)

@[simp] theorem record_rfval (s : State) (code : Nat) (payload : List Nat) (summary : Bool) (named : List Nat) (sev : Nat) :
    (record s code payload summary named sev).rf.val = s.rf.val := by
  unfold record
  exact foldl_notifyOne_rfval _ _ _

@[simp] theorem occur_rfval (s : State) (code : Nat) (payload : List Nat) (named : List Nat) (sev : Nat) :
    (occur s code payload named sev).rf.val = s.rf.val := by
  unfold occur
  split
  · exact record_rfval _ _ _ _ _ _
  · rfl

@[simp] theorem raiseTo_rfval (s : State) (code : Nat) (payload : List Nat) (named : List Nat) (sev : Nat) :
    (raiseTo s code payload named sev).rf.val = s.rf.val := by
  unfold raiseTo
  dsimp only
  split
  · exact occur_rfval _ _ _ _ _
  · exact (occur_rfval _ _ _ _ _).trans (occur_rfval _ _ _ _ _)

@[simp] theorem raise_rfval (s : State) (code : Nat) (payload : List Nat) : (raise s code payload).rf.val = s.rf.val :=
  raiseTo_rfval _ _ _ _ _

@[simp] theorem rd_raise (s : State) (code : Nat) (payload : List Nat) (F : Fld) (i b : Nat) :
    (raise s code payload).rd F i b = s.rd F i b := rd_congr (raise_rfval _ _ _) _ _ _

@[simp] theorem rd_raiseTo (s : State) (code : Nat) (payload : List Nat) (named : List Nat) (sev : Nat) (F : Fld) (i b : Nat) :
    (raiseTo s code payload named sev).rd F i b = s.rd F i b := rd_congr (raiseTo_rfval _ _ _ _ _) _ _ _


/-! ## Bits of a mask -/

theorem bit_eq_testBit (m i : Nat) : bit m i = m.testBit i := by
  simp [bit, Nat.testBit_eq_decide_div_mod_eq]

theorem bit_bitSet_self (m i : Nat) : bit (bitSet m i) i = true := by
  unfold bitSet
  split
  · assumption
  · rename_i h
    simp only [bit_eq_testBit] at h ⊢
    rw [Nat.add_comm, Nat.testBit_two_pow_add_eq]
    simpa using h

theorem bit_bitClr_self (m i : Nat) : bit (bitClr m i) i = false := by
  unfold bitClr
  split
  · rename_i h
    simp only [bit_eq_testBit] at h ⊢
    have g : 2 ^ i ≤ m := Nat.ge_two_pow_of_testBit h
    have e := Nat.testBit_two_pow_add_eq (m - 2 ^ i) i
    rw [Nat.add_sub_cancel' g, h] at e
    simpa using e.symm
  · simp_all

/-- A mask bit of a field of `w` bits reads as it was put. -/
theorem bit_bitPut_mod (m i w : Nat) (b : Bool) (h : i < w) : bit (bitPut m i b % 2 ^ w) i = b := by
  rw [bit_eq_testBit, Nat.testBit_mod_two_pow, decide_eq_true h, Bool.true_and, ← bit_eq_testBit]
  unfold bitPut
  cases b
  · exact bit_bitClr_self m i
  · exact bit_bitSet_self m i

/-- A bit of a mask register reads as it was written. -/
theorem rbit_wbit_self (s : State) (F : Fld) (i : Nat) (b : Bool) (c : Nat) (h : i < F.wid) : (s.wbit F i b c).rbit F i c = b := by
  unfold State.rbit State.wbit
  rw [rd_wr_self]
  exact bit_bitPut_mod _ _ _ _ h

@[simp] theorem raise_dev (s : State) (code : Nat) (payload : List Nat) : (raise s code payload).dev = s.dev :=
  (keep_raise (Sub.refl _) (Keeps.refl _ s)).same .dev rfl
@[simp] theorem raise_fuses (s : State) (code : Nat) (payload : List Nat) : (raise s code payload).fuses = s.fuses :=
  (keep_raise (Sub.refl _) (Keeps.refl _ s)).same .fuses rfl
@[simp] theorem raise_gai (s : State) (code : Nat) (payload : List Nat) : (raise s code payload).gai = s.gai :=
  (keep_raise (Sub.refl _) (Keeps.refl _ s)).same .gai rfl
@[simp] theorem raise_pwr (s : State) (code : Nat) (payload : List Nat) : (raise s code payload).pwr = s.pwr :=
  (keep_raise (Sub.refl _) (Keeps.refl _ s)).same .pwr rfl
@[simp] theorem raise_rst (s : State) (code : Nat) (payload : List Nat) : (raise s code payload).rst = s.rst :=
  (keep_raise (Sub.refl _) (Keeps.refl _ s)).same .rst rfl
@[simp] theorem raise_tack (s : State) (code : Nat) (payload : List Nat) : (raise s code payload).tack = s.tack :=
  (keep_raise (Sub.refl _) (Keeps.refl _ s)).same .tack rfl
@[simp] theorem raise_dic (s : State) (code : Nat) (payload : List Nat) : (raise s code payload).dic = s.dic :=
  (keep_raise (Sub.refl _) (Keeps.refl _ s)).same .dic rfl
@[simp] theorem raise_pci (s : State) (code : Nat) (payload : List Nat) : (raise s code payload).pci = s.pci :=
  (keep_raise (Sub.refl _) (Keeps.refl _ s)).same .pci rfl
@[simp] theorem raise_mgtDrops (s : State) (code : Nat) (payload : List Nat) : (raise s code payload).mgtDrops = s.mgtDrops :=
  (keep_raise (Sub.refl _) (Keeps.refl _ s)).same .mgtDrops rfl
@[simp] theorem raise_mdio (s : State) (code : Nat) (payload : List Nat) : (raise s code payload).mdio = s.mdio :=
  (keep_raise (Sub.refl _) (Keeps.refl _ s)).same .mdio rfl
@[simp] theorem raise_cpx (s : State) (code : Nat) (payload : List Nat) : (raise s code payload).cpx = s.cpx :=
  (keep_raise (Sub.refl _) (Keeps.refl _ s)).same .cpx rfl
@[simp] theorem raise_svc (s : State) (code : Nat) (payload : List Nat) : (raise s code payload).svc = s.svc :=
  (keep_raise (Sub.refl _) (Keeps.refl _ s)).same .svc rfl
@[simp] theorem raise_key (s : State) (code : Nat) (payload : List Nat) : (raise s code payload).key = s.key :=
  (keep_raise (Sub.refl _) (Keeps.refl _ s)).same .key rfl
@[simp] theorem raise_kpf (s : State) (code : Nat) (payload : List Nat) : (raise s code payload).kpf = s.kpf :=
  (keep_raise (Sub.refl _) (Keeps.refl _ s)).same .kpf rfl
@[simp] theorem raise_clk (s : State) (code : Nat) (payload : List Nat) : (raise s code payload).clk = s.clk :=
  (keep_raise (Sub.refl _) (Keeps.refl _ s)).same .clk rfl
@[simp] theorem raise_cal (s : State) (code : Nat) (payload : List Nat) : (raise s code payload).cal = s.cal :=
  (keep_raise (Sub.refl _) (Keeps.refl _ s)).same .cal rfl
@[simp] theorem raise_sav (s : State) (code : Nat) (payload : List Nat) : (raise s code payload).sav = s.sav :=
  (keep_raise (Sub.refl _) (Keeps.refl _ s)).same .sav rfl
@[simp] theorem raise_gov (s : State) (code : Nat) (payload : List Nat) : (raise s code payload).gov = s.gov :=
  (keep_raise (Sub.refl _) (Keeps.refl _ s)).same .gov rfl
@[simp] theorem raise_maps (s : State) (code : Nat) (payload : List Nat) : (raise s code payload).maps = s.maps :=
  (keep_raise (Sub.refl _) (Keeps.refl _ s)).same .maps rfl
@[simp] theorem raise_log (s : State) (code : Nat) (payload : List Nat) : (raise s code payload).log = s.log :=
  (keep_raise (Sub.refl _) (Keeps.refl _ s)).same .log rfl
@[simp] theorem raise_trn (s : State) (code : Nat) (payload : List Nat) : (raise s code payload).trn = s.trn :=
  (keep_raise (Sub.refl _) (Keeps.refl _ s)).same .trn rfl
@[simp] theorem raise_dram (s : State) (code : Nat) (payload : List Nat) : (raise s code payload).dram = s.dram :=
  (keep_raise (Sub.refl _) (Keeps.refl _ s)).same .dram rfl
@[simp] theorem raise_drc (s : State) (code : Nat) (payload : List Nat) : (raise s code payload).drc = s.drc :=
  (keep_raise (Sub.refl _) (Keeps.refl _ s)).same .drc rfl
@[simp] theorem raise_grm (s : State) (code : Nat) (payload : List Nat) : (raise s code payload).grm = s.grm :=
  (keep_raise (Sub.refl _) (Keeps.refl _ s)).same .grm rfl
@[simp] theorem raise_far (s : State) (code : Nat) (payload : List Nat) : (raise s code payload).far = s.far :=
  (keep_raise (Sub.refl _) (Keeps.refl _ s)).same .far rfl
@[simp] theorem raise_stf (s : State) (code : Nat) (payload : List Nat) : (raise s code payload).stf = s.stf :=
  (keep_raise (Sub.refl _) (Keeps.refl _ s)).same .stf rfl
@[simp] theorem raise_tie (s : State) (code : Nat) (payload : List Nat) : (raise s code payload).tie = s.tie :=
  (keep_raise (Sub.refl _) (Keeps.refl _ s)).same .tie rfl
@[simp] theorem raise_mst (s : State) (code : Nat) (payload : List Nat) : (raise s code payload).mst = s.mst :=
  (keep_raise (Sub.refl _) (Keeps.refl _ s)).same .mst rfl
@[simp] theorem raise_xpt (s : State) (code : Nat) (payload : List Nat) : (raise s code payload).xpt = s.xpt :=
  (keep_raise (Sub.refl _) (Keeps.refl _ s)).same .xpt rfl
@[simp] theorem raise_prt (s : State) (code : Nat) (payload : List Nat) : (raise s code payload).prt = s.prt :=
  (keep_raise (Sub.refl _) (Keeps.refl _ s)).same .prt rfl
@[simp] theorem raise_twn (s : State) (code : Nat) (payload : List Nat) : (raise s code payload).twn = s.twn :=
  (keep_raise (Sub.refl _) (Keeps.refl _ s)).same .twn rfl
@[simp] theorem raise_draws (s : State) (code : Nat) (payload : List Nat) : (raise s code payload).draws = s.draws :=
  (keep_raise (Sub.refl _) (Keeps.refl _ s)).same .draws rfl
@[simp] theorem raise_now (s : State) (code : Nat) (payload : List Nat) : (raise s code payload).now = s.now :=
  (keep_raise (Sub.refl _) (Keeps.refl _ s)).now
@[simp] theorem raise_pending (s : State) (code : Nat) (payload : List Nat) : (raise s code payload).pending = s.pending :=
  (keep_raise (Sub.refl _) (Keeps.refl _ s)).pend
@[simp] theorem raiseTo_dev (s : State) (code : Nat) (payload : List Nat) (named : List Nat) (sev : Nat) : (raiseTo s code payload named sev).dev = s.dev :=
  (keep_raiseTo (Sub.refl _) (Keeps.refl _ s)).same .dev rfl
@[simp] theorem raiseTo_fuses (s : State) (code : Nat) (payload : List Nat) (named : List Nat) (sev : Nat) : (raiseTo s code payload named sev).fuses = s.fuses :=
  (keep_raiseTo (Sub.refl _) (Keeps.refl _ s)).same .fuses rfl
@[simp] theorem raiseTo_gai (s : State) (code : Nat) (payload : List Nat) (named : List Nat) (sev : Nat) : (raiseTo s code payload named sev).gai = s.gai :=
  (keep_raiseTo (Sub.refl _) (Keeps.refl _ s)).same .gai rfl
@[simp] theorem raiseTo_pwr (s : State) (code : Nat) (payload : List Nat) (named : List Nat) (sev : Nat) : (raiseTo s code payload named sev).pwr = s.pwr :=
  (keep_raiseTo (Sub.refl _) (Keeps.refl _ s)).same .pwr rfl
@[simp] theorem raiseTo_rst (s : State) (code : Nat) (payload : List Nat) (named : List Nat) (sev : Nat) : (raiseTo s code payload named sev).rst = s.rst :=
  (keep_raiseTo (Sub.refl _) (Keeps.refl _ s)).same .rst rfl
@[simp] theorem raiseTo_tack (s : State) (code : Nat) (payload : List Nat) (named : List Nat) (sev : Nat) : (raiseTo s code payload named sev).tack = s.tack :=
  (keep_raiseTo (Sub.refl _) (Keeps.refl _ s)).same .tack rfl
@[simp] theorem raiseTo_dic (s : State) (code : Nat) (payload : List Nat) (named : List Nat) (sev : Nat) : (raiseTo s code payload named sev).dic = s.dic :=
  (keep_raiseTo (Sub.refl _) (Keeps.refl _ s)).same .dic rfl
@[simp] theorem raiseTo_pci (s : State) (code : Nat) (payload : List Nat) (named : List Nat) (sev : Nat) : (raiseTo s code payload named sev).pci = s.pci :=
  (keep_raiseTo (Sub.refl _) (Keeps.refl _ s)).same .pci rfl
@[simp] theorem raiseTo_mgtDrops (s : State) (code : Nat) (payload : List Nat) (named : List Nat) (sev : Nat) : (raiseTo s code payload named sev).mgtDrops = s.mgtDrops :=
  (keep_raiseTo (Sub.refl _) (Keeps.refl _ s)).same .mgtDrops rfl
@[simp] theorem raiseTo_mdio (s : State) (code : Nat) (payload : List Nat) (named : List Nat) (sev : Nat) : (raiseTo s code payload named sev).mdio = s.mdio :=
  (keep_raiseTo (Sub.refl _) (Keeps.refl _ s)).same .mdio rfl
@[simp] theorem raiseTo_cpx (s : State) (code : Nat) (payload : List Nat) (named : List Nat) (sev : Nat) : (raiseTo s code payload named sev).cpx = s.cpx :=
  (keep_raiseTo (Sub.refl _) (Keeps.refl _ s)).same .cpx rfl
@[simp] theorem raiseTo_svc (s : State) (code : Nat) (payload : List Nat) (named : List Nat) (sev : Nat) : (raiseTo s code payload named sev).svc = s.svc :=
  (keep_raiseTo (Sub.refl _) (Keeps.refl _ s)).same .svc rfl
@[simp] theorem raiseTo_key (s : State) (code : Nat) (payload : List Nat) (named : List Nat) (sev : Nat) : (raiseTo s code payload named sev).key = s.key :=
  (keep_raiseTo (Sub.refl _) (Keeps.refl _ s)).same .key rfl
@[simp] theorem raiseTo_kpf (s : State) (code : Nat) (payload : List Nat) (named : List Nat) (sev : Nat) : (raiseTo s code payload named sev).kpf = s.kpf :=
  (keep_raiseTo (Sub.refl _) (Keeps.refl _ s)).same .kpf rfl
@[simp] theorem raiseTo_clk (s : State) (code : Nat) (payload : List Nat) (named : List Nat) (sev : Nat) : (raiseTo s code payload named sev).clk = s.clk :=
  (keep_raiseTo (Sub.refl _) (Keeps.refl _ s)).same .clk rfl
@[simp] theorem raiseTo_cal (s : State) (code : Nat) (payload : List Nat) (named : List Nat) (sev : Nat) : (raiseTo s code payload named sev).cal = s.cal :=
  (keep_raiseTo (Sub.refl _) (Keeps.refl _ s)).same .cal rfl
@[simp] theorem raiseTo_sav (s : State) (code : Nat) (payload : List Nat) (named : List Nat) (sev : Nat) : (raiseTo s code payload named sev).sav = s.sav :=
  (keep_raiseTo (Sub.refl _) (Keeps.refl _ s)).same .sav rfl
@[simp] theorem raiseTo_gov (s : State) (code : Nat) (payload : List Nat) (named : List Nat) (sev : Nat) : (raiseTo s code payload named sev).gov = s.gov :=
  (keep_raiseTo (Sub.refl _) (Keeps.refl _ s)).same .gov rfl
@[simp] theorem raiseTo_maps (s : State) (code : Nat) (payload : List Nat) (named : List Nat) (sev : Nat) : (raiseTo s code payload named sev).maps = s.maps :=
  (keep_raiseTo (Sub.refl _) (Keeps.refl _ s)).same .maps rfl
@[simp] theorem raiseTo_log (s : State) (code : Nat) (payload : List Nat) (named : List Nat) (sev : Nat) : (raiseTo s code payload named sev).log = s.log :=
  (keep_raiseTo (Sub.refl _) (Keeps.refl _ s)).same .log rfl
@[simp] theorem raiseTo_trn (s : State) (code : Nat) (payload : List Nat) (named : List Nat) (sev : Nat) : (raiseTo s code payload named sev).trn = s.trn :=
  (keep_raiseTo (Sub.refl _) (Keeps.refl _ s)).same .trn rfl
@[simp] theorem raiseTo_dram (s : State) (code : Nat) (payload : List Nat) (named : List Nat) (sev : Nat) : (raiseTo s code payload named sev).dram = s.dram :=
  (keep_raiseTo (Sub.refl _) (Keeps.refl _ s)).same .dram rfl
@[simp] theorem raiseTo_drc (s : State) (code : Nat) (payload : List Nat) (named : List Nat) (sev : Nat) : (raiseTo s code payload named sev).drc = s.drc :=
  (keep_raiseTo (Sub.refl _) (Keeps.refl _ s)).same .drc rfl
@[simp] theorem raiseTo_grm (s : State) (code : Nat) (payload : List Nat) (named : List Nat) (sev : Nat) : (raiseTo s code payload named sev).grm = s.grm :=
  (keep_raiseTo (Sub.refl _) (Keeps.refl _ s)).same .grm rfl
@[simp] theorem raiseTo_far (s : State) (code : Nat) (payload : List Nat) (named : List Nat) (sev : Nat) : (raiseTo s code payload named sev).far = s.far :=
  (keep_raiseTo (Sub.refl _) (Keeps.refl _ s)).same .far rfl
@[simp] theorem raiseTo_stf (s : State) (code : Nat) (payload : List Nat) (named : List Nat) (sev : Nat) : (raiseTo s code payload named sev).stf = s.stf :=
  (keep_raiseTo (Sub.refl _) (Keeps.refl _ s)).same .stf rfl
@[simp] theorem raiseTo_tie (s : State) (code : Nat) (payload : List Nat) (named : List Nat) (sev : Nat) : (raiseTo s code payload named sev).tie = s.tie :=
  (keep_raiseTo (Sub.refl _) (Keeps.refl _ s)).same .tie rfl
@[simp] theorem raiseTo_mst (s : State) (code : Nat) (payload : List Nat) (named : List Nat) (sev : Nat) : (raiseTo s code payload named sev).mst = s.mst :=
  (keep_raiseTo (Sub.refl _) (Keeps.refl _ s)).same .mst rfl
@[simp] theorem raiseTo_xpt (s : State) (code : Nat) (payload : List Nat) (named : List Nat) (sev : Nat) : (raiseTo s code payload named sev).xpt = s.xpt :=
  (keep_raiseTo (Sub.refl _) (Keeps.refl _ s)).same .xpt rfl
@[simp] theorem raiseTo_prt (s : State) (code : Nat) (payload : List Nat) (named : List Nat) (sev : Nat) : (raiseTo s code payload named sev).prt = s.prt :=
  (keep_raiseTo (Sub.refl _) (Keeps.refl _ s)).same .prt rfl
@[simp] theorem raiseTo_twn (s : State) (code : Nat) (payload : List Nat) (named : List Nat) (sev : Nat) : (raiseTo s code payload named sev).twn = s.twn :=
  (keep_raiseTo (Sub.refl _) (Keeps.refl _ s)).same .twn rfl
@[simp] theorem raiseTo_draws (s : State) (code : Nat) (payload : List Nat) (named : List Nat) (sev : Nat) : (raiseTo s code payload named sev).draws = s.draws :=
  (keep_raiseTo (Sub.refl _) (Keeps.refl _ s)).same .draws rfl
@[simp] theorem raiseTo_now (s : State) (code : Nat) (payload : List Nat) (named : List Nat) (sev : Nat) : (raiseTo s code payload named sev).now = s.now :=
  (keep_raiseTo (Sub.refl _) (Keeps.refl _ s)).now
@[simp] theorem raiseTo_pending (s : State) (code : Nat) (payload : List Nat) (named : List Nat) (sev : Nat) : (raiseTo s code payload named sev).pending = s.pending :=
  (keep_raiseTo (Sub.refl _) (Keeps.refl _ s)).pend

end Sys2Proof.Laws
end

