-- ==== Sys2Proof/Laws/Frames.lean ====
section
/-! SUPPORT. Parts of the state that shared operations leave as they are, as equations for simp: `fr_<operation>_<part>`. Each one
follows from the operation's lemma in Laws/KeepOps.lean. -/

namespace Sys2Proof.Laws

open Sys2Proof Sys2Proof.Machine

@[simp] theorem fr_hopWrite_maps (s : State) (a' : Nat) : (hopWrite s a').maps = s.maps :=
  (keep_hopWrite (Sub.refl _) (Keeps.refl _ s) : Keeps _ s ((hopWrite s a'))).same .maps rfl
@[simp] theorem fr_countDirty_maps (s : State) (old : Bool) (new : Bool) : (countDirty s old new).maps = s.maps :=
  (keep_countDirty (Sub.refl _) (Keeps.refl _ s) : Keeps _ s ((countDirty s old new))).same .maps rfl
@[simp] theorem fr_mapTouch_dev (a' : Nat) (s : State) : (mapTouch a' s).dev = s.dev :=
  (keep_mapTouch (Sub.refl _) (Keeps.refl _ s) : Keeps _ s ((mapTouch a' s))).same .dev rfl
@[simp] theorem fr_mapTouch_fuses (a' : Nat) (s : State) : (mapTouch a' s).fuses = s.fuses :=
  (keep_mapTouch (Sub.refl _) (Keeps.refl _ s) : Keeps _ s ((mapTouch a' s))).same .fuses rfl
@[simp] theorem fr_mapTouch_gai (a' : Nat) (s : State) : (mapTouch a' s).gai = s.gai :=
  (keep_mapTouch (Sub.refl _) (Keeps.refl _ s) : Keeps _ s ((mapTouch a' s))).same .gai rfl
@[simp] theorem fr_mapTouch_pwr (a' : Nat) (s : State) : (mapTouch a' s).pwr = s.pwr :=
  (keep_mapTouch (Sub.refl _) (Keeps.refl _ s) : Keeps _ s ((mapTouch a' s))).same .pwr rfl
@[simp] theorem fr_mapTouch_rst (a' : Nat) (s : State) : (mapTouch a' s).rst = s.rst :=
  (keep_mapTouch (Sub.refl _) (Keeps.refl _ s) : Keeps _ s ((mapTouch a' s))).same .rst rfl
@[simp] theorem fr_mapTouch_tack (a' : Nat) (s : State) : (mapTouch a' s).tack = s.tack :=
  (keep_mapTouch (Sub.refl _) (Keeps.refl _ s) : Keeps _ s ((mapTouch a' s))).same .tack rfl
@[simp] theorem fr_mapTouch_dic (a' : Nat) (s : State) : (mapTouch a' s).dic = s.dic :=
  (keep_mapTouch (Sub.refl _) (Keeps.refl _ s) : Keeps _ s ((mapTouch a' s))).same .dic rfl
@[simp] theorem fr_mapTouch_pci (a' : Nat) (s : State) : (mapTouch a' s).pci = s.pci :=
  (keep_mapTouch (Sub.refl _) (Keeps.refl _ s) : Keeps _ s ((mapTouch a' s))).same .pci rfl
@[simp] theorem fr_mapTouch_mgtDrops (a' : Nat) (s : State) : (mapTouch a' s).mgtDrops = s.mgtDrops :=
  (keep_mapTouch (Sub.refl _) (Keeps.refl _ s) : Keeps _ s ((mapTouch a' s))).same .mgtDrops rfl
@[simp] theorem fr_mapTouch_cpx (a' : Nat) (s : State) : (mapTouch a' s).cpx = s.cpx :=
  (keep_mapTouch (Sub.refl _) (Keeps.refl _ s) : Keeps _ s ((mapTouch a' s))).same .cpx rfl
@[simp] theorem fr_mapTouch_svc (a' : Nat) (s : State) : (mapTouch a' s).svc = s.svc :=
  (keep_mapTouch (Sub.refl _) (Keeps.refl _ s) : Keeps _ s ((mapTouch a' s))).same .svc rfl
@[simp] theorem fr_mapTouch_key (a' : Nat) (s : State) : (mapTouch a' s).key = s.key :=
  (keep_mapTouch (Sub.refl _) (Keeps.refl _ s) : Keeps _ s ((mapTouch a' s))).same .key rfl
@[simp] theorem fr_mapTouch_kpf (a' : Nat) (s : State) : (mapTouch a' s).kpf = s.kpf :=
  (keep_mapTouch (Sub.refl _) (Keeps.refl _ s) : Keeps _ s ((mapTouch a' s))).same .kpf rfl
@[simp] theorem fr_mapTouch_clk (a' : Nat) (s : State) : (mapTouch a' s).clk = s.clk :=
  (keep_mapTouch (Sub.refl _) (Keeps.refl _ s) : Keeps _ s ((mapTouch a' s))).same .clk rfl
@[simp] theorem fr_mapTouch_cal (a' : Nat) (s : State) : (mapTouch a' s).cal = s.cal :=
  (keep_mapTouch (Sub.refl _) (Keeps.refl _ s) : Keeps _ s ((mapTouch a' s))).same .cal rfl
@[simp] theorem fr_mapTouch_sav (a' : Nat) (s : State) : (mapTouch a' s).sav = s.sav :=
  (keep_mapTouch (Sub.refl _) (Keeps.refl _ s) : Keeps _ s ((mapTouch a' s))).same .sav rfl
@[simp] theorem fr_mapTouch_gov (a' : Nat) (s : State) : (mapTouch a' s).gov = s.gov :=
  (keep_mapTouch (Sub.refl _) (Keeps.refl _ s) : Keeps _ s ((mapTouch a' s))).same .gov rfl
@[simp] theorem fr_mapTouch_log (a' : Nat) (s : State) : (mapTouch a' s).log = s.log :=
  (keep_mapTouch (Sub.refl _) (Keeps.refl _ s) : Keeps _ s ((mapTouch a' s))).same .log rfl
@[simp] theorem fr_mapTouch_dram (a' : Nat) (s : State) : (mapTouch a' s).dram = s.dram :=
  (keep_mapTouch (Sub.refl _) (Keeps.refl _ s) : Keeps _ s ((mapTouch a' s))).same .dram rfl
@[simp] theorem fr_mapTouch_drc (a' : Nat) (s : State) : (mapTouch a' s).drc = s.drc :=
  (keep_mapTouch (Sub.refl _) (Keeps.refl _ s) : Keeps _ s ((mapTouch a' s))).same .drc rfl
@[simp] theorem fr_mapTouch_grm (a' : Nat) (s : State) : (mapTouch a' s).grm = s.grm :=
  (keep_mapTouch (Sub.refl _) (Keeps.refl _ s) : Keeps _ s ((mapTouch a' s))).same .grm rfl
@[simp] theorem fr_mapTouch_far (a' : Nat) (s : State) : (mapTouch a' s).far = s.far :=
  (keep_mapTouch (Sub.refl _) (Keeps.refl _ s) : Keeps _ s ((mapTouch a' s))).same .far rfl
@[simp] theorem fr_mapTouch_stf (a' : Nat) (s : State) : (mapTouch a' s).stf = s.stf :=
  (keep_mapTouch (Sub.refl _) (Keeps.refl _ s) : Keeps _ s ((mapTouch a' s))).same .stf rfl
@[simp] theorem fr_mapTouch_tie (a' : Nat) (s : State) : (mapTouch a' s).tie = s.tie :=
  (keep_mapTouch (Sub.refl _) (Keeps.refl _ s) : Keeps _ s ((mapTouch a' s))).same .tie rfl
@[simp] theorem fr_mapTouch_mst (a' : Nat) (s : State) : (mapTouch a' s).mst = s.mst :=
  (keep_mapTouch (Sub.refl _) (Keeps.refl _ s) : Keeps _ s ((mapTouch a' s))).same .mst rfl
@[simp] theorem fr_mapTouch_xpt (a' : Nat) (s : State) : (mapTouch a' s).xpt = s.xpt :=
  (keep_mapTouch (Sub.refl _) (Keeps.refl _ s) : Keeps _ s ((mapTouch a' s))).same .xpt rfl
@[simp] theorem fr_mapTouch_prt (a' : Nat) (s : State) : (mapTouch a' s).prt = s.prt :=
  (keep_mapTouch (Sub.refl _) (Keeps.refl _ s) : Keeps _ s ((mapTouch a' s))).same .prt rfl
@[simp] theorem fr_mapTouch_twn (a' : Nat) (s : State) : (mapTouch a' s).twn = s.twn :=
  (keep_mapTouch (Sub.refl _) (Keeps.refl _ s) : Keeps _ s ((mapTouch a' s))).same .twn rfl
@[simp] theorem fr_mapTouch_draws (a' : Nat) (s : State) : (mapTouch a' s).draws = s.draws :=
  (keep_mapTouch (Sub.refl _) (Keeps.refl _ s) : Keeps _ s ((mapTouch a' s))).same .draws rfl
@[simp] theorem fr_mapTouch_now (a' : Nat) (s : State) : (mapTouch a' s).now = s.now :=
  (keep_mapTouch (Sub.refl _) (Keeps.refl _ s) : Keeps _ s ((mapTouch a' s))).now
@[simp] theorem fr_mapTouch_pending (a' : Nat) (s : State) : (mapTouch a' s).pending = s.pending :=
  (keep_mapTouch (Sub.refl _) (Keeps.refl _ s) : Keeps _ s ((mapTouch a' s))).pend
@[simp] theorem fr_withTag_dev (s : State) (f : Nat → Msg) : (withTag s f).dev = s.dev :=
  (keep_withTag (Sub.refl _) (Keeps.refl _ s) : Keeps _ s ((withTag s f))).same .dev rfl
@[simp] theorem fr_withTag_fuses (s : State) (f : Nat → Msg) : (withTag s f).fuses = s.fuses :=
  (keep_withTag (Sub.refl _) (Keeps.refl _ s) : Keeps _ s ((withTag s f))).same .fuses rfl
@[simp] theorem fr_withTag_gai (s : State) (f : Nat → Msg) : (withTag s f).gai = s.gai :=
  (keep_withTag (Sub.refl _) (Keeps.refl _ s) : Keeps _ s ((withTag s f))).same .gai rfl
@[simp] theorem fr_withTag_pwr (s : State) (f : Nat → Msg) : (withTag s f).pwr = s.pwr :=
  (keep_withTag (Sub.refl _) (Keeps.refl _ s) : Keeps _ s ((withTag s f))).same .pwr rfl
@[simp] theorem fr_withTag_rst (s : State) (f : Nat → Msg) : (withTag s f).rst = s.rst :=
  (keep_withTag (Sub.refl _) (Keeps.refl _ s) : Keeps _ s ((withTag s f))).same .rst rfl
@[simp] theorem fr_withTag_tack (s : State) (f : Nat → Msg) : (withTag s f).tack = s.tack :=
  (keep_withTag (Sub.refl _) (Keeps.refl _ s) : Keeps _ s ((withTag s f))).same .tack rfl
@[simp] theorem fr_withTag_recd (s : State) (f : Nat → Msg) : (withTag s f).recd = s.recd :=
  (keep_withTag (Sub.refl _) (Keeps.refl _ s) : Keeps _ s ((withTag s f))).same .recd rfl
@[simp] theorem fr_withTag_dic (s : State) (f : Nat → Msg) : (withTag s f).dic = s.dic :=
  (keep_withTag (Sub.refl _) (Keeps.refl _ s) : Keeps _ s ((withTag s f))).same .dic rfl
@[simp] theorem fr_withTag_pci (s : State) (f : Nat → Msg) : (withTag s f).pci = s.pci :=
  (keep_withTag (Sub.refl _) (Keeps.refl _ s) : Keeps _ s ((withTag s f))).same .pci rfl
@[simp] theorem fr_withTag_mgtDrops (s : State) (f : Nat → Msg) : (withTag s f).mgtDrops = s.mgtDrops :=
  (keep_withTag (Sub.refl _) (Keeps.refl _ s) : Keeps _ s ((withTag s f))).same .mgtDrops rfl
@[simp] theorem fr_withTag_cpx (s : State) (f : Nat → Msg) : (withTag s f).cpx = s.cpx :=
  (keep_withTag (Sub.refl _) (Keeps.refl _ s) : Keeps _ s ((withTag s f))).same .cpx rfl
@[simp] theorem fr_withTag_svc (s : State) (f : Nat → Msg) : (withTag s f).svc = s.svc :=
  (keep_withTag (Sub.refl _) (Keeps.refl _ s) : Keeps _ s ((withTag s f))).same .svc rfl
@[simp] theorem fr_withTag_key (s : State) (f : Nat → Msg) : (withTag s f).key = s.key :=
  (keep_withTag (Sub.refl _) (Keeps.refl _ s) : Keeps _ s ((withTag s f))).same .key rfl
@[simp] theorem fr_withTag_kpf (s : State) (f : Nat → Msg) : (withTag s f).kpf = s.kpf :=
  (keep_withTag (Sub.refl _) (Keeps.refl _ s) : Keeps _ s ((withTag s f))).same .kpf rfl
@[simp] theorem fr_withTag_clk (s : State) (f : Nat → Msg) : (withTag s f).clk = s.clk :=
  (keep_withTag (Sub.refl _) (Keeps.refl _ s) : Keeps _ s ((withTag s f))).same .clk rfl
@[simp] theorem fr_withTag_cal (s : State) (f : Nat → Msg) : (withTag s f).cal = s.cal :=
  (keep_withTag (Sub.refl _) (Keeps.refl _ s) : Keeps _ s ((withTag s f))).same .cal rfl
@[simp] theorem fr_withTag_sav (s : State) (f : Nat → Msg) : (withTag s f).sav = s.sav :=
  (keep_withTag (Sub.refl _) (Keeps.refl _ s) : Keeps _ s ((withTag s f))).same .sav rfl
@[simp] theorem fr_withTag_gov (s : State) (f : Nat → Msg) : (withTag s f).gov = s.gov :=
  (keep_withTag (Sub.refl _) (Keeps.refl _ s) : Keeps _ s ((withTag s f))).same .gov rfl
@[simp] theorem fr_withTag_maps (s : State) (f : Nat → Msg) : (withTag s f).maps = s.maps :=
  (keep_withTag (Sub.refl _) (Keeps.refl _ s) : Keeps _ s ((withTag s f))).same .maps rfl
@[simp] theorem fr_withTag_log (s : State) (f : Nat → Msg) : (withTag s f).log = s.log :=
  (keep_withTag (Sub.refl _) (Keeps.refl _ s) : Keeps _ s ((withTag s f))).same .log rfl
@[simp] theorem fr_withTag_trn (s : State) (f : Nat → Msg) : (withTag s f).trn = s.trn :=
  (keep_withTag (Sub.refl _) (Keeps.refl _ s) : Keeps _ s ((withTag s f))).same .trn rfl
@[simp] theorem fr_withTag_dram (s : State) (f : Nat → Msg) : (withTag s f).dram = s.dram :=
  (keep_withTag (Sub.refl _) (Keeps.refl _ s) : Keeps _ s ((withTag s f))).same .dram rfl
@[simp] theorem fr_withTag_drc (s : State) (f : Nat → Msg) : (withTag s f).drc = s.drc :=
  (keep_withTag (Sub.refl _) (Keeps.refl _ s) : Keeps _ s ((withTag s f))).same .drc rfl
@[simp] theorem fr_withTag_grm (s : State) (f : Nat → Msg) : (withTag s f).grm = s.grm :=
  (keep_withTag (Sub.refl _) (Keeps.refl _ s) : Keeps _ s ((withTag s f))).same .grm rfl
@[simp] theorem fr_withTag_far (s : State) (f : Nat → Msg) : (withTag s f).far = s.far :=
  (keep_withTag (Sub.refl _) (Keeps.refl _ s) : Keeps _ s ((withTag s f))).same .far rfl
@[simp] theorem fr_withTag_stf (s : State) (f : Nat → Msg) : (withTag s f).stf = s.stf :=
  (keep_withTag (Sub.refl _) (Keeps.refl _ s) : Keeps _ s ((withTag s f))).same .stf rfl
@[simp] theorem fr_withTag_tie (s : State) (f : Nat → Msg) : (withTag s f).tie = s.tie :=
  (keep_withTag (Sub.refl _) (Keeps.refl _ s) : Keeps _ s ((withTag s f))).same .tie rfl
@[simp] theorem fr_withTag_mst (s : State) (f : Nat → Msg) : (withTag s f).mst = s.mst :=
  (keep_withTag (Sub.refl _) (Keeps.refl _ s) : Keeps _ s ((withTag s f))).same .mst rfl
@[simp] theorem fr_withTag_xpt (s : State) (f : Nat → Msg) : (withTag s f).xpt = s.xpt :=
  (keep_withTag (Sub.refl _) (Keeps.refl _ s) : Keeps _ s ((withTag s f))).same .xpt rfl
@[simp] theorem fr_withTag_prt (s : State) (f : Nat → Msg) : (withTag s f).prt = s.prt :=
  (keep_withTag (Sub.refl _) (Keeps.refl _ s) : Keeps _ s ((withTag s f))).same .prt rfl
@[simp] theorem fr_withTag_draws (s : State) (f : Nat → Msg) : (withTag s f).draws = s.draws :=
  (keep_withTag (Sub.refl _) (Keeps.refl _ s) : Keeps _ s ((withTag s f))).same .draws rfl
@[simp] theorem fr_withTag_now (s : State) (f : Nat → Msg) : (withTag s f).now = s.now :=
  (keep_withTag (Sub.refl _) (Keeps.refl _ s) : Keeps _ s ((withTag s f))).now
@[simp] theorem fr_withTag_pending (s : State) (f : Nat → Msg) : (withTag s f).pending = s.pending :=
  (keep_withTag (Sub.refl _) (Keeps.refl _ s) : Keeps _ s ((withTag s f))).pend
@[simp] theorem fr_drawn_dev (s : State) : (drawn s).dev = s.dev :=
  (keep_drawn (Sub.refl _) (Keeps.refl _ s) : Keeps _ s ((drawn s))).same .dev rfl
@[simp] theorem fr_drawn_fuses (s : State) : (drawn s).fuses = s.fuses :=
  (keep_drawn (Sub.refl _) (Keeps.refl _ s) : Keeps _ s ((drawn s))).same .fuses rfl
@[simp] theorem fr_drawn_gai (s : State) : (drawn s).gai = s.gai :=
  (keep_drawn (Sub.refl _) (Keeps.refl _ s) : Keeps _ s ((drawn s))).same .gai rfl
@[simp] theorem fr_drawn_pwr (s : State) : (drawn s).pwr = s.pwr :=
  (keep_drawn (Sub.refl _) (Keeps.refl _ s) : Keeps _ s ((drawn s))).same .pwr rfl
@[simp] theorem fr_drawn_rst (s : State) : (drawn s).rst = s.rst :=
  (keep_drawn (Sub.refl _) (Keeps.refl _ s) : Keeps _ s ((drawn s))).same .rst rfl
@[simp] theorem fr_drawn_tack (s : State) : (drawn s).tack = s.tack :=
  (keep_drawn (Sub.refl _) (Keeps.refl _ s) : Keeps _ s ((drawn s))).same .tack rfl
@[simp] theorem fr_drawn_recd (s : State) : (drawn s).recd = s.recd :=
  (keep_drawn (Sub.refl _) (Keeps.refl _ s) : Keeps _ s ((drawn s))).same .recd rfl
@[simp] theorem fr_drawn_dic (s : State) : (drawn s).dic = s.dic :=
  (keep_drawn (Sub.refl _) (Keeps.refl _ s) : Keeps _ s ((drawn s))).same .dic rfl
@[simp] theorem fr_drawn_pci (s : State) : (drawn s).pci = s.pci :=
  (keep_drawn (Sub.refl _) (Keeps.refl _ s) : Keeps _ s ((drawn s))).same .pci rfl
@[simp] theorem fr_drawn_mgtDrops (s : State) : (drawn s).mgtDrops = s.mgtDrops :=
  (keep_drawn (Sub.refl _) (Keeps.refl _ s) : Keeps _ s ((drawn s))).same .mgtDrops rfl
@[simp] theorem fr_drawn_cpx (s : State) : (drawn s).cpx = s.cpx :=
  (keep_drawn (Sub.refl _) (Keeps.refl _ s) : Keeps _ s ((drawn s))).same .cpx rfl
@[simp] theorem fr_drawn_svc (s : State) : (drawn s).svc = s.svc :=
  (keep_drawn (Sub.refl _) (Keeps.refl _ s) : Keeps _ s ((drawn s))).same .svc rfl
@[simp] theorem fr_drawn_kpf (s : State) : (drawn s).kpf = s.kpf :=
  (keep_drawn (Sub.refl _) (Keeps.refl _ s) : Keeps _ s ((drawn s))).same .kpf rfl
@[simp] theorem fr_drawn_clk (s : State) : (drawn s).clk = s.clk :=
  (keep_drawn (Sub.refl _) (Keeps.refl _ s) : Keeps _ s ((drawn s))).same .clk rfl
@[simp] theorem fr_drawn_cal (s : State) : (drawn s).cal = s.cal :=
  (keep_drawn (Sub.refl _) (Keeps.refl _ s) : Keeps _ s ((drawn s))).same .cal rfl
@[simp] theorem fr_drawn_sav (s : State) : (drawn s).sav = s.sav :=
  (keep_drawn (Sub.refl _) (Keeps.refl _ s) : Keeps _ s ((drawn s))).same .sav rfl
@[simp] theorem fr_drawn_gov (s : State) : (drawn s).gov = s.gov :=
  (keep_drawn (Sub.refl _) (Keeps.refl _ s) : Keeps _ s ((drawn s))).same .gov rfl
@[simp] theorem fr_drawn_maps (s : State) : (drawn s).maps = s.maps :=
  (keep_drawn (Sub.refl _) (Keeps.refl _ s) : Keeps _ s ((drawn s))).same .maps rfl
@[simp] theorem fr_drawn_log (s : State) : (drawn s).log = s.log :=
  (keep_drawn (Sub.refl _) (Keeps.refl _ s) : Keeps _ s ((drawn s))).same .log rfl
@[simp] theorem fr_drawn_trn (s : State) : (drawn s).trn = s.trn :=
  (keep_drawn (Sub.refl _) (Keeps.refl _ s) : Keeps _ s ((drawn s))).same .trn rfl
@[simp] theorem fr_drawn_dram (s : State) : (drawn s).dram = s.dram :=
  (keep_drawn (Sub.refl _) (Keeps.refl _ s) : Keeps _ s ((drawn s))).same .dram rfl
@[simp] theorem fr_drawn_drc (s : State) : (drawn s).drc = s.drc :=
  (keep_drawn (Sub.refl _) (Keeps.refl _ s) : Keeps _ s ((drawn s))).same .drc rfl
@[simp] theorem fr_drawn_grm (s : State) : (drawn s).grm = s.grm :=
  (keep_drawn (Sub.refl _) (Keeps.refl _ s) : Keeps _ s ((drawn s))).same .grm rfl
@[simp] theorem fr_drawn_far (s : State) : (drawn s).far = s.far :=
  (keep_drawn (Sub.refl _) (Keeps.refl _ s) : Keeps _ s ((drawn s))).same .far rfl
@[simp] theorem fr_drawn_stf (s : State) : (drawn s).stf = s.stf :=
  (keep_drawn (Sub.refl _) (Keeps.refl _ s) : Keeps _ s ((drawn s))).same .stf rfl
@[simp] theorem fr_drawn_tie (s : State) : (drawn s).tie = s.tie :=
  (keep_drawn (Sub.refl _) (Keeps.refl _ s) : Keeps _ s ((drawn s))).same .tie rfl
@[simp] theorem fr_drawn_mst (s : State) : (drawn s).mst = s.mst :=
  (keep_drawn (Sub.refl _) (Keeps.refl _ s) : Keeps _ s ((drawn s))).same .mst rfl
@[simp] theorem fr_drawn_xpt (s : State) : (drawn s).xpt = s.xpt :=
  (keep_drawn (Sub.refl _) (Keeps.refl _ s) : Keeps _ s ((drawn s))).same .xpt rfl
@[simp] theorem fr_drawn_prt (s : State) : (drawn s).prt = s.prt :=
  (keep_drawn (Sub.refl _) (Keeps.refl _ s) : Keeps _ s ((drawn s))).same .prt rfl
@[simp] theorem fr_drawn_twn (s : State) : (drawn s).twn = s.twn :=
  (keep_drawn (Sub.refl _) (Keeps.refl _ s) : Keeps _ s ((drawn s))).same .twn rfl
@[simp] theorem fr_drawn_out (s : State) : (drawn s).out = s.out :=
  (keep_drawn (Sub.refl _) (Keeps.refl _ s) : Keeps _ s ((drawn s))).same .out rfl
@[simp] theorem fr_drawn_now (s : State) : (drawn s).now = s.now :=
  (keep_drawn (Sub.refl _) (Keeps.refl _ s) : Keeps _ s ((drawn s))).now
@[simp] theorem fr_drawn_pending (s : State) : (drawn s).pending = s.pending :=
  (keep_drawn (Sub.refl _) (Keeps.refl _ s) : Keeps _ s ((drawn s))).pend
@[simp] theorem fr_deregisterHere_dev (s : State) (k' : Nat) : (deregisterHere s k').dev = s.dev :=
  (keep_deregisterHere (Sub.refl _) (Keeps.refl _ s) : Keeps _ s ((deregisterHere s k'))).same .dev rfl
@[simp] theorem fr_deregisterHere_fuses (s : State) (k' : Nat) : (deregisterHere s k').fuses = s.fuses :=
  (keep_deregisterHere (Sub.refl _) (Keeps.refl _ s) : Keeps _ s ((deregisterHere s k'))).same .fuses rfl
@[simp] theorem fr_deregisterHere_gai (s : State) (k' : Nat) : (deregisterHere s k').gai = s.gai :=
  (keep_deregisterHere (Sub.refl _) (Keeps.refl _ s) : Keeps _ s ((deregisterHere s k'))).same .gai rfl
@[simp] theorem fr_deregisterHere_pwr (s : State) (k' : Nat) : (deregisterHere s k').pwr = s.pwr :=
  (keep_deregisterHere (Sub.refl _) (Keeps.refl _ s) : Keeps _ s ((deregisterHere s k'))).same .pwr rfl
@[simp] theorem fr_deregisterHere_rst (s : State) (k' : Nat) : (deregisterHere s k').rst = s.rst :=
  (keep_deregisterHere (Sub.refl _) (Keeps.refl _ s) : Keeps _ s ((deregisterHere s k'))).same .rst rfl
@[simp] theorem fr_deregisterHere_tack (s : State) (k' : Nat) : (deregisterHere s k').tack = s.tack :=
  (keep_deregisterHere (Sub.refl _) (Keeps.refl _ s) : Keeps _ s ((deregisterHere s k'))).same .tack rfl
@[simp] theorem fr_deregisterHere_dic (s : State) (k' : Nat) : (deregisterHere s k').dic = s.dic :=
  (keep_deregisterHere (Sub.refl _) (Keeps.refl _ s) : Keeps _ s ((deregisterHere s k'))).same .dic rfl
@[simp] theorem fr_deregisterHere_pci (s : State) (k' : Nat) : (deregisterHere s k').pci = s.pci :=
  (keep_deregisterHere (Sub.refl _) (Keeps.refl _ s) : Keeps _ s ((deregisterHere s k'))).same .pci rfl
@[simp] theorem fr_deregisterHere_mgtDrops (s : State) (k' : Nat) : (deregisterHere s k').mgtDrops = s.mgtDrops :=
  (keep_deregisterHere (Sub.refl _) (Keeps.refl _ s) : Keeps _ s ((deregisterHere s k'))).same .mgtDrops rfl
@[simp] theorem fr_deregisterHere_cpx (s : State) (k' : Nat) : (deregisterHere s k').cpx = s.cpx :=
  (keep_deregisterHere (Sub.refl _) (Keeps.refl _ s) : Keeps _ s ((deregisterHere s k'))).same .cpx rfl
@[simp] theorem fr_deregisterHere_svc (s : State) (k' : Nat) : (deregisterHere s k').svc = s.svc :=
  (keep_deregisterHere (Sub.refl _) (Keeps.refl _ s) : Keeps _ s ((deregisterHere s k'))).same .svc rfl
@[simp] theorem fr_deregisterHere_key (s : State) (k' : Nat) : (deregisterHere s k').key = s.key :=
  (keep_deregisterHere (Sub.refl _) (Keeps.refl _ s) : Keeps _ s ((deregisterHere s k'))).same .key rfl
@[simp] theorem fr_deregisterHere_kpf (s : State) (k' : Nat) : (deregisterHere s k').kpf = s.kpf :=
  (keep_deregisterHere (Sub.refl _) (Keeps.refl _ s) : Keeps _ s ((deregisterHere s k'))).same .kpf rfl
@[simp] theorem fr_deregisterHere_clk (s : State) (k' : Nat) : (deregisterHere s k').clk = s.clk :=
  (keep_deregisterHere (Sub.refl _) (Keeps.refl _ s) : Keeps _ s ((deregisterHere s k'))).same .clk rfl
@[simp] theorem fr_deregisterHere_cal (s : State) (k' : Nat) : (deregisterHere s k').cal = s.cal :=
  (keep_deregisterHere (Sub.refl _) (Keeps.refl _ s) : Keeps _ s ((deregisterHere s k'))).same .cal rfl
@[simp] theorem fr_deregisterHere_sav (s : State) (k' : Nat) : (deregisterHere s k').sav = s.sav :=
  (keep_deregisterHere (Sub.refl _) (Keeps.refl _ s) : Keeps _ s ((deregisterHere s k'))).same .sav rfl
@[simp] theorem fr_deregisterHere_gov (s : State) (k' : Nat) : (deregisterHere s k').gov = s.gov :=
  (keep_deregisterHere (Sub.refl _) (Keeps.refl _ s) : Keeps _ s ((deregisterHere s k'))).same .gov rfl
@[simp] theorem fr_deregisterHere_dram (s : State) (k' : Nat) : (deregisterHere s k').dram = s.dram :=
  (keep_deregisterHere (Sub.refl _) (Keeps.refl _ s) : Keeps _ s ((deregisterHere s k'))).same .dram rfl
@[simp] theorem fr_deregisterHere_drc (s : State) (k' : Nat) : (deregisterHere s k').drc = s.drc :=
  (keep_deregisterHere (Sub.refl _) (Keeps.refl _ s) : Keeps _ s ((deregisterHere s k'))).same .drc rfl
@[simp] theorem fr_deregisterHere_grm (s : State) (k' : Nat) : (deregisterHere s k').grm = s.grm :=
  (keep_deregisterHere (Sub.refl _) (Keeps.refl _ s) : Keeps _ s ((deregisterHere s k'))).same .grm rfl
@[simp] theorem fr_deregisterHere_far (s : State) (k' : Nat) : (deregisterHere s k').far = s.far :=
  (keep_deregisterHere (Sub.refl _) (Keeps.refl _ s) : Keeps _ s ((deregisterHere s k'))).same .far rfl
@[simp] theorem fr_deregisterHere_stf (s : State) (k' : Nat) : (deregisterHere s k').stf = s.stf :=
  (keep_deregisterHere (Sub.refl _) (Keeps.refl _ s) : Keeps _ s ((deregisterHere s k'))).same .stf rfl
@[simp] theorem fr_deregisterHere_tie (s : State) (k' : Nat) : (deregisterHere s k').tie = s.tie :=
  (keep_deregisterHere (Sub.refl _) (Keeps.refl _ s) : Keeps _ s ((deregisterHere s k'))).same .tie rfl
@[simp] theorem fr_deregisterHere_mst (s : State) (k' : Nat) : (deregisterHere s k').mst = s.mst :=
  (keep_deregisterHere (Sub.refl _) (Keeps.refl _ s) : Keeps _ s ((deregisterHere s k'))).same .mst rfl
@[simp] theorem fr_deregisterHere_xpt (s : State) (k' : Nat) : (deregisterHere s k').xpt = s.xpt :=
  (keep_deregisterHere (Sub.refl _) (Keeps.refl _ s) : Keeps _ s ((deregisterHere s k'))).same .xpt rfl
@[simp] theorem fr_deregisterHere_prt (s : State) (k' : Nat) : (deregisterHere s k').prt = s.prt :=
  (keep_deregisterHere (Sub.refl _) (Keeps.refl _ s) : Keeps _ s ((deregisterHere s k'))).same .prt rfl
@[simp] theorem fr_deregisterHere_twn (s : State) (k' : Nat) : (deregisterHere s k').twn = s.twn :=
  (keep_deregisterHere (Sub.refl _) (Keeps.refl _ s) : Keeps _ s ((deregisterHere s k'))).same .twn rfl
@[simp] theorem fr_deregisterHere_draws (s : State) (k' : Nat) : (deregisterHere s k').draws = s.draws :=
  (keep_deregisterHere (Sub.refl _) (Keeps.refl _ s) : Keeps _ s ((deregisterHere s k'))).same .draws rfl
@[simp] theorem fr_deregisterHere_now (s : State) (k' : Nat) : (deregisterHere s k').now = s.now :=
  (keep_deregisterHere (Sub.refl _) (Keeps.refl _ s) : Keeps _ s ((deregisterHere s k'))).now
@[simp] theorem fr_deregisterHere_pending (s : State) (k' : Nat) : (deregisterHere s k').pending = s.pending :=
  (keep_deregisterHere (Sub.refl _) (Keeps.refl _ s) : Keeps _ s ((deregisterHere s k'))).pend
@[simp] theorem fr_deallocHere_dev (s : State) (e : Nat) (n : Nat) : (deallocHere s e n).dev = s.dev :=
  (keep_deallocHere (Sub.refl _) (Keeps.refl _ s) : Keeps _ s ((deallocHere s e n))).same .dev rfl
@[simp] theorem fr_deallocHere_fuses (s : State) (e : Nat) (n : Nat) : (deallocHere s e n).fuses = s.fuses :=
  (keep_deallocHere (Sub.refl _) (Keeps.refl _ s) : Keeps _ s ((deallocHere s e n))).same .fuses rfl
@[simp] theorem fr_deallocHere_gai (s : State) (e : Nat) (n : Nat) : (deallocHere s e n).gai = s.gai :=
  (keep_deallocHere (Sub.refl _) (Keeps.refl _ s) : Keeps _ s ((deallocHere s e n))).same .gai rfl
@[simp] theorem fr_deallocHere_pwr (s : State) (e : Nat) (n : Nat) : (deallocHere s e n).pwr = s.pwr :=
  (keep_deallocHere (Sub.refl _) (Keeps.refl _ s) : Keeps _ s ((deallocHere s e n))).same .pwr rfl
@[simp] theorem fr_deallocHere_rst (s : State) (e : Nat) (n : Nat) : (deallocHere s e n).rst = s.rst :=
  (keep_deallocHere (Sub.refl _) (Keeps.refl _ s) : Keeps _ s ((deallocHere s e n))).same .rst rfl
@[simp] theorem fr_deallocHere_tack (s : State) (e : Nat) (n : Nat) : (deallocHere s e n).tack = s.tack :=
  (keep_deallocHere (Sub.refl _) (Keeps.refl _ s) : Keeps _ s ((deallocHere s e n))).same .tack rfl
@[simp] theorem fr_deallocHere_dic (s : State) (e : Nat) (n : Nat) : (deallocHere s e n).dic = s.dic :=
  (keep_deallocHere (Sub.refl _) (Keeps.refl _ s) : Keeps _ s ((deallocHere s e n))).same .dic rfl
@[simp] theorem fr_deallocHere_pci (s : State) (e : Nat) (n : Nat) : (deallocHere s e n).pci = s.pci :=
  (keep_deallocHere (Sub.refl _) (Keeps.refl _ s) : Keeps _ s ((deallocHere s e n))).same .pci rfl
@[simp] theorem fr_deallocHere_mgtDrops (s : State) (e : Nat) (n : Nat) : (deallocHere s e n).mgtDrops = s.mgtDrops :=
  (keep_deallocHere (Sub.refl _) (Keeps.refl _ s) : Keeps _ s ((deallocHere s e n))).same .mgtDrops rfl
@[simp] theorem fr_deallocHere_cpx (s : State) (e : Nat) (n : Nat) : (deallocHere s e n).cpx = s.cpx :=
  (keep_deallocHere (Sub.refl _) (Keeps.refl _ s) : Keeps _ s ((deallocHere s e n))).same .cpx rfl
@[simp] theorem fr_deallocHere_svc (s : State) (e : Nat) (n : Nat) : (deallocHere s e n).svc = s.svc :=
  (keep_deallocHere (Sub.refl _) (Keeps.refl _ s) : Keeps _ s ((deallocHere s e n))).same .svc rfl
@[simp] theorem fr_deallocHere_key (s : State) (e : Nat) (n : Nat) : (deallocHere s e n).key = s.key :=
  (keep_deallocHere (Sub.refl _) (Keeps.refl _ s) : Keeps _ s ((deallocHere s e n))).same .key rfl
@[simp] theorem fr_deallocHere_kpf (s : State) (e : Nat) (n : Nat) : (deallocHere s e n).kpf = s.kpf :=
  (keep_deallocHere (Sub.refl _) (Keeps.refl _ s) : Keeps _ s ((deallocHere s e n))).same .kpf rfl
@[simp] theorem fr_deallocHere_clk (s : State) (e : Nat) (n : Nat) : (deallocHere s e n).clk = s.clk :=
  (keep_deallocHere (Sub.refl _) (Keeps.refl _ s) : Keeps _ s ((deallocHere s e n))).same .clk rfl
@[simp] theorem fr_deallocHere_cal (s : State) (e : Nat) (n : Nat) : (deallocHere s e n).cal = s.cal :=
  (keep_deallocHere (Sub.refl _) (Keeps.refl _ s) : Keeps _ s ((deallocHere s e n))).same .cal rfl
@[simp] theorem fr_deallocHere_sav (s : State) (e : Nat) (n : Nat) : (deallocHere s e n).sav = s.sav :=
  (keep_deallocHere (Sub.refl _) (Keeps.refl _ s) : Keeps _ s ((deallocHere s e n))).same .sav rfl
@[simp] theorem fr_deallocHere_gov (s : State) (e : Nat) (n : Nat) : (deallocHere s e n).gov = s.gov :=
  (keep_deallocHere (Sub.refl _) (Keeps.refl _ s) : Keeps _ s ((deallocHere s e n))).same .gov rfl
@[simp] theorem fr_deallocHere_drc (s : State) (e : Nat) (n : Nat) : (deallocHere s e n).drc = s.drc :=
  (keep_deallocHere (Sub.refl _) (Keeps.refl _ s) : Keeps _ s ((deallocHere s e n))).same .drc rfl
@[simp] theorem fr_deallocHere_grm (s : State) (e : Nat) (n : Nat) : (deallocHere s e n).grm = s.grm :=
  (keep_deallocHere (Sub.refl _) (Keeps.refl _ s) : Keeps _ s ((deallocHere s e n))).same .grm rfl
@[simp] theorem fr_deallocHere_far (s : State) (e : Nat) (n : Nat) : (deallocHere s e n).far = s.far :=
  (keep_deallocHere (Sub.refl _) (Keeps.refl _ s) : Keeps _ s ((deallocHere s e n))).same .far rfl
@[simp] theorem fr_deallocHere_mst (s : State) (e : Nat) (n : Nat) : (deallocHere s e n).mst = s.mst :=
  (keep_deallocHere (Sub.refl _) (Keeps.refl _ s) : Keeps _ s ((deallocHere s e n))).same .mst rfl
@[simp] theorem fr_deallocHere_xpt (s : State) (e : Nat) (n : Nat) : (deallocHere s e n).xpt = s.xpt :=
  (keep_deallocHere (Sub.refl _) (Keeps.refl _ s) : Keeps _ s ((deallocHere s e n))).same .xpt rfl
@[simp] theorem fr_deallocHere_prt (s : State) (e : Nat) (n : Nat) : (deallocHere s e n).prt = s.prt :=
  (keep_deallocHere (Sub.refl _) (Keeps.refl _ s) : Keeps _ s ((deallocHere s e n))).same .prt rfl
@[simp] theorem fr_deallocHere_twn (s : State) (e : Nat) (n : Nat) : (deallocHere s e n).twn = s.twn :=
  (keep_deallocHere (Sub.refl _) (Keeps.refl _ s) : Keeps _ s ((deallocHere s e n))).same .twn rfl
@[simp] theorem fr_deallocHere_draws (s : State) (e : Nat) (n : Nat) : (deallocHere s e n).draws = s.draws :=
  (keep_deallocHere (Sub.refl _) (Keeps.refl _ s) : Keeps _ s ((deallocHere s e n))).same .draws rfl
@[simp] theorem fr_deallocHere_now (s : State) (e : Nat) (n : Nat) : (deallocHere s e n).now = s.now :=
  (keep_deallocHere (Sub.refl _) (Keeps.refl _ s) : Keeps _ s ((deallocHere s e n))).now
@[simp] theorem fr_deallocHere_pending (s : State) (e : Nat) (n : Nat) : (deallocHere s e n).pending = s.pending :=
  (keep_deallocHere (Sub.refl _) (Keeps.refl _ s) : Keeps _ s ((deallocHere s e n))).pend
@[simp] theorem fr_snapshot_fuses (s : State) (cause : Nat) (rail : Nat) : (snapshot s cause rail).fuses = s.fuses :=
  (keep_snapshot (Sub.refl _) (Keeps.refl _ s) : Keeps _ s ((snapshot s cause rail))).same .fuses rfl
@[simp] theorem fr_snapshot_gai (s : State) (cause : Nat) (rail : Nat) : (snapshot s cause rail).gai = s.gai :=
  (keep_snapshot (Sub.refl _) (Keeps.refl _ s) : Keeps _ s ((snapshot s cause rail))).same .gai rfl
@[simp] theorem fr_snapshot_pwr (s : State) (cause : Nat) (rail : Nat) : (snapshot s cause rail).pwr = s.pwr :=
  (keep_snapshot (Sub.refl _) (Keeps.refl _ s) : Keeps _ s ((snapshot s cause rail))).same .pwr rfl
@[simp] theorem fr_snapshot_rst (s : State) (cause : Nat) (rail : Nat) : (snapshot s cause rail).rst = s.rst :=
  (keep_snapshot (Sub.refl _) (Keeps.refl _ s) : Keeps _ s ((snapshot s cause rail))).same .rst rfl
@[simp] theorem fr_snapshot_recd (s : State) (cause : Nat) (rail : Nat) : (snapshot s cause rail).recd = s.recd :=
  (keep_snapshot (Sub.refl _) (Keeps.refl _ s) : Keeps _ s ((snapshot s cause rail))).same .recd rfl
@[simp] theorem fr_snapshot_dic (s : State) (cause : Nat) (rail : Nat) : (snapshot s cause rail).dic = s.dic :=
  (keep_snapshot (Sub.refl _) (Keeps.refl _ s) : Keeps _ s ((snapshot s cause rail))).same .dic rfl
@[simp] theorem fr_snapshot_pci (s : State) (cause : Nat) (rail : Nat) : (snapshot s cause rail).pci = s.pci :=
  (keep_snapshot (Sub.refl _) (Keeps.refl _ s) : Keeps _ s ((snapshot s cause rail))).same .pci rfl
@[simp] theorem fr_snapshot_mgtDrops (s : State) (cause : Nat) (rail : Nat) : (snapshot s cause rail).mgtDrops = s.mgtDrops :=
  (keep_snapshot (Sub.refl _) (Keeps.refl _ s) : Keeps _ s ((snapshot s cause rail))).same .mgtDrops rfl
@[simp] theorem fr_snapshot_cpx (s : State) (cause : Nat) (rail : Nat) : (snapshot s cause rail).cpx = s.cpx :=
  (keep_snapshot (Sub.refl _) (Keeps.refl _ s) : Keeps _ s ((snapshot s cause rail))).same .cpx rfl
@[simp] theorem fr_snapshot_svc (s : State) (cause : Nat) (rail : Nat) : (snapshot s cause rail).svc = s.svc :=
  (keep_snapshot (Sub.refl _) (Keeps.refl _ s) : Keeps _ s ((snapshot s cause rail))).same .svc rfl
@[simp] theorem fr_snapshot_key (s : State) (cause : Nat) (rail : Nat) : (snapshot s cause rail).key = s.key :=
  (keep_snapshot (Sub.refl _) (Keeps.refl _ s) : Keeps _ s ((snapshot s cause rail))).same .key rfl
@[simp] theorem fr_snapshot_kpf (s : State) (cause : Nat) (rail : Nat) : (snapshot s cause rail).kpf = s.kpf :=
  (keep_snapshot (Sub.refl _) (Keeps.refl _ s) : Keeps _ s ((snapshot s cause rail))).same .kpf rfl
@[simp] theorem fr_snapshot_clk (s : State) (cause : Nat) (rail : Nat) : (snapshot s cause rail).clk = s.clk :=
  (keep_snapshot (Sub.refl _) (Keeps.refl _ s) : Keeps _ s ((snapshot s cause rail))).same .clk rfl
@[simp] theorem fr_snapshot_cal (s : State) (cause : Nat) (rail : Nat) : (snapshot s cause rail).cal = s.cal :=
  (keep_snapshot (Sub.refl _) (Keeps.refl _ s) : Keeps _ s ((snapshot s cause rail))).same .cal rfl
@[simp] theorem fr_snapshot_sav (s : State) (cause : Nat) (rail : Nat) : (snapshot s cause rail).sav = s.sav :=
  (keep_snapshot (Sub.refl _) (Keeps.refl _ s) : Keeps _ s ((snapshot s cause rail))).same .sav rfl
@[simp] theorem fr_snapshot_gov (s : State) (cause : Nat) (rail : Nat) : (snapshot s cause rail).gov = s.gov :=
  (keep_snapshot (Sub.refl _) (Keeps.refl _ s) : Keeps _ s ((snapshot s cause rail))).same .gov rfl
@[simp] theorem fr_snapshot_maps (s : State) (cause : Nat) (rail : Nat) : (snapshot s cause rail).maps = s.maps :=
  (keep_snapshot (Sub.refl _) (Keeps.refl _ s) : Keeps _ s ((snapshot s cause rail))).same .maps rfl
@[simp] theorem fr_snapshot_log (s : State) (cause : Nat) (rail : Nat) : (snapshot s cause rail).log = s.log :=
  (keep_snapshot (Sub.refl _) (Keeps.refl _ s) : Keeps _ s ((snapshot s cause rail))).same .log rfl
@[simp] theorem fr_snapshot_trn (s : State) (cause : Nat) (rail : Nat) : (snapshot s cause rail).trn = s.trn :=
  (keep_snapshot (Sub.refl _) (Keeps.refl _ s) : Keeps _ s ((snapshot s cause rail))).same .trn rfl
@[simp] theorem fr_snapshot_dram (s : State) (cause : Nat) (rail : Nat) : (snapshot s cause rail).dram = s.dram :=
  (keep_snapshot (Sub.refl _) (Keeps.refl _ s) : Keeps _ s ((snapshot s cause rail))).same .dram rfl
@[simp] theorem fr_snapshot_drc (s : State) (cause : Nat) (rail : Nat) : (snapshot s cause rail).drc = s.drc :=
  (keep_snapshot (Sub.refl _) (Keeps.refl _ s) : Keeps _ s ((snapshot s cause rail))).same .drc rfl
@[simp] theorem fr_snapshot_grm (s : State) (cause : Nat) (rail : Nat) : (snapshot s cause rail).grm = s.grm :=
  (keep_snapshot (Sub.refl _) (Keeps.refl _ s) : Keeps _ s ((snapshot s cause rail))).same .grm rfl
@[simp] theorem fr_snapshot_far (s : State) (cause : Nat) (rail : Nat) : (snapshot s cause rail).far = s.far :=
  (keep_snapshot (Sub.refl _) (Keeps.refl _ s) : Keeps _ s ((snapshot s cause rail))).same .far rfl
@[simp] theorem fr_snapshot_stf (s : State) (cause : Nat) (rail : Nat) : (snapshot s cause rail).stf = s.stf :=
  (keep_snapshot (Sub.refl _) (Keeps.refl _ s) : Keeps _ s ((snapshot s cause rail))).same .stf rfl
@[simp] theorem fr_snapshot_tie (s : State) (cause : Nat) (rail : Nat) : (snapshot s cause rail).tie = s.tie :=
  (keep_snapshot (Sub.refl _) (Keeps.refl _ s) : Keeps _ s ((snapshot s cause rail))).same .tie rfl
@[simp] theorem fr_snapshot_mst (s : State) (cause : Nat) (rail : Nat) : (snapshot s cause rail).mst = s.mst :=
  (keep_snapshot (Sub.refl _) (Keeps.refl _ s) : Keeps _ s ((snapshot s cause rail))).same .mst rfl
@[simp] theorem fr_snapshot_xpt (s : State) (cause : Nat) (rail : Nat) : (snapshot s cause rail).xpt = s.xpt :=
  (keep_snapshot (Sub.refl _) (Keeps.refl _ s) : Keeps _ s ((snapshot s cause rail))).same .xpt rfl
@[simp] theorem fr_snapshot_prt (s : State) (cause : Nat) (rail : Nat) : (snapshot s cause rail).prt = s.prt :=
  (keep_snapshot (Sub.refl _) (Keeps.refl _ s) : Keeps _ s ((snapshot s cause rail))).same .prt rfl
@[simp] theorem fr_snapshot_twn (s : State) (cause : Nat) (rail : Nat) : (snapshot s cause rail).twn = s.twn :=
  (keep_snapshot (Sub.refl _) (Keeps.refl _ s) : Keeps _ s ((snapshot s cause rail))).same .twn rfl
@[simp] theorem fr_snapshot_draws (s : State) (cause : Nat) (rail : Nat) : (snapshot s cause rail).draws = s.draws :=
  (keep_snapshot (Sub.refl _) (Keeps.refl _ s) : Keeps _ s ((snapshot s cause rail))).same .draws rfl
@[simp] theorem fr_snapshot_out (s : State) (cause : Nat) (rail : Nat) : (snapshot s cause rail).out = s.out :=
  (keep_snapshot (Sub.refl _) (Keeps.refl _ s) : Keeps _ s ((snapshot s cause rail))).same .out rfl
@[simp] theorem fr_snapshot_now (s : State) (cause : Nat) (rail : Nat) : (snapshot s cause rail).now = s.now :=
  (keep_snapshot (Sub.refl _) (Keeps.refl _ s) : Keeps _ s ((snapshot s cause rail))).now
@[simp] theorem fr_snapshot_pending (s : State) (cause : Nat) (rail : Nat) : (snapshot s cause rail).pending = s.pending :=
  (keep_snapshot (Sub.refl _) (Keeps.refl _ s) : Keeps _ s ((snapshot s cause rail))).pend
@[simp] theorem fr_setRetain_dev (s : State) (warm : Bool) (latched : Bool) : (setRetain s warm latched).dev = s.dev :=
  (keep_setRetain (Sub.refl _) (Keeps.refl _ s) : Keeps _ s ((setRetain s warm latched))).same .dev rfl
@[simp] theorem fr_setRetain_fuses (s : State) (warm : Bool) (latched : Bool) : (setRetain s warm latched).fuses = s.fuses :=
  (keep_setRetain (Sub.refl _) (Keeps.refl _ s) : Keeps _ s ((setRetain s warm latched))).same .fuses rfl
@[simp] theorem fr_setRetain_gai (s : State) (warm : Bool) (latched : Bool) : (setRetain s warm latched).gai = s.gai :=
  (keep_setRetain (Sub.refl _) (Keeps.refl _ s) : Keeps _ s ((setRetain s warm latched))).same .gai rfl
@[simp] theorem fr_setRetain_pwr (s : State) (warm : Bool) (latched : Bool) : (setRetain s warm latched).pwr = s.pwr :=
  (keep_setRetain (Sub.refl _) (Keeps.refl _ s) : Keeps _ s ((setRetain s warm latched))).same .pwr rfl
@[simp] theorem fr_setRetain_rst (s : State) (warm : Bool) (latched : Bool) : (setRetain s warm latched).rst = s.rst :=
  (keep_setRetain (Sub.refl _) (Keeps.refl _ s) : Keeps _ s ((setRetain s warm latched))).same .rst rfl
@[simp] theorem fr_setRetain_recd (s : State) (warm : Bool) (latched : Bool) : (setRetain s warm latched).recd = s.recd :=
  (keep_setRetain (Sub.refl _) (Keeps.refl _ s) : Keeps _ s ((setRetain s warm latched))).same .recd rfl
@[simp] theorem fr_setRetain_dic (s : State) (warm : Bool) (latched : Bool) : (setRetain s warm latched).dic = s.dic :=
  (keep_setRetain (Sub.refl _) (Keeps.refl _ s) : Keeps _ s ((setRetain s warm latched))).same .dic rfl
@[simp] theorem fr_setRetain_pci (s : State) (warm : Bool) (latched : Bool) : (setRetain s warm latched).pci = s.pci :=
  (keep_setRetain (Sub.refl _) (Keeps.refl _ s) : Keeps _ s ((setRetain s warm latched))).same .pci rfl
@[simp] theorem fr_setRetain_mgtDrops (s : State) (warm : Bool) (latched : Bool) : (setRetain s warm latched).mgtDrops = s.mgtDrops :=
  (keep_setRetain (Sub.refl _) (Keeps.refl _ s) : Keeps _ s ((setRetain s warm latched))).same .mgtDrops rfl
@[simp] theorem fr_setRetain_cpx (s : State) (warm : Bool) (latched : Bool) : (setRetain s warm latched).cpx = s.cpx :=
  (keep_setRetain (Sub.refl _) (Keeps.refl _ s) : Keeps _ s ((setRetain s warm latched))).same .cpx rfl
@[simp] theorem fr_setRetain_svc (s : State) (warm : Bool) (latched : Bool) : (setRetain s warm latched).svc = s.svc :=
  (keep_setRetain (Sub.refl _) (Keeps.refl _ s) : Keeps _ s ((setRetain s warm latched))).same .svc rfl
@[simp] theorem fr_setRetain_key (s : State) (warm : Bool) (latched : Bool) : (setRetain s warm latched).key = s.key :=
  (keep_setRetain (Sub.refl _) (Keeps.refl _ s) : Keeps _ s ((setRetain s warm latched))).same .key rfl
@[simp] theorem fr_setRetain_kpf (s : State) (warm : Bool) (latched : Bool) : (setRetain s warm latched).kpf = s.kpf :=
  (keep_setRetain (Sub.refl _) (Keeps.refl _ s) : Keeps _ s ((setRetain s warm latched))).same .kpf rfl
@[simp] theorem fr_setRetain_clk (s : State) (warm : Bool) (latched : Bool) : (setRetain s warm latched).clk = s.clk :=
  (keep_setRetain (Sub.refl _) (Keeps.refl _ s) : Keeps _ s ((setRetain s warm latched))).same .clk rfl
@[simp] theorem fr_setRetain_cal (s : State) (warm : Bool) (latched : Bool) : (setRetain s warm latched).cal = s.cal :=
  (keep_setRetain (Sub.refl _) (Keeps.refl _ s) : Keeps _ s ((setRetain s warm latched))).same .cal rfl
@[simp] theorem fr_setRetain_sav (s : State) (warm : Bool) (latched : Bool) : (setRetain s warm latched).sav = s.sav :=
  (keep_setRetain (Sub.refl _) (Keeps.refl _ s) : Keeps _ s ((setRetain s warm latched))).same .sav rfl
@[simp] theorem fr_setRetain_gov (s : State) (warm : Bool) (latched : Bool) : (setRetain s warm latched).gov = s.gov :=
  (keep_setRetain (Sub.refl _) (Keeps.refl _ s) : Keeps _ s ((setRetain s warm latched))).same .gov rfl
@[simp] theorem fr_setRetain_maps (s : State) (warm : Bool) (latched : Bool) : (setRetain s warm latched).maps = s.maps :=
  (keep_setRetain (Sub.refl _) (Keeps.refl _ s) : Keeps _ s ((setRetain s warm latched))).same .maps rfl
@[simp] theorem fr_setRetain_log (s : State) (warm : Bool) (latched : Bool) : (setRetain s warm latched).log = s.log :=
  (keep_setRetain (Sub.refl _) (Keeps.refl _ s) : Keeps _ s ((setRetain s warm latched))).same .log rfl
@[simp] theorem fr_setRetain_trn (s : State) (warm : Bool) (latched : Bool) : (setRetain s warm latched).trn = s.trn :=
  (keep_setRetain (Sub.refl _) (Keeps.refl _ s) : Keeps _ s ((setRetain s warm latched))).same .trn rfl
@[simp] theorem fr_setRetain_dram (s : State) (warm : Bool) (latched : Bool) : (setRetain s warm latched).dram = s.dram :=
  (keep_setRetain (Sub.refl _) (Keeps.refl _ s) : Keeps _ s ((setRetain s warm latched))).same .dram rfl
@[simp] theorem fr_setRetain_drc (s : State) (warm : Bool) (latched : Bool) : (setRetain s warm latched).drc = s.drc :=
  (keep_setRetain (Sub.refl _) (Keeps.refl _ s) : Keeps _ s ((setRetain s warm latched))).same .drc rfl
@[simp] theorem fr_setRetain_grm (s : State) (warm : Bool) (latched : Bool) : (setRetain s warm latched).grm = s.grm :=
  (keep_setRetain (Sub.refl _) (Keeps.refl _ s) : Keeps _ s ((setRetain s warm latched))).same .grm rfl
@[simp] theorem fr_setRetain_far (s : State) (warm : Bool) (latched : Bool) : (setRetain s warm latched).far = s.far :=
  (keep_setRetain (Sub.refl _) (Keeps.refl _ s) : Keeps _ s ((setRetain s warm latched))).same .far rfl
@[simp] theorem fr_setRetain_stf (s : State) (warm : Bool) (latched : Bool) : (setRetain s warm latched).stf = s.stf :=
  (keep_setRetain (Sub.refl _) (Keeps.refl _ s) : Keeps _ s ((setRetain s warm latched))).same .stf rfl
@[simp] theorem fr_setRetain_tie (s : State) (warm : Bool) (latched : Bool) : (setRetain s warm latched).tie = s.tie :=
  (keep_setRetain (Sub.refl _) (Keeps.refl _ s) : Keeps _ s ((setRetain s warm latched))).same .tie rfl
@[simp] theorem fr_setRetain_mst (s : State) (warm : Bool) (latched : Bool) : (setRetain s warm latched).mst = s.mst :=
  (keep_setRetain (Sub.refl _) (Keeps.refl _ s) : Keeps _ s ((setRetain s warm latched))).same .mst rfl
@[simp] theorem fr_setRetain_xpt (s : State) (warm : Bool) (latched : Bool) : (setRetain s warm latched).xpt = s.xpt :=
  (keep_setRetain (Sub.refl _) (Keeps.refl _ s) : Keeps _ s ((setRetain s warm latched))).same .xpt rfl
@[simp] theorem fr_setRetain_prt (s : State) (warm : Bool) (latched : Bool) : (setRetain s warm latched).prt = s.prt :=
  (keep_setRetain (Sub.refl _) (Keeps.refl _ s) : Keeps _ s ((setRetain s warm latched))).same .prt rfl
@[simp] theorem fr_setRetain_twn (s : State) (warm : Bool) (latched : Bool) : (setRetain s warm latched).twn = s.twn :=
  (keep_setRetain (Sub.refl _) (Keeps.refl _ s) : Keeps _ s ((setRetain s warm latched))).same .twn rfl
@[simp] theorem fr_setRetain_draws (s : State) (warm : Bool) (latched : Bool) : (setRetain s warm latched).draws = s.draws :=
  (keep_setRetain (Sub.refl _) (Keeps.refl _ s) : Keeps _ s ((setRetain s warm latched))).same .draws rfl
@[simp] theorem fr_setRetain_out (s : State) (warm : Bool) (latched : Bool) : (setRetain s warm latched).out = s.out :=
  (keep_setRetain (Sub.refl _) (Keeps.refl _ s) : Keeps _ s ((setRetain s warm latched))).same .out rfl
@[simp] theorem fr_setRetain_now (s : State) (warm : Bool) (latched : Bool) : (setRetain s warm latched).now = s.now :=
  (keep_setRetain (Sub.refl _) (Keeps.refl _ s) : Keeps _ s ((setRetain s warm latched))).now
@[simp] theorem fr_setRetain_pending (s : State) (warm : Bool) (latched : Bool) : (setRetain s warm latched).pending = s.pending :=
  (keep_setRetain (Sub.refl _) (Keeps.refl _ s) : Keeps _ s ((setRetain s warm latched))).pend
@[simp] theorem fr_coldEffect_dev (s : State) (q : ResetReq) : (coldEffect s q).dev = s.dev :=
  (keep_coldEffect (Sub.refl _) (Keeps.refl _ s) : Keeps _ s ((coldEffect s q))).same .dev rfl
@[simp] theorem fr_coldEffect_fuses (s : State) (q : ResetReq) : (coldEffect s q).fuses = s.fuses :=
  (keep_coldEffect (Sub.refl _) (Keeps.refl _ s) : Keeps _ s ((coldEffect s q))).same .fuses rfl
@[simp] theorem fr_coldEffect_pwr (s : State) (q : ResetReq) : (coldEffect s q).pwr = s.pwr :=
  (keep_coldEffect (Sub.refl _) (Keeps.refl _ s) : Keeps _ s ((coldEffect s q))).same .pwr rfl
@[simp] theorem fr_coldEffect_clk (s : State) (q : ResetReq) : (coldEffect s q).clk = s.clk :=
  (keep_coldEffect (Sub.refl _) (Keeps.refl _ s) : Keeps _ s ((coldEffect s q))).same .clk rfl
@[simp] theorem fr_coldEffect_draws (s : State) (q : ResetReq) : (coldEffect s q).draws = s.draws :=
  (keep_coldEffect (Sub.refl _) (Keeps.refl _ s) : Keeps _ s ((coldEffect s q))).same .draws rfl
@[simp] theorem fr_coldEffect_now (s : State) (q : ResetReq) : (coldEffect s q).now = s.now :=
  (keep_coldEffect (Sub.refl _) (Keeps.refl _ s) : Keeps _ s ((coldEffect s q))).now
@[simp] theorem fr_coldEffect_pending (s : State) (q : ResetReq) : (coldEffect s q).pending = s.pending :=
  (keep_coldEffect (Sub.refl _) (Keeps.refl _ s) : Keeps _ s ((coldEffect s q))).pend
@[simp] theorem fr_marginsBack_dev (s : State) : (marginsBack s).dev = s.dev :=
  (keep_marginsBack (Sub.refl _) (Keeps.refl _ s) : Keeps _ s ((marginsBack s))).same .dev rfl
@[simp] theorem fr_gaitDrop_dev (s : State) : (gaitDrop s).dev = s.dev :=
  (keep_gaitDrop (Sub.refl _) (Keeps.refl _ s) : Keeps _ s ((gaitDrop s))).same .dev rfl
@[simp] theorem fr_gaitDrop_fuses (s : State) : (gaitDrop s).fuses = s.fuses :=
  (keep_gaitDrop (Sub.refl _) (Keeps.refl _ s) : Keeps _ s ((gaitDrop s))).same .fuses rfl
@[simp] theorem fr_gaitDrop_pwr (s : State) : (gaitDrop s).pwr = s.pwr :=
  (keep_gaitDrop (Sub.refl _) (Keeps.refl _ s) : Keeps _ s ((gaitDrop s))).same .pwr rfl
@[simp] theorem fr_gaitDrop_rst (s : State) : (gaitDrop s).rst = s.rst :=
  (keep_gaitDrop (Sub.refl _) (Keeps.refl _ s) : Keeps _ s ((gaitDrop s))).same .rst rfl
@[simp] theorem fr_gaitDrop_tack (s : State) : (gaitDrop s).tack = s.tack :=
  (keep_gaitDrop (Sub.refl _) (Keeps.refl _ s) : Keeps _ s ((gaitDrop s))).same .tack rfl
@[simp] theorem fr_gaitDrop_recd (s : State) : (gaitDrop s).recd = s.recd :=
  (keep_gaitDrop (Sub.refl _) (Keeps.refl _ s) : Keeps _ s ((gaitDrop s))).same .recd rfl
@[simp] theorem fr_gaitDrop_dic (s : State) : (gaitDrop s).dic = s.dic :=
  (keep_gaitDrop (Sub.refl _) (Keeps.refl _ s) : Keeps _ s ((gaitDrop s))).same .dic rfl
@[simp] theorem fr_gaitDrop_pci (s : State) : (gaitDrop s).pci = s.pci :=
  (keep_gaitDrop (Sub.refl _) (Keeps.refl _ s) : Keeps _ s ((gaitDrop s))).same .pci rfl
@[simp] theorem fr_gaitDrop_mgtDrops (s : State) : (gaitDrop s).mgtDrops = s.mgtDrops :=
  (keep_gaitDrop (Sub.refl _) (Keeps.refl _ s) : Keeps _ s ((gaitDrop s))).same .mgtDrops rfl
@[simp] theorem fr_gaitDrop_cpx (s : State) : (gaitDrop s).cpx = s.cpx :=
  (keep_gaitDrop (Sub.refl _) (Keeps.refl _ s) : Keeps _ s ((gaitDrop s))).same .cpx rfl
@[simp] theorem fr_gaitDrop_svc (s : State) : (gaitDrop s).svc = s.svc :=
  (keep_gaitDrop (Sub.refl _) (Keeps.refl _ s) : Keeps _ s ((gaitDrop s))).same .svc rfl
@[simp] theorem fr_gaitDrop_key (s : State) : (gaitDrop s).key = s.key :=
  (keep_gaitDrop (Sub.refl _) (Keeps.refl _ s) : Keeps _ s ((gaitDrop s))).same .key rfl
@[simp] theorem fr_gaitDrop_kpf (s : State) : (gaitDrop s).kpf = s.kpf :=
  (keep_gaitDrop (Sub.refl _) (Keeps.refl _ s) : Keeps _ s ((gaitDrop s))).same .kpf rfl
@[simp] theorem fr_gaitDrop_clk (s : State) : (gaitDrop s).clk = s.clk :=
  (keep_gaitDrop (Sub.refl _) (Keeps.refl _ s) : Keeps _ s ((gaitDrop s))).same .clk rfl
@[simp] theorem fr_gaitDrop_cal (s : State) : (gaitDrop s).cal = s.cal :=
  (keep_gaitDrop (Sub.refl _) (Keeps.refl _ s) : Keeps _ s ((gaitDrop s))).same .cal rfl
@[simp] theorem fr_gaitDrop_sav (s : State) : (gaitDrop s).sav = s.sav :=
  (keep_gaitDrop (Sub.refl _) (Keeps.refl _ s) : Keeps _ s ((gaitDrop s))).same .sav rfl
@[simp] theorem fr_gaitDrop_gov (s : State) : (gaitDrop s).gov = s.gov :=
  (keep_gaitDrop (Sub.refl _) (Keeps.refl _ s) : Keeps _ s ((gaitDrop s))).same .gov rfl
@[simp] theorem fr_gaitDrop_maps (s : State) : (gaitDrop s).maps = s.maps :=
  (keep_gaitDrop (Sub.refl _) (Keeps.refl _ s) : Keeps _ s ((gaitDrop s))).same .maps rfl
@[simp] theorem fr_gaitDrop_log (s : State) : (gaitDrop s).log = s.log :=
  (keep_gaitDrop (Sub.refl _) (Keeps.refl _ s) : Keeps _ s ((gaitDrop s))).same .log rfl
@[simp] theorem fr_gaitDrop_trn (s : State) : (gaitDrop s).trn = s.trn :=
  (keep_gaitDrop (Sub.refl _) (Keeps.refl _ s) : Keeps _ s ((gaitDrop s))).same .trn rfl
@[simp] theorem fr_gaitDrop_dram (s : State) : (gaitDrop s).dram = s.dram :=
  (keep_gaitDrop (Sub.refl _) (Keeps.refl _ s) : Keeps _ s ((gaitDrop s))).same .dram rfl
@[simp] theorem fr_gaitDrop_drc (s : State) : (gaitDrop s).drc = s.drc :=
  (keep_gaitDrop (Sub.refl _) (Keeps.refl _ s) : Keeps _ s ((gaitDrop s))).same .drc rfl
@[simp] theorem fr_gaitDrop_grm (s : State) : (gaitDrop s).grm = s.grm :=
  (keep_gaitDrop (Sub.refl _) (Keeps.refl _ s) : Keeps _ s ((gaitDrop s))).same .grm rfl
@[simp] theorem fr_gaitDrop_far (s : State) : (gaitDrop s).far = s.far :=
  (keep_gaitDrop (Sub.refl _) (Keeps.refl _ s) : Keeps _ s ((gaitDrop s))).same .far rfl
@[simp] theorem fr_gaitDrop_stf (s : State) : (gaitDrop s).stf = s.stf :=
  (keep_gaitDrop (Sub.refl _) (Keeps.refl _ s) : Keeps _ s ((gaitDrop s))).same .stf rfl
@[simp] theorem fr_gaitDrop_tie (s : State) : (gaitDrop s).tie = s.tie :=
  (keep_gaitDrop (Sub.refl _) (Keeps.refl _ s) : Keeps _ s ((gaitDrop s))).same .tie rfl
@[simp] theorem fr_gaitDrop_mst (s : State) : (gaitDrop s).mst = s.mst :=
  (keep_gaitDrop (Sub.refl _) (Keeps.refl _ s) : Keeps _ s ((gaitDrop s))).same .mst rfl
@[simp] theorem fr_gaitDrop_xpt (s : State) : (gaitDrop s).xpt = s.xpt :=
  (keep_gaitDrop (Sub.refl _) (Keeps.refl _ s) : Keeps _ s ((gaitDrop s))).same .xpt rfl
@[simp] theorem fr_gaitDrop_prt (s : State) : (gaitDrop s).prt = s.prt :=
  (keep_gaitDrop (Sub.refl _) (Keeps.refl _ s) : Keeps _ s ((gaitDrop s))).same .prt rfl
@[simp] theorem fr_gaitDrop_twn (s : State) : (gaitDrop s).twn = s.twn :=
  (keep_gaitDrop (Sub.refl _) (Keeps.refl _ s) : Keeps _ s ((gaitDrop s))).same .twn rfl
@[simp] theorem fr_gaitDrop_draws (s : State) : (gaitDrop s).draws = s.draws :=
  (keep_gaitDrop (Sub.refl _) (Keeps.refl _ s) : Keeps _ s ((gaitDrop s))).same .draws rfl
@[simp] theorem fr_gaitDrop_out (s : State) : (gaitDrop s).out = s.out :=
  (keep_gaitDrop (Sub.refl _) (Keeps.refl _ s) : Keeps _ s ((gaitDrop s))).same .out rfl
@[simp] theorem fr_gaitDrop_now (s : State) : (gaitDrop s).now = s.now :=
  (keep_gaitDrop (Sub.refl _) (Keeps.refl _ s) : Keeps _ s ((gaitDrop s))).now
@[simp] theorem fr_gaitDrop_pending (s : State) : (gaitDrop s).pending = s.pending :=
  (keep_gaitDrop (Sub.refl _) (Keeps.refl _ s) : Keeps _ s ((gaitDrop s))).pend
@[simp] theorem fr_showFar_far (s : State) (n : Nat) : (showFar s n).far = s.far :=
  (keep_showFar (Sub.refl _) (Keeps.refl _ s) : Keeps _ s ((showFar s n))).same .far rfl
@[simp] theorem fr_revokeTokens_dev (s : State) : (revokeTokens s).dev = s.dev :=
  (keep_revokeTokens (Sub.refl _) (Keeps.refl _ s) : Keeps _ s ((revokeTokens s))).same .dev rfl
@[simp] theorem fr_holdWriters_dev (s : State) : (holdWriters s).dev = s.dev :=
  (keep_holdWriters (Sub.refl _) (Keeps.refl _ s) : Keeps _ s ((holdWriters s))).same .dev rfl
@[simp] theorem fr_stopShaft_dev (s : State) : (stopShaft s).dev = s.dev :=
  (keep_stopShaft (Sub.refl _) (Keeps.refl _ s) : Keeps _ s ((stopShaft s))).same .dev rfl
@[simp] theorem fr_stopShaft_fuses (s : State) : (stopShaft s).fuses = s.fuses :=
  (keep_stopShaft (Sub.refl _) (Keeps.refl _ s) : Keeps _ s ((stopShaft s))).same .fuses rfl
@[simp] theorem fr_stopShaft_gai (s : State) : (stopShaft s).gai = s.gai :=
  (keep_stopShaft (Sub.refl _) (Keeps.refl _ s) : Keeps _ s ((stopShaft s))).same .gai rfl
@[simp] theorem fr_stopShaft_pwr (s : State) : (stopShaft s).pwr = s.pwr :=
  (keep_stopShaft (Sub.refl _) (Keeps.refl _ s) : Keeps _ s ((stopShaft s))).same .pwr rfl
@[simp] theorem fr_stopShaft_rst (s : State) : (stopShaft s).rst = s.rst :=
  (keep_stopShaft (Sub.refl _) (Keeps.refl _ s) : Keeps _ s ((stopShaft s))).same .rst rfl
@[simp] theorem fr_stopShaft_tack (s : State) : (stopShaft s).tack = s.tack :=
  (keep_stopShaft (Sub.refl _) (Keeps.refl _ s) : Keeps _ s ((stopShaft s))).same .tack rfl
@[simp] theorem fr_stopShaft_recd (s : State) : (stopShaft s).recd = s.recd :=
  (keep_stopShaft (Sub.refl _) (Keeps.refl _ s) : Keeps _ s ((stopShaft s))).same .recd rfl
@[simp] theorem fr_stopShaft_dic (s : State) : (stopShaft s).dic = s.dic :=
  (keep_stopShaft (Sub.refl _) (Keeps.refl _ s) : Keeps _ s ((stopShaft s))).same .dic rfl
@[simp] theorem fr_stopShaft_pci (s : State) : (stopShaft s).pci = s.pci :=
  (keep_stopShaft (Sub.refl _) (Keeps.refl _ s) : Keeps _ s ((stopShaft s))).same .pci rfl
@[simp] theorem fr_stopShaft_mgtDrops (s : State) : (stopShaft s).mgtDrops = s.mgtDrops :=
  (keep_stopShaft (Sub.refl _) (Keeps.refl _ s) : Keeps _ s ((stopShaft s))).same .mgtDrops rfl
@[simp] theorem fr_stopShaft_cpx (s : State) : (stopShaft s).cpx = s.cpx :=
  (keep_stopShaft (Sub.refl _) (Keeps.refl _ s) : Keeps _ s ((stopShaft s))).same .cpx rfl
@[simp] theorem fr_stopShaft_svc (s : State) : (stopShaft s).svc = s.svc :=
  (keep_stopShaft (Sub.refl _) (Keeps.refl _ s) : Keeps _ s ((stopShaft s))).same .svc rfl
@[simp] theorem fr_stopShaft_key (s : State) : (stopShaft s).key = s.key :=
  (keep_stopShaft (Sub.refl _) (Keeps.refl _ s) : Keeps _ s ((stopShaft s))).same .key rfl
@[simp] theorem fr_stopShaft_kpf (s : State) : (stopShaft s).kpf = s.kpf :=
  (keep_stopShaft (Sub.refl _) (Keeps.refl _ s) : Keeps _ s ((stopShaft s))).same .kpf rfl
@[simp] theorem fr_stopShaft_clk (s : State) : (stopShaft s).clk = s.clk :=
  (keep_stopShaft (Sub.refl _) (Keeps.refl _ s) : Keeps _ s ((stopShaft s))).same .clk rfl
@[simp] theorem fr_stopShaft_cal (s : State) : (stopShaft s).cal = s.cal :=
  (keep_stopShaft (Sub.refl _) (Keeps.refl _ s) : Keeps _ s ((stopShaft s))).same .cal rfl
@[simp] theorem fr_stopShaft_sav (s : State) : (stopShaft s).sav = s.sav :=
  (keep_stopShaft (Sub.refl _) (Keeps.refl _ s) : Keeps _ s ((stopShaft s))).same .sav rfl
@[simp] theorem fr_stopShaft_gov (s : State) : (stopShaft s).gov = s.gov :=
  (keep_stopShaft (Sub.refl _) (Keeps.refl _ s) : Keeps _ s ((stopShaft s))).same .gov rfl
@[simp] theorem fr_stopShaft_maps (s : State) : (stopShaft s).maps = s.maps :=
  (keep_stopShaft (Sub.refl _) (Keeps.refl _ s) : Keeps _ s ((stopShaft s))).same .maps rfl
@[simp] theorem fr_stopShaft_log (s : State) : (stopShaft s).log = s.log :=
  (keep_stopShaft (Sub.refl _) (Keeps.refl _ s) : Keeps _ s ((stopShaft s))).same .log rfl
@[simp] theorem fr_stopShaft_trn (s : State) : (stopShaft s).trn = s.trn :=
  (keep_stopShaft (Sub.refl _) (Keeps.refl _ s) : Keeps _ s ((stopShaft s))).same .trn rfl
@[simp] theorem fr_stopShaft_dram (s : State) : (stopShaft s).dram = s.dram :=
  (keep_stopShaft (Sub.refl _) (Keeps.refl _ s) : Keeps _ s ((stopShaft s))).same .dram rfl
@[simp] theorem fr_stopShaft_drc (s : State) : (stopShaft s).drc = s.drc :=
  (keep_stopShaft (Sub.refl _) (Keeps.refl _ s) : Keeps _ s ((stopShaft s))).same .drc rfl
@[simp] theorem fr_stopShaft_grm (s : State) : (stopShaft s).grm = s.grm :=
  (keep_stopShaft (Sub.refl _) (Keeps.refl _ s) : Keeps _ s ((stopShaft s))).same .grm rfl
@[simp] theorem fr_stopShaft_far (s : State) : (stopShaft s).far = s.far :=
  (keep_stopShaft (Sub.refl _) (Keeps.refl _ s) : Keeps _ s ((stopShaft s))).same .far rfl
@[simp] theorem fr_stopShaft_stf (s : State) : (stopShaft s).stf = s.stf :=
  (keep_stopShaft (Sub.refl _) (Keeps.refl _ s) : Keeps _ s ((stopShaft s))).same .stf rfl
@[simp] theorem fr_stopShaft_tie (s : State) : (stopShaft s).tie = s.tie :=
  (keep_stopShaft (Sub.refl _) (Keeps.refl _ s) : Keeps _ s ((stopShaft s))).same .tie rfl
@[simp] theorem fr_stopShaft_mst (s : State) : (stopShaft s).mst = s.mst :=
  (keep_stopShaft (Sub.refl _) (Keeps.refl _ s) : Keeps _ s ((stopShaft s))).same .mst rfl
@[simp] theorem fr_stopShaft_xpt (s : State) : (stopShaft s).xpt = s.xpt :=
  (keep_stopShaft (Sub.refl _) (Keeps.refl _ s) : Keeps _ s ((stopShaft s))).same .xpt rfl
@[simp] theorem fr_stopShaft_prt (s : State) : (stopShaft s).prt = s.prt :=
  (keep_stopShaft (Sub.refl _) (Keeps.refl _ s) : Keeps _ s ((stopShaft s))).same .prt rfl
@[simp] theorem fr_stopShaft_twn (s : State) : (stopShaft s).twn = s.twn :=
  (keep_stopShaft (Sub.refl _) (Keeps.refl _ s) : Keeps _ s ((stopShaft s))).same .twn rfl
@[simp] theorem fr_stopShaft_draws (s : State) : (stopShaft s).draws = s.draws :=
  (keep_stopShaft (Sub.refl _) (Keeps.refl _ s) : Keeps _ s ((stopShaft s))).same .draws rfl
@[simp] theorem fr_stopShaft_out (s : State) : (stopShaft s).out = s.out :=
  (keep_stopShaft (Sub.refl _) (Keeps.refl _ s) : Keeps _ s ((stopShaft s))).same .out rfl
@[simp] theorem fr_stopShaft_now (s : State) : (stopShaft s).now = s.now :=
  (keep_stopShaft (Sub.refl _) (Keeps.refl _ s) : Keeps _ s ((stopShaft s))).now
@[simp] theorem fr_stopShaft_pending (s : State) : (stopShaft s).pending = s.pending :=
  (keep_stopShaft (Sub.refl _) (Keeps.refl _ s) : Keeps _ s ((stopShaft s))).pend
@[simp] theorem fr_requestLock_dev (s : State) : (requestLock s).dev = s.dev :=
  (keep_requestLock (Sub.refl _) (Keeps.refl _ s) : Keeps _ s ((requestLock s))).same .dev rfl
@[simp] theorem fr_beginStretch_dev (s : State) : (beginStretch s).dev = s.dev :=
  (keep_beginStretch (Sub.refl _) (Keeps.refl _ s) : Keeps _ s ((beginStretch s))).same .dev rfl
@[simp] theorem fr_qpRefused_dev (s : State) (p : Nat) (v : Bool) : (qpRefused s p v).dev = s.dev :=
  (keep_qpRefused (Sub.refl _) (Keeps.refl _ s) : Keeps _ s ((qpRefused s p v))).same .dev rfl
@[simp] theorem fr_qpRefused_fuses (s : State) (p : Nat) (v : Bool) : (qpRefused s p v).fuses = s.fuses :=
  (keep_qpRefused (Sub.refl _) (Keeps.refl _ s) : Keeps _ s ((qpRefused s p v))).same .fuses rfl
@[simp] theorem fr_qpRefused_gai (s : State) (p : Nat) (v : Bool) : (qpRefused s p v).gai = s.gai :=
  (keep_qpRefused (Sub.refl _) (Keeps.refl _ s) : Keeps _ s ((qpRefused s p v))).same .gai rfl
@[simp] theorem fr_qpRefused_pwr (s : State) (p : Nat) (v : Bool) : (qpRefused s p v).pwr = s.pwr :=
  (keep_qpRefused (Sub.refl _) (Keeps.refl _ s) : Keeps _ s ((qpRefused s p v))).same .pwr rfl
@[simp] theorem fr_qpRefused_rst (s : State) (p : Nat) (v : Bool) : (qpRefused s p v).rst = s.rst :=
  (keep_qpRefused (Sub.refl _) (Keeps.refl _ s) : Keeps _ s ((qpRefused s p v))).same .rst rfl
@[simp] theorem fr_qpRefused_tack (s : State) (p : Nat) (v : Bool) : (qpRefused s p v).tack = s.tack :=
  (keep_qpRefused (Sub.refl _) (Keeps.refl _ s) : Keeps _ s ((qpRefused s p v))).same .tack rfl
@[simp] theorem fr_qpRefused_recd (s : State) (p : Nat) (v : Bool) : (qpRefused s p v).recd = s.recd :=
  (keep_qpRefused (Sub.refl _) (Keeps.refl _ s) : Keeps _ s ((qpRefused s p v))).same .recd rfl
@[simp] theorem fr_qpRefused_dic (s : State) (p : Nat) (v : Bool) : (qpRefused s p v).dic = s.dic :=
  (keep_qpRefused (Sub.refl _) (Keeps.refl _ s) : Keeps _ s ((qpRefused s p v))).same .dic rfl
@[simp] theorem fr_qpRefused_pci (s : State) (p : Nat) (v : Bool) : (qpRefused s p v).pci = s.pci :=
  (keep_qpRefused (Sub.refl _) (Keeps.refl _ s) : Keeps _ s ((qpRefused s p v))).same .pci rfl
@[simp] theorem fr_qpRefused_mgtDrops (s : State) (p : Nat) (v : Bool) : (qpRefused s p v).mgtDrops = s.mgtDrops :=
  (keep_qpRefused (Sub.refl _) (Keeps.refl _ s) : Keeps _ s ((qpRefused s p v))).same .mgtDrops rfl
@[simp] theorem fr_qpRefused_cpx (s : State) (p : Nat) (v : Bool) : (qpRefused s p v).cpx = s.cpx :=
  (keep_qpRefused (Sub.refl _) (Keeps.refl _ s) : Keeps _ s ((qpRefused s p v))).same .cpx rfl
@[simp] theorem fr_qpRefused_svc (s : State) (p : Nat) (v : Bool) : (qpRefused s p v).svc = s.svc :=
  (keep_qpRefused (Sub.refl _) (Keeps.refl _ s) : Keeps _ s ((qpRefused s p v))).same .svc rfl
@[simp] theorem fr_qpRefused_key (s : State) (p : Nat) (v : Bool) : (qpRefused s p v).key = s.key :=
  (keep_qpRefused (Sub.refl _) (Keeps.refl _ s) : Keeps _ s ((qpRefused s p v))).same .key rfl
@[simp] theorem fr_qpRefused_kpf (s : State) (p : Nat) (v : Bool) : (qpRefused s p v).kpf = s.kpf :=
  (keep_qpRefused (Sub.refl _) (Keeps.refl _ s) : Keeps _ s ((qpRefused s p v))).same .kpf rfl
@[simp] theorem fr_qpRefused_clk (s : State) (p : Nat) (v : Bool) : (qpRefused s p v).clk = s.clk :=
  (keep_qpRefused (Sub.refl _) (Keeps.refl _ s) : Keeps _ s ((qpRefused s p v))).same .clk rfl
@[simp] theorem fr_qpRefused_cal (s : State) (p : Nat) (v : Bool) : (qpRefused s p v).cal = s.cal :=
  (keep_qpRefused (Sub.refl _) (Keeps.refl _ s) : Keeps _ s ((qpRefused s p v))).same .cal rfl
@[simp] theorem fr_qpRefused_sav (s : State) (p : Nat) (v : Bool) : (qpRefused s p v).sav = s.sav :=
  (keep_qpRefused (Sub.refl _) (Keeps.refl _ s) : Keeps _ s ((qpRefused s p v))).same .sav rfl
@[simp] theorem fr_qpRefused_gov (s : State) (p : Nat) (v : Bool) : (qpRefused s p v).gov = s.gov :=
  (keep_qpRefused (Sub.refl _) (Keeps.refl _ s) : Keeps _ s ((qpRefused s p v))).same .gov rfl
@[simp] theorem fr_qpRefused_maps (s : State) (p : Nat) (v : Bool) : (qpRefused s p v).maps = s.maps :=
  (keep_qpRefused (Sub.refl _) (Keeps.refl _ s) : Keeps _ s ((qpRefused s p v))).same .maps rfl
@[simp] theorem fr_qpRefused_log (s : State) (p : Nat) (v : Bool) : (qpRefused s p v).log = s.log :=
  (keep_qpRefused (Sub.refl _) (Keeps.refl _ s) : Keeps _ s ((qpRefused s p v))).same .log rfl
@[simp] theorem fr_qpRefused_trn (s : State) (p : Nat) (v : Bool) : (qpRefused s p v).trn = s.trn :=
  (keep_qpRefused (Sub.refl _) (Keeps.refl _ s) : Keeps _ s ((qpRefused s p v))).same .trn rfl
@[simp] theorem fr_qpRefused_dram (s : State) (p : Nat) (v : Bool) : (qpRefused s p v).dram = s.dram :=
  (keep_qpRefused (Sub.refl _) (Keeps.refl _ s) : Keeps _ s ((qpRefused s p v))).same .dram rfl
@[simp] theorem fr_qpRefused_drc (s : State) (p : Nat) (v : Bool) : (qpRefused s p v).drc = s.drc :=
  (keep_qpRefused (Sub.refl _) (Keeps.refl _ s) : Keeps _ s ((qpRefused s p v))).same .drc rfl
@[simp] theorem fr_qpRefused_grm (s : State) (p : Nat) (v : Bool) : (qpRefused s p v).grm = s.grm :=
  (keep_qpRefused (Sub.refl _) (Keeps.refl _ s) : Keeps _ s ((qpRefused s p v))).same .grm rfl
@[simp] theorem fr_qpRefused_far (s : State) (p : Nat) (v : Bool) : (qpRefused s p v).far = s.far :=
  (keep_qpRefused (Sub.refl _) (Keeps.refl _ s) : Keeps _ s ((qpRefused s p v))).same .far rfl
@[simp] theorem fr_qpRefused_stf (s : State) (p : Nat) (v : Bool) : (qpRefused s p v).stf = s.stf :=
  (keep_qpRefused (Sub.refl _) (Keeps.refl _ s) : Keeps _ s ((qpRefused s p v))).same .stf rfl
@[simp] theorem fr_qpRefused_tie (s : State) (p : Nat) (v : Bool) : (qpRefused s p v).tie = s.tie :=
  (keep_qpRefused (Sub.refl _) (Keeps.refl _ s) : Keeps _ s ((qpRefused s p v))).same .tie rfl
@[simp] theorem fr_qpRefused_mst (s : State) (p : Nat) (v : Bool) : (qpRefused s p v).mst = s.mst :=
  (keep_qpRefused (Sub.refl _) (Keeps.refl _ s) : Keeps _ s ((qpRefused s p v))).same .mst rfl
@[simp] theorem fr_qpRefused_xpt (s : State) (p : Nat) (v : Bool) : (qpRefused s p v).xpt = s.xpt :=
  (keep_qpRefused (Sub.refl _) (Keeps.refl _ s) : Keeps _ s ((qpRefused s p v))).same .xpt rfl
@[simp] theorem fr_qpRefused_prt (s : State) (p : Nat) (v : Bool) : (qpRefused s p v).prt = s.prt :=
  (keep_qpRefused (Sub.refl _) (Keeps.refl _ s) : Keeps _ s ((qpRefused s p v))).same .prt rfl
@[simp] theorem fr_qpRefused_twn (s : State) (p : Nat) (v : Bool) : (qpRefused s p v).twn = s.twn :=
  (keep_qpRefused (Sub.refl _) (Keeps.refl _ s) : Keeps _ s ((qpRefused s p v))).same .twn rfl
@[simp] theorem fr_qpRefused_draws (s : State) (p : Nat) (v : Bool) : (qpRefused s p v).draws = s.draws :=
  (keep_qpRefused (Sub.refl _) (Keeps.refl _ s) : Keeps _ s ((qpRefused s p v))).same .draws rfl
@[simp] theorem fr_qpRefused_out (s : State) (p : Nat) (v : Bool) : (qpRefused s p v).out = s.out :=
  (keep_qpRefused (Sub.refl _) (Keeps.refl _ s) : Keeps _ s ((qpRefused s p v))).same .out rfl
@[simp] theorem fr_qpRefused_now (s : State) (p : Nat) (v : Bool) : (qpRefused s p v).now = s.now :=
  (keep_qpRefused (Sub.refl _) (Keeps.refl _ s) : Keeps _ s ((qpRefused s p v))).now
@[simp] theorem fr_qpRefused_pending (s : State) (p : Nat) (v : Bool) : (qpRefused s p v).pending = s.pending :=
  (keep_qpRefused (Sub.refl _) (Keeps.refl _ s) : Keeps _ s ((qpRefused s p v))).pend
@[simp] theorem fr_quietPoint_dev (s : State) (n : Nat) : (quietPoint s n).dev = s.dev :=
  (keep_quietPoint (Sub.refl _) (Keeps.refl _ s) : Keeps _ s ((quietPoint s n))).same .dev rfl
@[simp] theorem fr_quietPoint_gai (s : State) (n : Nat) : (quietPoint s n).gai = s.gai :=
  (keep_quietPoint (Sub.refl _) (Keeps.refl _ s) : Keeps _ s ((quietPoint s n))).same .gai rfl
@[simp] theorem fr_farDrop_cal (s : State) (owner : Nat) : (farDrop s owner).cal = s.cal :=
  (keep_farDrop (Sub.refl _) (Keeps.refl _ s) : Keeps _ s ((farDrop s owner))).same .cal rfl
@[simp] theorem fr_farDrop_sav (s : State) (owner : Nat) : (farDrop s owner).sav = s.sav :=
  (keep_farDrop (Sub.refl _) (Keeps.refl _ s) : Keeps _ s ((farDrop s owner))).same .sav rfl
@[simp] theorem fr_farDrop_drc (s : State) (owner : Nat) : (farDrop s owner).drc = s.drc :=
  (keep_farDrop (Sub.refl _) (Keeps.refl _ s) : Keeps _ s ((farDrop s owner))).same .drc rfl
@[simp] theorem fr_showMst_mst (s : State) : (showMst s).mst = s.mst :=
  (keep_showMst (Sub.refl _) (Keeps.refl _ s) : Keeps _ s ((showMst s))).same .mst rfl
@[simp] theorem fr_showGates_dev (s : State) : (showGates s).dev = s.dev :=
  (keep_showGates (Sub.refl _) (Keeps.refl _ s) : Keeps _ s ((showGates s))).same .dev rfl
@[simp] theorem fr_showGates_fuses (s : State) : (showGates s).fuses = s.fuses :=
  (keep_showGates (Sub.refl _) (Keeps.refl _ s) : Keeps _ s ((showGates s))).same .fuses rfl
@[simp] theorem fr_showGates_gai (s : State) : (showGates s).gai = s.gai :=
  (keep_showGates (Sub.refl _) (Keeps.refl _ s) : Keeps _ s ((showGates s))).same .gai rfl
@[simp] theorem fr_showGates_pwr (s : State) : (showGates s).pwr = s.pwr :=
  (keep_showGates (Sub.refl _) (Keeps.refl _ s) : Keeps _ s ((showGates s))).same .pwr rfl
@[simp] theorem fr_showGates_rst (s : State) : (showGates s).rst = s.rst :=
  (keep_showGates (Sub.refl _) (Keeps.refl _ s) : Keeps _ s ((showGates s))).same .rst rfl
@[simp] theorem fr_showGates_tack (s : State) : (showGates s).tack = s.tack :=
  (keep_showGates (Sub.refl _) (Keeps.refl _ s) : Keeps _ s ((showGates s))).same .tack rfl
@[simp] theorem fr_showGates_recd (s : State) : (showGates s).recd = s.recd :=
  (keep_showGates (Sub.refl _) (Keeps.refl _ s) : Keeps _ s ((showGates s))).same .recd rfl
@[simp] theorem fr_showGates_dic (s : State) : (showGates s).dic = s.dic :=
  (keep_showGates (Sub.refl _) (Keeps.refl _ s) : Keeps _ s ((showGates s))).same .dic rfl
@[simp] theorem fr_showGates_pci (s : State) : (showGates s).pci = s.pci :=
  (keep_showGates (Sub.refl _) (Keeps.refl _ s) : Keeps _ s ((showGates s))).same .pci rfl
@[simp] theorem fr_showGates_mgtDrops (s : State) : (showGates s).mgtDrops = s.mgtDrops :=
  (keep_showGates (Sub.refl _) (Keeps.refl _ s) : Keeps _ s ((showGates s))).same .mgtDrops rfl
@[simp] theorem fr_showGates_cpx (s : State) : (showGates s).cpx = s.cpx :=
  (keep_showGates (Sub.refl _) (Keeps.refl _ s) : Keeps _ s ((showGates s))).same .cpx rfl
@[simp] theorem fr_showGates_svc (s : State) : (showGates s).svc = s.svc :=
  (keep_showGates (Sub.refl _) (Keeps.refl _ s) : Keeps _ s ((showGates s))).same .svc rfl
@[simp] theorem fr_showGates_key (s : State) : (showGates s).key = s.key :=
  (keep_showGates (Sub.refl _) (Keeps.refl _ s) : Keeps _ s ((showGates s))).same .key rfl
@[simp] theorem fr_showGates_kpf (s : State) : (showGates s).kpf = s.kpf :=
  (keep_showGates (Sub.refl _) (Keeps.refl _ s) : Keeps _ s ((showGates s))).same .kpf rfl
@[simp] theorem fr_showGates_clk (s : State) : (showGates s).clk = s.clk :=
  (keep_showGates (Sub.refl _) (Keeps.refl _ s) : Keeps _ s ((showGates s))).same .clk rfl
@[simp] theorem fr_showGates_cal (s : State) : (showGates s).cal = s.cal :=
  (keep_showGates (Sub.refl _) (Keeps.refl _ s) : Keeps _ s ((showGates s))).same .cal rfl
@[simp] theorem fr_showGates_sav (s : State) : (showGates s).sav = s.sav :=
  (keep_showGates (Sub.refl _) (Keeps.refl _ s) : Keeps _ s ((showGates s))).same .sav rfl
@[simp] theorem fr_showGates_gov (s : State) : (showGates s).gov = s.gov :=
  (keep_showGates (Sub.refl _) (Keeps.refl _ s) : Keeps _ s ((showGates s))).same .gov rfl
@[simp] theorem fr_showGates_maps (s : State) : (showGates s).maps = s.maps :=
  (keep_showGates (Sub.refl _) (Keeps.refl _ s) : Keeps _ s ((showGates s))).same .maps rfl
@[simp] theorem fr_showGates_log (s : State) : (showGates s).log = s.log :=
  (keep_showGates (Sub.refl _) (Keeps.refl _ s) : Keeps _ s ((showGates s))).same .log rfl
@[simp] theorem fr_showGates_trn (s : State) : (showGates s).trn = s.trn :=
  (keep_showGates (Sub.refl _) (Keeps.refl _ s) : Keeps _ s ((showGates s))).same .trn rfl
@[simp] theorem fr_showGates_dram (s : State) : (showGates s).dram = s.dram :=
  (keep_showGates (Sub.refl _) (Keeps.refl _ s) : Keeps _ s ((showGates s))).same .dram rfl
@[simp] theorem fr_showGates_drc (s : State) : (showGates s).drc = s.drc :=
  (keep_showGates (Sub.refl _) (Keeps.refl _ s) : Keeps _ s ((showGates s))).same .drc rfl
@[simp] theorem fr_showGates_grm (s : State) : (showGates s).grm = s.grm :=
  (keep_showGates (Sub.refl _) (Keeps.refl _ s) : Keeps _ s ((showGates s))).same .grm rfl
@[simp] theorem fr_showGates_far (s : State) : (showGates s).far = s.far :=
  (keep_showGates (Sub.refl _) (Keeps.refl _ s) : Keeps _ s ((showGates s))).same .far rfl
@[simp] theorem fr_showGates_stf (s : State) : (showGates s).stf = s.stf :=
  (keep_showGates (Sub.refl _) (Keeps.refl _ s) : Keeps _ s ((showGates s))).same .stf rfl
@[simp] theorem fr_showGates_tie (s : State) : (showGates s).tie = s.tie :=
  (keep_showGates (Sub.refl _) (Keeps.refl _ s) : Keeps _ s ((showGates s))).same .tie rfl
@[simp] theorem fr_showGates_mst (s : State) : (showGates s).mst = s.mst :=
  (keep_showGates (Sub.refl _) (Keeps.refl _ s) : Keeps _ s ((showGates s))).same .mst rfl
@[simp] theorem fr_showGates_xpt (s : State) : (showGates s).xpt = s.xpt :=
  (keep_showGates (Sub.refl _) (Keeps.refl _ s) : Keeps _ s ((showGates s))).same .xpt rfl
@[simp] theorem fr_showGates_prt (s : State) : (showGates s).prt = s.prt :=
  (keep_showGates (Sub.refl _) (Keeps.refl _ s) : Keeps _ s ((showGates s))).same .prt rfl
@[simp] theorem fr_showGates_twn (s : State) : (showGates s).twn = s.twn :=
  (keep_showGates (Sub.refl _) (Keeps.refl _ s) : Keeps _ s ((showGates s))).same .twn rfl
@[simp] theorem fr_showGates_draws (s : State) : (showGates s).draws = s.draws :=
  (keep_showGates (Sub.refl _) (Keeps.refl _ s) : Keeps _ s ((showGates s))).same .draws rfl
@[simp] theorem fr_showGates_out (s : State) : (showGates s).out = s.out :=
  (keep_showGates (Sub.refl _) (Keeps.refl _ s) : Keeps _ s ((showGates s))).same .out rfl
@[simp] theorem fr_showGates_now (s : State) : (showGates s).now = s.now :=
  (keep_showGates (Sub.refl _) (Keeps.refl _ s) : Keeps _ s ((showGates s))).now
@[simp] theorem fr_showGates_pending (s : State) : (showGates s).pending = s.pending :=
  (keep_showGates (Sub.refl _) (Keeps.refl _ s) : Keeps _ s ((showGates s))).pend
@[simp] theorem fr_writeRecord_dev (s : State) (active : Nat) (flags : Nat) : (writeRecord s active flags).dev = s.dev :=
  (keep_writeRecord (Sub.refl _) (Keeps.refl _ s) : Keeps _ s ((writeRecord s active flags))).same .dev rfl
@[simp] theorem fr_writeRecord_fuses (s : State) (active : Nat) (flags : Nat) : (writeRecord s active flags).fuses = s.fuses :=
  (keep_writeRecord (Sub.refl _) (Keeps.refl _ s) : Keeps _ s ((writeRecord s active flags))).same .fuses rfl
@[simp] theorem fr_writeRecord_gai (s : State) (active : Nat) (flags : Nat) : (writeRecord s active flags).gai = s.gai :=
  (keep_writeRecord (Sub.refl _) (Keeps.refl _ s) : Keeps _ s ((writeRecord s active flags))).same .gai rfl
@[simp] theorem fr_writeRecord_pwr (s : State) (active : Nat) (flags : Nat) : (writeRecord s active flags).pwr = s.pwr :=
  (keep_writeRecord (Sub.refl _) (Keeps.refl _ s) : Keeps _ s ((writeRecord s active flags))).same .pwr rfl
@[simp] theorem fr_writeRecord_rst (s : State) (active : Nat) (flags : Nat) : (writeRecord s active flags).rst = s.rst :=
  (keep_writeRecord (Sub.refl _) (Keeps.refl _ s) : Keeps _ s ((writeRecord s active flags))).same .rst rfl
@[simp] theorem fr_writeRecord_recd (s : State) (active : Nat) (flags : Nat) : (writeRecord s active flags).recd = s.recd :=
  (keep_writeRecord (Sub.refl _) (Keeps.refl _ s) : Keeps _ s ((writeRecord s active flags))).same .recd rfl
@[simp] theorem fr_writeRecord_dic (s : State) (active : Nat) (flags : Nat) : (writeRecord s active flags).dic = s.dic :=
  (keep_writeRecord (Sub.refl _) (Keeps.refl _ s) : Keeps _ s ((writeRecord s active flags))).same .dic rfl
@[simp] theorem fr_writeRecord_pci (s : State) (active : Nat) (flags : Nat) : (writeRecord s active flags).pci = s.pci :=
  (keep_writeRecord (Sub.refl _) (Keeps.refl _ s) : Keeps _ s ((writeRecord s active flags))).same .pci rfl
@[simp] theorem fr_writeRecord_mgtDrops (s : State) (active : Nat) (flags : Nat) : (writeRecord s active flags).mgtDrops = s.mgtDrops :=
  (keep_writeRecord (Sub.refl _) (Keeps.refl _ s) : Keeps _ s ((writeRecord s active flags))).same .mgtDrops rfl
@[simp] theorem fr_writeRecord_cpx (s : State) (active : Nat) (flags : Nat) : (writeRecord s active flags).cpx = s.cpx :=
  (keep_writeRecord (Sub.refl _) (Keeps.refl _ s) : Keeps _ s ((writeRecord s active flags))).same .cpx rfl
@[simp] theorem fr_writeRecord_svc (s : State) (active : Nat) (flags : Nat) : (writeRecord s active flags).svc = s.svc :=
  (keep_writeRecord (Sub.refl _) (Keeps.refl _ s) : Keeps _ s ((writeRecord s active flags))).same .svc rfl
@[simp] theorem fr_writeRecord_key (s : State) (active : Nat) (flags : Nat) : (writeRecord s active flags).key = s.key :=
  (keep_writeRecord (Sub.refl _) (Keeps.refl _ s) : Keeps _ s ((writeRecord s active flags))).same .key rfl
@[simp] theorem fr_writeRecord_kpf (s : State) (active : Nat) (flags : Nat) : (writeRecord s active flags).kpf = s.kpf :=
  (keep_writeRecord (Sub.refl _) (Keeps.refl _ s) : Keeps _ s ((writeRecord s active flags))).same .kpf rfl
@[simp] theorem fr_writeRecord_clk (s : State) (active : Nat) (flags : Nat) : (writeRecord s active flags).clk = s.clk :=
  (keep_writeRecord (Sub.refl _) (Keeps.refl _ s) : Keeps _ s ((writeRecord s active flags))).same .clk rfl
@[simp] theorem fr_writeRecord_cal (s : State) (active : Nat) (flags : Nat) : (writeRecord s active flags).cal = s.cal :=
  (keep_writeRecord (Sub.refl _) (Keeps.refl _ s) : Keeps _ s ((writeRecord s active flags))).same .cal rfl
@[simp] theorem fr_writeRecord_sav (s : State) (active : Nat) (flags : Nat) : (writeRecord s active flags).sav = s.sav :=
  (keep_writeRecord (Sub.refl _) (Keeps.refl _ s) : Keeps _ s ((writeRecord s active flags))).same .sav rfl
@[simp] theorem fr_writeRecord_gov (s : State) (active : Nat) (flags : Nat) : (writeRecord s active flags).gov = s.gov :=
  (keep_writeRecord (Sub.refl _) (Keeps.refl _ s) : Keeps _ s ((writeRecord s active flags))).same .gov rfl
@[simp] theorem fr_writeRecord_maps (s : State) (active : Nat) (flags : Nat) : (writeRecord s active flags).maps = s.maps :=
  (keep_writeRecord (Sub.refl _) (Keeps.refl _ s) : Keeps _ s ((writeRecord s active flags))).same .maps rfl
@[simp] theorem fr_writeRecord_log (s : State) (active : Nat) (flags : Nat) : (writeRecord s active flags).log = s.log :=
  (keep_writeRecord (Sub.refl _) (Keeps.refl _ s) : Keeps _ s ((writeRecord s active flags))).same .log rfl
@[simp] theorem fr_writeRecord_trn (s : State) (active : Nat) (flags : Nat) : (writeRecord s active flags).trn = s.trn :=
  (keep_writeRecord (Sub.refl _) (Keeps.refl _ s) : Keeps _ s ((writeRecord s active flags))).same .trn rfl
@[simp] theorem fr_writeRecord_dram (s : State) (active : Nat) (flags : Nat) : (writeRecord s active flags).dram = s.dram :=
  (keep_writeRecord (Sub.refl _) (Keeps.refl _ s) : Keeps _ s ((writeRecord s active flags))).same .dram rfl
@[simp] theorem fr_writeRecord_drc (s : State) (active : Nat) (flags : Nat) : (writeRecord s active flags).drc = s.drc :=
  (keep_writeRecord (Sub.refl _) (Keeps.refl _ s) : Keeps _ s ((writeRecord s active flags))).same .drc rfl
@[simp] theorem fr_writeRecord_grm (s : State) (active : Nat) (flags : Nat) : (writeRecord s active flags).grm = s.grm :=
  (keep_writeRecord (Sub.refl _) (Keeps.refl _ s) : Keeps _ s ((writeRecord s active flags))).same .grm rfl
@[simp] theorem fr_writeRecord_far (s : State) (active : Nat) (flags : Nat) : (writeRecord s active flags).far = s.far :=
  (keep_writeRecord (Sub.refl _) (Keeps.refl _ s) : Keeps _ s ((writeRecord s active flags))).same .far rfl
@[simp] theorem fr_writeRecord_stf (s : State) (active : Nat) (flags : Nat) : (writeRecord s active flags).stf = s.stf :=
  (keep_writeRecord (Sub.refl _) (Keeps.refl _ s) : Keeps _ s ((writeRecord s active flags))).same .stf rfl
@[simp] theorem fr_writeRecord_tie (s : State) (active : Nat) (flags : Nat) : (writeRecord s active flags).tie = s.tie :=
  (keep_writeRecord (Sub.refl _) (Keeps.refl _ s) : Keeps _ s ((writeRecord s active flags))).same .tie rfl
@[simp] theorem fr_writeRecord_mst (s : State) (active : Nat) (flags : Nat) : (writeRecord s active flags).mst = s.mst :=
  (keep_writeRecord (Sub.refl _) (Keeps.refl _ s) : Keeps _ s ((writeRecord s active flags))).same .mst rfl
@[simp] theorem fr_writeRecord_xpt (s : State) (active : Nat) (flags : Nat) : (writeRecord s active flags).xpt = s.xpt :=
  (keep_writeRecord (Sub.refl _) (Keeps.refl _ s) : Keeps _ s ((writeRecord s active flags))).same .xpt rfl
@[simp] theorem fr_writeRecord_prt (s : State) (active : Nat) (flags : Nat) : (writeRecord s active flags).prt = s.prt :=
  (keep_writeRecord (Sub.refl _) (Keeps.refl _ s) : Keeps _ s ((writeRecord s active flags))).same .prt rfl
@[simp] theorem fr_writeRecord_twn (s : State) (active : Nat) (flags : Nat) : (writeRecord s active flags).twn = s.twn :=
  (keep_writeRecord (Sub.refl _) (Keeps.refl _ s) : Keeps _ s ((writeRecord s active flags))).same .twn rfl
@[simp] theorem fr_writeRecord_draws (s : State) (active : Nat) (flags : Nat) : (writeRecord s active flags).draws = s.draws :=
  (keep_writeRecord (Sub.refl _) (Keeps.refl _ s) : Keeps _ s ((writeRecord s active flags))).same .draws rfl
@[simp] theorem fr_writeRecord_out (s : State) (active : Nat) (flags : Nat) : (writeRecord s active flags).out = s.out :=
  (keep_writeRecord (Sub.refl _) (Keeps.refl _ s) : Keeps _ s ((writeRecord s active flags))).same .out rfl
@[simp] theorem fr_writeRecord_now (s : State) (active : Nat) (flags : Nat) : (writeRecord s active flags).now = s.now :=
  (keep_writeRecord (Sub.refl _) (Keeps.refl _ s) : Keeps _ s ((writeRecord s active flags))).now
@[simp] theorem fr_writeRecord_pending (s : State) (active : Nat) (flags : Nat) : (writeRecord s active flags).pending = s.pending :=
  (keep_writeRecord (Sub.refl _) (Keeps.refl _ s) : Keeps _ s ((writeRecord s active flags))).pend
@[simp] theorem fr_mstForget_mst (s : State) (ids : List Nat) : (mstForget s ids).mst = s.mst :=
  (keep_mstForget (Sub.refl _) (Keeps.refl _ s) : Keeps _ s ((mstForget s ids))).same .mst rfl
@[simp] theorem fr_relink_dev (s : State) (l : Nat) : (relink s l).dev = s.dev :=
  (keep_relink (Sub.refl _) (Keeps.refl _ s) : Keeps _ s ((relink s l))).same .dev rfl
@[simp] theorem fr_relink_fuses (s : State) (l : Nat) : (relink s l).fuses = s.fuses :=
  (keep_relink (Sub.refl _) (Keeps.refl _ s) : Keeps _ s ((relink s l))).same .fuses rfl
@[simp] theorem fr_relink_gai (s : State) (l : Nat) : (relink s l).gai = s.gai :=
  (keep_relink (Sub.refl _) (Keeps.refl _ s) : Keeps _ s ((relink s l))).same .gai rfl
@[simp] theorem fr_relink_pwr (s : State) (l : Nat) : (relink s l).pwr = s.pwr :=
  (keep_relink (Sub.refl _) (Keeps.refl _ s) : Keeps _ s ((relink s l))).same .pwr rfl
@[simp] theorem fr_relink_rst (s : State) (l : Nat) : (relink s l).rst = s.rst :=
  (keep_relink (Sub.refl _) (Keeps.refl _ s) : Keeps _ s ((relink s l))).same .rst rfl
@[simp] theorem fr_relink_tack (s : State) (l : Nat) : (relink s l).tack = s.tack :=
  (keep_relink (Sub.refl _) (Keeps.refl _ s) : Keeps _ s ((relink s l))).same .tack rfl
@[simp] theorem fr_relink_dic (s : State) (l : Nat) : (relink s l).dic = s.dic :=
  (keep_relink (Sub.refl _) (Keeps.refl _ s) : Keeps _ s ((relink s l))).same .dic rfl
@[simp] theorem fr_relink_pci (s : State) (l : Nat) : (relink s l).pci = s.pci :=
  (keep_relink (Sub.refl _) (Keeps.refl _ s) : Keeps _ s ((relink s l))).same .pci rfl
@[simp] theorem fr_relink_mgtDrops (s : State) (l : Nat) : (relink s l).mgtDrops = s.mgtDrops :=
  (keep_relink (Sub.refl _) (Keeps.refl _ s) : Keeps _ s ((relink s l))).same .mgtDrops rfl
@[simp] theorem fr_relink_cpx (s : State) (l : Nat) : (relink s l).cpx = s.cpx :=
  (keep_relink (Sub.refl _) (Keeps.refl _ s) : Keeps _ s ((relink s l))).same .cpx rfl
@[simp] theorem fr_relink_svc (s : State) (l : Nat) : (relink s l).svc = s.svc :=
  (keep_relink (Sub.refl _) (Keeps.refl _ s) : Keeps _ s ((relink s l))).same .svc rfl
@[simp] theorem fr_relink_key (s : State) (l : Nat) : (relink s l).key = s.key :=
  (keep_relink (Sub.refl _) (Keeps.refl _ s) : Keeps _ s ((relink s l))).same .key rfl
@[simp] theorem fr_relink_kpf (s : State) (l : Nat) : (relink s l).kpf = s.kpf :=
  (keep_relink (Sub.refl _) (Keeps.refl _ s) : Keeps _ s ((relink s l))).same .kpf rfl
@[simp] theorem fr_relink_clk (s : State) (l : Nat) : (relink s l).clk = s.clk :=
  (keep_relink (Sub.refl _) (Keeps.refl _ s) : Keeps _ s ((relink s l))).same .clk rfl
@[simp] theorem fr_relink_cal (s : State) (l : Nat) : (relink s l).cal = s.cal :=
  (keep_relink (Sub.refl _) (Keeps.refl _ s) : Keeps _ s ((relink s l))).same .cal rfl
@[simp] theorem fr_relink_sav (s : State) (l : Nat) : (relink s l).sav = s.sav :=
  (keep_relink (Sub.refl _) (Keeps.refl _ s) : Keeps _ s ((relink s l))).same .sav rfl
@[simp] theorem fr_relink_gov (s : State) (l : Nat) : (relink s l).gov = s.gov :=
  (keep_relink (Sub.refl _) (Keeps.refl _ s) : Keeps _ s ((relink s l))).same .gov rfl
@[simp] theorem fr_relink_maps (s : State) (l : Nat) : (relink s l).maps = s.maps :=
  (keep_relink (Sub.refl _) (Keeps.refl _ s) : Keeps _ s ((relink s l))).same .maps rfl
@[simp] theorem fr_relink_log (s : State) (l : Nat) : (relink s l).log = s.log :=
  (keep_relink (Sub.refl _) (Keeps.refl _ s) : Keeps _ s ((relink s l))).same .log rfl
@[simp] theorem fr_relink_trn (s : State) (l : Nat) : (relink s l).trn = s.trn :=
  (keep_relink (Sub.refl _) (Keeps.refl _ s) : Keeps _ s ((relink s l))).same .trn rfl
@[simp] theorem fr_relink_dram (s : State) (l : Nat) : (relink s l).dram = s.dram :=
  (keep_relink (Sub.refl _) (Keeps.refl _ s) : Keeps _ s ((relink s l))).same .dram rfl
@[simp] theorem fr_relink_drc (s : State) (l : Nat) : (relink s l).drc = s.drc :=
  (keep_relink (Sub.refl _) (Keeps.refl _ s) : Keeps _ s ((relink s l))).same .drc rfl
@[simp] theorem fr_relink_grm (s : State) (l : Nat) : (relink s l).grm = s.grm :=
  (keep_relink (Sub.refl _) (Keeps.refl _ s) : Keeps _ s ((relink s l))).same .grm rfl
@[simp] theorem fr_relink_far (s : State) (l : Nat) : (relink s l).far = s.far :=
  (keep_relink (Sub.refl _) (Keeps.refl _ s) : Keeps _ s ((relink s l))).same .far rfl
@[simp] theorem fr_relink_stf (s : State) (l : Nat) : (relink s l).stf = s.stf :=
  (keep_relink (Sub.refl _) (Keeps.refl _ s) : Keeps _ s ((relink s l))).same .stf rfl
@[simp] theorem fr_relink_tie (s : State) (l : Nat) : (relink s l).tie = s.tie :=
  (keep_relink (Sub.refl _) (Keeps.refl _ s) : Keeps _ s ((relink s l))).same .tie rfl
@[simp] theorem fr_relink_mst (s : State) (l : Nat) : (relink s l).mst = s.mst :=
  (keep_relink (Sub.refl _) (Keeps.refl _ s) : Keeps _ s ((relink s l))).same .mst rfl
@[simp] theorem fr_relink_xpt (s : State) (l : Nat) : (relink s l).xpt = s.xpt :=
  (keep_relink (Sub.refl _) (Keeps.refl _ s) : Keeps _ s ((relink s l))).same .xpt rfl
@[simp] theorem fr_relink_twn (s : State) (l : Nat) : (relink s l).twn = s.twn :=
  (keep_relink (Sub.refl _) (Keeps.refl _ s) : Keeps _ s ((relink s l))).same .twn rfl
@[simp] theorem fr_relink_draws (s : State) (l : Nat) : (relink s l).draws = s.draws :=
  (keep_relink (Sub.refl _) (Keeps.refl _ s) : Keeps _ s ((relink s l))).same .draws rfl
@[simp] theorem fr_relink_now (s : State) (l : Nat) : (relink s l).now = s.now :=
  (keep_relink (Sub.refl _) (Keeps.refl _ s) : Keeps _ s ((relink s l))).now
@[simp] theorem fr_relink_pending (s : State) (l : Nat) : (relink s l).pending = s.pending :=
  (keep_relink (Sub.refl _) (Keeps.refl _ s) : Keeps _ s ((relink s l))).pend
@[simp] theorem fr_groomRow_gai (s : State) (gm : Nat) : (groomRow s gm).gai = s.gai :=
  (keep_groomRow (Sub.refl _) (Keeps.refl _ s) : Keeps _ s ((groomRow s gm))).same .gai rfl
@[simp] theorem fr_gaitApply_dev (s : State) (g : Nat) : (gaitApply s g).dev = s.dev :=
  (keep_gaitApply (Sub.refl _) (Keeps.refl _ s) : Keeps _ s ((gaitApply s g))).same .dev rfl
@[simp] theorem fr_gaitApply_fuses (s : State) (g : Nat) : (gaitApply s g).fuses = s.fuses :=
  (keep_gaitApply (Sub.refl _) (Keeps.refl _ s) : Keeps _ s ((gaitApply s g))).same .fuses rfl
@[simp] theorem fr_gaitApply_pwr (s : State) (g : Nat) : (gaitApply s g).pwr = s.pwr :=
  (keep_gaitApply (Sub.refl _) (Keeps.refl _ s) : Keeps _ s ((gaitApply s g))).same .pwr rfl
@[simp] theorem fr_gaitApply_rst (s : State) (g : Nat) : (gaitApply s g).rst = s.rst :=
  (keep_gaitApply (Sub.refl _) (Keeps.refl _ s) : Keeps _ s ((gaitApply s g))).same .rst rfl
@[simp] theorem fr_gaitApply_tack (s : State) (g : Nat) : (gaitApply s g).tack = s.tack :=
  (keep_gaitApply (Sub.refl _) (Keeps.refl _ s) : Keeps _ s ((gaitApply s g))).same .tack rfl
@[simp] theorem fr_gaitApply_pci (s : State) (g : Nat) : (gaitApply s g).pci = s.pci :=
  (keep_gaitApply (Sub.refl _) (Keeps.refl _ s) : Keeps _ s ((gaitApply s g))).same .pci rfl
@[simp] theorem fr_gaitApply_mgtDrops (s : State) (g : Nat) : (gaitApply s g).mgtDrops = s.mgtDrops :=
  (keep_gaitApply (Sub.refl _) (Keeps.refl _ s) : Keeps _ s ((gaitApply s g))).same .mgtDrops rfl
@[simp] theorem fr_gaitApply_cpx (s : State) (g : Nat) : (gaitApply s g).cpx = s.cpx :=
  (keep_gaitApply (Sub.refl _) (Keeps.refl _ s) : Keeps _ s ((gaitApply s g))).same .cpx rfl
@[simp] theorem fr_gaitApply_svc (s : State) (g : Nat) : (gaitApply s g).svc = s.svc :=
  (keep_gaitApply (Sub.refl _) (Keeps.refl _ s) : Keeps _ s ((gaitApply s g))).same .svc rfl
@[simp] theorem fr_gaitApply_key (s : State) (g : Nat) : (gaitApply s g).key = s.key :=
  (keep_gaitApply (Sub.refl _) (Keeps.refl _ s) : Keeps _ s ((gaitApply s g))).same .key rfl
@[simp] theorem fr_gaitApply_kpf (s : State) (g : Nat) : (gaitApply s g).kpf = s.kpf :=
  (keep_gaitApply (Sub.refl _) (Keeps.refl _ s) : Keeps _ s ((gaitApply s g))).same .kpf rfl
@[simp] theorem fr_gaitApply_clk (s : State) (g : Nat) : (gaitApply s g).clk = s.clk :=
  (keep_gaitApply (Sub.refl _) (Keeps.refl _ s) : Keeps _ s ((gaitApply s g))).same .clk rfl
@[simp] theorem fr_gaitApply_cal (s : State) (g : Nat) : (gaitApply s g).cal = s.cal :=
  (keep_gaitApply (Sub.refl _) (Keeps.refl _ s) : Keeps _ s ((gaitApply s g))).same .cal rfl
@[simp] theorem fr_gaitApply_sav (s : State) (g : Nat) : (gaitApply s g).sav = s.sav :=
  (keep_gaitApply (Sub.refl _) (Keeps.refl _ s) : Keeps _ s ((gaitApply s g))).same .sav rfl
@[simp] theorem fr_gaitApply_maps (s : State) (g : Nat) : (gaitApply s g).maps = s.maps :=
  (keep_gaitApply (Sub.refl _) (Keeps.refl _ s) : Keeps _ s ((gaitApply s g))).same .maps rfl
@[simp] theorem fr_gaitApply_log (s : State) (g : Nat) : (gaitApply s g).log = s.log :=
  (keep_gaitApply (Sub.refl _) (Keeps.refl _ s) : Keeps _ s ((gaitApply s g))).same .log rfl
@[simp] theorem fr_gaitApply_trn (s : State) (g : Nat) : (gaitApply s g).trn = s.trn :=
  (keep_gaitApply (Sub.refl _) (Keeps.refl _ s) : Keeps _ s ((gaitApply s g))).same .trn rfl
@[simp] theorem fr_gaitApply_dram (s : State) (g : Nat) : (gaitApply s g).dram = s.dram :=
  (keep_gaitApply (Sub.refl _) (Keeps.refl _ s) : Keeps _ s ((gaitApply s g))).same .dram rfl
@[simp] theorem fr_gaitApply_drc (s : State) (g : Nat) : (gaitApply s g).drc = s.drc :=
  (keep_gaitApply (Sub.refl _) (Keeps.refl _ s) : Keeps _ s ((gaitApply s g))).same .drc rfl
@[simp] theorem fr_gaitApply_far (s : State) (g : Nat) : (gaitApply s g).far = s.far :=
  (keep_gaitApply (Sub.refl _) (Keeps.refl _ s) : Keeps _ s ((gaitApply s g))).same .far rfl
@[simp] theorem fr_gaitApply_stf (s : State) (g : Nat) : (gaitApply s g).stf = s.stf :=
  (keep_gaitApply (Sub.refl _) (Keeps.refl _ s) : Keeps _ s ((gaitApply s g))).same .stf rfl
@[simp] theorem fr_gaitApply_tie (s : State) (g : Nat) : (gaitApply s g).tie = s.tie :=
  (keep_gaitApply (Sub.refl _) (Keeps.refl _ s) : Keeps _ s ((gaitApply s g))).same .tie rfl
@[simp] theorem fr_gaitApply_xpt (s : State) (g : Nat) : (gaitApply s g).xpt = s.xpt :=
  (keep_gaitApply (Sub.refl _) (Keeps.refl _ s) : Keeps _ s ((gaitApply s g))).same .xpt rfl
@[simp] theorem fr_gaitApply_twn (s : State) (g : Nat) : (gaitApply s g).twn = s.twn :=
  (keep_gaitApply (Sub.refl _) (Keeps.refl _ s) : Keeps _ s ((gaitApply s g))).same .twn rfl
@[simp] theorem fr_gaitApply_draws (s : State) (g : Nat) : (gaitApply s g).draws = s.draws :=
  (keep_gaitApply (Sub.refl _) (Keeps.refl _ s) : Keeps _ s ((gaitApply s g))).same .draws rfl
@[simp] theorem fr_gaitApply_now (s : State) (g : Nat) : (gaitApply s g).now = s.now :=
  (keep_gaitApply (Sub.refl _) (Keeps.refl _ s) : Keeps _ s ((gaitApply s g))).now
@[simp] theorem fr_gaitApply_pending (s : State) (g : Nat) : (gaitApply s g).pending = s.pending :=
  (keep_gaitApply (Sub.refl _) (Keeps.refl _ s) : Keeps _ s ((gaitApply s g))).pend
@[simp] theorem fr_kerase_dev (s : State) (off : Nat) (n : Nat) : (kerase s off n).dev = s.dev :=
  (keep_kerase (Sub.refl _) (Keeps.refl _ s) : Keeps _ s ((kerase s off n))).same .dev rfl
@[simp] theorem fr_kerase_fuses (s : State) (off : Nat) (n : Nat) : (kerase s off n).fuses = s.fuses :=
  (keep_kerase (Sub.refl _) (Keeps.refl _ s) : Keeps _ s ((kerase s off n))).same .fuses rfl
@[simp] theorem fr_kerase_gai (s : State) (off : Nat) (n : Nat) : (kerase s off n).gai = s.gai :=
  (keep_kerase (Sub.refl _) (Keeps.refl _ s) : Keeps _ s ((kerase s off n))).same .gai rfl
@[simp] theorem fr_kerase_pwr (s : State) (off : Nat) (n : Nat) : (kerase s off n).pwr = s.pwr :=
  (keep_kerase (Sub.refl _) (Keeps.refl _ s) : Keeps _ s ((kerase s off n))).same .pwr rfl
@[simp] theorem fr_kerase_rst (s : State) (off : Nat) (n : Nat) : (kerase s off n).rst = s.rst :=
  (keep_kerase (Sub.refl _) (Keeps.refl _ s) : Keeps _ s ((kerase s off n))).same .rst rfl
@[simp] theorem fr_kerase_tack (s : State) (off : Nat) (n : Nat) : (kerase s off n).tack = s.tack :=
  (keep_kerase (Sub.refl _) (Keeps.refl _ s) : Keeps _ s ((kerase s off n))).same .tack rfl
@[simp] theorem fr_kerase_recd (s : State) (off : Nat) (n : Nat) : (kerase s off n).recd = s.recd :=
  (keep_kerase (Sub.refl _) (Keeps.refl _ s) : Keeps _ s ((kerase s off n))).same .recd rfl
@[simp] theorem fr_kerase_dic (s : State) (off : Nat) (n : Nat) : (kerase s off n).dic = s.dic :=
  (keep_kerase (Sub.refl _) (Keeps.refl _ s) : Keeps _ s ((kerase s off n))).same .dic rfl
@[simp] theorem fr_kerase_pci (s : State) (off : Nat) (n : Nat) : (kerase s off n).pci = s.pci :=
  (keep_kerase (Sub.refl _) (Keeps.refl _ s) : Keeps _ s ((kerase s off n))).same .pci rfl
@[simp] theorem fr_kerase_mgtDrops (s : State) (off : Nat) (n : Nat) : (kerase s off n).mgtDrops = s.mgtDrops :=
  (keep_kerase (Sub.refl _) (Keeps.refl _ s) : Keeps _ s ((kerase s off n))).same .mgtDrops rfl
@[simp] theorem fr_kerase_cpx (s : State) (off : Nat) (n : Nat) : (kerase s off n).cpx = s.cpx :=
  (keep_kerase (Sub.refl _) (Keeps.refl _ s) : Keeps _ s ((kerase s off n))).same .cpx rfl
@[simp] theorem fr_kerase_svc (s : State) (off : Nat) (n : Nat) : (kerase s off n).svc = s.svc :=
  (keep_kerase (Sub.refl _) (Keeps.refl _ s) : Keeps _ s ((kerase s off n))).same .svc rfl
@[simp] theorem fr_kerase_key (s : State) (off : Nat) (n : Nat) : (kerase s off n).key = s.key :=
  (keep_kerase (Sub.refl _) (Keeps.refl _ s) : Keeps _ s ((kerase s off n))).same .key rfl
@[simp] theorem fr_kerase_clk (s : State) (off : Nat) (n : Nat) : (kerase s off n).clk = s.clk :=
  (keep_kerase (Sub.refl _) (Keeps.refl _ s) : Keeps _ s ((kerase s off n))).same .clk rfl
@[simp] theorem fr_kerase_cal (s : State) (off : Nat) (n : Nat) : (kerase s off n).cal = s.cal :=
  (keep_kerase (Sub.refl _) (Keeps.refl _ s) : Keeps _ s ((kerase s off n))).same .cal rfl
@[simp] theorem fr_kerase_sav (s : State) (off : Nat) (n : Nat) : (kerase s off n).sav = s.sav :=
  (keep_kerase (Sub.refl _) (Keeps.refl _ s) : Keeps _ s ((kerase s off n))).same .sav rfl
@[simp] theorem fr_kerase_gov (s : State) (off : Nat) (n : Nat) : (kerase s off n).gov = s.gov :=
  (keep_kerase (Sub.refl _) (Keeps.refl _ s) : Keeps _ s ((kerase s off n))).same .gov rfl
@[simp] theorem fr_kerase_maps (s : State) (off : Nat) (n : Nat) : (kerase s off n).maps = s.maps :=
  (keep_kerase (Sub.refl _) (Keeps.refl _ s) : Keeps _ s ((kerase s off n))).same .maps rfl
@[simp] theorem fr_kerase_log (s : State) (off : Nat) (n : Nat) : (kerase s off n).log = s.log :=
  (keep_kerase (Sub.refl _) (Keeps.refl _ s) : Keeps _ s ((kerase s off n))).same .log rfl
@[simp] theorem fr_kerase_trn (s : State) (off : Nat) (n : Nat) : (kerase s off n).trn = s.trn :=
  (keep_kerase (Sub.refl _) (Keeps.refl _ s) : Keeps _ s ((kerase s off n))).same .trn rfl
@[simp] theorem fr_kerase_dram (s : State) (off : Nat) (n : Nat) : (kerase s off n).dram = s.dram :=
  (keep_kerase (Sub.refl _) (Keeps.refl _ s) : Keeps _ s ((kerase s off n))).same .dram rfl
@[simp] theorem fr_kerase_drc (s : State) (off : Nat) (n : Nat) : (kerase s off n).drc = s.drc :=
  (keep_kerase (Sub.refl _) (Keeps.refl _ s) : Keeps _ s ((kerase s off n))).same .drc rfl
@[simp] theorem fr_kerase_grm (s : State) (off : Nat) (n : Nat) : (kerase s off n).grm = s.grm :=
  (keep_kerase (Sub.refl _) (Keeps.refl _ s) : Keeps _ s ((kerase s off n))).same .grm rfl
@[simp] theorem fr_kerase_far (s : State) (off : Nat) (n : Nat) : (kerase s off n).far = s.far :=
  (keep_kerase (Sub.refl _) (Keeps.refl _ s) : Keeps _ s ((kerase s off n))).same .far rfl
@[simp] theorem fr_kerase_stf (s : State) (off : Nat) (n : Nat) : (kerase s off n).stf = s.stf :=
  (keep_kerase (Sub.refl _) (Keeps.refl _ s) : Keeps _ s ((kerase s off n))).same .stf rfl
@[simp] theorem fr_kerase_tie (s : State) (off : Nat) (n : Nat) : (kerase s off n).tie = s.tie :=
  (keep_kerase (Sub.refl _) (Keeps.refl _ s) : Keeps _ s ((kerase s off n))).same .tie rfl
@[simp] theorem fr_kerase_mst (s : State) (off : Nat) (n : Nat) : (kerase s off n).mst = s.mst :=
  (keep_kerase (Sub.refl _) (Keeps.refl _ s) : Keeps _ s ((kerase s off n))).same .mst rfl
@[simp] theorem fr_kerase_xpt (s : State) (off : Nat) (n : Nat) : (kerase s off n).xpt = s.xpt :=
  (keep_kerase (Sub.refl _) (Keeps.refl _ s) : Keeps _ s ((kerase s off n))).same .xpt rfl
@[simp] theorem fr_kerase_prt (s : State) (off : Nat) (n : Nat) : (kerase s off n).prt = s.prt :=
  (keep_kerase (Sub.refl _) (Keeps.refl _ s) : Keeps _ s ((kerase s off n))).same .prt rfl
@[simp] theorem fr_kerase_twn (s : State) (off : Nat) (n : Nat) : (kerase s off n).twn = s.twn :=
  (keep_kerase (Sub.refl _) (Keeps.refl _ s) : Keeps _ s ((kerase s off n))).same .twn rfl
@[simp] theorem fr_kerase_draws (s : State) (off : Nat) (n : Nat) : (kerase s off n).draws = s.draws :=
  (keep_kerase (Sub.refl _) (Keeps.refl _ s) : Keeps _ s ((kerase s off n))).same .draws rfl
@[simp] theorem fr_kerase_out (s : State) (off : Nat) (n : Nat) : (kerase s off n).out = s.out :=
  (keep_kerase (Sub.refl _) (Keeps.refl _ s) : Keeps _ s ((kerase s off n))).same .out rfl
@[simp] theorem fr_kerase_now (s : State) (off : Nat) (n : Nat) : (kerase s off n).now = s.now :=
  (keep_kerase (Sub.refl _) (Keeps.refl _ s) : Keeps _ s ((kerase s off n))).now
@[simp] theorem fr_kerase_pending (s : State) (off : Nat) (n : Nat) : (kerase s off n).pending = s.pending :=
  (keep_kerase (Sub.refl _) (Keeps.refl _ s) : Keeps _ s ((kerase s off n))).pend
@[simp] theorem fr_kprog_dev (s : State) (off : Nat) (bs : List Nat) : (kprog s off bs).dev = s.dev :=
  (keep_kprog (Sub.refl _) (Keeps.refl _ s) : Keeps _ s ((kprog s off bs))).same .dev rfl
@[simp] theorem fr_kprog_fuses (s : State) (off : Nat) (bs : List Nat) : (kprog s off bs).fuses = s.fuses :=
  (keep_kprog (Sub.refl _) (Keeps.refl _ s) : Keeps _ s ((kprog s off bs))).same .fuses rfl
@[simp] theorem fr_kprog_gai (s : State) (off : Nat) (bs : List Nat) : (kprog s off bs).gai = s.gai :=
  (keep_kprog (Sub.refl _) (Keeps.refl _ s) : Keeps _ s ((kprog s off bs))).same .gai rfl
@[simp] theorem fr_kprog_pwr (s : State) (off : Nat) (bs : List Nat) : (kprog s off bs).pwr = s.pwr :=
  (keep_kprog (Sub.refl _) (Keeps.refl _ s) : Keeps _ s ((kprog s off bs))).same .pwr rfl
@[simp] theorem fr_kprog_rst (s : State) (off : Nat) (bs : List Nat) : (kprog s off bs).rst = s.rst :=
  (keep_kprog (Sub.refl _) (Keeps.refl _ s) : Keeps _ s ((kprog s off bs))).same .rst rfl
@[simp] theorem fr_kprog_tack (s : State) (off : Nat) (bs : List Nat) : (kprog s off bs).tack = s.tack :=
  (keep_kprog (Sub.refl _) (Keeps.refl _ s) : Keeps _ s ((kprog s off bs))).same .tack rfl
@[simp] theorem fr_kprog_recd (s : State) (off : Nat) (bs : List Nat) : (kprog s off bs).recd = s.recd :=
  (keep_kprog (Sub.refl _) (Keeps.refl _ s) : Keeps _ s ((kprog s off bs))).same .recd rfl
@[simp] theorem fr_kprog_dic (s : State) (off : Nat) (bs : List Nat) : (kprog s off bs).dic = s.dic :=
  (keep_kprog (Sub.refl _) (Keeps.refl _ s) : Keeps _ s ((kprog s off bs))).same .dic rfl
@[simp] theorem fr_kprog_pci (s : State) (off : Nat) (bs : List Nat) : (kprog s off bs).pci = s.pci :=
  (keep_kprog (Sub.refl _) (Keeps.refl _ s) : Keeps _ s ((kprog s off bs))).same .pci rfl
@[simp] theorem fr_kprog_mgtDrops (s : State) (off : Nat) (bs : List Nat) : (kprog s off bs).mgtDrops = s.mgtDrops :=
  (keep_kprog (Sub.refl _) (Keeps.refl _ s) : Keeps _ s ((kprog s off bs))).same .mgtDrops rfl
@[simp] theorem fr_kprog_cpx (s : State) (off : Nat) (bs : List Nat) : (kprog s off bs).cpx = s.cpx :=
  (keep_kprog (Sub.refl _) (Keeps.refl _ s) : Keeps _ s ((kprog s off bs))).same .cpx rfl
@[simp] theorem fr_kprog_svc (s : State) (off : Nat) (bs : List Nat) : (kprog s off bs).svc = s.svc :=
  (keep_kprog (Sub.refl _) (Keeps.refl _ s) : Keeps _ s ((kprog s off bs))).same .svc rfl
@[simp] theorem fr_kprog_key (s : State) (off : Nat) (bs : List Nat) : (kprog s off bs).key = s.key :=
  (keep_kprog (Sub.refl _) (Keeps.refl _ s) : Keeps _ s ((kprog s off bs))).same .key rfl
@[simp] theorem fr_kprog_clk (s : State) (off : Nat) (bs : List Nat) : (kprog s off bs).clk = s.clk :=
  (keep_kprog (Sub.refl _) (Keeps.refl _ s) : Keeps _ s ((kprog s off bs))).same .clk rfl
@[simp] theorem fr_kprog_cal (s : State) (off : Nat) (bs : List Nat) : (kprog s off bs).cal = s.cal :=
  (keep_kprog (Sub.refl _) (Keeps.refl _ s) : Keeps _ s ((kprog s off bs))).same .cal rfl
@[simp] theorem fr_kprog_sav (s : State) (off : Nat) (bs : List Nat) : (kprog s off bs).sav = s.sav :=
  (keep_kprog (Sub.refl _) (Keeps.refl _ s) : Keeps _ s ((kprog s off bs))).same .sav rfl
@[simp] theorem fr_kprog_gov (s : State) (off : Nat) (bs : List Nat) : (kprog s off bs).gov = s.gov :=
  (keep_kprog (Sub.refl _) (Keeps.refl _ s) : Keeps _ s ((kprog s off bs))).same .gov rfl
@[simp] theorem fr_kprog_maps (s : State) (off : Nat) (bs : List Nat) : (kprog s off bs).maps = s.maps :=
  (keep_kprog (Sub.refl _) (Keeps.refl _ s) : Keeps _ s ((kprog s off bs))).same .maps rfl
@[simp] theorem fr_kprog_log (s : State) (off : Nat) (bs : List Nat) : (kprog s off bs).log = s.log :=
  (keep_kprog (Sub.refl _) (Keeps.refl _ s) : Keeps _ s ((kprog s off bs))).same .log rfl
@[simp] theorem fr_kprog_trn (s : State) (off : Nat) (bs : List Nat) : (kprog s off bs).trn = s.trn :=
  (keep_kprog (Sub.refl _) (Keeps.refl _ s) : Keeps _ s ((kprog s off bs))).same .trn rfl
@[simp] theorem fr_kprog_dram (s : State) (off : Nat) (bs : List Nat) : (kprog s off bs).dram = s.dram :=
  (keep_kprog (Sub.refl _) (Keeps.refl _ s) : Keeps _ s ((kprog s off bs))).same .dram rfl
@[simp] theorem fr_kprog_drc (s : State) (off : Nat) (bs : List Nat) : (kprog s off bs).drc = s.drc :=
  (keep_kprog (Sub.refl _) (Keeps.refl _ s) : Keeps _ s ((kprog s off bs))).same .drc rfl
@[simp] theorem fr_kprog_grm (s : State) (off : Nat) (bs : List Nat) : (kprog s off bs).grm = s.grm :=
  (keep_kprog (Sub.refl _) (Keeps.refl _ s) : Keeps _ s ((kprog s off bs))).same .grm rfl
@[simp] theorem fr_kprog_far (s : State) (off : Nat) (bs : List Nat) : (kprog s off bs).far = s.far :=
  (keep_kprog (Sub.refl _) (Keeps.refl _ s) : Keeps _ s ((kprog s off bs))).same .far rfl
@[simp] theorem fr_kprog_stf (s : State) (off : Nat) (bs : List Nat) : (kprog s off bs).stf = s.stf :=
  (keep_kprog (Sub.refl _) (Keeps.refl _ s) : Keeps _ s ((kprog s off bs))).same .stf rfl
@[simp] theorem fr_kprog_tie (s : State) (off : Nat) (bs : List Nat) : (kprog s off bs).tie = s.tie :=
  (keep_kprog (Sub.refl _) (Keeps.refl _ s) : Keeps _ s ((kprog s off bs))).same .tie rfl
@[simp] theorem fr_kprog_mst (s : State) (off : Nat) (bs : List Nat) : (kprog s off bs).mst = s.mst :=
  (keep_kprog (Sub.refl _) (Keeps.refl _ s) : Keeps _ s ((kprog s off bs))).same .mst rfl
@[simp] theorem fr_kprog_xpt (s : State) (off : Nat) (bs : List Nat) : (kprog s off bs).xpt = s.xpt :=
  (keep_kprog (Sub.refl _) (Keeps.refl _ s) : Keeps _ s ((kprog s off bs))).same .xpt rfl
@[simp] theorem fr_kprog_prt (s : State) (off : Nat) (bs : List Nat) : (kprog s off bs).prt = s.prt :=
  (keep_kprog (Sub.refl _) (Keeps.refl _ s) : Keeps _ s ((kprog s off bs))).same .prt rfl
@[simp] theorem fr_kprog_twn (s : State) (off : Nat) (bs : List Nat) : (kprog s off bs).twn = s.twn :=
  (keep_kprog (Sub.refl _) (Keeps.refl _ s) : Keeps _ s ((kprog s off bs))).same .twn rfl
@[simp] theorem fr_kprog_draws (s : State) (off : Nat) (bs : List Nat) : (kprog s off bs).draws = s.draws :=
  (keep_kprog (Sub.refl _) (Keeps.refl _ s) : Keeps _ s ((kprog s off bs))).same .draws rfl
@[simp] theorem fr_kprog_out (s : State) (off : Nat) (bs : List Nat) : (kprog s off bs).out = s.out :=
  (keep_kprog (Sub.refl _) (Keeps.refl _ s) : Keeps _ s ((kprog s off bs))).same .out rfl
@[simp] theorem fr_kprog_now (s : State) (off : Nat) (bs : List Nat) : (kprog s off bs).now = s.now :=
  (keep_kprog (Sub.refl _) (Keeps.refl _ s) : Keeps _ s ((kprog s off bs))).now
@[simp] theorem fr_kprog_pending (s : State) (off : Nat) (bs : List Nat) : (kprog s off bs).pending = s.pending :=
  (keep_kprog (Sub.refl _) (Keeps.refl _ s) : Keeps _ s ((kprog s off bs))).pend
@[simp] theorem fr_commitAppend_dev (s : State) (kind : Nat) (reason : Nat) (part : Nat) (rollback : Nat) (version : List Nat) : (commitAppend s kind reason part rollback version).dev = s.dev :=
  (keep_commitAppend (Sub.refl _) (Keeps.refl _ s) : Keeps _ s ((commitAppend s kind reason part rollback version))).same .dev rfl
@[simp] theorem fr_commitAppend_fuses (s : State) (kind : Nat) (reason : Nat) (part : Nat) (rollback : Nat) (version : List Nat) : (commitAppend s kind reason part rollback version).fuses = s.fuses :=
  (keep_commitAppend (Sub.refl _) (Keeps.refl _ s) : Keeps _ s ((commitAppend s kind reason part rollback version))).same .fuses rfl
@[simp] theorem fr_commitAppend_gai (s : State) (kind : Nat) (reason : Nat) (part : Nat) (rollback : Nat) (version : List Nat) : (commitAppend s kind reason part rollback version).gai = s.gai :=
  (keep_commitAppend (Sub.refl _) (Keeps.refl _ s) : Keeps _ s ((commitAppend s kind reason part rollback version))).same .gai rfl
@[simp] theorem fr_commitAppend_pwr (s : State) (kind : Nat) (reason : Nat) (part : Nat) (rollback : Nat) (version : List Nat) : (commitAppend s kind reason part rollback version).pwr = s.pwr :=
  (keep_commitAppend (Sub.refl _) (Keeps.refl _ s) : Keeps _ s ((commitAppend s kind reason part rollback version))).same .pwr rfl
@[simp] theorem fr_commitAppend_rst (s : State) (kind : Nat) (reason : Nat) (part : Nat) (rollback : Nat) (version : List Nat) : (commitAppend s kind reason part rollback version).rst = s.rst :=
  (keep_commitAppend (Sub.refl _) (Keeps.refl _ s) : Keeps _ s ((commitAppend s kind reason part rollback version))).same .rst rfl
@[simp] theorem fr_commitAppend_tack (s : State) (kind : Nat) (reason : Nat) (part : Nat) (rollback : Nat) (version : List Nat) : (commitAppend s kind reason part rollback version).tack = s.tack :=
  (keep_commitAppend (Sub.refl _) (Keeps.refl _ s) : Keeps _ s ((commitAppend s kind reason part rollback version))).same .tack rfl
@[simp] theorem fr_commitAppend_recd (s : State) (kind : Nat) (reason : Nat) (part : Nat) (rollback : Nat) (version : List Nat) : (commitAppend s kind reason part rollback version).recd = s.recd :=
  (keep_commitAppend (Sub.refl _) (Keeps.refl _ s) : Keeps _ s ((commitAppend s kind reason part rollback version))).same .recd rfl
@[simp] theorem fr_commitAppend_dic (s : State) (kind : Nat) (reason : Nat) (part : Nat) (rollback : Nat) (version : List Nat) : (commitAppend s kind reason part rollback version).dic = s.dic :=
  (keep_commitAppend (Sub.refl _) (Keeps.refl _ s) : Keeps _ s ((commitAppend s kind reason part rollback version))).same .dic rfl
@[simp] theorem fr_commitAppend_pci (s : State) (kind : Nat) (reason : Nat) (part : Nat) (rollback : Nat) (version : List Nat) : (commitAppend s kind reason part rollback version).pci = s.pci :=
  (keep_commitAppend (Sub.refl _) (Keeps.refl _ s) : Keeps _ s ((commitAppend s kind reason part rollback version))).same .pci rfl
@[simp] theorem fr_commitAppend_mgtDrops (s : State) (kind : Nat) (reason : Nat) (part : Nat) (rollback : Nat) (version : List Nat) : (commitAppend s kind reason part rollback version).mgtDrops = s.mgtDrops :=
  (keep_commitAppend (Sub.refl _) (Keeps.refl _ s) : Keeps _ s ((commitAppend s kind reason part rollback version))).same .mgtDrops rfl
@[simp] theorem fr_commitAppend_cpx (s : State) (kind : Nat) (reason : Nat) (part : Nat) (rollback : Nat) (version : List Nat) : (commitAppend s kind reason part rollback version).cpx = s.cpx :=
  (keep_commitAppend (Sub.refl _) (Keeps.refl _ s) : Keeps _ s ((commitAppend s kind reason part rollback version))).same .cpx rfl
@[simp] theorem fr_commitAppend_svc (s : State) (kind : Nat) (reason : Nat) (part : Nat) (rollback : Nat) (version : List Nat) : (commitAppend s kind reason part rollback version).svc = s.svc :=
  (keep_commitAppend (Sub.refl _) (Keeps.refl _ s) : Keeps _ s ((commitAppend s kind reason part rollback version))).same .svc rfl
@[simp] theorem fr_commitAppend_key (s : State) (kind : Nat) (reason : Nat) (part : Nat) (rollback : Nat) (version : List Nat) : (commitAppend s kind reason part rollback version).key = s.key :=
  (keep_commitAppend (Sub.refl _) (Keeps.refl _ s) : Keeps _ s ((commitAppend s kind reason part rollback version))).same .key rfl
@[simp] theorem fr_commitAppend_clk (s : State) (kind : Nat) (reason : Nat) (part : Nat) (rollback : Nat) (version : List Nat) : (commitAppend s kind reason part rollback version).clk = s.clk :=
  (keep_commitAppend (Sub.refl _) (Keeps.refl _ s) : Keeps _ s ((commitAppend s kind reason part rollback version))).same .clk rfl
@[simp] theorem fr_commitAppend_cal (s : State) (kind : Nat) (reason : Nat) (part : Nat) (rollback : Nat) (version : List Nat) : (commitAppend s kind reason part rollback version).cal = s.cal :=
  (keep_commitAppend (Sub.refl _) (Keeps.refl _ s) : Keeps _ s ((commitAppend s kind reason part rollback version))).same .cal rfl
@[simp] theorem fr_commitAppend_sav (s : State) (kind : Nat) (reason : Nat) (part : Nat) (rollback : Nat) (version : List Nat) : (commitAppend s kind reason part rollback version).sav = s.sav :=
  (keep_commitAppend (Sub.refl _) (Keeps.refl _ s) : Keeps _ s ((commitAppend s kind reason part rollback version))).same .sav rfl
@[simp] theorem fr_commitAppend_gov (s : State) (kind : Nat) (reason : Nat) (part : Nat) (rollback : Nat) (version : List Nat) : (commitAppend s kind reason part rollback version).gov = s.gov :=
  (keep_commitAppend (Sub.refl _) (Keeps.refl _ s) : Keeps _ s ((commitAppend s kind reason part rollback version))).same .gov rfl
@[simp] theorem fr_commitAppend_maps (s : State) (kind : Nat) (reason : Nat) (part : Nat) (rollback : Nat) (version : List Nat) : (commitAppend s kind reason part rollback version).maps = s.maps :=
  (keep_commitAppend (Sub.refl _) (Keeps.refl _ s) : Keeps _ s ((commitAppend s kind reason part rollback version))).same .maps rfl
@[simp] theorem fr_commitAppend_log (s : State) (kind : Nat) (reason : Nat) (part : Nat) (rollback : Nat) (version : List Nat) : (commitAppend s kind reason part rollback version).log = s.log :=
  (keep_commitAppend (Sub.refl _) (Keeps.refl _ s) : Keeps _ s ((commitAppend s kind reason part rollback version))).same .log rfl
@[simp] theorem fr_commitAppend_trn (s : State) (kind : Nat) (reason : Nat) (part : Nat) (rollback : Nat) (version : List Nat) : (commitAppend s kind reason part rollback version).trn = s.trn :=
  (keep_commitAppend (Sub.refl _) (Keeps.refl _ s) : Keeps _ s ((commitAppend s kind reason part rollback version))).same .trn rfl
@[simp] theorem fr_commitAppend_dram (s : State) (kind : Nat) (reason : Nat) (part : Nat) (rollback : Nat) (version : List Nat) : (commitAppend s kind reason part rollback version).dram = s.dram :=
  (keep_commitAppend (Sub.refl _) (Keeps.refl _ s) : Keeps _ s ((commitAppend s kind reason part rollback version))).same .dram rfl
@[simp] theorem fr_commitAppend_drc (s : State) (kind : Nat) (reason : Nat) (part : Nat) (rollback : Nat) (version : List Nat) : (commitAppend s kind reason part rollback version).drc = s.drc :=
  (keep_commitAppend (Sub.refl _) (Keeps.refl _ s) : Keeps _ s ((commitAppend s kind reason part rollback version))).same .drc rfl
@[simp] theorem fr_commitAppend_grm (s : State) (kind : Nat) (reason : Nat) (part : Nat) (rollback : Nat) (version : List Nat) : (commitAppend s kind reason part rollback version).grm = s.grm :=
  (keep_commitAppend (Sub.refl _) (Keeps.refl _ s) : Keeps _ s ((commitAppend s kind reason part rollback version))).same .grm rfl
@[simp] theorem fr_commitAppend_far (s : State) (kind : Nat) (reason : Nat) (part : Nat) (rollback : Nat) (version : List Nat) : (commitAppend s kind reason part rollback version).far = s.far :=
  (keep_commitAppend (Sub.refl _) (Keeps.refl _ s) : Keeps _ s ((commitAppend s kind reason part rollback version))).same .far rfl
@[simp] theorem fr_commitAppend_stf (s : State) (kind : Nat) (reason : Nat) (part : Nat) (rollback : Nat) (version : List Nat) : (commitAppend s kind reason part rollback version).stf = s.stf :=
  (keep_commitAppend (Sub.refl _) (Keeps.refl _ s) : Keeps _ s ((commitAppend s kind reason part rollback version))).same .stf rfl
@[simp] theorem fr_commitAppend_tie (s : State) (kind : Nat) (reason : Nat) (part : Nat) (rollback : Nat) (version : List Nat) : (commitAppend s kind reason part rollback version).tie = s.tie :=
  (keep_commitAppend (Sub.refl _) (Keeps.refl _ s) : Keeps _ s ((commitAppend s kind reason part rollback version))).same .tie rfl
@[simp] theorem fr_commitAppend_mst (s : State) (kind : Nat) (reason : Nat) (part : Nat) (rollback : Nat) (version : List Nat) : (commitAppend s kind reason part rollback version).mst = s.mst :=
  (keep_commitAppend (Sub.refl _) (Keeps.refl _ s) : Keeps _ s ((commitAppend s kind reason part rollback version))).same .mst rfl
@[simp] theorem fr_commitAppend_xpt (s : State) (kind : Nat) (reason : Nat) (part : Nat) (rollback : Nat) (version : List Nat) : (commitAppend s kind reason part rollback version).xpt = s.xpt :=
  (keep_commitAppend (Sub.refl _) (Keeps.refl _ s) : Keeps _ s ((commitAppend s kind reason part rollback version))).same .xpt rfl
@[simp] theorem fr_commitAppend_prt (s : State) (kind : Nat) (reason : Nat) (part : Nat) (rollback : Nat) (version : List Nat) : (commitAppend s kind reason part rollback version).prt = s.prt :=
  (keep_commitAppend (Sub.refl _) (Keeps.refl _ s) : Keeps _ s ((commitAppend s kind reason part rollback version))).same .prt rfl
@[simp] theorem fr_commitAppend_twn (s : State) (kind : Nat) (reason : Nat) (part : Nat) (rollback : Nat) (version : List Nat) : (commitAppend s kind reason part rollback version).twn = s.twn :=
  (keep_commitAppend (Sub.refl _) (Keeps.refl _ s) : Keeps _ s ((commitAppend s kind reason part rollback version))).same .twn rfl
@[simp] theorem fr_commitAppend_draws (s : State) (kind : Nat) (reason : Nat) (part : Nat) (rollback : Nat) (version : List Nat) : (commitAppend s kind reason part rollback version).draws = s.draws :=
  (keep_commitAppend (Sub.refl _) (Keeps.refl _ s) : Keeps _ s ((commitAppend s kind reason part rollback version))).same .draws rfl
@[simp] theorem fr_commitAppend_out (s : State) (kind : Nat) (reason : Nat) (part : Nat) (rollback : Nat) (version : List Nat) : (commitAppend s kind reason part rollback version).out = s.out :=
  (keep_commitAppend (Sub.refl _) (Keeps.refl _ s) : Keeps _ s ((commitAppend s kind reason part rollback version))).same .out rfl
@[simp] theorem fr_commitAppend_now (s : State) (kind : Nat) (reason : Nat) (part : Nat) (rollback : Nat) (version : List Nat) : (commitAppend s kind reason part rollback version).now = s.now :=
  (keep_commitAppend (Sub.refl _) (Keeps.refl _ s) : Keeps _ s ((commitAppend s kind reason part rollback version))).now
@[simp] theorem fr_commitAppend_pending (s : State) (kind : Nat) (reason : Nat) (part : Nat) (rollback : Nat) (version : List Nat) : (commitAppend s kind reason part rollback version).pending = s.pending :=
  (keep_commitAppend (Sub.refl _) (Keeps.refl _ s) : Keeps _ s ((commitAppend s kind reason part rollback version))).pend
@[simp] theorem fr_cmdRun_dev (s : State) (e : Nat) : (cmdRun s e).dev = s.dev :=
  (keep_cmdRun (Sub.refl _) (Keeps.refl _ s) : Keeps _ s ((cmdRun s e))).same .dev rfl
@[simp] theorem fr_cmdRun_regs_val (s : State) (e : Nat) : (cmdRun s e).rf.val = s.rf.val := by
  have e :=
  (keep_cmdRun (Sub.refl _) (Keeps.refl _ s) : Keeps _ s ((cmdRun s e))).same .regs rfl
  exact congrArg (fun x : Sparse Nat × Sparse Nat × Sparse Nat × Sparse Nat => x.1) e
@[simp] theorem fr_cmdRun_regs_shadow (s : State) (e : Nat) : (cmdRun s e).rf.shadow = s.rf.shadow := by
  have e :=
  (keep_cmdRun (Sub.refl _) (Keeps.refl _ s) : Keeps _ s ((cmdRun s e))).same .regs rfl
  exact congrArg (fun x : Sparse Nat × Sparse Nat × Sparse Nat × Sparse Nat => x.2.1) e
@[simp] theorem fr_cmdRun_regs_group (s : State) (e : Nat) : (cmdRun s e).rf.group = s.rf.group := by
  have e :=
  (keep_cmdRun (Sub.refl _) (Keeps.refl _ s) : Keeps _ s ((cmdRun s e))).same .regs rfl
  exact congrArg (fun x : Sparse Nat × Sparse Nat × Sparse Nat × Sparse Nat => x.2.2.1) e
@[simp] theorem fr_cmdRun_regs_since (s : State) (e : Nat) : (cmdRun s e).rf.since = s.rf.since := by
  have e :=
  (keep_cmdRun (Sub.refl _) (Keeps.refl _ s) : Keeps _ s ((cmdRun s e))).same .regs rfl
  exact congrArg (fun x : Sparse Nat × Sparse Nat × Sparse Nat × Sparse Nat => x.2.2.2) e
@[simp] theorem fr_cmdRun_fuses (s : State) (e : Nat) : (cmdRun s e).fuses = s.fuses :=
  (keep_cmdRun (Sub.refl _) (Keeps.refl _ s) : Keeps _ s ((cmdRun s e))).same .fuses rfl
@[simp] theorem fr_cmdRun_gai (s : State) (e : Nat) : (cmdRun s e).gai = s.gai :=
  (keep_cmdRun (Sub.refl _) (Keeps.refl _ s) : Keeps _ s ((cmdRun s e))).same .gai rfl
@[simp] theorem fr_cmdRun_pwr (s : State) (e : Nat) : (cmdRun s e).pwr = s.pwr :=
  (keep_cmdRun (Sub.refl _) (Keeps.refl _ s) : Keeps _ s ((cmdRun s e))).same .pwr rfl
@[simp] theorem fr_cmdRun_rst (s : State) (e : Nat) : (cmdRun s e).rst = s.rst :=
  (keep_cmdRun (Sub.refl _) (Keeps.refl _ s) : Keeps _ s ((cmdRun s e))).same .rst rfl
@[simp] theorem fr_cmdRun_tack (s : State) (e : Nat) : (cmdRun s e).tack = s.tack :=
  (keep_cmdRun (Sub.refl _) (Keeps.refl _ s) : Keeps _ s ((cmdRun s e))).same .tack rfl
@[simp] theorem fr_cmdRun_recd (s : State) (e : Nat) : (cmdRun s e).recd = s.recd :=
  (keep_cmdRun (Sub.refl _) (Keeps.refl _ s) : Keeps _ s ((cmdRun s e))).same .recd rfl
@[simp] theorem fr_cmdRun_pci (s : State) (e : Nat) : (cmdRun s e).pci = s.pci :=
  (keep_cmdRun (Sub.refl _) (Keeps.refl _ s) : Keeps _ s ((cmdRun s e))).same .pci rfl
@[simp] theorem fr_cmdRun_mgtDrops (s : State) (e : Nat) : (cmdRun s e).mgtDrops = s.mgtDrops :=
  (keep_cmdRun (Sub.refl _) (Keeps.refl _ s) : Keeps _ s ((cmdRun s e))).same .mgtDrops rfl
@[simp] theorem fr_cmdRun_cpx (s : State) (e : Nat) : (cmdRun s e).cpx = s.cpx :=
  (keep_cmdRun (Sub.refl _) (Keeps.refl _ s) : Keeps _ s ((cmdRun s e))).same .cpx rfl
@[simp] theorem fr_cmdRun_svc (s : State) (e : Nat) : (cmdRun s e).svc = s.svc :=
  (keep_cmdRun (Sub.refl _) (Keeps.refl _ s) : Keeps _ s ((cmdRun s e))).same .svc rfl
@[simp] theorem fr_cmdRun_key (s : State) (e : Nat) : (cmdRun s e).key = s.key :=
  (keep_cmdRun (Sub.refl _) (Keeps.refl _ s) : Keeps _ s ((cmdRun s e))).same .key rfl
@[simp] theorem fr_cmdRun_kpf (s : State) (e : Nat) : (cmdRun s e).kpf = s.kpf :=
  (keep_cmdRun (Sub.refl _) (Keeps.refl _ s) : Keeps _ s ((cmdRun s e))).same .kpf rfl
@[simp] theorem fr_cmdRun_clk (s : State) (e : Nat) : (cmdRun s e).clk = s.clk :=
  (keep_cmdRun (Sub.refl _) (Keeps.refl _ s) : Keeps _ s ((cmdRun s e))).same .clk rfl
@[simp] theorem fr_cmdRun_cal (s : State) (e : Nat) : (cmdRun s e).cal = s.cal :=
  (keep_cmdRun (Sub.refl _) (Keeps.refl _ s) : Keeps _ s ((cmdRun s e))).same .cal rfl
@[simp] theorem fr_cmdRun_sav (s : State) (e : Nat) : (cmdRun s e).sav = s.sav :=
  (keep_cmdRun (Sub.refl _) (Keeps.refl _ s) : Keeps _ s ((cmdRun s e))).same .sav rfl
@[simp] theorem fr_cmdRun_gov (s : State) (e : Nat) : (cmdRun s e).gov = s.gov :=
  (keep_cmdRun (Sub.refl _) (Keeps.refl _ s) : Keeps _ s ((cmdRun s e))).same .gov rfl
@[simp] theorem fr_cmdRun_maps (s : State) (e : Nat) : (cmdRun s e).maps = s.maps :=
  (keep_cmdRun (Sub.refl _) (Keeps.refl _ s) : Keeps _ s ((cmdRun s e))).same .maps rfl
@[simp] theorem fr_cmdRun_log (s : State) (e : Nat) : (cmdRun s e).log = s.log :=
  (keep_cmdRun (Sub.refl _) (Keeps.refl _ s) : Keeps _ s ((cmdRun s e))).same .log rfl
@[simp] theorem fr_cmdRun_trn (s : State) (e : Nat) : (cmdRun s e).trn = s.trn :=
  (keep_cmdRun (Sub.refl _) (Keeps.refl _ s) : Keeps _ s ((cmdRun s e))).same .trn rfl
@[simp] theorem fr_cmdRun_dram (s : State) (e : Nat) : (cmdRun s e).dram = s.dram :=
  (keep_cmdRun (Sub.refl _) (Keeps.refl _ s) : Keeps _ s ((cmdRun s e))).same .dram rfl
@[simp] theorem fr_cmdRun_drc (s : State) (e : Nat) : (cmdRun s e).drc = s.drc :=
  (keep_cmdRun (Sub.refl _) (Keeps.refl _ s) : Keeps _ s ((cmdRun s e))).same .drc rfl
@[simp] theorem fr_cmdRun_grm (s : State) (e : Nat) : (cmdRun s e).grm = s.grm :=
  (keep_cmdRun (Sub.refl _) (Keeps.refl _ s) : Keeps _ s ((cmdRun s e))).same .grm rfl
@[simp] theorem fr_cmdRun_far (s : State) (e : Nat) : (cmdRun s e).far = s.far :=
  (keep_cmdRun (Sub.refl _) (Keeps.refl _ s) : Keeps _ s ((cmdRun s e))).same .far rfl
@[simp] theorem fr_cmdRun_stf (s : State) (e : Nat) : (cmdRun s e).stf = s.stf :=
  (keep_cmdRun (Sub.refl _) (Keeps.refl _ s) : Keeps _ s ((cmdRun s e))).same .stf rfl
@[simp] theorem fr_cmdRun_tie (s : State) (e : Nat) : (cmdRun s e).tie = s.tie :=
  (keep_cmdRun (Sub.refl _) (Keeps.refl _ s) : Keeps _ s ((cmdRun s e))).same .tie rfl
@[simp] theorem fr_cmdRun_mst (s : State) (e : Nat) : (cmdRun s e).mst = s.mst :=
  (keep_cmdRun (Sub.refl _) (Keeps.refl _ s) : Keeps _ s ((cmdRun s e))).same .mst rfl
@[simp] theorem fr_cmdRun_xpt (s : State) (e : Nat) : (cmdRun s e).xpt = s.xpt :=
  (keep_cmdRun (Sub.refl _) (Keeps.refl _ s) : Keeps _ s ((cmdRun s e))).same .xpt rfl
@[simp] theorem fr_cmdRun_prt (s : State) (e : Nat) : (cmdRun s e).prt = s.prt :=
  (keep_cmdRun (Sub.refl _) (Keeps.refl _ s) : Keeps _ s ((cmdRun s e))).same .prt rfl
@[simp] theorem fr_cmdRun_twn (s : State) (e : Nat) : (cmdRun s e).twn = s.twn :=
  (keep_cmdRun (Sub.refl _) (Keeps.refl _ s) : Keeps _ s ((cmdRun s e))).same .twn rfl
@[simp] theorem fr_cmdRun_draws (s : State) (e : Nat) : (cmdRun s e).draws = s.draws :=
  (keep_cmdRun (Sub.refl _) (Keeps.refl _ s) : Keeps _ s ((cmdRun s e))).same .draws rfl
@[simp] theorem fr_cmdRun_out (s : State) (e : Nat) : (cmdRun s e).out = s.out :=
  (keep_cmdRun (Sub.refl _) (Keeps.refl _ s) : Keeps _ s ((cmdRun s e))).same .out rfl
@[simp] theorem fr_cmdRun_ctrs_c (s : State) (e : Nat) : (cmdRun s e).rf.ctr = s.rf.ctr := by
  have e :=
  (keep_cmdRun (Sub.refl _) (Keeps.refl _ s) : Keeps _ s ((cmdRun s e))).same .ctrs rfl
  exact congrArg (fun x : Sparse Nat × Sparse Nat × Sparse Nat => x.1) e
@[simp] theorem fr_cmdRun_now (s : State) (e : Nat) : (cmdRun s e).now = s.now :=
  (keep_cmdRun (Sub.refl _) (Keeps.refl _ s) : Keeps _ s ((cmdRun s e))).now
@[simp] theorem fr_cmdRun_pending (s : State) (e : Nat) : (cmdRun s e).pending = s.pending :=
  (keep_cmdRun (Sub.refl _) (Keeps.refl _ s) : Keeps _ s ((cmdRun s e))).pend
@[simp] theorem fr_checkpoint_dev (s : State) : (checkpoint s).dev = s.dev :=
  (keep_checkpoint (Sub.refl _) (Keeps.refl _ s) : Keeps _ s ((checkpoint s))).same .dev rfl
@[simp] theorem fr_checkpoint_fuses (s : State) : (checkpoint s).fuses = s.fuses :=
  (keep_checkpoint (Sub.refl _) (Keeps.refl _ s) : Keeps _ s ((checkpoint s))).same .fuses rfl
@[simp] theorem fr_checkpoint_gai (s : State) : (checkpoint s).gai = s.gai :=
  (keep_checkpoint (Sub.refl _) (Keeps.refl _ s) : Keeps _ s ((checkpoint s))).same .gai rfl
@[simp] theorem fr_checkpoint_pwr (s : State) : (checkpoint s).pwr = s.pwr :=
  (keep_checkpoint (Sub.refl _) (Keeps.refl _ s) : Keeps _ s ((checkpoint s))).same .pwr rfl
@[simp] theorem fr_checkpoint_rst (s : State) : (checkpoint s).rst = s.rst :=
  (keep_checkpoint (Sub.refl _) (Keeps.refl _ s) : Keeps _ s ((checkpoint s))).same .rst rfl
@[simp] theorem fr_checkpoint_tack (s : State) : (checkpoint s).tack = s.tack :=
  (keep_checkpoint (Sub.refl _) (Keeps.refl _ s) : Keeps _ s ((checkpoint s))).same .tack rfl
@[simp] theorem fr_checkpoint_recd (s : State) : (checkpoint s).recd = s.recd :=
  (keep_checkpoint (Sub.refl _) (Keeps.refl _ s) : Keeps _ s ((checkpoint s))).same .recd rfl
@[simp] theorem fr_checkpoint_dic (s : State) : (checkpoint s).dic = s.dic :=
  (keep_checkpoint (Sub.refl _) (Keeps.refl _ s) : Keeps _ s ((checkpoint s))).same .dic rfl
@[simp] theorem fr_checkpoint_pci (s : State) : (checkpoint s).pci = s.pci :=
  (keep_checkpoint (Sub.refl _) (Keeps.refl _ s) : Keeps _ s ((checkpoint s))).same .pci rfl
@[simp] theorem fr_checkpoint_mgtDrops (s : State) : (checkpoint s).mgtDrops = s.mgtDrops :=
  (keep_checkpoint (Sub.refl _) (Keeps.refl _ s) : Keeps _ s ((checkpoint s))).same .mgtDrops rfl
@[simp] theorem fr_checkpoint_svc (s : State) : (checkpoint s).svc = s.svc :=
  (keep_checkpoint (Sub.refl _) (Keeps.refl _ s) : Keeps _ s ((checkpoint s))).same .svc rfl
@[simp] theorem fr_checkpoint_key (s : State) : (checkpoint s).key = s.key :=
  (keep_checkpoint (Sub.refl _) (Keeps.refl _ s) : Keeps _ s ((checkpoint s))).same .key rfl
@[simp] theorem fr_checkpoint_kpf (s : State) : (checkpoint s).kpf = s.kpf :=
  (keep_checkpoint (Sub.refl _) (Keeps.refl _ s) : Keeps _ s ((checkpoint s))).same .kpf rfl
@[simp] theorem fr_checkpoint_clk (s : State) : (checkpoint s).clk = s.clk :=
  (keep_checkpoint (Sub.refl _) (Keeps.refl _ s) : Keeps _ s ((checkpoint s))).same .clk rfl
@[simp] theorem fr_checkpoint_cal (s : State) : (checkpoint s).cal = s.cal :=
  (keep_checkpoint (Sub.refl _) (Keeps.refl _ s) : Keeps _ s ((checkpoint s))).same .cal rfl
@[simp] theorem fr_checkpoint_sav (s : State) : (checkpoint s).sav = s.sav :=
  (keep_checkpoint (Sub.refl _) (Keeps.refl _ s) : Keeps _ s ((checkpoint s))).same .sav rfl
@[simp] theorem fr_checkpoint_gov (s : State) : (checkpoint s).gov = s.gov :=
  (keep_checkpoint (Sub.refl _) (Keeps.refl _ s) : Keeps _ s ((checkpoint s))).same .gov rfl
@[simp] theorem fr_checkpoint_maps (s : State) : (checkpoint s).maps = s.maps :=
  (keep_checkpoint (Sub.refl _) (Keeps.refl _ s) : Keeps _ s ((checkpoint s))).same .maps rfl
@[simp] theorem fr_checkpoint_log (s : State) : (checkpoint s).log = s.log :=
  (keep_checkpoint (Sub.refl _) (Keeps.refl _ s) : Keeps _ s ((checkpoint s))).same .log rfl
@[simp] theorem fr_checkpoint_trn (s : State) : (checkpoint s).trn = s.trn :=
  (keep_checkpoint (Sub.refl _) (Keeps.refl _ s) : Keeps _ s ((checkpoint s))).same .trn rfl
@[simp] theorem fr_checkpoint_dram (s : State) : (checkpoint s).dram = s.dram :=
  (keep_checkpoint (Sub.refl _) (Keeps.refl _ s) : Keeps _ s ((checkpoint s))).same .dram rfl
@[simp] theorem fr_checkpoint_drc (s : State) : (checkpoint s).drc = s.drc :=
  (keep_checkpoint (Sub.refl _) (Keeps.refl _ s) : Keeps _ s ((checkpoint s))).same .drc rfl
@[simp] theorem fr_checkpoint_grm (s : State) : (checkpoint s).grm = s.grm :=
  (keep_checkpoint (Sub.refl _) (Keeps.refl _ s) : Keeps _ s ((checkpoint s))).same .grm rfl
@[simp] theorem fr_checkpoint_far (s : State) : (checkpoint s).far = s.far :=
  (keep_checkpoint (Sub.refl _) (Keeps.refl _ s) : Keeps _ s ((checkpoint s))).same .far rfl
@[simp] theorem fr_checkpoint_stf (s : State) : (checkpoint s).stf = s.stf :=
  (keep_checkpoint (Sub.refl _) (Keeps.refl _ s) : Keeps _ s ((checkpoint s))).same .stf rfl
@[simp] theorem fr_checkpoint_tie (s : State) : (checkpoint s).tie = s.tie :=
  (keep_checkpoint (Sub.refl _) (Keeps.refl _ s) : Keeps _ s ((checkpoint s))).same .tie rfl
@[simp] theorem fr_checkpoint_mst (s : State) : (checkpoint s).mst = s.mst :=
  (keep_checkpoint (Sub.refl _) (Keeps.refl _ s) : Keeps _ s ((checkpoint s))).same .mst rfl
@[simp] theorem fr_checkpoint_xpt (s : State) : (checkpoint s).xpt = s.xpt :=
  (keep_checkpoint (Sub.refl _) (Keeps.refl _ s) : Keeps _ s ((checkpoint s))).same .xpt rfl
@[simp] theorem fr_checkpoint_prt (s : State) : (checkpoint s).prt = s.prt :=
  (keep_checkpoint (Sub.refl _) (Keeps.refl _ s) : Keeps _ s ((checkpoint s))).same .prt rfl
@[simp] theorem fr_checkpoint_twn (s : State) : (checkpoint s).twn = s.twn :=
  (keep_checkpoint (Sub.refl _) (Keeps.refl _ s) : Keeps _ s ((checkpoint s))).same .twn rfl
@[simp] theorem fr_checkpoint_draws (s : State) : (checkpoint s).draws = s.draws :=
  (keep_checkpoint (Sub.refl _) (Keeps.refl _ s) : Keeps _ s ((checkpoint s))).same .draws rfl
@[simp] theorem fr_checkpoint_out (s : State) : (checkpoint s).out = s.out :=
  (keep_checkpoint (Sub.refl _) (Keeps.refl _ s) : Keeps _ s ((checkpoint s))).same .out rfl
@[simp] theorem fr_checkpoint_now (s : State) : (checkpoint s).now = s.now :=
  (keep_checkpoint (Sub.refl _) (Keeps.refl _ s) : Keeps _ s ((checkpoint s))).now
@[simp] theorem fr_checkpoint_pending (s : State) : (checkpoint s).pending = s.pending :=
  (keep_checkpoint (Sub.refl _) (Keeps.refl _ s) : Keeps _ s ((checkpoint s))).pend
@[simp] theorem fr_switchEvent_dev (s : State) (op : Nat) (c : Nat) (ok : Bool) : (switchEvent s op c ok).dev = s.dev :=
  (keep_switchEvent (Sub.refl _) (Keeps.refl _ s) : Keeps _ s ((switchEvent s op c ok))).same .dev rfl
@[simp] theorem fr_switchEvent_fuses (s : State) (op : Nat) (c : Nat) (ok : Bool) : (switchEvent s op c ok).fuses = s.fuses :=
  (keep_switchEvent (Sub.refl _) (Keeps.refl _ s) : Keeps _ s ((switchEvent s op c ok))).same .fuses rfl
@[simp] theorem fr_switchEvent_gai (s : State) (op : Nat) (c : Nat) (ok : Bool) : (switchEvent s op c ok).gai = s.gai :=
  (keep_switchEvent (Sub.refl _) (Keeps.refl _ s) : Keeps _ s ((switchEvent s op c ok))).same .gai rfl
@[simp] theorem fr_switchEvent_pwr (s : State) (op : Nat) (c : Nat) (ok : Bool) : (switchEvent s op c ok).pwr = s.pwr :=
  (keep_switchEvent (Sub.refl _) (Keeps.refl _ s) : Keeps _ s ((switchEvent s op c ok))).same .pwr rfl
@[simp] theorem fr_switchEvent_rst (s : State) (op : Nat) (c : Nat) (ok : Bool) : (switchEvent s op c ok).rst = s.rst :=
  (keep_switchEvent (Sub.refl _) (Keeps.refl _ s) : Keeps _ s ((switchEvent s op c ok))).same .rst rfl
@[simp] theorem fr_switchEvent_dic (s : State) (op : Nat) (c : Nat) (ok : Bool) : (switchEvent s op c ok).dic = s.dic :=
  (keep_switchEvent (Sub.refl _) (Keeps.refl _ s) : Keeps _ s ((switchEvent s op c ok))).same .dic rfl
@[simp] theorem fr_switchEvent_pci (s : State) (op : Nat) (c : Nat) (ok : Bool) : (switchEvent s op c ok).pci = s.pci :=
  (keep_switchEvent (Sub.refl _) (Keeps.refl _ s) : Keeps _ s ((switchEvent s op c ok))).same .pci rfl
@[simp] theorem fr_switchEvent_mgtDrops (s : State) (op : Nat) (c : Nat) (ok : Bool) : (switchEvent s op c ok).mgtDrops = s.mgtDrops :=
  (keep_switchEvent (Sub.refl _) (Keeps.refl _ s) : Keeps _ s ((switchEvent s op c ok))).same .mgtDrops rfl
@[simp] theorem fr_switchEvent_cpx (s : State) (op : Nat) (c : Nat) (ok : Bool) : (switchEvent s op c ok).cpx = s.cpx :=
  (keep_switchEvent (Sub.refl _) (Keeps.refl _ s) : Keeps _ s ((switchEvent s op c ok))).same .cpx rfl
@[simp] theorem fr_switchEvent_svc (s : State) (op : Nat) (c : Nat) (ok : Bool) : (switchEvent s op c ok).svc = s.svc :=
  (keep_switchEvent (Sub.refl _) (Keeps.refl _ s) : Keeps _ s ((switchEvent s op c ok))).same .svc rfl
@[simp] theorem fr_switchEvent_key (s : State) (op : Nat) (c : Nat) (ok : Bool) : (switchEvent s op c ok).key = s.key :=
  (keep_switchEvent (Sub.refl _) (Keeps.refl _ s) : Keeps _ s ((switchEvent s op c ok))).same .key rfl
@[simp] theorem fr_switchEvent_kpf (s : State) (op : Nat) (c : Nat) (ok : Bool) : (switchEvent s op c ok).kpf = s.kpf :=
  (keep_switchEvent (Sub.refl _) (Keeps.refl _ s) : Keeps _ s ((switchEvent s op c ok))).same .kpf rfl
@[simp] theorem fr_switchEvent_clk (s : State) (op : Nat) (c : Nat) (ok : Bool) : (switchEvent s op c ok).clk = s.clk :=
  (keep_switchEvent (Sub.refl _) (Keeps.refl _ s) : Keeps _ s ((switchEvent s op c ok))).same .clk rfl
@[simp] theorem fr_switchEvent_cal (s : State) (op : Nat) (c : Nat) (ok : Bool) : (switchEvent s op c ok).cal = s.cal :=
  (keep_switchEvent (Sub.refl _) (Keeps.refl _ s) : Keeps _ s ((switchEvent s op c ok))).same .cal rfl
@[simp] theorem fr_switchEvent_sav (s : State) (op : Nat) (c : Nat) (ok : Bool) : (switchEvent s op c ok).sav = s.sav :=
  (keep_switchEvent (Sub.refl _) (Keeps.refl _ s) : Keeps _ s ((switchEvent s op c ok))).same .sav rfl
@[simp] theorem fr_switchEvent_gov (s : State) (op : Nat) (c : Nat) (ok : Bool) : (switchEvent s op c ok).gov = s.gov :=
  (keep_switchEvent (Sub.refl _) (Keeps.refl _ s) : Keeps _ s ((switchEvent s op c ok))).same .gov rfl
@[simp] theorem fr_switchEvent_maps (s : State) (op : Nat) (c : Nat) (ok : Bool) : (switchEvent s op c ok).maps = s.maps :=
  (keep_switchEvent (Sub.refl _) (Keeps.refl _ s) : Keeps _ s ((switchEvent s op c ok))).same .maps rfl
@[simp] theorem fr_switchEvent_log (s : State) (op : Nat) (c : Nat) (ok : Bool) : (switchEvent s op c ok).log = s.log :=
  (keep_switchEvent (Sub.refl _) (Keeps.refl _ s) : Keeps _ s ((switchEvent s op c ok))).same .log rfl
@[simp] theorem fr_switchEvent_trn (s : State) (op : Nat) (c : Nat) (ok : Bool) : (switchEvent s op c ok).trn = s.trn :=
  (keep_switchEvent (Sub.refl _) (Keeps.refl _ s) : Keeps _ s ((switchEvent s op c ok))).same .trn rfl
@[simp] theorem fr_switchEvent_dram (s : State) (op : Nat) (c : Nat) (ok : Bool) : (switchEvent s op c ok).dram = s.dram :=
  (keep_switchEvent (Sub.refl _) (Keeps.refl _ s) : Keeps _ s ((switchEvent s op c ok))).same .dram rfl
@[simp] theorem fr_switchEvent_drc (s : State) (op : Nat) (c : Nat) (ok : Bool) : (switchEvent s op c ok).drc = s.drc :=
  (keep_switchEvent (Sub.refl _) (Keeps.refl _ s) : Keeps _ s ((switchEvent s op c ok))).same .drc rfl
@[simp] theorem fr_switchEvent_grm (s : State) (op : Nat) (c : Nat) (ok : Bool) : (switchEvent s op c ok).grm = s.grm :=
  (keep_switchEvent (Sub.refl _) (Keeps.refl _ s) : Keeps _ s ((switchEvent s op c ok))).same .grm rfl
@[simp] theorem fr_switchEvent_far (s : State) (op : Nat) (c : Nat) (ok : Bool) : (switchEvent s op c ok).far = s.far :=
  (keep_switchEvent (Sub.refl _) (Keeps.refl _ s) : Keeps _ s ((switchEvent s op c ok))).same .far rfl
@[simp] theorem fr_switchEvent_stf (s : State) (op : Nat) (c : Nat) (ok : Bool) : (switchEvent s op c ok).stf = s.stf :=
  (keep_switchEvent (Sub.refl _) (Keeps.refl _ s) : Keeps _ s ((switchEvent s op c ok))).same .stf rfl
@[simp] theorem fr_switchEvent_tie (s : State) (op : Nat) (c : Nat) (ok : Bool) : (switchEvent s op c ok).tie = s.tie :=
  (keep_switchEvent (Sub.refl _) (Keeps.refl _ s) : Keeps _ s ((switchEvent s op c ok))).same .tie rfl
@[simp] theorem fr_switchEvent_mst (s : State) (op : Nat) (c : Nat) (ok : Bool) : (switchEvent s op c ok).mst = s.mst :=
  (keep_switchEvent (Sub.refl _) (Keeps.refl _ s) : Keeps _ s ((switchEvent s op c ok))).same .mst rfl
@[simp] theorem fr_switchEvent_xpt (s : State) (op : Nat) (c : Nat) (ok : Bool) : (switchEvent s op c ok).xpt = s.xpt :=
  (keep_switchEvent (Sub.refl _) (Keeps.refl _ s) : Keeps _ s ((switchEvent s op c ok))).same .xpt rfl
@[simp] theorem fr_switchEvent_prt (s : State) (op : Nat) (c : Nat) (ok : Bool) : (switchEvent s op c ok).prt = s.prt :=
  (keep_switchEvent (Sub.refl _) (Keeps.refl _ s) : Keeps _ s ((switchEvent s op c ok))).same .prt rfl
@[simp] theorem fr_switchEvent_twn (s : State) (op : Nat) (c : Nat) (ok : Bool) : (switchEvent s op c ok).twn = s.twn :=
  (keep_switchEvent (Sub.refl _) (Keeps.refl _ s) : Keeps _ s ((switchEvent s op c ok))).same .twn rfl
@[simp] theorem fr_switchEvent_draws (s : State) (op : Nat) (c : Nat) (ok : Bool) : (switchEvent s op c ok).draws = s.draws :=
  (keep_switchEvent (Sub.refl _) (Keeps.refl _ s) : Keeps _ s ((switchEvent s op c ok))).same .draws rfl
@[simp] theorem fr_switchEvent_now (s : State) (op : Nat) (c : Nat) (ok : Bool) : (switchEvent s op c ok).now = s.now :=
  (keep_switchEvent (Sub.refl _) (Keeps.refl _ s) : Keeps _ s ((switchEvent s op c ok))).now
@[simp] theorem fr_switchEvent_pending (s : State) (op : Nat) (c : Nat) (ok : Bool) : (switchEvent s op c ok).pending = s.pending :=
  (keep_switchEvent (Sub.refl _) (Keeps.refl _ s) : Keeps _ s ((switchEvent s op c ok))).pend
@[simp] theorem fr_runWork_cpx (s : State) : (runWork s).cpx = s.cpx :=
  (keep_runWork (Sub.refl _) (Keeps.refl _ s) : Keeps _ s ((runWork s))).same .cpx rfl
@[simp] theorem fr_runMapq_cpx (s : State) : (runMapq s).cpx = s.cpx :=
  (keep_runMapq (Sub.refl _) (Keeps.refl _ s) : Keeps _ s ((runMapq s))).same .cpx rfl
@[simp] theorem fr_tenCtl_tie (op : Nat) (i : Fin 1024) (s : State) : (tenCtl op i s).tie = s.tie :=
  (keep_tenCtl (Sub.refl _) (Keeps.refl _ s) : Keeps _ s ((tenCtl op i s))).same .tie rfl
@[simp] theorem fr_showKpf_dev (s : State) : (showKpf s).dev = s.dev :=
  (keep_showKpf (Sub.refl _) (Keeps.refl _ s) : Keeps _ s ((showKpf s))).same .dev rfl
@[simp] theorem fr_showKpf_fuses (s : State) : (showKpf s).fuses = s.fuses :=
  (keep_showKpf (Sub.refl _) (Keeps.refl _ s) : Keeps _ s ((showKpf s))).same .fuses rfl
@[simp] theorem fr_showKpf_gai (s : State) : (showKpf s).gai = s.gai :=
  (keep_showKpf (Sub.refl _) (Keeps.refl _ s) : Keeps _ s ((showKpf s))).same .gai rfl
@[simp] theorem fr_showKpf_pwr (s : State) : (showKpf s).pwr = s.pwr :=
  (keep_showKpf (Sub.refl _) (Keeps.refl _ s) : Keeps _ s ((showKpf s))).same .pwr rfl
@[simp] theorem fr_showKpf_rst (s : State) : (showKpf s).rst = s.rst :=
  (keep_showKpf (Sub.refl _) (Keeps.refl _ s) : Keeps _ s ((showKpf s))).same .rst rfl
@[simp] theorem fr_showKpf_tack (s : State) : (showKpf s).tack = s.tack :=
  (keep_showKpf (Sub.refl _) (Keeps.refl _ s) : Keeps _ s ((showKpf s))).same .tack rfl
@[simp] theorem fr_showKpf_recd (s : State) : (showKpf s).recd = s.recd :=
  (keep_showKpf (Sub.refl _) (Keeps.refl _ s) : Keeps _ s ((showKpf s))).same .recd rfl
@[simp] theorem fr_showKpf_dic (s : State) : (showKpf s).dic = s.dic :=
  (keep_showKpf (Sub.refl _) (Keeps.refl _ s) : Keeps _ s ((showKpf s))).same .dic rfl
@[simp] theorem fr_showKpf_pci (s : State) : (showKpf s).pci = s.pci :=
  (keep_showKpf (Sub.refl _) (Keeps.refl _ s) : Keeps _ s ((showKpf s))).same .pci rfl
@[simp] theorem fr_showKpf_mgtDrops (s : State) : (showKpf s).mgtDrops = s.mgtDrops :=
  (keep_showKpf (Sub.refl _) (Keeps.refl _ s) : Keeps _ s ((showKpf s))).same .mgtDrops rfl
@[simp] theorem fr_showKpf_cpx (s : State) : (showKpf s).cpx = s.cpx :=
  (keep_showKpf (Sub.refl _) (Keeps.refl _ s) : Keeps _ s ((showKpf s))).same .cpx rfl
@[simp] theorem fr_showKpf_svc (s : State) : (showKpf s).svc = s.svc :=
  (keep_showKpf (Sub.refl _) (Keeps.refl _ s) : Keeps _ s ((showKpf s))).same .svc rfl
@[simp] theorem fr_showKpf_key (s : State) : (showKpf s).key = s.key :=
  (keep_showKpf (Sub.refl _) (Keeps.refl _ s) : Keeps _ s ((showKpf s))).same .key rfl
@[simp] theorem fr_showKpf_kpf (s : State) : (showKpf s).kpf = s.kpf :=
  (keep_showKpf (Sub.refl _) (Keeps.refl _ s) : Keeps _ s ((showKpf s))).same .kpf rfl
@[simp] theorem fr_showKpf_clk (s : State) : (showKpf s).clk = s.clk :=
  (keep_showKpf (Sub.refl _) (Keeps.refl _ s) : Keeps _ s ((showKpf s))).same .clk rfl
@[simp] theorem fr_showKpf_cal (s : State) : (showKpf s).cal = s.cal :=
  (keep_showKpf (Sub.refl _) (Keeps.refl _ s) : Keeps _ s ((showKpf s))).same .cal rfl
@[simp] theorem fr_showKpf_sav (s : State) : (showKpf s).sav = s.sav :=
  (keep_showKpf (Sub.refl _) (Keeps.refl _ s) : Keeps _ s ((showKpf s))).same .sav rfl
@[simp] theorem fr_showKpf_gov (s : State) : (showKpf s).gov = s.gov :=
  (keep_showKpf (Sub.refl _) (Keeps.refl _ s) : Keeps _ s ((showKpf s))).same .gov rfl
@[simp] theorem fr_showKpf_maps (s : State) : (showKpf s).maps = s.maps :=
  (keep_showKpf (Sub.refl _) (Keeps.refl _ s) : Keeps _ s ((showKpf s))).same .maps rfl
@[simp] theorem fr_showKpf_log (s : State) : (showKpf s).log = s.log :=
  (keep_showKpf (Sub.refl _) (Keeps.refl _ s) : Keeps _ s ((showKpf s))).same .log rfl
@[simp] theorem fr_showKpf_trn (s : State) : (showKpf s).trn = s.trn :=
  (keep_showKpf (Sub.refl _) (Keeps.refl _ s) : Keeps _ s ((showKpf s))).same .trn rfl
@[simp] theorem fr_showKpf_dram (s : State) : (showKpf s).dram = s.dram :=
  (keep_showKpf (Sub.refl _) (Keeps.refl _ s) : Keeps _ s ((showKpf s))).same .dram rfl
@[simp] theorem fr_showKpf_drc (s : State) : (showKpf s).drc = s.drc :=
  (keep_showKpf (Sub.refl _) (Keeps.refl _ s) : Keeps _ s ((showKpf s))).same .drc rfl
@[simp] theorem fr_showKpf_grm (s : State) : (showKpf s).grm = s.grm :=
  (keep_showKpf (Sub.refl _) (Keeps.refl _ s) : Keeps _ s ((showKpf s))).same .grm rfl
@[simp] theorem fr_showKpf_far (s : State) : (showKpf s).far = s.far :=
  (keep_showKpf (Sub.refl _) (Keeps.refl _ s) : Keeps _ s ((showKpf s))).same .far rfl
@[simp] theorem fr_showKpf_stf (s : State) : (showKpf s).stf = s.stf :=
  (keep_showKpf (Sub.refl _) (Keeps.refl _ s) : Keeps _ s ((showKpf s))).same .stf rfl
@[simp] theorem fr_showKpf_tie (s : State) : (showKpf s).tie = s.tie :=
  (keep_showKpf (Sub.refl _) (Keeps.refl _ s) : Keeps _ s ((showKpf s))).same .tie rfl
@[simp] theorem fr_showKpf_mst (s : State) : (showKpf s).mst = s.mst :=
  (keep_showKpf (Sub.refl _) (Keeps.refl _ s) : Keeps _ s ((showKpf s))).same .mst rfl
@[simp] theorem fr_showKpf_xpt (s : State) : (showKpf s).xpt = s.xpt :=
  (keep_showKpf (Sub.refl _) (Keeps.refl _ s) : Keeps _ s ((showKpf s))).same .xpt rfl
@[simp] theorem fr_showKpf_prt (s : State) : (showKpf s).prt = s.prt :=
  (keep_showKpf (Sub.refl _) (Keeps.refl _ s) : Keeps _ s ((showKpf s))).same .prt rfl
@[simp] theorem fr_showKpf_twn (s : State) : (showKpf s).twn = s.twn :=
  (keep_showKpf (Sub.refl _) (Keeps.refl _ s) : Keeps _ s ((showKpf s))).same .twn rfl
@[simp] theorem fr_showKpf_draws (s : State) : (showKpf s).draws = s.draws :=
  (keep_showKpf (Sub.refl _) (Keeps.refl _ s) : Keeps _ s ((showKpf s))).same .draws rfl
@[simp] theorem fr_showKpf_out (s : State) : (showKpf s).out = s.out :=
  (keep_showKpf (Sub.refl _) (Keeps.refl _ s) : Keeps _ s ((showKpf s))).same .out rfl
@[simp] theorem fr_showKpf_ctrs_c (s : State) : (showKpf s).rf.ctr = s.rf.ctr := by
  have e :=
  (keep_showKpf (Sub.refl _) (Keeps.refl _ s) : Keeps _ s ((showKpf s))).same .ctrs rfl
  exact congrArg (fun x : Sparse Nat × Sparse Nat × Sparse Nat => x.1) e
@[simp] theorem fr_showKpf_now (s : State) : (showKpf s).now = s.now :=
  (keep_showKpf (Sub.refl _) (Keeps.refl _ s) : Keeps _ s ((showKpf s))).now
@[simp] theorem fr_showKpf_pending (s : State) : (showKpf s).pending = s.pending :=
  (keep_showKpf (Sub.refl _) (Keeps.refl _ s) : Keeps _ s ((showKpf s))).pend
@[simp] theorem fr_requeueJob_dev (s : State) (j : Nat) : (requeueJob s j).1.dev = s.dev :=
  (keep_requeueJob (Sub.refl _) (Keeps.refl _ s) : Keeps _ s ((requeueJob s j).1)).same .dev rfl
@[simp] theorem fr_requeueJob_fuses (s : State) (j : Nat) : (requeueJob s j).1.fuses = s.fuses :=
  (keep_requeueJob (Sub.refl _) (Keeps.refl _ s) : Keeps _ s ((requeueJob s j).1)).same .fuses rfl
@[simp] theorem fr_requeueJob_gai (s : State) (j : Nat) : (requeueJob s j).1.gai = s.gai :=
  (keep_requeueJob (Sub.refl _) (Keeps.refl _ s) : Keeps _ s ((requeueJob s j).1)).same .gai rfl
@[simp] theorem fr_requeueJob_pwr (s : State) (j : Nat) : (requeueJob s j).1.pwr = s.pwr :=
  (keep_requeueJob (Sub.refl _) (Keeps.refl _ s) : Keeps _ s ((requeueJob s j).1)).same .pwr rfl
@[simp] theorem fr_requeueJob_rst (s : State) (j : Nat) : (requeueJob s j).1.rst = s.rst :=
  (keep_requeueJob (Sub.refl _) (Keeps.refl _ s) : Keeps _ s ((requeueJob s j).1)).same .rst rfl
@[simp] theorem fr_requeueJob_tack (s : State) (j : Nat) : (requeueJob s j).1.tack = s.tack :=
  (keep_requeueJob (Sub.refl _) (Keeps.refl _ s) : Keeps _ s ((requeueJob s j).1)).same .tack rfl
@[simp] theorem fr_requeueJob_dic (s : State) (j : Nat) : (requeueJob s j).1.dic = s.dic :=
  (keep_requeueJob (Sub.refl _) (Keeps.refl _ s) : Keeps _ s ((requeueJob s j).1)).same .dic rfl
@[simp] theorem fr_requeueJob_pci (s : State) (j : Nat) : (requeueJob s j).1.pci = s.pci :=
  (keep_requeueJob (Sub.refl _) (Keeps.refl _ s) : Keeps _ s ((requeueJob s j).1)).same .pci rfl
@[simp] theorem fr_requeueJob_mgtDrops (s : State) (j : Nat) : (requeueJob s j).1.mgtDrops = s.mgtDrops :=
  (keep_requeueJob (Sub.refl _) (Keeps.refl _ s) : Keeps _ s ((requeueJob s j).1)).same .mgtDrops rfl
@[simp] theorem fr_requeueJob_cpx (s : State) (j : Nat) : (requeueJob s j).1.cpx = s.cpx :=
  (keep_requeueJob (Sub.refl _) (Keeps.refl _ s) : Keeps _ s ((requeueJob s j).1)).same .cpx rfl
@[simp] theorem fr_requeueJob_svc (s : State) (j : Nat) : (requeueJob s j).1.svc = s.svc :=
  (keep_requeueJob (Sub.refl _) (Keeps.refl _ s) : Keeps _ s ((requeueJob s j).1)).same .svc rfl
@[simp] theorem fr_requeueJob_key (s : State) (j : Nat) : (requeueJob s j).1.key = s.key :=
  (keep_requeueJob (Sub.refl _) (Keeps.refl _ s) : Keeps _ s ((requeueJob s j).1)).same .key rfl
@[simp] theorem fr_requeueJob_kpf (s : State) (j : Nat) : (requeueJob s j).1.kpf = s.kpf :=
  (keep_requeueJob (Sub.refl _) (Keeps.refl _ s) : Keeps _ s ((requeueJob s j).1)).same .kpf rfl
@[simp] theorem fr_requeueJob_clk (s : State) (j : Nat) : (requeueJob s j).1.clk = s.clk :=
  (keep_requeueJob (Sub.refl _) (Keeps.refl _ s) : Keeps _ s ((requeueJob s j).1)).same .clk rfl
@[simp] theorem fr_requeueJob_cal (s : State) (j : Nat) : (requeueJob s j).1.cal = s.cal :=
  (keep_requeueJob (Sub.refl _) (Keeps.refl _ s) : Keeps _ s ((requeueJob s j).1)).same .cal rfl
@[simp] theorem fr_requeueJob_sav (s : State) (j : Nat) : (requeueJob s j).1.sav = s.sav :=
  (keep_requeueJob (Sub.refl _) (Keeps.refl _ s) : Keeps _ s ((requeueJob s j).1)).same .sav rfl
@[simp] theorem fr_requeueJob_gov (s : State) (j : Nat) : (requeueJob s j).1.gov = s.gov :=
  (keep_requeueJob (Sub.refl _) (Keeps.refl _ s) : Keeps _ s ((requeueJob s j).1)).same .gov rfl
@[simp] theorem fr_requeueJob_grm (s : State) (j : Nat) : (requeueJob s j).1.grm = s.grm :=
  (keep_requeueJob (Sub.refl _) (Keeps.refl _ s) : Keeps _ s ((requeueJob s j).1)).same .grm rfl
@[simp] theorem fr_requeueJob_far (s : State) (j : Nat) : (requeueJob s j).1.far = s.far :=
  (keep_requeueJob (Sub.refl _) (Keeps.refl _ s) : Keeps _ s ((requeueJob s j).1)).same .far rfl
@[simp] theorem fr_requeueJob_stf (s : State) (j : Nat) : (requeueJob s j).1.stf = s.stf :=
  (keep_requeueJob (Sub.refl _) (Keeps.refl _ s) : Keeps _ s ((requeueJob s j).1)).same .stf rfl
@[simp] theorem fr_requeueJob_draws (s : State) (j : Nat) : (requeueJob s j).1.draws = s.draws :=
  (keep_requeueJob (Sub.refl _) (Keeps.refl _ s) : Keeps _ s ((requeueJob s j).1)).same .draws rfl
@[simp] theorem fr_requeueJob_now (s : State) (j : Nat) : (requeueJob s j).1.now = s.now :=
  (keep_requeueJob (Sub.refl _) (Keeps.refl _ s) : Keeps _ s ((requeueJob s j).1)).now
@[simp] theorem fr_requeueJob_pending (s : State) (j : Nat) : (requeueJob s j).1.pending = s.pending :=
  (keep_requeueJob (Sub.refl _) (Keeps.refl _ s) : Keeps _ s ((requeueJob s j).1)).pend
@[simp] theorem fr_cancelJob_dev (s : State) (j : Nat) : (cancelJob s j).1.dev = s.dev :=
  (keep_cancelJob (Sub.refl _) (Keeps.refl _ s) : Keeps _ s ((cancelJob s j).1)).same .dev rfl
@[simp] theorem fr_cancelJob_fuses (s : State) (j : Nat) : (cancelJob s j).1.fuses = s.fuses :=
  (keep_cancelJob (Sub.refl _) (Keeps.refl _ s) : Keeps _ s ((cancelJob s j).1)).same .fuses rfl
@[simp] theorem fr_cancelJob_gai (s : State) (j : Nat) : (cancelJob s j).1.gai = s.gai :=
  (keep_cancelJob (Sub.refl _) (Keeps.refl _ s) : Keeps _ s ((cancelJob s j).1)).same .gai rfl
@[simp] theorem fr_cancelJob_pwr (s : State) (j : Nat) : (cancelJob s j).1.pwr = s.pwr :=
  (keep_cancelJob (Sub.refl _) (Keeps.refl _ s) : Keeps _ s ((cancelJob s j).1)).same .pwr rfl
@[simp] theorem fr_cancelJob_rst (s : State) (j : Nat) : (cancelJob s j).1.rst = s.rst :=
  (keep_cancelJob (Sub.refl _) (Keeps.refl _ s) : Keeps _ s ((cancelJob s j).1)).same .rst rfl
@[simp] theorem fr_cancelJob_tack (s : State) (j : Nat) : (cancelJob s j).1.tack = s.tack :=
  (keep_cancelJob (Sub.refl _) (Keeps.refl _ s) : Keeps _ s ((cancelJob s j).1)).same .tack rfl
@[simp] theorem fr_cancelJob_dic (s : State) (j : Nat) : (cancelJob s j).1.dic = s.dic :=
  (keep_cancelJob (Sub.refl _) (Keeps.refl _ s) : Keeps _ s ((cancelJob s j).1)).same .dic rfl
@[simp] theorem fr_cancelJob_pci (s : State) (j : Nat) : (cancelJob s j).1.pci = s.pci :=
  (keep_cancelJob (Sub.refl _) (Keeps.refl _ s) : Keeps _ s ((cancelJob s j).1)).same .pci rfl
@[simp] theorem fr_cancelJob_mgtDrops (s : State) (j : Nat) : (cancelJob s j).1.mgtDrops = s.mgtDrops :=
  (keep_cancelJob (Sub.refl _) (Keeps.refl _ s) : Keeps _ s ((cancelJob s j).1)).same .mgtDrops rfl
@[simp] theorem fr_cancelJob_cpx (s : State) (j : Nat) : (cancelJob s j).1.cpx = s.cpx :=
  (keep_cancelJob (Sub.refl _) (Keeps.refl _ s) : Keeps _ s ((cancelJob s j).1)).same .cpx rfl
@[simp] theorem fr_cancelJob_svc (s : State) (j : Nat) : (cancelJob s j).1.svc = s.svc :=
  (keep_cancelJob (Sub.refl _) (Keeps.refl _ s) : Keeps _ s ((cancelJob s j).1)).same .svc rfl
@[simp] theorem fr_cancelJob_key (s : State) (j : Nat) : (cancelJob s j).1.key = s.key :=
  (keep_cancelJob (Sub.refl _) (Keeps.refl _ s) : Keeps _ s ((cancelJob s j).1)).same .key rfl
@[simp] theorem fr_cancelJob_kpf (s : State) (j : Nat) : (cancelJob s j).1.kpf = s.kpf :=
  (keep_cancelJob (Sub.refl _) (Keeps.refl _ s) : Keeps _ s ((cancelJob s j).1)).same .kpf rfl
@[simp] theorem fr_cancelJob_clk (s : State) (j : Nat) : (cancelJob s j).1.clk = s.clk :=
  (keep_cancelJob (Sub.refl _) (Keeps.refl _ s) : Keeps _ s ((cancelJob s j).1)).same .clk rfl
@[simp] theorem fr_cancelJob_cal (s : State) (j : Nat) : (cancelJob s j).1.cal = s.cal :=
  (keep_cancelJob (Sub.refl _) (Keeps.refl _ s) : Keeps _ s ((cancelJob s j).1)).same .cal rfl
@[simp] theorem fr_cancelJob_sav (s : State) (j : Nat) : (cancelJob s j).1.sav = s.sav :=
  (keep_cancelJob (Sub.refl _) (Keeps.refl _ s) : Keeps _ s ((cancelJob s j).1)).same .sav rfl
@[simp] theorem fr_cancelJob_gov (s : State) (j : Nat) : (cancelJob s j).1.gov = s.gov :=
  (keep_cancelJob (Sub.refl _) (Keeps.refl _ s) : Keeps _ s ((cancelJob s j).1)).same .gov rfl
@[simp] theorem fr_cancelJob_grm (s : State) (j : Nat) : (cancelJob s j).1.grm = s.grm :=
  (keep_cancelJob (Sub.refl _) (Keeps.refl _ s) : Keeps _ s ((cancelJob s j).1)).same .grm rfl
@[simp] theorem fr_cancelJob_far (s : State) (j : Nat) : (cancelJob s j).1.far = s.far :=
  (keep_cancelJob (Sub.refl _) (Keeps.refl _ s) : Keeps _ s ((cancelJob s j).1)).same .far rfl
@[simp] theorem fr_cancelJob_stf (s : State) (j : Nat) : (cancelJob s j).1.stf = s.stf :=
  (keep_cancelJob (Sub.refl _) (Keeps.refl _ s) : Keeps _ s ((cancelJob s j).1)).same .stf rfl
@[simp] theorem fr_cancelJob_draws (s : State) (j : Nat) : (cancelJob s j).1.draws = s.draws :=
  (keep_cancelJob (Sub.refl _) (Keeps.refl _ s) : Keeps _ s ((cancelJob s j).1)).same .draws rfl
@[simp] theorem fr_cancelJob_now (s : State) (j : Nat) : (cancelJob s j).1.now = s.now :=
  (keep_cancelJob (Sub.refl _) (Keeps.refl _ s) : Keeps _ s ((cancelJob s j).1)).now
@[simp] theorem fr_cancelJob_pending (s : State) (j : Nat) : (cancelJob s j).1.pending = s.pending :=
  (keep_cancelJob (Sub.refl _) (Keeps.refl _ s) : Keeps _ s ((cancelJob s j).1)).pend
@[simp] theorem fr_gaitDefaults_dev (s : State) : (gaitDefaults s).dev = s.dev :=
  (keep_gaitDefaults (Sub.refl _) (Keeps.refl _ s) : Keeps _ s ((gaitDefaults s))).same .dev rfl
@[simp] theorem fr_gaitDefaults_fuses (s : State) : (gaitDefaults s).fuses = s.fuses :=
  (keep_gaitDefaults (Sub.refl _) (Keeps.refl _ s) : Keeps _ s ((gaitDefaults s))).same .fuses rfl
@[simp] theorem fr_gaitDefaults_pwr (s : State) : (gaitDefaults s).pwr = s.pwr :=
  (keep_gaitDefaults (Sub.refl _) (Keeps.refl _ s) : Keeps _ s ((gaitDefaults s))).same .pwr rfl
@[simp] theorem fr_gaitDefaults_rst (s : State) : (gaitDefaults s).rst = s.rst :=
  (keep_gaitDefaults (Sub.refl _) (Keeps.refl _ s) : Keeps _ s ((gaitDefaults s))).same .rst rfl
@[simp] theorem fr_gaitDefaults_tack (s : State) : (gaitDefaults s).tack = s.tack :=
  (keep_gaitDefaults (Sub.refl _) (Keeps.refl _ s) : Keeps _ s ((gaitDefaults s))).same .tack rfl
@[simp] theorem fr_gaitDefaults_recd (s : State) : (gaitDefaults s).recd = s.recd :=
  (keep_gaitDefaults (Sub.refl _) (Keeps.refl _ s) : Keeps _ s ((gaitDefaults s))).same .recd rfl
@[simp] theorem fr_gaitDefaults_dic (s : State) : (gaitDefaults s).dic = s.dic :=
  (keep_gaitDefaults (Sub.refl _) (Keeps.refl _ s) : Keeps _ s ((gaitDefaults s))).same .dic rfl
@[simp] theorem fr_gaitDefaults_pci (s : State) : (gaitDefaults s).pci = s.pci :=
  (keep_gaitDefaults (Sub.refl _) (Keeps.refl _ s) : Keeps _ s ((gaitDefaults s))).same .pci rfl
@[simp] theorem fr_gaitDefaults_mgtDrops (s : State) : (gaitDefaults s).mgtDrops = s.mgtDrops :=
  (keep_gaitDefaults (Sub.refl _) (Keeps.refl _ s) : Keeps _ s ((gaitDefaults s))).same .mgtDrops rfl
@[simp] theorem fr_gaitDefaults_cpx (s : State) : (gaitDefaults s).cpx = s.cpx :=
  (keep_gaitDefaults (Sub.refl _) (Keeps.refl _ s) : Keeps _ s ((gaitDefaults s))).same .cpx rfl
@[simp] theorem fr_gaitDefaults_svc (s : State) : (gaitDefaults s).svc = s.svc :=
  (keep_gaitDefaults (Sub.refl _) (Keeps.refl _ s) : Keeps _ s ((gaitDefaults s))).same .svc rfl
@[simp] theorem fr_gaitDefaults_key (s : State) : (gaitDefaults s).key = s.key :=
  (keep_gaitDefaults (Sub.refl _) (Keeps.refl _ s) : Keeps _ s ((gaitDefaults s))).same .key rfl
@[simp] theorem fr_gaitDefaults_kpf (s : State) : (gaitDefaults s).kpf = s.kpf :=
  (keep_gaitDefaults (Sub.refl _) (Keeps.refl _ s) : Keeps _ s ((gaitDefaults s))).same .kpf rfl
@[simp] theorem fr_gaitDefaults_clk (s : State) : (gaitDefaults s).clk = s.clk :=
  (keep_gaitDefaults (Sub.refl _) (Keeps.refl _ s) : Keeps _ s ((gaitDefaults s))).same .clk rfl
@[simp] theorem fr_gaitDefaults_cal (s : State) : (gaitDefaults s).cal = s.cal :=
  (keep_gaitDefaults (Sub.refl _) (Keeps.refl _ s) : Keeps _ s ((gaitDefaults s))).same .cal rfl
@[simp] theorem fr_gaitDefaults_sav (s : State) : (gaitDefaults s).sav = s.sav :=
  (keep_gaitDefaults (Sub.refl _) (Keeps.refl _ s) : Keeps _ s ((gaitDefaults s))).same .sav rfl
@[simp] theorem fr_gaitDefaults_gov (s : State) : (gaitDefaults s).gov = s.gov :=
  (keep_gaitDefaults (Sub.refl _) (Keeps.refl _ s) : Keeps _ s ((gaitDefaults s))).same .gov rfl
@[simp] theorem fr_gaitDefaults_maps (s : State) : (gaitDefaults s).maps = s.maps :=
  (keep_gaitDefaults (Sub.refl _) (Keeps.refl _ s) : Keeps _ s ((gaitDefaults s))).same .maps rfl
@[simp] theorem fr_gaitDefaults_log (s : State) : (gaitDefaults s).log = s.log :=
  (keep_gaitDefaults (Sub.refl _) (Keeps.refl _ s) : Keeps _ s ((gaitDefaults s))).same .log rfl
@[simp] theorem fr_gaitDefaults_trn (s : State) : (gaitDefaults s).trn = s.trn :=
  (keep_gaitDefaults (Sub.refl _) (Keeps.refl _ s) : Keeps _ s ((gaitDefaults s))).same .trn rfl
@[simp] theorem fr_gaitDefaults_dram (s : State) : (gaitDefaults s).dram = s.dram :=
  (keep_gaitDefaults (Sub.refl _) (Keeps.refl _ s) : Keeps _ s ((gaitDefaults s))).same .dram rfl
@[simp] theorem fr_gaitDefaults_drc (s : State) : (gaitDefaults s).drc = s.drc :=
  (keep_gaitDefaults (Sub.refl _) (Keeps.refl _ s) : Keeps _ s ((gaitDefaults s))).same .drc rfl
@[simp] theorem fr_gaitDefaults_grm (s : State) : (gaitDefaults s).grm = s.grm :=
  (keep_gaitDefaults (Sub.refl _) (Keeps.refl _ s) : Keeps _ s ((gaitDefaults s))).same .grm rfl
@[simp] theorem fr_gaitDefaults_far (s : State) : (gaitDefaults s).far = s.far :=
  (keep_gaitDefaults (Sub.refl _) (Keeps.refl _ s) : Keeps _ s ((gaitDefaults s))).same .far rfl
@[simp] theorem fr_gaitDefaults_stf (s : State) : (gaitDefaults s).stf = s.stf :=
  (keep_gaitDefaults (Sub.refl _) (Keeps.refl _ s) : Keeps _ s ((gaitDefaults s))).same .stf rfl
@[simp] theorem fr_gaitDefaults_tie (s : State) : (gaitDefaults s).tie = s.tie :=
  (keep_gaitDefaults (Sub.refl _) (Keeps.refl _ s) : Keeps _ s ((gaitDefaults s))).same .tie rfl
@[simp] theorem fr_gaitDefaults_mst (s : State) : (gaitDefaults s).mst = s.mst :=
  (keep_gaitDefaults (Sub.refl _) (Keeps.refl _ s) : Keeps _ s ((gaitDefaults s))).same .mst rfl
@[simp] theorem fr_gaitDefaults_xpt (s : State) : (gaitDefaults s).xpt = s.xpt :=
  (keep_gaitDefaults (Sub.refl _) (Keeps.refl _ s) : Keeps _ s ((gaitDefaults s))).same .xpt rfl
@[simp] theorem fr_gaitDefaults_prt (s : State) : (gaitDefaults s).prt = s.prt :=
  (keep_gaitDefaults (Sub.refl _) (Keeps.refl _ s) : Keeps _ s ((gaitDefaults s))).same .prt rfl
@[simp] theorem fr_gaitDefaults_twn (s : State) : (gaitDefaults s).twn = s.twn :=
  (keep_gaitDefaults (Sub.refl _) (Keeps.refl _ s) : Keeps _ s ((gaitDefaults s))).same .twn rfl
@[simp] theorem fr_gaitDefaults_draws (s : State) : (gaitDefaults s).draws = s.draws :=
  (keep_gaitDefaults (Sub.refl _) (Keeps.refl _ s) : Keeps _ s ((gaitDefaults s))).same .draws rfl
@[simp] theorem fr_gaitDefaults_out (s : State) : (gaitDefaults s).out = s.out :=
  (keep_gaitDefaults (Sub.refl _) (Keeps.refl _ s) : Keeps _ s ((gaitDefaults s))).same .out rfl
@[simp] theorem fr_gaitDefaults_now (s : State) : (gaitDefaults s).now = s.now :=
  (keep_gaitDefaults (Sub.refl _) (Keeps.refl _ s) : Keeps _ s ((gaitDefaults s))).now
@[simp] theorem fr_gaitDefaults_pending (s : State) : (gaitDefaults s).pending = s.pending :=
  (keep_gaitDefaults (Sub.refl _) (Keeps.refl _ s) : Keeps _ s ((gaitDefaults s))).pend
@[simp] theorem fr_showHandler_dic (s : State) : (showHandler s).dic = s.dic :=
  (keep_showHandler (Sub.refl _) (Keeps.refl _ s) : Keeps _ s ((showHandler s))).same .dic rfl
@[simp] theorem fr_tagBlocks_dev (s : State) (n : Nat) : (tagBlocks s n).dev = s.dev :=
  (keep_tagBlocks (Sub.refl _) (Keeps.refl _ s) : Keeps _ s ((tagBlocks s n))).same .dev rfl
@[simp] theorem fr_tagBlocks_fuses (s : State) (n : Nat) : (tagBlocks s n).fuses = s.fuses :=
  (keep_tagBlocks (Sub.refl _) (Keeps.refl _ s) : Keeps _ s ((tagBlocks s n))).same .fuses rfl
@[simp] theorem fr_tagBlocks_gai (s : State) (n : Nat) : (tagBlocks s n).gai = s.gai :=
  (keep_tagBlocks (Sub.refl _) (Keeps.refl _ s) : Keeps _ s ((tagBlocks s n))).same .gai rfl
@[simp] theorem fr_tagBlocks_pwr (s : State) (n : Nat) : (tagBlocks s n).pwr = s.pwr :=
  (keep_tagBlocks (Sub.refl _) (Keeps.refl _ s) : Keeps _ s ((tagBlocks s n))).same .pwr rfl
@[simp] theorem fr_tagBlocks_rst (s : State) (n : Nat) : (tagBlocks s n).rst = s.rst :=
  (keep_tagBlocks (Sub.refl _) (Keeps.refl _ s) : Keeps _ s ((tagBlocks s n))).same .rst rfl
@[simp] theorem fr_tagBlocks_tack (s : State) (n : Nat) : (tagBlocks s n).tack = s.tack :=
  (keep_tagBlocks (Sub.refl _) (Keeps.refl _ s) : Keeps _ s ((tagBlocks s n))).same .tack rfl
@[simp] theorem fr_tagBlocks_recd (s : State) (n : Nat) : (tagBlocks s n).recd = s.recd :=
  (keep_tagBlocks (Sub.refl _) (Keeps.refl _ s) : Keeps _ s ((tagBlocks s n))).same .recd rfl
@[simp] theorem fr_tagBlocks_dic (s : State) (n : Nat) : (tagBlocks s n).dic = s.dic :=
  (keep_tagBlocks (Sub.refl _) (Keeps.refl _ s) : Keeps _ s ((tagBlocks s n))).same .dic rfl
@[simp] theorem fr_tagBlocks_pci (s : State) (n : Nat) : (tagBlocks s n).pci = s.pci :=
  (keep_tagBlocks (Sub.refl _) (Keeps.refl _ s) : Keeps _ s ((tagBlocks s n))).same .pci rfl
@[simp] theorem fr_tagBlocks_mgtDrops (s : State) (n : Nat) : (tagBlocks s n).mgtDrops = s.mgtDrops :=
  (keep_tagBlocks (Sub.refl _) (Keeps.refl _ s) : Keeps _ s ((tagBlocks s n))).same .mgtDrops rfl
@[simp] theorem fr_tagBlocks_cpx (s : State) (n : Nat) : (tagBlocks s n).cpx = s.cpx :=
  (keep_tagBlocks (Sub.refl _) (Keeps.refl _ s) : Keeps _ s ((tagBlocks s n))).same .cpx rfl
@[simp] theorem fr_tagBlocks_svc (s : State) (n : Nat) : (tagBlocks s n).svc = s.svc :=
  (keep_tagBlocks (Sub.refl _) (Keeps.refl _ s) : Keeps _ s ((tagBlocks s n))).same .svc rfl
@[simp] theorem fr_tagBlocks_key (s : State) (n : Nat) : (tagBlocks s n).key = s.key :=
  (keep_tagBlocks (Sub.refl _) (Keeps.refl _ s) : Keeps _ s ((tagBlocks s n))).same .key rfl
@[simp] theorem fr_tagBlocks_kpf (s : State) (n : Nat) : (tagBlocks s n).kpf = s.kpf :=
  (keep_tagBlocks (Sub.refl _) (Keeps.refl _ s) : Keeps _ s ((tagBlocks s n))).same .kpf rfl
@[simp] theorem fr_tagBlocks_clk (s : State) (n : Nat) : (tagBlocks s n).clk = s.clk :=
  (keep_tagBlocks (Sub.refl _) (Keeps.refl _ s) : Keeps _ s ((tagBlocks s n))).same .clk rfl
@[simp] theorem fr_tagBlocks_cal (s : State) (n : Nat) : (tagBlocks s n).cal = s.cal :=
  (keep_tagBlocks (Sub.refl _) (Keeps.refl _ s) : Keeps _ s ((tagBlocks s n))).same .cal rfl
@[simp] theorem fr_tagBlocks_sav (s : State) (n : Nat) : (tagBlocks s n).sav = s.sav :=
  (keep_tagBlocks (Sub.refl _) (Keeps.refl _ s) : Keeps _ s ((tagBlocks s n))).same .sav rfl
@[simp] theorem fr_tagBlocks_gov (s : State) (n : Nat) : (tagBlocks s n).gov = s.gov :=
  (keep_tagBlocks (Sub.refl _) (Keeps.refl _ s) : Keeps _ s ((tagBlocks s n))).same .gov rfl
@[simp] theorem fr_tagBlocks_maps (s : State) (n : Nat) : (tagBlocks s n).maps = s.maps :=
  (keep_tagBlocks (Sub.refl _) (Keeps.refl _ s) : Keeps _ s ((tagBlocks s n))).same .maps rfl
@[simp] theorem fr_tagBlocks_log (s : State) (n : Nat) : (tagBlocks s n).log = s.log :=
  (keep_tagBlocks (Sub.refl _) (Keeps.refl _ s) : Keeps _ s ((tagBlocks s n))).same .log rfl
@[simp] theorem fr_tagBlocks_trn (s : State) (n : Nat) : (tagBlocks s n).trn = s.trn :=
  (keep_tagBlocks (Sub.refl _) (Keeps.refl _ s) : Keeps _ s ((tagBlocks s n))).same .trn rfl
@[simp] theorem fr_tagBlocks_dram (s : State) (n : Nat) : (tagBlocks s n).dram = s.dram :=
  (keep_tagBlocks (Sub.refl _) (Keeps.refl _ s) : Keeps _ s ((tagBlocks s n))).same .dram rfl
@[simp] theorem fr_tagBlocks_drc (s : State) (n : Nat) : (tagBlocks s n).drc = s.drc :=
  (keep_tagBlocks (Sub.refl _) (Keeps.refl _ s) : Keeps _ s ((tagBlocks s n))).same .drc rfl
@[simp] theorem fr_tagBlocks_grm (s : State) (n : Nat) : (tagBlocks s n).grm = s.grm :=
  (keep_tagBlocks (Sub.refl _) (Keeps.refl _ s) : Keeps _ s ((tagBlocks s n))).same .grm rfl
@[simp] theorem fr_tagBlocks_far (s : State) (n : Nat) : (tagBlocks s n).far = s.far :=
  (keep_tagBlocks (Sub.refl _) (Keeps.refl _ s) : Keeps _ s ((tagBlocks s n))).same .far rfl
@[simp] theorem fr_tagBlocks_stf (s : State) (n : Nat) : (tagBlocks s n).stf = s.stf :=
  (keep_tagBlocks (Sub.refl _) (Keeps.refl _ s) : Keeps _ s ((tagBlocks s n))).same .stf rfl
@[simp] theorem fr_tagBlocks_tie (s : State) (n : Nat) : (tagBlocks s n).tie = s.tie :=
  (keep_tagBlocks (Sub.refl _) (Keeps.refl _ s) : Keeps _ s ((tagBlocks s n))).same .tie rfl
@[simp] theorem fr_tagBlocks_mst (s : State) (n : Nat) : (tagBlocks s n).mst = s.mst :=
  (keep_tagBlocks (Sub.refl _) (Keeps.refl _ s) : Keeps _ s ((tagBlocks s n))).same .mst rfl
@[simp] theorem fr_tagBlocks_xpt (s : State) (n : Nat) : (tagBlocks s n).xpt = s.xpt :=
  (keep_tagBlocks (Sub.refl _) (Keeps.refl _ s) : Keeps _ s ((tagBlocks s n))).same .xpt rfl
@[simp] theorem fr_tagBlocks_prt (s : State) (n : Nat) : (tagBlocks s n).prt = s.prt :=
  (keep_tagBlocks (Sub.refl _) (Keeps.refl _ s) : Keeps _ s ((tagBlocks s n))).same .prt rfl
@[simp] theorem fr_tagBlocks_twn (s : State) (n : Nat) : (tagBlocks s n).twn = s.twn :=
  (keep_tagBlocks (Sub.refl _) (Keeps.refl _ s) : Keeps _ s ((tagBlocks s n))).same .twn rfl
@[simp] theorem fr_tagBlocks_draws (s : State) (n : Nat) : (tagBlocks s n).draws = s.draws :=
  (keep_tagBlocks (Sub.refl _) (Keeps.refl _ s) : Keeps _ s ((tagBlocks s n))).same .draws rfl
@[simp] theorem fr_tagBlocks_out (s : State) (n : Nat) : (tagBlocks s n).out = s.out :=
  (keep_tagBlocks (Sub.refl _) (Keeps.refl _ s) : Keeps _ s ((tagBlocks s n))).same .out rfl
@[simp] theorem fr_tagBlocks_now (s : State) (n : Nat) : (tagBlocks s n).now = s.now :=
  (keep_tagBlocks (Sub.refl _) (Keeps.refl _ s) : Keeps _ s ((tagBlocks s n))).now
@[simp] theorem fr_tagBlocks_pending (s : State) (n : Nat) : (tagBlocks s n).pending = s.pending :=
  (keep_tagBlocks (Sub.refl _) (Keeps.refl _ s) : Keeps _ s ((tagBlocks s n))).pend
@[simp] theorem fr_releaseGroup_dev (s : State) (n : Nat) (p : Nat → Bool) : (releaseGroup s n p).dev = s.dev :=
  (keep_releaseGroup (Sub.refl _) (Keeps.refl _ s) : Keeps _ s ((releaseGroup s n p))).same .dev rfl
@[simp] theorem fr_releaseGroup_fuses (s : State) (n : Nat) (p : Nat → Bool) : (releaseGroup s n p).fuses = s.fuses :=
  (keep_releaseGroup (Sub.refl _) (Keeps.refl _ s) : Keeps _ s ((releaseGroup s n p))).same .fuses rfl
@[simp] theorem fr_releaseGroup_gai (s : State) (n : Nat) (p : Nat → Bool) : (releaseGroup s n p).gai = s.gai :=
  (keep_releaseGroup (Sub.refl _) (Keeps.refl _ s) : Keeps _ s ((releaseGroup s n p))).same .gai rfl
@[simp] theorem fr_releaseGroup_pwr (s : State) (n : Nat) (p : Nat → Bool) : (releaseGroup s n p).pwr = s.pwr :=
  (keep_releaseGroup (Sub.refl _) (Keeps.refl _ s) : Keeps _ s ((releaseGroup s n p))).same .pwr rfl
@[simp] theorem fr_releaseGroup_rst (s : State) (n : Nat) (p : Nat → Bool) : (releaseGroup s n p).rst = s.rst :=
  (keep_releaseGroup (Sub.refl _) (Keeps.refl _ s) : Keeps _ s ((releaseGroup s n p))).same .rst rfl
@[simp] theorem fr_releaseGroup_tack (s : State) (n : Nat) (p : Nat → Bool) : (releaseGroup s n p).tack = s.tack :=
  (keep_releaseGroup (Sub.refl _) (Keeps.refl _ s) : Keeps _ s ((releaseGroup s n p))).same .tack rfl
@[simp] theorem fr_releaseGroup_recd (s : State) (n : Nat) (p : Nat → Bool) : (releaseGroup s n p).recd = s.recd :=
  (keep_releaseGroup (Sub.refl _) (Keeps.refl _ s) : Keeps _ s ((releaseGroup s n p))).same .recd rfl
@[simp] theorem fr_releaseGroup_dic (s : State) (n : Nat) (p : Nat → Bool) : (releaseGroup s n p).dic = s.dic :=
  (keep_releaseGroup (Sub.refl _) (Keeps.refl _ s) : Keeps _ s ((releaseGroup s n p))).same .dic rfl
@[simp] theorem fr_releaseGroup_pci (s : State) (n : Nat) (p : Nat → Bool) : (releaseGroup s n p).pci = s.pci :=
  (keep_releaseGroup (Sub.refl _) (Keeps.refl _ s) : Keeps _ s ((releaseGroup s n p))).same .pci rfl
@[simp] theorem fr_releaseGroup_mgtDrops (s : State) (n : Nat) (p : Nat → Bool) : (releaseGroup s n p).mgtDrops = s.mgtDrops :=
  (keep_releaseGroup (Sub.refl _) (Keeps.refl _ s) : Keeps _ s ((releaseGroup s n p))).same .mgtDrops rfl
@[simp] theorem fr_releaseGroup_cpx (s : State) (n : Nat) (p : Nat → Bool) : (releaseGroup s n p).cpx = s.cpx :=
  (keep_releaseGroup (Sub.refl _) (Keeps.refl _ s) : Keeps _ s ((releaseGroup s n p))).same .cpx rfl
@[simp] theorem fr_releaseGroup_svc (s : State) (n : Nat) (p : Nat → Bool) : (releaseGroup s n p).svc = s.svc :=
  (keep_releaseGroup (Sub.refl _) (Keeps.refl _ s) : Keeps _ s ((releaseGroup s n p))).same .svc rfl
@[simp] theorem fr_releaseGroup_key (s : State) (n : Nat) (p : Nat → Bool) : (releaseGroup s n p).key = s.key :=
  (keep_releaseGroup (Sub.refl _) (Keeps.refl _ s) : Keeps _ s ((releaseGroup s n p))).same .key rfl
@[simp] theorem fr_releaseGroup_kpf (s : State) (n : Nat) (p : Nat → Bool) : (releaseGroup s n p).kpf = s.kpf :=
  (keep_releaseGroup (Sub.refl _) (Keeps.refl _ s) : Keeps _ s ((releaseGroup s n p))).same .kpf rfl
@[simp] theorem fr_releaseGroup_clk (s : State) (n : Nat) (p : Nat → Bool) : (releaseGroup s n p).clk = s.clk :=
  (keep_releaseGroup (Sub.refl _) (Keeps.refl _ s) : Keeps _ s ((releaseGroup s n p))).same .clk rfl
@[simp] theorem fr_releaseGroup_cal (s : State) (n : Nat) (p : Nat → Bool) : (releaseGroup s n p).cal = s.cal :=
  (keep_releaseGroup (Sub.refl _) (Keeps.refl _ s) : Keeps _ s ((releaseGroup s n p))).same .cal rfl
@[simp] theorem fr_releaseGroup_sav (s : State) (n : Nat) (p : Nat → Bool) : (releaseGroup s n p).sav = s.sav :=
  (keep_releaseGroup (Sub.refl _) (Keeps.refl _ s) : Keeps _ s ((releaseGroup s n p))).same .sav rfl
@[simp] theorem fr_releaseGroup_gov (s : State) (n : Nat) (p : Nat → Bool) : (releaseGroup s n p).gov = s.gov :=
  (keep_releaseGroup (Sub.refl _) (Keeps.refl _ s) : Keeps _ s ((releaseGroup s n p))).same .gov rfl
@[simp] theorem fr_releaseGroup_maps (s : State) (n : Nat) (p : Nat → Bool) : (releaseGroup s n p).maps = s.maps :=
  (keep_releaseGroup (Sub.refl _) (Keeps.refl _ s) : Keeps _ s ((releaseGroup s n p))).same .maps rfl
@[simp] theorem fr_releaseGroup_log (s : State) (n : Nat) (p : Nat → Bool) : (releaseGroup s n p).log = s.log :=
  (keep_releaseGroup (Sub.refl _) (Keeps.refl _ s) : Keeps _ s ((releaseGroup s n p))).same .log rfl
@[simp] theorem fr_releaseGroup_trn (s : State) (n : Nat) (p : Nat → Bool) : (releaseGroup s n p).trn = s.trn :=
  (keep_releaseGroup (Sub.refl _) (Keeps.refl _ s) : Keeps _ s ((releaseGroup s n p))).same .trn rfl
@[simp] theorem fr_releaseGroup_dram (s : State) (n : Nat) (p : Nat → Bool) : (releaseGroup s n p).dram = s.dram :=
  (keep_releaseGroup (Sub.refl _) (Keeps.refl _ s) : Keeps _ s ((releaseGroup s n p))).same .dram rfl
@[simp] theorem fr_releaseGroup_drc (s : State) (n : Nat) (p : Nat → Bool) : (releaseGroup s n p).drc = s.drc :=
  (keep_releaseGroup (Sub.refl _) (Keeps.refl _ s) : Keeps _ s ((releaseGroup s n p))).same .drc rfl
@[simp] theorem fr_releaseGroup_grm (s : State) (n : Nat) (p : Nat → Bool) : (releaseGroup s n p).grm = s.grm :=
  (keep_releaseGroup (Sub.refl _) (Keeps.refl _ s) : Keeps _ s ((releaseGroup s n p))).same .grm rfl
@[simp] theorem fr_releaseGroup_far (s : State) (n : Nat) (p : Nat → Bool) : (releaseGroup s n p).far = s.far :=
  (keep_releaseGroup (Sub.refl _) (Keeps.refl _ s) : Keeps _ s ((releaseGroup s n p))).same .far rfl
@[simp] theorem fr_releaseGroup_stf (s : State) (n : Nat) (p : Nat → Bool) : (releaseGroup s n p).stf = s.stf :=
  (keep_releaseGroup (Sub.refl _) (Keeps.refl _ s) : Keeps _ s ((releaseGroup s n p))).same .stf rfl
@[simp] theorem fr_releaseGroup_tie (s : State) (n : Nat) (p : Nat → Bool) : (releaseGroup s n p).tie = s.tie :=
  (keep_releaseGroup (Sub.refl _) (Keeps.refl _ s) : Keeps _ s ((releaseGroup s n p))).same .tie rfl
@[simp] theorem fr_releaseGroup_mst (s : State) (n : Nat) (p : Nat → Bool) : (releaseGroup s n p).mst = s.mst :=
  (keep_releaseGroup (Sub.refl _) (Keeps.refl _ s) : Keeps _ s ((releaseGroup s n p))).same .mst rfl
@[simp] theorem fr_releaseGroup_xpt (s : State) (n : Nat) (p : Nat → Bool) : (releaseGroup s n p).xpt = s.xpt :=
  (keep_releaseGroup (Sub.refl _) (Keeps.refl _ s) : Keeps _ s ((releaseGroup s n p))).same .xpt rfl
@[simp] theorem fr_releaseGroup_prt (s : State) (n : Nat) (p : Nat → Bool) : (releaseGroup s n p).prt = s.prt :=
  (keep_releaseGroup (Sub.refl _) (Keeps.refl _ s) : Keeps _ s ((releaseGroup s n p))).same .prt rfl
@[simp] theorem fr_releaseGroup_twn (s : State) (n : Nat) (p : Nat → Bool) : (releaseGroup s n p).twn = s.twn :=
  (keep_releaseGroup (Sub.refl _) (Keeps.refl _ s) : Keeps _ s ((releaseGroup s n p))).same .twn rfl
@[simp] theorem fr_releaseGroup_draws (s : State) (n : Nat) (p : Nat → Bool) : (releaseGroup s n p).draws = s.draws :=
  (keep_releaseGroup (Sub.refl _) (Keeps.refl _ s) : Keeps _ s ((releaseGroup s n p))).same .draws rfl
@[simp] theorem fr_releaseGroup_out (s : State) (n : Nat) (p : Nat → Bool) : (releaseGroup s n p).out = s.out :=
  (keep_releaseGroup (Sub.refl _) (Keeps.refl _ s) : Keeps _ s ((releaseGroup s n p))).same .out rfl
@[simp] theorem fr_releaseGroup_now (s : State) (n : Nat) (p : Nat → Bool) : (releaseGroup s n p).now = s.now :=
  (keep_releaseGroup (Sub.refl _) (Keeps.refl _ s) : Keeps _ s ((releaseGroup s n p))).now
@[simp] theorem fr_releaseGroup_pending (s : State) (n : Nat) (p : Nat → Bool) : (releaseGroup s n p).pending = s.pending :=
  (keep_releaseGroup (Sub.refl _) (Keeps.refl _ s) : Keeps _ s ((releaseGroup s n p))).pend
@[simp] theorem fr_snapBank1_out (s : State) : (snapBank1 s).out = s.out :=
  (keep_snapBank1 (Sub.refl _) (Keeps.refl _ s) : Keeps _ s ((snapBank1 s))).same .out rfl
@[simp] theorem fr_sendPkt_xpt (s : State) (i : Nat) (opcode : Nat) (psn : Nat) (syndrome : Nat) (payload : List Nat) : (sendPkt s i opcode psn syndrome payload).xpt = s.xpt :=
  (keep_sendPkt (Sub.refl _) (Keeps.refl _ s) : Keeps _ s ((sendPkt s i opcode psn syndrome payload))).same .xpt rfl
@[simp] theorem fr_clearSlot_sav (s : State) (n : Nat) : (clearSlot s n).sav = s.sav :=
  (keep_clearSlot (Sub.refl _) (Keeps.refl _ s) : Keeps _ s ((clearSlot s n))).same .sav rfl
@[simp] theorem fr_flagRail_dev (s : State) (F : Fld) (r : Nat) (cause : Nat) : (flagRail s F r cause).dev = s.dev :=
  (keep_flagRail (Sub.refl _) (Keeps.refl _ s) : Keeps _ s ((flagRail s F r cause))).same .dev rfl
@[simp] theorem fr_flagRail_fuses (s : State) (F : Fld) (r : Nat) (cause : Nat) : (flagRail s F r cause).fuses = s.fuses :=
  (keep_flagRail (Sub.refl _) (Keeps.refl _ s) : Keeps _ s ((flagRail s F r cause))).same .fuses rfl
@[simp] theorem fr_flagRail_gai (s : State) (F : Fld) (r : Nat) (cause : Nat) : (flagRail s F r cause).gai = s.gai :=
  (keep_flagRail (Sub.refl _) (Keeps.refl _ s) : Keeps _ s ((flagRail s F r cause))).same .gai rfl
@[simp] theorem fr_flagRail_pwr (s : State) (F : Fld) (r : Nat) (cause : Nat) : (flagRail s F r cause).pwr = s.pwr :=
  (keep_flagRail (Sub.refl _) (Keeps.refl _ s) : Keeps _ s ((flagRail s F r cause))).same .pwr rfl
@[simp] theorem fr_flagRail_rst (s : State) (F : Fld) (r : Nat) (cause : Nat) : (flagRail s F r cause).rst = s.rst :=
  (keep_flagRail (Sub.refl _) (Keeps.refl _ s) : Keeps _ s ((flagRail s F r cause))).same .rst rfl
@[simp] theorem fr_flagRail_dic (s : State) (F : Fld) (r : Nat) (cause : Nat) : (flagRail s F r cause).dic = s.dic :=
  (keep_flagRail (Sub.refl _) (Keeps.refl _ s) : Keeps _ s ((flagRail s F r cause))).same .dic rfl
@[simp] theorem fr_flagRail_pci (s : State) (F : Fld) (r : Nat) (cause : Nat) : (flagRail s F r cause).pci = s.pci :=
  (keep_flagRail (Sub.refl _) (Keeps.refl _ s) : Keeps _ s ((flagRail s F r cause))).same .pci rfl
@[simp] theorem fr_flagRail_mgtDrops (s : State) (F : Fld) (r : Nat) (cause : Nat) : (flagRail s F r cause).mgtDrops = s.mgtDrops :=
  (keep_flagRail (Sub.refl _) (Keeps.refl _ s) : Keeps _ s ((flagRail s F r cause))).same .mgtDrops rfl
@[simp] theorem fr_flagRail_cpx (s : State) (F : Fld) (r : Nat) (cause : Nat) : (flagRail s F r cause).cpx = s.cpx :=
  (keep_flagRail (Sub.refl _) (Keeps.refl _ s) : Keeps _ s ((flagRail s F r cause))).same .cpx rfl
@[simp] theorem fr_flagRail_svc (s : State) (F : Fld) (r : Nat) (cause : Nat) : (flagRail s F r cause).svc = s.svc :=
  (keep_flagRail (Sub.refl _) (Keeps.refl _ s) : Keeps _ s ((flagRail s F r cause))).same .svc rfl
@[simp] theorem fr_flagRail_key (s : State) (F : Fld) (r : Nat) (cause : Nat) : (flagRail s F r cause).key = s.key :=
  (keep_flagRail (Sub.refl _) (Keeps.refl _ s) : Keeps _ s ((flagRail s F r cause))).same .key rfl
@[simp] theorem fr_flagRail_kpf (s : State) (F : Fld) (r : Nat) (cause : Nat) : (flagRail s F r cause).kpf = s.kpf :=
  (keep_flagRail (Sub.refl _) (Keeps.refl _ s) : Keeps _ s ((flagRail s F r cause))).same .kpf rfl
@[simp] theorem fr_flagRail_clk (s : State) (F : Fld) (r : Nat) (cause : Nat) : (flagRail s F r cause).clk = s.clk :=
  (keep_flagRail (Sub.refl _) (Keeps.refl _ s) : Keeps _ s ((flagRail s F r cause))).same .clk rfl
@[simp] theorem fr_flagRail_cal (s : State) (F : Fld) (r : Nat) (cause : Nat) : (flagRail s F r cause).cal = s.cal :=
  (keep_flagRail (Sub.refl _) (Keeps.refl _ s) : Keeps _ s ((flagRail s F r cause))).same .cal rfl
@[simp] theorem fr_flagRail_sav (s : State) (F : Fld) (r : Nat) (cause : Nat) : (flagRail s F r cause).sav = s.sav :=
  (keep_flagRail (Sub.refl _) (Keeps.refl _ s) : Keeps _ s ((flagRail s F r cause))).same .sav rfl
@[simp] theorem fr_flagRail_gov (s : State) (F : Fld) (r : Nat) (cause : Nat) : (flagRail s F r cause).gov = s.gov :=
  (keep_flagRail (Sub.refl _) (Keeps.refl _ s) : Keeps _ s ((flagRail s F r cause))).same .gov rfl
@[simp] theorem fr_flagRail_maps (s : State) (F : Fld) (r : Nat) (cause : Nat) : (flagRail s F r cause).maps = s.maps :=
  (keep_flagRail (Sub.refl _) (Keeps.refl _ s) : Keeps _ s ((flagRail s F r cause))).same .maps rfl
@[simp] theorem fr_flagRail_log (s : State) (F : Fld) (r : Nat) (cause : Nat) : (flagRail s F r cause).log = s.log :=
  (keep_flagRail (Sub.refl _) (Keeps.refl _ s) : Keeps _ s ((flagRail s F r cause))).same .log rfl
@[simp] theorem fr_flagRail_trn (s : State) (F : Fld) (r : Nat) (cause : Nat) : (flagRail s F r cause).trn = s.trn :=
  (keep_flagRail (Sub.refl _) (Keeps.refl _ s) : Keeps _ s ((flagRail s F r cause))).same .trn rfl
@[simp] theorem fr_flagRail_dram (s : State) (F : Fld) (r : Nat) (cause : Nat) : (flagRail s F r cause).dram = s.dram :=
  (keep_flagRail (Sub.refl _) (Keeps.refl _ s) : Keeps _ s ((flagRail s F r cause))).same .dram rfl
@[simp] theorem fr_flagRail_drc (s : State) (F : Fld) (r : Nat) (cause : Nat) : (flagRail s F r cause).drc = s.drc :=
  (keep_flagRail (Sub.refl _) (Keeps.refl _ s) : Keeps _ s ((flagRail s F r cause))).same .drc rfl
@[simp] theorem fr_flagRail_grm (s : State) (F : Fld) (r : Nat) (cause : Nat) : (flagRail s F r cause).grm = s.grm :=
  (keep_flagRail (Sub.refl _) (Keeps.refl _ s) : Keeps _ s ((flagRail s F r cause))).same .grm rfl
@[simp] theorem fr_flagRail_far (s : State) (F : Fld) (r : Nat) (cause : Nat) : (flagRail s F r cause).far = s.far :=
  (keep_flagRail (Sub.refl _) (Keeps.refl _ s) : Keeps _ s ((flagRail s F r cause))).same .far rfl
@[simp] theorem fr_flagRail_stf (s : State) (F : Fld) (r : Nat) (cause : Nat) : (flagRail s F r cause).stf = s.stf :=
  (keep_flagRail (Sub.refl _) (Keeps.refl _ s) : Keeps _ s ((flagRail s F r cause))).same .stf rfl
@[simp] theorem fr_flagRail_tie (s : State) (F : Fld) (r : Nat) (cause : Nat) : (flagRail s F r cause).tie = s.tie :=
  (keep_flagRail (Sub.refl _) (Keeps.refl _ s) : Keeps _ s ((flagRail s F r cause))).same .tie rfl
@[simp] theorem fr_flagRail_mst (s : State) (F : Fld) (r : Nat) (cause : Nat) : (flagRail s F r cause).mst = s.mst :=
  (keep_flagRail (Sub.refl _) (Keeps.refl _ s) : Keeps _ s ((flagRail s F r cause))).same .mst rfl
@[simp] theorem fr_flagRail_xpt (s : State) (F : Fld) (r : Nat) (cause : Nat) : (flagRail s F r cause).xpt = s.xpt :=
  (keep_flagRail (Sub.refl _) (Keeps.refl _ s) : Keeps _ s ((flagRail s F r cause))).same .xpt rfl
@[simp] theorem fr_flagRail_prt (s : State) (F : Fld) (r : Nat) (cause : Nat) : (flagRail s F r cause).prt = s.prt :=
  (keep_flagRail (Sub.refl _) (Keeps.refl _ s) : Keeps _ s ((flagRail s F r cause))).same .prt rfl
@[simp] theorem fr_flagRail_twn (s : State) (F : Fld) (r : Nat) (cause : Nat) : (flagRail s F r cause).twn = s.twn :=
  (keep_flagRail (Sub.refl _) (Keeps.refl _ s) : Keeps _ s ((flagRail s F r cause))).same .twn rfl
@[simp] theorem fr_flagRail_draws (s : State) (F : Fld) (r : Nat) (cause : Nat) : (flagRail s F r cause).draws = s.draws :=
  (keep_flagRail (Sub.refl _) (Keeps.refl _ s) : Keeps _ s ((flagRail s F r cause))).same .draws rfl
@[simp] theorem fr_flagRail_now (s : State) (F : Fld) (r : Nat) (cause : Nat) : (flagRail s F r cause).now = s.now :=
  (keep_flagRail (Sub.refl _) (Keeps.refl _ s) : Keeps _ s ((flagRail s F r cause))).now
@[simp] theorem fr_flagRail_pending (s : State) (F : Fld) (r : Nat) (cause : Nat) : (flagRail s F r cause).pending = s.pending :=
  (keep_flagRail (Sub.refl _) (Keeps.refl _ s) : Keeps _ s ((flagRail s F r cause))).pend
@[simp] theorem fr_showSvc_svc (s : State) : (showSvc s).svc = s.svc :=
  (keep_showSvc (Sub.refl _) (Keeps.refl _ s) : Keeps _ s ((showSvc s))).same .svc rfl
@[simp] theorem fr_svcRespond_dev (s : State) (x : Session) (f : List Nat) (status : Nat) (body : List Nat) : (svcRespond s x f status body).dev = s.dev :=
  (keep_svcRespond (Sub.refl _) (Keeps.refl _ s) : Keeps _ s ((svcRespond s x f status body))).same .dev rfl
@[simp] theorem fr_svcRespond_fuses (s : State) (x : Session) (f : List Nat) (status : Nat) (body : List Nat) : (svcRespond s x f status body).fuses = s.fuses :=
  (keep_svcRespond (Sub.refl _) (Keeps.refl _ s) : Keeps _ s ((svcRespond s x f status body))).same .fuses rfl
@[simp] theorem fr_svcRespond_gai (s : State) (x : Session) (f : List Nat) (status : Nat) (body : List Nat) : (svcRespond s x f status body).gai = s.gai :=
  (keep_svcRespond (Sub.refl _) (Keeps.refl _ s) : Keeps _ s ((svcRespond s x f status body))).same .gai rfl
@[simp] theorem fr_svcRespond_pwr (s : State) (x : Session) (f : List Nat) (status : Nat) (body : List Nat) : (svcRespond s x f status body).pwr = s.pwr :=
  (keep_svcRespond (Sub.refl _) (Keeps.refl _ s) : Keeps _ s ((svcRespond s x f status body))).same .pwr rfl
@[simp] theorem fr_svcRespond_rst (s : State) (x : Session) (f : List Nat) (status : Nat) (body : List Nat) : (svcRespond s x f status body).rst = s.rst :=
  (keep_svcRespond (Sub.refl _) (Keeps.refl _ s) : Keeps _ s ((svcRespond s x f status body))).same .rst rfl
@[simp] theorem fr_svcRespond_tack (s : State) (x : Session) (f : List Nat) (status : Nat) (body : List Nat) : (svcRespond s x f status body).tack = s.tack :=
  (keep_svcRespond (Sub.refl _) (Keeps.refl _ s) : Keeps _ s ((svcRespond s x f status body))).same .tack rfl
@[simp] theorem fr_svcRespond_dic (s : State) (x : Session) (f : List Nat) (status : Nat) (body : List Nat) : (svcRespond s x f status body).dic = s.dic :=
  (keep_svcRespond (Sub.refl _) (Keeps.refl _ s) : Keeps _ s ((svcRespond s x f status body))).same .dic rfl
@[simp] theorem fr_svcRespond_pci (s : State) (x : Session) (f : List Nat) (status : Nat) (body : List Nat) : (svcRespond s x f status body).pci = s.pci :=
  (keep_svcRespond (Sub.refl _) (Keeps.refl _ s) : Keeps _ s ((svcRespond s x f status body))).same .pci rfl
@[simp] theorem fr_svcRespond_mgtDrops (s : State) (x : Session) (f : List Nat) (status : Nat) (body : List Nat) : (svcRespond s x f status body).mgtDrops = s.mgtDrops :=
  (keep_svcRespond (Sub.refl _) (Keeps.refl _ s) : Keeps _ s ((svcRespond s x f status body))).same .mgtDrops rfl
@[simp] theorem fr_svcRespond_cpx (s : State) (x : Session) (f : List Nat) (status : Nat) (body : List Nat) : (svcRespond s x f status body).cpx = s.cpx :=
  (keep_svcRespond (Sub.refl _) (Keeps.refl _ s) : Keeps _ s ((svcRespond s x f status body))).same .cpx rfl
@[simp] theorem fr_svcRespond_key (s : State) (x : Session) (f : List Nat) (status : Nat) (body : List Nat) : (svcRespond s x f status body).key = s.key :=
  (keep_svcRespond (Sub.refl _) (Keeps.refl _ s) : Keeps _ s ((svcRespond s x f status body))).same .key rfl
@[simp] theorem fr_svcRespond_kpf (s : State) (x : Session) (f : List Nat) (status : Nat) (body : List Nat) : (svcRespond s x f status body).kpf = s.kpf :=
  (keep_svcRespond (Sub.refl _) (Keeps.refl _ s) : Keeps _ s ((svcRespond s x f status body))).same .kpf rfl
@[simp] theorem fr_svcRespond_clk (s : State) (x : Session) (f : List Nat) (status : Nat) (body : List Nat) : (svcRespond s x f status body).clk = s.clk :=
  (keep_svcRespond (Sub.refl _) (Keeps.refl _ s) : Keeps _ s ((svcRespond s x f status body))).same .clk rfl
@[simp] theorem fr_svcRespond_cal (s : State) (x : Session) (f : List Nat) (status : Nat) (body : List Nat) : (svcRespond s x f status body).cal = s.cal :=
  (keep_svcRespond (Sub.refl _) (Keeps.refl _ s) : Keeps _ s ((svcRespond s x f status body))).same .cal rfl
@[simp] theorem fr_svcRespond_sav (s : State) (x : Session) (f : List Nat) (status : Nat) (body : List Nat) : (svcRespond s x f status body).sav = s.sav :=
  (keep_svcRespond (Sub.refl _) (Keeps.refl _ s) : Keeps _ s ((svcRespond s x f status body))).same .sav rfl
@[simp] theorem fr_svcRespond_gov (s : State) (x : Session) (f : List Nat) (status : Nat) (body : List Nat) : (svcRespond s x f status body).gov = s.gov :=
  (keep_svcRespond (Sub.refl _) (Keeps.refl _ s) : Keeps _ s ((svcRespond s x f status body))).same .gov rfl
@[simp] theorem fr_svcRespond_maps (s : State) (x : Session) (f : List Nat) (status : Nat) (body : List Nat) : (svcRespond s x f status body).maps = s.maps :=
  (keep_svcRespond (Sub.refl _) (Keeps.refl _ s) : Keeps _ s ((svcRespond s x f status body))).same .maps rfl
@[simp] theorem fr_svcRespond_log (s : State) (x : Session) (f : List Nat) (status : Nat) (body : List Nat) : (svcRespond s x f status body).log = s.log :=
  (keep_svcRespond (Sub.refl _) (Keeps.refl _ s) : Keeps _ s ((svcRespond s x f status body))).same .log rfl
@[simp] theorem fr_svcRespond_trn (s : State) (x : Session) (f : List Nat) (status : Nat) (body : List Nat) : (svcRespond s x f status body).trn = s.trn :=
  (keep_svcRespond (Sub.refl _) (Keeps.refl _ s) : Keeps _ s ((svcRespond s x f status body))).same .trn rfl
@[simp] theorem fr_svcRespond_dram (s : State) (x : Session) (f : List Nat) (status : Nat) (body : List Nat) : (svcRespond s x f status body).dram = s.dram :=
  (keep_svcRespond (Sub.refl _) (Keeps.refl _ s) : Keeps _ s ((svcRespond s x f status body))).same .dram rfl
@[simp] theorem fr_svcRespond_drc (s : State) (x : Session) (f : List Nat) (status : Nat) (body : List Nat) : (svcRespond s x f status body).drc = s.drc :=
  (keep_svcRespond (Sub.refl _) (Keeps.refl _ s) : Keeps _ s ((svcRespond s x f status body))).same .drc rfl
@[simp] theorem fr_svcRespond_grm (s : State) (x : Session) (f : List Nat) (status : Nat) (body : List Nat) : (svcRespond s x f status body).grm = s.grm :=
  (keep_svcRespond (Sub.refl _) (Keeps.refl _ s) : Keeps _ s ((svcRespond s x f status body))).same .grm rfl
@[simp] theorem fr_svcRespond_far (s : State) (x : Session) (f : List Nat) (status : Nat) (body : List Nat) : (svcRespond s x f status body).far = s.far :=
  (keep_svcRespond (Sub.refl _) (Keeps.refl _ s) : Keeps _ s ((svcRespond s x f status body))).same .far rfl
@[simp] theorem fr_svcRespond_stf (s : State) (x : Session) (f : List Nat) (status : Nat) (body : List Nat) : (svcRespond s x f status body).stf = s.stf :=
  (keep_svcRespond (Sub.refl _) (Keeps.refl _ s) : Keeps _ s ((svcRespond s x f status body))).same .stf rfl
@[simp] theorem fr_svcRespond_tie (s : State) (x : Session) (f : List Nat) (status : Nat) (body : List Nat) : (svcRespond s x f status body).tie = s.tie :=
  (keep_svcRespond (Sub.refl _) (Keeps.refl _ s) : Keeps _ s ((svcRespond s x f status body))).same .tie rfl
@[simp] theorem fr_svcRespond_mst (s : State) (x : Session) (f : List Nat) (status : Nat) (body : List Nat) : (svcRespond s x f status body).mst = s.mst :=
  (keep_svcRespond (Sub.refl _) (Keeps.refl _ s) : Keeps _ s ((svcRespond s x f status body))).same .mst rfl
@[simp] theorem fr_svcRespond_xpt (s : State) (x : Session) (f : List Nat) (status : Nat) (body : List Nat) : (svcRespond s x f status body).xpt = s.xpt :=
  (keep_svcRespond (Sub.refl _) (Keeps.refl _ s) : Keeps _ s ((svcRespond s x f status body))).same .xpt rfl
@[simp] theorem fr_svcRespond_prt (s : State) (x : Session) (f : List Nat) (status : Nat) (body : List Nat) : (svcRespond s x f status body).prt = s.prt :=
  (keep_svcRespond (Sub.refl _) (Keeps.refl _ s) : Keeps _ s ((svcRespond s x f status body))).same .prt rfl
@[simp] theorem fr_svcRespond_twn (s : State) (x : Session) (f : List Nat) (status : Nat) (body : List Nat) : (svcRespond s x f status body).twn = s.twn :=
  (keep_svcRespond (Sub.refl _) (Keeps.refl _ s) : Keeps _ s ((svcRespond s x f status body))).same .twn rfl
@[simp] theorem fr_svcRespond_draws (s : State) (x : Session) (f : List Nat) (status : Nat) (body : List Nat) : (svcRespond s x f status body).draws = s.draws :=
  (keep_svcRespond (Sub.refl _) (Keeps.refl _ s) : Keeps _ s ((svcRespond s x f status body))).same .draws rfl
@[simp] theorem fr_svcRespond_now (s : State) (x : Session) (f : List Nat) (status : Nat) (body : List Nat) : (svcRespond s x f status body).now = s.now :=
  (keep_svcRespond (Sub.refl _) (Keeps.refl _ s) : Keeps _ s ((svcRespond s x f status body))).now
@[simp] theorem fr_svcRespond_pending (s : State) (x : Session) (f : List Nat) (status : Nat) (body : List Nat) : (svcRespond s x f status body).pending = s.pending :=
  (keep_svcRespond (Sub.refl _) (Keeps.refl _ s) : Keeps _ s ((svcRespond s x f status body))).pend
@[simp] theorem fr_tornFlash_dev (s : State) : (tornFlash s).dev = s.dev :=
  (keep_tornFlash (Sub.refl _) (Keeps.refl _ s) : Keeps _ s ((tornFlash s))).same .dev rfl
@[simp] theorem fr_tornFlash_fuses (s : State) : (tornFlash s).fuses = s.fuses :=
  (keep_tornFlash (Sub.refl _) (Keeps.refl _ s) : Keeps _ s ((tornFlash s))).same .fuses rfl
@[simp] theorem fr_tornFlash_gai (s : State) : (tornFlash s).gai = s.gai :=
  (keep_tornFlash (Sub.refl _) (Keeps.refl _ s) : Keeps _ s ((tornFlash s))).same .gai rfl
@[simp] theorem fr_tornFlash_pwr (s : State) : (tornFlash s).pwr = s.pwr :=
  (keep_tornFlash (Sub.refl _) (Keeps.refl _ s) : Keeps _ s ((tornFlash s))).same .pwr rfl
@[simp] theorem fr_tornFlash_rst (s : State) : (tornFlash s).rst = s.rst :=
  (keep_tornFlash (Sub.refl _) (Keeps.refl _ s) : Keeps _ s ((tornFlash s))).same .rst rfl
@[simp] theorem fr_tornFlash_tack (s : State) : (tornFlash s).tack = s.tack :=
  (keep_tornFlash (Sub.refl _) (Keeps.refl _ s) : Keeps _ s ((tornFlash s))).same .tack rfl
@[simp] theorem fr_tornFlash_dic (s : State) : (tornFlash s).dic = s.dic :=
  (keep_tornFlash (Sub.refl _) (Keeps.refl _ s) : Keeps _ s ((tornFlash s))).same .dic rfl
@[simp] theorem fr_tornFlash_pci (s : State) : (tornFlash s).pci = s.pci :=
  (keep_tornFlash (Sub.refl _) (Keeps.refl _ s) : Keeps _ s ((tornFlash s))).same .pci rfl
@[simp] theorem fr_tornFlash_mgtDrops (s : State) : (tornFlash s).mgtDrops = s.mgtDrops :=
  (keep_tornFlash (Sub.refl _) (Keeps.refl _ s) : Keeps _ s ((tornFlash s))).same .mgtDrops rfl
@[simp] theorem fr_tornFlash_cpx (s : State) : (tornFlash s).cpx = s.cpx :=
  (keep_tornFlash (Sub.refl _) (Keeps.refl _ s) : Keeps _ s ((tornFlash s))).same .cpx rfl
@[simp] theorem fr_tornFlash_svc (s : State) : (tornFlash s).svc = s.svc :=
  (keep_tornFlash (Sub.refl _) (Keeps.refl _ s) : Keeps _ s ((tornFlash s))).same .svc rfl
@[simp] theorem fr_tornFlash_key (s : State) : (tornFlash s).key = s.key :=
  (keep_tornFlash (Sub.refl _) (Keeps.refl _ s) : Keeps _ s ((tornFlash s))).same .key rfl
@[simp] theorem fr_tornFlash_kpf (s : State) : (tornFlash s).kpf = s.kpf :=
  (keep_tornFlash (Sub.refl _) (Keeps.refl _ s) : Keeps _ s ((tornFlash s))).same .kpf rfl
@[simp] theorem fr_tornFlash_clk (s : State) : (tornFlash s).clk = s.clk :=
  (keep_tornFlash (Sub.refl _) (Keeps.refl _ s) : Keeps _ s ((tornFlash s))).same .clk rfl
@[simp] theorem fr_tornFlash_cal (s : State) : (tornFlash s).cal = s.cal :=
  (keep_tornFlash (Sub.refl _) (Keeps.refl _ s) : Keeps _ s ((tornFlash s))).same .cal rfl
@[simp] theorem fr_tornFlash_gov (s : State) : (tornFlash s).gov = s.gov :=
  (keep_tornFlash (Sub.refl _) (Keeps.refl _ s) : Keeps _ s ((tornFlash s))).same .gov rfl
@[simp] theorem fr_tornFlash_log (s : State) : (tornFlash s).log = s.log :=
  (keep_tornFlash (Sub.refl _) (Keeps.refl _ s) : Keeps _ s ((tornFlash s))).same .log rfl
@[simp] theorem fr_tornFlash_dram (s : State) : (tornFlash s).dram = s.dram :=
  (keep_tornFlash (Sub.refl _) (Keeps.refl _ s) : Keeps _ s ((tornFlash s))).same .dram rfl
@[simp] theorem fr_tornFlash_drc (s : State) : (tornFlash s).drc = s.drc :=
  (keep_tornFlash (Sub.refl _) (Keeps.refl _ s) : Keeps _ s ((tornFlash s))).same .drc rfl
@[simp] theorem fr_tornFlash_grm (s : State) : (tornFlash s).grm = s.grm :=
  (keep_tornFlash (Sub.refl _) (Keeps.refl _ s) : Keeps _ s ((tornFlash s))).same .grm rfl
@[simp] theorem fr_tornFlash_far (s : State) : (tornFlash s).far = s.far :=
  (keep_tornFlash (Sub.refl _) (Keeps.refl _ s) : Keeps _ s ((tornFlash s))).same .far rfl
@[simp] theorem fr_tornFlash_stf (s : State) : (tornFlash s).stf = s.stf :=
  (keep_tornFlash (Sub.refl _) (Keeps.refl _ s) : Keeps _ s ((tornFlash s))).same .stf rfl
@[simp] theorem fr_tornFlash_tie (s : State) : (tornFlash s).tie = s.tie :=
  (keep_tornFlash (Sub.refl _) (Keeps.refl _ s) : Keeps _ s ((tornFlash s))).same .tie rfl
@[simp] theorem fr_tornFlash_mst (s : State) : (tornFlash s).mst = s.mst :=
  (keep_tornFlash (Sub.refl _) (Keeps.refl _ s) : Keeps _ s ((tornFlash s))).same .mst rfl
@[simp] theorem fr_tornFlash_xpt (s : State) : (tornFlash s).xpt = s.xpt :=
  (keep_tornFlash (Sub.refl _) (Keeps.refl _ s) : Keeps _ s ((tornFlash s))).same .xpt rfl
@[simp] theorem fr_tornFlash_prt (s : State) : (tornFlash s).prt = s.prt :=
  (keep_tornFlash (Sub.refl _) (Keeps.refl _ s) : Keeps _ s ((tornFlash s))).same .prt rfl
@[simp] theorem fr_tornFlash_twn (s : State) : (tornFlash s).twn = s.twn :=
  (keep_tornFlash (Sub.refl _) (Keeps.refl _ s) : Keeps _ s ((tornFlash s))).same .twn rfl
@[simp] theorem fr_tornFlash_draws (s : State) : (tornFlash s).draws = s.draws :=
  (keep_tornFlash (Sub.refl _) (Keeps.refl _ s) : Keeps _ s ((tornFlash s))).same .draws rfl
@[simp] theorem fr_tornFlash_now (s : State) : (tornFlash s).now = s.now :=
  (keep_tornFlash (Sub.refl _) (Keeps.refl _ s) : Keeps _ s ((tornFlash s))).now
@[simp] theorem fr_tornFlash_pending (s : State) : (tornFlash s).pending = s.pending :=
  (keep_tornFlash (Sub.refl _) (Keeps.refl _ s) : Keeps _ s ((tornFlash s))).pend
@[simp] theorem fr_retireImage_dev (s : State) : (retireImage s).dev = s.dev :=
  (keep_retireImage (Sub.refl _) (Keeps.refl _ s) : Keeps _ s ((retireImage s))).same .dev rfl
@[simp] theorem fr_retireImage_fuses (s : State) : (retireImage s).fuses = s.fuses :=
  (keep_retireImage (Sub.refl _) (Keeps.refl _ s) : Keeps _ s ((retireImage s))).same .fuses rfl
@[simp] theorem fr_retireImage_gai (s : State) : (retireImage s).gai = s.gai :=
  (keep_retireImage (Sub.refl _) (Keeps.refl _ s) : Keeps _ s ((retireImage s))).same .gai rfl
@[simp] theorem fr_retireImage_pwr (s : State) : (retireImage s).pwr = s.pwr :=
  (keep_retireImage (Sub.refl _) (Keeps.refl _ s) : Keeps _ s ((retireImage s))).same .pwr rfl
@[simp] theorem fr_retireImage_rst (s : State) : (retireImage s).rst = s.rst :=
  (keep_retireImage (Sub.refl _) (Keeps.refl _ s) : Keeps _ s ((retireImage s))).same .rst rfl
@[simp] theorem fr_retireImage_tack (s : State) : (retireImage s).tack = s.tack :=
  (keep_retireImage (Sub.refl _) (Keeps.refl _ s) : Keeps _ s ((retireImage s))).same .tack rfl
@[simp] theorem fr_retireImage_dic (s : State) : (retireImage s).dic = s.dic :=
  (keep_retireImage (Sub.refl _) (Keeps.refl _ s) : Keeps _ s ((retireImage s))).same .dic rfl
@[simp] theorem fr_retireImage_pci (s : State) : (retireImage s).pci = s.pci :=
  (keep_retireImage (Sub.refl _) (Keeps.refl _ s) : Keeps _ s ((retireImage s))).same .pci rfl
@[simp] theorem fr_retireImage_mgtDrops (s : State) : (retireImage s).mgtDrops = s.mgtDrops :=
  (keep_retireImage (Sub.refl _) (Keeps.refl _ s) : Keeps _ s ((retireImage s))).same .mgtDrops rfl
@[simp] theorem fr_retireImage_cpx (s : State) : (retireImage s).cpx = s.cpx :=
  (keep_retireImage (Sub.refl _) (Keeps.refl _ s) : Keeps _ s ((retireImage s))).same .cpx rfl
@[simp] theorem fr_retireImage_svc (s : State) : (retireImage s).svc = s.svc :=
  (keep_retireImage (Sub.refl _) (Keeps.refl _ s) : Keeps _ s ((retireImage s))).same .svc rfl
@[simp] theorem fr_retireImage_key (s : State) : (retireImage s).key = s.key :=
  (keep_retireImage (Sub.refl _) (Keeps.refl _ s) : Keeps _ s ((retireImage s))).same .key rfl
@[simp] theorem fr_retireImage_kpf (s : State) : (retireImage s).kpf = s.kpf :=
  (keep_retireImage (Sub.refl _) (Keeps.refl _ s) : Keeps _ s ((retireImage s))).same .kpf rfl
@[simp] theorem fr_retireImage_clk (s : State) : (retireImage s).clk = s.clk :=
  (keep_retireImage (Sub.refl _) (Keeps.refl _ s) : Keeps _ s ((retireImage s))).same .clk rfl
@[simp] theorem fr_retireImage_cal (s : State) : (retireImage s).cal = s.cal :=
  (keep_retireImage (Sub.refl _) (Keeps.refl _ s) : Keeps _ s ((retireImage s))).same .cal rfl
@[simp] theorem fr_retireImage_gov (s : State) : (retireImage s).gov = s.gov :=
  (keep_retireImage (Sub.refl _) (Keeps.refl _ s) : Keeps _ s ((retireImage s))).same .gov rfl
@[simp] theorem fr_retireImage_log (s : State) : (retireImage s).log = s.log :=
  (keep_retireImage (Sub.refl _) (Keeps.refl _ s) : Keeps _ s ((retireImage s))).same .log rfl
@[simp] theorem fr_retireImage_dram (s : State) : (retireImage s).dram = s.dram :=
  (keep_retireImage (Sub.refl _) (Keeps.refl _ s) : Keeps _ s ((retireImage s))).same .dram rfl
@[simp] theorem fr_retireImage_drc (s : State) : (retireImage s).drc = s.drc :=
  (keep_retireImage (Sub.refl _) (Keeps.refl _ s) : Keeps _ s ((retireImage s))).same .drc rfl
@[simp] theorem fr_retireImage_grm (s : State) : (retireImage s).grm = s.grm :=
  (keep_retireImage (Sub.refl _) (Keeps.refl _ s) : Keeps _ s ((retireImage s))).same .grm rfl
@[simp] theorem fr_retireImage_far (s : State) : (retireImage s).far = s.far :=
  (keep_retireImage (Sub.refl _) (Keeps.refl _ s) : Keeps _ s ((retireImage s))).same .far rfl
@[simp] theorem fr_retireImage_stf (s : State) : (retireImage s).stf = s.stf :=
  (keep_retireImage (Sub.refl _) (Keeps.refl _ s) : Keeps _ s ((retireImage s))).same .stf rfl
@[simp] theorem fr_retireImage_tie (s : State) : (retireImage s).tie = s.tie :=
  (keep_retireImage (Sub.refl _) (Keeps.refl _ s) : Keeps _ s ((retireImage s))).same .tie rfl
@[simp] theorem fr_retireImage_mst (s : State) : (retireImage s).mst = s.mst :=
  (keep_retireImage (Sub.refl _) (Keeps.refl _ s) : Keeps _ s ((retireImage s))).same .mst rfl
@[simp] theorem fr_retireImage_xpt (s : State) : (retireImage s).xpt = s.xpt :=
  (keep_retireImage (Sub.refl _) (Keeps.refl _ s) : Keeps _ s ((retireImage s))).same .xpt rfl
@[simp] theorem fr_retireImage_prt (s : State) : (retireImage s).prt = s.prt :=
  (keep_retireImage (Sub.refl _) (Keeps.refl _ s) : Keeps _ s ((retireImage s))).same .prt rfl
@[simp] theorem fr_retireImage_twn (s : State) : (retireImage s).twn = s.twn :=
  (keep_retireImage (Sub.refl _) (Keeps.refl _ s) : Keeps _ s ((retireImage s))).same .twn rfl
@[simp] theorem fr_retireImage_draws (s : State) : (retireImage s).draws = s.draws :=
  (keep_retireImage (Sub.refl _) (Keeps.refl _ s) : Keeps _ s ((retireImage s))).same .draws rfl
@[simp] theorem fr_retireImage_now (s : State) : (retireImage s).now = s.now :=
  (keep_retireImage (Sub.refl _) (Keeps.refl _ s) : Keeps _ s ((retireImage s))).now
@[simp] theorem fr_retireImage_pending (s : State) : (retireImage s).pending = s.pending :=
  (keep_retireImage (Sub.refl _) (Keeps.refl _ s) : Keeps _ s ((retireImage s))).pend
@[simp] theorem fr_gaitEnterServing_dev (s : State) : (gaitEnterServing s).dev = s.dev :=
  (keep_gaitEnterServing (Sub.refl _) (Keeps.refl _ s) : Keeps _ s ((gaitEnterServing s))).same .dev rfl
@[simp] theorem fr_farOpen_dev (s : State) : (farOpen s).dev = s.dev :=
  (keep_farOpen (Sub.refl _) (Keeps.refl _ s) : Keeps _ s ((farOpen s))).same .dev rfl
@[simp] theorem fr_setStudPos_recd (s : State) (copy : Nat) (off : Nat) : (setStudPos s copy off).recd = s.recd :=
  (keep_setStudPos (Sub.refl _) (Keeps.refl _ s) : Keeps _ s ((setStudPos s copy off))).same .recd rfl

end Sys2Proof.Laws
end

