-- ==== Sys2Proof/Laws/Ops.lean ====
section
/-! SUPPORT. Lemmas about shared operations of several chapters: what a save, a fall, an admitted frame, a map write or a job's
record leave of the state. A part that an operation does not change is found with its lemma in Laws/KeepOps.lean. -/

namespace Sys2Proof.Laws

open Sys2Proof Sys2Proof.Machine

/-- A part that is no part of the mask is the same. -/
theorem Keeps.same_of {k : Nat} {a s : State} (h : Keeps k a s) (p : StPart) (e : k.testBit p.bit = false) : p.same a s := h.same p e

/-- The parts outside a list are outside a mask. -/
theorem mask_of_list {l : List StPart} {k : Nat} (h : StPart.all.all (fun p => l.contains p || !k.testBit p.bit) = true) (p : StPart)
    (hp : p ∉ l) : k.testBit p.bit = false := by
  rw [List.all_eq_true] at h
  have := h p (by cases p <;> decide)
  simpa [hp] using this

@[simp] theorem countDirty_maps (s : State) (o n : Bool) : (countDirty s o n).maps = s.maps :=
  (keep_countDirty (Sub.refl _) (Keeps.refl _ s) : Keeps _ s (countDirty s o n)).same .maps rfl

theorem mstForget_mst (s : State) (ids : List Nat) : (mstForget s ids).mst = s.mst :=
  (keep_mstForget (Sub.refl _) (Keeps.refl _ s) : Keeps _ s (mstForget s ids)).same .mst rfl

theorem mstWrite_mst (s : State) (a : Nat) (bs : List Nat) : (mstWrite s a bs).1.mst = s.mst :=
  (keep_mstWrite (Sub.refl _) (Keeps.refl _ s) : Keeps _ s (mstWrite s a bs).1).same .mst rfl

@[simp] theorem revokeTokens_dev (s : State) : (revokeTokens s).dev = s.dev :=
  (keep_revokeTokens (Sub.refl _) (Keeps.refl _ s) : Keeps _ s (revokeTokens s)).same .dev rfl

@[simp] theorem holdWriters_dev (s : State) : (holdWriters s).dev = s.dev :=
  (keep_holdWriters (Sub.refl _) (Keeps.refl _ s) : Keeps _ s (holdWriters s)).same .dev rfl

@[simp] theorem marginsBack_dev (s : State) : (marginsBack s).dev = s.dev :=
  (keep_marginsBack (Sub.refl _) (Keeps.refl _ s) : Keeps _ s (marginsBack s)).same .dev rfl

@[simp] theorem stopShaft_dev (s : State) : (stopShaft s).dev = s.dev :=
  (keep_stopShaft (Sub.refl _) (Keeps.refl _ s) : Keeps _ s (stopShaft s)).same .dev rfl

@[simp] theorem beginStretch_dev (s : State) : (beginStretch s).dev = s.dev :=
  (keep_beginStretch (Sub.refl _) (Keeps.refl _ s) : Keeps _ s (beginStretch s)).same .dev rfl

@[simp] theorem requestLock_dev (s : State) : (requestLock s).dev = s.dev :=
  (keep_requestLock (Sub.refl _) (Keeps.refl _ s) : Keeps _ s (requestLock s)).same .dev rfl

@[simp] theorem quietPoint_dev (s : State) (n : Nat) : (quietPoint s n).dev = s.dev :=
  (keep_quietPoint (Sub.refl _) (Keeps.refl _ s) : Keeps _ s (quietPoint s n)).same .dev rfl

@[simp] theorem hopWrite_maps (s : State) (a : Nat) : (hopWrite s a).maps = s.maps :=
  (keep_hopWrite (Sub.refl _) (Keeps.refl _ s) : Keeps _ s (hopWrite s a)).same .maps rfl

@[simp] theorem showHandler_dic (s : State) : (showHandler s).dic = s.dic :=
  (keep_showHandler (Sub.refl _) (Keeps.refl _ s) : Keeps _ s (showHandler s)).same .dic rfl

@[simp] theorem showMst_mst (s : State) : (showMst s).mst = s.mst :=
  (keep_showMst (Sub.refl _) (Keeps.refl _ s) : Keeps _ s (showMst s)).same .mst rfl

/-- A part that each element of a list leaves as it is. -/
theorem foldl_keep_mem {α β : Type} (f : State → α → State) (g : State → β) (l : List α) (s : State)
    (h : ∀ u, ∀ x ∈ l, g (f u x) = g u) : g (l.foldl f s) = g s := by
  induction l generalizing s with
  | nil => rfl
  | cons a l ih => rw [List.foldl_cons, ih _ (fun u x hx => h u x (List.mem_cons_of_mem _ hx)), h _ _ (List.mem_cons_self ..)]
theorem foldl_keep {α β : Type} (f : State → α → State) (g : State → β) (l : List α) (s : State) (h : ∀ u x, g (f u x) = g u) :
    g (l.foldl f s) = g s := by
  induction l generalizing s with
  | nil => rfl
  | cons x xs ih => exact (ih _).trans (h _ _)
theorem foldl_dev {α : Type} (f : State → α → State) (l : List α) (s : State) (h : ∀ u x, (f u x).dev = u.dev) :
    (l.foldl f s).dev = s.dev := foldl_keep f (fun s => s.dev) l s h
@[simp] theorem startSave_dev (s : State) (c : SaveCause) : (startSave s c).dev = .saving := by
  unfold startSave
  dsimp only
  rw [revokeTokens_dev, holdWriters_dev, marginsBack_dev, foldl_dev, raise_dev]
  · split <;> simp [setDev]
  · intro _ _; rfl
@[simp] theorem startFall_dev (s : State) (i w : Nat) : (startFall s i w).dev = .falling := by
  simp [startFall, setDev, stepBegin]
@[simp] theorem startRising_dev (s : State) (w : Nat) : (startRising s w).dev = .rising := by
  simp [startRising, setDev, stepBegin]
theorem enterStandby_dev (s : State) (a : Bool) (w : Nat) : (enterStandby s a w).dev = .standby ∨ (enterStandby s a w).dev = .rising := by
  unfold enterStandby
  simp
  split <;> simp [setDev]

theorem bbp24 (m i : Nat) (b : Bool) (h : i < 24) : bit (bitPut m i b % 16777216) i = b := bit_bitPut_mod m i 24 b h
theorem bbp4 (m i : Nat) (b : Bool) (h : i < 4) : bit (bitPut m i b % 16) i = b := bit_bitPut_mod m i 4 b h

theorem onT (s : State) (F : Fld) (i b : Nat) : (s.on F i b = true) ↔ s.rf.val.get (F.key i b) (F.dflt (i + F.cnt * b)) = 1 := by unfold State.on State.rd; exact decide_eq_true_iff
theorem onF (s : State) (F : Fld) (i b : Nat) : (s.on F i b = false) ↔ ¬ s.rf.val.get (F.key i b) (F.dflt (i + F.cnt * b)) = 1 := by unfold State.on State.rd; exact decide_eq_false_iff_not
@[simp] theorem b2n_mod (b : Bool) : b2n b % 2 = b2n b := by cases b <;> rfl
@[simp] theorem b2n_lt (b : Bool) : b2n b < 2 := by cases b <;> decide
@[simp] theorem raise_group (s : State) (c : Nat) (p : List Nat) : (raise s c p).rf.group = s.rf.group := by
  have e := (keep_raise (Sub.refl _) (Keeps.refl _ s) : Keeps _ s (raise s c p)).same .regs rfl
  exact congrArg (fun x : Sparse Nat × Sparse Nat × Sparse Nat × Sparse Nat => x.2.2.1) e
@[simp] theorem raise_shadow (s : State) (c : Nat) (p : List Nat) : (raise s c p).rf.shadow = s.rf.shadow := by
  have e := (keep_raise (Sub.refl _) (Keeps.refl _ s) : Keeps _ s (raise s c p)).same .regs rfl
  exact congrArg (fun x : Sparse Nat × Sparse Nat × Sparse Nat × Sparse Nat => x.2.1) e
theorem find?_mapK {α : Type} (m : Sparse α) (f : Nat → α → α) (k : Nat) : (m.mapK f).find? k = (m.find? k).map (f k) := by
  induction m with
  | nil => rfl
  | cons e m ih =>
    obtain ⟨j, v⟩ := e
    show Sparse.find? ((j, f j v) :: Sparse.mapK m f) k = _
    simp only [Sparse.find?]
    split
    · rename_i h; subst h; rfl
    · exact ih
theorem kindFrame_accept {s : State} {x : Session} {path k src : Nat} {f : List Nat} (hr : dicReady s path) (ha : accepts s x path k f)
    (hk : k ≠ 1) : kindFrame k s path src f =
      extRun (requestFrame (modSession (tagBlocks (atFrame s path) (12 + frameLen f)) (frameSess f)
        (fun y => { y with lastTime := s.now, src := src })) (frameSess f) { x with src := src } f) := by
  obtain ⟨r1, r2, r3, r4, r5, _⟩ := hr
  obtain ⟨a1, a2, a3, a4, a5, a6, a7⟩ := ha
  simp only [kindFrame, a2, or_true, if_true, frameIn, r1, r2, r3, r4, r5, Bool.not_true, Bool.false_eq_true, if_false,
    Option.isSome_none, beginFrame, handleFrame, a1, hk, show (atFrame s path).dic.sessions.find? (frameSess f) = some x from a3, a4, a5, ne_eq,
    not_true_eq_false, a6, show (atFrame s path).now = s.now from rfl]
theorem extRun_idle {s : State} (h : s.dic.extPend = []) : extRun s = s := by
  unfold extRun
  rw [if_pos (Or.inr (by rw [h]; rfl))]
theorem requestFrame_items {s : State} {x : Session} {n : Nat} {f : List Nat} (hs : frameSeq f = x.lastSeq + 1)
    (hk : frameKind f = 5 ∨ frameKind f = 6) : requestFrame s n x f = runItems s n x f := by
  have q : frameSeq f ≠ x.lastSeq := by omega
  unfold requestFrame
  rw [if_neg (by simp [q]), if_neg (by simp [hs]), if_pos hk]
theorem noAnswer_dic (s : State) (p : Nat) : (noAnswer s p).dic = s.dic := by
  unfold noAnswer
  split <;> rfl
theorem endSession_dic (s : State) (n w : Nat) : (endSession s n w).dic.sessions.find? n = none ∧ (endSession s n w).dic.queue = s.dic.queue ∧
    (endSession s n w).dic.extPend = s.dic.extPend := by
  unfold endSession
  split
  · rename_i h; exact ⟨h, rfl, rfl⟩
  · have key : ∀ (m : Bool) (p : Nat) (u : State), u.dic.sessions = s.dic.sessions.del n → u.dic.queue = s.dic.queue →
        u.dic.extPend = s.dic.extPend →
        ((if m then noAnswer (showHandler u) p else u).dic.sessions.find? n = none ∧
          (if m then noAnswer (showHandler u) p else u).dic.queue = s.dic.queue ∧
          (if m then noAnswer (showHandler u) p else u).dic.extPend = s.dic.extPend) := by
      intro m p u a b c
      cases m <;> simp [noAnswer_dic, a, b, c]
    dsimp only
    split
    · rw [raise_dic]; exact key _ _ _ rfl rfl rfl
    · exact key _ _ _ rfl rfl rfl
theorem hopWrite_rd (s : State) (a : Nat) (G : Fld) (j c : Nat) (h1 : G.key j c ≠ R.TRN_HOPSTAT_LINES.key 0 0)
    (h2 : G.key j c ≠ R.TRN_HOPSTAT_EMPTY.key 0 0) : (hopWrite s a).rd G j c = s.rd G j c := by
  have hs : ∀ u : State, (showHopper u).rd G j c = u.rd G j c := by
    intro u; unfold showHopper; rw [rd_wr_other _ _ _ _ _ _ _ _ h2, rd_wr_other _ _ _ _ _ _ _ _ h1]
  unfold hopWrite
  split
  · rfl
  · dsimp only
    split
    · unfold drainHopper; rw [hs]
      show (raise _ _ _).rd G j c = _
      rw [rd_raise, hs]; rfl
    · rw [hs]; rfl
theorem countDirty_rd (s : State) (o n : Bool) (G : Fld) (j c : Nat) (h : G.key j c ≠ R.GOV_DIRTY.key 0 0) :
    (countDirty s o n).rd G j c = s.rd G j c := by
  unfold countDirty
  split
  · rfl
  · split <;> exact rd_wr_other _ _ _ _ _ _ _ _ h
theorem dirtyPage_rd (n f : Nat) (s : State) (G : Fld) (j c : Nat) (h1 : G.key j c ≠ R.TRN_HOPSTAT_LINES.key 0 0)
    (h2 : G.key j c ≠ R.TRN_HOPSTAT_EMPTY.key 0 0) (h3 : G.key j c ≠ R.GOV_DIRTY.key 0 0) : (dirtyPage n f s).rd G j c = s.rd G j c := by
  induction n generalizing f s with
  | zero => rfl
  | succ n ih =>
    unfold dirtyPage
    dsimp only
    split
    · rfl
    · rw [ih, hopWrite_rd _ _ _ _ _ h1 h2, countDirty_rd _ _ _ _ _ _ h3]; rfl
theorem mapTouch_rd (a : Nat) (s : State) (G : Fld) (j c : Nat) (h1 : G.key j c ≠ R.TRN_HOPSTAT_LINES.key 0 0)
    (h2 : G.key j c ≠ R.TRN_HOPSTAT_EMPTY.key 0 0) (h3 : G.key j c ≠ R.GOV_DIRTY.key 0 0) : (mapTouch a s).rd G j c = s.rd G j c := by
  unfold mapTouch
  rw [dirtyPage_rd _ _ _ _ _ _ h1 h2 h3, hopWrite_rd _ _ _ _ _ h1 h2]
theorem dirtyPage_maps (n f : Nat) (s : State) : ∃ x, (dirtyPage n f s).maps = { s.maps with frames := x } := by
  induction n generalizing f s with
  | zero => exact ⟨_, rfl⟩
  | succ n ih =>
    unfold dirtyPage
    dsimp only
    split
    · exact ⟨_, rfl⟩
    · obtain ⟨x, hx⟩ := ih (frmAddr (hopWrite (countDirty _ false true) _) f / 4096) (hopWrite (countDirty _ false true) _)
      refine ⟨x, hx.trans ?_⟩
      simp
theorem mapTouch_maps (a : Nat) (s : State) : ∃ x, (mapTouch a s).maps = { s.maps with frames := x } := by
  unfold mapTouch
  obtain ⟨x, hx⟩ := dirtyPage_maps 5 (a / 4096) (hopWrite s a)
  exact ⟨x, hx.trans (by simp)⟩
@[simp] theorem mapTouch_regions (a : Nat) (s : State) : (mapTouch a s).maps.regions = s.maps.regions := by
  obtain ⟨x, hx⟩ := mapTouch_maps a s; rw [hx]
@[simp] theorem mapTouch_freed (a : Nat) (s : State) : (mapTouch a s).maps.freed = s.maps.freed := by
  obtain ⟨x, hx⟩ := mapTouch_maps a s; rw [hx]
@[simp] theorem mapTouch_extents (a : Nat) (s : State) : (mapTouch a s).maps.extents = s.maps.extents := by
  obtain ⟨x, hx⟩ := mapTouch_maps a s; rw [hx]
theorem reqAt_setReq (s : State) (r x : Req) (h : reqAt s r.id = some x) : reqAt (setReq s r) r.id = some r := by
  unfold reqAt at h ⊢
  unfold setReq
  dsimp only
  generalize s.xpt.reqs = l at h
  induction l with
  | nil => cases h
  | cons y ys ih =>
    simp only [List.map_cons, List.find?_cons]
    by_cases e : y.id = r.id
    · simp [e]
    · simp only [e, if_false, decide_false]
      simp only [List.find?_cons, e, decide_false] at h
      exact ih h
theorem reqAt_id {s : State} {i : Nat} {r : Req} (h : reqAt s i = some r) : r.id = i := by
  have := List.find?_some h
  simpa using this
theorem linkDown_portUp (s : State) (l cause : Nat) : portUp (linkDown s l cause) l = false := by
  unfold portUp linkDown State.rbit
  dsimp only
  rw [rd_raise]
  unfold showLanes
  rw [rd_wr_other _ _ _ _ _ _ _ _ (by simp only [Fld.key, R.PRT_LINKSTAT_UP, R.PRT_LINKSTAT_LANES]; omega)]
  unfold State.wbit
  rw [rd_wr_self]
  exact bit_bitPut_mod _ _ 4 _ (by omega)
theorem linkDown_training (s : State) (l cause : Nat) : (linkDown s l cause).prt.training.has l = true := by
  unfold linkDown
  dsimp only
  rw [raise_prt]
  show (Sparse.ins s.prt.training l true).has l = true
  simp [Sparse.has]
theorem linkDown_lanes (s : State) (l cause : Nat) : (linkDown s l cause).prt.lanes.find? l = none := by
  unfold linkDown
  dsimp only
  rw [raise_prt]
  show (Sparse.del s.prt.lanes l).find? l = none
  simp
theorem writeLine_mst (s : State) (j : Nat) (ws : List Nat) : ∃ x, (writeLine s j ws).mst = { s.mst with lineReqs := x } := by
  unfold writeLine
  dsimp only
  rw [mstWrite_mst, mstForget_mst]
  exact ⟨_, rfl⟩
theorem writeLine_queue (s : State) (j : Nat) (ws : List Nat) : (writeLine s j ws).mst.queue = s.mst.queue := by
  obtain ⟨x, hx⟩ := writeLine_mst s j ws; rw [hx]
theorem writeLine_jseq (s : State) (j : Nat) (ws : List Nat) : (writeLine s j ws).mst.jseq = s.mst.jseq := by
  obtain ⟨x, hx⟩ := writeLine_mst s j ws; rw [hx]
theorem completion_queue (s : State) (j st code q : Nat) : (completion s j st code q).mst.queue = s.mst.queue := by
  unfold completion
  split
  · rfl
  · dsimp only
    split
    · rw [raise_mst]
    · show (raise _ _ _).mst.queue = _
      rw [raise_mst]
theorem cancelJob_queued (u : State) (j : Nat) (h3 : j < jlPages u) (h4 : jstate u j = 1) :
    (cancelJob u j).2 = 0 ∧ (cancelJob u j).1.mst.queue = u.mst.queue.keepV (· ≠ j) := by
  unfold cancelJob
  rw [if_neg (Nat.not_le.2 h3)]
  split
  · dsimp only
    rw [showMst_mst, completion_queue, writeLine_queue]
    exact ⟨rfl, rfl⟩
  · omega
  · rename_i a b; exact (a h4).elim
theorem requeueJob_failed (u : State) (j : Nat) (h3 : j < jlPages u) (h4 : jstate u j = 4) :
    (requeueJob u j).2 = 0 ∧ (requeueJob u j).1.mst.queue = u.mst.queue.ins (recWord u j 1) j := by
  unfold requeueJob
  rw [if_neg (Nat.not_le.2 h3), if_pos (Or.inl h4)]
  dsimp only
  rw [showMst_mst, writeLine_queue]
  exact ⟨rfl, rfl⟩
theorem trnStart_trn (s : State) (c op : Nat) (h0 : s.dev = .rising) (b : (s.wr R.DRC_TRNCTL_OP op 0 c).on R.DRC_TRNSTAT_BUSY 0 c = false) :
    (drcAt (trnStart s c op) c).trn.map (fun w => w.head?) = some (some op) := by
  unfold trnStart
  dsimp only
  rw [b]
  simp only [Bool.false_eq_true, if_false]
  rw [if_neg (by intro h; exact h.1 h0)]
  unfold setDrc drcAt
  rw [show ∀ (m : Sparse DrcSt) (k : Nat) (v d : DrcSt), (m.ins k v).get k d = v from fun m k v d => by simp]
  rfl
theorem setBlk_blkAt (s : State) (k : Nat) (x : BlkSt) : blkAt (setBlk s k x) k = x := by
  have h : ∀ u : State, u.maps.blocks = s.maps.blocks.ins k x → blkAt u k = x := by
    intro u hu; unfold blkAt; rw [hu]; simp
  have m : (mapTouch (blkAddr k) { s with maps := { s.maps with blocks := s.maps.blocks.ins k x } }).maps.blocks = s.maps.blocks.ins k x := by
    obtain ⟨y, hy⟩ := mapTouch_maps (blkAddr k) { s with maps := { s.maps with blocks := s.maps.blocks.ins k x } }
    rw [hy]
  unfold setBlk
  dsimp only
  split
  · exact h _ m
  · split <;> exact h _ m
theorem notifyOne_head (s : State) (n : Nat) (r : EvRec) : (notifyOne s n r).recd.head = s.recd.head := by
  unfold notifyOne
  split
  · rfl
  · dsimp only
    split
    · split <;> rfl
    · split <;> rfl
theorem record_head (s : State) (code : Nat) (p : List Nat) (sm : Bool) (named : List Nat) (sev : Nat) :
    (record s code p sm named sev).recd.head = s.recd.head + 1 := by
  unfold record
  dsimp only
  exact foldl_keep (fun u n => notifyOne u n _) (fun u => u.recd.head) _ _ (fun u n => notifyOne_head u n _)
theorem svcRequest_accepted {s : State} {x : Session} {op : Nat} {f : List Nat} (h : svcAccepts s x op f)
    (action : State → List Nat → State × Nat × List Nat) (follows : State → State) :
    svcRequest s op f action follows = follows (svcRespond (action (svcTaken s x f) (svcBody f)).1 { x with lastTime := s.now } f
      (action (svcTaken s x f) (svcBody f)).2.1 (action (svcTaken s x f) (svcBody f)).2.2) := by
  obtain ⟨a1, a2, a3, a4, a5, a6, a7⟩ := h
  unfold svcRequest
  rw [if_neg (by simp [a1, a2, a3]), a4]
  dsimp only
  rw [if_neg (by simp [a5]), if_neg (by simp [a6])]
  rw [if_neg (by intro q; omega), if_neg (by simp [a7])]
  rfl
/-- An answer leaves the loads that wait as they are. -/
theorem deliver_extPend (s : State) (path dst : Nat) (f : List Nat) : (deliver s path dst f).dic.extPend = s.dic.extPend := by
  unfold deliver
  split
  · rfl
  · split
    · exact congrArg Dic.extPend ((keep_twinSend (Sub.refl _) (Keeps.refl _ s) : Keeps _ s (twinSend s (.dictRsp dst f))).same .dic rfl)
    · rfl
/-- A response leaves the loads that wait as they are. -/
theorem respond_extPend (s : State) (n kind seq status : Nat) (tag body : List Nat) :
    (respond s n kind seq status tag body).dic.extPend = s.dic.extPend := by
  unfold respond
  split
  · rfl
  · dsimp only
    split
    · rw [(endSession_dic _ _ _).2.2, deliver_extPend]; rfl
    · split
      · rw [(endSession_dic _ _ _).2.2, deliver_extPend]; rfl
      · rw [deliver_extPend]; rfl

/-! ## Tier D's bytes -/

theorem lineAccess_dram (s : State) (l : Nat) : (lineAccess s l).dram = s.dram :=
  (keep_lineAccess (Sub.refl _) (Keeps.refl _ s) : Keeps _ s (lineAccess s l)).same .dram rfl
/-- A line that enters a write queue changes no byte. -/
theorem wqPut_data (s : State) (l : Nat) (part : Bool) : (wqPut s l part).dram.data = s.dram.data := by
  unfold wqPut
  dsimp only
  rw [foldl_keep (fun u (e : Nat × Bool) => lineAccess u e.1) (fun u => u.dram.data) _ _ (fun u e => by rw [lineAccess_dram])]
  rfl
/-- A write of tier D writes its bytes; what its write queues hold is already visible (R152). -/
theorem dWrite_data (s : State) (a : Nat) (bs : List Nat) : (dWrite s a bs).dram.data = memWrite s.dram.data a bs := by
  unfold dWrite
  exact foldl_keep (fun u (e : Nat × Bool) => wqPut u e.1 e.2) (fun u => u.dram.data) _ _ (fun u e => wqPut_data u e.1 e.2)

/-! ## The tick -/

/-- What happens before the clock counts in a tick. -/
theorem settleMoves_keeps (s : State) : Keeps (2 ^ 36 - 1) s (settleMoves s) := keep_settleMoves (Sub.of (Sub.refl _) rfl) (Keeps.refl _ s)
/-- What follows the clock in a tick. -/
theorem tick_keeps (s : State) : Keeps (2 ^ 36 - 1) (clock (settleMoves s)) (tick s) := by
  unfold tick
  have h := Keeps.refl (2 ^ 36 - 1) (clock (settleMoves s))
  have k : ∀ m, m ||| (2 ^ 36 - 1) = 2 ^ 36 - 1 → Sub m (2 ^ 36 - 1) := fun m e => Sub.of (Sub.refl _) e
  exact keep_govFollow (k _ rfl) (keep_settleStops (k _ rfl) (keep_drainWrites (k _ rfl) (keep_drainPorts (k _ rfl)
    (keep_linkTick (k _ rfl) (keep_mdioEnd (k _ rfl) (keep_missRoom (k _ rfl) (keep_progressRise (k _ rfl) h)))))))
/-- A tick takes no command, the clock counts one, outputs are only added, fuses only burn, and the canonical forms stay. -/
theorem tick_all (s : State) : (tick s).pending = s.pending ∧ (tick s).now = s.now + 1 ∧ s.out <:+ (tick s).out ∧
    s.fuses.grown (tick s).fuses ∧ (s.canonical → (tick s).canonical) := by
  have a := settleMoves_keeps s
  have b := tick_keeps s
  refine ⟨b.pend.trans a.pend, b.now.trans (congrArg (· + 1) a.now), a.out.trans b.out, grown_trans a.fuse b.fuse,
    fun h => ⟨b.mem (a.mem h.1), b.regs (a.regs h.2)⟩⟩

/-! ## Groups, shadows and quiet points (R60, R63) -/

/-- The values that wait go into the block's shadows, and nothing else changes but SHADOWPEND and the bound. -/
theorem foldl_toShadow (n : Nat) (l : Sparse Nat) (u : State) :
    (l.foldl (fun u e => toShadow u n e.1 e.2) u).rf.shadow = l.foldl (fun m e => m.ins e.1 e.2) u.rf.shadow ∧
    (l.foldl (fun u e => toShadow u n e.1 e.2) u).rf.group = u.rf.group ∧
    (∀ k, k ≠ R.BLKSTAT_SHADOWPEND.key 0 n → (l.foldl (fun u e => toShadow u n e.1 e.2) u).rf.val.find? k = u.rf.val.find? k) := by
  induction l generalizing u with
  | nil => exact ⟨rfl, rfl, fun _ _ => rfl⟩
  | cons e l ih =>
    obtain ⟨a, b, c⟩ := ih (toShadow u n e.1 e.2)
    refine ⟨a, b, fun k hk => (c k hk).trans ?_⟩
    unfold toShadow
    simp only [State.wr]
    exact Sparse.find?_put_other _ _ _ hk
theorem wr_find?_other (s : State) {F : Fld} {v i b k : Nat} (h : k ≠ F.key i b) : (s.wr F v i b).rf.val.find? k = s.rf.val.find? k := by
  unfold State.wr; exact Sparse.find?_put_other _ _ _ h
theorem rd_of_find? {s t : State} {F : Fld} {i b : Nat} (h : t.rf.val.find? (F.key i b) = s.rf.val.find? (F.key i b)) : t.rd F i b = s.rd F i b := by
  unfold State.rd Sparse.get; rw [h]
theorem pend_key (n k : Nat) (hk : 0x40 ≤ k / 32 % 1048576) : k ≠ R.BLKSTAT_SHADOWPEND.key 0 n := by
  simp only [Fld.key, R.BLKSTAT_SHADOWPEND]; omega
theorem late_key (n k : Nat) (hk : 0x40 ≤ k / 32 % 1048576) : k ≠ R.BLKSTAT_QUIETLATE.key 0 n := by
  simp only [Fld.key, R.BLKSTAT_QUIETLATE]; omega
theorem running_pend (n : Nat) : R.BLKSTAT_RUNNING.key 0 n ≠ R.BLKSTAT_SHADOWPEND.key 0 n := by
  simp only [Fld.key, R.BLKSTAT_SHADOWPEND, R.BLKSTAT_RUNNING]; omega
theorem phase_pend (n : Nat) : R.PWR_SEQSTAT_PHASE.key 0 0 ≠ R.BLKSTAT_SHADOWPEND.key 0 n := by
  simp only [Fld.key, R.BLKSTAT_SHADOWPEND, R.PWR_SEQSTAT_PHASE]; omega
theorem running_of_find? {s t : State} {n : Nat} (h : t.rf.val.find? (R.BLKSTAT_RUNNING.key 0 n) = s.rf.val.find? (R.BLKSTAT_RUNNING.key 0 n)) :
    t.running n = s.running n := by
  unfold State.running State.on; rw [rd_of_find? h]
theorem mayTake_of_find? {s t : State} (k : Nat) (h : t.rf.val.find? (R.PWR_SEQSTAT_PHASE.key 0 0) = s.rf.val.find? (R.PWR_SEQSTAT_PHASE.key 0 0)) :
    mayTake t k = mayTake s k := by
  unfold mayTake; rw [rd_of_find? h]
/-- A quiet point leaves the values whose word lies above the common registers as they were, but for those it takes. -/
theorem quietPoint_takes {t : State} {n k v : Nat} (hw : Sparse.wf t.rf.shadow = true) (hf : t.rf.shadow.find? k = some v)
    (ht : takenAt n k = true) (hm : mayTake t k = true) (hk : 0x40 ≤ k / 32 % 1048576) :
    (quietPoint t n).rf.val.find? k = some v ∧ (quietPoint t n).rf.shadow.find? k = none := by
  have e : ∀ u m, (pendShown u m).rf.shadow = u.rf.shadow := by intro u m; unfold pendShown; split <;> rfl
  have g : ∀ u m, (pendShown u m).rf.val.find? k = u.rf.val.find? k := by
    intro u m; unfold pendShown
    split
    · exact wr_find?_other _ (pend_key m k hk)
    · exact wr_find?_other _ (pend_key m k hk)
  constructor
  · unfold quietPoint
    simp only [State.wr]
    rw [Sparse.find?_put_other _ _ _ (late_key n k hk), g, g]
    show (List.foldl _ t.rf.val _).find? k = some v
    rw [Sparse.find?_foldl_ins (b := 0) _ (Sparse.above_filter hw), Sparse.find?_filter hf (by simp [ht, hm])]
    rfl
  · show (pendShown (pendShown _ n) _).rf.shadow.find? k = none
    rw [e, e]
    exact Sparse.find?_filter_neg hw hf (by simp [ht, hm])
theorem quietPoint_leaves {t : State} {n k : Nat} (hw : Sparse.wf t.rf.shadow = true) (hf : t.rf.shadow.find? k = none)
    (hk : 0x40 ≤ k / 32 % 1048576) : (quietPoint t n).rf.val.find? k = t.rf.val.find? k := by
  have g : ∀ u m, (pendShown u m).rf.val.find? k = u.rf.val.find? k := by
    intro u m; unfold pendShown
    split
    · exact wr_find?_other _ (pend_key m k hk)
    · exact wr_find?_other _ (pend_key m k hk)
  unfold quietPoint
  simp only [State.wr]
  rw [Sparse.find?_put_other _ _ _ (late_key n k hk), g, g]
  show (List.foldl _ t.rf.val _).find? k = _
  rw [Sparse.find?_foldl_ins (b := 0) _ (Sparse.above_filter hw)]
  have : ∀ (l : Sparse Nat) (p : Nat × Nat → Bool), l.find? k = none → Sparse.find? (List.filter p l) k = none := by
    intro l p h
    induction l with
    | nil => rfl
    | cons e l ih =>
      obtain ⟨j, w⟩ := e
      simp only [Sparse.find?] at h
      split at h
      · cases h
      · rename_i e
        rw [List.filter_cons]; split
        · simp only [Sparse.find?]; rw [if_neg e]; exact ih h
        · exact ih h
  rw [this _ _ hf]; rfl
/-- A commit's values that wait in a group of block `n` (R63): shadows of a running block, in force at once in a stopped one. -/
theorem releaseGroup_running {s : State} {n k v : Nat} (hr : s.running n = true) (hg : Sparse.wf s.rf.group = true)
    (hb : keyBlock k = n) (hv : s.rf.group.find? k = some v) :
    (releaseGroup s n (fun _ => true)).rf.shadow.find? k = some v ∧
    (releaseGroup s n (fun _ => true)).rf.group = s.rf.group.filter (fun e => !decide (keyBlock e.1 = n)) ∧
    (Sparse.wf s.rf.shadow = true → Sparse.wf (releaseGroup s n (fun _ => true)).rf.shadow = true) ∧
    (∀ j, j ≠ R.BLKSTAT_SHADOWPEND.key 0 n → (releaseGroup s n (fun _ => true)).rf.val.find? j = s.rf.val.find? j) := by
  have f : Sparse.find? (s.rf.group.filter (fun e => decide (keyBlock e.1 = n) && true)) k = some v := Sparse.find?_filter hv (by simp [hb])
  have ne : ((s.rf.group.filter (fun e => decide (keyBlock e.1 = n) && true)).isEmpty) = false := by
    cases h : s.rf.group.filter (fun e => decide (keyBlock e.1 = n) && true) with
    | nil => rw [h] at f; cases f
    | cons => rfl
  obtain ⟨a, b, c⟩ := foldl_toShadow n (s.rf.group.filter (fun e => decide (keyBlock e.1 = n) && true))
    { s with rf := { s.rf with group := s.rf.group.filter (fun e => !(decide (keyBlock e.1 = n) && true)) } }
  have r : (List.foldl (fun u e => toShadow u n e.1 e.2)
      { s with rf := { s.rf with group := s.rf.group.filter (fun e => !(decide (keyBlock e.1 = n) && true)) } }
      (s.rf.group.filter (fun e => decide (keyBlock e.1 = n) && true))).running n = true := by
    exact (running_of_find? (s := s) (c _ (running_pend n))).trans hr
  have e : releaseGroup s n (fun _ => true) = List.foldl (fun u e => toShadow u n e.1 e.2)
      { s with rf := { s.rf with group := s.rf.group.filter (fun e => !(decide (keyBlock e.1 = n) && true)) } }
      (s.rf.group.filter (fun e => decide (keyBlock e.1 = n) && true)) := by
    unfold releaseGroup
    simp only [ne, Bool.false_eq_true, if_false]
    rw [if_pos r]
  rw [e]
  refine ⟨?_, ?_, fun hs => ?_, c⟩
  · rw [a, Sparse.find?_foldl_ins (b := 0) _ (Sparse.above_filter hg), f]; rfl
  · rw [b]; simp
  · rw [a]; exact Sparse.wf_foldl_ins hs
theorem releaseGroup_stopped {s : State} {n k v : Nat} (hr : s.running n = false) (hg : Sparse.wf s.rf.group = true)
    (hs : Sparse.wf s.rf.shadow = true) (hb : keyBlock k = n) (hv : s.rf.group.find? k = some v) (hm : mayTake s k = true)
    (hk : 0x40 ≤ k / 32 % 1048576) :
    (releaseGroup s n (fun _ => true)).rf.val.find? k = some v ∧ (releaseGroup s n (fun _ => true)).rf.shadow.find? k = none ∧
    (releaseGroup s n (fun _ => true)).rf.group = s.rf.group.filter (fun e => !decide (keyBlock e.1 = n)) := by
  have f : Sparse.find? (s.rf.group.filter (fun e => decide (keyBlock e.1 = n) && true)) k = some v := Sparse.find?_filter hv (by simp [hb])
  have ne : ((s.rf.group.filter (fun e => decide (keyBlock e.1 = n) && true)).isEmpty) = false := by
    cases h : s.rf.group.filter (fun e => decide (keyBlock e.1 = n) && true) with
    | nil => rw [h] at f; cases f
    | cons => rfl
  obtain ⟨a, b, c⟩ := foldl_toShadow n (s.rf.group.filter (fun e => decide (keyBlock e.1 = n) && true))
    { s with rf := { s.rf with group := s.rf.group.filter (fun e => !(decide (keyBlock e.1 = n) && true)) } }
  generalize hu : (List.foldl (fun u e => toShadow u n e.1 e.2)
      { s with rf := { s.rf with group := s.rf.group.filter (fun e => !(decide (keyBlock e.1 = n) && true)) } }
      (s.rf.group.filter (fun e => decide (keyBlock e.1 = n) && true))) = u at a b c
  have r : u.running n = false := by
    exact (running_of_find? (s := s) (c _ (running_pend n))).trans hr
  have e : releaseGroup s n (fun _ => true) = quietPoint u n := by
    unfold releaseGroup
    simp only [ne, Bool.false_eq_true, if_false]
    rw [hu, if_neg (by rw [r]; decide)]
  rw [e]
  have hf : u.rf.shadow.find? k = some v := by
    rw [a, Sparse.find?_foldl_ins (b := 0) _ (Sparse.above_filter hg), f]; rfl
  have hw : Sparse.wf u.rf.shadow = true := by rw [a]; exact Sparse.wf_foldl_ins hs
  have hm2 : mayTake u k = true := by
    exact (mayTake_of_find? (s := s) k (c _ (phase_pend n))).trans hm
  obtain ⟨x, y⟩ := quietPoint_takes hw hf (by unfold takenAt; rw [decide_eq_true hb, Bool.or_true]) hm2 hk
  refine ⟨x, y, ?_⟩
  have e : ∀ u m, (pendShown u m).rf.group = u.rf.group := by intro u m; unfold pendShown; split <;> rfl
  unfold quietPoint
  simp only [State.wr, e]
  show u.rf.group = _
  rw [b]; simp

theorem quietPoint_shadow_wf {t : State} {n : Nat} (h : Sparse.wf t.rf.shadow = true) : Sparse.wf (quietPoint t n).rf.shadow = true := by
  have e : ∀ u m, (pendShown u m).rf.shadow = u.rf.shadow := by intro u m; unfold pendShown; split <;> rfl
  unfold quietPoint
  simp only [State.wr, e]
  exact Sparse.wf_filter h
theorem releaseGroup_shadow_wf {s : State} {n : Nat} {p : Nat → Bool} (h : Sparse.wf s.rf.shadow = true) :
    Sparse.wf (releaseGroup s n p).rf.shadow = true := by
  unfold releaseGroup
  dsimp only
  split
  · exact h
  · have k := (foldl_toShadow n (s.rf.group.filter (fun e => decide (keyBlock e.1 = n) && p e.1))
      { s with rf := { s.rf with group := s.rf.group.filter (fun e => !(decide (keyBlock e.1 = n) && p e.1)) } }).1
    have w : Sparse.wf (List.foldl (fun u e => toShadow u n e.1 e.2)
      { s with rf := { s.rf with group := s.rf.group.filter (fun e => !(decide (keyBlock e.1 = n) && p e.1)) } }
      (s.rf.group.filter (fun e => decide (keyBlock e.1 = n) && p e.1))).rf.shadow = true := by
      rw [k]; exact Sparse.wf_foldl_ins h
    split
    · exact w
    · exact quietPoint_shadow_wf w

/-! ## Region entries: only a write of one changes them -/

@[simp] theorem logTouch_regions (o : Nat) (s : State) : (logTouch o s).maps.regions = s.maps.regions := by
  unfold logTouch
  split
  · rfl
  · obtain ⟨x, hx⟩ := dirtyPage_maps 5 (512 * s.rd R.TWN_LOGBASE_LOGBASE + o / 4096) s; rw [hx]
@[simp] theorem setLog_regions (s : State) (e : Nat) (x : LogEnt) : (setLog s e x).maps.regions = s.maps.regions := by
  unfold setLog
  extract_lets
  simp only [logTouch_regions]
  split
  · simp only [logTouch_regions]; rfl
  · rfl
@[simp] theorem markMapExt_regions (s : State) (e : Nat) : (markMapExt s e).maps.regions = s.maps.regions := by
  unfold markMapExt; split <;> simp
@[simp] theorem markMapReg_regions (s : State) (i : Nat) : (markMapReg s i).maps.regions = s.maps.regions := by
  unfold markMapReg; split <;> simp
@[simp] theorem setExtent_regions (s : State) (e : Nat) (x : Extent) : (setExtent s e x).maps.regions = s.maps.regions := by
  unfold setExtent
  simp only [mapTouch_regions]
  split <;> rfl
@[simp] theorem allocExtents_regions (s : State) (r : Region) : (allocExtents s r).maps.regions = s.maps.regions := by
  unfold allocExtents
  have h : ∀ (l : List Nat) (u : State), (l.foldl (fun u e =>
    if (extentAt u e).estate = 0 then
      markMapExt (setExtent u e { estate := 1, home := r.home, tpol := r.tpol, owner := r.tenant }) e
    else u) u).maps.regions = u.maps.regions := by
    intro l u
    exact foldl_keep _ (fun u => u.maps.regions) l u (fun u e => by split <;> simp)
  unfold sallocEvent
  dsimp only
  split
  · rw [raise_maps]; exact h _ _
  · exact h _ _
@[simp] theorem setRegion_at (s : State) (i : Nat) (r : Region) : regionAt (setRegion s i r) i = r := by
  unfold regionAt setRegion
  rw [mapTouch_regions]; simp
/-- A registration's entry (R84, R85): live, with the next GEN and REGSEQ and a drawn SALT. -/
theorem registerHere_at (s : State) (r : Region) : regionAt (registerHere s r).1 (takeIndex s).2 = { r with
    state := 1, gen := if (regionAt s (takeIndex s).2).gen = 255 then 1 else (regionAt s (takeIndex s).2).gen + 1
    salt := Config.random s.draws % 1024, regseq := s.maps.regseq + 1 } := by
  have ts : (takeIndex s).1.maps.regseq = s.maps.regseq ∧ (takeIndex s).1.draws = s.draws ∧ (takeIndex s).1.maps.regions = s.maps.regions := by
    unfold takeIndex; split
    · exact ⟨rfl, rfl, rfl⟩
    · split <;> exact ⟨rfl, rfl, rfl⟩
  have tr : ∀ i, regionAt (takeIndex s).1 i = regionAt s i := by intro i; unfold regionAt; rw [ts.2.2]
  show ((raise _ _ _ : State)).maps.regions.get _ {} = _
  rw [raise_maps, allocExtents_regions, markMapReg_regions]
  refine (setRegion_at _ _ _).trans ?_
  rw [ts.1, ts.2.1, tr]

open Sys2Proof Sys2Proof.Machine
theorem sendFlit_twn {β : Type} (g : Twn → β) (hg : ∀ w a n o f x b, g { w with ackTold := a, nakOut := n, owed := o, fseq := f, txSlots := x, sentBuf := b } = g w)
    (s : State) (t q f : Nat) (l : List Nat) : g (sendFlit s t q f l).twn = g s.twn :=
  hg s.twn s.twn.ackseq false _ s.twn.fseq s.twn.txSlots s.twn.sentBuf
theorem pumpFlits_twn {β : Type} (g : Twn → β) (hg : ∀ w a n o f x b, g { w with ackTold := a, nakOut := n, owed := o, fseq := f, txSlots := x, sentBuf := b } = g w)
    (n : Nat) (s : State) : g (pumpFlits n s).twn = g s.twn := by
  induction n generalizing s with
  | zero => rfl
  | succ n ih =>
    unfold pumpFlits
    split
    · rfl
    · dsimp only
      rw [ih]
      exact hg s.twn s.twn.ackseq false _ _ _ _
/-- Flits that leave change nothing of the link but what a header tells and the flits kept. -/
theorem pump_twn {β : Type} (g : Twn → β) (hg : ∀ w a n o f x b, g { w with ackTold := a, nakOut := n, owed := o, fseq := f, txSlots := x, sentBuf := b } = g w)
    (s : State) : g (pump s).twn = g s.twn := pumpFlits_twn g hg _ s
theorem resendFlits_twn {β : Type} (g : Twn → β) (hg : ∀ w a n o f x b, g { w with ackTold := a, nakOut := n, owed := o, fseq := f, txSlots := x, sentBuf := b } = g w)
    (s : State) : g (resendFlits s).twn = g s.twn :=
  foldl_keep _ (fun u => g u.twn) _ s (fun u x => sendFlit_twn g hg u 1 x.seq x.first x.slots)
/-- A counter other than that of flits sent is left by flits that leave. -/
theorem sendFlit_ctr {c : Ctr} {i b : Nat} (hc : c.key i b ≠ C.TWN_FLITTX.key 0 0) (s : State) (t q f : Nat) (l : List Nat) :
    (sendFlit s t q f l).ctr c i b = s.ctr c i b := Sparse.get_put_other _ _ _ _ _ _ hc
theorem pumpFlits_ctr {c : Ctr} {i b : Nat} (hc : c.key i b ≠ C.TWN_FLITTX.key 0 0) (n : Nat) (s : State) :
    (pumpFlits n s).ctr c i b = s.ctr c i b := by
  induction n generalizing s with
  | zero => rfl
  | succ n ih =>
    unfold pumpFlits
    split
    · rfl
    · dsimp only
      rw [ih]
      exact sendFlit_ctr hc s _ _ _ _
theorem pump_ctr {c : Ctr} {i b : Nat} (hc : c.key i b ≠ C.TWN_FLITTX.key 0 0) (s : State) : (pump s).ctr c i b = s.ctr c i b := pumpFlits_ctr hc _ s
theorem resendFlits_ctr {c : Ctr} {i b : Nat} (hc : c.key i b ≠ C.TWN_FLITTX.key 0 0) (s : State) : (resendFlits s).ctr c i b = s.ctr c i b :=
  foldl_keep _ (fun u => u.ctr c i b) _ s (fun u x => sendFlit_ctr hc u 1 x.seq x.first x.slots)
/-- A message that leaves or waits changes nothing of the link but its queues. -/
theorem twinSend_twn {β : Type} (g : Twn → β) (hg : ∀ w a n o f x b, g { w with ackTold := a, nakOut := n, owed := o, fseq := f, txSlots := x, sentBuf := b } = g w)
    (hq : ∀ w u q, g { w with used := u, txq := q } = g w) (hu : ∀ w u x, g { w with used := u, txSlots := x } = g w) (s : State) (m : Msg) : g (twinSend s m).twn = g s.twn := by
  unfold twinSend
  split
  · have hc : ∀ k : State, k.twn = s.twn → g (if k.twn.link = 0 then k else pump { k with twn := { k.twn with used := k.twn.used.set (msgVc s m) (k.twn.used.getD (msgVc s m) 0 + (msgSlots s m).length), txSlots := k.twn.txSlots ++ (msgSlots s m).zipIdx.map (fun x => (decide (x.2 = 0), x.1)) } }).twn = g s.twn := by
      intro k hk
      split
      · rw [hk]
      · rw [pump_twn g hg]; rw [← hk]; exact hu _ _ _
    unfold passMsg
    apply hc
    split <;> rfl
  · exact hq s.twn s.twn.used _
theorem withTag_twn {β : Type} (g : Twn → β) (hg : ∀ w a n o f x b, g { w with ackTold := a, nakOut := n, owed := o, fseq := f, txSlots := x, sentBuf := b } = g w)
    (hq : ∀ w u q, g { w with used := u, txq := q } = g w) (hu : ∀ w u x, g { w with used := u, txSlots := x } = g w) (hn : ∀ w n, g { w with nextTag := n } = g w) (s : State) (f : Nat → Msg) :
    g (withTag s f).twn = g s.twn := by
  unfold withTag
  rw [twinSend_twn g hg hq hu]; exact hn s.twn _
theorem rd_pump (s : State) (F : Fld) (i b : Nat) : (pump s).rd F i b = s.rd F i b :=
  rd_of_find? (congrArg (fun x => x.1.find? (F.key i b)) ((keep_pump (Sub.refl _) (Keeps.refl _ s)).same .regs rfl))
theorem rd_resendFlits (s : State) (F : Fld) (i b : Nat) : (resendFlits s).rd F i b = s.rd F i b :=
  rd_of_find? (congrArg (fun x => x.1.find? (F.key i b)) ((keep_resendFlits (Sub.refl _) (Keeps.refl _ s)).same .regs rfl))
theorem rd_withTag (s : State) (f : Nat → Msg) (F : Fld) (i b : Nat) : (withTag s f).rd F i b = s.rd F i b :=
  rd_of_find? (congrArg (fun x => x.1.find? (F.key i b)) ((keep_withTag (Sub.refl _) (Keeps.refl _ s)).same .regs rfl))
theorem setWidth_width (s : State) (m : Nat) : (setWidth s m).rd R.TWN_LANESTAT_WIDTH = lanesOf m % 32 := Sparse.get_put_self _ _ _ _
theorem setWidth_active (s : State) (m : Nat) : (setWidth s m).rd R.TWN_LANESTAT_ACTIVE = m % 2 ^ 20 :=
  (Sparse.get_put_other _ _ _ _ _ _ (by decide)).trans (Sparse.get_put_self _ _ _ _)
theorem setTState_twn (s : State) (n : Nat) : (setTState s n).twn = s.twn := by
  have e : ∀ u v : State, v.twn = u.twn → (if tstate u = n then v else raise v 0x1800 [tstate u, n, v.rd R.TWN_STATE_ROLE, v.log.pgen]).twn = u.twn := by
    intro u v h
    split
    · exact h
    · rw [raise_twn]; exact h
  unfold setTState
  apply e s
  split
  · exact (keep_logTouch (Sub.refl _) (Keeps.refl _ _)).same .twn rfl
  · rfl
theorem rd_setTState (s : State) (n : Nat) (F : Fld) (i b : Nat) (hn : n < 2) (hF : F.key i b ≠ R.TWN_STATE_TSTATE.key 0 0) :
    (setTState s n).rd F i b = s.rd F i b := by
  have e : ∀ u v : State, v.rd F i b = u.rd F i b → (if tstate u = n then v else raise v 0x1800 [tstate u, n, v.rd R.TWN_STATE_ROLE, v.log.pgen]).rd F i b = u.rd F i b := by
    intro u v h
    split
    · exact h
    · rw [rd_raise]; exact h
  unfold setTState
  apply e s
  rw [if_neg (fun h => absurd h.1 (Nat.not_le.2 hn))]
  exact rd_wr_other _ _ _ _ _ _ _ _ hF
theorem farAsk_twn (s : State) (o n : Nat) : (farAsk s o n).twn = s.twn := (keep_farAsk (Sub.refl _) (Keeps.refl _ s)).same .twn rfl
theorem rd_showFar (s : State) (n : Nat) (F : Fld) (i b : Nat) (h1 : F.key i b ≠ R.FAR_OWNER_HELD.key n 0) (h2 : F.key i b ≠ R.FAR_OWNER_OWNER.key n 0)
    (h3 : F.key i b ≠ R.FAR_OWNER_WAITERS.key n 0) : (showFar s n).rd F i b = s.rd F i b := by
  unfold showFar
  refine (rd_wr_other _ _ _ _ _ _ _ _ h3).trans ((rd_wr_other _ _ _ _ _ _ _ _ h2).trans (rd_wr_other _ _ _ _ _ _ _ _ h1))
theorem rd_farAsk (s : State) (o n : Nat) (F : Fld) (i b : Nat) (h1 : F.key i b ≠ R.FAR_OWNER_HELD.key n 0) (h2 : F.key i b ≠ R.FAR_OWNER_OWNER.key n 0)
    (h3 : F.key i b ≠ R.FAR_OWNER_WAITERS.key n 0) : (farAsk s o n).rd F i b = s.rd F i b := by
  unfold farAsk
  split
  · rfl
  · split <;> exact rd_showFar _ _ _ _ _ h1 h2 h3
theorem probation_twn (s : State) (lane : Nat) : (probation s lane).twn = { s.twn with passed := bitClr s.twn.passed lane } := by
  unfold probation; exact farAsk_twn _ _ _
theorem rd_probation (s : State) (lane : Nat) (F : Fld) (i b : Nat) (h0 : F.key i b ≠ R.TWN_PROBSTAT_PROBATION.key 0 0)
    (h1 : F.key i b ≠ R.FAR_OWNER_HELD.key (100 + lane) 0) (h2 : F.key i b ≠ R.FAR_OWNER_OWNER.key (100 + lane) 0)
    (h3 : F.key i b ≠ R.FAR_OWNER_WAITERS.key (100 + lane) 0) : (probation s lane).rd F i b = s.rd F i b := by
  unfold probation
  refine (rd_farAsk _ _ _ _ _ _ h1 h2 h3).trans ?_
  exact rd_wr_other _ _ _ _ _ _ _ _ h0
theorem rd_probation_link (s : State) (lane : Nat) (hl : lane < 20) (F : Fld) (hF : F = R.TWN_LANESTAT_WIDTH ∨ F = R.TWN_LANESTAT_ACTIVE ∨ F = R.TWN_LANECFG_WMIN) :
    (probation s lane).rd F = s.rd F := by
  obtain rfl | rfl | rfl := hF <;>
    refine rd_probation _ _ _ _ _ (by decide) ?_ ?_ ?_ <;>
    (simp only [Fld.key, R.TWN_LANESTAT_WIDTH, R.TWN_LANESTAT_ACTIVE, R.TWN_LANECFG_WMIN, R.FAR_OWNER_HELD, R.FAR_OWNER_OWNER, R.FAR_OWNER_WAITERS, ne_eq]; omega)
theorem foldl_probation_link (l : List Nat) (hl : ∀ x ∈ l, x < 20) (s : State) (F : Fld)
    (hF : F = R.TWN_LANESTAT_WIDTH ∨ F = R.TWN_LANESTAT_ACTIVE ∨ F = R.TWN_LANECFG_WMIN) : (l.foldl probation s).rd F = s.rd F := by
  induction l generalizing s with
  | nil => rfl
  | cons x l ih =>
    exact (ih (fun y hy => hl y (List.mem_cons_of_mem _ hy)) _).trans (rd_probation_link s x (hl x List.mem_cons_self) F hF)
theorem foldl_probation_twn {β : Type} (g : Twn → β) (hg : ∀ w p, g { w with passed := p } = g w) (l : List Nat) (s : State) :
    g (l.foldl probation s).twn = g s.twn :=
  foldl_keep _ (fun u => g u.twn) _ s (fun u x => by show g (probation u x).twn = g u.twn; rw [probation_twn]; exact hg _ _)

open Sys2Proof Sys2Proof.Machine
/-- A message of a page, with none held, that its rules let act is consumed. -/
theorem pageMsg_consumed {s t : State} {m : Msg} (h : s.twn.heldMsgs = []) (ht : tryMsg s m = (t, true)) : pageMsg s m = retryHeld t := by
  unfold pageMsg; simp only [h, ht, List.any_nil, Bool.false_eq_true, and_false, if_false, if_true]
theorem tryMirror_next {s : State} {tag ep p off : Nat} {bs : List Nat} {q : State × Bool} {w : State × Nat} (h1 : orderOf s p ep = .next)
    (h2 : mirrorTokens s 1 = true) (h3 : q = readyIn s p) (h4 : q.2 = true) (h5 : w = partLines q.1 p off bs.length) (h6 : w.2 ≠ 1) :
    tryMirror s tag ep p off bs = (twinSend (placeIn w.1 p off bs ep) (.placed tag ep p 0), true) := by
  subst h3; subst h5
  unfold tryMirror; simp only [h1, h2, h4, h6, Bool.not_true, Bool.false_eq_true, if_false]
theorem tryForward_takes {s : State} {tag p off : Nat} {bs : List Nat} {q : State × Bool} {w : State × Nat} (h1 : fenced s p = false)
    (h2 : mirrorTokens s 1 = true) (h3 : q = readyIn s p) (h4 : q.2 = true) (h5 : w = partLines q.1 p off bs.length) (h6 : w.2 = 0) :
    tryForward s tag p off bs = (twinSend (placeData w.1 p off bs (nextEpoch w.1 p)) (.ordered tag (nextEpoch w.1 p) p 0 none), true) := by
  subst h3; subst h5
  unfold tryForward; simp only [h1, h2, h4, h6, Bool.not_true, Bool.false_eq_true, if_false, Nat.zero_ne_one, (by decide : ¬ (0 = 2))]
theorem tryFwdAtomic_takes {s : State} {tag p line word arg swap : Nat} {fadd : Bool} {q : State × Bool} {w : State × Nat} (h1 : fenced s p = false)
    (h2 : mirrorTokens s 1 = true) (h3 : q = readyIn s p) (h4 : q.2 = true) (h5 : w = partLines q.1 p (64 * line + 8 * word) 8) (h6 : w.2 = 0) :
    tryFwdAtomic s tag p line word fadd arg swap =
      (twinSend (placeData w.1 p (64 * line + 8 * word) (leBytes (atomicNew fadd (wordAt w.1 p (64 * line + 8 * word)) arg swap) 8) (nextEpoch w.1 p))
        (.ordered tag (nextEpoch w.1 p) p 0 (some (atomicNew fadd (wordAt w.1 p (64 * line + 8 * word)) arg swap, wordAt w.1 p (64 * line + 8 * word)))), true) := by
  subst h3; subst h5
  unfold tryFwdAtomic; simp only [h1, h2, h4, h6, Bool.not_true, Bool.false_eq_true, if_false, Nat.zero_ne_one, (by decide : ¬ (0 = 2))]
theorem tryOrdered_next {s : State} {tag ep p : Nat} {atomic : Option (Nat × Nat)} {x : FwdEnt} {q : State × Bool} {w : State × Nat}
    (h1 : orderOf s p ep = .next) (hx : s.twn.fwd.find? tag = some x) (h2 : forwardToken s tag = true) (h3 : q = readyIn s p) (h4 : q.2 = true)
    (h5 : w = partLines q.1 p x.off (orderedBytes x atomic).length) (h6 : w.2 ≠ 1) :
    tryOrdered s tag ep p 0 atomic =
      (forwardEnds (placeIn w.1 p x.off (orderedBytes x atomic) ep) tag p true ((atomic.map (·.2)).getD 0), true) := by
  subst h3; subst h5
  unfold tryOrdered; simp only [h1, hx, h2, h4, h6, Bool.not_true, Bool.false_eq_true, if_false, ne_eq, not_true_eq_false]
theorem tryTread_answers {s : State} {tag p n f : Nat} (h1 : fenced s p = false) (h2 : usable s p = true) (h3 : frameOf s p = some f)
    (h4 : lineFault s (64 * f + n) = none) :
    tryTread s tag p n = (twinSend s (.treadData tag (pageEpoch s p) p n (dRead s (4096 * f + 64 * n) 64)), true) := by
  unfold tryTread; simp only [h1, h2, h3, h4, Bool.not_true, Bool.false_eq_true, if_false]
theorem tryResync_installs {s t : State} {tag ep p poison : Nat} {zero : Bool} {data : List Nat}
    (h1 : tstate s ≠ 4) (h2 : installResync s p ep zero poison data = (t, true)) (h3 : t.log.fences.has p = false) :
    tryResync s tag ep p zero false poison data =
      ((fun u => dropOld (twinSend { u with twn := { u.twn with reconPeer := u.twn.reconPeer.del p, reconOwn := u.twn.reconOwn.del p } } (.placed tag ep p 0)) p ep)
        (t.bump C.TWN_RESYNCRX), true) := by
  unfold tryResync
  have hf : fenced (t.bump C.TWN_RESYNCRX) p = false := h3
  simp only [Bool.false_eq_true, if_false, h1, false_and, h2, Bool.not_true, hf]

open Sys2Proof Sys2Proof.Machine
theorem tstate_hopWrite (s : State) (a : Nat) : tstate (hopWrite s a) = tstate s := by
  unfold tstate hopWrite
  split
  · rfl
  · dsimp only
    have h : ∀ u : State, (showHopper u).rd R.TWN_STATE_TSTATE = u.rd R.TWN_STATE_TSTATE := by
      intro u; unfold showHopper
      exact (rd_wr_other _ _ _ _ _ _ _ _ (by decide)).trans (rd_wr_other _ _ _ _ _ _ _ _ (by decide))
    split
    · unfold drainHopper
      rw [h, rd_trn, rd_raise, h, rd_trn]
    · rw [h, rd_trn]
theorem tstate_dirtyPage (n f : Nat) (s : State) : tstate (dirtyPage n f s) = tstate s := by
  induction n generalizing f s with
  | zero => rfl
  | succ n ih =>
    unfold dirtyPage
    dsimp only
    split
    · rfl
    · rw [ih, tstate_hopWrite]
      unfold tstate countDirty
      split
      · rfl
      · split <;> exact rd_wr_other _ _ _ _ _ _ _ _ (by decide)
theorem tstate_logTouch (off : Nat) (s : State) : tstate (logTouch off s) = tstate s := by
  unfold logTouch; split
  · rfl
  · exact tstate_dirtyPage _ _ _
theorem tstate_setTState (s : State) (n : Nat) : tstate (setTState s n) = n % 8 := by
  have e : ∀ u v : State, tstate v = n % 8 → tstate (if tstate u = n then v else raise v 0x1800 [tstate u, n, v.rd R.TWN_STATE_ROLE, v.log.pgen]) = n % 8 := by
    intro u v h
    split
    · exact h
    · unfold tstate at *; rw [rd_raise]; exact h
  unfold setTState
  apply e s
  split
  · rw [tstate_logTouch]; exact rd_wr_self _ _ _ _ _
  · exact rd_wr_self _ _ _ _ _
theorem showGate_dev (s : State) : (showGate s).dev = s.dev :=
  (keep_showGate (Sub.refl _) (Keeps.refl _ s)).same .dev rfl

open Sys2Proof Sys2Proof.Machine
theorem isHome_raise (s : State) (code : Nat) (l : List Nat) (p : Nat) : isHome (raise s code l) p = isHome s p := by
  unfold isHome isSpan homeSide tstate extentAt
  simp only [rd_raise]
  rw [show (raise s code l).maps = s.maps from (keep_raise (Sub.refl _) (Keeps.refl _ s)).same .maps rfl]

open Sys2Proof Sys2Proof.Machine
/-- A command's wait for its line changes nothing of the jobs but what it waits for. -/
theorem cmdWrites_mst (s : State) : ∃ c, (cmdWrites s).mst = { s.mst with cmdReq := c } := by
  unfold cmdWrites
  split
  · exact ⟨_, rfl⟩
  · exact ⟨s.mst.cmdReq, rfl⟩
@[simp] theorem cmdWrites_queue (s : State) : (cmdWrites s).mst.queue = s.mst.queue := by obtain ⟨c, h⟩ := cmdWrites_mst s; rw [h]
@[simp] theorem cmdWrites_jseq (s : State) : (cmdWrites s).mst.jseq = s.mst.jseq := by obtain ⟨c, h⟩ := cmdWrites_mst s; rw [h]
theorem cmdWrites_result (s : State) : (cmdWrites s).rd R.MST_SUBSTAT_RESULT = s.rd R.MST_SUBSTAT_RESULT := by
  unfold cmdWrites
  split
  · exact rd_wr_other _ _ _ _ _ _ _ _ (by decide)
  · rfl
theorem eraseFree_dirtySb (s : State) (k : Nat) : (eraseFree s k).sav.dirtySb = s.sav.dirtySb.filter (· ≠ k) := by
  unfold eraseFree
  exact congrArg (fun x : Sav => x.dirtySb.filter (· ≠ k)) ((keep_setBlk (Sub.refl _) (Keeps.refl _ (wipe s k))).same .sav rfl)
theorem foldl_eraseFree_dirtySb (l : List Nat) (s : State) :
    (l.foldl eraseFree s).sav.dirtySb = s.sav.dirtySb.filter (fun k => !l.contains k) := by
  induction l generalizing s with
  | nil => exact (List.filter_eq_self.2 (fun _ _ => rfl)).symm
  | cons x l ih =>
    rw [List.foldl_cons, ih, eraseFree_dirtySb, List.filter_filter]
    refine List.filter_congr (fun y _ => ?_)
    by_cases h : y = x <;> simp [h]

open Sys2Proof Sys2Proof.Machine
theorem eraseFree_sav (s : State) (k : Nat) : (eraseFree s k).sav = { s.sav with dirtySb := s.sav.dirtySb.filter (· ≠ k) } := by
  unfold eraseFree
  exact congrArg (fun x : Sav => { x with dirtySb := x.dirtySb.filter (· ≠ k) }) ((keep_setBlk (Sub.refl _) (Keeps.refl _ (wipe s k))).same .sav rfl)
theorem showMst_result (s : State) : (showMst s).rd R.MST_SUBSTAT_RESULT = s.rd R.MST_SUBSTAT_RESULT := by
  unfold showMst
  refine (foldl_keep_mem _ (fun u => u.rd R.MST_SUBSTAT_RESULT) _ _ (fun u m hm => rd_wr_other _ _ _ _ _ _ _ _ ?_)).trans ?_
  · have := List.mem_range.1 hm
    simp only [Fld.key, R.MST_SUBSTAT_RESULT, R.MST_STAT_READY]; omega
  · unfold showMstBase
    refine (foldl_keep_mem _ (fun u => u.rd R.MST_SUBSTAT_RESULT) _ _ (fun u m hm => ?_)).trans ?_
    · have := List.mem_range.1 hm
      refine (rd_wr_other _ _ _ _ _ _ _ _ ?_).trans (rd_wr_other _ _ _ _ _ _ _ _ ?_)
      · simp only [Fld.key, R.MST_SUBSTAT_RESULT, R.MST_BUF_FREE]; omega
      · simp only [Fld.key, R.MST_SUBSTAT_RESULT, R.MST_STAT_SLOTS]; omega
    · refine (rd_wr_other _ _ _ _ _ _ _ _ (by decide)).trans ((rd_wr_other _ _ _ _ _ _ _ _ (by decide)).trans ((rd_wr_other _ _ _ _ _ _ _ _ (by decide)).trans
        ((rd_wr_other _ _ _ _ _ _ _ _ (by decide)).trans ((rd_wr_other _ _ _ _ _ _ _ _ (by decide)).trans ((rd_wr_other _ _ _ _ _ _ _ _ (by decide)).trans
        ((rd_wr_other _ _ _ _ _ _ _ _ (by decide)).trans ((rd_wr_other _ _ _ _ _ _ _ _ (by decide)).trans (rd_wr_other _ _ _ _ _ _ _ _ (by decide)))))))))

end Sys2Proof.Laws
end

