-- ==== Sys2Proof/Laws/Governor.lean ====
section
/-! SUPPORT. The governor: what a tick's readings, a computation and the acts that follow leave of C and of the registers that bound
it (R253, R255). -/

namespace Sys2Proof.Laws

open Sys2Proof Sys2Proof.Machine

theorem gov_of_keeps {k : Nat} {s t : State} (h : Keeps k s t) (e : k.testBit 18 = false) : t.gov = s.gov := h.same .gov e

theorem raise_gov_eq (v : State) (n : Nat) (p : List Nat) : (raise v n p).gov = v.gov :=
  gov_of_keeps (keep_raise (Sub.refl _) (Keeps.refl _ _)) (by decide)
theorem raiseIf_gov (c : Prop) [Decidable c] (v : State) (n : Nat) (p : List Nat) : (if c then raise v n p else v).gov = v.gov := by
  split
  · exact raise_gov_eq v n p
  · rfl
theorem govShow_gov (v : State) : (govShow v).gov = v.gov := gov_of_keeps (keep_govShow (Sub.refl _) (Keeps.refl _ _)) (by decide)
theorem govLimit_computed (v : State) : (govLimit v).gov.computed = v.gov.computed := rfl
theorem govLimit_ceil (v : State) : (govLimit v).gov.ceil = v.gov.ceil := rfl

/-- A computation is taken (R255). -/
theorem govCompute_computed (u : State) : (govCompute u).gov.computed = true :=
  (congrArg Gov.computed (govShow_gov _)).trans ((govLimit_computed _).trans (congrArg Gov.computed (raiseIf_gov _ _ _ _)))
/-- What C becomes (R255). -/
theorem govCompute_ceil (u : State) : (govCompute u).gov.ceil =
    if u.on R.GOV_CTL_FREEZE ∧ u.gov.computed then min u.gov.ceil (govCeiling u).1 else (govCeiling u).1 :=
  (congrArg Gov.ceil (govShow_gov _)).trans ((govLimit_ceil _).trans (congrArg Gov.ceil (raiseIf_gov _ _ _ _)))
/-- The formula's C lies under CAP (R253). -/
theorem govCeiling_le_cap (u : State) : (govCeiling u).1 ≤ u.rd R.GOV_CAP_CAP * 2 ^ 30 := by
  unfold govCeiling; exact Nat.le_trans (Nat.min_le_left _ _) (Nat.min_le_right _ _)

theorem setDev_gov (s : State) (d : DevState) (w : Nat) : (setDev s d w).gov = s.gov :=
  gov_of_keeps (keep_setDev (Sub.refl _) (Keeps.refl _ _)) (by decide)
theorem gaitDrop_gov (s : State) : (gaitDrop s).gov = s.gov := gov_of_keeps (keep_gaitDrop (Sub.refl _) (Keeps.refl _ _)) (by decide)

/-- C and whether it has been computed. -/
def ceilOf (s : State) : Bool × Nat := (s.gov.computed, s.gov.ceil)
theorem ceilOf_eq {a b : State} (h : ceilOf a = ceilOf b) : a.gov.computed = b.gov.computed ∧ a.gov.ceil = b.gov.ceil :=
  ⟨congrArg Prod.fst h, congrArg Prod.snd h⟩
theorem ceilOf_gov {s t : State} (h : t.gov = s.gov) : ceilOf t = ceilOf s := by unfold ceilOf; rw [h]
theorem ceilOf_endTest (s : State) : ceilOf (endTest s) = ceilOf s := by
  unfold endTest
  split
  · rfl
  · dsimp only
    split
    · exact (ceilOf_gov (gov_of_keeps (keep_cmdFailFree (Sub.refl _) (Keeps.refl _ _)) (by decide))).trans rfl
    · rfl
theorem ceilOf_saveFields (s : State) (c : SaveCause) (f : Sav → Sav) :
    ceilOf (let t := setDev (gaitDrop s) .saving (10 + c.code)
      let t : State := { t with sav := f t.sav }
      let t := (t.wr R.SAV_STAT_PHASE 3).wr R.SAV_PROGRESS_PAGES 0
      let t := t.bump C.SAV_SAVES
      if c = .governor then t.bump C.SAV_GOVSAVES else t) = ceilOf s := by
  have h := ceilOf_gov ((setDev_gov (gaitDrop s) .saving (10 + c.code)).trans (gaitDrop_gov s))
  dsimp only
  generalize setDev (gaitDrop s) .saving (10 + c.code) = u at h ⊢
  split <;> exact h
theorem ceilOf_srClear (l : List Nat) (s : State) :
    ceilOf (l.foldl (fun (u : State) ch => u.wr R.DRC_SR_RANKSR 0 0 ch) s) = ceilOf s :=
  foldl_keep_mem _ ceilOf l s (fun _ _ _ => rfl)
theorem ceilOf_revokeTokens (s : State) : ceilOf (revokeTokens s) = ceilOf s :=
  (ceilOf_gov (gov_of_keeps (keep_endCal (Sub.refl _) (Keeps.refl _ _)) (by decide))).trans
    ((ceilOf_gov (gov_of_keeps (keep_endRehearsal (Sub.refl _) (Keeps.refl _ _)) (by decide))).trans
      ((ceilOf_endTest _).trans (ceilOf_gov (gov_of_keeps (keep_farRevoke (Sub.refl _) (Keeps.refl _ _)) (by decide)))))
theorem ceilOf_startSave (s : State) (c : SaveCause) : ceilOf (startSave s c) = ceilOf s :=
  (ceilOf_revokeTokens _).trans
    ((ceilOf_gov (gov_of_keeps (keep_holdWriters (Sub.refl _) (Keeps.refl _ _)) (by decide))).trans
      ((ceilOf_gov (gov_of_keeps (keep_marginsBack (Sub.refl _) (Keeps.refl _ _)) (by decide))).trans
        ((ceilOf_srClear _ _).trans
          ((ceilOf_gov (raise_gov_eq _ _ _)).trans (ceilOf_saveFields s c (fun x => { x with
            cause := some c, wanted := none, start := s.now, steps := 2, img := none, sealRec := none, sealed := 0
            vStart := (List.range 8).map (fun m => s.rd R.GOV_VMOD m) }))))))
theorem ceilOf_startFall (s : State) (n w : Nat) : ceilOf (startFall s n w) = ceilOf s :=
  ceilOf_gov (gov_of_keeps (keep_startFall (Sub.refl _) (Keeps.refl _ _)) (by decide))
/-- A power cause leaves C as it is. -/
theorem ceilOf_powerDown (s : State) (c : SaveCause) : ceilOf (powerDown s c) = ceilOf s := by
  unfold powerDown
  split
  · exact ceilOf_startSave s c
  · split
    · exact ceilOf_startSave s c
    · split
      · rfl
      · exact ceilOf_startFall _ _ _
  · split
    · rfl
    · exact ceilOf_startFall _ _ _
  · split
    · rfl
    · split
      · rfl
      · split
        · exact ceilOf_startFall _ _ _
        · exact ceilOf_gov (raise_gov_eq _ _ _)
  · rfl
/-- Acting by its state, the governor leaves C as it is. -/
theorem ceilOf_govAct (u : State) : ceilOf (govAct u) = ceilOf u := by
  unfold govAct
  split
  · exact (ceilOf_gov (raiseIf_gov _ _ _ _)).trans (ceilOf_powerDown u .governor)
  · rfl
theorem ceilOf_showGate (u : State) : ceilOf (showGate u) = ceilOf u :=
  ceilOf_gov (gov_of_keeps (keep_showGate (Sub.refl _) (Keeps.refl _ _)) (by decide))
/-- A computation's C is what `govStep` leaves. -/
theorem ceilOf_govStep (u : State) : ceilOf (govStep u) = ceilOf (govCompute (showErased u)) := by
  unfold govStep
  rw [ceilOf_govAct, ceilOf_showGate]

/-- A tick's readings leave C, CAP and FREEZE as they are. -/
theorem setVmod_step (v : List Nat) (u : State) (m : Nat) (F : Fld) (h1 : F.key 0 0 ≠ R.GOV_VMOD.key m 0) (h2 : F.key 0 0 ≠ R.PWR_ADC.key m 0) :
   (match v[m]? with
    | some x => (u.wr R.GOV_VMOD x m).wr R.PWR_ADC (adcCode x) m | none => u).rd F = u.rd F := by
  split
  · rw [rd_wr_other _ _ _ _ _ _ _ _ h2, rd_wr_other _ _ _ _ _ _ _ _ h1]
  · rfl
theorem setVmod_rd (s : State) (v : List Nat) (F : Fld) (h : ∀ m < 8, F.key 0 0 ≠ R.GOV_VMOD.key m 0 ∧ F.key 0 0 ≠ R.PWR_ADC.key m 0) :
    (setVmod s v).rd F = s.rd F := by
  unfold setVmod
  refine foldl_keep_mem (fun (t : State) m => match v[m]? with
    | some x => (t.wr R.GOV_VMOD x m).wr R.PWR_ADC (adcCode x) m | none => t) (fun u => u.rd F) _ _ (fun u m hm => ?_)
  have hm8 : m < 8 := List.mem_range.1 hm
  exact setVmod_step v u m F (h m hm8).1 (h m hm8).2
theorem showErased_rd (s : State) (F : Fld) (h : F.key 0 0 ≠ R.SAV_ERASED_MIB.key 0 0) : (showErased s).rd F = s.rd F := by
  unfold showErased
  exact rd_wr_other _ _ _ _ _ _ _ _ h
theorem rd_withGov (s : State) (g : Gov) (F : Fld) : ({ s with gov := g } : State).rd F = s.rd F := rfl
theorem ceilOf_readMask (s : State) (n : Nat) : ceilOf { s with gov := { s.gov with readMask := n } } = ceilOf s := rfl
theorem markOut_rd (s : State) (v : List Nat) (F : Fld) (h : F.key 0 0 ≠ R.GOV_STAT_FAILED.key 0 0) : (markOut v s).rd F = s.rd F := by
  unfold markOut
  refine foldl_keep_mem (fun (u : State) m => match v[m]? with
    | some x => if readingOut x then markFailed u m x else u
    | none => u) (fun u => u.rd F) _ _ (fun u m _ => ?_)
  split
  · split
    · unfold markFailed
      split
      · exact (rd_raise _ _ _ _ _ _).trans (rd_wr_other _ _ _ _ _ _ _ _ h)
      · rfl
    · rfl
  · rfl
theorem ceilOf_markOut (s : State) (v : List Nat) : ceilOf (markOut v s) = ceilOf s :=
  ceilOf_gov (gov_of_keeps (keep_markOut (Sub.refl _) (Keeps.refl _ _)) (by decide))
theorem govRead_rd (s : State) (v : List Nat) (F : Fld)
    (h : ∀ m < 8, F.key 0 0 ≠ R.GOV_VMOD.key m 0 ∧ F.key 0 0 ≠ R.PWR_ADC.key m 0 ∧ F.key 0 0 ≠ R.GOV_CMEAS.key m 0)
    (hf : F.key 0 0 ≠ R.GOV_STAT_FAILED.key 0 0) :
    (govRead v s).rd F = s.rd F := by
  refine Eq.trans ?_ ((setVmod_rd (markOut v s) v F (fun m hm => ⟨(h m hm).1, (h m hm).2.1⟩)).trans (markOut_rd s v F hf))
  unfold govRead
  generalize setVmod (markOut v s) v = u
  extract_lets t0 t rm
  rw [rd_withGov]
  unfold t t0
  split
  · apply foldl_keep_mem (fun (u : State) m => u.wr R.GOV_CMEAS (u.rd R.GOV_CNOM_CNOM) m) (fun u => u.rd F)
    intro w m hm
    exact rd_wr_other _ _ _ _ _ _ _ _ (h m (by simpa using hm)).2.2
  · rfl
theorem ceilOf_govRead (s : State) (v : List Nat) : ceilOf (govRead v s) = ceilOf s := by
  refine Eq.trans ?_ ((ceilOf_gov (gov_of_keeps (keep_setVmod (v := v) (Sub.refl _) (Keeps.refl _ _)) (by decide))).trans (ceilOf_markOut s v))
  unfold govRead
  generalize setVmod (markOut v s) v = u
  extract_lets t0 t rm
  rw [ceilOf_readMask]
  unfold t t0
  split
  · apply foldl_keep_mem (fun (u : State) m => u.wr R.GOV_CMEAS (u.rd R.GOV_CNOM_CNOM) m) ceilOf
    intro w m _
    rfl
  · rfl

end Sys2Proof.Laws
end

