-- ==== Sys2Proof/WellFormed.lean ====
section
/-! DEFINITION. Well-formed commands: every operand fits the field that carries it, every list has the length its rule
gives. The meanings are total on ill-formed commands too (log entry 139); a well-formed one is what a sender can send. -/

namespace Sys2Proof

/-! ## Checks of operands -/

/-- A number of `w` bits. -/
def fits (w v : Nat) : Bool := decide (v < 2 ^ w)

/-- A number from `a` to `b`. -/
def within (a b v : Nat) : Bool := decide (a ≤ v) && decide (v ≤ b)

/-- A number of `w` bits, where there is one. -/
def optFits (w : Nat) (o : Option Nat) : Bool := o.all (fits w)

/-- Two numbers of `w` bits, where there are any. -/
def pairFits (w : Nat) (o : Option (Nat × Nat)) : Bool := o.all (fun p => fits w p.1 && fits w p.2)

/-- Numbers of `w` bits. -/
def wordsFit (w : Nat) (l : List Nat) : Bool := l.all (fits w)

/-- Bytes. -/
def bytesOk (l : List Nat) : Bool := wordsFit 8 l

/-- Exactly `n` bytes. -/
def sizedBytes (n : Nat) (l : List Nat) : Bool := decide (l.length = n) && bytesOk l

/-- Exactly `n` 64-bit words. -/
def sizedWords (n : Nat) (l : List Nat) : Bool := decide (l.length = n) && wordsFit 64 l

/-- 1 to `n` bytes. -/
def dataOk (n : Nat) (l : List Nat) : Bool := within 1 n l.length && bytesOk l

/-- An Aidric or Tlaxa frame on its carrier: at most 1,052 bytes, header and tag with it (Table 2.4). A shorter frame than a header
and a tag is one a sender can send, and the device discards it (R49). -/
def frameOk (l : List Nat) : Bool := decide (l.length ≤ 1052) && bytesOk l

/-- Errors of a line read: a device 0 to 9 and a non-zero mask of its eight symbols' bits (R313). -/
def lineErrOk (e : LineErr) : Bool := e.all (fun p => decide (p.1 < 10))

/-- A reading of a thermal sensor, in sixteenths of a degree in 16 bits. -/
def tempOk (t : Option Int) : Bool := t.all (fun x => decide (-32768 ≤ x) && decide (x < 32768))

/-- A reading of a codeword: 0 to 5 retries, levels 1 to 7. -/
def CwRead.wf (r : CwRead) : Bool :=
  decide (r.retries ≤ 5) && decide (r.above.length ≤ 7) && decide (r.below.length ≤ 7)

/-- HELLO's fields at their widths (Table 6.7). -/
def Hello.wf (h : Hello) : Bool :=
  fits 1 h.side && fits 4 h.level && fits 1 h.soloPref && fits 3 h.lastState && fits 2 h.role && fits 5 h.wmin &&
  fits 64 h.pairId && fits 64 h.pgen && fits 64 h.part && fits 27 h.pext && fits 23 h.dgroups && fits 64 h.sealSeq &&
  fits 32 h.pendPages && fits 32 h.logExtents

/-- A packet's fields at their widths (R133). -/
def Packet.wf (k : Packet) : Bool :=
  fits 8 k.opcode && fits 24 k.dqp && fits 16 k.pkey && fits 24 k.psn && fits 128 k.srcIp && fits 48 k.srcMac && fits 12 k.vid &&
  fits 64 k.va && fits 32 k.rkey && fits 32 k.len && fits 64 k.swapAdd && fits 64 k.compare && fits 32 k.imm &&
  decide (k.payload.length ≤ 4096) && bytesOk k.payload

/-- A reset request's level 1 to 5 (R388). -/
def ResetArg.wf (a : ResetArg) : Bool := within 1 5 a.level.toNat

/-! ## Well-formed commands -/

/-- Can a sender send this command: does each operand fit its field? -/
def Instr.wf : Instr → Bool
  | .powerOnReset _ => true
  | .pwrBtnPress _ => true
  | .onRequestCmd => true
  | .offRequestCmd => true
  | .earlyPowerFailWarning _ mv => fits 15 mv
  | .inputPowerQualified => true
  | .brownOut _ reading => fits 16 reading
  | .inputCollapse => true
  | .mainShaftLoss _ _ => true
  | .clockFailure => true
  | .refwaitExpiry => true
  | .mainShaftLock _ us => fits 32 us
  | .risingTableEnd => true
  | .fallingTableEnd => true
  | .seqEnable => true
  | .railGoodChange _ _ => true
  | .railGoodQualified _ => true
  | .enableTimeout => true
  | .seqDisable => true
  | .disableTimeout => true
  | .seqWait => true
  | .seqWaitExpiry => true
  | .seqPmbus => true
  | .pmbusTransactionDone _ => true
  | .seqRstrel => true
  | .resetOutputStretchEnd _ => true
  | .seqRstassert => true
  | .seqCharger => true
  | .seqTableCommit => true
  | .pmbusTelemetryPoll reads => decide (reads.length ≤ 24) && reads.all (fun p => optFits 16 p.1 && optFits 16 p.2)
  | .powerCapMeasurement protectedW => fits 16 protectedW
  | .marginApply => true
  | .moduleFailed _ reading => fits 16 reading
  | .capacitanceTestStart _ => true
  | .capacitanceTestCmd arg => decide (arg < 8)
  | .capacitanceTestEnd v0 v1 => fits 16 v0 && fits 16 v1
  | .pinReset => true
  | .softwareResetRequest a _ => a.wf
  | .debugResetRequest a => a.wf
  | .wrapperDrainTimeout _ forced => fits 32 forced
  | .watchdogKick cores => fits 4 cores
  | .watchdogHalfTime _ => true
  | .watchdogExpiry _ => true
  | .lockup _ _ pc => fits 32 pc
  | .gaitRequest _ => true
  | .quietPointTake _ => true
  | .quietBoundExpiry _ => true
  | .gaiRowWord3Write _ v => fits 32 v
  | .gaitEditFieldWrite sess _ _ v => fits 16 sess && fits 32 v
  | .gaitTableCommit sess => optFits 16 sess
  | .gaitLoadDefaults sess => optFits 16 sess
  | .aidricOpen _ src frame => fits 128 src && frameOk frame
  | .aidricProve _ src frame => fits 128 src && frameOk frame
  | .aidricRead _ src frame => fits 128 src && frameOk frame
  | .aidricWrite _ src frame => fits 128 src && frameOk frame
  | .aidricKeepalive _ src frame => fits 128 src && frameOk frame
  | .aidricClose _ src frame => fits 128 src && frameOk frame
  | .halfOpenExpiry session => optFits 16 session
  | .sessionIdleTimeout session => fits 16 session
  | .pathLockoutEnd _ => true
  | .dicHandlerAnswer _ _ => true
  | .handlerItemTimeout => true
  | .dicExtLoad => true
  | .dicExtClear => true
  | .dicSnapshot => true
  | .blockSnapshot _ => true
  | .deviceSnapshotCmd => true
  | .blockGoWrite _ _ => true
  | .groupCommit _ => true
  | .controlSpaceWrite _ addr _ => fits 64 addr
  | .bitAliasWrite _ _ _ _ _ => true
  | .configSweep => true
  | .configCommit => true
  | .cfgrefWrite _ _ => true
  | .pcieDoorbell frame => frameOk frame
  | .pcieNtftaken => true
  | .pciePerst _ => true
  | .pciePowerStateChange _ => true
  | .mgtArpNsEcho _ addr src vlan => fits 128 addr && fits 128 src && optFits 12 vlan
  | .mdioTransaction _ _ _ _ _ => true
  | .mctpControlMessage _ _ data => bytesOk data
  | .registerRegionCmd sess => fits 16 sess
  | .deregisterCmd sess rkey => fits 16 sess && fits 32 rkey
  | .deallocateCmd sess => fits 16 sess
  | .regionDrainComplete _ => true
  | .trnUpdate => true
  | .trnUpdateComplete => true
  | .hopperDeadline => true
  | .trnInvalL1 => true
  | .trnInvalL2 => true
  | .secondLevelFillReturn e => fits 27 e
  | .trnAgeTick => true
  | .packetReceive lport k => decide (lport < 16) && k.wf
  | .contextFetchDone ix => fits 18 ix
  | .contextFetchTimeout ix _ => fits 18 ix
  | .cnpListFetchDone _ ix => fits 18 ix
  | .cnpListEntryTimeout _ ix => fits 18 ix
  | .lportMove ix => fits 18 ix
  | .admitRequest _ => true
  | .translateRequest _ => true
  | .placeRequest _ => true
  | .lineReadDone l err _ => fits 34 l && lineErrOk err
  | .answerQp ix => fits 18 ix
  | .ackCoalesceDelay ix => fits 18 ix
  | .reinLoopTick _ share => fits 16 share
  | .linkUp _ => true
  | .linkDown _ _ => true
  | .portRelinkCmd l => decide (l < 16)
  | .prtRelinkWrite _ _ => true
  | .prtArpNsEcho _ _ addr src => fits 128 addr && fits 128 src
  | .pfcPauseReceived _ _ _ => true
  | .fecAlarm _ n => fits 32 n
  | .requesterAckReceived _ psn data => fits 24 psn && dataOk 4096 data
  | .requesterTimeout _ => true
  | .requesterNakReceived _ psn syndrome => fits 24 psn && fits 8 syndrome
  | .requesterRnrNak _ => true
  | .requesterRnrWaitEnd _ => true
  | .requesterCnp _ => true
  | .requesterRateRise _ => true
  | .xptQpWrite _ => true
  | .xptQpRead _ => true
  | .xptQpToError _ => true
  | .xptQpWritebackEvict _ => true
  | .qpInspectToErrorCmd session => fits 16 session
  | .flitReceived bytes => decide (bytes.length = 512)
  | .replayTimer => true
  | .laneFault _ _ => true
  | .ctrlWidth _ => true
  | .ctrlWidthAck _ => true
  | .widthSwitch => true
  | .laneProbationPassed _ => true
  | .linkSilence => true
  | .retrainAttemptDone _ => true
  | .retrainDelayEnd => true
  | .heartbeatSilent _ => true
  | .linkTrainingAttempt => true
  | .linkTrained _ => true
  | .mirrorMsg tag epoch spage off _ data => fits 15 tag && fits 48 epoch && fits 36 spage && fits 12 off && dataOk 4096 data
  | .forwardMsg tag spage off data => fits 15 tag && fits 36 spage && fits 12 off && dataOk 4096 data
  | .fwdAtomic tag spage line word _ arg swap => fits 15 tag && fits 36 spage && fits 6 line && fits 3 word && fits 64 arg && fits 64 swap
  | .orderedMsg tag epoch spage result atomic => fits 15 tag && fits 48 epoch && fits 36 spage && fits 4 result && pairFits 64 atomic
  | .placedMsg tag epoch spage status => fits 15 tag && fits 48 epoch && fits 36 spage && fits 4 status
  | .moveMsg tag extent kind pages => fits 15 tag && fits 27 extent && within 1 3 kind && fits 512 pages
  | .movereq tag extent kind pages => fits 15 tag && fits 27 extent && within 1 3 kind && fits 512 pages
  | .tread tag spage line => fits 15 tag && fits 36 spage && fits 6 line
  | .treadData tag epoch spage line data => fits 15 tag && fits 48 epoch && fits 36 spage && fits 6 line && sizedBytes 64 data
  | .treadFail tag spage line cause => fits 15 tag && fits 36 spage && fits 6 line && fits 4 cause
  | .moveDone tag extent kind result => fits 15 tag && fits 27 extent && within 1 3 kind && fits 4 result
  | .pagepull tag spage => fits 15 tag && fits 36 spage
  | .resyncPage tag epoch spage zero _ poison data => fits 15 tag && fits 48 epoch && fits 36 spage && fits 64 poison && (sizedBytes 4096 data || zero && data.isEmpty)
  | .helloMsg tag h => fits 15 tag && h.wf
  | .helloAnswer tag decision reason level pairId pgen => fits 15 tag && fits 4 decision && fits 4 reason && fits 4 level && fits 64 pairId && fits 64 pgen
  | .pendlist tag _ pages => fits 15 tag && wordsFit 36 pages && decide (pages.length ≤ 64)
  | .stateReady tag pgen => fits 15 tag && fits 64 pgen
  | .stateSpanreq tag pgen => fits 15 tag && fits 64 pgen
  | .stateSpanok tag pgen => fits 15 tag && fits 64 pgen
  | .stateSpandone tag pgen => fits 15 tag && fits 64 pgen
  | .depart tag cause => fits 15 tag && fits 4 cause
  | .mapopRegionSet tag index words => fits 15 tag && fits 14 index && sizedWords 8 words
  | .mapopExtentSet tag extent words => fits 15 tag && fits 27 extent && sizedWords 2 words
  | .mapopDealloc tag extent count => fits 15 tag && fits 27 extent && fits 27 count
  | .mapopRegreq tag words => fits 15 tag && sizedWords 8 words
  | .mapopDeregreq tag rkey => fits 15 tag && fits 32 rkey
  | .mapopDone tag result index rkey => fits 15 tag && fits 4 result && fits 14 index && fits 32 rkey
  | .dict tag frame => fits 15 tag && frameOk frame
  | .dictRsp tag frame => fits 15 tag && frameOk frame
  | .reconMsg tag epoch spage round check => fits 15 tag && fits 48 epoch && fits 36 spage && fits 4 round && fits 64 check
  | .reconEnd tag entries round => fits 15 tag && fits 17 entries && fits 4 round
  | .catchupPageSend => true
  | .catchupReady => true
  | .pairwaitExpiry => true
  | .goSoloCmd => true
  | .spanCmd => true
  | .leaveCmd => true
  | .joinCmd => true
  | .forceSoloCmd => true
  | .fenceArbitrateCmd session arg => fits 16 session && fits 32 arg
  | .tierSFillDone p rd => fits 36 p && rd.wf
  | .parkRoomFreed _ => true
  | .cleanClockStep _ p => fits 36 p
  | .writebackVerified _ => true
  | .writebackProgramFailed _ => true
  | .heatTick => true
  | .poolClockVisit g => fits 32 g
  | .tenantWrite _ => true
  | .tenantRead _ => true
  | .tenantCommit _ => true
  | .quotaRingRebuildDone => true
  | .tpolCommit => true
  | .lendCommit _ _ => true
  | .lendRevoke _ => true
  | .tierHAccessFail page _ => fits 36 page
  | .promoteExtentCmd tenant => fits 10 tenant
  | .removeChargeCmd tenant => fits 10 tenant
  | .govTick vmod => decide (vmod.length ≤ 8) && wordsFit 16 vmod
  | .energyAtShutres vmod => decide (vmod.length ≤ 8) && wordsFit 16 vmod
  | .saveStepComplete n => fits 8 n
  | .saveSealed => true
  | .fillComplete => true
  | .restoreStepComplete n bad => fits 8 n && wordsFit 36 bad
  | .serviceGatePassed => true
  | .serviceGateWaitReport => true
  | .retiredImageEraseDone => true
  | .rehearsalStart => true
  | .rehearseCmd => true
  | .rehearsalDone us => fits 32 us
  | .jobSubmit j => fits 16 j
  | .jobCancel j => fits 16 j
  | .jobRequeue j => fits 16 j
  | .jobCancelCmd sess => fits 16 sess
  | .jobRequeueCmd sess => fits 16 sess
  | .jobDispatch => true
  | .instructionIssue _ => true
  | .instructionComplete _ _ pc turn rd corr bad => fits 12 pc && fits 64 turn && rd.wf && fits 32 corr && optFits 32 bad
  | .stageCommitComplete _ _ => true
  | .stageTimeout _ _ => true
  | .waitLimitExpiry _ _ => true
  | .waitWordPoll _ _ => true
  | .completionTake => true
  | .jobWritePort => true
  | .mstQpWrite => true
  | .mstQpRead => true
  | .mstQpToError => true
  | .reqQpInspectToErrorCmd sess => fits 16 sess
  | .resumeScan => true
  | .refreshDue _ _ _ => true
  | .sidebandRead _ _ _ osc => wordsFit 16 osc
  | .rankIdleSelfRefresh _ _ => true
  | .markwinHalve _ => true
  | .trainingOpWrite _ => true
  | .trainingOpCompare _ => true
  | .trainingOpMrr _ => true
  | .trainingOpCaLoopback _ => true
  | .trainingOpDone _ lanes _ => decide (lanes.length ≤ 80)
  | .retrainDone _ _ osc delays => fits 16 osc && decide (delays.length ≤ 80) && delays.all (fun p => fits 10 p.1 && fits 10 p.2)
  | .groomBurst _ errs => decide (errs.length ≤ 64) && errs.all lineErrOk
  | .groomRateRecompute => true
  | .farrierRequest owner res => fits 32 owner && res.all (fun n => decide (n < 122))
  | .farrierRelease owner res => fits 32 owner && decide (res < 122)
  | .waitrelExpiry owner => fits 32 owner
  | .retrygapExpiry owner => fits 32 owner
  | .storeRead _ rd => rd.wf
  | .storeReadRaw _ => true
  | .storeReadMeta _ rd => rd.wf
  | .storeParam _ page => sizedBytes 256 page
  | .storeErase _ k => fits 17 k
  | .storeRetire _ _ die block cause => decide (die < 32) && fits 17 block && fits 8 cause
  | .storeCleanWrite => true
  | .storeRelocate rd => rd.wf
  | .storeSaveWrite => true
  | .storeSealWrite _ => true
  | .storePatrolRead _ rd => rd.wf
  | .stfFwtailWrite _ _ => true
  | .rowStripewaitExpiry => true
  | .wordlineVerified => true
  | .eraseVerified k => fits 17 k
  | .eraseVerifyFailed k _ => fits 17 k
  | .operationResume _ die => decide (die < 32)
  | .dieFailed _ _ => true
  | .superblockOpen k _ => fits 17 k
  | .reclaimStart => true
  | .stfStartWalk => true
  | .validCountWalkDone => true
  | .patrolPace _ => true
  | .keeperRead => true
  | .keeperProgram => true
  | .keeperErase => true
  | .keeperOpDone _ => true
  | .kpfCompletionTake => true
  | .xipFetchMiss _ => true
  | .sampleRound temps volts => decide (temps.length ≤ 48) && temps.all tempOk && decide (volts.length ≤ 24) && wordsFit 16 volts
  | .calRunStart _ => true
  | .calCmdRun => true
  | .calRunNowCmd => true
  | .calCmdRegenerate => true
  | .calCmdReload => true
  | .calRunCommit => true
  | .checkpointDue => true
  | .checkpointGo => true
  | .checkpointMiss => true
  | .aliveWrite => true
  | .takeoverFailure _ => true
  | .returnCmd => true
  | .clearCmd _ => true
  | .evtAckWrite _ seq => fits 32 seq
  | .cpxRingtailWrite index tail => fits 18 index && fits 12 tail
  | .eventRaised code payload => fits 16 code && decide (payload.length ≤ 4) && wordsFit 32 payload
  | .summaryRecord code => fits 16 code
  | .studbookAppend => true
  | .studbookScan => true
  | .svcOpen frame => frameOk frame
  | .svcProve frame => frameOk frame
  | .svcIdent frame => frameOk frame
  | .stageBegin frame => frameOk frame
  | .stageData frame => frameOk frame
  | .stageEnd frame => frameOk frame
  | .stageStatus frame => frameOk frame
  | .studRead frame => frameOk frame
  | .tackRead frame => frameOk frame
  | .evtRead frame => frameOk frame
  | .svcReset frame => frameOk frame
  | .svcClose frame => frameOk frame
  | .svcSessionTimeout => true
  | .usbDetach => true
  | .cancelStaging => true
  | .cancelStagingCmd => true
  | .keyLoadCmd sess => fits 16 sess
  | .keyEncrypt => true
  | .keyDecrypt => true
  | .keyCmac => true
  | .keyDerive => true
  | .keyLoad => true
  | .keyRandom => true
  | .keyClear => true
  | .keyQueueTake => true
  | .drbgHealthFail test => fits 8 test
  | .drbgReseed => true
  | .debugUnlock tag => sizedBytes 16 tag
  | .retireSuperblockMemberCmd sess ch => fits 16 sess && decide (ch < 32)
  | .heartbeatResumed _ => true
  | .widengapExpiry => true
  | .pcieLinkStateChange _ speed width => fits 8 speed && fits 8 width
  | .mgtLinkStatusChange _ _ _ => true
  | .usbAttach => true
  | .rowIdleClose _ _ => true
  | .eresminExpiry _ die => decide (die < 32)
  | .studbookSectorEraseDone => true
  | .machineTimerExpiry _ => true
  | .savePathReady => true

end Sys2Proof
end

