-- ==== Sys2Proof/Tests/Slice0.lean ====
section
/-! SUPPORT. Tests of our own: ill-formed commands are refused, the spec's worked examples, and for every statement with hypotheses
a concrete state and operands that meet all of them together (`guard_<statement>_<clause>`). -/

open Sys2Proof Sys2Proof.Machine

set_option Elab.async false

/-! ## States for the tests -/

/-- Page 2 of extent 0 is resident and clean in frame 514. -/
def onePage (s : State) : State := { s with
  maps := { s.maps with
    extents := [(0, { estate := 2, ingroup := true, fgroup := 1, rescnt := 1 })]
    frames := [(514, { pstate := .clean, spage := 2 })] }
  gov := { s.gov with limit := 2 ^ 40 } }

/-- A pair in SPAN with that page on this side, SIDE0 and lead; its link is up. -/
def spanPage : State :=
  let s := ((State.reset.wr R.BLKSTAT_RUNNING 1 0 24).wr R.TWN_STATE_TSTATE 2).wr R.TWN_STATE_LEAD 1
  onePage { s with
    dev := .serving, rst := { s.rst with held := false }, twn := { s.twn with link := 1 }, cpx := { s.cpx with entry := some 0 } }

/-- The same with a TREAD of line 0 of the page outstanding. -/
def spanTread : State := { spanPage with twn := { spanPage.twn with treads := [(2, 0)] } }

/-- The same with the page in the given state, a copy of it in the store, and a fill of it under way. -/
def storePage (st : PState) : State := { spanPage.wr R.BLKSTAT_RUNNING 1 0 23 with
  maps := { spanPage.maps with
    extents := [(0, { estate := 2, ingroup := true, fgroup := 1, rescnt := 1, dirtycnt := 1 })]
    frames := [(514, { pstate := st, spage := 2 })]
    store := [(2, { sstate := 1 })] }
  tie := { spanPage.tie with fills := [(2, 0)] } }

/-- An image of one empty part, signed under `imageKey`, from the start of the staging area on. -/
def imageSegments : List (Nat × List Nat) := [
    (0, [67, 83, 70, 78, 77, 65, 78, 73, 1, 0, 1, 0, 0, 1]),
    (16, [0, 0, 0, 0, 2, 0, 0, 0, 0, 0, 0, 0, 0, 0, 0, 0, 0, 0, 0, 0, 0, 0, 0, 0, 0, 0, 0, 0, 0, 0, 0, 0, 0, 0, 0, 0]),
    (64, [1]),
    (68, [0, 16, 0, 0, 0, 0, 0, 0]),
    (80, [56, 176, 96, 167, 81, 172, 150, 56, 76, 217, 50, 126, 177, 177, 227, 106, 33, 253, 183, 17, 20, 190, 7, 67, 76, 12,
      199, 191, 99, 246, 225, 218, 39, 78, 222, 191, 231, 111, 101, 251, 213, 26, 210, 241, 72, 152, 185, 91]),
    (1184, [206, 254, 47, 254, 39, 251, 24, 100, 39, 6, 194, 230, 69, 116, 104, 185, 135, 113, 181, 159, 70, 128, 191, 232,
      21, 194, 246]),
    (1212, [189, 129, 236, 200, 163, 37, 89, 93, 174, 10, 96, 143, 221, 10, 140, 90, 139, 205, 123]),
    (1232, [206, 254, 47, 254, 39, 251, 24, 100, 39, 6, 194, 230, 69, 116, 104, 185, 135, 113, 181, 159, 70, 128, 191, 232,
      21, 194, 246]),
    (1260, [189, 129, 236, 200, 163, 37, 89, 93, 174, 10, 96, 143, 221, 10, 140, 90, 139, 205, 123])]
/-- The public key that the image is signed under. -/
def imageKey : List Nat := [
    88, 144, 36, 38, 99, 14, 79, 134, 235, 82, 31, 165, 250, 173, 28, 147, 255, 177, 161, 17, 152, 64, 88, 69, 67,
    125, 31, 165, 68, 158, 237, 158, 101, 55, 73, 100, 92, 241, 128, 36, 92, 194, 178, 53, 74, 198, 13, 22, 58, 123,
    24, 103, 18, 201, 142, 174, 123, 73, 79, 25, 213, 200, 252, 94, 66, 202, 236, 253, 144, 200, 233, 26, 153, 224,
    90, 58, 5, 90, 227, 163, 166, 25, 44, 116, 205, 220, 126, 127, 35, 8, 142, 188, 9, 131, 198, 140]
/-- The keeper flash with the image staged. -/
def imageFlash : Sparse Nat :=
  imageSegments.flatMap (fun p => p.2.zipIdx.map (fun x => (imageBase 2 + p.1 + x.2, x.1)))

/-- `n` bytes of a flash list from `off` on, in one pass over its cells. -/
def flashRun : List (Nat × Nat) → Nat → Nat → List Nat
  | _, _, 0 => []
  | [], off, n + 1 => 0xFF :: flashRun [] (off + 1) n
  | (k, v) :: m, off, n + 1 =>
    if k = off then v :: flashRun m (off + 1) n else 0xFF :: flashRun ((k, v) :: m) (off + 1) n

/-- Cells whose keys rise, from `off` on. -/
def cellsFrom : Nat → List (Nat × Nat) → Bool
  | _, [] => true
  | off, (k, _) :: m => decide (off ≤ k) && cellsFrom (k + 1) m

theorem find_below {m : List (Nat × Nat)} {off x : Nat} (h : cellsFrom off m = true) (hx : x < off) : Sparse.find? m x = none := by
  induction m generalizing off with
  | nil => rfl
  | cons e m ih =>
    obtain ⟨k, v⟩ := e
    simp only [cellsFrom, Bool.and_eq_true, decide_eq_true_eq] at h
    simp only [Sparse.find?, if_neg (show ¬ x = k by omega)]
    exact ih h.2 (by omega)

theorem flashRun_nil (off n : Nat) : flashRun [] off n = List.replicate n 0xFF := by
  induction n generalizing off with
  | zero => rfl
  | succ n ih => simp [flashRun, ih, List.replicate_succ]

/-- Reading a rising flash byte by byte is the one pass over its cells. -/
theorem kbytes_run {s : State} {off n : Nat} (h : cellsFrom off s.kpf.flash = true) :
    kbytes s off n = flashRun s.kpf.flash off n := by
  have go : ∀ (n off : Nat) (m : List (Nat × Nat)), cellsFrom off m = true →
      (List.range n).map (fun i => (Sparse.find? m (off + i)).getD 0xFF) = flashRun m off n := by
    intro n
    induction n with
    | zero => intro off m _; cases m <;> rfl
    | succ n ih =>
      intro off m h
      have tail : (List.range n).map ((fun i => (Sparse.find? m (off + i)).getD 0xFF) ∘ Nat.succ) =
          (List.range n).map (fun i => (Sparse.find? m (off + 1 + i)).getD 0xFF) :=
        List.map_congr_left (fun i _ => by simp [Nat.succ_eq_add_one, Nat.add_assoc, Nat.add_comm 1])
      rw [List.range_succ_eq_map, List.map_cons, List.map_map, tail]
      cases m with
      | nil => rw [ih _ _ rfl]; rfl
      | cons e m =>
        obtain ⟨k, v⟩ := e
        simp only [cellsFrom, Bool.and_eq_true, decide_eq_true_eq] at h
        by_cases hk : k = off
        · subst hk
          have skip : ∀ i, Sparse.find? ((k, v) :: m) (k + 1 + i) = Sparse.find? m (k + 1 + i) := fun i => by
            simp only [Sparse.find?, if_neg (show ¬ k + 1 + i = k by omega)]
          simp only [skip, ih _ _ h.2, flashRun, if_true]
          simp [Sparse.find?]
        · rw [ih (off + 1) ((k, v) :: m) (by simp [cellsFrom, h.2]; omega)]
          simp only [flashRun, if_neg hk, Nat.add_zero, Sparse.find?, if_neg (fun e => hk e.symm : ¬ off = k),
            find_below h.2 (show off < k + 1 by omega)]
          rfl
  exact go n off s.kpf.flash h

/-- The check of the staged image reads the flash, the key and the fused count alone. -/
def imageState : State := { State.reset with
  kpf := { State.reset.kpf with flash := imageFlash }, fuses := { State.reset.fuses with imgkey := imageKey } }

theorem imageCheck_reads {s t : State} (hf : s.kpf.flash = t.kpf.flash) (hk : s.fuses.imgkey = t.fuses.imgkey)
    (hr : s.fuses.rollback = t.fuses.rollback) (base : Nat) : imageCheck s base = imageCheck t base := by
  have byte : kbyte s = kbyte t := funext fun o => by simp only [kbyte, hf]
  have bytes : kbytes s = kbytes t := funext fun o => funext fun n => by simp only [kbytes, byte]
  have number : kle s = kle t := funext fun o => funext fun n => by simp only [kle, bytes]
  have count : partCount s = partCount t := funext fun b => by simp only [partCount, number]
  have entry : partEntry s = partEntry t := funext fun b => funext fun j => by simp only [partEntry, byte, bytes, number]
  have bad : partBad s = partBad t := funext fun b => funext fun j => by unfold partBad; rw [entry]
  unfold imageCheck
  rw [byte, bytes, number, count, entry, bad, hk, hr]

theorem image_checks : imageCheck imageState (imageBase 2) = none := by
  unfold imageCheck
  rw [kbytes_run (n := 1280) (by decide +kernel)]
  decide +kernel

/-! ## Ill-formed commands are refused -/

theorem test_wf_number : Instr.wf (.lockup 0 .noRetire (2 ^ 32)) = false := by decide
theorem test_wf_reset_level : Instr.wf (.softwareResetRequest ⟨0, 1, true⟩ true) = false := by decide
theorem test_wf_optional : Instr.wf (.halfOpenExpiry (some 65536)) = false := by decide
theorem test_wf_list_length : Instr.wf (.govTick (List.replicate 9 0)) = false := by decide
theorem test_wf_list_width : Instr.wf (.govTick [65536]) = false := by decide
theorem test_wf_polls : Instr.wf (.pmbusTelemetryPoll [(some 65536, none)]) = false := by decide
theorem test_wf_bytes : Instr.wf (.mctpControlMessage 0 0 [256]) = false := by decide
theorem test_wf_frame_byte : Instr.wf (.pcieDoorbell [256]) = false := by decide
theorem test_wf_flit : Instr.wf (.flitReceived []) = false := by decide
theorem test_wf_sized_words : Instr.wf (.mapopRegreq 0 []) = false := by decide
theorem test_wf_sized_bytes : Instr.wf (.treadData 0 0 0 0 []) = false := by decide
theorem test_wf_data : Instr.wf (.forwardMsg 0 0 0 []) = false := by decide
theorem test_wf_range : Instr.wf (.moveDone 0 0 0 0) = false := by decide
theorem test_wf_codeword : Instr.wf (.tierSFillDone 0 ⟨6, 0, 0, [], []⟩) = false := by decide
theorem test_wf_line_errors : Instr.wf (.lineReadDone 0 [(10, 1)] .place) = false := by decide
theorem test_wf_hello : Instr.wf (.helloMsg 0 ⟨0, 16, 0, true, false, 0, 0, 0, 0, 0, 0, 0, 0, 0, 0, 0⟩) = false := by decide
theorem test_wf_packet :
    Instr.wf (.packetReceive 0 ⟨true, true, true, 0, 0, 0, false, 2 ^ 24, false, 0, 0, 0, 0, 0, 0, 0, 0, 0, [], 0, false, 0, false, 0, 0⟩) = false := by decide
theorem test_wf_pending_list : Instr.wf (.pendlist 0 true (List.replicate 65 0)) = false := by decide
theorem test_wf_atomic : Instr.wf (.orderedMsg 0 0 0 0 (some (2 ^ 64, 0))) = false := by decide
theorem test_wf_accepts : Instr.wf (.govTick [16000]) = true := by decide

/-! ## The spec's worked examples and printed values -/

/-- 03_address_space.md, from rkey to DRAM bank: rkey 0x07048EB5 has GEN 7, INDEX 291 and SALT 0x2B5. -/
theorem test_rkey_fields : rkeyOf 291 { state := 1, gen := 7, salt := 0x2B5 } = 0x07048EB5 := by decide

/-- That rkey's geometry: the default stripe and order over a full build. -/
def fullBuild : State := ((((State.reset.wr R.TRN_DGROUPS_DGROUPS 4194304).wr R.DRC_ADDRMAP_GRAIN 1).wr R.DRC_ADDRMAP_WIDTH 2
  ).wr R.DRC_ADDRMAP_ORDER 2 0 2)
theorem test_stripe : stripe fullBuild 0x034567834A40 = (2, 0x3456783640) := by decide
theorem test_unstripe : unstripe fullBuild 2 0x3456783640 = 0x034567834A40 := by decide
theorem test_burst :
    burstOf fullBuild 2 0x3456783640 = { sub := 1, bg := 5, bank := 0, row := 0x28ACF, col := 9, rank := 1 } := by decide

/-- 15_security.md, the tweak of one codeword: the unit number and the store-map word of a location. -/
theorem test_store_word :
    slocWord { sstate := 1, ch := 7, die := 9, block := 1210, page := 300, cw := 2 } = 0x4E912E8259000000 := by decide
theorem test_unit_number :
    slocWord { sstate := 0, ch := 7, die := 9, block := 1210, page := 300, cw := 2 } / 2 ^ 23 = 0x1D225D04B2 := by decide
theorem test_unit_number_moved :
    slocWord { sstate := 0, ch := 20, die := 9, block := 77, page := 12, cw := 0 } / 2 ^ 23 = 0x5120268030 := by decide

/-- 13_clocks_calibration.md, a drift run: the delay and store offsets at 49.5 and 58.25 °C. -/
def delayOff (n : Nat) : Int := if n = 1 then -6 else if n = 2 then 9 else 0
def storeOff (n : Nat) : Int := if n = 1 then -2 else if n = 2 then -8 else 0
theorem test_interpolate_delay : interpolate delayOff 792 = 0 ∧ interpolate delayOff 932 = 4 := by decide
theorem test_interpolate_store : interpolate storeOff 792 = -4 ∧ interpolate storeOff 932 = -6 := by decide

/-- R276: 0x02 · 0x80 reduces to 0x1D. -/
theorem test_gf_product : Crypto.gfMul 0x11D 2 0x80 = 0x1D := by decide

/-- 09_millstones.md, a 12 + 4 encode: the printed instructions decode to STAGE, FETCHS with P and S, and GFMAC. -/
theorem test_stage_word :
    let w := 0x01000001080000002000000000000000
    iOp w = 1 ∧ iRepeat w = 16 ∧ iPing w = true ∧ iStride w = 1024 := by decide
theorem test_fetchs_word :
    let w := 0x02C06004001A00003000000000000000
    iOp w = 2 ∧ iP w = true ∧ iS w = true ∧ opWrites0 w = [(3072, 1024)] ∧ bits w 46 42 = 0x680000C000 := by decide
theorem test_gfmac_word :
    let w := 0x0400000400180040059C002000000000
    iOp w = 4 ∧ opReads0 w = (List.range 12).map (fun i => (1024 * i, 1024)) ∧
      opWrites0 w = [(12288, 1024), (13312, 1024), (14336, 1024), (15360, 1024)] ∧ bits w 23 17 = 16384 := by decide

/-- 11_flash.md, an erase caught by a save: superblock 38,729 at DPC 32, and its entries. -/
def dpc32 : State := State.reset.wr R.STF_GEOM_DPCLOG 5
theorem test_superblock : locSb dpc32 { block := 1210, die := 9 } = 38729 := by decide
theorem test_block_word : blkWord { state := 5, erases := 1733 } = 0x5000000001B14000 := by decide
theorem test_block_word_read : blkOf 0x6000000001B14000 = { state := 6, erases := 1733 } := by decide

/-- 08_governor_save_restore.md, sizing the store: eight modules of 16 F at 16.00 V with CAP 2,048 hold a ceiling of 662.82 GB, and
seven of them one of 574.01 GB. -/
def eightModules (n : Nat) : State :=
  (List.range 8).foldl (fun s m => s.wr R.GOV_VMOD 16000 m)
    (((State.reset.wr R.GOV_CTL_MODEN n).wr R.GOV_CNOM_CNOM 16000).wr R.SAV_ERASED_MIB 4194304)
theorem test_ceiling_eight : ((govCeiling (eightModules 255)).1 + 5000000) / 10000000 = 66282 := by decide
theorem test_ceiling_seven : ((govCeiling (eightModules 0xDF)).1 + 5000000) / 10000000 = 57401 := by decide

/-- R194: newer is a distance of 1 to 2^47 − 1. -/
theorem test_newer : newer48 0 (2 ^ 48 - 1) = true ∧ newer48 5 5 = false ∧ newer48 (2 ^ 47) 0 = false := by decide

/-- 02_dictionary_registers.md, the refused-write bit of DRC[5]: in SERVING a write of a STOP field of a running DRC[5], block 47 with
its window at 0x42F00000, leaves the field and sets REFUSED. -/
def running47 : State := { ((State.reset.wr R.BLKCTRL_GO 1 0 47).wr R.BLKSTAT_STARTED 1 0 47) with dev := .serving, rst := { State.reset.rst with held := false } }
theorem test_refused_write :
    let t := doControlSpaceWrite 0 0x42F00040 0x00061120 running47
    t.rd R.BLKSTAT_REFUSED 0 47 = 1 ∧ t.rd R.DRC_ADDRMAP_ORDER 0 5 = 2 ∧ t.rd R.DRC_ADDRMAP_ROWBITS 0 5 = 18 := by decide

/-! ## Where the commands complete -/

theorem guard_PowerRequestsAct_0 : ∃ (s : State) (ms : Nat), s.dev = .standby ∧ 10 * s.rd R.PWR_CTL_BTNMIN ≤ ms :=
  ⟨State.reset, 5000, by decide, by decide⟩
theorem guard_PowerRequestsAct_1 : ∃ (s : State) (ms : Nat), ms < 10 * s.rd R.PWR_CTL_BTNMIN :=
  ⟨State.reset, 0, by decide⟩
theorem guard_PowerRequestsAct_2 : ∃ (s : State) (ms : Nat), s.dev = .saved ∧ 10 * s.rd R.PWR_CTL_BTNMIN ≤ ms :=
  ⟨{ State.reset with dev := .saved }, 5000, by decide, by decide⟩
theorem guard_PowerRequestsAct_3 : ∃ (s : State) (ms : Nat), s.dev = .serving ∧ 10 * s.rd R.PWR_CTL_BTNMIN ≤ ms :=
  ⟨{ State.reset with dev := .serving }, 5000, by decide, by decide⟩
theorem guard_PowerRequestsAct_4 : ∃ (s : State), s.dev = .saved :=
  ⟨{ State.reset with dev := .saved }, by decide⟩
theorem guard_PowerRequestsAct_5 : ∃ (s : State), s.dev = .serving :=
  ⟨{ State.reset with dev := .serving }, by decide⟩
theorem guard_InputPowerActs_0 : ∃ (s : State), s.dev = .off :=
  ⟨{ State.reset with dev := .off }, by decide⟩
theorem guard_InputPowerActs_1 : ∃ (s : State), s.dev = .standby ∧ s.on R.PWR_INSTAT_WARN = false :=
  ⟨State.reset, by decide, by decide⟩
theorem guard_InputPowerActs_2 : ∃ (s : State), s.dev = .serving ∧ s.on R.PWR_INSTAT_WARN = false :=
  ⟨{ State.reset with dev := .serving }, by decide, by decide⟩
theorem guard_InputPowerActs_3 : ∃ (s : State), s.dev = .serving :=
  ⟨{ State.reset with dev := .serving }, by decide⟩
theorem guard_InputPowerActs_4 : ∃ (s : State), s.dev = .saved ∧ s.rst.pend5 = none :=
  ⟨{ State.reset with dev := .saved }, by decide, by decide⟩
theorem guard_InputPowerActs_5 : ∃ (s : State), s.dev = .serving ∧ s.pwr.boVin = false ∧ reachOf s 1 = 5 :=
  ⟨{ State.reset with dev := .serving }, by decide, by decide, by decide⟩
theorem guard_InputPowerActs_6 : ∃ (s : State), s.dev ≠ .off :=
  ⟨State.reset, by decide⟩
theorem guard_ClocksAndTableEndsAct_0 : ∃ (s : State) (a b : Bool), shaftRuns s = true ∧ s.clk.refOk = true ∧ (a = true ∨ b =
    true) ∧ s.dev ≠ .falling :=
  ⟨(State.reset.wr R.CLK_STAT_LOCKED 1 |> fun s => { s with dev := .serving }), true, false, by decide, by decide, by decide,
    by decide⟩
theorem guard_ClocksAndTableEndsAct_1 : ∃ (s : State), s.dev = .standby ∧ s.clk.refOk = true :=
  ⟨State.reset, by decide, by decide⟩
theorem guard_ClocksAndTableEndsAct_2 : ∃ (s : State), s.dev = .saving ∧ shaftRuns s = true ∧ s.clk.refOk = true ∧ reachOf s 6 = 4
    :=
  ⟨((State.reset.wr R.CLK_STAT_LOCKED 1).wr R.RST_REACH (4 * 2 ^ 24) |> fun s => { s with dev := .saving }), by decide, by decide,
    by decide, by decide⟩
theorem guard_ClocksAndTableEndsAct_3 : ∃ (s : State), s.clk.locking = true ∧ s.clk.refwaitOver = false :=
  ⟨{ State.reset with clk := { State.reset.clk with locking := true } }, by decide, by decide⟩
theorem guard_ClocksAndTableEndsAct_4 : ∃ (s : State) (ref : Bool), s.dev = .saving ∧ s.clk.locking = true ∧ (ref = true ∨
    s.clk.refwaitOver = true) :=
  ⟨{ State.reset with dev := .saving, clk := { State.reset.clk with locking := true } }, true, by decide, by decide, by decide⟩
theorem guard_ClocksAndTableEndsAct_5 : ∃ (s : State), s.dev = .rising ∧ s.rd R.PWR_SEQSTAT_PHASE = 1 ∧ stepOp (curEntry s) = 0 ∧
    s.rf.shadow = [] ∧ s.on R.PWR_SEQSTAT_OFFPEND = false ∧ s.on R.CLK_STAT_LOCKED = false :=
  ⟨(State.reset.wr R.PWR_SEQSTAT_PHASE 1 |> fun s => { s with dev := .rising }), by decide, by decide, by decide, by decide,
    by decide, by decide⟩
theorem guard_ClocksAndTableEndsAct_6 : ∃ (s : State), s.dev = .falling ∧ s.rd R.PWR_SEQSTAT_PHASE = 2 ∧ stepOp (curEntry s) = 0 ∧
    s.rst.pend5 = none :=
  ⟨(State.reset.wr R.PWR_SEQSTAT_PHASE 2 |> fun s => { s with dev := .falling }), by decide, by decide, by decide, by decide⟩
theorem guard_SequencerStepsAct_0 : ∃ (s : State), atStep s 1 1 = true ∧ stepArg (curEntry s) < 24 ∧ s.rbit R.PWR_PGSTAT (stepArg
    (curEntry s)) = false :=
  ⟨((State.reset.wr R.PWR_SEQSTAT_PHASE 1).wr R.PWR_RISE 0x11800000), by decide, by decide, by decide⟩
theorem guard_SequencerStepsAct_1 : ∃ (s : State), inStep s 1 1 = true ∧ stepHard (curEntry s) = true :=
  ⟨((State.reset.wr R.PWR_SEQSTAT_PHASE 1).wr R.PWR_RISE 0x11c00000) |> fun s => { s with pwr := { s.pwr with stepOn := true } },
    by decide, by decide⟩
theorem guard_SequencerStepsAct_2 : ∃ (s : State), atStep s 2 2 = true ∧ stepArg (curEntry s) < 24 ∧ s.rbit R.PWR_ENSTAT (stepArg
    (curEntry s)) = true ∧ bit s.pwr.pgFilt (stepArg (curEntry s)) = true :=
  ⟨(((State.reset.wr R.PWR_SEQSTAT_PHASE 2).wr R.PWR_FALL 0x21800000).wbit R.PWR_ENSTAT 3 true |> fun s =>
    { s with pwr := { s.pwr with pgFilt := 8 } }), by decide, by decide, by decide, by decide⟩
theorem guard_SequencerStepsAct_3 : ∃ (s : State), inStep s 2 2 = true :=
  ⟨((State.reset.wr R.PWR_SEQSTAT_PHASE 2).wr R.PWR_FALL 0x21800000) |> fun s => { s with pwr := { s.pwr with stepOn := true } },
    by decide⟩
theorem guard_SequencerStepsAct_4 : ∃ (s : State), atAny s 3 = true :=
  ⟨((State.reset.wr R.PWR_SEQSTAT_PHASE 1).wr R.PWR_RISE 0x30000000), by decide⟩
theorem guard_SequencerStepsAct_5 : ∃ (s : State), inAny s 3 = true ∧ s.on R.PWR_SEQSTAT_OFFPEND = false :=
  ⟨((State.reset.wr R.PWR_SEQSTAT_PHASE 1).wr R.PWR_RISE 0x30000000) |> fun s => { s with pwr := { s.pwr with stepOn := true } },
    by decide, by decide⟩
theorem guard_SequencerStepsAct_6 : ∃ (s : State), atAny s 4 = true ∧ s.rd R.PWR_PMBCMD_ADDR (stepArg (curEntry s)) ≠ 0 :=
  ⟨(((State.reset.wr R.PWR_SEQSTAT_PHASE 1).wr R.PWR_RISE 0x40000000).wr R.PWR_PMBCMD_ADDR 0x40), by decide, by decide⟩
theorem guard_SequencerStepsAct_7 : ∃ (s : State), inAny s 4 = true ∧ s.on R.PWR_SEQSTAT_OFFPEND = false :=
  ⟨((State.reset.wr R.PWR_SEQSTAT_PHASE 1).wr R.PWR_RISE 0x40000000) |> fun s => { s with pwr := { s.pwr with stepOn := true } },
    by decide, by decide⟩
theorem guard_SequencerStepsAct_8 : ∃ (s : State), atStep s 1 5 = true ∧ stepArg (curEntry s) < 4 ∧ bit s.rst.stretched (stepArg
    (curEntry s)) = true ∧ s.on R.PWR_SEQSTAT_OFFPEND = false :=
  ⟨((State.reset.wr R.PWR_SEQSTAT_PHASE 1).wr R.PWR_RISE 0x50800000) |> fun s => { s with rst := { s.rst with stretched := 2 } },
    by decide, by decide, by decide, by decide⟩
theorem guard_SequencerStepsAct_9 : ∃ (s : State), atStep s 2 6 = true ∧ stepArg (curEntry s) < 4 :=
  ⟨((State.reset.wr R.PWR_SEQSTAT_PHASE 2).wr R.PWR_FALL 0x60800000), by decide, by decide⟩
theorem guard_SequencerStepsAct_10 : ∃ (s : State), atAny s 7 = true ∧ stepArg (curEntry s) = 1 ∧ s.gov.test = none ∧ s.on
    R.PWR_SEQSTAT_OFFPEND = false :=
  ⟨((State.reset.wr R.PWR_SEQSTAT_PHASE 1).wr R.PWR_RISE 0x70800000), by decide, by decide, by decide, by decide⟩
theorem guard_RailGoodsAndTablesAct_0 : ∃ (s : State) (r : Fin 24), s.dev ≠ .off ∧ bit s.pwr.pgFilt r = false :=
  ⟨State.reset, 3, by decide, by decide⟩
theorem guard_RailGoodsAndTablesAct_1 : ∃ (s : State) (r : Fin 24), s.dev ≠ .off ∧ bit s.pwr.pgFilt r = true ∧ s.rd
    R.PWR_SEQSTAT_PHASE = 0 ∧ bit s.pwr.servQual r = false :=
  ⟨{ State.reset with pwr := { State.reset.pwr with pgFilt := 8 } }, 3, by decide, by decide, by decide, by decide⟩
theorem guard_RailGoodsAndTablesAct_2 : ∃ (s : State) (r : Fin 24), s.dev = .serving ∧ bit s.pwr.pgFilt r = true ∧ s.rd
    R.PWR_SEQSTAT_PHASE = 0 :=
  ⟨{ State.reset with dev := .serving, pwr := { State.reset.pwr with pgFilt := 8 } }, 3, by decide, by decide, by decide⟩
theorem guard_RailGoodsAndTablesAct_3 : ∃ (s : State) (o : Fin 4), bit s.rst.stretching o = true ∧ s.on R.RST_OUT_AUTO o = true ∧
    s.rd R.PWR_SEQSTAT_PHASE = 0 :=
  ⟨(State.reset.wr R.RST_OUT_AUTO 1 1 |> fun s => { s with rst := { s.rst with stretching := 2 } }), 1, by decide, by decide,
    by decide⟩
theorem guard_RailGoodsAndTablesAct_4 : ∃ (s : State) (b : Nat × Nat × Nat), awake s = true ∧ seqRefusal (offered s R.PWR_RISE)
    (offered s R.PWR_FALL) = some b :=
  ⟨{ State.reset.wr R.PWR_RISE 0xF0000000 with dev := .serving }, (0, 0, 1), by decide, by decide⟩
theorem guard_RailGoodsAndTablesAct_5 : ∃ (s : State) (F : Fld) (i : Fin 64) (v : Nat), awake s = true ∧ seqRefusal (offered s
    R.PWR_RISE) (offered s R.PWR_FALL) = none ∧ (F = R.PWR_RISE ∨ F = R.PWR_FALL) ∧ s.rd R.PWR_SEQSTAT_PHASE = 0 ∧ Sparse.wf
    s.rf.group = true ∧ Sparse.wf s.rf.shadow = true ∧ s.rf.group.find? (F.key i 0) = some v :=
  ⟨{ State.reset with dev := .restoring, rf := { State.reset.rf with group := [(R.PWR_RISE.key 0 0, 0)] } }, R.PWR_RISE, 0, 0,
    by decide, by decide, Or.inl rfl, by decide, by decide, by decide, by decide⟩
theorem guard_RailGoodsAndTablesAct_6 : ∃ (s : State), awake s = true ∧ seqRefusal (offered s R.PWR_RISE) (offered s R.PWR_FALL) =
    none ∧ s.rf.group = [] ∧ s.rd R.PWR_SEQSTAT_PHASE ≠ 0 :=
  ⟨{ State.reset.wr R.PWR_SEQSTAT_PHASE 1 with dev := .rising }, by decide, by decide, by decide, by decide⟩
theorem guard_TelemetryAndTestsAct_0 : ∃ (s : State), s.dev ≠ .off :=
  ⟨State.reset, by decide⟩
theorem guard_TelemetryAndTestsAct_1 : ∃ (s : State), s.dev = .serving ∧ (rowInForce s 12).pwrcap < s.rd R.PWR_POWER_WATTS ∧
    redSteps s < redMax :=
  ⟨(State.reset.wr R.PWR_POWER_WATTS 500 |> fun s => { s with dev := .serving }), by decide, by decide, by decide⟩
theorem guard_TelemetryAndTestsAct_2 : ∃ (s : State), s.dev = .serving ∧ s.pwr.marginBusy = none ∧ s.rd R.PWR_RAIL_PMBADDR (s.rd
    R.PWR_MARGIN_RAIL) ≠ 0 :=
  ⟨(State.reset.wr R.PWR_RAIL_PMBADDR 0x40 0 |> fun s => { s with dev := .serving }), by decide, by decide, by decide⟩
theorem guard_TelemetryAndTestsAct_3 : ∃ (s : State) (m : Fin 8) (reading : Nat), awake s = true ∧ s.running 21 = true ∧ s.rbit
    R.GOV_CTL_MODEN m = true ∧ s.rbit R.GOV_STAT_FAILED m = false ∧ (readingOut reading = true ∨ s.rd R.GOV_STEP_STEPDV < s.rd
    R.GOV_VMOD m - reading) :=
  ⟨((State.reset.wr R.BLKSTAT_RUNNING 1 0 21).wr R.GOV_CTL_MODEN 255 |> fun s => { s with dev := .serving }), 2, 0, by decide,
    by decide, by decide, by decide, by decide⟩
theorem guard_TelemetryAndTestsAct_4 : ∃ (s : State) (m : Fin 8), testable s m = true ∧ s.dev = .restoring :=
  ⟨(((State.reset.wr R.BLKSTAT_RUNNING 1 0 21).wr R.GOV_CTL_MODEN 255).wr R.GOV_RBLEED_RBLEED 10 |> fun s =>
    { s with dev := .restoring }), 2, by decide, by decide⟩
theorem guard_TelemetryAndTestsAct_5 : ∃ (s : State) (m : Nat), m < 8 ∧ testable s m = true ∧ s.dev = .restoring ∧ s.gov.testCmd =
    false :=
  ⟨(((State.reset.wr R.BLKSTAT_RUNNING 1 0 21).wr R.GOV_CTL_MODEN 255).wr R.GOV_RBLEED_RBLEED 10 |> fun s =>
    { s with dev := .restoring }), 2, by decide, by decide, by decide, by decide⟩
theorem guard_TelemetryAndTestsAct_6 : ∃ (s : State) (m v0 v1 : Nat), s.gov.test = some m ∧ s.gov.testCmd = false ∧ 8 * s.rd
    R.GOV_CNOM_CNOM ≤ 10 * capMeasured s v0 v1 ∧ readingOut v1 = false :=
  ⟨(State.reset |> fun s => { s with gov := { s.gov with test := some 2 } }), 2, 900, 800, by decide, by decide, by decide,
    by decide⟩
theorem guard_ResetSourcesAct_0 : ∃ (s : State), s.dev = .serving ∧ reachOf s 2 = 5 :=
  ⟨(State.reset.wr R.RST_REACH 0x42552555 |> fun s => { s with dev := .serving }), by decide, by decide⟩
theorem guard_ResetSourcesAct_1 : ∃ (s : State), s.dev = .serving ∧ reachOf s 2 = 4 :=
  ⟨(State.reset.wr R.RST_REACH 0x42552455 |> fun s => { s with dev := .serving }), by decide, by decide⟩
theorem guard_ResetSourcesAct_2 : ∃ (s : State) (a : ResetArg), s.dev = .serving ∧ reachOf s 4 = 5 ∧ a.level.toNat = 5 :=
  ⟨(State.reset.wr R.RST_REACH 0x42555555 |> fun s => { s with dev := .serving }), { level := 5, block := 0, drains := true },
    by decide, by decide, by decide⟩
theorem guard_ResetSourcesAct_3 : ∃ (s : State) (a : ResetArg), s.dev = .serving ∧ s.on R.KEY_STAT_DEBUG = true ∧ reachOf s 5 = 5
    ∧ a.level.toNat = 5 :=
  ⟨((State.reset.wr R.RST_REACH 0x42555555).wr R.KEY_STAT_DEBUG 1 |> fun s => { s with dev := .serving }),
    { level := 5, block := 0, drains := true }, by decide, by decide, by decide, by decide⟩
theorem guard_ResetSourcesAct_4 : ∃ (s : State) (block : Fin 58), s.rst.draining.any (fun q => q.block = block.val) = true :=
  ⟨{ State.reset with rst := { State.reset.rst with draining := [{ level := 1, source := 4, block := 16 }] } }, 16, by decide⟩
theorem guard_ResetSourcesAct_5 : ∃ (s : State), awake s = true ∧ s.cpx.entry.isSome = true :=
  ⟨{ { State.reset with dev := .serving } with cpx := { { State.reset with dev := .serving }.cpx with entry := some 0 } },
    by decide, by decide⟩
theorem guard_ResetSourcesAct_6 : ∃ (s : State) (core : Fin 4), watching s core = true ∧ bit s.cpx.wdHalf core = false :=
  ⟨(((State.reset.wr R.CPX_CORES_ENABLED 15 |> fun s =>
    { s with dev := .serving, cpx := { s.cpx with entry := some 0, hold := false } }))), 1, by decide, by decide⟩
theorem guard_ResetSourcesAct_7 : ∃ (s : State) (core : Fin 4), watching s core = true ∧ s.dev = .serving ∧ reachOf s 3 = 5 :=
  ⟨((State.reset.wr R.CPX_CORES_ENABLED 15).wr R.RST_REACH 0x42555555 |> fun s =>
    { s with dev := .serving, cpx := { s.cpx with entry := some 0, hold := false } }), 1, by decide, by decide, by decide⟩
theorem guard_ResetSourcesAct_8 : ∃ (s : State) (core : Fin 4), s.dev = .serving ∧ s.cpx.entry.isSome = true ∧ s.rbit
    R.CPX_CORES_ENABLED core (runningCluster s) = true ∧ reachOf s 7 = 5 :=
  ⟨((State.reset.wr R.CPX_CORES_ENABLED 15).wr R.RST_REACH 0x52555555 |> fun s =>
    { s with dev := .serving, cpx := { s.cpx with entry := some 0 } }), 1, by decide, by decide, by decide, by decide⟩
theorem guard_GaitCommandsAct_0 : ∃ (s : State), s.dev = .serving ∧ s.gai.change.isSome = true :=
  ⟨{ State.reset with dev := .serving, gai := { State.reset.gai with change := some { gait := 1, row := rowOf (fun F => F.dflt 1), start := 0, left := [3] } } },
    by decide, by decide⟩
theorem guard_GaitCommandsAct_1 : ∃ (s : State), s.dev = .serving ∧ s.gai.change = none :=
  ⟨{ State.reset with dev := .serving, rst := { State.reset.rst with held := false } }, by decide, by decide⟩
theorem guard_GaitCommandsAct_2 : ∃ (s : State) (block : Fin 58), s.dev ≠ .off ∧ s.rst.held = false ∧ s.gai.change = none ∧
    block.val ≠ 23 :=
  ⟨((State.reset) |> fun s => { s with dev := .serving, rst := { s.rst with held := false } }), 3, by decide, by decide, by decide,
    by decide⟩
theorem guard_GaitCommandsAct_3 : ∃ (s : State) (block : Fin 58), s.on R.BLKSTAT_SHADOWPEND 0 block = true ∧ s.on
    R.BLKSTAT_QUIETLATE 0 block = false ∧ s.rf.shadow.any (fun e => decide (keyBlock e.1 = block.val) && mayTake s e.1) = true :=
  ⟨(State.reset.wr R.BLKSTAT_SHADOWPEND 1 0 21 |> fun s => { s with rf := { s.rf with shadow := [(R.GOV_CAP_CAP.key 0 0, 1)] } }),
    21, by decide, by decide, by decide⟩
theorem guard_GaitCommandsAct_4 : ∃ (s : State) (g : Fin 6) (v : Nat), awake s = true ∧ rowRefusal (fun F => bits (offeredWord s g
    (v % 2 ^ 32) ((F.off - 0x100) / 4)) F.lsb F.wid) = none :=
  ⟨{ State.reset with dev := .serving, rst := { State.reset.rst with held := false } }, 0, 70, by decide, by decide⟩
theorem guard_GaitCommandsAct_5 : ∃ (s : State) (sess : Nat) (v : Nat), awake s = true ∧ editBusy s sess = false ∧ 60 ≤ v ∧ v ≤
    235 :=
  ⟨{ State.reset with dev := .serving, rst := { State.reset.rst with held := false } }, 1, 100, by decide, by decide, by decide,
    by decide⟩
theorem guard_GaitCommandsAct_6 : ∃ (s : State), s.dev = .restoring ∧ (List.range 6).findSome? (fun g => (rowRefusal (fun F =>
    editVal s F g)).map (fun p => (g, p))) = none :=
  ⟨{ State.reset with dev := .restoring, rst := { State.reset.rst with held := false } }, by decide, by decide⟩
theorem guard_GaitCommandsAct_7 : ∃ (s : State) (n : Nat), awake s = true ∧ editBusy s n = false :=
  ⟨{ State.reset with dev := .serving, rst := { State.reset.rst with held := false } }, 2, by decide, by decide⟩
theorem guard_DictionaryFramesAct_0 : ∃ (s : State) (p : Fin 4) (f : List Nat) (k : List Nat), dicReady s p ∧ malformed f = false
    ∧ frameKind f = 1 ∧ (frameBody f).length = 20 ∧ bit (frameFlags f) 4 = false ∧ roleKey s ((frameBody f).getD 0 0) = some k ∧
    roleAllowed s p ((frameBody f).getD 0 0) = true ∧ (s.dic.sessions.filter (fun e => decide (e.2.path = p.val))).length <
    pathRoom p ∧ bit s.dic.locked p = false :=
  ⟨((State.reset.wr R.MGT_CFG_ENABLE 1) |> fun s => { s with dev := .serving, rst := { s.rst with held := false } }), 0, (fun h => h
    ++ (2 :: List.replicate 19 0) ++ Crypto.cmac [] (h ++ (2 :: List.replicate 19 0))) (frameHead 1 0 7 0 ((2 :: List.replicate 19
    0) : List Nat).length 0), State.reset.fuses.prov, by unfold dicReady; decide, by decide, by decide, by decide, by decide,
    by decide, by decide, by decide, by decide⟩
theorem guard_DictionaryFramesAct_1 : ∃ (s : State) (p : Fin 4) (f : List Nat) (x : Session), dicReady s p ∧ malformed f = false ∧
    frameKind f = 3 ∧ s.dic.sessions.find? (frameSess f) = some x ∧ x.path = p ∧ x.isOpen = false ∧ x.replaces = none ∧ frameTag f
    = Crypto.cmac x.key (f.take (12 + frameLen f)) ∧ frameLen f = 0 ∧ frameSeq f = 1 :=
  ⟨((State.reset.wr R.MGT_CFG_ENABLE 1) |> fun s =>
    { s with dev := .serving, rst := { s.rst with held := false }, dic := { s.dic with sessions := [(7, { path := 0, role := 0, isOpen := false })] } }),
    0, (fun h => h ++ [] ++ Crypto.cmac [] (h ++ [])) (frameHead 3 0 7 1 ([] : List Nat).length 0),
    { path := 0, role := 0, isOpen := false }, by unfold dicReady; decide, by decide, by decide, by decide, by decide, by decide,
    by decide, by decide, by decide, by decide⟩
theorem guard_DictionaryFramesAct_2 : ∃ (s : State) (p : Fin 4) (f : List Nat) (x : Session), dicReady s p ∧ accepts s x p 8 f ∧
    frameSeq f ≠ 0xFFFFFFFF :=
  ⟨((State.reset.wr R.MGT_CFG_ENABLE 1) |> fun s =>
    { s with dev := .serving, rst := { s.rst with held := false }, dic := { s.dic with sessions := [(7, { path := 0, role := 0, isOpen := true })] } }),
    0, (fun h => h ++ [] ++ Crypto.cmac [] (h ++ [])) (frameHead 8 0 7 1 ([] : List Nat).length 0),
    { path := 0, role := 0, isOpen := true }, by unfold dicReady; decide, by unfold accepts; decide, by decide⟩
theorem guard_DictionaryFramesAct_3 : ∃ (s : State) (p : Fin 4) (f : List Nat) (x : Session), dicReady s p ∧ accepts s x p 9 f :=
  ⟨((State.reset.wr R.MGT_CFG_ENABLE 1) |> fun s =>
    { s with dev := .serving, rst := { s.rst with held := false }, dic := { s.dic with sessions := [(7, { path := 0, role := 0, isOpen := true })] } }),
    0, (fun h => h ++ [] ++ Crypto.cmac [] (h ++ [])) (frameHead 9 0 7 1 ([] : List Nat).length 0),
    { path := 0, role := 0, isOpen := true }, by unfold dicReady; decide, by unfold accepts; decide⟩
theorem guard_DictionaryFramesAct_4 : ∃ (s : State) (p : Fin 4) (src : Nat) (f : List Nat) (x : Session) (it : Item) (u : State),
    dicReady s p ∧ accepts s x p 5 f ∧ frameSeq f ≠ 0xFFFFFFFF ∧ parseItems false 64 (frameBody f) = some [it] ∧ u = modSession
    (tagBlocks (atFrame s p) (12 + frameLen f)) (frameSess f) (fun y => { y with lastTime := s.now, src }) ∧ handlerOf u it = none
    :=
  ⟨((State.reset.wr R.MGT_CFG_ENABLE 1) |> fun s =>
    { s with dev := .serving, rst := { s.rst with held := false }, dic := { s.dic with sessions := [(7, { path := 0, role := 0, isOpen := true })] } }),
    0, 0, (fun h => h ++ [0x10, 0, 0, 0, 0, 0, 0, 0] ++ Crypto.cmac [] (h ++ [0x10, 0, 0, 0, 0, 0, 0, 0])) (frameHead 5 0 7 1
    ([0x10, 0, 0, 0, 0, 0, 0, 0] : List Nat).length 0), { path := 0, role := 0, isOpen := true },
    { index := 0x1000, sub := 0, typ := 0, len := 0, offset := 0, data := [] }, _, by unfold dicReady; decide,
    by unfold accepts; decide, by decide, by decide, rfl, by decide⟩
theorem guard_DictionaryFramesAct_5 : ∃ (s : State) (p : Fin 4) (src : Nat) (f : List Nat) (x : Session) (it : Item) (u : State),
    dicReady s p ∧ accepts s x p 6 f ∧ bit (frameFlags f) 6 = false ∧ parseItems true 64 (frameBody f) = some [it] ∧ u =
    modSession (tagBlocks (atFrame s p) (12 + frameLen f)) (frameSess f) (fun y => { y with lastTime := s.now, src }) ∧ handlerOf
    u it = none ∧ writeCheck u x.role it = stOk :=
  ⟨((State.reset.wr R.MGT_CFG_ENABLE 1) |> fun s =>
    { s with dev := .serving, rst := { s.rst with held := false }, dic := { s.dic with sessions := [(7, { path := 0, role := 2, isOpen := true })] } }),
    0, 0, (fun h => h ++ [0x11, 0x10, 2, 1, 0, 0, 0, 1, 3, 0, 0, 0] ++ Crypto.cmac [] (h ++ [0x11, 0x10, 2, 1, 0, 0, 0, 1, 3, 0,
    0, 0])) (frameHead 6 0 7 1 ([0x11, 0x10, 2, 1, 0, 0, 0, 1, 3, 0, 0, 0] : List Nat).length 0),
    { path := 0, role := 2, isOpen := true }, { index := 0x1110, sub := 2, typ := 1, len := 1, offset := 0, data := [3] }, _,
    by unfold dicReady; decide, by unfold accepts; decide +kernel, by decide +kernel, by decide +kernel, rfl, by decide +kernel,
    by decide +kernel⟩
theorem guard_DictionaryServiceActs_0 : ∃ (s : State) (n : Nat) (x : Session), awake s = true ∧ s.dic.sessions.find? n = some x ∧
    x.isOpen = false :=
  ⟨{ State.reset with dev := .serving, dic := { State.reset.dic with sessions := [(7, { path := 0, role := 0, isOpen := false })] } },
    7, { path := 0, role := 0, isOpen := false }, by decide, by decide, by decide⟩
theorem guard_DictionaryServiceActs_1 : ∃ (s : State) (n : Nat) (x : Session), awake s = true ∧ s.dic.sessions.find? n = some x ∧
    x.isOpen = true ∧ s.dic.queue = [] ∧ s.dic.extPend = [] :=
  ⟨{ State.reset with dev := .serving, dic := { State.reset.dic with sessions := [(7, { path := 0, role := 0, isOpen := true })] } },
    7, { path := 0, role := 0, isOpen := true }, by decide, by decide, by decide, by decide, by decide⟩
theorem guard_DictionaryServiceActs_2 : ∃ (s : State), awake s = true :=
  ⟨{ State.reset with dev := .serving, rst := { State.reset.rst with held := false } }, by decide⟩
theorem guard_DictionaryServiceActs_3 : ∃ (s : State) (len : BitVec 11) (h : HItem) (hs : List HItem) (o : OpenFrame), awake s =
    true ∧ len.toNat ≤ 1012 ∧ s.dic.hq = h :: hs ∧ s.dic.cur = some o ∧ 2 ≤ o.left :=
  ⟨{ State.reset with dev := .serving, dic := { State.reset.dic with hq := [{ kind := 1, index := 0x5000, sub := 1, hnum := 3, session := 7, value := 0, len := 0, offset := 0, data := [], arrived := 0, pos := 0 }, { kind := 1, index := 0x5000, sub := 1, hnum := 3, session := 7, value := 0, len := 0, offset := 0, data := [], arrived := 0, pos := 0 }], cur := some { session := 7, seq := 1, tag := [], kind := 5, all := false, checking := false, items := [], answers := [], left := 2 } } },
    8,
    { kind := 1, index := 0x5000, sub := 1, hnum := 3, session := 7, value := 0, len := 0, offset := 0, data := [], arrived := 0, pos := 0 },
    [{ kind := 1, index := 0x5000, sub := 1, hnum := 3, session := 7, value := 0, len := 0, offset := 0, data := [], arrived := 0, pos := 0 }],
    { session := 7, seq := 1, tag := [], kind := 5, all := false, checking := false, items := [], answers := [], left := 2 },
    by decide, by decide, by decide, by decide, by decide⟩
theorem guard_DictionaryServiceActs_4 : ∃ (s : State) (h : HItem) (hs : List HItem) (o : OpenFrame), awake s = true ∧ s.dic.hq = h
    :: hs ∧ s.dic.cur = some o ∧ 2 ≤ o.left :=
  ⟨{ State.reset with dev := .serving, dic := { State.reset.dic with hq := [{ kind := 1, index := 0x5000, sub := 1, hnum := 3, session := 7, value := 0, len := 0, offset := 0, data := [], arrived := 0, pos := 0 }, { kind := 1, index := 0x5000, sub := 1, hnum := 3, session := 7, value := 0, len := 0, offset := 0, data := [], arrived := 0, pos := 0 }], cur := some { session := 7, seq := 1, tag := [], kind := 5, all := false, checking := false, items := [], answers := [], left := 2 } } },
    { kind := 1, index := 0x5000, sub := 1, hnum := 3, session := 7, value := 0, len := 0, offset := 0, data := [], arrived := 0, pos := 0 },
    [{ kind := 1, index := 0x5000, sub := 1, hnum := 3, session := 7, value := 0, len := 0, offset := 0, data := [], arrived := 0, pos := 0 }],
    { session := 7, seq := 1, tag := [], kind := 5, all := false, checking := false, items := [], answers := [], left := 2 },
    by decide, by decide, by decide, by decide⟩
theorem guard_DictionaryServiceActs_5 : ∃ (s : State), awake s = true ∧ s.dic.cur = none ∧ s.dic.extPend = [] :=
  ⟨{ State.reset with dev := .serving, rst := { State.reset.rst with held := false } }, by decide, by decide, by decide⟩
theorem guard_DictionaryServiceActs_6 : ∃ (s : State), awake s = true ∧ s.dic.cur = none :=
  ⟨{ State.reset with dev := .serving, rst := { State.reset.rst with held := false } }, by decide, by decide⟩
theorem guard_DictionaryServiceActs_7 : ∃ (s : State), awake s = true ∧ s.dic.cur.isSome = true :=
  ⟨{ State.reset with dev := .serving, dic := { State.reset.dic with hq := [{ kind := 1, index := 0x5000, sub := 1, hnum := 3, session := 7, value := 0, len := 0, offset := 0, data := [], arrived := 0, pos := 0 }, { kind := 1, index := 0x5000, sub := 1, hnum := 3, session := 7, value := 0, len := 0, offset := 0, data := [], arrived := 0, pos := 0 }], cur := some { session := 7, seq := 1, tag := [], kind := 5, all := false, checking := false, items := [], answers := [], left := 2 } } },
    by decide, by decide⟩
theorem guard_DictionaryServiceActs_8 : ∃ (s : State), awake s = true :=
  ⟨{ State.reset with dev := .serving, rst := { State.reset.rst with held := false } }, by decide⟩
theorem guard_DictionaryServiceActs_9 : ∃ (s : State), awake s = true :=
  ⟨{ State.reset with dev := .serving, rst := { State.reset.rst with held := false } }, by decide⟩
theorem guard_DictionaryServiceActs_10 : ∃ (s : State), awake s = true :=
  ⟨{ State.reset with dev := .serving, rst := { State.reset.rst with held := false } }, by decide⟩
theorem guard_ControlSpaceActs_0 : ∃ (s : State) (block : Fin 58), awake s = true ∧ s.on R.BLKSTAT_ISOLATED 0 block = false ∧
    s.running block = false ∧ startRefusal s block = none ∧ block.val ≠ 18 ∧ block.val ≠ 23 ∧ block.val ≠ 24 ∧ block.val ≠ 25 ∧
    (block.val < 34 ∨ 42 ≤ block.val) :=
  ⟨{ State.reset with dev := .serving, rst := { State.reset.rst with held := false } }, 20, by decide, by decide, by decide,
    by decide, by decide, by decide, by decide, by decide, by decide⟩
theorem guard_ControlSpaceActs_1 : ∃ (s : State) (block : Fin 58), awake s = true ∧ s.on R.BLKSTAT_ISOLATED 0 block = false ∧
    s.running block = false ∧ startRefusal s block = none ∧ 34 ≤ block.val ∧ block.val ≤ 41 :=
  ⟨{ State.reset with dev := .serving, rst := { State.reset.rst with held := false } }, 36, by decide, by decide, by decide,
    by decide, by decide, by decide⟩
theorem guard_ControlSpaceActs_2 : ∃ (s : State), awake s = true ∧ s.on R.BLKSTAT_ISOLATED 0 23 = false ∧ s.running 23 = false ∧
    startRefusal s 23 = none :=
  ⟨((State.reset.wr R.TIE_DATABASE_DATABASE 4194304 |>.wr R.TIE_CHGBASE_BASE 100 |>.wr R.TIE_CHGSIZE_SIZE 1000000) |> fun s =>
    { s with dev := .serving, rst := { s.rst with held := false } }), by decide, by decide, by decide, by decide⟩
theorem guard_ControlSpaceActs_3 : ∃ (s : State), awake s = true ∧ s.on R.BLKSTAT_ISOLATED 0 25 = false ∧ s.running 25 = false ∧
    startRefusal s 25 = none :=
  ⟨((State.reset.wr R.TRN_PSPACE_PEXT 16 |>.wr R.TRN_DGROUPS_DGROUPS 4096 |>.wr R.STF_GEOM_BPDM1 1023 |>.wr R.STF_GEOM_PPB 96) |>
    fun s => { s with dev := .serving, rst := { s.rst with held := false } }), by decide, by decide, by decide, by decide⟩
theorem guard_ControlSpaceActs_4 : ∃ (s : State), awake s = true ∧ s.on R.BLKSTAT_ISOLATED 0 24 = false ∧ s.running 24 = false ∧
    logGroups s ≤ s.rd R.TWN_LOGSIZE_LOGSIZE :=
  ⟨((State.reset.wr R.TWN_LOGSIZE_LOGSIZE 100) |> fun s => { s with dev := .serving, rst := { s.rst with held := false } }),
    by decide, by decide, by decide, by decide⟩
theorem guard_ControlSpaceActs_5 : ∃ (s : State), awake s = true ∧ s.on R.BLKSTAT_ISOLATED 0 18 = false ∧ s.running 18 = false ∧
    startRefusal s 18 = none ∧ s.rd R.XTS_STAT_LANEFAIL = 0 :=
  ⟨((State.reset.wr R.STF_GEOM_BPDM1 1023 |>.wr R.STF_GEOM_PPB 96) |> fun s =>
    { s with dev := .serving, rst := { s.rst with held := false } }), by decide, by decide, by decide, by decide, by decide⟩
theorem guard_ControlSpaceActs_6 : ∃ (s : State) (block : Fin 58), awake s = true ∧ s.on R.BLKSTAT_ISOLATED 0 block = false ∧
    s.running block = true :=
  ⟨((State.reset.wr R.BLKSTAT_RUNNING 1 0 19) |> fun s => { s with dev := .serving, rst := { s.rst with held := false } }), 19,
    by decide, by decide, by decide⟩
theorem guard_ControlSpaceActs_7 : ∃ (s : State) (block : Fin 58), s.dev = .serving ∧ s.on R.BLKSTAT_ISOLATED 0 block = false ∧
    mainRoad block = true :=
  ⟨{ State.reset with dev := .serving, rst := { State.reset.rst with held := false } }, 30, by decide, by decide, by decide⟩
theorem guard_ControlSpaceActs_8 : ∃ (s : State) (block : Fin 58), awake s = true ∧ s.on R.BLKSTAT_ISOLATED 0 block = false ∧
    s.dev ≠ .serving ∧ s.running block = true ∧ blockBusy s block = true :=
  ⟨(State.reset.wr R.BLKSTAT_RUNNING 1 0 17 |> fun s =>
    { s with dev := .rising, rst := { s.rst with held := false }, kpf := { s.kpf with busy := true } }), 17, by decide, by decide,
    by decide, by decide, by decide⟩
theorem guard_ControlSpaceActs_9 : ∃ (s : State) (block : Fin 58), awake s = true ∧ s.on R.BLKSTAT_ISOLATED 0 block = false ∧
    (s.dev ≠ .serving ∨ mainRoad block = false) ∧ blockBusy s block = false ∧ s.rf.shadow = [] ∧ s.gai.change = none ∧ (block.val
    < 26 ∨ 42 ≤ block.val ∨ 30 ≤ block.val ∧ block.val ≤ 33) :=
  ⟨{ State.reset with dev := .serving, rst := { State.reset.rst with held := false } }, 20, by decide, by decide, by decide,
    by decide, by decide, by decide, by decide⟩
theorem guard_ControlSpaceActs_10 : ∃ (s : State) (block : Fin 58) (F : Fld) (i b v : Nat), awake s = true ∧ s.on
    R.BLKSTAT_ISOLATED 0 block = false ∧ block.val ≠ 12 ∧ block.val ≠ 0 ∧ block.val ≠ 23 ∧ s.running block = true ∧ Sparse.wf
    s.rf.group = true ∧ keyBlock (F.key i b) = block ∧ s.rf.group.find? (F.key i b) = some v :=
  ⟨((State.reset.wr R.BLKSTAT_RUNNING 1 0 45) |> fun s =>
    { s with dev := .serving, rst := { s.rst with held := false }, rf := { s.rf with group := [(R.DRC_WRDLY.key 2 3, 77)] } }),
    45, R.DRC_WRDLY, 2, 3, 77, by decide, by decide, by decide, by decide, by decide, by decide, by decide, by decide, by decide⟩
theorem guard_ControlSpaceActs_11 : ∃ (s : State) (block : Fin 58) (F : Fld) (i b v : Nat), awake s = true ∧ s.on
    R.BLKSTAT_ISOLATED 0 block = false ∧ block.val ≠ 12 ∧ block.val ≠ 0 ∧ block.val ≠ 23 ∧ s.running block = false ∧ Sparse.wf
    s.rf.group = true ∧ Sparse.wf s.rf.shadow = true ∧ keyBlock (F.key i b) = block ∧ 0x40 ≤ F.key i b / 32 % 1048576 ∧
    s.rf.group.find? (F.key i b) = some v :=
  ⟨(State.reset |> fun s =>
    { s with dev := .rising, rst := { s.rst with held := false }, rf := { s.rf with group := [(R.DRC_WRDLY.key 2 3, 77)] } }), 45,
    R.DRC_WRDLY, 2, 3, 77, by decide, by decide, by decide, by decide, by decide, by decide, by decide, by decide, by decide,
    by decide, by decide⟩
theorem guard_ControlSpaceActs_12 : ∃ (s : State), awake s = true ∧ s.on R.BLKSTAT_ISOLATED 0 12 = false :=
  ⟨{ State.reset with dev := .serving, rst := { State.reset.rst with held := false } }, by decide, by decide⟩
theorem guard_ControlSpaceActs_13 : ∃ (s : State), awake s = true ∧ s.on R.BLKSTAT_ISOLATED 0 0 = false :=
  ⟨{ State.reset with dev := .serving, rst := { State.reset.rst with held := false } }, by decide, by decide⟩
theorem guard_ControlSpaceActs_14 : ∃ (s : State) (addr : Nat), awake s = true ∧ s.rst.held = false ∧ addr % 4 ≠ 0 :=
  ⟨{ State.reset with dev := .serving, rst := { State.reset.rst with held := false } }, 1, by decide, by decide, by decide⟩
theorem guard_ControlSpaceActs_15 : ∃ (s : State) (addr : Nat), awake s = true ∧ s.rst.held = false ∧ addr % 4 = 0 ∧ 0x08000000 ≤
    addr ∧ addr < 0x08400000 :=
  ⟨{ State.reset with dev := .serving, rst := { State.reset.rst with held := false } }, 0x08000010, by decide, by decide, by decide,
    by decide, by decide⟩
theorem guard_ControlSpaceActs_16 : ∃ (s : State) (addr n off i : Nat) (v : BitVec 32) (F : Fld), awake s = true ∧ s.rst.held =
    false ∧ addr = 0x40000000 + 0x100000 * n + off ∧ off % 4 = 0 ∧ off < 0x100000 ∧ n ∈ [2, 3, 8, 10, 14, 15, 19, 20, 21, 22] ∧
    off ≠ 4 ∧ wordMapped n off = true ∧ s.on R.BLKSTAT_ISOLATED 0 n = false ∧ wordTaken s n off v.toNat = [(F, i)] ∧ (F.app =
    .live ∨ F.app = .quiet ∧ F.grp = false ∧ wordRuns s n (F.offset i) = false ∧ mayTake s (F.key i (copyOf F n)) = true) :=
  ⟨((State.reset) |> fun s => { s with dev := .serving, rst := { s.rst with held := false } }), _, 21, 0x44, 0, 0x700,
    R.GOV_CAP_CAP, by decide, by decide, rfl, by decide, by decide, by decide, by decide, by decide, by decide, rfl, by decide⟩
theorem guard_ControlSpaceActs_17 : ∃ (s : State) (addr n off i : Nat) (v : BitVec 32) (F : Fld), awake s = true ∧ s.rst.held =
    false ∧ addr = 0x40000000 + 0x100000 * n + off ∧ off % 4 = 0 ∧ off < 0x100000 ∧ n ∈ [2, 3, 8, 10, 14, 15, 19, 20, 21, 22] ∧
    off ≠ 4 ∧ wordMapped n off = true ∧ s.on R.BLKSTAT_ISOLATED 0 n = false ∧ wordTaken s n off v.toNat = [(F, i)] ∧ F.app =
    .quiet ∧ F.grp = false ∧ wordRuns s n (F.offset i) = true ∧ s.running n = true ∧ 0x40 ≤ F.key i (copyOf F n) / 32 % 1048576 :=
  ⟨((State.reset.wr R.BLKSTAT_RUNNING 1 0 21) |> fun s => { s with dev := .serving, rst := { s.rst with held := false } }), _, 21,
    0x44, 0, 0x700, R.GOV_CAP_CAP, by decide, by decide, rfl, by decide, by decide, by decide, by decide, by decide, by decide,
    rfl, by decide, by decide, by decide, by decide, by decide⟩
theorem guard_ControlSpaceActs_18 : ∃ (s : State) (addr : Nat), awake s = true ∧ s.rst.held = false ∧ addr % 4 = 0 ∧ 0x40000000 ≤
    addr ∧ addr < 0x48000000 ∧ wordMapped ((addr - 0x40000000) / 0x100000) (addr % 0x100000) = true ∧ s.on R.BLKSTAT_ISOLATED 0
    ((addr - 0x40000000) / 0x100000) = false :=
  ⟨{ State.reset with dev := .serving, rst := { State.reset.rst with held := false } }, 0x41700008, by decide, by decide, by decide,
    by decide, by decide, by decide, by decide⟩
theorem guard_ControlSpaceActs_19 : ∃ (s : State) (block : Fin 128), awake s = true ∧ s.rst.held = false ∧ 58 ≤ block.val :=
  ⟨{ State.reset with dev := .serving, rst := { State.reset.rst with held := false } }, 60, by decide, by decide, by decide⟩
theorem guard_ControlSpaceActs_20 : ∃ (s : State) (block : Fin 128) (off : Fin 4096) (b : Fin 8) (v : Bool) (o i : Nat) (F : Fld),
    awake s = true ∧ s.rst.held = false ∧ o = off.val / 4 * 4 ∧ block.val ∈ [2, 3, 8, 10, 14, 15, 19, 20, 21, 22] ∧ o ≠ 4 ∧ s.on
    R.BLKSTAT_ISOLATED 0 block = false ∧ gateWord block o = true ∧ fieldAt block o (8 * (off.val % 4) + b.val) = some (F, i) ∧
    F.acc = .rw ∧ F.app = .live ∧ F.offset i = o ∧ bitPut (aliasBase s F i (copyOf F block)) (8 * (off.val % 4) + b.val - F.lsb) v
    < 2 ^ F.wid ∧ F.lim.ok (bitPut (aliasBase s F i (copyOf F block)) (8 * (off.val % 4) + b.val - F.lsb) v) = true ∧ fieldOk s
    block o (fieldWord s block o F i (bitPut (aliasBase s F i (copyOf F block)) (8 * (off.val % 4) + b.val - F.lsb) v)) F i = true
    :=
  ⟨((State.reset) |> fun s => { s with dev := .serving, rst := { s.rst with held := false } }), 19, 0x47, 7, true, _, 0,
    R.GRM_ADAPT_FREEZE, by decide, by decide, rfl, by decide, by decide, by decide, by decide, rfl, by decide, by decide,
    by decide, by decide, by decide, by decide⟩
theorem guard_ControlSpaceActs_21 : ∃ (s : State), awake s = true :=
  ⟨{ State.reset with dev := .serving, rst := { State.reset.rst with held := false } }, by decide⟩
theorem guard_ControlSpaceActs_22 : ∃ (s : State), awake s = true :=
  ⟨{ State.reset with dev := .serving, rst := { State.reset.rst with held := false } }, by decide⟩
theorem guard_ControlSpaceActs_23 : ∃ (s : State), awake s = true :=
  ⟨{ State.reset with dev := .serving, rst := { State.reset.rst with held := false } }, by decide⟩
theorem guard_HostDoorsAct_0 : ∃ (s : State), awake s = true ∧ s.pci.perst = false ∧ s.pci.busy = false ∧ s.rd R.PCI_STAT_DSTATE ≠
    3 :=
  ⟨{ State.reset with dev := .serving }, by decide, by decide, by decide, by decide⟩
theorem guard_HostDoorsAct_1 : ∃ (s : State) (a b : Note) (r : List Note), awake s = true ∧ s.pci.perst = false ∧ s.recd.notes = a
    :: b :: r :=
  ⟨{ State.reset with dev := .serving, recd := { State.reset.recd with notes := [{ session := 1, frame := [] }, { session := 1, frame := [] }] } },
    { session := 1, frame := [] }, { session := 1, frame := [] }, [], by decide, by decide, by decide⟩
theorem guard_HostDoorsAct_2 : ∃ (s : State), awake s = true :=
  ⟨{ State.reset with dev := .serving }, by decide⟩
theorem guard_HostDoorsAct_3 : ∃ (s : State), awake s = true ∧ s.pci.perst = false :=
  ⟨{ State.reset with dev := .serving }, by decide, by decide⟩
theorem guard_HostDoorsAct_4 : ∃ (s : State), awake s = true ∧ s.on R.MGT_CFG_ENABLE = true ∧ vlanOk s none = true ∧ s.rd
    R.MGT_IP4_ADDR ≠ 0 ∧ echoAllowed s 16 100 = true :=
  ⟨{ (State.reset.wr R.MGT_CFG_ENABLE 1).wr R.MGT_IP4_ADDR 0xC0A80001 with dev := .serving }, by decide, by decide, by decide,
    by decide, by decide⟩
theorem guard_HostDoorsAct_5 : ∃ (s : State), awake s = true ∧ s.on R.MGT_CFG_ENABLE = false :=
  ⟨{ State.reset.wr R.MGT_CFG_ENABLE 0 with dev := .serving }, by decide, by decide⟩
theorem guard_HostDoorsAct_6 : ∃ (s : State), awake s = true ∧ s.mdio = none :=
  ⟨{ State.reset with dev := .serving }, by decide, by decide⟩
theorem guard_HostDoorsAct_7 : ∃ (s : State) (op eid : Nat), awake s = true ∧ s.on R.MGT_CFG_SMBEN = true ∧ op ≤ 1 ∧ 0 < eid ∧ eid
    < 255 :=
  ⟨{ State.reset.wr R.MGT_CFG_SMBEN 1 with dev := .serving }, 0, 9, by decide, by decide, by decide, by decide, by decide⟩
theorem guard_MapCommandsAct_0 : ∃ (s : State) (sess : Nat), awake s = true ∧ (cmdStat s (cmdKey (ekey 0x2110 9) sess)).state ≠ 1
    ∧ s.cpx.entry = none :=
  ⟨{ State.reset with dev := .serving }, 7, by decide, by decide, by decide⟩
theorem guard_MapCommandsAct_1 : ∃ (s : State) (sess i : Nat) (r : Region), awake s = true ∧ (cmdStat s (cmdKey (ekey 0x2110 9)
    sess)).state ≠ 1 ∧ fwUp s = true ∧ drbgOk s = true ∧ mapLead s = true ∧ sendsMaps s = false ∧ r = registrationOf (regValues s)
    ∧ regRefusal s r = 0 ∧ i = (takeIndex s).2 :=
  ⟨((State.reset.wr R.TRN_PSPACE_PEXT 16) |> fun s =>
    { s with dev := .serving, cpx := { s.cpx with entry := some 0 }, dic := { s.dic with ent := [(ekey 0x2110 2, 4096)] } }), 7,
    _, _, by decide, by decide, by decide, by decide, by decide, by decide, rfl, by decide, rfl⟩
theorem guard_MapCommandsAct_2 : ∃ (s : State) (sess k : Nat), awake s = true ∧ (cmdStat s (cmdKey (ekey 0x2111 1) sess)).state ≠
    1 ∧ fwUp s = true ∧ mapLead s = true ∧ sendsMaps s = false ∧ k < 2 ^ 32 ∧ rkeyLive s k = true :=
  ⟨{ State.reset with dev := .serving, cpx := { State.reset.cpx with entry := some 0 }, maps := { State.reset.maps with regions := [(3, { state := 1, lenpages := 1 })] } },
    7, 3 * 1024, by decide, by decide, by decide, by decide, by decide, by decide, by decide⟩
theorem guard_MapCommandsAct_3 : ∃ (s : State) (sess : Nat) (u : State), awake s = true ∧ (cmdStat s (cmdKey (ekey 0x2111 4)
    sess)).state ≠ 1 ∧ fwUp s = true ∧ mapLead s = true ∧ sendsMaps s = false ∧ u = cmdRun s (cmdKey (ekey 0x2111 4) sess) ∧
    deallocRefusal u (ent s (ekey 0x2111 2) 0) (ent s (ekey 0x2111 3) 0) = 0 ∧ deallocWaits u (ent s (ekey 0x2111 2) 0) (ent s
    (ekey 0x2111 3) 0) = false :=
  ⟨{ State.reset with dev := .serving, cpx := { State.reset.cpx with entry := some 0 } }, 7, _, by decide, by decide, by decide,
    by decide, by decide, rfl, by decide, by decide⟩
theorem guard_MapCommandsAct_4 : ∃ (s : State) (i : Fin 16384), awake s = true ∧ (regionAt s i).state = 2 ∧ s.trn.inflight.get i 0
    = 0 :=
  ⟨{ State.reset with dev := .serving, maps := { State.reset.maps with regions := [(3, { state := 2, lenpages := 1 })] } }, 3,
    by decide, by decide, by decide⟩
theorem guard_TranslationCommandsAct_0 : ∃ (s : State), awake s = true ∧ s.running 25 = true ∧ (s.rd R.TRN_UPDADDRL_ADDR * 8 +
    s.rd R.TRN_UPDADDRH_ADDR * 2 ^ 32) % (8 * 2 ^ s.rd R.TRN_UPDCTL_SIZE) ≠ 0 :=
  ⟨(State.reset.wr R.BLKSTAT_RUNNING 1 0 25 |>.wr R.TRN_UPDADDRL_ADDR 1 |>.wr R.TRN_UPDCTL_SIZE 2 |> fun s =>
    { s with dev := .serving }), by decide, by decide, by decide⟩
theorem guard_TranslationCommandsAct_1 : ∃ (s : State), awake s = true ∧ s.running 25 = true ∧ (s.rd R.TRN_UPDADDRL_ADDR * 8 +
    s.rd R.TRN_UPDADDRH_ADDR * 2 ^ 32) % (8 * 2 ^ s.rd R.TRN_UPDCTL_SIZE) = 0 ∧ s.rd R.TRN_UPDADDRL_ADDR * 8 + s.rd
    R.TRN_UPDADDRH_ADDR * 2 ^ 32 + 8 * 2 ^ s.rd R.TRN_UPDCTL_SIZE ≤ mapEnd s * 2097152 :=
  ⟨(State.reset.wr R.BLKSTAT_RUNNING 1 0 25 |>.wr R.TRN_MAPSTAT_MAPEND 16 |> fun s => { s with dev := .serving }), by decide,
    by decide, by decide, by decide⟩
theorem guard_TranslationCommandsAct_2 : ∃ (s : State), s.trn.updq = [.port] ∧ s.trn.held = [] ∧ s.tie.waiting = [] ∧ awake s =
    true :=
  ⟨{ State.reset with dev := .serving, trn := { State.reset.trn with updq := [.port] } }, by decide, by decide, by decide,
    by decide⟩
theorem guard_TranslationCommandsAct_3 : ∃ (s : State), awake s = true :=
  ⟨{ State.reset with dev := .serving }, by decide⟩
theorem guard_TranslationCommandsAct_4 : ∃ (s : State), awake s = true :=
  ⟨{ State.reset with dev := .serving }, by decide⟩
theorem guard_TranslationCommandsAct_5 : ∃ (s : State), awake s = true :=
  ⟨{ State.reset with dev := .serving }, by decide⟩
theorem guard_TranslationCommandsAct_6 : ∃ (s : State) (e : Nat) (f : Fill), s.trn.fills.find? (fun f => f.extent / 2 = e / 2) =
    some f ∧ f.dropped = true :=
  ⟨{ State.reset with trn := { State.reset.trn with fills := [{ extent := 4, streaming := false, dropped := true }] } }, 4,
    { extent := 4, streaming := false, dropped := true }, by decide, by decide⟩
theorem guard_TranslationCommandsAct_7 : ∃ (s : State) (e : Nat) (f : Fill), s.trn.fills.find? (fun f => f.extent / 2 = e / 2) =
    some f ∧ f.dropped = false ∧ f.stale = false :=
  ⟨{ State.reset with trn := { State.reset.trn with fills := [{ extent := 4, streaming := false }] } }, 4,
    { extent := 4, streaming := false }, by decide, by decide, by decide⟩
theorem guard_TranslationCommandsAct_8 : ∃ (s : State), awake s = true ∧ s.on R.TRN_AGE_FREEZE = false :=
  ⟨{ State.reset with dev := .serving }, by decide, by decide⟩
theorem guard_PacketsAndContextsAct_0 : ∃ (s : State) (lport : Nat) (k : Packet), s.dev = .serving ∧ portUp s lport = true ∧
    s.takes (30 + lport / 4) = true ∧ (k.fcsOk = false ∨ addressed s lport k = false ∨ k.roce = false) :=
  ⟨(((State.reset.wr R.BLKSTAT_RUNNING 1 0 30).wr R.PRT_IP4 1).wr R.PRT_LINKSTAT_UP 1 0 0 |> fun s => { s with dev := .serving }),
    0,
    { dstMac := portMac State.reset 0, dstIp := 1, fcsOk := false, roce := true, icrcOk := true, opcode := 4, dqp := 0x40003, pkey := 0, ce := false, psn := 0, ackReq := false, srcIp := 0, srcMac := 0, vid := 0, va := 0, rkey := 0, len := 0, swapAdd := 0, compare := 0, imm := 0, payload := [] },
    by decide, by decide, by decide, by decide⟩
theorem guard_PacketsAndContextsAct_1 : ∃ (s : State) (lport : Nat) (k : Packet), s.dev = .serving ∧ portUp s lport = true ∧
    s.takes (30 + lport / 4) = true ∧ k.fcsOk = true ∧ addressed s lport k = true ∧ k.roce = true ∧ k.icrcOk = false :=
  ⟨(((State.reset.wr R.BLKSTAT_RUNNING 1 0 30).wr R.PRT_IP4 1).wr R.PRT_LINKSTAT_UP 1 0 0 |> fun s => { s with dev := .serving }),
    0,
    { dstMac := portMac State.reset 0, dstIp := 1, fcsOk := true, roce := true, icrcOk := false, opcode := 4, dqp := 0x40003, pkey := 0, ce := false, psn := 0, ackReq := false, srcIp := 0, srcMac := 0, vid := 0, va := 0, rkey := 0, len := 0, swapAdd := 0, compare := 0, imm := 0, payload := [] },
    by decide, by decide, by decide, by decide, by decide, by decide, by decide⟩
theorem guard_PacketsAndContextsAct_2 : ∃ (s : State) (lport i : Nat) (k : Packet), s.dev = .serving ∧ portUp s lport = true ∧
    s.takes (30 + lport / 4) = true ∧ k.fcsOk = true ∧ addressed s lport k = true ∧ k.roce = true ∧ k.icrcOk = true ∧ k.opcode <
    0x0D ∧ k.dqp = 0x40000 + i ∧ i < 0x40000 ∧ s.xpt.cache.has i = true :=
  ⟨(((State.reset.wr R.BLKSTAT_RUNNING 1 0 30).wr R.PRT_IP4 1).wr R.PRT_LINKSTAT_UP 1 0 0 |> fun s =>
    { s with dev := .serving, xpt := { State.reset.xpt with cache := [(3, { port := 0, used := 0 })] } }), 0, 3,
    { dstMac := portMac State.reset 0, dstIp := 1, fcsOk := true, roce := true, icrcOk := true, opcode := 4, dqp := 0x40003, pkey := 0, ce := false, psn := 0, ackReq := false, srcIp := 0, srcMac := 0, vid := 0, va := 0, rkey := 0, len := 0, swapAdd := 0, compare := 0, imm := 0, payload := [] },
    by decide, by decide, by decide, by decide, by decide, by decide, by decide, by decide, by decide, by decide, by decide⟩
theorem guard_PacketsAndContextsAct_3 : ∃ (s : State) (lport i : Nat) (k : Packet), s.dev = .serving ∧ portUp s lport = true ∧
    s.takes (30 + lport / 4) = true ∧ k.fcsOk = true ∧ addressed s lport k = true ∧ k.roce = true ∧ k.icrcOk = true ∧ k.opcode <
    0x0D ∧ k.dqp = 0x40000 + i ∧ i < 0x40000 ∧ s.xpt.cache.has i = false :=
  ⟨(((State.reset.wr R.BLKSTAT_RUNNING 1 0 30).wr R.PRT_IP4 1).wr R.PRT_LINKSTAT_UP 1 0 0 |> fun s => { s with dev := .serving }),
    0, 3,
    { dstMac := portMac State.reset 0, dstIp := 1, fcsOk := true, roce := true, icrcOk := true, opcode := 4, dqp := 0x40003, pkey := 0, ce := false, psn := 0, ackReq := false, srcIp := 0, srcMac := 0, vid := 0, va := 0, rkey := 0, len := 0, swapAdd := 0, compare := 0, imm := 0, payload := [] },
    by decide, by decide, by decide, by decide, by decide, by decide, by decide, by decide, by decide, by decide, by decide⟩
theorem guard_PacketsAndContextsAct_4 : ∃ (s : State) (lport i : Nat) (k : Packet) (q : Qp), s.dev = .serving ∧ portUp s lport =
    true ∧ s.takes (30 + lport / 4) = true ∧ k.fcsOk = true ∧ addressed s lport k = true ∧ k.roce = true ∧ k.icrcOk = true ∧
    k.opcode = 4 ∧ k.dqp = 0x40000 + i ∧ i < 0x40000 ∧ s.xpt.cache.has i = true ∧ q = qpAt s i ∧ q.lport = lport ∧ serves q = true
    ∧ k.pkey = q.pkey ∧ k.ce = false ∧ k.psn = q.epsn ∧ reqsOf s i = [] ∧ q.msg = 0 ∧ k.payload.length ≤ mtu q ∧ q.sendBuf.length
    + k.payload.length ≤ 4096 ∧ q.cmdch = true ∧ ringFree q ≠ 0 ∧ admitBytes s (lport / 4) + (mkReq s i lport q k .send).bytes ≤
    1048576 :=
  ⟨(((State.reset.wr R.BLKSTAT_RUNNING 1 0 30).wr R.PRT_IP4 1).wr R.PRT_LINKSTAT_UP 1 0 0 |> fun s =>
    { s with dev := .serving, xpt := { s.xpt with cache := [(3, { port := 0, used := 0 })], qps := [(3, { qstate := 2, lport := 0, pmtu := 1, pkey := 0xFFFF, cmdch := true, ringslots := 16, ringframe := 512, epsn := 9, destqp := 7 })] } }),
    0, 3,
    { dstMac := portMac State.reset 0, dstIp := 1, fcsOk := true, roce := true, icrcOk := true, opcode := 4, dqp := 0x40003, pkey := 0xFFFF, ce := false, psn := 9, ackReq := true, srcIp := 0, srcMac := 0, vid := 0, va := 0, rkey := 0, len := 0, swapAdd := 0, compare := 0, imm := 0, payload := [1, 2] },
    _, by decide, by decide, by decide, by decide, by decide, by decide, by decide, by decide, by decide, by decide, by decide,
    rfl, by decide, by decide, by decide, by decide, by decide, by decide, by decide, by decide, by decide, by decide, by decide,
    by decide⟩
theorem guard_PacketsAndContextsAct_5 : ∃ (s : State) (i : Nat) (f : Fetch), s.xpt.fetches.find? i = some f ∧ cacheRoom s f.port =
    true ∧ s.rd R.XPT_CTXCFG_LOC ≠ 2 ∧ (s.rd R.XPT_CTXCFG_LOC = 0 ∨ s.rd R.TIE_STAT_HSTATE = 1) :=
  ⟨{ State.reset with dev := .serving, xpt := { State.reset.xpt with fetches := [(3, { port := 0, start := 0, low := false })] } },
    3, { port := 0, start := 0, low := false }, by decide, by decide, by decide, by decide⟩
theorem guard_PacketsAndContextsAct_6 : ∃ (s : State) (i : Nat) (f : Fetch), s.xpt.fetches.find? i = some f ∧ cacheRoom s f.port =
    true ∧ s.rd R.XPT_CTXCFG_LOC = 0 ∧ s.xpt.held = [] ∧ s.xpt.cnpList = [] ∧ replaceable s f.port = none :=
  ⟨{ State.reset with dev := .serving, xpt := { State.reset.xpt with fetches := [(3, { port := 0, start := 0, low := false })] } },
    3, { port := 0, start := 0, low := false }, by decide, by decide, by decide, by decide, by decide, by decide⟩
theorem guard_PacketsAndContextsAct_7 : ∃ (s : State) (i : Nat) (f : Fetch), s.xpt.fetches.find? i = some f ∧ s.rd
    R.XPT_CTXCFG_LOC = 1 ∧ s.xpt.held = [] ∧ s.xpt.cnpList = [] :=
  ⟨((State.reset.wr R.XPT_CTXCFG_LOC 1) |> fun s =>
    { s with dev := .serving, xpt := { s.xpt with fetches := [(3, { port := 0, start := 0, low := false })] } }), 3,
    { port := 0, start := 0, low := false }, by decide, by decide, by decide, by decide⟩
theorem guard_PacketsAndContextsAct_8 : ∃ (s : State) (p : Fin 4) (i : Nat), s.xpt.cnpList.any (fun e => e.1 = p.val ∧ e.2.1 = i)
    = true ∧ s.xpt.fetches = [] :=
  ⟨{ State.reset with dev := .serving, xpt := { State.reset.xpt with cnpList := [(1, 3, 0)] } }, 1, 3, by decide, by decide⟩
theorem guard_PacketsAndContextsAct_9 : ∃ (s : State) (p : Fin 4) (i : Nat), s.xpt.cnpList.any (fun e => e.1 = p.val ∧ e.2.1 = i)
    = true :=
  ⟨{ State.reset with dev := .serving, xpt := { State.reset.xpt with cnpList := [(1, 3, 0)] } }, 1, 3, by decide⟩
theorem guard_PacketsAndContextsAct_10 : ∃ (s : State) (i : Nat) (h : HeldPkt), s.xpt.moving = [h] ∧ h.qp = i ∧ reqsOf s i = [] :=
  ⟨{ State.reset with dev := .serving, xpt := { State.reset.xpt with moving := [{ lport := 0, qp := 3, bytes := 0, pkt := { dstMac := portMac State.reset 0, dstIp := 1, fcsOk := true, roce := true, icrcOk := true, opcode := 4, dqp := 0x40003, pkey := 0, ce := false, psn := 0, ackReq := false, srcIp := 0, srcMac := 0, vid := 0, va := 0, rkey := 0, len := 0, swapAdd := 0, compare := 0, imm := 0, payload := [] } }] } },
    3,
    { lport := 0, qp := 3, bytes := 0, pkt := { dstMac := portMac State.reset 0, dstIp := 1, fcsOk := true, roce := true, icrcOk := true, opcode := 4, dqp := 0x40003, pkey := 0, ce := false, psn := 0, ackReq := false, srcIp := 0, srcMac := 0, vid := 0, va := 0, rkey := 0, len := 0, swapAdd := 0, compare := 0, imm := 0, payload := [] } },
    by decide, by decide, by decide⟩
theorem guard_RequestStagesAct_0 : ∃ (s : State) (id : Nat) (r : Req), reqAt s id = some r ∧ r.stage = .admitting ∧ servesHosts s
    = true ∧ behind s r = false ∧ r.kind = .send ∧ r.returned = false ∧ r.needs = 0 :=
  ⟨((State.reset.wr R.TWN_STATE_TSTATE 3) |> fun s =>
    { s with dev := .serving, rst := { s.rst with held := false }, xpt := { s.xpt with reqs := [{ id := 5, qp := 3, lport := 0, psn := 0, npsn := 1, kind := .send, rkey := 0, va := 0, len := 0, payload := [], compare := 0, swapAdd := 0, ackReq := true, last := false, imm := none, stage := .admitting }] } }),
    5,
    { id := 5, qp := 3, lport := 0, psn := 0, npsn := 1, kind := .send, rkey := 0, va := 0, len := 0, payload := [], compare := 0, swapAdd := 0, ackReq := true, last := false, imm := none, stage := .admitting },
    by decide, by decide, by decide, by decide, by decide, by decide, by decide⟩
theorem guard_RequestStagesAct_1 : ∃ (s : State) (id : Nat) (r : Req), reqAt s id = some r ∧ r.stage = .admitting ∧ servesHosts s
    = true ∧ behind s r = false ∧ r.kind = .write ∧ r.returned = false ∧ between s r.qp < win s (pipeOf r.lport) ∧ r.tokens = 0 ∧
    hostTokens s r.needs = true :=
  ⟨((State.reset.wr R.TWN_STATE_TSTATE 3 |>.wr R.XPT_REINSTAT_WIN 8) |> fun s =>
    { s with dev := .serving, rst := { s.rst with held := false }, xpt := { s.xpt with reqs := [{ id := 5, qp := 3, lport := 0, psn := 0, npsn := 1, kind := .write, rkey := 0, va := 0, len := 0, payload := [], compare := 0, swapAdd := 0, ackReq := true, last := false, imm := none, stage := .admitting }] }, gov := { s.gov with limit := 2 ^ 40 } }),
    5,
    { id := 5, qp := 3, lport := 0, psn := 0, npsn := 1, kind := .write, rkey := 0, va := 0, len := 0, payload := [], compare := 0, swapAdd := 0, ackReq := true, last := false, imm := none, stage := .admitting },
    by decide, by decide, by decide, by decide, by decide, by decide, by decide, by decide, by decide⟩
theorem guard_RequestStagesAct_2 : ∃ (s : State) (id c : Nat) (r : Req), reqAt s id = some r ∧ r.stage = .translate ∧ r.passed =
    false ∧ badEntry s (regAddr (bits r.rkey 10 14)) = false ∧ accessCause s (qpAt s r.qp).tenant r.rkey r.va r.len r.kind = c ∧ c
    ≠ 0 :=
  ⟨((State.reset.wr R.TWN_STATE_TSTATE 3) |> fun s =>
    { s with dev := .serving, rst := { s.rst with held := false }, xpt := { s.xpt with reqs := [{ id := 5, qp := 3, lport := 0, psn := 0, npsn := 1, kind := .read, rkey := 0, va := 0, len := 0, payload := [], compare := 0, swapAdd := 0, ackReq := true, last := false, imm := none, stage := .translate }] } }),
    5, 1,
    { id := 5, qp := 3, lport := 0, psn := 0, npsn := 1, kind := .read, rkey := 0, va := 0, len := 0, payload := [], compare := 0, swapAdd := 0, ackReq := true, last := false, imm := none, stage := .translate },
    by decide, by decide, by decide, by decide, by decide, by decide⟩
theorem guard_RequestStagesAct_3 : ∃ (s : State) (id : Nat) (r : Req), reqAt s id = some r ∧ r.stage = .translate ∧ r.passed =
    false ∧ badEntry s (regAddr (bits r.rkey 10 14)) = false ∧ accessCause s (qpAt s r.qp).tenant r.rkey r.va r.len r.kind = 0 ∧
    r.kind = .flush :=
  ⟨((State.reset.wr R.TWN_STATE_TSTATE 3) |> fun s =>
    { s with dev := .serving, rst := { s.rst with held := false }, xpt := { s.xpt with reqs := [{ id := 5, qp := 3, lport := 0, psn := 0, npsn := 1, kind := .flush, rkey := 0, va := 0, len := 0, payload := [], compare := 0, swapAdd := 0, ackReq := true, last := false, imm := none, stage := .translate }] }, maps := { s.maps with regions := [(0, { state := 1, rwrite := true, rread := true })] } }),
    5,
    { id := 5, qp := 3, lport := 0, psn := 0, npsn := 1, kind := .flush, rkey := 0, va := 0, len := 0, payload := [], compare := 0, swapAdd := 0, ackReq := true, last := false, imm := none, stage := .translate },
    by decide, by decide, by decide, by decide, by decide, by decide⟩
theorem guard_RequestStagesAct_4 : ∃ (s : State) (id : Nat) (r : Req) (x : Part), reqAt s id = some r ∧ r.stage = .translate ∧
    r.passed = false ∧ badEntry s (regAddr (bits r.rkey 10 14)) = false ∧ accessCause s (qpAt s r.qp).tenant r.rkey r.va r.len
    r.kind = 0 ∧ r.kind ≠ .flush ∧ readParts (r.len / 4096 + 2) ((regionAt s (bits r.rkey 10 14)).sapage * 4096 + (r.va -
    (regionAt s (bits r.rkey 10 14)).vabase)) r.len 0 = [x] ∧ (l1Find s (pipeOf r.lport) (x.spage / 512)).isSome = true :=
  ⟨((State.reset.wr R.TWN_STATE_TSTATE 3) |> fun s =>
    { s with dev := .serving, rst := { s.rst with held := false }, xpt := { s.xpt with reqs := [{ id := 5, qp := 3, lport := 0, psn := 0, npsn := 1, kind := .read, rkey := 0, va := 0, len := 16, payload := [], compare := 0, swapAdd := 0, ackReq := true, last := false, imm := none, stage := .translate }] }, maps := { s.maps with regions := [(0, { state := 1, rread := true, lenpages := 1 })] }, trn := { s.trn with l1 := [(0, { extent := 0, ref := false })] } }),
    5,
    { id := 5, qp := 3, lport := 0, psn := 0, npsn := 1, kind := .read, rkey := 0, va := 0, len := 16, payload := [], compare := 0, swapAdd := 0, ackReq := true, last := false, imm := none, stage := .translate },
    { spage := 0, off := 0, len := 16, src := 0 }, by decide +kernel, by decide +kernel, by decide +kernel, by decide +kernel,
    by decide +kernel, by decide +kernel, by decide +kernel, by decide +kernel⟩
theorem guard_RequestStagesAct_5 : ∃ (s : State) (id : Nat) (r : Req), reqAt s id = some r ∧ r.stage = .place ∧ heldByWrite s r =
    false ∧ r.mst = false ∧ r.kind = .send ∧ r.last = false :=
  ⟨((State.reset.wr R.TWN_STATE_TSTATE 3) |> fun s =>
    { s with dev := .serving, rst := { s.rst with held := false }, xpt := { s.xpt with reqs := [{ id := 5, qp := 3, lport := 0, psn := 0, npsn := 1, kind := .send, rkey := 0, va := 0, len := 0, payload := [], compare := 0, swapAdd := 0, ackReq := true, last := false, imm := none, stage := .place }] } }),
    5,
    { id := 5, qp := 3, lport := 0, psn := 0, npsn := 1, kind := .send, rkey := 0, va := 0, len := 0, payload := [], compare := 0, swapAdd := 0, ackReq := true, last := false, imm := none, stage := .place },
    by decide, by decide, by decide, by decide, by decide, by decide⟩
theorem guard_RequestStagesAct_6 : ∃ (s : State) (id : Nat) (r : Req), reqAt s id = some r ∧ r.stage = .place ∧ heldByWrite s r =
    false ∧ r.mst = false ∧ r.kind = .send ∧ r.last = true :=
  ⟨((State.reset.wr R.TWN_STATE_TSTATE 3) |> fun s =>
    { s with dev := .serving, rst := { s.rst with held := false }, xpt := { s.xpt with reqs := [{ id := 5, qp := 3, lport := 0, psn := 0, npsn := 1, kind := .send, rkey := 0, va := 0, len := 0, payload := [], compare := 0, swapAdd := 0, ackReq := true, last := true, imm := none, stage := .place }] } }),
    5,
    { id := 5, qp := 3, lport := 0, psn := 0, npsn := 1, kind := .send, rkey := 0, va := 0, len := 0, payload := [], compare := 0, swapAdd := 0, ackReq := true, last := true, imm := none, stage := .place },
    by decide, by decide, by decide, by decide, by decide, by decide⟩
theorem guard_RequestStagesAct_7 : ∃ (s : State) (id : Nat) (r : Req), reqAt s id = some r ∧ r.stage = .place ∧ heldByWrite s r =
    false ∧ r.mst = false ∧ r.kind = .flush ∧ r.parts = [] :=
  ⟨((State.reset.wr R.TWN_STATE_TSTATE 3) |> fun s =>
    { s with dev := .serving, rst := { s.rst with held := false }, xpt := { s.xpt with reqs := [{ id := 5, qp := 3, lport := 0, psn := 0, npsn := 1, kind := .flush, rkey := 0, va := 0, len := 0, payload := [], compare := 0, swapAdd := 0, ackReq := true, last := false, imm := none, stage := .place }] } }),
    5,
    { id := 5, qp := 3, lport := 0, psn := 0, npsn := 1, kind := .flush, rkey := 0, va := 0, len := 0, payload := [], compare := 0, swapAdd := 0, ackReq := true, last := false, imm := none, stage := .place },
    by decide, by decide, by decide, by decide, by decide, by decide⟩
theorem guard_RequestStagesAct_8 : ∃ (s : State) (l : Nat), awake s = true ∧ 64 * l < geometryBytes s :=
  ⟨((State.reset) |> fun s => { s with dev := .serving, rst := { s.rst with held := false } }), 5, by decide, by decide⟩
theorem guard_RequestStagesAct_9 : ∃ (s : State) (i : Nat) (r : Req), reqsOf s i = [r] ∧ r.stage = .done ∧ r.mst = false ∧ r.dup =
    false ∧ r.silent = false :=
  ⟨((State.reset.wr R.TWN_STATE_TSTATE 3) |> fun s =>
    { s with dev := .serving, rst := { s.rst with held := false }, xpt := { s.xpt with reqs := [{ id := 5, qp := 3, lport := 0, psn := 0, npsn := 1, kind := .read, rkey := 0, va := 0, len := 0, payload := [], compare := 0, swapAdd := 0, ackReq := true, last := false, imm := none, stage := .done }] } }),
    3,
    { id := 5, qp := 3, lport := 0, psn := 0, npsn := 1, kind := .read, rkey := 0, va := 0, len := 0, payload := [], compare := 0, swapAdd := 0, ackReq := true, last := false, imm := none, stage := .done },
    by decide, by decide, by decide, by decide, by decide⟩
theorem guard_RequestStagesAct_10 : ∃ (s : State) (i : Nat) (r : Req), reqsOf s i = [r] ∧ r.stage = .done ∧ r.mst = false ∧ r.dup
    = false ∧ r.silent = true :=
  ⟨((State.reset.wr R.TWN_STATE_TSTATE 3) |> fun s =>
    { s with dev := .serving, rst := { s.rst with held := false }, xpt := { s.xpt with reqs := [{ id := 5, qp := 3, lport := 0, psn := 0, npsn := 1, kind := .send, rkey := 0, va := 0, len := 0, payload := [], compare := 0, swapAdd := 0, ackReq := true, last := false, imm := none, stage := .done }] } }),
    3,
    { id := 5, qp := 3, lport := 0, psn := 0, npsn := 1, kind := .send, rkey := 0, va := 0, len := 0, payload := [], compare := 0, swapAdd := 0, ackReq := true, last := false, imm := none, stage := .done },
    by decide, by decide, by decide, by decide, by decide⟩
theorem guard_RequestStagesAct_11 : ∃ (s : State) (i : Nat), s.xpt.unacked.has i = true :=
  ⟨((State.reset) |> fun s =>
    { s with dev := .serving, rst := { s.rst with held := false }, xpt := { s.xpt with unacked := [(3, (0, 0))] } }), 3,
    by decide⟩
theorem guard_RequestStagesAct_12 : ∃ (s : State) (p : Fin 4) (share : Nat), awake s = true ∧ s.on R.XPT_REIN_FREEZE 0 p = false ∧
    s.rd R.XPT_REINTH_HI 0 p ≤ share :=
  ⟨{ State.reset with dev := .serving }, 1, 100, by decide, by decide, by decide⟩
theorem guard_PortsAct_0 : ∃ (s : State) (l : Fin 16), awake s = true ∧ s.running (26 + l.val / 4) = true ∧ portUsed s l = true ∧
    portUp s l = false :=
  ⟨((State.reset.wr R.BLKSTAT_RUNNING 1 0 27) |> fun s => { s with dev := .serving }), 4, by decide, by decide, by decide,
    by decide⟩
theorem guard_PortsAct_1 : ∃ (s : State) (l : Fin 16), awake s = true ∧ portUp s l = true :=
  ⟨((State.reset.wr R.PRT_LINKSTAT_UP 1 0 1) |> fun s => { s with dev := .serving }), 4, by decide, by decide⟩
theorem guard_PortsAct_2 : ∃ (s : State) (l : Nat), awake s = true ∧ l < 16 ∧ portUsed s l = true :=
  ⟨{ State.reset with dev := .serving }, 4, by decide, by decide, by decide⟩
theorem guard_PortsAct_3 : ∃ (s : State) (p : Fin 4) (sub : BitVec 4) (subs : List Nat), awake s = true ∧ subs = (List.range
    4).filter (fun j => bit sub.toNat j) ∧ subs.all (fun j => portUsed s (4 * p.val + j)) = true :=
  ⟨{ State.reset with dev := .serving }, 1, 1, _, by decide, rfl, by decide⟩
theorem guard_PortsAct_4 : ∃ (s : State) (l : Fin 16), awake s = true ∧ portUp s l = true ∧ s.rd R.PRT_IP4 (l.val % 4) (l.val / 4)
    ≠ 0 :=
  ⟨((State.reset.wr R.PRT_LINKSTAT_UP 1 0 1 |>.wr R.PRT_IP4 7 0 1) |> fun s => { s with dev := .serving }), 4, by decide, by decide,
    by decide⟩
theorem guard_PortsAct_5 : ∃ (s : State) (l : Fin 16) (addr : Nat), awake s = true ∧ portUp s l = true ∧ addr ≠ s.rd R.PRT_IP4
    (l.val % 4) (l.val / 4) :=
  ⟨((State.reset.wr R.PRT_LINKSTAT_UP 1 0 1 |>.wr R.PRT_IP4 7 0 1) |> fun s => { s with dev := .serving }), 4, 8, by decide,
    by decide, by decide⟩
theorem guard_PortsAct_6 : ∃ (s : State) (l : Fin 16) (prio : Fin 8), awake s = true ∧ portUp s l = true ∧ s.rbit R.PRT_PFC_RXEN
    prio (l.val / 4) = true :=
  ⟨((State.reset.wr R.PRT_LINKSTAT_UP 1 0 1 |>.wr R.PRT_PFC_RXEN 8 0 1) |> fun s => { s with dev := .serving }), 4, 3, by decide,
    by decide, by decide⟩
theorem guard_PortsAct_7 : ∃ (s : State) (l : Fin 16) (n : Nat), awake s = true ∧ n < s.rd R.PRT_FECTH_FECTH 0 (l.val / 4) :=
  ⟨((State.reset.wr R.PRT_LINKSTAT_UP 1 0 1 |>.wr R.PRT_FECTH_FECTH 8 0 1) |> fun s => { s with dev := .serving }), 4, 3, by decide,
    by decide⟩
theorem guard_PortsAct_8 : ∃ (s : State) (l : Fin 16) (n : Nat), awake s = true ∧ s.rd R.PRT_FECTH_FECTH 0 (l.val / 4) ≤ n :=
  ⟨((State.reset.wr R.PRT_LINKSTAT_UP 1 0 1 |>.wr R.PRT_FECTH_FECTH 8 0 1) |> fun s => { s with dev := .serving }), 4, 8, by decide,
    by decide⟩
theorem guard_RequesterAndQpPortActs_0 : ∃ (s : State) (i : Fin 16384) (psn : Nat) (u : State), awake s = true ∧ (rqAt s i).qstate
    = 3 ∧ (rqAt s i).outpkt ≠ 0 ∧ (rqAt s i).ops = [] ∧ psnLe (rqAt s i).upsn psn = true ∧ psnLe psn (((rqAt s i).spsn + 2 ^ 24 -
    1) % 2 ^ 24) = true ∧ (psn + 1) % 2 ^ 24 ≠ (rqAt s i).upsn ∧ u = setRq s i (rqCount
    { rqAt s i with ops := [], upsn := (psn + 1) % 2 ^ 24, retries := 0, rnrused := 0, rtocur := s.rd R.XPT_RTO_RTOINIT 0 (rqPipe (rqAt s i)) })
    :=
  ⟨({ State.reset with dev := .serving, mst := { State.reset.mst with qps := [(3, { qstate := 3, outpkt := 1, spsn := 9, upsn := 4, lport := 4 })] } }),
    3, 5, _, by decide, by decide, by decide, by decide, by decide, by decide, by decide, rfl⟩
theorem guard_RequesterAndQpPortActs_1 : ∃ (s : State) (i : Fin 16384), awake s = true ∧ (rqAt s i).qstate = 3 ∧ (rqAt s i).outpkt
    ≠ 0 ∧ (rqAt s i).retries < s.rd R.XPT_RTO_RETRY 0 (rqPipe (rqAt s i)) :=
  ⟨({ State.reset with dev := .serving, mst := { State.reset.mst with qps := [(3, { qstate := 3, outpkt := 1, spsn := 9, upsn := 4, lport := 4 })] } }),
    3, by decide, by decide, by decide, by decide⟩
theorem guard_RequesterAndQpPortActs_2 : ∃ (s : State) (i : Fin 16384), awake s = true ∧ (rqAt s i).qstate = 3 ∧ (rqAt s i).outpkt
    ≠ 0 ∧ (rqAt s i).retries < s.rd R.XPT_RTO_RETRY 0 (rqPipe (rqAt s i)) :=
  ⟨({ State.reset with dev := .serving, mst := { State.reset.mst with qps := [(3, { qstate := 3, outpkt := 1, spsn := 9, upsn := 4, lport := 4 })] } }),
    3, by decide, by decide, by decide, by decide⟩
theorem guard_RequesterAndQpPortActs_3 : ∃ (s : State) (i : Fin 16384) (syndrome : Nat), awake s = true ∧ (rqAt s i).qstate = 3 ∧
    (rqAt s i).outpkt ≠ 0 ∧ syndrome ≠ 0x60 :=
  ⟨({ State.reset with dev := .serving, mst := { State.reset.mst with qps := [(3, { qstate := 3, outpkt := 1, spsn := 9, upsn := 4, lport := 4 })] } }),
    3, 0x62, by decide, by decide, by decide, by decide⟩
theorem guard_RequesterAndQpPortActs_4 : ∃ (s : State) (i : Fin 16384), awake s = true ∧ (rqAt s i).qstate = 3 ∧ (rqAt s i).outpkt
    ≠ 0 ∧ s.rd R.XPT_RTO_RNRRETRY 0 (rqPipe (rqAt s i)) = 7 :=
  ⟨(({ State.reset with dev := .serving, mst := { State.reset.mst with qps := [(3, { qstate := 3, outpkt := 1, spsn := 9, upsn := 4, lport := 4 })] } })).wr
    R.XPT_RTO_RNRRETRY 7 0 1, 3, by decide, by decide, by decide, by decide⟩
theorem guard_RequesterAndQpPortActs_5 : ∃ (s : State) (i : Fin 16384), awake s = true ∧ (rqAt s i).qstate = 3 ∧ (rqAt s
    i).rnrWait = true :=
  ⟨({ State.reset with dev := .serving, mst := { State.reset.mst with qps := [(3, { qstate := 3, outpkt := 1, spsn := 9, upsn := 4, lport := 4, rnrWait := true })] } }),
    3, by decide, by decide, by decide⟩
theorem guard_RequesterAndQpPortActs_6 : ∃ (s : State) (i : Fin 16384), awake s = true ∧ (rqAt s i).qstate = 3 ∧ (rqAt s
    i).lastCut = none :=
  ⟨({ State.reset with dev := .serving, mst := { State.reset.mst with qps := [(3, { qstate := 3, outpkt := 1, spsn := 9, upsn := 4, lport := 4 })] } }),
    3, by decide, by decide, by decide⟩
theorem guard_RequesterAndQpPortActs_7 : ∃ (s : State) (i : Fin 16384), awake s = true ∧ (rqAt s i).qstate = 3 :=
  ⟨({ State.reset with dev := .serving, mst := { State.reset.mst with qps := [(3, { qstate := 3, outpkt := 1, spsn := 9, upsn := 4, lport := 4 })] } }),
    3, by decide, by decide⟩
theorem guard_RequesterAndQpPortActs_8 : ∃ (s : State) (p : Fin 4) (q : Qp), awake s = true ∧ serves (qpAt s (qpIndex s p)) =
    false ∧ q = qpOf (qpDataWords s p) ∧ qpBad s q = false ∧ s.xpt.cache.has (qpIndex s p) = false :=
  ⟨(({ State.reset with dev := .serving }).wr R.XPT_QPDATA (2 ^ 20) 1 1), 1, _, by decide, by decide, rfl, by decide, by decide⟩
theorem guard_RequesterAndQpPortActs_9 : ∃ (s : State) (p : Fin 4) (q : Qp), awake s = true ∧ serves (qpAt s (qpIndex s p)) =
    false ∧ q = qpOf (qpDataWords s p) ∧ qpBad s q = false ∧ s.xpt.cache.has (qpIndex s p) = true :=
  ⟨((State.reset.wr R.XPT_QPDATA (2 ^ 20) 1 0) |> fun s =>
    { s with dev := .serving, rst := { s.rst with held := false }, xpt := { s.xpt with cache := [(0, { port := 0, used := 0 })] } }),
    0, _, by decide, by decide, rfl, by decide, by decide⟩
theorem guard_RequesterAndQpPortActs_10 : ∃ (s : State) (p : Fin 4), awake s = true ∧ serves (qpAt s (qpIndex s p)) = true :=
  ⟨({ State.reset with dev := .serving, xpt := { State.reset.xpt with qps := [(0, { qstate := 3 })] } }), 1, by decide, by decide⟩
theorem guard_RequesterAndQpPortActs_11 : ∃ (s : State), awake s = true :=
  ⟨{ State.reset with dev := .serving }, by decide⟩
theorem guard_RequesterAndQpPortActs_12 : ∃ (s : State), awake s = true :=
  ⟨{ State.reset with dev := .serving }, by decide⟩
theorem guard_RequesterAndQpPortActs_13 : ∃ (s : State) (p : Fin 4), awake s = true ∧ reqsOf s (qpIndex s p) = [] :=
  ⟨{ State.reset with dev := .serving }, 1, by decide, by decide⟩
theorem guard_RequesterAndQpPortActs_14 : ∃ (s : State), awake s = true :=
  ⟨{ State.reset with dev := .serving }, by decide⟩
set_option maxRecDepth 100000 in
theorem guard_VisilLinkActs_0 : ∃ (s : State) (bytes : List (BitVec 8)), visilUp s = true ∧ bytes.length = 512 :=
  ⟨(((State.reset.wr R.BLKSTAT_RUNNING 1 0 24)) |> fun s =>
    { s with dev := .serving, rst := { s.rst with held := false }, twn := { s.twn with link := 1 } }), List.replicate 512 0,
    by decide +kernel, by decide +kernel⟩
set_option maxRecDepth 100000 in
theorem guard_VisilLinkActs_1 : ∃ (s : State) (bytes : List (BitVec 8)) (h : Nat), visilUp s = true ∧ bytes.length = 512 ∧ h = fld
    (bytes.map (·.toNat)) 0 8 ∧ crc64 ((bytes.map (·.toNat)).take 504) = fld (bytes.map (·.toNat)) 504 8 ∧ bits h 60 4 = 0 ∧ bit h
    35 = false ∧ s.twn.txq = [] :=
  ⟨(((State.reset.wr R.BLKSTAT_RUNNING 1 0 24)) |> fun s =>
    { s with dev := .serving, rst := { s.rst with held := false }, twn := { s.twn with link := 1 } }), List.replicate 512 0, _,
    by decide +kernel, by decide +kernel, rfl, by decide +kernel, by decide +kernel, by decide +kernel, by decide +kernel⟩
set_option maxRecDepth 100000 in
theorem guard_VisilLinkActs_2 : ∃ (s : State) (bytes : List (BitVec 8)), visilUp s = true ∧ bytes.length = 512 ∧ crc64 ((bytes.map
    (·.toNat)).take 504) ≠ fld (bytes.map (·.toNat)) 504 8 ∧ bits (fld (bytes.map (·.toNat)) 0 8) 60 4 ≠ 1 :=
  ⟨(((State.reset.wr R.BLKSTAT_RUNNING 1 0 24)) |> fun s =>
    { s with dev := .serving, rst := { s.rst with held := false }, twn := { s.twn with link := 1 } }), List.replicate 504 0 ++
    List.replicate 8 1, by decide +kernel, by decide +kernel, by decide +kernel, by decide +kernel⟩
set_option maxRecDepth 100000 in
theorem guard_VisilLinkActs_3 : ∃ (s : State), visilUp s = true ∧ s.twn.replays < s.rd R.TWN_LINKTIME_RPLIMIT :=
  ⟨(((State.reset.wr R.BLKSTAT_RUNNING 1 0 24).wr R.TWN_LINKTIME_RPLIMIT 4) |> fun s =>
    { s with dev := .serving, rst := { s.rst with held := false }, twn := { s.twn with link := 1 } }), by decide +kernel,
    by decide +kernel⟩
set_option maxRecDepth 100000 in
theorem guard_VisilLinkActs_4 : ∃ (s : State), visilUp s = true ∧ s.rd R.TWN_LINKTIME_RPLIMIT ≤ s.twn.replays :=
  ⟨(((State.reset.wr R.BLKSTAT_RUNNING 1 0 24)) |> fun s =>
    { s with dev := .serving, rst := { s.rst with held := false }, twn := { s.twn with link := 1, replays := 255 } }),
    by decide +kernel, by decide +kernel⟩
set_option maxRecDepth 100000 in
theorem guard_VisilLinkActs_5 : ∃ (s : State) (lane : Fin 20) (m : Nat), visilUp s = true ∧ s.rbit R.TWN_LANESTAT_ACTIVE lane =
    true ∧ m = goodLanes (probation (s.bump C.TWN_LANEFAULT) lane) ∧ wmin s ≤ lanesOf m :=
  ⟨(((State.reset.wr R.BLKSTAT_RUNNING 1 0 24).wr R.TWN_LANESTAT_ACTIVE 255 |>.wr R.TWN_LANECFG_WMIN 4) |> fun s =>
    { s with dev := .serving, rst := { s.rst with held := false }, twn := { s.twn with link := 1 } }), 3, _, by decide +kernel,
    by decide +kernel, rfl, by decide +kernel⟩
set_option maxRecDepth 100000 in
theorem guard_VisilLinkActs_6 : ∃ (s : State), visilUp s = true :=
  ⟨(((State.reset.wr R.BLKSTAT_RUNNING 1 0 24)) |> fun s =>
    { s with dev := .serving, rst := { s.rst with held := false }, twn := { s.twn with link := 1 } }), by decide +kernel⟩
set_option maxRecDepth 100000 in
theorem guard_VisilLinkActs_7 : ∃ (s : State), visilUp s = true ∧ s.twn.wOffer.isSome = true :=
  ⟨(((State.reset.wr R.BLKSTAT_RUNNING 1 0 24)) |> fun s =>
    { s with dev := .serving, rst := { s.rst with held := false }, twn := { s.twn with link := 1, wOffer := some 7 } }),
    by decide +kernel, by decide +kernel⟩
set_option maxRecDepth 100000 in
theorem guard_VisilLinkActs_8 : ∃ (s : State) (m : Nat), visilUp s = true ∧ s.twn.wSwitch = some m ∧ lanesOf m < wmin s :=
  ⟨(((State.reset.wr R.BLKSTAT_RUNNING 1 0 24).wr R.TWN_LANECFG_WMIN 4) |> fun s =>
    { s with dev := .serving, rst := { s.rst with held := false }, twn := { s.twn with link := 1, wSwitch := some 1 } }), 1,
    by decide +kernel, by decide +kernel, by decide +kernel⟩
set_option maxRecDepth 100000 in
theorem guard_VisilLinkActs_9 : ∃ (s : State) (m : Nat), visilUp s = true ∧ s.twn.wSwitch = some m ∧ s.rd R.TWN_LANESTAT_ACTIVE =
    m ∧ wmin s ≤ lanesOf m :=
  ⟨(((State.reset.wr R.BLKSTAT_RUNNING 1 0 24).wr R.TWN_LANESTAT_ACTIVE 15 |>.wr R.TWN_LANECFG_WMIN 4) |> fun s =>
    { s with dev := .serving, rst := { s.rst with held := false }, twn := { s.twn with link := 1, wSwitch := some 15 } }), 15,
    by decide +kernel, by decide +kernel, by decide +kernel, by decide +kernel⟩
set_option maxRecDepth 100000 in
theorem guard_VisilLinkActs_10 : ∃ (s : State) (lane : Fin 20), visilUp s = true ∧ s.rbit R.TWN_PROBSTAT_PROBATION lane = true ∧
    s.rbit R.TWN_LANECFG_LANEEN lane = true ∧ farHolds s (laneOwner lane) [100 + lane.val] = true :=
  ⟨(((State.reset.wr R.BLKSTAT_RUNNING 1 0 24).wr R.TWN_PROBSTAT_PROBATION 8 |>.wr R.TWN_LANECFG_LANEEN 8) |> fun s =>
    { s with dev := .serving, rst := { s.rst with held := false }, twn := { s.twn with link := 1 }, far := { s.far with held := [(103, laneOwner 3)] } }),
    3, by decide +kernel, by decide +kernel, by decide +kernel, by decide +kernel⟩
set_option maxRecDepth 100000 in
theorem guard_VisilLinkActs_11 : ∃ (s : State), visilUp s = true :=
  ⟨(((State.reset.wr R.BLKSTAT_RUNNING 1 0 24)) |> fun s =>
    { s with dev := .serving, rst := { s.rst with held := false }, twn := { s.twn with link := 1 } }), by decide +kernel⟩
set_option maxRecDepth 100000 in
theorem guard_VisilLinkActs_12 : ∃ (s : State) (mask : BitVec 20) (m : Nat), twnRuns s = true ∧ s.twn.link = 2 ∧ s.twn.waitSince =
    none ∧ m = mask.toNat &&& trainable s ∧ wmin s ≤ lanesOf m :=
  ⟨(((State.reset.wr R.BLKSTAT_RUNNING 1 0 24).wr R.TWN_LANECFG_LANEEN 255 |>.wr R.TWN_LANECFG_WMIN 4) |> fun s =>
    { s with dev := .serving, rst := { s.rst with held := false }, twn := { s.twn with link := 2 } }), 255, _, by decide +kernel,
    by decide +kernel, by decide +kernel, rfl, by decide +kernel⟩
set_option maxRecDepth 100000 in
theorem guard_VisilLinkActs_13 : ∃ (s : State) (mask : BitVec 20) (m : Nat), twnRuns s = true ∧ s.twn.link = 2 ∧ s.twn.waitSince =
    none ∧ m = mask.toNat &&& trainable s ∧ lanesOf m < wmin s ∧ s.twn.attempt < s.rd R.TWN_LINKTIME_RETRAINS :=
  ⟨(((State.reset.wr R.BLKSTAT_RUNNING 1 0 24).wr R.TWN_LINKTIME_RETRAINS 3 |>.wr R.TWN_LANECFG_WMIN 4) |> fun s =>
    { s with dev := .serving, rst := { s.rst with held := false }, twn := { s.twn with link := 2 } }), 1, _, by decide +kernel,
    by decide +kernel, by decide +kernel, rfl, by decide +kernel, by decide +kernel⟩
set_option maxRecDepth 100000 in
theorem guard_VisilLinkActs_14 : ∃ (s : State), twnRuns s = true ∧ s.twn.link = 2 ∧ s.twn.waitSince.isSome = true :=
  ⟨(((State.reset.wr R.BLKSTAT_RUNNING 1 0 24)) |> fun s =>
    { s with dev := .serving, rst := { s.rst with held := false }, twn := { s.twn with link := 2, waitSince := some 0 } }),
    by decide +kernel, by decide +kernel, by decide +kernel⟩
set_option maxRecDepth 100000 in
theorem guard_VisilLinkActs_15 : ∃ (s : State), twnRuns s = true ∧ s.on R.TWN_STATE_HBALIVE = true :=
  ⟨(((State.reset.wr R.BLKSTAT_RUNNING 1 0 24).wr R.TWN_STATE_HBALIVE 1) |> fun s =>
    { s with dev := .serving, rst := { s.rst with held := false }, twn := { s.twn with link := 1 } }), by decide +kernel,
    by decide +kernel⟩
set_option maxRecDepth 100000 in
theorem guard_VisilLinkActs_16 : ∃ (s : State), twnRuns s = true ∧ s.on R.TWN_STATE_HBBLIVE = true :=
  ⟨(((State.reset.wr R.BLKSTAT_RUNNING 1 0 24).wr R.TWN_STATE_HBBLIVE 1) |> fun s =>
    { s with dev := .serving, rst := { s.rst with held := false }, twn := { s.twn with link := 1 } }), by decide +kernel,
    by decide +kernel⟩
set_option maxRecDepth 100000 in
theorem guard_VisilLinkActs_17 : ∃ (s : State), pairable s = true ∧ s.twn.link = 0 ∧ (tstate s = 0 ∨ tstate s = 3) :=
  ⟨(((State.reset.wr R.BLKSTAT_RUNNING 1 0 24)) |> fun s =>
    { s with dev := .serving, rst := { s.rst with held := false }, twn := { s.twn with link := 0 } }), by decide +kernel,
    by decide +kernel, by decide +kernel⟩
set_option maxRecDepth 100000 in
theorem guard_VisilLinkActs_18 : ∃ (s : State) (mask : BitVec 20), pairable s = true ∧ s.twn.link = 0 ∧ (tstate s = 0 ∨ tstate s =
    3) ∧ s.rd R.TWN_LANECFG_WMIN ≤ lanesOf (mask.toNat &&& s.rd R.TWN_LANECFG_LANEEN) :=
  ⟨(((State.reset.wr R.BLKSTAT_RUNNING 1 0 24).wr R.TWN_LANECFG_LANEEN 255 |>.wr R.TWN_LANECFG_WMIN 4) |> fun s =>
    { s with dev := .serving, rst := { s.rst with held := false }, twn := { s.twn with link := 0 } }), 255, by decide +kernel,
    by decide +kernel, by decide +kernel, by decide +kernel⟩
theorem guard_TwinPageMessagesAct_0 : ∃ (s : State), dataVc s = true ∧ (isSpan s = true ∨ isReturner s = true) :=
  ⟨(((State.reset.wr R.BLKSTAT_RUNNING 1 0 24).wr R.TWN_STATE_TSTATE 2) |> fun s =>
    { s with dev := .serving, rst := { s.rst with held := false }, twn := { s.twn with link := 1 } }), by decide, by decide⟩
theorem guard_TwinPageMessagesAct_1 : ∃ (s : State), dataVc s = true ∧ isSpan s = true :=
  ⟨(((State.reset.wr R.BLKSTAT_RUNNING 1 0 24).wr R.TWN_STATE_TSTATE 2) |> fun s =>
    { s with dev := .serving, rst := { s.rst with held := false }, twn := { s.twn with link := 1 } }), by decide, by decide⟩
theorem guard_TwinPageMessagesAct_2 : ∃ (s : State), dataVc s = true ∧ isSpan s = true :=
  ⟨(((State.reset.wr R.BLKSTAT_RUNNING 1 0 24).wr R.TWN_STATE_TSTATE 2) |> fun s =>
    { s with dev := .serving, rst := { s.rst with held := false }, twn := { s.twn with link := 1 } }), by decide, by decide⟩
theorem guard_TwinPageMessagesAct_3 : ∃ (s : State), dataVc s = true ∧ isSpan s = true :=
  ⟨(((State.reset.wr R.BLKSTAT_RUNNING 1 0 24).wr R.TWN_STATE_TSTATE 2) |> fun s =>
    { s with dev := .serving, rst := { s.rst with held := false }, twn := { s.twn with link := 1 } }), by decide, by decide⟩
theorem guard_TwinPageMessagesAct_4 : ∃ (s : State) (tag epoch spage status : Nat), visilUp s = true ∧ epoch < 2 ^ 48 ∧ status ≤ 1
    ∧ waitingPart (pendDone s spage 1 0) .placed tag = none :=
  ⟨(((State.reset.wr R.BLKSTAT_RUNNING 1 0 24).wr R.TWN_STATE_TSTATE 2) |> fun s =>
    { s with dev := .serving, rst := { s.rst with held := false }, twn := { s.twn with link := 1 } }), 1, 2, 3, 0, by decide,
    by decide, by decide, by decide⟩
theorem guard_TwinPageMessagesAct_5 : ∃ (s : State) (kind : Nat), dataVc s = true ∧ 1 ≤ kind ∧ kind ≤ 3 :=
  ⟨(((State.reset.wr R.BLKSTAT_RUNNING 1 0 24).wr R.TWN_STATE_TSTATE 2) |> fun s =>
    { s with dev := .serving, rst := { s.rst with held := false }, twn := { s.twn with link := 1 } }), 3, by decide, by decide,
    by decide⟩
theorem guard_TwinPageMessagesAct_6 : ∃ (s : State) (tag : Nat), visilUp s = true ∧ pairLinked s = true ∧ isLead s = true ∧ tag <
    32768 :=
  ⟨(((State.reset.wr R.BLKSTAT_RUNNING 1 0 24).wr R.TWN_STATE_TSTATE 2 |>.wr R.TWN_STATE_LEAD 1) |> fun s =>
    { s with dev := .serving, rst := { s.rst with held := false }, twn := { s.twn with link := 1 } }), 1, by decide, by decide,
    by decide, by decide⟩
theorem guard_TwinPageMessagesAct_7 : ∃ (s : State) (tag : Nat), visilUp s = true ∧ pairLinked s = true ∧ isLead s = true ∧ tag <
    32768 ∧ decides s = true :=
  ⟨(((State.reset.wr R.BLKSTAT_RUNNING 1 0 24).wr R.TWN_STATE_TSTATE 2 |>.wr R.TWN_STATE_LEAD 1) |> fun s =>
    { s with dev := .serving, rst := { s.rst with held := false }, twn := { s.twn with link := 1 } }), 1, by decide, by decide,
    by decide, by decide, by decide⟩
theorem guard_TwinPageMessagesAct_8 : ∃ (s : State) (extent : Nat), dataVc s = true ∧ (extentAt s extent).ingroup = true :=
  ⟨(((State.reset.wr R.BLKSTAT_RUNNING 1 0 24).wr R.TWN_STATE_TSTATE 2) |> fun s =>
    { s with dev := .serving, rst := { s.rst with held := false }, twn := { s.twn with link := 1 }, maps := { s.maps with extents := [(0, { estate := 2, ingroup := true, fgroup := 1 })], frames := [(514, { pstate := .clean })] }, gov := { s.gov with limit := 409600000 } }),
    0, by decide, by decide⟩
theorem guard_TwinPageMessagesAct_9 : ∃ (s : State) (extent : Nat), dataVc s = true ∧ (extentAt s extent).ingroup = true :=
  ⟨(((State.reset.wr R.BLKSTAT_RUNNING 1 0 24).wr R.TWN_STATE_TSTATE 2) |> fun s =>
    { s with dev := .serving, rst := { s.rst with held := false }, twn := { s.twn with link := 1 }, maps := { s.maps with extents := [(0, { estate := 2, ingroup := true, fgroup := 1 })], frames := [(514, { pstate := .clean })] }, gov := { s.gov with limit := 409600000 } }),
    0, by decide, by decide⟩
theorem guard_TwinPageMessagesAct_10 : ∃ (s : State) (epoch spage off : Nat) (data : List Nat) (q : State × Bool) (w : State ×
    Nat), dataVc s = true ∧ (isSpan s = true ∨ isReturner s = true) ∧ s.twn.heldMsgs = [] ∧ orderOf s spage epoch = .next ∧
    mirrorTokens s 1 = true ∧ q = readyIn s spage ∧ q.2 = true ∧ w = partLines q.1 spage off data.length ∧ w.2 ≠ 1 :=
  ⟨spanPage, 1, 2, 0, List.replicate 8 7, _, _, by decide, by decide, by decide, by decide, by decide, rfl, by decide, rfl,
    by decide⟩
theorem guard_TwinPageMessagesAct_11 : ∃ (s : State) (spage off : Nat) (data : List Nat) (q : State × Bool) (w : State × Nat),
    dataVc s = true ∧ isSpan s = true ∧ s.twn.heldMsgs = [] ∧ fenced s spage = false ∧ mirrorTokens s 1 = true ∧ q = readyIn s
    spage ∧ q.2 = true ∧ w = partLines q.1 spage off data.length ∧ w.2 = 0 :=
  ⟨spanPage, 2, 0, [1, 2], _, _, by decide, by decide, by decide, by decide, by decide, rfl, by decide, rfl, by decide⟩
theorem guard_TwinPageMessagesAct_12 : ∃ (s : State) (spage line word arg swap old new : Nat) (fadd : Bool) (q : State × Bool) (w
    : State × Nat), dataVc s = true ∧ isSpan s = true ∧ s.twn.heldMsgs = [] ∧ fenced s spage = false ∧ mirrorTokens s 1 = true ∧ q
    = readyIn s spage ∧ q.2 = true ∧ w = partLines q.1 spage (64 * line + 8 * word) 8 ∧ w.2 = 0 ∧ old = wordAt w.1 spage (64 *
    line + 8 * word) ∧ new = atomicNew fadd old arg swap :=
  ⟨spanPage, 2, 0, 0, 5, 0, _, _, true, _, _, by decide, by decide, by decide, by decide, by decide, rfl, by decide, rfl, by decide,
    rfl, rfl⟩
theorem guard_TwinPageMessagesAct_13 : ∃ (s : State) (tag epoch spage : Nat) (atomic : Option (Nat × Nat)) (x : FwdEnt) (q : State
    × Bool) (w : State × Nat), dataVc s = true ∧ isSpan s = true ∧ s.twn.heldMsgs = [] ∧ orderOf s spage epoch = .next ∧
    s.twn.fwd.find? tag = some x ∧ forwardToken s tag = true ∧ q = readyIn s spage ∧ q.2 = true ∧ w = partLines q.1 spage x.off
    (orderedBytes x atomic).length ∧ w.2 ≠ 1 :=
  ⟨({ spanPage with twn := { spanPage.twn with fwd := [(1, { spage := 2, off := 0, data := [1, 2] })] } }), 1, 1, 2, none,
    { spage := 2, off := 0, data := [1, 2] }, _, _, by decide, by decide, by decide, by decide, by decide, by decide, rfl,
    by decide, rfl, by decide⟩
theorem guard_TwinPageMessagesAct_14 : ∃ (s : State) (spage line f : Nat), dataVc s = true ∧ isSpan s = true ∧ s.twn.heldMsgs = []
    ∧ fenced s spage = false ∧ usable s spage = true ∧ frameOf s spage = some f ∧ lineFault s (64 * f + line) = none :=
  ⟨spanPage, 2, 0, 514, by decide, by decide, by decide, by decide, by decide, by decide, by decide⟩
theorem guard_TwinPageMessagesAct_15 : ∃ (s : State) (epoch spage poison : Nat) (zero : Bool) (data : List Nat) (u : State),
    visilUp s = true ∧ s.twn.departed = false ∧ tstate s = 2 ∧ s.twn.heldMsgs = [] ∧ installResync s spage epoch zero poison data
    = (u, true) ∧ u.log.fences.has spage = false :=
  ⟨spanPage, 5, 2, 0, true, [], (installResync spanPage 2 5 true 0 []).1, by decide, by decide, by decide, by decide, by decide,
    by decide⟩
theorem guard_TwinPageMessagesAct_16 : ∃ (s : State) (tag spage line f : Nat) (data : List Nat) (u : State), visilUp s = true ∧
    tag < 32768 ∧ treading s spage line = true ∧ frameOf s spage = some f ∧ s.twn.treadPipe.find? (64 * spage + line) = none ∧ u =
    lineSound (dWrite
    { s with twn := { s.twn with treads := s.twn.treads.filter (fun x => x ≠ (spage, line)), treadPipe := s.twn.treadPipe.del (64 * spage + line) } }
    (4096 * f + 64 * line) (data.take 64)) (64 * f + line) ∧ (pageFrame u spage).pstate ≠ .filling ∧ isHome u spage = true :=
  ⟨spanTread, 1, 2, 0, 514, List.replicate 64 1, _, by decide, by decide, by decide, by decide, by decide, rfl, by decide,
    by decide⟩
theorem guard_TwinPageMessagesAct_17 : ∃ (s : State) (tag spage line cause f : Nat), visilUp s = true ∧ tag < 32768 ∧ cause < 16 ∧
    treading s spage line = true ∧ frameOf s spage = some f ∧ (pageFrame s spage).pstate ≠ .filling :=
  ⟨spanTread, 1, 2, 0, 1, 514, by decide, by decide, by decide, by decide, by decide, by decide⟩
theorem guard_TwinPageMessagesAct_18 : ∃ (s : State) (tag extent : Nat) (mv : Movement), visilUp s = true ∧ tag < 32768 ∧
    s.twn.alignWait.contains extent = false ∧ s.tie.moves.find? extent = some mv ∧ mv.selfDone = true :=
  ⟨({ spanPage with tie := { spanPage.tie with moves := [(0, { pages := 0, selfDone := true })] } }), 1, 0,
    { pages := 0, selfDone := true }, by decide, by decide, by decide, by decide, by decide⟩
theorem guard_TwinPageMessagesAct_19 : ∃ (s : State), dataVc s = true ∧ isSpan s = true :=
  ⟨(((State.reset.wr R.BLKSTAT_RUNNING 1 0 24).wr R.TWN_STATE_TSTATE 2) |> fun s =>
    { s with dev := .serving, rst := { s.rst with held := false }, twn := { s.twn with link := 1 } }), by decide, by decide⟩
theorem guard_TwinPageMessagesAct_20 : ∃ (s : State) (tag : Nat), visilUp s = true ∧ tag < 32768 :=
  ⟨(((State.reset.wr R.BLKSTAT_RUNNING 1 0 24).wr R.TWN_STATE_TSTATE 2) |> fun s =>
    { s with dev := .serving, rst := { s.rst with held := false }, twn := { s.twn with link := 1 } }), 1, by decide, by decide⟩
theorem guard_TwinPageMessagesAct_21 : ∃ (s : State) (tag cause : Nat), visilUp s = true ∧ tag < 32768 ∧ cause < 16 :=
  ⟨(((State.reset.wr R.BLKSTAT_RUNNING 1 0 24).wr R.TWN_STATE_TSTATE 2) |> fun s =>
    { s with dev := .serving, rst := { s.rst with held := false }, twn := { s.twn with link := 1 } }), 1, 4, by decide, by decide,
    by decide⟩
theorem guard_TwinPageMessagesAct_22 : ∃ (s : State) (tag : Nat), visilUp s = true ∧ tag < 32768 :=
  ⟨(((State.reset.wr R.BLKSTAT_RUNNING 1 0 24).wr R.TWN_STATE_TSTATE 2) |> fun s =>
    { s with dev := .serving, rst := { s.rst with held := false }, twn := { s.twn with link := 1 } }), 1, by decide, by decide⟩
theorem guard_TwinPageMessagesAct_23 : ∃ (s : State) (tag spage : Nat), visilUp s = true ∧ s.twn.departed = false ∧ tstate s ≠ 0 ∧
    tag < 32768 ∧ fenced s spage = false :=
  ⟨(((State.reset.wr R.BLKSTAT_RUNNING 1 0 24).wr R.TWN_STATE_TSTATE 2) |> fun s =>
    { s with dev := .serving, rst := { s.rst with held := false }, twn := { s.twn with link := 1 } }), 1, 2, by decide, by decide,
    by decide, by decide, by decide⟩
theorem guard_TwinPageMessagesAct_24 : ∃ (s : State), visilUp s = true ∧ s.twn.departed = false ∧ 1 ≤ tstate s :=
  ⟨(((State.reset.wr R.BLKSTAT_RUNNING 1 0 24).wr R.TWN_STATE_TSTATE 2) |> fun s =>
    { s with dev := .serving, rst := { s.rst with held := false }, twn := { s.twn with link := 1 } }), by decide, by decide,
    by decide⟩
theorem guard_TwinPageMessagesAct_25 : ∃ (s : State), tstate s = 3 ∧ isReturner s = false :=
  ⟨(((State.reset.wr R.BLKSTAT_RUNNING 1 0 24).wr R.TWN_STATE_TSTATE 3) |> fun s =>
    { s with dev := .serving, rst := { s.rst with held := false }, twn := { s.twn with link := 1 } }), by decide, by decide⟩
theorem guard_TwinPageMessagesAct_26 : ∃ (s : State), tstate s = 3 :=
  ⟨(((State.reset.wr R.BLKSTAT_RUNNING 1 0 24).wr R.TWN_STATE_TSTATE 3) |> fun s =>
    { s with dev := .serving, rst := { s.rst with held := false }, twn := { s.twn with link := 1 } }), by decide⟩
theorem guard_TwinPairingMessagesAct_0 : ∃ (s : State) (tag : Nat) (h : Hello), visilUp s = true ∧ tstate s = 1 ∧ tag < 32768 ∧
    h.side = mySide s :=
  ⟨(((State.reset.wr R.BLKSTAT_RUNNING 1 0 24).wr R.TWN_STATE_TSTATE 1) |> fun s =>
    { s with dev := .serving, rst := { s.rst with held := false }, twn := { s.twn with link := 1 } }), 1,
    { side := 0, level := 2, soloPref := 0, hbbEn := true, blank := false, lastState := 2, role := 0, wmin := 4, pairId := 5, pgen := 6, part := 0, pext := 0, dgroups := 0, sealSeq := 0, pendPages := 0, logExtents := 0 },
    by decide, by decide, by decide, by decide⟩
theorem guard_TwinPairingMessagesAct_1 : ∃ (s : State) (tag : Nat) (h : Hello), visilUp s = true ∧ tstate s = 1 ∧ tag < 32768 ∧
    h.side ≠ mySide s ∧ mySide s ≠ 0 :=
  ⟨(((State.reset.wr R.BLKSTAT_RUNNING 1 0 24).wr R.TWN_STATE_TSTATE 1 |>.wr R.TWN_CFG_SIDE 1) |> fun s =>
    { s with dev := .serving, rst := { s.rst with held := false }, twn := { s.twn with link := 1 } }), 1,
    { side := 0, level := 2, soloPref := 0, hbbEn := true, blank := false, lastState := 2, role := 0, wmin := 4, pairId := 5, pgen := 6, part := 0, pext := 0, dgroups := 0, sealSeq := 0, pendPages := 0, logExtents := 0 },
    by decide, by decide, by decide, by decide, by decide⟩
theorem guard_TwinPairingMessagesAct_2 : ∃ (s : State) (tag dec reason : Nat) (h : Hello), visilUp s = true ∧ tstate s = 1 ∧ tag <
    32768 ∧ h.side ≠ mySide s ∧ mySide s = 0 ∧ decision (myHello s) h = (dec, reason) ∧ dec ≠ 0 ∧ s.log.pairId ≠ 0 :=
  ⟨({ (spanPage.wr R.TWN_STATE_TSTATE 1) with log := { spanPage.log with pairId := 5 } } : State), 1, 2, 0,
    { myHello ({ (spanPage.wr R.TWN_STATE_TSTATE 1) with log := { spanPage.log with pairId := 5 } } : State) with side := 1, blank := true },
    by decide, by decide, by decide, by decide, by decide, by decide, by decide, by decide⟩
theorem guard_TwinPairingMessagesAct_3 : ∃ (s : State) (tag : Nat) (h : Hello), visilUp s = true ∧ tstate s = 1 ∧ tag < 32768 ∧
    s.twn.hello = some h :=
  ⟨(((State.reset.wr R.BLKSTAT_RUNNING 1 0 24).wr R.TWN_STATE_TSTATE 1) |> fun s =>
    { s with dev := .serving, rst := { s.rst with held := false }, twn := { s.twn with link := 1, hello := some { side := 0, level := 2, soloPref := 0, hbbEn := true, blank := false, lastState := 2, role := 0, wmin := 4, pairId := 5, pgen := 6, part := 0, pext := 0, dgroups := 0, sealSeq := 0, pendPages := 0, logExtents := 0 } } }),
    1,
    { side := 0, level := 2, soloPref := 0, hbbEn := true, blank := false, lastState := 2, role := 0, wmin := 4, pairId := 5, pgen := 6, part := 0, pext := 0, dgroups := 0, sealSeq := 0, pendPages := 0, logExtents := 0 },
    by decide, by decide, by decide, by decide⟩
theorem guard_TwinPairingMessagesAct_4 : ∃ (s : State) (tag : Nat) (h : Hello), visilUp s = true ∧ (tstate s = 1 ∨ tstate s = 3) ∧
    tag < 32768 ∧ s.twn.hello = some h :=
  ⟨(((State.reset.wr R.BLKSTAT_RUNNING 1 0 24).wr R.TWN_STATE_TSTATE 1) |> fun s =>
    { s with dev := .serving, rst := { s.rst with held := false }, twn := { s.twn with link := 1, hello := some { side := 0, level := 2, soloPref := 0, hbbEn := true, blank := false, lastState := 2, role := 0, wmin := 4, pairId := 5, pgen := 6, part := 0, pext := 0, dgroups := 0, sealSeq := 0, pendPages := 0, logExtents := 0 } } }),
    1,
    { side := 0, level := 2, soloPref := 0, hbbEn := true, blank := false, lastState := 2, role := 0, wmin := 4, pairId := 5, pgen := 6, part := 0, pext := 0, dgroups := 0, sealSeq := 0, pendPages := 0, logExtents := 0 },
    by decide, by decide, by decide, by decide⟩
theorem guard_TwinPairingMessagesAct_5 : ∃ (s : State) (tag : Nat), visilUp s = true ∧ tstate s = 4 ∧ isSurvivor s = true ∧
    s.twn.cstep = 1 ∧ tag < 32768 :=
  ⟨(((State.reset.wr R.BLKSTAT_RUNNING 1 0 24).wr R.TWN_STATE_TSTATE 4 |>.wr R.TWN_STATE_ROLE 1) |> fun s =>
    { s with dev := .serving, rst := { s.rst with held := false }, twn := { s.twn with link := 1, cstep := 1 } }), 1, by decide,
    by decide, by decide, by decide, by decide⟩
theorem guard_TwinPairingMessagesAct_6 : ∃ (s : State) (tag pgen : Nat), visilUp s = true ∧ tstate s = 4 ∧ isReturner s = true ∧
    tag < 32768 ∧ pgen < 2 ^ 64 :=
  ⟨(((State.reset.wr R.BLKSTAT_RUNNING 1 0 24).wr R.TWN_STATE_TSTATE 4 |>.wr R.TWN_STATE_ROLE 2) |> fun s =>
    { s with dev := .serving, rst := { s.rst with held := false }, twn := { s.twn with link := 1 } }), 1, 2, by decide, by decide,
    by decide, by decide, by decide⟩
theorem guard_TwinPairingMessagesAct_7 : ∃ (s : State) (tag pgen : Nat), visilUp s = true ∧ tstate s = 5 ∧ isReturner s = true ∧
    tag < 32768 ∧ pgen < 2 ^ 64 ∧ s.dev ≠ .serving :=
  ⟨(((State.reset.wr R.BLKSTAT_RUNNING 1 0 24).wr R.TWN_STATE_TSTATE 5 |>.wr R.TWN_STATE_ROLE 2) |> fun s =>
    { s with dev := .restoring, rst := { s.rst with held := false }, twn := { s.twn with link := 1 } }), 1, 2, by decide,
    by decide, by decide, by decide, by decide, by decide⟩
theorem guard_TwinPairingMessagesAct_8 : ∃ (s : State) (tag pgen : Nat), visilUp s = true ∧ tstate s = 5 ∧ isSurvivor s = true ∧
    s.twn.spanReq = true ∧ tag < 32768 ∧ pgen < 2 ^ 64 :=
  ⟨(((State.reset.wr R.BLKSTAT_RUNNING 1 0 24).wr R.TWN_STATE_TSTATE 5 |>.wr R.TWN_STATE_ROLE 1) |> fun s =>
    { s with dev := .serving, rst := { s.rst with held := false }, twn := { s.twn with link := 1, spanReq := true } }), 1, 2,
    by decide, by decide, by decide, by decide, by decide, by decide⟩
theorem guard_TwinPairingMessagesAct_9 : ∃ (s : State) (tag : Nat), visilUp s = true ∧ tstate s = 5 ∧ isReturner s = true ∧ tag <
    32768 :=
  ⟨(((State.reset.wr R.BLKSTAT_RUNNING 1 0 24).wr R.TWN_STATE_TSTATE 5 |>.wr R.TWN_STATE_ROLE 2) |> fun s =>
    { s with dev := .serving, rst := { s.rst with held := false }, twn := { s.twn with link := 1 } }), 1, by decide, by decide,
    by decide, by decide⟩
theorem guard_TwinPairingMessagesAct_10 : ∃ (s : State) (tag cause : Nat), visilUp s = true ∧ tag < 32768 ∧ cause < 16 :=
  ⟨(((State.reset.wr R.BLKSTAT_RUNNING 1 0 24).wr R.TWN_STATE_TSTATE 2) |> fun s =>
    { s with dev := .serving, rst := { s.rst with held := false }, twn := { s.twn with link := 1 } }), 1, 2, by decide, by decide,
    by decide⟩
theorem guard_TwinPairingMessagesAct_11 : ∃ (s : State) (index : Nat), takesMaps s = true ∧ index < 16384 :=
  ⟨(((State.reset.wr R.BLKSTAT_RUNNING 1 0 24).wr R.TWN_STATE_TSTATE 2) |> fun s =>
    { s with dev := .serving, rst := { s.rst with held := false }, twn := { s.twn with link := 1 } }), 2, by decide, by decide⟩
theorem guard_TwinPairingMessagesAct_12 : ∃ (s : State), takesMaps s = true :=
  ⟨(((State.reset.wr R.BLKSTAT_RUNNING 1 0 24).wr R.TWN_STATE_TSTATE 2) |> fun s =>
    { s with dev := .serving, rst := { s.rst with held := false }, twn := { s.twn with link := 1 } }), by decide⟩
theorem guard_TwinPairingMessagesAct_13 : ∃ (s : State), takesMaps s = true :=
  ⟨(((State.reset.wr R.BLKSTAT_RUNNING 1 0 24).wr R.TWN_STATE_TSTATE 2) |> fun s =>
    { s with dev := .serving, rst := { s.rst with held := false }, twn := { s.twn with link := 1 } }), by decide⟩
theorem guard_TwinPairingMessagesAct_14 : ∃ (s : State), visilUp s = true :=
  ⟨(((State.reset.wr R.BLKSTAT_RUNNING 1 0 24).wr R.TWN_STATE_TSTATE 2) |> fun s =>
    { s with dev := .serving, rst := { s.rst with held := false }, twn := { s.twn with link := 1 } }), by decide⟩
theorem guard_TwinPairingMessagesAct_15 : ∃ (s : State), visilUp s = true ∧ pairLinked s = true ∧ isLead s = true ∧ fwUp s = true
    ∧ drbgOk s = true :=
  ⟨spanPage, by decide, by decide, by decide, by decide, by decide⟩
theorem guard_TwinPairingMessagesAct_16 : ∃ (s : State) (rkey : Nat), visilUp s = true ∧ pairLinked s = true ∧ isLead s = true ∧
    fwUp s = true ∧ rkey < 2 ^ 32 :=
  ⟨spanPage, 0, by decide, by decide, by decide, by decide, by decide⟩
theorem guard_TwinPairingMessagesAct_17 : ∃ (s : State) (tag : Nat) (w : MapWait), visilUp s = true ∧ s.twn.waits.find? (fun x =>
    x.tag = tag && x.kind ≠ 4 && x.kind ≠ 7) = some w ∧ (w.kind = 2 ∨ w.kind = 3) :=
  ⟨({ spanPage with twn := { spanPage.twn with waits := [{ tag := 1, kind := 2, entry := 0, session := 0, words := [] }] } }), 1,
    { tag := 1, kind := 2, entry := 0, session := 0, words := [] }, by decide, by decide, by decide⟩
theorem guard_TwinPairingMessagesAct_18 : ∃ (s : State), visilUp s = true :=
  ⟨(((State.reset.wr R.BLKSTAT_RUNNING 1 0 24).wr R.TWN_STATE_TSTATE 2) |> fun s =>
    { s with dev := .serving, rst := { s.rst with held := false }, twn := { s.twn with link := 1 } }), by decide⟩
theorem guard_TwinPairingMessagesAct_19 : ∃ (s : State), visilUp s = true :=
  ⟨(((State.reset.wr R.BLKSTAT_RUNNING 1 0 24).wr R.TWN_STATE_TSTATE 2) |> fun s =>
    { s with dev := .serving, rst := { s.rst with held := false }, twn := { s.twn with link := 1 } }), by decide⟩
set_option maxRecDepth 100000 in
theorem guard_TwinDictionaryAndCatchupActs_1 : ∃ (s : State) (f : List Nat) (k : List Nat), dicReady s 3 ∧ malformed f = false ∧
    frameKind f = 1 ∧ (frameBody f).length = 20 ∧ bit (frameFlags f) 4 = false ∧ roleKey s ((frameBody f).getD 0 0) = some k ∧
    roleAllowed s 3 ((frameBody f).getD 0 0) = true ∧ (s.dic.sessions.filter (fun e => decide (e.2.path = 3))).length < pathRoom 3
    ∧ bit s.dic.locked 3 = false :=
  ⟨({ spanPage with key := { spanPage.key with slots := [(2, { kind := .aes256, bytes := List.replicate 32 2 })] } }), (fun h => h
    ++ (0 :: List.replicate 19 0) ++ Crypto.cmac [] (h ++ (0 :: List.replicate 19 0))) (frameHead 1 0 7 0 ((0 :: List.replicate 19
    0) : List Nat).length 0), List.replicate 32 2, by unfold dicReady; decide +kernel, by decide +kernel, by decide +kernel,
    by decide +kernel, by decide +kernel, by decide +kernel, by decide +kernel, by decide +kernel, by decide +kernel⟩
set_option maxRecDepth 100000 in
theorem guard_TwinDictionaryAndCatchupActs_2 : ∃ (s : State), awake s = true ∧ visilUp s = true :=
  ⟨(((State.reset.wr R.BLKSTAT_RUNNING 1 0 24).wr R.TWN_STATE_TSTATE 2) |> fun s =>
    { s with dev := .serving, rst := { s.rst with held := false }, twn := { s.twn with link := 1 } }), by decide +kernel,
    by decide +kernel⟩
set_option maxRecDepth 100000 in
theorem guard_TwinDictionaryAndCatchupActs_3 : ∃ (s : State) (tag : Nat), visilUp s = true ∧ tstate s = 1 ∧ s.twn.pairing = 1 ∧
    tag < 32768 :=
  ⟨(((State.reset.wr R.BLKSTAT_RUNNING 1 0 24).wr R.TWN_STATE_TSTATE 1) |> fun s =>
    { s with dev := .serving, rst := { s.rst with held := false }, twn := { s.twn with link := 1, pairing := 1 } }), 1,
    by decide +kernel, by decide +kernel, by decide +kernel, by decide +kernel⟩
set_option maxRecDepth 100000 in
theorem guard_TwinDictionaryAndCatchupActs_4 : ∃ (s : State) (tag : Nat), visilUp s = true ∧ tstate s = 1 ∧ s.twn.pairing = 1 ∧
    tag < 32768 :=
  ⟨(((State.reset.wr R.BLKSTAT_RUNNING 1 0 24).wr R.TWN_STATE_TSTATE 1) |> fun s =>
    { s with dev := .serving, rst := { s.rst with held := false }, twn := { s.twn with link := 1, pairing := 1 } }), 1,
    by decide +kernel, by decide +kernel, by decide +kernel, by decide +kernel⟩
set_option maxRecDepth 100000 in
theorem guard_TwinDictionaryAndCatchupActs_5 : ∃ (s : State) (tag : Nat), visilUp s = true ∧ tstate s = 1 ∧ s.twn.pairing = 1 ∧
    tag < 32768 :=
  ⟨(((State.reset.wr R.BLKSTAT_RUNNING 1 0 24).wr R.TWN_STATE_TSTATE 1) |> fun s =>
    { s with dev := .serving, rst := { s.rst with held := false }, twn := { s.twn with link := 1, pairing := 1 } }), 1,
    by decide +kernel, by decide +kernel, by decide +kernel, by decide +kernel⟩
set_option maxRecDepth 100000 in
theorem guard_TwinDictionaryAndCatchupActs_6 : ∃ (s : State) (p : Nat), visilUp s = true ∧ tstate s = 4 ∧ isSurvivor s = true ∧
    s.twn.cstep = 3 ∧ s.on R.TWN_RESYNC_PAUSE = false ∧ nextChanged s = some p :=
  ⟨(((State.reset.wr R.BLKSTAT_RUNNING 1 0 24).wr R.TWN_STATE_TSTATE 4 |>.wr R.TWN_STATE_ROLE 1) |> fun s =>
    { s with dev := .serving, rst := { s.rst with held := false }, twn := { s.twn with link := 1, cstep := 3 }, log := { s.log with dir := [(1, { mode := 1, changed := 4 })] } }),
    514, by decide +kernel, by decide +kernel, by decide +kernel, by decide +kernel, by decide +kernel, by decide +kernel⟩
set_option maxRecDepth 100000 in
theorem guard_TwinDictionaryAndCatchupActs_7 : ∃ (s : State), visilUp s = true ∧ tstate s = 4 ∧ isSurvivor s = true ∧ s.twn.cstep
    = 4 ∧ s.twn.alignWait = [] ∧ exchanging s = false :=
  ⟨(((State.reset.wr R.BLKSTAT_RUNNING 1 0 24).wr R.TWN_STATE_TSTATE 4 |>.wr R.TWN_STATE_ROLE 1) |> fun s =>
    { s with dev := .serving, rst := { s.rst with held := false }, twn := { s.twn with link := 1, cstep := 4 } }),
    by decide +kernel, by decide +kernel, by decide +kernel, by decide +kernel, by decide +kernel, by decide +kernel⟩
set_option maxRecDepth 100000 in
theorem guard_TwinDictionaryAndCatchupActs_8 : ∃ (s : State), s.dev = .restoring ∧ pairable s = true ∧ tstate s = 0 ∧ s.log.role =
    1 :=
  ⟨(((State.reset.wr R.BLKSTAT_RUNNING 1 0 24)) |> fun s =>
    { s with dev := .restoring, rst := { s.rst with held := false }, sav := { s.sav with rstep := 7 }, log := { s.log with role := 1 } }),
    by decide +kernel, by decide +kernel, by decide +kernel, by decide +kernel⟩
set_option maxRecDepth 100000 in
theorem guard_TwinDictionaryAndCatchupActs_9 : ∃ (s : State) (u : State), twnRuns s = true ∧ u = cmdRun s (ekey 0x2402 1) ∧ tstate
    u = 0 ∧ pairable u = true ∧ u.log.role ≠ 2 :=
  ⟨(((State.reset.wr R.BLKSTAT_RUNNING 1 0 24)) |> fun s =>
    { s with dev := .serving, rst := { s.rst with held := false }, twn := { s.twn with link := 1 } }), _, by decide +kernel, rfl,
    by decide +kernel, by decide +kernel, by decide +kernel⟩
set_option maxRecDepth 100000 in
theorem guard_TwinDictionaryAndCatchupActs_10 : ∃ (s : State) (u : State), twnRuns s = true ∧ u = cmdRun s (ekey 0x2402 2) ∧
    tstate u = 5 ∧ visilUp u = true ∧ u.twn.spanCmd = false ∧ isSurvivor u = false :=
  ⟨(((State.reset.wr R.BLKSTAT_RUNNING 1 0 24).wr R.TWN_STATE_TSTATE 5) |> fun s =>
    { s with dev := .serving, rst := { s.rst with held := false }, twn := { s.twn with link := 1 } }), _, by decide +kernel, rfl,
    by decide +kernel, by decide +kernel, by decide +kernel, by decide +kernel⟩
set_option maxRecDepth 100000 in
theorem guard_TwinDictionaryAndCatchupActs_11 : ∃ (s : State) (u : State), twnRuns s = true ∧ u = cmdRun s (ekey 0x2402 3) ∧
    isSpan u = true ∧ isSpan (twinDepart 3 u) = false :=
  ⟨(((State.reset.wr R.BLKSTAT_RUNNING 1 0 24).wr R.TWN_STATE_TSTATE 2) |> fun s =>
    { s with dev := .serving, rst := { s.rst with held := false }, twn := { s.twn with link := 1 } }), _, by decide +kernel, rfl,
    by decide +kernel, by decide +kernel⟩
set_option maxRecDepth 100000 in
theorem guard_TwinDictionaryAndCatchupActs_12 : ∃ (s : State) (u v : State), twnRuns s = true ∧ u = cmdRun s (ekey 0x2402 4) ∧
    tstate u = 0 ∧ pairable u = true ∧ u.twn.lastDec = 2 ∧ v = unpair (setRole (recountDirty (setPair u u.log.pairId (u.log.pgen -
    1))) 2) :=
  ⟨(((State.reset.wr R.BLKSTAT_RUNNING 1 0 24)) |> fun s =>
    { s with dev := .serving, rst := { s.rst with held := false }, twn := { s.twn with lastDec := 2 } }), _, _, by decide +kernel,
    rfl, by decide +kernel, by decide +kernel, by decide +kernel, rfl⟩
set_option maxRecDepth 100000 in
theorem guard_TwinDictionaryAndCatchupActs_13 : ∃ (s : State) (u : State), twnRuns s = true ∧ u = cmdRun s (ekey 0x2402 5) ∧
    tstate u = 0 ∧ pairable u = true :=
  ⟨(((State.reset.wr R.BLKSTAT_RUNNING 1 0 24)) |> fun s =>
    { s with dev := .serving, rst := { s.rst with held := false }, twn := { s.twn with link := 1 } }), _, by decide +kernel, rfl,
    by decide +kernel, by decide +kernel⟩
set_option maxRecDepth 100000 in
theorem guard_TwinDictionaryAndCatchupActs_14 : ∃ (s : State) (session p : Nat) (x : Nat × Nat × Nat) (u : State), twnRuns s =
    true ∧ u = cmdRun s (ekey 0x2440 7) ∧ (u.log.fences.drop (sessEnt u session (ekey 0x2440 1) 0)).head? = some (p, x) ∧ visilUp
    u = true ∧ tstate u ≠ 0 ∧ mySide u = 0 :=
  ⟨(((State.reset.wr R.BLKSTAT_RUNNING 1 0 24).wr R.TWN_STATE_TSTATE 2) |> fun s =>
    { s with dev := .serving, rst := { s.rst with held := false }, twn := { s.twn with link := 1 }, log := { s.log with fences := [(9, (1, 2, 3))] } }),
    7, 9, (1, 2, 3), _, by decide +kernel, rfl, by decide +kernel, by decide +kernel, by decide +kernel, by decide +kernel⟩
theorem guard_TierAndTenantActs_0 : ∃ (s : State) (p start : Nat), s.tie.fills.find? p = some start ∧ (pageFrame s p).pstate ≠
    .filling ∧ awake s = true :=
  ⟨{ State.reset with dev := .serving, tie := { State.reset.tie with fills := [(5, 0)] } }, 5, 0, by decide, by decide, by decide⟩
theorem guard_TierAndTenantActs_1 : ∃ (s : State) (p start : Nat) (rd : CwRead) (u : State) (q : State × Nat), s.tie.fills.find? p
    = some start ∧ (pageFrame s p).pstate = .filling ∧ (storeAt s p).sstate = 1 ∧ readDie s (storeAt s p).ch (storeAt s p).die =
    some u ∧ q = readCw u (storeAt s p) rd false ∧ q.2 < 2 ∧ awake s = true :=
  ⟨(storePage .filling), 2, 0, { retries := 0, failing := 0, corr := 0, above := [], below := [] }, storePage .filling, _,
    by decide, by decide, by decide, by decide, rfl, by decide, by decide⟩
theorem guard_TierAndTenantActs_2 : ∃ (s : State) (p : Fin 4) (r : Req), s.xpt.reqs.find? (fun r => r.returned && r.stage =
    .admitting && pipeOf r.lport = p.val && decide ((s.xpt.reqs.filter (fun x => pipeOf x.lport = p.val && x.parts.any (fun y =>
    y.st = .parked))).length < 4096) && decide (parkedOf s (qpAt s r.qp).tenant < (tenantAt s (qpAt s r.qp).tenant).parklim)) =
    some r ∧ awake s = true :=
  ⟨((State.reset.wr R.TWN_STATE_TSTATE 3) |> fun s =>
    { s with dev := .serving, rst := { s.rst with held := false }, xpt := { s.xpt with reqs := [{ id := 5, qp := 3, lport := 0, psn := 0, npsn := 1, kind := .read, rkey := 0, va := 0, len := 0, payload := [], compare := 0, swapAdd := 0, ackReq := true, last := false, imm := none, stage := .admitting, returned := true }] } }),
    0,
    { id := 5, qp := 3, lport := 0, psn := 0, npsn := 1, kind := .read, rkey := 0, va := 0, len := 0, payload := [], compare := 0, swapAdd := 0, ackReq := true, last := false, imm := none, stage := .admitting, returned := true },
    by decide, by decide⟩
theorem guard_TierAndTenantActs_3 : ∃ (s : State), s.xpt.reqs = [] ∧ awake s = true :=
  ⟨{ State.reset with dev := .serving }, by decide, by decide⟩
theorem guard_TierAndTenantActs_4 : ∃ (s : State) (p : Nat), s.dev = .serving ∧ s.running 23 = true ∧ nextClean s = some p :=
  ⟨(storePage .dirty), 2, by decide, by decide, by decide⟩
theorem guard_TierAndTenantActs_5 : ∃ (s : State), s.dev = .serving ∧ s.running 23 = true :=
  ⟨((State.reset.wr R.BLKSTAT_RUNNING 1 0 23) |> fun s => { s with dev := .serving, rst := { s.rst with held := false } }),
    by decide, by decide⟩
theorem guard_TierAndTenantActs_6 : ∃ (s : State) (ref : Nat) (r : OpenRow) (e : RowEnt), s.stf.open_ = some r ∧ r.ents.find? (fun
    e => e.what = 1 && e.ref = ref) = some e ∧ r.programming = true ∧ awake s = true :=
  ⟨((State.reset) |> fun s =>
    { s with dev := .serving, rst := { s.rst with held := false }, stf := { s.stf with open_ := some { sb := 0, row := 0, ents := [{ what := 1, ref := 7, word := { kind := 1, spage := 0, epoch := 0, poison := 0, data := [] }, loc := { sstate := 1, ch := 2 }, source := {} }], programming := true } } }),
    7,
    { sb := 0, row := 0, ents := [{ what := 1, ref := 7, word := { kind := 1, spage := 0, epoch := 0, poison := 0, data := [] }, loc := { sstate := 1, ch := 2 }, source := {} }], programming := true },
    { what := 1, ref := 7, word := { kind := 1, spage := 0, epoch := 0, poison := 0, data := [] }, loc := { sstate := 1, ch := 2 }, source := {} },
    by decide, by decide, by decide, by decide⟩
theorem guard_TierAndTenantActs_7 : ∃ (s : State) (ref : Nat) (r : OpenRow) (e : RowEnt), s.stf.open_ = some r ∧ r.ents.find? (fun
    e => e.what = 1 && e.ref = ref) = some e ∧ r.programming = true ∧ ref % 3 ≠ 0 ∧ cleanedAgain
    { s with stf := { s.stf with open_ := some (padOut r e) } } ref = false ∧ awake s = true :=
  ⟨((State.reset) |> fun s =>
    { s with dev := .serving, rst := { s.rst with held := false }, stf := { s.stf with open_ := some { sb := 0, row := 0, ents := [{ what := 1, ref := 7, word := { kind := 1, spage := 0, epoch := 0, poison := 0, data := [] }, loc := { sstate := 1, ch := 2 }, source := {} }], programming := true } } }),
    7,
    { sb := 0, row := 0, ents := [{ what := 1, ref := 7, word := { kind := 1, spage := 0, epoch := 0, poison := 0, data := [] }, loc := { sstate := 1, ch := 2 }, source := {} }], programming := true },
    { what := 1, ref := 7, word := { kind := 1, spage := 0, epoch := 0, poison := 0, data := [] }, loc := { sstate := 1, ch := 2 }, source := {} },
    by decide, by decide, by decide, by decide, by decide, by decide⟩
theorem guard_TierAndTenantActs_8 : ∃ (s : State), s.on R.TIE_HEAT_FREEZE = false ∧ s.running 23 = true ∧ awake s = true :=
  ⟨((State.reset.wr R.BLKSTAT_RUNNING 1 0 23) |> fun s => { s with dev := .serving, rst := { s.rst with held := false } }),
    by decide, by decide, by decide⟩
theorem guard_TierAndTenantActs_9 : ∃ (s : State) (g : Nat) (x : Group), s.tie.groups.find? g = some x ∧ s.dev = .serving ∧
    s.running 23 = true ∧ poolExtent (heatVisit { s with tie := { s.tie with press := pressure s } } x.extent) x.extent = false ∧
    awake s = true :=
  ⟨((State.reset.wr R.BLKSTAT_RUNNING 1 0 23) |> fun s =>
    { s with dev := .serving, rst := { s.rst with held := false }, tie := { s.tie with recs := [(0, { tenants := [], twin := true })], groups := [(4, { extent := 9, seen := 0 })] }, maps := { s.maps with extents := [(9, { charge := 0x80000000 })] } }),
    4, { extent := 9, seen := 0 }, by decide, by decide, by decide, by decide, by decide⟩
theorem guard_TierAndTenantActs_10 : ∃ (s : State), awake s = true :=
  ⟨{ State.reset with dev := .serving }, by decide⟩
theorem guard_TierAndTenantActs_11 : ∃ (s : State), awake s = true :=
  ⟨{ State.reset with dev := .serving }, by decide⟩
theorem guard_TierAndTenantActs_12 : ∃ (s : State), awake s = true ∧ s.running 23 = true ∧ tenantBad (tenantShadow s) = none ∧
    quotaSum (tenantShadow s) + s.rd R.TIE_HIWATER_HIWATER ≤ dataGroups s :=
  ⟨((State.reset.wr R.BLKSTAT_RUNNING 1 0 23 |>.wr R.TIE_HIWATER_HIWATER 0) |> fun s =>
    { s with dev := .serving, rst := { s.rst with held := false } }), by decide, by decide, by decide, by decide⟩
theorem guard_TierAndTenantActs_13 : ∃ (s : State) (i : Nat), awake s = true ∧ tenantBad (tenantShadow s) = some i :=
  ⟨((State.reset) |> fun s =>
    { s with dev := .serving, rst := { s.rst with held := false }, tie := { s.tie with tenEdit := [(4, { parklim := 3 })] } }), 4,
    by decide, by decide⟩
theorem guard_TierAndTenantActs_14 : ∃ (s : State), s.on R.TIE_STAT_REBUILD = true ∧ awake s = true :=
  ⟨((State.reset.wr R.TIE_STAT_REBUILD 1) |> fun s => { s with dev := .serving, rst := { s.rst with held := false } }), by decide,
    by decide⟩
theorem guard_TierAndTenantActs_15 : ∃ (s : State), awake s = true ∧ fwUp s = true :=
  ⟨{ State.reset with dev := .serving, cpx := { State.reset.cpx with entry := some 0 } }, by decide, by decide⟩
theorem guard_LendingAndGovernorActs_0 : ∃ (s : State), awake s = true ∧ fwUp s = true ∧ pciRequests s = true :=
  ⟨((State.reset.wr R.PCI_STAT_LINKUP 1) |> fun s =>
    { s with dev := .serving, rst := { s.rst with held := false }, cpx := { s.cpx with entry := some 0 } }), by decide, by decide,
    by decide⟩
theorem guard_LendingAndGovernorActs_1 : ∃ (s : State), awake s = true ∧ fwUp s = true ∧ lendUsed s = true :=
  ⟨((State.reset.wr R.XPT_CTXCFG_LOC 1 0 2) |> fun s =>
    { s with dev := .serving, rst := { s.rst with held := false }, cpx := { s.cpx with entry := some 0 } }), by decide, by decide,
    by decide⟩
theorem guard_LendingAndGovernorActs_2 : ∃ (s : State), awake s = true ∧ fwUp s = true ∧ lendUsed s = false :=
  ⟨((State.reset) |> fun s =>
    { s with dev := .serving, rst := { s.rst with held := false }, cpx := { s.cpx with entry := some 0 }, tie := { s.tie with lend := [(0, 1, 0)] } }),
    by decide, by decide, by decide⟩
theorem guard_LendingAndGovernorActs_3 : ∃ (s : State), s.rd R.TIE_STAT_HSTATE = 1 ∧ s.rd R.PCI_STAT_DSTATE ≠ 3 ∧ s.tie.hfail = []
    ∧ awake s = true :=
  ⟨((State.reset.wr R.TIE_STAT_HSTATE 1) |> fun s => { s with dev := .serving, rst := { s.rst with held := false } }), by decide,
    by decide, by decide, by decide⟩
theorem guard_LendingAndGovernorActs_4 : ∃ (s : State) (tenant : Nat) (c : Nat) (u : State), awake s = true ∧ c = ekey 0x2530 2 ∧
    u = addCharge (cmdRun s c) (ent s (ekey 0x2530 1) 0) tenant ∧ ent s (ekey 0x2530 1) 0 < pext s ∧ tenant ≤ 1023 ∧ (extentAt s
    (ent s (ekey 0x2530 1) 0)).estate = 2 ∧ decides u = true ∧ (extentAt u (ent s (ekey 0x2530 1) 0)).ingroup = true ∧ overQuota u
    tenant = false :=
  ⟨((State.reset.wr R.TRN_PSPACE_PEXT 16) |> fun s =>
    { s with dev := .serving, rst := { s.rst with held := false }, maps := { s.maps with extents := [(0, { estate := 2, ingroup := true })] } }),
    1, _, _, by decide, rfl, rfl, by decide, by decide, by decide, by decide, by decide, by decide⟩
theorem guard_LendingAndGovernorActs_5 : ∃ (s : State), awake s = true ∧ ent s (ekey 0x2530 1) 0 < pext s :=
  ⟨((State.reset.wr R.TRN_PSPACE_PEXT 16) |> fun s =>
    { s with dev := .serving, rst := { s.rst with held := false }, maps := { s.maps with extents := [(0, { estate := 2, ingroup := true })] } }),
    by decide, by decide⟩
theorem guard_LendingAndGovernorActs_6 : ∃ (s : State) (vmod : List Nat) (u : State), awake s = true ∧ s.running 21 = true ∧
    s.rst.held = false ∧ u = setVmod (markOut vmod s) vmod ∧ u.rd R.GOV_RBLEED_RBLEED ≠ 0 :=
  ⟨((State.reset.wr R.BLKSTAT_RUNNING 1 0 21 |>.wr R.GOV_RBLEED_RBLEED 100) |> fun s =>
    { s with dev := .serving, rst := { s.rst with held := false } }), [12000], _, by decide, by decide, by decide, rfl, by decide⟩
theorem guard_LendingAndGovernorActs_7 : ∃ (s : State) (vmod : List Nat), s.dev = .saving ∧ s.sav.sealed = 0 ∧ liveEnergy (setVmod
    s vmod) / 2000000000000000 ≤ s.rd R.SAV_SHUTRES_SHUTRES :=
  ⟨{ State.reset with dev := .saving }, [0, 0, 0, 0, 0, 0, 0, 0], by decide, by decide, by decide⟩
theorem guard_LendingAndGovernorActs_8 : ∃ (s : State) (vmod : List Nat), s.dev = .saving ∧ s.rd R.SAV_SHUTRES_SHUTRES <
    liveEnergy (setVmod s vmod) / 2000000000000000 :=
  ⟨((State.reset.wr R.GOV_CTL_MODEN 1 |>.wr R.GOV_CMEAS 50000 0 0 |>.wr R.SAV_SHUTRES_SHUTRES 0) |> fun s =>
    { s with dev := .saving, rst := { s.rst with held := false }, gov := { s.gov with readMask := 0 } }), [12000], by decide,
    by decide⟩
theorem guard_SaveAndRestoreActs_0 : ∃ (s : State) (n : Nat), s.dev = .saving ∧ 2 ≤ n ∧ n ≤ 8 ∧ bit s.sav.steps n = false ∧
    (stepNeeds n).all (fun k => bit s.sav.steps k) = true :=
  ⟨{ State.reset with dev := .saving, sav := { State.reset.sav with steps := 2 } }, 2, by decide, by decide, by decide, by decide,
    by decide⟩
theorem guard_SaveAndRestoreActs_1 : ∃ (s : State) (r : Seal) (im : SaveImage), s.dev = .saving ∧ s.sav.sealRec = some r ∧
    s.sav.img = some im :=
  ⟨{ State.reset with dev := .saving, sav := { State.reset.sav with sealRec := some { seq := 1, state := 1, cause := 0, firstSb := 0, sbUsed := 0, pages := 0, dirA := 0, dirB := 0, dirCrc := 0, rmeas := 0, pmeas := 0, pext := 0, dgroups := 0, level := 2, usable := [] }, img := some { maps := State.reset.maps, log := State.reset.log, pages := [] } } },
    { seq := 1, state := 1, cause := 0, firstSb := 0, sbUsed := 0, pages := 0, dirA := 0, dirB := 0, dirCrc := 0, rmeas := 0, pmeas := 0, pext := 0, dgroups := 0, level := 2, usable := [] },
    { maps := State.reset.maps, log := State.reset.log, pages := [] }, by decide, by decide, by decide⟩
theorem guard_SaveAndRestoreActs_2 : ∃ (s : State), s.dev = .filling :=
  ⟨{ State.reset with dev := .filling }, by decide⟩
theorem guard_SaveAndRestoreActs_3 : ∃ (s : State) (n : Nat), s.dev = .restoring ∧ n = s.sav.rstep ∧ 1 ≤ n ∧ n ≤ 7 :=
  ⟨{ State.reset with dev := .restoring, sav := { State.reset.sav with rstep := 2 } }, _, by decide, rfl, by decide, by decide⟩
theorem guard_SaveAndRestoreActs_4 : ∃ (s : State), s.dev = .restoring ∧ 7 ≤ s.sav.rstep ∧ gateMiss s = 0 ∧ s.on R.SAV_GATE_FWOK =
    true ∧ s.twn.spanReq = false :=
  ⟨((State.reset.wr R.SAV_GATE_FWOK 1 |>.wr R.GOV_CTL_MODEN 0 |>.wr R.TWN_STATE_TSTATE 3 |>.wr R.GAI_ROW_DIRTYFRAC 255 0 2) |> fun s
    =>
    { s with dev := .restoring, rst := { s.rst with held := false }, sav := { s.sav with rstep := 7 }, gov := { s.gov with ceil := 2 ^ 60 } }),
    by decide, by decide, by decide, by decide, by decide⟩
theorem guard_SaveAndRestoreActs_5 : ∃ (s : State), s.dev = .restoring ∧ 7 ≤ s.sav.rstep ∧ gateMiss s ≠ 0 :=
  ⟨{ State.reset with dev := .restoring, sav := { State.reset.sav with rstep := 7 } }, by decide, by decide, by decide⟩
theorem guard_SaveAndRestoreActs_6 : ∃ (s : State), s.dev = .serving ∧ s.running 18 = true ∧ s.rd R.SAV_STAT_PHASE = 5 ∧
    s.sav.dirtySb.all (fun k => decide ((blkAt s k).state = 5)) = true :=
  ⟨((State.reset.wr R.BLKSTAT_RUNNING 1 0 18 |>.wr R.SAV_STAT_PHASE 5) |> fun s =>
    { s with dev := .serving, rst := { s.rst with held := false }, sav := { s.sav with dirtySb := [3] }, maps := { s.maps with blocks := [(3, { state := 5 })] } }),
    by decide, by decide, by decide, by decide⟩
theorem guard_SaveAndRestoreActs_7 : ∃ (s : State), s.dev = .serving ∧ s.running 22 = true ∧ s.sav.rehearsal = none ∧ s.rd
    R.SAV_STAT_PHASE = 0 ∧ (blkAt s (rehearseSb s)).state = 0 ∧ s.rd R.SAV_REHEARSE_PERIOD ≠ 0 :=
  ⟨((State.reset.wr R.BLKSTAT_RUNNING 1 0 22 |>.wr R.SAV_REHEARSE_PERIOD 24) |> fun s =>
    { s with dev := .serving, rst := { s.rst with held := false } }), by decide, by decide, by decide, by decide, by decide,
    by decide⟩
theorem guard_SaveAndRestoreActs_8 : ∃ (s : State) (u : State), s.dev = .serving ∧ s.running 22 = true ∧ s.sav.rehearsal = none ∧
    s.rd R.SAV_STAT_PHASE = 0 ∧ (blkAt s (rehearseSb s)).state = 0 ∧ s.rd R.SAV_REHEARSE_PERIOD ≠ 0 ∧ u = storeChannels.foldl (fun
    v n => farAsk v rehearseOwner n) s ∧ farHolds u rehearseOwner storeChannels = true :=
  ⟨((State.reset.wr R.BLKSTAT_RUNNING 1 0 22) |> fun s => { s with dev := .serving, rst := { s.rst with held := false } }), _,
    by decide, by decide, by decide, by decide, by decide, by decide, rfl, by decide +kernel⟩
theorem guard_SaveAndRestoreActs_9 : ∃ (s : State) (u : State), s.dev = .serving ∧ s.running 22 = true ∧ s.sav.rehearsal = none ∧
    u = cmdRun s (ekey 0x2611 1) ∧ (blkAt s (rehearseSb s)).state = 0 :=
  ⟨((State.reset.wr R.BLKSTAT_RUNNING 1 0 22) |> fun s => { s with dev := .serving, rst := { s.rst with held := false } }), _,
    by decide, by decide, by decide, rfl, by decide⟩
theorem guard_SaveAndRestoreActs_10 : ∃ (s : State), s.dev = .serving ∧ s.sav.rehearsal.isSome = true ∧ storeChannels.any
    (higherWaits s rehearseOwner) = false :=
  ⟨{ State.reset with dev := .serving, sav := { State.reset.sav with rehearsal := some 0 } }, by decide, by decide, by decide⟩
theorem guard_JobCommandsAct_0 : ∃ (s : State) (j : Nat) (u : State), awake s = true ∧ j < 8192 ∧ u = submitRegs s 0 j ∧ j <
    jlPages u ∧ jstate u j = 0 ∧ recordBad u j = false :=
  ⟨((State.reset.wr R.MST_JLPAGES_JLPAGES 1 |>.wr R.TRN_PSPACE_PEXT 1) |> fun s =>
    { s with dev := .serving, xpt := { s.xpt with reqs := [{ id := 1, qp := 0, lport := 0, psn := 0, npsn := 0, kind := .write, rkey := 0, va := 0, len := 64, payload := ([2 ^ 45, 0, 2 ^ 48, 0, 0, 0, 0, 0]).flatMap (fun w => leBytes w 8), compare := 0, swapAdd := 0, ackReq := false, last := true, imm := none, stage := .place, mst := true }] } }),
    0, _, by decide, by decide, rfl, by decide, by decide, by decide⟩
theorem guard_JobCommandsAct_1 : ∃ (s : State) (j : Nat) (u : State), awake s = true ∧ j < 8192 ∧ u = submitRegs s 0 j ∧ j <
    jlPages u ∧ jstate u j = 0 ∧ recordBad u j = true :=
  ⟨((State.reset.wr R.MST_JLPAGES_JLPAGES 1 |>.wr R.TRN_PSPACE_PEXT 1) |> fun s =>
    { s with dev := .serving, xpt := { s.xpt with reqs := [{ id := 1, qp := 0, lport := 0, psn := 0, npsn := 0, kind := .write, rkey := 0, va := 0, len := 64, payload := ([0, 0, 0, 0, 0, 0, 0, 0]).flatMap (fun w => leBytes w 8), compare := 0, swapAdd := 0, ackReq := false, last := true, imm := none, stage := .place, mst := true }] } }),
    0, _, by decide, by decide, rfl, by decide, by decide, by decide⟩
theorem guard_JobCommandsAct_2 : ∃ (s : State) (j : Nat) (u : State), awake s = true ∧ j < 8192 ∧ u = submitRegs s 1 j ∧ j <
    jlPages u ∧ jstate u j = 1 :=
  ⟨((State.reset.wr R.MST_JLPAGES_JLPAGES 1 |>.wr R.TRN_PSPACE_PEXT 1) |> fun s =>
    { s with dev := .serving, xpt := { s.xpt with reqs := [{ id := 1, qp := 0, lport := 0, psn := 0, npsn := 0, kind := .write, rkey := 0, va := 0, len := 64, payload := ([2 ^ 45 + 1 * 2 ^ 61, 7, 2 ^ 48, 0, 0, 0, 0, 0]).flatMap (fun w => leBytes w 8), compare := 0, swapAdd := 0, ackReq := false, last := true, imm := none, stage := .place, mst := true }] } }),
    0, _, by decide, by decide, rfl, by decide, by decide⟩
theorem guard_JobCommandsAct_3 : ∃ (s : State) (j : Nat) (u : State), awake s = true ∧ j < 8192 ∧ u = submitRegs s 2 j ∧ j <
    jlPages u ∧ jstate u j = 4 :=
  ⟨((State.reset.wr R.MST_JLPAGES_JLPAGES 1 |>.wr R.TRN_PSPACE_PEXT 1) |> fun s =>
    { s with dev := .serving, xpt := { s.xpt with reqs := [{ id := 1, qp := 0, lport := 0, psn := 0, npsn := 0, kind := .write, rkey := 0, va := 0, len := 64, payload := ([2 ^ 45 + 4 * 2 ^ 61, 7, 2 ^ 48, 0, 0, 0, 0, 0]).flatMap (fun w => leBytes w 8), compare := 0, swapAdd := 0, ackReq := false, last := true, imm := none, stage := .place, mst := true }] } }),
    0, _, by decide, by decide, rfl, by decide, by decide⟩
theorem guard_JobCommandsAct_4 : ∃ (s : State) (sess j : Nat) (u : State), awake s = true ∧ j = sessEnt s sess (ekey 0x2720 1) 0 ∧
    u = cmdRun s (ekey 0x2720 0x0A) ∧ j < jlPages u ∧ jstate u j = 1 :=
  ⟨((State.reset.wr R.MST_JLPAGES_JLPAGES 1 |>.wr R.TRN_PSPACE_PEXT 1) |> fun s =>
    { s with dev := .serving, xpt := { s.xpt with reqs := [{ id := 1, qp := 0, lport := 0, psn := 0, npsn := 0, kind := .write, rkey := 0, va := 0, len := 64, payload := ([2 ^ 45 + 1 * 2 ^ 61, 7, 2 ^ 48, 0, 0, 0, 0, 0]).flatMap (fun w => leBytes w 8), compare := 0, swapAdd := 0, ackReq := false, last := true, imm := none, stage := .place, mst := true }] } }),
    7, _, _, by decide, rfl, rfl, by decide, by decide⟩
theorem guard_JobCommandsAct_5 : ∃ (s : State) (sess j : Nat) (u : State), awake s = true ∧ j = sessEnt s sess (ekey 0x2720 1) 0 ∧
    u = cmdRun s (ekey 0x2720 0x0B) ∧ j < jlPages u ∧ jstate u j = 4 :=
  ⟨((State.reset.wr R.MST_JLPAGES_JLPAGES 1 |>.wr R.TRN_PSPACE_PEXT 1) |> fun s =>
    { s with dev := .serving, xpt := { s.xpt with reqs := [{ id := 1, qp := 0, lport := 0, psn := 0, npsn := 0, kind := .write, rkey := 0, va := 0, len := 64, payload := ([2 ^ 45 + 4 * 2 ^ 61, 7, 2 ^ 48, 0, 0, 0, 0, 0]).flatMap (fun w => leBytes w 8), compare := 0, swapAdd := 0, ackReq := false, last := true, imm := none, stage := .place, mst := true }] } }),
    7, _, _, by decide, rfl, rfl, by decide, by decide⟩
theorem guard_JobCommandsAct_6 : ∃ (s : State) (q j n k : Nat) (a b : State × Bool), s.dev = .serving ∧ s.mst.queue = [(q, j)] ∧
    s.mst.passed.get q 0 < 64 ∧ fits s j = some (n, k) ∧ a = spaceSeek s (recAddr s j) 4096 ∧ b = spaceSeek a.1 (bits (recWord s j
    2) 0 48) (16 * bits (recWord s j 2) 48 11) ∧ a.2 = false ∧ b.2 = false :=
  ⟨((State.reset.wr R.BLKSTAT_RUNNING 1 0 34) |> fun s => { s with dev := .serving, mst := { s.mst with queue := [(7, 0)] } }), 7,
    0, 0, 0, _, _, by decide, by decide, by decide, by decide +kernel, rfl, rfl, by decide +kernel, by decide +kernel⟩
theorem guard_JobCommandsAct_7 : ∃ (s : State) (n : Fin 8) (k first : Nat) (j : Job) (u v : State), awake s = true ∧ s.takes (34 +
    n.val) = true ∧ u = noteStalls s n ∧ first = (if u.mst.turnCnt.get n 0 < u.rd R.MST_DEFAULTS_QUANTUM then u.mst.turnSlot.get n
    0 else u.mst.turnSlot.get n 0 + 1) ∧ ((List.range 16).map (fun i => (first + i) % 16)).findSome? (fun k => (jobAt u n k).bind
    (fun j => if ready u j then some (k, j) else none)) = some (k, j) ∧ tryIssue u j = .done v :=
  ⟨((State.reset.wr R.BLKSTAT_RUNNING 1 0 36) |> fun s =>
    { s with dev := .serving, mst := { s.mst with jobs := [{ index := 0, jseq := 1, mst := 2, slot := 3, list := [2 ^ 120, 0, 0x10 * 2 ^ 120], window := 1, half := 0, stageto := 0, peers := [], bank := [], rbank := 0, pc := 0, iter := 0, turn := 0, stages := 0, next := 1, started := true }] } }),
    2, 3, _,
    { index := 0, jseq := 1, mst := 2, slot := 3, list := [2 ^ 120, 0, 0x10 * 2 ^ 120], window := 1, half := 0, stageto := 0, peers := [], bank := [], rbank := 0, pc := 0, iter := 0, turn := 0, stages := 0, next := 1, started := true },
    _, _, by decide, by decide, rfl, rfl, by decide, rfl⟩
theorem guard_JobCommandsAct_8 : ∃ (s : State) (n : Fin 8) (slot : Fin 16) (turn : Nat) (j : Job), awake s = true ∧ jobAt s n slot
    = some j ∧ j.ops.find? (fun o => o.key = opKey j.next turn) = none :=
  ⟨((State.reset.wr R.BLKSTAT_RUNNING 1 0 36) |> fun s =>
    { s with dev := .serving, mst := { s.mst with jobs := [{ index := 0, jseq := 1, mst := 2, slot := 3, list := [2 ^ 120, 0, 0x10 * 2 ^ 120], window := 1, half := 0, stageto := 0, peers := [], bank := [], rbank := 0, pc := 0, iter := 0, turn := 0, stages := 0, next := 1, started := true }] } }),
    2, 3, 0,
    { index := 0, jseq := 1, mst := 2, slot := 3, list := [2 ^ 120, 0, 0x10 * 2 ^ 120], window := 1, half := 0, stageto := 0, peers := [], bank := [], rbank := 0, pc := 0, iter := 0, turn := 0, stages := 0, next := 1, started := true },
    by decide, by decide, by decide⟩
theorem guard_JobCommandsAct_9 : ∃ (s : State) (n : Fin 8) (slot : Fin 16) (pc turn corr len a : Nat) (rd : CwRead) (j : Job) (o :
    MOp) (u : State) (f q : State × Bool), awake s = true ∧ jobAt s n slot = some j ∧ j.ops.find? (fun o => o.key = opKey pc turn)
    = some o ∧ iOp (instrAt j o.pc) = 2 ∧ u = s.bump C.MST_SRAMCORR corr 0 n ∧ len = 64 * bits (instrAt j o.pc) 88 11 ∧ a = bits
    (instrAt j o.pc) 46 42 * 64 + strideOf j (instrAt j o.pc) o.header o.iter ∧ f = fetchPages u a len rd ∧ f.2 = false ∧ q =
    spaceSeek f.1 a len ∧ q.2 = false ∧ spacePoison q.1 a len = false ∧ spaceBad q.1 a len = false :=
  ⟨((State.reset.wr R.BLKSTAT_RUNNING 1 0 36 |>.wr R.TRN_PSPACE_PEXT 16) |> fun s =>
    { s with dev := .serving, mst := { s.mst with jobs := [{ index := 0, jseq := 1, mst := 2, slot := 3, list := [2 ^ 120, 2 * 2 ^ 120 + 2 ^ 88, 0x10 * 2 ^ 120], window := 1, half := 0, stageto := 0, peers := [], bank := [], rbank := 0, pc := 0, iter := 0, turn := 0, stages := 0, next := 1, started := true, ops := [{ pc := 1, unit := 2, turn := 0, iter := 0, header := 0 }] }] } , maps := { s.maps with extents := [(0, { estate := 2, ingroup := true })] } }),
    2, 3, 1, 0, 0, _, _, { retries := 0, failing := 0, corr := 0, above := [], below := [] },
    { index := 0, jseq := 1, mst := 2, slot := 3, list := [2 ^ 120, 2 * 2 ^ 120 + 2 ^ 88, 0x10 * 2 ^ 120], window := 1, half := 0, stageto := 0, peers := [], bank := [], rbank := 0, pc := 0, iter := 0, turn := 0, stages := 0, next := 1, started := true, ops := [{ pc := 1, unit := 2, turn := 0, iter := 0, header := 0 }] },
    { pc := 1, unit := 2, turn := 0, iter := 0, header := 0 }, _, _, _, by decide, by decide, by decide, by decide, rfl, rfl, rfl,
    rfl, by decide, rfl, by decide, by decide, by decide⟩
theorem guard_JobCommandsAct_10 : ∃ (s : State) (n : Fin 8) (slot : Fin 16) (pc turn : Nat) (j : Job) (o : MOp), awake s = true ∧
    jobAt s n slot = some j ∧ j.ops.find? (fun o => o.key = opKey pc turn) = some o :=
  ⟨((State.reset.wr R.BLKSTAT_RUNNING 1 0 36) |> fun s =>
    { s with dev := .serving, mst := { s.mst with jobs := [{ index := 0, jseq := 1, mst := 2, slot := 3, list := [2 ^ 120, 0, 0x10 * 2 ^ 120], window := 1, half := 0, stageto := 0, peers := [], bank := [], rbank := 0, pc := 0, iter := 0, turn := 0, stages := 0, next := 1, started := true, ops := [{ pc := 1, unit := 2, turn := 0, iter := 0, header := 0 }] }] } }),
    2, 3, 1, 0,
    { index := 0, jseq := 1, mst := 2, slot := 3, list := [2 ^ 120, 0, 0x10 * 2 ^ 120], window := 1, half := 0, stageto := 0, peers := [], bank := [], rbank := 0, pc := 0, iter := 0, turn := 0, stages := 0, next := 1, started := true, ops := [{ pc := 1, unit := 2, turn := 0, iter := 0, header := 0 }] },
    { pc := 1, unit := 2, turn := 0, iter := 0, header := 0 }, by decide, by decide, by decide⟩
set_option maxRecDepth 100000 in
theorem guard_MillstoneActs_0 : ∃ (s : State) (n : Fin 8) (slot : Fin 16) (j : Job), awake s = true ∧ jobAt s n slot = some j ∧
    j.phase = 2 ∧ j.commitReqs = [] ∧ iOp (instrAt j (nextStage j).1) = 0x10 :=
  ⟨((State.reset.wr R.BLKSTAT_RUNNING 1 0 36) |> fun s =>
    { s with dev := .serving, mst := { s.mst with jobs := [{ index := 0, jseq := 1, mst := 2, slot := 3, list := [2 ^ 120, 0, 0x10 * 2 ^ 120], window := 1, half := 0, stageto := 0, peers := [], bank := [], rbank := 0, pc := 0, iter := 0, turn := 0, stages := 0, next := 1, started := true, phase := 2 }] } }),
    2, 3,
    { index := 0, jseq := 1, mst := 2, slot := 3, list := [2 ^ 120, 0, 0x10 * 2 ^ 120], window := 1, half := 0, stageto := 0, peers := [], bank := [], rbank := 0, pc := 0, iter := 0, turn := 0, stages := 0, next := 1, started := true, phase := 2 },
    by decide +kernel, by decide +kernel, by decide +kernel, by decide +kernel, by decide +kernel⟩
set_option maxRecDepth 100000 in
theorem guard_MillstoneActs_1 : ∃ (s : State) (n : Fin 8) (slot : Fin 16) (j : Job) (pc : Nat), awake s = true ∧ jobAt s n slot =
    some j ∧ lateFetch j = some pc :=
  ⟨((State.reset.wr R.BLKSTAT_RUNNING 1 0 36) |> fun s =>
    { s with dev := .serving, mst := { s.mst with jobs := [{ index := 0, jseq := 1, mst := 2, slot := 3, list := [2 ^ 120, 2 * 2 ^ 120, 0x10 * 2 ^ 120], window := 1, half := 0, stageto := 0, peers := [], bank := [], rbank := 0, pc := 0, iter := 0, turn := 0, stages := 0, next := 1, started := false, ops := [{ pc := 1, unit := 0, turn := 0, iter := 0, header := 0 }] }] } }),
    2, 3,
    { index := 0, jseq := 1, mst := 2, slot := 3, list := [2 ^ 120, 2 * 2 ^ 120, 0x10 * 2 ^ 120], window := 1, half := 0, stageto := 0, peers := [], bank := [], rbank := 0, pc := 0, iter := 0, turn := 0, stages := 0, next := 1, started := false, ops := [{ pc := 1, unit := 0, turn := 0, iter := 0, header := 0 }] },
    1, by decide +kernel, by decide +kernel, by decide +kernel⟩
set_option maxRecDepth 100000 in
theorem guard_MillstoneActs_2 : ∃ (s : State) (n : Fin 8) (slot : Fin 16) (j : Job), awake s = true ∧ jobAt s n slot = some j ∧
    atWait j = true ∧ bits (instrAt j j.next) 114 2 = 0 :=
  ⟨((State.reset.wr R.BLKSTAT_RUNNING 1 0 36) |> fun s =>
    { s with dev := .serving, mst := { s.mst with jobs := [{ index := 0, jseq := 1, mst := 2, slot := 3, list := [2 ^ 120, (0x0E * 2 ^ 120), 0x10 * 2 ^ 120], window := 1, half := 0, stageto := 0, peers := [], bank := [], rbank := 0, pc := 0, iter := 0, turn := 0, stages := 0, next := 1, started := true, waitSince := some 0 }] } }),
    2, 3,
    { index := 0, jseq := 1, mst := 2, slot := 3, list := [2 ^ 120, (0x0E * 2 ^ 120), 0x10 * 2 ^ 120], window := 1, half := 0, stageto := 0, peers := [], bank := [], rbank := 0, pc := 0, iter := 0, turn := 0, stages := 0, next := 1, started := true, waitSince := some 0 },
    by decide +kernel, by decide +kernel, by decide +kernel, by decide +kernel⟩
set_option maxRecDepth 100000 in
theorem guard_MillstoneActs_3 : ∃ (s : State) (n : Fin 8) (slot : Fin 16) (j : Job), awake s = true ∧ jobAt s n slot = some j ∧
    atWait j = true ∧ bits (instrAt j j.next) 114 2 ≠ 0 ∧ bits (instrAt j j.next) 90 24 ≠ 0 :=
  ⟨((State.reset.wr R.BLKSTAT_RUNNING 1 0 36) |> fun s =>
    { s with dev := .serving, mst := { s.mst with jobs := [{ index := 0, jseq := 1, mst := 2, slot := 3, list := [2 ^ 120, (0x0E * 2 ^ 120 + 2 ^ 114 + 2 ^ 90), 0x10 * 2 ^ 120], window := 1, half := 0, stageto := 0, peers := [], bank := [], rbank := 0, pc := 0, iter := 0, turn := 0, stages := 0, next := 1, started := true, waitSince := some 0 }] } }),
    2, 3,
    { index := 0, jseq := 1, mst := 2, slot := 3, list := [2 ^ 120, (0x0E * 2 ^ 120 + 2 ^ 114 + 2 ^ 90), 0x10 * 2 ^ 120], window := 1, half := 0, stageto := 0, peers := [], bank := [], rbank := 0, pc := 0, iter := 0, turn := 0, stages := 0, next := 1, started := true, waitSince := some 0 },
    by decide +kernel, by decide +kernel, by decide +kernel, by decide +kernel, by decide +kernel⟩
set_option maxRecDepth 100000 in
theorem guard_MillstoneActs_4 : ∃ (s : State) (n : Fin 8) (slot : Fin 16) (j : Job) (a : Nat) (q : State × Bool), awake s = true ∧
    jobAt s n slot = some j ∧ atWait j = true ∧ bits (instrAt j j.next) 114 2 = 2 ∧ a = bits (instrAt j j.next) 35 42 * 64 +
    strideOf j (instrAt j j.next) j.pc j.iter ∧ q = spaceSeek s a 64 ∧ q.2 = false ∧ spaceBad q.1 a 64 = false ∧ spacePoison q.1 a
    64 = false ∧ leNat (spaceRead q.1 a 4) = bits (instrAt j j.next) 3 32 :=
  ⟨((State.reset.wr R.BLKSTAT_RUNNING 1 0 36 |>.wr R.TRN_PSPACE_PEXT 16) |> fun s =>
    { s with dev := .serving, mst := { s.mst with jobs := [{ index := 0, jseq := 1, mst := 2, slot := 3, list := [2 ^ 120, (0x0E * 2 ^ 120 + 2 * 2 ^ 114), 0x10 * 2 ^ 120], window := 1, half := 0, stageto := 0, peers := [], bank := [], rbank := 0, pc := 0, iter := 0, turn := 0, stages := 0, next := 1, started := true, waitSince := some 0 }] } , maps := { s.maps with extents := [(0, { estate := 2, ingroup := true })] } }),
    2, 3,
    { index := 0, jseq := 1, mst := 2, slot := 3, list := [2 ^ 120, (0x0E * 2 ^ 120 + 2 * 2 ^ 114), 0x10 * 2 ^ 120], window := 1, half := 0, stageto := 0, peers := [], bank := [], rbank := 0, pc := 0, iter := 0, turn := 0, stages := 0, next := 1, started := true, waitSince := some 0 },
    _, _, by decide +kernel, by decide +kernel, by decide +kernel, by decide +kernel, rfl, rfl, by decide +kernel,
    by decide +kernel, by decide +kernel, by decide +kernel⟩
set_option maxRecDepth 100000 in
theorem guard_MillstoneActs_5 : ∃ (s : State), awake s = true :=
  ⟨{ State.reset with dev := .serving }, by decide +kernel⟩
set_option maxRecDepth 100000 in
theorem guard_MillstoneActs_6 : ∃ (s : State), awake s = true ∧ spaceBad s (s.rd R.MST_JWADDRL * 64 + s.rd R.MST_JWADDRH * 2 ^ 32)
    64 = true :=
  ⟨{ State.reset with dev := .serving }, by decide +kernel, by decide +kernel⟩
set_option maxRecDepth 100000 in
theorem guard_MillstoneActs_7 : ∃ (s : State) (a : Nat) (q : State × Nat), awake s = true ∧ a = s.rd R.MST_JWADDRL * 64 + s.rd
    R.MST_JWADDRH * 2 ^ 32 ∧ s.mst.jwReq = [] ∧ spaceBad s a 64 = false ∧ fenced s (a / 4096) = false ∧ q = mstWrite (s.wr
    R.MST_JWSTAT_REFUSED 0) a ((List.range 16).flatMap (fun i => leBytes (s.rd R.MST_JWDATA i) 4)) :=
  ⟨((State.reset.wr R.TRN_PSPACE_PEXT 16) |> fun s =>
    { s with dev := .serving, rst := { s.rst with held := false }, maps := { s.maps with extents := [(0, { estate := 2, ingroup := true })] } }),
    _, _, by decide +kernel, rfl, by decide +kernel, by decide +kernel, by decide +kernel, rfl⟩
set_option maxRecDepth 100000 in
theorem guard_MillstoneActs_8 : ∃ (s : State) (i : Nat), awake s = true ∧ i = s.rd R.MST_QPUPD_INDEX ∧ (rqAt s i).qstate ≠ 2 ∧
    (rqAt s i).qstate ≠ 3 :=
  ⟨{ State.reset with dev := .serving }, _, by decide +kernel, rfl, by decide +kernel, by decide +kernel⟩
set_option maxRecDepth 100000 in
theorem guard_MillstoneActs_9 : ∃ (s : State) (i : Nat), awake s = true ∧ i = s.rd R.MST_QPUPD_INDEX ∧ (rqAt s i).qstate = 3 :=
  ⟨({ State.reset with dev := .serving, mst := { State.reset.mst with qps := [(0, { qstate := 3 })] } }), _, by decide +kernel, rfl,
    by decide +kernel⟩
set_option maxRecDepth 100000 in
theorem guard_MillstoneActs_10 : ∃ (s : State), awake s = true :=
  ⟨{ State.reset with dev := .serving }, by decide +kernel⟩
set_option maxRecDepth 100000 in
theorem guard_MillstoneActs_11 : ∃ (s : State), awake s = true :=
  ⟨{ State.reset with dev := .serving }, by decide +kernel⟩
set_option maxRecDepth 100000 in
theorem guard_MillstoneActs_12 : ∃ (s : State) (sess : Nat), awake s = true ∧ sessEnt s sess (ekey 0x2730 1) 0 < 16384 :=
  ⟨{ State.reset with dev := .serving }, 7, by decide +kernel, by decide +kernel⟩
set_option maxRecDepth 100000 in
theorem guard_MillstoneActs_13 : ∃ (s : State), s.dev = .serving ∧ jobAreaBad s = false :=
  ⟨((State.reset.wr R.MST_JLPAGES_JLPAGES 1 |>.wr R.TRN_PSPACE_PEXT 1) |> fun s =>
    { s with dev := .serving, xpt := { s.xpt with reqs := [{ id := 1, qp := 0, lport := 0, psn := 0, npsn := 0, kind := .write, rkey := 0, va := 0, len := 64, payload := ([2 ^ 61, 7, 0, 0, 0, 0, 0, 0]).flatMap (fun w => leBytes w 8), compare := 0, swapAdd := 0, ackReq := false, last := true, imm := none, stage := .place, mst := true }] } }),
    by decide +kernel, by decide +kernel⟩
theorem guard_DramActs_0 : ∃ (s : State) (c : Fin 16) (rank : Fin 4), s.running (42 + c) = true ∧ s.rbit R.DRC_SR_RANKSR rank c =
    false ∧ (drcAt s c).postponed.get rank 0 < s.rd R.DRC_REF_POSTPONE 0 c ∧ awake s = true :=
  ⟨((State.reset.wr R.BLKSTAT_RUNNING 1 0 43 |>.wr R.DRC_REF_POSTPONE 4 0 1) |> fun s =>
    { s with dev := .serving, rst := { s.rst with held := false } }), 1, 2, by decide, by decide, by decide, by decide⟩
theorem guard_DramActs_1 : ∃ (s : State) (c : Fin 16) (rank : Fin 4), s.running (42 + c) = true ∧ s.rbit R.DRC_SR_RANKSR rank c =
    false ∧ awake s = true :=
  ⟨((State.reset.wr R.BLKSTAT_RUNNING 1 0 43) |> fun s => { s with dev := .serving, rst := { s.rst with held := false } }), 1, 2,
    by decide, by decide, by decide⟩
theorem guard_DramActs_2 : ∃ (s : State) (c : Fin 16), s.running (42 + c) = true ∧ s.dev ≠ .serving ∧ awake s = true :=
  ⟨((State.reset.wr R.BLKSTAT_RUNNING 1 0 43) |> fun s => { s with dev := .rising, rst := { s.rst with held := false } }), 1,
    by decide, by decide, by decide⟩
theorem guard_DramActs_3 : ∃ (s : State) (c : Fin 16) (rank : Fin 4), s.dev = .serving ∧ s.rd R.GAI_CUR_CURRENT = 0 ∧ s.on
    R.DRC_SR_ENSR 0 c = true ∧ s.rd R.DRC_ADDRMAP_ORDER 0 c ≠ 1 ∧ s.running (42 + c) = true ∧ s.rbit R.DRC_SR_RANKSR rank c =
    false :=
  ⟨((State.reset.wr R.BLKSTAT_RUNNING 1 0 43 |>.wr R.GAI_CUR_CURRENT 0 |>.wr R.DRC_SR_ENSR 1 0 1 |>.wr R.DRC_ADDRMAP_ORDER 0 0 1) |>
    fun s => { s with dev := .serving, rst := { s.rst with held := false } }), 1, 2, by decide, by decide, by decide, by decide,
    by decide, by decide⟩
theorem guard_DramActs_4 : ∃ (s : State), awake s = true :=
  ⟨{ State.reset with dev := .serving }, by decide⟩
theorem guard_DramActs_5 : ∃ (s : State) (c : Fin 16), awake s = true ∧ s.dev ≠ .rising ∧ (s.wr R.DRC_TRNCTL_OP 1 0 c).on
    R.DRC_TRNSTAT_BUSY 0 c = false :=
  ⟨{ State.reset with dev := .serving }, 1, by decide, by decide, by decide⟩
theorem guard_DramActs_6 : ∃ (s : State) (c : Fin 16), awake s = true ∧ s.dev ≠ .rising ∧ (s.wr R.DRC_TRNCTL_OP 2 0 c).on
    R.DRC_TRNSTAT_BUSY 0 c = false :=
  ⟨{ State.reset with dev := .serving }, 1, by decide, by decide, by decide⟩
theorem guard_DramActs_7 : ∃ (s : State) (c : Fin 16), awake s = true ∧ s.dev ≠ .rising ∧ (s.wr R.DRC_TRNCTL_OP 4 0 c).on
    R.DRC_TRNSTAT_BUSY 0 c = false :=
  ⟨{ State.reset with dev := .serving }, 1, by decide, by decide, by decide⟩
theorem guard_DramActs_8 : ∃ (s : State) (c : Fin 16), s.dev = .rising ∧ s.on R.DRC_TRNSTAT_BUSY 0 c = false :=
  ⟨{ State.reset with dev := .rising }, 1, by decide, by decide⟩
theorem guard_DramActs_9 : ∃ (s : State) (c : Fin 16), s.dev = .rising ∧ s.on R.DRC_TRNSTAT_BUSY 0 c = false :=
  ⟨{ State.reset with dev := .rising }, 1, by decide, by decide⟩
theorem guard_DramActs_10 : ∃ (s : State) (c : Fin 16), s.dev = .rising ∧ s.on R.DRC_TRNSTAT_BUSY 0 c = false :=
  ⟨{ State.reset with dev := .rising }, 1, by decide, by decide⟩
theorem guard_DramActs_11 : ∃ (s : State) (c : Fin 16), s.dev = .rising ∧ s.on R.DRC_TRNSTAT_BUSY 0 c = false :=
  ⟨{ State.reset with dev := .rising }, 1, by decide, by decide⟩
theorem guard_DramActs_12 : ∃ (s : State) (c : Fin 16) (w : List Nat), (drcAt s c).trn = some w ∧ awake s = true :=
  ⟨{ State.reset with dev := .rising, drc := [(1, { trn := some [1, 0, 0, 4] })] }, 1, [1, 0, 0, 4], by decide, by decide⟩
theorem guard_DramActs_13 : ∃ (s : State) (c : Fin 16) (r : Nat), (drcAt s c).retrain = some r ∧ farHolds s (768 + c) [c.val, 48 +
    c.val] = true ∧ awake s = true :=
  ⟨{ State.reset with dev := .serving, drc := [(1, { retrain := some 2 })], far := { State.reset.far with held := [(1, 769), (49, 769)] } },
    1, 2, by decide, by decide, by decide⟩
theorem guard_GroomingAndFarrierActs_0 : ∃ (s : State) (c : Fin 16) (errs : List LineErr) (n : Nat) (u : State), s.dev = .serving
    ∧ s.running 19 = true ∧ farHolds s (384 + c) [c.val] = true ∧ n = (grmAt s c).next ∧ n < channelLines s ∧ groomSleeps s c =
    false ∧ u = (List.range 64).foldl (fun u i => readLine u (unstripe u c (64 * (n + i)) / 64) (errs.getD i []) .groom) s :=
  ⟨((State.reset.wr R.BLKSTAT_RUNNING 1 0 19) |> fun s =>
    { s with dev := .serving, rst := { s.rst with held := false }, far := { s.far with held := [(0, 384)] } }), 0, [], _, _,
    by decide, by decide, by decide, rfl, by decide, by decide, rfl⟩
theorem guard_GroomingAndFarrierActs_1 : ∃ (s : State) (u : State), s.running 19 = true ∧ u = (List.range 16).foldl (fun u c =>
    setRate u c (rowInForce s 19).groommul (if u.on R.GRM_ADAPT_FREEZE then max 1 (grmAt u c).mul else min (u.rd
    R.GRM_ADAPT_MAXMUL) (1 + (recentCes u c).length / max 1 (u.rd R.GRM_ADAPT_CETH)))) s ∧ awake s = true :=
  ⟨((State.reset.wr R.BLKSTAT_RUNNING 1 0 19) |> fun s => { s with dev := .serving, rst := { s.rst with held := false } }), _,
    by decide, rfl, by decide⟩
theorem guard_GroomingAndFarrierActs_2 : ∃ (s : State) (owner n : Nat), awake s = true ∧ ownerOk owner = true ∧ n < 122 ∧
    s.far.held.find? n = none ∧ s.far.waits = [] ∧ grants s owner = true :=
  ⟨((State.reset.wr R.BLKSTAT_RUNNING 1 0 20) |> fun s => { s with dev := .serving, rst := { s.rst with held := false } }), 256, 16,
    by decide, by decide, by decide, by decide, by decide, by decide⟩
theorem guard_GroomingAndFarrierActs_3 : ∃ (s : State) (owner n : Nat), awake s = true ∧ s.far.held.find? n = some owner ∧
    higherWaits s owner n = false :=
  ⟨{ State.reset with dev := .serving, far := { State.reset.far with held := [(16, 256)] } }, 256, 16, by decide, by decide,
    by decide⟩
theorem guard_GroomingAndFarrierActs_4 : ∃ (s : State) (owner h : Nat) (w : FarReq) (u : State), heldBy s owner = [h] ∧
    s.far.waits.find? (fun w => w.owner = owner) = some w ∧ owner ≠ 640 ∧ u = farDrop s owner ∧ awake s = true :=
  ⟨{ State.reset with dev := .serving, far := { State.reset.far with held := [(16, 256)], waits := [{ res := 17, owner := 256, since := 0 }] } },
    256, 16, { res := 17, owner := 256, since := 0 }, _, by decide, by decide, by decide, rfl, by decide⟩
theorem guard_GroomingAndFarrierActs_5 : ∃ (s : State) (owner : Nat) (ns : List Nat), s.far.retry.find? owner = some ns ∧ awake s
    = true :=
  ⟨{ State.reset with dev := .serving, far := { State.reset.far with retry := [(256, [16])] } }, 256, [16], by decide, by decide⟩
theorem guard_StoreCommandsAct_0 : ∃ (s : State) (ch : Fin 32) (rd : CwRead) (q buf : Nat) (l : SLoc) (u v : State) (c :
    Codeword), fwFront s ch 1 = some (q, l, buf) ∧ readDie s l.ch l.die = some u ∧ readCw u l rd (bit q 23) = (v, 0) ∧ bit q 22 =
    false ∧ c = anyCw v l ∧ c.poison = 0 :=
  ⟨((State.reset.wr R.BLKSTAT_RUNNING 1 0 18 |>.wr R.TIE_DATABASE_DATABASE 1 |>.wr R.STF_GEOM_PPB 4) |> fun s =>
    { s with dev := .serving, dram := { s.dram with data := [(7, 4)] }, stf := { s.stf with tail := [(0, 1)] } }), 0,
    { retries := 0, failing := 0, corr := 0, above := [], below := [] }, (1 * 2 ^ 58), 0, { sstate := 1 }, ((State.reset.wr
    R.BLKSTAT_RUNNING 1 0 18 |>.wr R.TIE_DATABASE_DATABASE 1 |>.wr R.STF_GEOM_PPB 4) |> fun s =>
    { s with dev := .serving, dram := { s.dram with data := [(7, 4)] }, stf := { s.stf with tail := [(0, 1)] } }), (readCw
    ((State.reset.wr R.BLKSTAT_RUNNING 1 0 18 |>.wr R.TIE_DATABASE_DATABASE 1 |>.wr R.STF_GEOM_PPB 4) |> fun s =>
    { s with dev := .serving, dram := { s.dram with data := [(7, 4)] }, stf := { s.stf with tail := [(0, 1)] } }) { sstate := 1 }
    { retries := 0, failing := 0, corr := 0, above := [], below := [] } false).1, _, by decide +kernel, by rfl, by rfl,
    by decide +kernel, rfl, by decide +kernel⟩
theorem guard_StoreCommandsAct_1 : ∃ (s : State) (ch : Fin 32) (q buf : Nat) (l : SLoc) (u : State) (page : List Nat), fwFront s
    ch 2 = some (q, l, buf) ∧ readDie s l.ch l.die = some u ∧ page = (List.range 4).flatMap (fun w => rawBytes u
    { l with cw := w }) ∧ dieFailed s l = false :=
  ⟨((State.reset.wr R.BLKSTAT_RUNNING 1 0 18 |>.wr R.TIE_DATABASE_DATABASE 1 |>.wr R.STF_GEOM_PPB 4) |> fun s =>
    { s with dev := .serving, dram := { s.dram with data := [(7, 8)] }, stf := { s.stf with tail := [(0, 1)] } }), 0, (2 * 2 ^
    58), 0, { sstate := 1 }, ((State.reset.wr R.BLKSTAT_RUNNING 1 0 18 |>.wr R.TIE_DATABASE_DATABASE 1 |>.wr R.STF_GEOM_PPB 4) |>
    fun s => { s with dev := .serving, dram := { s.dram with data := [(7, 8)] }, stf := { s.stf with tail := [(0, 1)] } }), _,
    by decide +kernel, by rfl, by rfl, by decide⟩
theorem guard_StoreCommandsAct_2 : ∃ (s : State) (ch : Fin 32) (rd : CwRead) (q buf : Nat) (l : SLoc) (u v : State), fwFront s ch
    3 = some (q, l, buf) ∧ readDie s l.ch l.die = some u ∧ readCw u l rd (bit q 23) = (v, 0) :=
  ⟨((State.reset.wr R.BLKSTAT_RUNNING 1 0 18 |>.wr R.TIE_DATABASE_DATABASE 1 |>.wr R.STF_GEOM_PPB 4) |> fun s =>
    { s with dev := .serving, dram := { s.dram with data := [(7, 12)] }, stf := { s.stf with tail := [(0, 1)] } }), 0,
    { retries := 0, failing := 0, corr := 0, above := [], below := [] }, (3 * 2 ^ 58), 0, { sstate := 1 }, ((State.reset.wr
    R.BLKSTAT_RUNNING 1 0 18 |>.wr R.TIE_DATABASE_DATABASE 1 |>.wr R.STF_GEOM_PPB 4) |> fun s =>
    { s with dev := .serving, dram := { s.dram with data := [(7, 12)] }, stf := { s.stf with tail := [(0, 1)] } }), (readCw
    ((State.reset.wr R.BLKSTAT_RUNNING 1 0 18 |>.wr R.TIE_DATABASE_DATABASE 1 |>.wr R.STF_GEOM_PPB 4) |> fun s =>
    { s with dev := .serving, dram := { s.dram with data := [(7, 12)] }, stf := { s.stf with tail := [(0, 1)] } }) { sstate := 1 }
    { retries := 0, failing := 0, corr := 0, above := [], below := [] } false).1, by decide +kernel, by rfl, by rfl⟩
theorem guard_StoreCommandsAct_3 : ∃ (s : State) (ch : Fin 32) (q buf : Nat) (l : SLoc), fwFront s ch 4 = some (q, l, buf) ∧
    dieFailed s l = false :=
  ⟨((State.reset.wr R.BLKSTAT_RUNNING 1 0 18 |>.wr R.TIE_DATABASE_DATABASE 1) |> fun s =>
    { s with dev := .serving, dram := { s.dram with data := [(7, 16)] }, stf := { s.stf with tail := [(0, 1)] } }), 0, _, _, _,
    rfl, by decide⟩
theorem guard_StoreCommandsAct_4 : ∃ (s : State) (k : Nat), s.running 18 = true ∧ eraseOk s k = true ∧ awake s = true :=
  ⟨((State.reset.wr R.BLKSTAT_RUNNING 1 0 18 |>.wr R.STF_GEOM_BPDM1 100) |> fun s =>
    { s with dev := .serving, rst := { s.rst with held := false }, maps := { s.maps with blocks := [(3, { state := 5 })] } }), 3,
    by decide, by decide, by decide⟩
theorem guard_StoreCommandsAct_5 : ∃ (s : State) (ch : Fin 32) (x : Nat × SLoc × Nat) (n k : Nat) (u : State), fwFront s ch 5 =
    some x ∧ n = fwHead s ch ∧ k = fwWord s ch n 2 % 2 ^ 17 ∧ eraseOk s k = true ∧ u = eraseStart s k ∧ awake s = true :=
  ⟨((State.reset.wr R.BLKSTAT_RUNNING 1 0 18 |>.wr R.TIE_DATABASE_DATABASE 1 |>.wr R.STF_GEOM_BPDM1 100) |> fun s =>
    { s with dev := .serving, dram := { s.dram with data := [(7, 20)] }, stf := { s.stf with tail := [(0, 1)] }, maps := { s.maps with blocks := [(0, { state := 5 })] } }),
    0, _, _, _, _, rfl, rfl, rfl, by decide, rfl, by decide⟩
theorem guard_StoreCommandsAct_6 : ∃ (s : State) (die block : Nat), s.running 18 = true ∧ die < dpc s ∧ retirable s (block * dpc s
    + die) = true ∧ awake s = true :=
  ⟨((State.reset.wr R.BLKSTAT_RUNNING 1 0 18 |>.wr R.STF_GEOM_BPDM1 100) |> fun s =>
    { s with dev := .serving, rst := { s.rst with held := false } }), 0, 3, by decide, by decide, by decide, by decide⟩
theorem guard_StoreCommandsAct_7 : ∃ (s : State) (ch : Fin 32) (q buf : Nat) (l : SLoc), fwFront s ch 6 = some (q, l, buf) ∧ awake
    s = true :=
  ⟨((State.reset.wr R.BLKSTAT_RUNNING 1 0 18 |>.wr R.TIE_DATABASE_DATABASE 1 |>.wr R.STF_GEOM_BPDM1 100) |> fun s =>
    { s with dev := .serving, dram := { s.dram with data := [(7, 24)] }, stf := { s.stf with tail := [(0, 1)] } }), 0, _, _, _,
    rfl, by decide⟩
theorem guard_StoreCommandsAct_8 : ∃ (s : State) (ref : Nat) (w : Codeword) (rest : List (Nat × Codeword)) (u : State), s.running
    18 = true ∧ s.stf.cleanQ = (ref, w) :: rest ∧ rowPut s 1 ref w {} = some u ∧ s.dev ≠ .saving ∧ cleanPaused s = false ∧ awake s
    = true :=
  ⟨((State.reset.wr R.BLKSTAT_RUNNING 1 0 18) |> fun s =>
    { s with dev := .serving, rst := { s.rst with held := false }, stf := { s.stf with cleanQ := [(7, { kind := 1, spage := 0, epoch := 0, poison := 0, data := [] })], open_ := some { sb := 0, row := 0, ents := [{ what := 1, ref := 7, word := { kind := 1, spage := 0, epoch := 0, poison := 0, data := [] }, loc := { sstate := 1, ch := 2 }, source := {} }], programming := false } } }),
    7, { kind := 1, spage := 0, epoch := 0, poison := 0, data := [] }, [], _, by decide, by decide, rfl, by decide, by decide,
    by decide⟩
theorem guard_StoreCommandsAct_9 : ∃ (s : State) (k : Nat), s.stf.victim = none ∧ nextReloc s = some k ∧ refOf s k = none ∧ awake
    s = true :=
  ⟨{ State.reset with dev := .serving, stf := { State.reset.stf with reloc := [77] } }, 77, by decide, by decide, by decide,
    by decide⟩
theorem guard_StoreCommandsAct_10 : ∃ (s : State) (rd : CwRead) (k ref : Nat) (u v w : State), s.stf.victim = none ∧ nextReloc s =
    some k ∧ refOf s k = some ref ∧ s.running 18 = true ∧ s.on R.STF_STAT_WALK = false ∧ inRow s k = false ∧ relocShare s = true ∧
    readDie s (keyLoc k).ch (keyLoc k).die = some u ∧ readCw u (keyLoc k) rd false = (v, 0) ∧ rowPut
    (({ v with stf := { v.stf with reloc := v.stf.reloc.filter (· ≠ k) } } : State).bump C.XTS_DECUNITS) 2 ref (cwAt
    { v with stf := { v.stf with reloc := v.stf.reloc.filter (· ≠ k) } } (keyLoc k)) (keyLoc k) = some w ∧ s.dev ≠ .saving ∧ awake
    s = true :=
  ⟨((State.reset.wr R.BLKSTAT_RUNNING 1 0 18) |> fun s =>
    { s with dev := .serving, stf := { s.stf with reloc := [locKey { sstate := 1, ch := 2 }], open_ := some { sb := 0, row := 0, ents := [], programming := false } }, maps := { s.maps with store := [(5, { sstate := 1, ch := 2 })], blocks := [(0, { state := 2 })] } }),
    { retries := 0, failing := 0, corr := 0, above := [], below := [] }, locKey { sstate := 1, ch := 2 }, 15, ((State.reset.wr
    R.BLKSTAT_RUNNING 1 0 18) |> fun s =>
    { s with dev := .serving, stf := { s.stf with reloc := [locKey { sstate := 1, ch := 2 }], open_ := some { sb := 0, row := 0, ents := [], programming := false } }, maps := { s.maps with store := [(5, { sstate := 1, ch := 2 })], blocks := [(0, { state := 2 })] } }),
    (readCw ((State.reset.wr R.BLKSTAT_RUNNING 1 0 18) |> fun s =>
    { s with dev := .serving, stf := { s.stf with reloc := [locKey { sstate := 1, ch := 2 }], open_ := some { sb := 0, row := 0, ents := [], programming := false } }, maps := { s.maps with store := [(5, { sstate := 1, ch := 2 })], blocks := [(0, { state := 2 })] } })
    (keyLoc (locKey { sstate := 1, ch := 2 })) { retries := 0, failing := 0, corr := 0, above := [], below := [] } false).1, _,
    by decide, by decide, by decide, by decide, by decide, by decide, by decide, by rfl, by rfl, rfl, by decide, by decide⟩
theorem guard_StoreCommandsAct_11 : ∃ (s : State) (im : SaveImage), s.sav.img = some im ∧ s.dev = .saving ∧ s.stf.saving = true ∧
    s.rd R.SAV_PROGRESS_PAGES < im.pages.length ∧ s.sav.dirtySb.contains (locSb s (imageLoc s (imageSpan s im.pages.length).1
    (s.rd R.SAV_PROGRESS_PAGES))) = false :=
  ⟨((State.reset) |> fun s =>
    { s with dev := .saving, rst := { s.rst with held := false }, sav := { s.sav with img := some { maps := State.reset.maps, log := State.reset.log, pages := [{ kind := 0, pinned := false, frame := 0, spage := 0, epoch := 0, poison := 0, data := [] }] } }, stf := { s.stf with saving := true } }),
    { maps := State.reset.maps, log := State.reset.log, pages := [{ kind := 0, pinned := false, frame := 0, spage := 0, epoch := 0, poison := 0, data := [] }] },
    by decide, by decide, by decide, by decide, by decide⟩
theorem guard_StoreCommandsAct_12 : ∃ (s : State) (r : Seal), s.sav.sealRec = some r ∧ s.dev = .saving ∧ bit s.sav.sealed 0 =
    false :=
  ⟨((State.reset) |> fun s =>
    { s with dev := .saving, rst := { s.rst with held := false }, sav := { s.sav with sealRec := some { seq := 1, state := 1, cause := 0, firstSb := 0, sbUsed := 0, pages := 0, dirA := 0, dirB := 0, dirCrc := 0, rmeas := 0, pmeas := 0, pext := 0, dgroups := 0, level := 2, usable := [] } } }),
    { seq := 1, state := 1, cause := 0, firstSb := 0, sbUsed := 0, pages := 0, dirA := 0, dirB := 0, dirCrc := 0, rmeas := 0, pmeas := 0, pext := 0, dgroups := 0, level := 2, usable := [] },
    by decide, by decide, by decide⟩
theorem guard_StoreCommandsAct_13 : ∃ (s : State) (r : Seal), s.sav.sealRec = some r ∧ s.dev = .saving ∧ bit s.sav.sealed 1 =
    false ∧ bit s.sav.sealed 0 = true :=
  ⟨((State.reset) |> fun s =>
    { s with dev := .saving, rst := { s.rst with held := false }, sav := { s.sav with sealRec := some { seq := 1, state := 1, cause := 0, firstSb := 0, sbUsed := 0, pages := 0, dirA := 0, dirB := 0, dirCrc := 0, rmeas := 0, pmeas := 0, pext := 0, dgroups := 0, level := 2, usable := [] }, sealed := 1 } }),
    { seq := 1, state := 1, cause := 0, firstSb := 0, sbUsed := 0, pages := 0, dirA := 0, dirB := 0, dirCrc := 0, rmeas := 0, pmeas := 0, pext := 0, dgroups := 0, level := 2, usable := [] },
    by decide, by decide, by decide, by decide⟩
theorem guard_StoreCommandsAct_14 : ∃ (s : State) (ch : Fin 32), s.dev = .serving ∧ s.running 18 = true ∧ farHolds s (256 + ch)
    [16 + ch.val] = true ∧ nextPatrol s ch ((patrolAt s ch).getD 0 0) = none ∧ fillsServed s ch = true :=
  ⟨((State.reset.wr R.BLKSTAT_RUNNING 1 0 18) |> fun s =>
    { s with dev := .serving, rst := { s.rst with held := false }, far := { s.far with held := [(18, 258)] } }), 2, by decide,
    by decide, by decide, by decide, by decide⟩
theorem guard_StoreCommandsAct_15 : ∃ (s : State) (ch : Fin 32) (rd : CwRead) (k : Nat) (u v : State), s.dev = .serving ∧
    s.running 18 = true ∧ farHolds s (256 + ch) [16 + ch.val] = true ∧ fillsServed s ch = true ∧ nextPatrol s ch ((patrolAt s
    ch).getD 0 0) = some k ∧ readDie s ch (keyLoc k).die = some u ∧ readCw (u.bump C.STF_PATROL) (keyLoc k) rd false = (v, 0) ∧
    rd.retries = 0 ∧ rd.corr < s.rd R.STF_PATROL_REFRESHTH :=
  ⟨((State.reset.wr R.BLKSTAT_RUNNING 1 0 18) |> fun s =>
    { s with dev := .serving, rst := { s.rst with held := false }, maps := { s.maps with store := [(5, { sstate := 1, ch := 2 })] }, far := { s.far with held := [(18, 258)] } }),
    2, { retries := 0, failing := 0, corr := 0, above := [], below := [] }, locKey { sstate := 1, ch := 2 }, ((State.reset.wr
    R.BLKSTAT_RUNNING 1 0 18) |> fun s =>
    { s with dev := .serving, rst := { s.rst with held := false }, maps := { s.maps with store := [(5, { sstate := 1, ch := 2 })] }, far := { s.far with held := [(18, 258)] } }),
    (readCw ((((State.reset.wr R.BLKSTAT_RUNNING 1 0 18) |> fun s =>
    { s with dev := .serving, rst := { s.rst with held := false }, maps := { s.maps with store := [(5, { sstate := 1, ch := 2 })] }, far := { s.far with held := [(18, 258)] } })
    : State).bump C.STF_PATROL) (keyLoc (locKey { sstate := 1, ch := 2 }))
    { retries := 0, failing := 0, corr := 0, above := [], below := [] } false).1, by decide, by decide, by decide, by decide,
    by decide +kernel, by rfl, by rfl, by decide, by decide⟩
theorem guard_StoreCommandsAct_16 : ∃ (s : State) (ch : Fin 32) (tail : Fin 64) (u : State), awake s = true ∧ u = (s.wr
    R.STF_FWTAIL_CH ch).wr R.STF_FWTAIL_TAIL tail :=
  ⟨{ State.reset with dev := .serving }, 0, 1, _, by decide, rfl⟩
theorem guard_StripesAndSuperblocksAct_0 : ∃ (s : State) (r : OpenRow) (e : RowEnt) (es : List RowEnt), s.stf.open_ = some r ∧
    r.programming = false ∧ r.ents = e :: es ∧ s.dev ≠ .saving ∧ awake s = true :=
  ⟨((State.reset) |> fun s =>
    { s with dev := .serving, rst := { s.rst with held := false }, stf := { s.stf with open_ := some { sb := 0, row := 0, ents := [{ what := 1, ref := 7, word := { kind := 1, spage := 0, epoch := 0, poison := 0, data := [] }, loc := { sstate := 1, ch := 2 }, source := {} }], programming := false } } }),
    { sb := 0, row := 0, ents := [{ what := 1, ref := 7, word := { kind := 1, spage := 0, epoch := 0, poison := 0, data := [] }, loc := { sstate := 1, ch := 2 }, source := {} }], programming := false },
    { what := 1, ref := 7, word := { kind := 1, spage := 0, epoch := 0, poison := 0, data := [] }, loc := { sstate := 1, ch := 2 }, source := {} },
    [], by decide, by decide, by decide, by decide, by decide⟩
theorem guard_StripesAndSuperblocksAct_1 : ∃ (s : State) (r : OpenRow), s.stf.open_ = some r ∧ r.programming = true ∧ rowRuns s r
    = true ∧ awake s = true :=
  ⟨((State.reset) |> fun s =>
    { s with dev := .serving, rst := { s.rst with held := false }, stf := { s.stf with open_ := some { sb := 0, row := 0, ents := [{ what := 1, ref := 7, word := { kind := 1, spage := 0, epoch := 0, poison := 0, data := [] }, loc := { sstate := 1, ch := 2 }, source := {} }], programming := true } } }),
    { sb := 0, row := 0, ents := [{ what := 1, ref := 7, word := { kind := 1, spage := 0, epoch := 0, poison := 0, data := [] }, loc := { sstate := 1, ch := 2 }, source := {} }], programming := true },
    by decide, by decide, by decide, by decide⟩
theorem guard_StripesAndSuperblocksAct_2 : ∃ (s : State) (k : Nat) (u : State), s.stf.erasing.has k = true ∧ u =
    { s with stf := { s.stf with erasing := s.stf.erasing.del k, suspended := s.stf.suspended.del k, esusp := s.stf.esusp.keep (fun n => decide (n % 32 ≠ k % dpc s)) } }
    ∧ awake s = true :=
  ⟨((State.reset) |> fun s =>
    { s with dev := .serving, rst := { s.rst with held := false }, stf := { s.stf with erasing := [(3, 4)] } }), 3, _, by decide,
    rfl, by decide⟩
theorem guard_StripesAndSuperblocksAct_3 : ∃ (s : State) (k : Nat) (ch : Fin 32), bit (s.stf.erasing.get k 0) ch = true ∧ awake s
    = true :=
  ⟨((State.reset) |> fun s =>
    { s with dev := .serving, rst := { s.rst with held := false }, stf := { s.stf with erasing := [(3, 4)] } }), 3, 2, by decide,
    by decide⟩
theorem guard_StripesAndSuperblocksAct_4 : ∃ (s : State) (ch : Fin 32) (die : Nat), s.stf.saving = false ∧ erasingOn s ch die =
    none ∧ awake s = true :=
  ⟨{ State.reset with dev := .serving, stf := { State.reset.stf with phalt := [65] } }, 2, 1, by decide, by decide, by decide⟩
theorem guard_StripesAndSuperblocksAct_5 : ∃ (s : State) (ch die : Fin 32) (ks : List Nat), s.running 18 = true ∧ bit (s.rd
    R.STF_DIEFAIL ch) die = false ∧ ks = validKeys s (fun l => l.ch = ch.val && l.die = die.val) ∧ awake s = true :=
  ⟨((State.reset.wr R.BLKSTAT_RUNNING 1 0 18) |> fun s => { s with dev := .serving, rst := { s.rst with held := false } }), 2, 1, _,
    by decide, by decide, rfl, by decide⟩
theorem guard_StripesAndSuperblocksAct_6 : ∃ (s : State) (k : Nat), s.running 18 = true ∧ k < superblocks s ∧ (blkAt s k).state =
    0 ∧ inSaveArea s k = false ∧ awake s = true :=
  ⟨((State.reset.wr R.BLKSTAT_RUNNING 1 0 18 |>.wr R.STF_GEOM_BPDM1 100) |> fun s =>
    { s with dev := .serving, rst := { s.rst with held := false } }), 3, by decide, by decide, by decide, by decide, by decide⟩
theorem guard_StripesAndSuperblocksAct_7 : ∃ (s : State) (k : Nat), s.running 18 = true ∧ k < superblocks s ∧ (blkAt s k).state =
    0 ∧ inSaveArea s k = false ∧ awake s = true :=
  ⟨((State.reset.wr R.BLKSTAT_RUNNING 1 0 18 |>.wr R.STF_GEOM_BPDM1 100) |> fun s =>
    { s with dev := .serving, rst := { s.rst with held := false } }), 3, by decide, by decide, by decide, by decide, by decide⟩
theorem guard_StripesAndSuperblocksAct_8 : ∃ (s : State), s.running 18 = true ∧ s.rd R.STF_STAT_FREESB < s.rd
    R.STF_RECLAIM_LOWATER ∧ s.stf.reclaim = false ∧ s.on R.STF_STAT_WALK = false ∧ awake s = true :=
  ⟨((State.reset.wr R.BLKSTAT_RUNNING 1 0 18 |>.wr R.STF_RECLAIM_LOWATER 4) |> fun s =>
    { s with dev := .serving, rst := { s.rst with held := false } }), by decide, by decide, by decide, by decide, by decide⟩
theorem guard_StripesAndSuperblocksAct_9 : ∃ (s : State), s.running 18 = true ∧ s.stf.walked = false ∧ s.maps.blocksInit = true ∧
    mapResident s = true ∧ awake s = true :=
  ⟨((State.reset.wr R.BLKSTAT_RUNNING 1 0 18) |> fun s =>
    { s with dev := .serving, rst := { s.rst with held := false }, maps := { s.maps with blocksInit := true } }), by decide,
    by decide, by decide, by decide, by decide⟩
theorem guard_StripesAndSuperblocksAct_10 : ∃ (s : State), s.on R.STF_STAT_WALK = true ∧ awake s = true :=
  ⟨((State.reset.wr R.STF_STAT_WALK 1) |> fun s => { s with dev := .serving, rst := { s.rst with held := false } }), by decide,
    by decide⟩
theorem guard_StripesAndSuperblocksAct_11 : ∃ (s : State), s.dev = .serving ∧ s.running 18 = true ∧ s.running 19 = true :=
  ⟨((State.reset.wr R.BLKSTAT_RUNNING 1 0 18 |>.wr R.BLKSTAT_RUNNING 1 0 19) |> fun s =>
    { s with dev := .serving, rst := { s.rst with held := false } }), by decide, by decide, by decide⟩
theorem guard_StripesAndSuperblocksAct_12 : ∃ (s : State) (ch : Fin 32), s.dev = .serving ∧ s.running 18 = true ∧ s.running 19 =
    true ∧ s.far.held.find? (16 + ch.val) = none ∧ s.far.waits = [] ∧ grants s (256 + ch) = true :=
  ⟨((State.reset.wr R.BLKSTAT_RUNNING 1 0 18 |>.wr R.BLKSTAT_RUNNING 1 0 19 |>.wr R.BLKSTAT_RUNNING 1 0 20) |> fun s =>
    { s with dev := .serving, rst := { s.rst with held := false } }), 2, by decide, by decide, by decide, by decide, by decide,
    by decide⟩
theorem guard_KeeperActs_0 : ∃ (s : State) (q : KpfReq), kpfHead s 1 = some q ∧ inReserved s q.buf q.len = true ∧ awake s = true
    :=
  ⟨((State.reset.wr R.BLKSTAT_RUNNING 1 0 17 |>.wr R.TIE_DATABASE_DATABASE 1) |> fun s =>
    { s with dev := .serving, rst := { s.rst with held := false }, kpf := { s.kpf with queue := [{ op := 1, len := 16, tag := 1, kaddr := 33554432, buf := 0 }] } }),
    { op := 1, len := 16, tag := 1, kaddr := 33554432, buf := 0 }, by decide, by decide, by decide⟩
theorem guard_KeeperActs_1 : ∃ (s : State) (q : KpfReq), kpfHead s 2 = some q ∧ q.kaddr % 256 + q.len ≤ 256 ∧ inReserved s q.buf
    q.len = true ∧ kpfGuarded q.kaddr q.len = false :=
  ⟨((State.reset.wr R.BLKSTAT_RUNNING 1 0 17 |>.wr R.TIE_DATABASE_DATABASE 1) |> fun s =>
    { s with dev := .serving, rst := { s.rst with held := false }, kpf := { s.kpf with queue := [{ op := 2, len := 16, tag := 1, kaddr := 33554432, buf := 0 }] } }),
    { op := 2, len := 16, tag := 1, kaddr := 33554432, buf := 0 }, by decide, by decide, by decide, by decide⟩
theorem guard_KeeperActs_2 : ∃ (s : State) (q : KpfReq), kpfHead s 2 = some q ∧ q.kaddr % 256 + q.len ≤ 256 ∧ inReserved s q.buf
    q.len = true ∧ kpfGuarded q.kaddr q.len = true :=
  ⟨((State.reset.wr R.BLKSTAT_RUNNING 1 0 17 |>.wr R.TIE_DATABASE_DATABASE 1) |> fun s =>
    { s with dev := .serving, rst := { s.rst with held := false }, kpf := { s.kpf with queue := [{ op := 2, len := 16, tag := 1, kaddr := 4194304, buf := 0 }] } }),
    { op := 2, len := 16, tag := 1, kaddr := 4194304, buf := 0 }, by decide, by decide, by decide, by decide⟩
theorem guard_KeeperActs_3 : ∃ (s : State) (q : KpfReq), kpfHead s 3 = some q ∧ kpfGuarded (kpfSector s q.kaddr).1 (kpfSector s
    q.kaddr).2 = false :=
  ⟨((State.reset.wr R.BLKSTAT_RUNNING 1 0 17 |>.wr R.TIE_DATABASE_DATABASE 1) |> fun s =>
    { s with dev := .serving, rst := { s.rst with held := false }, kpf := { s.kpf with queue := [{ op := 3, len := 16, tag := 1, kaddr := 33554432, buf := 0 }] } }),
    { op := 3, len := 16, tag := 1, kaddr := 33554432, buf := 0 }, by decide, by decide⟩
theorem guard_KeeperActs_4 : ∃ (s : State) (q : KpfReq), kpfHead s 3 = some q ∧ kpfGuarded (kpfSector s q.kaddr).1 (kpfSector s
    q.kaddr).2 = true :=
  ⟨((State.reset.wr R.BLKSTAT_RUNNING 1 0 17 |>.wr R.TIE_DATABASE_DATABASE 1) |> fun s =>
    { s with dev := .serving, rst := { s.rst with held := false }, kpf := { s.kpf with queue := [{ op := 3, len := 16, tag := 1, kaddr := 4194304, buf := 0 }] } }),
    { op := 3, len := 16, tag := 1, kaddr := 4194304, buf := 0 }, by decide, by decide⟩
theorem guard_KeeperActs_5 : ∃ (s : State) (q : KpfReq) (qs : List KpfReq), s.kpf.queue = q :: qs ∧ s.kpf.busy = true ∧ q.op = 3
    :=
  ⟨((State.reset.wr R.BLKSTAT_RUNNING 1 0 17 |>.wr R.TIE_DATABASE_DATABASE 1) |> fun s =>
    { s with dev := .serving, rst := { s.rst with held := false }, kpf := { s.kpf with queue := [{ op := 3, len := 16, tag := 1, kaddr := 33554432, buf := 0 }], busy := true } }),
    { op := 3, len := 16, tag := 1, kaddr := 33554432, buf := 0 }, [], by decide, by decide, by decide⟩
theorem guard_KeeperActs_6 : ∃ (s : State) (q : KpfReq) (qs : List KpfReq), s.kpf.queue = q :: qs ∧ s.kpf.busy = true ∧ q.op = 2
    :=
  ⟨((State.reset.wr R.BLKSTAT_RUNNING 1 0 17 |>.wr R.TIE_DATABASE_DATABASE 1) |> fun s =>
    { s with dev := .serving, rst := { s.rst with held := false }, kpf := { s.kpf with queue := [{ op := 2, len := 16, tag := 1, kaddr := 33554432, buf := 0 }], busy := true } }),
    { op := 2, len := 16, tag := 1, kaddr := 33554432, buf := 0 }, [], by decide, by decide, by decide⟩
theorem guard_KeeperActs_7 : ∃ (s : State), s.dev ≠ .off :=
  ⟨{ State.reset with dev := .serving }, by decide⟩
theorem guard_KeeperActs_8 : ∃ (s : State) (line : BitVec 23), s.dev ≠ .off ∧ s.kpf.prefetch.contains line.toNat = true :=
  ⟨{ State.reset with dev := .serving, kpf := { State.reset.kpf with prefetch := [5] } }, 5, by decide, by decide⟩
theorem guard_KeeperActs_9 : ∃ (s : State) (line : BitVec 23), s.dev ≠ .off ∧ s.kpf.prefetch.contains line.toNat = false ∧
    s.kpf.branch.contains line.toNat = false ∧ s.kpf.prog = false ∧ s.kpf.erasing = false :=
  ⟨{ State.reset with dev := .serving }, 5, by decide, by decide, by decide, by decide, by decide⟩
theorem guard_SensorsAndCalibrationActs_0 : ∃ (s : State) (temps : List (Option Int)) (volts : List Nat) (u : State) (i : Nat) (tj
    : Int), awake s = true ∧ s.running 15 = true ∧ s.rst.held = false ∧ u = (List.range 24).foldl (voltage volts) ((List.range
    48).foldl (thermal temps) s) ∧ hottest u = some (i, tj) :=
  ⟨((State.reset.wr R.BLKSTAT_RUNNING 1 0 15) |> fun s => { s with dev := .serving, rst := { s.rst with held := false } }), [some
    640], [], _, 0, 640, by decide, by decide, by decide, rfl, by decide +kernel⟩
theorem guard_SensorsAndCalibrationActs_1 : ∃ (s : State), calReady s = true ∧ drifted s = true ∧ s.on R.CAL_CTL_HOLD = false :=
  ⟨((State.reset.wr R.BLKSTAT_RUNNING 1 0 16) |> fun s =>
    { s with dev := .serving, rst := { s.rst with held := false }, cal := { s.cal with temps := [(0, 4000)] } }), by decide,
    by decide, by decide⟩
theorem guard_SensorsAndCalibrationActs_2 : ∃ (s : State), calReady s = true ∧ s.dev = .rising :=
  ⟨((State.reset.wr R.BLKSTAT_RUNNING 1 0 16 |>.wr R.CLK_STAT_LOCKED 1) |> fun s =>
    { s with dev := .rising, rst := { s.rst with held := false } }), by decide, by decide⟩
theorem guard_SensorsAndCalibrationActs_3 : ∃ (s : State), calReady s = true :=
  ⟨((State.reset.wr R.BLKSTAT_RUNNING 1 0 16) |> fun s => { s with dev := .serving, rst := { s.rst with held := false } }),
    by decide⟩
theorem guard_SensorsAndCalibrationActs_4 : ∃ (s : State), awake s = true ∧ calReady s = true :=
  ⟨((State.reset.wr R.BLKSTAT_RUNNING 1 0 16) |> fun s => { s with dev := .serving, rst := { s.rst with held := false } }),
    by decide, by decide⟩
theorem guard_SensorsAndCalibrationActs_5 : ∃ (s : State), s.dev = .rising ∧ s.takes 16 = true ∧ s.cal.run = none :=
  ⟨((State.reset.wr R.BLKSTAT_RUNNING 1 0 16) |> fun s => { s with dev := .rising, rst := { s.rst with held := false } }),
    by decide, by decide, by decide⟩
theorem guard_SensorsAndCalibrationActs_6 : ∃ (s : State), awake s = true ∧ s.running 16 = true :=
  ⟨((State.reset.wr R.BLKSTAT_RUNNING 1 0 16) |> fun s => { s with dev := .serving, rst := { s.rst with held := false } }),
    by decide, by decide⟩
theorem guard_SensorsAndCalibrationActs_7 : ∃ (s : State) (r : CalRun) (u v : State), s.cal.run = some r ∧ r.trigger = 0 ∧
    farHolds s calOwner calTokens = true ∧ u = calRest (calStore ((List.range 16).foldl calDrc
    { s with cal := { s.cal with temps := calTemps s, run := none } })) ∧ v = ((u.wr R.CAL_STAT_BUSY 0).wr R.CAL_STAT_LASTTJ (u.rd
    R.SEN_TJ_TJ)).wr R.CAL_RUNS_RUNS (u.rd R.CAL_RUNS_RUNS + 1) ∧ awake s = true :=
  ⟨((State.reset) |> fun s =>
    { s with dev := .serving, rst := { s.rst with held := false }, cal := { s.cal with run := some { trigger := 0, start := 0 } }, far := { s.far with held := (List.range 16).map (fun i => (48 + i, 640)) ++ [(121, 640)] } }),
    { trigger := 0, start := 0 }, _, _, by decide, by decide, by decide, rfl, rfl, by decide⟩
theorem guard_ComplexActs_0 : ∃ (s : State) (x : Nat), s.dev = .serving ∧ s.cpx.entry = some x :=
  ⟨((State.reset.wr R.BLKSTAT_RUNNING 1 0 5) |> fun s => { s with dev := .serving, cpx := { s.cpx with entry := some 0 } }), 0,
    by decide, by decide⟩
theorem guard_ComplexActs_1 : ∃ (s : State) (x : Nat), s.dev = .serving ∧ s.cpx.entry = some x ∧ s.cpx.takeover = none ∧ awake s =
    true :=
  ⟨((State.reset.wr R.BLKSTAT_RUNNING 1 0 5) |> fun s => { s with dev := .serving, cpx := { s.cpx with entry := some 0 } }), 0,
    by decide, by decide, by decide, by decide⟩
theorem guard_ComplexActs_2 : ∃ (s : State) (x : Nat), s.cpx.ckDue = some x ∧ awake s = true :=
  ⟨((State.reset.wr R.BLKSTAT_RUNNING 1 0 5) |> fun s =>
    { s with dev := .serving, cpx := { s.cpx with entry := some 0, ckDue := some 7 } }), 7, by decide, by decide⟩
theorem guard_ComplexActs_3 : ∃ (s : State) (k : Takeover), s.cpx.takeover = some k ∧ k.ret = false ∧ awake s = true :=
  ⟨((State.reset) |> fun s =>
    { s with dev := .serving, rst := { s.rst with held := false }, cpx := { s.cpx with takeover := some { ret := false, source := 1, outgoing := 0, incoming := 1, start := 0, ckseq := none } } }),
    { ret := false, source := 1, outgoing := 0, incoming := 1, start := 0, ckseq := none }, by decide, by decide, by decide⟩
theorem guard_ComplexActs_4 : ∃ (s : State) (k : Takeover), s.cpx.takeover = some k ∧ awake s = true :=
  ⟨((State.reset) |> fun s =>
    { s with dev := .serving, rst := { s.rst with held := false }, cpx := { s.cpx with takeover := some { ret := false, source := 1, outgoing := 0, incoming := 1, start := 0, ckseq := none } } }),
    { ret := false, source := 1, outgoing := 0, incoming := 1, start := 0, ckseq := none }, by decide, by decide⟩
theorem guard_ComplexActs_5 : ∃ (s : State), s.dev = .serving ∧ s.cpx.takeover = none ∧ s.cpx.entry.isSome = true :=
  ⟨((State.reset.wr R.BLKSTAT_RUNNING 1 0 5) |> fun s => { s with dev := .serving, cpx := { s.cpx with entry := some 0 } }),
    by decide, by decide, by decide⟩
theorem guard_ComplexActs_6 : ∃ (s : State) (c : Fin 2), awake s = true ∧ bit (suspectFlags s) c = true ∧ s.cpx.takeover = none :=
  ⟨((State.reset) |> fun s =>
    { s with dev := .serving, rst := { s.rst with held := false }, tack := { s.tack with words := [(0x1100, 256)] } }), 0,
    by decide, by decide, by decide⟩
theorem guard_RecorderAndStudBookActs_0 : ∃ (s : State) (seq : Nat), awake s = true ∧ seq < 2 ^ 64 :=
  ⟨{ State.reset with dev := .serving }, 77, by decide, by decide⟩
theorem guard_RecorderAndStudBookActs_1 : ∃ (s : State), awake s = true :=
  ⟨{ State.reset with dev := .serving }, by decide⟩
theorem guard_RecorderAndStudBookActs_2 : ∃ (s : State) (code : Nat), awake s = true ∧ assigned code = true :=
  ⟨{ State.reset with dev := .serving }, 0x0C00, by decide, by decide⟩
theorem guard_RecorderAndStudBookActs_3 : ∃ (s : State) (code : Nat) (payload : List Nat), awake s = true ∧ assigned code = true ∧
    hasToken s code = true ∧ (record s code payload false [] (severity code)).recd.studLost = s.recd.studLost :=
  ⟨{ State.reset with dev := .serving }, 0x0C00, [1], by decide, by decide, by decide, by decide⟩
theorem guard_RecorderAndStudBookActs_4 : ∃ (s : State) (code : Nat), awake s = true ∧ 0 < s.recd.suppressed.get code 0 ∧ 1000000
    ≤ s.since (s.recd.lastRec.get code 0) ∧ hasToken s code = true ∧ (record s code [] true [] (severity code)).recd.studLost =
    s.recd.studLost :=
  ⟨((State.reset) |> fun s =>
    { s with dev := .serving, rst := { s.rst with held := false }, now := 2000000, recd := { s.recd with suppressed := [(0x0C00, 3)] } }),
    0x0C00, by decide, by decide, by decide, by decide, by decide⟩
theorem guard_RecorderAndStudBookActs_5 : ∃ (s : State) (e : StudEntry) (rest : List StudEntry), awake s = true ∧ s.running 3 =
    true ∧ s.kpf.erasing = false ∧ studNext s ≠ 0 ∧ s.recd.studQ = e :: rest :=
  ⟨((State.reset.wr R.BLKSTAT_RUNNING 1 0 3 |>.wr R.STB_NEXTL 5) |> fun s =>
    { s with dev := .serving, rst := { s.rst with held := false }, recd := { s.recd with studQ := [{ record := { seq := 1, code := 0x0C00, sev := 1, summary := false, studbook := true, suppressed := 0, payload := [] }, resets := 0, dev := 0, twin := 0, fwid := 0 }] } }),
    { record := { seq := 1, code := 0x0C00, sev := 1, summary := false, studbook := true, suppressed := 0, payload := [] }, resets := 0, dev := 0, twin := 0, fwid := 0 },
    [], by decide, by decide, by decide, by decide, by decide⟩
theorem guard_RecorderAndStudBookActs_6 : ∃ (s : State) (h : Nat), awake s = true ∧ s.running 3 = true ∧ studNext s = 0 ∧
    (scanCopy s 0).2 = none ∧ (scanCopy s 1).2 = none ∧ h = max ((studHighest s 0).map (·.2) |>.getD 0) ((studHighest s 1).map
    (·.2) |>.getD 0) :=
  ⟨((State.reset.wr R.BLKSTAT_RUNNING 1 0 3) |> fun s => { s with dev := .serving, rst := { s.rst with held := false } }), _,
    by decide, by decide, by decide, by decide, by decide, rfl⟩
theorem guard_RecorderAndStudBookActs_7 : ∃ (s : State), s.kpf.erasing = true :=
  ⟨{ State.reset with dev := .serving, kpf := { State.reset.kpf with erasing := true } }, by decide⟩
theorem guard_RecorderAndStudBookActs_8 : ∃ (s : State) (core : Fin 4), s.cpx.mtimecmp.get core 0 ≤ s.cpx.mtime ∧ awake s = true
    :=
  ⟨{ State.reset with dev := .serving }, 1, by decide, by decide⟩
set_option maxRecDepth 100000 in
theorem guard_ServicePortActs_0 : ∃ (s : State) (k f : List Nat), svcUp s = true ∧ svcBad f = false ∧ svcOp f = 1 ∧ (svcBody
    f).length = 20 ∧ roleKey s 3 = some k ∧ s.svc.session = none ∧ bit s.dic.locked 4 = false :=
  ⟨((State.reset.wr R.SVC_CFG_ENABLE 1 |>.wr R.SVC_STAT_CONFIGURED 1) |> fun s =>
    { s with dev := .serving, rst := { s.rst with held := false }, svc := { s.svc with session := none } }), _, ([16, 1, 0, 0, 0,
    0, 0, 1, 0, 0, 0, 20, 0, 0, 0, 0, 0, 0, 0, 0, 0, 0, 0, 0, 0, 0, 0, 0, 0, 0, 0, 0, 0, 0, 0, 0] ++ Crypto.cmac ([] : List Nat)
    [16, 1, 0, 0, 0, 0, 0, 1, 0, 0, 0, 20, 0, 0, 0, 0, 0, 0, 0, 0, 0, 0, 0, 0, 0, 0, 0, 0, 0, 0, 0, 0, 0, 0, 0, 0]),
    by decide +kernel, by decide +kernel, by decide +kernel, by decide +kernel, rfl, by decide +kernel, by decide +kernel⟩
set_option maxRecDepth 100000 in
theorem guard_ServicePortActs_1 : ∃ (s : State) (x : Session) (f : List Nat), svcUp s = true ∧ svcBad f = false ∧ svcOp f = 3 ∧
    s.svc.session = some x ∧ x.isOpen = false ∧ svcLen f = 0 ∧ svcTag f = Crypto.cmac x.key (f.take 16) ∧ svcSeq f = 1 :=
  ⟨((State.reset.wr R.SVC_CFG_ENABLE 1 |>.wr R.SVC_STAT_CONFIGURED 1) |> fun s =>
    { s with dev := .serving, rst := { s.rst with held := false }, svc := { s.svc with session := some { path := 4, role := 3, nm := [], nd := [], key := ([] : List Nat), lastTime := 0, isOpen := false } } }),
    { path := 4, role := 3, nm := [], nd := [], key := ([] : List Nat), lastTime := 0, isOpen := false }, ([16, 3, 0, 0, 0, 0, 0,
    1, 0, 0, 0, 0, 0, 0, 0, 0] ++ Crypto.cmac ([] : List Nat) [16, 3, 0, 0, 0, 0, 0, 1, 0, 0, 0, 0, 0, 0, 0, 0]),
    by decide +kernel, by decide +kernel, by decide +kernel, by decide +kernel, by decide +kernel, by decide +kernel,
    by decide +kernel, by decide +kernel⟩
set_option maxRecDepth 100000 in
theorem guard_ServicePortActs_2 : ∃ (s : State) (x : Session) (f : List Nat), svcUp s = true ∧ svcBad f = false ∧ svcOp f = 0x10 ∧
    s.svc.session = some x ∧ x.isOpen = true ∧ svcTag f = Crypto.cmac x.key (f.take (16 + svcLen f)) ∧ svcSeq f ≠ x.lastSeq ∧
    svcSeq f ≠ x.lastSeq + 1 :=
  ⟨((State.reset.wr R.SVC_CFG_ENABLE 1 |>.wr R.SVC_STAT_CONFIGURED 1) |> fun s =>
    { s with dev := .serving, rst := { s.rst with held := false }, svc := { s.svc with session := some { path := 4, role := 3, nm := [], nd := [], key := ([] : List Nat), lastTime := 0, isOpen := true } } }),
    { path := 4, role := 3, nm := [], nd := [], key := ([] : List Nat), lastTime := 0, isOpen := true }, ([16, 16, 0, 0, 0, 0, 0,
    7, 0, 0, 0, 0, 0, 0, 0, 0] ++ Crypto.cmac ([] : List Nat) [16, 16, 0, 0, 0, 0, 0, 7, 0, 0, 0, 0, 0, 0, 0, 0]),
    by decide +kernel, by decide +kernel, by decide +kernel, by decide +kernel, by decide +kernel, by decide +kernel,
    by decide +kernel, by decide +kernel⟩
set_option maxRecDepth 100000 in
theorem guard_ServicePortActs_3 : ∃ (s : State) (x : Session) (f : List Nat), svcAccepts s x 0x10 f ∧ svcBody f = [] :=
  ⟨((State.reset.wr R.SVC_CFG_ENABLE 1 |>.wr R.SVC_STAT_CONFIGURED 1) |> fun s =>
    { s with dev := .serving, rst := { s.rst with held := false }, svc := { s.svc with session := some { path := 4, role := 3, nm := [], nd := [], key := ([] : List Nat), lastTime := 0, isOpen := true } } }),
    { path := 4, role := 3, nm := [], nd := [], key := ([] : List Nat), lastTime := 0, isOpen := true }, ([16, 16, 0, 0, 0, 0, 0,
    1, 0, 0, 0, 0, 0, 0, 0, 0] ++ Crypto.cmac ([] : List Nat) [16, 16, 0, 0, 0, 0, 0, 1, 0, 0, 0, 0, 0, 0, 0, 0]),
    by unfold svcAccepts; decide +kernel, by decide +kernel⟩
set_option maxRecDepth 100000 in
theorem guard_ServicePortActs_4 : ∃ (s : State) (x : Session) (f : List Nat) (n : Nat), svcAccepts s x 0x20 f ∧ (svcBody f).length
    = 4 ∧ n = beNat (svcBody f) ∧ n ≠ 0 ∧ n ≤ stagingBytes :=
  ⟨((State.reset.wr R.SVC_CFG_ENABLE 1 |>.wr R.SVC_STAT_CONFIGURED 1) |> fun s =>
    { s with dev := .serving, rst := { s.rst with held := false }, svc := { s.svc with session := some { path := 4, role := 3, nm := [], nd := [], key := ([] : List Nat), lastTime := 0, isOpen := true } } }),
    { path := 4, role := 3, nm := [], nd := [], key := ([] : List Nat), lastTime := 0, isOpen := true }, ([16, 32, 0, 0, 0, 0, 0,
    1, 0, 0, 0, 4, 0, 0, 0, 0, 0, 0, 1, 0] ++ Crypto.cmac ([] : List Nat) [16, 32, 0, 0, 0, 0, 0, 1, 0, 0, 0, 4, 0, 0, 0, 0, 0, 0,
    1, 0]), _, by unfold svcAccepts; decide +kernel, by decide +kernel, rfl, by decide +kernel, by decide +kernel⟩
set_option maxRecDepth 100000 in
theorem guard_ServicePortActs_5 : ∃ (s : State) (x : Session) (f data : List Nat) (off : Nat) (u : State), svcAccepts s x 0x21 f ∧
    u = svcTaken s x f ∧ 4 ≤ (svcBody f).length ∧ off = beNat ((svcBody f).take 4) ∧ data = (svcBody f).drop 4 ∧ receiving u =
    true ∧ off % 256 = 0 ∧ off + data.length ≤ u.svc.stageLen ∧ u.svc.staged.any (fun p => decide (p.1 < off + data.length) &&
    decide (off < p.1 + p.2)) = false :=
  ⟨((State.reset.wr R.SVC_CFG_ENABLE 1 |>.wr R.SVC_STAT_CONFIGURED 1 |>.wr R.UPD_STAT_STAGING 1) |> fun s =>
    { s with dev := .serving, rst := { s.rst with held := false }, svc := { s.svc with stageLen := 256, session := some { path := 4, role := 3, nm := [], nd := [], key := ([] : List Nat), lastTime := 0, isOpen := true } } }),
    { path := 4, role := 3, nm := [], nd := [], key := ([] : List Nat), lastTime := 0, isOpen := true }, ([16, 33, 0, 0, 0, 0, 0,
    1, 0, 0, 0, 6, 0, 0, 0, 0, 0, 0, 0, 0, 9, 8] ++ Crypto.cmac ([] : List Nat) [16, 33, 0, 0, 0, 0, 0, 1, 0, 0, 0, 6, 0, 0, 0, 0,
    0, 0, 0, 0, 9, 8]), _, _, _, by unfold svcAccepts; decide +kernel, rfl, by decide +kernel, rfl, rfl, by decide +kernel,
    by decide +kernel, by decide +kernel, by decide +kernel⟩
set_option maxRecDepth 100000 in
theorem guard_ServicePortActs_6 : ∃ (s : State) (x : Session) (f : List Nat) (why part : Nat) (u : State), svcAccepts s x 0x22 f ∧
    u = svcTaken s x f ∧ svcBody f = [] ∧ receiving u = true ∧ imageCheck u (imageBase 2) = some (why, part) :=
  ⟨((State.reset.wr R.SVC_CFG_ENABLE 1 |>.wr R.SVC_STAT_CONFIGURED 1 |>.wr R.UPD_STAT_STAGING 1) |> fun s =>
    { s with dev := .serving, rst := { s.rst with held := false }, svc := { s.svc with stageLen := 256, session := some { path := 4, role := 3, nm := [], nd := [], key := ([] : List Nat), lastTime := 0, isOpen := true } } }),
    { path := 4, role := 3, nm := [], nd := [], key := ([] : List Nat), lastTime := 0, isOpen := true }, ([16, 34, 0, 0, 0, 0, 0,
    1, 0, 0, 0, 0, 0, 0, 0, 0] ++ Crypto.cmac ([] : List Nat) [16, 34, 0, 0, 0, 0, 0, 1, 0, 0, 0, 0, 0, 0, 0, 0]), 4, 0, _,
    by unfold svcAccepts; decide +kernel, rfl, by decide +kernel, by decide +kernel, by decide +kernel⟩
set_option maxRecDepth 100000 in
theorem guard_ServicePortActs_7 : ∃ (s : State) (x : Session) (f : List Nat) (u : State), svcAccepts s x 0x22 f ∧ u = svcTaken s x
    f ∧ svcBody f = [] ∧ receiving u = true ∧ imageCheck u (imageBase 2) = none :=
  ⟨((State.reset.wr R.SVC_CFG_ENABLE 1 |>.wr R.SVC_STAT_CONFIGURED 1 |>.wr R.UPD_STAT_STAGING 1) |> fun s =>
    { s with dev := .serving, rst := { s.rst with held := false }, svc := { s.svc with stageLen := 256, session := some { path := 4, role := 3, nm := [], nd := [], key := ([] : List Nat), lastTime := 0, isOpen := true } }, kpf := { s.kpf with flash := imageFlash }, fuses := { s.fuses with imgkey := imageKey } }),
    { path := 4, role := 3, nm := [], nd := [], key := ([] : List Nat), lastTime := 0, isOpen := true }, ([16, 34, 0, 0, 0, 0, 0,
    1, 0, 0, 0, 0, 0, 0, 0, 0] ++ Crypto.cmac ([] : List Nat) [16, 34, 0, 0, 0, 0, 0, 1, 0, 0, 0, 0, 0, 0, 0, 0]), _,
    by unfold svcAccepts; decide +kernel, rfl, by decide +kernel, by decide +kernel, (imageCheck_reads (t := imageState)
    (by decide +kernel +kernel) (by decide +kernel +kernel) (by decide +kernel +kernel) _).trans image_checks⟩
set_option maxRecDepth 100000 in
theorem guard_ServicePortActs_8 : ∃ (s : State) (x : Session) (f : List Nat), svcAccepts s x 0x23 f ∧ svcBody f = [] :=
  ⟨((State.reset.wr R.SVC_CFG_ENABLE 1 |>.wr R.SVC_STAT_CONFIGURED 1) |> fun s =>
    { s with dev := .serving, rst := { s.rst with held := false }, svc := { s.svc with session := some { path := 4, role := 3, nm := [], nd := [], key := ([] : List Nat), lastTime := 0, isOpen := true } } }),
    { path := 4, role := 3, nm := [], nd := [], key := ([] : List Nat), lastTime := 0, isOpen := true }, ([16, 35, 0, 0, 0, 0, 0,
    1, 0, 0, 0, 0, 0, 0, 0, 0] ++ Crypto.cmac ([] : List Nat) [16, 35, 0, 0, 0, 0, 0, 1, 0, 0, 0, 0, 0, 0, 0, 0]),
    by unfold svcAccepts; decide +kernel, by decide +kernel⟩
set_option maxRecDepth 100000 in
theorem guard_ServicePortActs_9 : ∃ (s : State) (x : Session) (f : List Nat) (copy first n : Nat), svcAccepts s x 0x30 f ∧
    (svcBody f).length = 7 ∧ copy = (svcBody f).getD 0 0 ∧ first = fld (svcBody f) 1 4 ∧ n = fld (svcBody f) 5 2 ∧ copy ≤ 1 ∧ n ≤
    1000 ∧ first + n ≤ studSlots (svcTaken s x f) :=
  ⟨((State.reset.wr R.SVC_CFG_ENABLE 1 |>.wr R.SVC_STAT_CONFIGURED 1) |> fun s =>
    { s with dev := .serving, rst := { s.rst with held := false }, svc := { s.svc with session := some { path := 4, role := 3, nm := [], nd := [], key := ([] : List Nat), lastTime := 0, isOpen := true } } }),
    { path := 4, role := 3, nm := [], nd := [], key := ([] : List Nat), lastTime := 0, isOpen := true }, ([16, 48, 0, 0, 0, 0, 0,
    1, 0, 0, 0, 7, 0, 0, 0, 0, 0, 0, 0, 0, 0, 0, 0] ++ Crypto.cmac ([] : List Nat) [16, 48, 0, 0, 0, 0, 0, 1, 0, 0, 0, 7, 0, 0, 0,
    0, 0, 0, 0, 0, 0, 0, 0]), _, _, _, by unfold svcAccepts; decide +kernel, by decide +kernel, rfl, rfl, rfl, by decide +kernel,
    by decide +kernel, by decide +kernel⟩
set_option maxRecDepth 100000 in
theorem guard_ServicePortActs_10 : ∃ (s : State) (x : Session) (f : List Nat) (off n : Nat), svcAccepts s x 0x31 f ∧ (svcBody
    f).length = 6 ∧ off = fld (svcBody f) 0 4 ∧ n = fld (svcBody f) 4 2 ∧ n ≤ 4096 ∧ off + n ≤ 0x10080 :=
  ⟨((State.reset.wr R.SVC_CFG_ENABLE 1 |>.wr R.SVC_STAT_CONFIGURED 1) |> fun s =>
    { s with dev := .serving, rst := { s.rst with held := false }, svc := { s.svc with session := some { path := 4, role := 3, nm := [], nd := [], key := ([] : List Nat), lastTime := 0, isOpen := true } } }),
    { path := 4, role := 3, nm := [], nd := [], key := ([] : List Nat), lastTime := 0, isOpen := true }, ([16, 49, 0, 0, 0, 0, 0,
    1, 0, 0, 0, 6, 0, 0, 0, 0, 0, 0, 0, 0, 0, 4] ++ Crypto.cmac ([] : List Nat) [16, 49, 0, 0, 0, 0, 0, 1, 0, 0, 0, 6, 0, 0, 0, 0,
    0, 0, 0, 0, 0, 4]), _, _, by unfold svcAccepts; decide +kernel, by decide +kernel, rfl, rfl, by decide +kernel,
    by decide +kernel⟩
set_option maxRecDepth 100000 in
theorem guard_ServicePortActs_11 : ∃ (s : State) (x : Session) (f : List Nat) (first n : Nat), svcAccepts s x 0x32 f ∧ (svcBody
    f).length = 10 ∧ first = fld (svcBody f) 0 8 ∧ n = fld (svcBody f) 8 2 ∧ n ≤ 2000 :=
  ⟨((State.reset.wr R.SVC_CFG_ENABLE 1 |>.wr R.SVC_STAT_CONFIGURED 1) |> fun s =>
    { s with dev := .serving, rst := { s.rst with held := false }, svc := { s.svc with session := some { path := 4, role := 3, nm := [], nd := [], key := ([] : List Nat), lastTime := 0, isOpen := true } } }),
    { path := 4, role := 3, nm := [], nd := [], key := ([] : List Nat), lastTime := 0, isOpen := true }, ([16, 50, 0, 0, 0, 0, 0,
    1, 0, 0, 0, 10, 0, 0, 0, 0, 0, 0, 0, 0, 0, 0, 0, 0, 0, 4] ++ Crypto.cmac ([] : List Nat) [16, 50, 0, 0, 0, 0, 0, 1, 0, 0, 0,
    10, 0, 0, 0, 0, 0, 0, 0, 0, 0, 0, 0, 0, 0, 4]), _, _, by unfold svcAccepts; decide +kernel, by decide +kernel, rfl, rfl,
    by decide +kernel⟩
set_option maxRecDepth 100000 in
theorem guard_ServicePortActs_12 : ∃ (s : State) (x : Session) (f : List Nat), svcAccepts s x 0x40 f ∧ svcBody f = [4] :=
  ⟨((State.reset.wr R.SVC_CFG_ENABLE 1 |>.wr R.SVC_STAT_CONFIGURED 1) |> fun s =>
    { s with dev := .serving, rst := { s.rst with held := false }, svc := { s.svc with session := some { path := 4, role := 3, nm := [], nd := [], key := ([] : List Nat), lastTime := 0, isOpen := true } } }),
    { path := 4, role := 3, nm := [], nd := [], key := ([] : List Nat), lastTime := 0, isOpen := true }, ([16, 64, 0, 0, 0, 0, 0,
    1, 0, 0, 0, 1, 0, 0, 0, 0, 4] ++ Crypto.cmac ([] : List Nat) [16, 64, 0, 0, 0, 0, 0, 1, 0, 0, 0, 1, 0, 0, 0, 0, 4]),
    by unfold svcAccepts; decide +kernel, by decide +kernel⟩
set_option maxRecDepth 100000 in
theorem guard_ServicePortActs_13 : ∃ (s : State) (x : Session) (f : List Nat), svcAccepts s x 0x7F f ∧ svcBody f = [] :=
  ⟨((State.reset.wr R.SVC_CFG_ENABLE 1 |>.wr R.SVC_STAT_CONFIGURED 1) |> fun s =>
    { s with dev := .serving, rst := { s.rst with held := false }, svc := { s.svc with session := some { path := 4, role := 3, nm := [], nd := [], key := ([] : List Nat), lastTime := 0, isOpen := true } } }),
    { path := 4, role := 3, nm := [], nd := [], key := ([] : List Nat), lastTime := 0, isOpen := true }, ([16, 127, 0, 0, 0, 0, 0,
    1, 0, 0, 0, 0, 0, 0, 0, 0] ++ Crypto.cmac ([] : List Nat) [16, 127, 0, 0, 0, 0, 0, 1, 0, 0, 0, 0, 0, 0, 0, 0]),
    by unfold svcAccepts; decide +kernel, by decide +kernel⟩
set_option maxRecDepth 100000 in
theorem guard_ServicePortActs_14 : ∃ (s : State) (x : Session), awake s = true ∧ s.svc.session = some x ∧ x.isOpen = true :=
  ⟨((State.reset.wr R.SVC_CFG_ENABLE 1 |>.wr R.SVC_STAT_CONFIGURED 1) |> fun s =>
    { s with dev := .serving, rst := { s.rst with held := false }, svc := { s.svc with session := some { path := 4, role := 3, nm := [], nd := [], key := ([] : List Nat), lastTime := 0, isOpen := true } } }),
    { path := 4, role := 3, nm := [], nd := [], key := ([] : List Nat), lastTime := 0, isOpen := true }, by decide +kernel,
    by decide +kernel, by decide +kernel⟩
set_option maxRecDepth 100000 in
theorem guard_ServicePortActs_15 : ∃ (s : State), awake s = true :=
  ⟨((State.reset.wr R.SVC_CFG_ENABLE 1 |>.wr R.SVC_STAT_CONFIGURED 1) |> fun s =>
    { s with dev := .serving, rst := { s.rst with held := false }, svc := { s.svc with session := some { path := 4, role := 3, nm := [], nd := [], key := ([] : List Nat), lastTime := 0, isOpen := true } } }),
    by decide +kernel⟩
set_option maxRecDepth 100000 in
theorem guard_ServicePortActs_16 : ∃ (s : State), awake s = true ∧ s.on R.SVC_CFG_ENABLE = true :=
  ⟨((State.reset.wr R.SVC_CFG_ENABLE 1) |> fun s => { s with dev := .serving }), by decide +kernel, by decide +kernel⟩
theorem guard_KeyEngineActs_0 : ∃ (s : State) (d k : List Nat), keyHead s 1 = some d ∧ keyMode d ≠ 3 ∧ useKey s (keySlot d) = some
    k ∧ keyLen d ≤ 65536 ∧ (keyMode d = 0 → keyLen d % 16 = 0) ∧ keyBufs s d = true :=
  ⟨((State.reset.wr R.BLKSTAT_RUNNING 1 0 7 |>.wr R.TIE_DATABASE_DATABASE 1) |> fun s =>
    { s with dev := .serving, key := { s.key with queue := [[7, 268697602, 0, 0, 0, 0, 0, 0]], slots := [(16, { kind := .aes128, bytes := [1, 2, 3, 4, 5, 6, 7, 8, 9, 10, 11, 12, 13, 14, 15, 16] })] } }),
    [7, 268697602, 0, 0, 0, 0, 0, 0], [1, 2, 3, 4, 5, 6, 7, 8, 9, 10, 11, 12, 13, 14, 15, 16], by decide, by decide, by decide,
    by decide, by decide, by decide⟩
theorem guard_KeyEngineActs_1 : ∃ (s : State) (d k : List Nat), keyHead s 2 = some d ∧ keyMode d ≠ 3 ∧ useKey s (keySlot d) = some
    k ∧ keyLen d ≤ 65536 ∧ (keyMode d = 0 → keyLen d % 16 = 0) ∧ keyBufs s d = true :=
  ⟨((State.reset.wr R.BLKSTAT_RUNNING 1 0 7 |>.wr R.TIE_DATABASE_DATABASE 1) |> fun s =>
    { s with dev := .serving, key := { s.key with queue := [[7, 537133058, 0, 0, 0, 0, 0, 0]], slots := [(16, { kind := .aes128, bytes := [1, 2, 3, 4, 5, 6, 7, 8, 9, 10, 11, 12, 13, 14, 15, 16] })] } }),
    [7, 537133058, 0, 0, 0, 0, 0, 0], [1, 2, 3, 4, 5, 6, 7, 8, 9, 10, 11, 12, 13, 14, 15, 16], by decide, by decide, by decide,
    by decide, by decide, by decide⟩
theorem guard_KeyEngineActs_2 : ∃ (s : State) (d k : List Nat), keyHead s 3 = some d ∧ useKey s (keySlot d) = some k ∧ keyLen d ≤
    65536 ∧ keyBufs s d = true :=
  ⟨((State.reset.wr R.BLKSTAT_RUNNING 1 0 7 |>.wr R.TIE_DATABASE_DATABASE 1) |> fun s =>
    { s with dev := .serving, key := { s.key with queue := [[7, 805568514, 0, 0, 0, 0, 0, 0]], slots := [(16, { kind := .aes128, bytes := [1, 2, 3, 4, 5, 6, 7, 8, 9, 10, 11, 12, 13, 14, 15, 16] })] } }),
    [7, 805568514, 0, 0, 0, 0, 0, 0], [1, 2, 3, 4, 5, 6, 7, 8, 9, 10, 11, 12, 13, 14, 15, 16], by decide, by decide, by decide,
    by decide⟩
theorem guard_KeyEngineActs_3 : ∃ (s : State) (d : List Nat), keyHead s 3 = some d ∧ useKey s (keySlot d) = none :=
  ⟨((State.reset.wr R.BLKSTAT_RUNNING 1 0 7 |>.wr R.TIE_DATABASE_DATABASE 1) |> fun s =>
    { s with dev := .serving, key := { s.key with queue := [[7, 805421058, 0, 0, 0, 0, 0, 0]], slots := [(16, { kind := .aes128, bytes := [1, 2, 3, 4, 5, 6, 7, 8, 9, 10, 11, 12, 13, 14, 15, 16] })] } }),
    [7, 805421058, 0, 0, 0, 0, 0, 0], by decide, by decide⟩
theorem guard_KeyEngineActs_4 : ∃ (s : State) (d k x : List Nat), keyHead s 4 = some d ∧ keyKlen d < 2 ∧ 16 ≤ keySlot d ∧ 16 ≤
    keyDslot d ∧ useKey s (keySlot d) = some k ∧ keyLen d ≤ 65536 ∧ keyBufs s d = true ∧ x = areaRead s (keySrc d) (keyLen d) :=
  ⟨((State.reset.wr R.BLKSTAT_RUNNING 1 0 7 |>.wr R.TIE_DATABASE_DATABASE 1) |> fun s =>
    { s with dev := .serving, key := { s.key with queue := [[2147483655, 1074003968, 0, 0, 0, 0, 0, 17825792]], slots := [(16, { kind := .aes128, bytes := [1, 2, 3, 4, 5, 6, 7, 8, 9, 10, 11, 12, 13, 14, 15, 16] })] } }),
    [2147483655, 1074003968, 0, 0, 0, 0, 0, 17825792], [1, 2, 3, 4, 5, 6, 7, 8, 9, 10, 11, 12, 13, 14, 15, 16], _, by decide,
    by decide, by decide, by decide, by decide, by decide, by decide, rfl⟩
theorem guard_KeyEngineActs_5 : ∃ (s : State) (d : List Nat), keyHead s 5 = some d ∧ keyKlen d < 2 ∧ 16 ≤ keyDslot d ∧ keyBufs s d
    = true :=
  ⟨((State.reset.wr R.BLKSTAT_RUNNING 1 0 7 |>.wr R.TIE_DATABASE_DATABASE 1) |> fun s =>
    { s with dev := .serving, key := { s.key with queue := [[7, 1342177280, 0, 0, 0, 0, 0, 17825792]], slots := [(16, { kind := .aes128, bytes := [1, 2, 3, 4, 5, 6, 7, 8, 9, 10, 11, 12, 13, 14, 15, 16] })] } }),
    [7, 1342177280, 0, 0, 0, 0, 0, 17825792], by decide, by decide, by decide, by decide⟩
theorem guard_KeyEngineActs_6 : ∃ (s : State) (d : List Nat), keyHead s 6 = some d ∧ keyLen d ≤ 65536 ∧ keyBufs s d = true ∧
    drbgOk s = true :=
  ⟨((State.reset.wr R.BLKSTAT_RUNNING 1 0 7 |>.wr R.TIE_DATABASE_DATABASE 1) |> fun s =>
    { s with dev := .serving, key := { s.key with queue := [[7, 1610612738, 0, 0, 0, 0, 0, 0]], slots := [(16, { kind := .aes128, bytes := [1, 2, 3, 4, 5, 6, 7, 8, 9, 10, 11, 12, 13, 14, 15, 16] })] } }),
    [7, 1610612738, 0, 0, 0, 0, 0, 0], by decide, by decide, by decide, by decide⟩
theorem guard_KeyEngineActs_7 : ∃ (s : State) (d : List Nat), keyHead s 6 = some d ∧ keyLen d ≤ 65536 ∧ keyBufs s d = true ∧
    drbgOk s = false :=
  ⟨((State.reset.wr R.BLKSTAT_RUNNING 1 0 7 |>.wr R.TIE_DATABASE_DATABASE 1 |>.wr R.KEY_STAT_NOENTROPY 1) |> fun s =>
    { s with dev := .serving, key := { s.key with queue := [[7, 1610612738, 0, 0, 0, 0, 0, 0]], slots := [] } }), [7, 1610612738,
    0, 0, 0, 0, 0, 0], by decide, by decide, by decide, by decide⟩
theorem guard_KeyEngineActs_8 : ∃ (s : State) (d : List Nat), keyHead s 7 = some d ∧ 16 ≤ keyDslot d :=
  ⟨((State.reset.wr R.BLKSTAT_RUNNING 1 0 7 |>.wr R.TIE_DATABASE_DATABASE 1) |> fun s =>
    { s with dev := .serving, key := { s.key with queue := [[7, 1879048192, 0, 0, 0, 0, 0, 17825792]], slots := [(16, { kind := .aes128, bytes := [1, 2, 3, 4, 5, 6, 7, 8, 9, 10, 11, 12, 13, 14, 15, 16] })] } }),
    [7, 1879048192, 0, 0, 0, 0, 0, 17825792], by decide, by decide⟩
theorem guard_KeyEngineActs_9 : ∃ (s : State) (d : List Nat), keyHead s 7 = some d ∧ keyDslot d < 16 :=
  ⟨((State.reset.wr R.BLKSTAT_RUNNING 1 0 7 |>.wr R.TIE_DATABASE_DATABASE 1) |> fun s =>
    { s with dev := .serving, key := { s.key with queue := [[7, 1879048192, 0, 0, 0, 0, 0, 5242880]], slots := [(16, { kind := .aes128, bytes := [1, 2, 3, 4, 5, 6, 7, 8, 9, 10, 11, 12, 13, 14, 15, 16] })] } }),
    [7, 1879048192, 0, 0, 0, 0, 0, 5242880], by decide, by decide⟩
theorem guard_KeyEngineActs_10 : ∃ (s : State), awake s = true :=
  ⟨{ State.reset with dev := .serving }, by decide⟩
theorem guard_KeyEngineActs_11 : ∃ (s : State), awake s = true ∧ drbgOk s = true :=
  ⟨{ State.reset with dev := .serving }, by decide, by decide⟩
theorem guard_KeyEngineActs_12 : ∃ (s : State), awake s = true ∧ drbgOk s = true :=
  ⟨{ State.reset with dev := .serving }, by decide, by decide⟩
theorem guard_KeyEngineActs_13 : ∃ (s : State), awake s = true ∧ s.key.debugFails < 4 ∧ s.dev ≠ .rising :=
  ⟨{ State.reset with dev := .serving }, by decide, by decide, by decide⟩
theorem guard_KeyEngineActs_14 : ∃ (s : State) (tag : List Nat), s.dev = .rising ∧ s.key.debugFails < 4 ∧ tag = Crypto.cmac
    s.fuses.dbg (beBytes s.fuses.partNumber 8 ++ drawBytes s 16) :=
  ⟨{ State.reset with dev := .rising }, _, by decide, by decide, rfl⟩
theorem guard_UpdateAndOtherActs_0 : ∃ (s : State), awake s = true :=
  ⟨{ State.reset with dev := .serving }, by decide⟩
theorem guard_UpdateAndOtherActs_1 : ∃ (s : State), awake s = true :=
  ⟨{ State.reset with dev := .serving }, by decide⟩
theorem guard_UpdateAndOtherActs_2 : ∃ (s : State) (sess slot : Nat) (x : Session) (kw k : List Nat), awake s = true ∧ slot = ent
    s (ekey 0x2D10 1) 4 ∧ s.dic.sessions.find? sess = some x ∧ slotBytes s 9 = some kw ∧ x.isOpen = true ∧ x.keyBlob.length = 32 ∧
    2 ≤ slot ∧ slot ≤ 5 ∧ slotLoaded s 9 = true ∧ k = Crypto.xorBytes x.keyBlob (loadMask x.key sess x.keySeq) :=
  ⟨((State.reset) |> fun s =>
    { s with dev := .serving, rst := { s.rst with held := false }, dic := { s.dic with sessions := [(7, { path := 0, role := 2, isOpen := true, key := ([] : List Nat), keyBlob := List.replicate 32 1 })], ent := [(ekey 0x2D10 1, 3)] }, key := { s.key with slots := [(9, { kind := .aes256, bytes := List.replicate 32 2 })] } }),
    7, _, { path := 0, role := 2, isOpen := true, key := ([] : List Nat), keyBlob := List.replicate 32 1 }, List.replicate 32 2,
    _, by decide, rfl, by decide, by decide, by decide, by decide, by decide, by decide, by decide, rfl⟩
theorem guard_UpdateAndOtherActs_3 : ∃ (s : State) (sess ch k : Nat), awake s = true ∧ k = sessEnt s sess (ekey 0x2910 1) 0 ∧ ch <
    32 ∧ retirable (cmdRun s (ekey 0x2910 6)) k = true :=
  ⟨{ State.reset with dev := .serving }, 7, 2, _, by decide, rfl, by decide, by decide⟩
theorem guard_UpdateAndOtherActs_4 : ∃ (s : State), twnRuns s = true :=
  ⟨(((State.reset.wr R.BLKSTAT_RUNNING 1 0 24)) |> fun s =>
    { s with dev := .serving, rst := { s.rst with held := false }, twn := { s.twn with link := 1 } }), by decide⟩
theorem guard_UpdateAndOtherActs_5 : ∃ (s : State), twnRuns s = true :=
  ⟨(((State.reset.wr R.BLKSTAT_RUNNING 1 0 24)) |> fun s =>
    { s with dev := .serving, rst := { s.rst with held := false }, twn := { s.twn with link := 1 } }), by decide⟩
theorem guard_UpdateAndOtherActs_6 : ∃ (s : State), visilUp s = true :=
  ⟨(((State.reset.wr R.BLKSTAT_RUNNING 1 0 24)) |> fun s =>
    { s with dev := .serving, rst := { s.rst with held := false }, twn := { s.twn with link := 1 } }), by decide⟩
theorem guard_UpdateAndOtherActs_7 : ∃ (s : State) (m : Nat), visilUp s = true ∧ mayWiden s = true ∧ s.twn.passed ≠ 0 ∧ m =
    goodLanes s ||| s.twn.passed :=
  ⟨(((State.reset.wr R.BLKSTAT_RUNNING 1 0 24)) |> fun s =>
    { s with dev := .serving, rst := { s.rst with held := false }, twn := { s.twn with link := 1, passed := 2 } }), _, by decide,
    by decide, by decide, rfl⟩
theorem guard_UpdateAndOtherActs_8 : ∃ (s : State) (speed width : Nat), awake s = true ∧ s.pci.perst = false ∧ s.on
    R.PCI_CFG_ENABLE = true ∧ 1 ≤ speed ∧ speed ≤ 5 ∧ [1, 2, 4, 8, 16].contains width = true :=
  ⟨((State.reset.wr R.PCI_CFG_ENABLE 1) |> fun s => { s with dev := .serving, pci := { s.pci with perst := false } }), 5, 16,
    by decide, by decide, by decide, by decide, by decide, by decide⟩
theorem guard_UpdateAndOtherActs_9 : ∃ (s : State), awake s = true ∧ s.pci.perst = false ∧ s.on R.PCI_STAT_LINKUP = true :=
  ⟨((State.reset.wr R.PCI_STAT_LINKUP 1) |> fun s => { s with dev := .serving, pci := { s.pci with perst := false } }), by decide,
    by decide, by decide⟩
theorem guard_UpdateAndOtherActs_10 : ∃ (s : State), awake s = true :=
  ⟨{ State.reset with dev := .serving }, by decide⟩
theorem guard_UpdateAndOtherActs_11 : ∃ (s : State), awake s = true :=
  ⟨{ State.reset with dev := .serving }, by decide⟩
theorem guard_UpdateAndOtherActs_12 : ∃ (s : State), awake s = true :=
  ⟨{ State.reset with dev := .serving }, by decide⟩
theorem guard_UpdateAndOtherActs_13 : ∃ (s : State) (c : SaveCause), s.sav.wanted = some c ∧ s.dev = .rising ∧ s.on
    R.RST_RETAIN_WARM = true :=
  ⟨((State.reset.wr R.RST_RETAIN_WARM 1) |> fun s =>
    { s with dev := .rising, rst := { s.rst with held := false }, sav := { s.sav with wanted := some .warning } }), .warning,
    by decide, by decide, by decide⟩

/-! ## States that meet the statements' hypotheses -/

theorem guard_StepRunsTheFrontCommand : ∃ (s : State) (c : Instr) (rest : List Instr), s.pending = c :: rest :=
  ⟨{ State.reset with pending := [.configSweep] }, .configSweep, [], rfl⟩

/-- A run of two steps: a sweep of the configuration, then a microsecond. -/
def shortRun : Nat → State
  | 0 => { State.reset with pending := [.configSweep] }
  | 1 => doConfigSweep { State.reset with pending := [] }
  | _ => tick (doConfigSweep { State.reset with pending := [] })
theorem guard_RunsOnlyBurnFuses : ∃ (f : Nat → State) (n : Nat), 0 < n ∧ ∀ i, i < n → step (f i) = .next (f (i + 1)) :=
  ⟨shortRun, 2, by decide, fun i h => by
    match i, h with
    | 0, _ => rfl
    | 1, _ => rfl⟩

theorem guard_CommandsStayInTheirParts : ∃ (c : Instr) (s t : State), exec c s = .next t :=
  ⟨.inputCollapse, { State.reset with dev := .serving }, _, rfl⟩

theorem guard_StepKeepsCanonical : ∃ s t : State, s.canonical ∧ s.pending ≠ [] ∧ step s = .next t :=
  ⟨{ State.reset with pending := [.configSweep] }, _, ⟨rfl, ⟨⟨⟨rfl, rfl⟩, ⟨rfl, rfl⟩⟩, rfl⟩, rfl, rfl⟩, by decide, rfl⟩

theorem guard_UnpoweredFabricIsInert : ∃ (c : Instr) (s : State), fabric c = true ∧ awake s = false :=
  ⟨.linkUp 0, State.reset, by decide, by decide⟩

theorem guard_SuperblockNumbers : ∃ (s : State) (k : Nat) (l : SLoc), l.die < dpc s ∧ locSb s l = k :=
  ⟨dpc32, 38729, { block := 1210, die := 9 }, by decide, by decide⟩

theorem guard_LevelOneResetsRefused_power : ∃ (s : State) (a : ResetArg), awake s = true ∧ a.level.toNat = 1 ∧ reachOf s 4 ≠ 7 ∧
    1 ≤ reachOf s 4 ∧ a.block.toNat ∈ [12, 13, 14] :=
  ⟨{ State.reset with dev := .restoring }, ⟨1, 12, true⟩, by decide, by decide, by decide, by decide, by decide⟩
theorem guard_LevelOneResetsRefused_serving : ∃ (s : State) (a : ResetArg), awake s = true ∧ a.level.toNat = 1 ∧ reachOf s 4 ≠ 7 ∧
    1 ≤ reachOf s 4 ∧ s.dev = .serving ∧ 42 ≤ a.block.toNat :=
  ⟨{ State.reset with dev := .serving }, ⟨1, 42, true⟩, by decide, by decide, by decide, by decide, by decide, by decide⟩
theorem guard_LevelOneResetsRefused_debug : ∃ (s : State) (a : ResetArg), awake s = true ∧ s.on R.KEY_STAT_DEBUG = true ∧
    a.level.toNat = 1 ∧ reachOf s 5 ≠ 7 ∧ 1 ≤ reachOf s 5 ∧ a.block.toNat ∈ [12, 13, 14] :=
  ⟨{ State.reset.wr R.KEY_STAT_DEBUG 1 with dev := .rising }, ⟨1, 14, true⟩, by decide, by decide, by decide, by decide, by decide,
    by decide⟩

theorem guard_MainRoadStaysUp_go : ∃ (s : State) (b : Fin 58), s.dev = .serving ∧ mainRoad b = true :=
  ⟨{ State.reset with dev := .serving }, 18, by decide, by decide⟩
theorem guard_MainRoadStaysUp_stop : ∃ (s : State) (n : Nat) (F : Fld) (i : Nat), mainRoad n = true ∧ s.dev ≠ .rising ∧
    s.on R.BLKSTAT_STARTED 0 n = true ∧ F.app = .stop ∧ 8 < F.offset i ∧ F.offset i < 0x100000 ∧ F.lsb < 32 :=
  ⟨running47, 47, R.DRC_ADDRMAP_ORDER, 0, by decide, by decide, by decide, by decide, by decide, by decide, by decide⟩
theorem guard_MainRoadStaysUp_start : ∃ n : Nat, n < 58 ∧ mainRoad n = true := ⟨57, by decide, by decide⟩

theorem guard_ValuesOutOfLimitsAreRefused_limit : ∃ (F : Fld) (v : Nat), F.lim.ok v = false := ⟨R.GOV_CAP_CAP, 0, by decide⟩
theorem guard_ValuesOutOfLimitsAreRefused_width : ∃ (F : Fld) (v : Nat), 2 ^ F.wid ≤ v := ⟨R.GOV_CAP_CAP, 4096, by decide⟩

theorem guard_PageHomes_side0 : ∃ (s : State) (p : Nat), (extentAt s (p / 512)).home = 0 := ⟨State.reset, 0, by decide⟩
theorem guard_PageHomes_side1 : ∃ (s : State) (p : Nat), (extentAt s (p / 512)).home = 1 :=
  ⟨setExtent State.reset 3 { home := 1 }, 3 * 512 + 511, by decide⟩
theorem guard_PageHomes_interleave : ∃ (s : State) (p q : Nat), (extentAt s (p / 512)).home = 2 ∧ p % 2 = 0 ∧
    (extentAt s (q / 512)).home = 2 ∧ q % 2 = 1 :=
  ⟨setExtent State.reset 3 { home := 2 }, 3 * 512, 3 * 512 + 511, by decide, by decide, by decide, by decide⟩

/-- Two waits for resource 4, which is free. -/
def twoWaits : State := { State.reset with
  dev := .serving, far := { State.reset.far with waits := [{ owner := 128, res := 4, since := 0 }, { owner := 256, res := 4, since := 0 }] } }
theorem guard_FarrierGrants_free : ∃ (s : State) (owner n : Nat), s.far.held.find? n = none ∧
    s.far.waits.any (fun w => w.res = n && w.owner = owner) = false ∧ grants s owner = true :=
  ⟨{ State.reset with dev := .serving }, 128, 4, by decide, by decide, by decide⟩
theorem guard_FarrierGrants_next : ∃ (s : State) (n : Nat) (w : FarReq), s.far.held.find? n = none ∧ nextWait s n = some w :=
  ⟨twoWaits, 4, { owner := 256, res := 4, since := 0 }, by decide, by decide⟩
theorem guard_FarrierGrants_request : ∃ (s : State) (owner : Nat), awake s = true ∧ ownerOk owner = true :=
  ⟨{ State.reset with dev := .serving }, 128, by decide, by decide⟩
theorem guard_FarrierGrants_instance : ∃ i : Nat, i < 128 := ⟨127, by decide⟩

/-- A session of path 0, and a frame of a kind with a body and flags on it, with its tag or with another. -/
def withSession (role : Nat) : State := { State.reset.wr R.MGT_CFG_ENABLE 1 with
  dev := .serving, rst := { State.reset.rst with held := false }
  dic := { State.reset.dic with sessions := [(7, { path := 0, role, isOpen := true })] } }
def taggedFrame (kind flags : Nat) (body : List Nat) : List Nat :=
  let h := frameHead kind flags 7 1 body.length 0 ++ body
  h ++ Crypto.cmac [] h
def untaggedFrame (kind : Nat) : List Nat := frameHead kind 0 7 1 0 0 ++ List.replicate 16 0
theorem guard_FramesWithBadTagsAreDropped : ∃ (s : State) (path : Fin 4) (f : List Nat) (x : Session), dicReady s path ∧
    malformed f = false ∧ s.dic.sessions.find? (frameSess f) = some x ∧ x.path = path ∧ x.isOpen = true ∧
    frameTag f ≠ Crypto.cmac x.key (f.take (12 + frameLen f)) ∧ frameKind f = 5 :=
  ⟨withSession 0, 0, untaggedFrame 5, { path := 0, role := 0, isOpen := true }, by unfold dicReady; decide, by decide, by decide,
    by decide, by decide, by decide, by decide⟩
theorem guard_FramesWithBadTagsAreDropped_kinds :
    frameKind (untaggedFrame 6) = 6 ∧ frameKind (untaggedFrame 8) = 8 ∧ frameKind (untaggedFrame 9) = 9 := by decide
theorem guard_AllFramesApplyAllOrNone : ∃ (s : State) (path : Fin 4) (f : List Nat) (x : Session) (items : List Item) (it : Item),
    dicReady s path ∧ accepts s x path 6 f ∧ bit (frameFlags f) 6 = true ∧ frameSeq f ≠ 0xFFFFFFFF ∧
    parseItems true 64 (frameBody f) = some items ∧ it ∈ items ∧ writeCheck s x.role it ≠ stOk :=
  ⟨withSession 2, 0, taggedFrame 6 64 [0xFF, 0xFF, 2, 1, 0, 0, 0, 1, 3, 0, 0, 0], { path := 0, role := 2, isOpen := true },
    [{ index := 0xFFFF, sub := 2, typ := 1, len := 1, offset := 0, data := [3] }],
    { index := 0xFFFF, sub := 2, typ := 1, len := 1, offset := 0, data := [3] },
    by unfold dicReady; decide, by unfold accepts; decide, by decide, by decide, by decide, by decide, by decide⟩

theorem guard_FailedAccessTouchesNothing_access : ∃ (s : State) (id : Nat) (r : Req), reqAt s id = some r ∧ r.stage = .translate ∧
    r.passed = false ∧ badEntry s (regAddr (bits r.rkey 10 14)) = false ∧
    accessCause s (qpAt s r.qp).tenant r.rkey r.va r.len r.kind ≠ 0 := by
  obtain ⟨s, id, _, r, h0, h1, h2, h3, h4, h5⟩ := guard_RequestStagesAct_2
  exact ⟨s, id, r, h0, h1, h2, h3, h4 ▸ h5⟩
/-- A READ of page 0 waits to be translated, and the line of its region's entry is poisoned. -/
def poisonedEntry : State := { State.reset with
  dev := .serving, xpt := { State.reset.xpt with reqs := [
    { id := 5, qp := 3, lport := 0, psn := 0, npsn := 1, kind := .read, rkey := 0, va := 0, len := 16, payload := [], compare := 0,
      swapAdd := 0, ackReq := true, last := true, imm := none, stage := .translate }] }
  dram := { State.reset.dram with lines := [(regAddr 0 / 64, .poison)] } }
theorem guard_FailedAccessTouchesNothing_poison : ∃ (s : State) (id : Nat) (r : Req), reqAt s id = some r ∧ r.stage = .translate ∧
    r.passed = false ∧ badEntry s (regAddr (bits r.rkey 10 14)) = true :=
  ⟨poisonedEntry, 5, _, rfl, rfl, rfl, by decide⟩

theorem guard_CeilingStaysUnderTheCap : ∃ s : State, awake s = true ∧ s.running 21 = true ∧ s.rst.held = false ∧
    s.on R.GOV_CTL_FREEZE = true ∧ s.gov.computed = true :=
  ⟨{ (State.reset.wr R.BLKSTAT_RUNNING 1 0 21).wr R.GOV_CTL_FREEZE 1 with
      dev := .serving, rst := { State.reset.rst with held := false }, gov := { State.reset.gov with computed := true } },
    by decide, by decide, by decide, by decide, by decide⟩

theorem guard_EventsAreRecordedOrCounted_token : ∃ (s : State) (code : Nat), hasToken s code = true :=
  ⟨State.reset, 0x0400, by decide⟩
theorem guard_EventsAreRecordedOrCounted_none : ∃ (s : State) (code : Nat), hasToken s code = false :=
  ⟨{ State.reset with recd := { State.reset.recd with buckets := [(0x0800, ⟨0, 0⟩)] } }, 0x0800, by decide⟩

theorem guard_TierDReadsWhatWasWritten : ∃ (s : State) (bs : List Nat), bs ≠ [] ∧ Memory.wf s.dram.data = true ∧ ∀ x ∈ bs, x < 256 :=
  ⟨State.reset, [0, 255], by decide, by decide, by decide⟩
theorem guard_StripesInvert : ∃ (s : State) (a : Nat), a < geometryBytes s := ⟨fullBuild, 0x034567834A40, by decide⟩
end

section
/-! PROOFS. The frame of every command: which parts of the state `exec` may change. The content is one lemma per meaning in
Laws/KeepOps.lean; here each is tied to `exec`, and its mask to the list `touches`. -/

namespace Sys2Proof.Proofs

open Sys2Proof Sys2Proof.Machine Sys2Proof.Laws

theorem next_eq {s t : State} (h : s = t) : (.next s : Out3) = .next t := congrArg _ h

/-- What is left of a mask of parts when the parts of a list are taken out. -/
def maskOutside (k : Nat) (ps : List StPart) : Nat := ps.foldl (fun m p => m ^^^ (m &&& 2 ^ p.bit)) k

theorem StPart.bit_injective : Function.Injective StPart.bit :=
  Function.LeftInverse.injective (g := fun i => StPart.all.getD i .dev) (fun p => by cases p <;> rfl)

/-- A part that a list does not hold stands in no mask that the list covers. -/
theorem testBit_of_maskOutside {p : StPart} {ps : List StPart} (hp : p ∉ ps) {k : Nat} (h : maskOutside k ps = 0) :
    k.testBit p.bit = false := by
  induction ps generalizing k with
  | nil => rw [show k = 0 from h, Nat.zero_testBit]
  | cons q qs ih =>
    have hq : q.bit ≠ p.bit := fun e => hp (StPart.bit_injective e ▸ List.mem_cons_self)
    have := ih (fun hm => hp (List.mem_cons_of_mem q hm)) h
    simpa [Nat.testBit_xor, Nat.testBit_and, Nat.testBit_two_pow, hq] using this

/-- The outcome is a next state, which differs from `s` only in the parts of a mask that `ps` covers. -/
inductive StaysIn (ps : List StPart) (s : State) : Out3 → Prop
  | next {t : State} (k : Nat) (keeps : Keeps k s t) (within : maskOutside k ps = 0) : StaysIn ps s (.next t)

/-- A meaning that keeps everything outside its mask `m` stays in a list that covers the mask. -/
theorem StaysIn.of {ps : List StPart} {s t : State} {o : Out3} {m : Nat} (ho : o = .next t)
    (hk : Sub m m → Keeps m s s → Keeps m s t) (hm : maskOutside m ps = 0) : StaysIn ps s o :=
  ho ▸ .next m (hk (Sub.refl m) (Keeps.refl m s)) hm

/-- Every command answers a next state and stays in its parts. -/
theorem exec_staysIn (c : Instr) (s : State) : StaysIn (touches c) s (exec c s) := by
  cases c with
  | powerOnReset _ => exact .of rfl keep_doPowerOnReset rfl
  | pwrBtnPress _ => exact .of rfl keep_doPwrBtnPress rfl
  | onRequestCmd => exact .of rfl keep_doOnRequestCmd rfl
  | offRequestCmd => exact .of rfl keep_doOffRequestCmd rfl
  | earlyPowerFailWarning _ _ => exact .of rfl keep_doEarlyPowerFailWarning rfl
  | inputPowerQualified => exact .of rfl keep_doInputPowerQualified rfl
  | brownOut _ _ => exact .of rfl keep_doBrownOut rfl
  | inputCollapse => exact .of rfl keep_doInputCollapse rfl
  | mainShaftLoss _ _ => exact .of rfl keep_doMainShaftLoss rfl
  | clockFailure => exact .of rfl keep_doClockFailure rfl
  | refwaitExpiry => exact .of rfl keep_doRefwaitExpiry rfl
  | mainShaftLock _ _ => exact .of rfl keep_doMainShaftLock rfl
  | risingTableEnd => exact .of rfl keep_doRisingTableEnd rfl
  | fallingTableEnd => exact .of rfl keep_doFallingTableEnd rfl
  | seqEnable => exact .of rfl keep_doSeqEnable rfl
  | railGoodChange _ _ => exact .of rfl keep_doRailGoodChange rfl
  | railGoodQualified _ => exact .of rfl keep_doRailGoodQualified rfl
  | enableTimeout => exact .of rfl keep_doEnableTimeout rfl
  | seqDisable => exact .of rfl keep_doSeqDisable rfl
  | disableTimeout => exact .of rfl keep_doDisableTimeout rfl
  | seqWait => exact .of rfl keep_doSeqWait rfl
  | seqWaitExpiry => exact .of rfl keep_doSeqWaitExpiry rfl
  | seqPmbus => exact .of rfl keep_doSeqPmbus rfl
  | pmbusTransactionDone _ => exact .of rfl keep_doPmbusTransactionDone rfl
  | seqRstrel => exact .of rfl keep_doSeqRstrel rfl
  | resetOutputStretchEnd _ => exact .of rfl keep_doResetOutputStretchEnd rfl
  | seqRstassert => exact .of rfl keep_doSeqRstassert rfl
  | seqCharger => exact .of rfl keep_doSeqCharger rfl
  | seqTableCommit => exact .of rfl keep_doSeqTableCommit rfl
  | pmbusTelemetryPoll _ => exact .of rfl keep_doPmbusTelemetryPoll rfl
  | powerCapMeasurement _ => exact .of rfl keep_doPowerCapMeasurement rfl
  | marginApply => exact .of rfl keep_doMarginApply rfl
  | moduleFailed _ _ => exact .of rfl keep_doModuleFailed rfl
  | capacitanceTestStart _ => exact .of rfl keep_doCapacitanceTestStart rfl
  | capacitanceTestCmd _ => exact .of rfl keep_doCapacitanceTestCmd rfl
  | capacitanceTestEnd _ _ => exact .of rfl keep_doCapacitanceTestEnd rfl
  | pinReset => exact .of rfl keep_doPinReset rfl
  | softwareResetRequest _ _ => exact .of rfl keep_doSoftwareResetRequest rfl
  | debugResetRequest _ => exact .of rfl keep_doDebugResetRequest rfl
  | wrapperDrainTimeout _ _ => exact .of rfl keep_doWrapperDrainTimeout rfl
  | watchdogKick _ => exact .of rfl keep_doWatchdogKick rfl
  | watchdogHalfTime _ => exact .of rfl keep_doWatchdogHalfTime rfl
  | watchdogExpiry _ => exact .of rfl keep_doWatchdogExpiry rfl
  | lockup _ _ _ => exact .of rfl keep_doLockup rfl
  | gaitRequest _ => exact .of rfl keep_doGaitRequest rfl
  | quietPointTake _ => exact .of rfl keep_doQuietPointTake rfl
  | quietBoundExpiry _ => exact .of rfl keep_doQuietBoundExpiry rfl
  | gaiRowWord3Write _ _ => exact .of rfl keep_doGaiRowWord3Write rfl
  | gaitEditFieldWrite _ _ _ _ => exact .of rfl keep_doGaitEditFieldWrite rfl
  | gaitTableCommit _ => exact .of rfl keep_doGaitTableCommit rfl
  | gaitLoadDefaults _ => exact .of rfl keep_doGaitLoadDefaults rfl
  | aidricOpen _ _ _ => exact .of rfl keep_doAidricOpen rfl
  | aidricProve _ _ _ => exact .of rfl keep_doAidricProve rfl
  | aidricRead _ _ _ => exact .of rfl keep_doAidricRead rfl
  | aidricWrite _ _ _ => exact .of rfl keep_doAidricWrite rfl
  | aidricKeepalive _ _ _ => exact .of rfl keep_doAidricKeepalive rfl
  | aidricClose _ _ _ => exact .of rfl keep_doAidricClose rfl
  | halfOpenExpiry _ => exact .of rfl keep_doHalfOpenExpiry rfl
  | sessionIdleTimeout _ => exact .of rfl keep_doSessionIdleTimeout rfl
  | pathLockoutEnd _ => exact .of rfl keep_doPathLockoutEnd rfl
  | dicHandlerAnswer _ _ => exact .of rfl keep_doDicHandlerAnswer rfl
  | handlerItemTimeout => exact .of rfl keep_doHandlerItemTimeout rfl
  | dicExtLoad => exact .of rfl keep_doDicExtLoad rfl
  | dicExtClear => exact .of rfl keep_doDicExtClear rfl
  | dicSnapshot => exact .of rfl keep_doDicSnapshot rfl
  | blockSnapshot _ => exact .of rfl keep_doBlockSnapshot rfl
  | deviceSnapshotCmd => exact .of rfl keep_doDeviceSnapshotCmd rfl
  | blockGoWrite _ _ => exact .of rfl keep_doBlockGoWrite rfl
  | groupCommit _ => exact .of rfl keep_doGroupCommit rfl
  | controlSpaceWrite _ _ _ => exact .of rfl keep_doControlSpaceWrite rfl
  | bitAliasWrite _ _ _ _ _ => exact .of rfl keep_doBitAliasWrite rfl
  | configSweep => exact .of rfl keep_doConfigSweep rfl
  | configCommit => exact .of rfl keep_doConfigCommit rfl
  | cfgrefWrite _ _ => exact .of rfl keep_doCfgrefWrite rfl
  | pcieDoorbell _ => exact .of rfl keep_doPcieDoorbell rfl
  | pcieNtftaken => exact .of rfl keep_doPcieNtftaken rfl
  | pciePerst _ => exact .of rfl keep_doPciePerst rfl
  | pciePowerStateChange _ => exact .of rfl keep_doPciePowerStateChange rfl
  | mgtArpNsEcho _ _ _ _ => exact .of rfl keep_doMgtArpNsEcho rfl
  | mdioTransaction _ _ _ _ _ => exact .of rfl keep_doMdioTransaction rfl
  | mctpControlMessage _ _ _ => exact .of rfl keep_doMctpControlMessage rfl
  | registerRegionCmd _ => exact .of rfl keep_doRegisterRegionCmd rfl
  | deregisterCmd _ _ => exact .of rfl keep_doDeregisterCmd rfl
  | deallocateCmd _ => exact .of rfl keep_doDeallocateCmd rfl
  | regionDrainComplete _ => exact .of rfl keep_doRegionDrainComplete rfl
  | trnUpdate => exact .of rfl keep_doTrnUpdate rfl
  | trnUpdateComplete => exact .of rfl keep_doTrnUpdateComplete rfl
  | hopperDeadline => exact .of rfl keep_doHopperDeadline rfl
  | trnInvalL1 => exact .of rfl keep_doTrnInvalL1 rfl
  | trnInvalL2 => exact .of rfl keep_doTrnInvalL2 rfl
  | secondLevelFillReturn _ => exact .of rfl keep_doSecondLevelFillReturn rfl
  | trnAgeTick => exact .of rfl keep_doTrnAgeTick rfl
  | packetReceive _ _ => exact .of rfl keep_doPacketReceive rfl
  | contextFetchDone _ => exact .of rfl keep_doContextFetchDone rfl
  | contextFetchTimeout _ _ => exact .of rfl keep_doContextFetchTimeout rfl
  | cnpListFetchDone _ _ => exact .of rfl keep_doCnpListFetchDone rfl
  | cnpListEntryTimeout _ _ => exact .of rfl keep_doCnpListEntryTimeout rfl
  | lportMove _ => exact .of rfl keep_doLportMove rfl
  | admitRequest _ => exact .of rfl keep_doAdmit rfl
  | translateRequest _ => exact .of rfl keep_doTranslate rfl
  | placeRequest _ => exact .of rfl keep_doPlace rfl
  | lineReadDone _ _ _ => exact .of rfl keep_doLineReadDone rfl
  | answerQp _ => exact .of rfl keep_doAnswer rfl
  | ackCoalesceDelay _ => exact .of rfl keep_doAckCoalesceDelay rfl
  | reinLoopTick _ _ => exact .of rfl keep_doReinLoopTick rfl
  | linkUp _ => exact .of rfl keep_doLinkUp rfl
  | linkDown _ _ => exact .of rfl keep_doLinkDown rfl
  | portRelinkCmd _ => exact .of rfl keep_doPortRelinkCmd rfl
  | prtRelinkWrite _ _ => exact .of rfl keep_doPrtRelinkWrite rfl
  | prtArpNsEcho _ _ _ _ => exact .of rfl keep_doPrtArpNsEcho rfl
  | pfcPauseReceived _ _ _ => exact .of rfl keep_doPfcPauseReceived rfl
  | fecAlarm _ _ => exact .of rfl keep_doFecAlarm rfl
  | requesterAckReceived _ _ _ => exact .of rfl keep_doRequesterAckReceived rfl
  | requesterTimeout _ => exact .of rfl keep_doRequesterTimeout rfl
  | requesterNakReceived _ _ _ => exact .of rfl keep_doRequesterNakReceived rfl
  | requesterRnrNak _ => exact .of rfl keep_doRequesterRnrNak rfl
  | requesterRnrWaitEnd _ => exact .of rfl keep_doRequesterRnrWaitEnd rfl
  | requesterCnp _ => exact .of rfl keep_doRequesterCnp rfl
  | requesterRateRise _ => exact .of rfl keep_doRequesterRateRise rfl
  | xptQpWrite _ => exact .of rfl keep_doXptQpWrite rfl
  | xptQpRead _ => exact .of rfl keep_doXptQpRead rfl
  | xptQpToError _ => exact .of rfl keep_doXptQpToError rfl
  | xptQpWritebackEvict _ => exact .of rfl keep_doXptQpWritebackEvict rfl
  | qpInspectToErrorCmd _ => exact .of rfl keep_doQpInspectToErrorCmd rfl
  | flitReceived _ => exact .of rfl keep_doFlitReceived rfl
  | replayTimer => exact .of rfl keep_doReplayTimer rfl
  | laneFault _ _ => exact .of rfl keep_doLaneFault rfl
  | ctrlWidth _ => exact .of rfl keep_doCtrlWidth rfl
  | ctrlWidthAck _ => exact .of rfl keep_doCtrlWidthAck rfl
  | widthSwitch => exact .of rfl keep_doWidthSwitch rfl
  | laneProbationPassed _ => exact .of rfl keep_doLaneProbationPassed rfl
  | linkSilence => exact .of rfl keep_doLinkSilence rfl
  | retrainAttemptDone _ => exact .of rfl keep_doRetrainAttemptDone rfl
  | retrainDelayEnd => exact .of rfl keep_doRetrainDelayEnd rfl
  | heartbeatSilent _ => exact .of rfl keep_doHeartbeatSilent rfl
  | linkTrainingAttempt => exact .of rfl keep_doLinkTrainingAttempt rfl
  | linkTrained _ => exact .of rfl keep_doLinkTrained rfl
  | mirrorMsg _ _ _ _ _ _ => exact .of rfl keep_doMirrorMsg rfl
  | forwardMsg _ _ _ _ => exact .of rfl keep_doForwardMsg rfl
  | fwdAtomic _ _ _ _ _ _ _ => exact .of rfl keep_doFwdAtomic rfl
  | orderedMsg _ _ _ _ _ => exact .of rfl keep_doOrderedMsg rfl
  | placedMsg _ _ _ _ => exact .of rfl keep_doPlacedMsg rfl
  | moveMsg _ _ _ _ => exact .of rfl keep_doMoveMsg rfl
  | movereq _ _ _ _ => exact .of rfl keep_doMovereq rfl
  | tread _ _ _ => exact .of rfl keep_doTread rfl
  | treadData _ _ _ _ _ => exact .of rfl keep_doTreadData rfl
  | treadFail _ _ _ _ => exact .of rfl keep_doTreadFail rfl
  | moveDone _ _ _ _ => exact .of rfl keep_doMoveDone rfl
  | pagepull _ _ => exact .of rfl keep_doPagepull rfl
  | resyncPage _ _ _ _ _ _ _ => exact .of rfl keep_doResyncPage rfl
  | helloMsg _ _ => exact .of rfl keep_doHelloMsg rfl
  | helloAnswer _ _ _ _ _ _ => exact .of rfl keep_doHelloAnswer rfl
  | pendlist _ _ _ => exact .of rfl keep_doPendlist rfl
  | stateReady _ _ => exact .of rfl keep_doStateReady rfl
  | stateSpanreq _ _ => exact .of rfl keep_doStateSpanreq rfl
  | stateSpanok _ _ => exact .of rfl keep_doStateSpanok rfl
  | stateSpandone _ _ => exact .of rfl keep_doStateSpandone rfl
  | depart _ _ => exact .of rfl keep_doDepart rfl
  | mapopRegionSet _ _ _ => exact .of rfl keep_doMapopRegionSet rfl
  | mapopExtentSet _ _ _ => exact .of rfl keep_doMapopExtentSet rfl
  | mapopDealloc _ _ _ => exact .of rfl keep_doMapopDealloc rfl
  | mapopRegreq _ _ => exact .of rfl keep_doMapopRegreq rfl
  | mapopDeregreq _ _ => exact .of rfl keep_doMapopDeregreq rfl
  | mapopDone _ _ _ _ => exact .of rfl keep_doMapopDone rfl
  | dict _ _ => exact .of rfl keep_doDict rfl
  | dictRsp _ _ => exact .of rfl keep_doDictRsp rfl
  | reconMsg _ _ _ _ _ => exact .of rfl keep_doReconMsg rfl
  | reconEnd _ _ _ => exact .of rfl keep_doReconEnd rfl
  | catchupPageSend => exact .of rfl keep_doCatchupPageSend rfl
  | catchupReady => exact .of rfl keep_doCatchupReady rfl
  | pairwaitExpiry => exact .of rfl keep_doPairwaitExpiry rfl
  | goSoloCmd => exact .of rfl keep_doGoSoloCmd rfl
  | spanCmd => exact .of rfl keep_doSpanCmd rfl
  | leaveCmd => exact .of rfl keep_doLeaveCmd rfl
  | joinCmd => exact .of rfl keep_doJoinCmd rfl
  | forceSoloCmd => exact .of rfl keep_doForceSoloCmd rfl
  | fenceArbitrateCmd _ _ => exact .of rfl keep_doFenceArbitrateCmd rfl
  | tierSFillDone _ _ => exact .of rfl keep_doTierSFillDone rfl
  | parkRoomFreed _ => exact .of rfl keep_doParkRoomFreed rfl
  | cleanClockStep _ _ => exact .of rfl keep_doCleanClockStep rfl
  | writebackVerified _ => exact .of rfl keep_doWritebackVerified rfl
  | writebackProgramFailed _ => exact .of rfl keep_doWritebackProgramFailed rfl
  | heatTick => exact .of rfl keep_doHeatTick rfl
  | poolClockVisit _ => exact .of rfl keep_doPoolClockVisit rfl
  | tenantWrite _ => exact .of rfl keep_doTenantWrite rfl
  | tenantRead _ => exact .of rfl keep_doTenantRead rfl
  | tenantCommit _ => exact .of rfl keep_doTenantCommit rfl
  | quotaRingRebuildDone => exact .of rfl keep_doQuotaRingRebuildDone rfl
  | tpolCommit => exact .of rfl keep_doTpolCommit rfl
  | lendCommit _ _ => exact .of rfl keep_doLendCommit rfl
  | lendRevoke _ => exact .of rfl keep_doLendRevoke rfl
  | tierHAccessFail _ _ => exact .of rfl keep_doTierHAccessFail rfl
  | promoteExtentCmd _ => exact .of rfl keep_doPromoteExtentCmd rfl
  | removeChargeCmd _ => exact .of rfl keep_doRemoveChargeCmd rfl
  | govTick _ => exact .of rfl keep_doGovTick rfl
  | energyAtShutres _ => exact .of rfl keep_doEnergyAtShutres rfl
  | saveStepComplete _ => exact .of rfl keep_doSaveStepComplete rfl
  | saveSealed => exact .of rfl keep_doSaveSealed rfl
  | fillComplete => exact .of rfl keep_doFillComplete rfl
  | restoreStepComplete _ _ => exact .of rfl keep_doRestoreStepComplete rfl
  | serviceGatePassed => exact .of rfl keep_doServiceGatePassed rfl
  | serviceGateWaitReport => exact .of rfl keep_doServiceGateWaitReport rfl
  | retiredImageEraseDone => exact .of rfl keep_doRetiredImageEraseDone rfl
  | rehearsalStart => exact .of rfl keep_doRehearsalStart rfl
  | rehearseCmd => exact .of rfl keep_doRehearseCmd rfl
  | rehearsalDone _ => exact .of rfl keep_doRehearsalDone rfl
  | jobSubmit _ => exact .of rfl keep_doJobSubmit rfl
  | jobCancel _ => exact .of rfl keep_doJobCancel rfl
  | jobRequeue _ => exact .of rfl keep_doJobRequeue rfl
  | jobCancelCmd _ => exact .of rfl keep_doJobCancelCmd rfl
  | jobRequeueCmd _ => exact .of rfl keep_doJobRequeueCmd rfl
  | jobDispatch => exact .of rfl keep_doJobDispatch rfl
  | instructionIssue _ => exact .of rfl keep_doInstructionIssue rfl
  | instructionComplete _ _ _ _ _ _ _ => exact .of rfl keep_doInstructionComplete rfl
  | stageCommitComplete _ _ => exact .of rfl keep_doStageCommitComplete rfl
  | stageTimeout _ _ => exact .of rfl keep_doStageTimeout rfl
  | waitLimitExpiry _ _ => exact .of rfl keep_doWaitLimitExpiry rfl
  | waitWordPoll _ _ => exact .of rfl keep_doWaitWordPoll rfl
  | completionTake => exact .of rfl keep_doCompletionTake rfl
  | jobWritePort => exact .of rfl keep_doJobWritePort rfl
  | mstQpWrite => exact .of rfl keep_doMstQpWrite rfl
  | mstQpRead => exact .of rfl keep_doMstQpRead rfl
  | mstQpToError => exact .of rfl keep_doMstQpToError rfl
  | reqQpInspectToErrorCmd _ => exact .of rfl keep_doReqQpInspectToErrorCmd rfl
  | resumeScan => exact .of rfl keep_doResumeScan rfl
  | refreshDue _ _ _ => exact .of rfl keep_doRefreshDue rfl
  | sidebandRead _ _ _ _ => exact .of rfl keep_doSidebandRead rfl
  | rankIdleSelfRefresh _ _ => exact .of rfl keep_doRankIdleSelfRefresh rfl
  | markwinHalve _ => exact .of rfl keep_doMarkwinHalve rfl
  | trainingOpWrite _ => exact .of rfl keep_doTrainingOpWrite rfl
  | trainingOpCompare _ => exact .of rfl keep_doTrainingOpCompare rfl
  | trainingOpMrr _ => exact .of rfl keep_doTrainingOpMrr rfl
  | trainingOpCaLoopback _ => exact .of rfl keep_doTrainingOpCaLoopback rfl
  | trainingOpDone _ _ _ => exact .of rfl keep_doTrainingOpDone rfl
  | retrainDone _ _ _ _ => exact .of rfl keep_doRetrainDone rfl
  | groomBurst _ _ => exact .of rfl keep_doGroomBurst rfl
  | groomRateRecompute => exact .of rfl keep_doGroomRateRecompute rfl
  | farrierRequest _ _ => exact .of rfl keep_doFarrierRequest rfl
  | farrierRelease _ _ => exact .of rfl keep_doFarrierRelease rfl
  | waitrelExpiry _ => exact .of rfl keep_doWaitrelExpiry rfl
  | retrygapExpiry _ => exact .of rfl keep_doRetrygapExpiry rfl
  | storeRead _ _ => exact .of rfl keep_doStoreRead rfl
  | storeReadRaw _ => exact .of rfl keep_doStoreReadRaw rfl
  | storeReadMeta _ _ => exact .of rfl keep_doStoreReadMeta rfl
  | storeParam _ _ => exact .of rfl keep_doStoreParam rfl
  | storeErase _ _ => exact .of rfl keep_doStoreErase rfl
  | storeRetire _ _ _ _ _ => exact .of rfl keep_doStoreRetire rfl
  | storeCleanWrite => exact .of rfl keep_doStoreCleanWrite rfl
  | storeRelocate _ => exact .of rfl keep_doStoreRelocate rfl
  | storeSaveWrite => exact .of rfl keep_doStoreSaveWrite rfl
  | storeSealWrite _ => exact .of rfl keep_doStoreSealWrite rfl
  | storePatrolRead _ _ => exact .of rfl keep_doStorePatrolRead rfl
  | stfFwtailWrite _ _ => exact .of rfl keep_doStfFwtailWrite rfl
  | rowStripewaitExpiry => exact .of rfl keep_doRowStripewaitExpiry rfl
  | wordlineVerified => exact .of rfl keep_doWordlineVerified rfl
  | eraseVerified _ => exact .of rfl keep_doEraseVerified rfl
  | eraseVerifyFailed _ _ => exact .of rfl keep_doEraseVerifyFailed rfl
  | operationResume _ _ => exact .of rfl keep_doOperationResume rfl
  | dieFailed _ _ => exact .of rfl keep_doDieFailed rfl
  | superblockOpen _ _ => exact .of rfl keep_doSuperblockOpen rfl
  | reclaimStart => exact .of rfl keep_doReclaimStart rfl
  | stfStartWalk => exact .of rfl keep_doStfStartWalk rfl
  | validCountWalkDone => exact .of rfl keep_doValidCountWalkDone rfl
  | patrolPace _ => exact .of rfl keep_doPatrolPace rfl
  | keeperRead => exact .of rfl keep_doKeeperRead rfl
  | keeperProgram => exact .of rfl keep_doKeeperProgram rfl
  | keeperErase => exact .of rfl keep_doKeeperErase rfl
  | keeperOpDone _ => exact .of rfl keep_doKeeperOpDone rfl
  | kpfCompletionTake => exact .of rfl keep_doKpfCompletionTake rfl
  | xipFetchMiss _ => exact .of rfl keep_doXipFetchMiss rfl
  | sampleRound _ _ => exact .of rfl keep_doSampleRound rfl
  | calRunStart _ => exact .of rfl keep_doCalRunStart rfl
  | calCmdRun => exact .of rfl keep_doCalCmdRun rfl
  | calRunNowCmd => exact .of rfl keep_doCalRunNowCmd rfl
  | calCmdRegenerate => exact .of rfl keep_doCalCmdRegenerate rfl
  | calCmdReload => exact .of rfl keep_doCalCmdReload rfl
  | calRunCommit => exact .of rfl keep_doCalRunCommit rfl
  | checkpointDue => exact .of rfl keep_doCheckpointDue rfl
  | checkpointGo => exact .of rfl keep_doCheckpointGo rfl
  | checkpointMiss => exact .of rfl keep_doCheckpointMiss rfl
  | aliveWrite => exact .of rfl keep_doAliveWrite rfl
  | takeoverFailure _ => exact .of rfl keep_doTakeoverFailure rfl
  | returnCmd => exact .of rfl keep_doReturnCmd rfl
  | clearCmd _ => exact .of rfl keep_doClearCmd rfl
  | evtAckWrite _ _ => exact .of rfl keep_doEvtAckWrite rfl
  | cpxRingtailWrite _ _ => exact .of rfl keep_doCpxRingtailWrite rfl
  | eventRaised _ _ => exact .of rfl keep_doEventRaised rfl
  | summaryRecord _ => exact .of rfl keep_doSummaryRecord rfl
  | studbookAppend => exact .of rfl keep_doStudbookAppend rfl
  | studbookScan => exact .of rfl keep_doStudbookScan rfl
  | svcOpen _ => exact .of rfl keep_doSvcOpen rfl
  | svcProve _ => exact .of rfl keep_doSvcProve rfl
  | svcIdent _ => exact .of rfl keep_doSvcIdent rfl
  | stageBegin _ => exact .of rfl keep_doStageBegin rfl
  | stageData _ => exact .of rfl keep_doStageData rfl
  | stageEnd _ => exact .of rfl keep_doStageEnd rfl
  | stageStatus _ => exact .of rfl keep_doStageStatus rfl
  | studRead _ => exact .of rfl keep_doStudRead rfl
  | tackRead _ => exact .of rfl keep_doTackRead rfl
  | evtRead _ => exact .of rfl keep_doEvtRead rfl
  | svcReset _ => exact .of rfl keep_doSvcReset rfl
  | svcClose _ => exact .of rfl keep_doSvcClose rfl
  | svcSessionTimeout => exact .of rfl keep_doSvcSessionTimeout rfl
  | usbDetach => exact .of rfl keep_doUsbDetach rfl
  | cancelStaging => exact .of rfl keep_doCancelStaging rfl
  | cancelStagingCmd => exact .of rfl keep_doCancelStagingCmd rfl
  | keyLoadCmd _ => exact .of rfl keep_doKeyLoadCmd rfl
  | keyEncrypt => exact .of rfl keep_doKeyEncrypt rfl
  | keyDecrypt => exact .of rfl keep_doKeyDecrypt rfl
  | keyCmac => exact .of rfl keep_doKeyCmac rfl
  | keyDerive => exact .of rfl keep_doKeyDerive rfl
  | keyLoad => exact .of rfl keep_doKeyLoad rfl
  | keyRandom => exact .of rfl keep_doKeyRandom rfl
  | keyClear => exact .of rfl keep_doKeyClear rfl
  | keyQueueTake => exact .of rfl keep_doKeyQueueTake rfl
  | drbgHealthFail _ => exact .of rfl keep_doDrbgHealthFail rfl
  | drbgReseed => exact .of rfl keep_doDrbgReseed rfl
  | debugUnlock _ => exact .of rfl keep_doDebugUnlock rfl
  | retireSuperblockMemberCmd _ _ => exact .of rfl keep_doRetireSuperblockMemberCmd rfl
  | heartbeatResumed _ => exact .of rfl keep_doHeartbeatResumed rfl
  | widengapExpiry => exact .of rfl keep_doWidengapExpiry rfl
  | pcieLinkStateChange _ _ _ => exact .of rfl keep_doPcieLinkStateChange rfl
  | mgtLinkStatusChange _ _ _ => exact .of rfl keep_doMgtLinkStatusChange rfl
  | usbAttach => exact .of rfl keep_doUsbAttach rfl
  | rowIdleClose _ _ => exact .of rfl keep_doRowIdleClose rfl
  | eresminExpiry _ _ => exact .of rfl keep_doEresminExpiry rfl
  | studbookSectorEraseDone => exact .of rfl keep_doStudbookSectorEraseDone rfl
  | machineTimerExpiry _ => exact .of rfl keep_doMachineTimerExpiry rfl
  | savePathReady => exact .of rfl keep_doSavePathReady rfl

/-- Settles O6: each command's meaning keeps all parts outside its mask, which `touches` covers. -/
theorem commandsStayInTheirParts : Obligations.CommandsStayInTheirParts := by
  intro c s t h
  have hc := exec_staysIn c s
  rw [h] at hc
  obtain ⟨k, hk, hw⟩ := hc
  exact ⟨fun p hp => hk.same p (testBit_of_maskOutside hp hw), hk.pend, hk.now, hk.out, hk.fuse⟩

end Sys2Proof.Proofs
end

section
/-! PROOFS. Commands of the fabric without the core supply (R20, log entry 4): the guards that their meanings open with are closed. -/

namespace Sys2Proof.Proofs

open Sys2Proof Sys2Proof.Machine Sys2Proof.Laws

section Unpowered

/-- A meaning whose guard answers the state as it is. -/
theorem inert_of {s : State} {o : Out3} {p : Prop} [Decidable p] {e : State} (ho : o = .next (if p then s else e)) (hp : p) :
    o = .next s := by rw [ho, if_pos hp]

/-- A meaning that acts only under its guard. -/
theorem inert_unless {s : State} {o : Out3} {p : Prop} [Decidable p] {e : State} (ho : o = .next (if p then e else s)) (hp : ¬p) :
    o = .next s := by rw [ho, if_neg hp]

variable {s : State} (h : awake s = false)
include h

theorem dev_of_asleep : s.dev ≠ .rising ∧ s.dev ≠ .filling ∧ s.dev ≠ .restoring ∧ s.dev ≠ .serving ∧ s.dev ≠ .saving ∧ s.dev ≠ .saved := by
  refine ⟨?_, ?_, ?_, ?_, ?_, ?_⟩ <;> intro hd <;> simp [awake, hd] at h

theorem twnRuns_of_asleep : twnRuns s = false := by simp [twnRuns, h]
theorem visilUp_of_asleep : visilUp s = false := by simp [visilUp, twnRuns_of_asleep h]
theorem takesMaps_of_asleep : takesMaps s = false := by simp [takesMaps, visilUp_of_asleep h]
theorem svcUp_of_asleep : svcUp s = false := by simp [svcUp, h]
theorem watching_of_asleep (c : Nat) : watching s c = false := by simp [watching, h]
theorem tierActs_of_asleep : tierActs s = false := by simp [tierActs, dev_of_asleep h]
theorem calReady_of_asleep : calReady s = false := by simp [calReady, dev_of_asleep h]

theorem keyHead_of_asleep (op : Nat) : keyHead s op = none := by
  unfold keyHead
  split <;> simp [h]

theorem fwFront_of_asleep (ch op : Nat) : fwFront s ch op = none := by simp [fwFront, h]

theorem frameIn_of_asleep (path src : Nat) (f : List Nat) : frameIn s path src f = s := by simp [frameIn, h]
theorem kindFrame_of_asleep (k path src : Nat) (f : List Nat) : kindFrame k s path src f = s := by
  simp [kindFrame, frameIn_of_asleep h]

end Unpowered

/-- Without the core supply each command of the fabric finds its guard closed. -/
theorem exec_of_asleep {c : Instr} {s : State} (hc : fabric c = true) (h : awake s = false) : exec c s = .next s := by
  cases c with
  | capacitanceTestCmd | gaitTableCommit | gaitLoadDefaults | pcieDoorbell | mgtArpNsEcho | registerRegionCmd | deregisterCmd
  | deallocateCmd | regionDrainComplete | lineReadDone | reinLoopTick | linkUp | linkDown | prtArpNsEcho | pfcPauseReceived
  | fecAlarm | requesterAckReceived | requesterTimeout | requesterNakReceived | requesterRnrNak | requesterRnrWaitEnd
  | requesterCnp | requesterRateRise | xptQpWrite | xptQpRead | xptQpToError | xptQpWritebackEvict | dict | parkRoomFreed
  | writebackVerified | writebackProgramFailed | heatTick | tenantWrite | tenantRead | tenantCommit | tpolCommit | lendCommit
  | lendRevoke | tierHAccessFail | promoteExtentCmd | removeChargeCmd | rehearseCmd | jobSubmit | jobCancel | jobRequeue
  | jobCancelCmd | jobRequeueCmd | jobDispatch | instructionIssue | instructionComplete | stageCommitComplete | stageTimeout
  | waitLimitExpiry | waitWordPoll | completionTake | jobWritePort | mstQpWrite | mstQpRead | mstQpToError
  | reqQpInspectToErrorCmd | refreshDue | sidebandRead | markwinHalve | trainingOpWrite | trainingOpCompare | trainingOpMrr
  | trainingOpCaLoopback | trainingOpDone | retrainDone | groomRateRecompute | farrierRequest | farrierRelease | waitrelExpiry
  | retrygapExpiry | storeErase | storeRetire | storeCleanWrite | storeRelocate | stfFwtailWrite | rowStripewaitExpiry
  | wordlineVerified | eraseVerified | eraseVerifyFailed | operationResume | dieFailed | superblockOpen | reclaimStart
  | stfStartWalk | validCountWalkDone | calRunNowCmd | calRunCommit | checkpointGo | checkpointMiss | aliveWrite
  | takeoverFailure | debugUnlock | retireSuperblockMemberCmd | pcieLinkStateChange | rowIdleClose | eresminExpiry
  | machineTimerExpiry =>
    exact inert_of rfl (by simp [h])
  | mainShaftLock | moduleFailed | softwareResetRequest | debugResetRequest | watchdogKick | lockup | gaiRowWord3Write
  | gaitEditFieldWrite | pathLockoutEnd | dicHandlerAnswer | blockSnapshot | blockGoWrite | groupCommit | controlSpaceWrite
  | bitAliasWrite | cfgrefWrite | pciePowerStateChange | mdioTransaction | mctpControlMessage | portRelinkCmd | prtRelinkWrite
  | qpInspectToErrorCmd | dictRsp | tierSFillDone | poolClockVisit | quotaRingRebuildDone | govTick | sampleRound | calCmdReload
  | returnCmd | clearCmd | evtAckWrite | cpxRingtailWrite | eventRaised | summaryRecord | studbookScan | usbDetach
  | cancelStaging | cancelStagingCmd | keyLoadCmd | keyQueueTake | drbgHealthFail | drbgReseed | mgtLinkStatusChange | usbAttach =>
    exact inert_unless rfl (by simp [h])
  | placedMsg | pagepull | helloMsg | stateSpanreq =>
    exact inert_of rfl (by simp [visilUp_of_asleep h])
  | flitReceived | laneFault | ctrlWidth | ctrlWidthAck | laneProbationPassed | retrainAttemptDone | heartbeatSilent | movereq
  | treadData | treadFail | moveDone | resyncPage | pendlist | stateReady | stateSpanok | stateSpandone | depart
  | mapopExtentSet | mapopRegreq | mapopDeregreq | mapopDone | reconMsg | reconEnd | catchupPageSend | catchupReady | goSoloCmd
  | spanCmd | leaveCmd | joinCmd | forceSoloCmd | fenceArbitrateCmd | heartbeatResumed | widengapExpiry =>
    exact inert_unless rfl (by simp [visilUp_of_asleep h, twnRuns_of_asleep h, takesMaps_of_asleep h])
  | resumeScan =>
    exact inert_of rfl (by simp [dev_of_asleep h])
  | pairwaitExpiry | saveStepComplete | fillComplete | restoreStepComplete | serviceGateWaitReport | retiredImageEraseDone
  | rehearsalStart | rehearsalDone | rankIdleSelfRefresh | groomBurst | storePatrolRead | patrolPace | calCmdRegenerate
  | checkpointDue =>
    exact inert_unless rfl (by simp [dev_of_asleep h])
  | cleanClockStep | calRunStart | svcOpen | svcProve | svcIdent | stageBegin | stageData | stageEnd | stageStatus | studRead
  | tackRead | evtRead | svcReset | svcClose =>
    exact inert_of rfl (by simp [svcUp_of_asleep h, tierActs_of_asleep h, calReady_of_asleep h])
  | watchdogHalfTime | watchdogExpiry | calCmdRun =>
    exact inert_unless rfl (by simp [watching_of_asleep h, calReady_of_asleep h])
  | aidricOpen | aidricProve | aidricRead | aidricWrite | aidricKeepalive | aidricClose =>
    exact congrArg _ (kindFrame_of_asleep h _ _ _ _)
  | mapopDealloc tag extent count =>
    show Host.Outcome.next (doMapopDealloc tag extent count s) = _; simp [doMapopDealloc, takesMaps_of_asleep h, visilUp_of_asleep h]
  | serviceGatePassed => show Host.Outcome.next (doServiceGatePassed s) = _; simp [doServiceGatePassed, dev_of_asleep h]
  | energyAtShutres vmod => show Host.Outcome.next (doEnergyAtShutres vmod s) = _; simp [doEnergyAtShutres, dev_of_asleep h]
  | keyEncrypt => show Host.Outcome.next (doKeyEncrypt s) = _; rw [doKeyEncrypt, keyHead_of_asleep h]
  | keyDecrypt => show Host.Outcome.next (doKeyDecrypt s) = _; rw [doKeyDecrypt, keyHead_of_asleep h]
  | keyCmac => show Host.Outcome.next (doKeyCmac s) = _; rw [doKeyCmac, keyHead_of_asleep h]
  | keyDerive => show Host.Outcome.next (doKeyDerive s) = _; rw [doKeyDerive, keyHead_of_asleep h]
  | keyLoad => show Host.Outcome.next (doKeyLoad s) = _; rw [doKeyLoad, keyHead_of_asleep h]
  | keyRandom => show Host.Outcome.next (doKeyRandom s) = _; rw [doKeyRandom, keyHead_of_asleep h]
  | keyClear => show Host.Outcome.next (doKeyClear s) = _; rw [doKeyClear, keyHead_of_asleep h]
  | storeRead ch rd => show Host.Outcome.next (doStoreRead ch rd s) = _; rw [doStoreRead, fwFront_of_asleep h]
  | storeReadRaw ch => show Host.Outcome.next (doStoreReadRaw ch s) = _; rw [doStoreReadRaw, fwFront_of_asleep h]
  | storeReadMeta ch rd => show Host.Outcome.next (doStoreReadMeta ch rd s) = _; rw [doStoreReadMeta, fwFront_of_asleep h]
  | storeParam ch page => show Host.Outcome.next (doStoreParam ch page s) = _; rw [doStoreParam, fwFront_of_asleep h]
  | saveSealed => show Host.Outcome.next (doSaveSealed s) = _; unfold doSaveSealed; split <;> simp [dev_of_asleep h]
  | storeSaveWrite => show Host.Outcome.next (doStoreSaveWrite s) = _; unfold doStoreSaveWrite; split <;> simp [dev_of_asleep h]
  | storeSealWrite a => show Host.Outcome.next (doStoreSealWrite a s) = _; unfold doStoreSealWrite; split <;> simp [dev_of_asleep h]
  | savePathReady => show Host.Outcome.next (doSavePathReady s) = _; unfold doSavePathReady; split <;> simp [dev_of_asleep h]
  | studbookAppend => show Host.Outcome.next (doStudbookAppend s) = _; unfold doStudbookAppend; split <;> simp [h]
  | svcSessionTimeout => show Host.Outcome.next (doSvcSessionTimeout s) = _; unfold doSvcSessionTimeout; split <;> simp [h]
  | _ => exact absurd hc Bool.false_ne_true

/-- Settles O8: in every state whose core domain has no supply, the guard that a fabric command's meaning opens with is closed. -/
theorem unpoweredFabricIsInert : Obligations.UnpoweredFabricIsInert :=
  fun _ _ hc h => exec_of_asleep hc h

end Sys2Proof.Proofs
end

section
/-! PROOFS. What reset leaves. -/

namespace Sys2Proof.Proofs

open Sys2Proof Sys2Proof.Machine Sys2Proof.Laws

/-- Memory without a listed byte reads 0 everywhere. -/
theorem memRead_nil (a n : Nat) : memRead [] a n = List.replicate n 0 := by
  show (List.range n).map (fun _ => 0) = _
  rw [List.map_const', List.length_range]

/-- Settles O5: the register lists, the tables and tier D are empty after reset, so that every read finds its default. -/
theorem resetLeavesDefaults : Obligations.ResetLeavesDefaults :=
  ⟨rfl, rfl, fun _ _ _ => ⟨rfl, rfl⟩, fun _ _ _ => rfl, rfl, rfl, rfl, rfl, memRead_nil⟩

end Sys2Proof.Proofs
end

section
/-! PROOFS. The host ports (R117 to R120, R148, R486). -/

namespace Sys2Proof.Proofs

open Sys2Proof Sys2Proof.Machine Sys2Proof.Laws

/-- The UP bits of a PRT share no key with the lanes that `showLanes` shows. -/
theorem rd_linkUp_showLanes (s : State) (p c : Nat) : (showLanes s p).rd R.PRT_LINKSTAT_UP 0 c = s.rd R.PRT_LINKSTAT_UP 0 c :=
  rd_wr_other _ _ _ _ _ _ _ _ (by simp only [Fld.key, R.PRT_LINKSTAT_UP, R.PRT_LINKSTAT_LANES]; omega)

theorem rd_linkUp_relinkPending (s : State) (j c : Nat) (v : Bool) :
    (s.wbit R.GAI_RELINK_PENDING j v).rd R.PRT_LINKSTAT_UP 0 c = s.rd R.PRT_LINKSTAT_UP 0 c :=
  rd_wr_other _ _ _ _ _ _ _ _ (by simp only [Fld.key, R.PRT_LINKSTAT_UP, R.GAI_RELINK_PENDING]; omega)

/-- LINK_UP at a used port that is down: the port is up with the lanes that its mode and row give, and trains no longer. -/
theorem linkUp_acts {s : State} {l : Fin 16} (h1 : awake s = true) (h2 : s.running (26 + l.val / 4) = true)
    (h3 : portUsed s l = true) (h4 : portUp s l = false) :
    portUp (doLinkUp l s) l = true ∧ (doLinkUp l s).prt.lanes = s.prt.lanes.put l (portLanes s l) 0 ∧
      (doLinkUp l s).prt.training = s.prt.training.del l := by
  unfold doLinkUp
  dsimp only
  rw [if_neg (by simp [h1, h2, h3, h4])]
  refine ⟨?_, ?_, ?_⟩
  · unfold portUp State.rbit
    rw [rd_raise]
    have hup : ∀ u : State, bit ((showLanes (u.wbit R.PRT_LINKSTAT_UP (l.val % 4) true (l.val / 4)) (l.val / 4)).rd
        R.PRT_LINKSTAT_UP 0 (l.val / 4)) (l.val % 4) = true := fun u => by
      rw [rd_linkUp_showLanes]
      exact rbit_wbit_self u _ _ _ _ (Nat.mod_lt _ (by decide))
    split
    · rw [rd_linkUp_relinkPending]; exact hup _
    · exact hup _
  · rw [raise_prt]; split <;> rfl
  · rw [raise_prt]; split <;> rfl

/-- Settles O38, port event by port event: the guards name the branch, and a written bit reads back. -/
theorem portsAct : Obligations.PortsAct := by
  refine ⟨?up, ?down, ?relinkCmd, ?relinkWrite, ?arpOwn, ?arpOther, ?pause, ?fecBelow, ?fecAbove⟩
  case up =>
    intro s l h1 h2 h3 h4
    obtain ⟨hup, hlanes, htrain⟩ := linkUp_acts h1 h2 h3 h4
    exact ⟨_, rfl, hup, by rw [hlanes, Sparse.get_put_self], by simp [htrain, Sparse.has]⟩
  case down =>
    intro s l cause h1 h2
    refine ⟨linkDown s l (cause.val + 1), next_eq (if_neg (by simp [h1, h2])), ?_⟩
    exact ⟨linkDown_portUp .., linkDown_training .., linkDown_lanes ..⟩
  case relinkCmd =>
    intro s l h1 h2 h3
    refine ⟨cmdDone (relink (cmdRun s (ekey 0x2202 1)) l) (ekey 0x2202 1), next_eq (if_pos ⟨h1, h2, h3⟩), ?_⟩
    exact ⟨linkDown_portUp .., linkDown_training .., by simp [cmdStat, cmdDone, setCmd]⟩
  case relinkWrite =>
    rintro s p sub subs h1 rfl h2
    exact next_eq (if_pos ⟨h1, h2⟩)
  case arpOwn =>
    intro s l src h1 h2 h3
    show Host.Outcome.next (doPrtArpNsEcho l 0 _ src s) = _
    simp [doPrtArpNsEcho, h1, h2, h3]
  case arpOther =>
    intro s l addr src h1 h2 h3
    show Host.Outcome.next (doPrtArpNsEcho l 0 addr src s) = _
    simp [doPrtArpNsEcho, h1, h2, h3]
  case pause =>
    intro s l prio pause h1 h2 h3
    have h3' : (s.bump C.PRT_PAUSERX 1 (l.val % 4) (l.val / 4)).rbit R.PRT_PFC_RXEN prio (l.val / 4) = true := h3
    show Host.Outcome.next (doPfcPauseReceived l prio pause s) = _
    simp only [doPfcPauseReceived, h1, h2, h3', bump_prt]
    rfl
  case fecBelow =>
    intro s l n h1 h2
    show Host.Outcome.next (doFecAlarm l n s) = _
    simp [doFecAlarm, h1, Nat.not_le.2 h2]
  case fecAbove =>
    intro s l n h1 h2
    refine ⟨doFecAlarm l n s, rfl, ?_⟩
    simp only [doFecAlarm, h1, rd_bump, h2, Bool.not_true, Bool.false_eq_true, if_false, if_true]
    unfold State.rbit
    rw [rd_raise]
    exact rbit_wbit_self _ _ _ _ _ (Nat.mod_lt _ (by decide))

end Sys2Proof.Proofs
end

section
/-! PROOFS. What the power operations leave in the registers, and the input's commands (R20, R375, R378, R381, R382, R388). -/

namespace Sys2Proof.Proofs

open Sys2Proof Sys2Proof.Machine Sys2Proof.Laws

/-! ## Reads after the power operations -/

@[simp] theorem rd_snapshot (s : State) (cause rail : Nat) (F : Fld) (i b : Nat) : (snapshot s cause rail).rd F i b = s.rd F i b := rfl

@[simp] theorem dev_snapshot (s : State) (cause rail : Nat) : (snapshot s cause rail).dev = s.dev := rfl

@[simp] theorem rd_setDev (s : State) (d : DevState) (w : Nat) (F : Fld) (i b : Nat) : (setDev s d w).rd F i b = s.rd F i b := by
  simp [setDev]

theorem stepBegin_step (s : State) (i : Nat) : (stepBegin s i).rd R.PWR_SEQSTAT_STEP = i % 64 := rd_wr_self ..

theorem stepBegin_phase (s : State) (i : Nat) : (stepBegin s i).rd R.PWR_SEQSTAT_PHASE = s.rd R.PWR_SEQSTAT_PHASE :=
  rd_wr_other _ _ _ _ _ _ _ _ (by decide)

theorem startFall_step (s : State) (i w : Nat) : (startFall s i w).rd R.PWR_SEQSTAT_STEP = i % 64 := stepBegin_step ..

theorem startFall_phase (s : State) (i w : Nat) : (startFall s i w).rd R.PWR_SEQSTAT_PHASE = 2 := by
  simp only [startFall, stepBegin_phase]
  exact (rd_wr_other _ _ _ _ _ _ _ _ (by decide)).trans (rd_wr_self ..)

/-! ## Resets that an input's source asks for -/

/-- A source of level 5 starts a save in SERVING. -/
theorem sourceReset_serving_dev {s : State} {src : Nat} (hd : s.dev = .serving) (hr : reachOf s src = 5) :
    (sourceReset s src).dev = .saving := by
  simp [sourceReset, takeReset, hr, hd]

/-! ## The commands -/

/-- What an early warning does before the device's state follows it. -/
def warned (s : State) (pin : Bool) (mv : Nat) : State :=
  raise (snapshot ((((s.wr R.PWR_ADC (adcCode mv) 8).wr R.PWR_INSTAT_WARN 1).wr R.PWR_INSTAT_EPFRAW (b2n pin)).bump C.PWR_WARNINGS) 4 0xFF)
    0x3C20 [Config.payloadCode 0x3C20 (b2n pin), mv]

theorem doEarlyPowerFailWarning_eq {s : State} (pin : Bool) (mv : Nat) (hd : s.dev ≠ .off) (hw : s.on R.PWR_INSTAT_WARN = false) :
    doEarlyPowerFailWarning pin mv s = powerDown (warned s pin mv) .warning :=
  if_neg (by simp [hd, hw])

@[simp] theorem warned_dev (s : State) (pin : Bool) (mv : Nat) : (warned s pin mv).dev = s.dev := by simp [warned]

theorem powerDown_standby {s : State} (c : SaveCause) (hd : s.dev = .standby) : powerDown s c = s := by simp [powerDown, hd]

theorem powerDown_serving {s : State} (c : SaveCause) (hd : s.dev = .serving) : powerDown s c = startSave s c := by simp [powerDown, hd]

/-- The input after its qualification: no warning, no brown-out of the bus. -/
def requalified (s : State) : State :=
  showBrownOut ((({ s with pwr := { s.pwr with boVin := false } } : State).wr R.PWR_INSTAT_WARN 0).wr R.PWR_INSTAT_EPFRAW 0)

theorem doInputPowerQualified_eq {s : State} (hd : s.dev ≠ .off) : doInputPowerQualified s = leaveSaved (requalified s) := if_neg hd

theorem requalified_regs (s : State) :
    (requalified s).rd R.PWR_INSTAT_WARN = 0 ∧ (requalified s).rd R.PWR_INSTAT_EPFRAW = 0 := by
  unfold requalified showBrownOut
  exact ⟨(rd_wr_other _ _ _ _ _ _ _ _ (by decide)).trans ((rd_wr_other _ _ _ _ _ _ _ _ (by decide)).trans (rd_wr_self ..)),
    (rd_wr_other _ _ _ _ _ _ _ _ (by decide)).trans (rd_wr_self ..)⟩

theorem requalified_qualified (s : State) : inputQualified (requalified s) = true := by
  have hb : (requalified s).pwr.boVin = false := rfl
  simp [inputQualified, State.on, (requalified_regs s).1, hb]

/-- Settles O23, by the branch of its meaning that each input event takes and the reads of what that branch leaves. -/
theorem inputPowerActs : Obligations.InputPowerActs := by
  refine ⟨?powerOn, ?warnStandby, ?warnServing, ?qualified, ?fallFromSaved, ?brownOut, ?collapse⟩
  case powerOn =>
    intro s floorLost hd
    have hf : (doPowerOnReset floorLost s).fuses = s.fuses := (keep_doPowerOnReset (Sub.refl _) (Keeps.refl _ s)).same .fuses rfl
    refine ⟨doPowerOnReset floorLost s, rfl, ?_, hf⟩
    rw [doPowerOnReset, if_pos hd]
    exact enterStandby_dev ..
  case warnStandby =>
    intro s pin mv hd hw
    refine ⟨warned s pin mv, next_eq ?_, ?_, ?_, ?_, ?_⟩
    · rw [doEarlyPowerFailWarning_eq pin mv (by simp [hd]) hw, powerDown_standby _ (by simpa using hd)]
    · simpa using hd
    all_goals simp (disch := decide) only [warned, rd_raise, rd_snapshot, rd_bump, rd_wr_other, rd_wr_self]
    · rfl
    · exact b2n_mod pin
    · rfl
  case warnServing =>
    intro s pin mv hd hw
    refine ⟨startSave (warned s pin mv) .warning, next_eq ?_, startSave_dev ..⟩
    rw [doEarlyPowerFailWarning_eq pin mv (by simp [hd]) hw, powerDown_serving _ (by simpa using hd)]
  case qualified =>
    intro s hd
    refine ⟨requalified s, next_eq ?_, (requalified_regs s).1, (requalified_regs s).2, rfl⟩
    rw [doInputPowerQualified_eq (by simp [hd])]
    exact if_neg (fun h => absurd (h.1.symm.trans hd) (by decide))
  case fallFromSaved =>
    intro s hd hp
    refine ⟨startFall (requalified s) 0 30, next_eq ?_, startFall_dev .., startFall_phase .., startFall_step ..⟩
    have hp' : (requalified s).rst.pend5 = none := hp
    rw [doInputPowerQualified_eq (by simp [hd]), leaveSaved, if_pos ⟨hd, requalified_qualified s⟩, hp']
  case brownOut =>
    intro s reading hd hb hr
    refine ⟨_, next_eq ((if_neg (by simp [hd])).trans (if_neg (by simp [hb]))), ?_⟩
    refine sourceReset_serving_dev (by simpa using hd) ?_
    simp only [reachOf, rd_raise, rd_snapshot, rd_bump]
    rw [rd_wr_other _ _ _ _ _ _ _ _ (by decide), rd_wr_other _ _ _ _ _ _ _ _ (by decide)]
    exact hr
  case collapse =>
    intro s hd
    refine ⟨doInputCollapse s, rfl, ?_⟩
    rw [doInputCollapse, if_neg hd]
    refine ⟨?_, ?_, ?_, ?_, stepBegin_step ..⟩
    · simp [stepBegin]
    · simp [stepBegin]
    · simp [stepBegin]
    · rw [stepBegin_phase]; exact rd_wr_self ..

end Sys2Proof.Proofs
end

section
/-! PROOFS. Telemetry, the power cap, margins and capacitance tests (R32, R252, R254, R384, R385). -/

namespace Sys2Proof.Proofs

open Sys2Proof Sys2Proof.Machine Sys2Proof.Laws

/-! ## Telemetry -/

/-- The power that the telemetry rails' last readings make, in units of 10 µW (R384). -/
def railPower (s : State) : Nat :=
  (List.range 24).foldl (fun a r => if s.on R.PWR_RAIL_TELEM r then a + s.pwr.vout.get r 0 * s.pwr.iout.get r 0 else a) 0

/-- The poll's result register is none of what the sum reads. -/
theorem railPower_wr_watts (s : State) (v : Nat) : railPower (s.wr R.PWR_POWER_WATTS v) = railPower s := by
  have ht : ∀ r, (s.wr R.PWR_POWER_WATTS v).on R.PWR_RAIL_TELEM r = s.on R.PWR_RAIL_TELEM r := fun r => by
    simp only [State.on]
    rw [rd_wr_other _ _ _ _ _ _ _ _ (by simp only [Fld.key, R.PWR_RAIL_TELEM, R.PWR_POWER_WATTS]; omega)]
  simp only [railPower, ht, wr_pwr]

theorem doPmbusTelemetryPoll_eq {s : State} (reads : List (Option Nat × Option Nat)) (hd : s.dev ≠ .off) :
    ∃ u : State, doPmbusTelemetryPoll reads s = u.wr R.PWR_POWER_WATTS (railPower u / 100000) :=
  ⟨(List.range 24).foldl (pollRail reads) s, if_neg hd⟩

/-! ## The power cap -/

theorem setSteps_gai (s : State) (cap temp : Nat) :
    (setSteps s cap temp).gai.capSteps = cap ∧ (setSteps s cap temp).gai.tempSteps = temp := by
  have hg : ∀ (u : State) (gm : Nat), (groomRow u gm).gai = u.gai := fun u gm =>
    (keep_groomRow (Sub.refl _) (Keeps.refl _ u)).same .gai rfl
  unfold setSteps
  dsimp only
  split
  · exact ⟨rfl, rfl⟩
  · rw [hg]; exact ⟨rfl, rfl⟩

/-! ## Capacitance tests -/

/-- A test in RESTORING, where it needs no token: the charger is off and the module bleeds. -/
def testing (s : State) (m : Nat) : State :=
  (({ s with gov := { s.gov with test := some m }, pwr := { s.pwr with bleed := 2 ^ m } } : State).wr R.GOV_STAT_TESTING 1).wr
    R.PWR_INSTAT_CHGEN 0

theorem testStart_restoring {s : State} (m : Nat) (hd : s.dev = .restoring) : testStart s m = testing s m := by
  have hs : (if s.dev = .serving then farAsk s 0 121 else s) = s := if_neg (by simp [hd])
  unfold testStart
  rw [hs]
  exact if_pos (.inl hd)

theorem testing_regs (s : State) (m : Nat) :
    (testing s m).rd R.GOV_STAT_TESTING = 1 ∧ (testing s m).rd R.PWR_INSTAT_CHGEN = 0 :=
  ⟨(rd_wr_other _ _ _ _ _ _ _ _ (by decide)).trans (rd_wr_self ..), rd_wr_self ..⟩

/-! ## The statement -/

/-- Settles O27: the poll by `railPower`, the cap by `setSteps_gai`, the tests by `testStart_restoring`. -/
theorem telemetryAndTestsAct : Obligations.TelemetryAndTestsAct := by
  refine ⟨?poll, ?cap, ?margin, ?failed, ?test, ?testCmd, ?testEnd⟩
  case poll =>
    intro s reads hd
    obtain ⟨u, hu⟩ := doPmbusTelemetryPoll_eq reads hd
    refine ⟨_, next_eq hu, (rd_wr_self ..).trans ?_⟩
    show railPower u / 100000 % 65536 = railPower (u.wr R.PWR_POWER_WATTS (railPower u / 100000)) / 100000 % 65536
    rw [railPower_wr_watts]
  case cap =>
    intro s w hd hc hn
    refine ⟨_, next_eq ((if_pos hd).trans ((if_pos hc).trans (if_pos hn))), ?_⟩
    rw [raise_gai]
    exact setSteps_gai ..
  case margin =>
    intro s hd hb hr
    refine ⟨_, next_eq ((if_pos (by simp [awake, hd])).trans (if_pos ⟨.inr hd, hb, hr⟩)), rfl, ?_, rd_wr_self .., ?_, rfl⟩
    · exact (rd_wr_other _ _ _ _ _ _ _ _ (by decide)).trans (rd_wr_self ..)
    · simp [cmdStat, cmdRun, setCmd]
  case failed =>
    intro s m reading h1 h2 h3 h4 h5
    refine next_eq ((if_pos ⟨h1, h2, h3, by simp [h4], h5⟩).trans ?_)
    rw [markFailed, if_pos ⟨h3, by simp [h4]⟩]
  case test =>
    intro s m ht hd
    refine ⟨testing s m, next_eq ((if_pos ht).trans (testStart_restoring m hd)), rfl, rfl, ?_⟩
    exact testing_regs s m
  case testCmd =>
    intro s m hm ht hd hc
    have ha : awake s = true := by simp [awake, hd]
    refine ⟨testing _ m, next_eq ((if_neg (by simp [ha])).trans ((if_pos ⟨hm, ht, by simp [hc]⟩).trans (testStart_restoring m hd))),
      rfl, rfl, rfl, ?_⟩
    simp [testing, cmdStat, cmdRun, setCmd]
  case testEnd =>
    intro s m v0 v1 ht hc hp hr
    refine next_eq ?_
    simp only [doCapacitanceTestEnd, ht, hc, hp, hr, decide_true, if_true, Bool.false_eq_true, if_false]

end Sys2Proof.Proofs
end

section
/-! PROOFS. Gait requests, quiet points and the edit shadow (R23, R26, R28, R30, R31, R36, R60, R62). -/

namespace Sys2Proof.Proofs

open Sys2Proof Sys2Proof.Machine Sys2Proof.Laws

/-! ## Requests -/

/-- A request behind a change under way, which the device latches; an earlier latched one is reported as overwritten. -/
def gaitLatched (s : State) (g : Nat) : State :=
  ((((if s.on R.GAI_CUR_LATCHPEND then raise s 0x0440 [s.rd R.GAI_CUR_LATCHED, g] else s).wr R.GAI_CUR_LATCHED g).wr
    R.GAI_CUR_LATCHPEND 1).wr R.GAI_CUR_CHANGE 2).wr R.GAI_REQ_GAIT g

theorem askGait_latched {s : State} (g : Nat) (hd : s.dev = .serving) (hc : s.gai.change.isSome = true) :
    (askGait s g).1 = gaitLatched s g := by
  obtain ⟨c, hc⟩ := Option.isSome_iff_exists.1 hc
  simp [askGait, gaitRequest, gaitLatched, hd, hc]

theorem askGait_applied {s : State} (g : Nat) (hd : s.dev = .serving) (hc : s.gai.change = none) :
    (askGait s g).1 = (gaitApply s g).wr R.GAI_REQ_GAIT g := by
  simp [askGait, gaitRequest, hd, hc]

theorem gaitLatched_gai (s : State) (g : Nat) : (gaitLatched s g).gai = s.gai := by
  unfold gaitLatched
  simp only [wr_gai]
  split
  · exact raise_gai ..
  · rfl

theorem gaitLatched_regs (s : State) (g : Fin 6) :
    (gaitLatched s g).rd R.GAI_CUR_LATCHED = g ∧ (gaitLatched s g).rd R.GAI_CUR_LATCHPEND = 1 ∧
      (gaitLatched s g).rd R.GAI_CUR_CHANGE = 2 ∧ (gaitLatched s g).rd R.GAI_REQ_GAIT = g := by
  have hg : g.val % 8 = g := Nat.mod_eq_of_lt (by omega)
  refine ⟨?_, ?_, ?_, ?_⟩ <;> simp (disch := decide) only [gaitLatched, rd_wr_other, rd_wr_self]
  · exact hg
  · rfl
  · rfl
  · exact hg

/-! ## Quiet points -/

theorem pendShown_shadow (s : State) (n : Nat) : (pendShown s n).rf.shadow = s.rf.shadow := by
  unfold pendShown
  split <;> rfl

/-- A quiet point leaves the shadows of other blocks and those that have to wait (R60). -/
theorem quietPoint_shadow (s : State) (n : Nat) :
    (quietPoint s n).rf.shadow = s.rf.shadow.filter (fun e => !(takenAt n e.1 && mayTake s e.1)) :=
  (pendShown_shadow _ _).trans (pendShown_shadow _ _)

theorem gaitTake_idle {s : State} (n : Nat) (hc : s.gai.change = none) : gaitTake s n = s := by
  rw [gaitTake, hc]

/-! ## The edit shadow -/

theorem rowWrite_accepted {s : State} {g v : Nat}
    (hr : rowRefusal (fun F => bits (offeredWord s g v ((F.off - 0x100) / 4)) F.lsb F.wid) = none) :
    ∃ u : State, rowWrite s g 3 v = u.wr R.GAI_STATUS_ROW_REFUSED 0 ∧ u.gai.held = s.gai.held.keep (fun k => k / 4 ≠ g) := by
  refine ⟨editPut { s with gai := { s.gai with held := s.gai.held.keep (fun k => k / 4 ≠ g) } } g
    (fun F => bits (offeredWord s g v ((F.off - 0x100) / 4)) F.lsb F.wid), ?_, rfl⟩
  simp only [rowWrite, hr, Nat.lt_irrefl, if_false]

/-- Entry 10 of a row is its power cap alone (Table 1.7). -/
theorem editField_pwrcap {s : State} {sess g v : Nat} (hb : editBusy s sess = false) (h1 : 60 ≤ v) (h2 : v ≤ 235) :
    (editField s sess g 9 v).1 =
      { s with gai := { s.gai with owner := some sess, edit := s.gai.edit.ins (R.GAI_ROW_PWRCAP.key g 0) v } } := by
  have hv : bits v 0 R.GAI_ROW_PWRCAP.wid = v := by
    rw [bits, Nat.pow_zero, Nat.div_one]
    exact Nat.mod_eq_of_lt (Nat.lt_of_le_of_lt h2 (by decide))
  have hl : R.GAI_ROW_PWRCAP.lim.ok v = true := by simp [R.GAI_ROW_PWRCAP, Lim.ok, h1, h2]
  simp [editField, hb, entryFields, hv, hl]

theorem foldl_wrRow_dev (f : Fld → Nat) (g : Nat) (s : State) : (rowFields.foldl (fun u F => u.wr F (f F) g) s).dev = s.dev :=
  foldl_dev _ _ _ (fun _ _ => rfl)

/-- The rows of the edit shadow committed, before GAI acts on them. -/
def rowsCommitted (s : State) : State :=
  let t := (List.range 6).foldl (fun u g => rowFields.foldl (fun v F => v.wr F (editVal s F g) g) u) s
  ({ t with gai := { t.gai with edit := [], owner := none } } : State).wr R.GAI_STATUS_ROW_REFUSED 0

theorem rowsCommitted_dev (s : State) : (rowsCommitted s).dev = s.dev := by
  simp only [rowsCommitted, wr_dev]
  exact foldl_dev _ _ _ (fun u g => foldl_wrRow_dev (fun F => editVal s F g) g u)

/-- Outside SERVING an accepted commit asks for no gait change. -/
theorem gaitCommit_outside_serving {s : State} (hd : s.dev ≠ .serving)
    (hr : (List.range 6).findSome? (fun g => (rowRefusal (fun F => editVal s F g)).map (fun p => (g, p))) = none) :
    (gaitCommit s).1 = rowsCommitted s := by
  have hreq : ∀ g, (gaitRequest (rowsCommitted s) g).1 = rowsCommitted s := fun g => by
    rw [gaitRequest, if_pos (by rwa [rowsCommitted_dev])]
  rw [gaitCommit, hr]
  exact (congrArg (ite _ _) (hreq _)).trans (ite_self _)

/-! ## The statement -/

/-- Settles O29, each command by what it leaves in the gait part (`gaitLatched`, `quietPoint_shadow`, `rowsCommitted`). -/
theorem gaitCommandsAct : Obligations.GaitCommandsAct := by
  refine ⟨?latched, ?applied, ?quiet, ?late, ?word3, ?field, ?commit, ?defaults⟩
  case latched =>
    intro s g hd hc
    obtain ⟨h1, h2, h3, h4⟩ := gaitLatched_regs s g
    exact ⟨_, next_eq (askGait_latched g hd hc), h1, h2, h3, h4, congrArg Gai.change (gaitLatched_gai s g)⟩
  case applied =>
    intro s g hd hc
    exact next_eq (askGait_applied g hd hc)
  case quiet =>
    intro s block hd hh hc hb
    refine ⟨quietPoint s block, next_eq ((if_neg (by simp [hd, hh])).trans ((if_neg hb).trans ?_)), quietPoint_shadow s block⟩
    exact gaitTake_idle _ (by simpa using hc)
  case late =>
    intro s block h1 h2 h3
    exact ⟨_, next_eq (if_pos ⟨h1, by simp [h2], h3⟩), (rd_raise ..).trans (rd_wr_self ..)⟩
  case word3 =>
    intro s g v ha hr
    obtain ⟨u, hu, hheld⟩ := rowWrite_accepted hr
    exact ⟨_, next_eq ((if_pos ha).trans hu), rd_wr_self .., hheld⟩
  case field =>
    intro s sess g v ha hb h1 h2
    refine ⟨_, next_eq ((if_pos ha).trans (editField_pwrcap hb h1 h2)), rfl, ?_⟩
    simp
  case commit =>
    intro s hd hr
    refine ⟨rowsCommitted s, next_eq ((if_neg (by simp [awake, hd])).trans (gaitCommit_outside_serving (by simp [hd]) hr)), ?_⟩
    exact ⟨rfl, rfl, rd_wr_self ..⟩
  case defaults =>
    intro s n ha hb
    refine ⟨_, next_eq ((if_neg (by simp [ha])).trans (if_neg (by simp [hb]))), rfl, ?_⟩
    simp [cmdStat, cmdDone, setCmd]

end Sys2Proof.Proofs
end

section
/-! PROOFS. Registration, deregistration and deallocation as commands, and the end of a drain (R84, R87, R91, R95, R180). -/

namespace Sys2Proof.Proofs

open Sys2Proof Sys2Proof.Machine Sys2Proof.Laws

/-! ## Map commands: run at once, or queued for firmware (R13, Table 14.5) -/

section MapCommand

variable {s : State} {entry sess : Nat} {ready : State → Bool} {work : Nat × List Nat} {run : State → State}
  (hc : (cmdStat s (cmdKey entry sess)).state ≠ 1)
include hc

theorem mapCommand_runs (hr : ready (cmdRun s (cmdKey entry sess)) = true) :
    mapCommand s entry sess ready work run = run (cmdRun s (cmdKey entry sess)) :=
  (if_neg hc).trans (if_pos hr)

theorem mapCommand_waits (hr : ready (cmdRun s (cmdKey entry sess)) = false) :
    ∃ u : State, mapCommand s entry sess ready work run = u ∧ u.dic.work = s.dic.work ++ [(work.1, sess, work.2)] ∧
      cmdStat u (cmdKey entry sess) = { state := 1, code := 0, progress := 0 } := by
  refine ⟨_, (if_neg hc).trans (if_neg (by simp [hr])), rfl, ?_⟩
  simp [cmdStat, cmdRun, setCmd]

end MapCommand

theorem cmdStat_cmdDone (s : State) (e : Nat) : cmdStat (cmdDone s e) e = { state := 2, code := 0, progress := 0xFFFF } := by
  simp [cmdStat, cmdDone, setCmd]

/-- The handler's region values are no session's any more. -/
def unowned (t : State) : State := { t with dic := { t.dic with owners := t.dic.owners.del 1 } }

theorem doRegisterRegionCmd_eq {s : State} (sess : Nat) (ha : awake s = true) :
    doRegisterRegionCmd sess s = unowned (mapCommand s (ekey 0x2110 9) sess (fun u => fwUp u && drbgOk u) (0, regValues s)
      (fun u => registerPair u sess (registrationOf (regValues s)))) :=
  if_neg (by simp [ha])

/-! ## What the lead side does alone -/

section Alone

variable {s : State} (hl : mapLead s = true) (hs : sendsMaps s = false)
include hl hs

theorem registerPair_alone {r : Region} (sess : Nat) (hr : regRefusal s r = 0) :
    registerPair s sess r = regDone (registerHere s r).1 sess (registerHere s r).2
      (rkeyOf (registerHere s r).2 (regionAt (registerHere s r).1 (registerHere s r).2)) := by
  simp only [registerPair, hl, hs, hr, true_or, if_true, ne_eq, not_true_eq_false, if_false, Bool.false_eq_true]

theorem deregisterPair_alone {k : Nat} (sess : Nat) (hk : rkeyLive s k = true) :
    deregisterPair s sess k = cmdDone (deregisterHere s k) (cmdKey (ekey 0x2111 1) sess) := by
  simp only [deregisterPair, hl, hs, hk, if_true, Bool.not_true, Bool.false_eq_true, if_false]

theorem deallocPair_alone {e n : Nat} (sess : Nat) (hr : deallocRefusal s e n = 0) (hw : deallocWaits s e n = false) :
    deallocPair s sess e n = cmdDone (deallocHere s e n) (cmdKey (ekey 0x2111 4) sess) := by
  simp only [deallocPair, hl, hs, hr, hw, if_true, ne_eq, not_true_eq_false, if_false, Bool.false_eq_true]

end Alone

theorem unowned_regDone_region (s : State) (sess i k j : Nat) : regionAt (unowned (regDone s sess i k)) j = regionAt s j := rfl

/-- The index of a registration is a matter of the maps alone. -/
theorem takeIndex_index (s : State) :
    (takeIndex s).2 = if s.maps.freeNext < 16384 then s.maps.freeNext else s.maps.freed.headD 0 := by
  unfold takeIndex
  split
  · rfl
  · cases hf : s.maps.freed <;> rfl

theorem takeIndex_cmdRun (s : State) (c : Nat) : (takeIndex (cmdRun s c)).2 = (takeIndex s).2 := by
  rw [takeIndex_index, takeIndex_index]
  rfl

/-- A deregistered region drains (R87). -/
theorem deregisterHere_state (s : State) (k : Nat) : (regionAt (deregisterHere s k) (bits k 10 14)).state = 2 := by
  have hm : ∀ (u : State) (i : Nat), regionAt (markMapReg u i) i = regionAt u i := fun u i => by
    rw [regionAt, markMapReg_regions]; rfl
  simp only [deregisterHere, hm, setRegion_at]

theorem setRegion_freed (s : State) (i : Nat) (r : Region) : (setRegion s i r).maps.freed = s.maps.freed := mapTouch_freed ..

/-- A region whose last access has left becomes FREE, and its index the free list's last (R87). -/
theorem drainDone_frees {s : State} {i : Nat} (hr : (regionAt s i).state = 2) (hn : s.trn.inflight.get i 0 = 0) :
    (regionAt (drainDone s i) i).state = 0 ∧ (drainDone s i).maps.freed = s.maps.freed ++ [i] := by
  unfold drainDone
  dsimp only
  rw [if_pos ⟨hr, hn⟩]
  refine ⟨?_, ?_⟩
  · rw [regionAt, raise_maps]
    exact congrArg Region.state (setRegion_at s i { regionAt s i with state := 0 })
  · rw [raise_maps]
    exact congrArg (· ++ [i]) (setRegion_freed ..)

/-! ## The statement -/

/-- Settles O34: a map command waits or runs (`mapCommand_waits`, `mapCommand_runs`), and run alone its pair form is the local one. -/
theorem mapCommandsAct : Obligations.MapCommandsAct := by
  refine ⟨?queued, ?register, ?deregister, ?dealloc, ?drain⟩
  case queued =>
    intro s sess ha hc hf
    have hdown : fwUp s = false := by simp [fwUp, hf]
    have hr : (fwUp (cmdRun s (cmdKey (ekey 0x2110 9) sess)) && drbgOk (cmdRun s (cmdKey (ekey 0x2110 9) sess))) = false :=
      Bool.and_eq_false_iff.2 (.inl hdown)
    obtain ⟨u, hu, hwork, hstat⟩ := mapCommand_waits (ready := fun u => fwUp u && drbgOk u) (work := (0, regValues s))
      (run := fun u => registerPair u sess (registrationOf (regValues s))) hc hr
    exact ⟨_, next_eq ((doRegisterRegionCmd_eq sess ha).trans (congrArg unowned hu)), hwork, hstat⟩
  case register =>
    rintro s sess i r ha hc hf hd hl hs rfl hr rfl
    have hrun := mapCommand_runs (ready := fun u => fwUp u && drbgOk u) (work := (0, regValues s))
      (run := fun u => registerPair u sess (registrationOf (regValues s))) hc (Bool.and_eq_true_iff.2 ⟨hf, hd⟩)
    rw [registerPair_alone (s := cmdRun s (cmdKey (ekey 0x2110 9) sess)) hl hs sess hr] at hrun
    refine ⟨_, next_eq ((doRegisterRegionCmd_eq sess ha).trans (congrArg unowned hrun)), ?_, cmdStat_cmdDone ..⟩
    have hat := registerHere_at (cmdRun s (cmdKey (ekey 0x2110 9) sess)) (registrationOf (regValues s))
    rw [takeIndex_cmdRun] at hat
    rw [unowned_regDone_region]
    exact hat
  case deregister =>
    intro s sess k ha hc hf hl hs hk hlive
    refine ⟨_, next_eq ((if_neg (by simp [ha])).trans (mapCommand_runs hc hf)), ?_⟩
    rw [Nat.mod_eq_of_lt hk, deregisterPair_alone (s := cmdRun s (cmdKey (ekey 0x2111 1) sess)) hl hs sess hlive]
    exact ⟨deregisterHere_state .., cmdStat_cmdDone ..⟩
  case dealloc =>
    rintro s sess u ha hc hf hl hs rfl hr hw
    refine next_eq ((if_neg (by simp [ha])).trans ((mapCommand_runs hc hf).trans ?_))
    exact deallocPair_alone (s := cmdRun s (cmdKey (ekey 0x2111 4) sess)) hl hs sess hr hw
  case drain =>
    intro s i ha hr hn
    exact ⟨_, next_eq (if_neg (by simp [ha])), drainDone_frees hr hn⟩

end Sys2Proof.Proofs
end

section
/-! PROOFS. Every step keeps tier D memory and the register lists canonical (R57, R102). -/

namespace Sys2Proof.Proofs

open Sys2Proof Sys2Proof.Machine Sys2Proof.Laws

/-- What keeps tier D memory and the register lists canonical keeps the state canonical. -/
theorem canonical_of_keeps {k : Nat} {s t : State} (h : Keeps k s t) (hs : s.canonical) : t.canonical :=
  ⟨h.mem hs.1, h.regs hs.2⟩

/-- A command keeps the state canonical. -/
theorem exec_canonical {c : Instr} {s t : State} (h : exec c s = .next t) (hs : s.canonical) : t.canonical := by
  have hc := exec_staysIn c s
  rw [h] at hc
  obtain ⟨k, hk, -⟩ := hc
  exact canonical_of_keeps hk hs

theorem tick_canonical {s : State} (hs : s.canonical) : (tick s).canonical := by
  obtain ⟨-, -, -, -, hcan⟩ := tick_all s
  exact hcan hs

theorem step_idle {s : State} (h : s.pending = []) : step s = .next (tick s) := by
  rw [step, h]

theorem step_front {s : State} {c : Instr} {rest : List Instr} (h : s.pending = c :: rest) :
    step s = exec c { s with pending := rest } := by
  rw [step, h]

/-- Settles O7: a step is a tick or a command, which each keep the canonical forms; the queue has no part in them. -/
theorem stepKeepsCanonical : Obligations.StepKeepsCanonical := by
  intro s t hs h
  cases hp : s.pending with
  | nil =>
    rw [step_idle hp] at h
    exact Host.Outcome.next.inj h ▸ tick_canonical hs
  | cons c rest =>
    rw [step_front hp] at h
    exact exec_canonical h hs

end Sys2Proof.Proofs
end

section
/-! PROOFS. The address space: homes of pages, bytes of tier D, stripes (R90, R101, R102). -/

namespace Sys2Proof.Proofs

open Sys2Proof Sys2Proof.Machine Sys2Proof.Laws

/-- Settles O13: `homeSide` reads HOME of the page's extent, and with INTERLEAVE the lowest bit of the page number. -/
theorem pageHomes : Obligations.PageHomes := by
  intro s p
  refine ⟨?side0, ?side1, fun h => ⟨?even, ?odd⟩⟩
  case side0 | side1 => intro h; simp only [homeSide, h]
  case even | odd => intro hp; simpa only [homeSide, h] using hp

/-! ## Bytes of tier D -/

/-- Read after write of a byte string: the byte written there. -/
theorem memGet_memWrite_inside {bs : List Nat} (hb : ∀ x ∈ bs, x < 256) (m : List Host.Cell) (a i : Nat) (hi : i < bs.length) :
    memGet (memWrite m a bs) (a + i) = bs.getD i 0 := by
  induction bs generalizing m a i with
  | nil => exact absurd hi (Nat.not_lt_zero _)
  | cons x bs ih =>
    obtain ⟨hx, hbs⟩ := List.forall_mem_cons.1 hb
    cases i with
    | zero =>
      calc memGet (memWrite (memPut m a x) (a + 1) bs) a
          _ = memGet (memPut m a x) a := memGet_memWrite_other _ _ _ _ (.inl (Nat.lt_add_one a))
          _ = x := (memGet_memPut_self ..).trans (Nat.mod_eq_of_lt hx)
    | succ i =>
      rw [memWrite, show a + (i + 1) = a + 1 + i by omega]
      exact ih hbs _ _ _ (Nat.lt_of_succ_lt_succ hi)

theorem dRead_byte (s : State) (a : Nat) : dRead s a 1 = [memGet s.dram.data a] := rfl

/-- Settles O20: a write changes tier D by `memWrite` alone (`dWrite_data`), which reads back inside its range and nowhere else. -/
theorem tierDReadsWhatWasWritten : Obligations.TierDReadsWhatWasWritten := by
  intro s a bs hwf hbytes
  refine ⟨dWrite_data s a bs ▸ Memory.wf_memWrite hwf, fun b => ?_⟩
  rw [dRead_byte, dRead_byte, dWrite_data]
  split
  case isTrue hin =>
    obtain ⟨i, rfl⟩ := Nat.exists_eq_add_of_le hin.1
    rw [memGet_memWrite_inside hbytes _ _ _ (by omega), Nat.add_sub_cancel_left]
  case isFalse hout => rw [memGet_memWrite_other _ _ _ _ (by omega)]

/-! ## Stripes -/

/-- A quotient below `k` and a remainder below `w` spell a number below `k * w`. -/
theorem quot_mul_add_lt {q r k w : Nat} (hq : q < k) (hr : r < w) : q * w + r < k * w :=
  calc q * w + r < q * w + w := by omega
    _ = (q + 1) * w := (Nat.succ_mul q w).symm
    _ ≤ k * w := Nat.mul_le_mul_right w hq

theorem quot_mul_add_div {q r w : Nat} (hr : r < w) : (q * w + r) / w = q := by
  rw [Nat.add_comm, Nat.add_mul_div_right _ _ (Nat.zero_lt_of_lt hr), Nat.div_eq_of_lt hr, Nat.zero_add]

theorem quot_mul_add_mod {q r w : Nat} (hr : r < w) : (q * w + r) % w = r := by
  rw [Nat.mul_add_mod', Nat.mod_eq_of_lt hr]

/-- An offset in a part of the stripe: the grain's row, the channel and the byte of the grain. -/
theorem grain_split (g w b : Nat) : (b / (g * w) * w + b / g % w) * g + b % g = b := by
  rw [← Nat.div_div_eq_div_mul, Nat.div_add_mod' (b / g) w, Nat.div_add_mod']

theorem grain_pos (s : State) : 0 < grain s := by unfold grain; split <;> decide
theorem stripeWidth_pos (s : State) : 0 < stripeWidth s := by unfold stripeWidth; split <;> decide

/-- The 16 channels hold a whole number of grains each. -/
theorem geometryBytes_grains (s : State) : ∃ m, 0 < m ∧ geometryBytes s = 16 * (m * grain s) := by
  have hdvd : grain s ∣ 2 ^ 19 := by unfold grain; split <;> decide
  obtain ⟨j, hj⟩ := hdvd
  have hpos : 0 < grain s * j := hj ▸ (by decide)
  refine ⟨2 ^ (s.rd R.DRC_ADDRMAP_ROWBITS + s.rd R.DRC_ADDRMAP_RANKBITS) * j,
    Nat.mul_pos (Nat.two_pow_pos _) (Nat.pos_of_mul_pos_left hpos), ?_⟩
  rw [geometryBytes, Nat.add_assoc, Nat.pow_add, hj, Nat.mul_comm (grain s * j), Nat.mul_assoc _ j, Nat.mul_comm j]

/-- The 16 channels are a whole number of stripe widths. -/
theorem stripeWidth_dvd (s : State) : stripeWidth s ∣ 16 := by unfold stripeWidth; split <;> decide

/-- Settles O21: in the part of an address, the grain's row, the channel and the byte spell the offset (`grain_split`), and channel
and channel address are each a quotient and a remainder. -/
theorem stripesInvert : Obligations.StripesInvert := by
  intro s a ha
  obtain ⟨m, hm, hgeo⟩ := geometryBytes_grains s
  obtain ⟨n, hn⟩ := stripeWidth_dvd s
  have hg := grain_pos s
  have hpart : geometryBytes s * stripeWidth s / 16 = m * grain s * stripeWidth s := by
    rw [hgeo, Nat.mul_assoc 16, Nat.mul_div_cancel_left _ (by decide)]
  have hsize : geometryBytes s / 16 = m * grain s := by rw [hgeo, Nat.mul_div_cancel_left _ (by decide)]
  have hquot : a / (m * grain s * stripeWidth s) < n := by
    refine Nat.div_lt_of_lt_mul (Nat.lt_of_lt_of_eq ha ?_)
    rw [hgeo, Nat.mul_assoc _ (stripeWidth s), ← hn, Nat.mul_comm]
  have hoff : a % (m * grain s * stripeWidth s) < grain s * stripeWidth s * m := by
    rw [Nat.mul_comm _ m, ← Nat.mul_assoc]
    exact Nat.mod_lt _ (Nat.mul_pos (Nat.mul_pos hm hg) (stripeWidth_pos s))
  simp only [stripe, unstripe, hpart, hsize]
  generalize hb : a % (m * grain s * stripeWidth s) = b at hoff ⊢
  have hc : b / grain s % stripeWidth s < stripeWidth s := Nat.mod_lt _ (stripeWidth_pos s)
  have hr : b % grain s < grain s := Nat.mod_lt _ hg
  refine ⟨?channel, ?address, ?inverse⟩
  case channel => exact Nat.lt_of_lt_of_eq (quot_mul_add_lt hquot hc) (hn.trans (Nat.mul_comm ..)).symm
  case address => exact quot_mul_add_lt (Nat.div_lt_of_lt_mul hoff) hr
  case inverse =>
    rw [quot_mul_add_div hc, quot_mul_add_mod hc, quot_mul_add_div hr, quot_mul_add_mod hr, Nat.add_assoc, grain_split, ← hb,
      Nat.div_add_mod']

end Sys2Proof.Proofs
end

section
/-! PROOFS. The access check and what ends a request (R83, R87, R147; Table 10.6). -/

namespace Sys2Proof.Proofs

open Sys2Proof Sys2Proof.Machine Sys2Proof.Laws

/-! ## Requests: what the shared operations leave of them -/

/-- A request reads as it was put. -/
theorem reqAt_setReq_of {s : State} {id : Nat} {r x : Req} (h : reqAt s id = some x) (e : r.id = x.id) :
    reqAt (setReq s r) id = some r := by
  obtain rfl : r.id = id := e.trans (reqAt_id h)
  exact reqAt_setReq s r x h

/-- The requests are a matter of the transport's part alone. -/
theorem reqAt_congr {s t : State} (h : t.xpt = s.xpt) (id : Nat) : reqAt t id = reqAt s id := by unfold reqAt; rw [h]

theorem qpAt_congr {s t : State} (h : t.xpt = s.xpt) (i : Nat) : qpAt t i = qpAt s i := by unfold qpAt; rw [h]

theorem lineWritten_xpt (s : State) (id : Nat) : (lineWritten s id).xpt = s.xpt :=
  (keep_lineWritten (Sub.refl _) (Keeps.refl _ s)).same .xpt rfl

theorem qpAt_modQp_self (s : State) (i : Nat) (f : Qp → Qp) : qpAt (modQp s i f) i = f (qpAt s i) := Sparse.get_put_self ..

/-! ## The access check's failure (R147) -/

/-- A failed check: counted and reported, before its effect on the QP and the request. -/
def accessReported (s : State) (r : Req) (cause : Nat) : State :=
  let g := regionAt s (bits r.rkey 10 14)
  let tenant := if g.state = 1 then g.tenant else (qpAt s r.qp).tenant
  let p := pipeOf r.lport
  let t := s.bump C.TRN_CHKFAIL 1 (cause - 1)
  let t := raiseTo t (0x1400 + p) [0x40000 + r.qp, r.rkey, regionOffset r.va g.vabase, cause] (tenantSessions t tenant)
  if cause = 2 ∨ cause = 3 then raise t (0x6020 + p) [0x40000 + r.qp, r.rkey, cause] else t

theorem accessFailed_eq (s : State) (r : Req) (c : Nat) :
    accessFailed s r c = setReq (backTokens (modQp (accessReported s r c) r.qp (fun q => { q with viols := (q.viols + 1) % 2 ^ 32 }))
      r.tokens) { r with fate := .access, stage := .done, tokens := 0 } := rfl

theorem accessReported_xpt (s : State) (r : Req) (c : Nat) : (accessReported s r c).xpt = s.xpt := by
  unfold accessReported
  dsimp only
  split
  · rw [raise_xpt, raiseTo_xpt]; rfl
  · rw [raiseTo_xpt]; rfl

theorem accessReported_rd (s : State) (r : Req) (c : Nat) (F : Fld) (i b : Nat) : (accessReported s r c).rd F i b = s.rd F i b := by
  unfold accessReported
  dsimp only
  split
  · rw [rd_raise, rd_raiseTo, rd_bump]
  · rw [rd_raiseTo, rd_bump]

theorem accessFailed_tokens (s : State) (r : Req) (c : Nat) :
    (accessFailed s r c).rd R.GOV_OUT = (s.rd R.GOV_OUT - r.tokens) % 2 ^ R.GOV_OUT.wid := by
  rw [accessFailed_eq, ← accessReported_rd s r c]
  exact rd_wr_self ..

theorem accessFailed_request {s : State} {id : Nat} {r : Req} (h : reqAt s id = some r) (c : Nat) :
    reqAt (accessFailed s r c) id = some { r with fate := .access, stage := .done, tokens := 0 } := by
  rw [accessFailed_eq]
  exact reqAt_setReq_of (x := r) ((reqAt_congr (accessReported_xpt s r c) id).trans h) rfl

theorem accessFailed_viols (s : State) (r : Req) (c : Nat) :
    (qpAt (accessFailed s r c) r.qp).viols = ((qpAt s r.qp).viols + 1) % 2 ^ 32 := by
  rw [accessFailed_eq, ← qpAt_congr (accessReported_xpt s r c)]
  exact congrArg Qp.viols (qpAt_modQp_self (accessReported s r c) r.qp (fun q => { q with viols := (q.viols + 1) % 2 ^ 32 }))

/-- No memory, no map, no governor, no tier, no log and no millstone takes part in a failed check. -/
theorem accessFailed_same (s : State) (r : Req) (c : Nat) :
    ∀ p ∈ [StPart.dram, .maps, .gov, .tie, .stf, .drc, .log, .mst], p.same s (accessFailed s r c) := fun p hp =>
  (keep_accessFailed (Sub.refl _) (Keeps.refl _ s)).same p (by revert p; decide)

/-! ## The end of a request at Place -/

/-- A request in Place whose parts are done, or that ends with a fate, is done and holds no token. -/
theorem settle_ends {s : State} {id : Nat} {r : Req} (h : reqAt s id = some r) (hs : r.stage = .place)
    (he : r.parts.all (fun p => p.st = .done) = true ∨ r.fate ≠ .ok) :
    reqAt (settle s id) id = some { r with stage := .done, tokens := 0 } := by
  unfold settle
  rw [h]
  dsimp only
  rw [if_pos ⟨hs, he⟩, reqAt_congr (lineWritten_xpt _ _)]
  have hpush : ∀ (u : State) (i : Nat) (sl : RingSlot), reqAt (ringPush u i sl) id = reqAt u id := fun u i sl => rfl
  refine reqAt_setReq_of (x := r) ?_ rfl
  split
  · exact (hpush _ _ _).trans h
  · exact h

theorem failOps_request {s : State} {id : Nat} {r : Req} (h : reqAt s id = some r) (hs : r.stage = .place) (data : List Nat) :
    reqAt (failOps s id data) id = some { r with fate := .operational, data, stage := .done, tokens := 0 } := by
  unfold failOps
  rw [h]
  exact settle_ends (reqAt_setReq_of (r := { r with fate := .operational, data }) h rfl) hs (.inr (by simp))

/-- A request ends with the operational error in the transport and in its registers alone. -/
theorem failOps_same (s : State) (r : Req) (id : Nat) (data : List Nat) :
    ∀ p ∈ [StPart.dram, .maps, .gov, .tie, .stf, .drc, .log, .mst], p.same s (failOps (setReq s r) id data) := fun p hp =>
  (keep_failOps (Sub.refl _) (keep_setReq (Sub.of (Sub.refl _) rfl) (Keeps.refl _ s))).same p (by revert p; decide)

/-! ## Translate (R83) -/

section Translate

variable {s : State} {id : Nat} {r : Req} (h : reqAt s id = some r) (hs : r.stage = .translate) (hp : r.passed = false)
include h hs hp

/-- A poisoned line of the region's entry ends the request (Table 10.6). -/
theorem doTranslate_poisoned (hb : badEntry s (regAddr (bits r.rkey 10 14)) = true) :
    doTranslate id s = failOps (setReq s { r with stage := .place }) id [] := by
  simp [doTranslate, h, hs, hp, hb]

/-- A request that the access check denies. -/
theorem doTranslate_denied (hb : badEntry s (regAddr (bits r.rkey 10 14)) = false)
    (hc : accessCause s (qpAt s r.qp).tenant r.rkey r.va r.len r.kind ≠ 0) :
    doTranslate id s = accessFailed s r (accessCause s (qpAt s r.qp).tenant r.rkey r.va r.len r.kind) := by
  simp [doTranslate, h, hs, hp, hb, hc]

end Translate

/-! ## The statement -/

/-- Settles O17: Translate ends the request by `accessFailed`, or by `failOps` where the entry's line is poisoned. -/
theorem failedAccessTouchesNothing : Obligations.FailedAccessTouchesNothing := by
  refine ⟨?access, ?poisoned⟩
  case access =>
    intro s id r h hs hp hb hc
    refine ⟨_, next_eq (doTranslate_denied h hs hp hb hc), accessFailed_same s r _, accessFailed_tokens s r _, ?_,
      accessFailed_viols s r _⟩
    rw [accessFailed_request h]; rfl
  case poisoned =>
    intro s id r h hs hp hb
    refine ⟨_, next_eq (doTranslate_poisoned h hs hp hb), failOps_same s _ id _, ?_⟩
    rw [failOps_request (reqAt_setReq_of (r := { r with stage := .place }) h rfl) rfl]; rfl

end Sys2Proof.Proofs
end

section
/-! PROOFS. The stages of a request, the reins and line reads (R83, R138, R140, R141, R147, R155, R158, R314). -/

namespace Sys2Proof.Proofs

open Sys2Proof Sys2Proof.Machine Sys2Proof.Laws

theorem showAdmit_xpt (s : State) (p : Nat) : (showAdmit s p).xpt = s.xpt :=
  (keep_showAdmit (Sub.refl _) (Keeps.refl _ s)).same .xpt rfl

theorem sendPkt_xpt (s : State) (i opcode psn syndrome : Nat) (payload : List Nat) :
    (sendPkt s i opcode psn syndrome payload).xpt = s.xpt :=
  (keep_sendPkt (Sub.refl _) (Keeps.refl _ s)).same .xpt rfl

/-! ## Admit (R140, R141) -/

/-- A request that passes Admit, with its stage and tokens. -/
theorem admitPass_request {s : State} {id : Nat} {r : Req} (h : reqAt s id = some r) :
    reqAt (admitPass s r) id = some { r with
      stage := if r.kind = .send ∨ r.returned then .place else .translate
      tokens := r.tokens + (if r.tokens = 0 then r.needs else 0), returned := false } :=
  (reqAt_congr (showAdmit_xpt _ _) id).trans (reqAt_setReq_of (x := r) h rfl)

theorem doAdmit_passes {s : State} {id : Nat} {r : Req} (h : reqAt s id = some r) (hp : admitHold s r = .passes) :
    doAdmit id s = admitPass s r := by
  simp only [doAdmit, h, hp]

/-- What Admit lets pass: a request that nothing of its QP holds, with a rein and its tokens. -/
theorem admitHold_passes {s : State} {r : Req} (hs : r.stage = .admitting) (hh : servesHosts s = true) (hb : behind s r = false)
    (hret : r.returned = false) (hrein : r.kind = .send ∨ between s r.qp < win s (pipeOf r.lport))
    (htok : r.needs = 0 ∨ hostTokens s r.needs = true) : admitHold s r = .passes := by
  have h1 : ¬(r.stage ≠ .admitting ∨ !servesHosts s) := by simp [hs, hh]
  have h2 : ¬(r.kind ≠ .send ∧ win s (pipeOf r.lport) ≤ between s r.qp) := by
    rintro ⟨hk, hw⟩
    exact hrein.elim hk (Nat.not_lt.2 hw)
  have h3 : ¬(r.tokens = 0 ∧ r.needs ≠ 0 ∧ !hostTokens s r.needs) := by
    rintro ⟨-, hn, ht⟩
    exact htok.elim hn (by simpa using ht)
  simp only [admitHold, h1, hb, h2, hret, h3, if_false, Bool.false_eq_true, false_and]

/-! ## Translate (R83, R104) -/

/-- A request that the access check grants: counted for its region (R87). -/
def granted (s : State) (r : Req) : State :=
  let i := bits r.rkey 10 14
  setReq { s with trn := { s.trn with inflight := s.trn.inflight.ins i (s.trn.inflight.get i 0 + 1) } } { r with passed := true, region := i }

/-- The parts of a request whose rkey names its region. -/
def partsOf (s : State) (r : Req) : List Part :=
  let g := regionAt s (bits r.rkey 10 14)
  if r.kind = .flush then [] else readParts (r.len / 4096 + 2) (g.sapage * 4096 + (r.va - g.vabase)) r.len 0

/-- The lookups of a request's extents, and whether all of them hit. -/
def lookups (s : State) (r : Req) (parts : List Part) : State × Bool :=
  parts.foldl (fun (a : State × Bool) x =>
    let h := hostLookup a.1 (pipeOf r.lport) (x.spage / 512)
    (h.1, a.2 && h.2)) (s, true)

theorem doTranslate_granted {s : State} {id : Nat} {r : Req} (h : reqAt s id = some r) (hs : r.stage = .translate)
    (hp : r.passed = false) (hb : badEntry s (regAddr (bits r.rkey 10 14)) = false)
    (hc : accessCause s (qpAt s r.qp).tenant r.rkey r.va r.len r.kind = 0)
    (hhit : (lookups (granted s r) r (partsOf s r)).2 = true) (hlen : (partsOf s r).length ≠ 2) :
    doTranslate id s = setReq (lookups (granted s r) r (partsOf s r)).1
      { r with stage := .place, passed := true, region := bits r.rkey 10 14, parts := partsOf s r } := by
  have hno : ¬(r.stage ≠ .translate) := not_not_intro hs
  have hnb : ¬((!r.passed) = true ∧ badEntry s (regAddr (bits r.rkey 10 14)) = true) := by simp [hb]
  have hpass : ¬(r.passed = true) := by simp [hp]
  simp only [doTranslate, h, if_neg hno, if_neg hnb, if_neg hpass, if_neg (not_not_intro hc)]
  refine (if_pos hhit).trans (congrArg (setReq · _) (if_neg ?_))
  exact fun hw => hlen hw.2

theorem reqAt_granted {s : State} {id : Nat} {r : Req} (h : reqAt s id = some r) :
    reqAt (granted s r) id = some { r with passed := true, region := bits r.rkey 10 14 } :=
  reqAt_setReq_of (x := r) h rfl

theorem granted_inflight (s : State) (r : Req) :
    (granted s r).trn.inflight.get (bits r.rkey 10 14) 0 = s.trn.inflight.get (bits r.rkey 10 14) 0 + 1 :=
  (Sparse.get_ins ..).trans (if_pos rfl)

/-- A lookup that the first level answers is a hit. -/
theorem hostLookup_hits {s : State} {p e : Nat} (h : (l1Find s p e).isSome = true) : (hostLookup s p e).2 = true := by
  obtain ⟨i, hi⟩ := Option.isSome_iff_exists.1 h
  simp only [hostLookup, hi]

theorem hostLookup_xpt (s : State) (p e : Nat) : (hostLookup s p e).1.xpt = s.xpt :=
  (keep_hostLookup (Sub.refl _) (Keeps.refl _ s)).same .xpt rfl

/-- The lookups leave the requests alone. -/
theorem lookups_xpt (s : State) (r : Req) (parts : List Part) : (lookups s r parts).1.xpt = s.xpt := by
  unfold lookups
  generalize true = b
  induction parts generalizing s b with
  | nil => rfl
  | cons x xs ih => exact (ih ..).trans (hostLookup_xpt ..)

/-- A translated request, as it goes to Place. -/
theorem reqAt_translated {s : State} {id : Nat} {r : Req} (h : reqAt s id = some r) (parts : List Part) :
    reqAt (setReq (lookups (granted s r) r parts).1
      { r with stage := .place, passed := true, region := bits r.rkey 10 14, parts }) id =
      some { r with stage := .place, passed := true, region := bits r.rkey 10 14, parts } :=
  reqAt_setReq_of (x := { r with passed := true, region := bits r.rkey 10 14 })
    ((reqAt_congr (lookups_xpt ..) id).trans (reqAt_granted h)) rfl

/-! ## Place (R158) -/

section Place

variable {s : State} {id : Nat} {r : Req} (h : reqAt s id = some r) (hs : r.stage = .place) (hh : heldByWrite s r = false)
  (hm : r.mst = false)
include h hs hh hm

/-- The last packet of a SEND pushes its message into the command ring; the earlier ones are done. -/
theorem doPlace_send (hk : r.kind = .send) : doPlace id s =
    if r.last then setReq (ringPush s r.qp { payload := r.payload, imm := r.imm }) { r with stage := .done }
    else setReq s { r with stage := .done } := by
  have hw : r.writes = false := by simp [Req.writes, hk]
  simp [doPlace, h, hs, hh, hm, hw, hk]

theorem doPlace_flush (hk : r.kind = .flush) : doPlace id s = settle s id := by
  have hw : r.writes = false := by simp [Req.writes, hk]
  simp [doPlace, h, hs, hh, hm, hw, hk]

end Place

/-! ## Answer (R138, R155) -/

section Answer

variable {s : State} {i : Nat} {r : Req} (h : reqsOf s i = [r]) (hdup : r.dup = false)
include h hdup

/-- Without an executed READ sent again, Answer goes through the QP's requests in order. -/
theorem doAnswer_single : doAnswer i s = answerRun 1 i false s := by
  have hd : answerDups s i = s := by simp [answerDups, h, hdup]
  rw [doAnswer, hd, h]; rfl

/-- A done request at the head of its QP: one without a response of its own makes the ACK due. -/
theorem answerRun_head (hs : r.stage = .done) (hm : r.mst = false) : answerRun 1 i false s =
    if r.silent then ackDue (answerOne s r) i (ackNow (answerOne s r) r) else answerOne s r := by
  have hf : (reqsOf s i).filter (fun r => !r.dup) = [r] := by simp [h, hdup]
  simp only [answerRun, hf, hs, hm, Bool.not_false, and_self, if_true, Bool.false_or]
  rfl

end Answer

/-- An ACK takes the horizon into the context and ends the wait of what it acknowledges (R138). -/
theorem sendAck_acknowledges (s : State) (i psn : Nat) :
    (sendAck s i psn).xpt.unacked.has i = false ∧ (qpAt (sendAck s i psn) i).lastack = psn % 2 ^ 24 := by
  refine ⟨?_, ?_⟩
  · exact congrArg Option.isSome ((Sparse.find?_del ..).trans (if_pos rfl))
  · have hq := qpAt_congr (sendPkt_xpt (modQp s i (fun q => { q with lastack := psn % 2 ^ 24, credit := qpCredit (qpAt s i) })) i 0x11 psn
      (qpCredit (qpAt s i)) []) i
    exact congrArg Qp.lastack (hq.trans (qpAt_modQp_self ..))

/-! ## The rein loop (R140) -/

/-- A channel queue at the upper threshold halves the window, down to its floor. -/
theorem doReinLoopTick_halves {s : State} {p : Fin 4} {share : Nat} (ha : awake s = true) (hf : s.on R.XPT_REIN_FREEZE 0 p = false)
    (hi : s.rd R.XPT_REINTH_HI 0 p ≤ share) :
    (doReinLoopTick p share s).rd R.XPT_REINSTAT_WIN 0 p = max (s.rd R.XPT_REIN_MIN 0 p) (win s p / 2) % 256 := by
  have hfloor : ∀ (u : State) (v : Nat), (u.wr R.XPT_REINSTAT_FLOOR v 0 p).rd R.XPT_REINSTAT_WIN 0 p = u.rd R.XPT_REINSTAT_WIN 0 p :=
    fun u v => rd_wr_other _ _ _ _ _ _ _ _ (by simp only [Fld.key, R.XPT_REINSTAT_WIN, R.XPT_REINSTAT_FLOOR]; omega)
  have hon : ¬(s.on R.XPT_REIN_FREEZE 0 p = true ∨ (!awake s) = true) := by simp [hf, ha]
  simp only [doReinLoopTick, if_neg hon, if_pos (Or.inl hi)]
  split
  · rw [rd_raise, hfloor]; exact rd_wr_self ..
  · rw [hfloor]; exact rd_wr_self ..

/-! ## The statement -/

/-- Settles O37, stage by stage: what Admit passes (`admitHold_passes`), what Translate grants (`doTranslate_granted`), what Place and
Answer do with a request that nothing holds, and what an ACK and a full queue leave. -/
theorem requestStagesAct : Obligations.RequestStagesAct := by
  refine ⟨?send, ?write, ?denied, ?flush, ?onePage, ?placeSend, ?placeLast, ?placeFlush, ?line, ?answer, ?silent, ?delay, ?rein⟩
  case send =>
    intro s id r h hs hh hb hk hret hn
    refine ⟨_, next_eq (doAdmit_passes h (admitHold_passes hs hh hb hret (.inl hk) (.inl hn))), ?_⟩
    rw [admitPass_request h]
    simp [hk, hn]
  case write =>
    intro s id r h hs hh hb hk hret hw ht hn
    refine ⟨_, next_eq (doAdmit_passes h (admitHold_passes hs hh hb hret (.inr hw) (.inr hn))), ?_⟩
    rw [admitPass_request h]
    simp [hk, hret, ht]
  case denied =>
    rintro s id c r h hs hp hb rfl hc
    exact next_eq (doTranslate_denied h hs hp hb hc)
  case flush =>
    intro s id r h hs hp hb hc hk
    have hparts : partsOf s r = [] := if_pos hk
    have ht := doTranslate_granted h hs hp hb hc (by rw [hparts]; rfl) (by simp [hparts])
    rw [hparts] at ht
    refine ⟨_, next_eq ht, ?_, granted_inflight s r⟩
    rw [reqAt_translated h]; rfl
  case onePage =>
    intro s id r x h hs hp hb hc hk hparts hl1
    replace hparts : partsOf s r = [x] := (if_neg hk).trans hparts
    have hhit : (lookups (granted s r) r (partsOf s r)).2 = true := by
      rw [hparts]
      exact (Bool.true_and _).trans (hostLookup_hits (s := granted s r) hl1)
    refine ⟨_, next_eq (doTranslate_granted h hs hp hb hc hhit (by simp [hparts])), ?_⟩
    rw [reqAt_translated h, hparts]; rfl
  case placeSend =>
    intro s id r h hs hh hm hk hl
    exact next_eq ((doPlace_send h hs hh hm hk).trans (if_neg (by simp [hl])))
  case placeLast =>
    intro s id r h hs hh hm hk hl
    exact next_eq ((doPlace_send h hs hh hm hk).trans (if_pos hl))
  case placeFlush =>
    intro s id r h hs hh hm hk hparts
    refine ⟨_, next_eq (doPlace_flush h hs hh hm hk), ?_⟩
    rw [settle_ends h hs (.inl (by simp [hparts]))]; rfl
  case line =>
    intro s l err reader ha hl
    exact next_eq (if_neg (by simp [ha, hl]))
  case answer =>
    intro s i r h hs hm hd hr
    exact next_eq ((doAnswer_single h hd).trans ((answerRun_head h hd hs hm).trans (if_neg (by simp [hr]))))
  case silent =>
    intro s i r h hs hm hd hr
    exact next_eq ((doAnswer_single h hd).trans ((answerRun_head h hd hs hm).trans (if_pos hr)))
  case delay =>
    intro s i h
    exact ⟨_, next_eq (if_pos h), sendAck_acknowledges s i _⟩
  case rein =>
    intro s p share ha hf hi
    exact ⟨_, rfl, doReinLoopTick_halves ha hf hi⟩

end Sys2Proof.Proofs
end

section
/-! PROOFS. The update port, the hopper and the translation levels (R105, R107 to R111). -/

namespace Sys2Proof.Proofs

open Sys2Proof Sys2Proof.Machine Sys2Proof.Laws

/-! ## The update port (R107, R108) -/

section UpdatePort

variable {s : State} (ha : awake s = true) (hr : s.running 25 = true)
include ha hr

/-- An address that is no multiple of the update's size is refused. -/
theorem doTrnUpdate_misaligned
    (hm : (s.rd R.TRN_UPDADDRL_ADDR * 8 + s.rd R.TRN_UPDADDRH_ADDR * 2 ^ 32) % (8 * 2 ^ s.rd R.TRN_UPDCTL_SIZE) ≠ 0) :
    doTrnUpdate s = s.wr R.TRN_UPDSTAT_UPDREFUSED 1 :=
  (if_neg (by simp [ha, hr])).trans (if_pos (.inl hm))

/-- An update within the map is the port's last. -/
theorem doTrnUpdate_queued
    (hm : (s.rd R.TRN_UPDADDRL_ADDR * 8 + s.rd R.TRN_UPDADDRH_ADDR * 2 ^ 32) % (8 * 2 ^ s.rd R.TRN_UPDCTL_SIZE) = 0)
    (he : s.rd R.TRN_UPDADDRL_ADDR * 8 + s.rd R.TRN_UPDADDRH_ADDR * 2 ^ 32 + 8 * 2 ^ s.rd R.TRN_UPDCTL_SIZE ≤ mapEnd s * 2097152) :
    ∃ u : State, doTrnUpdate s = { u with trn := { u.trn with updq := u.trn.updq ++ [.port] } } :=
  ⟨_, (if_neg (by simp [ha, hr])).trans (if_neg (not_or.2 ⟨not_not_intro hm, Nat.not_lt.2 he⟩))⟩

end UpdatePort

/-- The port's only update, none being held, is complete. -/
theorem updateOver_port {s : State} (hq : s.trn.updq = [.port]) (hh : s.trn.held = []) :
    updateOver s = ({ s with trn := { s.trn with updq := [] } } : State).wr R.TRN_UPDSTAT_UPDBUSY 0 := by
  have hover : updOver s .port = true := by simp [updOver, hh]
  have hf : s.trn.updq.find? (updOver s) = some .port := by rw [hq, List.find?_cons_of_pos hover]
  simp only [updateOver, hf]
  rw [hq]
  rfl

/-- Where no promotion waits, none goes on. -/
theorem retryWaiting_none {s : State} (h : s.tie.waiting = []) : retryWaiting s = s := by rw [retryWaiting, h]; rfl

/-! ## Fills of the second level (R110) -/

section Fill

variable {s : State} {e : Nat} {f : Fill} (h : s.trn.fills.find? (fun f => f.extent / 2 = e / 2) = some f)
include h

theorem doSecondLevelFillReturn_dropped (hd : f.dropped = true) : doSecondLevelFillReturn e s =
    takeHeld { s with trn := { s.trn with fills := s.trn.fills.filter (fun x => x.extent / 2 ≠ e / 2) } } e := by
  simp only [doSecondLevelFillReturn, h, hd, if_true]

theorem doSecondLevelFillReturn_installed (hd : f.dropped = false) (hs : f.stale = false) : doSecondLevelFillReturn e s =
    takeHeld (l2Install { s with trn := { s.trn with fills := s.trn.fills.filter (fun x => x.extent / 2 ≠ e / 2) } }
      f.extent f.streaming) e := by
  simp only [doSecondLevelFillReturn, h, hd, hs, Bool.false_eq_true, if_false]

end Fill

/-! ## The statement -/

/-- Settles O35: each command's guard is open and names the branch; an update ends alone (`updateOver_port`). -/
theorem translationCommandsAct : Obligations.TranslationCommandsAct := by
  refine ⟨?misaligned, ?queued, ?complete, ?hopper, ?l1, ?l2, ?dropped, ?installed, ?ages⟩
  case misaligned =>
    intro s ha hr hm
    exact next_eq (doTrnUpdate_misaligned ha hr hm)
  case queued =>
    intro s ha hr hm he
    obtain ⟨u, hu⟩ := doTrnUpdate_queued ha hr hm he
    exact ⟨_, next_eq hu, List.getLast?_concat⟩
  case complete =>
    intro s hq hh hw ha
    have ht := updateOver_port hq hh
    refine ⟨_, next_eq ((if_pos ha).trans ((congrArg retryWaiting ht).trans (retryWaiting_none hw))), rfl, rd_wr_self ..⟩
  case hopper =>
    intro s ha
    exact ⟨_, next_eq (if_neg (by simp [ha])), rfl⟩
  case l1 =>
    intro s ha
    exact ⟨_, next_eq (if_neg (by simp [ha])), rfl⟩
  case l2 =>
    intro s ha
    exact ⟨_, next_eq (if_neg (by simp [ha])), rfl⟩
  case dropped =>
    intro s e f h hd
    exact next_eq (doSecondLevelFillReturn_dropped h hd)
  case installed =>
    intro s e f h hd hs
    exact next_eq (doSecondLevelFillReturn_installed h hd hs)
  case ages =>
    intro s ha hf
    exact next_eq (if_neg (by simp [ha, hf]))

end Sys2Proof.Proofs
end

section
/-! PROOFS. Pairing messages, the return and map operations between the sides (R86, R180, R202 to R204, R212, R213, R431). -/

namespace Sys2Proof.Proofs

open Sys2Proof Sys2Proof.Machine Sys2Proof.Laws

/-! ## HELLO and its answer (R202) -/

/-- The HELLO of the other side, kept. -/
def heard (s : State) (h : Hello) : State := { s with twn := { s.twn with hello := some h, peerWmin := h.wmin } }

section Hello

variable {s : State} {tag : Nat} {h : Hello} (hv : visilUp s = true) (ht : tstate s = 1) (htag : tag < 32768)
include hv ht htag

theorem hello_taken : ¬(!visilUp s ∨ !(decide (tstate s = 1) || decide (tstate s = 3)) ∨ 32768 ≤ tag) := by
  simp [hv, ht, Nat.not_le.2 htag]

/-- Two sides with one side number refuse each other. -/
theorem doHelloMsg_equal_side (hs : h.side = mySide s) : doHelloMsg tag h s =
    pairRefused (twinSend (heard s h) (.helloAnswer tag 15 2 (min (myHello s).level h.level) s.log.pairId s.log.pgen)) 15 2 h.pairId :=
  (if_neg (hello_taken hv ht htag)).trans (if_pos hs)

/-- SIDE1 waits for SIDE0's decision. -/
theorem doHelloMsg_side1 (hs : h.side ≠ mySide s) (hm : mySide s ≠ 0) : doHelloMsg tag h s = heard s h :=
  (if_neg (hello_taken hv ht htag)).trans ((if_neg hs).trans (if_pos hm))

/-- SIDE0 of an identified pair answers with its decision, unless it is FRESH, and acts on it. -/
theorem doHelloMsg_side0 {dec reason : Nat} (hs : h.side ≠ mySide s) (hm : mySide s = 0)
    (hdec : decision (myHello s) h = (dec, reason)) (hd : dec ≠ 0) (hp : s.log.pairId ≠ 0) : doHelloMsg tag h s =
    actOn (twinSend (heard s h) (.helloAnswer tag dec reason (min (myHello s).level h.level) s.log.pairId s.log.pgen)) dec reason
      (min (myHello s).level h.level) s.log.pairId s.log.pgen h := by
  refine (if_neg (hello_taken hv ht htag)).trans ((if_neg hs).trans ((if_neg (not_not_intro hm)).trans ?_))
  simp only [hdec, hd, hp, false_and, if_false]
  rfl

end Hello

theorem doHelloAnswer_acts {s : State} {tag : Nat} {h : Hello} (dec reason level pairId pgen : Nat) (hv : visilUp s = true)
    (ht : tstate s = 1 ∨ tstate s = 3) (htag : tag < 32768) (hh : s.twn.hello = some h) :
    doHelloAnswer tag dec reason level pairId pgen s = actOn s dec reason level pairId pgen h := by
  simp only [doHelloAnswer, hh]
  exact if_pos ⟨hv, ht, htag⟩

/-- A decision to reconcile starts reconciliation at the level agreed (R214). -/
theorem actOn_reconciles {s : State} (reason level pairId pgen : Nat) (h : Hello) (ht : tstate s = 1) :
    actOn s 1 reason level pairId pgen h = reconStart { s with twn := { s.twn with peerWmin := h.wmin, runLevel := level } } :=
  if_pos ht

/-! ## The return (R213) -/

theorem doStateSpanreq_waits {s : State} {tag pgen : Nat} (hv : visilUp s = true) (ht : tstate s = 5) (hr : isReturner s = true)
    (htag : tag < 32768) (hp : pgen < 2 ^ 64) (hd : s.dev ≠ .serving) :
    doStateSpanreq tag pgen s = showGate { s with twn := { s.twn with spanReq := true } } := by
  refine (if_neg ?_).trans ((if_pos hr).trans (if_neg ?_))
  · simpa [hv, ht, Nat.not_le.2 htag] using hp
  · rintro ⟨hserving, -⟩
    exact hd ((showGate_dev _).symm.trans hserving)

/-! ## Map operations (R86, R180, R431) -/

section MapRequest

variable {s : State} (hl : pairLinked s = true) (hlead : isLead s = true) (hf : fwUp s = true)
include hl hlead hf

theorem mapRequest_register (tag : Nat) (words : List Nat) (hd : drbgOk s = true) :
    mapRequest s (.mapop tag 4 0 0 0 words) = regReq s tag (regionOf words) :=
  (if_neg (by simp [hl, hlead])).trans ((if_neg (by simp [hf])).trans (if_pos hd))

/-- The rkey travels in the upper half of the first word. -/
theorem mapRequest_deregister (tag : Nat) {rkey : Nat} (hk : rkey < 2 ^ 32) :
    mapRequest s (.mapop tag 5 0 0 0 [rkey % 2 ^ 32 * 2 ^ 32, 0]) = deregReq s tag rkey := by
  refine (if_neg (by simp [hl, hlead])).trans ((if_neg (by simp [hf])).trans (congrArg (deregReq s tag) ?_))
  show rkey % 2 ^ 32 * 2 ^ 32 / 2 ^ 32 % 2 ^ 32 = rkey
  omega

end MapRequest

/-- The twin's success ends the command that waits for it, where its wait is a deregistration's or a deallocation's. -/
theorem mapDone_ends {s : State} {tag : Nat} {w : MapWait} (index rkey : Nat)
    (hw : s.twn.waits.find? (fun x => x.tag = tag && x.kind ≠ 4 && x.kind ≠ 7) = some w) (hk : w.kind = 2 ∨ w.kind = 3) :
    mapDone s tag 0 index rkey = cmdDone { s with twn := { s.twn with waits := s.twn.waits.filter (· ≠ w) } } w.entry := by
  simp only [mapDone, hw]
  rcases hk with hk | hk <;> rw [hk] <;> rfl

/-! ## The statement -/

/-- Settles O42, message by message: the link is up, and the twin state and the roles name the branch. -/
theorem twinPairingMessagesAct : Obligations.TwinPairingMessagesAct := by
  refine ⟨?equal, ?side1, ?side0, ?reconcile, ?answer, ?pendlist, ?ready, ?spanreq, ?spanok, ?spandone, ?depart, ?regionSet, ?extentSet,
    ?dealloc, ?regreq, ?registers, ?deregisters, ?ends, ?deregreq, ?done⟩
  case equal =>
    intro s tag h hv ht htag hs
    exact next_eq (doHelloMsg_equal_side hv ht htag hs)
  case side1 =>
    intro s tag h hv ht htag hs hm
    exact next_eq (doHelloMsg_side1 hv ht htag hs hm)
  case side0 =>
    intro s tag dec reason h hv ht htag hs hm hdec hd hp
    exact next_eq (doHelloMsg_side0 hv ht htag hs hm hdec hd hp)
  case reconcile =>
    intro s tag reason level pairId pgen h hv ht htag hh
    exact next_eq ((doHelloAnswer_acts 1 reason level pairId pgen hv (.inl ht) htag hh).trans (actOn_reconciles _ _ _ _ _ ht))
  case answer =>
    intro s tag dec reason level pairId pgen h hv ht htag hh
    exact next_eq (doHelloAnswer_acts dec reason level pairId pgen hv ht htag hh)
  case pendlist =>
    intro s tag pages hv ht hs hc htag
    exact next_eq ((if_pos ⟨hv, ht, hs, hc, htag⟩).trans (if_pos rfl))
  case ready =>
    intro s tag pgen hv ht hr htag hp
    exact ⟨_, next_eq (if_pos ⟨hv, ht, hr, htag, hp⟩), tstate_setTState s 5⟩
  case spanreq =>
    intro s tag pgen hv ht hr htag hp hd
    exact next_eq (doStateSpanreq_waits hv ht hr htag hp hd)
  case spanok =>
    intro s tag pgen hv ht hs hq htag hp
    exact next_eq (if_pos ⟨hv, ht, hs, hq, htag, hp⟩)
  case spandone =>
    intro s tag pgen hv ht hr htag
    exact next_eq (if_pos ⟨hv, ht, hr, htag⟩)
  case depart =>
    intro s tag cause hv htag hc
    exact next_eq (if_pos ⟨hv, htag, hc⟩)
  case regionSet =>
    intro s tag index words hm hi
    refine next_eq ((if_pos hm).trans ?_)
    rw [Nat.mod_eq_of_lt hi]
  case extentSet =>
    intro s tag extent words hm
    exact next_eq (if_pos hm)
  case dealloc =>
    intro s tag extent count hm
    exact next_eq (if_pos hm)
  case regreq =>
    intro s tag words hv
    exact next_eq (if_pos hv)
  case registers =>
    intro s tag words hv hl hlead hf hd
    exact next_eq ((if_pos hv).trans (mapRequest_register hl hlead hf tag words hd))
  case deregisters =>
    intro s tag rkey hv hl hlead hf hk
    exact next_eq ((if_pos hv).trans (mapRequest_deregister hl hlead hf tag hk))
  case ends =>
    intro s tag index rkey w hv hw hk
    exact next_eq ((if_pos hv).trans (mapDone_ends index rkey hw hk))
  case deregreq =>
    intro s tag rkey hv
    exact next_eq (if_pos hv)
  case done =>
    intro s tag result index rkey hv
    exact next_eq (if_pos hv)

end Sys2Proof.Proofs
end

section
/-! PROOFS. Tier D and its policy (R98, R223, R225, R226, R232, R233, R236, R239, R240, R352). -/

namespace Sys2Proof.Proofs

open Sys2Proof Sys2Proof.Machine Sys2Proof.Laws

/-! ## Fills (R239) -/

section Fill

variable {s : State} {p start : Nat} (rd : CwRead) (h : s.tie.fills.find? p = some start)
include h

/-- A fill of a page that is FILLING no longer is left to `fillInstall`, which discards it. -/
theorem fillArrived_late (hp : (pageFrame s p).pstate ≠ .filling) : fillArrived p rd s = fillInstall s p (cwAt s (storeAt s p)) := by
  simp only [fillArrived, h]
  exact if_pos hp

/-- A readable codeword is deciphered and installed. -/
theorem fillArrived_readable {u : State} (hp : (pageFrame s p).pstate = .filling) (hs : (storeAt s p).sstate = 1)
    (hd : readDie s (storeAt s p).ch (storeAt s p).die = some u) (hq : (readCw u (storeAt s p) rd false).2 < 2) :
    fillArrived p rd s = fillInstall ((readCw u (storeAt s p) rd false).1.bump C.XTS_DECUNITS) p (cwAt s (storeAt s p)) := by
  simp only [fillArrived, h, hd]
  exact (if_neg (not_not_intro hp)).trans ((if_neg (not_not_intro hs)).trans (if_pos hq))

end Fill

/-! ## Returned requests (R240) -/

/-- May Admit offer a request to pipeline `p` again: returned, with a park slot and quota room? -/
def offered (s : State) (p : Fin 4) (r : Req) : Bool :=
  r.returned && r.stage = .admitting && pipeOf r.lport = p.val &&
    decide ((s.xpt.reqs.filter (fun x => pipeOf x.lport = p.val && x.parts.any (fun y => y.st = .parked))).length < 4096) &&
    decide (parkedOf s (qpAt s r.qp).tenant < (tenantAt s (qpAt s r.qp).tenant).parklim)

/-- The oldest such request goes to Place; without one nothing changes. -/
theorem doParkRoomFreed_eq {s : State} {p : Fin 4} (ha : awake s = true) : doParkRoomFreed p s =
    (s.xpt.reqs.find? (offered s p)).elim s (fun r => setReq s { r with stage := .place, returned := false }) := by
  refine (if_neg (by simp [ha])).trans ?_
  unfold offered
  split
  case h_1 r h => rw [h]; rfl
  case h_2 h => rw [h]; rfl

/-! ## Cleaning and write-backs (R98, R223, R236, R352) -/

theorem tierActs_serving {s : State} (hd : s.dev = .serving) : tierActs s = true := by simp [tierActs, hd]

section Writeback

variable {s : State} {ref : Nat} {r : OpenRow} {e : RowEnt} (ha : awake s = true) (ho : s.stf.open_ = some r)
  (he : r.ents.find? (fun e => e.what = 1 && e.ref = ref) = some e) (hp : r.programming = true)
include ha ho he hp

theorem doWritebackVerified_ends :
    doWritebackVerified ref s = entDone { s with stf := { s.stf with open_ := some (padOut r e) } } e := by
  refine (if_neg (by simp [ha])).trans ?_
  simp only [ho, he, hp]

/-- A write-back of a map page or of a grain is reissued, its entry in the row a pad, its member retired. -/
theorem doWritebackProgramFailed_reissues (hr : ref % 3 ≠ 0)
    (hc : cleanedAgain { s with stf := { s.stf with open_ := some (padOut r e) } } ref = false) :
    doWritebackProgramFailed ref s = retireMember
      { s with stf := { s.stf with open_ := some (padOut r e), cleanQ := s.stf.cleanQ ++ [(ref, e.word)] } } r.sb e.loc.ch
      (Config.payloadCode 0x3440 0) := by
  refine (if_neg (by simp [ha])).trans ?_
  simp only [ho, he, hp, hc, Bool.false_eq_true, if_false]
  split
  case h_1 h0 _ => exact absurd h0 hr
  case h_2 => rfl

end Writeback

/-! ## The pool clock (R232) -/

/-- The clock leaves a group whose extent the pool does not hold. -/
theorem visitGroup_leaves {s : State} {g : Nat} {x : Group} (h : s.tie.groups.find? g = some x) (hd : s.dev = .serving)
    (hr : s.running 23 = true)
    (hp : poolExtent (heatVisit { s with tie := { s.tie with press := pressure s } } x.extent) x.extent = false) :
    visitGroup g s = (fun t : State => { t with tie := { t.tie with groups := t.tie.groups.ins g { x with seen := t.tie.tick } } })
      (heatVisit { s with tie := { s.tie with press := pressure s } } x.extent) := by
  simp only [visitGroup, h]
  exact (if_neg (by simp [tierActs_serving hd, hr])).trans (if_pos (.inl (by simp [hp])))

/-! ## Tenants and policy rows (R226, R233) -/

/-- The words that software wrote for an operation are no part of the register that starts it. -/
theorem rd_tendata_tenCtl (op : Nat) (i : Fin 1024) (s : State) (k : Nat) : (tenCtl op i s).rd R.TIE_TENDATA k = s.rd R.TIE_TENDATA k := by
  have hop : R.TIE_TENDATA.key k 0 ≠ R.TIE_TENCTL_OP.key 0 0 := by simp only [Fld.key, R.TIE_TENDATA, R.TIE_TENCTL_OP]; omega
  have hix : R.TIE_TENDATA.key k 0 ≠ R.TIE_TENCTL_INDEX.key 0 0 := by simp only [Fld.key, R.TIE_TENDATA, R.TIE_TENCTL_INDEX]; omega
  exact (rd_wr_other _ _ _ _ _ _ _ _ hix).trans (rd_wr_other _ _ _ _ _ _ _ _ hop)

theorem cmdStat_cmdRun (s : State) (e : Nat) : cmdStat (cmdRun s e) e = { state := 1, code := 0, progress := 0 } := by
  simp [cmdStat, cmdRun, setCmd]

/-- A command that fails keeps its progress (R38). -/
theorem cmdStat_cmdFail (s : State) (e code : Nat) :
    cmdStat (cmdFail s e code) e = { state := 3, code := code % 256, progress := (cmdStat s e).progress } := by
  simp [cmdStat, cmdFail, setCmd]

theorem cmdStat_raise (s : State) (code : Nat) (payload : List Nat) (e : Nat) : cmdStat (raise s code payload) e = cmdStat s e := by
  rw [cmdStat, raise_dic]; rfl

/-- A table that fits waits for TIE's quiet point, and its edit shadow is empty. -/
def tenantTaken (s : State) (m : Sparse Tenant) : State :=
  { s with tie := { s.tie with tenEdit := [], tenPend := some m }, dic := { s.dic with owners := s.dic.owners.del 2 } }

theorem doTenantCommit_takes {s : State} (ha : awake s = true) (hr : s.running 23 = true) (hb : tenantBad (tenantShadow s) = none)
    (hq : quotaSum (tenantShadow s) + s.rd R.TIE_HIWATER_HIWATER ≤ dataGroups s) :
    doTenantCommit true s = cmdDone (tenantTaken (cmdRun s (ekey 0x2510 0x0B)) (tenantShadow s)) (ekey 0x2510 0x0B) := by
  refine (if_neg (by simp [ha])).trans ?_
  simp only [hb, if_true]
  refine (if_neg (Nat.not_lt.2 hq)).trans (congrArg (cmdDone · _) ?_)
  exact if_pos hr

theorem doTenantCommit_fails {s : State} {i : Nat} (ha : awake s = true) (hb : tenantBad (tenantShadow s) = some i) :
    doTenantCommit true s = cmdFail (raise (cmdRun s (ekey 0x2510 0x0B)) 0x1D80 [Config.payloadCode 0x1D80 1, i, 7])
      (ekey 0x2510 0x0B) stRange := by
  refine (if_neg (by simp [ha])).trans ?_
  simp only [hb, if_true]

/-! ## The statement -/

/-- Settles O44, command by command: the guard is open, and the lemma of the command names the branch that it takes. -/
theorem tierAndTenantActs : Obligations.TierAndTenantActs := by
  refine ⟨?late, ?readable, ?offered, ?idle, ?clean, ?cleanMap, ?verified, ?failed, ?heat, ?pool, ?write, ?read, ?commit, ?badTable,
    ?rebuilt, ?policy⟩
  case late =>
    intro s p start rd h hp ha
    exact next_eq ((if_pos ha).trans (congrArg (fun t => retryHeld (retryWaiting t)) (fillArrived_late rd h hp)))
  case readable =>
    rintro s p start rd u q h hp hs hd rfl hq ha
    exact next_eq ((if_pos ha).trans (congrArg (fun t => retryHeld (retryWaiting t)) (fillArrived_readable rd h hp hs hd hq)))
  case offered =>
    intro s p r h ha
    exact next_eq ((doParkRoomFreed_eq ha).trans (congrArg (Option.elim · s _) h))
  case idle =>
    intro s p h ha
    exact next_eq ((doParkRoomFreed_eq ha).trans (by rw [h]; rfl))
  case clean =>
    intro s p hd hr hn
    exact next_eq ((if_neg (by simp [tierActs_serving hd, hr])).trans (if_pos hn))
  case cleanMap =>
    intro s f hd hr
    exact next_eq (if_neg (by simp [tierActs_serving hd, hr]))
  case verified =>
    intro s ref r e ho he hp ha
    exact next_eq (doWritebackVerified_ends ha ho he hp)
  case failed =>
    intro s ref r e ho he hp hr hc ha
    exact next_eq (doWritebackProgramFailed_reissues ha ho he hp hr hc)
  case heat =>
    intro s hf hr ha
    exact next_eq ((if_neg (by simp [ha])).trans (if_neg (by simp [hf, hr])))
  case pool =>
    intro s g x h hd hr hp ha
    exact next_eq ((if_pos ha).trans (congrArg retryWaiting (visitGroup_leaves h hd hr hp)))
  case write =>
    intro s i ha
    refine ⟨_, next_eq (if_neg (by simp [ha])), ?_⟩
    simp only [rd_tendata_tenCtl]
    exact (Sparse.find?_ins ..).trans (if_pos rfl)
  case read =>
    intro s i ha
    exact next_eq (if_neg (by simp [ha]))
  case commit =>
    intro s ha hr hb hq
    exact ⟨_, next_eq (doTenantCommit_takes ha hr hb hq), rfl, rfl, cmdStat_cmdDone ..⟩
  case badTable =>
    intro s i ha hb
    refine ⟨_, next_eq (doTenantCommit_fails ha hb), ?_⟩
    rw [cmdStat_cmdFail, cmdStat_raise, cmdStat_cmdRun]
  case rebuilt =>
    intro s hr ha
    exact next_eq (if_pos ⟨ha, hr⟩)
  case policy =>
    intro s ha hf
    exact ⟨_, next_eq ((if_neg (by simp [ha])).trans (if_pos hf)), cmdStat_cmdDone ..⟩

end Sys2Proof.Proofs
end

section
/-! PROOFS. Packets at the ports, and the contexts of their QPs (R123, R126, R129, R130, R131, R133). -/

namespace Sys2Proof.Proofs

open Sys2Proof Sys2Proof.Machine Sys2Proof.Laws

/-! ## A frame at a port that serves (R119, R133) -/

/-- A frame counted at its port, whatever its checks find. -/
def frameCounted (s : State) (lport : Nat) (k : Packet) : State :=
  (s.bump C.PRT_RXFRAMES 1 (lport % 4) (lport / 4)).bump C.PRT_FECCORR k.fecCorr (lport % 4) (lport / 4)

/-- A RoCE packet counted at its port and in its pipeline. -/
def packetCounted (s : State) (lport : Nat) (k : Packet) : State := (frameCounted s lport k).bump C.XPT_RXPKT 1 0 (lport / 4)

/-- A packet counted, and the context of its QP used. -/
def contextUsed (s : State) (i lport : Nat) (k : Packet) : State := cacheUse (packetCounted s lport k) i

theorem addressed_frameCounted (s : State) (l lport : Nat) (j k : Packet) :
    addressed (frameCounted s lport j) l k = addressed s l k := rfl

theorem frameAccepted {s : State} {lport : Nat} {k : Packet} (hf : k.fcsOk = true) (ha : addressed s lport k = true)
    (hr : k.roce = true) : ¬(!k.fcsOk ∨ !addressed (frameCounted s lport k) lport k ∨ !k.roce) := by
  simp [hf, addressed_frameCounted, ha, hr]

section Receive

variable {s : State} {lport : Nat} {k : Packet} (hd : s.dev = .serving) (hu : portUp s lport = true)
  (ht : s.takes (30 + lport / 4) = true)
include hd hu ht

theorem portReceives : ¬(s.dev ≠ .serving ∨ !portUp s lport ∨ !s.takes (30 + pipeOf lport)) := by simp [hd, hu, pipeOf, ht]

theorem doPacketReceive_dropped (h : k.fcsOk = false ∨ addressed s lport k = false ∨ k.roce = false) :
    doPacketReceive lport k s = dropFrame (frameCounted s lport k) lport := by
  have hbad : !k.fcsOk ∨ !addressed (frameCounted s lport k) lport k ∨ !k.roce := by simpa [addressed_frameCounted] using h
  exact (if_neg (portReceives hd hu ht)).trans (if_pos hbad)

variable (hf : k.fcsOk = true) (ha : addressed s lport k = true) (hr : k.roce = true)
include hf ha hr

theorem doPacketReceive_badIcrc (hc : k.icrcOk = false) :
    doPacketReceive lport k s = (packetCounted s lport k).bump C.PRT_ICRCERR 1 (lport % 4) (lport / 4) :=
  (if_neg (portReceives hd hu ht)).trans ((if_neg (frameAccepted hf ha hr)).trans (if_pos (by simp [hc])))

/-- A request packet of a responder QP goes to the QP's context where it is cached, else to the miss buffer. -/
theorem doPacketReceive_responder {i : Nat} (hc : k.icrcOk = true) (ho : k.opcode < 0x0D) (hq : k.dqp = 0x40000 + i)
    (hi : i < 0x40000) : doPacketReceive lport k s =
      if s.xpt.cache.has i then withContext (packetCounted s lport k) i lport k else missPacket (packetCounted s lport k) i lport k := by
  have hqp : k.dqp - 0x40000 = i := by omega
  refine (if_neg (portReceives hd hu ht)).trans ((if_neg (frameAccepted hf ha hr)).trans ((if_neg (by simp [hc])).trans ?_))
  rw [if_neg (by omega), if_neg (by omega), if_neg (by omega), if_neg (by omega), if_neg (by omega), hqp]
  rfl

end Receive

/-! ## A SEND of one packet (R135, R139; Table 4.3) -/

/-- A request takes its number and its start from the state alone. -/
theorem mkReq_congr {s t : State} (hn : t.xpt.nextReq = s.xpt.nextReq) (ht : t.now = s.now) (i lport : Nat) (q : Qp) (k : Packet)
    (kind : ReqKind) : mkReq t i lport q k kind = mkReq s i lport q k kind := by simp only [mkReq, hn, ht]

theorem msgAfter_epsn (q : Qp) (k : Packet) : (msgAfter q k).epsn = q.epsn := by
  simp only [msgAfter, apply_ite Qp.epsn, ite_self]

/-- A context that an expected PSN brings back into sequence. -/
def inSequence (q : Qp) : Qp := { q with seqerr := false }

/-- The request of a new packet. -/
def newReq (s : State) (i lport : Nat) (k : Packet) (kind : ReqKind) : Req :=
  mkReq (setQp s i (inSequence (qpAt s i))) i lport (inSequence (qpAt s i)) k kind

/-- The context behind a new packet and its request: the message goes on, the PSNs are taken, and an access of check 11 counts. -/
def qpBehind (q : Qp) (k : Packet) (r : Req) : Qp :=
  { msgAfter (inSequence q) k with
    epsn := ((msgAfter (inSequence q) k).epsn + r.npsn) % 2 ^ 24
    rdinfl := if r.readAtomic then (msgAfter (inSequence q) k).rdinfl + 1 else (msgAfter (inSequence q) k).rdinfl }

/-- The state behind a new packet whose checks pass: its PSNs are taken, and its request stands at Admit. -/
def requestTaken (s : State) (i lport : Nat) (k : Packet) (kind : ReqKind) : State :=
  let r := newReq s i lport k kind
  showAdmit (pushReq (setQp (setQp s i (inSequence (qpAt s i))) i (qpBehind (qpAt s i) k r)) r) (pipeOf lport)

theorem requestTaken_reqs (s : State) (i lport : Nat) (k : Packet) (kind : ReqKind) :
    (requestTaken s i lport k kind).xpt.reqs = s.xpt.reqs ++ [mkReq s i lport (inSequence (qpAt s i)) k kind] := by
  rw [requestTaken, showAdmit_xpt, newReq, mkReq_congr (s := s) rfl rfl]; rfl

theorem requestTaken_epsn (s : State) (i lport : Nat) (k : Packet) (kind : ReqKind) :
    (qpAt (requestTaken s i lport k kind) i).epsn =
      ((qpAt s i).epsn + psnCount (inSequence (qpAt s i)) k) % 2 ^ 24 := by
  have hq : qpAt (requestTaken s i lport k kind) i = qpBehind (qpAt s i) k (newReq s i lport k kind) :=
    (qpAt_congr (showAdmit_xpt _ _) i).trans (Sparse.get_put_self ..)
  rw [hq, qpBehind, msgAfter_epsn]; rfl

/-- A new packet that passes checks 9 to 14 (Table 4.3), with room in the Admit buffer. -/
theorem newPacket_passes {s : State} {i lport : Nat} {k : Packet} {kind : ReqKind} (hk : opKind k.opcode = some kind)
    (h9 : check9 (inSequence (qpAt s i)) k = true) (h10 : check10 k = true)
    (h11 : ¬((newReq s i lport k kind).readAtomic ∧ (qpAt s i).rdatom ≤ (qpAt s i).rdinfl))
    (h13 : (qpAt s i).cmdch = true) (h14 : slotsClaimed s i < ringFree (qpAt s i))
    (hroom : admitBytes s (pipeOf lport) + (newReq s i lport k kind).bytes ≤ 1048576) :
    newPacket s i lport k = requestTaken s i lport k kind := by
  have hvalid : ¬(!check9 (inSequence (qpAt s i)) k ∨ !check10 k) := by simp [h9, h10]
  have hchannel : ¬((opSend k.opcode ∨ opImm k.opcode) ∧ !(qpAt s i).cmdch) := by simp [h13]
  have hring : ¬(needsSlot k ∧ ringFree (qpAt s i) ≤ slotsClaimed s i) := fun h => Nat.not_lt.2 h.2 h14
  have hfull : ¬(1048576 < admitBytes s (pipeOf lport) + (newReq s i lport k kind).bytes) := Nat.not_lt.2 hroom
  simp only [newPacket, hk]
  refine (if_neg hvalid).trans ((if_neg h11).trans ((if_neg hchannel).trans ((if_neg hring).trans ?_)))
  exact (if_neg fun h => hfull (of_decide_eq_true h.1)).trans (if_neg fun h => hfull (of_decide_eq_true h))

/-- Check 9 of a SEND Only: between messages, within the path MTU and 4 KiB. -/
theorem check9_sendOnly {q : Qp} {k : Packet} (ho : k.opcode = 4) (hm : q.msg = 0) (hl : k.payload.length ≤ mtu q)
    (hb : q.sendBuf.length + k.payload.length ≤ 4096) : check9 q k = true := by
  have hkind : opKind 4 = some .send := rfl
  simp only [check9, ho, hkind]
  simp [opFirst, opLast, hm, hl, hb]

theorem psnCount_sendOnly {q : Qp} {k : Packet} (ho : k.opcode = 4) : psnCount q k = 1 := if_neg (by omega)

theorem qpAt_contextUsed (s : State) (i lport : Nat) (k : Packet) (j : Nat) : qpAt (contextUsed s i lport k) j = qpAt s j := rfl

theorem admitBytes_contextUsed (s : State) (i lport : Nat) (k : Packet) (p : Nat) :
    admitBytes (contextUsed s i lport k) p = admitBytes s p := rfl

theorem mkReq_contextUsed (s : State) (i lport : Nat) (k j : Packet) (n l : Nat) (q : Qp) (kind : ReqKind) :
    mkReq (contextUsed s i lport k) n l q j kind = mkReq s n l q j kind := mkReq_congr rfl rfl ..

/-- An unmarked packet with the expected PSN, of a QP that serves and has nothing in the pipeline, is a new packet. -/
theorem parsePacket_expected {s : State} {i lport : Nat} {k : Packet} (ho : k.opcode ≠ 0x81) (hs : serves (qpAt s i) = true)
    (hk : k.pkey = (qpAt s i).pkey) (hc : k.ce = false) (hp : k.psn = (qpAt s i).epsn) (hreq : reqsOf s i = []) :
    parsePacket s i lport k = newPacket (cacheUse s i) i lport k := by
  have hreq' : reqsOf (cacheUse s i) i = [] := hreq
  simp [parsePacket, ho, hs, hk, hc, hp, hreq']

section SendOnly

variable {s : State} {i lport : Nat} {k : Packet} (ho : k.opcode = 4) (hreq : reqsOf s i = []) (hm : (qpAt s i).msg = 0)
  (hlen : k.payload.length ≤ mtu (qpAt s i)) (hb : (qpAt s i).sendBuf.length + k.payload.length ≤ 4096)
  (hch : (qpAt s i).cmdch = true) (hf : ringFree (qpAt s i) ≠ 0)
  (ha : admitBytes s (lport / 4) + (mkReq s i lport (qpAt s i) k .send).bytes ≤ 1048576)
include ho hreq hm hlen hb hch hf ha

theorem newPacket_sendOnly : newPacket s i lport k = requestTaken s i lport k .send := by
  have hkind : opKind k.opcode = some .send := by rw [ho]; rfl
  have hslots : slotsClaimed s i = 0 := by simp [slotsClaimed, hreq]
  have hbytes : (newReq s i lport k .send).bytes = (mkReq s i lport (qpAt s i) k .send).bytes := by
    simp only [newReq, inSequence, Req.bytes, mkReq]
  exact newPacket_passes hkind (check9_sendOnly ho hm hlen hb) (by simp only [check10, hkind])
    (by simp [newReq, mkReq, Req.readAtomic]) hch (hslots ▸ Nat.pos_of_ne_zero hf) (hbytes ▸ ha)

/-- On its QP's port, unmarked and with the expected PSN, such a packet makes a request. -/
theorem withContext_sendOnly (hl : (qpAt s i).lport = lport) (hs : serves (qpAt s i) = true) (hk : k.pkey = (qpAt s i).pkey)
    (hc : k.ce = false) (hp : k.psn = (qpAt s i).epsn) :
    withContext (packetCounted s lport k) i lport k = requestTaken (contextUsed s i lport k) i lport k .send := by
  refine (if_pos (Or.inl hl)).trans ((parsePacket_expected (s := packetCounted s lport k) (by omega) hs hk hc hp hreq).trans ?_)
  refine newPacket_sendOnly (s := contextUsed s i lport k) ho hreq hm hlen hb hch hf ?_
  rwa [admitBytes_contextUsed, qpAt_contextUsed, mkReq_contextUsed]

end SendOnly

/-! ## Context fetches (R126, R129) -/

theorem showMisses_xpt (s : State) : ((List.range 4).foldl showMiss s).xpt = s.xpt := rfl

/-- Without a held packet and without a CNP-list entry no fetch follows one that ended. -/
theorem nextFetch_idle {s : State} (p : Nat) (hh : s.xpt.held = []) (hl : s.xpt.cnpList = []) : nextFetch s p = s := by
  simp [nextFetch, hh, hl]

/-- Without a held packet a release shows the miss buffers only. -/
theorem releaseHeld_none {s : State} (i : Nat) (h : s.xpt.held = []) : (releaseHeld s i).xpt = s.xpt := by
  unfold releaseHeld
  rw [h]
  exact congrArg (fun l => { s.xpt with held := l }) h.symm

/-- A fetch ended, before what waited for it. -/
def fetchEnded (s : State) (i : Nat) : State := { s with xpt := { s.xpt with fetches := s.xpt.fetches.del i } }

/-- Contexts in tier D, or tier H up: the fetch fills the cache, and what it held is released. -/
theorem doContextFetchDone_fills {s : State} {i : Nat} {f : Fetch} (h : s.xpt.fetches.find? i = some f)
    (hr : cacheRoom s f.port = true) (hloc : s.rd R.XPT_CTXCFG_LOC ≠ 2)
    (hup : s.rd R.XPT_CTXCFG_LOC = 0 ∨ s.rd R.TIE_STAT_HSTATE = 1) :
    doContextFetchDone i s = nextFetch (releaseHeld (cacheFill (fetchEnded s i) i f.port) i) f.port := by
  have hok : ¬(fetchesH s i = true ∧ s.rd R.TIE_STAT_HSTATE ≠ 1) := by
    rcases hup with h0 | h1
    · simp [fetchesH, h0]
    · simp [h1]
  simp only [doContextFetchDone, h]
  rw [if_pos ⟨hr, by simp only [hok, decide_false, Bool.not_false]⟩, if_neg hloc]
  rfl

/-- A fill that replaces nothing changes the cache alone. -/
theorem cacheFill_free {s : State} (i : Nat) {p : Nat} (h : replaceable s p = none) :
    (cacheFill s i p).xpt = { s.xpt with cache := s.xpt.cache.ins i { port := p, used := s.now } } := by
  simp [cacheFill, h]

theorem tierHFail_xpt (s : State) (page cause : Nat) : (tierHFail s page cause).xpt = s.xpt :=
  (keep_tierHFail (Sub.refl _) (Keeps.refl _ s)).same .xpt rfl

/-- With every context in tier H, a failed fetch that held no packet ends, and its context takes no mark. -/
theorem fetchFailed_noneHeld {s : State} (i p cause waited : Nat) (h : s.xpt.held = []) (hloc : s.rd R.XPT_CTXCFG_LOC = 1) :
    (fetchFailed s i p cause waited).xpt = (fetchEnded s i).xpt := by
  have hrest : ({ s.xpt with fetches := s.xpt.fetches.del i, held := [] } : Xpt) = (fetchEnded s i).xpt :=
    congrArg (fun l => { s.xpt with fetches := s.xpt.fetches.del i, held := l }) h.symm
  simp only [fetchFailed, h, List.find?_nil, hloc]
  rw [showMisses_xpt, if_neg (by decide), raise_xpt, bump_xpt, tierHFail_xpt, hrest]

/-- Such a fetch that tier H ends is given up, and none follows it. -/
theorem doContextFetchTimeout_givesUp {s : State} {i : Nat} {f : Fetch} (byError : Bool) (h : s.xpt.fetches.find? i = some f)
    (hloc : s.rd R.XPT_CTXCFG_LOC = 1) (hh : s.xpt.held = []) (hl : s.xpt.cnpList = []) :
    doContextFetchTimeout i byError s = fetchFailed s i f.port (if byError then 0 else 2) (s.now - f.start) := by
  have hfail := fetchFailed_noneHeld i f.port (if byError then 0 else 2) (s.now - f.start) hh hloc
  have hheld := (congrArg Xpt.held hfail).trans hh
  have hH : ¬(!fetchesH s i) := by simp [fetchesH, hloc]
  simp only [doContextFetchTimeout, h, if_neg hH, hheld, List.find?_nil]
  exact nextFetch_idle _ hheld ((congrArg Xpt.cnpList hfail).trans hl)

/-! ## The CNP list (R130) -/

theorem txPacket_xpt (s : State) (l cls qp : Nat) (o : Out) : (txPacket s l cls qp o).xpt = s.xpt :=
  (keep_txPacket (Sub.refl _) (Keeps.refl _ s)).same .xpt rfl

theorem sendCnp_fetches (s : State) (i pipe : Nat) : (sendCnp s i pipe).xpt.fetches = s.xpt.fetches := by
  simp only [sendCnp, apply_ite State.xpt, txPacket_xpt]
  exact (apply_ite (fun x => Xpt.fetches x) _ _ _).trans (ite_self _)

/-! ## The statement -/

/-- Settles O36, command by command: the guards name the branch of Table 4.3 that a packet takes, and what waits for a fetch decides
what follows it. -/
theorem packetsAndContextsAct : Obligations.PacketsAndContextsAct := by
  refine ⟨?dropped, ?badIcrc, ?cached, ?missing, ?send, ?fetched, ?filled, ?givenUp, ?cnpSent, ?cnpAbandoned, ?moved⟩
  case dropped =>
    intro s lport k hd hu ht h
    exact next_eq (doPacketReceive_dropped hd hu ht h)
  case badIcrc =>
    intro s lport k hd hu ht hf ha hr hc
    exact next_eq (doPacketReceive_badIcrc hd hu ht hf ha hr hc)
  case cached =>
    intro s lport i k hd hu ht hf ha hr hc ho hq hi hctx
    exact next_eq ((doPacketReceive_responder hd hu ht hf ha hr hc ho hq hi).trans (if_pos hctx))
  case missing =>
    intro s lport i k hd hu ht hf ha hr hc ho hq hi hctx
    exact next_eq ((doPacketReceive_responder hd hu ht hf ha hr hc ho hq hi).trans (if_neg (by simp [hctx])))
  case send =>
    rintro s lport i k q hd hu ht hf ha hr hc ho hq hi hctx rfl hl hs hk hce hp hreq hm hlen hbuf hch hfree hadm
    refine ⟨requestTaken (contextUsed s i lport k) i lport k .send, next_eq ?_, ?_, ?_⟩
    · rw [doPacketReceive_responder hd hu ht hf ha hr hc (by omega) hq hi, if_pos hctx]
      exact withContext_sendOnly ho hreq hm hlen hbuf hch hfree hadm hl hs hk hce hp
    · rw [requestTaken_reqs, qpAt_contextUsed, mkReq_contextUsed]; rfl
    · rw [requestTaken_epsn, qpAt_contextUsed, psnCount_sendOnly ho]
  case fetched =>
    intro s i f h hr hloc hup
    exact next_eq (doContextFetchDone_fills h hr hloc hup)
  case filled =>
    intro s i f h hr hloc hh hl hfree
    have hfill := cacheFill_free (s := fetchEnded s i) i hfree
    have hheld : (cacheFill (fetchEnded s i) i f.port).xpt.held = [] := by rw [hfill]; exact hh
    have hrel := (releaseHeld_none i hheld).trans hfill
    refine ⟨_, next_eq (doContextFetchDone_fills h hr (by simp [hloc]) (.inl hloc)), ?_⟩
    rw [nextFetch_idle _ (by rw [hrel]; exact hh) (by rw [hrel]; exact hl), hrel]
    exact ⟨(Sparse.find?_ins ..).trans (if_pos rfl), rfl⟩
  case givenUp =>
    intro s i byError f h hloc hh hl
    refine ⟨_, next_eq (doContextFetchTimeout_givesUp byError h hloc hh hl), ?_⟩
    rw [fetchFailed_noneHeld _ _ _ _ hh hloc]
    exact ⟨rfl, hh⟩
  case cnpSent =>
    intro s p i h hf
    refine next_eq ((if_pos h).trans ?_)
    simp only [sendCnp_fetches, hf]
    rfl
  case cnpAbandoned =>
    intro s p i h
    exact next_eq (if_pos h)
  case moved =>
    rintro s i h hm rfl hr
    refine next_eq ?_
    simp [doLportMove, hm, hr]

end Sys2Proof.Proofs
end

section
/-! PROOFS. The requester's QPs, and the QP ports of XPT (R123, R127, R144, R145, R146, R149, R296). -/

namespace Sys2Proof.Proofs

open Sys2Proof Sys2Proof.Machine Sys2Proof.Laws

/-! ## The requester's QPs (R144, R145, R146, R296) -/

theorem rqAt_setRq_self (s : State) (i : Nat) (q : RqQp) : rqAt (setRq s i q) i = q := Sparse.get_put_self ..

/-- An acknowledgement of a packet in flight that no operation waits for: UPSN advances, and the retries and the timer start anew. -/
theorem doRequesterAck_advances {s : State} {i : Fin 16384} {psn : Nat} (data : List Nat) (ha : awake s = true)
    (hq : (rqAt s i).qstate = 3) (hout : (rqAt s i).outpkt ≠ 0) (hops : (rqAt s i).ops = []) (hlo : psnLe (rqAt s i).upsn psn = true)
    (hhi : psnLe psn (((rqAt s i).spsn + 2 ^ 24 - 1) % 2 ^ 24) = true) (hup : (psn + 1) % 2 ^ 24 ≠ (rqAt s i).upsn) :
    doRequesterAckReceived i psn data s = showMst (rqPump 256 i (setRq s i (rqCount { rqAt s i with
      ops := [], upsn := (psn + 1) % 2 ^ 24, retries := 0, rnrused := 0, rtocur := s.rd R.XPT_RTO_RTOINIT 0 (rqPipe (rqAt s i)) }))) := by
  simp only [doRequesterAckReceived, hops, ackedOps, List.drop_nil, List.head?_nil, List.foldl_nil]
  refine (if_neg (by simp [ha])).trans ((if_neg ?_).trans (if_neg hup))
  rw [hlo, hhi]
  simp [hq, hout]

section InFlight

variable {s : State} {i : Fin 16384} (ha : awake s = true) (hq : (rqAt s i).qstate = 3) (hout : (rqAt s i).outpkt ≠ 0)
include ha hq hout

theorem packetsInFlight : ¬(!awake s ∨ (rqAt s i).qstate ≠ 3 ∨ (rqAt s i).outpkt = 0) := by simp [ha, hq, hout]

theorem doRequesterTimeout_retries : doRequesterTimeout i s = rqRetry s i true := if_neg (packetsInFlight ha hq hout)

theorem doRequesterNak_seqError (psn : Nat) : doRequesterNakReceived i psn 0x60 s = rqRetry s i false :=
  (if_neg (packetsInFlight ha hq hout)).trans (if_pos rfl)

theorem doRequesterNak_fatal (psn : Nat) {syndrome : Nat} (hn : syndrome ≠ 0x60) : doRequesterNakReceived i psn syndrome s =
    showMst (rqError (raise s (0x10A0 + rqPipe (rqAt s i)) [0x80000 + i.val, psn, syndrome]) i syndrome) :=
  (if_neg (packetsInFlight ha hq hout)).trans (if_neg hn)

theorem doRequesterRnrNak_unlimited (hl : s.rd R.XPT_RTO_RNRRETRY 0 (rqPipe (rqAt s i)) = 7) :
    doRequesterRnrNak i s = setRq s i { rqAt s i with rnrWait := true } :=
  (if_neg (packetsInFlight ha hq hout)).trans (if_pos hl)

end InFlight

/-- Within the retry limit a retry is counted and the packets leave again. -/
theorem rqRetry_resends {s : State} {i : Nat} (double : Bool) (h : (rqAt s i).retries < s.rd R.XPT_RTO_RETRY 0 (rqPipe (rqAt s i))) :
    rqRetry s i double = rqResend (setRq (s.bump C.XPT_REQRETRY 1 0 (rqPipe (rqAt s i))) i { rqAt s i with
      retries := (rqAt s i).retries + 1
      rtocur := if double then min (2 * (rqAt s i).rtocur) (2 ^ 26 - 1) else (rqAt s i).rtocur }) i := if_pos h

/-- The first CNP of a QP cuts its rate. -/
theorem doRequesterCnp_cuts {s : State} {i : Fin 16384} (ha : awake s = true) (hq : (rqAt s i).qstate = 3)
    (hc : (rqAt s i).lastCut = none) : doRequesterCnp i s = setRq (s.bump C.XPT_CNPRX 1 0 (rqPipe (rqAt s i))) i { rqAt s i with
      rate := max 10 ((rqAt s i).rate * (256 - s.rd R.XPT_RP_CUT 0 (rqPipe (rqAt s i))) / 256), lastCut := some s.now } := by
  simp only [doRequesterCnp, hc]
  exact if_neg (by simp [ha, hq])

/-! ## The QP ports (R123, R127, R149) -/

/-- A context that Table 4.2 allows, for a QP that does not serve, is taken; without a cache entry it goes to the context area. -/
theorem doXptQpWrite_takes {s : State} {p : Fin 4} (ha : awake s = true) (hs : serves (qpAt s (qpIndex s p)) = false)
    (hb : qpBad s (qpOf (qpDataWords s p)) = false) : doXptQpWrite p s =
      showDoorbell (if s.xpt.cache.has (qpIndex s p) then setQp (qpRefused s p false) (qpIndex s p) (qpOf (qpDataWords s p))
        else writeBack (setQp (qpRefused s p false) (qpIndex s p) (qpOf (qpDataWords s p))) (qpIndex s p)) (qpIndex s p) :=
  (if_neg (by simp [ha])).trans (if_neg (by simp [hs, hb]))

theorem evictCtx_cache (s : State) (i : Nat) : (evictCtx s i).xpt.cache.find? i = none := by
  unfold evictCtx
  split
  case isTrue => exact (Sparse.find?_del ..).trans (if_pos rfl)
  case isFalse h => simpa [Sparse.has] using h

/-! ## The statement -/

/-- Settles O39, event by event: the guards name the branch, and the QP that was put reads back. -/
theorem requesterAndQpPortActs : Obligations.RequesterAndQpPortActs := by
  refine ⟨?ack, ?timeout, ?seqError, ?fatal, ?rnr, ?rnrEnd, ?cut, ?rise, ?writeArea, ?writeCached, ?writeRefused, ?read, ?toError,
    ?evict, ?inspect⟩
  case ack =>
    rintro s i psn data u ha hq hout hops hlo hhi hup rfl
    exact next_eq (doRequesterAck_advances data ha hq hout hops hlo hhi hup)
  case timeout =>
    intro s i ha hq hout hr
    exact next_eq ((doRequesterTimeout_retries ha hq hout).trans (rqRetry_resends true hr))
  case seqError =>
    intro s i psn ha hq hout hr
    exact next_eq ((doRequesterNak_seqError ha hq hout psn).trans (rqRetry_resends false hr))
  case fatal =>
    intro s i psn syndrome ha hq hout hn
    exact next_eq (doRequesterNak_fatal ha hq hout psn hn)
  case rnr =>
    intro s i ha hq hout hl
    exact next_eq (doRequesterRnrNak_unlimited ha hq hout hl)
  case rnrEnd =>
    intro s i ha hq hw
    exact next_eq (if_neg (by simp [ha, hq, hw]))
  case cut =>
    intro s i ha hq hc
    refine ⟨_, next_eq (doRequesterCnp_cuts ha hq hc), ?_⟩
    rw [rqAt_setRq_self]
    exact ⟨rfl, rfl⟩
  case rise =>
    intro s i ha hq
    refine ⟨_, next_eq (if_neg (by simp [ha, hq])), ?_⟩
    rw [rqAt_setRq_self]
  case writeArea =>
    rintro s p q ha hs rfl hb hc
    refine next_eq ((doXptQpWrite_takes ha hs hb).trans ?_)
    rw [if_neg (by simp [hc])]
  case writeCached =>
    rintro s p q ha hs rfl hb hc
    refine next_eq ((doXptQpWrite_takes ha hs hb).trans ?_)
    rw [if_pos hc]
  case writeRefused =>
    intro s p ha hs
    exact next_eq ((if_neg (by simp [ha])).trans (if_pos (.inl hs)))
  case read =>
    intro s p ha
    exact next_eq (if_neg (by simp [ha]))
  case toError =>
    intro s p ha
    exact next_eq (if_neg (by simp [ha]))
  case evict =>
    intro s p ha hr
    have hr' : (reqsOf (qpRefused s p false) (qpIndex s p)).isEmpty = true := List.isEmpty_iff.2 hr
    exact ⟨_, next_eq ((if_neg (by simp [ha])).trans (if_pos hr')), evictCtx_cache ..⟩
  case inspect =>
    intro s session ha
    exact next_eq (if_pos ha)

end Sys2Proof.Proofs
end

section
/-! PROOFS. Messages about pages on the Visil link (R158, R159, R160, R181, R186, R195, R198, R211, R234). -/

namespace Sys2Proof.Proofs

open Sys2Proof Sys2Proof.Machine Sys2Proof.Laws

/-! ## A message of a page that nothing holds back (R186, R195) -/

/-- A message that consumes what it is tried with frees the held ones to be tried again. -/
theorem pageMsg_consumed {s u : State} {m : Msg} (hh : s.twn.heldMsgs = []) (hm : tryMsg s m = (u, true)) :
    pageMsg s m = retryHeld u := by
  simp [pageMsg, hh, hm]

theorem doMirrorMsg_taken {s : State} (tag epoch spage off : Nat) (async : Bool) (data : List Nat) (hd : dataVc s = true)
    (hs : isSpan s = true ∨ isReturner s = true) :
    doMirrorMsg tag epoch spage off async data s = pageMsg s (.mirror tag epoch spage off async data) := if_pos ⟨hd, hs⟩

theorem doMirrorMsg_idle {s : State} (tag epoch spage off : Nat) (async : Bool) (data : List Nat) (hs : isSpan s = false)
    (hr : isReturner s = false) : doMirrorMsg tag epoch spage off async data s = s := if_neg (by simp [hs, hr])

theorem isSpan_of_tstate_ne {s : State} (h : tstate s ≠ 2) : isSpan s = false := decide_eq_false h

/-! ## Consumed messages -/

section Placement

variable {s : State} {spage : Nat} {q : State × Bool} {w : State × Nat}

/-- The next MIRROR of a page that is ready is placed and answered (R158, R195). -/
theorem tryMirror_places {tag epoch off : Nat} {data : List Nat} (ho : orderOf s spage epoch = .next) (ht : mirrorTokens s 1 = true)
    (hq : q = readyIn s spage) (hr : q.2 = true) (hw : w = partLines q.1 spage off data.length) (hp : w.2 ≠ 1) :
    tryMirror s tag epoch spage off data = (twinSend (placeIn w.1 spage off data epoch) (.placed tag epoch spage 0), true) := by
  subst hq hw
  simp [tryMirror, ho, ht, hr, hp]

/-- A FORWARD of a page that is not fenced is ordered, placed and answered (R159). -/
theorem tryForward_places {tag off : Nat} {data : List Nat} (hf : fenced s spage = false) (ht : mirrorTokens s 1 = true)
    (hq : q = readyIn s spage) (hr : q.2 = true) (hw : w = partLines q.1 spage off data.length) (hp : w.2 = 0) :
    tryForward s tag spage off data = (twinSend (placeData w.1 spage off data (nextEpoch w.1 spage))
      (.ordered tag (nextEpoch w.1 spage) spage 0 none), true) := by
  subst hq hw
  simp [tryForward, hf, ht, hr, hp]

/-- A FWD_ATOMIC of a page that is not fenced is executed on the word as placed, and answered with the old and the new one (R160). -/
theorem tryFwdAtomic_executes {tag line word arg swap old new : Nat} {fadd : Bool} (hf : fenced s spage = false)
    (ht : mirrorTokens s 1 = true) (hq : q = readyIn s spage) (hr : q.2 = true)
    (hw : w = partLines q.1 spage (64 * line + 8 * word) 8) (hp : w.2 = 0) (hold : old = wordAt w.1 spage (64 * line + 8 * word))
    (hnew : new = atomicNew fadd old arg swap) :
    tryFwdAtomic s tag spage line word fadd arg swap =
      (twinSend (placeData w.1 spage (64 * line + 8 * word) (leBytes new 8) (nextEpoch w.1 spage))
        (.ordered tag (nextEpoch w.1 spage) spage 0 (some (new, old))), true) := by
  subst hq hw hold hnew
  simp [tryFwdAtomic, hf, ht, hr, hp]

/-- The next ORDERED of a page is placed from the forward buffer, and ends its forward (R195, R197). -/
theorem tryOrdered_places {tag epoch : Nat} {atomic : Option (Nat × Nat)} {x : FwdEnt} (ho : orderOf s spage epoch = .next)
    (hx : s.twn.fwd.find? tag = some x) (ht : forwardToken s tag = true) (hq : q = readyIn s spage) (hr : q.2 = true)
    (hw : w = partLines q.1 spage x.off (orderedBytes x atomic).length) (hp : w.2 ≠ 1) :
    tryOrdered s tag epoch spage 0 atomic = (forwardEnds (placeIn w.1 spage x.off (orderedBytes x atomic) epoch) tag spage true
      ((atomic.map (·.2)).getD 0), true) := by
  subst hq hw
  simp [tryOrdered, ho, hx, ht, hr, hp]

end Placement

/-- A TREAD of a readable line is answered from the placed copy (R198). -/
theorem tryTread_answers {s : State} (tag : Nat) {spage line f : Nat} (hf : fenced s spage = false) (hu : usable s spage = true)
    (hfr : frameOf s spage = some f) (hl : lineFault s (64 * f + line) = none) : tryTread s tag spage line =
      (twinSend s (.treadData tag (pageEpoch s spage) spage line (dRead s (4096 * f + 64 * line) 64)), true) := by
  simp [tryTread, hf, hu, hfr, hl]

/-- A RESYNC_PAGE outside CATCHUP, for a page that is not fenced, installs the page and discards older messages held for it (R195). -/
theorem tryResync_installs {s u : State} (tag : Nat) {epoch spage poison : Nat} {zero : Bool} {data : List Nat} (ht : tstate s ≠ 4)
    (hi : installResync s spage epoch zero poison data = (u, true)) (hf : fenced u spage = false) :
    tryResync s tag epoch spage zero false poison data =
      (dropOld (twinSend { u.bump C.TWN_RESYNCRX with twn := { u.twn with
        reconPeer := u.twn.reconPeer.del spage, reconOwn := u.twn.reconOwn.del spage } }
        (.placed tag epoch spage 0)) spage epoch, true) := by
  have hf' : fenced (u.bump C.TWN_RESYNCRX) spage = false := hf
  simp [tryResync, ht, hi, hf']

/-! ## PLACED, and the answers of the twin's lines (R158, R173, R174, R198) -/

/-- A PLACED that no response waits on takes the pending count down, and exchanges go on. -/
theorem doPlacedMsg_unawaited {s : State} {tag epoch spage status : Nat} (hv : visilUp s = true) (he : epoch < 2 ^ 48)
    (hs : status ≤ 1) (hw : waitingPart (pendDone s spage 1 0) .placed tag = none) : doPlacedMsg tag epoch spage status s =
      (fun t : State => retryHeld (pairProgress { t with twn := { t.twn with asyncTags := t.twn.asyncTags.filter (· ≠ tag) } }))
        (pendDone s spage 1 0) := by
  have hw' (tags : List Nat) : waitingPart { pendDone s spage 1 0 with twn := { (pendDone s spage 1 0).twn with asyncTags := tags } }
      .placed tag = none := hw
  have hguard : ¬(!visilUp s ∨ 2 ^ 48 ≤ epoch ∨ 1 < status) := by simpa [hv, hs] using he
  refine (if_neg hguard).trans ?_
  simp only [hw']

/-- The TREAD of a line is no longer out. -/
def treadOver (s : State) (spage line : Nat) : State :=
  { s with twn := { s.twn with
    treads := s.twn.treads.filter (fun x => x ≠ (spage, line)), treadPipe := s.twn.treadPipe.del (64 * spage + line) } }

/-- TREAD_DATA repairs a line of a page that is not being fetched whole, at its home (R198). -/
theorem treadDataIn_repairs {s u : State} {spage line f : Nat} (epoch : Nat) {data : List Nat} (ht : treading s spage line = true)
    (hf : frameOf s spage = some f) (hp : s.twn.treadPipe.find? (64 * spage + line) = none)
    (hu : u = lineSound (dWrite (treadOver s spage line) (4096 * f + 64 * line) (data.take 64)) (64 * f + line))
    (hfill : (pageFrame u spage).pstate ≠ .filling) (hh : isHome u spage = true) :
    treadDataIn s epoch spage line data = retryHeld (unfetch (raise u 0x1920 [spage, line]) spage) := by
  subst hu
  simp only [treadDataIn, ht, hf, hp]
  have hhome := (isHome_raise _ 0x1920 [spage, line] spage).trans hh
  exact (if_neg hfill).trans (congrArg (fun t => retryHeld (unfetch t spage)) (if_pos hhome))

/-- TREAD_FAIL poisons a line of a page that is not being fetched whole (R174). -/
theorem treadFailIn_poisons {s : State} {spage line f : Nat} (ht : treading s spage line = true) (hf : frameOf s spage = some f)
    (hfill : (pageFrame s spage).pstate ≠ .filling) : treadFailIn s spage line =
      retryHeld (unfetch (writePoison (treadOver s spage line) (64 * f + line) 1) spage) := by
  simp only [treadFailIn, ht, hf]
  exact if_neg hfill

/-! ## Movements (R181, R234) -/

theorem moveIn_promotes {s : State} (tag : Nat) {extent : Nat} (pages : Nat) (hg : (extentAt s extent).ingroup = true) :
    moveIn s tag extent 1 pages = checkMove (promote (quotaRunAll s extent) extent pages true) extent := by
  simp [moveIn, hg]

theorem moveIn_demotes {s : State} (tag : Nat) {extent : Nat} (pages : Nat) (hg : (extentAt s extent).ingroup = true) :
    moveIn s tag extent 2 pages = checkMove (demote s extent true) extent := by
  simp [moveIn, hg]

theorem moveReqIn_demotes {s : State} (extent pages : Nat) (hd : decides s = true) : moveReqIn s extent 2 pages =
    chargeEmptied (setCharge s extent { chargeSet s extent with twin := false }) extent := by
  simp [moveReqIn, hd]

/-- MOVE_DONE without a refusal, the second of the two, ends the movement. -/
theorem moveDoneIn_ends {s : State} {extent : Nat} (kind : Nat) {mv : Movement} (ha : s.twn.alignWait.contains extent = false)
    (hm : s.tie.moves.find? extent = some mv) (hd : mv.selfDone = true) : moveDoneIn s extent kind 0 =
      endMove { s with tie := { s.tie with moves := s.tie.moves.ins extent { mv with twinDone := true } } } extent := by
  refine (if_neg fun h => Bool.false_ne_true (ha.symm.trans h.1)).trans ?_
  simp [hm, hd]

/-- The home sends a page that is not fenced. -/
theorem doPagepull_sends {s : State} {tag spage : Nat} (hv : visilUp s = true) (hd : s.twn.departed = false) (ht : tstate s ≠ 0)
    (htag : tag < 32768) (hf : fenced s spage = false) : doPagepull tag spage s = sendResync s spage false :=
  (if_neg (by simp [hv, hd, ht, htag])).trans (if_neg (by simp [hf]))

theorem doResyncPage_taken {s : State} (tag epoch spage : Nat) (zero fence : Bool) (poison : Nat) (data : List Nat)
    (hv : visilUp s = true) (hd : s.twn.departed = false) (ht : 1 ≤ tstate s) :
    doResyncPage tag epoch spage zero fence poison data s = reconStep (pageMsg s (.resyncPage tag epoch spage zero fence poison data)) :=
  if_pos ⟨hv, by simp [hd], ht⟩

/-! ## The statement -/

/-- Settles O41, message by message: the guard is open, and where a message is consumed the lemma of its try names what it does. -/
theorem twinPageMessagesAct : Obligations.TwinPageMessagesAct := by
  refine ⟨?mirror, ?forward, ?fwdAtomic, ?ordered, ?placed, ?move, ?movereq, ?movereqDemotes, ?movePromotes, ?moveDemotes, ?mirrorPlaced,
    ?forwardPlaced, ?atomicExecuted, ?orderedPlaced, ?treadAnswered, ?resyncInstalled, ?lineRepaired, ?linePoisoned, ?moveEnds, ?tread,
    ?treadData, ?treadFail, ?moveDone, ?pagepull, ?resyncPage, ?mirrorSolo, ?forwardSolo⟩
  case mirror =>
    intro s tag epoch spage off async data hd hs
    exact next_eq (doMirrorMsg_taken _ _ _ _ _ _ hd hs)
  case forward =>
    intro s tag spage off data hd hs
    exact next_eq (if_pos ⟨hd, hs⟩)
  case fwdAtomic =>
    intro s tag spage line word arg swap fadd hd hs
    exact next_eq (if_pos ⟨hd, hs⟩)
  case ordered =>
    intro s tag epoch spage result atomic hd hs
    exact next_eq (if_pos ⟨hd, hs⟩)
  case placed =>
    intro s tag epoch spage status hv he hs hw
    exact next_eq (doPlacedMsg_unawaited hv he hs hw)
  case move =>
    intro s tag extent kind pages hd hlo hhi
    exact next_eq (if_pos ⟨hd, hlo, hhi⟩)
  case movereq =>
    intro s tag extent kind pages hv hl hlead htag
    exact next_eq (if_pos ⟨hv, hl, hlead, htag⟩)
  case movereqDemotes =>
    intro s tag extent pages hv hl hlead htag hdec
    exact next_eq ((if_pos ⟨hv, hl, hlead, htag⟩).trans (moveReqIn_demotes extent pages hdec))
  case movePromotes =>
    intro s tag extent pages hd hg
    exact next_eq ((if_pos ⟨hd, by decide⟩).trans (congrArg retryHeld (moveIn_promotes tag pages hg)))
  case moveDemotes =>
    intro s tag extent pages hd hg
    exact next_eq ((if_pos ⟨hd, by decide⟩).trans (congrArg retryHeld (moveIn_demotes tag pages hg)))
  case mirrorPlaced =>
    intro s tag epoch spage off async data q w hd hs hh ho ht hq hr hw hp
    exact next_eq ((doMirrorMsg_taken _ _ _ _ _ _ hd hs).trans (pageMsg_consumed hh (tryMirror_places ho ht hq hr hw hp)))
  case forwardPlaced =>
    intro s tag spage off data q w hd hs hh hf ht hq hr hw hp
    exact next_eq ((if_pos ⟨hd, hs⟩).trans (pageMsg_consumed hh (tryForward_places hf ht hq hr hw hp)))
  case atomicExecuted =>
    intro s tag spage line word arg swap old new fadd q w hd hs hh hf ht hq hr hw hp hold hnew
    exact next_eq ((if_pos ⟨hd, hs⟩).trans (pageMsg_consumed hh (tryFwdAtomic_executes hf ht hq hr hw hp hold hnew)))
  case orderedPlaced =>
    intro s tag epoch spage atomic x q w hd hs hh ho hx ht hq hr hw hp
    exact next_eq ((if_pos ⟨hd, hs⟩).trans (pageMsg_consumed hh (tryOrdered_places ho hx ht hq hr hw hp)))
  case treadAnswered =>
    intro s tag spage line f hd hs hh hf hu hfr hl
    exact next_eq ((if_pos ⟨hd, hs⟩).trans (pageMsg_consumed hh (tryTread_answers tag hf hu hfr hl)))
  case resyncInstalled =>
    intro s tag epoch spage poison zero data u hv hd ht hh hi hf
    refine next_eq ((doResyncPage_taken _ _ _ _ _ _ _ hv hd (by omega)).trans (congrArg reconStep ?_))
    exact pageMsg_consumed hh (tryResync_installs tag (by omega) hi hf)
  case lineRepaired =>
    intro s tag epoch spage line f data u hv htag ht hfr hp hu hfill hh
    exact next_eq ((if_pos ⟨hv, htag⟩).trans (treadDataIn_repairs epoch ht hfr hp hu hfill hh))
  case linePoisoned =>
    intro s tag spage line cause f hv htag hc ht hfr hfill
    exact next_eq ((if_pos ⟨hv, htag, hc⟩).trans (treadFailIn_poisons ht hfr hfill))
  case moveEnds =>
    intro s tag extent kind mv hv htag ha hm hd
    exact next_eq ((if_pos ⟨hv, htag⟩).trans (congrArg retryWaiting (moveDoneIn_ends kind ha hm hd)))
  case tread =>
    intro s tag spage line hd hs
    exact next_eq (if_pos ⟨hd, hs⟩)
  case treadData =>
    intro s tag epoch spage line data hv htag
    exact next_eq (if_pos ⟨hv, htag⟩)
  case treadFail =>
    intro s tag spage line cause hv htag hc
    exact next_eq (if_pos ⟨hv, htag, hc⟩)
  case moveDone =>
    intro s tag extent kind result hv htag
    exact next_eq (if_pos ⟨hv, htag⟩)
  case pagepull =>
    intro s tag spage hv hd ht htag hf
    exact next_eq (doPagepull_sends hv hd ht htag hf)
  case resyncPage =>
    intro s tag epoch spage poison zero fence data hv hd ht
    exact next_eq (doResyncPage_taken _ _ _ _ _ _ _ hv hd ht)
  case mirrorSolo =>
    intro s tag epoch spage off data ht hr
    exact next_eq (doMirrorMsg_idle _ _ _ _ _ _ (isSpan_of_tstate_ne (by omega)) hr)
  case forwardSolo =>
    intro s tag spage off data ht
    exact next_eq (if_neg (by simp [isSpan_of_tstate_ne (s := s) (by omega)]))

end Sys2Proof.Proofs
end

section
/-! PROOFS. The Visil link: flits, replay, widths, retraining, heartbeats and training (R184, R185, R187 to R190, R202). -/

namespace Sys2Proof.Proofs

open Sys2Proof Sys2Proof.Machine Sys2Proof.Laws

/-! ## Flits (R184 to R186) -/

/-- An ACKSEQ drops kept flits and changes nothing else of the link. -/
theorem dropAcked_twn {β : Type} (g : Twn → β) (hg : ∀ w b, g { w with sentBuf := b } = g w) (s : State) (ack : Nat) :
    g (dropAcked s ack).twn = g s.twn := by
  unfold dropAcked
  split
  · exact hg _ _
  · rfl

theorem dropAcked_ctr (s : State) (ack : Nat) (c : Ctr) (i b : Nat) : (dropAcked s ack).ctr c i b = s.ctr c i b := by
  unfold dropAcked
  split <;> rfl

/-- What a header without NAK moves or must leave: the peer's acknowledgement, this side's own, and the messages that wait. -/
def ackView (w : Twn) : Nat × Nat × List Msg := (w.peerAck, w.ackseq, w.txq)

theorem ackView_ackIn (s : State) (ack : Nat) : ackView (ackIn s ack false).twn = (ack, s.twn.ackseq, s.twn.txq) := by
  refine (pump_twn ackView (fun _ _ _ _ _ _ _ => rfl) _).trans ((dropAcked_twn ackView (fun _ _ => rfl) _ _).trans ?_)
  split
  next h => exact congrArg (·, s.twn.ackseq, s.twn.txq) h.symm
  next => rfl

theorem ackIn_ctr {c : Ctr} {i b : Nat} (hc : c.key i b ≠ C.TWN_FLITTX.key 0 0) (s : State) (ack : Nat) :
    (ackIn s ack false).ctr c i b = s.ctr c i b := by
  refine (pump_ctr hc _).trans ((dropAcked_ctr _ _ _ _ _).trans ?_)
  split <;> rfl

/-- Credits that no message waits for are noted, and nothing leaves. -/
theorem creditsIn_unawaited {s : State} (vc n : Nat) (hq : s.twn.txq = []) : creditsIn s vc n =
    { s with twn := { s.twn with flits := true, used := s.twn.used.set vc (s.twn.used.getD vc 0 - n), txq := [] } } := by
  simp [creditsIn, releaseTx, hq]

/-- Of a good IDLE flit only the header says something. -/
theorem flitIn_idle {s : State} {f : List Nat} (hcrc : crc64 (f.take 504) = fld f 504 8) (hidle : bits (fld f 0 8) 60 4 = 0) :
    flitIn s f = creditsIn (ackIn (s.bump C.TWN_FLITRX) (bits (fld f 0 8) 36 12) (bit (fld f 0 8) 35))
      (bits (fld f 0 8) 33 2) (bits (fld f 0 8) 19 14) :=
  (if_neg (by simp [hcrc, hidle])).trans (if_pos (by simp [hidle]))

/-- A good IDLE flit without NAK, with no message waiting for credit, shows the peer's acknowledgement and counts. -/
theorem flitIn_idle_shows {s : State} {f : List Nat} (hcrc : crc64 (f.take 504) = fld f 504 8) (hidle : bits (fld f 0 8) 60 4 = 0)
    (hnak : bit (fld f 0 8) 35 = false) (hq : s.twn.txq = []) :
    (flitIn s f).twn.peerAck = bits (fld f 0 8) 36 12 ∧ (flitIn s f).twn.flits = true ∧ (flitIn s f).twn.ackseq = s.twn.ackseq ∧
      (flitIn s f).ctr C.TWN_FLITRX = (s.ctr C.TWN_FLITRX + 1) % 2 ^ 64 := by
  have hview := ackView_ackIn (s.bump C.TWN_FLITRX) (bits (fld f 0 8) 36 12)
  have htxq := (congrArg (·.2.2) hview).trans hq
  rw [flitIn_idle hcrc hidle, hnak, creditsIn_unawaited _ _ htxq]
  exact ⟨congrArg (·.1) hview, rfl, congrArg (·.2.1) hview, (ackIn_ctr (by decide) _ _).trans (ctr_bump_self ..)⟩

/-- A flit whose CRC fails is counted; only a DATA flit's loss asks for a replay. -/
theorem flitIn_corrupt {s : State} {f : List Nat} (hcrc : crc64 (f.take 504) ≠ fld f 504 8) (hdata : bits (fld f 0 8) 60 4 ≠ 1) :
    flitIn s f = s.bump C.TWN_CRCERR := (if_pos (.inl hcrc)).trans (if_neg hdata)

/-! ## Replay (R185, R190) -/

theorem replayAsked_resends {s : State} (h : s.twn.replays < s.rd R.TWN_LINKTIME_RPLIMIT) : replayAsked s =
    resendFlits ({ s with twn := { s.twn with replays := s.twn.replays + 1 } }.bump C.TWN_REPLAY) := if_neg (Nat.not_le.2 h)

/-! ## Widths (R187, R188, Table 6.3) -/

/-- The exchange of a width is over, and data may go on. -/
def exchangeOver (s : State) : State :=
  { s with twn := { s.twn with wOffer := none, wSwitch := none, adding := 0, txStop := false } }

/-- Fewer lanes than WMIN fault the link at the switch. -/
theorem doWidthSwitch_narrow {s : State} {m : Nat} (hv : visilUp s = true) (hm : s.twn.wSwitch = some m) (hw : lanesOf m < wmin s) :
    doWidthSwitch s = linkFault (exchangeOver s) 3 := by
  simp only [doWidthSwitch, hm]
  exact (if_neg (by simp [hv])).trans (if_pos hw)

/-- A switch to the lanes in use adds no lane and drops none: data resumes by replay. -/
theorem doWidthSwitch_same {s : State} {m : Nat} (hv : visilUp s = true) (hm : s.twn.wSwitch = some m)
    (ha : s.rd R.TWN_LANESTAT_ACTIVE = m) (hw : wmin s ≤ lanesOf m) :
    doWidthSwitch s = pump (resendFlits ((setWidth (exchangeOver s) m).bump C.TWN_REPLAY)) := by
  have hadded : (List.range 20).filter (fun l => bit m l && !bit m l) = [] := by simp
  have hdropped (t : State) : (List.range 20).filter (fun l => !bit m l && bit m l && !t.rbit R.TWN_PROBSTAT_PROBATION l) = [] := by
    simp
  simp only [doWidthSwitch, hm, ha, hadded, hdropped, List.foldl_nil]
  exact (if_neg (by simp [hv])).trans (if_neg (Nat.not_lt.2 hw))

/-! ## Retraining (Table 6.4) -/

/-- The link is up again after a retraining. -/
def retrained (s : State) : State := { s with twn := { s.twn with
  link := 1, attempt := 0, replays := 0, wOffer := none, wSwitch := none, txStop := false } }

/-- The lanes that a training might have used and that did not lock. -/
def lanesLost (s : State) (m : Nat) : List Nat := (List.range 20).filter (fun l => bit (trainable s) l && !bit m l)

theorem lt_of_mem_lanesLost {s : State} {m l : Nat} (h : l ∈ lanesLost s m) : l < 20 := List.mem_range.1 (List.mem_filter.1 h).1

section Retrain

variable {s : State} {mask : BitVec 20} {m : Nat} (hr : twnRuns s = true) (hl : s.twn.link = 2) (hw : s.twn.waitSince = none)
  (hm : m = mask.toNat &&& trainable s)
include hr hl hw hm

theorem doRetrainAttemptDone_up (hmin : wmin s ≤ lanesOf m) : doRetrainAttemptDone mask s =
    pump (resendFlits ((lanesLost s m).foldl probation ((setWidth (retrained s) m).bump C.TWN_REPLAY))) := by
  subst hm
  exact (if_pos ⟨hr, hl, hw⟩).trans (if_pos hmin)

theorem doRetrainAttemptDone_fails (hmin : lanesOf m < wmin s) (ha : s.twn.attempt < s.rd R.TWN_LINKTIME_RETRAINS) :
    doRetrainAttemptDone mask s = { s with twn := { s.twn with waitSince := some s.now } } := by
  subst hm
  exact (if_pos ⟨hr, hl, hw⟩).trans ((if_neg (Nat.not_le.2 hmin)).trans (if_pos ha))

end Retrain

/-- Resent flits and lanes in probation change nothing of the link but what headers tell, the flits kept, and what has passed. -/
theorem resumed_twn {β : Type} (g : Twn → β)
    (hg : ∀ w a n o f x b, g { w with ackTold := a, nakOut := n, owed := o, fseq := f, txSlots := x, sentBuf := b } = g w)
    (hp : ∀ w p, g { w with passed := p } = g w) (lost : List Nat) (s : State) :
    g (pump (resendFlits (lost.foldl probation s))).twn = g s.twn :=
  (pump_twn g hg _).trans ((resendFlits_twn g hg _).trans (foldl_probation_twn g hp lost s))

theorem rd_resumed {lost : List Nat} (hlost : ∀ l ∈ lost, l < 20) (s : State) {F : Fld}
    (hF : F = R.TWN_LANESTAT_WIDTH ∨ F = R.TWN_LANESTAT_ACTIVE ∨ F = R.TWN_LANECFG_WMIN) :
    (pump (resendFlits (lost.foldl probation s))).rd F = s.rd F :=
  (rd_pump _ F 0 0).trans ((rd_resendFlits _ F 0 0).trans (foldl_probation_link lost hlost s F hF))

/-! ## Heartbeats (R189) -/

/-- Where TWN_STATE shows that the heartbeat of a path lives. -/
def hbField (path : Fin 2) : Fld := if path.val = 0 then R.TWN_STATE_HBALIVE else R.TWN_STATE_HBBLIVE

theorem on_raise_wr_zero (s : State) (F : Fld) (code : Nat) (l : List Nat) : (raise (s.wr F 0) code l).on F = false := by
  simp [State.on]

/-- A live path that falls silent is shown so. -/
theorem heartbeatSilent_falls {s : State} (path : Fin 2) (hr : twnRuns s = true) (h : s.on (hbField path) = true) :
    ∃ t, exec (.heartbeatSilent path) s = .next t ∧ t.on (hbField path) = false :=
  ⟨_, next_eq (if_pos ⟨hr, h⟩), on_raise_wr_zero ..⟩

/-! ## Training (R202) -/

theorem coldLink_of_down {s : State} (hl : s.twn.link = 0) (ht : tstate s = 0 ∨ tstate s = 3) : coldLink s = true := by
  simpa [coldLink, hl] using ht

theorem doLinkTrainingAttempt_trains {s : State} (hp : pairable s = true) (hl : s.twn.link = 0) (ht : tstate s = 0 ∨ tstate s = 3) :
    doLinkTrainingAttempt s = s.emit (.ctrl 3 (s.rd R.TWN_LANECFG_LANEEN) 0) := by
  refine (if_pos ⟨hp, coldLink_of_down hl ht⟩).trans ?_
  rw [if_pos hl]

/-- A cold training ended with the lanes `m`: HELLO leaves. -/
def trainedLink (s : State) (m : Nat) : State :=
  withTag (setWidth { clearLink s with twn := { (clearLink s).twn with link := 1, peerWmin := 0, departed := false } } m)
    (fun n => .hello n (myHello s))

/-- From UNPAIRED a trained link leads to PAIRING (Table 6.9). -/
def pairingBegun (t : State) : State := if tstate t = 0 then setTState t 1 else t

theorem doLinkTrained_up {s : State} {mask : BitVec 20} (hp : pairable s = true) (hl : s.twn.link = 0)
    (ht : tstate s = 0 ∨ tstate s = 3) (hmin : s.rd R.TWN_LANECFG_WMIN ≤ lanesOf (mask.toNat &&& s.rd R.TWN_LANECFG_LANEEN)) :
    doLinkTrained mask s = pairingBegun (trainedLink s (mask.toNat &&& s.rd R.TWN_LANECFG_LANEEN)) :=
  if_pos ⟨hp, coldLink_of_down hl ht, hmin⟩

theorem pairingBegun_twn (t : State) : (pairingBegun t).twn = t.twn := by
  unfold pairingBegun
  split
  · exact setTState_twn _ _
  · rfl

theorem rd_pairingBegun (t : State) {F : Fld} (hF : F.key 0 0 ≠ R.TWN_STATE_TSTATE.key 0 0) : (pairingBegun t).rd F = t.rd F := by
  unfold pairingBegun
  split
  · exact rd_setTState _ _ _ _ _ (by decide) hF
  · rfl

/-- The HELLO that leaves changes neither the link's state nor the ACKSEQ. -/
theorem trainedLink_twn (s : State) (m : Nat) : ((trainedLink s m).twn.link, (trainedLink s m).twn.ackseq) = (1, 4095) :=
  withTag_twn (fun w => (w.link, w.ackseq)) (fun _ _ _ _ _ _ _ => rfl) (fun _ _ _ => rfl) (fun _ _ _ => rfl) (fun _ _ => rfl) _ _

theorem trainedLink_width (s : State) (m : Nat) : (trainedLink s m).rd R.TWN_LANESTAT_WIDTH = lanesOf m % 32 :=
  (rd_withTag ..).trans (setWidth_width _ _)

/-! ## The statement -/

/-- Settles O40, event by event: the link's state names the branch, and what leaves on the link keeps the fields that are read. -/
theorem visilLinkActs : Obligations.VisilLinkActs := by
  refine ⟨?flit, ?idle, ?corrupt, ?replay, ?replayLimit, ?laneFault, ?width, ?widthAck, ?narrow, ?same, ?probation, ?silence,
    ?retrained, ?retrainFails, ?retrainDelay, ?silentA, ?silentB, ?attempt, ?trained⟩
  case flit =>
    intro s bytes hv hn
    exact next_eq (if_pos ⟨hv, hn⟩)
  case idle =>
    rintro s bytes h hv hn rfl hcrc hidle hnak hq
    exact ⟨_, next_eq (if_pos ⟨hv, hn⟩), flitIn_idle_shows hcrc hidle hnak hq⟩
  case corrupt =>
    intro s bytes hv hn hcrc hdata
    exact next_eq ((if_pos ⟨hv, hn⟩).trans (flitIn_corrupt hcrc hdata))
  case replay =>
    intro s hv hr
    refine ⟨_, next_eq ((if_pos hv).trans (replayAsked_resends hr)), resendFlits_twn Twn.replays (fun _ _ _ _ _ _ _ => rfl) _, ?_⟩
    exact (resendFlits_ctr (by decide) _).trans (ctr_bump_self ..)
  case replayLimit =>
    intro s hv hr
    exact next_eq ((if_pos hv).trans (if_pos hr))
  case laneFault =>
    rintro s lane cause m hv ha rfl hw
    exact ⟨_, next_eq ((if_pos ⟨hv, ha⟩).trans (if_neg (Nat.not_lt.2 hw))), rfl, rfl, rfl, rfl⟩
  case width =>
    intro s mask hv
    exact ⟨_, next_eq (if_pos hv), rfl, rfl, rfl⟩
  case widthAck =>
    intro s mask hv ho
    exact next_eq (if_pos ⟨hv, ho⟩)
  case narrow =>
    intro s m hv hm hw
    exact next_eq (doWidthSwitch_narrow hv hm hw)
  case same =>
    intro s m hv hm ha hw
    refine ⟨_, next_eq (doWidthSwitch_same hv hm ha hw), (rd_resumed (lost := []) (by simp) _ (.inl rfl)).trans (setWidth_width _ _),
      resumed_twn Twn.wSwitch (fun _ _ _ _ _ _ _ => rfl) (fun _ _ => rfl) [] _,
      resumed_twn Twn.txStop (fun _ _ _ _ _ _ _ => rfl) (fun _ _ => rfl) [] _⟩
  case probation =>
    intro s lane hv hp he hf
    exact next_eq (if_pos ⟨hv, hp, he, hf⟩)
  case silence =>
    intro s hv
    exact next_eq (if_pos hv)
  case retrained =>
    intro s mask m hr hl hw hm hmin
    have hlost : ∀ l ∈ lanesLost s m, l < 20 := fun _ => lt_of_mem_lanesLost
    exact ⟨_, next_eq (doRetrainAttemptDone_up hr hl hw hm hmin),
      resumed_twn Twn.link (fun _ _ _ _ _ _ _ => rfl) (fun _ _ => rfl) _ _,
      resumed_twn Twn.attempt (fun _ _ _ _ _ _ _ => rfl) (fun _ _ => rfl) _ _,
      (rd_resumed hlost _ (.inl rfl)).trans (setWidth_width _ _),
      (rd_resumed hlost _ (.inr (.inl rfl))).trans (setWidth_active _ _)⟩
  case retrainFails =>
    intro s mask m hr hl hw hm hmin ha
    exact next_eq (doRetrainAttemptDone_fails hr hl hw hm hmin ha)
  case retrainDelay =>
    intro s hr hl hw
    exact next_eq (if_pos ⟨hr, hl, hw⟩)
  case silentA =>
    intro s hr h
    exact heartbeatSilent_falls 0 hr h
  case silentB =>
    intro s hr h
    exact heartbeatSilent_falls 1 hr h
  case attempt =>
    intro s hp hl ht
    exact next_eq (doLinkTrainingAttempt_trains hp hl ht)
  case trained =>
    intro s mask hp hl ht hmin
    have hlink := trainedLink_twn s (mask.toNat &&& s.rd R.TWN_LANECFG_LANEEN)
    refine ⟨_, next_eq (doLinkTrained_up hp hl ht hmin), ?_, ?_, (rd_pairingBegun _ (by decide)).trans (trainedLink_width _ _)⟩
    · rw [pairingBegun_twn]
      exact congrArg Prod.fst hlink
    · rw [pairingBegun_twn]
      exact congrArg Prod.snd hlink

end Sys2Proof.Proofs
end

section
/-! PROOFS. The pair's dictionary messages, reconciliation, catch-up and the operator's commands (R48, R50, R203, R204, R206, R211,
R213, R214, R216). -/

namespace Sys2Proof.Proofs

open Sys2Proof Sys2Proof.Machine Sys2Proof.Laws

/-! ## OPEN on a path (R48, R50, R54) -/

/-- A frame that DIC can take begins at once. -/
theorem frameIn_begins {s : State} {path : Nat} (src : Nat) (f : List Nat) (hr : dicReady s path) :
    frameIn s path src f = beginFrame s path src f := by
  obtain ⟨hawake, hheld, hup, hiso, hcur, -⟩ := hr
  simp [frameIn, hawake, hheld, hup, hiso, hcur]

theorem handleFrame_opens {f : List Nat} (s : State) (path src : Nat) (hm : malformed f = false) (hk : frameKind f = 1) :
    handleFrame s path src f = openFrame s path src f := by
  simp [handleFrame, hm, hk]

/-- The half-open session of an OPEN without a reset of another. -/
def opened (s : State) (path src : Nat) (f k : List Nat) : Session :=
  { path, role := (frameBody f).getD 0 0, nm := ((frameBody f).drop 4).take 16, nd := drawBytes s 16
    key := sessionKey k "AIDRIC-SK" (((frameBody f).drop 4).take 16) (drawBytes s 16) (allotSession s), lastTime := s.now, src
    replaces := none }

/-- The session is allotted, for a draw of the generator and the blocks of its key. -/
def allotted (s : State) (path src : Nat) (f k : List Nat) : State :=
  { tagBlocks (drawn s) 48 with dic := { s.dic with
    sessions := s.dic.sessions.ins (allotSession s) (opened s path src f k), opens := s.dic.opens + 1 } }

theorem deliver_dic (s : State) (path dst : Nat) (f : List Nat) : (deliver s path dst f).dic = s.dic :=
  (keep_deliver (Sub.refl _) (Keeps.refl _ s)).same .dic rfl

/-- After an answer no load of entries runs where none waits. -/
theorem extRun_deliver_dic {s : State} (h : s.dic.extPend = []) (path dst : Nat) (f : List Nat) :
    (extRun (deliver s path dst f)).dic = s.dic := by
  rw [extRun_idle ((deliver_extPend s path dst f).trans h), deliver_dic]

section Open

variable {s : State} {path : Nat} {f k : List Nat} (hlen : (frameBody f).length = 20) (hreset : bit (frameFlags f) 4 = false)
  (hkey : roleKey s ((frameBody f).getD 0 0) = some k) (hrole : roleAllowed s path ((frameBody f).getD 0 0) = true)
  (hroom : (s.dic.sessions.filter (fun e => decide (e.2.path = path))).length < pathRoom path) (hlock : bit s.dic.locked path = false)
include hlen hreset hkey hrole hroom hlock

/-- An OPEN that its role's key, its path and its path's room let in is challenged. -/
theorem openFrame_challenges (src : Nat) : openFrame s path src f = deliver (allotted s path src f k) path src
    (sealFrame [] (frameHead 2 0x80 (allotSession s) (frameSeq f) 16 stOk) (drawBytes s 16)) := by
  simp only [openFrame, hkey, hreset]
  refine (if_neg (by simp [hlen])).trans ((if_neg ?_).trans rfl)
  rw [hrole, hlock]
  simpa using hroom

/-- Without loads that wait, DIC holds after an accepted OPEN the new session and its count of OPENs. -/
theorem frameIn_open_dic (src : Nat) (hr : dicReady s path) (hm : malformed f = false) (hkind : frameKind f = 1) :
    (frameIn s path src f).dic = (allotted (atFrame s path) path src f k).dic := by
  have ⟨_, _, _, _, _, hidle⟩ := hr
  rw [frameIn_begins src f hr, beginFrame, handleFrame_opens _ path src hm hkind,
    openFrame_challenges (s := atFrame s path) hlen hreset hkey hrole hroom hlock src]
  exact extRun_deliver_dic (s := allotted (atFrame s path) path src f k) hidle _ _ _

end Open

/-! ## Catch-up (Table 6.13) -/

theorem doCatchupPageSend_walks {s : State} {p : Nat} (hv : visilUp s = true) (ht : tstate s = 4) (hs : isSurvivor s = true)
    (hc : s.twn.cstep = 3) (hp : s.on R.TWN_RESYNC_PAUSE = false) (hn : nextChanged s = some p) :
    doCatchupPageSend s = walkSend s p := by
  simp only [doCatchupPageSend, hn]
  exact if_pos ⟨hv, ht, hs, hc, by simp [hp]⟩

/-! ## The operator's commands (Table 6.15) -/

/-- SPAN is taken: TWN_CMDSTAT shows it BUSY. -/
def spanTaken (s : State) : State :=
  ((({ s with twn := { s.twn with spanCmd := true } } : State).wr R.TWN_CMDSTAT_REFUSED 0).wr R.TWN_CMDSTAT_REASON 0).wr R.TWN_CMDSTAT_BUSY 1

theorem isSurvivor_spanTaken (s : State) : isSurvivor (spanTaken s) = isSurvivor s := by
  unfold isSurvivor spanTaken
  rw [rd_wr_other _ _ _ _ _ _ _ _ (by decide), rd_wr_other _ _ _ _ _ _ _ _ (by decide), rd_wr_other _ _ _ _ _ _ _ _ (by decide), rd_twn]

/-- A side that is not the survivor asks the survivor for SPAN. -/
theorem twnCmd_span_asks {s u : State} (hu : u = cmdRun s (ekey 0x2402 2)) (ht : tstate u = 5) (hv : visilUp u = true)
    (hc : u.twn.spanCmd = false) (hs : isSurvivor u = false) :
    twnCmd 2 s = withTag (spanTaken u) (fun n => .state n 2 u.log.pgen) := by
  have hfree : (!u.twn.spanCmd) = true := by rw [hc]; rfl
  subst hu
  refine (if_pos ⟨ht, hv, hfree⟩).trans (if_neg ?_)
  exact fun h => Bool.false_ne_true (hs.symm.trans ((isSurvivor_spanTaken _).symm.trans h))

/-- JOIN after a decision to reconcile keeps the content: the side becomes a returner of an older generation. -/
theorem twnCmd_join_returns {s u : State} (hu : u = cmdRun s (ekey 0x2402 4)) (ht : tstate u = 0) (hp : pairable u = true)
    (hd : u.twn.lastDec = 2) {v : State} (hv : v = unpair (setRole (recountDirty (setPair u u.log.pairId (u.log.pgen - 1))) 2)) :
    twnCmd 4 s = twnDone { v with twn := { v.twn with lastDec := 0, joined := true } } 4 := by
  simp [twnCmd, ← hu, ht, hp, hd, hv]

/-- Arbitration for the other side's content asks for its page. -/
theorem arbitrate_pulls {s u : State} {session arg p : Nat} {x : Nat × Nat × Nat} (hu : u = cmdRun s (ekey 0x2440 7))
    (hf : (u.log.fences.drop (sessEnt u session (ekey 0x2440 1) 0)).head? = some (p, x)) (hv : visilUp u = true) (ht : tstate u ≠ 0)
    (ha : arg ≤ 2) (hside : arg = 1 - mySide u) :
    arbitrate s session arg = cmdDone (withTag u (fun n => .pagePull n p)) (ekey 0x2440 7) := by
  subst hu
  simp only [arbitrate, hf]
  exact (if_neg (by simp [hv, ht])).trans ((if_neg (Nat.not_lt.2 ha)).trans (if_pos hside))

/-! ## The statement -/

/-- Settles O43, message by message and command by command: the guards name the branch. -/
theorem twinDictionaryAndCatchupActs : Obligations.TwinDictionaryAndCatchupActs := by
  refine ⟨?dict, ?opens, ?dictRsp, ?recon, ?reconEndOne, ?reconEndTwo, ?walks, ?ready, ?pairwait, ?goSolo, ?span, ?leave, ?join,
    ?forceSolo, ?arbitrates⟩
  case dict =>
    intro s tag frame
    rfl
  case opens =>
    intro s tag f k hr hm hkind hlen hreset hkey hrole hroom hlock
    have hdic := frameIn_open_dic hlen hreset hkey hrole hroom hlock tag hr hm hkind
    have hsession : (allotted (atFrame s 3) 3 tag f k).dic.sessions.find? (allotSession s) = some (opened (atFrame s 3) 3 tag f k) :=
      (Sparse.find?_ins ..).trans (if_pos rfl)
    refine ⟨frameIn s 3 tag f, rfl, ?_, congrArg Dic.opens hdic⟩
    rw [hdic, hsession]
    rfl
  case dictRsp =>
    intro s tag frame ha hv
    exact next_eq (if_pos ⟨ha, hv⟩)
  case recon =>
    intro s tag epoch spage check hv ht hp htag
    exact next_eq ((if_pos ⟨hv, ht, hp, htag⟩).trans (if_neg (fun h => absurd h.1 (by decide))))
  case reconEndOne =>
    intro s tag entries hv ht hp htag
    exact next_eq ((if_pos ⟨hv, ht, hp, htag⟩).trans (if_pos rfl))
  case reconEndTwo =>
    intro s tag entries hv ht hp htag
    exact next_eq ((if_pos ⟨hv, ht, hp, htag⟩).trans (if_neg (by decide)))
  case walks =>
    intro s p hv ht hs hc hp hn
    exact next_eq (doCatchupPageSend_walks hv ht hs hc hp hn)
  case ready =>
    intro s hv ht hs hc hw he
    exact ⟨_, next_eq (if_pos ⟨hv, ht, hs, hc, hw, by simp [he]⟩), tstate_setTState _ 5⟩
  case pairwait =>
    intro s hd hp ht hr
    exact next_eq (if_pos ⟨hd, hp, ht, .inl hr⟩)
  case goSolo =>
    rintro s u hr rfl ht hp hrole
    exact next_eq ((if_pos hr).trans (if_pos ⟨ht, hp, hrole⟩))
  case span =>
    intro s u hr hu ht hv hc hs
    exact next_eq ((if_pos hr).trans (twnCmd_span_asks hu ht hv hc hs))
  case leave =>
    rintro s u hr rfl hs -
    exact next_eq ((if_pos hr).trans (if_pos hs))
  case join =>
    intro s u v hr hu ht hp hd hv
    exact next_eq ((if_pos hr).trans (twnCmd_join_returns hu ht hp hd hv))
  case forceSolo =>
    rintro s u hr rfl ht hp
    exact next_eq ((if_pos hr).trans (if_pos ⟨ht, hp⟩))
  case arbitrates =>
    intro s session p x u hr hu hf hv ht hside
    exact next_eq ((if_pos hr).trans (arbitrate_pulls hu hf hv ht (by decide) (by rw [hside])))

end Sys2Proof.Proofs
end

section
/-! PROOFS. The lent host memory, the extent commands and the governor's energy (R228, R242 to R244, R253, R260). -/

namespace Sys2Proof.Proofs

open Sys2Proof Sys2Proof.Machine Sys2Proof.Laws

/-! ## HSTATE (R242, R243) -/

/-- HSTATE is brought to `v`, with its event where it changes. -/
def hstateBrought (s : State) (v why : Nat) : State := if s.rd R.TIE_STAT_HSTATE = v then s else setHState s v why

theorem setHState_tie (s : State) (v why : Nat) : (setHState s v why).tie = s.tie := by simp [setHState]

theorem rd_setHState (s : State) (v why : Nat) : (setHState s v why).rd R.TIE_STAT_HSTATE = v % 4 :=
  (rd_emit ..).trans ((rd_raise ..).trans (rd_wr_self ..))

theorem hstateBrought_tie (s : State) (v why : Nat) : (hstateBrought s v why).tie = s.tie := by
  unfold hstateBrought
  split
  · rfl
  · exact setHState_tie ..

theorem rd_hstateBrought (s : State) {v : Nat} (why : Nat) (hv : v < 4) : (hstateBrought s v why).rd R.TIE_STAT_HSTATE = v := by
  unfold hstateBrought
  split
  case isTrue h => exact h
  case isFalse => rw [rd_setHState, Nat.mod_eq_of_lt hv]

/-! ## The lend table (R242, R244) -/

/-- The lend table's shadow is taken: its registers, its ranges, no failed access. -/
def lendTaken (t : State) : State := { t with
  rf := { t.rf with
    val := (t.rf.group.filter (fun e => lendKey e.1)).foldl (fun m e => m.ins e.1 e.2) t.rf.val
    group := t.rf.group.filter (fun e => !lendKey e.1) }
  tie := { t.tie with lend := lendShadow t, hfail := [] }, dic := { t.dic with owners := t.dic.owners.del 4 } }

/-- The lend table is emptied. -/
def lendDropped (t : State) : State := { t with
  rf := { t.rf with val := t.rf.val.filter (fun e => !lendKey e.1), group := t.rf.group.filter (fun e => !lendKey e.1) }
  tie := { t.tie with lend := [], hfail := [] } }

theorem lendCommit_takes {t : State} (h : pciRequests t = true) :
    lendCommit true true t = cmdDone (hstateBrought (lendTaken t) 1 0) (ekey 0x2520 4) := if_pos ⟨rfl, h⟩

theorem lendRevoke_busy {t : State} (h : lendUsed t = true) : lendRevoke true t = cmdFail t (ekey 0x2520 5) stBusy := if_pos h

theorem lendRevoke_drops {t : State} (h : lendUsed t = false) :
    lendRevoke true t = cmdDone (hstateBrought (lendDropped t) 0 2) (ekey 0x2520 5) := if_neg (by simp [h])

/-- With firmware available the command's work is done at once (R13). -/
theorem doLendCommit_runs {s : State} (reads : Bool) (ha : awake s = true) (hf : fwUp s = true) :
    doLendCommit true reads s = lendCommit true reads (cmdRun s (ekey 0x2520 4)) := by
  have hrun : fwUp (cmdRun s (ekey 0x2520 4)) = true := hf
  exact (if_neg (by simp [ha])).trans (if_neg (by simp [hrun]))

theorem doLendRevoke_runs {s : State} (ha : awake s = true) (hf : fwUp s = true) :
    doLendRevoke true s = lendRevoke true (cmdRun s (ekey 0x2520 5)) := by
  have hrun : fwUp (cmdRun s (ekey 0x2520 5)) = true := hf
  exact (if_neg (by simp [ha])).trans (if_neg (by simp [hrun]))

/-! ## Failed accesses (R243) -/

/-- A failed access to tier H is counted and reported. -/
def hAccessReported (s : State) (page cause : Nat) : State :=
  raise (s.bump C.TIE_HFAIL) 0x1D00 [page, Config.payloadCode 0x1D00 cause]

/-- The failures of the last millisecond, with the one that comes now. -/
def hFailsNow (t : State) : List Nat := t.now :: t.tie.hfail.filter (fun x => decide (t.now - x < 1000))

def hFailsKept (t : State) (fails : List Nat) : State := { t with tie := { t.tie with hfail := fails } }

/-- While tier H is UP, the third failure within 1 ms takes it down. -/
theorem doTierHAccessFail_up {s : State} (page : Nat) (cause : Fin 3) (ha : awake s = true)
    (hh : s.rd R.TIE_STAT_HSTATE = 1) (hd : s.rd R.PCI_STAT_DSTATE ≠ 3) : doTierHAccessFail page cause s =
      (fun (t : State) (fails : List Nat) =>
        if 3 ≤ fails.length then setHState (hFailsKept t fails) 2 3 else hFailsKept t fails)
      (hAccessReported s page cause) (hFailsNow (hAccessReported s page cause)) :=
  (if_neg (by simp [ha])).trans (if_neg (by simp [hh, hd]))

/-- With none before it, a failure stands alone and leaves HSTATE. -/
theorem doTierHAccessFail_first {s : State} (page : Nat) (cause : Fin 3) (ha : awake s = true)
    (hh : s.rd R.TIE_STAT_HSTATE = 1) (hd : s.rd R.PCI_STAT_DSTATE ≠ 3) (hf : s.tie.hfail = []) :
    doTierHAccessFail page cause s = hFailsKept (hAccessReported s page cause) [s.now] := by
  have hone : hFailsNow (hAccessReported s page cause) = [s.now] := by simp [hFailsNow, hAccessReported, hf]
  rw [doTierHAccessFail_up page cause ha hh hd, hone]
  exact if_neg (by simp)

/-! ## Extent commands (R228) -/

/-- An extent that has its group needs no other one while the tenant is within its overdraft. -/
theorem needGroup_held {u : State} {e tenant : Nat} (mask : Nat) (hi : (extentAt u e).ingroup = true)
    (hq : overQuota u tenant = false) : needGroup u e (some tenant) mask = (u, true) :=
  (if_pos hi).trans (if_neg (by simp [hq]))

/-- The extent of the command and all its pages are promoted where this side decides and the extent has its group. -/
theorem doPromoteExtentCmd_promotes {s u : State} {tenant c e : Nat} (ha : awake s = true) (hc : c = ekey 0x2530 2)
    (he : e = ent s (ekey 0x2530 1) 0) (hu : u = addCharge (cmdRun s c) e tenant) (hext : e < pext s) (ht : tenant ≤ 1023)
    (hs : (extentAt s e).estate = 2) (hdec : decides u = true) (hi : (extentAt u e).ingroup = true) (hq : overQuota u tenant = false) :
    doPromoteExtentCmd tenant s = cmdDone (checkMove (promote u e (2 ^ 512 - 1) false) e) c := by
  have hok : ¬ (pext (cmdRun s c) ≤ e ∨ 1023 < tenant ∨ (extentAt (cmdRun s c) e).estate ≠ 2) := by
    rintro (h | h | h)
    · exact absurd hext (Nat.not_lt.2 h)
    · omega
    · exact h hs
  have hgroup := needGroup_held (2 ^ 512 - 1) hi hq
  subst hc he hu
  refine (if_neg (by simp [ha])).trans ((if_neg hok).trans ((if_pos hdec).trans ?_))
  rw [hgroup]
  rfl

/-! ## The governor's readings (R253) -/

/-- With bleed resistors the capacitances are measured ones, and a tick takes the voltages alone. -/
theorem govRead_bleeds {s u : State} {vmod : List Nat} (hu : u = setVmod (markOut vmod s) vmod)
    (hb : u.rd R.GOV_RBLEED_RBLEED ≠ 0) : govRead vmod s = { u with gov := { u.gov with
      readMask := (List.range 8).foldl (fun a m => if m < vmod.length then bitSet a m else a) u.gov.readMask } } := by
  subst hu
  simp only [govRead, if_neg hb]

/-! ## Energy during a save (R260) -/

/-- At SHUTRES an unsealed save ends in the falling table. -/
theorem doEnergyAtShutres_falls {s : State} {vmod : List Nat} (hd : s.dev = .saving) (hs : s.sav.sealed = 0)
    (hj : liveEnergy (setVmod s vmod) / 2000000000000000 ≤ s.rd R.SAV_SHUTRES_SHUTRES) :
    ∃ t, doEnergyAtShutres vmod s = startFall t 0 41 := ⟨_, if_pos ⟨hd, hs, hj⟩⟩

/-- Above SHUTRES the save goes on. -/
theorem doEnergyAtShutres_reads {s : State} {vmod : List Nat} (hd : s.dev = .saving)
    (hj : s.rd R.SAV_SHUTRES_SHUTRES < liveEnergy (setVmod s vmod) / 2000000000000000) :
    doEnergyAtShutres vmod s = setVmod s vmod :=
  (if_neg (fun h => Nat.not_le.2 hj h.2.2)).trans (if_pos hd)

/-! ## The statement -/

/-- Settles O45, command by command: the guard is open, and the lemma of the command names the branch that it takes. -/
theorem lendingAndGovernorActs : Obligations.LendingAndGovernorActs := by
  refine ⟨?commit, ?revokeUsed, ?revoke, ?accessFail, ?promote, ?removeCharge, ?tick, ?torn, ?goesOn⟩
  case commit =>
    intro s ha hf hp
    exact ⟨_, next_eq ((doLendCommit_runs true ha hf).trans (lendCommit_takes hp)), rd_hstateBrought _ _ (by decide),
      cmdStat_cmdDone ..⟩
  case revokeUsed =>
    intro s ha hf hu
    refine ⟨_, next_eq ((doLendRevoke_runs ha hf).trans (lendRevoke_busy hu)), ?_⟩
    rw [cmdStat_cmdFail, cmdStat_cmdRun]
  case revoke =>
    intro s ha hf hu
    exact ⟨_, next_eq ((doLendRevoke_runs ha hf).trans (lendRevoke_drops hu)), congrArg Tie.lend (hstateBrought_tie ..),
      cmdStat_cmdDone ..⟩
  case accessFail =>
    intro s page cause hh hd hf ha
    exact ⟨_, next_eq (doTierHAccessFail_first page cause ha hh hd hf), rfl, (rd_raise ..).trans hh⟩
  case promote =>
    intro s tenant c u ha hc hu hext ht hs hdec hi hq
    exact next_eq (doPromoteExtentCmd_promotes ha hc rfl hu hext ht hs hdec hi hq)
  case removeCharge =>
    intro s tenant ha hext
    exact next_eq ((if_neg (by simp [ha])).trans (if_neg (Nat.not_le.2 hext)))
  case tick =>
    intro s vmod u ha hr hh hu hb
    exact next_eq ((if_pos ⟨ha, hr, by simp [hh]⟩).trans (congrArg govStep (govRead_bleeds hu hb)))
  case torn =>
    intro s vmod hd hs hj
    obtain ⟨t, ht⟩ := doEnergyAtShutres_falls hd hs hj
    exact ⟨_, next_eq ht, startFall_dev ..⟩
  case goesOn =>
    intro s vmod hd hj
    exact next_eq (doEnergyAtShutres_reads hd hj)

end Sys2Proof.Proofs
end

section
/-! PROOFS. The keeper flash: the request queue and the service core's fetches (R222, R361, R362, Table 11.12). -/

namespace Sys2Proof.Proofs

open Sys2Proof Sys2Proof.Machine Sys2Proof.Laws

/-! ## The queue (R362, Table 11.12) -/

theorem doKeeperRead_reads {s : State} {q : KpfReq} (hq : kpfHead s 1 = some q) (hb : inReserved s q.buf q.len = true)
    (ha : awake s = true) : doKeeperRead s = dWrite { s with kpf := { s.kpf with busy := true } } q.buf
      ((List.range q.len).map (fun i => kpfReadByte s (q.kaddr + i))) := by
  simp only [doKeeperRead, hq]
  exact (if_neg (by simp [hb])).trans (if_pos ha)

section Program

variable {s : State} {q : KpfReq} (hq : kpfHead s 2 = some q) (hp : q.kaddr % 256 + q.len ≤ 256)
  (hb : inReserved s q.buf q.len = true)
include hq hp hb

/-- A program within a page, from a buffer in the reserved groups, is refused in a guarded region alone. -/
theorem doKeeperProgram_eq : doKeeperProgram s = if kpfGuarded q.kaddr q.len then kpfSkip 17 (kpfDone s q 1)
    else { s with kpf := { s.kpf with busy := true, prog := true } } := by
  simp only [doKeeperProgram, hq]
  exact if_neg (by simp [hb]; omega)

theorem doKeeperProgram_starts (hg : kpfGuarded q.kaddr q.len = false) :
    doKeeperProgram s = { s with kpf := { s.kpf with busy := true, prog := true } } :=
  (doKeeperProgram_eq hq hp hb).trans (if_neg (by simp [hg]))

theorem doKeeperProgram_refused (hg : kpfGuarded q.kaddr q.len = true) : doKeeperProgram s = kpfSkip 17 (kpfDone s q 1) :=
  (doKeeperProgram_eq hq hp hb).trans (if_pos hg)

end Program

section Erase

variable {s : State} {q : KpfReq} (hq : kpfHead s 3 = some q)
include hq

theorem doKeeperErase_starts (hg : kpfGuarded (kpfSector s q.kaddr).1 (kpfSector s q.kaddr).2 = false) :
    doKeeperErase s = { s with kpf := { s.kpf with busy := true, prog := true } } := by
  simp only [doKeeperErase, hq]
  exact if_neg (by simp [hg])

theorem doKeeperErase_refused (hg : kpfGuarded (kpfSector s q.kaddr).1 (kpfSector s q.kaddr).2 = true) :
    doKeeperErase s = kpfSkip 17 (kpfDone s q 1) := by
  simp only [doKeeperErase, hq]
  exact if_pos hg

end Erase

section OpDone

variable {s : State} {q : KpfReq} {qs : List KpfReq} (hq : s.kpf.queue = q :: qs) (hb : s.kpf.busy = true)
include hq hb

theorem doKeeperOpDone_erases (ho : q.op = 3) : doKeeperOpDone true s =
    kpfSkip 17 (kpfDone (kerase s (kpfSector s q.kaddr).1 (kpfSector s q.kaddr).2) q 0) := by
  simp [doKeeperOpDone, hq, hb, ho]

theorem doKeeperOpDone_programs (ho : q.op = 2) : doKeeperOpDone true s =
    kpfSkip 17 (kpfDone (kprog s q.kaddr (areaRead s q.buf q.len)) q 0) := by
  simp [doKeeperOpDone, hq, hb, ho]

end OpDone

/-! ## Execute in place (R361) -/

/-- The branch cache after a fetch of line `l`: a line of it becomes its newest, as does the target of a jump. -/
def xipBranch (s : State) (l : Nat) : List Nat :=
  if s.kpf.branch.contains l ∨ (l ≠ s.kpf.lastLine ∧ l ≠ s.kpf.lastLine + 1) then
    (l :: s.kpf.branch.filter (fun x => x ≠ l)).take 16
  else s.kpf.branch

/-- Line `l` is fetched. -/
def xipFetched (s : State) (l : Nat) : State := { s with kpf := { s.kpf with lastLine := l, branch := xipBranch s l } }

theorem doXipFetchMiss_hit {s : State} {line : BitVec 23} (hd : s.dev ≠ .off) (hp : s.kpf.prefetch.contains line.toNat = true) :
    doXipFetchMiss line s = (xipFetched s line.toNat).bump C.KPF_PFHIT := (if_neg hd).trans (if_pos hp)

/-- A miss while no program or erase runs suspends none. -/
theorem doXipFetchMiss_miss {s : State} {line : BitVec 23} (hd : s.dev ≠ .off) (hp : s.kpf.prefetch.contains line.toNat = false)
    (hc : s.kpf.branch.contains line.toNat = false) (hprog : s.kpf.prog = false) (her : s.kpf.erasing = false) :
    doXipFetchMiss line s = (fun t : State => { t with kpf := { t.kpf with
      prefetch := (List.range 4).map (fun i => line.toNat + 1 + i) } }.bump C.KPF_XIPMISS) (xipFetched s line.toNat) :=
  (if_neg hd).trans ((if_neg (ne_true_of_eq_false hp)).trans ((if_neg (ne_true_of_eq_false hc)).trans
    (if_neg (by simp [hprog, her]))))

/-! ## The statement -/

/-- Settles O53, command by command: the front of the queue or the line fetched names the branch. -/
theorem keeperActs : Obligations.KeeperActs := by
  refine ⟨?read, ?program, ?programRefused, ?erase, ?eraseRefused, ?erased, ?programmed, ?taken, ?hit, ?miss⟩
  case read =>
    intro s q hq hb ha
    exact next_eq (doKeeperRead_reads hq hb ha)
  case program =>
    intro s q hq hp hb hg
    exact next_eq (doKeeperProgram_starts hq hp hb hg)
  case programRefused =>
    intro s q hq hp hb hg
    exact next_eq (doKeeperProgram_refused hq hp hb hg)
  case erase =>
    intro s q hq hg
    exact next_eq (doKeeperErase_starts hq hg)
  case eraseRefused =>
    intro s q hq hg
    exact next_eq (doKeeperErase_refused hq hg)
  case erased =>
    intro s q qs hq hb ho
    exact next_eq (doKeeperOpDone_erases hq hb ho)
  case programmed =>
    intro s q qs hq hb ho
    exact next_eq (doKeeperOpDone_programs hq hb ho)
  case taken =>
    intro s hd
    exact ⟨_, next_eq (if_neg hd), rfl⟩
  case hit =>
    intro s line hd hp
    exact ⟨_, next_eq (doXipFetchMiss_hit hd hp), ctr_bump_self .., rfl⟩
  case miss =>
    intro s line hd hp hc hprog her
    exact ⟨_, next_eq (doXipFetchMiss_miss hd hp hc hprog her), ctr_bump_self .., rfl⟩

end Sys2Proof.Proofs
end

section
/-! PROOFS. The governor's ceiling (R253, R255). -/

namespace Sys2Proof.Proofs

open Sys2Proof Sys2Proof.Machine Sys2Proof.Laws

/-- A field of one element that neither a tick's readings nor the count of erased superblocks write. -/
def GovKept (F : Fld) : Prop :=
  (∀ m < 8, F.key 0 0 ≠ R.GOV_VMOD.key m 0 ∧ F.key 0 0 ≠ R.PWR_ADC.key m 0 ∧ F.key 0 0 ≠ R.GOV_CMEAS.key m 0) ∧
    F.key 0 0 ≠ R.GOV_STAT_FAILED.key 0 0 ∧ F.key 0 0 ≠ R.SAV_ERASED_MIB.key 0 0

/-- The state that a tick computes C in: its readings are taken and the erased superblocks counted. -/
def govTaken (vmod : List Nat) (s : State) : State := showErased (govRead vmod s)

theorem rd_govTaken {F : Fld} (h : GovKept F) (vmod : List Nat) (s : State) : (govTaken vmod s).rd F = s.rd F := by
  obtain ⟨hread, hfailed, herased⟩ := h
  exact (showErased_rd _ F herased).trans (govRead_rd s vmod F hread hfailed)

theorem ceilOf_govTaken (vmod : List Nat) (s : State) : ceilOf (govTaken vmod s) = ceilOf s :=
  (ceilOf_gov (gov_of_keeps (keep_showErased (Sub.refl _) (Keeps.refl _ _)) (by decide))).trans (ceilOf_govRead s vmod)

theorem govKept_cap : GovKept R.GOV_CAP_CAP := by unfold GovKept; decide

theorem govKept_freeze : GovKept R.GOV_CTL_FREEZE := by unfold GovKept; decide

/-- A computation never takes a C above CAP: under FREEZE the lesser of the C held and the formula's (R255). -/
theorem govCompute_ceil_le_cap (u : State) : (govCompute u).gov.ceil ≤ u.rd R.GOV_CAP_CAP * 2 ^ 30 := by
  rw [govCompute_ceil]
  split
  · exact Nat.le_trans (Nat.min_le_right ..) (govCeiling_le_cap u)
  · exact govCeiling_le_cap u

/-- Under FREEZE a computed C does not rise (R255). -/
theorem govCompute_ceil_le_of_freeze {u : State} (hf : u.on R.GOV_CTL_FREEZE = true) (hc : u.gov.computed = true) :
    (govCompute u).gov.ceil ≤ u.gov.ceil := by
  rw [govCompute_ceil, if_pos ⟨hf, hc⟩]
  exact Nat.min_le_left ..

/-- What a tick leaves of C is what it computes (R253). -/
theorem ceilOf_tick (vmod : List Nat) (s : State) : ceilOf (govStep (govRead vmod s)) = ceilOf (govCompute (govTaken vmod s)) :=
  ceilOf_govStep _

theorem doGovTick_steps {s : State} (vmod : List Nat) (ha : awake s = true) (hr : s.running 21 = true) (hh : s.rst.held = false) :
    doGovTick vmod s = govStep (govRead vmod s) := if_pos ⟨ha, hr, by simp [hh]⟩

/-- Settles O18: acting by its state leaves the C that the tick computes, and the readings leave C, CAP and FREEZE. -/
theorem ceilingStaysUnderTheCap : Obligations.CeilingStaysUnderTheCap := by
  intro s vmod ha hr hh
  obtain ⟨hcomputed, hceil⟩ := ceilOf_eq (ceilOf_tick vmod s)
  obtain ⟨hwas, hheld⟩ := ceilOf_eq (ceilOf_govTaken vmod s)
  have hcap := rd_govTaken govKept_cap vmod s
  have hfreeze : (govTaken vmod s).on R.GOV_CTL_FREEZE = s.on R.GOV_CTL_FREEZE :=
    congrArg (fun n => decide (n = 1)) (rd_govTaken govKept_freeze vmod s)
  refine ⟨_, next_eq (doGovTick_steps vmod ha hr hh), hcomputed.trans (govCompute_computed _), ?cap, ?freeze⟩
  case cap =>
    rw [hceil, ← hcap]
    exact govCompute_ceil_le_cap _
  case freeze =>
    intro hf hc
    rw [hceil, ← hheld]
    exact govCompute_ceil_le_of_freeze (hfreeze.trans hf) (hwas.trans hc)

end Sys2Proof.Proofs
end

section
/-! PROOFS. The save, the fill, the restore, the service gate and rehearsals (R261, R264, R267 to R270, R458, Tables 8.3 and 8.6). -/

namespace Sys2Proof.Proofs

open Sys2Proof Sys2Proof.Machine Sys2Proof.Laws

/-! ## The save (R261, Table 8.3) -/

theorem doSaveStepComplete_ends {s : State} {n : Nat} (hd : s.dev = .saving) (h2 : 2 ≤ n) (h8 : n ≤ 8)
    (hs : bit s.sav.steps n = false) (hn : (stepNeeds n).all (fun k => bit s.sav.steps k) = true) :
    doSaveStepComplete n s = saveStepDone n s := if_pos ⟨hd, h2, h8, by simp [hs], hn⟩

theorem doSaveSealed_seals {s : State} {r : Seal} {im : SaveImage} (hd : s.dev = .saving) (hr : s.sav.sealRec = some r)
    (hi : s.sav.img = some im) : doSaveSealed s = saveSealed s im r := by
  simp only [doSaveSealed, hr, hi]
  exact if_pos hd

/-! ## The fill (R267) -/

theorem showGate_sav (s : State) : (showGate s).sav = s.sav :=
  (keep_showGate (Sub.refl _) (Keeps.refl _ s)).same .sav rfl

theorem setDev_dev (s : State) (d : DevState) (why : Nat) : (setDev s d why).dev = d := raise_dev ..

theorem startRestore_dev (s : State) (step why : Nat) : (startRestore s step why).dev = .restoring := by
  unfold startRestore
  rw [showGate_dev]
  exact setDev_dev s .restoring why

theorem startRestore_dram (s : State) (step why : Nat) : (startRestore s step why).dram = s.dram :=
  (keep_startRestore (Sub.refl _) (Keeps.refl _ s)).same .dram rfl

theorem startRestore_rstep (s : State) (step why : Nat) : (startRestore s step why).sav.rstep = step := by
  unfold startRestore
  rw [showGate_sav]
  rfl

/-- Every line is zeroed and sound. -/
def dramZeroed (s : State) : State := { s with dram := { data := [], lines := [], asleep := false } }

/-- The fill is counted and reported, with the zeroed DRAM. -/
def fillReported (s : State) : State :=
  raise ((dramZeroed s).bump C.SAV_FILLBYTES (geometryBytes s)) 0x2560 [geometryBytes s, s.since s.sav.rstart / 1000]

theorem fillReported_dram (s : State) : (fillReported s).dram = { data := [], lines := [], asleep := false } := raise_dram ..

theorem doFillComplete_restores {s : State} (hd : s.dev = .filling) :
    doFillComplete s = startRestore (fillReported s) 1 42 := if_pos hd

/-! ## The restore and the service gate (R268, R269, Table 8.6) -/

theorem doRestoreStepComplete_rstep {s : State} {n : Nat} (bad : List Nat) (hd : s.dev = .restoring) (hn : n = s.sav.rstep)
    (h1 : 1 ≤ n) (h7 : n ≤ 7) : (doRestoreStepComplete n bad s).sav.rstep = n + 1 := by
  unfold doRestoreStepComplete
  rw [if_pos ⟨hd, hn, h1, h7⟩, showGate_sav]

theorem gateOpen_of {s : State} (hm : gateMiss s = 0) (hf : s.on R.SAV_GATE_FWOK = true) : gateOpen s = true := by
  simp [gateOpen, hm, hf]

/-- A device that no SPANREQ waits for enters SERVING through the open gate. -/
theorem doServiceGatePassed_dev {s : State} (hd : s.dev = .restoring) (h7 : 7 ≤ s.sav.rstep) (hg : gateOpen s = true)
    (hr : s.twn.spanReq = false) : (doServiceGatePassed s).dev = .serving := by
  unfold doServiceGatePassed
  rw [if_neg (by simp [hd]), if_pos ⟨hd, h7, hg⟩, if_neg (by simp [hr]), fr_gaitEnterServing_dev, fr_farOpen_dev, setDev_dev]

theorem doServiceGateWaitReport_reports {s : State} (hd : s.dev = .restoring) (h7 : 7 ≤ s.sav.rstep) (hm : gateMiss s ≠ 0) :
    doServiceGateWaitReport s =
      raise (showGate { s with sav := { s.sav with gateReport := s.now } }) 0x2500 [gateMiss s, s.rd R.SAV_GATE_FWOK] :=
  if_pos ⟨hd, h7, .inl hm⟩

/-! ## The retired image (R268) -/

theorem showErased_sav (s : State) : (showErased s).sav = s.sav :=
  (keep_showErased (Sub.refl _) (Keeps.refl _ s)).same .sav rfl

/-- The superblocks of the retired image are erased, and no phase shows. -/
theorem doRetiredImageEraseDone_erases {s : State} (hd : s.dev = .serving) (hr : s.running 18 = true)
    (hp : s.rd R.SAV_STAT_PHASE = 5) (hs : s.sav.dirtySb.all (fun k => decide ((blkAt s k).state = 5)) = true) :
    doRetiredImageEraseDone s = showErased ((s.sav.dirtySb.foldl eraseFree s).wr R.SAV_STAT_PHASE 0) := by
  have hks : s.sav.dirtySb.filter (fun k => decide ((blkAt s k).state = 5)) = s.sav.dirtySb :=
    List.filter_eq_self.2 (List.all_eq_true.1 hs)
  refine (if_pos ⟨hd, hr⟩).trans ?_
  dsimp only
  rw [hks, if_pos hp]

theorem foldl_eraseFree_all (s : State) : (s.sav.dirtySb.foldl eraseFree s).sav.dirtySb = [] := by
  simp [foldl_eraseFree_dirtySb]

/-! ## Rehearsals (R270) -/

theorem doRehearsalStart_rehearses {s : State} (hd : s.dev = .serving) (hr : s.running 22 = true) (hn : s.sav.rehearsal = none)
    (hp : s.rd R.SAV_STAT_PHASE = 0) (hb : (blkAt s (rehearseSb s)).state = 0) (hper : s.rd R.SAV_REHEARSE_PERIOD ≠ 0) :
    doRehearsalStart s = rehearse s := if_pos ⟨hd, hr, hn, .inl hp, hb, .inl hper⟩

/-- A rehearsal runs once SAV holds every store channel's token. -/
theorem rehearse_runs {s u : State} (hu : u = storeChannels.foldl (fun v n => farAsk v rehearseOwner n) s)
    (hh : farHolds u rehearseOwner storeChannels = true) :
    rehearse s = (deriveRehearse { u with sav := { u.sav with rehearsal := some s.now } }).wr R.SAV_STAT_PHASE 4 := by
  unfold rehearse
  rw [← hu]
  exact if_pos hh

theorem doRehearseCmd_rehearses {s : State} (hd : s.dev = .serving) (hr : s.running 22 = true) (hn : s.sav.rehearsal = none)
    (hb : (blkAt s (rehearseSb s)).state = 0) : doRehearseCmd s =
      rehearse { cmdRun s (ekey 0x2611 1) with sav := { (cmdRun s (ekey 0x2611 1)).sav with rehearseCmd := true } } :=
  (if_neg (by simp [awake, hd])).trans (if_pos ⟨hd, hr, hn, hb⟩)

/-- The rehearsal is over: its key slot is empty, and no phase shows. -/
def rehearsalOver (s : State) : State := clearSlot
  (({ s with sav := { s.sav with rehearsal := none, rehearseCmd := false, lastRehearsal := s.now } } : State).wr R.SAV_STAT_PHASE 0) 8

/-- The rate of `us` microseconds is reported, and a candidate RMEAS. -/
def rehearsalRated (us : Nat) (s : State) : State :=
  let bytes := s.rd R.SAV_REHEARSE_SIZE * 2 ^ 30
  let rate := bytes / us / 100
  ((raise (rehearsalOver s) 0x2520 [rate, bytes]).bump C.SAV_REHEARSALS).wr R.GOV_RMEAS
    (if sealRate s = 0 then rate else if rate = 0 then sealRate s else min (sealRate s) rate)

/-- The superblock is erased, and the channels' tokens go back. -/
def rehearsalCleared (us : Nat) (s : State) : State := farDrop (eraseFree (rehearsalRated us s) (rehearseSb s)) rehearseOwner

theorem rehearsalCleared_sav (us : Nat) (s : State) : ∃ ks, (rehearsalCleared us s).sav =
    { s.sav with rehearsal := none, rehearseCmd := false, lastRehearsal := s.now, dirtySb := ks } := by
  refine ⟨(rehearsalRated us s).sav.dirtySb.filter (· ≠ rehearseSb s), ?_⟩
  have hover : (rehearsalOver s).sav = { s.sav with rehearsal := none, rehearseCmd := false, lastRehearsal := s.now } :=
    fr_clearSlot_sav ..
  have hrated : (rehearsalRated us s).sav = (rehearsalOver s).sav := raise_sav ..
  refine (fr_farDrop_sav ..).trans ((eraseFree_sav ..).trans ?_)
  rw [hrated, hover]

/-- A rehearsal that nothing cut short ends with its rate; a command's ends DONE. -/
theorem doRehearsalDone_rates {s : State} (us : Nat) (hd : s.dev = .serving) (hr : s.sav.rehearsal.isSome = true)
    (hc : storeChannels.any (higherWaits s rehearseOwner) = false) : doRehearsalDone us s =
      if s.sav.rehearseCmd then cmdDone (rehearsalCleared us s) (ekey 0x2611 1) else rehearsalCleared us s := by
  unfold doRehearsalDone
  rw [if_pos ⟨hd, hr⟩]
  simp only [hc, Bool.false_eq_true, if_false]
  cases s.sav.rehearseCmd <;> rfl

theorem doRehearsalDone_sav {s : State} (us : Nat) (hd : s.dev = .serving) (hr : s.sav.rehearsal.isSome = true)
    (hc : storeChannels.any (higherWaits s rehearseOwner) = false) :
    (doRehearsalDone us s).sav = (rehearsalCleared us s).sav := by
  rw [doRehearsalDone_rates us hd hr hc]
  split
  · exact (keep_cmdDone (Sub.refl _) (Keeps.refl _ _)).same .sav rfl
  · rfl

/-! ## The statement -/

/-- Settles O46, command by command: the guard is open, and the lemma of the command names what the branch leaves. -/
theorem saveAndRestoreActs : Obligations.SaveAndRestoreActs := by
  refine ⟨?step, ?sealed, ?fill, ?restoreStep, ?gate, ?gateWait, ?retired, ?byTime, ?runs, ?byCommand, ?done⟩
  case step =>
    intro s n hd h2 h8 hs hn
    exact next_eq (doSaveStepComplete_ends hd h2 h8 hs hn)
  case sealed =>
    intro s r im hd hr hi
    exact next_eq (doSaveSealed_seals hd hr hi)
  case fill =>
    intro s hd
    have hdram := (startRestore_dram (fillReported s) 1 42).trans (fillReported_dram s)
    exact ⟨_, next_eq (doFillComplete_restores hd), startRestore_dev .., congrArg Dram.data hdram, congrArg Dram.lines hdram,
      startRestore_rstep ..⟩
  case restoreStep =>
    intro s n bad hd hn h1 h7
    exact ⟨_, rfl, doRestoreStepComplete_rstep bad hd hn h1 h7⟩
  case gate =>
    intro s hd h7 hm hf hr
    exact ⟨_, rfl, doServiceGatePassed_dev hd h7 (gateOpen_of hm hf) hr⟩
  case gateWait =>
    intro s hd h7 hm
    exact next_eq (doServiceGateWaitReport_reports hd h7 hm)
  case retired =>
    intro s hd hr hp hs
    exact ⟨_, next_eq (doRetiredImageEraseDone_erases hd hr hp hs),
      (congrArg Sav.dirtySb (showErased_sav _)).trans (foldl_eraseFree_all s),
      (showErased_rd _ _ (by decide)).trans (rd_wr_self ..)⟩
  case byTime =>
    intro s hd hr hn hp hb hper
    exact next_eq (doRehearsalStart_rehearses hd hr hn hp hb hper)
  case runs =>
    intro s u hd hr hn hp hb hper hu hh
    exact next_eq ((doRehearsalStart_rehearses hd hr hn hp hb hper).trans (rehearse_runs hu hh))
  case byCommand =>
    rintro s u hd hr hn rfl hb
    exact next_eq (doRehearseCmd_rehearses hd hr hn hb)
  case done =>
    intro s us hd hr hc
    obtain ⟨ks, hcleared⟩ := rehearsalCleared_sav us s
    have hsav := (doRehearsalDone_sav us hd hr hc).trans hcleared
    exact ⟨_, rfl, congrArg Sav.rehearsal hsav, congrArg Sav.lastRehearsal hsav⟩

end Sys2Proof.Proofs
end

section
/-! PROOFS. The commands of the store: reads, erases, write-backs, relocations, save writes and patrol reads (R263, R264, R335, R340,
R344, R345, R349, R352, R354, R357, Table 11.4). -/

namespace Sys2Proof.Proofs

open Sys2Proof Sys2Proof.Machine Sys2Proof.Laws

/-! ## Firmware's reads (R335, R344, Table 11.4) -/

/-- The answer OK of a read is not UNCORRECTABLE (Table 11.6). -/
theorem read_ok_ne_lost : (0 : Nat) ≠ 2 := by decide

/-- Lines that a sound codeword leaves sound. -/
theorem foldl_linePoison_zero (l : List Nat) (line : Nat → Nat) (s : State) :
    l.foldl (fun u n => if bit 0 n then linePoison u (line n) else u) s = s := by
  induction l with
  | nil => rfl
  | cons n l ih =>
    rw [List.foldl_cons, if_neg (by simp [bit])]
    exact ih

section Reads

variable {s u v : State} {ch : Fin 32} {rd : CwRead} {q buf : Nat} {l : SLoc}

theorem doStoreRead_delivers {c : Codeword} (hf : fwFront s ch 1 = some (q, l, buf)) (hd : readDie s l.ch l.die = some u)
    (hr : readCw u l rd (bit q 23) = (v, 0)) (hraw : bit q 22 = false) (hc : c = anyCw v l) (hp : c.poison = 0) :
    doStoreRead ch rd s = fwComplete ((List.range 65).foldl (fun u n => lineSound u (buf / 64 + n))
      (dWrite (v.bump C.XTS_DECUNITS) buf (cellBytes c.data ++ metaBytes c))) ch 0 rd.corr rd.retries := by
  simp only [doStoreRead, hf, hd, hr, hraw, ← hc, hp, Bool.false_eq_true, if_false, ne_eq, not_true_eq_false,
    foldl_linePoison_zero, read_ok_ne_lost]

theorem doStoreReadRaw_delivers (hf : fwFront s ch 2 = some (q, l, buf)) (hd : readDie s l.ch l.die = some u)
    (hok : dieFailed s l = false) : doStoreReadRaw ch s = fwComplete (dWrite (u.bump C.STF_READS) buf
      ((List.range 4).flatMap (fun w => rawBytes u { l with cw := w }))) ch 0 0 0 := by
  simp only [doStoreReadRaw, hf, hd, hok, Bool.false_eq_true, if_false]

theorem doStoreReadMeta_delivers (hf : fwFront s ch 3 = some (q, l, buf)) (hd : readDie s l.ch l.die = some u)
    (hr : readCw u l rd (bit q 23) = (v, 0)) :
    doStoreReadMeta ch rd s = fwComplete (dWrite v buf (metaBytes (anyCw v l))) ch 0 rd.corr rd.retries := by
  simp only [doStoreReadMeta, hf, hd, hr, read_ok_ne_lost, if_false]

theorem doStoreParam_delivers (page : List Nat) (hf : fwFront s ch 4 = some (q, l, buf)) (hok : dieFailed s l = false) :
    doStoreParam ch page s = fwComplete (dWrite s buf ((List.range 256).map (fun i => page.getD i 0))) ch 0 0 0 := by
  simp only [doStoreParam, hf, hok, Bool.false_eq_true, if_false]

end Reads

/-! ## Erases and retirements (R349, R352) -/

section Erases

variable {s : State} (ha : awake s = true)
include ha

theorem doStoreErase_own {k : Nat} (hr : s.running 18 = true) (hok : eraseOk s k = true) :
    doStoreErase none k s = eraseStart s k := (if_neg (by simp [ha])).trans (if_pos ⟨hr, hok⟩)

theorem doStoreErase_firmware {ch : Fin 32} {x : Nat × SLoc × Nat} {k : Nat} (hf : fwFront s ch 5 = some x)
    (hk : k = fwWord s ch (fwHead s ch) 2 % 2 ^ 17) (hok : eraseOk s k = true) : doStoreErase (some ch) 0 s =
      (fun u : State => fwSkip 64 ch (fwNext { u with stf := { u.stf with eraseFw := u.stf.eraseFw.ins k (64 * ch + fwHead s ch) } } ch))
        (eraseStart s k) := by
  refine (if_neg (by simp [ha])).trans ?_
  simp only [hf, ← hk, hok, if_true]

theorem doStoreRetire_own {ch : Fin 32} {die block : Nat} (cause : Nat) (hr : s.running 18 = true) (hd : die < dpc s)
    (hok : retirable s (block * dpc s + die) = true) :
    doStoreRetire false ch die block cause s = retireMember s (block * dpc s + die) ch cause :=
  (if_neg (by simp [ha])).trans ((if_neg Bool.false_ne_true).trans (if_pos ⟨hr, hd, hok⟩))

theorem doStoreRetire_firmware {ch : Fin 32} {q buf : Nat} {l : SLoc} (die block cause : Nat)
    (hf : fwFront s ch 6 = some (q, l, buf)) : doStoreRetire true ch die block cause s =
      fwComplete (retireMember s (locSb s l) ch (fwWord s ch (fwHead s ch) 2 % 256)) ch 0 0 0 := by
  refine (if_neg (by simp [ha])).trans ((if_pos rfl).trans ?_)
  simp only [hf]

/-! ## Write-backs and relocations (R340, R354) -/

theorem doStoreCleanWrite_puts {ref : Nat} {w : Codeword} {rest : List (Nat × Codeword)} {u : State} (hr : s.running 18 = true)
    (hq : s.stf.cleanQ = (ref, w) :: rest) (hput : rowPut s 1 ref w {} = some u) (hd : s.dev ≠ .saving)
    (hp : cleanPaused s = false) : doStoreCleanWrite s = { u with stf := { u.stf with cleanQ := rest } } := by
  refine (if_neg (by simp [ha])).trans ?_
  simp only [hq, hput]
  exact if_neg (by simp [hr, hd, hp])

end Erases

/-- The codeword with key `k` is off the relocation list. -/
def relocDropped (s : State) (k : Nat) : State := { s with stf := { s.stf with reloc := s.stf.reloc.filter (· ≠ k) } }

section Relocations

variable {s : State} (rd : CwRead) {k : Nat} (ha : awake s = true) (hv : s.stf.victim = none) (hk : nextReloc s = some k)
include ha hv hk

theorem doStoreRelocate_unreferenced (href : refOf s k = none) : doStoreRelocate rd s = relocDropped s k := by
  refine (if_neg (by simp [ha])).trans ?_
  simp only [relocDropped, hv, hk, href]

theorem doStoreRelocate_moves {ref : Nat} {u v w : State} (href : refOf s k = some ref) (hr : s.running 18 = true)
    (hw : s.on R.STF_STAT_WALK = false) (hrow : inRow s k = false) (hshare : relocShare s = true) (hd : s.dev ≠ .saving)
    (hdie : readDie s (keyLoc k).ch (keyLoc k).die = some u) (hread : readCw u (keyLoc k) rd false = (v, 0))
    (hput : rowPut ((relocDropped v k).bump C.XTS_DECUNITS) 2 ref (cwAt (relocDropped v k) (keyLoc k)) (keyLoc k) = some w) :
    doStoreRelocate rd s = w := by
  unfold relocDropped at hput
  refine (if_neg (by simp [ha])).trans ?_
  simp only [hv, hk, href, hr, hw, hrow, hshare, hd, hdie, hread, hput]
  rfl

end Relocations

/-! ## Save writes and seals (R263, R264) -/

theorem doStoreSaveWrite_counts {s : State} {im : SaveImage} (hi : s.sav.img = some im) (hd : s.dev = .saving)
    (hs : s.stf.saving = true) (hn : s.rd R.SAV_PROGRESS_PAGES < im.pages.length)
    (hfree : s.sav.dirtySb.contains (locSb s (imageLoc s (imageSpan s im.pages.length).1 (s.rd R.SAV_PROGRESS_PAGES))) = false) :
    doStoreSaveWrite s = s.wr R.SAV_PROGRESS_PAGES (s.rd R.SAV_PROGRESS_PAGES + 1) := by
  simp only [doStoreSaveWrite, hi]
  exact (if_pos ⟨hd, hs, hn⟩).trans (if_neg (ne_true_of_eq_false hfree))

theorem sealAppend_sealed (s : State) (a : Nat) (r : Seal) (gate : Bool) : (sealAppend s a r gate).sav.sealed = s.sav.sealed := by
  unfold sealAppend
  dsimp only
  split
  · rfl
  · rfl

/-- A seal record is programmed at anchor A, or at anchor B once A holds it. -/
theorem doStoreSealWrite_sealed {s : State} {r : Seal} (a : Fin 2) (hr : s.sav.sealRec = some r) (hd : s.dev = .saving)
    (ha : bit s.sav.sealed a = false) (hfirst : a.val = 0 ∨ bit s.sav.sealed 0 = true) :
    (doStoreSealWrite a s).sav.sealed = bitSet s.sav.sealed a := by
  simp only [doStoreSealWrite, hr]
  rw [if_pos ⟨hd, by simp [ha], hfirst⟩, sealAppend_sealed]

/-! ## Patrol reads (R357) -/

section Patrol

variable {s : State} {ch : Fin 32} (rd : CwRead) (hd : s.dev = .serving) (hr : s.running 18 = true)
  (hh : farHolds s (256 + ch) [16 + ch.val] = true) (hs : fillsServed s ch = true)
include hd hr hh hs

theorem doStorePatrolRead_ends (hn : nextPatrol s ch ((patrolAt s ch).getD 0 0) = none) : doStorePatrolRead ch rd s =
    (fun t => farRelease (setPatrol t ch [0, t.now, 0]) (256 + ch) (16 + ch))
      (raise s 0x3520 [ch, (s.now - (patrolAt s ch).getD 1 0) / 86400000000, (patrolAt s ch).getD 2 0]) := by
  refine (if_pos ⟨hd, hr, hh, hs⟩).trans ?_
  simp only [hn]

theorem doStorePatrolRead_goesOn {k : Nat} {u v : State} (hn : nextPatrol s ch ((patrolAt s ch).getD 0 0) = some k)
    (hdie : readDie s ch (keyLoc k).die = some u) (hread : readCw (u.bump C.STF_PATROL) (keyLoc k) rd false = (v, 0))
    (hret : rd.retries = 0) (hcorr : rd.corr < s.rd R.STF_PATROL_REFRESHTH) : doStorePatrolRead ch rd s =
      farRelease (setPatrol v ch [k + 1, (patrolAt s ch).getD 1 0, (patrolAt s ch).getD 2 0]) (256 + ch) (16 + ch) := by
  have hstays : ¬(rd.retries ≠ 0 ∨ s.rd R.STF_PATROL_REFRESHTH ≤ rd.corr) := by omega
  refine (if_pos ⟨hd, hr, hh, hs⟩).trans ?_
  simp only [hn, hdie, hread, hstays, and_false, or_false, false_and, Nat.zero_ne_one, read_ok_ne_lost, if_false, Nat.add_zero]
  cases refOf v k with
  | none => rfl
  | some ref => rfl

end Patrol

/-! ## The statement -/

/-- Settles O51, command by command: the guard is open, and the lemma of the command names the branch that it takes. -/
theorem storeCommandsAct : Obligations.StoreCommandsAct := by
  refine ⟨?read, ?readRaw, ?readMeta, ?param, ?eraseOwn, ?eraseFirmware, ?retireOwn, ?retireFirmware, ?cleanWrite, ?unreferenced,
    ?relocates, ?saveWrite, ?sealA, ?sealB, ?passEnds, ?patrols, ?tail⟩
  case read =>
    intro s ch rd q buf l u v c hf hd hr hraw hc hp
    exact next_eq (doStoreRead_delivers hf hd hr hraw hc hp)
  case readRaw =>
    rintro s ch q buf l u page hf hd rfl hok
    exact next_eq (doStoreReadRaw_delivers hf hd hok)
  case readMeta =>
    intro s ch rd q buf l u v hf hd hr
    exact next_eq (doStoreReadMeta_delivers hf hd hr)
  case param =>
    intro s ch page q buf l hf hok
    exact next_eq (doStoreParam_delivers page hf hok)
  case eraseOwn =>
    intro s k hr hok ha
    exact next_eq (doStoreErase_own ha hr hok)
  case eraseFirmware =>
    rintro s ch x n k u hf rfl hk hok rfl ha
    exact next_eq (doStoreErase_firmware ha hf hk hok)
  case retireOwn =>
    intro s ch die block cause hr hd hok ha
    exact next_eq (doStoreRetire_own ha cause hr hd hok)
  case retireFirmware =>
    intro s ch die block cause q buf l hf ha
    exact next_eq (doStoreRetire_firmware ha die block cause hf)
  case cleanWrite =>
    intro s ref w rest u hr hq hput hd hp ha
    exact next_eq (doStoreCleanWrite_puts ha hr hq hput hd hp)
  case unreferenced =>
    intro s rd k hv hk href ha
    exact next_eq (doStoreRelocate_unreferenced rd ha hv hk href)
  case relocates =>
    intro s rd k ref u v w hv hk href hr hw hrow hshare hdie hread hput hd ha
    exact next_eq (doStoreRelocate_moves rd ha hv hk href hr hw hrow hshare hd hdie hread hput)
  case saveWrite =>
    intro s im hi hd hs hn hfree
    exact next_eq (doStoreSaveWrite_counts hi hd hs hn hfree)
  case sealA =>
    intro s r hr hd h0
    exact ⟨_, rfl, doStoreSealWrite_sealed 0 hr hd h0 (.inl rfl)⟩
  case sealB =>
    intro s r hr hd h1 h0
    exact ⟨_, rfl, doStoreSealWrite_sealed 1 hr hd h1 (.inr h0)⟩
  case passEnds =>
    intro s ch rd hd hr hh hn hs
    exact next_eq (doStorePatrolRead_ends rd hd hr hh hs hn)
  case patrols =>
    intro s ch rd k u v hd hr hh hs hn hdie hread hret hcorr
    exact next_eq (doStorePatrolRead_goesOn rd hd hr hh hs hn hdie hread hret hcorr)
  case tail =>
    rintro s ch tail u ha rfl
    exact next_eq (if_neg (by simp [ha]))

end Sys2Proof.Proofs
end

section
/-! PROOFS. Jobs: submission, cancellation, requeue, dispatch, issue and the end of an instruction in flight (R281, R282, R283, R287,
R288, R289, R303). -/

namespace Sys2Proof.Proofs

open Sys2Proof Sys2Proof.Machine Sys2Proof.Laws

/-- A fabric command's guard is open while the core supply is up. -/
theorem ite_awake {α : Type} {s : State} (ha : awake s = true) (x y : α) : (if (!awake s) = true then x else y) = y :=
  if_neg (by simp [ha])

/-! ## The commands of MST_SUBMIT (R281, R282) -/

theorem submitRegs_mst (s : State) (op j : Nat) : (submitRegs s op j).mst = s.mst := rfl

theorem submitResult_mst (s : State) (r : Nat) : (submitResult s r).mst = s.mst := rfl

/-- Record `j` is queued under the next JSEQ, and its line 0 written QUEUED with cursor, ERROR and STAGES cleared (Table 9.4). -/
def queueRecord (s : State) (j : Nat) : State :=
  writeLine { s with mst := { s.mst with jseq := s.mst.jseq + 1, queue := s.mst.queue.ins (s.mst.jseq + 1) j } } j
    (((((withState (lineZero s j) 1).set 1 (s.mst.jseq + 1)).set 3 0).set 4 0).set 5 0)

theorem queueRecord_jseq (s : State) (j : Nat) : (queueRecord s j).mst.jseq = s.mst.jseq + 1 := writeLine_jseq ..

theorem queueRecord_queue (s : State) (j : Nat) : (queueRecord s j).mst.queue = s.mst.queue.ins (s.mst.jseq + 1) j :=
  writeLine_queue ..

/-- RESULT 0 stands while the command waits for its line. -/
theorem cmdWrites_submitResult_zero (t : State) : (cmdWrites (submitResult t 0)).rd R.MST_SUBSTAT_RESULT = 0 :=
  (cmdWrites_result _).trans (rd_wr_self ..)

section Submit

variable {s u : State} {j : Nat} (ha : awake s = true) (hj : j < 8192)
include ha hj

/-- In JSTATE FREE, line 0 alone decides whether the record is queued (R282). -/
theorem doJobSubmit_free (hu : u = submitRegs s 0 j) (hin : j < jlPages u) (hst : jstate u j = 0) : doJobSubmit j s =
    if recordBad u j = true then raise (submitResult u 3) 0x2860 [j, 3]
    else showMst (cmdWrites (submitResult (queueRecord u j) 0)) := by
  unfold doJobSubmit
  rw [ite_awake ha, Nat.mod_eq_of_lt hj, ← hu]
  simp only [Nat.not_le.2 hin, if_false, hst, List.contains_cons, BEq.rfl, Bool.true_or, Bool.not_true, Bool.false_eq_true]
  rfl

theorem doJobCancel_accepted (hr : (cancelJob (submitRegs s 1 j) j).2 = 0) :
    doJobCancel j s = cmdWrites (submitResult (cancelJob (submitRegs s 1 j) j).1 0) := by
  unfold doJobCancel
  rw [ite_awake ha, Nat.mod_eq_of_lt hj]
  simp only [hr, if_true]

theorem doJobRequeue_accepted (hr : (requeueJob (submitRegs s 2 j) j).2 = 0) :
    doJobRequeue j s = cmdWrites (submitResult (requeueJob (submitRegs s 2 j) j).1 0) := by
  unfold doJobRequeue
  rw [ite_awake ha, Nat.mod_eq_of_lt hj]
  simp only [hr, if_true]

end Submit

/-! ## Dispatch (R283) -/

/-- A job that waits alone, has not been passed over 64 times and fits goes to the slot that it fits. -/
theorem doJobDispatch_only {s : State} {q j n k : Nat} {a b : State × Bool} (hd : s.dev = .serving) (hq : s.mst.queue = [(q, j)])
    (hp : s.mst.passed.get q 0 < 64) (hf : Machine.fits s j = some (n, k))
    (hra : a = spaceSeek s (recAddr s j) 4096)
    (hrb : b = spaceSeek a.1 (bits (recWord s j 2) 0 48) (16 * bits (recWord s j 2) 48 11))
    (hwa : a.2 = false) (hwb : b.2 = false) : doJobDispatch s = showMst (dispatch b.1 q j n k) := by
  have hstarved : s.mst.queue.seek (fun e => decide (64 ≤ s.mst.passed.get e.1 0)) = none := by
    simp [hq, Sparse.seek, Nat.not_le.2 hp]
  have hfirst : s.mst.queue.seek (fun e => (Machine.fits s e.2).isSome) = some (q, j) := by simp [hq, Sparse.seek, hf]
  have hbefore : s.mst.queue.takeWhile (fun x => decide (x.1 ≠ q)) = [] := by simp [hq]
  unfold doJobDispatch
  rw [if_neg (by simp [awake, hd])]
  simp only [hstarved, hfirst, hbefore, List.map_nil, List.foldl_nil, hf]
  subst hra hrb
  exact if_neg (not_or.2 ⟨ne_true_of_eq_false hwa, ne_true_of_eq_false hwb⟩)

/-! ## Issue and completion (R287, R288, R289) -/

/-- Slot `k` of MST[n] has the turn and has issued `cnt` instructions in it. -/
def takeTurn (s : State) (n k cnt : Nat) : State :=
  { s with mst := { s.mst with turnSlot := s.mst.turnSlot.put n k 0, turnCnt := s.mst.turnCnt.put n cnt 0 } }

/-- The first ready job in turn issues its instruction. -/
theorem doInstructionIssue_done {s u v : State} {n : Fin 8} {k first : Nat} {j : Job} (ha : awake s = true)
    (ht : s.takes (34 + n.val) = true) (hu : u = noteStalls s n)
    (hfirst : first = (if u.mst.turnCnt.get n 0 < u.rd R.MST_DEFAULTS_QUANTUM then u.mst.turnSlot.get n 0
      else u.mst.turnSlot.get n 0 + 1))
    (hturn : ((List.range 16).map (fun i => (first + i) % 16)).findSome? (fun k => (jobAt u n k).bind (fun j =>
      if ready u j then some (k, j) else none)) = some (k, j))
    (hissue : tryIssue u j = .done v) : ∃ cnt, doInstructionIssue n s = showMst (takeTurn v n k cnt) := by
  unfold doInstructionIssue
  rw [if_neg (by simp [ha, ht])]
  simp only [← hu, ← hfirst, hturn, hissue]
  exact ⟨_, rfl⟩

section Complete

variable {s : State} {n : Fin 8} {slot : Fin 16} {j : Job} (ha : awake s = true) (hj : jobAt s n slot = some j)
include ha hj

/-- No instruction in flight has the name, and it is the next one's: the bank of a COMMIT (R290). -/
theorem doInstructionComplete_bank {turn : Nat} (rd : CwRead) (corr : Nat) (bad : Option Nat)
    (hnone : j.ops.find? (fun o => o.key = opKey j.next turn) = none) :
    doInstructionComplete n slot j.next turn rd corr bad s = showMst (commitBank s j) := by
  unfold doInstructionComplete
  rw [ite_awake ha]
  simp only [hj, hnone, if_true]

theorem doInstructionComplete_op {pc turn : Nat} {o : MOp} (rd : CwRead) (corr : Nat)
    (ho : j.ops.find? (fun o => o.key = opKey pc turn) = some o) :
    doInstructionComplete n slot pc turn rd corr none s = showMst (completeOp (s.bump C.MST_SRAMCORR corr 0 n) j o rd) := by
  unfold doInstructionComplete
  rw [ite_awake ha]
  simp only [hj, ho]

end Complete

/-- A FETCHS whose lines are sound and within the space delivers them to the first line that it writes, and leaves the scoreboard. -/
theorem completeOp_fetchs {s : State} {j : Job} {o : MOp} {rd : CwRead} {len a : Nat} {f q : State × Bool}
    (hop : iOp (instrAt j o.pc) = 2) (hlen : len = 64 * bits (instrAt j o.pc) 88 11)
    (haddr : a = bits (instrAt j o.pc) 46 42 * 64 + strideOf j (instrAt j o.pc) o.header o.iter)
    (hf : f = fetchPages s a len rd) (hf2 : f.2 = false) (hq : q = spaceSeek f.1 a len) (hq2 : q.2 = false)
    (hpoison : spacePoison q.1 a len = false) (hbad : spaceBad q.1 a len = false) :
    completeOp s j o rd = (fun x => cancelEnd ((setJob q.1 x).bump C.MST_FETCHSBYTES len 0 j.mst) x)
      (opDone (sramWrite j ((o.writes.headD (0, 0)).1) (spaceRead q.1 a len)) o) := by
  unfold completeOp
  simp only [hop, ← hlen, ← haddr, ← hf, hf2, ← hq, hq2, hpoison, hbad, Bool.false_eq_true, or_self, if_false]

/-! ## The statement -/

/-- Settles O47, command by command: the guard is open, and the lemma of the command names the branch that it takes. -/
theorem jobCommandsAct : Obligations.JobCommandsAct := by
  refine ⟨?submit, ?submitBad, ?cancel, ?requeue, ?cancelCmd, ?requeueCmd, ?dispatch, ?issue, ?bank, ?fetchs, ?complete⟩
  case submit =>
    intro s j u ha hj hu hin hst hok
    refine ⟨_, next_eq ((doJobSubmit_free ha hj hu hin hst).trans (if_neg (ne_true_of_eq_false hok))), ?_, ?_, ?_⟩
    · rw [showMst_mst, cmdWrites_jseq, submitResult_mst, queueRecord_jseq, hu, submitRegs_mst]
    · rw [showMst_mst, cmdWrites_queue, submitResult_mst, queueRecord_queue, hu, submitRegs_mst]
    · rw [showMst_result, cmdWrites_submitResult_zero]
  case submitBad =>
    intro s j u ha hj hu hin hst hbad
    exact next_eq ((doJobSubmit_free ha hj hu hin hst).trans (if_pos hbad))
  case cancel =>
    rintro s j u ha hj rfl hin hst
    obtain ⟨hr, hqueue⟩ := cancelJob_queued _ j hin hst
    exact ⟨_, next_eq (doJobCancel_accepted ha hj hr), cmdWrites_submitResult_zero _, (cmdWrites_queue _).trans hqueue⟩
  case requeue =>
    rintro s j u ha hj rfl hin hst
    obtain ⟨hr, hqueue⟩ := requeueJob_failed _ j hin hst
    exact ⟨_, next_eq (doJobRequeue_accepted ha hj hr), cmdWrites_submitResult_zero _, (cmdWrites_queue _).trans hqueue⟩
  case cancelCmd =>
    rintro s sess j u ha rfl rfl hin hst
    obtain ⟨hr, hqueue⟩ := cancelJob_queued _ _ hin hst
    exact ⟨_, next_eq ((ite_awake ha _ _).trans (if_pos hr)), cmdStat_cmdDone .., hqueue⟩
  case requeueCmd =>
    rintro s sess j u ha rfl rfl hin hst
    obtain ⟨hr, hqueue⟩ := requeueJob_failed _ _ hin hst
    exact ⟨_, next_eq ((ite_awake ha _ _).trans (if_pos hr)), cmdStat_cmdDone .., hqueue⟩
  case dispatch =>
    intro s q j n k a b hd hq hp hf hra hrb hwa hwb
    exact next_eq (doJobDispatch_only hd hq hp hf hra hrb hwa hwb)
  case issue =>
    intro s n k first j u v ha ht hu hfirst hturn hissue
    obtain ⟨cnt, hdone⟩ := doInstructionIssue_done ha ht hu hfirst hturn hissue
    refine ⟨_, next_eq hdone, ?_⟩
    rw [showMst_mst]
    exact ⟨rfl, rfl⟩
  case bank =>
    intro s n slot turn corr rd bad j ha hj hnone
    exact next_eq (doInstructionComplete_bank ha hj rd corr bad hnone)
  case fetchs =>
    rintro s n slot pc turn corr len a rd j o u f q ha hj ho hop rfl hlen haddr hf hf2 hq hq2 hpoison hbad
    refine next_eq ((doInstructionComplete_op ha hj rd corr ho).trans (congrArg showMst ?_))
    exact completeOp_fetchs hop hlen haddr hf hf2 hq hq2 hpoison hbad
  case complete =>
    intro s n slot pc turn corr rd j o ha hj ho
    exact next_eq (doInstructionComplete_op ha hj rd corr ho)

end Sys2Proof.Proofs
end

section
/-! PROOFS. Commits, waits, completions, the write port, the requester's contexts and the resume scan (R279, R280, R284, R286, R290,
R294, R295, R297, R300, R303). -/

namespace Sys2Proof.Proofs

open Sys2Proof Sys2Proof.Machine Sys2Proof.Laws

/-! ## Commits, timeouts and waits of a job in a slot (R279, R286, R290, R294) -/

/-- A commit past its bank waits for line 0 alone. -/
theorem commitBank_lineZero {s : State} {j : Job} (hphase : j.phase = 2) : commitBank s j = s :=
  if_neg (by simp [hphase])

section Slot

variable {s : State} {n : Fin 8} {slot : Fin 16} {j : Job} (ha : awake s = true) (hj : jobAt s n slot = some j)
include ha hj

theorem doStageCommitComplete_ends (hphase : j.phase = 2) (hreqs : j.commitReqs = [])
    (hend : iOp (instrAt j (nextStage j).1) = 0x10) : doStageCommitComplete n slot s =
      showMst (completion ((dropJob (s.bump C.MST_STAGES 1 0 n) j.index).bump C.MST_DONE 1 0 n) j.index 3 0 j.jseq) := by
  unfold doStageCommitComplete
  rw [ite_awake ha]
  simp only [hj, commitBank_lineZero hphase, hphase, hreqs, hend, List.all_nil, List.any_nil, ne_eq, not_true_eq_false,
    Bool.not_true, Bool.false_eq_true, or_self, if_false, if_true]
  rfl

theorem doStageTimeout_late {pc : Nat} (hlate : lateFetch j = some pc) :
    doStageTimeout n slot s = showMst (failJob s j 1 pc 0 0) := by
  unfold doStageTimeout
  rw [ite_awake ha]
  simp only [hj, hlate]

section Wait

variable (hw : atWait j = true)
include hw

/-- A WAIT that has begun: its limit runs out by the form that bits 115 to 114 name. -/
theorem doWaitLimitExpiry_atWait : doWaitLimitExpiry n slot s =
    if bits (instrAt j j.next) 114 2 = 0 then showMst (setJob s { j with waitOk := true })
    else if bits (instrAt j j.next) 90 24 = 0 then s
    else showMst (failJob s j 8 j.next 0 0) := by
  unfold doWaitLimitExpiry
  rw [ite_awake ha]
  simp only [hj, hw, Bool.not_true, Bool.false_eq_true, if_false]

theorem doWaitWordPoll_matches {a : Nat} {q : State × Bool} (hform : bits (instrAt j j.next) 114 2 = 2)
    (haddr : a = bits (instrAt j j.next) 35 42 * 64 + strideOf j (instrAt j j.next) j.pc j.iter) (hq : q = spaceSeek s a 64)
    (hq2 : q.2 = false) (hbad : spaceBad q.1 a 64 = false) (hpoison : spacePoison q.1 a 64 = false)
    (hword : leNat (spaceRead q.1 a 4) = bits (instrAt j j.next) 3 32) :
    doWaitWordPoll n slot s = showMst (setJob q.1 { j with waitOk := true }) := by
  unfold doWaitWordPoll
  rw [ite_awake ha]
  simp only [hj, hw, hform, ← haddr, ← hq, hq2, hbad, hpoison, hword, Bool.not_true, Bool.false_eq_true, ne_eq,
    not_true_eq_false, or_self, if_false, if_true]

end Wait

end Slot

/-! ## The write port (R280) -/

/-- The bytes that MST_JWDATA holds. -/
def portBytes (s : State) : List Nat := (List.range 16).flatMap (fun i => leBytes (s.rd R.MST_JWDATA i) 4)

/-- A write of the port is under way: BUSY until it is durable. -/
def portWrites (q : State × Nat) : State :=
  { q.1 with mst := { q.1.mst with jwReq := [q.2] } }.wr R.MST_JWSTAT_BUSY (b2n (!mstDurable q.1 q.2))

section Port

variable {s : State} {a : Nat} (ha : awake s = true) (haddr : a = s.rd R.MST_JWADDRL * 64 + s.rd R.MST_JWADDRH * 2 ^ 32)
include ha haddr

theorem doJobWritePort_outside (hbad : spaceBad s a 64 = true) : doJobWritePort s = s.wr R.MST_JWSTAT_REFUSED 1 := by
  unfold doJobWritePort
  rw [ite_awake ha]
  simp only [← haddr, hbad, true_or, or_true, if_true]

theorem doJobWritePort_writes (hidle : s.mst.jwReq = []) (hbad : spaceBad s a 64 = false) (hf : fenced s (a / 4096) = false) :
    doJobWritePort s = portWrites (mstWrite (s.wr R.MST_JWSTAT_REFUSED 0) a (portBytes s)) := by
  unfold doJobWritePort
  rw [ite_awake ha]
  simp only [← haddr, hidle, hbad, hf, List.all_nil, Bool.not_true, Bool.false_eq_true, or_self, if_false]
  rfl

end Port

/-! ## The requester's contexts (R295) -/

section Context

variable {s : State} {i : Nat} (ha : awake s = true) (hi : i = s.rd R.MST_QPUPD_INDEX)
include ha hi

theorem doMstQpWrite_idle (h2 : (rqAt s i).qstate ≠ 2) (h3 : (rqAt s i).qstate ≠ 3) :
    doMstQpWrite s = setRq (s.wr R.MST_QPUPDSTAT_REFUSED 0) i (rqOf (mstQpData s)) := by
  subst hi
  exact (ite_awake ha _ _).trans (if_neg (not_or.2 ⟨h2, h3⟩))

theorem doMstQpWrite_rts (h3 : (rqAt s i).qstate = 3) : doMstQpWrite s = s.wr R.MST_QPUPDSTAT_REFUSED 1 := by
  subst hi
  exact (ite_awake ha _ _).trans (if_pos (.inr h3))

end Context

/-! ## The statement -/

/-- Settles O48, command by command: the guard is open, and the lemma of the command names the branch that it takes. -/
theorem millstoneActs : Obligations.MillstoneActs := by
  refine ⟨?commit, ?timeout, ?waitTime, ?waitLimit, ?waitWord, ?take, ?portOutside, ?portWrites, ?qpWrite, ?qpRefused, ?qpRead,
    ?qpError, ?inspectError, ?scan⟩
  case commit =>
    intro s n slot j ha hj hphase hreqs hend
    exact next_eq (doStageCommitComplete_ends ha hj hphase hreqs hend)
  case timeout =>
    intro s n slot j pc ha hj hlate
    exact next_eq (doStageTimeout_late ha hj hlate)
  case waitTime =>
    intro s n slot j ha hj hw htime
    exact next_eq ((doWaitLimitExpiry_atWait ha hj hw).trans (if_pos htime))
  case waitLimit =>
    intro s n slot j ha hj hw hform hlimit
    exact next_eq ((doWaitLimitExpiry_atWait ha hj hw).trans ((if_neg hform).trans (if_neg hlimit)))
  case waitWord =>
    intro s n slot j a q ha hj hw hform haddr hq hq2 hbad hpoison hword
    exact next_eq (doWaitWordPoll_matches ha hj hw hform haddr hq hq2 hbad hpoison hword)
  case take =>
    intro s ha
    exact ⟨_, next_eq (ite_awake ha _ _), by rw [showMst_mst]⟩
  case portOutside =>
    intro s ha hbad
    exact next_eq (doJobWritePort_outside ha rfl hbad)
  case portWrites =>
    rintro s a q ha haddr hidle hbad hf rfl
    exact ⟨_, next_eq (doJobWritePort_writes ha haddr hidle hbad hf), rfl, rd_wr_self ..⟩
  case qpWrite =>
    intro s i ha hi h2 h3
    exact next_eq (doMstQpWrite_idle ha hi h2 h3)
  case qpRefused =>
    intro s i ha hi h3
    exact next_eq (doMstQpWrite_rts ha hi h3)
  case qpRead =>
    intro s ha
    exact next_eq (ite_awake ha _ _)
  case qpError =>
    intro s ha
    exact next_eq (ite_awake ha _ _)
  case inspectError =>
    intro s sess ha hi
    exact next_eq ((ite_awake ha _ _).trans (if_pos hi))
  case scan =>
    intro s hd harea
    refine ⟨_, next_eq (if_neg (by simp [hd, harea])), ?_⟩
    rw [showMst_mst, raise_mst]

end Sys2Proof.Proofs
end

section
/-! PROOFS. The farrier: which wait is granted next, and what a request, a grant, a release and a retry do (R326 to R328). -/

namespace Sys2Proof.Proofs

open Sys2Proof Sys2Proof.Machine Sys2Proof.Laws

/-! ## The order of the waits (R326) -/

/-- Wait `a` is granted no later than wait `b`: a higher activity code, or the same one and no higher an owner number. -/
def Precedes (a b : FarReq) : Prop := actCode b.owner < actCode a.owner ∨ (actCode b.owner = actCode a.owner ∧ a.owner ≤ b.owner)

theorem Precedes.refl (a : FarReq) : Precedes a a := .inr ⟨rfl, Nat.le_refl _⟩

theorem Precedes.trans {a b c : FarReq} (h : Precedes a b) (g : Precedes b c) : Precedes a c := by
  unfold Precedes at *
  omega

theorem firstOf_mem (a b : FarReq) : firstOf a b = a ∨ firstOf a b = b := by
  unfold firstOf
  split
  · exact .inr rfl
  · split
    · exact .inl rfl
    · split
      · exact .inr rfl
      · exact .inl rfl

theorem firstOf_precedes (a b : FarReq) : Precedes (firstOf a b) a ∧ Precedes (firstOf a b) b := by
  unfold firstOf Precedes
  split
  · omega
  · split
    · omega
    · split <;> omega

theorem foldl_firstOf_mem (l : List FarReq) (a : FarReq) : l.foldl firstOf a ∈ a :: l := by
  induction l generalizing a with
  | nil => exact List.mem_singleton_self a
  | cons b l ih =>
    rcases List.mem_cons.1 (ih (firstOf a b)) with h | h
    · rw [List.foldl_cons, h]
      rcases firstOf_mem a b with e | e <;> simp [e]
    · exact List.mem_cons_of_mem _ (List.mem_cons_of_mem _ h)

theorem foldl_firstOf_precedes (l : List FarReq) (a : FarReq) : ∀ x ∈ a :: l, Precedes (l.foldl firstOf a) x := by
  induction l generalizing a with
  | nil =>
    intro x hx
    rw [List.mem_singleton.1 hx]
    exact .refl a
  | cons b l ih =>
    have hfirst := ih (firstOf a b) _ List.mem_cons_self
    obtain ⟨ha, hb⟩ := firstOf_precedes a b
    intro x hx
    rcases List.mem_cons.1 hx with rfl | hx
    · exact hfirst.trans ha
    · rcases List.mem_cons.1 hx with rfl | hx
      · exact hfirst.trans hb
      · exact ih _ x (List.mem_cons_of_mem _ hx)

/-- The waits for resource `n` that may be granted now. -/
def grantable (s : State) (n : Nat) : List FarReq := s.far.waits.filter (fun w => w.res = n && grants s w.owner)

theorem mem_grantable {s : State} {n : Nat} {w : FarReq} :
    w ∈ grantable s n ↔ w ∈ s.far.waits ∧ w.res = n ∧ grants s w.owner = true := by simp [grantable]

/-- The wait granted next is one of those that may be granted, and precedes them all. -/
theorem nextWait_first {s : State} {n : Nat} {w : FarReq} (h : nextWait s n = some w) :
    w ∈ grantable s n ∧ ∀ x ∈ grantable s n, Precedes w x := by
  unfold nextWait at h
  unfold grantable
  split at h
  · cases h
  next v l e =>
    cases h
    rw [e]
    exact ⟨foldl_firstOf_mem l v, foldl_firstOf_precedes l v⟩

/-! ## Requests and grants (R326) -/

theorem actCode_owner {a i : Nat} (h : i < 128) : actCode (128 * a + i) = a := by
  unfold actCode
  omega

theorem not_has_of_find? {α : Type} {m : Sparse α} {k : Nat} (h : m.find? k = none) : m.has k = false := by simp [Sparse.has, h]

/-- A free resource is granted at once to an owner that does not wait for it. -/
theorem farAsk_grants {s : State} {owner n : Nat} (hfree : s.far.held.find? n = none)
    (hw : s.far.waits.any (fun w => w.res = n && w.owner = owner) = false) (hg : grants s owner = true) :
    (farAsk s owner n).far.held.find? n = some owner := by
  have e : farAsk s owner n = showFar { s with far := { s.far with held := s.far.held.ins n owner } } n :=
    (if_neg (by simp [hfree, hw])).trans (if_pos (by simp [not_has_of_find? hfree, hg]))
  rw [e, fr_showFar_far]
  simp

/-- A request takes no resource from its holder. -/
theorem farAsk_holder {s : State} {k o : Nat} (h : s.far.held.find? k = some o) (owner n : Nat) :
    (farAsk s owner n).far.held.find? k = some o := by
  unfold farAsk
  split
  · exact h
  · split
    next _ hfree =>
      have hk : k ≠ n := by
        rintro rfl
        simp [Sparse.has, h] at hfree
      simpa [hk] using h
    next => simpa using h

/-- A retry takes no resource from its holder. -/
theorem farAskNext_holder {s : State} {k o : Nat} (h : s.far.held.find? k = some o) (fuel owner : Nat) :
    (farAskNext fuel owner s).far.held.find? k = some o := by
  induction fuel generalizing s with
  | zero => exact h
  | succ fuel ih =>
    unfold farAskNext
    split
    · exact h
    · split
      · exact h
      · refine ih (farAsk_holder ?_ _ _)
        exact h

/-- The grant of a free resource to the wait that precedes. -/
theorem farGrant_grants {s : State} {n : Nat} {w : FarReq} (hfree : s.far.held.find? n = none) (hw : nextWait s n = some w) :
    (farGrant s n).far.held.find? n = some w.owner := by
  unfold farGrant
  rw [if_neg (by simp [not_has_of_find? hfree]), hw]
  refine farAskNext_holder ?_ _ _
  rw [fr_showFar_far]
  simp

/-! ## The farrier's commands (R326 to R328) -/

theorem doFarrierRequest_asks {s : State} {owner : Nat} (ha : awake s = true) (ho : ownerOk owner = true) (res : List Nat) :
    doFarrierRequest owner res s = (res.filter (fun n => decide (n < 122))).foldl (fun t n => farAsk t owner n) s :=
  if_neg (by simp [ha, ho])

theorem doFarrierRequest_one {s : State} {owner n : Nat} (ha : awake s = true) (ho : ownerOk owner = true) (hn : n < 122) :
    doFarrierRequest owner [n] s = farAsk s owner n := by
  rw [doFarrierRequest_asks ha ho, List.filter_cons_of_pos (by simpa using hn), List.filter_nil, List.foldl_cons, List.foldl_nil]

theorem doFarrierRelease_releases {s : State} {owner n : Nat} (ha : awake s = true) (hh : s.far.held.find? n = some owner)
    (hw : higherWaits s owner n = false) : doFarrierRelease owner n s = farRelease s owner n :=
  (if_neg (by simp [ha, hh])).trans (if_neg (by simp [hw]))

/-- A holder whose wait expires drops all, and its retry is noted; CAL's runs, owner 640, report what they lose as well. -/
theorem doWaitrelExpiry_drops {s : State} {owner h : Nat} {w : FarReq} (ha : awake s = true) (hh : heldBy s owner = [h])
    (hw : s.far.waits.find? (fun w => w.owner = owner) = some w) (ho : owner ≠ 640) :
    ∃ ns, doWaitrelExpiry owner s = raise { farDrop s owner with
      far := { (farDrop s owner).far with retry := (farDrop s owner).far.retry.ins owner ns } } 0x3060 [owner, h, w.res] := by
  unfold doWaitrelExpiry
  rw [if_neg (by simp [ha]), hh, hw]
  exact ⟨_, if_neg (by simp [ho])⟩

theorem doRetrygapExpiry_asks {s : State} {owner : Nat} {ns : List Nat} (ha : awake s = true)
    (hr : s.far.retry.find? owner = some ns) : doRetrygapExpiry owner s = farAskNext 128 owner { s with
      far := { s.far with retry := s.far.retry.del owner, asking := s.far.asking.ins owner ns } } := by
  unfold doRetrygapExpiry
  rw [if_neg (by simp [ha]), hr]

/-! ## The statement -/

/-- Settles O14: the fold over the waits that may be granted keeps the one that precedes those seen so far. -/
theorem farrierGrants : Obligations.FarrierGrants := by
  refine ⟨?code, ?free, ?first, ?granted, ?each⟩
  case code =>
    intro a i hi
    exact actCode_owner hi
  case free =>
    intro s owner n hfree hw hg
    exact farAsk_grants hfree hw hg
  case first =>
    intro s n w h
    obtain ⟨hmem, hfirst⟩ := nextWait_first h
    obtain ⟨hw, hres, hg⟩ := mem_grantable.1 hmem
    exact ⟨hw, hres, hg, fun x hx hxn hxg => hfirst x (mem_grantable.2 ⟨hx, hxn, hxg⟩)⟩
  case granted =>
    intro s n w hfree hw
    exact farGrant_grants hfree hw
  case each =>
    intro s owner res ha ho
    exact next_eq (doFarrierRequest_asks ha ho res)

end Sys2Proof.Proofs
end

section
/-! PROOFS. The DRAM channels: refresh, sidebands, self-refresh, marks, the training helpers and retraining (R310, R311, R317, R321,
R322). -/

namespace Sys2Proof.Proofs

open Sys2Proof Sys2Proof.Machine Sys2Proof.Laws

@[simp] theorem drcAt_setDrc (s : State) (c : Nat) (d : DrcSt) : drcAt (setDrc s c d) c = d := by simp [drcAt, setDrc]

theorem drcAt_farDrop (s : State) (owner c : Nat) : drcAt (farDrop s owner) c = drcAt s c :=
  congrArg (·.get c {}) (fr_farDrop_drc s owner)

theorem rbit_bump (s : State) (x : Ctr) (n i b : Nat) (F : Fld) (k d : Nat) : (s.bump x n i b).rbit F k d = s.rbit F k d := rfl

theorem awake_of_rising {s : State} (h : s.dev = .rising) : awake s = true := by simp [awake, h]

/-! ## Refresh, sidebands and self-refresh (R310, R311) -/

section Refresh

variable {s : State} {c : Fin 16} {rank : Fin 4} (ha : awake s = true) (hr : s.running (42 + c) = true)
  (hsr : s.rbit R.DRC_SR_RANKSR rank c = false)
include ha hr hsr

/-- While requests wait, a refresh is postponed up to POSTPONE times. -/
theorem doRefreshDue_postpones (hp : (drcAt s c).postponed.get rank 0 < s.rd R.DRC_REF_POSTPONE 0 c) :
    doRefreshDue c rank true s = setDrc s c
      { drcAt s c with postponed := (drcAt s c).postponed.ins rank ((drcAt s c).postponed.get rank 0 + 1) } :=
  (ite_awake ha _ _).trans ((if_neg (by simp [hr, hsr])).trans (if_pos ⟨rfl, hp⟩))

/-- With no request waiting, the refresh and those owed are issued. -/
theorem doRefreshDue_issues : doRefreshDue c rank false s =
    (setDrc s c { drcAt s c with postponed := (drcAt s c).postponed.del rank }).bump C.DRC_REFRESH
      ((drcAt s c).postponed.get rank 0 + 1) 0 c :=
  (ite_awake ha _ _).trans ((if_neg (by simp [hr, hsr])).trans ((if_neg (by simp)).trans (if_neg (by simp))))

end Refresh

/-- The temperatures of a channel's two DIMMs are shown. -/
def tempsShown (s : State) (c : Nat) (t0 t1 : BitVec 16) : State :=
  (s.wr R.DRC_TEMP_DIMM0 t0.toNat 0 c).wr R.DRC_TEMP_DIMM1 t1.toNat 0 c

theorem rd_tempsShown (s : State) (c : Nat) (t0 t1 : BitVec 16) :
    (tempsShown s c t0 t1).rd R.DRC_TEMP_DIMM0 0 c = t0.toNat ∧ (tempsShown s c t0 t1).rd R.DRC_TEMP_DIMM1 0 c = t1.toNat := by
  have hkey : R.DRC_TEMP_DIMM0.key 0 c ≠ R.DRC_TEMP_DIMM1.key 0 c := by
    simp only [Fld.key, R.DRC_TEMP_DIMM0, R.DRC_TEMP_DIMM1, ne_eq]
    omega
  refine ⟨(rd_wr_other _ _ _ _ _ _ _ _ hkey).trans ?_, ?_⟩ <;>
  exact (rd_wr_self ..).trans (Nat.mod_eq_of_lt (BitVec.isLt _))

/-- Outside SERVING a sideband read asks for no retrain. -/
theorem doSidebandRead_shows {s : State} {c : Fin 16} (t0 t1 : BitVec 16) (ha : awake s = true) (hr : s.running (42 + c) = true)
    (hd : s.dev ≠ .serving) : ∃ d, doSidebandRead c t0 t1 [] s = setDrc (tempsShown s c t0 t1) c d := by
  unfold doSidebandRead
  rw [if_neg (by simp [ha]), if_neg (by simp [hr])]
  dsimp only
  split
  next h _ _ => exact absurd h hd
  next => exact ⟨_, rfl⟩

theorem doRankIdleSelfRefresh_enters {s : State} {c : Fin 16} {rank : Fin 4} (hd : s.dev = .serving)
    (hwalk : s.rd R.GAI_CUR_CURRENT = 0) (he : s.on R.DRC_SR_ENSR 0 c = true) (ho : s.rd R.DRC_ADDRMAP_ORDER 0 c ≠ 1)
    (hr : s.running (42 + c) = true) (hsr : s.rbit R.DRC_SR_RANKSR rank c = false) :
    doRankIdleSelfRefresh c rank s = (s.wbit R.DRC_SR_RANKSR rank true c).bump C.DRC_SRENTRY 1 0 c :=
  if_pos ⟨hd, hwalk, he, ho, hr, by simp [hsr]⟩

/-! ## The training helpers (R321) -/

/-- Outside RISING every operation but a mode register read is refused. -/
theorem trnStart_refused {s : State} {c op : Nat} (hop : op ≠ 3) (hd : s.dev ≠ .rising)
    (hb : (s.wr R.DRC_TRNCTL_OP op 0 c).on R.DRC_TRNSTAT_BUSY 0 c = false) :
    trnStart s c op = (s.wr R.DRC_TRNCTL_OP op 0 c).wr R.DRC_TRNSTAT_REFUSED 1 0 c :=
  (if_neg (by simp [hb])).trans (if_pos ⟨hd, hop⟩)

theorem on_busy_wr_op (s : State) (c op : Nat) :
    (s.wr R.DRC_TRNCTL_OP op 0 c).on R.DRC_TRNSTAT_BUSY 0 c = s.on R.DRC_TRNSTAT_BUSY 0 c := by
  have hkey : R.DRC_TRNSTAT_BUSY.key 0 c ≠ R.DRC_TRNCTL_OP.key 0 c := by
    simp only [Fld.key, R.DRC_TRNSTAT_BUSY, R.DRC_TRNCTL_OP, ne_eq]
    omega
  simp only [State.on, rd_wr_other _ _ _ _ _ _ _ _ hkey]

/-- In RISING an idle channel takes the operation up. -/
theorem trnStart_begins {s : State} {c op : Nat} (hd : s.dev = .rising) (hb : s.on R.DRC_TRNSTAT_BUSY 0 c = false) :
    (drcAt (trnStart s c op) c).trn.map (fun w => w.head?) = some (some op) := by
  have e : ∃ t w, trnStart s c op = setDrc t c { drcAt t c with trn := some (op :: w) } :=
    ⟨_, _, (if_neg (by simp [on_busy_wr_op, hb])).trans (if_neg (fun h => h.1 hd))⟩
  obtain ⟨t, w, e⟩ := e
  rw [e, drcAt_setDrc]
  rfl

/-- The operation under way ends, and the channel is no longer BUSY. -/
theorem doTrainingOpDone_ends {s : State} {c : Fin 16} {w : List Nat} (lanes : List Nat) (bursts : Nat)
    (hw : (drcAt s c).trn = some w) (ha : awake s = true) : ∃ t : State, doTrainingOpDone c lanes bursts s =
      setDrc (t.wr R.DRC_TRNSTAT_BUSY 0 0 c) c { drcAt (t.wr R.DRC_TRNSTAT_BUSY 0 0 c) c with trn := none } := by
  unfold doTrainingOpDone
  rw [if_neg (by simp [ha]), hw]
  exact ⟨_, rfl⟩

/-! ## Retraining (R322) -/

/-- A rank retrained under both tokens keeps its oscillator's reading, and the tokens go back. -/
theorem doRetrainDone_ends {s : State} {c : Fin 16} {r : Nat} (osc : Nat) (hr : (drcAt s c).retrain = some r)
    (hh : farHolds s (768 + c) [c.val, 48 + c.val] = true) (ha : awake s = true) : doRetrainDone c true osc [] s =
      farDrop (setDrc s c { drcAt s c with retrain := none, osc := (drcAt s c).osc.ins r osc }) (768 + c) := by
  unfold doRetrainDone
  rw [if_neg (by simp [ha]), hr]
  exact if_pos hh

/-! ## The statement -/

/-- Settles O49, event by event: one lemma on `trnStart` serves the four training operations. -/
theorem dramActs : Obligations.DramActs := by
  refine ⟨?postponed, ?issued, ?sideband, ?selfRefresh, ?marks, ?writeRefused, ?compareRefused, ?loopbackRefused, ?write, ?compare,
    ?modeRead, ?loopback, ?done, ?retrained⟩
  case postponed =>
    intro s c rank hr hsr hp ha
    exact next_eq (doRefreshDue_postpones ha hr hsr hp)
  case issued =>
    intro s c rank hr hsr ha
    exact next_eq (doRefreshDue_issues ha hr hsr)
  case sideband =>
    intro s c t0 t1 hr hd ha
    obtain ⟨d, e⟩ := doSidebandRead_shows t0 t1 ha hr hd
    exact ⟨_, next_eq e, rd_tempsShown s c t0 t1⟩
  case selfRefresh =>
    intro s c rank hd hwalk he ho hr hsr
    refine ⟨_, next_eq (doRankIdleSelfRefresh_enters hd hwalk he ho hr hsr), ?_⟩
    rw [rbit_bump]
    exact rbit_wbit_self _ _ _ _ _ rank.isLt
  case marks =>
    intro s c ha
    exact ⟨_, next_eq (ite_awake ha _ _), by rw [drcAt_setDrc]⟩
  case writeRefused =>
    intro s c ha hd hb
    exact next_eq ((ite_awake ha _ _).trans (trnStart_refused (by decide) hd hb))
  case compareRefused =>
    intro s c ha hd hb
    exact next_eq ((ite_awake ha _ _).trans (trnStart_refused (by decide) hd hb))
  case loopbackRefused =>
    intro s c ha hd hb
    exact next_eq ((ite_awake ha _ _).trans (trnStart_refused (by decide) hd hb))
  case write =>
    intro s c hd hb
    exact ⟨_, next_eq (ite_awake (awake_of_rising hd) _ _), trnStart_begins hd hb⟩
  case compare =>
    intro s c hd hb
    exact ⟨_, next_eq (ite_awake (awake_of_rising hd) _ _), trnStart_begins hd hb⟩
  case modeRead =>
    intro s c hd hb
    exact ⟨_, next_eq (ite_awake (awake_of_rising hd) _ _), trnStart_begins hd hb⟩
  case loopback =>
    intro s c hd hb
    exact ⟨_, next_eq (ite_awake (awake_of_rising hd) _ _), trnStart_begins hd hb⟩
  case done =>
    intro s c lanes bursts w hw ha
    obtain ⟨t, e⟩ := doTrainingOpDone_ends lanes bursts hw ha
    exact ⟨_, next_eq e, by rw [drcAt_setDrc], rd_wr_self ..⟩
  case retrained =>
    intro s c osc r hr hh ha
    exact ⟨_, next_eq (doRetrainDone_ends osc hr hh ha), by simp [drcAt_farDrop], by simp [drcAt_farDrop]⟩

end Sys2Proof.Proofs
end

section
/-! PROOFS. Groom bursts and rates, and the farrier's commands (R323, R324, R326 to R328). -/

namespace Sys2Proof.Proofs

open Sys2Proof Sys2Proof.Machine Sys2Proof.Laws

/-- A burst reads the channel's next 64 lines, then yields the channel's token to a higher wait. -/
theorem doGroomBurst_reads {s : State} {c : Fin 16} (errs : List LineErr) (hd : s.dev = .serving) (hr : s.running 19 = true)
    (hh : farHolds s (384 + c) [c.val] = true) (hn : (grmAt s c).next < channelLines s) (hs : groomSleeps s c = false) {u : State}
    (hu : u = (List.range 64).foldl
      (fun u i => readLine u (unstripe u c (64 * ((grmAt s c).next + i)) / 64) (errs.getD i []) .groom) s) :
    doGroomBurst c errs s =
      farYield (groomPass (showGroom (setGrm u c { grmAt u c with next := (grmAt s c).next + 64 }))) (384 + c) c := by
  unfold doGroomBurst
  rw [if_pos ⟨hd, hr, hh, hn, by simp [hs]⟩, hu]

/-- Every channel's rate is computed from the row in force, and MUL from the errors of the last hour unless it is frozen. -/
theorem doGroomRateRecompute_rates {s u : State} (ha : awake s = true) (hr : s.running 19 = true)
    (hu : u = (List.range 16).foldl (fun u c => setRate u c (rowInForce s 19).groommul
      (if u.on R.GRM_ADAPT_FREEZE then max 1 (grmAt u c).mul
        else min (u.rd R.GRM_ADAPT_MAXMUL) (1 + (recentCes u c).length / max 1 (u.rd R.GRM_ADAPT_CETH)))) s) :
    doGroomRateRecompute s = showGroom { u with grm := { u.grm with lastCalc := u.now } } := by
  unfold doGroomRateRecompute
  rw [if_neg (by simp [ha]), if_neg (by simp [hr]), hu]

/-- Settles O50, event by event, with the farrier's commands as O14 has them. -/
theorem groomingAndFarrierActs : Obligations.GroomingAndFarrierActs := by
  refine ⟨?burst, ?rates, ?request, ?release, ?waitrel, ?retry⟩
  case burst =>
    rintro s c errs n u hd hr hh rfl hn hs hu
    exact next_eq (doGroomBurst_reads errs hd hr hh hn hs hu)
  case rates =>
    intro s u hr hu ha
    exact next_eq (doGroomRateRecompute_rates ha hr hu)
  case request =>
    intro s owner n ha ho hn hfree hw hg
    exact ⟨_, next_eq (doFarrierRequest_one ha ho hn), farAsk_grants hfree (by simp [hw]) hg⟩
  case release =>
    intro s owner n ha hh hw
    exact next_eq (doFarrierRelease_releases ha hh hw)
  case waitrel =>
    rintro s owner h w u hh hw ho rfl ha
    obtain ⟨ns, e⟩ := doWaitrelExpiry_drops ha hh hw ho
    exact ⟨_, next_eq e, by rw [raise_far], by rw [raise_far], by simp [Sparse.has]⟩
  case retry =>
    intro s owner ns hr ha
    exact next_eq (doRetrygapExpiry_asks ha hr)

end Sys2Proof.Proofs
end

section
/-! PROOFS. Superblocks, and the events of the store that no ring asks for: rows, erases, dies, openings, reclaim, walks and the
patrol's pace (R336, R340, R341, R345, R348 to R354, R357). -/

namespace Sys2Proof.Proofs

open Sys2Proof Sys2Proof.Machine Sys2Proof.Laws

/-! ## Superblock numbers (R262, R336) -/

theorem dpc_pos (s : State) : 0 < dpc s := Nat.two_pow_pos _

/-- A block and a die of the geometry are quotient and remainder of their superblock's number. -/
theorem locSb_eq_iff {s : State} {l : SLoc} (hl : l.die < dpc s) (k : Nat) :
    locSb s l = k ↔ l.block = k / dpc s ∧ l.die = k % dpc s := by
  have hsb : locSb s l = l.die + dpc s * l.block := by rw [Nat.add_comm, Nat.mul_comm]; rfl
  have huniq := Nat.div_mod_unique (a := k) (d := l.block) (c := l.die) (dpc_pos s)
  rw [hsb, eq_comm (a := l.block), eq_comm (a := l.die), huniq]
  exact (and_iff_left hl).symm

theorem inSaveArea_iff (s : State) (k : Nat) : inSaveArea s k = true ↔ s.rd R.SAV_AREA_SBBASE ≤ k / dpc s ∧
    k / dpc s < s.rd R.SAV_AREA_SBBASE + s.rd R.SAV_AREA_SBCOUNT := by
  simp [inSaveArea, dpc]

theorem saveSb_div (s : State) (j : Nat) : saveSb s j / dpc s = s.rd R.SAV_AREA_SBBASE + j / dpc s := by
  rw [saveSb, Nat.mul_comm, Nat.mul_add_div (dpc_pos s)]

theorem saveSb_mod (s : State) (j : Nat) : saveSb s j % dpc s = j % dpc s := by
  rw [saveSb, Nat.mul_comm, Nat.mul_add_mod]

/-- Settles O9: DPC is positive, so a superblock's number divides into block and die in one way. -/
theorem superblockNumbers : Obligations.SuperblockNumbers := by
  intro s k
  exact ⟨fun l hl => locSb_eq_iff hl k, fun w n => ⟨rfl, rfl⟩, inSaveArea_iff s k, fun j => ⟨saveSb_div s j, saveSb_mod s j⟩⟩

/-! ## Rows (R340, R341) -/

/-- The pads that complete an open row: codewords without content in the places that are left. -/
def rowPads (s : State) (r : OpenRow) : List RowEnt :=
  (List.range (rowSize s r.sb - r.ents.length)).map (fun i =>
    { what := 0, ref := 0, word := { kind := 5, spage := 0, epoch := 0, poison := 0, data := [] }
      loc := rowLoc s r.sb r.row (r.ents.length + i), source := {} })

theorem length_rowPads (s : State) (r : OpenRow) : (rowPads s r).length = rowSize s r.sb - r.ents.length := by
  rw [rowPads, List.length_map, List.length_range]

/-- The row is completed with pads and programming. -/
def rowPadded (s : State) (r : OpenRow) : State :=
  { s with stf := { s.stf with open_ := some { r with ents := r.ents ++ rowPads s r, programming := true } } }

section Events

variable {s : State} (ha : awake s = true)
include ha

/-- A begun row that waits too long is padded, programmed and reported with the number of its pads. -/
theorem doRowStripewaitExpiry_pads {r : OpenRow} (ho : s.stf.open_ = some r) (hp : r.programming = false) (he : r.ents ≠ [])
    (hd : s.dev ≠ .saving) : doRowStripewaitExpiry s =
      raise ((rowPadded s r).bump C.STF_PADDED (rowSize s r.sb - r.ents.length)) 0x34E0
        [r.sb, r.row, rowSize s r.sb - r.ents.length] := by
  refine (ite_awake ha _ _).trans ?_
  simp only [ho]
  exact if_neg (by simp [hp, he, hd])

theorem doWordlineVerified_ends {r : OpenRow} (ho : s.stf.open_ = some r) (hp : r.programming = true)
    (hr : rowRuns s r = true) : doWordlineVerified s = rowDone s r := by
  refine (ite_awake ha _ _).trans ?_
  simp only [ho]
  exact if_pos ⟨hp, hr⟩

/-! ## Erases and dies (R345, R348, R349, R352) -/

theorem doEraseVerified_frees {k : Nat} (hk : s.stf.erasing.has k = true) : doEraseVerified k s =
    (fun u => reclaimEnd (retireCheck (eraseAnswer (eraseFree u k) k 0) k)) { s with stf := { s.stf with
      erasing := s.stf.erasing.del k, suspended := s.stf.suspended.del k
      esusp := s.stf.esusp.keep (fun n => decide (n % 32 ≠ k % dpc s)) } } :=
  (ite_awake ha _ _).trans (if_pos hk)

/-- The member that failed no longer erases, is not suspended, and is retired; the other members go on. -/
theorem doEraseVerifyFailed_retires {k : Nat} {ch : Fin 32} (hb : bit (s.stf.erasing.get k 0) ch = true) :
    doEraseVerifyFailed k ch s = retireMember (showErase { s with stf := { s.stf with
      erasing := s.stf.erasing.ins k (bitClr (s.stf.erasing.get k 0) ch)
      suspended := s.stf.suspended.put k (bitClr (s.stf.suspended.get k 0) ch) 0 } } k) k ch (Config.payloadCode 0x3440 2) :=
  (ite_awake ha _ _).trans (if_pos hb)

/-- Where no erase of the die is under way, its suspended program goes on. -/
theorem doOperationResume_program {ch : Fin 32} {die : Nat} (hs : s.stf.saving = false) (he : erasingOn s ch die = none) :
    doOperationResume ch die s =
      { s with stf := { s.stf with phalt := s.stf.phalt.filter (· ≠ 32 * ch.val + die) } } := by
  have he' : erasingOn { s with stf := { s.stf with phalt := s.stf.phalt.filter (· ≠ 32 * ch.val + die) } } ch die = none := he
  refine (ite_awake ha _ _).trans ((if_neg (by simp [hs])).trans ?_)
  simp only [he']

theorem doDieFailed_lists {ch die : Fin 32} (hr : s.running 18 = true) (hb : bit (s.rd R.STF_DIEFAIL ch) die = false) :
    doDieFailed ch die s = (fun ks : List Nat =>
      relocAdd (raise (s.wr R.STF_DIEFAIL (bitSet (s.rd R.STF_DIEFAIL ch) die) ch) (0x3460 + ch) [die, ks.length]) ks)
        (validKeys s (fun l => l.ch = ch.val && l.die = die.val)) :=
  (ite_awake ha _ _).trans (if_neg (by simp [hr, hb]))

/-! ## Openings and reclaim (R351, R354) -/

section Opens

variable {k : Nat} (hr : s.running 18 = true) (hk : k < superblocks s) (hfree : (blkAt s k).state = 0)
  (hstore : inSaveArea s k = false)
include hr hk hfree hstore

/-- A FREE superblock whose cells are clean opens with no row written. -/
theorem doSuperblockOpen_clean : doSuperblockOpen k false s =
    (fun t : State => { t with stf := { t.stf with high := t.stf.high.del k } }) (setBlk s k { blkAt s k with state := 3 }) :=
  (ite_awake ha _ _).trans ((if_pos ⟨hr, hk, hfree, by simp [hstore]⟩).trans (if_neg Bool.false_ne_true))

theorem doSuperblockOpen_suspect : doSuperblockOpen k true s =
    raise (setBlk s k { blkAt s k with state := 6 }) 0x34A0 [k, Config.payloadCode 0x34A0 1] :=
  (ite_awake ha _ _).trans ((if_pos ⟨hr, hk, hfree, by simp [hstore]⟩).trans (if_pos rfl))

end Opens

theorem doReclaimStart_begins (hr : s.running 18 = true) (hlow : s.rd R.STF_STAT_FREESB < s.rd R.STF_RECLAIM_LOWATER)
    (hidle : s.stf.reclaim = false) (hw : s.on R.STF_STAT_WALK = false) : doReclaimStart s =
      (fun t : State => { t with stf := { t.stf with reclaim := true, victim := pickVictim t } })
        (raise s 0x34C0 [s.rd R.STF_STAT_FREESB, s.rd R.STF_RECLAIM_LOWATER]) :=
  (ite_awake ha _ _).trans (if_pos ⟨hr, hlow, by simp [hidle], by simp [hw]⟩)

/-! ## Walks (R350, R353) -/

/-- The start walk, over a table kept or a blank one, ends by counting the free superblocks and beginning the valid-count walk. -/
theorem doStfStartWalk_walks (hr : s.running 18 = true) (hnot : s.stf.walked = false) (hm : mapResident s = true) :
    ∃ t : State, doStfStartWalk s = (t.wr R.STF_STAT_FREESB (countFree t)).wr R.STF_STAT_WALK 1 :=
  ⟨_, (ite_awake ha _ _).trans (if_neg (by simp [hr, hnot, hm]))⟩

theorem doValidCountWalkDone_ends (hw : s.on R.STF_STAT_WALK = true) :
    ∃ t : State, doValidCountWalkDone s = t.wr R.STF_STAT_WALK 0 :=
  ⟨_, (ite_awake ha _ _).trans (if_pos hw)⟩

end Events

/-! ## The patrol's pace (R357) -/

theorem doPatrolPace_asks {s : State} (ch : Fin 32) (hd : s.dev = .serving) (hstf : s.running 18 = true)
    (hgrm : s.running 19 = true) : doPatrolPace ch s = farAsk s (256 + ch) (16 + ch) :=
  if_pos ⟨hd, hstf, hgrm⟩

/-! ## The statement -/

/-- Settles O52, event by event: each guard is open, and the lemma of the event names what follows. -/
theorem stripesAndSuperblocksAct : Obligations.StripesAndSuperblocksAct := by
  refine ⟨?padded, ?verified, ?erased, ?eraseFailed, ?resumes, ?dieFails, ?opens, ?suspect, ?reclaim, ?startWalk, ?walkDone, ?asks,
    ?granted⟩
  case padded =>
    intro s r e es ho hp he hd ha
    refine ⟨_, next_eq (doRowStripewaitExpiry_pads ha ho hp (by simp [he]) hd), ?_⟩
    rw [raise_stf, bump_stf]
    simp only [rowPadded, Option.map_some, List.length_append, length_rowPads]
  case verified =>
    intro s r ho hp hr ha
    exact next_eq (doWordlineVerified_ends ha ho hp hr)
  case erased =>
    rintro s k u hk rfl ha
    exact next_eq (doEraseVerified_frees ha hk)
  case eraseFailed =>
    intro s k ch hb ha
    exact next_eq (doEraseVerifyFailed_retires ha hb)
  case resumes =>
    intro s ch die hs he ha
    exact next_eq (doOperationResume_program ha hs he)
  case dieFails =>
    rintro s ch die ks hr hb rfl ha
    exact next_eq (doDieFailed_lists ha hr hb)
  case opens =>
    intro s k hr hk hfree hstore ha
    refine ⟨_, next_eq (doSuperblockOpen_clean ha hr hk hfree hstore), ?_⟩
    exact congrArg BlkSt.state (setBlk_blkAt s k { blkAt s k with state := 3 })
  case suspect =>
    intro s k hr hk hfree hstore ha
    exact next_eq (doSuperblockOpen_suspect ha hr hk hfree hstore)
  case reclaim =>
    intro s hr hlow hidle hw ha
    exact ⟨_, next_eq (doReclaimStart_begins ha hr hlow hidle hw), rfl⟩
  case startWalk =>
    intro s hr hnot _ hm ha
    obtain ⟨t, e⟩ := doStfStartWalk_walks ha hr hnot hm
    exact ⟨_, next_eq e, rd_wr_self ..⟩
  case walkDone =>
    intro s hw ha
    obtain ⟨t, e⟩ := doValidCountWalkDone_ends ha hw
    exact ⟨_, next_eq e, rd_wr_self ..⟩
  case asks =>
    intro s ch hd hstf hgrm
    exact next_eq (doPatrolPace_asks ch hd hstf hgrm)
  case granted =>
    intro s ch hd hstf hgrm hfree hw hg
    exact ⟨_, next_eq (doPatrolPace_asks ch hd hstf hgrm), farAsk_grants hfree (by simp [hw]) hg⟩

end Sys2Proof.Proofs
end

section
/-! PROOFS. The block's steps and runs, and what reset meets. -/

namespace Sys2Proof.Proofs

open Sys2Proof Sys2Proof.Machine Sys2Proof.Laws

/-- Settles O1: the front of the queue names the branch of `step`. -/
theorem stepRunsTheFrontCommand : Obligations.StepRunsTheFrontCommand := fun _ _ _ h => step_front h

/-- Settles O4: the lists that the canonical forms speak of are empty after reset. -/
theorem resetIsCanonical : Obligations.ResetIsCanonical :=
  ⟨⟨rfl, ⟨⟨⟨rfl, rfl⟩, rfl, rfl⟩, rfl⟩, rfl, rfl⟩, rfl⟩

/-! ## Runs -/

/-- A step, a command or a tick, adds outputs, burns fuses and does not turn the clock back. -/
theorem step_forward {s t : State} (h : step s = .next t) : s.fuses.grown t.fuses ∧ s.now ≤ t.now ∧ s.out <:+ t.out := by
  cases hp : s.pending with
  | nil =>
    rw [step_idle hp] at h
    obtain ⟨-, hnow, hout, hfuse, -⟩ := tick_all s
    obtain rfl := Host.Outcome.next.inj h
    exact ⟨hfuse, Nat.le_trans (Nat.le_succ _) (Nat.le_of_eq hnow.symm), hout⟩
  | cons c rest =>
    rw [step_front hp] at h
    obtain ⟨-, -, hnow, hout, hfuse⟩ := commandsStayInTheirParts c _ t h
    exact ⟨hfuse, Nat.le_of_eq hnow.symm, hout⟩

/-- Settles O3, by induction on the length of the run. -/
theorem runsOnlyBurnFuses : Obligations.RunsOnlyBurnFuses := by
  intro f n h
  induction n with
  | zero => exact ⟨grown_refl _, Nat.le_refl _, List.suffix_refl _⟩
  | succ n ih =>
    obtain ⟨hfuse, hnow, hout⟩ := ih (fun i hi => h i (Nat.lt_succ_of_lt hi))
    obtain ⟨gfuse, gnow, gout⟩ := step_forward (h n (Nat.lt_succ_self n))
    exact ⟨grown_trans hfuse gfuse, Nat.le_trans hnow gnow, hout.trans gout⟩

/-! ## The queue -/

/-- No command stops: from every state a step leads to a next state. -/
theorem step_next (s : State) : ∃ t, step s = .next t := by
  cases hp : s.pending with
  | nil => exact ⟨_, step_idle hp⟩
  | cons c rest =>
    rw [step_front hp]
    generalize ho : exec c _ = o
    have hc := exec_staysIn c { s with pending := rest }
    rw [ho] at hc
    obtain ⟨-, -, -⟩ := hc
    exact ⟨_, rfl⟩

/-- The state that a step leads to. -/
def after (s : State) : State :=
  match step s with
  | .next t => t
  | _ => s

theorem step_eq_after (s : State) : step s = .next (after s) := by
  obtain ⟨t, ht⟩ := step_next s
  rw [after, ht]

/-- A step takes the front of the queue at one clock value. -/
theorem after_front {s : State} {c : Instr} {rest : List Instr} (h : s.pending = c :: rest) :
    (after s).pending = rest ∧ (after s).now = s.now := by
  have he := step_eq_after s
  rw [step_front h] at he
  obtain ⟨-, hpend, hnow, -, -⟩ := commandsStayInTheirParts c _ _ he
  exact ⟨hpend, hnow⟩

theorem after_idle {s : State} (h : s.pending = []) : after s = tick s :=
  Host.Outcome.next.inj ((step_eq_after s).symm.trans (step_idle h))

/-- The run from a state: `step` again and again. -/
def runFrom (s : State) : Nat → State
  | 0 => s
  | i + 1 => after (runFrom s i)

/-- As long as commands wait, step i takes command i. -/
theorem runFrom_drains (s : State) (i : Nat) (hi : i ≤ s.pending.length) :
    (runFrom s i).pending = s.pending.drop i ∧ (runFrom s i).now = s.now := by
  induction i with
  | zero => exact ⟨rfl, rfl⟩
  | succ i ih =>
    obtain ⟨hpend, hnow⟩ := ih (Nat.le_of_succ_le hi)
    obtain ⟨gpend, gnow⟩ := after_front (hpend.trans (List.drop_eq_getElem_cons hi))
    exact ⟨gpend, gnow.trans hnow⟩

/-- A drained queue stays empty. -/
theorem runFrom_idles (s : State) (i : Nat) (hi : s.pending.length ≤ i) : (runFrom s i).pending = [] := by
  induction hi with
  | refl => rw [(runFrom_drains s _ (Nat.le_refl _)).1, List.drop_length]
  | @step i _ ih =>
    obtain ⟨hpend, -⟩ := tick_all (runFrom s i)
    rw [runFrom, after_idle ih, hpend, ih]

/-- Settles O2 by the run `runFrom`. -/
theorem queuesDrain : Obligations.QueuesDrain := fun s =>
  ⟨runFrom s, rfl, fun _ => step_eq_after _, runFrom_drains s,
    fun i hi => ⟨after_idle (runFrom_idles s i hi), runFrom_idles s i hi⟩⟩

end Sys2Proof.Proofs
end

section
/-! PROOFS. The event recorder: records and suppressed occurrences (R436 to R438). -/

namespace Sys2Proof.Proofs

open Sys2Proof Sys2Proof.Machine Sys2Proof.Laws

/-- What leaves for a session is no matter of the ring. -/
theorem notifyOne_ring (s : State) (n : Nat) (r : EvRec) : (notifyOne s n r).recd.ring = s.recd.ring := by
  unfold notifyOne
  split
  · rfl
  · dsimp only
    split
    · split <;> rfl
    · split <;> rfl

/-- A record is the newest of the ring, under the next sequence, with what was suppressed of its code. -/
theorem record_ring (s : State) (code : Nat) (payload : List Nat) (summary : Bool) (named : List Nat) (sev : Nat) :
    ∃ r : EvRec, (record s code payload summary named sev).recd.ring = (r :: s.recd.ring).take 16384 ∧
      r.seq = s.recd.head + 1 ∧ r.code = code ∧ r.payload = payload ∧ r.sev = sev ∧
      r.suppressed = s.recd.suppressed.get code 0 :=
  ⟨_, foldl_keep (fun u n => notifyOne u n _) (fun u => u.recd.ring) _ _ (fun u n => notifyOne_ring u n _), rfl, rfl, rfl, rfl, rfl⟩

theorem occur_recorded {s : State} {code : Nat} (h : hasToken s code = true) (payload named : List Nat) (sev : Nat) :
    occur s code payload named sev = record s code payload false named sev := if_pos h

theorem occur_suppressed {s : State} {code : Nat} (h : hasToken s code = false) (payload named : List Nat) (sev : Nat) :
    occur s code payload named sev =
      { s with recd := { s.recd with suppressed := s.recd.suppressed.ins code (s.recd.suppressed.get code 0 + 1) } } :=
  if_neg (by simp [h])

/-- Settles O19, by the token that the occurrence finds or not; the frame is `raise`'s. -/
theorem eventsAreRecordedOrCounted : Obligations.EventsAreRecordedOrCounted := by
  intro s code payload named sev
  refine ⟨fun h => ?_, fun h => ?_, fun p hp => ?_⟩
  · rw [occur_recorded h]
    exact ⟨record_head .., record_ring ..⟩
  · rw [occur_suppressed h]
    exact ⟨rfl, rfl, (Sparse.get_ins ..).trans (if_pos rfl)⟩
  · have hk := keep_raise (code := code) (payload := payload) (Sub.refl _) (Keeps.refl _ s)
    exact hk.same p (testBit_of_maskOutside hp rfl)

end Sys2Proof.Proofs
end

section
/-! PROOFS. Requests by the button and by command, refused resets, the main shaft, and the tables' ends (R375, R376, R389, R391,
R393, R396, R397, R408). -/

namespace Sys2Proof.Proofs

open Sys2Proof Sys2Proof.Machine Sys2Proof.Laws

/-! ## Resets of level 1 that are refused (R391) -/

theorem blockRefused_of {s : State} {b : Nat}
    (h : b ∈ [12, 13, 14] ∨ (s.dev = .serving ∧ (42 ≤ b ∨ b ∈ [18, 21, 22, 23, 25]))) : blockRefused s b = true := by
  simp only [List.mem_cons, List.not_mem_nil, or_false] at h
  simp only [blockRefused, Bool.or_eq_true, Bool.and_eq_true, decide_eq_true_eq]
  obtain h | ⟨hd, h⟩ := h
  · omega
  · exact .inr ⟨hd, by omega⟩

/-- A source that may ask for level 1 is refused a block that R391 lists. -/
theorem requestedReset_blockRefused {s : State} {src b : Nat} (drains : Bool) (h7 : reachOf s src ≠ 7) (h1 : 1 ≤ reachOf s src)
    (hb : blockRefused s b = true) :
    requestedReset s src 1 b drains = (refuseReset s { level := 1, source := src, block := b } 1, false) := by
  have hlev : ¬reachOf s src < 1 := by omega
  simp [requestedReset, takeReset, h7, hlev, hb]

/-- Settles O10, by `requestedReset_blockRefused` for software and for debug. -/
theorem levelOneResetsRefused : Obligations.LevelOneResetsRefused := by
  refine ⟨fun s a cmd ha hl h7 h1 hb => ?_, fun s a ha hdbg hl h7 h1 hb => ?_, fun t e code => ?_⟩
  · refine ⟨1, _, rfl, next_eq ((if_pos ha).trans ?_)⟩
    rw [softReset, hl, requestedReset_blockRefused _ h7 h1 (blockRefused_of hb)]
    rfl
  · refine ⟨1, next_eq ((if_pos ⟨ha, hdbg⟩).trans ?_)⟩
    rw [hl, requestedReset_blockRefused _ h7 h1 (blockRefused_of hb)]
    rfl
  · rw [cmdStat_cmdFail]

/-! ## The button, on and off requests (R375, Table 12.3) -/

/-- RISING starts from step 0 with nothing latched, the shaft unlocked and its lock requested. -/
theorem startRising_starts (s : State) (w : Nat) :
    (startRising s w).rd R.PWR_SEQSTAT_PHASE = 1 ∧ (startRising s w).rd R.PWR_SEQSTAT_STEP = 0 ∧
      (startRising s w).rd R.PWR_SEQSTAT_ONLATCH = 0 ∧ (startRising s w).rd R.CLK_STAT_LOCKED = 0 ∧
      (startRising s w).clk.locking = true := by
  refine ⟨?_, ?_, ?_, ?_, rfl⟩ <;>
    simp (disch := decide) only [startRising, beginStretch, requestLock, stopShaft, stepBegin, rd_rst, rd_clk, rd_pwr, rd_wr_other,
      rd_wr_self] <;> rfl

theorem onRequest_saved {s : State} (h : s.dev = .saved) : onRequest s = latchOn s := by simp [onRequest, latchOn, h]

theorem latchOn_latched (s : State) : (latchOn s).rd R.PWR_SEQSTAT_ONLATCH = 1 := (rd_raise ..).trans (rd_wr_self ..)

@[simp] theorem latchOn_dev (s : State) : (latchOn s).dev = s.dev := raise_dev ..

theorem offRequest_serving_dev {s : State} (h : s.dev = .serving) : (offRequest s).dev = .saving := by
  rw [offRequest, powerDown_serving _ h]
  exact startSave_dev ..

/-- A press that is long enough asks for on where the device is off or on its way there, else for off. -/
theorem doPwrBtnPress_long {s : State} {ms : Nat} (hd : s.dev ≠ .off) (hm : 10 * s.rd R.PWR_CTL_BTNMIN ≤ ms) :
    doPwrBtnPress ms s =
      if s.dev = .standby ∨ s.dev = .saving ∨ s.dev = .saved ∨ s.dev = .falling then onRequest s else offRequest s :=
  if_neg (by simp [hd, hm])

/-- Settles O22: each request by the device state that it finds. -/
theorem powerRequestsAct : Obligations.PowerRequestsAct := by
  refine ⟨?press, ?short, ?pressSaved, ?pressServing, ?onCmd, ?offCmd⟩
  case press =>
    intro s ms hd hm
    refine ⟨startRising s 1, next_eq ?_, startRising_dev .., startRising_starts ..⟩
    rw [doPwrBtnPress_long (by simp [hd]) hm, if_pos (by simp [hd]), onRequest, hd]
  case short =>
    intro s ms hm
    exact next_eq (if_pos (.inr hm))
  case pressSaved =>
    intro s ms hd hm
    refine ⟨latchOn s, next_eq ?_, (latchOn_dev s).trans hd, latchOn_latched s⟩
    rw [doPwrBtnPress_long (by simp [hd]) hm, if_pos (by simp [hd]), onRequest_saved hd]
  case pressServing =>
    intro s ms hd hm
    refine ⟨offRequest s, next_eq ?_, offRequest_serving_dev hd⟩
    rw [doPwrBtnPress_long (by simp [hd]) hm, if_neg (by simp [hd])]
  case onCmd =>
    intro s hd
    refine ⟨cmdDone (latchOn s) (ekey 0x2A01 2), next_eq ?_, latchOn_latched s, cmdStat_cmdDone ..⟩
    rw [doOnRequestCmd, if_neg (by simp [awake, hd]), if_pos (by simp [hd]), onRequest_saved hd]
  case offCmd =>
    intro s hd
    refine ⟨offRequest (cmdDone s (ekey 0x2A01 1)), next_eq (if_pos (by simp [awake, hd])), offRequest_serving_dev ?_⟩
    exact hd

/-! ## The main shaft (R393, R396, R397, R408) -/

/-- A fall from another state than FALLING starts at step 0. -/
theorem fallNow_starts {s : State} (w : Nat) (hd : s.dev ≠ .falling) :
    (fallNow s w).dev = .falling ∧ (fallNow s w).rd R.PWR_SEQSTAT_PHASE = 2 ∧ (fallNow s w).rd R.PWR_SEQSTAT_STEP = 0 := by
  rw [fallNow, if_neg hd]
  exact ⟨startFall_dev .., startFall_phase .., startFall_step ..⟩

@[simp] theorem tornFlash_dev (s : State) : (tornFlash s).dev = s.dev :=
  (keep_tornFlash (Sub.refl _) (Keeps.refl _ s)).same .dev rfl

/-- A request of level 4 in SAVING waits for SAVED. -/
theorem sourceReset_saving_waits {s : State} {src : Nat} (hd : s.dev = .saving) (hr : reachOf s src = 4) :
    sourceReset s src = { s with rst := { s.rst with pend4 := some { level := 4, source := src, block := 0 } } } := by
  simp [sourceReset, takeReset, hr, hd]

/-- The device in holdover, its reference lost (R396). -/
def heldOver (s : State) : State :=
  let t := ({ s with clk := { s.clk with refOk := false } } : State).wr R.RST_CLK_REFLOSS 1
  let t := raise (t.wr R.CLK_STAT_HOLDOVER 1) 0x4420 [s.dev.code]
  let t := raise t 0x4040 [1, t.rd R.RST_CLK_LOCKLOSS, t.rd R.RST_CLK_SHAFTLOSS, s.dev.code]
  setBkp t 2 (bitSet (bkp t 2) 2)

/-- In SAVING the main shaft is to lock to the backup at once. -/
def relocking (s : State) : State :=
  ({ heldOver s with clk := { (heldOver s).clk with locking := true, refwaitOver := true } } : State).wr R.CLK_STAT_LOCKED 0

theorem doClockFailure_saving {s : State} (hd : s.dev = .saving) (hs : shaftRuns s = true) (hr : s.clk.refOk = true) :
    doClockFailure s = sourceReset (relocking s) 6 := by
  exact (if_neg (by simp [hd, hr])).trans ((if_pos hs).trans (if_pos hd))

/-- What the shaft's lock leaves before the clusters' gates and the way out of RISING follow it. -/
def locked (s : State) (ref : Bool) (us : Nat) : State :=
  let src := b2n s.clk.refwaitOver
  let t : State := { s with clk := { s.clk with refOk := ref, locking := false } }
  let t := ((t.wr R.CLK_STAT_SRC src).wr R.CLK_STAT_HOLDOVER 0).wr R.CLK_STAT_LOCKED 1
  let t := setBkp t 2 (bitClr (bkp t 2) 2)
  raise t 0x4400 [src, t.rd R.CLK_CFG_VCO, us]

theorem locked_regs (s : State) (ref : Bool) (us : Nat) :
    (locked s ref us).rd R.CLK_STAT_LOCKED = 1 ∧ (locked s ref us).rd R.CLK_STAT_HOLDOVER = 0 ∧
      (locked s ref us).rd R.CLK_STAT_SRC = b2n s.clk.refwaitOver := by
  refine ⟨?_, ?_, ?_⟩ <;> simp (disch := decide) only [locked, rd_raise, rd_setBkp, rd_wr_other, rd_wr_self]
  · rfl
  · rfl
  · exact b2n_mod _

/-- The gates show in GATED_DOMAINS alone. -/
theorem showGates_rd (s : State) (F : Fld) (i b : Nat) (h : F.key i b ≠ R.CLK_GATED_DOMAINS.key 0 0) :
    (showGates s).rd F i b = s.rd F i b :=
  (rd_wr_other _ _ _ _ _ _ _ _ h).trans (rd_wr_other _ _ _ _ _ _ _ _ h)

/-- The gates after the lock. -/
def ungated (s : State) : State := showGates (s.wr R.CLK_GATED_DOMAINS 0)

theorem ungated_rd (s : State) (F : Fld) (i b : Nat) (h : F.key i b ≠ R.CLK_GATED_DOMAINS.key 0 0) :
    (ungated s).rd F i b = s.rd F i b :=
  (showGates_rd _ _ _ _ h).trans (rd_wr_other _ _ _ _ _ _ _ _ h)

theorem tryLeaveRising_outside {s : State} (h : s.dev ≠ .rising) : tryLeaveRising s = s := if_neg (fun hc => h hc.1)

theorem tryLeaveRising_unlocked {s : State} (h : s.on R.CLK_STAT_LOCKED = false) : tryLeaveRising s = s :=
  if_neg (by simp [h])

theorem doMainShaftLock_saving {s : State} {ref : Bool} (us : Nat) (hd : s.dev = .saving) (hl : s.clk.locking = true)
    (hr : ref = true ∨ s.clk.refwaitOver = true) : doMainShaftLock ref us s = ungated (locked s ref us) := by
  have hd' : (locked s ref us).dev = .saving := by simpa [locked] using hd
  refine (if_pos ⟨by simp [awake, hd], hl, hr⟩).trans ?_
  show tryLeaveRising (ungated (if s.dev = .rising then boot (locked s ref us) else locked s ref us)) = _
  rw [if_neg (by simp [hd])]
  exact tryLeaveRising_outside (by simp [ungated, hd'])

/-! ## The tables' ends (R376) -/

/-- Without shadows a quiet point changes no register above the common ones. -/
theorem quietPoint_rd {s : State} (n : Nat) (h : s.rf.shadow = []) {F : Fld} {i b : Nat} (hk : 0x40 ≤ F.key i b / 32 % 1048576) :
    (quietPoint s n).rd F i b = s.rd F i b :=
  rd_of_find? (quietPoint_leaves (by rw [h]; rfl) (by rw [h]; rfl) hk)

/-- The rising table has reached END. -/
def tableEnded (s : State) : State := ({ s with pwr := { s.pwr with risen := true } } : State).wr R.PWR_SEQSTAT_PHASE 0

/-- The sequencer is idle after the rising table, and PWR's quiet point follows (R60, R369). -/
def risen (s : State) : State := quietPoint (tableEnded s) 12

theorem risen_rd {s : State} (h : s.rf.shadow = []) {F : Fld} (hk : 0x40 ≤ F.key 0 0 / 32 % 1048576)
    (hp : F.key 0 0 ≠ R.PWR_SEQSTAT_PHASE.key 0 0) : (risen s).rd F = s.rd F :=
  (quietPoint_rd (s := tableEnded s) 12 h hk).trans (rd_wr_other _ _ _ _ _ _ _ _ hp)

theorem risen_phase {s : State} (h : s.rf.shadow = []) : (risen s).rd R.PWR_SEQSTAT_PHASE = 0 :=
  (quietPoint_rd (s := tableEnded s) 12 h (by decide)).trans (rd_wr_self ..)

@[simp] theorem quietPoint_pwr (s : State) (n : Nat) : (quietPoint s n).pwr = s.pwr :=
  (keep_quietPoint (Sub.refl _) (Keeps.refl _ s)).same .pwr rfl

/-- Settles O24: each event's branch, and the registers that the operations on it leave. -/
theorem clocksAndTableEndsAct : Obligations.ClocksAndTableEndsAct := by
  refine ⟨?loss, ?failureStandby, ?failureSaving, ?refwait, ?lock, ?risen, ?fallen⟩
  case loss =>
    intro s a b hs hr hab hd
    refine ⟨_, next_eq (if_pos ⟨hs, hr, hab⟩), fallNow_starts _ ?_⟩
    rw [fr_stopShaft_dev, fr_coldEffect_dev]
    split <;> simpa using hd
  case failureStandby =>
    intro s hd hr
    refine ⟨_, next_eq ((if_neg (by simp [hd, hr])).trans (if_neg (by simp [shaftRuns, awake, hd]))), rfl, rd_wr_self ..⟩
  case failureSaving =>
    intro s hd hs hr h6
    have hd' : (relocking s).dev = .saving := by simpa [relocking, heldOver] using hd
    have h6' : reachOf (relocking s) 6 = 4 := by
      simp (disch := decide) only [reachOf, relocking, heldOver, rd_wr_other, rd_clk, rd_setBkp, rd_raise]
      exact h6
    refine ⟨_, next_eq ((doClockFailure_saving hd hs hr).trans (sourceReset_saving_waits hd' h6')), hd', rfl, rfl, ?_, ?_, rfl⟩
    · simp (disch := decide) only [relocking, heldOver, rd_rst, rd_wr_other, rd_clk, rd_setBkp, rd_raise, rd_wr_self]
      rfl
    · exact rd_wr_self ..
  case refwait =>
    intro s hl hw
    refine ⟨_, next_eq (if_pos ⟨hl, by simp [hw]⟩), ?_⟩
    rw [raise_clk]
    exact ⟨rfl, rfl, hl⟩
  case lock =>
    intro s ref us hd hl hr
    obtain ⟨h1, h2, h3⟩ := locked_regs s ref us
    refine ⟨_, next_eq (doMainShaftLock_saving us hd hl hr), ?_, ?_, ?_, ?_, ?_⟩
    · simp [ungated, locked]
    · simp [ungated, locked]
    · exact (ungated_rd _ _ _ _ (by decide)).trans h1
    · exact (ungated_rd _ _ _ _ (by decide)).trans h2
    · exact (ungated_rd _ _ _ _ (by decide)).trans h3
  case risen =>
    intro s hd hp he hsh hoff hl
    have hoff' : (risen s).on R.PWR_SEQSTAT_OFFPEND = false := by rwa [State.on, risen_rd hsh (by decide) (by decide)]
    have hl' : (risen s).on R.CLK_STAT_LOCKED = false := by rwa [State.on, risen_rd hsh (by decide) (by decide)]
    refine ⟨risen s, next_eq ?_, (quietPoint_dev ..).trans hd, congrArg Pwr.risen (quietPoint_pwr ..), risen_phase hsh⟩
    refine (if_pos ⟨hd, hp, he⟩).trans ?_
    exact (if_neg (ne_true_of_eq_false hoff')).trans (tryLeaveRising_unlocked hl')
  case fallen =>
    intro s hd hp he h5
    refine ⟨_, next_eq ((if_pos ⟨hp, he⟩).trans (if_pos hd)), ?_⟩
    rw [h5]
    exact enterStandby_dev ..

end Sys2Proof.Proofs
end

section
/-! PROOFS. The steps of the rising and falling tables (R369, R370, R371, R379, R383, R398, Table 12.2). -/

namespace Sys2Proof.Proofs

open Sys2Proof Sys2Proof.Machine Sys2Proof.Laws

/-! ## Where the sequencer stands -/

theorem atStep_phase {s : State} {p op : Nat} (h : atStep s p op = true) : s.rd R.PWR_SEQSTAT_PHASE = p := by
  simp only [atStep, Bool.and_eq_true, decide_eq_true_eq] at h
  exact h.1.1

theorem inStep_phase {s : State} {p op : Nat} (h : inStep s p op = true) : s.rd R.PWR_SEQSTAT_PHASE = p := by
  simp only [inStep, Bool.and_eq_true, decide_eq_true_eq] at h
  exact h.1.1

/-! ## Mask bits and flags -/

theorem rd_wbit_other (s : State) (F G : Fld) (n : Nat) (v : Bool) (b j c : Nat) (h : G.key j c ≠ F.key 0 b) :
    (s.wbit F n v b).rd G j c = s.rd G j c :=
  rd_wr_other _ _ _ _ _ _ _ _ h

/-- A flagged rail changes its flag's register alone. -/
theorem flagRail_rd (s : State) (F : Fld) (r cause : Nat) (G : Fld) (h : G.key 0 0 ≠ F.key 0 0) :
    (flagRail s F r cause).rd G = s.rd G :=
  (rd_raise ..).trans ((rd_snapshot ..).trans (rd_wbit_other _ _ _ _ _ _ _ _ h))

/-! ## The end of a step (R369, R376) -/

/-- No off request waits that the end of a rising step would follow. -/
def NoFall (s : State) : Prop := s.on R.PWR_SEQSTAT_OFFPEND = false ∨ s.rd R.PWR_SEQSTAT_PHASE = 2

theorem stepEnd_advances {s : State} (h : NoFall s) : stepEnd s = stepBegin s ((s.rd R.PWR_SEQSTAT_STEP + 1) % 64) := by
  refine if_neg (fun hc => ?_)
  obtain ⟨hoff, hphase⟩ := hc
  obtain h | h := h
  · exact Bool.false_ne_true (h.symm.trans hoff)
  · exact absurd (h.symm.trans hphase) (by decide)

/-- The sequencer's registers are those of `s`. -/
def SameSeq (s u : State) : Prop := ∀ F ∈ [R.PWR_SEQSTAT_OFFPEND, R.PWR_SEQSTAT_PHASE, R.PWR_SEQSTAT_STEP], u.rd F = s.rd F

/-- A step that ends after the registers changed beside the sequencer's goes on with the next. -/
theorem stepEnd_of {s u : State} (h : NoFall s) (hu : SameSeq s u) :
    stepEnd u = stepBegin u ((s.rd R.PWR_SEQSTAT_STEP + 1) % 64) := by
  simp only [SameSeq, List.forall_mem_cons] at hu
  obtain ⟨hoff, hphase, hstep, -⟩ := hu
  rw [← hstep]
  exact stepEnd_advances (by rwa [NoFall, State.on, hoff, hphase])

theorem stepBegin_next (s : State) (i : Nat) : (stepBegin s (i % 64)).rd R.PWR_SEQSTAT_STEP = i % 64 :=
  (stepBegin_step ..).trans (Nat.mod_mod ..)

theorem stepBegin_rd (s : State) (i : Nat) (F : Fld) (h : F.key 0 0 ≠ R.PWR_SEQSTAT_STEP.key 0 0) : (stepBegin s i).rd F = s.rd F :=
  rd_wr_other _ _ _ _ _ _ _ _ h

/-- Settles O25: each step's branch, and `stepEnd_of` where the step ends. -/
theorem sequencerStepsAct : Obligations.SequencerStepsAct := by
  refine ⟨?enable, ?timeout, ?disable, ?disableTimeout, ?wait, ?waitEnd, ?pmbus, ?pmbusEnd, ?release, ?assert, ?charger⟩
  case enable =>
    intro s hat hr hpg
    refine ⟨_, next_eq ((if_pos hat).trans (if_neg (ne_true_of_eq_false ?_))), rbit_wbit_self s _ _ _ _ hr, rfl⟩
    show bit ((s.wbit R.PWR_ENSTAT _ true).rd R.PWR_PGSTAT) _ = false
    rw [rd_wbit_other _ _ _ _ _ _ _ _ (by decide)]
    exact hpg
  case timeout =>
    intro s hin hh
    refine ⟨_, next_eq ((if_pos hin).trans (if_pos hh)), startFall_dev .., startFall_phase .., ?_, startFall_step ..⟩
    simp (disch := decide) only [startFall, stepBegin, rd_pwr, rd_setDev, rd_wr_other, rd_wr_self]
    rfl
  case disable =>
    intro s hat hr hen hpg
    refine ⟨_, next_eq ((if_pos hat).trans ((if_pos hen).trans (if_pos hpg))), ?_, rfl⟩
    refine Eq.trans ?_ (rbit_wbit_self s R.PWR_ENSTAT _ false 0 hr)
    unfold State.rbit
    simp (disch := decide) only [stepStarted, rd_pwr, showBrownOut, rd_wr_other, rd_wbit_other]
  case disableTimeout =>
    intro s hin
    refine ⟨_, next_eq ((if_pos hin).trans (stepEnd_of (s := s) (.inr (inStep_phase hin)) ?_)), stepBegin_next .., rfl⟩
    simp (disch := decide) [SameSeq, flagRail_rd]
  case wait =>
    intro s hat
    exact next_eq (if_pos hat)
  case waitEnd =>
    intro s hin hoff
    exact ⟨_, next_eq ((if_pos hin).trans (stepEnd_advances (.inl hoff))), stepBegin_next .., rfl, rfl⟩
  case pmbus =>
    intro s hat ha
    exact ⟨_, next_eq ((if_pos hat).trans (if_neg ha)), rfl, rfl⟩
  case pmbusEnd =>
    intro s hin hoff
    exact ⟨_, next_eq ((if_pos hin).trans (stepEnd_advances (.inl hoff))), stepBegin_next .., rfl⟩
  case release =>
    intro s hat ho hst hoff
    refine ⟨_, next_eq ((if_pos hat).trans ((if_pos (.inl hst)).trans (stepEnd_of (s := s) (.inl hoff) ?_))), ?_, stepBegin_next ..⟩
    · simp (disch := decide) [SameSeq, rd_wbit_other]
    · rw [State.rbit, stepBegin_rd _ _ _ (by decide)]
      exact rbit_wbit_self s _ _ _ _ ho
  case assert =>
    intro s hat ho
    refine ⟨_, next_eq ((if_pos hat).trans (stepEnd_of (s := s) (.inr (atStep_phase hat)) ?_)), ?_, stepBegin_next ..⟩
    · simp (disch := decide) [SameSeq, rd_wbit_other]
    · rw [State.rbit, stepBegin_rd _ _ _ (by decide)]
      exact rbit_wbit_self _ _ _ _ _ ho
  case charger =>
    intro s hat ha ht hoff
    refine ⟨_, next_eq ((if_pos hat).trans (stepEnd_of (s := s) (.inl hoff) ?_)), decide_eq_true ha, ?_, stepBegin_next ..⟩
    · simp (disch := decide) [SameSeq, rd_wr_other]
    · rw [stepBegin_rd _ _ _ (by decide), ha, ht]
      exact rd_wr_self ..

end Sys2Proof.Proofs
end

section
/-! PROOFS. The sources of resets (R388, R389, R392, R393, R434, R435). -/

namespace Sys2Proof.Proofs

open Sys2Proof Sys2Proof.Machine Sys2Proof.Laws

/-- A warm reset ends in RISING. -/
theorem warmReset_dev (s : State) (q : ResetReq) : (warmReset s q).dev = .rising := startRising_dev ..

/-- A source of level 4 resets a device that serves with DRAM retained. -/
theorem sourceReset_serving_warm {s : State} {src : Nat} (hd : s.dev = .serving) (hr : reachOf s src = 4) :
    (sourceReset s src).dev = .rising := by
  simp [sourceReset, takeReset, fourOrFive, hr, hd, warmReset_dev]

/-- Level 5, asked for up to its ceiling, starts a save in SERVING. -/
theorem requestedReset_serving_dev {s : State} {src : Nat} (block : Nat) (drains : Bool) (hd : s.dev = .serving)
    (hr : reachOf s src = 5) : (requestedReset s src 5 block drains).1.dev = .saving := by
  simp [requestedReset, takeReset, hr, hd]

/-- An event leaves the reach of the sources. -/
theorem reachOf_raise (s : State) (code : Nat) (p : List Nat) (src : Nat) : reachOf (raise s code p) src = reachOf s src := by
  simp only [reachOf, rd_raise]

/-- A source whose event comes before its reset. -/
theorem sourceReset_raise_dev {s : State} {src : Nat} (code : Nat) (p : List Nat) (hd : s.dev = .serving)
    (hr : reachOf s src = 5) : (sourceReset (raise s code p) src).dev = .saving :=
  sourceReset_serving_dev ((raise_dev ..).trans hd) ((reachOf_raise ..).trans hr)

/-- Settles O28: each source by the level that it reaches, and the watchdog's own commands. -/
theorem resetSourcesAct : Obligations.ResetSourcesAct := by
  refine ⟨?pin5, ?pin4, ?software, ?debug, ?drain, ?kick, ?half, ?expiry, ?lockup⟩
  case pin5 =>
    intro s hd hr
    exact ⟨_, next_eq (if_neg (by simp [hd])), sourceReset_serving_dev hd hr⟩
  case pin4 =>
    intro s hd hr
    exact ⟨_, next_eq (if_neg (by simp [hd])), sourceReset_serving_warm hd hr⟩
  case software =>
    intro s a hd hr hl
    refine ⟨_, next_eq (if_pos (by simp [awake, hd])), ?_⟩
    rw [softReset, hl]
    exact requestedReset_serving_dev _ _ hd hr
  case debug =>
    intro s a hd hdbg hr hl
    refine ⟨_, next_eq (if_pos ⟨by simp [awake, hd], hdbg⟩), ?_⟩
    rw [hl]
    exact requestedReset_serving_dev _ _ hd hr
  case drain =>
    intro s block forced h
    refine next_eq ((if_pos h).trans ?_)
    simp only [bump_rst, raise_rst]
  case kick =>
    intro s cores ha he
    exact next_eq (if_pos ⟨ha, he⟩)
  case half =>
    intro s core hw hh
    exact ⟨_, next_eq (if_pos ⟨hw, by simp [hh]⟩), congrArg Cpx.wdHalf (raise_cpx ..)⟩
  case expiry =>
    intro s core hw hd hr
    exact ⟨_, next_eq (if_pos hw), sourceReset_raise_dev _ _ hd hr⟩
  case lockup =>
    intro s core cause pc hd he hen hr
    exact ⟨_, next_eq (if_pos ⟨by simp [awake, hd], he, hen⟩), sourceReset_raise_dev _ _ hd hr⟩

end Sys2Proof.Proofs
end

section
/-! PROOFS. Sensor rounds and calibration runs (R409, R411, R415 to R417). -/

namespace Sys2Proof.Proofs

open Sys2Proof Sys2Proof.Machine Sys2Proof.Laws

/-- The state of a run that commits, when its targets are written and before it ends. -/
def calWritten (s : State) : State :=
  calRest (calStore ((List.range 16).foldl calDrc { s with cal := { s.cal with temps := calTemps s, run := none } }))

/-- A committed run shows its end: BUSY, the last Tj and the count of runs. -/
def calShown (u : State) : State :=
  ((u.wr R.CAL_STAT_BUSY 0).wr R.CAL_STAT_LASTTJ (u.rd R.SEN_TJ_TJ)).wr R.CAL_RUNS_RUNS (u.rd R.CAL_RUNS_RUNS + 1)

theorem farDrop_cal (s : State) (o : Nat) : (farDrop s o).cal = s.cal :=
  (keep_farDrop (Sub.refl _) (Keeps.refl _ s)).same .cal rfl

/-- A run that drift started, with its tokens held, writes its targets, ends, gives back its tokens and raises 0x4880. -/
theorem doCalRunCommit_drift {s : State} {r : CalRun} (ha : awake s = true) (hr : s.cal.run = some r) (ht : r.trigger = 0)
    (hf : farHolds s calOwner calTokens = true) :
    doCalRunCommit s = raise (farDrop (calShown (calWritten s)) calOwner) 0x4880
      [Config.unstated 30 ((calTemps s).map (fun e => ofTemp16 e.2)), 0] := by
  refine (if_neg (by simp [ha])).trans ?_
  rw [hr]
  refine (if_pos hf).trans ?_
  simp only [ht, Nat.reduceEqDiff, if_false]
  rfl

/-- Settles O54: each command's guard and branch; a commit by `doCalRunCommit_drift`. -/
theorem sensorsAndCalibrationActs : Obligations.SensorsAndCalibrationActs := by
  refine ⟨?sample, ?drift, ?trained, ?cmdReg, ?cmdNow, ?regenerate, ?reload, ?commit⟩
  case sample =>
    intro s temps volts u i tj ha hrun hh hu hhot
    refine next_eq ((if_pos ⟨ha, hrun, by simp [hh]⟩).trans ?_)
    dsimp only
    rw [← hu, hhot]
  case drift =>
    intro s hc hd hh
    exact next_eq ((if_neg (by simp [hc])).trans ((if_neg Bool.false_ne_true).trans (if_pos ⟨hd, by simp [hh]⟩)))
  case trained =>
    intro s hc hd
    exact next_eq ((if_neg (by simp [hc])).trans ((if_pos rfl).trans (if_pos hd)))
  case cmdReg =>
    intro s hc
    exact next_eq (if_pos hc)
  case cmdNow =>
    intro s ha hc
    exact next_eq ((if_neg (by simp [ha])).trans (if_pos hc))
  case regenerate =>
    intro s hd ht hr
    exact ⟨_, next_eq (if_pos ⟨hd, ht, hr⟩), congrArg Cal.corr (raise_cal ..)⟩
  case reload =>
    intro s ha hr
    exact next_eq (if_pos ⟨ha, hr⟩)
  case commit =>
    intro s r u v hr ht hf hu hv ha
    refine ⟨_, next_eq (doCalRunCommit_drift ha hr ht hf), ?_⟩
    rw [raise_cal, farDrop_cal, hv, hu]
    rfl

end Sys2Proof.Proofs
end

section
/-! PROOFS. Checkpoints, takeovers and clusters (R427, R428, R432, R433, Table 14.4). -/

namespace Sys2Proof.Proofs

open Sys2Proof Sys2Proof.Machine Sys2Proof.Laws

/-- ALIVE ends the takeover; the work that waited does not start another one. -/
theorem alive_takeover {s : State} {k : Takeover} (hk : s.cpx.takeover = some k) (hr : k.ret = false) :
    (alive s).cpx.takeover = none := by
  have hdone : (takeoverDone s k).cpx.takeover = none := by simp [takeoverDone]
  simpa [alive, hk, hr] using hdone

/-- RETURN in SERVING: the event, RUNNING, the record without the other cluster's flag, a checkpoint, and the handover. -/
theorem returnGo_hands_over {s : State} (hd : s.dev = .serving) (ht : s.cpx.takeover = none) (he : s.cpx.entry.isSome = true) :
    returnGo s true = (fun v => takeoverStart (checkpoint (writeRecord v (activeCluster v)
      (bitClr (suspectFlags v) (1 - activeCluster s)))) (Config.payloadCode 0x4C20 1) true)
      (cmdRun (switchEvent s 1 (1 - activeCluster s) true) (ekey 0x2C01 1)) := by
  have hok : (decide (s.dev = .serving) && s.cpx.takeover.isNone && s.cpx.entry.isSome) = true := by simp [hd, ht, he]
  rw [returnGo, hok]
  rfl

/-- CLEAR of a SUSPECT cluster outside a takeover ends DONE. -/
theorem clearGo_done {s : State} {c : Nat} (hc : c < 2) (hs : bit (suspectFlags s) c = true) (ht : s.cpx.takeover = none) :
    ∃ u : State, clearGo s c true = cmdDone u (ekey 0x2C01 2) := by
  have hok : (decide (c < 2) && bit (suspectFlags s) c && s.cpx.takeover.isNone) = true := by simp [hc, hs, ht]
  rw [clearGo, hok]
  exact ⟨_, rfl⟩

/-- Settles O55, command by command. -/
theorem complexActs : Obligations.ComplexActs := by
  refine ⟨?due, ?go, ?miss, ?alive, ?failure, ?ret, ?clear⟩
  case due =>
    intro s x hd hx
    exact ⟨_, next_eq (if_pos ⟨.inr hd, by simp [hx]⟩), rfl⟩
  case go =>
    intro s x hd hx ht ha
    exact next_eq ((if_neg (by simp [ha])).trans (if_pos ⟨.inr hd, by simp [hx], by simp [ht]⟩))
  case miss =>
    intro s x hx ha
    exact next_eq ((if_neg (by simp [ha])).trans (if_pos (by simp [hx])))
  case alive =>
    intro s k hk hr ha
    exact ⟨_, next_eq (if_neg (by simp [ha])), alive_takeover hk hr⟩
  case failure =>
    intro s k late hk ha
    refine next_eq ((if_neg (by simp [ha])).trans ?_)
    rw [hk]
  case ret =>
    intro s hd ht he
    exact next_eq ((if_pos (by simp [awake, hd])).trans (returnGo_hands_over hd ht he))
  case clear =>
    intro s c ha hs ht
    obtain ⟨u, hu⟩ := clearGo_done c.isLt hs ht
    exact ⟨_, next_eq ((if_pos ha).trans hu), cmdStat_cmdDone ..⟩

end Sys2Proof.Proofs
end

section
/-! PROOFS. Acknowledgement, events and summaries, the stud book and the machine timers (R423, R426, R437 to R441). -/

namespace Sys2Proof.Proofs

open Sys2Proof Sys2Proof.Machine Sys2Proof.Laws

/-- A 64-bit value written to a pair of 32-bit fields reads back, where the two are different words. -/
theorem rd64_wr64 (s : State) {L H : Fld} {v i : Nat} (hL : L.wid = 32) (hH : H.wid = 32) (hne : L.key i 0 ≠ H.key i 0)
    (hv : v < 2 ^ 64) : (s.wr64 L H v i).rd64 L H i = v := by
  unfold State.rd64 State.wr64
  rw [rd_wr_self, rd_wr_other _ _ _ _ _ _ _ _ hne, rd_wr_self, hL, hH]
  omega

theorem key_ackl_ne_ackh (n : Nat) : R.EVT_ACKL.key n 0 ≠ R.EVT_ACKH.key n 0 := by
  simp only [Fld.key, R.EVT_ACKL, R.EVT_ACKH]
  omega

/-- An event that finds a token, and room in the stud book's queue where it is wanted there, makes one record. -/
theorem raise_recorded {s : State} {code : Nat} (payload : List Nat) (ht : hasToken s code = true)
    (hl : (record s code payload false [] (severity code)).recd.studLost = s.recd.studLost) :
    raise s code payload = record s code payload false [] (severity code) := by
  have ho := occur_recorded ht payload [] (severity code)
  unfold raise raiseTo
  rw [ho]
  exact if_pos hl

/-- The oldest entry leaves the queue with its two copies (R440). -/
theorem doStudbookAppend_studQ {s : State} {e : StudEntry} {rest : List StudEntry} (hq : s.recd.studQ = e :: rest)
    (hg : awake s = true ∧ s.running 3 = true ∧ (!s.kpf.erasing) = true ∧ studNext s ≠ 0) :
    (doStudbookAppend s).recd.studQ = rest := by
  unfold doStudbookAppend
  rw [hq]
  dsimp only
  rw [if_pos hg]
  unfold State.wr64
  simp only [wr_recd, fr_setStudPos_recd]

/-- A scan that finds no torn slot goes on behind the highest entry of the two copies (R441). -/
theorem doStudbookScan_clean {s : State} (hg : awake s = true ∧ s.running 3 = true ∧ studNext s = 0)
    (ha : (scanCopy s 0).2 = none) (hb : (scanCopy s 1).2 = none) :
    doStudbookScan s = (setStudPos (setStudPos s 0 (scanCopy s 0).1) 1 (scanCopy s 1).1).wr64 R.STB_NEXTL R.STB_NEXTH
      (max ((studHighest s 0).map (·.2) |>.getD 0) ((studHighest s 1).map (·.2) |>.getD 0) + 1) := by
  unfold doStudbookScan
  rw [if_pos hg]
  dsimp only
  rw [ha, hb]
  rfl

/-- Settles O56, command by command. -/
theorem recorderAndStudBookActs : Obligations.RecorderAndStudBookActs := by
  refine ⟨?ack, ?tail, ?event, ?recorded, ?summary, ?append, ?scan, ?erased, ?timer⟩
  case ack =>
    intro s n seq ha hseq
    exact ⟨_, next_eq (if_pos ha), rd64_wr64 s rfl rfl (key_ackl_ne_ackh n) hseq⟩
  case tail =>
    intro s index tail ha
    exact next_eq (if_pos ha)
  case event =>
    intro s code payload ha hc
    exact next_eq (if_pos ⟨ha, hc⟩)
  case recorded =>
    intro s code payload ha hc ht hl
    exact ⟨_, next_eq ((if_pos ⟨ha, hc⟩).trans (raise_recorded payload ht hl)), record_head ..⟩
  case summary =>
    intro s code ha hs hlast ht hl
    exact next_eq ((if_pos ⟨ha, hs, hlast, ht⟩).trans (if_pos hl))
  case append =>
    intro s e rest ha hr he hn hq
    exact ⟨_, rfl, doStudbookAppend_studQ hq ⟨ha, hr, by simp [he], hn⟩⟩
  case scan =>
    intro s h ha hr hn h0 h1 hh
    rw [hh]
    exact next_eq (doStudbookScan_clean ⟨ha, hr, hn⟩ h0 h1)
  case erased =>
    intro s he
    exact ⟨_, next_eq (if_pos he), rfl⟩
  case timer =>
    intro s core ht ha
    exact next_eq ((if_neg (by simp [ha])).trans (if_pos ht))

end Sys2Proof.Proofs
end

section
/-! PROOFS. The key engine, its random numbers, and the debug unlock (R457, R458, R463, R464, R470, Table 15.3). -/

namespace Sys2Proof.Proofs

open Sys2Proof Sys2Proof.Machine Sys2Proof.Laws

/-! ## Descriptors (Table 15.3) -/

section Descriptor

variable {s : State} {d k : List Nat}

/-- A descriptor whose mode, key, length and buffers hold is done by `f` on the key. -/
theorem keyRun_done {mode : Bool} (f : List Nat → State) (hm : mode = true → keyMode d ≠ 3) (hk : useKey s (keySlot d) = some k)
    (hl : keyLen d ≤ 65536) (h16 : mode = true → keyMode d = 0 → keyLen d % 16 = 0) (hbuf : keyBufs s d = true) :
    keyRun s d mode f = keySkip 64 (keyDone (f k) d 0) := by
  have hlen : ¬(65536 < keyLen d ∨ (mode = true ∧ keyMode d = 0 ∧ keyLen d % 16 ≠ 0)) := by
    rintro (h | ⟨hmode, h0, hrest⟩)
    · omega
    · exact hrest (h16 hmode h0)
  rw [keyRun, if_neg (fun h => hm h.1 h.2), hk]
  dsimp only
  rw [if_neg hlen, if_neg (by simp [hbuf])]

/-- A slot without a key that the descriptor may name completes with status 1. -/
theorem keyRun_noKey (f : List Nat → State) (hk : useKey s (keySlot d) = none) :
    keyRun s d false f = keySkip 64 (keyDone s d 1) := by
  rw [keyRun, if_neg (fun h => Bool.false_ne_true h.1), hk]

/-- ENCRYPT and DECRYPT. -/
theorem keyCipher_done (enc : Bool) (hm : keyMode d ≠ 3) (hk : useKey s (keySlot d) = some k) (hl : keyLen d ≤ 65536)
    (h16 : keyMode d = 0 → keyLen d % 16 = 0) (hbuf : keyBufs s d = true) :
    keyCipher s enc d = keySkip 64 (keyDone (countBlocks (dWrite s (keyDst d)
      (cipher enc (keyMode d) k (areaRead s (keyIv d) 16) (areaRead s (keySrc d) (keyLen d)))) ((keyLen d + 15) / 16)) d 0) :=
  keyRun_done _ (fun _ => hm) hk hl (fun _ => h16) hbuf

theorem doKeyCmac_front (h : keyHead s 3 = some d) : doKeyCmac s = keyRun s d false (fun k =>
    countBlocks (dWrite s (keyDst d) (Crypto.cmac k (areaRead s (keySrc d) (keyLen d)))) (cmacBlocks (keyLen d))) := by
  rw [doKeyCmac, h]

theorem doKeyDerive_done {x : List Nat} (h : keyHead s 4 = some d) (hkl : keyKlen d < 2) (hs : 16 ≤ keySlot d)
    (hds : 16 ≤ keyDslot d) (hk : useKey s (keySlot d) = some k) (hl : keyLen d ≤ 65536) (hbuf : keyBufs s d = true)
    (hx : x = areaRead s (keySrc d) (keyLen d)) :
    doKeyDerive s = keySkip 64 (keyDone ((installFw s d (Crypto.derive k (x.takeWhile (fun b => b ≠ 0))
      (x.drop ((x.takeWhile (fun b => b ≠ 0)).length + 1)) (keyBytes d))).bump C.KEY_DERIVES) d 0) := by
  rw [doKeyDerive, h]
  dsimp only
  rw [if_neg (by omega), if_neg (by omega), hk]
  dsimp only
  rw [if_neg (by omega), if_neg (by simp [hbuf]), ← hx]

theorem doKeyLoad_done (h : keyHead s 5 = some d) (hkl : keyKlen d < 2) (hds : 16 ≤ keyDslot d) (hbuf : keyBufs s d = true) :
    doKeyLoad s = keySkip 64 (keyDone (installFw s d (areaRead s (keySrc d) (keyBytes d))) d 0) := by
  rw [doKeyLoad, h]
  dsimp only
  rw [if_neg (by omega), if_neg (by omega), if_neg (by simp [hbuf])]

/-- RANDOM draws where the generator runs, and completes NOENTROPY where it does not. -/
theorem doKeyRandom_draws (h : keyHead s 6 = some d) (hl : keyLen d ≤ 65536) (hbuf : keyBufs s d = true) :
    doKeyRandom s = keySkip 64 (if drbgOk s then
      keyDone ((drawn (dWrite s (keyDst d) (drawBytes s (keyLen d)))).bump C.KEY_RANDOMBYTES (keyLen d)) d 0
      else keyDone s d 4) := by
  rw [doKeyRandom, h]
  dsimp only
  rw [if_neg (by omega), if_neg (by simp [hbuf])]
  cases drbgOk s <;> rfl

theorem doKeyClear_front (h : keyHead s 7 = some d) :
    doKeyClear s = keySkip 64 (if keyDslot d < 16 then keyDone s d 1 else keyDone (clearSlot s (keyDslot d)) d 0) := by
  rw [doKeyClear, h]

end Descriptor

/-! ## The debug unlock (R470) -/

/-- An attempt without the right tag, or outside RISING, counts and is refused. -/
theorem doDebugUnlock_refused {s : State} {tag : List Nat} (ha : awake s = true) (hf : s.key.debugFails < 4)
    (h : s.dev ≠ .rising) :
    (doDebugUnlock tag s).key.debugFails = s.key.debugFails + 1 ∧ (doDebugUnlock tag s).out.head? = some (.debug false) := by
  rw [doDebugUnlock, if_neg (by simp [ha]; omega)]
  dsimp only
  rw [if_neg (fun hc => h hc.1)]
  exact ⟨congrArg Key.debugFails (raise_key ..), rfl⟩

theorem doDebugUnlock_granted {s : State} {tag : List Nat} (hd : s.dev = .rising) (hf : s.key.debugFails < 4)
    (ht : tag = Crypto.cmac s.fuses.dbg (beBytes s.fuses.partNumber 8 ++ drawBytes s 16)) :
    (doDebugUnlock tag s).rd R.KEY_STAT_DEBUG = 1 ∧ (doDebugUnlock tag s).out.head? = some (.debug true) := by
  rw [doDebugUnlock, if_neg (by simp [awake, hd]; omega)]
  dsimp only
  rw [if_pos ⟨hd, ht⟩]
  exact ⟨rd_wr_self .., rfl⟩

/-- Settles O58: each operation's front descriptor is done or completes with its status. -/
theorem keyEngineActs : Obligations.KeyEngineActs := by
  refine ⟨?encrypt, ?decrypt, ?cmac, ?cmacNoKey, ?derive, ?load, ?random, ?randomStopped, ?clear, ?clearRefused, ?take, ?healthFail,
    ?reseed, ?unlockRefused, ?unlock⟩
  case encrypt =>
    intro s d k h hm hk hl h16 hbuf
    refine next_eq (Eq.trans ?_ (keyCipher_done true hm hk hl h16 hbuf))
    rw [doKeyEncrypt, h]
  case decrypt =>
    intro s d k h hm hk hl h16 hbuf
    refine next_eq (Eq.trans ?_ (keyCipher_done false hm hk hl h16 hbuf))
    rw [doKeyDecrypt, h]
  case cmac =>
    intro s d k h hk hl hbuf
    exact next_eq ((doKeyCmac_front h).trans (keyRun_done _ (by simp) hk hl (by simp) hbuf))
  case cmacNoKey =>
    intro s d h hk
    exact next_eq ((doKeyCmac_front h).trans (keyRun_noKey _ hk))
  case derive =>
    intro s d k x h hkl hs hds hk hl hbuf hx
    exact next_eq (doKeyDerive_done h hkl hs hds hk hl hbuf hx)
  case load =>
    intro s d h hkl hds hbuf
    exact next_eq (doKeyLoad_done h hkl hds hbuf)
  case random =>
    intro s d h hl hbuf hok
    exact next_eq ((doKeyRandom_draws h hl hbuf).trans (congrArg _ (if_pos hok)))
  case randomStopped =>
    intro s d h hl hbuf hok
    exact next_eq ((doKeyRandom_draws h hl hbuf).trans (congrArg _ (if_neg (ne_true_of_eq_false hok))))
  case clear =>
    intro s d h hds
    exact next_eq ((doKeyClear_front h).trans (congrArg _ (if_neg (Nat.not_lt.2 hds))))
  case clearRefused =>
    intro s d h hds
    exact next_eq ((doKeyClear_front h).trans (congrArg _ (if_pos hds)))
  case take =>
    intro s ha
    exact ⟨_, next_eq (if_pos ha), rfl⟩
  case healthFail =>
    intro s test ha hok
    refine ⟨_, next_eq (if_pos ⟨ha, hok⟩), ?_⟩
    rw [drbgOk, State.on, rd_raise, rd_wr_self]
    rfl
  case reseed =>
    intro s ha hok
    exact next_eq ((if_pos ha).trans (if_pos hok))
  case unlockRefused =>
    intro s tag ha hf hd
    exact ⟨_, rfl, doDebugUnlock_refused ha hf hd⟩
  case unlock =>
    intro s tag hd hf ht
    exact ⟨_, rfl, doDebugUnlock_granted hd hf ht⟩

end Sys2Proof.Proofs
end

section
/-! PROOFS. The service port: its session, the operations of Table 14.9, and the port itself (R442, R443, R445). -/

namespace Sys2Proof.Proofs

open Sys2Proof Sys2Proof.Machine Sys2Proof.Laws

/-! ## Answers -/

/-- The session's end leaves no session, and what is staged as it was. -/
theorem svcEnd_svc (s : State) (why : Nat) : (svcEnd s why).svc = { s.svc with session := none } := by
  unfold svcEnd
  split
  · next h => rw [← h]
  · dsimp only
    split
    · rw [raise_svc]; rfl
    · rfl

theorem svcEnd_session (s : State) (why : Nat) : (svcEnd s why).svc.session = none := by rw [svcEnd_svc]

/-- An answer concerns the session alone: what is staged stays. -/
theorem svcRespond_staging (s : State) (x : Session) (f : List Nat) (status : Nat) (body : List Nat) :
    (svcRespond s x f status body).svc.staged = s.svc.staged ∧ (svcRespond s x f status body).svc.stageLen = s.svc.stageLen := by
  unfold svcRespond
  dsimp only
  split
  · rw [svcEnd_svc]
    exact ⟨rfl, rfl⟩
  · exact ⟨rfl, rfl⟩

/-! ## Requests -/

section Request

variable {s : State} {x : Session} {op : Nat} {f : List Nat} {action : State → List Nat → State × Nat × List Nat}
  {follows : State → State}

/-- An accepted request acts, is answered, and what follows the answer comes last. -/
theorem svcRequest_answers (h : svcAccepts s x op f) {t : State} {status : Nat} {body : List Nat}
    (ha : action (svcTaken s x f) (svcBody f) = (t, status, body)) :
    svcRequest s op f action follows = follows (svcRespond t { x with lastTime := s.now } f status body) := by
  rw [svcRequest_accepted h, ha]

/-- A request out of sequence is answered SEQUENCE with the last sequence. -/
theorem svcRequest_sequence (hu : svcUp s = true) (hbad : svcBad f = false) (hop : svcOp f = op) (hs : s.svc.session = some x)
    (ho : x.isOpen = true) (ht : svcTag f = Crypto.cmac x.key (f.take (16 + svcLen f))) (h0 : svcSeq f ≠ x.lastSeq)
    (h1 : svcSeq f ≠ x.lastSeq + 1) : svcRequest s op f action follows =
      svcSend (svcTaken s x f) (svcFrame x.key op (svcSeq f) stSequence (beBytes x.lastSeq 4)) := by
  unfold svcRequest
  rw [if_neg (by simp [hu, hbad, hop]), hs]
  dsimp only
  rw [if_neg (by simp [ho]), if_neg (by simp [ht]), if_neg (fun h => h0 h.1), if_pos h1]
  rfl

end Request

/-! ## Opening (R49, R443) -/

theorem svcOpen_halfOpen {s : State} {f k : List Nat} (hl : (svcBody f).length = 20) (hk : roleKey s 3 = some k)
    (hs : s.svc.session = none) (hlock : bit s.dic.locked 4 = false) :
    (svcOpen s f).svc.session.map (fun x => (x.isOpen, x.path)) = some (false, 4) := by
  unfold svcOpen
  dsimp only
  rw [if_neg (by simp [hl]), hk]
  dsimp only
  rw [if_neg (by simp [hs, hlock])]
  rfl

theorem svcProve_opens {s : State} {x : Session} {f : List Nat} (hl : svcLen f = 0)
    (ht : svcTag f = Crypto.cmac x.key (f.take 16)) (hq : svcSeq f = 1) :
    (svcProve s x f).svc.session.map (fun y => (y.isOpen, y.lastSeq)) = some (true, 1) := by
  have hgood : ¬(svcTag f ≠ Crypto.cmac x.key (f.take (16 + svcLen f)) ∨ svcLen f ≠ 0) := by simp [hl, ht]
  unfold svcProve
  dsimp only
  rw [if_neg hgood, if_neg (by simp [hq])]
  show (raise _ _ _).svc.session.map _ = _
  rw [raise_svc]
  rfl

/-! ## The operations of Table 14.9 -/

theorem svcBegin_begins {s : State} {body : List Nat} (hl : body.length = 4) (h0 : beNat body ≠ 0) (hn : beNat body ≤ stagingBytes) :
    ∃ t : State, svcBegin s body = (t, stOk, []) ∧ t.svc.stageLen = beNat body ∧ t.svc.staged = [] := by
  refine ⟨_, (if_neg (by simp [hl])).trans (if_neg (by omega)), ?_⟩
  rw [raise_svc]
  exact ⟨rfl, rfl⟩

theorem stageData_stages {s : State} {body : List Nat} (hl : 4 ≤ body.length) (hr : receiving s = true)
    (ha : beNat (body.take 4) % 256 = 0) (hfit : beNat (body.take 4) + (body.drop 4).length ≤ s.svc.stageLen)
    (hnew : s.svc.staged.any (fun p => decide (p.1 < beNat (body.take 4) + (body.drop 4).length) &&
      decide (beNat (body.take 4) < p.1 + p.2)) = false) :
    ∃ t : State, stageData s body = (t, stOk, []) ∧
      t.svc.staged = s.svc.staged ++ [(beNat (body.take 4), (body.drop 4).length)] := by
  unfold stageData
  dsimp only
  rw [if_neg (by omega), if_neg (by simp [hr]), if_neg (by omega), if_neg (ne_true_of_eq_false hnew)]
  exact ⟨_, rfl, by simp⟩

theorem stageEnd_rejects {s : State} {why part : Nat} (hr : receiving s = true) (hc : imageCheck s (imageBase 2) = some (why, part)) :
    stageEnd s [] = ((stageOver (rejectImage s why part)).wr R.UPD_STAT_STAGING 3, stOk, []) := by
  unfold stageEnd
  dsimp only
  rw [if_neg (by simp), if_neg (by simp [hr]), hc]

theorem stageEnd_commits {s : State} (hr : receiving s = true) (hc : imageCheck s (imageBase 2) = none) :
    stageEnd s [] = (raise ((stageOver (commitAppend s 0x10 0 0 (kle s (imageBase 2 + 16) 4) (imageVersion s (imageBase 2)))).wr
      R.UPD_STAT_STAGING 2) 0x5420 [leNat ((imageVersion s (imageBase 2)).take 4),
        leNat (((imageVersion s (imageBase 2)).drop 4).take 4), leNat (((imageVersion s (imageBase 2)).drop 8).take 4)], stOk, []) := by
  unfold stageEnd
  dsimp only
  rw [if_neg (by simp), if_neg (by simp [hr]), hc]

/-- Settles O57: each operation by `svcRequest_answers`, the session and the port by their own lemmas. -/
theorem servicePortActs : Obligations.ServicePortActs := by
  refine ⟨?opens, ?prove, ?sequence, ?ident, ?begin, ?data, ?endReject, ?endCommit, ?status, ?stud, ?tack, ?evt, ?reset, ?close,
    ?timeout, ?detach, ?attach⟩
  case opens =>
    intro s k f hu hbad hop hl hk hs hlock
    exact ⟨_, next_eq (if_neg (by simp [hu, hbad, hop])), svcOpen_halfOpen hl hk hs hlock⟩
  case prove =>
    intro s x f hu hbad hop hs ho hl ht hq
    refine ⟨svcProve s x f, next_eq ((if_neg (by simp [hu, hbad, hop])).trans ?_), svcProve_opens hl ht hq⟩
    rw [hs]
    exact if_neg (by simp [ho])
  case sequence =>
    intro s x f hu hbad hop hs ho ht h0 h1
    exact next_eq (svcRequest_sequence hu hbad hop hs ho ht h0 h1)
  case ident =>
    intro s x f h hb
    exact next_eq (svcRequest_answers h (if_neg (by simp [hb])))
  case begin =>
    intro s x f n h hl hn h0 hmax
    subst hn
    obtain ⟨t, ht, hlen, hst⟩ := svcBegin_begins (s := svcTaken s x f) hl h0 hmax
    obtain ⟨g1, g2⟩ := svcRespond_staging t { x with lastTime := s.now } f stOk []
    exact ⟨_, next_eq (svcRequest_answers h ht), g2.trans hlen, g1.trans hst⟩
  case data =>
    intro s x f data off u h hu hl hoff hdata hr ha hfit hnew
    subst hu hoff hdata
    obtain ⟨t, ht, hst⟩ := stageData_stages hl hr ha hfit hnew
    exact ⟨_, next_eq (svcRequest_answers h ht), (svcRespond_staging ..).1.trans hst⟩
  case endReject =>
    intro s x f why part u h hu hb hr hc
    subst hu
    exact next_eq (svcRequest_answers h (by rw [hb]; exact stageEnd_rejects hr hc))
  case endCommit =>
    intro s x f u h hu hb hr hc
    subst hu
    exact next_eq (svcRequest_answers h (by rw [hb]; exact stageEnd_commits hr hc))
  case status =>
    intro s x f h hb
    exact next_eq (svcRequest_answers h (if_neg (by simp [hb])))
  case stud =>
    intro s x f copy first n h hl hcopy hfirst hn hc1 hn1 hfit
    subst hcopy hfirst hn
    exact next_eq (svcRequest_answers h ((if_neg (by simp [hl])).trans (if_neg (by omega))))
  case tack =>
    intro s x f off n h hl hoff hn hn1 hfit
    subst hoff hn
    exact next_eq (svcRequest_answers h ((if_neg (by simp [hl])).trans (if_neg (by omega))))
  case evt =>
    intro s x f first n h hl hfirst hn hn1
    subst hfirst hn
    exact next_eq (svcRequest_answers h ((if_neg (by simp [hl])).trans (if_neg (by omega))))
  case reset =>
    intro s x f h hb
    refine next_eq ?_
    unfold doSvcReset
    dsimp only
    rw [hb]
    exact svcRequest_answers h rfl
  case close =>
    intro s x f h hb
    exact ⟨_, next_eq (svcRequest_answers h rfl), svcEnd_session ..⟩
  case timeout =>
    intro s x ha hs ho
    refine ⟨svcEnd s 1, next_eq ?_, svcEnd_session ..⟩
    rw [doSvcSessionTimeout, hs]
    exact if_pos ⟨ha, ho⟩
  case detach =>
    intro s ha
    exact ⟨_, next_eq (if_pos ha), svcEnd_session ..⟩
  case attach =>
    intro s ha he
    have he' : (s.wr R.SVC_STAT_VBUS 1).on R.SVC_CFG_ENABLE = true := by
      rwa [State.on, rd_wr_other _ _ _ _ _ _ _ _ (by decide)]
    refine ⟨_, next_eq ((if_pos ha).trans (if_pos he')), ?_, ?_⟩
    · rw [State.on, rd_wr_other _ _ _ _ _ _ _ _ (by decide), rd_wr_self]
      rfl
    · rw [State.on, rd_wr_self]
      rfl

end Sys2Proof.Proofs
end

section
/-! PROOFS. Writes of fields and words, and GO and the STOP fields of the main road (R59, R60, R64). -/

namespace Sys2Proof.Proofs

open Sys2Proof Sys2Proof.Machine Sys2Proof.Laws

/-! ## Fields at different places (R57) -/

/-- Two fields lie at different byte offsets or start at different bits, so that in no two blocks they are the same. -/
def apart (F : Fld) (i : Nat) (G : Fld) (j : Nat) : Bool :=
  decide (F.offset i < 0x100000) && decide (F.lsb < 32) && decide (G.offset j < 0x100000) && decide (G.lsb < 32) &&
    (decide (F.offset i ≠ G.offset j) || decide (F.lsb ≠ G.lsb))

theorem key_offset {F : Fld} {i : Nat} (ho : F.offset i < 0x100000) (hl : F.lsb < 32) (b : Nat) :
    F.key i b / 32 % 1048576 = F.offset i := by
  simp only [Fld.key, Fld.offset] at *
  omega

theorem key_lsb {F : Fld} (hl : F.lsb < 32) (i b : Nat) : F.key i b % 32 = F.lsb := by
  simp only [Fld.key]
  omega

theorem key_ne_of_apart {F G : Fld} {i j : Nat} (h : apart F i G j = true) (b c : Nat) : F.key i b ≠ G.key j c := by
  simp only [apart, Bool.and_eq_true, Bool.or_eq_true, decide_eq_true_eq] at h
  obtain ⟨⟨⟨⟨ho, hl⟩, ho'⟩, hl'⟩, hne⟩ := h
  intro e
  have hoff : F.offset i = G.offset j := by rw [← key_offset ho hl b, e, key_offset ho' hl']
  have hlsb : F.lsb = G.lsb := by rw [← key_lsb hl i b, e, key_lsb hl']
  exact hne.elim (· hoff) (· hlsb)

/-- A write of one field leaves those at other places, in every block. -/
theorem rd_wr_apart {F G : Fld} {i j : Nat} (h : apart G j F i = true) (s : State) (v b c : Nat) :
    (s.wr F v i b).rd G j c = s.rd G j c :=
  rd_wr_other _ _ _ _ _ _ _ _ (key_ne_of_apart h c b)

theorem on_wr_one (s : State) (F : Fld) (i b : Nat) (h : 0 < F.wid) : (s.wr F 1 i b).on F i b = true := by
  rw [State.on, rd_wr_self, Nat.mod_eq_of_lt (Nat.one_lt_two_pow h.ne')]
  rfl

/-- A field of a block's gate page, the registers that every block has (R58). -/
def onGate (F : Fld) (i : Nat) : Bool := decide (F.offset i < 0x40) && decide (F.lsb < 32)

/-- A field of a block's own registers. -/
def aboveGate (F : Fld) (i : Nat) : Bool := decide (0x40 ≤ F.offset i) && decide (F.offset i < 0x100000) && decide (F.lsb < 32)

theorem apart_of_gate {F G : Fld} {i j : Nat} (hF : onGate F i = true) (hG : aboveGate G j = true) : apart F i G j = true := by
  simp only [onGate, aboveGate, apart, Bool.and_eq_true, Bool.or_eq_true, decide_eq_true_eq] at *
  omega

theorem rd_wr_aboveGate {F G : Fld} {i j : Nat} (hF : onGate F i = true) (hG : aboveGate G j = true) (s : State) (v b c : Nat) :
    (s.wr G v j c).rd F i b = s.rd F i b :=
  rd_wr_apart (apart_of_gate hF hG) ..

/-! ## What a block shows of its work leaves the gate pages -/

section Gate

variable {F : Fld} {i : Nat} (hF : onGate F i = true)

include hF

theorem showMst_gate (s : State) (b : Nat) : (showMst s).rd F i b = s.rd F i b := by
  have fold : ∀ (f : State → Nat → State) (u : State), (∀ v n, (f v n).rd F i b = v.rd F i b) →
      ((List.range 8).foldl f u).rd F i b = u.rd F i b :=
    fun f u h => foldl_keep f (fun v => v.rd F i b) _ u h
  unfold showMst showMstBase
  rw [fold _ _ (fun v n => rd_wr_aboveGate hF (by decide) ..), fold _ _ (fun v n => ?shown)]
  case shown => exact (rd_wr_aboveGate hF (by decide) ..).trans (rd_wr_aboveGate hF (by decide) ..)
  repeat rw [rd_wr_aboveGate hF (by decide)]

theorem showGroups_gate (s : State) (b : Nat) : (showGroups s).rd F i b = s.rd F i b := by
  unfold showGroups
  dsimp only
  split
  · split
    · exact rd_wr_aboveGate hF (by decide) ..
    · rw [rd_raise, rd_wr_aboveGate hF (by decide), rd_wr_aboveGate hF (by decide)]
  · rw [rd_wr_aboveGate hF (by decide), rd_wr_aboveGate hF (by decide)]

theorem startShown_gate (s : State) (n b : Nat) (bad : Bool) : (startShown s n bad).rd F i b = s.rd F i b := by
  unfold startShown
  dsimp only
  split
  · split <;> repeat rw [rd_wr_aboveGate hF (by decide)]
  · split
    · exact rd_wr_aboveGate hF (by decide) ..
    · rfl

end Gate

/-! ## Values outside their limits (R64) -/

/-- What a write hands to its class is a writable field of the word within its limits. -/
theorem mem_wordTaken {s : State} {n off w : Nat} {Fi : Fld × Nat} (h : Fi ∈ wordTaken s n off w) :
    Fi ∈ wordFields n off ∧ Fi.1.writable = true ∧ fieldOk s (homeOf n off) off w Fi.1 Fi.2 = true := by
  have hok : Fi ∈ wordOk s n off w := by
    obtain h | h := List.mem_append.1 h
    · exact List.mem_of_mem_filter h
    · exact List.mem_of_find?_eq_some (Option.mem_toList.1 h)
  obtain ⟨hmem, hfld⟩ := List.mem_filter.1 hok
  exact ⟨hmem, (Bool.and_eq_true ..).mp hfld⟩

/-- Settles O12: the guard of `writeField` comes before the class, and `wordTaken` holds fields within their limits alone. -/
theorem valuesOutOfLimitsAreRefused : Obligations.ValuesOutOfLimitsAreRefused := by
  refine ⟨?limit, ?width, ?word⟩
  case limit =>
    intro s n i v w F hv
    exact if_pos (.inr (by simp [hv]))
  case width =>
    intro s n i v w F hv
    exact if_pos (.inl hv)
  case word =>
    intro s n off w k
    exact ⟨rfl, fun _ => mem_wordTaken⟩

/-! ## The main road (R59) -/

theorem mainRoad_iff {n : Nat} (hn : n < 58) : mainRoad n = true ↔ n = 18 ∨ n = 21 ∨ n = 22 ∨ n = 23 ∨ n = 24 ∨ n = 25 ∨
    (26 ≤ n ∧ n ≤ 29) ∨ (30 ≤ n ∧ n ≤ 33) ∨ 42 ≤ n := by
  simp only [mainRoad, Bool.or_eq_true, Bool.and_eq_true, decide_eq_true_eq]
  omega

theorem stopBlock_refused {s : State} {n : Nat} (hd : s.dev = .serving) (hm : mainRoad n = true) :
    stopBlock s n = (s, stBusy) :=
  if_pos ⟨hd, hm⟩

/-- A field beyond the word of REFUSED lies apart from it. -/
theorem apart_refused {F : Fld} {i : Nat} (ho : 8 < F.offset i) (hw : F.offset i < 0x100000) (hl : F.lsb < 32) :
    apart F i R.BLKSTAT_REFUSED 0 = true := by
  simp only [apart, Bool.and_eq_true, Bool.or_eq_true, decide_eq_true_eq]
  exact ⟨⟨⟨⟨hw, hl⟩, by decide⟩, by decide⟩, .inl fun e => absurd (e ▸ ho) (by decide)⟩

/-- A STOP field of a main-road block that has been started keeps its value outside RISING (R59, log entry 143). -/
theorem takeField_stopKept {s : State} {n i v w : Nat} {F : Fld} (hk : stopKept s n = true) (ha : F.app = .stop) :
    takeField s n F i v w =
      (raise (s.wr R.BLKSTAT_REFUSED 1 0 n) 0x0880 [n, F.offset i, Config.payloadCode 0x0880 w], stBusy) := by
  simp only [takeField, ha, hk, Bool.or_true, if_true]

/-- GO = 1 leaves the mark that the block has been started since its last reset. -/
theorem startBlock_started (s : State) (n : Nat) : (startBlock s n).on R.BLKSTAT_STARTED 0 n = true := by
  have hgo : ((s.wr R.BLKCTRL_GO 1 0 n).wr R.BLKSTAT_STARTED 1 0 n).rd R.BLKSTAT_STARTED 0 n = 1 := rd_wr_self ..
  have h : (startBlock s n).rd R.BLKSTAT_STARTED 0 n = 1 := by
    unfold startBlock
    dsimp only
    split
    · rw [rd_wr_apart (by decide), hgo]
    · split
      · rw [rd_raise, startShown_gate rfl, hgo]
      · split
        · rw [startShown_gate rfl, hgo]
        · split
          · rw [showMst_gate rfl, rd_wr_apart (by decide), startShown_gate rfl, hgo]
          · split
            · rw [showGroups_gate rfl, rd_wr_apart (by decide), startShown_gate rfl, hgo]
            · split
              · rw [recountDirty, rd_wr_aboveGate rfl (by decide), rd_wr_apart (by decide), startShown_gate rfl, hgo]
              · rw [rd_wr_apart (by decide), startShown_gate rfl, hgo]
  rw [State.on, h]
  rfl

/-- Settles O11: `stopBlock` refuses on the main road in SERVING; a STOP field of a started block is refused with REFUSED alone
written, which is another field. -/
theorem mainRoadStaysUp : Obligations.MainRoadStaysUp := by
  refine ⟨?go, fun n => mainRoad_iff, ?stop, fun s n _ _ => startBlock_started s n⟩
  case go =>
    intro s b hd hm
    refine ⟨next_eq ?_, stopBlock_refused hd hm⟩
    rw [doBlockGoWrite, show goWrite s b false = (s, stBusy) from stopBlock_refused hd hm, ite_self]
  case stop =>
    intro s n F i v w hm hd hst ha ho hw hl
    have hk : stopKept s n = true := by simp [stopKept, hm, hd, hst]
    rw [takeField_stopKept hk ha]
    exact ⟨rfl, rfl, (rd_raise ..).trans (rd_wr_apart (apart_refused ho hw hl) ..)⟩

end Sys2Proof.Proofs
end

section
/-! PROOFS. Frames of a ready path: dropped for their tag, refused as a whole, or accepted and answered (R44 to R46, R49 to R53). -/

namespace Sys2Proof.Proofs

open Sys2Proof Sys2Proof.Machine Sys2Proof.Laws

/-- The mask of a list of parts. -/
def partsMask (ps : List StPart) : Nat := ps.foldl (fun m p => m ||| 2 ^ p.bit) 0

/-! ## A frame reaches DIC (R44, R54) -/

theorem kindFrame_ready {k : Nat} {s : State} {path src : Nat} {f : List Nat} (hr : dicReady s path) (hk : frameKind f = k) :
    kindFrame k s path src f = extRun (handleFrame (atFrame s path) path src f) :=
  (if_pos (.inr hk)).trans (frameIn_begins src f hr)

/-- A frame whose handling leaves no load of entries waiting ends with it. -/
theorem kindFrame_handled {k : Nat} {s t : State} {path src : Nat} {f : List Nat} (hr : dicReady s path) (hk : frameKind f = k)
    (ht : handleFrame (atFrame s path) path src f = t) (he : t.dic.extPend = s.dic.extPend) :
    kindFrame k s path src f = t := by
  obtain ⟨-, -, -, -, -, hext⟩ := id hr
  rw [kindFrame_ready hr hk, ht, extRun_idle (he.trans hext)]

/-! ## A tag that fails (R50) -/

/-- A frame of an open session without the session's tag is counted in 0x2002.02 and gets no answer. -/
theorem handleFrame_badTag {s : State} {path src : Nat} {f : List Nat} {x : Session} (hm : malformed f = false)
    (hk : frameKind f ≠ 1) (hx : s.dic.sessions.find? (frameSess f) = some x) (hp : x.path = path) (ho : x.isOpen = true)
    (ht : frameTag f ≠ Crypto.cmac x.key (f.take (12 + frameLen f))) :
    handleFrame s path src f = noAnswer (countFrame (tagBlocks s (12 + frameLen f)) 2) path := by
  unfold handleFrame
  rw [if_neg (ne_true_of_eq_false hm), if_neg hk, hx]
  dsimp only
  rw [if_neg (not_not_intro hp), if_neg (by simp [ho]), if_pos ht]

/-- Settles O15: the frame of each kind ends in the same dropped state, whose parts are those of `s` but for DIC's own. -/
theorem framesWithBadTagsAreDropped : Obligations.FramesWithBadTagsAreDropped := by
  intro s path src f x hr hm hx hp ho ht
  have hdrop : ∀ k, k ≠ 1 → frameKind f = k → kindFrame k s path src f =
      noAnswer (countFrame (tagBlocks (atFrame s path) (12 + frameLen f)) 2) path :=
    fun k h1 hk => kindFrame_handled hr hk (handleFrame_badTag hm (hk ▸ h1) hx hp ho ht) (by rw [noAnswer_dic]; rfl)
  refine ⟨noAnswer (countFrame (tagBlocks (atFrame s path) (12 + frameLen f)) 2) path, fun hk => next_eq (hdrop 5 (by decide) hk),
    fun hk => next_eq (hdrop 6 (by decide) hk), fun hk => next_eq (hdrop 8 (by decide) hk),
    fun hk => next_eq (hdrop 9 (by decide) hk), ?_, ?_, fun p hp => ?_⟩
  · rw [noAnswer_dic]
    rfl
  · rw [ent, noAnswer_dic]
    exact (Sparse.get_ins ..).trans (if_pos rfl)
  · have hsub : Sub (partsMask [.dic, .pci, .ctrs]) (partsMask [.dic, .pci, .ctrs]) := Sub.refl _
    have hat : Keeps (partsMask [.dic, .pci, .ctrs]) s (atFrame s path) := Keeps.dic rfl (Keeps.refl _ s)
    exact (keep_noAnswer (hsub.of rfl) (keep_countFrame (hsub.of rfl) (keep_tagBlocks (hsub.of rfl) hat))).same p
      (testBit_of_maskOutside hp (by decide))

end Sys2Proof.Proofs
end

section
/-! PROOFS. Requests that a session accepts: their items, their answer, and the session they leave (R45 to R47, R49, R51, R53). -/

namespace Sys2Proof.Proofs

open Sys2Proof Sys2Proof.Machine Sys2Proof.Laws

/-! ## An answer leaves (R48) -/

/-- On a path other than the twin's an answer is one output. -/
theorem deliver_out {path : Nat} (hp : path ≠ 3) (s : State) (dst : Nat) (f : List Nat) :
    (deliver s path dst f).out.length = s.out.length + 1 := by
  unfold deliver
  split <;> rfl

theorem modSession_find? (s : State) (n m : Nat) (g : Session → Session) :
    (modSession s n g).dic.sessions.find? m = (s.dic.sessions.find? m).map (fun x => if m = n then g x else x) :=
  find?_mapK s.dic.sessions (fun k x => if k = n then g x else x) m

theorem modSession_find?_self {s : State} {n : Nat} {x : Session} (hx : s.dic.sessions.find? n = some x) (g : Session → Session) :
    (modSession s n g).dic.sessions.find? n = some (g x) := by
  simp [modSession_find?, hx]

/-- The session after its accepted request `(seq, tag)` was answered by `resp`. -/
def answeredSession (x : Session) (seq : Nat) (tag resp : List Nat) : Session :=
  { x with lastSeq := seq, lastTag := tag, lastResp := resp }

/-- An answer that does not end its session: it is kept, counted and sent. -/
theorem respond_kept {s : State} {n kind seq : Nat} {x : Session} (hx : s.dic.sessions.find? n = some x) (hk : kind ≠ 9)
    (hs : seq ≠ 0xFFFFFFFF) (status : Nat) (tag body : List Nat) : ∃ resp, respond s n kind seq status tag body =
      deliver (countFrame (modSession (tagBlocks s (12 + body.length)) n (fun y => answeredSession y seq tag resp)) 1)
        x.path x.src resp := by
  unfold respond
  rw [hx]
  dsimp only
  rw [if_neg hk, if_neg hs]
  exact ⟨_, rfl⟩

/-- What an answer that is kept leaves: the session with the request, one output but on the twin's path. -/
theorem respond_session {s : State} {n kind seq : Nat} {x : Session} (hx : s.dic.sessions.find? n = some x) (hk : kind ≠ 9)
    (hs : seq ≠ 0xFFFFFFFF) (status : Nat) (tag body : List Nat) :
    (∃ resp, (respond s n kind seq status tag body).dic.sessions.find? n = some (answeredSession x seq tag resp)) ∧
      (x.path ≠ 3 → (respond s n kind seq status tag body).out.length = s.out.length + 1) := by
  obtain ⟨resp, e⟩ := respond_kept hx hk hs status tag body
  rw [e, deliver_dic]
  refine ⟨⟨resp, ?_⟩, fun hp => deliver_out hp ..⟩
  exact modSession_find?_self (s := tagBlocks s (12 + body.length)) hx (fun y => answeredSession y seq tag resp)

theorem respond_close (s : State) (n seq status : Nat) (tag body : List Nat) :
    (respond s n 9 seq status tag body).dic.sessions.find? n = none := by
  unfold respond
  split
  · assumption
  · exact (endSession_dic ..).1

theorem respond_keeps {s : State} {n kind seq : Nat} {x : Session} (hx : s.dic.sessions.find? n = some x) (hk : kind ≠ 9)
    (hs : seq ≠ 0xFFFFFFFF) (status : Nat) (tag body : List Nat) :
    Keeps (partsMask [.dic, .pci, .twn, .out, .ctrs]) s (respond s n kind seq status tag body) := by
  obtain ⟨resp, e⟩ := respond_kept hx hk hs status tag body
  rw [e]
  have hsub : Sub (partsMask [.dic, .pci, .twn, .out, .ctrs]) (partsMask [.dic, .pci, .twn, .out, .ctrs]) := Sub.refl _
  exact keep_deliver (hsub.of rfl) (keep_countFrame (hsub.of rfl) (keep_modSession (hsub.of rfl)
    (keep_tagBlocks (hsub.of rfl) (Keeps.refl _ s))))

theorem extRun_respond {s : State} (h : s.dic.extPend = []) (n kind seq status : Nat) (tag body : List Nat) :
    extRun (respond s n kind seq status tag body) = respond s n kind seq status tag body :=
  extRun_idle ((respond_extPend ..).trans h)

/-- The answer to a frame of items is one answer to its request, whatever fits. -/
theorem respondItems_respond (s : State) (o : OpenFrame) :
    ∃ status body, respondItems s o = respond s o.session o.kind o.seq status o.tag body := by
  unfold respondItems
  dsimp only
  split
  · exact ⟨_, _, rfl⟩
  · exact ⟨_, _, rfl⟩

/-! ## The session takes a request (R51) -/

/-- The state in which an accepted request acts: its tag is counted, and the session has its time and source. -/
def requestBegun (s : State) (path src : Nat) (f : List Nat) : State :=
  modSession (tagBlocks (atFrame s path) (12 + frameLen f)) (frameSess f) (fun y => { y with lastTime := s.now, src })

theorem requestBegun_find? {s : State} {path src : Nat} {f : List Nat} {x : Session}
    (hx : s.dic.sessions.find? (frameSess f) = some x) :
    (requestBegun s path src f).dic.sessions.find? (frameSess f) = some { x with lastTime := s.now, src } :=
  modSession_find?_self (s := tagBlocks (atFrame s path) (12 + frameLen f)) hx _

theorem requestBegun_keeps (s : State) (path src : Nat) (f : List Nat) :
    Keeps (partsMask [.dic, .pci, .twn, .out, .ctrs]) s (requestBegun s path src f) := by
  have hsub : Sub (partsMask [.dic, .pci, .twn, .out, .ctrs]) (partsMask [.dic, .pci, .twn, .out, .ctrs]) := Sub.refl _
  exact keep_modSession (hsub.of rfl) (keep_tagBlocks (hsub.of rfl) (Keeps.dic rfl (Keeps.refl _ s)))

section Accepted

variable {s : State} {path k src : Nat} {f : List Nat} {x : Session} (hr : dicReady s path) (ha : accepts s x path k f)

include hr ha

/-- A READ or WRITE frame of the session runs its items. -/
theorem kindFrame_items (hk : k = 5 ∨ k = 6) : kindFrame k s path src f =
    extRun (runItems (requestBegun s path src f) (frameSess f) { x with src } f) := by
  obtain ⟨-, hkind, -, -, -, -, hseq⟩ := id ha
  rw [kindFrame_accept hr ha (by omega), requestFrame_items (x := { x with src }) hseq (hkind ▸ hk)]
  rfl

/-- A KEEPALIVE or CLOSE frame of the session is answered at once. -/
theorem kindFrame_respond (hk : k = 8 ∨ k = 9) : kindFrame k s path src f =
    respond (requestBegun s path src f) (frameSess f) k (frameSeq f) stOk (frameTag f) [] := by
  obtain ⟨-, hkind, -, -, -, -, hseq⟩ := id ha
  obtain ⟨-, -, -, -, -, hext⟩ := id hr
  have hreq : requestFrame (requestBegun s path src f) (frameSess f) { x with src } f =
      respond (requestBegun s path src f) (frameSess f) k (frameSeq f) stOk (frameTag f) [] := by
    unfold requestFrame
    dsimp only
    rw [if_neg (fun h => by omega), if_neg (not_not_intro hseq), hkind, if_neg (by omega), if_pos hk]
  rw [kindFrame_accept hr ha (by omega)]
  change extRun (requestFrame (requestBegun s path src f) (frameSess f) { x with src } f) = _
  rw [hreq]
  exact extRun_respond (s := requestBegun s path src f) hext ..

end Accepted

/-! ## Items (R45, R46) -/

/-- The frame in progress as `runItems` sets it up. -/
def itemsFrame (n k : Nat) (f : List Nat) (items : List Item) : OpenFrame :=
  { session := n, seq := frameSeq f, tag := frameTag f, kind := k, all := decide (k = 6) && bit (frameFlags f) 6, checking := false
    items, answers := [], left := 0 }

theorem runItems_parsed {s : State} {n k : Nat} {x : Session} {f : List Nat} {items : List Item} (hk : frameKind f = k)
    (hp : parseItems (k = 6) 64 (frameBody f) = some items) (h0 : items ≠ []) : runItems s n x f =
      if k = 5 then runRead s (itemsFrame n k f items) x.role (bit (frameFlags f) 5)
      else if decide (k = 6) && bit (frameFlags f) 6 then checkItems s (itemsFrame n k f items) x.role x.path
      else applyItems s (itemsFrame n k f items) x.role x.path := by
  subst hk
  obtain _ | ⟨it, items⟩ := items
  · exact absurd rfl h0
  · unfold runItems
    dsimp only
    rw [hp]
    rfl

/-- A READ of one entry without a handler is answered, from the second banks where it takes a snapshot. -/
theorem runRead_one {s : State} {o : OpenFrame} {it : Item} (ho : o.items = [it]) (hh : handlerOf s it = none) (role : Nat)
    (snap : Bool) : ∃ as, runRead s o role snap = respondItems (if snap then snapBank1 s else s) { o with answers := as } := by
  have hsnap : handlerOf (if snap then snapBank1 s else s) it = none := by cases snap <;> exact hh
  unfold runRead
  dsimp only
  rw [ho]
  generalize (if snap then snapBank1 s else s) = u at hsnap ⊢
  simp only [List.zipIdx_cons, List.zipIdx_nil, List.foldl_cons, List.foldl_nil, hsnap]
  split
  · exact ⟨_, rfl⟩
  · exact ⟨_, rfl⟩

/-- A WRITE of one entry that its check admits, without a handler, is applied and answered. -/
theorem applyItems_one {s : State} {o : OpenFrame} {it : Item} {role : Nat} (ho : o.items = [it]) (hh : handlerOf s it = none)
    (hc : writeCheck s role it = stOk) (path : Nat) : applyItems s o role path =
      respondItems (writeNow s o.session path o.seq it).1
        { o with checking := false, answers := [(0, writeAns it (writeNow s o.session path o.seq it).2)] } := by
  unfold applyItems
  rw [ho]
  simp only [List.zipIdx_cons, List.zipIdx_nil, List.foldl_cons, List.foldl_nil, hh, hc, ne_eq, not_true_eq_false, if_false]
  rfl

/-- What the check of an item of a frame with ALL answers. -/
def itemCheck (s : State) (o : OpenFrame) (role path : Nat) (it : Item) : Nat :=
  if writeCheck s role it ≠ stOk then writeCheck s role it
  else match handlerOf s it with
    | some _ => if fwUp s then stOk else stUnavailable
    | none => (writeNow s o.session path o.seq it).2

/-- The answers of the checks of a frame with ALL, by the items' places. -/
def checkAnswers (s : State) (o : OpenFrame) (role path : Nat) : Sparse ItemAns :=
  (o.items.zip (o.items.map (itemCheck s o role path))).zipIdx.map (fun p => (p.2, writeAns p.1.1 p.1.2))

theorem checkAnswers_failed {s : State} {o : OpenFrame} {role path : Nat} {it : Item} (hit : it ∈ o.items)
    (hc : itemCheck s o role path it ≠ stOk) :
    (checkAnswers s o role path).any (fun e => decide (e.2.status ≠ stOk)) = true := by
  have hmem : (it, itemCheck s o role path it) ∈ o.items.zip (o.items.map (itemCheck s o role path)) := by
    rw [← List.map_prod_left_eq_zip]
    exact List.mem_map_of_mem hit
  obtain ⟨i, hi⟩ := List.getElem?_of_mem hmem
  exact List.any_eq_true.2 ⟨_, List.mem_map_of_mem (List.mk_mem_zipIdx_iff_getElem?.2 hi), decide_eq_true hc⟩

theorem allChecked_failed {s : State} {o : OpenFrame} (h : o.answers.any (fun e => decide (e.2.status ≠ stOk)) = true)
    (role path : Nat) : ∃ as, allChecked role path s o = respondItems s { o with answers := as } :=
  ⟨_, if_pos h⟩

/-- A frame with ALL in which an item fails its check is answered with no item applied. -/
theorem checkItems_failed {s : State} {o : OpenFrame} {role : Nat} {it : Item} (hit : it ∈ o.items) (hc : writeCheck s role it ≠ stOk)
    (path : Nat) : ∃ as, checkItems s o role path = respondItems s { o with checking := true, answers := as } := by
  have hcheck : itemCheck s o role path it ≠ stOk := by rwa [itemCheck, if_pos hc]
  have hall : ¬(o.items.map (itemCheck s o role path)).all (fun st => decide (st = stOk)) = true :=
    fun h => hcheck (of_decide_eq_true (List.all_eq_true.1 h _ (List.mem_map_of_mem hit)))
  have hoffer : checkItems s o role path =
      allChecked role path s { o with answers := checkAnswers s o role path, checking := true } :=
    congrArg (fun hs => offer s { o with answers := checkAnswers s o role path, checking := true } hs (allChecked role path))
      (if_neg hall)
  obtain ⟨as, e⟩ := allChecked_failed (s := s) (o := { o with answers := checkAnswers s o role path, checking := true })
    (checkAnswers_failed hit hcheck) role path
  exact ⟨as, hoffer.trans e⟩

/-- Settles O16: the frame is answered with no item applied (`checkItems_failed`), and what takes and answers it changes DIC and
its carriers alone. -/
theorem allFramesApplyAllOrNone : Obligations.AllFramesApplyAllOrNone := by
  intro s path src f x items it hr ha hall hseq hparse hit hc
  obtain ⟨-, hkind, hx, -⟩ := id ha
  obtain ⟨-, -, -, -, -, hext⟩ := id hr
  obtain ⟨as, hitems⟩ := checkItems_failed (s := requestBegun s path src f) (o := itemsFrame (frameSess f) 6 f items)
    (role := x.role) hit hc x.path
  obtain ⟨status, body, hanswer⟩ := respondItems_respond (requestBegun s path src f)
    { itemsFrame (frameSess f) 6 f items with checking := true, answers := as }
  have hrun : runItems (requestBegun s path src f) (frameSess f) { x with src } f =
      respond (requestBegun s path src f) (frameSess f) 6 (frameSeq f) status (frameTag f) body := by
    rw [runItems_parsed hkind hparse (List.ne_nil_of_mem hit), if_neg (by decide), if_pos (by simp [hall]), hitems, hanswer]
    rfl
  refine ⟨_, next_eq (kindFrame_items hr ha (.inr rfl)), fun p hp => ?_⟩
  rw [hrun, extRun_respond (s := requestBegun s path src f) hext]
  exact ((requestBegun_keeps s path src f).trans (respond_keeps (requestBegun_find? hx) (by decide) hseq ..)).same p
    (testBit_of_maskOutside hp (by decide))

end Sys2Proof.Proofs
end

section
/-! PROOFS. The dictionary's frames: OPEN, PROVE, KEEPALIVE, CLOSE, READ and WRITE (R44 to R46, R49 to R51, R53). -/

namespace Sys2Proof.Proofs

open Sys2Proof Sys2Proof.Machine Sys2Proof.Laws

/-- A session as its manager sees it after a request: open, with the request's sequence and tag and its time. -/
theorem answered_view {o : Option Session} {y : Session} {seq t : Nat} {tag resp : List Nat}
    (h : o = some (answeredSession y seq tag resp)) (hopen : y.isOpen = true) (ht : y.lastTime = t) :
    o.map (fun y => (y.isOpen, y.lastSeq, y.lastTag, y.lastTime)) = some (true, seq, tag, t) := by
  subst h
  simp [answeredSession, hopen, ht]

/-! ## PROVE (R49) -/

/-- The session that a PROVE with the right tag opens. -/
def provedSession (x : Session) (now src : Nat) (tag resp : List Nat) : Session :=
  { x with isOpen := true, lastSeq := 1, lastTag := tag, lastResp := resp, lastTime := now, src, replaces := none }

theorem handleFrame_prove {s : State} {path src : Nat} {f : List Nat} {x : Session} (hm : malformed f = false)
    (hk : frameKind f = 3) (hx : s.dic.sessions.find? (frameSess f) = some x) (hp : x.path = path) (ho : x.isOpen = false) :
    handleFrame s path src f = proveFrame s (frameSess f) x src f := by
  unfold handleFrame
  rw [if_neg (ne_true_of_eq_false hm), if_neg (by omega), hx]
  dsimp only
  rw [if_neg (not_not_intro hp), if_pos (by simp [ho]), if_pos hk]

/-- A PROVE with the right tag, without a body, in sequence, of a session that replaces none. -/
theorem proveFrame_dic {s : State} {n src : Nat} {f : List Nat} {x : Session} (hr : x.replaces = none)
    (ht : frameTag f = Crypto.cmac x.key (f.take (12 + frameLen f))) (hl : frameLen f = 0) (hs : frameSeq f = 1) :
    ∃ resp, (proveFrame s n x src f).dic =
      (modSession s n (fun y => provedSession y s.now src (frameTag f) resp)).dic := by
  refine ⟨sealFrame x.key (frameHead 4 0x80 n 1 4 stOk) (beBytes (ent s (ekey 0x2000 3) 60) 4), ?_⟩
  unfold proveFrame
  dsimp only
  rw [if_neg (by simp [ht, hl]), if_neg (by simp [hs]), hr]
  dsimp only
  rw [deliver_dic, raise_dic]
  rfl

/-! ## READ of one entry (R45, R47) -/

/-- A snapshot that a READ takes first leaves the sessions, what waits and the outputs. -/
theorem snapBank1_frame (snap : Bool) (s : State) :
    (if snap then snapBank1 s else s).dic.sessions = s.dic.sessions ∧
      (if snap then snapBank1 s else s).dic.extPend = s.dic.extPend ∧ (if snap then snapBank1 s else s).out = s.out := by
  cases snap <;> exact ⟨rfl, rfl, rfl⟩

theorem kindFrame_readOne {s : State} {path src : Nat} {f : List Nat} {x : Session} {it : Item} (hr : dicReady s path)
    (ha : accepts s x path 5 f) (hparse : parseItems false 64 (frameBody f) = some [it])
    (hh : handlerOf (requestBegun s path src f) it = none) : ∃ u status body, kindFrame 5 s path src f =
      respond u (frameSess f) 5 (frameSeq f) status (frameTag f) body ∧
        u.dic.sessions = (requestBegun s path src f).dic.sessions ∧ u.out = s.out := by
  obtain ⟨-, hkind, -⟩ := id ha
  obtain ⟨-, -, -, -, -, hext⟩ := id hr
  obtain ⟨hsess, hpend, hout⟩ := snapBank1_frame (bit (frameFlags f) 5) (requestBegun s path src f)
  obtain ⟨as, hrun⟩ := runRead_one (s := requestBegun s path src f) (o := itemsFrame (frameSess f) 5 f [it]) rfl hh x.role
    (bit (frameFlags f) 5)
  obtain ⟨status, body, hanswer⟩ := respondItems_respond
    (if bit (frameFlags f) 5 then snapBank1 (requestBegun s path src f) else requestBegun s path src f)
    { itemsFrame (frameSess f) 5 f [it] with answers := as }
  refine ⟨_, status, body, ?_, hsess, hout⟩
  rw [kindFrame_items hr ha (.inl rfl), runItems_parsed hkind hparse (List.cons_ne_nil _ _), if_pos rfl]
  exact (congrArg extRun (hrun.trans hanswer)).trans (extRun_respond (hpend.trans hext) ..)

/-- Settles O30: what handles the frame is named by its kind; an answer leaves the session by `respond_session`. -/
theorem dictionaryFramesAct : Obligations.DictionaryFramesAct := by
  refine ⟨?opens, ?prove, ?keepalive, ?close, ?read, ?write⟩
  case opens =>
    intro s p src f k hr hm hk hlen hreset hkey hrole hroom hlock
    have hdic := frameIn_open_dic hlen hreset hkey hrole hroom hlock src hr hm hk
    have hopened : handleFrame (atFrame s p) p src f = _ := (handleFrame_opens (atFrame s p) p src hm hk).trans
      (openFrame_challenges (s := atFrame s p) hlen hreset hkey hrole hroom hlock src)
    refine ⟨_, next_eq (kindFrame_handled hr hk hopened (by rw [deliver_dic]; rfl)), ?_, ?_, fun hp => deliver_out hp ..⟩
    · rw [deliver_dic]
      exact congrArg _ ((Sparse.find?_ins ..).trans (if_pos rfl))
    · rw [deliver_dic]
      rfl
  case prove =>
    intro s p src f x hr hm hk hx hp ho hrep ht hl hs
    obtain ⟨resp, hdic⟩ := proveFrame_dic (s := atFrame s p) (n := frameSess f) (src := src) hrep ht hl hs
    refine ⟨_, next_eq (kindFrame_handled hr hk (handleFrame_prove hm hk hx hp ho) (by rw [hdic]; rfl)), ?_⟩
    rw [hdic, modSession_find?_self (s := atFrame s p) hx]
    rfl
  case keepalive =>
    intro s p src f x hr ha hseq
    obtain ⟨-, -, hx, hpath, hopen, -⟩ := id ha
    obtain ⟨⟨resp, hsess⟩, hout⟩ := respond_session (requestBegun_find? (path := p) (src := src) hx) (kind := 8) (by decide) hseq stOk
      (frameTag f) []
    exact ⟨_, next_eq (kindFrame_respond hr ha (.inl rfl)), answered_view hsess hopen rfl, fun hp => hout (by simpa [hpath] using hp)⟩
  case close =>
    intro s p src f x hr ha
    exact ⟨_, next_eq (kindFrame_respond hr ha (.inr rfl)), respond_close ..⟩
  case read =>
    intro s p src f x it u hr ha hseq hparse hu hh
    obtain ⟨-, -, hx, hpath, hopen, -⟩ := id ha
    subst hu
    obtain ⟨u, status, body, e, hsess, hout⟩ := kindFrame_readOne hr ha hparse hh
    obtain ⟨⟨resp, hview⟩, hsent⟩ := respond_session (s := u) (hsess ▸ requestBegun_find? hx) (kind := 5) (by decide) hseq status
      (frameTag f) body
    exact ⟨_, next_eq e, answered_view hview hopen rfl, fun hp => hout ▸ hsent (by simpa [hpath] using hp)⟩
  case write =>
    intro s p src f x it u hr ha hall hparse hu hh hc
    obtain ⟨-, hkind, hx, hpath, -⟩ := id ha
    subst hu
    refine next_eq ((kindFrame_items hr ha (.inr rfl)).trans (congrArg extRun ?_))
    rw [runItems_parsed hkind hparse (List.cons_ne_nil _ _), if_neg (by decide), if_neg (by simp [hall])]
    refine (applyItems_one (o := itemsFrame (frameSess f) 6 f [it]) rfl hh hc _).trans ?_
    simp only [itemsFrame, hall, hpath]
    rfl

end Sys2Proof.Proofs
end

section
/-! PROOFS. Changes of a rail's good, ends of output stretches and commits of the sequence tables (R63, R368, R372, R374, R398). -/

namespace Sys2Proof.Proofs

open Sys2Proof Sys2Proof.Machine Sys2Proof.Laws

theorem rbit_wr_apart {F G : Fld} {i : Nat} (h : apart G 0 F i = true) (s : State) (v b j c : Nat) :
    (s.wr F v i b).rbit G j c = s.rbit G j c := by
  rw [State.rbit, rd_wr_apart h]
  rfl

/-- No step of a table is under way while the sequencer is idle. -/
theorem inStep_idle {s : State} (h : s.rd R.PWR_SEQSTAT_PHASE = 0) {p op : Nat} (hp : p ≠ 0) : ¬inStep s p op = true := by
  simp [inStep, h, hp.symm]

/-! ## Goods of the rails (R368, R372) -/

/-- The filtered fall of a good: both levels are low, the crossing is counted, and the qualified good is gone. -/
def goodFallen (s : State) (r : Nat) : State :=
  ({ s with pwr := { s.pwr with pgRaw := bitClr s.pwr.pgRaw r, pgFilt := bitClr s.pwr.pgFilt r
                                cross := s.pwr.cross.ins r (s.pwr.cross.get r 0 + 1) } } : State).wbit R.PWR_PGSTAT r false

/-- Outside the tables the fall of a good that was not qualified in SERVING is counted alone. -/
theorem railFall_counted {s : State} {r : Nat} (hp : s.rd R.PWR_SEQSTAT_PHASE = 0) (hq : bit s.pwr.servQual r = false) :
    railFall s r = goodFallen s r := by
  have hidle : (goodFallen s r).rd R.PWR_SEQSTAT_PHASE = 0 := (rd_wr_apart (by decide) ..).trans hp
  refine (if_neg ?_).trans ((if_neg ?_).trans (if_neg ?_))
  · exact fun h => inStep_idle hidle (by decide) h.1
  · exact fun h => inStep_idle hidle (by decide) h.1
  · exact fun h => Bool.false_ne_true (hq.symm.trans h.1)

/-- A qualified good shows in PGSTAT, ends the loss of its rail, and counts as qualified in SERVING. -/
def goodQualified (s : State) (r : Nat) : State :=
  (fun t : State => { t with pwr := { t.pwr with servQual := bitSet t.pwr.servQual r } })
    (showBrownOut ((s.wbit R.PWR_PGSTAT r true).wbit R.PWR_LOST r false))

theorem goodQualified_rd {s : State} {r : Nat} {F : Fld} (hb : apart F 0 R.PWR_INSTAT_BROWNOUT 0 = true) :
    (goodQualified s r).rd F = ((s.wbit R.PWR_PGSTAT r true).wbit R.PWR_LOST r false).rd F :=
  rd_wr_apart hb ..

theorem doRailGoodQualified_idle {s : State} {r : Fin 24} (hd : s.dev = .serving) (hg : bit s.pwr.pgFilt r = true)
    (hp : s.rd R.PWR_SEQSTAT_PHASE = 0) : doRailGoodQualified r s = goodQualified s r := by
  have hidle : (goodQualified s r).rd R.PWR_SEQSTAT_PHASE = 0 :=
    (goodQualified_rd (by decide)).trans ((rd_wr_apart (by decide) ..).trans ((rd_wr_apart (by decide) ..).trans hp))
  unfold doRailGoodQualified
  rw [if_pos ⟨by simp [hd], hg⟩]
  dsimp only
  rw [if_pos (show _ = DevState.serving from hd)]
  exact if_neg (fun h => inStep_idle hidle (by decide) h.1)

/-! ## Output stretches (R398) -/

/-- The stretch of output `o` has passed. -/
def stretchPassed (s : State) (o : Nat) : State :=
  { s with rst := { s.rst with stretching := bitClr s.rst.stretching o, stretched := bitSet s.rst.stretched o } }

theorem doResetOutputStretchEnd_auto {s : State} {o : Fin 4} (hs : bit s.rst.stretching o = true) (ha : s.on R.RST_OUT_AUTO o = true)
    (hp : s.rd R.PWR_SEQSTAT_PHASE = 0) :
    doResetOutputStretchEnd o s = (stretchPassed s o).wbit R.RST_OUTSTAT_ASSERTED o false := by
  have hidle : ((stretchPassed s o).wbit R.RST_OUTSTAT_ASSERTED o false).rd R.PWR_SEQSTAT_PHASE = 0 :=
    (rd_wr_apart (by decide) ..).trans hp
  unfold doResetOutputStretchEnd
  rw [if_pos hs]
  simp only [on_rst, ha, if_true]
  exact if_neg (fun h => inStep_idle hidle (by decide) h.1)

/-! ## Commits of the sequence tables (R63, R369, R374) -/

theorem rd_of_some {s : State} {F : Fld} {i b v : Nat} (h : s.rf.val.find? (F.key i b) = some v) : s.rd F i b = v := by
  rw [State.rd, Sparse.get, h]
  rfl

/-- A commit that a bad step refuses: SEQBAD names it, and what was offered is gone. -/
theorem seqCommit_refused {s : State} {b : Nat × Nat × Nat} (h : seqRefusal (Machine.offered s R.PWR_RISE) (Machine.offered s R.PWR_FALL) = some b) :
    seqCommit s = seqReport { s with rf := { s.rf with group := s.rf.group.keep (fun k => keyBlock k ≠ 12) } } (some b) := by
  rw [seqCommit, h]

theorem seqCommit_taken {s : State} (h : seqRefusal (Machine.offered s R.PWR_RISE) (Machine.offered s R.PWR_FALL) = none) : seqCommit s =
    if (releaseGroup (s.wr R.PWR_SEQSTAT_SEQBAD 0) 12 (fun _ => true)).rd R.PWR_SEQSTAT_PHASE = 0 then
      quietPoint (releaseGroup (s.wr R.PWR_SEQSTAT_SEQBAD 0) 12 (fun _ => true)) 12
    else releaseGroup (s.wr R.PWR_SEQSTAT_SEQBAD 0) 12 (fun _ => true) := by
  rw [seqCommit, h]
  rfl

/-- An entry that a commit releases with the sequencer idle comes into force, whether PWR runs or not. -/
theorem releaseGroup_quiet {s : State} {k v : Nat} (hp : s.rd R.PWR_SEQSTAT_PHASE = 0) (hg : Sparse.wf s.rf.group = true)
    (hs : Sparse.wf s.rf.shadow = true) (hb : keyBlock k = 12) (hk : 0x40 ≤ k / 32 % 1048576) (hv : s.rf.group.find? k = some v) :
    (if (releaseGroup s 12 (fun _ => true)).rd R.PWR_SEQSTAT_PHASE = 0 then quietPoint (releaseGroup s 12 (fun _ => true)) 12
      else releaseGroup s 12 (fun _ => true)).rf.val.find? k = some v := by
  have hidle : ∀ t : State, t.rd R.PWR_SEQSTAT_PHASE = 0 → mayTake t k = true := fun t ht => by simp [mayTake, ht]
  cases hr : s.running 12 with
  | true =>
    obtain ⟨hshadow, -, hwf, hval⟩ := releaseGroup_running hr hg hb hv
    have hphase := (rd_of_find? (hval _ (phase_pend 12))).trans hp
    rw [if_pos hphase]
    exact (quietPoint_takes (hwf hs) hshadow (by simp [takenAt, hb]) (hidle _ hphase) hk).1
  | false =>
    obtain ⟨hval, hshadow, -⟩ := releaseGroup_stopped hr hg hs hb hv (hidle s hp) hk
    split
    · rwa [quietPoint_leaves (releaseGroup_shadow_wf hs) hshadow hk]
    · exact hval

theorem releaseGroup_empty {s : State} (h : s.rf.group = []) (n : Nat) (p : Nat → Bool) : releaseGroup s n p = s := by
  simp [releaseGroup, h]

/-- Settles O26: the goods by `railFall_counted` and `doRailGoodQualified_idle`, the commits by `releaseGroup_quiet`. -/
theorem railGoodsAndTablesAct : Obligations.RailGoodsAndTablesAct := by
  refine ⟨?rise, ?fall, ?qualified, ?stretch, ?refused, ?taken, ?none⟩
  case rise =>
    intro s r hd hf
    exact ⟨_, next_eq ((if_neg (by simp [hd, hf])).trans (if_pos rfl)), rfl, rfl, rfl⟩
  case fall =>
    intro s r hd hf hp hq
    refine ⟨_, next_eq ((if_neg (by simp [hd, hf])).trans ((if_neg Bool.false_ne_true).trans (railFall_counted hp hq))), rfl, ?_, rfl⟩
    exact rbit_wbit_self _ _ _ _ _ r.isLt
  case qualified =>
    intro s r hd hf hp
    refine ⟨_, next_eq (doRailGoodQualified_idle hd hf hp), ?_, ?_, rfl⟩
    · rw [State.rbit, goodQualified_rd (by decide)]
      exact (rbit_wr_apart (by decide) ..).trans (rbit_wbit_self _ _ _ _ _ r.isLt)
    · rw [State.rbit, goodQualified_rd (by decide)]
      exact rbit_wbit_self _ _ _ _ _ r.isLt
  case stretch =>
    intro s o hs ha hp
    exact ⟨_, next_eq (doResetOutputStretchEnd_auto hs ha hp), rbit_wbit_self _ _ _ _ _ o.isLt, rfl, rfl⟩
  case refused =>
    intro s b ha hb
    obtain ⟨tab, step, why⟩ := b
    refine ⟨_, next_eq ((if_pos ha).trans (seqCommit_refused hb)), ?_, ?_, ?_, raise_group ..⟩ <;> refine (rd_raise ..).trans ?_
    · exact (rd_wr_apart (by decide) ..).trans ((rd_wr_apart (by decide) ..).trans (rd_wr_self ..))
    · exact (rd_wr_apart (by decide) ..).trans (rd_wr_self ..)
    · exact rd_wr_self ..
  case taken =>
    intro s F i v ha hn hF hp hg hs hv
    have hplace : keyBlock (F.key i 0) = 12 ∧ 0x40 ≤ F.key i 0 / 32 % 1048576 := by
      obtain rfl | rfl := hF <;> simp only [keyBlock, Fld.key, R.PWR_RISE, R.PWR_FALL] <;> omega
    refine ⟨_, next_eq ((if_pos ha).trans (seqCommit_taken hn)), rd_of_some ?_⟩
    exact releaseGroup_quiet ((rd_wr_apart (by decide) ..).trans hp) hg hs hplace.1 hplace.2 hv
  case none =>
    intro s ha hn hg hp
    have hempty : releaseGroup (s.wr R.PWR_SEQSTAT_SEQBAD 0) 12 (fun _ => true) = s.wr R.PWR_SEQSTAT_SEQBAD 0 :=
      releaseGroup_empty (s := s.wr R.PWR_SEQSTAT_SEQBAD 0) hg ..
    refine ⟨_, next_eq ((if_pos ha).trans ((seqCommit_taken hn).trans (if_neg ?_))), ?_⟩
    · rwa [hempty, rd_wr_apart (by decide)]
    · rw [hempty, rd_wr_self]
      rfl

end Sys2Proof.Proofs
end

section
/-! PROOFS. Sessions' timers, handler items, extension entries and snapshots (R38, R42, R49, R50, R53, R68, R74, R76). -/

namespace Sys2Proof.Proofs

open Sys2Proof Sys2Proof.Machine Sys2Proof.Laws

/-! ## What waits for DIC -/

/-- With neither frames nor loads of entries that wait, DIC goes on to nothing. -/
theorem nextFrames_idle {s : State} (hq : s.dic.queue = []) (he : s.dic.extPend = []) : nextFrames s = s := by
  have hrun : runQueue 1 s = s := by
    simp [runQueue, extRun_idle he, hq]
  rw [nextFrames, hq]
  exact hrun

/-! ## Handler items (R42, R76) -/

/-- With further items to answer, an answer takes the oldest off the queue and the frame goes on waiting. -/
theorem handlerAnswered_more {s : State} {h : HItem} {hs : List HItem} {o : OpenFrame} (hq : s.dic.hq = h :: hs)
    (hc : s.dic.cur = some o) (hl : 2 ≤ o.left) (status : Nat) (data : List Nat) : ∃ o', o'.left = o.left - 1 ∧
      (handlerAnswered s status data).dic = { s.dic with hq := hs, cur := some o' } := by
  unfold handlerAnswered
  rw [hq, hc]
  dsimp only
  rw [if_pos (by omega)]
  exact ⟨{ o with answers := _, left := o.left - 1 }, rfl, showHandler_dic ..⟩

theorem hansGo_answered {s : State} {h : HItem} {hs : List HItem} {o : OpenFrame} (hq : s.dic.hq = h :: hs)
    (hc : s.dic.cur = some o) : ∃ data, hansGo s = handlerAnswered s (s.rd R.DIC_HANS_STATUS) data := by
  unfold hansGo
  rw [hq, hc]
  exact ⟨_, rfl⟩

/-! ## Extension entries (R74, R75) -/

/-- What each step of a fold over a state and a value keeps of the state, the fold keeps. -/
theorem foldl_fst_keep {α β γ : Type} (f : State × β → α → State × β) (g : State → γ) (l : List α) (p : State × β)
    (h : ∀ q a, g (f q a).1 = g q.1) : g (l.foldl f p).1 = g p.1 := by
  induction l generalizing p with
  | nil => rfl
  | cons a l ih => exact (ih _).trans (h p a)

/-- A load shows whether it refused a descriptor and how many entries there are, and ends BUSY. -/
theorem extLoad_shown (s : State) : ∃ (u : State) (refused : Nat), u.dic.extPend = s.dic.extPend ∧
    extLoad s = ((u.wr R.DIC_EXTSTAT_REFUSED refused).wr R.DIC_EXTSTAT_LOADED u.dic.ext.length).wr R.DIC_EXTSTAT_BUSY 0 := by
  refine ⟨_, _, ?_, rfl⟩
  refine (foldl_fst_keep _ (fun u => u.dic.extPend) _ (s, false) (fun q k => ?_)).trans rfl
  dsimp only
  split
  · rfl
  · rw [raise_dic]

/-- Between frames what is asked for runs at once, behind what waits. -/
theorem extGo_between {s : State} (hc : s.dic.cur = none) (op : Nat) : extGo s op =
    (s.dic.extPend ++ [op]).foldl (fun t op => if op = 1 then extLoad t else extClear t)
      { extAsk s op with dic := { (extAsk s op).dic with extPend := [] } } := by
  refine if_neg ?_
  show ¬(s.dic.cur.isSome = true ∨ (s.dic.extPend ++ [op]).isEmpty = true)
  simp [hc]

/-- A clear that is asked for between frames comes last of what waits. -/
theorem extGo_clears {s : State} (hc : s.dic.cur = none) : ∃ u, extGo s 2 = extClear u :=
  ⟨_, (extGo_between hc 2).trans (List.foldl_concat ..)⟩

/-- During a frame it waits. -/
theorem extGo_during {s : State} (hc : s.dic.cur.isSome = true) (op : Nat) : extGo s op = extAsk s op :=
  if_pos (.inl hc)

/-! ## Snapshots (R68) -/

theorem foldl_snapBlock_ctr (l : List Nat) (s : State) : (l.foldl snapBlock s).rf.ctr = s.rf.ctr :=
  foldl_keep snapBlock (fun u => u.rf.ctr) l s (fun _ _ => rfl)

/-- Settles O31, command by command. -/
theorem dictionaryServiceActs : Obligations.DictionaryServiceActs := by
  refine ⟨?halfOpen, ?idle, ?lockout, ?answer, ?timeout, ?load, ?clear, ?clearWaits, ?snapshot, ?blockSnapshot, ?deviceSnapshot⟩
  case halfOpen =>
    intro s n x ha hx ho
    refine ⟨endSession s n 1, next_eq ?_, (endSession_dic ..).1⟩
    rw [doHalfOpenExpiry, hx]
    exact if_pos ⟨ha, by simp [ho]⟩
  case idle =>
    intro s n x ha hx ho hq he
    obtain ⟨hgone, hqueue, hpend⟩ := endSession_dic s n 1
    refine ⟨endSession s n 1, next_eq ?_, hgone⟩
    rw [doSessionIdleTimeout, hx]
    exact (if_pos ⟨ha, ho⟩).trans (nextFrames_idle (hqueue.trans hq) (hpend.trans he))
  case lockout =>
    intro s path ha
    exact next_eq (if_pos ha)
  case answer =>
    intro s status len h hs o ha hlen hq hc hl
    obtain ⟨data, hgo⟩ := hansGo_answered (s := (s.wr R.DIC_HANS_STATUS status.toNat).wr R.DIC_HANS_LEN len.toNat) hq hc
    obtain ⟨o', -, hdic⟩ := handlerAnswered_more (s := (s.wr R.DIC_HANS_STATUS status.toNat).wr R.DIC_HANS_LEN len.toNat) hq hc hl
      _ data
    refine ⟨_, next_eq ((if_pos ⟨ha, hlen⟩).trans hgo), ?_⟩
    rw [hdic]
    exact ⟨rfl, rfl⟩
  case timeout =>
    intro s h hs o ha hq hc hl
    obtain ⟨o', hleft, hdic⟩ := handlerAnswered_more hq hc hl stUnavailable []
    refine ⟨_, next_eq (if_pos ha), ?_⟩
    rw [hdic]
    exact ⟨rfl, congrArg some hleft⟩
  case load =>
    intro s ha hc he
    obtain ⟨u, refused, hpend, hload⟩ := extLoad_shown { extAsk s 1 with dic := { (extAsk s 1).dic with extPend := [] } }
    have hgo : extGo s 1 = extLoad { extAsk s 1 with dic := { (extAsk s 1).dic with extPend := [] } } := by
      rw [extGo_between hc, he]
      rfl
    refine ⟨_, next_eq ((if_pos ha).trans (hgo.trans hload)), ?_, rd_wr_self .., hpend⟩
    exact (rd_wr_apart (by decide) ..).trans (rd_wr_self ..)
  case clear =>
    intro s ha hc
    obtain ⟨u, hgo⟩ := extGo_clears hc
    refine ⟨_, next_eq ((if_pos ha).trans hgo), rfl, ?_, rd_wr_self ..⟩
    exact (rd_wr_apart (by decide) ..).trans (rd_wr_self ..)
  case clearWaits =>
    intro s ha hc
    exact ⟨_, next_eq ((if_pos ha).trans (extGo_during hc 2)), rfl, rd_wr_self .., rfl⟩
  case snapshot =>
    intro s ha
    exact ⟨snapAll s, next_eq (if_pos ha), (wr_rfctr ..).trans (foldl_snapBlock_ctr _ s), rd_wr_self ..⟩
  case blockSnapshot =>
    intro s block ha
    exact ⟨_, next_eq (if_pos ha), rd_wr_self .., rfl, rfl⟩
  case deviceSnapshot =>
    intro s ha
    exact ⟨_, next_eq (if_pos ha), rfl, (Sparse.get_ins ..).trans (if_pos rfl), cmdStat_cmdDone ..⟩

end Sys2Proof.Proofs
end

section
/-! PROOFS. The host's doors: the mailbox, power states, the management port, MDIO and MCTP (R48, R52, R76 to R79). -/

namespace Sys2Proof.Proofs

open Sys2Proof Sys2Proof.Machine Sys2Proof.Laws

/-! ## MDIO (R77) -/

/-- The registers of a read of `reg` of the PHY `phy`. -/
def mdioAsked (s : State) (phy reg data : Nat) : State :=
  (((s.wr R.MGT_MDIO_WRITE 0).wr R.MGT_MDIO_PHYAD phy).wr R.MGT_MDIO_REGAD reg).wr R.MGT_MDIO_DATA data

theorem mdioAsked_regs (s : State) (phy reg : BitVec 5) (data : BitVec 16) :
    (mdioAsked s phy.toNat reg.toNat data.toNat).on R.MGT_MDIO_WRITE = false ∧
      (mdioAsked s phy.toNat reg.toNat data.toNat).rd R.MGT_MDIO_PHYAD = phy.toNat ∧
      (mdioAsked s phy.toNat reg.toNat data.toNat).rd R.MGT_MDIO_REGAD = reg.toNat ∧
      (mdioAsked s phy.toNat reg.toNat data.toNat).rd R.MGT_MDIO_DATA = data.toNat := by
  unfold mdioAsked State.on
  simp (disch := decide) only [rd_wr_apart, rd_wr_self]
  exact ⟨rfl, Nat.mod_eq_of_lt phy.isLt, Nat.mod_eq_of_lt reg.isLt, Nat.mod_eq_of_lt data.isLt⟩

/-- A read that finds the bus free starts: BUSY until its time, with what the PHY will answer. -/
theorem mdioRun_read {s : State} {phy reg : BitVec 5} {data : BitVec 16} (hm : s.mdio = none) (rdata : Nat) :
    mdioRun (mdioAsked s phy.toNat reg.toNat data.toNat) rdata =
      ({ (mdioAsked s phy.toNat reg.toNat data.toNat).emit (.mdio false phy.toNat reg.toNat data.toNat) with
        mdio := some (s.now + mdioTime, some rdata) } : State).wr R.MGT_MDIOSTAT_BUSY 1 := by
  obtain ⟨hw, hphy, hreg, hdata⟩ := mdioAsked_regs s phy reg data
  have hfree : (mdioAsked s phy.toNat reg.toNat data.toNat).mdio = none := hm
  unfold mdioRun
  rw [if_neg (by simp [hfree])]
  dsimp only
  rw [hw, hphy, hreg, hdata]
  rfl

/-! ## MCTP (R79) -/

/-- Set Endpoint ID with an identifier that may be assigned takes it. -/
theorem mctpAnswer_setEid (s : State) {op eid : Nat} (ho : op ≤ 1) (h0 : 0 < eid) (h1 : eid < 255) :
    mctpAnswer s 1 [op, eid] = some (s.wr R.MGT_SMB_EID eid, [0, 0, eid, 0]) := by
  refine if_neg ?_
  simp only [List.length_cons, List.length_nil, List.getD_cons_zero, List.getD_cons_succ]
  omega

/-- Settles O33, door by door: the guard is open, and the branch is named by what the door finds. -/
theorem hostDoorsAct : Obligations.HostDoorsAct := by
  refine ⟨?doorbell, ?taken, ?perst, ?d3hot, ?echo, ?disabled, ?mdio, ?mctp⟩
  case doorbell =>
    intro s frame ha hp hb hd
    exact next_eq (if_neg (by simp [ha, hp, hb, hd]))
  case taken =>
    intro s a b r ha hp hn
    refine ⟨_, next_eq ((if_neg (by simp [ha, hp, hn])).trans (if_neg (by simp [hn]))), ?_, rfl, rfl⟩
    exact congrArg (List.drop 1) hn
  case perst =>
    intro s ha
    exact next_eq ((if_neg (by simp [ha])).trans (if_pos rfl))
  case d3hot =>
    intro s ha hp
    exact ⟨_, next_eq (if_pos ⟨ha, by simp [hp]⟩), rd_wr_self ..⟩
  case echo =>
    intro s src ha he hv h0 hall
    exact ⟨_, next_eq ((if_neg (by simp [ha])).trans (if_pos ⟨he, hv, h0, rfl, hall⟩)), rfl, rfl⟩
  case disabled =>
    intro s kind addr src vlan ha he
    exact next_eq ((if_neg (by simp [ha])).trans (if_neg (fun h => Bool.false_ne_true (he.symm.trans h.1))))
  case mdio =>
    intro s phy reg data rdata ha hm
    exact ⟨_, next_eq ((if_pos ha).trans (mdioRun_read hm rdata.toNat)), rfl, rd_wr_self .., rfl⟩
  case mctp =>
    intro s tag op eid ha hs ho h0 h1
    have hcmd : mctpAnswer s (1 : BitVec 8).toNat [op, eid] = some (s.wr R.MGT_SMB_EID eid, [0, 0, eid, 0]) :=
      mctpAnswer_setEid s ho h0 h1
    refine ⟨(s.wr R.MGT_SMB_EID eid).emit (.mctp [0, tag.toNat, 1, 0, 0, eid, 0]), next_eq ?_, ?_, rfl⟩
    · unfold doMctpControlMessage
      rw [if_pos ⟨ha, hs⟩, hcmd]
      rfl
    · exact (rd_wr_self ..).trans (Nat.mod_eq_of_lt (by show eid < 256; omega))

end Sys2Proof.Proofs
end

section
/-! PROOFS. Staging, key loading, links of the host, and the rows that end waits (R77, R188, R189, R259, R309, R346, R365, R452, R460). -/

namespace Sys2Proof.Proofs

open Sys2Proof Sys2Proof.Machine Sys2Proof.Laws

/-- A cancelled staging has no pieces and no length. -/
theorem cancelStaging_svc (s : State) :
    (cancelStaging s).svc.staged = [] ∧ (cancelStaging s).svc.stageLen = 0 := by
  have hshow : ∀ u : State, (showUpdate u).svc = u.svc := fun u => (keep_showUpdate (Sub.refl _) (Keeps.refl _ u)).same .svc rfl
  unfold cancelStaging
  dsimp only
  rw [hshow]
  exact ⟨rfl, rfl⟩

theorem cancelCmd_ends (s : State) : (cancelCmd s).svc.staged = [] ∧
    cmdStat (cancelCmd s) (ekey 0x2C30 9) = { state := 2, code := 0, progress := 0xFFFF } :=
  ⟨(cancelStaging_svc (cmdRun s (ekey 0x2C30 9))).1, cmdStat_cmdDone ..⟩

theorem keyLoad_installs {s : State} {sess : Nat} {x : Session} {kw : List Nat} (hx : s.dic.sessions.find? sess = some x)
    (hkw : slotBytes s 9 = some kw) (ho : x.isOpen = true) (hl : x.keyBlob.length = 32) (h2 : 2 ≤ ent s (ekey 0x2D10 1) 4)
    (h5 : ent s (ekey 0x2D10 1) 4 ≤ 5) (hload : slotLoaded s 9 = true) : keyLoad s sess =
      cmdDone (countBlocks (setWrap (showLoaded (setSlot s (ent s (ekey 0x2D10 1) 4) .aes256
        (Crypto.xorBytes x.keyBlob (loadMask x.key sess x.keySeq)))) (ent s (ekey 0x2D10 1) 4)
        (Crypto.keyWrap kw (Crypto.xorBytes x.keyBlob (loadMask x.key sess x.keySeq)))) 26) (ekey 0x2D10 3) := by
  unfold keyLoad
  dsimp only
  rw [hx, hkw]
  exact if_pos ⟨ho, hl, h2, h5, hload⟩

/-- The link's state, speed and width as PCI_STAT shows them. -/
theorem showPci_up (s : State) {speed width : Nat} (hs : speed ≤ 5) (hw : width ∈ [1, 2, 4, 8, 16]) :
    (showPci s true speed width).rd R.PCI_STAT_LINKUP = 1 ∧ (showPci s true speed width).rd R.PCI_STAT_SPEED = speed ∧
      (showPci s true speed width).rd R.PCI_STAT_WIDTH = width := by
  have hw' : width < 2 ^ 5 := by simp only [List.mem_cons, List.not_mem_nil, or_false] at hw; omega
  unfold showPci
  simp (disch := decide) only [rd_wr_apart, rd_wr_self, if_true]
  exact ⟨rfl, Nat.mod_eq_of_lt (by show speed < 8; omega), Nat.mod_eq_of_lt hw'⟩

/-- A save that waits begins once its path can serve and DRAM is retained (R259, log entry 191). -/
theorem doSavePathReady_begins {s : State} {c : SaveCause} (hw : s.sav.wanted = some c) (hd : s.dev = .rising)
    (hr : s.on R.RST_RETAIN_WARM = true) :
    doSavePathReady s = startSave (setRetain (recountDirty { s with dram := { s.dram with asleep := false } }) true false) c := by
  rw [doSavePathReady, hw]
  exact if_pos ⟨hd, hr⟩

/-- Settles O59, row by row: the guard is open, and what is asked for is what the branch leaves. -/
theorem updateAndOtherActs : Obligations.UpdateAndOtherActs := by
  refine ⟨?cancel, ?cancelCmd, ?keyLoad, ?retire, ?beatA, ?beatB, ?widengap, ?widens, ?pcieUp, ?pcieDown, ?mgtLink, ?rowIdle,
    ?eresmin, ?savePath⟩
  case cancel =>
    intro s ha
    exact ⟨cancelStaging (s.wr R.UPD_CMD_OP 1), next_eq (if_pos ha), cancelStaging_svc _⟩
  case cancelCmd =>
    intro s ha
    exact ⟨cancelCmd s, next_eq (if_pos ha), cancelCmd_ends s⟩
  case keyLoad =>
    intro s sess slot x kw k ha hslot hx hkw ho hl h2 h5 hload hk
    subst hslot hk
    exact next_eq ((if_pos ha).trans (keyLoad_installs hx hkw ho hl h2 h5 hload))
  case retire =>
    intro s sess ch k ha hk hch hr
    subst hk
    exact next_eq ((if_neg (by simp [ha])).trans (if_pos ⟨hch, hr⟩))
  case beatA =>
    intro s hr
    exact ⟨_, next_eq (if_pos hr), on_wr_one _ R.TWN_STATE_HBALIVE 0 0 (by decide)⟩
  case beatB =>
    intro s hr
    exact ⟨_, next_eq (if_pos hr), on_wr_one _ R.TWN_STATE_HBBLIVE 0 0 (by decide)⟩
  case widengap =>
    intro s hv
    exact next_eq (if_pos hv)
  case widens =>
    intro s m hv hw hp hm
    subst hm
    exact ⟨_, next_eq ((if_pos hv).trans (if_pos ⟨hw, hp⟩)), rfl, rfl, rfl⟩
  case pcieUp =>
    intro s speed width ha hp he h1 h5 hw
    exact ⟨_, next_eq ((if_neg (by simp [ha, hp])).trans ((if_pos rfl).trans (if_pos ⟨he, h1, h5, hw⟩))),
      showPci_up s h5 (List.contains_iff_mem.1 hw)⟩
  case pcieDown =>
    intro s speed width ha hp hl
    exact next_eq ((if_neg (by simp [ha, hp])).trans ((if_neg Bool.false_ne_true).trans (if_pos hl)))
  case mgtLink =>
    intro s up full speed ha
    refine ⟨_, next_eq (if_pos ha), ?_⟩
    simp (disch := decide) only [rd_wr_apart, rd_wr_self]
    exact ⟨b2n_mod up, b2n_mod full, Nat.mod_eq_of_lt (by show speed.val < 4; omega)⟩
  case rowIdle =>
    intro s c bank ha
    refine ⟨_, next_eq (if_neg (by simp [ha])), ?_⟩
    simp [drcAt, setDrc]
  case eresmin =>
    intro s ch die ha
    exact ⟨_, next_eq (if_neg (by simp [ha])), (Sparse.find?_del ..).trans (if_pos rfl)⟩
  case savePath =>
    intro s c hw hd hr
    exact ⟨_, next_eq (doSavePathReady_begins hw hd hr), startSave_dev ..⟩

end Sys2Proof.Proofs
end

section
/-! PROOFS. Starts and stops of blocks, and commits of their apply groups (R58 to R60, R63). -/

namespace Sys2Proof.Proofs

open Sys2Proof Sys2Proof.Machine Sys2Proof.Laws

theorem doBlockGoWrite_open {s : State} {block : Fin 58} (ha : awake s = true) (hi : s.on R.BLKSTAT_ISOLATED 0 block = false)
    (go : Bool) : doBlockGoWrite block go s = (goWrite s block go).1 :=
  if_pos ⟨ha, by simp [hi]⟩

/-! ## GO = 1 (R58) -/

/-- GO is set, and the block counts as started since its last reset. -/
def goMarked (s : State) (n : Nat) : State := (s.wr R.BLKCTRL_GO 1 0 n).wr R.BLKSTAT_STARTED 1 0 n

/-- What a block that begins to run shows. -/
def showStarted (u : State) (n : Nat) : State :=
  if 34 ≤ n ∧ n ≤ 41 then showMst u else if n = 23 then showGroups u else if n = 25 then recountDirty u else u

theorem startBlock_running {s : State} {n : Nat} (hr : s.running n = true) :
    startBlock s n = (goMarked s n).wr R.BLKSTAT_STOPPING 0 0 n :=
  if_pos hr

theorem startShown_other {n : Nat} (h25 : n ≠ 25) (h18 : n ≠ 18) (s : State) (bad : Bool) : startShown s n bad = s :=
  (if_neg h25).trans (if_neg h18)

theorem startShown_stf (s : State) (bad : Bool) : startShown s 18 bad = s.wr R.STF_STAT_GEOMBAD (b2n bad) :=
  (if_neg (by decide)).trans (if_pos rfl)

/-- A stopped block whose start checks pass runs, unless a lane holds STF or the log's size holds TWN. -/
theorem startBlock_starts {s : State} {n : Nat} (hr : s.running n = false) (hs : startRefusal s n = none)
    (hstf : n = 18 → s.rd R.XTS_STAT_LANEFAIL = 0) (htwn : n = 24 → logGroups s ≤ s.rd R.TWN_LOGSIZE_LOGSIZE) :
    startBlock s n = showStarted ((startShown (goMarked s n) n false).wr R.BLKSTAT_RUNNING 1 0 n) n := by
  unfold startBlock
  dsimp only
  rw [if_neg (ne_true_of_eq_false hr), hs]
  dsimp only
  refine if_neg ?_
  rintro (⟨rfl, hlane⟩ | ⟨rfl, hlog⟩)
  · rw [startShown_stf, rd_wr_apart (by decide), rd_wr_apart (by decide), rd_wr_apart (by decide)] at hlane
    exact hlane (hstf rfl)
  · rw [startShown_other (by decide) (by decide), logGroups, pext, rd_wr_apart (by decide), rd_wr_apart (by decide),
      rd_wr_apart (by decide), rd_wr_apart (by decide)] at hlog
    exact absurd hlog (Nat.not_lt.2 (htwn rfl))

theorem running_wr_one (s : State) (n : Nat) : (s.wr R.BLKSTAT_RUNNING 1 0 n).running n = true :=
  on_wr_one _ _ _ _ (by decide)

/-! ## GO = 0 (R58, R59) -/

theorem pendShown_rd {F : Fld} {i : Nat} (h : apart F i R.BLKSTAT_SHADOWPEND 0 = true) (s : State) (n b : Nat) :
    (pendShown s n).rd F i b = s.rd F i b := by
  unfold pendShown
  split <;> exact rd_wr_apart h ..

/-- A quiet point at which nothing waits changes no field but SHADOWPEND and QUIETLATE. -/
theorem quietPoint_rd_apart {s : State} (hs : s.rf.shadow = []) {F : Fld} {i : Nat} (hp : apart F i R.BLKSTAT_SHADOWPEND 0 = true)
    (hl : apart F i R.BLKSTAT_QUIETLATE 0 = true) (n b : Nat) : (quietPoint s n).rd F i b = s.rd F i b := by
  unfold quietPoint
  dsimp only
  rw [rd_wr_apart hl, pendShown_rd hp, pendShown_rd hp, hs]
  rfl

/-- A block without ports, jobs or values that wait stops by its quiet point alone, outside a gait change. -/
theorem finishStop_quiet {s : State} {n : Nat} (hg : s.gai.change = none) (hn : n < 26 ∨ 42 ≤ n ∨ 30 ≤ n ∧ n ≤ 33) :
    finishStop s n = quietPoint ((s.wr R.BLKSTAT_RUNNING 0 0 n).wr R.BLKSTAT_STOPPING 0 0 n) n := by
  have hgai : (quietPoint ((s.wr R.BLKSTAT_RUNNING 0 0 n).wr R.BLKSTAT_STOPPING 0 0 n) n).gai.change = none :=
    (congrArg Gai.change ((keep_quietPoint (Sub.refl _) (Keeps.refl _ _)).same .gai rfl)).trans hg
  have htake : ∀ u : State, u.gai.change = none → gaitTake u n = u := fun u h => by rw [gaitTake, h]
  unfold finishStop
  dsimp only
  rw [htake _ hgai, if_neg (by omega), if_neg (by omega)]

/-! ## Commits of apply groups (R63) -/

theorem groupCommit_releases {s : State} {n : Nat} (h12 : n ≠ 12) (h0 : n ≠ 0) (h23 : n ≠ 23) :
    groupCommit s n = releaseGroup s n (fun _ => true) :=
  (if_neg h12).trans ((if_neg h0).trans (if_neg h23))

/-- Only the sequence tables wait for a further condition. -/
theorem mayTake_of_block {k : Nat} (h : keyBlock k ≠ 12) (s : State) : mayTake s k = true :=
  if_neg (fun hk => h hk.1)

end Sys2Proof.Proofs
end

section
/-! PROOFS. Writes of the control space, of words and of single bits, and the configuration check (R57, R60, R65, R69, R70). -/

namespace Sys2Proof.Proofs

open Sys2Proof Sys2Proof.Machine Sys2Proof.Laws

/-! ## One field by its class (R60) -/

theorem takeField_live {F : Fld} (ha : F.app = .live) (s : State) (n i v w : Nat) :
    takeField s n F i v w = (s.wr F v i (copyOf F n), stOk) := by
  simp only [takeField, ha]

theorem takeField_quietNow {s : State} {n i : Nat} {F : Fld} (ha : F.app = .quiet) (hg : F.grp = false)
    (hr : wordRuns s n (F.offset i) = false) (hm : mayTake s (F.key i (copyOf F n)) = true) (v w : Nat) :
    takeField s n F i v w = (s.wr F v i (copyOf F n), stOk) := by
  simp [takeField, ha, hg, hr, hm]

theorem takeField_quietLater {s : State} {n i : Nat} {F : Fld} (ha : F.app = .quiet) (hg : F.grp = false)
    (hr : wordRuns s n (F.offset i) = true) (v w : Nat) :
    takeField s n F i v w = (toShadow s n (F.key i (copyOf F n)) (v % 2 ^ F.wid), stOk) := by
  simp [takeField, ha, hg, hr]

/-- A value that waits is in the shadow, SHADOWPEND shows it, and the value in force stays. -/
theorem toShadow_waits (s : State) (n v : Nat) {F : Fld} {i b : Nat} (hk : 0x40 ≤ F.key i b / 32 % 1048576) :
    (toShadow s n (F.key i b) v).rf.shadow.find? (F.key i b) = some v ∧ (toShadow s n (F.key i b) v).rd F i b = s.rd F i b ∧
      (toShadow s n (F.key i b) v).rd R.BLKSTAT_SHADOWPEND 0 n = 1 :=
  ⟨(Sparse.find?_ins ..).trans (if_pos rfl), rd_wr_other _ _ _ _ _ _ _ _ (pend_key n _ hk), rd_wr_self ..⟩

theorem bits_mod (v lsb wid : Nat) : bits v lsb wid % 2 ^ wid = bits v lsb wid := Nat.mod_mod ..

theorem writeField_takes {s : State} {n i v : Nat} {F : Fld} (hn : homeOf n (F.offset i) = n) (hv : v < 2 ^ F.wid)
    (hl : F.lim.ok v = true) (hf : fieldOk s n (F.offset i) (fieldWord s n (F.offset i) F i v) F i = true) (w : Nat) :
    writeField s n F i v w = takeField s n F i v w := by
  unfold writeField
  dsimp only
  rw [hn, if_neg (by simp [hl, hv]), if_pos hf]

/-! ## Blocks whose words start nothing (R57) -/

/-- The blocks whose words have no action and nothing that follows a write: a write of one is the write of its fields. -/
def plainBlocks : List Nat := [2, 3, 8, 10, 14, 15, 19, 20, 21, 22]

section Plain

variable {n : Nat} (hn : n ∈ plainBlocks)

include hn

theorem plain_homeOf (off : Nat) : homeOf n off = n := by
  simp only [plainBlocks, List.mem_cons, List.not_mem_nil, or_false] at hn
  exact (if_neg (by omega)).trans (if_neg (by omega))

theorem plain_afterWrite (s : State) : afterWrite s n = s := by
  simp only [plainBlocks, List.mem_cons, List.not_mem_nil, or_false] at hn
  exact (if_neg (by omega)).trans (if_neg (by omega))

theorem plain_act (s : State) (off v : Nat) : act s n off v = s := by
  simp only [plainBlocks, List.mem_cons, List.not_mem_nil, or_false] at hn
  unfold act
  dsimp only
  repeat rw [if_neg (by omega)]

theorem plain_blockWrite {off : Nat} (hoff : off ≠ 4) (s : State) (v : Nat) : blockWrite s n off v = (writeWord s n off v 0).1 := by
  have hreg : (regWrite s n off v 0).1 = (writeWord s n off v 0).1 := by
    have h0 : ¬(n = 0 ∧ 0x100 ≤ off) := by
      simp only [plainBlocks, List.mem_cons, List.not_mem_nil, or_false] at hn
      omega
    have h12 : ¬(n = 12 ∧ 0x100 ≤ off ∧ off < 0x160) := by
      simp only [plainBlocks, List.mem_cons, List.not_mem_nil, or_false] at hn
      omega
    unfold regWrite
    dsimp only
    rw [if_neg hoff, if_neg h0, plain_afterWrite hn, if_neg h12, plain_act hn]
    split <;> rfl
  have h1 : n ≠ 1 := by rintro rfl; exact absurd hn (by decide)
  unfold blockWrite
  dsimp only
  rw [if_neg (fun h => h1 h.1), if_neg (fun h => h1 h.1), hreg]

/-- A write that hands one field to its class leaves what the class leaves. -/
theorem plain_blockWrite_one {s : State} {off v i : Nat} {F : Fld} (hoff : off ≠ 4) (ht : wordTaken s n off v = [(F, i)]) :
    blockWrite s n off v = (takeField s n F i (bits v F.lsb F.wid) 0).1 := by
  rw [plain_blockWrite hn hoff, writeWord, ht, plain_homeOf hn]
  rfl

end Plain

/-! ## A core's write (R57, Table 14.1) -/

theorem doControlSpaceWrite_open {s : State} (ha : awake s = true) (hh : s.rst.held = false) (core : Fin 4) (addr : Nat) (v : BitVec 32) :
    doControlSpaceWrite core addr v s = coreWrite s core addr v.toNat :=
  if_pos ⟨ha, by simp [hh]⟩

theorem coreWrite_sram {s : State} {addr : Nat} (h4 : addr % 4 = 0) (h0 : 0x08000000 ≤ addr) (h1 : addr < 0x08400000) (core v : Nat) :
    coreWrite s core addr v = setSram s (activeCluster s) (memWrite (sramOf s (activeCluster s)) (addr - 0x08000000) (leBytes v 4)) :=
  (if_neg (by omega)).trans (if_pos ⟨h0, h1⟩)

/-- A write of a word that a block has, of a block that is not isolated. -/
theorem coreWrite_block {s : State} {addr : Nat} (h4 : addr % 4 = 0) (h0 : 0x40000000 ≤ addr) (h1 : addr < 0x48000000)
    (hm : wordMapped ((addr - 0x40000000) / 0x100000) (addr % 0x100000) = true)
    (hi : s.on R.BLKSTAT_ISOLATED 0 ((addr - 0x40000000) / 0x100000) = false) (core v : Nat) :
    coreWrite s core addr v = blockWrite s ((addr - 0x40000000) / 0x100000) (addr % 0x100000) v := by
  have hwindow : coreWrite s core addr v = windowWrite s core addr v := by
    unfold coreWrite
    rw [if_neg (by omega), if_neg (by omega), if_neg (by omega), if_neg (by omega), if_pos ⟨h0, h1⟩]
  rw [hwindow]
  exact (if_neg (by simp [hm])).trans (if_neg (ne_true_of_eq_false hi))

/-- The same, the address given by block and offset. -/
theorem coreWrite_word {s : State} {n off : Nat} (hn : n < 58) (h4 : off % 4 = 0) (ho : off < 0x100000)
    (hm : wordMapped n off = true) (hi : s.on R.BLKSTAT_ISOLATED 0 n = false) (core v : Nat) :
    coreWrite s core (0x40000000 + 0x100000 * n + off) v = blockWrite s n off v := by
  have hblock : (0x40000000 + 0x100000 * n + off - 0x40000000) / 0x100000 = n := by omega
  have hoff : (0x40000000 + 0x100000 * n + off) % 0x100000 = off := by omega
  have := coreWrite_block (s := s) (addr := 0x40000000 + 0x100000 * n + off) (by omega) (by omega) (by omega)
    (by rwa [hblock, hoff]) (by rwa [hblock]) core v
  rwa [hblock, hoff] at this

/-! ## Bit aliases (R65) -/

theorem doBitAliasWrite_open {s : State} (ha : awake s = true) (hh : s.rst.held = false) (core : Fin 4) (block : Fin 128)
    (off : Fin 4096) (b : Fin 8) (v : Bool) : doBitAliasWrite core block off b v s =
      if !gateWord block (off.val / 4 * 4) then
        raise (fault s core (0x48000000 + block * 0x20000 + (off * 8 + b) * 4)) 0x0900
          [0x48000000 + block * 0x20000 + (off * 8 + b) * 4, core]
      else if s.on R.BLKSTAT_ISOLATED 0 block then fault s core (0x48000000 + block * 0x20000 + (off * 8 + b) * 4)
      else aliasBit s block (off.val / 4 * 4) (8 * (off.val % 4) + b.val) v := by
  have hblock : (0x48000000 + block.val * 0x20000 + (off.val * 8 + b.val) * 4 - 0x48000000) / 0x20000 = block.val := by omega
  have hbit : (0x48000000 + block.val * 0x20000 + (off.val * 8 + b.val) * 4) % 0x20000 / 4 = off.val * 8 + b.val := by omega
  have hv : bit (b2n v) 0 = v := by cases v <;> rfl
  refine (if_pos ⟨ha, by simp [hh]⟩).trans ?_
  unfold aliasWrite
  dsimp only
  rw [hblock, hbit, hv, show (off.val * 8 + b.val) / 32 * 4 = off.val / 4 * 4 by omega,
    show (off.val * 8 + b.val) % 32 = 8 * (off.val % 4) + b.val by omega]

/-- A bit of a writable field is the field's value with that bit, written by the field's class. -/
theorem aliasBit_field {s : State} {n off b i : Nat} {F : Fld} (hf : fieldAt n off b = some (F, i)) (hacc : F.acc = .rw)
    (hoff : off ≠ 4) (h0 : n ≠ 0) (hw : F.writable = true) (v : Bool) : aliasBit s n off b v =
      afterWrite (writeField s n F i (bitPut (aliasBase s F i (copyOf F (homeOf n off))) (b - F.lsb) v) 0).1 n := by
  unfold aliasBit
  rw [hf]
  dsimp only
  rw [if_neg (by simp [hacc]), if_neg hoff, if_neg (fun h => h0 h.1), if_neg (by simp [hw])]

/-! ## The configuration check (R69, R70) -/

theorem foldl_cfgref (l : List Nat) (s : State) (b : Nat) :
    (l.foldl (fun t n => t.wr R.CFGREF_REF (t.rd R.CFGCRC_CRC 0 n) 0 n) s).rd R.CFGREF_REF 0 b =
      if b ∈ l then s.rd R.CFGCRC_CRC 0 b % 2 ^ 32 else s.rd R.CFGREF_REF 0 b := by
  induction l generalizing s with
  | nil => rfl
  | cons n l ih =>
    rw [List.foldl_cons, ih, rd_wr_apart (by decide)]
    by_cases hl : b ∈ l
    · simp [hl]
    · by_cases hn : b = n
      · subst hn
        rw [if_neg hl, if_pos List.mem_cons_self, rd_wr_self]
        rfl
      · have hkey : R.CFGREF_REF.key 0 b ≠ R.CFGREF_REF.key 0 n := by
          simp only [Fld.key, R.CFGREF_REF]
          omega
        rw [if_neg hl, rd_wr_other _ _ _ _ _ _ _ _ hkey, if_neg (by simp [hl, hn])]

end Sys2Proof.Proofs
end

section
/-! PROOFS. What the control space does: GO, commits of groups, words and bits, and the configuration check. -/

namespace Sys2Proof.Proofs

open Sys2Proof Sys2Proof.Machine Sys2Proof.Laws

/-! ## GO = 1 at each kind of block (R58) -/

section Starts

variable {s : State} {block : Fin 58} {n : Nat} (hn : block.val = n) (ha : awake s = true)
  (hi : s.on R.BLKSTAT_ISOLATED 0 n = false)

include hn ha hi

theorem exec_goOn_running (hr : s.running n = true) :
    exec (.blockGoWrite block true) s = .next ((goMarked s n).wr R.BLKSTAT_STOPPING 0 0 n) := by
  subst hn
  exact next_eq ((doBlockGoWrite_open ha hi true).trans (startBlock_running hr))

theorem exec_goOn_starts (hr : s.running n = false) (hs : startRefusal s n = none)
    (hstf : n = 18 → s.rd R.XTS_STAT_LANEFAIL = 0) (htwn : n = 24 → logGroups s ≤ s.rd R.TWN_LOGSIZE_LOGSIZE) :
    exec (.blockGoWrite block true) s =
      .next (showStarted ((startShown (goMarked s n) n false).wr R.BLKSTAT_RUNNING 1 0 n) n) := by
  subst hn
  exact next_eq ((doBlockGoWrite_open ha hi true).trans (startBlock_starts hr hs hstf htwn))

end Starts

theorem showStarted_other {n : Nat} (hm : n < 34 ∨ 42 ≤ n) (h23 : n ≠ 23) (h25 : n ≠ 25) (u : State) : showStarted u n = u :=
  (if_neg (by omega)).trans ((if_neg h23).trans (if_neg h25))

theorem showStarted_mst {n : Nat} (h34 : 34 ≤ n) (h41 : n ≤ 41) (u : State) : showStarted u n = showMst u :=
  if_pos ⟨h34, h41⟩

theorem showStarted_tie (u : State) : showStarted u 23 = showGroups u := (if_neg (by decide)).trans (if_pos rfl)

theorem showStarted_trn (u : State) : showStarted u 25 = recountDirty u :=
  (if_neg (by decide)).trans ((if_neg (by decide)).trans (if_pos rfl))

theorem goMarked_go (s : State) (n : Nat) : (goMarked s n).rd R.BLKCTRL_GO 0 n = 1 :=
  (rd_wr_apart (by decide) ..).trans (rd_wr_self ..)

theorem exec_goOn_twn {s : State} (ha : awake s = true) (hi : s.on R.BLKSTAT_ISOLATED 0 24 = false) (hr : s.running 24 = false)
    (hlog : logGroups s ≤ s.rd R.TWN_LOGSIZE_LOGSIZE) :
    ∃ t, exec (.blockGoWrite 24 true) s = .next t ∧ t.running 24 = true ∧ t.rd R.BLKCTRL_GO 0 24 = 1 := by
  have hexec := exec_goOn_starts (block := 24) (n := 24) rfl ha hi hr rfl (absurd · (by decide)) (fun _ => hlog)
  rw [showStarted_other (by decide) (by decide) (by decide), startShown_other (by decide) (by decide)] at hexec
  exact ⟨_, hexec, running_wr_one .., (rd_wr_apart (by decide) ..).trans (goMarked_go ..)⟩

theorem exec_goOn_stf {s : State} (ha : awake s = true) (hi : s.on R.BLKSTAT_ISOLATED 0 18 = false) (hr : s.running 18 = false)
    (hs : startRefusal s 18 = none) (hlane : s.rd R.XTS_STAT_LANEFAIL = 0) :
    ∃ t, exec (.blockGoWrite 18 true) s = .next t ∧ t.running 18 = true ∧ t.rd R.BLKCTRL_GO 0 18 = 1 ∧
      t.rd R.STF_STAT_GEOMBAD = 0 := by
  have hexec := exec_goOn_starts (block := 18) (n := 18) rfl ha hi hr hs (fun _ => hlane) (absurd · (by decide))
  rw [showStarted_other (by decide) (by decide) (by decide), startShown_stf] at hexec
  refine ⟨_, hexec, running_wr_one .., ?go, ?geometry⟩
  case go => exact (rd_wr_apart (by decide) ..).trans ((rd_wr_apart (by decide) ..).trans (goMarked_go ..))
  case geometry => exact (rd_wr_apart (by decide) ..).trans (rd_wr_self ..)

/-! ## GO = 0 (R58, R59) -/

theorem not_on_of_rd {s : State} {F : Fld} {i b : Nat} (h : s.rd F i b = 0) : s.on F i b = false := by
  rw [State.on, h]
  rfl

section Stops

variable {s : State} {block : Fin 58} (ha : awake s = true) (hi : s.on R.BLKSTAT_ISOLATED 0 block = false)

include ha hi

theorem exec_goOff : exec (.blockGoWrite block false) s = .next (stopBlock s block).1 :=
  next_eq (doBlockGoWrite_open ha hi false)

theorem exec_goOff_drains (hd : s.dev ≠ .serving) (hr : s.running block = true) (hb : blockBusy s block = true) :
    exec (.blockGoWrite block false) s = .next ((s.wr R.BLKCTRL_GO 0 0 block).wr R.BLKSTAT_STOPPING 1 0 block) := by
  rw [exec_goOff ha hi, stopBlock, if_neg (fun h => hd h.1)]
  exact next_eq (if_pos ⟨hr, hb⟩)

theorem exec_goOff_stops (hroad : s.dev ≠ .serving ∨ mainRoad block = false) (hb : blockBusy s block = false)
    (hsh : s.rf.shadow = []) (hg : s.gai.change = none) (hn : block.val < 26 ∨ 42 ≤ block.val ∨ 30 ≤ block.val ∧ block.val ≤ 33) :
    ∃ t, exec (.blockGoWrite block false) s = .next t ∧ t.running block = false ∧ t.rd R.BLKCTRL_GO 0 block = 0 ∧
      t.rd R.BLKSTAT_STOPPING 0 block = 0 := by
  have hopen : ¬(s.dev = .serving ∧ mainRoad block = true) := fun h => hroad.elim (· h.1) (by simp [h.2])
  have hidle : ¬(s.running block = true ∧ blockBusy s block = true) := by simp [hb]
  have hexec := exec_goOff ha hi
  rw [stopBlock, if_neg hopen] at hexec
  dsimp only at hexec
  rw [if_neg hidle, finishStop_quiet (s := s.wr R.BLKCTRL_GO 0 0 block) hg hn] at hexec
  have hempty : (((s.wr R.BLKCTRL_GO 0 0 block).wr R.BLKSTAT_RUNNING 0 0 block).wr R.BLKSTAT_STOPPING 0 0 block).rf.shadow = [] := hsh
  refine ⟨_, hexec, ?running, ?go, ?stopping⟩
  case running =>
    refine not_on_of_rd ?_
    exact (quietPoint_rd_apart hempty (by decide) (by decide) ..).trans ((rd_wr_apart (by decide) ..).trans (rd_wr_self ..))
  case go =>
    exact (quietPoint_rd_apart hempty (by decide) (by decide) ..).trans ((rd_wr_apart (by decide) ..).trans
      ((rd_wr_apart (by decide) ..).trans (rd_wr_self ..)))
  case stopping => exact (quietPoint_rd_apart hempty (by decide) (by decide) ..).trans (rd_wr_self ..)

end Stops

/-! ## Commits of apply groups (R63) -/

section Groups

variable {s : State} {block : Fin 58} (ha : awake s = true) (hi : s.on R.BLKSTAT_ISOLATED 0 block = false)

include ha hi

theorem exec_groupCommit : exec (.groupCommit block) s = .next (groupCommit s block) :=
  next_eq (if_pos ⟨ha, by simp [hi]⟩)

variable (h12 : block.val ≠ 12) (h0 : block.val ≠ 0) (h23 : block.val ≠ 23) (hg : Sparse.wf s.rf.group = true)
  {F : Fld} {i b v : Nat} (hb : keyBlock (F.key i b) = block) (hv : s.rf.group.find? (F.key i b) = some v)

include h12 h0 h23 hg hb hv

theorem exec_groupCommit_running (hr : s.running block = true) : ∃ t, exec (.groupCommit block) s = .next t ∧
    t.rf.shadow.find? (F.key i b) = some v ∧ t.rf.group = s.rf.group.filter (fun e => !decide (keyBlock e.1 = block)) := by
  obtain ⟨hshadow, hgroup, -⟩ := releaseGroup_running hr hg hb hv
  exact ⟨_, (exec_groupCommit ha hi).trans (next_eq (groupCommit_releases h12 h0 h23)), hshadow, hgroup⟩

theorem exec_groupCommit_stopped (hr : s.running block = false) (hs : Sparse.wf s.rf.shadow = true)
    (hk : 0x40 ≤ F.key i b / 32 % 1048576) : ∃ t, exec (.groupCommit block) s = .next t ∧ t.rd F i b = v ∧
    t.rf.group = s.rf.group.filter (fun e => !decide (keyBlock e.1 = block)) := by
  obtain ⟨hval, -, hgroup⟩ := releaseGroup_stopped hr hg hs hb hv (mayTake_of_block (hb ▸ h12) s) hk
  exact ⟨_, (exec_groupCommit ha hi).trans (next_eq (groupCommit_releases h12 h0 h23)), rd_of_some hval, hgroup⟩

end Groups

/-! ## A core's write of a word (R57, R60) -/

section Words

variable {s : State} {core : Fin 4} {n off i : Nat} {v : BitVec 32} {F : Fld} (ha : awake s = true) (hh : s.rst.held = false)
  (h4 : off % 4 = 0) (ho : off < 0x100000) (hn : n ∈ plainBlocks) (hoff : off ≠ 4) (hm : wordMapped n off = true)
  (hi : s.on R.BLKSTAT_ISOLATED 0 n = false) (ht : wordTaken s n off v.toNat = [(F, i)])

include ha hh h4 ho hn hoff hm hi ht

theorem exec_wordWrite : exec (.controlSpaceWrite core (0x40000000 + 0x100000 * n + off) v) s =
    .next (takeField s n F i (bits v.toNat F.lsb F.wid) 0).1 := by
  have hn58 : n < 58 := by
    simp only [plainBlocks, List.mem_cons, List.not_mem_nil, or_false] at hn
    omega
  exact next_eq ((doControlSpaceWrite_open ha hh core _ v).trans ((coreWrite_word hn58 h4 ho hm hi core v.toNat).trans
    (plain_blockWrite_one hn hoff ht)))

theorem exec_wordWrite_now (happ : F.app = .live ∨ F.app = .quiet ∧ F.grp = false ∧ wordRuns s n (F.offset i) = false ∧
    mayTake s (F.key i (copyOf F n)) = true) : ∃ t, exec (.controlSpaceWrite core (0x40000000 + 0x100000 * n + off) v) s = .next t ∧
    t.rd F i (copyOf F n) = bits v.toNat F.lsb F.wid := by
  have htake : takeField s n F i (bits v.toNat F.lsb F.wid) 0 = (s.wr F (bits v.toNat F.lsb F.wid) i (copyOf F n), stOk) := by
    obtain hlive | ⟨hquiet, hgrp, hrun, hmay⟩ := happ
    · exact takeField_live hlive ..
    · exact takeField_quietNow hquiet hgrp hrun hmay ..
  exact ⟨_, (exec_wordWrite ha hh h4 ho hn hoff hm hi ht).trans (next_eq (congrArg Prod.fst htake)),
    (rd_wr_self ..).trans (bits_mod ..)⟩

theorem exec_wordWrite_later (happ : F.app = .quiet) (hgrp : F.grp = false) (hrun : wordRuns s n (F.offset i) = true)
    (hk : 0x40 ≤ F.key i (copyOf F n) / 32 % 1048576) :
    ∃ t, exec (.controlSpaceWrite core (0x40000000 + 0x100000 * n + off) v) s = .next t ∧
      t.rf.shadow.find? (F.key i (copyOf F n)) = some (bits v.toNat F.lsb F.wid) ∧ t.rd F i (copyOf F n) = s.rd F i (copyOf F n) ∧
      t.rd R.BLKSTAT_SHADOWPEND 0 n = 1 := by
  have htake : takeField s n F i (bits v.toNat F.lsb F.wid) 0 =
      (toShadow s n (F.key i (copyOf F n)) (bits v.toNat F.lsb F.wid), stOk) := by
    rw [takeField_quietLater happ hgrp hrun, bits_mod]
  exact ⟨_, (exec_wordWrite ha hh h4 ho hn hoff hm hi ht).trans (next_eq (congrArg Prod.fst htake)), toShadow_waits s n _ hk⟩

end Words

/-! ## A core's write of one bit (R65) -/

section Bits

variable {s : State} {core : Fin 4} {block : Fin 128} {off : Fin 4096} {b : Fin 8} {v : Bool} (ha : awake s = true)
  (hh : s.rst.held = false)

include ha hh

/-- Beyond the last block there is no register: the write faults, and its event changes neither values nor the dictionary. -/
theorem exec_bitAlias_hole (hb : 58 ≤ block.val) : ∃ t, exec (.bitAliasWrite core block off b v) s = .next t ∧ t.rf.val = s.rf.val ∧
    t.dic = s.dic := by
  have hgate : gateWord block (off.val / 4 * 4) = false := by
    rw [gateWord, decide_eq_false (Nat.not_lt.2 hb), Bool.false_and]
  refine ⟨_, next_eq ((doBitAliasWrite_open ha hh core block off b v).trans (if_pos (by rw [hgate]; rfl))), ?values, ?dic⟩
  case values => exact raise_rfval ..
  case dic => exact raise_dic ..

theorem exec_bitAlias_field {i x : Nat} {F : Fld} (hn : block.val ∈ plainBlocks) (hoff : off.val / 4 * 4 ≠ 4)
    (hi : s.on R.BLKSTAT_ISOLATED 0 block = false) (hgate : gateWord block (off.val / 4 * 4) = true)
    (hf : fieldAt block (off.val / 4 * 4) (8 * (off.val % 4) + b.val) = some (F, i)) (hacc : F.acc = .rw) (happ : F.app = .live)
    (ho : F.offset i = off.val / 4 * 4)
    (hx : x = bitPut (aliasBase s F i (copyOf F block)) (8 * (off.val % 4) + b.val - F.lsb) v) (hwid : x < 2 ^ F.wid)
    (hlim : F.lim.ok x = true) (hok : fieldOk s block (off.val / 4 * 4) (fieldWord s block (off.val / 4 * 4) F i x) F i = true) :
    ∃ t, exec (.bitAliasWrite core block off b v) s = .next t ∧ t.rd F i (copyOf F block) = x := by
  have h0 : block.val ≠ 0 := fun h => absurd (h ▸ hn) (by decide)
  have hw : F.writable = true := by simp [Fld.writable, hacc, happ]
  have hbit := aliasBit_field (s := s) hf hacc hoff h0 hw v
  rw [plain_homeOf hn, ← hx, plain_afterWrite hn,
    writeField_takes (plain_homeOf hn _) hwid hlim (by rwa [ho]), takeField_live happ] at hbit
  refine ⟨_, next_eq ((doBitAliasWrite_open ha hh core block off b v).trans ((if_neg (by rw [hgate]; decide)).trans
    ((if_neg (by rw [hi]; decide)).trans hbit))), ?_⟩
  exact (rd_wr_self ..).trans (Nat.mod_eq_of_lt hwid)

end Bits

/-! ## The configuration check (R69, R70) -/

theorem ent_setEnt_self (s : State) (e v d : Nat) : ent (setEnt s e v) e d = v :=
  (Sparse.get_ins ..).trans (if_pos rfl)

theorem exec_configSweep {s : State} (ha : awake s = true) : ∃ t, exec .configSweep s = .next t ∧
    ent t (ekey 0x2010 4) 0 = (ent ((List.range 58).foldl sweepBlock s) (ekey 0x2010 4) 0 + 1) % 2 ^ 32 :=
  ⟨_, next_eq (if_pos ha), ent_setEnt_self ..⟩

theorem exec_configCommit {s : State} (ha : awake s = true) (block : Fin 58) : ∃ t, exec .configCommit s = .next t ∧
    cmdStat t (ekey 0x2010 1) = { state := 2, code := 0, progress := 0xFFFF } ∧
    t.rd R.CFGREF_REF 0 block = s.rd R.CFGCRC_CRC 0 block % 2 ^ 32 := by
  refine ⟨configCommit s, next_eq (if_pos ha), cmdStat_cmdDone .., ?_⟩
  rw [configCommit, cmdDone, rd_setCmd, foldl_cfgref, if_pos (List.mem_range.2 block.isLt), cmdRun, rd_setCmd]

theorem exec_cfgrefWrite {s : State} (ha : awake s = true) (block : Fin 58) (ref : BitVec 32) :
    ∃ t, exec (.cfgrefWrite block ref) s = .next t ∧ t.rd R.CFGREF_REF 0 block = ref.toNat :=
  ⟨_, next_eq (if_pos ha), (rd_wr_self ..).trans (Nat.mod_eq_of_lt ref.isLt)⟩

/-- Settles O32, clause by clause: a start shows what its block shows, a stop passes the quiet point, a group goes to its shadow or
into force, a word and a bit reach their field's class. -/
theorem controlSpaceActs : Obligations.ControlSpaceActs := by
  refine ⟨?start, ?startMst, ?startTie, ?startTrn, ?startTwn, ?startStf, ?again, ?refused, ?drains, ?stops, ?groupWaits,
    ?groupTaken, ?groupSeq, ?groupGait, ?misaligned, ?sram, ?wordNow, ?wordLater, ?word, ?aliasHole, ?aliasBit, ?sweep, ?commit,
    ?reference⟩
  case start =>
    intro s block ha hi hr hs h18 h23 h24 h25 hmst
    have hexec := exec_goOn_starts rfl ha hi hr hs (absurd · h18) (absurd · h24)
    rwa [showStarted_other hmst h23 h25, startShown_other h25 h18] at hexec
  case startMst =>
    intro s block ha hi hr hs h34 h41
    have hexec := exec_goOn_starts rfl ha hi hr hs (by omega) (by omega)
    rwa [showStarted_mst h34 h41, startShown_other (by omega) (by omega)] at hexec
  case startTie =>
    intro s ha hi hr hs
    have hexec := exec_goOn_starts (block := 23) (n := 23) rfl ha hi hr hs (absurd · (by decide)) (absurd · (by decide))
    rwa [showStarted_tie, startShown_other (by decide) (by decide)] at hexec
  case startTrn =>
    intro s ha hi hr hs
    have hexec := exec_goOn_starts (block := 25) (n := 25) rfl ha hi hr hs (absurd · (by decide)) (absurd · (by decide))
    rwa [showStarted_trn] at hexec
  case startTwn => exact fun s ha hi hr hlog => exec_goOn_twn ha hi hr hlog
  case startStf => exact fun s ha hi hr hs hlane => exec_goOn_stf ha hi hr hs hlane
  case again => exact fun s block ha hi hr => exec_goOn_running rfl ha hi hr
  case refused =>
    intro s block hd hi hm
    rw [exec_goOff (by simp [awake, hd]) hi, stopBlock_refused hd hm]
  case drains => exact fun s block ha hi hd hr hb => exec_goOff_drains ha hi hd hr hb
  case stops => exact fun s block ha hi hroad hb hsh hg hn => exec_goOff_stops ha hi hroad hb hsh hg hn
  case groupWaits =>
    intro s block F i b v ha hi h12 h0 h23 hr hg hb hv
    exact exec_groupCommit_running ha hi h12 h0 h23 hg hb hv hr
  case groupTaken =>
    intro s block F i b v ha hi h12 h0 h23 hr hg hs hb hk hv
    exact exec_groupCommit_stopped ha hi h12 h0 h23 hg hb hv hr hs hk
  case groupSeq => exact fun s ha hi => exec_groupCommit (block := 12) ha hi
  case groupGait => exact fun s ha hi => exec_groupCommit (block := 0) ha hi
  case misaligned =>
    intro s core addr v ha hh h4
    exact next_eq ((doControlSpaceWrite_open ha hh core addr v).trans (if_pos h4))
  case sram =>
    intro s core addr v ha hh h4 h0 h1
    exact next_eq ((doControlSpaceWrite_open ha hh core addr v).trans (coreWrite_sram h4 h0 h1 core v.toNat))
  case wordNow =>
    rintro s core _ n off i v F ha hh rfl h4 ho hn hoff hm hi ht happ
    exact exec_wordWrite_now ha hh h4 ho hn hoff hm hi ht happ
  case wordLater =>
    rintro s core _ n off i v F ha hh rfl h4 ho hn hoff hm hi ht happ hgrp hrun - hk
    exact exec_wordWrite_later ha hh h4 ho hn hoff hm hi ht happ hgrp hrun hk
  case word =>
    intro s core addr v ha hh h4 h0 h1 hm hi
    exact next_eq ((doControlSpaceWrite_open ha hh core addr v).trans (coreWrite_block h4 h0 h1 hm hi core v.toNat))
  case aliasHole => exact fun s core block off b v ha hh hb => exec_bitAlias_hole ha hh hb
  case aliasBit =>
    rintro s core block off b v _ i F ha hh rfl hn hoff hi hgate hf hacc happ ho hwid hlim hok
    exact exec_bitAlias_field ha hh hn hoff hi hgate hf hacc happ ho rfl hwid hlim hok
  case sweep => exact fun s ha => exec_configSweep ha
  case commit => exact fun s block ha => exec_configCommit ha block
  case reference => exact fun s block ref ha => exec_cfgrefWrite ha block ref

end Sys2Proof.Proofs
end
